-- ==== Sys2Proof/Word.lean ====
section
/-! DEFINITION. The word types of the part and their plainest arithmetic: 32-bit register words, bytes, 64-bit warp stamps, and the
number that a field of bits holds. -/

namespace Sys2Proof

/-- A register word: 32 bits (R8). -/
abbrev Word := BitVec 32

/-- A byte. -/
abbrev Byte := BitVec 8

/-- A 64-bit warp stamp: [63:24] cycle, [23:12] pick, [11:0] upper bits of the thread ("Angle as time"). -/
abbrev Stamp := BitVec 64

/-- The word that holds the low 32 bits of `n`. -/
def word (n : Nat) : Word := BitVec.ofNat 32 n

/-- The number in the `w` bits of `n` from bit `lo` up. -/
def bitsAt (n lo w : Nat) : Nat := (n >>> lo) % 2 ^ w

/-- The two's complement value of the low `w` bits of `n`. -/
def toSigned (w n : Nat) : Int := if 2 * (n % 2 ^ w) < 2 ^ w then (n % 2 ^ w : Nat) else (n % 2 ^ w : Nat) - (2 ^ w : Nat)

/-- The `w`-bit two's complement pattern of `x`. -/
def ofSigned (w : Nat) (x : Int) : Nat := (x % (2 ^ w : Nat)).toNat

/-- `x` kept within `lo` and `hi`. -/
def clampInt (lo hi x : Int) : Int := if x < lo then lo else if hi < x then hi else x

/-- 1 for true, 0 for false. -/
def bit (b : Bool) : Nat := if b then 1 else 0

/-- Entry `i` of a list, `d` where there is none. -/
def nth {α : Type} (l : List α) (i : Nat) (d : α) : α := l.getD i d

/-- The list with `f` applied to entry `i`. -/
def modAt {α : Type} (l : List α) (i : Nat) (f : α → α) : List α := l.modify i f

end Sys2Proof
end

