-- ==== Sys2Proof/Types.lean ====
section
/-! DEFINITION. The data that commands carry: shuttle frames and their payloads (R40–R42), events, Weave images as the verifying
hardware reads them (R170–R174), the converter map (Table 1-4), and what the sensors and the cell nodes report. -/

namespace Sys2Proof

/-- An event of the F-die: warp stamp, source, FLAGS, CODE and DATA (Table 2-4). -/
structure Event where
  stamp : Stamp
  source : Nat
  flags : Nat
  code : Nat
  data : Word
  deriving DecidableEq, Repr

/-- The payload of a shuttle frame, by type (Tables 2-3 and 2-4). -/
inductive Payload where
  | readReq (addr tag count agent : Nat)
  | readRsp (addr tag status : Nat) (data : List Word)
  | postedWr (addr : Nat) (data : List Word)
  | stagedWr (addr : Nat) (data : List Word)
  | event (e : Event)
  | timeMark (stamp : Stamp) (sec frac trigger mark : Nat)
  | bulk (offset target length xfer : Nat) (data : List Byte)
  | selvFrag (req frag flags length : Nat) (data : List Byte)
  | keepalive (ack bits : Nat)
  deriving DecidableEq, Repr

/-- A frame: its number (sequenced) or the next number of its sender (unsequenced), and its payload (R40). -/
structure Frame where
  seq : Nat
  pay : Payload
  deriving DecidableEq, Repr

/-! ### PCIe requests (R73, R74, R76) -/

/-- A read request: words of BAR0 from a byte offset on, words of BAR2, or the configuration space. -/
inductive PcieRead where
  | bar0 (addr count : Nat)
  | bar2 (count : Nat)
  | config
  deriving DecidableEq, Repr

/-- A configuration write, by what it sets (Table 3-1); where each item stands is the PCIe specification's. -/
inductive CfgItem where
  /-- power state: D3hot or D0 -/
  | power (d3 : Bool)
  /-- MSI-X enable and function mask -/
  | msix (enable mask : Bool)
  /-- maximum payload size and maximum read request size, in bytes -/
  | payload (bytes : Nat)
  | readReq (bytes : Nat)
  /-- ASPM L1 enable; L0s is not supported -/
  | aspm (l1 : Bool)
  /-- uncorrectable error mask and severity, and correctable error mask, of advanced error reporting -/
  | aer (uncMask uncSev corMask : Word)
  /-- initiate a function-level reset -/
  | flr
  deriving DecidableEq, Repr

/-- A write request: words of BAR0 with their byte enables, or a configuration write. Writes of BAR2 have a row of their own. -/
inductive PcieWrite where
  | bar0 (addr : Nat) (words : List (Word × Nat))
  | config (item : CfgItem)
  deriving DecidableEq, Repr

/-! ### Weave images -/

/-- A section of an image (Table 5-9a). -/
structure Section where
  ty : Nat
  cluster : Nat
  offset : Nat
  length : Nat
  load : Nat
  deriving DecidableEq, Repr

/-- A loom heddle entry (Table 5-10). -/
structure Heddle where
  start : Nat
  len : Nat
  /-- 0 = CTRL, 1 = RING, 2 = GATE, 3 = BG -/
  kind : Nat
  haw : Bool
  tx : Bool
  entry : Nat
  cls : Nat
  job : Nat
  deriving DecidableEq, Repr

/-- A sample plan entry (Table 5-10); `count` is the entries in the run. -/
structure SampleEntry where
  thread : Nat
  core : Nat
  first : Nat
  count : Nat
  buf : Nat
  deriving DecidableEq, Repr

/-- A parameter map entry (Table 5-11a). -/
structure ParamEntry where
  word : Nat
  count : Nat
  ty : Nat
  access : Nat
  min : Nat
  max : Nat
  deriving DecidableEq, Repr

/-- A job (Table 5-9b, JOBS). -/
structure Job where
  cluster : Nat
  job : Nat
  entry : Nat
  period : Nat
  deadline : Nat
  worst : Nat
  deriving DecidableEq, Repr

/-- One cell position of the converter map: type (0 = unpopulated, 1 = PV, 2 = storage), spare role, input-loss policy, and the node
serial number that the map names for it. -/
structure CellMap where
  ty : Nat
  spare : Bool
  inloss : Bool
  serial : Nat
  deriving DecidableEq, Repr

/-- The converter map (Table 1-4 and the cell types and roles), voltages in volts, times in µs, inductance in µH. -/
structure ConvMap where
  vll : Nat
  f60 : Bool
  vlink : Nat
  vraise : Nat
  lcouple : Nat
  tbypClose : Nat
  tbypOpen : Nat
  vpriLo : Nat
  vpriHi : Nat
  /-- V_PRI_SET (V) and C_OUT (µF) -/
  vpriSet : Nat
  cout : Nat
  twin : Bool
  unit : Bool
  /-- full scales of the streams IL, IM (amperes), VDC and VOUT (volts) (R264) -/
  fs : List Nat
  /-- the arc threshold in codes of Table 8-11 -/
  arcThr : Nat
  /-- 192 positions by global cell index (R4) -/
  cells : List CellMap
  deriving DecidableEq, Repr

/-- The sections of an image whose byte layout the spec does not give (CONVMAP, SHAREDMAP and JOBS), as the image's bytes hold them: the
converter map, the shared map (first word, count, owner cluster), the jobs, the loom clocks of TELEM-class heddles that JOBS declares per
cluster for 64 consecutive picks (Table 5-3), and for each grid-code region the register values that the register tables take from the image:
(BAR0 address, word).
(DESIGN CHOICE: log entry 64.) -/
structure OpenSections where
  conv : ConvMap
  shared : List (Nat × Nat × Nat)
  jobs : List Job
  telem : List Nat
  regInit : List (List (Nat × Word))
  deriving DecidableEq, Repr

/-- An entry of the ADC sequence: core, entry and the word of Table 13-2. -/
structure AdcSeq where
  core : Nat
  entry : Nat
  word : Nat
  deriving DecidableEq, Repr

/-- A Weave image as the hardware reads it from the bytes of a bank (R170): the header fields of Table 5-8, the hashes of R173 and R174,
and the sections.
(DESIGN CHOICE: log entry 64.) -/
structure Image where
  magic : Nat
  hver : Nat
  hlen : Nat
  ilen : Nat
  twin : Bool
  unit : Bool
  f60 : Bool
  imgid : Nat
  part : Nat
  minstep : Nat
  /-- the hash of the signer's public key, words of bytes 4i to 4i + 3 (R173) -/
  keyHash : List Word
  /-- the words of the signature block, and of the SHA-384 over bytes 0 to ILEN − 161 that its signature covers (R173) -/
  sig : List Word
  signed : List Word
  /-- SHA-384 over bytes 0 to ILEN − 1 (R173), and over bytes 0 to ILEN − 161 with FLAGS.UNIT read as 0 (R174); lowest byte first -/
  hash : Nat
  twinHash : Nat
  pmapH : Nat
  layH : Nat
  cmapH : Nat
  compat : List Nat
  codelen : List Nat
  rxdone : List Nat
  urgmask : Nat
  nsig : Nat
  slackjob : List Nat
  sections : List Section
  /-- loom plans of clusters A, B, C, P -/
  plans : List (List (List Heddle))
  /-- plan number by pick index, per cluster; a shorter list repeats -/
  pickmap : List (List Nat)
  splans : List (List SampleEntry)
  smap : List Nat
  adcseq : List AdcSeq
  /-- PAIRS of the ADCSEQ section -/
  adcPairs : Nat
  pmap : List ParamEntry
  paramdef : List (Nat × Word)
  /-- CODE words that are not 0 per cluster, by word index -/
  code : List (List (Nat × Word))
  /-- initial data memory words that are not 0, per cluster: (byte address, word) -/
  dataInit : List (List (Nat × Word))
  /-- initial angle-table words that are not 0, per cluster -/
  angleInit : List (List (Nat × Word))
  /-- the sections of `OpenSections` -/
  conv : ConvMap
  shared : List (Nat × Nat × Nat)
  jobs : List Job
  telem : List Nat
  regInit : List (Nat × Word)
  deriving DecidableEq, Repr

/-- A sealed configuration record as the ROM reads it (R463): the class of its signer (1 = Usdenor image key, 2 = owner key, 3 = Usdenor
lifecycle key, 0 = another), and its bytes: the body (Table 15-9a) and the signature block. -/
structure SealRecord where
  signer : Nat
  bytes : List Byte
  deriving DecidableEq, Repr

/-- A firmware image as the ROM reads it (R495): the class of its signer, the bytes of its header (Table 17-2), and all its bytes, none
where LEN exceeds the area. -/
structure Firmware where
  signer : Nat
  header : List Byte
  bytes : List Byte
  deriving DecidableEq, Repr

/-! ### What returns on the lanes (chapter 8) -/

/-- A management message (R259): the warp stamp at which its burst leaves, the target hop, the operation, the tag, and the data of bytes
4 to 47. What an operation means belongs to the ZC-12 interface specification. -/
structure Mgmt where
  stamp : Stamp
  hop : Nat
  op : Nat
  tag : Nat
  data : List Byte
  deriving DecidableEq, Repr

/-- What returns for one owned cell: nothing; the 420 bytes of its collect segment (Table 8-8); or, from the twin partner, its reduced
block (R276). `lc` is the loom clock at which the reduction completes (R273). -/
inductive Returned where
  | none
  | raw (lc : Nat) (bytes : List Byte)
  | block (lc : Nat) (words : List Word)
  deriving DecidableEq, Repr

/-- An authentic collect segment (Table 8-8), with the loom clock at which its reduction completes (R273). The streams are 256 codes: IL, IM,
VDC and VOUT, 64 slots each. -/
structure Uplink where
  cell : Nat
  lc : Nat
  flags : Nat
  cause : Nat
  tmax : Nat
  vpri : Nat
  vin : Nat
  iin : Nat
  pxm : Nat
  limchg : Nat
  limdis : Nat
  tbat : Nat
  soc : Nat
  dlseq : Nat
  streams : List Int
  deriving DecidableEq, Repr

/-- A collect burst as it returns: the pick it describes (cycle × 4,096 + pick), whether its END block is intact, its presence bits, the
codewords corrected and uncorrectable, and what returned for each cell that the lane owned in that pick, in rising order of position. -/
structure CollectBurst where
  pick : Nat
  endOk : Bool
  pres : Nat
  cor : Nat
  unc : Nat
  segs : List Returned
  deriving DecidableEq, Repr

/-- A node's answer in its hop slot of a DISCOVER burst (Table 8-12): serial number, type, firmware version, forwarding latency and
input-to-input delay in 0.1 ns. -/
structure HopAnswer where
  serial : Nat
  ty : Nat
  fwv : Nat
  fwd : Nat
  fib : Nat
  deriving DecidableEq, Repr

/-- A DISCOVER burst as it returns: the answers by hop, the loop delay and its fibre part in 0.1 ns, and the codewords corrected and
uncorrectable. -/
structure Discover where
  hops : List HopAnswer
  total : Nat
  fibre : Nat
  cor : Nat
  unc : Nat
  deriving DecidableEq, Repr

/-- A change of ownership as a twin burst announces it (R272): the cell, 0xFF = every cell of the phase; the phase, the new owner's direction;
whether it is the return to the default. -/
structure OwnChange where
  cell : Nat
  phase : Nat
  dir : Nat
  back : Bool
  deriving DecidableEq, Repr

/-- A twin burst as it arrives (R276): the pick it describes, whether the END block came intact on T_0 and on T_1, the YIELD and OWNCHG
flags, the announced changes, the CRC-64 of the records, the partner's armed switch as it reports it and those that a
CANCEL has cancelled in that pick (twin hash and cycle; R181), and the codewords corrected and uncorrectable on T_0 and on T_1. -/
structure TwinBurst where
  pick : Nat
  ok0 : Bool
  ok1 : Bool
  yield : Bool
  ownChg : List OwnChange
  crc : Nat
  armed : Option (Nat × Nat)
  cancelled : List (Nat × Nat)
  cor : Nat × Nat
  unc : Nat × Nat
  deriving DecidableEq, Repr

/-- The warp and its steering as one twin unit gives them to the other (R526, Table 8-15): the accumulator and INC, the INC committed and not
in force, the steering state with LOCK, the control offset, the frequencies that FLYWHEEL and a hold go back to, the picks for which the
conditions of LOCK have held, and whether a hold is in force (R125–R130). -/
structure WarpCopy where
  acc : BitVec 96
  inc : Nat
  incNext : Option Nat
  state : Nat
  lock : Bool
  delta : Rat
  fHold : Rat
  fLast : Option Rat
  fBefore : Option Rat
  lockRun : Nat
  hold : Bool
  deriving DecidableEq, Repr

/-- What a twin handshake finds (Table 8-15, R526): the partner's twin hash and unit number, whether it runs and accepts, the warp it gives to
a unit that starts with it, and the twin key that the two identities agree (R276). -/
structure TwinPeer where
  hash : Nat
  unit : Nat
  running : Bool
  accept : Bool
  warp : WarpCopy
  key : List Byte
  deriving DecidableEq, Repr

/-- One cluster's state in the transfer to a joining unit (Table 7-3): registers, accumulators, data memory, angle tables, and the words of
the ring and ADC result buffers that are not 0. -/
structure ClusterCopy where
  g : List (BitVec 32)
  p : List Bool
  a : List (BitVec 72)
  dm : List (Nat × BitVec 32)
  at' : List (Nat × BitVec 32)
  ringBuf : List (Nat × BitVec 32)
  adcBuf : List (Nat × BitVec 32)
  deriving DecidableEq, Repr

/-- What the running unit copies to a joining unit (Table 8-15): the clusters A, B, C, P, shared state and parameters, the warp and its
steering, the downlink images (PXFER, INREF, VSET, CTL bits), the duties of the edge generator's shadow with its next boundary, and the pick in which the image began. -/
structure TwinCopy where
  clusters : List ClusterCopy
  shared : List (Nat × BitVec 32)
  params : List (Nat × BitVec 32)
  warp : WarpCopy
  dl : List (Nat × Nat × Nat × Nat)
  duties : List (Nat × Nat)
  nextB : Nat
  began : Nat
  deriving DecidableEq, Repr

/-! ### Loom operations (Table 6-3, Tables 6-4 to 6-8) -/

/-- The operation names of the slots. `endm` is the END marker, `undef` a word whose OP or F code no table defines. -/
inductive OpName where
  | add | sub | addi | and | or | xor | andn | shl | shr | sar | shli | shri | sari | min | max | sel | li | lih | cmp
  | qadd | qsub | qabs | qmul | qmac | qmsb | qmz | acr | acw
  | fadd | fsub | fmul | fma | fmin | fmax | fneg | fabs | fcmp | fcvt | frcp | frsq
  | ldw | ldd | stw | std | ldx | stx | lda | ldaw | sta | lds | ldp | ldr | ldb
  | bra | bri | call | ret | loopi | loopr | crd | cwr | cwi | jend | endm
  | rece | recr | recs | recv | undef | nop
  deriving DecidableEq, Repr

/-- A slot word: the slot it stands in (word 0-7) and its fields (Table 6-3). -/
structure SlotWord where
  slot : Nat
  pn : Bool
  pr : Nat
  d : Nat
  a : Nat
  b : Nat
  f : Nat
  deriving DecidableEq, Repr

/-- How a slot word comes to issue: whether it is the last word of its bundle, and what the checks find (0 = good, 1 = a corrected error,
2 = an uncorrectable error) in each of the four codewords of the bundle while it is fetched and in each word that its load reads, and in
parity (`some` SUB of cause 0x6). A list that is shorter says that the rest is good.
(DESIGN CHOICE: log entry 11.) -/
structure Iss where
  last : Bool
  fetchEcc : List Nat
  dataEcc : List Nat
  parity : Option Nat
  deriving DecidableEq, Repr

/-- One operation of a bundle under construction. -/
structure SlotOp where
  op : OpName
  w : SlotWord
  dataEcc : List Nat
  deriving DecidableEq, Repr

end Sys2Proof
end

