-- ==== Sys2Proof/Syntax.lean ====
section
/-! DEFINITION. The commands of the block: one constructor for every row of spec/opcode_table.json, with the operands the step needs:
addresses, values and lengths, and what the part senses at that step. The docstring gives the row and the rule that governs it. -/

namespace Sys2Proof

/-- A command of the block. -/
inductive Instr where
  /-- `H_SUPPLY_IN_RANGE` (R518): VDD_CORE_H and VDD_IO_H enter range and the H-die reset hold begins. -/
  | hSupplyInRange
  /-- `H_DIE_RESET_RELEASE` (R518): The H supplies have held in range for 5 ms; the H-die leaves reset and the ROM boots. -/
  | hDieResetRelease
  /-- `H_FIRMWARE_START` (R520): The H-die firmware starts running, verifies the sealed record, reads the seal and self-tests the safety block. -/
  | hFirmwareStart
  /-- `H_DIE_RESET` (R36): The H-die is reset or VDD_CORE_H falls below threshold; the D-die drives all gates low and the permit ends. -/
  | hDieReset
  /-- `PCIE_RESET` (R519): The host asserts or deasserts PERST_N and the endpoint trains without firmware. -/
  | pcieReset (asserted : Bool)
  /-- `F_SUPPLY_IN_RANGE` (R522): Every F-die supply enters its range and the 2 ms reset hold begins. -/
  | fSupplyInRange
  /-- `F_DIE_RESET_RELEASE` (R522): The F-die leaves reset; the shuttle handshake and PLL ramp start. -/
  | fDieResetRelease
  /-- `F_SUPPLY_LOSS` (R542): The F side loses power; the F-die resets and GRID_OPEN goes undriven. -/
  | fSupplyLoss
  /-- `PLL_STEP` (R432): A ramp step's dwell expires after lock detection and N rises by one. -/
  | pllStep
  /-- `PLL_STEP_TIMEOUT` (R433): A ramp step misses its in-window cycles within dwell plus 100 us; the ramp fails and restarts or gives up. -/
  | pllStepTimeout
  /-- `PLL_LOCK` (R433): The phase error holds for 1,024 cycles at N = 48; LOCK is set and the loom clock enabled. -/
  | pllLock
  /-- `PLL_UNLOCK` (R435): The system or protection PLL loses lock; the F-die blocks, asserts GRID_OPEN and gates the loom clock. -/
  | pllUnlock (prot : Bool)
  /-- `REFCLK_H_LOSS` (R436): REFCLK_H is missing or off frequency for 10 us and the H-die resets. -/
  | refclkHLoss
  /-- `LANE_PLL_LOSS` (R437): A lane PLL loses lock, treated as loss of receiver lock for that lane. -/
  | lanePllLoss (lane : Nat)
  /-- `SHUTTLE_PLL_LOSS` (R437): A shuttle PLL loses lock and both channels of that side leave service. -/
  | shuttlePllLoss (fside : Bool)
  /-- `READ_REQ` (R49): The F-die receives a register read request and reads the words in a host-access window. -/
  | readReq (ch : Nat) (seq : Nat) (addr : Nat) (tag : Nat) (count : Nat) (agent : Nat)
  /-- `READ_RSP` (R55): The H-die receives a read response and completes the host read. -/
  | readRsp (ch : Nat) (seq : Nat) (addr : Nat) (tag : Nat) (status : Nat) (data : List Word)
  /-- `POSTED_WR` (R82): The F-die receives a posted register write, taken in a host-access window. -/
  | postedWr (ch : Nat) (seq : Nat) (addr : Nat) (data : List Word)
  /-- `STAGED_WR` (R89): The F-die receives a staged write, which arrives and waits for the next GATE heddle. -/
  | stagedWr (ch : Nat) (seq : Nat) (addr : Nat) (data : List Word)
  /-- `EVENT` (R108): The H-die receives an EVENT frame, journals it and updates the interrupt source. -/
  | event (ch : Nat) (seq : Nat) (e : Event)
  /-- `TIME_MARK` (R59): A time mark arrives and the receiver latches its own time. -/
  | timeMark (toH : Bool) (ch : Nat) (next : Nat) (stamp : Stamp) (sec : Nat) (frac : Nat) (trigger : Nat) (mark : Nat) (lc : Nat) (dt : Nat)
  /-- `BULK` (R175): The F-die receives an image segment for a Weave bank or firmware standby area. -/
  | bulk (ch : Nat) (seq : Nat) (offset : Nat) (target : Nat) (length : Nat) (xfer : Nat) (data : List Byte)
  /-- `SELV_FRAG` (R111): The H-die receives a selvedge fragment of the F-die share. -/
  | selvFrag (ch : Nat) (seq : Nat) (req : Nat) (frag : Nat) (flags : Nat) (length : Nat) (data : List Byte)
  /-- `KEEPALIVE` (R46): A KEEPALIVE arrives carrying ACK, replay request and status bits. -/
  | keepalive (toH : Bool) (ch : Nat) (next : Nat) (ack : Nat) (bits : Nat)
  /-- `CORRUPT_FRAME` (R41): A frame fails CRC, type or SEQD checks and is counted. -/
  | corruptFrame (toH : Bool) (ch : Nat) (dt : Nat) (bytes : List Byte)
  /-- `REPLAY_REQUEST` (R45): A receiver sends a KEEPALIVE with RPL from E in the next reverse slot. -/
  | replayRequest (toH : Bool)
  /-- `REPLAY_REQUEST_TIMEOUT` (R45): 400 ns after the first later frame arrived, the missing frame triggers a replay request. -/
  | replayRequestTimeout (toH : Bool)
  /-- `REPLAY_REPEAT` (R46): No progress 1.0 us after a replay request; the request repeats or the link goes down after four. -/
  | replayRepeat (toH : Bool)
  /-- `FRAME_SLOT` (R50): A sender fills its next 132 ns frame slot by priority. -/
  | frameSlot (fromH : Bool) (t : Nat)
  /-- `KEEPALIVE_IDLE` (R48): A sender with nothing to send for 1.0 us sends a KEEPALIVE. -/
  | keepaliveIdle (fromH : Bool)
  /-- `CHANNEL_SILENT` (R51): A channel delivers no intact frame for 4.0 us and leaves service. -/
  | channelSilent (toH : Bool) (ch : Nat)
  /-- `CHANNEL_RETRAIN` (R52): Every 1 ms a receiver retrains its out-of-service channels. -/
  | channelRetrain (toH : Bool) (ch : Nat)
  /-- `LINK_UP` (R53): The handshake completes on one channel in each direction and the link comes up. -/
  | linkUp (hf : Nat) (fh : Nat)
  /-- `LINK_DOWN_TIMEOUT` (R57): The link has been down 100 ms; the H-die removes the shutter permit by a safety demand. -/
  | linkDownTimeout
  /-- `READ_RESPONSE_TIMEOUT` (R55): A read has no response 20 us after its request and completes with PGID. -/
  | readResponseTimeout (tag : Nat)
  /-- `CALIBRATION_MARK` (R59): After link-up and every 10 s the dies exchange calibration marks and publish TMDLY. -/
  | calibrationMark (rt : Nat) (ta : Nat)
  /-- `PERMIT_EDGE` (R61): An edge arrives on the shutter permit channel and is judged valid or not. -/
  | permitEdge (dt : Nat)
  /-- `PERMIT_TIMEOUT` (R62): 2.0 us pass since the last valid permit edge and the shutter closes or the unit yields. -/
  | permitTimeout
  /-- `PERMIT_STABLE` (R65): Valid permit edges have been present for 1 ms and PSTABLE is set. -/
  | permitStable
  /-- `REOPEN` (R65): Host writes SHUTCTL.REOPEN to open the shutter when the permit is stable. -/
  | reopen
  /-- `YIELD` (R66): Host writes SHUTCTL.YIELD to arm or disarm the twin-mode yield. -/
  | yieldArm (arm : Bool)
  /-- `YIELD_EXPIRY` (R72): The 500 ms YIELD arming runs out. -/
  | yieldExpiry
  /-- `PCIE_READ_TLP` (R74): A BAR0 read request is received and handled word by word. -/
  | pcieReadTlp (tag : Nat) (req : PcieRead) (dt : Nat)
  /-- `PCIE_WRITE_TLP` (R74): A BAR0 write request is received and accepted as host writes. -/
  | pcieWriteTlp (req : PcieWrite)
  /-- `BAR2_WRITE` (R76): A BAR2 write becomes a BULK segment or is dropped. -/
  | bar2Write (off : Nat) (data : List Byte)
  /-- `FLR` (R75): A function-level reset clears PCIe configuration, MSI-X and BULKCTL. -/
  | flr
  /-- `PCIE_LINK_DOWN` (R75): The PCIe link goes down; only PCIEDOWN is flagged. -/
  | pcieLinkDown
  /-- `SPI_READ` (R77): A single-lane SPI read frame of 1-4 words. -/
  | spiRead (addr : Nat) (count : Nat) (dt : Nat)
  /-- `SPI_WRITE` (R78): A single-lane SPI write frame, accepted at its last CRC bit if the CRC matches. -/
  | spiWrite (addr : Nat) (data : List Word) (crc : Nat)
  /-- `SPI_QREAD` (R77): A quad SPI read frame. -/
  | spiQread (addr : Nat) (count : Nat) (dt : Nat)
  /-- `SPI_QWRITE` (R77): A quad SPI write frame. -/
  | spiQwrite (addr : Nat) (data : List Word) (crc : Nat)
  /-- `SPI_STATUS` (R77): The SPI STATUS command returns STATUS and CRC. -/
  | spiStatus
  /-- `SPI_INVALID_COMMAND` (R77): An undefined SPI command code ends the frame until CS rises. -/
  | spiInvalidCommand (code : Nat)
  /-- `SPI_STATUS_DEADLINE` (R80): 8.0 us after the address the device sends STATUS, with BUSY if data has not returned. -/
  | spiStatusDeadline
  /-- `SPI_CS_RISE` (R80): SPI_CS_N rises before the device CRC ends and the read is abandoned. -/
  | spiCsRise
  /-- `HOST_ACCESS_EXECUTE` (R147): A queued host access executes in a host-access window on the F-die. -/
  | hostAccessExecute (lc : Nat)
  /-- `GATE_HEDDLE` (R147): The GATE heddle starts: staged writes are applied, then host accesses run. -/
  | gateHeddle
  /-- `REGISTER_WRITE` (R10): A write to a register with no row of its own, under its access codes. -/
  | registerWrite (agent : Nat) (addr : Nat) (value : Word)
  /-- `PGEVT_WRITE` (R92): A plain write stores the page event flags. -/
  | pgevtWrite (page : Nat) (value : Word)
  /-- `PGEVTSET` (R91): Write of 1 bits sets page event flags. -/
  | pgevtset (page : Nat) (value : Word)
  /-- `PGEVTCLR` (R91): Write of 1 bits clears page event flags. -/
  | pgevtclr (page : Nat) (value : Word)
  /-- `ERRCLR` (R88): PGCTL.ERRCLR clears PGERR. -/
  | errclr (page : Nat)
  /-- `PGLOCK` (R10): Writing 1 bits to PGLOCK locks RWL groups until die reset. -/
  | pglock (page : Nat) (value : Word)
  /-- `HWDKICK` (R94): A host watchdog kick or kick-and-release. -/
  | hwdkick (value : Word)
  /-- `HWDCTL_WRITE` (R556): A write to HWDCTL that may restart the watchdog count. -/
  | hwdctlWrite (value : Word)
  /-- `WATCHDOG_EXPIRY` (R94): No kick for TIMEOUT; the H-die passes the expiry to the F-die. -/
  | watchdogExpiry
  /-- `WATCHDOG_ACTION` (R94): The configured watchdog action starts at the next GATE heddle. -/
  | watchdogAction
  /-- `WATCHDOG_RAMP_END` (R556): The watchdog factor reaches 0 or 1; under HOLD GRID_OPEN is asserted. -/
  | watchdogRampEnd
  /-- `CLAIM` (R100): A read of CLAIM returns the winner and makes it active. -/
  | claim (target : Nat)
  /-- `COMPLETE` (R100): A write of a source number to COMPLETE clears its active bit. -/
  | complete (target : Nat) (value : Word)
  /-- `PENDSET` (R103): Sets edge-source pending bits written 1. -/
  | pendset (idx : Nat) (value : Word)
  /-- `PENDCLR` (R103): Clears edge-source pending bits written 1. -/
  | pendclr (idx : Nat) (value : Word)
  /-- `MASKSET` (R103): Sets mask bits written 1. -/
  | maskset (idx : Nat) (value : Word)
  /-- `MASKCLR` (R103): Clears mask bits written 1. -/
  | maskclr (idx : Nat) (value : Word)
  /-- `OUTCFG_WRITE` (R104): A target's output mode changes, sending messages for deliverable sources. -/
  | outcfgWrite (target : Nat) (value : Word)
  /-- `SRCCFG_WRITE` (R106): A write to a source's target, priority or vector. -/
  | srccfgWrite (src : Nat) (value : Word)
  /-- `WARDEN_TARGET_PASS` (R105): The H-die claims a WARDEN-target winner and posts it to WARDEN.IRQIN. -/
  | wardenTargetPass
  /-- `SELV_REQ` (R111): Host writes SELV_REQ.GO and a selvedge request is sent to the F-die. -/
  | selvReq (value : Word)
  /-- `SELVEDGE_CAPTURE` (R111): At the first pick boundary after delivery the F-die captures and sends its share. -/
  | selvedgeCapture
  /-- `SELVEDGE_TIMEOUT` (R112): No last fragment within 20 ms; the H-die swaps in its own share with FVALID = 0. -/
  | selvedgeTimeout
  /-- `PICK_BOUNDARY` (R115): The warp pick field changes; INC and per-pick hardware work take effect. -/
  | pickBoundary (inputs : List (List Int))
  /-- `MEASUREMENT_VALID` (R123): |V+| has stayed at or above VMIN for one cycle and the measurement becomes valid. -/
  | measurementValid
  /-- `FM_FREEZE_END` (R124): 1.5 cycles after a phase jump the f_m filter restarts. -/
  | fmFreezeEnd
  /-- `FLYWHEEL_LIMIT` (R125): FLYMAX passes in FLYWHEEL and steering returns to FREE. -/
  | flywheelLimit
  /-- `WARP_LOCK` (R127): The LOCK conditions hold for a whole cycle and LOCK rises. -/
  | warpLock
  /-- `NOW_LO_READ` (R120): A read of WARP.NOW_LO copies the stamp's high word into the agent's shadow. -/
  | nowLoRead (agent : Nat) (lc : Nat)
  /-- `PPS_EDGE` (R134): A PPS_IN edge is accepted or rejected and disciplines the wall clock. -/
  | ppsEdge (dt : Nat)
  /-- `PPS_HOLDOVER` (R134): No PPS edge for 2.0 s and SRC becomes holdover. -/
  | ppsHoldover
  /-- `PPS_HOLDMAX` (R134): HOLDMAX passes in holdover and SRC falls to RTC or none. -/
  | ppsHoldmax
  /-- `RTC_COMPARE` (R133): Once a second the wall clock is steered toward the porter RTC. -/
  | rtcCompare (err : Int)
  /-- `RTC_REALIGN` (R132): Every 60 s the porter RTC is realigned to the wall clock. -/
  | rtcRealign
  /-- `WALL_CLOCK_LOAD` (R132): At H-die start the wall clock loads seconds at the next RTC rollover. -/
  | wallClockLoad (elapsed : Nat)
  /-- `SEC_LO_READ` (R137): A read of TIME.SEC_LO captures seconds and fraction into a shadow. -/
  | secLoRead (agent : Nat) (dt : Nat)
  /-- `SETCTL_ARM` (R136): Host arms a seconds set for the next second boundary. -/
  | setctlArm
  /-- `SETCTL_CANCEL` (R136): Host disarms a pending seconds set. -/
  | setctlCancel
  /-- `SECONDS_SET` (R136): At the second boundary the armed seconds are applied and VALID set. -/
  | secondsSet
  /-- `ATL_GO` (R138): Host triggers an angle-time latch. -/
  | atlGo
  /-- `ATL_SLO_READ` (R139): A read of ATL_SLO loads the ATL shadow. -/
  | atlSloRead (agent : Nat)
  /-- `ANGLE_ZERO_MARK` (R140): At the first slot after angle zero the F-die sends a TIME_MARK for the warp image. -/
  | angleZeroMark
  /-- `WARP_IMAGE_STALE` (R140): No angle-zero mark for 1 s and WFRESH falls. -/
  | warpImageStale
  /-- `SAMPLE_TRIGGER` (R153): The warp reaches a SAMPLE heddle's thread and an ADC run starts. -/
  | sampleTrigger (input : Nat) (dly : Nat)
  /-- `ADC_CONVERSION_DONE` (R388): A conversion ends and its result lands in the result buffer. -/
  | adcConversionDone (core : Nat) (lc : Nat) (code : Int)
  /-- `HEDDLE_END` (R163): A heddle ends; overrun is checked and BG jobs park. -/
  | heddleEnd (c : Nat)
  /-- `BG_DEADLINE` (R160): A job misses its deadline and restarts next period. -/
  | bgDeadline (c : Nat) (job : Nat)
  /-- `RECORD_COMMIT` (R149): The reed commits the voted output record 6 lc after issue. -/
  | recordCommit (c : Nat) (b : Nat) (differ : Bool)
  /-- `COMMAND_BURST` (R257): The command burst of a lane leaves after the TX heddle. -/
  | commandBurst (lane : Nat)
  /-- `RXDONE` (R158): Reduced uplink data of the previous pick is published in the ring buffer. -/
  | rxdone (c : Nat) (missing : Bool)
  /-- `INPUT_RESTORED` (R21): Input has been present for one cycle and a HELD or OUT cell returns. -/
  | inputRestored (g : Nat)
  /-- `BYPASS_CONFIRM_TIMEOUT` (R23): A bypass command is unconfirmed after twice its time plus 8 pk. -/
  | bypassConfirmTimeout (g : Nat)
  /-- `NODE_LOST_TIMEOUT` (R24): 8 pk plus T_BYP_CLOSE after the last downlink a lost node's bypass is taken as closed. -/
  | nodeLostTimeout (g : Nat)
  /-- `SERVICE` (R26): Host writes CELL CTL.SERVICE to hold a cell out or release it. -/
  | service (cell : Nat) (value : Word)
  /-- `FALLBACK_START` (R166): All clusters run the fallback Weave from the next pick. -/
  | fallbackStart
  /-- `FALLBACK_RAMP_DONE` (R167): Fallback references reach zero and GRID_OPEN is asserted. -/
  | fallbackRampDone
  /-- `FALLBACK_BLOCK` (R167): Two cycles after GRID_OPEN the fallback sets block control. -/
  | fallbackBlock
  /-- `WEAVE_VERIFY` (R162): Host writes WEAVE.CTL.VERIFY to verify a loaded bank. -/
  | weaveVerify (bank : Nat)
  /-- `IMAGE_VERIFIED` (R162): Verification completes; the bank is VERIFIED or REFUSED. -/
  | imageVerified (bank : Nat) (o : OpenSections)
  /-- `WEAVE_ERASE` (R175): Host writes WEAVE.CTL.ERASE to empty a bank. -/
  | weaveErase (bank : Nat)
  /-- `SWITCH_GO` (R178): Host arms a Weave switch to a bank at a target cycle. -/
  | switchGo (value : Word) (lc : Nat)
  /-- `SWITCH_CANCEL` (R181): Host cancels the armed switch. -/
  | switchCancel
  /-- `SWITCH_CHECK` (R179): At pick 4,095 of cycle C - 1 the switch is postponed, refused or confirmed. -/
  | switchCheck
  /-- `WEAVE_SWITCH` (R180): At the cycle boundary the new image takes over, hot or cold. -/
  | weaveSwitch
  /-- `COLD_LOAD_DONE` (R176): Loading of a cold switch completes and the image starts at the next pick. -/
  | coldLoadDone
  /-- `ADD` (R192): Integer add, wrapping. -/
  | add (e : Nat) (w : SlotWord) (x : Iss)
  /-- `SUB` (R192): Integer subtract, wrapping. -/
  | sub (e : Nat) (w : SlotWord) (x : Iss)
  /-- `ADDI` (R192): Integer add immediate. -/
  | addi (e : Nat) (w : SlotWord) (x : Iss)
  /-- `AND` (R192): Bitwise AND. -/
  | and (e : Nat) (w : SlotWord) (x : Iss)
  /-- `OR` (R192): Bitwise OR. -/
  | or (e : Nat) (w : SlotWord) (x : Iss)
  /-- `XOR` (R192): Bitwise XOR. -/
  | xor (e : Nat) (w : SlotWord) (x : Iss)
  /-- `ANDN` (R192): Bitwise A AND NOT B. -/
  | andn (e : Nat) (w : SlotWord) (x : Iss)
  /-- `SHL` (R192): Shift left by register. -/
  | shl (e : Nat) (w : SlotWord) (x : Iss)
  /-- `SHR` (R192): Logical shift right by register. -/
  | shr (e : Nat) (w : SlotWord) (x : Iss)
  /-- `SAR` (R192): Arithmetic shift right by register. -/
  | sar (e : Nat) (w : SlotWord) (x : Iss)
  /-- `SHLI` (R192): Shift left by immediate. -/
  | shli (e : Nat) (w : SlotWord) (x : Iss)
  /-- `SHRI` (R192): Logical shift right by immediate. -/
  | shri (e : Nat) (w : SlotWord) (x : Iss)
  /-- `SARI` (R192): Arithmetic shift right by immediate. -/
  | sari (e : Nat) (w : SlotWord) (x : Iss)
  /-- `MIN` (R192): Signed minimum. -/
  | min (e : Nat) (w : SlotWord) (x : Iss)
  /-- `MAX` (R192): Signed maximum. -/
  | max (e : Nat) (w : SlotWord) (x : Iss)
  /-- `SEL` (R192): Select A or B by a predicate. -/
  | sel (e : Nat) (w : SlotWord) (x : Iss)
  /-- `LI` (R192): Load a sign-extended immediate. -/
  | li (e : Nat) (w : SlotWord) (x : Iss)
  /-- `LIH` (R192): Load the upper half from an immediate. -/
  | lih (e : Nat) (w : SlotWord) (x : Iss)
  /-- `CMP` (R192): Integer compare into a predicate. -/
  | cmp (e : Nat) (w : SlotWord) (x : Iss)
  /-- `QADD` (R203): Q1.31 add with mode saturation. -/
  | qadd (e : Nat) (w : SlotWord) (x : Iss)
  /-- `QSUB` (R203): Q1.31 subtract with mode saturation. -/
  | qsub (e : Nat) (w : SlotWord) (x : Iss)
  /-- `QABS` (R203): Q1.31 absolute value. -/
  | qabs (e : Nat) (w : SlotWord) (x : Iss)
  /-- `QMUL` (R203): Q1.31 multiply with rounding and limit. -/
  | qmul (e : Nat) (w : SlotWord) (x : Iss)
  /-- `QMAC` (R199): Multiply and accumulate into an accumulator. -/
  | qmac (e : Nat) (w : SlotWord) (x : Iss)
  /-- `QMSB` (R199): Multiply and subtract from an accumulator. -/
  | qmsb (e : Nat) (w : SlotWord) (x : Iss)
  /-- `QMZ` (R199): Set an accumulator to a product. -/
  | qmz (e : Nat) (w : SlotWord) (x : Iss)
  /-- `ACR` (R204): Read an accumulator scaled to Q1.31. -/
  | acr (e : Nat) (w : SlotWord) (x : Iss)
  /-- `ACW` (R199): Write an accumulator from Q1.31. -/
  | acw (e : Nat) (w : SlotWord) (x : Iss)
  /-- `FADD` (R205): FP32 add. -/
  | fadd (e : Nat) (w : SlotWord) (x : Iss)
  /-- `FSUB` (R205): FP32 subtract. -/
  | fsub (e : Nat) (w : SlotWord) (x : Iss)
  /-- `FMUL` (R205): FP32 multiply. -/
  | fmul (e : Nat) (w : SlotWord) (x : Iss)
  /-- `FMA` (R205): FP32 fused multiply-add. -/
  | fma (e : Nat) (w : SlotWord) (x : Iss)
  /-- `FMIN` (R205): FP32 minimum. -/
  | fmin (e : Nat) (w : SlotWord) (x : Iss)
  /-- `FMAX` (R205): FP32 maximum. -/
  | fmax (e : Nat) (w : SlotWord) (x : Iss)
  /-- `FNEG` (R192): FP32 negate. -/
  | fneg (e : Nat) (w : SlotWord) (x : Iss)
  /-- `FABS` (R192): FP32 absolute value. -/
  | fabs (e : Nat) (w : SlotWord) (x : Iss)
  /-- `FCMP` (R192): FP32 compare into a predicate. -/
  | fcmp (e : Nat) (w : SlotWord) (x : Iss)
  /-- `FCVT` (R207): Convert between FP32, Q1.31 and INT32. -/
  | fcvt (e : Nat) (w : SlotWord) (x : Iss)
  /-- `FRCP` (R205): FP32 reciprocal on X3. -/
  | frcp (e : Nat) (w : SlotWord) (x : Iss)
  /-- `FRSQ` (R205): FP32 reciprocal square root on X3. -/
  | frsq (e : Nat) (w : SlotWord) (x : Iss)
  /-- `LDW` (R193): Load a DM word. -/
  | ldw (e : Nat) (w : SlotWord) (x : Iss)
  /-- `LDD` (R193): Load a DM doubleword into a register pair. -/
  | ldd (e : Nat) (w : SlotWord) (x : Iss)
  /-- `STW` (R193): Store a DM word. -/
  | stw (e : Nat) (w : SlotWord) (x : Iss)
  /-- `STD` (R193): Store a register pair to DM. -/
  | std (e : Nat) (w : SlotWord) (x : Iss)
  /-- `LDX` (R193): Load a DM word by register index. -/
  | ldx (e : Nat) (w : SlotWord) (x : Iss)
  /-- `STX` (R193): Store a DM word by register index. -/
  | stx (e : Nat) (w : SlotWord) (x : Iss)
  /-- `LDA` (R200): Interpolated angle-table read. -/
  | lda (e : Nat) (w : SlotWord) (x : Iss)
  /-- `LDAW` (R193): Load an angle-table word. -/
  | ldaw (e : Nat) (w : SlotWord) (x : Iss)
  /-- `STA` (R193): Store an angle-table word. -/
  | sta (e : Nat) (w : SlotWord) (x : Iss)
  /-- `LDS` (R151): Load a shared-state word. -/
  | lds (e : Nat) (w : SlotWord) (x : Iss)
  /-- `LDP` (R152): Load a parameter-store word. -/
  | ldp (e : Nat) (w : SlotWord) (x : Iss)
  /-- `LDR` (R158): Load a ring-buffer word. -/
  | ldr (e : Nat) (w : SlotWord) (x : Iss)
  /-- `LDB` (R156): Load an ADC result word. -/
  | ldb (e : Nat) (w : SlotWord) (x : Iss)
  /-- `BRA` (R210): Relative branch with two delay bundles. -/
  | bra (e : Nat) (w : SlotWord) (x : Iss)
  /-- `BRI` (R210): Indirect branch with two delay bundles. -/
  | bri (e : Nat) (w : SlotWord) (x : Iss)
  /-- `CALL` (R194): Branch and set LNK. -/
  | call (e : Nat) (w : SlotWord) (x : Iss)
  /-- `RET` (R194): Branch to LNK. -/
  | ret (e : Nat) (w : SlotWord) (x : Iss)
  /-- `LOOPI` (R211): Push a loop with an immediate count. -/
  | loopi (e : Nat) (w : SlotWord) (x : Iss)
  /-- `LOOPR` (R211): Push a loop with a register count. -/
  | loopr (e : Nat) (w : SlotWord) (x : Iss)
  /-- `CRD` (R194): Read a control register. -/
  | crd (e : Nat) (w : SlotWord) (x : Iss)
  /-- `CWR` (R215): Write a control register from a register. -/
  | cwr (e : Nat) (w : SlotWord) (x : Iss)
  /-- `CWI` (R194): Write a control register from an immediate. -/
  | cwi (e : Nat) (w : SlotWord) (x : Iss)
  /-- `JEND` (R214): End a BG job for its period. -/
  | jend (e : Nat) (w : SlotWord) (x : Iss)
  /-- `END_MARKER` (R214): The heddle-end marker ends foreground code of the heddle. -/
  | endMarker (e : Nat) (w : SlotWord) (x : Iss)
  /-- `RECE` (R286): Issue an edge duty or blanking arm record. -/
  | rece (e : Nat) (w : SlotWord) (x : Iss)
  /-- `RECR` (R261): Issue a ring command record. -/
  | recr (e : Nat) (w : SlotWord) (x : Iss)
  /-- `RECS` (R195): Issue a shared-state write record. -/
  | recs (e : Nat) (w : SlotWord) (x : Iss)
  /-- `RECV` (R184): Issue an event record. -/
  | recv (e : Nat) (w : SlotWord) (x : Iss)
  /-- `OPERATION_COMPLETE` (R197): A multi-cycle operation's result becomes available and flags are set. -/
  | operationComplete (e : Nat) (clocks : Nat)
  /-- `STEPCTL` (R219): Host starts a single-step run of N bundles on a held engine. -/
  | stepctl (e : Nat) (value : Word)
  /-- `STEPPC` (R219): Host sets the stop point of a held engine. -/
  | steppc (e : Nat) (value : Word)
  /-- `STEP_RUN_END` (R219): A step run ends with STEPDONE or an error and writes a stop record. -/
  | stepRunEnd (e : Nat)
  /-- `ENGINE_ISOLATE` (R226): At the pick boundary after a stop the engine becomes OUT. -/
  | engineIsolate (e : Nat)
  /-- `REPAIR_START` (R227): A repair attempt starts at a REPAIR heddle. -/
  | repairStart (c : Nat)
  /-- `REPAIR_VERIFIED` (R229): The last copied block is verified and the target enters probation. -/
  | repairVerified (c : Nat) (bad : List (Nat × Word))
  /-- `REPAIR_REJOIN` (R230): At the cycle boundary after 1,024 pk of probation the engine rejoins the vote. -/
  | repairRejoin (c : Nat)
  /-- `HOLD` (R232): ENGCTL command to stop and hold a voting engine. -/
  | hold (e : Nat)
  /-- `RELEASE` (R232): ENGCTL command to clear HELD. -/
  | release (e : Nat)
  /-- `REPAIR` (R232): ENGCTL command to clear RETIRED, HELD and FAILS. -/
  | repair (e : Nat)
  /-- `HALFRETRY` (R233): ENGCTL command to rerun a reed half's self-test. -/
  | halfretry (c : Nat) (half : Bool)
  /-- `ENGCTL_APPLY` (R232): An engine command takes effect or is refused at the next pick boundary. -/
  | engctlApply
  /-- `REED_HALF_TRIP` (R233): A reed half's comparator trips and the half leaves service. -/
  | reedHalfTrip (c : Nat) (half : Nat)
  /-- `HALF_SELFTEST_DONE` (R233): A reed half's self-test ends passed or failed. -/
  | halfSelftestDone (c : Nat) (half : Nat) (pass : Bool)
  /-- `HALF_REJOIN` (R233): A passed half rejoins at the cycle boundary at least 256 pk after the trip. -/
  | halfRejoin (c : Nat) (half : Nat)
  /-- `WARDEN_START` (R238): The warden is running from ROM after lock or after a restart. -/
  | wardenStart
  /-- `WARDEN_RESTART` (R238): The warden cores disagree and the warden restarts. -/
  | wardenRestart
  /-- `WARDEN_WATCHDOG` (R238): The warden's 10 ms watchdog expires and it restarts. -/
  | wardenWatchdog
  /-- `AUDIT_BLOCK` (R239): The warden compares one memory block across the three engines. -/
  | auditBlock (c : Nat) (n : Nat)
  /-- `WARDEN_IRQ_TAKE` (R240): The warden takes the next WARDEN-target queue entry. -/
  | wardenIrqTake (writes : List (Nat × Word))
  /-- `WARDEN_FW_VERIFY` (R250): Host verifies the warden standby firmware. -/
  | wardenFwVerify
  /-- `WARDEN_FW_ACTIVATE` (R250): Host activates a verified warden standby image, restarting the warden. -/
  | wardenFwActivate
  /-- `WARDEN_FW_ERASE` (R250): Host empties the warden standby area. -/
  | wardenFwErase
  /-- `COLLECT_BURST_RETURN` (R273): A collect burst returns and its segments are reduced into the ring buffer. -/
  | collectBurstReturn (lane : Nat) (b : CollectBurst)
  /-- `CELL_OWNER_MOVE` (R270): A cell missing for 4 picks moves to the other direction. -/
  | cellOwnerMove (g : Nat)
  /-- `DIRECTION_FAIL` (R270): No intact END block by lc 4,184 of the next pick; the direction fails. -/
  | directionFail (lane : Nat)
  /-- `RECEIVER_LOCK_LOSS` (R270): A lane receiver loses lock and the direction fails. -/
  | receiverLockLoss (lane : Nat)
  /-- `DIRECTION_RETURNING` (R270): A failed direction stays locked and intact for 262,144 picks. -/
  | directionReturning (lane : Nat)
  /-- `DEFAULT_OWNERSHIP_RETURN` (R270): At a cycle boundary a returning direction takes back its default cells. -/
  | defaultOwnershipReturn (lane : Nat)
  /-- `CELL_DEFAULT_RETURN` (R270): A moved cell returns to its default direction after 64 good cycles. -/
  | cellDefaultReturn (g : Nat)
  /-- `ENUM` (R270): Host requests re-enumeration of a direction. -/
  | enum (lane : Nat)
  /-- `LANE_TRAINED` (R523): A lane holds lock for 1 ms, or training is refused after 100 ms. -/
  | laneTrained (lane : Nat) (ok : Bool) (ms : Nat)
  /-- `DISCOVER_RETURN` (R263): A DISCOVER burst returns with each node's hop slot. -/
  | discoverReturn (lane : Nat) (d : Discover) (ms : Nat)
  /-- `NODE_KEYED` (R265): Key agreement with a node completes or fails. -/
  | nodeKeyed (lane : Nat) (hop : Nat) (res : Nat) (ms : Nat) (key : List Byte) (msgs : List Mgmt)
  /-- `NODE_CONFIGURED` (R523): A node acknowledges its converter-map configuration. -/
  | nodeConfigured (lane : Nat) (hop : Nat) (ack : Bool) (ms : Nat) (msgs : List Mgmt)
  /-- `TWIN_BURST` (R276): A twin burst arrives and the partner's records are compared. -/
  | twinBurst (b : TwinBurst)
  /-- `PARTNER_LOST` (R278): No intact twin END block by lc 1,024 of the next pick. -/
  | partnerLost
  /-- `TWIN_LANE_LOCK` (R276): A twin lane locks and the handshake begins. -/
  | twinLaneLock (lane : Nat)
  /-- `TWIN_HANDSHAKE_DONE` (R526): The twin handshake completes, leading to TRANSFER or IN_SYNC. -/
  | twinHandshakeDone (peer : TwinPeer)
  /-- `TWIN_COPY_VERIFIED` (R526): The transfer copy to the joiner is verified and probation starts. -/
  | twinCopyVerified (ok : Bool) (cp : TwinCopy)
  /-- `TWIN_PROBATION_END` (R526): At the cycle boundary after 1,024 pk of matching probation the twins are IN_SYNC. -/
  | twinProbationEnd
  /-- `JOIN` (R67): Host writes TWCTL.JOIN to start a twin join. -/
  | join
  /-- `CARRIER_BOUNDARY` (R281): The carrier counter returns to 0 at a pick boundary. -/
  | carrierBoundary
  /-- `LOAD_POINT` (R283): Duties, counts and carrier parameters are latched for the next boundary. -/
  | loadPoint (ph : Nat)
  /-- `SYNC_IN_PULSE` (R301): A SYNC_IN pulse is classified, timestamped and may shift the carrier. -/
  | syncInPulse (high : Bool) (ns : Nat) (lc : Nat)
  /-- `SYNC_LOST` (R304): No valid SYNC_IN pulse for 2 cycles while following. -/
  | syncLost
  /-- `BLANK_WINDOW_OPEN` (R305): The warp reaches an armed start angle and a blanking window opens. -/
  | blankWindowOpen (t : Nat)
  /-- `BLANK_WINDOW_CLOSE` (R306): A blanking window's length passes and it closes. -/
  | blankWindowClose (t : Nat)
  /-- `ENERGY_LOOP_STEP` (R320): Every 16 picks cluster P sets the export demand. -/
  | energyLoopStep
  /-- `BALANCE_STEP` (R329): Every 64 picks cluster P computes the zero-sequence voltage. -/
  | balanceStep
  /-- `LEARN_PUBLISH` (R327): After LTPER cycles the learned table is rebuilt and published. -/
  | learnPublish
  /-- `FW_END` (R316): f_m has been in the deadband for 1 s and frequency-watt ends. -/
  | fwEnd
  /-- `TRACKER_UPDATE` (R341): A bank's update slot arrives and its PV trackers step. -/
  | trackerUpdate
  /-- `SIXTEEN_PICK_CHECK` (R346): Every 16 picks limits, curtailment, storage permits and the export split are computed. -/
  | sixteenPickCheck
  /-- `CURTAIL_RELEASE` (R340): P_lim exceeds P_est + CBAND for RELT and the cell returns to TRACK. -/
  | curtailRelease (g : Nat)
  /-- `SCAN_PASS` (R348): A periodic scan pass becomes due. -/
  | scanPass
  /-- `SCAN_GO` (R348): Host starts a scan pass. -/
  | scanGo
  /-- `SCAN_ABORT` (R351): Host aborts the running bank scan and ends the pass. -/
  | scanAbort
  /-- `BANK_SCAN_START` (R350): 1 s after the previous scan a bank scan admits its cells and starts. -/
  | bankScanStart
  /-- `SCAN_POINT` (R349): A scan phase or point dwell ends and the sweep advances. -/
  | scanPoint
  /-- `BANK_SCAN_END` (R352): A sweep ends and each cell takes V_best or V_pre. -/
  | bankScanEnd
  /-- `RT_EVENT_END` (R362): Recovery conditions hold for TEND and the event ends. -/
  | rtEventEnd
  /-- `TRIP_TIMER` (R368): A trip-point timer reaches its duration. -/
  | tripTimer
  /-- `CURVCTL_COMMIT` (R369): Host commits the shadow trip curves, applied or refused. -/
  | curvctlCommit
  /-- `CHIP_END` (R374): An active-detector chip ends and the window is evaluated. -/
  | chipEnd
  /-- `PASSIVE_CONFIRM` (R376): Passive flags stand together for PCONF and D2 may decide. -/
  | passiveConfirm
  /-- `SUSPENSION_TMAX` (R377): TMAX passes after the interval began and detectors resume. -/
  | suspensionTmax
  /-- `SUSPENSION_END` (R377): TREC after the last event the suspension interval ends. -/
  | suspensionEnd
  /-- `WAIT_TIMER` (R381): The wait timer reaches TWAIT and SYNCING begins. -/
  | waitTimer
  /-- `SYNC_HOLD` (R380): LOCK, BAND and permits hold for one cycle and GRID_OPEN is deasserted. -/
  | syncHold
  /-- `SYNC_TIMEOUT` (R380): 10 s in SYNCING without the condition; back to DISCONNECTED. -/
  | syncTimeout
  /-- `BREAKER_TIME` (R380): TBRK passes in CLOSING and the ramp starts. -/
  | breakerTime
  /-- `RAMP_COMPLETE` (R380): The ramp factor reaches 1 and the state is CONNECTED. -/
  | rampComplete
  /-- `RANGE_UP` (R390): An input stays small for a cycle and its gain rises. -/
  | rangeUp (input : Nat)
  /-- `CALIBRATION_INTERVAL` (R391): A recalibration interval ends and new trims apply. -/
  | calibrationInterval
  /-- `FCMP_TRIP` (R396): A comparator's filtered output rises and trips. -/
  | fcmpTrip (cmp : Nat) (input : List Int)
  /-- `LATCH_REARM` (R397): The filtered output has stayed low for REARM and the latch clears or becomes clearable. -/
  | latchRearm (cmp : Nat) (input : List Int)
  /-- `TRIPCLR` (R397): Host clears comparator trip latches. -/
  | tripclr (value : Word)
  /-- `SELF_CHECK` (R399): A comparator's DAC readback runs at its scheduled instant. -/
  | selfCheck (cmp : Nat) (raws : Nat) (input : List Int)
  /-- `SC_GO` (R400): Host runs every enabled self-check now. -/
  | scGo
  /-- `METER_WINDOW_END` (R404): A metering window ends; sets and energy accumulators update. -/
  | meterWindowEnd
  /-- `METER_E_LO_READ` (R405): A read of an accumulator LO word loads its HI shadow. -/
  | meterELoRead (agent : Nat) (k : Nat)
  /-- `PQ_REFRESH` (R407): Urms(1/2) refreshes and sag, swell and interruption events are evaluated. -/
  | pqRefresh
  /-- `CHECK_START` (R409): A pre-connection check starts automatically. -/
  | checkStart
  /-- `CHKCTL_GO` (R409): Host starts a pre-connection check. -/
  | chkctlGo
  /-- `CHECK_DONE` (R409): A pre-connection check passes or fails after 14 cycles. -/
  | checkDone
  /-- `CHECK_INVALID_TIMEOUT` (R409): The measurement stays invalid 10 s after a check is due; the check fails. -/
  | checkInvalidTimeout
  /-- `CHECK_RETRY` (R409): RETRY seconds after a failure the check is retried. -/
  | checkRetry
  /-- `S0_PULSE` (R410): An S0 ON-to-OFF transition is counted or rejected. -/
  | s0Pulse (n : Nat) (on : Nat) (off : Nat)
  /-- `S0_MAXON` (R410): An S0 ON lasts MAXON and counts once. -/
  | s0Maxon (n : Nat)
  /-- `SENSOR_READING` (R413): Every 1 ms a temperature reading is formed and levels and bands evaluated. -/
  | sensorReading (fdie : Bool)
  /-- `SENSOR_EXCLUDE` (R414): A sensor differs from its neighbours for 1,001 readings and is excluded. -/
  | sensorExclude (sensor : Nat)
  /-- `SENSOR_READMIT` (R414): An excluded sensor agrees for 60,000 readings and is readmitted. -/
  | sensorReadmit (sensor : Nat)
  /-- `HREQ` (R420): The H-die writes FTHERM.HREQ and the F-die treats it as a converter fault. -/
  | hreq (value : Word)
  /-- `NTC_READING` (R427): Every 10 ms an NTC input is converted and its action applied. -/
  | ntcReading (n : Nat) (x : Rat)
  /-- `FTHERM_COPY` (R429): Every 10 ms the H-die reads F-die temperatures into its copies. -/
  | fthermCopy
  /-- `FTHERM_STALE` (R429): 50 ms without a full read sets FSTALE. -/
  | fthermStale
  /-- `SCRUB_PASS` (R424): A scrub interval begins and a scrub pass starts. -/
  | scrubPass (errs : List (Nat × Nat × Nat × Bool))
  /-- `TOUCH_SCAN` (R439): Every 10 ms each enabled key is measured and touches evaluated. -/
  | touchScan (raws : List Nat)
  /-- `STUCK_KEY` (R443): A touch lasts STUCK and the key is declared stuck. -/
  | stuckKey (key : Nat)
  /-- `BUTTON_SAMPLE` (R445): Every 1 ms buttons are sampled and debounced. -/
  | buttonSample (levels : Nat) (same : Bool)
  /-- `LED_OPEN` (R446): An LED draws under half its current for 10 ms and is flagged open. -/
  | ledOpen (led : Nat)
  /-- `VBUS_PLUG` (R448): SVC_VBUS above 4.0 V for 10 ms; the port is plugged. -/
  | vbusPlug
  /-- `VBUS_UNPLUG` (R448): SVC_VBUS below 3.5 V for 10 ms; the port is unplugged. -/
  | vbusUnplug
  /-- `SVC_OPEN` (R450): Service request to open a session at a level. -/
  | svcOpen (tag : Nat) (level : Nat) (cred : List Word) (fits : Bool)
  /-- `SVC_CLOSE` (R452): Service request to close the session. -/
  | svcClose (tag : Nat)
  /-- `SVC_READ` (R449): Service request to read register words. -/
  | svcRead (tag : Nat) (addr : Nat) (count : Nat) (fits : Bool)
  /-- `SVC_WRITE` (R451): Service request to write register words. -/
  | svcWrite (tag : Nat) (addr : Nat) (count : Nat) (data : List Word)
  /-- `SVC_PING` (R450): Service request that restarts the idle timer. -/
  | svcPing (tag : Nat)
  /-- `USB_BUS_RESET` (R452): A USB bus reset closes the session. -/
  | usbBusReset
  /-- `USB_SUSPEND` (R452): USB suspend closes the session. -/
  | usbSuspend
  /-- `SERVICE_IDLE` (R452): No request for CTL.IDLE closes the session. -/
  | serviceIdle
  /-- `SERVICE_KICK` (R452): Host writes SERVICE.CTL.KICK to close the session. -/
  | serviceKick
  /-- `SAFETY_SAMPLE` (R454): At each 1 ms sample instant safety channels are filtered and input states updated. -/
  | safetySample (levels : Nat)
  /-- `TEST_PULSE` (R457): A test pulse ends its test sample and the input test is judged. -/
  | testPulse (tpb : Bool) (readbackLow : Bool) (levels : Nat)
  /-- `SAFETY_SELFTEST_DONE` (R458): The 20 ms safety self-test ends passed or failed. -/
  | safetySelftestDone (cause : Nat)
  /-- `SAFETY_RESET` (R460): Host writes the safety reset key to request a reset. -/
  | safetyReset (value : Word) (same : Bool)
  /-- `SAFETY_STOP` (R459): Host writes SAFETY.CTL.STOP as a demand. -/
  | safetyStop (value : Word)
  /-- `SEAL_READ` (R464): The seal switches are read at start or every 60 s and compared. -/
  | sealRead (s1 : Nat) (s2 : Nat) (s3 : Nat)
  /-- `SEAL_READ_CMD` (R464): Host requests a seal read now. -/
  | sealReadCmd
  /-- `SEAL_RETRY` (R464): 10 ms after an inconsistent read the read is repeated. -/
  | sealRetry (s1 : Nat) (s2 : Nat) (s3 : Nat)
  /-- `PWM_PERIOD` (R469): A Louvre PWM period begins; duty and shunt sampling apply. -/
  | pwmPeriod (ch : Nat) (code : Nat) (cur : Int) (busy : Bool)
  /-- `ZERO_CROSSING` (R472): A back-EMF zero crossing is accepted on the floating phase. -/
  | zeroCrossing (ch : Nat) (len : Nat) (rev : Bool) (expected : Bool)
  /-- `HALL_CHANGE` (R472): A debounced Hall code changes and the channel commutates. -/
  | hallChange (ch : Nat) (code : Nat) (len : Nat)
  /-- `HALL_INVALID` (R472): An invalid Hall code holds for 10 ms; fault cause 0x4. -/
  | hallInvalid (ch : Nat)
  /-- `COMMUTATION` (R472): Half a sector after a crossing the channel advances its sector. -/
  | commutation (ch : Nat) (len : Nat)
  /-- `CATCH_END` (R473): 50 ms in CATCH; the channel synchronises, aligns or keeps coasting. -/
  | catchEnd (ch : Nat)
  /-- `ALIGN_END` (R473): TALIGN passes and the open-loop ramp starts. -/
  | alignEnd (ch : Nat)
  /-- `RAMP_TIMEOUT` (R473): TRAMP passes without six crossings; a stall. -/
  | rampTimeout (ch : Nat)
  /-- `STALL` (R477): A running channel sees no crossing in two sectors and stalls. -/
  | stall (ch : Nat)
  /-- `STALL_RETRY` (R473): 1 s after a stall the channel retries CATCH. -/
  | stallRetry (ch : Nat)
  /-- `COAST_END` (R473): The rotor slows below FCATCH or 2 s pass in COAST. -/
  | coastEnd (ch : Nat) (after2s : Bool)
  /-- `DRIVER_UNDERVOLTAGE` (R468): VM or VGD falls low and every channel stops in UVWAIT. -/
  | driverUndervoltage
  /-- `UV_RELEASE` (R468): VM and VGD recover for 10 ms and channels leave UVWAIT. -/
  | uvRelease
  /-- `HALF_BRIDGE_FAULT` (R479): A half-bridge desaturates or loses bootstrap and the channel faults. -/
  | halfBridgeFault (ch : Nat) (phase : Nat) (cause : Nat) (present : Bool)
  /-- `LOUVRE_CTL` (R474): Host writes LOUVRE.CTL mode, direction, clear or target. -/
  | louvreCtl (ch : Nat) (value : Word) (same : Bool)
  /-- `SPEED_LOOP` (R475): Every 1 ms the speed PI loop sets the duty. -/
  | speedLoop (ch : Nat)
  /-- `CURVE_READING` (R476): Every 100 ms the curve source is read and the target set. -/
  | curveReading (ch : Nat)
  /-- `AUX_CYCLE` (R483): A flyback switching cycle starts and ends on current or duty limit. -/
  | auxCycle (endBy : Nat) (duty : Nat) (fb : Nat)
  /-- `AUX_FAULT_TIMER` (R485): Undervoltage or low input persists 1 ms; demand and HICCUP or INUV. -/
  | auxFaultTimer (input : Bool)
  /-- `AUX_EN` (R485): Host writes AUXSUP.CTL.EN to start or stop the supply. -/
  | auxEn (value : Word)
  /-- `AUX_RESTART` (R485): Host restarts a LATCHED supply. -/
  | auxRestart
  /-- `AUX_SOFTSTART_TIMEOUT` (R485): 4 x TSS without PGOOD; the supply hiccups. -/
  | auxSoftstartTimeout
  /-- `HICCUP_END` (R485): 50 ms in HICCUP pass and soft start retries. -/
  | hiccupEnd
  /-- `INUV_RECOVER` (R485): The input is back for 10 ms and soft start begins. -/
  | inuvRecover (elapsed : Nat)
  /-- `HADC_SCAN` (R487): Every SCANPER the enabled H-die inputs are converted. -/
  | hadcScan (codes : List (Nat × Nat))
  /-- `HCMP_TRIP` (R488): An H-die comparator trips. -/
  | hcmpTrip (cmp : Nat) (tripped : Bool)
  /-- `QUOTE_GO` (R496): Host requests a signed quote over the nonce. -/
  | quoteGo
  /-- `QUOTE_DONE` (R496): The quote is built and QDONE set. -/
  | quoteDone
  /-- `OWNCERT` (R493): Host installs an owner certificate. -/
  | owncert (value : Word)
  /-- `LIFECYCLE_REQ` (R498): Host requests a lifecycle transition with tokens. -/
  | lifecycleReq (value : Word)
  /-- `FUSE_WORD_BURNED` (R500): A fuse word finishes programming and the next starts or pauses. -/
  | fuseWordBurned
  /-- `FUSEOK_TIMEOUT` (R500): FUSEOK stays 0 for 60 s and the request is abandoned. -/
  | fuseokTimeout
  /-- `BURN` (R504): Host burns a fuse-backed field. -/
  | burn (value : Word)
  /-- `EXTEST` (R505): Wicket EXTEST instruction on the boundary register. -/
  | extest (pins preload : Nat)
  /-- `IDCODE` (R505): Wicket instruction returning the ID code. -/
  | idcode
  /-- `SAMPLE_PRELOAD` (R505): Wicket SAMPLE/PRELOAD instruction. -/
  | samplePreload (pins : Nat) (preload : Nat)
  /-- `CHALLENGE` (R505): Wicket instruction capturing a fresh challenge. -/
  | challenge
  /-- `RESPONSE` (R506): Wicket response token checked at Update-DR to open scopes. -/
  | response (token : List Word)
  /-- `WSTATUS` (R505): Wicket instruction returning WICKET.STAT. -/
  | wstatus
  /-- `BYPASS` (R505): Wicket BYPASS instruction. -/
  | bypass
  /-- `TRST_LOW` (R506): WKT_TRST_N goes low and every scope closes. -/
  | trstLow
  /-- `WICKET_CLOSE` (R506): Host closes all Wicket scopes. -/
  | wicketClose
  /-- `WICKET_DISABLE` (R506): Host disables Wicket responses until H-die reset. -/
  | wicketDisable
  /-- `SECURITY_FW_VERIFY` (R508): Host verifies the H-die standby slot or sealed-record sector. -/
  | securityFwVerify
  /-- `SECURITY_FW_ACTIVATE` (R508): Host activates the verified slot and the H-die restarts. -/
  | securityFwActivate
  /-- `SECURITY_FW_ERASE` (R508): Host erases the target slot or sector. -/
  | securityFwErase
  /-- `H_DIE_RESTART_DONE` (R509): The H-die restart completes with the selected slot running. -/
  | hDieRestartDone
  /-- `PORTER_SOURCE_CHANGE` (R510): The porter changes to another qualifying source. -/
  | porterSourceChange (src : Nat) (vsto : Nat) (elapsed : Nat)
  /-- `PORTER_STOP` (R510): No porter source qualifies and the porter stops. -/
  | porterStop (elapsed : Nat)
  /-- `PORTER_RESTART` (R510): A source qualifies again and the porter restarts with RTC invalid. -/
  | porterRestart (src : Nat) (vsto : Nat)
  /-- `HARVEST_SAMPLE` (R511): Every 16 s the harvester samples its open-circuit voltage. -/
  | harvestSample (voc : Nat) (vsto : Nat) (elapsed : Nat)
  /-- `BATTERY_MEASURE` (R512): Every hour the porter measures VBAT_P under load. -/
  | batteryMeasure (mv : Nat) (elapsed : Nat)
  /-- `RTC_TRIM` (R513): Every 64 s the RTC applies its trim. -/
  | rtcTrim (elapsed : Nat)
  /-- `DOOR_WATCH` (R514): Every 250 ms with MAIN absent the porter samples the watched doors. -/
  | doorWatch (levels : Nat) (elapsed : Nat)
  /-- `ZC12_UPDATE` (R530): The warden updates the firmware of an OUT or STANDBY node. -/
  | zc12Update (cell : Nat) (carried : Nat) (keys : List (List Byte)) (msgs : List Mgmt)
  /-- `PERMIT_TOGGLE` (R458): The H-die permit generator toggles every 0.5 us while RUN, and its readback judges each toggle; a toggle outside R60 is a block fault with cause 0x6. -/
  | permitToggle (ok : Bool)
  /-- `SENSOR_CONVERSION` (R413): A temperature sensor conversion completes every 250 us, and a conversion flagged faulty excludes the sensor at once. -/
  | sensorConversion (sensor : Nat) (value : Int) (faulty : Bool)
  /-- `LANE_PLL_LOCK` (R523): A lane PLL gains lock, sets its SDLOCK bit and starts training of the lane. -/
  | lanePllLock (lane : Nat)
  /-- `WARDEN_FWSTBY` (R250): Verification of the warden standby firmware ends, STBY reads VERIFIED or REFUSED and event 0x0002 of source 18 is raised. -/
  | wardenFwstby
  /-- `SECURITY_FWSTBY` (R508): Read-back and check of the H-die standby slot or sealed-record sector ends, STBY reads verified or refused and event 0x0002 of source 128 is raised. -/
  | securityFwstby
  /-- `UNDEFINED_OPERATION` (R196): A bundle carrying an undefined OP or F code in some slot issues and the engine stops with ILLEGAL subcode 0x01. -/
  | undefinedOperation (e : Nat) (w : SlotWord) (x : Iss)
  /-- `NOP` (R189): A bundle whose slot words are all zero issues, doing nothing but advancing fetch, loops and shadows. -/
  | nop (e : Nat) (w : SlotWord) (x : Iss)
  /-- `USB_STANDARD_REQUEST` (R447): The USB host sends a standard request on control endpoint 0, such as the configuration that sets SERVICE.STAT.CONF. -/
  | usbStandardRequest (request : Nat) (value : Nat)
  deriving DecidableEq, Repr

end Sys2Proof
end

