-- ==== Sys2Proof/Config.lean ====
section
/-! DEFINITION. What the spec leaves open, as constants without a body (free values: nothing can be proved of the value they give),
and the fixed figures of the part. Each free value is named in the assumption log. -/

namespace Sys2Proof.Config

/-- A free 32-bit value: the `n`-th value the spec leaves open (log entry 3). -/
opaque freeWord : Nat → BitVec 32

/-- Whether a figure whose rounding the spec does not state is rounded up to its next unit (log entry 4). -/
opaque roundUp : Rat → Bool

/-- The square root used by the control law; the spec states no number format for it (log entry 4). -/
opaque sqrt : Rat → Rat

/-- The sine of an angle in cycles, as the part computes it (log entry 4). -/
opaque sinCycle : Rat → Rat

/-- The cosine of an angle in cycles, as the part computes it (log entry 4). -/
opaque cosCycle : Rat → Rat

/-- The angle in cycles of the point (x, y), as the part computes atan2(y, x) (log entry 4). -/
opaque atan2 : Rat → Rat → Rat

/-- The ratio of a circle's circumference to its diameter, to the precision of the part (log entry 4). -/
opaque pi : Rat

/-- The step gain of a first-order low pass with time constant `tau` at step `t`; the spec states the time constant and no
discretisation (log entry 4). -/
opaque lowPassGain : Rat → Rat → Rat

/-- Which of the results within 1 unit in the last place of the exact value a reciprocal (false) or a reciprocal square root (true) of a bit
pattern gives: R205 fixes no single one (log entry 5). -/
opaque recipStep : Bool → BitVec 32 → Nat

/-- Whether a tiny result is recognised after rounding (IEEE 754 allows both; log entry 5). -/
opaque tinyAfter : Bool

/-- Whether FMIN of +0 and -0, in that order, gives the first operand (log entry 5). -/
opaque minFirstZero : Bool

/-- What the part computes for a quotient whose divisor is 0, from the dividend: the spec states no value (log entry 85). -/
opaque overZero : Rat → Rat

/-- The natural logarithm, as the part computes it (log entry 4). -/
opaque ln : Rat → Rat

/-- Whether a signature block (its 40 words) verifies over bytes of the given SHA-384 (R173, R494); the outcome of the ECDSA check (log entry
21).
(DESIGN CHOICE: log entry 21.) -/
opaque sigOk : List (BitVec 32) → List (BitVec 32) → Bool

/-- The Usdenor image key hash and lifecycle key hash in ROM, 12 words each (R494; log entry 21). -/
opaque imageKeyHash : List (BitVec 32)
opaque lifecycleKeyHash : List (BitVec 32)

/-- Whether a certificate names the unit public key and its signature verifies under the key of the given hash (R493; log entry 21). -/
opaque ownerCertOk : List (BitVec 32) → List (BitVec 32) → Bool

/-- Usdenor's manufacturer identity in the Wicket port's IDCODE (Table 17-8), whose number the spec does not give (log entry 169). -/
opaque wicketMaker : BitVec 11

/-- Usdenor's PCIe vendor ID, whose number the spec does not give, and the function's revision (Table 3-1; log entry 139). -/
opaque vendorId : BitVec 16
opaque revisionId : BitVec 8

/-- The entry bundle of each foreground heddle of the fallback Weave, whose code the spec does not give (log entry 47). -/
opaque fbEntry : Nat → Nat

/-- The word of the fallback ROM at 8 × bundle address + slot (R185): the 512 bundles of the fallback Weave (log entry 47). -/
opaque fbRom : Nat → BitVec 32

/-- The words of the unit's identity hash (R490; log entry 21). -/
opaque identityHash : Nat → BitVec 32

/-- The word of the fallback Weave's SHA-384 hash at an index (log entry 47). -/
opaque fbHash : Nat → BitVec 32

/-- The VALUE that the interpolator of R392 forms, from FDLY and the results of the stream as (instant in threads after the thread it describes,
VALUE), newest first: the spec gives its passband and no coefficients (log entry 67). -/
opaque interpolate : Int → List (Int × Int) → Int

/-- The learned table of a phase that lies in the data memory of its cluster as DATAINIT loads it (R326, R328): the spec gives it no place there
(log entry 164). -/
opaque tableIn : Nat → List (Nat × BitVec 32) → List (Nat × Rat)

/-- The bytes of the USB device descriptor that Table 15-2 does not give: packet size of endpoint 0, vendor ID, release and string indices
(log entry 22). -/
opaque usbByte : Nat → BitVec 8

/-- The USB string descriptor of an index, for a unit serial number (R447, R491; log entry 22). -/
opaque usbString : Nat → Nat → List (BitVec 8)

/-- The nonce under which the twin burst of a pick is sealed, whose form R276 leaves open (log entry 153). -/
opaque twinNonce : Nat → List (BitVec 8)

end Sys2Proof.Config
end

