-- ==== Sys2Proof/Machine/State.lean ====
section
/-! DEFINITION. The state of the block: the register space, the queue of waiting commands, and every piece of internal state that the
spec gives the part, as plain data; the reasons a command can stop; and the state after reset. -/

namespace Sys2Proof.Machine

/-- One field of a register: the BAR0 byte address of the register, the lowest bit and the width (R74, R84). -/
structure Fld where
  addr : Nat
  lo : Nat
  wd : Nat
  deriving DecidableEq, Repr

/-- A field's accepted range: lowest bit, width, signed or not, least and greatest accepted value. -/
structure RangeSpec where
  lo : Nat
  wd : Nat
  sgn : Bool
  min : Int
  max : Int
  deriving DecidableEq, Repr

/-- One register, or an array of `cnt` registers `stride` bytes apart: reset word, RO bits, writable bits, the writable bits that are
never stored ("reads 0"), whether writes are staged (RWS), the RWL bits of each lock group, and the accepted ranges. -/
structure RegSpec where
  off : Nat
  cnt : Nat
  stride : Nat
  rst : Nat
  ro : Nat
  rw : Nat
  cmd : Nat
  staged : Bool
  locks : List (Nat × Nat)
  ranges : List RangeSpec
  deriving DecidableEq, Repr

/-- One line of Table 3-5: first page, instances, type code, page source of the first instance, `PGEVT` bits in use. -/
structure PageType where
  first : Nat
  count : Nat
  code : Nat
  source : Nat
  evt : Nat
  deriving DecidableEq, Repr

/-- A command segment as it leaves (Table 8-5), without its tag: the CTL byte, and the edge words of legs L and M (Table 8-6). -/
structure Segment where
  cell : Nat
  hop : Nat
  ctl : Nat
  pxfer : Nat
  inref : Nat
  vset : Nat
  edgeL : List Nat
  edgeM : List Nat
  swarp : Word
  deriving DecidableEq, Repr

/-- A block of the line code (Table 8-1): the sync bit, set in a control block, and 32 bytes. -/
structure Block where
  ctl : Bool
  bytes : List Byte
  deriving DecidableEq, Repr

/-- What the part sends to its surroundings while it executes one command. -/
inductive Out where
  /-- A PCIe completion with its words, in ascending address order (R74). -/
  | pcie (tag : Nat) (words : List Word)
  /-- An SPI answer: STATUS byte, data words, CRC over both (R78). -/
  | spi (status : Nat) (words : List Word) (crc : Nat)
  /-- An MSI-X message of a vector (R104). -/
  | msix (vec : Nat)
  /-- A service-port answer (R449, Table 15-3): OP | 0x80, TAG, STATUS, ADDR, words done, and the words read. -/
  | svc (op tag status addr done : Nat) (words : List Word)
  /-- The answer to a standard request on control endpoint 0, none = refused (R447). -/
  | usb (answer : Option (List Byte))
  /-- The words that a register read returned to its reader. -/
  | read (words : List Word)
  /-- A block token on a lane: its two blocks and the resumption of the burst in progress (R255, R256). -/
  | blockToken (lane : Nat) (blocks : List Block)
  /-- A command burst on a lane with its header's DT2 and DT3 and its segments, and its blocks (R257, R258). -/
  | burst (lane dt2 dt3 : Nat) (segs : List Segment) (blocks : List Block)
  /-- A collect burst leaving on a lane (R257). -/
  | collect (lane : Nat) (blocks : List Block)
  /-- A burst on a lane that carries a management message (R259). -/
  | mgmt (lane : Nat) (m : Mgmt) (blocks : List Block)
  /-- A pulse on SYNC_OUT of a width in units of 0.1 µs (R300). -/
  | sync (width : Nat)
  /-- A word shifted out of the Wicket port (R505). -/
  | tap (bits : Nat) (len : Nat)
  /-- The boundary register drives the balls (R505). -/
  | balls (boundary : Nat)
  /-- A refresh pulse on a Louvre half-bridge (R470). -/
  | refresh (halfBridge : Nat)
  /-- The twin burst of a pick on both T lanes: the pick, YIELD, the armed switch reported and those cancelled (R181), the announced changes
  of ownership (R272), the records committed, the CRC-64 over them, and its blocks (R276). -/
  | twin (pick : Nat) (yield : Bool) (armed : Option (Nat × Nat)) (cancelled : List (Nat × Nat)) (changes : List OwnChange) (recs crc : Nat) (blocks : List Block)
  /-- A DISCOVER burst on a lane (R263). -/
  | discover (lane : Nat) (blocks : List Block)
  /-- A frame of a direction of the shuttle link, with the mask of the channels that carry it and its 32 bytes (R39, R40, R71). -/
  | shuttle (fromH : Bool) (chans : Nat) (f : Frame) (bytes : List Byte)
  deriving DecidableEq, Repr

/-! ### Supplies and dies -/

/-- How far a die has come from its supplies (R518–R522). -/
inductive Die where
  /-- its supplies are out of range -/
  | off
  /-- its supplies are in range and the reset hold runs -/
  | hold
  /-- out of reset; H-die: the ROM boots; F-die: the PLL has not locked -/
  | boot
  /-- H-die: the firmware runs; F-die: the loom clock runs -/
  | run
  deriving DecidableEq, Repr

/-- The two dies' supply and start-up state and the pins that belong to neither page. -/
structure Pwr where
  h : Die
  f : Die
  /-- PERST_N asserted (R519) -/
  perst : Bool
  /-- the D-die drives all 24 gate outputs low (R36) -/
  gatesLow : Bool
  /-- VM or VGD is low, and the D-die stops every channel (R468) -/
  uv : Bool
  /-- GRID_OPEN as the F-die drives it: `none` when undriven (R542) -/
  gridOpen : Option Bool
  /-- the H-die is in a firmware restart (R509) -/
  restarting : Bool
  /-- block control in every downlink after a cluster stop or a clock loss (R168, R435) -/
  forceBlock : Bool
  /-- the block control that the bursts of the present pick carry because of a condition that stood at its start (R63, R168) -/
  blockOn : Bool
  /-- the pin PLL_LOCK: low while N < 48, high at N = 48 in lock (R434) -/
  pllLock : Bool
  deriving DecidableEq, Repr

/-! ### The shuttle link (R38–R59) -/

/-- One direction of the link, with the sender's and the receiver's sides. -/
structure Dir where
  /-- number the sender assigns next (R43) -/
  txNext : Nat
  /-- the last 128 sequenced frames sent, newest first (R46) -/
  kept : List Frame
  /-- frames to send again, oldest first (R46) -/
  replay : List Frame
  /-- the sequenced frames sent since link-up that the receiver has not acknowledged, newest first (R55, R56) -/
  unack : List Frame
  /-- number the receiver expects next, E (R44) -/
  e : Nat
  /-- frames held by the receiver, by number (R44) -/
  held : List Frame
  /-- receiver's channels in service -/
  rx0 : Bool
  rx1 : Bool
  /-- per channel, how long before the latest corrupt frame each of the last corrupt frames within 100 µs came, in ns, newest first (R51) -/
  bad0 : List Nat
  bad1 : List Nat
  /-- an out-of-service channel: 0 = not retrained yet, else one more than its consecutive intact frames since (R52) -/
  good0 : Nat
  good1 : Nat
  /-- number of the latest sequenced frame that has come on channel 0 or 1 (R45) -/
  late0 : Option Nat
  late1 : Option Nat
  /-- replay requests made for the present E without progress (R46) -/
  asked : Nat
  /-- main queue of the sender, oldest first (R49, R50) -/
  queue : List Payload
  /-- frames of class 5: BULK on the H-die, SELV_FRAG on the F-die -/
  bulkQ : List Payload
  /-- time marks waiting to leave -/
  marks : List Payload
  /-- a KEEPALIVE with a replay request, or with a changed status bit, waits (class 1 of R50) -/
  urgent : Option Payload
  /-- status bits of the last KEEPALIVE sent (byte 6) -/
  lastBits : Nat
  /-- class 5 took the last slot (R50: one slot in every two) -/
  lastBulk : Bool
  /-- mark number of the sender's last mark, and of the last one delivered (R47) -/
  markTx : Nat
  markRx : Option Nat
  deriving DecidableEq, Repr

/-- Who waits for the words of a READ_REQ.
(DESIGN CHOICE: log entry 120.) -/
inductive Via where
  /-- a PCIe request, with the words it still gathers -/
  | pcie (tag : Nat)
  | spi
  | svc
  /-- the H-die's own reads: 0 = S0 comparison (R411), 1 = temperature copies (R429), 2 = quote (R496) -/
  | own (what : Nat)
  deriving DecidableEq, Repr

/-- An outstanding read of F-die registers (R55). -/
structure Outstanding where
  tag : Nat
  addr : Nat
  count : Nat
  via : Via
  deriving DecidableEq, Repr

/-- A PCIe read being gathered: its tag and, in address order, the words come so far or still missing. -/
structure Gather where
  tag : Nat
  words : List (Nat × Option Word)
  deriving DecidableEq, Repr

/-- The link as both dies see it. -/
structure Link where
  up : Bool
  /-- H to F -/
  hf : Dir
  /-- F to H -/
  fh : Dir
  /-- reads sent to the F-die and not answered -/
  reads : List Outstanding
  gathers : List Gather
  /-- next TAG the H-die chooses -/
  nextTag : Nat
  /-- F-die pages not ready as last reported in KEEPALIVE byte 6 bit 4 -/
  fNotReady : Bool
  /-- the F-die's event backlog, oldest first, 1,024 at most (R56) -/
  backlog : List Event
  /-- events discarded during the present outage -/
  lostNow : Nat
  /-- accepted host accesses on the F-die awaiting a host-access window (R49, R147) -/
  access : List Payload
  /-- arrived staged writes with the short warp of arrival, oldest first (R89) -/
  arrived : List (Nat × Word × Word)
  /-- events held behind a selvedge capture (R111) -/
  selvHeld : List Event
  /-- the request whose last fragment ends that hold -/
  selvHolding : Option Nat
  /-- level of each F-die page source as last committed for the H-die (R102) -/
  flevel : List Nat
  /-- page sources whose last level change was discarded, the backlog being full (R56, R102), rising -/
  flost : List Nat
  /-- the one-way delay of a mark as the F-die knows it from the last calibration, 0.1 ns per LSB (R59) -/
  fDelay : Nat
  /-- `PGEVT` bits of F-die pages that hardware has set in the present pick, by page (R91) -/
  evNow : List (Nat × Nat)
  /-- the GATE heddle of the present pick has applied its staged writes (R145) -/
  gated : Bool
  /-- the writes of its own that the H-die sends in its next slots (R461, R465) -/
  soon : List Payload
  deriving DecidableEq, Repr

/-! ### The shutter permit on the F-die (R60–R67) -/

structure Permit where
  /-- an edge has become the reference edge since F-die reset (R61) -/
  haveRef : Bool
  /-- a valid edge has restarted the 2.0 µs timer and it has not run out -/
  timing : Bool
  /-- the unit has yielded its cells (R67) -/
  yielded : Bool
  /-- GRID_OPEN of the yielded unit is asserted, by a safety demand or by a closure after its shutter has reopened (R67) -/
  forced : Bool
  deriving DecidableEq, Repr

/-! ### Host interfaces, watchdog, interrupt controller, journal, selvedge (chapter 3) -/

/-- An SPI read in progress (R80). -/
structure SpiRead where
  addr : Nat
  count : Nat
  /-- data come so far, `none` until it has returned -/
  data : Option (List Word)
  /-- STATUS has been sent -/
  answered : Bool
  deriving DecidableEq, Repr

structure HostIf where
  spi : Option SpiRead
  /-- an undefined SPI command ended the frame; SCLK is ignored until SPI_CS_N rises (R77) -/
  spiDead : Bool
  /-- STATUS bits LASTCRC and WDROP as they wait for the next STATUS byte (R78) -/
  lastCrc : Bool
  wdrop : Bool
  /-- staged writes accepted on the H-die and not yet delivered (R83) -/
  staged : List (Nat × Word)
  /-- the H-die stands in the stall of R83 -/
  stalled : Bool
  /-- MSI-X enabled, function masked (PCIe configuration state, cleared by FLR, R75) -/
  msixEn : Bool
  msixMask : Bool
  /-- the function stands in D3hot; its maximum payload and read request size in bytes (Table 3-1) -/
  d3 : Bool
  mps : Nat
  mrrs : Nat
  /-- ASPM L1 is enabled; the uncorrectable error mask, the uncorrectable error severity and the correctable error mask of AER (Table 3-1) -/
  aspm : Bool
  aer : Word × Word × Word
  /-- LO/HI shadows by (agent, LO address): the words loaded (R120) -/
  shadows : List ((Nat × Nat) × List Word)
  deriving DecidableEq, Repr

/-- The host watchdog on both dies (R94, R556). -/
structure Watchdog where
  /-- the count runs and has not expired since it was last restarted -/
  counting : Bool
  /-- the reference factor, 1 to 0 -/
  factor : Rat
  /-- the factor's rate per second; and the rate that the last expiry has fixed, for the action that follows it -/
  rate : Rat
  rateNext : Rat
  /-- the factor's direction: true = falling -/
  falling : Bool
  ramping : Bool
  /-- `HWDCTL` as last passed to the F-die -/
  fCtl : Word
  /-- an expiry has been passed to the F-die and its action waits for a GATE heddle -/
  pass : Bool
  /-- the F-die acts on its own during an outage (R56) -/
  fAlone : Bool
  /-- the state the F-die has reached: codes of `HWDSTAT.STATE` -/
  fState : Nat
  /-- HELD, and the factor has not reached 0, where GRID_OPEN is asserted (Table 3-14) -/
  holdOpen : Bool
  deriving DecidableEq, Repr

/-- The interrupt controller beyond its registers. -/
structure Intc where
  /-- level sources whose level is asserted, rising -/
  level : List Nat
  /-- WARDEN-target level sources held until their level drops (R105), rising -/
  held : List Nat
  /-- those of them whose frame was dropped: they leave the hold once the F-die can be reached (R105), rising -/
  dropped : List Nat
  deriving DecidableEq, Repr

/-- One journal entry (Table 3-21). -/
structure JEntry where
  seq : Nat
  swarp : Word
  wcf : Nat
  source : Nat
  flags : Nat
  code : Nat
  data : Nat
  deriving DecidableEq, Repr

structure Journal where
  /-- retained entries, newest first, 4,096 at most (R108) -/
  entries : List JEntry
  next : Nat
  deriving DecidableEq, Repr

/-- The selvedge (R111, R112). -/
structure Selv where
  /-- request number of the assembly in progress -/
  busy : Option Nat
  /-- last request number assigned -/
  last : Nat
  /-- request delivered to the F-die and awaiting the next pick boundary -/
  capture : Option Nat
  /-- fragments come so far: (offset in the window, byte) -/
  frags : List (Nat × Byte)
  /-- the window's bytes, as (offset, byte) pairs, offsets rising, zero bytes left out -/
  window : List (Nat × Byte)
  deriving DecidableEq, Repr

/-! ### Warp and time (chapter 4) -/

/-- One second-order generalised integrator: its in-phase and quadrature outputs and the last input (R122). -/
structure Sogi where
  v : Rat
  q : Rat
  u : Rat
  deriving DecidableEq, Repr

structure Warp where
  /-- the 96-bit accumulator (R113) -/
  acc : BitVec 96
  /-- an INC committed by cluster P and not yet in force (R115) -/
  incNext : Option Nat
  /-- INC of the pick before (R118), and the loom clocks it lasted (R149) -/
  incPrev : Nat
  lenPrev : Nat
  /-- the warp advances: the system PLL has locked -/
  running : Bool
  /-- an image has started since F-die reset (R117) -/
  begun : Bool
  a : Sogi
  b : Sogi
  /-- measured angle and control offset, in cycles (R122, R130) -/
  thetaM : Rat
  delta : Rat
  /-- |V+| in units of its base -/
  vpos : Rat
  /-- measured frequency, warp frequency and flywheel target, Hz -/
  fm : Rat
  fw : Rat
  fHold : Rat
  /-- `f_m` of the last valid pick whose steering is done, and of the last valid pick before the event began -/
  fLast : Option Rat
  fBefore : Option Rat
  /-- picks for which |V+| has stayed at or above VMIN (R123) -/
  validRun : Nat
  /-- picks for which the LOCK conditions have held (R127) -/
  lockRun : Nat
  /-- picks left of the f_m freeze (R124) -/
  freeze : Nat
  /-- departures of θm from its prediction in the last half cycle, newest first (R124) -/
  depart : List Rat
  /-- a ride-through hold was in force in the last pick -/
  hold : Bool
  deriving DecidableEq, Repr

structure Clk where
  /-- the wall clock: 40-bit seconds and the fraction in 2^-48 s (R131) -/
  sec : Nat
  frac : Nat
  /-- a set is armed (R136) -/
  setPend : Bool
  /-- an earlier PPS edge stands as reference (R134) -/
  ppsRef : Bool
  /-- accepted edges since the reference edge -/
  ppsRun : Nat
  /-- the frequency term RF, in ppb (R135) -/
  rf : Rat
  rate : Rat
  /-- time since the last PPS edge, accepted or not, in 2^-32 s -/
  edgeAge : Option Nat
  /-- stamp and wall clock in 2^-48 s of the two newest angle-zero marks, newest first (R140) -/
  marks : List (Stamp × Int)
  /-- time since the last delay calibration, in 2^-32 s; `none` when none has been made since H-die reset (R59) -/
  cal : Option Nat
  deriving DecidableEq, Repr

/-! ### The Weave (chapter 5) -/

structure Bank where
  /-- received bytes that are not 0x00, offsets rising (R175) -/
  content : List Host.Cell
  /-- the image verified in the bank -/
  img : Option Image
  /-- short warp of the pick in which the last segment of the bank came (Table 3-23) -/
  load : Word
  deriving DecidableEq, Repr

/-- An armed switch (R178). -/
structure Switch where
  bank : Nat
  cycle : Nat
  /-- pick (cycle × 4,096 + pick) of its arming -/
  since : Nat
  deriving DecidableEq, Repr

structure WeaveSt where
  banks : List Bank
  armed : Option Switch
  /-- the image that runs, or that ran when the fallback started (R166) -/
  img : Option Image
  /-- the cold switch's bank while its loading lasts -/
  loading : Option Nat
  /-- the check of pick 4,095 has confirmed a switch at the coming boundary: bank and cold (R178, R180) -/
  due : Option (Nat × Bool)
  /-- a converter fault is pending: the fallback starts at the next pick (R166) -/
  fbPend : Option Nat
  /-- the fallback has ramped the references to zero, and the pick in which it did; it has blocked (R167) -/
  fbZero : Bool
  fbZeroAt : Nat
  fbBlocked : Bool
  /-- the references' factor in the fallback, 1 to 0 (R167) -/
  fbFactor : Rat
  /-- clusters stopped by the reed (R168) -/
  stopped : List Bool
  /-- clusters that commit no further record of this pick (R164) -/
  noCommit : List Bool
  /-- contract violations reported to the reed and not yet voted: (cluster, engine, check) -/
  viols : List (Nat × Nat × Nat)
  /-- engines that stopped on a check which a majority of their cluster reported (R164, R235) -/
  majStop : List Bool
  /-- parameter store and shared-state store, words that are not 0 (R151, R152) -/
  params : List (Nat × Word)
  shared : List (Nat × Word)
  /-- the image occupies the upper half of instruction memory (R172) -/
  half : Nat
  /-- the partner's armed switch: twin hash and cycle (R181) -/
  partnerArm : Option (Nat × Nat)
  /-- a converter fault came while a cold switch loads (R166) -/
  fbWhileLoading : Option Nat
  /-- loading is complete: the image starts at the next pick boundary -/
  starting : Bool
  /-- twin mode and unit number as the F-die has them from its first verified image (Table 3-25): bit 0 = twin, bit 1 = unit, bit 2 = an
  image has verified -/
  mode : Nat
  /-- the boundary of a switch or of a fallback's first pick has come and the clusters' plans wait for that command -/
  deferred : Bool
  /-- pick (cycle × 4,096 + pick) in which the running image began to issue: its jobs' periods count from it (R160, R176) -/
  began : Nat
  /-- REGION of the sealed record as the H-die passed it last (R463) -/
  region : Nat
  deriving DecidableEq, Repr

/-! ### S0 inputs (R410, R411) -/

structure S0St where
  /-- the accumulator's value at the previous comparison, per input; `none`: the next comparison takes the baseline -/
  base : List (Option Nat)
  /-- the ON in progress has been counted at MAXON -/
  maxed : List Bool
  /-- pulses counted since the last comparison -/
  pulses : List Nat
  deriving DecidableEq, Repr

/-! ### The porter (R509–R516) -/

/-- A retained journal entry (Table 17-10). -/
structure RjEntry where
  seq : Nat
  sec : Nat
  flags : Nat
  code : Nat
  data : Nat
  deriving DecidableEq, Repr

structure PorterSt where
  /-- a source qualifies and the porter runs (R510) -/
  on : Bool
  /-- RTC seconds (40 bits) -/
  rtc : Nat
  /-- retained entries, newest first, 512 at most (R516) -/
  rj : List RjEntry
  next : Nat
  /-- watched doors as last reported closed (`none` before the watch has started), those of the last sample, and the doors watched then
  (R514) -/
  doors : Option Nat
  doorsSeen : Nat
  doorsMask : Nat
  /-- the mirror of the lifecycle state (R515) -/
  lcMirror : Nat
  /-- retained entries written while the H-die was down (Table 17-12) -/
  down : Nat
  /-- ticks of the 32.768 kHz crystal beyond the last whole second, and the part of a tick that the trim carries (R513) -/
  ticks : Int
  trim : Rat
  /-- the input voltage that the boost converter draws at, in mV (R511) -/
  vdraw : Nat
  deriving DecidableEq, Repr

/-! ### Loom engines (chapter 6) -/

/-- A loop level: START, END and count (R211). -/
structure Loop where
  first : Nat
  last : Nat
  cnt : Nat
  deriving DecidableEq, Repr

/-- A pending branch: outcome and target as evaluated at issue, and the delay bundles still to issue (R210). -/
structure Branch where
  taken : Bool
  target : Nat
  left : Nat
  deriving DecidableEq, Repr

/-- What a stop record and a flag capture say about a bundle (Table 6-13). -/
structure Attr where
  fpc : Nat
  rom : Bool
  xdly : Nat
  xshd : Nat
  xlend : Bool
  xlvl : Nat
  xmode : Nat
  /-- counts of the active levels at issue, outermost first -/
  xcnt : List Nat
  /-- the context that issued it: background -/
  bg : Bool
  deriving DecidableEq, Repr

/-- Where a result in flight goes. -/
inductive Dest where
  | g (n : Nat)
  | p (n : Nat)
  | a (n : Nat)
  /-- a clear of FLAGS bits (the value) -/
  | clear
  /-- uncorrectable load data, in a memory and codeword as `ECCLAST` names them: the engine stops with cause 0x2 and this value as SUB -/
  | ue (mem addr : Nat)
  deriving DecidableEq, Repr

/-- A result in flight: the loom clock from which it reads, the order of its issue, and the flags it sets (R197, R208). -/
structure Flight where
  ready : Nat
  issue : Nat
  slot : Nat
  bg : Bool
  dest : Dest
  val : Nat
  flags : Nat
  attr : Attr
  deriving DecidableEq, Repr

/-- A park store entry (R188). -/
structure Park where
  pc : Nat
  branch : Option Branch
  shadow : Option (Nat × Nat)
  loops : List Loop
  g : List Word
  p : List Bool
  a3 : BitVec 72
  acc3 : BitVec 72
  mode : Nat
  flags : Nat
  fcap : Word × Word
  lnk : Nat
  deriving DecidableEq, Repr

/-- An output record as an engine issues it (R149, R195): kind 1 = edge, 2 = ring, 3 = shared state, 4 = event. -/
structure Rec where
  kind : Nat
  a : Word
  b : Word
  lc : Nat
  /-- issued in the last clocks of the pick before: it commits in this one (R149) -/
  old : Bool
  deriving DecidableEq, Repr

/-- One loom engine (Table 6-1). -/
structure Eng where
  g : List Word
  p : List Bool
  /-- accumulators as ACR reads them, and as the accumulate stage holds them (R199) -/
  a : List (BitVec 72)
  acc : List (BitVec 72)
  modeF : Nat
  modeB : Nat
  flagsF : Nat
  flagsB : Nat
  fcapF : Word × Word
  fcapB : Word × Word
  lnkF : Nat
  lnkB : Nat
  /-- loop stack of the running context, outermost first -/
  loops : List Loop
  branch : Option Branch
  /-- pending mode change per context: new mode, shadow bundles still to issue (R215) -/
  shadowF : Option (Nat × Nat)
  shadowB : Option (Nat × Nat)
  /-- the background context runs -/
  bg : Bool
  /-- a context issues: between the start of a heddle's code and its end marker -/
  running : Bool
  /-- the heddle's END marker, or the job's JEND, has issued -/
  ended : Bool
  pc : Nat
  rom : Bool
  /-- loom clock within the pick, and the count of loom clocks that orders results -/
  lc : Nat
  now : Nat
  flight : List Flight
  bundle : List SlotOp
  /-- words of instruction memory that are not 0, by 8 × bundle address + slot, the lower half first (R172, R185) -/
  im : List (Nat × Word)
  /-- words of data memory and angle tables that are not 0, by word address -/
  dm : List (Nat × Word)
  at' : List (Nat × Word)
  park : List (Nat × Park)
  job : Option Nat
  /-- the last bundle issued -/
  lastAttr : Option Attr
  /-- records issued and not committed, oldest first -/
  recs : List Rec
  /-- warp cycle in which event 0x0002 was last raised (R220) -/
  eccCycle : Option Nat
  deriving DecidableEq, Repr

/-- What a cluster's engines share: the ring buffer and ADC result buffers (words that are not 0), whether RXDONE of the pick has passed,
the heddle running (by index), and the ADC result words whose conversion for this pick has not landed. -/
structure Clu where
  ringBuf : List (Nat × Word)
  adcBuf : List (Nat × Word)
  rxDone : Bool
  heddle : Option Nat
  due : List Nat
  /-- jobs that have not ended in their present period, each with the pick (cycle × 4,096 + pick) in which that period began; and those of
  them that have missed their deadline (R160) -/
  late : List (Nat × Nat)
  missed : List Nat
  /-- stamp of the last committed pick (log entry 9) -/
  lastCommit : Stamp
  /-- loom clocks of REPAIR heddle time of the running attempt: the copy takes the first 39,552, and the verifier runs 8 behind (R228, R229) -/
  repTime : Nat
  /-- memory blocks that the warden has audited in the running heddle (R239) -/
  audits : Nat
  /-- pick (cycle × 4,096 + pick) in which the target's probation began (R230) -/
  probAt : Option Nat
  /-- pick of each half's trip, and its self-test: 0 = none, 1 = running, 2 = passed, 3 = failed (R233) -/
  halfAt : List (Option Nat)
  halfTest : List Nat
  deriving DecidableEq, Repr

/-- The warden and the reed's commands (R232, R238–R240, R250). -/
structure WardenSt where
  /-- the ENGCTL command that waits for the pick boundary -/
  engctl : Option Word
  /-- engines for which the host has commanded REPAIR (R227) -/
  repReq : List Bool
  /-- queued source numbers, oldest first -/
  irq : List Nat
  /-- writes that the warden has staged: (address, word), oldest first (R237) -/
  staged : List (Nat × Word)
  /-- blocks that the present pass of the audit has compared, per cluster (R239) -/
  audited : List (List Nat)
  /-- standby area: received bytes that are not 0x00, and whether a verification has been asked for -/
  stby : List Host.Cell
  verifying : Bool
  /-- version and SVN of a verified standby image -/
  stbyVer : Nat
  stbySvn : Nat
  /-- SVN of the running firmware -/
  svn : Nat
  deriving DecidableEq, Repr

/-! ### Temperatures (chapter 14) -/

/-- Sensors are numbered FT_0–FT_8 = 0–8, HT_0–HT_3 = 9–12, DT_0–DT_1 = 13–14; dies F = 0, H = 1, D = 2. -/
structure HeatSt where
  /-- last conversions per sensor, newest first, four at most (R413) -/
  conv : List (List Int)
  /-- a first reading has been formed (R415) -/
  has : List Bool
  /-- consecutive readings more than 8.0 °C off the median, and within 4.0 °C of it (R414) -/
  off : List Nat
  near : List Nat
  /-- levels entered and not left, per die: bit 0 = WARNING, bit 1 = THROTTLE, bit 2 = SHUTDOWN (R417) -/
  entered : List Nat
  /-- at or above the hard limit, per die (R421) -/
  hard : List Bool
  /-- an NTC input's action is in force (R427) -/
  ntcAct : List (Option Nat)
  /-- frames of the present 10 ms copy that have come, as a mask of four (R429) -/
  frames : Nat
  /-- the F-die's level as the H-die last read it (R420, R429) -/
  fLevel : Nat
  /-- loom clocks left of the running scrub pass, per cluster (R424) -/
  scrubLeft : List Nat
  /-- a band change whose lane preset waits for the pick boundary (R424) -/
  presetPend : Bool
  deriving DecidableEq, Repr

/-! ### Panel, safety and seal (chapter 15) -/

/-- Touch keys and buttons beyond their registers, one entry per key 0–11 or button 0–3. -/
structure PanelSt where
  /-- RAW of the scans before a key's first baseline (R439) -/
  raws : List (List Nat)
  hasBase : List Bool
  /-- consecutive scans with delta ≥ TTH, and with delta ≤ −NTH -/
  deb : List Nat
  neg : List Nat
  /-- scans that the touch, or the quiet period of a stuck key, has lasted (R443) -/
  held : List Nat
  quiet : List Nat
  /-- scans since the page was enabled (R441) -/
  scans : Nat
  /-- consecutive samples at the other level, per button (R445) -/
  btn : List Nat
  /-- milliseconds since BTN_0's debounced press (R460) -/
  press0 : Nat
  deriving DecidableEq, Repr

/-- A request that the service port holds (R449, R451). -/
inductive SvcReq where
  | opens (level : Nat) (cred : List Word)
  | close
  | read (addr count : Nat)
  | write (addr : Nat) (data : List Word)
  | ping
  /-- a message whose length does not fit its OP -/
  | bad
  deriving DecidableEq, Repr

/-- A received request as the port holds it (R451): OP, TAG, ADDR and COUNT of the message, and what it asks. -/
structure SvcHeld where
  op : Nat
  tag : Nat
  addr : Nat
  count : Nat
  req : SvcReq
  deriving DecidableEq, Repr

structure SvcSt where
  /-- held requests, oldest first, eight at most -/
  held : List SvcHeld
  /-- the oldest one is a read that waits for the F-die -/
  waiting : Bool
  /-- SEC of the last credential accepted since H-die reset (R503) -/
  lastSec : Option Nat
  deriving DecidableEq, Repr

/-- The safety block and the seal read beyond their registers. Channels are numbered 2i = A and 2i + 1 = B of input i. -/
structure SafetySt where
  /-- the last sample, and the filtered states once formed (true = closed) -/
  last : List (Option Bool)
  filt : List (Option Bool)
  /-- consecutive samples at which an input's filtered channels disagree -/
  dis : List Nat
  /-- consecutive failed and passed tests per input -/
  fails : List Nat
  passes : List Nat
  /-- first failing part found in the TP_A pulse of the test in progress, per input; 0 = none -/
  partA : List Nat
  /-- the reset that started the self-test came from BTN_0 -/
  byBtn : Bool
  /-- the self-test of the H-die start runs (R458) -/
  startTest : Bool
  /-- inconsistent seal reads in a row; a retry waits (R464) -/
  incons : Nat
  retry : Bool
  deriving DecidableEq, Repr

/-! ### Louvre drives, auxiliary supply, H-die ADC and comparators (chapter 16) -/

/-- One Louvre channel beyond its page. Times are in 10 ns unless stated. -/
structure LouvSt where
  /-- milliseconds counted by the speed loop -/
  ms : Nat
  /-- times of the stalls of the last 60 s, newest first (R477) -/
  stalls : List Nat
  /-- the present COAST follows a stall -/
  stalled : Bool
  sector : Nat
  /-- lengths of the last six sectors, newest first (R472) -/
  lens : List Nat
  /-- measured rotation is that of DIR = 1 -/
  rev : Bool
  /-- crossings accepted in a row at the expected sector in RAMP -/
  cross : Nat
  /-- a crossing of the present sector has been accepted -/
  seen : Bool
  /-- debounced Hall code -/
  hall : Nat
  /-- duty that applies from the next PWM period, 2^-16 per LSB -/
  duty : Nat
  /-- target in effect, rpm -/
  tgt : Rat
  /-- target of the curve, rpm -/
  curve : Nat
  /-- 50 ms waits spent in CATCH against DIR -/
  against : Nat
  /-- the current limit has tripped in this period; the period before had a trip -/
  trip : Bool
  tripRun : Bool
  /-- time since each half-bridge's low side was on for 1 µs (R470) -/
  lowAge : List Nat
  /-- half-bridges on which a cause 0x1–0x3 condition is detected, as a mask (R479) -/
  cond : Nat
  /-- milliseconds in RUN since the last whole second counted -/
  runMs : Nat
  /-- the control clock's divider that the channel counts by, taken at each PWM period (R481) -/
  div : Nat
  /-- a fault has come in this PWM period, and the half-bridges without it drive to its end (R479) -/
  ending : Bool
  deriving DecidableEq, Repr

structure AuxSt where
  /-- AUX_FB samples of the last 1 ms, newest first -/
  fbs : List Nat
  /-- cycles since the soft start began, and since the last PI step -/
  cycles : Nat
  step : Nat
  integ : Rat
  /-- consecutive cycles ended by HCMP_1; consecutive samples above OVP -/
  oc : Nat
  ov : Nat
  /-- the controller's own time in µs, and the entries into HICCUP of the last 10 s -/
  time : Rat
  hiccups : List Rat
  deriving DecidableEq, Repr

structure AnalogSt where
  /-- HADC windows departed from, and HCMP trips in a run, as masks -/
  winOut : Nat
  run : Nat
  deriving DecidableEq, Repr

/-! ### Fuses, security core, Wicket (chapter 17) -/

/-- The fuses: state words MAKER to VOID with three copies each, and the fuse-backed fields. -/
structure Fuses where
  words : List (List Bool)
  revoke : Bool
  hfw : Nat
  wfw : Nat
  /-- the owner key hash's 12 words as far as burned, and its valid word -/
  ownKey : List Word
  ownValid : Bool
  pll : Word
  pllValid : Bool
  deriving DecidableEq, Repr

/-- One step of a fuse programming sequence (R500). -/
inductive FuseTask where
  /-- copy of a state word (0 = MAKER … 4 = VOID) -/
  | copy (w c : Nat)
  | revoke
  | hfw
  | wfw
  | ownWord (i : Nat) (v : Word)
  | ownValid
  | pll (v : Word)
  | pllValid
  deriving DecidableEq, Repr

structure SecSt where
  fuses : Fuses
  /-- unit serial number -/
  serial : Nat
  /-- the unit key is present -/
  key : Bool
  /-- certificates unit, product CA, owner, ring: length in bytes (0 = absent) and words -/
  certs : List (Nat × List Word)
  /-- the owner certificate being written through the CERT window, words by index -/
  ownBuf : List (Nat × Word)
  /-- nonce, short warp and wall clock of the quote being built; F-die items come so far; one was not ready -/
  nonce : List Word
  qTime : Word × Word × Word
  qItems : List (Nat × List Word)
  qFail : Bool
  /-- words of the external flash that are not erased, by their address / 4, and the slot that its boot selector names (R507) -/
  flash : List (Nat × Word)
  sel : Nat
  /-- SHA-384 of the running firmware and of the sealed record in force (Table 17-3) -/
  fwHash : List Word
  recHash : List Word
  /-- the target whose read-back runs; the target of the last verification -/
  fwCheck : Option Nat
  fwTarget : Nat
  /-- SVN of the verified standby image and of the running firmware -/
  stbySvn : Nat
  svn : Nat
  /-- programming in progress: what remains, and what it is for (a transition's target code, or 8 + WHAT of a burn) -/
  tasks : List FuseTask
  job : Option Nat
  /-- Wicket: instruction in effect, preloaded boundary data, challenge awaiting its response -/
  ir : Nat
  boundary : Nat
  challenge : Option (List Word)
  deriving DecidableEq, Repr


/-! ### Cells (chapter 1) and the ring (chapter 8) -/

/-- A cell's downlink image (R261): bit patterns of Table 8-5. -/
structure Downlink where
  pxfer : Nat
  inref : Nat
  vset : Nat
  bypcmd : Nat
  block : Bool
  unblk : Bool
  deriving DecidableEq, Repr

/-- A reduced collect segment: the pick of its data, the loom clock of completion, and its ring-buffer block (Table 8-11). -/
structure Reduced where
  pick : Nat
  lc : Nat
  words : List Word
  deriving DecidableEq, Repr

/-- One cell beyond its page. -/
structure CellSt where
  dl : Downlink
  /-- the bypass command that awaits confirmation: 1 = close, 2 = open (R23) -/
  await : Option Nat
  /-- the last bypass command has been confirmed -/
  conf : Bool
  /-- in the phase count, and in it from the coming boundary as its load point has it (R22, R299) -/
  counted : Bool
  next : Bool
  /-- lost from both directions; its bypass is taken as closed (R24) -/
  lost : Bool
  gone : Bool
  /-- pick (cycle × 4,096 + pick) in which a host write of SERVICE last put it out of service (R27) -/
  svcPick : Option Nat
  /-- cause last published for it -/
  cause : Nat
  /-- picks in a row with input present -/
  inok : Nat
  /-- reductions, newest first, two at most (R274) -/
  red : List Reduced
  /-- the latest segment failed authentication -/
  authBad : Bool
  /-- picks in a row with its segment absent or its PRES bit missing (Table 8-10) -/
  miss : Nat
  /-- picks in a row with PRES in its default direction (R270) -/
  good : Nat
  /-- a decided change of its owner: the direction, and the pick boundaries until it takes effect, the next being 1 -/
  ownNext : Option (Nat × Nat)
  /-- the AES-256-GCM keys of direction a and of direction b, 32 bytes each; empty = unkeyed (R265) -/
  keys : List (List Byte)
  /-- sum over the present cycle of the squared output current, and the picks in it -/
  isum : Rat
  icnt : Nat
  /-- slot 63 of IL and IM in the segment before (Table 8-11) -/
  last63 : Int × Int
  deriving DecidableEq, Repr

/-- One cell-ring lane beyond its page: step of its enumeration (0 = none, 1 = training, 2 = discovery, 3 = keying, 6 = waiting for the
first collect burst), DISCOVER results so far, hops keyed or given up, hops configured and hops that did not acknowledge their
configuration, picks in a row locked and intact, the cycles of the last AUTHERR and AGED reports; and of its bursts. -/
structure RingDir where
  step : Nat
  disc : List Discover
  tried : List Nat
  conf : List Nat
  mute : List Nat
  good : Nat
  authCycle : Option Nat
  agedCycle : Option Nat
  /-- a serial mismatch between the directions leaves the direction unkeyed -/
  bad : Bool
  /-- the ownership maps of the pick before and of the one before that (R270) -/
  own1 : Nat
  own2 : Nat
  /-- the loom clock at which the collect burst began, and its blocks (R257) -/
  col : Nat × Nat
  /-- the bursts that may be in progress (R255): type, and the last pick in which it may be -/
  begun : List (Nat × Nat)
  /-- the loom clocks by which the command burst outlasts its pick (R257) -/
  wait : Nat
  /-- management messages that wait for a slot (R259): cell, key, message -/
  mgmt : List (Nat × List Byte × Mgmt)
  deriving DecidableEq, Repr

/-- The twin link beyond its registers: records committed in this pick and the last, with the commit clock; the pick in which the present
state began; the last pick whose END block came intact; the pick of this unit's yield; whether this unit joins; the changes of ownership that
the next twin burst announces; the DATA of a takeover event that waits for the end of the pick (R242); the phases whose direction at the
partner has failed (R271, R272); and the twin key (R276). -/
structure TwinSt where
  recs : List (Nat × Rec)
  prev : List (Nat × Rec)
  since : Nat
  lastEnd : Option Nat
  yieldAt : Option Nat
  joiner : Bool
  change : List OwnChange
  lossEvt : Option Nat
  out : List Nat
  key : List Byte
  /-- the armed switches that a host CANCEL has cancelled in this pick: twin hash and cycle (R181) -/
  cancelled : List (Nat × Nat)
  deriving DecidableEq, Repr

/-! ### The edge generator and SYNC (chapter 9) -/

/-- An edge of a leg (0 = L, 1 = M): thread in its pick and level after it. -/
structure Edge where
  leg : Nat
  th : Nat
  level : Bool
  deriving DecidableEq, Repr

/-- A period of a cell: its start in threads since warp 0, the latched duties, whether it opens with start edges (R291), and, once the pick
that holds its start has been formed, W, the mode, and the CARRY decisions of legs L and M: (0, _) = no edges, (1, w) = an upper pulse
of width w, (2, _) = lower halves. -/
structure Period where
  start : Nat
  dL : Nat
  dM : Nat
  first : Bool
  fixed : Option (Nat × Nat)
  carryL : Nat × Nat
  carryM : Nat × Nat
  /-- its length in threads unless a later start says otherwise -/
  len : Nat
  deriving DecidableEq, Repr

/-- A cell at the edge generator: the shadow duties, whether a committed record has given that of leg L and of leg M since the last load
point, its newest periods, newest first, the carries (c_u, c_l) of both legs, the edges of the newest formed picks, newest first, and whether
its edges have stopped since the last load point that found it switching (R291, R299). -/
structure CellEdge where
  shL : Nat
  shM : Nat
  given : Bool × Bool
  periods : List Period
  carL : Nat × Nat
  carM : Nat × Nat
  formed : List (Nat × List Edge)
  stopped : Bool
  deriving DecidableEq, Repr

structure EdgeSt where
  /-- pick of the coming carrier boundary -/
  nextB : Nat
  /-- picks by which the next converter period is lengthened (R303) -/
  ext : Nat
  /-- `EDGE.CARRIER` and `EDGE.PULSE` in effect in each phase, and as its load point of the coming boundary has taken them -/
  now : List (Word × Word)
  coming : List (Word × Word)
  /-- phases whose load point of the coming boundary has passed -/
  loaded : List Bool
  /-- DT_th by phase and pick of the newest formed picks, newest first; 65,536 or more = skipped -/
  dts : List ((Nat × Nat) × Nat)
  /-- link setpoint per phase, in volts (R30); 0 before an image has run -/
  setp : List Nat
  cells : List CellEdge
  /-- cycle of the last BADREC event (R287) -/
  badCycle : Option Nat
  deriving DecidableEq, Repr

/-- SYNC_IN: thread count and kind of the last accepted pulse, and carrier-bearing pulses in a row with e = 0 (R301–R304). -/
structure SyncSt where
  lastAt : Option Nat
  zeros : Nat
  deriving DecidableEq, Repr

/-- The blanking timers: their pending arms, as threads since warp 0 (R305), and their open windows: the loom clock of their close, counted
from the start of the present pick, and the comparators that MASK named at the opening (R306). -/
structure BlankSt where
  pend : List (Option Nat)
  win : List (Option (Nat × Nat))
  deriving DecidableEq, Repr

/-! ### Grid current and balance (chapter 10) -/

/-- A complex number: real and imaginary part. -/
abbrev Cx := Rat × Rat

/-- What the phase clusters read of cluster P in a pick (R310, R311): Δ, the voltage phasors of both sequences, i_d, i_q and the
negative-sequence phasor, and the row of Table 10-4. -/
structure CurRefs where
  delta : Rat
  vp : Cx
  vn : Cx
  idr : Rat
  iqr : Rat
  neg : Cx
  src : Nat
  deriving DecidableEq, Repr

/-- Cluster P's reference chain, the energy loop and the balance, and the current controllers of the phase clusters, in amperes, volts,
watts, joules and seconds. -/
structure CurSt where
  /-- outputs of the lags of volt-var and volt-watt (pu) and of frequency-watt (Hz) -/
  lagQ : Rat
  lagV : Rat
  lagF : Rat
  /-- the export target captured when frequency-watt began, and for how long f_m has been in the deadband (R316) -/
  fwPre : Option Rat
  fwIn : Rat
  /-- outputs of stage 3: active and reactive target -/
  p : Rat
  q : Rat
  /-- q has reached its source since QMODE last changed; QMODE of the last pick (R313) -/
  qAt : Bool
  qMode : Nat
  /-- export ceiling and floor after stage 3 -/
  ceil : Rat
  floor : Option Rat
  /-- energy loop: Σ(ΔE × T16), the export demand, the i_d of the last two steps, picks and time since the last (R320, R321) -/
  eSum : Rat
  pDem : Rat
  idOld : Rat
  idNew : Rat
  steps : Nat
  t16 : Rat
  /-- stage 5 reduced i_d in the last pick; picks for which E_tot has exceeded E_tgt by more than 10 % -/
  cut : Bool
  surplus : Nat
  /-- stage 5's i_d and i_q of the last valid pick; the voltage phasors of both sequences as last committed (R310, R311) -/
  st5 : Rat × Rat
  vp : Cx
  vn : Cx
  /-- references of the last pick: i_d, i_q and the negative-sequence phasor, peak amperes -/
  idr : Rat
  iqr : Rat
  neg : Cx
  /-- what the phase clusters use in this pick, and whether their current control of it has yet to run (R310, R322) -/
  seen : CurRefs
  due : Bool
  /-- the references when the fallback started (R319) -/
  fbRef : Rat × Rat × Cx
  /-- the current error ε and the integrators X(h, σ), h = 1, 5, 7, 11, 13 with σ = +1 and −1 each (R322) -/
  err : Cx
  x : List Cx
  /-- learned tables of phases A, B, C, entries not 0; those published and not yet in use; errors of the running and the last cycle -/
  tab : List (List (Nat × Rat))
  tabNext : List (Option (List (Nat × Rat)))
  errs : List (List (Nat × Rat))
  errsLast : List (List (Nat × Rat))
  /-- cycles since the last publication; a cycle of the period does not count; the running one does not, per phase (R328) -/
  cycles : Nat
  spoilt : List Bool
  spoiltNow : List Bool
  /-- phases that have published zeros since CLEAR was set (R328) -/
  zeroed : List Bool
  /-- zero-sequence voltage and its angle in cycles (R329) -/
  v0 : Rat
  psi : Rat
  /-- weights and share limits per cell (R332, R333) -/
  w : List Rat
  pmax : List Rat
  /-- curtailment budgets of phases (R330) -/
  budget : List (Option Rat)
  /-- cycles in which a phase's SAT and a cell's INFEAS event were last raised -/
  satCycle : List (Option Nat)
  infCycle : List (Option Nat)
  deriving DecidableEq, Repr

/-! ### Cell power tracking and storage (chapter 11) -/

/-- A cell's part in a bank scan: V_pre, P_pre, the best point so far, and the sum and count of the present point (R349, R352). -/
structure ScanCell where
  vPre : Rat
  pPre : Rat
  bestV : Rat
  bestP : Rat
  sum : Rat
  n : Nat
  deriving DecidableEq, Repr

/-- The ring data of a pick as a tracker takes it (R342): the pick's length, VIN and IIN, and whether it counts. -/
structure RingSample where
  t : Rat
  v : Rat
  i : Rat
  fresh : Bool
  deriving DecidableEq, Repr

/-- What a tracker held before its update of a pick, for an event of the same pick whose row of Table 11-1 prevails (R340). -/
structure TrackUndo where
  pick : Nat
  vref : Option Rat
  hist : Option (Rat × Rat)
  low : Nat
  pest : Rat
  pmean : Rat
  samp : List RingSample
  deriving DecidableEq, Repr

/-- The tracker of a PV cell, or the command of a storage cell. -/
structure Trk where
  /-- V_ref; none = open code; and the input reference word as last committed (R338) -/
  vref : Option Rat
  inref : Nat
  /-- V and I of the update before -/
  hist : Option (Rat × Rat)
  /-- P_est; mean power of the last update -/
  pest : Rat
  pmean : Rat
  /-- the picks since the previous update, newest first (R342) -/
  samp : List RingSample
  /-- a full update period has been spent in START -/
  full : Bool
  /-- sum of VIN × IIN since the last 16-pick check, and its picks -/
  p16 : Rat
  n16 : Nat
  /-- updates in a row below 100 W -/
  low : Nat
  /-- for how long P_lim has been at or above P_est + CBAND; none = it is not (Table 11-1) -/
  rel : Option Rat
  /-- V_ref on entry into CURTAIL; INREF is open because curtailment has reached VSTRMAX (R346) -/
  vEnter : Rat
  opened : Bool
  /-- state before HOLD -/
  held : Nat
  /-- the pick, counted over cycles, in which a row of Table 11-1 last acted on the cell; its update of a pick (R340) -/
  acted : Option Nat
  undo : Option TrackUndo
  /-- its part in a running bank scan (R348) -/
  scan : Option ScanCell
  /-- P_lim, in W -/
  plim : Rat
  /-- storage: permits held, and the command, positive when it discharges -/
  chg : Bool
  dis : Bool
  cmd : Rat
  deriving DecidableEq, Repr

structure MpptSt where
  cells : List Trk
  /-- the first period has begun; time since the present update period began, its length, the next bank to update (R341) -/
  on : Bool
  t : Rat
  tupd : Rat
  bank : Nat
  /-- banks the running pass has still to scan; banks that try again at its end; second try (R348, R350) -/
  queue : List Nat
  again : List Nat
  second : Bool
  /-- time since the last periodic pass was due; none = none yet since connection (R348) -/
  passT : Option Rat
  /-- a bank scan runs: its phase, 0 = ramp up, 1–64 = points, 65 = ramp down, and the time it has lasted -/
  phase : Option Nat
  tPhase : Rat
  /-- deficit of the scan; picks in a row with the deficit beyond the reserve (R350, R351) -/
  deficit : Rat
  short : Nat
  /-- S and B_PV of the last step; none = unbounded (R357) -/
  total : Rat
  bpv : Option Rat
  reserve : Rat
  /-- cycle of the last SHORT event -/
  shortCycle : Option Nat
  deriving DecidableEq, Repr

/-! ### Ride-through, islanding, connection (chapter 12) -/

structure RideSt where
  /-- squares of the three selected voltages (pu) over the last half cycle, newest first; and their sums -/
  sq : List (Rat × Rat × Rat)
  /-- length and f_m of the picks of the last ROCWIN, newest first (R360) -/
  fms : List (Rat × Rat)
  rocof : Rat
  vmin : Rat
  vmax : Rat
  v1 : List Rat
  vneg : Rat
  /-- time for which the end conditions have held; picks since the last phase jump; duration (R362) -/
  calm : Rat
  jump : Nat
  dur : Rat
  /-- V+pre's lag, and the values taken at the beginning (R364) -/
  vpre : Rat
  idPre : Rat
  iqPre : Rat
  /-- i_d limit while it recovers at PREC; none = none -/
  rise : Option Rat
  kappa : Rat
  /-- trip timers: boundary × 16 + point (R368) -/
  timers : List Rat
  /-- wait timer, time in the state, picks for which the conditions of SYNCING have held, ramp factor (Table 12-6) -/
  wait : Rat
  inState : Rat
  hold : Nat
  r : Rat
  /-- the last pick in which the device tripped (R370) -/
  tripAt : Option Nat
  deriving DecidableEq, Repr

/-- One chip's sign and its means of |V+|, reactive current and f_m (R374), and whether it counts for the window (R375). -/
structure Chip where
  sign : Int
  v : Rat
  i : Rat
  f : Rat
  fresh : Bool
  deriving DecidableEq, Repr

structure IslSt where
  /-- Δ at the last warp angle zeros, newest first; cycles for which PS still stands -/
  shifts : List Rat
  ps : Nat
  susCycle : Option Nat
  /-- picks of the running chip, 0 = none runs; it began while the detector ran; a chip is over and waits to be evaluated; plant angle zeros since the chip began -/
  picks : Nat
  fresh : Bool
  ended : Bool
  zeros : Nat
  /-- sums over the chip's last half: |V+|, reactive current, f_m, picks -/
  sums : Rat × Rat × Rat
  cnt : Nat
  chips : List Chip
  /-- picks for which BOOST goes on after the last flag -/
  boost : Nat
  exceed : Nat
  /-- how long PV and a frequency flag have stood together (R376) -/
  both : Rat
  /-- time since the suspension interval began, and since its last event ended (R377) -/
  susp : Option Rat
  quiet : Rat
  /-- a frame restart waits for the next plant angle zero (R373) -/
  restart : Bool
  zBase : Rat
  deriving DecidableEq, Repr

/-! ### Measurement at the PCC (chapter 13) -/

/-- A run on an ADC core: entries, first buffer, conversions done, the delay of its start in ADC clocks, the pick (cycle × 4,096 + pick)
whose sample plan it belongs to, the tag of its results (R153), and whether it was triggered at thread 0 (R322). -/
structure AdcRun where
  first : Nat
  count : Nat
  buf : Nat
  done : Nat
  delay : Nat
  pick : Nat
  zero : Bool
  deriving DecidableEq, Repr

/-- An ADC core: the run in progress; the urgent request it holds and whether it converts (R389); sums and counts of REFZ, REFP and REFM
(R391); the cycle of each window's last event (R393). -/
structure AdcCore where
  run : Option AdcRun
  urg : Option Nat
  urgRun : Bool
  cal : List (Int × Nat)
  winCycle : List (Option Nat)
  deriving DecidableEq, Repr

/-- A result that feeds a corrected stream: its sampling instant in threads since warp 0, VALUE, GAIN, CLIP and RSW (R392). -/
structure StrmResult where
  instant : Int
  value : Int
  gain : Nat
  clip : Bool
  rsw : Bool
  deriving DecidableEq, Repr

/-- An analogue input: the VALUE of its last result of a run triggered at thread 0 (R322); the gain of conversions whose sampling starts before
an instant, in loom clocks of this pick; picks for which every conversion has stayed small; the next conversion is the first at a new range
(R390); the first STRM result of this pick, and instants and VALUEs of those of the picks before, newest first (R392). -/
structure AdcIn where
  at0 : Int
  keep : Option (Nat × Int)
  small : Nat
  rsw : Bool
  strm : Option StrmResult
  taps : List (Int × Int)
  deriving DecidableEq, Repr

structure AdcSt where
  cores : List AdcCore
  ins : List AdcIn
  deriving DecidableEq, Repr

/-- A comparator: its filtered output has stayed low for REARM (R397), and its last nine raw samples, newest first (R395). -/
structure CmpSt where
  low : Bool
  last : List Bool
  /-- raw output, and the samples since the ramp's last restart (R394) -/
  raw : Bool
  run : Nat
  deriving DecidableEq, Repr

structure FcmpSt where
  cmps : List CmpSt
  /-- comparators whose input test of a GO has yet to come, and input tests that wait for their readback: comparator, raw outputs, samples (R400) -/
  checks : List Nat
  tests : List (Nat × Nat × List Int)
  deriving DecidableEq, Repr

/-- Sums over picks: squares (VA VB VC VAB VBC VCA IA IB IC IN IRES ΣI), powers, fundamental phasors (VA VB VC IA IB IC), the
aggregated Q and S of cycles, loom clocks, picks, cycles, the change of Δ in cycles, the flags PQ, NOLOCK, CLIP, GAP, and the squares of the
unbalance of the 10/12-cycle windows in it. -/
structure MeterAcc where
  sq : List Rat
  pw : List Rat
  ph : List Cx
  q : List Rat
  sa : List Rat
  lc : Nat
  n : Nat
  cycles : Nat
  delta : Rat
  flags : List Bool
  unb : Rat
  deriving DecidableEq, Repr

/-- What the metering block keeps of a pick until its samples come (R392): a PQ event was in force, LOCK, Δ, and its loom clocks. -/
structure PickMark where
  pq : Bool
  lock : Bool
  delta : Rat
  lc : Nat
  deriving DecidableEq, Repr

/-- A sag, swell or interruption in force (R407): record number (0 = none kept), magnitude, phase mask, loom clocks it has lasted. -/
structure PqEvt where
  rcd : Nat
  mag : Rat
  mask : Nat
  lc : Nat
  deriving DecidableEq, Repr

structure MeterSt where
  /-- the running pick, and the five before it, newest first -/
  now : PickMark
  lag : List PickMark
  cyc : MeterAcc
  w10 : MeterAcc
  w150 : MeterAcc
  /-- accumulators of Table 13-7 in units of 2^-32 of their unit -/
  energy : List Nat
  /-- loom clocks and turns of the running 10 s interval, and the last Δ -/
  f10 : Nat × Rat × Rat
  /-- cycles in a row with a residual above, and with all below (R406) -/
  high : Nat
  low : Nat
  /-- squares of the last two half cycles per channel: sums, picks of the running one (R407) -/
  half : List Rat
  prev : List Rat
  halfN : Nat
  halfLc : Nat
  sag : Option PqEvt
  swell : Option PqEvt
  intr : Option PqEvt
  /-- the running check: picks, sum of the fundamentals of VA, VB, VC, sum of VN over the two neutral means, picks left of invalid
  measurement -/
  chkN : Nat
  chkPh : List Cx
  chkVn : Rat × Rat
  /-- a check is due (R409) -/
  due : Bool
  deriving DecidableEq, Repr
/-! ### Why a command can stop -/

/-- A fault: raised by no command of this model. The part has no state that stops it for good; the constructor stands for a
command whose effect the spec calls unpredictable without naming an effect (none is left). Raising it would be safe. -/
inductive Fault where
  | unpredictable
  deriving DecidableEq, Repr

/-- A refusal. `notModelled` is raised by an arm of `exec` that has no meaning yet (safe). -/
inductive Refusal where
  | notModelled (mnemonic : String)
  deriving DecidableEq, Repr

/-- The state of the block. -/
structure State where
  /-- the commands that wait, first in first out -/
  pending : List Instr
  /-- the register space by BAR0 byte address, addresses rising, no entry equal to its reset word (R9, R84) -/
  regs : List (Nat × Word)
  /-- the model's own counter of values that the spec leaves open (log entry 3) -/
  free : Nat
  /-- what the last command sent to the surroundings, oldest first (log entry 2) -/
  out : List Out
  /-- supplies, resets and the pins of no page -/
  pwr : Pwr
  /-- the shuttle link and what waits on it -/
  link : Link
  /-- the shutter permit at the F-die -/
  permit : Permit
  /-- the host interfaces -/
  host : HostIf
  /-- the host watchdog -/
  wdog : Watchdog
  /-- the interrupt controller -/
  intc : Intc
  /-- the event journal -/
  jr : Journal
  /-- the selvedge -/
  selv : Selv
  /-- the warp, its tracker and its steering -/
  warp : Warp
  /-- the wall clock on the H-die -/
  clk : Clk
  /-- the Weave store and what runs -/
  weave : WeaveSt
  /-- the S0 inputs beyond their registers -/
  s0 : S0St
  /-- the porter beyond its registers -/
  porter : PorterSt
  /-- the twelve loom engines: A.E0 to P.E2 -/
  loom : List Eng
  /-- the four clusters: A, B, C, P -/
  clu : List Clu
  /-- the warden and the commands that wait for the reed -/
  warden : WardenSt
  /-- temperature sensing beyond its registers -/
  heat : HeatSt
  /-- touch keys and buttons beyond their registers -/
  panel : PanelSt
  /-- the service port beyond its registers -/
  svc : SvcSt
  /-- the safety block and the seal read beyond their registers -/
  safety : SafetySt
  /-- the four Louvre channels -/
  louv : List LouvSt
  /-- the auxiliary supply beyond its registers -/
  aux : AuxSt
  /-- the H-die ADC and comparators beyond their registers -/
  analog : AnalogSt
  /-- fuses, security core and Wicket port -/
  sec : SecSt
  /-- the 192 cell positions -/
  cells : List CellSt
  /-- the six cell-ring lanes: A_a to C_b -/
  ring : List RingDir
  /-- the twin link -/
  twin : TwinSt
  /-- the edge generator -/
  edge : EdgeSt
  /-- the SYNC_IN pin -/
  syn : SyncSt
  /-- the blanking timers -/
  blank : BlankSt
  /-- the reference chain, the current control and the balance -/
  cur : CurSt
  /-- the trackers, the scan and the storage split -/
  mppt : MpptSt
  /-- the ride-through event, the trip timers and the connection -/
  ride : RideSt
  /-- islanding detection -/
  isl : IslSt
  /-- the F-die ADC cores and their inputs -/
  adc : AdcSt
  /-- the fast comparators -/
  fcmp : FcmpSt
  /-- metering, PQ events and pre-connection checks -/
  meter : MeterSt
  deriving DecidableEq, Repr

/-! ### After reset -/

/-- Both dies unpowered, nothing driven. -/
def Pwr.reset : Pwr := ⟨.off, .off, true, true, false, none, false, false, false, false⟩

/-- A direction before its first link-up: number 0x0000 on both sides (R43), no channel in service. -/
def Dir.reset : Dir :=
  ⟨0, [], [], [], 0, [], false, false, [], [], 0, 0, none, none, 0, [], [], [], none, 0, false, 0, none⟩

def Link.reset : Link := ⟨false, Dir.reset, Dir.reset, [], [], 0, true, [], 0, [], [], [], none, [], [], 0, [], false, []⟩

def Permit.reset : Permit := ⟨false, false, false, false⟩

/-- The host interfaces; the AER masks and severities are those of the PCI Express specification (log entry 139). -/
def HostIf.reset : HostIf :=
  ⟨none, false, false, false, [], false, false, false, false, 128, 512, false, (0, 0x462030#32, 0x2000#32), []⟩

/-- The watchdog counts from the firmware start; `HWDCTL` as Table 3-16 resets it: EN = 1, ACTION = 0b01, TIMEOUT = 100, RAMP = 20. -/
def Watchdog.reset : Watchdog := ⟨false, 1, 1, 1, false, false, 0x00280643#32, false, false, 0, false⟩

def Intc.reset : Intc := ⟨[], [], []⟩

def Journal.reset : Journal := ⟨[], 1⟩

def Selv.reset : Selv := ⟨none, 0, none, [], []⟩

def Sogi.reset : Sogi := ⟨0, 0, 0⟩

def Warp.reset : Warp :=
  ⟨0, none, 0, 0, false, false, Sogi.reset, Sogi.reset, 0, 0, 0, 0, 0, 0, none, none, 0, 0, 0, [], false⟩

def Clk.reset : Clk := ⟨0, 0, false, false, 0, 0, 0, none, [], none⟩

def Bank.empty : Bank := ⟨[], none, 0⟩

def WeaveSt.reset : WeaveSt :=
  ⟨[Bank.empty, Bank.empty], none, none, none, none, none, false, 0, false, 1, [false, false, false, false],
   [false, false, false, false], [], List.replicate 12 false, [], [], 0, none, none, false, 0, false, 0, 0⟩

def S0St.reset : S0St := ⟨[none, none, none, none], [false, false, false, false], [0, 0, 0, 0]⟩

def PorterSt.reset : PorterSt := ⟨false, 0, [], 1, none, 0, 0, 3, 0, 0, 0, 0⟩

/-- An engine after F-die reset and at each switch boundary (R187): registers 0, p0 = 1, MODE 0x04.
(DESIGN CHOICE: log entry 63.) -/
def Eng.reset : Eng :=
  ⟨List.replicate 64 0, true :: List.replicate 7 false, List.replicate 4 0, List.replicate 4 0, 4, 4, 0, 0, (0, 0), (0, 0), 0, 0, [], none,
   none, none, false, false, false, 0, false, 0, 0, [], [], [], [], [], [], none, none, [], none⟩

/-- A cluster after reset (DESIGN CHOICE: log entry 63). -/
def Clu.reset : Clu := ⟨[], [], false, none, [], [], [], 0, 0, 0, none, [none, none], [0, 0]⟩

def WardenSt.reset : WardenSt := ⟨none, List.replicate 12 false, [], [], List.replicate 4 [], [], false, 0, 0, 0⟩

def HeatSt.reset : HeatSt :=
  ⟨List.replicate 15 [], List.replicate 15 false, List.replicate 15 0, List.replicate 15 0, [0, 0, 0], [false, false, false],
   [none, none, none, none], 0, 0, [0, 0, 0, 0], false⟩

def PanelSt.reset : PanelSt :=
  ⟨List.replicate 12 [], List.replicate 12 false, List.replicate 12 0, List.replicate 12 0, List.replicate 12 0, List.replicate 12 0, 0,
   List.replicate 4 0, 0⟩

def SvcSt.reset : SvcSt := ⟨[], false, none⟩

def SafetySt.reset : SafetySt :=
  ⟨List.replicate 10 none, List.replicate 10 none, List.replicate 5 0, List.replicate 5 0, List.replicate 5 0, List.replicate 5 0, false,
   false, 0, false⟩

def LouvSt.reset : LouvSt := ⟨0, [], false, 0, [], false, 0, false, 0, 0, 0, 0, 0, false, false, [1000000, 1000000, 1000000], 0, 0, 1, false⟩

def AuxSt.reset : AuxSt := ⟨[], 0, 0, 0, 0, 0, 0, []⟩

def AnalogSt.reset : AnalogSt := ⟨0, 0⟩

/-- The fuses of a part as an integrator receives it: OWNER_OPEN, no owner key (log entry 20).
(DESIGN CHOICE: log entry 63.) -/
def Fuses.reset : Fuses :=
  ⟨[[true, true, true], [true, true, true], [false, false, false], [false, false, false], [false, false, false]], false, 0, 0,
   List.replicate 12 0, false, 0, false⟩

/-- The security core before any reset (DESIGN CHOICE: log entry 20). -/
def SecSt.reset : SecSt :=
  ⟨Fuses.reset, 0, true, [(768, []), (768, []), (0, []), (0, [])], [], [], (0, 0, 0), [], false, [], 0, List.replicate 12 0, List.replicate 12 0,
   none, 0, 0, 0, [], none, 1, 0, none⟩


def Downlink.reset : Downlink := ⟨0, 0, 0, 0, false, false⟩

def CellSt.reset : CellSt :=
  ⟨Downlink.reset, none, false, false, false, false, false, none, 0, 0, [], false, 0, 0, none, [[], []], 0, 0, (0, 0)⟩

def RingDir.reset : RingDir := ⟨0, [], [], [], [], 0, none, none, false, 0, 0, (0, 0), [], 0, []⟩

def TwinSt.reset : TwinSt := ⟨[], [], 0, none, none, false, [], none, [], [], []⟩

def CellEdge.reset : CellEdge := ⟨0, 0, (false, false), [], (0, 0), (0, 0), [], false⟩

def EdgeSt.reset : EdgeSt := ⟨0, 0, List.replicate 3 (0, 0), List.replicate 3 (0, 0), [false, false, false], [], [0, 0, 0], List.replicate 192 CellEdge.reset, none⟩

def SyncSt.reset : SyncSt := ⟨none, 0⟩

def BlankSt.reset : BlankSt := ⟨List.replicate 8 none, List.replicate 8 none⟩

def CurSt.reset : CurSt :=
  ⟨1, 1, 50, none, 0, 0, 0, true, 0, 0, none, 0, 0, 0, 0, 0, 0, false, 0, (0, 0), (0, 0), (0, 0), 0, 0, (0, 0),
   ⟨0, (0, 0), (0, 0), 0, 0, (0, 0), 5⟩, false, (0, 0, (0, 0)), (0, 0), List.replicate 10 (0, 0),
   [[], [], []], [none, none, none], [[], [], []], [[], [], []], 0, [false, false, false], [false, false, false], [false, false, false], 0, 0,
   List.replicate 192 0, List.replicate 192 36000, [none, none, none], [none, none, none],
   List.replicate 192 none⟩

def Trk.reset : Trk :=
  ⟨none, 65535, none, 0, 0, [], false, 0, 0, 0, none, 0, false, 0, none, none, none, 36000, false, false, 0⟩

def MpptSt.reset : MpptSt :=
  ⟨List.replicate 192 Trk.reset, false, 0, 1 / 25, 0, [], [], false, none, none, 0, 0, 0, 0, none, 0, none⟩

def RideSt.reset : RideSt :=
  ⟨[], [], 0, 0, 0, [0, 0, 0], 0, 0, 0, 0, 1, 0, 0, none, 1, List.replicate 64 0, 0, 0, 0, 0, none⟩

def IslSt.reset : IslSt := ⟨[], 0, none, 0, false, false, 0, (0, 0, 0), 0, [], 0, 0, 0, none, 0, false, 1 / 20⟩

def AdcCore.reset : AdcCore := ⟨none, none, false, [(0, 0), (0, 0), (0, 0)], [none, none, none, none]⟩

def AdcIn.reset : AdcIn := ⟨0, none, 0, false, none, []⟩

def AdcSt.reset : AdcSt := ⟨List.replicate 8 AdcCore.reset, List.replicate 32 AdcIn.reset⟩

def CmpSt.reset : CmpSt := ⟨true, List.replicate 9 false, false, 0⟩

def FcmpSt.reset : FcmpSt := ⟨List.replicate 16 CmpSt.reset, [], []⟩

def MeterAcc.reset : MeterAcc :=
  ⟨List.replicate 12 0, [0, 0, 0], List.replicate 6 (0, 0), [0, 0, 0], [0, 0, 0], 0, 0, 0, 0, [false, false, false, false], 0⟩

def MeterSt.reset : MeterSt :=
  ⟨⟨false, false, 0, 0⟩, [], MeterAcc.reset, MeterAcc.reset, MeterAcc.reset, List.replicate 8 0, (0, 0, 0), 0, 0, [0, 0, 0], [0, 0, 0], 0, 0,
   none, none, none, 0, [(0, 0), (0, 0), (0, 0)], (0, 0), true⟩

/-- The block before its supplies come: every register at its reset value (the register space lists nothing), the queue empty.
(DESIGN CHOICE: log entry 63.) -/
def State.reset : State where
  pending := []
  regs := []
  free := 0
  out := []
  pwr := Pwr.reset
  link := Link.reset
  permit := Permit.reset
  host := HostIf.reset
  wdog := Watchdog.reset
  intc := Intc.reset
  jr := Journal.reset
  selv := Selv.reset
  warp := Warp.reset
  clk := Clk.reset
  weave := WeaveSt.reset
  s0 := S0St.reset
  porter := PorterSt.reset
  loom := List.replicate 12 Eng.reset
  clu := List.replicate 4 Clu.reset
  warden := WardenSt.reset
  heat := HeatSt.reset
  panel := PanelSt.reset
  svc := SvcSt.reset
  safety := SafetySt.reset
  louv := List.replicate 4 LouvSt.reset
  aux := AuxSt.reset
  analog := AnalogSt.reset
  sec := SecSt.reset
  cells := List.replicate 192 CellSt.reset
  ring := List.replicate 6 RingDir.reset
  twin := TwinSt.reset
  edge := EdgeSt.reset
  syn := SyncSt.reset
  blank := BlankSt.reset
  cur := CurSt.reset
  mppt := MpptSt.reset
  ride := RideSt.reset
  isl := IslSt.reset
  adc := AdcSt.reset
  fcmp := FcmpSt.reset
  meter := MeterSt.reset

end Sys2Proof.Machine
end

