-- ==== Sys2Proof/Machine/RegMap.lean ====
section
/-! DEFINITION. The register map: one named field for every field of the spec's register tables (R8: PAGE.REG.FIELD),
each giving the BAR0 byte address of its register, its lowest bit and its width, as the table in its docstring states. A page with
several instances takes the instance first, a register array takes its index next. Written from the register tables of spec/. -/

namespace Sys2Proof.Machine

/-- Table 1-6: `CELL.CFG` [1:0] TYPE, RO. -/
abbrev CELL_CFG_TYPE (i : Nat) : Fld := ⟨0x100040 + 0x1000 * i, 0, 2⟩
/-- Table 1-6: `CELL.CFG` [2] SPARE, RO. -/
abbrev CELL_CFG_SPARE (i : Nat) : Fld := ⟨0x100040 + 0x1000 * i, 2, 1⟩
/-- Table 1-6: `CELL.CFG` [3] INLOSS, RO. -/
abbrev CELL_CFG_INLOSS (i : Nat) : Fld := ⟨0x100040 + 0x1000 * i, 3, 1⟩
/-- Table 1-7: `CELL.STATE` [3:0] ST, RO. -/
abbrev CELL_STATE_ST (i : Nat) : Fld := ⟨0x100044 + 0x1000 * i, 0, 4⟩
/-- Table 1-7: `CELL.STATE` [4] BYP, RO. -/
abbrev CELL_STATE_BYP (i : Nat) : Fld := ⟨0x100044 + 0x1000 * i, 4, 1⟩
/-- Table 1-7: `CELL.STATE` [5] BLK, RO. -/
abbrev CELL_STATE_BLK (i : Nat) : Fld := ⟨0x100044 + 0x1000 * i, 5, 1⟩
/-- Table 1-7: `CELL.STATE` [6] DIR, RO. -/
abbrev CELL_STATE_DIR (i : Nat) : Fld := ⟨0x100044 + 0x1000 * i, 6, 1⟩
/-- Table 1-7: `CELL.STATE` [7] INOK, RO. -/
abbrev CELL_STATE_INOK (i : Nat) : Fld := ⟨0x100044 + 0x1000 * i, 7, 1⟩
/-- Table 1-7: `CELL.STATE` [11:8] LASTF, RO. -/
abbrev CELL_STATE_LASTF (i : Nat) : Fld := ⟨0x100044 + 0x1000 * i, 8, 4⟩
/-- Table 1-7: `CELL.STATE` [23:16] VLC, RO. -/
abbrev CELL_STATE_VLC (i : Nat) : Fld := ⟨0x100044 + 0x1000 * i, 16, 8⟩
/-- Table 1-7: `CELL.STATE` [31:24] TMAX, RO. -/
abbrev CELL_STATE_TMAX (i : Nat) : Fld := ⟨0x100044 + 0x1000 * i, 24, 8⟩
/-- Table 1-8: `CELL.CTL` [0] SERVICE, RWS. -/
abbrev CELL_CTL_SERVICE (i : Nat) : Fld := ⟨0x100048 + 0x1000 * i, 0, 1⟩
/-- Table 1-9: `CELL.VLINK` [15:0] VOUT, RO. -/
abbrev CELL_VLINK_VOUT (i : Nat) : Fld := ⟨0x10004c + 0x1000 * i, 0, 16⟩
/-- Table 1-9: `CELL.VLINK` [31:16] VPRI, RO. -/
abbrev CELL_VLINK_VPRI (i : Nat) : Fld := ⟨0x10004c + 0x1000 * i, 16, 16⟩
/-- Table 1-10: `CELL.POWER` [15:0] IOUT, RO. -/
abbrev CELL_POWER_IOUT (i : Nat) : Fld := ⟨0x100050 + 0x1000 * i, 0, 16⟩
/-- Table 1-10: `CELL.POWER` [31:16] PIN, RO. -/
abbrev CELL_POWER_PIN (i : Nat) : Fld := ⟨0x100050 + 0x1000 * i, 16, 16⟩
/-- Table 1-11: `CELL.FAULT` [7:0] CAUSE, RO. -/
abbrev CELL_FAULT_CAUSE (i : Nat) : Fld := ⟨0x100054 + 0x1000 * i, 0, 8⟩
/-- Table 1-11: `CELL.FAULT` [15:8] COUNT, RO. -/
abbrev CELL_FAULT_COUNT (i : Nat) : Fld := ⟨0x100054 + 0x1000 * i, 8, 8⟩
/-- Table 1-12: `CELL.FAULTW` [31:0] SWARP, RO. -/
abbrev CELL_FAULTW_SWARP (i : Nat) : Fld := ⟨0x100058 + 0x1000 * i, 0, 32⟩
/-- Table 2-10: `SHUTTLE_H.STAT` [0] UP, RO. -/
abbrev SHUTTLE_H_STAT_UP : Fld := ⟨0x3040, 0, 1⟩
/-- Table 2-10: `SHUTTLE_H.STAT` [1] NOTREADY, RO. -/
abbrev SHUTTLE_H_STAT_NOTREADY : Fld := ⟨0x3040, 1, 1⟩
/-- Table 2-10: `SHUTTLE_H.STAT` [2] RX0, RO. -/
abbrev SHUTTLE_H_STAT_RX0 : Fld := ⟨0x3040, 2, 1⟩
/-- Table 2-10: `SHUTTLE_H.STAT` [3] RX1, RO. -/
abbrev SHUTTLE_H_STAT_RX1 : Fld := ⟨0x3040, 3, 1⟩
/-- Table 2-10: `SHUTTLE_H.STAT` [4] FRX0, RO. -/
abbrev SHUTTLE_H_STAT_FRX0 : Fld := ⟨0x3040, 4, 1⟩
/-- Table 2-10: `SHUTTLE_H.STAT` [5] FRX1, RO. -/
abbrev SHUTTLE_H_STAT_FRX1 : Fld := ⟨0x3040, 5, 1⟩
/-- Table 2-10: `SHUTTLE_H.STAT` [6] PERMIT, RO. -/
abbrev SHUTTLE_H_STAT_PERMIT : Fld := ⟨0x3040, 6, 1⟩
/-- Table 2-10: `SHUTTLE_H.STAT` [7] FSHUT, RO. -/
abbrev SHUTTLE_H_STAT_FSHUT : Fld := ⟨0x3040, 7, 1⟩
/-- Table 2-11: `SHUTTLE_H.CRCERR` [31:0] COUNT, RO. -/
abbrev SHUTTLE_H_CRCERR_COUNT (n : Nat) : Fld := ⟨0x3044 + 4 * n, 0, 32⟩
/-- Table 2-12: `SHUTTLE_H.EVCNT` [15:0] CHFAIL, RO. -/
abbrev SHUTTLE_H_EVCNT_CHFAIL : Fld := ⟨0x304c, 0, 16⟩
/-- Table 2-12: `SHUTTLE_H.EVCNT` [31:16] LINKDN, RO. -/
abbrev SHUTTLE_H_EVCNT_LINKDN : Fld := ⟨0x304c, 16, 16⟩
/-- Table 2-13: `SHUTTLE_H.DROPCNT` [31:0] COUNT, RO. -/
abbrev SHUTTLE_H_DROPCNT_COUNT : Fld := ⟨0x3050, 0, 32⟩
/-- Table 2-14: `SHUTTLE_H.REPLAYCNT` [15:0] TXRPL, RO. -/
abbrev SHUTTLE_H_REPLAYCNT_TXRPL : Fld := ⟨0x3054, 0, 16⟩
/-- Table 2-14: `SHUTTLE_H.REPLAYCNT` [31:16] TMLOST, RO. -/
abbrev SHUTTLE_H_REPLAYCNT_TMLOST : Fld := ⟨0x3054, 16, 16⟩
/-- Table 2-15: `SHUTTLE_H.SEQ` [15:0] RXNEXT, RO. -/
abbrev SHUTTLE_H_SEQ_RXNEXT : Fld := ⟨0x3058, 0, 16⟩
/-- Table 2-15: `SHUTTLE_H.SEQ` [31:16] TXNEXT, RO. -/
abbrev SHUTTLE_H_SEQ_TXNEXT : Fld := ⟨0x3058, 16, 16⟩
/-- Table 2-16: `SHUTTLE_H.TMDLY` [15:0] DELAY, RO. -/
abbrev SHUTTLE_H_TMDLY_DELAY : Fld := ⟨0x305c, 0, 16⟩
/-- Table 2-16: `SHUTTLE_H.TMDLY` [31:16] AGE, RO. -/
abbrev SHUTTLE_H_TMDLY_AGE : Fld := ⟨0x305c, 16, 16⟩
/-- Table 2-17: `SHUTTLE_H.CTL` [1:0] TXOFF, RWL. -/
abbrev SHUTTLE_H_CTL_TXOFF : Fld := ⟨0x3060, 0, 2⟩
/-- Table 2-17: `SHUTTLE_H.CTL` [2] RETRAIN, RWL. -/
abbrev SHUTTLE_H_CTL_RETRAIN : Fld := ⟨0x3060, 2, 1⟩
/-- Table 2-18: `SHUTTLE_F.STAT` [0] UP, RO. -/
abbrev SHUTTLE_F_STAT_UP : Fld := ⟨0x51040, 0, 1⟩
/-- Table 2-18: `SHUTTLE_F.STAT` [1] RX0, RO. -/
abbrev SHUTTLE_F_STAT_RX0 : Fld := ⟨0x51040, 1, 1⟩
/-- Table 2-18: `SHUTTLE_F.STAT` [2] RX1, RO. -/
abbrev SHUTTLE_F_STAT_RX1 : Fld := ⟨0x51040, 2, 1⟩
/-- Table 2-18: `SHUTTLE_F.STAT` [3] SHUT, RO. -/
abbrev SHUTTLE_F_STAT_SHUT : Fld := ⟨0x51040, 3, 1⟩
/-- Table 2-18: `SHUTTLE_F.STAT` [4] PVALID, RO. -/
abbrev SHUTTLE_F_STAT_PVALID : Fld := ⟨0x51040, 4, 1⟩
/-- Table 2-18: `SHUTTLE_F.STAT` [5] PSTABLE, RO. -/
abbrev SHUTTLE_F_STAT_PSTABLE : Fld := ⟨0x51040, 5, 1⟩
/-- Table 2-18: `SHUTTLE_F.STAT` [6] YIELD, RO. -/
abbrev SHUTTLE_F_STAT_YIELD : Fld := ⟨0x51040, 6, 1⟩
/-- Table 2-18: `SHUTTLE_F.STAT` [7] YIELDED, RO. -/
abbrev SHUTTLE_F_STAT_YIELDED : Fld := ⟨0x51040, 7, 1⟩
/-- Table 2-19: `SHUTTLE_F.REPLAYCNT` [15:0] TXRPL, RO. -/
abbrev SHUTTLE_F_REPLAYCNT_TXRPL : Fld := ⟨0x5104c, 0, 16⟩
/-- Table 2-19: `SHUTTLE_F.REPLAYCNT` [31:16] TMLOST, RO. -/
abbrev SHUTTLE_F_REPLAYCNT_TMLOST : Fld := ⟨0x5104c, 16, 16⟩
/-- Table 2-20: `SHUTTLE_F.SHUTCTL` [0] REOPEN, RW. -/
abbrev SHUTTLE_F_SHUTCTL_REOPEN : Fld := ⟨0x51050, 0, 1⟩
/-- Table 2-20: `SHUTTLE_F.SHUTCTL` [1] YIELD, RW. -/
abbrev SHUTTLE_F_SHUTCTL_YIELD : Fld := ⟨0x51050, 1, 1⟩
/-- Table 2-21: `SHUTTLE_F.SHUTW` [31:0] SWARP, RO. -/
abbrev SHUTTLE_F_SHUTW_SWARP : Fld := ⟨0x51054, 0, 32⟩
/-- Table 2-22: `SHUTTLE_F.SHUTCNT` [31:0] COUNT, RO. -/
abbrev SHUTTLE_F_SHUTCNT_COUNT : Fld := ⟨0x51058, 0, 32⟩
/-- Table 2-23: `SHUTTLE_F.BACKLOG` [10:0] HELD, RO. -/
abbrev SHUTTLE_F_BACKLOG_HELD : Fld := ⟨0x5105c, 0, 11⟩
/-- Table 2-23: `SHUTTLE_F.BACKLOG` [31:16] LOST, RO. -/
abbrev SHUTTLE_F_BACKLOG_LOST : Fld := ⟨0x5105c, 16, 16⟩
/-- Table 3-15: `HOSTIF.STAT` [0] PCIEUP, RO. -/
abbrev HOSTIF_STAT_PCIEUP : Fld := ⟨0x9040, 0, 1⟩
/-- Table 3-15: `HOSTIF.STAT` [2:1] SPEED, RO. -/
abbrev HOSTIF_STAT_SPEED : Fld := ⟨0x9040, 1, 2⟩
/-- Table 3-15: `HOSTIF.STAT` [4:3] WIDTH, RO. -/
abbrev HOSTIF_STAT_WIDTH : Fld := ⟨0x9040, 3, 2⟩
/-- Table 3-15: `HOSTIF.STAT` [5] SPISEEN, RO. -/
abbrev HOSTIF_STAT_SPISEEN : Fld := ⟨0x9040, 5, 1⟩
/-- Table 3-16: `HOSTIF.HWDCTL` [0] EN, RWL. -/
abbrev HOSTIF_HWDCTL_EN : Fld := ⟨0x9044, 0, 1⟩
/-- Table 3-16: `HOSTIF.HWDCTL` [2:1] ACTION, RWL. -/
abbrev HOSTIF_HWDCTL_ACTION : Fld := ⟨0x9044, 1, 2⟩
/-- Table 3-16: `HOSTIF.HWDCTL` [16:4] TIMEOUT, RWL. -/
abbrev HOSTIF_HWDCTL_TIMEOUT : Fld := ⟨0x9044, 4, 13⟩
/-- Table 3-16: `HOSTIF.HWDCTL` [23:17] RAMP, RWL. -/
abbrev HOSTIF_HWDCTL_RAMP : Fld := ⟨0x9044, 17, 7⟩
/-- Table 3-17a: `HOSTIF.HWDKICK` [31:0] KEY, RW. -/
abbrev HOSTIF_HWDKICK_KEY : Fld := ⟨0x9048, 0, 32⟩
/-- Table 3-17b: `HOSTIF.HWDSTAT` [1:0] STATE, RO. -/
abbrev HOSTIF_HWDSTAT_STATE : Fld := ⟨0x904c, 0, 2⟩
/-- Table 3-17b: `HOSTIF.HWDSTAT` [31:16] EXPCNT, RO. -/
abbrev HOSTIF_HWDSTAT_EXPCNT : Fld := ⟨0x904c, 16, 16⟩
/-- Table 3-17c: `HOSTIF.BULKCTL` [1:0] TARGET, RW. -/
abbrev HOSTIF_BULKCTL_TARGET : Fld := ⟨0x9050, 0, 2⟩
/-- Table 3-17c: `HOSTIF.BULKCTL` [13:8] BASE, RW. -/
abbrev HOSTIF_BULKCTL_BASE : Fld := ⟨0x9050, 8, 6⟩
/-- Table 3-17c: `HOSTIF.BULKCTL` [31:16] XFER, RW. -/
abbrev HOSTIF_BULKCTL_XFER : Fld := ⟨0x9050, 16, 16⟩
/-- Table 3-17d: `HOSTIF.BULKSTAT` [15:0] SEGS, RO. -/
abbrev HOSTIF_BULKSTAT_SEGS : Fld := ⟨0x9054, 0, 16⟩
/-- Table 3-17d: `HOSTIF.BULKSTAT` [31:16] DROPPED, RO. -/
abbrev HOSTIF_BULKSTAT_DROPPED : Fld := ⟨0x9054, 16, 16⟩
/-- Table 3-17e: `HOSTIF.SPISTAT` [15:0] CRCERR, RO. -/
abbrev HOSTIF_SPISTAT_CRCERR : Fld := ⟨0x9058, 0, 16⟩
/-- Table 3-17e: `HOSTIF.SPISTAT` [31:16] ABANDON, RO. -/
abbrev HOSTIF_SPISTAT_ABANDON : Fld := ⟨0x9058, 16, 16⟩
/-- Table 3-17f: `HOSTIF.STAGEQ` [6:0] HHELD, RO. -/
abbrev HOSTIF_STAGEQ_HHELD : Fld := ⟨0x905c, 0, 7⟩
/-- Table 3-17f: `HOSTIF.STAGEQ` [31:16] STALLS, RO. -/
abbrev HOSTIF_STAGEQ_STALLS : Fld := ⟨0x905c, 16, 16⟩
/-- Table 3-19: `INTC_0.CLAIM` [7:0] SRC, RO. -/
abbrev INTC_0_CLAIM_SRC (n : Nat) : Fld := ⟨0x1040 + 16 * n, 0, 8⟩
/-- Table 3-19: `INTC_0.COMPLETE` [7:0] SRC, RW. -/
abbrev INTC_0_COMPLETE_SRC (n : Nat) : Fld := ⟨0x1044 + 16 * n, 0, 8⟩
/-- Table 3-19: `INTC_0.THRESH` [2:0] THR, RW. -/
abbrev INTC_0_THRESH_THR (n : Nat) : Fld := ⟨0x1048 + 16 * n, 0, 3⟩
/-- Table 3-19: `INTC_0.OUTCFG` [0] MODE, RWL. -/
abbrev INTC_0_OUTCFG_MODE (n : Nat) : Fld := ⟨0x104c + 16 * n, 0, 1⟩
/-- Table 3-19: `INTC_0.SRCCFG` [1:0] TARGET, RWL. -/
abbrev INTC_0_SRCCFG_TARGET (n : Nat) : Fld := ⟨0x1400 + 4 * n, 0, 2⟩
/-- Table 3-19: `INTC_0.SRCCFG` [6:4] PRIO, RWL. -/
abbrev INTC_0_SRCCFG_PRIO (n : Nat) : Fld := ⟨0x1400 + 4 * n, 4, 3⟩
/-- Table 3-19: `INTC_0.SRCCFG` [8] KIND, RO. -/
abbrev INTC_0_SRCCFG_KIND (n : Nat) : Fld := ⟨0x1400 + 4 * n, 8, 1⟩
/-- Table 3-19: `INTC_0.SRCCFG` [9] ACT, RO. -/
abbrev INTC_0_SRCCFG_ACT (n : Nat) : Fld := ⟨0x1400 + 4 * n, 9, 1⟩
/-- Table 3-19: `INTC_0.SRCCFG` [10] PND, RO. -/
abbrev INTC_0_SRCCFG_PND (n : Nat) : Fld := ⟨0x1400 + 4 * n, 10, 1⟩
/-- Table 3-19: `INTC_0.SRCCFG` [21:16] VEC, RWL. -/
abbrev INTC_0_SRCCFG_VEC (n : Nat) : Fld := ⟨0x1400 + 4 * n, 16, 6⟩
/-- Table 3-20: `INTC_1.PEND` [31:0] BITS, RW. -/
abbrev INTC_1_PEND_W (n : Nat) : Fld := ⟨0x2040 + 4 * n, 0, 32⟩
/-- Table 3-20: `INTC_1.PENDSET` [31:0] BITS, SA. -/
abbrev INTC_1_PENDSET_W (n : Nat) : Fld := ⟨0x2060 + 4 * n, 0, 32⟩
/-- Table 3-20: `INTC_1.PENDCLR` [31:0] BITS, CA. -/
abbrev INTC_1_PENDCLR_W (n : Nat) : Fld := ⟨0x2080 + 4 * n, 0, 32⟩
/-- Table 3-20: `INTC_1.MASK` [31:0] BITS, RW. -/
abbrev INTC_1_MASK_W (n : Nat) : Fld := ⟨0x20a0 + 4 * n, 0, 32⟩
/-- Table 3-20: `INTC_1.MASKSET` [31:0] BITS, SA. -/
abbrev INTC_1_MASKSET_W (n : Nat) : Fld := ⟨0x20c0 + 4 * n, 0, 32⟩
/-- Table 3-20: `INTC_1.MASKCLR` [31:0] BITS, CA. -/
abbrev INTC_1_MASKCLR_W (n : Nat) : Fld := ⟨0x20e0 + 4 * n, 0, 32⟩
/-- Table 3-20: `INTC_1.ACTIVE` [31:0] BITS, RO. -/
abbrev INTC_1_ACTIVE_W (n : Nat) : Fld := ⟨0x2100 + 4 * n, 0, 32⟩
/-- Table 3-20: `INTC_1.COUNT` [31:0] COUNT, RO. -/
abbrev INTC_1_COUNT_COUNT (n : Nat) : Fld := ⟨0x2400 + 4 * n, 0, 32⟩
/-- Table 3-22: `JOURNAL.HEAD` [31:0] SEQ, RO. -/
abbrev JOURNAL_HEAD_SEQ : Fld := ⟨0x4040, 0, 32⟩
/-- Table 3-22: `JOURNAL.TAIL` [31:0] SEQ, RO. -/
abbrev JOURNAL_TAIL_SEQ : Fld := ⟨0x4044, 0, 32⟩
/-- Table 3-22: `JOURNAL.OVWR` [31:0] COUNT, RO. -/
abbrev JOURNAL_OVWR_COUNT : Fld := ⟨0x4048, 0, 32⟩
/-- Table 3-22: `JOURNAL.READPTR` [31:0] SEQ, RW. -/
abbrev JOURNAL_READPTR_SEQ : Fld := ⟨0x404c, 0, 32⟩
/-- Table 3-22: `JOURNAL.CTL` [11:0] THRESH, RW. -/
abbrev JOURNAL_CTL_THRESH : Fld := ⟨0x4050, 0, 12⟩
/-- Table 3-22: `JOURNAL.WINBASE` [4:0] BLOCK, RW. -/
abbrev JOURNAL_WINBASE_BLOCK : Fld := ⟨0x4054, 0, 5⟩
/-- Table 3-24: `DEVICE.IDENT` [15:0] PART, RO. -/
abbrev DEVICE_IDENT_PART : Fld := ⟨0x40, 0, 16⟩
/-- Table 3-24: `DEVICE.IDENT` [23:16] STEP, RO. -/
abbrev DEVICE_IDENT_STEP : Fld := ⟨0x40, 16, 8⟩
/-- Table 3-25: `DEVICE.MODE` [0] TWIN, RO. -/
abbrev DEVICE_MODE_TWIN : Fld := ⟨0x44, 0, 1⟩
/-- Table 3-25: `DEVICE.MODE` [1] UNIT, RO. -/
abbrev DEVICE_MODE_UNIT : Fld := ⟨0x44, 1, 1⟩
/-- Table 3-26: `DEVICE.SELV_REQ` [0] GO, RW. -/
abbrev DEVICE_SELV_REQ_GO : Fld := ⟨0x48, 0, 1⟩
/-- Table 3-27: `DEVICE.SELV_STAT` [0] BUSY, RO. -/
abbrev DEVICE_SELV_STAT_BUSY : Fld := ⟨0x4c, 0, 1⟩
/-- Table 3-27: `DEVICE.SELV_STAT` [1] DONE, RO. -/
abbrev DEVICE_SELV_STAT_DONE : Fld := ⟨0x4c, 1, 1⟩
/-- Table 3-27: `DEVICE.SELV_STAT` [2] FVALID, RO. -/
abbrev DEVICE_SELV_STAT_FVALID : Fld := ⟨0x4c, 2, 1⟩
/-- Table 3-27: `DEVICE.SELV_STAT` [31:16] REQ, RO. -/
abbrev DEVICE_SELV_STAT_REQ : Fld := ⟨0x4c, 16, 16⟩
/-- Table 4-8: `WARP.NOW_LO` [31:0] STAMP, RO. -/
abbrev WARP_NOW_LO_STAMP : Fld := ⟨0x40040, 0, 32⟩
/-- Table 4-8: `WARP.NOW_HI` [31:0] STAMP, RO. -/
abbrev WARP_NOW_HI_STAMP : Fld := ⟨0x40044, 0, 32⟩
/-- Table 4-9: `WARP.INC` [31:0] INC, RO. -/
abbrev WARP_INC_INC : Fld := ⟨0x40048, 0, 32⟩
/-- Table 4-10: `WARP.FM` [31:0] FM, RO. -/
abbrev WARP_FM_FM : Fld := ⟨0x4004c, 0, 32⟩
/-- Table 4-11: `WARP.DELTA` [31:0] DELTA, RO. -/
abbrev WARP_DELTA_DELTA : Fld := ⟨0x40050, 0, 32⟩
/-- Table 4-12: `WARP.STAT` [1:0] STATE, RO. -/
abbrev WARP_STAT_STATE : Fld := ⟨0x40054, 0, 2⟩
/-- Table 4-12: `WARP.STAT` [2] VALID, RO. -/
abbrev WARP_STAT_VALID : Fld := ⟨0x40054, 2, 1⟩
/-- Table 4-12: `WARP.STAT` [3] LOCK, RO. -/
abbrev WARP_STAT_LOCK : Fld := ⟨0x40054, 3, 1⟩
/-- Table 4-12: `WARP.STAT` [4] CLAMP, RO. -/
abbrev WARP_STAT_CLAMP : Fld := ⟨0x40054, 4, 1⟩
/-- Table 4-12: `WARP.STAT` [5] RTHOLD, RO. -/
abbrev WARP_STAT_RTHOLD : Fld := ⟨0x40054, 5, 1⟩
/-- Table 4-12: `WARP.STAT` [31:16] VPOS, RO. -/
abbrev WARP_STAT_VPOS : Fld := ⟨0x40054, 16, 16⟩
/-- Table 4-13: `WARP.STEER` [9:0] SLEW, RWS. -/
abbrev WARP_STEER_SLEW : Fld := ⟨0x40058, 0, 10⟩
/-- Table 4-13: `WARP.STEER` [14:10] PHMAX, RWS. -/
abbrev WARP_STEER_PHMAX : Fld := ⟨0x40058, 10, 5⟩
/-- Table 4-13: `WARP.STEER` [15] RTHOLD, RWS. -/
abbrev WARP_STEER_RTHOLD : Fld := ⟨0x40058, 15, 1⟩
/-- Table 4-13: `WARP.STEER` [22:16] TLIN, RWS. -/
abbrev WARP_STEER_TLIN : Fld := ⟨0x40058, 16, 7⟩
/-- Table 4-13: `WARP.STEER` [31:24] FLYMAX, RWS. -/
abbrev WARP_STEER_FLYMAX : Fld := ⟨0x40058, 24, 8⟩
/-- Table 4-14: `WARP.TRACK` [5:0] VMIN, RWS. -/
abbrev WARP_TRACK_VMIN : Fld := ⟨0x4005c, 0, 6⟩
/-- Table 4-14: `WARP.TRACK` [15:8] FTAU, RWS. -/
abbrev WARP_TRACK_FTAU : Fld := ⟨0x4005c, 8, 8⟩
/-- Table 4-14: `WARP.TRACK` [20:16] PJTH, RWS. -/
abbrev WARP_TRACK_PJTH : Fld := ⟨0x4005c, 16, 5⟩
/-- Table 4-14: `WARP.TRACK` [24] FORCEFREE, RWS. -/
abbrev WARP_TRACK_FORCEFREE : Fld := ⟨0x4005c, 24, 1⟩
/-- Table 4-15: `WARP.FNOM` [0] F60, RO. -/
abbrev WARP_FNOM_F60 : Fld := ⟨0x40060, 0, 1⟩
/-- Table 4-16: `WARP.ATL_SLO` [31:0] STAMP, RO. -/
abbrev WARP_ATL_SLO_STAMP : Fld := ⟨0x40064, 0, 32⟩
/-- Table 4-16: `WARP.ATL_SHI` [31:0] STAMP, RO. -/
abbrev WARP_ATL_SHI_STAMP : Fld := ⟨0x40068, 0, 32⟩
/-- Table 4-16: `WARP.ATL_SEC` [31:0] SEC, RO. -/
abbrev WARP_ATL_SEC_SEC : Fld := ⟨0x4006c, 0, 32⟩
/-- Table 4-16: `WARP.ATL_FRAC` [31:0] FRAC, RO. -/
abbrev WARP_ATL_FRAC_FRAC : Fld := ⟨0x40070, 0, 32⟩
/-- Table 4-16: `WARP.ATL_INFO` [7:0] SECHI, RO. -/
abbrev WARP_ATL_INFO_SECHI : Fld := ⟨0x40074, 0, 8⟩
/-- Table 4-16: `WARP.ATL_INFO` [9:8] TRIG, RO. -/
abbrev WARP_ATL_INFO_TRIG : Fld := ⟨0x40074, 8, 2⟩
/-- Table 4-16: `WARP.ATL_INFO` [31:16] COUNT, RO. -/
abbrev WARP_ATL_INFO_COUNT : Fld := ⟨0x40074, 16, 16⟩
/-- Table 4-17: `TIME.SEC_LO` [31:0] SEC, RO. -/
abbrev TIME_SEC_LO_SEC : Fld := ⟨0x5040, 0, 32⟩
/-- Table 4-17: `TIME.SEC_HI` [7:0] SEC, RO. -/
abbrev TIME_SEC_HI_SEC : Fld := ⟨0x5044, 0, 8⟩
/-- Table 4-17: `TIME.FRAC` [31:0] FRAC, RO. -/
abbrev TIME_FRAC_FRAC : Fld := ⟨0x5048, 0, 32⟩
/-- Table 4-18: `TIME.STAT` [1:0] SRC, RO. -/
abbrev TIME_STAT_SRC : Fld := ⟨0x504c, 0, 2⟩
/-- Table 4-18: `TIME.STAT` [2] VALID, RO. -/
abbrev TIME_STAT_VALID : Fld := ⟨0x504c, 2, 1⟩
/-- Table 4-18: `TIME.STAT` [3] SETPEND, RO. -/
abbrev TIME_STAT_SETPEND : Fld := ⟨0x504c, 3, 1⟩
/-- Table 4-18: `TIME.STAT` [4] PPSOK, RO. -/
abbrev TIME_STAT_PPSOK : Fld := ⟨0x504c, 4, 1⟩
/-- Table 4-18: `TIME.STAT` [5] WFRESH, RO. -/
abbrev TIME_STAT_WFRESH : Fld := ⟨0x504c, 5, 1⟩
/-- Table 4-19: `TIME.RATE` [31:0] RATE, RO. -/
abbrev TIME_RATE_RATE : Fld := ⟨0x5050, 0, 32⟩
/-- Table 4-20: `TIME.SETSEC_LO` [31:0] SEC, RW. -/
abbrev TIME_SETSEC_LO_SEC : Fld := ⟨0x5054, 0, 32⟩
/-- Table 4-20: `TIME.SETSEC_HI` [7:0] SEC, RW. -/
abbrev TIME_SETSEC_HI_SEC : Fld := ⟨0x5058, 0, 8⟩
/-- Table 4-20: `TIME.SETCTL` [0] ARM, RW. -/
abbrev TIME_SETCTL_ARM : Fld := ⟨0x505c, 0, 1⟩
/-- Table 4-20: `TIME.SETCTL` [1] CANCEL, RW. -/
abbrev TIME_SETCTL_CANCEL : Fld := ⟨0x505c, 1, 1⟩
/-- Table 4-21: `TIME.PPSCTL` [0] EN, RWL. -/
abbrev TIME_PPSCTL_EN : Fld := ⟨0x5060, 0, 1⟩
/-- Table 4-21: `TIME.PPSCTL` [1] POL, RWL. -/
abbrev TIME_PPSCTL_POL : Fld := ⟨0x5060, 1, 1⟩
/-- Table 4-21: `TIME.PPSCTL` [11:4] STEPTH, RWL. -/
abbrev TIME_PPSCTL_STEPTH : Fld := ⟨0x5060, 4, 8⟩
/-- Table 4-21: `TIME.PPSCTL` [27:16] HOLDMAX, RWL. -/
abbrev TIME_PPSCTL_HOLDMAX : Fld := ⟨0x5060, 16, 12⟩
/-- Table 4-22: `TIME.PPSERR` [31:0] ERR, RO. -/
abbrev TIME_PPSERR_ERR : Fld := ⟨0x5064, 0, 32⟩
/-- Table 4-23: `TIME.ATLCTL` [0] GO, RW. -/
abbrev TIME_ATLCTL_GO : Fld := ⟨0x5068, 0, 1⟩
/-- Table 4-23: `TIME.ATLCTL` [1] PPSATL, RW. -/
abbrev TIME_ATLCTL_PPSATL : Fld := ⟨0x5068, 1, 1⟩
/-- Table 4-24: `TIME.PPSCNT` [31:0] COUNT, RO. -/
abbrev TIME_PPSCNT_COUNT : Fld := ⟨0x506c, 0, 32⟩
/-- Table 4-25: `TIME.SWARP` [31:0] SWARP, RO. -/
abbrev TIME_SWARP_SWARP : Fld := ⟨0x5070, 0, 32⟩
/-- Table 5-12a: `WEAVE.STAT` [0] ACT, RO. -/
abbrev WEAVE_STAT_ACT : Fld := ⟨0x41040, 0, 1⟩
/-- Table 5-12a: `WEAVE.STAT` [1] FB, RO. -/
abbrev WEAVE_STAT_FB : Fld := ⟨0x41040, 1, 1⟩
/-- Table 5-12a: `WEAVE.STAT` [2] RUN, RO. -/
abbrev WEAVE_STAT_RUN : Fld := ⟨0x41040, 2, 1⟩
/-- Table 5-12a: `WEAVE.STAT` [3] SWPEND, RO. -/
abbrev WEAVE_STAT_SWPEND : Fld := ⟨0x41040, 3, 1⟩
/-- Table 5-12a: `WEAVE.STAT` [4] COLD, RO. -/
abbrev WEAVE_STAT_COLD : Fld := ⟨0x41040, 4, 1⟩
/-- Table 5-12a: `WEAVE.STAT` [15:8] FBCAUSE, RO. -/
abbrev WEAVE_STAT_FBCAUSE : Fld := ⟨0x41040, 8, 8⟩
/-- Table 5-12b: `WEAVE.BANK` [2:0] STATE, RO. -/
abbrev WEAVE_BANK_STATE (n : Nat) : Fld := ⟨0x41044 + 4 * n, 0, 3⟩
/-- Table 5-12b: `WEAVE.BANK` [3] HOTCODE, RO. -/
abbrev WEAVE_BANK_HOTCODE (n : Nat) : Fld := ⟨0x41044 + 4 * n, 3, 1⟩
/-- Table 5-12b: `WEAVE.BANK` [4] PCOMPAT, RO. -/
abbrev WEAVE_BANK_PCOMPAT (n : Nat) : Fld := ⟨0x41044 + 4 * n, 4, 1⟩
/-- Table 5-12b: `WEAVE.BANK` [5] LCOMPAT, RO. -/
abbrev WEAVE_BANK_LCOMPAT (n : Nat) : Fld := ⟨0x41044 + 4 * n, 5, 1⟩
/-- Table 5-12b: `WEAVE.BANK` [15:8] CAUSE, RO. -/
abbrev WEAVE_BANK_CAUSE (n : Nat) : Fld := ⟨0x41044 + 4 * n, 8, 8⟩
/-- Table 5-12b: `WEAVE.BANK` [31:16] XFER, RO. -/
abbrev WEAVE_BANK_XFER (n : Nat) : Fld := ⟨0x41044 + 4 * n, 16, 16⟩
/-- Table 5-12c: `WEAVE.RXB` [22:0] END, RO. -/
abbrev WEAVE_RXB_END (n : Nat) : Fld := ⟨0x4104c + 4 * n, 0, 23⟩
/-- Table 5-12d: `WEAVE.ID_LO` [31:0] IMGID, RO. -/
abbrev WEAVE_ID_LO_IMGID (n : Nat) : Fld := ⟨0x41054 + 8 * n, 0, 32⟩
/-- Table 5-12d: `WEAVE.ID_HI` [31:0] IMGID, RO. -/
abbrev WEAVE_ID_HI_IMGID (n : Nat) : Fld := ⟨0x41058 + 8 * n, 0, 32⟩
/-- Table 5-12e: `WEAVE.CTL` [0] VERIFY, RW. -/
abbrev WEAVE_CTL_VERIFY : Fld := ⟨0x41064, 0, 1⟩
/-- Table 5-12e: `WEAVE.CTL` [1] BANK, RW. -/
abbrev WEAVE_CTL_BANK : Fld := ⟨0x41064, 1, 1⟩
/-- Table 5-12e: `WEAVE.CTL` [2] ERASE, RW. -/
abbrev WEAVE_CTL_ERASE : Fld := ⟨0x41064, 2, 1⟩
/-- Table 5-12f: `WEAVE.SWCTL` [0] GO, RW. -/
abbrev WEAVE_SWCTL_GO : Fld := ⟨0x41068, 0, 1⟩
/-- Table 5-12f: `WEAVE.SWCTL` [1] BANK, RW. -/
abbrev WEAVE_SWCTL_BANK : Fld := ⟨0x41068, 1, 1⟩
/-- Table 5-12f: `WEAVE.SWCTL` [2] ATCYC, RW. -/
abbrev WEAVE_SWCTL_ATCYC : Fld := ⟨0x41068, 2, 1⟩
/-- Table 5-12f: `WEAVE.SWCTL` [3] CANCEL, RW. -/
abbrev WEAVE_SWCTL_CANCEL : Fld := ⟨0x41068, 3, 1⟩
/-- Table 5-12f: `WEAVE.SWCTL` [4] COLDOK, RW. -/
abbrev WEAVE_SWCTL_COLDOK : Fld := ⟨0x41068, 4, 1⟩
/-- Table 5-12g: `WEAVE.SWCYC_LO` [31:0] CYC, RW. -/
abbrev WEAVE_SWCYC_LO_CYC : Fld := ⟨0x4106c, 0, 32⟩
/-- Table 5-12g: `WEAVE.SWCYC_HI` [7:0] CYC, RW. -/
abbrev WEAVE_SWCYC_HI_CYC : Fld := ⟨0x41070, 0, 8⟩
/-- Table 5-12h: `WEAVE.SWSTAT` [2:0] STATE, RO. -/
abbrev WEAVE_SWSTAT_STATE : Fld := ⟨0x41074, 0, 3⟩
/-- Table 5-12h: `WEAVE.SWSTAT` [3] COLDSW, RO. -/
abbrev WEAVE_SWSTAT_COLDSW : Fld := ⟨0x41074, 3, 1⟩
/-- Table 5-12h: `WEAVE.SWSTAT` [7:4] CAUSE, RO. -/
abbrev WEAVE_SWSTAT_CAUSE : Fld := ⟨0x41074, 4, 4⟩
/-- Table 5-12h: `WEAVE.SWSTAT` [15:8] POSTP, RO. -/
abbrev WEAVE_SWSTAT_POSTP : Fld := ⟨0x41074, 8, 8⟩
/-- Table 5-12i: `WEAVE.LASTSW_LO` [31:0] STAMP, RO. -/
abbrev WEAVE_LASTSW_LO_STAMP : Fld := ⟨0x41078, 0, 32⟩
/-- Table 5-12i: `WEAVE.LASTSW_HI` [31:0] STAMP, RO. -/
abbrev WEAVE_LASTSW_HI_STAMP : Fld := ⟨0x4107c, 0, 32⟩
/-- Table 5-12j: `WEAVE.VIOL` [3:0] CHECK, RO. -/
abbrev WEAVE_VIOL_CHECK : Fld := ⟨0x41080, 0, 4⟩
/-- Table 5-12j: `WEAVE.VIOL` [5:4] CLUSTER, RO. -/
abbrev WEAVE_VIOL_CLUSTER : Fld := ⟨0x41080, 4, 2⟩
/-- Table 5-12j: `WEAVE.VIOL` [8:6] ENG, RO. -/
abbrev WEAVE_VIOL_ENG : Fld := ⟨0x41080, 6, 3⟩
/-- Table 5-12j: `WEAVE.VIOL` [9] MAJ, RO. -/
abbrev WEAVE_VIOL_MAJ : Fld := ⟨0x41080, 9, 1⟩
/-- Table 5-12j: `WEAVE.VIOL` [15:10] PLAN, RO. -/
abbrev WEAVE_VIOL_PLAN : Fld := ⟨0x41080, 10, 6⟩
/-- Table 5-12j: `WEAVE.VIOL` [20:16] HEDDLE, RO. -/
abbrev WEAVE_VIOL_HEDDLE : Fld := ⟨0x41080, 16, 5⟩
/-- Table 5-12j: `WEAVE.VIOLW` [31:0] SWARP, RO. -/
abbrev WEAVE_VIOLW_SWARP : Fld := ⟨0x41084, 0, 32⟩
/-- Table 5-12j: `WEAVE.VIOLCNT` [15:0] MINOR, RO. -/
abbrev WEAVE_VIOLCNT_MINOR : Fld := ⟨0x41088, 0, 16⟩
/-- Table 5-12j: `WEAVE.VIOLCNT` [31:16] MAJOR, RO. -/
abbrev WEAVE_VIOLCNT_MAJOR : Fld := ⟨0x41088, 16, 16⟩
/-- Table 5-12k: `WEAVE.PERR` [15:0] WORD, RO. -/
abbrev WEAVE_PERR_WORD : Fld := ⟨0x4108c, 0, 16⟩
/-- Table 5-12k: `WEAVE.PERR` [19:16] CAUSE, RO. -/
abbrev WEAVE_PERR_CAUSE : Fld := ⟨0x4108c, 16, 4⟩
/-- Table 5-12k: `WEAVE.PERR` [31:20] COUNT, RO. -/
abbrev WEAVE_PERR_COUNT : Fld := ⟨0x4108c, 20, 12⟩
/-- Table 5-12k: `WEAVE.PSEQ` [31:0] SWARP, RO. -/
abbrev WEAVE_PSEQ_SWARP : Fld := ⟨0x41090, 0, 32⟩
/-- Table 5-12l: `WEAVE.BGSTAT` [15:0] MISSES, RO. -/
abbrev WEAVE_BGSTAT_MISSES : Fld := ⟨0x41094, 0, 16⟩
/-- Table 5-12l: `WEAVE.BGSTAT` [19:16] JOB, RO. -/
abbrev WEAVE_BGSTAT_JOB : Fld := ⟨0x41094, 16, 4⟩
/-- Table 5-12l: `WEAVE.BGSTAT` [21:20] CLUSTER, RO. -/
abbrev WEAVE_BGSTAT_CLUSTER : Fld := ⟨0x41094, 20, 2⟩
/-- Table 5-12m: `WEAVE.HASH0` [31:0] H, RO. -/
abbrev WEAVE_HASH0_H (n : Nat) : Fld := ⟨0x41100 + 4 * n, 0, 32⟩
/-- Table 5-12m: `WEAVE.HASH1` [31:0] H, RO. -/
abbrev WEAVE_HASH1_H (n : Nat) : Fld := ⟨0x41140 + 4 * n, 0, 32⟩
/-- Table 5-12m: `WEAVE.FBHASH` [31:0] H, RO. -/
abbrev WEAVE_FBHASH_H (n : Nat) : Fld := ⟨0x41180 + 4 * n, 0, 32⟩
/-- Table 6-17: `LOOM.STAT` [2:0] STATE, RO. -/
abbrev LOOM_STAT_STATE (i : Nat) : Fld := ⟨0x44040 + 0x1000 * i, 0, 3⟩
/-- Table 6-17: `LOOM.STAT` [3] CTX, RO. -/
abbrev LOOM_STAT_CTX (i : Nat) : Fld := ⟨0x44040 + 0x1000 * i, 3, 1⟩
/-- Table 6-17: `LOOM.STAT` [4] HALF, RO. -/
abbrev LOOM_STAT_HALF (i : Nat) : Fld := ⟨0x44040 + 0x1000 * i, 4, 1⟩
/-- Table 6-17: `LOOM.STAT` [5] FBROM, RO. -/
abbrev LOOM_STAT_FBROM (i : Nat) : Fld := ⟨0x44040 + 0x1000 * i, 5, 1⟩
/-- Table 6-17: `LOOM.STAT` [13:8] PLAN, RO. -/
abbrev LOOM_STAT_PLAN (i : Nat) : Fld := ⟨0x44040 + 0x1000 * i, 8, 6⟩
/-- Table 6-17: `LOOM.STAT` [20:16] HEDDLE, RO. -/
abbrev LOOM_STAT_HEDDLE (i : Nat) : Fld := ⟨0x44040 + 0x1000 * i, 16, 5⟩
/-- Table 6-18: `LOOM.STOP` [3:0] CAUSE, RO. -/
abbrev LOOM_STOP_CAUSE (i : Nat) : Fld := ⟨0x44044 + 0x1000 * i, 0, 4⟩
/-- Table 6-18: `LOOM.STOP` [11:4] SUB, RO. -/
abbrev LOOM_STOP_SUB (i : Nat) : Fld := ⟨0x44044 + 0x1000 * i, 4, 8⟩
/-- Table 6-18: `LOOM.STOP` [12] LATE, RO. -/
abbrev LOOM_STOP_LATE (i : Nat) : Fld := ⟨0x44044 + 0x1000 * i, 12, 1⟩
/-- Table 6-18: `LOOM.STOP` [31:16] COUNT, RO. -/
abbrev LOOM_STOP_COUNT (i : Nat) : Fld := ⟨0x44044 + 0x1000 * i, 16, 16⟩
/-- Table 6-18: `LOOM.STOPPC` [12:0] S, RO. -/
abbrev LOOM_STOPPC_S (i : Nat) : Fld := ⟨0x44048 + 0x1000 * i, 0, 13⟩
/-- Table 6-18: `LOOM.STOPPC` [13] SROM, RO. -/
abbrev LOOM_STOPPC_SROM (i : Nat) : Fld := ⟨0x44048 + 0x1000 * i, 13, 1⟩
/-- Table 6-18: `LOOM.STOPPC` [28:16] FPC, RO. -/
abbrev LOOM_STOPPC_FPC (i : Nat) : Fld := ⟨0x44048 + 0x1000 * i, 16, 13⟩
/-- Table 6-18: `LOOM.STOPPC` [29] FROM, RO. -/
abbrev LOOM_STOPPC_FROM (i : Nat) : Fld := ⟨0x44048 + 0x1000 * i, 29, 1⟩
/-- Table 6-18: `LOOM.STOPPC` [30] FPCV, RO. -/
abbrev LOOM_STOPPC_FPCV (i : Nat) : Fld := ⟨0x44048 + 0x1000 * i, 30, 1⟩
/-- Table 6-18: `LOOM.STOPCTX` [1:0] XDLY, RO. -/
abbrev LOOM_STOPCTX_XDLY (i : Nat) : Fld := ⟨0x4404c + 0x1000 * i, 0, 2⟩
/-- Table 6-18: `LOOM.STOPCTX` [3:2] XSHD, RO. -/
abbrev LOOM_STOPCTX_XSHD (i : Nat) : Fld := ⟨0x4404c + 0x1000 * i, 2, 2⟩
/-- Table 6-18: `LOOM.STOPCTX` [4] XLEND, RO. -/
abbrev LOOM_STOPCTX_XLEND (i : Nat) : Fld := ⟨0x4404c + 0x1000 * i, 4, 1⟩
/-- Table 6-18: `LOOM.STOPCTX` [6:5] XLVL, RO. -/
abbrev LOOM_STOPCTX_XLVL (i : Nat) : Fld := ⟨0x4404c + 0x1000 * i, 5, 2⟩
/-- Table 6-18: `LOOM.STOPCTX` [11:7] XMODE, RO. -/
abbrev LOOM_STOPCTX_XMODE (i : Nat) : Fld := ⟨0x4404c + 0x1000 * i, 7, 5⟩
/-- Table 6-18: `LOOM.STOPCTX` [12] XCTX, RO. -/
abbrev LOOM_STOPCTX_XCTX (i : Nat) : Fld := ⟨0x4404c + 0x1000 * i, 12, 1⟩
/-- Table 6-18: `LOOM.STOPCTX` [14:13] SDLY, RO. -/
abbrev LOOM_STOPCTX_SDLY (i : Nat) : Fld := ⟨0x4404c + 0x1000 * i, 13, 2⟩
/-- Table 6-18: `LOOM.STOPCTX` [15] BTAKEN, RO. -/
abbrev LOOM_STOPCTX_BTAKEN (i : Nat) : Fld := ⟨0x4404c + 0x1000 * i, 15, 1⟩
/-- Table 6-18: `LOOM.STOPCTX` [16] SPEND, RO. -/
abbrev LOOM_STOPCTX_SPEND (i : Nat) : Fld := ⟨0x4404c + 0x1000 * i, 16, 1⟩
/-- Table 6-18: `LOOM.STOPCTX` [18:17] SSHD, RO. -/
abbrev LOOM_STOPCTX_SSHD (i : Nat) : Fld := ⟨0x4404c + 0x1000 * i, 17, 2⟩
/-- Table 6-18: `LOOM.STOPCTX` [20:19] LDEPTH, RO. -/
abbrev LOOM_STOPCTX_LDEPTH (i : Nat) : Fld := ⟨0x4404c + 0x1000 * i, 19, 2⟩
/-- Table 6-18: `LOOM.STOPCTX` [25:21] SMODE, RO. -/
abbrev LOOM_STOPCTX_SMODE (i : Nat) : Fld := ⟨0x4404c + 0x1000 * i, 21, 5⟩
/-- Table 6-18: `LOOM.STOPCTX` [30:26] PMODE, RO. -/
abbrev LOOM_STOPCTX_PMODE (i : Nat) : Fld := ⟨0x4404c + 0x1000 * i, 26, 5⟩
/-- Table 6-18: `LOOM.STOPBT` [12:0] BTGT, RO. -/
abbrev LOOM_STOPBT_BTGT (i : Nat) : Fld := ⟨0x44050 + 0x1000 * i, 0, 13⟩
/-- Table 6-18: `LOOM.STOPBT` [13] BROM, RO. -/
abbrev LOOM_STOPBT_BROM (i : Nat) : Fld := ⟨0x44050 + 0x1000 * i, 13, 1⟩
/-- Table 6-18: `LOOM.STOPW` [31:0] SWARP, RO. -/
abbrev LOOM_STOPW_SWARP (i : Nat) : Fld := ⟨0x44054 + 0x1000 * i, 0, 32⟩
/-- Table 6-18: `LOOM.STOPLC` [12:0] LC, RO. -/
abbrev LOOM_STOPLC_LC (i : Nat) : Fld := ⟨0x44058 + 0x1000 * i, 0, 13⟩
/-- Table 6-18: `LOOM.STOPLC` [20:16] HEDDLE, RO. -/
abbrev LOOM_STOPLC_HEDDLE (i : Nat) : Fld := ⟨0x44058 + 0x1000 * i, 16, 5⟩
/-- Table 6-18: `LOOM.STOPLC` [26:21] PLAN, RO. -/
abbrev LOOM_STOPLC_PLAN (i : Nat) : Fld := ⟨0x44058 + 0x1000 * i, 21, 6⟩
/-- Table 6-19: `LOOM.LP_CNT` [15:0] CNT, RO. -/
abbrev LOOM_LP_CNT_CNT (i n : Nat) : Fld := ⟨0x4405c + 0x1000 * i + 8 * n, 0, 16⟩
/-- Table 6-19: `LOOM.LP_CNT` [31:16] XCNT, RO. -/
abbrev LOOM_LP_CNT_XCNT (i n : Nat) : Fld := ⟨0x4405c + 0x1000 * i + 8 * n, 16, 16⟩
/-- Table 6-19: `LOOM.LP_RNG` [12:0] START, RO. -/
abbrev LOOM_LP_RNG_START (i n : Nat) : Fld := ⟨0x44060 + 0x1000 * i + 8 * n, 0, 13⟩
/-- Table 6-19: `LOOM.LP_RNG` [28:16] END, RO. -/
abbrev LOOM_LP_RNG_END (i n : Nat) : Fld := ⟨0x44060 + 0x1000 * i + 8 * n, 16, 13⟩
/-- Table 6-19: `LOOM.LP_RNG` [31] ACT, RO. -/
abbrev LOOM_LP_RNG_ACT (i n : Nat) : Fld := ⟨0x44060 + 0x1000 * i + 8 * n, 31, 1⟩
/-- Table 6-20: `LOOM.FLAGS` [8:0] FG, RO. -/
abbrev LOOM_FLAGS_FG (i : Nat) : Fld := ⟨0x44080 + 0x1000 * i, 0, 9⟩
/-- Table 6-20: `LOOM.FLAGS` [24:16] BG, RO. -/
abbrev LOOM_FLAGS_BG (i : Nat) : Fld := ⟨0x44080 + 0x1000 * i, 16, 9⟩
/-- Table 6-20: `LOOM.FCAP_PC` [12:0] FPC, RO. -/
abbrev LOOM_FCAP_PC_FPC (i n : Nat) : Fld := ⟨0x44084 + 0x1000 * i + 8 * n, 0, 13⟩
/-- Table 6-20: `LOOM.FCAP_PC` [13] ROM, RO. -/
abbrev LOOM_FCAP_PC_ROM (i n : Nat) : Fld := ⟨0x44084 + 0x1000 * i + 8 * n, 13, 1⟩
/-- Table 6-20: `LOOM.FCAP_PC` [17:14] FLAG, RO. -/
abbrev LOOM_FCAP_PC_FLAG (i n : Nat) : Fld := ⟨0x44084 + 0x1000 * i + 8 * n, 14, 4⟩
/-- Table 6-20: `LOOM.FCAP_PC` [20:18] SLOT, RO. -/
abbrev LOOM_FCAP_PC_SLOT (i n : Nat) : Fld := ⟨0x44084 + 0x1000 * i + 8 * n, 18, 3⟩
/-- Table 6-20: `LOOM.FCAP_PC` [31] VALID, RO. -/
abbrev LOOM_FCAP_PC_VALID (i n : Nat) : Fld := ⟨0x44084 + 0x1000 * i + 8 * n, 31, 1⟩
/-- Table 6-20: `LOOM.FCAP_X` [1:0] XDLY, RO. -/
abbrev LOOM_FCAP_X_XDLY (i n : Nat) : Fld := ⟨0x44088 + 0x1000 * i + 8 * n, 0, 2⟩
/-- Table 6-20: `LOOM.FCAP_X` [3:2] XSHD, RO. -/
abbrev LOOM_FCAP_X_XSHD (i n : Nat) : Fld := ⟨0x44088 + 0x1000 * i + 8 * n, 2, 2⟩
/-- Table 6-20: `LOOM.FCAP_X` [4] XLEND, RO. -/
abbrev LOOM_FCAP_X_XLEND (i n : Nat) : Fld := ⟨0x44088 + 0x1000 * i + 8 * n, 4, 1⟩
/-- Table 6-20: `LOOM.FCAP_X` [6:5] XLVL, RO. -/
abbrev LOOM_FCAP_X_XLVL (i n : Nat) : Fld := ⟨0x44088 + 0x1000 * i + 8 * n, 5, 2⟩
/-- Table 6-20: `LOOM.FCAP_X` [11:7] XMODE, RO. -/
abbrev LOOM_FCAP_X_XMODE (i n : Nat) : Fld := ⟨0x44088 + 0x1000 * i + 8 * n, 7, 5⟩
/-- Table 6-20: `LOOM.FCAP_X` [31:16] LCX, RO. -/
abbrev LOOM_FCAP_X_LCX (i n : Nat) : Fld := ⟨0x44088 + 0x1000 * i + 8 * n, 16, 16⟩
/-- Table 6-21: `LOOM.FLAGEN` [8:0] FG, RW. -/
abbrev LOOM_FLAGEN_FG (i : Nat) : Fld := ⟨0x44094 + 0x1000 * i, 0, 9⟩
/-- Table 6-21: `LOOM.FLAGEN` [24:16] BG, RW. -/
abbrev LOOM_FLAGEN_BG (i : Nat) : Fld := ⟨0x44094 + 0x1000 * i, 16, 9⟩
/-- Table 6-22: `LOOM.ECCCNT_I` [31:0] COUNT, RO. -/
abbrev LOOM_ECCCNT_I_COUNT (i : Nat) : Fld := ⟨0x440a0 + 0x1000 * i, 0, 32⟩
/-- Table 6-22: `LOOM.ECCCNT_D` [31:0] COUNT, RO. -/
abbrev LOOM_ECCCNT_D_COUNT (i : Nat) : Fld := ⟨0x440a4 + 0x1000 * i, 0, 32⟩
/-- Table 6-22: `LOOM.ECCCNT_A` [31:0] COUNT, RO. -/
abbrev LOOM_ECCCNT_A_COUNT (i : Nat) : Fld := ⟨0x440a8 + 0x1000 * i, 0, 32⟩
/-- Table 6-22: `LOOM.ECCCNT_X` [31:0] COUNT, RO. -/
abbrev LOOM_ECCCNT_X_COUNT (i : Nat) : Fld := ⟨0x440b0 + 0x1000 * i, 0, 32⟩
/-- Table 6-22: `LOOM.ECCLAST` [2:0] MEM, RO. -/
abbrev LOOM_ECCLAST_MEM (i : Nat) : Fld := ⟨0x440ac + 0x1000 * i, 0, 3⟩
/-- Table 6-22: `LOOM.ECCLAST` [3] UE, RO. -/
abbrev LOOM_ECCLAST_UE (i : Nat) : Fld := ⟨0x440ac + 0x1000 * i, 3, 1⟩
/-- Table 6-22: `LOOM.ECCLAST` [4] SCRUB, RO. -/
abbrev LOOM_ECCLAST_SCRUB (i : Nat) : Fld := ⟨0x440ac + 0x1000 * i, 4, 1⟩
/-- Table 6-22: `LOOM.ECCLAST` [21:5] ADDR, RO. -/
abbrev LOOM_ECCLAST_ADDR (i : Nat) : Fld := ⟨0x440ac + 0x1000 * i, 5, 17⟩
/-- Table 6-23: `LOOM.STEPCTL` [12:0] N, RWL. -/
abbrev LOOM_STEPCTL_N (i : Nat) : Fld := ⟨0x440c0 + 0x1000 * i, 0, 13⟩
/-- Table 6-23: `LOOM.STEPPC` [12:0] PC, RWL. -/
abbrev LOOM_STEPPC_PC (i : Nat) : Fld := ⟨0x440c4 + 0x1000 * i, 0, 13⟩
/-- Table 6-23: `LOOM.STEPPC` [13] ROM, RWL. -/
abbrev LOOM_STEPPC_ROM (i : Nat) : Fld := ⟨0x440c4 + 0x1000 * i, 13, 1⟩
/-- Table 6-23: `LOOM.STEPSTAT` [12:0] DONE, RO. -/
abbrev LOOM_STEPSTAT_DONE (i : Nat) : Fld := ⟨0x440c8 + 0x1000 * i, 0, 13⟩
/-- Table 6-23: `LOOM.STEPSTAT` [15:13] KIND, RO. -/
abbrev LOOM_STEPSTAT_KIND (i : Nat) : Fld := ⟨0x440c8 + 0x1000 * i, 13, 3⟩
/-- Table 6-23: `LOOM.STEPSTAT` [31:16] RECS, RO. -/
abbrev LOOM_STEPSTAT_RECS (i : Nat) : Fld := ⟨0x440c8 + 0x1000 * i, 16, 16⟩
/-- Table 6-23: `LOOM.STEPREC0` [31:0] A, RO. -/
abbrev LOOM_STEPREC0_A (i : Nat) : Fld := ⟨0x440cc + 0x1000 * i, 0, 32⟩
/-- Table 6-23: `LOOM.STEPREC1` [31:0] B, RO. -/
abbrev LOOM_STEPREC1_B (i : Nat) : Fld := ⟨0x440d0 + 0x1000 * i, 0, 32⟩
/-- Table 7-7: `REED.CTL` [0] AUTOREP, RWL. -/
abbrev REED_CTL_AUTOREP : Fld := ⟨0x50040, 0, 1⟩
/-- Table 7-7: `REED.CTL` [4:1] TRIES, RWL. -/
abbrev REED_CTL_TRIES : Fld := ⟨0x50040, 1, 4⟩
/-- Table 7-8: `REED.ENGCTL` [3:0] ENG, RW. -/
abbrev REED_ENGCTL_ENG : Fld := ⟨0x50044, 0, 4⟩
/-- Table 7-8: `REED.ENGCTL` [6:4] CMD, RW. -/
abbrev REED_ENGCTL_CMD : Fld := ⟨0x50044, 4, 3⟩
/-- Table 7-8: `REED.ENGCTL` [7] HALF, RW. -/
abbrev REED_ENGCTL_HALF : Fld := ⟨0x50044, 7, 1⟩
/-- Table 7-8a: `REED.LASTMIS` [1:0] CLUSTER, RO. -/
abbrev REED_LASTMIS_CLUSTER : Fld := ⟨0x50048, 0, 2⟩
/-- Table 7-8a: `REED.LASTMIS` [3:2] ENG, RO. -/
abbrev REED_LASTMIS_ENG : Fld := ⟨0x50048, 2, 2⟩
/-- Table 7-8a: `REED.LASTMIS` [6:4] KIND, RO. -/
abbrev REED_LASTMIS_KIND : Fld := ⟨0x50048, 4, 3⟩
/-- Table 7-8a: `REED.LASTMIS` [7] AUD, RO. -/
abbrev REED_LASTMIS_AUD : Fld := ⟨0x50048, 7, 1⟩
/-- Table 7-8a: `REED.LASTMIS` [20:8] LC, RO. -/
abbrev REED_LASTMIS_LC : Fld := ⟨0x50048, 8, 13⟩
/-- Table 7-8a: `REED.LASTMISW` [31:0] SWARP, RO. -/
abbrev REED_LASTMISW_SWARP : Fld := ⟨0x5004c, 0, 32⟩
/-- Table 7-9: `REED.CLST` [2:0] MODE, RO. -/
abbrev REED_CLST_MODE (n : Nat) : Fld := ⟨0x50050 + 4 * n, 0, 3⟩
/-- Table 7-9: `REED.CLST` [5:3] VOTE, RO. -/
abbrev REED_CLST_VOTE (n : Nat) : Fld := ⟨0x50050 + 4 * n, 3, 3⟩
/-- Table 7-9: `REED.CLST` [7:6] HALF, RO. -/
abbrev REED_CLST_HALF (n : Nat) : Fld := ⟨0x50050 + 4 * n, 6, 2⟩
/-- Table 7-9: `REED.CLST` [8] REP, RO. -/
abbrev REED_CLST_REP (n : Nat) : Fld := ⟨0x50050 + 4 * n, 8, 1⟩
/-- Table 7-9: `REED.CLST` [10:9] REPENG, RO. -/
abbrev REED_CLST_REPENG (n : Nat) : Fld := ⟨0x50050 + 4 * n, 9, 2⟩
/-- Table 7-9: `REED.CLST` [12:11] SRCENG, RO. -/
abbrev REED_CLST_SRCENG (n : Nat) : Fld := ⟨0x50050 + 4 * n, 11, 2⟩
/-- Table 7-9: `REED.CLST` [13] PROB, RO. -/
abbrev REED_CLST_PROB (n : Nat) : Fld := ⟨0x50050 + 4 * n, 13, 1⟩
/-- Table 7-9: `REED.CLST` [31:16] MIN, RO. -/
abbrev REED_CLST_MIN (n : Nat) : Fld := ⟨0x50050 + 4 * n, 16, 16⟩
/-- Table 7-10: `REED.MINCNT` [31:0] COUNT, RO. -/
abbrev REED_MINCNT_COUNT (n : Nat) : Fld := ⟨0x50060 + 4 * n, 0, 32⟩
/-- Table 7-10: `REED.REPCNT` [15:0] DONE, RO. -/
abbrev REED_REPCNT_DONE (n : Nat) : Fld := ⟨0x50070 + 4 * n, 0, 16⟩
/-- Table 7-10: `REED.REPCNT` [31:16] FAILS, RO. -/
abbrev REED_REPCNT_FAILS (n : Nat) : Fld := ⟨0x50070 + 4 * n, 16, 16⟩
/-- Table 7-11: `REED.ENGST` [2:0] STATE, RO. -/
abbrev REED_ENGST_STATE (n : Nat) : Fld := ⟨0x50080 + 4 * n, 0, 3⟩
/-- Table 7-11: `REED.ENGST` [3] VOTE, RO. -/
abbrev REED_ENGST_VOTE (n : Nat) : Fld := ⟨0x50080 + 4 * n, 3, 1⟩
/-- Table 7-11: `REED.ENGST` [4] PROB, RO. -/
abbrev REED_ENGST_PROB (n : Nat) : Fld := ⟨0x50080 + 4 * n, 4, 1⟩
/-- Table 7-11: `REED.ENGST` [5] RETIRED, RO. -/
abbrev REED_ENGST_RETIRED (n : Nat) : Fld := ⟨0x50080 + 4 * n, 5, 1⟩
/-- Table 7-11: `REED.ENGST` [6] HELD, RO. -/
abbrev REED_ENGST_HELD (n : Nat) : Fld := ⟨0x50080 + 4 * n, 6, 1⟩
/-- Table 7-11: `REED.ENGST` [7] SRC, RO. -/
abbrev REED_ENGST_SRC (n : Nat) : Fld := ⟨0x50080 + 4 * n, 7, 1⟩
/-- Table 7-11: `REED.ENGST` [11:8] LASTCAUSE, RO. -/
abbrev REED_ENGST_LASTCAUSE (n : Nat) : Fld := ⟨0x50080 + 4 * n, 8, 4⟩
/-- Table 7-11: `REED.ENGST` [15:12] FAILS, RO. -/
abbrev REED_ENGST_FAILS (n : Nat) : Fld := ⟨0x50080 + 4 * n, 12, 4⟩
/-- Table 7-11: `REED.ENGST` [31:16] PROG, RO. -/
abbrev REED_ENGST_PROG (n : Nat) : Fld := ⟨0x50080 + 4 * n, 16, 16⟩
/-- Table 7-12: `REED.HALFCNT` [7:0] A, RO. -/
abbrev REED_HALFCNT_A : Fld := ⟨0x500b0, 0, 8⟩
/-- Table 7-12: `REED.HALFCNT` [15:8] B, RO. -/
abbrev REED_HALFCNT_B : Fld := ⟨0x500b0, 8, 8⟩
/-- Table 7-12: `REED.HALFCNT` [23:16] C, RO. -/
abbrev REED_HALFCNT_C : Fld := ⟨0x500b0, 16, 8⟩
/-- Table 7-12: `REED.HALFCNT` [31:24] P, RO. -/
abbrev REED_HALFCNT_P : Fld := ⟨0x500b0, 24, 8⟩
/-- Table 7-14: `WARDEN.STAT` [1:0] STATE, RO. -/
abbrev WARDEN_STAT_STATE : Fld := ⟨0x52040, 0, 2⟩
/-- Table 7-14: `WARDEN.STAT` [3:2] STBY, RO. -/
abbrev WARDEN_STAT_STBY : Fld := ⟨0x52040, 2, 2⟩
/-- Table 7-14: `WARDEN.STAT` [12:8] IRQQ, RO. -/
abbrev WARDEN_STAT_IRQQ : Fld := ⟨0x52040, 8, 5⟩
/-- Table 7-14: `WARDEN.STAT` [31:16] RESTARTS, RO. -/
abbrev WARDEN_STAT_RESTARTS : Fld := ⟨0x52040, 16, 16⟩
/-- Table 7-15: `WARDEN.IRQIN` [7:0] SRC, RO. -/
abbrev WARDEN_IRQIN_SRC : Fld := ⟨0x52044, 0, 8⟩
/-- Table 7-16: `WARDEN.FWVER` [31:0] VER, RO. -/
abbrev WARDEN_FWVER_VER : Fld := ⟨0x52048, 0, 32⟩
/-- Table 7-16: `WARDEN.FWSTBYV` [31:0] VER, RO. -/
abbrev WARDEN_FWSTBYV_VER : Fld := ⟨0x5204c, 0, 32⟩
/-- Table 7-17: `WARDEN.FWCTL` [0] VERIFY, RW. -/
abbrev WARDEN_FWCTL_VERIFY : Fld := ⟨0x52050, 0, 1⟩
/-- Table 7-17: `WARDEN.FWCTL` [1] ACTIVATE, RW. -/
abbrev WARDEN_FWCTL_ACTIVATE : Fld := ⟨0x52050, 1, 1⟩
/-- Table 7-17: `WARDEN.FWCTL` [2] ERASE, RW. -/
abbrev WARDEN_FWCTL_ERASE : Fld := ⟨0x52050, 2, 1⟩
/-- Table 7-18: `WARDEN.AUDIT` [15:0] PASSES, RO. -/
abbrev WARDEN_AUDIT_PASSES : Fld := ⟨0x52054, 0, 16⟩
/-- Table 7-18: `WARDEN.AUDIT` [31:16] MIS, RO. -/
abbrev WARDEN_AUDIT_MIS : Fld := ⟨0x52054, 16, 16⟩
/-- Table 7-18: `WARDEN.IRQLOST` [31:0] COUNT, RO. -/
abbrev WARDEN_IRQLOST_COUNT : Fld := ⟨0x52058, 0, 32⟩
/-- Table 8-17: `RING.STAT` [2:0] STATE, RO. -/
abbrev RING_STAT_STATE (i : Nat) : Fld := ⟨0x58040 + 0x1000 * i, 0, 3⟩
/-- Table 8-17: `RING.STAT` [3] LOCK, RO. -/
abbrev RING_STAT_LOCK (i : Nat) : Fld := ⟨0x58040 + 0x1000 * i, 3, 1⟩
/-- Table 8-17: `RING.STAT` [4] RXOK, RO. -/
abbrev RING_STAT_RXOK (i : Nat) : Fld := ⟨0x58040 + 0x1000 * i, 4, 1⟩
/-- Table 8-17: `RING.STAT` [5] TERM, RO. -/
abbrev RING_STAT_TERM (i : Nat) : Fld := ⟨0x58040 + 0x1000 * i, 5, 1⟩
/-- Table 8-17: `RING.STAT` [6] KEYED, RO. -/
abbrev RING_STAT_KEYED (i : Nat) : Fld := ⟨0x58040 + 0x1000 * i, 6, 1⟩
/-- Table 8-17: `RING.STAT` [14:8] OWNED, RO. -/
abbrev RING_STAT_OWNED (i : Nat) : Fld := ⟨0x58040 + 0x1000 * i, 8, 7⟩
/-- Table 8-17: `RING.STAT` [22:16] PRESENT, RO. -/
abbrev RING_STAT_PRESENT (i : Nat) : Fld := ⟨0x58040 + 0x1000 * i, 16, 7⟩
/-- Table 8-17: `RING.STAT` [30:24] HOPS, RO. -/
abbrev RING_STAT_HOPS (i : Nat) : Fld := ⟨0x58040 + 0x1000 * i, 24, 7⟩
/-- Table 8-18: `RING.OWN_LO` [31:0] OWN, RO. -/
abbrev RING_OWN_LO_OWN (i : Nat) : Fld := ⟨0x58044 + 0x1000 * i, 0, 32⟩
/-- Table 8-18: `RING.OWN_HI` [31:0] OWN, RO. -/
abbrev RING_OWN_HI_OWN (i : Nat) : Fld := ⟨0x58048 + 0x1000 * i, 0, 32⟩
/-- Table 8-18: `RING.PRES_LO` [31:0] PRES, RO. -/
abbrev RING_PRES_LO_PRES (i : Nat) : Fld := ⟨0x5804c + 0x1000 * i, 0, 32⟩
/-- Table 8-18: `RING.PRES_HI` [31:0] PRES, RO. -/
abbrev RING_PRES_HI_PRES (i : Nat) : Fld := ⟨0x58050 + 0x1000 * i, 0, 32⟩
/-- Table 8-19: `RING.FECCOR` [31:0] COUNT, RO. -/
abbrev RING_FECCOR_COUNT (i : Nat) : Fld := ⟨0x58054 + 0x1000 * i, 0, 32⟩
/-- Table 8-19: `RING.FECUNC` [31:0] COUNT, RO. -/
abbrev RING_FECUNC_COUNT (i : Nat) : Fld := ⟨0x58058 + 0x1000 * i, 0, 32⟩
/-- Table 8-19: `RING.AUTHERR` [31:0] COUNT, RO. -/
abbrev RING_AUTHERR_COUNT (i : Nat) : Fld := ⟨0x5805c + 0x1000 * i, 0, 32⟩
/-- Table 8-19: `RING.AGED` [15:0] AGED, RO. -/
abbrev RING_AGED_AGED (i : Nat) : Fld := ⟨0x58060 + 0x1000 * i, 0, 16⟩
/-- Table 8-19: `RING.AGED` [31:16] STALE, RO. -/
abbrev RING_AGED_STALE (i : Nat) : Fld := ⟨0x58060 + 0x1000 * i, 16, 16⟩
/-- Table 8-19: `RING.TOKCNT` [31:0] COUNT, RO. -/
abbrev RING_TOKCNT_COUNT (i : Nat) : Fld := ⟨0x58068 + 0x1000 * i, 0, 32⟩
/-- Table 8-20: `RING.LOOP` [15:0] TOTAL, RO. -/
abbrev RING_LOOP_TOTAL (i : Nat) : Fld := ⟨0x58064 + 0x1000 * i, 0, 16⟩
/-- Table 8-20: `RING.LOOP` [31:16] FIBRE, RO. -/
abbrev RING_LOOP_FIBRE (i : Nat) : Fld := ⟨0x58064 + 0x1000 * i, 16, 16⟩
/-- Table 8-21: `RING.FAILCNT` [15:0] FAIL, RO. -/
abbrev RING_FAILCNT_FAIL (i : Nat) : Fld := ⟨0x5806c + 0x1000 * i, 0, 16⟩
/-- Table 8-21: `RING.FAILCNT` [31:16] MOVES, RO. -/
abbrev RING_FAILCNT_MOVES (i : Nat) : Fld := ⟨0x5806c + 0x1000 * i, 16, 16⟩
/-- Table 8-22: `RING.CTL` [0] ENUM, RWL. -/
abbrev RING_CTL_ENUM (i : Nat) : Fld := ⟨0x58070 + 0x1000 * i, 0, 1⟩
/-- Table 8-22: `RING.CTL` [1] FORCEOUT, RWL. -/
abbrev RING_CTL_FORCEOUT (i : Nat) : Fld := ⟨0x58070 + 0x1000 * i, 1, 1⟩
/-- Table 8-23: `RING.ENUMSTAT` [1:0] RESULT, RO. -/
abbrev RING_ENUMSTAT_RESULT (i : Nat) : Fld := ⟨0x58074 + 0x1000 * i, 0, 2⟩
/-- Table 8-23: `RING.ENUMSTAT` [8:2] FOUND, RO. -/
abbrev RING_ENUMSTAT_FOUND (i : Nat) : Fld := ⟨0x58074 + 0x1000 * i, 2, 7⟩
/-- Table 8-23: `RING.ENUMSTAT` [31:16] MS, RO. -/
abbrev RING_ENUMSTAT_MS (i : Nat) : Fld := ⟨0x58074 + 0x1000 * i, 16, 16⟩
/-- Table 8-23: `RING.LASTW` [31:0] SWARP, RO. -/
abbrev RING_LASTW_SWARP (i : Nat) : Fld := ⟨0x58078 + 0x1000 * i, 0, 32⟩
/-- Table 8-24: `RING.TWSTAT` [3:0] STATE, RO. -/
abbrev RING_TWSTAT_STATE (i : Nat) : Fld := ⟨0x58080 + 0x1000 * i, 0, 4⟩
/-- Table 8-24: `RING.TWSTAT` [4] PUNIT, RO. -/
abbrev RING_TWSTAT_PUNIT (i : Nat) : Fld := ⟨0x58080 + 0x1000 * i, 4, 1⟩
/-- Table 8-24: `RING.TWSTAT` [5] PYIELD, RO. -/
abbrev RING_TWSTAT_PYIELD (i : Nat) : Fld := ⟨0x58080 + 0x1000 * i, 5, 1⟩
/-- Table 8-24: `RING.TWSTAT` [6] DIGOK, RO. -/
abbrev RING_TWSTAT_DIGOK (i : Nat) : Fld := ⟨0x58080 + 0x1000 * i, 6, 1⟩
/-- Table 8-24: `RING.TWSTAT` [15:8] XFER, RO. -/
abbrev RING_TWSTAT_XFER (i : Nat) : Fld := ⟨0x58080 + 0x1000 * i, 8, 8⟩
/-- Table 8-24: `RING.TWCNT` [15:0] MISS, RO. -/
abbrev RING_TWCNT_MISS (i : Nat) : Fld := ⟨0x58084 + 0x1000 * i, 0, 16⟩
/-- Table 8-24: `RING.TWCNT` [31:16] DIVERGE, RO. -/
abbrev RING_TWCNT_DIVERGE (i : Nat) : Fld := ⟨0x58084 + 0x1000 * i, 16, 16⟩
/-- Table 8-24: `RING.TWLASTW` [31:0] SWARP, RO. -/
abbrev RING_TWLASTW_SWARP (i : Nat) : Fld := ⟨0x58088 + 0x1000 * i, 0, 32⟩
/-- Table 8-24: `RING.TWCTL` [0] JOIN, RWL. -/
abbrev RING_TWCTL_JOIN (i : Nat) : Fld := ⟨0x5808c + 0x1000 * i, 0, 1⟩
/-- Table 8-24: `RING.TWCTL` [1] ACCEPT, RWL. -/
abbrev RING_TWCTL_ACCEPT (i : Nat) : Fld := ⟨0x5808c + 0x1000 * i, 1, 1⟩
/-- Table 9-7: `EDGE.CARRIER` [8:0] PERIOD, RWS. -/
abbrev EDGE_CARRIER_PERIOD : Fld := ⟨0x60040, 0, 9⟩
/-- Table 9-7: `EDGE.CARRIER` [9] ALIGN, RWS. -/
abbrev EDGE_CARRIER_ALIGN : Fld := ⟨0x60040, 9, 1⟩
/-- Table 9-8: `EDGE.PULSE` [8:0] DT, RWS. -/
abbrev EDGE_PULSE_DT : Fld := ⟨0x60044, 0, 9⟩
/-- Table 9-8: `EDGE.PULSE` [22:16] TMIN, RWS. -/
abbrev EDGE_PULSE_TMIN : Fld := ⟨0x60044, 16, 7⟩
/-- Table 9-8: `EDGE.PULSE` [25:24] XMODE, RWS. -/
abbrev EDGE_PULSE_XMODE : Fld := ⟨0x60044, 24, 2⟩
/-- Table 9-9: `EDGE.STAT` [8:0] CPC, RO. -/
abbrev EDGE_STAT_CPC : Fld := ⟨0x60048, 0, 9⟩
/-- Table 9-9: `EDGE.STAT` [17:9] PLEN, RO. -/
abbrev EDGE_STAT_PLEN : Fld := ⟨0x60048, 9, 9⟩
/-- Table 9-9: `EDGE.STAT` [18] RUN, RO. -/
abbrev EDGE_STAT_RUN : Fld := ⟨0x60048, 18, 1⟩
/-- Table 9-9: `EDGE.STAT` [19] CEIL, RO. -/
abbrev EDGE_STAT_CEIL : Fld := ⟨0x60048, 19, 1⟩
/-- Table 9-10: `EDGE.COUNT` [6:0] NA, RO. -/
abbrev EDGE_COUNT_NA : Fld := ⟨0x6004c, 0, 7⟩
/-- Table 9-10: `EDGE.COUNT` [14:8] NB, RO. -/
abbrev EDGE_COUNT_NB : Fld := ⟨0x6004c, 8, 7⟩
/-- Table 9-10: `EDGE.COUNT` [22:16] NC, RO. -/
abbrev EDGE_COUNT_NC : Fld := ⟨0x6004c, 16, 7⟩
/-- Table 9-11: `EDGE.DTTH` [15:0] DT, RO. -/
abbrev EDGE_DTTH_DT : Fld := ⟨0x60050, 0, 16⟩
/-- Table 9-11: `EDGE.TMINTH` [19:0] TMIN, RO. -/
abbrev EDGE_TMINTH_TMIN : Fld := ⟨0x60054, 0, 20⟩
/-- Table 9-12: `EDGE.XDROP` [31:0] COUNT, RO. -/
abbrev EDGE_XDROP_COUNT : Fld := ⟨0x60058, 0, 32⟩
/-- Table 9-12: `EDGE.XEXT` [31:0] COUNT, RO. -/
abbrev EDGE_XEXT_COUNT : Fld := ⟨0x6005c, 0, 32⟩
/-- Table 9-12: `EDGE.XCARRY` [31:0] COUNT, RO. -/
abbrev EDGE_XCARRY_COUNT : Fld := ⟨0x60060, 0, 32⟩
/-- Table 9-12: `EDGE.XDISC` [31:0] COUNT, RO. -/
abbrev EDGE_XDISC_COUNT : Fld := ⟨0x60064, 0, 32⟩
/-- Table 9-13: `EDGE.RECERR` [7:0] CELL, RO. -/
abbrev EDGE_RECERR_CELL : Fld := ⟨0x60068, 0, 8⟩
/-- Table 9-13: `EDGE.RECERR` [11:8] REASON, RO. -/
abbrev EDGE_RECERR_REASON : Fld := ⟨0x60068, 8, 4⟩
/-- Table 9-13: `EDGE.RECERR` [13:12] CLUSTER, RO. -/
abbrev EDGE_RECERR_CLUSTER : Fld := ⟨0x60068, 12, 2⟩
/-- Table 9-13: `EDGE.RECERR` [31:16] COUNT, RO. -/
abbrev EDGE_RECERR_COUNT : Fld := ⟨0x60068, 16, 16⟩
/-- Table 9-13: `EDGE.SATCNT` [31:0] COUNT, RO. -/
abbrev EDGE_SATCNT_COUNT : Fld := ⟨0x6006c, 0, 32⟩
/-- Table 9-14: `BLANK.TMR` [16:0] LEN, RWL. -/
abbrev BLANK_TMR_LEN (n : Nat) : Fld := ⟨0x61040 + 8 * n, 0, 17⟩
/-- Table 9-14: `BLANK.MASK` [15:0] CMP, RWL. -/
abbrev BLANK_MASK_CMP (n : Nat) : Fld := ⟨0x61044 + 8 * n, 0, 16⟩
/-- Table 9-15: `BLANK.STAT` [7:0] OPEN, RO. -/
abbrev BLANK_STAT_OPEN : Fld := ⟨0x61080, 0, 8⟩
/-- Table 9-15: `BLANK.STAT` [15:8] PEND, RO. -/
abbrev BLANK_STAT_PEND : Fld := ⟨0x61080, 8, 8⟩
/-- Table 9-15: `BLANK.STAT` [31:16] BLANKED, RO. -/
abbrev BLANK_STAT_BLANKED : Fld := ⟨0x61080, 16, 16⟩
/-- Table 9-15: `BLANK.OPENCNT` [31:0] COUNT, RO. -/
abbrev BLANK_OPENCNT_COUNT : Fld := ⟨0x61084, 0, 32⟩
/-- Table 9-15: `BLANK.LATE` [15:0] LATE, RO. -/
abbrev BLANK_LATE_LATE : Fld := ⟨0x61088, 0, 16⟩
/-- Table 9-15: `BLANK.LATE` [31:16] REPL, RO. -/
abbrev BLANK_LATE_REPL : Fld := ⟨0x61088, 16, 16⟩
/-- Table 9-15: `BLANK.DEFCNT` [31:0] COUNT, RO. -/
abbrev BLANK_DEFCNT_COUNT : Fld := ⟨0x6108c, 0, 32⟩
/-- Table 9-16: `SYNC.CTL` [0] OUTEN, RWL. -/
abbrev SYNC_CTL_OUTEN : Fld := ⟨0x62040, 0, 1⟩
/-- Table 9-16: `SYNC.CTL` [1] OUTCAR, RWL. -/
abbrev SYNC_CTL_OUTCAR : Fld := ⟨0x62040, 1, 1⟩
/-- Table 9-16: `SYNC.CTL` [2] FOLLOW, RWL. -/
abbrev SYNC_CTL_FOLLOW : Fld := ⟨0x62040, 2, 1⟩
/-- Table 9-16: `SYNC.CTL` [3] INPOL, RWL. -/
abbrev SYNC_CTL_INPOL : Fld := ⟨0x62040, 3, 1⟩
/-- Table 9-16: `SYNC.CTL` [15:8] CAROFS, RWL. -/
abbrev SYNC_CTL_CAROFS : Fld := ⟨0x62040, 8, 8⟩
/-- Table 9-17: `SYNC.STAT` [0] LOCKED, RO. -/
abbrev SYNC_STAT_LOCKED : Fld := ⟨0x62044, 0, 1⟩
/-- Table 9-17: `SYNC.STAT` [1] INSEEN, RO. -/
abbrev SYNC_STAT_INSEEN : Fld := ⟨0x62044, 1, 1⟩
/-- Table 9-17: `SYNC.STAT` [3:2] LAST, RO. -/
abbrev SYNC_STAT_LAST : Fld := ⟨0x62044, 2, 2⟩
/-- Table 9-17: `SYNC.STAT` [15:8] ERR, RO. -/
abbrev SYNC_STAT_ERR : Fld := ⟨0x62044, 8, 8⟩
/-- Table 9-17: `SYNC.SKEW` [31:0] SKEW, RO. -/
abbrev SYNC_SKEW_SKEW : Fld := ⟨0x62048, 0, 32⟩
/-- Table 9-17: `SYNC.INCNT` [15:0] ACC, RO. -/
abbrev SYNC_INCNT_ACC : Fld := ⟨0x6204c, 0, 16⟩
/-- Table 9-17: `SYNC.INCNT` [31:16] REJ, RO. -/
abbrev SYNC_INCNT_REJ : Fld := ⟨0x6204c, 16, 16⟩
/-- Table 9-17: `SYNC.OUTCNT` [31:0] COUNT, RO. -/
abbrev SYNC_OUTCNT_COUNT : Fld := ⟨0x62050, 0, 32⟩
/-- Table 10-9: `CURCTL.PSET` [15:0] P, RWS. -/
abbrev CURCTL_PSET_P : Fld := ⟨0x74040, 0, 16⟩
/-- Table 10-9: `CURCTL.QSET` [15:0] Q, RWS. -/
abbrev CURCTL_QSET_Q : Fld := ⟨0x74044, 0, 16⟩
/-- Table 10-10: `CURCTL.MODE` [1:0] QMODE, RWS. -/
abbrev CURCTL_MODE_QMODE : Fld := ⟨0x74048, 0, 2⟩
/-- Table 10-10: `CURCTL.MODE` [2] PMODE, RWS. -/
abbrev CURCTL_MODE_PMODE : Fld := ⟨0x74048, 2, 1⟩
/-- Table 10-10: `CURCTL.MODE` [3] VWEN, RWS. -/
abbrev CURCTL_MODE_VWEN : Fld := ⟨0x74048, 3, 1⟩
/-- Table 10-10: `CURCTL.MODE` [4] FWEN, RWS. -/
abbrev CURCTL_MODE_FWEN : Fld := ⟨0x74048, 4, 1⟩
/-- Table 10-10: `CURCTL.MODE` [5] QPRI, RWS. -/
abbrev CURCTL_MODE_QPRI : Fld := ⟨0x74048, 5, 1⟩
/-- Table 10-11: `CURCTL.PF` [9:0] PF, RWS. -/
abbrev CURCTL_PF_PF : Fld := ⟨0x7404c, 0, 10⟩
/-- Table 10-11: `CURCTL.PF` [10] INJ, RWS. -/
abbrev CURCTL_PF_INJ : Fld := ⟨0x7404c, 10, 1⟩
/-- Table 10-11: `CURCTL.RAMP` [9:0] PRAMP, RWS. -/
abbrev CURCTL_RAMP_PRAMP : Fld := ⟨0x74050, 0, 10⟩
/-- Table 10-11: `CURCTL.RAMP` [25:16] QRAMP, RWS. -/
abbrev CURCTL_RAMP_QRAMP : Fld := ⟨0x74050, 16, 10⟩
/-- Table 10-12: `CURCTL.VV` [15:0] V, RWS. -/
abbrev CURCTL_VV_V (n : Nat) : Fld := ⟨0x74054 + 4 * n, 0, 16⟩
/-- Table 10-12: `CURCTL.VV` [31:16] Q, RWS. -/
abbrev CURCTL_VV_Q (n : Nat) : Fld := ⟨0x74054 + 4 * n, 16, 16⟩
/-- Table 10-12: `CURCTL.VVTAU` [9:0] TAU, RWS. -/
abbrev CURCTL_VVTAU_TAU : Fld := ⟨0x74064, 0, 10⟩
/-- Table 10-13: `CURCTL.VW` [15:0] V1, RWS. -/
abbrev CURCTL_VW_V1 : Fld := ⟨0x74068, 0, 16⟩
/-- Table 10-13: `CURCTL.VW` [31:16] V2, RWS. -/
abbrev CURCTL_VW_V2 : Fld := ⟨0x74068, 16, 16⟩
/-- Table 10-13: `CURCTL.VWP` [9:0] P2, RWS. -/
abbrev CURCTL_VWP_P2 : Fld := ⟨0x7406c, 0, 10⟩
/-- Table 10-13: `CURCTL.VWP` [25:16] TAU, RWS. -/
abbrev CURCTL_VWP_TAU : Fld := ⟨0x7406c, 16, 10⟩
/-- Table 10-14: `CURCTL.FW` [9:0] DBOF, RWS. -/
abbrev CURCTL_FW_DBOF : Fld := ⟨0x74070, 0, 10⟩
/-- Table 10-14: `CURCTL.FW` [19:10] DBUF, RWS. -/
abbrev CURCTL_FW_DBUF : Fld := ⟨0x74070, 10, 10⟩
/-- Table 10-14: `CURCTL.FW` [25:20] KOF, RWS. -/
abbrev CURCTL_FW_KOF : Fld := ⟨0x74070, 20, 6⟩
/-- Table 10-14: `CURCTL.FW` [31:26] KUF, RWS. -/
abbrev CURCTL_FW_KUF : Fld := ⟨0x74070, 26, 6⟩
/-- Table 10-14: `CURCTL.FWT` [9:0] TRESP, RWS. -/
abbrev CURCTL_FWT_TRESP : Fld := ⟨0x74074, 0, 10⟩
/-- Table 10-14: `CURCTL.FWT` [26:16] PMIN, RWS. -/
abbrev CURCTL_FWT_PMIN : Fld := ⟨0x74074, 16, 11⟩
/-- Table 10-15: `CURCTL.GAINP` [15:0] KP, RWS. -/
abbrev CURCTL_GAINP_KP : Fld := ⟨0x74078, 0, 16⟩
/-- Table 10-15: `CURCTL.GAINR` [15:0] KI, RWS. -/
abbrev CURCTL_GAINR_KI (n : Nat) : Fld := ⟨0x7407c + 4 * n, 0, 16⟩
/-- Table 10-15: `CURCTL.GAINR` [16] ENP, RWS. -/
abbrev CURCTL_GAINR_ENP (n : Nat) : Fld := ⟨0x7407c + 4 * n, 16, 1⟩
/-- Table 10-15: `CURCTL.GAINR` [17] ENN, RWS. -/
abbrev CURCTL_GAINR_ENN (n : Nat) : Fld := ⟨0x7407c + 4 * n, 17, 1⟩
/-- Table 10-15: `CURCTL.GAINR` [31:24] LEAD, RWS. -/
abbrev CURCTL_GAINR_LEAD (n : Nat) : Fld := ⟨0x7407c + 4 * n, 24, 8⟩
/-- Table 10-16: `CURCTL.LTCTL` [0] FREEZE, RWS. -/
abbrev CURCTL_LTCTL_FREEZE : Fld := ⟨0x74090, 0, 1⟩
/-- Table 10-16: `CURCTL.LTCTL` [1] CLEAR, RWS. -/
abbrev CURCTL_LTCTL_CLEAR : Fld := ⟨0x74090, 1, 1⟩
/-- Table 10-16: `CURCTL.LTCTL` [15:8] GAMMA, RWS. -/
abbrev CURCTL_LTCTL_GAMMA : Fld := ⟨0x74090, 8, 8⟩
/-- Table 10-16: `CURCTL.LTCTL` [23:16] NLEAD, RWS. -/
abbrev CURCTL_LTCTL_NLEAD : Fld := ⟨0x74090, 16, 8⟩
/-- Table 10-16: `CURCTL.LTCTL` [30:24] LTPER, RWS. -/
abbrev CURCTL_LTCTL_LTPER : Fld := ⟨0x74090, 24, 7⟩
/-- Table 10-16: `CURCTL.LTLIM` [10:0] TMAX, RWS. -/
abbrev CURCTL_LTLIM_TMAX : Fld := ⟨0x74094, 0, 11⟩
/-- Table 10-16: `CURCTL.LTLIM` [31:16] IMIN, RWS. -/
abbrev CURCTL_LTLIM_IMIN : Fld := ⟨0x74094, 16, 16⟩
/-- Table 10-17: `CURCTL.STAT` [2:0] SRC, RO. -/
abbrev CURCTL_STAT_SRC : Fld := ⟨0x740a0, 0, 3⟩
/-- Table 10-17: `CURCTL.STAT` [3] ILIM, RO. -/
abbrev CURCTL_STAT_ILIM : Fld := ⟨0x740a0, 3, 1⟩
/-- Table 10-17: `CURCTL.STAT` [4] VWACT, RO. -/
abbrev CURCTL_STAT_VWACT : Fld := ⟨0x740a0, 4, 1⟩
/-- Table 10-17: `CURCTL.STAT` [5] FWACT, RO. -/
abbrev CURCTL_STAT_FWACT : Fld := ⟨0x740a0, 5, 1⟩
/-- Table 10-17: `CURCTL.STAT` [6] SATA, RO. -/
abbrev CURCTL_STAT_SATA : Fld := ⟨0x740a0, 6, 1⟩
/-- Table 10-17: `CURCTL.STAT` [7] SATB, RO. -/
abbrev CURCTL_STAT_SATB : Fld := ⟨0x740a0, 7, 1⟩
/-- Table 10-17: `CURCTL.STAT` [8] SATC, RO. -/
abbrev CURCTL_STAT_SATC : Fld := ⟨0x740a0, 8, 1⟩
/-- Table 10-17: `CURCTL.STAT` [9] LTFRZ, RO. -/
abbrev CURCTL_STAT_LTFRZ : Fld := ⟨0x740a0, 9, 1⟩
/-- Table 10-18: `CURCTL.IREF` [15:0] ID, RO. -/
abbrev CURCTL_IREF_ID : Fld := ⟨0x740a4, 0, 16⟩
/-- Table 10-18: `CURCTL.IREF` [31:16] IQ, RO. -/
abbrev CURCTL_IREF_IQ : Fld := ⟨0x740a4, 16, 16⟩
/-- Table 10-18: `CURCTL.PQREF` [15:0] P, RO. -/
abbrev CURCTL_PQREF_P : Fld := ⟨0x740a8, 0, 16⟩
/-- Table 10-18: `CURCTL.PQREF` [31:16] Q, RO. -/
abbrev CURCTL_PQREF_Q : Fld := ⟨0x740a8, 16, 16⟩
/-- Table 10-18: `CURCTL.ILIM` [15:0] ILIM, RO. -/
abbrev CURCTL_ILIM_ILIM : Fld := ⟨0x740ac, 0, 16⟩
/-- Table 10-18: `CURCTL.ILIM` [31:16] SAVAIL, RO. -/
abbrev CURCTL_ILIM_SAVAIL : Fld := ⟨0x740ac, 16, 16⟩
/-- Table 10-19: `CURCTL.SATCNT` [31:0] COUNT, RO. -/
abbrev CURCTL_SATCNT_COUNT : Fld := ⟨0x740b0, 0, 32⟩
/-- Table 10-19: `CURCTL.LTSTAT` [15:0] RMS, RO. -/
abbrev CURCTL_LTSTAT_RMS (n : Nat) : Fld := ⟨0x740b4 + 4 * n, 0, 16⟩
/-- Table 10-19: `CURCTL.LTSTAT` [31:16] PUBS, RO. -/
abbrev CURCTL_LTSTAT_PUBS (n : Nat) : Fld := ⟨0x740b4 + 4 * n, 16, 16⟩
/-- Table 10-19: `CURCTL.DELAY` [15:0] D0, RO. -/
abbrev CURCTL_DELAY_D0 : Fld := ⟨0x740c0, 0, 16⟩
/-- Table 10-19: `CURCTL.DELAY` [31:16] DM, RO. -/
abbrev CURCTL_DELAY_DM : Fld := ⟨0x740c0, 16, 16⟩
/-- Table 10-20: `BALANCE.ELOOP` [11:0] KPE, RWS. -/
abbrev BALANCE_ELOOP_KPE : Fld := ⟨0x75040, 0, 12⟩
/-- Table 10-20: `BALANCE.ELOOP` [31:16] KIE, RWS. -/
abbrev BALANCE_ELOOP_KIE : Fld := ⟨0x75040, 16, 16⟩
/-- Table 10-20: `BALANCE.ZSEQ` [11:0] KZ, RWS. -/
abbrev BALANCE_ZSEQ_KZ : Fld := ⟨0x75044, 0, 12⟩
/-- Table 10-20: `BALANCE.ZSEQ` [23:16] V0MAX, RWS. -/
abbrev BALANCE_ZSEQ_V0MAX : Fld := ⟨0x75044, 16, 8⟩
/-- Table 10-20: `BALANCE.ZSEQ` [31:24] IZMIN, RWS. -/
abbrev BALANCE_ZSEQ_IZMIN : Fld := ⟨0x75044, 24, 8⟩
/-- Table 10-20: `BALANCE.WEIGHT` [11:0] KB, RWS. -/
abbrev BALANCE_WEIGHT_KB : Fld := ⟨0x75048, 0, 12⟩
/-- Table 10-20: `BALANCE.WEIGHT` [23:16] MMAX, RWS. -/
abbrev BALANCE_WEIGHT_MMAX : Fld := ⟨0x75048, 16, 8⟩
/-- Table 10-20: `BALANCE.WEIGHT` [31:24] BALBAND, RWS. -/
abbrev BALANCE_WEIGHT_BALBAND : Fld := ⟨0x75048, 24, 8⟩
/-- Table 10-20: `BALANCE.PRIM` [15:0] KPRI, RWS. -/
abbrev BALANCE_PRIM_KPRI : Fld := ⟨0x7504c, 0, 16⟩
/-- Table 10-20: `BALANCE.LOWI` [15:0] IBMIN, RWS. -/
abbrev BALANCE_LOWI_IBMIN : Fld := ⟨0x75050, 0, 16⟩
/-- Table 10-20: `BALANCE.LOWI` [31:16] VPFLOOR, RWS. -/
abbrev BALANCE_LOWI_VPFLOOR : Fld := ⟨0x75050, 16, 16⟩
/-- Table 10-21: `BALANCE.ETOT` [31:0] E, RO. -/
abbrev BALANCE_ETOT_E : Fld := ⟨0x75060, 0, 32⟩
/-- Table 10-21: `BALANCE.ETGT` [31:0] E, RO. -/
abbrev BALANCE_ETGT_E : Fld := ⟨0x75064, 0, 32⟩
/-- Table 10-21: `BALANCE.EPH` [31:0] E, RO. -/
abbrev BALANCE_EPH_E (n : Nat) : Fld := ⟨0x75068 + 4 * n, 0, 32⟩
/-- Table 10-22: `BALANCE.V0` [15:0] AMP, RO. -/
abbrev BALANCE_V0_AMP : Fld := ⟨0x75074, 0, 16⟩
/-- Table 10-22: `BALANCE.V0` [31:16] PSI, RO. -/
abbrev BALANCE_V0_PSI : Fld := ⟨0x75074, 16, 16⟩
/-- Table 10-22: `BALANCE.STAT` [0] ZSACT, RO. -/
abbrev BALANCE_STAT_ZSACT : Fld := ⟨0x75078, 0, 1⟩
/-- Table 10-22: `BALANCE.STAT` [1] ZSLIM, RO. -/
abbrev BALANCE_STAT_ZSLIM : Fld := ⟨0x75078, 1, 1⟩
/-- Table 10-22: `BALANCE.STAT` [2] LOWI, RO. -/
abbrev BALANCE_STAT_LOWI : Fld := ⟨0x75078, 2, 1⟩
/-- Table 10-22: `BALANCE.STAT` [5:3] INF, RO. -/
abbrev BALANCE_STAT_INF : Fld := ⟨0x75078, 3, 3⟩
/-- Table 10-22: `BALANCE.STAT` [6] EFRZ, RO. -/
abbrev BALANCE_STAT_EFRZ : Fld := ⟨0x75078, 6, 1⟩
/-- Table 10-22: `BALANCE.INFCNT` [31:0] COUNT, RO. -/
abbrev BALANCE_INFCNT_COUNT : Fld := ⟨0x7507c, 0, 32⟩
/-- Table 10-22: `BALANCE.CURT` [15:0] KW, RO. -/
abbrev BALANCE_CURT_KW : Fld := ⟨0x75080, 0, 16⟩
/-- Table 10-22: `BALANCE.CURT` [23:16] CELLS, RO. -/
abbrev BALANCE_CURT_CELLS : Fld := ⟨0x75080, 16, 8⟩
/-- Table 10-23: `BALANCE.WIN` [15:0] W, RO. -/
abbrev BALANCE_WIN_W (n : Nat) : Fld := ⟨0x75400 + 4 * n, 0, 16⟩
/-- Table 10-23: `BALANCE.WIN` [31:16] PMAX, RO. -/
abbrev BALANCE_WIN_PMAX (n : Nat) : Fld := ⟨0x75400 + 4 * n, 16, 16⟩
/-- Table 11-9: `MPPT.CTL` [0] EN, RWS. -/
abbrev MPPT_CTL_EN : Fld := ⟨0x76040, 0, 1⟩
/-- Table 11-9: `MPPT.CTL` [1] SCANEN, RWS. -/
abbrev MPPT_CTL_SCANEN : Fld := ⟨0x76040, 1, 1⟩
/-- Table 11-9: `MPPT.CTL` [2] HIDE, RWS. -/
abbrev MPPT_CTL_HIDE : Fld := ⟨0x76040, 2, 1⟩
/-- Table 11-9: `MPPT.CTL` [15:8] TUPD, RWS. -/
abbrev MPPT_CTL_TUPD : Fld := ⟨0x76040, 8, 8⟩
/-- Table 11-9: `MPPT.CTL` [23:16] KVOC, RWS. -/
abbrev MPPT_CTL_KVOC : Fld := ⟨0x76040, 16, 8⟩
/-- Table 11-10: `MPPT.STEP` [7:0] STEPMIN, RWS. -/
abbrev MPPT_STEP_STEPMIN : Fld := ⟨0x76044, 0, 8⟩
/-- Table 11-10: `MPPT.STEP` [15:8] STEPMAX, RWS. -/
abbrev MPPT_STEP_STEPMAX : Fld := ⟨0x76044, 8, 8⟩
/-- Table 11-10: `MPPT.STEP` [23:16] KSTEP, RWS. -/
abbrev MPPT_STEP_KSTEP : Fld := ⟨0x76044, 16, 8⟩
/-- Table 11-10: `MPPT.STEP` [31:24] EPS, RWS. -/
abbrev MPPT_STEP_EPS : Fld := ⟨0x76044, 24, 8⟩
/-- Table 11-10: `MPPT.VLIM` [15:0] VSTRMIN, RWS. -/
abbrev MPPT_VLIM_VSTRMIN : Fld := ⟨0x76048, 0, 16⟩
/-- Table 11-10: `MPPT.VLIM` [31:16] VSTRMAX, RWS. -/
abbrev MPPT_VLIM_VSTRMAX : Fld := ⟨0x76048, 16, 16⟩
/-- Table 11-10: `MPPT.CURT` [7:0] KCUR, RWS. -/
abbrev MPPT_CURT_KCUR : Fld := ⟨0x7604c, 0, 8⟩
/-- Table 11-10: `MPPT.CURT` [15:8] CBAND, RWS. -/
abbrev MPPT_CURT_CBAND : Fld := ⟨0x7604c, 8, 8⟩
/-- Table 11-10: `MPPT.CURT` [23:16] RELT, RWS. -/
abbrev MPPT_CURT_RELT : Fld := ⟨0x7604c, 16, 8⟩
/-- Table 11-10: `MPPT.SCAN` [10:0] PER, RWS. -/
abbrev MPPT_SCAN_PER : Fld := ⟨0x76050, 0, 11⟩
/-- Table 11-10: `MPPT.SCAN` [15:11] DWELL, RWS. -/
abbrev MPPT_SCAN_DWELL : Fld := ⟨0x76050, 11, 5⟩
/-- Table 11-10: `MPPT.SCAN` [22:16] GAIN, RWS. -/
abbrev MPPT_SCAN_GAIN : Fld := ⟨0x76050, 16, 7⟩
/-- Table 11-10a: `MPPT.SCANCTL` [0] GO, RW. -/
abbrev MPPT_SCANCTL_GO : Fld := ⟨0x76054, 0, 1⟩
/-- Table 11-10a: `MPPT.SCANCTL` [1] ABORT, RW. -/
abbrev MPPT_SCANCTL_ABORT : Fld := ⟨0x76054, 1, 1⟩
/-- Table 11-10b: `MPPT.STAT` [7:0] TRACK, RO. -/
abbrev MPPT_STAT_TRACK : Fld := ⟨0x76058, 0, 8⟩
/-- Table 11-10b: `MPPT.STAT` [15:8] CURT, RO. -/
abbrev MPPT_STAT_CURT : Fld := ⟨0x76058, 8, 8⟩
/-- Table 11-10b: `MPPT.STAT` [31:16] SKIPAGE, RO. -/
abbrev MPPT_STAT_SKIPAGE : Fld := ⟨0x76058, 16, 16⟩
/-- Table 11-10b: `MPPT.SCANSTAT` [0] RUN, RO. -/
abbrev MPPT_SCANSTAT_RUN : Fld := ⟨0x7605c, 0, 1⟩
/-- Table 11-10b: `MPPT.SCANSTAT` [5:1] BANK, RO. -/
abbrev MPPT_SCANSTAT_BANK : Fld := ⟨0x7605c, 1, 5⟩
/-- Table 11-10b: `MPPT.SCANSTAT` [31:16] LATE, RO. -/
abbrev MPPT_SCANSTAT_LATE : Fld := ⟨0x7605c, 16, 16⟩
/-- Table 11-10b: `MPPT.SCANCNT` [31:0] COUNT, RO. -/
abbrev MPPT_SCANCNT_COUNT : Fld := ⟨0x76060, 0, 32⟩
/-- Table 11-10b: `MPPT.SCANMOVE` [31:0] COUNT, RO. -/
abbrev MPPT_SCANMOVE_COUNT : Fld := ⟨0x76064, 0, 32⟩
/-- Table 11-10b: `MPPT.SCANSKIP` [15:0] CELLS, RO. -/
abbrev MPPT_SCANSKIP_CELLS : Fld := ⟨0x76068, 0, 16⟩
/-- Table 11-10b: `MPPT.SCANSKIP` [31:16] BANKS, RO. -/
abbrev MPPT_SCANSKIP_BANKS : Fld := ⟨0x76068, 16, 16⟩
/-- Table 11-10b: `MPPT.SCANABORT` [31:0] COUNT, RO. -/
abbrev MPPT_SCANABORT_COUNT : Fld := ⟨0x7606c, 0, 32⟩
/-- Table 11-10b: `MPPT.PVAVAIL` [15:0] AV, RO. -/
abbrev MPPT_PVAVAIL_AV : Fld := ⟨0x76070, 0, 16⟩
/-- Table 11-10b: `MPPT.PVAVAIL` [31:16] BPV, RO. -/
abbrev MPPT_PVAVAIL_BPV : Fld := ⟨0x76070, 16, 16⟩
/-- Table 11-12: `STORAGE.CTL` [0] ABSORB, RWS. -/
abbrev STORAGE_CTL_ABSORB : Fld := ⟨0x77040, 0, 1⟩
/-- Table 11-12: `STORAGE.CTL` [15:8] KSOC, RWS. -/
abbrev STORAGE_CTL_KSOC : Fld := ⟨0x77040, 8, 8⟩
/-- Table 11-12: `STORAGE.PCMD` [15:0] P, RWS. -/
abbrev STORAGE_PCMD_P : Fld := ⟨0x77044, 0, 16⟩
/-- Table 11-12: `STORAGE.SOCLIM` [7:0] SOCMIN, RWS. -/
abbrev STORAGE_SOCLIM_SOCMIN : Fld := ⟨0x77048, 0, 8⟩
/-- Table 11-12: `STORAGE.SOCLIM` [15:8] SOCMAX, RWS. -/
abbrev STORAGE_SOCLIM_SOCMAX : Fld := ⟨0x77048, 8, 8⟩
/-- Table 11-12: `STORAGE.TWIN` [7:0] TCHGMIN, RWS. -/
abbrev STORAGE_TWIN_TCHGMIN : Fld := ⟨0x7704c, 0, 8⟩
/-- Table 11-12: `STORAGE.TWIN` [15:8] TCHGMAX, RWS. -/
abbrev STORAGE_TWIN_TCHGMAX : Fld := ⟨0x7704c, 8, 8⟩
/-- Table 11-12: `STORAGE.TWIN` [23:16] TDISMIN, RWS. -/
abbrev STORAGE_TWIN_TDISMIN : Fld := ⟨0x7704c, 16, 8⟩
/-- Table 11-12: `STORAGE.TWIN` [31:24] TDISMAX, RWS. -/
abbrev STORAGE_TWIN_TDISMAX : Fld := ⟨0x7704c, 24, 8⟩
/-- Table 11-13: `STORAGE.STAT` [7:0] ELIG, RO. -/
abbrev STORAGE_STAT_ELIG : Fld := ⟨0x77050, 0, 8⟩
/-- Table 11-13: `STORAGE.STAT` [15:8] NOCHG, RO. -/
abbrev STORAGE_STAT_NOCHG : Fld := ⟨0x77050, 8, 8⟩
/-- Table 11-13: `STORAGE.STAT` [31:16] SHORT, RO. -/
abbrev STORAGE_STAT_SHORT : Fld := ⟨0x77050, 16, 16⟩
/-- Table 11-13: `STORAGE.CAP` [15:0] CHG, RO. -/
abbrev STORAGE_CAP_CHG : Fld := ⟨0x77054, 0, 16⟩
/-- Table 11-13: `STORAGE.CAP` [31:16] DIS, RO. -/
abbrev STORAGE_CAP_DIS : Fld := ⟨0x77054, 16, 16⟩
/-- Table 11-13: `STORAGE.PNOW` [15:0] CMD, RO. -/
abbrev STORAGE_PNOW_CMD : Fld := ⟨0x77058, 0, 16⟩
/-- Table 11-13: `STORAGE.PNOW` [31:16] MEAS, RO. -/
abbrev STORAGE_PNOW_MEAS : Fld := ⟨0x77058, 16, 16⟩
/-- Table 11-14: `STORAGE.INLCNT` [31:0] COUNT, RO. -/
abbrev STORAGE_INLCNT_COUNT : Fld := ⟨0x7705c, 0, 32⟩
/-- Table 11-14: `STORAGE.REFCNT` [31:0] COUNT, RO. -/
abbrev STORAGE_REFCNT_COUNT : Fld := ⟨0x77060, 0, 32⟩
/-- Table 11-15: `STORAGE.CMD` [15:0] P, RWS. -/
abbrev STORAGE_CMD_P (n : Nat) : Fld := ⟨0x77400 + 8 * n, 0, 16⟩
/-- Table 11-15: `STORAGE.CMD` [16] EN, RWS. -/
abbrev STORAGE_CMD_EN (n : Nat) : Fld := ⟨0x77400 + 8 * n, 16, 1⟩
/-- Table 11-15: `STORAGE.EFF` [15:0] P, RO. -/
abbrev STORAGE_EFF_P (n : Nat) : Fld := ⟨0x77404 + 8 * n, 0, 16⟩
/-- Table 11-15: `STORAGE.EFF` [16] CHG, RO. -/
abbrev STORAGE_EFF_CHG (n : Nat) : Fld := ⟨0x77404 + 8 * n, 16, 1⟩
/-- Table 11-15: `STORAGE.EFF` [17] DIS, RO. -/
abbrev STORAGE_EFF_DIS (n : Nat) : Fld := ⟨0x77404 + 8 * n, 17, 1⟩
/-- Table 11-15: `STORAGE.EFF` [18] ELIG, RO. -/
abbrev STORAGE_EFF_ELIG (n : Nat) : Fld := ⟨0x77404 + 8 * n, 18, 1⟩
/-- Table 12-10a: `GRIDFN.CTL` [0] CONNEN, RWS. -/
abbrev GRIDFN_CTL_CONNEN : Fld := ⟨0x78040, 0, 1⟩
/-- Table 12-10a: `GRIDFN.CTL` [1] VSEL, RWS. -/
abbrev GRIDFN_CTL_VSEL : Fld := ⟨0x78040, 1, 1⟩
/-- Table 12-10a: `GRIDFN.CTL` [2] MCEN, RWS. -/
abbrev GRIDFN_CTL_MCEN : Fld := ⟨0x78040, 2, 1⟩
/-- Table 12-10a: `GRIDFN.CTL` [3] RTQPRI, RWS. -/
abbrev GRIDFN_CTL_RTQPRI : Fld := ⟨0x78040, 3, 1⟩
/-- Table 12-10a: `GRIDFN.CTL` [15:8] KPOS, RWS. -/
abbrev GRIDFN_CTL_KPOS : Fld := ⟨0x78040, 8, 8⟩
/-- Table 12-10a: `GRIDFN.CTL` [23:16] KNEG, RWS. -/
abbrev GRIDFN_CTL_KNEG : Fld := ⟨0x78040, 16, 8⟩
/-- Table 12-10a: `GRIDFN.CTL` [31:24] PREC, RWS. -/
abbrev GRIDFN_CTL_PREC : Fld := ⟨0x78040, 24, 8⟩
/-- Table 12-10b: `GRIDFN.RTBAND` [10:0] VCLO, RWS. -/
abbrev GRIDFN_RTBAND_VCLO : Fld := ⟨0x78044, 0, 11⟩
/-- Table 12-10b: `GRIDFN.RTBAND` [21:11] VCHI, RWS. -/
abbrev GRIDFN_RTBAND_VCHI : Fld := ⟨0x78044, 11, 11⟩
/-- Table 12-10b: `GRIDFN.RTBAND` [31:22] VMC, RWS. -/
abbrev GRIDFN_RTBAND_VMC : Fld := ⟨0x78044, 22, 10⟩
/-- Table 12-10b: `GRIDFN.FBAND` [15:0] FCLO, RWS. -/
abbrev GRIDFN_FBAND_FCLO : Fld := ⟨0x78048, 0, 16⟩
/-- Table 12-10b: `GRIDFN.FBAND` [31:16] FCHI, RWS. -/
abbrev GRIDFN_FBAND_FCHI : Fld := ⟨0x78048, 16, 16⟩
/-- Table 12-10b: `GRIDFN.RTTIME` [7:0] TEND, RWS. -/
abbrev GRIDFN_RTTIME_TEND : Fld := ⟨0x7804c, 0, 8⟩
/-- Table 12-10b: `GRIDFN.RTTIME` [15:8] TREC, RWS. -/
abbrev GRIDFN_RTTIME_TREC : Fld := ⟨0x7804c, 8, 8⟩
/-- Table 12-10b: `GRIDFN.RTTIME` [23:16] TMAX, RWS. -/
abbrev GRIDFN_RTTIME_TMAX : Fld := ⟨0x7804c, 16, 8⟩
/-- Table 12-10c: `GRIDFN.CURVSN` [4:0] UVN, RWS. -/
abbrev GRIDFN_CURVSN_UVN : Fld := ⟨0x78050, 0, 5⟩
/-- Table 12-10c: `GRIDFN.CURVSN` [12:8] OVN, RWS. -/
abbrev GRIDFN_CURVSN_OVN : Fld := ⟨0x78050, 8, 5⟩
/-- Table 12-10c: `GRIDFN.CURVSN` [20:16] UFN, RWS. -/
abbrev GRIDFN_CURVSN_UFN : Fld := ⟨0x78050, 16, 5⟩
/-- Table 12-10c: `GRIDFN.CURVSN` [28:24] OFN, RWS. -/
abbrev GRIDFN_CURVSN_OFN : Fld := ⟨0x78050, 24, 5⟩
/-- Table 12-10c: `GRIDFN.CURVN` [4:0] UVN, RO. -/
abbrev GRIDFN_CURVN_UVN : Fld := ⟨0x78054, 0, 5⟩
/-- Table 12-10c: `GRIDFN.CURVN` [12:8] OVN, RO. -/
abbrev GRIDFN_CURVN_OVN : Fld := ⟨0x78054, 8, 5⟩
/-- Table 12-10c: `GRIDFN.CURVN` [20:16] UFN, RO. -/
abbrev GRIDFN_CURVN_UFN : Fld := ⟨0x78054, 16, 5⟩
/-- Table 12-10c: `GRIDFN.CURVN` [28:24] OFN, RO. -/
abbrev GRIDFN_CURVN_OFN : Fld := ⟨0x78054, 24, 5⟩
/-- Table 12-10c: `GRIDFN.CURVCTL` [0] COMMIT, RWS. -/
abbrev GRIDFN_CURVCTL_COMMIT : Fld := ⟨0x78058, 0, 1⟩
/-- Table 12-10d: `GRIDFN.CONNV` [15:0] VRLO, RWS. -/
abbrev GRIDFN_CONNV_VRLO : Fld := ⟨0x7805c, 0, 16⟩
/-- Table 12-10d: `GRIDFN.CONNV` [31:16] VRHI, RWS. -/
abbrev GRIDFN_CONNV_VRHI : Fld := ⟨0x7805c, 16, 16⟩
/-- Table 12-10d: `GRIDFN.CONNF` [15:0] FRLO, RWS. -/
abbrev GRIDFN_CONNF_FRLO : Fld := ⟨0x78060, 0, 16⟩
/-- Table 12-10d: `GRIDFN.CONNF` [31:16] FRHI, RWS. -/
abbrev GRIDFN_CONNF_FRHI : Fld := ⟨0x78060, 16, 16⟩
/-- Table 12-10d: `GRIDFN.CONNT` [9:0] TWAIT, RWS. -/
abbrev GRIDFN_CONNT_TWAIT : Fld := ⟨0x78064, 0, 10⟩
/-- Table 12-10d: `GRIDFN.CONNT` [19:10] TRAMP, RWS. -/
abbrev GRIDFN_CONNT_TRAMP : Fld := ⟨0x78064, 10, 10⟩
/-- Table 12-10d: `GRIDFN.CONNT` [27:20] TBRK, RWS. -/
abbrev GRIDFN_CONNT_TBRK : Fld := ⟨0x78064, 20, 8⟩
/-- Table 12-10e: `GRIDFN.STAT` [2:0] CSTATE, RO. -/
abbrev GRIDFN_STAT_CSTATE : Fld := ⟨0x78080, 0, 3⟩
/-- Table 12-10e: `GRIDFN.STAT` [3] RT, RO. -/
abbrev GRIDFN_STAT_RT : Fld := ⟨0x78080, 3, 1⟩
/-- Table 12-10e: `GRIDFN.STAT` [4] KV, RO. -/
abbrev GRIDFN_STAT_KV : Fld := ⟨0x78080, 4, 1⟩
/-- Table 12-10e: `GRIDFN.STAT` [5] KJ, RO. -/
abbrev GRIDFN_STAT_KJ : Fld := ⟨0x78080, 5, 1⟩
/-- Table 12-10e: `GRIDFN.STAT` [6] MC, RO. -/
abbrev GRIDFN_STAT_MC : Fld := ⟨0x78080, 6, 1⟩
/-- Table 12-10e: `GRIDFN.STAT` [7] FEXC, RO. -/
abbrev GRIDFN_STAT_FEXC : Fld := ⟨0x78080, 7, 1⟩
/-- Table 12-10e: `GRIDFN.STAT` [31:16] WAITREM, RO. -/
abbrev GRIDFN_STAT_WAITREM : Fld := ⟨0x78080, 16, 16⟩
/-- Table 12-10e: `GRIDFN.PERMIT` [6:0] BITS, RO. -/
abbrev GRIDFN_PERMIT_BITS : Fld := ⟨0x78084, 0, 7⟩
/-- Table 12-10e: `GRIDFN.PERMIT` [7] BAND, RO. -/
abbrev GRIDFN_PERMIT_BAND : Fld := ⟨0x78084, 7, 1⟩
/-- Table 12-10e: `GRIDFN.VMEAS` [15:0] VMIN, RO. -/
abbrev GRIDFN_VMEAS_VMIN : Fld := ⟨0x78088, 0, 16⟩
/-- Table 12-10e: `GRIDFN.VMEAS` [31:16] VMAX, RO. -/
abbrev GRIDFN_VMEAS_VMAX : Fld := ⟨0x78088, 16, 16⟩
/-- Table 12-10e: `GRIDFN.VSEQ` [15:0] VNEG, RO. -/
abbrev GRIDFN_VSEQ_VNEG : Fld := ⟨0x7808c, 0, 16⟩
/-- Table 12-10e: `GRIDFN.VSEQ` [31:16] ROCOF, RO. -/
abbrev GRIDFN_VSEQ_ROCOF : Fld := ⟨0x7808c, 16, 16⟩
/-- Table 12-10f: `GRIDFN.TRIP` [7:0] CAUSE, RO. -/
abbrev GRIDFN_TRIP_CAUSE : Fld := ⟨0x78090, 0, 8⟩
/-- Table 12-10f: `GRIDFN.TRIP` [11:8] POINT, RO. -/
abbrev GRIDFN_TRIP_POINT : Fld := ⟨0x78090, 8, 4⟩
/-- Table 12-10f: `GRIDFN.TRIP` [31:16] COUNT, RO. -/
abbrev GRIDFN_TRIP_COUNT : Fld := ⟨0x78090, 16, 16⟩
/-- Table 12-10f: `GRIDFN.TRIPW` [31:0] SWARP, RO. -/
abbrev GRIDFN_TRIPW_SWARP : Fld := ⟨0x78094, 0, 32⟩
/-- Table 12-10f: `GRIDFN.RTCNT` [15:0] EVENTS, RO. -/
abbrev GRIDFN_RTCNT_EVENTS : Fld := ⟨0x78098, 0, 16⟩
/-- Table 12-10f: `GRIDFN.RTCNT` [31:16] MC, RO. -/
abbrev GRIDFN_RTCNT_MC : Fld := ⟨0x78098, 16, 16⟩
/-- Table 12-10: `ISLAND.CTL` [0] AEN, RWS. -/
abbrev ISLAND_CTL_AEN : Fld := ⟨0x79040, 0, 1⟩
/-- Table 12-10: `ISLAND.CTL` [1] PLANT, RWS. -/
abbrev ISLAND_CTL_PLANT : Fld := ⟨0x79040, 1, 1⟩
/-- Table 12-10: `ISLAND.CTL` [3:2] PMODE, RWS. -/
abbrev ISLAND_CTL_PMODE : Fld := ⟨0x79040, 2, 2⟩
/-- Table 12-10: `ISLAND.CTL` [7:4] CHIP, RWS. -/
abbrev ISLAND_CTL_CHIP : Fld := ⟨0x79040, 4, 4⟩
/-- Table 12-10: `ISLAND.CTL` [11:8] W, RWS. -/
abbrev ISLAND_CTL_W : Fld := ⟨0x79040, 8, 4⟩
/-- Table 12-10: `ISLAND.CTL` [15:12] ACONF, RWS. -/
abbrev ISLAND_CTL_ACONF : Fld := ⟨0x79040, 12, 4⟩
/-- Table 12-10: `ISLAND.CTL` [23:16] AMP, RWS. -/
abbrev ISLAND_CTL_AMP : Fld := ⟨0x79040, 16, 8⟩
/-- Table 12-10: `ISLAND.CTL` [27:24] BOOST, RWS. -/
abbrev ISLAND_CTL_BOOST : Fld := ⟨0x79040, 24, 4⟩
/-- Table 12-10: `ISLAND.ZTH` [15:0] ZABS, RWS. -/
abbrev ISLAND_ZTH_ZABS : Fld := ⟨0x79044, 0, 16⟩
/-- Table 12-10: `ISLAND.ZTH` [23:16] ZREL, RWS. -/
abbrev ISLAND_ZTH_ZREL : Fld := ⟨0x79044, 16, 8⟩
/-- Table 12-10: `ISLAND.ZTH` [31:24] FZTH, RWS. -/
abbrev ISLAND_ZTH_FZTH : Fld := ⟨0x79044, 24, 8⟩
/-- Table 12-10: `ISLAND.PWIN` [9:0] VWLO, RWS. -/
abbrev ISLAND_PWIN_VWLO : Fld := ⟨0x79048, 0, 10⟩
/-- Table 12-10: `ISLAND.PWIN` [20:10] VWHI, RWS. -/
abbrev ISLAND_PWIN_VWHI : Fld := ⟨0x79048, 10, 11⟩
/-- Table 12-10: `ISLAND.PWIN` [31:21] FWIN, RWS. -/
abbrev ISLAND_PWIN_FWIN : Fld := ⟨0x79048, 21, 11⟩
/-- Table 12-10: `ISLAND.PTHR` [7:0] ROCTH, RWS. -/
abbrev ISLAND_PTHR_ROCTH : Fld := ⟨0x7904c, 0, 8⟩
/-- Table 12-10: `ISLAND.PTHR` [15:8] ROCWIN, RWS. -/
abbrev ISLAND_PTHR_ROCWIN : Fld := ⟨0x7904c, 8, 8⟩
/-- Table 12-10: `ISLAND.PTHR` [23:16] VSTH, RWS. -/
abbrev ISLAND_PTHR_VSTH : Fld := ⟨0x7904c, 16, 8⟩
/-- Table 12-10: `ISLAND.PTHR` [31:24] PCONF, RWS. -/
abbrev ISLAND_PTHR_PCONF : Fld := ⟨0x7904c, 24, 8⟩
/-- Table 12-10: `ISLAND.SEQ` [7:0] SEQS, RWS. -/
abbrev ISLAND_SEQ_SEQS : Fld := ⟨0x79050, 0, 8⟩
/-- Table 12-10: `ISLAND.SEQ` [23:8] ZINIT, RWS. -/
abbrev ISLAND_SEQ_ZINIT : Fld := ⟨0x79050, 8, 16⟩
/-- Table 12-10: `ISLAND.SEQ` [31:24] ZTAU, RWS. -/
abbrev ISLAND_SEQ_ZTAU : Fld := ⟨0x79050, 24, 8⟩
/-- Table 12-11: `ISLAND.STAT` [0] SUSP, RO. -/
abbrev ISLAND_STAT_SUSP : Fld := ⟨0x79060, 0, 1⟩
/-- Table 12-11: `ISLAND.STAT` [1] TMAXD, RO. -/
abbrev ISLAND_STAT_TMAXD : Fld := ⟨0x79060, 1, 1⟩
/-- Table 12-11: `ISLAND.STAT` [2] ARUN, RO. -/
abbrev ISLAND_STAT_ARUN : Fld := ⟨0x79060, 2, 1⟩
/-- Table 12-11: `ISLAND.STAT` [6:3] FLAGS, RO. -/
abbrev ISLAND_STAT_FLAGS : Fld := ⟨0x79060, 3, 4⟩
/-- Table 12-11: `ISLAND.STAT` [7] BOOSTED, RO. -/
abbrev ISLAND_STAT_BOOSTED : Fld := ⟨0x79060, 7, 1⟩
/-- Table 12-11: `ISLAND.STAT` [11:8] CHIPIDX, RO. -/
abbrev ISLAND_STAT_CHIPIDX : Fld := ⟨0x79060, 8, 4⟩
/-- Table 12-11: `ISLAND.STAT` [12] FRAMEOK, RO. -/
abbrev ISLAND_STAT_FRAMEOK : Fld := ⟨0x79060, 12, 1⟩
/-- Table 12-11: `ISLAND.ZEST` [15:0] ZV, RO. -/
abbrev ISLAND_ZEST_ZV : Fld := ⟨0x79064, 0, 16⟩
/-- Table 12-11: `ISLAND.ZEST` [31:16] ZF, RO. -/
abbrev ISLAND_ZEST_ZF : Fld := ⟨0x79064, 16, 16⟩
/-- Table 12-11: `ISLAND.ZBASE` [15:0] ZB, RO. -/
abbrev ISLAND_ZBASE_ZB : Fld := ⟨0x79068, 0, 16⟩
/-- Table 12-11: `ISLAND.DEC` [1:0] REASON, RO. -/
abbrev ISLAND_DEC_REASON : Fld := ⟨0x7906c, 0, 2⟩
/-- Table 12-11: `ISLAND.DEC` [31:16] COUNT, RO. -/
abbrev ISLAND_DEC_COUNT : Fld := ⟨0x7906c, 16, 16⟩
/-- Table 12-11: `ISLAND.DECW` [31:0] SWARP, RO. -/
abbrev ISLAND_DECW_SWARP : Fld := ⟨0x79070, 0, 32⟩
/-- Table 12-11: `ISLAND.EVAL` [15:0] DONE, RO. -/
abbrev ISLAND_EVAL_DONE : Fld := ⟨0x79074, 0, 16⟩
/-- Table 12-11: `ISLAND.EVAL` [31:16] SKIP, RO. -/
abbrev ISLAND_EVAL_SKIP : Fld := ⟨0x79074, 16, 16⟩
/-- Table 13-9: `ADC.STAT` [0] PAIRED, RO. -/
abbrev ADC_STAT_PAIRED (i : Nat) : Fld := ⟨0x68040 + 0x1000 * i, 0, 1⟩
/-- Table 13-9: `ADC.STAT` [1] SLAVE, RO. -/
abbrev ADC_STAT_SLAVE (i : Nat) : Fld := ⟨0x68040 + 0x1000 * i, 1, 1⟩
/-- Table 13-9: `ADC.STAT` [2] URG, RO. -/
abbrev ADC_STAT_URG (i : Nat) : Fld := ⟨0x68040 + 0x1000 * i, 2, 1⟩
/-- Table 13-9: `ADC.STAT` [3] CALOK, RO. -/
abbrev ADC_STAT_CALOK (i : Nat) : Fld := ⟨0x68040 + 0x1000 * i, 3, 1⟩
/-- Table 13-9: `ADC.CAL` [15:0] OFFS, RO. -/
abbrev ADC_CAL_OFFS (i : Nat) : Fld := ⟨0x68044 + 0x1000 * i, 0, 16⟩
/-- Table 13-9: `ADC.CAL` [31:16] GAIN, RO. -/
abbrev ADC_CAL_GAIN (i : Nat) : Fld := ⟨0x68044 + 0x1000 * i, 16, 16⟩
/-- Table 13-9: `ADC.WIN` [15:0] LO, RWL. -/
abbrev ADC_WIN_LO (i n : Nat) : Fld := ⟨0x68048 + 0x1000 * i + 4 * n, 0, 16⟩
/-- Table 13-9: `ADC.WIN` [31:16] HI, RWL. -/
abbrev ADC_WIN_HI (i n : Nat) : Fld := ⟨0x68048 + 0x1000 * i + 4 * n, 16, 16⟩
/-- Table 13-9: `ADC.WINST` [3:0] OUT, RO. -/
abbrev ADC_WINST_OUT (i : Nat) : Fld := ⟨0x68058 + 0x1000 * i, 0, 4⟩
/-- Table 13-9: `ADC.WINST` [31:16] LASTV, RO. -/
abbrev ADC_WINST_LASTV (i : Nat) : Fld := ⟨0x68058 + 0x1000 * i, 16, 16⟩
/-- Table 13-9: `ADC.URGCNT` [15:0] DONE, RO. -/
abbrev ADC_URGCNT_DONE (i : Nat) : Fld := ⟨0x6805c + 0x1000 * i, 0, 16⟩
/-- Table 13-9: `ADC.URGCNT` [31:16] DROP, RO. -/
abbrev ADC_URGCNT_DROP (i : Nat) : Fld := ⟨0x6805c + 0x1000 * i, 16, 16⟩
/-- Table 13-9: `ADC.DLYCNT` [15:0] RUNS, RO. -/
abbrev ADC_DLYCNT_RUNS (i : Nat) : Fld := ⟨0x68060 + 0x1000 * i, 0, 16⟩
/-- Table 13-9: `ADC.DLYCNT` [20:16] MAXDLY, RO. -/
abbrev ADC_DLYCNT_MAXDLY (i : Nat) : Fld := ⟨0x68060 + 0x1000 * i, 16, 5⟩
/-- Table 13-10: `FCMP.CFG` [4:0] INPUT, RWL. -/
abbrev FCMP_CFG_INPUT (n : Nat) : Fld := ⟨0x70040 + 16 * n, 0, 5⟩
/-- Table 13-10: `FCMP.CFG` [6:5] MODE, RWL. -/
abbrev FCMP_CFG_MODE (n : Nat) : Fld := ⟨0x70040 + 16 * n, 5, 2⟩
/-- Table 13-10: `FCMP.CFG` [7] POL, RWL. -/
abbrev FCMP_CFG_POL (n : Nat) : Fld := ⟨0x70040 + 16 * n, 7, 1⟩
/-- Table 13-10: `FCMP.CFG` [8] FILT, RWL. -/
abbrev FCMP_CFG_FILT (n : Nat) : Fld := ⟨0x70040 + 16 * n, 8, 1⟩
/-- Table 13-10: `FCMP.CFG` [10:9] ACT, RWL. -/
abbrev FCMP_CFG_ACT (n : Nat) : Fld := ⟨0x70040 + 16 * n, 9, 2⟩
/-- Table 13-10: `FCMP.CFG` [13:11] HYS, RWL. -/
abbrev FCMP_CFG_HYS (n : Nat) : Fld := ⟨0x70040 + 16 * n, 11, 3⟩
/-- Table 13-10: `FCMP.CFG` [15:14] SC, RWL. -/
abbrev FCMP_CFG_SC (n : Nat) : Fld := ⟨0x70040 + 16 * n, 14, 2⟩
/-- Table 13-10: `FCMP.CFG` [18:16] SCCORE, RWL. -/
abbrev FCMP_CFG_SCCORE (n : Nat) : Fld := ⟨0x70040 + 16 * n, 16, 3⟩
/-- Table 13-10: `FCMP.CFG` [19] REL, RWL. -/
abbrev FCMP_CFG_REL (n : Nat) : Fld := ⟨0x70040 + 16 * n, 19, 1⟩
/-- Table 13-10: `FCMP.CFG` [29:20] REARM, RWL. -/
abbrev FCMP_CFG_REARM (n : Nat) : Fld := ⟨0x70040 + 16 * n, 20, 10⟩
/-- Table 13-10: `FCMP.THR` [9:0] THR, RWS. -/
abbrev FCMP_THR_THR (n : Nat) : Fld := ⟨0x70044 + 16 * n, 0, 10⟩
/-- Table 13-10: `FCMP.RAMP` [9:0] END, RWS. -/
abbrev FCMP_RAMP_END (n : Nat) : Fld := ⟨0x70048 + 16 * n, 0, 10⟩
/-- Table 13-10: `FCMP.RAMP` [27:16] SLOPE, RWS. -/
abbrev FCMP_RAMP_SLOPE (n : Nat) : Fld := ⟨0x70048 + 16 * n, 16, 12⟩
/-- Table 13-10: `FCMP.RAMP` [29:28] RESTART, RWS. -/
abbrev FCMP_RAMP_RESTART (n : Nat) : Fld := ⟨0x70048 + 16 * n, 28, 2⟩
/-- Table 13-10: `FCMP.STAT` [15:0] FOUT, RO. -/
abbrev FCMP_STAT_FOUT : Fld := ⟨0x70140, 0, 16⟩
/-- Table 13-10: `FCMP.STAT` [31:16] LATCH, RO. -/
abbrev FCMP_STAT_LATCH : Fld := ⟨0x70140, 16, 16⟩
/-- Table 13-10: `FCMP.TRIPCLR` [15:0] CLR, RW. -/
abbrev FCMP_TRIPCLR_CLR : Fld := ⟨0x70144, 0, 16⟩
/-- Table 13-10: `FCMP.SCSTAT` [15:0] PASS, RO. -/
abbrev FCMP_SCSTAT_PASS : Fld := ⟨0x70148, 0, 16⟩
/-- Table 13-10: `FCMP.SCSTAT` [31:16] FAIL, RO. -/
abbrev FCMP_SCSTAT_FAIL : Fld := ⟨0x70148, 16, 16⟩
/-- Table 13-10: `FCMP.SCCTL` [11:0] SCPER, RWL. -/
abbrev FCMP_SCCTL_SCPER : Fld := ⟨0x7014c, 0, 12⟩
/-- Table 13-10: `FCMP.SCCTL` [12] GO, RWL. -/
abbrev FCMP_SCCTL_GO : Fld := ⟨0x7014c, 12, 1⟩
/-- Table 13-10: `FCMP.SCCTL` [13] ONLYOPEN, RWL. -/
abbrev FCMP_SCCTL_ONLYOPEN : Fld := ⟨0x7014c, 13, 1⟩
/-- Table 13-10: `FCMP.TRIPW` [31:0] SWARP, RO. -/
abbrev FCMP_TRIPW_SWARP : Fld := ⟨0x70150, 0, 32⟩
/-- Table 13-10: `FCMP.TRIPVAL` [19:0] VALUE, RO. -/
abbrev FCMP_TRIPVAL_VALUE : Fld := ⟨0x70154, 0, 20⟩
/-- Table 13-10: `FCMP.TRIPVAL` [23:20] CMP, RO. -/
abbrev FCMP_TRIPVAL_CMP : Fld := ⟨0x70154, 20, 4⟩
/-- Table 13-10: `FCMP.TRIPVAL` [24] SNAP, RO. -/
abbrev FCMP_TRIPVAL_SNAP : Fld := ⟨0x70154, 24, 1⟩
/-- Table 13-10: `FCMP.SKIPCNT` [31:0] COUNT, RO. -/
abbrev FCMP_SKIPCNT_COUNT : Fld := ⟨0x70158, 0, 32⟩
/-- Table 13-10: `FCMP.TRIPCNT` [31:0] COUNT, RO. -/
abbrev FCMP_TRIPCNT_COUNT (n : Nat) : Fld := ⟨0x70180 + 4 * n, 0, 32⟩
/-- Table 13-11: `METER.STAT` [0] CHK, RO. -/
abbrev METER_STAT_CHK : Fld := ⟨0x71040, 0, 1⟩
/-- Table 13-11: `METER.STAT` [1] CHKRUN, RO. -/
abbrev METER_STAT_CHKRUN : Fld := ⟨0x71040, 1, 1⟩
/-- Table 13-11: `METER.STAT` [4:2] CAUSE, RO. -/
abbrev METER_STAT_CAUSE : Fld := ⟨0x71040, 2, 3⟩
/-- Table 13-11: `METER.STAT` [5] SUMI, RO. -/
abbrev METER_STAT_SUMI : Fld := ⟨0x71040, 5, 1⟩
/-- Table 13-11: `METER.CHKCFG` [0] NEUEN, RWL. -/
abbrev METER_CHKCFG_NEUEN : Fld := ⟨0x71044, 0, 1⟩
/-- Table 13-11: `METER.CHKCFG` [7:1] RESTH, RWL. -/
abbrev METER_CHKCFG_RESTH : Fld := ⟨0x71044, 1, 7⟩
/-- Table 13-11: `METER.CHKCFG` [15:8] RETRY, RWL. -/
abbrev METER_CHKCFG_RETRY : Fld := ⟨0x71044, 8, 8⟩
/-- Table 13-11: `METER.CHKCFG` [23:16] NEUTH, RWL. -/
abbrev METER_CHKCFG_NEUTH : Fld := ⟨0x71044, 16, 8⟩
/-- Table 13-11: `METER.CHKCFG` [31:24] NSHIFT, RWL. -/
abbrev METER_CHKCFG_NSHIFT : Fld := ⟨0x71044, 24, 8⟩
/-- Table 13-11: `METER.CHKCTL` [0] GO, RW. -/
abbrev METER_CHKCTL_GO : Fld := ⟨0x71048, 0, 1⟩
/-- Table 13-11: `METER.FREQ10` [31:0] F, RO. -/
abbrev METER_FREQ10_F : Fld := ⟨0x7104c, 0, 32⟩
/-- Table 13-11: `METER.INCFG` [0] AUTOR, RWL. -/
abbrev METER_INCFG_AUTOR (n : Nat) : Fld := ⟨0x71080 + 8 * n, 0, 1⟩
/-- Table 13-11: `METER.INCFG` [12:1] FDLY, RWL. -/
abbrev METER_INCFG_FDLY (n : Nat) : Fld := ⟨0x71080 + 8 * n, 1, 12⟩
/-- Table 13-11: `METER.INCFG` [18:16] RANGE, RO. -/
abbrev METER_INCFG_RANGE (n : Nat) : Fld := ⟨0x71080 + 8 * n, 16, 3⟩
/-- Table 13-11: `METER.SCALE` [31:0] S, RWL. -/
abbrev METER_SCALE_S (n : Nat) : Fld := ⟨0x71084 + 8 * n, 0, 32⟩
/-- Table 13-11: `METER.E` [31:0] E, RO. -/
abbrev METER_E_E (n : Nat) : Fld := ⟨0x71180 + 4 * n, 0, 32⟩
/-- Table 13-13: `PQEVT.CFG` [0] EN, RWL. -/
abbrev PQEVT_CFG_EN : Fld := ⟨0x72040, 0, 1⟩
/-- Table 13-13: `PQEVT.CFG` [1] LL, RWL. -/
abbrev PQEVT_CFG_LL : Fld := ⟨0x72040, 1, 1⟩
/-- Table 13-13: `PQEVT.CFG` [15:8] HYST, RWL. -/
abbrev PQEVT_CFG_HYST : Fld := ⟨0x72040, 8, 8⟩
/-- Table 13-13: `PQEVT.THR` [10:0] SAGTH, RWL. -/
abbrev PQEVT_THR_SAGTH : Fld := ⟨0x72044, 0, 11⟩
/-- Table 13-13: `PQEVT.THR` [21:11] SWLTH, RWL. -/
abbrev PQEVT_THR_SWLTH : Fld := ⟨0x72044, 11, 11⟩
/-- Table 13-13: `PQEVT.THR` [31:22] INTTH, RWL. -/
abbrev PQEVT_THR_INTTH : Fld := ⟨0x72044, 22, 10⟩
/-- Table 13-13: `PQEVT.STAT` [0] SAG, RO. -/
abbrev PQEVT_STAT_SAG : Fld := ⟨0x72048, 0, 1⟩
/-- Table 13-13: `PQEVT.STAT` [1] SWELL, RO. -/
abbrev PQEVT_STAT_SWELL : Fld := ⟨0x72048, 1, 1⟩
/-- Table 13-13: `PQEVT.STAT` [2] INT, RO. -/
abbrev PQEVT_STAT_INT : Fld := ⟨0x72048, 2, 1⟩
/-- Table 13-13: `PQEVT.URMS` [15:0] U, RO. -/
abbrev PQEVT_URMS_U (n : Nat) : Fld := ⟨0x7204c + 4 * n, 0, 16⟩
/-- Table 13-13: `PQEVT.CNT1` [15:0] SAG, RO. -/
abbrev PQEVT_CNT1_SAG : Fld := ⟨0x72058, 0, 16⟩
/-- Table 13-13: `PQEVT.CNT1` [31:16] SWELL, RO. -/
abbrev PQEVT_CNT1_SWELL : Fld := ⟨0x72058, 16, 16⟩
/-- Table 13-13: `PQEVT.CNT2` [15:0] INT, RO. -/
abbrev PQEVT_CNT2_INT : Fld := ⟨0x7205c, 0, 16⟩
/-- Table 13-13: `PQEVT.CNT2` [31:16] OVWR, RO. -/
abbrev PQEVT_CNT2_OVWR : Fld := ⟨0x7205c, 16, 16⟩
/-- Table 13-13: `PQEVT.LOGHEAD` [31:0] REC, RO. -/
abbrev PQEVT_LOGHEAD_REC : Fld := ⟨0x72060, 0, 32⟩
/-- Table 13-15: `S0.CFG` [0] EN, RWL. -/
abbrev S0_CFG_EN (n : Nat) : Fld := ⟨0x21040 + 16 * n, 0, 1⟩
/-- Table 13-15: `S0.CFG` [3:1] MAP, RWL. -/
abbrev S0_CFG_MAP (n : Nat) : Fld := ⟨0x21040 + 16 * n, 1, 3⟩
/-- Table 13-15: `S0.CFG` [4] XEN, RWL. -/
abbrev S0_CFG_XEN (n : Nat) : Fld := ⟨0x21040 + 16 * n, 4, 1⟩
/-- Table 13-15: `S0.CFG` [15:8] MINON, RWL. -/
abbrev S0_CFG_MINON (n : Nat) : Fld := ⟨0x21040 + 16 * n, 8, 8⟩
/-- Table 13-15: `S0.CFG` [23:16] MINOFF, RWL. -/
abbrev S0_CFG_MINOFF (n : Nat) : Fld := ⟨0x21040 + 16 * n, 16, 8⟩
/-- Table 13-15: `S0.CFG` [31:24] MAXON, RWL. -/
abbrev S0_CFG_MAXON (n : Nat) : Fld := ⟨0x21040 + 16 * n, 24, 8⟩
/-- Table 13-15: `S0.WGT` [15:0] WEIGHT, RWL. -/
abbrev S0_WGT_WEIGHT (n : Nat) : Fld := ⟨0x21044 + 16 * n, 0, 16⟩
/-- Table 13-15: `S0.WGT` [31:16] CMPN, RWL. -/
abbrev S0_WGT_CMPN (n : Nat) : Fld := ⟨0x21044 + 16 * n, 16, 16⟩
/-- Table 13-15: `S0.CNTLO` [31:0] COUNT, RO. -/
abbrev S0_CNTLO_COUNT (n : Nat) : Fld := ⟨0x21048 + 16 * n, 0, 32⟩
/-- Table 13-15: `S0.CNTHI` [31:0] COUNT, RO. -/
abbrev S0_CNTHI_COUNT (n : Nat) : Fld := ⟨0x2104c + 16 * n, 0, 32⟩
/-- Table 13-15: `S0.XDEV` [31:0] E, RO. -/
abbrev S0_XDEV_E (n : Nat) : Fld := ⟨0x21080 + 16 * n, 0, 32⟩
/-- Table 13-15: `S0.XS0` [31:0] E, RO. -/
abbrev S0_XS0_E (n : Nat) : Fld := ⟨0x21084 + 16 * n, 0, 32⟩
/-- Table 13-15: `S0.XSTAT` [1:0] LAST, RO. -/
abbrev S0_XSTAT_LAST (n : Nat) : Fld := ⟨0x21088 + 16 * n, 0, 2⟩
/-- Table 13-15: `S0.XSTAT` [31:16] MIS, RO. -/
abbrev S0_XSTAT_MIS (n : Nat) : Fld := ⟨0x21088 + 16 * n, 16, 16⟩
/-- Table 13-15: `S0.BAD` [15:0] BAD, RO. -/
abbrev S0_BAD_BAD (n : Nat) : Fld := ⟨0x2108c + 16 * n, 0, 16⟩
/-- Table 13-15: `S0.BAD` [31:16] SKIP, RO. -/
abbrev S0_BAD_SKIP (n : Nat) : Fld := ⟨0x2108c + 16 * n, 16, 16⟩
/-- Table 13-15: `S0.XCFG` [6:0] TOL, RWL. -/
abbrev S0_XCFG_TOL : Fld := ⟨0x210c0, 0, 7⟩
/-- Table 14-10: `FTHERM.STAT` [1:0] LEVEL, RO. -/
abbrev FTHERM_STAT_LEVEL : Fld := ⟨0x7c040, 0, 2⟩
/-- Table 14-10: `FTHERM.STAT` [3:2] BAND, RO. -/
abbrev FTHERM_STAT_BAND : Fld := ⟨0x7c040, 2, 2⟩
/-- Table 14-10: `FTHERM.STAT` [7:4] VALIDN, RO. -/
abbrev FTHERM_STAT_VALIDN : Fld := ⟨0x7c040, 4, 4⟩
/-- Table 14-10: `FTHERM.STAT` [8] UNKNOWN, RO. -/
abbrev FTHERM_STAT_UNKNOWN : Fld := ⟨0x7c040, 8, 1⟩
/-- Table 14-10: `FTHERM.STAT` [9] HARD, RO. -/
abbrev FTHERM_STAT_HARD : Fld := ⟨0x7c040, 9, 1⟩
/-- Table 14-10: `FTHERM.DIE` [15:0] TMAX, RO. -/
abbrev FTHERM_DIE_TMAX : Fld := ⟨0x7c044, 0, 16⟩
/-- Table 14-10: `FTHERM.DIE` [31:16] TMIN, RO. -/
abbrev FTHERM_DIE_TMIN : Fld := ⟨0x7c044, 16, 16⟩
/-- Table 14-10: `FTHERM.CELLMAX` [7:0] T, RO. -/
abbrev FTHERM_CELLMAX_T : Fld := ⟨0x7c048, 0, 8⟩
/-- Table 14-10: `FTHERM.CELLMAX` [15:8] CELL, RO. -/
abbrev FTHERM_CELLMAX_CELL : Fld := ⟨0x7c048, 8, 8⟩
/-- Table 14-10: `FTHERM.SENS` [15:0] T, RO. -/
abbrev FTHERM_SENS_T (n : Nat) : Fld := ⟨0x7c050 + 4 * n, 0, 16⟩
/-- Table 14-10: `FTHERM.SENS` [16] EXCL, RO. -/
abbrev FTHERM_SENS_EXCL (n : Nat) : Fld := ⟨0x7c050 + 4 * n, 16, 1⟩
/-- Table 14-10: `FTHERM.SENS` [31:24] EXCLCNT, RO. -/
abbrev FTHERM_SENS_EXCLCNT (n : Nat) : Fld := ⟨0x7c050 + 4 * n, 24, 8⟩
/-- Table 14-10: `FTHERM.THR` [7:0] WARN, RWL. -/
abbrev FTHERM_THR_WARN : Fld := ⟨0x7c078, 0, 8⟩
/-- Table 14-10: `FTHERM.THR` [15:8] THROT, RWL. -/
abbrev FTHERM_THR_THROT : Fld := ⟨0x7c078, 8, 8⟩
/-- Table 14-10: `FTHERM.THR` [23:16] SHUT, RWL. -/
abbrev FTHERM_THR_SHUT : Fld := ⟨0x7c078, 16, 8⟩
/-- Table 14-10: `FTHERM.THR` [27:24] HYS, RWL. -/
abbrev FTHERM_THR_HYS : Fld := ⟨0x7c078, 24, 4⟩
/-- Table 14-10: `FTHERM.SCRUB` [15:0] PASSES, RO. -/
abbrev FTHERM_SCRUB_PASSES : Fld := ⟨0x7c07c, 0, 16⟩
/-- Table 14-10: `FTHERM.SCRUB` [31:16] LATE, RO. -/
abbrev FTHERM_SCRUB_LATE : Fld := ⟨0x7c07c, 16, 16⟩
/-- Table 14-10: `FTHERM.EXCLW` [31:0] SWARP, RO. -/
abbrev FTHERM_EXCLW_SWARP : Fld := ⟨0x7c080, 0, 32⟩
/-- Table 14-10: `FTHERM.HREQ` [0] SHUT, RO. -/
abbrev FTHERM_HREQ_SHUT : Fld := ⟨0x7c084, 0, 1⟩
/-- Table 14-11: `HTHERM.STAT` [1:0] HLEVEL, RO. -/
abbrev HTHERM_STAT_HLEVEL : Fld := ⟨0x1d040, 0, 2⟩
/-- Table 14-11: `HTHERM.STAT` [3:2] DLEVEL, RO. -/
abbrev HTHERM_STAT_DLEVEL : Fld := ⟨0x1d040, 2, 2⟩
/-- Table 14-11: `HTHERM.STAT` [4] FUSEOK, RO. -/
abbrev HTHERM_STAT_FUSEOK : Fld := ⟨0x1d040, 4, 1⟩
/-- Table 14-11: `HTHERM.STAT` [5] THROT, RO. -/
abbrev HTHERM_STAT_THROT : Fld := ⟨0x1d040, 5, 1⟩
/-- Table 14-11: `HTHERM.STAT` [6] FSTALE, RO. -/
abbrev HTHERM_STAT_FSTALE : Fld := ⟨0x1d040, 6, 1⟩
/-- Table 14-11: `HTHERM.STAT` [7] HUNK, RO. -/
abbrev HTHERM_STAT_HUNK : Fld := ⟨0x1d040, 7, 1⟩
/-- Table 14-11: `HTHERM.STAT` [8] DUNK, RO. -/
abbrev HTHERM_STAT_DUNK : Fld := ⟨0x1d040, 8, 1⟩
/-- Table 14-11: `HTHERM.HDIE` [15:0] TMAX, RO. -/
abbrev HTHERM_HDIE_TMAX : Fld := ⟨0x1d044, 0, 16⟩
/-- Table 14-11: `HTHERM.HDIE` [31:16] TMIN, RO. -/
abbrev HTHERM_HDIE_TMIN : Fld := ⟨0x1d044, 16, 16⟩
/-- Table 14-11: `HTHERM.DDIE` [15:0] TMAX, RO. -/
abbrev HTHERM_DDIE_TMAX : Fld := ⟨0x1d048, 0, 16⟩
/-- Table 14-11: `HTHERM.DDIE` [31:16] TMIN, RO. -/
abbrev HTHERM_DDIE_TMIN : Fld := ⟨0x1d048, 16, 16⟩
/-- Table 14-11: `HTHERM.SENS` [15:0] T, RO. -/
abbrev HTHERM_SENS_T (n : Nat) : Fld := ⟨0x1d050 + 4 * n, 0, 16⟩
/-- Table 14-11: `HTHERM.SENS` [16] EXCL, RO. -/
abbrev HTHERM_SENS_EXCL (n : Nat) : Fld := ⟨0x1d050 + 4 * n, 16, 1⟩
/-- Table 14-11: `HTHERM.SENS` [31:24] EXCLCNT, RO. -/
abbrev HTHERM_SENS_EXCLCNT (n : Nat) : Fld := ⟨0x1d050 + 4 * n, 24, 8⟩
/-- Table 14-11: `HTHERM.THR` [7:0] WARN, RWL. -/
abbrev HTHERM_THR_WARN : Fld := ⟨0x1d068, 0, 8⟩
/-- Table 14-11: `HTHERM.THR` [15:8] THROT, RWL. -/
abbrev HTHERM_THR_THROT : Fld := ⟨0x1d068, 8, 8⟩
/-- Table 14-11: `HTHERM.THR` [23:16] SHUT, RWL. -/
abbrev HTHERM_THR_SHUT : Fld := ⟨0x1d068, 16, 8⟩
/-- Table 14-11: `HTHERM.THR` [27:24] HYS, RWL. -/
abbrev HTHERM_THR_HYS : Fld := ⟨0x1d068, 24, 4⟩
/-- Table 14-11: `HTHERM.CLKDIV` [1:0] THRDIV, RWL. -/
abbrev HTHERM_CLKDIV_THRDIV : Fld := ⟨0x1d06c, 0, 2⟩
/-- Table 14-11: `HTHERM.FCOPY` [15:0] FTMAX, RO. -/
abbrev HTHERM_FCOPY_FTMAX : Fld := ⟨0x1d070, 0, 16⟩
/-- Table 14-11: `HTHERM.FCOPY` [23:16] CELLT, RO. -/
abbrev HTHERM_FCOPY_CELLT : Fld := ⟨0x1d070, 16, 8⟩
/-- Table 14-11: `HTHERM.FCOPY` [31:24] AGE, RO. -/
abbrev HTHERM_FCOPY_AGE : Fld := ⟨0x1d070, 24, 8⟩
/-- Table 14-11: `HTHERM.NTCCFG` [0] EN, RWL. -/
abbrev HTHERM_NTCCFG_EN (n : Nat) : Fld := ⟨0x1d080 + 16 * n, 0, 1⟩
/-- Table 14-11: `HTHERM.NTCCFG` [2:1] ACT, RWL. -/
abbrev HTHERM_NTCCFG_ACT (n : Nat) : Fld := ⟨0x1d080 + 16 * n, 1, 2⟩
/-- Table 14-11: `HTHERM.NTCCFG` [15:8] TLIM, RWL. -/
abbrev HTHERM_NTCCFG_TLIM (n : Nat) : Fld := ⟨0x1d080 + 16 * n, 8, 8⟩
/-- Table 14-11: `HTHERM.NTCCFG` [31:16] RPU, RWL. -/
abbrev HTHERM_NTCCFG_RPU (n : Nat) : Fld := ⟨0x1d080 + 16 * n, 16, 16⟩
/-- Table 14-11: `HTHERM.NTCR25` [31:0] R25, RWL. -/
abbrev HTHERM_NTCR25_R25 (n : Nat) : Fld := ⟨0x1d084 + 16 * n, 0, 32⟩
/-- Table 14-11: `HTHERM.NTCB` [15:0] B, RWL. -/
abbrev HTHERM_NTCB_B (n : Nat) : Fld := ⟨0x1d088 + 16 * n, 0, 16⟩
/-- Table 14-11: `HTHERM.NTCT` [15:0] T, RO. -/
abbrev HTHERM_NTCT_T (n : Nat) : Fld := ⟨0x1d08c + 16 * n, 0, 16⟩
/-- Table 14-11: `HTHERM.NTCT` [17:16] STATE, RO. -/
abbrev HTHERM_NTCT_STATE (n : Nat) : Fld := ⟨0x1d08c + 16 * n, 16, 2⟩
/-- Table 14-11: `HTHERM.FSENS` [15:0] T, RO. -/
abbrev HTHERM_FSENS_T (n : Nat) : Fld := ⟨0x1d0c0 + 4 * n, 0, 16⟩
/-- Table 14-11: `HTHERM.FSENS` [16] EXCL, RO. -/
abbrev HTHERM_FSENS_EXCL (n : Nat) : Fld := ⟨0x1d0c0 + 4 * n, 16, 1⟩
/-- Table 14-12: `CLOCK.STAT` [0] LOCK, RO. -/
abbrev CLOCK_STAT_LOCK : Fld := ⟨0x7d040, 0, 1⟩
/-- Table 14-12: `CLOCK.STAT` [1] PLOCK, RO. -/
abbrev CLOCK_STAT_PLOCK : Fld := ⟨0x7d040, 1, 1⟩
/-- Table 14-12: `CLOCK.STAT` [2] FAILED, RO. -/
abbrev CLOCK_STAT_FAILED : Fld := ⟨0x7d040, 2, 1⟩
/-- Table 14-12: `CLOCK.STAT` [9:4] N, RO. -/
abbrev CLOCK_STAT_N : Fld := ⟨0x7d040, 4, 6⟩
/-- Table 14-12: `CLOCK.STAT` [11:10] TRIES, RO. -/
abbrev CLOCK_STAT_TRIES : Fld := ⟨0x7d040, 10, 2⟩
/-- Table 14-12: `CLOCK.STAT` [12] OWNPROF, RO. -/
abbrev CLOCK_STAT_OWNPROF : Fld := ⟨0x7d040, 12, 1⟩
/-- Table 14-12: `CLOCK.RAMPPROF` [7:0] D0, RO. -/
abbrev CLOCK_RAMPPROF_D0 : Fld := ⟨0x7d044, 0, 8⟩
/-- Table 14-12: `CLOCK.RAMPPROF` [15:8] D1, RO. -/
abbrev CLOCK_RAMPPROF_D1 : Fld := ⟨0x7d044, 8, 8⟩
/-- Table 14-12: `CLOCK.RAMPPROF` [23:16] D2, RO. -/
abbrev CLOCK_RAMPPROF_D2 : Fld := ⟨0x7d044, 16, 8⟩
/-- Table 14-12: `CLOCK.RAMPTIME` [15:0] RAMP, RO. -/
abbrev CLOCK_RAMPTIME_RAMP : Fld := ⟨0x7d048, 0, 16⟩
/-- Table 14-12: `CLOCK.RAMPTIME` [31:16] LOCKT, RO. -/
abbrev CLOCK_RAMPTIME_LOCKT : Fld := ⟨0x7d048, 16, 16⟩
/-- Table 14-12: `CLOCK.SDLOCK` [7:0] LANE, RO. -/
abbrev CLOCK_SDLOCK_LANE : Fld := ⟨0x7d04c, 0, 8⟩
/-- Table 14-12: `CLOCK.SDLOCK` [8] SHUT, RO. -/
abbrev CLOCK_SDLOCK_SHUT : Fld := ⟨0x7d04c, 8, 1⟩
/-- Table 14-12: `CLOCK.SDLOCK` [31:16] LOSSES, RO. -/
abbrev CLOCK_SDLOCK_LOSSES : Fld := ⟨0x7d04c, 16, 16⟩
/-- Table 14-12: `CLOCK.UNLOCKW` [31:0] SWARP, RO. -/
abbrev CLOCK_UNLOCKW_SWARP : Fld := ⟨0x7d050, 0, 32⟩
/-- Table 14-12: `CLOCK.EQ` [1:0] PRESET, RO. -/
abbrev CLOCK_EQ_PRESET : Fld := ⟨0x7d054, 0, 2⟩
/-- Table 14-12: `CLOCK.EQ` [31:16] CHANGES, RO. -/
abbrev CLOCK_EQ_CHANGES : Fld := ⟨0x7d054, 16, 16⟩
/-- Table 15-9: `PANEL_TOUCH.CFG` [0] EN, RWL. -/
abbrev PANEL_TOUCH_CFG_EN : Fld := ⟨0x10040, 0, 1⟩
/-- Table 15-9: `PANEL_TOUCH.CFG` [7:4] MAXT, RWL. -/
abbrev PANEL_TOUCH_CFG_MAXT : Fld := ⟨0x10040, 4, 4⟩
/-- Table 15-9: `PANEL_TOUCH.CFG` [11:8] DEB, RWL. -/
abbrev PANEL_TOUCH_CFG_DEB : Fld := ⟨0x10040, 8, 4⟩
/-- Table 15-9: `PANEL_TOUCH.CFG` [27:16] STUCK, RWL. -/
abbrev PANEL_TOUCH_CFG_STUCK : Fld := ⟨0x10040, 16, 12⟩
/-- Table 15-9: `PANEL_TOUCH.TRACK` [7:0] DRIFT, RWL. -/
abbrev PANEL_TOUCH_TRACK_DRIFT : Fld := ⟨0x10044, 0, 8⟩
/-- Table 15-9: `PANEL_TOUCH.TRACK` [15:8] NDEB, RWL. -/
abbrev PANEL_TOUCH_TRACK_NDEB : Fld := ⟨0x10044, 8, 8⟩
/-- Table 15-9: `PANEL_TOUCH.STAT` [11:0] TOUCH, RO. -/
abbrev PANEL_TOUCH_STAT_TOUCH : Fld := ⟨0x10048, 0, 12⟩
/-- Table 15-9: `PANEL_TOUCH.STAT` [23:12] STUCKK, RO. -/
abbrev PANEL_TOUCH_STAT_STUCKK : Fld := ⟨0x10048, 12, 12⟩
/-- Table 15-9: `PANEL_TOUCH.STAT` [24] READY, RO. -/
abbrev PANEL_TOUCH_STAT_READY : Fld := ⟨0x10048, 24, 1⟩
/-- Table 15-9: `PANEL_TOUCH.STAT` [25] SUPP, RO. -/
abbrev PANEL_TOUCH_STAT_SUPP : Fld := ⟨0x10048, 25, 1⟩
/-- Table 15-9: `PANEL_TOUCH.CNT` [15:0] TOUCHES, RO. -/
abbrev PANEL_TOUCH_CNT_TOUCHES : Fld := ⟨0x1004c, 0, 16⟩
/-- Table 15-9: `PANEL_TOUCH.CNT` [31:16] REBASES, RO. -/
abbrev PANEL_TOUCH_CNT_REBASES : Fld := ⟨0x1004c, 16, 16⟩
/-- Table 15-9: `PANEL_TOUCH.KCFG` [11:0] TTH, RWL. -/
abbrev PANEL_TOUCH_KCFG_TTH (n : Nat) : Fld := ⟨0x10080 + 8 * n, 0, 12⟩
/-- Table 15-9: `PANEL_TOUCH.KCFG` [23:12] NTH, RWL. -/
abbrev PANEL_TOUCH_KCFG_NTH (n : Nat) : Fld := ⟨0x10080 + 8 * n, 12, 12⟩
/-- Table 15-9: `PANEL_TOUCH.KCFG` [30:24] HYS, RWL. -/
abbrev PANEL_TOUCH_KCFG_HYS (n : Nat) : Fld := ⟨0x10080 + 8 * n, 24, 7⟩
/-- Table 15-9: `PANEL_TOUCH.KCFG` [31] KEN, RWL. -/
abbrev PANEL_TOUCH_KCFG_KEN (n : Nat) : Fld := ⟨0x10080 + 8 * n, 31, 1⟩
/-- Table 15-9: `PANEL_TOUCH.KDAT` [15:0] RAW, RO. -/
abbrev PANEL_TOUCH_KDAT_RAW (n : Nat) : Fld := ⟨0x10084 + 8 * n, 0, 16⟩
/-- Table 15-9: `PANEL_TOUCH.KDAT` [31:16] BASE, RO. -/
abbrev PANEL_TOUCH_KDAT_BASE (n : Nat) : Fld := ⟨0x10084 + 8 * n, 16, 16⟩
/-- Table 15-11: `PANEL_IO.BTNCFG` [7:0] DEB, RWL. -/
abbrev PANEL_IO_BTNCFG_DEB : Fld := ⟨0x11040, 0, 8⟩
/-- Table 15-11: `PANEL_IO.BTNCFG` [11:8] EN, RWL. -/
abbrev PANEL_IO_BTNCFG_EN : Fld := ⟨0x11040, 8, 4⟩
/-- Table 15-11: `PANEL_IO.BTNSTAT` [3:0] STATE, RO. -/
abbrev PANEL_IO_BTNSTAT_STATE : Fld := ⟨0x11044, 0, 4⟩
/-- Table 15-11: `PANEL_IO.LED` [1:0] MODE, RW. -/
abbrev PANEL_IO_LED_MODE (n : Nat) : Fld := ⟨0x11080 + 4 * n, 0, 2⟩
/-- Table 15-11: `PANEL_IO.LED` [9:2] BRIGHT, RW. -/
abbrev PANEL_IO_LED_BRIGHT (n : Nat) : Fld := ⟨0x11080 + 4 * n, 2, 8⟩
/-- Table 15-11: `PANEL_IO.LED` [14:10] CUR, RW. -/
abbrev PANEL_IO_LED_CUR (n : Nat) : Fld := ⟨0x11080 + 4 * n, 10, 5⟩
/-- Table 15-11: `PANEL_IO.LED` [17:15] BLINK, RW. -/
abbrev PANEL_IO_LED_BLINK (n : Nat) : Fld := ⟨0x11080 + 4 * n, 15, 3⟩
/-- Table 15-11: `PANEL_IO.LED` [20:18] SRC, RW. -/
abbrev PANEL_IO_LED_SRC (n : Nat) : Fld := ⟨0x11080 + 4 * n, 18, 3⟩
/-- Table 15-11: `PANEL_IO.LED` [31] OPEN, RO. -/
abbrev PANEL_IO_LED_OPEN (n : Nat) : Fld := ⟨0x11080 + 4 * n, 31, 1⟩
/-- Table 15-12: `SERVICE.STAT` [0] VBUS, RO. -/
abbrev SERVICE_STAT_VBUS : Fld := ⟨0x12040, 0, 1⟩
/-- Table 15-12: `SERVICE.STAT` [1] CONF, RO. -/
abbrev SERVICE_STAT_CONF : Fld := ⟨0x12040, 1, 1⟩
/-- Table 15-12: `SERVICE.STAT` [2] SESS, RO. -/
abbrev SERVICE_STAT_SESS : Fld := ⟨0x12040, 2, 1⟩
/-- Table 15-12: `SERVICE.STAT` [4:3] LEVEL, RO. -/
abbrev SERVICE_STAT_LEVEL : Fld := ⟨0x12040, 3, 2⟩
/-- Table 15-12: `SERVICE.STAT` [8:5] HELD, RO. -/
abbrev SERVICE_STAT_HELD : Fld := ⟨0x12040, 5, 4⟩
/-- Table 15-12: `SERVICE.CTL` [0] EN, RWL. -/
abbrev SERVICE_CTL_EN : Fld := ⟨0x12044, 0, 1⟩
/-- Table 15-12: `SERVICE.CTL` [1] KICK, RWL. -/
abbrev SERVICE_CTL_KICK : Fld := ⟨0x12044, 1, 1⟩
/-- Table 15-12: `SERVICE.CTL` [15:8] IDLE, RWL. -/
abbrev SERVICE_CTL_IDLE : Fld := ⟨0x12044, 8, 8⟩
/-- Table 15-12: `SERVICE.CNT` [15:0] SESSIONS, RO. -/
abbrev SERVICE_CNT_SESSIONS : Fld := ⟨0x12048, 0, 16⟩
/-- Table 15-12: `SERVICE.CNT` [31:16] DISC, RO. -/
abbrev SERVICE_CNT_DISC : Fld := ⟨0x12048, 16, 16⟩
/-- Table 15-12: `SERVICE.SESS` [2:0] REASON, RO. -/
abbrev SERVICE_SESS_REASON : Fld := ⟨0x1204c, 0, 3⟩
/-- Table 15-12: `SERVICE.SESS` [31:16] DENIED, RO. -/
abbrev SERVICE_SESS_DENIED : Fld := ⟨0x1204c, 16, 16⟩
/-- Table 15-13: `SAFETY.STAT` [1:0] BLOCK, RO. -/
abbrev SAFETY_STAT_BLOCK : Fld := ⟨0x14040, 0, 2⟩
/-- Table 15-13: `SAFETY.STAT` [2] PERMIT, RO. -/
abbrev SAFETY_STAT_PERMIT : Fld := ⟨0x14040, 2, 1⟩
/-- Table 15-13: `SAFETY.STAT` [3] RECORD, RO. -/
abbrev SAFETY_STAT_RECORD : Fld := ⟨0x14040, 3, 1⟩
/-- Table 15-13: `SAFETY.STAT` [13:4] INPUT, RO. -/
abbrev SAFETY_STAT_INPUT : Fld := ⟨0x14040, 4, 10⟩
/-- Table 15-13: `SAFETY.STAT` [23:14] RAW, RO. -/
abbrev SAFETY_STAT_RAW : Fld := ⟨0x14040, 14, 10⟩
/-- Table 15-13: `SAFETY.CFG` [4:0] MON, RO. -/
abbrev SAFETY_CFG_MON : Fld := ⟨0x14044, 0, 5⟩
/-- Table 15-13: `SAFETY.CFG` [5] RSTBTN, RO. -/
abbrev SAFETY_CFG_RSTBTN : Fld := ⟨0x14044, 5, 1⟩
/-- Table 15-13: `SAFETY.CFG` [15:6] TPPER, RO. -/
abbrev SAFETY_CFG_TPPER : Fld := ⟨0x14044, 6, 10⟩
/-- Table 15-13: `SAFETY.CFG` [22:16] TPW, RO. -/
abbrev SAFETY_CFG_TPW : Fld := ⟨0x14044, 16, 7⟩
/-- Table 15-13: `SAFETY.DISC` [8:0] DISC, RO. -/
abbrev SAFETY_DISC_DISC (n : Nat) : Fld := ⟨0x14048 + 4 * n, 0, 9⟩
/-- Table 15-13: `SAFETY.CTL` [0] STOP, RW. -/
abbrev SAFETY_CTL_STOP : Fld := ⟨0x14060, 0, 1⟩
/-- Table 15-13: `SAFETY.RESET` [31:0] KEY, RW. -/
abbrev SAFETY_RESET_KEY : Fld := ⟨0x14064, 0, 32⟩
/-- Table 15-13: `SAFETY.FAULT` [2:0] INPUT, RO. -/
abbrev SAFETY_FAULT_INPUT : Fld := ⟨0x14068, 0, 3⟩
/-- Table 15-13: `SAFETY.FAULT` [6:3] CAUSE, RO. -/
abbrev SAFETY_FAULT_CAUSE : Fld := ⟨0x14068, 3, 4⟩
/-- Table 15-13: `SAFETY.FAULT` [31:16] COUNT, RO. -/
abbrev SAFETY_FAULT_COUNT : Fld := ⟨0x14068, 16, 16⟩
/-- Table 15-13: `SAFETY.DEMW` [31:0] SWARP, RO. -/
abbrev SAFETY_DEMW_SWARP : Fld := ⟨0x1406c, 0, 32⟩
/-- Table 15-13: `SAFETY.DEMCNT` [31:0] COUNT, RO. -/
abbrev SAFETY_DEMCNT_COUNT : Fld := ⟨0x14070, 0, 32⟩
/-- Table 15-13: `SAFETY.TESTCNT` [15:0] PASS, RO. -/
abbrev SAFETY_TESTCNT_PASS : Fld := ⟨0x14074, 0, 16⟩
/-- Table 15-13: `SAFETY.TESTCNT` [31:16] FAIL, RO. -/
abbrev SAFETY_TESTCNT_FAIL : Fld := ⟨0x14074, 16, 16⟩
/-- Table 15-14: `SEAL.STAT` [7:0] WORD, RO. -/
abbrev SEAL_STAT_WORD : Fld := ⟨0x15040, 0, 8⟩
/-- Table 15-14: `SEAL.STAT` [8] PERMIT, RO. -/
abbrev SEAL_STAT_PERMIT : Fld := ⟨0x15040, 8, 1⟩
/-- Table 15-14: `SEAL.STAT` [9] RECORD, RO. -/
abbrev SEAL_STAT_RECORD : Fld := ⟨0x15040, 9, 1⟩
/-- Table 15-14: `SEAL.STAT` [10] BUSY, RO. -/
abbrev SEAL_STAT_BUSY : Fld := ⟨0x15040, 10, 1⟩
/-- Table 15-14: `SEAL.REC` [7:0] SEALW, RO. -/
abbrev SEAL_REC_SEALW : Fld := ⟨0x15044, 0, 8⟩
/-- Table 15-14: `SEAL.REC` [15:8] SEALM, RO. -/
abbrev SEAL_REC_SEALM : Fld := ⟨0x15044, 8, 8⟩
/-- Table 15-14: `SEAL.REC` [19:16] REGION, RO. -/
abbrev SEAL_REC_REGION : Fld := ⟨0x15044, 16, 4⟩
/-- Table 15-14: `SEAL.CTL` [0] READ, RW. -/
abbrev SEAL_CTL_READ : Fld := ⟨0x15048, 0, 1⟩
/-- Table 15-14: `SEAL.CNT` [15:0] MIS, RO. -/
abbrev SEAL_CNT_MIS : Fld := ⟨0x1504c, 0, 16⟩
/-- Table 15-14: `SEAL.CNT` [31:16] INCONS, RO. -/
abbrev SEAL_CNT_INCONS : Fld := ⟨0x1504c, 16, 16⟩
/-- Table 15-14: `SEAL.MISW` [31:0] SWARP, RO. -/
abbrev SEAL_MISW_SWARP : Fld := ⟨0x15050, 0, 32⟩
/-- Table 16-6: `LOUVRE.CFG` [0] EN, RWL. -/
abbrev LOUVRE_CFG_EN (i : Nat) : Fld := ⟨0x18040 + 0x1000 * i, 0, 1⟩
/-- Table 16-6: `LOUVRE.CFG` [1] HALL, RWL. -/
abbrev LOUVRE_CFG_HALL (i : Nat) : Fld := ⟨0x18040 + 0x1000 * i, 1, 1⟩
/-- Table 16-6: `LOUVRE.CFG` [4:2] HOFS, RWL. -/
abbrev LOUVRE_CFG_HOFS (i : Nat) : Fld := ⟨0x18040 + 0x1000 * i, 2, 3⟩
/-- Table 16-6: `LOUVRE.CFG` [11:8] POLES, RWL. -/
abbrev LOUVRE_CFG_POLES (i : Nat) : Fld := ⟨0x18040 + 0x1000 * i, 8, 4⟩
/-- Table 16-6: `LOUVRE.CFG` [19:12] PWMF, RWL. -/
abbrev LOUVRE_CFG_PWMF (i : Nat) : Fld := ⟨0x18040 + 0x1000 * i, 12, 8⟩
/-- Table 16-6: `LOUVRE.CFG` [30:20] DT, RWL. -/
abbrev LOUVRE_CFG_DT (i : Nat) : Fld := ⟨0x18040 + 0x1000 * i, 20, 11⟩
/-- Table 16-6: `LOUVRE.CFG2` [7:0] TLMIN, RWL. -/
abbrev LOUVRE_CFG2_TLMIN (i : Nat) : Fld := ⟨0x18044 + 0x1000 * i, 0, 8⟩
/-- Table 16-6: `LOUVRE.CFG2` [15:8] VDSTH, RWL. -/
abbrev LOUVRE_CFG2_VDSTH (i : Nat) : Fld := ⟨0x18044 + 0x1000 * i, 8, 8⟩
/-- Table 16-6: `LOUVRE.CFG2` [17:16] GAIN, RWL. -/
abbrev LOUVRE_CFG2_GAIN (i : Nat) : Fld := ⟨0x18044 + 0x1000 * i, 16, 2⟩
/-- Table 16-6: `LOUVRE.START` [7:0] ALIGND, RWL. -/
abbrev LOUVRE_START_ALIGND (i : Nat) : Fld := ⟨0x18048 + 0x1000 * i, 0, 8⟩
/-- Table 16-6: `LOUVRE.START` [15:8] TALIGN, RWL. -/
abbrev LOUVRE_START_TALIGN (i : Nat) : Fld := ⟨0x18048 + 0x1000 * i, 8, 8⟩
/-- Table 16-6: `LOUVRE.START` [23:16] TRAMP, RWL. -/
abbrev LOUVRE_START_TRAMP (i : Nat) : Fld := ⟨0x18048 + 0x1000 * i, 16, 8⟩
/-- Table 16-6: `LOUVRE.START` [31:24] FHAND, RWL. -/
abbrev LOUVRE_START_FHAND (i : Nat) : Fld := ⟨0x18048 + 0x1000 * i, 24, 8⟩
/-- Table 16-6: `LOUVRE.SPIN` [7:0] FCATCH, RWL. -/
abbrev LOUVRE_SPIN_FCATCH (i : Nat) : Fld := ⟨0x1804c + 0x1000 * i, 0, 8⟩
/-- Table 16-6: `LOUVRE.SPIN` [15:8] REVTH, RWL. -/
abbrev LOUVRE_SPIN_REVTH (i : Nat) : Fld := ⟨0x1804c + 0x1000 * i, 8, 8⟩
/-- Table 16-6: `LOUVRE.SPIN` [31:16] ACC, RWL. -/
abbrev LOUVRE_SPIN_ACC (i : Nat) : Fld := ⟨0x1804c + 0x1000 * i, 16, 16⟩
/-- Table 16-6: `LOUVRE.CTL` [1:0] MODE, RW. -/
abbrev LOUVRE_CTL_MODE (i : Nat) : Fld := ⟨0x18050 + 0x1000 * i, 0, 2⟩
/-- Table 16-6: `LOUVRE.CTL` [2] DIR, RW. -/
abbrev LOUVRE_CTL_DIR (i : Nat) : Fld := ⟨0x18050 + 0x1000 * i, 2, 1⟩
/-- Table 16-6: `LOUVRE.CTL` [3] CLR, RW. -/
abbrev LOUVRE_CTL_CLR (i : Nat) : Fld := ⟨0x18050 + 0x1000 * i, 3, 1⟩
/-- Table 16-6: `LOUVRE.CTL` [31:16] RPM, RW. -/
abbrev LOUVRE_CTL_RPM (i : Nat) : Fld := ⟨0x18050 + 0x1000 * i, 16, 16⟩
/-- Table 16-6: `LOUVRE.CURVSRC` [7:0] SRC, RWL. -/
abbrev LOUVRE_CURVSRC_SRC (i : Nat) : Fld := ⟨0x18054 + 0x1000 * i, 0, 8⟩
/-- Table 16-6: `LOUVRE.CURVSRC` [12:8] NPTS, RWL. -/
abbrev LOUVRE_CURVSRC_NPTS (i : Nat) : Fld := ⟨0x18054 + 0x1000 * i, 8, 5⟩
/-- Table 16-6: `LOUVRE.CURVSRC` [23:16] HYST, RWL. -/
abbrev LOUVRE_CURVSRC_HYST (i : Nat) : Fld := ⟨0x18054 + 0x1000 * i, 16, 8⟩
/-- Table 16-6: `LOUVRE.CURVTON` [15:0] TON, RWL. -/
abbrev LOUVRE_CURVTON_TON (i : Nat) : Fld := ⟨0x18058 + 0x1000 * i, 0, 16⟩
/-- Table 16-6: `LOUVRE.CURVE` [15:0] T, RWL. -/
abbrev LOUVRE_CURVE_T (i n : Nat) : Fld := ⟨0x18080 + 0x1000 * i + 4 * n, 0, 16⟩
/-- Table 16-6: `LOUVRE.CURVE` [31:16] RPM, RWL. -/
abbrev LOUVRE_CURVE_RPM (i n : Nat) : Fld := ⟨0x18080 + 0x1000 * i + 4 * n, 16, 16⟩
/-- Table 16-6: `LOUVRE.STAT` [2:0] STATE, RO. -/
abbrev LOUVRE_STAT_STATE (i : Nat) : Fld := ⟨0x18060 + 0x1000 * i, 0, 3⟩
/-- Table 16-6: `LOUVRE.STAT` [3] ON, RO. -/
abbrev LOUVRE_STAT_ON (i : Nat) : Fld := ⟨0x18060 + 0x1000 * i, 3, 1⟩
/-- Table 16-6: `LOUVRE.STAT` [4] NOVAL, RO. -/
abbrev LOUVRE_STAT_NOVAL (i : Nat) : Fld := ⟨0x18060 + 0x1000 * i, 4, 1⟩
/-- Table 16-6: `LOUVRE.STAT` [5] FORCED, RO. -/
abbrev LOUVRE_STAT_FORCED (i : Nat) : Fld := ⟨0x18060 + 0x1000 * i, 5, 1⟩
/-- Table 16-6: `LOUVRE.STAT` [6] SPINREV, RO. -/
abbrev LOUVRE_STAT_SPINREV (i : Nat) : Fld := ⟨0x18060 + 0x1000 * i, 6, 1⟩
/-- Table 16-6: `LOUVRE.STAT` [9:7] HBFLT, RO. -/
abbrev LOUVRE_STAT_HBFLT (i : Nat) : Fld := ⟨0x18060 + 0x1000 * i, 7, 3⟩
/-- Table 16-6: `LOUVRE.STAT` [31:16] RPM, RO. -/
abbrev LOUVRE_STAT_RPM (i : Nat) : Fld := ⟨0x18060 + 0x1000 * i, 16, 16⟩
/-- Table 16-6: `LOUVRE.DUTY` [15:0] DUTY, RO. -/
abbrev LOUVRE_DUTY_DUTY (i : Nat) : Fld := ⟨0x18064 + 0x1000 * i, 0, 16⟩
/-- Table 16-6: `LOUVRE.DUTY` [31:16] TGT, RO. -/
abbrev LOUVRE_DUTY_TGT (i : Nat) : Fld := ⟨0x18064 + 0x1000 * i, 16, 16⟩
/-- Table 16-6: `LOUVRE.CURR_AB` [15:0] IA, RO. -/
abbrev LOUVRE_CURR_AB_IA (i : Nat) : Fld := ⟨0x18068 + 0x1000 * i, 0, 16⟩
/-- Table 16-6: `LOUVRE.CURR_AB` [31:16] IB, RO. -/
abbrev LOUVRE_CURR_AB_IB (i : Nat) : Fld := ⟨0x18068 + 0x1000 * i, 16, 16⟩
/-- Table 16-6: `LOUVRE.CURR_C` [15:0] IC, RO. -/
abbrev LOUVRE_CURR_C_IC (i : Nat) : Fld := ⟨0x1806c + 0x1000 * i, 0, 16⟩
/-- Table 16-6: `LOUVRE.FAULT` [1:0] PHASE, RO. -/
abbrev LOUVRE_FAULT_PHASE (i : Nat) : Fld := ⟨0x18070 + 0x1000 * i, 0, 2⟩
/-- Table 16-6: `LOUVRE.FAULT` [5:2] CAUSE, RO. -/
abbrev LOUVRE_FAULT_CAUSE (i : Nat) : Fld := ⟨0x18070 + 0x1000 * i, 2, 4⟩
/-- Table 16-6: `LOUVRE.FAULT` [31:16] COUNT, RO. -/
abbrev LOUVRE_FAULT_COUNT (i : Nat) : Fld := ⟨0x18070 + 0x1000 * i, 16, 16⟩
/-- Table 16-6: `LOUVRE.CNT` [15:0] ILIM, RO. -/
abbrev LOUVRE_CNT_ILIM (i : Nat) : Fld := ⟨0x18074 + 0x1000 * i, 0, 16⟩
/-- Table 16-6: `LOUVRE.CNT` [31:16] STARTS, RO. -/
abbrev LOUVRE_CNT_STARTS (i : Nat) : Fld := ⟨0x18074 + 0x1000 * i, 16, 16⟩
/-- Table 16-6: `LOUVRE.RUNSEC` [31:0] SEC, RO. -/
abbrev LOUVRE_RUNSEC_SEC (i : Nat) : Fld := ⟨0x18078 + 0x1000 * i, 0, 32⟩
/-- Table 16-7: `AUXSUP.CFG` [8:0] FSW, RWL. -/
abbrev AUXSUP_CFG_FSW : Fld := ⟨0x1c040, 0, 9⟩
/-- Table 16-7: `AUXSUP.CFG` [15:9] DMAX, RWL. -/
abbrev AUXSUP_CFG_DMAX : Fld := ⟨0x1c040, 9, 7⟩
/-- Table 16-7: `AUXSUP.CFG` [23:16] LEB, RWL. -/
abbrev AUXSUP_CFG_LEB : Fld := ⟨0x1c040, 16, 8⟩
/-- Table 16-7: `AUXSUP.CFG` [31:24] TSS, RWL. -/
abbrev AUXSUP_CFG_TSS : Fld := ⟨0x1c040, 24, 8⟩
/-- Table 16-7: `AUXSUP.VREG` [11:0] VSET, RWL. -/
abbrev AUXSUP_VREG_VSET : Fld := ⟨0x1c044, 0, 12⟩
/-- Table 16-7: `AUXSUP.VREG` [23:16] KNEE, RWL. -/
abbrev AUXSUP_VREG_KNEE : Fld := ⟨0x1c044, 16, 8⟩
/-- Table 16-7: `AUXSUP.LOOP` [7:0] KP, RWL. -/
abbrev AUXSUP_LOOP_KP : Fld := ⟨0x1c048, 0, 8⟩
/-- Table 16-7: `AUXSUP.LOOP` [15:8] KI, RWL. -/
abbrev AUXSUP_LOOP_KI : Fld := ⟨0x1c048, 8, 8⟩
/-- Table 16-7: `AUXSUP.LOOP` [25:16] VCMAX, RWL. -/
abbrev AUXSUP_LOOP_VCMAX : Fld := ⟨0x1c048, 16, 10⟩
/-- Table 16-7: `AUXSUP.PROT` [7:0] OVP, RWL. -/
abbrev AUXSUP_PROT_OVP : Fld := ⟨0x1c04c, 0, 8⟩
/-- Table 16-7: `AUXSUP.PROT` [15:8] UVP, RWL. -/
abbrev AUXSUP_PROT_UVP : Fld := ⟨0x1c04c, 8, 8⟩
/-- Table 16-7: `AUXSUP.PROT` [27:16] VINMIN, RWL. -/
abbrev AUXSUP_PROT_VINMIN : Fld := ⟨0x1c04c, 16, 12⟩
/-- Table 16-7: `AUXSUP.CTL` [0] EN, RW. -/
abbrev AUXSUP_CTL_EN : Fld := ⟨0x1c050, 0, 1⟩
/-- Table 16-7: `AUXSUP.CTL` [1] RESTART, RW. -/
abbrev AUXSUP_CTL_RESTART : Fld := ⟨0x1c050, 1, 1⟩
/-- Table 16-7: `AUXSUP.STAT` [2:0] STATE, RO. -/
abbrev AUXSUP_STAT_STATE : Fld := ⟨0x1c054, 0, 3⟩
/-- Table 16-7: `AUXSUP.STAT` [3] PGOOD, RO. -/
abbrev AUXSUP_STAT_PGOOD : Fld := ⟨0x1c054, 3, 1⟩
/-- Table 16-7: `AUXSUP.STAT` [4] CLIM, RO. -/
abbrev AUXSUP_STAT_CLIM : Fld := ⟨0x1c054, 4, 1⟩
/-- Table 16-7: `AUXSUP.STAT` [27:16] FB, RO. -/
abbrev AUXSUP_STAT_FB : Fld := ⟨0x1c054, 16, 12⟩
/-- Table 16-7: `AUXSUP.VC` [9:0] VC, RO. -/
abbrev AUXSUP_VC_VC : Fld := ⟨0x1c058, 0, 10⟩
/-- Table 16-7: `AUXSUP.VC` [25:16] DUTY, RO. -/
abbrev AUXSUP_VC_DUTY : Fld := ⟨0x1c058, 16, 10⟩
/-- Table 16-7: `AUXSUP.CNT` [15:0] HICCUP, RO. -/
abbrev AUXSUP_CNT_HICCUP : Fld := ⟨0x1c05c, 0, 16⟩
/-- Table 16-7: `AUXSUP.CNT` [31:16] OVP, RO. -/
abbrev AUXSUP_CNT_OVP : Fld := ⟨0x1c05c, 16, 16⟩
/-- Table 16-7: `AUXSUP.FAULTW` [31:0] SWARP, RO. -/
abbrev AUXSUP_FAULTW_SWARP : Fld := ⟨0x1c060, 0, 32⟩
/-- Table 16-8: `HADC.SCANCFG` [15:0] EN, RWL. -/
abbrev HADC_SCANCFG_EN : Fld := ⟨0x1f040, 0, 16⟩
/-- Table 16-8: `HADC.SCANCFG` [23:16] SCANPER, RWL. -/
abbrev HADC_SCANCFG_SCANPER : Fld := ⟨0x1f040, 16, 8⟩
/-- Table 16-8: `HADC.STAT` [15:0] CONV, RO. -/
abbrev HADC_STAT_CONV : Fld := ⟨0x1f044, 0, 16⟩
/-- Table 16-8: `HADC.STAT` [31:16] SKIP, RO. -/
abbrev HADC_STAT_SKIP : Fld := ⟨0x1f044, 16, 16⟩
/-- Table 16-8: `HADC.WIN` [11:0] LO, RWL. -/
abbrev HADC_WIN_LO (n : Nat) : Fld := ⟨0x1f048 + 4 * n, 0, 12⟩
/-- Table 16-8: `HADC.WIN` [23:12] HI, RWL. -/
abbrev HADC_WIN_HI (n : Nat) : Fld := ⟨0x1f048 + 4 * n, 12, 12⟩
/-- Table 16-8: `HADC.WIN` [27:24] INPUT, RWL. -/
abbrev HADC_WIN_INPUT (n : Nat) : Fld := ⟨0x1f048 + 4 * n, 24, 4⟩
/-- Table 16-8: `HADC.WIN` [28] EN, RWL. -/
abbrev HADC_WIN_EN (n : Nat) : Fld := ⟨0x1f048 + 4 * n, 28, 1⟩
/-- Table 16-8: `HADC.RES` [11:0] CODE, RO. -/
abbrev HADC_RES_CODE (n : Nat) : Fld := ⟨0x1f080 + 4 * n, 0, 12⟩
/-- Table 16-8: `HADC.RES` [12] VALID, RO. -/
abbrev HADC_RES_VALID (n : Nat) : Fld := ⟨0x1f080 + 4 * n, 12, 1⟩
/-- Table 16-8: `HADC.RES` [31:16] SEQ, RO. -/
abbrev HADC_RES_SEQ (n : Nat) : Fld := ⟨0x1f080 + 4 * n, 16, 16⟩
/-- Table 16-8: `HCMP.CFG` [9:0] THR, RWL. -/
abbrev HCMP_CFG_THR (n : Nat) : Fld := ⟨0x1e040 + 4 * n, 0, 10⟩
/-- Table 16-8: `HCMP.CFG` [11:10] INPUT, RWL. -/
abbrev HCMP_CFG_INPUT (n : Nat) : Fld := ⟨0x1e040 + 4 * n, 10, 2⟩
/-- Table 16-8: `HCMP.CFG` [12] POL, RWL. -/
abbrev HCMP_CFG_POL (n : Nat) : Fld := ⟨0x1e040 + 4 * n, 12, 1⟩
/-- Table 16-8: `HCMP.CFG` [13] FILT, RWL. -/
abbrev HCMP_CFG_FILT (n : Nat) : Fld := ⟨0x1e040 + 4 * n, 13, 1⟩
/-- Table 16-8: `HCMP.CFG` [14] EVT, RWL. -/
abbrev HCMP_CFG_EVT (n : Nat) : Fld := ⟨0x1e040 + 4 * n, 14, 1⟩
/-- Table 16-8: `HCMP.SLOPE` [11:0] SLOPE, RWL. -/
abbrev HCMP_SLOPE_SLOPE : Fld := ⟨0x1e080, 0, 12⟩
/-- Table 16-8: `HCMP.STAT` [7:0] OUT, RO. -/
abbrev HCMP_STAT_OUT : Fld := ⟨0x1e0c0, 0, 8⟩
/-- Table 16-8: `HCMP.TRIPCNT` [31:0] COUNT, RO. -/
abbrev HCMP_TRIPCNT_COUNT (n : Nat) : Fld := ⟨0x1e0e0 + 4 * n, 0, 32⟩
/-- Table 17-13: `SECURITY.STAT` [0] KEY, RO. -/
abbrev SECURITY_STAT_KEY : Fld := ⟨0x6040, 0, 1⟩
/-- Table 17-13: `SECURITY.STAT` [1] QBUSY, RO. -/
abbrev SECURITY_STAT_QBUSY : Fld := ⟨0x6040, 1, 1⟩
/-- Table 17-13: `SECURITY.STAT` [2] QDONE, RO. -/
abbrev SECURITY_STAT_QDONE : Fld := ⟨0x6040, 2, 1⟩
/-- Table 17-13: `SECURITY.STAT` [3] ACTSLOT, RO. -/
abbrev SECURITY_STAT_ACTSLOT : Fld := ⟨0x6040, 3, 1⟩
/-- Table 17-13: `SECURITY.STAT` [5:4] STBY, RO. -/
abbrev SECURITY_STAT_STBY : Fld := ⟨0x6040, 4, 2⟩
/-- Table 17-13: `SECURITY.STAT` [6] RECOVERY, RO. -/
abbrev SECURITY_STAT_RECOVERY : Fld := ⟨0x6040, 6, 1⟩
/-- Table 17-13: `SECURITY.STAT` [7] RINGCERT, RO. -/
abbrev SECURITY_STAT_RINGCERT : Fld := ⟨0x6040, 7, 1⟩
/-- Table 17-13: `SECURITY.STAT` [8] OWNCERT, RO. -/
abbrev SECURITY_STAT_OWNCERT : Fld := ⟨0x6040, 8, 1⟩
/-- Table 17-13: `SECURITY.QCTL` [0] GO, RW. -/
abbrev SECURITY_QCTL_GO : Fld := ⟨0x6044, 0, 1⟩
/-- Table 17-13: `SECURITY.FWCTL` [0] VERIFY, RWL. -/
abbrev SECURITY_FWCTL_VERIFY : Fld := ⟨0x6048, 0, 1⟩
/-- Table 17-13: `SECURITY.FWCTL` [1] ACTIVATE, RWL. -/
abbrev SECURITY_FWCTL_ACTIVATE : Fld := ⟨0x6048, 1, 1⟩
/-- Table 17-13: `SECURITY.FWCTL` [2] ERASE, RWL. -/
abbrev SECURITY_FWCTL_ERASE : Fld := ⟨0x6048, 2, 1⟩
/-- Table 17-13: `SECURITY.FWCTL` [3] TARGET, RWL. -/
abbrev SECURITY_FWCTL_TARGET : Fld := ⟨0x6048, 3, 1⟩
/-- Table 17-13: `SECURITY.FWADDR` [8:0] BLOCK, RWL. -/
abbrev SECURITY_FWADDR_BLOCK : Fld := ⟨0x604c, 0, 9⟩
/-- Table 17-13: `SECURITY.FWVER` [31:0] VER, RO. -/
abbrev SECURITY_FWVER_VER : Fld := ⟨0x6050, 0, 32⟩
/-- Table 17-13: `SECURITY.FWSTBYV` [31:0] VER, RO. -/
abbrev SECURITY_FWSTBYV_VER : Fld := ⟨0x6054, 0, 32⟩
/-- Table 17-13: `SECURITY.CERTSEL` [1:0] SEL, RW. -/
abbrev SECURITY_CERTSEL_SEL : Fld := ⟨0x6058, 0, 2⟩
/-- Table 17-13: `SECURITY.CERTSEL` [25:16] LEN, RO. -/
abbrev SECURITY_CERTSEL_LEN : Fld := ⟨0x6058, 16, 10⟩
/-- Table 17-13: `SECURITY.OWNCERT` [31:0] KEY, RW. -/
abbrev SECURITY_OWNCERT_KEY : Fld := ⟨0x605c, 0, 32⟩
/-- Table 17-13: `SECURITY.NONCE` [31:0] N, RW. -/
abbrev SECURITY_NONCE_N (n : Nat) : Fld := ⟨0x6080 + 4 * n, 0, 32⟩
/-- Table 17-13: `SECURITY.CERT` [31:0] C, RO. -/
abbrev SECURITY_CERT_C (n : Nat) : Fld := ⟨0x6100 + 4 * n, 0, 32⟩
/-- Table 17-13: `SECURITY.QUOTE` [31:0] Q, RO. -/
abbrev SECURITY_QUOTE_Q (n : Nat) : Fld := ⟨0x6400 + 4 * n, 0, 32⟩
/-- Table 17-13: `SECURITY.FWWIN` [31:0] D, RWL. -/
abbrev SECURITY_FWWIN_D (n : Nat) : Fld := ⟨0x6800 + 4 * n, 0, 32⟩
/-- Table 17-13: `LIFECYCLE.STAT` [2:0] STATE, RO. -/
abbrev LIFECYCLE_STAT_STATE : Fld := ⟨0x7040, 0, 3⟩
/-- Table 17-13: `LIFECYCLE.STAT` [3] PARTIAL, RO. -/
abbrev LIFECYCLE_STAT_PARTIAL : Fld := ⟨0x7040, 3, 1⟩
/-- Table 17-13: `LIFECYCLE.STAT` [6:4] PTARGET, RO. -/
abbrev LIFECYCLE_STAT_PTARGET : Fld := ⟨0x7040, 4, 3⟩
/-- Table 17-13: `LIFECYCLE.STAT` [7] BUSY, RO. -/
abbrev LIFECYCLE_STAT_BUSY : Fld := ⟨0x7040, 7, 1⟩
/-- Table 17-13: `LIFECYCLE.STAT` [8] PAUSED, RO. -/
abbrev LIFECYCLE_STAT_PAUSED : Fld := ⟨0x7040, 8, 1⟩
/-- Table 17-13: `LIFECYCLE.STAT` [9] OWNKEY, RO. -/
abbrev LIFECYCLE_STAT_OWNKEY : Fld := ⟨0x7040, 9, 1⟩
/-- Table 17-13: `LIFECYCLE.STAT` [15:12] REASON, RO. -/
abbrev LIFECYCLE_STAT_REASON : Fld := ⟨0x7040, 12, 4⟩
/-- Table 17-13: `LIFECYCLE.REQ` [2:0] TARGET, RWL. -/
abbrev LIFECYCLE_REQ_TARGET : Fld := ⟨0x7044, 0, 3⟩
/-- Table 17-13: `LIFECYCLE.REQ` [8] GO, RWL. -/
abbrev LIFECYCLE_REQ_GO : Fld := ⟨0x7044, 8, 1⟩
/-- Table 17-13: `LIFECYCLE.BURN` [3:0] WHAT, RWL. -/
abbrev LIFECYCLE_BURN_WHAT : Fld := ⟨0x7048, 0, 4⟩
/-- Table 17-13: `LIFECYCLE.BURN` [31:16] KEY, RWL. -/
abbrev LIFECYCLE_BURN_KEY : Fld := ⟨0x7048, 16, 16⟩
/-- Table 17-13: `LIFECYCLE.CNT` [6:0] HFW, RO. -/
abbrev LIFECYCLE_CNT_HFW : Fld := ⟨0x704c, 0, 7⟩
/-- Table 17-13: `LIFECYCLE.CNT` [14:8] WFW, RO. -/
abbrev LIFECYCLE_CNT_WFW : Fld := ⟨0x704c, 8, 7⟩
/-- Table 17-13: `LIFECYCLE.CNT` [22:16] HMIR, RO. -/
abbrev LIFECYCLE_CNT_HMIR : Fld := ⟨0x704c, 16, 7⟩
/-- Table 17-13: `LIFECYCLE.CNT` [30:24] WMIR, RO. -/
abbrev LIFECYCLE_CNT_WMIR : Fld := ⟨0x704c, 24, 7⟩
/-- Table 17-13: `LIFECYCLE.PLLPROF` [23:0] D0_D2, RW. -/
abbrev LIFECYCLE_PLLPROF_D0_D2 : Fld := ⟨0x7050, 0, 24⟩
/-- Table 17-13: `LIFECYCLE.LCNONCE` [31:0] N, RO. -/
abbrev LIFECYCLE_LCNONCE_N (n : Nat) : Fld := ⟨0x7080 + 4 * n, 0, 32⟩
/-- Table 17-13: `LIFECYCLE.OWNKEYH` [31:0] H, RW. -/
abbrev LIFECYCLE_OWNKEYH_H (n : Nat) : Fld := ⟨0x70a0 + 4 * n, 0, 32⟩
/-- Table 17-13: `LIFECYCLE.TOKEN` [31:0] T, RW. -/
abbrev LIFECYCLE_TOKEN_T (n : Nat) : Fld := ⟨0x7100 + 4 * n, 0, 32⟩
/-- Table 17-14: `WICKET.STAT` [1:0] SCOPE, RO. -/
abbrev WICKET_STAT_SCOPE : Fld := ⟨0x8040, 0, 2⟩
/-- Table 17-14: `WICKET.STAT` [2] LOCKOUT, RO. -/
abbrev WICKET_STAT_LOCKOUT : Fld := ⟨0x8040, 2, 1⟩
/-- Table 17-14: `WICKET.STAT` [4:3] FAILS, RO. -/
abbrev WICKET_STAT_FAILS : Fld := ⟨0x8040, 3, 2⟩
/-- Table 17-14: `WICKET.STAT` [5] DISABLED, RO. -/
abbrev WICKET_STAT_DISABLED : Fld := ⟨0x8040, 5, 1⟩
/-- Table 17-14: `WICKET.CTL` [0] CLOSE, RWL. -/
abbrev WICKET_CTL_CLOSE : Fld := ⟨0x8044, 0, 1⟩
/-- Table 17-14: `WICKET.CTL` [1] DISABLE, RWL. -/
abbrev WICKET_CTL_DISABLE : Fld := ⟨0x8044, 1, 1⟩
/-- Table 17-14: `WICKET.CNT` [15:0] OPENS, RO. -/
abbrev WICKET_CNT_OPENS : Fld := ⟨0x8048, 0, 16⟩
/-- Table 17-14: `WICKET.CNT` [31:16] FAILTOT, RO. -/
abbrev WICKET_CNT_FAILTOT : Fld := ⟨0x8048, 16, 16⟩
/-- Table 17-14: `PORTER.STAT` [1:0] SRC, RO. -/
abbrev PORTER_STAT_SRC : Fld := ⟨0x20040, 0, 2⟩
/-- Table 17-14: `PORTER.STAT` [2] RTCVALID, RO. -/
abbrev PORTER_STAT_RTCVALID : Fld := ⟨0x20040, 2, 1⟩
/-- Table 17-14: `PORTER.STAT` [4:3] BAT, RO. -/
abbrev PORTER_STAT_BAT : Fld := ⟨0x20040, 3, 2⟩
/-- Table 17-14: `PORTER.STAT` [31:16] CHANGES, RO. -/
abbrev PORTER_STAT_CHANGES : Fld := ⟨0x20040, 16, 16⟩
/-- Table 17-14: `PORTER.VMEAS` [11:0] VSTO, RO. -/
abbrev PORTER_VMEAS_VSTO : Fld := ⟨0x20044, 0, 12⟩
/-- Table 17-14: `PORTER.VMEAS` [27:16] VBAT, RO. -/
abbrev PORTER_VMEAS_VBAT : Fld := ⟨0x20044, 16, 12⟩
/-- Table 17-14: `PORTER.CTL` [0] DWEN, RWL. -/
abbrev PORTER_CTL_DWEN : Fld := ⟨0x20048, 0, 1⟩
/-- Table 17-14: `PORTER.CTL` [4:1] DWMASK, RWL. -/
abbrev PORTER_CTL_DWMASK : Fld := ⟨0x20048, 1, 4⟩
/-- Table 17-14: `PORTER.RTCTRIM` [12:0] TRIM, RWL. -/
abbrev PORTER_RTCTRIM_TRIM : Fld := ⟨0x2004c, 0, 13⟩
/-- Table 17-14: `PORTER.RJHEAD` [31:0] SEQ, RO. -/
abbrev PORTER_RJHEAD_SEQ : Fld := ⟨0x20050, 0, 32⟩
/-- Table 17-14: `PORTER.RJTAIL` [31:0] SEQ, RO. -/
abbrev PORTER_RJTAIL_SEQ : Fld := ⟨0x20054, 0, 32⟩
/-- Table 17-14: `PORTER.RJOVWR` [31:0] COUNT, RO. -/
abbrev PORTER_RJOVWR_COUNT : Fld := ⟨0x20058, 0, 32⟩
/-- Table 17-14: `PORTER.RJREAD` [31:0] SEQ, RW. -/
abbrev PORTER_RJREAD_SEQ : Fld := ⟨0x2005c, 0, 32⟩
/-- Table 17-14: `PORTER.WINBASE` [1:0] BLOCK, RW. -/
abbrev PORTER_WINBASE_BLOCK : Fld := ⟨0x20060, 0, 2⟩
/-- Table 13-12: `METER.SETW` [31:0] W, RO. -/
abbrev METER_SETW_W (n : Nat) : Fld := ⟨0x71200 + 4 * n, 0, 32⟩
/-- Table 13-14: `PQEVT.LOGW` [31:0] W, RO. -/
abbrev PQEVT_LOGW_W (n : Nat) : Fld := ⟨0x72400 + 4 * n, 0, 32⟩
/-- Table 12-1: `GRIDFN.CURVS` [15:0] LEVEL, RWS. -/
abbrev GRIDFN_CURVS_LEVEL (n : Nat) : Fld := ⟨0x78400 + 4 * n, 0, 16⟩
/-- Table 12-1: `GRIDFN.CURVS` [30:16] DUR, RWS. -/
abbrev GRIDFN_CURVS_DUR (n : Nat) : Fld := ⟨0x78400 + 4 * n, 16, 15⟩
/-- Table 12-1: `GRIDFN.CURVS` [31] SCALE, RWS. -/
abbrev GRIDFN_CURVS_SCALE (n : Nat) : Fld := ⟨0x78400 + 4 * n, 31, 1⟩
/-- Table 12-1: `GRIDFN.CURV` [15:0] LEVEL, RO. -/
abbrev GRIDFN_CURV_LEVEL (n : Nat) : Fld := ⟨0x78500 + 4 * n, 0, 16⟩
/-- Table 12-1: `GRIDFN.CURV` [30:16] DUR, RO. -/
abbrev GRIDFN_CURV_DUR (n : Nat) : Fld := ⟨0x78500 + 4 * n, 16, 15⟩
/-- Table 12-1: `GRIDFN.CURV` [31] SCALE, RO. -/
abbrev GRIDFN_CURV_SCALE (n : Nat) : Fld := ⟨0x78500 + 4 * n, 31, 1⟩
/-- Table 6-24: `LOOM.WINREG` [31:0] W, RW. -/
abbrev LOOM_WINREG_W (i n : Nat) : Fld := ⟨0x44400 + 0x1000 * i + 4 * n, 0, 32⟩
/-- Table 8-25: `RING.HOP0` [31:0] SERLO, RO. -/
abbrev RING_HOP0_SERLO (i n : Nat) : Fld := ⟨0x58400 + 0x1000 * i + 16 * n, 0, 32⟩
/-- Table 8-25: `RING.HOP1` [31:0] SERHI, RO. -/
abbrev RING_HOP1_SERHI (i n : Nat) : Fld := ⟨0x58404 + 0x1000 * i + 16 * n, 0, 32⟩
/-- Table 8-25: `RING.HOP2` [7:0] CELL, RO. -/
abbrev RING_HOP2_CELL (i n : Nat) : Fld := ⟨0x58408 + 0x1000 * i + 16 * n, 0, 8⟩
/-- Table 8-25: `RING.HOP2` [8] KEYED, RO. -/
abbrev RING_HOP2_KEYED (i n : Nat) : Fld := ⟨0x58408 + 0x1000 * i + 16 * n, 8, 1⟩
/-- Table 8-25: `RING.HOP2` [9] PRES, RO. -/
abbrev RING_HOP2_PRES (i n : Nat) : Fld := ⟨0x58408 + 0x1000 * i + 16 * n, 9, 1⟩
/-- Table 8-25: `RING.HOP2` [31:16] FWD, RO. -/
abbrev RING_HOP2_FWD (i n : Nat) : Fld := ⟨0x58408 + 0x1000 * i + 16 * n, 16, 16⟩
/-- Table 8-25: `RING.HOP3` [15:0] FIB, RO. -/
abbrev RING_HOP3_FIB (i n : Nat) : Fld := ⟨0x5840c + 0x1000 * i + 16 * n, 0, 16⟩
/-- Table 8-25: `RING.HOP3` [23:16] FWV, RO. -/
abbrev RING_HOP3_FWV (i n : Nat) : Fld := ⟨0x5840c + 0x1000 * i + 16 * n, 16, 8⟩
/-- Table 8-25: `RING.HOP3` [31:24] TYPE, RO. -/
abbrev RING_HOP3_TYPE (i n : Nat) : Fld := ⟨0x5840c + 0x1000 * i + 16 * n, 24, 8⟩
/-- Table 11-11: `MPPT.CW0` [15:0] VREF, RO. -/
abbrev MPPT_CW0_VREF (n : Nat) : Fld := ⟨0x76400 + 8 * n, 0, 16⟩
/-- Table 11-11: `MPPT.CW0` [18:16] STATE, RO. -/
abbrev MPPT_CW0_STATE (n : Nat) : Fld := ⟨0x76400 + 8 * n, 16, 3⟩
/-- Table 11-11: `MPPT.CW1` [15:0] PEST, RO. -/
abbrev MPPT_CW1_PEST (n : Nat) : Fld := ⟨0x76404 + 8 * n, 0, 16⟩
/-- Table 11-11: `MPPT.CW1` [31:16] PLIM, RO. -/
abbrev MPPT_CW1_PLIM (n : Nat) : Fld := ⟨0x76404 + 8 * n, 16, 16⟩
/-- Table HOSTIF MSI-X: `HOSTIF.MSIXA` [31:0] LO, RW. -/
abbrev HOSTIF_MSIXA_LO (n : Nat) : Fld := ⟨0x9800 + 16 * n, 0, 32⟩
/-- Table HOSTIF MSI-X: `HOSTIF.MSIXU` [31:0] HI, RW. -/
abbrev HOSTIF_MSIXU_HI (n : Nat) : Fld := ⟨0x9804 + 16 * n, 0, 32⟩
/-- Table HOSTIF MSI-X: `HOSTIF.MSIXD` [31:0] DATA, RW. -/
abbrev HOSTIF_MSIXD_DATA (n : Nat) : Fld := ⟨0x9808 + 16 * n, 0, 32⟩
/-- Table HOSTIF MSI-X: `HOSTIF.MSIXC` [0] MASK, RW. -/
abbrev HOSTIF_MSIXC_MASK (n : Nat) : Fld := ⟨0x980c + 16 * n, 0, 1⟩
/-- Table HOSTIF MSI-X: `HOSTIF.PBA` [31:0] BITS, RO. -/
abbrev HOSTIF_PBA_BITS (n : Nat) : Fld := ⟨0x9c00 + 4 * n, 0, 32⟩
/-- Table 3-21: `JOURNAL.WIN` [31:0] W, RO. -/
abbrev JOURNAL_WIN_W (n : Nat) : Fld := ⟨0x4800 + 4 * n, 0, 32⟩
/-- Table 17: `PORTER.WIN` [31:0] W, RO. -/
abbrev PORTER_WIN_W (n : Nat) : Fld := ⟨0x20800 + 4 * n, 0, 32⟩

end Sys2Proof.Machine
end

