-- ==== Sys2Proof/Machine/RegTable.lean ====
section
/-! DEFINITION. The access table of the register space: for every page type of Table 3-5, the registers its chapter lists, each with
its reset word, its RO, writable and write-only ("reads 0") bits, whether it is staged (RWS), its lock groups and the ranges outside
which a write is refused. Written from the register tables of spec/. -/

namespace Sys2Proof.Machine

/-- Table 3-5: first page, number of instances, type code, page source, `PGEVT` bits in use (the owning chapters). -/
def pageTypes : List PageType :=
  [⟨0, 1, 1, 1, 3⟩,
   ⟨1, 2, 2, 0, 0⟩,
   ⟨3, 1, 3, 8, 0x7f⟩,
   ⟨4, 1, 4, 3, 7⟩,
   ⟨5, 1, 5, 4, 0x1f⟩,
   ⟨6, 1, 6, 128, 7⟩,
   ⟨7, 1, 7, 129, 7⟩,
   ⟨8, 1, 8, 131, 3⟩,
   ⟨9, 1, 9, 2, 0xf⟩,
   ⟨0x10, 1, 0x10, 104, 0x7fff⟩,
   ⟨0x11, 1, 0x11, 105, 0x1ff⟩,
   ⟨0x12, 1, 0x12, 106, 0x1f⟩,
   ⟨0x14, 1, 0x14, 107, 0x1f⟩,
   ⟨0x15, 1, 0x15, 109, 0xf⟩,
   ⟨0x18, 4, 0x18, 120, 0x3f⟩,
   ⟨0x1c, 1, 0x1c, 124, 0x3f⟩,
   ⟨0x1d, 1, 0x1d, 97, 0x1f⟩,
   ⟨0x1e, 1, 0x1e, 94, 0xff⟩,
   ⟨0x1f, 1, 0x1f, 93, 0x1f⟩,
   ⟨0x20, 1, 0x20, 130, 7⟩,
   ⟨0x21, 1, 0x21, 92, 0xff⟩,
   ⟨0x40, 1, 0x40, 5, 0x3f⟩,
   ⟨0x41, 1, 0x41, 16, 0x3ff⟩,
   ⟨0x44, 12, 0x44, 20, 0x1f⟩,
   ⟨0x50, 1, 0x50, 17, 0x7f⟩,
   ⟨0x51, 1, 0x51, 9, 0x7f⟩,
   ⟨0x52, 1, 0x52, 18, 0xf⟩,
   ⟨0x58, 8, 0x58, 48, 0xff⟩,
   ⟨0x60, 1, 0x60, 70, 0x1f⟩,
   ⟨0x61, 1, 0x61, 71, 7⟩,
   ⟨0x62, 1, 0x62, 72, 7⟩,
   ⟨0x68, 8, 0x68, 80, 0x7f⟩,
   ⟨0x70, 1, 0x70, 88, 3⟩,
   ⟨0x71, 1, 0x71, 90, 0x1f⟩,
   ⟨0x72, 1, 0x72, 91, 3⟩,
   ⟨0x74, 1, 0x74, 64, 0x1f⟩,
   ⟨0x75, 1, 0x75, 65, 7⟩,
   ⟨0x76, 1, 0x76, 66, 0xf⟩,
   ⟨0x77, 1, 0x77, 67, 7⟩,
   ⟨0x78, 1, 0x78, 68, 0x7f⟩,
   ⟨0x79, 1, 0x79, 69, 0xf⟩,
   ⟨0x7c, 1, 0x7c, 96, 0xf⟩,
   ⟨0x7d, 1, 0x7d, 99, 7⟩,
   ⟨0x100, 192, 0x100, 144, 7⟩]

/-- The registers of page DEVICE beyond the common header: IDENT, MODE, SELV_REQ, SELV_STAT. -/
def regsDevice : List RegSpec :=
  [⟨0x40, 1, 4, 0xb00192, 0xffffff, 0, 0, false, [], []⟩,
   ⟨0x44, 1, 4, 0, 3, 0, 0, false, [], []⟩,
   ⟨0x48, 1, 4, 0, 0, 1, 1, false, [], []⟩,
   ⟨0x4c, 1, 4, 0, 0xffff0007, 0, 0, false, [], []⟩]

/-- The registers of page INTC_0 beyond the common header: CLAIM, COMPLETE, THRESH, OUTCFG, SRCCFG. -/
def regsIntc0 : List RegSpec :=
  [⟨0x40, 4, 16, 0, 0xff, 0, 0, false, [], []⟩,
   ⟨0x44, 4, 16, 0, 0, 0xff, 0xff, false, [], []⟩,
   ⟨0x48, 4, 16, 0, 0, 7, 0, false, [], []⟩,
   ⟨0x4c, 2, 16, 0, 0, 1, 0, false, [(1, 1)], []⟩,
   ⟨0x6c, 2, 16, 0, 0, 0, 0, false, [], []⟩,
   ⟨0x404, 127, 4, 0, 0x700, 0x3f0073, 0, false, [(0, 0x3f0073)], []⟩,
   ⟨0x600, 2, 4, 0x73, 0x700, 0x3f0073, 0, false, [(15, 0x3f0073)], []⟩,
   ⟨0x608, 126, 4, 0, 0x700, 0x3f0073, 0, false, [(0, 0x3f0073)], []⟩]

/-- The registers of page INTC_1 beyond the common header: PEND, PENDSET, PENDCLR, MASK, MASKSET, MASKCLR, ACTIVE, COUNT. -/
def regsIntc1 : List RegSpec :=
  [⟨0x40, 8, 4, 0, 0, 0xffffffff, 0, false, [], []⟩,
   ⟨0x60, 8, 4, 0, 0, 0xffffffff, 0xffffffff, false, [], []⟩,
   ⟨0x80, 8, 4, 0, 0, 0xffffffff, 0xffffffff, false, [], []⟩,
   ⟨0xa0, 8, 4, 0xffffffff, 0, 0xffffffff, 0, false, [], []⟩,
   ⟨0xc0, 8, 4, 0, 0, 0xffffffff, 0xffffffff, false, [], []⟩,
   ⟨0xe0, 8, 4, 0, 0, 0xffffffff, 0xffffffff, false, [], []⟩,
   ⟨0x100, 8, 4, 0, 0xffffffff, 0, 0, false, [], []⟩,
   ⟨0x404, 255, 4, 0, 0xffffffff, 0, 0, false, [], []⟩]

/-- The registers of page SHUTTLE_H beyond the common header: STAT, CRCERR, EVCNT, DROPCNT, REPLAYCNT, SEQ, TMDLY, CTL. -/
def regsShuttleH : List RegSpec :=
  [⟨0x40, 1, 4, 2, 0xff, 0, 0, false, [], []⟩,
   ⟨0x44, 2, 4, 0, 0xffffffff, 0, 0, false, [], []⟩,
   ⟨0x4c, 1, 4, 0, 0xffffffff, 0, 0, false, [], []⟩,
   ⟨0x50, 1, 4, 0, 0xffffffff, 0, 0, false, [], []⟩,
   ⟨0x54, 1, 4, 0, 0xffffffff, 0, 0, false, [], []⟩,
   ⟨0x58, 1, 4, 0, 0xffffffff, 0, 0, false, [], []⟩,
   ⟨0x5c, 1, 4, 0, 0xffffffff, 0, 0, false, [], []⟩,
   ⟨0x60, 1, 4, 0, 0, 7, 4, false, [(0, 7)], []⟩]

/-- The registers of page JOURNAL beyond the common header: HEAD, TAIL, OVWR, READPTR, CTL, WINBASE, WIN. -/
def regsJournal : List RegSpec :=
  [⟨0x40, 1, 4, 0, 0xffffffff, 0, 0, false, [], []⟩,
   ⟨0x44, 1, 4, 0, 0xffffffff, 0, 0, false, [], []⟩,
   ⟨0x48, 1, 4, 0, 0xffffffff, 0, 0, false, [], []⟩,
   ⟨0x4c, 1, 4, 0, 0, 0xffffffff, 0, false, [], []⟩,
   ⟨0x50, 1, 4, 0x800, 0, 0xfff, 0, false, [], [⟨0, 12, false, 1, 4095⟩]⟩,
   ⟨0x54, 1, 4, 0, 0, 0x1f, 0, false, [], []⟩,
   ⟨0x800, 512, 4, 0, 0xffffffff, 0, 0, false, [], []⟩]

/-- The registers of page TIME beyond the common header: SEC_LO, SEC_HI, FRAC, STAT, RATE, SETSEC_LO, SETSEC_HI, SETCTL, PPSCTL, PPSERR, ATLCTL, PPSCNT, SWARP. -/
def regsTime : List RegSpec :=
  [⟨0x40, 1, 4, 0, 0xffffffff, 0, 0, false, [], []⟩,
   ⟨0x44, 1, 4, 0, 0xff, 0, 0, false, [], []⟩,
   ⟨0x48, 1, 4, 0, 0xffffffff, 0, 0, false, [], []⟩,
   ⟨0x4c, 1, 4, 0, 0x3f, 0, 0, false, [], []⟩,
   ⟨0x50, 1, 4, 0, 0xffffffff, 0, 0, false, [], []⟩,
   ⟨0x54, 1, 4, 0, 0, 0xffffffff, 0, false, [], []⟩,
   ⟨0x58, 1, 4, 0, 0, 0xff, 0, false, [], []⟩,
   ⟨0x5c, 1, 4, 0, 0, 3, 3, false, [], []⟩,
   ⟨0x60, 1, 4, 0x3c00a0, 0, 0xfff0ff3, 0, false, [(0, 0xfff0ff3)], [⟨4, 8, false, 1, 255⟩, ⟨16, 12, false, 1, 4095⟩]⟩,
   ⟨0x64, 1, 4, 0, 0xffffffff, 0, 0, false, [], []⟩,
   ⟨0x68, 1, 4, 2, 0, 3, 1, false, [], []⟩,
   ⟨0x6c, 1, 4, 0, 0xffffffff, 0, 0, false, [], []⟩,
   ⟨0x70, 1, 4, 0, 0xffffffff, 0, 0, false, [], []⟩]

/-- The registers of page SECURITY beyond the common header: STAT, QCTL, FWCTL, FWADDR, FWVER, FWSTBYV, CERTSEL, OWNCERT, NONCE, CERT, QUOTE, FWWIN. -/
def regsSecurity : List RegSpec :=
  [⟨0x40, 1, 4, 0, 0x1ff, 0, 0, false, [], []⟩,
   ⟨0x44, 1, 4, 0, 0, 1, 1, false, [], []⟩,
   ⟨0x48, 1, 4, 0, 0, 0xf, 7, false, [(0, 0xf)], []⟩,
   ⟨0x4c, 1, 4, 0, 0, 0x1ff, 0, false, [(0, 0x1ff)], []⟩,
   ⟨0x50, 1, 4, 0, 0xffffffff, 0, 0, false, [], []⟩,
   ⟨0x54, 1, 4, 0, 0xffffffff, 0, 0, false, [], []⟩,
   ⟨0x58, 1, 4, 0, 0x3ff0000, 3, 0, false, [], []⟩,
   ⟨0x5c, 1, 4, 0, 0, 0xffffffff, 0xffffffff, false, [], []⟩,
   ⟨0x80, 12, 4, 0, 0, 0xffffffff, 0, false, [], []⟩,
   ⟨0x100, 192, 4, 0, 0xffffffff, 0, 0, false, [], []⟩,
   ⟨0x400, 148, 4, 0, 0xffffffff, 0, 0, false, [], []⟩,
   ⟨0x800, 512, 4, 0, 0, 0xffffffff, 0xffffffff, false, [(0, 0xffffffff)], []⟩]

/-- The registers of page LIFECYCLE beyond the common header: STAT, REQ, BURN, CNT, PLLPROF, LCNONCE, OWNKEYH, TOKEN. -/
def regsLifecycle : List RegSpec :=
  [⟨0x40, 1, 4, 0, 0xf3ff, 0, 0, false, [], []⟩,
   ⟨0x44, 1, 4, 0, 0, 0x107, 0x100, false, [(0, 0x107)], []⟩,
   ⟨0x48, 1, 4, 0, 0, 0xffff000f, 0xffff0000, false, [(0, 0xffff000f)], []⟩,
   ⟨0x4c, 1, 4, 0, 0x7f7f7f7f, 0, 0, false, [], []⟩,
   ⟨0x50, 1, 4, 0, 0, 0xffffff, 0, false, [], []⟩,
   ⟨0x80, 8, 4, 0, 0xffffffff, 0, 0, false, [], []⟩,
   ⟨0xa0, 12, 4, 0, 0, 0xffffffff, 0, false, [], []⟩,
   ⟨0x100, 112, 4, 0, 0, 0xffffffff, 0, false, [], []⟩]

/-- The registers of page WICKET beyond the common header: STAT, CTL, CNT. -/
def regsWicket : List RegSpec :=
  [⟨0x40, 1, 4, 0, 0x3f, 0, 0, false, [], []⟩,
   ⟨0x44, 1, 4, 0, 0, 3, 1, false, [(0, 3)], []⟩,
   ⟨0x48, 1, 4, 0, 0xffffffff, 0, 0, false, [], []⟩]

/-- The registers of page HOSTIF beyond the common header: STAT, HWDCTL, HWDKICK, HWDSTAT, BULKCTL, BULKSTAT, SPISTAT, STAGEQ, MSIXA, MSIXU, MSIXD, MSIXC, PBA. -/
def regsHostif : List RegSpec :=
  [⟨0x40, 1, 4, 0, 0x3f, 0, 0, false, [], []⟩,
   ⟨0x44, 1, 4, 0x280643, 0, 0xfffff7, 0, false, [(0, 0xfffff7)], [⟨1, 2, false, 0, 2⟩, ⟨4, 13, false, 1, 6000⟩, ⟨17, 7, false, 1, 100⟩]⟩,
   ⟨0x48, 1, 4, 0, 0, 0xffffffff, 0xffffffff, false, [], []⟩,
   ⟨0x4c, 1, 4, 0, 0xffff0003, 0, 0, false, [], []⟩,
   ⟨0x50, 1, 4, 0, 0, 0xffff3f03, 0, false, [], [⟨0, 2, false, 0, 2⟩]⟩,
   ⟨0x54, 1, 4, 0, 0xffffffff, 0, 0, false, [], []⟩,
   ⟨0x58, 1, 4, 0, 0xffffffff, 0, 0, false, [], []⟩,
   ⟨0x5c, 1, 4, 0, 0xffff007f, 0, 0, false, [], []⟩,
   ⟨0x800, 64, 16, 0, 0, 0xffffffff, 0, false, [], []⟩,
   ⟨0x804, 64, 16, 0, 0, 0xffffffff, 0, false, [], []⟩,
   ⟨0x808, 64, 16, 0, 0, 0xffffffff, 0, false, [], []⟩,
   ⟨0x80c, 64, 16, 1, 0, 1, 0, false, [], []⟩,
   ⟨0xc00, 2, 4, 0, 0xffffffff, 0, 0, false, [], []⟩]

/-- The registers of page PANEL_TOUCH beyond the common header: CFG, TRACK, STAT, CNT, KCFG, KDAT. -/
def regsPanelTouch : List RegSpec :=
  [⟨0x40, 1, 4, 0x3c0331, 0, 0xfff0ff1, 0, false, [(0, 0xfff0ff1)], [⟨4, 4, false, 1, 12⟩, ⟨8, 4, false, 1, 15⟩, ⟨16, 12, false, 1, 3600⟩]⟩,
   ⟨0x44, 1, 4, 0x532, 0, 0xffff, 0, false, [(0, 0xffff)], [⟨0, 8, false, 1, 255⟩, ⟨8, 8, false, 1, 255⟩]⟩,
   ⟨0x48, 1, 4, 0, 0x3ffffff, 0, 0, false, [], []⟩,
   ⟨0x4c, 1, 4, 0, 0xffffffff, 0, 0, false, [], []⟩,
   ⟨0x80, 12, 8, 0xa80640c8, 0, 0xffffffff, 0, false, [(1, 0xffffffff)], [⟨0, 12, false, 1, 4095⟩, ⟨12, 12, false, 1, 4095⟩]⟩,
   ⟨0x84, 12, 8, 0, 0xffffffff, 0, 0, false, [], []⟩]

/-- The registers of page PANEL_IO beyond the common header: BTNCFG, BTNSTAT, LED. -/
def regsPanelIo : List RegSpec :=
  [⟨0x40, 1, 4, 0xf14, 0, 0xfff, 0, false, [(0, 0xfff)], [⟨0, 8, false, 1, 255⟩]⟩,
   ⟨0x44, 1, 4, 0, 0xf, 0, 0, false, [], []⟩,
   ⟨0x80, 16, 4, 0x117fc, 0x80000000, 0x1fffff, 0, false, [], [⟨0, 2, false, 0, 2⟩, ⟨10, 5, false, 0, 20⟩, ⟨15, 3, false, 0, 4⟩, ⟨18, 3, false, 0, 5⟩]⟩]

/-- The registers of page SERVICE beyond the common header: STAT, CTL, CNT, SESS. -/
def regsService : List RegSpec :=
  [⟨0x40, 1, 4, 0, 0x1ff, 0, 0, false, [], []⟩,
   ⟨0x44, 1, 4, 0x1e01, 0, 0xff03, 2, false, [(0, 0xff03)], [⟨8, 8, false, 1, 255⟩]⟩,
   ⟨0x48, 1, 4, 0, 0xffffffff, 0, 0, false, [], []⟩,
   ⟨0x4c, 1, 4, 0, 0xffff0007, 0, 0, false, [], []⟩]

/-- The registers of page SAFETY beyond the common header: STAT, CFG, DISC, CTL, RESET, FAULT, DEMW, DEMCNT, TESTCNT. -/
def regsSafety : List RegSpec :=
  [⟨0x40, 1, 4, 0x3ff0, 0xffffff, 0, 0, false, [], []⟩,
   ⟨0x44, 1, 4, 0x141901, 0x7fffff, 0, 0, false, [], []⟩,
   ⟨0x48, 1, 4, 0xa, 0x1ff, 0, 0, false, [], []⟩,
   ⟨0x4c, 4, 4, 0, 0x1ff, 0, 0, false, [], []⟩,
   ⟨0x60, 1, 4, 0, 0, 1, 1, false, [], []⟩,
   ⟨0x64, 1, 4, 0, 0, 0xffffffff, 0xffffffff, false, [], []⟩,
   ⟨0x68, 1, 4, 0, 0xffff007f, 0, 0, false, [], []⟩,
   ⟨0x6c, 1, 4, 0, 0xffffffff, 0, 0, false, [], []⟩,
   ⟨0x70, 1, 4, 0, 0xffffffff, 0, 0, false, [], []⟩,
   ⟨0x74, 1, 4, 0, 0xffffffff, 0, 0, false, [], []⟩]

/-- The registers of page SEAL beyond the common header: STAT, REC, CTL, CNT, MISW. -/
def regsSeal : List RegSpec :=
  [⟨0x40, 1, 4, 0, 0x7ff, 0, 0, false, [], []⟩,
   ⟨0x44, 1, 4, 0, 0xfffff, 0, 0, false, [], []⟩,
   ⟨0x48, 1, 4, 0, 0, 1, 1, false, [], []⟩,
   ⟨0x4c, 1, 4, 0, 0xffffffff, 0, 0, false, [], []⟩,
   ⟨0x50, 1, 4, 0, 0xffffffff, 0, 0, false, [], []⟩]

/-- The registers of page LOUVRE beyond the common header: CFG, CFG2, START, SPIN, CTL, CURVSRC, CURVTON, CURVE, STAT, DUTY, CURR_AB, CURR_C, FAULT, CNT, RUNSEC. -/
def regsLouvre : List RegSpec :=
  [⟨0x40, 1, 4, 0x1419400, 0, 0x7fffff1f, 0, false, [(0, 0x7fffff1f)], [⟨2, 3, false, 0, 5⟩, ⟨8, 4, false, 1, 12⟩, ⟨12, 8, false, 8, 50⟩, ⟨20, 11, false, 5, 200⟩]⟩,
   ⟨0x44, 1, 4, 0x16432, 0, 0x3ffff, 0, false, [(0, 0x3ffff)], [⟨0, 8, false, 30, 255⟩, ⟨8, 8, false, 50, 200⟩]⟩,
   ⟨0x48, 1, 4, 0x1e0a1428, 0, 0xffffffff, 0, false, [(0, 0xffffffff)], [⟨0, 8, false, 1, 120⟩, ⟨8, 8, false, 1, 255⟩, ⟨16, 8, false, 1, 255⟩, ⟨24, 8, false, 5, 255⟩]⟩,
   ⟨0x4c, 1, 4, 0x3e80505, 0, 0xffffffff, 0, false, [(0, 0xffffffff)], [⟨0, 8, false, 2, 100⟩, ⟨8, 8, false, 2, 100⟩, ⟨16, 16, false, 1, 65535⟩]⟩,
   ⟨0x50, 1, 4, 0, 0, 0xffff000f, 8, false, [], []⟩,
   ⟨0x54, 1, 4, 0x50214, 0, 0xff1fff, 0, false, [(1, 0xff1fff)], [⟨8, 5, false, 2, 16⟩, ⟨16, 8, false, 1, 20⟩]⟩,
   ⟨0x58, 1, 4, 0x140, 0, 0xffff, 0, false, [(1, 0xffff)], []⟩,
   ⟨0x80, 16, 4, 0, 0, 0xffffffff, 0, false, [(1, 0xffffffff)], []⟩,
   ⟨0x60, 1, 4, 0, 0xffff03ff, 0, 0, false, [], []⟩,
   ⟨0x64, 1, 4, 0, 0xffffffff, 0, 0, false, [], []⟩,
   ⟨0x68, 1, 4, 0, 0xffffffff, 0, 0, false, [], []⟩,
   ⟨0x6c, 1, 4, 0, 0xffff, 0, 0, false, [], []⟩,
   ⟨0x70, 1, 4, 3, 0xffff003f, 0, 0, false, [], []⟩,
   ⟨0x74, 1, 4, 0, 0xffffffff, 0, 0, false, [], []⟩,
   ⟨0x78, 1, 4, 0, 0xffffffff, 0, 0, false, [], []⟩]

/-- The registers of page AUXSUP beyond the common header: CFG, VREG, LOOP, PROT, CTL, STAT, VC, CNT, FAULTW. -/
def regsAuxsup : List RegSpec :=
  [⟨0x40, 1, 4, 0x320f96c8, 0, 0xffffffff, 0, false, [(0, 0xffffffff)], [⟨0, 9, false, 100, 500⟩, ⟨9, 7, false, 20, 85⟩, ⟨16, 8, false, 5, 50⟩, ⟨24, 8, false, 10, 255⟩]⟩,
   ⟨0x44, 1, 4, 0x960d55, 0, 0xff0fff, 0, false, [(0, 0xff0fff)], [⟨16, 8, false, 30, 255⟩]⟩,
   ⟨0x48, 1, 4, 0x19a0810, 0, 0x3ffffff, 0, false, [(0, 0x3ffffff)], []⟩,
   ⟨0x4c, 1, 4, 0x4005573, 0, 0xfffffff, 0, false, [(0, 0xfffffff)], [⟨0, 8, false, 105, 130⟩, ⟨8, 8, false, 70, 95⟩]⟩,
   ⟨0x50, 1, 4, 0, 0, 3, 2, false, [], []⟩,
   ⟨0x54, 1, 4, 0, 0xfff001f, 0, 0, false, [], []⟩,
   ⟨0x58, 1, 4, 0, 0x3ff03ff, 0, 0, false, [], []⟩,
   ⟨0x5c, 1, 4, 0, 0xffffffff, 0, 0, false, [], []⟩,
   ⟨0x60, 1, 4, 0, 0xffffffff, 0, 0, false, [], []⟩]

/-- The registers of page HTHERM beyond the common header: STAT, HDIE, DDIE, SENS, THR, CLKDIV, FCOPY, NTCCFG, NTCR25, NTCB, NTCT, FSENS. -/
def regsHtherm : List RegSpec :=
  [⟨0x40, 1, 4, 0x1c0, 0x1ff, 0, 0, false, [], []⟩,
   ⟨0x44, 1, 4, 0, 0xffffffff, 0, 0, false, [], []⟩,
   ⟨0x48, 1, 4, 0, 0xffffffff, 0, 0, false, [], []⟩,
   ⟨0x50, 6, 4, 0, 0xff01ffff, 0, 0, false, [], []⟩,
   ⟨0x68, 1, 4, 0x57d7369, 0, 0xfffffff, 0, false, [(0, 0xfffffff)], [⟨24, 4, false, 2, 10⟩]⟩,
   ⟨0x6c, 1, 4, 1, 0, 3, 0, false, [(0, 3)], [⟨0, 2, false, 1, 3⟩]⟩,
   ⟨0x70, 1, 4, 0xff000000, 0xffffffff, 0, 0, false, [], []⟩,
   ⟨0x80, 4, 16, 0x3e84600, 0, 0xffffff07, 0, false, [(1, 0xffffff07)], [⟨8, 8, false, 0, 150⟩, ⟨16, 16, false, 100, 65535⟩]⟩,
   ⟨0x84, 4, 16, 0x2710, 0, 0xffffffff, 0, false, [(1, 0xffffffff)], [⟨0, 32, false, 100, 1000000⟩]⟩,
   ⟨0x88, 4, 16, 0xd6b, 0, 0xffff, 0, false, [(1, 0xffff)], [⟨0, 16, false, 1000, 10000⟩]⟩,
   ⟨0x8c, 4, 16, 0x30000, 0x3ffff, 0, 0, false, [], []⟩,
   ⟨0xc0, 9, 4, 0x10000, 0x1ffff, 0, 0, false, [], []⟩]

/-- The registers of page HCMP beyond the common header: CFG, SLOPE, STAT, TRIPCNT. -/
def regsHcmp : List RegSpec :=
  [⟨0x40, 8, 4, 0x23ff, 0, 0x7fff, 0, false, [(0, 0x7fff)], []⟩,
   ⟨0x80, 1, 4, 0, 0, 0xfff, 0, false, [(0, 0xfff)], []⟩,
   ⟨0xc0, 1, 4, 0, 0xff, 0, 0, false, [], []⟩,
   ⟨0xe0, 8, 4, 0, 0xffffffff, 0, 0, false, [], []⟩]

/-- The registers of page HADC beyond the common header: SCANCFG, STAT, WIN, RES. -/
def regsHadc : List RegSpec :=
  [⟨0x40, 1, 4, 0x6400f0, 0, 0xffffff, 0, false, [(0, 0xffffff)], [⟨16, 8, false, 10, 255⟩]⟩,
   ⟨0x44, 1, 4, 0, 0xffffffff, 0, 0, false, [], []⟩,
   ⟨0x48, 4, 4, 0xfff000, 0, 0x1fffffff, 0, false, [(1, 0x1fffffff)], []⟩,
   ⟨0x80, 16, 4, 0, 0xffff1fff, 0, 0, false, [], []⟩]

/-- The registers of page PORTER beyond the common header: STAT, VMEAS, CTL, RTCTRIM, RJHEAD, RJTAIL, RJOVWR, RJREAD, WINBASE, WIN. -/
def regsPorter : List RegSpec :=
  [⟨0x40, 1, 4, 0, 0xffff001f, 0, 0, false, [], []⟩,
   ⟨0x44, 1, 4, 0, 0xfff0fff, 0, 0, false, [], []⟩,
   ⟨0x48, 1, 4, 0, 0, 0x1f, 0, false, [(0, 0x1f)], []⟩,
   ⟨0x4c, 1, 4, 0, 0, 0x1fff, 0, false, [(0, 0x1fff)], [⟨0, 13, true, -4000, 4000⟩]⟩,
   ⟨0x50, 1, 4, 0, 0xffffffff, 0, 0, false, [], []⟩,
   ⟨0x54, 1, 4, 0, 0xffffffff, 0, 0, false, [], []⟩,
   ⟨0x58, 1, 4, 0, 0xffffffff, 0, 0, false, [], []⟩,
   ⟨0x5c, 1, 4, 0, 0, 0xffffffff, 0, false, [], []⟩,
   ⟨0x60, 1, 4, 0, 0, 3, 0, false, [], []⟩,
   ⟨0x800, 512, 4, 0, 0xffffffff, 0, 0, false, [], []⟩]

/-- The registers of page S0 beyond the common header: CFG, WGT, CNTLO, CNTHI, XDEV, XS0, XSTAT, BAD, XCFG. -/
def regsS0 : List RegSpec :=
  [⟨0x40, 4, 16, 0x32141400, 0, 0xffffff1f, 0, false, [(0, 0xffffff1f)], [⟨8, 8, false, 2, 255⟩, ⟨16, 8, false, 2, 255⟩, ⟨24, 8, false, 1, 255⟩]⟩,
   ⟨0x44, 4, 16, 0x6403e8, 0, 0xffffffff, 0, false, [(0, 0xffffffff)], [⟨0, 16, false, 1, 65535⟩, ⟨16, 16, false, 1, 65535⟩]⟩,
   ⟨0x48, 4, 16, 0, 0xffffffff, 0, 0, false, [], []⟩,
   ⟨0x4c, 4, 16, 0, 0xffffffff, 0, 0, false, [], []⟩,
   ⟨0x80, 4, 16, 0, 0xffffffff, 0, 0, false, [], []⟩,
   ⟨0x84, 4, 16, 0, 0xffffffff, 0, 0, false, [], []⟩,
   ⟨0x88, 4, 16, 0, 0xffff0003, 0, 0, false, [], []⟩,
   ⟨0x8c, 4, 16, 0, 0xffffffff, 0, 0, false, [], []⟩,
   ⟨0xc0, 1, 4, 0xa, 0, 0x7f, 0, false, [(0, 0x7f)], [⟨0, 7, false, 1, 100⟩]⟩]

/-- The registers of page WARP beyond the common header: NOW_LO, NOW_HI, INC, FM, DELTA, STAT, STEER, TRACK, FNOM, ATL_SLO, ATL_SHI, ATL_SEC, ATL_FRAC, ATL_INFO. -/
def regsWarp : List RegSpec :=
  [⟨0x40, 1, 4, 0, 0xffffffff, 0, 0, false, [], []⟩,
   ⟨0x44, 1, 4, 0, 0xffffffff, 0, 0, false, [], []⟩,
   ⟨0x48, 1, 4, 0, 0xffffffff, 0, 0, false, [], []⟩,
   ⟨0x4c, 1, 4, 0, 0xffffffff, 0, 0, false, [], []⟩,
   ⟨0x50, 1, 4, 0, 0xffffffff, 0, 0, false, [], []⟩,
   ⟨0x54, 1, 4, 0, 0xffff003f, 0, 0, false, [], []⟩,
   ⟨0x58, 1, 4, 0xa0a5032, 0, 0xff7fffff, 0, true, [], [⟨0, 10, false, 1, 1000⟩, ⟨10, 5, false, 1, 20⟩, ⟨16, 7, false, 1, 100⟩, ⟨24, 8, false, 1, 255⟩]⟩,
   ⟨0x5c, 1, 4, 0x5140a, 0, 0x11fff3f, 0, true, [], [⟨0, 6, false, 5, 50⟩, ⟨8, 8, false, 5, 200⟩, ⟨16, 5, false, 1, 30⟩]⟩,
   ⟨0x60, 1, 4, 0, 1, 0, 0, false, [], []⟩,
   ⟨0x64, 1, 4, 0, 0xffffffff, 0, 0, false, [], []⟩,
   ⟨0x68, 1, 4, 0, 0xffffffff, 0, 0, false, [], []⟩,
   ⟨0x6c, 1, 4, 0, 0xffffffff, 0, 0, false, [], []⟩,
   ⟨0x70, 1, 4, 0, 0xffffffff, 0, 0, false, [], []⟩,
   ⟨0x74, 1, 4, 0, 0xffff03ff, 0, 0, false, [], []⟩]

/-- The registers of page WEAVE beyond the common header: STAT, BANK, RXB, ID_LO, ID_HI, CTL, SWCTL, SWCYC_LO, SWCYC_HI, SWSTAT, LASTSW_LO, LASTSW_HI, VIOL, VIOLW, VIOLCNT, PERR, PSEQ, BGSTAT, HASH0, HASH1, FBHASH. -/
def regsWeave : List RegSpec :=
  [⟨0x40, 1, 4, 0, 0xff1f, 0, 0, false, [], []⟩,
   ⟨0x44, 2, 4, 0, 0xffffff3f, 0, 0, false, [], []⟩,
   ⟨0x4c, 2, 4, 0, 0x7fffff, 0, 0, false, [], []⟩,
   ⟨0x54, 2, 8, 0, 0xffffffff, 0, 0, false, [], []⟩,
   ⟨0x58, 2, 8, 0, 0xffffffff, 0, 0, false, [], []⟩,
   ⟨0x64, 1, 4, 0, 0, 7, 5, false, [], []⟩,
   ⟨0x68, 1, 4, 0, 0, 0x1f, 9, false, [], []⟩,
   ⟨0x6c, 1, 4, 0, 0, 0xffffffff, 0, false, [], []⟩,
   ⟨0x70, 1, 4, 0, 0, 0xff, 0, false, [], []⟩,
   ⟨0x74, 1, 4, 0, 0xffff, 0, 0, false, [], []⟩,
   ⟨0x78, 1, 4, 0, 0xffffffff, 0, 0, false, [], []⟩,
   ⟨0x7c, 1, 4, 0, 0xffffffff, 0, 0, false, [], []⟩,
   ⟨0x80, 1, 4, 0, 0x1fffff, 0, 0, false, [], []⟩,
   ⟨0x84, 1, 4, 0, 0xffffffff, 0, 0, false, [], []⟩,
   ⟨0x88, 1, 4, 0, 0xffffffff, 0, 0, false, [], []⟩,
   ⟨0x8c, 1, 4, 0, 0xffffffff, 0, 0, false, [], []⟩,
   ⟨0x90, 1, 4, 0, 0xffffffff, 0, 0, false, [], []⟩,
   ⟨0x94, 1, 4, 0, 0x3fffff, 0, 0, false, [], []⟩,
   ⟨0x100, 12, 4, 0, 0xffffffff, 0, 0, false, [], []⟩,
   ⟨0x140, 12, 4, 0, 0xffffffff, 0, 0, false, [], []⟩,
   ⟨0x180, 12, 4, 0, 0xffffffff, 0, 0, false, [], []⟩]

/-- The registers of page LOOM beyond the common header: STAT, STOP, STOPPC, STOPCTX, STOPBT, STOPW, STOPLC, LP_CNT, LP_RNG, FLAGS, FCAP_PC, FCAP_X, FLAGEN, ECCCNT_I, ECCCNT_D, ECCCNT_A, ECCCNT_X, ECCLAST, STEPCTL, STEPPC, STEPSTAT, STEPREC0, STEPREC1, WINREG. -/
def regsLoom : List RegSpec :=
  [⟨0x40, 1, 4, 0, 0x1f3f3f, 0, 0, false, [], []⟩,
   ⟨0x44, 1, 4, 0, 0xffff1fff, 0, 0, false, [], []⟩,
   ⟨0x48, 1, 4, 0, 0x7fff3fff, 0, 0, false, [], []⟩,
   ⟨0x4c, 1, 4, 0, 0x7fffffff, 0, 0, false, [], []⟩,
   ⟨0x50, 1, 4, 0, 0x3fff, 0, 0, false, [], []⟩,
   ⟨0x54, 1, 4, 0, 0xffffffff, 0, 0, false, [], []⟩,
   ⟨0x58, 1, 4, 0, 0x7ff1fff, 0, 0, false, [], []⟩,
   ⟨0x5c, 3, 8, 0, 0xffffffff, 0, 0, false, [], []⟩,
   ⟨0x60, 3, 8, 0, 0x9fff1fff, 0, 0, false, [], []⟩,
   ⟨0x80, 1, 4, 0, 0x1ff01ff, 0, 0, false, [], []⟩,
   ⟨0x84, 2, 8, 0, 0x801fffff, 0, 0, false, [], []⟩,
   ⟨0x88, 2, 8, 0, 0xffff0fff, 0, 0, false, [], []⟩,
   ⟨0x94, 1, 4, 0, 0, 0x1ff01ff, 0, false, [], []⟩,
   ⟨0xa0, 1, 4, 0, 0xffffffff, 0, 0, false, [], []⟩,
   ⟨0xa4, 1, 4, 0, 0xffffffff, 0, 0, false, [], []⟩,
   ⟨0xa8, 1, 4, 0, 0xffffffff, 0, 0, false, [], []⟩,
   ⟨0xb0, 1, 4, 0, 0xffffffff, 0, 0, false, [], []⟩,
   ⟨0xac, 1, 4, 0, 0x3fffff, 0, 0, false, [], []⟩,
   ⟨0xc0, 1, 4, 0, 0, 0x1fff, 0x1fff, false, [(0, 0x1fff)], []⟩,
   ⟨0xc4, 1, 4, 0, 0, 0x3fff, 0x3fff, false, [(0, 0x3fff)], []⟩,
   ⟨0xc8, 1, 4, 0, 0xffffffff, 0, 0, false, [], []⟩,
   ⟨0xcc, 1, 4, 0, 0xffffffff, 0, 0, false, [], []⟩,
   ⟨0xd0, 1, 4, 0, 0xffffffff, 0, 0, false, [], []⟩,
   ⟨0x400, 80, 4, 0, 0, 0xffffffff, 0xffffffff, false, [], []⟩]

/-- The registers of page REED beyond the common header: CTL, ENGCTL, LASTMIS, LASTMISW, CLST, MINCNT, REPCNT, ENGST, HALFCNT. -/
def regsReed : List RegSpec :=
  [⟨0x40, 1, 4, 7, 0, 0x1f, 0, false, [(0, 0x1f)], [⟨1, 4, false, 1, 8⟩]⟩,
   ⟨0x44, 1, 4, 0, 0, 0xff, 0, false, [], []⟩,
   ⟨0x48, 1, 4, 0, 0x1fffff, 0, 0, false, [], []⟩,
   ⟨0x4c, 1, 4, 0, 0xffffffff, 0, 0, false, [], []⟩,
   ⟨0x50, 4, 4, 0xc0, 0xffff3fff, 0, 0, false, [], []⟩,
   ⟨0x60, 4, 4, 0, 0xffffffff, 0, 0, false, [], []⟩,
   ⟨0x70, 4, 4, 0, 0xffffffff, 0, 0, false, [], []⟩,
   ⟨0x80, 12, 4, 0, 0xffffffff, 0, 0, false, [], []⟩,
   ⟨0xb0, 1, 4, 0, 0xffffffff, 0, 0, false, [], []⟩]

/-- The registers of page SHUTTLE_F beyond the common header: STAT, CRCERR, REPLAYCNT, SHUTCTL, SHUTW, SHUTCNT, BACKLOG. -/
def regsShuttleF : List RegSpec :=
  [⟨0x40, 1, 4, 8, 0xff, 0, 0, false, [], []⟩,
   ⟨0x44, 2, 4, 0, 0xffffffff, 0, 0, false, [], []⟩,
   ⟨0x4c, 1, 4, 0, 0xffffffff, 0, 0, false, [], []⟩,
   ⟨0x50, 1, 4, 0, 0, 3, 3, false, [], []⟩,
   ⟨0x54, 1, 4, 0, 0xffffffff, 0, 0, false, [], []⟩,
   ⟨0x58, 1, 4, 0, 0xffffffff, 0, 0, false, [], []⟩,
   ⟨0x5c, 1, 4, 0, 0xffff07ff, 0, 0, false, [], []⟩]

/-- The registers of page WARDEN beyond the common header: STAT, IRQIN, FWVER, FWSTBYV, FWCTL, AUDIT, IRQLOST. -/
def regsWarden : List RegSpec :=
  [⟨0x40, 1, 4, 0, 0xffff1f0f, 0, 0, false, [], []⟩,
   ⟨0x44, 1, 4, 0, 0xff, 0, 0, false, [], []⟩,
   ⟨0x48, 1, 4, 0, 0xffffffff, 0, 0, false, [], []⟩,
   ⟨0x4c, 1, 4, 0, 0xffffffff, 0, 0, false, [], []⟩,
   ⟨0x50, 1, 4, 0, 0, 7, 7, false, [], []⟩,
   ⟨0x54, 1, 4, 0, 0xffffffff, 0, 0, false, [], []⟩,
   ⟨0x58, 1, 4, 0, 0xffffffff, 0, 0, false, [], []⟩]

/-- The registers of page RING beyond the common header: STAT, OWN_LO, OWN_HI, PRES_LO, PRES_HI, FECCOR, FECUNC, AUTHERR, AGED, TOKCNT, LOOP, FAILCNT, CTL, ENUMSTAT, LASTW, TWSTAT, TWCNT, TWLASTW, TWCTL, HOP0, HOP1, HOP2, HOP3. -/
def regsRing : List RegSpec :=
  [⟨0x40, 1, 4, 0, 0x7f7f7f7f, 0, 0, false, [], []⟩,
   ⟨0x44, 1, 4, 0, 0xffffffff, 0, 0, false, [], []⟩,
   ⟨0x48, 1, 4, 0, 0xffffffff, 0, 0, false, [], []⟩,
   ⟨0x4c, 1, 4, 0, 0xffffffff, 0, 0, false, [], []⟩,
   ⟨0x50, 1, 4, 0, 0xffffffff, 0, 0, false, [], []⟩,
   ⟨0x54, 1, 4, 0, 0xffffffff, 0, 0, false, [], []⟩,
   ⟨0x58, 1, 4, 0, 0xffffffff, 0, 0, false, [], []⟩,
   ⟨0x5c, 1, 4, 0, 0xffffffff, 0, 0, false, [], []⟩,
   ⟨0x60, 1, 4, 0, 0xffffffff, 0, 0, false, [], []⟩,
   ⟨0x68, 1, 4, 0, 0xffffffff, 0, 0, false, [], []⟩,
   ⟨0x64, 1, 4, 0, 0xffffffff, 0, 0, false, [], []⟩,
   ⟨0x6c, 1, 4, 0, 0xffffffff, 0, 0, false, [], []⟩,
   ⟨0x70, 1, 4, 0, 0, 3, 1, false, [(0, 3)], []⟩,
   ⟨0x74, 1, 4, 0, 0xffff01ff, 0, 0, false, [], []⟩,
   ⟨0x78, 1, 4, 0, 0xffffffff, 0, 0, false, [], []⟩,
   ⟨0x80, 1, 4, 0, 0xff7f, 0, 0, false, [], []⟩,
   ⟨0x84, 1, 4, 0, 0xffffffff, 0, 0, false, [], []⟩,
   ⟨0x88, 1, 4, 0, 0xffffffff, 0, 0, false, [], []⟩,
   ⟨0x8c, 1, 4, 0, 0, 3, 1, false, [(1, 3)], []⟩,
   ⟨0x400, 64, 16, 0, 0xffffffff, 0, 0, false, [], []⟩,
   ⟨0x404, 64, 16, 0, 0xffffffff, 0, 0, false, [], []⟩,
   ⟨0x408, 64, 16, 0xff, 0xffff03ff, 0, 0, false, [], []⟩,
   ⟨0x40c, 64, 16, 0, 0xffffffff, 0, 0, false, [], []⟩]

/-- The registers of page EDGE beyond the common header: CARRIER, PULSE, STAT, COUNT, DTTH, TMINTH, XDROP, XEXT, XCARRY, XDISC, RECERR, SATCNT. -/
def regsEdge : List RegSpec :=
  [⟨0x40, 1, 4, 0, 0, 0x3ff, 0, true, [], [⟨0, 9, false, 16, 256⟩]⟩,
   ⟨0x44, 1, 4, 0, 0, 0x37f01ff, 0, true, [], [⟨0, 9, false, 20, 500⟩, ⟨16, 7, false, 5, 100⟩, ⟨24, 2, false, 0, 2⟩]⟩,
   ⟨0x48, 1, 4, 0, 0xfffff, 0, 0, false, [], []⟩,
   ⟨0x4c, 1, 4, 0, 0x7f7f7f, 0, 0, false, [], []⟩,
   ⟨0x50, 1, 4, 0, 0xffff, 0, 0, false, [], []⟩,
   ⟨0x54, 1, 4, 0, 0xfffff, 0, 0, false, [], []⟩,
   ⟨0x58, 1, 4, 0, 0xffffffff, 0, 0, false, [], []⟩,
   ⟨0x5c, 1, 4, 0, 0xffffffff, 0, 0, false, [], []⟩,
   ⟨0x60, 1, 4, 0, 0xffffffff, 0, 0, false, [], []⟩,
   ⟨0x64, 1, 4, 0, 0xffffffff, 0, 0, false, [], []⟩,
   ⟨0x68, 1, 4, 0, 0xffff3fff, 0, 0, false, [], []⟩,
   ⟨0x6c, 1, 4, 0, 0xffffffff, 0, 0, false, [], []⟩]

/-- The registers of page BLANK beyond the common header: TMR, MASK, STAT, OPENCNT, LATE, DEFCNT. -/
def regsBlank : List RegSpec :=
  [⟨0x40, 8, 8, 0x64, 0, 0x1ffff, 0, false, [(0, 0x1ffff)], [⟨0, 17, false, 5, 100000⟩]⟩,
   ⟨0x44, 8, 8, 0, 0, 0xffff, 0, false, [(0, 0xffff)], []⟩,
   ⟨0x80, 1, 4, 0, 0xffffffff, 0, 0, false, [], []⟩,
   ⟨0x84, 1, 4, 0, 0xffffffff, 0, 0, false, [], []⟩,
   ⟨0x88, 1, 4, 0, 0xffffffff, 0, 0, false, [], []⟩,
   ⟨0x8c, 1, 4, 0, 0xffffffff, 0, 0, false, [], []⟩]

/-- The registers of page SYNC beyond the common header: CTL, STAT, SKEW, INCNT, OUTCNT. -/
def regsSync : List RegSpec :=
  [⟨0x40, 1, 4, 0, 0, 0xff0f, 0, false, [(0, 0xff0f)], []⟩,
   ⟨0x44, 1, 4, 0, 0xff0f, 0, 0, false, [], []⟩,
   ⟨0x48, 1, 4, 0, 0xffffffff, 0, 0, false, [], []⟩,
   ⟨0x4c, 1, 4, 0, 0xffffffff, 0, 0, false, [], []⟩,
   ⟨0x50, 1, 4, 0, 0xffffffff, 0, 0, false, [], []⟩]

/-- The registers of page ADC beyond the common header: STAT, CAL, WIN, WINST, URGCNT, DLYCNT. -/
def regsAdc : List RegSpec :=
  [⟨0x40, 1, 4, 0, 0xf, 0, 0, false, [], []⟩,
   ⟨0x44, 1, 4, 0, 0xffffffff, 0, 0, false, [], []⟩,
   ⟨0x48, 4, 4, 0x7fff8000, 0, 0xffffffff, 0, false, [(0, 0xffffffff)], []⟩,
   ⟨0x58, 1, 4, 0, 0xffff000f, 0, 0, false, [], []⟩,
   ⟨0x5c, 1, 4, 0, 0xffffffff, 0, 0, false, [], []⟩,
   ⟨0x60, 1, 4, 0, 0x1fffff, 0, 0, false, [], []⟩]

/-- The registers of page FCMP beyond the common header: CFG, THR, RAMP, STAT, TRIPCLR, SCSTAT, SCCTL, TRIPW, TRIPVAL, SKIPCNT, TRIPCNT. -/
def regsFcmp : List RegSpec :=
  [⟨0x40, 16, 16, 0xa00000, 0, 0x3fffffff, 0, false, [(0, 0x3fffffff)], [⟨9, 2, false, 0, 2⟩, ⟨20, 10, false, 1, 1000⟩]⟩,
   ⟨0x44, 16, 16, 0x3ff, 0, 0x3ff, 0, true, [], []⟩,
   ⟨0x48, 16, 16, 0, 0, 0x3fff03ff, 0, true, [], []⟩,
   ⟨0x140, 1, 4, 0, 0xffffffff, 0, 0, false, [], []⟩,
   ⟨0x144, 1, 4, 0, 0, 0xffff, 0xffff, false, [], []⟩,
   ⟨0x148, 1, 4, 0, 0xffffffff, 0, 0, false, [], []⟩,
   ⟨0x14c, 1, 4, 0x203c, 0, 0x3fff, 0x1000, false, [(1, 0x3fff)], [⟨0, 12, false, 1, 3600⟩]⟩,
   ⟨0x150, 1, 4, 0, 0xffffffff, 0, 0, false, [], []⟩,
   ⟨0x154, 1, 4, 0, 0x1ffffff, 0, 0, false, [], []⟩,
   ⟨0x158, 1, 4, 0, 0xffffffff, 0, 0, false, [], []⟩,
   ⟨0x180, 16, 4, 0, 0xffffffff, 0, 0, false, [], []⟩]

/-- The registers of page METER beyond the common header: STAT, CHKCFG, CHKCTL, FREQ10, INCFG, SCALE, E, SETW. -/
def regsMeter : List RegSpec :=
  [⟨0x40, 1, 4, 0, 0x3f, 0, 0, false, [], []⟩,
   ⟨0x44, 1, 4, 0x100a0a29, 0, 0xffffffff, 0, false, [(0, 0xffffffff)], [⟨1, 7, false, 1, 100⟩, ⟨8, 8, false, 1, 255⟩, ⟨16, 8, false, 1, 50⟩, ⟨24, 8, false, 1, 255⟩]⟩,
   ⟨0x48, 1, 4, 0, 0, 1, 1, false, [], []⟩,
   ⟨0x4c, 1, 4, 0, 0xffffffff, 0, 0, false, [], []⟩,
   ⟨0x80, 4, 8, 0, 0x70000, 0x1fff, 0, false, [(1, 0x1fff)], [⟨1, 12, true, -1024, 1024⟩]⟩,
   ⟨0xa0, 5, 8, 1, 0x70000, 0x1fff, 0, false, [(1, 0x1fff)], [⟨1, 12, true, -1024, 1024⟩]⟩,
   ⟨0xc8, 23, 8, 0, 0x70000, 0x1fff, 0, false, [(1, 0x1fff)], [⟨1, 12, true, -1024, 1024⟩]⟩,
   ⟨0x84, 32, 8, 0, 0, 0xffffffff, 0, false, [(1, 0xffffffff)], []⟩,
   ⟨0x180, 16, 4, 0, 0xffffffff, 0, 0, false, [], []⟩,
   ⟨0x200, 29, 4, 0, 0xffffffff, 0, 0, false, [], []⟩,
   ⟨0x280, 29, 4, 0, 0xffffffff, 0, 0, false, [], []⟩,
   ⟨0x300, 29, 4, 0, 0xffffffff, 0, 0, false, [], []⟩]

/-- The registers of page PQEVT beyond the common header: CFG, THR, STAT, URMS, CNT1, CNT2, LOGHEAD, LOGW. -/
def regsPqevt : List RegSpec :=
  [⟨0x40, 1, 4, 0x1401, 0, 0xff03, 0, false, [(0, 0xff03)], [⟨8, 8, false, 1, 100⟩]⟩,
   ⟨0x44, 1, 4, 0xca26384, 0, 0xffffffff, 0, false, [(0, 0xffffffff)], [⟨11, 11, false, 0, 2000⟩]⟩,
   ⟨0x48, 1, 4, 0, 7, 0, 0, false, [], []⟩,
   ⟨0x4c, 3, 4, 0, 0xffff, 0, 0, false, [], []⟩,
   ⟨0x58, 1, 4, 0, 0xffffffff, 0, 0, false, [], []⟩,
   ⟨0x5c, 1, 4, 0, 0xffffffff, 0, 0, false, [], []⟩,
   ⟨0x60, 1, 4, 0, 0xffffffff, 0, 0, false, [], []⟩,
   ⟨0x400, 128, 4, 0, 0xffffffff, 0, 0, false, [], []⟩]

/-- The registers of page CURCTL beyond the common header: PSET, QSET, MODE, PF, RAMP, VV, VVTAU, VW, VWP, FW, FWT, GAINP, GAINR, LTCTL, LTLIM, STAT, IREF, PQREF, ILIM, SATCNT, LTSTAT, DELAY. -/
def regsCurctl : List RegSpec :=
  [⟨0x40, 1, 4, 0, 0, 0xffff, 0, true, [], []⟩,
   ⟨0x44, 1, 4, 0, 0, 0xffff, 0, true, [], []⟩,
   ⟨0x48, 1, 4, 0x30, 0, 0x3f, 0, true, [], [⟨0, 2, false, 0, 2⟩]⟩,
   ⟨0x4c, 1, 4, 0x7e8, 0, 0x7ff, 0, true, [], [⟨0, 10, false, 500, 1000⟩]⟩,
   ⟨0x50, 1, 4, 0xc80064, 0, 0x3ff03ff, 0, true, [], [⟨0, 10, false, 1, 1000⟩, ⟨16, 10, false, 1, 1000⟩]⟩,
   ⟨0x54, 1, 4, 0x1b80398, 0, 0xffffffff, 0, true, [], [⟨0, 16, false, 500, 1500⟩, ⟨16, 16, true, -1000, 1000⟩]⟩,
   ⟨0x58, 1, 4, 0x3d4, 0, 0xffffffff, 0, true, [], [⟨0, 16, false, 500, 1500⟩, ⟨16, 16, true, -1000, 1000⟩]⟩,
   ⟨0x5c, 1, 4, 0x3fc, 0, 0xffffffff, 0, true, [], [⟨0, 16, false, 500, 1500⟩, ⟨16, 16, true, -1000, 1000⟩]⟩,
   ⟨0x60, 1, 4, 0xfe480438, 0, 0xffffffff, 0, true, [], [⟨0, 16, false, 500, 1500⟩, ⟨16, 16, true, -1000, 1000⟩]⟩,
   ⟨0x64, 1, 4, 0x32, 0, 0x3ff, 0, true, [], [⟨0, 10, false, 1, 900⟩]⟩,
   ⟨0x68, 1, 4, 0x44c0424, 0, 0xffffffff, 0, true, [], [⟨0, 16, false, 1000, 1200⟩, ⟨16, 16, false, 1000, 1200⟩]⟩,
   ⟨0x6c, 1, 4, 0x6400c8, 0, 0x3ff03ff, 0, true, [], [⟨0, 10, false, 0, 1000⟩, ⟨16, 10, false, 5, 600⟩]⟩,
   ⟨0x70, 1, 4, 0x28a09024, 0, 0xffffffff, 0, true, [], [⟨0, 10, false, 17, 1000⟩, ⟨10, 10, false, 17, 1000⟩, ⟨20, 6, false, 2, 20⟩, ⟨26, 6, false, 2, 20⟩]⟩,
   ⟨0x74, 1, 4, 0x1f4, 0, 0x7ff03ff, 0, true, [], [⟨0, 10, false, 20, 1000⟩, ⟨16, 11, true, -1000, 0⟩]⟩,
   ⟨0x78, 1, 4, 0, 0, 0xffff, 0, true, [], []⟩,
   ⟨0x7c, 5, 4, 0, 0, 0xff03ffff, 0, true, [], [⟨24, 8, true, -90, 90⟩]⟩,
   ⟨0x90, 1, 4, 0x4081400, 0, 0x7fffff03, 0, true, [], [⟨24, 7, false, 1, 64⟩]⟩,
   ⟨0x94, 1, 4, 0x640190, 0, 0xffff07ff, 0, true, [], [⟨0, 11, false, 0, 2000⟩]⟩,
   ⟨0xa0, 1, 4, 5, 0x3ff, 0, 0, false, [], []⟩,
   ⟨0xa4, 1, 4, 0, 0xffffffff, 0, 0, false, [], []⟩,
   ⟨0xa8, 1, 4, 0, 0xffffffff, 0, 0, false, [], []⟩,
   ⟨0xac, 1, 4, 0, 0xffffffff, 0, 0, false, [], []⟩,
   ⟨0xb0, 1, 4, 0, 0xffffffff, 0, 0, false, [], []⟩,
   ⟨0xb4, 3, 4, 0, 0xffffffff, 0, 0, false, [], []⟩] ++
  [⟨0xc0, 1, 4, 0, 0xffffffff, 0, 0, false, [], []⟩]

/-- The registers of page BALANCE beyond the common header: ELOOP, ZSEQ, WEIGHT, PRIM, LOWI, ETOT, ETGT, EPH, V0, STAT, INFCNT, CURT, WIN. -/
def regsBalance : List RegSpec :=
  [⟨0x40, 1, 4, 0x1900190, 0, 0xffff0fff, 0, true, [], [⟨0, 12, false, 1, 4000⟩]⟩,
   ⟨0x44, 1, 4, 0x51e0064, 0, 0xffff0fff, 0, true, [], [⟨0, 12, false, 1, 4000⟩, ⟨16, 8, false, 0, 50⟩, ⟨24, 8, false, 1, 50⟩]⟩,
   ⟨0x48, 1, 4, 0xa5f00c8, 0, 0xffff0fff, 0, true, [], [⟨0, 12, false, 1, 4000⟩, ⟨16, 8, false, 80, 98⟩, ⟨24, 8, false, 2, 40⟩]⟩,
   ⟨0x4c, 1, 4, 0xc8, 0, 0xffff, 0, true, [], []⟩,
   ⟨0x50, 1, 4, 0x7d00032, 0, 0xffffffff, 0, true, [], []⟩,
   ⟨0x60, 1, 4, 0, 0xffffffff, 0, 0, false, [], []⟩,
   ⟨0x64, 1, 4, 0, 0xffffffff, 0, 0, false, [], []⟩,
   ⟨0x68, 3, 4, 0, 0xffffffff, 0, 0, false, [], []⟩,
   ⟨0x74, 1, 4, 0, 0xffffffff, 0, 0, false, [], []⟩,
   ⟨0x78, 1, 4, 0, 0x7f, 0, 0, false, [], []⟩,
   ⟨0x7c, 1, 4, 0, 0xffffffff, 0, 0, false, [], []⟩,
   ⟨0x80, 1, 4, 0, 0xffffff, 0, 0, false, [], []⟩,
   ⟨0x400, 192, 4, 0, 0xffffffff, 0, 0, false, [], []⟩]

/-- The registers of page MPPT beyond the common header: CTL, STEP, VLIM, CURT, SCAN, SCANCTL, STAT, SCANSTAT, SCANCNT, SCANMOVE, SCANSKIP, SCANABORT, PVAVAIL, CW0, CW1. -/
def regsMppt : List RegSpec :=
  [⟨0x40, 1, 4, 0x502807, 0, 0xffff07, 0, true, [], [⟨8, 8, false, 20, 200⟩, ⟨16, 8, false, 50, 95⟩]⟩,
   ⟨0x44, 1, 4, 0xa321405, 0, 0xffffffff, 0, true, [], [⟨0, 8, false, 1, 255⟩, ⟨8, 8, false, 1, 100⟩, ⟨16, 8, false, 1, 255⟩, ⟨24, 8, false, 1, 100⟩]⟩,
   ⟨0x48, 1, 4, 0x38a41388, 0, 0xffffffff, 0, true, [], [⟨0, 16, false, 1000, 15000⟩, ⟨16, 16, false, 1000, 15000⟩]⟩,
   ⟨0x4c, 1, 4, 0xa0505, 0, 0xffffff, 0, true, [], [⟨0, 8, false, 1, 255⟩, ⟨8, 8, false, 1, 100⟩, ⟨16, 8, false, 1, 100⟩]⟩,
   ⟨0x50, 1, 4, 0xac80f, 0, 0x7fffff, 0, true, [], [⟨0, 11, false, 1, 1440⟩, ⟨11, 5, false, 5, 25⟩, ⟨16, 7, false, 1, 100⟩]⟩,
   ⟨0x54, 1, 4, 0, 0, 3, 3, false, [], []⟩,
   ⟨0x58, 1, 4, 0, 0xffffffff, 0, 0, false, [], []⟩,
   ⟨0x5c, 1, 4, 0, 0xffff003f, 0, 0, false, [], []⟩,
   ⟨0x60, 1, 4, 0, 0xffffffff, 0, 0, false, [], []⟩,
   ⟨0x64, 1, 4, 0, 0xffffffff, 0, 0, false, [], []⟩,
   ⟨0x68, 1, 4, 0, 0xffffffff, 0, 0, false, [], []⟩,
   ⟨0x6c, 1, 4, 0, 0xffffffff, 0, 0, false, [], []⟩,
   ⟨0x70, 1, 4, 0, 0xffffffff, 0, 0, false, [], []⟩,
   ⟨0x400, 192, 8, 0, 0x7ffff, 0, 0, false, [], []⟩,
   ⟨0x404, 192, 8, 0, 0xffffffff, 0, 0, false, [], []⟩]

/-- The registers of page STORAGE beyond the common header: CTL, PCMD, SOCLIM, TWIN, STAT, CAP, PNOW, INLCNT, REFCNT, CMD, EFF. -/
def regsStorage : List RegSpec :=
  [⟨0x40, 1, 4, 0xa00, 0, 0xff01, 0, true, [], [⟨8, 8, false, 0, 50⟩]⟩,
   ⟨0x44, 1, 4, 0, 0, 0xffff, 0, true, [], []⟩,
   ⟨0x48, 1, 4, 0xbe14, 0, 0xffff, 0, true, [], [⟨0, 8, false, 0, 200⟩, ⟨8, 8, false, 0, 200⟩]⟩,
   ⟨0x4c, 1, 4, 0x64145528, 0, 0xffffffff, 0, true, [], []⟩,
   ⟨0x50, 1, 4, 0, 0xffffffff, 0, 0, false, [], []⟩,
   ⟨0x54, 1, 4, 0, 0xffffffff, 0, 0, false, [], []⟩,
   ⟨0x58, 1, 4, 0, 0xffffffff, 0, 0, false, [], []⟩,
   ⟨0x5c, 1, 4, 0, 0xffffffff, 0, 0, false, [], []⟩,
   ⟨0x60, 1, 4, 0, 0xffffffff, 0, 0, false, [], []⟩,
   ⟨0x400, 192, 8, 0, 0, 0x1ffff, 0, true, [], [⟨0, 16, true, -360, 360⟩]⟩,
   ⟨0x404, 192, 8, 0, 0x7ffff, 0, 0, false, [], []⟩]

/-- The registers of page GRIDFN beyond the common header: CTL, RTBAND, FBAND, RTTIME, CURVSN, CURVN, CURVCTL, CONNV, CONNF, CONNT, STAT, PERMIT, VMEAS, VSEQ, TRIP, TRIPW, RTCNT, CURVS, CURV. -/
def regsGridfn : List RegSpec :=
  [⟨0x40, 1, 4, 0x64000008, 0, 0xffffff0f, 0, true, [], [⟨8, 8, false, 0, 100⟩, ⟨16, 8, false, 0, 100⟩, ⟨24, 8, false, 1, 255⟩]⟩,
   ⟨0x44, 1, 4, 0, 0, 0xffffffff, 0, true, [], [⟨0, 11, false, 500, 990⟩, ⟨11, 11, false, 1010, 1300⟩, ⟨22, 10, false, 100, 900⟩]⟩,
   ⟨0x48, 1, 4, 0, 0, 0xffffffff, 0, true, [], [⟨0, 16, false, 100, 10000⟩, ⟨16, 16, false, 100, 10000⟩]⟩,
   ⟨0x4c, 1, 4, 0x641428, 0, 0xffffff, 0, true, [], [⟨0, 8, false, 10, 255⟩, ⟨16, 8, false, 10, 150⟩]⟩,
   ⟨0x50, 1, 4, 0, 0, 0x1f1f1f1f, 0, true, [], [⟨0, 5, false, 0, 16⟩, ⟨8, 5, false, 0, 16⟩, ⟨16, 5, false, 0, 16⟩, ⟨24, 5, false, 0, 16⟩]⟩,
   ⟨0x54, 1, 4, 0, 0x1f1f1f1f, 0, 0, false, [], []⟩,
   ⟨0x58, 1, 4, 0, 0, 1, 1, true, [], []⟩,
   ⟨0x5c, 1, 4, 0, 0, 0xffffffff, 0, true, [], [⟨0, 16, false, 800, 1000⟩, ⟨16, 16, false, 1000, 1200⟩]⟩,
   ⟨0x60, 1, 4, 0, 0, 0xffffffff, 0, true, [], [⟨0, 16, false, 0, 5000⟩, ⟨16, 16, false, 0, 5000⟩]⟩,
   ⟨0x64, 1, 4, 0x3200000, 0, 0xfffffff, 0, true, [], [⟨0, 10, false, 0, 1000⟩, ⟨10, 10, false, 1, 1000⟩, ⟨20, 8, false, 10, 250⟩]⟩,
   ⟨0x80, 1, 4, 0, 0xffff00ff, 0, 0, false, [], []⟩,
   ⟨0x84, 1, 4, 0, 0xff, 0, 0, false, [], []⟩,
   ⟨0x88, 1, 4, 0, 0xffffffff, 0, 0, false, [], []⟩,
   ⟨0x8c, 1, 4, 0, 0xffffffff, 0, 0, false, [], []⟩,
   ⟨0x90, 1, 4, 0, 0xffff0fff, 0, 0, false, [], []⟩,
   ⟨0x94, 1, 4, 0, 0xffffffff, 0, 0, false, [], []⟩,
   ⟨0x98, 1, 4, 0, 0xffffffff, 0, 0, false, [], []⟩,
   ⟨0x400, 64, 4, 0, 0, 0xffffffff, 0, true, [], []⟩,
   ⟨0x500, 64, 4, 0, 0xffffffff, 0, 0, false, [], []⟩]

/-- The registers of page ISLAND beyond the common header: CTL, ZTH, PWIN, PTHR, SEQ, STAT, ZEST, ZBASE, DEC, DECW, EVAL. -/
def regsIsland : List RegSpec :=
  [⟨0x40, 1, 4, 0x4142425, 0, 0xfffffff, 0, true, [], [⟨4, 4, false, 1, 8⟩, ⟨8, 4, false, 2, 15⟩, ⟨12, 4, false, 1, 8⟩, ⟨16, 8, false, 5, 100⟩, ⟨24, 4, false, 1, 8⟩]⟩,
   ⟨0x44, 1, 4, 0x52800fa, 0, 0xffffffff, 0, true, [], [⟨0, 16, false, 10, 5000⟩, ⟨16, 8, false, 10, 255⟩, ⟨24, 8, false, 1, 255⟩]⟩,
   ⟨0x48, 1, 4, 0x3e90e384, 0, 0xffffffff, 0, true, [], [⟨0, 10, false, 800, 990⟩, ⟨10, 11, false, 1010, 1200⟩, ⟨21, 11, false, 50, 2000⟩]⟩,
   ⟨0x4c, 1, 4, 0xa086432, 0, 0xffffffff, 0, true, [], [⟨0, 8, false, 10, 255⟩, ⟨8, 8, false, 20, 255⟩, ⟨16, 8, false, 2, 45⟩, ⟨24, 8, false, 1, 255⟩]⟩,
   ⟨0x50, 1, 4, 0x3c003210, 0, 0xffffffff, 0, true, [], [⟨0, 8, false, 1, 255⟩, ⟨8, 16, false, 5, 5000⟩, ⟨24, 8, false, 1, 255⟩]⟩,
   ⟨0x60, 1, 4, 0, 0x1fff, 0, 0, false, [], []⟩,
   ⟨0x64, 1, 4, 0, 0xffffffff, 0, 0, false, [], []⟩,
   ⟨0x68, 1, 4, 0, 0xffff, 0, 0, false, [], []⟩,
   ⟨0x6c, 1, 4, 0, 0xffff0003, 0, 0, false, [], []⟩,
   ⟨0x70, 1, 4, 0, 0xffffffff, 0, 0, false, [], []⟩,
   ⟨0x74, 1, 4, 0, 0xffffffff, 0, 0, false, [], []⟩]

/-- The registers of page FTHERM beyond the common header: STAT, DIE, CELLMAX, SENS, THR, SCRUB, EXCLW, HREQ. -/
def regsFtherm : List RegSpec :=
  [⟨0x40, 1, 4, 0x10c, 0x3ff, 0, 0, false, [], []⟩,
   ⟨0x44, 1, 4, 0, 0xffffffff, 0, 0, false, [], []⟩,
   ⟨0x48, 1, 4, 0xff00, 0xffff, 0, 0, false, [], []⟩,
   ⟨0x50, 9, 4, 0, 0xff01ffff, 0, 0, false, [], []⟩,
   ⟨0x78, 1, 4, 0x57d7369, 0, 0xfffffff, 0, false, [(0, 0xfffffff)], [⟨24, 4, false, 2, 10⟩]⟩,
   ⟨0x7c, 1, 4, 0, 0xffffffff, 0, 0, false, [], []⟩,
   ⟨0x80, 1, 4, 0, 0xffffffff, 0, 0, false, [], []⟩,
   ⟨0x84, 1, 4, 0, 1, 0, 0, false, [], []⟩]

/-- The registers of page CLOCK beyond the common header: STAT, RAMPPROF, RAMPTIME, SDLOCK, UNLOCKW, EQ. -/
def regsClock : List RegSpec :=
  [⟨0x40, 1, 4, 0xc0, 0x1ff7, 0, 0, false, [], []⟩,
   ⟨0x44, 1, 4, 0, 0xffffff, 0, 0, false, [], []⟩,
   ⟨0x48, 1, 4, 0, 0xffffffff, 0, 0, false, [], []⟩,
   ⟨0x4c, 1, 4, 0, 0xffff01ff, 0, 0, false, [], []⟩,
   ⟨0x50, 1, 4, 0, 0xffffffff, 0, 0, false, [], []⟩,
   ⟨0x54, 1, 4, 3, 0xffff0003, 0, 0, false, [], []⟩]

/-- The registers of page CELL beyond the common header: CFG, STATE, CTL, VLINK, POWER, FAULT, FAULTW. -/
def regsCell : List RegSpec :=
  [⟨0x40, 1, 4, 0, 0xf, 0, 0, false, [], []⟩,
   ⟨0x44, 1, 4, 0x20, 0xffff0fff, 0, 0, false, [], []⟩,
   ⟨0x48, 1, 4, 0, 0, 1, 0, true, [], []⟩,
   ⟨0x4c, 1, 4, 0, 0xffffffff, 0, 0, false, [], []⟩,
   ⟨0x50, 1, 4, 0, 0xffffffff, 0, 0, false, [], []⟩,
   ⟨0x54, 1, 4, 0, 0xffff, 0, 0, false, [], []⟩,
   ⟨0x58, 1, 4, 0, 0xffffffff, 0, 0, false, [], []⟩]

/-- The registers of the page at `page`, by its place in Table 3-5 (none for an unassigned page or a window). -/
def pageRegs (page : Nat) : List RegSpec :=
  if page = 0 then regsDevice
  else if page = 1 then regsIntc0
  else if page = 2 then regsIntc1
  else if page = 3 then regsShuttleH
  else if page = 4 then regsJournal
  else if page = 5 then regsTime
  else if page = 6 then regsSecurity
  else if page = 7 then regsLifecycle
  else if page = 8 then regsWicket
  else if page = 9 then regsHostif
  else if page = 0x10 then regsPanelTouch
  else if page = 0x11 then regsPanelIo
  else if page = 0x12 then regsService
  else if page = 0x14 then regsSafety
  else if page = 0x15 then regsSeal
  else if 0x18 ≤ page ∧ page < 0x1c then regsLouvre
  else if page = 0x1c then regsAuxsup
  else if page = 0x1d then regsHtherm
  else if page = 0x1e then regsHcmp
  else if page = 0x1f then regsHadc
  else if page = 0x20 then regsPorter
  else if page = 0x21 then regsS0
  else if page = 0x40 then regsWarp
  else if page = 0x41 then regsWeave
  else if 0x44 ≤ page ∧ page < 0x50 then regsLoom
  else if page = 0x50 then regsReed
  else if page = 0x51 then regsShuttleF
  else if page = 0x52 then regsWarden
  else if 0x58 ≤ page ∧ page < 0x60 then regsRing
  else if page = 0x60 then regsEdge
  else if page = 0x61 then regsBlank
  else if page = 0x62 then regsSync
  else if 0x68 ≤ page ∧ page < 0x70 then regsAdc
  else if page = 0x70 then regsFcmp
  else if page = 0x71 then regsMeter
  else if page = 0x72 then regsPqevt
  else if page = 0x74 then regsCurctl
  else if page = 0x75 then regsBalance
  else if page = 0x76 then regsMppt
  else if page = 0x77 then regsStorage
  else if page = 0x78 then regsGridfn
  else if page = 0x79 then regsIsland
  else if page = 0x7c then regsFtherm
  else if page = 0x7d then regsClock
  else if 0x100 ≤ page ∧ page < 0x1c0 then regsCell
  else []

end Sys2Proof.Machine
end

