-- ==== Sys2Proof/Machine/Ops.lean ====
section
/-! DEFINITION. The named operations that every command's meaning is built from: reading and writing registers and their fields
(R8–R11, R86, R554), page events and level sources (R87, R98, R99), the journal (R108), error capture (R88), events of either die
(R49, R56, R102), the short warp and free values. -/

namespace Sys2Proof.Machine

open Host (Outcome)

/-! ### Free values and outputs -/

/-- The meaning of a command whose effect is `f`: the outputs of the command before are dropped, `f` acts, and the block goes on. -/
def run (f : State → State) (s : State) : Outcome State Fault Refusal := .next (f { s with out := [] })

/-- Send `o` to the surroundings. -/
def emit (o : Out) (s : State) : State := { s with out := s.out ++ [o] }

/-- A 32-bit value that the spec leaves open, and the state with the counter advanced (log entry 3). -/
def freeWord (s : State) : Word × State := (Config.freeWord s.free, { s with free := s.free + 1 })

/-- A quotient of the spec's formulas; a divisor of 0 gives an open value (log entry 85). -/
def quot (n d : Rat) : Rat := if d = 0 then Config.overZero n else n / d

/-- A rational figure in whole units: the unit below or above it, as the part rounds (the spec states no rounding; log entry 4).
(DESIGN CHOICE: log entry 117.) -/
def lsb (x : Rat) : Int := if Config.roundUp x then x.ceil else x.floor

/-- As `lsb`, kept within the unsigned range of `w` bits.
(DESIGN CHOICE: log entry 4.) -/
def lsbU (w : Nat) (x : Rat) : Nat := (clampInt 0 (2 ^ w - 1) (lsb x)).toNat

/-- As `lsb`, kept within the signed range of `w` bits, as a bit pattern. -/
def lsbS (w : Nat) (x : Rat) : Nat := ofSigned w (clampInt (-(2 ^ (w - 1))) (2 ^ (w - 1) - 1) (lsb x))

/-- Put `x` into a list before the first entry that `le` does not put before it. -/
def insertBy {α : Type} (le : α → α → Bool) (x : α) : List α → List α
  | [] => [x]
  | y :: t => if le y x then y :: insertBy le x t else x :: y :: t

/-- Sort a list by `le`, keeping the order of equals. -/
def sortBy {α : Type} (le : α → α → Bool) (l : List α) : List α := l.foldl (fun acc x => insertBy le x acc) []

/-! ### The register space -/

/-- The entry of a cell list at key `a`. -/
def cellAt : List (Nat × Word) → Nat → Option Word
  | [], _ => none
  | (b, v) :: t, a => if b = a then some v else cellAt t a

/-- Put `w` at key `a` of a list with rising keys; an entry equal to `d`, what an unlisted key reads as, is left out. -/
def setCell (a : Nat) (w d : Word) : List (Nat × Word) → List (Nat × Word)
  | [] => if w = d then [] else [(a, w)]
  | (b, v) :: t =>
    if b < a then (b, v) :: setCell a w d t
    else if b = a then (if w = d then t else (a, w) :: t)
    else if w = d then (b, v) :: t else (a, w) :: (b, v) :: t

/-- Put byte `x` at key `a` of a byte store with rising keys; bytes that are 0x00 are not listed. -/
def setByte (a : Nat) (x : Byte) : List Host.Cell → List Host.Cell
  | [] => if x = 0 then [] else [(a, x)]
  | (b, v) :: t =>
    if b < a then (b, v) :: setByte a x t
    else if b = a then (if x = 0 then t else (a, x) :: t)
    else if x = 0 then (b, v) :: t else (a, x) :: (b, v) :: t

/-- Put bytes from offset `a` on. -/
def setBytes (a : Nat) : List Byte → List Host.Cell → List Host.Cell
  | [], m => m
  | x :: t, m => setBytes (a + 1) t (setByte a x m)

/-- The page of a BAR0 byte address, and the offset in it. -/
def pageOf (a : Nat) : Nat := a / 0x1000
def offOf (a : Nat) : Nat := a % 0x1000

/-- The page type of an assigned page (Table 3-5). -/
def pageType (page : Nat) : Option PageType := pageTypes.find? fun t => t.first ≤ page && page < t.first + t.count

/-- Whether Table 3-5 assigns the page a block with a common header. -/
def hasHeader (page : Nat) : Bool := (pageType page).isSome

/-- Whether Table 3-5 assigns the page at all: a block, the SELVEDGE window or the PARAM window (R11, R85). -/
def assigned (page : Nat) : Bool := hasHeader page || page == 0xC || page == 0xD || (0x80 ≤ page && page < 0xC0)

/-- Whether the page is on the F-die (Table 3-7 FDIE). -/
def isF (page : Nat) : Bool := 0x40 ≤ page

/-- Whether a register's specification covers offset `o`. -/
def RegSpec.covers (r : RegSpec) (o : Nat) : Bool :=
  r.off ≤ o && o < r.off + r.cnt * r.stride && (o - r.off) % r.stride == 0

/-- The specification of the register at `a`, beyond the common header. -/
def specAt (a : Nat) : Option RegSpec := (pageRegs (pageOf a)).find? fun r => r.covers (offOf a)

/-- What a register reads at reset: its table's reset word; `INTC_0.PGLOCK` has group 15 set (R106).
(DESIGN CHOICE: log entry 63.) -/
def resetWord (a : Nat) : Word :=
  if offOf a < 0x40 then (if a = 0x1020 then 0x8000 else 0)
  else match specAt a with
    | some r => word r.rst
    | none => 0

/-- The stored word of a register. -/
def State.raw (s : State) (a : Nat) : Word := (cellAt s.regs a).getD (resetWord a)

/-- Store a register's word. -/
def State.setRaw (s : State) (a : Nat) (w : Word) : State := { s with regs := setCell a w (resetWord a) s.regs }

/-- A field's bits as a number. -/
def State.get (s : State) (f : Fld) : Nat := bitsAt (s.raw f.addr).toNat f.lo f.wd

/-- A field as a flag. -/
def State.flag (s : State) (f : Fld) : Bool := s.get f == 1

/-- A field's two's complement value. -/
def State.getI (s : State) (f : Fld) : Int := toSigned f.wd (s.get f)

/-- A word with the bits of a field replaced by the low bits of `v`. -/
def insertBits (w : Word) (f : Fld) (v : Nat) : Word :=
  let n := w.toNat
  word (n - bitsAt n f.lo f.wd * 2 ^ f.lo + (v % 2 ^ f.wd) * 2 ^ f.lo)

/-- Store a field. -/
def State.put (s : State) (f : Fld) (v : Nat) : State := s.setRaw f.addr (insertBits (s.raw f.addr) f v)

/-- Store a field of two's complement. -/
def State.putI (s : State) (f : Fld) (x : Int) : State := s.put f (ofSigned f.wd x)

/-- Store a flag. -/
def State.putB (s : State) (f : Fld) (b : Bool) : State := s.put f (bit b)

/-- Add `k` to a counter that saturates at all ones. -/
def State.addSat (s : State) (f : Fld) (k : Nat) : State := s.put f (min (s.get f + k) (2 ^ f.wd - 1))

/-- Count one in a counter that saturates at all ones. -/
def State.count (s : State) (f : Fld) : State := s.addSat f 1

/-- Count one in a counter that wraps. -/
def State.countWrap (s : State) (f : Fld) : State := s.put f (s.get f + 1)

/-- The header registers of a page (Tables 3-6 to 3-13). -/
abbrev pgstatBlk (page : Nat) : Fld := ⟨page * 0x1000 + 0x008, 16, 16⟩
abbrev pgReady (page : Nat) : Fld := ⟨page * 0x1000 + 0x008, 0, 1⟩
abbrev pgevt (page : Nat) : Fld := ⟨page * 0x1000 + 0x010, 0, 32⟩
abbrev pgevten (page : Nat) : Fld := ⟨page * 0x1000 + 0x014, 0, 32⟩
abbrev pglock (page : Nat) : Fld := ⟨page * 0x1000 + 0x020, 0, 16⟩
abbrev pgerrOffset (page : Nat) : Fld := ⟨page * 0x1000 + 0x024, 0, 12⟩
abbrev pgerrCause (page : Nat) : Fld := ⟨page * 0x1000 + 0x024, 12, 4⟩
abbrev pgerrCount (page : Nat) : Fld := ⟨page * 0x1000 + 0x024, 16, 15⟩
abbrev pgerrValid (page : Nat) : Fld := ⟨page * 0x1000 + 0x024, 31, 1⟩
abbrev pgseq (page : Nat) : Fld := ⟨page * 0x1000 + 0x028, 0, 32⟩

/-! ### The warp's stamps -/

/-- The warp stamp: bits [95:32] of the accumulator (R113). -/
def stamp (s : State) : Stamp := s.warp.acc.extractLsb' 32 64

/-- The short warp: low 20 bits of the cycle and the pick ("Angle as time"). -/
def swarp (s : State) : Word := s.warp.acc.extractLsb' 44 32

/-! ### The H-die's warp image (R140) -/

/-- The wall clock in 2^-48 s. -/
def clockNow (s : State) : Nat := s.clk.sec * 2 ^ 48 + s.clk.frac

/-- The warp stamp of the running image: the line through the two newest angle-zero marks, at the present wall clock. It reads 0 until
two marks have come, as Table 4-25 has it at reset, and stands at the newest mark while both have the same wall clock.
(DESIGN CHOICE: log entry 6.) -/
def imageStamp (s : State) : Stamp :=
  match s.clk.marks with
  | (s1, w1) :: (s0, w0) :: _ => s1 + BitVec.ofInt 64 (((s1 - s0).toNat : Int) * ((clockNow s : Int) - w1) / (w1 - w0))
  | _ => 0

/-- The short warp of the image now. -/
def hSwarp (s : State) : Word := (imageStamp s).extractLsb' 12 32

/-- Bits [31:16] of the wall-clock fraction (Table 3-21). -/
def clockWcf (t : Int) : Nat := (t / 2 ^ 32 % 2 ^ 16).toNat

/-- The wall-clock fraction that the image maps a warp stamp to. Before two marks have come no mapping exists, and the spec states no
value: a free value (log entry 6). -/
def stampWcf (x : Stamp) (s : State) : Nat × State :=
  match s.clk.marks with
  | (s1, w1) :: (s0, w0) :: _ => (clockWcf (w1 + (x - s1).toInt * (w1 - w0) / ((s1 - s0).toNat : Int)), s)
  | _ => let (w, t) := freeWord s; (w.toNat % 2 ^ 16, t)

/-! ### Pick and cycle -/

/-- The pick index and the cycle count.
(DESIGN CHOICE: log entry 8.) -/
def pickOf (s : State) : Nat := bitsAt s.warp.acc.toNat 44 12
def cycleOf (s : State) : Nat := bitsAt s.warp.acc.toNat 56 40

/-! ### The interrupt controller's bits (R96–R99) -/

/-- The sources of Table 3-18. -/
def levelSource (n : Nat) : Bool :=
  (1 ≤ n && n ≤ 5) || n == 8 || n == 9 || (16 ≤ n && n ≤ 18) || (20 ≤ n && n ≤ 31) || (48 ≤ n && n ≤ 55) ||
  (64 ≤ n && n ≤ 72) || (80 ≤ n && n ≤ 88) || (90 ≤ n && n ≤ 94) || n == 96 || n == 97 || n == 99 || (104 ≤ n && n ≤ 107) ||
  n == 109 || (120 ≤ n && n ≤ 124) || (128 ≤ n && n ≤ 131) || (144 ≤ n && n ≤ 167)

def edgeSource (n : Nat) : Bool :=
  n == 6 || n == 10 || n == 19 || n == 56 || n == 57 || n == 73 || n == 74 || n == 89 || n == 98 || n == 100 || n == 108 ||
  n == 110 || (168 ≤ n && n ≤ 255)

/-- One bit of a per-source register array of INTC_1 that starts at `base`. -/
abbrev srcBit (base n : Nat) : Fld := ⟨base + 4 * (n / 32), n % 32, 1⟩
abbrev pendBit (n : Nat) : Fld := srcBit 0x2040 n
abbrev maskBit (n : Nat) : Fld := srcBit 0x20A0 n
abbrev activeBit (n : Nat) : Fld := srcBit 0x2100 n

/-- R97: pending, not masked, not active, and of a priority above its target's threshold. -/
def deliverable (s : State) (n : Nat) : Bool :=
  s.flag (pendBit n) && !s.flag (maskBit n) && !s.flag (activeBit n) &&
    s.get (INTC_0_THRESH_THR (s.get (INTC_0_SRCCFG_TARGET n))) < s.get (INTC_0_SRCCFG_PRIO n)

/-- The winner of target `t`: the deliverable source of highest priority, the lowest number among equals; 0 when there is none. -/
def winner (s : State) (t : Nat) : Nat :=
  ((List.range 256).foldl (fun (best : Nat × Nat) n =>
    if deliverable s n && s.get (INTC_0_SRCCFG_TARGET n) == t && best.2 < s.get (INTC_0_SRCCFG_PRIO n)
    then (n, s.get (INTC_0_SRCCFG_PRIO n)) else best) (0, 0)).1

/-- Send, or mark pending in the PBA, the message of source `n` (R104; masking and pending as the PCIe specification has them). -/
def sendMsix (n : Nat) (s : State) : State :=
  let v := s.get (INTC_0_SRCCFG_VEC n)
  if !s.host.msixEn || s.host.d3 then s
  else if s.host.msixMask || s.flag (HOSTIF_MSIXC_MASK v) then s.put ⟨0x9C00 + 4 * (v / 32), v % 32, 1⟩ 1
  else emit (.msix v) s

/-- The pins INT_A_N (target 0) and INT_B_N (target 1) as they stand: asserted, that is low, while the target in pin mode has a winner
(R104). -/
def intPin (s : State) (t : Nat) : Bool := !s.flag (INTC_0_OUTCFG_MODE t) && winner s t != 0

/-- R104: source `n` has become deliverable to a target in MSI-X mode, which it was not to that target in `old`: its message is sent. -/
def announce (old : State) (n : Nat) (s : State) : State :=
  if deliverable s n && !(deliverable old n && old.get (INTC_0_SRCCFG_TARGET n) == s.get (INTC_0_SRCCFG_TARGET n)) && s.get (INTC_0_SRCCFG_TARGET n) < 2 &&
      s.flag (INTC_0_OUTCFG_MODE (s.get (INTC_0_SRCCFG_TARGET n)))
  then sendMsix n s else s

/-- As `announce`, for every source in number order. -/
def announceAll (old : State) (s : State) : State := (List.range 256).foldl (fun s n => announce old n s) s

/-- R98: an event of an edge source sets its pending bit and is counted. -/
def edgeEvent (n : Nat) (s : State) : State :=
  announce s n ((s.put (pendBit n) 1).count (INTC_1_COUNT_COUNT n))

/-- Insert into a rising list without repeats. -/
def insertNat (n : Nat) : List Nat → List Nat
  | [] => [n]
  | m :: t => if m < n then m :: insertNat n t else if m = n then m :: t else n :: m :: t

/-- R99: the level of a level source is now `b`. A rise is counted; while the source is not active the pending bit follows the level;
a held WARDEN-target source stays not pending until its level has dropped (R105). -/
def levelInput (n : Nat) (b : Bool) (s : State) : State :=
  if s.intc.level.contains n == b then s
  else if b then
    let s1 := { s with intc := { s.intc with level := insertNat n s.intc.level } }.count (INTC_1_COUNT_COUNT n)
    if s.flag (activeBit n) || s.intc.held.contains n then s1 else announce s n (s1.put (pendBit n) 1)
  else
    let off := fun (l : List Nat) => l.filter (· != n)
    let s1 := { s with intc := { level := off s.intc.level, held := off s.intc.held, dropped := off s.intc.dropped } }
    if s.flag (activeBit n) then s1 else s1.put (pendBit n) 0

/-! ### Page events and page sources (R87, R33) -/

/-- The page source of a page (Table 3-5; 0 = none). -/
def pageSource (page : Nat) : Nat :=
  match pageType page with
  | none => 0
  | some t => if t.source = 0 then 0 else if t.first = 0x100 then 144 + (page - 0x100) / 8 else t.source + (page - t.first)

/-- Whether any event flag of the page is set and enabled. -/
def pageAsserted (s : State) (page : Nat) : Bool := (s.raw (page * 0x1000 + 0x010) &&& s.raw (page * 0x1000 + 0x014)) != 0

/-- The level of the source of a page: the OR of the pages that share it (R33, R87). -/
def sourceLevel (s : State) (page : Nat) : Bool :=
  if 0x100 ≤ page then (List.range 8).any fun i => pageAsserted s (0x100 + (page - 0x100) / 8 * 8 + i)
  else pageAsserted s page

/-- The page source of a discarded level change, noted for the link-up (R102). A discarded event of another kind is gone. -/
def noteLost (e : Event) (l : List Nat) : List Nat := if e.code = 0xFF00 || e.code = 0xFF01 then insertNat e.source l else l

/-- The full backlog discards an event (R56): it is counted and `PGEVT.EVLOST` is set; a level of source 9 that rises by that has its own
event discarded as well (R70, R102). -/
def discard (e : Event) (s : State) : State :=
  let one := fun (e : Event) (s : State) =>
    { s with link := { s.link with lostNow := s.link.lostNow + 1, flost := noteLost e s.link.flost } }.count SHUTTLE_F_BACKLOG_LOST
  let s1 := (one e s).put ⟨0x51010, 6, 1⟩ 1
  if sourceLevel s1 0x51 && !s1.link.flevel.contains 9 then
    one { e with source := 9, code := 0xFF00 } { s1 with link := { s1.link with flevel := insertNat 9 s1.link.flevel } }
  else s1

/-- Put an event of the F-die on its way: into the main queue while the link is up, else into the backlog of 1,024 (R49, R56). While
a selvedge capture is sent, every event committed after P is held, level changes among them (R111): one of those may leave after the
response to a read that came after the write that caused it, where R102 alone would put it first (DESIGN CHOICE: log entry 130). -/
def fSend (e : Event) (s : State) : State :=
  if s.link.selvHolding.isSome then { s with link := { s.link with selvHeld := s.link.selvHeld ++ [e] } }
  else if s.link.up then { s with link := { s.link with fh := { s.link.fh with queue := s.link.fh.queue ++ [.event e] } } }
  else if s.link.backlog.length < 1024 then
    { s with link := { s.link with backlog := s.link.backlog ++ [{ e with flags := 1 }] } }.count ⟨0x5105C, 0, 11⟩
  else discard e s

/-- An event of the F-die in this pick (Table 2-4). -/
def raiseF (source code : Nat) (data : Nat) (s : State) : State := fSend ⟨stamp s, source, 0, code, word data⟩ s

/-- Bring the level of a page's source to what its flags say: on the H-die at once, on the F-die by an EVENT of CODE 0xFF00 or 0xFF01
(R99, R102). -/
def relevelBasic (page : Nat) (s : State) : State :=
  let n := pageSource page
  let b := sourceLevel s page
  if n = 0 then s
  else if isF page then
    if s.link.flevel.contains n == b then s
    else raiseF n (if b then 0xFF00 else 0xFF01) 0
      { s with link := { s.link with flevel := if b then insertNat n s.link.flevel else s.link.flevel.filter (· != n) } }
  else levelInput n b s

/-- The `PGEVT` bits of a page that hardware has set in the present pick. -/
def evNowOf (s : State) (page : Nat) : Nat := ((s.link.evNow.find? (·.1 == page)).map (·.2)).getD 0

/-- Note that hardware has set event bits of an F-die page in this pick: they stay set in it (R33, R91). -/
def noteEvt (page mask : Nat) (s : State) : State :=
  if isF page then
    { s with link := { s.link with evNow := (page, evNowOf s page ||| mask) :: s.link.evNow.filter (·.1 != page) } }
  else s

/-- Set event flags of a page, given as a mask (R69, R87). -/
def setEvt (page mask : Nat) (s : State) : State :=
  relevelBasic page (noteEvt page mask (s.setRaw (page * 0x1000 + 0x010) (s.raw (page * 0x1000 + 0x010) ||| word mask)))

/-! ### The journal (R108, R109) -/

/-- Write a journal entry: it takes the next number; when 4,096 are held, the oldest is overwritten and counted; NEW is set, FILL when
HEAD − READPTR reaches THRESH, LOSTUNREAD when the overwritten entry lay above READPTR. Whether a number lies above another is judged
modulo 2^32 by the shorter way round (DESIGN CHOICE: log entry 131). -/
def journal (swarp : Word) (wcf source flags code data : Nat) (s : State) : State :=
  let q := s.jr.next
  let full := s.jr.entries.length = 4096
  let old := (s.jr.entries.getLast?.map (·.seq)).getD 0
  let es := ((⟨q, swarp, wcf, source, flags, code, data⟩ : JEntry) :: s.jr.entries).take 4096
  let s1 := { s with jr := { entries := es, next := (q + 1) % 2 ^ 32 } }
  let s2 := (s1.put JOURNAL_HEAD_SEQ q).put JOURNAL_TAIL_SEQ ((es.getLast?.map (·.seq)).getD 0)
  let s3 := (if full then s2.count JOURNAL_OVWR_COUNT else s2).put ⟨0x4008, 16, 1⟩ 1
  let rp := s.get JOURNAL_READPTR_SEQ
  let fill := s.get JOURNAL_CTL_THRESH ≤ (q + 2 ^ 32 - rp) % 2 ^ 32
  let unread := full && 0 < (old + 2 ^ 32 - rp) % 2 ^ 32 && (old + 2 ^ 32 - rp) % 2 ^ 32 < 2 ^ 31
  setEvt 0x004 (1 + (if fill then 2 else 0) + (if unread then 4 else 0)) s3

/-- FLAGS bit [3] of a journal entry: the wall clock or the warp image is not valid (R140). -/
def clockFlag (s : State) : Nat := if s.flag TIME_STAT_VALID && s.flag TIME_STAT_WFRESH then 0 else 8

/-- An event of an H-die block: journalled with FLAGS bit [1], the short warp of the warp image and the fraction of the wall clock; an
edge source becomes pending as well (R98, R108, R140). -/
def raiseH (source code data : Nat) (s : State) : State :=
  let s1 := journal (hSwarp s) (clockWcf (clockNow s)) source (2 + clockFlag s) code data s
  if edgeSource source then edgeEvent source s1 else s1

/-- An event of the F-die as the H-die receives it: a level change follows R102, any other event is journalled, and an edge source
becomes pending (R98, R108). -/
def deliverEvent (e : Event) (s : State) : State :=
  if e.code = 0xFF00 then levelInput e.source true s
  else if e.code = 0xFF01 then levelInput e.source false s
  else
    let (c, s1) := stampWcf e.stamp s
    let fl := e.flags % 2 + (if e.data.toNat / 2 ^ 16 = 0 then 0 else 4) + clockFlag s
    let s2 := journal (e.stamp.extractLsb' 12 32) c e.source fl e.code (e.data.toNat % 2 ^ 16) s1
    if edgeSource e.source then edgeEvent e.source s2 else s2

/-- R88, R109: capture an irregular access at `a` with a cause, and journal it from source 6. -/
def capture (a cause : Nat) (s : State) : State :=
  let p := pageOf a
  let s1 := (((s.put (pgerrOffset p) (offOf a)).put (pgerrCause p) cause).count (pgerrCount p)).put (pgerrValid p) 1
  let code := cause * 2 ^ 12 + offOf a / 4
  if isF p then raiseF 6 code p s1 else raiseH 6 code p s1

/-! ### Writing a register under its access codes (R10, R86, R554) -/

/-- The bits of a register that are locked now: the RWL bits of its locked groups. -/
def lockedMask (s : State) (page : Nat) (r : RegSpec) : Nat :=
  r.locks.foldl (fun m g => if (s.raw (page * 0x1000 + 0x020)).getLsbD g.1 then m ||| g.2 else m) 0

/-- Whether a written word holds a field outside its range. -/
def outOfRange (r : RegSpec) (w : Word) : Bool :=
  r.ranges.any fun g =>
    let n := bitsAt w.toNat g.lo g.wd
    let x : Int := if g.sgn then toSigned g.wd n else n
    decide (x < g.min) || decide (g.max < x)

/-- Whether a page has staged registers, lock groups (Table 3-7). -/
def hasStaged (page : Nat) : Bool := (pageRegs page).any (·.staged)
def hasLocks (page : Nat) : Bool := (pageRegs page).any fun r => !r.locks.isEmpty

/-- A write to the common header (Tables 3-6 to 3-13, R86, R91, R92). An event bit that hardware has set in this pick ends at 1
(R33, R91). -/
def writeHeader (a : Nat) (w : Word) (s : State) : State :=
  let p := pageOf a
  let o := offOf a
  let ev := ((pageType p).map (·.evt)).getD 0
  if o = 0x00C then
    let s1 := if w.getLsbD 0 then s.setRaw (p * 0x1000 + 0x024) 0 else s
    if w &&& 0xFFFFFFFE#32 = 0 then s1 else capture a 2 s1
  else if o = 0x010 || o = 0x018 || o = 0x01C then
    if ev = 0 then s
    else
      let old := s.raw (p * 0x1000 + 0x010)
      let m := w &&& word ev
      let v := (if o = 0x010 then m else if o = 0x018 then old ||| m else old &&& ~~~m) ||| (old &&& word (evNowOf s p))
      let s1 := relevelBasic p (s.setRaw (p * 0x1000 + 0x010) v)
      if w &&& ~~~(word ev) = 0 then s1 else capture a 2 s1
  else if o = 0x014 then
    if ev = 0 then s else relevelBasic p (s.setRaw a w)
  else if o = 0x020 then
    if !hasLocks p then s
    else
      let s1 := s.setRaw a (s.raw a ||| (w &&& 0xFFFF#32))
      if w &&& 0xFFFF0000#32 = 0 then s1 else capture a 2 s1
  else if o = 0x000 || o = 0x004 || o = 0x008 || o = 0x024 || o = 0x028 then capture a 5 s
  else if w = 0 then s else capture a 2 s

/-- A write of `w` to the register at `a` under its access codes alone, taken at once: RO registers and reserved offsets are captured
with causes 0x5 and 0x2, a locked field is left and captured with 0x1, a value outside its range refuses the whole write with 0x3, and
1s written to RSV bits are captured with 0x2 after the rest has been applied.
(DESIGN CHOICE: log entry 48.) -/
def writeReg (a : Nat) (w : Word) (s : State) : State :=
  let p := pageOf a
  if !hasHeader p then s
  else if offOf a < 0x40 then writeHeader a w s
  else match specAt a with
    | none => if w = 0 then s else capture a 2 s
    | some r =>
      if r.rw = 0 then (if r.ro = 0 && w = 0 then s else capture a (if r.ro = 0 then 2 else 5) s)
      else
        let lk := lockedMask s p r
        if lk = r.rw then capture a 1 s
        else if outOfRange r w then capture a 3 s
        else
          let m := word (r.rw - (r.rw &&& lk) - ((r.rw - (r.rw &&& lk)) &&& r.cmd))
          let s1 := s.setRaw a ((s.raw a &&& ~~~m) ||| (w &&& m))
          let s2 := if w &&& ~~~(word (r.ro ||| r.rw)) = 0 then s1 else capture a 2 s1
          if lk = 0 then s2 else capture a 1 s2

/-- Do `f` unless the whole register at `a` is locked, which is captured with cause 0x1 (R86). -/
def unlessLocked (a : Nat) (f : State → State) (s : State) : State :=
  match specAt a with
  | some r => if r.rw ≠ 0 && lockedMask s (pageOf a) r = r.rw then capture a 1 s else f s
  | none => f s

/-- Bit `b` of the register at `a` is written to 1 by a write that is neither refused nor locked there (R86). -/
def takesOne (s : State) (a b : Nat) (w : Word) : Bool :=
  w.getLsbD b && match specAt a with
    | some r => !(lockedMask s (pageOf a) r).testBit b && !outOfRange r w
    | none => false

/-- Whether the register at `a` is staged (RWS), or a PARAM word (R82, R182). -/
def isStaged (a : Nat) : Bool :=
  (0x80 ≤ pageOf a && pageOf a < 0xC0) || (match specAt a with
    | some r => r.staged
    | none => false)

/-! ### Bounds used by many commands -/

/-- The bit of a mask for entry `n`. -/
def maskOf (n : Nat) : Nat := 2 ^ n

/-- Change `s` when a condition holds. -/
def when (c : Bool) (f : State → State) (s : State) : State := if c then f s else s

/-- Set a field and raise flag `mask` of the page when it changes. -/
def putEvt (f : Fld) (v page mask : Nat) (s : State) : State :=
  if s.get f = v % 2 ^ f.wd then s else setEvt page mask (s.put f v)

end Sys2Proof.Machine
end

