-- ==== Sys2Proof/Machine/Actions.lean ====
section
/-! DEFINITION. The actions that several families share: CRCs (R41, R78), page identities (R84, R85), answers to reads (R55, R74, R80),
frames put on their way (R49, R55), block tokens and GRID_OPEN (R63, R256), the shutter's closing (R63), safety demands (R459, R461),
converter faults (R166), and the shuttle link's going down (R53–R57). -/

namespace Sys2Proof.Machine

/-! ### CRCs and byte order -/

/-- One bit of the reflected CRC-32 of R41. -/
def crc32Bit (c : BitVec 32) : BitVec 32 := if c.getLsbD 0 then (c >>> 1) ^^^ 0xEDB88320#32 else c >>> 1

/-- One byte of the CRC-32 of R41. -/
def crc32Byte (c : BitVec 32) (b : Byte) : BitVec 32 := (List.range 8).foldl (fun c _ => crc32Bit c) (c ^^^ b.setWidth 32)

/-- The CRC-32 of R41 over bytes in order. -/
def crc32 (bs : List Byte) : BitVec 32 := (bs.foldl crc32Byte 0xFFFFFFFF#32) ^^^ 0xFFFFFFFF#32

/-- One bit of the CRC-16 of R78: polynomial 0x1021, not reflected. -/
def crc16Bit (c : BitVec 16) : BitVec 16 := if c.getLsbD 15 then (c <<< 1) ^^^ 0x1021#16 else c <<< 1

/-- One byte of the CRC-16 of R78. -/
def crc16Byte (c : BitVec 16) (b : Byte) : BitVec 16 := (List.range 8).foldl (fun c _ => crc16Bit c) (c ^^^ (b.setWidth 16 <<< 8))

/-- The CRC-16 of R78 over bytes in order: initial value 0xFFFF, no final XOR. -/
def crc16 (bs : List Byte) : Nat := (bs.foldl crc16Byte 0xFFFF#16).toNat

/-- The bytes of a word, lowest first (R8). -/
def wordBytes (w : Word) : List Byte := (List.range 4).map fun i => w.extractLsb' (8 * i) 8

/-- The words of a run of offsets, as bytes. -/
def bytesOf (ws : List Word) : List Byte := (ws.map wordBytes).flatten

/-- The `k` low bytes of a number, lowest first (R8). -/
def leBytes (k n : Nat) : List Byte := (List.range k).map fun i => BitVec.ofNat 8 (n >>> (8 * i))

/-- The number that bytes hold, lowest first (R8). -/
def leNat (bs : List Byte) : Nat := bs.foldr (fun b n => b.toNat + 256 * n) 0

/-- The number in the `k` bytes from byte `i` on; bytes beyond the end read 0. -/
def leAt (bs : List Byte) (i k : Nat) : Nat := leNat ((bs.drop i).take k)

/-- The bytes of an address, highest first, as SPI sends them (R77). -/
def addrBytes (a : Nat) : List Byte := [BitVec.ofNat 8 (a >>> 16), BitVec.ofNat 8 (a >>> 8), BitVec.ofNat 8 a]

/-! ### Page identity -/

/-- `PGID` of a page; the pattern of R85 on a PARAM page; 0 on the SELVEDGE window and on reserved pages. -/
def pgidWord (page : Nat) : Word :=
  match pageType page with
  | some t => word (t.code * 0x10000 + (page - t.first) * 0x100 + 1)
  | none => if 0x80 ≤ page && page < 0xC0 then word (0x800000 + (page - 0x80) * 0x100 + 1) else 0

/-! ### What the part tells host agents -/

/-- Send an SPI answer; STATUS carries the waiting LASTCRC and WDROP bits and clears them (Table 3-4, R78). -/
def spiAnswer (busy addrErr : Bool) (ws : List Word) (s : State) : State :=
  let st := 0x80 + 64 * bit busy + 32 * bit s.host.lastCrc + 16 * bit s.host.wdrop + 8 * bit addrErr
  let crc := crc16 (BitVec.ofNat 8 st :: (ws.map wordBytes).flatten)
  emit (.spi st ws crc) { s with host := { s.host with lastCrc := false, wdrop := false } }

/-- The service port's request in hand is done: it is no longer held (R451). -/
def svcDone (s : State) : State :=
  let h := s.svc.held.drop 1
  { s.put SERVICE_STAT_HELD h.length with svc := { s.svc with held := h, waiting := false } }

/-- The answer to the request in hand, which ends it (R449, Table 15-3). -/
def svcReply (status done : Nat) (words : List Word) (s : State) : State :=
  match s.svc.held with
  | [] => s
  | h :: _ => svcDone (emit (.svc (h.op + 0x80) h.tag status h.addr done words) s)

/-- The tag under which the service port's read gathers its words; PCIe tags have 8 bits. -/
def svcTag : Nat := 256

/-- Fill the words of a gathered read; a PCIe completion leaves once all are there (R74), or the service port's answer. -/
def fillGather (tag addr : Nat) (ws : List Word) (s : State) : State :=
  match s.link.gathers.find? (·.tag == tag) with
  | none => s
  | some g =>
    let words := g.words.map fun p =>
      if addr ≤ p.1 && p.1 < addr + 4 * ws.length then (p.1, some (ws.getD ((p.1 - addr) / 4) 0)) else p
    let rest := s.link.gathers.filter (·.tag != tag)
    if words.all (·.2.isSome) then
      let out := words.map fun p => p.2.getD 0
      let s1 : State := { s with link.gathers := rest }
      if tag = svcTag then svcReply 0 out.length out s1 else emit (.pcie tag out) s1
    else { s with link.gathers := rest ++ [{ g with words := words }] }

/-- A read of the H-die itself has been answered not-ready: a skip of an S0 comparison (R411), no F-die items in the quote (R496), ACTIVATE
refused (R508), nothing otherwise (R429).
(DESIGN CHOICE: log entry 120.) -/
def ownSkip (what : Nat) (s : State) : State :=
  if what < 4 then
    raiseH 92 2 what ((({ s with s0 := { s.s0 with base := s.s0.base.set what none } }.count (S0_BAD_SKIP what)).put (S0_XSTAT_LAST what) 3))
  else if 20 ≤ what && what < 33 then { s with sec := { s.sec with qFail := true } }
  else if what = 33 then capture SECURITY_FWCTL_VERIFY.addr 3 s
  else s

/-- Complete an outstanding read with not-ready (R55): every word is the page's `PGID`; SPI answers busy, the service port status
0x01 without data. -/
def failRead (o : Outstanding) (s : State) : State :=
  match o.via with
  | .pcie tag => fillGather tag o.addr (List.replicate o.count (pgidWord (pageOf o.addr))) s
  | .spi =>
    match s.host.spi with
    | some r => if r.addr = o.addr && !r.answered then
        spiAnswer true false [] { s with host := { s.host with spi := some { r with answered := true } } } else s
    | none => s
  | .svc =>
    if !s.svc.waiting then s
    else
      let l := s.link
      svcReply 1 0 [] { s with link.gathers := l.gathers.filter (·.tag != svcTag)
                               link.reads := l.reads.map fun o => if o.via = .svc then { o with via := .own 255 } else o }
  | .own k => ownSkip k s

/-- An F-die page can be reached: the link is up and the F-die is ready, or the page is CLOCK (R55).
(DEDUCED: log entry 113.) -/
def reachable (s : State) (page : Nat) : Bool := s.link.up && (page == 0x7D || !s.flag SHUTTLE_H_STAT_NOTREADY)

/-- A host write or a BULK segment is dropped (R55).
(DESIGN CHOICE: log entry 56.) -/
def dropWrite (s : State) : State := setEvt 0x003 0x40 (s.count SHUTTLE_H_DROPCNT_COUNT)

/-- Queue a frame of the H-die's main queue (R49). -/
def toF (p : Payload) (s : State) : State := { s with link.hf.queue := s.link.hf.queue ++ [p] }

/-- Queue a write of the H-die to F-die registers, or drop it (R49, R55). The H-die's own writes are dropped and counted as a host's are
(DESIGN CHOICE: log entry 56). -/
def postWrite (addr : Nat) (data : List Word) (s : State) : State :=
  if reachable s (pageOf addr) then toF (.postedWr addr data) s else dropWrite s

/-- Queue a read of the H-die's own (R49), or take it as answered not-ready (R55).
(DESIGN CHOICE: log entry 120.) -/
def ownRead (what addr count : Nat) (s : State) : State :=
  if reachable s (pageOf addr) then
    let t := s.link.nextTag
    toF (.readReq addr t count 3)
      { s with link.reads := s.link.reads ++ [⟨t, addr, count, .own what⟩], link.nextTag := (t + 1) % 256 }
  else ownSkip what s

/-! ### Blocking and opening -/

/-- A control block (Table 8-2): its type, byte 1, and zeros. -/
def ctlBlock (ty arg : Nat) : Block := ⟨true, BitVec.ofNat 8 ty :: BitVec.ofNat 8 arg :: List.replicate 30 0⟩

/-- A BLOCK_TOKEN block (Table 8-2). -/
def tokenBlock : Block := ⟨true, 0x78#8 :: List.replicate 31 0xB4#8⟩

/-- The blocks of a token: two BLOCK_TOKEN blocks, and a BURST_RESUME for the burst in progress: one of those that may be or none, as `n`
chooses, since the command does not tell the loom clock (R255).
(DESIGN CHOICE: log entry 150.) -/
def tokenBlocks (begun : List (Nat × Nat)) (n : Nat) : List Block :=
  let resume := match begun[n % (begun.length + 1)]? with
    | some t => [ctlBlock 0x55 t.1]
    | none => []
  tokenBlock :: tokenBlock :: resume

/-- Block tokens on all six cell-ring lanes, counted per lane (R255, R256). -/
def rawTokens (s : State) : State :=
  let (w, s1) := freeWord s
  (List.range 6).foldl (fun s l =>
    (emit (.blockToken l (tokenBlocks (s.ring.getD l RingDir.reset).begun (w.toNat >>> (4 * l)))) s).count (RING_TOKCNT_COUNT l)) s1

/-- Block tokens, which a yielded unit does not send (R67). -/
def blockTokens (s : State) : State := if s.permit.yielded then s else rawTokens s

/-- Assert GRID_OPEN, which a yielded unit leaves deasserted (R67).
(DESIGN CHOICE: log entry 16.) -/
def assertOpen (s : State) : State := if s.permit.yielded then s else { s with pwr.gridOpen := some true }

/-- The shutter closes (R63): tokens, GRID_OPEN, the block control from the next pick on, the event of source 10. A yielded unit's
shutter counts as closed already; once it has reopened, a further closure acts in full (R67). -/
def closeShutter (s : State) : State :=
  if s.flag SHUTTLE_F_STAT_SHUT then s
  else
    let s1 := { rawTokens s with pwr.gridOpen := some true, permit := { s.permit with forced := s.permit.yielded } }
    let s2 := ((s1.put SHUTTLE_F_STAT_SHUT 1).put SHUTTLE_F_SHUTW_SWARP (swarp s).toNat).count SHUTTLE_F_SHUTCNT_COUNT
    raiseF 10 1 0 (setEvt 0x051 8 s2)

/-- The short warp on the H-die, that of the warp image, stored into a register (R140). -/
def putHSwarp (f : Fld) (s : State) : State := s.put f (hSwarp s).toNat

/-- A write of the H-die's own goes out in its next slot (R461, R465); one that waits there already takes the last place.
(DESIGN CHOICE: log entry 23.) -/
def nextSlot (p : Payload) (s : State) : State := { s with link.soon := s.link.soon.filter (· != p) ++ [p] }

/-- The H-die passes the SEAL permit to the F-die in its next slot (R465), which while the link is down is the first after the link-up.
(DESIGN CHOICE: log entry 23.) -/
def passSeal (s : State) : State := nextSlot (.postedWr GRIDFN_PERMIT_BITS.addr [word (s.get SEAL_STAT_PERMIT)]) s

/-- A demand is recognised (R459, R461): it is counted, journalled from source 108; in RUN the permit stops, source 10 is raised and the
yield is disarmed by a write in the next shuttle slot, which while the link is down is the first after the link-up. A demand during the
self-test ends it; in every case the block is STOPPED.
(DESIGN CHOICE: log entry 33.) (DESIGN CHOICE: log entry 58.) -/
def demand (code chans : Nat) (s : State) : State :=
  let running := s.get SAFETY_STAT_BLOCK = 1
  let s1 := (putHSwarp SAFETY_DEMW_SWARP (s.count SAFETY_DEMCNT_COUNT))
  let s2 := raiseH 108 1 (code + 8 * chans) (setEvt 0x014 1 s1)
  let s3 := (s2.put SAFETY_STAT_BLOCK 0).put SAFETY_STAT_PERMIT 0
  let s4 := if running then raiseH 10 2 code (s3.put SHUTTLE_H_STAT_PERMIT 0) else s3
  nextSlot (.postedWr 0x51050 [0]) s4

/-- A condition that sets the block control in every downlink from the next pick on (R63, R167, R168). A unit that yields hands its cells
over in the bursts it still sends: it does not block them (R66, R279).
(DESIGN CHOICE: log entry 44.) -/
def blockDemand (s : State) : Bool :=
  (s.flag SHUTTLE_F_STAT_SHUT && !(s.permit.yielded && s.twin.yieldAt.isSome)) || s.pwr.forceBlock || s.weave.fbBlocked

/-- Block control is forced in every downlink: by a condition that stood when the pick began and stands, or in the idle plan (R148).
(DESIGN CHOICE: log entry 44.) -/
def blockForced (s : State) : Bool := (s.pwr.blockOn && blockDemand s) || !s.flag WEAVE_STAT_RUN

/-- A converter fault with a cause of Table 5-12 (R166): the fallback starts at the next pick. With no image running the cause is
recorded and nothing starts, but a cold switch that is loading will start the fallback. While the fallback runs, or is already to
start, nothing changes.
(DEDUCED: log entry 15.) (DEDUCED: log entry 65.) -/
def converterFault (cause : Nat) (s : State) : State :=
  if s.flag WEAVE_STAT_FB || s.weave.fbPend.isSome || s.weave.fbWhileLoading.isSome then s
  else if s.flag WEAVE_STAT_RUN then { s with weave.fbPend := some cause }
  else
    let s1 := raiseF 19 1 (cause + 256) (s.put WEAVE_STAT_FBCAUSE cause)
    if s.weave.loading.isSome then { s1 with weave.fbWhileLoading := some cause } else s1

/-- A cluster is stopped (R168): tokens, GRID_OPEN and the block control; the other clusters run the fallback with references at zero. -/
def clusterStop (c : Nat) (s : State) : State :=
  let f := if s.flag WEAVE_STAT_FB then 0 else s.weave.fbFactor
  let wv := { s.weave with stopped := s.weave.stopped.set c true, fbFactor := f }
  let s1 := assertOpen (blockTokens { s with weave := wv, pwr.forceBlock := true })
  converterFault 7 (s1.put (REED_CLST_MODE c) 3)

/-- The porter writes a retained entry (R516, Table 17-10); a porter without a source writes none. -/
def retain (code data : Nat) (s : State) : State :=
  if !s.porter.on then s
  else
    let q := s.porter.next
    let fl := bit (!s.flag PORTER_STAT_RTCVALID) + 2 * s.get PORTER_STAT_SRC
    let es := ((⟨q, s.porter.rtc, fl, code, data % 2 ^ 32⟩ : RjEntry) :: s.porter.rj).take 512
    let dn := if s.pwr.h = .run then s.porter.down else min (s.porter.down + 1) 0xFFFF
    let s1 := { s with porter := { s.porter with rj := es, next := (q + 1) % 2 ^ 32, down := dn } }
    let s2 := if s.porter.rj.length = 512 then s1.count PORTER_RJOVWR_COUNT else s1
    (s2.put PORTER_RJHEAD_SEQ q).put PORTER_RJTAIL_SEQ ((es.getLast?.map (·.seq)).getD 0)

/-- Load a LO/HI shadow of an agent (R120, R137). -/
def loadShadow (agent lo : Nat) (ws : List Word) (s : State) : State :=
  { s with host.shadows := ((agent, lo), ws) :: s.host.shadows.filter (·.1 != (agent, lo)) }

/-- Word `i` of a shadow; 0 before the first capture. -/
def shadow (s : State) (agent lo i : Nat) : Word := ((s.host.shadows.lookup (agent, lo)).getD []).getD i 0

/-! ### The link goes down -/

/-- Frame numbers a to b - 1 as a count, modulo 2^16. -/
def seqDiff (b a : Nat) : Nat := (b + 0x10000 - a % 0x10000) % 0x10000

/-- The sender's sequenced frames that the receiver has not acknowledged, oldest first (R55, R56). -/
def unacked (d : Dir) : List Payload := d.unack.reverse.map (·.pay)

/-- The unacknowledged frames, newest first, that remain after an ACK of `a`: those from the frame numbered `a` on. -/
def fromFrame (a : Nat) : List Frame → List Frame
  | [] => []
  | f :: t => if f.seq = a then [f] else f :: fromFrame a t

/-- A sender takes an ACK: frames before the number it names have arrived (Table 2-4). A number that names no frame outstanding changes
nothing. -/
def Dir.ack (a : Nat) (d : Dir) : Dir :=
  if a = d.txNext then { d with unack := [] }
  else if d.unack.any (·.seq == a) then { d with unack := fromFrame a d.unack } else d

/-- Payloads that count as dropped host writes when the link goes down (R55). -/
def isWrite : Payload → Bool
  | .postedWr .. => true
  | .stagedWr .. => true
  | .bulk .. => true
  | _ => false

/-- Put an event into the backlog at link loss (R56). -/
def backlogPut (p : Payload) (s : State) : State :=
  match p with
  | .event e =>
    if s.link.backlog.length < 1024 then
      { s with link.backlog := s.link.backlog ++ [{ e with flags := 1 }] }.count SHUTTLE_F_BACKLOG_HELD
    else discard e s
  | _ => s

/-- The level source whose number a dropped write carries to `WARDEN.IRQIN` is marked: it leaves its hold (R105). -/
def irqDropped (p : Payload) (s : State) : State :=
  match p with
  | .postedWr a [w] =>
    if a = WARDEN_IRQIN_SRC.addr && s.intc.held.contains w.toNat then { s with intc := { s.intc with dropped := insertNat w.toNat s.intc.dropped } }
    else s
  | _ => s

/-- The F-die can be reached: sources whose frame was dropped leave their hold, and pend again while their level is asserted (R105). -/
def rearm (s : State) : State :=
  s.intc.dropped.foldl (fun s n =>
    let s1 := { s with intc := { s.intc with held := s.intc.held.filter (· != n) } }
    if s1.intc.level.contains n && !s1.flag (activeBit n) then announce s1 n (s1.put (pendBit n) 1) else s1)
    { s with intc := { s.intc with dropped := [] } }

/-- The accumulator `d` loom clocks before loom clock `lc` of the pick: the interval is converted part by part, each part with the INC
of its own pick (R118). -/
def accBefore (lc : Nat) (d : Rat) (s : State) : Nat :=
  let inc : Nat := s.get WARP_INC_INC
  let a := s.warp.acc.toNat + lc * inc
  let here : Rat := (a % 2 ^ 44 : Nat) / (inc : Rat)
  let part := if d ≤ here then d * inc else (a % 2 ^ 44 : Nat) + (d - here) * s.warp.incPrev
  a - (lsb part).toNat

/-- Loom clocks from the accumulator's value to the next pick boundary at `inc`. -/
def clocksToPick (acc inc : Nat) : Nat := if inc = 0 then 0 else (2 ^ 44 - acc % 2 ^ 44 + inc - 1) / inc

/-- Loom clocks of the present pick (R113, R115). -/
def pickLen (s : State) : Nat := clocksToPick s.warp.acc.toNat (s.get WARP_INC_INC)

end Sys2Proof.Machine
end

