-- ==== Sys2Proof/Machine/ImageBytes.lean ====
section
/-! DEFINITION. The bytes of a Weave image (R170–R174, Tables 5-8 to 5-11a, 13-2): what the hardware reads from the bytes of a bank, where
every byte that has not been written is 0x00 (R175). -/

namespace Sys2Proof.Machine

/-! ### Byte strings that list their bytes other than 0x00 -/

/-- The byte at an offset. -/
def byteAt : List Host.Cell → Nat → Byte
  | [], _ => 0
  | (b, v) :: t, a => if b = a then v else byteAt t a

/-- The number in the `k` bytes from offset `a` on (R8). -/
def numAt (cs : List Host.Cell) (a k : Nat) : Nat := leNat ((List.range k).map fun i => byteAt cs (a + i))

/-- The part of a string from an offset on, with offsets in the part. -/
def subBytes (cs : List Host.Cell) (off len : Nat) : List Host.Cell :=
  (cs.filter fun c => off ≤ c.1 && c.1 < off + len).map fun c => (c.1 - off, c.2)

/-- Every byte of a string of length `n`. -/
def allBytes (cs : List Host.Cell) (n : Nat) : List Byte := go n 0 cs
where
  go : Nat → Nat → List Host.Cell → List Byte
  | 0, _, _ => []
  | n + 1, a, [] => 0 :: go n (a + 1) []
  | n + 1, a, (b, v) :: t => if b = a then v :: go n (a + 1) t else 0 :: go n (a + 1) ((b, v) :: t)

/-- The words of a string that are not 0, by word index; offsets rise. -/
def cellWords (cs : List Host.Cell) : List (Nat × Word) :=
  (cs.foldl (fun (ws : List (Nat × Word)) c =>
    let v : Word := BitVec.shiftLeft (c.2.setWidth 32) (8 * (c.1 % 4))
    match ws with
    | (n, w) :: t => if n = c.1 / 4 then (n, w ||| v) :: t else (c.1 / 4, v) :: (n, w) :: t
    | [] => [(c.1 / 4, v)]) []).reverse

/-! ### Plans and maps (Tables 5-10, 5-11a, 13-2) -/

/-- A loom heddle entry. -/
def heddleOf (x : Nat) : Heddle :=
  let kind := bitsAt x 26 3
  ⟨bitsAt x 0 13, bitsAt x 13 13, kind, x.testBit 29, x.testBit 30, if kind < 2 then bitsAt x 32 13 else 0,
   if kind = 3 then bitsAt x 32 4 else 0, if kind = 3 then bitsAt x 36 4 else 0⟩

/-- A sample entry. -/
def sampleOf (x : Nat) : SampleEntry := ⟨bitsAt x 0 16, bitsAt x 16 3, bitsAt x 19 4, bitsAt x 23 4 + 1, bitsAt x 32 8⟩

/-- `n` plans one after another, each a header with its count and its entries. -/
def plansOf {α : Type} (f : Nat → α) : Nat → List Host.Cell → List (List α)
  | 0, _ => []
  | n + 1, cs =>
    let k := numAt cs 0 1
    ((List.range k).map fun i => f (numAt cs (8 + 8 * i) 8)) :: plansOf f n (subBytes cs (8 + 8 * k) (2 ^ 22))

/-- The plan number of every pick index; a map of zeros is one that repeats its first entry. -/
def mapOf (cs : List Host.Cell) : List Nat :=
  if cs.isEmpty then [0] else (allBytes cs 4096).map fun b => b.toNat % 64

/-- The sequence entries that are not 0. -/
def adcSeqOf (cs : List Host.Cell) : List AdcSeq :=
  ((cellWords cs).filter (·.1 < 128)).map fun p => ⟨p.1 / 16, p.1 % 16, p.2.toNat⟩

/-- Parameter map entries. -/
def pmapOf (cs : List Host.Cell) (n : Nat) : List ParamEntry :=
  (List.range n).map fun i =>
    let x := subBytes cs (16 * i) 16
    ⟨numAt x 0 2, numAt x 2 2, numAt x 4 1, numAt x 5 1, numAt x 8 4, numAt x 12 4⟩

/-! ### The image -/

/-- The section directory (Table 5-9a), used entries only. -/
def directory (h : List Host.Cell) : List Section :=
  (List.range 32).filterMap fun i =>
    let e := subBytes h (0x200 + 16 * i) 16
    if numAt e 0 1 = 0 then none else some ⟨numAt e 0 1, numAt e 1 1, numAt e 4 4, numAt e 8 4, numAt e 12 4⟩

/-- The first section of a type and cluster, if the image has it. -/
def sectionOf (img : List Section) (ty c : Nat) : Option Section := img.find? fun x => x.ty == ty && x.cluster == c

/-- The bytes of a section; none where it is missing. -/
def sectionBytes (cs : List Host.Cell) (dir : List Section) (ty c : Nat) : List Host.Cell :=
  match sectionOf dir ty c with
  | some x => subBytes cs x.offset x.length
  | none => []

/-- Words of every section of a type and cluster at their LOAD addresses: (byte address, word). -/
def loadWords (cs : List Host.Cell) (dir : List Section) (ty c : Nat) : List (Nat × Word) :=
  (dir.filter fun x => x.ty == ty && x.cluster == c).flatMap fun x =>
    (cellWords (subBytes cs x.offset x.length)).map fun p => (x.load + 4 * p.1, p.2)

/-- The image that the bytes of a bank hold (R170), with the profile of a grid-code region (R463); `o` is what the sections hold whose layout the spec does not give, of which an image has as
many entries as the LENGTH of a section that its directory lists.
(DESIGN CHOICE: log entry 64.) -/
def readImage (cs : List Host.Cell) (region : Nat) (o : OpenSections) : Image :=
  let h := subBytes cs 0 1024
  let ilen := numAt h 8 4
  let flags := numAt h 0xC 4
  let dir := directory h
  let sec := fun ty c => sectionBytes cs dir ty c
  let each := fun {α : Type} (f : Nat → α) => (List.range 4).map f
  { magic := numAt h 0 4, hver := numAt h 4 2, hlen := numAt h 6 2, ilen := ilen, twin := flags.testBit 0, unit := flags.testBit 1,
    f60 := flags.testBit 2, imgid := numAt h 0x10 8, part := numAt h 0x18 2, minstep := numAt h 0x1A 1,
    keyHash := (List.range 12).map fun i => word (numAt cs (ilen - 160 + 4 * i) 4),
    sig := (List.range 40).map fun i => word (numAt cs (ilen - 160 + 4 * i) 4),
    signed := let h := sha384 (allBytes cs (ilen - 160)); (List.range 12).map fun i => word (leAt h (4 * i) 4),
    hash := leNat (sha384 (allBytes cs ilen)),
    twinHash := leNat (sha384 ((allBytes cs (ilen - 160)).modify 0xC fun b => b &&& 0xFD#8)),
    pmapH := numAt h 0x20 48, layH := numAt h 0x50 48, cmapH := numAt h 0x80 48, compat := each fun i => numAt h (0xB0 + 48 * i) 48,
    codelen := each fun c => numAt h (0x170 + 2 * c) 2, rxdone := each fun c => numAt h (0x178 + 2 * c) 2, urgmask := numAt h 0x180 1,
    nsig := numAt h 0x181 1, slackjob := each fun c => bitsAt (numAt h 0x182 2) (4 * c) 4, sections := dir,
    plans := each fun c => plansOf heddleOf (numAt h (0x184 + c) 1) (sec 4 c), pickmap := each fun c => mapOf (sec 5 c),
    splans := plansOf sampleOf (if (sectionOf dir 6 0xFF).isSome then numAt h 0x188 1 else 0) (sec 6 0xFF), smap := mapOf (sec 7 0xFF),
    adcseq := adcSeqOf (sec 8 0xFF), adcPairs := numAt (sec 8 0xFF) 512 1 % 16,
    pmap := pmapOf (sec 9 0xFF) (((sectionOf dir 9 0xFF).map (·.length)).getD 0 / 16), paramdef := cellWords (sec 0xA 0xFF),
    code := each fun c => cellWords (sec 1 c), dataInit := each fun c => loadWords cs dir 2 c,
    angleInit := each fun c => (loadWords cs dir 3 c).map fun p => (p.1 / 4, p.2),
    conv := o.conv, shared := o.shared.take (((sectionOf dir 0xC 0xFF).map (·.length)).getD 0 / 8),
    jobs := (List.range 4).flatMap fun c => (o.jobs.filter (·.cluster == c)).take (((sectionOf dir 0xD c).map (·.length)).getD 0 / 16),
    telem := each fun c => if (sectionOf dir 0xD c).isSome then o.telem.getD c 0 else 0, regInit := o.regInit.getD region [] }

end Sys2Proof.Machine
end

