-- ==== Sys2Proof/Machine/Analog.lean ====
section
/-! DEFINITION. H-die conversions and their windows (R487), and the Louvre channel's states and faults (R473, R479), which the heat
chapter needs too. -/

namespace Sys2Proof.Machine

open Host (Outcome)

/-- A window compares a new result of its input (Table 16-8): each new departure from the band raises event 0x0001 of source 93. -/
def windowCheck (input code w : Nat) (s : State) : State :=
  if !s.flag (HADC_WIN_EN w) || s.get (HADC_WIN_INPUT w) ≠ input then s
  else
    let out := decide (code < s.get (HADC_WIN_LO w)) || decide (s.get (HADC_WIN_HI w) < code)
    let was := s.analog.winOut.testBit w
    if out == was then s
    else
      let s1 := { s with analog.winOut := s.analog.winOut ^^^ 2 ^ w }
      if out then raiseH 93 1 (w + 16 * code) (setEvt 0x01F (2 ^ w) s1) else s1

/-- A conversion of HAIN_i has its result (R487, Table 16-8). -/
def hadcResult (i code : Nat) (s : State) : State :=
  let c := code % 4096
  let s1 := ((s.put (HADC_RES_CODE i) c).put (HADC_RES_VALID i) 1).countWrap (HADC_RES_SEQ i)
  (List.range 4).foldl (fun s w => windowCheck i c w s) (s1.countWrap HADC_STAT_CONV)

/-- Change the internal part of channel n. -/
def modLouv (n : Nat) (f : LouvSt → LouvSt) (s : State) : State := { s with louv := s.louv.modify n f }
def louvAt (s : State) (n : Nat) : LouvSt := s.louv.getD n LouvSt.reset

/-- A Louvre channel changes its state (R473). Entries into CATCH are counted. -/
def louvState (n st : Nat) (s : State) : State :=
  let old := s.get (LOUVRE_STAT_STATE n)
  if old = st then s
  else
    let s1 := s.put (LOUVRE_STAT_STATE n) st
    let s2 := if st = 1 then modLouv n (fun l => { l with against := 0 }) (s1.count (LOUVRE_CNT_STARTS n)) else s1
    raiseH (120 + n) 1 (st + 8 * old) (setEvt (0x18 + n) 1 s2)

/-- All gates of the channel are off from now on: no low side conducts. -/
def gatesOff (n : Nat) (s : State) : State :=
  modLouv n (fun l => { l with duty := 0, trip := false, tripRun := false, ending := false }) (s.put (LOUVRE_DUTY_DUTY n) 0)

/-- A channel faults (R479): phase 3 = none. The half-bridges that have not faulted drive to the end of the PWM period, but at the hard limit
of the D-die (cause 0x6), which holds every gate low (R421). -/
def louvFault (n phase cause : Nat) (s : State) : State :=
  let st := s.get (LOUVRE_STAT_STATE n)
  let s0 := if cause ≠ 6 && ((2 ≤ st && st ≤ 4) || (st = 6 && (louvAt s n).ending)) then modLouv n (fun l => { l with ending := true }) s
            else gatesOff n s
  let s1 := ((s0.put (LOUVRE_FAULT_PHASE n) phase).put (LOUVRE_FAULT_CAUSE n) cause).count (LOUVRE_FAULT_COUNT n)
  let s2 := if phase < 3 then s1.put ⟨(LOUVRE_STAT_HBFLT n).addr, 7 + phase, 1⟩ 1 else s1
  louvState n 6 (raiseH (120 + n) 2 (phase + 4 * cause) (setEvt (0x18 + n) 2 s2))

end Sys2Proof.Machine
end

