-- ==== Sys2Proof/Machine/Flags.lean ====
section
/-! DEFINITION. The loom engine's arithmetic and the flags it sets: Q1.31 and accumulator rounding and limits (R203, R204, R206), FP32
(R205), and the exceptional results and flag bits of Table 6-11b (R207). -/

namespace Sys2Proof.Machine

/-! ### Flag masks (Table 6-11b) -/

abbrev fQSAT : Nat := 1
abbrev fQOVF : Nat := 2
abbrev fAOVF : Nat := 4
abbrev fFINV : Nat := 8
abbrev fFDZ : Nat := 16
abbrev fFOVF : Nat := 32
abbrev fFUNF : Nat := 64
abbrev fFINX : Nat := 128
abbrev fFDEN : Nat := 256

/-- MODE's fields (Table 6-11a). -/
abbrev qrnd (mode : Nat) : Nat := mode % 4
abbrev qsat (mode : Nat) : Bool := mode / 4 % 2 == 1
abbrev frnd (mode : Nat) : Bool := mode / 8 % 2 == 1
abbrev ftz (mode : Nat) : Bool := mode / 16 % 2 == 1

/-! ### Q1.31 and accumulators -/

/-- x / 2^k rounded under QRND: 0 half to even, 1 half toward +∞, 2 toward −∞, 3 toward zero. -/
def roundQ (r k : Nat) (x : Int) : Int :=
  let fl := x / (2 ^ k : Nat)
  let rem := x % (2 ^ k : Nat)
  if r = 2 then fl
  else if r = 3 then (if x < 0 && rem != 0 then fl + 1 else fl)
  else
    let tw := 2 * rem
    let m : Int := (2 ^ k : Nat)
    if tw < m then fl else if m < tw then fl + 1
    else if r = 1 then fl + 1 else if fl % 2 = 0 then fl else fl + 1

/-- A Q1.31 result limited under MODE.QSAT, with its flag. -/
def limitQ (mode : Nat) (x : Int) : Word × Nat :=
  if -(2 ^ 31) ≤ x && x < 2 ^ 31 then (BitVec.ofInt 32 x, 0)
  else if qsat mode then ((if x < 0 then 0x80000000#32 else 0x7FFFFFFF#32), fQSAT)
  else (BitVec.ofInt 32 x, fQOVF)

/-- A sum in the accumulator: 72 bits, wrapping, with AOVF when it leaves the range (R204). -/
def accum (x : Int) : BitVec 72 × Nat :=
  (BitVec.ofInt 72 x, if -(2 ^ 71) ≤ x && x < 2 ^ 71 then 0 else fAOVF)

/-! ### FP32 -/

/-- A binary32 operand: NaN (signalling or not), infinity, or m × 2^e with a sign. -/
inductive Fp where
  | nan (sig : Bool)
  | inf (neg : Bool)
  | fin (neg : Bool) (m : Nat) (e : Int)
  deriving DecidableEq, Repr

abbrev fpNaN : Word := 0x7FC00000#32
def fpInf (neg : Bool) : Word := if neg then 0xFF800000#32 else 0x7F800000#32
def fpZero (neg : Bool) : Word := if neg then 0x80000000#32 else 0#32

/-- Read an operand; with FTZ a denormal is read as a signed zero and sets FDEN. -/
def fpRead (mode : Nat) (w : Word) : Fp × Nat :=
  let neg := w.getLsbD 31
  let ex := bitsAt w.toNat 23 8
  let m := bitsAt w.toNat 0 23
  if ex = 255 then (if m = 0 then (.inf neg, 0) else (.nan (m < 2 ^ 22), 0))
  else if ex = 0 then (if m != 0 && ftz mode then (.fin neg 0 0, fFDEN) else (.fin neg m (-149), 0))
  else (.fin neg (m + 2 ^ 23) (ex - 150), 0)

/-- m × 2^e brought to units of 2^q, under FRND: nearest even, or toward zero; and whether that was inexact. -/
def fpUnits (rtz : Bool) (m : Nat) (e q : Int) : Nat × Bool :=
  if q ≤ e then (m <<< (e - q).toNat, false)
  else
    let sh := (q - e).toNat
    let fl := m >>> sh
    let rem := m % 2 ^ sh
    let up := !rtz && (2 ^ sh < 2 * rem || (2 * rem == 2 ^ sh && fl % 2 == 1))
    (if up then fl + 1 else fl, rem != 0)

/-- Round ±m × 2^e (m not 0) to binary32 under MODE, with flags (Table 6-11b). -/
def fpRound (mode : Nat) (neg : Bool) (m : Nat) (e : Int) : Word × Nat :=
  let top := (m.log2 : Int) + e
  let q := max (top - 23) (-149)
  let (u, inex) := fpUnits (frnd mode) m e q
  let (u24, _) := fpUnits (frnd mode) m e (top - 23)
  let tiny := top < -126 && !(Config.tinyAfter && top == -127 && u24 == 2 ^ 24)
  let sgn : Word := if neg then 0x80000000#32 else 0
  if u != 0 && 128 ≤ (u.log2 : Int) + q then
    ((if frnd mode then sgn ||| 0x7F7FFFFF#32 else fpInf neg), fFOVF ||| fFINX)
  else if tiny && ftz mode then (fpZero neg, fFUNF ||| fFINX ||| fFDEN)
  else
    (sgn ||| BitVec.ofNat 32 ((q + 150).toNat * 2 ^ 23 + u - 2 ^ 23),
     (if inex then fFINX else 0) ||| (if tiny && inex then fFUNF else 0))

/-- The result of FRCP or FRSQ from the exact value rounded down to `u` units of 2^q (`ex`: without a remainder): one of the results within
1 unit in the last place, as the part picks it by `step`, whatever FRND is (R205); flags, overflow and tiny results by Table 6-11b.
(DESIGN CHOICE: log entry 5.) -/
def fpNear (mode : Nat) (neg : Bool) (u : Nat) (q : Int) (ex : Bool) (step : Nat) : Word × Nat :=
  let base := (q + 150).toNat * 2 ^ 23 + u - 2 ^ 23
  let r := if ex then base + step % 3 - 1 else base + step % 2
  let inex := !ex || step % 3 != 1
  let tiny := if Config.tinyAfter then r < 2 ^ 23 else base < 2 ^ 23
  let sgn : Word := if neg then 0x80000000#32 else 0
  if 0xFF * 2 ^ 23 ≤ r then ((if frnd mode then sgn ||| 0x7F7FFFFF#32 else fpInf neg), fFOVF ||| fFINX)
  else if tiny && ftz mode then (fpZero neg, fFUNF ||| fFINX ||| fFDEN)
  else (sgn ||| BitVec.ofNat 32 r, (if inex then fFINX else 0) ||| (if tiny && inex then fFUNF else 0))

/-- 1 / (m × 2^e), rounded down to units of 2^q, with q and whether that is exact; m is not 0. -/
def recipUnits (m : Nat) (e : Int) : Nat × Int × Bool :=
  let top := -(m.log2 : Int) - e - (if m = 2 ^ m.log2 then 0 else 1)
  let q := max (top - 23) (-149)
  let n := 2 ^ (-e - q).toNat
  (n / m, q, n % m == 0)

/-- The greatest r below 2^k above `r` with r² × m ≤ n, bit by bit. -/
def rootBits (m n : Nat) : Nat → Nat → Nat
  | 0, r => r
  | k + 1, r => rootBits m n k (if (r + 2 ^ k) * (r + 2 ^ k) * m ≤ n then r + 2 ^ k else r)

/-- 1 / √(m × 2^e), rounded down to units of 2^q, with q and whether that is exact; m is not 0. -/
def rootUnits (m : Nat) (e : Int) : Nat × Int × Bool :=
  let l := (m.log2 : Int) + e
  let top := if l % 2 = 0 then (if m = 2 ^ m.log2 then -(l / 2) else -(l / 2) - 1) else -((l + 1) / 2)
  let q := top - 23
  let n := 2 ^ (-e - 2 * q).toNat
  let u := rootBits m n 25 0
  (u, q, u * u * m == n)

/-- A rounded result, or a zero of a given sign when it is exactly 0. -/
def fpSigned (mode : Nat) (zeroNeg : Bool) (x : Int) (e : Int) : Word × Nat :=
  if x = 0 then (fpZero zeroNeg, 0) else fpRound mode (x < 0) x.natAbs e

/-- The value of a finite operand in units of 2^q, q not above its own exponent. -/
def fpInt (neg : Bool) (m : Nat) (e q : Int) : Int :=
  let v : Int := (m <<< (e - q).toNat : Nat)
  if neg then -v else v

/-- Whether an operand is a signalling NaN. -/
def Fp.snan : Fp → Bool
  | .nan b => b
  | _ => false

def Fp.isNan : Fp → Bool
  | .nan _ => true
  | _ => false

/-- x + y. -/
def fpAdd (mode : Nat) (x y : Fp) : Word × Nat :=
  match x, y with
  | .nan _, _ => (fpNaN, if x.snan || y.snan then fFINV else 0)
  | _, .nan _ => (fpNaN, if x.snan || y.snan then fFINV else 0)
  | .inf a, .inf b => if a = b then (fpInf a, 0) else (fpNaN, fFINV)
  | .inf a, _ => (fpInf a, 0)
  | _, .inf b => (fpInf b, 0)
  | .fin a m e, .fin b n f =>
    let q := min e f
    fpSigned mode (a && b) (fpInt a m e q + fpInt b n f q) q

/-- −x. -/
def Fp.neg : Fp → Fp
  | .nan b => .nan b
  | .inf a => .inf (!a)
  | .fin a m e => .fin (!a) m e

/-- The exact product, for finite operands; NaN and infinities by IEEE 754, with FINV for 0 × ∞ and signalling NaN. -/
def fpProd (x y : Fp) : Fp × Nat :=
  match x, y with
  | .nan _, _ => (.nan false, if x.snan || y.snan then fFINV else 0)
  | _, .nan _ => (.nan false, if x.snan || y.snan then fFINV else 0)
  | .inf a, .inf b => (.inf (a != b), 0)
  | .inf a, .fin b m _ => if m = 0 then (.nan false, fFINV) else (.inf (a != b), 0)
  | .fin a m _, .inf b => if m = 0 then (.nan false, fFINV) else (.inf (a != b), 0)
  | .fin a m e, .fin b n f => (.fin (a != b) (m * n) (e + f), 0)

/-- A value rounded to a result. -/
def fpDeliver (mode : Nat) : Fp → Word × Nat
  | .nan _ => (fpNaN, 0)
  | .inf a => (fpInf a, 0)
  | .fin a m e => if m = 0 then (fpZero a, 0) else fpRound mode a m e

/-- x × y. -/
def fpMul (mode : Nat) (x y : Fp) : Word × Nat :=
  let (p, fl) := fpProd x y
  let (w, fl2) := fpDeliver mode p
  (w, fl ||| fl2)

/-- z + x × y with one rounding. -/
def fpFma (mode : Nat) (z x y : Fp) : Word × Nat :=
  let (p, fl) := fpProd x y
  let fl := fl ||| (if z.snan then fFINV else 0)
  match p with
  | .nan _ => (fpNaN, fl)
  | p => let (w, fl2) := fpAdd mode z p; (w, fl ||| fl2)

/-- x < y for operands that are not NaN; zeros are equal. -/
def fpLt (x y : Fp) : Bool :=
  match x, y with
  | .inf a, .inf b => a && !b
  | .inf a, _ => a
  | _, .inf b => !b
  | .fin a m e, .fin b n f => let q := min e f; fpInt a m e q < fpInt b n f q
  | _, _ => false

def fpEq (x y : Fp) : Bool := !x.isNan && !y.isNan && !fpLt x y && !fpLt y x

/-- Table 6-4 FCMP: EQ, NE, LT, LE, GT, GE; unordered gives 1 for NE and 0 otherwise. -/
def fpCond (f : Nat) (x y : Fp) : Bool :=
  if x.isNan || y.isNan then f == 1
  else if f = 0 then fpEq x y else if f = 1 then !fpEq x y else if f = 2 then fpLt x y
  else if f = 3 then !fpLt y x else if f = 6 then fpLt y x else !fpLt x y

end Sys2Proof.Machine
end

