-- ==== Sys2Proof/Machine/Operands.lean ====
section
/-! DEFINITION. The operand forms of slot words (Table 6-3), the guard (R191), the context partition (R186), and the results in flight
(R197–R199). -/

namespace Sys2Proof.Machine

/-- IMM10 and IMM16, sign-extended (R190), and unsigned forms of the BR slot. -/
def imm10 (w : SlotWord) : Int := toSigned 10 (w.b * 16 + w.f)
def imm16u (w : SlotWord) : Nat := w.a * 1024 + w.b * 16 + w.f
def imm16 (w : SlotWord) : Int := toSigned 16 (imm16u w)
/-- COUNT [21:12] and LEN [11:0] + 1 of LOOPI, LEN of LOOPR. -/
def loopCount (w : SlotWord) : Nat := w.d * 16 + w.a / 4
def loopLen (w : SlotWord) : Nat := w.a % 4 * 1024 + w.b * 16 + w.f + 1

/-- Registers read at issue (R197). -/
def Eng.rg (e : Eng) (n : Nat) : Word := e.g.getD n 0
def Eng.rp (e : Eng) (n : Nat) : Bool := if n = 0 then true else e.p.getD n false
def Eng.ra (e : Eng) (n : Nat) : BitVec 72 := e.a.getD n 0
def Eng.racc (e : Eng) (n : Nat) : BitVec 72 := e.acc.getD n 0

/-- The issuing context's copies (R186). -/
def Eng.mode (e : Eng) : Nat := if e.bg then e.modeB else e.modeF
def Eng.fl (e : Eng) : Nat := if e.bg then e.flagsB else e.flagsF
/-- The link word of the running context (DESIGN CHOICE: log entry 19). -/
def Eng.lnk (e : Eng) : Nat := if e.bg then e.lnkB else e.lnkF
def Eng.fcap (e : Eng) : Word × Word := if e.bg then e.fcapB else e.fcapF
def Eng.shadow (e : Eng) : Option (Nat × Nat) := if e.bg then e.shadowB else e.shadowF

def Eng.setShadow (x : Option (Nat × Nat)) (e : Eng) : Eng := if e.bg then { e with shadowB := x } else { e with shadowF := x }
def Eng.setMode (m : Nat) (e : Eng) : Eng := if e.bg then { e with modeB := m } else { e with modeF := m }
def Eng.setLnk (n : Nat) (e : Eng) : Eng := if e.bg then { e with lnkB := n } else { e with lnkF := n }

/-- The guard of an operation (R191). -/
def guardOf (e : Eng) (w : SlotWord) : Bool := e.rp w.pr != w.pn

/-- The partition (R186): what the running context owns. -/
def ownsG (bg : Bool) (n : Nat) : Bool := if bg then 48 ≤ n && n < 64 else n < 48
def ownsP (bg : Bool) (n : Nat) : Bool := if bg then n == 6 || n == 7 else 1 ≤ n && n ≤ 5
def ownsA (bg : Bool) (n : Nat) : Bool := if bg then n == 3 else n < 3

/-- What an operation sees at its issue: the engine as it stood, its slot word, and the attribution of its bundle. -/
structure Issue where
  e : Eng
  w : SlotWord
  attr : Attr
  deriving DecidableEq, Repr

def Issue.ga (i : Issue) : Word := i.e.rg i.w.a
def Issue.gb (i : Issue) : Word := i.e.rg i.w.b
def Issue.gd (i : Issue) : Word := i.e.rg i.w.d
def Issue.mode (i : Issue) : Nat := i.e.mode

/-- Put a result in flight: it reads from issue + `lat` on (R197). -/
def fly (i : Issue) (lat : Nat) (d : Dest) (val flags : Nat) (e : Eng) : Eng :=
  { e with flight := e.flight ++ [⟨i.e.now + lat, i.e.now, i.w.slot, i.e.bg, d, val, flags, i.attr⟩] }

/-- A result into g[D], without flags. -/
def toG (i : Issue) (lat : Nat) (w : Word) (e : Eng) : Eng := fly i lat (.g i.w.d) w.toNat 0 e

/-- A result with flags into g[D]. -/
def toGF (i : Issue) (lat : Nat) (r : Word × Nat) (e : Eng) : Eng := fly i lat (.g i.w.d) r.1.toNat r.2 e

/-- A predicate result into p[D[2:0]]. -/
def toP (i : Issue) (lat : Nat) (b : Bool) (flags : Nat) (e : Eng) : Eng := fly i lat (.p (i.w.d % 8)) (bit b) flags e

end Sys2Proof.Machine
end

