-- ==== Sys2Proof/Machine/LoomAlu.lean ====
section
/-! DEFINITION. What each operation of the arithmetic lanes computes (Table 6-4, R203–R207), and how long it takes. -/

namespace Sys2Proof.Machine

/-! ### Integer and logic (L = 1; wrapping, no flags) -/

def semAdd (i : Issue) (e : Eng) : Eng := toG i 1 (i.ga + i.gb) e
def semSub (i : Issue) (e : Eng) : Eng := toG i 1 (i.ga - i.gb) e
def semAddi (i : Issue) (e : Eng) : Eng := toG i 1 (i.ga + BitVec.ofInt 32 (imm10 i.w)) e
def semAnd (i : Issue) (e : Eng) : Eng := toG i 1 (i.ga &&& i.gb) e
def semOr (i : Issue) (e : Eng) : Eng := toG i 1 (i.ga ||| i.gb) e
def semXor (i : Issue) (e : Eng) : Eng := toG i 1 (i.ga ^^^ i.gb) e
def semAndn (i : Issue) (e : Eng) : Eng := toG i 1 (i.ga &&& ~~~i.gb) e
def semShl (i : Issue) (e : Eng) : Eng := toG i 1 (i.ga <<< (i.gb.toNat % 32)) e
def semShr (i : Issue) (e : Eng) : Eng := toG i 1 (i.ga >>> (i.gb.toNat % 32)) e
def semSar (i : Issue) (e : Eng) : Eng := toG i 1 (i.ga.sshiftRight (i.gb.toNat % 32)) e
def shImm (i : Issue) : Nat := (imm10 i.w % 32).toNat
def semShli (i : Issue) (e : Eng) : Eng := toG i 1 (i.ga <<< shImm i) e
def semShri (i : Issue) (e : Eng) : Eng := toG i 1 (i.ga >>> shImm i) e
def semSari (i : Issue) (e : Eng) : Eng := toG i 1 (i.ga.sshiftRight (shImm i)) e
def semMin (i : Issue) (e : Eng) : Eng := toG i 1 (if i.ga.toInt ≤ i.gb.toInt then i.ga else i.gb) e
def semMax (i : Issue) (e : Eng) : Eng := toG i 1 (if i.gb.toInt ≤ i.ga.toInt then i.ga else i.gb) e
def semSel (i : Issue) (e : Eng) : Eng := toG i 1 (if i.e.rp (i.w.f % 8) then i.ga else i.gb) e
def semLi (i : Issue) (e : Eng) : Eng := toG i 1 (BitVec.ofInt 32 (imm16 i.w)) e
def semLih (i : Issue) (e : Eng) : Eng := toG i 1 (BitVec.ofNat 32 (imm16u i.w * 65536 + i.gd.toNat % 65536)) e

/-- A cond B by F (Table 6-4 CMP). -/
def cmpCond (f : Nat) (a b : Word) : Bool :=
  if f = 0 then a == b else if f = 1 then a != b else if f = 2 then a.toInt < b.toInt else if f = 3 then a.toInt ≤ b.toInt
  else if f = 4 then a.toNat < b.toNat else if f = 5 then a.toNat ≤ b.toNat else if f = 6 then b.toInt < a.toInt else b.toInt ≤ a.toInt

def semCmp (i : Issue) (e : Eng) : Eng := toP i 1 (cmpCond i.w.f i.ga i.gb) 0 e

/-! ### Q1.31 and accumulators -/

def semQadd (i : Issue) (e : Eng) : Eng := toGF i 1 (limitQ i.mode (i.ga.toInt + i.gb.toInt)) e
def semQsub (i : Issue) (e : Eng) : Eng := toGF i 1 (limitQ i.mode (i.ga.toInt - i.gb.toInt)) e
def semQabs (i : Issue) (e : Eng) : Eng := toGF i 1 (limitQ i.mode (if i.ga.toInt < 0 then -i.ga.toInt else i.ga.toInt)) e
def semQmul (i : Issue) (e : Eng) : Eng := toGF i 3 (limitQ i.mode (roundQ (qrnd i.mode) 31 (i.ga.toInt * i.gb.toInt))) e

/-- A new value of the accumulate stage: a following QMAC or QMSB accumulates onto it at once, ACR sees it `lat` later (R199). -/
def toAcc (i : Issue) (lat : Nat) (r : BitVec 72 × Nat) (e : Eng) : Eng :=
  let n := i.w.f % 4
  fly i lat (.a n) r.1.toNat r.2 { e with acc := e.acc.set n r.1 }

def semQmac (i : Issue) (e : Eng) : Eng := toAcc i 3 (accum ((i.e.racc (i.w.f % 4)).toInt + i.ga.toInt * i.gb.toInt)) e
def semQmsb (i : Issue) (e : Eng) : Eng := toAcc i 3 (accum ((i.e.racc (i.w.f % 4)).toInt - i.ga.toInt * i.gb.toInt)) e
def semQmz (i : Issue) (e : Eng) : Eng := toAcc i 3 (accum (i.ga.toInt * i.gb.toInt)) e
/-- ACR: a × 2^SH, rounded from multiples of 2^-62 to Q1.31. -/
def semAcr (i : Issue) (e : Eng) : Eng :=
  toGF i 2 (limitQ i.mode (roundQ (qrnd i.mode) 31 ((i.e.ra (i.w.f % 4)).toInt * (2 ^ i.w.b : Nat)))) e
def semAcw (i : Issue) (e : Eng) : Eng := toAcc i 1 (BitVec.ofInt 72 (i.ga.toInt * 2 ^ 31), 0) e

/-! ### FP32 -/

/-- Two operands read under MODE, with the FDEN flag they set. -/
def fpAB (i : Issue) : Fp × Fp × Nat :=
  let (x, f1) := fpRead i.mode i.ga
  let (y, f2) := fpRead i.mode i.gb
  (x, y, f1 ||| f2)

def semFadd (i : Issue) (e : Eng) : Eng :=
  let (x, y, fl) := fpAB i
  let (r, fl2) := fpAdd i.mode x y
  toGF i 4 (r, fl ||| fl2) e

def semFsub (i : Issue) (e : Eng) : Eng :=
  let (x, y, fl) := fpAB i
  let (r, fl2) := fpAdd i.mode x y.neg
  toGF i 4 (r, fl ||| fl2) e

def semFmul (i : Issue) (e : Eng) : Eng :=
  let (x, y, fl) := fpAB i
  let (r, fl2) := fpMul i.mode x y
  toGF i 4 (r, fl ||| fl2) e

def semFma (i : Issue) (e : Eng) : Eng :=
  let (x, y, fl) := fpAB i
  let (z, fl3) := fpRead i.mode i.gd
  let (r, fl2) := fpFma i.mode z x y
  toGF i 5 (r, fl ||| fl2 ||| fl3) e

/-- FMIN (`mx` false) and FMAX: a NaN operand gives the default NaN. -/
def fpPick (mx : Bool) (i : Issue) : Word × Nat :=
  let (x, y, fl) := fpAB i
  if x.isNan || y.isNan then (fpNaN, fl ||| (if x.snan || y.snan then fFINV else 0))
  else
    let first := if fpEq x y then Config.minFirstZero else if mx then fpLt y x else fpLt x y
    let (r, _) := fpDeliver i.mode (if first then x else y)
    (r, fl)

def semFmin (i : Issue) (e : Eng) : Eng := toGF i 2 (fpPick false i) e
def semFmax (i : Issue) (e : Eng) : Eng := toGF i 2 (fpPick true i) e

/-- Sign operations on the word; a NaN result is the default NaN (R205). -/
def signOp (i : Issue) (w : Word) : Word := if (fpRead 0 i.ga).1.isNan then fpNaN else w

def semFneg (i : Issue) (e : Eng) : Eng := toG i 1 (signOp i (i.ga ^^^ 0x80000000#32)) e
def semFabs (i : Issue) (e : Eng) : Eng := toG i 1 (signOp i (i.ga &&& 0x7FFFFFFF#32)) e

def semFcmp (i : Issue) (e : Eng) : Eng :=
  let (x, y, fl) := fpAB i
  toP i 2 (fpCond i.w.f x y) (fl ||| (if x.snan || y.snan then fFINV else 0)) e

/-- A finite value to an integer of units 2^q: toward zero, or under QRND. -/
def fpToInt (trunc : Bool) (mode : Nat) (neg : Bool) (m : Nat) (e q : Int) : Int × Bool :=
  if q ≤ e then (fpInt neg m e q, false)
  else
    let k := (q - e).toNat
    let x : Int := if neg then -(m : Int) else m
    (roundQ (if trunc then 3 else qrnd mode) k x, x % (2 ^ k : Nat) != 0)

/-- FCVT by F: 0 FP32 to Q1.31 (limited whatever QSAT is), 1 Q1.31 to FP32, 2 FP32 to INT32 toward zero, 3 INT32 to FP32. -/
def fcvt (i : Issue) : Word × Nat :=
  if i.w.f = 1 then fpSigned i.mode false i.ga.toInt (-31)
  else if i.w.f = 3 then fpSigned i.mode false i.ga.toInt 0
  else
    let toQ := i.w.f = 0
    let ovf := if toQ then fQSAT else fFINV
    let lim := fun neg : Bool => if neg then 0x80000000#32 else 0x7FFFFFFF#32
    match fpRead i.mode i.ga with
    | (.nan _, fl) => (0, fl ||| fFINV)
    | (.inf neg, fl) => (lim neg, fl ||| ovf)
    | (.fin neg m ex, fl) =>
      let (x, inex) := fpToInt (!toQ) i.mode neg m ex (if toQ then -31 else 0)
      if -(2 ^ 31) ≤ x && x < 2 ^ 31 then (BitVec.ofInt 32 x, fl ||| (if inex then fFINX else 0)) else (lim neg, fl ||| ovf)

def semFcvt (i : Issue) (e : Eng) : Eng := toGF i 3 (fcvt i) e

/-- The reciprocal, or the reciprocal square root, of a finite operand that is not 0 (R205). -/
def recipOut (root : Bool) (i : Issue) (neg : Bool) (m : Nat) (e : Int) : Word × Nat :=
  let x := if root then rootUnits m e else recipUnits m e
  fpNear i.mode neg x.1 x.2.1 x.2.2 (Config.recipStep root i.ga)

def frcpOf (i : Issue) : Word × Nat :=
  match fpRead i.mode i.ga with
  | (.nan sg, fl) => (fpNaN, fl ||| (if sg then fFINV else 0))
  | (.inf neg, fl) => (fpZero neg, fl)
  | (.fin neg m ex, fl) => if m = 0 then (fpInf neg, fl ||| fFDZ) else let (r, f2) := recipOut false i neg m ex; (r, fl ||| f2)

def frsqOf (i : Issue) : Word × Nat :=
  match fpRead i.mode i.ga with
  | (.nan sg, fl) => (fpNaN, fl ||| (if sg then fFINV else 0))
  | (.inf neg, fl) => if neg then (fpNaN, fl ||| fFINV) else (fpZero false, fl)
  | (.fin neg m ex, fl) =>
    if m = 0 then (fpInf false, fl ||| fFDZ) else if neg then (fpNaN, fl ||| fFINV)
    else let (r, f2) := recipOut true i false m ex; (r, fl ||| f2)

def semFrcp (i : Issue) (e : Eng) : Eng := toGF i 8 (frcpOf i) e
def semFrsq (i : Issue) (e : Eng) : Eng := toGF i 8 (frsqOf i) e

end Sys2Proof.Machine
end

