-- ==== Sys2Proof/Machine/LoomMem.lean ====
section
/-! DEFINITION. Loads, stores and the memory spaces of a loom engine (Table 6-5, Table 6-10, R193, R200–R202), and the output records
(Table 6-8). -/

namespace Sys2Proof.Machine

/-! ### Addresses -/

/-- A + 4·IMM10, the DM byte address of the I forms. -/
def dmAddrI (i : Issue) : Nat := (i.ga + BitVec.ofInt 32 (4 * imm10 i.w)).toNat
/-- A + B, the DM byte address of LDX and STX. -/
def dmAddrX (i : Issue) : Nat := (i.ga + i.gb).toNat
/-- A + IMM10, the word address of the other spaces. -/
def wordAddr (i : Issue) : Nat := (i.ga + BitVec.ofInt 32 (imm10 i.w)).toNat

/-- The word index of a DM byte address: bits [1:0] are ignored; of a pair: bits [2:0]. -/
def dmWord (a : Nat) : Nat := a / 4
def dmPair (a : Nat) : Nat := a / 8 * 2

/-- Memory words: an unlisted word reads 0. -/
def memAt (m : List (Nat × Word)) (n : Nat) : Word := (cellAt m n).getD 0
def memSet (n : Nat) (w : Word) (m : List (Nat × Word)) : List (Nat × Word) := setCell n w 0 m

/-! ### Loads (a load returns the value as it stood at its issue, R200) -/

def isLoad : OpName → Bool
  | .ldw | .ldd | .ldx | .lda | .ldaw | .lds | .ldp | .ldr | .ldb => true
  | _ => false

/-- `ECCLAST.MEM` of a load's space; less 2 it is the SUB of cause 0x2. -/
def loadMem : OpName → Nat
  | .lda | .ldaw => 3
  | .lds => 4
  | .ldp => 5
  | .ldr => 6
  | .ldb => 7
  | _ => 2

/-- The word of LDA's table below the angle, and the one above. -/
def ldaAt (i : Issue) (up : Nat) : Nat := (imm10 i.w % 16).toNat * 1024 + (i.ga.toNat / 2 ^ 22 + up) % 1024

/-- The words that a load reads, by address in its space: the codewords that SECDED checks (R202). -/
def loadAddrs (op : OpName) (i : Issue) : List Nat :=
  match op with
  | .ldw => [dmWord (dmAddrI i)]
  | .ldd => [dmPair (dmAddrI i), dmPair (dmAddrI i) + 1]
  | .ldx => [dmWord (dmAddrX i)]
  | .lda => [ldaAt i 0, ldaAt i 1]
  | .ldp => [wordAddr i % 65536]
  | .ldaw | .lds | .ldr | .ldb => [wordAddr i]
  | _ => []

/-- Load data into registers, unless a word read, by address and check, is uncorrectable: then the engine stops at the data return and every
register of the load keeps its value (R216, Table 6-11). -/
def loadTo (i : Issue) (lat mem : Nat) (read : List (Nat × Nat)) (dst : List (Nat × Word)) (e : Eng) : Eng :=
  match read.find? (·.2 == 2) with
  | some x => fly i lat (.ue mem x.1) (mem - 2) 0 e
  | none => dst.foldl (fun e r => fly i lat (.g r.1) r.2.toNat 0 e) e

/-- The words that a load reads with what the checks find in them. -/
def readsOf (op : OpName) (ecc : List Nat) (i : Issue) : List (Nat × Nat) := (loadAddrs op i).zipIdx.map fun x => (x.1, ecc.getD x.2 0)

/-- A load of one register. -/
def load1 (op : OpName) (lat : Nat) (ecc : List Nat) (i : Issue) (w : Word) (e : Eng) : Eng :=
  loadTo i lat (loadMem op) (readsOf op ecc i) [(i.w.d, w)] e

def semLdw (ecc : List Nat) (i : Issue) (e : Eng) : Eng := load1 .ldw 3 ecc i (memAt i.e.dm (dmWord (dmAddrI i))) e
def semLdd (ecc : List Nat) (i : Issue) (e : Eng) : Eng :=
  let n := dmPair (dmAddrI i)
  loadTo i 3 2 (readsOf .ldd ecc i) [(i.w.d, memAt i.e.dm n), (i.w.d + 1, memAt i.e.dm (n + 1))] e
def semLdx (ecc : List Nat) (i : Issue) (e : Eng) : Eng := load1 .ldx 3 ecc i (memAt i.e.dm (dmWord (dmAddrX i))) e

/-- LDA: T[i] + round((T[i+1] − T[i]) × f / 2^16) under QRND (R200). -/
def ldaValue (i : Issue) : Word :=
  let f : Nat := i.ga.toNat / 2 ^ 6 % 2 ^ 16
  let x := (memAt i.e.at' (ldaAt i 0)).toInt
  let y := (memAt i.e.at' (ldaAt i 1)).toInt
  BitVec.ofInt 32 (x + roundQ (qrnd i.mode) 16 ((y - x) * (f : Int)))

def semLda (ecc : List Nat) (i : Issue) (e : Eng) : Eng := load1 .lda 4 ecc i (ldaValue i) e
def semLdaw (ecc : List Nat) (i : Issue) (e : Eng) : Eng := load1 .ldaw 3 ecc i (memAt i.e.at' (wordAddr i)) e
def semLds (s : State) (ecc : List Nat) (i : Issue) (e : Eng) : Eng := load1 .lds 3 ecc i (memAt s.weave.shared (wordAddr i)) e
def semLdp (s : State) (ecc : List Nat) (i : Issue) (e : Eng) : Eng :=
  load1 .ldp 3 ecc i (memAt s.weave.params (wordAddr i % 65536)) e
def semLdr (s : State) (c : Nat) (ecc : List Nat) (i : Issue) (e : Eng) : Eng :=
  load1 .ldr 3 ecc i (memAt (s.clu.getD c Clu.reset).ringBuf (wordAddr i)) e
def semLdb (s : State) (c : Nat) (ecc : List Nat) (i : Issue) (e : Eng) : Eng :=
  load1 .ldb 3 ecc i (memAt (s.clu.getD c Clu.reset).adcBuf (wordAddr i)) e

/-! ### Stores (visible to loads issued at b + 1; of two stores to one word the LS1 value remains, R201) -/

def semStw (i : Issue) (e : Eng) : Eng := { e with dm := memSet (dmWord (dmAddrI i)) i.gd e.dm }
def semStd (i : Issue) (e : Eng) : Eng :=
  let n := dmPair (dmAddrI i)
  { e with dm := memSet (n + 1) (i.e.rg (i.w.d + 1)) (memSet n i.gd e.dm) }
def semStx (i : Issue) (e : Eng) : Eng := { e with dm := memSet (dmWord (dmAddrX i)) i.gd e.dm }
def semSta (i : Issue) (e : Eng) : Eng := { e with at' := memSet (wordAddr i) i.gd e.at' }

/-! ### Records: A and B are read at issue (R195) -/

def record (kind : Nat) (i : Issue) (e : Eng) : Eng := { e with recs := e.recs ++ [⟨kind, i.ga, i.gb, i.e.lc, false⟩] }
def semRece (i : Issue) (e : Eng) : Eng := record 1 i e
def semRecr (i : Issue) (e : Eng) : Eng := record 2 i e
def semRecs (i : Issue) (e : Eng) : Eng := record 3 i e
def semRecv (i : Issue) (e : Eng) : Eng := record 4 i e

end Sys2Proof.Machine
end

