-- ==== Sys2Proof/Machine/LoomCtl.lean ====
section
/-! DEFINITION. Branches, loops, control registers and markers (Tables 6-6 and 6-7, R210–R215). -/

namespace Sys2Proof.Machine

/-! ### Branches: two delay bundles; the outcome is fixed at issue (R210) -/

def branchTo (taken : Bool) (target : Nat) (e : Eng) : Eng := { e with branch := some ⟨taken, target % 8192, 2⟩ }

/-- b_addr + IMM16. -/
def relTarget (i : Issue) : Nat := (((i.e.pc : Int) + imm16 i.w) % 8192).toNat

def semBra (i : Issue) (e : Eng) : Eng := branchTo (guardOf i.e i.w) (relTarget i) e
def semBri (i : Issue) (e : Eng) : Eng := branchTo (guardOf i.e i.w) (i.ga.toNat % 8192) e
def semCall (i : Issue) (e : Eng) : Eng :=
  let e1 := branchTo (guardOf i.e i.w) (relTarget i) e
  if guardOf i.e i.w then e1.setLnk ((i.e.pc + 3) % 8192 + 8192 * bit i.e.rom) else e1
/-- RET (DESIGN CHOICE: log entry 19). -/
def semRet (i : Issue) (e : Eng) : Eng := branchTo (guardOf i.e i.w) (i.e.lnk % 8192) e

/-! ### Loops (R211): a count of 0 continues after the body -/

def pushLoop (count len : Nat) (i : Issue) (e : Eng) : Eng :=
  if count = 0 then { e with pc := i.e.pc + len + 1 }
  else { e with loops := e.loops ++ [⟨i.e.pc + 1, i.e.pc + len, count⟩], pc := i.e.pc + 1 }

def semLoopi (i : Issue) (e : Eng) : Eng := pushLoop (loopCount i.w) (loopLen i.w) i e
def semLoopr (i : Issue) (e : Eng) : Eng := pushLoop (i.gd.toNat % 65536) (loopLen i.w) i e

/-! ### Control registers (Table 6-7) -/

/-- The index of CRD [9:4], and of CWR and CWI [21:16]. -/
def crdValue (s : State) (k : Nat) (i : Issue) (n : Nat) : Word :=
  let e := i.e
  let lcnt := fun j => ((e.loops[j]?).map (·.cnt)).getD 0
  match n with
  | 0 => word e.mode
  | 1 => word e.fl
  | 2 => e.fcap.1
  | 3 => e.fcap.2
  | 4 => word (e.lnk % 8192)
  | 5 => word (lcnt 0)
  | 6 => word (lcnt 1)
  | 7 => word (lcnt 2)
  | 8 => word (pickOf s)
  | 9 => word e.lc
  | 10 => word (k / 3)
  | 11 => word (s.get (LOOM_STAT_PLAN k))
  | _ => word (cycleOf s)

def semCrd (s : State) (k : Nat) (i : Issue) (e : Eng) : Eng := toG i 1 (crdValue s k i i.w.b) e

/-- A control register takes a value: MODE after its shadow of two bundles (R215), a clear of FLAGS bits from b + 1 (R208), LNK. -/
def ctlWrite (i : Issue) (n : Nat) (v : Word) (e : Eng) : Eng :=
  if n = 0 then e.setShadow (some (v.toNat % 32, 2))
  else if n = 1 then fly i 1 .clear (v.toNat % 512) 0 e
  else e.setLnk (v.toNat % 8192 + 8192 * bit i.e.rom)

def semCwr (i : Issue) (e : Eng) : Eng := ctlWrite i i.w.d i.ga e
def semCwi (i : Issue) (e : Eng) : Eng := ctlWrite i i.w.d (word (imm16u i.w)) e

/-! ### Markers (R214) -/

/-- The END marker: the foreground code of the heddle ends after this bundle. -/
def semEnd (_ : Issue) (e : Eng) : Eng := { e with running := false, ended := true }
/-- JEND: the job ends for its period. -/
def semJend (_ : Issue) (e : Eng) : Eng := { e with running := false, ended := true }

/-- Levels whose range does not hold the target of a branch that reaches it are popped (R213). -/
def popLoops (target : Nat) (ls : List Loop) : List Loop := ls.filter fun l => l.first ≤ target && target ≤ l.last

/-- The loop end at `pc` (R212), levels innermost first: the next pc and the levels that remain. -/
def loopEnd (pc : Nat) : List Loop → Nat × List Loop
  | [] => (pc + 1, [])
  | l :: outer =>
    if l.last != pc then (pc + 1, l :: outer)
    else if 1 < l.cnt then (l.first, { l with cnt := l.cnt - 1 } :: outer)
    else loopEnd pc outer

end Sys2Proof.Machine
end

