-- ==== Sys2Proof/Machine/LoomWords.lean ====
section
/-! DEFINITION. The words of a bundle (R189, R190, Tables 6-2 to 6-8): which operation a slot word names, its fields, and the word of an
operation. -/

namespace Sys2Proof.Machine

/-- Operation codes of the arithmetic lanes (Table 6-4). -/
def armCodes : List (Nat × OpName) :=
  [(0x01, .add), (0x02, .sub), (0x03, .addi), (0x04, .and), (0x05, .or), (0x06, .xor), (0x07, .andn), (0x08, .shl), (0x09, .shr),
   (0x0A, .sar), (0x0B, .shli), (0x0C, .shri), (0x0D, .sari), (0x0E, .min), (0x0F, .max), (0x10, .sel), (0x11, .li), (0x12, .lih),
   (0x13, .cmp), (0x14, .qadd), (0x15, .qsub), (0x16, .qabs), (0x18, .qmul), (0x19, .qmac), (0x1A, .qmsb), (0x1B, .qmz), (0x1C, .acr),
   (0x1D, .acw), (0x20, .fadd), (0x21, .fsub), (0x22, .fmul), (0x23, .fma), (0x24, .fmin), (0x25, .fmax), (0x26, .fneg), (0x27, .fabs),
   (0x28, .fcmp), (0x29, .fcvt), (0x2C, .frcp), (0x2D, .frsq)]

/-- Operation codes of the load/store slots (Table 6-5). -/
def lsCodes : List (Nat × OpName) :=
  [(0x01, .ldw), (0x02, .ldd), (0x03, .stw), (0x04, .std), (0x05, .ldx), (0x06, .stx), (0x08, .lda), (0x09, .ldaw), (0x0A, .sta),
   (0x0C, .lds), (0x0D, .ldp), (0x0E, .ldr), (0x0F, .ldb)]

/-- Operation codes of the BR slot (Table 6-6). -/
def brCodes : List (Nat × OpName) :=
  [(0x01, .bra), (0x02, .bri), (0x03, .call), (0x04, .ret), (0x05, .loopi), (0x06, .loopr), (0x08, .crd), (0x09, .cwr), (0x0A, .cwi),
   (0x0B, .jend)]

/-- Operation codes of the IO slot (Table 6-8). -/
def ioCodes : List (Nat × OpName) := [(0x01, .rece), (0x02, .recr), (0x03, .recs), (0x04, .recv)]

/-- The codes of a slot (Table 6-2). -/
def slotCodes (slot : Nat) : List (Nat × OpName) :=
  if slot < 4 then armCodes else if slot < 6 then lsCodes else if slot = 6 then brCodes else ioCodes

/-- The operation that a code names in a slot; a code that no table lists is undefined. -/
def opOf (slot code : Nat) : OpName := ((slotCodes slot).lookup code).getD .undef

/-- The code of an operation in a slot; 0 where the slot lacks it. -/
def codeOf (slot : Nat) (op : OpName) : Nat := (((slotCodes slot).find? fun p => p.2 == op).map (·.1)).getD 0

/-- The fields of a slot word (Table 6-3). -/
def wordFields (slot : Nat) (w : Word) : SlotWord :=
  ⟨slot, w.getLsbD 25, bitsAt w.toNat 22 3, bitsAt w.toNat 16 6, bitsAt w.toNat 10 6, bitsAt w.toNat 4 6, bitsAt w.toNat 0 4⟩

/-- The END marker as an operation of the BR slot. -/
def endWord : SlotWord := ⟨6, false, 0, 0, 0, 0, 0⟩

/-- What a slot word says (R189, R190): nothing when it is all zeros; in the BR slot bit 31 is the END marker, and the code is [30:26]. -/
def decodeWord (slot : Nat) (w : Word) : List (OpName × SlotWord) :=
  if slot = 6 then
    (if w.getLsbD 31 then [(.endm, endWord)] else []) ++
      (if w.toNat % 2 ^ 31 = 0 then [] else [(opOf 6 (bitsAt w.toNat 26 5), wordFields 6 w)])
  else if w = 0 then [] else [(opOf slot (bitsAt w.toNat 26 6), wordFields slot w)]

/-- The word of an operation in its slot. -/
def encodeWord (op : OpName) (w : SlotWord) : Word :=
  if op = .endm then 0x80000000#32
  else word (codeOf w.slot op * 2 ^ 26 + bit w.pn * 2 ^ 25 + w.pr * 2 ^ 22 + w.d * 2 ^ 16 + w.a * 2 ^ 10 + w.b * 2 ^ 4 + w.f)

end Sys2Proof.Machine
end

