-- ==== Sys2Proof/Machine/ReedOps.lean ====
section
/-! DEFINITION. What the reed does to engines and clusters, shared by the loom, the votes and the commands: engine states, votes
(Table 7-1, R224–R226), cluster faults and stops (R168, R234), repair attempts that end (R231), and an engine's stop (R216–R218). -/

namespace Sys2Proof.Machine

/-- Picks since warp 0. -/
def absPick (s : State) : Nat := cycleOf s * 4096 + pickOf s

/-- Change engine `k`, cluster `c`. -/
def modEng (k : Nat) (f : Eng → Eng) (s : State) : State := { s with loom := s.loom.modify k f }
def modClu (c : Nat) (f : Clu → Clu) (s : State) : State := { s with clu := s.clu.modify c f }
def engAt (s : State) (k : Nat) : Eng := s.loom.getD k Eng.reset
def cluAt (s : State) (c : Nat) : Clu := s.clu.getD c Clu.reset

/-! ### Plans (R143, R171, R557) -/

/-- The plan number of a cluster for a pick index. -/
def planNo (img : Image) (c p : Nat) : Nat :=
  let m := img.pickmap.getD c []
  m.getD (p % max 1 m.length) 0

def planOf (img : Image) (c p : Nat) : List Heddle := (img.plans.getD c []).getD (planNo img c p) []

/-- The plan of the fallback Weave (Table 5-7c).
(DESIGN CHOICE: log entry 47.) -/
def fallbackPlan : List Heddle :=
  let h := fun start len kind haw tx cls i => (⟨start, len, kind, haw, tx, Config.fbEntry i, cls, 0⟩ : Heddle)
  [h 0 64 2 false false 0 0, h 64 960 0 false false 0 1, h 1024 64 3 true false 3 2, h 1088 256 1 false true 0 3,
   h 1344 128 3 false false 1 4, h 1472 64 3 false false 2 5, h 1536 1024 0 false false 0 6, h 2560 64 3 true false 3 7,
   h 2624 960 0 false false 0 8, h 3584 601 3 true false 5 9]

/-- The plan that a cluster runs at a pick index; in the idle plan no engine issues (R148). -/
def planAt (s : State) (c p : Nat) : List Heddle :=
  if !s.flag WEAVE_STAT_RUN then []
  else if s.flag WEAVE_STAT_FB then fallbackPlan
  else match s.weave.img with
    | some i => planOf i c p
    | none => []

/-- The plan that a cluster runs in the present pick. -/
def planNow (s : State) (c : Nat) : List Heddle := planAt s c (pickOf s)

/-- The heddle that runs in a cluster. -/
def heddleNow (s : State) (c : Nat) : Option Heddle :=
  match (cluAt s c).heddle with
  | some i => (planNow s c)[i]?
  | none => none

/-- A BG heddle of a class runs in the cluster (Table 5-3). -/
def inClass (s : State) (c cls : Nat) : Bool :=
  match heddleNow s c with
  | some h => h.kind == 3 && h.cls == cls
  | none => false

/-- The job of a cluster in the running image. -/
def jobOf (s : State) (c j : Nat) : Option Job :=
  match s.weave.img with
  | some i => i.jobs.find? fun x => x.cluster == c && x.job == j
  | none => none

/-- The entry of a cluster's next foreground heddle, in this pick or the next (R217). -/
def nextFg (s : State) (c : Nat) : Nat :=
  let plan := planNow s c
  let i := match (cluAt s c).heddle with
    | some h => h + 1
    | none => plan.length
  match (plan.drop i ++ planAt s c ((pickOf s + 1) % 4096)).find? fun h => h.kind < 2 with
  | some h => h.entry
  | none => 0

/-- Where a context of an engine stands (R217, R218): the bundle that it would issue next, whether from the ROM, its branch, its shadow, its
mode and its loop stack. -/
structure Ctx where
  pc : Nat
  rom : Bool
  branch : Option Branch
  shadow : Option (Nat × Nat)
  mode : Nat
  loops : List Loop
  deriving DecidableEq, Repr

/-- A context of engine `k`: the running one; the foreground while a job runs; or a job that has parked. A context that issues nothing stands
at the entry of its next foreground heddle, or at the entry of the job that has ended. -/
def ctxOf (s : State) (k : Nat) (bg : Bool) : Ctx :=
  let e := engAt s k
  let c := k / 3
  if bg = e.bg then
    let next := match if e.bg then e.job.bind (jobOf s c) else none with
      | some j => j.entry
      | none => nextFg s c
    ⟨if e.running then e.pc else next, e.rom, e.branch, if bg then e.shadowB else e.shadowF, if bg then e.modeB else e.modeF, e.loops⟩
  else if bg then
    match e.park.head? with
    | some (_, p) => ⟨p.pc, false, p.branch, p.shadow, p.mode, p.loops⟩
    | none => ⟨nextFg s c, e.rom, none, e.shadowB, e.modeB, []⟩
  else ⟨nextFg s c, s.flag WEAVE_STAT_FB, none, e.shadowF, e.modeF, []⟩

/-! ### Engine states and votes -/

/-- The engine's state on its LOOM page and in its state word (Table 7-1). -/
def setEngState (k st : Nat) (s : State) : State := (s.put (LOOM_STAT_STATE k) st).put (REED_ENGST_STATE k) st

/-- The engines of a cluster that vote. -/
def voters (s : State) (c : Nat) : List Nat := (List.range 3).filter fun e => s.flag (REED_ENGST_VOTE (3 * c + e))

def voteMask (s : State) (c : Nat) : Nat := (voters s c).foldl (fun m e => m + 2 ^ e) 0

/-- A journalled event of the reed with its page flag (Table 7-6). -/
def reedEvent (bitNo code data : Nat) (s : State) : State := raiseF 17 code data (setEvt 0x050 (2 ^ bitNo) s)

/-- The reed stops a cluster (R168), with the reason of event 0x000A. -/
def reedStop (c reason : Nat) (s : State) : State :=
  if s.get (REED_CLST_MODE c) = 3 then s else clusterStop c (reedEvent 6 0xA (c + 4 * reason) s)

/-- Count an engine in or out of the vote; a cluster that runs and is left with fewer than two voting engines is stopped (R225). -/
def setVote (k : Nat) (b : Bool) (s : State) : State :=
  let c := k / 3
  let s1 := s.putB (REED_ENGST_VOTE k) b
  let s2 := s1.put (REED_CLST_VOTE c) (voteMask s1 c)
  let n := (voters s2 c).length
  let m := s2.get (REED_CLST_MODE c)
  if m = 0 || m = 3 then s2
  else if n < 2 then reedStop c 1 s2
  else s2.put (REED_CLST_MODE c) (if n = 3 then 1 else 2)

/-- An engine that reports a contract violation is counted out; its report is voted before the reed judges the cluster (R164, R225). -/
def countOut (k : Nat) (s : State) : State :=
  let c := k / 3
  let s1 := s.put (REED_ENGST_VOTE k) 0
  let s2 := s1.put (REED_CLST_VOTE c) (voteMask s1 c)
  if s2.get (REED_CLST_MODE c) = 1 then s2.put (REED_CLST_MODE c) 2 else s2

/-- A cluster fault of Table 7-2: no further record of the pick, and the fallback with FBCAUSE 0x03.
(DEDUCED: log entry 65.) -/
def clusterFault (c : Nat) (s : State) : State :=
  let s1 := reedEvent 5 9 (c + 4 * voteMask s c) s
  converterFault 3 { s1 with weave.noCommit := s1.weave.noCommit.set c true }

/-- The attempt of a cluster is over: nothing is under repair (Table 7-1). -/
def clearAttempt (c : Nat) (s : State) : State :=
  let t := 3 * c + s.get (REED_CLST_REPENG c)
  let src := 3 * c + s.get (REED_CLST_SRCENG c)
  let s1 := ((s.put (REED_CLST_REP c) 0).put (REED_CLST_PROB c) 0).put (REED_ENGST_SRC src) 0
  modClu c (fun x => { x with probAt := none, repTime := 0 }) (s1.put (REED_ENGST_PROB t) 0)

/-- The units of 32 bytes that an attempt copies (Table 7-3). -/
def copyUnits : Nat := 39552

/-- A memory whose first `n` units of 8 words come from the source. -/
def copyMem (n : Nat) (src tgt : List (Nat × Word)) : List (Nat × Word) := src.filter (·.1 < 8 * n) ++ tgt.filter (8 * n ≤ ·.1)

/-- The target after `n` units of the copy (Table 7-3): each unit that has been copied holds what the source holds, for writes to it are made in
both (R228). The 4,096 bytes of registers are taken as one element.
(DESIGN CHOICE: log entry 148.) -/
def copied (n : Nat) (src tgt : Eng) : Eng :=
  let t := if n < 128 then tgt
    else { tgt with g := src.g, p := src.p, a := src.a, acc := src.acc, modeF := src.modeF, modeB := src.modeB, flagsF := src.flagsF,
                    flagsB := src.flagsB, fcapF := src.fcapF, fcapB := src.fcapB, lnkF := src.lnkF, lnkB := src.lnkB, loops := src.loops,
                    branch := src.branch, shadowF := src.shadowF, shadowB := src.shadowB, park := src.park }
  { t with im := copyMem (n - 128) src.im tgt.im, dm := copyMem (n - 8320) src.dm tgt.dm, at' := copyMem (n - 24704) src.at' tgt.at' }

/-- A running copy ends where it stands: the target keeps what has been copied (R228). -/
def leaveCopy (c : Nat) (s : State) : State :=
  if s.flag (REED_CLST_PROB c) then s
  else
    let src := engAt s (3 * c + s.get (REED_CLST_SRCENG c))
    modEng (3 * c + s.get (REED_CLST_REPENG c)) (copied (min copyUnits (cluAt s c).repTime) src) s

/-- Abandon a running attempt without counting it. -/
def abandonAttempt (c : Nat) (s : State) : State :=
  if s.flag (REED_CLST_REP c) then setEngState (3 * c + s.get (REED_CLST_REPENG c)) 3 (clearAttempt c (leaveCopy c s)) else s

/-- A failed attempt (R231): counted, and the engine retired at TRIES. Reasons as event 0x0004. -/
def failAttempt (c reason : Nat) (s : State) : State :=
  let e := s.get (REED_CLST_REPENG c)
  let k := 3 * c + e
  let s1 := ((setEngState k 3 (clearAttempt c (leaveCopy c s))).count (REED_ENGST_FAILS k)).count (REED_REPCNT_FAILS c)
  let n := s1.get (REED_ENGST_FAILS k)
  let s2 := reedEvent 2 4 (c + 4 * e + 16 * n + 256 * reason) s1
  if s.get REED_CTL_TRIES ≤ n then reedEvent 3 5 (c + 4 * e) (s2.put (REED_ENGST_RETIRED k) 1) else s2

/-! ### The stop record -/

/-- Loop register n of the stop record (Table 6-19). -/
def putLoop (k n : Nat) (now : List Loop) (xcnt : List Nat) (s : State) : State :=
  let l := now[n]?
  ((((s.put (LOOM_LP_CNT_CNT k n) ((l.map (·.cnt)).getD 0)).put (LOOM_LP_CNT_XCNT k n) (xcnt.getD n 0)).put
    (LOOM_LP_RNG_START k n) ((l.map (·.first)).getD 0)).put (LOOM_LP_RNG_END k n) ((l.map (·.last)).getD 0)).putB
    (LOOM_LP_RNG_ACT k n) l.isSome

/-- The record of a stop (R216–R218, Tables 6-11 and 6-18): cause, sub, the attributed bundle X, whether X issued, and the loom clock of
detection. The context is that of X, which need not be the one that runs now. -/
def stopRecord (k cause sub : Nat) (x : Option Attr) (late : Bool) (lc : Nat) (s : State) : State :=
  let bg := (x.map (·.bg)).getD (engAt s k).bg
  let e := ctxOf s k bg
  let s1 := (((s.put (LOOM_STOP_CAUSE k) cause).put (LOOM_STOP_SUB k) sub).putB (LOOM_STOP_LATE k) late).count (LOOM_STOP_COUNT k)
  let s2 := ((((s1.put (LOOM_STOPPC_S k) e.pc).putB (LOOM_STOPPC_SROM k) e.rom).put (LOOM_STOPPC_FPC k) ((x.map (·.fpc)).getD 0)).putB
    (LOOM_STOPPC_FROM k) ((x.map (·.rom)).getD false)).putB (LOOM_STOPPC_FPCV k) x.isSome
  let s3 := ((((s2.put (LOOM_STOPCTX_XDLY k) ((x.map (·.xdly)).getD 0)).put (LOOM_STOPCTX_XSHD k) ((x.map (·.xshd)).getD 0)).putB
    (LOOM_STOPCTX_XLEND k) ((x.map (·.xlend)).getD false)).put (LOOM_STOPCTX_XLVL k) ((x.map (·.xlvl)).getD 0)).put
    (LOOM_STOPCTX_XMODE k) ((x.map (·.xmode)).getD 0)
  let s4 := (((s3.putB (LOOM_STOPCTX_XCTX k) bg).put (LOOM_STOPCTX_SDLY k) ((e.branch.map (·.left)).getD 0)).putB
    (LOOM_STOPCTX_BTAKEN k) ((e.branch.map (·.taken)).getD false)).putB (LOOM_STOPCTX_SPEND k) e.shadow.isSome
  let s5 := (((s4.put (LOOM_STOPCTX_SSHD k) ((e.shadow.map (·.2)).getD 0)).put (LOOM_STOPCTX_LDEPTH k) e.loops.length).put
    (LOOM_STOPCTX_SMODE k) e.mode).put (LOOM_STOPCTX_PMODE k) ((e.shadow.map (·.1)).getD 0)
  let s6 := ((s5.put (LOOM_STOPBT_BTGT k) ((e.branch.map (·.target)).getD 0)).putB (LOOM_STOPBT_BROM k) (e.branch.isSome && e.rom)).put
    (LOOM_STOPW_SWARP k) (swarp s).toNat
  let s7 := ((s6.put (LOOM_STOPLC_LC k) lc).put (LOOM_STOPLC_HEDDLE k) (s.get (LOOM_STAT_HEDDLE k))).put
    (LOOM_STOPLC_PLAN k) (s.get (LOOM_STAT_PLAN k))
  let xc := (x.map (·.xcnt)).getD []
  let s8 := (putLoop k 0 e.loops xc (putLoop k 1 e.loops xc (putLoop k 2 e.loops xc s7))).put (REED_ENGST_LASTCAUSE k) cause
  raiseF (20 + k) 1 (cause + 16 * sub + 4096 * bit late) (setEvt (0x44 + k) (if cause = 8 then 0x10 else 1) s8)

/-- An engine stops (Table 7-1): a voting engine is counted out and its uncommitted records are discarded (R225); a repair target fails
its attempt; a step run ends. An engine in another state, which the table does not list, stays as it is (R222). -/
def stopEngine (k cause sub : Nat) (x : Option Attr) (late : Bool) (lc : Nat) (s : State) : State :=
  let st := s.get (LOOM_STAT_STATE k)
  let s1 := modEng k (fun e => { e with running := false, bundle := [], recs := [] }) (stopRecord k cause sub x late lc s)
  if st != 1 && st != 4 && st != 5 then s
  else if st = 5 then setEngState k 3 (s1.put (LOOM_STEPCTL_N k) 0)
  else if st = 4 then failAttempt (k / 3) 2 s1
  else
    let c := k / 3
    let s2 := if s1.flag (REED_CLST_REP c) && s1.get (REED_CLST_SRCENG c) = k % 3 then abandonAttempt c s1 else s1
    if cause = 4 then countOut k (setEngState k 2 s2) else setVote k false (setEngState k 2 s2)

/-- The minority of a vote or of the audit (R224, R239): stopped with cause 0x7, counted and journalled. -/
def minority (k kind lc : Nat) (aud : Bool) (s : State) : State :=
  let c := k / 3
  let e := k % 3
  let s1 := ((s.put REED_LASTMIS_CLUSTER c).put REED_LASTMIS_ENG e).put REED_LASTMIS_KIND kind
  let s2 := ((s1.putB REED_LASTMIS_AUD aud).put REED_LASTMIS_LC lc).put REED_LASTMISW_SWARP (swarp s).toNat
  let s3 := (s2.count (REED_MINCNT_COUNT c)).countWrap (REED_CLST_MIN c)
  stopEngine k 7 0 none false (engAt s k).lc (reedEvent 0 1 (c + 4 * e + 16 * kind + 128 * bit aud) s3)

/-! ### The vote on check reports (R164, R223) -/

/-- A violation is recorded (Table 5-12j), with event 0x0005. -/
def recordViolation (c chk engs : Nat) (maj : Bool) (s : State) : State :=
  let s1 := (((s.put WEAVE_VIOL_CHECK chk).put WEAVE_VIOL_CLUSTER c).put WEAVE_VIOL_ENG engs).putB WEAVE_VIOL_MAJ maj
  let s2 := ((s1.put WEAVE_VIOL_PLAN (s.get (LOOM_STAT_PLAN (3 * c)))).put WEAVE_VIOL_HEDDLE (s.get (LOOM_STAT_HEDDLE (3 * c)))).put
    WEAVE_VIOLW_SWARP (swarp s).toNat
  raiseF 16 5 (chk + 16 * c + 64 * engs + 512 * bit maj)
    (setEvt 0x041 16 (s2.count (if maj then WEAVE_VIOLCNT_MAJOR else WEAVE_VIOLCNT_MINOR)))

/-- The minority of a check report: the engine has stopped already; it is counted and journalled (R164, Table 7-2). -/
def minorReport (k : Nat) (s : State) : State :=
  let c := k / 3
  let s1 := (((s.put REED_LASTMIS_CLUSTER c).put REED_LASTMIS_ENG (k % 3)).put REED_LASTMIS_KIND 2).put REED_LASTMIS_AUD 0
  let s2 := (s1.put REED_LASTMIS_LC (engAt s k).lc).put REED_LASTMISW_SWARP (swarp s).toNat
  reedEvent 0 1 (c + 4 * (k % 3) + 16 * 2) ((s2.count (REED_MINCNT_COUNT c)).countWrap (REED_CLST_MIN c))

/-- The outcome of a vote of Table 7-2 over what each engine gives: the agreed value and the engines in the minority, or no agreement. -/
def majority {α : Type} [BEq α] (rs : List (Nat × α)) : Option (α × List Nat) :=
  rs.findSome? fun x =>
    let same := rs.filter (·.2 == x.2)
    if rs.length < 2 * same.length || same.length = rs.length then some (x.2, (rs.filter fun y => !(y.2 == x.2)).map (·.1)) else none

/-- Engines as a mask. -/
def engMask (es : List Nat) : Nat := es.foldl (fun m e => m + 2 ^ e) 0

/-- A cluster that the fallback runs with fewer than two voting engines is stopped (Table 7-2, R225, R235). -/
def stopUnvoted (c : Nat) (s : State) : State :=
  if s.flag WEAVE_STAT_FB && (voters s c).length < 2 && s.get (REED_CLST_MODE c) != 0 then reedStop c 1 s else s

/-- The reports of a cluster are voted like records of a fifth kind (R164, R223): the check that an engine reports, or none, is its value. A
majority that reports a check is a converter fault and ends the cluster's commits of the pick; the engines of a minority stay out, each
check of theirs recorded; without agreement it is a cluster fault.
(DEDUCED: log entry 65.) (DEDUCED: log entry 121.) -/
def voteChecks (c : Nat) (s : State) : State :=
  let vs := (s.weave.viols.filter (·.1 == c)).map (·.2)
  if vs.isEmpty then s
  else
    let es := (List.range 3).filter fun e => (vs.lookup e).isSome || s.flag (REED_ENGST_VOTE (3 * c + e))
    let s1 := { s with weave.viols := s.weave.viols.filter (·.1 != c) }
    match majority (es.map fun e => (e, vs.lookup e)) with
    | none => stopUnvoted c (clusterFault c s1)
    | some (some chk, out) =>
      let maj := es.filter (!out.contains ·)
      stopUnvoted c <| converterFault 1 <| recordViolation c chk (engMask maj) true
        { s1 with weave := { s1.weave with noCommit := s1.weave.noCommit.set c true,
                                           majStop := maj.foldl (fun m e => m.set (3 * c + e) true) s1.weave.majStop } }
    | some (none, out) =>
      let s2 := ([1, 2, 3, 5].filter fun k => vs.any (·.2 == k)).foldl (fun s k =>
        recordViolation c k (engMask (out.filter fun e => vs.lookup e == some k)) false s) s1
      stopUnvoted c (out.foldl (fun s e => minorReport (3 * c + e) s) s2)

end Sys2Proof.Machine
end

