-- ==== Sys2Proof/Machine/LoomIssue.lean ====
section
/-! DEFINITION. The issue of a bundle (R189–R202, R210–R218): results in flight and sticky flags, the checks of Tables 6-9, 6-12 and
5-7a, the operations that execute, the next bundle, and stops. -/

namespace Sys2Proof.Machine

/-! ### Results in flight (R197, R198, R208, R209) -/

/-- The words of a flag capture (Table 6-20). -/
def fcapWords (f : Flight) (fl : Nat) : Word × Word :=
  let a := f.attr
  (word (a.fpc + 2 ^ 13 * bit a.rom + 2 ^ 14 * fl + 2 ^ 18 * f.slot + 2 ^ 31),
   word (a.xdly + 4 * a.xshd + 16 * bit a.xlend + 32 * a.xlvl + 128 * a.xmode + 2 ^ 16 * (a.xcnt.getLast?).getD 0))

/-- The flag captures of a context take the lowest of the flags that go from 0 to 1, unless a capture is valid. -/
def capture1 (f : Flight) (rise : Nat) (old : Word × Word) : Word × Word :=
  if rise = 0 || old.1.getLsbD 31 then old
  else fcapWords f (((List.range 9).find? fun b => rise.testBit b).getD 0)

/-- Write one result; answer the flags that rose. -/
def landOne (f : Flight) (e : Eng) : Nat × Eng :=
  let cur := if f.bg then e.flagsB else e.flagsF
  match f.dest with
  | .clear =>
    let v := cur &&& (0x1FF ^^^ (f.val &&& 0x1FF))
    let cap : Word × Word := if v = 0 then (0, 0) else if f.bg then e.fcapB else e.fcapF
    (0, if f.bg then { e with flagsB := v, fcapB := cap } else { e with flagsF := v, fcapF := cap })
  | .ue _ _ => (0, e)
  | d =>
    let rise := f.flags &&& (0x1FF ^^^ cur)
    let e1 := match d with
      | .g n => { e with g := e.g.set n (word f.val) }
      | .p n => if n = 0 then e else { e with p := e.p.set n (f.val == 1) }
      | .a n => { e with a := e.a.set n (BitVec.ofNat 72 f.val) }
      | _ => e
    (rise, if f.bg then { e1 with flagsB := cur ||| f.flags, fcapB := capture1 f rise e1.fcapB }
           else { e1 with flagsF := cur ||| f.flags, fcapF := capture1 f rise e1.fcapF })

/-- Flags that rise and are enabled set the page's flag and are journalled (Table 6-21, R220). -/
def flagEvents (k : Nat) (bg : Bool) (rise : Nat) (s : State) : State :=
  let en := if bg then s.get (LOOM_FLAGEN_BG k) else s.get (LOOM_FLAGEN_FG k)
  (List.range 9).foldl (fun s b =>
    if (rise &&& en).testBit b then raiseF (20 + k) 3 (b + 16 * bit bg) (setEvt (0x44 + k) (if bg then 4 else 2) s) else s) s

/-- Order in which results land: by clock, then clears, then by issue and slot (R198, R208). -/
def landsBefore (x y : Flight) : Bool :=
  let key := fun f : Flight => (f.ready, bit (f.dest != .clear), f.issue, f.slot)
  decide (key x = key y) || (let a := key x; let b := key y
    a.1 < b.1 || (a.1 == b.1 && (a.2.1 < b.2.1 || (a.2.1 == b.2.1 && (a.2.2.1 < b.2.2.1 || (a.2.2.1 == b.2.2.1 && a.2.2.2 < b.2.2.2))))))

/-! ### ECC (R202) -/

/-- A corrected error: counted, and journalled once per cycle and engine (R220). MEM and address as `ECCLAST`. -/
def eccCorrect (k mem addr : Nat) (scrub : Bool) (s : State) : State :=
  let cnt := if mem < 2 then LOOM_ECCCNT_I_COUNT k else if mem = 2 then LOOM_ECCCNT_D_COUNT k
             else if mem = 3 then LOOM_ECCCNT_A_COUNT k else LOOM_ECCCNT_X_COUNT k
  let s1 := ((((s.count cnt).put (LOOM_ECCLAST_MEM k) mem).put (LOOM_ECCLAST_UE k) 0).putB (LOOM_ECCLAST_SCRUB k) scrub).put
    (LOOM_ECCLAST_ADDR k) addr
  let s2 := setEvt (0x44 + k) 8 s1
  if (engAt s k).eccCycle = some (cycleOf s) then s2
  else raiseF (20 + k) 2 mem (modEng k (fun e => { e with eccCycle := some (cycleOf s) }) s2)

/-- An uncorrectable error is recorded in `ECCLAST`. -/
def eccUe (k mem addr : Nat) (scrub : Bool) (s : State) : State :=
  (((s.put (LOOM_ECCLAST_MEM k) mem).put (LOOM_ECCLAST_UE k) 1).putB (LOOM_ECCLAST_SCRUB k) scrub).put (LOOM_ECCLAST_ADDR k) addr

/-! ### The landing of results -/

/-- A flight is due: a result when the engine reaches the clock from which it reads; uncorrectable data one clock later, when the bundle of
the clock in which it is found has issued (R217, Table 6-15). -/
def landsBy (now : Nat) (f : Flight) : Bool :=
  match f.dest with
  | .ue _ _ => f.ready < now
  | _ => f.ready ≤ now

/-- The loom clock, in its pick, of the engine clock `t`, which does not lie ahead. -/
def lcOf (s : State) (e : Eng) (t : Nat) : Nat :=
  let back := e.now - t
  if back ≤ e.lc then e.lc - back else e.lc + s.warp.lenPrev - back

/-- Land every result of engine `k` that is due at its clock, oldest first; uncorrectable data stops the engine. -/
def landDue (k : Nat) (s : State) : State :=
  let e := engAt s k
  let due := sortBy landsBefore (e.flight.filter (landsBy e.now))
  let s1 := modEng k (fun e => { e with flight := e.flight.filter fun f => !landsBy e.now f }) s
  due.foldl (fun s f =>
    match f.dest with
    | .ue mem addr => stopEngine k 2 f.val (some f.attr) true (lcOf s (engAt s k) f.ready) (eccUe k mem addr false s)
    | _ =>
      let (rise, e1) := landOne f (engAt s k)
      flagEvents k f.bg rise (modEng k (fun _ => e1) s)) s1

/-! ### What an operation is -/

def isMem : OpName → Bool
  | .ldw | .ldd | .ldx | .lda | .ldaw | .lds | .ldp | .ldr | .ldb | .stw | .std | .stx | .sta => true
  | _ => false

def isBr : OpName → Bool
  | .bra | .bri | .call | .ret | .loopi | .loopr | .crd | .cwr | .cwi | .jend | .endm => true
  | _ => false

def isBranch : OpName → Bool
  | .bra | .bri | .call | .ret => true
  | _ => false

def isLoop : OpName → Bool
  | .loopi | .loopr => true
  | _ => false

def isRec : OpName → Bool
  | .rece | .recr | .recs | .recv => true
  | _ => false

def isAcc : OpName → Bool
  | .qmac | .qmsb | .qmz | .acr | .acw => true
  | _ => false

/-- Whether the operation writes g[D], p[D[2:0]] or an accumulator. -/
def writesG : OpName → Bool
  | .cmp | .fcmp | .qmac | .qmsb | .qmz | .acw | .stw | .std | .stx | .sta | .bra | .bri | .call | .ret | .loopi | .loopr | .cwr | .cwi
  | .jend | .endm | .rece | .recr | .recs | .recv | .undef | .nop => false
  | _ => true
def writesP : OpName → Bool
  | .cmp | .fcmp => true
  | _ => false
def writesA : OpName → Bool
  | .qmac | .qmsb | .qmz | .acw => true
  | _ => false

/-! ### Issue rules (Tables 6-9 and 6-12) -/

/-- Subcode 0x01: OP and F codes that no table defines, and SH of ACR above 8. -/
def undefCode (o : SlotOp) : Bool :=
  match o.op with
  | .undef => true
  | .cmp => 7 < o.w.f
  | .fcmp => 7 < o.w.f || o.w.f == 4 || o.w.f == 5
  | .fcvt => 3 < o.w.f
  | .acr => 8 < o.w.b
  | _ => false

/-- Subcode 0x02: an operation in a slot that lacks it. -/
def wrongSlot (o : SlotOp) : Bool :=
  match o.op with
  | .undef | .nop => false
  | .frcp | .frsq => o.w.slot != 3
  | .lda | .ldaw | .sta => o.w.slot != 4
  | op => if isMem op then o.w.slot != 4 && o.w.slot != 5 else if isBr op then o.w.slot != 6
          else if isRec op then o.w.slot != 7 else 3 < o.w.slot

/-- Subcode 0x03: two accesses to one single-port space (R196). -/
def twoAccesses (ops : List SlotOp) : Bool :=
  let n := fun p : OpName → Bool => (ops.filter fun o => p o.op).length
  1 < n (fun o => o == .lda || o == .ldaw || o == .sta) || 1 < n (· == .lds) || 1 < n (· == .ldp) || 1 < n (· == .ldr) || 1 < n (· == .ldb)

/-- Subcode 0x04: two operations naming one accumulator. -/
def twoAcc (ops : List SlotOp) : Bool :=
  (List.range 4).any fun a => 1 < (ops.filter fun o => isAcc o.op && o.w.f % 4 == a).length

/-- Subcode 0x05: a write to p0, or PR = 0 with PN = 1. -/
def badPred (o : SlotOp) : Bool := (writesP o.op && o.w.d % 8 == 0) || (o.op != .endm && o.w.pr == 0 && o.w.pn)

/-- Subcode 0x06: a write across the context partition (R186). -/
def crosses (bg : Bool) (o : SlotOp) : Bool :=
  (writesG o.op && (!ownsG bg o.w.d || (o.op == .ldd && !ownsG bg (o.w.d + 1)))) ||
  (writesP o.op && o.w.d % 8 != 0 && !ownsP bg (o.w.d % 8)) || (writesA o.op && !ownsA bg (o.w.f % 4))

/-- The lowest byte address above those to which the running code may store: images store below the 16 KiB of the fallback (R177, R200). -/
def storeTop (e : Eng) : Nat := if e.rom then 2 ^ 19 else 0x7C000

/-- Subcode 0x0C: an executing access outside its space (R200). -/
def outOfSpace (i : Issue) (o : SlotOp) : Bool :=
  match o.op with
  | .ldw | .ldd => 2 ^ 19 ≤ dmAddrI i
  | .stw | .std => storeTop i.e ≤ dmAddrI i
  | .ldx => 2 ^ 19 ≤ dmAddrX i
  | .stx => storeTop i.e ≤ dmAddrX i
  | .ldaw | .sta | .lds | .ldr => 16384 ≤ wordAddr i
  | .ldb => 4096 ≤ wordAddr i
  | _ => false

/-- The first rule of Table 6-12 that a bundle breaks, in subcode order; 0 when it breaks none. The checks that depend on values are made
for executing operations only (R191).
(DESIGN CHOICE: log entry 10.) -/
def illegalSub (s : State) (e : Eng) (codelen : Nat) (ops : List SlotOp) : Nat :=
  let ex := fun o : SlotOp => guardOf e o.w
  let iss := fun o : SlotOp => (⟨e, o.w, ⟨0, false, 0, 0, false, 0, 0, [], e.bg⟩⟩ : Issue)
  let has := fun p : OpName → Bool => ops.any fun o => p o.op
  let onEnd := fun a : Nat => e.loops.any fun l => l.last == a
  let nsig := match s.weave.img with
    | some i => i.nsig
    | none => 0
  let pushes := fun o : SlotOp => isLoop o.op && ex o && 0 < (if o.op == .loopi then loopCount o.w else (e.rg o.w.d).toNat % 65536)
  let badPush := ops.any fun o => pushes o && (e.loops.length == 3 || (match e.loops.getLast? with
    | some l => l.last < e.pc + loopLen o.w
    | none => false))
  if codelen ≤ e.pc then 0xB
  else if ops.any undefCode then 1
  else if ops.any wrongSlot then 2
  else if twoAccesses ops then 3
  else if twoAcc ops then 4
  else if ops.any badPred then 5
  else if ops.any (crosses e.bg) then 6
  else if e.branch.isSome && has (fun o => isBranch o || isLoop o) then 7
  else if has isBranch && (onEnd e.pc || onEnd (e.pc + 1) || onEnd (e.pc + 2)) then 8
  else if badPush || (has isLoop && onEnd e.pc) then 9
  else if (has (· == .endm) && e.bg) || (has (· == .jend) && !e.bg) ||
      (has (fun o => o == .endm || o == .jend) && (!e.loops.isEmpty || e.branch.isSome || has isBranch || ops.any pushes)) then 0xA
  else if ops.any (fun o => ex o && outOfSpace (iss o) o) then 0xC
  else if ops.any (fun o => o.op == .recv && ex o &&
      (let src := (e.rg o.w.a).toNat / 2 ^ 16 % 256; src == 0 || 168 + nsig ≤ src)) then 0xD
  else if ops.any (fun o => (o.op == .crd && 12 < o.w.b) || ((o.op == .cwr || o.op == .cwi) && o.w.d != 0 && o.w.d != 1 && o.w.d != 4)) then 0xE
  else if ops.any (fun o => (o.op == .ldd || o.op == .std) && o.w.d % 2 == 1) then 0xF
  else if e.shadow.isSome && ops.any (fun o => (o.op == .cwr || o.op == .cwi) && o.w.d == 0) then 0x10
  else 0

/-- The check of Table 5-7a that a bundle fails at issue: 2 SAMPLE_LATE, 3 OWNER, 5 RING_EARLY; 0 for none. A step run makes OWNER only
(R219). -/
def contractCheck (s : State) (c : Nat) (step : Bool) (e : Eng) (ops : List SlotOp) : Nat :=
  let iss := fun o : SlotOp => (⟨e, o.w, ⟨0, false, 0, 0, false, 0, 0, [], e.bg⟩⟩ : Issue)
  let owned := fun n : Nat => match s.weave.img with
    | some i => i.shared.any fun r => r.1 ≤ n && n < r.1 + r.2.1 && r.2.2 == c
    | none => false
  if !step && ops.any (fun o => o.op == .ldb && guardOf e o.w && (cluAt s c).due.contains (wordAddr (iss o))) then 2
  else if ops.any (fun o => o.op == .recs && guardOf e o.w && !owned ((e.rg o.w.a).toNat % 16384)) then 3
  else if !step && ops.any (fun o => o.op == .ldr && guardOf e o.w && !(cluAt s c).rxDone) then 5
  else 0

/-! ### Execution -/

/-- What one executing operation does. -/
def opSem (s : State) (k : Nat) (o : SlotOp) (i : Issue) (e : Eng) : Eng :=
  let c := k / 3
  match o.op with
  | .add => semAdd i e | .sub => semSub i e | .addi => semAddi i e | .and => semAnd i e | .or => semOr i e | .xor => semXor i e
  | .andn => semAndn i e | .shl => semShl i e | .shr => semShr i e | .sar => semSar i e | .shli => semShli i e | .shri => semShri i e
  | .sari => semSari i e | .min => semMin i e | .max => semMax i e | .sel => semSel i e | .li => semLi i e | .lih => semLih i e
  | .cmp => semCmp i e | .qadd => semQadd i e | .qsub => semQsub i e | .qabs => semQabs i e | .qmul => semQmul i e
  | .qmac => semQmac i e | .qmsb => semQmsb i e | .qmz => semQmz i e | .acr => semAcr i e | .acw => semAcw i e
  | .fadd => semFadd i e | .fsub => semFsub i e | .fmul => semFmul i e | .fma => semFma i e | .fmin => semFmin i e | .fmax => semFmax i e
  | .fneg => semFneg i e | .fabs => semFabs i e | .fcmp => semFcmp i e | .fcvt => semFcvt i e | .frcp => semFrcp i e | .frsq => semFrsq i e
  | .ldw => semLdw o.dataEcc i e | .ldd => semLdd o.dataEcc i e | .stw => semStw i e | .std => semStd i e | .ldx => semLdx o.dataEcc i e
  | .stx => semStx i e | .lda => semLda o.dataEcc i e | .ldaw => semLdaw o.dataEcc i e | .sta => semSta i e
  | .lds => semLds s o.dataEcc i e | .ldp => semLdp s o.dataEcc i e | .ldr => semLdr s c o.dataEcc i e | .ldb => semLdb s c o.dataEcc i e
  | .bra => semBra i e | .bri => semBri i e | .call => semCall i e | .ret => semRet i e | .loopi => semLoopi i e | .loopr => semLoopr i e
  | .crd => semCrd s k i e | .cwr => semCwr i e | .cwi => semCwi i e | .jend => semJend i e | .endm => semEnd i e
  | .rece => semRece i e | .recr => semRecr i e | .recs => semRecs i e | .recv => semRecv i e | .undef => e | .nop => e

/-- The attribution of the bundle that is about to issue (Table 6-13). -/
def attrOf (e : Eng) : Attr :=
  let inner := (e.loops.zipIdx.filter fun x => x.1.last == e.pc).getLast?
  ⟨e.pc, e.rom, match e.branch with
    | some b => 3 - b.left
    | none => 0, match e.shadow with
    | some h => 3 - h.2
    | none => 0, inner.isSome, (inner.map (·.2)).getD 0, e.mode, e.loops.map (·.cnt), e.bg⟩

/-- The shadow of a MODE write counts the bundle that issued (R215). -/
def countShadow (e : Eng) : Eng :=
  match e.shadow with
  | some (m, n) => if n ≤ 1 then (e.setMode m).setShadow none else e.setShadow (some (m, n - 1))
  | none => e

/-- Where the next bundle lies (R210–R213), from the engine before the bundle. Loops push and skip in their own operation. -/
def nextBundle (ops : List SlotOp) (e0 e : Eng) : Eng :=
  match e0.branch with
  | some b =>
    if b.left ≤ 1 then
      if b.taken then { e with branch := none, pc := b.target, loops := popLoops b.target e.loops }
      else { e with branch := none, pc := (e0.pc + 1) % 8192 }
    else { e with branch := some { b with left := b.left - 1 }, pc := (e0.pc + 1) % 8192 }
  | none =>
    if ops.any (fun o => isLoop o.op && guardOf e0 o.w) then e
    else
      let (p, ls) := loopEnd e0.pc e.loops.reverse
      { e with pc := p % 8192, loops := ls.reverse }

/-- A record issued in a step run is discarded and kept in STEPREC (R219). -/
def stepRecords (k : Nat) (s : State) : State :=
  (engAt s k).recs.foldl (fun s r =>
    (((s.count (LOOM_STEPSTAT_RECS k)).put (LOOM_STEPSTAT_KIND k) r.kind).put (LOOM_STEPREC0_A k) r.a.toNat).put (LOOM_STEPREC1_B k) r.b.toNat)
    s |> modEng k fun e => { e with recs := [] }

/-- The instructions the engine may fetch: 512 in the fallback ROM, CODELEN of its cluster in an image (R210). -/
def codeLen (s : State) (c : Nat) (e : Eng) : Nat :=
  if e.rom then 512
  else match s.weave.img with
    | some i => i.codelen.getD c 0
    | none => 0

/-! ### Fetch (R172, R189, R202) -/

/-- The base that engine `k` adds to a code address: that of the half in which the running image stands (R172). -/
def fetchBase (s : State) (e : Eng) : Nat :=
  if e.rom then 0
  else match s.weave.img with
    | some i => if i.codelen.all (· ≤ 4096) then 4096 * s.weave.half else 0
    | none => 0

/-- The operations of the bundle that instruction memory or the fallback ROM holds at the engine's address, with their slot words (R185, R189). -/
def fetchOps (s : State) (e : Eng) : List (OpName × SlotWord) :=
  (List.range 8).flatMap fun i =>
    let n := 8 * (fetchBase s e + e.pc) + i
    decodeWord i (if e.rom then Config.fbRom n else memAt e.im n)

/-- The operations that issue: what the memory holds, with the checks that came with the words of their slots.
(DESIGN CHOICE: log entry 10.) -/
def bundleOps (s : State) (e : Eng) : List SlotOp :=
  sortBy (fun x y => x.w.slot ≤ y.w.slot)
    ((fetchOps s e).map fun o => ⟨o.1, o.2, ((e.bundle.find? fun b => b.op == o.1 && b.w == o.2).map (·.dataEcc)).getD []⟩)

/-- A slot word that comes to the engine is one of the bundle at its address; a NOP is a bundle of zeros. -/
def holdsOp (s : State) (e : Eng) (op : OpName) (w : SlotWord) : Bool :=
  if op == .nop then (fetchOps s e).isEmpty else (fetchOps s e).contains (op, if op == .endm then endWord else w)

/-- The codewords of a fetch, by index in their memory, with what the checks find (R202). -/
def fetchReads (s : State) (e : Eng) (ecc : List Nat) : List (Nat × Nat) :=
  (List.range 4).map fun i => ((fetchBase s e + e.pc) * 4 + i, ecc.getD i 0)

/-- The corrected errors among the words read, in address order. -/
def eccReads (k mem : Nat) (read : List (Nat × Nat)) (s : State) : State :=
  (read.filter (·.2 == 1)).foldl (fun s x => eccCorrect k mem x.1 false s) s

/-- The corrected errors in what an executing load reads. -/
def loadChecks (k : Nat) (e : Eng) (at0 : Attr) (o : SlotOp) (s : State) : State :=
  if guardOf e o.w then eccReads k (loadMem o.op) (readsOf o.op o.dataEcc ⟨e, o.w, at0⟩) s else s

/-- The bundle of engine `k` is complete: it issues, or the engine stops (R189–R218).
(DESIGN CHOICE: log entry 10.) -/
def issueBundle (k : Nat) (fetchEcc : List Nat) (parity : Option Nat) (s : State) : State :=
  let c := k / 3
  let e := engAt s k
  let ops := bundleOps s e
  let at0 := attrOf e
  let step := s.get (LOOM_STAT_STATE k) = 5
  let imem := bit e.rom
  let reads := fetchReads s e fetchEcc
  let s := eccReads k imem reads s
  match reads.find? (·.2 == 2) with
  | some x => stopEngine k 1 imem (some at0) false e.lc (eccUe k imem x.1 false s)
  | none =>
    let sub := illegalSub s e (codeLen s c e) ops
    let chk := contractCheck s c step e ops
    if sub != 0 then stopEngine k 5 sub (some at0) false e.lc s
    else if chk != 0 then
      stopEngine k 4 chk (some at0) false e.lc
        (if s.get (LOOM_STAT_STATE k) = 1 then { s with weave.viols := s.weave.viols ++ [(c, k % 3, chk)] } else s)
    else
      let e1 := countShadow { e with bundle := [] }
      let e2 := ops.foldl (fun a o => if guardOf e o.w || isBranch o.op || o.op == .endm then opSem s k o ⟨e, o.w, at0⟩ a else a) e1
      let e3 := { nextBundle ops e e2 with lc := e.lc + 1, now := e.now + 1, lastAttr := some at0 }
      let s1 := ops.foldl (fun s o => loadChecks k e at0 o s) (modEng k (fun _ => e3) s)
      let s2 := if step then
          let n := s1.get (LOOM_STEPCTL_N k)
          stepRecords k ((s1.put (LOOM_STEPCTL_N k) (n - 1)).countWrap (LOOM_STEPSTAT_DONE k))
        else s1
      let s3 := landDue k s2
      match parity with
      | some p => stopEngine k 6 p (some at0) true e.lc s3
      | none => s3

/-- The loom clock from which the running context of engine `k` issues no bundle: the end of its heddle, or the last 8 lc of background work
(R144, R159).
(DESIGN CHOICE: log entry 146.) -/
def issueEnd (s : State) (k : Nat) : Nat :=
  let e := engAt s k
  let top := match heddleNow s (k / 3) with
    | some h => h.start + h.len
    | none => pickLen s
  if e.bg then top - 8 else top

/-- Whether engine `k` issues: it runs, or is on probation, within the time of its context, or it steps, which ignores heddle boundaries
(R219); and its context has code left. -/
def issues (s : State) (k : Nat) : Bool :=
  let st := s.get (LOOM_STAT_STATE k)
  let e := engAt s k
  (((st == 1 || (st == 4 && s.flag (REED_ENGST_PROB k))) && decide (e.lc < issueEnd s k)) ||
    (st == 5 && 0 < s.get (LOOM_STEPCTL_N k))) && e.running

/-- One slot word comes to engine `k`: it joins the bundle (a slot holds one word; the END marker shares the BR word), and the last word
of the bundle issues it. An engine that does not issue, or whose instruction memory does not hold the word, takes nothing.
(DESIGN CHOICE: log entry 10.) -/
def slotIn (k : Nat) (op : OpName) (w : SlotWord) (x : Iss) (s : State) : State :=
  if !issues s k || !holdsOp s (engAt s k) op w then s
  else
    let keep := fun o : SlotOp => o.w.slot != w.slot || (o.op == .endm) != (op == .endm)
    let s1 := modEng k (fun e => { e with bundle := e.bundle.filter keep ++ [⟨op, w, x.dataEcc⟩] }) s
    if x.last then issueBundle k x.fetchEcc x.parity s1 else s1

end Sys2Proof.Machine
end

