-- ==== Sys2Proof/Machine/LoomOps.lean ====
section
/-! DEFINITION. The commands of the loom engines: one slot word comes to an engine (the last word of a bundle issues it), time passes
for results in flight, and single stepping. -/

namespace Sys2Proof.Machine

open Host (Outcome)

/-- `ADD` (R192): Integer add, wrapping. -/
def execAdd (e : Nat) (w : SlotWord) (x : Iss) (s : State) : Outcome State Fault Refusal := run (slotIn e .add w x) s

/-- `SUB` (R192): Integer subtract, wrapping. -/
def execSub (e : Nat) (w : SlotWord) (x : Iss) (s : State) : Outcome State Fault Refusal := run (slotIn e .sub w x) s

/-- `ADDI` (R192): Integer add immediate. -/
def execAddi (e : Nat) (w : SlotWord) (x : Iss) (s : State) : Outcome State Fault Refusal := run (slotIn e .addi w x) s

/-- `AND` (R192): Bitwise AND. -/
def execAnd (e : Nat) (w : SlotWord) (x : Iss) (s : State) : Outcome State Fault Refusal := run (slotIn e .and w x) s

/-- `OR` (R192): Bitwise OR. -/
def execOr (e : Nat) (w : SlotWord) (x : Iss) (s : State) : Outcome State Fault Refusal := run (slotIn e .or w x) s

/-- `XOR` (R192): Bitwise XOR. -/
def execXor (e : Nat) (w : SlotWord) (x : Iss) (s : State) : Outcome State Fault Refusal := run (slotIn e .xor w x) s

/-- `ANDN` (R192): Bitwise A AND NOT B. -/
def execAndn (e : Nat) (w : SlotWord) (x : Iss) (s : State) : Outcome State Fault Refusal := run (slotIn e .andn w x) s

/-- `SHL` (R192): Shift left by register. -/
def execShl (e : Nat) (w : SlotWord) (x : Iss) (s : State) : Outcome State Fault Refusal := run (slotIn e .shl w x) s

/-- `SHR` (R192): Logical shift right by register. -/
def execShr (e : Nat) (w : SlotWord) (x : Iss) (s : State) : Outcome State Fault Refusal := run (slotIn e .shr w x) s

/-- `SAR` (R192): Arithmetic shift right by register. -/
def execSar (e : Nat) (w : SlotWord) (x : Iss) (s : State) : Outcome State Fault Refusal := run (slotIn e .sar w x) s

/-- `SHLI` (R192): Shift left by immediate. -/
def execShli (e : Nat) (w : SlotWord) (x : Iss) (s : State) : Outcome State Fault Refusal := run (slotIn e .shli w x) s

/-- `SHRI` (R192): Logical shift right by immediate. -/
def execShri (e : Nat) (w : SlotWord) (x : Iss) (s : State) : Outcome State Fault Refusal := run (slotIn e .shri w x) s

/-- `SARI` (R192): Arithmetic shift right by immediate. -/
def execSari (e : Nat) (w : SlotWord) (x : Iss) (s : State) : Outcome State Fault Refusal := run (slotIn e .sari w x) s

/-- `MIN` (R192): Signed minimum. -/
def execMin (e : Nat) (w : SlotWord) (x : Iss) (s : State) : Outcome State Fault Refusal := run (slotIn e .min w x) s

/-- `MAX` (R192): Signed maximum. -/
def execMax (e : Nat) (w : SlotWord) (x : Iss) (s : State) : Outcome State Fault Refusal := run (slotIn e .max w x) s

/-- `SEL` (R192): Select A or B by a predicate. -/
def execSel (e : Nat) (w : SlotWord) (x : Iss) (s : State) : Outcome State Fault Refusal := run (slotIn e .sel w x) s

/-- `LI` (R192): Load a sign-extended immediate. -/
def execLi (e : Nat) (w : SlotWord) (x : Iss) (s : State) : Outcome State Fault Refusal := run (slotIn e .li w x) s

/-- `LIH` (R192): Load the upper half from an immediate. -/
def execLih (e : Nat) (w : SlotWord) (x : Iss) (s : State) : Outcome State Fault Refusal := run (slotIn e .lih w x) s

/-- `CMP` (R192): Integer compare into a predicate. -/
def execCmp (e : Nat) (w : SlotWord) (x : Iss) (s : State) : Outcome State Fault Refusal := run (slotIn e .cmp w x) s

/-- `QADD` (R203): Q1.31 add with mode saturation. -/
def execQadd (e : Nat) (w : SlotWord) (x : Iss) (s : State) : Outcome State Fault Refusal := run (slotIn e .qadd w x) s

/-- `QSUB` (R203): Q1.31 subtract with mode saturation. -/
def execQsub (e : Nat) (w : SlotWord) (x : Iss) (s : State) : Outcome State Fault Refusal := run (slotIn e .qsub w x) s

/-- `QABS` (R203): Q1.31 absolute value. -/
def execQabs (e : Nat) (w : SlotWord) (x : Iss) (s : State) : Outcome State Fault Refusal := run (slotIn e .qabs w x) s

/-- `QMUL` (R203): Q1.31 multiply with rounding and limit. -/
def execQmul (e : Nat) (w : SlotWord) (x : Iss) (s : State) : Outcome State Fault Refusal := run (slotIn e .qmul w x) s

/-- `QMAC` (R199): Multiply and accumulate into an accumulator. -/
def execQmac (e : Nat) (w : SlotWord) (x : Iss) (s : State) : Outcome State Fault Refusal := run (slotIn e .qmac w x) s

/-- `QMSB` (R199): Multiply and subtract from an accumulator. -/
def execQmsb (e : Nat) (w : SlotWord) (x : Iss) (s : State) : Outcome State Fault Refusal := run (slotIn e .qmsb w x) s

/-- `QMZ` (R199): Set an accumulator to a product. -/
def execQmz (e : Nat) (w : SlotWord) (x : Iss) (s : State) : Outcome State Fault Refusal := run (slotIn e .qmz w x) s

/-- `ACR` (R204): Read an accumulator scaled to Q1.31. -/
def execAcr (e : Nat) (w : SlotWord) (x : Iss) (s : State) : Outcome State Fault Refusal := run (slotIn e .acr w x) s

/-- `ACW` (R199): Write an accumulator from Q1.31. -/
def execAcw (e : Nat) (w : SlotWord) (x : Iss) (s : State) : Outcome State Fault Refusal := run (slotIn e .acw w x) s

/-- `FADD` (R205): FP32 add. -/
def execFadd (e : Nat) (w : SlotWord) (x : Iss) (s : State) : Outcome State Fault Refusal := run (slotIn e .fadd w x) s

/-- `FSUB` (R205): FP32 subtract. -/
def execFsub (e : Nat) (w : SlotWord) (x : Iss) (s : State) : Outcome State Fault Refusal := run (slotIn e .fsub w x) s

/-- `FMUL` (R205): FP32 multiply. -/
def execFmul (e : Nat) (w : SlotWord) (x : Iss) (s : State) : Outcome State Fault Refusal := run (slotIn e .fmul w x) s

/-- `FMA` (R205): FP32 fused multiply-add. -/
def execFma (e : Nat) (w : SlotWord) (x : Iss) (s : State) : Outcome State Fault Refusal := run (slotIn e .fma w x) s

/-- `FMIN` (R205): FP32 minimum. -/
def execFmin (e : Nat) (w : SlotWord) (x : Iss) (s : State) : Outcome State Fault Refusal := run (slotIn e .fmin w x) s

/-- `FMAX` (R205): FP32 maximum. -/
def execFmax (e : Nat) (w : SlotWord) (x : Iss) (s : State) : Outcome State Fault Refusal := run (slotIn e .fmax w x) s

/-- `FNEG` (R192): FP32 negate. -/
def execFneg (e : Nat) (w : SlotWord) (x : Iss) (s : State) : Outcome State Fault Refusal := run (slotIn e .fneg w x) s

/-- `FABS` (R192): FP32 absolute value. -/
def execFabs (e : Nat) (w : SlotWord) (x : Iss) (s : State) : Outcome State Fault Refusal := run (slotIn e .fabs w x) s

/-- `FCMP` (R192): FP32 compare into a predicate. -/
def execFcmp (e : Nat) (w : SlotWord) (x : Iss) (s : State) : Outcome State Fault Refusal := run (slotIn e .fcmp w x) s

/-- `FCVT` (R207): Convert between FP32, Q1.31 and INT32. -/
def execFcvt (e : Nat) (w : SlotWord) (x : Iss) (s : State) : Outcome State Fault Refusal := run (slotIn e .fcvt w x) s

/-- `FRCP` (R205): FP32 reciprocal on X3. -/
def execFrcp (e : Nat) (w : SlotWord) (x : Iss) (s : State) : Outcome State Fault Refusal := run (slotIn e .frcp w x) s

/-- `FRSQ` (R205): FP32 reciprocal square root on X3. -/
def execFrsq (e : Nat) (w : SlotWord) (x : Iss) (s : State) : Outcome State Fault Refusal := run (slotIn e .frsq w x) s

/-- `LDW` (R193): Load a DM word. -/
def execLdw (e : Nat) (w : SlotWord) (x : Iss) (s : State) : Outcome State Fault Refusal := run (slotIn e .ldw w x) s

/-- `LDD` (R193): Load a DM doubleword into a register pair. -/
def execLdd (e : Nat) (w : SlotWord) (x : Iss) (s : State) : Outcome State Fault Refusal := run (slotIn e .ldd w x) s

/-- `STW` (R193): Store a DM word. -/
def execStw (e : Nat) (w : SlotWord) (x : Iss) (s : State) : Outcome State Fault Refusal := run (slotIn e .stw w x) s

/-- `STD` (R193): Store a register pair to DM. -/
def execStd (e : Nat) (w : SlotWord) (x : Iss) (s : State) : Outcome State Fault Refusal := run (slotIn e .std w x) s

/-- `LDX` (R193): Load a DM word by register index. -/
def execLdx (e : Nat) (w : SlotWord) (x : Iss) (s : State) : Outcome State Fault Refusal := run (slotIn e .ldx w x) s

/-- `STX` (R193): Store a DM word by register index. -/
def execStx (e : Nat) (w : SlotWord) (x : Iss) (s : State) : Outcome State Fault Refusal := run (slotIn e .stx w x) s

/-- `LDA` (R200): Interpolated angle-table read. -/
def execLda (e : Nat) (w : SlotWord) (x : Iss) (s : State) : Outcome State Fault Refusal := run (slotIn e .lda w x) s

/-- `LDAW` (R193): Load an angle-table word. -/
def execLdaw (e : Nat) (w : SlotWord) (x : Iss) (s : State) : Outcome State Fault Refusal := run (slotIn e .ldaw w x) s

/-- `STA` (R193): Store an angle-table word. -/
def execSta (e : Nat) (w : SlotWord) (x : Iss) (s : State) : Outcome State Fault Refusal := run (slotIn e .sta w x) s

/-- `LDS` (R151): Load a shared-state word. -/
def execLds (e : Nat) (w : SlotWord) (x : Iss) (s : State) : Outcome State Fault Refusal := run (slotIn e .lds w x) s

/-- `LDP` (R152): Load a parameter-store word. -/
def execLdp (e : Nat) (w : SlotWord) (x : Iss) (s : State) : Outcome State Fault Refusal := run (slotIn e .ldp w x) s

/-- `LDR` (R158): Load a ring-buffer word. -/
def execLdr (e : Nat) (w : SlotWord) (x : Iss) (s : State) : Outcome State Fault Refusal := run (slotIn e .ldr w x) s

/-- `LDB` (R156): Load an ADC result word. -/
def execLdb (e : Nat) (w : SlotWord) (x : Iss) (s : State) : Outcome State Fault Refusal := run (slotIn e .ldb w x) s

/-- `BRA` (R210): Relative branch with two delay bundles. -/
def execBra (e : Nat) (w : SlotWord) (x : Iss) (s : State) : Outcome State Fault Refusal := run (slotIn e .bra w x) s

/-- `BRI` (R210): Indirect branch with two delay bundles. -/
def execBri (e : Nat) (w : SlotWord) (x : Iss) (s : State) : Outcome State Fault Refusal := run (slotIn e .bri w x) s

/-- `CALL` (R194): Branch and set LNK. -/
def execCall (e : Nat) (w : SlotWord) (x : Iss) (s : State) : Outcome State Fault Refusal := run (slotIn e .call w x) s

/-- `RET` (R194): Branch to LNK. -/
def execRet (e : Nat) (w : SlotWord) (x : Iss) (s : State) : Outcome State Fault Refusal := run (slotIn e .ret w x) s

/-- `LOOPI` (R211): Push a loop with an immediate count. -/
def execLoopi (e : Nat) (w : SlotWord) (x : Iss) (s : State) : Outcome State Fault Refusal := run (slotIn e .loopi w x) s

/-- `LOOPR` (R211): Push a loop with a register count. -/
def execLoopr (e : Nat) (w : SlotWord) (x : Iss) (s : State) : Outcome State Fault Refusal := run (slotIn e .loopr w x) s

/-- `CRD` (R194): Read a control register. -/
def execCrd (e : Nat) (w : SlotWord) (x : Iss) (s : State) : Outcome State Fault Refusal := run (slotIn e .crd w x) s

/-- `CWR` (R215): Write a control register from a register. -/
def execCwr (e : Nat) (w : SlotWord) (x : Iss) (s : State) : Outcome State Fault Refusal := run (slotIn e .cwr w x) s

/-- `CWI` (R194): Write a control register from an immediate. -/
def execCwi (e : Nat) (w : SlotWord) (x : Iss) (s : State) : Outcome State Fault Refusal := run (slotIn e .cwi w x) s

/-- `JEND` (R214): End a BG job for its period. -/
def execJend (e : Nat) (w : SlotWord) (x : Iss) (s : State) : Outcome State Fault Refusal := run (slotIn e .jend w x) s

/-- `END_MARKER` (R214): The heddle-end marker ends foreground code of the heddle. -/
def execEndMarker (e : Nat) (w : SlotWord) (x : Iss) (s : State) : Outcome State Fault Refusal := run (slotIn e .endm w x) s

/-- `RECE` (R286): Issue an edge duty or blanking arm record. -/
def execRece (e : Nat) (w : SlotWord) (x : Iss) (s : State) : Outcome State Fault Refusal := run (slotIn e .rece w x) s

/-- `RECR` (R261): Issue a ring command record. -/
def execRecr (e : Nat) (w : SlotWord) (x : Iss) (s : State) : Outcome State Fault Refusal := run (slotIn e .recr w x) s

/-- `RECS` (R195): Issue a shared-state write record. -/
def execRecs (e : Nat) (w : SlotWord) (x : Iss) (s : State) : Outcome State Fault Refusal := run (slotIn e .recs w x) s

/-- `RECV` (R184): Issue an event record. -/
def execRecv (e : Nat) (w : SlotWord) (x : Iss) (s : State) : Outcome State Fault Refusal := run (slotIn e .recv w x) s

/-- `UNDEFINED_OPERATION` (R196): A bundle carrying an undefined OP or F code in some slot issues and the engine stops with ILLEGAL subcode 0x01. -/
def execUndefinedOperation (e : Nat) (w : SlotWord) (x : Iss) (s : State) : Outcome State Fault Refusal := run (slotIn e .undef w x) s

/-- `NOP` (R189): A bundle whose slot words are all zero issues, doing nothing but advancing fetch, loops and shadows. -/
def execNop (e : Nat) (w : SlotWord) (x : Iss) (s : State) : Outcome State Fault Refusal := run (slotIn e .nop w x) s

/-- `OPERATION_COMPLETE` (R197, R208, R209): `clocks` loom clocks pass on engine `e` without an issue; results that become available are
written and their flags set. -/
def execOperationComplete (e clocks : Nat) (s : State) : Outcome State Fault Refusal :=
  run (fun s => landDue e (modEng e (fun g => { g with now := g.now + clocks, lc := g.lc + clocks }) s)) s

/-- Test registers and single stepping are open in every lifecycle state but FIELD and VOID (Table 17-7). -/
def testOpen (s : State) : Bool := s.get LIFECYCLE_STAT_STATE != 4 && s.get LIFECYCLE_STAT_STATE != 6

/-- R219: stepping is permitted on a held engine that is OUT. -/
def stepPermitted (k : Nat) (s : State) : Bool :=
  s.get (LOOM_STAT_STATE k) == 3 && s.flag (REED_ENGST_HELD k) && testOpen s

/-- The engine takes up the stop point S with the branch, shadow and loop state that its stop registers record (R219). -/
def stopPoint (s : State) (k : Nat) (e : Eng) : Eng :=
  let loop := fun n => if s.flag (LOOM_LP_RNG_ACT k n) then
    [(⟨s.get (LOOM_LP_RNG_START k n), s.get (LOOM_LP_RNG_END k n), s.get (LOOM_LP_CNT_CNT k n)⟩ : Loop)] else []
  let sh := if s.flag (LOOM_STOPCTX_SPEND k) then some (s.get (LOOM_STOPCTX_PMODE k), s.get (LOOM_STOPCTX_SSHD k)) else none
  let br : Option Branch := if s.get (LOOM_STOPCTX_SDLY k) = 0 then none
    else some ⟨s.flag (LOOM_STOPCTX_BTAKEN k), s.get (LOOM_STOPBT_BTGT k), s.get (LOOM_STOPCTX_SDLY k)⟩
  Eng.setShadow sh { e with running := true, ended := false, bundle := [], bg := s.flag (LOOM_STOPCTX_XCTX k), pc := s.get (LOOM_STOPPC_S k),
                            rom := s.flag (LOOM_STOPPC_SROM k), branch := br, loops := loop 0 ++ loop 1 ++ loop 2 }

/-- A write of `LOOM.STEPCTL` (R219): the engine issues up to N bundles from S. -/
def stepctlWrite (k : Nat) (w : Word) (s : State) : State :=
  let a := (LOOM_STEPCTL_N k).addr
  if (s.get (pglock (0x44 + k))).testBit 0 then capture a 1 s
  else if !stepPermitted k s then capture a 3 s
  else
    let n := bitsAt w.toNat 0 13
    let s1 := if w.toNat / 2 ^ 13 = 0 then s else capture a 2 s
    if n = 0 then s1
    else modEng k (stopPoint s1 k) (setEngState k 5 ((s1.put (LOOM_STEPCTL_N k) n).put (LOOM_STEPSTAT_DONE k) 0))

/-- `STEPCTL` (DESIGN CHOICE: log entry 18). -/
def execStepctl (e : Nat) (value : Word) (s : State) : Outcome State Fault Refusal := run (stepctlWrite e value) s

/-- A write of `LOOM.STEPPC` (R219): S is set, SDLY and SPEND are cleared and the loop stack emptied. -/
def steppcWrite (k : Nat) (w : Word) (s : State) : State :=
  let a := (LOOM_STEPPC_PC k).addr
  if (s.get (pglock (0x44 + k))).testBit 0 then capture a 1 s
  else if !stepPermitted k s then capture a 3 s
  else
    let s1 := if w.toNat / 2 ^ 14 = 0 then s else capture a 2 s
    let s2 := (((s1.put (LOOM_STEPPC_PC k) (bitsAt w.toNat 0 13)).putB (LOOM_STEPPC_ROM k) (w.getLsbD 13)).put
      (LOOM_STOPCTX_SDLY k) 0).put (LOOM_STOPCTX_SPEND k) 0
    let s3 := (s2.put (LOOM_STOPPC_S k) (bitsAt w.toNat 0 13)).putB (LOOM_STOPPC_SROM k) (w.getLsbD 13)
    let s4 := [0, 1, 2].foldl (fun s n => ((s.put (LOOM_LP_CNT_CNT k n) 0).putB (LOOM_LP_RNG_ACT k n) false)) (s3.put (LOOM_STOPCTX_LDEPTH k) 0)
    modEng k (fun e => { (e.setShadow none) with pc := bitsAt w.toNat 0 13, rom := w.getLsbD 13, branch := none, loops := [], ended := false }) s4

def execSteppc (e : Nat) (value : Word) (s : State) : Outcome State Fault Refusal := run (steppcWrite e value) s

/-- `STEP_RUN_END` (R219): the count is reached, or an END or JEND bundle has issued. -/
def execStepRunEnd (e : Nat) (s : State) : Outcome State Fault Refusal :=
  run (fun s =>
    if s.get (LOOM_STAT_STATE e) = 5 && ((engAt s e).ended || s.get (LOOM_STEPCTL_N e) = 0) then
      stopEngine e 8 (bit (engAt s e).ended) none false (engAt s e).lc s
    else s) s

end Sys2Proof.Machine
end

