-- ==== Sys2Proof/Machine/Cells.lean ====
section
/-! DEFINITION. Cells (R13–R33): states and their changes (Table 1-3c), bypass commands and their confirmation, faults, counts, headroom
and link setpoints, the ring buffer's publication at RXDONE (R158, R274), and the host's SERVICE requests. -/

namespace Sys2Proof.Machine

open Host (Outcome)

/-! ### The converter map -/

/-- The converter map of the image that runs, or ran when the fallback started. -/
def convMap (s : State) : Option ConvMap := (s.weave.img).map (·.conv)

def noCell : CellMap := ⟨0, false, false, 0⟩

/-- The map's entry of a cell position; unpopulated while no image has run. -/
def cellMap (s : State) (g : Nat) : CellMap := (((convMap s).map (·.cells)).getD []).getD g noCell

def populated (s : State) (g : Nat) : Bool := (cellMap s g).ty != 0

/-- The cell positions of a phase, rising. -/
def phaseCells (ph : Nat) : List Nat := (List.range 64).map (64 * ph + ·)

/-- The configured active count of a phase (R29). -/
def configured (s : State) (ph : Nat) : Nat := ((phaseCells ph).filter fun g => populated s g && !(cellMap s g).spare).length

/-- R28: a phase of n cells at link setpoint v (volts) passes for the nominal line voltage `vll` (volts). Both sides are squared and
multiplied by 300: 0.90² · 300 = 243, 1.10² · 2 / 3 · 300 = 242. -/
def headroom (n v vll : Nat) : Bool := 242 * (vll * vll) ≤ 243 * (n * n) * (v * v)

/-! ### Cell records -/

def cellSt (s : State) (g : Nat) : CellSt := s.cells.getD g CellSt.reset
def modCell (g : Nat) (f : CellSt → CellSt) (s : State) : State := { s with cells := s.cells.modify g f }
def cellState (s : State) (g : Nat) : Nat := s.get (CELL_STATE_ST g)

/-- A cell changes its state (R20, R32). -/
def setCellState (g st : Nat) (s : State) : State :=
  if cellState s g = st then s else setEvt (0x100 + g) 2 (s.put (CELL_STATE_ST g) st)

/-- A bypass command goes into the cell's downlink image and awaits confirmation (R21, R23): 1 = close, 2 = open. -/
def bypassCommand (g cmd : Nat) (s : State) : State :=
  modCell g (fun c => { c with dl := { c.dl with bypcmd := cmd }, await := some cmd, conf := false }) s

/-- Cells of a phase in its count or on their way into it. -/
def inOrEntering (s : State) (ph : Nat) : Nat := ((phaseCells ph).filter fun g => (cellSt s g).counted || cellState s g == 7).length

def belowCount (s : State) (ph : Nat) : Bool := inOrEntering s ph < configured s ph

/-- A cell goes to ENTERING: its bypass is commanded open. -/
def enterCell (g : Nat) (s : State) : State := setCellState g 7 (bypassCommand g 2 s)

/-- A cell goes to LEAVING: its bypass is commanded closed. -/
def leaveCell (g : Nat) (s : State) : State := setCellState g 8 (bypassCommand g 1 s)

/-- R25: a cell that returns from OUT or FAULTED. -/
def returnCell (g : Nat) (s : State) : State :=
  if belowCount s (g / 64) then enterCell g s else setCellState g 2 s

/-! ### Faults -/

/-- Latch a fault cause (Tables 1-11 and 1-12, R32): the first since the FAULT bit was cleared stands. -/
def latchFault (g cause : Nat) (s : State) : State :=
  let s1 := if s.get (CELL_FAULT_CAUSE g) = 0 then
      (s.put (CELL_FAULT_CAUSE g) cause).put (CELL_FAULTW_SWARP g) (swarp s).toNat else s
  setEvt (0x100 + g) 1 ((s1.count (CELL_FAULT_COUNT g)).put (CELL_STATE_LASTF g) cause)

/-- The edges of a cell stop: its carries are cleared (R291). -/
def stopEdges (g : Nat) (s : State) : State :=
  { s with edge.cells := s.edge.cells.modify g fun e => { e with carL := (0, 0), carM := (0, 0), stopped := true } }

/-- A fault cause is reported, or the node lost, in a state that Table 1-3c lists; the bypass of a lost node is not commanded (R24). A cell
that a host write of the same pick has put out of service is FAULTED all the same: the fault is applied first (R27). -/
def cellFault (g cause : Nat) (s : State) : State :=
  let st := cellState s g
  if st = 8 then
    let s1 := latchFault g cause s
    if (cellSt s g).svcPick = some (absPick s) then setCellState g 6 s1 else s1
  else if st = 2 || st = 3 || st = 4 || st = 7 then
    let s1 := stopEdges g (latchFault g cause s)
    setCellState g 6 (if cause = 7 then s1 else bypassCommand g 1 s1)
  else s

/-- R24: the node is lost from both directions. Its confirmation timeout is abandoned (R23), cause 0x07 is latched; a state that Table 1-3c
does not list for it stays. -/
def nodeLost (g lane : Nat) (s : State) : State :=
  if (cellSt s g).lost || !populated s g || cellState s g = 1 then s
  else
    let s1 := modCell g (fun c => { c with lost := true, gone := false, await := none }) s
    let s2 := raiseF (48 + lane) 2 (g + 256 * (lane % 2)) (setEvt (0x58 + lane) 4 s1)
    let st := cellState s2 g
    if st = 0 || st = 5 || st = 6 then latchFault g 7 s2 else cellFault g 7 s2

/-- A latched fault, which decides where a LEAVING cell goes. -/
def faultLatched (s : State) (g : Nat) : Bool := s.get (CELL_FAULT_CAUSE g) != 0

/-! ### What a published uplink does to its cell (R21, R358) -/

/-- STATUS of the published block. -/
def flagsOf (ws : List Word) : Nat := (ws.getD 0 0).toNat % 256
def causeOf (ws : List Word) : Nat := bitsAt (ws.getD 0 0).toNat 8 8

/-- The mean of a stream in amperes or volts: Q1.31 times the full scale of the converter map (R264). -/
def streamMean (s : State) (ws : List Word) (k : Nat) : Rat :=
  (ws.getD (8 + k) 0).toInt * ((((convMap s).map (·.fs)).getD []).getD k 0 : Nat) / 2 ^ 31

/-- The CELL page from the published block (Tables 1-7, 1-9, 1-10). The output current is that of leg L (log entry 36).
(DEDUCED: log entry 110.) -/
def cellPage (g : Nat) (ws : List Word) (s : State) : State :=
  let fl := flagsOf ws
  let vout := streamMean s ws 2
  let w2 := (ws.getD 2 0).toNat
  let iin := toSigned 16 ((ws.getD 3 0).toNat % 65536)
  let s1 := (((s.put (CELL_STATE_BYP g) fl).put (CELL_STATE_BLK g) (fl / 2)).put (CELL_STATE_INOK g) (fl / 4)).put
    (CELL_STATE_VLC g) (lsbU 8 (vout / 5))
  let s2 := ((s1.put (CELL_STATE_TMAX g) (ws.getD 1 0).toNat).put (CELL_VLINK_VOUT g) (lsbU 16 (vout * 20))).put (CELL_VLINK_VPRI g) w2
  let s3 := s2.put (CELL_POWER_PIN g) (lsbS 16 (((w2 / 65536 : Nat) : Rat) * (iin : Rat) / 4000))
  let i := streamMean s ws 0
  let c := cellSt s g
  if bitsAt (ws.getD 0 0).toNat 16 12 = 4095 then
    modCell g (fun c => { c with isum := 0, icnt := 0 })
      (s3.put (CELL_POWER_IOUT g) (lsbU 16 (100 * Config.sqrt ((c.isum + i * i) / ((c.icnt + 1 : Nat) : Rat)))))
  else modCell g (fun c => { c with isum := c.isum + i * i, icnt := c.icnt + 1 }) s3

/-- A bypass report that agrees with the command confirms it (R23, R299); so is the close of a LEAVING cell whose node was lost for a time (R21). -/
def confirmBypass (g fl : Nat) (s : State) : State :=
  match (cellSt s g).await with
  | some cmd => if (fl % 2 = 1) == (cmd = 1) then modCell g (fun c => { c with await := none, conf := true }) s else s
  | none => if cellState s g = 8 && fl % 2 = 1 then modCell g (fun c => { c with conf := true }) s else s

/-- No input reference stands for a cell: the open code, or 0 A (R339). -/
def noReference (g : Nat) (storage : Bool) (s : State) : State :=
  let w := if storage then 0 else 0xFFFF
  modCell g (fun c => { c with dl := { c.dl with inref := w } }) { s with mppt.cells := s.mppt.cells.modify g fun t => { t with inref := w } }

/-- R358: input loss of an ACTIVE cell: held at zero transfer, or out, with no input reference; event 0x0001 of the STORAGE page for a
storage cell. -/
def inputLoss (g : Nat) (s : State) : State :=
  let m := cellMap s g
  let storage := m.ty == 2
  let s0 := noReference g storage s
  let charging := decide ((s.mppt.cells.getD g Trk.reset).cmd < 0)
  let s1 := if storage then raiseF 67 1 (g + 256 * bit charging + 512 * bit m.inloss) (setEvt 0x077 1 (s0.count STORAGE_INLCNT_COUNT)) else s0
  if m.inloss then leaveCell g (s1.put (CELL_STATE_LASTF g) 4)
  else setCellState g 4 (modCell g (fun c => { c with dl := { c.dl with pxfer := 0 } }) s1)

/-- R21: FAULTED with the fault bit cleared, the node healthy and SERVICE = 0. -/
def faultedReturn (g : Nat) (s : State) : State :=
  let c := cellSt s g
  let healthy := match c.red.head? with
    | some r => c.cause == 0 && flagsOf r.words / 16 % 2 == 0
    | none => false
  if cellState s g = 6 && s.raw ((0x100 + g) * 0x1000 + 0x10) &&& 1 = 0 && healthy && !c.lost && !s.flag (CELL_CTL_SERVICE g)
  then returnCell g s else s

/-- The cell's events from a newly published block, the fault first (R27). -/
def cellEvents (g : Nat) (ws : List Word) (s : State) : State :=
  let fl := flagsOf ws
  let ca := causeOf ws
  let old := (cellSt s g).cause
  let s1 := modCell g (fun c => { c with cause := ca, inok := if fl / 4 % 2 = 1 then c.inok + 1 else 0 }) s
  let s2 := if ca != 0 && (ca != old || cellState s1 g != 8) then cellFault g ca s1 else s1
  let s3 := confirmBypass g fl s2
  let s4 := if fl / 4 % 2 = 0 && cellState s3 g = 3 then inputLoss g s3 else s3
  faultedReturn g s4

/-! ### RXDONE (R158, R273, R274, R277) -/

/-- RXDONE of a cluster: of the image, or of the fallback plan (R148, R557). -/
def rxdoneOf (s : State) (c : Nat) : Nat :=
  if s.flag WEAVE_STAT_FB || !s.flag WEAVE_STAT_RUN then 2432
  else match s.weave.img with
    | some i => i.rxdone.getD c 2432
    | none => 2432

def twinImage (s : State) : Bool := ((s.weave.img).map (·.twin)).getD false

/-- The newest reduction that has completed by RXDONE of the present pick; 480 lc before it in twin mode. -/
def newestDone (s : State) (c : Nat) (rs : List Reduced) : Option Reduced :=
  let lim := rxdoneOf s c - (if twinImage s then 480 else 0)
  rs.find? fun r => r.pick + 1 < absPick s || r.lc ≤ lim

/-- AGE of a reduction in the present pick; 3 = stale. -/
def ageOf (s : State) (r : Option Reduced) : Nat :=
  match r with
  | some r => min 3 (absPick s - 1 - r.pick)
  | none => 3

/-- Write words into a cluster's ring buffer from a base. -/
def putRing (c base : Nat) (ws : List Word) (s : State) : State :=
  modClu c (fun x => { x with ringBuf := (ws.zipIdx).foldl (fun m p => memSet (base + p.2) p.1 m) x.ringBuf }) s

/-- STATUS with AGE and AUTH. -/
def statusWord (w0 age : Nat) (bad : Bool) : Word := word (w0 % 2 ^ 28 + 2 ^ 28 * age + 2 ^ 30 * bit bad + 2 ^ 31 * (w0 / 2 ^ 31 % 2))

/-- The words that cluster P sees of a block (R274): STATUS, words 1–5, the means, LEAK and ARCV. -/
def sharedWords (w0 : Word) (ws : List Word) : List Word :=
  w0 :: ((List.range 5).map fun i => ws.getD (i + 1) 0) ++ ((List.range 4).map fun i => ws.getD (8 + i) 0) ++ [ws.getD 36 0, ws.getD 37 0]

/-- The lane that owns a cell, 0–5. -/
def ownerLane (s : State) (g : Nat) : Nat := 2 * (g / 64) + s.get (CELL_STATE_DIR g)

/-- Publish one cell in cluster `c` (R274). A publication of the phase's own cluster is counted and acts on the cell.
(DESIGN CHOICE: log entry 35.) (DESIGN CHOICE: log entry 36.) -/
def publishCell (c g : Nat) (s : State) : State :=
  if !populated s g then s
  else
    let x := cellSt s g
    let r := newestDone s c x.red
    let age := ageOf s r
    let ws := (r.map (·.words)).getD []
    let w0 := statusWord (ws.getD 0 0).toNat age x.authBad
    if c = 3 then
      putRing 3 (16 * g) (if age = 3 then [w0] else sharedWords w0 ws) s
    else
      let s1 := putRing c (64 * (g % 64)) (if age = 3 then [w0] else w0 :: ws.drop 1) s
      let l := ownerLane s g
      let s2 :=
        if cellState s g = 1 then s1
        else if age = 0 then s1
        else
          let s2 := s1.count (if age = 3 then RING_AGED_STALE l else RING_AGED_AGED l)
          if (s.ring.getD l RingDir.reset).agedCycle = some (cycleOf s) then s2
          else setEvt (0x58 + l) 0x20 { s2 with ring := s2.ring.modify l fun d => { d with agedCycle := some (cycleOf s) } }
      if age = 3 then s2
      else
        let s3 := cellPage g ws s2
        if x.lost || cellState s3 g = 1 then s3 else cellEvents g ws s3

/-- The reductions of the previous pick are published in cluster `c`'s ring buffer (R158).
(DESIGN CHOICE: log entry 38.) -/
def publish (c : Nat) (s : State) : State :=
  (if c = 3 then List.range 192 else phaseCells c).foldl (fun s g => publishCell c g s) (modClu c (fun x => { x with rxDone := true }) s)

/-! ### Timeouts and returns -/

/-- `INPUT_RESTORED` (R21): the input has been present for one cycle. -/
def execInputRestored (g : Nat) (s : State) : Outcome State Fault Refusal :=
  run (fun s =>
    if (cellSt s g).inok < 4096 then s
    else if cellState s g = 4 then setCellState g 3 s
    else if cellState s g = 5 && !s.flag (CELL_CTL_SERVICE g) then returnCell g s
    else s) s

/-- `BYPASS_CONFIRM_TIMEOUT` (R23): cause 0x05 is latched; a close that is not confirmed is a converter fault. -/
def execBypassConfirmTimeout (g : Nat) (s : State) : Outcome State Fault Refusal :=
  run (fun s =>
    match (cellSt s g).await with
    | none => s
    | some cmd =>
      let s1 := modCell g (fun c => { c with await := none }) s
      let st := cellState s1 g
      let s2 := if st = 2 || st = 3 || st = 4 || st = 7 || st = 8 then cellFault g 5 s1 else latchFault g 5 s1
      if cmd = 1 then converterFault 4 (modCell g (fun c => { c with await := none }) s2) else s2) s

/-- `NODE_LOST_TIMEOUT` (R24): a lost node's bypass is taken as closed. -/
def execNodeLostTimeout (g : Nat) (s : State) : Outcome State Fault Refusal :=
  run (fun s => if (cellSt s g).lost then (modCell g (fun c => { c with gone := true, conf := true }) s).put (CELL_STATE_BYP g) 1 else s) s

/-! ### SERVICE (R26, R27) -/

/-- A write of `CELL_nnn.CTL` at its GATE heddle. Table 1-3c names SERVICE = 0 and the input present for a cell that is OUT; the model asks
also that its node is not lost (DESIGN CHOICE: log entry 37). R32 says only that the page of an unpopulated position reads 0: a write there
has no effect, and PGERR takes cause 0x2 where it sets a bit (DESIGN CHOICE: log entry 156). -/
def serviceWrite (g : Nat) (w : Word) (s : State) : State :=
  let a := (CELL_CTL_SERVICE g).addr
  if !populated s g then (if w = 0 then s else capture a 2 s)
  else
    let st := cellState s g
    let n := ((phaseCells (g / 64)).filter fun h => cellState s h == 3 || cellState s h == 4).length
    let cm := convMap s
    let refused := w.getLsbD 0 && (st = 3 || st = 4) &&
      !(match cm with
        | some m => headroom (n - 1) m.vraise m.vll
        | none => true)
    if refused then capture a 3 (setEvt (0x100 + g) 4 s)
    else
      let s1 := writeReg a w s
      if w.getLsbD 0 then (if st = 3 || st = 4 then modCell g (fun c => { c with svcPick := some (absPick s) }) (leaveCell g s1) else s1)
      else if st = 5 then (if s1.flag (CELL_STATE_INOK g) && !(cellSt s1 g).lost then returnCell g s1 else s1)
      else faultedReturn g s1

/-- `SERVICE` (R26): the write takes effect at its GATE heddle. -/
def execService (cell : Nat) (value : Word) (s : State) : Outcome State Fault Refusal := run (serviceWrite cell value) s

/-- The FAULT bit of a cell has been cleared: the register holds no fault, and a FAULTED cell may return (R21, R32).
(DESIGN CHOICE: log entry 35.) -/
def faultCleared (g : Nat) (s : State) : State := faultedReturn g (s.put (CELL_FAULT_CAUSE g) 0)

end Sys2Proof.Machine
end

