-- ==== Sys2Proof/Machine/Frames.lean ====
section
/-! DEFINITION. The 32 bytes of a shuttle frame (Tables 2-2 to 2-4, R40–R42): how a sender writes a frame and how a receiver reads
one and judges it intact. -/

namespace Sys2Proof.Machine

/-! ### Fields -/

/-- The first `k` bytes, filled up with zeros (R40: a byte that no field defines is 0x00). -/
def padTo (k : Nat) (bs : List Byte) : List Byte := (bs ++ List.replicate k 0#8).take k

/-- Words 0–3 of DATA, words beyond those given being 0 (Table 2-4). -/
def dataBytes (ws : List Word) : List Byte := padTo 16 ((ws.take 4).flatMap wordBytes)

/-- The first `n` words of DATA. -/
def dataWords (bs : List Byte) (n : Nat) : List Word := (List.range (min n 4)).map fun i => word (leAt bs (12 + 4 * i) 4)

/-! ### Types (Table 2-3) -/

/-- The TYPE code of a payload. -/
def typeCode : Payload → Nat
  | .readReq .. => 1
  | .readRsp .. => 2
  | .postedWr .. => 3
  | .stagedWr .. => 4
  | .event .. => 5
  | .timeMark .. => 6
  | .bulk .. => 7
  | .selvFrag .. => 8
  | .keepalive .. => 9

/-- The SEQD bit of a type: all but TIME_MARK and KEEPALIVE are sequenced. -/
def typeSeqd (t : Nat) : Bool := t != 6 && t != 9

/-- Whether a type is defined and allowed in a direction (`fh`: DIR = 1, F to H). -/
def typeAllowed (t : Nat) (fh : Bool) : Bool :=
  t == 6 || t == 9 || (if fh then t == 2 || t == 5 || t == 8 else t == 1 || t == 3 || t == 4 || t == 7)

/-! ### Payloads (Table 2-4) -/

/-- The payload bytes 4–27, before the fill with zeros. A TIME_MARK carries the warp stamp toward the H-die, and the fraction and the
40-bit seconds toward the F-die. -/
def payloadBytes (fromH : Bool) : Payload → List Byte
  | .readReq addr tag count agent => leBytes 4 addr ++ leBytes 1 tag ++ leBytes 1 count ++ leBytes 1 agent
  | .readRsp addr tag status data => leBytes 4 addr ++ leBytes 1 tag ++ leBytes 1 status ++ [0, 0] ++ dataBytes data
  | .postedWr addr data => leBytes 4 addr ++ leBytes 1 data.length ++ [0, 0, 0] ++ dataBytes data
  | .stagedWr addr data => leBytes 4 addr ++ leBytes 1 data.length ++ [0, 0, 0] ++ dataBytes data
  | .event e => leBytes 8 e.stamp.toNat ++ leBytes 1 e.source ++ leBytes 1 e.flags ++ leBytes 2 e.code ++ leBytes 4 e.data.toNat
  | .timeMark stamp sec frac trigger mark =>
    (if fromH then leBytes 4 frac ++ leBytes 5 sec ++ [0, 0, 0] else leBytes 8 stamp.toNat ++ [0, 0, 0, 0]) ++
      leBytes 1 trigger ++ [0] ++ leBytes 2 mark
  | .bulk offset target length xfer data =>
    leBytes 4 offset ++ leBytes 1 target ++ leBytes 1 length ++ leBytes 2 xfer ++ padTo 16 data
  | .selvFrag req frag flags length data =>
    leBytes 2 req ++ leBytes 2 frag ++ leBytes 1 flags ++ leBytes 1 length ++ [0, 0] ++ padTo 16 data
  | .keepalive ack bits => leBytes 2 ack ++ leBytes 1 bits

/-- The bytes before the CRC: TYPE, DIR and SEQD, SEQ, payload (Table 2-2). -/
def frameHead (fromH : Bool) (f : Frame) : List Byte :=
  padTo 28 (leBytes 1 (typeCode f.pay) ++ leBytes 1 (bit (!fromH) + 2 * bit (typeSeqd (typeCode f.pay))) ++ leBytes 2 f.seq ++
    payloadBytes fromH f.pay)

/-- The 32 bytes of a frame as its sender puts them on both channels (R39, R40, R41). -/
def frameBytes (fromH : Bool) (f : Frame) : List Byte :=
  let h := frameHead fromH f
  h ++ leBytes 4 (crc32 h).toNat

/-! ### Reading a frame -/

/-- The CRC-32 over bytes 0–27 matches bytes 28–31 (R41). -/
def crcOk (bs : List Byte) : Bool := bs.length == 32 && (crc32 (bs.take 28)).toNat == leAt bs 28 4

/-- A frame is intact when its CRC matches, TYPE is defined and allowed in the direction that DIR gives, and SEQD is right for TYPE
(R41). -/
def intactFrame (bs : List Byte) : Bool :=
  let t := leAt bs 0 1 % 16
  let b1 := leAt bs 1 1
  crcOk bs && typeAllowed t (b1.testBit 0) && b1.testBit 1 == typeSeqd t

/-- The payload that the bytes of an intact frame carry. -/
def readPayload (bs : List Byte) : Payload :=
  let fh := (leAt bs 1 1).testBit 0
  let t := leAt bs 0 1 % 16
  if t = 1 then .readReq (leAt bs 4 4) (leAt bs 8 1) (leAt bs 9 1) (leAt bs 10 1)
  else if t = 2 then .readRsp (leAt bs 4 4) (leAt bs 8 1) (leAt bs 9 1) (dataWords bs 4)
  else if t = 3 then .postedWr (leAt bs 4 4) (dataWords bs (leAt bs 8 1))
  else if t = 4 then .stagedWr (leAt bs 4 4) (dataWords bs (leAt bs 8 1))
  else if t = 5 then .event ⟨BitVec.ofNat 64 (leAt bs 4 8), leAt bs 12 1, leAt bs 13 1, leAt bs 14 2, word (leAt bs 16 4)⟩
  else if t = 6 then
    if fh then .timeMark (BitVec.ofNat 64 (leAt bs 4 8)) 0 0 (leAt bs 16 1) (leAt bs 18 2)
    else .timeMark 0 (leAt bs 8 5) (leAt bs 4 4) (leAt bs 16 1) (leAt bs 18 2)
  else if t = 7 then .bulk (leAt bs 4 4) (leAt bs 8 1) (leAt bs 9 1) (leAt bs 10 2) ((bs.drop 12).take 16)
  else if t = 8 then .selvFrag (leAt bs 4 2) (leAt bs 6 2) (leAt bs 8 1) (leAt bs 9 1) ((bs.drop 12).take 16)
  else .keepalive (leAt bs 4 2) (leAt bs 6 1)

/-- The frame that a receiver reads from 32 bytes; `none` when they are corrupt (R41). -/
def readFrame (bs : List Byte) : Option Frame := if intactFrame bs then some ⟨leAt bs 2 2, readPayload bs⟩ else none

end Sys2Proof.Machine
end

