-- ==== Sys2Proof/Machine/Bursts.lean ====
section
/-! DEFINITION. The bursts of the cell ring as the device puts them on a lane (Tables 8-2 to 8-5, R257–R259, R263, R266): blocks, headers, the
management slot, sealed segments, the END block; and the reading of a returned collect segment (Table 8-8, R264). FEC, alignment markers and
idle blocks are no part of a burst (log entry 154). -/

namespace Sys2Proof.Machine

/-! ### Lanes and ownership -/

def ringDir (s : State) (l : Nat) : RingDir := s.ring.getD l RingDir.reset
def modRing (l : Nat) (f : RingDir → RingDir) (s : State) : State := { s with ring := s.ring.modify l f }

/-- The stamp `lc` loom clocks into the pick (R120). -/
def stampAt (lc : Nat) (s : State) : Stamp := (s.warp.acc + BitVec.ofNat 96 (lc * s.get WARP_INC_INC)).extractLsb' 32 64

/-- The unit number of this unit. -/
def unitNo (s : State) : Nat := bit (s.weave.mode.testBit 1)

/-- The hop of a cell in a direction (R253). -/
def hopOf (s : State) (g dir : Nat) : Nat :=
  let pops := (phaseCells (g / 64)).filter fun h => populated s h
  let r := (pops.filter (· < g)).length
  if dir = 0 then r + 1 else pops.length - r

/-- Whether a lane owns a position in the current pick (R270). -/
def owns (s : State) (l g : Nat) : Bool :=
  g / 64 == l / 2 && (if g % 64 < 32 then (s.raw (RING_OWN_LO_OWN l).addr).getLsbD (g % 64) else (s.raw (RING_OWN_HI_OWN l).addr).getLsbD (g % 64 - 32))

/-- The ownership map of a lane in the current pick, bit p for position p (Table 8-18). -/
def ownMask (s : State) (l : Nat) : Nat := (s.raw (RING_OWN_LO_OWN l).addr).toNat + 2 ^ 32 * (s.raw (RING_OWN_HI_OWN l).addr).toNat

/-- The ownership map of a lane in this pick or one of the last two. -/
def maskAt (s : State) (l pick : Nat) : Nat :=
  if pick = absPick s then ownMask s l
  else if pick + 1 = absPick s then (ringDir s l).own1
  else if pick + 2 = absPick s then (ringDir s l).own2
  else 0

/-- The cells of a lane's phase in an ownership map, in rising order of position (R258). -/
def maskCells (l mask : Nat) : List Nat := (phaseCells (l / 2)).filter fun g => mask.testBit (g % 64)

/-! ### Blocks and the parts of a burst -/

/-- The least number of 32-byte blocks that hold `n` bytes. -/
def blocksFor (n : Nat) : Nat := (n + 31) / 32

/-- Data blocks over bytes, the last filled with zeros. -/
def dataBlocks (bs : List Byte) : List Block := (List.range (blocksFor bs.length)).map fun i => ⟨false, padTo 32 (bs.drop (32 * i))⟩

/-- Header block 0 (Table 8-4); `extra` are its bytes 20–27. -/
def header0 (ty lane unit nseg : Nat) (st : Stamp) (inc dt2 dt3 : Nat) (extra : List Byte) : List Byte :=
  let dir := if lane < 6 then lane % 2 else 0
  let h := leBytes 1 ty ++ leBytes 1 (lane % 8 + 8 * dir + 16 * unit) ++ leBytes 2 nseg ++ leBytes 8 st.toNat ++ leBytes 4 inc ++ leBytes 2 dt2 ++
    leBytes 2 dt3 ++ padTo 8 extra
  h ++ leBytes 4 (crc32 h).toNat

/-- Header block 1 (Table 8-4), its PRES bytes 0 as the device sends them. -/
def header1 (own : Nat) : List Byte :=
  let h := leBytes 8 own ++ List.replicate 20 0
  h ++ leBytes 4 (crc32 h).toNat

/-- The END block after `n` bytes; `mid` are its bytes 8–27 (Table 8-4). -/
def endBlock (n : Nat) (mid : List Byte) : List Byte :=
  let h := [0xFD#8, 0, 0, 0] ++ leBytes 4 n ++ padTo 20 mid
  h ++ leBytes 4 (crc32 h).toNat

/-- Bytes with their END block at the next 32-byte boundary; BYTES counts the fill before it. -/
def withEnd (mid bs : List Byte) : List Byte :=
  let p := padTo (32 * blocksFor bs.length) bs
  p ++ endBlock p.length mid

/-- The blocks of a burst of a type: BURST_START, headers, management slot, segments, END (R258).
(DESIGN CHOICE: log entry 154.) -/
def burstBlocks (ty : Nat) (h0 h1 slot segs : List Byte) : List Block := ctlBlock 0x4B ty :: dataBlocks (withEnd [] (h0 ++ h1 ++ slot ++ segs))

def zeroBytes (n : Nat) : List Byte := List.replicate n 0

/-! ### Seals (R266) -/

/-- The nonce of a cell's direction: the cell, the direction, the sender (`up`: the node), and the cycle and pick. -/
def ringNonce (g dir : Nat) (up : Bool) (pick : Nat) : List Byte := leBytes 4 (g + 256 * dir + 512 * bit up) ++ leBytes 8 pick

/-- A string sealed with its tag behind it; bytes 0–3 are authenticated and not encrypted. Before a key exists nothing is encrypted and the
tag is 0 (R259).
(DESIGN CHOICE: log entry 151.) -/
def sealBytes (key nonce bs : List Byte) : List Byte :=
  if key.isEmpty then bs ++ zeroBytes 16
  else
    let (ct, tag) := gcmSeal key nonce (bs.take 4) (bs.drop 4)
    bs.take 4 ++ ct ++ tag

/-- The key of a cell in a direction; empty = unkeyed. -/
def keyOf (s : State) (g dir : Nat) : List Byte := (cellSt s g).keys.getD dir []

/-- Bytes 0–47 of a command segment (Table 8-5). -/
def segBytes (x : Segment) : List Byte :=
  leBytes 1 1 ++ leBytes 1 x.ctl ++ leBytes 1 x.cell ++ leBytes 1 x.hop ++ leBytes 2 x.pxfer ++ leBytes 2 x.inref ++ leBytes 2 x.vset ++ [0, 0] ++
    padTo 16 (x.edgeL.flatMap (leBytes 4)) ++ padTo 16 (x.edgeM.flatMap (leBytes 4)) ++ leBytes 4 x.swarp.toNat

/-- Bytes 0–47 of a management slot (R259). -/
def slotBytes (m : Mgmt) : List Byte := leBytes 1 m.hop ++ leBytes 1 m.op ++ leBytes 2 m.tag ++ padTo 44 m.data

/-! ### The bursts that leave -/

/-- The loom clock at which a command burst leaves: the first after the TX heddle (R157), that of the fallback plan in the idle plan (R148) and
where the plan of a pick marks no TX heddle, of which the spec does not say what the lane sends (DESIGN CHOICE: log entry 157). -/
def txLc (s : State) (c : Nat) : Nat :=
  match (planNow s c).find? (·.tx) with
  | some h => h.start + h.len
  | none => 1344

/-- The management slot of a lane's command burst of pick k: the oldest message that waits, or none (R259, R266).
(DESIGN CHOICE: log entry 151.) -/
def slotNow (s : State) (l k : Nat) : List Byte :=
  match (ringDir s l).mgmt with
  | [] => zeroBytes 64
  | (g, key, m) :: _ => sealBytes key (ringNonce g (l % 2) false k) (slotBytes m)

/-- The command burst of a lane in pick k (R257, R258, R261). -/
def commandBlocks (s : State) (l k dt2 dt3 : Nat) (segs : List Segment) : List Block :=
  burstBlocks 1 (header0 1 l (unitNo s) segs.length (stampAt (txLc s (l / 2)) s) (s.get WARP_INC_INC) dt2 dt3 []) (header1 (ownMask s l)) (slotNow s l k)
    (segs.flatMap fun x => sealBytes (keyOf s x.cell (l % 2)) (ringNonce x.cell (l % 2) false k) (segBytes x))

/-- The collect burst of the pick that has ended, which leaves `lc` loom clocks into the present one (R257, R263). -/
def collectBlocks (s : State) (l lc : Nat) : List Block :=
  let own := (ringDir s l).own1
  let n := (maskCells l own).length
  burstBlocks 2 (header0 2 l (unitNo s) n (stampAt lc s) (s.get WARP_INC_INC) 0 0 []) (header1 own) (zeroBytes 64) (zeroBytes (420 * n))

/-- A DISCOVER burst: 64 slots of 32 bytes after the header and the management slot, all 0 (R263, Table 8-12). -/
def discoverBlocks (s : State) (l : Nat) : List Block :=
  burstBlocks 3 (header0 3 l (unitNo s) 0 (stamp s) (s.get WARP_INC_INC) 0 0 []) (header1 0) (zeroBytes 64) (zeroBytes (64 * 32))

/-- A burst without segments that carries a management message to the node of a cell, sealed under `key`, on a lane that sends no bursts of its
picks (R259, R266).
(DESIGN CHOICE: log entry 151.) -/
def mgmtBlocks (s : State) (l g : Nat) (key : List Byte) (m : Mgmt) : List Block :=
  burstBlocks 1 (header0 1 l (unitNo s) 0 m.stamp (s.get WARP_INC_INC) 0 0 []) (header1 0)
    (sealBytes key (ringNonce g (l % 2) false (m.stamp.toNat >>> 12)) (slotBytes m)) []

/-- The collect burst of a lane is still leaving at loom clock `t` of the pick: 3.072 lc a block (Table 8-1). -/
def collecting (d : RingDir) (t : Nat) : Bool := decide (1000 * t < 1000 * d.col.1 + 3072 * d.col.2)

/-- The loom clock at which `n` blocks that begin at `t` have left. -/
def leftBy (t n : Nat) : Nat := t + (3072 * n + 999) / 1000

/-- A burst of a type leaves: until the end of pick `till` it may be in progress (R255). -/
def beginBurst (l ty till : Nat) (s : State) : State := modRing l (fun d => { d with begun := (ty, till) :: d.begun }) s

/-- A pick begins: the ownership maps of the last two picks move on, and bursts of earlier picks that may still run are left. A collect burst
waits for the END of a command burst that still runs (R257). -/
def ringBegin (s : State) : State :=
  (List.range 6).foldl (fun s l =>
    modRing l (fun d => { d with own1 := ownMask s l, own2 := d.own1, begun := d.begun.filter (absPick s ≤ ·.2), col := (d.wait, 0), wait := 0 }) s) s

/-- A DISCOVER burst leaves. -/
def sendDiscover (l : Nat) (s : State) : State := emit (.discover l (discoverBlocks s l)) (beginBurst l 3 (absPick s + 1) s)

/-- A collect burst leaves (R257). -/
def sendCollect (l : Nat) (s : State) : State :=
  let bs := collectBlocks s l (ringDir s l).col.1
  emit (.collect l bs) (beginBurst l 2 (absPick s) (modRing l (fun d => { d with col := (d.col.1, bs.length) }) s))

/-! ### Returned segments -/

/-- Code i of STREAMS (R264). -/
def codeAt (bs : List Byte) (i : Nat) : Int :=
  let o := 20 + 3 * (i / 2)
  toSigned 12 (if i % 2 = 0 then leAt bs o 2 % 4096 else leAt bs (o + 1) 2 / 16)

/-- The fields of a collect segment's plaintext (Table 8-8). -/
def uplinkOf (g lc : Nat) (bs : List Byte) : Uplink :=
  ⟨g, lc, leAt bs 1 1, leAt bs 2 1, leAt bs 3 1, leAt bs 4 2, leAt bs 6 2, leAt bs 8 2, leAt bs 10 2, leAt bs 12 2, leAt bs 14 2, leAt bs 16 1,
   leAt bs 17 1, leAt bs 18 2, (List.range 256).map (codeAt bs)⟩

/-- A collect segment of pick k opened with its node's key; none when its tag fails (R266, R267), as it does where there is no key.
(DESIGN CHOICE: log entry 151.) -/
def openSeg (s : State) (l g k lc : Nat) (bs : List Byte) : Option Uplink :=
  let key := keyOf s g (l % 2)
  if key.isEmpty then none
  else (gcmOpen key (ringNonce g (l % 2) true k) (bs.take 4) ((bs.take 404).drop 4) ((bs.drop 404).take 16)).map fun pt => uplinkOf g lc (bs.take 4 ++ pt)

end Sys2Proof.Machine
end

