-- ==== Sys2Proof/Machine/Warp.lean ====
section
/-! DEFINITION. The warp (R113–R130): its advance, INC and its limits, the angle tracker, phase jumps, the steering law and states, and
the reads that latch a stamp. Arithmetic follows log entries 4 and 8. -/

namespace Sys2Proof.Machine

open Host (Outcome)

/-- INC at 40 Hz, 50 Hz, 60 Hz and 70 Hz (Table 4-1). -/
def incMin : Nat := 2401919802
def inc50 : Nat := 3002399752
def inc60 : Nat := 3602879702
def incMax : Nat := 4203359652

/-- The warp frequency of an INC (R114), in Hz. -/
def incHz (inc : Nat) : Rat := (inc : Rat) * 1200000000 / 2 ^ 56

/-- The INC of a frequency (R126): rounded to the nearest, halves away from zero. -/
def hzInc (f : Rat) : Nat := (f * 2 ^ 56 / 1200000000 + 1 / 2).floor.toNat

/-- f_w of the current pick. -/
def fWarp (s : State) : Rat := incHz (s.get WARP_INC_INC)

/-- The mean length of the current pick in seconds. -/
def tPick (s : State) : Rat := 2 ^ 44 / ((s.get WARP_INC_INC : Nat) * 1200000000)

/-- F_NOM in Hz (`WARP.FNOM`). -/
def fNom (s : State) : Rat := if s.flag WARP_FNOM_F60 then 60 else 50

/-- Wrap an angle in cycles to (-1/2, 1/2]. -/
def wrapHi (x : Rat) : Rat := x - (x - 1 / 2).ceil

/-- Wrap an angle in cycles to [-1/2, 1/2). -/
def wrapLo (x : Rat) : Rat := x - (x + 1 / 2).floor

/-- A change of the steering state raises event 0x0001 and `PGEVT.STATE` (R125). -/
def setWarpState (n : Nat) (s : State) : State :=
  let o := s.get WARP_STAT_STATE
  if o = n then s else raiseF 5 1 (n + 16 * o) (setEvt 0x040 1 (s.put WARP_STAT_STATE n))

/-- R117: the warp starts at 50 Hz in FREE. The filter of f_m starts there too (DESIGN CHOICE: log entry 8). -/
def warpStart (s : State) : State :=
  setWarpState 1 ({ s with warp := { s.warp with running := true, fm := incHz inc50 } }.put WARP_INC_INC inc50)

/-- The loom clocks up to the next pick boundary pass with the INC of the pick (R113, R115). -/
def passPick (s : State) : State :=
  let inc := s.get WARP_INC_INC
  let n := clocksToPick s.warp.acc.toNat inc
  { s with warp := { s.warp with acc := s.warp.acc + BitVec.ofNat 96 (n * inc), incPrev := inc, lenPrev := n } }

/-- A cluster commits in the pick: the reed has not stopped it, and no contract violation keeps it from committing (R164, R168). -/
def commits (s : State) (c : Nat) : Bool := !s.weave.stopped.getD c false && !s.weave.noCommit.getD c false

/-- Cluster P commits in the pick that ends. -/
def pCommits (s : State) : Bool := commits s 3

/-- The INC that takes effect at a pick boundary (R115–R117): without a commit of cluster P it stays. -/
def applyInc (s : State) : State :=
  match if pCommits s then s.warp.incNext else none with
  | some n =>
    let s1 := { s with warp.incNext := none }
    if n < incMin then raiseF 5 2 0 (setEvt 0x040 4 ((s1.put WARP_INC_INC incMin).put WARP_STAT_CLAMP 1))
    else if incMax < n then raiseF 5 2 1 (setEvt 0x040 4 ((s1.put WARP_INC_INC incMax).put WARP_STAT_CLAMP 1))
    else (s1.put WARP_INC_INC n).put WARP_STAT_CLAMP 0
  | none =>
    let s1 := { s with warp.incNext := none }
    if !s.warp.begun && s.flag WARP_FNOM_F60 && s.get WARP_INC_INC = inc50 then s1.put WARP_INC_INC inc60 else s1

/-! ### The tracker (R122–R124) -/

/-- One step of a second-order generalised integrator of gain k, by the trapezoidal rule at `a` = ωT/2. -/
def sogiStep (a k u : Rat) (g : Sogi) : Sogi :=
  let v := (g.v + a * (k * (g.u + u) - k * g.v - 2 * g.q) - a * a * g.v) / (1 + a * k + a * a)
  ⟨v, g.q + a * (g.v + v), u⟩

/-- Both integrators take the α and β of a sample (volts to VN). -/
def trackAB (va vb vc : Rat) (s : State) : State :=
  let k := Config.sqrt 2
  let a := Config.pi / 4096
  { s with warp := { s.warp with a := sogiStep a k ((2 * va - vb - vc) / 3) s.warp.a,
                                 b := sogiStep a k ((vb - vc) / Config.sqrt 3) s.warp.b } }

/-- The positive-sequence components. -/
def alphaPos (w : Warp) : Rat := (w.a.v - w.b.q) / 2
def betaPos (w : Warp) : Rat := (w.a.q + w.b.v) / 2

/-- V_LL_NOM of the running image, 1 V before there is one (nothing is measured then). -/
def vllNom (s : State) : Nat := ((s.weave.img).map (·.conv.vll)).getD 1

/-- |V+| over its base (R122). -/
def vPos (s : State) : Rat :=
  Config.sqrt (alphaPos s.warp * alphaPos s.warp + betaPos s.warp * betaPos s.warp) /
    (Config.sqrt 2 * (vllNom s : Nat) / Config.sqrt 3)

/-- The measured angle in cycles: atan2(β+, α+) + a quarter cycle. -/
def thetaMeas (s : State) : Rat := Config.atan2 (betaPos s.warp) (alphaPos s.warp) + 1 / 4

/-- Whether the measurement is valid after this pick (R123): it falls at once and returns through MEASUREMENT_VALID. -/
def stepValid (s : State) : State :=
  let vmin : Rat := (s.get WARP_TRACK_VMIN : Nat) / 100
  if s.warp.vpos < vmin then
    let s1 := { s with warp.validRun := 0 }
    if s.flag WARP_STAT_VALID then setEvt 0x040 0x10 ((s1.put WARP_STAT_VALID 0).put WARP_FM_FM 0) else s1
  else { s with warp.validRun := s.warp.validRun + 1 }

/-- f_m and the phase-jump detection of one pick, from the old and the new θm (R122, R124). The departure is judged over whole half
cycles. After a detection θm settles within half a cycle (R122): windows that begin in it belong to the same jump, and the next ones
begin after it (DEDUCED: log entry 142).
(DESIGN CHOICE: log entry 8.) -/
def stepFm (old new : Rat) (s : State) : State :=
  let t := tPick s
  let rot := wrapLo (new - old)
  let fm := if 0 < s.warp.freeze then s.warp.fm
            else s.warp.fm + Config.lowPassGain ((s.get WARP_TRACK_FTAU : Nat) / 1000) t * (rot / t - s.warp.fm)
  let dep := (rot - s.warp.fm * t) :: s.warp.depart
  let dep := dep.take 2048
  let sum := dep.foldl (· + ·) 0
  let pj : Rat := (s.get WARP_TRACK_PJTH : Nat) / 360
  let s1 := { s with warp := { s.warp with fm := fm, freeze := if 1 < s.warp.freeze then s.warp.freeze - 1 else s.warp.freeze } }
  if !s.flag WARP_STAT_VALID || 4096 < s.warp.freeze then { s1 with warp.depart := [] }
  else if dep.length = 2048 && (pj < sum || sum < -pj) then
    raiseF 5 3 (lsbS 16 (sum * 3600)) (setEvt 0x040 0x20 { s1 with warp := { s1.warp with fm := s.warp.fm, freeze := 6144, depart := [] } })
  else { s1 with warp.depart := dep }

/-- The tracker's work in a pick (R122–R124, R130).
(DESIGN CHOICE: log entry 8.) -/
def trackPick (va vb vc : Rat) (s : State) : State :=
  let s1 := trackAB va vb vc s
  let s2 := { s1 with warp.vpos := vPos s1 }
  let new := thetaMeas s2
  let s3 := stepValid (s2.put WARP_STAT_VPOS (lsbU 16 (s2.warp.vpos * 10000)))
  let s4 := { stepFm s.warp.thetaM new s3 with warp.thetaM := new }
  if s4.flag WARP_STAT_VALID then
    let d := wrapLo (new - (pickOf s4 : Nat) / 4096)
    let s5 := { s4 with warp.delta := d }
    (s5.put WARP_FM_FM (lsbU 32 (s5.warp.fm * 1000000))).put WARP_DELTA_DELTA (lsbS 32 (d * 2 ^ 32))
  else s4

/-! ### Steering (R125–R128) -/

/-- e of R126. -/
def phaseError (s : State) : Rat := wrapHi (s.warp.thetaM - (pickOf s : Nat) / 4096)

def ratAbs (x : Rat) : Rat := if x < 0 then -x else x
def ratMin (x y : Rat) : Rat := if x ≤ y then x else y
def ratMax (x y : Rat) : Rat := if x ≤ y then y else x
def ratClamp (lo hi x : Rat) : Rat := ratMax lo (ratMin hi x)

/-- SLEW in Hz/s. -/
def slewHz (s : State) : Rat := (s.get WARP_STEER_SLEW : Nat) / 100

/-- Move f_w toward a target by at most a × T_pk and hand the INC to the next boundary. -/
def slewTo (f : Rat) (s : State) : State :=
  let lim := slewHz s * tPick s
  { s with warp.incNext := some (hzInc (fWarp s + ratClamp (-lim) lim (f - fWarp s))) }

/-- The steering law of R126. -/
def steerLaw (s : State) : State :=
  let e := phaseError s
  let a := slewHz s
  let m := ratMin (Config.sqrt (2 * a * ratAbs e)) (ratMin (ratAbs e / ((s.get WARP_STEER_TLIN : Nat) / 100))
             ((s.get WARP_STEER_PHMAX : Nat) / 10 / 360 * fWarp s))
  slewTo (s.warp.fm + (if e < 0 then -m else if e = 0 then 0 else m)) s

/-- R128: a hold is in force. -/
def holdInForce (s : State) : Bool := s.flag GRIDFN_STAT_RT && s.flag WARP_STEER_RTHOLD

/-- The frequency held by a ride-through hold (Table 4-3). -/
def holdFreq (s : State) : Rat := s.warp.fBefore.getD (fWarp s)

/-- The steering leaves FREE with a valid measurement: to TRACK, or to FLYWHEEL under a hold (Table 4-3).
(DEDUCED: log entry 128.) -/
def leaveFree (s : State) : State :=
  if holdInForce s then slewTo (holdFreq s) (setWarpState 3 { s with warp.fHold := holdFreq s }) else steerLaw (setWarpState 2 s)

/-- Cluster P's steering of a pick (Table 4-3). A measurement that is valid without FORCEFREE takes the steering out of FREE in any pick.
(DEDUCED: log entry 128.) -/
def steerPick (s : State) : State :=
  let hold := holdInForce s
  let s := s.putB WARP_STAT_RTHOLD hold
  let st := s.get WARP_STAT_STATE
  if st = 0 then s
  else if s.flag WARP_TRACK_FORCEFREE then slewTo (fNom s) (setWarpState 1 s)
  else if st = 1 then (if s.flag WARP_STAT_VALID then leaveFree s else slewTo (fNom s) s)
  else if st = 2 then
    if !s.flag WARP_STAT_VALID then
      let f := s.warp.fLast.getD (fWarp s)
      slewTo f (setWarpState 3 { s with warp.fHold := f })
    else if hold then slewTo (holdFreq s) (setWarpState 3 { s with warp.fHold := holdFreq s })
    else steerLaw s
  else if s.flag WARP_STAT_VALID && !hold then steerLaw (setWarpState 2 s)
  else slewTo s.warp.fHold s

/-- LOCK of R127 after the steering of a pick: it falls here and rises through WARP_LOCK. A valid pick leaves its f_m behind. -/
def lockPick (s0 : State) : State :=
  let s := if s0.flag WARP_STAT_VALID then { s0 with warp.fLast := some s0.warp.fm } else s0
  let ok := s.get WARP_STAT_STATE = 2 && ratAbs (phaseError s) ≤ 1 / 360 && ratAbs (s.warp.fm - fWarp s) ≤ 1 / 20
  if ok then { s with warp.lockRun := s.warp.lockRun + 1 }
  else
    let s1 := { s with warp.lockRun := 0 }
    if s.flag WARP_STAT_LOCK then setEvt 0x040 2 (s1.put WARP_STAT_LOCK 0) else s1

/-! ### Commands -/

/-- `MEASUREMENT_VALID` (R123): |V+| has stayed at or above VMIN for one cycle; FREE goes to TRACK, or to FLYWHEEL under a hold. -/
def execMeasurementValid (s : State) : Outcome State Fault Refusal :=
  run (fun s =>
    if s.flag WARP_STAT_VALID || s.warp.validRun < 4096 then s
    else
      let s1 := (s.put WARP_STAT_VALID 1).put WARP_FM_FM (lsbU 32 (s.warp.fm * 1000000))
      let s2 := { s1 with warp := { s1.warp with depart := [], fLast := some s1.warp.fm } }
      if s2.get WARP_STAT_STATE = 1 && !s2.flag WARP_TRACK_FORCEFREE then
        leaveFree s2
      else if s2.get WARP_STAT_STATE = 3 && !holdInForce s2 then steerLaw (setWarpState 2 s2)
      else s2) s

/-- `FM_FREEZE_END` (R124): the freeze of f_m ends and its filter restarts from the frozen value. -/
def execFmFreezeEnd (s : State) : Outcome State Fault Refusal :=
  run (fun s => if s.warp.freeze = 1 then { s with warp.freeze := 0 } else s) s

/-- `FLYWHEEL_LIMIT` (Table 4-3): FLYMAX has passed in FLYWHEEL. -/
def execFlywheelLimit (s : State) : Outcome State Fault Refusal :=
  run (fun s => if s.get WARP_STAT_STATE = 3 then slewTo (fNom s) (setWarpState 1 s) else s) s

/-- `WARP_LOCK` (R127): the conditions have held for one cycle. -/
def execWarpLock (s : State) : Outcome State Fault Refusal :=
  run (fun s => if 4096 ≤ s.warp.lockRun then s.put WARP_STAT_LOCK 1 else s) s

/-- The read of `WARP.NOW_LO` by an agent (R120): the stamp at that loom clock, its upper half into the agent's shadow. -/
def nowLoRead (agent lc : Nat) (s : State) : Word × State :=
  let st := stampAt lc s
  (st.extractLsb' 0 32, loadShadow agent WARP_NOW_LO_STAMP.addr [st.extractLsb' 32 32] s)

def execNowLoRead (agent lc : Nat) (s : State) : Outcome State Fault Refusal :=
  run (fun s => let (w, s1) := nowLoRead agent lc s; emit (.read [w]) s1) s

/-- The read of `WARP.ATL_SLO` by an agent (R139): the rest of the group goes into the agent's shadow. -/
def atlSloRead (agent : Nat) (s : State) : Word × State :=
  let a := WARP_ATL_SLO_STAMP.addr
  (s.raw a, loadShadow agent a ((List.range 4).map fun i => s.raw (a + 4 + 4 * i)) s)

def execAtlSloRead (agent : Nat) (s : State) : Outcome State Fault Refusal :=
  run (fun s => let (w, s1) := atlSloRead agent s; emit (.read [w]) s1) s

/-- `ANGLE_ZERO_MARK` (R140): at the first slot after an angle zero the F-die sends a TIME_MARK with TRIGGER 0x00.
(DEDUCED: log entry 111.) -/
def execAngleZeroMark (s : State) : Outcome State Fault Refusal :=
  run (fun s =>
    if s.link.up && s.warp.running then
      let m := (s.link.fh.markTx + 1) % 0x10000
      { s with link.fh.markTx := m, link.fh.marks := s.link.fh.marks ++ [.timeMark (stamp s) 0 0 0 m] }
    else s) s

/-- `WARP_IMAGE_STALE` (R140): no angle-zero mark for 1 s; WFRESH reads 0 and the image runs on at its last rate. -/
def execWarpImageStale (s : State) : Outcome State Fault Refusal := run (fun s => s.put TIME_STAT_WFRESH 0) s

end Sys2Proof.Machine
end

