-- ==== Sys2Proof/Machine/Heat.lean ====
section
/-! DEFINITION. Heat (R413–R429): sensor readings, exclusion, levels, bands, shutdown and hard limits, NTC inputs, the H-die's copies of
F-die temperatures, and scrub passes. Temperatures are in 0.125 °C. -/

namespace Sys2Proof.Machine

open Host (Outcome)

/-- The die of a sensor, its registers, and its neighbours of the cross-check (Table 14-1). -/
def sensorDie (k : Nat) : Nat := if k < 9 then 0 else if k < 13 then 1 else 2
def sensT (k : Nat) : Fld := if k < 9 then FTHERM_SENS_T k else HTHERM_SENS_T (k - 9)
def sensExcl (k : Nat) : Fld := if k < 9 then FTHERM_SENS_EXCL k else HTHERM_SENS_EXCL (k - 9)
def sensCnt (k : Nat) : Fld := if k < 9 then FTHERM_SENS_EXCLCNT k else HTHERM_SENS_EXCLCNT (k - 9)

def neighbours (k : Nat) : List Nat :=
  if k < 9 then
    (if 3 ≤ k then [k - 3] else []) ++ (if k % 3 != 0 then [k - 1] else []) ++ (if k % 3 != 2 then [k + 1] else []) ++
      (if k < 6 then [k + 3] else [])
  else if k < 13 then [9, 10, 11, 12].filter (· != k)
  else [if k = 13 then 14 else 13, 12]

/-- The sensors of a die. -/
def dieSensors (d : Nat) : List Nat := (List.range 15).filter fun k => sensorDie k == d

/-- Sensors of a die that count: read at least once and not excluded (R415). -/
def liveSensors (s : State) (d : Nat) : List Nat :=
  (dieSensors d).filter fun k => s.heat.has.getD k false && !s.flag (sensExcl k)

/-- The median of a list; of an even count the mean of the two middle values (R414). -/
def median (l : List Int) : Rat :=
  let m := sortBy (fun a b => decide (a ≤ b)) l
  let n := m.length
  if n % 2 = 1 then (m.getD (n / 2) 0 : Int) else ((m.getD (n / 2 - 1) 0 + m.getD (n / 2) 0 : Int) : Rat) / 2

/-- UNKNOWN bits and levels of a die. -/
def unkFld (d : Nat) : Fld := if d = 0 then FTHERM_STAT_UNKNOWN else if d = 1 then HTHERM_STAT_HUNK else HTHERM_STAT_DUNK
def levelFld (d : Nat) : Fld := if d = 0 then FTHERM_STAT_LEVEL else if d = 1 then HTHERM_STAT_HLEVEL else HTHERM_STAT_DLEVEL

/-- An event of source 96 (F-die) or 97 (H- and D-die) with its page flag. -/
def thermEvent (d bitNo code data : Nat) (s : State) : State :=
  if d = 0 then raiseF 96 code data (setEvt 0x07C (2 ^ bitNo) s) else raiseH 97 code data (setEvt 0x01D (2 ^ bitNo) s)

/-- R416: a die is UNKNOWN while fewer than 3, 2 or 1 of its sensors remain. -/
def evalUnknown (d : Nat) (s : State) : State :=
  let need := 3 - d
  let n := ((dieSensors d).filter fun k => !s.flag (sensExcl k) && s.heat.has.getD k false).length
  let s := if d = 0 then s.put FTHERM_STAT_VALIDN n else s
  let u := decide (n < need)
  if s.flag (unkFld d) = u then s
  else thermEvent d (if d = 0 then 3 else 0) (if d = 0 then 4 else 5) (bit u + 2 * bit (d == 2)) (s.putB (unkFld d) u)

/-- Exclude a sensor (R413, R414). -/
def excludeSensor (k : Nat) (s : State) : State :=
  if s.flag (sensExcl k) then s
  else
    let d := sensorDie k
    let s1 := (s.put (sensExcl k) 1).count (sensCnt k)
    let s2 := if d = 0 then s1.put FTHERM_EXCLW_SWARP (swarp s).toNat else s1
    let s3 := { s2 with heat := { s2.heat with off := s2.heat.off.set k 0, near := s2.heat.near.set k 0 } }
    evalUnknown d (thermEvent d 1 2 ((if d = 0 then k else k - 9) + 16) s3)

/-- Readmit a sensor. -/
def readmitSensor (k : Nat) (s : State) : State :=
  let d := sensorDie k
  let s1 := s.put (sensExcl k) 0
  let s2 := if d = 0 then s1.put FTHERM_EXCLW_SWARP (swarp s).toNat else s1
  let s3 := { s2 with heat := { s2.heat with off := s2.heat.off.set k 0, near := s2.heat.near.set k 0 } }
  evalUnknown d (thermEvent d 1 2 (if d = 0 then k else k - 9) s3)

/-! ### Levels, shutdown and hard limits -/

/-- `THR` of a die in 0.125 °C: WARN, THROT, SHUT, HYS. -/
def thrOf (s : State) (d : Nat) : Int × Int × Int × Int :=
  if d = 0 then (8 * (s.get FTHERM_THR_WARN : Int), 8 * (s.get FTHERM_THR_THROT : Int), 8 * (s.get FTHERM_THR_SHUT : Int), 8 * (s.get FTHERM_THR_HYS : Int))
  else (8 * (s.get HTHERM_THR_WARN : Int), 8 * (s.get HTHERM_THR_THROT : Int), 8 * (s.get HTHERM_THR_SHUT : Int), 8 * (s.get HTHERM_THR_HYS : Int))

/-- A shutdown demand of the H side (R420): to the F-die as a write of `FTHERM.HREQ`, or the permit removed while the link is down. -/
def shutdownDemand (s : State) : State :=
  if s.link.up then postWrite FTHERM_HREQ_SHUT.addr [1] s else demand 7 0 s

/-- A die enters SHUTDOWN (R420): source 98, and the F-die's converter fault or the H side's demand. -/
def enterShutdown (d : Nat) (s : State) : State :=
  if d = 0 then converterFault 6 (raiseF 98 1 0 s) else shutdownDemand (raiseH 98 1 d s)

/-- The last die of the H side leaves SHUTDOWN: the demand no longer stands, and the F-die is told (Table 14-8, `HREQ`).
(DESIGN CHOICE: log entry 135.) -/
def endDemand (d old : Nat) (s : State) : State :=
  if d != 0 && old = 3 && s.get HTHERM_STAT_HLEVEL != 3 && s.get HTHERM_STAT_DLEVEL != 3 && s.link.up then
    postWrite FTHERM_HREQ_SHUT.addr [0] s
  else s

/-- The actions of R168 without a cluster: tokens, GRID_OPEN, block control in every downlink (R421, R435). -/
def blockActions (s : State) : State := assertOpen (blockTokens { s with pwr.forceBlock := true })

/-- A die reaches its hard limit (R421).
(DESIGN CHOICE: log entry 32.) -/
def hardLimit (d : Nat) (s : State) : State :=
  if d = 0 then blockActions (raiseF 98 1 16 (s.put FTHERM_STAT_HARD 1))
  else
    let s1 := retain 0xC (d + 16) (raiseH 98 1 (d + 16) s)
    let s2 := demand 7 0 s1
    if d = 2 then (List.range 4).foldl (fun s n => louvFault n 3 6 s) { s2 with pwr.gatesLow := true } else s2

/-- THROT of the H side (R419): a level, or an NTC input's action. -/
def evalThrot (s : State) : State :=
  let ntc := s.heat.ntcAct.contains (some 2)
  s.putB HTHERM_STAT_THROT (2 ≤ s.get HTHERM_STAT_HLEVEL || 2 ≤ s.get HTHERM_STAT_DLEVEL || ntc)

/-- A level bit after a reading: entered at its threshold, left at threshold − HYS (R417). -/
def levelBit (b : Nat) (t thr hys : Int) (m : Nat) : Nat :=
  if thr ≤ t then m ||| 2 ^ b else if t ≤ thr - hys then m &&& (7 ^^^ 2 ^ b) else m

/-- The level of the readings: the highest entered and not left. -/
def enteredLevel (m : Nat) : Nat := if m.testBit 2 then 3 else if m.testBit 1 then 2 else if m.testBit 0 then 1 else 0

/-- A die's level follows what it has entered; it is at least THROTTLE while the die is UNKNOWN (R416, R417). -/
def putLevel (d : Nat) (s : State) : State :=
  let byT := enteredLevel (s.heat.entered.getD d 0)
  let lv := if s.flag (unkFld d) then max 2 byT else byT
  let old := s.get (levelFld d)
  if old = lv then s else thermEvent d 0 1 (lv + 4 * old + 16 * bit (d == 2)) (s.put (levelFld d) lv)

/-- Evaluate a die's level after a reading with T_die = t. -/
def evalLevel (d : Nat) (t : Int) (s : State) : State :=
  let (w, th, sh, hy) := thrOf s d
  let m := levelBit 2 t sh hy (levelBit 1 t th hy (levelBit 0 t w hy (s.heat.entered.getD d 0)))
  let byT := enteredLevel m
  let old := s.get (levelFld d)
  let s2 := putLevel d { s with heat.entered := s.heat.entered.set d m }
  let s3 := if byT = 3 && !(s.heat.entered.getD d 0).testBit 2 then enterShutdown d s2 else endDemand d old s2
  let hard := decide (sh + 80 ≤ t)
  let s4 := if hard && !s.heat.hard.getD d false then hardLimit d s3 else s3
  evalThrot { s4 with heat.hard := s4.heat.hard.set d hard }

/-- The band of the F-die after a reading (R423). -/
def bandOf (old : Nat) (t : Int) : Nat :=
  let edges : List Int := [160, 480, 760]
  let up := (edges.filter (· ≤ t)).length
  let down := (edges.filter fun e => e - 24 < t).length
  if old < up then up else if down < old then down else old

def putBand (b : Nat) (s : State) : State :=
  if b = s.get FTHERM_STAT_BAND then s else { thermEvent 0 2 3 b (s.put FTHERM_STAT_BAND b) with heat.presetPend := true }

def evalBand (t : Int) (s : State) : State :=
  putBand (if s.flag FTHERM_STAT_UNKNOWN then 3 else bandOf (s.get FTHERM_STAT_BAND) t) s

/-- What follows at once when a sensor is excluded or readmitted: the level, the throttling, and the band of an UNKNOWN F-die (R416, R423). -/
def dieSettles (d : Nat) (s : State) : State :=
  let s1 := evalThrot (putLevel d s)
  if d = 0 && s1.flag FTHERM_STAT_UNKNOWN then putBand 3 s1 else s1

/-- FUSEOK after a reading of the H-die's sensors (R426); a paused fuse programming resumes (R500). -/
def evalFuseok (s : State) : State :=
  let ts := (liveSensors s 1).map fun k => s.getI (sensT k)
  let ok := 2 ≤ ts.length && ts.all (fun t => 0 ≤ t && t ≤ 680)
  let s1 := if s.flag HTHERM_STAT_FUSEOK = ok then s else thermEvent 1 3 4 (bit ok) (s.putB HTHERM_STAT_FUSEOK ok)
  if ok && s.flag LIFECYCLE_STAT_PAUSED then raiseH 129 3 0 (setEvt 0x007 4 (s1.put LIFECYCLE_STAT_PAUSED 0)) else s1

/-- The reading of one sensor: the mean of its last four conversions, its range, and the counts of the cross-check. -/
def readSensor (k : Nat) (s : State) : State :=
  let c := s.heat.conv.getD k []
  if c.length < 4 then s
  else
    let t := lsb ((c.foldl (· + ·) 0 : Int) / (4 : Rat))
    let s1 := { s.putI (sensT k) t with heat.has := s.heat.has.set k true }
    if t < -440 || 1400 < t then excludeSensor k s1 else s1

/-- The cross-check counts of one sensor (R414). -/
def crossCheck (k : Nat) (s : State) : State :=
  let ns := (neighbours k).filter fun j => s.heat.has.getD j false && !s.flag (sensExcl j)
  if ns.length < 2 || !s.heat.has.getD k false then s
  else
    let d := ratAbs ((s.getI (sensT k) : Rat) - median (ns.map fun j => s.getI (sensT j)))
    let off := if 64 < d then s.heat.off.getD k 0 + 1 else 0
    let near := if d ≤ 32 then s.heat.near.getD k 0 + 1 else 0
    { s with heat := { s.heat with off := s.heat.off.set k off, near := s.heat.near.set k near } }

/-- Evaluate a die after its readings: UNKNOWN, T_die and the lowest reading, level. -/
def evalDie (d : Nat) (s : State) : State :=
  let s1 := evalUnknown d s
  let ts := (liveSensors s1 d).map fun k => s1.getI (sensT k)
  match ts with
  | [] => evalLevel d (s1.getI (if d = 0 then FTHERM_DIE_TMAX else if d = 1 then HTHERM_HDIE_TMAX else HTHERM_DDIE_TMAX)) s1
  | t0 :: r =>
    let mx := r.foldl max t0
    let mn := r.foldl min t0
    let s2 := if d = 0 then (s1.putI FTHERM_DIE_TMAX mx).putI FTHERM_DIE_TMIN mn
              else if d = 1 then (s1.putI HTHERM_HDIE_TMAX mx).putI HTHERM_HDIE_TMIN mn
              else (s1.putI HTHERM_DDIE_TMAX mx).putI HTHERM_DDIE_TMIN mn
    evalLevel d mx s2

/-! ### Commands -/

/-- `SENSOR_CONVERSION` (R413): a conversion every 250 µs, in 0.125 °C; one that the sensor flags as faulty excludes it at once. -/
def execSensorConversion (sensor : Nat) (value : Int) (faulty : Bool) (s : State) : Outcome State Fault Refusal :=
  run (fun s =>
    if 15 ≤ sensor then s
    else if faulty then dieSettles (sensorDie sensor) (excludeSensor sensor s)
    else { s with heat.conv := s.heat.conv.modify sensor fun c => (value :: c).take 4 }) s

/-- `SENSOR_READING` (R413–R423, R426): the 1 ms reading on the F-die's clock, or on the H-die's for its own and the D-die's sensors. -/
def execSensorReading (fdie : Bool) (s : State) : Outcome State Fault Refusal :=
  run (fun s =>
    let ks := (List.range 15).filter fun k => decide (k < 9) == fdie
    let s1 := ks.foldl (fun s k => crossCheck k s) (ks.foldl (fun s k => readSensor k s) s)
    if fdie then
      let s2 := evalDie 0 s1
      evalBand (s2.getI FTHERM_DIE_TMAX) s2
    else evalFuseok (evalDie 2 (evalDie 1 s1))) s

/-- `SENSOR_EXCLUDE` (R414): off the median by more than 8.0 °C at 1,001 consecutive readings. -/
def execSensorExclude (sensor : Nat) (s : State) : Outcome State Fault Refusal :=
  run (fun s => if 1001 ≤ s.heat.off.getD sensor 0 && !s.flag (sensExcl sensor) then dieSettles (sensorDie sensor) (excludeSensor sensor s) else s) s

/-- `SENSOR_READMIT` (R414): within 4.0 °C of the median at 60,000 consecutive readings. -/
def execSensorReadmit (sensor : Nat) (s : State) : Outcome State Fault Refusal :=
  run (fun s => if 60000 ≤ s.heat.near.getD sensor 0 && s.flag (sensExcl sensor) then dieSettles (sensorDie sensor) (readmitSensor sensor s) else s) s

/-- The H-die's write of `FTHERM.HREQ` executes on the F-die (R420). -/
def hreqWrite (w : Word) (s : State) : State :=
  let s1 := s.putB FTHERM_HREQ_SHUT (w.getLsbD 0)
  if w.getLsbD 0 then converterFault 6 s1 else s1

def execHreq (value : Word) (s : State) : Outcome State Fault Refusal := run (hreqWrite value) s

/-- The temperature of an NTC input from x = V_pin / V_ref, in 0.125 °C (R427). -/
def ntcTemp (n : Nat) (x : Rat) (s : State) : Int :=
  let r := (s.get (HTHERM_NTCCFG_RPU n) * 10 : Nat) * x / (1 - x)
  let t := 1 / (100 / 29815 + Config.ln (r / (s.get (HTHERM_NTCR25_R25 n) : Nat)) / (s.get (HTHERM_NTCB_B n) : Nat)) - 27315 / 100
  lsb (t * 8)

/-- A hot input applies its ACT, and again when ACT has changed since (R427). The demand of an input is none of a die at SHUTDOWN, so it does not
stand in `HREQ` (R422). -/
def ntcApply (n st : Nat) (s : State) : State :=
  let a := s.get (HTHERM_NTCCFG_ACT n)
  if s.heat.ntcAct.getD n none = some a then s
  else
    let s1 := { s with heat.ntcAct := s.heat.ntcAct.set n (some a) }
    evalThrot (if a = 1 then thermEvent 1 2 3 (n + 4 * st + 16) s1
               else if a = 3 then endDemand 1 3 (shutdownDemand (raiseH 98 1 (3 + 4 * n) s1))
               else s1)

/-- The state of an NTC input changes, with its event. -/
def putNtcState (n st : Nat) (hot : Bool) (s : State) : State :=
  if s.get (HTHERM_NTCT_STATE n) = st then s else thermEvent 1 2 3 (n + 4 * st + 16 * bit hot) (s.put (HTHERM_NTCT_STATE n) st)

/-- The ACT of an input lapses. -/
def ntcLapse (n : Nat) (s : State) : State := evalThrot { s with heat.ntcAct := s.heat.ntcAct.set n none }

/-- `NTCCFG_n` has been written: an input that is not converted is disabled, and nothing acts for it (Table 14-11). -/
def ntcConfigured (n : Nat) (s : State) : State :=
  if s.flag (HTHERM_NTCCFG_EN n) then s else ntcLapse n (putNtcState n 3 false s)

/-- `NTC_READING` (R427): input n converted with x = V_pin / V_ref. -/
def execNtcReading (n : Nat) (x : Rat) (s : State) : Outcome State Fault Refusal :=
  run (fun s =>
    if 4 ≤ n || !s.flag (HTHERM_NTCCFG_EN n) then s
    else
      let st := if 98 / 100 < x then 1 else if x < 2 / 100 then 2 else 0
      let t := ntcTemp n x s
      let lim : Int := 8 * (s.get (HTHERM_NTCCFG_TLIM n) : Int)
      let hot := st == 0 && decide (lim ≤ t)
      let s0 := hadcResult n (lsbU 12 (x * 4096)) s
      let s1 := if st = 0 then s0.putI (HTHERM_NTCT_T n) t else s0
      let s2 := putNtcState n st hot s1
      if hot then ntcApply n st s2
      else if st = 0 && decide (t ≤ lim - 40) then ntcLapse n s2
      else s2) s

/-- `FTHERM_COPY` (R429): four reads of the H-die's own. -/
def execFthermCopy (s : State) : Outcome State Fault Refusal :=
  run (fun s =>
    let s1 := { s.count HTHERM_FCOPY_AGE with heat.frames := 0 }
    ownRead 19 (FTHERM_SENS_T 8).addr 1 (ownRead 18 (FTHERM_SENS_T 4).addr 4 (ownRead 17 (FTHERM_SENS_T 0).addr 4
      (ownRead 16 FTHERM_STAT_LEVEL.addr 3 s1)))) s

/-- A frame of the copy has returned: 16 = STAT, DIE and CELLMAX; 17–19 = the sensors (R429). -/
def thermCopy (what : Nat) (ws : List Word) (s : State) : State :=
  let s1 :=
    if what = 16 then
      ({ s with heat.fLevel := bitsAt (ws.getD 0 0).toNat FTHERM_STAT_LEVEL.lo FTHERM_STAT_LEVEL.wd }.put HTHERM_FCOPY_FTMAX ((ws.getD 1 0).toNat % 0x10000)).put HTHERM_FCOPY_CELLT ((ws.getD 2 0).toNat % 0x100)
    else
      let b := (what - 17) * 4
      (List.range ws.length).foldl (fun s i =>
        let w := ws.getD i 0
        (s.put (HTHERM_FSENS_T (b + i)) (w.toNat % 0x10000)).putB (HTHERM_FSENS_EXCL (b + i)) (w.getLsbD 16)) s
  let fr := s1.heat.frames ||| 2 ^ (what - 16)
  if fr = 15 then ({ s1 with heat.frames := 0 }.put HTHERM_FCOPY_AGE 0).put HTHERM_STAT_FSTALE 0 else { s1 with heat.frames := fr }

/-- `FTHERM_STALE` (R429): 50 ms without a successful read of all four frames. -/
def execFthermStale (s : State) : Outcome State Fault Refusal := run (fun s => putEvt HTHERM_STAT_FSTALE 1 0x01D 0x10 s) s

/-- The value of a temperature source in 0.125 °C; `none` when it is excluded, open, shorted, disabled, stale or not used (Table 14-5). -/
def tempSource (s : State) (i : Nat) : Option Int :=
  let stale := s.flag HTHERM_STAT_FSTALE
  if i < 9 then if stale || s.flag (HTHERM_FSENS_EXCL i) then none else some (s.getI (HTHERM_FSENS_T i))
  else if i = 9 then if stale then none else some (s.getI HTHERM_FCOPY_FTMAX)
  else if i = 0xA then if stale then none else some (8 * ((s.get HTHERM_FCOPY_CELLT : Int) - 40))
  else if 0x10 ≤ i && i < 0x14 then if s.flag (HTHERM_SENS_EXCL (i - 0x10)) then none else some (s.getI (HTHERM_SENS_T (i - 0x10)))
  else if i = 0x14 then some (s.getI HTHERM_HDIE_TMAX)
  else if i = 0x18 || i = 0x19 then if s.flag (HTHERM_SENS_EXCL (i - 0x14)) then none else some (s.getI (HTHERM_SENS_T (i - 0x14)))
  else if i = 0x1A then some (s.getI HTHERM_DDIE_TMAX)
  else if 0x20 ≤ i && i < 0x24 then if s.get (HTHERM_NTCT_STATE (i - 0x20)) = 0 then some (s.getI (HTHERM_NTCT_T (i - 0x20))) else none
  else none

/-- Whether any die is at SHUTDOWN (R420), as the H-die and its Louvre drives know it: the F-die's level is the one that it has last read
(R3, R429). -/
def anyShutdown (s : State) : Bool :=
  s.heat.fLevel == 3 || s.get HTHERM_STAT_HLEVEL == 3 || s.get HTHERM_STAT_DLEVEL == 3

/-- The same as the F-die knows it: its own level, and the H side's demand in `FTHERM.HREQ` (R3, R420, R422). -/
def fShutdown (s : State) : Bool := s.get FTHERM_STAT_LEVEL == 3 || s.flag FTHERM_HREQ_SHUT

/-- `SCRUB_PASS` (R202, R424): a scrub interval begins. `errs` are the errors that the pass before it has found: engine, memory as
`ECCLAST.MEM`, codeword, and whether uncorrectable; an uncorrectable one stops the engine with cause 0x3.
(DESIGN CHOICE: log entry 11.) -/
def execScrubPass (errs : List (Nat × Nat × Nat × Bool)) (s : State) : Outcome State Fault Refusal :=
  run (fun s =>
    let s1 := if s.heat.scrubLeft.any (0 < ·) then s.count FTHERM_SCRUB_LATE else s
    let s2 := { s1 with heat.scrubLeft := List.replicate 4 39936 }
    errs.foldl (fun s x =>
      let (k, mem, a, ue) := x
      if ue then stopEngine k 3 (if mem < 2 then mem else mem - 2) none false (engAt s k).lc (eccUe k mem a true s)
      else eccCorrect k mem a true s) s2) s

end Sys2Proof.Machine
end

