-- ==== Sys2Proof/Machine/Panel.lean ====
section
/-! DEFINITION. The operator panel (R439–R446): touch keys with their baselines, buttons, LEDs. -/

namespace Sys2Proof.Machine

open Host (Outcome)

/-! ### Touch keys -/

/-- The signal of a key: BASE − RAW. -/
def touchDelta (s : State) (k : Nat) : Int := (s.get (PANEL_TOUCH_KDAT_BASE k) : Int) - s.get (PANEL_TOUCH_KDAT_RAW k)

/-- A bit per key or button in a field. -/
def subBit (f : Fld) (i : Nat) : Fld := ⟨f.addr, f.lo + i, 1⟩

/-- READY: every enabled key has a baseline (R439). -/
def touchReady (s : State) : State :=
  s.putB PANEL_TOUCH_STAT_READY
    ((List.range 12).all fun k => !s.flag (PANEL_TOUCH_KCFG_KEN k) || s.panel.hasBase.getD k false)

/-- A touch ends (R440). -/
def touchEnd (k : Nat) (s : State) : State := s.put (subBit PANEL_TOUCH_STAT_TOUCH k) 0

/-- A key re-baselines at its present RAW: reasons of event 0x0002 (R442, R443). -/
def rebase (k reason : Nat) (s : State) : State :=
  let s1 := (s.put (PANEL_TOUCH_KDAT_BASE k) (s.get (PANEL_TOUCH_KDAT_RAW k))).count PANEL_TOUCH_CNT_REBASES
  let s2 := { s1.put (subBit PANEL_TOUCH_STAT_STUCKK k) 0 with
              panel := { s1.panel with neg := s1.panel.neg.set k 0, quiet := s1.panel.quiet.set k 0 } }
  raiseH 104 2 (k + 16 * reason) (setEvt 0x010 0x2000 s2)

/-- Forget a key: no touch, not stuck, no baseline (R439). -/
def forgetKey (k : Nat) (s : State) : State :=
  let p := s.panel
  let s1 := (touchEnd k s).put (subBit PANEL_TOUCH_STAT_STUCKK k) 0
  touchReady { s1 with panel := { p with raws := p.raws.set k [], hasBase := p.hasBase.set k false, deb := p.deb.set k 0,
                                         neg := p.neg.set k 0, held := p.held.set k 0, quiet := p.quiet.set k 0 } }

/-- The page has been written: keys that were enabled now start without a baseline, keys that were disabled report nothing (R439).
(DESIGN CHOICE: log entry 26.) -/
def touchConfigured (old s : State) : State :=
  let en := s.flag PANEL_TOUCH_CFG_EN
  let s1 := if en && !old.flag PANEL_TOUCH_CFG_EN then
      { (List.range 12).foldl (fun s k => forgetKey k s) s with panel.scans := 0 } else s
  touchReady ((List.range 12).foldl (fun s k =>
    if s.flag (PANEL_TOUCH_KCFG_KEN k) == old.flag (PANEL_TOUCH_KCFG_KEN k) then s else forgetKey k s) s1)

/-- BASE moves one count toward RAW at every DRIFT-th scan while the signal lies between its thresholds (R441).
(DESIGN CHOICE: log entry 26.) -/
def driftKey (supp : Bool) (k : Nat) (s : State) : State :=
  let d := touchDelta s k
  if supp || d = 0 || d ≤ -(s.get (PANEL_TOUCH_KCFG_NTH k) : Int) || (s.get (PANEL_TOUCH_KCFG_TTH k) : Int) ≤ d ||
    s.panel.scans % s.get PANEL_TOUCH_TRACK_DRIFT ≠ 0 then s
  else s.put (PANEL_TOUCH_KDAT_BASE k) (if 0 < d then s.get (PANEL_TOUCH_KDAT_BASE k) - 1 else s.get (PANEL_TOUCH_KDAT_BASE k) + 1)

/-- One key that has its baseline in one scan; `supp`: more than MAXT keys are over their thresholds (R440–R444).
(DESIGN CHOICE: log entry 26.) -/
def scanKey (supp : Bool) (k : Nat) (s : State) : State :=
  let d := touchDelta s k
  let tth : Int := s.get (PANEL_TOUCH_KCFG_TTH k)
  let nth : Int := s.get (PANEL_TOUCH_KCFG_NTH k)
  let low : Int := tth - s.get (PANEL_TOUCH_KCFG_HYS k)
  let p := s.panel
  let stuck := s.flag (subBit PANEL_TOUCH_STAT_STUCKK k)
  let touched := s.flag (subBit PANEL_TOUCH_STAT_TOUCH k)
  let neg := if d ≤ -nth then p.neg.getD k 0 + 1 else 0
  let deb := if tth ≤ d then p.deb.getD k 0 + 1 else 0
  let s1 := { s with panel := { p with neg := p.neg.set k neg, deb := p.deb.set k deb } }
  if !supp && s.get PANEL_TOUCH_TRACK_NDEB ≤ neg && 0 < neg then rebase k (if stuck then 2 else 1) (touchEnd k s1)
  else if stuck then
    let q := if d < low then p.quiet.getD k 0 + 1 else 0
    let s2 := { s1 with panel.quiet := s1.panel.quiet.set k q }
    if !supp && 100 * s.get PANEL_TOUCH_CFG_STUCK ≤ q then rebase k 3 s2 else driftKey supp k s2
  else if touched then
    if d < low then touchEnd k s1 else { s1 with panel.held := s1.panel.held.set k (p.held.getD k 0 + 1) }
  else if !supp && s.get PANEL_TOUCH_CFG_DEB ≤ deb && 0 < deb then
    let s2 := ((s1.put (subBit PANEL_TOUCH_STAT_TOUCH k) 1).countWrap PANEL_TOUCH_CNT_TOUCHES)
    setEvt 0x010 (2 ^ k) { s2 with panel.held := s2.panel.held.set k 0 }
  else driftKey supp k s1

/-- The first scans of a key: its baseline is the mean RAW of eight (R439). -/
def firstScans (k raw : Nat) (s : State) : State :=
  let rs := s.panel.raws.getD k [] ++ [raw]
  if rs.length < 8 then { s with panel.raws := s.panel.raws.set k rs }
  else
    let s1 := s.put (PANEL_TOUCH_KDAT_BASE k) (lsbU 16 ((rs.foldl (· + ·) 0 : Nat) / (8 : Rat)))
    touchReady { s1 with panel := { s1.panel with raws := s1.panel.raws.set k [], hasBase := s1.panel.hasBase.set k true } }

/-- `TOUCH_SCAN` (R439–R444): RAW of each key in one 10 ms scan. -/
def execTouchScan (raws : List Nat) (s : State) : Outcome State Fault Refusal :=
  run (fun s =>
    if !s.flag PANEL_TOUCH_CFG_EN then s
    else
      let keys := (List.range 12).filter fun k => s.flag (PANEL_TOUCH_KCFG_KEN k)
      let based := keys.filter fun k => s.panel.hasBase.getD k false
      let s1 := keys.foldl (fun s k => s.put (PANEL_TOUCH_KDAT_RAW k) (raws.getD k 0)) { s with panel.scans := s.panel.scans + 1 }
      let nOver := (based.filter fun k => decide ((s1.get (PANEL_TOUCH_KCFG_TTH k) : Int) ≤ touchDelta s1 k)).length
      let supp := decide (s1.get PANEL_TOUCH_CFG_MAXT < nOver)
      let s2 := if supp && !s1.flag PANEL_TOUCH_STAT_SUPP then raiseH 104 3 nOver (setEvt 0x010 0x4000 s1) else s1
      let s3 := based.foldl (fun s k => scanKey supp k s) (s2.putB PANEL_TOUCH_STAT_SUPP supp)
      (keys.filter fun k => !s.panel.hasBase.getD k false).foldl (fun s k => firstScans k (raws.getD k 0) s) s3) s

/-- `STUCK_KEY` (R443): a touch has lasted `CFG.STUCK` without a break. -/
def execStuckKey (key : Nat) (s : State) : Outcome State Fault Refusal :=
  run (fun s =>
    if key < 12 && s.flag (subBit PANEL_TOUCH_STAT_TOUCH key) && 100 * s.get PANEL_TOUCH_CFG_STUCK ≤ s.panel.held.getD key 0 then
      let s1 := (touchEnd key s).put (subBit PANEL_TOUCH_STAT_STUCKK key) 1
      let s2 := s1.put (PANEL_TOUCH_KDAT_BASE key) (s1.get (PANEL_TOUCH_KDAT_RAW key))
      raiseH 104 1 key (setEvt 0x010 0x1000 { s2 with panel.quiet := s2.panel.quiet.set key 0 })
    else s) s

/-! ### LEDs -/

/-- The signal that an LED's SRC chooses (R446). -/
def ledSignal (s : State) (src : Nat) : Bool :=
  match src with
  | 1 => !s.flag SAFETY_STAT_PERMIT
  | 2 => s.flag SHUTTLE_H_STAT_FSHUT
  | 3 => s.get PANEL_TOUCH_STAT_TOUCH != 0
  | 4 => s.flag SERVICE_STAT_SESS
  | 5 => !s.flag SEAL_STAT_PERMIT
  | _ => true

/-- What an LED is driven with: current in mA, duty in 1/255, and the half period of its blinking in ms (0 = steady); a current of 0 when
it is off (R446). -/
def ledDrive (s : State) (n : Nat) : Nat × Nat × Nat :=
  let on := s.get (PANEL_IO_LED_MODE n) != 0 && ledSignal s (s.get (PANEL_IO_LED_SRC n))
  (if on then s.get (PANEL_IO_LED_CUR n) else 0, s.get (PANEL_IO_LED_BRIGHT n),
   if s.get (PANEL_IO_LED_MODE n) = 2 then 125 * 2 ^ s.get (PANEL_IO_LED_BLINK n) else 0)

/-- `LED_OPEN` (R446): an LED that is driven draws less than half its current for 10 ms. -/
def execLedOpen (led : Nat) (s : State) : Outcome State Fault Refusal :=
  run (fun s =>
    if led < 16 && 0 < (ledDrive s led).1 && !s.flag (PANEL_IO_LED_OPEN led) then
      raiseH 105 1 led (setEvt 0x011 0x100 (s.put (PANEL_IO_LED_OPEN led) 1))
    else s) s

end Sys2Proof.Machine
end

