-- ==== Sys2Proof/Machine/Service.lean ====
section
/-! DEFINITION. The service port's plug and sessions (R447–R452) and its answers. Its register accesses are in HostAccess. -/

namespace Sys2Proof.Machine

open Host (Outcome)

/-- An answer of the service port without data. -/
def svcAnswer (status : Nat) (s : State) : State := svcReply status 0 [] s

/-- A session closes (R452): every request not yet acknowledged is discarded and counted, with what a read has gathered.
(DESIGN CHOICE: log entry 105.) -/
def closeSession (reason : Nat) (s : State) : State :=
  if !s.flag SERVICE_STAT_SESS then s
  else
    let n := s.svc.held.length
    let s1 := (((s.put SERVICE_STAT_SESS 0).put SERVICE_STAT_LEVEL 0).put SERVICE_STAT_HELD 0).put SERVICE_SESS_REASON reason
    let s2 : State := { s1.addSat SERVICE_CNT_DISC n with
      svc := { s.svc with held := [], waiting := false },
      link.gathers := s1.link.gathers.filter (·.tag != svcTag),
      link.reads := s1.link.reads.map fun o => if o.via = .svc then { o with via := .own 255 } else o }
    raiseH 106 3 (reason + 256 * min n 255) (setEvt 0x012 (8 + (if n = 0 then 0 else 16)) s2)

/-- The port serves requests: plugged, enabled and configured by the USB host.
(DESIGN CHOICE: log entry 34.) -/
def svcUp (s : State) : Bool := s.flag SERVICE_STAT_VBUS && s.flag SERVICE_CTL_EN && s.flag SERVICE_STAT_CONF

/-- `VBUS_PLUG` (R448). -/
def execVbusPlug (s : State) : Outcome State Fault Refusal :=
  run (fun s => if s.flag SERVICE_STAT_VBUS then s else raiseH 106 1 1 (setEvt 0x012 1 (s.put SERVICE_STAT_VBUS 1))) s

/-- `VBUS_UNPLUG` (R448, R452). -/
def execVbusUnplug (s : State) : Outcome State Fault Refusal :=
  run (fun s =>
    if s.flag SERVICE_STAT_VBUS then
      closeSession 1 (raiseH 106 1 0 (setEvt 0x012 2 ((s.put SERVICE_STAT_VBUS 0).put SERVICE_STAT_CONF 0)))
    else s) s

/-- `USB_BUS_RESET` (R452): the session closes; after a bus reset the device is not configured. -/
def execUsbBusReset (s : State) : Outcome State Fault Refusal := run (fun s => closeSession 2 (s.put SERVICE_STAT_CONF 0)) s

/-- `USB_SUSPEND` (R452). -/
def execUsbSuspend (s : State) : Outcome State Fault Refusal := run (closeSession 3) s

/-- `SERVICE_IDLE` (R452): no request for `CTL.IDLE`. -/
def execServiceIdle (s : State) : Outcome State Fault Refusal := run (closeSession 4) s

/-- `SERVICE.CTL` (R452): KICK closes the session, unless the write is refused or the bit locked.
(DESIGN CHOICE: log entry 105.) -/
def serviceCtlWrite (w : Word) (s : State) : State :=
  let s1 := writeReg SERVICE_CTL_EN.addr w s
  if takesOne s SERVICE_CTL_EN.addr 1 w then closeSession 5 s1 else s1

/-- `SERVICE_KICK` (R452): a write of 1 to `CTL.KICK`, the other fields as they stand. -/
def execServiceKick (s : State) : Outcome State Fault Refusal := run (fun s => serviceCtlWrite (s.raw SERVICE_CTL_EN.addr ||| 2#32) s) s

/-- The descriptors of Table 15-2 with the layouts of USB 2.0; what the table does not give is free (log entry 22). -/
def deviceDescriptor : List Byte :=
  let free := fun k : Nat => (Config.usbByte k : Byte)
  [18, 1, 0x00, 0x02, 0, 0, 0, free 0, free 1, free 2, 0x92, 0x01, free 3, free 4, free 5, free 6, free 7, 1]

def configDescriptor : List Byte :=
  [9, 2, 32, 0, 1, 1, 0, 0xC0, 0,
   9, 4, 0, 0, 2, 0xFF, 0, 0, 0,
   7, 5, 0x01, 2, 64, 0, 0,
   7, 5, 0x81, 2, 64, 0, 0]

/-- What a standard request with its wValue answers, none = refused (R447). Remote wake-up and high speed are not supported.
(PRESUMED: log entry 22.) -/
def usbAnswer (s : State) (request value : Nat) : Option (List Byte) :=
  match request with
  | 0 => some [1, 0]
  | 1 => if value = 0 then some [] else none
  | 3 => if value = 0 then some [] else none
  | 5 => some []
  | 6 =>
    if value / 256 = 1 then some deviceDescriptor
    else if value / 256 = 2 then some configDescriptor
    else if value / 256 = 3 then some (Config.usbString (value % 256) s.sec.serial)
    else none
  | 8 => some [BitVec.ofNat 8 (s.get SERVICE_STAT_CONF)]
  | 9 => if value ≤ 1 then some [] else none
  | 10 => some [0]
  | 11 => if value = 0 then some [] else none
  | _ => none

/-- `USB_STANDARD_REQUEST` (R447): SET_CONFIGURATION sets or clears `STAT.CONF`; every other request is answered or refused on endpoint 0
and changes nothing here.
(PRESUMED: log entry 22.) -/
def execUsbStandardRequest (request value : Nat) (s : State) : Outcome State Fault Refusal :=
  run (fun s =>
    if !(s.flag SERVICE_STAT_VBUS && s.flag SERVICE_CTL_EN) then s
    else
      let s1 := if request = 9 && value ≤ 1 then s.putB SERVICE_STAT_CONF (value == 1) else s
      emit (.usb (usbAnswer s request value)) s1) s

end Sys2Proof.Machine
end

