-- ==== Sys2Proof/Machine/SafeStop.lean ====
section
/-! DEFINITION. The safe stop (R453–R461): safety inputs, test pulses, self-test, resets and demands; buttons, one of which may reset the
block (R445); and the seal switches (R463–R465). -/

namespace Sys2Proof.Machine

open Host (Outcome)

/-! ### Inputs -/

/-- The state of input i (Table 15-4). -/
def inputFld (i : Nat) : Fld := ⟨SAFETY_STAT_INPUT.addr, 4 + 2 * i, 2⟩

/-- Input i is monitored. -/
def monitored (s : State) (i : Nat) : Bool := s.flag (subBit SAFETY_CFG_MON i)

/-- Filtered channels of input i that are open: A in bit 0, B in bit 1. -/
def openChans (s : State) (i : Nat) : Nat :=
  bit (s.safety.filt.getD (2 * i) none == some false) + 2 * bit (s.safety.filt.getD (2 * i + 1) none == some false)

/-- The last fault (Table 15-13): input i, or 7 for the block. -/
def recordFault (i cause : Nat) (s : State) : State := ((s.put SAFETY_FAULT_INPUT i).put SAFETY_FAULT_CAUSE cause).count SAFETY_FAULT_COUNT

/-- A fault of input i, or of the block (7), with its cause (R455). -/
def safetyFault (i cause : Nat) (s : State) : State :=
  raiseH 107 1 (i + 8 * cause) (setEvt 0x014 2 (recordFault i cause s))

/-- An input enters FAULT: fault and demand (Table 15-4). -/
def inputFault (i cause : Nat) (s : State) : State :=
  demand i (openChans s i) (safetyFault i cause (s.put (inputFld i) 2))

/-- Input i at one sample, once its filtered channels have formed (Table 15-4). -/
def evalInput (i : Nat) (s : State) : State :=
  match s.safety.filt.getD (2 * i) none, s.safety.filt.getD (2 * i + 1) none with
  | some a, some b =>
    let n := if a == b then 0 else s.safety.dis.getD i 0 + 1
    let s0 := { s with safety.dis := s.safety.dis.set i n }
    let st := s.get (inputFld i)
    let s1 :=
      if st = 0 && !(a && b) then demand i (openChans s0 i) (s0.put (inputFld i) 1)
      else if st = 1 && a && b then s0.put (inputFld i) 0
      else if st = 2 && !a && !b && 2 ≤ s.safety.passes.getD i 0 then demand i (openChans s0 i) (s0.put (inputFld i) 1)
      else s0
    if st < 2 && n = 10 * s.get (SAFETY_DISC_DISC i) + 1 then inputFault i 1 s1 else s1
  | _, _ => s

/-- The filter of one channel at a normal sample (R454), and its bit of `STAT.RAW`. -/
def filterChan (levels c : Nat) (s : State) : State :=
  if !monitored s (c / 2) then s
  else
    let x := levels.testBit c
    let f := if s.safety.last.getD c none == some x then some x else s.safety.filt.getD c none
    let s1 := { s with safety := { s.safety with last := s.safety.last.set c (some x), filt := s.safety.filt.set c f } }
    s1.putB ⟨SAFETY_STAT_RAW.addr, 14 + c, 1⟩ (f == some true)

/-- `SAFETY_SAMPLE` (R454–R456): the ten channels at a normal sample instant, bit 2i = A and 2i + 1 = B of input i, 1 = closed. -/
def execSafetySample (levels : Nat) (s : State) : Outcome State Fault Refusal :=
  run (fun s =>
    let s1 := (List.range 10).foldl (fun s c => filterChan levels c s) s
    (List.range 5).foldl (fun s i => if monitored s i then evalInput i s else s) s1) s

/-! ### Test pulses -/

/-- What fails in one pulse for input i: the pulsed channel must read low, the other one high unless it is open (R457). -/
def pulseCause (tpb : Bool) (levels i : Nat) (s : State) : Nat :=
  let c := 2 * i + bit tpb
  let o := 2 * i + bit (!tpb)
  if levels.testBit c then (if tpb then 3 else 2)
  else if levels.testBit o || s.safety.filt.getD o none == some false then 0 else 4

/-- The test of input i is over with a cause, 0 = passed (R457). -/
def judgeTest (i cause : Nat) (s : State) : State :=
  if cause = 0 then
    { s.countWrap SAFETY_TESTCNT_PASS with
      safety := { s.safety with fails := s.safety.fails.set i 0, passes := s.safety.passes.set i (s.safety.passes.getD i 0 + 1) } }
  else
    let n := s.safety.fails.getD i 0 + 1
    let s1 := { s.count SAFETY_TESTCNT_FAIL with
                safety := { s.safety with fails := s.safety.fails.set i n, passes := s.safety.passes.set i 0 } }
    if 2 ≤ n && s.get (inputFld i) < 2 then inputFault i cause s1 else s1

/-- `TEST_PULSE` (R457): the test sample of a TP_A or TP_B pulse. A test is a TP_A pulse and the TP_B pulse that follows it; the first
failing part counts, in the order readback, TP_A, TP_B. -/
def execTestPulse (tpb readbackLow : Bool) (levels : Nat) (s : State) : Outcome State Fault Refusal :=
  run (fun s =>
    (List.range 5).foldl (fun s i =>
      if !monitored s i then s
      else
        let c := if readbackLow then pulseCause tpb levels i s else 5
        let a := s.safety.partA.getD i 0
        if tpb then
          judgeTest i (if a = 5 || c = 5 then 5 else if a = 0 then c else a) { s with safety.partA := s.safety.partA.set i 0 }
        else { s with safety.partA := s.safety.partA.set i c }) s) s

/-! ### Resets, self-test, demands -/

/-- A reset is refused with a reason of event 0x0003 (R459). -/
def resetRefused (reason : Nat) (s : State) : State := raiseH 107 3 reason (setEvt 0x014 8 s)

/-- A reset request (R459, R460): from BTN_0 or from a host; `same`: in the register clock of a demand. A host's refused request is
captured with cause 0x3.
(DESIGN CHOICE: log entry 33.) -/
def resetRequest (byBtn same : Bool) (s : State) : State :=
  let refuse (r : Nat) (s : State) : State := resetRefused r (if byBtn then s else capture SAFETY_RESET_KEY.addr 3 s)
  if same then refuse 0 s
  else if s.get SAFETY_STAT_BLOCK ≠ 0 then refuse 1 s
  else if !s.flag SAFETY_STAT_RECORD then refuse 3 s
  else if (List.range 5).any (fun i => monitored s i && s.get (inputFld i) != 0) then refuse 2 s
  else { s.put SAFETY_STAT_BLOCK 3 with safety := { s.safety with byBtn := byBtn, startTest := false } }

/-- A write of `SAFETY.RESET` (R460). One that REGISTER_WRITE carries comes in a register clock without a demand.
(DESIGN CHOICE: log entry 33.) -/
def safetyResetWrite (w : Word) (same : Bool) (s : State) : State :=
  if w = 0x5AF3#32 then resetRequest false same s else capture SAFETY_RESET_KEY.addr 3 s

def execSafetyReset (value : Word) (same : Bool) (s : State) : Outcome State Fault Refusal := run (safetyResetWrite value same) s

/-- A write of `SAFETY.CTL` (R459). -/
def safetyStopWrite (w : Word) (s : State) : State :=
  let s1 := if w.getLsbD 0 then demand 5 0 s else s
  if w &&& 0xFFFFFFFE#32 = 0 then s1 else capture SAFETY_CTL_STOP.addr 2 s1

def execSafetyStop (value : Word) (s : State) : Outcome State Fault Refusal := run (safetyStopWrite value) s

/-- `SAFETY_SELFTEST_DONE` (R458): cause 0 = passed, 0x6 = permit readback, 0x7 = input test, 0x8 = internal monitor; a failure is a fault of
the block. A passed test of a reset starts the permit; that of the H-die start leaves the block STOPPED.
(DESIGN CHOICE: log entry 33.) -/
def execSafetySelftestDone (cause : Nat) (s : State) : Outcome State Fault Refusal :=
  run (fun s =>
    let testing := s.get SAFETY_STAT_BLOCK = 3
    if !testing && !s.safety.startTest then s
    else
      let s1 := { s with safety.startTest := false }
      if cause ≠ 0 then raiseH 107 4 (2 * cause) (setEvt 0x014 0x10 (recordFault 7 cause (s1.put SAFETY_STAT_BLOCK 0)))
      else
        let s2 := raiseH 107 4 1 s1
        if testing then
          raiseH 107 2 (bit s.safety.byBtn) (setEvt 0x014 4
            (((s2.put SAFETY_STAT_BLOCK 1).put SAFETY_STAT_PERMIT 1).put SHUTTLE_H_STAT_PERMIT 1))
        else s2) s

/-- `PERMIT_TOGGLE` (R458): the readback of a permit toggle in RUN; one outside R60 is a block fault. -/
def execPermitToggle (ok : Bool) (s : State) : Outcome State Fault Refusal :=
  run (fun s => if s.get SAFETY_STAT_BLOCK = 1 && !ok then demand 6 0 (safetyFault 7 6 s) else s) s

/-! ### Buttons -/

/-- One button at a sample: its state changes when the new level has been read for DEB ms (R445); the release of BTN_0 after 0.1–5.0 s
may request a safety reset (R460), in the register clock of a demand where `same` says so (R459).
(DESIGN CHOICE: log entry 33.) -/
def sampleButton (levels : Nat) (same : Bool) (n : Nat) (s : State) : State :=
  let f := subBit PANEL_IO_BTNSTAT_STATE n
  let x := levels.testBit n
  let s0 := if n = 0 && s.flag f then { s with panel.press0 := s.panel.press0 + 1 } else s
  if !s.flag (subBit PANEL_IO_BTNCFG_EN n) || x == s.flag f then { s0 with panel.btn := s0.panel.btn.set n 0 }
  else
    let c := s0.panel.btn.getD n 0 + 1
    if c < s.get PANEL_IO_BTNCFG_DEB then { s0 with panel.btn := s0.panel.btn.set n c }
    else
      let s1 := setEvt 0x011 (if x then 2 ^ n else 2 ^ (4 + n)) ({ s0 with panel.btn := s0.panel.btn.set n 0 }.putB f x)
      if n ≠ 0 then s1
      else if x then { s1 with panel.press0 := 0 }
      else if s.flag SAFETY_CFG_RSTBTN && 100 ≤ s1.panel.press0 && s1.panel.press0 ≤ 5000 then resetRequest true same s1
      else s1

/-- `BUTTON_SAMPLE` (R445): the four buttons at a 1 ms sample, 1 = pressed; presses count from the start of the firmware (Table 18-2).
`same`: a demand comes in the same register clock. -/
def execButtonSample (levels : Nat) (same : Bool) (s : State) : Outcome State Fault Refusal :=
  run (fun s => if s.pwr.h != .run then s else (List.range 4).foldl (fun s n => sampleButton levels same n s) s) s

/-! ### Seal switches -/

/-- Set the SEAL permit, and pass a change. -/
def setSeal (b : Bool) (s : State) : State := if s.flag SEAL_STAT_PERMIT = b then s else passSeal (s.putB SEAL_STAT_PERMIT b)

/-- A mismatching read (R464, R465): the word read, SEALW above it. -/
def sealMismatch (w : Nat) (s : State) : State :=
  let d := w % 256 + 256 * s.get SEAL_REC_SEALW
  let s1 := putHSwarp SEAL_MISW_SWARP (s.count SEAL_CNT_MIS)
  setSeal false (retain 0xB d (raiseH 110 1 d (setEvt 0x015 2 s1)))

/-- Three samples of the switches, 1 = closed (R464). -/
def sealSamples (s1' s2' s3' : Nat) (s : State) : State :=
  if s1' % 256 = s2' % 256 && s2' % 256 = s3' % 256 then
    let w := s1' % 256
    let t := setEvt 0x015 1 ({ s with safety := { s.safety with incons := 0, retry := false } }.put SEAL_STAT_WORD w |>.put SEAL_STAT_BUSY 0)
    if !t.flag SEAL_STAT_RECORD then t
    else if (w ^^^ t.get SEAL_REC_SEALW) &&& t.get SEAL_REC_SEALM = 0 then
      if t.flag SEAL_STAT_PERMIT then t else setSeal true (raiseH 109 1 w (setEvt 0x015 4 t))
    else sealMismatch w t
  else
    let n := s.safety.incons + 1
    let t := raiseH 109 2 0 (setEvt 0x015 8 (s.count SEAL_CNT_INCONS))
    if n < 3 then { t.put SEAL_STAT_BUSY 1 with safety := { t.safety with incons := n, retry := true } }
    else sealMismatch s3' ({ t with safety := { t.safety with incons := 0, retry := false } }.put SEAL_STAT_BUSY 0)

/-- `SEAL_READ` (R464): the read at H-die start, every 60 s, or on `SEAL.CTL.READ`. A read in progress goes on instead. -/
def execSealRead (s1 s2 s3 : Nat) (s : State) : Outcome State Fault Refusal :=
  run (fun s => if s.safety.retry then s else sealSamples s1 s2 s3 s) s

/-- A write of `SEAL.CTL` (R464, Table 15-14). -/
def sealReadWrite (w : Word) (s : State) : State :=
  if w.getLsbD 0 && s.flag SEAL_STAT_BUSY then capture SEAL_CTL_READ.addr 3 s
  else
    let s1 := if w.getLsbD 0 then s.put SEAL_STAT_BUSY 1 else s
    if w &&& 0xFFFFFFFE#32 = 0 then s1 else capture SEAL_CTL_READ.addr 2 s1

def execSealReadCmd (s : State) : Outcome State Fault Refusal := run (sealReadWrite 1) s

/-- `SEAL_RETRY` (R464): 10 ms after an inconsistent read. -/
def execSealRetry (s1 s2 s3 : Nat) (s : State) : Outcome State Fault Refusal :=
  run (fun s => if s.safety.retry then sealSamples s1 s2 s3 s else s) s

end Sys2Proof.Machine
end

