-- ==== Sys2Proof/Machine/Louvre.lean ====
section
/-! DEFINITION. The Louvre cooling drives (R467–R480): six-step commutation, the channel states, targets and curves, shunt current and
half-bridge faults. Lengths of sectors are in Louvre control clocks of 10 ns. -/

namespace Sys2Proof.Machine

open Host (Outcome)

/-- What a half-bridge does (Table 16-1). -/
inductive Half where
  | pwm
  | low
  | off
  deriving DecidableEq, Repr

/-- Phases of a sector: PWM, low on, floating (Table 16-1). -/
def sectorPhases (k : Nat) : Nat × Nat × Nat :=
  match k % 6 with
  | 0 => (0, 1, 2)
  | 1 => (0, 2, 1)
  | 2 => (1, 2, 0)
  | 3 => (1, 0, 2)
  | 4 => (2, 0, 1)
  | _ => (2, 1, 0)

/-- The sector of a debounced Hall code, HOFS = 0; `none`: an invalid code (Table 16-1). -/
def hallSector (code : Nat) : Option Nat :=
  match code with
  | 1 => some 0
  | 3 => some 1
  | 2 => some 2
  | 6 => some 3
  | 4 => some 4
  | 5 => some 5
  | _ => none

/-- What half-bridge p of channel n does now: nothing while the D-die holds the gates low (R36, R421), else what its state drives; after a
fault those that have not faulted drive to the end of the PWM period (R479). -/
def halfBridge (s : State) (n p : Nat) : Half :=
  let st := s.get (LOUVRE_STAT_STATE n)
  let l := louvAt s n
  let last := st = 6 && l.ending && !s.flag ⟨(LOUVRE_STAT_HBFLT n).addr, 7 + p, 1⟩
  if s.pwr.gatesLow || !((2 ≤ st && st ≤ 4) || last) then .off
  else
    let (a, b, _) := sectorPhases l.sector
    if p = a then .pwm else if p = b then .low else .off

/-- f_e of the last six sectors, Hz; 0 until six have passed (R472). -/
def louvFe (l : LouvSt) : Rat :=
  let t : Nat := l.lens.foldl (· + ·) 0
  if l.lens.length < 6 || t = 0 then 0 else 100000000 / (t : Rat)

/-- A sector of `len` clocks is over: f_e, the measured speed and SPINREV follow (R472, R473). -/
def putLen (n len : Nat) (rev : Bool) (s : State) : State :=
  let s1 := modLouv n (fun l => { l with lens := (len :: l.lens).take 6, rev := rev }) s
  let rpm := louvFe (louvAt s1 n) * 60 / s1.get (LOUVRE_CFG_POLES n)
  (s1.put (LOUVRE_STAT_RPM n) (lsbU 16 rpm)).putB (LOUVRE_STAT_SPINREV n) (rev != s1.flag (LOUVRE_CTL_DIR n))

/-- The speed that the electrical limit of 1,500 Hz allows (R472). -/
def rpmCap (s : State) (n rpm : Nat) : Nat := min rpm (90000 / s.get (LOUVRE_CFG_POLES n))

/-- RPM of the last curve point (R475, R476). -/
def lastRpm (s : State) (n : Nat) : Nat := s.get (LOUVRE_CURVE_RPM n (s.get (LOUVRE_CURVSRC_NPTS n) - 1))

/-- A SHUTDOWN forces the channel (R475, R480). -/
def forced (s : State) (n : Nat) : Bool := anyShutdown s && s.flag (LOUVRE_CFG_EN n) && s.get (LOUVRE_STAT_STATE n) != 6

/-- The target (R475). -/
def louvTarget (s : State) (n : Nat) : Nat :=
  rpmCap s n (if forced s n then lastRpm s n
    else if s.get (LOUVRE_CTL_MODE n) = 1 then s.get (LOUVRE_CTL_RPM n)
    else if s.get (LOUVRE_CTL_MODE n) = 2 then (louvAt s n).curve
    else 0)

/-- The channel is to run: enabled, with a target above 0. -/
def louvWants (s : State) (n : Nat) : Bool := s.flag (LOUVRE_CFG_EN n) && decide (0 < louvTarget s n)

/-- What a change of target or enable does at once (Table 16-2); while VM or VGD is low every channel but a faulted one is in UVWAIT (R468).
(DESIGN CHOICE: log entry 28.) -/
def louvEval (n : Nat) (s : State) : State :=
  let st := s.get (LOUVRE_STAT_STATE n)
  if s.pwr.uv && st != 6 then louvState n 7 (gatesOff n s)
  else if st = 0 && louvWants s n then louvState n 1 (gatesOff n s)
  else if st = 4 && !louvWants s n then louvState n 5 (modLouv n (fun l => { l with stalled := false }) (gatesOff n s))
  else s

/-- The divider of the Louvre control clock now (R419). -/
def louvDiv (s : State) : Nat := if s.flag HTHERM_STAT_THROT then 2 ^ s.get HTHERM_CLKDIV_THRDIV else 1

/-- A time of `CFG` or `CFG2` in 10 ns as the channel resolves it: rounded up to the period of the divided clock that it counts by (R481).
(DEDUCED: log entry 125.) -/
def louvTime (s : State) (n x : Nat) : Nat :=
  let u := (louvAt s n).div
  (x + u - 1) / u * u

/-- The largest duty: the low side of the PWM half-bridge is on for TLMIN in every period (R469); 2^-16 per LSB, period in 10 ns.
(DESIGN CHOICE: log entry 24.)
(DEDUCED: log entry 125.) -/
def maxDuty (s : State) (n : Nat) : Nat :=
  let period : Rat := 100000 / (s.get (LOUVRE_CFG_PWMF n) : Rat)
  lsbU 16 (65536 * (1 - (louvTime s n (s.get (LOUVRE_CFG2_TLMIN n)) + 2 * louvTime s n (s.get (LOUVRE_CFG_DT n)) : Nat) / period))

/-- A refresh pulse where the low side has not conducted for 10 ms (R470), and the half-bridges' ages after the period. -/
def refreshStep (n : Nat) (s : State) : State :=
  let period := 100000 / s.get (LOUVRE_CFG_PWMF n)
  let (a, b, _) := sectorPhases (louvAt s n).sector
  let age := (louvAt s n).lowAge
  let s1 := if 1000000 ≤ age.getD a 0 then emit (.refresh (3 * n + a)) s else s
  let lowOn := period - period * s.get (LOUVRE_DUTY_DUTY n) / 65536 - 2 * louvTime s n (s.get (LOUVRE_CFG_DT n))
  let after (p : Nat) : Nat :=
    if p = b then 0
    else if p = a then (if 100 ≤ lowOn || 1000000 ≤ age.getD a 0 then 0 else age.getD a 0 + period)
    else min (age.getD p 0 + period) 1000000
  modLouv n (fun l => { l with lowAge := (List.range 3).map after }) s1

/-- The shunt conversion of a period in RUN (R478): `cur` is the shunt current in 10 mA, `code` the result of HAIN_(8+n), `busy`: HADC_0
is converting another channel. -/
def shuntStep (n code : Nat) (cur : Int) (busy : Bool) (s : State) : State :=
  let period := 100000 / s.get (LOUVRE_CFG_PWMF n)
  let onT := period * s.get (LOUVRE_DUTY_DUTY n) / 65536
  if busy || onT < 50 then setEvt 0x01F 0x10 (s.count HADC_STAT_SKIP)
  else
    let (a, b, c) := sectorPhases (louvAt s n).sector
    let f : Nat → Fld := fun p => if p = 0 then LOUVRE_CURR_AB_IA n else if p = 1 then LOUVRE_CURR_AB_IB n else LOUVRE_CURR_C_IC n
    let x := clampInt (-32767) 32767 cur
    hadcResult (8 + n) code (((s.putI (f a) x).putI (f b) (-x)).putI (f c) 0)

/-- `PWM_PERIOD` (R469, R470, R478, R479, R481): a PWM period of channel ch begins; the divided clock and the new duty apply, the period
before is judged against the current limit, a refresh pulse comes first where it is due, and the shunt current is converted in RUN. After a
fault every gate goes off. -/
def execPwmPeriod (ch code : Nat) (cur : Int) (busy : Bool) (s : State) : Outcome State Fault Refusal :=
  run (fun s =>
    if 4 ≤ ch then s
    else
      let st := s.get (LOUVRE_STAT_STATE ch)
      let s0 := modLouv ch (fun l => { l with div := louvDiv s }) s
      if !(2 ≤ st && st ≤ 4) then
        modLouv ch (fun l => { l with lowAge := l.lowAge.map fun a => min (a + 100000 / s.get (LOUVRE_CFG_PWMF ch)) 1000000 })
          (if (louvAt s ch).ending then gatesOff ch s0 else s0)
      else
        let l := louvAt s0 ch
        let s1 := if l.trip then
            (if l.tripRun then id else setEvt (0x18 + ch) 0x20) (s0.count (LOUVRE_CNT_ILIM ch)) else s0
        let s2 := modLouv ch (fun l => { l with trip := false, tripRun := l.trip }) s1
        let s3 := refreshStep ch (s2.put (LOUVRE_DUTY_DUTY ch) (min l.duty (maxDuty s0 ch)))
        if st = 4 then shuntStep ch code cur busy s3 else s3) s

/-! ### Commutation -/

/-- The sector after `k` in the direction of rotation (R471). -/
def nextSector (dir : Bool) (k : Nat) : Nat := if dir then (k + 5) % 6 else (k + 1) % 6

/-- `ZERO_CROSSING` (R472, R473): a crossing is accepted, `len` clocks after the one before it. In RAMP six in a row at the expected
sector close the loop; while the channel coasts, crossings are how it measures f_e and the direction. -/
def execZeroCrossing (ch len : Nat) (rev expected : Bool) (s : State) : Outcome State Fault Refusal :=
  run (fun s =>
    let st := s.get (LOUVRE_STAT_STATE ch)
    if 4 ≤ ch || (s.flag (LOUVRE_CFG_HALL ch) && 2 ≤ st && st ≤ 4) then s
    else if st = 3 then
      let n := if expected then (louvAt s ch).cross + 1 else 0
      let s1 := modLouv ch (fun l => { l with cross := n, seen := true }) s
      if 6 ≤ n then louvEval ch (louvState ch 4 s1) else s1
    else if st = 4 then modLouv ch (fun l => { l with seen := true }) s
    else if st = 0 || st = 1 || st = 5 then putLen ch len rev s
    else s) s

/-- `COMMUTATION` (R472): half the previous sector's length after the accepted crossing, or as the open-loop ramp runs; the sector that
ends has lasted `len` clocks. -/
def execCommutation (ch len : Nat) (s : State) : Outcome State Fault Refusal :=
  run (fun s =>
    let st := s.get (LOUVRE_STAT_STATE ch)
    let l := louvAt s ch
    let dir := s.flag (LOUVRE_CTL_DIR ch)
    if ch < 4 && !s.flag (LOUVRE_CFG_HALL ch) && (st = 3 || (st = 4 && l.seen)) then
      putLen ch len dir (modLouv ch (fun l => { l with sector := nextSector dir l.sector, seen := false }) s)
    else s) s

/-- The sector that a Hall code drives: advanced by HOFS in the direction of rotation (R472). -/
def hallDrive (s : State) (n code : Nat) : Option Nat :=
  (hallSector code).map fun k =>
    let h := s.get (LOUVRE_CFG_HOFS n)
    if s.flag (LOUVRE_CTL_DIR n) then (k + 6 - h % 6) % 6 else (k + h) % 6

/-- `HALL_CHANGE` (R472): a debounced code, `len` clocks after the change before it; the channel commutates on each valid change. -/
def execHallChange (ch code len : Nat) (s : State) : Outcome State Fault Refusal :=
  run (fun s =>
    if 4 ≤ ch || !s.flag (LOUVRE_CFG_HALL ch) then s
    else
      let old := (louvAt s ch).hall
      let s1 := modLouv ch (fun l => { l with hall := code % 8 }) s
      match hallSector (code % 8), hallDrive s ch (code % 8) with
      | some k, some drive =>
        let rev := match hallSector old with
          | some o => o = (k + 1) % 6
          | none => (louvAt s ch).rev
        let s2 := putLen ch len rev s1
        if s.get (LOUVRE_STAT_STATE ch) = 4 then modLouv ch (fun l => { l with sector := drive, seen := true }) s2 else s2
      | _, _ => s1) s

/-- `HALL_INVALID` (R472, R479): an invalid code held for 10 ms. -/
def execHallInvalid (ch : Nat) (s : State) : Outcome State Fault Refusal :=
  run (fun s =>
    if ch < 4 && s.flag (LOUVRE_CFG_HALL ch) && (hallSector (louvAt s ch).hall).isNone && s.get (LOUVRE_STAT_STATE ch) ≠ 6 then
      louvFault ch 3 4 s else s) s

/-! ### States -/

/-- `CATCH_END` (R473): 50 ms in CATCH have passed. -/
def execCatchEnd (ch : Nat) (s : State) : Outcome State Fault Refusal :=
  run (fun s =>
    if 4 ≤ ch || s.get (LOUVRE_STAT_STATE ch) ≠ 1 then s
    else
      let l := louvAt s ch
      let fe := louvFe l
      let with' := l.rev == s.flag (LOUVRE_CTL_DIR ch)
      if with' && (s.get (LOUVRE_SPIN_FCATCH ch) : Rat) ≤ fe then louvEval ch (louvState ch 4 (modLouv ch (fun l => { l with seen := false }) s))
      else if !with' && (s.get (LOUVRE_SPIN_REVTH ch) : Rat) ≤ fe then
        let s1 := modLouv ch (fun l => { l with against := l.against + 1 }) s
        if l.against + 1 = 200 then raiseH (120 + ch) 3 1 s1 else s1
      else if s.flag (LOUVRE_CFG_HALL ch) then
        louvEval ch (louvState ch 4 (modLouv ch (fun l => { l with sector := (hallDrive s ch l.hall).getD l.sector, seen := false }) s))
      else
        louvState ch 2 (modLouv ch (fun l => { l with sector := 0, duty := lsbU 16 (65536 * (s.get (LOUVRE_START_ALIGND ch) : Nat) / (200 : Rat)) }) s)) s

/-- `ALIGN_END` (R473): TALIGN has passed; the open-loop commutation starts. -/
def execAlignEnd (ch : Nat) (s : State) : Outcome State Fault Refusal :=
  run (fun s =>
    if ch < 4 && s.get (LOUVRE_STAT_STATE ch) = 2 then
      louvState ch 3 (modLouv ch (fun l => { l with cross := 0, seen := false, lens := [] }) s) else s) s

/-- A stall (R477): the third within 60 s is a fault of cause 0x5. -/
def louvStall (n : Nat) (s : State) : State :=
  let l := louvAt s n
  let st := l.ms :: l.stalls.filter fun t => decide (l.ms < t + 60000)
  let s1 := setEvt (0x18 + n) 4 (modLouv n (fun l => { l with stalls := st, stalled := true }) s)
  if 3 ≤ st.length then louvFault n 3 5 s1 else louvState n 5 (gatesOff n s1)

/-- `RAMP_TIMEOUT` (R473): TRAMP has passed without six crossings. -/
def execRampTimeout (ch : Nat) (s : State) : Outcome State Fault Refusal :=
  run (fun s => if ch < 4 && s.get (LOUVRE_STAT_STATE ch) = 3 then louvStall ch s else s) s

/-- `STALL` (R477): no crossing and no Hall change within twice the previous sector's length, or f_e below 2 Hz. -/
def execStall (ch : Nat) (s : State) : Outcome State Fault Refusal :=
  run (fun s => if ch < 4 && s.get (LOUVRE_STAT_STATE ch) = 4 then louvStall ch s else s) s

/-- `STALL_RETRY` (R473): 1 s after a stall, with fewer than three stalls in the last 60 s. -/
def execStallRetry (ch : Nat) (s : State) : Outcome State Fault Refusal :=
  run (fun s =>
    let l := louvAt s ch
    if ch < 4 && s.get (LOUVRE_STAT_STATE ch) = 5 && l.stalled && (l.stalls.filter fun t => decide (l.ms < t + 60000)).length < 3 &&
        louvWants s ch then louvState ch 1 s else s) s

/-- `COAST_END` (R473): f_e has fallen below FCATCH, or 2 s have passed. -/
def execCoastEnd (ch : Nat) (after2s : Bool) (s : State) : Outcome State Fault Refusal :=
  run (fun s =>
    if ch < 4 && s.get (LOUVRE_STAT_STATE ch) = 5 && (after2s || louvFe (louvAt s ch) < s.get (LOUVRE_SPIN_FCATCH ch)) then
      louvEval ch (louvState ch 0 s) else s) s

/-- `DRIVER_UNDERVOLTAGE` (R468): VM < 10.5 V or VGD < 9.0 V. -/
def execDriverUndervoltage (s : State) : Outcome State Fault Refusal :=
  run (fun s => (List.range 4).foldl (fun s n =>
    if s.get (LOUVRE_STAT_STATE n) = 6 then gatesOff n s else louvState n 7 (gatesOff n s)) { s with pwr.uv := true }) s

/-- `UV_RELEASE` (R468): VM ≥ 11.0 V and VGD ≥ 9.5 V have held for 10 ms.
(DESIGN CHOICE: log entry 28.) -/
def execUvRelease (s : State) : Outcome State Fault Refusal :=
  run (fun s => (List.range 4).foldl (fun s n =>
    if s.get (LOUVRE_STAT_STATE n) = 7 then louvState n (if louvWants s n then 1 else 0) s else s) { s with pwr.uv := false }) s

/-- `HALF_BRIDGE_FAULT` (R479): a condition of cause 0x1–0x3 is detected on a half-bridge, or is no longer detected. -/
def execHalfBridgeFault (ch phase cause : Nat) (present : Bool) (s : State) : Outcome State Fault Refusal :=
  run (fun s =>
    if 4 ≤ ch || 3 ≤ phase || cause = 0 || 3 < cause then s
    else
      let c := (louvAt s ch).cond
      if present then louvFault ch phase cause (modLouv ch (fun l => { l with cond := c ||| 2 ^ phase }) s)
      else modLouv ch (fun l => { l with cond := c &&& (7 ^^^ 2 ^ phase) }) s) s

/-! ### Control and speed -/

/-- SRC names a source of Table 14-5. -/
def isTempSource (i : Nat) : Bool :=
  i ≤ 10 || (0x10 ≤ i && i ≤ 0x14) || (0x18 ≤ i && i ≤ 0x1A) || (0x20 ≤ i && i < 0x24)

/-- The points in use rise, and SRC is a source (R476). -/
def curveValid (s : State) (n : Nat) : Bool :=
  let k := s.get (LOUVRE_CURVSRC_NPTS n)
  isTempSource (s.get (LOUVRE_CURVSRC_SRC n)) &&
    (List.range (k - 1)).all fun i => decide (s.getI (LOUVRE_CURVE_T n i) < s.getI (LOUVRE_CURVE_T n (i + 1)))

/-- A write of `LOUVRE.CTL` (R474–R476, R479). `same`: in the register clock of a fault, which has been applied; the write is stored then,
and CLR does not clear (R480).
(DESIGN CHOICE: log entry 28.) -/
def louvreCtlWrite (n : Nat) (w : Word) (same : Bool) (s : State) : State :=
  let a := (LOUVRE_CTL_MODE n).addr
  let mode := bitsAt w.toNat 0 2
  let dir := w.getLsbD 2
  let clr := w.getLsbD 3 && !same
  let inFault := s.get (LOUVRE_STAT_STATE n) = 6
  if dir != s.flag (LOUVRE_CTL_DIR n) && (s.get (LOUVRE_SPIN_REVTH n) : Rat) ≤ louvFe (louvAt s n) then
    raiseH (120 + n) 3 0 (setEvt (0x18 + n) 0x10 (capture a 3 s))
  else if mode = 3 || (mode = 2 && !curveValid s n) || (clr && inFault && (louvAt s n).cond ≠ 0) then capture a 3 s
  else
    let s0 := if mode = 2 && s.get (LOUVRE_CTL_MODE n) ≠ 2 then
        modLouv n (fun l => { l with curve := 0 }) ((s.put (LOUVRE_STAT_ON n) 0).put (LOUVRE_STAT_NOVAL n) 0) else s
    let s1 := s0.setRaw a (w &&& 0xFFFF0007#32)
    let s2 := if clr && inFault then louvState n 0 (s1.put ⟨(LOUVRE_STAT_HBFLT n).addr, 7, 3⟩ 0) else s1
    let s3 := louvEval n s2
    if w &&& 0xFFF0#32 = 0 then s3 else capture a 2 s3

def execLouvreCtl (ch : Nat) (value : Word) (same : Bool) (s : State) : Outcome State Fault Refusal :=
  run (fun s => if 4 ≤ ch then s else louvreCtlWrite ch value same s) s

/-- The target in effect moves toward the target at ACC rpm/s, in one millisecond (R475). -/
def approach (x target step : Rat) : Rat := if x < target then min target (x + step) else max target (x - step)

/-- `SPEED_LOOP` (R475): 1 ms of the speed loop. In RUN a PI loop sets the duty; the spec gives the loop no gains, so the duty is a free
value within its limit (log entry 24). Timers that count milliseconds advance. -/
def execSpeedLoop (ch : Nat) (s : State) : Outcome State Fault Refusal :=
  run (fun s =>
    if 4 ≤ ch then s
    else
      let s1 := louvEval ch (s.putB (LOUVRE_STAT_FORCED ch) (forced s ch))
      let t := approach (louvAt s1 ch).tgt (louvTarget s1 ch : Nat) ((s1.get (LOUVRE_SPIN_ACC ch) : Rat) / 1000)
      let s2 := modLouv ch (fun l => { l with tgt := t, ms := l.ms + 1 }) (s1.put (LOUVRE_DUTY_TGT ch) (lsbU 16 t))
      if s2.get (LOUVRE_STAT_STATE ch) ≠ 4 then s2
      else
        let (w, s3) := freeWord s2
        let r := (louvAt s3 ch).runMs + 1
        let s4 := modLouv ch (fun l => { l with duty := min (w.toNat % 65536) (maxDuty s3 ch), runMs := if r = 1000 then 0 else r }) s3
        if r = 1000 then s4.count (LOUVRE_RUNSEC_SEC ch) else s4) s

/-- Linear interpolation on the curve's points (R476). -/
def curveRpm (s : State) (n : Nat) (t : Int) : Nat :=
  let k := s.get (LOUVRE_CURVSRC_NPTS n)
  let pt (i : Nat) : Int × Nat := (s.getI (LOUVRE_CURVE_T n i), s.get (LOUVRE_CURVE_RPM n i))
  match (List.range (k - 1)).find? fun i => decide ((pt i).1 ≤ t) && decide (t < (pt (i + 1)).1) with
  | some i =>
    let (t0, r0) := pt i
    let (t1, r1) := pt (i + 1)
    lsbU 16 (r0 + ((r1 : Rat) - r0) * (t - t0 : Int) / (t1 - t0 : Int))
  | none => if t < (pt 0).1 then (pt 0).2 else (pt (k - 1)).2

/-- `CURVE_READING` (R476): every 100 ms in CURVE mode. -/
def execCurveReading (ch : Nat) (s : State) : Outcome State Fault Refusal :=
  run (fun s =>
    if 4 ≤ ch || s.get (LOUVRE_CTL_MODE ch) ≠ 2 then s
    else
      match tempSource s (s.get (LOUVRE_CURVSRC_SRC ch)) with
      | none =>
        let s1 := if s.flag (LOUVRE_STAT_NOVAL ch) then s
                  else raiseH (120 + ch) 4 1 (setEvt (0x18 + ch) 8 (s.put (LOUVRE_STAT_NOVAL ch) 1))
        louvEval ch (modLouv ch (fun l => { l with curve := lastRpm s ch }) (s1.put (LOUVRE_STAT_ON ch) 1))
      | some t =>
        let s1 := if s.flag (LOUVRE_STAT_NOVAL ch) then
            raiseH (120 + ch) 4 0 (setEvt (0x18 + ch) 8 (s.put (LOUVRE_STAT_NOVAL ch) 0)) else s
        let ton := s.getI (LOUVRE_CURVTON_TON ch)
        let on := if ton ≤ t then true
                  else if t ≤ ton - 8 * s.get (LOUVRE_CURVSRC_HYST ch) then false else s1.flag (LOUVRE_STAT_ON ch)
        louvEval ch (modLouv ch (fun l => { l with curve := if on then curveRpm s ch t else 0 }) (s1.putB (LOUVRE_STAT_ON ch) on))) s

/-- A write to a LOUVRE register that its channel refuses with cause 0x3 (R476, "LOUVRE registers"). -/
def louvreRefuses (s : State) (n off : Nat) : Bool :=
  let st := s.get (LOUVRE_STAT_STATE n)
  if 0x040 ≤ off && off ≤ 0x04C then st != 0 && st != 6
  else if off == 0x054 || off == 0x058 || (0x080 ≤ off && off < 0x0C0) then s.get (LOUVRE_CTL_MODE n) == 2
  else false

end Sys2Proof.Machine
end

