-- ==== Sys2Proof/Machine/AuxSup.lean ====
section
/-! DEFINITION. The auxiliary supply (R483–R486) and the H-die's scans and comparators (R487, R488). -/

namespace Sys2Proof.Machine

open Host (Outcome)

/-- The supply changes its state (R485): journalled, with whether a demand was made; a fault records the short warp. Without switching there
is no mean of FB, and PGOOD falls.
(DESIGN CHOICE: log entry 27.) -/
def auxState (st evt : Nat) (demanded fault : Bool) (s : State) : State :=
  let old := s.get AUXSUP_STAT_STATE
  let s1 := if demanded then demand 5 0 s else s
  let s2 := s1.put AUXSUP_STAT_STATE st
  let s3 := if evt = 0 then s2 else setEvt 0x01C evt s2
  let s4 := if fault then putHSwarp AUXSUP_FAULTW_SWARP s3 else s3
  let s4' := if st ≠ 1 && st ≠ 2 && s4.flag AUXSUP_STAT_PGOOD then setEvt 0x01C 1 (s4.put AUXSUP_STAT_PGOOD 0) else s4
  let s5 := raiseH 124 1 (st + 8 * old + 64 * bit demanded) s4'
  if st = 1 then { s5 with aux := { s5.aux with fbs := [], cycles := 0, step := 0, integ := 0, oc := 0, ov := 0 } } else s5

/-- Enter HICCUP (Table 16-3): the eighth entry within 10 s latches.
(DESIGN CHOICE: log entry 27.) -/
def enterHiccup (evt : Nat) (demanded : Bool) (s : State) : State :=
  let now := s.aux.time
  let hs := now :: s.aux.hiccups.filter fun t => decide (now < t + 10000000)
  let s1 := auxState 3 (evt + 2) demanded true ({ s with aux := { s.aux with hiccups := hs } }.count AUXSUP_CNT_HICCUP)
  if 8 ≤ hs.length then auxState 5 0 false false s1 else s1

/-- The mean of the samples of the last millisecond. -/
def auxMean (l : List Nat) : Rat := if l.length = 0 then 0 else (l.foldl (· + ·) 0 : Nat) / (l.length : Rat)

/-- The feedback loop every eight cycles (R484): VC moves toward the error and stays within 0 to VCMAX.
(DESIGN CHOICE: log entry 27.) -/
def auxPi (s : State) : State :=
  let vset : Rat := s.get AUXSUP_VREG_VSET
  let tss : Rat := (s.get AUXSUP_CFG_TSS * s.get AUXSUP_CFG_FSW : Nat) / (10 : Rat)
  let target := if s.get AUXSUP_STAT_STATE = 1 then vset * min 1 ((s.aux.cycles : Rat) / tss) else vset
  let e := target - auxMean (s.aux.fbs.take 8)
  let top : Rat := s.get AUXSUP_LOOP_VCMAX
  let i := max 0 (min top (s.aux.integ + (s.get AUXSUP_LOOP_KI : Rat) / 256 * e))
  let vc := lsbU 10 (max 0 (min top (i + (s.get AUXSUP_LOOP_KP : Rat) / 16 * e)))
  let clim := decide (s.get AUXSUP_LOOP_VCMAX ≤ vc)
  let s1 := if clim && !s.flag AUXSUP_STAT_CLIM then setEvt 0x01C 0x20 s else s
  { (s1.put AUXSUP_VC_VC vc).putB AUXSUP_STAT_CLIM clim with aux := { s1.aux with step := 0, integ := i } }

/-- PGOOD: the mean of the last millisecond lies within ±5 % of VSET (R484).
(DESIGN CHOICE: log entry 27.) -/
def auxGood (s : State) : State :=
  let vset : Rat := s.get AUXSUP_VREG_VSET
  let m := auxMean s.aux.fbs
  let b := decide (vset * 95 / 100 ≤ m) && decide (m ≤ vset * 105 / 100)
  let s1 := s.put AUXSUP_STAT_FB (lsbU 12 m)
  if s.flag AUXSUP_STAT_PGOOD = b then s1 else setEvt 0x01C 1 (s1.putB AUXSUP_STAT_PGOOD b)

/-- `AUX_CYCLE` (R483–R485): one switching cycle. `endBy`: 0 = DMAX, 1 = HCMP_0, 2 = HCMP_1; `duty` in 0.1 %; `fb`: AUX_FB at KNEE.
(DEDUCED: log entry 106.) -/
def execAuxCycle (endBy duty fb : Nat) (s : State) : Outcome State Fault Refusal :=
  run (fun s =>
    let st := s.get AUXSUP_STAT_STATE
    if st ≠ 1 && st ≠ 2 then s
    else
      let fsw := s.get AUXSUP_CFG_FSW
      let c := fb % 4096
      let s1 := hadcResult 7 c (s.put AUXSUP_VC_DUTY (min duty (10 * s.get AUXSUP_CFG_DMAX)))
      let a := s1.aux
      let above := decide ((s.get AUXSUP_PROT_OVP * s.get AUXSUP_VREG_VSET : Nat) < 100 * c)
      let a2 := { a with fbs := (c :: a.fbs).take fsw, cycles := a.cycles + 1, step := a.step + 1, time := a.time + 1000 / (fsw : Rat),
                         oc := if endBy = 2 then a.oc + 1 else 0, ov := if above then a.ov + 1 else 0 }
      let s2 : State := { s1 with aux := a2 }
      let s3 := auxGood (if 8 ≤ a2.step then auxPi s2 else s2)
      if st = 1 then
        if 4 ≤ a2.oc then enterHiccup 0 false s3
        else if s3.flag AUXSUP_STAT_PGOOD then auxState 2 0 false false s3 else s3
      else if 4 ≤ a2.ov then auxState 5 4 true true (s3.count AUXSUP_CNT_OVP)
      else if 4 ≤ a2.oc then enterHiccup 0 true s3
      else s3) s

/-- `AUX_FAULT_TIMER` (R485): in RUN, FB has been below UVP for 1 ms, or (`input`) HAIN_6 below VINMIN for 1 ms. -/
def execAuxFaultTimer (input : Bool) (s : State) : Outcome State Fault Refusal :=
  run (fun s =>
    if s.get AUXSUP_STAT_STATE ≠ 2 then s
    else if input then auxState 4 0x10 true true s
    else enterHiccup 8 true s) s

/-- A write of `AUXSUP.CTL` (R485): EN starts or stops the supply, RESTART leaves LATCHED. -/
def auxCtlWrite (w : Word) (s : State) : State :=
  let st := s.get AUXSUP_STAT_STATE
  let s1 := s.putB AUXSUP_CTL_EN (w.getLsbD 0)
  let s2 :=
    if st = 0 && w.getLsbD 0 then
      if s.get AUXSUP_PROT_VINMIN ≤ s.get (HADC_RES_CODE 6) then auxState 1 0 false false s1 else auxState 4 0x10 false true s1
    else if st = 2 && !w.getLsbD 0 then auxState 0 0 true false s1
    else if st = 5 && w.getLsbD 1 then auxState 1 0 false false { s1 with aux := { s1.aux with hiccups := [] } }
    else s1
  if w &&& 0xFFFFFFFC#32 = 0 then s2 else capture AUXSUP_CTL_EN.addr 2 s2

def execAuxEn (value : Word) (s : State) : Outcome State Fault Refusal := run (auxCtlWrite value) s

/-- `AUX_RESTART` (R485): RESTART is written 1 and EN keeps its value. -/
def execAuxRestart (s : State) : Outcome State Fault Refusal :=
  run (fun s => auxCtlWrite (word (2 + s.get AUXSUP_CTL_EN)) s) s

/-- `AUX_SOFTSTART_TIMEOUT` (R485): 4 × TSS without PGOOD. -/
def execAuxSoftstartTimeout (s : State) : Outcome State Fault Refusal :=
  run (fun s => if s.get AUXSUP_STAT_STATE = 1 then enterHiccup 0 false s else s) s

/-- `HICCUP_END` (R485): 50 ms in HICCUP. -/
def execHiccupEnd (s : State) : Outcome State Fault Refusal :=
  run (fun s =>
    if s.get AUXSUP_STAT_STATE = 3 then auxState 1 0 false false { s with aux := { s.aux with time := s.aux.time + 50000 } } else s) s

/-- `INUV_RECOVER` (R485): HAIN_6 has been at or above 1.05 × VINMIN for 10 ms; `elapsed` µs since the entry into INUV. -/
def execInuvRecover (elapsed : Nat) (s : State) : Outcome State Fault Refusal :=
  run (fun s =>
    if s.get AUXSUP_STAT_STATE = 4 then auxState 1 0 false false { s with aux := { s.aux with time := s.aux.time + (elapsed : Nat) } }
    else s) s

/-- Writes of the supply's settings are taken only in OFF or LATCHED. -/
def auxRefuses (s : State) (off : Nat) : Bool :=
  0x040 ≤ off && off ≤ 0x04C && s.get AUXSUP_STAT_STATE != 0 && s.get AUXSUP_STAT_STATE != 5

/-- `HADC_SCAN` (R487): HADC_1 converts the inputs enabled in SCANCFG, bits 0–3 ignored; `codes` are (input, result). -/
def execHadcScan (codes : List (Nat × Nat)) (s : State) : Outcome State Fault Refusal :=
  run (fun s => codes.foldl (fun s p =>
    if 4 ≤ p.1 && p.1 < 16 && (s.get HADC_SCANCFG_EN).testBit p.1 then hadcResult p.1 p.2 s else s) s) s

/-- `HCMP_TRIP` (R488): comparator `cmp` trips, or (`tripped` false) its output has returned and the run of trips is over. -/
def execHcmpTrip (cmp : Nat) (tripped : Bool) (s : State) : Outcome State Fault Refusal :=
  run (fun s =>
    if 8 ≤ cmp then s
    else
      let inRun := s.analog.run.testBit cmp
      let s0 := s.putB (subBit HCMP_STAT_OUT cmp) tripped
      if !tripped then (if inRun then { s0 with analog.run := s0.analog.run ^^^ 2 ^ cmp } else s0)
      else
        let s1 := s0.count (HCMP_TRIPCNT_COUNT cmp)
        let s2 := if inRun then s1 else setEvt 0x01E (2 ^ cmp) { s1 with analog.run := s1.analog.run ||| 2 ^ cmp }
        let s3 := if (cmp == 1 || cmp == 6 || cmp == 7) && s.flag (HCMP_CFG_EVT cmp) then raiseH 94 1 cmp s2 else s2
        if 2 ≤ cmp && cmp ≤ 5 then modLouv (cmp - 2) (fun l => { l with trip := true }) s3 else s3) s

end Sys2Proof.Machine
end

