-- ==== Sys2Proof/Machine/Resets.lean ====
section
/-! DEFINITION. What an H-die reset and an H-die firmware restart leave (R486, R507–R509, R517, R520), what the firmware does at its start
(R463, R515), and the permitted signers (Table 17-1). -/

namespace Sys2Proof

open Machine (leAt)

/-! ### The fields of signed items (R8, Tables 15-9a and 17-2) -/

def SealRecord.magic (r : SealRecord) : Nat := leAt r.bytes 0 4
def SealRecord.ver (r : SealRecord) : Nat := leAt r.bytes 4 2
def SealRecord.len (r : SealRecord) : Nat := leAt r.bytes 6 2
def SealRecord.sealw (r : SealRecord) : Nat := leAt r.bytes 8 1
def SealRecord.sealm (r : SealRecord) : Nat := leAt r.bytes 9 1
def SealRecord.disc (r : SealRecord) : List Nat := (List.range 5).map fun i => leAt r.bytes (12 + 2 * i) 2
def SealRecord.tpper (r : SealRecord) : Nat := leAt r.bytes 22 2
def SealRecord.tpw (r : SealRecord) : Nat := leAt r.bytes 24 1

def Firmware.magic (f : Firmware) : Nat := leAt f.header 0 4
def Firmware.kind (f : Firmware) : Nat := leAt f.header 4 1
def Firmware.svn (f : Firmware) : Nat := leAt f.header 5 1
def Firmware.version (f : Firmware) : Nat := leAt f.header 8 4
def Firmware.len (f : Firmware) : Nat := leAt f.header 0xC 4
def Firmware.part (f : Firmware) : Nat := leAt f.header 0x10 2
def Firmware.minstep (f : Firmware) : Nat := leAt f.header 0x12 1

end Sys2Proof

namespace Sys2Proof.Machine

open Host (Outcome)

/-! ### Lifecycle and signers -/

/-- A fuse word counts as burned when at least two of its three copies are burned (R497). -/
def wordBurned (cs : List Bool) : Bool := 2 ≤ (cs.filter id).length

/-- The lifecycle state: the highest burned state word, WAFER when none is (R497).
(DESIGN CHOICE: log entry 20.) -/
def fuseState (f : Fuses) : Nat :=
  (List.range 5).foldl (fun st i => if wordBurned (f.words.getD i []) then i + 2 else st) 1

/-- The target of a partial transition: a state word above the state with one copy burned; 0 = none (R501). -/
def partialTarget (f : Fuses) : Nat :=
  (List.range 5).foldl (fun t i => if fuseState f < i + 2 && (f.words.getD i []).any id && !wordBurned (f.words.getD i []) then i + 2 else t) 0

/-- The owner key hash as it verifies: 0 before it is programmed and after the owner-revoke word (R494, R498). -/
def ownerHash (f : Fuses) : List Word := if f.ownValid && !f.revoke then f.ownKey else List.replicate 12 0

/-- An owner key is programmed and not revoked. -/
def ownerSet (f : Fuses) : Bool := f.ownValid && !f.revoke

/-- The class of the key of a given hash: 1 = Usdenor image, 2 = owner, 3 = Usdenor lifecycle, 0 = another (R494).
(DESIGN CHOICE: log entry 21.) -/
def keyClass (s : State) (h : List Word) : Nat :=
  if ownerSet s.sec.fuses && h == ownerHash s.sec.fuses then 2
  else if h == Config.lifecycleKeyHash then 3
  else if h == Config.imageKeyHash then 1
  else 0

/-- The signers that Table 17-1 permits for Weave images and sealed records (`fw` false) and for firmware. -/
def signerPermitted (state : Nat) (owner fw : Bool) (signer : Nat) : Bool :=
  if state = 1 || state = 6 || state = 0 then fw && state == 1 && signer == 1
  else if fw then signer == 1
  else if state = 2 || state = 5 then signer == 1
  else if state = 3 then signer == 1 || (signer == 2 && owner)
  else signer == 2 && owner

/-- The effective rollback counter of a kind: the greater of fuse and mirror (R515). -/
def effectiveCounter (s : State) (kind : Nat) : Nat :=
  if kind = 1 then max s.sec.fuses.hfw (s.get LIFECYCLE_CNT_HMIR) else max s.sec.fuses.wfw (s.get LIFECYCLE_CNT_WMIR)

/-- SHA-384 of a byte string, as words.
(DEDUCED: log entry 145.) -/
def hashWords (bs : List Byte) : List Word := let h := sha384 bs; (List.range 12).map fun i => word (leAt h (4 * i) 4)

/-- The signature block that ends an item verifies over the bytes before it (R173, R494).
(DESIGN CHOICE: log entry 21.) -/
def blockOk (bs : List Byte) : Bool :=
  let n := bs.length - 160
  Config.sigOk ((List.range 40).map fun i => word (leAt bs (n + 4 * i) 4)) (hashWords (bs.take n))

/-- A firmware image verifies (R495). -/
def firmwareOk (s : State) (kind : Nat) (f : Firmware) : Bool :=
  f.magic == 0x46574B4E && f.kind == kind && f.part == 0x0192 && f.minstep ≤ 0xB0 &&
    f.len ≤ (if kind = 1 then 0x100000 else 0x80000) && effectiveCounter s kind ≤ f.svn && f.svn ≤ 64 &&
    signerPermitted (fuseState s.sec.fuses) (ownerSet s.sec.fuses) true f.signer && blockOk f.bytes

/-- A sealed record is valid (R463). -/
def recordOk (s : State) (r : SealRecord) : Bool :=
  signerPermitted (fuseState s.sec.fuses) (ownerSet s.sec.fuses) false r.signer && r.magic == 0x4C414553 && r.ver == 1 &&
    r.len == 0x40 && bitsAt r.sealm 4 3 == 7 && r.disc.all (fun d => 1 ≤ d && d ≤ 500) &&
    10 ≤ r.tpper && r.tpper ≤ 1000 && 10 ≤ r.tpw && r.tpw ≤ 80 && blockOk r.bytes

/-! ### The external flash (R507) -/

/-- Where slot 0, slot 1 and the sealed record lie, in bytes. -/
def slotBase (slot : Nat) : Nat := if slot = 0 then 0x100000 else 0x200000
def recBase : Nat := 0xF000

/-- `n` bytes of the flash from an address on; an erased byte is 0xFF.
(DESIGN CHOICE: log entry 64.) -/
def flashBytes (s : State) (a n : Nat) : List Byte :=
  (List.range n).map fun i => (((s.sec.flash.lookup ((a + i) / 4)).getD 0xFFFFFFFF#32).extractLsb' (8 * ((a + i) % 4)) 8)

/-- The class of the key that 48 bytes of a signature block name (R173, R494). -/
def signerOf (s : State) (bs : List Byte) : Nat := keyClass s ((List.range 12).map fun i => word (leAt bs (4 * i) 4))

/-- The firmware image in a slot (R495): its signer, from the signature block that ends it, its header and its bytes. -/
def firmwareAt (s : State) (slot : Nat) : Firmware :=
  let h := flashBytes s (slotBase slot) 64
  let n := leAt h 0xC 4
  ⟨signerOf s (flashBytes s (slotBase slot + n - 160) 48), h, if n ≤ 0x100000 then flashBytes s (slotBase slot) n else []⟩

/-- The sealed record in the flash (R463). -/
def recordAt (s : State) : SealRecord := ⟨signerOf s (flashBytes s (recBase + 64) 48), flashBytes s recBase 224⟩

/-- The slot that the ROM starts (R507): the one that the selector names, else the other; `none`: neither verifies. -/
def bootSlot (s : State) : Option Nat :=
  let ok := fun k : Nat => firmwareOk s 1 (firmwareAt s k)
  if ok s.sec.sel then some s.sec.sel else if ok (1 - s.sec.sel) then some (1 - s.sec.sel) else none

/-- The standby slot (R508). -/
def standbySlot (s : State) : Nat := 1 - s.get SECURITY_STAT_ACTSLOT

/-! ### Reset of the H-die's pages -/

/-- Registers of the H-die that keep their words: those of the F-die, those marked "porter", and through a restart those of R509.
(DESIGN CHOICE: log entry 29.) -/
def keepsWord (restart : Bool) (a : Nat) : Bool :=
  let p := pageOf a
  let o := offOf a
  isF p || (p == 0x20 && 0x040 ≤ o && o ≤ 0x05C) ||
    (restart && (p == 0x1C || (0x18 ≤ p && p ≤ 0x1B) || p == 0x05 || (p == 0x09 && (0x800 ≤ o || o == 0x040)) || (p == 0x03 && o == 0x040)))

/-- The LO/HI shadows that a reset of the H-die leaves: those of the F-die (R120), and through a restart those of TIME (R137, R509). -/
def keptShadows (restart : Bool) (s : State) : List ((Nat × Nat) × List Word) :=
  s.host.shadows.filter fun x => isF (pageOf x.1.2) || (restart && pageOf x.1.2 == 0x05)

/-- The levels of the H-die pages that have kept their flags are asserted again at the cleared controller (R87, R99). -/
def relevelPages (s : State) : State :=
  pageTypes.foldl (fun s t => if isF t.first then s else (List.range t.count).foldl (fun s i => relevelBasic (t.first + i) s) s) s

/-- Every H-die page returns to its reset values, but for the exceptions of R509 in a restart; the porter's mirrors stay (R517).
(DESIGN CHOICE: log entry 29.) -/
def hPagesReset (restart : Bool) (s : State) : State :=
  let hmir := s.get LIFECYCLE_CNT_HMIR
  let wmir := s.get LIFECYCLE_CNT_WMIR
  let s1 : State := { s with
    regs := s.regs.filter fun p => keepsWord restart p.1
    host := if restart then { HostIf.reset with msixEn := s.host.msixEn, msixMask := s.host.msixMask, d3 := s.host.d3, mps := s.host.mps,
                                                mrrs := s.host.mrrs, aspm := s.host.aspm, aer := s.host.aer, shadows := keptShadows true s }
            else { HostIf.reset with shadows := keptShadows false s }
    wdog := { s.wdog with counting := false, pass := false }
    intc := Intc.reset
    jr := Journal.reset
    selv := Selv.reset
    clk := if restart then s.clk else Clk.reset
    s0 := S0St.reset
    panel := PanelSt.reset
    svc := SvcSt.reset
    safety := SafetySt.reset
    louv := if restart then s.louv else List.replicate 4 LouvSt.reset
    aux := if restart then s.aux else AuxSt.reset
    analog := AnalogSt.reset
    heat := { s.heat with conv := s.heat.conv.take 9 ++ List.replicate 6 [], has := s.heat.has.take 9 ++ List.replicate 6 false,
                          off := s.heat.off.take 9 ++ List.replicate 6 0, near := s.heat.near.take 9 ++ List.replicate 6 0,
                          entered := [s.heat.entered.getD 0 0, 0, 0], hard := [s.heat.hard.getD 0 false, false, false],
                          ntcAct := List.replicate 4 none, frames := 0 }
    sec := { s.sec with ownBuf := [], nonce := [], qItems := [], qFail := false, fwCheck := none, fwTarget := 0, stbySvn := 0, tasks := [],
                        job := none, ir := 1, challenge := none } }
  relevelPages (((s1.put LIFECYCLE_CNT_HMIR hmir).put LIFECYCLE_CNT_WMIR wmir).put PORTER_VMEAS_VSTO 0)

/-! ### The firmware's start -/

/-- The lifecycle page as the fuses give it (R497, Table 17-13). -/
def loadFuses (s : State) : State :=
  let f := s.sec.fuses
  let s1 := (((s.put LIFECYCLE_STAT_STATE (fuseState f)).putB LIFECYCLE_STAT_PARTIAL (partialTarget f != 0)).put
    LIFECYCLE_STAT_PTARGET (partialTarget f)).putB LIFECYCLE_STAT_OWNKEY (ownerSet f)
  let s2 := (((s1.put LIFECYCLE_CNT_HFW f.hfw).put LIFECYCLE_CNT_WFW f.wfw).putB SECURITY_STAT_KEY s.sec.key).putB
    SECURITY_STAT_OWNCERT (0 < (s.sec.certs.getD 2 (0, [])).1)
  s2.put LIFECYCLE_PLLPROF_D0_D2 (if f.pllValid then f.pll.toNat else s2.get LIFECYCLE_PLLPROF_D0_D2)

/-- A fresh random nonce (R499): free words.
(DESIGN CHOICE: log entry 3.) -/
def drawNonce (s : State) : State :=
  (List.range 8).foldl (fun s i => let (w, s1) := freeWord s; s1.put (LIFECYCLE_LCNONCE_N i) w.toNat) s

/-- A mismatch of fuses and mirror (R515): event 0x0003 of source 128 and retained entry 0x000A. -/
def mirrorMismatch (what : Nat) (s : State) : State := retain 0xA what (raiseH 128 3 what (setEvt 0x006 4 s))

/-- The ROM compares the fuses with the porter's mirror (R515). -/
def compareMirror (s : State) : State :=
  let f := s.sec.fuses
  let s1 := if fuseState f = s.porter.lcMirror then s else mirrorMismatch 0 { s with porter.lcMirror := fuseState f }
  let s2 := if f.hfw < s1.get LIFECYCLE_CNT_HMIR then mirrorMismatch 1 s1 else s1.put LIFECYCLE_CNT_HMIR f.hfw
  if f.wfw < s2.get LIFECYCLE_CNT_WMIR then mirrorMismatch 2 s2 else s2.put LIFECYCLE_CNT_WMIR f.wfw

/-- The sealed record is loaded, or the values of R453 stand (R463, Tables 15-7 and 15-13).
(DEDUCED: log entry 145.) -/
def loadRecord (s : State) : State :=
  let r := recordAt s
  if !recordOk s r then s
  else
    let s := { s with sec.recHash := hashWords r.bytes }
    let mon := 1 + (if r.sealw.testBit 4 then 6 else 0) + (if r.sealw.testBit 5 then 24 else 0)
    let s1 := ((s.put SAFETY_STAT_RECORD 1).put SEAL_STAT_RECORD 1).put SAFETY_CFG_MON mon
    let s2 := ((s1.putB SAFETY_CFG_RSTBTN (r.sealw.testBit 6)).put SAFETY_CFG_TPPER r.tpper).put SAFETY_CFG_TPW r.tpw
    let s3 := (List.range 5).foldl (fun s i => s.put (SAFETY_DISC_DISC i) (r.disc.getD i 0)) s2
    ((s3.put SEAL_REC_SEALW r.sealw).put SEAL_REC_SEALM r.sealm).put SEAL_REC_REGION (r.sealw % 16)

/-- Monitored inputs start in DEMAND, without an event (R455). -/
def startInputs (s : State) : State :=
  (List.range 5).foldl (fun s i => s.put (inputFld i) (if monitored s i then 1 else 3)) s

/-- `DEVICE.MODE` on the H-die takes the twin mode and the unit number that the F-die has (Table 3-25); while the link is down it waits
for the link-up.
(DESIGN CHOICE: log entry 135.) -/
def shareMode (s : State) : State :=
  if s.link.up then (s.putB DEVICE_MODE_TWIN (s.weave.mode.testBit 0)).putB DEVICE_MODE_UNIT (s.weave.mode.testBit 1) else s

/-- The F-die takes the twin mode, the unit number and F_NOM of its first verified image (Tables 3-25, 4-15), and the H-die learns the
mode. -/
def loadMode (i : Image) (s : State) : State :=
  shareMode (if s.weave.mode.testBit 2 then s
             else { s.putB WARP_FNOM_F60 i.f60 with weave.mode := 4 + bit i.twin + 2 * bit (i.twin && i.unit) })

/-- The firmware of a slot runs; the hash of the running firmware is that of all its bytes.
(DEDUCED: log entry 145.) -/
def hRun (restarted : Bool) (slot : Nat) (s : State) : State :=
  let fw := firmwareAt s slot
  let s1 := { s with pwr := { s.pwr with h := .run, restarting := false },
                     sec := { s.sec with svn := fw.svn, fwHash := hashWords (flashBytes s (slotBase slot) fw.len) },
                     wdog := { s.wdog with counting := true } }
  let s2 := ((s1.put SECURITY_STAT_RECOVERY 0).put SECURITY_STAT_ACTSLOT slot).put SECURITY_FWVER_VER fw.version
  let s3 := drawNonce (shareMode s2)
  let s4 := startInputs (loadRecord (if restarted then compareMirror s3 else s3))
  let s5 := { s4 with safety := { s4.safety with startTest := true } }.put SEAL_STAT_BUSY 1
  let n := s5.porter.down
  let unread := decide (s5.get PORTER_RJREAD_SEQ < s5.get PORTER_RJHEAD_SEQ)
  let s6 := if unread then setEvt 0x020 4 s5 else s5
  if 0 < n then raiseH 130 3 n { s6 with porter.down := 0 } else s6

/-- The firmware runs, or the ROM stays in recovery (R507, R520). After a restart the ROM compares the fuses with the mirror in either case
(R515); at an H-die reset it has done so at the release. -/
def hStart (s : State) : State :=
  let s0 := loadFuses s
  match bootSlot s0 with
  | none =>
    let s1 := if s.pwr.restarting then compareMirror s0 else s0
    { s1.put SECURITY_STAT_RECOVERY 1 with pwr := { s1.pwr with h := .boot, restarting := false } }
  | some slot => hRun s.pwr.restarting slot s0

end Sys2Proof.Machine
end

