-- ==== Sys2Proof/Machine/Edge.lean ====
section
/-! DEFINITION. Edges and cell modulation (R281–R307): the carrier counter, load points and carrier boundaries, duty records, the forming
of edges with dead time, minimum pulse and the extreme-duty modes, the command bursts that carry them, SYNC pins, and blanking arms. -/

namespace Sys2Proof.Machine

open Host (Outcome)

def cellEdge (s : State) (g : Nat) : CellEdge := s.edge.cells.getD g CellEdge.reset
def modEdge (g : Nat) (f : CellEdge → CellEdge) (s : State) : State := { s with edge.cells := s.edge.cells.modify g f }

/-- An event of the EDGE page with its flag (Table 9-6). -/
def edgeEvent70 (bitNo code data : Nat) (s : State) : State := raiseF 70 code data (setEvt 0x060 (2 ^ bitNo) s)

/-! ### The carrier (R281–R283) -/

/-- Fields of a latched `EDGE.CARRIER` and `EDGE.PULSE`. -/
def periodOf (w : Word) : Nat := bitsAt w.toNat 0 9
def alignOf (w : Word) : Bool := w.getLsbD 9
def dtOf (w : Word) : Nat := bitsAt w.toNat 0 9
def tminOf (w : Word) : Nat := bitsAt w.toNat 16 7
def xmodeOf (w : Word) : Nat := bitsAt w.toNat 24 2

/-- Length of the converter period that starts at pick B (R282): P, or up to 2P − 1 to bring the boundaries to multiples of P. -/
def convLen (s : State) (b : Nat) (car : Word) : Nat :=
  let p := periodOf car
  if p = 0 then 1
  else if alignOf car && 4096 % p = 0 && !s.flag SYNC_CTL_FOLLOW && b % p != 0 then 2 * p - b % p else p

/-- The registers as the GATE heddles have left them. -/
def carrierNow (s : State) : Word × Word := (s.raw EDGE_CARRIER_PERIOD.addr, s.raw EDGE_PULSE_DT.addr)

/-- `EDGE.CARRIER` and `EDGE.PULSE` of a phase: in effect, and from the coming boundary on. -/
def nowOf (s : State) (ph : Nat) : Word × Word := s.edge.now.getD ph (0, 0)
def comingOf (s : State) (ph : Nat) : Word × Word := s.edge.coming.getD ph (0, 0)

/-- The counter starts with the first image after reset or after a cold switch (R281, R288): the first boundary is the first pick whose
index is a multiple of P; the shadow reads 0. -/
def edgeStart (s : State) : State :=
  let c := carrierNow s
  let p := max 1 (periodOf c.1)
  let k := absPick s
  let i := k % 4096
  let nb := k - i + min ((i + p - 1) / p * p) 4096
  let s1 := { s with edge := { s.edge with nextB := nb, ext := 0, now := List.replicate 3 c, coming := List.replicate 3 c, loaded := [false, false, false], dts := [],
                                           cells := List.replicate 192 CellEdge.reset } }
  ((s1.put EDGE_STAT_RUN 1).put EDGE_STAT_PLEN p).put EDGE_STAT_CPC (p - (nb - k))

/-- A cold switch stops the counter until the new image starts (R148, R281). -/
def edgeStop (s : State) : State :=
  let s1 := { s with edge := { s.edge with loaded := [false, false, false], cells := List.replicate 192 CellEdge.reset } }
  ((s1.put EDGE_STAT_RUN 0).put EDGE_STAT_CPC 0).put EDGE_STAT_PLEN 0

/-- Whether a cell counts from the boundary whose load point is now (R22, R24, R299). -/
def countsNext (s : State) (g : Nat) : Bool :=
  let c := cellSt s g
  match cellState s g with
  | 3 => true
  | 4 => true
  | 7 => c.conf
  | 8 => c.counted && !c.conf
  | 6 => c.counted && c.lost && !c.gone
  | _ => false

/-- R30: the link setpoint of a phase of n cells: `V_LINK_SET`, or the lowest multiple of 10 V that passes R28; `none` when none does. -/
def linkSetpoint (m : ConvMap) (n : Nat) : Option Nat :=
  if headroom n m.vlink m.vll then some m.vlink
  else ((List.range 93).map (10 * ·)).find? fun v => m.vlink < v && v ≤ m.vraise && headroom n v m.vll

/-- Set the link setpoint of a phase: the ring command SEL 0x1 reaches every cell of the phase (R21, R30). -/
def putSetpoint (ph v : Nat) (s : State) : State :=
  if s.edge.setp.getD ph 0 = v then s
  else (phaseCells ph).foldl (fun s g => modCell g (fun c => { c with dl := { c.dl with vset := 20 * v } }) s)
    { s with edge.setp := s.edge.setp.set ph v }

/-- The setpoint of a phase follows its count `n`; a count that no setpoint serves is a converter fault where it `falls` (R30). -/
def followCount (ph n : Nat) (falls : Bool) (s : State) : State :=
  match convMap s with
  | none => s
  | some m => match linkSetpoint m n with
    | some v => putSetpoint ph v s
    | none => if falls then converterFault 5 s else s

/-- R30 at a load point at which the count of a phase changes from `old` to `n`. -/
def evalSetpoint (ph old n : Nat) (s : State) : State := if n = old then s else followCount ph n (decide (n < old)) s

/-- The cell switches its legs, or is about to with its bypass confirmed open. -/
def switching (s : State) (g : Nat) : Bool := cellState s g == 3 || cellState s g == 4 || (cellState s g == 7 && (cellSt s g).conf)

/-- The cells counted in a phase (R22). -/
def countedIn (s : State) (ph : Nat) : Nat := ((phaseCells ph).filter fun g => (cellSt s g).counted).length

/-- The field of `EDGE.COUNT` of a phase. -/
def countFld (ph : Nat) : Fld := if ph = 0 then EDGE_COUNT_NA else if ph = 1 then EDGE_COUNT_NB else EDGE_COUNT_NC

/-- A counted cell of rank k gets its next period, from a start edge on when it joins or its edges have stopped (R291), unless the period before would be shorter than 16 pk: then they merge, and the period before
runs on to the start that the following boundary gives (R284, R285).
(DESIGN CHOICE: log entry 39.) -/
def addPeriod (b len p n k g : Nat) (s : State) : State :=
  let start := b * 65536 + k * 65536 * p / (2 * n)
  modEdge g (fun e =>
    let joins := !(cellSt s g).counted || e.stopped
    let old := if joins then [] else e.periods
    let short := match old.head? with
      | some q => decide (start < q.start + 16 * 65536)
      | none => false
    if short then { e with periods := match e.periods with
      | q :: t => { q with len := start + len * 65536 - q.start } :: t
      | [] => [] }
    else { e with stopped := e.stopped && !switching s g
                  periods := ((⟨start, e.shL, e.shM, joins, none, (0, 0), (0, 0), len * 65536⟩ : Period) :: old).take 4 }) s

/-- Duties given from now on count toward the boundary after (R288). -/
def takeDuties (ph : Nat) (s : State) : State := (phaseCells ph).foldl (fun s g => modEdge g (fun e => { e with given := (false, false) }) s) s

/-- The load point of the coming boundary for one phase (R283): CARRIER and PULSE, the counted cells and their ranks, and the duties. -/
def loadPoint (ph : Nat) (s : State) : State :=
  if s.edge.loaded.getD ph false then s
  else
    let s1 : State := { s with edge.coming := s.edge.coming.set ph (carrierNow s) }
    let b := s1.edge.nextB
    let s2 := (phaseCells ph).foldl (fun s g => modCell g (fun c => { c with next := countsNext s g }) s)
      { s1 with edge.loaded := s1.edge.loaded.set ph true }
    let cs := (phaseCells ph).filter fun g => (cellSt s2 g).next
    let n := cs.length
    let car := (carrierNow s).1
    let s3 := (cs.zipIdx).foldl (fun s p => addPeriod b (convLen s b car + s.edge.ext) (periodOf car) n p.2 p.1 s) s2
    evalSetpoint ph (countedIn s ph) n ((takeDuties ph s3).put (countFld ph) n)

/-- The next converter period is lengthened by `n` picks: a cell whose load point has passed has its newest period lengthened with it (R285,
R303).
(DESIGN CHOICE: log entry 39.) -/
def setExt (n : Nat) (s : State) : State :=
  let one := fun (s : State) (g : Nat) =>
    if s.edge.loaded.getD (g / 64) false && (cellSt s g).next then
      modEdge g (fun e => { e with periods := match e.periods with
        | q :: t => { q with len := q.len + n * 65536 - s.edge.ext * 65536 } :: t
        | [] => [] }) s
    else s
  let s1 := (List.range 192).foldl one s
  { s1 with edge.ext := n }

/-! ### Carrier boundaries (R22, R299) -/

/-- A cell joins, leaves or stays at a boundary (Table 1-3c). A cell that has stopped and come back joins at a boundary whose load point follows
the confirmation (R299). -/
def boundaryCell (g : Nat) (s : State) : State :=
  let c := cellSt s g
  let st := cellState s g
  let s1 := if c.counted = c.next then s else modCell g (fun c => { c with counted := c.next }) s
  if st = 7 && c.next && !(cellEdge s g).stopped then setCellState g 3 s1
  else if st = 8 && c.counted && !c.next then setCellState g (if faultLatched s1 g then 6 else 5) s1
  else s1

/-- STANDBY cells enter, lowest global index first, while the phase is below its configured active count (R25). -/
def enterStandby (ph : Nat) (s : State) : State :=
  (phaseCells ph).foldl (fun s g => if cellState s g = 2 && belowCount s ph then enterCell g s else s) s

/-- The count of a phase changes at a boundary: event 0x0002. -/
def boundaryPhase (ph : Nat) (s : State) : State :=
  let s1 := (phaseCells ph).foldl (fun s g => boundaryCell g s) s
  let s2 := if countedIn s ph = countedIn s1 ph then s1 else edgeEvent70 1 2 (ph + 4 * countedIn s1 ph) s1
  enterStandby ph s2

/-- A pulse on SYNC_OUT (R300), in units of 0.1 µs. -/
def syncOut (width : Nat) (s : State) : State := (emit (.sync width) s).count SYNC_OUTCNT_COUNT

/-! ### Duty records and blanking arms (R286–R288, R305) -/

/-- An edge record is ignored: the register, the flag, and event 0x0004 at most once per cycle (R287). -/
def badRecord (c : Nat) (a : Word) (reason : Nat) (s : State) : State :=
  let g := a.toNat % 256
  let s1 := (((s.put EDGE_RECERR_CELL g).put EDGE_RECERR_REASON reason).put EDGE_RECERR_CLUSTER c).count EDGE_RECERR_COUNT
  let s2 := setEvt 0x060 16 s1
  if s2.edge.badCycle = some (cycleOf s2) then s2
  else raiseF 70 4 (g + 256 * reason) { s2 with edge.badCycle := some (cycleOf s2) }

/-- Threads since warp 0, `lc` loom clocks into the pick. -/
def threadsAt (s : State) (lc : Nat) : Nat := (s.warp.acc.toNat + lc * s.get WARP_INC_INC) / 2 ^ 28

/-- The bit of a blanking timer in `BLANK.STAT`. -/
def blankOpen (t : Nat) : Fld := ⟨BLANK_STAT_OPEN.addr, t, 1⟩
def blankPend (t : Nat) : Fld := ⟨BLANK_STAT_OPEN.addr, 8 + t, 1⟩

/-- R305: timer t is armed for a pick index and thread; an instant more than 256 pk ahead is ignored. -/
def blankArm (t pick th lc : Nat) (s : State) : State :=
  let now := threadsAt s lc
  let x := now / 2 ^ 28 * 2 ^ 28 + pick * 65536 + th
  let x := if x ≤ now then x + 2 ^ 28 else x
  if now + 256 * 65536 < x then raiseF 71 2 t (setEvt 0x061 1 (s.count BLANK_LATE_LATE))
  else
    let s1 := if (s.blank.pend.getD t none).isSome then setEvt 0x061 4 (s.count BLANK_LATE_REPL) else s
    { s1 with blank.pend := s1.blank.pend.set t (some x) }.put (blankPend t) 1

/-- An edge record commits at loom clock `lc` (R286–R288, R305). -/
def commitEdge (c lc : Nat) (a b : Word) (s : State) : State :=
  let n := a.toNat
  let kind := bitsAt n 12 4
  let g := n % 256
  if 1 < kind then badRecord c a 1 s
  else if kind = 1 then
    if bitsAt n 3 9 != 0 || bitsAt n 16 16 != 0 || bitsAt b.toNat 28 4 != 0 then badRecord c a 2 s
    else blankArm (n % 8) (bitsAt b.toNat 16 12) (b.toNat % 65536) lc s
  else if bitsAt n 9 3 != 0 || bitsAt n 16 16 != 0 then badRecord c a 2 s
  else if c = 3 then badRecord c a 3 s
  else if g / 64 != c then badRecord c a 4 s
  else if !populated s g then badRecord c a 5 s
  else
    let big := decide (0x80000000 < b.toNat)
    let d := if big then 0x80000000 else b.toNat
    let s1 := if big then setEvt 0x060 4 (s.count EDGE_SATCNT_COUNT) else s
    modEdge g (fun e => if n.testBit 8 then { e with shM := d, given := (e.given.1, true) } else { e with shL := d, given := (true, e.given.2) }) s1

/-! ### Forming edges (R289–R298) -/

/-- Threads that a time in loom clocks lasts, rounded up (R293). -/
def threadsUp (lc inc : Nat) : Nat := (lc * inc + 2 ^ 28 - 1) / 2 ^ 28

/-- `EDGE.PULSE` that governs pick j in a phase. -/
def pulseAt (s : State) (ph j : Nat) : Word := if s.edge.nextB ≤ j && s.edge.loaded.getD ph false then (comingOf s ph).2 else (nowOf s ph).2

/-- The INC that R293 converts with: the newest committed. -/
def incAhead (s : State) : Nat := s.warp.incNext.getD (s.get WARP_INC_INC)

def dtThreads (s : State) (ph j : Nat) : Nat := threadsUp (12 * dtOf (pulseAt s ph j)) (incAhead s)
def tminThreads (s : State) (ph j : Nat) : Nat := threadsUp (120 * tminOf (pulseAt s ph j)) (incAhead s)

/-- DT_th of a formed pick; one that does not fit its 16 bits skips the pick (R295). -/
def dtFormed (s : State) (ph j : Nat) : Nat := (s.edge.dts.lookup (ph, j)).getD 0

/-- A pick is skipped in some phase (R295). -/
def skipped (s : State) (j : Nat) : Bool := [0, 1, 2].any fun ph => decide (65535 < dtFormed s ph j)

/-- The figures of pick j are formed once for each phase (R290, R293, R295). -/
def formFigures (ph j : Nat) (s : State) : State :=
  if (s.edge.dts.lookup (ph, j)).isSome then s
  else
    let d := dtThreads s ph j
    let s1 := { s with edge.dts := (((ph, j), d) :: s.edge.dts).take 12 }
    let s2 := (s1.put EDGE_DTTH_DT (if 65535 < d then 0 else d)).put EDGE_TMINTH_TMIN (tminThreads s ph j)
    if skipped s j then s2 else if 65535 < d then edgeEvent70 3 3 (j % 4096) (s2.put EDGE_STAT_CEIL 1) else s2.put EDGE_STAT_CEIL 0

/-- The regions of Table 9-4. -/
inductive Region where
  | z | uShort | n | lShort | f
  deriving DecidableEq, Repr

/-- Rise and fall of a period under R289: rounded to the nearest thread, halves up; d in 2^-31. -/
def riseOf (start len d : Nat) : Nat := start + ((2 ^ 31 - d) * len + 2 ^ 31) / 2 ^ 32
def fallOf (start len d : Nat) : Nat := start + ((2 ^ 31 + d) * len + 2 ^ 31) / 2 ^ 32

/-- R296, R297. A width that rounds to 0 is taken as none. -/
def regionOf (len d w : Nat) : Region :=
  let r := riseOf 0 len d
  let f := fallOf 0 len d
  if d = 0 || f = r then .z
  else if d = 2 ^ 31 || min r (len - f) = 0 then .f
  else if f - r < w then .uShort
  else if min r (len - f) < w then .lShort
  else .n

/-- The carries of a leg after a period, and the period's CARRY decision (R298).
(DESIGN CHOICE: log entry 39.) (DESIGN CHOICE: log entry 41.) -/
def carryStep (len d w : Nat) (c : Nat × Nat) : (Nat × Nat) × (Nat × Nat) :=
  let r := riseOf 0 len d
  let f := fallOf 0 len d
  match regionOf len d w with
  | .uShort => let u := c.1 + (f - r); if w ≤ u then ((0, c.2), (1, u)) else ((u, c.2), (0, 0))
  | .lShort => let l := c.2 + r + (len - f); if 2 * w ≤ l then ((c.1, l - 2 * w), (2, w)) else ((c.1, l), (0, 0))
  | .n => ((0, 0), (0, 0))
  | _ => (c, (0, 0))

/-- The edges of one leg in one period, as (instant, level) (R289, R291, R297, R298). -/
def legEdges (start len d w mode : Nat) (first : Bool) (dec : Nat × Nat) : List (Nat × Bool) :=
  let upper := fun x : Nat => [(start + (len - x) / 2, true), (start + (len - x) / 2 + x, false)]
  let lower := [(start + w, true), (start + len - w, false)]
  let reg := regionOf len d w
  let body := match reg with
    | .n => [(riseOf start len d, true), (fallOf start len d, false)]
    | .uShort => if mode = 1 then upper w else if mode = 2 && dec.1 = 1 then upper dec.2 else []
    | .lShort => if mode = 1 then lower else if mode = 2 && dec.1 = 2 then lower else []
    | _ => []
  let high := reg == .f || (reg == .lShort && body.isEmpty)
  if first then (start, high) :: body else body

/-- Count what the mode does with a short period (Table 9-4). -/
def countRegion (len d w mode : Nat) (c : Nat × Nat) (dec : Nat × Nat) (s : State) : State :=
  let reg := regionOf len d w
  if reg == .uShort || reg == .lShort then
    if mode = 0 then s.count EDGE_XDROP_COUNT
    else if mode = 1 then s.count EDGE_XEXT_COUNT
    else if dec.1 = 0 then s.count EDGE_XCARRY_COUNT else s
  else if reg == .n && mode = 2 then s.addSat EDGE_XDISC_COUNT (bit (c.1 != 0) + bit (c.2 != 0))
  else s

/-- End of period i of a list that is newest first: the start of the next newer one, or start + length. -/
def periodLen (ps : List Period) (i : Nat) : Nat :=
  match ps[i]? with
  | none => 0
  | some p => if i = 0 then p.len else match ps[i - 1]? with
    | some q => q.start - p.start
    | none => p.len

/-- The pick that holds a period's start is formed: W, the mode and the CARRY decisions are fixed, and the period is counted.
(DESIGN CHOICE: log entry 39.) (DESIGN CHOICE: log entry 41.) -/
def fixPeriod (j g i : Nat) (s : State) : State :=
  let e := cellEdge s g
  match e.periods[i]? with
  | none => s
  | some p =>
    if p.fixed.isSome || j < p.start / 65536 then s
    else
      let w := dtThreads s (g / 64) j + tminThreads s (g / 64) j
      let mode := xmodeOf (pulseAt s (g / 64) j)
      let len := periodLen e.periods i
      let cl := if mode = 2 then carryStep len p.dL w e.carL else (e.carL, (0, 0))
      let cm := if mode = 2 then carryStep len p.dM w e.carM else (e.carM, (0, 0))
      let s1 := countRegion len p.dM w mode e.carM cm.2 (countRegion len p.dL w mode e.carL cl.2 s)
      modEdge g (fun e => { e with carL := cl.1, carM := cm.1,
                                   periods := e.periods.set i { p with fixed := some (w, mode), carryL := cl.2, carryM := cm.2 } }) s1

/-- Edges of pick j from the fixed periods of a cell, in ascending TH. -/
def edgesIn (j : Nat) (ps : List Period) : List Edge :=
  let one := fun (i : Nat) (p : Period) =>
    match p.fixed with
    | none => []
    | some (w, mode) =>
      let len := periodLen ps i
      let pick := fun (leg : Nat) (x : Nat × Bool) => if x.1 / 65536 = j then [(⟨leg, x.1 % 65536, x.2⟩ : Edge)] else []
      ((legEdges p.start len p.dL w mode p.first p.carryL).map (pick 0)).flatten ++
        ((legEdges p.start len p.dM w mode p.first p.carryM).map (pick 1)).flatten
  sortBy (fun a b => a.th ≤ b.th) ((ps.zipIdx).map fun p => one p.2 p.1).flatten

/-- Whether edges are formed for a cell in pick j (R291, R299). -/
def formsEdges (s : State) (g j : Nat) : Bool :=
  let st := cellState s g
  s.flag EDGE_STAT_RUN && (st == 3 || st == 4 || (st == 7 && (cellSt s g).next && !(cellEdge s g).stopped && s.edge.nextB ≤ j))

/-- The edges of pick j of a cell are formed once (R290).
(DESIGN CHOICE: log entry 39.) (DESIGN CHOICE: log entry 41.) -/
def formCell (j g : Nat) (s : State) : State :=
  if ((cellEdge s g).formed.lookup j).isSome then s
  else
    let keep := fun (es : List Edge) (s : State) => modEdge g (fun e => { e with formed := ((j, es) :: e.formed).take 8 }) s
    if !formsEdges s g j then
      keep [] (modEdge g (fun e => { e with carL := (0, 0), carM := (0, 0) }) s)
    else
      let s1 := fixPeriod j g 0 (fixPeriod j g 1 (fixPeriod j g 2 (fixPeriod j g 3 s)))
      keep (if 65535 < dtFormed s1 (g / 64) j then [] else edgesIn j (cellEdge s1 g).periods) s1

/-! ### The command burst (R157, R257–R262, R290) -/

/-- Table 8-6. -/
def edgeWord (j : Nat) (e : Edge) : Nat := e.th + 2 ^ 16 * (j % 4096) + 2 ^ 28 * bit e.level + 2 ^ 29

/-- Two edge words of a leg for pick j. -/
def legWords (s : State) (g leg j : Nat) : List Nat :=
  let es := (((cellEdge s g).formed.lookup j).getD []).filter (·.leg == leg)
  (List.range 2).map fun i => ((es[i]?).map (edgeWord j)).getD 0

/-- A trip latch of a comparator whose trips block stands: UNBLK is withheld (R397). -/
def tripLatched (s : State) : Bool := (List.range 16).any fun n => (s.get FCMP_STAT_LATCH).testBit n && s.get (FCMP_CFG_ACT n) == 2

/-- The command segment of a cell (Tables 8-5 and 8-6, R262): the image, with the forced fields. UNBLK stays 0 from the instant at which a
condition begins that sends tokens, as long as it lasts (R269). -/
def segmentOf (s : State) (l g k : Nat) : Segment :=
  let d := (cellSt s g).dl
  let f := blockForced s
  ⟨g, hopOf s g (l % 2), d.bypcmd + 4 * bit (d.block || f) + 8 * bit (d.unblk && !f && !blockDemand s && !tripLatched s) + 16, d.pxfer, d.inref, d.vset,
   legWords s g 0 (k + 2) ++ legWords s g 0 (k + 3), legWords s g 1 (k + 2) ++ legWords s g 1 (k + 3), swarp s⟩

/-- Whether a lane sends bursts: its enumeration waits for the first collect burst, or it is in service, FAILED or RETURNING, since a failed
direction comes back on intact END blocks (Table 8-10). In the idle plan only a direction that owns cells sends (R148).
(DEDUCED: log entry 127.) -/
def laneSends (s : State) (l : Nat) : Bool :=
  let st := s.get (RING_STAT_STATE l)
  (st == 3 || st == 4 || st == 5 || (ringDir s l).step == 6) &&
    (s.flag WEAVE_STAT_RUN || (phaseCells (l / 2)).any fun g => owns s l g)

/-- A command burst of pick k leaves at the first loom clock after the TX heddle; a collect burst that it has preempted resumes (R257). -/
def sendCommand (l k dt2 dt3 : Nat) (segs : List Segment) (s : State) : State :=
  let t := txLc s (l / 2)
  let bs := commandBlocks s l k dt2 dt3 segs
  let resume := if collecting (ringDir s l) t then [ctlBlock 0x55 2] else []
  let wait := leftBy t bs.length - pickLen s
  emit (.burst l dt2 dt3 segs (bs ++ resume))
    (beginBurst l 1 (k + bit (wait != 0)) (modRing l (fun d => { d with mgmt := d.mgmt.drop 1, wait := wait }) s))

/-- Management messages for the node of a cell: on a lane that sends the bursts of its picks each waits for the slot of a command burst, else it
leaves in a burst of its own (R259).
(DESIGN CHOICE: log entry 151.) -/
def sendMgmt (l g : Nat) (key : List Byte) (msgs : List Mgmt) (s : State) : State :=
  if laneSends s l then modRing l (fun d => { d with mgmt := d.mgmt ++ msgs.map fun m => (g, key, m) }) s
  else msgs.foldl (fun s m => emit (.mgmt l m (mgmtBlocks s l g key m)) (beginBurst l 1 (absPick s + 1) s)) s

/-- `COMMAND_BURST` (R257): the command burst of pick k leaves on a lane; the edges of pick k + 3 are formed with it,
for every cell of the phase: those that the other direction or a twin partner owns have the same ones (R277, R290).
(DEDUCED: log entry 127.) -/
def execCommandBurst (lane : Nat) (s : State) : Outcome State Fault Refusal :=
  run (fun s =>
    if !laneSends s lane then s
    else
      let k := absPick s
      let gs := (phaseCells (lane / 2)).filter fun g => owns s lane g
      let all := (phaseCells (lane / 2)).filter fun g => populated s g
      let s1 := if s.flag EDGE_STAT_RUN then all.foldl (fun s g => formCell (k + 3) g s) (formFigures (lane / 2) (k + 3) s) else s
      let dt := fun j => if 65535 < dtFormed s1 (lane / 2) j then 0 else dtFormed s1 (lane / 2) j
      sendCommand lane k (dt (k + 2)) (dt (k + 3)) (gs.map fun g => segmentOf s1 lane g k) s1) s

/-- Ring hardware ignores a committed ring command: event 0x0005 from the phase's a lane (R262). -/
def badCommand (c : Nat) (a : Word) (s : State) : State := raiseF (48 + 2 * min c 2) 5 (a.toNat % 256 + 256 * bitsAt a.toNat 8 4) s

/-- A ring command commits (R261, R262, Table 8-7). -/
def commitRing (c : Nat) (a b : Word) (s : State) : State :=
  let g := a.toNat % 256
  let sel := bitsAt a.toNat 8 4
  let n := b.toNat
  let bad := g / 64 != c || !populated s g || 2 < sel || bitsAt a.toNat 12 20 != 0 || (sel == 1 && n / 2 ^ 16 != 0) ||
    (sel == 2 && n / 2 ^ 4 != 0)
  if bad then badCommand (if g / 64 < 3 then g / 64 else c) a s
  else modCell g (fun x =>
    let d := x.dl
    { x with dl := if sel = 0 then { d with pxfer := n % 65536, inref := n / 65536 }
                   else if sel = 1 then { d with vset := n }
                   else { d with bypcmd := n % 4, block := n.testBit 2, unblk := n.testBit 3 } }) s

/-! ### SYNC_IN (R301–R304) -/

/-- The kind of a pulse by its width in ns: 1 carrier, 2 angle zero, 3 both; 0 = rejected. -/
def syncKind (ns : Nat) : Nat :=
  if 350 ≤ ns && ns ≤ 650 then 1 else if 850 ≤ ns && ns ≤ 1150 then 2 else if 1350 ≤ ns && ns ≤ 1650 then 3 else 0

/-- LOCKED changes: event 0x0001 (R304, Table 9-6). -/
def putSyncLock (b : Bool) (s : State) : State :=
  if s.flag SYNC_STAT_LOCKED = b then s else raiseF 72 1 (bit b) (setEvt 0x062 1 (s.putB SYNC_STAT_LOCKED b))

/-- The alignment of R303 at a carrier-bearing pulse whose leading edge lies at thread count x. -/
def syncFollow (x : Nat) (s : State) : State :=
  let p : Nat := periodOf (nowOf s 0).1
  if p = 0 || !s.flag EDGE_STAT_RUN then s
  else
    let b := absPick s - s.get EDGE_STAT_CPC
    let d : Int := (((x + 32768) / 65536 : Nat) : Int) - (b : Int)
    let c : Nat := (p - s.get SYNC_CTL_CAROFS % p) % p
    let e : Nat := ((d - (c : Int)) % (p : Int)).toNat
    let s1 := s.putI SYNC_STAT_ERR (if 2 * e < p then (e : Int) else (e : Int) - p)
    if e = 0 then
      let z := s1.syn.zeros + 1
      let s2 := { s1 with syn.zeros := z }
      if 4 ≤ z then putSyncLock true s2 else s2
    else putSyncLock false (setExt (min e (p / 4)) { s1 with syn.zeros := 0 })

/-- `SYNC_IN_PULSE` (R301–R304): a `high` or low pulse of a width in ns whose leading edge comes `lc` loom clocks into the pick; the fixed input
delay is 15 ns, 18 loom clocks. With the other polarity set the level between two pulses is none.
(DESIGN CHOICE: log entry 42.) -/
def execSyncInPulse (high : Bool) (ns lc : Nat) (s : State) : Outcome State Fault Refusal :=
  run (fun s =>
    if high == s.flag SYNC_CTL_INPOL then s else
    let x := accBefore lc 18 s / 2 ^ 28
    let k := syncKind ns
    let close := match s.syn.lastAt with
      | some l => decide (x < l + 8 * 65536) && !(k == 2 && s.get SYNC_STAT_LAST == 1)
      | none => false
    if k = 0 || close then setEvt 0x062 2 (s.count SYNC_INCNT_REJ)
    else
      let s1 := { s with syn.lastAt := some x }
      let s2 := ((s1.count SYNC_INCNT_ACC).put SYNC_STAT_LAST k).put SYNC_STAT_INSEEN 1
      let a : Nat := x % 2 ^ 28
      let s3 := if 2 ≤ k then s2.putI SYNC_SKEW_SKEW (if a < 2 ^ 27 then (a : Int) else (a : Int) - 2 ^ 28) else s2
      if k % 2 = 1 && s3.flag SYNC_CTL_FOLLOW then syncFollow x s3 else s3) s

/-- `SYNC_LOST` (R304): no valid pulse for 2 cycles; while following, the lock is lost.
(DESIGN CHOICE: log entry 42.) -/
def execSyncLost (s : State) : Outcome State Fault Refusal :=
  run (fun s =>
    let quiet := match s.syn.lastAt with
      | some l => decide (l + 2 * 2 ^ 28 ≤ threadsAt s 0)
      | none => true
    if !quiet then s
    else
      let s1 := s.put SYNC_STAT_INSEEN 0
      if s1.flag SYNC_CTL_FOLLOW && (s1.flag SYNC_STAT_LOCKED || s.flag SYNC_STAT_INSEEN) then
        raiseF 72 2 0 (setEvt 0x062 4 (putSyncLock false { s1 with syn.zeros := 0 }))
      else s1) s

end Sys2Proof.Machine
end

