-- ==== Sys2Proof/Machine/Ring.lean ====
section
/-! DEFINITION. The cell ring (R251–R275): lanes and their states (Table 8-10), ownership and its changes, enumeration (Tables 8-12 and
8-13), the reduction of collect bursts (R273, Table 8-11), and ZC-12 updates (R530). Lanes 0–5 are A_a, A_b, B_a, B_b, C_a, C_b. -/

namespace Sys2Proof.Machine

open Host (Outcome)

/-- The other direction of the phase. -/
def otherLane (l : Nat) : Nat := if l % 2 = 0 then l + 1 else l - 1

/-- A lane's state changes: its page, flag and event 0x0001 (Tables 8-16, 8-17, 8-23). -/
def setLaneState (l st : Nat) (s : State) : State :=
  let old := s.get (RING_STAT_STATE l)
  if old = st then s
  else raiseF (48 + l) 1 (st + 8 * old) (setEvt (0x58 + l) 1 ((s.put (RING_STAT_STATE l) st).put (RING_LASTW_SWARP l) (swarp s).toNat))

/-- The unit terminates the lane: every cell lane of a single unit; the a lanes of unit 0 and the b lanes of unit 1 of a twin (R270). -/
def terminates (s : State) (l : Nat) : Bool :=
  match s.weave.img with
  | some i => !i.twin || 6 ≤ l || l % 2 == bit i.unit
  | none => !s.weave.mode.testBit 0 || 6 ≤ l || l % 2 == bit (s.weave.mode.testBit 1)

/-- This unit joins a running partner, in TRANSFER or PROBATION (Table 8-15). -/
def joining (s : State) : Bool := s.twin.joiner && (s.get (RING_TWSTAT_STATE 6) == 3 || s.get (RING_TWSTAT_STATE 6) == 4)

/-- A direction is in service, here or at the twin partner, whose directions serve but for those whose failure it has announced. -/
def laneServes (s : State) (l : Nat) : Bool :=
  if terminates s l then s.get (RING_STAT_STATE l) == 3 || (ringDir s l).step == 6
  else (s.get (RING_TWSTAT_STATE 6) == 5 || joining s) && !s.twin.out.contains (l / 2)

/-- A direction has failed, here or at the twin partner. -/
def laneFailed (s : State) (l : Nat) : Bool := s.get (RING_STAT_STATE l) == 4 || (!terminates s l && s.twin.out.contains (l / 2))

/-! ### Ownership (R270) -/

/-- The owner of a position by default: direction a has 0–31, b 32–63, when both serve; else the one that serves; 2 = none. -/
def defaultOwner (s : State) (g : Nat) : Nat :=
  let ph := g / 64
  let a := laneServes s (2 * ph)
  let b := laneServes s (2 * ph + 1)
  if a && b then (if g % 64 < 32 then 0 else 1) else if a then 0 else if b then 1 else 2

/-- Write the ownership map of a phase from a choice of owners. -/
def putOwners (ph : Nat) (owner : Nat → Nat) (s : State) : State :=
  let gs := (phaseCells ph).filter fun g => populated s g
  let mask := fun d : Nat => gs.foldl (fun (m : Nat) g => if owner g = d then m + 2 ^ (g % 64) else m) 0
  let one := fun (d : Nat) (s : State) =>
    let l := 2 * ph + d
    ((s.put (RING_OWN_LO_OWN l) (mask d % 2 ^ 32)).put (RING_OWN_HI_OWN l) (mask d / 2 ^ 32)).put (RING_STAT_OWNED l)
      (gs.filter fun g => owner g == d).length
  gs.foldl (fun s g => if owner g < 2 then s.put (CELL_STATE_DIR g) (owner g) else s) (one 1 (one 0 s))

/-- The owner of a cell now; 2 = none. -/
def ownerNow (s : State) (g : Nat) : Nat :=
  if owns s (2 * (g / 64)) g then 0 else if owns s (2 * (g / 64) + 1) g then 1 else 2

/-- The owner of a cell at the coming pick boundary. -/
def ownerThen (s : State) (g : Nat) : Nat :=
  match (cellSt s g).ownNext with
  | some (o, 1) => o
  | _ => ownerNow s g

/-- The owner of a cell once what has been decided is done. -/
def ownerAtLast (s : State) (g : Nat) : Nat := (((cellSt s g).ownNext).map (·.1)).getD (ownerNow s g)

/-- A pick boundary makes the changes of ownership that are due effective, and the others come one boundary nearer. -/
def applyOwners (s : State) : State :=
  [0, 1, 2].foldl (fun s ph =>
    if (phaseCells ph).any fun g => (cellSt s g).ownNext.isSome then
      let s1 := putOwners ph (ownerThen s) s
      (phaseCells ph).foldl (fun s g => modCell g (fun c => { c with ownNext := match c.ownNext with
        | some (o, n + 2) => some (o, n + 1)
        | _ => none }) s) s1
    else s) s

/-- A change of owner is decided for a cell, `n` pick boundaries ahead. -/
def decideOwner (n o g : Nat) (s : State) : State := if populated s g then modCell g (fun c => { c with ownNext := some (o, n) }) s else s

/-- Every cell of a phase takes the owner that `o` names. -/
def decideOwners (n ph : Nat) (o : Nat → Nat) (s : State) : State := (phaseCells ph).foldl (fun s g => decideOwner n (o g) g s) s

/-- A twin link with a partner that follows this unit's picks (Table 8-15). -/
def twinned (s : State) : Bool := 3 ≤ s.get (RING_TWSTAT_STATE 6) && s.get (RING_TWSTAT_STATE 6) ≤ 5

/-- Pick boundaries until a decided change takes effect: the next; in a twin the one after it, since the burst that announces it to the
partner ends in the pick that follows (R272, R276).
(DEDUCED: log entry 126.) -/
def ownDelay (s : State) : Nat := if twinned s then 2 else 1

/-- Every cell of a phase takes its default owner. -/
def defaultOwners (ph : Nat) (s : State) : State := decideOwners (ownDelay s) ph (defaultOwner s) s

/-- A direction enters service at the end of its enumeration: its default cells are its own, but in a unit that has joined the partner keeps
every cell until the direction has served for 64 cycles (Table 8-15).
(DEDUCED: log entry 126.) -/
def takeDefault (ph : Nat) (s : State) : State := if s.twin.joiner then s else defaultOwners ph s

/-- A change of ownership is raised on source 56 and counted on both lanes (R272, R280), and announced to a twin partner. -/
def ownEvent (g ph dir : Nat) (back : Bool) (s : State) : State :=
  let one := fun (l : Nat) (s : State) => setEvt (0x58 + l) 2 (s.count (RING_FAILCNT_MOVES l))
  let s1 := { s with twin.change := s.twin.change ++ [⟨g, ph, dir, back⟩] }
  raiseF 56 1 (g + 256 * ph + 1024 * dir + 2048 * bit back) (one (2 * ph + 1) (one (2 * ph) s1))

/-! ### Failure and return of a direction (Table 8-10) -/

/-- A direction takes what the other one leaves: it has not failed itself (R270, R271); at a twin partner it serves. -/
def laneTakes (s : State) (l : Nat) : Bool := if terminates s l then !laneFailed s l else laneServes s l

/-- A direction leaves service: the other takes every cell; with both FAILED every node of the phase is lost (R271). -/
def failLane (l : Nat) (s : State) : State :=
  let s1 := setLaneState l 4 ((modRing l (fun d => { d with step := 0, good := 0 }) s).count (RING_FAILCNT_FAIL l))
  let ph := l / 2
  if laneTakes s1 (otherLane l) then
    ownEvent 0xFF ph (1 - l % 2) false (decideOwners (ownDelay s1) ph (fun _ => 1 - l % 2) s1)
  else (phaseCells ph).foldl (fun s g => nodeLost g l s) s1

/-- `DIRECTION_FAIL` (R270): no intact END block by lc 4,184 of the next pick. -/
def execDirectionFail (lane : Nat) (s : State) : Outcome State Fault Refusal :=
  run (fun s => if lane < 6 && s.get (RING_STAT_STATE lane) = 3 then failLane lane (s.put (RING_STAT_RXOK lane) 0) else s) s

/-- The receiver of a lane loses lock (R270). -/
def receiverLoss (lane : Nat) (s : State) : State :=
  let s1 := modRing lane (fun d => { d with good := 0 }) (s.put (RING_STAT_LOCK lane) 0)
  if lane < 6 && s.get (RING_STAT_STATE lane) = 3 then failLane lane s1 else s1

/-- `DIRECTION_RETURNING` (R270): locked and intact for 262,144 consecutive picks. -/
def execDirectionReturning (lane : Nat) (s : State) : Outcome State Fault Refusal :=
  run (fun s =>
    if lane < 6 && s.get (RING_STAT_STATE lane) = 4 && s.flag (RING_STAT_LOCK lane) && 262144 ≤ (ringDir s lane).good
        && !s.flag (RING_CTL_FORCEOUT lane) then setLaneState lane 5 s else s) s

/-- The direction of a position by default when both serve (R270). -/
def homeDir (g : Nat) : Nat := if g % 64 < 32 then 0 else 1

/-- A direction has a default cell that it does not own and that is not decided to come to it. -/
def lacksDefault (s : State) (l : Nat) : Bool :=
  (phaseCells (l / 2)).any fun g => populated s g && homeDir g == l % 2 && ownerAtLast s g != l % 2

/-- The cells of a phase return to their default owners at loom clock 0 of pick 0: at this boundary, or in a twin, where the partner first
hears of it, at the next cycle boundary (R270, R272).
(DEDUCED: log entry 126.) -/
def returnOwners (ph : Nat) (s : State) : State :=
  if twinned s then decideOwners 4096 ph (defaultOwner s) s
  else putOwners ph (defaultOwner s) ((phaseCells ph).foldl (fun s g => modCell g (fun c => { c with ownNext := none }) s) s)

/-- `DEFAULT_OWNERSHIP_RETURN` (R270, Table 8-15): at a cycle boundary a returning direction whose nodes are all keyed takes back its
default cells; so does a joined twin's direction that has served for 64 cycles. With the last of its directions a unit has joined.
(DEDUCED: log entry 126.) -/
def execDefaultOwnershipReturn (lane : Nat) (s : State) : Outcome State Fault Refusal :=
  run (fun s =>
    let st := s.get (RING_STAT_STATE lane)
    let back := st = 5 || (st = 3 && s.twin.joiner && s.get (RING_TWSTAT_STATE 6) = 5 && 262144 ≤ (ringDir s lane).good && lacksDefault s lane)
    if lane < 6 && back && pickOf s = 0 && s.flag (RING_STAT_KEYED lane) then
      let s1 := setLaneState lane 3 s
      let ph := lane / 2
      let s2 := returnOwners ph ((phaseCells ph).foldl (fun s g => modCell g (fun c => { c with miss := 0 }) s) s1)
      let left := (List.range 6).any fun l => terminates s2 l && lacksDefault s2 l
      ownEvent 0xFF ph (lane % 2) true { s2 with twin.joiner := s2.twin.joiner && left }
    else s) s

/-- The presence bit of a cell in a lane's last collect burst (R253, R263). -/
def presBit (s : State) (l g : Nat) : Bool :=
  let h := hopOf s g (l % 2) - 1
  if h < 32 then (s.raw (RING_PRES_LO_PRES l).addr).getLsbD h else (s.raw (RING_PRES_HI_PRES l).addr).getLsbD (h - 32)

/-- `CELL_OWNER_MOVE` (R270): a cell missing for 4 picks moves to the other direction, which shows its node. The unit that terminates the
direction that misses it decides (R272). -/
def execCellOwnerMove (g : Nat) (s : State) : Outcome State Fault Refusal :=
  run (fun s =>
    let o := ownerNow s g
    let l := 2 * (g / 64) + o
    if populated s g && o < 2 && terminates s l && 4 ≤ (cellSt s g).miss && laneServes s l && laneServes s (otherLane l) && presBit s (otherLane l) g then
      ownEvent g (g / 64) (1 - o) false (decideOwner (ownDelay s) (1 - o) g (modCell g (fun c => { c with miss := 0, good := 0 }) s))
    else s) s

/-- One cell returns to its default owner: as `returnOwners` does a phase (R270, R272).
(DEDUCED: log entry 126.) -/
def returnOwner (g d : Nat) (s : State) : State :=
  if twinned s then decideOwner 4096 d g s else putOwners (g / 64) (fun h => if h = g then d else ownerNow s h) s

/-- `CELL_DEFAULT_RETURN` (R270): at a cycle boundary, after 64 good cycles in its default direction. The unit that terminates that direction
decides (R272). -/
def execCellDefaultReturn (g : Nat) (s : State) : Outcome State Fault Refusal :=
  run (fun s =>
    let o := ownerNow s g
    let d := defaultOwner s g
    if populated s g && o < 2 && d < 2 && o != d && ownerAtLast s g != d && terminates s (2 * (g / 64) + d) && pickOf s = 0 && 262144 ≤ (cellSt s g).good then
      ownEvent g (g / 64) d true (returnOwner g d (modCell g (fun c => { c with miss := 0 }) s))
    else s) s

/-! ### Reduction (R264, R273, Table 8-11) -/

/-- The code of stream k (0 IL, 1 IM, 2 VDC, 3 VOUT) in a slot. -/
def slotOf (u : Uplink) (k j : Nat) : Int := u.streams.getD (64 * k + j) 0

def sumSlots (u : Uplink) (k : Nat) : Int := (List.range 64).foldl (fun (a : Int) j => a + slotOf u k j) 0
def minSlots (u : Uplink) (k : Nat) : Int := (List.range 64).foldl (fun (a : Int) j => min a (slotOf u k j)) (slotOf u k 0)
def maxSlots (u : Uplink) (k : Nat) : Int := (List.range 64).foldl (fun (a : Int) j => max a (slotOf u k j)) (slotOf u k 0)

/-- Sum of squared first differences of a stream's codes, over 63 differences. -/
def roughness (u : Uplink) (k : Nat) : Nat :=
  (List.range 63).foldl (fun (a : Nat) j => a + ((slotOf u k (j + 1) - slotOf u k j) ^ 2).toNat) 0

/-- Slots where |ΔVDC| exceeds the arc threshold. -/
def spikes (u : Uplink) (thr : Nat) : Nat :=
  ((List.range 63).filter fun j => decide (thr < (slotOf u 2 (j + 1) - slotOf u 2 j).natAbs)).length

def q31 (x : Int) : Word := BitVec.ofInt 32 (x * 2 ^ 20)

/-- Words of edge e: the leg's current in slot s − 1 and VOUT in slot s + 1; before slot 0 stands slot 63 of the previous pick. -/
def edgeSnap (u : Uplink) (last : Int × Int) (e : Edge) : List Word :=
  let t := e.th / 1024
  let cur := if t = 0 then (if e.leg = 0 then last.1 else last.2) else slotOf u e.leg (t - 1)
  [q31 cur, q31 (slotOf u 3 (min 63 (t + 1)))]

/-- The block of a segment (Table 8-11); `leak` is word 36. -/
def reduceWords (u : Uplink) (k dir : Nat) (es : List Edge) (last : Int × Int) (thr : Nat) (leak : Word) : List Word :=
  let snaps := ((es.take 8).map (edgeSnap u last)).flatten
  [word (u.flags % 256 + 256 * (u.cause % 256) + 2 ^ 16 * (k % 4096) + 2 ^ 31 * dir),
   word (u.tmax % 256 + 256 * (u.tbat % 256) + 2 ^ 16 * (u.soc % 256)), word (u.vpri % 65536 + 65536 * (u.vin % 65536)),
   word (u.iin % 65536 + 65536 * (u.pxm % 65536)), word (u.limchg % 65536 + 65536 * (u.limdis % 65536)),
   word (u.dlseq % 65536 + 65536 * (min 8 es.length)), 0, 0] ++
  (List.range 4).map (fun i => BitVec.ofInt 32 (sumSlots u i * 2 ^ 14)) ++ (List.range 4).map (fun i => q31 (minSlots u i)) ++
  (List.range 4).map (fun i => q31 (maxSlots u i)) ++ snaps ++ List.replicate (16 - snaps.length) 0 ++
  [leak, word (roughness u 2), word (roughness u 0), word (spikes u thr), word (u.lc % 65536)] ++ List.replicate 23 0

/-- LEAK, the mean of IL + IM in Q1.31; a sum outside the format is a free value (log entry 45). -/
def leakWord (u : Uplink) (s : State) : Word × State :=
  let x := (sumSlots u 0 + sumSlots u 1) * 2 ^ 14
  if -(2 ^ 31 : Int) ≤ x && x < (2 ^ 31 : Int) then (BitVec.ofInt 32 x, s) else freeWord s

/-- An authentic segment of pick k is reduced (R273). -/
def reduceSegment (l k : Nat) (u : Uplink) (s : State) : State :=
  let g := u.cell
  let c := cellSt s g
  let es := ((cellEdge s g).formed.lookup k).getD []
  let thr := ((convMap s).map (·.arcThr)).getD 0
  let (lk, s1) := leakWord u s
  let r : Reduced := ⟨k, u.lc, reduceWords u k (l % 2) es c.last63 thr lk⟩
  modCell g (fun c => { c with red := (r :: c.red).take 2, authBad := false, last63 := (slotOf u 0 63, slotOf u 1 63) }) s1

/-- A segment that fails authentication (R267): counted, and raised once per cycle and lane. -/
def authError (l g : Nat) (s : State) : State :=
  let s1 := setEvt (0x58 + l) 8 ((modCell g (fun c => { c with authBad := true }) s).count (RING_AUTHERR_COUNT l))
  if (ringDir s1 l).authCycle = some (cycleOf s1) then s1
  else raiseF (48 + l) 6 g (modRing l (fun d => { d with authCycle := some (cycleOf s1) }) s1)

/-- A reduced block of the partner is taken (R276, R277). -/
def takeBlock (k g lc : Nat) (ws : List Word) (s : State) : State :=
  modCell g (fun c => { c with red := ((⟨k, lc, ws⟩ : Reduced) :: c.red).take 2, authBad := false }) s

/-- What returned for an owned cell of pick k is taken in; whether its segment was there and authentic. -/
def takeSegment (l k g : Nat) (r : Returned) (s : State) : State × Bool :=
  match r with
  | .none => (s, false)
  | .block lc ws => (takeBlock k g lc ws s, true)
  | .raw lc bs =>
    match openSeg s l g k lc bs with
    | some u => (reduceSegment l k u s, true)
    | none => (authError l g s, false)

/-- A node's presence in its default direction is counted there, while that direction does not own it (R270).
(DESIGN CHOICE: log entry 152.) -/
def countGood (l g : Nat) (ok : Bool) (s : State) : State :=
  if homeDir g = l % 2 then modCell g (fun c => { c with good := if ok then c.good + 1 else 0 }) s else s

/-- What a collect burst says of a cell that its lane did not own in the burst's pick: its presence. -/
def collectOther (l g : Nat) (b : CollectBurst) (s : State) : State :=
  if !populated s g || cellState s g = 1 then s else countGood l g (b.pres.testBit (hopOf s g (l % 2) - 1)) s

/-- What a collect burst says of a cell that its lane owned in the burst's pick: its segment, its presence, and whether its node is lost from
both directions. -/
def collectCell (l g : Nat) (b : CollectBurst) (r : Returned) (s : State) : State :=
  if !populated s g || cellState s g = 1 then s
  else
    let (s1, auth) := takeSegment l b.pick g r s
    let ok := auth && b.pres.testBit (hopOf s g (l % 2) - 1)
    let s2 := modCell g (fun c => { c with miss := if ok then 0 else c.miss + 1, lost := c.lost && !ok }) (countGood l g ok s1)
    if 4 ≤ (cellSt s2 g).miss && !(laneServes s2 (otherLane l) && presBit s2 (otherLane l) g) then nodeLost g l s2 else s2

/-- The segments of a collect burst by the ownership of its pick (R270). -/
def collectCells (l : Nat) (b : CollectBurst) (s : State) : State :=
  let own := maskCells l (maskAt s l b.pick)
  let s1 := (own.zipIdx).foldl (fun s p => collectCell l p.1 b (b.segs.getD p.2 .none) s) s
  ((phaseCells (l / 2)).filter fun g => !own.contains g).foldl (fun s g => collectOther l g b s) s1

/-- Found and keyed cells leave ABSENT (Table 1-3c). -/
def leaveAbsent (g : Nat) (s : State) : State :=
  if cellState s g != 1 then s
  else if (cellMap s g).spare || !belowCount s (g / 64) then setCellState g 2 (bypassCommand g 1 s)
  else enterCell g s

/-- The cells that a lane has keyed and configured. -/
def keyedCells (s : State) (l : Nat) : List Nat :=
  ((ringDir s l).conf.map fun h => s.get (RING_HOP2_CELL l (h - 1))).filter (· < 192)

/-- The presence bits of a returned burst, on the page and in the hop table. -/
def putPresence (l pres : Nat) (s : State) : State :=
  let s1 := ((s.put (RING_PRES_LO_PRES l) (pres % 2 ^ 32)).put (RING_PRES_HI_PRES l) (pres / 2 ^ 32)).put (RING_STAT_PRESENT l)
    ((List.range 64).filter fun i => pres.testBit i).length
  (List.range (s.get (RING_ENUMSTAT_FOUND l))).foldl (fun s i => s.putB (RING_HOP2_PRES l i) (pres.testBit i)) s1

/-- The warden runs. -/
def wardenRuns (s : State) : Bool := s.get WARDEN_STAT_STATE == 1

/-- Codewords of a burst that the receiver corrected or could not correct (R252).
(DESIGN CHOICE: log entry 154.) -/
def countFec (l cor unc : Nat) (s : State) : State := (s.addSat (RING_FECCOR_COUNT l) cor).addSat (RING_FECUNC_COUNT l) unc

/-- A collect burst returns on a lane, here or at the twin partner (R273, R276). The first ends the enumeration, which is the warden's work
(R238, Table 8-12). -/
def collectReturn (lane : Nat) (b : CollectBurst) (s : State) : State :=
  let s1 := putPresence lane b.pres ((countFec lane b.cor b.unc s).putB (RING_STAT_RXOK lane) b.endOk)
  let s2 := modRing lane (fun d => { d with good := if b.endOk && s.flag (RING_STAT_LOCK lane) then d.good + 1 else 0 }) s1
  let s3 :=
    if (ringDir s2 lane).step = 6 && b.endOk && wardenRuns s2 then
      let s3 := setLaneState lane 3 (modRing lane (fun d => { d with step := 0 }) s2)
      takeDefault (lane / 2) ((sortBy (fun a b => decide (a ≤ b)) (keyedCells s3 lane)).foldl (fun s g => leaveAbsent g s) s3)
    else s2
  collectCells lane b s3

/-! ### Enumeration (Tables 8-12 and 8-13, R265, R523) -/

/-- An image runs, or is being taken over from a partner: steps 3–6 may go on (R523, Table 8-15). -/
def imageRuns (s : State) : Bool := (s.flag WEAVE_STAT_RUN || joining s) && s.weave.img.isSome

/-- The enumeration of a lane ends with a result: 1 done, 2 mismatch, 3 refused (Table 8-23). -/
def enumResult (l res ms : Nat) (s : State) : State :=
  raiseF (48 + l) 3 (res + 4 * s.get (RING_ENUMSTAT_FOUND l)) (setEvt (0x58 + l) 16
    ((s.put (RING_ENUMSTAT_RESULT l) res).put (RING_ENUMSTAT_MS l) (min ms 0xFFFF)))

/-- Step 1 or 3 refuses the direction: reason 0x5. What it still owned goes to the other direction (R270); when that is FAILED too, every node
of the phase is lost (R271). -/
def enumRefuse (l ms : Nat) (s : State) : State :=
  let s1 := enumResult l 3 ms (raiseF (48 + l) 4 (0xFF + 256 * 5) s)
  let s2 := setLaneState l 4 ((modRing l (fun d => { d with step := 0, good := 0 }) s1).count (RING_FAILCNT_FAIL l))
  if s2.get (RING_STAT_OWNED l) != 0 && laneTakes s2 (otherLane l) then
    ownEvent 0xFF (l / 2) (1 - l % 2) false (decideOwners (ownDelay s2) (l / 2) (fun _ => 1 - l % 2) s2)
  else if laneFailed s2 (otherLane l) then (phaseCells (l / 2)).foldl (fun s g => nodeLost g l s) s2
  else s2

/-- The populated position of a rank in a phase. -/
def cellOfRank (s : State) (ph r : Nat) : Nat := (((phaseCells ph).filter fun g => populated s g)[r]?).getD 0xFF

/-- Step 6: the bursts start; the direction's cells are its own unless the other serves. -/
def startBursts (l ms : Nat) (s : State) : State :=
  let found := s.get (RING_ENUMSTAT_FOUND l)
  let all := (List.range found).all fun i => s.flag (RING_HOP2_KEYED l i)
  let mism := (List.range found).any fun i => !s.flag (RING_HOP2_KEYED l i)
  let s1 := enumResult l (if mism then 2 else 1) ms (s.putB (RING_STAT_KEYED l) all)
  let s2 := modRing l (fun d => { d with step := 6 }) s1
  if laneServes s2 (otherLane l) then s2 else defaultOwners (l / 2) s2

/-- Steps 4 and 5 are over when every found hop has been tried and every keyed one has acknowledged its configuration or has not answered. -/
def enumFinish (l ms : Nat) (s : State) : State :=
  let d := ringDir s l
  let found := s.get (RING_ENUMSTAT_FOUND l)
  if d.step = 4 && (List.range found).all (fun i => d.tried.contains (i + 1) && (!s.flag (RING_HOP2_KEYED l i) || d.conf.contains (i + 1) || d.mute.contains (i + 1)))
  then startBursts l ms s else s

/-- Step 3 (R254): counts, fibre, and the mapping of hops to positions; it needs an image and the warden. -/
def enumCompare (l ms : Nat) (s : State) : State :=
  if (ringDir s l).step != 3 || !imageRuns s || !wardenRuns s || !terminates s l then s
  else
    let ph := l / 2
    let npop := ((phaseCells ph).filter fun g => populated s g).length
    let found := s.get (RING_ENUMSTAT_FOUND l)
    if npop < found || 6000 < s.get (RING_LOOP_FIBRE l) then enumRefuse l ms s
    else
      let s1 := (List.range found).foldl (fun s i =>
        s.put (RING_HOP2_CELL l i) (cellOfRank s ph (if l % 2 = 0 then i else npop - 1 - i))) s
      enumFinish l ms (modRing l (fun d => { d with step := 4 }) s1)

/-- Enumeration goes on in every lane that waited for an image or the warden (R238, R523). -/
def enumAdvance (s : State) : State := (List.range 6).foldl (fun s l => enumCompare l 0 s) s

/-- The keys of a direction are discarded, with the flags that show them (R265). -/
def dropKeys (l : Nat) (s : State) : State :=
  let s1 := (phaseCells (l / 2)).foldl (fun s g => modCell g (fun c => { c with keys := c.keys.set (l % 2) [] }) s) (s.put (RING_STAT_KEYED l) 0)
  (List.range 64).foldl (fun s i => s.put (RING_HOP2_KEYED l i) 0) s1

/-- A lane starts step 1: keys of the direction are discarded (R265). -/
def startEnum (l : Nat) (s : State) : State :=
  setLaneState l 1 (dropKeys l (modRing l (fun d => { RingDir.reset with step := 1, own1 := d.own1, own2 := d.own2 }) s))

/-- `LANE_PLL_LOCK` (R523): the lane PLL gains lock and its lane starts training. -/
def execLanePllLock (lane : Nat) (s : State) : Outcome State Fault Refusal :=
  run (fun s =>
    if 8 ≤ lane then s
    else
      let s1 := (s.put ⟨CLOCK_SDLOCK_LANE.addr, lane, 1⟩ 1).putB (RING_STAT_TERM lane) (terminates s lane)
      if 6 ≤ lane then setLaneState lane 1 s1
      else if !terminates s1 lane then setLaneState lane 6 s1
      else if s1.get (RING_STAT_STATE lane) = 0 then startEnum lane s1
      else s1) s

/-- `LANE_TRAINED` (R523, Table 8-12): step 1 ends with lock, or is refused after 100 ms. A lane that had served keeps its state. -/
def execLaneTrained (lane : Nat) (ok : Bool) (ms : Nat) (s : State) : Outcome State Fault Refusal :=
  run (fun s =>
    if 6 ≤ lane then s
    else if (ringDir s lane).step = 1 then
      if ok then sendDiscover lane (setLaneState lane 2 (modRing lane (fun d => { d with step := 2 }) (s.put (RING_STAT_LOCK lane) 1)))
      else enumRefuse lane ms s
    else if ok then s.put (RING_STAT_LOCK lane) 1 else s) s

/-- Fill the hop table and the loop delay of a lane (Tables 8-20, 8-25). -/
def fillHops (l : Nat) (d : Discover) (s : State) : State :=
  let s1 := (((s.put (RING_STAT_HOPS l) d.hops.length).put (RING_ENUMSTAT_FOUND l) d.hops.length).put (RING_LOOP_TOTAL l) d.total).put
    (RING_LOOP_FIBRE l) d.fibre
  let one := fun (s : State) (i : Nat) =>
    let base := (RING_HOP0_SERLO l i).addr
    match d.hops[i]? with
    | none => (((s.setRaw base 0).setRaw (base + 4) 0).setRaw (base + 8) (resetWord (base + 8))).setRaw (base + 12) 0
    | some h =>
      (((s.put (RING_HOP0_SERLO l i) (h.serial % 2 ^ 32)).put (RING_HOP1_SERHI l i) (h.serial / 2 ^ 32)).setRaw (base + 8)
        (word (0xFF + 65536 * (h.fwd % 65536)))).setRaw (base + 12) (word (h.fib % 65536 + 2 ^ 16 * (h.fwv % 256) + 2 ^ 24 * (h.ty % 256)))
  (List.range 64).foldl one s1

/-- `DISCOVER_RETURN` (R263, Table 8-12 step 2): four agreeing bursts fill the hop table; four that disagree are repeated (log entry 46). -/
def execDiscoverReturn (lane : Nat) (d : Discover) (ms : Nat) (s : State) : Outcome State Fault Refusal :=
  run (fun s =>
    if 6 ≤ lane || (ringDir s lane).step != 2 then s
    else
      let d := { d with hops := d.hops.take 64 }
      let ds := d :: (ringDir s lane).disc
      let s1 := countFec lane d.cor d.unc s
      if ds.length < 4 then sendDiscover lane (modRing lane (fun r => { r with disc := ds }) s1)
      else if ds.all (fun x => x.hops == d.hops) then
        enumCompare lane ms (fillHops lane d (modRing lane (fun r => { r with disc := [], step := 3 }) s1))
      else sendDiscover lane (modRing lane (fun r => { r with disc := [] }) s1)) s

/-- An identity check fails (Table 8-13): event 0x0004. -/
def mismatch (l g reason : Nat) (s : State) : State := raiseF (48 + l) 4 (g + 256 * reason) s

/-- The serial number in a hop table entry. -/
def hopSerial (s : State) (l i : Nat) : Nat := s.get (RING_HOP0_SERLO l i) + 2 ^ 32 * s.get (RING_HOP1_SERHI l i)

/-- The first identity check of Table 8-13 that a node fails; 0 = none. `cert` tells whether its certificate chains. -/
def identity (s : State) (l i : Nat) (cert : Bool) : Nat :=
  let g := s.get (RING_HOP2_CELL l i)
  let o := otherLane l
  let twin := (List.range (s.get (RING_ENUMSTAT_FOUND o))).any fun j => s.get (RING_HOP2_CELL o j) == g && hopSerial s o j != hopSerial s l i
  let m := cellMap s g
  if twin then 1
  else if m.serial != 0 && m.serial != hopSerial s l i then 2
  else if s.get (RING_HOP3_TYPE l i) != m.ty then 3
  else if !cert then 4
  else 0

/-- The security core has issued the ring certificate (R492), before which no key agreement starts. -/
def ringCert (s : State) : Bool := (s.sec.certs.getD 3 (0, [])).1 != 0

/-- A serial that differs between the directions: both stay unkeyed and all cells ABSENT (Table 8-13). -/
def dropPhase (ph : Nat) (s : State) : State :=
  let one := fun (s : State) (l : Nat) => dropKeys l (modRing l (fun d => { d with bad := true, conf := [] }) s)
  (phaseCells ph).foldl (fun s g => if populated s g then setCellState g 1 s else s) ([2 * ph, 2 * ph + 1].foldl one s)

/-- A node holds a new key in a direction. -/
def takeKey (l i g : Nat) (key : List Byte) (s : State) : State :=
  modCell g (fun c => { c with keys := c.keys.set (l % 2) key, lost := false, gone := false }) (s.put (RING_HOP2_KEYED l i) 1)

/-- `NODE_KEYED` (R265, Table 8-12 step 4): key agreement with the node of a hop completes (`res` = 0) with its key, its certificate fails (1),
or it does not answer (2) and stays ABSENT. `msgs` are the messages that the warden sent it (R259). -/
def execNodeKeyed (lane hop res ms : Nat) (key : List Byte) (msgs : List Mgmt) (s : State) : Outcome State Fault Refusal :=
  run (fun s =>
    let d := ringDir s lane
    if 6 ≤ lane || d.step != 4 || !wardenRuns s || !ringCert s || hop = 0 || s.get (RING_ENUMSTAT_FOUND lane) < hop || d.tried.contains hop then s
    else
      let g := s.get (RING_HOP2_CELL lane (hop - 1))
      let s1 := modRing lane (fun d => { d with tried := hop :: d.tried }) (sendMgmt lane g [] msgs s)
      let why := if res = 2 then 0 else identity s1 lane (hop - 1) (res == 0)
      let s2 :=
        if why = 1 then mismatch lane g 1 (dropPhase (lane / 2) s1)
        else if why != 0 then mismatch lane g why s1
        else if res = 2 || d.bad then s1
        else takeKey lane (hop - 1) g key s1
      enumFinish lane ms s2) s

/-- `NODE_CONFIGURED` (R523, Table 8-12 step 5): a keyed node acknowledges its configuration, or does not answer and is left ABSENT; the other
nodes go on. -/
def execNodeConfigured (lane hop : Nat) (ack : Bool) (ms : Nat) (msgs : List Mgmt) (s : State) : Outcome State Fault Refusal :=
  run (fun s =>
    let d := ringDir s lane
    if 6 ≤ lane || d.step != 4 || !wardenRuns s || hop = 0 || !s.flag (RING_HOP2_KEYED lane (hop - 1)) || d.conf.contains hop || d.mute.contains hop then s
    else
      let g := s.get (RING_HOP2_CELL lane (hop - 1))
      let s1 := sendMgmt lane g (keyOf s g (lane % 2)) msgs s
      enumFinish lane ms (modRing lane (fun d => if ack then { d with conf := hop :: d.conf } else { d with mute := hop :: d.mute }) s1)) s

/-- A write of `RING.CTL` (Table 8-22): ENUM starts the enumeration of a direction that owns no ACTIVE or HELD cell; FORCEOUT takes effect only
where test registers are open. -/
def ringCtlWrite (l : Nat) (w : Word) (s : State) : State :=
  let a := (RING_CTL_ENUM l).addr
  let busy := 6 ≤ l || (phaseCells (l / 2)).any fun g => owns s l g && (cellState s g == 3 || cellState s g == 4)
  if (s.get (pglock (0x58 + l))).testBit 0 then capture a 1 s
  else if w.getLsbD 0 && busy then capture a 3 s
  else
    let s1 := if w.toNat / 4 = 0 then s else capture a 2 s
    let s2 := if w.getLsbD 0 then startEnum l (s1.put (RING_STAT_LOCK l) 0) else s1
    if !testOpen s2 then (if w.getLsbD 1 then capture a 1 s2 else s2)
    else
      let s3 := s2.putB (RING_CTL_FORCEOUT l) (w.getLsbD 1)
      if w.getLsbD 1 && l < 6 && s3.get (RING_STAT_STATE l) = 3 then failLane l s3 else s3

/-- `ENUM` (R270): the host requests a re-enumeration of a direction. -/
def execEnum (lane : Nat) (s : State) : Outcome State Fault Refusal :=
  run (fun s => ringCtlWrite lane (word (1 + 2 * s.get (RING_CTL_FORCEOUT lane))) s) s

/-- `ZC12_UPDATE` (R530): the warden has updated the node of an OUT or STANDBY cell whose bypass is confirmed closed and whose reported version
differs from the carried one; the node is keyed again in both directions, `keys` being its new keys, and its hop entries show the new
version. `msgs` are the messages that the warden sent it on the lane that owns it (R259). -/
def execZc12Update (cell carried : Nat) (keys : List (List Byte)) (msgs : List Mgmt) (s : State) : Outcome State Fault Refusal :=
  run (fun s =>
    let st := cellState s cell
    let put := fun (s : State) (l : Nat) =>
      (List.range (s.get (RING_ENUMSTAT_FOUND l))).foldl (fun s i =>
        if s.get (RING_HOP2_CELL l i) = cell then takeKey l i cell (keys.getD (l % 2) []) (s.put (RING_HOP3_FWV l i) carried) else s) s
    if wardenRuns s && (st = 2 || st = 5) && s.flag (CELL_STATE_BYP cell) then
      let l := ownerLane s cell
      put (put (sendMgmt l cell (keyOf s cell (l % 2)) msgs s) (2 * (cell / 64))) (2 * (cell / 64) + 1)
    else s) s

end Sys2Proof.Machine
end

