-- ==== Sys2Proof/Machine/Twin.lean ====
section
/-! DEFINITION. The twin link (R276–R279, R526, Table 8-15), takeover (R241, R249), and the hand-over of a unit that yields (R66, R67,
R279). -/

namespace Sys2Proof.Machine

open Host (Outcome)

/-- One bit of the CRC-64 of R229: ECMA-182 polynomial, no reflection. -/
def crc64Bit (c : BitVec 64) : BitVec 64 := if c.getLsbD 63 then (c <<< 1) ^^^ 0x42F0E1EBA9EA3693#64 else c <<< 1

def crc64Byte (c : BitVec 64) (b : Byte) : BitVec 64 := (List.range 8).foldl (fun c _ => crc64Bit c) (c ^^^ (b.setWidth 64 <<< 56))

/-- The CRC-64 over bytes in order, initial value 0. -/
def crc64 (bs : List Byte) : BitVec 64 := bs.foldl crc64Byte 0

/-- A committed record in a twin burst (R276): cluster and kind, the commit loom clock, A and B, in 16 bytes. A record that has committed
holds that clock. -/
def recBytes (r : Nat × Rec) : List Byte :=
  let lc := r.2.lc
  [BitVec.ofNat 8 (r.1 + 4 * r.2.kind), 0, BitVec.ofNat 8 lc, BitVec.ofNat 8 (lc / 256)] ++ wordBytes r.2.a ++ wordBytes r.2.b ++ [0, 0, 0, 0]

def recsCrc (rs : List (Nat × Rec)) : Nat := (crc64 (rs.map recBytes).flatten).toNat

/-- The twin state changes: both T pages, event 0x0010 of source 54 (Tables 8-16, 8-24). A unit that is LOST or DIVERGED joins no more. -/
def setTwin (st : Nat) (s : State) : State :=
  let old := s.get (RING_TWSTAT_STATE 6)
  if old = st then s
  else
    let both := fun (l : Nat) (s : State) => (s.put (RING_TWSTAT_STATE l) st).put (RING_TWLASTW_SWARP l) (swarp s).toNat
    raiseF 54 0x10 (st + 16 * old) (setEvt 0x5E 0x40 (setEvt 0x5F 0x40 { both 7 (both 6 s) with twin := { s.twin with since := absPick s, joiner := s.twin.joiner && decide (st < 6), out := [] } }))

def twinState (s : State) : Nat := s.get (RING_TWSTAT_STATE 6)

/-- A field of both T pages. -/
def putTwin (f : Nat → Fld) (v : Nat) (s : State) : State := (s.put (f 6) v).put (f 7) v

/-- The twin hash of this unit: of the image that runs, else of a verified bank (R174, R526). -/
def ownTwinHash (s : State) : Option Nat :=
  match s.weave.img with
  | some i => if s.flag WEAVE_STAT_RUN then some i.twinHash else ((s.weave.banks.filterMap (·.img)).head?).map (·.twinHash)
  | none => ((s.weave.banks.filterMap (·.img)).head?).map (·.twinHash)

/-- A twin image brings the twin link into being (Table 8-15). -/
def twinArrives (s : State) : State :=
  if twinState s != 0 then s
  else
    let s1 := setTwin 1 s
    if s1.flag (RING_STAT_LOCK 6) || s1.flag (RING_STAT_LOCK 7) then setTwin 2 s1 else s1

/-- `TWIN_LANE_LOCK` (R276, Table 8-15): a twin lane locks and the handshake begins. -/
def execTwinLaneLock (lane : Nat) (s : State) : Outcome State Fault Refusal :=
  run (fun s =>
    if lane != 6 && lane != 7 then s
    else
      let s1 := setLaneState lane 3 (s.put (RING_STAT_LOCK lane) 1)
      if twinState s1 = 1 || twinState s1 = 6 then setTwin 2 s1 else s1) s

/-- The lanes that this unit does not terminate are STOPPED (Table 8-17).
(DEDUCED: log entry 126.) -/
def stopPartnerLanes (s : State) : State :=
  (List.range 6).foldl (fun s l =>
    if terminates s l || s.get (RING_STAT_STATE l) = 0 || s.get (RING_STAT_STATE l) = 6 then s
    else setLaneState l 6 ((modRing l (fun d => { d with step := 0 }) s).put (RING_STAT_TERM l) 0)) s

/-- Pick boundaries from the present pick to the one at which pick `k` begins; at least the next. -/
def boundariesTo (k : Nat) (s : State) : Nat := max 1 (k - absPick s)

/-- Every cell goes to the directions this unit terminates, from pick `k` on (R241). -/
def takeCells (k : Nat) (s : State) : State :=
  [0, 1, 2].foldl (fun s ph =>
    let d := if terminates s (2 * ph) then 0 else 1
    ownEvent 0xFF ph d false (decideOwners (boundariesTo k s) ph (fun _ => d) s)) s

/-- R241, R249: the survivor takes every cell from pick `k` on, or starts the fallback. -/
def takeover (k : Nat) (byYield : Bool) (s : State) : State :=
  let lost := s.get (RING_TWSTAT_PUNIT 6)
  let whole := s.twin.since + 1 ≤ absPick s
  let enough := (List.range 4).all fun c => 2 ≤ (voters s c).length
  let s1 := setTwin 6 s
  if byYield || (whole && enough) then { takeCells k s1 with twin.lossEvt := some (lost + 2 * bit byYield) } else converterFault 8 s1

/-- The takeover's event follows every event that was committed in the pick of the loss (R242). -/
def lossPick (s : State) : State :=
  match s.twin.lossEvt with
  | some d => raiseF 57 1 d { s with twin.lossEvt := none }
  | none => s

/-- The units have diverged (R278). -/
def diverge (pick : Nat) (s : State) : State :=
  let s1 := putTwin RING_TWSTAT_DIGOK 0 ((s.count (RING_TWCNT_DIVERGE 6)).count (RING_TWCNT_DIVERGE 7))
  let s2 := raiseF 54 0x11 (pick % 4096) (setEvt 0x5E 0x80 (setEvt 0x5F 0x80 s1))
  converterFault 8 (setTwin 7 s2)

/-- The armed switch that a unit reports: twin hash and cycle (R181). -/
def ownArmed (s : State) : Option (Nat × Nat) :=
  s.weave.armed.bind fun x => ((s.weave.banks.getD x.bank Bank.empty).img).map fun i => (i.twinHash, x.cycle)

/-- The armed switch is cancelled (R181). -/
def cancelSwitch (s : State) : State :=
  match s.weave.armed with
  | none => s
  | some _ => ({ s with weave.armed := none }.put WEAVE_SWSTAT_STATE 5).put WEAVE_STAT_SWPEND 0

/-- The host of the partner has cancelled its armed switch in the pick of the burst: that cancels the same switch here, one of the same image
for the same cycle that was armed by then, be it that the burst arrives after the check of pick 4,095 (R181).
(DEDUCED: log entry 126.) -/
def partnerCancel (pick : Nat) (x : Nat × Nat) (s : State) : State :=
  let dueHash := (s.weave.due.bind fun d => (s.weave.banks.getD d.1 Bank.empty).img).map (·.twinHash)
  if (x.2 - 1) * 4096 + 4095 ≤ pick then s
  else if dueHash = some x.1 && cycleOf s + 1 = x.2 then ({ s with weave.due := none }.put WEAVE_SWSTAT_STATE 5).put WEAVE_STAT_SWPEND 0
  else if ownArmed s = some x && (s.weave.armed.map fun a => decide (a.since ≤ pick)) = some true then cancelSwitch s
  else s

/-- The partner announces a change of ownership that it decided in pick `k` (R272): both units apply it at the boundary at which pick k + 2
begins, or, when default ownership returns, at the next cycle boundary. A failure and the return of a whole direction of the partner are noted.
(DEDUCED: log entry 126.) -/
def partnerChange (k : Nat) (x : OwnChange) (s : State) : State :=
  let n := boundariesTo (if x.back then k + 4096 else k + 2) s
  if x.cell != 0xFF then decideOwner n x.dir x.cell s
  else if x.back then decideOwners n x.phase homeDir { s with twin.out := s.twin.out.filter (· != x.phase) }
  else decideOwners n x.phase (fun _ => x.dir) { s with twin.out := insertNat x.phase s.twin.out }

/-- Codewords of a twin burst (R252).
(DESIGN CHOICE: log entry 154.) -/
def twinFec (b : TwinBurst) (s : State) : State := countFec 7 b.cor.2 b.unc.2 (countFec 6 b.cor.1 b.unc.1 s)

/-- `TWIN_BURST` (R276–R279): a twin burst arrives. The CRC-64 comparison of TRANSFER begins once the copy is verified and the joiner issues in
step (Table 8-15). -/
def execTwinBurst (b : TwinBurst) (s : State) : Outcome State Fault Refusal :=
  run (fun s =>
    let s := twinFec b s
    let st := twinState s
    if st < 3 || 5 < st || !(b.ok0 || b.ok1) then s
    else
      let s1 := if b.ok0 && b.ok1 then s else (s.count (RING_TWCNT_MISS 6)).count (RING_TWCNT_MISS 7)
      let s2 := (({ s1 with twin.lastEnd := some b.pick, weave.partnerArm := b.armed }.putB (RING_STAT_RXOK 6) b.ok0).putB (RING_STAT_RXOK 7) b.ok1)
      let s3 := putTwin RING_TWSTAT_PYIELD (bit b.yield) s2
      let mine := if b.pick + 1 = absPick s then recsCrc s.twin.prev else recsCrc s.twin.recs
      if st != 3 && mine != b.crc then diverge b.pick s3
      else
        let s4 := if st != 3 then putTwin RING_TWSTAT_DIGOK 1 s3 else s3
        let s5 := b.ownChg.foldl (fun s x => partnerChange b.pick x s) s4
        let s6 := b.cancelled.foldl (fun s x => partnerCancel b.pick x s) s5
        if st = 5 && b.yield then takeover (b.pick + 2) true s6 else s6) s

/-- `PARTNER_LOST` (R278): no intact END block of the previous pick by lc 1,024. -/
def execPartnerLost (s : State) : Outcome State Fault Refusal :=
  run (fun s =>
    let st := twinState s
    let got := match s.twin.lastEnd with
      | some p => decide (absPick s ≤ p + 1)
      | none => false
    if got then s
    else if st = 5 then takeover (absPick s + 1) false s
    else if st = 3 || st = 4 then setTwin 6 s
    else s) s

/-- The receiver of a lane loses lock (R270); with both twin lanes lost a join is abandoned (Table 8-15). -/
def laneLost (lane : Nat) (s : State) : State :=
  let s1 := receiverLoss lane s
  let st := twinState s1
  if 6 ≤ lane && (st = 3 || st = 4) && !s1.flag (RING_STAT_LOCK 6) && !s1.flag (RING_STAT_LOCK 7) then setTwin 6 s1 else s1

/-- `RECEIVER_LOCK_LOSS` (R270). -/
def execReceiverLockLoss (lane : Nat) (s : State) : Outcome State Fault Refusal := run (fun s => if lane < 8 then laneLost lane s else s) s

/-- A block of the partner that was complete in time has not reached this unit by its RXDONE (R277).
(DEDUCED: log entry 129.) -/
def blockLate (lane : Nat) (b : CollectBurst) (s : State) : Bool :=
  twinState s == 5 && !terminates s lane && (b.pick + 1 < absPick s || (cluAt s (lane / 2)).rxDone) &&
    (b.segs.take (maskCells lane (maskAt s lane b.pick)).length).any fun r => match r with
      | .block lc _ => decide (lc + 480 ≤ rxdoneOf s (lane / 2))
      | _ => false

/-- `RXDONE` (R158): the reductions of the previous pick are published in cluster `c`'s ring buffer. A block of the partner that was complete
in time and is `missing` is a loss of the partner while the link is IN_SYNC (R277).
(DEDUCED: log entry 129.)
(DESIGN CHOICE: log entry 38.) -/
def execRxdone (c : Nat) (missing : Bool) (s : State) : Outcome State Fault Refusal :=
  run (fun s => let s1 := publish c s; if missing && twinState s = 5 then takeover (absPick s + 1) false s1 else s1) s

/-- `COLLECT_BURST_RETURN` (R273, R277): a collect burst returns on a lane. A block of the partner that comes after RXDONE is a loss of the
partner.
(DEDUCED: log entry 129.) -/
def execCollectBurstReturn (lane : Nat) (b : CollectBurst) (s : State) : Outcome State Fault Refusal :=
  run (fun s => if 6 ≤ lane then s else if blockLate lane b s then takeover (absPick s + 1) false (collectReturn lane b s) else collectReturn lane b s) s

/-- A write of `RING.TWCTL` (Table 8-24, R67). -/
def twctlWrite (l : Nat) (w : Word) (s : State) : State :=
  let a := (RING_TWCTL_JOIN l).addr
  let st := twinState s
  let bad := l != 6 || (w.getLsbD 0 && ((st != 1 && st != 6) || (s.permit.yielded && s.flag SHUTTLE_F_STAT_SHUT)))
  if (s.get (pglock (0x58 + l))).testBit 1 then capture a 1 s
  else if bad then capture a 3 s
  else
    let s1 := if w.toNat / 4 = 0 then s else capture a 2 s
    let s2 := putTwin RING_TWCTL_ACCEPT (bit (w.getLsbD 1)) s1
    if w.getLsbD 0 then
      let s3 := { s2 with twin.joiner := true }
      if s3.flag (RING_STAT_LOCK 6) || s3.flag (RING_STAT_LOCK 7) then setTwin 2 s3 else s3
    else s2

/-- `JOIN` (R67): the host starts a twin join. -/
def execJoin (s : State) : Outcome State Fault Refusal :=
  run (fun s => twctlWrite 6 (word (1 + 2 * s.get (RING_TWCTL_ACCEPT 6))) s) s

/-! ### The unit that yields (R66, R67, R279) -/

/-- The permit is lost while the yield is armed and the partner is in service: the unit yields instead of closing its shutter. -/
def canYield (s : State) : Bool := s.flag SHUTTLE_F_STAT_YIELD && twinState s == 5

/-- The unit yields its cells (R66, R67). Its shutter counts as closed: `SHUTW` takes the pick, and since no closure of R63 has happened
`SHUTCNT`, `PGEVT.SHUTCLOSE` and the event of source 10 stay out (DESIGN CHOICE: log entry 136). -/
def yieldCells (s : State) : State :=
  let s1 : State := { s with permit := { s.permit with yielded := true }, twin.yieldAt := some (absPick s) }
  (((s1.put SHUTTLE_F_STAT_YIELDED 1).put SHUTTLE_F_STAT_YIELD 0).put SHUTTLE_F_STAT_SHUT 1).put SHUTTLE_F_SHUTW_SWARP (swarp s).toNat

/-- From pick k + 2 the yielded unit's rings stop and its clusters run the idle plan; GRID_OPEN stays deasserted, but for a safety demand or
a closure since the yield (R67). -/
def yieldPick (s : State) : State :=
  match s.twin.yieldAt with
  | some k =>
    if s.permit.yielded && absPick s = k + 2 then
      let s1 := (List.range 6).foldl (fun s l => setLaneState l 6 s) (setTwin 6 s)
      let s2 := (List.range 12).foldl (fun s e => modEng e (fun g => { g with running := false }) s) (s1.put WEAVE_STAT_RUN 0)
      { s2 with twin.yieldAt := none, pwr.gridOpen := if s2.permit.forced then s2.pwr.gridOpen else s2.pwr.gridOpen.map fun _ => false }
    else s
  | none => s

/-- The reduced blocks of the cells that this unit's own lanes returned in the pick that has ended (R276). -/
def ownBlocks (s : State) : List Reduced :=
  ((List.range 6).filter fun l => terminates s l).flatMap fun l =>
    (maskCells l (maskAt s l (absPick s - 2))).filterMap fun g => (cellSt s g).red.find? (·.pick + 2 == absPick s)

/-- What a twin burst holds after its header: the records as they committed and the reduced blocks as they completed, in the order of their loom
clocks (R276). -/
def twinItems (rs : List (Nat × Rec)) (reds : List Reduced) : List (Nat × List Byte) :=
  sortBy (fun a b => decide (a.1 ≤ b.1)) ((rs.map fun r => (r.2.lc, recBytes r)) ++ reds.map fun r => (r.lc, r.words.flatMap wordBytes))

/-- The blocks of the twin burst of the pick that has ended: header block 0, records, reduced blocks and END block, sealed under the twin key
(R276). Bytes 22–23 hold the first change announced (log entry 126).
(DESIGN CHOICE: log entry 153.) -/
def twinBlocks (changes : List OwnChange) (rs : List (Nat × Rec)) (s : State) : List Block :=
  let k := absPick s - 1
  let first := (changes.head?).getD ⟨0, 0, 0, false⟩
  let extra := leBytes 1 (twinState s) ++ leBytes 1 (bit s.twin.yieldAt.isSome + 2 * bit !changes.isEmpty) ++ leBytes 1 first.phase ++ leBytes 1 first.dir
  let reds := ownBlocks s
  let h := header0 4 6 (unitNo s) reds.length (BitVec.ofNat 64 (k * 4096)) (s.get WARP_INC_INC) 0 0 extra
  let body := withEnd (leBytes 8 (recsCrc rs)) (h ++ (twinItems rs reds).flatMap (·.2))
  let (ct, tag) := gcmSeal s.twin.key (Config.twinNonce k) (body.take 32) (body.drop 32)
  ctlBlock 0x4B 4 :: dataBlocks (body.take 32 ++ ct ++ tag)

/-- The twin burst of the pick that ends leaves (R276), and the pick's records become those of the last pick. R276 gives the armed switch that
each burst carries (R181) no place among its fields: it leaves beside the burst's bytes, as do a CANCEL and changes after the first (DESIGN
CHOICE: log entry 158).
(DEDUCED: log entry 126.) -/
def twinPick (s : State) : State :=
  let st := twinState s
  if st = 0 then s
  else
    let rs := s.twin.recs
    let s1 := { s with twin := { s.twin with recs := [], prev := rs, change := [], cancelled := [] } }
    if 3 ≤ st && st ≤ 5 then emit (.twin (absPick s - 1) s.twin.yieldAt.isSome (ownArmed s) s.twin.cancelled s.twin.change rs.length (recsCrc rs) (twinBlocks s.twin.change rs s)) s1 else s1

end Sys2Proof.Machine
end

