-- ==== Sys2Proof/Machine/Reed.lean ====
section
/-! DEFINITION. The reed and repair (R221–R250): the vote and the commit of records (R149, R224), isolation, repair attempts and rejoin, host
commands to engines and reed halves, the halves, and the warden. -/

namespace Sys2Proof.Machine

open Host (Outcome)

/-! ### The vote and the commit (R149–R151, R223, R224) -/

/-- The engines whose records a vote counts: counted in votes and running. -/
def liveVoters (s : State) (c : Nat) : List Nat := (voters s c).filter fun e => s.get (LOOM_STAT_STATE (3 * c + e)) == 1

/-- The record that engine `k` issued at loom clock b, of the pick before first. -/
def recAt (s : State) (k b : Nat) : Option Rec := (engAt s k).recs.find? (·.lc == b)

/-- A committed record takes effect 6 lc after its issue, which may lie in the next pick (R149, R184, R195). -/
def commitRecord (c : Nat) (r : Rec) (s : State) : State :=
  let lc := r.lc + 6 - (if r.old then s.warp.lenPrev else 0)
  let s := if twinState s = 0 then s else { s with twin.recs := s.twin.recs ++ [(c, { r with lc := lc })] }
  if r.kind = 1 then commitEdge c lc r.a r.b s
  else if r.kind = 2 then commitRing c r.a r.b s
  else if r.kind = 3 then { s with weave.shared := memSet (r.a.toNat % 16384) r.b s.weave.shared }
  else raiseF (bitsAt r.a.toNat 16 8) (r.a.toNat % 65536) r.b.toNat s

/-- The records of a cluster at a loom clock leave the engines. -/
def dropRecs (c b : Nat) (s : State) : State :=
  (List.range 3).foldl (fun s e => modEng (3 * c + e) (fun g => { g with recs := g.recs.eraseP (·.lc == b) }) s) s

/-- Engine in probation: its record, or its absence, is compared with the commit (R230). -/
def probationCheck (c b : Nat) (v : Option Rec) (s : State) : State :=
  if s.flag (REED_CLST_PROB c) && recAt s (3 * c + s.get (REED_CLST_REPENG c)) b != v then failAttempt c 1 s else s

/-- The vote of cluster `c` for loom clock b is decided and the majority value commits. -/
def commitVote (c b : Nat) (s : State) : State :=
  let s0 := voteChecks c s
  if s0.weave.noCommit.getD c false || s0.get (REED_CLST_MODE c) = 3 then dropRecs c b s0
  else
    let rs := (liveVoters s0 c).map fun e => (e, recAt s0 (3 * c + e) b)
    if rs.length < 2 then stopUnvoted c (dropRecs c b s0)
    else
      match majority rs with
      | none => dropRecs c b (clusterFault c s0)
      | some (v, out) =>
        let s1 := probationCheck c b v s0
        let s2 := dropRecs c b s1
        let s3 := match v with
          | some r => commitRecord c r s2
          | none => s2
        out.foldl (fun s e => minority (3 * c + e) (bit (v.isNone || (recAt s0 (3 * c + e) b).isNone)) b false s) s3

/-- `RECORD_COMMIT` (R149): the records issued at loom clock `b` are voted and commit; `differ` tells that the two halves' outputs differ while
neither comparator trips (R234). -/
def execRecordCommit (c b : Nat) (differ : Bool) (s : State) : Outcome State Fault Refusal :=
  run (fun s =>
    if 4 ≤ c then s
    else if differ && s.get (REED_CLST_HALF c) = 3 then reedStop c 0 (dropRecs c b s)
    else commitVote c b s) s

/-! ### Isolation and repair (R226–R231) -/

/-- `ENGINE_ISOLATE` (R226): at the pick boundary after its stop the engine becomes OUT. -/
def execEngineIsolate (e : Nat) (s : State) : Outcome State Fault Refusal :=
  run (fun s => if s.get (LOOM_STAT_STATE e) = 2 then setEngState e 3 s else s) s

/-- The engine that an attempt may begin on (R227): the lowest OUT engine that is neither held nor retired. -/
def repairTarget (s : State) (c : Nat) : Option Nat :=
  [0, 1, 2].find? fun e =>
    let k := 3 * c + e
    s.get (LOOM_STAT_STATE k) == 3 && !s.flag (REED_ENGST_HELD k) && !s.flag (REED_ENGST_RETIRED k) &&
      (s.flag REED_CTL_AUTOREP || s.warden.repReq.getD k false)

/-- `REPAIR_START` (R227): an attempt starts in a REPAIR heddle of the cluster. -/
def execRepairStart (c : Nat) (s : State) : Outcome State Fault Refusal :=
  run (fun s =>
    let vs := voters s c
    match repairTarget s c, vs.head? with
    | some e, some src =>
      if vs.length = 2 && s.get (REED_CLST_MODE c) = 2 && !s.flag (REED_CLST_REP c) && !s.flag WEAVE_STAT_FB && s.weave.loading.isNone &&
          wardenRuns s && inClass s c 2 then
        let k := 3 * c + e
        let s1 := ((s.put (REED_CLST_REP c) 1).put (REED_CLST_REPENG c) e).put (REED_CLST_SRCENG c) src
        let s2 := setEngState k 4 ((s1.put (REED_ENGST_PROG k) 0).put (REED_ENGST_SRC (3 * c + src)) 1)
        let s3 := { s2 with warden.repReq := s2.warden.repReq.set k false }
        raiseF 17 2 (c + 4 * e + 16 * (s.get (REED_ENGST_FAILS k) + 1) + 256 * src) (modClu c (fun x => { x with repTime := 0, probAt := none }) s3)
      else s
    | _, _ => s) s

/-- Word `n` of what an attempt copies, in the order of Table 7-3, as the source holds it; the first 1,024, the registers, have no layout. -/
def copyWord (s : State) (c : Nat) (src : Eng) (n : Nat) : Word :=
  if n < 1024 then 0
  else if n < 66560 then memAt src.im (n - 1024)
  else if n < 197632 then memAt src.dm (n - 66560)
  else if n < 214016 then memAt src.at' (n - 197632)
  else if n < 230400 then memAt s.weave.shared (n - 214016)
  else if n < 295936 then memAt s.weave.params (n - 230400)
  else if n < 312320 then memAt (cluAt s c).ringBuf (n - 295936)
  else memAt (cluAt s c).adcBuf (n - 312320)

/-- The CRC-64 of words (R229). -/
def blockCrc (ws : List Word) : Nat := (crc64 (ws.map wordBytes).flatten).toNat

/-- The block in which word `n` of the copy is verified: its first word and its length. Registers and control state are one block of 4,096
bytes, the memories blocks of 256 (R229). -/
def blockOf (n : Nat) : Nat × Nat := if n < 1024 then (0, 1024) else (n / 64 * 64, 64)

/-- The verifier finds that a block of the target, in which the words `bad` stand, differs from the source's. -/
def blockDiffers (s : State) (c : Nat) (src : Eng) (bad : List (Nat × Word)) (b : Nat × Nat) : Bool :=
  let w := fun i => copyWord s c src (b.1 + i)
  blockCrc ((List.range b.2).map w) != blockCrc ((List.range b.2).map fun i => (bad.lookup (b.1 + i)).getD (w i))

/-- The verifier has read the block (R229). -/
def blockRead (units : Nat) (b : Nat × Nat) : Bool := b.1 + b.2 ≤ 8 * units

/-- Words of a memory that hold other values, within the words from `lo` to `hi` of the copy. -/
def faultyMem (lo hi : Nat) (bad m : List (Nat × Word)) : List (Nat × Word) :=
  (bad.filter fun x => lo ≤ x.1 && x.1 < hi).foldl (fun m x => memSet (x.1 - lo) x.2 m) m

/-- The units that the verifier has read (R229). -/
def verifiedUnits (x : Clu) : Nat := min copyUnits (x.repTime - 8)

/-- `REPAIR_VERIFIED` (R229): the verifier compares the copied blocks that it has read; `bad` lists the words of the target, in the order of
Table 7-3, that hold another value than was copied; the first 1,024, whose layout the spec does not give, as their difference (XOR) from it. A block that differs ends the attempt; when the last block has been verified the target
enters probation with the source's state.
(DESIGN CHOICE: log entry 148.) -/
def execRepairVerified (c : Nat) (bad : List (Nat × Word)) (s : State) : Outcome State Fault Refusal :=
  run (fun s =>
    let k := 3 * c + s.get (REED_CLST_REPENG c)
    let src := engAt s (3 * c + s.get (REED_CLST_SRCENG c))
    if !s.flag (REED_CLST_REP c) || s.flag (REED_CLST_PROB c) then s
    else if (bad.filter fun x => blockRead (verifiedUnits (cluAt s c)) (blockOf x.1)).any fun x => blockDiffers s c src bad (blockOf x.1) then
      modEng k (fun e => { e with im := faultyMem 1024 66560 bad e.im, dm := faultyMem 66560 197632 bad e.dm,
                                  at' := faultyMem 197632 214016 bad e.at' }) (failAttempt c 0 s)
    else if (cluAt s c).repTime < copyUnits + 8 then s
    else
      modClu c (fun x => { x with probAt := some (absPick s) })
        (((modEng k (fun e => { src with eccCycle := e.eccCycle }) s).put (REED_CLST_PROB c) 1).put (REED_ENGST_PROB k) 1)) s

/-- `REPAIR_REJOIN` (R230): at the first cycle boundary at least 1,024 pk after probation began the target rejoins the vote. -/
def execRepairRejoin (c : Nat) (s : State) : Outcome State Fault Refusal :=
  run (fun s =>
    match (cluAt s c).probAt with
    | none => s
    | some p =>
      if !s.flag (REED_CLST_PROB c) || pickOf s != 0 || absPick s < p + 1024 then s
      else
        let e := s.get (REED_CLST_REPENG c)
        let k := 3 * c + e
        let s1 := setVote k true (setEngState k 1 (clearAttempt c s))
        reedEvent 1 3 (c + 4 * e) ((s1.put (REED_ENGST_FAILS k) 0).count (REED_REPCNT_DONE c))) s

/-! ### Host commands (R232, R233) -/

/-- A write of `REED.ENGCTL` (Table 7-8): an undefined CMD is refused now; the rest waits for the next pick boundary. -/
def engctlWrite (w : Word) (s : State) : State :=
  let a := REED_ENGCTL_ENG.addr
  let cmd := bitsAt w.toNat 4 3
  if cmd = 0 || 4 < cmd || (cmd != 4 && 11 < bitsAt w.toNat 0 4) then capture a 3 s
  else
    let s1 := if w.toNat / 2 ^ 8 = 0 then s else capture a 2 s
    { (s1.put REED_ENGCTL_ENG (bitsAt w.toNat 0 4)).putB REED_ENGCTL_HALF (w.getLsbD 7) with warden.engctl := some w }

/-- The command of an `ENGCTL` word for engine `e`. -/
def engctlWord (e cmd : Nat) (half : Bool) : Word := word (e % 16 + 16 * cmd + 128 * bit half)

/-- `HOLD` (R232): the command that stops and holds a voting engine. -/
def execHold (e : Nat) (s : State) : Outcome State Fault Refusal := run (engctlWrite (engctlWord e 1 false)) s
/-- `RELEASE` (R232). -/
def execRelease (e : Nat) (s : State) : Outcome State Fault Refusal := run (engctlWrite (engctlWord e 2 false)) s
/-- `REPAIR` (R232). -/
def execRepair (e : Nat) (s : State) : Outcome State Fault Refusal := run (engctlWrite (engctlWord e 3 false)) s
/-- `HALFRETRY` (R233). -/
def execHalfretry (c : Nat) (half : Bool) (s : State) : Outcome State Fault Refusal := run (engctlWrite (engctlWord (4 * c) 4 half)) s

/-- One bit of `CLST.HALF`. -/
abbrev halfBit (c h : Nat) : Fld := ⟨(REED_CLST_HALF c).addr, 6 + h, 1⟩

/-- The command that waits is judged and acts at the pick boundary. -/
def engctlApply (s : State) : State :=
  match s.warden.engctl with
  | none => s
  | some w =>
    let s := { s with warden.engctl := none }
    let a := REED_ENGCTL_ENG.addr
    let k := bitsAt w.toNat 0 4
    let c := k / 3
    let cmd := bitsAt w.toNat 4 3
    if cmd = 1 then
      if s.get (REED_CLST_MODE c) = 1 && !s.flag (REED_CLST_REP c) && !s.flag WEAVE_STAT_FB && s.flag (REED_ENGST_VOTE k) then
        let s1 := stopEngine k 7 0 none false (engAt s k).lc s
        raiseF 17 0xB (c + 4 * (k % 3) + 16) (s1.put (REED_ENGST_HELD k) 1)
      else capture a 3 s
    else if cmd = 2 then
      if s.flag (REED_ENGST_HELD k) then raiseF 17 0xB (c + 4 * (k % 3)) (s.put (REED_ENGST_HELD k) 0) else capture a 3 s
    else if cmd = 3 then
      if s.get (LOOM_STAT_STATE k) = 3 then
        { ((s.put (REED_ENGST_RETIRED k) 0).put (REED_ENGST_HELD k) 0).put (REED_ENGST_FAILS k) 0 with
          warden.repReq := s.warden.repReq.set k true }
      else capture a 3 s
    else
      let cl := bitsAt w.toNat 2 2
      let h := bitsAt w.toNat 7 1
      if s.flag (halfBit cl h) then capture a 3 s
      else modClu cl (fun x => { x with halfTest := x.halfTest.set h 1 }) s

/-- `ENGCTL_APPLY` (R232). -/
def execEngctlApply (s : State) : Outcome State Fault Refusal := run engctlApply s

/-! ### The two halves (R233, R234) -/

def halfCnt (c : Nat) : Fld := if c = 0 then REED_HALFCNT_A else if c = 1 then REED_HALFCNT_B else if c = 2 then REED_HALFCNT_C else REED_HALFCNT_P

/-- `REED_HALF_TRIP` (R233): a half's comparator trips; when it was the only half in service, the reed stops the cluster (R234). -/
def execReedHalfTrip (c half : Nat) (s : State) : Outcome State Fault Refusal :=
  run (fun s =>
    if 4 ≤ c || 2 ≤ half || !s.flag (halfBit c half) then s
    else
      let s1 := (s.put (halfBit c half) 0).count (halfCnt c)
      let s2 := modClu c (fun x => { x with halfAt := x.halfAt.set half (some (absPick s)), halfTest := x.halfTest.set half 1 }) s1
      let s3 := reedEvent 4 6 (c + 4 * half) s2
      if s3.get (REED_CLST_HALF c) = 0 then reedStop c 2 s3 else s3) s

/-- `HALF_SELFTEST_DONE` (R233). -/
def execHalfSelftestDone (c half : Nat) (pass : Bool) (s : State) : Outcome State Fault Refusal :=
  run (fun s =>
    if (cluAt s c).halfTest.getD half 0 != 1 then s
    else
      let s1 := modClu c (fun x => { x with halfTest := x.halfTest.set half (if pass then 2 else 3) }) s
      if pass then s1 else raiseF 17 8 (c + 4 * half) s1) s

/-- `HALF_REJOIN` (R233): a passed half rejoins at the first cycle boundary at least 256 pk after its trip. -/
def execHalfRejoin (c half : Nat) (s : State) : Outcome State Fault Refusal :=
  run (fun s =>
    let x := cluAt s c
    let late := match x.halfAt.getD half none with
      | some p => decide (p + 256 ≤ absPick s)
      | none => false
    if x.halfTest.getD half 0 = 2 && late && pickOf s = 0 then
      reedEvent 4 7 (c + 4 * half) (modClu c (fun x => { x with halfTest := x.halfTest.set half 0, halfAt := x.halfAt.set half none })
        (s.put (halfBit c half) 1))
    else s) s

/-! ### The warden (R237–R240, R249, R250) -/

/-- `WARDEN_START` (R238): the warden runs, after lock or after a restart; enumerations that waited for it go on. -/
def execWardenStart (s : State) : Outcome State Fault Refusal :=
  run (fun s =>
    let st := s.get WARDEN_STAT_STATE
    if st = 2 || (st = 0 && s.flag CLOCK_STAT_LOCK) then enumAdvance (s.put WARDEN_STAT_STATE 1) else s) s

/-- The warden restarts, with the cause of event 0x0001 of source 18. -/
def wardenRestart (cause : Nat) (s : State) : State :=
  raiseF 18 1 cause (setEvt 0x052 1 ((s.put WARDEN_STAT_STATE 2).count WARDEN_STAT_RESTARTS))

/-- `WARDEN_RESTART` (R238): the two cores disagree. -/
def execWardenRestart (s : State) : Outcome State Fault Refusal :=
  run (fun s => if wardenRuns s then wardenRestart 1 s else s) s

/-- `WARDEN_WATCHDOG` (R238): its watchdog of 10 ms expires. -/
def execWardenWatchdog (s : State) : Outcome State Fault Refusal :=
  run (fun s => if wardenRuns s then wardenRestart 2 s else s) s

/-- The words of one 512-byte block of an engine: blocks 0–1,023 are data memory, 1,024–1,151 angle tables. -/
def auditBlock (s : State) (k n : Nat) : List Word :=
  let e := engAt s k
  (List.range 128).map fun i => if n < 1024 then memAt e.dm (128 * n + i) else memAt e.at' (128 * (n - 1024) + i)

/-- The running WARDEN heddle has time for one more block: 16 loom clocks each, from the ninth on. -/
def auditTime (s : State) (c : Nat) : Bool :=
  match heddleNow s c with
  | some h => h.kind == 3 && h.cls == 3 && decide (8 + 16 * ((cluAt s c).audits + 1) ≤ h.len)
  | none => false

/-- A block has been compared; a pass is complete when every block of every triplex cluster has been (R239). -/
def auditCount (c n : Nat) (s : State) : State :=
  let a := s.warden.audited.modify c (insertNat n)
  let s1 := modClu c (fun x => { x with audits := x.audits + 1 }) { s with warden.audited := a }
  if (List.range 4).all fun d => s.get (REED_CLST_MODE d) != 1 || (a.getD d []).length == 1152 then
    { s1.countWrap WARDEN_AUDIT_PASSES with warden.audited := List.replicate 4 [] }
  else s1

/-- `AUDIT_BLOCK` (R239): the warden compares one block of a triplex cluster across its engines, in a WARDEN heddle (R237). -/
def execAuditBlock (c n : Nat) (s : State) : Outcome State Fault Refusal :=
  run (fun s =>
    if 4 ≤ c || 1152 ≤ n || s.get (REED_CLST_MODE c) != 1 || !wardenRuns s || !auditTime s c then s
    else
      let v := fun e => blockCrc (auditBlock s (3 * c + e) n)
      let mis := fun s : State => setEvt 0x052 8 (s.count WARDEN_AUDIT_MIS)
      let s1 := auditCount c n s
      if v 0 = v 1 then (if v 1 = v 2 then s1 else minority (3 * c + 2) 0 0 true (mis s1))
      else if v 0 = v 2 then minority (3 * c + 1) 0 0 true (mis s1)
      else if v 1 = v 2 then minority (3 * c) 0 0 true (mis s1)
      else mis s1) s

/-- The H-die's write of `WARDEN.IRQIN` is applied (R105, R240): the number is queued, or lost when 16 wait. -/
def wardenIrqIn (n : Nat) (s : State) : State :=
  if 16 ≤ s.warden.irq.length then
    let s1 := setEvt 0x052 4 (s.count WARDEN_IRQLOST_COUNT)
    raiseF 18 3 (s1.get WARDEN_IRQLOST_COUNT % 65536) s1
  else
    let q := s.warden.irq ++ [n % 256]
    { (s.put WARDEN_IRQIN_SRC n).put WARDEN_STAT_IRQQ q.length with warden.irq := q }

/-- `WARDEN_IRQ_TAKE` (R240): the running warden takes the oldest entry, and stages the writes with which its firmware answers (R237).
(DESIGN CHOICE: log entry 149.) -/
def execWardenIrqTake (writes : List (Nat × Word)) (s : State) : Outcome State Fault Refusal :=
  run (fun s =>
    if wardenRuns s && !s.warden.irq.isEmpty then
      { s.put WARDEN_STAT_IRQQ (s.warden.irq.length - 1) with
        warden := { s.warden with irq := s.warden.irq.drop 1, staged := s.warden.staged ++ writes } }
    else s) s

/-- A write of `WARDEN.FWCTL` (Table 7-17, R250): the bits act in the order of their numbers. -/
def wardenFwctlWrite (w : Word) (s : State) : State :=
  let a := WARDEN_FWCTL_VERIFY.addr
  let st := s.get WARDEN_STAT_STBY
  if (w.getLsbD 0 && st != 1) || (w.getLsbD 1 && st != 2) then capture a 3 s
  else
    let s1 := if w.toNat / 8 = 0 then s else capture a 2 s
    let s2 := if w.getLsbD 0 then { s1 with warden.verifying := true } else s1
    let s3 := if w.getLsbD 1 then
        wardenRestart 3 ({ (s2.put WARDEN_FWVER_VER s2.warden.stbyVer) with warden := { s2.warden with svn := s2.warden.stbySvn, stby := [] } }.put
          WARDEN_STAT_STBY 0 |>.put WARDEN_FWSTBYV_VER 0)
      else s2
    if w.getLsbD 2 then
      { (s3.put WARDEN_STAT_STBY 0).put WARDEN_FWSTBYV_VER 0 with warden := { s3.warden with stby := [], verifying := false } }
    else s3

/-- `WARDEN_FW_VERIFY` (R250). -/
def execWardenFwVerify (s : State) : Outcome State Fault Refusal := run (wardenFwctlWrite 1) s
/-- `WARDEN_FW_ACTIVATE` (R250). -/
def execWardenFwActivate (s : State) : Outcome State Fault Refusal := run (wardenFwctlWrite 2) s
/-- `WARDEN_FW_ERASE` (R250). -/
def execWardenFwErase (s : State) : Outcome State Fault Refusal := run (wardenFwctlWrite 4) s

/-- The image in the warden's standby area (R250, R495). -/
def standbyImage (s : State) : Firmware :=
  let part := fun a n => allBytes (subBytes s.warden.stby a n) n
  let h := part 0 64
  let n := leAt h 0xC 4
  ⟨signerOf s (part (n - 160) 48), h, if n ≤ 0x80000 then part 0 n else []⟩

/-- `WARDEN_FWSTBY` (R250, R495): the verification of the standby image ends.
(DESIGN CHOICE: log entry 64.) -/
def execWardenFwstby (s : State) : Outcome State Fault Refusal :=
  run (fun s =>
    if !s.warden.verifying then s
    else
      let fw := standbyImage s
      let ok := firmwareOk s 2 fw
      let s1 := (s.put WARDEN_STAT_STBY (if ok then 2 else 3)).put WARDEN_FWSTBYV_VER (if ok then fw.version else 0)
      let s2 := { s1 with warden := { s1.warden with verifying := false, stbyVer := fw.version, stbySvn := fw.svn } }
      raiseF 18 2 (bit ok) (setEvt 0x052 2 s2)) s

/-- BULK data for the standby area (R250): it loads the area and aborts a verification. -/
def wardenBulk (off : Nat) (bs : List Byte) (s : State) : State :=
  if 524288 < off + bs.length then s
  else
    { (s.put WARDEN_STAT_STBY 1).put WARDEN_FWSTBYV_VER 0 with warden := { s.warden with stby := setBytes off bs s.warden.stby, verifying := false } }

end Sys2Proof.Machine
end

