-- ==== Sys2Proof/Machine/WeaveCheck.lean ====
section
/-! DEFINITION. The verification of a Weave image (R143–R146, R154, R162, R170–R174, Table 5-6) and the compatibility of images (R176, R182,
R183). -/

namespace Sys2Proof.Machine

/-! ### Plans -/

/-- Kinds: 0 CTRL, 1 RING, 2 GATE, 3 BG (Table 5-10); least lengths of R143. -/
def minLen (h : Heddle) : Nat := if h.kind = 2 then 64 else if h.kind = 3 then 16 else 8

/-- The heddles follow each other from `t` to the end of the budget region. -/
def covers : Nat → List Heddle → Bool
  | t, [] => t == 4185
  | t, h :: r => h.start == t && covers (t + h.len) r

/-- R143. -/
def planOk (p : List Heddle) : Bool :=
  2 ≤ p.length && p.length ≤ 32 && covers 0 p && (p.filter (·.kind == 2)).length == 1 &&
    p.all fun h => h.kind < 4 && minLen h ≤ h.len && (h.kind != 2 || h.len ≤ 256)

/-- Cause 0x08. -/
def plansOk (img : Image) : Bool :=
  (List.range 4).all fun c =>
    (img.plans.getD c []).all planOk && (img.pickmap.getD c []).all (· < (img.plans.getD c []).length) && 1 ≤ (img.pickmap.getD c []).length

/-- GATE and HAW heddles of a plan (R145). -/
def windows (p : List Heddle) : List (Nat × Nat × Bool) :=
  (p.filter fun h => h.kind == 2 || h.haw).map fun h => (h.start, h.len, h.kind == 2)

/-- Cause 0x09. -/
def gateOk (img : Image) : Bool :=
  (List.range 4096).all fun p => [1, 2, 3].all fun c => windows (planOf img c p) == windows (planOf img 0 p)

/-- Loom clocks of the budget region before the first window, after the last one, and the longest run between two. -/
def spacing (p : List Heddle) : Nat × Nat × Nat :=
  let ws := windows p
  match ws.head?, ws.getLast? with
  | some a, some z =>
    (a.1, 4185 - (z.1 + z.2.1), ((ws.zip (ws.drop 1)).foldl (fun (m : Nat) q => max m (q.2.1 - (q.1.1 + q.1.2.1))) 0))
  | _, _ => (4185, 4185, 4185)

/-- Cause 0x0A (R146): no run outside every window is longer than 2,092 lc; the end of one budget region and the start of the next are one
run. -/
def spacingOk (img : Image) : Bool :=
  (List.range 4096).all fun p =>
    let x := spacing (planOf img 0 p)
    let y := spacing (planOf img 0 ((p + 1) % 4096))
    x.2.2 ≤ 2092 && x.2.1 + y.1 ≤ 2092

/-- A core of an interleaved pair (Table 13-2). -/
def pairedCore (img : Image) (core : Nat) : Bool := img.adcPairs.testBit (core / 2)

/-- The word of a sequence entry (Table 13-2). -/
def seqWord (img : Image) (core e : Nat) : Nat := ((img.adcseq.find? fun x => x.core == core && x.entry == e).map (·.word)).getD 0

/-- Loom clocks of the conversion of an entry (R385, R387). -/
def convClocks (img : Image) (core w : Nat) : Nat := if pairedCore img core then 120 else 5 * (bitsAt w 5 6 + 20)

/-- Loom clocks of a run: the sum of its conversions, or 60 lc apart in a pair (R387). -/
def runClocks (img : Image) (x : SampleEntry) : Nat :=
  if pairedCore img x.core then 60 * (x.count - 1) + 120
  else (List.range x.count).foldl (fun n i => n + convClocks img x.core (seqWord img x.core (x.first + i))) 0

/-- R386: the entries that the image gives or that a run names have SAMPT 4 to 64, those of an interleaved pair 4, and no run names the odd
core of a pair. -/
def sequenceOk (img : Image) : Bool :=
  let ok := fun (core w : Nat) => let t := bitsAt w 5 6; 4 ≤ t && t ≤ 64 && (!pairedCore img core || t == 4)
  img.adcseq.all (fun e => ok e.core e.word) &&
    img.splans.all fun p => p.all fun x => !(pairedCore img x.core && x.core % 2 == 1) &&
      (List.range x.count).all fun i => ok x.core (seqWord img x.core (x.first + i))

/-- Cause 0x0B (R154): runs on one core do not overlap at 70 Hz, with thread length 53.2 ps; a core of URGMASK ends each run 100 ns before
the next. In units of 1/30 ps: a thread is 1,596, a loom clock 25,000. -/
def samplesOk (img : Image) : Bool :=
  sequenceOk img && img.splans.all fun p =>
    let z := p.zipIdx
    z.all fun x => z.all fun y =>
      x.1.core != y.1.core || y.2 ≤ x.2 ||
        x.1.thread * 1596 + runClocks img x.1 * 25000 + (if img.urgmask.testBit x.1.core then 3000000 else 0) ≤ y.1.thread * 1596

/-- BG loom clocks of a class in a pick. -/
def bgLen (img : Image) (c cls p : Nat) : Nat :=
  ((planOf img c p).filter fun h => h.kind == 3 && h.cls == cls).foldl (fun (a : Nat) h => a + h.len) 0

/-- Loom clocks of a class in `n` picks from p on. -/
def bgSum (img : Image) (c cls p n : Nat) : Nat := (List.range n).foldl (fun (a : Nat) i => a + bgLen img c cls ((p + i) % 4096)) 0

/-- Cause 0x0D (Table 5-3, R425): SCRUB 1,000 lc in 4,096 picks, REPAIR 32 and WARDEN 16 lc per pick over every 64 consecutive picks, TELEM
what the JOBS section declares for them. -/
def capacityOk (img : Image) : Bool :=
  (List.range 4).all fun c =>
    1000 ≤ bgSum img c 1 0 4096 && (List.range 4096).all fun p => 2048 ≤ bgSum img c 2 p 64 && 1024 ≤ bgSum img c 3 p 64 &&
      img.telem.getD c 0 ≤ bgSum img c 4 p 64

/-! ### The other checks of Table 5-6 -/

/-- Two ranges, each a start and a length, have nothing in common. -/
def apart (a la b lb : Nat) : Bool := min (a + la) (b + lb) ≤ max a b

/-- Cause 0x06: no overlap, within ILEN, known types, required sections present. -/
def sectionsOk (img : Image) : Bool :=
  let z := img.sections.zipIdx
  let has := fun ty c => img.sections.any fun s => s.ty == ty && s.cluster == c
  img.sections.all (fun s => 1 ≤ s.ty && s.ty ≤ 0xF && s.offset + s.length ≤ img.ilen) &&
    z.all (fun x => z.all fun y => y.2 ≤ x.2 || apart x.1.offset x.1.length y.1.offset y.1.length) &&
    (List.range 4).all (fun c => has 1 c && has 4 c && has 5 c) && img.sections.any (·.ty == 9) && img.sections.any (·.ty == 0xB)

/-- R29. -/
def mapOk (m : ConvMap) : Bool :=
  let cells := fun ph => (m.cells.drop (64 * ph)).take 64
  let active := fun ph => ((cells ph).filter fun c => c.ty != 0 && !c.spare).length
  let spare := fun ph => ((cells ph).filter fun c => c.ty != 0 && c.spare).length
  [0, 1, 2].all fun ph => 12 ≤ active ph && active ph ≤ 64 && active ph == active 0 && spare ph ≤ 8 && active ph + spare ph ≤ 64 &&
    headroom (active ph) m.vlink m.vll

/-- Cause 0x0E: no shared word has two owners; parameter entries lie within the store. -/
def mapsOk (img : Image) : Bool :=
  img.shared.all (fun x => img.shared.all fun y => x.2.2 == y.2.2 || apart x.1 x.2.1 y.1 y.2.1) &&
    img.pmap.all fun e => e.word + e.count ≤ 65536

/-- Cause 0x0C (R177): CODELEN, and data initialisation below the 16 KiB of the fallback. -/
def codeOk (img : Image) : Bool :=
  img.codelen.all (· ≤ 8192) && img.sections.all fun x => x.ty != 2 || x.load + x.length ≤ 496 * 1024

/-- The first failing check of Table 5-6 in table order; 0 when the image verifies (R162). The lifecycle state and the owner key stand in the
H-die's fuses: the F-die has them at once, also with the link down (log entry 135).
(DESIGN CHOICE: log entry 64.) -/
def verifyCause (s : State) (bank : Nat) (img : Image) : Nat :=
  if img.magic != 0x56574B4E || img.hver != 1 || img.hlen != 0x400 then 1
  else if img.ilen % 16 != 0 || 4194304 < img.ilen || s.get (WEAVE_RXB_END bank) < img.ilen then 2
  else if img.part != 0x0192 || 0xB0 < img.minstep then 3
  else if !Config.sigOk img.sig img.signed then 4
  else if !signerPermitted (fuseState s.sec.fuses) (ownerSet s.sec.fuses) false (keyClass s img.keyHash) then 5
  else if !sectionsOk img then 6
  else if !mapOk img.conv || img.conv.twin != img.twin || img.conv.unit != img.unit then 7
  else if !plansOk img then 8
  else if !gateOk img then 9
  else if !spacingOk img then 0xA
  else if !samplesOk img then 0xB
  else if !codeOk img then 0xC
  else if !capacityOk img then 0xD
  else if !mapsOk img then 0xE
  else if img.rxdone.any (fun r => r < 1024 || 4184 < r) then 0xF
  else 0

/-! ### Compatibility (R176, R183) -/

def paramCompat (new old : Image) : Bool := new.pmapH == old.pmapH || (old.pmapH != 0 && new.compat.contains old.pmapH)
def layoutCompat (new old : Image) : Bool := new.layH == old.layH && new.cmapH == old.cmapH
def hotCode (img : Image) : Bool := img.codelen.all (· ≤ 4096)

/-- The compatibility bits of both banks against the running image (Table 5-12b). -/
def refreshBanks (s : State) : State :=
  [0, 1].foldl (fun s b =>
    match (s.weave.banks.getD b Bank.empty).img with
    | none => ((s.put (WEAVE_BANK_HOTCODE b) 0).put (WEAVE_BANK_PCOMPAT b) 0).put (WEAVE_BANK_LCOMPAT b) 0
    | some n =>
      let old := if s.flag WEAVE_STAT_RUN then s.weave.img else none
      ((s.putB (WEAVE_BANK_HOTCODE b) (hotCode n)).putB (WEAVE_BANK_PCOMPAT b) ((old.map (paramCompat n)).getD false)).putB
        (WEAVE_BANK_LCOMPAT b) ((old.map (layoutCompat n)).getD false)) s

end Sys2Proof.Machine
end

