-- ==== Sys2Proof/Machine/WeaveRun.lean ====
section
/-! DEFINITION. The Weave (R141–R184, R557): heddles and background jobs, the fallback, banks and verification, switches, and the parameter
store. -/

namespace Sys2Proof.Machine

open Host (Outcome)

/-! ### Heddles (R142–R144, R159–R161) -/

/-- Engines of a cluster that issue: they run, or their target is in probation (R222, R230). -/
def issuers (s : State) (c : Nat) : List Nat :=
  ((List.range 3).map (3 * c + ·)).filter fun k =>
    s.get (LOOM_STAT_STATE k) == 1 || (s.get (LOOM_STAT_STATE k) == 4 && s.flag (REED_ENGST_PROB k))

/-- The clocks of a cluster's engines reach loom clock `t` of the pick; results that are due land, those of a stopped engine too (R216). -/
def clockTo (c t : Nat) (s : State) : State :=
  [3 * c, 3 * c + 1, 3 * c + 2].foldl (fun s k =>
    landDue k (modEng k (fun e => { e with now := e.now + (t - e.lc), lc := max e.lc t }) s)) s

/-- The state of a background job at its park point (R188). -/
def parkOf (e : Eng) : Park :=
  ⟨e.pc, e.branch, e.shadowB, e.loops, e.g.drop 48, e.p.drop 6, e.a.getD 3 0, e.acc.getD 3 0, e.modeB, e.flagsB, e.fcapB, e.lnkB⟩

/-- A parked job resumes (R188). -/
def unpark (p : Park) (e : Eng) : Eng :=
  { e with pc := p.pc, branch := p.branch, shadowB := p.shadow, loops := p.loops, g := e.g.take 48 ++ p.g, p := e.p.take 6 ++ p.p,
           a := e.a.set 3 p.a3, acc := e.acc.set 3 p.acc3, modeB := p.mode, flagsB := p.flags, fcapB := p.fcap, lnkB := p.lnk }

/-- A job starts or resumes on an engine. A MODE change that its JEND left pending comes into its context's next bundles (R215). -/
def startJob (j entry : Nat) (e : Eng) : Eng :=
  let e1 := { e with bg := true, running := true, ended := false, job := some j, rom := false, bundle := [] }
  match e.park.lookup j with
  | some p => unpark p e1
  | none => { e1 with pc := entry, branch := none, loops := [] }

/-- The background context leaves the engine: the job parks, or its entry is dropped when it has ended. -/
def parkJob (e : Eng) : Eng :=
  if !e.bg then e
  else match e.job with
    | none => { e with bg := false, running := false }
    | some j =>
      let rest := e.park.filter (·.1 != j)
      { e with bg := false, running := false, job := none, branch := none, loops := [], bundle := [],
               shadowB := if e.ended then e.shadowB else none, park := if e.ended then rest else (j, parkOf e) :: rest }

/-- Jobs that end on every issuing engine leave the cluster's list of unfinished jobs. -/
def jobsEnded (c : Nat) (s : State) : State :=
  let ks := issuers s c
  match (ks.head?).map (engAt s) with
  | some e => match e.job with
    | some j => if e.bg && e.ended then modClu c (fun x => { x with late := x.late.filter (·.1 != j), missed := x.missed.filter (· != j) }) s else s
    | none => s
  | none => s

/-- Park the background work of a cluster. -/
def parkAll (c : Nat) (s : State) : State := (issuers s c).foldl (fun s k => modEng k parkJob s) (jobsEnded c s)

/-- Start the job of a LOOM heddle or of SLACK, unless the F-die throttles (R418) or the job has ended for its period. -/
def runJob (c j : Nat) (s : State) : State :=
  match jobOf s c j with
  | none => s
  | some x =>
    if 2 ≤ s.get FTHERM_STAT_LEVEL || !(cluAt s c).late.any (·.1 == j) then s
    else (issuers s c).foldl (fun s k => (modEng k (startJob j x.entry) s).put (LOOM_STAT_CTX k) 1) s

/-- Heddle `i` of the cluster's plan starts: CTRL and RING issue from their entry, LOOM runs its job. -/
def startHeddle (c i : Nat) (s : State) : State :=
  match (planNow s c)[i]? with
  | none => s
  | some h =>
    let s0 := [0, 1, 2].foldl (fun s e => (s.put (LOOM_STAT_HEDDLE (3 * c + e)) i).put (LOOM_STAT_CTX (3 * c + e)) 0) (clockTo c h.start s)
    let s1 := modClu c (fun x => { x with heddle := some i, audits := 0 }) s0
    if h.kind < 2 then
      (issuers s1 c).foldl (fun s k => modEng k (fun e =>
        { e with bg := false, running := true, ended := false, pc := h.entry, rom := s.flag WEAVE_STAT_FB, bundle := [], lastAttr := none })
        s) s1
    else if h.kind = 3 && h.cls = 0 then runJob c h.job s1
    else s1

/-- SLACK begins: the cluster's optional job runs (R142, Table 5-8). -/
def startSlack (c : Nat) (s : State) : State :=
  let s1 := modClu c (fun x => { x with heddle := none }) (clockTo c 4185 s)
  match s1.weave.img with
  | some i => let j := i.slackjob.getD c 15; if s1.flag WEAVE_STAT_FB || j = 15 then s1 else runJob c j s1
  | none => s1

/-- Hardware work of a BG heddle that ends: the scrub pass, or the copy of a repair attempt (R228, R424). -/
def bgWork (c : Nat) (h : Heddle) (s : State) : State :=
  if h.cls = 1 then
    let l := s.heat.scrubLeft
    let l' := l.set c (l.getD c 0 - h.len)
    let s1 := { s with heat.scrubLeft := l' }
    if l.any (0 < ·) && l'.all (· == 0) then s1.countWrap FTHERM_SCRUB_PASSES else s1
  else if h.cls = 2 && s.flag (REED_CLST_REP c) && !s.flag (REED_CLST_PROB c) then
    let k := 3 * c + s.get (REED_CLST_REPENG c)
    let t := (cluAt s c).repTime + h.len
    modClu c (fun x => { x with repTime := t }) (s.put (REED_ENGST_PROG k) (min copyUnits t))
  else s

/-- The engines whose foreground code has not reached its end marker in the heddle whose last loom clock is `lc`: OVERRUN (R163, R165). -/
def overrun (c lc : Nat) (s : State) : State :=
  let bad := (issuers s c).filter fun k => (engAt s k).running && !(engAt s k).ended
  let s1 := bad.foldl (fun s k =>
    stopEngine k 4 1 (engAt s k).lastAttr true lc
      (if s.get (LOOM_STAT_STATE k) = 1 then { s with weave.viols := s.weave.viols ++ [(c, k % 3, 1)] } else s)) s
  if bad.isEmpty then s1 else voteChecks c s1

/-- `HEDDLE_END` (R163): the running heddle of cluster `c` ends: overrun is checked, jobs park, hardware work is done, and the next heddle or
SLACK starts. -/
def execHeddleEnd (c : Nat) (s : State) : Outcome State Fault Refusal :=
  run (fun s =>
    if !s.flag WEAVE_STAT_RUN || 4 ≤ c then s
    else match (cluAt s c).heddle with
      | none => s
      | some i => match (planNow s c)[i]? with
        | none => s
        | some h =>
          let s1 := clockTo c (h.start + h.len) s
          let s2 := if h.kind < 2 then overrun c (h.start + h.len - 1) s1 else if h.kind = 3 && h.cls = 0 then parkAll c s1 else if h.kind = 3 then bgWork c h s1 else s1
          if i + 1 < (planNow s c).length then startHeddle c (i + 1) s2 else startSlack c s2) s

/-- An unfinished job has passed its deadline, counted in picks from the start of its period (R160). -/
def overdue (s : State) (c : Nat) (j : Job) : Bool :=
  match (cluAt s c).late.lookup j.job with
  | some start => start + j.deadline ≤ absPick s
  | none => false

/-- A deadline is missed, once in a period (R160). -/
def missDeadline (c job : Nat) (s : State) : State :=
  if (cluAt s c).missed.contains job then s
  else
    let s1 := ((s.count WEAVE_BGSTAT_MISSES).put WEAVE_BGSTAT_JOB job).put WEAVE_BGSTAT_CLUSTER c
    raiseF 16 7 (job % 16 + 16 * c) (setEvt 0x041 0x80 (modClu c (fun x => { x with missed := insertNat job x.missed }) s1))

/-- `BG_DEADLINE` (R160): a job has not ended by its deadline; it restarts from its entry in its next period. -/
def execBgDeadline (c job : Nat) (s : State) : Outcome State Fault Refusal :=
  run (fun s => match jobOf s c job with
    | some j => if s.flag WEAVE_STAT_RUN && !s.flag WEAVE_STAT_FB && overdue s c j then missDeadline c job s else s
    | none => s) s

/-- A job restarts from its entry: registers, MODE_B and FLAGS_B keep what it last parked with (R188). -/
def restartPark (entry : Nat) (p : Park) : Park := { p with pc := entry, branch := none, shadow := none, loops := [] }

/-- A period of a job begins (R160): a job that has ended, or missed its deadline, starts from its entry; one that is still within its deadline
goes on. -/
def jobPeriod (c : Nat) (j : Job) (s : State) : State :=
  let running := (cluAt s c).late.any (·.1 == j.job)
  if running && !overdue s c j then s
  else
    let s1 := if running then
        [0, 1, 2].foldl (fun s e => modEng (3 * c + e) (fun g =>
          { g with park := g.park.map fun p => if p.1 = j.job then (p.1, restartPark j.entry p.2) else p }) s) (missDeadline c j.job s)
      else s
    modClu c (fun x => { x with late := (j.job, absPick s) :: x.late.filter (·.1 != j.job), missed := x.missed.filter (· != j.job) }) s1

/-- The jobs whose period begins in this pick (R160). The rule gives the periods no origin: here they count from the pick in which the image
began to issue (DESIGN CHOICE: log entry 147). -/
def jobPeriods (c : Nat) (s : State) : State :=
  match s.weave.img with
  | none => s
  | some i =>
    if s.flag WEAVE_STAT_FB then s
    else (i.jobs.filter fun j => j.cluster == c && (absPick s - s.weave.began) % max 1 j.period == 0).foldl (fun s j => jobPeriod c j s) s

/-- The sample plan of the present pick: those of an image run on under the fallback (R557). -/
def samplePlan (s : State) : List SampleEntry :=
  if !s.flag WEAVE_STAT_RUN then []
  else match s.weave.img with
    | some i => i.splans.getD (i.smap.getD (pickOf s % max 1 i.smap.length) 0) []
    | none => []

/-- The result words that the present pick's plan converts (R163, check 0x2). -/
def scheduled (s : State) : List Nat :=
  ((samplePlan s).map fun x => if x.buf < 240 then (List.range x.count).map (16 * x.buf + ·) else []).flatten

/-- A cluster's pick ends: SLACK's job parks, and the records of the last clocks wait for their commit in the next pick (R149), unless the
cluster commits no further record of the pick (R164). -/
def clusterEnd (c : Nat) (s : State) : State :=
  let s1 := parkAll c (clockTo c s.warp.lenPrev s)
  let keep := fun rs : List Rec => if s1.weave.noCommit.getD c false then [] else rs.map fun r => { r with old := true }
  let s2 := [0, 1, 2].foldl (fun s e => modEng (3 * c + e) (fun g => { g with lc := 0, recs := keep g.recs }) s) s1
  modClu c (fun x => { x with rxDone := false, heddle := none }) { s2 with weave.noCommit := s2.weave.noCommit.set c false }

/-- A cluster's pick starts with the plan of the pick. No chapter says which pick 0x01D0 of Table 3-23 calls the cluster's last committed one:
the model takes the pick that starts, while the reed has not stopped the cluster (DESIGN CHOICE: log entry 9). -/
def clusterStart (c : Nat) (s : State) : State :=
  let n := match s.weave.img with
    | some i => if s.flag WEAVE_STAT_FB then 0 else planNo i c (pickOf s)
    | none => 0
  let s1 := [0, 1, 2].foldl (fun s e => s.put (LOOM_STAT_PLAN (3 * c + e)) n) s
  let d := scheduled s1
  startHeddle c 0 (jobPeriods c (modClu c (fun x => { x with lastCommit := if s.get (REED_CLST_MODE c) = 3 then x.lastCommit else stamp s1, due := d }) s1))

/-- The clusters start the present pick. -/
def startClusters (s : State) : State :=
  clusterStart 3 (clusterStart 2 (clusterStart 1 (clusterStart 0 { s with weave.deferred := false })))

/-! ### Contexts at a start (R187, R222) -/

/-- Both contexts of every engine are reset (R187); memories are kept, and so are the records that have yet to commit (R180). -/
def resetContexts (s : State) : State :=
  { s with loom := s.loom.map fun e =>
      { Eng.reset with im := e.im, dm := e.dm, at' := e.at', eccCycle := e.eccCycle, now := e.now, recs := e.recs } }

/-- An engine begins to issue and to vote. -/
def engineRuns (k : Nat) (s : State) : State :=
  let s1 := setEngState k 1 (s.put (REED_ENGST_VOTE k) 1)
  s1.put (REED_CLST_VOTE (k / 3)) (voteMask s1 (k / 3))

/-- A cluster's MODE from its voters; one left with fewer than two is stopped (R225, R235). -/
def clusterMode (c : Nat) (s : State) : State :=
  let n := (voters s c).length
  if s.get (REED_CLST_MODE c) = 3 then s
  else if n < 2 then reedStop c 1 s
  else s.put (REED_CLST_MODE c) (if n = 3 then 1 else 2)

/-! ### The fallback (R166–R169, R235) -/

/-- A switch is refused (Table 5-11). -/
def refuseSwitch (b cause : Nat) (s : State) : State :=
  let s1 := { s with weave := { s.weave with armed := none, due := none } }
  raiseF 16 4 (b + 256 * cause) (setEvt 0x041 8 (((s1.put WEAVE_SWSTAT_STATE 4).put WEAVE_SWSTAT_CAUSE cause).put WEAVE_STAT_SWPEND 0))

/-- A switch that was confirmed for the boundary at which the fallback starts is refused: it is a hot one, or its cells switch, and only a cold
switch with every cell blocked leaves the fallback (R169, R176).
(DESIGN CHOICE: log entry 143.) -/
def refuseDue (s : State) : State :=
  match s.weave.due with
  | some (b, _) => refuseSwitch b 7 s
  | none => s

/-- All clusters take up the fallback in the present pick, with `cause` (R166). The engines that the reed holds STOPPED or OUT for a check that
a majority reported run again (R235). -/
def startFallback (cause : Nat) (s : State) : State :=
  let restart := fun (k : Nat) (s : State) =>
    let st := s.get (LOOM_STAT_STATE k)
    s.weave.majStop.getD k false && (st = 2 || st = 3) && s.get (REED_ENGST_LASTCAUSE k) = 4
  let s1 := (List.range 4).foldl (fun s c => abandonAttempt c s) (refuseDue s)
  let s2 := (List.range 12).foldl (fun s k => if restart k s || s.get (LOOM_STAT_STATE k) = 0 then engineRuns k s else s) s1
  let wv := { s2.weave with fbPend := none, fbWhileLoading := none, fbZero := false, fbBlocked := false, majStop := List.replicate 12 false,
                            fbFactor := if s2.weave.stopped.any id then 0 else 1 }
  let s3 := resetContexts { s2 with weave := { wv with noCommit := List.replicate 4 false, viols := [] } }
  let b := s.get WEAVE_STAT_ACT
  let s4 := (((s3.put WEAVE_STAT_FB 1).put WEAVE_STAT_RUN 1).put WEAVE_STAT_FBCAUSE cause).put (WEAVE_BANK_STATE b) 3
  let st := stamp s4
  let s5 := (s4.put WEAVE_LASTSW_LO_STAMP (st.extractLsb' 0 32).toNat).put WEAVE_LASTSW_HI_STAMP (st.extractLsb' 32 32).toNat
  let s6 := (List.range 12).foldl (fun s k => s.put (LOOM_STAT_FBROM k) 1) s5
  let s7 : State := { s6 with cells := s6.cells.map (fun c => { c with dl := { c.dl with pxfer := 0 } }) }
  (List.range 4).foldl (fun s c => clusterMode c s) (raiseF 19 1 cause (setEvt 0x041 0x20 s7))

/-- `FALLBACK_START` (R166): all clusters run the fallback Weave from loom clock 0 of the pick after a converter fault, whose boundary has
come.
(DEDUCED: log entry 65.) -/
def execFallbackStart (s : State) : Outcome State Fault Refusal :=
  run (fun s => match s.weave.fbPend with
    | some cause => if s.weave.deferred then startClusters (startFallback cause s) else s
    | none => s) s

/-- `FALLBACK_RAMP_DONE` (R167): the references have reached zero; GRID_OPEN is asserted. -/
def execFallbackRampDone (s : State) : Outcome State Fault Refusal :=
  run (fun s =>
    if s.flag WEAVE_STAT_FB && !s.weave.fbZero && s.weave.fbFactor = 0 then
      assertOpen { s with weave := { s.weave with fbZero := true, fbZeroAt := absPick s } }
    else s) s

/-- `FALLBACK_BLOCK` (R167): two cycles later the block control is set in every downlink segment. -/
def execFallbackBlock (s : State) : Outcome State Fault Refusal :=
  run (fun s =>
    if s.flag WEAVE_STAT_FB && s.weave.fbZero && s.weave.fbZeroAt + 8192 ≤ absPick s then { s with weave.fbBlocked := true } else s) s

/-- The references' factor falls by one pick of the 20 ms ramp (R167). -/
def fallbackPick (s : State) : State :=
  if s.flag WEAVE_STAT_FB && !s.weave.fbZero then
    { s with weave.fbFactor := ratMax 0 (s.weave.fbFactor - tPick s / (1 / 50)) }
  else s

/-! ### Banks (R175) -/

def modBank (b : Nat) (f : Bank → Bank) (s : State) : State := { s with weave.banks := s.weave.banks.modify b f }

/-- A bank is named by the armed switch, by a confirmed one, or by a loading one. -/
def bankArmed (s : State) (b : Nat) : Bool :=
  (match s.weave.armed with
   | some x => x.bank == b
   | none => false) || (match s.weave.due with
   | some x => x.1 == b
   | none => false) || s.weave.loading == some b

/-- Identifiers and hash of a bank (Tables 5-12d and 5-12m). -/
def putBankId (b : Nat) (img : Option Image) (s : State) : State :=
  let id := (img.map (·.imgid)).getD 0
  let h := (img.map (·.hash)).getD 0
  let s1 := (s.put (WEAVE_ID_LO_IMGID b) (id % 2 ^ 32)).put (WEAVE_ID_HI_IMGID b) (id / 2 ^ 32)
  (List.range 12).foldl (fun s i => s.put (if b = 0 then WEAVE_HASH0_H i else WEAVE_HASH1_H i) (bitsAt h (32 * i) 32)) s1

/-- A bank loses its verified image. -/
def clearBank (b st : Nat) (s : State) : State :=
  refreshBanks (putBankId b none ((modBank b (fun x => { x with img := none }) s).put (WEAVE_BANK_STATE b) st))

/-- BULK data for bank b (R175). -/
def weaveBulk (b off xfer : Nat) (bs : List Byte) (s : State) : State :=
  let st := s.get (WEAVE_BANK_STATE b)
  if st = 5 || bankArmed s b then setEvt 0x041 0x100 s
  else
    let s1 := if st = 1 then s else clearBank b 1 s
    let s2 := modBank b (fun x => { x with content := setBytes off bs x.content, load := swarp s }) s1
    (s2.put (WEAVE_BANK_XFER b) xfer).put (WEAVE_RXB_END b) (max (s2.get (WEAVE_RXB_END b)) (off + bs.length))

/-- A write of `WEAVE.CTL` (Table 5-12e). -/
def weaveCtlWrite (w : Word) (s : State) : State :=
  let a := WEAVE_CTL_VERIFY.addr
  let b := bitsAt w.toNat 1 1
  let st := s.get (WEAVE_BANK_STATE b)
  if (w.getLsbD 0 && st != 1) || (w.getLsbD 2 && (st = 5 || bankArmed s b)) then capture a 3 s
  else
    let s1 := (if w.toNat / 8 = 0 then s else capture a 2 s).put WEAVE_CTL_BANK b
    let s2 := if w.getLsbD 0 then s1.put (WEAVE_BANK_STATE b) 2 else s1
    if w.getLsbD 2 then
      modBank b (fun _ => Bank.empty) (((clearBank b 0 s2).put (WEAVE_RXB_END b) 0).put (WEAVE_BANK_CAUSE b) 0)
    else s2

/-- `WEAVE_VERIFY` (R162). -/
def execWeaveVerify (bank : Nat) (s : State) : Outcome State Fault Refusal := run (weaveCtlWrite (word (1 + 2 * (bank % 2)))) s
/-- `WEAVE_ERASE` (R175). -/
def execWeaveErase (bank : Nat) (s : State) : Outcome State Fault Refusal := run (weaveCtlWrite (word (4 + 2 * (bank % 2)))) s

/-- REGION as it stands on the F-die once the H-die has passed it (R463): while the link is down the last one stays.
(DESIGN CHOICE: log entry 135.) -/
def regionNow (s : State) : Nat := if s.link.up then s.get SEAL_REC_REGION else s.weave.region

/-- `IMAGE_VERIFIED` (R162): the verification of a bank ends. The image is what the bank's bytes hold (R170, R175), with the profile of the
sealed record's region (R463); `o` is what the sections hold whose layout the spec does not give.
(DESIGN CHOICE: log entry 64.) -/
def execImageVerified (bank : Nat) (o : OpenSections) (s : State) : Outcome State Fault Refusal :=
  run (fun s =>
    if 2 ≤ bank || s.get (WEAVE_BANK_STATE bank) != 2 then s
    else
      let img := readImage (s.weave.banks.getD bank Bank.empty).content (regionNow s) o
      let cause := verifyCause s bank img
      let s0 : State := { s with weave := { s.weave with region := regionNow s } }
      if cause = 0 then
        let s1 := (modBank bank (fun x => { x with img := some img }) s0).put (WEAVE_BANK_STATE bank) 3 |>.put (WEAVE_BANK_CAUSE bank) 0
        let s2 := loadMode img (refreshBanks (putBankId bank (some img) s1))
        let s3 := raiseF 16 1 bank (setEvt 0x041 1 s2)
        if img.twin then stopPartnerLanes (twinArrives s3) else s3
      else raiseF 16 2 (bank + 256 * cause) (setEvt 0x041 2 ((s0.put (WEAVE_BANK_STATE bank) 4).put (WEAVE_BANK_CAUSE bank) cause))) s

/-! ### Switches (R176–R181) -/

/-- Every cell is blocked, by its report or by the block control (R63, R176). -/
def allBlocked (s : State) : Bool :=
  blockForced s || (List.range 192).all fun g => !populated s g || s.flag (CELL_STATE_BLK g)

/-- What a switch to a bank would be: hot, cold, or a refusal cause of Table 5-11 (R176); `late` for the check of pick 4,095, which alone can
compare what the partner reports (R181). R176 asks of a hot switch only that the new image has at most 4,096 bundles, also where the running
one fills both halves; the preload then overwrites its upper half (DESIGN CHOICE: log entry 162). -/
def switchKind (s : State) (b c : Nat) (late : Bool) : Nat ⊕ Bool :=
  match (s.weave.banks.getD b Bank.empty).img with
  | none => .inl 1
  | some n =>
    let coldOk := s.flag WEAVE_SWCTL_COLDOK
    let old := if s.flag WEAVE_STAT_RUN && !s.flag WEAVE_STAT_FB then s.weave.img else none
    let hotCause := match old with
      | none => 7
      | some o => if !layoutCompat n o then 2 else if !paramCompat n o then 3 else if !hotCode n then 4 else 0
    if s.get (WEAVE_BANK_STATE b) != 3 || fShutdown s then .inl 1
    else if hotCause != 0 && !coldOk then .inl hotCause
    else if late && n.twin && s.weave.partnerArm != some (n.twinHash, c) then .inl 6
    else if hotCause != 0 && !(s.pwr.gridOpen == some true && allBlocked s) then .inl 7
    else if n.twin != s.weave.mode.testBit 0 || n.unit != s.weave.mode.testBit 1 then .inl 9
    else .inr (hotCause != 0)

/-- Words of instruction memory from word `lo` on, `n` of them, take the code of an image; the rest stay. -/
def loadIm (lo n : Nat) (code im : List (Nat × Word)) : List (Nat × Word) :=
  im.filter (·.1 < lo) ++ (code.filter (·.1 < n)).map (fun p => (lo + p.1, p.2)) ++ im.filter (lo + n ≤ ·.1)

/-- The code of an image comes into an engine's instruction memory: into half `h`, or into the whole when a cluster has more than 4,096
bundles (R172). -/
def loadCode (n : Image) (h k : Nat) (e : Eng) : Eng :=
  let code := n.code.getD (k / 3) []
  { e with im := if hotCode n then loadIm (h * 32768) 32768 code e.im else loadIm 0 65536 code e.im }

/-- The code half of a hot switch is preloaded through the load port while the switch is armed (R172, R178). -/
def preload (n : Image) (s : State) : State := (List.range 12).foldl (fun s k => modEng k (loadCode n (1 - s.weave.half) k) s) s

/-- The preload of a switch that is found to be hot. -/
def preloadHot (b : Nat) (cold : Bool) (s : State) : State :=
  match (s.weave.banks.getD b Bank.empty).img with
  | some n => if cold then s else preload n s
  | none => s

/-- The host cancels the armed switch, which the twin burst of the pick tells the partner (R181). -/
def hostCancel (s : State) : State :=
  cancelSwitch { s with twin.cancelled := s.twin.cancelled ++ (ownArmed s).toList }

/-- A write of `WEAVE.SWCTL` that executes at loom clock `lc` (Table 5-12f, R178): two cycles after loom clock 0 of pick 0 lies a cycle
boundary. After the check of pick 4,095 a CANCEL finds no armed switch, though SWPEND reads 1 until the boundary, and a write with GO while a
switch is armed or confirmed is refused whole, CANCEL with it (DESIGN CHOICE: log entry 159). -/
def swctlWrite (lc : Nat) (w : Word) (s : State) : State :=
  let a := WEAVE_SWCTL_GO.addr
  if w.getLsbD 0 && (s.weave.armed.isSome || s.weave.due.isSome) then capture a 3 s
  else
    let s1 := if w.toNat / 32 = 0 then s else capture a 2 s
    let s2 := ((s1.put WEAVE_SWCTL_BANK (bitsAt w.toNat 1 1)).put WEAVE_SWCTL_ATCYC (bitsAt w.toNat 2 1)).put WEAVE_SWCTL_COLDOK (bitsAt w.toNat 4 1)
    let s3 := if w.getLsbD 3 then hostCancel s2 else s2
    if !w.getLsbD 0 then s3
    else
      let b := bitsAt w.toNat 1 1
      let now := cycleOf s3
      let soon := if pickOf s3 = 0 && lc = 0 then now + 2 else now + 3
      let c := if w.getLsbD 2 then s3.get WEAVE_SWCYC_LO_CYC + 2 ^ 32 * s3.get WEAVE_SWCYC_HI_CYC else soon
      let s4 := s3.put WEAVE_SWSTAT_POSTP 0
      match switchKind s4 b c false with
      | .inl cause => refuseSwitch b (if cause < 5 || soon ≤ c then cause else 5) s4
      | .inr cold =>
        if c < soon then refuseSwitch b 5 s4
        else preloadHot b cold
          ((({ s4 with weave.armed := some ⟨b, c, absPick s4⟩ }.put WEAVE_SWSTAT_STATE 1).put WEAVE_SWSTAT_CAUSE 0).put WEAVE_STAT_SWPEND 1)

/-- `SWITCH_GO` (R178): at loom clock `lc` of the pick. -/
def execSwitchGo (value : Word) (lc : Nat) (s : State) : Outcome State Fault Refusal := run (swctlWrite lc (value ||| 1)) s
/-- `SWITCH_CANCEL` (R181): CANCEL with the other fields as they stand. -/
def execSwitchCancel (s : State) : Outcome State Fault Refusal :=
  run (fun s => swctlWrite 0 (word (8 + 2 * s.get WEAVE_SWCTL_BANK + 4 * s.get WEAVE_SWCTL_ATCYC + 16 * s.get WEAVE_SWCTL_COLDOK)) s) s

/-- A cluster is duplex or in repair (R179). -/
def anyRepair (s : State) : Bool := (List.range 4).any fun c => s.get (REED_CLST_MODE c) == 2 || s.flag (REED_CLST_REP c)

/-- `SWITCH_CHECK` (R179): at pick 4,095 of cycle C − 1 the switch is postponed, refused or confirmed. In twin mode a unit that postpones does
not keep the other from switching on the report that stands (DESIGN CHOICE: log entry 163).
(DEDUCED: log entry 121.) -/
def execSwitchCheck (s : State) : Outcome State Fault Refusal :=
  run (fun s => match s.weave.armed with
    | none => s
    | some x =>
      if pickOf s != 4095 || cycleOf s + 1 != x.cycle then s
      else if anyRepair s then
        if s.get WEAVE_SWSTAT_POSTP = 64 then refuseSwitch x.bank 8 s
        else
          let s1 := ({ s with weave.armed := some { x with cycle := x.cycle + 1 } }.count WEAVE_SWSTAT_POSTP).put WEAVE_SWSTAT_STATE 2
          raiseF 16 8 (s1.get WEAVE_SWSTAT_POSTP) (setEvt 0x041 0x200 s1)
      else match switchKind s x.bank x.cycle true with
        | .inl cause => refuseSwitch x.bank cause s
        | .inr cold => preloadHot x.bank cold { s with weave := { s.weave with armed := none, due := some (x.bank, cold) } }) s

/-- Staged PARAM writes that have arrived are discarded at an incompatible switch, each recorded with cause 0x8 (R183). -/
def discardParams (s : State) : State :=
  let isParam := fun a : Nat => 0x80 ≤ pageOf a && pageOf a < 0xC0
  (s.link.arrived.filter fun x => isParam x.1).foldl (fun s x =>
    let n := (x.1 - 0x80000) / 4
    raiseF 16 6 n (setEvt 0x041 0x40 (((s.put WEAVE_PERR_WORD n).put WEAVE_PERR_CAUSE 8).count WEAVE_PERR_COUNT)))
    { s with link.arrived := s.link.arrived.filter fun x => !isParam x.1 }

/-- Words that are not 0, keys rising. -/
def wordMap (ws : List (Nat × Word)) : List (Nat × Word) := ws.foldl (fun m p => memSet p.1 p.2 m) []

/-- `ADC.STAT` follows the running image's PAIRS and URGMASK. -/
def adcRefresh (s : State) : State :=
  match s.weave.img with
  | none => s
  | some i => (List.range 8).foldl (fun s c =>
      ((s.putB (ADC_STAT_PAIRED c) (i.adcPairs.testBit (c / 2) && c % 2 == 0)).putB (ADC_STAT_SLAVE c)
        (i.adcPairs.testBit (c / 2) && c % 2 == 1)).putB (ADC_STAT_URG c) (i.urgmask.testBit c)) s

/-- A cold switch (R179, R180): the clusters stop and the image of bank `b` is loaded; parameters stay when their sets agree. The records that
the old image issued in its last 6 clocks commit all the same, into the cleared store where they are shared-state writes (DESIGN CHOICE: log
entry 161). -/
def coldSwitch (n : Image) (b : Nat) (compat : Bool) (s : State) : State :=
  let s1 := if compat then s else { discardParams s with weave.params := wordMap n.paramdef }
  let half := if hotCode n && s1.weave.img.isSome then 1 - s1.weave.half else 0
  let wv := { s1.weave with img := some n, shared := [], loading := some b, half := half, deferred := false }
  let s2 := edgeStop { s1 with weave := { wv with fbZero := false, fbBlocked := false, fbPend := none } }
  refreshBanks (((s2.put WEAVE_STAT_COLD 1).put WEAVE_STAT_RUN 0).put WEAVE_STAT_FB 0)

/-- A hot switch (R172, R176): the image runs from the other half of instruction memory. -/
def hotSwitch (n : Image) (s : State) : State :=
  let h := 1 - s.weave.half
  let s1 := { s with weave := { s.weave with img := some n, half := h, began := absPick s } }
  startClusters (refreshBanks (adcRefresh ((List.range 12).foldl (fun s k => s.put (LOOM_STAT_HALF k) h) s1)))

/-- `WEAVE_SWITCH` (R180): at the cycle boundary the confirmed switch takes place, hot or cold, before the pick's first heddle; a fallback
that starts at the same boundary comes first (log entry 143). -/
def execWeaveSwitch (s : State) : Outcome State Fault Refusal :=
  run (fun s => match s.weave.due with
    | none => s
    | some (b, cold) => match (s.weave.banks.getD b Bank.empty).img with
      | none => s
      | some n =>
        if pickOf s != 0 || !s.weave.deferred || s.weave.fbPend.isSome then s
        else
          let ran := s.flag WEAVE_STAT_RUN
          let old := s.get WEAVE_STAT_ACT
          let compat := match s.weave.img with
            | some o => ran && paramCompat n o
            | none => false
          let s1 := if ran && !s.flag WEAVE_STAT_FB && old != b then s.put (WEAVE_BANK_STATE old) 3 else s
          let s2 := ((s1.put (WEAVE_BANK_STATE b) 5).put WEAVE_STAT_ACT b).put WEAVE_STAT_SWPEND 0
          let st := stamp s2
          let s3 := (s2.put WEAVE_LASTSW_LO_STAMP (st.extractLsb' 0 32).toNat).put WEAVE_LASTSW_HI_STAMP (st.extractLsb' 32 32).toNat
          let s4 := raiseF 16 3 (b + 2 * bit cold) (setEvt 0x041 4 ((s3.put WEAVE_SWSTAT_STATE 3).putB WEAVE_SWSTAT_COLDSW cold))
          let s5 := (List.range 4).foldl (fun s c => modClu c (fun x => { x with late := [], missed := [] }) s) (resetContexts { s4 with weave.due := none })
          if cold then coldSwitch n b compat s5 else hotSwitch n s5) s

/-! ### The start of an image after a cold switch -/

/-- The page of an unpopulated position reads 0 beyond its header (R32). -/
def clearCellPage (g : Nat) (s : State) : State :=
  [0x44, 0x48, 0x4C, 0x50, 0x54, 0x58].foldl (fun s o => s.setRaw ((0x100 + g) * 0x1000 + o) 0) s

/-- Cells take their types and roles from the map (R17, Tables 1-6 and 1-7); the lanes that a twin unit does not terminate stop. -/
def applyMap (n : Image) (s : State) : State :=
  stopPartnerLanes <|
  (List.range 192).foldl (fun s g =>
    let m := n.conv.cells.getD g noCell
    let s1 := ((s.put (CELL_CFG_TYPE g) m.ty).putB (CELL_CFG_SPARE g) m.spare).putB (CELL_CFG_INLOSS g) m.inloss
    if m.ty = 0 then clearCellPage g (setCellState g 0 (modCell g (fun _ => CellSt.reset) s1))
    else if cellState s1 g = 0 then setCellState g 1 (noReference g (m.ty == 2) s1)
    else s1) s

/-- Code, data memory and angle tables of an engine from the image (Table 5-9). Words that DATAINIT and ANGLE do not give read 0, those of the
fallback's 16 KiB included (DESIGN CHOICE: log entry 160). -/
def loadEngine (n : Image) (h k : Nat) (e : Eng) : Eng :=
  loadCode n h k
    { Eng.reset with im := e.im, dm := wordMap ((n.dataInit.getD (k / 3) []).map fun p => (p.1 / 4, p.2)),
                     at' := wordMap (n.angleInit.getD (k / 3) []), eccCycle := e.eccCycle, now := e.now }

/-- The engines that have not run begin to (Table 7-1, IDLE). -/
def idleRun (s : State) : State := (List.range 12).foldl (fun s k => if s.get (LOOM_STAT_STATE k) = 0 then engineRuns k s else s) s

/-- All three engines of every cluster are loaded; stops and repairs are over, and every engine runs but those that have been IDLE, which begin
when the image starts to issue (R222, R235). -/
def loadLoom (n : Image) (s : State) : State :=
  let s1 := (List.range 12).foldl (fun s k =>
    let s1 := (((s.put (REED_ENGST_RETIRED k) 0).put (REED_ENGST_HELD k) 0).put (REED_ENGST_FAILS k) 0).put (LOOM_STAT_FBROM k) 0
    let s2 := (modEng k (loadEngine n s.weave.half k) s1).put (LOOM_STAT_HALF k) s.weave.half
    if s2.get (LOOM_STAT_STATE k) = 0 then s2 else engineRuns k s2) ((List.range 4).foldl (fun s c => clearAttempt c s) s)
  let no := List.replicate 4 false
  let wv := { s1.weave with stopped := no, noCommit := no, viols := [], majStop := List.replicate 12 false }
  (List.range 4).foldl (fun s c => s.put (REED_CLST_MODE c) 1)
    { s1 with weave := wv, pwr.forceBlock := false, warden.repReq := List.replicate 12 false }

/-- `COLD_LOAD_DONE` (R176): loading completes; the image starts at the first pick boundary after it. -/
def execColdLoadDone (s : State) : Outcome State Fault Refusal :=
  run (fun s => match s.weave.loading, s.weave.img with
    | some _, some n =>
      let s1 := loadLoom n (applyMap n s)
      let s2 := n.regInit.foldl (fun s p => s.setRaw p.1 p.2) s1
      { s2 with weave.starting := true }
    | _, _ => s) s

/-- A cold switch loads the learned tables from DATAINIT and starts the learning anew (R328, Table 5-9); each table comes into use at the first load
point.
(DESIGN CHOICE: log entry 164.) -/
def loadTables (s : State) : State :=
  let t := fun x : Nat => some (Config.tableIn x (engAt s (3 * x)).dm)
  { s with cur := { s.cur with tab := [[], [], []], tabNext := [t 0, t 1, t 2], errs := [[], [], []], errsLast := [[], [], []], cycles := 0,
                               spoilt := [false, false, false], spoiltNow := [false, false, false], zeroed := [false, false, false] } }

/-- The image that has loaded starts at a pick boundary: or the fallback, when a converter fault came while it loaded (R166). -/
def imageStart (s : State) : State :=
  match s.weave.img with
  | none => s
  | some n =>
    let s1 := idleRun { s with weave := { s.weave with loading := none, starting := false, fbFactor := 1, began := absPick s }, warp.begun := true }
    let s2 := loadTables <| refreshBanks ((adcRefresh s1 |>.put WEAVE_STAT_COLD 0).put WEAVE_STAT_RUN 1)
    let s3 := [0, 1, 2].foldl (fun s ph => if countedIn s ph = 0 then putSetpoint ph n.conv.vlink s else followCount ph (countedIn s ph) true s) (edgeStart s2)
    let s4 := [0, 1, 2].foldl (fun s ph => defaultOwners ph s) s3
    let s5 := if n.twin then twinArrives s4 else if twinState s4 = 0 then s4 else setTwin 0 s4
    match s5.weave.fbWhileLoading with
    | some cause => enumAdvance (startFallback cause s5)
    | none => enumAdvance s5

/-! ### The parameter store (R182) -/

/-- A value within an entry's range, or without bits outside its mask (Table 5-11a). -/
def paramInRange (e : ParamEntry) (w : Word) : Bool :=
  let fp := fun n : Nat => (fpRead 0 (word n)).1
  match e.ty with
  | 0 | 2 => decide ((toSigned 32 e.min) ≤ w.toInt) && decide (w.toInt ≤ toSigned 32 e.max)
  | 1 => e.min ≤ w.toNat && w.toNat ≤ e.max
  | 3 => !(fp w.toNat).isNan && !fpLt (fp w.toNat) (fp e.min) && !fpLt (fp e.max) (fp w.toNat)
  | _ => w.toNat &&& (0xFFFFFFFF - e.max) == 0

/-- A PARAM write at its GATE heddle. -/
def paramWrite (a : Nat) (w : Word) (s : State) : State :=
  let n := (a - 0x80000) / 4
  let s := s.put WEAVE_PSEQ_SWARP (swarp s).toNat
  let refuse := fun (cause : Nat) (s : State) =>
    raiseF 16 6 n (setEvt 0x041 0x40 (((s.put WEAVE_PERR_WORD n).put WEAVE_PERR_CAUSE cause).count WEAVE_PERR_COUNT))
  match ((s.weave.img).map (·.pmap)).getD [] |>.find? fun e => e.word ≤ n && n < e.word + e.count with
  | none => refuse 7 s
  | some e =>
    if e.access = 0 then refuse 5 s
    else if !paramInRange e w then refuse 3 s
    else { s with weave.params := memSet n w s.weave.params }

/-- A read of a PARAM word; unmapped words read 0. -/
def paramRead (s : State) (a : Nat) : Word :=
  let n := (a - 0x80000) / 4
  if ((s.weave.img).map (·.pmap)).getD [] |>.any fun e => e.word ≤ n && n < e.word + e.count then memAt s.weave.params n else 0

end Sys2Proof.Machine
end

