-- ==== Sys2Proof/Machine/Adc.lean ====
section
/-! DEFINITION. The F-die ADC cores (R384–R393): sample triggers, urgent requests, conversions and their result words, ranges, windows,
calibration, and the corrected streams. -/

namespace Sys2Proof.Machine

open Host (Outcome)

def adcCore (s : State) (c : Nat) : AdcCore := s.adc.cores.getD c AdcCore.reset
def modCore (c : Nat) (f : AdcCore → AdcCore) (s : State) : State := { s with adc.cores := s.adc.cores.modify c f }
def adcIn (s : State) (i : Nat) : AdcIn := s.adc.ins.getD i AdcIn.reset
def modIn (i : Nat) (f : AdcIn → AdcIn) (s : State) : State := { s with adc.ins := s.adc.ins.modify i f }

/-- An event of a core's page source with its flag (Table 13-8). -/
def adcEvent (c bitNo code data : Nat) (s : State) : State := raiseF (80 + c) code data (setEvt (0x68 + c) (2 ^ bitNo) s)

/-! ### Sequences and sample plans (R153, R386) -/

/-- Entry e of core c (Table 13-2). -/
def seqEntry (s : State) (c e : Nat) : Nat :=
  match s.weave.img with
  | some i => seqWord i c e
  | none => 0

def isPair (s : State) (c : Nat) : Bool := ((s.weave.img).map (·.adcPairs.testBit (c / 2))).getD false

/-- Loom clocks of a conversion of an entry (R385, R387). -/
def convLc (s : State) (c w : Nat) : Nat := if isPair s c then 120 else 5 * (bitsAt w 5 6 + 20)

/-! ### Result words (R388, R390, R392) -/

/-- An input whose gain the hardware selects (R390). -/
def autoRange (s : State) (i : Nat) : Bool := 4 ≤ i && i ≤ 8 && s.flag (METER_INCFG_AUTOR i)

/-- VALUE of a code at gain 2^g.
(PRESUMED: log entry 66.) -/
def valueOf (code : Int) (g : Nat) : Int := code * 16 / 2 ^ g

/-- Table 13-3. -/
def resultWord (value : Int) (gain : Nat) (clip rsw : Bool) (dly : Nat) (wout : Bool) : Word :=
  word (ofSigned 20 value + 2 ^ 20 * gain + 2 ^ 23 * bit clip + 2 ^ 24 * bit rsw + 2 ^ 25 * dly + 2 ^ 30 * bit wout + 2 ^ 31)

/-- Write a result word into every cluster's copy of the result buffers (R221). -/
def putResult (n : Nat) (w : Word) (s : State) : State :=
  { s with clu := s.clu.map fun x => { x with adcBuf := memSet n w x.adcBuf } }

/-- The result of a conversion of the run of pick `k` lands: the tag beside the buffer is that pick (R153, R163, R388). -/
def landResult (k n : Nat) (w : Word) (s : State) : State :=
  let s1 := putResult n w s
  if k = absPick s then { s1 with clu := s1.clu.map fun x => { x with due := x.due.filter (· != n) } } else s1

/-- The corrected word of an input (R392), and its VALUE. -/
def corrWord (s : State) (i : Nat) : Word := memAt (cluAt s 3).adcBuf (3840 + i)
def corrVal (s : State) (i : Nat) : Int := toSigned 20 (corrWord s i).toNat

/-- Threads since warp 0 at loom clock `l` of this pick, before its start where l is negative (R118). -/
def threadOf (s : State) (l : Int) : Int :=
  ((s.warp.acc.toNat : Int) + l * (if l < 0 then (s.warp.incPrev : Int) else (s.get WARP_INC_INC : Int))) / 2 ^ 28

/-- The corrected word of an input in pick m (R392): with a STRM result in the pick that has ended, the interpolator's VALUE at thread 0 of pick
m − 5, from the newest ten results of the stream with their instants and from FDLY, with the GAIN, CLIP and RSW of that result; without one,
the word before it with GAP.
(DESIGN CHOICE: log entry 67.) -/
def correctedOne (i : Nat) (s : State) : State :=
  let x := adcIn s i
  let t0 := ((absPick s : Int) - 5) * 65536
  match x.strm with
  | none => putResult (3840 + i) (corrWord s i &&& 0xC1FFFFFF#32 ||| 0x40000000#32) s
  | some r =>
    let taps := ((r.instant, r.value) :: x.taps).take 10
    let v := Config.interpolate (s.getI (METER_INCFG_FDLY i)) (taps.map fun t => (t.1 - t0, t.2))
    putResult (3840 + i) (resultWord v r.gain r.clip r.rsw 0 false) (modIn i (fun x => { x with strm := none, taps := taps }) s)

/-- The 32 corrected words at a pick boundary. -/
def corrected (s : State) : State := (List.range 32).foldl (fun s i => correctedOne i s) s

/-! ### Urgent requests (R389) -/

/-- The run that occupies a core: both cores of a pair convert the run of the even one (R387). -/
def runOn (s : State) (c : Nat) : Option AdcRun := (adcCore s (if isPair s c then c - c % 2 else c)).run

/-- A core converts an urgent request, or the other core of its pair does. -/
def urgentOn (s : State) (c : Nat) : Bool := (adcCore s c).urgRun || (isPair s c && (adcCore s (c + 1)).urgRun)

/-- A core starts its urgent request when it is idle. -/
def startUrgent (c : Nat) (s : State) : State :=
  if (adcCore s c).urg.isSome && (runOn s c).isNone then modCore c (fun k => { k with urgRun := true }) s else s

/-- An urgent request of comparator n for a core: 0–15 a snapshot, 16 + n a readback. -/
def urgentRequest (c what : Nat) (s : State) : State :=
  if !s.flag (ADC_STAT_URG c) || (adcCore s c).urg.isSome then adcEvent c 4 2 (what % 16) (s.count (ADC_URGCNT_DROP c))
  else startUrgent c (modCore c (fun k => { k with urg := some what }) s)

/-! ### Runs -/

/-- `SAMPLE_TRIGGER` (R153, R163, R389): the warp reaches the thread of entry i of the pick's sample plan. A core that still converts a
scheduled entry is ADC_OVERLAP; one that converts an urgent request, or whose pair does, delays the run by `dly` ADC clocks. -/
def execSampleTrigger (i dly : Nat) (s : State) : Outcome State Fault Refusal :=
  run (fun s => match (samplePlan s)[i]? with
    | none => s
    | some x =>
      let k := adcCore s x.core
      if k.run.isSome then converterFault 2 (recordViolation 0 4 0 true s)
      else
        let d := if urgentOn s x.core then min dly 24 else 0
        let s1 := modCore x.core (fun k => { k with run := some ⟨x.first, x.count, x.buf, 0, d, absPick s, x.thread = 0⟩ }) s
        if d = 0 then s1
        else (s1.count (ADC_DLYCNT_RUNS x.core)).put (ADC_DLYCNT_MAXDLY x.core) (max d (s1.get (ADC_DLYCNT_MAXDLY x.core)))) s

/-- An input waits to go to ×1: its conversions still have the gain of its range. -/
def goesDown (s : State) (i : Nat) : Bool := 0 < s.get (METER_INCFG_RANGE i) && (adcIn s i).keep.map (·.1) == some (s.get (METER_INCFG_RANGE i))

/-- A conversion's sampling starts at loom clock `start`: one that starts 150 ns or more after a conversion near the end of the range has ended
takes the input to ×1 (R390). -/
def rangeDown (i : Nat) (start : Int) (s : State) : State :=
  match (adcIn s i).keep with
  | none => s
  | some x => if goesDown s i && x.2 ≤ start then modIn i (fun x => { x with rsw := true, small := 0 }) (s.put (METER_INCFG_RANGE i) 0) else s

/-- The gain of a conversion whose sampling starts at loom clock `start`, and whether it is the first at a new range. -/
def gainFrom (i : Nat) (start : Int) (s : State) : Nat × Bool :=
  match (adcIn s i).keep with
  | none => (s.get (METER_INCFG_RANGE i), (adcIn s i).rsw)
  | some x => if start < x.2 then (x.1, false) else (s.get (METER_INCFG_RANGE i), (adcIn s i).rsw)

/-- The range after a conversion that ends at loom clock `lc`, an urgent one too: near the end of the code range it goes down; a value that is not
small restarts the wait for a higher gain (R390). -/
def rangeTrack (i lc : Nat) (code value : Int) (s : State) : State :=
  let g := s.get (METER_INCFG_RANGE i)
  let s1 := if 28672 ≤ code.natAbs && 0 < g && !goesDown s i then modIn i (fun x => { x with keep := some (g, (lc : Int) + 180) }) s else s
  if value.natAbs * (8 * 2 ^ (g + 1)) < 3 * 2 ^ 19 then s1 else modIn i (fun x => { x with small := 0 }) s1

/-- A pick of `n` loom clocks has passed for the ranges: instants count from its end, and conversions have stayed small for one pick more. -/
def rangePick (n : Nat) (s : State) : State :=
  (List.range 32).foldl (fun s i => modIn i (fun x => { x with small := x.small + 1, keep := x.keep.map fun k => (k.1, k.2 - n) }) s) s

/-- A window comparison (R393): whether VALUE lies outside, and what that raises. -/
def windowOut (c w : Nat) (value : Int) (s : State) : Bool × State :=
  let lo := 16 * s.getI (ADC_WIN_LO c w)
  let hi := 16 * s.getI (ADC_WIN_HI c w)
  let out := decide (value < lo) || decide (hi < value)
  let f : Fld := ⟨(ADC_WINST_OUT c).addr, w, 1⟩
  let s1 := s.putB f out
  if !out || s.flag f then (out, s1)
  else
    let s2 := setEvt (0x68 + c) (2 ^ w) (s1.put (ADC_WINST_LASTV c) (bitsAt (ofSigned 20 value) 4 16))
    if (adcCore s c).winCycle.getD w none = some (cycleOf s) then (out, s2)
    else (out, raiseF (80 + c) 1 (w + 4 * bitsAt (ofSigned 20 value) 6 14)
      (modCore c (fun k => { k with winCycle := k.winCycle.set w (some (cycleOf s)) }) s2))

/-- A CAL result of REFZ, REFP or REFM (R391). -/
def calResult (c i : Nat) (value : Int) (s : State) : State :=
  let j := if i = 10 then 0 else if i = 9 then 1 else 2
  if i < 9 || 11 < i then s
  else modCore c (fun k => { k with cal := k.cal.modify j fun p => (p.1 + value, p.2 + 1) }) s

/-- The conversion of run entry `i` on `core` has the code `code` at loom clock `lc`; its input was sampled up to 20 ADC clocks before (R385).
(PRESUMED: log entry 66.) -/
def scheduledResult (core lc : Nat) (code : Int) (r : AdcRun) (s : State) : State :=
  let w := seqEntry s core (r.first + r.done)
  let c := core + (if isPair s core then r.done % 2 else 0)
  let i := bitsAt w 0 5
  let start : Int := (lc : Int) - convLc s core w
  let s1 := if autoRange s i then rangeDown i start s else s
  let g := if autoRange s1 i then gainFrom i start s1 else (bitsAt w 11 2, false)
  let v := valueOf code g.1
  let clip := decide (code = 32767) || decide (code = -32768)
  let s2 := if autoRange s1 i then rangeTrack i lc code v s1 else s1
  let win := bitsAt w 15 3
  let (out, s3) := if 1 ≤ win && win ≤ 4 then windowOut c (win - 1) v s2 else (false, s2)
  let s4 := if w.testBit 14 then calResult c i v s3 else s3
  let s5 := modIn i (fun x =>
    { x with at0 := if r.zero then v else x.at0, rsw := x.rsw && !g.2,
             strm := if w.testBit 13 && x.strm.isNone then some ⟨threadOf s ((lc : Int) - 100), v, g.1, clip, g.2⟩ else x.strm }) s4
  let s6 := if r.buf < 240 then landResult r.pick (16 * r.buf + r.done) (resultWord v g.1 clip g.2 r.delay out) s5
            else if r.done = 0 then adcEvent c 6 4 r.buf s5 else s5
  if r.done + 1 = r.count then
    let s7 := startUrgent core (modCore core (fun k => { k with run := none }) s6)
    if isPair s core then startUrgent (core + 1) s7 else s7
  else modCore core (fun k => { k with run := some { r with done := r.done + 1 } }) s6

/-- `RANGE_UP` (R390): the input has stayed small for one cycle; its gain rises at this pick boundary. -/
def execRangeUp (input : Nat) (s : State) : Outcome State Fault Refusal :=
  run (fun s =>
    let g := s.get (METER_INCFG_RANGE input)
    if autoRange s input && 4097 ≤ (adcIn s input).small && g < 4 then
      modIn input (fun x => { x with small := 0, rsw := true, keep := some (g, 0) }) (s.put (METER_INCFG_RANGE input) (g + 1))
    else s) s

/-! ### Calibration (R391) -/

def meanOf (p : Int × Nat) : Rat := (p.1 : Rat) / ((max 1 p.2 : Nat) : Rat)

/-- New trims of core c: offset and gain in LSBs, from its means and, for the odd core of a pair, from those of the even core.
(PRESUMED: log entry 66.) -/
def newTrims (s : State) (c : Nat) : Rat × Rat :=
  let k := (adcCore s c).cal.map meanOf
  let z := k.getD 0 0
  let d := k.getD 1 0 - k.getD 2 0
  let e := (adcCore s (c - 1)).cal.map meanOf
  let odd := isPair s c && c % 2 == 1
  let z0 := if odd then e.getD 0 0 else 0
  let d0 := if odd then e.getD 1 0 - e.getD 2 0 else 9 * 2 ^ 19 / 5
  let g := (1 + (s.getI (ADC_CAL_GAIN c) : Rat) / 2 ^ 20) * quot d0 d - 1
  ((s.getI (ADC_CAL_OFFS c) : Rat) + (z - z0) / 16, g * 2 ^ 20)

/-- One core's trims at the end of a recalibration interval. -/
def calibrate (c : Nat) (s : State) : State :=
  let clear := modCore c fun k => { k with cal := [(0, 0), (0, 0), (0, 0)] }
  if (adcCore s c).cal.any (·.2 < 64) then clear s
  else
    let t := newTrims s c
    let offOk := t.1 ≤ 2 ^ 15 / 200 && -(2 ^ 15 / 200) ≤ t.1
    let gainOk := t.2 ≤ 2 ^ 20 / 50 && -(2 ^ 20 / 50) ≤ t.2
    let s1 := if offOk then s.put (ADC_CAL_OFFS c) (lsbS 16 t.1) else adcEvent c 5 3 0 s
    let s2 := if gainOk then s1.put (ADC_CAL_GAIN c) (lsbS 16 t.2) else adcEvent c 5 3 1 s1
    clear (s2.putB (ADC_STAT_CALOK c) (offOk && gainOk))

/-- `CALIBRATION_INTERVAL` (R391, R424): a recalibration interval ends; new trims take effect at this pick boundary. -/
def execCalibrationInterval (s : State) : Outcome State Fault Refusal :=
  run (fun s => (List.range 8).reverse.foldl (fun s c => calibrate c s) s) s

end Sys2Proof.Machine
end

