-- ==== Sys2Proof/Machine/Fcmp.lean ====
section
/-! DEFINITION. The fast comparators (R394–R400) with their trips, latches and self-checks, the blanking windows that hold trips back
(R305, R306), and the end of an ADC conversion (R388, R389). -/

namespace Sys2Proof.Machine

open Host (Outcome)

/-- One comparator's bit of a 16-bit field. -/
abbrev cmpBit (f : Fld) (n : Nat) : Fld := ⟨f.addr, f.lo + n, 1⟩

def foutBit (n : Nat) : Fld := cmpBit FCMP_STAT_FOUT n
def latchBit (n : Nat) : Fld := cmpBit FCMP_STAT_LATCH n

/-- The comparator whose configuration governs n: the even one of a window pair, else n itself (R394).
(DEDUCED: log entry 77.) -/
def cmpOwner (s : State) (n : Nat) : Nat := if n % 2 = 1 && s.get (FCMP_CFG_MODE (n - 1)) = 1 then n - 1 else n

def cmpSt (s : State) (n : Nat) : CmpSt := s.fcmp.cmps.getD n CmpSt.reset

def setLow (n : Nat) (b : Bool) (s : State) : State := { s with fcmp.cmps := s.fcmp.cmps.modify n fun c => { c with low := b } }

/-! ### Trips (R396, R397) -/

/-- A comparator trips: latch, event, counts, tokens with ACT = BLOCK, and the snapshot. `m` is the comparator whose output rose.
(DEDUCED: log entry 77.) -/
def cmpTrip (m : Nat) (s : State) : State :=
  let n := cmpOwner s m
  let act := s.get (FCMP_CFG_ACT n)
  if act = 0 then s
  else
    let block := act == 2
    let kept := s.get FCMP_STAT_LATCH != 0 && s.get FCMP_TRIPW_SWARP == (swarp s).toNat && s.get FCMP_TRIPVAL_CMP < n
    let s1 := (s.put (latchBit n) 1).count (FCMP_TRIPCNT_COUNT n)
    let s2 := if kept then s1 else ((s1.put FCMP_TRIPVAL_CMP n).put FCMP_TRIPVAL_SNAP 0).put FCMP_TRIPW_SWARP (swarp s).toNat
    let s3 := raiseF 89 1 (n + 16 * bit block + 32 * bit (m != n)) (setEvt 0x070 1 s2)
    urgentRequest (s.get (FCMP_CFG_SCCORE n)) n (if block then blockTokens s3 else s3)

/-- An open window names the comparator: MASK as it stood at the opening (R306, Table 9-14). -/
def isBlanked (s : State) (n : Nat) : Bool := s.blank.win.any fun w => match w with
  | some x => x.2.testBit n
  | none => false

/-! ### The filter (R395) -/

/-- The majority of the last 5 samples (FILT = 0) or 9 samples (FILT = 1), newest first. -/
def majorityOf (filt : Bool) (last : List Bool) : Bool :=
  if filt then 5 ≤ ((last.take 9).filter id).length else 3 ≤ ((last.take 5).filter id).length

/-! ### The raw output (R394) -/

/-- The threshold code of comparator n, `run` samples of 5 ns after the last restart of its ramp: THR, and with MODE = ramp the code that
SLOPE, in 1/64 code per µs, has moved from THR toward END, where it stays. A SLOPE that leads away from END leaves the code at THR.
(DESIGN CHOICE: log entry 100.) -/
def thrCode (s : State) (n run : Nat) : Rat :=
  let thr : Rat := (s.get (FCMP_THR_THR n) : Nat)
  let fin : Rat := (s.get (FCMP_RAMP_END n) : Nat)
  if s.get (FCMP_CFG_MODE (cmpOwner s n)) = 2 then
    ratClamp (ratMin thr fin) (ratMax thr fin) (thr + (s.getI (FCMP_RAMP_SLOPE n) : Rat) * (run : Rat) / 12800)
  else thr

/-- Comparator n trips below its threshold: the odd half of a window pair, or POL = 1. -/
def tripsBelow (s : State) (n : Nat) : Bool :=
  let m := cmpOwner s n
  if s.get (FCMP_CFG_MODE m) = 1 then n != m else s.flag (FCMP_CFG_POL n)

/-- The raw output that the input x, in codes from the middle, gives against a threshold code, without hysteresis. -/
def rawAt (s : State) (n : Nat) (code x : Rat) : Bool := if tripsBelow s n then decide (x < code - 512) else decide (code - 512 < x)

/-- The raw output after a sample x of the input, in VALUE units (FS = 2^19): it rises across the threshold and falls 2 × HYS codes back from
it. -/
def rawStep (s : State) (n run : Nat) (raw : Bool) (x : Int) : Bool :=
  let hys : Rat := 2 * ((s.get (FCMP_CFG_HYS (cmpOwner s n)) : Nat) : Rat)
  let code := thrCode s n run
  rawAt s n (if raw then (if tripsBelow s n then code + hys else code - hys) else code) ((x : Rat) / 1024)

/-- A comparator at work: the last raw samples, its filtered output, how often that has risen, its raw output, and the samples since the ramp's
restart. -/
structure CmpFilter where
  last : List Bool
  out : Bool
  rises : Nat
  raw : Bool
  run : Nat
  deriving DecidableEq, Repr

/-- The comparator takes a sample of its input (R394, R395). -/
def CmpFilter.step (s : State) (n : Nat) (f : CmpFilter) (x : Int) : CmpFilter :=
  let raw := rawStep s n f.run f.raw x
  let last := (raw :: f.last).take 9
  let out := majorityOf (s.flag (FCMP_CFG_FILT (cmpOwner s n))) last
  ⟨last, out, f.rises + bit (out && !f.out), raw, f.run + 1⟩

/-- A comparator after samples of its input, in order of time, under the configuration that governs it. -/
def cmpRun (s : State) (n : Nat) (input : List Int) : CmpFilter :=
  let c := cmpSt s n
  input.foldl (CmpFilter.step s n) ⟨c.last, s.flag (foutBit n), 0, c.raw, c.run⟩

/-- What the samples leave, as the comparator's own. -/
def putFilter (n : Nat) (f : CmpFilter) (s : State) : State :=
  { s.putB (foutBit n) f.out with
    fcmp.cmps := s.fcmp.cmps.modify n fun c => ⟨c.low && !f.out && f.rises == 0, f.last, f.raw, f.run⟩ }

/-- The ramps that restart on an event of kind `how` (RAMPn.RESTART) start again, among the comparators `ns` (R394). -/
def rampRestart (how : Nat) (ns : List Nat) (s : State) : State :=
  (ns.filter fun n => s.get (FCMP_CFG_MODE (cmpOwner s n)) = 2 && s.get (FCMP_RAMP_RESTART n) = how).foldl
    (fun s n => { s with fcmp.cmps := s.fcmp.cmps.modify n fun c => { c with run := 0 } }) s

/-- Comparator n's latch clears: it is re-armed. -/
def clearLatch (n : Nat) (s : State) : State := rampRestart 3 [n] (s.put (latchBit n) 0)

/-- A comparator trips `k` times. -/
def cmpTrips (n : Nat) : Nat → State → State
  | 0, s => s
  | k + 1, s => cmpTrips n k (cmpTrip n s)

/-- A comparator takes samples of its input (R395, R396): each rise of its filtered output is a trip, unless blanking holds it back. -/
def sampleCmp (n : Nat) (input : List Int) (s : State) : State :=
  let f := cmpRun s n input
  cmpTrips n (if isBlanked s n then 0 else f.rises) (putFilter n f s)

/-- `FCMP_TRIP` (R394–R396): a comparator's samples of the input it watches, 5 ns apart, in order of time.
(DESIGN CHOICE: log entry 100.) -/
def execFcmpTrip (cmp : Nat) (input : List Int) (s : State) : Outcome State Fault Refusal :=
  run (fun s => if cmp < 16 then sampleCmp cmp input s else s) s

/-- The output of comparator n, and of the other half of its pair, has stayed low for REARM. -/
def stayedLow (s : State) (n : Nat) : Bool :=
  let one := fun k : Nat => (cmpSt s k).low && !s.flag (foutBit k)
  one n && (s.get (FCMP_CFG_MODE n) != 1 || one (n + 1))

/-- `LATCH_REARM` (R397): the filtered output has stayed low for REARM, the last of that time in the samples `input`; with REL = 0 the latch
clears.
(DESIGN CHOICE: log entry 100.) -/
def execLatchRearm (cmp : Nat) (input : List Int) (s : State) : Outcome State Fault Refusal :=
  run (fun s =>
    let f := cmpRun s cmp input
    let s0 := sampleCmp cmp input s
    let s1 := if f.out || f.rises != 0 then s0 else setLow cmp true s0
    let n := cmpOwner s cmp
    if s0.flag (FCMP_CFG_REL n) || !stayedLow s1 n then s1 else clearLatch n s1) s

/-- A write of `FCMP.TRIPCLR` (R397). -/
def tripclrWrite (w : Word) (s : State) : State :=
  let a := FCMP_TRIPCLR_CLR.addr
  let set := (List.range 16).filter fun n => w.getLsbD n && s.flag (latchBit n)
  let ok := fun n => s.flag (FCMP_CFG_REL n) && stayedLow s n
  let s1 := (set.filter ok).foldl (fun s n => clearLatch n s) s
  let s2 := if set.all ok then s1 else capture a 3 s1
  if w.toNat / 2 ^ 16 = 0 then s2 else capture a 2 s2

/-- `TRIPCLR` (R397). -/
def execTripclr (value : Word) (s : State) : Outcome State Fault Refusal := run (tripclrWrite value) s

/-! ### Self-checks (R399, R400) -/

/-- A check fails: part 1 = readback, 2 = REFP, 3 = REFM, 4 = swap.
(DEDUCED: log entry 78.) -/
def checkFailed (n part : Nat) (s : State) : State :=
  raiseF 88 1 (n + 16 * part) (setEvt 0x070 2 ((s.put (cmpBit FCMP_SCSTAT_FAIL n) 1).put (cmpBit FCMP_SCSTAT_PASS n) 0))

/-- A check is skipped. -/
def checkSkipped (n : Nat) (input : Bool) (s : State) : State := raiseF 88 2 (n + 16 * bit input) (s.count FCMP_SKIPCNT_COUNT)

/-- The raw output that an input x, in codes from the middle, gives under threshold and polarity. -/
def rawOf (s : State) (n : Nat) (x : Rat) : Bool := rawAt s n (s.get (FCMP_THR_THR n) : Nat) x

/-- The input test (R400): the raw outputs of the parts REFP, REFM and swap as the low bits of `raws`, and the input's samples at its end. During
the test the filtered output is held; when it is asserted at the end, the comparator trips.
(DEDUCED: log entry 78.) -/
def inputTest (n raws : Nat) (input : List Int) (s : State) : State :=
  let thr := s.get (FCMP_THR_THR n)
  let m := cmpOwner s n
  let i := s.get (FCMP_CFG_INPUT m)
  if s.flag (latchBit m) || s.flag (foutBit n) || 952 < thr || thr < 72 || (s.flag FCMP_SCCTL_ONLYOPEN && s.pwr.gridOpen != some true) then
    checkSkipped n true s
  else
    let neg : Rat := -(corrVal s i : Rat) / 1024
    let far := 16 < ratAbs (neg - ((thr : Nat) - 512 : Rat))
    let bad := if raws.testBit 0 != rawOf s n (2304 / 5) then 2
               else if raws.testBit 1 != rawOf s n (-(2304 / 5)) then 3
               else if far && raws.testBit 2 != rawOf s n neg then 4 else 0
    let s1 := if bad = 0 then s.put (cmpBit FCMP_SCSTAT_PASS n) 1 else checkFailed n bad s
    let f := cmpRun s1 n input
    let s2 := putFilter n f s1
    if f.out && !isBlanked s2 n then cmpTrip n s2 else s2

/-- The snapshot of a trip lands: it goes to `TRIPVAL`, and its input's range follows it as any conversion (R390, R397). -/
def snapshot (n lc : Nat) (code v : Int) (s : State) : State :=
  let i := s.get (FCMP_CFG_INPUT n)
  let s1 := if autoRange s i then rangeTrack i lc code v s else s
  if s1.get FCMP_TRIPVAL_CMP = n then (s1.put FCMP_TRIPVAL_VALUE (ofSigned 20 v)).put FCMP_TRIPVAL_SNAP 1 else s1

/-- The DAC readback of a comparator lands (R399); its input test comes after it (R400). -/
def readback (n : Nat) (v : Int) (s : State) : State :=
  let thr : Int := ((s.get (FCMP_THR_THR n) : Nat) : Int) - 512
  let s1 := if (v - thr * 1024).natAbs ≤ 4096 then s.put (cmpBit FCMP_SCSTAT_PASS n) 1 else checkFailed n 1 s
  match s.fcmp.tests.find? (·.1 == n) with
  | some t => inputTest n t.2.1 t.2.2 { s1 with fcmp.tests := s.fcmp.tests.filter (·.1 != n) }
  | none => s1

/-- The result of an urgent conversion that ends at loom clock `lc` (R389): a snapshot, or the DAC readback of a comparator.
(DEDUCED: log entry 78.) -/
def urgentResult (core lc : Nat) (code : Int) (s : State) : State :=
  let s1 := (modCore core (fun k => { k with urg := none, urgRun := false }) s).count (ADC_URGCNT_DONE core)
  match (adcCore s core).urg with
  | none => s
  | some x => if x < 16 then snapshot x lc code (valueOf code 0) s1 else readback (x - 16) (valueOf code 0) s1

/-- `ADC_CONVERSION_DONE` (R388–R393): a conversion of a core ends at loom clock `lc` with `code`, as the trims leave it. An urgent
conversion that runs ends first. -/
def execAdcConversionDone (core lc : Nat) (code : Int) (s : State) : Outcome State Fault Refusal :=
  run (fun s =>
    let k := adcCore s core
    if k.urgRun then urgentResult core lc code s
    else match k.run with
      | some r => scheduledResult core lc code r s
      | none => s) s

/-- The readback of a comparator is requested; one that R389 discards is skipped (R399). -/
def startReadback (n : Nat) (s : State) : State :=
  let core := s.get (FCMP_CFG_SCCORE (cmpOwner s n))
  let s1 := urgentRequest core (16 + n) s
  if s.flag (ADC_STAT_URG core) && (adcCore s core).urg.isNone then s1 else checkSkipped n false s1

/-- A comparator's readback waits for its conversion. -/
def readbackWaits (s : State) (n : Nat) : Bool := s.adc.cores.any fun k => k.urg == some (16 + n)

/-- `SELF_CHECK` (R399, R400): the checks that SC names run for comparator `cmp` at its instant: the readback, unless a GO has started it, and
after it the input test. -/
def execSelfCheck (cmp raws : Nat) (input : List Int) (s : State) : Outcome State Fault Refusal :=
  run (fun s =>
    let sc := s.get (FCMP_CFG_SC (cmpOwner s cmp))
    let s1 := if s.fcmp.checks.contains cmp then { s with fcmp.checks := s.fcmp.checks.filter (· != cmp) }
              else if sc % 2 = 0 then s else startReadback cmp s
    if sc / 2 = 0 then s1
    else if readbackWaits s1 cmp then { s1 with fcmp.tests := s1.fcmp.tests.filter (·.1 != cmp) ++ [(cmp, raws, input)] }
    else inputTest cmp raws input s1) s

/-- Checks are running. -/
def checksRun (s : State) : Bool :=
  !s.fcmp.checks.isEmpty || !s.fcmp.tests.isEmpty || s.adc.cores.any fun k => decide (16 ≤ k.urg.getD 0)

/-- `SCCTL.GO` (R400): both checks of every comparator start at once; the readbacks are requested, and each input test ends with a
`SELF_CHECK`. -/
def checkAll (s : State) : State :=
  let sc := fun n => s.get (FCMP_CFG_SC (cmpOwner s n))
  ((List.range 16).filter fun n => sc n % 2 == 1).foldl (fun s n => startReadback n s)
    { s with fcmp.checks := (List.range 16).filter fun n => 2 ≤ sc n }

/-- A write of `FCMP.SCCTL` (R400, Table 13-10).
(DESIGN CHOICE: log entry 79.) -/
def scctlWrite (w : Word) (s : State) : State :=
  let a := FCMP_SCCTL_SCPER.addr
  unlessLocked a (fun s =>
    if w.getLsbD 12 && checksRun s then capture a 3 s
    else
      let s1 := writeReg a w s
      if w.getLsbD 12 then checkAll s1 else s1) s

/-- `SC_GO` (R400). -/
def execScGo (s : State) : Outcome State Fault Refusal := run (fun s => scctlWrite (s.raw FCMP_SCCTL_SCPER.addr ||| 0x1000#32) s) s

/-- A write of `FCMP.CFGn`: an untapped input, a window pair on an odd comparator and ACT = 0b11 are refused (Table 13-10). -/
def fcmpCfgWrite (n : Nat) (w : Word) (s : State) : State :=
  let a := (FCMP_CFG_INPUT n).addr
  let i := bitsAt w.toNat 0 5
  if (9 ≤ i && i ≤ 12) || (bitsAt w.toNat 5 2 = 1 && n % 2 = 1) || bitsAt w.toNat 9 2 = 3 then unlessLocked a (capture a 3) s
  else writeReg a w s

/-- SCFAIL has been cleared: FAIL reads 0 (R400). -/
def scfailCleared (s : State) : State := s.put FCMP_SCSTAT_FAIL 0

/-! ### Blanking windows (R305, R306) -/

/-- `BLANK_WINDOW_OPEN` (R305): in the pick of its armed instant x the warp reaches it, and the window of timer t lasts LEN × 12 loom clocks from
then on (R306). -/
def execBlankWindowOpen (t : Nat) (s : State) : Outcome State Fault Refusal :=
  run (fun s => match s.blank.pend.getD t none with
    | none => s
    | some x =>
      if x / 65536 != absPick s then s
      else
        let lc := (x * 2 ^ 28 - s.warp.acc.toNat + s.get WARP_INC_INC - 1) / max 1 (s.get WARP_INC_INC)
        let w := (lc + 12 * s.get (BLANK_TMR_LEN t), s.get (BLANK_MASK_CMP t))
        let s1 := { s with blank := { s.blank with pend := s.blank.pend.set t none, win := s.blank.win.set t (some w) } }
        ((s1.put (blankPend t) 0).put (blankOpen t) 1).count BLANK_OPENCNT_COUNT) s

/-- A pick of `n` loom clocks has passed in every open window. -/
def blankPick (n : Nat) (s : State) : State := { s with blank.win := s.blank.win.map fun w => w.map fun x => (x.1 - n, x.2) }

/-- `BLANK_WINDOW_CLOSE` (R306): the length of the window of timer t has passed, and it closes; comparators that it was the last to blank and that
are asserted trip now. -/
def execBlankWindowClose (t : Nat) (s : State) : Outcome State Fault Refusal :=
  run (fun s =>
    match s.blank.win.getD t none with
    | none => s
    | some w =>
    if pickLen s ≤ w.1 then s
    else
      let named := (List.range 16).filter w.2.testBit
      let s1 := rampRestart 2 named ({ s with blank.win := s.blank.win.set t none }.put (blankOpen t) 0)
      let freed := named.filter fun n => !isBlanked s1 n && s1.flag (foutBit n) && s1.get (FCMP_CFG_ACT (cmpOwner s1 n)) != 0
      freed.foldl (fun s n => raiseF 71 1 (n + 16 * t) (setEvt 0x061 2 ((cmpTrip n s).count BLANK_DEFCNT_COUNT))) s1) s

end Sys2Proof.Machine
end

