-- ==== Sys2Proof/Machine/Meter.lean ====
section
/-! DEFINITION. Metering (R401–R406), sags, swells and interruptions (R407, R408), pre-connection checks (R409) and the S0 inputs
(R410, R411). -/

namespace Sys2Proof.Machine

open Host (Outcome)

/-! ### Corrected samples in volts and amperes -/

/-- The value of a finite FP32 word; 0 for the others. -/
def fpRat (w : Word) : Rat :=
  match (fpRead 0 w).1 with
  | .fin neg m e =>
    let v : Rat := if 0 ≤ e then (m : Rat) * 2 ^ e.toNat else (m : Rat) / 2 ^ (-e).toNat
    if neg then -v else v
  | _ => 0

/-- The corrected value of an input at the sensor's primary (Table 13-11). -/
def phys (s : State) (i : Nat) : Rat := (corrVal s i : Rat) * fpRat (s.raw (METER_SCALE_S i).addr) / 2 ^ 19

/-- The 100 µA source of the neutral test is switched into AIN_3 (R409). -/
def neutralSource (s : State) : Bool := s.flag METER_STAT_CHKRUN && s.flag METER_CHKCFG_NEUEN && 49152 ≤ s.meter.chkN && s.meter.chkN < 57344

/-- A phase voltage as the angle tracker takes it: during the neutral source VN is held at its mean from before (R409). -/
def vTrack (s : State) (x : Nat) : Rat :=
  phys s x - (if neutralSource s then s.meter.chkVn.1 / 8192 * fpRat (s.raw (METER_SCALE_S 3).addr) / 2 ^ 19 else phys s 3)

/-- Phase voltages referred to VN, and line-to-line voltages. -/
def vPhase (s : State) (x : Nat) : Rat := phys s x - phys s 3
def vLine (s : State) (x : Nat) : Rat := phys s x - phys s ((x + 1) % 3)

/-- The base of phase-to-neutral voltages: V_LL_NOM / √3. -/
def vBase (s : State) : Rat := (vllNom s : Nat) / Config.sqrt 3

def cadd (a b : Cx) : Cx := (a.1 + b.1, a.2 + b.2)
def csub (a b : Cx) : Cx := (a.1 - b.1, a.2 - b.2)
def cmul (a b : Cx) : Cx := (a.1 * b.1 - a.2 * b.2, a.1 * b.2 + a.2 * b.1)
def cscale (k : Rat) (a : Cx) : Cx := (k * a.1, k * a.2)
def conj (a : Cx) : Cx := (a.1, -a.2)
def cabs (a : Cx) : Rat := Config.sqrt (a.1 * a.1 + a.2 * a.2)
/-- e^(j2πx) for x in cycles. -/
def cis (x : Rat) : Cx := (Config.cosCycle x, Config.sinCycle x)

/-! ### Accumulation over a pick -/

/-- Add lists entry by entry. -/
def addL (a b : List Rat) : List Rat := List.zipWith (· + ·) a b
def addC (a b : List Cx) : List Cx := List.zipWith cadd a b

/-- A PQ event is in force. -/
def pqActive (s : State) : Bool := s.meter.sag.isSome || s.meter.swell.isSome || s.meter.intr.isSome

/-- Mark k of the five picks before, newest first. -/
def markAt (s : State) (k : Nat) : PickMark := s.meter.lag.getD k ⟨false, false, 0, 0⟩

/-- The corrected samples of a pick enter an accumulator; `i` is their index in the cycle (R401, R402). Length, LOCK, PQ and Δ are those of the
pick that the samples describe, five picks before. -/
def accSample (i : Nat) (s : State) (a : MeterAcc) : MeterAcc :=
  let v := (List.range 3).map (vPhase s)
  let l := (List.range 3).map (vLine s)
  let c := (List.range 4).map fun k => phys s (4 + k)
  let sum := c.getD 0 0 + c.getD 1 0 + c.getD 2 0
  let xs := v ++ l ++ c ++ [phys s 8, sum]
  let e := cis (-((i : Nat) : Rat) / 4096)
  let ph := (v ++ c.take 3).map fun x => cscale x e
  let clip := (List.range 9).any fun k => (corrWord s k).getLsbD 23
  let gap := (List.range 9).any fun k => (corrWord s k).getLsbD 30
  { a with sq := addL a.sq (xs.map fun x => x * x), pw := addL a.pw (List.zipWith (· * ·) v (c.take 3)), ph := addC a.ph ph,
           lc := a.lc + (markAt s 4).lc, n := a.n + 1, delta := a.delta + wrapLo ((markAt s 3).delta - (markAt s 4).delta),
           flags := List.zipWith (· || ·) a.flags [(markAt s 4).pq, !(markAt s 4).lock, clip, gap] }

/-- Aggregate a finished window into a longer one. -/
def accMerge (a b : MeterAcc) : MeterAcc :=
  { a with sq := addL a.sq b.sq, pw := addL a.pw b.pw, ph := addC a.ph b.ph, q := addL a.q b.q, sa := addL a.sa b.sa, lc := a.lc + b.lc,
           n := a.n + b.n, cycles := a.cycles + b.cycles, delta := a.delta + b.delta, unb := a.unb + b.unb,
           flags := List.zipWith (· || ·) a.flags b.flags }

/-- The FREQ10 interval (R402): at 10 s the frequency is that of its turns. -/
def freq10 (s : State) : State :=
  let (lc, turns, last) := s.meter.f10
  let d := s.warp.delta
  let lc' := lc + s.warp.lenPrev
  let turns' := turns + 1 / 4096 + wrapLo (d - last)
  if lc' < 12000000000 then { s with meter.f10 := (lc', turns', d) }
  else { s with meter.f10 := (0, 0, d) }.put METER_FREQ10_F (lsbU 32 (turns' * 1200000000 * 1000000 / (lc' : Rat)))

/-- Sums of the running half cycle for Urms(1/2), on the channels that CFG.LL selects, in squares of the base (R407). -/
def halfSample (s : State) : State :=
  let ll := s.flag PQEVT_CFG_LL
  let base : Rat := if ll then ((vllNom s : Nat) : Rat) else vBase s
  let xs := (List.range 3).map fun x => let v := (if ll then vLine s x else vPhase s x) / base; v * v
  { s with meter := { s.meter with half := addL s.meter.half xs, halfN := s.meter.halfN + 1, halfLc := s.meter.halfLc + s.warp.lenPrev } }

/-- The samples of a running check: fundamentals over 10 cycles, then VN over 2 cycles without and 2 with the source (R409).
(DEDUCED: log entry 70.) -/
def checkSample (s : State) : State :=
  if !s.flag METER_STAT_CHKRUN then s
  else
    let n := s.meter.chkN
    let e := cis (-((pickOf s : Nat) : Rat) / 4096)
    let ph := if n < 40960 then addC s.meter.chkPh ((List.range 3).map fun x => cscale (vPhase s x) e) else s.meter.chkPh
    let vn := (corrVal s 3 : Rat)
    let vs := s.meter.chkVn
    let vn' := if n < 40960 then vs else if n < 49152 then (vs.1 + vn, vs.2) else (vs.1, vs.2 + vn)
    { s with meter := { s.meter with chkN := n + 1, chkPh := ph, chkVn := vn' } }

/-- The pick that has ended joins the marks of the picks whose samples have yet to come. -/
def markPick (s : State) : State :=
  let m := s.meter.now
  { s with meter := { s.meter with lag := (⟨m.pq || pqActive s, m.lock, m.delta, s.warp.lenPrev⟩ :: s.meter.lag).take 5,
                                   now := ⟨pqActive s, s.flag WARP_STAT_LOCK, s.warp.delta, 0⟩ } }

/-- The metering block's part of a pick boundary. The samples describe thread 0 of the pick five picks before (R392).
(DEDUCED: log entry 69.) -/
def meterPick (s0 : State) : State :=
  let s := markPick s0
  let i := (pickOf s + 4091) % 4096
  checkSample (halfSample (freq10 { s with meter.cyc := accSample i s (if i = 0 then MeterAcc.reset else s.meter.cyc) }))

/-! ### Measurement sets (Table 13-12) -/

/-- rms of the sum of squares k. -/
def rmsOf (a : MeterAcc) (k : Nat) : Rat := Config.sqrt (a.sq.getD k 0 / ((max 1 a.n : Nat) : Rat))

/-- Fundamental phasor k. -/
def phasorOf (a : MeterAcc) (k : Nat) : Cx := cscale (2 / ((max 1 a.n : Nat) : Rat)) (a.ph.getD k (0, 0))

/-- P and Q of phase x of a cycle, and its S. -/
def pOf (a : MeterAcc) (x : Nat) : Rat := a.pw.getD x 0 / ((max 1 a.n : Nat) : Rat)
def qCycle (a : MeterAcc) (x : Nat) : Rat := (cmul (conj (phasorOf a x)) (phasorOf a (3 + x))).2 / 2
def sCycle (a : MeterAcc) (x : Nat) : Rat := rmsOf a x * rmsOf a (6 + x)

/-- A finished cycle: its Q and S, and one cycle counted. -/
def closeCycle (a : MeterAcc) : MeterAcc := { a with q := (List.range 3).map (qCycle a), sa := (List.range 3).map (sCycle a), cycles := 1 }

def total (l : List Rat) : Rat := l.foldl (· + ·) 0

/-- Positive- and negative-sequence magnitudes of three phasors. -/
def seqMag (ph : List Cx) : Rat × Rat :=
  let p := fun k => ph.getD k (0, 0)
  let plus := cadd (p 0) (cadd (cmul (cis (1 / 3)) (p 1)) (cmul (cis (2 / 3)) (p 2)))
  let minus := cadd (p 0) (cadd (cmul (cis (2 / 3)) (p 1)) (cmul (cis (1 / 3)) (p 2)))
  (cabs plus / 3, cabs minus / 3)

/-- Zero-sequence magnitude. -/
def zeroMag (ph : List Cx) : Rat := cabs (cadd (ph.getD 0 (0, 0)) (cadd (ph.getD 1 (0, 0)) (ph.getD 2 (0, 0)))) / 3

/-- Frequency of a window (R402), in Hz. -/
def windowFreq (a : MeterAcc) : Rat := quot (((a.cycles : Rat) + a.delta) * 1200000000) (a.lc : Rat)

/-- Unbalance |V−| / |V+| of the fundamentals of a window. -/
def unbalance (a : MeterAcc) : Rat := let m := seqMag (a.ph.take 3); quot m.2 m.1

/-- The words of a set, and its writing at set j. The unbalance of a 150/180-cycle window is aggregated from its fifteen windows as an rms value
is (R401); SWARP is the short warp of the angle zero with which the window ends, four picks before its last samples.
(DEDUCED: log entry 69.) -/
def writeSet (j : Nat) (a : MeterAcc) (s : State) : State :=
  let u := fun (k : Rat) (x : Rat) => lsbU 32 (k * x)
  let i := fun (x : Rat) => lsbS 32 x
  let c : Rat := ((max 1 a.cycles : Nat) : Rat)
  let ps := (List.range 3).map (pOf a)
  let qs := a.q.map (· / c)
  let st := total a.sa / c
  let va := phasorOf a 0
  let ang := fun k => let p := phasorOf a k; lsbS 16 (36000 * wrapHi (Config.atan2 p.2 p.1 - Config.atan2 va.2 va.1))
  let unb := if j = 2 then Config.sqrt (a.unb / 15) else unbalance a
  let ws := (List.range 6).map (fun k => u 10 (rmsOf a k)) ++ (List.range 4).map (fun k => u 1000 (rmsOf a (6 + k))) ++
    (ps ++ [total ps]).map i ++ (qs ++ [total qs]).map i ++
    [u 1 st, lsbS 16 (quot (10000 * total ps) st), u 1000000 (windowFreq a)] ++
    [ang 1, ang 2, ang 3, ang 4, ang 5, lsbU 16 (100000 * unb), (swarp s - 4#32).toNat,
     bit (a.flags.getD 0 false) + 2 * bit (a.flags.getD 1 false) + 4 * bit (a.flags.getD 2 false) + 8 * bit (a.flags.getD 3 false)]
  (ws.zipIdx).foldl (fun s p => s.put (METER_SETW_W (32 * j + p.2)) p.1) s

/-- Add to energy accumulator k, in 2^-32 of its unit (R404). -/
def addEnergy (k : Nat) (x : Rat) (s : State) : State :=
  let e := s.meter.energy.getD k 0 + (lsb (x * 2 ^ 32)).toNat
  ({ s with meter.energy := s.meter.energy.set k e }.put (METER_E_E (2 * k)) (bitsAt e 32 32)).put (METER_E_E (2 * k + 1)) (bitsAt e 64 32)

/-- The accumulators at the end of a cycle (R404, Table 13-7): mWh, mvarh, mVAh. -/
def energyCycle (a : MeterAcc) (s : State) : State :=
  let k : Rat := (a.lc : Rat) / 1200000000 * 5 / 18
  let p := total ((List.range 3).map (pOf a))
  let q := total a.q
  let sv := total a.sa
  let pos := decide (0 ≤ p)
  let s1 := addEnergy (if pos then 0 else 1) (ratAbs p * k) s
  let quad := if 0 ≤ q then (if pos then 2 else 3) else (if pos then 5 else 4)
  addEnergy (if pos then 6 else 7) (sv * k) (addEnergy quad (ratAbs q * k) s1)

/-- R406. -/
def residual (a : MeterAcc) (s : State) : State :=
  let th := (s.get CURCTL_ILIM_ILIM : Rat) / 10 / Config.sqrt 2 * (s.get METER_CHKCFG_RESTH : Nat) / 1000
  let hi := decide (th < rmsOf a 11) || decide (th < rmsOf a 9) || decide (th < rmsOf a 10)
  let lo := decide (rmsOf a 11 < th) && decide (rmsOf a 9 < th) && decide (rmsOf a 10 < th)
  let s1 := { s with meter := { s.meter with high := if hi then s.meter.high + 1 else 0, low := if lo then s.meter.low + 1 else 0 } }
  let set := fun (b : Bool) (s : State) => raiseF 90 2 (bit b) (setEvt 0x071 0x10 (s.putB METER_STAT_SUMI b))
  if 10 ≤ s1.meter.high && !s.flag METER_STAT_SUMI then set true s1
  else if 10 ≤ s1.meter.low && s.flag METER_STAT_SUMI then set false s1
  else s1

/-- `METER_WINDOW_END` (R401–R406): the samples of a warp cycle are complete; the longer windows end with their last cycle. -/
def execMeterWindowEnd (s : State) : Outcome State Fault Refusal :=
  run (fun s =>
    if s.meter.cyc.n != 4096 then s
    else
      let a := closeCycle s.meter.cyc
      let s1 := residual a (energyCycle a (setEvt 0x071 1 (writeSet 0 a s)))
      let w := accMerge s.meter.w10 a
      let s2 := { s1 with meter := { s1.meter with cyc := MeterAcc.reset, w10 := w } }
      if w.cycles < (if s.flag WARP_FNOM_F60 then 12 else 10) then s2
      else
        let y := accMerge s.meter.w150 { w with unb := unbalance w * unbalance w }
        let s3 := setEvt 0x071 2 (writeSet 1 w { s2 with meter := { s2.meter with w10 := MeterAcc.reset, w150 := y } })
        if y.cycles < (if s.flag WARP_FNOM_F60 then 180 else 150) then s3
        else setEvt 0x071 4 (writeSet 2 y { s3 with meter.w150 := MeterAcc.reset })) s

/-- The read of a LO word at `a` by an agent: HI goes into the agent's shadow (R405, R410). -/
def loRead (agent a : Nat) (s : State) : Word × State := (s.raw a, loadShadow agent a [s.raw (a + 4)] s)

/-- The read of an accumulator's LO word by an agent (R405). -/
def eLoRead (agent k : Nat) (s : State) : Word × State := loRead agent (METER_E_E (2 * k)).addr s

/-- `METER_E_LO_READ` (R405). -/
def execMeterELoRead (agent k : Nat) (s : State) : Outcome State Fault Refusal :=
  run (fun s => let (w, s1) := eLoRead agent (k % 8) s; emit (.read [w]) s1) s

/-! ### Sags, swells and interruptions (R407, R408) -/

/-- The state of a kind of event: 1 = sag, 2 = swell, 3 = interruption. -/
def pqGet (s : State) (ty : Nat) : Option PqEvt := if ty = 1 then s.meter.sag else if ty = 2 then s.meter.swell else s.meter.intr
def pqSet (ty : Nat) (e : Option PqEvt) (s : State) : State :=
  let s1 : State := if ty = 1 then { s with meter.sag := e } else if ty = 2 then { s with meter.swell := e } else { s with meter.intr := e }
  s1.putB ⟨PQEVT_STAT_SAG.addr, ty - 1, 1⟩ e.isSome

/-- Milliseconds that loom clocks last. -/
def msOf (lc : Nat) : Rat := (lc : Rat) / 1200000

/-- A log record (Table 13-14), its SWARP apart. -/
def pqRecord (ty : Nat) (e : PqEvt) (isOpen : Bool) (s : State) : State :=
  if e.rcd = 0 then s
  else
    let b := 4 * (e.rcd % 32)
    ((s.put (PQEVT_LOGW_W (b + 1)) (lsbU 32 (msOf e.lc))).put (PQEVT_LOGW_W (b + 2))
      (lsbU 16 (e.mag * 10000) + 2 ^ 16 * ty + 2 ^ 24 * e.mask + 2 ^ 31 * bit isOpen)).put (PQEVT_LOGW_W (b + 3)) e.rcd

/-- An event begins: count, record, journal. A record that is still open is not overwritten (R408). -/
def pqBegin (ty mask : Nat) (mag : Rat) (s : State) : State :=
  let r := s.get PQEVT_LOGHEAD_REC + 1
  let held := (s.raw (PQEVT_LOGW_W (4 * (r % 32) + 2)).addr).getLsbD 31
  let s1 := s.count (if ty = 1 then PQEVT_CNT1_SAG else if ty = 2 then PQEVT_CNT1_SWELL else PQEVT_CNT2_INT)
  let s2 := if held || 32 < r then s1.count PQEVT_CNT2_OVWR else s1
  let e : PqEvt := ⟨if held then 0 else r, mag, mask, 0⟩
  let s3 := if held then s2 else pqRecord ty e true ((s2.put PQEVT_LOGHEAD_REC r).put (PQEVT_LOGW_W (4 * (r % 32))) (swarp s).toNat)
  raiseF 91 (2 * ty - 1) mask (setEvt 0x072 1 (pqSet ty (some e) s3))

/-- An event ends. -/
def pqEnd (ty : Nat) (e : PqEvt) (s : State) : State :=
  raiseF 91 (2 * ty) (min 0xFFFF (lsbU 32 (msOf e.lc))) (setEvt 0x072 2 (pqSet ty none (pqRecord ty e false s)))

/-- One kind at a refresh: `cross` = a channel has crossed, `starts` and `ends` the conditions, `worst` the magnitude now, `lc` the loom
clocks since the last refresh. -/
def pqStep (ty lc mask : Nat) (starts ends : Bool) (worst : Rat) (s : State) : State :=
  match pqGet s ty with
  | none => if starts then pqBegin ty mask worst s else s
  | some e =>
    let e1 := { e with lc := e.lc + lc, mask := e.mask ||| mask, mag := if ty = 2 then ratMax e.mag worst else ratMin e.mag worst }
    if ends then pqEnd ty { e1 with mag := e.mag, mask := e.mask } s
    else pqSet ty (some e1) (pqRecord ty e1 true s)

/-- The mask of the channels of which a condition holds. -/
def chanMask (f : Nat → Bool) : Nat := (List.range 3).foldl (fun (m : Nat) x => m + bit (f x) * 2 ^ x) 0

/-- `PQ_REFRESH` (R407): every 2,048 picks Urms(1/2) is refreshed and the events are evaluated. -/
def execPqRefresh (s : State) : Outcome State Fault Refusal :=
  run (fun s =>
    if s.meter.halfN < 2048 then s
    else
      let us := (List.range 3).map fun x => Config.sqrt ((s.meter.half.getD x 0 + s.meter.prev.getD x 0) / 4096)
      let lc := s.meter.halfLc
      let m := { s.meter with prev := s.meter.half, half := [0, 0, 0], halfN := 0, halfLc := 0 }
      let s0 := { s with meter := m }
      if !s.flag PQEVT_CFG_EN || !s.flag WEAVE_STAT_RUN then s0
      else
        let s1 := (List.range 3).foldl (fun s x => s.put (PQEVT_URMS_U x) (lsbU 16 (10000 * us.getD x 0))) s0
        let u := fun x => us.getD x 0
        let th := fun n : Nat => ((n : Nat) : Rat) / 1000
        let sag := th (s.get PQEVT_THR_SAGTH)
        let swl := th (s.get PQEVT_THR_SWLTH)
        let int := th (s.get PQEVT_THR_INTTH)
        let hy := th (s.get PQEVT_CFG_HYST)
        let all := fun f : Nat → Bool => (List.range 3).all f
        let any := fun f : Nat → Bool => (List.range 3).any f
        let lo := us.foldl ratMin (u 0)
        let hi := us.foldl ratMax (u 0)
        let s2 := pqStep 1 lc (chanMask fun x => u x < sag) (any fun x => u x < sag) (all fun x => sag + hy ≤ u x) lo s1
        let s3 := pqStep 2 lc (chanMask fun x => swl < u x) (any fun x => swl < u x) (all fun x => u x ≤ swl - hy) hi s2
        pqStep 3 lc (chanMask fun x => u x < int) (all fun x => u x < int) (any fun x => int + hy ≤ u x) lo s3) s

/-! ### Pre-connection checks (R409) -/

/-- A check starts. -/
def checkStart (s : State) : State :=
  let m := { s.meter with chkN := 0, chkPh := [(0, 0), (0, 0), (0, 0)], chkVn := (0, 0), due := false }
  ({ s with meter := m }.put METER_STAT_CHK 0).put METER_STAT_CHKRUN 1

/-- The conditions of a start. -/
def checkMay (s : State) : Bool := s.get GRIDFN_STAT_CSTATE = 0 && s.flag WARP_STAT_VALID && !s.flag METER_STAT_CHKRUN

/-- A check has its result: cause 0 = pass. -/
def checkResult (cause : Nat) (s : State) : State :=
  let s1 := (s.put METER_STAT_CHKRUN 0).putB METER_STAT_CHK (cause = 0)
  let s2 := if cause = 0 then s1 else s1.put METER_STAT_CAUSE cause
  raiseF 90 1 (bit (cause = 0) + 2 * cause) (setEvt 0x071 8 s2)

/-- `CHECK_START` (R409): a check that is due starts by itself. -/
def execCheckStart (s : State) : Outcome State Fault Refusal := run (fun s => if s.meter.due && checkMay s then checkStart s else s) s

/-- A write of `METER.CHKCTL`. -/
def chkctlWrite (w : Word) (s : State) : State :=
  let a := METER_CHKCTL_GO.addr
  let s1 := if w.toNat / 2 = 0 then s else capture a 2 s
  if !w.getLsbD 0 then s1
  else if s.get GRIDFN_STAT_CSTATE != 0 || s.flag METER_STAT_CHKRUN then capture a 3 s1
  else if checkMay s then checkStart s1
  else { s1 with meter.due := true }

/-- `CHKCTL_GO` (R409). -/
def execChkctlGo (s : State) : Outcome State Fault Refusal := run (chkctlWrite 1) s

/-- What a check of 14 cycles has found: the cause, 0 = none.
(DEDUCED: log entry 70.) -/
def checkCause (s : State) : Nat :=
  let ph := s.meter.chkPh.map (cscale (2 / 40960))
  let base := vBase s * Config.sqrt 2
  let m := seqMag ph
  let neu : Rat := (s.get METER_CHKCFG_NEUTH : Nat) / 100
  let vn := s.meter.chkVn
  let shift := ratAbs (vn.2 - vn.1) / 8192
  if ph.any fun p => decide (cabs p < base / 2) then 2
  else if m.1 < m.2 then 3
  else if m.1 / 5 < m.2 then 4
  else if neu * base < zeroMag ph then 6
  else if s.flag METER_CHKCFG_NEUEN && (s.get METER_CHKCFG_NSHIFT : Nat) * 64 < shift then 5
  else 0

/-- `CHECK_DONE` (R409): the 14 cycles of a check have passed.
(DEDUCED: log entry 70.) -/
def execCheckDone (s : State) : Outcome State Fault Refusal :=
  run (fun s => if s.flag METER_STAT_CHKRUN && 57344 ≤ s.meter.chkN then checkResult (checkCause s) s else s) s

/-- `CHECK_INVALID_TIMEOUT` (R409): the measurement has been invalid for 10 s since a check became due. -/
def execCheckInvalidTimeout (s : State) : Outcome State Fault Refusal :=
  run (fun s => if s.meter.due && !s.flag WARP_STAT_VALID then checkResult 1 { s with meter.due := false } else s) s

/-- `CHECK_RETRY` (R409): RETRY seconds after a failure the check is due again. -/
def execCheckRetry (s : State) : Outcome State Fault Refusal :=
  run (fun s =>
    if s.flag METER_STAT_CHK || s.flag METER_STAT_CHKRUN || s.get METER_STAT_CAUSE = 0 || s.get GRIDFN_STAT_CSTATE != 0 then s
    else if checkMay s then checkStart s else { s with meter.due := true }) s

/-! ### S0 inputs (R410, R411) -/

/-- A pulse counts on input n; every CMPN-th starts a comparison. -/
def s0Count (n : Nat) (s : State) : State :=
  let lo := s.get (S0_CNTLO_COUNT n)
  let s1 := (s.put (S0_CNTLO_COUNT n) (lo + 1)).put (S0_CNTHI_COUNT n) (s.get (S0_CNTHI_COUNT n) + (lo + 1) / 2 ^ 32)
  if !s.flag (S0_CFG_XEN n) then s1
  else
    let k := s.s0.pulses.getD n 0 + 1
    if k < s.get (S0_WGT_CMPN n) then { s1 with s0.pulses := s1.s0.pulses.set n k }
    else ownRead n (METER_E_E (2 * s.get (S0_CFG_MAP n))).addr 2 { s1 with s0.pulses := s1.s0.pulses.set n 0 }

/-- A pulse is rejected, or over-long (event 0x0003). -/
def s0Bad (n : Nat) (long : Bool) (s : State) : State := raiseH 92 3 (n + 4 * bit long) (setEvt 0x021 (2 ^ (4 + n)) (s.count (S0_BAD_BAD n)))

/-- `S0_PULSE` (R410): input n falls from ON, which lasted `on` ms after an OFF of `off` ms. -/
def execS0Pulse (n on off : Nat) (s : State) : Outcome State Fault Refusal :=
  run (fun s =>
    if 4 ≤ n || !s.flag (S0_CFG_EN n) then s
    else if s.s0.maxed.getD n false then { s with s0.maxed := s.s0.maxed.set n false }
    else if s.get (S0_CFG_MINON n) ≤ on && s.get (S0_CFG_MINOFF n) ≤ off then s0Count n s
    else s0Bad n false s) s

/-- `S0_MAXON` (R410): an ON of input n lasts MAXON; it counts once and is reported. -/
def execS0Maxon (n : Nat) (s : State) : Outcome State Fault Refusal :=
  run (fun s =>
    if 4 ≤ n || !s.flag (S0_CFG_EN n) || s.s0.maxed.getD n false then s
    else s0Bad n true (s0Count n { s with s0.maxed := s.s0.maxed.set n true })) s

/-- The accumulator of input n has been read (R411): the baseline, or the comparison.
(DESIGN CHOICE: log entry 75.) -/
def s0Compare (n : Nat) (ws : List Word) (s : State) : State :=
  let e : Nat := (ws.getD 0 0).toNat + 2 ^ 32 * (ws.getD 1 0).toNat
  let s1 := { s with s0.base := s.s0.base.set n (some e) }
  match s.s0.base.getD n none with
  | none => s1.put (S0_XSTAT_LAST n) 3
  | some b =>
    let w : Rat := ((max 1 (s.get (S0_WGT_WEIGHT n)) : Nat) : Rat)
    let es : Rat := (s.get (S0_WGT_CMPN n) : Nat) * 1000000 / w
    let dev : Rat := ((e : Nat) : Rat) - ((b : Nat) : Rat)
    let tol := ratMax ((s.get S0_XCFG_TOL : Nat) / 1000 * es) (2000000 / w)
    let s2 := (s1.put (S0_XDEV_E n) (lsbU 32 (dev / 1000))).put (S0_XS0_E n) (lsbU 32 (es / 1000))
    if tol < ratAbs (dev - es) then
      raiseH 92 1 n (setEvt 0x021 (2 ^ n) ((s2.count (S0_XSTAT_MIS n)).put (S0_XSTAT_LAST n) 2))
    else s2.put (S0_XSTAT_LAST n) 1

/-- A write of `S0.CFG_n`: enabling starts with a baseline (R411). -/
def s0CfgWrite (n : Nat) (w : Word) (s : State) : State :=
  let a := (S0_CFG_EN n).addr
  let s1 := writeReg a w s
  if s.flag (S0_CFG_EN n) == s1.flag (S0_CFG_EN n) && s.flag (S0_CFG_XEN n) == s1.flag (S0_CFG_XEN n) then s1
  else { s1 with s0 := { s1.s0 with base := s1.s0.base.set n none, pulses := s1.s0.pulses.set n 0 } }

end Sys2Proof.Machine
end

