-- ==== Sys2Proof/Machine/GridFn.lean ====
section
/-! DEFINITION. Ride-through, trip curves and connection (R360–R370, R379–R381), and the available rating (R31, R309). -/

namespace Sys2Proof.Machine

open Host (Outcome)

def modRide (f : RideSt → RideSt) (s : State) : State := { s with ride := f s.ride }

/-- An event of source 68 with its flag (Table 12-8). -/
def gridEvent (bitNo code data : Nat) (s : State) : State := raiseF 68 code data (setEvt 0x078 (2 ^ bitNo) s)

/-! ### Ratings -/

/-- Counted cells of a phase (R284). -/
def countOf (s : State) (ph : Nat) : Nat := ((phaseCells ph).filter fun g => (cellSt s g).counted).length

/-- S_avail in VA (R31). -/
def sAvail (s : State) : Rat :=
  let one := fun ph : Nat => ratMin ((countOf s ph : Nat) * 36000) ((vllNom s : Nat) / Config.sqrt 3 * 110)
  3 * ratMin (one 0) (ratMin (one 1) (one 2))

/-- I_LIM in peak amperes (R309). -/
def iLim (s : State) : Rat := Config.sqrt 2 * ratMin 110 (sAvail s / (Config.sqrt 3 * (vllNom s : Nat)))

/-! ### Quantities of a pick (R360) -/

def valid (s : State) : Bool := s.flag WARP_STAT_VALID

/-- f_m, which reads 0 while the measurement is invalid. -/
def fM (s : State) : Rat := if valid s then s.warp.fm else 0

/-- Negative-sequence vector in α and β, in pu of the phase peak. -/
def negVec (s : State) : Cx :=
  let b := Config.sqrt 2 * vBase s
  ((s.warp.a.v + s.warp.b.q) / 2 / b, (s.warp.b.v - s.warp.a.q) / 2 / b)

/-- f_m at ROCWIN earlier, from the list of picks. -/
def fmBefore (win : Rat) : List (Rat × Rat) → Rat → Option Rat
  | [], _ => none
  | (t, f) :: r, acc => if win ≤ acc + t then some f else fmBefore win r (acc + t)

/-- Drop what lies more than ROCWIN back, but for one pick. -/
def keepWindow (win : Rat) : List (Rat × Rat) → Rat → List (Rat × Rat)
  | [], _ => []
  | p :: r, acc => if win ≤ acc then [p] else p :: keepWindow win r (acc + p.1)

/-- V_1–V_3, V_min, V_max, |V−| and ROCOF (R360). -/
def gridQuantities (s : State) : State :=
  let ll := s.flag GRIDFN_CTL_VSEL
  let base : Rat := if ll then ((vllNom s : Nat) : Rat) else vBase s
  let sq := fun x => let v := (if ll then vLine s x else vPhase s x) / base; v * v
  let sqs := ((sq 0, sq 1, sq 2) :: s.ride.sq).take 2048
  let sum := sqs.foldl (fun (a : Rat × Rat × Rat) p => (a.1 + p.1, a.2.1 + p.2.1, a.2.2 + p.2.2)) (0, 0, 0)
  let v := [Config.sqrt (sum.1 / 2048), Config.sqrt (sum.2.1 / 2048), Config.sqrt (sum.2.2 / 2048)]
  let vmin := v.foldl ratMin (v.getD 0 0)
  let vmax := v.foldl ratMax (v.getD 0 0)
  let vneg := cabs (negVec s)
  let win : Rat := (s.get ISLAND_PTHR_ROCWIN : Nat) / 1000
  let fms := if valid s then keepWindow win ((tPick s, fM s) :: s.ride.fms) 0 else []
  let roc : Rat := if !valid s then 0 else match fmBefore win fms 0 with
    | some f => (fM s - f) / win
    | none => 0
  let s1 := modRide (fun r => { r with sq := sqs, fms := fms, rocof := roc, vmin := vmin, vmax := vmax, v1 := v, vneg := vneg }) s
  (((s1.put GRIDFN_VMEAS_VMIN (lsbU 16 (1000 * vmin))).put GRIDFN_VMEAS_VMAX (lsbU 16 (1000 * vmax))).put GRIDFN_VSEQ_VNEG
    (lsbU 16 (10000 * vneg))).put GRIDFN_VSEQ_ROCOF (lsbS 16 (100 * roc))

/-! ### The ride-through event (R361–R367) -/

def cstate (s : State) : Nat := s.get GRIDFN_STAT_CSTATE

/-- States in which an event can begin and trip timers run. -/
def connected (s : State) : Bool := 3 ≤ cstate s && cstate s ≤ 5

def pu (n : Nat) : Rat := ((n : Nat) : Rat) / 1000

/-- The tracker has detected a phase jump in this pick (R124). -/
def jumped (s : State) : Bool := s.warp.freeze == 6144

/-- Conditions of kind V. -/
def kindV (s : State) : Bool :=
  s.ride.vmin < pu (s.get GRIDFN_RTBAND_VCLO) || pu (s.get GRIDFN_RTBAND_VCHI) < s.ride.vmax || !valid s

/-- The conditions of R362. -/
def recovered (s : State) : Bool :=
  pu (s.get GRIDFN_RTBAND_VCLO) + 1 / 50 ≤ s.ride.vmin && s.ride.vmax ≤ pu (s.get GRIDFN_RTBAND_VCHI) - 1 / 50 && valid s

/-- An event begins. A suspension interval begins with the first event outside one (R377). -/
def rtBegin (s : State) : State :=
  let v := kindV s
  let j := jumped s
  let s1 := modRide (fun r => { r with calm := 0, dur := 0, kappa := 1, idPre := s.cur.idr, iqPre := s.cur.iqr, rise := none }) s
  let s2 := (((s1.put GRIDFN_STAT_RT 1).putB GRIDFN_STAT_KV v).putB GRIDFN_STAT_KJ j).count GRIDFN_RTCNT_EVENTS
  let s3 := { s2 with warp.fBefore := s.warp.fLast }
  let s4 := raiseF 73 1 (bit v + 2 * bit j + 4 * bit (!valid s) + 256 * lsbU 8 (100 * s.ride.vmin)) (setEvt 0x078 1 s3)
  if s4.flag ISLAND_STAT_SUSP then s4
  else raiseF 69 2 1 (setEvt 0x079 4 (({ s4 with isl := { s4.isl with susp := some 0, both := 0, exceed := 0 } }.put ISLAND_STAT_SUSP 1).put
    ISLAND_STAT_TMAXD 0))

/-- An event ends: the additions end, κ returns to 1 and i_d recovers at PREC (R362, R367). -/
def rtEnd (s : State) : State :=
  let s1 := modRide (fun r => { r with kappa := 1, rise := some s.cur.idr }) { s with warp.fBefore := none }
  let s2 := ((s1.put GRIDFN_STAT_RT 0).put GRIDFN_STAT_KV 0).put GRIDFN_STAT_KJ 0
  gridEvent 1 1 (lsbU 16 (1000 * s.ride.dur)) { s2 with isl.quiet := 0 }

/-- Momentary cessation begins or ends (R365). -/
def setMc (b : Bool) (s : State) : State :=
  if s.flag GRIDFN_STAT_MC == b then s
  else
    let s1 := s.putB GRIDFN_STAT_MC b
    gridEvent 4 4 (bit b) (if b then s1.count GRIDFN_RTCNT_MC else modRide (fun r => { r with rise := some 0 }) s1)

/-- The event's part of a pick: kinds accumulate, the end conditions are timed, and an event begins. -/
def rtPick (s : State) : State :=
  let t := tPick s
  let mc := s.flag GRIDFN_CTL_MCEN && connected s &&
    (if s.flag GRIDFN_STAT_MC then s.ride.vmin < pu (s.get GRIDFN_RTBAND_VMC) + 1 / 50 else s.ride.vmin < pu (s.get GRIDFN_RTBAND_VMC))
  let s0 := modRide (fun r => { r with jump := if jumped s then 0 else r.jump + 1 }) s
  let s1 :=
    if s0.flag GRIDFN_STAT_RT then
      let s1 := modRide (fun r => { r with dur := r.dur + t, calm := if recovered s then r.calm + t else 0 }) s0
      (s1.putB GRIDFN_STAT_KV (s0.flag GRIDFN_STAT_KV || kindV s)).putB GRIDFN_STAT_KJ (s0.flag GRIDFN_STAT_KJ || jumped s)
    else if connected s && (kindV s || jumped s) then rtBegin s0
    else modRide (fun r => { r with vpre := r.vpre + Config.lowPassGain 1 t * (s.warp.vpos - r.vpre) }) s0
  setMc mc s1

/-- `RT_EVENT_END` (R362): the end conditions have held for TEND, and at least 2 cycles have passed since the last phase jump. -/
def execRtEventEnd (s : State) : Outcome State Fault Refusal :=
  run (fun s =>
    if s.flag GRIDFN_STAT_RT && (s.get GRIDFN_RTTIME_TEND : Nat) / 1000 ≤ s.ride.calm && 8192 ≤ s.ride.jump then rtEnd s else s) s

/-- A frequency excursion (R363); while the measurement is invalid the flag stays.
(DESIGN CHOICE: log entry 72.) -/
def excursion (s : State) : State :=
  if !valid s then s
  else
    let hi := decide (fNom s + (s.get GRIDFN_FBAND_FCHI : Nat) / 1000 < fM s)
    let out := hi || decide (fM s < fNom s - (s.get GRIDFN_FBAND_FCLO : Nat) / 1000)
    if s.flag GRIDFN_STAT_FEXC == out then s else gridEvent 6 6 (bit out + 2 * bit hi) (s.putB GRIDFN_STAT_FEXC out)

/-! ### Trip points (R368) -/

/-- Count field of a boundary: 0 = UV, 1 = OV, 2 = UF, 3 = OF. -/
def curvCount (b : Nat) : Fld := ⟨GRIDFN_CURVN_UVN.addr, 8 * b, 5⟩
def curvShadowCount (b : Nat) : Fld := ⟨GRIDFN_CURVSN_UVN.addr, 8 * b, 5⟩

/-- A point's level: pu, or Hz. -/
def levelOf (s : State) (b : Nat) (f : Fld) : Rat := if b < 2 then pu (s.get f) else (s.getI f : Rat) / 1000

/-- A point's duration in seconds. -/
def durOf (dur : Nat) (scale : Bool) : Rat := ((dur : Nat) : Rat) / (if scale then 10 else 1000)

/-- Points whose timers have reached their durations.
(DESIGN CHOICE: log entry 76.) -/
def duePoints (s : State) : List Nat :=
  (List.range 64).filter fun k =>
    k % 16 < s.get (curvCount (k / 16)) && 0 < s.ride.timers.getD k 0 &&
      durOf (s.get (GRIDFN_CURV_DUR k)) (s.flag (GRIDFN_CURV_SCALE k)) ≤ s.ride.timers.getD k 0

/-! ### Connection states (R379–R381, Table 12-6) -/

/-- The permits SHUT, RUN, WDOG, SEAL, CHK, CELLS and EN (R380); SEAL stands as the H-die last passed it. WDOG stands while the factor of an
expiry with the action HOLD still falls: GRID_OPEN is asserted when it reaches 0 (Table 3-14; DEDUCED: log entry 167). -/
def permitBits (s : State) : Nat :=
  let cells := match convMap s with
    | some m => (List.range 3).all fun ph => headroom (countOf s ph) m.vraise m.vll
    | none => false
  bit (!s.flag SHUTTLE_F_STAT_SHUT) + 2 * bit (s.flag WEAVE_STAT_RUN && !s.flag WEAVE_STAT_FB) + 4 * bit (s.wdog.fState != 3 || s.wdog.holdOpen) +
    8 * bitsAt (s.get GRIDFN_PERMIT_BITS) 3 1 + 16 * bit (s.flag METER_STAT_CHK) + 32 * bit cells + 64 * bit (s.flag GRIDFN_CTL_CONNEN)

/-- BAND (R380). -/
def bandOk (s : State) : Bool :=
  let lo := pu (s.get GRIDFN_CONNV_VRLO)
  let hi := pu (s.get GRIDFN_CONNV_VRHI)
  valid s && s.ride.v1.all (fun v => lo ≤ v && v ≤ hi) && fNom s - (s.get GRIDFN_CONNF_FRLO : Nat) / 1000 ≤ fM s &&
    fM s ≤ fNom s + (s.get GRIDFN_CONNF_FRHI : Nat) / 1000

def allPermits (s : State) : Bool := s.get GRIDFN_PERMIT_BITS == 127

/-- The window of the active detector starts anew: it takes only chips that begin from now on (R375). -/
def restartWindow (i : IslSt) : IslSt :=
  { i with chips := i.chips.map fun c => { c with fresh := false }, fresh := false, exceed := 0 }

/-- The suspension interval ends: the shift history and the window restart (R377, Table 12-5). -/
def endSuspension (s : State) : State :=
  let i := restartWindow s.isl
  raiseF 69 2 (2 * s.get ISLAND_STAT_TMAXD) (setEvt 0x079 4 (({ s with isl := { i with susp := none, shifts := [], ps := 0 } }.put
    ISLAND_STAT_SUSP 0).put ISLAND_STAT_TMAXD 0))

/-- Leaving CLOSING, RAMPING and CONNECTED ends cessation, clears the trip timers (R368), and ends an event in force together with its
suspension interval (R362). An interval that no event in force extends runs its TREC (R377). -/
def leaveConnection (s : State) : State :=
  let quiet := fun s : State => setMc false (modRide (fun r => { r with timers := List.replicate 64 0, rise := none }) s)
  if !s.flag GRIDFN_STAT_RT then quiet s
  else
    let s1 := quiet (rtEnd s)
    if s1.flag ISLAND_STAT_SUSP then endSuspension s1 else s1

/-- The connection state changes (event 0x0003). The whole wait remains at an entry into WAITING (R381). An entry into DISCONNECTED makes a check due (R409), and a check ends when that state is
left.
(DESIGN CHOICE: log entry 16.) -/
def setCstate (n : Nat) (timeout : Bool) (s : State) : State :=
  let o := cstate s
  if o = n then s
  else
    let s0 := if connected s && n < 3 then leaveConnection s else s
    let s1 := modRide (fun r => { r with inState := 0, hold := 0, wait := 0 }) ((s0.put GRIDFN_STAT_CSTATE n).put GRIDFN_STAT_WAITREM
      (if n = 1 then s0.get GRIDFN_CONNT_TWAIT else 0))
    let s2 := gridEvent 3 3 (n + 8 * o + 64 * bit timeout) s1
    if n = 0 then { s2 with meter.due := true }.put METER_STAT_CHK 0
    else if o = 0 then s2.put METER_STAT_CHKRUN 0 else s2

/-- Disconnection (R370): GRID_OPEN is asserted, the state becomes DISCONNECTED. -/
def disconnect (s : State) : State := setCstate 0 false (assertOpen s)

/-- The device has tripped in this pick. -/
def tripsNow (s : State) : Bool := s.ride.tripAt == some (absPick s)

/-- A trip is recorded (R370, Table 12-9); of several in one pick, the one with the lowest cause. -/
def recordTrip (cause point : Nat) (s : State) : State :=
  let put := fun s : State => (s.put GRIDFN_TRIP_CAUSE cause).put GRIDFN_TRIP_POINT point
  if tripsNow s then (if cause < s.get GRIDFN_TRIP_CAUSE then put s else s)
  else (put (modRide (fun r => { r with tripAt := some (absPick s) }) s) |>.count GRIDFN_TRIP_COUNT).put GRIDFN_TRIPW_SWARP (swarp s).toNat

def tripEvent (cause point : Nat) (s : State) : State := gridEvent 2 2 (cause + 256 * point) s

/-- Trips of one pick, by cause and point: each is journalled, the lowest cause is recorded, and the disconnection is committed (R370).
(DEDUCED: log entry 71.) (DESIGN CHOICE: log entry 76.) -/
def trips (ts : List (Nat × Nat)) (s : State) : State :=
  disconnect (ts.foldl (fun s t => tripEvent t.1 t.2 (recordTrip t.1 t.2 s)) s)

/-- The curve trips that are decided in this pick. -/
def curveTrips (s : State) : List (Nat × Nat) := (duePoints s).map fun k => (k / 16 + 1, k % 16)

/-- A trip with a cause of its own, together with the curve trips of the pick. -/
def trip (cause point : Nat) (s : State) : State := trips (curveTrips s ++ [(cause, point)]) s

/-- The lost RUN permit of a fallback (R380): it ends WAITING and SYNCING at once; from CLOSING on, where the fallback first ramps the current
down, when GRID_OPEN is asserted (R167).
(DEDUCED: log entry 73.) -/
def fallbackConnect (s : State) : State :=
  let s1 := modRide (fun r => { r with timers := List.replicate 64 0 }) s
  if cstate s = 0 then s
  else if cstate s = 1 then setCstate 0 false s
  else if cstate s = 2 || s.pwr.gridOpen == some true then trip 6 0 s1
  else s

/-- The connection's part of a pick.
(DEDUCED: log entry 71.) (DESIGN CHOICE: log entry 74.) -/
def connectPick (s : State) : State :=
  let t := tPick s
  let s0 := (s.put GRIDFN_PERMIT_BITS (permitBits s)).putB GRIDFN_PERMIT_BAND (bandOk s)
  let ok := allPermits s0
  let band := bandOk s0
  if s0.flag WEAVE_STAT_FB then fallbackConnect s0
  else match cstate s0 with
    | 0 => if ok && band then setCstate 1 false s0 else s0
    | 1 =>
      if !(ok && band) then setCstate 0 false s0
      else
        let w := s0.ride.wait + t
        (modRide (fun r => { r with wait := w }) s0).put GRIDFN_STAT_WAITREM
          (((s0.get GRIDFN_CONNT_TWAIT : Nat) : Rat) - w).ceil.toNat
    | 2 =>
      if !ok then trip 6 0 s0
      else modRide (fun r => { r with inState := r.inState + t, hold := if s0.flag WARP_STAT_LOCK && band then r.hold + 1 else 0 }) s0
    | 3 => if !ok then trip 6 0 s0 else modRide (fun r => { r with inState := r.inState + t }) s0
    | 4 =>
      if !ok then trip 6 0 s0
      else if s0.flag GRIDFN_STAT_RT then s0
      else modRide (fun r => { r with r := ratMin 1 (r.r + t / ((max 1 (s0.get GRIDFN_CONNT_TRAMP) : Nat) : Rat)) }) s0
    | _ => if !ok then trip 6 0 s0 else s0

/-- `WAIT_TIMER` (R381): the wait timer reaches TWAIT. -/
def execWaitTimer (s : State) : Outcome State Fault Refusal :=
  run (fun s => if cstate s = 1 && (s.get GRIDFN_CONNT_TWAIT : Nat) ≤ s.ride.wait then setCstate 2 false s else s) s

/-- The conditions of SYNCING hold, and no other cause of R379 asserts GRID_OPEN. -/
def maySync (s : State) : Bool := s.flag WARP_STAT_LOCK && bandOk s && permitBits s == 127 && s.weave.stopped.all (!·)

/-- `SYNC_HOLD` (R380): LOCK, BAND and every permit have held for one cycle, and hold now: GRID_OPEN is deasserted. -/
def execSyncHold (s : State) : Outcome State Fault Refusal :=
  run (fun s => if cstate s = 2 && 4096 ≤ s.ride.hold && maySync s then setCstate 3 false { s with pwr.gridOpen := some false } else s) s

/-- `SYNC_TIMEOUT` (R380): 10 s in SYNCING without the condition. -/
def execSyncTimeout (s : State) : Outcome State Fault Refusal :=
  run (fun s => if cstate s = 2 && 10 ≤ s.ride.inState then setCstate 0 true s else s) s

/-- `BREAKER_TIME` (R380): TBRK has passed in CLOSING; the ramp starts from 0. -/
def execBreakerTime (s : State) : Outcome State Fault Refusal :=
  run (fun s =>
    if cstate s = 3 && (s.get GRIDFN_CONNT_TBRK : Nat) / 500 ≤ s.ride.inState then setCstate 4 false (modRide (fun r => { r with r := 0 }) s)
    else s) s

/-- `RAMP_COMPLETE` (R380): the ramp factor has reached 1. -/
def execRampComplete (s : State) : Outcome State Fault Refusal :=
  run (fun s => if cstate s = 4 && 1 ≤ s.ride.r then setCstate 5 false s else s) s

/-! ### Trip curves (R368–R370) -/

/-- The quantity is beyond a level; `none` while the timers of a frequency boundary keep their values. -/
def beyond (s : State) (b : Nat) (level : Rat) : Option Bool :=
  if b = 0 then some (s.ride.vmin < level)
  else if b = 1 then some (level < s.ride.vmax)
  else if !valid s then none
  else if b = 2 then some (fM s < fNom s + level)
  else some (fNom s + level < fM s)

/-- One timer in a pick (R368). -/
def timerStep (s : State) (k : Nat) (x : Rat) : Rat :=
  let b := k / 16
  if s.get (curvCount b) ≤ k % 16 then 0
  else match beyond s b (levelOf s b (GRIDFN_CURV_LEVEL k)) with
    | some true => x + tPick s
    | some false => 0
    | none => x

/-- The trip timers' part of a pick.
(DEDUCED: log entry 73.) -/
def tripPick (s : State) : State :=
  if !connected s || s.flag WEAVE_STAT_FB then s
  else modRide (fun r => { r with timers := (r.timers.zipIdx).map fun p => timerStep s p.2 p.1 }) s

/-- `TRIP_TIMER` (R368, R370): trip-point timers have reached their durations. -/
def execTripTimer (s : State) : Outcome State Fault Refusal :=
  run (fun s => if !connected s || (curveTrips s).isEmpty then s else trips (curveTrips s) s) s

/-- f_DT: the warp frequency at which the longest dead time in effect fills the 16 bits of a burst header (R294, R295). -/
def fDt (s : State) : Rat := let dt := [0, 1, 2].foldl (fun d ph => max d (dtOf (nowOf s ph).2)) 0; if dt = 0 then 1000000 else 65535 * 1200000000 / (2 ^ 28 * 12 * (dt : Nat))

/-- Values follow each other in strict order, or without falling. -/
def chained (ok : Rat → Rat → Bool) : List Rat → Bool
  | a :: b :: r => ok a b && chained ok (b :: r)
  | _ => true

/-- A boundary of the shadow passes Table 12-2. -/
def curveOk (s : State) (b : Nat) : Bool :=
  let n := s.get (curvShadowCount b)
  let ks := (List.range n).map (16 * b + ·)
  let lv := ks.map fun k => levelOf s b (GRIDFN_CURVS_LEVEL k)
  let du := ks.map fun k => durOf (s.get (GRIDFN_CURVS_DUR k)) (s.flag (GRIDFN_CURVS_SCALE k))
  let asc := chained (fun x y => decide (x < y)) lv
  let desc := chained (fun x y => decide (y < x)) lv
  n ≤ 16 && chained (fun x y => decide (x ≤ y)) du &&
    (if b = 0 then asc && lv.all (fun x => 0 ≤ x && x ≤ 1)
     else if b = 1 then desc && lv.all (fun x => 1 ≤ x && x ≤ 2)
     else if b = 2 then asc && lv.all (fun x => x ≤ 0 && 35 ≤ fNom s + x)
     else desc && lv.all (fun x => 0 ≤ x && fNom s + x < fDt s))

/-- `CURVCTL.COMMIT` at its GATE heddle (R369). -/
def curvCommit (s : State) : State :=
  match (List.range 4).find? fun b => !curveOk s b with
  | some b => gridEvent 5 5 b (capture GRIDFN_CURVCTL_COMMIT.addr 3 s)
  | none =>
    let s1 := (List.range 64).foldl (fun s k => s.setRaw (GRIDFN_CURV_LEVEL k).addr (s.raw (GRIDFN_CURVS_LEVEL k).addr)) s
    modRide (fun r => { r with timers := List.replicate 64 0 }) (s1.setRaw GRIDFN_CURVN_UVN.addr (s.raw GRIDFN_CURVSN_UVN.addr))

/-- `CURVCTL_COMMIT` (R369). -/
def execCurvctlCommit (s : State) : Outcome State Fault Refusal := run curvCommit s

end Sys2Proof.Machine
end

