-- ==== Sys2Proof/Machine/Island.lean ====
section
/-! DEFINITION. Islanding detection (R371–R378): the passive flags, the chips of the active detector, the decision, and the suspension
interval. -/

namespace Sys2Proof.Machine

open Host (Outcome)

def modIsl (f : IslSt → IslSt) (s : State) : State := { s with isl := f s.isl }

/-! ### The source of the references (Table 10-4) -/

/-- The row of Table 10-4 in force. -/
def srcNow (s : State) : Nat :=
  if s.flag SHUTTLE_F_STAT_SHUT then 5
  else if s.flag WEAVE_STAT_FB then 4
  else if s.pwr.gridOpen != some false then 0
  else if s.flag GRIDFN_STAT_RT then 2
  else if s.wdog.fState = 2 || s.wdog.fState = 3 || s.wdog.factor < 1 then 3
  else 1

/-- The control angle of the pick in cycles (R130). -/
def thetaC (s : State) : Rat := (pickOf s : Nat) / 4096 + s.warp.delta

/-- A measured PCC current at the sensor's primary, from the newest run that was triggered at thread 0 (R322). -/
def iMeas (s : State) (x : Nat) : Rat := ((adcIn s (4 + x)).at0 : Rat) * fpRat (s.raw (METER_SCALE_S (4 + x)).addr) / 2 ^ 19

/-- The vector α + jβ of three phase values. -/
def clarke (a b c : Rat) : Cx := ((2 * a - b - c) / 3, (b - c) / Config.sqrt 3)

/-- The measured current vector in the frame of the control angle: i_q − j i_d for the positive sequence (R308). -/
def iFrame (s : State) : Cx := cmul (clarke (iMeas s 0) (iMeas s 1) (iMeas s 2)) (cis (-thetaC s))

/-! ### Suspension (R377, Table 12-5) -/

/-- Detectors are suspended. -/
def suspended (s : State) : Bool := s.flag ISLAND_STAT_SUSP && !s.flag ISLAND_STAT_TMAXD

/-- Event 0x0002 of source 69. -/
def suspendEvent (data : Nat) (s : State) : State := raiseF 69 2 data (setEvt 0x079 4 s)

/-- `SUSPENSION_TMAX` (R377): TMAX has passed since the interval began. -/
def execSuspensionTmax (s : State) : Outcome State Fault Refusal :=
  run (fun s =>
    match s.isl.susp with
    | some t =>
      if suspended s && (s.get GRIDFN_RTTIME_TMAX : Nat) / 100 ≤ t then suspendEvent 2 (s.put ISLAND_STAT_TMAXD 1) else s
    | none => s) s

/-- `SUSPENSION_END` (R377): TREC has passed since the end of the last event of the interval. -/
def execSuspensionEnd (s : State) : Outcome State Fault Refusal :=
  run (fun s =>
    if s.flag ISLAND_STAT_SUSP && !s.flag GRIDFN_STAT_RT && (s.get GRIDFN_RTTIME_TREC : Nat) / 100 ≤ s.isl.quiet then
      endSuspension s
    else s) s

/-! ### Passive flags (R371) -/

/-- At a warp angle zero Δ enters the shift history, and a vector shift raises PS for 5 cycles. -/
def shiftPick (s : State) : State :=
  if pickOf s ≠ 0 then s
  else
    let es := (s.warp.delta :: s.isl.shifts).take 3
    let shift := match es with
      | [a, b, c] => decide ((s.get ISLAND_PTHR_VSTH : Nat) / 360 < ratAbs (wrapLo ((a - b) - (b - c))))
      | _ => false
    modIsl (fun i => { i with shifts := es, ps := if shift then 5 else i.ps - 1 }) s

/-- The four flags, PV in bit 0. -/
def passiveFlags (s : State) : Nat :=
  if suspended s then 0
  else
    let pv := decide (s.warp.vpos < pu (s.get ISLAND_PWIN_VWLO)) || decide (pu (s.get ISLAND_PWIN_VWHI) < s.warp.vpos)
    let pf := valid s && decide ((s.get ISLAND_PWIN_FWIN : Nat) / 1000 < ratAbs (fM s - fNom s))
    let pr := valid s && decide ((s.get ISLAND_PTHR_ROCTH : Nat) / 100 < ratAbs s.ride.rocof)
    bit pv + 2 * bit pf + 4 * bit pr + 8 * bit (valid s && 0 < s.isl.ps)

/-- The flags of a pick: a rise raises event 0x0001 at most once per cycle.
(DESIGN CHOICE: log entry 86.) -/
def flagsPick (s : State) : State :=
  let old := s.get ISLAND_STAT_FLAGS
  let n := passiveFlags s
  let rose := (List.range 4).any fun k => n.testBit k && !old.testBit k
  let both := n.testBit 0 && 2 ≤ n
  let chip4 := 4 * s.get ISLAND_CTL_CHIP * 4096
  let s1 := modIsl (fun i => { i with both := if both then i.both + tPick s else 0, boost := if n ≠ 0 then chip4 else i.boost - 1 })
    (s.put ISLAND_STAT_FLAGS n)
  if rose && s1.isl.susCycle != some (cycleOf s1) then
    raiseF 69 1 n (setEvt 0x079 1 (modIsl (fun i => { i with susCycle := some (cycleOf s1) }) s1))
  else s1

/-! ### The frame and the chips (R372, R373) -/

/-- A pick boundary is a plant angle zero. -/
def plantZero (s : State) : Bool :=
  let k : Int := if s.flag SYNC_STAT_INSEEN then (s.getI SYNC_SKEW_SKEW + 32768) / 65536 else 0
  ((pickOf s : Int) - k) % 4096 == 0

/-- `FRAMEOK` and its event. -/
def framePick (s : State) : State :=
  let ok := s.flag ISLAND_CTL_PLANT && s.get TIME_STAT_SRC == 2
  if s.flag ISLAND_STAT_FRAMEOK == ok then s else raiseF 69 3 (bit ok) (setEvt 0x079 8 (s.putB ISLAND_STAT_FRAMEOK ok))

/-- Whether the active detector runs (R375). -/
def detectorRuns (s : State) : Bool :=
  let src := srcNow s
  s.flag ISLAND_CTL_AEN && (cstate s == 4 || cstate s == 5) && !suspended s &&
    (src == 1 || src == 3 || (src == 2 && s.flag ISLAND_STAT_TMAXD))

/-- A chip begins with an index. -/
def chipBegin (idx : Nat) (s : State) : State :=
  modIsl (fun i => { i with picks := 1, zeros := 0, sums := (0, 0, 0), cnt := 0, fresh := s.flag ISLAND_STAT_ARUN })
    (s.put ISLAND_STAT_CHIPIDX idx)

/-- The sign of chip j: bit j of 0x8537. -/
def chipSign (j : Nat) : Int := if (0x8537 : Nat).testBit j then 1 else -1

/-- A whole chip is over; one that began while the detector ran enters the window, any other serves as the predecessor of the next. -/
def chipOver (s : State) : State :=
  let n : Rat := ((max 1 s.isl.cnt : Nat) : Rat)
  let c : Chip := ⟨chipSign (s.get ISLAND_STAT_CHIPIDX), s.isl.sums.1 / n, s.isl.sums.2.1 / n, s.isl.sums.2.2 / n, s.isl.fresh && s.flag ISLAND_STAT_ARUN⟩
  modIsl (fun i => { i with chips := (c :: i.chips).take 17, ended := i.ended || c.fresh }) s

/-- Chips at a plant angle zero. A restart of the frame cuts a running chip short: it enters no window, which restarts.
(DESIGN CHOICE: log entry 83.) -/
def chipZero (s : State) : State :=
  if s.isl.picks = 0 then chipBegin 0 (modIsl (fun i => { i with restart := false }) s)
  else if s.isl.restart && s.flag ISLAND_STAT_FRAMEOK then
    let whole := s.isl.zeros + 1 = s.get ISLAND_CTL_CHIP
    let s1 := if whole then chipOver s else modIsl (fun i => { i with chips := [], exceed := 0 }) s
    chipBegin 0 (modIsl (fun i => { i with restart := false }) s1)
  else if s.isl.zeros + 1 < s.get ISLAND_CTL_CHIP then modIsl (fun i => { i with zeros := i.zeros + 1, picks := i.picks + 1 }) s
  else chipBegin ((s.get ISLAND_STAT_CHIPIDX + 1) % 16) (chipOver s)

/-- The means of a chip run over its last half (R374). -/
def chipSample (s : State) : State :=
  if s.isl.picks = 0 || s.isl.picks ≤ 2048 * s.get ISLAND_CTL_CHIP then s
  else
    let lim := iLim s
    let i := quot (iFrame s).1 lim
    modIsl (fun x => { x with sums := (x.sums.1 + s.warp.vpos, x.sums.2.1 + i, x.sums.2.2 + fM s), cnt := x.cnt + 1 }) s

/-- The chips' part of a pick: they run in RAMPING and CONNECTED, and while the PPS frame counts their index, in every state (R373).
(DEDUCED: log entry 87.) -/
def chipPick (s : State) : State :=
  let framed := s.flag ISLAND_STAT_FRAMEOK
  let s0 := if framed then s else modIsl (fun i => { i with restart := false }) s
  if !(framed || cstate s0 == 4 || cstate s0 == 5) then modIsl (fun i => { i with picks := 0, chips := [], exceed := 0 }) s0
  else
    let s1 := if plantZero s0 then chipZero s0
              else if s0.isl.picks = 0 then s0 else modIsl (fun i => { i with picks := i.picks + 1 }) s0
    chipSample s1

/-- The detector starts or stops; a start restarts the window (R375). Z_base starts at ZINIT at each connection (R374).
(DESIGN CHOICE: log entry 86.) -/
def detectorPick (s : State) : State :=
  let run := detectorRuns s
  let s1 := if run && !s.flag ISLAND_STAT_ARUN then modIsl restartWindow s else s
  let s2 := (s1.putB ISLAND_STAT_ARUN run).putB ISLAND_STAT_BOOSTED (run && (s.get ISLAND_STAT_FLAGS ≠ 0 || 0 < s.isl.boost))
  if cstate s2 = 3 then
    let z := pu (s2.get ISLAND_SEQ_ZINIT)
    (modIsl (fun i => { i with zBase := z }) s2).put ISLAND_ZBASE_ZB (s2.get ISLAND_SEQ_ZINIT)
  else s2

/-- The reactive current that R372 adds, peak amperes. -/
def perturb (s : State) : Rat :=
  if !s.flag ISLAND_STAT_ARUN || s.isl.picks = 0 then 0
  else
    let k : Rat := if s.flag ISLAND_STAT_BOOSTED then (s.get ISLAND_CTL_BOOST : Nat) else 1
    (chipSign (s.get ISLAND_STAT_CHIPIDX) : Rat) * pu (s.get ISLAND_CTL_AMP) * iLim s * k

/-- The detectors' part of a pick boundary. -/
def islPick (s : State) : State :=
  let t := tPick s
  let s1 := modIsl (fun i => { i with susp := i.susp.map (· + t), quiet := if s.flag GRIDFN_STAT_RT then 0 else i.quiet + t }) s
  chipPick (detectorPick (framePick (flagsPick (shiftPick s1))))

/-! ### The decision (R374, R376) -/

/-- A decision counts: in the connected states, or in the pick of another trip (R370, R376), unless suspended.
(DEDUCED: log entry 87.) -/
def mayDecide (s : State) : Bool := (connected s || tripsNow s) && !suspended s

/-- The converter is islanded: the record, event 0x0001 of source 74, and the trip with cause 0x05. -/
def islanded (reason : Nat) (zv : Rat) (s : State) : State :=
  let s1 := ((s.put ISLAND_DEC_REASON reason).count ISLAND_DEC_COUNT).put ISLAND_DECW_SWARP (swarp s).toNat
  let s2 := raiseF 74 1 (reason + 16 * lsbU 12 (100 * zv)) (setEvt 0x079 2 s1)
  trip 5 0 (modIsl (fun i => { i with exceed := 0, both := 0 }) s2)

/-- Σ Δx Δi over neighbouring chips, newest first: each chip but the last with its predecessor. -/
def sumProd (f g : Chip → Rat) : List Chip → Rat
  | a :: b :: r => (f a - f b) * (g a - g b) + sumProd f g (b :: r)
  | _ => 0

/-- A quotient of R374; where no current difference remains the spec states no value: a free value in thousandths.
(DESIGN CHOICE: log entry 85.) -/
def chipRatio (n d : Rat) (s : State) : Rat × State :=
  if d = 0 then let (w, s1) := freeWord s; ((w.toInt : Rat) / 1000, s1) else (n / d, s)

/-- An evaluation that does not exceed moves Z_base outside a suspension interval with no passive flag standing. -/
def zbaseStep (zv : Rat) (s : State) : State :=
  if s.flag ISLAND_STAT_SUSP || s.get ISLAND_STAT_FLAGS ≠ 0 then s
  else
    let t := ((s.get ISLAND_CTL_CHIP : Nat) : Rat) * 4096 * tPick s
    let z := ratMax (1 / 200) (s.isl.zBase + Config.lowPassGain (s.get ISLAND_SEQ_ZTAU : Nat) t * (zv - s.isl.zBase))
    (modIsl (fun i => { i with zBase := z }) s).put ISLAND_ZBASE_ZB (lsbU 16 (1000 * z))

/-- The evaluation of a full window: `win` holds its W chips and their predecessor.
(DEDUCED: log entry 84.) (DEDUCED: log entry 87.) -/
def evaluate (win : List Chip) (s : State) : State :=
  let d := sumProd Chip.i Chip.i win
  let (zv, s1) := chipRatio (sumProd Chip.v Chip.i win) d s
  let (zf, s2) := chipRatio (sumProd Chip.f Chip.i win) d s1
  let s3 := ((s2.countWrap ISLAND_EVAL_DONE).put ISLAND_ZEST_ZV (lsbU 16 (1000 * zv))).put ISLAND_ZEST_ZF (lsbS 16 (1000 * zf))
  let byV := decide (pu (s.get ISLAND_ZTH_ZABS) ≤ zv) && decide ((s.get ISLAND_ZTH_ZREL : Nat) / 10 * s.isl.zBase ≤ zv)
  let byF := decide ((s.get ISLAND_ZTH_FZTH : Nat) / 100 ≤ ratAbs zf)
  if byV || byF then
    let s4 := modIsl (fun i => { i with exceed := i.exceed + 1 }) s3
    if s.get ISLAND_CTL_ACONF ≤ s4.isl.exceed && mayDecide s4 then islanded (if byV then 1 else 2) zv s4 else s4
  else zbaseStep zv (modIsl (fun i => { i with exceed := 0 }) s3)

/-- `CHIP_END` (R374): the window of the last W chips is evaluated, once each has a predecessor; one without a sign change is skipped.
(DESIGN CHOICE: log entry 83.) -/
def execChipEnd (s : State) : Outcome State Fault Refusal :=
  run (fun s =>
    if !s.isl.ended then s
    else
      let s1 := modIsl (fun i => { i with ended := false }) s
      let n := s1.get ISLAND_CTL_W
      let win := s1.isl.chips.take n
      if s1.isl.chips.length < n + 1 || !win.all (·.fresh) || !s1.flag ISLAND_STAT_ARUN then s1
      else if win.all (·.sign == 1) || win.all (·.sign == -1) then s1.count ISLAND_EVAL_SKIP
      else evaluate (s1.isl.chips.take (n + 1)) s1) s

/-- `PASSIVE_CONFIRM` (R376): PV and a frequency flag have stood together for PCONF, and PMODE allows the decision.
(DEDUCED: log entry 87.) -/
def execPassiveConfirm (s : State) : Outcome State Fault Refusal :=
  run (fun s =>
    let mode := s.get ISLAND_CTL_PMODE
    let allowed := mode == 2 || (mode == 1 && !s.flag ISLAND_STAT_ARUN)
    if (s.get ISLAND_PTHR_PCONF : Nat) / 100 ≤ s.isl.both && allowed && mayDecide s then
      islanded 3 (pu (s.get ISLAND_ZEST_ZV)) s
    else s) s

end Sys2Proof.Machine
end

