-- ==== Sys2Proof/Machine/Current.lean ====
section
/-! DEFINITION. Grid current (R308–R319, R364–R367), the energy loop (R320, R321), the current controllers (R322–R325), the learned table
(R326–R328), the balance between phases (R329, R330) and between cells (R331–R335), and the delay figures (R336). Quantities are in
volts, amperes, watts, joules and seconds; a complex vector v stands for its phase shares Re(v × e^(−j2πx/3)). -/

namespace Sys2Proof.Machine

open Host (Outcome)

def modCur (f : CurSt → CurSt) (s : State) : State := { s with cur := f s.cur }

/-- Events of sources 64 and 65 with their flags (Table 10-8). -/
def curEvent (bitNo code data : Nat) (s : State) : State := raiseF 64 code data (setEvt 0x074 (2 ^ bitNo) s)
def balEvent (bitNo code data : Nat) (s : State) : State := raiseF 65 code data (setEvt 0x075 (2 ^ bitNo) s)

/-! ### Ring data of a cell -/

/-- Word `i` (0–11, Table 8-11) of a cell's block as cluster `c` sees it. -/
def cellWord (s : State) (c g i : Nat) : Nat :=
  let a := if c = 3 then 16 * g + (if i < 6 then i else i - 2) else 64 * (g % 64) + i
  (memAt (cluAt s c).ringBuf a).toNat

/-- AGE 0b11: the data is stale. -/
def cellStale (s : State) (c g : Nat) : Bool := bitsAt (cellWord s c g 0) 28 2 == 3

/-- V_k: the mean of VDC. -/
def cellV (s : State) (c g : Nat) : Rat :=
  ((word (cellWord s c g 10)).toInt : Rat) * ((((convMap s).map (·.fs)).getD []).getD 2 0 : Nat) / 2 ^ 31

def cellVpri (s : State) (c g : Nat) : Rat := (bitsAt (cellWord s c g 2) 0 16 : Nat) / 20
def cellVin (s : State) (c g : Nat) : Rat := (bitsAt (cellWord s c g 2) 16 16 : Nat) / 20
def cellIin (s : State) (c g : Nat) : Rat := (toSigned 16 (cellWord s c g 3) : Rat) / 100
def cellPxm (s : State) (c g : Nat) : Rat := 2 * (toSigned 16 (bitsAt (cellWord s c g 3) 16 16) : Rat)

/-- `C_OUT` in farads, and `V_PRI_SET`. -/
def cOut (s : State) : Rat := ((((convMap s).map (·.cout)).getD 0 : Nat) : Rat) / 1000000
def vPriSet (s : State) : Rat := ((((convMap s).map (·.vpriSet)).getD 0 : Nat) : Rat)

/-- V_set of a cell's phase (R30), E_k and E_k*. -/
def vSet (s : State) (g : Nat) : Rat := (s.edge.setp.getD (g / 64) 0 : Nat)
def cellE (s : State) (c g : Nat) : Rat := cOut s * cellV s c g * cellV s c g / 2
def cellEset (s : State) (g : Nat) : Rat := cOut s * vSet s g * vSet s g / 2

/-- Counted cells of a phase. -/
def countedCells (s : State) (ph : Nat) : List Nat := (phaseCells ph).filter fun g => (cellSt s g).counted

/-- A sum over cells. -/
def sumOver (l : List Nat) (f : Nat → Rat) : Rat := l.foldl (fun a g => a + f g) 0

/-! ### Voltages and currents of the pick -/

/-- The peak base √2 × V_LL_NOM / √3, and V̂ (Table 10-1); at 1.0 pu while the measurement is invalid (R311). -/
def peakBase (s : State) : Rat := Config.sqrt 2 * vBase s
def vHat (s : State) : Rat := if valid s then s.warp.vpos * peakBase s else peakBase s

/-- A step of a first-order lag. -/
def lagStep (tau t x y : Rat) : Rat := y + Config.lowPassGain tau t * (x - y)

/-- Move `y` toward `x` by at most `r`. -/
def rampTo (r x y : Rat) : Rat := y + ratClamp (-r) r (x - y)

/-- A percentage of rating given in 0.1 %. -/
def rating (s : State) (n : Rat) : Rat := n / 1000 * sAvail s

/-! ### Stages 1–3 (R312–R317) -/

/-- The piecewise-linear line through points in ascending order, flat beyond its ends. -/
def polyline (x : Rat) : List (Rat × Rat) → Rat
  | [] => 0
  | [p] => p.2
  | p :: q :: r =>
    if x ≤ p.1 then p.2
    else if x ≤ q.1 then p.2 + (q.2 - p.2) * (x - p.1) / (q.1 - p.1)
    else polyline x (q :: r)

/-- Volt-var (R314). -/
def voltVar (s : State) : Rat :=
  rating s (polyline s.cur.lagQ ((List.range 4).map fun n => (pu (s.get (CURCTL_VV_V n)), (s.getI (CURCTL_VV_Q n) : Rat))))

/-- The reactive source (R313); Q = P_exp × tan(arccos PF).
(DEDUCED: log entry 81.) -/
def qSource (s : State) : Rat :=
  let mode := s.get CURCTL_MODE_QMODE
  if mode = 0 then 1000 * (s.getI CURCTL_QSET_Q : Rat)
  else if mode = 1 then
    let pf := pu (s.get CURCTL_PF_PF)
    let q := ((s.raw (METER_SETW_W 13).addr).toInt : Rat) * Config.sqrt (1 - pf * pf) / pf
    if s.flag CURCTL_PF_INJ then q else -q
  else voltVar s

/-- The volt-watt cap (R315); none while it is off. -/
def vwCap (s : State) : Option Rat :=
  if !s.flag CURCTL_MODE_VWEN then none
  else some (rating s (polyline s.cur.lagV [(pu (s.get CURCTL_VW_V1), 1000), (pu (s.get CURCTL_VW_V2), (s.get CURCTL_VWP_P2 : Nat))]))

/-- How far the lagged frequency lies above (positive) or below (negative) the deadband of R316. -/
def fwOver (s : State) (f : Rat) : Rat :=
  let hi := fNom s + (s.get CURCTL_FW_DBOF : Nat) / 1000
  let lo := fNom s - (s.get CURCTL_FW_DBUF : Nat) / 1000
  if hi < f then f - hi else if f < lo then f - lo else 0

/-- The frequency-watt cap and floor (R316).
(DEDUCED: log entry 88.) -/
def fwCap (s : State) : Option Rat :=
  match s.cur.fwPre with
  | none => none
  | some p =>
    let d := fwOver s s.cur.lagF
    if d ≤ 0 then none
    else some (ratMax (rating s (s.getI CURCTL_FWT_PMIN : Rat)) (p - d * 200 / (fNom s * (s.get CURCTL_FW_KOF : Nat)) * sAvail s))

def fwFloor (s : State) : Option Rat :=
  match s.cur.fwPre with
  | none => none
  | some p =>
    let d := fwOver s s.cur.lagF
    if 0 ≤ d then none else some (p - d * 200 / (fNom s * (s.get CURCTL_FW_KUF : Nat)) * sAvail s)

/-- The lags of the grid functions; they stand still while the measurement is invalid (R311, R316). -/
def lagsPick (s : State) : State :=
  if !valid s then s
  else
    let t := tPick s
    modCur (fun c => { c with lagQ := lagStep ((s.get CURCTL_VVTAU_TAU : Nat) / 10) t s.warp.vpos c.lagQ,
                              lagV := lagStep ((s.get CURCTL_VWP_TAU : Nat) / 10) t s.warp.vpos c.lagV,
                              lagF := lagStep ((s.get CURCTL_FWT_TRESP : Nat) / 230) t (fM s) c.lagF }) s

/-- Frequency-watt starts when f_m leaves the deadband, and times its stay inside (R316).
(DEDUCED: log entry 88.) -/
def fwPick (s : State) : State :=
  if !s.flag CURCTL_MODE_FWEN then
    if s.cur.fwPre.isSome then curEvent 4 5 0 ((modCur (fun c => { c with fwPre := none, fwIn := 0 }) s).put CURCTL_STAT_FWACT 0) else s
  else if !valid s then s
  else
    let d := fwOver s (fM s)
    match s.cur.fwPre with
    | none =>
      if d = 0 then s
      else
        let p := 1000 * (s.getI CURCTL_PSET_P : Rat)
        curEvent 4 5 (1 + 2 * bit (decide (0 < d))) ((modCur (fun c => { c with fwPre := some p, fwIn := 0 }) s).put CURCTL_STAT_FWACT 1)
    | some _ => modCur (fun c => { c with fwIn := if d = 0 then c.fwIn + tPick s else 0 }) s

/-- `FW_END` (R316): f_m has been inside the deadband for 1 s.
(DEDUCED: log entry 88.) -/
def execFwEnd (s : State) : Outcome State Fault Refusal :=
  run (fun s =>
    if s.cur.fwPre.isSome && 1 ≤ s.cur.fwIn then
      curEvent 4 5 0 ((modCur (fun c => { c with fwPre := none, fwIn := 0 }) s).put CURCTL_STAT_FWACT 0)
    else s) s

/-- The lower of two caps. -/
def minOpt (a b : Option Rat) : Option Rat :=
  match a, b with
  | some x, some y => some (ratMin x y)
  | none, y => y
  | x, none => x

def capTo (cap : Option Rat) (x : Rat) : Rat :=
  match cap with
  | some c => ratMin c x
  | none => x

def floorTo (fl : Option Rat) (x : Rat) : Rat :=
  match fl with
  | some c => ratMax c x
  | none => x

/-- The ramp factor of the connection (Table 12-6): it scales the active target in CLOSING and RAMPING.
(DEDUCED: log entry 91.) -/
def rampFactor (s : State) : Rat := if cstate s = 3 then 0 else if cstate s = 4 then s.ride.r else 1

/-- Stages 1–3 of Table 10-2 in a pick without a ride-through event. Of stage 2 only caps that tighten do not wait for PRAMP (R317). A floor
prevails over the caps before it, and reaches the export demand as far as the ramp has come.
(DEDUCED: log entry 80.) (DEDUCED: log entry 91.) -/
def stages (s : State) : State :=
  let t := tPick s
  let vw := vwCap s
  let cap := minOpt vw (fwCap s)
  let fl := fwFloor s
  let src := floorTo fl (capTo cap (1000 * (s.getI CURCTL_PSET_P : Rat)))
  let p := capTo (cap.map (floorTo fl)) (rampTo (rating s (s.get CURCTL_RAMP_PRAMP : Nat) * t) src s.cur.p)
  let mode := s.get CURCTL_MODE_QMODE
  let qs := qSource s
  let q1 := rampTo (rating s (s.get CURCTL_RAMP_QRAMP : Nat) * t) qs s.cur.q
  let at' := (s.cur.qAt && mode == s.cur.qMode) || q1 == qs
  let q := if mode = 2 && at' then qs else q1
  let act := match vw with
    | some c => decide (c < sAvail s)
    | none => false
  let s1 := modCur (fun c => { c with p := p, q := q, qAt := at', qMode := mode, ceil := p * rampFactor s, floor := fl.map (ratMin p) }) s
  ((s1.putB CURCTL_STAT_VWACT act).put CURCTL_PQREF_P (lsbS 16 (p / 1000))).put CURCTL_PQREF_Q (lsbS 16 (q / 1000))

/-! ### Stages 4–7 (R318, R319, R321, R364–R367) -/

/-- i_d of the energy loop as the next pick uses it: interpolated over 16 picks, the first of them the pick after the step's (R321). -/
def idLoop (s : State) : Rat := s.cur.idOld + (s.cur.idNew - s.cur.idOld) * ((min 16 s.cur.steps : Nat) : Rat) / 16

/-- R318: i_d and i_q reduced to I_LIM − |I−|, the one with priority kept. -/
def limitRefs (lim : Rat) (qFirst : Bool) (id iq : Rat) (neg : Cx) : Rat × Rat :=
  let l := ratMax 0 (lim - cabs neg)
  if cabs (id, iq) ≤ l then (id, iq)
  else if qFirst then
    let q := ratClamp (-l) l iq
    let d := Config.sqrt (ratMax 0 (l * l - q * q))
    (ratClamp (-d) d id, q)
  else
    let d := ratClamp (-l) l id
    let q := Config.sqrt (ratMax 0 (l * l - d * d))
    (d, ratClamp (-q) q iq)

/-- |V+| in pu, 0 while the measurement is invalid (R364). -/
def vNow (s : State) : Rat := if valid s then s.warp.vpos else 0

/-- The references of a ride-through event before R318 (R364). -/
def rideRefs (s : State) : Rat × Rat × Cx :=
  let lim := iLim s
  let id := match s.ride.rise with
    | some x => ratMin x s.ride.idPre
    | none => s.ride.idPre
  if !s.flag GRIDFN_STAT_KV then (id, s.ride.iqPre, (0, 0))
  else
    let k : Rat := (s.get GRIDFN_CTL_KPOS : Nat) / 10
    let n : Rat := (s.get GRIDFN_CTL_KNEG : Nat) / 10 * s.ride.vneg * lim
    let a := cabs s.cur.vn
    let neg : Cx := if a = 0 then (0, 0) else cscale (n / a) (cmul (0, 1) s.cur.vn)
    (id, s.ride.iqPre + k * (s.ride.vpre - vNow s) * lim, neg)

/-- The chain's references before R318: the energy loop and the reactive target (stages 4 and 7), i_d held below PREC's rise (R367). -/
def chainRefs (s : State) : Rat × Rat :=
  let v := 3 / 2 * vHat s
  let id := capTo s.ride.rise (idLoop s)
  (id, quot s.cur.q v)

/-- References of a row of Table 10-4 (stage 6): `chain` is the chain's output of stage 5. In momentary cessation every reference is zero (R365);
the perturbation comes before the limit of R318 (R372). -/
def rowRefs (s : State) (src : Nat) (chain : Rat × Rat) : Rat × Rat × Cx :=
  if src = 5 || src = 0 then (0, 0, (0, 0))
  else if src = 4 then
    let k := s.weave.fbFactor
    (s.cur.fbRef.1 * k, s.cur.fbRef.2.1 * k, cscale k s.cur.fbRef.2.2)
  else if s.flag GRIDFN_STAT_MC then (0, 0, (0, 0))
  else if src = 2 then let r := rideRefs s; (r.1, r.2.1 + perturb s, r.2.2)
  else
    let k : Rat := if src = 3 then s.wdog.factor else 1
    (chain.1 * k, chain.2 * k + perturb s, (0, 0))

/-- The change of `STAT.ILIM` (R318). -/
def putIlim (b q : Bool) (s : State) : State :=
  if s.flag CURCTL_STAT_ILIM = b then s else curEvent 0 1 (bit b + 2 * bit q) (s.putB CURCTL_STAT_ILIM b)

/-- The change of `STAT.SRC` (R319): the fallback's row starts from the values last committed. -/
def putSrc (n : Nat) (s : State) : State :=
  let o := s.get CURCTL_STAT_SRC
  if o = n then s
  else
    let s1 := if n = 4 then modCur (fun c => { c with fbRef := (c.idr, c.iqr, c.neg) }) s else s
    curEvent 2 3 (n + 8 * o) (s1.put CURCTL_STAT_SRC n)

/-- The rise of i_d at PREC goes on and ends when it meets the chain (R365, R367).
(DEDUCED: log entry 89.) -/
def risePick (s : State) : State :=
  match s.ride.rise with
  | none => s
  | some x =>
    let v := 3 / 2 * vHat s
    let rate := quot ((s.get GRIDFN_CTL_PREC : Nat) / 100 * sAvail s) v
    let y := x + rate * tPick s
    let tgt := if s.flag GRIDFN_STAT_RT then s.ride.idPre else idLoop s
    modRide (fun r => { r with rise := if s.flag GRIDFN_STAT_MC then some 0 else if tgt ≤ y then none else some y }) s

/-- κ (R366). -/
def kappaOf (s : State) (src : Nat) (id : Rat) : Rat :=
  if src = 2 && s.flag GRIDFN_STAT_KV && 0 < s.ride.idPre && 0 < s.ride.vpre then
    ratMin 1 (id * vNow s / (s.ride.idPre * s.ride.vpre))
  else 1

/-- Stages 5–7 of a pick: the references are committed (R311, R318, R319). While the measurement is invalid stage 5 holds what it gave in the
last valid pick.
(DESIGN CHOICE: log entry 82.) -/
def commitRefs (s0 : State) : State :=
  let src := srcNow s0
  let s := putSrc src s0
  let lim := iLim s
  let c := chainRefs s
  let held := !valid s
  let st := if held then s.cur.st5 else limitRefs lim (s.flag CURCTL_MODE_QPRI) c.1 c.2 (0, 0)
  let r := rowRefs s src st
  let qFirst := if src = 2 then s.flag GRIDFN_CTL_RTQPRI else s.flag CURCTL_MODE_QPRI
  let chain := src = 1 || src = 3
  let o := if chain || src = 2 then limitRefs lim qFirst r.1 r.2.1 r.2.2 else (r.1, r.2.1)
  let less := fun a b : Rat => decide (ratAbs a < ratAbs b)
  let cut := if chain && held then s.cur.cut else less o.1 r.1 || (chain && less st.1 c.1)
  let limited := cut || less o.2 r.2.1 || (chain && !held && less st.2 c.2)
  let s1 := modCur (fun c => { c with idr := o.1, iqr := o.2, neg := r.2.2, cut := cut, st5 := st }) s
  let s2 := modRide (fun x => { x with kappa := kappaOf s src o.1 }) s1
  let s3 := putIlim limited qFirst s2
  ((s3.put CURCTL_IREF_ID (lsbS 16 (10 * o.1))).put CURCTL_IREF_IQ (lsbS 16 (10 * o.2))).put CURCTL_ILIM_ILIM (lsbU 16 (10 * lim))
    |>.put CURCTL_ILIM_SAVAIL (lsbU 16 (sAvail s / 1000))

/-- The voltage phasors of both sequences that cluster P commits (R310). -/
def commitPhasors (s : State) : State :=
  let w := s.warp
  let pos : Cx := (alphaPos w, betaPos w)
  let neg : Cx := ((w.a.v + w.b.q) / 2, (w.b.v - w.a.q) / 2)
  modCur (fun c => { c with vp := cmul pos (cis (-thetaC s)), vn := cmul neg (cis (thetaC s)) }) s

/-- Cluster P's reference chain in a pick. Stages 1–4 hold their outputs in a ride-through event (R364). -/
def curPick (s : State) : State :=
  let s1 := commitPhasors s
  let s2 := if s1.flag GRIDFN_STAT_RT then s1
            else modCur (fun c => { c with steps := c.steps + 1 }) (stages (fwPick (lagsPick s1)))
  commitRefs (risePick { s2 with cur.t16 := s2.cur.t16 + tPick s })

/-! ### The energy loop (R320, R321) -/

/-- `ENERGY_LOOP_STEP` (R320): the export demand of every 16th pick, committed with the first sixteenth of its change for the pick after (R321).
Of a cell with stale data only the energy terms are left out (R335).
(DEDUCED: log entry 90.) -/
def energyStep (s : State) : State :=
  let all := (List.range 3).flatMap (countedCells s)
  let cells := all.filter fun g => !cellStale s 3 g
  let etot := sumOver cells (cellE s 3)
  let etgt := sumOver cells (cellEset s)
  let dE := etgt - etot
  let pin := sumOver all (cellPxm s 3)
  let src := srcNow s
  let lim := iLim s * 3 / 2 * vHat s
  let ki : Rat := (s.get BALANCE_ELOOP_KIE : Nat)
  let kp : Rat := (s.get BALANCE_ELOOP_KPE : Nat) / 10
  let e0 := s.cur.eSum
  let e1 := if ki = 0 then e0 + dE * s.cur.t16 else ratClamp (-lim / ki) (lim / ki) (e0 + dE * s.cur.t16)
  let grows := s.cur.cut && ((0 < s.cur.idNew && e1 < e0) || (s.cur.idNew < 0 && e0 < e1))
  let e := if src = 5 then 0 else if src = 2 || grows then e0 else e1
  let dem := floorTo s.cur.floor (ratMin s.cur.ceil (pin - kp * dE - ki * e))
  let v := 3 / 2 * vHat s
  let id := quot dem v
  let high := decide (etgt * 11 / 10 < etot)
  let n := if high then s.cur.surplus + 16 else 0
  let s1 := modCur (fun c => { c with eSum := e, pDem := dem, t16 := 0, surplus := min n 65536 }) s
  let s2 := if s.flag GRIDFN_STAT_RT then s1 else commitRefs (modCur (fun c => { c with idOld := idLoop s, idNew := id, steps := 1 }) s1)
  let s3 := ((s2.put BALANCE_ETOT_E (lsbU 32 etot)).put BALANCE_ETGT_E (lsbU 32 etgt)).putB BALANCE_STAT_EFRZ (src = 2)
  if n = 4096 then raiseF 64 4 (lsbU 16 ((etot - etgt) / 10)) s3 else s3

def execEnergyLoopStep (s : State) : Outcome State Fault Refusal :=
  run (fun s => if s.flag WEAVE_STAT_RUN && pickOf s % 16 = 0 then energyStep s else s) s

/-! ### Balance between phases (R329, R330) -/

/-- What cluster P has committed last. -/
def refsNow (s : State) : CurRefs := ⟨s.warp.delta, s.cur.vp, s.cur.vn, s.cur.idr, s.cur.iqr, s.cur.neg, s.get CURCTL_STAT_SRC⟩

/-- Positive-sequence current reference: i_q − j i_d. -/
def iPos (r : CurRefs) : Cx := (r.iqr, -r.idr)

/-- The control angle of thread 0 of the pick in cycles, as a phase cluster has it (R310, R322). -/
def thetaSeen (s : State) (r : CurRefs) : Rat := (pickOf s : Nat) / 4096 + r.delta

/-- The factor e^(−j2πx/3) of phase x. -/
def phaseRot (x : Nat) : Cx := cis (-((x : Nat) : Rat) / 3)

/-- The phasor of phase x, in the frame of the control angle, of a positive- and a negative-sequence phasor. -/
def phasePhasor (pos neg : Cx) (x : Nat) : Cx := cadd (cmul pos (phaseRot x)) (conj (cmul neg (phaseRot x)))

/-- The term of index k = 2h + (σ = −1) is enabled (R323). -/
def termOn (s : State) (k : Nat) : Bool := if k % 2 = 1 then s.flag (CURCTL_GAINR_ENN (k / 2)) else s.flag (CURCTL_GAINR_ENP (k / 2))

/-- X(h, σ) as a voltage phasor: jσ X e^(jσψ) (R322). -/
def termPhasor (s : State) (h : Nat) (neg : Bool) : Cx :=
  let k := 2 * h + bit neg
  let lead : Rat := (s.getI (CURCTL_GAINR_LEAD h) : Rat) / 360
  let x := s.cur.x.getD k (0, 0)
  if neg then cmul (0, -1) (cmul x (cis (-lead))) else cmul (0, 1) (cmul x (cis lead))

/-- ω × L_COUPLE in ohms. -/
def xCouple (s : State) : Rat := 2 * Config.pi * fWarp s * ((((convMap s).map (·.lcouple)).getD 0 : Nat) : Rat) / 1000000

/-- The fundamental voltage reference of both sequences: the resonant terms of h = 1 and the feed-forward (R322). Row 0b101 gives zero, row
0b000 the measured voltages only. -/
def fundamental (s : State) (r : CurRefs) : Cx × Cx :=
  if r.src = 5 then ((0, 0), (0, 0))
  else if r.src = 0 then (r.vp, r.vn)
  else
    let x := xCouple s
    (cadd (termPhasor s 0 false) (cadd r.vp (cmul (0, x) (iPos r))), cadd (termPhasor s 0 true) (cadd r.vn (cmul (0, -x) r.neg)))

/-- Phase x's fundamental voltage and current references as phasors. -/
def vRef (s : State) (r : CurRefs) (x : Nat) : Cx := phasePhasor (fundamental s r).1 (fundamental s r).2 x
def iRef (r : CurRefs) (x : Nat) : Cx := phasePhasor (iPos r) r.neg x

/-- P_x. -/
def phaseP (s : State) (r : CurRefs) (x : Nat) : Rat := (cmul (vRef s r x) (conj (iRef r x))).1 / 2

/-- A limit flag of the BALANCE page changes. -/
def putBal (f : Fld) (b : Bool) (bitNo code : Nat) (s : State) : State :=
  if s.flag f = b then s else balEvent bitNo code (bit b) (s.putB f b)

/-- `BALANCE_STEP` (R329, R330). -/
def balanceStep (s : State) : State :=
  let fresh := fun x : Nat => (countedCells s x).filter fun g => !cellStale s 3 g
  let e := (List.range 3).map fun x => sumOver (fresh x) (cellE s 3)
  let n := (List.range 3).map fun x => countOf s x
  let nt : Rat := ((n.foldl (· + ·) 0 : Nat) : Rat)
  let etot := total e
  let tgt := fun x : Nat => if nt = 0 then 0 else etot * (n.getD x 0 : Nat) / nt
  let kz : Rat := (s.get BALANCE_ZSEQ_KZ : Nat) / 10
  let raw := (List.range 3).map fun x => kz * (tgt x - e.getD x 0)
  let mean := total raw / 3
  let z := cscale (2 / 3) ((List.range 3).foldl (fun a x => cadd a (cscale (raw.getD x 0 - mean) (conj (phaseRot x)))) (0, 0))
  let ip := iPos (refsNow s)
  let i := cabs ip
  let low := decide (i < (s.get BALANCE_ZSEQ_IZMIN : Nat) / 100 * iLim s)
  let vmax := (s.get BALANCE_ZSEQ_V0MAX : Nat) / 200 * peakBase s
  let want := if low then 0 else quot (2 * cabs z) i
  let limited := decide (vmax < want)
  let v0 := ratMin want vmax
  let psi := Config.atan2 z.2 z.1 - Config.atan2 ip.2 ip.1
  let band : Rat := 1 + (s.get BALANCE_WEIGHT_BALBAND : Nat) / 200
  let budget := (List.range 3).map fun x => if low && tgt x * band < e.getD x 0 then some (ratMax 0 (phaseP s (refsNow s) x)) else none
  let s1 := modCur (fun c => { c with v0 := v0, psi := psi, budget := budget }) s
  let s2 := (List.range 3).foldl (fun s x => s.put (BALANCE_EPH_E x) (lsbU 32 (e.getD x 0))) s1
  let s3 := ((s2.put BALANCE_V0_AMP (lsbU 16 v0)).put BALANCE_V0_PSI (lsb (psi * 65536) % 65536).toNat).putB BALANCE_STAT_ZSACT (v0 != 0)
  putBal BALANCE_STAT_LOWI low 2 3 (putBal BALANCE_STAT_ZSLIM limited 1 2 s3)

def execBalanceStep (s : State) : Outcome State Fault Refusal :=
  run (fun s => if s.flag WEAVE_STAT_RUN && !s.flag WEAVE_STAT_FB && pickOf s % 64 = 0 then balanceStep s else s) s

/-! ### The phase clusters in a pick (R322, R323, R327, R328) -/

/-- Harmonic orders of the terms. -/
def orderOf (h : Nat) : Nat := [1, 5, 7, 11, 13].getD h 1

/-- The integrator k = 2h + (σ = −1) after a pick (R322, R323, R325).
(DEDUCED: log entry 95.) -/
def xStep (s : State) (r : CurRefs) (eps : Cx) (sat : Bool) (k : Nat) (x : Cx) : Cx :=
  let h := k / 2
  let neg := k % 2 = 1
  if !termOn s k then (0, 0)
  else if sat && 0 < h then x
  else
    let a : Rat := (orderOf h : Nat) * thetaSeen s r
    let ki : Rat := (s.get (CURCTL_GAINR_KI h) : Nat) / 10 / 4096
    let y := cadd x (cscale ki (cmul eps (cis (if neg then a else -a))))
    let m := cabs y
    let lim := peakBase s
    if lim < m then cscale (lim / m) y else y

/-- A reference vector at the control angle of the pick. -/
def refVector (s : State) (r : CurRefs) : Cx := cadd (cmul (iPos r) (cis (thetaSeen s r))) (cmul r.neg (cis (-thetaSeen s r)))

/-- Whether any phase is saturated. -/
def anySat (s : State) : Bool := s.flag CURCTL_STAT_SATA || s.flag CURCTL_STAT_SATB || s.flag CURCTL_STAT_SATC
def satFlag (ph : Nat) : Fld := if ph = 0 then CURCTL_STAT_SATA else if ph = 1 then CURCTL_STAT_SATB else CURCTL_STAT_SATC

/-- The condition of R328 under which the running cycle does not count for phase x. -/
def spoils (s : State) (x : Nat) : Bool :=
  let src := s.get CURCTL_STAT_SRC
  !s.flag WARP_STAT_LOCK || s.flag GRIDFN_STAT_RT || !(src == 1 || src == 3) || s.flag (satFlag x) || s.flag CURCTL_LTCTL_FREEZE ||
    decide (cabs (iRef s.cur.seen x) < (s.get CURCTL_LTLIM_IMIN : Nat) / 10)

/-- At pick 0 a cycle of learning is complete (R327, R328).
(DEDUCED: log entry 96.) -/
def learnCycle (s : State) : State :=
  if pickOf s ≠ 0 then s
  else modCur (fun c => { c with errsLast := c.errs, errs := [[], [], []], cycles := c.cycles + 1,
                                 spoilt := List.zipWith (· || ·) c.spoilt c.spoiltNow, spoiltNow := [false, false, false] }) s

/-- The errors of a pick are stored at the control-angle index of its sample (R327, R328).
(DEDUCED: log entry 96.) -/
def learnPick (eps : Cx) (s : State) : State :=
  let i := ((thetaSeen s s.cur.seen * 4096).floor % 4096).toNat
  let sp := (List.range 3).map (spoils s)
  let s1 := modCur (fun c => { c with errs := (c.errs.zipIdx).map fun p => (i, (cmul eps (phaseRot p.2)).1) :: p.1.filter (·.1 != i),
                                      spoiltNow := List.zipWith (· || ·) c.spoiltNow sp }) s
  s1.putB CURCTL_STAT_LTFRZ (s1.cur.spoiltNow.any id)

/-- The current error and the integrators of a pick, from its sample at thread 0 and the references at that sample's control angle (R322). Rows
0b101 and 0b000 hold the states at zero (Table 10-4). -/
def controlPick (s : State) : State :=
  let r := s.cur.seen
  let eps := csub (refVector s r) (clarke (iMeas s 0) (iMeas s 1) (iMeas s 2))
  let sat := anySat s
  let x := if r.src = 5 || r.src = 0 then List.replicate 10 (0, 0) else (s.cur.x.zipIdx).map fun p => xStep s r eps sat p.2 p.1
  let s1 := modCur (fun c => { c with err := eps, x := x, due := false }) s
  let s2 := if r.src = 5 then modCur (fun c => { c with eSum := 0 }) s1 else s1
  learnPick eps s2

/-- The current control of the pick has run: with the pick's first load point, or with its end, when its sample has landed (R322, R336).
(DESIGN CHOICE: log entry 68.) -/
def controlled (s : State) : State := if s.cur.due && s.flag WEAVE_STAT_RUN then controlPick s else s

/-- What the phase clusters use in the pick is what cluster P committed in the pick before (R310); its current control is yet to come. Where the reed
has stopped cluster P the references are zero (R168). -/
def seePick (s : State) : State :=
  let r := refsNow s
  modCur (fun c => { c with due := true, seen := if s.weave.stopped.getD 3 false then { r with idr := 0, iqr := 0, neg := (0, 0) } else r }) s

/-- What an applied write of the CURCTL page does at once: an integrator that it disables is cleared (R323), and a CLEAR holds for the next
publication of every phase (R328). -/
def curctlApplied (o : Nat) (s : State) : State :=
  if 0x07C ≤ o && o < 0x090 then modCur (fun c => { c with x := (c.x.zipIdx).map fun p => if termOn s p.2 then p.1 else (0, 0) }) s
  else if o = 0x090 then modCur (fun c => { c with zeroed := [false, false, false] }) s
  else s

/-! ### The voltage reference of a phase (R324–R326) -/

/-- The learned table at a control angle in cycles (R326). -/
def tableAt (s : State) (x : Nat) (a : Rat) : Rat :=
  let t := s.cur.tab.getD x []
  let u := a * 4096
  let i := (u.floor % 4096).toNat
  let y := fun k : Nat => (t.lookup (k % 4096)).getD 0
  y i + (y (i + 1) - y i) * (u - u.floor)

/-- The phase share of a vector. -/
def share (x : Nat) (v : Cx) : Rat := (cmul v (phaseRot x)).1

/-- The part of the reference that R325 scales last (fundamental and v0), and the part it scales first (harmonics, learned table and
proportional term), of phase x at a control angle. -/
def refParts (s : State) (x : Nat) (a : Rat) : Rat × Rat :=
  let src := s.cur.seen.src
  let f := fundamental s s.cur.seen
  let base := share x (cadd (cmul f.1 (cis a)) (cmul f.2 (cis (-a))))
  if src = 5 || src = 0 then (base, 0)
  else
    let kp : Rat := (s.get CURCTL_GAINP_KP : Nat) / 10
    let harm := (List.range 4).foldl (fun acc i =>
      let h := i + 1
      let o : Rat := (orderOf h : Nat) * a
      acc + share x (cadd (cmul (termPhasor s h false) (cis o)) (cmul (termPhasor s h true) (cis (-o))))) 0
    (base + s.cur.v0 * Config.cosCycle (a - s.cur.psi), harm + tableAt s x a + share x (cscale kp s.cur.err))

/-! ### Sharing a phase among its cells (R331–R335) -/

/-- What a phase's weights rest on: n, P_x, Î, the in-phase and quadrature components of its voltage reference, and V_pe. -/
structure PhaseRef where
  n : Rat
  p : Rat
  i : Rat
  vp : Rat
  vq : Rat
  vpe : Rat

def phaseRef (s : State) (x count : Nat) : PhaseRef :=
  let v := vRef s s.cur.seen x
  let c := iRef s.cur.seen x
  let i := cabs c
  let m := cmul v (conj c)
  let vp := quot m.1 i
  ⟨((max 1 count : Nat) : Rat), m.1 / 2, i, vp, quot m.2 i, ratMax vp (s.get BALANCE_LOWI_VPFLOOR : Nat)⟩

/-- Wanted power of a cell (R332). -/
def wanted (s : State) (c g : Nat) : Rat :=
  cellPxm s c g - (s.get BALANCE_WEIGHT_KB : Nat) / 10 * (cellEset s g - cellE s c g)

/-- The unit waveform ĩ of R332 at a control angle. -/
def unitWave (s : State) (x : Nat) (a : Rat) : Rat :=
  let i := iRef s.cur.seen x
  Config.cosCycle (a + Config.atan2 i.2 i.1)

/-- v_x*/n_x and V_pe × ĩ (R332) at the 4,096 control angles of a cycle. -/
def phaseWave (s : State) (r : PhaseRef) (x : Nat) : List (Rat × Rat) :=
  (List.range 4096).map fun i =>
    let a : Rat := (i : Nat) / 4096
    let v := refParts s x a
    ((v.1 + v.2) / r.n, r.vpe * unitWave s x a)

/-- The weights that pass R333 for a cell whose limit is `lim`, over a phase's wave: those that keep |v_k| within it at every angle. -/
def passing (lim : Rat) (n : Rat) (wave : List (Rat × Rat)) : Option (Rat × Rat) :=
  wave.foldl (fun b v =>
    b.bind fun b =>
      if v.2 = 0 then (if ratAbs v.1 ≤ lim then some b else none)
      else
        let p := 1 / n + (lim - v.1) / v.2
        let q := 1 / n + (-lim - v.1) / v.2
        let lo := ratMax b.1 (ratMin p q)
        let hi := ratMin b.2 (ratMax p q)
        if lo ≤ hi then some (lo, hi) else none) (some (-1000000, 1000000))

/-- The least and the greatest weight that pass R333, for a cell of the phase. A cell with stale data keeps its weight (R335), and so does one
that no weight helps: the phase saturates under R325.
(DEDUCED: log entry 93.) -/
def weightBounds (s : State) (r : PhaseRef) (wave : List (Rat × Rat)) (c g : Nat) (w : Rat) : Rat × Rat :=
  if cellStale s c g then (w, w)
  else (passing ((s.get BALANCE_WEIGHT_MMAX : Nat) / 100 * cellV s c g) r.n wave).getD (w, w)

/-- A cell's weight before the clamp, and whether it keeps its last one because its data is stale (R332, R335).
(DEDUCED: log entry 94.) -/
def freeWeight (s : State) (r : PhaseRef) (c g : Nat) : Rat :=
  if cellStale s c g then s.cur.w.getD g (1 / r.n)
  else 1 / r.n + quot (wanted s c g - r.p / r.n) (r.vpe * r.i / 2)

/-- One weight of a phase: cell, weight before the clamp, weight, bounds. -/
structure Weight where
  g : Nat
  w0 : Rat
  w : Rat
  lo : Rat
  hi : Rat

/-- Clamp the weights of a phase and share the difference among the others by their headroom (R333). Also whether it cannot be placed. -/
def clampWeights (ws : List Weight) : List Weight × Bool :=
  let cl := ws.map fun x => { x with w := ratClamp x.lo x.hi x.w0 }
  let rest : Rat := cl.foldl (fun a x => a + (x.w0 - x.w)) 0
  let room := fun x : Weight => if x.w = x.w0 then (if 0 < rest then x.hi - x.w else x.w - x.lo) else 0
  let sum := cl.foldl (fun a x => a + room x) 0
  if rest = 0 then (cl, false)
  else if sum < ratAbs rest then (cl.map fun x => { x with w := if 0 < rest then x.w + room x else x.w - room x }, true)
  else (cl.map fun x => { x with w := x.w + rest * room x / sum }, false)

/-- PMAX_k where R334 applies.
(DEDUCED: log entry 94.) -/
def lowPmax (s : State) (c g : Nat) : Rat :=
  let band : Rat := 1 + (s.get BALANCE_WEIGHT_BALBAND : Nat) / 200
  if vSet s g * band < cellV s c g then ratMax 0 (cellPxm s c g - (s.get BALANCE_WEIGHT_KB : Nat) / 10 * (cellE s c g - cellEset s g))
  else 36000

/-- The weights and share limits of cells `cs` of phase x, and whether the clamp cannot be placed (R332–R335).
(DEDUCED: log entry 94.) -/
def weigh (s : State) (x : Nat) (cs : List Nat) : List (Nat × Rat × Rat) × Bool :=
  let r := phaseRef s x cs.length
  let old := fun g : Nat => s.cur.pmax.getD g 36000
  if r.i < (s.get BALANCE_LOWI_IBMIN : Nat) / 10 then (cs.map fun g => (g, 1 / r.n, if cellStale s x g then old g else lowPmax s x g), false)
  else
    let wave := phaseWave s r x
    let ws := cs.map fun g => let w := freeWeight s r x g; let b := weightBounds s r wave x g w; (⟨g, w, w, b.1, b.2⟩ : Weight)
    let c := clampWeights ws
    let limit := fun y : Weight =>
      if cellStale s x y.g then old y.g
      else if y.lo ≤ y.w0 && y.w0 ≤ y.hi then 36000
      else r.p / r.n + (ratClamp y.lo y.hi y.w0 - 1 / r.n) * r.vpe * r.i / 2
    (c.1.map fun y => (y.g, y.w, limit y), c.2)

/-- PXFER of a cell in a pick (R331, R366), in watts: `none` leaves it as it was (R335). -/
def pxferOf (s : State) (c g : Nat) : Option Rat :=
  if cellState s g ≠ 3 then (if cellState s g = 4 then some 0 else none)
  else if cellStale s c g then none
  else
    let pin := cellVin s c g * cellIin s c g
    let p := pin - (s.get BALANCE_PRIM_KPRI : Nat) * (cellVpri s c g - vPriSet s)
    let q := ratClamp (-36000) 36000 (ratMin p (s.cur.pmax.getD g 36000))
    some (if 0 < q then q * s.ride.kappa else q)

/-- The phase cluster commits a populated cell's PXFER and the input reference that cluster P committed in the pick before (R331, R338).
(DESIGN CHOICE: log entry 82.) -/
def commitCell (c g : Nat) (s : State) : State :=
  if !populated s g then s
  else
    let old := (cellSt s g).dl.pxfer
    let px := if cellState s g = 3 && s.flag WEAVE_STAT_FB then 0 else match pxferOf s c g with
      | some p => lsbS 16 (p / 2)
      | none => old
    modCell g (fun x => { x with dl := { x.dl with inref := (s.mppt.cells.getD g Trk.reset).inref, pxfer := px } }) s

/-- Weights and share limits take effect. -/
def putWeights (ws : List (Nat × Rat × Rat)) (s : State) : State :=
  modCur (fun c => { c with w := ws.foldl (fun l p => l.set p.1 p.2.1) c.w, pmax := ws.foldl (fun l p => l.set p.1 p.2.2) c.pmax }) s

/-- One phase cluster's weights, share limits and ring commands of a pick, where it commits. In the fallback every transfer is zero and the
balance stands still (R167). -/
def phasePick (x : Nat) (s : State) : State :=
  if !commits s x then s
  else
    let s1 := putWeights (if s.flag WEAVE_STAT_FB then [] else (weigh s x (countedCells s x)).1) s
    (phaseCells x).foldl (fun s g => commitCell x g s) s1

/-- The phase clusters' part of a pick, with the references that cluster P committed in the pick before (R310). -/
def phasesPick (s : State) : State := phasePick 2 (phasePick 1 (phasePick 0 s))

/-! ### The load point (R324–R326, R333) -/

/-- The two factors of R325 over the cells of a phase: of the harmonic part and of the whole reference.
(DEDUCED: log entry 92.) -/
def satFactors (lim : Rat) (ps : List (Rat × Rat)) : Rat × Rat :=
  ps.foldl (fun f p =>
    let b := p.1
    let h := p.2
    if ratAbs (b + h) ≤ lim then f
    else if ratAbs b ≤ lim then
      (ratMin f.1 (if h = 0 then 1 else if 0 < h then (lim - b) / h else (-lim - b) / h), f.2)
    else (0, ratMin f.2 (lim / ratAbs b))) (1, 1)

/-- Duty of modulation index m: round(d × 2^31), within 0 and 1. -/
def dutyOf (d : Rat) : Nat := (clampInt 0 (2 ^ 31) (d * 2 ^ 31 + 1 / 2).floor).toNat

/-- Centres of the next periods in control angle, in cycles: B + o_k + P/2 in threads, with o_k = ⌊k × 65,536 × P / (2n)⌋ (R284, R324). -/
def centreOf (s : State) (b p n k : Nat) : Rat :=
  ((b * 65536 + k * 65536 * p / max 1 (2 * n) + p * 32768 : Nat) : Rat) / 65536 / 4096 + s.cur.seen.delta

/-- A phase saturates in this carrier period (R325). -/
def putSat (x : Nat) (b : Bool) (s : State) : State :=
  let s1 := s.putB (satFlag x) b
  if !b then s1
  else
    let s2 := s1.count CURCTL_SATCNT_COUNT
    if s2.cur.satCycle.getD x none = some (cycleOf s2) then s2
    else curEvent 1 2 x (modCur (fun c => { c with satCycle := c.satCycle.set x (some (cycleOf s2)) }) s2)

/-- A clamped cell at a load point (R333). -/
def clampedCell (g : Nat) (s : State) : State :=
  let s1 := s.count BALANCE_INFCNT_COUNT
  if s1.cur.infCycle.getD g none = some (cycleOf s1) then s1
  else balEvent 0 1 g (modCur (fun c => { c with infCycle := c.infCycle.set g (some (cycleOf s1)) }) s1)

/-- The table published last comes into use, each entry within TMAX (R326, R327). -/
def adoptTable (x : Nat) (s : State) : State :=
  match s.cur.tabNext.getD x none with
  | none => s
  | some t0 =>
    let lim : Rat := (s.get CURCTL_LTLIM_TMAX : Nat)
    let t := t0.map fun p => (p.1, ratClamp (-lim) lim p.2)
    let rms := Config.sqrt (t.foldl (fun a p => a + p.2 * p.2) 0 / 4096)
    (modCur (fun c => { c with tab := c.tab.set x t, tabNext := c.tabNext.set x none }) s).put (CURCTL_LTSTAT_RMS x) (lsbU 16 (10 * rms))

/-- The weight window and the curtailment figures of a load point (Tables 10-22, 10-23). -/
def weightWindow (x : Nat) (s : State) : State :=
  let s1 := (phaseCells x).foldl (fun s g =>
    let on' := (cellSt s g).next
    (s.put (BALANCE_WIN_W g) (if on' then lsbS 16 (s.cur.w.getD g 0 * 32768) else 0)).put (BALANCE_WIN_PMAX g)
      (if on' then lsbU 16 (s.cur.pmax.getD g 0 / 2) else 0)) s
  let excess := fun g : Nat => ratMax 0 (cellPxm s 3 g - s.cur.pmax.getD g 36000)
  let cs := (List.range 3).flatMap (countedCells s)
  (s1.put BALANCE_CURT_KW (lsbU 16 (sumOver cs excess / 1000))).put BALANCE_CURT_CELLS ((cs.filter fun g => s.cur.pmax.getD g 36000 < 36000).length)

/-- The law's duties of a cell go into the shadow of a leg to which no record has been committed since the last load point (R288).
(DESIGN CHOICE: log entry 82.) -/
def lawDuties (dL dM : Nat) (e : CellEdge) : CellEdge :=
  { e with shL := if e.given.1 then e.shL else dL, shM := if e.given.2 then e.shM else dM }

/-- The duties of phase x for the coming carrier boundary (R324, R325, R332, R333). Where the cells counted there are not those of the
period that runs, the weights are computed anew with the coming n_x (R335).
(DESIGN CHOICE: log entry 82.) (DEDUCED: log entry 92.) -/
def lawLoad (x : Nat) (s : State) : State :=
  let sT := adoptTable x s
  let cs := (phaseCells x).filter fun g => countsNext sT g
  let ws := weigh sT x cs
  let s0 := if cs == countedCells sT x then sT else putWeights ws.1 sT
  let b := s0.edge.nextB
  let p := periodOf (s0.raw EDGE_CARRIER_PERIOD.addr)
  let n := cs.length
  let nr : Rat := ((max 1 n : Nat) : Rat)
  let r := phaseRef s0 x n
  let vsum := sumOver cs (cellV s0 x)
  let lim := (s0.get BALANCE_WEIGHT_MMAX : Nat) / 100 * vsum
  let parts := (cs.zipIdx).map fun q => refParts s0 x (centreOf s0 b p n q.2)
  let f := satFactors lim parts
  let unplaced := ws.2
  let s1 := (cs.zipIdx).foldl (fun s q =>
    let g := q.1
    let a := centreOf s0 b p n q.2
    let pr := parts.getD q.2 (0, 0)
    let v := f.2 * (pr.1 + f.1 * pr.2)
    let w := s0.cur.w.getD g (1 / nr)
    let vk := v / nr + (w - 1 / nr) * r.vpe * unitWave s0 x a
    let cv := cellV s0 x g
    let m := quot vk cv
    modEdge g (lawDuties (dutyOf ((1 + m) / 2)) (dutyOf ((1 - m) / 2))) s) s0
  let s2 := putSat x (unplaced || f != (1, 1)) s1
  let inf := cs.filter fun g => !cellStale s0 x g && s0.cur.pmax.getD g 36000 ≠ 36000 && (s0.get BALANCE_LOWI_IBMIN : Nat) / 10 ≤ r.i
  (inf.foldl (fun s g => clampedCell g s) s2).putB ⟨BALANCE_STAT_INF.addr, BALANCE_STAT_INF.lo + x, 1⟩ (!inf.isEmpty)

/-- The delays of R336 of the counts and period in effect. -/
def delayFigures (s : State) : State :=
  let q := periodOf (nowOf s 0).1
  let p : Rat := (q : Nat)
  let offs := (List.range 3).flatMap fun x =>
    let n := countOf s x
    (List.range n).map fun k => ((k * 65536 * q / max 1 (2 * n) : Nat) : Rat) / 65536
  let mean := if offs.isEmpty then 0 else total offs / ((offs.length : Nat) : Rat)
  (s.put CURCTL_DELAY_D0 (lsbU 16 (256 * (3 + p / 2)))).put CURCTL_DELAY_DM (lsbU 16 (256 * (3 + mean + p / 2)))

/-- A load point. The duties of pick B − 3, which the phase cluster commits before it, rest on the pick's current control (R283, R324, R336); a
cluster that does not commit leaves its shadow as it is (R288).
(DESIGN CHOICE: log entry 82.) -/
def loadPhase (x : Nat) (s : State) : State :=
  if s.edge.loaded.getD x false then s
  else
    let s1 := controlled s
    weightWindow x (loadPoint x (if commits s1 x then lawLoad x s1 else s1))

/-! ### Learning (R327, R328) -/

/-- T' of phase x from the last complete cycle. -/
def learnTable (s : State) (x : Nat) : List (Nat × Rat) :=
  let t := s.cur.tab.getD x []
  let e := s.cur.errsLast.getD x []
  let gam : Rat := (s.get CURCTL_LTCTL_GAMMA : Nat) / 100
  let lead := s.get CURCTL_LTCTL_NLEAD
  let lim : Rat := (s.get CURCTL_LTLIM_TMAX : Nat)
  let u := fun i : Nat => (t.lookup (i % 4096)).getD 0 + gam * (e.lookup ((i + lead) % 4096)).getD 0
  ((List.range 4096).map fun i =>
    (i, ratClamp (-lim) lim (255 / 256 * (u (i + 4095) / 4 + u i / 2 + u (i + 1) / 4)))).filter fun p => p.2 ≠ 0

/-- One phase's job at the end of its period.
(DESIGN CHOICE: log entry 164.) -/
def publishTable (x : Nat) (s : State) : State :=
  if s.cur.spoilt.getD x false || s.flag CURCTL_LTCTL_FREEZE then s
  else
    let clear := s.flag CURCTL_LTCTL_CLEAR && !s.cur.zeroed.getD x false
    let t := if clear then [] else learnTable s x
    let s1 := modCur (fun c => { c with tabNext := c.tabNext.set x (some t), zeroed := if clear then c.zeroed.set x true else c.zeroed }) s
    setEvt 0x074 8 (s1.countWrap (CURCTL_LTSTAT_PUBS x))

/-- `LEARN_PUBLISH` (R327): CLEAR falls when every phase has published its zeros (R328); after LTPER cycles the tables are rebuilt and published. While the F-die throttles, the phase clusters' jobs
are skipped and no table is published (R418). -/
def execLearnPublish (s : State) : Outcome State Fault Refusal :=
  run (fun s =>
    if s.cur.cycles < s.get CURCTL_LTCTL_LTPER || !s.flag WEAVE_STAT_RUN || 2 ≤ s.get FTHERM_STAT_LEVEL then s
    else
      let s1 := publishTable 2 (publishTable 1 (publishTable 0 s))
      let s2 := if s1.cur.zeroed.all id then modCur (fun c => { c with zeroed := [false, false, false] }) (s1.put CURCTL_LTCTL_CLEAR 0) else s1
      modCur (fun c => { c with cycles := 0, spoilt := [false, false, false] }) s2) s

end Sys2Proof.Machine
end

