-- ==== Sys2Proof/Machine/Mppt.lean ====
section
/-! DEFINITION. Cell power tracking (R338–R347), the global scan (R348–R352), storage cells (R353–R356) and the split of the export
(R357). -/

namespace Sys2Proof.Machine

open Host (Outcome)

def trk (s : State) (g : Nat) : Trk := s.mppt.cells.getD g Trk.reset
def modTrk (g : Nat) (f : Trk → Trk) (s : State) : State := { s with mppt.cells := s.mppt.cells.modify g f }
def modMppt (f : MpptSt → MpptSt) (s : State) : State := { s with mppt := f s.mppt }

/-- Events of sources 66 and 67 with their flags (Table 11-8). -/
def mpptEvent (bitNo code data : Nat) (s : State) : State := raiseF 66 code data (setEvt 0x076 (2 ^ bitNo) s)
def storEvent (bitNo code data : Nat) (s : State) : State := raiseF 67 code data (setEvt 0x077 (2 ^ bitNo) s)

/-- PV cells and storage cells of the converter map, by global index. -/
def pvCells (s : State) : List Nat := (List.range 192).filter fun g => (cellMap s g).ty == 1
def storageCells (s : State) : List Nat := (List.range 192).filter fun g => (cellMap s g).ty == 2

def active (s : State) (g : Nat) : Bool := cellState s g == 3

/-- The state of a tracker (Table 11-1): 0 IDLE, 1 START, 2 TRACK, 3 CURTAIL, 4 SCAN, 5 HOLD, 6 DARK. -/
def trkState (s : State) (g : Nat) : Nat := s.get (MPPT_CW0_STATE g)

/-- Cells in CURTAIL. -/
def curtailing (s : State) : Nat := ((pvCells s).filter fun g => trkState s g == 3).length

/-- A tracker enters a state; the first cell into CURTAIL and the last one out of it raise event 0x0004 (Table 11-8). The pick is kept: no
other row acts on the cell in it (R340). -/
def setTrk (g n : Nat) (s : State) : State :=
  let a := curtailing s
  let old := trkState s g
  let s0 := if old = n then s else modTrk g (fun t => { t with acted := some (absPick s) }) s
  let s1 := s0.put (MPPT_CW0_STATE g) n
  let b := curtailing s1
  if (a = 0) == (b = 0) then s1 else mpptEvent 3 4 (bit (a = 0)) s1

/-- A row of Table 11-1 has acted on the cell in this pick: it takes no other step in it (R340). -/
def rests (s : State) (g : Nat) : Bool := (trk s g).acted == some (absPick s)

/-- P_est, shown in the window. -/
def setPest (g : Nat) (p : Rat) (s : State) : State := (modTrk g (fun t => { t with pest := p }) s).put (MPPT_CW1_PEST g) (lsbU 16 (p / 2))

/-- The update of this pick gives way to a row nearer the top of Table 11-1 (R340). -/
def undoUpdate (g : Nat) (s : State) : State :=
  match (trk s g).undo with
  | none => s
  | some u =>
    if u.pick ≠ absPick s then s
    else
      let s1 := modTrk g (fun t => { t with vref := u.vref, hist := u.hist, low := u.low, pmean := u.pmean, samp := u.samp, acted := none,
                                            undo := none }) s
      setPest g u.pest (s1.put (MPPT_CW0_STATE g) 2)

/-! ### Parameters -/

def vStrMin (s : State) : Rat := (s.get MPPT_VLIM_VSTRMIN : Nat) / 10
def vStrMax (s : State) : Rat := (s.get MPPT_VLIM_VSTRMAX : Nat) / 10
def stepMin (s : State) : Rat := (s.get MPPT_STEP_STEPMIN : Nat) / 10
def stepMax (s : State) : Rat := (s.get MPPT_STEP_STEPMAX : Nat)
def cBand (s : State) : Rat := (s.get MPPT_CURT_CBAND : Nat) * 100
def clampStr (s : State) (v : Rat) : Rat := ratMax (vStrMin s) (ratMin (vStrMax s) v)
def dwell (s : State) : Rat := (s.get MPPT_SCAN_DWELL : Nat) / 1000

/-! ### Input references (R338, R339, R356) -/

/-- The INREF word of a string voltage: 0.05 V per LSB, the open code where there is none. -/
def inrefV (v : Option Rat) : Nat :=
  match v with
  | none => 65535
  | some v => lsbU 16 (20 * v)

/-- The voltage that the sweep sends now (Table 11-4). -/
def sweepV (s : State) (g : Nat) (c : ScanCell) : Rat :=
  let hi := vStrMax s
  let lo := vStrMin s
  match s.mppt.phase with
  | none => c.vPre
  | some 0 => c.vPre + (hi - c.vPre) * ratMin 1 (5 * s.mppt.tPhase)
  | some 65 => lo + (((trk s g).vref).getD c.vPre - lo) * ratMin 1 (5 * s.mppt.tPhase)
  | some k => hi - ((k - 1 : Nat) : Rat) * (hi - lo) / 63

/-- The reference of a PV cell (Table 11-1): HOLD keeps what was sent last. -/
def pvInref (s : State) (g : Nat) : Nat :=
  let t := trk s g
  match trkState s g with
  | 2 => inrefV t.vref
  | 3 => if t.opened then 65535 else inrefV t.vref
  | 4 => match t.scan with
    | some c => inrefV (some (sweepV s g c))
    | none => inrefV t.vref
  | 5 => t.inref
  | _ => 65535

/-- The reference of a storage cell (R356): −P / VIN within ±300 A; it holds in a ride-through event. -/
def storageInref (s : State) (g : Nat) : Nat :=
  let t := trk s g
  if !active s g || s.pwr.gridOpen != some false || s.flag WEAVE_STAT_FB then 0
  else if s.flag GRIDFN_STAT_RT then t.inref
  else if t.cmd = 0 then 0
  else
    let v := cellVin s 3 g
    let i := ratClamp (-300) 300 (quot (-t.cmd) v)
    lsbS 16 (100 * i)

/-- Cluster P commits a cell's reference. -/
def commitInref (g : Nat) (s : State) : State :=
  let ty := (cellMap s g).ty
  if ty = 1 then let w := pvInref s g; (modTrk g (fun t => { t with inref := w }) s).put (MPPT_CW0_VREF g) w
  else if ty = 2 then let w := storageInref s g; modTrk g (fun t => { t with inref := w }) s
  else s

/-! ### The global scan (R348–R352) -/

/-- The bank that is scanned, or was last. -/
def scanBank (s : State) : Nat := s.get MPPT_SCANSTAT_BANK

/-- PV cells of global bank b. -/
def bankPv (s : State) (b : Nat) : List Nat :=
  (List.range 8).filterMap fun i => let g := 64 * (b / 8) + 8 * (b % 8) + i; if (cellMap s g).ty == 1 then some g else none

/-- Cells in the running sweep, those that a ride-through event holds included. -/
def sweeping (s : State) : List Nat := (List.range 192).filter fun g => ((trk s g).scan).isSome

/-- A cell leaves the sweep for a state with its V_ref at V_pre (R351). -/
def leaveSweep (g n : Nat) (s : State) : State :=
  match (trk s g).scan with
  | none => s
  | some c =>
    let s1 := modTrk g (fun t => { t with scan := none, vref := some c.vPre }) s
    if trkState s1 g = 5 then modTrk g (fun t => { t with held := n }) s1 else setTrk g n s1

/-- The running bank scan is aborted with a reason (R351).
(DESIGN CHOICE: log entry 99.) -/
def abortScan (reason : Nat) (s : State) : State :=
  if s.mppt.phase.isNone then s
  else
    let s1 := (sweeping s).foldl (fun s g => leaveSweep g 2 s) s
    let s2 := modMppt (fun m => { m with phase := none, tPhase := 0, deficit := 0, short := 0 }) s1
    mpptEvent 1 2 (scanBank s + 32 * reason) (s2.count MPPT_SCANABORT_COUNT)

/-- The pass ends. -/
def endPass (s : State) : State := (modMppt (fun m => { m with queue := [], again := [], second := false }) s).put MPPT_SCANSTAT_RUN 0

/-- A pass starts: its banks in ascending order; the first scan may start at once. -/
def startPass (s : State) : State :=
  (modMppt (fun m => { m with queue := List.range 24, again := [], second := false, phase := none, tPhase := 1,
                              passT := if connected s then some (m.passT.getD 0) else none }) s).put MPPT_SCANSTAT_RUN 1

/-- A periodic pass is due: PER has passed since the one before, counted from the first pass after connection, which the command starts.
(DESIGN CHOICE: log entry 99.) -/
def passDue (s : State) : Bool :=
  connected s && match s.mppt.passT with
    | some t => decide (60 * (s.get MPPT_SCAN_PER : Nat) ≤ t)
    | none => true

/-- `SCAN_PASS` (R348): a periodic pass is due. -/
def execScanPass (s : State) : Outcome State Fault Refusal :=
  run (fun s =>
    if !s.flag MPPT_CTL_SCANEN || !s.flag WEAVE_STAT_RUN || !passDue s then s
    else
      let s1 := modMppt (fun m => { m with passT := some (match m.passT with
        | some t => t - 60 * (s.get MPPT_SCAN_PER : Nat)
        | none => 0) }) s
      if s1.flag MPPT_SCANSTAT_RUN then s1.count MPPT_SCANSTAT_LATE else startPass s1) s

/-- A write of `SCANCTL`: ABORT ends the running bank scan and the pass, GO starts a pass and is refused while one runs (R348). A host abort
has no reason code in Table 11-8: a free value.
(DESIGN CHOICE: log entry 98.) -/
def scanctlWrite (w : Word) (s : State) : State :=
  let s1 := if w &&& 0xFFFFFFFC#32 = 0 then s else capture MPPT_SCANCTL_GO.addr 2 s
  let s2 := if w.getLsbD 1 then let (r, s2) := freeWord s1; endPass (abortScan (r.toNat % 8) s2) else s1
  if w.getLsbD 0 then
    if s2.flag MPPT_SCANSTAT_RUN then capture MPPT_SCANCTL_GO.addr 3 s2 else startPass s2
  else s2

/-- `SCAN_GO` (R348). -/
def execScanGo (s : State) : Outcome State Fault Refusal := run (scanctlWrite 1) s

/-- `SCAN_ABORT` (Table 11-10a). -/
def execScanAbort (s : State) : Outcome State Fault Refusal := run (scanctlWrite 2) s

/-- A cell of a bank that R350 admits: in TRACK with P_lim at or above the mean power of its last update. An update of this pick gives way to
the scan's start (R340). -/
def admits (s : State) (g : Nat) : Bool :=
  let u := undoUpdate g s
  trkState u g == 2 && !rests u g && decide ((trk u g).pmean ≤ (trk u g).plim)

/-- One bank at its start (R350): skipped without an admitted cell, put off or counted where the reserve falls short, else begun. -/
def tryBank (b : Nat) (s : State) : State :=
  let cs := bankPv s b
  let ad := cs.filter (admits s)
  if ad.isEmpty then s
  else
    let need := sumOver ad fun g => (trk (undoUpdate g s) g).pmean
    if s.flag MPPT_CTL_HIDE && s.mppt.reserve < need then
      if s.mppt.second then mpptEvent 2 3 b (s.count MPPT_SCANSKIP_BANKS)
      else modMppt (fun m => { m with again := m.again ++ [b] }) s
    else
      let s1 := ad.foldl (fun s g => setTrk g 4 (modTrk g (fun t =>
        { t with scan := some ⟨t.vref.getD (vStrMax s), t.pmean, 0, 0, 0, 0⟩ }) (undoUpdate g s))) s
      let s2 := s1.addSat MPPT_SCANSKIP_CELLS (cs.length - ad.length)
      (modMppt (fun m => { m with phase := some 0, tPhase := 0, deficit := 0, short := 0 }) s2).put MPPT_SCANSTAT_BANK b

/-- Try banks in order until one starts. -/
def tryBanks (l : List Nat) (s : State) : State :=
  l.foldl (fun s b => if s.mppt.phase.isSome then s else tryBank b (modMppt (fun m => { m with queue := m.queue.drop 1 }) s)) s

/-- `BANK_SCAN_START` (R348, R350): 1.0 s after the bank scan before. -/
def execBankScanStart (s : State) : Outcome State Fault Refusal :=
  run (fun s =>
    if !s.flag MPPT_SCANSTAT_RUN || s.mppt.phase.isSome || s.mppt.tPhase < 1 then s
    else
      let s1 := tryBanks s.mppt.queue s
      if s1.mppt.phase.isSome then s1
      else if s1.mppt.second || s1.mppt.again.isEmpty then endPass s1
      else
        let l := s1.mppt.again
        let s2 := tryBanks l (modMppt (fun m => { m with queue := l, again := [], second := true }) s1)
        if s2.mppt.phase.isSome then s2 else endPass s2) s

/-- A point of the sweep ends: its mean power, and whether it is the best so far. -/
def closePoint (k g : Nat) (s : State) : State :=
  modTrk g (fun t => match t.scan with
    | none => t
    | some c =>
      let p := quot c.sum ((c.n : Nat) : Rat)
      let v := vStrMax s - ((k - 1 : Nat) : Rat) * (vStrMax s - vStrMin s) / 63
      { t with scan := some (if k = 1 || c.bestP < p then { c with bestV := v, bestP := p, sum := 0, n := 0 } else { c with sum := 0, n := 0 }) }) s

/-- V_ref at the end of the sweep (R352). -/
def chooseBest (g : Nat) (s : State) : State :=
  modTrk g (fun t => match t.scan with
    | none => t
    | some c => { t with vref := some (if c.pPre * (1 + pu (s.get MPPT_SCAN_GAIN)) ≤ c.bestP then c.bestV else c.vPre) }) s

/-- `SCAN_POINT` (R349): a phase of the sweep ends. -/
def execScanPoint (s : State) : Outcome State Fault Refusal :=
  run (fun s =>
    match s.mppt.phase with
    | none => s
    | some k =>
      let len := if k = 0 then 1 / 5 else dwell s
      if 65 ≤ k || s.mppt.tPhase < len then s
      else
        let s1 := if k = 0 then s else (sweeping s).foldl (fun s g => closePoint k g s) s
        let s2 := if k = 64 then (sweeping s1).foldl (fun s g => chooseBest g s) s1 else s1
        modMppt (fun m => { m with phase := some (k + 1), tPhase := m.tPhase - len }) s2) s

/-- A cell's sweep is over (R352): TRACK at V_ref, with the update history cleared. -/
def finishCell (g : Nat) (s : State) : State :=
  match (trk s g).scan with
  | none => s
  | some c =>
    let moved := c.pPre * (1 + pu (s.get MPPT_SCAN_GAIN)) ≤ c.bestP
    let s1 := modTrk g (fun t => { t with scan := none, hist := none }) s
    let s2 := (setTrk g 2 s1).count MPPT_SCANCNT_COUNT
    if moved then s2.count MPPT_SCANMOVE_COUNT else s2

/-- `BANK_SCAN_END` (R352). -/
def execBankScanEnd (s : State) : Outcome State Fault Refusal :=
  run (fun s =>
    if s.mppt.phase ≠ some 65 || s.mppt.tPhase < 1 / 5 then s
    else
      let cs := sweeping s
      let s1 := cs.foldl (fun s g => finishCell g s) s
      let moved := s1.get MPPT_SCANMOVE_COUNT - s.get MPPT_SCANMOVE_COUNT
      let s2 := modMppt (fun m => { m with phase := none, tPhase := 0, deficit := 0, short := 0 }) s1
      let s3 := mpptEvent 0 1 (scanBank s + 32 * moved) s2
      if s3.mppt.queue.isEmpty && (s3.mppt.second || s3.mppt.again.isEmpty) then endPass s3 else s3) s

/-! ### The trackers in a pick (R340, R342) -/

/-- A tracker goes to IDLE with its history cleared. -/
def toIdle (g : Nat) (s : State) : State :=
  if trkState s g = 0 then s
  else setTrk g 0 (modTrk g (fun t => { t with vref := none, hist := none, scan := none, opened := false, low := 0, rel := none,
                                               samp := [], undo := none }) s)

/-- A tracker starts (Table 11-1). -/
def toStart (g : Nat) (s : State) : State :=
  setTrk g 1 (modTrk g (fun t => { t with vref := none, hist := none, full := false, low := 0, opened := false, samp := [] }) s)

/-- Table 11-1's events of every pick, the row nearest the top first. -/
def trkEvents (g : Nat) (s : State) : State :=
  let st := trkState s g
  let rt := s.flag GRIDFN_STAT_RT
  if !active s g || s.pwr.gridOpen != some false || s.flag WEAVE_STAT_FB || !s.flag MPPT_CTL_EN then toIdle g s
  else if rt && s.ride.dur = 0 && st ≠ 0 && st ≠ 5 then
    let h := if st = 4 then 2 else st
    let v := match (trk s g).scan with
      | some c => some c.vPre
      | none => (trk s g).vref
    setTrk g 5 (modTrk g (fun t => { t with held := h, vref := v, scan := none }) s)
  else if !rt && st = 5 then setTrk g (trk s g).held s
  else if st = 0 then toStart g s
  else s

/-- Ring data of a pick enters the means (R342, R346, R349). -/
def trkSample (g : Nat) (s : State) : State :=
  let t := tPick s
  let v := cellVin s 3 g
  let i := cellIin s 3 g
  let d : RingSample := ⟨t, v, i, !cellStale s 3 g⟩
  let idle := trkState s g == 0
  let point := match s.mppt.phase with
    | some k => 1 ≤ k && k ≤ 64 && decide (dwell s ≤ 2 * s.mppt.tPhase)
    | none => false
  modTrk g (fun x =>
    let z := { x with samp := if idle then [] else d :: x.samp, p16 := x.p16 + v * i, n16 := x.n16 + 1 }
    if point then { z with scan := z.scan.map fun c => { c with sum := c.sum + v * i, n := c.n + 1 } } else z) s

/-- The cell counts of `MPPT.STAT`. -/
def trkCounts (s : State) : State :=
  let n := ((pvCells s).filter fun g => trkState s g == 2).length
  (s.put MPPT_STAT_TRACK n).put MPPT_STAT_CURT (curtailing s)

/-- The length of the pick that ended, in seconds. -/
def lenSeconds (s : State) : Rat := (s.warp.lenPrev : Nat) / 1200000000

/-- The clock of the update periods at a pick boundary (R341): the first period starts at the first boundary after the first image has started,
each later one TUPD after the one before, and a change of TUPD takes effect with it. The clock of the scan passes runs while connected
(R348). -/
def mpptClock (s : State) : State :=
  let dt := lenSeconds s
  let tupd : Rat := (s.get MPPT_CTL_TUPD : Nat) / 1000
  let conn := connected s
  let run := s.flag WEAVE_STAT_RUN
  modMppt (fun m =>
    let n := { m with passT := if conn then m.passT.map (· + dt) else none }
    if m.on then (if m.tupd ≤ m.t + dt then { n with t := m.t + dt - m.tupd, tupd := tupd, bank := 0 } else { n with t := m.t + dt })
    else if run then { n with on := true, t := 0, tupd := tupd, bank := 0 }
    else n) s

/-- Cluster P's tracking work in a pick. A sweep is aborted by a ride-through event and by a row of Table 10-4 other than 0b001 and 0b011
(R351). -/
def mpptPick (s : State) : State :=
  let src := srcNow s
  let s1 := modMppt (fun m => { m with tPhase := m.tPhase + lenSeconds s }) s
  let s2 := if s1.flag GRIDFN_STAT_RT then abortScan 1 s1 else if src = 1 || src = 3 then s1 else abortScan 2 s1
  let s3 := (pvCells s2).foldl (fun s g => trkSample g (trkEvents g s)) s2
  trkCounts ((List.range 192).foldl (fun s g => commitInref g s) s3)

/-! ### Updates (R341–R343, R345) -/

/-- The newest samples that lie whole within `span`. -/
def recent (span : Rat) : List RingSample → Rat → List RingSample
  | [], _ => []
  | p :: r, acc => if acc + p.t ≤ span then p :: recent span r (acc + p.t) else []

/-- The mean of a quantity over samples. -/
def sampleMean (f : RingSample → Rat) (l : List RingSample) : Rat := quot (l.foldl (fun a p => a + f p) 0) ((l.length : Nat) : Rat)

/-- The picks that count for an update, of those in the second half of the interval since the previous one (R342).
(DESIGN CHOICE: log entry 99.) -/
structure UpdateMeans where
  counted : Nat
  picks : Nat
  v : Rat
  i : Rat

def updateMeans (t : Trk) : UpdateMeans :=
  let l := recent (t.samp.foldl (fun a p => a + p.t) 0 / 2) t.samp 0
  let f := l.filter (·.fresh)
  ⟨f.length, l.length, sampleMean RingSample.v f, sampleMean RingSample.i f⟩

/-- VIN_open: the mean VIN over the last update period (Table 11-1). -/
def openVoltage (s : State) (t : Trk) : Rat := sampleMean RingSample.v ((recent s.mppt.tupd t.samp 0).filter (·.fresh))

/-- The step of R343 from (V₀, I₀) to (V, I): how far V_ref moves. -/
def trackStep (s : State) (v0 i0 v i : Rat) : Rat :=
  let dv := v - v0
  let di := i - i0
  let eps : Rat := (s.get MPPT_STEP_EPS : Nat) / 1000
  if ratAbs dv < 1 / 10 then
    if ratAbs di ≤ eps * i then 0 else if di < 0 then -stepMin s else stepMin s
  else
    let gc := i + v * di / dv
    if ratAbs gc ≤ eps * i then 0
    else
      let m := ratMax (stepMin s) (ratMin (stepMax s) ((s.get MPPT_STEP_KSTEP : Nat) / 100 * ratAbs gc))
      if gc < 0 then -m else m

/-- The start of tracking at a fraction of the open-circuit voltage. -/
def startTrack (g : Nat) (vo : Rat) (s : State) : State :=
  let v := clampStr s ((s.get MPPT_CTL_KVOC : Nat) / 100 * vo)
  setTrk g 2 (modTrk g (fun t => { t with vref := some v, hist := none, low := 0 }) s)

/-- A cell in TRACK at its slot, with the means of its update; `t` is its tracker before. The first update after START and after a scan
only records (R343, R352). -/
def updateTrack (g : Nat) (u : UpdateMeans) (t : Trk) (s : State) : State :=
  let p := u.v * u.i
  let low := if p < 100 then t.low + 1 else 0
  let s1 := modTrk g (fun x => { x with low := low, hist := some (u.v, u.i), acted := some (absPick s),
                                        undo := some ⟨absPick s, t.vref, t.hist, t.low, t.pest, t.pmean, t.samp⟩ }) s
  if 10 ≤ low then setTrk g 6 (setPest g p (modTrk g (fun x => { x with vref := none, hist := none }) s1))
  else match t.hist with
    | none => s1
    | some h =>
      let vr := clampStr s (t.vref.getD (vStrMax s) + trackStep s h.1 h.2 u.v u.i)
      setPest g p (modTrk g (fun x => { x with vref := some vr }) s1)

/-- A PV cell at its update slot (Table 11-1). An update with too little fresh data is skipped (R342); a cell in START or DARK takes its mean
power as P_est (R345). -/
def updateCell (g : Nat) (s : State) : State :=
  let t := trk s g
  let st := trkState s g
  let u := updateMeans t
  if rests s g || !(st == 1 || st == 2 || st == 6) then s
  else
    let s0 := if st = 1 then modTrk g (fun x => { x with full := true }) s else s
    if u.picks = 0 then s0
    else if 4 * u.counted < u.picks then s0.count MPPT_STAT_SKIPAGE
    else
      let s1 := modTrk g (fun x => { x with samp := [], pmean := u.v * u.i }) s0
      if st = 2 then updateTrack g u t s1
      else
        let s2 := setPest g (u.v * u.i) s1
        let vo := openVoltage s t
        if st = 1 && !t.full then s2
        else if vStrMin s * (if st = 6 then 105 / 100 else 1) ≤ vo then startTrack g vo s2
        else if st = 6 then s2
        else setTrk g 6 s2

/-- A bank's slot. -/
def updateBank (b : Nat) (s : State) : State := modMppt (fun m => { m with bank := b + 1 }) ((bankPv s b).foldl (fun s g => updateCell g s) s)

/-- `TRACKER_UPDATE` (R341): the next bank's slot has come. -/
def execTrackerUpdate (s : State) : Outcome State Fault Refusal :=
  run (fun s =>
    let m := s.mppt
    if s.flag WEAVE_STAT_RUN && m.on && m.bank < 24 && ((m.bank : Nat) : Rat) * m.tupd / 24 ≤ m.t then updateBank m.bank s else s) s

/-! ### Storage (R353–R355) -/

def cellSoc (s : State) (g : Nat) : Nat := bitsAt (cellWord s 3 g 1) 16 8
def cellTbat (s : State) (g : Nat) : Nat := bitsAt (cellWord s 3 g 1) 8 8
def chgOk (s : State) (g : Nat) : Bool := (cellWord s 3 g 0).testBit 7

/-- Limits LIMCHG and LIMDIS in watts. -/
def limChg (s : State) (g : Nat) : Rat := 2 * (bitsAt (cellWord s 3 g 4) 0 16 : Nat)
def limDis (s : State) (g : Nat) : Rat := 2 * (bitsAt (cellWord s 3 g 4) 16 16 : Nat)

/-- The reason for which the charge permit is lost (Table 11-8); 0 = none. -/
def chgLoss (s : State) (g : Nat) : Nat :=
  let t := cellTbat s g
  if !chgOk s g then 1
  else if t < s.get STORAGE_TWIN_TCHGMIN || s.get STORAGE_TWIN_TCHGMAX < t then 2
  else if s.get STORAGE_SOCLIM_SOCMAX ≤ cellSoc s g then 3
  else 0

/-- The two permits of a storage cell at a 16-pick step (Table 11-5).
(DEDUCED: log entry 97.) -/
def permitStep (g : Nat) (s : State) : State :=
  if cellStale s 3 g then s
  else
    let x := trk s g
    let t := cellTbat s g
    let soc := cellSoc s g
    let why := chgLoss s g
    let gain := chgOk s g && s.get STORAGE_TWIN_TCHGMIN + 2 ≤ t && t + 2 ≤ s.get STORAGE_TWIN_TCHGMAX && soc + 4 ≤ s.get STORAGE_SOCLIM_SOCMAX
    let lose := t < s.get STORAGE_TWIN_TDISMIN || s.get STORAGE_TWIN_TDISMAX < t || soc ≤ s.get STORAGE_SOCLIM_SOCMIN
    let gainD := s.get STORAGE_TWIN_TDISMIN + 2 ≤ t && t + 2 ≤ s.get STORAGE_TWIN_TDISMAX && s.get STORAGE_SOCLIM_SOCMIN + 4 ≤ soc
    let s1 := modTrk g (fun x => { x with chg := why == 0 && (x.chg || gain), dis := !lose && (x.dis || gainD) }) s
    if x.chg && why ≠ 0 then storEvent 1 2 (g + 256 * why) (s1.count STORAGE_REFCNT_COUNT) else s1

/-- Eligible (R354). -/
def eligible (s : State) (g : Nat) : Bool := active s g && (cellWord s 3 g 0).testBit 2 && !cellStale s 3 g

/-- D_k and C_k (R354). -/
def disBound (s : State) (g : Nat) : Rat :=
  if eligible s g && (trk s g).dis then ratMax 0 (ratMin (ratMin (limDis s g) (s.cur.pmax.getD g 36000)) 36000) else 0
def chgBound (s : State) (g : Nat) : Rat :=
  let p := s.cur.pmax.getD g 36000
  let c := ratMin (limChg s g) 36000
  if eligible s g && (trk s g).chg then (if p < 0 then ratMin c (-p) else c) else 0

/-- A per-cell command in force. -/
def ownCmd (s : State) (g : Nat) : Bool := s.flag (STORAGE_CMD_EN g)

/-- One pass of sharing (R355): each open cell's share of what remains; those beyond their bound are clamped and closed. Entries are
(cell, weight, bound, placed, open). -/
def sharePass (l : List (Nat × Rat × Rat × Rat × Bool)) (rest : Rat) : List (Nat × Rat × Rat × Rat × Bool) :=
  let sum := l.foldl (fun a (p : Nat × Rat × Rat × Rat × Bool) => if p.2.2.2.2 then a + p.2.1 else a) 0
  l.map fun p =>
    if !p.2.2.2.2 || sum = 0 then p
    else
      let x := p.2.2.2.1 + rest * p.2.1 / sum
      if p.2.2.1 < x then (p.1, p.2.1, p.2.2.1, p.2.2.1, false) else (p.1, p.2.1, p.2.2.1, x, true)

def placed (l : List (Nat × Rat × Rat × Rat × Bool)) : Rat := l.foldl (fun a p => a + p.2.2.2.1) 0

/-- The shares of an amount ≥ 0 among cells in at most three passes. -/
def shares (amount : Rat) (l : List (Nat × Rat × Rat × Rat × Bool)) : List (Nat × Rat × Rat × Rat × Bool) :=
  let l1 := sharePass l amount
  let l2 := sharePass l1 (amount - placed l1)
  sharePass l2 (amount - placed l2)

/-- The group total is shared (R355); what cannot be placed is the shortfall. -/
def splitStorage (total : Rat) (s : State) : State :=
  let cs := storageCells s
  let own := cs.filter fun g => eligible s g && ownCmd s g
  let s1 := own.foldl (fun s g =>
    modTrk g (fun t => { t with cmd := ratMax (-chgBound s g) (ratMin (disBound s g) (100 * (s.getI (STORAGE_CMD_P g) : Rat))) }) s) s
  let stale := cs.filter fun g => active s g && cellStale s 3 g
  let rest := total - sumOver own (fun g => (trk s1 g).cmd) - sumOver stale (fun g => (trk s1 g).cmd)
  let group := cs.filter fun g => eligible s g && !ownCmd s g
  let mean := if group.isEmpty then 0 else sumOver group (fun g => ((cellSoc s g : Nat) : Rat) / 2) / ((group.length : Nat) : Rat)
  let dis := decide (0 ≤ rest)
  let bound := fun g => if dis then disBound s g else chgBound s g
  let k : Rat := (s.get STORAGE_CTL_KSOC : Nat) / 10
  let entry := fun g : Nat =>
    let d := k * (((cellSoc s g : Nat) : Rat) / 2 - mean) / 100
    (g, bound g * ratMax 0 (if dis then 1 + d else 1 - d), bound g, (0 : Rat), true)
  let l := shares (ratAbs rest) (group.map entry)
  let s2 := l.foldl (fun s p => modTrk p.1 (fun t => { t with cmd := if dis then p.2.2.2.1 else -p.2.2.2.1 }) s) s1
  let s3 := cs.foldl (fun s g => if active s g && (eligible s g || cellStale s 3 g) then s else modTrk g (fun t => { t with cmd := 0 }) s) s2
  let short := ratAbs rest - placed l
  let s4 := s3.put STORAGE_STAT_SHORT (lsbS 16 ((if dis then short else -short) / 1000))
  if short = 0 || s4.mppt.shortCycle = some (cycleOf s4) then s4
  else storEvent 2 3 (bit dis) (modMppt (fun m => { m with shortCycle := some (cycleOf s4) }) s4)

/-- The window entries and the status of the STORAGE page (Tables 11-13, 11-15). -/
def storageStatus (s : State) : State :=
  let cs := storageCells s
  let el := cs.filter (eligible s)
  let s1 := cs.foldl (fun s g =>
    (((s.put (STORAGE_EFF_P g) (lsbS 16 ((trk s g).cmd / 100))).putB (STORAGE_EFF_CHG g) (trk s g).chg).putB (STORAGE_EFF_DIS g) (trk s g).dis).putB
      (STORAGE_EFF_ELIG g) (eligible s g)) s
  let s2 := (s1.put STORAGE_STAT_ELIG el.length).put STORAGE_STAT_NOCHG (el.filter fun g => !(trk s g).chg).length
  let s3 := (s2.put STORAGE_CAP_CHG (lsbU 16 (sumOver cs (chgBound s) / 1000))).put STORAGE_CAP_DIS (lsbU 16 (sumOver cs (disBound s) / 1000))
  (s3.put STORAGE_PNOW_CMD (lsbS 16 (s.mppt.total / 1000))).put STORAGE_PNOW_MEAS (lsbS 16 (sumOver cs (cellPxm s 3) / 1000))

/-! ### The export split and the limits (R344, R350, R357) -/

/-- PV_av: Σ P_est over the ACTIVE PV cells. -/
def pvAvail (s : State) : Rat := sumOver ((pvCells s).filter (active s)) fun g => (trk s g).pest

/-- Table 11-6. -/
def exportTotal (s : State) : Rat :=
  let cs := storageCells s
  let d := sumOver cs (disBound s)
  let c := sumOver cs (chgBound s)
  let av := pvAvail s
  let ceil := s.cur.ceil
  let disp := s.flag CURCTL_MODE_PMODE
  let s1 := ratMax (-c) (ratMin d (if disp then ceil - av else 1000 * (s.getI STORAGE_PCMD_P : Rat)))
  let s2 := if !disp && ceil < av + s1 && 0 < s1 then ratMax 0 (ceil - av) else s1
  let s3 := if !disp && ceil < av + s2 && s.flag STORAGE_CTL_ABSORB then ratMax (ceil - av) (-c) else s2
  match s.cur.floor with
  | some f => if av + s3 < f then ratMin (f - av) d else s3
  | none => s3

/-- The mean of VIN × IIN over the 16 picks just ended (R346). -/
def pIn (s : State) (g : Nat) : Rat := let t := trk s g; quot t.p16 ((t.n16 : Nat) : Rat)

/-- S, B_PV, the reserve, and the deficit of a running sweep (R350, R357). -/
def splitExport (s : State) : State :=
  let st := exportTotal s
  let b := ratMax 0 (s.cur.ceil - st)
  let head := ratMax 0 (pvAvail s - b)
  let dis := sumOver (storageCells s) (disBound s)
  let def' := if s.mppt.phase.isSome then ratMax 0 (sumOver (sweeping s) fun g => (((trk s g).scan).map (·.pPre)).getD 0 - pIn s g) else 0
  let toPv := ratMin def' head
  let total := st + (def' - toPv)
  let reserve := ratMax 0 (dis - st) + head
  let bpv := b + toPv
  let s1 := modMppt (fun m => { m with total := total, bpv := some bpv, reserve := reserve, deficit := def' }) s
  (s1.put MPPT_PVAVAIL_AV (lsbU 16 (pvAvail s / 1000))).put MPPT_PVAVAIL_BPV (lsbU 16 (bpv / 1000))

/-- P_lim of a PV cell (R344). -/
def plimOf (s : State) (g : Nat) : Rat :=
  let counts := fun h : Nat => active s h && (let st := trkState s h; 2 ≤ st && st ≤ 5)
  let sum := sumOver ((pvCells s).filter counts) fun h => (trk s h).pest
  let conv := match s.mppt.bpv with
    | some b => quot (b * (trk s g).pest) sum
    | none => 36000
  let x := g / 64
  let ph := match s.cur.budget.getD x none with
    | some b =>
      let l := (pvCells s).filter fun h => h / 64 == x && counts h
      let sp := sumOver l fun h => (trk s h).pest
      let st := sumOver ((storageCells s).filter fun h => h / 64 == x) (cellPxm s 3)
      quot (ratMax 0 (b - st) * (trk s g).pest) sp
    | none => 36000
  ratMin (ratMin 36000 (s.cur.pmax.getD g 36000)) (ratMin conv ph)

/-! ### The 16-pick check (R346, R351) -/

/-- How far curtailment moves V_ref. -/
def curtailStep (s : State) (x : Rat) : Rat := ratMin (stepMax s) ((s.get MPPT_CURT_KCUR : Nat) / 10 * x / 1000)

/-- Curtailment moves V_ref toward open circuit; INREF opens once V_ref stands at VSTRMAX (R346). -/
def curtailUp (g : Nat) (p : Rat) (s : State) : State :=
  let t := trk s g
  let v := ratMin (vStrMax s) (t.vref.getD (vStrMax s) + curtailStep s (p - t.plim))
  modTrk g (fun x => { x with vref := some v, opened := x.opened || decide (vStrMax s ≤ t.vref.getD 0) }) s

/-- The check of a cell in CURTAIL: the time at or above P_est + CBAND, from the first check that finds it, and the curtail step. A cell that
CURTAIL_RELEASE lets go takes none. -/
def checkCurtail (g : Nat) (p : Rat) (s : State) : State :=
  let t := trk s g
  let rel := if t.pest + cBand s ≤ t.plim then some (match t.rel with
    | some r => r + 16 * tPick s
    | none => 0) else none
  let s1 := modTrk g (fun t => { t with rel := rel, opened := t.opened && !decide (p < t.plim) }) s
  if (s.get MPPT_CURT_RELT : Nat) / 10 ≤ rel.getD (-1) then s1
  else if t.plim + cBand s < p then curtailUp g p s1
  else if p < t.plim - cBand s then
    modTrk g (fun t => { t with vref := some (ratMax t.vEnter (t.vref.getD (vStrMax s) - curtailStep s (t.plim - p))) }) s1
  else s1

/-- A cell enters CURTAIL with its V_ref (Table 11-1). -/
def enterCurtail (g : Nat) (s : State) : State :=
  setTrk g 3 (modTrk g (fun t => { t with scan := none, vEnter := t.vref.getD (vStrMax s), rel := none, opened := false }) s)

/-- The 16-pick check of one PV cell. The row TRACK to CURTAIL prevails over an update and over a scan's start of the same pick (R340). -/
def checkCell (g : Nat) (s : State) : State :=
  let t := trk s g
  let p := pIn s g
  let u := undoUpdate g s
  let track := (trkState u g == 2 && !rests u g) || (trkState s g == 4 && rests s g)
  let s1 :=
    if track then (if t.plim + cBand s < p then curtailUp g p (enterCurtail g u) else s)
    else if rests s g then s
    else if trkState s g = 3 then checkCurtail g p s
    else match t.scan with
      | some c =>
        if trkState s g = 4 && t.plim < c.pPre then
          let s1 := enterCurtail g (modTrk g (fun t => { t with vref := some c.vPre }) s)
          mpptEvent 1 2 (g / 64 * 8 + g % 64 / 8 + 32 * 4 + 256 * g) (s1.count MPPT_SCANABORT_COUNT)
        else s
      | none => s
  modTrk g (fun t => { t with p16 := 0, n16 := 0 }) s1

/-- With HIDE = 1, the deficit has exceeded the reserve by more than 2 % of rating for 16 picks in a row (R351).
(DESIGN CHOICE: log entry 99.) -/
def reserveCheck (s : State) : State :=
  if s.mppt.phase.isNone || !s.flag MPPT_CTL_HIDE then s
  else if s.mppt.reserve + sAvail s / 50 < s.mppt.deficit then
    if 1 ≤ s.mppt.short then abortScan 3 s else modMppt (fun m => { m with short := 1 }) s
  else modMppt (fun m => { m with short := 0 }) s

/-- `SIXTEEN_PICK_CHECK` (R344, R346, R353–R357): after the energy-loop step of the pick. -/
def sixteenCheck (s : State) : State :=
  let s1 := (storageCells s).foldl (fun s g => permitStep g s) s
  let s2 := splitExport s1
  let s3 := storageStatus (splitStorage s2.mppt.total s2)
  let s4 := (pvCells s3).foldl (fun s g =>
    let p := if active s3 g then plimOf s3 g else 36000
    (modTrk g (fun t => { t with plim := p }) s).put (MPPT_CW1_PLIM g) (lsbU 16 (p / 2))) s3
  let s5 := (pvCells s4).foldl (fun s g => checkCell g s) s4
  trkCounts (reserveCheck s5)

def execSixteenPickCheck (s : State) : Outcome State Fault Refusal :=
  run (fun s => if s.flag WEAVE_STAT_RUN && !s.flag WEAVE_STAT_FB && pickOf s % 16 = 0 then sixteenCheck s else s) s

/-- `CURTAIL_RELEASE` (Table 11-1): P_lim has stood at or above P_est + CBAND for RELT. -/
def execCurtailRelease (g : Nat) (s : State) : Outcome State Fault Refusal :=
  run (fun s =>
    if trkState s g = 3 && !rests s g && (s.get MPPT_CURT_RELT : Nat) / 10 ≤ (trk s g).rel.getD (-1) then
      setTrk g 2 (modTrk g (fun t => { t with rel := none, opened := false }) s)
    else s) s

end Sys2Proof.Machine
end

