-- ==== Sys2Proof/Machine/Carrier.lean ====
section
/-! DEFINITION. The load points and the carrier boundaries as commands (R281–R283, R299, R324). -/

namespace Sys2Proof.Machine

open Host (Outcome)

/-- `LOAD_POINT` (R283): the first loom clock after the TX heddle of pick B − 3, in the plan of the phase's cluster.
(DESIGN CHOICE: log entry 40.) -/
def execLoadPoint (ph : Nat) (s : State) : Outcome State Fault Refusal :=
  run (fun s =>
    if s.flag EDGE_STAT_RUN && ph < 3 && s.edge.nextB ≤ absPick s + 3 then loadPhase ph s else s) s

/-- `CARRIER_BOUNDARY` (R281): the counter returns to 0 at a pick boundary. Load points that have not come by then are taken now. The counter
runs on the period that phase A's load point has taken.
(DESIGN CHOICE: log entry 40.) (DESIGN CHOICE: log entry 43.) -/
def execCarrierBoundary (s : State) : Outcome State Fault Refusal :=
  run (fun s =>
    if !s.flag EDGE_STAT_RUN || absPick s != s.edge.nextB then s
    else
      let s0 := loadPhase 2 (loadPhase 1 (loadPhase 0 s))
      let b := s0.edge.nextB
      let old := s0.edge.now
      let new := s0.edge.coming
      let car := (comingOf s0 0).1
      let len := convLen s0 b car + s0.edge.ext
      let s1 : State := { s0 with edge := { s0.edge with nextB := b + len, ext := 0, now := new, loaded := [false, false, false] } }
      let s3 := (s1.put EDGE_STAT_CPC 0).put EDGE_STAT_PLEN len
      let s4 := delayFigures (boundaryPhase 2 (boundaryPhase 1 (boundaryPhase 0 s3)))
      let s4 := rampRestart 1 (List.range 16) s4
      let s5 := if old = new then s4 else edgeEvent70 0 1 (periodOf car) s4
      if s5.flag SYNC_CTL_OUTEN && s5.flag SYNC_CTL_OUTCAR then syncOut (if b % 4096 = 0 then 15 else 5) s5 else s5) s

end Sys2Proof.Machine
end

