-- ==== Sys2Proof/Machine/Permit.lean ====
section
/-! DEFINITION. The shutter permit at the F-die (R60–R67, R72): its edges, its loss, the shutter's opening and the yield. -/

namespace Sys2Proof.Machine

open Host (Outcome)

/-- The F-die is out of reset. -/
def fAwake (s : State) : Bool := s.pwr.f == .boot || s.pwr.f == .run

/-- `PERMIT_EDGE` (R61): an edge `dt` ns after the reference edge. An edge that is not valid, with the next valid one still within 2.0 µs
of the last, does not break the run of valid edges (R65; DESIGN CHOICE: log entry 137). -/
def permitEdge (dt : Nat) (s : State) : State :=
  if !fAwake s then s
  else if !s.permit.haveRef then { s with permit.haveRef := true }
  else if 350 ≤ dt && dt ≤ 650 then { s with permit.timing := true }.put SHUTTLE_F_STAT_PVALID 1
  else s

def execPermitEdge (dt : Nat) (s : State) : Outcome State Fault Refusal := run (permitEdge dt) s

/-- `PERMIT_TIMEOUT` (R62, R66): 2.0 µs since the last valid edge. -/
def permitTimeout (s : State) : State :=
  if !s.permit.timing then s
  else
    let s1 := ({ s with permit.timing := false }.put SHUTTLE_F_STAT_PVALID 0).put SHUTTLE_F_STAT_PSTABLE 0
    if s.flag SHUTTLE_F_STAT_SHUT then s1 else if canYield s then yieldCells s1 else closeShutter s1

def execPermitTimeout (s : State) : Outcome State Fault Refusal := run permitTimeout s

/-- `PERMIT_STABLE` (R65): valid edges for 1 ms. -/
def execPermitStable (s : State) : Outcome State Fault Refusal :=
  run (fun s => if s.permit.timing then s.put SHUTTLE_F_STAT_PSTABLE 1 else s) s

/-- A write of 1 to `SHUTCTL.REOPEN` (R65). Opening ends the forced GRID_OPEN; on a yielded unit, which has no connection state that holds
it, the pin is deasserted with that (R67). -/
def reopenWrite (s : State) : State :=
  if !s.flag SHUTTLE_F_STAT_PSTABLE then capture SHUTTLE_F_SHUTCTL_REOPEN.addr 3 s
  else if s.flag SHUTTLE_F_STAT_SHUT then
    let s1 := setEvt 0x051 0x10 (s.put SHUTTLE_F_STAT_SHUT 0)
    if s1.permit.forced then { s1 with permit := { s1.permit with forced := false }, pwr.gridOpen := some false } else s1
  else s

/-- A write of `SHUTCTL.YIELD` (R66, R72). -/
def yieldWrite (arm : Bool) (s : State) : State :=
  if arm && !s.weave.mode.testBit 0 then capture SHUTTLE_F_SHUTCTL_REOPEN.addr 3 s
  else s.putB SHUTTLE_F_STAT_YIELD arm

/-- A write of `SHUTTLE_F.SHUTCTL`. The word 0, which a safety demand sends (R461), reports the demand: it disarms the yield, and on a yielded
unit it asserts GRID_OPEN and sends block tokens (R67; log entry 58). -/
def shutctlWrite (w : Word) (s : State) : State :=
  let s1 := yieldWrite (w.getLsbD 1) s
  let s2 := if w.getLsbD 0 then reopenWrite s1 else s1
  let s3 := if w.toNat / 4 = 0 then s2 else capture SHUTTLE_F_SHUTCTL_REOPEN.addr 2 s2
  if w = 0 && s.permit.yielded then { rawTokens s3 with pwr.gridOpen := some true, permit := { s3.permit with forced := true } } else s3

/-- `REOPEN` (R65). -/
def execReopen (s : State) : Outcome State Fault Refusal := run reopenWrite s

/-- `YIELD` (R66). -/
def execYieldArm (arm : Bool) (s : State) : Outcome State Fault Refusal := run (yieldWrite arm) s

/-- `YIELD_EXPIRY` (R72): the 500 ms of the arming have run out. -/
def execYieldExpiry (s : State) : Outcome State Fault Refusal := run (fun s => s.put SHUTTLE_F_STAT_YIELD 0) s

end Sys2Proof.Machine
end

