-- ==== Sys2Proof/Machine/Security.lean ====
section
/-! DEFINITION. The security core and the lifecycle (R490–R504, R508, R509): quotes, owner certificate, tokens and transitions, fuse
programming, firmware update and restart. -/

namespace Sys2Proof.Machine

open Host (Outcome)

/-! ### Tokens (Table 17-6) -/

def tokWord (t : List Word) (i : Nat) : Nat := (t.getD i 0).toNat
def tokKind (t : List Word) : Nat := bitsAt (tokWord t 1) 16 8
def tokArg (t : List Word) : Nat := bitsAt (tokWord t 1) 24 8
def tokSec (t : List Word) : Nat := tokWord t 12 + 2 ^ 32 * (tokWord t 13 % 256)

/-- The class of the key named in a token's signature block: 1 = Usdenor image, 2 = owner, 3 = Usdenor lifecycle, 0 = another (R494).
(DESIGN CHOICE: log entry 21.) -/
def tokSigner (s : State) (t : List Word) : Nat := keyClass s ((t.drop 16).take 12)

/-- A token of a kind, for an argument, with a nonce, for this unit, whose signature verifies under a signer's class (R499). -/
def tokenOk (s : State) (t : List Word) (kind signer arg : Nat) (nonce : List Word) : Bool :=
  tokWord t 0 == 0x4E4B544C && tokWord t 1 % 2 ^ 16 == 1 && tokKind t == kind && tokArg t == arg &&
    tokWord t 2 + 2 ^ 32 * tokWord t 3 == s.sec.serial && (t.drop 4).take 8 == nonce &&
    tokSigner s t == signer && blockOk (bytesOf ((List.range 56).map fun i => t.getD i 0))

/-- Token n of the TOKEN window. -/
def windowToken (s : State) (n : Nat) : List Word := (List.range 56).map fun i => s.raw (LIFECYCLE_TOKEN_T (56 * n + i)).addr

/-- The nonce that reads from LCNONCE. -/
def lcNonce (s : State) : List Word := (List.range 8).map fun i => s.raw (LIFECYCLE_LCNONCE_N i).addr

/-! ### Wicket scopes -/

/-- Every Wicket scope closes (R506). -/
def closeScopes (s : State) : State := s.put WICKET_STAT_SCOPE 0

/-! ### Fuse programming (R500, R501) -/

/-- A refusal with a reason of Table 17-13 (R498). -/
def lcRefused (reason : Nat) (s : State) : State := raiseH 129 2 reason (setEvt 0x007 2 (s.put LIFECYCLE_STAT_REASON reason))

/-- Before a fuse word: FUSEOK must be 1, or programming pauses (R500). -/
def checkFuseok (s : State) : State :=
  if s.flag HTHERM_STAT_FUSEOK || s.flag LIFECYCLE_STAT_PAUSED then s
  else raiseH 129 3 1 (setEvt 0x007 4 (s.put LIFECYCLE_STAT_PAUSED 1))

/-- The transition takes effect (R502): the service session and the Wicket scopes close; the porter records it and mirrors the state.
(DESIGN CHOICE: log entry 31.) -/
def transitionEffect (old : Nat) (s : State) : State :=
  let new := fuseState s.sec.fuses
  let s1 := loadFuses { s with porter.lcMirror := new, sec.key := s.sec.key || new == 2 }
  let s2 := closeScopes (closeSession 6 s1)
  retain 8 (new + 8 * old) (raiseH 129 1 (new + 8 * old) (setEvt 0x007 1 s2))

/-- The erasures of Table 17-5 for a target: owner certificate, unit key. -/
def erasures (target : Nat) (s : State) : State :=
  if target = 5 || target = 6 then
    let s1 := { s with sec.certs := s.sec.certs.set 2 (0, []), sec.key := s.sec.key && target != 6 }
    (s1.put SECURITY_STAT_OWNCERT 0).putB SECURITY_STAT_KEY s1.sec.key
  else s

/-- Programming is over: the erasures are done, BUSY falls; a burn is journalled, and after one of a counter fuses and mirror are compared
(R515).
(DESIGN CHOICE: log entry 31.) -/
def jobDone (s : State) : State :=
  let s1 := match s.sec.job with
    | some j =>
      if j < 8 then erasures j s
      else
        let t := raiseH 129 4 (j - 8) s
        if j < 11 then compareMirror t else t
    | none => s
  loadFuses { (s1.put LIFECYCLE_STAT_BUSY 0).put LIFECYCLE_STAT_PAUSED 0 with sec := { s1.sec with tasks := [], job := none } }

/-- Start a programming sequence. -/
def startFuseJob (job : Nat) (tasks : List FuseTask) (s : State) : State :=
  let s1 := { s.put LIFECYCLE_STAT_BUSY 1 with sec := { s.sec with tasks := tasks, job := some job } }
  if tasks.isEmpty then jobDone s1 else checkFuseok s1

/-- One fuse word has been programmed. -/
def burnTask (t : FuseTask) (f : Fuses) : Fuses :=
  match t with
  | .copy w c => { f with words := f.words.modify w fun cs => cs.set c true }
  | .revoke => { f with revoke := true }
  | .hfw => { f with hfw := f.hfw + 1 }
  | .wfw => { f with wfw := f.wfw + 1 }
  | .ownWord i v => { f with ownKey := f.ownKey.modify i fun x => x ||| v }
  | .ownValid => { f with ownValid := true }
  | .pll v => { f with pll := f.pll ||| v }
  | .pllValid => { f with pllValid := true }

/-- `FUSE_WORD_BURNED` (R500, R501): a fuse word finishes; the next one starts, or pauses. -/
def execFuseWordBurned (s : State) : Outcome State Fault Refusal :=
  run (fun s =>
    match s.sec.tasks with
    | [] => s
    | t :: rest =>
      if s.flag LIFECYCLE_STAT_PAUSED then s
      else
        let old := fuseState s.sec.fuses
        let s1 := { s with sec := { s.sec with fuses := burnTask t s.sec.fuses, tasks := rest } }
        let s2 := if fuseState s1.sec.fuses = old then s1 else transitionEffect old s1
        if rest.isEmpty then jobDone s2 else checkFuseok s2) s

/-- `FUSEOK_TIMEOUT` (R500): FUSEOK has stayed 0 for 60 s; the request is abandoned with reason 0x5. -/
def execFuseokTimeout (s : State) : Outcome State Fault Refusal :=
  run (fun s =>
    if s.flag LIFECYCLE_STAT_PAUSED then
      let s1 := { (s.put LIFECYCLE_STAT_BUSY 0).put LIFECYCLE_STAT_PAUSED 0 with sec := { s.sec with tasks := [], job := none } }
      loadFuses (lcRefused 5 s1)
    else s) s

/-! ### Transitions (R498, Table 17-5) -/

/-- Tokens of a row of Table 17-5 as (KIND, signer's class); `none`: not in the table. -/
def rowTokens (frm dst : Nat) : Option (List (Nat × Nat)) :=
  match frm, dst with
  | 1, 2 => some [(1, 3)]
  | 2, 3 => some [(1, 3)]
  | 3, 4 => some [(3, 2)]
  | 4, 5 => some [(2, 2), (1, 3)]
  | 3, 6 => some [(3, 2)]
  | 4, 6 => some [(3, 2)]
  | 5, 6 => some [(1, 3)]
  | _, _ => none

/-- The check of a row against the tokens and preconditions; 0 = accepted, else the reason.
(DESIGN CHOICE: log entry 31.) -/
def rowCheck (s : State) (frm dst : Nat) : Nat :=
  match rowTokens frm dst with
  | none => 1
  | some ts =>
    let certs := 0 < (s.sec.certs.getD 0 (0, [])).1 && 0 < (s.sec.certs.getD 1 (0, [])).1
    if ts.any (·.2 == 2) && !ownerSet s.sec.fuses then 6
    else if !(List.range ts.length).all (fun i =>
        let k := ts.getD i (0, 0)
        tokenOk s (windowToken s i) k.1 k.2 dst (lcNonce s)) then 2
    else if (dst = 3 && !certs) || ((dst = 5 || dst = 6) && !s.flag SHUTTLE_H_STAT_FSHUT) then 3
    else 0

/-- Copies of a state word still to burn, then the owner-revoke word for RETURNED. -/
def transitionTasks (f : Fuses) (dst : Nat) : List FuseTask :=
  let cs := f.words.getD (dst - 2) []
  ((List.range 3).filter fun c => !cs.getD c false).map (fun c => FuseTask.copy (dst - 2) c) ++
    (if dst = 5 && !f.revoke then [.revoke] else [])

/-- A request for a transition to `to` (R498–R501).
(DESIGN CHOICE: log entry 31.) -/
def lifecycleRequest (dst : Nat) (s : State) : State :=
  let a := LIFECYCLE_REQ_GO.addr
  if s.flag LIFECYCLE_STAT_BUSY then drawNonce (capture a 3 s)
  else
    let f := s.sec.fuses
    let st := fuseState f
    let part := partialTarget f
    let again := dst = st && 2 ≤ dst && (!(transitionTasks f dst).isEmpty || (dst = 6 && s.sec.key) ||
      (5 ≤ dst && 0 < (s.sec.certs.getD 2 (0, [])).1))
    let reason :=
      if part ≠ 0 && dst ≠ part then 4
      else if again then ([1, 2, 3, 4, 5].map fun frm => rowCheck s frm dst).foldl (fun r x => if r = 0 || x = 0 then 0 else if x = 1 then r else x) 1
      else rowCheck s st dst
    if reason = 0 then drawNonce (startFuseJob dst (transitionTasks f dst) s)
    else drawNonce (lcRefused reason (capture a 3 s))

/-- A write of `LIFECYCLE.REQ` (R498). -/
def lifecycleReqWrite (w : Word) (s : State) : State :=
  let a := LIFECYCLE_REQ_GO.addr
  unlessLocked a (fun s =>
    let s1 := s.put LIFECYCLE_REQ_TARGET (bitsAt w.toNat 0 3)
    let s2 := if w.getLsbD 8 then lifecycleRequest (bitsAt w.toNat 0 3) s1 else s1
    if w &&& 0xFFFFFEF8#32 = 0 then s2 else capture a 2 s2) s

def execLifecycleReq (value : Word) (s : State) : Outcome State Fault Refusal := run (lifecycleReqWrite value) s

/-- Every burned 1 is also a 1 in the new value (R504). -/
def burnFits (old new : Word) : Bool := old &&& ~~~new == 0

/-- A write of `LIFECYCLE.BURN` (R500, R504, R515). -/
def burnWrite (w : Word) (s : State) : State :=
  let a := LIFECYCLE_BURN_WHAT.addr
  let what := bitsAt w.toNat 0 4
  let f := s.sec.fuses
  let st := fuseState f
  unlessLocked a (fun s =>
    if bitsAt w.toNat 16 16 ≠ 0xB5C3 || s.flag LIFECYCLE_STAT_BUSY then capture a 3 s
    else
      let s1 := s.put LIFECYCLE_BURN_WHAT what
      if what = 1 then (if f.hfw < s.sec.svn && f.hfw < 64 then startFuseJob 9 [.hfw] s1 else capture a 3 s1)
      else if what = 2 then (if f.wfw < s.warden.svn && f.wfw < 64 then startFuseJob 10 [.wfw] s1 else capture a 3 s1)
      else if what = 3 then
        let v := (List.range 12).map fun i => s.raw (LIFECYCLE_OWNKEYH_H i).addr
        if f.ownValid then capture a 1 s1
        else if st ≠ 3 then capture a 3 s1
        else if !(List.range 12).all (fun i => burnFits (f.ownKey.getD i 0) (v.getD i 0)) then lcRefused 4 (capture a 3 s1)
        else startFuseJob 11 ((List.range 12).map (fun i => FuseTask.ownWord i (v.getD i 0)) ++ [.ownValid]) s1
      else if what = 4 then
        let v := word (s.get LIFECYCLE_PLLPROF_D0_D2)
        if f.pllValid then capture a 1 s1
        else if st ≠ 2 && st ≠ 3 then capture a 3 s1
        else if !burnFits f.pll v then lcRefused 4 (capture a 3 s1)
        else startFuseJob 12 [.pll v, .pllValid] s1
      else capture a 3 s1) s

def execBurn (value : Word) (s : State) : Outcome State Fault Refusal := run (burnWrite value) s

/-! ### Quotes (R496) -/

/-- F-die reads of a quote: code, address, words. -/
def quoteReads : List (Nat × Nat × Nat) :=
  [(20, WEAVE_STAT_RUN.addr, 1), (21, (WEAVE_BANK_STATE 0).addr, 1), (22, (WEAVE_BANK_STATE 1).addr, 1)] ++
  (List.range 3).map (fun i => (23 + i, (WEAVE_HASH0_H (4 * i)).addr, 4)) ++
  (List.range 3).map (fun i => (26 + i, (WEAVE_HASH1_H (4 * i)).addr, 4)) ++
  (List.range 3).map (fun i => (29 + i, (WEAVE_FBHASH_H (4 * i)).addr, 4)) ++
  [(32, WARDEN_FWVER_VER.addr, 1)]

/-- A write of `SECURITY.QCTL` (R496). -/
def quoteGoWrite (w : Word) (s : State) : State :=
  let a := SECURITY_QCTL_GO.addr
  let st := fuseState s.sec.fuses
  if !w.getLsbD 0 then s
  else if s.flag SECURITY_STAT_QBUSY || st = 1 || st = 6 then capture a 3 s
  else
    let secs := s.clk.sec % 2 ^ 40
    let frac := s.clk.frac / 2 ^ 24 % 2 ^ 24
    let s2 : State := { (s.put SECURITY_STAT_QBUSY 1).put SECURITY_STAT_QDONE 0 with
      sec := { s.sec with nonce := (List.range 12).map (fun i => s.raw (SECURITY_NONCE_N i).addr)
                          qTime := (hSwarp s, word secs, word (secs / 2 ^ 32 + 256 * frac)), qItems := [], qFail := false } }
    quoteReads.foldl (fun s q => ownRead q.1 q.2.1 q.2.2 s) s2

def execQuoteGo (s : State) : Outcome State Fault Refusal := run (quoteGoWrite 1) s

/-- Words of an F-die item of the quote have returned. -/
def quoteWords (what : Nat) (ws : List Word) (s : State) : State :=
  if s.flag SECURITY_STAT_QBUSY then { s with sec := { s.sec with qItems := (what, ws) :: s.sec.qItems } } else s

/-- Free words: the numbers of the signature, and the hash of the warden's firmware, which no register of the F-die shows (log entry 25). -/
def freeWords (n : Nat) (s : State) : List Word × State :=
  (List.range n).foldl (fun (p : List Word × State) _ => let (w, s1) := freeWord p.2; (p.1 ++ [w], s1)) ([], s)

/-- Zeros. -/
def zeros (n : Nat) : List Word := List.replicate n 0

/-- `QUOTE_DONE` (R496, Table 17-3): the signature block names the unit key by its hash (R173, R490, R494).
(DESIGN CHOICE: log entry 25.) -/
def execQuoteDone (s : State) : Outcome State Fault Refusal :=
  run (fun s =>
    if !s.flag SECURITY_STAT_QBUSY then s
    else
      let q := s.sec
      let valid := !q.qFail && quoteReads.all fun r => (q.qItems.lookup r.1).isSome
      let item (k : Nat) : List Word := if valid then (q.qItems.lookup k).getD [] else []
      let fw := fun (k : Nat) (n : Nat) => if valid then item k ++ item (k + 1) ++ item (k + 2) else zeros n
      let stat := ((item 20).getD 0 0).toNat
      let b0 := ((item 21).getD 0 0).toNat
      let b1 := ((item 22).getD 0 0).toNat
      let fld (w : Nat) (f : Fld) : Nat := bitsAt w f.lo f.wd
      let weave := if valid then fld stat WEAVE_STAT_ACT + 2 * fld stat WEAVE_STAT_FB + 4 * fld b0 (WEAVE_BANK_STATE 0) +
        32 * fld b1 (WEAVE_BANK_STATE 1) else 0
      let flags := bit valid + 2 * s.get DEVICE_MODE_TWIN + 4 * s.get DEVICE_MODE_UNIT + 8 * s.get SEAL_STAT_PERMIT
      let (ww, s2) := freeWords 12 s
      let (sig, s4) := freeWords 24 s2
      let ws : List Word :=
        [0x51544B4E#32, 0x02500001#32, word (fuseState q.fuses + 256 * flags), q.qTime.1, q.qTime.2.1, q.qTime.2.2,
         word q.serial, word (q.serial / 2 ^ 32)] ++ q.nonce ++ q.fwHash ++ (if valid then ww else zeros 12) ++ fw 23 12 ++ fw 26 12 ++
        [word weave, word (effectiveCounter s 1 + 256 * effectiveCounter s 2), 0, 0] ++ fw 29 12 ++
        (if s.flag SAFETY_STAT_RECORD then q.recHash else zeros 12) ++ ownerHash q.fuses ++
        (List.range 12).map Config.identityHash ++ sig ++ zeros 4
      let s5 := (List.range 148).foldl (fun s i => s.put (SECURITY_QUOTE_Q i) (ws.getD i 0).toNat) s4
      raiseH 128 1 (bit valid) (setEvt 0x006 1 ((s5.put SECURITY_STAT_QBUSY 0).put SECURITY_STAT_QDONE 1))) s

/-! ### The owner certificate (R493) -/

/-- The length of a DER certificate, from its outer header.
(DESIGN CHOICE: log entry 21.) -/
def derLength (w : Word) : Nat :=
  if bitsAt w.toNat 0 16 = 0x8230 then bitsAt w.toNat 16 8 * 256 + bitsAt w.toNat 24 8 + 4 else 1024

/-- A write of `SECURITY.OWNCERT`. -/
def owncertWrite (w : Word) (s : State) : State :=
  let a := SECURITY_OWNCERT_KEY.addr
  let ws := (List.range 192).map fun i => (s.sec.ownBuf.lookup i).getD 0
  let len := derLength (ws.getD 0 0)
  if w = 0x0C5A#32 && fuseState s.sec.fuses = 3 && len ≤ 768 && ownerSet s.sec.fuses && Config.ownerCertOk ws (ownerHash s.sec.fuses) then
    { s.put SECURITY_STAT_OWNCERT 1 with sec.certs := s.sec.certs.set 2 (len, ws) }
  else capture a 3 s

def execOwncert (value : Word) (s : State) : Outcome State Fault Refusal := run (owncertWrite value) s

/-! ### Firmware update (R508, R509) -/

/-- Reads of PCIe agents that are outstanding complete with 0 (R509). -/
def completeZero (s : State) : State :=
  let gs := s.link.gathers.filter (·.tag != svcTag)
  gs.foldl (fun s g => emit (.pcie g.tag (g.words.map fun p => p.2.getD 0)) s) { s with link.gathers := [], link.reads := [] }

/-- Whether the standby slot may be activated, the YIELD of twin mode apart (R500, R508).
(DESIGN CHOICE: log entry 155.) -/
def mayActivate (s : State) : Bool :=
  s.get SECURITY_STAT_STBY == 2 && s.sec.fwTarget == 0 && !s.flag LIFECYCLE_STAT_BUSY &&
    (s.flag DEVICE_MODE_TWIN || s.flag SHUTTLE_H_STAT_FSHUT)

/-- The H-die restarts (R509): the porter records the activation, the permit stops, the pages return to their reset values, with which the
SEAL permit ends (R465), and the selector names the standby slot (R508). -/
def hRestart (s : State) : State :=
  let s1 := retain 9 (256 * (s.get SECURITY_FWSTBYV_VER % 2 ^ 24)) s
  let s2 := (hPagesReset true (completeZero s1)).put SHUTTLE_H_STAT_PERMIT 0
  let s3 := if s.flag SEAL_STAT_PERMIT then passSeal s2 else s2
  { s3 with pwr := { s3.pwr with h := .boot, restarting := true }, sec.sel := standbySlot s }

/-- ACTIVATE (R508). In twin mode the H-die first reads `SHUTTLE_F.STAT` in a READ_REQ of its own.
(DESIGN CHOICE: log entry 155.) -/
def activate (s : State) : State :=
  if s.flag DEVICE_MODE_TWIN then ownRead 33 SHUTTLE_F_STAT_SHUT.addr 1 s else hRestart s

/-- The answer to that read: with YIELD = 1 the restart begins, else ACTIVATE is refused.
(DESIGN CHOICE: log entry 155.) -/
def activateAnswer (ws : List Word) (s : State) : State :=
  if mayActivate s && (ws.getD 0 0).getLsbD SHUTTLE_F_STAT_YIELD.lo then hRestart s else capture SECURITY_FWCTL_VERIFY.addr 3 s

/-- Where the target's part of the flash begins and how long it is, in words (R507, R508). -/
def targetPart (s : State) (t : Nat) : Nat × Nat := if t = 0 then (slotBase (standbySlot s) / 4, 0x40000) else (recBase / 4, 0x400)

/-- A write of `SECURITY.FWCTL` (R500, R508). -/
def fwctlWrite (w : Word) (s : State) : State :=
  let a := SECURITY_FWCTL_VERIFY.addr
  unlessLocked a (fun s =>
    let verify := w.getLsbD 0
    let erase := w.getLsbD 2
    if (w.getLsbD 1 && !mayActivate s) || (erase && s.flag LIFECYCLE_STAT_BUSY) then capture a 3 s
    else
      let t := bit (w.getLsbD 3)
      let s1 := s.put SECURITY_FWCTL_TARGET t
      let s2 := if erase then
          let p := targetPart s t
          { s1.put SECURITY_STAT_STBY 0 with
            sec := { s1.sec with flash := s1.sec.flash.filter fun x => x.1 < p.1 || p.1 + p.2 ≤ x.1, fwCheck := none } }
        else s1
      let s3 := if verify then { s2 with sec.fwCheck := some t } else s2
      let s4 := if w &&& 0xFFFFFFF0#32 = 0 then s3 else capture a 2 s3
      if w.getLsbD 1 then activate s4 else s4) s

def execSecurityFwVerify (s : State) : Outcome State Fault Refusal :=
  run (fun s => fwctlWrite (word (1 + 8 * s.get SECURITY_FWCTL_TARGET)) s) s
def execSecurityFwActivate (s : State) : Outcome State Fault Refusal :=
  run (fun s => fwctlWrite (word (2 + 8 * s.get SECURITY_FWCTL_TARGET)) s) s
def execSecurityFwErase (s : State) : Outcome State Fault Refusal :=
  run (fun s => fwctlWrite (word (4 + 8 * s.get SECURITY_FWCTL_TARGET)) s) s

/-- `SECURITY_FWSTBY` (R508): the read-back and check of the target end. A record is checked as R463 checks it.
(DESIGN CHOICE: log entry 64.) -/
def execSecurityFwstby (s : State) : Outcome State Fault Refusal :=
  run (fun s =>
    match s.sec.fwCheck with
    | none => s
    | some t =>
      let fw := firmwareAt s (standbySlot s)
      let ok := if t = 0 then firmwareOk s 1 fw else recordOk s (recordAt s)
      let s1 := { s.put SECURITY_STAT_STBY (if ok then 2 else 3) with sec := { s.sec with fwCheck := none, fwTarget := t, stbySvn := fw.svn } }
      let s2 := if ok && t = 0 then s1.put SECURITY_FWSTBYV_VER fw.version else s1
      raiseH 128 2 (bit ok + 2 * t) (setEvt 0x006 2 s2)) s

/-- A write into the FW window (R508): word `i` of the 2 KiB block; the sealed-record sector has two blocks. -/
def fwWindowWrite (i : Nat) (w : Word) (s : State) : State :=
  let a := (SECURITY_FWWIN_D i).addr
  unlessLocked a (fun s =>
    let t := s.get SECURITY_FWCTL_TARGET
    let b := s.get SECURITY_FWADDR_BLOCK
    if t = 1 && 2 ≤ b then capture a 3 s
    else { s.put SECURITY_STAT_STBY 1 with
           sec := { s.sec with flash := setCell ((targetPart s t).1 + b * 512 + i) w 0xFFFFFFFF#32 s.sec.flash, fwCheck := none } }) s

/-- A write into the CERT window: the owner certificate while SEL = 2 in OWNER_OPEN (Table 17-13). -/
def certWindowWrite (i : Nat) (w : Word) (s : State) : State :=
  if s.get SECURITY_CERTSEL_SEL = 2 && fuseState s.sec.fuses = 3 then
    { s with sec := { s.sec with ownBuf := (i, w) :: s.sec.ownBuf.filter (·.1 != i) } }
  else capture (SECURITY_CERT_C i).addr 5 s

/-- A word of the CERT window, and `CERTSEL.LEN`. -/
def certWord (s : State) (i : Nat) : Word := (s.sec.certs.getD (s.get SECURITY_CERTSEL_SEL) (0, [])).2.getD i 0
def certLen (s : State) : Nat := (s.sec.certs.getD (s.get SECURITY_CERTSEL_SEL) (0, [])).1

/-- `H_DIE_RESTART_DONE` (R509): the restart completes with the image that the ROM verifies. -/
def execHDieRestartDone (s : State) : Outcome State Fault Refusal :=
  run (fun s => if s.pwr.restarting then hStart s else s) s

end Sys2Proof.Machine
end

