-- ==== Sys2Proof/Machine/Wicket.lean ====
section
/-! DEFINITION. The Wicket port (R505, R506): the TAP's instructions, challenges and responses, scopes. Service credentials (R503) are
judged here too, since they are tokens of the same kind. -/

namespace Sys2Proof.Machine

open Host (Outcome)

/-- Whether a scope is open: bit 0 = EXTEST, bit 1 = DEBUG; in WAFER they need no response (Table 17-7), and SCOPE does not show them.
(DESIGN CHOICE: log entry 169.) -/
def scopeOpen (s : State) (b : Nat) : Bool := fuseState s.sec.fuses == 1 || (s.get WICKET_STAT_SCOPE).testBit b

/-- EXTEST drives the balls of the H-die and the D-die: the instruction is in effect and its scope is open (R505). -/
def extestDrives (s : State) : Bool := s.sec.ir == 0 && scopeOpen s 0

/-- The signers whose response opens scopes in a lifecycle state (Table 17-7).
(DESIGN CHOICE: log entry 169.) -/
def wicketSigner (s : State) (c : Nat) : Bool :=
  match fuseState s.sec.fuses with
  | 2 => c == 1 || c == 3
  | 3 => c == 1 || c == 3 || c == 2
  | 5 => c == 1 || c == 3
  | _ => false

/-- A scan of the boundary register: the captured pins leave, and what is shifted in stands there after Update-DR. The spec gives the
register no length; the captured word is sent with length 0.
(DESIGN CHOICE: log entry 169.) -/
def boundaryScan (ir pins preload : Nat) (s : State) : State :=
  emit (.tap pins 0) { s with sec := { s.sec with ir := ir, boundary := preload } }

/-- `EXTEST` (R505): the boundary register drives the balls while the scope is open; otherwise the instruction acts as SAMPLE/PRELOAD. -/
def execExtest (pins preload : Nat) (s : State) : Outcome State Fault Refusal :=
  run (fun s =>
    let s1 := boundaryScan 0 pins preload s
    if extestDrives s1 then emit (.balls preload) s1 else s1) s

/-- `SAMPLE/PRELOAD` (R505). -/
def execSamplePreload (pins preload : Nat) (s : State) : Outcome State Fault Refusal := run (boundaryScan 2 pins preload) s

/-- `IDCODE` (Table 17-8).
(DESIGN CHOICE: log entry 169.) -/
def execIdcode (s : State) : Outcome State Fault Refusal :=
  run (fun s =>
    emit (.tap (0xB * 2 ^ 28 + 0x0192 * 2 ^ 12 + 2 * Config.wicketMaker.toNat + 1) 32) { s with sec := { s.sec with ir := 1 } }) s

/-- `CHALLENGE` (R505): a fresh random challenge at Capture-DR.
(DESIGN CHOICE: log entry 3.) -/
def execChallenge (s : State) : Outcome State Fault Refusal :=
  run (fun s =>
    let (ws, s1) := freeWords 8 s
    let v := (ws.reverse).foldl (fun n w => n * 2 ^ 32 + w.toNat) 0
    emit (.tap v 256) { s1 with sec := { s1.sec with ir := 0x10, challenge := some ws } }) s

/-- A response that fails (R506): the third locks the port until H-die reset. -/
def wicketFail (s : State) : State :=
  let n := min (s.get WICKET_STAT_FAILS + 1) 3
  let s1 := (s.put WICKET_STAT_FAILS n).count WICKET_CNT_FAILTOT
  let s2 := raiseH 131 2 n (setEvt 0x008 2 s1)
  if n = 3 then raiseH 131 3 0 (s2.put WICKET_STAT_LOCKOUT 1) else s2

/-- `RESPONSE` (R506): the token at Update-DR, 56 words. -/
def execResponse (token : List Word) (s : State) : Outcome State Fault Refusal :=
  run (fun s =>
    let s0 := { s with sec := { s.sec with ir := 0x11, challenge := none } }
    if s.flag WICKET_STAT_LOCKOUT then s0
    else
      let arg := tokArg token
      let c := tokSigner s token
      let ok := match s.sec.challenge with
        | some ch => tokenOk s token 5 c arg ch && wicketSigner s c
        | none => false
      let sc := arg % 4
      if s.flag WICKET_STAT_DISABLED || !ok || (sc != 0 && !s.flag SHUTTLE_H_STAT_FSHUT) then wicketFail s0
      else if sc = 0 then s0
      else
        let s1 := s0.put WICKET_STAT_SCOPE (s0.get WICKET_STAT_SCOPE ||| sc)
        let s2 := s1.addSat WICKET_CNT_OPENS (sc % 2 + sc / 2)
        retain 0xD sc (raiseH 131 1 sc (setEvt 0x008 1 s2))) s

/-- `WSTATUS` (R505). -/
def execWstatus (s : State) : Outcome State Fault Refusal :=
  run (fun s => emit (.tap (s.raw WICKET_STAT_SCOPE.addr).toNat 32) { s with sec := { s.sec with ir := 0x12 } }) s

/-- `BYPASS` (R505): one bit, captured as 0. -/
def execBypass (s : State) : Outcome State Fault Refusal :=
  run (fun s => emit (.tap 0 1) { s with sec := { s.sec with ir := 0x3F } }) s

/-- `TRST_LOW` (R506): every scope closes, and the TAP is reset to IDCODE. -/
def execTrstLow (s : State) : Outcome State Fault Refusal :=
  run (fun s => closeScopes { s with sec := { s.sec with ir := 1, challenge := none } }) s

/-- A write of `WICKET.CTL` (R506). -/
def wicketCtlWrite (w : Word) (s : State) : State :=
  let a := WICKET_CTL_CLOSE.addr
  unlessLocked a (fun s =>
    let s1 := if w.getLsbD 0 then closeScopes s else s
    let s2 := if w.getLsbD 1 then (s1.put WICKET_CTL_DISABLE 1).put WICKET_STAT_DISABLED 1 else s1
    if w &&& 0xFFFFFFFC#32 = 0 then s2 else capture a 2 s2) s

def execWicketClose (s : State) : Outcome State Fault Refusal := run (wicketCtlWrite 1) s
def execWicketDisable (s : State) : Outcome State Fault Refusal := run (wicketCtlWrite 2) s

/-! ### Service sessions (R450, R503) -/

/-- The signer of the credential that a level needs in a lifecycle state: `some 0` = none is needed, `none` = not granted (Table 17-7).
(DESIGN CHOICE: log entry 169.) -/
def levelNeeds (state level : Nat) : Option (List Nat) :=
  if level = 1 then some []
  else if level = 2 then
    match state with
    | 1 => some []
    | 2 => some [1, 3]
    | 3 => some []
    | 4 => some [2]
    | 5 => some [1, 3]
    | _ => none
  else if level = 3 then
    match state with
    | 1 => some []
    | 2 => some [1, 3]
    | 3 => some [1, 3]
    | 5 => some [1, 3]
    | _ => none
  else none

/-- A credential is accepted (R503): a token of KIND 0x4 whose nonce is 0. -/
def credentialOk (s : State) (level : Nat) (signers : List Nat) (t : List Word) : Bool :=
  let sec := tokSec t
  let c := tokSigner s t
  signers.contains c && tokenOk s t 4 c level (zeros 8) && s.flag TIME_STAT_VALID &&
    sec ≤ s.clk.sec + 300 && s.clk.sec ≤ sec + 300 && (match s.svc.lastSec with
      | some l => l < sec
      | none => true)

/-- An OPEN request (R450): the session opens at the level, or it is denied.
(DESIGN CHOICE: log entry 34.) -/
def openSession (level : Nat) (cred : List Word) (s : State) : State :=
  let denied (s : State) : State := raiseH 106 4 level (svcAnswer 2 (s.count SERVICE_SESS_DENIED))
  if s.flag SERVICE_STAT_SESS then svcAnswer 2 (s.count SERVICE_SESS_DENIED)
  else
    match levelNeeds (fuseState s.sec.fuses) level with
    | none => denied s
    | some signers =>
      if !signers.isEmpty && !credentialOk s level signers cred then denied s
      else
        let s0 := if signers.isEmpty then s else { s with svc := { s.svc with lastSec := some (tokSec cred) } }
        let s1 := ((s0.put SERVICE_STAT_SESS 1).put SERVICE_STAT_LEVEL level).count SERVICE_CNT_SESSIONS
        svcAnswer 0 (raiseH 106 2 level (setEvt 0x012 4 s1))

end Sys2Proof.Machine
end

