-- ==== Sys2Proof/Machine/Porter.lean ====
section
/-! DEFINITION. The porter (R510–R514): its sources, the harvester, the battery, the trim of its RTC, and the door watch. Its commands carry
the seconds that have passed on its RTC since the command before. -/

namespace Sys2Proof.Machine

open Host (Outcome)

/-- Seconds pass on the porter's RTC.
(DESIGN CHOICE: log entry 14.) -/
def rtcAdvance (elapsed : Nat) (s : State) : State :=
  if s.porter.on then { s with porter.rtc := (s.porter.rtc + elapsed) % 2 ^ 40 } else s

/-- An event of source 130, raised while the H-die runs (R510, R512). -/
def porterEvent (bitNo code data : Nat) (s : State) : State :=
  if s.pwr.h = .run then raiseH 130 code data (setEvt 0x020 (2 ^ bitNo) s) else s

/-- `PORTER_SOURCE_CHANGE` (R510): the highest-priority source that qualifies is now `src` (1 = MAIN, 2 = HARV, 3 = BAT); `vsto` is
PORT_VSTO in mV. -/
def execPorterSourceChange (src vsto elapsed : Nat) (s : State) : Outcome State Fault Refusal :=
  run (fun s =>
    let old := s.get PORTER_STAT_SRC
    if !s.porter.on || src = 0 || 4 ≤ src || src = old then rtcAdvance elapsed s
    else
      let v := min (vsto / 2) 4095
      let s1 := ((rtcAdvance elapsed s).put PORTER_STAT_SRC src).count PORTER_STAT_CHANGES
      let s2 := { s1.put PORTER_VMEAS_VSTO v with porter.doors := if src = 1 then none else s1.porter.doors }
      porterEvent 0 1 (src + 4 * old) (retain 2 (src + 4 * old + 16 * v) s2)) s

/-- `PORTER_STOP` (R510): no source qualifies. -/
def execPorterStop (elapsed : Nat) (s : State) : Outcome State Fault Refusal :=
  run (fun s => if s.porter.on then { (rtcAdvance elapsed s).put PORTER_STAT_SRC 0 with porter.on := false } else s) s

/-- `PORTER_RESTART` (R510, R513, R517): a source qualifies again. The RTC is not valid, and the registers marked "porter" return to
their reset values; the retained journal goes on.
(DESIGN CHOICE: log entry 30.) -/
def execPorterRestart (src vsto : Nat) (s : State) : Outcome State Fault Refusal :=
  run (fun s =>
    if s.porter.on || src = 0 || 4 ≤ src then s
    else
      let s1 := ([PORTER_STAT_SRC.addr, PORTER_CTL_DWEN.addr, PORTER_RTCTRIM_TRIM.addr, PORTER_RJOVWR_COUNT.addr,
        PORTER_RJREAD_SEQ.addr, PORTER_VMEAS_VBAT.addr]).foldl (fun s a => s.setRaw a (resetWord a)) s
      let s2 := (s1.put PORTER_STAT_SRC src).put PORTER_VMEAS_VSTO (min (vsto / 2) 4095)
      retain 1 0 { s2 with porter := { s2.porter with on := true, rtc := 0, doors := none, doorsSeen := 0, ticks := 0, trim := 0 } }) s

/-- `HARVEST_SAMPLE` (R511): every 16 s the open-circuit voltage of HARV_IN is sampled; above 1.8 V on PORT_VSTO the boost converter
draws at 80 % of it, and it charges to 4.10 V at most. -/
def execHarvestSample (voc vsto elapsed : Nat) (s : State) : Outcome State Fault Refusal :=
  run (fun s =>
    let v := min vsto 4100
    let s1 := (rtcAdvance elapsed s).put PORTER_VMEAS_VSTO (v / 2)
    let draws := 330 ≤ voc && voc ≤ 5000 && 1800 ≤ v && v < 4100
    { s1 with porter.vdraw := if draws then voc * 4 / 5 else 0 }) s

/-- `BATTERY_MEASURE` (R512): VBAT_P in mV under its load. -/
def execBatteryMeasure (mv elapsed : Nat) (s : State) : Outcome State Fault Refusal :=
  run (fun s =>
    if !s.porter.on then s
    else
      let v := min mv 4095
      let st := if mv < 1500 then 2 else if mv < 2300 then 1 else 0
      let s1 := (rtcAdvance elapsed s).put PORTER_VMEAS_VBAT v
      if s1.get PORTER_STAT_BAT = st then s1
      else porterEvent 1 2 st (retain 3 (st + 16 * v) (s1.put PORTER_STAT_BAT st))) s

/-- `RTC_TRIM` (R513): every 64 s ticks are added or dropped, 0.1 ppm per LSB of the ticks of 64 s; parts of a tick are carried. -/
def execRtcTrim (elapsed : Nat) (s : State) : Outcome State Fault Refusal :=
  run (fun s =>
    if !s.porter.on then s
    else
      let s1 := rtcAdvance elapsed s
      let x : Rat := s1.porter.trim + (s1.getI PORTER_RTCTRIM_TRIM : Int) * 2097152 / (10000000 : Rat)
      let t : Int := s1.porter.ticks + x.floor
      let secs : Int := t / 32768
      { s1 with porter := { s1.porter with trim := x - x.floor, ticks := t % 32768,
                                           rtc := (((s1.porter.rtc : Int) + secs) % 2 ^ 40).toNat } }) s

/-- `DOOR_WATCH` (R514): a sample of the watched doors, bit i = DOOR_i closed. A door's change seen at two samples in a row is retained; the
first sample at which a door is watched is what its changes are measured from.
(DESIGN CHOICE: log entry 30.) -/
def execDoorWatch (levels elapsed : Nat) (s : State) : Outcome State Fault Refusal :=
  run (fun s =>
    if !s.porter.on || s.get PORTER_STAT_SRC = 1 || !s.flag PORTER_CTL_DWEN then { rtcAdvance elapsed s with porter.doors := none }
    else
      let s1 := rtcAdvance elapsed s
      let m := s.get PORTER_CTL_DWMASK
      let c := levels &&& m
      let p := s1.porter
      match p.doors with
      | none => { s1 with porter := { p with doors := some c, doorsSeen := c, doorsMask := m } }
      | some d0 =>
        let old := fun x => (x &&& m &&& p.doorsMask) ||| (c &&& (m ^^^ (m &&& p.doorsMask)))
        let d := old d0
        let x := (c ^^^ d) &&& (old p.doorsSeen ^^^ d)
        let s2 : State := { s1 with porter := { p with doors := some (d ^^^ x), doorsSeen := c, doorsMask := m } }
        if x = 0 then s2 else retain 4 ((d ^^^ x) + 16 * m) s2) s

end Sys2Proof.Machine
end

