-- ==== Sys2Proof/Machine/Intc.lean ====
section
/-! DEFINITION. The interrupt controller's commands (R96–R107): claims and completions, the alias registers, output modes, source
configuration, and the WARDEN target. -/

namespace Sys2Proof.Machine

open Host (Outcome)

/-- A source that Table 3-18 lists. -/
def isSource (n : Nat) : Bool := levelSource n || edgeSource n

/-- R100: the read of a target's `CLAIM`: the winner, its pending bit cleared and its active bit set; 0 when there is none. The WARDEN
and SECURE targets read 0 (R105). -/
def claimRead (t : Nat) (s : State) : Word × State :=
  let n := winner s t
  if 2 ≤ t || n = 0 then (0, s) else (word n, (s.put (pendBit n) 0).put (activeBit n) 1)

/-- `CLAIM`. -/
def execClaim (target : Nat) (s : State) : Outcome State Fault Refusal :=
  run (fun s => let (w, s1) := claimRead target s; emit (.read [w]) s1) s

/-- The address of `COMPLETE_t`. -/
def completeAddr (t : Nat) : Nat := 0x1044 + 0x10 * t

/-- A write of `COMPLETE_t` (R99–R101): the source's active bit is cleared; a level source whose level is still asserted becomes pending
again. Refused with cause 0x3 when the source is not active for that target, and on the WARDEN and SECURE targets. -/
def completeWrite (t : Nat) (w : Word) (s : State) : State :=
  let n := bitsAt w.toNat 0 8
  if 2 ≤ t || !s.flag (activeBit n) || s.get (INTC_0_SRCCFG_TARGET n) != t then capture (completeAddr t) 3 s
  else
    let s1 := s.put (activeBit n) 0
    let s2 := if levelSource n && s.intc.level.contains n then s1.put (pendBit n) 1 else s1
    let s3 := announce s n s2
    if w.toNat / 256 = 0 then s3 else capture (completeAddr t) 2 s3

/-- `COMPLETE`. -/
def execComplete (target : Nat) (value : Word) (s : State) : Outcome State Fault Refusal := run (completeWrite target value) s

/-- The sources 32·w to 32·w + 31 that satisfy `p`, as a mask. -/
def sourceMask (w : Nat) (p : Nat → Bool) : Word :=
  (List.range 32).foldl (fun m i => if p (32 * w + i) then m ||| word (2 ^ i) else m) 0

/-- `PENDSET` (R99, R103): 1 bits set pending bits of edge sources; unused numbers and level sources are ignored. -/
def pendsetWrite (idx : Nat) (w : Word) (s : State) : State :=
  let a := 0x2040 + 4 * idx
  announceAll s (s.setRaw a (s.raw a ||| (w &&& sourceMask idx edgeSource)))

/-- `PENDCLR`: 1 bits clear pending bits of edge sources. -/
def pendclrWrite (idx : Nat) (w : Word) (s : State) : State :=
  let a := 0x2040 + 4 * idx
  s.setRaw a (s.raw a &&& ~~~(w &&& sourceMask idx edgeSource))

/-- A plain write of `PENDw`: the pending bits of edge sources take the written bits (R99, R103). -/
def pendWrite (idx : Nat) (w : Word) (s : State) : State :=
  let a := 0x2040 + 4 * idx
  let m := sourceMask idx edgeSource
  announceAll s (s.setRaw a ((s.raw a &&& ~~~m) ||| (w &&& m)))

/-- The mask bits that the host can write: those of numbers that are not SECURE-target ("Host writes to mask bits of SECURE-target
sources are ignored"). Numbers that Table 3-18 does not list have mask bits too. -/
def hostMaskable (s : State) (idx : Nat) : Word := sourceMask idx fun n => n != 0 && s.get (INTC_0_SRCCFG_TARGET n) != 3

/-- `MASKSET`: 1 bits set mask bits. -/
def masksetWrite (idx : Nat) (w : Word) (s : State) : State :=
  let a := 0x20A0 + 4 * idx
  s.setRaw a (s.raw a ||| (w &&& hostMaskable s idx))

/-- `MASKCLR`: 1 bits clear mask bits. -/
def maskclrWrite (idx : Nat) (w : Word) (s : State) : State :=
  let a := 0x20A0 + 4 * idx
  announceAll s (s.setRaw a (s.raw a &&& ~~~(w &&& hostMaskable s idx)))

/-- A plain write of `MASKw`. -/
def maskWrite (idx : Nat) (w : Word) (s : State) : State :=
  let a := 0x20A0 + 4 * idx
  let m := hostMaskable s idx
  announceAll s (s.setRaw a ((s.raw a &&& ~~~m) ||| (w &&& m)))

/-- A 1 written to source 0, which is RSV in word 0, is captured with cause 0x2 after the rest has been applied. -/
def rsv0 (a idx : Nat) (w : Word) (s : State) : State := if idx = 0 && w.getLsbD 0 then capture a 2 s else s

def execPendset (idx : Nat) (value : Word) (s : State) : Outcome State Fault Refusal :=
  run (fun s => rsv0 (0x2060 + 4 * idx) idx value (pendsetWrite idx value s)) s

def execPendclr (idx : Nat) (value : Word) (s : State) : Outcome State Fault Refusal :=
  run (fun s => rsv0 (0x2080 + 4 * idx) idx value (pendclrWrite idx value s)) s

def execMaskset (idx : Nat) (value : Word) (s : State) : Outcome State Fault Refusal :=
  run (fun s => rsv0 (0x20C0 + 4 * idx) idx value (masksetWrite idx value s)) s

def execMaskclr (idx : Nat) (value : Word) (s : State) : Outcome State Fault Refusal :=
  run (fun s => rsv0 (0x20E0 + 4 * idx) idx value (maskclrWrite idx value s)) s

/-- `OUTCFG_t` (R104): the write under its lock group; when MODE of HOST_A or HOST_B goes from pin to MSI-X, one message leaves for every
source deliverable to the target, in source-number order. -/
def outcfgWrite (t : Nat) (w : Word) (s : State) : State :=
  let a := 0x104C + 0x10 * t
  if 2 ≤ t then (if w = 0 then s else capture a 2 s)
  else
    let s1 := writeReg a w s
    if !s.flag (INTC_0_OUTCFG_MODE t) && s1.flag (INTC_0_OUTCFG_MODE t) then
      (List.range 256).foldl (fun s n => if deliverable s n && s.get (INTC_0_SRCCFG_TARGET n) = t then sendMsix n s else s) s1
    else s1

def execOutcfgWrite (target : Nat) (value : Word) (s : State) : Outcome State Fault Refusal := run (outcfgWrite target value) s

/-- `SRCCFG[n]` (R106): sources 128 and 129 are in lock group 15; a write that changes TARGET of an active source is refused with cause
0x3; a pending bit moves with its source. -/
def srccfgWrite (n : Nat) (w : Word) (s : State) : State :=
  let a := 0x1400 + 4 * n
  if n = 128 || n = 129 then capture a 1 s
  else if s.flag (activeBit n) && bitsAt w.toNat 0 2 != s.get (INTC_0_SRCCFG_TARGET n) then capture a 3 s
  else announce s n (writeReg a w s)

def execSrccfgWrite (src : Nat) (value : Word) (s : State) : Outcome State Fault Refusal := run (srccfgWrite src value) s

/-- One register clock of the WARDEN target (R105): the winner is claimed, its number is queued to `WARDEN.IRQIN`, and the claim is
completed. A level source is held; with its frame dropped (R55) until the F-die can be reached, else until its level has dropped. -/
def wardenPass (s : State) : State :=
  let n := winner s 2
  if n = 0 then s
  else
    let s1 := postWrite WARDEN_IRQIN_SRC.addr [word n] (s.put (pendBit n) 0)
    if !levelSource n then s1
    else
      let i := s1.intc
      let d := if reachable s 0x52 then i.dropped else insertNat n i.dropped
      { s1 with intc := { i with held := insertNat n i.held, dropped := d } }

/-- `WARDEN_TARGET_PASS`. -/
def execWardenTargetPass (s : State) : Outcome State Fault Refusal := run wardenPass s

end Sys2Proof.Machine
end

