-- ==== Sys2Proof/Machine/Pick.lean ====
section
/-! DEFINITION. The pick boundary (R115): INC takes effect, and the work that the hardware and the clusters do once in every pick. -/

namespace Sys2Proof.Machine

open Host (Outcome)

/-- The comparators take the samples of their inputs that the pick had left up to its end (R394–R396).
(DESIGN CHOICE: log entry 100.) -/
def samplePick (inputs : List (List Int)) (s : State) : State := (List.range 16).foldl (fun s n => sampleCmp n (inputs.getD n []) s) s

/-- R398: word 3,872 takes the filtered outputs and the latches. The ramps that restart at each pick boundary start again (R394). -/
def comparatorWord (s : State) : State := putResult 3872 (s.raw FCMP_STAT_FOUT.addr) (rampRestart 0 (List.range 16) s)

/-- A change of band reaches the lanes' transmit preset (R424). -/
def presetPick (s : State) : State :=
  if !s.heat.presetPend then s
  else
    let b := s.get FTHERM_STAT_BAND
    let s1 := { s with heat.presetPend := false }
    if s1.get CLOCK_EQ_PRESET = b then s1 else (s1.put CLOCK_EQ_PRESET b).count CLOCK_EQ_CHANGES

/-- Collect bursts leave at loom clock 0 (R257). -/
def collectPick (s : State) : State := (List.range 6).foldl (fun s l => if laneSends s l then sendCollect l s else s) s

/-- The carrier counter advances; `CARRIER_BOUNDARY` returns it to 0 (R281). -/
def carrierPick (s : State) : State := if s.flag EDGE_STAT_RUN then s.put EDGE_STAT_CPC (s.get EDGE_STAT_CPC + 1) else s

/-- SYNC_OUT at angle zero, unless the carrier boundary of the same pick reports both (R300). -/
def syncPick (s : State) : State :=
  let both := s.flag EDGE_STAT_RUN && s.edge.nextB == absPick s && s.flag SYNC_CTL_OUTCAR
  if s.flag SYNC_CTL_OUTEN && pickOf s = 0 && !both then syncOut 10 s else s

/-- The watchdog's factor moves by one pick at its rate (R556). After a release of HELD it returns to 1 from connection on (R94). -/
def watchdogPick (s : State) : State :=
  let w0 := s.wdog
  let w := if !w0.ramping && w0.fState = 0 && w0.factor < 1 && 4 ≤ cstate s then { w0 with ramping := true, falling := false } else w0
  if !w.ramping then s
  else
    let d := w.rate * tPick s
    { s with wdog := { w with factor := if w.falling then ratMax 0 (w.factor - d) else ratMin 1 (w.factor + d) } }

/-- The rings and the twin link at a boundary: the ended pick's ownership, its changes, the yield, the twin burst, the presets, the collect bursts. -/
def ringPick (s : State) : State := yieldPick (collectPick (presetPick (twinPick (applyOwners (ringBegin s)))))

/-- The clusters' picks: the old one ends, and the new one starts, unless a fallback or a switch takes effect at this boundary; then the
clusters wait for its command, which starts them (R166, R180). -/
def clustersPick (s : State) : State :=
  let s1 := if s.flag WEAVE_STAT_RUN then clusterEnd 3 (clusterEnd 2 (clusterEnd 1 (clusterEnd 0 s))) else s
  let s2 := if s1.weave.starting then imageStart s1 else s1
  if s2.weave.fbPend.isSome || (pickOf s2 = 0 && s2.weave.due.isSome) then { s2 with weave.deferred := true }
  else if s2.flag WEAVE_STAT_RUN then startClusters s2
  else s2

/-- Cluster P's angle work: the tracker, the quantities of the pick and the ride-through event, then the steering and LOCK, which act on a
hold from the pick in which the event begins (R122–R130, R360–R367).
(DESIGN CHOICE: log entry 68.) -/
def anglePick (s : State) : State :=
  let s1 := gridQuantities (trackPick (vTrack s 0) (vTrack s 1) (vTrack s 2) s)
  lockPick (steerPick (if s1.flag WEAVE_STAT_FB then s1 else rtPick s1))

/-- Cluster P's other grid functions: excursions, trip timers, connection (R366–R381).
(DESIGN CHOICE: log entry 68.) -/
def gridPick (s : State) : State := connectPick (tripPick (excursion s))

/-- The control law of a pick, which runs while an image or the fallback runs: the phase clusters with what cluster P committed in the pick
before (R310), then cluster P, unless the reed has stopped it (R168).
(DESIGN CHOICE: log entry 68.) -/
def lawPick (s : State) : State :=
  if !s.flag WEAVE_STAT_RUN then s
  else
    let s1 := phasesPick (learnCycle (seePick s))
    if s1.weave.stopped.getD 3 false then fallbackPick s1
    else mpptPick (curPick (fallbackPick (islPick (gridPick (anglePick s1)))))

/-- What holds from the boundary on: the block control of the pick's downlinks (R168), flags that hardware sets from now on (R33), the GATE
heddle that has yet to come (R145), and each cluster's RXDONE (R158). -/
def latchPick (s : State) : State :=
  { s with pwr.blockOn := blockDemand s, link.evNow := [], link.gated := false, clu := s.clu.map fun x => { x with rxDone := false } }

/-- `PICK_BOUNDARY` (R115): the warp's pick field changes. `inputs` are the samples of each comparator's input up to the boundary (R394, R395).
(DESIGN CHOICE: log entry 68.) -/
def pickBoundary (inputs : List (List Int)) (s : State) : State :=
  if !s.warp.running then s
  else
    let s1 := latchPick (applyInc (passPick (lossPick (controlled (samplePick inputs s)))))
    let s2 := rangePick s1.warp.lenPrev (comparatorWord (corrected (blankPick s1.warp.lenPrev s1)))
    let s3 := clustersPick (mpptClock (ringPick (carrierPick s2)))
    syncPick (meterPick (watchdogPick (lawPick s3)))

/-- `PICK_BOUNDARY` (R115). (DEDUCED: log entry 12.) -/
def execPickBoundary (inputs : List (List Int)) (s : State) : Outcome State Fault Refusal := run (pickBoundary inputs) s

end Sys2Proof.Machine
end

