-- ==== Sys2Proof/Machine/Time.lean ====
section
/-! DEFINITION. Wall-clock time on the H-die (R131–R137) and the triggers of the angle-time latch (R138). Times are in 2^-48 s inside
the clock and 2^-32 s in the commands. -/

namespace Sys2Proof.Machine

open Host (Outcome)

/-- The clock advances by `dt` (2^-32 s of the 25 MHz reference) × (1 + RATE).
(DESIGN CHOICE: log entry 49.) -/
def clockAdvance (dt : Nat) (s : State) : State :=
  let t := dt * 65536
  let add := (t : Int) + ((t : Rat) * s.clk.rate / 1000000000).floor
  let tot := s.clk.frac + add.toNat
  { s with clk := { s.clk with sec := (s.clk.sec + tot / 2 ^ 48) % 2 ^ 40, frac := tot % 2 ^ 48,
                               edgeAge := s.clk.edgeAge.map (· + dt), cal := s.clk.cal.map (· + dt) } }

/-- The wall clock takes a value. The marks of the warp image move with it, so that the image, a line through them over the wall clock, runs on
unbroken (R131, R140).
(DEDUCED: log entry 165.) -/
def setClock (sec frac : Nat) (s : State) : State :=
  let d : Int := ((sec * 2 ^ 48 + frac : Nat) : Int) - clockNow s
  { s with clk := { s.clk with sec := sec, frac := frac, marks := s.clk.marks.map fun m => (m.1, m.2 + d) } }

/-- `TMDLY.AGE`: whole seconds since the last calibration, saturating (Table 2-16); 0 before the first. -/
def calAge (s : State) : Nat := min ((s.clk.cal.getD 0) / 2 ^ 32) 0xFFFF

/-- RATE in ppb, held within ±200 ppm, and its register (R135). -/
def setRate (r : Rat) (s : State) : State :=
  let r := ratClamp (-200000) 200000 r
  { s with clk.rate := r }.putI TIME_RATE_RATE (lsb r)

/-- A change of the discipline source (R133).
(DEDUCED: log entry 13.) -/
def setSrc (n : Nat) (s : State) : State :=
  let o := s.get TIME_STAT_SRC
  if o = n then s
  else
    let s1 := raiseH 4 2 (n + 4 * o) (setEvt 0x005 2 (s.put TIME_STAT_SRC n))
    if n = 0 then setRate 0 s1 else s1

/-- The fraction as 2^-32 s, as registers and marks carry it. -/
def frac32 (s : State) : Nat := s.clk.frac / 65536

/-- A mark toward the F-die with TRIGGER 0x01 (PPS) or 0x02 (GO); a GO merges into a mark that waits to leave (R138), which keeps its own
TRIGGER: the pair of a GO that has merged into a PPS mark shows PPS and raises no event 0x0004.
(DESIGN CHOICE: log entry 50.) -/
def atlTrigger (trig : Nat) (s : State) : State :=
  if !s.link.up then s
  else if trig = 2 && s.link.hf.marks.any (fun p => match p with
      | .timeMark _ _ _ t _ => t == 1 || t == 2
      | _ => false) then s
  else
    let m := (s.link.hf.markTx + 1) % 0x10000
    { s with link.hf.markTx := m, link.hf.marks := s.link.hf.marks ++ [.timeMark 0 s.clk.sec (frac32 s) trig m] }

/-- The error of a PPS edge, in 2^-48 s (R135). -/
def ppsErr (s : State) : Int := if s.clk.frac < 2 ^ 47 then (s.clk.frac : Int) else (s.clk.frac : Int) - 2 ^ 48

/-- An accepted edge is used: a step, or the frequency and phase correction (R135). -/
def usePps (s : State) : State :=
  let e := ppsErr s
  let sec : Rat := (e : Rat) / 2 ^ 48
  let s1 := setSrc 2 (s.putI TIME_PPSERR_ERR (clampInt (-(2 ^ 31 - 1)) (2 ^ 31 - 1) (lsb (sec * 1000000000))))
  if (s.get TIME_PPSCTL_STEPTH : Nat) / (10000 : Rat) ≤ ratAbs sec then
    let up := if s.clk.frac < 2 ^ 47 then 0 else 1
    let s2 := setClock ((s1.clk.sec + up) % 2 ^ 40) 0 s1
    raiseH 4 1 (ofSigned 16 (clampInt (-32767) 32767 (lsb (-sec * 1000000)))) (setEvt 0x005 1 s2)
  else
    let rf := s1.clk.rf - sec / 64 * 1000000000
    setRate (rf - sec / 8 * 1000000000) { s1 with clk.rf := rf }

/-- `PPS_EDGE` (R134, R135, R138): an edge of the selected polarity, `dt` after the last clock command.
(DESIGN CHOICE: log entry 17.) -/
def execPpsEdge (dt : Nat) (s : State) : Outcome State Fault Refusal :=
  run (fun s =>
    if !s.flag TIME_PPSCTL_EN then s
    else
      let s1 := clockAdvance dt s
      let age := s1.clk.edgeAge
      let s2 := { s1 with clk.edgeAge := some 0 }
      if !s.clk.ppsRef then { s2 with clk := { s2.clk with ppsRef := true, ppsRun := 0 } }
      else
        let inWin := match age with
          | some a => 4290672329 ≤ a && a ≤ 4299262263
          | none => false
        if !inWin then setEvt 0x005 0x10 (s2.put TIME_STAT_PPSOK 0)
        else
          let s3 := ({ s2 with clk.ppsRun := s2.clk.ppsRun + 1 }.put TIME_STAT_PPSOK 1).count TIME_PPSCNT_COUNT
          let s4 := if 2 ≤ s3.clk.ppsRun then usePps s3 else s3
          if s4.flag TIME_ATLCTL_PPSATL then atlTrigger 1 s4 else s4) s

/-- `PPS_HOLDOVER` (R134): no edge accepted for 2.0 s. -/
def execPpsHoldover (s : State) : Outcome State Fault Refusal :=
  run (fun s =>
    if s.get TIME_STAT_SRC = 2 then
      let s1 := { s with clk := { s.clk with ppsRef := false, ppsRun := 0 } }
      raiseH 4 4 0 (setEvt 0x005 8 (setSrc 3 s1))
    else s) s

/-- `PPS_HOLDMAX` (R134): HOLDMAX more without an accepted edge. -/
def execPpsHoldmax (s : State) : Outcome State Fault Refusal :=
  run (fun s => if s.get TIME_STAT_SRC = 3 then setSrc (if s.flag TIME_STAT_VALID then 1 else 0) s else s) s

/-- `RTC_COMPARE` (R133): with source RTC, RATE is steered once per second from the error against the porter RTC. The spec states no law
for that steering: the new RATE is a free value within ±200 ppm (log entry 3). -/
def execRtcCompare (_err : Int) (s : State) : Outcome State Fault Refusal :=
  run (fun s =>
    if s.get TIME_STAT_SRC = 1 then
      let (w, s1) := freeWord s
      setRate (((w.toNat % 400001 : Nat) : Int) - 200000) s1
    else s) s

/-- `RTC_REALIGN` (R132): the porter RTC takes the wall clock, to a tick of the 32.768 kHz crystal. -/
def execRtcRealign (s : State) : Outcome State Fault Refusal :=
  run (fun s => if s.porter.on then { s with porter := { s.porter with rtc := s.clk.sec, ticks := (s.clk.frac / 2 ^ 33 : Nat) } } else s) s

/-- `WALL_CLOCK_LOAD` (R132): at the RTC's second rollover after H-die start; `elapsed` seconds have passed on the RTC. -/
def execWallClockLoad (elapsed : Nat) (s : State) : Outcome State Fault Refusal :=
  run (fun s =>
    let r := (s.porter.rtc + elapsed) % 2 ^ 40
    let v := s.flag PORTER_STAT_RTCVALID
    let s1 := setClock r 0 { s with porter.rtc := r }
    (s1.putB TIME_STAT_VALID v).put TIME_STAT_SRC (bit v)) s

/-- The read of `TIME.SEC_LO` by an agent, `dt` after the last clock command (R137): seconds and fraction in one clock. -/
def secLoRead (agent dt : Nat) (s : State) : Word × State :=
  let s1 := clockAdvance dt s
  (word s1.clk.sec, loadShadow agent TIME_SEC_LO_SEC.addr [word (s1.clk.sec / 2 ^ 32), word (frac32 s1)] s1)

def execSecLoRead (agent dt : Nat) (s : State) : Outcome State Fault Refusal :=
  run (fun s => let (w, s1) := secLoRead agent dt s; emit (.read [w]) s1) s

/-- The shadow of `SEC_HI` (0) or `FRAC` (1) for an agent; without an earlier read of its own, that of the last capture (R137). Before any
capture `SEC_HI` reads the porter's seconds and `FRAC` reads 0 (Table 4-17). -/
def secShadow (s : State) (agent i : Nat) : Word :=
  let own := s.host.shadows.lookup (agent, TIME_SEC_LO_SEC.addr)
  let last := (s.host.shadows.find? (·.1.2 == TIME_SEC_LO_SEC.addr)).map (·.2)
  ((own.orElse fun _ => last).getD [word (s.porter.rtc / 2 ^ 32), 0]).getD i 0

/-- A write of 1 to `TIME.SETCTL.ARM` (R136). -/
def setctlArm (s : State) : State := { s with clk.setPend := true }.put TIME_STAT_SETPEND 1

/-- A write of 1 to `TIME.SETCTL.CANCEL`. -/
def setctlCancel (s : State) : State := { s with clk.setPend := false }.put TIME_STAT_SETPEND 0

def execSetctlArm (s : State) : Outcome State Fault Refusal := run setctlArm s
def execSetctlCancel (s : State) : Outcome State Fault Refusal := run setctlCancel s

/-- `SECONDS_SET` (R136): the second boundary at which an armed set is applied.
(DEDUCED: log entry 13.) -/
def execSecondsSet (s : State) : Outcome State Fault Refusal :=
  run (fun s =>
    if !s.clk.setPend then s
    else
      let n := s.get TIME_SETSEC_LO_SEC + 2 ^ 32 * s.get TIME_SETSEC_HI_SEC
      let s1 := setctlCancel (setClock n 0 { s with porter := { s.porter with rtc := n, ticks := 0 } })
      let s2 := (s1.put TIME_STAT_VALID 1).put PORTER_STAT_RTCVALID 1
      let s3 := if s2.get TIME_STAT_SRC = 0 then setSrc 1 s2 else s2
      let s4 := putHSwarp (pgseq 0x005) s3
      retain 7 (n % 0x10000) (raiseH 4 3 (n % 0x10000) (setEvt 0x005 4 s4))) s

/-- `ATL_GO`: a write of 1 to `TIME.ATLCTL.GO` (R138). -/
def execAtlGo (s : State) : Outcome State Fault Refusal := run (atlTrigger 2) s

end Sys2Proof.Machine
end

