-- ==== Sys2Proof/Machine/Views.lean ====
section
/-! DEFINITION. What a read of a register returns (R10, R11, R85, R86): the header as the page stands, copies and windows of internal
state, and the reads that have an effect of their own (R100, R120, R137, R139, R405). -/

namespace Sys2Proof.Machine

open Host (Outcome)

/-- The H-die serves a page: its firmware runs, or the ROM is in recovery and the page is SECURITY (R507, R520). -/
def hServes (s : State) (page : Nat) : Bool := s.pwr.h == .run || (s.flag SECURITY_STAT_RECOVERY && page == 6)

/-- Whether the page's die has started it up (`PGSTAT.READY`); CLOCK answers from the reference clock. -/
def pageReady (s : State) (page : Nat) : Bool :=
  if isF page then s.pwr.f == .run || (page == 0x7D && s.pwr.f == .boot) else s.pwr.h == .run

/-- A word of the common header (Tables 3-6 to 3-13). -/
def headerWord (s : State) (p o : Nat) : Word :=
  let t := (pageType p).getD ⟨0, 0, 0, 0, 0⟩
  let base := p * 0x1000
  if o = 0x000 then pgidWord p
  else if o = 0x004 then
    word (bit (isF p) + 2 * bit (hasStaged p) + 4 * bit (t.evt != 0) + 8 * bit (hasLocks p) + 256 * pageSource p)
  else if o = 0x008 then
    (s.raw (base + 8) &&& 0xFFFF0000#32) ||| word (bit (pageReady s p) + 2 * bit (s.link.arrived.any fun x => pageOf x.1 == p) +
      4 * bit (s.raw (base + 0x020) != 0) + 8 * s.get (pgerrValid p))
  else if o = 0x010 || o = 0x018 || o = 0x01C then s.raw (base + 0x010)
  else if o = 0x014 || o = 0x020 || o = 0x024 || o = 0x028 then s.raw (base + o)
  else 0

/-- Word `i` of the journal's window (Table 3-21). -/
def journalWord (s : State) (i : Nat) : Word :=
  let slot := 128 * s.get JOURNAL_WINBASE_BLOCK + i / 4
  match s.jr.entries.find? fun e => e.seq % 4096 == slot with
  | none => 0
  | some e =>
    match i % 4 with
    | 0 => word e.seq
    | 1 => e.swarp
    | 2 => word (e.wcf % 2 ^ 16 + 2 ^ 16 * (e.source % 256) + 2 ^ 24 * (e.flags % 256))
    | _ => word (e.code % 2 ^ 16 + 2 ^ 16 * (e.data % 2 ^ 16))

/-- Word `i` of the retained journal's window (Table 17-10). -/
def retainedWord (s : State) (i : Nat) : Word :=
  let slot := 128 * s.get PORTER_WINBASE_BLOCK + i / 4
  match s.porter.rj.find? fun e => e.seq % 512 == slot % 512 with
  | none => 0
  | some e =>
    match i % 4 with
    | 0 => word e.seq
    | 1 => word e.sec
    | 2 => word (e.sec / 2 ^ 32 % 256 + 2 ^ 8 * (e.flags % 256) + 2 ^ 16 * (e.code % 2 ^ 16))
    | _ => word e.data

/-- A byte of the selvedge's window. -/
def selvByte (s : State) (o : Nat) : Nat := ((s.selv.window.lookup o).getD 0).toNat

/-- A word of the selvedge's window. -/
def selvWord (s : State) (o : Nat) : Word :=
  word (selvByte s o + 2 ^ 8 * selvByte s (o + 1) + 2 ^ 16 * selvByte s (o + 2) + 2 ^ 24 * selvByte s (o + 3))

/-- Word `n` of an engine's register window (Table 6-24). -/
def engineWord (e : Eng) (n : Nat) : Word :=
  let acc := fun (m : Nat) => (e.a.getD m 0).toNat
  if n < 64 then e.g.getD n 0
  else if n = 64 then word ((List.range 7).foldl (fun m i => if e.p.getD (i + 1) false then m + 2 ^ (i + 1) else m) 1)
  else if n < 77 then
    match (n - 65) % 3 with
    | 0 => word (acc ((n - 65) / 3))
    | 1 => word (acc ((n - 65) / 3) / 2 ^ 32)
    | _ => word (acc ((n - 65) / 3) / 2 ^ 64)
  else if n = 77 then word (e.modeF % 32 + 2 ^ 16 * (e.modeB % 32))
  else if n = 78 then word (e.lnkF % 8192 + 2 ^ 16 * (e.lnkB % 8192))
  else
    match e.job.orElse (fun _ => e.park.head?.map (·.1)) with
    | some j => word (j % 16 + 16)
    | none => 0

/-- The register window reads while STATE is STOPPED, OUT or STEP. -/
def windowOpen (s : State) (k : Nat) : Bool :=
  let st := s.get (LOOM_STAT_STATE k)
  st == 2 || st == 3 || st == 5

/-- The registers of a LOOM page that show the engine's own state. -/
def loomWord (s : State) (k o : Nat) : Word :=
  let e := engAt s k
  if o = 0x080 then word (e.flagsF % 512 + 2 ^ 16 * (e.flagsB % 512))
  else if o = 0x084 then e.fcapF.1
  else if o = 0x088 then e.fcapF.2
  else if o = 0x08C then e.fcapB.1
  else if o = 0x090 then e.fcapB.2
  else if o = 0x0C4 then word (s.get (LOOM_STOPPC_S k) + 2 ^ 13 * s.get (LOOM_STOPPC_SROM k))
  else if 0x400 ≤ o && o < 0x540 then (if windowOpen s k then engineWord e ((o - 0x400) / 4) else 0)
  else s.raw ((0x44 + k) * 0x1000 + o)

/-- `FTHERM.CELLMAX` (R428): the hottest populated cell whose ring data is not stale; CELL 0xFF when there is none. -/
def cellMaxWord (s : State) : Word :=
  let best := (List.range 192).foldl (fun (b : Option (Nat × Nat)) g =>
    if populated s g && ageOf s (newestDone s (g / 64) (cellSt s g).red) != 3 then
      let t := s.get (CELL_STATE_TMAX g)
      match b with
      | some x => if x.1 < t then some (t, g) else b
      | none => some (t, g)
    else b) none
  match best with
  | some x => word (x.1 + 256 * x.2)
  | none => 0xFF00#32

/-- `INTC_0.SRCCFG[n]` with its copies of KIND, ACT and PND. -/
def srccfgWord (s : State) (n : Nat) : Word :=
  (s.raw (0x1400 + 4 * n) &&& ~~~0x700#32) ||| word (256 * bit (levelSource n) + 512 * s.get (activeBit n) + 1024 * s.get (pendBit n))

/-- What a read of the register at `a` shows to an agent, apart from effects of the read. Shadows are those of the agent (R120).
(DEDUCED: log entry 110.) -/
def viewWord (agent a : Nat) (s : State) : Word :=
  let p := pageOf a
  let o := offOf a
  if 0x80 ≤ p && p < 0xC0 then paramRead s a
  else if p = 0xC || p = 0xD then selvWord s (a - 0xC000)
  else if !hasHeader p then 0
  else if o < 0x040 then headerWord s p o
  else if (specAt a).isNone then 0
  else if p = 0x001 && 0x400 ≤ o then srccfgWord s ((o - 0x400) / 4)
  else if p = 0x002 && 0x060 ≤ o && o < 0x0A0 then s.raw (0x2040 + o % 0x20)
  else if p = 0x002 && 0x0C0 ≤ o && o < 0x100 then s.raw (0x20A0 + o % 0x20)
  else if a = SHUTTLE_H_SEQ_RXNEXT.addr then word (s.link.fh.e % 2 ^ 16 + 2 ^ 16 * (s.link.hf.txNext % 2 ^ 16))
  else if p = 0x004 && 0x800 ≤ o then journalWord s ((o - 0x800) / 4)
  else if a = TIME_SEC_HI_SEC.addr then secShadow s agent 0
  else if a = TIME_FRAC_FRAC.addr then secShadow s agent 1
  else if a = TIME_SETCTL_ARM.addr then word (s.get TIME_STAT_SETPEND)
  else if a = SECURITY_CERTSEL_SEL.addr then (s.raw a &&& 0xFFFF#32) ||| word (2 ^ 16 * certLen s)
  else if p = 0x006 && 0x100 ≤ o && o < 0x400 then certWord s ((o - 0x100) / 4)
  else if p = 0x007 && 0x0A0 ≤ o && o < 0x0D0 && s.sec.fuses.ownValid then (ownerHash s.sec.fuses).getD ((o - 0x0A0) / 4) 0
  else if p = 0x020 && 0x800 ≤ o then retainedWord s ((o - 0x800) / 4)
  else if a = WARP_NOW_HI_STAMP.addr then shadow s agent WARP_NOW_LO_STAMP.addr 0
  else if WARP_ATL_SHI_STAMP.addr ≤ a && a ≤ WARP_ATL_INFO_COUNT.addr then
    shadow s agent WARP_ATL_SLO_STAMP.addr ((a - WARP_ATL_SHI_STAMP.addr) / 4)
  else if p = 0x041 && 0x180 ≤ o && o < 0x1B0 then Config.fbHash ((o - 0x180) / 4)
  else if 0x044 ≤ p && p < 0x050 then loomWord s (p - 0x044) o
  else if a = SHUTTLE_F_SHUTCTL_YIELD.addr then word (2 * s.get SHUTTLE_F_STAT_YIELD)
  else if (METER_E_E 0).addr ≤ a && a < (METER_E_E 16).addr && (a - (METER_E_E 0).addr) % 8 = 4 then shadow s agent (a - 4) 0
  else if (S0_CNTHI_COUNT 0).addr ≤ a && a ≤ (S0_CNTHI_COUNT 3).addr && (a - (S0_CNTHI_COUNT 0).addr) % 16 = 0 then shadow s agent (a - 4) 0
  else if a = FTHERM_CELLMAX_T.addr then cellMaxWord s
  else if a = (HCMP_CFG_THR 0).addr then (s.raw a &&& 0xFFFFFC00#32) ||| word (s.get AUXSUP_VC_VC)
  else if a = BLANK_STAT_OPEN.addr then
    (s.raw a &&& 0xFFFF#32) ||| word (2 ^ 16 * ((List.range 16).foldl (fun m n => m + bit (isBlanked s n) * 2 ^ n) 0))
  else if 0x100 ≤ p && o = 0x044 && populated s (p - 0x100) && s.flag SHUTTLE_F_STAT_SHUT then s.raw a ||| 0x20#32
  else s.raw a

/-- A read of one register by an agent, `lc` loom clocks into the pick (F-die) or `dt` (2^-32 s) after the last clock command (H-die), with
what the read does. -/
def readWord (agent lc dt a : Nat) (s : State) : Word × State :=
  if pageOf a = 1 && offOf a < 0x80 && offOf a % 16 = 0 && 0x40 ≤ offOf a then claimRead ((offOf a - 0x40) / 16) s
  else if a = WARP_NOW_LO_STAMP.addr then nowLoRead agent lc s
  else if a = WARP_ATL_SLO_STAMP.addr then atlSloRead agent s
  else if a = TIME_SEC_LO_SEC.addr then secLoRead agent dt s
  else if a = TIME_SWARP_SWARP.addr then let s1 := clockAdvance dt s; (hSwarp s1, s1)
  else if a = SHUTTLE_H_TMDLY_DELAY.addr then
    let s1 := clockAdvance dt s
    ((s1.raw a &&& 0xFFFF#32) ||| word (calAge s1 * 2 ^ 16), s1)
  else if (METER_E_E 0).addr ≤ a && a < (METER_E_E 16).addr && (a - (METER_E_E 0).addr) % 8 = 0 then
    eLoRead agent ((a - (METER_E_E 0).addr) / 8) s
  else if (S0_CNTLO_COUNT 0).addr ≤ a && a ≤ (S0_CNTLO_COUNT 3).addr && (a - (S0_CNTLO_COUNT 0).addr) % 16 = 0 then loRead agent a s
  else (viewWord agent a s, s)

/-- `n` consecutive registers from `a` on, read in ascending order. -/
def readWords (agent lc dt a : Nat) : Nat → State → List Word × State
  | 0, s => ([], s)
  | n + 1, s =>
    let (w, s1) := readWord agent lc dt a s
    let (ws, s2) := readWords agent lc dt (a + 4) n s1
    (w :: ws, s2)

end Sys2Proof.Machine
end

