-- ==== Sys2Proof/Machine/Selvedge.lean ====
section
/-! DEFINITION. The selvedge (R111, R112, R247, R383, R497): the request, the capture on the F-die, its fragments, and the swap on the H-die.
Layout: Table 3-23. -/

namespace Sys2Proof.Machine

open Host (Outcome)

/-! ### The F-die's share -/

/-- One bank: `WEAVE.BANKn`, image ID, hash, and the short warp of its load (log entry 9). -/
def bankWords (s : State) (b : Nat) : List Word :=
  [s.raw (WEAVE_BANK_STATE b).addr, s.raw (WEAVE_ID_LO_IMGID b).addr, s.raw (WEAVE_ID_HI_IMGID b).addr] ++
    ((List.range 12).map fun i => s.raw (0x41100 + 0x40 * b + 4 * i)) ++ [(s.weave.banks.getD b Bank.empty).load]

/-- The grid-function words (R383). -/
def gridWords (s : State) : List Word :=
  [GRIDFN_STAT_CSTATE.addr, GRIDFN_PERMIT_BITS.addr, 0x78090, 0x78094, 0x78088, 0x79060, 0x79064, 0x79068, 0x7906C, 0x79070,
   CURCTL_STAT_ILIM.addr, CURCTL_IREF_ID.addr].map s.raw ++ List.replicate 4 0

/-- The stamp of the last committed pick of each cluster. -/
def commitWords (s : State) : List Word :=
  ((List.range 4).map fun c => let st := (cluAt s c).lastCommit; [st.extractLsb' 0 32, st.extractLsb' 32 32]).flatten

/-- The lane words: `RING.STAT` and `RING.FAILCNT` of the eight pages. -/
def laneWords (s : State) : List Word :=
  ((List.range 8).map fun l => [s.raw (RING_STAT_STATE l).addr, s.raw (RING_FAILCNT_FAIL l).addr]).flatten

/-- The twin words. -/
def twinWords (s : State) : List Word :=
  [s.raw (RING_TWSTAT_STATE 6).addr, s.raw (RING_TWCNT_MISS 6).addr, s.raw (RING_TWLASTW_SWARP 6).addr, word (s.twin.lastEnd.getD 0)]

/-- The F-die's share at P: offset and bytes of each part.
(DESIGN CHOICE: log entry 9.) -/
def fShare (s : State) : List (Nat × List Byte) :=
  let st := stamp s
  [(0x0000, bytesOf [0, 0, st.extractLsb' 0 32, st.extractLsb' 32 32]),
   (0x0050, bytesOf (bankWords s 0 ++ bankWords s 1)),
   (0x00D0, bytesOf [word (s.get WEAVE_STAT_ACT + 2 * s.get WEAVE_STAT_FB), 0, s.raw 0x41078, s.raw 0x4107C]),
   (0x00E0, bytesOf ((List.range 12).map fun k => s.raw (REED_ENGST_STATE k).addr)),
   (0x0110, bytesOf ((List.range 4).map fun c => s.raw (REED_CLST_MODE c).addr)),
   (0x0120, bytesOf (laneWords s)),
   (0x0160, bytesOf (twinWords s)),
   (0x0170, bytesOf [s.raw SHUTTLE_F_STAT_UP.addr, s.raw SHUTTLE_F_SHUTW_SWARP.addr]),
   (0x0180, bytesOf (gridWords s)),
   (0x01D0, bytesOf (commitWords s)),
   (0x0300, bytesOf ((List.range 192).map fun g => viewWord 3 (CELL_STATE_ST g).addr s)),
   (0x0600, bytesOf [word s.link.arrived.length]),
   (0x0610, bytesOf ((s.link.arrived.map fun r => [word r.1, r.2.1, r.2.2]).flatten))]

/-- Cut bytes into pieces of 16, `n` at most, from a 16-byte unit on. -/
def cut16 : Nat → Nat → List Byte → List (Nat × List Byte)
  | 0, _, _ => []
  | n + 1, u, bs => if bs.isEmpty then [] else (u, bs.take 16) :: cut16 n (u + 1) (bs.drop 16)

/-- The share as fragments of a request, the last one flagged. -/
def fragments (req : Nat) (share : List (Nat × List Byte)) : List Payload :=
  let ps := (share.map fun p => cut16 256 (p.1 / 16) p.2).flatten
  ps.zipIdx.map fun x => .selvFrag req x.1.1 (bit (x.2 + 1 = ps.length)) x.1.2.length x.1.2

/-- `SELVEDGE_CAPTURE` (R111): the first pick boundary after the request's delivery. Events committed from now on wait until the last
fragment has left. Fragments of an earlier request, which the H-die has given up, leave no more, and the events that waited for them were
committed at or before this boundary: they go first.
(DEDUCED: log entry 166.) -/
def selvedgeCapture (s : State) : State :=
  match s.selv.capture with
  | none => s
  | some n =>
    let s1 : State := { s with link := { s.link with selvHolding := some n, selvHeld := [], fh := { s.link.fh with
      queue := s.link.fh.queue ++ s.link.selvHeld.map Payload.event, bulkQ := fragments n (fShare s) } } }
    { s1 with selv.capture := none }

def execSelvedgeCapture (s : State) : Outcome State Fault Refusal := run selvedgeCapture s

/-! ### The H-die's share and the swap -/

/-- Write words into a byte store, in order of offset. -/
def putWords (o : Nat) (ws : List Word) (m : List Host.Cell) : List Host.Cell := setBytes o (bytesOf ws) m

/-- `n` bytes of a byte store from offset `o` on. -/
def expandBytes : Nat → Nat → List Host.Cell → List Byte
  | 0, _, _ => []
  | n + 1, o, [] => 0 :: expandBytes n (o + 1) []
  | n + 1, o, (a, b) :: t => if a = o then b :: expandBytes n (o + 1) t else 0 :: expandBytes n (o + 1) ((a, b) :: t)

/-- The H-die's items with the short warp at the swap (Table 3-23).
(DESIGN CHOICE: log entry 9.) -/
def hShare (s : State) (fv : Bool) (n : Nat) (sw : Word) (m : List Host.Cell) : List Host.Cell :=
  let secs := s.clk.sec % 2 ^ 40
  let frac := s.clk.frac / 2 ^ 24 % 2 ^ 24
  let recs := (m.lookup 0x600).getD 0 |>.toNat
  let recs := recs + 256 * ((m.lookup 0x601).getD 0).toNat
  let hrec := ((s.host.staged.take (320 - recs)).map fun r => [word r.1, r.2, 0]).flatten
  let m1 := putWords 0x0000 [word (1 + 256 * bit fv + 2 ^ 16 * n), sw] m
  let m2 := putWords 0x0010 [word secs, word (secs / 2 ^ 32 + 256 * frac), word (s.get LIFECYCLE_STAT_STATE + 8 * s.get LIFECYCLE_STAT_PARTIAL),
    s.raw DEVICE_MODE_TWIN.addr] m1
  let m3 := putWords 0x0020 ((List.range 12).map Config.identityHash) m2
  let m4 := putWords 0x0178 [s.raw SAFETY_STAT_BLOCK.addr, s.raw SEAL_STAT_WORD.addr] m3
  let m5 := putWords 0x01C0 ((List.range 4).map fun i => s.raw (0x4040 + 4 * i)) m4
  let m6 := putWords 0x0200 ((List.range 8).map (fun i => s.raw (0x2040 + 4 * i)) ++ (List.range 8).map (fun i => s.raw (0x2100 + 4 * i)) ++
    (List.range 8).map (fun i => s.raw (0x20A0 + 4 * i))) m5
  let m7 := putWords 0x0604 [word s.host.staged.length] m6
  let m8 := putWords (0x0610 + 12 * recs) hrec m7
  putWords 0x1FF8 [word (2 ^ 16 * n)] m8

/-- The swap (R111, R112): with the F-die's share, or with zeros for it. DONE is set at either (DESIGN CHOICE: log entry 119).
(DESIGN CHOICE: log entry 9.) -/
def selvSwap (fv : Bool) (s : State) : State :=
  match s.selv.busy with
  | none => s
  | some n =>
    let m := hShare s fv n (hSwarp s) (if fv then s.selv.frags else [])
    let win := putWords 0x1FFC [crc32 (expandBytes 0x1FFC 0 m)] m
    let s2 := { s with selv := { s.selv with busy := none, frags := [], window := win } }
    let s3 := (((s2.put DEVICE_SELV_STAT_BUSY 0).put DEVICE_SELV_STAT_DONE 1).putB DEVICE_SELV_STAT_FVALID fv).put DEVICE_SELV_STAT_REQ n
    setEvt 0x000 (if fv then 1 else 2) s3

/-- A fragment comes to the H-die; one of another request is ignored. -/
def selvFragment (req frag flags length : Nat) (data : List Byte) (s : State) : State :=
  if s.selv.busy ≠ some req then s
  else
    let s1 := { s with selv.frags := setBytes (16 * frag) (data.take length) s.selv.frags }
    if flags % 2 = 1 then selvSwap true s1 else s1

/-- A write of `DEVICE.SELV_REQ` (R111, R112): numbers run from 1 to 0xFFFF. -/
def selvReqWrite (w : Word) (s : State) : State :=
  let a := DEVICE_SELV_REQ_GO.addr
  let s0 := if w.toNat / 2 = 0 then s else capture a 2 s
  if !w.getLsbD 0 then s0
  else if s.selv.busy.isSome then capture a 3 s0
  else
    let n := s.selv.last % 0xFFFF + 1
    let s1 := { s0 with selv := { s0.selv with last := n, busy := some n, frags := [] } }.put DEVICE_SELV_STAT_BUSY 1
    if s1.link.up then toF (.postedWr a [word n]) s1 else selvSwap false s1

/-- `SELV_REQ` (R111). -/
def execSelvReq (value : Word) (s : State) : Outcome State Fault Refusal := run (selvReqWrite value) s

/-- `SELVEDGE_TIMEOUT` (R112): 20 ms without a last fragment. -/
def execSelvedgeTimeout (s : State) : Outcome State Fault Refusal := run (selvSwap false) s

end Sys2Proof.Machine
end

