-- ==== Sys2Proof/Machine/Watchdog.lean ====
section
/-! DEFINITION. The host watchdog (R94, R95, R556): kicks, its control register, its expiry, the action on the F-die and the join of the two
dies' states at link-up. -/

namespace Sys2Proof.Machine

open Host (Outcome)

/-- `HWDSTAT.STATE`: 0 = RUNNING, 1 = EXP_CONT, 2 = RAMPED, 3 = HELD. A change raises event 0x0002 (R555). -/
def hwdState (s : State) : Nat := s.get HOSTIF_HWDSTAT_STATE

def setHwd (n : Nat) (s : State) : State :=
  let o := hwdState s
  if o = n then s else raiseH 2 2 (n + 4 * o) (s.put HOSTIF_HWDSTAT_STATE n)

/-- The F-die leaves the action: the factor returns to 1 at its rate; out of HELD it waits for the connection (R94). -/
def fReleased (s : State) : State :=
  let w := s.wdog
  { s with wdog := { w with fState := 0, falling := false, ramping := decide (w.factor < 1) && w.fState != 3, holdOpen := false, pass := false } }

/-- A write of `HOSTIF.HWDKICK` (R94). -/
def hwdkickWrite (w : Word) (s : State) : State :=
  if w ≠ 0x5A5A#32 ∧ w ≠ 0x15A5A#32 then capture HOSTIF_HWDKICK_KEY.addr 3 s
  else
    let s1 := { s with wdog.counting := true }
    if hwdState s = 0 || (hwdState s = 3 && w = 0x5A5A#32) then s1
    else
      let s2 := setHwd 0 s1
      if s.link.up then fReleased s2 else { s2 with wdog.pass := false }

/-- `HWDKICK` (R94). -/
def execHwdkick (value : Word) (s : State) : Outcome State Fault Refusal := run (hwdkickWrite value) s

/-- A write of `HOSTIF.HWDCTL` (R556): EN going to 1, or a changed TIMEOUT, restarts the count; the value in force goes to the F-die (R56). -/
def hwdctlWrite (w : Word) (s : State) : State :=
  let a := HOSTIF_HWDCTL_EN.addr
  let s1 := writeReg a w s
  let again := (!s.flag HOSTIF_HWDCTL_EN && s1.flag HOSTIF_HWDCTL_EN) || s.get HOSTIF_HWDCTL_TIMEOUT != s1.get HOSTIF_HWDCTL_TIMEOUT
  let s2 : State := if again then { s1 with wdog.counting := true } else s1
  if s2.link.up then { s2 with wdog.fCtl := s2.raw a } else s2

/-- `HWDCTL_WRITE` (R556). -/
def execHwdctlWrite (value : Word) (s : State) : Outcome State Fault Refusal := run (hwdctlWrite value) s

/-- The apparent power of the references of the last pick, in VA, at the nominal voltage (R309, R556).
(DEDUCED: log entry 7.) -/
def sRef (s : State) : Rat := Config.sqrt 3 * (vllNom s : Nat) * Config.sqrt ((s.cur.idr * s.cur.idr + s.cur.iqr * s.cur.iqr) / 2)

/-- The factor's rate per second, fixed at expiry: RAMP % × S_avail / S_exp, and 100 % below 1 % of S_avail (R556). -/
def fallRate (ramp : Nat) (s : State) : Rat := if sRef s < sAvail s / 100 then 1 else (ramp : Rat) / 100 * sAvail s / sRef s

/-- `WATCHDOG_EXPIRY` (R94, R555): the count has reached TIMEOUT, and the rate of the factor is fixed (R556). An expiry outside RUNNING is counted and raised, and no more
(Table 3-14 has no row for it; log entry 60).
(DEDUCED: log entry 7.) -/
def watchdogExpiry (s : State) : State :=
  if !(s.pwr.h == .run && s.flag HOSTIF_HWDCTL_EN && s.wdog.counting) then s
  else
    let act := s.get HOSTIF_HWDCTL_ACTION
    let s1 := raiseH 2 1 act (setEvt 0x009 1 ({ s with wdog.counting := false }.count HOSTIF_HWDSTAT_EXPCNT))
    if hwdState s ≠ 0 then s1
    else
      let s2 : State := { setHwd (act + 1) s1 with wdog.rateNext := fallRate (s.get HOSTIF_HWDCTL_RAMP) s }
      if s2.link.up then { s2 with wdog.pass := true } else s2

/-- `WATCHDOG_EXPIRY` (R94; DESIGN CHOICE: log entry 60). -/
def execWatchdogExpiry (s : State) : Outcome State Fault Refusal := run watchdogExpiry s

/-- The factor falls at a rate (R556). With the action HOLD the state is HELD from the expiry on, and GRID_OPEN follows when the factor
reaches 0 (Table 3-14). -/
def startFall (rate : Rat) (hold : Bool) (s : State) : State :=
  { s with wdog := { s.wdog with fState := if hold then 3 else 2, falling := true, ramping := true, rate := rate, holdOpen := hold } }

/-- The F-die applies the watchdog action on its own (R56): the action codes of Table 3-14, at the rate of R556, with the `HWDCTL` that
the H-die passed last. -/
def fWatchdogAlone (s : State) : State :=
  let c := s.wdog.fCtl.toNat
  let act := bitsAt c 1 2
  if c.testBit 0 && s.wdog.fState = 0 then
    let s1 : State := { s with wdog.fAlone := true }
    if act = 0 then { s1 with wdog.fState := 1 } else startFall (fallRate (bitsAt c 17 7) s) (act == 2) s1
  else s

/-- `WATCHDOG_ACTION` (R94, R556): the first GATE heddle after the expiry has come to the F-die. -/
def watchdogAction (s : State) : State :=
  if !(s.wdog.pass && s.link.up) then s
  else
    let s1 : State := { s with wdog.pass := false }
    let st := hwdState s
    if st = 1 then { s1 with wdog.fState := 1 }
    else if st = 2 || st = 3 then startFall s.wdog.rateNext (st == 3) s1
    else s1

def execWatchdogAction (s : State) : Outcome State Fault Refusal := run watchdogAction s

/-- `WATCHDOG_RAMP_END` (R556): the factor has reached 0 or 1. -/
def watchdogRampEnd (s : State) : State :=
  let w := s.wdog
  if !w.ramping then s
  else if w.falling then
    if 0 < w.factor then s
    else
      let s1 : State := { s with wdog := { w with ramping := false, holdOpen := false } }
      if w.holdOpen then assertOpen s1 else s1
  else if w.factor < 1 then s else { s with wdog.ramping := false }

/-- `WATCHDOG_RAMP_END` (R94, R556; DESIGN CHOICE: log entry 61). -/
def execWatchdogRampEnd (s : State) : Outcome State Fault Refusal := run watchdogRampEnd s

/-- The two dies join their states at link-up (R556): a fall that the F-die has begun goes on at its rate, one that it takes from the H-die runs
at the rate that the expiry there has fixed.
(DESIGN CHOICE: log entry 61.) -/
def hwdJoin (s : State) : State :=
  let w := s.wdog
  let h := hwdState s
  let s1 : State := { s with wdog := { w with fAlone := false, pass := false, fCtl := s.raw HOSTIF_HWDCTL_EN.addr } }
  if w.fAlone && w.fState = 3 then setHwd 3 s1
  else if h < 2 then
    let s2 := fReleased s1
    { s2 with wdog.fState := h }
  else if w.fState = 3 && h = 3 then s1
  else startFall (if w.fState = 2 then w.rate else w.rateNext) (h == 3) s1

end Sys2Proof.Machine
end

