-- ==== Sys2Proof/Machine/Writes.lean ====
section
/-! DEFINITION. What a write does at its register (R10, R86, R554): the registers whose write is more than a store, on the H-die and on the
F-die, and the application of staged writes (R89). -/

namespace Sys2Proof.Machine

open Host (Outcome)

/-- Refuse the whole write with cause 0x3 when `bad`, after the locks (R86). -/
def refuseIf (bad : Bool) (a : Nat) (w : Word) (s : State) : State :=
  if bad then unlessLocked a (capture a 3) s else writeReg a w s

/-- 1s written to RSV bits outside `keep` are captured after the rest has been applied. -/
def rsvBits (a keep : Nat) (w : Word) (s : State) : State := if w &&& ~~~(word keep) = 0 then s else capture a 2 s

/-- A field of a word that is being written. -/
def fieldOf (w : Word) (f : Fld) : Nat := bitsAt w.toNat f.lo f.wd

/-- A header write (R86), with what a cleared flag means to its block: SCFAIL of FCMP (R400), FAULT of a cell (R21, R32). -/
def headerWrite (a : Nat) (w : Word) (s : State) : State :=
  let p := pageOf a
  let s1 := writeHeader a w s
  let fell := fun (b : Nat) => (s.get (pgevt p)).testBit b && !(s1.get (pgevt p)).testBit b
  if p = 0x070 && fell 1 then scfailCleared s1
  else if 0x100 ≤ p && fell 0 then faultCleared (p - 0x100) s1
  else s1

/-! ### H-die registers -/

/-- Test registers are open to an agent: not to the service port below level MAKER (R450).
(DESIGN CHOICE: log entry 104.) -/
def testFor (agent : Nat) (s : State) : Bool := testOpen s && (agent != 2 || s.get SERVICE_STAT_LEVEL == 3)

/-- `SHUTTLE_H.CTL` (R71): TXOFF under the lifecycle state; RETRAIN retrains the H-die's channels that are out of service now (R52). -/
def shuttleCtlWrite (agent : Nat) (w : Word) (s : State) : State :=
  let a := SHUTTLE_H_CTL_TXOFF.addr
  unlessLocked a (fun s =>
    let tx := bitsAt w.toNat 0 2
    let s1 := if tx = 0 || testFor agent s then s.put SHUTTLE_H_CTL_TXOFF tx else capture a 1 s
    let d := s1.link.fh
    let s2 : State := if w.getLsbD 2 then
        { s1 with link.fh := { d with good0 := if d.rx0 then d.good0 else max 1 d.good0, good1 := if d.rx1 then d.good1 else max 1 d.good1 } }
      else s1
    rsvBits a 7 w s2) s

/-- `TIME.SETCTL` (R136).
(DESIGN CHOICE: log entry 108.) -/
def setctlWrite (w : Word) (s : State) : State :=
  let s1 := if w.getLsbD 0 then setctlArm s else s
  rsvBits TIME_SETCTL_ARM.addr 3 w (if w.getLsbD 1 then setctlCancel s1 else s1)

/-- `TIME.PPSCTL`: enabling starts without a reference edge (R134). -/
def ppsctlWrite (w : Word) (s : State) : State :=
  let s1 := writeReg TIME_PPSCTL_EN.addr w s
  if !s.flag TIME_PPSCTL_EN && s1.flag TIME_PPSCTL_EN then { s1 with clk := { s1.clk with ppsRef := false, ppsRun := 0 } } else s1

/-- `TIME.ATLCTL` (R138). -/
def atlctlWrite (w : Word) (s : State) : State :=
  let s1 := writeReg TIME_ATLCTL_GO.addr w s
  if w.getLsbD 0 then atlTrigger 2 s1 else s1

/-- A vector's mask in the MSI-X table: a message that waits in the PBA leaves when the vector is unmasked (R104). -/
def msixMaskWrite (v : Nat) (w : Word) (s : State) : State :=
  let s1 := writeReg (HOSTIF_MSIXC_MASK v).addr w s
  let pba : Fld := ⟨0x9C00 + 4 * (v / 32), v % 32, 1⟩
  if s1.host.msixEn && !s1.host.msixMask && !s1.flag (HOSTIF_MSIXC_MASK v) && s1.flag pba then emit (.msix v) (s1.put pba 0) else s1

/-- Temperature thresholds in their ranges and in order (R417, Table 14-2). -/
def thrOrdered (w : Word) : Bool :=
  let (a, b, c) := (fieldOf w FTHERM_THR_WARN, fieldOf w FTHERM_THR_THROT, fieldOf w FTHERM_THR_SHUT)
  85 ≤ a && a ≤ 120 && 95 ≤ b && b ≤ 130 && 105 ≤ c && c ≤ 140 && a < b && b < c

/-- A register of page HTHERM (R417, R427). -/
def hthermWrite (a : Nat) (w : Word) (s : State) : State :=
  let o := offOf a
  let s1 := refuseIf (o == 0x068 && !thrOrdered w) a w s
  if 0x080 ≤ o && o < 0x0C0 && o % 16 = 0 then ntcConfigured ((o - 0x080) / 16) s1 else s1

/-- A write of a PANEL_TOUCH register (R439, R440): HYS stays below TTH. -/
def touchWrite (a : Nat) (w : Word) (s : State) : State :=
  let o := offOf a
  let bad := 0x080 ≤ o && o < 0x0E0 && o % 8 = 0 && fieldOf w (PANEL_TOUCH_KCFG_TTH 0) ≤ fieldOf w (PANEL_TOUCH_KCFG_HYS 0)
  touchConfigured s (refuseIf bad a w s)

/-- A register of a LOUVRE page (R474, R476). -/
def louvreWrite (n a : Nat) (w : Word) (s : State) : State :=
  if offOf a = 0x050 then louvreCtlWrite n w false s
  else if louvreRefuses s n (offOf a) then unlessLocked a (capture a 3) s
  else louvEval n (writeReg a w s)

/-- A write of the INTC_1 page (R99, R103). -/
def intcWrite (a : Nat) (w : Word) (s : State) : State :=
  let o := offOf a
  let i := o % 0x20 / 4
  if 0x040 ≤ o && o < 0x060 then rsv0 a i w (pendWrite i w s)
  else if 0x060 ≤ o && o < 0x080 then rsv0 a i w (pendsetWrite i w s)
  else if 0x080 ≤ o && o < 0x0A0 then rsv0 a i w (pendclrWrite i w s)
  else if 0x0A0 ≤ o && o < 0x0C0 then rsv0 a i w (maskWrite i w s)
  else if 0x0C0 ≤ o && o < 0x0E0 then rsv0 a i w (masksetWrite i w s)
  else if 0x0E0 ≤ o && o < 0x100 then rsv0 a i w (maskclrWrite i w s)
  else writeReg a w s

/-- A write of the INTC_0 page (R100, R104, R106). -/
def targetWrite (a : Nat) (w : Word) (s : State) : State :=
  let o := offOf a
  if 0x404 ≤ o && o < 0x800 then srccfgWrite ((o - 0x400) / 4) w s
  else if 0x040 ≤ o && o < 0x080 && o % 16 = 4 then completeWrite ((o - 0x40) / 16) w s
  else if 0x040 ≤ o && o < 0x080 && o % 16 = 8 then announceAll s (writeReg a w s)
  else if 0x040 ≤ o && o < 0x060 && o % 16 = 12 then outcfgWrite ((o - 0x40) / 16) w s
  else writeReg a w s

/-- A write of the SECURITY page (R493, R496, R508). -/
def securityWrite (a : Nat) (w : Word) (s : State) : State :=
  let o := offOf a
  if o = 0x044 then rsvBits a 1 w (quoteGoWrite w s)
  else if o = 0x048 then fwctlWrite w s
  else if o = 0x05C then owncertWrite w s
  else if 0x080 ≤ o && o < 0x0B0 && s.flag SECURITY_STAT_QBUSY then capture a 3 s
  else if 0x100 ≤ o && o < 0x400 then certWindowWrite ((o - 0x100) / 4) w s
  else if 0x800 ≤ o then fwWindowWrite ((o - 0x800) / 4) w s
  else writeReg a w s

/-- A write of the HOSTIF page by an agent (R94, R104, R450). -/
def hostifWrite (agent a : Nat) (w : Word) (s : State) : State :=
  let o := offOf a
  if o = 0x044 then hwdctlWrite w s
  else if o = 0x048 then (if agent = 2 then capture a 3 s else hwdkickWrite w s)
  else if 0x800 ≤ o && o < 0xC00 && o % 16 = 12 then msixMaskWrite ((o - 0x800) / 16) w s
  else writeReg a w s

/-- A write of an agent (0 = PCIe, 1 = SPI, 2 = service port) executes on an H-die page. Reserved pages and the SELVEDGE window ignore it.
(DEDUCED: log entry 106.) -/
def hWrite (agent a : Nat) (w : Word) (s : State) : State :=
  let p := pageOf a
  let o := offOf a
  if !hasHeader p then s
  else if o < 0x040 then headerWrite a w s
  else if p = 0x000 then (if o = 0x048 then selvReqWrite w s else writeReg a w s)
  else if p = 0x001 then targetWrite a w s
  else if p = 0x002 then intcWrite a w s
  else if p = 0x003 then (if o = 0x060 then shuttleCtlWrite agent w s else writeReg a w s)
  else if p = 0x005 then
    (if o = 0x05C then setctlWrite w s else if o = 0x060 then ppsctlWrite w s else if o = 0x068 then atlctlWrite w s else writeReg a w s)
  else if p = 0x006 then securityWrite a w s
  else if p = 0x007 then
    (if o = 0x044 then lifecycleReqWrite w s else if o = 0x048 then burnWrite w s else writeReg a w s)
  else if p = 0x008 then (if o = 0x044 then wicketCtlWrite w s else writeReg a w s)
  else if p = 0x009 then hostifWrite agent a w s
  else if p = 0x010 then touchWrite a w s
  else if p = 0x012 then (if o = 0x044 then serviceCtlWrite w s else writeReg a w s)
  else if p = 0x014 then
    (if o = 0x060 then safetyStopWrite w s else if o = 0x064 then safetyResetWrite w false s else writeReg a w s)
  else if p = 0x015 then (if o = 0x048 then sealReadWrite w s else writeReg a w s)
  else if 0x018 ≤ p && p < 0x01C then louvreWrite (p - 0x018) a w s
  else if p = 0x01C then (if o = 0x050 then auxCtlWrite w s else refuseIf (auxRefuses s o) a w s)
  else if p = 0x01D then hthermWrite a w s
  else if p = 0x01E then refuseIf (o == 0x040) a w s
  else if p = 0x021 then (if 0x040 ≤ o && o < 0x080 && o % 16 = 0 then s0CfgWrite ((o - 0x040) / 16) w s else writeReg a w s)
  else writeReg a w s

/-! ### F-die registers -/

/-- An engine with a word of its register window written (Table 6-24); bit 0 of P is not writable. -/
def engineSet (n : Nat) (w : Word) (e : Eng) : Eng :=
  if n < 64 then { e with g := e.g.set n w }
  else if n = 64 then { e with p := (List.range 7).foldl (fun p i => p.set (i + 1) (w.getLsbD (i + 1))) e.p }
  else if n < 77 then
    let m := (n - 65) / 3
    let v := (e.a.getD m 0).toNat
    let v1 := match (n - 65) % 3 with
      | 0 => v - v % 2 ^ 32 + w.toNat
      | 1 => v - (v / 2 ^ 32 % 2 ^ 32) * 2 ^ 32 + w.toNat * 2 ^ 32
      | _ => v % 2 ^ 64 + (w.toNat % 256) * 2 ^ 64
    { e with a := e.a.set m (BitVec.ofNat 72 v1), acc := e.acc.set m (BitVec.ofNat 72 v1) }
  else if n = 77 then { e with modeF := bitsAt w.toNat 0 5, modeB := bitsAt w.toNat 16 5 }
  else { e with lnkF := bitsAt w.toNat 0 13, lnkB := bitsAt w.toNat 16 13 }

/-- The bits of a window word that are not RSV. -/
def windowBits (n : Nat) : Nat :=
  if n < 64 then 0xFFFFFFFF
  else if n = 64 then 0xFF
  else if n < 77 then (if (n - 65) % 3 = 2 then 0xFF else 0xFFFFFFFF)
  else if n = 77 then 0x001F001F
  else 0x1FFF1FFF

/-- A write into the register window (R219). -/
def windowWrite (k a : Nat) (w : Word) (s : State) : State :=
  let n := (offOf a - 0x400) / 4
  if !stepPermitted k s then capture a 3 s
  else if n = 79 then capture a 5 s
  else rsvBits a (windowBits n) w (modEng k (engineSet n w) s)

/-- A register of a LOOM page. -/
def loomWrite (k a : Nat) (w : Word) (s : State) : State :=
  let o := offOf a
  if o = 0x0C0 then stepctlWrite k w s
  else if o = 0x0C4 then steppcWrite k w s
  else if 0x400 ≤ o && o < 0x540 then windowWrite k a w s
  else writeReg a w s

/-- `EDGE.PULSE` is refused (R294). -/
def pulseRefused (s : State) (w : Word) : Bool :=
  let d := dtOf w
  fieldOf w EDGE_PULSE_XMODE == 3 ||
    (d != 0 && decide (65535 * 1200000000 / (2 ^ 28 * 12 * ((d : Nat) : Rat)) < 11 / 10 * fNom s))

/-- The volt-var points after a write of point `i` (R314). -/
def vvRefused (s : State) (i : Nat) (w : Word) : Bool :=
  let v := fun j => if j = i then fieldOf w (CURCTL_VV_V 0) else s.get (CURCTL_VV_V j)
  !(v 0 < v 1 && v 1 < v 2 && v 2 < v 3)

/-- A write that its owning block refuses with cause 0x3 beyond the field ranges of its table. -/
def blockRefuses (s : State) (p o : Nat) (w : Word) : Bool :=
  if p = 0x060 then o == 0x044 && pulseRefused s w
  else if p = 0x062 then o == 0x040 && s.get EDGE_CARRIER_PERIOD ≤ fieldOf w SYNC_CTL_CAROFS
  else if p = 0x071 then 0x080 ≤ o && o < 0x180 && o % 8 == 0 && w.getLsbD 0 && !(4 ≤ (o - 0x080) / 8 && (o - 0x080) / 8 ≤ 8)
  else if p = 0x072 then
    o == 0x044 && !(fieldOf w PQEVT_THR_INTTH < fieldOf w PQEVT_THR_SAGTH && fieldOf w PQEVT_THR_SAGTH < 1000 && 1000 < fieldOf w PQEVT_THR_SWLTH)
  else if p = 0x074 then
    (o == 0x048 && fieldOf w CURCTL_MODE_QMODE == 3) || (0x054 ≤ o && o < 0x064 && vvRefused s ((o - 0x054) / 4) w) ||
      (o == 0x068 && fieldOf w CURCTL_VW_V2 ≤ fieldOf w CURCTL_VW_V1)
  else if p = 0x076 then o == 0x048 && fieldOf w MPPT_VLIM_VSTRMAX ≤ fieldOf w MPPT_VLIM_VSTRMIN
  else if p = 0x077 then
    (o == 0x048 && fieldOf w STORAGE_SOCLIM_SOCMAX ≤ fieldOf w STORAGE_SOCLIM_SOCMIN) ||
      (o == 0x04C && (fieldOf w STORAGE_TWIN_TCHGMAX ≤ fieldOf w STORAGE_TWIN_TCHGMIN ||
        fieldOf w STORAGE_TWIN_TDISMAX ≤ fieldOf w STORAGE_TWIN_TDISMIN)) ||
      (0x400 ≤ o && o < 0xA00 && o % 8 == 0 && (cellMap s ((o - 0x400) / 8)).ty != 2)
  else if p = 0x078 then
    (0x400 ≤ o && o < 0x480 && 2000 < fieldOf w (GRIDFN_CURVS_LEVEL 0)) || o == 0x05C && fieldOf w GRIDFN_CONNV_VRHI < fieldOf w GRIDFN_CONNV_VRLO
  else if p = 0x079 then
    o == 0x040 && (fieldOf w ISLAND_CTL_PMODE == 3 ||
      19 < fieldOf w ISLAND_CTL_CHIP * (fieldOf w ISLAND_CTL_W + fieldOf w ISLAND_CTL_ACONF + 2))
  else if p = 0x07C then o == 0x078 && !thrOrdered w
  else false

/-- A write executes on an F-die page: a posted write at loom clock `lc` in its host-access window, a staged one at its GATE heddle. -/
def fWrite (lc a : Nat) (w : Word) (s : State) : State :=
  let p := pageOf a
  let o := offOf a
  if 0x080 ≤ p && p < 0x0C0 then paramWrite a w s
  else if !hasHeader p then s
  else if o < 0x040 then headerWrite a w s
  else if p = 0x041 && o = 0x064 then weaveCtlWrite w s
  else if p = 0x041 && o = 0x068 then swctlWrite lc w s
  else if 0x044 ≤ p && p < 0x050 then loomWrite (p - 0x044) a w s
  else if p = 0x050 && o = 0x044 then engctlWrite w s
  else if p = 0x051 && o = 0x050 then shutctlWrite w s
  else if p = 0x052 && o = 0x044 then wardenIrqIn (bitsAt w.toNat 0 8) s
  else if p = 0x052 && o = 0x050 then wardenFwctlWrite w s
  else if 0x058 ≤ p && p < 0x060 && o = 0x070 then ringCtlWrite (p - 0x058) w s
  else if 0x05E ≤ p && p < 0x060 && o = 0x08C then twctlWrite (p - 0x058) w s
  else if p = 0x070 && 0x040 ≤ o && o < 0x140 && o % 16 = 0 then fcmpCfgWrite ((o - 0x040) / 16) w s
  else if p = 0x070 && o = 0x144 then tripclrWrite w s
  else if p = 0x070 && o = 0x14C then scctlWrite w s
  else if p = 0x071 && o = 0x048 then chkctlWrite w s
  else if p = 0x076 && o = 0x054 then scanctlWrite w s
  else if p = 0x078 && o = 0x058 then rsvBits a 1 w (if w.getLsbD 0 then curvCommit s else s)
  else if p = 0x078 && o = 0x084 then s.put ⟨a, 3, 1⟩ (bitsAt w.toNat 0 1)
  else if p = 0x07C && o = 0x084 then hreqWrite w s
  else if 0x100 ≤ p && o = 0x048 then serviceWrite (p - 0x100) w s
  else if p = 0x074 then curctlApplied o (refuseIf (blockRefuses s p o w) a w s)
  else refuseIf (blockRefuses s p o w) a w s

/-- A staged write is processed at a GATE heddle (R89): applied or refused; `PGSEQ` takes the pick's short warp. -/
def applyStaged (a : Nat) (w : Word) (s : State) : State :=
  let s1 := fWrite 1 a w s
  if hasHeader (pageOf a) then s1.put (pgseq (pageOf a)) (swarp s).toNat else s1

/-- A write executes at its register, on either die. -/
def writeAt (agent a : Nat) (w : Word) (s : State) : State :=
  if !isF (pageOf a) then hWrite agent a w s else if isStaged a then applyStaged a w s else fWrite 1 a w s

/-! ### Rows -/

/-- `REGISTER_WRITE` (R10). -/
def execRegisterWrite (agent addr : Nat) (value : Word) (s : State) : Outcome State Fault Refusal := run (writeAt agent addr value) s

/-- `PGEVT_WRITE` (R92). -/
def execPgevtWrite (page : Nat) (value : Word) (s : State) : Outcome State Fault Refusal :=
  run (fun s => if hasHeader page then headerWrite (page * 0x1000 + 0x010) value s else s) s

/-- `PGEVTSET` (R91). -/
def execPgevtset (page : Nat) (value : Word) (s : State) : Outcome State Fault Refusal :=
  run (fun s => if hasHeader page then headerWrite (page * 0x1000 + 0x018) value s else s) s

/-- `PGEVTCLR` (R91). -/
def execPgevtclr (page : Nat) (value : Word) (s : State) : Outcome State Fault Refusal :=
  run (fun s => if hasHeader page then headerWrite (page * 0x1000 + 0x01C) value s else s) s

/-- `ERRCLR` (R88). -/
def execErrclr (page : Nat) (s : State) : Outcome State Fault Refusal :=
  run (fun s => if hasHeader page then headerWrite (page * 0x1000 + 0x00C) 1 s else s) s

/-- `PGLOCK` (R10, R86). -/
def execPglock (page : Nat) (value : Word) (s : State) : Outcome State Fault Refusal :=
  run (fun s => if hasHeader page then headerWrite (page * 0x1000 + 0x020) value s else s) s

end Sys2Proof.Machine
end

