-- ==== Sys2Proof/Machine/Access.lean ====
section
/-! DEFINITION. The acceptance of host accesses on the H-die (R49, R55, R74, R81–R83): the frames that reads and writes become, the queue of
staged writes, and what an agent meets where a page cannot be reached. -/

namespace Sys2Proof.Machine

open Host (Outcome)

/-- The runs of at most four words in one page that `count` words from `addr` on are cut into (R74). -/
def chunks : Nat → Nat → Nat → List (Nat × Nat)
  | 0, _, _ => []
  | f + 1, addr, count =>
    if count = 0 then []
    else
      let n := min count (min 4 ((0x1000 - addr % 0x1000) / 4))
      (addr, n) :: chunks f (addr + 4 * n) (count - n)

/-! ### Reads -/

/-- A READ_REQ for an agent's read of an F-die page (R49). -/
def sendRead (via : Via) (agent addr count : Nat) (s : State) : State :=
  let t := s.link.nextTag
  toF (.readReq addr t count agent) { s with link.reads := s.link.reads ++ [⟨t, addr, count, via⟩], link.nextTag := (t + 1) % 256 }

/-- One run of a read: the words that stand at once, `none` for those that come from the F-die. An unreachable page gives its `PGID`, a
reserved page 0 (R11, R55). -/
def readRun (via : Via) (agent dt a n : Nat) (s : State) : List (Nat × Option Word) × State :=
  let p := pageOf a
  let at' := fun (f : Nat → Option Word) => (List.range n).map fun i => (a + 4 * i, f i)
  if !isF p then
    let (ws, s1) := readWords agent 0 dt a n s
    (at' fun i => some (ws.getD i 0), s1)
  else if !assigned p then (at' fun _ => some 0, s)
  else if !reachable s p then (at' fun _ => some (pgidWord p), s)
  else (at' fun _ => none, sendRead via agent a n s)

/-- A read's runs in ascending address order. -/
def readRuns (via : Via) (agent dt : Nat) : List (Nat × Nat) → State → List (Nat × Option Word) × State
  | [], s => ([], s)
  | (a, n) :: t, s =>
    let (ws, s1) := readRun via agent dt a n s
    let (ws', s2) := readRuns via agent dt t s1
    (ws ++ ws', s2)

/-- A read whose words gather under a tag: its completion leaves at once when every word stands. -/
def gatherRead (via : Via) (tag agent addr count dt : Nat) (s : State) : State :=
  let (ws, s1) := readRuns via agent dt (chunks count addr count) s
  fillGather tag 0 [] { s1 with link.gathers := s1.link.gathers ++ [⟨tag, ws⟩] }

/-! ### Writes -/

/-- Registers of the F-die that only the H-die writes; a host write is refused on the H-die with cause 0x5 (R420, log entry 23).
(DEDUCED: log entry 107.) -/
def hOnly (a : Nat) : Bool := a == FTHERM_HREQ_SHUT.addr || a == GRIDFN_PERMIT_BITS.addr || a == WARDEN_IRQIN_SRC.addr

/-- Whether word `b` continues a frame of words that ends with address `a` (R82). -/
def sameFrame (a b : Nat) : Bool := b == a + 4 && pageOf a == pageOf b && isStaged a == isStaged b

/-- Gather words into frames behind the words `cur` of the frame being filled, newest first. -/
def framesFrom : List (Nat × Word) → List (Nat × Word) → List (List (Nat × Word))
  | cur, [] => if cur.isEmpty then [] else [cur.reverse]
  | [], x :: t => framesFrom [x] t
  | y :: cur, x :: t => if sameFrame y.1 x.1 && cur.length < 3 then framesFrom (x :: y :: cur) t else (y :: cur).reverse :: framesFrom [x] t

/-- Gather words into frames: consecutive, of one page and one kind, at most four (R74, R82). A frame is filled from the lowest address
on before the next begins, as reads go out (DESIGN CHOICE: log entry 138). -/
def frames (ws : List (Nat × Word)) : List (List (Nat × Word)) := framesFrom [] ws

/-- Staged writes are held until they are delivered; with 64 held the H-die accepts no host access (R83). -/
def holdStaged (ws : List (Nat × Word)) (s : State) : State :=
  let q := s.host.staged ++ ws
  let s1 := { s with host.staged := q }.put HOSTIF_STAGEQ_HHELD q.length
  if 64 ≤ q.length && !s.host.stalled then { s1 with host.stalled := true }.count HOSTIF_STAGEQ_STALLS else s1

/-- One frame of host writes to an F-die page (R55, R82).
(DESIGN CHOICE: log entry 56.) -/
def sendFrame (f : List (Nat × Word)) (s : State) : State :=
  let a := (f.head?.map (·.1)).getD 0
  let ws := f.map (·.2)
  if !assigned (pageOf a) then s
  else if !reachable s (pageOf a) then dropWrite s
  else if hOnly a then capture a 5 s
  else if isStaged a then toF (.stagedWr a ws) (holdStaged f s)
  else toF (.postedWr a ws) s

/-- Accepted words of a write, in address order: H-die pages take them at once, the others go out in frames. Writes to the H-die's own
registers of the F-die travel one by one.
(DESIGN CHOICE: log entry 57.) (DEDUCED: log entry 107.) -/
def acceptWrite (agent : Nat) (ws : List (Nat × Word)) (s : State) : State :=
  let s1 := ws.foldl (fun s x => if isF (pageOf x.1) then s else hWrite agent x.1 x.2 s) s
  let fs := (frames (ws.filter fun x => isF (pageOf x.1))).map fun f => if f.any fun x => hOnly x.1 then f.map fun x => [x] else [f]
  fs.flatten.foldl (fun s f => sendFrame f s) s1

/-- The staged writes among words that would be held. -/
def stagedCount (s : State) (ws : List (Nat × Word)) : Nat :=
  (ws.filter fun x => isF (pageOf x.1) && assigned (pageOf x.1) && reachable s (pageOf x.1) && isStaged x.1).length

/-- The H-die accepts no access now, or has no room for the staged writes of this one (R83; log entry 62).
(DESIGN CHOICE: log entry 55.) -/
def withheld (s : State) (ws : List (Nat × Word)) : Bool := s.host.stalled || 64 < s.host.staged.length + stagedCount s ws

/-! ### What the F-die returns -/

/-- Data of a READ_RSP that is done, for the read it answers (R55, R411, R429, R496). -/
def takeRead (o : Outstanding) (data : List Word) (s : State) : State :=
  let ws := (List.range o.count).map fun i => data.getD i 0
  match o.via with
  | .pcie tag => fillGather tag o.addr ws s
  | .svc => fillGather svcTag o.addr ws s
  | .spi =>
    match s.host.spi with
    | some r =>
      if r.answered then s
      else spiAnswer false false ws { s with host.spi := some { r with data := some ws, answered := true } }
    | none => s
  | .own k =>
    if k < 4 then s0Compare k ws s
    else if 16 ≤ k && k < 20 then thermCopy k ws s
    else if 20 ≤ k && k < 33 then quoteWords k ws s
    else if k = 33 then activateAnswer ws s
    else s

/-- A READ_RSP comes (R55): STATUS 0x00 = done, 0x02 = reserved page (0), anything else as not ready. -/
def completeRead (tag status : Nat) (data : List Word) (s : State) : State :=
  match s.link.reads.find? (·.tag == tag) with
  | none => s
  | some o =>
    let s1 := { s with link.reads := s.link.reads.filter (·.tag != tag) }
    if status = 0 then takeRead o data s1
    else if status = 2 then takeRead o [] s1
    else failRead o s1

/-- Data that an abandoned or answered SPI read still waits for is discarded when it comes (R80). -/
def dropSpiReads (s : State) : State :=
  { s with link.reads := s.link.reads.map fun o => if o.via = .spi then { o with via := .own 255 } else o }

end Sys2Proof.Machine
end

