-- ==== Sys2Proof/Machine/SvcPort.lean ====
section
/-! DEFINITION. The requests of the service port (R449–R452): how each is held, handled in order, answered. -/

namespace Sys2Proof.Machine

open Host (Outcome)

/-- Words of a READ or WRITE that do not all lie in one page, or a misaligned ADDR (R449). -/
def badSpan (addr count : Nat) : Bool := addr % 4 != 0 || 0x1000 < addr % 0x1000 + 4 * count || 0x1000000 < addr + 4 * count

/-- A READ is handled: F-die words are gathered, and the request waits for them. While NOTREADY is set a READ of any F-die page, the CLOCK page
included, is answered busy (R449). -/
def svcRead (addr count : Nat) (s : State) : State :=
  if !s.flag SERVICE_STAT_SESS then svcAnswer 4 s
  else if count = 0 || 256 < count then svcAnswer 5 s
  else if badSpan addr count then svcAnswer 3 s
  else if isF (pageOf addr) && (s.flag SHUTTLE_H_STAT_NOTREADY || (assigned (pageOf addr) && !reachable s (pageOf addr))) then svcAnswer 1 s
  else gatherRead .svc svcTag 2 addr count 0 { s with svc.waiting := true }

/-- A word as a session may write it: FORCEOUT of `RING.CTL` is a test field, which only MAKER sets (R450); no frame tells the F-die whose
write it is, so the H-die takes the bit out.
(DESIGN CHOICE: log entry 104.) -/
def svcWord (s : State) (a : Nat) (w : Word) : Word :=
  if 0x58 ≤ pageOf a && pageOf a < 0x60 && offOf a = 0x070 && s.get SERVICE_STAT_LEVEL ≠ 3 then w &&& ~~~2#32 else w

/-- The number of words of the request in hand. -/
def svcCount (s : State) : Nat := (s.svc.held.head?.map (·.count)).getD 0

/-- A WRITE is handled in accesses of at most four words (R451); where one is withheld, the rest of the request stays held.
(DESIGN CHOICE: log entry 104.) -/
def svcWriteRuns : Nat → Nat → List Word → State → State
  | 0, _, _, s => svcReply 0 (svcCount s) [] s
  | f + 1, addr, data, s =>
    if data.isEmpty then svcReply 0 (svcCount s) [] s
    else
      let ws := (data.take 4).zipIdx.map fun x => (addr + 4 * x.2, svcWord s (addr + 4 * x.2) x.1)
      if withheld s ws then { s with svc.held := (s.svc.held.take 1).map (fun h => { h with req := .write addr data }) ++ s.svc.held.drop 1 }
      else svcWriteRuns f (addr + 16) (data.drop 4) (acceptWrite 2 ws s)

/-- A WRITE request (R449–R451).
(DESIGN CHOICE: log entry 62.) -/
def svcWrite (addr : Nat) (data : List Word) (s : State) : State :=
  if !s.flag SERVICE_STAT_SESS then svcAnswer 4 s
  else if s.get SERVICE_STAT_LEVEL = 1 then svcAnswer 2 s
  else if data.length = 0 || 256 < data.length then svcAnswer 5 s
  else if badSpan addr data.length then svcAnswer 3 s
  else svcWriteRuns 65 addr data s

/-- The oldest held request is handled.
(DESIGN CHOICE: log entry 104.) -/
def svcHandle (r : SvcReq) (s : State) : State :=
  match r with
  | .bad => svcAnswer 5 s
  | .ping => svcAnswer 0 s
  | .opens level cred => openSession level cred s
  | .close => if s.flag SERVICE_STAT_SESS then closeSession 0 (svcAnswer 0 s) else svcAnswer 4 s
  | .read addr count => svcRead addr count s
  | .write addr data => svcWrite addr data s

/-- Held requests are handled one at a time in arrival order, until one must wait (R451). -/
def svcDrainN : Nat → State → State
  | 0, s => s
  | n + 1, s =>
    match s.svc.held with
    | [] => s
    | r :: _ =>
      if s.svc.waiting || s.pwr.h ≠ .run || s.host.stalled then s
      else svcDrainN n (svcHandle r.req s)

def svcDrain (s : State) : State := svcDrainN s.svc.held.length s

/-- A request comes: with eight held the OUT packet is refused on the bus (R451). -/
def svcArrive (r : SvcHeld) (s : State) : State :=
  if !svcUp s || 8 ≤ s.svc.held.length then s
  else
    let h := s.svc.held ++ [r]
    svcDrain ({ s with svc := { s.svc with held := h } }.put SERVICE_STAT_HELD h.length)

/-- The meaning of a command after which the service port may go on with what it holds. -/
def runS (f : State → State) (s : State) : Outcome State Fault Refusal := run (fun s => svcDrain (f s)) s

/-- `SVC_OPEN` (R450); requests that carry no ADDR are answered with 0 there.
(DESIGN CHOICE: log entry 104.) -/
def execSvcOpen (tag level : Nat) (cred : List Word) (fits : Bool) (s : State) : Outcome State Fault Refusal :=
  run (svcArrive ⟨1, tag, 0, 0, if fits then .opens level cred else .bad⟩) s

/-- `SVC_CLOSE` (R452).
(DESIGN CHOICE: log entry 105.) -/
def execSvcClose (tag : Nat) (s : State) : Outcome State Fault Refusal := run (svcArrive ⟨2, tag, 0, 0, .close⟩) s

/-- `SVC_READ` (R449). -/
def execSvcRead (tag addr count : Nat) (fits : Bool) (s : State) : Outcome State Fault Refusal :=
  run (svcArrive ⟨3, tag, addr, count, if fits then .read addr count else .bad⟩) s

/-- `SVC_WRITE` (R451); the length fits when it holds COUNT words. -/
def execSvcWrite (tag addr count : Nat) (data : List Word) (s : State) : Outcome State Fault Refusal :=
  run (svcArrive ⟨4, tag, addr, count, if data.length = count then .write addr data else .bad⟩) s

/-- `SVC_PING` (R450). -/
def execSvcPing (tag : Nat) (s : State) : Outcome State Fault Refusal := run (svcArrive ⟨5, tag, 0, 0, .ping⟩) s

end Sys2Proof.Machine
end

