-- ==== Sys2Proof/Machine/Shuttle.lean ====
section
/-! DEFINITION. The shuttle link (R38–R59): the sender's slots, the receiver of either direction, replay, channels in and out of service, the
link's coming up and going down, time marks. `toH` names the direction F to H by its receiver, `fromH` the direction H to F by its
sender. -/

namespace Sys2Proof.Machine

open Host (Outcome)

/-! ### The two directions -/

def dirTo (toH : Bool) (s : State) : Dir := if toH then s.link.fh else s.link.hf

def modTo (toH : Bool) (f : Dir → Dir) (s : State) : State :=
  if toH then { s with link.fh := f s.link.fh } else { s with link.hf := f s.link.hf }

/-- The page of the receiver of a direction: SHUTTLE_H or SHUTTLE_F. -/
def rxPage (toH : Bool) : Nat := if toH then 0x003 else 0x051

/-- The register that shows channel `ch` of a receiver in service. -/
def rxFld (toH : Bool) (ch : Nat) : Fld := if toH then ⟨0x3040, 2 + ch, 1⟩ else ⟨0x51040, 1 + ch, 1⟩

def Dir.rx (d : Dir) (ch : Nat) : Bool := if ch = 0 then d.rx0 else d.rx1
def Dir.good (d : Dir) (ch : Nat) : Nat := if ch = 0 then d.good0 else d.good1
def Dir.bad (d : Dir) (ch : Nat) : List Nat := if ch = 0 then d.bad0 else d.bad1
def Dir.late (d : Dir) (ch : Nat) : Option Nat := if ch = 0 then d.late0 else d.late1
def Dir.setRx (ch : Nat) (b : Bool) (d : Dir) : Dir := if ch = 0 then { d with rx0 := b } else { d with rx1 := b }
def Dir.setGood (ch n : Nat) (d : Dir) : Dir := if ch = 0 then { d with good0 := n } else { d with good1 := n }
def Dir.setBad (ch : Nat) (n : List Nat) (d : Dir) : Dir := if ch = 0 then { d with bad0 := n } else { d with bad1 := n }
def Dir.setLate (ch : Nat) (x : Option Nat) (d : Dir) : Dir := if ch = 0 then { d with late0 := x } else { d with late1 := x }

/-- Status bits of byte 6 as a side would send them now (Table 2-4). -/
def statusBits (fromH : Bool) (s : State) : Nat :=
  let d := dirTo fromH s
  2 * bit d.rx0 + 4 * bit d.rx1 + (if fromH then 0 else 8 * s.get SHUTTLE_F_STAT_SHUT + 16 * bit (s.pwr.f != .run))

/-! ### The link goes down (R53–R57, R112) -/

/-- The link goes down (R53): the H-die abandons reads and drops unacknowledged writes (R55), the F-die keeps its events (R56).
Writes that have been delivered keep their turn (R47). After a protocol error or an exhausted replay the receivers keep the state of
their channels, and RX0 and RX1 show it, until the handshake of the link-up (DESIGN CHOICE: log entry 132). Writes of the H-die's own
that are lost (`FTHERM.HREQ`, `GRIDFN.PERMIT`, a demand's `SHUTCTL`) count in `DROPCNT` with the host's (DESIGN CHOICE: log entry 56). -/
def linkDown (s : State) : State :=
  if !s.link.up then s
  else
    let lost := ((unacked s.link.hf) ++ s.link.hf.queue ++ s.link.hf.bulkQ).filter isWrite
    let events := unacked s.link.fh ++ s.link.fh.queue
    let held := s.link.selvHeld
    let reads := s.link.reads
    let s1 : State := { s with link.up := false, link.reads := [], link.access := s.link.access.filter isWrite, link.selvHeld := [], link.selvHolding := none,
                               link.hf := { s.link.hf with queue := [], bulkQ := [], marks := [], kept := [], unack := [], replay := [], held := [], urgent := none },
                               link.fh := { s.link.fh with queue := [], bulkQ := [], marks := [], kept := [], unack := [], replay := [], held := [], urgent := none },
                               link.lostNow := 0, host.staged := [], host.stalled := false }
    let s2 := (((s1.put SHUTTLE_H_STAT_UP 0).put SHUTTLE_H_STAT_NOTREADY 1).put SHUTTLE_F_STAT_UP 0).put HOSTIF_STAGEQ_HHELD 0
    let s3 := (events ++ held.map Payload.event).foldl (fun s p => backlogPut p s) s2
    let s4 := reads.foldl (fun s o => failRead o s) s3
    let s5 := lost.foldl (fun s p => irqDropped p (dropWrite s)) s4
    fWatchdogAlone (setEvt 0x003 8 (s5.count SHUTTLE_H_EVCNT_LINKDN))

/-- The link goes down; an assembly of the selvedge in progress ends with the H-die's share alone (R112).
(DESIGN CHOICE: log entry 119.) -/
def linkLost (s : State) : State :=
  if s.link.up then selvSwap false (linkDown { s with selv.capture := none }) else s

/-! ### Ring certificate (R492) -/

/-- With the link up and both dies running, the security core issues the certificate of the ring key that the warden has generated; its
bytes are free values (log entry 51). -/
def issueRingCert (s : State) : State :=
  if s.link.up && s.pwr.h == .run && s.pwr.f == .run && s.sec.key && (s.sec.certs.getD 3 (0, [])).1 == 0 then
    let (lw, s1) := freeWord s
    let len := 1 + lw.toNat % 768
    let (ws, s2) := freeWords (len / 4) s1
    let (w, s3) := freeWord s2
    let tail := word (w.toNat % 2 ^ (8 * (len % 4)))
    { s3.put SECURITY_STAT_RINGCERT 1 with sec.certs := s3.sec.certs.set 3 (len, ws ++ (if len % 4 = 0 then [] else [tail])) }
  else s

/-! ### Replay requests (R45, R46) -/

/-- The receiver of a direction puts a KEEPALIVE with RPL into the next slot of the reverse direction. -/
def askReplay (toH : Bool) (s : State) : State :=
  let d := dirTo toH s
  let k := Payload.keepalive d.e (1 + statusBits toH s)
  let s1 := modTo toH (fun d => { d with asked := d.asked + 1 }) s
  setEvt (rxPage toH) 0x20 (modTo (!toH) (fun r => { r with urgent := some k }) s1)

/-- An unsequenced frame shows the number its sender assigns next: one later than E asks for a replay, once for the present E (R45). -/
def askIfLater (toH : Bool) (next : Nat) (s : State) : State :=
  let d := dirTo toH s
  let n := seqDiff next d.e
  if 0 < n && n < 0x8000 && d.asked = 0 then askReplay toH s else s

/-- A later frame has come on this channel. -/
def pastE (d : Dir) (ch : Nat) : Bool :=
  match d.late ch with
  | some l => let n := seqDiff l d.e; 1 ≤ n && n ≤ 127
  | none => false

/-- Frames are held and every channel in service has delivered a frame after E (R45). -/
def gapSeen (d : Dir) : Bool := !d.held.isEmpty && (!d.rx0 || pastE d 0) && (!d.rx1 || pastE d 1)

/-- Ask for a replay when the first case of R45 holds and none has been asked for the present E.
(DEDUCED: log entry 114.) -/
def askIfGap (toH : Bool) (s : State) : State :=
  let d := dirTo toH s
  if s.link.up && d.asked = 0 && gapSeen d then askReplay toH s else s

/-! ### Channels (R51, R52) -/

/-- A channel leaves service; with both out the link goes down (R51, R53). -/
def channelOut (toH : Bool) (ch : Nat) (s : State) : State :=
  if !(dirTo toH s).rx ch then s
  else
    let s1 := modTo toH (fun d => Dir.setLate ch none (Dir.setBad ch [] (Dir.setGood ch 0 (Dir.setRx ch false d)))) s
    let s2 := s1.put (rxFld toH ch) 0
    let s3 := setEvt (rxPage toH) (2 ^ ch) (if toH then s2.count SHUTTLE_H_EVCNT_CHFAIL else s2)
    let d := dirTo toH s3
    if !d.rx0 && !d.rx1 then linkLost s3 else askIfGap toH s3

/-- A channel returns to service. -/
def rejoin (toH : Bool) (ch : Nat) (s : State) : State :=
  let s1 := modTo toH (fun d => Dir.setLate ch none (Dir.setBad ch [] (Dir.setGood ch 0 (Dir.setRx ch true d)))) s
  setEvt (rxPage toH) 4 (s1.put (rxFld toH ch) 1)

/-- An intact frame on a channel out of service: it is ignored, but counts toward the 4,096 of a retraining. -/
def trainFrame (toH : Bool) (ch : Nat) (s : State) : State :=
  let g := (dirTo toH s).good ch
  if g = 0 then s
  else if 4096 ≤ g then rejoin toH ch s
  else modTo toH (Dir.setGood ch (g + 1)) s

/-! ### Delivery (R47) -/

/-- A frame is delivered on the F-die. -/
def deliverF (p : Payload) (s : State) : State :=
  match p with
  | .readReq .. => { s with link.access := s.link.access ++ [p] }
  | .postedWr a ws =>
    if a = DEVICE_SELV_REQ_GO.addr then { s with selv.capture := some ((ws.getD 0 0).toNat % 2 ^ 16) }
    else { s with link.access := s.link.access ++ [p] }
  | .stagedWr a ws =>
    let arr := ws.zipIdx.map fun x => (a + 4 * x.2, x.1, swarp s)
    let h := s.host.staged.drop ws.length
    let s1 : State := { s with link.arrived := s.link.arrived ++ arr, host.staged := h, host.stalled := s.host.stalled && 64 ≤ h.length }
    s1.put HOSTIF_STAGEQ_HHELD h.length
  | .bulk off target len xfer data =>
    if target < 2 then weaveBulk target off xfer (data.take len) s
    else if target = 2 then wardenBulk off (data.take len) s
    else s
  | _ => s

/-- A frame is delivered on the H-die. -/
def deliverH (p : Payload) (s : State) : State :=
  match p with
  | .readRsp _ tag status data => completeRead tag status data s
  | .event e => deliverEvent e s
  | .selvFrag req frag flags len data => selvFragment req frag flags len data s
  | _ => s

def deliver (toH : Bool) (p : Payload) (s : State) : State := if toH then deliverH p s else deliverF p s

/-- Deliver held frames that are now in sequence. -/
def deliverHeld (toH : Bool) : Nat → State → State
  | 0, s => s
  | n + 1, s =>
    let d := dirTo toH s
    match d.held.find? (·.seq == d.e) with
    | none => s
    | some f =>
      let s1 := modTo toH (fun d => { d with e := (d.e + 1) % 0x10000, held := d.held.filter (·.seq != f.seq) }) s
      deliverHeld toH n (deliver toH f.pay s1)

/-- An intact sequenced frame arrives on a channel (R44, Table 2-5).
(DEDUCED: log entry 112.) -/
def receive (toH : Bool) (ch seq : Nat) (p : Payload) (s : State) : State :=
  if !s.link.up || 2 ≤ ch then s
  else
    let d := dirTo toH s
    if !d.rx ch then trainFrame toH ch s
    else
      let n := seqDiff seq d.e
      let later := match d.late ch with
        | some l => if seqDiff seq l < 0x8000 then some (seq % 0x10000) else some l
        | none => some (seq % 0x10000)
      let s1 := modTo toH (Dir.setLate ch later) s
      if n = 0 then
        let s2 := modTo toH (fun d => { d with e := (d.e + 1) % 0x10000, asked := 0 }) s1
        askIfGap toH (deliverHeld toH d.held.length (deliver toH p s2))
      else if n ≤ 127 then
        let f : Frame := ⟨seq % 0x10000, p⟩
        askIfGap toH (modTo toH (fun d => if d.held.any (·.seq == f.seq) then d else { d with held := d.held ++ [f] }) s1)
      else if 65409 ≤ n then s1
      else linkLost s

def execReadReq (ch seq addr tag count agent : Nat) (s : State) : Outcome State Fault Refusal :=
  runS (receive false ch seq (.readReq addr tag count agent)) s

def execReadRsp (ch seq addr tag status : Nat) (data : List Word) (s : State) : Outcome State Fault Refusal :=
  runS (receive true ch seq (.readRsp addr tag status data)) s

def execPostedWr (ch seq addr : Nat) (data : List Word) (s : State) : Outcome State Fault Refusal :=
  runS (receive false ch seq (.postedWr addr data)) s

def execStagedWr (ch seq addr : Nat) (data : List Word) (s : State) : Outcome State Fault Refusal :=
  runS (receive false ch seq (.stagedWr addr data)) s

def execEvent (ch seq : Nat) (e : Event) (s : State) : Outcome State Fault Refusal := runS (receive true ch seq (.event e)) s

def execBulk (ch seq offset target length xfer : Nat) (data : List Byte) (s : State) : Outcome State Fault Refusal :=
  runS (receive false ch seq (.bulk offset target length xfer data)) s

def execSelvFrag (ch seq req frag flags length : Nat) (data : List Byte) (s : State) : Outcome State Fault Refusal :=
  runS (receive true ch seq (.selvFrag req frag flags length data)) s

/-! ### Time marks (R47, R59, R138–R140) -/

/-- An angle-time pair: the F-die latches the warp `lc` loom clocks into the pick and subtracts the calibrated delay, in threads (R118,
R138). -/
def atlPair (lc sec frac trigger : Nat) (s : State) : State :=
  let st : Stamp := BitVec.ofNat 64 (accBefore lc ((s.link.fDelay * 12 : Nat) / (100 : Rat)) s / 2 ^ 32)
  let s1 := ((s.put WARP_ATL_SLO_STAMP st.toNat).put WARP_ATL_SHI_STAMP (st.toNat / 2 ^ 32)).put WARP_ATL_SEC_SEC sec
  let s2 := ((s1.put WARP_ATL_FRAC_FRAC frac).put WARP_ATL_INFO_SECHI (sec / 2 ^ 32)).put WARP_ATL_INFO_TRIG trigger
  let s3 := setEvt 0x040 8 (s2.countWrap WARP_ATL_INFO_COUNT)
  if trigger = 2 then raiseF 5 4 (s3.get WARP_ATL_INFO_COUNT) s3
  else if s3.flag ISLAND_CTL_PLANT && s3.get ISLAND_SEQ_SEQS != 0 && sec % s3.get ISLAND_SEQ_SEQS = 0 then { s3 with isl.restart := true }
  else s3

/-- The calibrated path delay of a mark in 2^-48 s (R59). -/
def markDelay (s : State) : Nat := (lsb ((s.get SHUTTLE_H_TMDLY_DELAY * 2 ^ 48 : Nat) / (10000000000 : Rat))).toNat

/-- An angle-zero mark on the H-die: the two newest make the warp image, each at the wall clock of its departure, which is that of its
arrival less the calibrated delay (R59, R140).
(DEDUCED: log entry 111.) -/
def imageMark (stamp : Stamp) (s : State) : State :=
  let m := ((stamp, (clockNow s : Int) - markDelay s) :: s.clk.marks).take 2
  let s1 : State := { s with clk.marks := m }
  if m.length = 2 then s1.put TIME_STAT_WFRESH 1 else s1

/-- A time mark is taken: a copy of the last one delivered is dropped, and marks missing by number are counted (R47). A mark with TRIGGER
0x03 serves the calibration alone (R59).
(DESIGN CHOICE: log entry 117.) -/
def takeMark (toH : Bool) (stamp : Stamp) (sec frac trigger mark lc : Nat) (s : State) : State :=
  let d := dirTo toH s
  let m := mark % 0x10000
  if d.markRx = some m then s
  else
    let miss := match d.markRx with
      | some l => seqDiff m (l + 1)
      | none => 0
    let lost := if toH then SHUTTLE_H_REPLAYCNT_TMLOST else SHUTTLE_F_REPLAYCNT_TMLOST
    let s1 := modTo toH (fun d => { d with markRx := some m }) (s.addSat lost miss)
    if toH then (if trigger = 0 then imageMark stamp s1 else s1)
    else if s.pwr.f == .run && (trigger = 1 || trigger = 2) then atlPair lc sec frac trigger s1
    else s1

/-- A TIME_MARK arrives on a channel: out of service the frame only counts toward the retraining (R51, R52); else the number that it shows
may ask for a replay (R45), and the mark is taken. Its start symbol arrives `lc` loom clocks into the pick on the F-die, and `dt` after the
last clock command, in 2^-32 s, on the H-die (R59). -/
def timeMark (toH : Bool) (ch next : Nat) (stamp : Stamp) (sec frac trigger mark lc dt : Nat) (s : State) : State :=
  if !s.link.up || 2 ≤ ch then s
  else if !(dirTo toH s).rx ch then trainFrame toH ch s
  else takeMark toH stamp sec frac trigger mark lc (askIfLater toH next (if toH then clockAdvance dt s else s))

/-- `TIME_MARK` (R47, R59).
(DESIGN CHOICE: log entry 50.) (DESIGN CHOICE: log entry 115.) -/
def execTimeMark (toH : Bool) (ch next : Nat) (stamp : Stamp) (sec frac trigger mark lc dt : Nat) (s : State) :
    Outcome State Fault Refusal :=
  runS (timeMark toH ch next stamp sec frac trigger mark lc dt) s

/-- A mark with TRIGGER 0x03 waits to leave in a direction, with the next mark number (R59). -/
def calMark (fromH : Bool) (s : State) : State :=
  modTo (!fromH) (fun d =>
    let m := (d.markTx + 1) % 0x10000
    { d with markTx := m, marks := d.marks ++ [.timeMark 0 0 0 3 m] }) s

/-- `CALIBRATION_MARK` (R59): after each link-up and every 10 s the dies exchange marks with TRIGGER 0x03. The round trip and the
turnaround that the exchange measures, in 0.1 ns, give the one-way delay: half of their difference.
(DESIGN CHOICE: log entry 115.) -/
def execCalibrationMark (rt ta : Nat) (s : State) : Outcome State Fault Refusal :=
  run (fun s =>
    if s.link.up then
      let d := lsbU 16 (((rt : Rat) - ta) / 2)
      { (calMark false (calMark true s)).put SHUTTLE_H_TMDLY_DELAY d with clk.cal := some 0, link.fDelay := d }
    else s) s

/-! ### KEEPALIVE (R45, R46, R50) -/

/-- A sender performs a replay from ACK on (R46); the second copy of a request is the same request.
(DEDUCED: log entry 114.) -/
def doReplay (fromH : Bool) (ack : Nat) (s : State) : State :=
  let d := dirTo (!fromH) s
  let n := seqDiff d.txNext ack
  if n = 0 || d.kept.length < n then linkLost s
  else if (d.replay.head?.map (·.seq)) = some (ack % 0x10000) then s
  else
    let s1 := modTo (!fromH) (fun d => { d with replay := (d.kept.take n).reverse }) s
    setEvt (rxPage fromH) 0x20 (s1.count (if fromH then SHUTTLE_H_REPLAYCNT_TXRPL else SHUTTLE_F_REPLAYCNT_TXRPL))

/-- What the H-die takes from the F-die's status bits (Tables 2-4 and 2-10); once the F-die's pages are ready, dropped interrupts go again. -/
def takeBits (bits : Nat) (s : State) : State :=
  let nr := bits.testBit 4
  let s1 : State := { s with link.fNotReady := nr }
  let s2 := (((s1.putB SHUTTLE_H_STAT_FRX0 (bits.testBit 1)).putB SHUTTLE_H_STAT_FRX1 (bits.testBit 2)).putB SHUTTLE_H_STAT_FSHUT
    (bits.testBit 3)).putB SHUTTLE_H_STAT_NOTREADY nr
  if nr then s2 else rearm s2

/-- A KEEPALIVE arrives: `next` is the number its sender assigns next.
(DEDUCED: log entry 114.) -/
def keepalive (toH : Bool) (ch next ack bits : Nat) (s : State) : State :=
  if !s.link.up || 2 ≤ ch then s
  else
    let d := dirTo toH s
    if !d.rx ch then trainFrame toH ch s
    else
      let s2 := modTo (!toH) (Dir.ack (ack % 0x10000)) (askIfLater toH next s)
      let s3 := if toH then takeBits bits s2 else s2
      if bits % 2 = 1 then doReplay toH ack s3 else s3

def execKeepalive (toH : Bool) (ch next ack bits : Nat) (s : State) : Outcome State Fault Refusal := runS (keepalive toH ch next ack bits) s

/-! ### The sender's slots (R43, R48, R50) -/

def sequenced : Payload → Bool
  | .timeMark .. => false
  | .keepalive .. => false
  | _ => true

/-- The channels on which a side transmits: both (R39), less those that TXOFF stops where test registers are open (R71). -/
def shuttleMask (fromH : Bool) (s : State) : Nat := if fromH && testOpen s then 3 - s.get SHUTTLE_H_CTL_TXOFF else 3

/-- A frame's bytes go onto the channels (R39, R40). -/
def putFrame (fromH : Bool) (f : Frame) (s : State) : State := emit (.shuttle fromH (shuttleMask fromH s) f (frameBytes fromH f)) s

/-- A frame leaves: a sequenced one takes the next number and is kept, and stays unacknowledged until an ACK covers it (R43, R46, R55). -/
def transmit (fromH : Bool) (p : Payload) (s : State) : State :=
  let d := dirTo (!fromH) s
  let f : Frame := ⟨d.txNext, p⟩
  let s1 := if sequenced p then
      modTo (!fromH) (fun d =>
        { d with txNext := (d.txNext + 1) % 0x10000, kept := (f :: d.kept).take 128, unack := f :: d.unack }) s
    else s
  putFrame fromH f s1

/-- A KEEPALIVE leaves with the side's present E and status bits. -/
def sendKeepalive (fromH rpl : Bool) (s : State) : State :=
  let b := statusBits fromH s
  let s1 := modTo (!fromH) (fun d => { d with urgent := none, lastBits := b, lastBulk := false }) s
  transmit fromH (.keepalive (dirTo fromH s).e (bit rpl + b)) s1

/-- A time mark whose start symbol leaves `t` loom clocks into the pick (F-die), or `t` after the last clock command in 2^-32 s (H-die), carries
the warp or the wall clock of that instant (R59, R118). -/
def stampMark (fromH : Bool) (t : Nat) (s : State) : Payload → Payload
  | .timeMark _ _ _ tr m =>
    let c := clockAdvance t s
    if fromH then .timeMark 0 c.clk.sec (frac32 c) tr m
    else .timeMark (BitVec.ofNat 64 ((s.warp.acc.toNat + t * s.get WARP_INC_INC) / 2 ^ 32)) 0 0 tr m
  | p => p

/-- The last fragment of a selvedge waits until every event committed at or before P has been sent (R111). -/
def bulkEligible (d : Dir) : Bool :=
  match d.bulkQ.head? with
  | none => false
  | some (.selvFrag _ _ fl _ _) => fl % 2 == 0 || !d.queue.any fun p => match p with
      | .event _ => true
      | _ => false
  | some _ => true

/-- A frame of class 5 leaves. The last fragment of the request that holds events back ends the hold (R111). -/
def sendBulk (fromH : Bool) (s : State) : State :=
  match (dirTo (!fromH) s).bulkQ with
  | [] => s
  | p :: t =>
    let s1 := transmit fromH p (modTo (!fromH) (fun d => { d with bulkQ := t, lastBulk := true }) s)
    match p with
    | .bulk .. => s1.countWrap HOSTIF_BULKSTAT_SEGS
    | .selvFrag q _ fl _ _ =>
      if fl % 2 = 1 && s1.link.selvHolding = some q then
        { s1 with link := { s1.link with selvHolding := none, selvHeld := [],
                                         fh := { s1.link.fh with queue := s1.link.fh.queue ++ s1.link.selvHeld.map Payload.event } } }
      else s1
    | _ => s1

/-- A sender fills its next slot by priority (R50), at an instant `t` as `stampMark` has it. The writes of R461 and R465 take the H-die's
next slots before all. Class 5 takes at least one slot in two: of the two it takes the first, ahead of classes 2–4 (DESIGN CHOICE: log
entry 133). -/
def chosenFrame (fromH : Bool) (t : Nat) (s : State) : State :=
  let d := dirTo (!fromH) s
  let plain := modTo (!fromH) (fun d => { d with lastBulk := false })
  if d.urgent.isSome || statusBits fromH s != d.lastBits then sendKeepalive fromH d.urgent.isSome s
  else if bulkEligible d && !d.lastBulk then sendBulk fromH s
  else match d.marks with
    | m :: r => transmit fromH (stampMark fromH t s m) (modTo (!fromH) (fun d => { d with marks := r }) (plain s))
    | [] => match d.replay with
      | f :: r => putFrame fromH f (modTo (!fromH) (fun d => { d with replay := r }) (plain s))
      | [] => match d.queue with
        | p :: r => transmit fromH p (modTo (!fromH) (fun d => { d with queue := r }) (plain s))
        | [] => if bulkEligible d then sendBulk fromH s else s

/-- A slot of a direction; the H-die's writes that are to go out in its next slot come first (R461, R465).
(DESIGN CHOICE: log entry 115.) -/
def frameSlot (fromH : Bool) (t : Nat) (s : State) : State :=
  if !s.link.up then s
  else if fromH && !s.link.soon.isEmpty then
    transmit true (s.link.soon.headD (.postedWr 0x51050 [0]))
      (modTo false (fun d => { d with lastBulk := false }) { s with link.soon := s.link.soon.tail })
  else chosenFrame fromH t s

/-- `FRAME_SLOT` (R43, R50, R59, R461). -/
def execFrameSlot (fromH : Bool) (t : Nat) (s : State) : Outcome State Fault Refusal := run (frameSlot fromH t) s

/-- `KEEPALIVE_IDLE` (R48). -/
def execKeepaliveIdle (fromH : Bool) (s : State) : Outcome State Fault Refusal :=
  run (fun s => if s.link.up then sendKeepalive fromH (dirTo (!fromH) s).urgent.isSome s else s) s

/-- `REPLAY_REQUEST` (R45): the request leaves in the next slot of the reverse direction. -/
def execReplayRequest (toH : Bool) (s : State) : Outcome State Fault Refusal :=
  run (fun s =>
    if !s.link.up then s
    else
      let s1 := askIfGap toH s
      if (dirTo (!toH) s1).urgent.isSome then sendKeepalive toH true s1 else s1) s

/-- `REPLAY_REQUEST_TIMEOUT` (R45): 400 ns after the first frame after E. -/
def execReplayRequestTimeout (toH : Bool) (s : State) : Outcome State Fault Refusal :=
  run (fun s =>
    let d := dirTo toH s
    if s.link.up && d.asked = 0 && !d.held.isEmpty then askReplay toH s else s) s

/-- `REPLAY_REPEAT` (R46): 1.0 µs after a request without progress; after four the link goes down. -/
def execReplayRepeat (toH : Bool) (s : State) : Outcome State Fault Refusal :=
  runS (fun s =>
    let n := (dirTo toH s).asked
    if !s.link.up || n = 0 then s else if n < 4 then askReplay toH s else linkLost s) s

/-! ### Corruption, silence, retraining -/

/-- `CORRUPT_FRAME` (R41, R51): 32 bytes come `dt` ns after the corrupt frame before them on the channel. Bytes that are intact are no
corrupt frame. The eighth corrupt frame within 100 µs takes the channel out of service.
(DEDUCED: log entry 112.) (DESIGN CHOICE: log entry 52.) -/
def corruptFrame (toH : Bool) (ch dt : Nat) (bytes : List Byte) (s : State) : State :=
  let d := dirTo toH s
  if 2 ≤ ch || intactFrame bytes then s
  else if !d.rx ch then (if 0 < d.good ch then modTo toH (Dir.setGood ch 1) s else s)
  else
    let s1 := s.count (if toH then SHUTTLE_H_CRCERR_COUNT ch else ⟨0x51044 + 4 * ch, 0, 32⟩)
    let n := 0 :: ((d.bad ch).map (· + dt)).filter (· ≤ 100000)
    let s2 := modTo toH (Dir.setBad ch n) s1
    if n.length < 8 then s2 else channelOut toH ch s2

def execCorruptFrame (toH : Bool) (ch dt : Nat) (bytes : List Byte) (s : State) : Outcome State Fault Refusal :=
  runS (corruptFrame toH ch dt bytes) s

/-- `CHANNEL_SILENT` (R51): no intact frame for 4.0 µs. -/
def execChannelSilent (toH : Bool) (ch : Nat) (s : State) : Outcome State Fault Refusal :=
  runS (fun s => if 2 ≤ ch then s else channelOut toH ch s) s

/-- `CHANNEL_RETRAIN` (R52): the 1 ms retraining of a channel out of service. -/
def execChannelRetrain (toH : Bool) (ch : Nat) (s : State) : Outcome State Fault Refusal :=
  run (fun s =>
    let d := dirTo toH s
    if 2 ≤ ch || d.rx ch || !s.link.up then s else modTo toH (Dir.setGood ch (max 1 (d.good ch))) s) s

/-! ### Link-up, the long outage, a late response -/

/-- A direction at link-up: numbers start at 0x0000, the channels of the mask `m`, on which the handshake has completed, are in service
(R43, R53). -/
def Dir.fresh (m : Nat) (q : List Payload) (d : Dir) : Dir :=
  { Dir.reset with rx0 := m.testBit 0, rx1 := m.testBit 1, queue := q, markTx := d.markTx }

/-- The backlog, each event flagged, then EVLOST when events were discarded (R56). -/
def backlogFlush (s : State) : List Payload :=
  let evs := s.link.backlog.map fun e => Payload.event { e with flags := 1 }
  evs ++ (if s.link.lostNow = 0 then [] else [.event ⟨stamp s, 9, 1, 1, word (min s.link.lostNow 0xFFFF)⟩])

/-- The page sources of the F-die whose level may stand otherwise at the two dies: those whose change the full backlog discarded, those that
the F-die asserts, and those that the H-die still has asserted. -/
def unsureLevels (s : State) : List Nat :=
  let fSrc := fun n : Nat => pageTypes.any fun t => isF t.first && t.source ≤ n && 0 < t.source && n < t.source + (if t.first = 0x100 then 24 else t.count)
  (s.link.flevel ++ s.intc.level.filter fSrc).foldl (fun l n => insertNat n l) s.link.flost

/-- At the link-up the F-die tells, after the backlog, the level of each such source as it is now (R87, R102): a reset of either die may have
lost what the other has.
(DEDUCED: log entry 134.) -/
def retellLevels (s : State) : State :=
  (unsureLevels s).foldl (fun s n => raiseF n (if s.link.flevel.contains n then 0xFF00 else 0xFF01) 0 s) { s with link.flost := [] }

/-- What the H-die knows of the F-die again once the link is up: `DEVICE.MODE` (Table 3-25), and what the F-die is told: the SEAL permit
(R465), and a shutdown demand of the H side that stands (R420, R422).
(DESIGN CHOICE: log entry 135.)
(DESIGN CHOICE: log entry 23.) -/
def shareState (s : State) : State :=
  let s1 := passSeal (shareMode s)
  if s1.get HTHERM_STAT_HLEVEL = 3 || s1.get HTHERM_STAT_DLEVEL = 3 then toF (.postedWr FTHERM_HREQ_SHUT.addr [1]) s1 else s1

/-- `LINK_UP` (R53, R56, R556): the handshake has completed on the channels of the masks `hf` (H to F) and `fh` (F to H). With no channel
in one direction the link stays down; a channel without it is out of service.
(DEDUCED: log entry 101.) (DEDUCED: log entry 103.) -/
def linkUp (hf fh : Nat) (s : State) : State :=
  if s.link.up || s.pwr.h == .off || s.pwr.h == .hold || s.pwr.f == .off || s.pwr.f == .hold || hf % 4 = 0 || fh % 4 = 0 then s
  else
    let q := backlogFlush s
    let nr := s.pwr.f != .run
    let s1 : State := { s with link := { s.link with up := true, hf := s.link.hf.fresh hf [], fh := s.link.fh.fresh fh q, backlog := [],
                                                     lostNow := 0, fNotReady := nr } }
    let s2 := ((s1.put SHUTTLE_H_STAT_UP 1).put SHUTTLE_H_STAT_RX0 (fh % 2)).put SHUTTLE_H_STAT_RX1 (fh / 2 % 2)
    let s3 := retellLevels (((s2.put SHUTTLE_F_STAT_UP 1).put SHUTTLE_F_STAT_RX0 (hf % 2)).put SHUTTLE_F_STAT_RX1 (hf / 2 % 2))
    let s4 := takeBits (statusBits false s3) (s3.put SHUTTLE_F_BACKLOG_HELD 0)
    let s5 := { s4 with link.fh.lastBits := statusBits false s4, link.hf.lastBits := statusBits true s4 }.put CLOCK_SDLOCK_SHUT 1
    issueRingCert (hwdJoin (setEvt 0x003 0x10 (shareState s5)))

/-- `LINK_UP` (R53; DEDUCED: log entry 101). -/
def execLinkUp (hf fh : Nat) (s : State) : Outcome State Fault Refusal := runS (linkUp hf fh) s

/-- `LINK_DOWN_TIMEOUT` (R57): 100 ms without the link; DEMAND code 7. -/
def execLinkDownTimeout (s : State) : Outcome State Fault Refusal :=
  run (fun s => if s.link.up || s.pwr.h != .run then s else demand 7 0 s) s

/-- `READ_RESPONSE_TIMEOUT` (R55): 20 µs without a response. -/
def execReadResponseTimeout (tag : Nat) (s : State) : Outcome State Fault Refusal :=
  runS (fun s =>
    match s.link.reads.find? (·.tag == tag) with
    | none => s
    | some o => failRead o { s with link.reads := s.link.reads.filter (·.tag != tag) }) s

end Sys2Proof.Machine
end

