-- ==== Sys2Proof/Machine/HostAccess.lean ====
section
/-! DEFINITION. The host interfaces: PCIe requests (R73–R76), SPI frames (R77–R80), and the execution of accesses on the F-die (R147). -/

namespace Sys2Proof.Machine

open Host (Outcome)

/-- The H-die is out of reset. -/
def hAwake (s : State) : Bool := s.pwr.h == .boot || s.pwr.h == .run

/-! ### PCIe -/

/-- Words that the H-die answers itself while its firmware does not run. -/
def bootWords (dt a : Nat) : Nat → State → List Word × State
  | 0, s => ([], s)
  | n + 1, s =>
    let (w, s1) := if hServes s (pageOf a) then readWord 0 0 dt a s else (0, s)
    let (ws, s2) := bootWords dt (a + 4) n s1
    (w :: ws, s2)

/-- The function takes memory requests: the link is up and it stands in D0 (R73). -/
def pcieServes (s : State) : Bool := s.flag HOSTIF_STAT_PCIEUP && !s.host.d3

/-- A BAR0 read (R74, R520). -/
def pcieRead (tag addr count dt : Nat) (s : State) : State :=
  let a := addr - addr % 4
  if !pcieServes s || s.host.stalled then s
  else if s.pwr.h != .run then
    let (ws, s1) := bootWords dt a count s
    emit (.pcie (tag % 256) ws) s1
  else gatherRead (.pcie (tag % 256)) (tag % 256) 0 a count dt s

/-- What a read of the configuration space finds: device and vendor ID, class code and revision, the items that a host can set, in the order of
`CfgItem`, and the uncorrectable and correctable error status of AER, which no command sets (Table 3-1; log entry 139). -/
def configWords (s : State) : List Word :=
  [word (0x0192 * 2 ^ 16 + Config.vendorId.toNat), word (0x118000 * 2 ^ 8 + Config.revisionId.toNat), word (bit s.host.d3),
   word (bit s.host.msixEn + 2 * bit s.host.msixMask), word s.host.mps, word s.host.mrrs, word (bit s.host.aspm), s.host.aer.1, s.host.aer.2.1,
   s.host.aer.2.2, 0, 0]

/-- `PCIE_READ_TLP`: BAR0 (R74); BAR2, which reads 0 (R76); the configuration space, which answers in every power state (R73). -/
def pcieRequest (tag : Nat) (req : PcieRead) (dt : Nat) (s : State) : State :=
  match req with
  | .bar0 addr count => pcieRead tag addr count dt s
  | .bar2 count => if pcieServes s then emit (.pcie (tag % 256) (List.replicate count 0)) s else s
  | .config => if s.flag HOSTIF_STAT_PCIEUP then emit (.pcie (tag % 256) (configWords s)) s else s

def execPcieReadTlp (tag : Nat) (req : PcieRead) (dt : Nat) (s : State) : Outcome State Fault Refusal := run (pcieRequest tag req dt) s

/-- A word with partial byte enables is dropped and captured on its page (R74), where the page can be reached.
(DESIGN CHOICE: log entry 55.) -/
def partialWord (a : Nat) (s : State) : State :=
  let p := pageOf a
  if !hasHeader p then s
  else if isF p && !reachable s p then dropWrite s
  else capture a 4 s

/-- The words of a BAR0 write in ascending address order; `acc` holds whole words not yet accepted, newest first. -/
def pcieWords (agent : Nat) : Nat → List (Word × Nat) → List (Nat × Word) → State → State
  | _, [], acc, s => acceptWrite agent acc.reverse s
  | a, (w, be) :: t, acc, s =>
    if be % 16 = 15 then pcieWords agent (a + 4) t ((a, w) :: acc) s
    else pcieWords agent (a + 4) t [] (partialWord a (acceptWrite agent acc.reverse s))

/-- The whole words of a write, with their addresses. -/
def wholeWords (a : Nat) (ws : List (Word × Nat)) : List (Nat × Word) :=
  (ws.zipIdx.filter fun x => x.1.2 % 16 == 15).map fun x => (a + 4 * x.2, x.1.1)

/-- Words that the H-die takes itself while its firmware does not run; a partial word on a page that it serves is captured (R74). -/
def bootWrite : Nat → List (Word × Nat) → State → State
  | _, [], s => s
  | a, (w, be) :: t, s =>
    bootWrite (a + 4) t (if !hServes s (pageOf a) then s else if be % 16 = 15 then hWrite 0 a w s else capture a 4 s)

/-- A BAR0 write (R74, R83, R520). -/
def pcieWrite (addr : Nat) (words : List (Word × Nat)) (s : State) : State :=
  let a := addr - addr % 4
  if !pcieServes s || withheld s (wholeWords a words) then s
  else if s.pwr.h != .run then bootWrite a words s
  else pcieWords 0 a words [] s

/-- What an FLR resets: PCIe configuration state, the MSI-X table and PBA, and `HOSTIF.BULKCTL` (R75).
(DESIGN CHOICE: log entry 54.) -/
def pcieConfigReset (s : State) : State :=
  { s with regs := s.regs.filter fun x => !((0x9800 ≤ x.1 && x.1 < 0x9C08) || x.1 == HOSTIF_BULKCTL_TARGET.addr)
           host := { s.host with msixEn := false, msixMask := false, d3 := false, mps := 128, mrrs := 512, aspm := HostIf.reset.aspm,
                                 aer := HostIf.reset.aer } }

/-- Messages that wait in the PBA leave once neither the function nor their vector is masked (R104). -/
def sendPending (s : State) : State :=
  if !s.host.msixEn || s.host.msixMask || s.host.d3 then s
  else
    (List.range 64).foldl (fun s v =>
      let pba : Fld := ⟨0x9C00 + 4 * (v / 32), v % 32, 1⟩
      if s.flag pba && !s.flag (HOSTIF_MSIXC_MASK v) then emit (.msix v) (s.put pba 0) else s) s

/-- A configuration write (R73, R104): a size that Table 3-1 does not offer leaves the size as it is.
(PRESUMED: log entry 139.) -/
def configWrite (item : CfgItem) (s : State) : State :=
  if !s.flag HOSTIF_STAT_PCIEUP then s
  else match item with
    | .power d3 => sendPending { s with host.d3 := d3 }
    | .msix en mask => sendPending { s with host := { s.host with msixEn := en, msixMask := mask } }
    | .payload n => if n = 128 || n = 256 then { s with host.mps := n } else s
    | .readReq n => if [128, 256, 512, 1024, 2048, 4096].contains n then { s with host.mrrs := n } else s
    | .aspm l1 => { s with host.aspm := l1 }
    | .aer um us cm => { s with host.aer := (um, us, cm) }
    | .flr => pcieConfigReset s

/-- `PCIE_WRITE_TLP` (R73, R74). -/
def pcieWriteRequest (req : PcieWrite) (s : State) : State :=
  match req with
  | .bar0 addr words => pcieWrite addr words s
  | .config item => configWrite item s

def execPcieWriteTlp (req : PcieWrite) (s : State) : Outcome State Fault Refusal := runS (pcieWriteRequest req) s

/-- Cut BAR2 data into segments of 16 bytes. -/
def bulkSegments (target xfer : Nat) : Nat → Nat → List Byte → List Payload
  | 0, _, _ => []
  | n + 1, off, bs =>
    if bs.isEmpty then [] else .bulk off target (min 16 bs.length) xfer (bs.take 16) :: bulkSegments target xfer n (off + 16) (bs.drop 16)

/-- A BAR2 write (R55, R76).
(DESIGN CHOICE: log entry 109.) -/
def bar2Write (off : Nat) (data : List Byte) (s : State) : State :=
  if !pcieServes s || s.pwr.h != .run || s.host.stalled then s
  else if off % 16 ≠ 0 || data.isEmpty || 65536 < off + data.length then setEvt 0x009 8 (s.count HOSTIF_BULKSTAT_DROPPED)
  else
    let segs := bulkSegments (s.get HOSTIF_BULKCTL_TARGET) (s.get HOSTIF_BULKCTL_XFER) data.length
      (65536 * s.get HOSTIF_BULKCTL_BASE + off) data
    if reachable s 0x041 then { s with link.hf.bulkQ := s.link.hf.bulkQ ++ segs }
    else segs.foldl (fun s _ => dropWrite s) s

def execBar2Write (off : Nat) (data : List Byte) (s : State) : Outcome State Fault Refusal := run (bar2Write off data) s

def execFlr (s : State) : Outcome State Fault Refusal := run (fun s => if hAwake s then pcieConfigReset s else s) s

/-- The PCIe link goes down (R75): completions that wait have nowhere to go.
(DESIGN CHOICE: log entry 116.) -/
def pcieDown (s : State) : State :=
  if !s.flag HOSTIF_STAT_PCIEUP then s
  else
    let l := s.link
    let s1 : State := { pcieConfigReset s with link.gathers := l.gathers.filter (·.tag == svcTag)
                                               link.reads := l.reads.map fun o => match o.via with
                                                 | .pcie _ => { o with via := .own 255 }
                                                 | _ => o }
    setEvt 0x009 4 (((s1.put HOSTIF_STAT_PCIEUP 0).put HOSTIF_STAT_SPEED 0).put HOSTIF_STAT_WIDTH 0)

def execPcieLinkDown (s : State) : Outcome State Fault Refusal := run pcieDown s

/-! ### SPI -/

/-- The words of a frame do not lie in one page, or the address is not a multiple of 4 (Table 3-4). -/
def spiAddrErr (addr count : Nat) : Bool := addr % 4 != 0 || 0x1000 < addr % 0x1000 + 4 * count

/-- The addressed page cannot answer a read now (R79, R83).
(DEDUCED: log entry 113.) -/
def spiBusy (s : State) (page : Nat) : Bool :=
  !hServes s page || s.host.stalled || (isF page && assigned page && !reachable s page)

/-- A read frame at its last address bit (R77–R81).
(DEDUCED: log entry 113.) -/
def spiReadFrame (addr count dt : Nat) (s : State) : State :=
  if s.host.spiDead || !hAwake s || count = 0 || 4 < count then s
  else
    let p := pageOf addr
    let s0 := dropSpiReads s
    let busy := spiBusy s p
    let bad := spiAddrErr addr count
    if busy || bad then spiAnswer busy bad [] { s0 with host.spi := some ⟨addr, count, none, true⟩ }
    else
      let s1 := s0.put HOSTIF_STAT_SPISEEN 1
      if isF p && assigned p then sendRead .spi 1 addr count { s1 with host.spi := some ⟨addr, count, none, false⟩ }
      else
        let (ws, s2) := if isF p then (List.replicate count 0, s1) else readWords 1 0 dt addr count s1
        spiAnswer false false ws { s2 with host.spi := some ⟨addr, count, some ws, true⟩ }

def execSpiRead (addr count dt : Nat) (s : State) : Outcome State Fault Refusal := run (spiReadFrame addr count dt) s
def execSpiQread (addr count dt : Nat) (s : State) : Outcome State Fault Refusal := run (spiReadFrame addr count dt) s

/-- The CRC that the host appends to a write frame (R78); `cmd` is the command code for one word. -/
def spiWriteCrc (cmd addr : Nat) (data : List Word) : Nat :=
  crc16 (BitVec.ofNat 8 (cmd + data.length - 1) :: addrBytes addr ++ (data.map wordBytes).flatten)

/-- A write frame is dropped for another reason than its CRC (Table 3-4 WDROP). -/
def spiDrop (s : State) : State := { s with host.wdrop := true }

/-- A write frame at its last CRC bit (R78, R79, R83). -/
def spiWriteFrame (cmd addr : Nat) (data : List Word) (crc : Nat) (s : State) : State :=
  if s.host.spiDead || !hAwake s || data.isEmpty || 4 < data.length then s
  else
    let p := pageOf addr
    let ws := data.zipIdx.map fun x => (addr + 4 * x.2, x.1)
    let s0 : State := { dropSpiReads s with host.spi := none }
    if crc ≠ spiWriteCrc cmd addr data then setEvt 0x009 2 ({ s0 with host.lastCrc := true }.count HOSTIF_SPISTAT_CRCERR)
    else if spiAddrErr addr data.length || !hServes s p || withheld s ws then spiDrop s0
    else
      let s1 := s0.put HOSTIF_STAT_SPISEEN 1
      if isF p && assigned p && !reachable s p then acceptWrite 1 ws (spiDrop s1) else acceptWrite 1 ws s1

def execSpiWrite (addr : Nat) (data : List Word) (crc : Nat) (s : State) : Outcome State Fault Refusal :=
  runS (spiWriteFrame 0x20 addr data crc) s

def execSpiQwrite (addr : Nat) (data : List Word) (crc : Nat) (s : State) : Outcome State Fault Refusal :=
  runS (spiWriteFrame 0x40 addr data crc) s

/-- The STATUS command (Table 3-2): STATUS and CRC; no page is addressed.
(DEDUCED: log entry 113.) -/
def execSpiStatus (s : State) : Outcome State Fault Refusal :=
  run (fun s => if s.host.spiDead || !hAwake s then s else spiAnswer false false [] { dropSpiReads s with host.spi := none }) s

/-- The command codes of Table 3-2. -/
def spiCode (c : Nat) : Bool := (0x10 ≤ c && c < 0x14) || (0x20 ≤ c && c < 0x24) || (0x30 ≤ c && c < 0x34) || (0x40 ≤ c && c < 0x44) || c == 0x50

/-- Another command code ends the frame (R77). -/
def execSpiInvalidCommand (code : Nat) (s : State) : Outcome State Fault Refusal :=
  run (fun s => if spiCode (code % 256) || !hAwake s then s else { dropSpiReads s with host.spiDead := true, host.spi := none }) s

/-- `SPI_STATUS_DEADLINE` (R80): busy is sent where the data has not returned. -/
def execSpiStatusDeadline (s : State) : Outcome State Fault Refusal :=
  run (fun s =>
    match s.host.spi with
    | some r => if r.answered then s else spiAnswer true false [] (dropSpiReads { s with host.spi := some { r with answered := true } })
    | none => s) s

/-- `SPI_CS_RISE` (R77, R80). -/
def execSpiCsRise (s : State) : Outcome State Fault Refusal :=
  run (fun s =>
    let s1 : State := { s with host.spiDead := false }
    if s.host.spi.isSome then dropSpiReads { s1.count HOSTIF_SPISTAT_ABANDON with host.spi := none } else s1) s

/-! ### Accesses on the F-die (R49, R147) -/

/-- The F-die queues a response. -/
def respond (addr tag status : Nat) (data : List Word) (s : State) : State :=
  { s with link.fh.queue := s.link.fh.queue ++ [.readRsp addr tag status data] }

/-- One queued access executes at loom clock `lc`; before the PLL lock, only those of the CLOCK page (R55). -/
def executeAccess (lc : Nat) (p : Payload) (s : State) : State :=
  match p with
  | .readReq addr tag count agent =>
    let pg := pageOf addr
    if !isF pg || addr % 4 ≠ 0 || count = 0 || 4 < count || spiAddrErr addr count then respond addr tag 3 [] s
    else if !assigned pg then respond addr tag 2 [] s
    else if s.pwr.f != .run && pg != 0x7D then respond addr tag 1 [] s
    else
      let (ws, s1) := readWords agent lc 0 addr count s
      respond addr tag 0 ws s1
  | .postedWr addr data =>
    if s.pwr.f != .run && pageOf addr != 0x7D then s
    else data.zipIdx.foldl (fun s x => if isF (pageOf (addr + 4 * x.2)) then fWrite lc (addr + 4 * x.2) x.1 s else s) s
  | _ => s

/-- Up to `n` accesses in order, one per loom clock. -/
def executeAccesses : Nat → Nat → State → State
  | 0, _, s => s
  | n + 1, lc, s =>
    match s.link.access with
    | [] => s
    | p :: t => executeAccesses n (lc + 1) (executeAccess lc p { s with link.access := t })

/-- A host-access window is open at loom clock `lc` of the pick (R145): within the GATE heddle or a heddle with HAW set, in SLACK, and at
every clock of the idle plan (R148); a GATE heddle opens it only once it has applied its staged writes. Before the PLL lock no pick runs, and
the CLOCK page is served throughout (R55).
(DEDUCED: log entry 140.) -/
def accessOpen (s : State) (lc : Nat) : Bool :=
  s.pwr.f == .boot || 4185 ≤ lc || ((planNow s 3).isEmpty && (64 ≤ lc || s.link.gated)) ||
    (planNow s 3).any fun h => ((h.kind == 2 && s.link.gated) || h.haw) && h.start ≤ lc && lc < h.start + h.len

/-- `HOST_ACCESS_EXECUTE` (R145, R147): outside every window the access waits for the next. -/
def execHostAccessExecute (lc : Nat) (s : State) : Outcome State Fault Refusal :=
  run (fun s => if (s.pwr.f == .boot || s.pwr.f == .run) && accessOpen s lc then executeAccesses 1 lc s else s) s

/-- START and LEN of the GATE heddle of the present pick (R145); 0 and 64 in the idle plan (R148). -/
def gateHeddle (s : State) : Nat × Nat :=
  match (planNow s 3).find? (·.kind == 2) with
  | some h => (h.start, h.len)
  | none => (0, 64)

/-- The registers that the warden stages writes to: the staged ones, but for the parameter store, of which each cluster has a replica, and the
edge generator's `CARRIER` and `PULSE`, to neither of which it has a path (R237).
(DEDUCED: log entry 168.) -/
def wardenStages (a : Nat) : Bool := isStaged a && hasHeader (pageOf a) && pageOf a != pageOf EDGE_CARRIER_PERIOD.addr

/-- `GATE_HEDDLE` (R89, R147): every arrived staged write is applied in arrival order, then those that the warden has staged (R237), then
accesses execute until the heddle ends. -/
def gate (s : State) : State :=
  if s.pwr.f != .run then s
  else
    let ws := s.link.arrived
    let (start, len) := gateHeddle s
    let vs := s.warden.staged
    let s1 := ws.foldl (fun s x => applyStaged x.1 x.2.1 s) { s with link.arrived := [], link.gated := true, warden.staged := [] }
    let s2 := vs.foldl (fun s x => if wardenStages x.1 then applyStaged x.1 x.2 s else s) s1
    executeAccesses (len - ws.length - vs.length) (start + ws.length + vs.length) s2

def execGateHeddle (s : State) : Outcome State Fault Refusal := run gate s

end Sys2Proof.Machine
end

