-- ==== Sys2Proof/Machine/Startup.lean ====
section
/-! DEFINITION. Supplies, resets, the PLL ramp and losses of clocks (R36, R431–R437, R518–R524, R542). -/

namespace Sys2Proof.Machine

open Host (Outcome)

/-! ### The H-die -/

/-- `H_SUPPLY_IN_RANGE` (R518). -/
def execHSupplyInRange (s : State) : Outcome State Fault Refusal :=
  run (fun s => if s.pwr.h == .off then { s with pwr.h := .hold } else s) s

/-- The PCIe endpoint trains (R73, R519): the speed and the width that the host's side allows are free values (DESIGN CHOICE: log entry 53). -/
def trainPcie (s : State) : State :=
  let (v, s1) := freeWord s
  let (w, s2) := freeWord s1
  ((s2.put HOSTIF_STAT_PCIEUP 1).put HOSTIF_STAT_SPEED (1 + v.toNat % 3)).put HOSTIF_STAT_WIDTH (1 + w.toNat % 2)

/-- `H_DIE_RESET_RELEASE` (R515, R518, R519): the ROM boots; PCIe trains while PERST_N is high. -/
def hDieRelease (s : State) : State :=
  if s.pwr.h != .hold then s
  else
    let s1 := compareMirror (loadFuses { s with pwr := { s.pwr with h := .boot, gatesLow := false } })
    if s1.pwr.perst then s1 else trainPcie s1

/-- `H_DIE_RESET_RELEASE` (R518; DESIGN CHOICE: log entry 32). -/
def execHDieResetRelease (s : State) : Outcome State Fault Refusal := run hDieRelease s

/-- `H_FIRMWARE_START` (R463, R507, R520): the ROM hands over to the image that it verifies, or stays in recovery.
(DESIGN CHOICE: log entry 64.) -/
def execHFirmwareStart (s : State) : Outcome State Fault Refusal :=
  run (fun s => if s.pwr.h == .boot && !s.pwr.restarting then issueRingCert (hStart s) else s) s

/-- The H-die resets (R36, R53): the D-die drives every gate low, the permit ends, the link goes down. Reads in progress end with it.
(DESIGN CHOICE: log entry 116.) -/
def hDieReset (s : State) : State :=
  if s.pwr.h == .off then s
  else
    let s1 := linkLost { s with link := { s.link with reads := [], gathers := [] }, selv := Selv.reset }
    let s2 : State := { s1 with pwr := { s1.pwr with h := .hold, gatesLow := true, restarting := false },
                                link := { s1.link with hf := Dir.reset, nextTag := 0, fNotReady := true, soon := [] } }
    hPagesReset false s2

/-- `H_DIE_RESET` (R36). -/
def execHDieReset (s : State) : Outcome State Fault Refusal := run hDieReset s

/-- `REFCLK_H_LOSS` (R436). -/
def execRefclkHLoss (s : State) : Outcome State Fault Refusal := run hDieReset s

/-- `PCIE_RESET` (R75, R519): PERST_N asserted has the scope of a link-down; deasserted, the endpoint trains. -/
def execPcieReset (asserted : Bool) (s : State) : Outcome State Fault Refusal :=
  run (fun s =>
    let s1 : State := { s with pwr.perst := asserted }
    if asserted then pcieDown s1
    else if hAwake s && !s.flag HOSTIF_STAT_PCIEUP then trainPcie s1
    else s1) s

/-! ### The F-die -/

/-- `F_SUPPLY_IN_RANGE` (R522). -/
def execFSupplyInRange (s : State) : Outcome State Fault Refusal :=
  run (fun s => if s.pwr.f == .off then { s with pwr.f := .hold } else s) s

/-- The dwells of the PLL ramp: the owner profile of the fuses when programmed, else 10, 20 and 40 µs (R432). The fuses stand on the H-die and
the spec gives no frame that carries them: the F-die has them at once, with the link up or down.
(DESIGN CHOICE: log entry 135.) -/
def rampProfile (s : State) : State :=
  let own := s.sec.fuses.pllValid
  (s.putB CLOCK_STAT_OWNPROF own).setRaw CLOCK_RAMPPROF_D0.addr
    (if own then s.sec.fuses.pll &&& 0xFFFFFF#32 else word (10 + 256 * 20 + 65536 * 40))

/-- `F_DIE_RESET_RELEASE` (R432, R522, R544): the handshake and the ramp from N = 12 start; GRID_OPEN is driven, asserted. -/
def execFDieResetRelease (s : State) : Outcome State Fault Refusal :=
  run (fun s =>
    if s.pwr.f != .hold then s
    else rampProfile { s with pwr := { s.pwr with f := .boot, gridOpen := some true } }) s

/-- Everything that the F-die holds returns to its reset value; the keys and the certificate of the ring end (R492, R542). -/
def fDieReset (s : State) : State :=
  let h := s.heat
  let l := s.link
  let s1 : State := { s with
    regs := s.regs.filter fun p => !isF (pageOf p.1)
    pwr := { s.pwr with gridOpen := none, forceBlock := false, pllLock := false }
    link := { l with hf := { l.hf with e := 0, held := [], rx0 := false, rx1 := false, markRx := none }, fh := Dir.reset,
                     backlog := [], lostNow := 0, access := [], arrived := [], selvHeld := [], selvHolding := none, flevel := [], flost := [],
                     evNow := [], gated := false }
    host := { s.host with shadows := s.host.shadows.filter fun x => !isF (pageOf x.1.2) }
    permit := Permit.reset
    warp := Warp.reset
    weave := WeaveSt.reset
    loom := List.replicate 12 Eng.reset
    clu := List.replicate 4 Clu.reset
    warden := WardenSt.reset
    cells := List.replicate 192 CellSt.reset
    ring := List.replicate 6 RingDir.reset }
  let s2 : State := { s1 with
    twin := TwinSt.reset
    edge := EdgeSt.reset
    syn := SyncSt.reset
    blank := BlankSt.reset
    cur := CurSt.reset
    mppt := MpptSt.reset
    ride := RideSt.reset
    isl := IslSt.reset
    adc := AdcSt.reset
    fcmp := FcmpSt.reset
    meter := MeterSt.reset }
  let w := s2.wdog
  let s3 : State := { s2 with
    wdog := { Watchdog.reset with counting := w.counting }
    heat := { h with conv := List.replicate 9 [] ++ h.conv.drop 9, has := List.replicate 9 false ++ h.has.drop 9,
                     off := List.replicate 9 0 ++ h.off.drop 9, near := List.replicate 9 0 ++ h.near.drop 9,
                     entered := h.entered.set 0 0, hard := h.hard.set 0 false, scrubLeft := [0, 0, 0, 0], presetPend := false }
    s0 := { s2.s0 with base := s2.s0.base.map fun _ => none }
    sec := { s2.sec with certs := s2.sec.certs.set 3 (0, []) } }
  s3.put SECURITY_STAT_RINGCERT 0

/-- `F_SUPPLY_LOSS` (R53, R542): the H side sees the link down; the F-die resets and GRID_OPEN is undriven.
(DESIGN CHOICE: log entry 59.) -/
def execFSupplyLoss (s : State) : Outcome State Fault Refusal :=
  runS (fun s =>
    if s.pwr.f == .off then s
    else
      let s1 := fDieReset (linkLost s)
      { s1 with pwr.f := .off }) s

/-! ### The system PLL -/

/-- The ramp runs: out of reset, not locked, not given up (R432, R433). -/
def ramping (s : State) : Bool := s.pwr.f == .boot && !s.flag CLOCK_STAT_FAILED

/-- `PLL_STEP` (R432): N rises by one; at 48 the time of the ramp stands in RAMPTIME (a free value; log entry 53). PLL_LOCK is low until
the lock (R434; DESIGN CHOICE: log entry 141). -/
def execPllStep (s : State) : Outcome State Fault Refusal :=
  run (fun s =>
    if !ramping s || 48 ≤ s.get CLOCK_STAT_N then s
    else
      let n := s.get CLOCK_STAT_N + 1
      let s1 := { s.put CLOCK_STAT_N n with pwr.pllLock := false }
      if n = 48 then
        let (w, s2) := freeWord s1
        s2.put CLOCK_RAMPTIME_RAMP w.toNat
      else s1) s

/-- `PLL_STEP_TIMEOUT` (R433): the ramp fails and starts again from N = 12; after the third the loom clock stays off. -/
def execPllStepTimeout (s : State) : Outcome State Fault Refusal :=
  run (fun s =>
    if !ramping s then s
    else
      let n := s.get CLOCK_STAT_N
      let t := s.get CLOCK_STAT_TRIES + 1
      let s1 := { s.put CLOCK_STAT_TRIES t with pwr.pllLock := false }
      if t < 3 then s1.put CLOCK_STAT_N 12
      else raiseF 99 1 (t % 4 + 4 * n) (setEvt 0x07D 4 (s1.put CLOCK_STAT_FAILED 1))) s

/-- `PLL_LOCK` (R117, R433, R434): the loom clock is enabled and the warp starts; the time of the lock is a free value (log entry 53).
(DEDUCED: log entry 102.) -/
def execPllLock (s : State) : Outcome State Fault Refusal :=
  run (fun s =>
    if !ramping s || s.get CLOCK_STAT_N ≠ 48 then s
    else
      let (w, s1) := freeWord s
      let s2 := ((s1.put CLOCK_STAT_LOCK 1).put CLOCK_STAT_PLOCK 1).put CLOCK_RAMPTIME_LOCKT w.toNat
      issueRingCert (warpStart { s2 with pwr := { s2.pwr with f := .run, pllLock := true } })) s

/-- A loss of the system or the protection PLL after lock (R435): the actions of R168; the loom clock, the warp and every cluster stop. With both
lost, each loss acts.
(DEDUCED: log entry 102.) (DEDUCED: log entry 118.) -/
def pllUnlock (prot : Bool) (s : State) : State :=
  if s.pwr.f != .run && !(s.pwr.f == .boot && s.flag (if prot then CLOCK_STAT_PLOCK else CLOCK_STAT_LOCK)) then s
  else
    let s1 := blockActions (s.put CLOCK_UNLOCKW_SWARP (swarp s).toNat)
    let s2 := (s1.put CLOCK_STAT_FAILED 1).put (if prot then CLOCK_STAT_PLOCK else CLOCK_STAT_LOCK) 0
    let s3 := raiseF 100 1 (bit prot) (setEvt 0x07D 1 s2)
    let s4 := (List.range 4).foldl (fun s c => s.put (REED_CLST_MODE c) 3) s3
    { s4.put WEAVE_STAT_RUN 0 with pwr := { s4.pwr with f := .boot, pllLock := s4.pwr.pllLock && prot }, warp.running := false, weave.stopped := List.replicate 4 true }

/-- `PLL_UNLOCK` (R435). -/
def execPllUnlock (prot : Bool) (s : State) : Outcome State Fault Refusal := run (pllUnlock prot) s

/-- A loss of lock of a lane or shuttle PLL is counted and raised (R437).
(DEDUCED: log entry 103.) -/
def sdLoss (f : Fld) (what : Nat) (s : State) : State :=
  if !s.flag f then s else raiseF 99 2 what (setEvt 0x07D 2 ((s.put f 0).count CLOCK_SDLOCK_LOSSES))

/-- `LANE_PLL_LOSS` (R437): a loss of receiver lock for that lane. -/
def execLanePllLoss (lane : Nat) (s : State) : Outcome State Fault Refusal :=
  run (fun s => if lane < 8 then laneLost lane (sdLoss ⟨CLOCK_SDLOCK_LANE.addr, lane, 1⟩ lane s) else s) s

/-- `SHUTTLE_PLL_LOSS` (R437): both channels of that side leave service under R51. The register shows the F side's PLL alone (Table 14-12); the
event of source 99 comes for either side.
(DEDUCED: log entry 103.) -/
def execShuttlePllLoss (fside : Bool) (s : State) : Outcome State Fault Refusal :=
  runS (fun s =>
    let s1 := if fside then sdLoss CLOCK_SDLOCK_SHUT 8 s else raiseF 99 2 8 (setEvt 0x07D 2 s)
    channelOut (!fside) 1 (channelOut (!fside) 0 s1)) s

end Sys2Proof.Machine
end

