-- ==== Sys2Proof/Machine/TwinJoin.lean ====
section
/-! DEFINITION. The twin handshake, and how a unit joins a running partner (R526, Table 8-15): TRANSFER, PROBATION and IN_SYNC. -/

namespace Sys2Proof.Machine

open Host (Outcome)

/-- The bank and the image of a unit that joins: those its clusters ran before a yield, else those of a verified bank.
(DEDUCED: log entry 126.) -/
def joinImage (s : State) : Option (Nat × Image) :=
  match s.weave.img with
  | some i => some (s.get WEAVE_STAT_ACT, i)
  | none => ([0, 1].filterMap fun b => ((s.weave.banks.getD b Bank.empty).img).map fun i => (b, i)).head?

/-- While a unit joins, the partner's directions have every cell. -/
def partnerCells (s : State) : State :=
  [0, 1, 2].foldl (fun s ph =>
    let d := if terminates s (2 * ph) then 1 else 0
    decideOwners 1 ph (fun _ => d) s) s

/-- A joiner enters TRANSFER: it takes its image's map and enumerates its own directions (Table 8-12).
(DEDUCED: log entry 126.) -/
def joinStart (s : State) : State :=
  match joinImage s with
  | none => s
  | some (b, i) =>
    let s1 := partnerCells ((applyMap i { s with weave.img := some i }).put WEAVE_STAT_ACT b)
    enumAdvance ((List.range 6).foldl (fun s l => if terminates s l && s.get (RING_STAT_STATE l) = 6 then startEnum l s else s) s1)

/-- A unit takes the warp and its steering from the other (R526, Table 8-15). -/
def takeWarp (c : WarpCopy) (s : State) : State :=
  let s1 : State := { s with warp := { s.warp with acc := c.acc, incNext := c.incNext, delta := c.delta, fHold := c.fHold, fLast := c.fLast,
                                                   fBefore := c.fBefore, lockRun := c.lockRun, hold := c.hold } }
  ((s1.put WARP_INC_INC c.inc).put WARP_STAT_STATE c.state).putB WARP_STAT_LOCK c.lock

/-- `TWIN_HANDSHAKE_DONE` (R526, Table 8-15): with equal hashes and different unit numbers, two units that start together go IN_SYNC, unit 1
with the warp and the steering of unit 0; a running unit that accepts and a joining one go to TRANSFER. -/
def execTwinHandshakeDone (peer : TwinPeer) (s : State) : Outcome State Fault Refusal :=
  run (fun s =>
    if twinState s != 2 || ownTwinHash s != some peer.hash || peer.unit = unitNo s then s
    else
      let s1 := { putTwin RING_TWSTAT_PUNIT peer.unit s with twin.key := peer.key }
      let runs := s.flag WEAVE_STAT_RUN
      if !runs && !peer.running then
        let s2 := if unitNo s1 = 1 then takeWarp peer.warp s1 else s1
        let s3 := setTwin 5 { s2 with twin := { s2.twin with lastEnd := some (absPick s2), joiner := false } }
        { s3 with twin.since := absPick s3 + 1 }
      else if !runs && peer.running && peer.accept then joinStart (setTwin 3 { s1 with twin.joiner := true })
      else if runs && !peer.running && s1.flag (RING_TWCTL_ACCEPT 6) then setTwin 3 { s1 with twin.joiner := false }
      else s1) s

/-- The joiner takes the running unit's state into all three engines of each cluster (Table 8-15, Table 7-3).
(DEDUCED: log entry 126.) -/
def takeCopy (cp : TwinCopy) (s : State) : State :=
  let eng := fun (s : State) (k : Nat) =>
    match cp.clusters[k / 3]? with
    | none => s
    | some c => modEng k (fun e => { e with g := c.g, p := c.p, a := c.a, acc := c.a, dm := c.dm, at' := c.at' }) s
  let clu := fun (s : State) (k : Nat) =>
    match cp.clusters[k]? with
    | none => s
    | some c => modClu k (fun x => { x with ringBuf := c.ringBuf, adcBuf := c.adcBuf }) s
  let cell := fun (s : State) (g : Nat) =>
    match cp.dl[g]? with
    | none => s
    | some d => modCell g (fun c => { c with dl := ⟨d.1, d.2.1, d.2.2.1, d.2.2.2 % 4, d.2.2.2.testBit 2, d.2.2.2.testBit 3⟩ }) s
  let s1 := (List.range 4).foldl clu ((List.range 12).foldl eng s)
  let s2 : State := { s1 with weave := { s1.weave with shared := cp.shared, params := cp.params, began := cp.began } }
  (List.range 192).foldl cell (takeWarp cp.warp s2)

/-- The edge generator takes the partner's place in the carrier and its duties.
(DEDUCED: log entry 126.) -/
def takeEdges (cp : TwinCopy) (s : State) : State :=
  let duty := fun (s : State) (g : Nat) =>
    match cp.duties[g]? with
    | none => s
    | some d => modEdge g (fun e => { e with shL := d.1, shM := d.2 }) s
  let s1 := edgeStart s
  let s2 := ({ s1 with edge.nextB := cp.nextB }).put EDGE_STAT_CPC (s1.get EDGE_STAT_PLEN - (cp.nextB - absPick s1))
  (List.range 192).foldl duty s2

/-- The joiner's clusters are loaded and take the copy. They issue in step from then on; a unit that has yielded stays in the idle plan until
it is IN_SYNC (R67; log entry 126). -/
def joinRun (cp : TwinCopy) (s : State) : State :=
  let s1 := match s.weave.img with
    | some i => loadLoom i s
    | none => s
  let s2 := idleRun (takeEdges cp (takeCopy cp s1))
  if s2.permit.yielded || s2.weave.img.isNone then s2
  else
    let s3 := { s2 with warp.begun := true, weave := { s2.weave with fbFactor := 1 } }
    refreshBanks (((adcRefresh s3).put (WEAVE_BANK_STATE (s3.get WEAVE_STAT_ACT)) 5).put WEAVE_STAT_RUN 1)

/-- `TWIN_COPY_VERIFIED` (R526, Table 8-15): the copy to the joiner is verified, or the join is abandoned. -/
def execTwinCopyVerified (ok : Bool) (cp : TwinCopy) (s : State) : Outcome State Fault Refusal :=
  run (fun s =>
    if twinState s != 3 then s
    else if ok then
      let s1 := putTwin RING_TWSTAT_XFER 100 (if s.twin.joiner then joinRun cp s else s)
      setTwin 4 { s1 with twin.lastEnd := some (absPick s1) }
    else setTwin 6 s) s

/-- `TWIN_PROBATION_END` (R526, Table 8-15): the first cycle boundary at least 1,024 pk after probation began. A unit that had yielded runs
again (R67). -/
def execTwinProbationEnd (s : State) : Outcome State Fault Refusal :=
  run (fun s =>
    if twinState s != 4 || pickOf s != 0 || absPick s < s.twin.since + 1024 then s
    else
      let s1 := setTwin 5 { s with twin.yieldAt := none }
      if s1.permit.yielded then
        ({ s1 with permit := { s1.permit with yielded := false, forced := false } }.put SHUTTLE_F_STAT_YIELDED 0).put WEAVE_STAT_RUN 1
      else s1) s

end Sys2Proof.Machine
end

