-- ==== Sys2Proof/Machine/Dispatch.lean ====
section
/-! DEFINITION. The meaning of every command: one arm per constructor of Instr, each one direct call. -/

namespace Sys2Proof.Machine

def exec (i : Instr) (s : State) : Host.Outcome State Fault Refusal :=
  match i with
  | .hSupplyInRange => Sys2Proof.Machine.execHSupplyInRange s
  | .hDieResetRelease => Sys2Proof.Machine.execHDieResetRelease s
  | .hFirmwareStart => Sys2Proof.Machine.execHFirmwareStart s
  | .hDieReset => Sys2Proof.Machine.execHDieReset s
  | .pcieReset asserted => Sys2Proof.Machine.execPcieReset asserted s
  | .fSupplyInRange => Sys2Proof.Machine.execFSupplyInRange s
  | .fDieResetRelease => Sys2Proof.Machine.execFDieResetRelease s
  | .fSupplyLoss => Sys2Proof.Machine.execFSupplyLoss s
  | .pllStep => Sys2Proof.Machine.execPllStep s
  | .pllStepTimeout => Sys2Proof.Machine.execPllStepTimeout s
  | .pllLock => Sys2Proof.Machine.execPllLock s
  | .pllUnlock prot => Sys2Proof.Machine.execPllUnlock prot s
  | .refclkHLoss => Sys2Proof.Machine.execRefclkHLoss s
  | .lanePllLoss lane => Sys2Proof.Machine.execLanePllLoss lane s
  | .shuttlePllLoss fside => Sys2Proof.Machine.execShuttlePllLoss fside s
  | .readReq ch seq addr tag count agent => Sys2Proof.Machine.execReadReq ch seq addr tag count agent s
  | .readRsp ch seq addr tag status data => Sys2Proof.Machine.execReadRsp ch seq addr tag status data s
  | .postedWr ch seq addr data => Sys2Proof.Machine.execPostedWr ch seq addr data s
  | .stagedWr ch seq addr data => Sys2Proof.Machine.execStagedWr ch seq addr data s
  | .event ch seq e => Sys2Proof.Machine.execEvent ch seq e s
  | .timeMark toH ch next stamp sec frac trigger mark lc dt => Sys2Proof.Machine.execTimeMark toH ch next stamp sec frac trigger mark lc dt s
  | .bulk ch seq offset target length xfer data => Sys2Proof.Machine.execBulk ch seq offset target length xfer data s
  | .selvFrag ch seq req frag flags length data => Sys2Proof.Machine.execSelvFrag ch seq req frag flags length data s
  | .keepalive toH ch next ack bits => Sys2Proof.Machine.execKeepalive toH ch next ack bits s
  | .corruptFrame toH ch dt bytes => Sys2Proof.Machine.execCorruptFrame toH ch dt bytes s
  | .replayRequest toH => Sys2Proof.Machine.execReplayRequest toH s
  | .replayRequestTimeout toH => Sys2Proof.Machine.execReplayRequestTimeout toH s
  | .replayRepeat toH => Sys2Proof.Machine.execReplayRepeat toH s
  | .frameSlot fromH t => Sys2Proof.Machine.execFrameSlot fromH t s
  | .keepaliveIdle fromH => Sys2Proof.Machine.execKeepaliveIdle fromH s
  | .channelSilent toH ch => Sys2Proof.Machine.execChannelSilent toH ch s
  | .channelRetrain toH ch => Sys2Proof.Machine.execChannelRetrain toH ch s
  | .linkUp hf fh => Sys2Proof.Machine.execLinkUp hf fh s
  | .linkDownTimeout => Sys2Proof.Machine.execLinkDownTimeout s
  | .readResponseTimeout tag => Sys2Proof.Machine.execReadResponseTimeout tag s
  | .calibrationMark rt ta => Sys2Proof.Machine.execCalibrationMark rt ta s
  | .permitEdge dt => Sys2Proof.Machine.execPermitEdge dt s
  | .permitTimeout => Sys2Proof.Machine.execPermitTimeout s
  | .permitStable => Sys2Proof.Machine.execPermitStable s
  | .reopen => Sys2Proof.Machine.execReopen s
  | .yieldArm arm => Sys2Proof.Machine.execYieldArm arm s
  | .yieldExpiry => Sys2Proof.Machine.execYieldExpiry s
  | .pcieReadTlp tag req dt => Sys2Proof.Machine.execPcieReadTlp tag req dt s
  | .pcieWriteTlp req => Sys2Proof.Machine.execPcieWriteTlp req s
  | .bar2Write off data => Sys2Proof.Machine.execBar2Write off data s
  | .flr => Sys2Proof.Machine.execFlr s
  | .pcieLinkDown => Sys2Proof.Machine.execPcieLinkDown s
  | .spiRead addr count dt => Sys2Proof.Machine.execSpiRead addr count dt s
  | .spiWrite addr data crc => Sys2Proof.Machine.execSpiWrite addr data crc s
  | .spiQread addr count dt => Sys2Proof.Machine.execSpiQread addr count dt s
  | .spiQwrite addr data crc => Sys2Proof.Machine.execSpiQwrite addr data crc s
  | .spiStatus => Sys2Proof.Machine.execSpiStatus s
  | .spiInvalidCommand code => Sys2Proof.Machine.execSpiInvalidCommand code s
  | .spiStatusDeadline => Sys2Proof.Machine.execSpiStatusDeadline s
  | .spiCsRise => Sys2Proof.Machine.execSpiCsRise s
  | .hostAccessExecute lc => Sys2Proof.Machine.execHostAccessExecute lc s
  | .gateHeddle => Sys2Proof.Machine.execGateHeddle s
  | .registerWrite agent addr value => Sys2Proof.Machine.execRegisterWrite agent addr value s
  | .pgevtWrite page value => Sys2Proof.Machine.execPgevtWrite page value s
  | .pgevtset page value => Sys2Proof.Machine.execPgevtset page value s
  | .pgevtclr page value => Sys2Proof.Machine.execPgevtclr page value s
  | .errclr page => Sys2Proof.Machine.execErrclr page s
  | .pglock page value => Sys2Proof.Machine.execPglock page value s
  | .hwdkick value => Sys2Proof.Machine.execHwdkick value s
  | .hwdctlWrite value => Sys2Proof.Machine.execHwdctlWrite value s
  | .watchdogExpiry => Sys2Proof.Machine.execWatchdogExpiry s
  | .watchdogAction => Sys2Proof.Machine.execWatchdogAction s
  | .watchdogRampEnd => Sys2Proof.Machine.execWatchdogRampEnd s
  | .claim target => Sys2Proof.Machine.execClaim target s
  | .complete target value => Sys2Proof.Machine.execComplete target value s
  | .pendset idx value => Sys2Proof.Machine.execPendset idx value s
  | .pendclr idx value => Sys2Proof.Machine.execPendclr idx value s
  | .maskset idx value => Sys2Proof.Machine.execMaskset idx value s
  | .maskclr idx value => Sys2Proof.Machine.execMaskclr idx value s
  | .outcfgWrite target value => Sys2Proof.Machine.execOutcfgWrite target value s
  | .srccfgWrite src value => Sys2Proof.Machine.execSrccfgWrite src value s
  | .wardenTargetPass => Sys2Proof.Machine.execWardenTargetPass s
  | .selvReq value => Sys2Proof.Machine.execSelvReq value s
  | .selvedgeCapture => Sys2Proof.Machine.execSelvedgeCapture s
  | .selvedgeTimeout => Sys2Proof.Machine.execSelvedgeTimeout s
  | .pickBoundary inputs => Sys2Proof.Machine.execPickBoundary inputs s
  | .measurementValid => Sys2Proof.Machine.execMeasurementValid s
  | .fmFreezeEnd => Sys2Proof.Machine.execFmFreezeEnd s
  | .flywheelLimit => Sys2Proof.Machine.execFlywheelLimit s
  | .warpLock => Sys2Proof.Machine.execWarpLock s
  | .nowLoRead agent lc => Sys2Proof.Machine.execNowLoRead agent lc s
  | .ppsEdge dt => Sys2Proof.Machine.execPpsEdge dt s
  | .ppsHoldover => Sys2Proof.Machine.execPpsHoldover s
  | .ppsHoldmax => Sys2Proof.Machine.execPpsHoldmax s
  | .rtcCompare err => Sys2Proof.Machine.execRtcCompare err s
  | .rtcRealign => Sys2Proof.Machine.execRtcRealign s
  | .wallClockLoad elapsed => Sys2Proof.Machine.execWallClockLoad elapsed s
  | .secLoRead agent dt => Sys2Proof.Machine.execSecLoRead agent dt s
  | .setctlArm => Sys2Proof.Machine.execSetctlArm s
  | .setctlCancel => Sys2Proof.Machine.execSetctlCancel s
  | .secondsSet => Sys2Proof.Machine.execSecondsSet s
  | .atlGo => Sys2Proof.Machine.execAtlGo s
  | .atlSloRead agent => Sys2Proof.Machine.execAtlSloRead agent s
  | .angleZeroMark => Sys2Proof.Machine.execAngleZeroMark s
  | .warpImageStale => Sys2Proof.Machine.execWarpImageStale s
  | .sampleTrigger input dly => Sys2Proof.Machine.execSampleTrigger input dly s
  | .adcConversionDone core lc code => Sys2Proof.Machine.execAdcConversionDone core lc code s
  | .heddleEnd c => Sys2Proof.Machine.execHeddleEnd c s
  | .bgDeadline c job => Sys2Proof.Machine.execBgDeadline c job s
  | .recordCommit c b differ => Sys2Proof.Machine.execRecordCommit c b differ s
  | .commandBurst lane => Sys2Proof.Machine.execCommandBurst lane s
  | .rxdone c missing => Sys2Proof.Machine.execRxdone c missing s
  | .inputRestored g => Sys2Proof.Machine.execInputRestored g s
  | .bypassConfirmTimeout g => Sys2Proof.Machine.execBypassConfirmTimeout g s
  | .nodeLostTimeout g => Sys2Proof.Machine.execNodeLostTimeout g s
  | .service cell value => Sys2Proof.Machine.execService cell value s
  | .fallbackStart => Sys2Proof.Machine.execFallbackStart s
  | .fallbackRampDone => Sys2Proof.Machine.execFallbackRampDone s
  | .fallbackBlock => Sys2Proof.Machine.execFallbackBlock s
  | .weaveVerify bank => Sys2Proof.Machine.execWeaveVerify bank s
  | .imageVerified bank o => Sys2Proof.Machine.execImageVerified bank o s
  | .weaveErase bank => Sys2Proof.Machine.execWeaveErase bank s
  | .switchGo value lc => Sys2Proof.Machine.execSwitchGo value lc s
  | .switchCancel => Sys2Proof.Machine.execSwitchCancel s
  | .switchCheck => Sys2Proof.Machine.execSwitchCheck s
  | .weaveSwitch => Sys2Proof.Machine.execWeaveSwitch s
  | .coldLoadDone => Sys2Proof.Machine.execColdLoadDone s
  | .add e w x => Sys2Proof.Machine.execAdd e w x s
  | .sub e w x => Sys2Proof.Machine.execSub e w x s
  | .addi e w x => Sys2Proof.Machine.execAddi e w x s
  | .and e w x => Sys2Proof.Machine.execAnd e w x s
  | .or e w x => Sys2Proof.Machine.execOr e w x s
  | .xor e w x => Sys2Proof.Machine.execXor e w x s
  | .andn e w x => Sys2Proof.Machine.execAndn e w x s
  | .shl e w x => Sys2Proof.Machine.execShl e w x s
  | .shr e w x => Sys2Proof.Machine.execShr e w x s
  | .sar e w x => Sys2Proof.Machine.execSar e w x s
  | .shli e w x => Sys2Proof.Machine.execShli e w x s
  | .shri e w x => Sys2Proof.Machine.execShri e w x s
  | .sari e w x => Sys2Proof.Machine.execSari e w x s
  | .min e w x => Sys2Proof.Machine.execMin e w x s
  | .max e w x => Sys2Proof.Machine.execMax e w x s
  | .sel e w x => Sys2Proof.Machine.execSel e w x s
  | .li e w x => Sys2Proof.Machine.execLi e w x s
  | .lih e w x => Sys2Proof.Machine.execLih e w x s
  | .cmp e w x => Sys2Proof.Machine.execCmp e w x s
  | .qadd e w x => Sys2Proof.Machine.execQadd e w x s
  | .qsub e w x => Sys2Proof.Machine.execQsub e w x s
  | .qabs e w x => Sys2Proof.Machine.execQabs e w x s
  | .qmul e w x => Sys2Proof.Machine.execQmul e w x s
  | .qmac e w x => Sys2Proof.Machine.execQmac e w x s
  | .qmsb e w x => Sys2Proof.Machine.execQmsb e w x s
  | .qmz e w x => Sys2Proof.Machine.execQmz e w x s
  | .acr e w x => Sys2Proof.Machine.execAcr e w x s
  | .acw e w x => Sys2Proof.Machine.execAcw e w x s
  | .fadd e w x => Sys2Proof.Machine.execFadd e w x s
  | .fsub e w x => Sys2Proof.Machine.execFsub e w x s
  | .fmul e w x => Sys2Proof.Machine.execFmul e w x s
  | .fma e w x => Sys2Proof.Machine.execFma e w x s
  | .fmin e w x => Sys2Proof.Machine.execFmin e w x s
  | .fmax e w x => Sys2Proof.Machine.execFmax e w x s
  | .fneg e w x => Sys2Proof.Machine.execFneg e w x s
  | .fabs e w x => Sys2Proof.Machine.execFabs e w x s
  | .fcmp e w x => Sys2Proof.Machine.execFcmp e w x s
  | .fcvt e w x => Sys2Proof.Machine.execFcvt e w x s
  | .frcp e w x => Sys2Proof.Machine.execFrcp e w x s
  | .frsq e w x => Sys2Proof.Machine.execFrsq e w x s
  | .ldw e w x => Sys2Proof.Machine.execLdw e w x s
  | .ldd e w x => Sys2Proof.Machine.execLdd e w x s
  | .stw e w x => Sys2Proof.Machine.execStw e w x s
  | .std e w x => Sys2Proof.Machine.execStd e w x s
  | .ldx e w x => Sys2Proof.Machine.execLdx e w x s
  | .stx e w x => Sys2Proof.Machine.execStx e w x s
  | .lda e w x => Sys2Proof.Machine.execLda e w x s
  | .ldaw e w x => Sys2Proof.Machine.execLdaw e w x s
  | .sta e w x => Sys2Proof.Machine.execSta e w x s
  | .lds e w x => Sys2Proof.Machine.execLds e w x s
  | .ldp e w x => Sys2Proof.Machine.execLdp e w x s
  | .ldr e w x => Sys2Proof.Machine.execLdr e w x s
  | .ldb e w x => Sys2Proof.Machine.execLdb e w x s
  | .bra e w x => Sys2Proof.Machine.execBra e w x s
  | .bri e w x => Sys2Proof.Machine.execBri e w x s
  | .call e w x => Sys2Proof.Machine.execCall e w x s
  | .ret e w x => Sys2Proof.Machine.execRet e w x s
  | .loopi e w x => Sys2Proof.Machine.execLoopi e w x s
  | .loopr e w x => Sys2Proof.Machine.execLoopr e w x s
  | .crd e w x => Sys2Proof.Machine.execCrd e w x s
  | .cwr e w x => Sys2Proof.Machine.execCwr e w x s
  | .cwi e w x => Sys2Proof.Machine.execCwi e w x s
  | .jend e w x => Sys2Proof.Machine.execJend e w x s
  | .endMarker e w x => Sys2Proof.Machine.execEndMarker e w x s
  | .rece e w x => Sys2Proof.Machine.execRece e w x s
  | .recr e w x => Sys2Proof.Machine.execRecr e w x s
  | .recs e w x => Sys2Proof.Machine.execRecs e w x s
  | .recv e w x => Sys2Proof.Machine.execRecv e w x s
  | .operationComplete e clocks => Sys2Proof.Machine.execOperationComplete e clocks s
  | .stepctl e value => Sys2Proof.Machine.execStepctl e value s
  | .steppc e value => Sys2Proof.Machine.execSteppc e value s
  | .stepRunEnd e => Sys2Proof.Machine.execStepRunEnd e s
  | .engineIsolate e => Sys2Proof.Machine.execEngineIsolate e s
  | .repairStart c => Sys2Proof.Machine.execRepairStart c s
  | .repairVerified c bad => Sys2Proof.Machine.execRepairVerified c bad s
  | .repairRejoin c => Sys2Proof.Machine.execRepairRejoin c s
  | .hold e => Sys2Proof.Machine.execHold e s
  | .release e => Sys2Proof.Machine.execRelease e s
  | .repair e => Sys2Proof.Machine.execRepair e s
  | .halfretry c half => Sys2Proof.Machine.execHalfretry c half s
  | .engctlApply => Sys2Proof.Machine.execEngctlApply s
  | .reedHalfTrip c half => Sys2Proof.Machine.execReedHalfTrip c half s
  | .halfSelftestDone c half pass => Sys2Proof.Machine.execHalfSelftestDone c half pass s
  | .halfRejoin c half => Sys2Proof.Machine.execHalfRejoin c half s
  | .wardenStart => Sys2Proof.Machine.execWardenStart s
  | .wardenRestart => Sys2Proof.Machine.execWardenRestart s
  | .wardenWatchdog => Sys2Proof.Machine.execWardenWatchdog s
  | .auditBlock c n => Sys2Proof.Machine.execAuditBlock c n s
  | .wardenIrqTake writes => Sys2Proof.Machine.execWardenIrqTake writes s
  | .wardenFwVerify => Sys2Proof.Machine.execWardenFwVerify s
  | .wardenFwActivate => Sys2Proof.Machine.execWardenFwActivate s
  | .wardenFwErase => Sys2Proof.Machine.execWardenFwErase s
  | .collectBurstReturn lane b => Sys2Proof.Machine.execCollectBurstReturn lane b s
  | .cellOwnerMove g => Sys2Proof.Machine.execCellOwnerMove g s
  | .directionFail lane => Sys2Proof.Machine.execDirectionFail lane s
  | .receiverLockLoss lane => Sys2Proof.Machine.execReceiverLockLoss lane s
  | .directionReturning lane => Sys2Proof.Machine.execDirectionReturning lane s
  | .defaultOwnershipReturn lane => Sys2Proof.Machine.execDefaultOwnershipReturn lane s
  | .cellDefaultReturn g => Sys2Proof.Machine.execCellDefaultReturn g s
  | .enum lane => Sys2Proof.Machine.execEnum lane s
  | .laneTrained lane ok ms => Sys2Proof.Machine.execLaneTrained lane ok ms s
  | .discoverReturn lane d ms => Sys2Proof.Machine.execDiscoverReturn lane d ms s
  | .nodeKeyed lane hop res ms key msgs => Sys2Proof.Machine.execNodeKeyed lane hop res ms key msgs s
  | .nodeConfigured lane hop ack ms msgs => Sys2Proof.Machine.execNodeConfigured lane hop ack ms msgs s
  | .twinBurst b => Sys2Proof.Machine.execTwinBurst b s
  | .partnerLost => Sys2Proof.Machine.execPartnerLost s
  | .twinLaneLock lane => Sys2Proof.Machine.execTwinLaneLock lane s
  | .twinHandshakeDone peer => Sys2Proof.Machine.execTwinHandshakeDone peer s
  | .twinCopyVerified ok cp => Sys2Proof.Machine.execTwinCopyVerified ok cp s
  | .twinProbationEnd => Sys2Proof.Machine.execTwinProbationEnd s
  | .join => Sys2Proof.Machine.execJoin s
  | .carrierBoundary => Sys2Proof.Machine.execCarrierBoundary s
  | .loadPoint ph => Sys2Proof.Machine.execLoadPoint ph s
  | .syncInPulse high ns lc => Sys2Proof.Machine.execSyncInPulse high ns lc s
  | .syncLost => Sys2Proof.Machine.execSyncLost s
  | .blankWindowOpen t => Sys2Proof.Machine.execBlankWindowOpen t s
  | .blankWindowClose t => Sys2Proof.Machine.execBlankWindowClose t s
  | .energyLoopStep => Sys2Proof.Machine.execEnergyLoopStep s
  | .balanceStep => Sys2Proof.Machine.execBalanceStep s
  | .learnPublish => Sys2Proof.Machine.execLearnPublish s
  | .fwEnd => Sys2Proof.Machine.execFwEnd s
  | .trackerUpdate => Sys2Proof.Machine.execTrackerUpdate s
  | .sixteenPickCheck => Sys2Proof.Machine.execSixteenPickCheck s
  | .curtailRelease g => Sys2Proof.Machine.execCurtailRelease g s
  | .scanPass => Sys2Proof.Machine.execScanPass s
  | .scanGo => Sys2Proof.Machine.execScanGo s
  | .scanAbort => Sys2Proof.Machine.execScanAbort s
  | .bankScanStart => Sys2Proof.Machine.execBankScanStart s
  | .scanPoint => Sys2Proof.Machine.execScanPoint s
  | .bankScanEnd => Sys2Proof.Machine.execBankScanEnd s
  | .rtEventEnd => Sys2Proof.Machine.execRtEventEnd s
  | .tripTimer => Sys2Proof.Machine.execTripTimer s
  | .curvctlCommit => Sys2Proof.Machine.execCurvctlCommit s
  | .chipEnd => Sys2Proof.Machine.execChipEnd s
  | .passiveConfirm => Sys2Proof.Machine.execPassiveConfirm s
  | .suspensionTmax => Sys2Proof.Machine.execSuspensionTmax s
  | .suspensionEnd => Sys2Proof.Machine.execSuspensionEnd s
  | .waitTimer => Sys2Proof.Machine.execWaitTimer s
  | .syncHold => Sys2Proof.Machine.execSyncHold s
  | .syncTimeout => Sys2Proof.Machine.execSyncTimeout s
  | .breakerTime => Sys2Proof.Machine.execBreakerTime s
  | .rampComplete => Sys2Proof.Machine.execRampComplete s
  | .rangeUp input => Sys2Proof.Machine.execRangeUp input s
  | .calibrationInterval => Sys2Proof.Machine.execCalibrationInterval s
  | .fcmpTrip cmp input => Sys2Proof.Machine.execFcmpTrip cmp input s
  | .latchRearm cmp input => Sys2Proof.Machine.execLatchRearm cmp input s
  | .tripclr value => Sys2Proof.Machine.execTripclr value s
  | .selfCheck cmp raws input => Sys2Proof.Machine.execSelfCheck cmp raws input s
  | .scGo => Sys2Proof.Machine.execScGo s
  | .meterWindowEnd => Sys2Proof.Machine.execMeterWindowEnd s
  | .meterELoRead agent k => Sys2Proof.Machine.execMeterELoRead agent k s
  | .pqRefresh => Sys2Proof.Machine.execPqRefresh s
  | .checkStart => Sys2Proof.Machine.execCheckStart s
  | .chkctlGo => Sys2Proof.Machine.execChkctlGo s
  | .checkDone => Sys2Proof.Machine.execCheckDone s
  | .checkInvalidTimeout => Sys2Proof.Machine.execCheckInvalidTimeout s
  | .checkRetry => Sys2Proof.Machine.execCheckRetry s
  | .s0Pulse n on off => Sys2Proof.Machine.execS0Pulse n on off s
  | .s0Maxon n => Sys2Proof.Machine.execS0Maxon n s
  | .sensorReading fdie => Sys2Proof.Machine.execSensorReading fdie s
  | .sensorExclude sensor => Sys2Proof.Machine.execSensorExclude sensor s
  | .sensorReadmit sensor => Sys2Proof.Machine.execSensorReadmit sensor s
  | .hreq value => Sys2Proof.Machine.execHreq value s
  | .ntcReading n x => Sys2Proof.Machine.execNtcReading n x s
  | .fthermCopy => Sys2Proof.Machine.execFthermCopy s
  | .fthermStale => Sys2Proof.Machine.execFthermStale s
  | .scrubPass errs => Sys2Proof.Machine.execScrubPass errs s
  | .touchScan raws => Sys2Proof.Machine.execTouchScan raws s
  | .stuckKey key => Sys2Proof.Machine.execStuckKey key s
  | .buttonSample levels same => Sys2Proof.Machine.execButtonSample levels same s
  | .ledOpen led => Sys2Proof.Machine.execLedOpen led s
  | .vbusPlug => Sys2Proof.Machine.execVbusPlug s
  | .vbusUnplug => Sys2Proof.Machine.execVbusUnplug s
  | .svcOpen tag level cred fits => Sys2Proof.Machine.execSvcOpen tag level cred fits s
  | .svcClose tag => Sys2Proof.Machine.execSvcClose tag s
  | .svcRead tag addr count fits => Sys2Proof.Machine.execSvcRead tag addr count fits s
  | .svcWrite tag addr count data => Sys2Proof.Machine.execSvcWrite tag addr count data s
  | .svcPing tag => Sys2Proof.Machine.execSvcPing tag s
  | .usbBusReset => Sys2Proof.Machine.execUsbBusReset s
  | .usbSuspend => Sys2Proof.Machine.execUsbSuspend s
  | .serviceIdle => Sys2Proof.Machine.execServiceIdle s
  | .serviceKick => Sys2Proof.Machine.execServiceKick s
  | .safetySample levels => Sys2Proof.Machine.execSafetySample levels s
  | .testPulse tpb readbackLow levels => Sys2Proof.Machine.execTestPulse tpb readbackLow levels s
  | .safetySelftestDone cause => Sys2Proof.Machine.execSafetySelftestDone cause s
  | .safetyReset value same => Sys2Proof.Machine.execSafetyReset value same s
  | .safetyStop value => Sys2Proof.Machine.execSafetyStop value s
  | .sealRead s1 s2 s3 => Sys2Proof.Machine.execSealRead s1 s2 s3 s
  | .sealReadCmd => Sys2Proof.Machine.execSealReadCmd s
  | .sealRetry s1 s2 s3 => Sys2Proof.Machine.execSealRetry s1 s2 s3 s
  | .pwmPeriod ch code cur busy => Sys2Proof.Machine.execPwmPeriod ch code cur busy s
  | .zeroCrossing ch len rev expected => Sys2Proof.Machine.execZeroCrossing ch len rev expected s
  | .hallChange ch code len => Sys2Proof.Machine.execHallChange ch code len s
  | .hallInvalid ch => Sys2Proof.Machine.execHallInvalid ch s
  | .commutation ch len => Sys2Proof.Machine.execCommutation ch len s
  | .catchEnd ch => Sys2Proof.Machine.execCatchEnd ch s
  | .alignEnd ch => Sys2Proof.Machine.execAlignEnd ch s
  | .rampTimeout ch => Sys2Proof.Machine.execRampTimeout ch s
  | .stall ch => Sys2Proof.Machine.execStall ch s
  | .stallRetry ch => Sys2Proof.Machine.execStallRetry ch s
  | .coastEnd ch after2s => Sys2Proof.Machine.execCoastEnd ch after2s s
  | .driverUndervoltage => Sys2Proof.Machine.execDriverUndervoltage s
  | .uvRelease => Sys2Proof.Machine.execUvRelease s
  | .halfBridgeFault ch phase cause present => Sys2Proof.Machine.execHalfBridgeFault ch phase cause present s
  | .louvreCtl ch value same => Sys2Proof.Machine.execLouvreCtl ch value same s
  | .speedLoop ch => Sys2Proof.Machine.execSpeedLoop ch s
  | .curveReading ch => Sys2Proof.Machine.execCurveReading ch s
  | .auxCycle endBy duty fb => Sys2Proof.Machine.execAuxCycle endBy duty fb s
  | .auxFaultTimer input => Sys2Proof.Machine.execAuxFaultTimer input s
  | .auxEn value => Sys2Proof.Machine.execAuxEn value s
  | .auxRestart => Sys2Proof.Machine.execAuxRestart s
  | .auxSoftstartTimeout => Sys2Proof.Machine.execAuxSoftstartTimeout s
  | .hiccupEnd => Sys2Proof.Machine.execHiccupEnd s
  | .inuvRecover elapsed => Sys2Proof.Machine.execInuvRecover elapsed s
  | .hadcScan codes => Sys2Proof.Machine.execHadcScan codes s
  | .hcmpTrip cmp tripped => Sys2Proof.Machine.execHcmpTrip cmp tripped s
  | .quoteGo => Sys2Proof.Machine.execQuoteGo s
  | .quoteDone => Sys2Proof.Machine.execQuoteDone s
  | .owncert value => Sys2Proof.Machine.execOwncert value s
  | .lifecycleReq value => Sys2Proof.Machine.execLifecycleReq value s
  | .fuseWordBurned => Sys2Proof.Machine.execFuseWordBurned s
  | .fuseokTimeout => Sys2Proof.Machine.execFuseokTimeout s
  | .burn value => Sys2Proof.Machine.execBurn value s
  | .extest pins preload => Sys2Proof.Machine.execExtest pins preload s
  | .idcode => Sys2Proof.Machine.execIdcode s
  | .samplePreload pins preload => Sys2Proof.Machine.execSamplePreload pins preload s
  | .challenge => Sys2Proof.Machine.execChallenge s
  | .response token => Sys2Proof.Machine.execResponse token s
  | .wstatus => Sys2Proof.Machine.execWstatus s
  | .bypass => Sys2Proof.Machine.execBypass s
  | .trstLow => Sys2Proof.Machine.execTrstLow s
  | .wicketClose => Sys2Proof.Machine.execWicketClose s
  | .wicketDisable => Sys2Proof.Machine.execWicketDisable s
  | .securityFwVerify => Sys2Proof.Machine.execSecurityFwVerify s
  | .securityFwActivate => Sys2Proof.Machine.execSecurityFwActivate s
  | .securityFwErase => Sys2Proof.Machine.execSecurityFwErase s
  | .hDieRestartDone => Sys2Proof.Machine.execHDieRestartDone s
  | .porterSourceChange src vsto elapsed => Sys2Proof.Machine.execPorterSourceChange src vsto elapsed s
  | .porterStop elapsed => Sys2Proof.Machine.execPorterStop elapsed s
  | .porterRestart src vsto => Sys2Proof.Machine.execPorterRestart src vsto s
  | .harvestSample voc vsto elapsed => Sys2Proof.Machine.execHarvestSample voc vsto elapsed s
  | .batteryMeasure mv elapsed => Sys2Proof.Machine.execBatteryMeasure mv elapsed s
  | .rtcTrim elapsed => Sys2Proof.Machine.execRtcTrim elapsed s
  | .doorWatch levels elapsed => Sys2Proof.Machine.execDoorWatch levels elapsed s
  | .zc12Update cell carried keys msgs => Sys2Proof.Machine.execZc12Update cell carried keys msgs s
  | .permitToggle ok => Sys2Proof.Machine.execPermitToggle ok s
  | .sensorConversion sensor value faulty => Sys2Proof.Machine.execSensorConversion sensor value faulty s
  | .lanePllLock lane => Sys2Proof.Machine.execLanePllLock lane s
  | .wardenFwstby => Sys2Proof.Machine.execWardenFwstby s
  | .securityFwstby => Sys2Proof.Machine.execSecurityFwstby s
  | .undefinedOperation e w x => Sys2Proof.Machine.execUndefinedOperation e w x s
  | .nop e w x => Sys2Proof.Machine.execNop e w x s
  | .usbStandardRequest request value => Sys2Proof.Machine.execUsbStandardRequest request value s

end Sys2Proof.Machine
end

