-- ==== Sys2Proof/Safety.lean ====
section
/-! DEFINITION. What every state of a run keeps, in the terms the claims use: the canonical forms of the register space and of the byte
stores, and the bounds that the spec gives the block's queues and buffers. -/

namespace Sys2Proof.Machine

/-- The register space is in its one form: addresses rise, and no entry equals its register's reset word. -/
abbrev Regs.wf (l : List (Nat × Word)) : Prop := l.Pairwise (fun x y => x.1 < y.1) ∧ ∀ x ∈ l, x.2 ≠ resetWord x.1

/-- A byte store is in its one form: offsets rise, and no byte that is 0x00 is listed. -/
abbrev Memory.wf (m : List Host.Cell) : Prop := m.Pairwise (fun x y => x.1 < y.1) ∧ ∀ x ∈ m, x.2 ≠ 0#8

/-- What every step keeps: canonical registers, image banks, standby area and selvedge buffers; at most 4,096 journal entries (R108), 512
retained entries (R516), 1,024 backlog events (R56), 128 kept frames per direction (R46) and 8 held service requests (R451). -/
abbrev State.Inv (s : State) : Prop :=
  Regs.wf s.regs ∧ (∀ b ∈ s.weave.banks, Memory.wf b.content) ∧ Memory.wf s.warden.stby ∧ Memory.wf s.selv.frags ∧
    Memory.wf s.selv.window ∧ s.jr.entries.length ≤ 4096 ∧ s.porter.rj.length ≤ 512 ∧ s.link.backlog.length ≤ 1024 ∧
    s.link.hf.kept.length ≤ 128 ∧ s.link.fh.kept.length ≤ 128 ∧ s.svc.held.length ≤ 8

/-- The state without what the last command sent. -/
def State.silent (s : State) : State := { s with out := [] }

/-- Command `c` completes at `s`: it answers a next state, and `P` holds of that state. -/
def Does (c : Instr) (s : State) (P : State → Prop) : Prop := ∃ t, exec c s = .next t ∧ P t

/-- The parts of a state beside its registers, the waiting commands, the count of free values and what is sent. -/
inductive Part where
  | pwr | link | permit | host | wdog | intc | jr | selv | warp | clk | weave | s0 | porter
  | loom | clu | warden | heat | panel | svc | safety | louv | aux | analog | sec | cells | ring
  | twin | edge | syn | blank | cur | mppt | ride | isl | adc | fcmp | meter
  deriving DecidableEq, Repr

/-- Two states agree in a part. -/
def Part.same (s t : State) : Part → Prop
  | .pwr => t.pwr = s.pwr
  | .link => t.link = s.link
  | .permit => t.permit = s.permit
  | .host => t.host = s.host
  | .wdog => t.wdog = s.wdog
  | .intc => t.intc = s.intc
  | .jr => t.jr = s.jr
  | .selv => t.selv = s.selv
  | .warp => t.warp = s.warp
  | .clk => t.clk = s.clk
  | .weave => t.weave = s.weave
  | .s0 => t.s0 = s.s0
  | .porter => t.porter = s.porter
  | .loom => t.loom = s.loom
  | .clu => t.clu = s.clu
  | .warden => t.warden = s.warden
  | .heat => t.heat = s.heat
  | .panel => t.panel = s.panel
  | .svc => t.svc = s.svc
  | .safety => t.safety = s.safety
  | .louv => t.louv = s.louv
  | .aux => t.aux = s.aux
  | .analog => t.analog = s.analog
  | .sec => t.sec = s.sec
  | .cells => t.cells = s.cells
  | .ring => t.ring = s.ring
  | .twin => t.twin = s.twin
  | .edge => t.edge = s.edge
  | .syn => t.syn = s.syn
  | .blank => t.blank = s.blank
  | .cur => t.cur = s.cur
  | .mppt => t.mppt = s.mppt
  | .ride => t.ride = s.ride
  | .isl => t.isl = s.isl
  | .adc => t.adc = s.adc
  | .fcmp => t.fcmp = s.fcmp
  | .meter => t.meter = s.meter

/-- As `Does`, with the frame: every register outside the listed pages reads as before (0x100 stands for all CELL pages), and every part
outside the listed ones is as before. -/
def DoesWithin (c : Instr) (s : State) (pages : List Nat) (parts : List Part) (P : State → Prop) : Prop :=
  ∃ t, exec c s = .next t ∧ P t ∧ (∀ a, min (pageOf a) 0x100 ∉ pages → t.raw a = s.raw a) ∧ ∀ x, x ∉ parts → x.same s t

/-! ### Frames of the shuttle link -/

/-- Payloads that a frame of a direction carries whole: the type belongs to the direction (Table 2-3), every value fits its field, and DATA has
its full length where the type gives no count (Table 2-4). -/
def carried (fromH : Bool) : Payload → Bool
  | .readReq addr tag count agent => fromH && decide (addr < 2 ^ 32) && decide (tag < 256) && decide (count < 256) && decide (agent < 256)
  | .readRsp addr tag status data => !fromH && decide (addr < 2 ^ 32) && decide (tag < 256) && decide (status < 256) && data.length == 4
  | .postedWr addr data => fromH && decide (addr < 2 ^ 32) && decide (data.length ≤ 4)
  | .stagedWr addr data => fromH && decide (addr < 2 ^ 32) && decide (data.length ≤ 4)
  | .event e => !fromH && decide (e.source < 256) && decide (e.flags < 256) && decide (e.code < 65536)
  | .timeMark stamp sec frac trigger mark =>
    decide (trigger < 256) && decide (mark < 65536) &&
      (if fromH then stamp == 0#64 && decide (sec < 2 ^ 40) && decide (frac < 2 ^ 32) else sec == 0 && frac == 0)
  | .bulk offset target length xfer data =>
    fromH && decide (offset < 2 ^ 32) && decide (target < 256) && decide (length < 256) && decide (xfer < 65536) && data.length == 16
  | .selvFrag req frag flags length data =>
    !fromH && decide (req < 65536) && decide (frag < 65536) && decide (flags < 256) && decide (length < 256) && data.length == 16
  | .keepalive ack bits => decide (ack < 65536) && decide (bits < 256)

/-! ### One operation on a loom engine -/

/-- What an operation of slot word `w` sees when it issues on engine `k`. -/
def seen (s : State) (k : Nat) (w : SlotWord) : Issue := ⟨engAt s k, w, attrOf (engAt s k)⟩

/-- The operations of the bundle that issues on engine `k` when the one word `w` of operation `op` has come to it. -/
def comes (s : State) (k : Nat) (op : OpName) (w : SlotWord) : List SlotOp := bundleOps s { engAt s k with bundle := [⟨op, w, []⟩] }

/-- Engine `k` votes and issues within its time, nothing is in flight, pending or looping on it, the bundle at its address is the one word `w` of
operation `op` (a NOP is a bundle of zeros), and it executes: its guard is true and no check of Tables 6-12 and 5-7a stops it. -/
abbrev Alone (s : State) (k : Nat) (op : OpName) (w : SlotWord) : Prop :=
  let e := engAt s k
  let ops := comes s k op w
  (k < 12 ∧ k < s.loom.length ∧ s.get (LOOM_STAT_STATE k) = 1 ∧ e.running = true ∧ e.lc < issueEnd s k) ∧
    (fetchOps s e = if op = .nop then [] else [(op, w)]) ∧ (op = .endm → w = endWord) ∧
    (e.bundle = [] ∧ e.flight = [] ∧ e.branch = none ∧ e.shadow = none ∧ e.loops = []) ∧
    (e.g.length = 64 ∧ e.p.length = 8 ∧ e.a.length = 4 ∧ e.acc.length = 4) ∧
    guardOf e w = true ∧ illegalSub s e (codeLen s (k / 3) e) ops = 0 ∧ contractCheck s (k / 3) false e ops = 0

/-- An engine after a bundle without branch or loop: the next bundle, one loom clock later. -/
def went (e : Eng) : Eng := { e with pc := (e.pc + 1) % 8192, lc := e.lc + 1, now := e.now + 1, lastAttr := some (attrOf e) }

/-- A result of latency 1 stands in g[D] when the next bundle issues, and nothing else has changed. -/
def lands (k : Nat) (w : SlotWord) (v : Word) (s : State) : State := modEng k (fun e => { went e with g := e.g.set w.d v }) s.silent

/-- A result with flags `fl` is on its way to `d`, `lat` loom clocks after the issue, and nothing else has changed. -/
def flies (k lat : Nat) (w : SlotWord) (d : Dest) (v fl : Nat) (s : State) : State :=
  modEng k (fun e => { went e with flight := [⟨e.now + lat, e.now, w.slot, e.bg, d, v, fl, attrOf e⟩] }) s.silent

end Sys2Proof.Machine
end

