-- ==== Sys2Proof/Certificates/Slice0/Obligations.lean ====
section
/-! DEFINITION. The statements for the provers. In each, `Does` and `DoesWithin` say that a command completes at a state: it answers a next
state, which the rest describes; `DoesWithin` also says what the command leaves alone. -/

open Sys2Proof Sys2Proof.Machine

/-- A step executes the command that has waited longest with the rest of the queue; with no command waiting the block idles (the model's
choice, log entry 1); no word of the table spells a command. The queue, and that an empty queue leaves the state alone, are the model's
own (log entry 1). -/
def Obligations.StepRunsTheFront : Prop :=
    (∀ (c : Instr) (rest : List Instr) (s : State), step { s with pending := c :: rest } = exec c { s with pending := rest }) ∧
    (∀ s : State, s.pending = [] → step s = .next s) ∧ ∀ (nbits w : Nat) (s : State), decodeTableWord nbits w = none ∧ s.withFetchWord nbits w = s

/-- At reset every register holds its reset word, both dies are down, the link is down, no permit edge is timed, nothing waits, and the
invariant of every step holds (R9, R61, R65, R518). Reset words that the spec does not give are the model's choice (log entry 63). -/
def Obligations.ResetState : Prop :=
    State.reset.Inv ∧ (∀ a, State.reset.raw a = resetWord a) ∧ State.reset.pwr.h = .off ∧ State.reset.pwr.f = .off ∧
    State.reset.flag SHUTTLE_F_STAT_SHUT = true ∧ State.reset.flag SHUTTLE_H_STAT_NOTREADY = true ∧ State.reset.flag SAFETY_STAT_PERMIT = false ∧
    State.reset.link.up = false ∧ State.reset.permit.timing = false ∧ State.reset.jr = Journal.reset ∧ State.reset.pending = []

/-- Every step from every state that meets the invariant gives a state that meets it: canonical registers and byte stores, and the bounds of
the journal, the retained journal, the backlog, the replay buffers and the service port (R46, R56, R108, R451, R516). A step from any
state, not only from those that runs from reset reach. -/
def Obligations.EveryStepKeepsTheInvariant : Prop :=
    ∀ s t : State, s.Inv → step s = .next t → t.Inv

/-- Every command at every state answers a next state, leaves the commands that wait alone, and takes only further free values. A command
whose condition does not hold leaves the block as it is (the model's choice, log entry 1). -/
def Obligations.EveryCommandCompletes : Prop :=
    ∀ (c : Instr) (s : State), ∃ t, exec c s = .next t ∧ t.pending = s.pending ∧ s.free ≤ t.free

/-- Reads of a page that the page map does not assign return 0 and writes to it are ignored. Assigned are the pages with a common header, the
PARAM window (0x080 to 0x0BF) and the SELVEDGE window (0x00C and 0x00D). -/
def Obligations.ReservedPages : Prop :=
    ∀ (agent lc dt a : Nat) (w : Word) (s : State), hasHeader (pageOf a) = false → (pageOf a < 0x80 ∨ 0xC0 ≤ pageOf a) → pageOf a ≠ 0xC → pageOf a ≠ 0xD →
    readWord agent lc dt a s = (0, s) ∧ exec (.registerWrite agent a w) s = .next s.silent

/-- A capture overwrites OFFSET and CAUSE, increments COUNT and is journalled from source 6, on the F-die by way of an event; ERRCLR clears
all of PGERR. COUNT stays at its highest value (Table 3-12). The F-die is taken with its link up and no selvedge snapshot that holds
events back. -/
def Obligations.PageErrorCaptures : Prop :=
    ∀ (s : State) (a cause : Nat), s.Inv → hasHeader (pageOf a) = true → cause < 16 →
    let p := pageOf a
    ((capture a cause s).get (pgerrOffset p) = offOf a ∧ (capture a cause s).get (pgerrCause p) = cause ∧
      (capture a cause s).get (pgerrCount p) = min (s.get (pgerrCount p) + 1) (2 ^ (pgerrCount p).wd - 1) ∧ (capture a cause s).get (pgerrValid p) = 1) ∧
    (isF p = false → ∃ e : JEntry, ((capture a cause s).jr.entries.head? = some e ∧ e.seq = s.jr.next) ∧ e.source = 6 ∧
      e.code = cause * 2 ^ 12 + offOf a / 4 ∧ e.data = p) ∧
    (isF p = true → s.link.up = true → s.link.selvHolding = none → ∃ e : Event, (capture a cause s).link.fh.queue = s.link.fh.queue ++ [.event e] ∧
      e.source = 6 ∧ e.code = cause * 2 ^ 12 + offOf a / 4 ∧ e.data = word p) ∧
    ∃ t, exec (.errclr p) s = .next t ∧ t.raw (p * 0x1000 + 0x024) = 0

/-- An event of an edge source sets its pending bit, also while it is active or already pending, and is counted; completion leaves the source
pending. `COUNT` stays at its highest value. -/
def Obligations.EdgeSourcesBecomePending : Prop :=
    ∀ (s : State) (n : Nat), s.Inv → n < 256 → edgeSource n = true →
    ((edgeEvent n s).flag (pendBit n) = true ∧ (edgeEvent n s).flag (activeBit n) = s.flag (activeBit n) ∧
      (edgeEvent n s).get (INTC_1_COUNT_COUNT n) = min (s.get (INTC_1_COUNT_COUNT n) + 1) (2 ^ 32 - 1)) ∧
    (s.flag (pendBit n) = true → s.flag (activeBit n) = true → s.get (INTC_0_SRCCFG_TARGET n) < 2 →
      DoesWithin (.complete (s.get (INTC_0_SRCCFG_TARGET n)) (word n)) s [0x02, 0x09] [] fun t =>
        t.flag (activeBit n) = false ∧ t.flag (pendBit n) = true)

/-- When a source is deliverable; the winner of a target is its deliverable source of highest priority, and of lowest number among equals. The
winner is 0 when no source is deliverable to the target. -/
def Obligations.WinnerOfATarget : Prop :=
    ∀ (s : State) (t : Nat),
    (∀ n, (deliverable s n = true ↔ s.flag (pendBit n) = true ∧ s.flag (maskBit n) = false ∧ s.flag (activeBit n) = false ∧
      s.get (INTC_0_THRESH_THR (s.get (INTC_0_SRCCFG_TARGET n))) < s.get (INTC_0_SRCCFG_PRIO n)) ∧
      (s.get (INTC_0_SRCCFG_PRIO n) = 0 → deliverable s n = false)) ∧
    ((winner s t = 0 ∧ ∀ n, n < 256 → deliverable s n = true → s.get (INTC_0_SRCCFG_TARGET n) ≠ t) ∨
      ((winner s t < 256 ∧ deliverable s (winner s t) = true ∧ s.get (INTC_0_SRCCFG_TARGET (winner s t)) = t) ∧
        ∀ n, n < 256 → deliverable s n = true → s.get (INTC_0_SRCCFG_TARGET n) = t →
          s.get (INTC_0_SRCCFG_PRIO n) < s.get (INTC_0_SRCCFG_PRIO (winner s t)) ∨
            (s.get (INTC_0_SRCCFG_PRIO n) = s.get (INTC_0_SRCCFG_PRIO (winner s t)) ∧ winner s t ≤ n)))

/-- Arming the yield in single-unit mode is ignored and captured; the yield disarms when its time runs out, when it is used, and when a safety
demand is reported. A safety demand reaches the F-die as the write of 0 to `SHUTTLE_F.SHUTCTL` (log entry 58 holds what else that write
does). -/
def Obligations.YieldInSingleUnitMode : Prop :=
    ∀ s : State, s.Inv →
    (s.weave.mode.testBit 0 = false → DoesWithin (.yieldArm true) s [0x51] [.link] fun t =>
      t.get SHUTTLE_F_STAT_YIELD = s.get SHUTTLE_F_STAT_YIELD ∧ t.get (pgerrOffset 0x51) = 0x050 ∧ t.get (pgerrCause 0x51) = 3) ∧
    (Does .yieldExpiry s fun t => t = s.silent.put SHUTTLE_F_STAT_YIELD 0) ∧
    (s.permit.timing = true → s.flag SHUTTLE_F_STAT_SHUT = false → canYield s = true → Does .permitTimeout s fun t =>
      t.get SHUTTLE_F_STAT_YIELD = 0 ∧ t.get SHUTTLE_F_STAT_YIELDED = 1) ∧
    ∀ agent, Does (.registerWrite agent SHUTTLE_F_SHUTCTL_YIELD.addr 0) s fun t => t.get SHUTTLE_F_STAT_YIELD = 0

/-- A frame that a sender writes has 32 bytes, is intact, and is read back as it was: number, type and every field at every value (R39, R40,
R41, R42). The payloads are those that Tables 2-3 and 2-4 give the direction, each value within its field. -/
def Obligations.ShuttleFramesReadBack : Prop :=
    ∀ (fromH : Bool) (f : Frame), f.seq < 65536 → carried fromH f.pay = true →
    ((frameBytes fromH f).length = 32 ∧ intactFrame (frameBytes fromH f) = true) ∧ readFrame (frameBytes fromH f) = some f

/-- The word of an operation of Tables 6-4 to 6-8 decodes to it with every field, and is the word of what it decodes to; zeros decode to
nothing; BR bit 31 is END (R189, R190). Every field has every value, and every code that a table lists is meant. The END marker stands in
the BR slot beside another operation or alone. -/
def Obligations.SlotWordsReadBack : Prop :=
    (∀ (op : OpName) (w : SlotWord), w.slot < 8 → w.pr < 8 → w.d < 64 → w.a < 64 → w.b < 64 → w.f < 16 → codeOf w.slot op ≠ 0 →
      decodeWord w.slot (encodeWord op w) = [(op, w)]) ∧
    (∀ (slot : Nat) (v : Word), slot < 8 → (slot = 6 → v.getLsbD 31 = false) → opOf slot (bitsAt v.toNat 26 6) ≠ .undef →
      encodeWord (opOf slot (bitsAt v.toNat 26 6)) (wordFields slot v) = v ∧
      decodeWord slot v = [(opOf slot (bitsAt v.toNat 26 6), wordFields slot v)]) ∧
    (∀ slot : Nat, slot < 8 → decodeWord slot 0 = []) ∧
    ∀ v : Word, v.getLsbD 31 = false → decodeWord 6 (v ||| 0x80000000#32) = (.endm, endWord) :: decodeWord 6 v

/-- A collect segment that a node seals under the key, nonce and associated data of R266 opens at the device as its plain text; a tag that
differs opens nothing (R264, R266, R267). AES-256-GCM is that of its public standard (log entry 144). -/
def Obligations.SealedSegmentsOpen : Prop :=
    ∀ (s : State) (l g k lc : Nat) (bs : List Byte), bs.length = 404 → (keyOf s g (l % 2)).length = 32 →
    openSeg s l g k lc (sealBytes (keyOf s g (l % 2)) (ringNonce g (l % 2) true k) bs) = some (uplinkOf g lc bs) ∧
    ∀ tag : List Byte, tag.length = 16 → tag ≠ (sealBytes (keyOf s g (l % 2)) (ringNonce g (l % 2) true k) bs).drop 404 →
      openSeg s l g k lc ((sealBytes (keyOf s g (l % 2)) (ringNonce g (l % 2) true k) bs).take 404 ++ tag) = none

/-- Start-up of the H-die, and its reset: each supply, reset and firmware event takes the die to its next state (R36, R53, R436, R518, R519,
R520). Where it goes beyond the rules it states choices of the model: log entries 1, 20, 29, 31, 54, 63, 64, 116, 145. -/
def Obligations.StartupAndResetOfTheHDie : Prop :=
    ∀ s : State, s.Inv →
    (s.pwr.h = .off → Does (.hSupplyInRange) s fun t => t = { s.silent with pwr.h := .hold }) ∧
    (s.pwr.h = .hold → DoesWithin (.hDieResetRelease) s [0x02, 0x04, 0x06, 0x07, 0x09, 0x20, 0x51] [.pwr, .link, .intc, .jr, .porter] fun t =>
      t.pwr.h = .boot ∧ t.pwr.gatesLow = false ∧ (s.pwr.perst = false → t.get HOSTIF_STAT_PCIEUP = 1 ∧ t.get HOSTIF_STAT_SPEED ≠ 0 ∧
      t.get HOSTIF_STAT_WIDTH ≠ 0)) ∧
    (s.pwr.h = .boot → s.pwr.restarting = false → DoesWithin (.hFirmwareStart) s [0x00, 0x02, 0x04, 0x06, 0x07, 0x09, 0x14, 0x15, 0x20, 0x51]
      [.pwr, .link, .wdog, .intc, .jr, .porter, .safety, .sec] fun t => t.pwr.h = (if (bootSlot (loadFuses s.silent)).isSome then .run else .boot) ∧
      (∀ k, bootSlot (loadFuses s.silent) = some k → t.sec.svn = (firmwareAt (loadFuses s.silent) k).svn ∧
      t.sec.fwHash = hashWords (flashBytes (loadFuses s.silent) (slotBase k) (firmwareAt (loadFuses s.silent) k).len) ∧ t.get SEAL_STAT_BUSY = 1 ∧
      t.wdog.counting = true ∧ t.get SECURITY_STAT_RECOVERY = 0) ∧ (bootSlot (loadFuses s.silent) = none → t.get SECURITY_STAT_RECOVERY = 1)) ∧
    (s.flag HOSTIF_STAT_PCIEUP = true → Does (.pcieReset true) s fun t => t.pwr.perst = true ∧ t.get HOSTIF_STAT_PCIEUP = 0 ∧
      t.get HOSTIF_STAT_SPEED = 0 ∧ t.get HOSTIF_STAT_WIDTH = 0 ∧ t.host.msixEn = false) ∧
    (s.pwr.h = .run → s.flag HOSTIF_STAT_PCIEUP = false → Does (.pcieReset false) s fun t => t.pwr.perst = false ∧ t.get HOSTIF_STAT_PCIEUP = 1 ∧
      1 ≤ t.get HOSTIF_STAT_SPEED ∧ t.get HOSTIF_STAT_SPEED ≤ 3 ∧ 1 ≤ t.get HOSTIF_STAT_WIDTH ∧ t.get HOSTIF_STAT_WIDTH ≤ 2) ∧
    (s.pwr.h ≠ .off → Does (.hDieReset) s fun t => t.pwr.h = .hold ∧ t.pwr.gatesLow = true ∧ t.link.up = false ∧ t.jr = Journal.reset ∧
      t.intc = Intc.reset) ∧
    (s.pwr.h ≠ .off → Does (.refclkHLoss) s fun t => t.pwr.h = .hold ∧ t.pwr.gatesLow = true ∧ t.link.up = false ∧ t.jr = Journal.reset ∧
      t.intc = Intc.reset)

/-- Supply, reset release and PLL ramp of the F-die up to the lock; Loss of the F-die's supply and of its clocks (R432, R433, R435, R437,
R522, R542, R544). Where it goes beyond the rules it states choices of the model: log entries 53, 59, 102, 103, 118, 141. -/
def Obligations.StartupAndLossesOfTheFDie : Prop :=
    ∀ s : State, s.Inv →
    (s.pwr.f = .off → Does (.fSupplyInRange) s fun t => t = { s.silent with pwr.f := .hold }) ∧
    (s.pwr.f = .hold → DoesWithin (.fDieResetRelease) s [0x7D] [.pwr] fun t => t.pwr.f = .boot ∧ t.pwr.gridOpen = some true ∧
      t.get CLOCK_STAT_OWNPROF = bit s.sec.fuses.pllValid ∧ (s.sec.fuses.pllValid = false →
      t.raw CLOCK_RAMPPROF_D0.addr = word (10 + 256 * 20 + 65536 * 40))) ∧
    (s.pwr.f = .boot → s.flag CLOCK_STAT_FAILED = false → s.get CLOCK_STAT_N < 47 → Does (.pllStep) s fun t =>
      t = { s.silent.put CLOCK_STAT_N (s.get CLOCK_STAT_N + 1) with pwr := { s.pwr with pllLock := false } }) ∧
    (s.pwr.f = .boot → s.flag CLOCK_STAT_FAILED = false → s.get CLOCK_STAT_N = 47 → DoesWithin (.pllStep) s [0x7D] [.pwr] fun t =>
      t.get CLOCK_STAT_N = 48 ∧ t.pwr = { s.pwr with pllLock := false }) ∧
    (s.pwr.f = .boot → s.flag CLOCK_STAT_FAILED = false → s.get CLOCK_STAT_TRIES < 2 → Does (.pllStepTimeout) s fun t =>
      t = { (s.silent.put CLOCK_STAT_TRIES (s.get CLOCK_STAT_TRIES + 1)).put CLOCK_STAT_N 12 with pwr := { s.pwr with pllLock := false } }) ∧
    (s.pwr.f = .boot → s.flag CLOCK_STAT_FAILED = false → s.get CLOCK_STAT_TRIES = 2 → DoesWithin (.pllStepTimeout) s [0x02, 0x09, 0x51, 0x7D]
      [.pwr, .link, .intc] fun t => t.get CLOCK_STAT_TRIES = 3 ∧ t.get CLOCK_STAT_FAILED = 1 ∧ t.pwr = { s.pwr with pllLock := false }) ∧
    (s.pwr.f = .boot → s.flag CLOCK_STAT_FAILED = false → s.get CLOCK_STAT_N = 48 → DoesWithin (.pllLock) s [0x02, 0x06, 0x09, 0x40, 0x51, 0x7D]
      [.pwr, .link, .intc, .warp, .sec] fun t => t.get CLOCK_STAT_LOCK = 1 ∧ t.get CLOCK_STAT_PLOCK = 1 ∧ t.pwr.f = .run ∧ t.pwr.pllLock = true ∧
      t.warp.running = true ∧ t.get WARP_STAT_STATE = 1) ∧
    (s.pwr.f ≠ .off → s.svc.held = [] → Does (.fSupplyLoss) s fun t => t.pwr.f = .off ∧ t.pwr.gridOpen = none ∧ t.link.up = false ∧
      t.weave = WeaveSt.reset ∧ t.warp = Warp.reset ∧ (∀ a, isF (pageOf a) = true → t.raw a = resetWord a)) ∧
    (∀ (prot : Bool), s.pwr.f = .run →
      DoesWithin (.pllUnlock prot) s [0x02, 0x09, 0x41, 0x50, 0x51, 0x58, 0x59, 0x5A, 0x5B, 0x5C, 0x5D, 0x5E, 0x5F, 0x7D]
      [.pwr, .link, .intc, .warp, .weave] fun t => t.pwr.f = .boot ∧ t.warp.running = false ∧ t.get WEAVE_STAT_RUN = 0 ∧
      t.get CLOCK_STAT_FAILED = 1 ∧ t.pwr.pllLock = (s.pwr.pllLock && prot) ∧ t.get (if prot then CLOCK_STAT_PLOCK else CLOCK_STAT_LOCK) = 0 ∧
      (s.permit.yielded = false → t.pwr.gridOpen = some true)) ∧
    (∀ (lane : Nat), lane < 6 → s.flag ⟨CLOCK_SDLOCK_LANE.addr, lane, 1⟩ = true →
      DoesWithin (.lanePllLoss lane) s [0x02, 0x09, 0x51, 0x58, 0x59, 0x5A, 0x5B, 0x5C, 0x5D, 0x5E, 0x5F, 0x7D, 0x100]
      [.link, .intc, .cells, .ring, .twin, .edge] fun t => t.get ⟨CLOCK_SDLOCK_LANE.addr, lane, 1⟩ = 0 ∧
      t.get CLOCK_SDLOCK_LOSSES = min (s.get CLOCK_SDLOCK_LOSSES + 1) (2 ^ CLOCK_SDLOCK_LOSSES.wd - 1)) ∧
    (∀ (fside : Bool), s.link.up = true → s.svc.held = [] → (dirTo (!fside) s).rx0 = true → (dirTo (!fside) s).rx1 = true →
      DoesWithin (.shuttlePllLoss fside) s [0x00, 0x02, 0x03, 0x04, 0x06, 0x09, 0x12, 0x21, 0x51, 0x52, 0x7D]
      [.link, .host, .wdog, .intc, .jr, .selv, .s0, .svc, .sec] fun t => t.link.up = false)

/-- An intact frame in sequence on a channel in service is delivered once, and the number expected next moves on by one (R44, R47, R49, R82,
R89). Where it goes beyond the rules it states choices of the model: log entries 1, 55, 56, 112, 138. -/
def Obligations.FramesInSequence : Prop :=
    ∀ s : State, s.Inv →
    (∀ (ch : Nat) (addr : Nat) (tag : Nat) (count : Nat) (agent : Nat), s.link.up = true → ch < 2 → s.link.hf.rx ch = true → s.link.hf.held = [] →
      s.svc.held = [] → Does (.readReq ch s.link.hf.e addr tag count agent) s fun t =>
      t.link.access = s.link.access ++ [.readReq addr tag count agent] ∧ t.link.hf.e = (s.link.hf.e + 1) % 65536) ∧
    (∀ (ch : Nat) (addr : Nat) (data : List Word), s.link.up = true → ch < 2 → s.link.hf.rx ch = true → s.link.hf.held = [] → s.svc.held = [] →
      addr ≠ DEVICE_SELV_REQ_GO.addr → Does (.postedWr ch s.link.hf.e addr data) s fun t => t.link.access = s.link.access ++ [.postedWr addr data] ∧
      t.link.hf.e = (s.link.hf.e + 1) % 65536) ∧
    (∀ (ch : Nat) (addr : Nat) (data : List Word), s.link.up = true → ch < 2 → s.link.hf.rx ch = true → s.link.hf.held = [] → s.svc.held = [] →
      Does (.stagedWr ch s.link.hf.e addr data) s fun t =>
      t.link.arrived = s.link.arrived ++ (data.zipIdx.map fun x => (addr + 4 * x.2, x.1, swarp s)) ∧
      t.host.staged = s.host.staged.drop data.length ∧ t.link.hf.e = (s.link.hf.e + 1) % 65536) ∧
    (∀ (ch : Nat) (off : Nat) (len : Nat) (xfer : Nat) (data : List Byte), s.link.up = true → ch < 2 → s.link.hf.rx ch = true → s.link.hf.held = [] →
      s.svc.held = [] → off + (data.take len).length ≤ 524288 → Does (.bulk ch s.link.hf.e off 2 len xfer data) s fun t =>
      t.warden.stby = setBytes off (data.take len) s.warden.stby ∧ t.get WARDEN_STAT_STBY = 1 ∧ t.link.hf.e = (s.link.hf.e + 1) % 65536) ∧
    (∀ (ch : Nat) (e : Event), s.link.up = true → ch < 2 → s.link.fh.rx ch = true → s.link.fh.held = [] → s.svc.held = [] → e.code ≠ 0xFF00 →
      e.code ≠ 0xFF01 → e.source < 256 → Does (.event ch s.link.fh.e e) s fun t =>
      t.jr.entries.head?.map (fun x => (x.seq, x.source, x.code)) = some (s.jr.next, e.source, e.code) ∧ t.jr.next = (s.jr.next + 1) % 2 ^ 32 ∧
      t.link.fh.e = (s.link.fh.e + 1) % 65536) ∧
    (∀ (ch : Nat) (req : Nat) (frag : Nat) (flags : Nat) (length : Nat) (data : List Byte), s.link.up = true → ch < 2 → s.link.fh.rx ch = true →
      s.link.fh.held = [] → s.svc.held = [] → s.selv.busy = some req → flags % 2 = 0 →
      Does (.selvFrag ch s.link.fh.e req frag flags length data) s fun t => t.selv.frags = setBytes (16 * frag) (data.take length) s.selv.frags ∧
      t.link.fh.e = (s.link.fh.e + 1) % 65536) ∧
    (∀ (ch : Nat) (addr : Nat) (tag : Nat) (data : List Word) (k : Nat), s.link.up = true → ch < 2 → s.link.fh.rx ch = true → s.link.fh.held = [] →
      s.svc.held = [] → s.link.reads = [⟨tag, addr, 1, .pcie k⟩] → s.link.gathers = [⟨k, [(addr, none)]⟩] → k < 256 →
      Does (.readRsp ch s.link.fh.e addr tag 0 data) s fun t => t.out = [.pcie k [data.getD 0 0]] ∧ t.link.reads = [] ∧ t.link.gathers = [] ∧
      t.link.fh.e = (s.link.fh.e + 1) % 65536)

/-- KEEPALIVE: the status bits that the H-die takes, the request for a replay, its repetition, the idle KEEPALIVE (R45, R46, R48). Where it
goes beyond the rules it states choices of the model: log entry 114. -/
def Obligations.KeepalivesAndReplay : Prop :=
    ∀ s : State, s.Inv →
    (∀ (ch : Nat) (ack : Nat) (bits : Nat), s.link.up = true → ch < 2 → s.link.fh.rx ch = true → s.svc.held = [] → bits % 2 = 0 →
      DoesWithin (.keepalive true ch s.link.fh.e ack bits) s [0x00, 0x02, 0x03, 0x04, 0x06, 0x09, 0x12, 0x21, 0x51, 0x52]
      [.link, .host, .wdog, .intc, .jr, .selv, .s0, .svc, .sec] fun t => t.get SHUTTLE_H_STAT_NOTREADY = bit (bits.testBit 4) ∧
      t.get SHUTTLE_H_STAT_FSHUT = bit (bits.testBit 3) ∧ t.link.fNotReady = bits.testBit 4) ∧
    (∀ (toH : Bool), s.link.up = true → (dirTo toH s).asked = 0 → gapSeen (dirTo toH s) = true →
      DoesWithin (.replayRequest toH) s [0x00, 0x02, 0x03, 0x04, 0x06, 0x09, 0x12, 0x21, 0x51, 0x52]
      [.link, .host, .wdog, .intc, .jr, .selv, .s0, .svc, .sec] fun t => (dirTo toH t).asked = 1 ∧
      t.out.getLast? = some (.shuttle toH (shuttleMask toH s) ⟨(dirTo (!toH) s).txNext, .keepalive (dirTo toH s).e (1 + statusBits toH s)⟩ (frameBytes toH ⟨(dirTo (!toH) s).txNext, .keepalive (dirTo toH s).e (1 + statusBits toH s)⟩))) ∧
    (∀ (toH : Bool), s.link.up = true → (dirTo toH s).asked = 0 → (dirTo toH s).held.isEmpty = false →
      DoesWithin (.replayRequestTimeout toH) s [0x02, 0x03, 0x09, 0x51] [.link, .intc] fun t => (dirTo toH t).asked = 1 ∧
      (dirTo (!toH) t).urgent = some (.keepalive (dirTo toH s).e (1 + statusBits toH s))) ∧
    (∀ (toH : Bool), s.link.up = true → 1 ≤ (dirTo toH s).asked → (dirTo toH s).asked ≤ 3 → s.svc.held = [] →
      DoesWithin (.replayRepeat toH) s [0x00, 0x02, 0x03, 0x04, 0x06, 0x09, 0x12, 0x21, 0x51, 0x52]
      [.link, .host, .wdog, .intc, .jr, .selv, .s0, .svc, .sec] fun t => (dirTo toH t).asked = (dirTo toH s).asked + 1 ∧ t.link.up = true) ∧
    (∀ (toH : Bool), s.link.up = true → 4 ≤ (dirTo toH s).asked → s.svc.held = [] →
      DoesWithin (.replayRepeat toH) s [0x00, 0x02, 0x03, 0x04, 0x06, 0x09, 0x12, 0x21, 0x51, 0x52]
      [.link, .host, .wdog, .intc, .jr, .selv, .s0, .svc, .sec] fun t => t.link.up = false) ∧
    (∀ (fromH : Bool), s.link.up = true → DoesWithin (.keepaliveIdle fromH) s [0x00, 0x02, 0x03, 0x04, 0x06, 0x09, 0x12, 0x21, 0x51, 0x52]
      [.link, .host, .wdog, .intc, .jr, .selv, .s0, .svc, .sec] fun t =>
      t.out = [.shuttle fromH (shuttleMask fromH s) ⟨(dirTo (!fromH) s).txNext, .keepalive (dirTo fromH s).e (bit (dirTo (!fromH) s).urgent.isSome + statusBits fromH s)⟩ (frameBytes fromH ⟨(dirTo (!fromH) s).txNext, .keepalive (dirTo fromH s).e (bit (dirTo (!fromH) s).urgent.isSome + statusBits fromH s)⟩)]) ∧
    (∀ (fromH : Bool) (d : Nat) (p : Payload) (q : List Payload), s.link.up = true → (dirTo (!fromH) s).urgent = none →
      statusBits fromH s = (dirTo (!fromH) s).lastBits → (dirTo (!fromH) s).bulkQ = [] → (dirTo (!fromH) s).marks = [] →
      (dirTo (!fromH) s).replay = [] → (dirTo (!fromH) s).queue = p :: q → sequenced p = true → (fromH && !s.link.soon.isEmpty) = false →
      DoesWithin (.frameSlot fromH d) s [0x00, 0x02, 0x03, 0x04, 0x06, 0x09, 0x12, 0x21, 0x51, 0x52]
      [.link, .host, .wdog, .intc, .jr, .selv, .s0, .svc, .sec] fun t =>
      t.out = [.shuttle fromH (shuttleMask fromH s) ⟨(dirTo (!fromH) s).txNext, p⟩ (frameBytes fromH ⟨(dirTo (!fromH) s).txNext, p⟩)] ∧
      (dirTo (!fromH) t).queue = q ∧ (dirTo (!fromH) t).txNext = ((dirTo (!fromH) s).txNext + 1) % 65536)

/-- Corrupt frames are counted, a silent channel leaves service, a channel out of service trains; The link comes up with numbers from 0x0000
and the backlog queued; a long outage is a safety demand; a late read answers with PGID; A time mark is taken once by its number; a
calibration mark gives TMDLY (R41, R43, R47, R51, R52, R53, R55, R56, R57, R59). Where it goes beyond the rules it states choices of the
model: log entries 50, 52, 101, 103, 115, 132, 133, 134, 135. -/
def Obligations.ChannelsLinkAndTimeMarks : Prop :=
    ∀ s : State, s.Inv →
    (∀ (ch : Nat) (dt : Nat) (bytes : List Byte), ch < 2 → s.link.fh.rx ch = true → intactFrame bytes = false →
      (((s.link.fh.bad ch).map (· + dt)).filter (· ≤ 100000)).length < 7 → s.svc.held = [] →
      DoesWithin (.corruptFrame true ch dt bytes) s [0x00, 0x02, 0x03, 0x04, 0x06, 0x09, 0x12, 0x21, 0x51, 0x52]
      [.link, .host, .wdog, .intc, .jr, .selv, .s0, .svc, .sec] fun t =>
      t.get (SHUTTLE_H_CRCERR_COUNT ch) = min (s.get (SHUTTLE_H_CRCERR_COUNT ch) + 1) (2 ^ 32 - 1) ∧
      t.link.fh.bad ch = 0 :: ((s.link.fh.bad ch).map (· + dt)).filter (· ≤ 100000) ∧ t.link.fh.rx ch = true) ∧
    (∀ (ch : Nat) (dt : Nat) (bytes : List Byte), ch < 2 → s.link.up = true → s.link.fh.rx0 = true → s.link.fh.rx1 = true → intactFrame bytes = false →
      (((s.link.fh.bad ch).map (· + dt)).filter (· ≤ 100000)).length = 7 → s.svc.held = [] →
      DoesWithin (.corruptFrame true ch dt bytes) s [0x00, 0x02, 0x03, 0x04, 0x06, 0x09, 0x12, 0x21, 0x51, 0x52]
      [.link, .host, .wdog, .intc, .jr, .selv, .s0, .svc, .sec] fun t => t.link.fh.rx ch = false ∧ t.get (rxFld true ch) = 0 ∧ t.link.up = true) ∧
    (∀ (toH : Bool) (ch : Nat), s.link.up = true → ch < 2 → (dirTo toH s).rx0 = true → (dirTo toH s).rx1 = true → s.svc.held = [] →
      DoesWithin (.channelSilent toH ch) s [0x00, 0x02, 0x03, 0x04, 0x06, 0x09, 0x12, 0x21, 0x51, 0x52]
      [.link, .host, .wdog, .intc, .jr, .selv, .s0, .svc, .sec] fun t => (dirTo toH t).rx ch = false ∧ t.get (rxFld toH ch) = 0 ∧ t.link.up = true) ∧
    (∀ (toH : Bool) (ch : Nat), s.link.up = true → ch < 2 → (dirTo toH s).rx ch = false → DoesWithin (.channelRetrain toH ch) s [] [.link] fun t =>
      (dirTo toH t).good ch = max 1 ((dirTo toH s).good ch)) ∧
    (∀ (hf : Nat) (fh : Nat), s.link.up = false → (s.pwr.h = .run ∨ s.pwr.h = .boot) → (s.pwr.f = .run ∨ s.pwr.f = .boot) → s.svc.held = [] →
      hf % 4 ≠ 0 → fh % 4 ≠ 0 → s.link.flost = [] → DoesWithin (.linkUp hf fh) s [0x00, 0x02, 0x03, 0x04, 0x06, 0x09, 0x51, 0x78, 0x7C, 0x7D]
      [.link, .wdog, .intc, .jr, .sec] fun t => t.link.up = true ∧ t.link.hf.txNext = 0 ∧ t.link.hf.e = 0 ∧ t.link.fh.txNext = 0 ∧ t.link.fh.e = 0 ∧
      t.link.fh.queue.take (backlogFlush s).length = backlogFlush s ∧ t.link.backlog = [] ∧ t.get SHUTTLE_H_STAT_UP = 1 ∧
      t.get SHUTTLE_F_STAT_UP = 1 ∧ t.link.hf.rx0 = hf.testBit 0 ∧ t.link.hf.rx1 = hf.testBit 1 ∧ t.link.fh.rx0 = fh.testBit 0 ∧
      t.link.fh.rx1 = fh.testBit 1) ∧
    (s.link.up = false → s.pwr.h = .run → DoesWithin (.linkDownTimeout) s [0x02, 0x03, 0x04, 0x09, 0x14, 0x51] [.link, .intc, .jr] fun t =>
      t.get SAFETY_STAT_PERMIT = 0 ∧ t.get SAFETY_STAT_BLOCK = 0 ∧ t.get SAFETY_DEMCNT_COUNT = min (s.get SAFETY_DEMCNT_COUNT + 1) (2 ^ 32 - 1)) ∧
    (∀ (tag : Nat) (k : Nat) (addr : Nat), s.link.reads = [⟨tag, addr, 1, .pcie k⟩] → s.link.gathers = [⟨k, [(addr, none)]⟩] → k < 256 →
      s.svc.held = [] → DoesWithin (.readResponseTimeout tag) s [0x02, 0x04, 0x06, 0x09, 0x12, 0x21, 0x51]
      [.link, .host, .intc, .jr, .s0, .svc, .sec] fun t => t.out = [.pcie k [pgidWord (pageOf addr)]] ∧ t.link.reads = [] ∧ t.link.gathers = []) ∧
    (∀ (toH : Bool) (ch : Nat) (next : Nat) (stamp : Stamp) (sec : Nat) (frac : Nat) (trigger : Nat) (mark : Nat) (lc : Nat) (dt : Nat), s.link.up = true →
      ch < 2 → (dirTo toH s).rx ch = true → (dirTo toH s).markRx ≠ some (mark % 65536) →
      Does (.timeMark toH ch next stamp sec frac trigger mark lc dt) s fun t => (dirTo toH t).markRx = some (mark % 65536) ∧ t.link.up = true) ∧
    (∀ (ch : Nat) (next : Nat) (stamp : Stamp) (sec : Nat) (frac : Nat) (trigger : Nat) (mark : Nat) (lc : Nat) (dt : Nat), s.link.up = true → ch < 2 →
      s.link.hf.rx ch = true → next % 65536 = s.link.hf.e % 65536 → s.link.hf.markRx = some (mark % 65536) →
      Does (.timeMark false ch next stamp sec frac trigger mark lc dt) s fun t => t.link.hf.markRx = s.link.hf.markRx ∧ t.warp = s.warp ∧
      t.clk = s.clk ∧ t.regs = s.regs) ∧
    (∀ (rt : Nat) (ta : Nat), s.link.up = true → DoesWithin (.calibrationMark rt ta) s [0x02, 0x03, 0x05, 0x09, 0x40, 0x51]
      [.link, .intc, .clk, .sec, .isl] fun t => t.get SHUTTLE_H_TMDLY_DELAY = lsbU 16 (((rt : Rat) - ta) / 2) % 2 ^ SHUTTLE_H_TMDLY_DELAY.wd ∧
      t.clk.cal = some 0 ∧ t.link.fDelay = lsbU 16 (((rt : Rat) - ta) / 2))

/-- PCIe requests become shuttle frames; a function level reset and a link-down leave the MSI-X state at reset; A queued read is answered with
its words; a GATE heddle applies a staged write and leaves the pick's short warp in PGSEQ (R49, R55, R74, R75, R76, R89, R147). Where it
goes beyond the rules it states choices of the model: log entries 53, 54, 55, 57, 62, 109, 116, 138, 139, 140. -/
def Obligations.PcieAccesses : Prop :=
    ∀ s : State, s.Inv →
    (∀ (tag : Nat) (dt : Nat) (addr : Nat), pcieServes s = true → s.host.stalled = false → s.pwr.h = .run → addr % 4 = 0 → isF (pageOf addr) = true →
      assigned (pageOf addr) = true → reachable s (pageOf addr) = true →
      DoesWithin (.pcieReadTlp tag (.bar0 addr 1) dt) s [0x02, 0x03, 0x05, 0x12, 0x21, 0x40, 0x71] [.link, .host, .clk, .svc, .sec] fun t =>
      t.link.hf.queue = s.link.hf.queue ++ [.readReq addr s.link.nextTag 1 0] ∧ t.link.nextTag = (s.link.nextTag + 1) % 256) ∧
    (∀ (tag : Nat) (dt : Nat) (n : Nat), pcieServes s = true → Does (.pcieReadTlp tag (.bar2 n) dt) s fun t =>
      t = { s with out := [.pcie (tag % 256) (List.replicate n 0)] }) ∧
    (∀ (tag : Nat) (dt : Nat), s.flag HOSTIF_STAT_PCIEUP = true → Does (.pcieReadTlp tag .config dt) s fun t =>
      t = { s with out := [.pcie (tag % 256) (configWords s)] }) ∧
    (∀ (addr : Nat) (w : Word), pcieServes s = true → s.host.stalled = false → s.host.staged.length ≤ 64 → s.pwr.h = .run → s.svc.held = [] →
      addr % 4 = 0 → isF (pageOf addr) = true → assigned (pageOf addr) = true → reachable s (pageOf addr) = true → isStaged addr = false →
      hOnly addr = false → Does (.pcieWriteTlp (.bar0 addr [(w, 15)])) s fun t => t.link.hf.queue = s.link.hf.queue ++ [.postedWr addr [w]] ∧
      t.regs = s.regs) ∧
    (∀ (en : Bool) (mask : Bool), s.flag HOSTIF_STAT_PCIEUP = true → (en = false ∨ mask = true) →
      Does (.pcieWriteTlp (.config (.msix en mask))) s fun t => t = { s.silent with host := { s.host with msixEn := en, msixMask := mask } }) ∧
    (∀ (off : Nat) (data : List Byte), pcieServes s = true → s.host.stalled = false → s.pwr.h = .run → off % 16 = 0 → data ≠ [] →
      off + data.length ≤ 65536 → reachable s 0x041 = true → DoesWithin (.bar2Write off data) s [0x02, 0x03, 0x09, 0x51] [.link, .intc] fun t =>
      t.link.hf.bulkQ = s.link.hf.bulkQ ++ bulkSegments (s.get HOSTIF_BULKCTL_TARGET) (s.get HOSTIF_BULKCTL_XFER) data.length (65536 * s.get HOSTIF_BULKCTL_BASE + off) data ∧
      t.regs = s.regs) ∧
    (s.pwr.h = .run → Does (.flr) s fun t => t.host.msixEn = false ∧ t.host.msixMask = false ∧ (∀ a, 0x9800 ≤ a → a < 0x9C08 → t.raw a = resetWord a) ∧
      t.raw HOSTIF_BULKCTL_TARGET.addr = resetWord HOSTIF_BULKCTL_TARGET.addr) ∧
    (s.flag HOSTIF_STAT_PCIEUP = true → Does (.pcieLinkDown) s fun t => t.get HOSTIF_STAT_PCIEUP = 0 ∧ t.get HOSTIF_STAT_SPEED = 0 ∧
      t.get HOSTIF_STAT_WIDTH = 0 ∧ t.host.msixEn = false ∧ t.link.gathers = s.link.gathers.filter (·.tag == svcTag)) ∧
    (∀ (lc : Nat) (addr : Nat) (tag : Nat) (count : Nat) (agent : Nat) (q : List Payload), s.pwr.f = .run → accessOpen s lc = true →
      s.link.access = .readReq addr tag count agent :: q → isF (pageOf addr) = true → assigned (pageOf addr) = true → 1 ≤ count → count ≤ 4 →
      addr % 4 = 0 → spiAddrErr addr count = false → Does (.hostAccessExecute lc) s fun t =>
      (∃ ws, t.link.fh.queue.getLast? = some (.readRsp addr tag 0 ws))) ∧
    (∀ (lc : Nat), s.pwr.f = .run → accessOpen s lc = false → Does (.hostAccessExecute lc) s fun t => t = s.silent) ∧
    (∀ (w : Word) (x : Word), s.pwr.f = .run → s.link.arrived = [(0x74040, w, x)] → s.warden.staged = [] → s.link.access = [] → w.toNat < 65536 →
      Does (.gateHeddle) s fun t => t.raw 0x74040 = w ∧ t.get (pgseq 0x74) = (swarp s).toNat ∧ t.link.arrived = [])

/-- SPI read and write frames of F-die pages become shuttle frames; STATUS, invalid commands, the deadline and the end of a frame (R49, R77,
R78, R79, R80). Where it goes beyond the rules it states choices of the model: log entries 62, 113, 138. -/
def Obligations.SpiFrames : Prop :=
    ∀ s : State, s.Inv →
    (∀ (addr : Nat) (count : Nat) (dt : Nat), s.host.spiDead = false → s.pwr.h = .run → s.host.stalled = false → 1 ≤ count → count ≤ 4 →
      spiAddrErr addr count = false → isF (pageOf addr) = true → assigned (pageOf addr) = true → reachable s (pageOf addr) = true →
      DoesWithin (.spiRead addr count dt) s [0x02, 0x03, 0x05, 0x09, 0x21, 0x40, 0x71] [.link, .host, .clk, .sec] fun t =>
      t.link.hf.queue = s.link.hf.queue ++ [.readReq addr s.link.nextTag count 1] ∧ t.host.spi = some ⟨addr, count, none, false⟩ ∧
      t.get HOSTIF_STAT_SPISEEN = 1) ∧
    (∀ (addr : Nat) (count : Nat) (dt : Nat), s.host.spiDead = false → s.pwr.h = .run → s.host.stalled = false → 1 ≤ count → count ≤ 4 →
      spiAddrErr addr count = false → isF (pageOf addr) = true → assigned (pageOf addr) = true → reachable s (pageOf addr) = true →
      DoesWithin (.spiQread addr count dt) s [0x02, 0x03, 0x05, 0x09, 0x21, 0x40, 0x71] [.link, .host, .clk, .sec] fun t =>
      t.link.hf.queue = s.link.hf.queue ++ [.readReq addr s.link.nextTag count 1] ∧ t.host.spi = some ⟨addr, count, none, false⟩ ∧
      t.get HOSTIF_STAT_SPISEEN = 1) ∧
    (∀ (addr : Nat) (w : Word), s.host.spiDead = false → s.pwr.h = .run → s.host.stalled = false → s.host.staged.length ≤ 64 → s.svc.held = [] →
      spiAddrErr addr 1 = false → isF (pageOf addr) = true → assigned (pageOf addr) = true → reachable s (pageOf addr) = true →
      isStaged addr = false → hOnly addr = false → Does (.spiWrite addr [w] (spiWriteCrc 0x20 addr [w])) s fun t =>
      t.link.hf.queue = s.link.hf.queue ++ [.postedWr addr [w]] ∧ t.get HOSTIF_STAT_SPISEEN = 1 ∧ t.host.spi = none) ∧
    (∀ (addr : Nat) (w : Word), s.host.spiDead = false → s.pwr.h = .run → s.host.stalled = false → s.host.staged.length ≤ 64 → s.svc.held = [] →
      spiAddrErr addr 1 = false → isF (pageOf addr) = true → assigned (pageOf addr) = true → reachable s (pageOf addr) = true →
      isStaged addr = false → hOnly addr = false → Does (.spiQwrite addr [w] (spiWriteCrc 0x40 addr [w])) s fun t =>
      t.link.hf.queue = s.link.hf.queue ++ [.postedWr addr [w]] ∧ t.get HOSTIF_STAT_SPISEEN = 1 ∧ t.host.spi = none) ∧
    (∀ (addr : Nat) (data : List Word) (crc : Nat), s.host.spiDead = false → s.pwr.h = .run → s.svc.held = [] → data ≠ [] → data.length ≤ 4 →
      crc ≠ spiWriteCrc 0x20 addr data → Does (.spiWrite addr data crc) s fun t => t.host.lastCrc = true ∧
      t.get HOSTIF_SPISTAT_CRCERR = min (s.get HOSTIF_SPISTAT_CRCERR + 1) 65535 ∧ t.link.hf = s.link.hf) ∧
    (s.host.spiDead = false → s.pwr.h = .run → DoesWithin (.spiStatus) s [] [.link, .host] fun t =>
      t.out = [.spi (0x80 + 32 * bit s.host.lastCrc + 16 * bit s.host.wdrop) [] (crc16 [BitVec.ofNat 8 (0x80 + 32 * bit s.host.lastCrc + 16 * bit s.host.wdrop)])] ∧
      t.host.lastCrc = false ∧ t.host.wdrop = false ∧ t.regs = s.regs) ∧
    (∀ (code : Nat), spiCode (code % 256) = false → s.pwr.h = .run → DoesWithin (.spiInvalidCommand code) s [] [.link, .host] fun t =>
      t.host.spiDead = true ∧ t.host.spi = none ∧ t.regs = s.regs) ∧
    (∀ (r : SpiRead), s.host.spi = some r → r.answered = false → DoesWithin (.spiStatusDeadline) s [] [.link, .host] fun t =>
      t.host.spi = some { r with answered := true } ∧
      t.out = [.spi (0xC0 + 32 * bit s.host.lastCrc + 16 * bit s.host.wdrop) [] (crc16 [BitVec.ofNat 8 (0xC0 + 32 * bit s.host.lastCrc + 16 * bit s.host.wdrop)])]) ∧
    (s.host.spi.isSome = true → DoesWithin (.spiCsRise) s [0x09] [.link, .host] fun t => t.host.spi = none ∧ t.host.spiDead = false ∧
      t.get HOSTIF_SPISTAT_ABANDON = min (s.get HOSTIF_SPISTAT_ABANDON + 1) 65535)

/-- Writes of a page's event flags, of its error capture and of its locks; CLAIM, COMPLETE and the WARDEN target: the winner's pending bit is
cleared, its active bit set and cleared; Pending and mask bits by their set and clear registers; output mode and source configuration
(R10, R86, R88, R91, R92, R96, R97, R99, R100, R101, R103, R104, R105, R106). Where it goes beyond the rules it states choices of the
model: log entries 48, 57. -/
def Obligations.HeadersAndInterrupts : Prop :=
    ∀ s : State, s.Inv →
    (∀ (page : Nat) (value : Word), hasHeader page = true → page ≠ 0x51 → page < 0x100 → page ≠ 0x70 →
      value &&& ~~~word (((pageType page).map (·.evt)).getD 0) = 0 → Does (.pgevtWrite page value) s fun t => t.raw (page * 0x1000 + 0x010) = value) ∧
    (∀ (page : Nat) (value : Word), hasHeader page = true → page ≠ 0x51 → page < 0x100 → page ≠ 0x70 →
      value &&& ~~~word (((pageType page).map (·.evt)).getD 0) = 0 → Does (.pgevtset page value) s fun t =>
      t.raw (page * 0x1000 + 0x010) = s.raw (page * 0x1000 + 0x010) ||| value) ∧
    (∀ (page : Nat) (value : Word), hasHeader page = true → page ≠ 0x51 → page < 0x100 → page ≠ 0x70 →
      value &&& ~~~word (((pageType page).map (·.evt)).getD 0) = 0 → Does (.pgevtclr page value) s fun t =>
      t.raw (page * 0x1000 + 0x010) = s.raw (page * 0x1000 + 0x010) &&& ~~~value) ∧
    (∀ (page : Nat), hasHeader page = true → Does (.errclr page) s fun t => t.raw (page * 0x1000 + 0x024) = 0 ∧ t.get (pgerrValid page) = 0) ∧
    (∀ (page : Nat) (value : Word), hasHeader page = true → hasLocks page = true → value.toNat < 65536 → Does (.pglock page value) s fun t =>
      t.raw (page * 0x1000 + 0x020) = s.raw (page * 0x1000 + 0x020) ||| value) ∧
    (∀ (agent : Nat) (value : Word), Does (.registerWrite agent 0x404C value) s fun t => t.raw 0x404C = value ∧ t.jr = s.jr) ∧
    (∀ (target : Nat), target < 2 → winner s target ≠ 0 → DoesWithin (.claim target) s [0x02] [] fun t => t.out = [.read [word (winner s target)]] ∧
      t.get (pendBit (winner s target)) = 0 ∧ t.get (activeBit (winner s target)) = 1) ∧
    (∀ (target : Nat) (n : Nat), target < 2 → n < 256 → s.flag (activeBit n) = true → s.get (INTC_0_SRCCFG_TARGET n) = target →
      DoesWithin (.complete target (word n)) s [0x01, 0x02, 0x04, 0x09, 0x51] [.link, .intc, .jr] fun t => t.get (activeBit n) = 0 ∧
      (levelSource n = true → s.intc.level.contains n = true → t.get (pendBit n) = 1)) ∧
    (winner s 2 ≠ 0 → reachable s 0x52 = true → levelSource (winner s 2) = true → DoesWithin (.wardenTargetPass) s [0x02, 0x03, 0x09, 0x51, 0x52]
      [.link, .intc] fun t => t.link.hf.queue = s.link.hf.queue ++ [.postedWr WARDEN_IRQIN_SRC.addr [word (winner s 2)]] ∧
      t.get (pendBit (winner s 2)) = 0 ∧ t.intc.held = insertNat (winner s 2) s.intc.held) ∧
    (winner s 2 ≠ 0 → reachable s 0x52 = false → levelSource (winner s 2) = true → DoesWithin (.wardenTargetPass) s [0x02, 0x03, 0x09, 0x51, 0x52]
      [.link, .intc] fun t => t.link.hf.queue = s.link.hf.queue ∧ t.get (pendBit (winner s 2)) = 0 ∧
      t.intc.dropped = insertNat (winner s 2) s.intc.dropped ∧ t.get SHUTTLE_H_DROPCNT_COUNT = min (s.get SHUTTLE_H_DROPCNT_COUNT + 1) (2 ^ 32 - 1)) ∧
    (∀ (idx : Nat) (value : Word), idx < 8 → (idx = 0 → value.getLsbD 0 = false) → DoesWithin (.pendset idx value) s [0x01, 0x02, 0x04, 0x09, 0x51]
      [.link, .intc, .jr] fun t => t.raw (0x2040 + 4 * idx) = s.raw (0x2040 + 4 * idx) ||| (value &&& sourceMask idx edgeSource)) ∧
    (∀ (idx : Nat) (value : Word), idx < 8 → (idx = 0 → value.getLsbD 0 = false) → DoesWithin (.pendclr idx value) s [0x01, 0x02, 0x04, 0x09, 0x51]
      [.link, .intc, .jr] fun t => t.raw (0x2040 + 4 * idx) = s.raw (0x2040 + 4 * idx) &&& ~~~(value &&& sourceMask idx edgeSource)) ∧
    (∀ (idx : Nat) (value : Word), idx < 8 → (idx = 0 → value.getLsbD 0 = false) → DoesWithin (.maskset idx value) s [0x01, 0x02, 0x04, 0x09, 0x51]
      [.link, .intc, .jr] fun t => t.raw (0x20A0 + 4 * idx) = s.raw (0x20A0 + 4 * idx) ||| (value &&& hostMaskable s idx)) ∧
    (∀ (idx : Nat) (value : Word), idx < 8 → (idx = 0 → value.getLsbD 0 = false) → DoesWithin (.maskclr idx value) s [0x01, 0x02, 0x04, 0x09, 0x51]
      [.link, .intc, .jr] fun t => t.raw (0x20A0 + 4 * idx) = s.raw (0x20A0 + 4 * idx) &&& ~~~(value &&& hostMaskable s idx)) ∧
    (∀ (target : Nat) (value : Word), target < 2 → (s.raw 0x1020).getLsbD 1 = false → (value = 0 ∨ value = 1) →
      Does (.outcfgWrite target value) s fun t => t.get (INTC_0_OUTCFG_MODE target) = value.toNat ∧
      intPin t target = (value == 0#32 && winner s target != 0)) ∧
    (∀ (src : Nat) (value : Word), 1 ≤ src → src < 256 → src ≠ 128 → src ≠ 129 → (s.raw 0x1020).getLsbD 0 = false → s.flag (activeBit src) = false →
      value &&& ~~~0x3F0073#32 = 0 → Does (.srccfgWrite src value) s fun t => t.raw (0x1400 + 4 * src) &&& 0x3F0073#32 = value)

/-- Permit edges and their loss, reopening, and the arming of the yield; Kick, expiry, action and the end of its ramp; the watchdog control in
force goes to the F-die (R56, R61, R62, R63, R65, R66, R72, R94, R555, R556). Where it goes beyond the rules it states choices of the
model: log entries 7, 16, 58, 60, 61, 137, 167. -/
def Obligations.PermitAndWatchdog : Prop :=
    ∀ s : State, s.Inv →
    (∀ (dt : Nat), s.pwr.f = .run → s.permit.haveRef = false → Does (.permitEdge dt) s fun t => t = { s.silent with permit.haveRef := true }) ∧
    (∀ (dt : Nat), s.pwr.f = .run → s.permit.haveRef = true → 350 ≤ dt → dt ≤ 650 → DoesWithin (.permitEdge dt) s [0x51] [.permit] fun t =>
      t.permit.timing = true ∧ t.get SHUTTLE_F_STAT_PVALID = 1) ∧
    (s.permit.timing = true → s.flag SHUTTLE_F_STAT_SHUT = false → canYield s = false →
      DoesWithin (.permitTimeout) s [0x02, 0x09, 0x51, 0x58, 0x59, 0x5A, 0x5B, 0x5C, 0x5D, 0x5E, 0x5F] [.pwr, .link, .permit, .intc, .twin] fun t =>
      t.get SHUTTLE_F_STAT_PVALID = 0 ∧ t.get SHUTTLE_F_STAT_PSTABLE = 0 ∧ t.get SHUTTLE_F_STAT_SHUT = 1 ∧ t.permit.timing = false ∧
      (s.permit.yielded = false → t.pwr.gridOpen = some true)) ∧
    (s.permit.timing = true → Does (.permitStable) s fun t => t = s.silent.put SHUTTLE_F_STAT_PSTABLE 1) ∧
    (s.flag SHUTTLE_F_STAT_PSTABLE = true → s.flag SHUTTLE_F_STAT_SHUT = true → s.permit.forced = false →
      DoesWithin (.reopen) s [0x02, 0x04, 0x09, 0x51] [.pwr, .link, .permit, .intc, .jr] fun t => t.get SHUTTLE_F_STAT_SHUT = 0 ∧ t.pwr = s.pwr ∧
      t.permit = s.permit) ∧
    (s.flag SHUTTLE_F_STAT_PSTABLE = true → s.flag SHUTTLE_F_STAT_SHUT = true → s.permit.forced = true → DoesWithin (.reopen) s [0x02, 0x04, 0x09, 0x51]
      [.pwr, .link, .permit, .intc, .jr] fun t => t.get SHUTTLE_F_STAT_SHUT = 0 ∧ t.permit.forced = false ∧ t.pwr.gridOpen = some false) ∧
    (∀ (arm : Bool), (arm = true → s.weave.mode.testBit 0 = true) → Does (.yieldArm arm) s fun t => t = s.silent.putB SHUTTLE_F_STAT_YIELD arm) ∧
    (Does (.yieldExpiry) s fun t => t = s.silent.put SHUTTLE_F_STAT_YIELD 0) ∧
    (∀ (value : Word), value = 0x5A5A#32 → (hwdState s = 1 ∨ hwdState s = 2) → DoesWithin (.hwdkick value) s [0x02, 0x04, 0x09, 0x51]
      [.link, .wdog, .intc, .jr] fun t => t.get HOSTIF_HWDSTAT_STATE = 0 ∧ t.wdog.counting = true) ∧
    (∀ (value : Word), (s.raw 0x9020).getLsbD 0 = false → value &&& ~~~0xFFFFF7#32 = 0 → bitsAt value.toNat 1 2 ≤ 2 → 1 ≤ bitsAt value.toNat 4 13 →
      bitsAt value.toNat 4 13 ≤ 6000 → 1 ≤ bitsAt value.toNat 17 7 → bitsAt value.toNat 17 7 ≤ 100 → Does (.hwdctlWrite value) s fun t =>
      t.raw HOSTIF_HWDCTL_EN.addr &&& 0xFFFFF7#32 = value ∧ (s.link.up = true → t.wdog.fCtl = t.raw HOSTIF_HWDCTL_EN.addr)) ∧
    (s.pwr.h = .run → s.flag HOSTIF_HWDCTL_EN = true → s.wdog.counting = true → hwdState s = 0 → s.get HOSTIF_HWDCTL_ACTION ≤ 2 →
      DoesWithin (.watchdogExpiry) s [0x02, 0x04, 0x09, 0x51] [.link, .wdog, .intc, .jr] fun t =>
      t.get HOSTIF_HWDSTAT_STATE = s.get HOSTIF_HWDCTL_ACTION + 1 ∧
      t.get HOSTIF_HWDSTAT_EXPCNT = min (s.get HOSTIF_HWDSTAT_EXPCNT + 1) (2 ^ HOSTIF_HWDSTAT_EXPCNT.wd - 1) ∧ t.wdog.counting = false) ∧
    (s.wdog.pass = true → s.link.up = true → hwdState s = 1 → Does (.watchdogAction) s fun t =>
      t = { s.silent with wdog := { s.wdog with pass := false, fState := 1 } }) ∧
    (s.wdog.pass = true → s.link.up = true → (hwdState s = 2 ∨ hwdState s = 3) → Does (.watchdogAction) s fun t =>
      t = { s.silent with wdog := { s.wdog with pass := false, fState := hwdState s, falling := true, ramping := true, rate := s.wdog.rateNext, holdOpen := hwdState s == 3 } }) ∧
    (s.wdog.ramping = true → s.wdog.falling = true → s.wdog.factor ≤ 0 → s.wdog.holdOpen = true → s.permit.yielded = false →
      DoesWithin (.watchdogRampEnd) s [] [.pwr, .wdog] fun t => t.wdog = { s.wdog with ramping := false, holdOpen := false } ∧
      t.pwr.gridOpen = some true ∧ t.regs = s.regs) ∧
    (s.wdog.ramping = true → s.wdog.falling = false → 1 ≤ s.wdog.factor → Does (.watchdogRampEnd) s fun t =>
      t = { s.silent with wdog.ramping := false })

/-- A request goes to the F-die with the next number, the capture leaves as fragments, the timeout ends the assembly without the F share;
Requests of a served port without others held: a ping, a session opened and closed, a read and a write refused without a session; Plug and
unplug, and the ends of a session with their reasons (R111, R112, R447, R448, R449, R450, R451, R452). Where it goes beyond the rules it
states choices of the model: log entries 9, 34, 104, 105, 119, 166. -/
def Obligations.SelvedgeAndServicePort : Prop :=
    ∀ s : State, s.Inv →
    (∀ (value : Word), value = 1#32 → s.selv.busy = none → s.link.up = true → DoesWithin (.selvReq value) s [0x00, 0x02, 0x04, 0x09, 0x51]
      [.link, .intc, .jr, .selv] fun t => t.selv.busy = some (s.selv.last % 65535 + 1) ∧ t.get DEVICE_SELV_STAT_BUSY = 1 ∧
      t.link.hf.queue = s.link.hf.queue ++ [.postedWr DEVICE_SELV_REQ_GO.addr [word (s.selv.last % 65535 + 1)]]) ∧
    (∀ (n : Nat), s.selv.capture = some n → Does (.selvedgeCapture) s fun t =>
      t = { s.silent with selv.capture := none, link.selvHolding := some n, link.fh.bulkQ := s.link.fh.bulkQ ++ fragments n (fShare s.silent) }) ∧
    (∀ (n : Nat), s.selv.busy = some n → n < 65536 → DoesWithin (.selvedgeTimeout) s [0x00, 0x02, 0x09, 0x51] [.link, .intc, .selv] fun t =>
      t.selv.busy = none ∧ t.get DEVICE_SELV_STAT_BUSY = 0 ∧ t.get DEVICE_SELV_STAT_DONE = 1 ∧ t.get DEVICE_SELV_STAT_FVALID = 0 ∧
      t.get DEVICE_SELV_STAT_REQ = n) ∧
    (∀ (tag : Nat), svcUp s = true → s.svc.held = [] → s.svc.waiting = false → s.pwr.h = .run → s.host.stalled = false → Does (.svcPing tag) s fun t =>
      t.out = [.svc 0x85 tag 0 0 0 []] ∧ t.svc.held = []) ∧
    (∀ (tag : Nat) (cred : List Word), svcUp s = true → s.svc.held = [] → s.svc.waiting = false → s.pwr.h = .run → s.host.stalled = false →
      s.flag SERVICE_STAT_SESS = false → levelNeeds (fuseState s.sec.fuses) 1 = some [] → Does (.svcOpen tag 1 cred true) s fun t =>
      t.get SERVICE_STAT_SESS = 1 ∧ t.get SERVICE_STAT_LEVEL = 1 ∧ t.svc.held = []) ∧
    (∀ (tag : Nat), svcUp s = true → s.svc.held = [] → s.svc.waiting = false → s.pwr.h = .run → s.host.stalled = false →
      s.flag SERVICE_STAT_SESS = true → Does (.svcClose tag) s fun t => t.get SERVICE_STAT_SESS = 0 ∧ t.get SERVICE_STAT_LEVEL = 0 ∧
      t.get SERVICE_SESS_REASON = 0 ∧ t.svc.held = []) ∧
    (∀ (tag : Nat) (addr : Nat), svcUp s = true → s.svc.held = [] → s.svc.waiting = false → s.pwr.h = .run → s.host.stalled = false →
      s.flag SERVICE_STAT_SESS = true → addr % 4 = 0 → addr < 0x1000000 → isF (pageOf addr) = true → assigned (pageOf addr) = true →
      s.link.up = true → s.flag SHUTTLE_H_STAT_NOTREADY = false → s.link.gathers = [] → Does (.svcRead tag addr 1 true) s fun t =>
      t.link.hf.queue = s.link.hf.queue ++ [.readReq addr s.link.nextTag 1 2] ∧ t.svc.waiting = true ∧
      t.svc.held = [⟨3, tag, addr, 1, .read addr 1⟩]) ∧
    (∀ (tag : Nat) (addr : Nat) (w : Word), svcUp s = true → s.svc.held = [] → s.svc.waiting = false → s.pwr.h = .run → s.host.stalled = false →
      s.host.staged.length ≤ 64 → s.flag SERVICE_STAT_SESS = true → s.get SERVICE_STAT_LEVEL ≠ 1 → addr % 4 = 0 → addr < 0x1000000 →
      isF (pageOf addr) = true → assigned (pageOf addr) = true → reachable s (pageOf addr) = true → isStaged addr = false → hOnly addr = false →
      Does (.svcWrite tag addr 1 [w]) s fun t => t.link.hf.queue = s.link.hf.queue ++ [.postedWr addr [svcWord s addr w]] ∧
      t.out = [.svc 0x84 tag 0 addr 1 []] ∧ t.svc.held = []) ∧
    (s.flag SERVICE_STAT_VBUS = false → DoesWithin (.vbusPlug) s [0x02, 0x04, 0x09, 0x12, 0x51] [.link, .intc, .jr] fun t =>
      t.get SERVICE_STAT_VBUS = 1) ∧
    (s.flag SERVICE_STAT_VBUS = true → s.flag SERVICE_STAT_SESS = true → DoesWithin (.vbusUnplug) s [0x02, 0x04, 0x09, 0x12, 0x51]
      [.link, .intc, .jr, .svc] fun t => t.get SERVICE_STAT_VBUS = 0 ∧ t.get SERVICE_STAT_CONF = 0 ∧ t.get SERVICE_STAT_SESS = 0 ∧
      t.get SERVICE_SESS_REASON = 1 ∧ t.svc.held = []) ∧
    (s.flag SERVICE_STAT_SESS = true → DoesWithin (.usbBusReset) s [0x02, 0x04, 0x09, 0x12, 0x51] [.link, .intc, .jr, .svc] fun t =>
      t.get SERVICE_STAT_CONF = 0 ∧ t.get SERVICE_STAT_SESS = 0 ∧ t.get SERVICE_SESS_REASON = 2 ∧ t.svc.held = []) ∧
    (s.flag SERVICE_STAT_SESS = true → DoesWithin (.usbSuspend) s [0x02, 0x04, 0x09, 0x12, 0x51] [.link, .intc, .jr, .svc] fun t =>
      t.get SERVICE_STAT_SESS = 0 ∧ t.get SERVICE_SESS_REASON = 3 ∧ t.svc.held = []) ∧
    (s.flag SERVICE_STAT_SESS = true → DoesWithin (.serviceIdle) s [0x02, 0x04, 0x09, 0x12, 0x51] [.link, .intc, .jr, .svc] fun t =>
      t.get SERVICE_STAT_SESS = 0 ∧ t.get SERVICE_SESS_REASON = 4 ∧ t.svc.held = []) ∧
    (s.flag SERVICE_STAT_SESS = true → takesOne s SERVICE_CTL_EN.addr 1 (s.raw SERVICE_CTL_EN.addr ||| 2#32) = true → Does (.serviceKick) s fun t =>
      t.get SERVICE_STAT_SESS = 0 ∧ t.get SERVICE_SESS_REASON = 5 ∧ t.svc.held = []) ∧
    (∀ (value : Nat), s.flag SERVICE_STAT_VBUS = true → s.flag SERVICE_CTL_EN = true → value ≤ 1 → DoesWithin (.usbStandardRequest 9 value) s [0x12] []
      fun t => t.get SERVICE_STAT_CONF = value ∧ t.out = [.usb (some [])])

/-- At a pick boundary the accumulator passes the pick's loom clocks with the INC of the pick; Validity, the freeze of f_m, the flywheel's
limit, LOCK, and the reads of the warp that latch (R113, R115, R116, R117, R120, R123, R124, R125, R126, R127, R139, R140). Where it goes
beyond the rules it states choices of the model: log entries 4, 8, 67, 68, 142, 147. -/
def Obligations.PicksAndWarpStates : Prop :=
    ∀ s : State, s.Inv →
    (∀ (inputs : List (List Int)), s.warp.running = true →
      DoesWithin (.pickBoundary inputs) s [0x02, 0x09, 0x40, 0x41, 0x44, 0x45, 0x46, 0x47, 0x48, 0x49, 0x4A, 0x4B, 0x4C, 0x4D, 0x4E, 0x4F, 0x50, 0x51, 0x58, 0x59, 0x5A, 0x5B, 0x5C, 0x5D, 0x5E, 0x5F, 0x60, 0x62, 0x68, 0x69, 0x6A, 0x6B, 0x6C, 0x6D, 0x6E, 0x6F, 0x70, 0x71, 0x74, 0x76, 0x78, 0x79, 0x7D, 0x100]
      [.pwr, .link, .wdog, .intc, .warp, .weave, .loom, .clu, .heat, .cells, .ring, .twin, .edge, .blank, .cur, .mppt, .ride, .isl, .adc, .fcmp, .meter]
      fun t => t.warp.acc = s.warp.acc + BitVec.ofNat 96 (clocksToPick s.warp.acc.toNat (s.get WARP_INC_INC) * s.get WARP_INC_INC)) ∧
    (s.flag WARP_STAT_VALID = false → 4096 ≤ s.warp.validRun → s.get WARP_STAT_STATE = 1 → s.flag WARP_TRACK_FORCEFREE = false → holdInForce s = false →
      DoesWithin (.measurementValid) s [0x02, 0x09, 0x40, 0x51] [.link, .intc, .warp] fun t => t.get WARP_STAT_VALID = 1 ∧
      t.get WARP_STAT_STATE = 2 ∧ t.warp.incNext = (steerLaw s).warp.incNext ∧ t.warp.depart = []) ∧
    (s.warp.freeze = 1 → Does (.fmFreezeEnd) s fun t => t = { s.silent with warp.freeze := 0 }) ∧
    (s.get WARP_STAT_STATE = 3 → DoesWithin (.flywheelLimit) s [0x02, 0x09, 0x40, 0x51] [.link, .intc, .warp] fun t => t.get WARP_STAT_STATE = 1 ∧
      t.warp.incNext = (slewTo (fNom s) s).warp.incNext) ∧
    (4096 ≤ s.warp.lockRun → Does (.warpLock) s fun t => t = s.silent.put WARP_STAT_LOCK 1) ∧
    (∀ (agent : Nat) (lc : Nat), DoesWithin (.nowLoRead agent lc) s [0x40] [.host] fun t => t.out = [.read [(stampAt lc s).extractLsb' 0 32]] ∧
      t.host.shadows.lookup (agent, WARP_NOW_LO_STAMP.addr) = some [(stampAt lc s).extractLsb' 32 32] ∧ t.regs = s.regs ∧ t.warp = s.warp) ∧
    (∀ (agent : Nat), DoesWithin (.atlSloRead agent) s [0x40] [.host] fun t => t.out = [.read [s.raw WARP_ATL_SLO_STAMP.addr]] ∧
      t.host.shadows.lookup (agent, WARP_ATL_SLO_STAMP.addr) = some ((List.range 4).map fun i => s.raw (WARP_ATL_SLO_STAMP.addr + 4 + 4 * i)) ∧
      t.regs = s.regs) ∧
    (s.link.up = true → s.warp.running = true → DoesWithin (.angleZeroMark) s [0x02, 0x03, 0x05, 0x09, 0x40, 0x51] [.link, .intc, .clk, .sec, .isl]
      fun t => t.link.fh.marks = s.link.fh.marks ++ [.timeMark (stamp s) 0 0 0 ((s.link.fh.markTx + 1) % 65536)] ∧ t.regs = s.regs) ∧
    (Does (.warpImageStale) s fun t => t = s.silent.put TIME_STAT_WFRESH 0)

/-- The clock's sources, its edges and holdover, the armed seconds, the latches (R131, R132, R133, R134, R135, R136, R137, R138). Where it
goes beyond the rules it states choices of the model: log entries 3, 13, 14, 17, 50, 111, 165. -/
def Obligations.WallClock : Prop :=
    ∀ s : State, s.Inv →
    (∀ (dt : Nat), s.flag TIME_PPSCTL_EN = true → s.clk.ppsRef = false → Does (.ppsEdge dt) s fun t =>
      t = { (clockAdvance dt s.silent) with clk := { (clockAdvance dt s.silent).clk with edgeAge := some 0, ppsRef := true, ppsRun := 0 } }) ∧
    (∀ (dt : Nat) (a : Nat), s.flag TIME_PPSCTL_EN = true → s.clk.ppsRef = true → s.clk.edgeAge = some a → 4290672329 ≤ a + dt → a + dt ≤ 4299262263 →
      DoesWithin (.ppsEdge dt) s [0x02, 0x03, 0x04, 0x05, 0x09, 0x40, 0x51] [.link, .intc, .jr, .clk, .sec, .isl] fun t =>
      t.get TIME_STAT_PPSOK = 1 ∧ t.clk.ppsRun = s.clk.ppsRun + 1 ∧ t.clk.edgeAge = some 0 ∧ (1 ≤ s.clk.ppsRun → t.get TIME_STAT_SRC = 2)) ∧
    (s.get TIME_STAT_SRC = 2 → DoesWithin (.ppsHoldover) s [0x02, 0x04, 0x05, 0x09, 0x51] [.link, .intc, .jr, .clk] fun t => t.get TIME_STAT_SRC = 3 ∧
      t.clk.ppsRef = false ∧ t.clk.ppsRun = 0 ∧ t.clk.rate = s.clk.rate) ∧
    (s.get TIME_STAT_SRC = 3 → DoesWithin (.ppsHoldmax) s [0x02, 0x04, 0x05, 0x09, 0x51] [.link, .intc, .jr, .clk] fun t =>
      t.get TIME_STAT_SRC = s.get TIME_STAT_VALID ∧ (s.get TIME_STAT_VALID = 0 → t.clk.rate = 0)) ∧
    (∀ (err : Int), s.get TIME_STAT_SRC = 1 → DoesWithin (.rtcCompare err) s [0x05] [.clk] fun t => t.free = s.free + 1 ∧ -200000 ≤ t.clk.rate ∧
      t.clk.rate ≤ 200000 ∧ t.clk.sec = s.clk.sec) ∧
    (s.porter.on = true → Does (.rtcRealign) s fun t =>
      t = { s.silent with porter := { s.porter with rtc := s.clk.sec, ticks := (s.clk.frac / 2 ^ 33 : Nat) } }) ∧
    (∀ (elapsed : Nat), DoesWithin (.wallClockLoad elapsed) s [0x05] [.clk, .porter, .sec] fun t => t.clk.sec = (s.porter.rtc + elapsed) % 2 ^ 40 ∧
      t.clk.frac = 0 ∧ t.porter.rtc = t.clk.sec ∧ t.get TIME_STAT_VALID = s.get PORTER_STAT_RTCVALID ∧
      t.get TIME_STAT_SRC = s.get PORTER_STAT_RTCVALID) ∧
    (∀ (agent : Nat) (dt : Nat), DoesWithin (.secLoRead agent dt) s [0x05] [.host, .clk, .sec] fun t =>
      t.out = [.read [word (clockAdvance dt s).clk.sec]] ∧
      t.host.shadows.lookup (agent, TIME_SEC_LO_SEC.addr) = some [word ((clockAdvance dt s).clk.sec / 2 ^ 32), word ((clockAdvance dt s).clk.frac / 65536)] ∧
      t.regs = s.regs) ∧
    (DoesWithin (.setctlArm) s [0x05] [.clk] fun t => t.clk.setPend = true ∧ t.get TIME_STAT_SETPEND = 1) ∧
    (DoesWithin (.setctlCancel) s [0x05] [.clk] fun t => t.clk.setPend = false ∧ t.get TIME_STAT_SETPEND = 0) ∧
    (s.clk.setPend = true → DoesWithin (.secondsSet) s [0x01, 0x02, 0x04, 0x05, 0x09, 0x20, 0x51] [.link, .intc, .jr, .clk, .porter, .sec] fun t =>
      t.clk.sec = s.get TIME_SETSEC_LO_SEC + 2 ^ 32 * s.get TIME_SETSEC_HI_SEC ∧ t.clk.frac = 0 ∧ t.clk.setPend = false ∧
      t.get TIME_STAT_VALID = 1 ∧ t.porter.rtc = t.clk.sec ∧ t.get PORTER_STAT_RTCVALID = 1 ∧ t.get TIME_STAT_SETPEND = 0) ∧
    (s.link.up = true → s.link.hf.marks = [] → DoesWithin (.atlGo) s [0x02, 0x03, 0x05, 0x09, 0x40, 0x51] [.link, .intc, .clk, .sec, .isl] fun t =>
      t.link.hf.marks = [.timeMark 0 s.clk.sec (s.clk.frac / 65536) 2 ((s.link.hf.markTx + 1) % 65536)] ∧
      t.link.hf.markTx = (s.link.hf.markTx + 1) % 65536)

/-- A trigger starts a run, a conversion lands its result word, a range rises, a calibration interval ends; Trips, latches and their clearing,
self-checks, and the blanking windows that hold trips back (R153, R305, R306, R385, R388, R389, R390, R391, R396, R397, R399, R400). Where
it goes beyond the rules it states choices of the model: log entries 66, 67, 77, 78, 79, 85, 100. -/
def Obligations.ConverterRunsAndComparators : Prop :=
    ∀ s : State, s.Inv →
    (∀ (input : Nat) (dly : Nat) (x : SampleEntry), (samplePlan s)[input]? = some x → x.core < s.adc.cores.length → (adcCore s x.core).run = none →
      urgentOn s x.core = false → DoesWithin (.sampleTrigger input dly) s [0x02, 0x09, 0x41, 0x51, 0x68, 0x69, 0x6A, 0x6B, 0x6C, 0x6D, 0x6E, 0x6F]
      [.link, .intc, .weave, .adc] fun t => (adcCore t x.core).run = some ⟨x.first, x.count, x.buf, 0, 0, absPick s, decide (x.thread = 0)⟩ ∧
      t.regs = s.regs) ∧
    (∀ (input : Nat) (dly : Nat) (x : SampleEntry), (samplePlan s)[input]? = some x → x.core < s.adc.cores.length → (adcCore s x.core).run = none →
      urgentOn s x.core = true → 1 ≤ dly → dly ≤ 24 →
      DoesWithin (.sampleTrigger input dly) s [0x02, 0x09, 0x41, 0x51, 0x68, 0x69, 0x6A, 0x6B, 0x6C, 0x6D, 0x6E, 0x6F] [.link, .intc, .weave, .adc]
      fun t => (adcCore t x.core).run = some ⟨x.first, x.count, x.buf, 0, dly, absPick s, decide (x.thread = 0)⟩ ∧
      t.get (ADC_DLYCNT_MAXDLY x.core) = max dly (s.get (ADC_DLYCNT_MAXDLY x.core))) ∧
    (∀ (core : Nat) (lc : Nat) (code : Int) (r : AdcRun), core < s.adc.cores.length → (adcCore s core).urgRun = false → (adcCore s core).run = some r →
      r.done + 1 < r.count → r.buf < 240 → r.done < 16 → 3 < s.clu.length →
      DoesWithin (.adcConversionDone core lc code) s [0x02, 0x09, 0x51, 0x58, 0x59, 0x5A, 0x5B, 0x5C, 0x5D, 0x5E, 0x5F, 0x68, 0x69, 0x6A, 0x6B, 0x6C, 0x6D, 0x6E, 0x6F, 0x70, 0x71]
      [.link, .intc, .clu, .adc, .fcmp] fun t => (adcCore t core).run = some { r with done := r.done + 1 } ∧
      (∃ g rsw out, memAt (cluAt t 3).adcBuf (16 * r.buf + r.done) = resultWord (valueOf code g) g (decide (code = 32767) || decide (code = -32768)) rsw r.delay out)) ∧
    (∀ (input : Nat), autoRange s input = true → 4097 ≤ (adcIn s input).small → s.get (METER_INCFG_RANGE input) < 4 →
      DoesWithin (.rangeUp input) s [0x71] [.adc] fun t => t.get (METER_INCFG_RANGE input) = s.get (METER_INCFG_RANGE input) + 1 ∧
      (input < s.adc.ins.length → (adcIn t input).small = 0) ∧ (input < s.adc.ins.length → (adcIn t input).rsw = true) ∧ (input < s.adc.ins.length →
      (adcIn t input).keep = some (s.get (METER_INCFG_RANGE input), 0))) ∧
    (DoesWithin (.calibrationInterval) s [0x02, 0x09, 0x51, 0x68, 0x69, 0x6A, 0x6B, 0x6C, 0x6D, 0x6E, 0x6F] [.link, .intc, .adc] fun t => (∀ c, c < 8 →
      c < s.adc.cores.length → (adcCore t c).cal = [(0, 0), (0, 0), (0, 0)])) ∧
    (7 < s.adc.cores.length → (adcCore s 7).cal.all (fun p => decide (64 ≤ p.2)) = true → (newTrims s 7).1 ≤ 2 ^ 15 / 200 →
      -(2 ^ 15 / 200) ≤ (newTrims s 7).1 → DoesWithin (.calibrationInterval) s [0x02, 0x09, 0x51, 0x68, 0x69, 0x6A, 0x6B, 0x6C, 0x6D, 0x6E, 0x6F]
      [.link, .intc, .adc] fun t => t.get (ADC_CAL_OFFS 7) = lsbS 16 (newTrims s 7).1) ∧
    (∀ (cmp : Nat) (input : List Int), cmp < 16 → (cmpRun s cmp input).rises = 1 → isBlanked s cmp = false → s.get (FCMP_CFG_ACT (cmpOwner s cmp)) = 1 →
      DoesWithin (.fcmpTrip cmp input) s [0x02, 0x09, 0x51, 0x58, 0x59, 0x5A, 0x5B, 0x5C, 0x5D, 0x5E, 0x5F, 0x68, 0x69, 0x6A, 0x6B, 0x6C, 0x6D, 0x6E, 0x6F, 0x70]
      [.link, .intc, .adc, .fcmp] fun t => t.get (foutBit cmp) = bit (cmpRun s cmp input).out ∧ t.get (latchBit (cmpOwner s cmp)) = 1) ∧
    (∀ (cmp : Nat) (input : List Int), cmp < 16 → isBlanked s cmp = true →
      DoesWithin (.fcmpTrip cmp input) s [0x02, 0x09, 0x51, 0x58, 0x59, 0x5A, 0x5B, 0x5C, 0x5D, 0x5E, 0x5F, 0x68, 0x69, 0x6A, 0x6B, 0x6C, 0x6D, 0x6E, 0x6F, 0x70]
      [.link, .intc, .adc, .fcmp] fun t => t.get (foutBit cmp) = bit (cmpRun s cmp input).out ∧ t.get FCMP_STAT_LATCH = s.get FCMP_STAT_LATCH ∧
      t.out = []) ∧
    (∀ (cmp : Nat) (input : List Int), cmp < 16 → (cmpRun s cmp input).rises = 0 → Does (.fcmpTrip cmp input) s fun t =>
      t = putFilter cmp (cmpRun s cmp input) s.silent) ∧
    (∀ (cmp : Nat) (input : List Int), (cmpRun s cmp input).rises = 0 → (cmpRun s cmp input).out = false → cmp < 16 → cmp < s.fcmp.cmps.length →
      s.flag (FCMP_CFG_REL (cmpOwner s cmp)) = false → cmpOwner s cmp = cmp → s.get (FCMP_CFG_MODE cmp) ≠ 1 →
      DoesWithin (.latchRearm cmp input) s [0x02, 0x09, 0x51, 0x58, 0x59, 0x5A, 0x5B, 0x5C, 0x5D, 0x5E, 0x5F, 0x68, 0x69, 0x6A, 0x6B, 0x6C, 0x6D, 0x6E, 0x6F, 0x70]
      [.link, .intc, .adc, .fcmp] fun t => t.get (foutBit cmp) = 0 ∧ t.get (latchBit cmp) = 0) ∧
    (∀ (n : Nat), n < 16 → s.flag (latchBit n) = true → s.flag (FCMP_CFG_REL n) = true → stayedLow s n = true →
      DoesWithin (.tripclr (word (2 ^ n))) s [0x02, 0x04, 0x09, 0x51, 0x70] [.link, .intc, .jr, .fcmp] fun t => t.get (latchBit n) = 0 ∧ t.out = []) ∧
    (∀ (cmp : Nat) (raws : Nat) (input : List Int), cmp < 16 → s.fcmp.checks.contains cmp = false → s.get (FCMP_CFG_SC (cmpOwner s cmp)) = 1 →
      s.flag (ADC_STAT_URG (s.get (FCMP_CFG_SCCORE (cmpOwner s cmp)))) = true → s.get (FCMP_CFG_SCCORE (cmpOwner s cmp)) < s.adc.cores.length →
      (adcCore s (s.get (FCMP_CFG_SCCORE (cmpOwner s cmp)))).urg = none → runOn s (s.get (FCMP_CFG_SCCORE (cmpOwner s cmp))) = none →
      DoesWithin (.selfCheck cmp raws input) s [0x02, 0x09, 0x51, 0x58, 0x59, 0x5A, 0x5B, 0x5C, 0x5D, 0x5E, 0x5F, 0x68, 0x69, 0x6A, 0x6B, 0x6C, 0x6D, 0x6E, 0x6F, 0x70]
      [.link, .intc, .adc, .fcmp] fun t => (adcCore t (s.get (FCMP_CFG_SCCORE (cmpOwner s cmp)))).urg = some (16 + cmp) ∧
      (adcCore t (s.get (FCMP_CFG_SCCORE (cmpOwner s cmp)))).urgRun = true ∧ t.fcmp = s.fcmp ∧ t.regs = s.regs) ∧
    (∀ (cmp : Nat) (raws : Nat) (input : List Int), cmp < 16 → s.fcmp.checks.contains cmp = true → 2 ≤ s.get (FCMP_CFG_SC (cmpOwner s cmp)) →
      readbackWaits s cmp = true →
      DoesWithin (.selfCheck cmp raws input) s [0x02, 0x09, 0x51, 0x58, 0x59, 0x5A, 0x5B, 0x5C, 0x5D, 0x5E, 0x5F, 0x68, 0x69, 0x6A, 0x6B, 0x6C, 0x6D, 0x6E, 0x6F, 0x70]
      [.link, .intc, .adc, .fcmp] fun t => t.fcmp.checks = s.fcmp.checks.filter (· != cmp) ∧
      t.fcmp.tests = s.fcmp.tests.filter (·.1 != cmp) ++ [(cmp, raws, input)] ∧ t.regs = s.regs ∧ t.adc = s.adc) ∧
    (checksRun s = false → ((s.raw FCMP_SCCTL_SCPER.addr ||| 0x1000#32).getLsbD 12) = true → (s.raw 0x70020).getLsbD 0 = false →
      s.raw FCMP_SCCTL_SCPER.addr = resetWord FCMP_SCCTL_SCPER.addr → Does (.scGo) s fun t =>
      t.fcmp.checks = (List.range 16).filter fun n => decide (2 ≤ s.get (FCMP_CFG_SC (cmpOwner s n)))) ∧
    (∀ (tm : Nat) (x : Nat), tm < 8 → tm < s.blank.win.length → s.blank.pend.getD tm none = some x → x / 65536 = absPick s → 0 < s.get WARP_INC_INC →
      DoesWithin (.blankWindowOpen tm) s [0x61] [.blank] fun t => t.get (blankPend tm) = 0 ∧ t.get (blankOpen tm) = 1 ∧
      t.get BLANK_OPENCNT_COUNT = min (s.get BLANK_OPENCNT_COUNT + 1) (2 ^ BLANK_OPENCNT_COUNT.wd - 1) ∧ t.blank.pend = s.blank.pend.set tm none ∧
      (∃ lc : Nat, t.blank.win = s.blank.win.set tm (some (lc + 12 * s.get (BLANK_TMR_LEN tm), s.get (BLANK_MASK_CMP tm))) ∧
      x * 2 ^ 28 ≤ s.warp.acc.toNat + lc * s.get WARP_INC_INC ∧ (0 < lc → s.warp.acc.toNat + (lc - 1) * s.get WARP_INC_INC < x * 2 ^ 28))) ∧
    (∀ (tm : Nat) (x : Nat), s.blank.pend.getD tm none = some x → x / 65536 ≠ absPick s → Does (.blankWindowOpen tm) s fun t => t = s.silent) ∧
    (∀ (tm : Nat) (w : Nat × Nat), tm < 8 → s.blank.win.getD tm none = some w → w.1 < pickLen s →
      ((List.range 16).all fun n => !(w.2.testBit n && s.flag (foutBit n))) = true →
      DoesWithin (.blankWindowClose tm) s [0x02, 0x09, 0x51, 0x58, 0x59, 0x5A, 0x5B, 0x5C, 0x5D, 0x5E, 0x5F, 0x61, 0x68, 0x69, 0x6A, 0x6B, 0x6C, 0x6D, 0x6E, 0x6F, 0x70]
      [.link, .intc, .blank, .adc, .fcmp] fun t => t.get (blankOpen tm) = 0 ∧ t.blank.win = s.blank.win.set tm none ∧
      t.get FCMP_STAT_LATCH = s.get FCMP_STAT_LATCH ∧ t.out = []) ∧
    (∀ (tm : Nat) (w : Nat × Nat), s.blank.win.getD tm none = some w → pickLen s ≤ w.1 → Does (.blankWindowClose tm) s fun t => t = s.silent) ∧
    (∀ (tm : Nat) (w : Nat × Nat) (n : Nat), tm < 8 → s.blank.win.getD tm none = some w → w.1 < pickLen s → n < 16 → w.2.testBit n = true →
      s.flag (foutBit n) = true → isBlanked { s with blank.win := s.blank.win.set tm none } n = false → cmpOwner s n = n →
      s.get (FCMP_CFG_ACT n) = 1 →
      DoesWithin (.blankWindowClose tm) s [0x02, 0x09, 0x51, 0x58, 0x59, 0x5A, 0x5B, 0x5C, 0x5D, 0x5E, 0x5F, 0x61, 0x68, 0x69, 0x6A, 0x6B, 0x6C, 0x6D, 0x6E, 0x6F, 0x70]
      [.link, .intc, .blank, .adc, .fcmp] fun t => t.get (latchBit n) = 1 ∧ t.get (blankOpen tm) = 0 ∧ t.blank.win = s.blank.win.set tm none)

/-- A heddle that ends hands over to the next one or to SLACK; a missed deadline is counted and named; After a converter fault all clusters
run the fallback; its ramp ends with GRID_OPEN, then with the block control; The vote commits a record that the three engines agree on; a
stopped engine is isolated (R142, R149, R151, R159, R160, R161, R163, R165, R166, R167, R224, R226, R234). Where it goes beyond the rules
it states choices of the model: log entries 15, 47, 65, 68, 121, 143, 146, 147. -/
def Obligations.HeddlesFallbackAndRecords : Prop :=
    ∀ s : State, s.Inv →
    (∀ (c : Nat) (i : Nat) (h : Heddle), s.flag WEAVE_STAT_RUN = true → c < 4 → c < s.clu.length → (cluAt s c).heddle = some i →
      (planNow s c)[i]? = some h → 2 ≤ h.kind → i + 1 < (planNow s c).length →
      DoesWithin (.heddleEnd c) s [0x02, 0x09, 0x41, 0x44, 0x45, 0x46, 0x47, 0x48, 0x49, 0x4A, 0x4B, 0x4C, 0x4D, 0x4E, 0x4F, 0x50, 0x51, 0x58, 0x59, 0x5A, 0x5B, 0x5C, 0x5D, 0x5E, 0x5F, 0x7C]
      [.pwr, .link, .intc, .weave, .loom, .clu, .heat] fun t => (cluAt t c).heddle = some (i + 1)) ∧
    (∀ (c : Nat) (i : Nat) (h : Heddle), s.flag WEAVE_STAT_RUN = true → c < 4 → c < s.clu.length → (cluAt s c).heddle = some i →
      (planNow s c)[i]? = some h → h.kind < 2 → i + 1 = (planNow s c).length →
      (issuers s c).all (fun k => (engAt s k).flight.isEmpty && (engAt s k).ended) = true →
      DoesWithin (.heddleEnd c) s [0x02, 0x09, 0x41, 0x44, 0x45, 0x46, 0x47, 0x48, 0x49, 0x4A, 0x4B, 0x4C, 0x4D, 0x4E, 0x4F, 0x50, 0x51, 0x58, 0x59, 0x5A, 0x5B, 0x5C, 0x5D, 0x5E, 0x5F, 0x7C]
      [.pwr, .link, .intc, .weave, .loom, .clu, .heat] fun t => (cluAt t c).heddle = none) ∧
    (∀ (c : Nat) (job : Nat) (j : Job), s.flag WEAVE_STAT_RUN = true → s.flag WEAVE_STAT_FB = false → jobOf s c job = some j → overdue s c j = true →
      (cluAt s c).missed.contains job = false → c < 4 → job < 16 → DoesWithin (.bgDeadline c job) s [0x02, 0x09, 0x41, 0x51] [.link, .intc, .clu]
      fun t => t.get WEAVE_BGSTAT_JOB = job ∧ t.get WEAVE_BGSTAT_CLUSTER = c ∧
      t.get WEAVE_BGSTAT_MISSES = min (s.get WEAVE_BGSTAT_MISSES + 1) (2 ^ WEAVE_BGSTAT_MISSES.wd - 1)) ∧
    (∀ (c : Nat) (job : Nat) (j : Job), jobOf s c job = some j → overdue s c j = false → Does (.bgDeadline c job) s fun t => t = s.silent) ∧
    (∀ (cause : Nat), s.weave.fbPend = some cause → s.weave.deferred = true → cause < 16 →
      DoesWithin (.fallbackStart) s [0x02, 0x09, 0x41, 0x44, 0x45, 0x46, 0x47, 0x48, 0x49, 0x4A, 0x4B, 0x4C, 0x4D, 0x4E, 0x4F, 0x50, 0x51, 0x58, 0x59, 0x5A, 0x5B, 0x5C, 0x5D, 0x5E, 0x5F]
      [.pwr, .link, .intc, .weave, .loom, .clu, .cells] fun t => t.get WEAVE_STAT_FB = 1 ∧ t.get WEAVE_STAT_RUN = 1 ∧
      t.get WEAVE_STAT_FBCAUSE = cause ∧ t.weave.fbPend = none ∧ t.weave.fbZero = false ∧ (∀ k, k < 12 → t.get (LOOM_STAT_FBROM k) = 1)) ∧
    (s.flag WEAVE_STAT_FB = true → s.weave.fbZero = false → s.weave.fbFactor = 0 → s.permit.yielded = false → DoesWithin (.fallbackRampDone) s []
      [.pwr, .weave] fun t => t.weave = { s.weave with fbZero := true, fbZeroAt := absPick s } ∧ t.pwr.gridOpen = some true ∧ t.regs = s.regs) ∧
    (s.weave.fbZero = false → s.weave.fbFactor ≠ 0 → Does (.fallbackRampDone) s fun t => t = s.silent) ∧
    (s.flag WEAVE_STAT_FB = true → s.weave.fbZero = true → s.weave.fbZeroAt + 8192 ≤ absPick s → Does (.fallbackBlock) s fun t =>
      t = { s.silent with weave.fbBlocked := true }) ∧
    (s.weave.fbZero = true → absPick s < s.weave.fbZeroAt + 8192 → Does (.fallbackBlock) s fun t => t = s.silent) ∧
    (∀ (c : Nat) (b : Nat) (r : Rec), c < 4 → s.weave.viols = [] → s.weave.noCommit.getD c false = false → s.get (REED_CLST_MODE c) ≠ 3 →
      liveVoters s c = [0, 1, 2] → recAt s (3 * c) b = some r → recAt s (3 * c + 1) b = some r → recAt s (3 * c + 2) b = some r → r.kind = 3 →
      s.flag (REED_CLST_PROB c) = false → r.b ≠ 0 →
      DoesWithin (.recordCommit c b false) s [0x02, 0x09, 0x41, 0x44, 0x45, 0x46, 0x47, 0x48, 0x49, 0x4A, 0x4B, 0x4C, 0x4D, 0x4E, 0x4F, 0x50, 0x51, 0x58, 0x59, 0x5A, 0x5B, 0x5C, 0x5D, 0x5E, 0x5F, 0x60, 0x61]
      [.pwr, .link, .intc, .weave, .loom, .clu, .cells, .twin, .edge, .blank] fun t => memAt t.weave.shared (r.a.toNat % 16384) = r.b ∧
      t.regs = s.regs) ∧
    (∀ (c : Nat) (b : Nat), c < 4 → s.get (REED_CLST_HALF c) = 3 → s.get (REED_CLST_MODE c) ≠ 3 →
      DoesWithin (.recordCommit c b true) s [0x02, 0x09, 0x41, 0x44, 0x45, 0x46, 0x47, 0x48, 0x49, 0x4A, 0x4B, 0x4C, 0x4D, 0x4E, 0x4F, 0x50, 0x51, 0x58, 0x59, 0x5A, 0x5B, 0x5C, 0x5D, 0x5E, 0x5F, 0x60, 0x61]
      [.pwr, .link, .intc, .weave, .loom, .clu, .cells, .twin, .edge, .blank] fun t => t.get (REED_CLST_MODE c) = 3 ∧ t.pwr.forceBlock = true ∧
      t.weave.shared = s.weave.shared) ∧
    (∀ (e : Nat), s.get (LOOM_STAT_STATE e) = 2 → Does (.engineIsolate e) s fun t =>
      t = (s.silent.put (LOOM_STAT_STATE e) 3).put (REED_ENGST_STATE e) 3)

/-- A loaded bank is verified or refused with its cause, and erased; A switch is armed, cancelled, confirmed, carried out hot or cold, and its
load completes (R162, R173, R175, R176, R178, R179, R180, R181). Where it goes beyond the rules it states choices of the model: log
entries 21, 64, 121, 143, 144, 159, 160, 161, 162, 163, 164. -/
def Obligations.WeaveBanksAndSwitches : Prop :=
    ∀ s : State, s.Inv →
    (∀ (b : Nat), b < 2 → s.get (WEAVE_BANK_STATE b) = 1 → DoesWithin (.weaveVerify b) s [0x02, 0x04, 0x09, 0x41, 0x51] [.link, .intc, .jr, .weave]
      fun t => t.get (WEAVE_BANK_STATE b) = 2 ∧ t.get WEAVE_CTL_BANK = b ∧ t.weave = s.weave) ∧
    (∀ (b : Nat) (o : OpenSections) (n : Image) (cause : Nat), b < 2 → s.get (WEAVE_BANK_STATE b) = 2 → b < s.weave.banks.length →
      readImage (s.weave.banks.getD b Bank.empty).content (regionNow s) o = n → verifyCause s b n = cause → cause < 256 →
      DoesWithin (.imageVerified b o) s [0x00, 0x02, 0x09, 0x40, 0x41, 0x51, 0x58, 0x59, 0x5A, 0x5B, 0x5C, 0x5D, 0x5E, 0x5F]
      [.link, .intc, .weave, .ring, .twin] fun t => t.get (WEAVE_BANK_STATE b) = (if cause = 0 then 3 else 4) ∧ t.get (WEAVE_BANK_CAUSE b) = cause ∧
      (t.weave.banks.getD b Bank.empty).img = (if cause = 0 then some n else (s.weave.banks.getD b Bank.empty).img) ∧ ((cause = 0 →
      t.get (WEAVE_ID_LO_IMGID b) = n.imgid % 2 ^ 32)) ∧ ((cause ≠ 0 → t.weave = { s.weave with region := regionNow s }))) ∧
    (∀ (b : Nat), b < 2 → s.get (WEAVE_BANK_STATE b) ≠ 5 → bankArmed s b = false → b < s.weave.banks.length →
      DoesWithin (.weaveErase b) s [0x02, 0x04, 0x09, 0x41, 0x51] [.link, .intc, .jr, .weave] fun t => t.get (WEAVE_BANK_STATE b) = 0 ∧
      t.weave.banks.getD b Bank.empty = Bank.empty ∧ t.get (WEAVE_RXB_END b) = 0 ∧ t.get (WEAVE_BANK_CAUSE b) = 0) ∧
    (∀ (lc : Nat) (b : Nat) (cold : Bool), b < 2 → s.weave.armed = none → s.weave.due = none →
      switchKind ((s.put WEAVE_SWCTL_BANK b).put WEAVE_SWCTL_COLDOK 0) b 0 false = .inr cold →
      DoesWithin (.switchGo (word (1 + 2 * b)) lc) s [0x02, 0x04, 0x09, 0x41, 0x51] [.link, .intc, .jr, .weave, .loom, .twin] fun t =>
      t.weave.armed = some ⟨b, cycleOf s + (if pickOf s = 0 && lc = 0 then 2 else 3), absPick s⟩ ∧ t.get WEAVE_SWSTAT_STATE = 1 ∧
      t.get WEAVE_STAT_SWPEND = 1 ∧ t.get WEAVE_SWSTAT_CAUSE = 0) ∧
    (∀ (x : Switch), s.weave.armed = some x → DoesWithin (.switchCancel) s [0x02, 0x04, 0x09, 0x41, 0x51] [.link, .intc, .jr, .weave, .loom, .twin]
      fun t => t.weave.armed = none ∧ t.weave.due = none ∧ t.get WEAVE_SWSTAT_STATE = 5 ∧ t.get WEAVE_STAT_SWPEND = 0) ∧
    (∀ (x : Switch) (cold : Bool), s.weave.armed = some x → pickOf s = 4095 → cycleOf s + 1 = x.cycle → anyRepair s = false →
      switchKind s x.bank x.cycle true = .inr cold → Does (.switchCheck) s fun t =>
      t = { s.silent with weave := { s.weave with armed := none, due := some (x.bank, cold) } }) ∧
    (∀ (x : Switch), s.weave.armed = some x → pickOf s = 4095 → cycleOf s + 1 = x.cycle → anyRepair s = true → s.get WEAVE_SWSTAT_POSTP < 64 →
      DoesWithin (.switchCheck) s [0x02, 0x09, 0x41, 0x51] [.link, .intc, .weave, .loom] fun t =>
      t.weave.armed = some { x with cycle := x.cycle + 1 } ∧ t.get WEAVE_SWSTAT_STATE = 2 ∧ t.get WEAVE_SWSTAT_POSTP = s.get WEAVE_SWSTAT_POSTP + 1) ∧
    (∀ (b : Nat) (n : Image), b < 2 → s.weave.due = some (b, false) → s.weave.deferred = true → s.weave.fbPend = none →
      (s.weave.banks.getD b Bank.empty).img = some n → pickOf s = 0 →
      DoesWithin (.weaveSwitch) s [0x02, 0x09, 0x41, 0x44, 0x45, 0x46, 0x47, 0x48, 0x49, 0x4A, 0x4B, 0x4C, 0x4D, 0x4E, 0x4F, 0x50, 0x51, 0x58, 0x59, 0x5A, 0x5B, 0x5C, 0x5D, 0x5E, 0x5F, 0x60, 0x68, 0x69, 0x6A, 0x6B, 0x6C, 0x6D, 0x6E, 0x6F]
      [.pwr, .link, .intc, .weave, .loom, .clu, .cells, .edge] fun t => t.weave.img = some n ∧ t.weave.due = none ∧
      t.weave.half = 1 - s.weave.half ∧ t.get WEAVE_STAT_ACT = b ∧ t.get (WEAVE_BANK_STATE b) = 5 ∧ t.get WEAVE_SWSTAT_STATE = 3 ∧
      t.get WEAVE_SWSTAT_COLDSW = 0 ∧ t.get WEAVE_STAT_SWPEND = 0) ∧
    (∀ (b : Nat) (n : Image), b < 2 → s.weave.due = some (b, true) → s.weave.deferred = true → s.weave.fbPend = none →
      (s.weave.banks.getD b Bank.empty).img = some n → pickOf s = 0 →
      DoesWithin (.weaveSwitch) s [0x02, 0x09, 0x41, 0x44, 0x45, 0x46, 0x47, 0x48, 0x49, 0x4A, 0x4B, 0x4C, 0x4D, 0x4E, 0x4F, 0x50, 0x51, 0x58, 0x59, 0x5A, 0x5B, 0x5C, 0x5D, 0x5E, 0x5F, 0x60, 0x68, 0x69, 0x6A, 0x6B, 0x6C, 0x6D, 0x6E, 0x6F]
      [.pwr, .link, .intc, .weave, .loom, .clu, .cells, .edge] fun t => t.weave.img = some n ∧ t.weave.due = none ∧ t.weave.loading = some b ∧
      t.get WEAVE_STAT_COLD = 1 ∧ t.get WEAVE_STAT_RUN = 0 ∧ t.get WEAVE_STAT_FB = 0 ∧ t.get EDGE_STAT_RUN = 0 ∧ t.get (WEAVE_BANK_STATE b) = 5) ∧
    (∀ (b : Nat) (n : Image), s.weave.loading = some b → s.weave.img = some n → n.regInit = [] → Does (.coldLoadDone) s fun t =>
      t.weave.starting = true ∧ t.weave.loading = some b ∧ (∀ c, c < 4 → t.get (REED_CLST_MODE c) = 1) ∧ (∀ k, k < 12 →
      t.get (LOOM_STAT_STATE k) = (if s.get (LOOM_STAT_STATE k) = 0 then 0 else 1)) ∧ t.pwr.forceBlock = false)

/-- An attempt starts on the lowest engine that is out, its copy is verified or fails, and the target rejoins the vote; A half that trips
leaves service and is tested; a passed half rejoins at a cycle boundary (R227, R228, R229, R230, R231, R233, R234). Where it goes beyond
the rules it states choices of the model: log entries 11, 148. -/
def Obligations.RepairsAndHalves : Prop :=
    ∀ s : State, s.Inv →
    (∀ (c : Nat) (e : Nat) (src : Nat), c < 4 → repairTarget s c = some e → (voters s c).head? = some src → (voters s c).length = 2 →
      s.get (REED_CLST_MODE c) = 2 → s.flag (REED_CLST_REP c) = false → s.flag WEAVE_STAT_FB = false → s.weave.loading = none →
      wardenRuns s = true → inClass s c 2 = true →
      DoesWithin (.repairStart c) s [0x44, 0x45, 0x46, 0x47, 0x48, 0x49, 0x4A, 0x4B, 0x4C, 0x4D, 0x4E, 0x4F, 0x50, 0x51] [.link, .clu, .warden]
      fun t => t.get (REED_CLST_REP c) = 1 ∧ t.get (REED_CLST_REPENG c) = e ∧ t.get (REED_CLST_SRCENG c) = src ∧
      t.get (LOOM_STAT_STATE (3 * c + e)) = 4 ∧ t.get (REED_ENGST_PROG (3 * c + e)) = 0 ∧ t.get (REED_ENGST_SRC (3 * c + src)) = 1) ∧
    (∀ (c : Nat) (bad : List (Nat × Word)), c < 4 → s.flag (REED_CLST_REP c) = true → s.flag (REED_CLST_PROB c) = false →
      (bad.filter (fun x => blockRead (verifiedUnits (cluAt s c)) (blockOf x.1))).any (fun x => blockDiffers s c (engAt s (3 * c + s.get (REED_CLST_SRCENG c))) bad (blockOf x.1)) = false →
      copyUnits + 8 ≤ (cluAt s c).repTime → 3 * c + s.get (REED_CLST_REPENG c) < s.loom.length → c < s.clu.length →
      DoesWithin (.repairVerified c bad) s [0x02, 0x09, 0x44, 0x45, 0x46, 0x47, 0x48, 0x49, 0x4A, 0x4B, 0x4C, 0x4D, 0x4E, 0x4F, 0x50, 0x51]
      [.link, .intc, .loom, .clu] fun t => t.get (REED_CLST_PROB c) = 1 ∧ t.get (REED_ENGST_PROB (3 * c + s.get (REED_CLST_REPENG c))) = 1 ∧
      (cluAt t c).probAt = some (absPick s) ∧
      (engAt t (3 * c + s.get (REED_CLST_REPENG c))).dm = (engAt s (3 * c + s.get (REED_CLST_SRCENG c))).dm ∧
      (engAt t (3 * c + s.get (REED_CLST_REPENG c))).im = (engAt s (3 * c + s.get (REED_CLST_SRCENG c))).im ∧
      (engAt t (3 * c + s.get (REED_CLST_REPENG c))).g = (engAt s (3 * c + s.get (REED_CLST_SRCENG c))).g) ∧
    (∀ (c : Nat) (bad : List (Nat × Word)), c < 4 → s.flag (REED_CLST_REP c) = true → s.flag (REED_CLST_PROB c) = false →
      (bad.filter (fun x => blockRead (verifiedUnits (cluAt s c)) (blockOf x.1))).any (fun x => blockDiffers s c (engAt s (3 * c + s.get (REED_CLST_SRCENG c))) bad (blockOf x.1)) = true →
      s.get (REED_CLST_REPENG c) < 3 → s.get (REED_ENGST_FAILS (3 * c + s.get (REED_CLST_REPENG c))) + 1 < s.get REED_CTL_TRIES →
      DoesWithin (.repairVerified c bad) s [0x02, 0x09, 0x44, 0x45, 0x46, 0x47, 0x48, 0x49, 0x4A, 0x4B, 0x4C, 0x4D, 0x4E, 0x4F, 0x50, 0x51]
      [.link, .intc, .loom, .clu] fun t => t.get (REED_CLST_REP c) = 0 ∧ t.get (LOOM_STAT_STATE (3 * c + s.get (REED_CLST_REPENG c))) = 3 ∧
      t.get (REED_ENGST_RETIRED (3 * c + s.get (REED_CLST_REPENG c))) = s.get (REED_ENGST_RETIRED (3 * c + s.get (REED_CLST_REPENG c)))) ∧
    (∀ (c : Nat) (bad : List (Nat × Word)), c < 4 → s.flag (REED_CLST_REP c) = true → s.flag (REED_CLST_PROB c) = false →
      (bad.filter (fun x => blockRead (verifiedUnits (cluAt s c)) (blockOf x.1))).any (fun x => blockDiffers s c (engAt s (3 * c + s.get (REED_CLST_SRCENG c))) bad (blockOf x.1)) = false →
      (cluAt s c).repTime < copyUnits + 8 → Does (.repairVerified c bad) s fun t => t = s.silent) ∧
    (∀ (c : Nat) (p : Nat), c < 4 → (cluAt s c).probAt = some p → s.flag (REED_CLST_PROB c) = true → pickOf s = 0 → p + 1024 ≤ absPick s →
      s.get (REED_CLST_REPENG c) < 3 → s.get (REED_CLST_MODE c) = 2 → (voters s c).length = 2 →
      s.get (REED_ENGST_VOTE (3 * c + s.get (REED_CLST_REPENG c))) = 0 →
      DoesWithin (.repairRejoin c) s [0x02, 0x09, 0x41, 0x44, 0x45, 0x46, 0x47, 0x48, 0x49, 0x4A, 0x4B, 0x4C, 0x4D, 0x4E, 0x4F, 0x50, 0x51, 0x58, 0x59, 0x5A, 0x5B, 0x5C, 0x5D, 0x5E, 0x5F]
      [.pwr, .link, .intc, .weave, .clu] fun t => t.get (REED_ENGST_VOTE (3 * c + s.get (REED_CLST_REPENG c))) = 1 ∧
      t.get (LOOM_STAT_STATE (3 * c + s.get (REED_CLST_REPENG c))) = 1 ∧ t.get (REED_CLST_MODE c) = 1 ∧ t.get (REED_CLST_REP c) = 0 ∧
      t.get (REED_ENGST_FAILS (3 * c + s.get (REED_CLST_REPENG c))) = 0) ∧
    (∀ (c : Nat) (h : Nat), c < 4 → h < 2 → s.get (REED_CLST_HALF c) = 3 → c < s.clu.length →
      DoesWithin (.reedHalfTrip c h) s [0x02, 0x09, 0x41, 0x50, 0x51, 0x58, 0x59, 0x5A, 0x5B, 0x5C, 0x5D, 0x5E, 0x5F]
      [.pwr, .link, .intc, .weave, .clu] fun t => t.get (REED_CLST_HALF c) = 2 - h ∧
      t.get (halfCnt c) = min (s.get (halfCnt c) + 1) (2 ^ (halfCnt c).wd - 1) ∧ (cluAt t c).halfTest = (cluAt s c).halfTest.set h 1 ∧
      t.get (REED_CLST_MODE c) = s.get (REED_CLST_MODE c)) ∧
    (∀ (c : Nat) (h : Nat) (pass : Bool), (cluAt s c).halfTest.getD h 0 = 1 → c < s.clu.length → DoesWithin (.halfSelftestDone c h pass) s [0x51]
      [.link, .clu] fun t => (cluAt t c).halfTest = (cluAt s c).halfTest.set h (if pass then 2 else 3) ∧ (pass = true → t.regs = s.regs)) ∧
    (∀ (c : Nat) (h : Nat) (p : Nat), c < 4 → h < 2 → (cluAt s c).halfTest.getD h 0 = 2 → (cluAt s c).halfAt.getD h none = some p →
      p + 256 ≤ absPick s → pickOf s = 0 → c < s.clu.length → DoesWithin (.halfRejoin c h) s [0x02, 0x09, 0x50, 0x51] [.link, .intc, .clu] fun t =>
      t.get (halfBit c h) = 1 ∧ (cluAt t c).halfTest = (cluAt s c).halfTest.set h 0)

/-- A command for an engine or a reed half waits for the next pick boundary and acts there (R232, R233). Where it goes beyond the rules it
states choices of the model: log entry 1. -/
def Obligations.EngineCommands : Prop :=
    ∀ s : State, s.Inv →
    (∀ (e : Nat), e < 12 → DoesWithin (.hold e) s [0x02, 0x04, 0x09, 0x50, 0x51] [.link, .intc, .jr, .warden] fun t =>
      t.warden.engctl = some (engctlWord e 1 false) ∧ t.get REED_ENGCTL_ENG = e ∧ t.get REED_ENGCTL_HALF = 0 ∧ t.out = []) ∧
    (∀ (e : Nat), e < 12 → DoesWithin (.release e) s [0x02, 0x04, 0x09, 0x50, 0x51] [.link, .intc, .jr, .warden] fun t =>
      t.warden.engctl = some (engctlWord e 2 false) ∧ t.get REED_ENGCTL_ENG = e ∧ t.out = []) ∧
    (∀ (e : Nat), e < 12 → DoesWithin (.repair e) s [0x02, 0x04, 0x09, 0x50, 0x51] [.link, .intc, .jr, .warden] fun t =>
      t.warden.engctl = some (engctlWord e 3 false) ∧ t.get REED_ENGCTL_ENG = e ∧ t.out = []) ∧
    (∀ (c : Nat) (half : Bool), c < 4 → DoesWithin (.halfretry c half) s [0x02, 0x04, 0x09, 0x50, 0x51] [.link, .intc, .jr, .warden] fun t =>
      t.warden.engctl = some (engctlWord (4 * c) 4 half) ∧ t.get REED_ENGCTL_HALF = bit half ∧ t.out = []) ∧
    (∀ (e : Nat), e < 12 → s.warden.engctl = some (engctlWord e 2 false) → s.flag (REED_ENGST_HELD e) = true →
      DoesWithin (.engctlApply) s [0x02, 0x04, 0x09, 0x41, 0x44, 0x45, 0x46, 0x47, 0x48, 0x49, 0x4A, 0x4B, 0x4C, 0x4D, 0x4E, 0x4F, 0x50, 0x51, 0x58, 0x59, 0x5A, 0x5B, 0x5C, 0x5D, 0x5E, 0x5F]
      [.pwr, .link, .intc, .jr, .weave, .loom, .clu, .warden] fun t => t.get (REED_ENGST_HELD e) = 0 ∧ t.warden.engctl = none) ∧
    (∀ (e : Nat), e < 12 → s.warden.engctl = some (engctlWord e 3 false) → s.get (LOOM_STAT_STATE e) = 3 → e < s.warden.repReq.length →
      DoesWithin (.engctlApply) s [0x02, 0x04, 0x09, 0x41, 0x44, 0x45, 0x46, 0x47, 0x48, 0x49, 0x4A, 0x4B, 0x4C, 0x4D, 0x4E, 0x4F, 0x50, 0x51, 0x58, 0x59, 0x5A, 0x5B, 0x5C, 0x5D, 0x5E, 0x5F]
      [.pwr, .link, .intc, .jr, .weave, .loom, .clu, .warden] fun t => t.get (REED_ENGST_RETIRED e) = 0 ∧ t.get (REED_ENGST_HELD e) = 0 ∧
      t.get (REED_ENGST_FAILS e) = 0 ∧ t.warden.repReq.getD e false = true ∧ t.warden.engctl = none) ∧
    (∀ (e : Nat), e < 12 → s.warden.engctl = some (engctlWord e 1 false) → s.get (REED_CLST_MODE (e / 3)) = 1 → (voters s (e / 3)).length = 3 →
      s.flag (REED_CLST_REP (e / 3)) = false → s.flag WEAVE_STAT_FB = false → s.flag (REED_ENGST_VOTE e) = true → s.get (LOOM_STAT_STATE e) = 1 →
      DoesWithin (.engctlApply) s [0x02, 0x04, 0x09, 0x41, 0x44, 0x45, 0x46, 0x47, 0x48, 0x49, 0x4A, 0x4B, 0x4C, 0x4D, 0x4E, 0x4F, 0x50, 0x51, 0x58, 0x59, 0x5A, 0x5B, 0x5C, 0x5D, 0x5E, 0x5F]
      [.pwr, .link, .intc, .jr, .weave, .loom, .clu, .warden] fun t => t.get (REED_ENGST_HELD e) = 1 ∧ t.get (LOOM_STAT_STATE e) = 2 ∧
      t.get (REED_ENGST_VOTE e) = 0 ∧ t.get (REED_CLST_MODE (e / 3)) = 2)

/-- The warden's starts and restarts, its audit, its queue and its firmware (R238, R239, R240, R250). Where it goes beyond the rules it states
choices of the model: log entries 25, 64, 149, 168. -/
def Obligations.WardenWork : Prop :=
    ∀ s : State, s.Inv →
    (s.get WARDEN_STAT_STATE = 2 → DoesWithin (.wardenStart) s [0x02, 0x09, 0x51, 0x52, 0x58, 0x59, 0x5A, 0x5B, 0x5C, 0x5D, 0x5E, 0x5F, 0x100]
      [.link, .intc, .cells, .ring, .twin, .edge] fun t => t.get WARDEN_STAT_STATE = 1) ∧
    (wardenRuns s = true → DoesWithin (.wardenRestart) s [0x02, 0x09, 0x51, 0x52] [.link, .intc] fun t => t.get WARDEN_STAT_STATE = 2 ∧
      t.get WARDEN_STAT_RESTARTS = min (s.get WARDEN_STAT_RESTARTS + 1) (2 ^ WARDEN_STAT_RESTARTS.wd - 1) ∧ t.warden = s.warden) ∧
    (wardenRuns s = true → DoesWithin (.wardenWatchdog) s [0x02, 0x09, 0x51, 0x52] [.link, .intc] fun t => t.get WARDEN_STAT_STATE = 2 ∧
      t.get WARDEN_STAT_RESTARTS = min (s.get WARDEN_STAT_RESTARTS + 1) (2 ^ WARDEN_STAT_RESTARTS.wd - 1) ∧ t.warden = s.warden) ∧
    (∀ (c : Nat) (n : Nat), c < 4 → n < 1152 → s.get (REED_CLST_MODE c) = 1 → wardenRuns s = true → auditTime s c = true →
      auditBlock s (3 * c) n = auditBlock s (3 * c + 1) n → auditBlock s (3 * c + 1) n = auditBlock s (3 * c + 2) n →
      Does (.auditBlock c n) s fun t => t = auditCount c n s.silent) ∧
    (∀ (c : Nat) (n : Nat), c < 4 → n < 1152 → s.get (REED_CLST_MODE c) = 1 → wardenRuns s = true → auditTime s c = true →
      blockCrc (auditBlock s (3 * c) n) = blockCrc (auditBlock s (3 * c + 1) n) →
      blockCrc (auditBlock s (3 * c + 1) n) ≠ blockCrc (auditBlock s (3 * c + 2) n) → s.get (LOOM_STAT_STATE (3 * c + 2)) = 1 →
      (voters s c).length = 3 → s.flag (REED_CLST_REP c) = false →
      DoesWithin (.auditBlock c n) s [0x02, 0x09, 0x41, 0x44, 0x45, 0x46, 0x47, 0x48, 0x49, 0x4A, 0x4B, 0x4C, 0x4D, 0x4E, 0x4F, 0x50, 0x51, 0x52, 0x58, 0x59, 0x5A, 0x5B, 0x5C, 0x5D, 0x5E, 0x5F]
      [.pwr, .link, .intc, .weave, .loom, .clu, .warden] fun t => t.get (LOOM_STAT_STATE (3 * c + 2)) = 2 ∧ t.get (REED_CLST_MODE c) = 2 ∧
      t.get WARDEN_AUDIT_MIS = min (s.get WARDEN_AUDIT_MIS + 1) (2 ^ WARDEN_AUDIT_MIS.wd - 1) ∧ t.get REED_LASTMIS_AUD = 1 ∧
      t.get REED_LASTMIS_ENG = 2) ∧
    (∀ (writes : List (Nat × Word)) (n : Nat) (q : List Nat), wardenRuns s = true → s.warden.irq = n :: q → DoesWithin (.wardenIrqTake writes) s [0x52]
      [.warden] fun t => t.warden.irq = q ∧ t.get WARDEN_STAT_IRQQ = q.length % 2 ^ WARDEN_STAT_IRQQ.wd ∧
      t.warden.staged = s.warden.staged ++ writes) ∧
    (∀ (writes : List (Nat × Word)), wardenRuns s = true → s.warden.irq = [] → Does (.wardenIrqTake writes) s fun t => t = s.silent) ∧
    (s.get WARDEN_STAT_STBY = 1 → Does (.wardenFwVerify) s fun t => t = { s.silent with warden.verifying := true }) ∧
    (s.get WARDEN_STAT_STBY = 2 → DoesWithin (.wardenFwActivate) s [0x02, 0x04, 0x09, 0x51, 0x52] [.link, .intc, .jr, .warden] fun t =>
      t.get WARDEN_FWVER_VER = s.warden.stbyVer % 2 ^ WARDEN_FWVER_VER.wd ∧ t.get WARDEN_STAT_STBY = 0 ∧ t.get WARDEN_STAT_STATE = 2 ∧
      t.warden.svn = s.warden.stbySvn ∧ t.warden.stby = []) ∧
    (DoesWithin (.wardenFwErase) s [0x02, 0x04, 0x09, 0x51, 0x52] [.link, .intc, .jr, .warden] fun t => t.get WARDEN_STAT_STBY = 0 ∧
      t.get WARDEN_FWSTBYV_VER = 0 ∧ t.warden.stby = [] ∧ t.warden.verifying = false) ∧
    (s.warden.verifying = true → DoesWithin (.wardenFwstby) s [0x02, 0x09, 0x51, 0x52] [.link, .intc, .warden] fun t =>
      t.get WARDEN_STAT_STBY = (if firmwareOk s 2 (standbyImage s) then 2 else 3) ∧
      t.get WARDEN_FWSTBYV_VER = (if firmwareOk s 2 (standbyImage s) then (standbyImage s).version else 0) % 2 ^ WARDEN_FWSTBYV_VER.wd ∧
      t.warden.verifying = false ∧ t.warden.stbySvn = (standbyImage s).svn)

/-- An integer operation alone in a bundle writes what Table 6-4 computes into g[D], for the next bundle, and changes nothing else (R186,
R189, R190, R191, R192, R197). Where it goes beyond the rules it states choices of the model: log entries 10, 11. -/
def Obligations.IntegerOperations : Prop :=
    ∀ s : State, s.Inv →
    (∀ (e : Nat) (w : SlotWord), Alone s e .add w → Does (.add e w ⟨true, [], [], none⟩) s fun t => t = lands e w ((seen s e w).ga + (seen s e w).gb) s) ∧
    (∀ (e : Nat) (w : SlotWord), Alone s e .sub w → Does (.sub e w ⟨true, [], [], none⟩) s fun t => t = lands e w ((seen s e w).ga - (seen s e w).gb) s) ∧
    (∀ (e : Nat) (w : SlotWord), Alone s e .addi w → Does (.addi e w ⟨true, [], [], none⟩) s fun t =>
      t = lands e w ((seen s e w).ga + BitVec.ofInt 32 (imm10 w)) s) ∧
    (∀ (e : Nat) (w : SlotWord), Alone s e .and w → Does (.and e w ⟨true, [], [], none⟩) s fun t =>
      t = lands e w ((seen s e w).ga &&& (seen s e w).gb) s) ∧
    (∀ (e : Nat) (w : SlotWord), Alone s e .or w → Does (.or e w ⟨true, [], [], none⟩) s fun t => t = lands e w ((seen s e w).ga ||| (seen s e w).gb) s) ∧
    (∀ (e : Nat) (w : SlotWord), Alone s e .xor w → Does (.xor e w ⟨true, [], [], none⟩) s fun t =>
      t = lands e w ((seen s e w).ga ^^^ (seen s e w).gb) s) ∧
    (∀ (e : Nat) (w : SlotWord), Alone s e .andn w → Does (.andn e w ⟨true, [], [], none⟩) s fun t =>
      t = lands e w ((seen s e w).ga &&& ~~~(seen s e w).gb) s) ∧
    (∀ (e : Nat) (w : SlotWord), Alone s e .shl w → Does (.shl e w ⟨true, [], [], none⟩) s fun t =>
      t = lands e w ((seen s e w).ga <<< ((seen s e w).gb.toNat % 32)) s) ∧
    (∀ (e : Nat) (w : SlotWord), Alone s e .shr w → Does (.shr e w ⟨true, [], [], none⟩) s fun t =>
      t = lands e w ((seen s e w).ga >>> ((seen s e w).gb.toNat % 32)) s) ∧
    (∀ (e : Nat) (w : SlotWord), Alone s e .sar w → Does (.sar e w ⟨true, [], [], none⟩) s fun t =>
      t = lands e w ((seen s e w).ga.sshiftRight ((seen s e w).gb.toNat % 32)) s) ∧
    (∀ (e : Nat) (w : SlotWord), Alone s e .shli w → Does (.shli e w ⟨true, [], [], none⟩) s fun t =>
      t = lands e w ((seen s e w).ga <<< (imm10 w % 32).toNat) s) ∧
    (∀ (e : Nat) (w : SlotWord), Alone s e .shri w → Does (.shri e w ⟨true, [], [], none⟩) s fun t =>
      t = lands e w ((seen s e w).ga >>> (imm10 w % 32).toNat) s) ∧
    (∀ (e : Nat) (w : SlotWord), Alone s e .sari w → Does (.sari e w ⟨true, [], [], none⟩) s fun t =>
      t = lands e w ((seen s e w).ga.sshiftRight (imm10 w % 32).toNat) s) ∧
    (∀ (e : Nat) (w : SlotWord), Alone s e .min w → Does (.min e w ⟨true, [], [], none⟩) s fun t =>
      t = lands e w (if (seen s e w).ga.toInt ≤ (seen s e w).gb.toInt then (seen s e w).ga else (seen s e w).gb) s) ∧
    (∀ (e : Nat) (w : SlotWord), Alone s e .max w → Does (.max e w ⟨true, [], [], none⟩) s fun t =>
      t = lands e w (if (seen s e w).gb.toInt ≤ (seen s e w).ga.toInt then (seen s e w).ga else (seen s e w).gb) s) ∧
    (∀ (e : Nat) (w : SlotWord), Alone s e .sel w → Does (.sel e w ⟨true, [], [], none⟩) s fun t =>
      t = lands e w (if (engAt s e).rp (w.f % 8) then (seen s e w).ga else (seen s e w).gb) s) ∧
    (∀ (e : Nat) (w : SlotWord), Alone s e .li w → Does (.li e w ⟨true, [], [], none⟩) s fun t => t = lands e w (BitVec.ofInt 32 (imm16 w)) s) ∧
    (∀ (e : Nat) (w : SlotWord), Alone s e .lih w → Does (.lih e w ⟨true, [], [], none⟩) s fun t =>
      t = lands e w (BitVec.ofNat 32 (imm16u w * 65536 + (seen s e w).gd.toNat % 65536)) s) ∧
    (∀ (e : Nat) (w : SlotWord), Alone s e .cmp w → Does (.cmp e w ⟨true, [], [], none⟩) s fun t =>
      t = modEng e (fun g => { went g with p := g.p.set (w.d % 8) (cmpCond w.f (seen s e w).ga (seen s e w).gb) }) s.silent) ∧
    (∀ (e : Nat) (w : SlotWord), Alone s e .nop w → Does (.nop e w ⟨true, [], [], none⟩) s fun t => t = modEng e went s.silent)

/-- A Q1.31 operation alone in a bundle: its result, rounded and limited under MODE, its flags, its latency, and the accumulators (R197, R199,
R203, R204, R206, R207, R208). Where it goes beyond the rules it states choices of the model: log entries 10, 11. -/
def Obligations.FixedPointOperations : Prop :=
    ∀ s : State, s.Inv →
    (∀ (e : Nat) (w : SlotWord), Alone s e .qadd w →
      DoesWithin (.qadd e w ⟨true, [], [], none⟩) s [0x02, 0x09, 0x41, 0x44, 0x45, 0x46, 0x47, 0x48, 0x49, 0x4A, 0x4B, 0x4C, 0x4D, 0x4E, 0x4F, 0x50, 0x51, 0x58, 0x59, 0x5A, 0x5B, 0x5C, 0x5D, 0x5E, 0x5F]
      [.pwr, .link, .intc, .weave, .loom, .clu] fun t =>
      (engAt t e).rg w.d = (limitQ (seen s e w).mode ((seen s e w).ga.toInt + (seen s e w).gb.toInt)).1 ∧
      (engAt t e).fl = (engAt s e).fl ||| (limitQ (seen s e w).mode ((seen s e w).ga.toInt + (seen s e w).gb.toInt)).2 ∧ (engAt t e).flight = [] ∧
      (engAt t e).pc = ((engAt s e).pc + 1) % 8192) ∧
    (∀ (e : Nat) (w : SlotWord), Alone s e .qsub w →
      DoesWithin (.qsub e w ⟨true, [], [], none⟩) s [0x02, 0x09, 0x41, 0x44, 0x45, 0x46, 0x47, 0x48, 0x49, 0x4A, 0x4B, 0x4C, 0x4D, 0x4E, 0x4F, 0x50, 0x51, 0x58, 0x59, 0x5A, 0x5B, 0x5C, 0x5D, 0x5E, 0x5F]
      [.pwr, .link, .intc, .weave, .loom, .clu] fun t =>
      (engAt t e).rg w.d = (limitQ (seen s e w).mode ((seen s e w).ga.toInt - (seen s e w).gb.toInt)).1 ∧
      (engAt t e).fl = (engAt s e).fl ||| (limitQ (seen s e w).mode ((seen s e w).ga.toInt - (seen s e w).gb.toInt)).2 ∧ (engAt t e).flight = [] ∧
      (engAt t e).pc = ((engAt s e).pc + 1) % 8192) ∧
    (∀ (e : Nat) (w : SlotWord), Alone s e .qabs w →
      DoesWithin (.qabs e w ⟨true, [], [], none⟩) s [0x02, 0x09, 0x41, 0x44, 0x45, 0x46, 0x47, 0x48, 0x49, 0x4A, 0x4B, 0x4C, 0x4D, 0x4E, 0x4F, 0x50, 0x51, 0x58, 0x59, 0x5A, 0x5B, 0x5C, 0x5D, 0x5E, 0x5F]
      [.pwr, .link, .intc, .weave, .loom, .clu] fun t =>
      (engAt t e).rg w.d = (limitQ (seen s e w).mode (if (seen s e w).ga.toInt < 0 then -(seen s e w).ga.toInt else (seen s e w).ga.toInt)).1 ∧
      (engAt t e).fl = (engAt s e).fl ||| (limitQ (seen s e w).mode (if (seen s e w).ga.toInt < 0 then -(seen s e w).ga.toInt else (seen s e w).ga.toInt)).2 ∧
      (engAt t e).flight = [] ∧ (engAt t e).pc = ((engAt s e).pc + 1) % 8192) ∧
    (∀ (e : Nat) (w : SlotWord), Alone s e .qmul w → Does (.qmul e w ⟨true, [], [], none⟩) s fun t =>
      t = flies e 3 w (.g w.d) (limitQ (seen s e w).mode (roundQ (qrnd (seen s e w).mode) 31 ((seen s e w).ga.toInt * (seen s e w).gb.toInt))).1.toNat (limitQ (seen s e w).mode (roundQ (qrnd (seen s e w).mode) 31 ((seen s e w).ga.toInt * (seen s e w).gb.toInt))).2 s) ∧
    (∀ (e : Nat) (w : SlotWord), Alone s e .qmac w → Does (.qmac e w ⟨true, [], [], none⟩) s fun t =>
      t = modEng e (fun g => { g with acc := g.acc.set (w.f % 4) (accum (((engAt s e).racc (w.f % 4)).toInt + (seen s e w).ga.toInt * (seen s e w).gb.toInt)).1 }) (flies e 3 w (.a (w.f % 4)) (accum (((engAt s e).racc (w.f % 4)).toInt + (seen s e w).ga.toInt * (seen s e w).gb.toInt)).1.toNat (accum (((engAt s e).racc (w.f % 4)).toInt + (seen s e w).ga.toInt * (seen s e w).gb.toInt)).2 s)) ∧
    (∀ (e : Nat) (w : SlotWord), Alone s e .qmsb w → Does (.qmsb e w ⟨true, [], [], none⟩) s fun t =>
      t = modEng e (fun g => { g with acc := g.acc.set (w.f % 4) (accum (((engAt s e).racc (w.f % 4)).toInt - (seen s e w).ga.toInt * (seen s e w).gb.toInt)).1 }) (flies e 3 w (.a (w.f % 4)) (accum (((engAt s e).racc (w.f % 4)).toInt - (seen s e w).ga.toInt * (seen s e w).gb.toInt)).1.toNat (accum (((engAt s e).racc (w.f % 4)).toInt - (seen s e w).ga.toInt * (seen s e w).gb.toInt)).2 s)) ∧
    (∀ (e : Nat) (w : SlotWord), Alone s e .qmz w → Does (.qmz e w ⟨true, [], [], none⟩) s fun t =>
      t = modEng e (fun g => { g with acc := g.acc.set (w.f % 4) (accum ((seen s e w).ga.toInt * (seen s e w).gb.toInt)).1 }) (flies e 3 w (.a (w.f % 4)) (accum ((seen s e w).ga.toInt * (seen s e w).gb.toInt)).1.toNat (accum ((seen s e w).ga.toInt * (seen s e w).gb.toInt)).2 s)) ∧
    (∀ (e : Nat) (w : SlotWord), Alone s e .acr w → Does (.acr e w ⟨true, [], [], none⟩) s fun t =>
      t = flies e 2 w (.g w.d) (limitQ (seen s e w).mode (roundQ (qrnd (seen s e w).mode) 31 (((engAt s e).ra (w.f % 4)).toInt * (2 ^ w.b : Nat)))).1.toNat (limitQ (seen s e w).mode (roundQ (qrnd (seen s e w).mode) 31 (((engAt s e).ra (w.f % 4)).toInt * (2 ^ w.b : Nat)))).2 s) ∧
    (∀ (e : Nat) (w : SlotWord), Alone s e .acw w → Does (.acw e w ⟨true, [], [], none⟩) s fun t =>
      t = modEng e (fun g => { went g with acc := g.acc.set (w.f % 4) (BitVec.ofInt 72 ((seen s e w).ga.toInt * 2 ^ 31)), a := g.a.set (w.f % 4) (BitVec.ofInt 72 ((seen s e w).ga.toInt * 2 ^ 31)) }) s.silent)

/-- An FP32 operation alone in a bundle: its result and flags under MODE and its latency (R192, R197, R205, R207, R208). Where it goes beyond
the rules it states choices of the model: log entries 5, 10, 11. -/
def Obligations.FloatingPointOperations : Prop :=
    ∀ s : State, s.Inv →
    (∀ (e : Nat) (w : SlotWord), Alone s e .fadd w → Does (.fadd e w ⟨true, [], [], none⟩) s fun t =>
      t = flies e 4 w (.g w.d) (fpAdd (seen s e w).mode (fpAB (seen s e w)).1 (fpAB (seen s e w)).2.1).1.toNat ((fpAB (seen s e w)).2.2 ||| (fpAdd (seen s e w).mode (fpAB (seen s e w)).1 (fpAB (seen s e w)).2.1).2) s) ∧
    (∀ (e : Nat) (w : SlotWord), Alone s e .fsub w → Does (.fsub e w ⟨true, [], [], none⟩) s fun t =>
      t = flies e 4 w (.g w.d) (fpAdd (seen s e w).mode (fpAB (seen s e w)).1 (fpAB (seen s e w)).2.1.neg).1.toNat ((fpAB (seen s e w)).2.2 ||| (fpAdd (seen s e w).mode (fpAB (seen s e w)).1 (fpAB (seen s e w)).2.1.neg).2) s) ∧
    (∀ (e : Nat) (w : SlotWord), Alone s e .fmul w → Does (.fmul e w ⟨true, [], [], none⟩) s fun t =>
      t = flies e 4 w (.g w.d) (fpMul (seen s e w).mode (fpAB (seen s e w)).1 (fpAB (seen s e w)).2.1).1.toNat ((fpAB (seen s e w)).2.2 ||| (fpMul (seen s e w).mode (fpAB (seen s e w)).1 (fpAB (seen s e w)).2.1).2) s) ∧
    (∀ (e : Nat) (w : SlotWord), Alone s e .fma w → Does (.fma e w ⟨true, [], [], none⟩) s fun t =>
      t = flies e 5 w (.g w.d) (fpFma (seen s e w).mode (fpRead (seen s e w).mode (seen s e w).gd).1 (fpAB (seen s e w)).1 (fpAB (seen s e w)).2.1).1.toNat ((fpAB (seen s e w)).2.2 ||| (fpFma (seen s e w).mode (fpRead (seen s e w).mode (seen s e w).gd).1 (fpAB (seen s e w)).1 (fpAB (seen s e w)).2.1).2 ||| (fpRead (seen s e w).mode (seen s e w).gd).2) s) ∧
    (∀ (e : Nat) (w : SlotWord), Alone s e .fmin w → Does (.fmin e w ⟨true, [], [], none⟩) s fun t =>
      t = flies e 2 w (.g w.d) (fpPick false (seen s e w)).1.toNat (fpPick false (seen s e w)).2 s) ∧
    (∀ (e : Nat) (w : SlotWord), Alone s e .fmax w → Does (.fmax e w ⟨true, [], [], none⟩) s fun t =>
      t = flies e 2 w (.g w.d) (fpPick true (seen s e w)).1.toNat (fpPick true (seen s e w)).2 s) ∧
    (∀ (e : Nat) (w : SlotWord), Alone s e .fneg w → Does (.fneg e w ⟨true, [], [], none⟩) s fun t =>
      t = lands e w (if (fpRead 0 (seen s e w).ga).1.isNan then 0x7FC00000#32 else (seen s e w).ga ^^^ 0x80000000#32) s) ∧
    (∀ (e : Nat) (w : SlotWord), Alone s e .fabs w → Does (.fabs e w ⟨true, [], [], none⟩) s fun t =>
      t = lands e w (if (fpRead 0 (seen s e w).ga).1.isNan then 0x7FC00000#32 else (seen s e w).ga &&& 0x7FFFFFFF#32) s) ∧
    (∀ (e : Nat) (w : SlotWord), Alone s e .fcmp w → Does (.fcmp e w ⟨true, [], [], none⟩) s fun t =>
      t = flies e 2 w (.p (w.d % 8)) (bit (fpCond w.f (fpAB (seen s e w)).1 (fpAB (seen s e w)).2.1)) ((fpAB (seen s e w)).2.2 ||| (if (fpAB (seen s e w)).1.snan || (fpAB (seen s e w)).2.1.snan then fFINV else 0)) s) ∧
    (∀ (e : Nat) (w : SlotWord), Alone s e .fcvt w → Does (.fcvt e w ⟨true, [], [], none⟩) s fun t =>
      t = flies e 3 w (.g w.d) (fcvt (seen s e w)).1.toNat (fcvt (seen s e w)).2 s) ∧
    (∀ (e : Nat) (w : SlotWord), Alone s e .frcp w → Does (.frcp e w ⟨true, [], [], none⟩) s fun t =>
      t = flies e 8 w (.g w.d) (frcpOf (seen s e w)).1.toNat (frcpOf (seen s e w)).2 s) ∧
    (∀ (e : Nat) (w : SlotWord), Alone s e .frsq w → Does (.frsq e w ⟨true, [], [], none⟩) s fun t =>
      t = flies e 8 w (.g w.d) (frsqOf (seen s e w)).1.toNat (frsqOf (seen s e w)).2 s)

/-- A load alone in a bundle brings the word as it stood at its issue; a store changes the addressed words of its memory only (R151, R152,
R156, R158, R193, R197, R200, R201). Where it goes beyond the rules it states choices of the model: log entries 10, 11. -/
def Obligations.LoadsAndStores : Prop :=
    ∀ s : State, s.Inv →
    (∀ (e : Nat) (w : SlotWord), Alone s e .ldw w → Does (.ldw e w ⟨true, [], [], none⟩) s fun t =>
      t = flies e 3 w (.g w.d) (memAt (engAt s e).dm (dmAddrI (seen s e w) / 4)).toNat 0 s) ∧
    (∀ (e : Nat) (w : SlotWord), Alone s e .ldx w → Does (.ldx e w ⟨true, [], [], none⟩) s fun t =>
      t = flies e 3 w (.g w.d) (memAt (engAt s e).dm (dmAddrX (seen s e w) / 4)).toNat 0 s) ∧
    (∀ (e : Nat) (w : SlotWord), Alone s e .ldd w → Does (.ldd e w ⟨true, [], [], none⟩) s fun t =>
      t = modEng e (fun g => { went g with flight := [⟨g.now + 3, g.now, w.slot, g.bg, .g w.d, (memAt g.dm (dmAddrI (seen s e w) / 8 * 2)).toNat, 0, attrOf g⟩, ⟨g.now + 3, g.now, w.slot, g.bg, .g (w.d + 1), (memAt g.dm (dmAddrI (seen s e w) / 8 * 2 + 1)).toNat, 0, attrOf g⟩] }) s.silent) ∧
    (∀ (e : Nat) (w : SlotWord), Alone s e .lda w → Does (.lda e w ⟨true, [], [], none⟩) s fun t =>
      t = flies e 4 w (.g w.d) (ldaValue (seen s e w)).toNat 0 s) ∧
    (∀ (e : Nat) (w : SlotWord), Alone s e .ldaw w → Does (.ldaw e w ⟨true, [], [], none⟩) s fun t =>
      t = flies e 3 w (.g w.d) (memAt (engAt s e).at' (wordAddr (seen s e w))).toNat 0 s) ∧
    (∀ (e : Nat) (w : SlotWord), Alone s e .lds w → Does (.lds e w ⟨true, [], [], none⟩) s fun t =>
      t = flies e 3 w (.g w.d) (memAt s.weave.shared (wordAddr (seen s e w))).toNat 0 s) ∧
    (∀ (e : Nat) (w : SlotWord), Alone s e .ldp w → Does (.ldp e w ⟨true, [], [], none⟩) s fun t =>
      t = flies e 3 w (.g w.d) (memAt s.weave.params (wordAddr (seen s e w) % 65536)).toNat 0 s) ∧
    (∀ (e : Nat) (w : SlotWord), Alone s e .ldr w → Does (.ldr e w ⟨true, [], [], none⟩) s fun t =>
      t = flies e 3 w (.g w.d) (memAt (cluAt s (e / 3)).ringBuf (wordAddr (seen s e w))).toNat 0 s) ∧
    (∀ (e : Nat) (w : SlotWord), Alone s e .ldb w → Does (.ldb e w ⟨true, [], [], none⟩) s fun t =>
      t = flies e 3 w (.g w.d) (memAt (cluAt s (e / 3)).adcBuf (wordAddr (seen s e w))).toNat 0 s) ∧
    (∀ (e : Nat) (w : SlotWord), Alone s e .stw w → Does (.stw e w ⟨true, [], [], none⟩) s fun t =>
      t = modEng e (fun g => { went g with dm := memSet (dmAddrI (seen s e w) / 4) (seen s e w).gd g.dm }) s.silent) ∧
    (∀ (e : Nat) (w : SlotWord), Alone s e .stx w → Does (.stx e w ⟨true, [], [], none⟩) s fun t =>
      t = modEng e (fun g => { went g with dm := memSet (dmAddrX (seen s e w) / 4) (seen s e w).gd g.dm }) s.silent) ∧
    (∀ (e : Nat) (w : SlotWord), Alone s e .std w → Does (.std e w ⟨true, [], [], none⟩) s fun t =>
      t = modEng e (fun g => { went g with dm := memSet (dmAddrI (seen s e w) / 8 * 2 + 1) (g.rg (w.d + 1)) (memSet (dmAddrI (seen s e w) / 8 * 2) (seen s e w).gd g.dm) }) s.silent) ∧
    (∀ (e : Nat) (w : SlotWord), Alone s e .sta w → Does (.sta e w ⟨true, [], [], none⟩) s fun t =>
      t = modEng e (fun g => { went g with at' := memSet (wordAddr (seen s e w)) (seen s e w).gd g.at' }) s.silent)

/-- A branch is outstanding for two delay bundles, a loop is pushed, control registers are read and written, markers end the code; A record
operation alone in a bundle issues its record with the operands as they stand (R184, R194, R195, R210, R211, R214, R215, R261, R286).
Where it goes beyond the rules it states choices of the model: log entries 10, 19. -/
def Obligations.BranchesLoopsAndRecords : Prop :=
    ∀ s : State, s.Inv →
    (∀ (e : Nat) (w : SlotWord), Alone s e .bra w → Does (.bra e w ⟨true, [], [], none⟩) s fun t =>
      t = modEng e (fun g => { went g with branch := some ⟨true, (((engAt s e).pc + imm16 w : Int) % 8192).toNat, 2⟩ }) s.silent) ∧
    (∀ (e : Nat) (w : SlotWord), Alone s e .bri w → Does (.bri e w ⟨true, [], [], none⟩) s fun t =>
      t = modEng e (fun g => { went g with branch := some ⟨true, (seen s e w).ga.toNat % 8192, 2⟩ }) s.silent) ∧
    (∀ (e : Nat) (w : SlotWord), Alone s e .call w →
      DoesWithin (.call e w ⟨true, [], [], none⟩) s [0x02, 0x09, 0x41, 0x44, 0x45, 0x46, 0x47, 0x48, 0x49, 0x4A, 0x4B, 0x4C, 0x4D, 0x4E, 0x4F, 0x50, 0x51, 0x58, 0x59, 0x5A, 0x5B, 0x5C, 0x5D, 0x5E, 0x5F]
      [.pwr, .link, .intc, .weave, .loom, .clu] fun t => (engAt t e).branch = some ⟨true, (((engAt s e).pc + imm16 w : Int) % 8192).toNat, 2⟩ ∧
      (engAt t e).lnk = ((engAt s e).pc + 3) % 8192 + 8192 * bit (engAt s e).rom ∧ t.regs = s.regs) ∧
    (∀ (e : Nat) (w : SlotWord), Alone s e .ret w → Does (.ret e w ⟨true, [], [], none⟩) s fun t =>
      t = modEng e (fun g => { went g with branch := some ⟨true, (engAt s e).lnk % 8192, 2⟩ }) s.silent) ∧
    (∀ (e : Nat) (w : SlotWord), Alone s e .loopi w → 0 < loopCount w → Does (.loopi e w ⟨true, [], [], none⟩) s fun t =>
      t = modEng e (fun g => { went g with loops := [⟨g.pc + 1, g.pc + loopLen w, loopCount w⟩], pc := g.pc + 1 }) s.silent) ∧
    (∀ (e : Nat) (w : SlotWord), Alone s e .loopr w → 0 < (seen s e w).gd.toNat % 65536 → Does (.loopr e w ⟨true, [], [], none⟩) s fun t =>
      t = modEng e (fun g => { went g with loops := [⟨g.pc + 1, g.pc + loopLen w, (seen s e w).gd.toNat % 65536⟩], pc := g.pc + 1 }) s.silent) ∧
    (∀ (e : Nat) (w : SlotWord), Alone s e .crd w → Does (.crd e w ⟨true, [], [], none⟩) s fun t => t = lands e w (crdValue s e (seen s e w) w.b) s) ∧
    (∀ (e : Nat) (w : SlotWord), Alone s e .cwr w → w.d = 0 →
      DoesWithin (.cwr e w ⟨true, [], [], none⟩) s [0x02, 0x09, 0x41, 0x44, 0x45, 0x46, 0x47, 0x48, 0x49, 0x4A, 0x4B, 0x4C, 0x4D, 0x4E, 0x4F, 0x50, 0x51, 0x58, 0x59, 0x5A, 0x5B, 0x5C, 0x5D, 0x5E, 0x5F]
      [.pwr, .link, .intc, .weave, .loom, .clu] fun t => (engAt t e).shadow = some ((seen s e w).ga.toNat % 32, 2) ∧
      (engAt t e).mode = (engAt s e).mode ∧ t.regs = s.regs) ∧
    (∀ (e : Nat) (w : SlotWord), Alone s e .cwr w → w.d = 1 →
      DoesWithin (.cwr e w ⟨true, [], [], none⟩) s [0x02, 0x09, 0x41, 0x44, 0x45, 0x46, 0x47, 0x48, 0x49, 0x4A, 0x4B, 0x4C, 0x4D, 0x4E, 0x4F, 0x50, 0x51, 0x58, 0x59, 0x5A, 0x5B, 0x5C, 0x5D, 0x5E, 0x5F]
      [.pwr, .link, .intc, .weave, .loom, .clu] fun t => (engAt t e).fl = (engAt s e).fl &&& (511 ^^^ ((seen s e w).ga.toNat % 512 &&& 511)) ∧
      t.regs = s.regs) ∧
    (∀ (e : Nat) (w : SlotWord), Alone s e .cwi w → w.d = 4 →
      DoesWithin (.cwi e w ⟨true, [], [], none⟩) s [0x02, 0x09, 0x41, 0x44, 0x45, 0x46, 0x47, 0x48, 0x49, 0x4A, 0x4B, 0x4C, 0x4D, 0x4E, 0x4F, 0x50, 0x51, 0x58, 0x59, 0x5A, 0x5B, 0x5C, 0x5D, 0x5E, 0x5F]
      [.pwr, .link, .intc, .weave, .loom, .clu] fun t => (engAt t e).lnk = imm16u w % 8192 + 8192 * bit (engAt s e).rom ∧ t.regs = s.regs) ∧
    (∀ (e : Nat) (w : SlotWord), Alone s e .jend w → Does (.jend e w ⟨true, [], [], none⟩) s fun t =>
      t = modEng e (fun g => { went g with running := false, ended := true }) s.silent) ∧
    (∀ (e : Nat) (w : SlotWord), Alone s e .endm w → Does (.endMarker e w ⟨true, [], [], none⟩) s fun t =>
      t = modEng e (fun g => { went g with running := false, ended := true }) s.silent) ∧
    (∀ (e : Nat) (w : SlotWord), Alone s e .rece w → Does (.rece e w ⟨true, [], [], none⟩) s fun t =>
      t = modEng e (fun g => { went g with recs := g.recs ++ [⟨1, (seen s e w).ga, (seen s e w).gb, g.lc, false⟩] }) s.silent) ∧
    (∀ (e : Nat) (w : SlotWord), Alone s e .recr w → Does (.recr e w ⟨true, [], [], none⟩) s fun t =>
      t = modEng e (fun g => { went g with recs := g.recs ++ [⟨2, (seen s e w).ga, (seen s e w).gb, g.lc, false⟩] }) s.silent) ∧
    (∀ (e : Nat) (w : SlotWord), Alone s e .recs w → Does (.recs e w ⟨true, [], [], none⟩) s fun t =>
      t = modEng e (fun g => { went g with recs := g.recs ++ [⟨3, (seen s e w).ga, (seen s e w).gb, g.lc, false⟩] }) s.silent) ∧
    (∀ (e : Nat) (w : SlotWord), Alone s e .recv w → Does (.recv e w ⟨true, [], [], none⟩) s fun t =>
      t = modEng e (fun g => { went g with recs := g.recs ++ [⟨4, (seen s e w).ga, (seen s e w).gb, g.lc, false⟩] }) s.silent)

/-- An undefined operation stops the engine, results in flight land, and a held engine steps (R196, R197, R208, R216, R217, R219). Where it
goes beyond the rules it states choices of the model: log entries 10, 18. -/
def Obligations.EnginesBetweenBundles : Prop :=
    ∀ s : State, s.Inv →
    (∀ (e : Nat) (w : SlotWord), e < 12 → e < s.loom.length → s.get (LOOM_STAT_STATE e) = 1 → (engAt s e).running = true →
      (engAt s e).lc < issueEnd s e → (engAt s e).bundle = [] → fetchOps s (engAt s e) = [(.undef, w)] →
      (engAt s e).pc < codeLen s (e / 3) (engAt s e) → s.flag (REED_CLST_REP (e / 3)) = false →
      DoesWithin (.undefinedOperation e w ⟨true, [], [], none⟩) s [0x02, 0x09, 0x41, 0x44, 0x45, 0x46, 0x47, 0x48, 0x49, 0x4A, 0x4B, 0x4C, 0x4D, 0x4E, 0x4F, 0x50, 0x51, 0x58, 0x59, 0x5A, 0x5B, 0x5C, 0x5D, 0x5E, 0x5F]
      [.pwr, .link, .intc, .weave, .loom, .clu] fun t => t.get (LOOM_STAT_STATE e) = 2 ∧ t.get (LOOM_STOP_CAUSE e) = 5 ∧
      t.get (LOOM_STOP_SUB e) = 1 ∧ t.get (REED_ENGST_VOTE e) = 0 ∧ (e < t.loom.length → (engAt t e).running = false)) ∧
    (∀ (e : Nat) (clocks : Nat) (f : Flight) (n : Nat), e < 12 → e < s.loom.length → (engAt s e).flight = [f] → f.dest = .g n →
      n < (engAt s e).g.length → f.bg = (engAt s e).bg → f.ready ≤ (engAt s e).now + clocks →
      DoesWithin (.operationComplete e clocks) s [0x02, 0x09, 0x41, 0x44, 0x45, 0x46, 0x47, 0x48, 0x49, 0x4A, 0x4B, 0x4C, 0x4D, 0x4E, 0x4F, 0x50, 0x51, 0x58, 0x59, 0x5A, 0x5B, 0x5C, 0x5D, 0x5E, 0x5F]
      [.pwr, .link, .intc, .weave, .loom, .clu] fun t => (engAt t e).rg n = word f.val ∧ (engAt t e).fl = (engAt s e).fl ||| f.flags ∧
      (engAt t e).flight = [] ∧ (engAt t e).now = (engAt s e).now + clocks) ∧
    (∀ (e : Nat) (value : Word), e < 12 → e < s.loom.length → (s.get (pglock (0x44 + e))).testBit 0 = false → stepPermitted e s = true →
      value.toNat < 2 ^ 13 → 0 < value.toNat →
      DoesWithin (.stepctl e value) s [0x02, 0x04, 0x09, 0x44, 0x45, 0x46, 0x47, 0x48, 0x49, 0x4A, 0x4B, 0x4C, 0x4D, 0x4E, 0x4F, 0x50, 0x51]
      [.link, .intc, .jr, .loom] fun t => t.get (LOOM_STAT_STATE e) = 5 ∧ t.get (LOOM_STEPCTL_N e) = value.toNat ∧
      t.get (LOOM_STEPSTAT_DONE e) = 0 ∧ (engAt t e).running = true) ∧
    (∀ (e : Nat) (value : Word), e < 12 → e < s.loom.length → (s.get (pglock (0x44 + e))).testBit 0 = false → stepPermitted e s = true →
      value.toNat < 2 ^ 14 →
      DoesWithin (.steppc e value) s [0x02, 0x04, 0x09, 0x44, 0x45, 0x46, 0x47, 0x48, 0x49, 0x4A, 0x4B, 0x4C, 0x4D, 0x4E, 0x4F, 0x51]
      [.link, .intc, .jr, .loom] fun t => (engAt t e).pc = value.toNat % 2 ^ 13 ∧ (engAt t e).rom = value.getLsbD 13 ∧ (engAt t e).loops = [] ∧
      (engAt t e).branch = none ∧ t.get (LOOM_STOPPC_S e) = value.toNat % 2 ^ 13 ∧ t.get (LOOM_STOPCTX_SDLY e) = 0) ∧
    (∀ (e : Nat), e < 12 → s.get (LOOM_STAT_STATE e) = 5 → (engAt s e).ended = true →
      DoesWithin (.stepRunEnd e) s [0x02, 0x09, 0x41, 0x44, 0x45, 0x46, 0x47, 0x48, 0x49, 0x4A, 0x4B, 0x4C, 0x4D, 0x4E, 0x4F, 0x50, 0x51, 0x58, 0x59, 0x5A, 0x5B, 0x5C, 0x5D, 0x5E, 0x5F]
      [.pwr, .link, .intc, .weave, .loom, .clu] fun t => t.get (LOOM_STAT_STATE e) = 3 ∧ t.get (LOOM_STOP_CAUSE e) = 8)

/-- Publication of the ring buffer, returns of the input, bypass timeouts, lost nodes and the service hold; Load points, carrier boundaries,
command bursts and the synchronisation input (R21, R23, R24, R25, R26, R27, R158, R257, R274, R281, R282, R283, R299, R301, R302, R303,
R304). Where it goes beyond the rules it states choices of the model: log entries 35, 36, 37, 38, 39, 40, 41, 42, 43, 45, 82, 110. -/
def Obligations.CellsEdgesAndCarrier : Prop :=
    ∀ s : State, s.Inv →
    (∀ (c : Nat) (missing : Bool), c < 3 → c < s.clu.length → (missing && twinState s == 5) = false →
      DoesWithin (.rxdone c missing) s [0x02, 0x09, 0x41, 0x51, 0x58, 0x59, 0x5A, 0x5B, 0x5C, 0x5D, 0x5E, 0x5F, 0x77, 0x100]
      [.link, .intc, .weave, .clu, .cells, .ring, .twin, .edge, .mppt] fun t => (cluAt t c).rxDone = true) ∧
    (∀ (missing : Bool), 3 < s.clu.length → (missing && twinState s == 5) = false →
      DoesWithin (.rxdone 3 missing) s [0x02, 0x09, 0x41, 0x51, 0x58, 0x59, 0x5A, 0x5B, 0x5C, 0x5D, 0x5E, 0x5F, 0x77, 0x100]
      [.link, .intc, .weave, .clu, .cells, .ring, .twin, .edge, .mppt] fun t => (cluAt t 3).rxDone = true ∧ t.regs = s.regs ∧ t.cells = s.cells ∧
      t.out = []) ∧
    (∀ (c : Nat), c < 3 → c < s.clu.length → twinState s = 5 →
      DoesWithin (.rxdone c true) s [0x02, 0x09, 0x41, 0x51, 0x58, 0x59, 0x5A, 0x5B, 0x5C, 0x5D, 0x5E, 0x5F, 0x77, 0x100]
      [.link, .intc, .weave, .clu, .cells, .ring, .twin, .edge, .mppt] fun t => (cluAt t c).rxDone = true ∧ t.get (RING_TWSTAT_STATE 6) = 6) ∧
    (∀ (g : Nat), g < 192 → 4096 ≤ (cellSt s g).inok → cellState s g = 4 → DoesWithin (.inputRestored g) s [0x02, 0x09, 0x51, 0x100]
      [.link, .intc, .cells] fun t => t.get (CELL_STATE_ST g) = 3 ∧ t.cells = s.cells) ∧
    (∀ (g : Nat), g < 192 → 4096 ≤ (cellSt s g).inok → cellState s g = 5 → s.flag (CELL_CTL_SERVICE g) = false → belowCount s (g / 64) = true →
      DoesWithin (.inputRestored g) s [0x02, 0x09, 0x51, 0x100] [.link, .intc, .cells] fun t => t.get (CELL_STATE_ST g) = 7 ∧ (g < s.cells.length →
      (cellSt t g).await = some 2) ∧ (g < s.cells.length → (cellSt t g).dl.bypcmd = 2)) ∧
    (∀ (g : Nat), g < s.cells.length → g < 192 → (cellSt s g).await = some 2 → cellState s g = 7 →
      DoesWithin (.bypassConfirmTimeout g) s [0x02, 0x09, 0x41, 0x51, 0x100] [.link, .intc, .weave, .cells, .edge] fun t =>
      t.get (CELL_STATE_ST g) = 6 ∧ t.get (CELL_STATE_LASTF g) = 5 ∧ (cellSt t g).await = some 1 ∧ t.weave = s.weave) ∧
    (∀ (g : Nat), g < s.cells.length → g < 192 → (cellSt s g).await = some 1 → cellState s g = 8 → s.flag WEAVE_STAT_RUN = true →
      s.flag WEAVE_STAT_FB = false → s.weave.fbPend = none → s.weave.fbWhileLoading = none →
      DoesWithin (.bypassConfirmTimeout g) s [0x02, 0x09, 0x41, 0x51, 0x100] [.link, .intc, .weave, .cells, .edge] fun t =>
      t.get (CELL_STATE_ST g) = 8 ∧ t.get (CELL_STATE_LASTF g) = 5 ∧ (cellSt t g).await = none ∧ t.weave.fbPend = some 4) ∧
    (∀ (g : Nat), g < s.cells.length → (cellSt s g).lost = true → DoesWithin (.nodeLostTimeout g) s [0x100] [.cells] fun t =>
      t.get (CELL_STATE_BYP g) = 1 ∧ (cellSt t g).gone = true ∧ (cellSt t g).conf = true) ∧
    (∀ (g : Nat), g < 192 → populated s g = true → cellState s g = 2 → (s.get (pglock (0x100 + g))).testBit 0 = false →
      Does (.service g 1#32) s fun t => t.get (CELL_CTL_SERVICE g) = 1 ∧ t.get (CELL_STATE_ST g) = 2 ∧ t.cells = s.cells) ∧
    (∀ (g : Nat), g < 192 → populated s g = true → cellState s g = 5 → s.flag (CELL_STATE_INOK g) = true → (cellSt s g).lost = false →
      belowCount s (g / 64) = true → (s.get (pglock (0x100 + g))).testBit 0 = false → Does (.service g 0#32) s fun t =>
      t.get (CELL_CTL_SERVICE g) = 0 ∧ t.get (CELL_STATE_ST g) = 7) ∧
    (∀ (ph : Nat), s.flag EDGE_STAT_RUN = true → ph < 3 → s.edge.nextB ≤ absPick s + 3 → s.edge.loaded.getD ph false = false →
      DoesWithin (.loadPoint ph) s [0x02, 0x09, 0x41, 0x51, 0x60, 0x74, 0x75] [.link, .intc, .weave, .cells, .edge, .cur] fun t =>
      t.edge.loaded = s.edge.loaded.set ph true ∧ t.edge.nextB = s.edge.nextB ∧ t.edge.coming = s.edge.coming.set ph (carrierNow s)) ∧
    (s.flag EDGE_STAT_RUN = true → absPick s = s.edge.nextB → DoesWithin (.carrierBoundary) s [0x02, 0x09, 0x41, 0x51, 0x60, 0x62, 0x74, 0x75, 0x100]
      [.link, .intc, .weave, .cells, .edge, .cur, .fcmp] fun t => t.get EDGE_STAT_CPC = 0 ∧ t.edge.loaded = [false, false, false] ∧ t.edge.ext = 0 ∧
      s.edge.nextB ≤ t.edge.nextB ∧ t.get EDGE_STAT_PLEN = (t.edge.nextB - s.edge.nextB) % 2 ^ EDGE_STAT_PLEN.wd) ∧
    (∀ (lane : Nat), laneSends s lane = true → DoesWithin (.commandBurst lane) s [0x02, 0x09, 0x51, 0x60] [.link, .intc, .ring, .edge] fun t =>
      (∃ a b segs bs, t.out.getLast? = some (.burst lane a b segs bs) ∧ segs.map (·.cell) = (phaseCells (lane / 2)).filter fun g => owns s lane g)) ∧
    (∀ (high : Bool) (ns : Nat) (lc : Nat), high ≠ s.flag SYNC_CTL_INPOL → syncKind ns = 2 → s.syn.lastAt = none →
      DoesWithin (.syncInPulse high ns lc) s [0x02, 0x09, 0x51, 0x62] [.link, .intc, .edge, .syn] fun t => t.get SYNC_STAT_LAST = 2 ∧
      t.get SYNC_STAT_INSEEN = 1 ∧ t.get SYNC_INCNT_ACC = min (s.get SYNC_INCNT_ACC + 1) (2 ^ SYNC_INCNT_ACC.wd - 1) ∧
      t.syn.lastAt = some (accBefore lc 18 s / 2 ^ 28) ∧ ((0 < s.get WARP_INC_INC →
      18 * s.get WARP_INC_INC ≤ (s.warp.acc.toNat + lc * s.get WARP_INC_INC) % 2 ^ 44 →
      t.syn.lastAt = some ((s.warp.acc.toNat + lc * s.get WARP_INC_INC - 18 * s.get WARP_INC_INC) / 2 ^ 28)))) ∧
    (∀ (high : Bool) (ns : Nat) (lc : Nat), high ≠ s.flag SYNC_CTL_INPOL → syncKind ns = 0 →
      DoesWithin (.syncInPulse high ns lc) s [0x02, 0x09, 0x51, 0x62] [.link, .intc, .edge, .syn] fun t =>
      t.get SYNC_INCNT_REJ = min (s.get SYNC_INCNT_REJ + 1) (2 ^ SYNC_INCNT_REJ.wd - 1) ∧ t.syn = s.syn ∧ t.edge = s.edge) ∧
    (∀ (high : Bool) (ns : Nat) (lc : Nat), high = s.flag SYNC_CTL_INPOL → Does (.syncInPulse high ns lc) s fun t => t = s.silent) ∧
    (∀ (l : Nat), s.syn.lastAt = some l → l + 2 * 2 ^ 28 ≤ threadsAt s 0 → s.flag SYNC_CTL_FOLLOW = true → s.flag SYNC_STAT_LOCKED = true →
      DoesWithin (.syncLost) s [0x02, 0x09, 0x51, 0x62] [.link, .intc, .syn] fun t => t.get SYNC_STAT_INSEEN = 0 ∧ t.get SYNC_STAT_LOCKED = 0 ∧
      t.syn.zeros = 0)

/-- A direction fails, returns and takes back its cells; cells move and return (R253, R270, R271, R272). Where it goes beyond the rules it
states choices of the model: log entries 1, 44. -/
def Obligations.RingDirections : Prop :=
    ∀ s : State, s.Inv →
    (∀ (lane : Nat), lane < 6 → s.get (RING_STAT_STATE lane) = 3 → laneServes s (otherLane lane) = true → s.get (RING_TWSTAT_STATE 6) ≠ 5 →
      DoesWithin (.directionFail lane) s [0x02, 0x09, 0x51, 0x58, 0x59, 0x5A, 0x5B, 0x5C, 0x5D, 0x5E, 0x5F, 0x100]
      [.link, .intc, .cells, .ring, .twin, .edge] fun t => t.get (RING_STAT_STATE lane) = 4 ∧
      t.get (RING_FAILCNT_FAIL lane) = min (s.get (RING_FAILCNT_FAIL lane) + 1) (2 ^ (RING_FAILCNT_FAIL lane).wd - 1) ∧ (∀ g, g / 64 = lane / 2 →
      g < s.cells.length → populated s g = true → (cellSt t g).ownNext = some (1 - lane % 2, ownDelay s))) ∧
    (∀ (lane : Nat), lane < 6 → s.get (RING_STAT_STATE lane) = 3 → laneServes s (otherLane lane) = true → s.get (RING_TWSTAT_STATE 6) ≠ 5 →
      DoesWithin (.receiverLockLoss lane) s [0x02, 0x09, 0x51, 0x58, 0x59, 0x5A, 0x5B, 0x5C, 0x5D, 0x5E, 0x5F, 0x100]
      [.link, .intc, .cells, .ring, .twin, .edge] fun t => t.get (RING_STAT_LOCK lane) = 0 ∧ t.get (RING_STAT_STATE lane) = 4) ∧
    (∀ (lane : Nat), lane < 8 → 6 ≤ lane → Does (.receiverLockLoss lane) s fun t =>
      t = modRing lane (fun d => { d with good := 0 }) (s.silent.put (RING_STAT_LOCK lane) 0)) ∧
    (∀ (lane : Nat), lane < 6 → s.get (RING_STAT_STATE lane) = 4 → s.flag (RING_STAT_LOCK lane) = true → 262144 ≤ (ringDir s lane).good →
      s.flag (RING_CTL_FORCEOUT lane) = false →
      DoesWithin (.directionReturning lane) s [0x02, 0x09, 0x51, 0x58, 0x59, 0x5A, 0x5B, 0x5C, 0x5D, 0x5E, 0x5F] [.link, .intc] fun t =>
      t.get (RING_STAT_STATE lane) = 5 ∧ t.ring = s.ring) ∧
    (∀ (lane : Nat), lane < 6 → s.get (RING_STAT_STATE lane) = 5 → pickOf s = 0 → s.flag (RING_STAT_KEYED lane) = true →
      DoesWithin (.defaultOwnershipReturn lane) s [0x02, 0x09, 0x51, 0x58, 0x59, 0x5A, 0x5B, 0x5C, 0x5D, 0x5E, 0x5F, 0x100]
      [.link, .intc, .cells, .twin] fun t => t.get (RING_STAT_STATE lane) = 3 ∧ (∀ g, g / 64 = lane / 2 → g < s.cells.length →
      (cellSt t g).miss = 0)) ∧
    (∀ (g : Nat), g < s.cells.length → g < 192 → populated s g = true → ownerNow s g = 0 → 4 ≤ (cellSt s g).miss →
      s.get (RING_STAT_STATE (2 * (g / 64))) = 3 → s.get (RING_STAT_STATE (2 * (g / 64) + 1)) = 3 → presBit s (2 * (g / 64) + 1) g = true →
      DoesWithin (.cellOwnerMove g) s [0x02, 0x09, 0x51, 0x58, 0x59, 0x5A, 0x5B, 0x5C, 0x5D, 0x5E, 0x5F] [.link, .intc, .cells, .twin] fun t =>
      (cellSt t g).ownNext = some (1, ownDelay s) ∧ (cellSt t g).miss = 0 ∧
      t.get (RING_FAILCNT_MOVES (2 * (g / 64))) = min (s.get (RING_FAILCNT_MOVES (2 * (g / 64))) + 1) (2 ^ (RING_FAILCNT_MOVES 0).wd - 1)) ∧
    (∀ (g : Nat), g < s.cells.length → g < 192 → populated s g = true → ownerNow s g = 1 → defaultOwner s g = 0 → pickOf s = 0 →
      262144 ≤ (cellSt s g).good → DoesWithin (.cellDefaultReturn g) s [0x02, 0x09, 0x51, 0x58, 0x59, 0x5A, 0x5B, 0x5C, 0x5D, 0x5E, 0x5F, 0x100]
      [.link, .intc, .cells, .twin] fun t => t.get (CELL_STATE_DIR g) = 0 ∧ (cellSt t g).miss = 0 ∧ owns t (2 * (g / 64)) g = true) ∧
    (∀ (lane : Nat) (b : CollectBurst), lane < 6 → blockLate lane b s = false → lane < s.ring.length → (ringDir s lane).step ≠ 6 → b.endOk = true →
      s.flag (RING_STAT_LOCK lane) = true → b.pres < 2 ^ 64 → (phaseCells (lane / 2)).all (fun g => !populated s g) = true →
      DoesWithin (.collectBurstReturn lane b) s [0x02, 0x09, 0x41, 0x51, 0x58, 0x59, 0x5A, 0x5B, 0x5C, 0x5D, 0x5E, 0x5F, 0x100]
      [.link, .intc, .weave, .cells, .ring, .twin, .edge] fun t => (ringDir t lane).good = (ringDir s lane).good + 1 ∧
      t.get (RING_STAT_RXOK lane) = 1 ∧ t.get (RING_PRES_LO_PRES lane) = b.pres % 2 ^ 32 ∧ t.get (RING_PRES_HI_PRES lane) = b.pres / 2 ^ 32 ∧
      t.cells = s.cells)

/-- A collect burst that returns counts for its lane, and each owned cell's segment is opened, checked and reduced, or taken from the partner
as it is (R252, R253, R263, R264, R266, R267, R273, R276). Where it goes beyond the rules it states choices of the model: log entries 45,
144, 151, 152. -/
def Obligations.CollectBurstsAreReduced : Prop :=
    ∀ s : State, s.Inv →
    (∀ (lane : Nat) (b : CollectBurst), lane < 6 → blockLate lane b s = false → lane < s.ring.length → (ringDir s lane).step ≠ 6 → b.endOk = true →
      s.flag (RING_STAT_LOCK lane) = true → b.pres < 2 ^ 64 →
      DoesWithin (.collectBurstReturn lane b) s [0x02, 0x09, 0x41, 0x51, 0x58, 0x59, 0x5A, 0x5B, 0x5C, 0x5D, 0x5E, 0x5F, 0x100]
      [.link, .intc, .weave, .cells, .ring, .twin, .edge] fun t => (ringDir t lane).good = (ringDir s lane).good + 1 ∧
      t.get (RING_STAT_RXOK lane) = 1 ∧ t.get (RING_PRES_LO_PRES lane) = b.pres % 2 ^ 32 ∧ t.get (RING_PRES_HI_PRES lane) = b.pres / 2 ^ 32 ∧
      t.get (RING_FECCOR_COUNT lane) = min (s.get (RING_FECCOR_COUNT lane) + b.cor) (2 ^ (RING_FECCOR_COUNT 0).wd - 1) ∧
      t.get (RING_FECUNC_COUNT lane) = min (s.get (RING_FECUNC_COUNT lane) + b.unc) (2 ^ (RING_FECUNC_COUNT 0).wd - 1)) ∧
    (∀ (lane : Nat) (b : CollectBurst), lane < 6 → blockLate lane b s = false → lane < s.ring.length → (ringDir s lane).step ≠ 6 → b.endOk = false →
      DoesWithin (.collectBurstReturn lane b) s [0x02, 0x09, 0x41, 0x51, 0x58, 0x59, 0x5A, 0x5B, 0x5C, 0x5D, 0x5E, 0x5F, 0x100]
      [.link, .intc, .weave, .cells, .ring, .twin, .edge] fun t => (ringDir t lane).good = 0 ∧ t.get (RING_STAT_RXOK lane) = 0) ∧
    (∀ (lane : Nat) (b : CollectBurst) (g : Nat) (i : Nat) (lc : Nat) (ws : List Word), lane < 6 → blockLate lane b s = false → lane < s.ring.length →
      (ringDir s lane).step ≠ 6 → g / 64 = lane / 2 → g < s.cells.length → populated s g = true → cellState s g ≠ 1 →
      (maskCells lane (maskAt s lane b.pick))[i]? = some g → b.segs[i]? = some (.block lc ws) →
      DoesWithin (.collectBurstReturn lane b) s [0x02, 0x09, 0x41, 0x51, 0x58, 0x59, 0x5A, 0x5B, 0x5C, 0x5D, 0x5E, 0x5F, 0x100]
      [.link, .intc, .weave, .cells, .ring, .twin, .edge] fun t => (cellSt t g).red.head? = some ⟨b.pick, lc, ws⟩ ∧ (cellSt t g).authBad = false) ∧
    (∀ (lane : Nat) (b : CollectBurst) (g : Nat) (i : Nat) (lc : Nat) (bs : List Byte) (u : Uplink), lane < 6 → blockLate lane b s = false →
      lane < s.ring.length → (ringDir s lane).step ≠ 6 → g / 64 = lane / 2 → g < s.cells.length → populated s g = true → cellState s g ≠ 1 →
      (maskCells lane (maskAt s lane b.pick))[i]? = some g → b.segs[i]? = some (.raw lc bs) → openSeg s lane g b.pick lc bs = some u →
      -(2 ^ 31 : Int) ≤ (sumSlots u 0 + sumSlots u 1) * 2 ^ 14 → (sumSlots u 0 + sumSlots u 1) * 2 ^ 14 < (2 ^ 31 : Int) →
      DoesWithin (.collectBurstReturn lane b) s [0x02, 0x09, 0x41, 0x51, 0x58, 0x59, 0x5A, 0x5B, 0x5C, 0x5D, 0x5E, 0x5F, 0x100]
      [.link, .intc, .weave, .cells, .ring, .twin, .edge] fun t =>
      (cellSt t g).red.head? = some ⟨b.pick, lc, reduceWords u b.pick (lane % 2) (((cellEdge s g).formed.lookup b.pick).getD []) (cellSt s g).last63 (((convMap s).map (·.arcThr)).getD 0) (BitVec.ofInt 32 ((sumSlots u 0 + sumSlots u 1) * 2 ^ 14))⟩ ∧
      (cellSt t g).authBad = false ∧ (cellSt t g).last63 = (slotOf u 0 63, slotOf u 1 63)) ∧
    (∀ (lane : Nat) (b : CollectBurst) (g : Nat) (i : Nat) (lc : Nat) (bs : List Byte), lane < 6 → blockLate lane b s = false → lane < s.ring.length →
      (ringDir s lane).step ≠ 6 → g / 64 = lane / 2 → g < s.cells.length → populated s g = true → cellState s g ≠ 1 →
      (maskCells lane (maskAt s lane b.pick))[i]? = some g → b.segs[i]? = some (.raw lc bs) → openSeg s lane g b.pick lc bs = none →
      DoesWithin (.collectBurstReturn lane b) s [0x02, 0x09, 0x41, 0x51, 0x58, 0x59, 0x5A, 0x5B, 0x5C, 0x5D, 0x5E, 0x5F, 0x100]
      [.link, .intc, .weave, .cells, .ring, .twin, .edge] fun t => (cellSt t g).authBad = true ∧ (cellSt t g).red = (cellSt s g).red ∧
      min (s.get (RING_AUTHERR_COUNT lane) + 1) (2 ^ (RING_AUTHERR_COUNT 0).wd - 1) ≤ t.get (RING_AUTHERR_COUNT lane))

/-- Enumeration of a direction: training, discovery, keys, configuration, and updates of a node (R254, R263, R265, R270, R523, R530). Where it
goes beyond the rules it states choices of the model: log entries 46, 51, 144, 151. -/
def Obligations.RingEnumeration : Prop :=
    ∀ s : State, s.Inv →
    (∀ (lane : Nat), lane < 6 → s.flag (RING_CTL_FORCEOUT lane) = false → (s.get (pglock (0x58 + lane))).testBit 0 = false →
      (phaseCells (lane / 2)).any (fun g => owns s lane g && (cellState s g == 3 || cellState s g == 4)) = false → lane < s.ring.length →
      DoesWithin (.enum lane) s [0x02, 0x04, 0x09, 0x51, 0x58, 0x59, 0x5A, 0x5B, 0x5C, 0x5D, 0x5E, 0x5F, 0x100]
      [.link, .intc, .jr, .cells, .ring, .twin, .edge] fun t => t.get (RING_STAT_STATE lane) = 1 ∧ t.get (RING_STAT_KEYED lane) = 0 ∧
      t.get (RING_STAT_LOCK lane) = 0 ∧ (ringDir t lane).step = 1 ∧ (∀ i, i < 64 → t.get (RING_HOP2_KEYED lane i) = 0)) ∧
    (∀ (lane : Nat), lane < 6 → terminates s lane = true → s.get (RING_STAT_STATE lane) = 0 → lane < s.ring.length →
      DoesWithin (.lanePllLock lane) s [0x02, 0x09, 0x51, 0x58, 0x59, 0x5A, 0x5B, 0x5C, 0x5D, 0x5E, 0x5F, 0x7D] [.link, .intc, .cells, .ring]
      fun t => t.get (RING_STAT_STATE lane) = 1 ∧ t.get (RING_STAT_TERM lane) = 1 ∧ t.get ⟨CLOCK_SDLOCK_LANE.addr, lane, 1⟩ = 1 ∧
      (ringDir t lane).step = 1) ∧
    (∀ (lane : Nat) (ms : Nat), lane < 6 → lane < s.ring.length → (ringDir s lane).step = 1 →
      DoesWithin (.laneTrained lane true ms) s [0x02, 0x09, 0x51, 0x58, 0x59, 0x5A, 0x5B, 0x5C, 0x5D, 0x5E, 0x5F, 0x100]
      [.link, .intc, .cells, .ring, .twin, .edge] fun t => t.get (RING_STAT_STATE lane) = 2 ∧ t.get (RING_STAT_LOCK lane) = 1 ∧
      (ringDir t lane).step = 2 ∧ t.out.getLast? = some (.discover lane (discoverBlocks s lane))) ∧
    (∀ (lane : Nat) (ms : Nat), lane < 6 → lane < s.ring.length → (ringDir s lane).step = 1 → ms < 65536 →
      DoesWithin (.laneTrained lane false ms) s [0x02, 0x09, 0x51, 0x58, 0x59, 0x5A, 0x5B, 0x5C, 0x5D, 0x5E, 0x5F, 0x100]
      [.link, .intc, .cells, .ring, .twin, .edge] fun t => t.get (RING_STAT_STATE lane) = 4 ∧ t.get (RING_ENUMSTAT_RESULT lane) = 3 ∧
      t.get (RING_ENUMSTAT_MS lane) = ms ∧ (ringDir t lane).step = 0) ∧
    (∀ (lane : Nat) (d : Discover) (ms : Nat), lane < 6 → lane < s.ring.length → (ringDir s lane).step = 2 → (ringDir s lane).disc.length < 3 →
      DoesWithin (.discoverReturn lane d ms) s [0x02, 0x09, 0x51, 0x58, 0x59, 0x5A, 0x5B, 0x5C, 0x5D, 0x5E, 0x5F, 0x100]
      [.link, .intc, .cells, .ring, .twin, .edge] fun t => (ringDir t lane).disc = { d with hops := d.hops.take 64 } :: (ringDir s lane).disc ∧
      (ringDir t lane).step = 2 ∧ t.out = [.discover lane (discoverBlocks s lane)] ∧
      t.get (RING_FECCOR_COUNT lane) = min (s.get (RING_FECCOR_COUNT lane) + d.cor) (2 ^ (RING_FECCOR_COUNT 0).wd - 1) ∧
      t.get (RING_FECUNC_COUNT lane) = min (s.get (RING_FECUNC_COUNT lane) + d.unc) (2 ^ (RING_FECUNC_COUNT 0).wd - 1)) ∧
    (∀ (lane : Nat) (d : Discover) (ms : Nat), lane < 6 → lane < s.ring.length → (ringDir s lane).step = 2 → (ringDir s lane).disc.length = 3 →
      (ringDir s lane).disc.all (fun x => x.hops == d.hops) = true → d.hops.length ≤ 64 → imageRuns s = false →
      DoesWithin (.discoverReturn lane d ms) s [0x02, 0x09, 0x51, 0x58, 0x59, 0x5A, 0x5B, 0x5C, 0x5D, 0x5E, 0x5F, 0x100]
      [.link, .intc, .cells, .ring, .twin, .edge] fun t => (ringDir t lane).step = 3 ∧
      t.get (RING_ENUMSTAT_FOUND lane) = d.hops.length % 2 ^ (RING_ENUMSTAT_FOUND 0).wd ∧ (∀ i h, d.hops[i]? = some h →
      t.get (RING_HOP0_SERLO lane i) = h.serial % 2 ^ 32)) ∧
    (∀ (lane : Nat) (hop : Nat) (ms : Nat) (key : List Byte) (msgs : List Mgmt), lane < 6 → lane < s.ring.length → (ringDir s lane).step = 4 →
      wardenRuns s = true → ringCert s = true → 1 ≤ hop → hop ≤ 64 → hop < s.get (RING_ENUMSTAT_FOUND lane) → (ringDir s lane).tried = [] →
      (ringDir s lane).conf = [] → identity s lane (hop - 1) true = 0 → (ringDir s lane).bad = false →
      s.get (RING_HOP2_CELL lane (hop - 1)) < s.cells.length → lane % 2 < (cellSt s (s.get (RING_HOP2_CELL lane (hop - 1)))).keys.length →
      DoesWithin (.nodeKeyed lane hop 0 ms key msgs) s [0x02, 0x09, 0x51, 0x58, 0x59, 0x5A, 0x5B, 0x5C, 0x5D, 0x5E, 0x5F, 0x100]
      [.link, .intc, .cells, .ring] fun t => t.get (RING_HOP2_KEYED lane (hop - 1)) = 1 ∧
      keyOf t (s.get (RING_HOP2_CELL lane (hop - 1))) (lane % 2) = key ∧ (∀ m, m ∈ msgs →
      Out.mgmt lane m (mgmtBlocks s lane (s.get (RING_HOP2_CELL lane (hop - 1))) [] m) ∈ t.out) ∧ (ringDir t lane).tried = [hop] ∧
      (cellSt t (s.get (RING_HOP2_CELL lane (hop - 1)))).lost = false) ∧
    (∀ (lane : Nat) (hop : Nat) (ms : Nat) (msgs : List Mgmt), lane < 6 → lane < s.ring.length → (ringDir s lane).step = 4 → wardenRuns s = true →
      1 ≤ hop → hop ≤ 64 → s.flag (RING_HOP2_KEYED lane (hop - 1)) = true → (ringDir s lane).conf = [] → (ringDir s lane).mute = [] →
      (ringDir s lane).tried = [] → 1 ≤ s.get (RING_ENUMSTAT_FOUND lane) →
      DoesWithin (.nodeConfigured lane hop true ms msgs) s [0x02, 0x09, 0x51, 0x58, 0x59, 0x5A, 0x5B, 0x5C, 0x5D, 0x5E, 0x5F]
      [.link, .intc, .cells, .ring] fun t => (ringDir t lane).conf = [hop] ∧ (ringDir t lane).step = 4 ∧ t.regs = s.regs ∧
      t.out = msgs.map fun m => .mgmt lane m (mgmtBlocks s lane (s.get (RING_HOP2_CELL lane (hop - 1))) (keyOf s (s.get (RING_HOP2_CELL lane (hop - 1))) (lane % 2)) m)) ∧
    (∀ (lane : Nat) (ms : Nat) (msgs : List Mgmt), lane < 6 → lane < s.ring.length → (ringDir s lane).step = 4 → wardenRuns s = true →
      s.flag (RING_HOP2_KEYED lane 0) = true → (ringDir s lane).conf = [] → (ringDir s lane).mute = [] → (ringDir s lane).tried = [1] →
      s.get (RING_ENUMSTAT_FOUND lane) = 1 → ms < 65536 →
      DoesWithin (.nodeConfigured lane 1 true ms msgs) s [0x02, 0x09, 0x51, 0x58, 0x59, 0x5A, 0x5B, 0x5C, 0x5D, 0x5E, 0x5F]
      [.link, .intc, .cells, .ring] fun t => (ringDir t lane).step = 6 ∧ t.get (RING_ENUMSTAT_RESULT lane) = 1 ∧
      t.get (RING_ENUMSTAT_MS lane) = ms ∧ t.get (RING_STAT_KEYED lane) = 1) ∧
    (∀ (lane : Nat) (ms : Nat) (msgs : List Mgmt), lane < 6 → lane < s.ring.length → (ringDir s lane).step = 4 → wardenRuns s = true →
      s.flag (RING_HOP2_KEYED lane 0) = true → (ringDir s lane).conf = [] → (ringDir s lane).mute = [] → (ringDir s lane).tried = [1] →
      s.get (RING_ENUMSTAT_FOUND lane) = 1 → ms < 65536 →
      DoesWithin (.nodeConfigured lane 1 false ms msgs) s [0x02, 0x09, 0x51, 0x58, 0x59, 0x5A, 0x5B, 0x5C, 0x5D, 0x5E, 0x5F]
      [.link, .intc, .cells, .ring] fun t => (ringDir t lane).step = 6 ∧ (ringDir t lane).mute = [1] ∧ (ringDir t lane).conf = []) ∧
    (∀ (lane : Nat) (b : CollectBurst), lane < 6 → blockLate lane b s = false → lane < s.ring.length → (ringDir s lane).step = 6 → b.endOk = true →
      wardenRuns s = true →
      DoesWithin (.collectBurstReturn lane b) s [0x02, 0x09, 0x41, 0x51, 0x58, 0x59, 0x5A, 0x5B, 0x5C, 0x5D, 0x5E, 0x5F, 0x100]
      [.link, .intc, .weave, .cells, .ring, .twin, .edge] fun t => t.get (RING_STAT_STATE lane) = 3 ∧ (ringDir t lane).step = 0 ∧
      t.get (RING_STAT_RXOK lane) = 1) ∧
    (∀ (cell : Nat) (carried : Nat) (keys : List (List Byte)) (msgs : List Mgmt) (i : Nat), cell < 192 → i < 64 → wardenRuns s = true →
      cellState s cell = 5 → s.flag (CELL_STATE_BYP cell) = true → i < s.get (RING_ENUMSTAT_FOUND (2 * (cell / 64))) →
      s.get (RING_HOP2_CELL (2 * (cell / 64)) i) = cell → carried < 256 → s.get (RING_ENUMSTAT_FOUND (2 * (cell / 64))) ≤ 64 →
      s.get (RING_ENUMSTAT_FOUND (2 * (cell / 64) + 1)) ≤ 64 →
      DoesWithin (.zc12Update cell carried keys msgs) s [0x58, 0x59, 0x5A, 0x5B, 0x5C, 0x5D, 0x5E, 0x5F] [.cells, .ring] fun t =>
      t.get (RING_HOP3_FWV (2 * (cell / 64)) i) = carried ∧ t.get (RING_HOP2_KEYED (2 * (cell / 64)) i) = 1 ∧ (cell < s.cells.length →
      (cellSt s cell).keys.length = 2 → keyOf t cell 0 = keys.getD 0 []))

/-- The twin link locks, shakes hands, copies, compares records, and loses its partner (R66, R67, R174, R241, R276, R277, R278, R526). Where
it goes beyond the rules it states choices of the model: log entries 1, 15, 126, 129, 136, 153, 158. -/
def Obligations.TwinLink : Prop :=
    ∀ s : State, s.Inv →
    (∀ (lane : Nat), (lane = 6 ∨ lane = 7) → s.get (RING_TWSTAT_STATE 6) = 1 →
      DoesWithin (.twinLaneLock lane) s [0x02, 0x09, 0x51, 0x58, 0x59, 0x5A, 0x5B, 0x5C, 0x5D, 0x5E, 0x5F] [.link, .intc, .twin] fun t =>
      t.get (RING_STAT_LOCK lane) = 1 ∧ t.get (RING_STAT_STATE lane) = 3 ∧ t.get (RING_TWSTAT_STATE 6) = 2 ∧ t.get (RING_TWSTAT_STATE 7) = 2) ∧
    (∀ (peer : TwinPeer), s.get (RING_TWSTAT_STATE 6) = 2 → ownTwinHash s = some peer.hash → peer.unit ≠ unitNo s → peer.unit < 2 →
      s.flag WEAVE_STAT_RUN = false → peer.running = false → unitNo s = 1 → Does (.twinHandshakeDone peer) s fun t =>
      t.get (RING_TWSTAT_STATE 6) = 5 ∧ t.get (RING_TWSTAT_PUNIT 6) = peer.unit ∧ t.twin.key = peer.key ∧ t.warp.acc = peer.warp.acc ∧
      t.get WARP_INC_INC = peer.warp.inc % 2 ^ 32) ∧
    (∀ (peer : TwinPeer), s.get (RING_TWSTAT_STATE 6) = 2 → ownTwinHash s = some peer.hash → peer.unit ≠ unitNo s → s.flag WEAVE_STAT_RUN = false →
      peer.running = true → peer.accept = true → Does (.twinHandshakeDone peer) s fun t => t.get (RING_TWSTAT_STATE 6) = 3 ∧ t.twin.joiner = true ∧
      t.warp = s.warp) ∧
    (∀ (cp : TwinCopy), s.get (RING_TWSTAT_STATE 6) = 3 → s.twin.joiner = true →
      DoesWithin (.twinCopyVerified true cp) s [0x02, 0x09, 0x40, 0x41, 0x44, 0x45, 0x46, 0x47, 0x48, 0x49, 0x4A, 0x4B, 0x4C, 0x4D, 0x4E, 0x4F, 0x50, 0x51, 0x58, 0x59, 0x5A, 0x5B, 0x5C, 0x5D, 0x5E, 0x5F, 0x60, 0x68, 0x69, 0x6A, 0x6B, 0x6C, 0x6D, 0x6E, 0x6F]
      [.pwr, .link, .intc, .warp, .weave, .loom, .clu, .warden, .cells, .twin, .edge] fun t => t.get (RING_TWSTAT_STATE 6) = 4 ∧
      t.get (RING_TWSTAT_XFER 6) = 100 ∧ t.weave.shared = cp.shared ∧ t.weave.params = cp.params ∧ t.warp.acc = cp.warp.acc ∧
      t.twin.lastEnd = some (absPick t)) ∧
    (∀ (cp : TwinCopy), s.get (RING_TWSTAT_STATE 6) = 3 →
      DoesWithin (.twinCopyVerified false cp) s [0x02, 0x09, 0x40, 0x41, 0x44, 0x45, 0x46, 0x47, 0x48, 0x49, 0x4A, 0x4B, 0x4C, 0x4D, 0x4E, 0x4F, 0x50, 0x51, 0x58, 0x59, 0x5A, 0x5B, 0x5C, 0x5D, 0x5E, 0x5F, 0x60, 0x68, 0x69, 0x6A, 0x6B, 0x6C, 0x6D, 0x6E, 0x6F]
      [.pwr, .link, .intc, .warp, .weave, .loom, .clu, .warden, .cells, .twin, .edge] fun t => t.get (RING_TWSTAT_STATE 6) = 6 ∧ t.weave = s.weave ∧
      t.warp = s.warp) ∧
    (s.get (RING_TWSTAT_STATE 6) = 4 → pickOf s = 0 → s.twin.since + 1024 ≤ absPick s → s.permit.yielded = false →
      DoesWithin (.twinProbationEnd) s [0x02, 0x09, 0x41, 0x51, 0x58, 0x59, 0x5A, 0x5B, 0x5C, 0x5D, 0x5E, 0x5F] [.link, .permit, .intc, .twin]
      fun t => t.get (RING_TWSTAT_STATE 6) = 5 ∧ t.twin.joiner = s.twin.joiner ∧ t.twin.yieldAt = none) ∧
    (∀ (b : TwinBurst), s.get (RING_TWSTAT_STATE 6) = 5 → b.ok0 = true → b.ok1 = true → b.yield = false → b.ownChg = [] → b.cancelled = [] →
      b.pick + 1 = absPick s → recsCrc s.twin.prev = b.crc →
      DoesWithin (.twinBurst b) s [0x02, 0x09, 0x41, 0x51, 0x58, 0x59, 0x5A, 0x5B, 0x5C, 0x5D, 0x5E, 0x5F] [.link, .intc, .weave, .cells, .twin]
      fun t => t.get (RING_TWSTAT_DIGOK 6) = 1 ∧ t.get (RING_STAT_RXOK 6) = 1 ∧ t.get (RING_STAT_RXOK 7) = 1 ∧ t.twin.lastEnd = some b.pick ∧
      t.weave.partnerArm = b.armed ∧ t.get (RING_TWSTAT_STATE 6) = 5) ∧
    (∀ (b : TwinBurst) (x : Switch) (i : Image), s.get (RING_TWSTAT_STATE 6) = 5 → b.ok0 = true → b.yield = false → b.ownChg = [] →
      b.cancelled = [(i.twinHash, x.cycle)] → b.pick + 1 = absPick s → recsCrc s.twin.prev = b.crc → s.weave.due = none → s.weave.armed = some x →
      (s.weave.banks.getD x.bank Bank.empty).img = some i → x.since ≤ b.pick → b.pick < (x.cycle - 1) * 4096 + 4095 →
      DoesWithin (.twinBurst b) s [0x02, 0x09, 0x41, 0x51, 0x58, 0x59, 0x5A, 0x5B, 0x5C, 0x5D, 0x5E, 0x5F] [.link, .intc, .weave, .cells, .twin]
      fun t => t.weave.armed = none ∧ t.get WEAVE_SWSTAT_STATE = 5 ∧ t.get WEAVE_STAT_SWPEND = 0) ∧
    (∀ (b : TwinBurst), s.get (RING_TWSTAT_STATE 6) = 5 → b.ok0 = true → b.pick + 1 = absPick s → recsCrc s.twin.prev ≠ b.crc →
      s.flag WEAVE_STAT_RUN = true → s.flag WEAVE_STAT_FB = false → s.weave.fbPend = none → s.weave.fbWhileLoading = none →
      DoesWithin (.twinBurst b) s [0x02, 0x09, 0x41, 0x51, 0x58, 0x59, 0x5A, 0x5B, 0x5C, 0x5D, 0x5E, 0x5F] [.link, .intc, .weave, .cells, .twin]
      fun t => t.get (RING_TWSTAT_STATE 6) = 7 ∧ t.get (RING_TWSTAT_DIGOK 6) = 0 ∧ t.weave.fbPend = some 8) ∧
    ((s.get (RING_TWSTAT_STATE 6) = 3 ∨ s.get (RING_TWSTAT_STATE 6) = 4) → s.twin.lastEnd = none →
      DoesWithin (.partnerLost) s [0x02, 0x09, 0x41, 0x51, 0x58, 0x59, 0x5A, 0x5B, 0x5C, 0x5D, 0x5E, 0x5F] [.link, .intc, .weave, .cells, .twin]
      fun t => t.get (RING_TWSTAT_STATE 6) = 6 ∧ t.weave = s.weave) ∧
    (s.get (RING_TWSTAT_STATE 6) = 5 → s.twin.lastEnd = none → s.twin.since + 1 < absPick s →
      (List.range 4).all (fun c => 2 ≤ (voters s c).length) = true →
      DoesWithin (.partnerLost) s [0x02, 0x09, 0x41, 0x51, 0x58, 0x59, 0x5A, 0x5B, 0x5C, 0x5D, 0x5E, 0x5F] [.link, .intc, .weave, .cells, .twin]
      fun t => t.get (RING_TWSTAT_STATE 6) = 6 ∧ t.weave = s.weave ∧ (∀ g, g < 192 → g < s.cells.length → populated s g = true →
      (cellSt t g).ownNext = some (if terminates s (2 * (g / 64)) then 0 else 1, 1))) ∧
    ((s.get (pglock 0x5E)).testBit 1 = false → s.get (RING_TWSTAT_STATE 6) = 1 → s.flag SHUTTLE_F_STAT_SHUT = false → s.flag (RING_STAT_LOCK 6) = true →
      DoesWithin (.join) s [0x02, 0x04, 0x09, 0x51, 0x58, 0x59, 0x5A, 0x5B, 0x5C, 0x5D, 0x5E, 0x5F] [.link, .intc, .jr, .twin] fun t =>
      t.get (RING_TWSTAT_STATE 6) = 2 ∧ t.twin.joiner = true ∧ t.get (RING_TWCTL_ACCEPT 6) = s.get (RING_TWCTL_ACCEPT 6))

/-- The end of frequency-watt, the energy loop, the balance between phases, and the publication of the learning tables (R316, R320, R321,
R327, R328, R329, R330, R418). Where it goes beyond the rules it states choices of the model: log entries 4, 68, 82, 85, 88, 90, 96, 164. -/
def Obligations.ReferencesAndEnergy : Prop :=
    ∀ s : State, s.Inv →
    (s.cur.fwPre.isSome = true → 1 ≤ s.cur.fwIn → DoesWithin (.fwEnd) s [0x02, 0x09, 0x51, 0x74] [.link, .intc, .cur] fun t =>
      t.get CURCTL_STAT_FWACT = 0 ∧ t.cur.fwPre = none ∧ t.cur.fwIn = 0) ∧
    (s.flag WEAVE_STAT_RUN = true → pickOf s % 16 = 0 → DoesWithin (.energyLoopStep) s [0x02, 0x09, 0x51, 0x74, 0x75] [.link, .intc, .cur, .ride]
      fun t => t.cur.t16 = 0 ∧ t.get BALANCE_STAT_EFRZ = bit (srcNow s == 2) ∧ (srcNow s = 2 → t.cur.eSum = s.cur.eSum) ∧ (srcNow s = 5 →
      t.cur.eSum = 0) ∧ (s.flag GRIDFN_STAT_RT = false → t.cur.steps = 1) ∧ (s.flag GRIDFN_STAT_RT = true → t.cur.idNew = s.cur.idNew)) ∧
    (s.flag WEAVE_STAT_RUN = true → s.flag WEAVE_STAT_FB = false → pickOf s % 64 = 0 → DoesWithin (.balanceStep) s [0x02, 0x09, 0x51, 0x75]
      [.link, .intc, .cur] fun t => t.cur.v0 ≤ (s.get BALANCE_ZSEQ_V0MAX : Nat) / 200 * peakBase s ∧
      t.get BALANCE_STAT_LOWI = bit (decide (cabs (iPos (refsNow s)) < (s.get BALANCE_ZSEQ_IZMIN : Nat) / 100 * iLim s)) ∧
      t.get BALANCE_STAT_ZSACT = bit (t.cur.v0 != 0) ∧ t.cur.idr = s.cur.idr ∧ t.cur.iqr = s.cur.iqr) ∧
    (s.flag WEAVE_STAT_RUN = true → s.get FTHERM_STAT_LEVEL < 2 → s.get CURCTL_LTCTL_LTPER ≤ s.cur.cycles → s.cur.tabNext.length = 3 →
      s.flag CURCTL_LTCTL_FREEZE = false → s.flag CURCTL_LTCTL_CLEAR = true → s.cur.spoilt = [false, true, false] →
      DoesWithin (.learnPublish) s [0x02, 0x09, 0x51, 0x74] [.link, .intc, .cur] fun t => t.cur.cycles = 0 ∧ t.cur.spoilt = [false, false, false] ∧
      t.cur.tabNext.getD 0 none = some [] ∧ t.cur.tabNext.getD 1 none = s.cur.tabNext.getD 1 none ∧ t.cur.tabNext.getD 2 none = some []) ∧
    (s.flag WEAVE_STAT_RUN = true → s.get FTHERM_STAT_LEVEL < 2 → s.get CURCTL_LTCTL_LTPER ≤ s.cur.cycles → s.cur.tabNext.length = 3 →
      s.flag CURCTL_LTCTL_FREEZE = false → s.flag CURCTL_LTCTL_CLEAR = false → s.cur.spoilt = [true, true, false] →
      DoesWithin (.learnPublish) s [0x02, 0x09, 0x51, 0x74] [.link, .intc, .cur] fun t => t.cur.tabNext.getD 2 none = some (learnTable s 2) ∧
      t.cur.tabNext.getD 0 none = s.cur.tabNext.getD 0 none ∧
      t.get (CURCTL_LTSTAT_PUBS 2) = (s.get (CURCTL_LTSTAT_PUBS 2) + 1) % 2 ^ (CURCTL_LTSTAT_PUBS 2).wd ∧ t.cur.cycles = 0) ∧
    (2 ≤ s.get FTHERM_STAT_LEVEL → Does (.learnPublish) s fun t => t = s.silent)

/-- The banks' update slots, the 16-pick check, and the release of curtailment; Passes and bank scans start, advance, are aborted and end
(R341, R342, R344, R346, R348, R349, R350, R351, R352). Where it goes beyond the rules it states choices of the model: log entries 4, 85,
98, 99. -/
def Obligations.TrackersAndScans : Prop :=
    ∀ s : State, s.Inv →
    (s.flag WEAVE_STAT_RUN = true → s.mppt.on = true → s.mppt.bank < 24 → (s.mppt.bank : Rat) * s.mppt.tupd / 24 ≤ s.mppt.t →
      DoesWithin (.trackerUpdate) s [0x02, 0x09, 0x51, 0x76] [.link, .intc, .mppt] fun t => t.mppt.bank = s.mppt.bank + 1 ∧ t.mppt.t = s.mppt.t ∧
      t.mppt.tupd = s.mppt.tupd ∧ (∀ g, g ∈ bankPv s s.mppt.bank → g < s.mppt.cells.length → trkState s g = 1 → rests s g = false →
      (trk t g).full = true)) ∧
    ((24 ≤ s.mppt.bank ∨ s.mppt.t < (s.mppt.bank : Rat) * s.mppt.tupd / 24) → Does (.trackerUpdate) s fun t => t = s.silent) ∧
    (s.flag WEAVE_STAT_RUN = true → s.flag WEAVE_STAT_FB = false → pickOf s % 16 = 0 → DoesWithin (.sixteenPickCheck) s [0x02, 0x09, 0x51, 0x76, 0x77]
      [.link, .intc, .mppt] fun t => (∀ g, g ∈ pvCells s → g < s.mppt.cells.length → (trk t g).p16 = 0 ∧ (trk t g).n16 = 0)) ∧
    (∀ (g : Nat) (x : Rat), g < 192 → g < s.mppt.cells.length → trkState s g = 3 → rests s g = false → (trk s g).rel = some x →
      (s.get MPPT_CURT_RELT : Nat) / 10 ≤ x → DoesWithin (.curtailRelease g) s [0x02, 0x09, 0x51, 0x76] [.link, .intc, .mppt] fun t =>
      trkState t g = 2 ∧ (trk t g).rel = none ∧ (trk t g).acted = some (absPick s) ∧ (trk t g).opened = false) ∧
    (s.flag MPPT_CTL_SCANEN = true → s.flag WEAVE_STAT_RUN = true → connected s = true →
      (s.mppt.passT = none ∨ s.mppt.passT = some (60 * (s.get MPPT_SCAN_PER : Nat))) → s.flag MPPT_SCANSTAT_RUN = false →
      DoesWithin (.scanPass) s [0x76] [.mppt] fun t => t.mppt.passT = some 0 ∧ t.get MPPT_SCANSTAT_RUN = 1 ∧ t.mppt.queue = List.range 24 ∧
      t.mppt.again = [] ∧ t.mppt.second = false ∧ t.mppt.phase = none) ∧
    (s.flag MPPT_CTL_SCANEN = true → s.flag WEAVE_STAT_RUN = true → connected s = true → s.mppt.passT = some (60 * (s.get MPPT_SCAN_PER : Nat)) →
      s.flag MPPT_SCANSTAT_RUN = true → Does (.scanPass) s fun t => t = { s.silent with mppt.passT := some 0 }.count MPPT_SCANSTAT_LATE) ∧
    (∀ (x : Rat), s.mppt.passT = some x → x < 60 * (s.get MPPT_SCAN_PER : Nat) → Does (.scanPass) s fun t => t = s.silent) ∧
    (s.flag MPPT_SCANSTAT_RUN = false → DoesWithin (.scanGo) s [0x02, 0x04, 0x09, 0x51, 0x76] [.link, .intc, .jr, .mppt] fun t =>
      t.get MPPT_SCANSTAT_RUN = 1 ∧ t.mppt.queue = List.range 24 ∧ t.mppt.second = false) ∧
    (s.mppt.phase.isSome = true → DoesWithin (.scanAbort) s [0x02, 0x04, 0x09, 0x51, 0x76] [.link, .intc, .jr, .mppt] fun t =>
      t.get MPPT_SCANSTAT_RUN = 0 ∧ t.mppt.phase = none ∧ t.mppt.queue = [] ∧
      t.get MPPT_SCANABORT_COUNT = min (s.get MPPT_SCANABORT_COUNT + 1) (2 ^ MPPT_SCANABORT_COUNT.wd - 1) ∧ (∀ g, g < 192 →
      g < s.mppt.cells.length → (trk t g).scan = none)) ∧
    (∀ (b : Nat), b < 24 → s.flag MPPT_SCANSTAT_RUN = true → s.mppt.phase = none → 1 ≤ s.mppt.tPhase → s.mppt.queue = [b] →
      s.flag MPPT_CTL_HIDE = false → (bankPv s b).any (admits s) = true → DoesWithin (.bankScanStart) s [0x02, 0x09, 0x51, 0x76]
      [.link, .intc, .mppt] fun t => t.mppt.phase = some 0 ∧ t.get MPPT_SCANSTAT_BANK = b ∧ t.mppt.queue = [] ∧ (∀ g, g ∈ bankPv s b →
      admits s g = true → trkState t g = 4)) ∧
    (∀ (k : Nat), s.mppt.phase = some k → k < 65 → (if k = 0 then 1 / 5 else dwell s) ≤ s.mppt.tPhase → DoesWithin (.scanPoint) s [] [.mppt] fun t =>
      t.mppt.phase = some (k + 1) ∧ t.mppt.tPhase = s.mppt.tPhase - (if k = 0 then 1 / 5 else dwell s) ∧ t.regs = s.regs) ∧
    (s.mppt.phase = some 65 → 1 / 5 ≤ s.mppt.tPhase → DoesWithin (.bankScanEnd) s [0x02, 0x09, 0x51, 0x76] [.link, .intc, .mppt] fun t =>
      t.mppt.phase = none ∧ t.mppt.tPhase = 0 ∧ (∀ g, g ∈ sweeping s → g < s.mppt.cells.length → (trk t g).scan = none ∧ trkState t g = 2))

/-- A ride-through event ends, trip points trip, trip curves are committed or refused; The connection states advance by their timers and
conditions (R362, R367, R368, R369, R370, R380, R381, R409). Where it goes beyond the rules it states choices of the model: log entries
16, 71, 73, 74, 76, 167. -/
def Obligations.TripsAndConnection : Prop :=
    ∀ s : State, s.Inv →
    (s.flag GRIDFN_STAT_RT = true → (s.get GRIDFN_RTTIME_TEND : Nat) / 1000 ≤ s.ride.calm → 8192 ≤ s.ride.jump →
      DoesWithin (.rtEventEnd) s [0x02, 0x09, 0x51, 0x78] [.link, .intc, .warp, .ride, .isl] fun t => t.get GRIDFN_STAT_RT = 0 ∧
      t.get GRIDFN_STAT_KV = 0 ∧ t.get GRIDFN_STAT_KJ = 0 ∧ t.ride.kappa = 1 ∧ t.ride.rise = some s.cur.idr ∧ t.warp.fBefore = none) ∧
    (∀ (k : Nat) (r : List Nat), connected s = true → duePoints s = k :: r → s.permit.yielded = false →
      DoesWithin (.tripTimer) s [0x02, 0x09, 0x51, 0x71, 0x78, 0x79] [.pwr, .link, .intc, .warp, .ride, .isl, .meter] fun t =>
      t.get GRIDFN_TRIP_CAUSE = k / 16 + 1 ∧ t.get GRIDFN_TRIP_POINT = k % 16 ∧ cstate t = 0 ∧ t.pwr.gridOpen = some true ∧
      t.ride.timers = List.replicate 64 0 ∧ t.meter.due = true) ∧
    (((List.range 4).all (curveOk s)) = true → DoesWithin (.curvctlCommit) s [0x02, 0x04, 0x09, 0x51, 0x78] [.link, .intc, .jr, .ride] fun t =>
      (∀ k, k < 64 → t.raw (GRIDFN_CURV_LEVEL k).addr = s.raw (GRIDFN_CURVS_LEVEL k).addr) ∧
      t.raw GRIDFN_CURVN_UVN.addr = s.raw GRIDFN_CURVSN_UVN.addr ∧ t.ride.timers = List.replicate 64 0) ∧
    (((List.range 4).all (curveOk s)) = false → DoesWithin (.curvctlCommit) s [0x02, 0x04, 0x09, 0x51, 0x78] [.link, .intc, .jr, .ride] fun t =>
      (∀ k, k < 64 → t.raw (GRIDFN_CURV_LEVEL k).addr = s.raw (GRIDFN_CURV_LEVEL k).addr) ∧ t.ride = s.ride ∧ t.get (pgerrCause 0x78) = 3 ∧
      t.get (pgerrValid 0x78) = 1) ∧
    (cstate s = 1 → (s.get GRIDFN_CONNT_TWAIT : Nat) ≤ s.ride.wait → DoesWithin (.waitTimer) s [0x02, 0x09, 0x51, 0x71, 0x78, 0x79]
      [.link, .intc, .warp, .ride, .isl, .meter] fun t => cstate t = 2 ∧ t.ride.inState = 0 ∧ t.ride.hold = 0 ∧ t.pwr = s.pwr) ∧
    (cstate s = 2 → 4096 ≤ s.ride.hold → maySync s = true → DoesWithin (.syncHold) s [0x02, 0x09, 0x51, 0x71, 0x78, 0x79]
      [.pwr, .link, .intc, .warp, .ride, .isl, .meter] fun t => cstate t = 3 ∧ t.pwr.gridOpen = some false ∧ t.ride.inState = 0) ∧
    (maySync s = false → Does (.syncHold) s fun t => t = s.silent) ∧
    (cstate s = 2 → 10 ≤ s.ride.inState → DoesWithin (.syncTimeout) s [0x02, 0x09, 0x51, 0x71, 0x78, 0x79] [.link, .intc, .warp, .ride, .isl, .meter]
      fun t => cstate t = 0 ∧ t.pwr = s.pwr ∧ t.meter.due = true ∧ t.get METER_STAT_CHK = 0) ∧
    (cstate s = 3 → (s.get GRIDFN_CONNT_TBRK : Nat) / 500 ≤ s.ride.inState → DoesWithin (.breakerTime) s [0x02, 0x09, 0x51, 0x71, 0x78, 0x79]
      [.link, .intc, .warp, .ride, .isl, .meter] fun t => cstate t = 4 ∧ t.ride.r = 0 ∧ t.ride.inState = 0) ∧
    (cstate s = 4 → 1 ≤ s.ride.r → DoesWithin (.rampComplete) s [0x02, 0x09, 0x51, 0x71, 0x78, 0x79] [.link, .intc, .warp, .ride, .isl, .meter] fun t =>
      cstate t = 5 ∧ t.ride.r = s.ride.r ∧ t.pwr = s.pwr)

/-- Suspension intervals, the windows of the active detector, and the passive decision (R374, R376, R377). Where it goes beyond the rules it
states choices of the model: log entries 4, 83, 84, 85, 87. -/
def Obligations.IslandingDetection : Prop :=
    ∀ s : State, s.Inv →
    (∀ (x : Rat), s.isl.susp = some x → suspended s = true → (s.get GRIDFN_RTTIME_TMAX : Nat) / 100 ≤ x →
      DoesWithin (.suspensionTmax) s [0x02, 0x09, 0x51, 0x79] [.link, .intc] fun t => t.get ISLAND_STAT_TMAXD = 1 ∧ suspended t = false ∧
      t.isl = s.isl) ∧
    (s.flag ISLAND_STAT_SUSP = true → s.flag GRIDFN_STAT_RT = false → (s.get GRIDFN_RTTIME_TREC : Nat) / 100 ≤ s.isl.quiet →
      DoesWithin (.suspensionEnd) s [0x02, 0x09, 0x51, 0x79] [.link, .intc, .isl] fun t => t.get ISLAND_STAT_SUSP = 0 ∧
      t.get ISLAND_STAT_TMAXD = 0 ∧ t.isl.susp = none ∧ t.isl.chips = [] ∧ t.isl.exceed = 0) ∧
    (s.isl.ended = true → s.flag ISLAND_STAT_ARUN = true → s.get ISLAND_CTL_W < s.isl.chips.length →
      ((s.isl.chips.take (s.get ISLAND_CTL_W)).all (·.fresh)) = true → ((s.isl.chips.take (s.get ISLAND_CTL_W)).all (·.sign == 1)) = true →
      DoesWithin (.chipEnd) s [0x02, 0x09, 0x51, 0x71, 0x78, 0x79] [.pwr, .link, .intc, .warp, .ride, .isl, .meter] fun t =>
      t.get ISLAND_EVAL_SKIP = min (s.get ISLAND_EVAL_SKIP + 1) (2 ^ ISLAND_EVAL_SKIP.wd - 1) ∧ t.isl = { s.isl with ended := false }) ∧
    (s.isl.ended = true → s.flag ISLAND_STAT_ARUN = true → s.get ISLAND_CTL_W < s.isl.chips.length →
      ((s.isl.chips.take (s.get ISLAND_CTL_W)).all (·.fresh)) = true → ((s.isl.chips.take (s.get ISLAND_CTL_W)).all (·.sign == 1)) = false →
      ((s.isl.chips.take (s.get ISLAND_CTL_W)).all (·.sign == -1)) = false → DoesWithin (.chipEnd) s [0x02, 0x09, 0x51, 0x71, 0x78, 0x79]
      [.pwr, .link, .intc, .warp, .ride, .isl, .meter] fun t => t.get ISLAND_EVAL_DONE = (s.get ISLAND_EVAL_DONE + 1) % 2 ^ ISLAND_EVAL_DONE.wd ∧
      t.isl.ended = false ∧ t.isl.exceed ≤ s.isl.exceed + 1) ∧
    (s.get ISLAND_CTL_PMODE = 2 → (s.get ISLAND_PTHR_PCONF : Nat) / 100 ≤ s.isl.both → connected s = true → suspended s = false →
      s.permit.yielded = false → DoesWithin (.passiveConfirm) s [0x02, 0x09, 0x51, 0x71, 0x78, 0x79]
      [.pwr, .link, .intc, .warp, .ride, .isl, .meter] fun t => t.get ISLAND_DEC_REASON = 3 ∧ t.get GRIDFN_TRIP_CAUSE = 5 ∧ cstate t = 0 ∧
      t.pwr.gridOpen = some true ∧ t.isl.both = 0)

/-- A cycle's set is written and joins the longer windows; energy words latch; the half-cycle refresh; Pre-connection checks start, pass, fail
and are retried; S0 pulses are counted or rejected (R401, R402, R404, R405, R407, R409, R410). Where it goes beyond the rules it states
choices of the model: log entries 4, 69, 70, 75, 85. -/
def Obligations.MeasurementAndChecks : Prop :=
    ∀ s : State, s.Inv →
    (s.meter.cyc.n = 4096 → s.meter.w10.cycles + 1 < 10 → DoesWithin (.meterWindowEnd) s [0x02, 0x09, 0x51, 0x71] [.link, .intc, .meter] fun t =>
      t.meter.cyc = MeterAcc.reset ∧ t.meter.w10.cycles = s.meter.w10.cycles + 1 ∧ t.get (METER_SETW_W 27) = (swarp s - 4#32).toNat ∧
      t.meter.w150 = s.meter.w150) ∧
    (∀ (agent : Nat) (k : Nat), k < 8 → DoesWithin (.meterELoRead agent k) s [0x71] [.host] fun t => t.out = [.read [s.raw (METER_E_E (2 * k)).addr]] ∧
      t.host.shadows.lookup (agent, (METER_E_E (2 * k)).addr) = some [s.raw ((METER_E_E (2 * k)).addr + 4)] ∧ t.regs = s.regs) ∧
    (2048 ≤ s.meter.halfN → DoesWithin (.pqRefresh) s [0x02, 0x09, 0x51, 0x72] [.link, .intc, .meter] fun t => t.meter.prev = s.meter.half ∧
      t.meter.half = [0, 0, 0] ∧ t.meter.halfN = 0 ∧ t.meter.halfLc = 0 ∧ t.meter.cyc = s.meter.cyc) ∧
    (s.meter.due = true → checkMay s = true → DoesWithin (.checkStart) s [0x71] [.meter] fun t => t.get METER_STAT_CHKRUN = 1 ∧
      t.get METER_STAT_CHK = 0 ∧ t.meter.due = false ∧ t.meter.chkN = 0) ∧
    (checkMay s = true → DoesWithin (.chkctlGo) s [0x02, 0x04, 0x09, 0x51, 0x71] [.link, .intc, .jr, .meter] fun t => t.get METER_STAT_CHKRUN = 1 ∧
      t.get METER_STAT_CHK = 0 ∧ t.meter.chkN = 0) ∧
    (s.flag METER_STAT_CHKRUN = true → 57344 ≤ s.meter.chkN → DoesWithin (.checkDone) s [0x02, 0x09, 0x51, 0x71] [.link, .intc] fun t =>
      t.get METER_STAT_CHKRUN = 0 ∧ t.get METER_STAT_CHK = bit (checkCause s == 0) ∧ (checkCause s ≠ 0 →
      t.get METER_STAT_CAUSE = checkCause s % 2 ^ METER_STAT_CAUSE.wd)) ∧
    (s.meter.due = true → s.flag WARP_STAT_VALID = false → DoesWithin (.checkInvalidTimeout) s [0x02, 0x09, 0x51, 0x71] [.link, .intc, .meter] fun t =>
      t.get METER_STAT_CHK = 0 ∧ t.get METER_STAT_CAUSE = 1 ∧ t.get METER_STAT_CHKRUN = 0 ∧ t.meter.due = false) ∧
    (s.flag METER_STAT_CHK = false → s.get METER_STAT_CAUSE ≠ 0 → checkMay s = true → DoesWithin (.checkRetry) s [0x71] [.meter] fun t =>
      t.get METER_STAT_CHKRUN = 1 ∧ t.meter.due = false ∧ t.meter.chkN = 0) ∧
    (∀ (n : Nat) (on' : Nat) (off : Nat), n < 4 → s.flag (S0_CFG_EN n) = true → s.s0.maxed.getD n false = false → s.get (S0_CFG_MINON n) ≤ on' →
      s.get (S0_CFG_MINOFF n) ≤ off → s.flag (S0_CFG_XEN n) = false → DoesWithin (.s0Pulse n on' off) s [0x02, 0x04, 0x06, 0x09, 0x21, 0x51, 0x71]
      [.link, .intc, .jr, .s0, .sec] fun t => t.get (S0_CNTLO_COUNT n) = (s.get (S0_CNTLO_COUNT n) + 1) % 2 ^ 32 ∧
      t.get (S0_BAD_BAD n) = s.get (S0_BAD_BAD n)) ∧
    (∀ (n : Nat) (on' : Nat) (off : Nat), n < 4 → s.flag (S0_CFG_EN n) = true → s.s0.maxed.getD n false = false → on' < s.get (S0_CFG_MINON n) →
      DoesWithin (.s0Pulse n on' off) s [0x02, 0x04, 0x06, 0x09, 0x21, 0x51, 0x71] [.link, .intc, .jr, .s0, .sec] fun t =>
      t.get (S0_CNTLO_COUNT n) = s.get (S0_CNTLO_COUNT n) ∧ t.get (S0_BAD_BAD n) = min (s.get (S0_BAD_BAD n) + 1) (2 ^ (S0_BAD_BAD n).wd - 1)) ∧
    (∀ (n : Nat), n < 4 → n < s.s0.maxed.length → s.flag (S0_CFG_EN n) = true → s.s0.maxed.getD n false = false → s.flag (S0_CFG_XEN n) = false →
      DoesWithin (.s0Maxon n) s [0x02, 0x04, 0x06, 0x09, 0x21, 0x51, 0x71] [.link, .intc, .jr, .s0, .sec] fun t => t.s0.maxed.getD n false = true ∧
      t.get (S0_CNTLO_COUNT n) = (s.get (S0_CNTLO_COUNT n) + 1) % 2 ^ 32 ∧
      t.get (S0_BAD_BAD n) = min (s.get (S0_BAD_BAD n) + 1) (2 ^ (S0_BAD_BAD n).wd - 1))

/-- Conversions and readings of the temperature sensors, and their exclusion and readmission (R413, R414, R416, R417, R419). Where it goes
beyond the rules it states choices of the model: log entries 4, 32. -/
def Obligations.TemperatureSensors : Prop :=
    ∀ s : State, s.Inv →
    (∀ (sensor : Nat) (value : Int) (faulty : Bool), sensor < 15 → sensor < s.heat.conv.length → faulty = false →
      DoesWithin (.sensorConversion sensor value faulty) s [0x02, 0x04, 0x09, 0x1D, 0x51, 0x7C] [.link, .intc, .jr, .heat] fun t =>
      t.heat.conv.getD sensor [] = (value :: s.heat.conv.getD sensor []).take 4 ∧ t.regs = s.regs ∧ t.heat.has = s.heat.has) ∧
    (∀ (sensor : Nat) (value : Int) (faulty : Bool), sensor < 15 → faulty = true → s.flag (sensExcl sensor) = false →
      DoesWithin (.sensorConversion sensor value faulty) s [0x02, 0x04, 0x09, 0x1D, 0x51, 0x7C] [.link, .intc, .jr, .heat] fun t =>
      t.get (sensExcl sensor) = 1 ∧ t.get (sensCnt sensor) = min (s.get (sensCnt sensor) + 1) (2 ^ (sensCnt sensor).wd - 1) ∧
      t.heat.conv = s.heat.conv) ∧
    (∀ (fdie : Bool), fdie = true → ((List.range 9).all fun k => (s.heat.conv.getD k []).all fun x => decide (-440 ≤ x) && decide (x ≤ 1400)) = true →
      ((List.range 15).all fun k => decide ((s.heat.conv.getD k []).length ≤ 4)) = true → s.heat.has.length = 15 →
      DoesWithin (.sensorReading fdie) s [0x02, 0x03, 0x04, 0x07, 0x09, 0x14, 0x18, 0x19, 0x1A, 0x1B, 0x1D, 0x20, 0x41, 0x51, 0x58, 0x59, 0x5A, 0x5B, 0x5C, 0x5D, 0x5E, 0x5F, 0x7C]
      [.pwr, .link, .intc, .jr, .weave, .porter, .heat, .louv] fun t => (∀ k, k < 9 → 4 ≤ (s.heat.conv.getD k []).length →
      t.getI (sensT k) = lsb (((s.heat.conv.getD k []).foldl (· + ·) 0 : Int) / (4 : Rat))) ∧ (∀ k, k < 9 →
      s.flag (sensExcl k) = t.flag (sensExcl k)) ∧
      t.get FTHERM_STAT_UNKNOWN = bit (decide (((dieSensors 0).filter fun k => !t.flag (sensExcl k) && t.heat.has.getD k false).length < 3)) ∧
      t.heat.conv = s.heat.conv) ∧
    (∀ (fdie : Bool), fdie = false → ((List.range 15).all fun k => (s.heat.conv.getD k []).all fun x => decide (-440 ≤ x) && decide (x ≤ 1400)) = true →
      ((List.range 15).all fun k => decide ((s.heat.conv.getD k []).length ≤ 4)) = true → s.heat.has.length = 15 →
      DoesWithin (.sensorReading fdie) s [0x02, 0x03, 0x04, 0x07, 0x09, 0x14, 0x18, 0x19, 0x1A, 0x1B, 0x1D, 0x20, 0x41, 0x51, 0x58, 0x59, 0x5A, 0x5B, 0x5C, 0x5D, 0x5E, 0x5F, 0x7C]
      [.pwr, .link, .intc, .jr, .weave, .porter, .heat, .louv] fun t => (∀ k, 9 ≤ k → k < 15 → 4 ≤ (s.heat.conv.getD k []).length →
      t.getI (sensT k) = lsb (((s.heat.conv.getD k []).foldl (· + ·) 0 : Int) / (4 : Rat))) ∧
      t.get HTHERM_STAT_HUNK = bit (decide (((dieSensors 1).filter fun k => !t.flag (sensExcl k) && t.heat.has.getD k false).length < 2)) ∧
      t.heat.conv = s.heat.conv) ∧
    (∀ (sensor : Nat), sensor < 15 → 1001 ≤ s.heat.off.getD sensor 0 → s.flag (sensExcl sensor) = false →
      DoesWithin (.sensorExclude sensor) s [0x02, 0x04, 0x09, 0x1D, 0x51, 0x7C] [.link, .intc, .jr, .heat] fun t => t.get (sensExcl sensor) = 1 ∧
      t.heat.off.getD sensor 0 = 0 ∧ t.heat.near.getD sensor 0 = 0) ∧
    (∀ (sensor : Nat), sensor < 15 → 60000 ≤ s.heat.near.getD sensor 0 → s.flag (sensExcl sensor) = true →
      DoesWithin (.sensorReadmit sensor) s [0x02, 0x04, 0x09, 0x1D, 0x51, 0x7C] [.link, .intc, .jr, .heat] fun t => t.get (sensExcl sensor) = 0 ∧
      t.heat.near.getD sensor 0 = 0)

/-- The H-die's shutdown demand, NTC inputs, the H-die's copies of F-die temperatures, and scrub passes (R420, R424, R427, R429). Where it
goes beyond the rules it states choices of the model: log entries 11, 120. -/
def Obligations.ThermalRequestsAndCopies : Prop :=
    ∀ s : State, s.Inv →
    (∀ (value : Word), value.getLsbD 0 = true → s.flag WEAVE_STAT_RUN = true → s.flag WEAVE_STAT_FB = false → s.weave.fbPend = none →
      s.weave.fbWhileLoading = none → DoesWithin (.hreq value) s [0x41, 0x51, 0x7C] [.link, .weave] fun t => t.get FTHERM_HREQ_SHUT = 1 ∧
      t.weave.fbPend = some 6) ∧
    (∀ (value : Word), value.getLsbD 0 = false → Does (.hreq value) s fun t => t = s.silent.put FTHERM_HREQ_SHUT 0) ∧
    (∀ (n : Nat) (x : Rat), n < 4 → s.flag (HTHERM_NTCCFG_EN n) = true → 98 / 100 < x →
      DoesWithin (.ntcReading n x) s [0x02, 0x03, 0x04, 0x09, 0x14, 0x1D, 0x1F, 0x51, 0x7C] [.link, .intc, .jr, .heat, .analog] fun t =>
      t.get (HTHERM_NTCT_STATE n) = 1 ∧ t.get (HTHERM_NTCT_T n) = s.get (HTHERM_NTCT_T n) ∧ t.get (HADC_RES_CODE n) = lsbU 12 (x * 4096) % 4096 ∧
      t.heat.ntcAct = s.heat.ntcAct) ∧
    (∀ (n : Nat) (x : Rat), n < 4 → s.flag (HTHERM_NTCCFG_EN n) = true → 2 / 100 ≤ x → x ≤ 98 / 100 → s.heat.ntcAct.getD n none = none →
      s.heat.ntcAct.length = 4 → DoesWithin (.ntcReading n x) s [0x02, 0x03, 0x04, 0x09, 0x14, 0x1D, 0x1F, 0x51, 0x7C]
      [.link, .intc, .jr, .heat, .analog] fun t => t.get (HTHERM_NTCT_STATE n) = 0 ∧
      t.get (HTHERM_NTCT_T n) = ofSigned (HTHERM_NTCT_T n).wd (ntcTemp n x s) ∧
      t.heat.ntcAct.getD n none = if 8 * (s.get (HTHERM_NTCCFG_TLIM n) : Int) ≤ ntcTemp n x s then some (s.get (HTHERM_NTCCFG_ACT n)) else none) ∧
    (reachable s 0x07C = true → DoesWithin (.fthermCopy) s [0x02, 0x04, 0x06, 0x09, 0x1D, 0x21, 0x51, 0x7C] [.link, .intc, .jr, .s0, .heat, .sec]
      fun t => t.link.reads.length = s.link.reads.length + 4 ∧ t.link.hf.queue.length = s.link.hf.queue.length + 4 ∧ t.heat.frames = 0 ∧
      t.get HTHERM_FCOPY_AGE = min (s.get HTHERM_FCOPY_AGE + 1) (2 ^ HTHERM_FCOPY_AGE.wd - 1)) ∧
    (DoesWithin (.fthermStale) s [0x02, 0x09, 0x1D, 0x51] [.link, .intc] fun t => t.get HTHERM_STAT_FSTALE = 1 ∧ t.heat = s.heat ∧
      (s.flag HTHERM_STAT_FSTALE = true → t = s.silent)) ∧
    (∀ (errs : List (Nat × Nat × Nat × Bool)), errs = [] →
      DoesWithin (.scrubPass errs) s [0x02, 0x09, 0x41, 0x44, 0x45, 0x46, 0x47, 0x48, 0x49, 0x4A, 0x4B, 0x4C, 0x4D, 0x4E, 0x4F, 0x50, 0x51, 0x58, 0x59, 0x5A, 0x5B, 0x5C, 0x5D, 0x5E, 0x5F, 0x7C]
      [.pwr, .link, .intc, .weave, .loom, .clu, .heat] fun t => t.heat.scrubLeft = List.replicate 4 39936 ∧
      t.get FTHERM_SCRUB_LATE = min (s.get FTHERM_SCRUB_LATE + bit (s.heat.scrubLeft.any (0 < ·))) (2 ^ FTHERM_SCRUB_LATE.wd - 1) ∧ t.loom = s.loom)

/-- Touch scans, stuck keys, button samples, and open LEDs (R439, R440, R443, R445, R446). Where it goes beyond the rules it states choices of
the model: log entry 26. -/
def Obligations.PanelKeysButtonsAndLeds : Prop :=
    ∀ s : State, s.Inv →
    (∀ (raws : List Nat), s.flag PANEL_TOUCH_CFG_EN = true → ((List.range 12).all fun k => decide (raws.getD k 0 < 65536)) = true →
      ((List.range 12).all fun k => !s.panel.hasBase.getD k false) = true → s.panel.hasBase.length = 12 → s.panel.raws.length = 12 →
      DoesWithin (.touchScan raws) s [0x02, 0x04, 0x09, 0x10, 0x51] [.link, .intc, .jr, .panel] fun t => t.panel.scans = s.panel.scans + 1 ∧
      (∀ k, k < 12 → s.flag (PANEL_TOUCH_KCFG_KEN k) = true → t.get (PANEL_TOUCH_KDAT_RAW k) = raws.getD k 0) ∧ t.get PANEL_TOUCH_STAT_SUPP = 0 ∧
      (∀ k, k < 12 → s.flag (PANEL_TOUCH_KCFG_KEN k) = true → 7 ≤ (s.panel.raws.getD k []).length → t.panel.hasBase.getD k false = true) ∧
      (∀ k, k < 12 → s.flag (PANEL_TOUCH_KCFG_KEN k) = true → (s.panel.raws.getD k []).length < 7 →
      t.panel.raws.getD k [] = s.panel.raws.getD k [] ++ [raws.getD k 0])) ∧
    (∀ (raws : List Nat), s.flag PANEL_TOUCH_CFG_EN = false → Does (.touchScan raws) s fun t => t = s.silent) ∧
    (∀ (key : Nat), key < 12 → s.flag (subBit PANEL_TOUCH_STAT_TOUCH key) = true → 100 * s.get PANEL_TOUCH_CFG_STUCK ≤ s.panel.held.getD key 0 →
      key < s.panel.quiet.length → DoesWithin (.stuckKey key) s [0x02, 0x04, 0x09, 0x10, 0x51] [.link, .intc, .jr, .panel] fun t =>
      t.get (subBit PANEL_TOUCH_STAT_TOUCH key) = 0 ∧ t.get (subBit PANEL_TOUCH_STAT_STUCKK key) = 1 ∧
      t.get (PANEL_TOUCH_KDAT_BASE key) = s.get (PANEL_TOUCH_KDAT_RAW key) ∧ t.panel.quiet.getD key 0 = 0) ∧
    (∀ (levels : Nat) (same : Bool), s.pwr.h = .run → ((List.range 4).all fun n => !s.flag (subBit PANEL_IO_BTNCFG_EN n)) = true →
      s.panel.btn.length = 4 → DoesWithin (.buttonSample levels same) s [0x02, 0x04, 0x09, 0x11, 0x14, 0x51] [.link, .intc, .jr, .panel, .safety]
      fun t => (∀ n, n < 4 → t.panel.btn.getD n 0 = 0) ∧ t.regs = s.regs) ∧
    (∀ (levels : Nat) (same : Bool), s.pwr.h = .run →
      ((List.range 4).all fun n => decide (s.panel.btn.getD n 0 + 1 < s.get PANEL_IO_BTNCFG_DEB)) = true → s.panel.btn.length = 4 →
      DoesWithin (.buttonSample levels same) s [0x02, 0x04, 0x09, 0x11, 0x14, 0x51] [.link, .intc, .jr, .panel, .safety] fun t => t.regs = s.regs ∧
      (∀ n, n < 4 → t.panel.btn.getD n 0 = if s.flag (subBit PANEL_IO_BTNCFG_EN n) = true ∧
      levels.testBit n ≠ s.flag (subBit PANEL_IO_BTNSTAT_STATE n) then s.panel.btn.getD n 0 + 1 else 0)) ∧
    (∀ (levels : Nat) (same : Bool), s.pwr.h = .run → s.flag (subBit PANEL_IO_BTNCFG_EN 1) = true →
      s.get PANEL_IO_BTNCFG_DEB ≤ s.panel.btn.getD 1 0 + 1 → ((List.range 4).all fun n => n == 1 || !s.flag (subBit PANEL_IO_BTNCFG_EN n)) = true →
      levels.testBit 1 = true → s.flag (subBit PANEL_IO_BTNSTAT_STATE 1) = false → s.panel.btn.length = 4 →
      DoesWithin (.buttonSample levels same) s [0x02, 0x04, 0x09, 0x11, 0x14, 0x51] [.link, .intc, .jr, .panel, .safety] fun t =>
      t.get (subBit PANEL_IO_BTNSTAT_STATE 1) = 1 ∧ t.panel.btn.getD 1 0 = 0 ∧ t.raw 0x11010 = s.raw 0x11010 ||| 2) ∧
    (∀ (levels : Nat) (same : Bool), s.pwr.h ≠ .run → Does (.buttonSample levels same) s fun t => t = s.silent) ∧
    (∀ (led : Nat), led < 16 → 0 < (ledDrive s led).1 → s.flag (PANEL_IO_LED_OPEN led) = false →
      DoesWithin (.ledOpen led) s [0x02, 0x04, 0x09, 0x11, 0x51] [.link, .intc, .jr] fun t => t.get (PANEL_IO_LED_OPEN led) = 1 ∧ t.panel = s.panel)

/-- Periods, crossings, commutations and Hall codes of the cooling drives (R469, R470, R471, R472, R473). Where it goes beyond the rules it
states choices of the model: log entries 28, 125. -/
def Obligations.LouvreCommutation : Prop :=
    ∀ s : State, s.Inv →
    (∀ (ch : Nat) (code : Nat) (cur : Int) (busy : Bool), ch < 4 → ch < s.louv.length → 2 ≤ s.get (LOUVRE_STAT_STATE ch) →
      s.get (LOUVRE_STAT_STATE ch) ≤ 3 → (louvAt s ch).trip = false →
      DoesWithin (.pwmPeriod ch code cur busy) s [0x02, 0x04, 0x09, 0x18, 0x19, 0x1A, 0x1B, 0x1F, 0x51] [.link, .intc, .jr, .louv, .analog] fun t =>
      t.get (LOUVRE_DUTY_DUTY ch) = min (louvAt s ch).duty (maxDuty (modLouv ch (fun l => { l with div := louvDiv s }) s) ch) % 2 ^ 16 ∧
      t.get (LOUVRE_CNT_ILIM ch) = s.get (LOUVRE_CNT_ILIM ch) ∧ (louvAt t ch).tripRun = false ∧ (louvAt t ch).sector = (louvAt s ch).sector ∧
      t.get (HADC_RES_SEQ (8 + ch)) = s.get (HADC_RES_SEQ (8 + ch))) ∧
    (∀ (ch : Nat) (code : Nat) (cur : Int) (busy : Bool), ch < 4 → ch < s.louv.length → s.get (LOUVRE_STAT_STATE ch) = 3 → (louvAt s ch).trip = true →
      DoesWithin (.pwmPeriod ch code cur busy) s [0x02, 0x04, 0x09, 0x18, 0x19, 0x1A, 0x1B, 0x1F, 0x51] [.link, .intc, .jr, .louv, .analog] fun t =>
      t.get (LOUVRE_CNT_ILIM ch) = min (s.get (LOUVRE_CNT_ILIM ch) + 1) (2 ^ (LOUVRE_CNT_ILIM ch).wd - 1) ∧ (louvAt t ch).tripRun = true ∧
      (louvAt t ch).trip = false) ∧
    (∀ (ch : Nat) (code : Nat) (cur : Int) (busy : Bool), ch < 4 → s.get (LOUVRE_STAT_STATE ch) = 4 → busy = true → (louvAt s ch).trip = false →
      DoesWithin (.pwmPeriod ch code cur busy) s [0x02, 0x04, 0x09, 0x18, 0x19, 0x1A, 0x1B, 0x1F, 0x51] [.link, .intc, .jr, .louv, .analog] fun t =>
      t.get HADC_STAT_SKIP = min (s.get HADC_STAT_SKIP + 1) (2 ^ HADC_STAT_SKIP.wd - 1) ∧
      t.get (LOUVRE_CURR_AB_IA ch) = s.get (LOUVRE_CURR_AB_IA ch)) ∧
    (∀ (ch : Nat) (code : Nat) (cur : Int) (busy : Bool), ch < 4 → ch < s.louv.length → s.get (LOUVRE_STAT_STATE ch) = 6 → (louvAt s ch).ending = true →
      DoesWithin (.pwmPeriod ch code cur busy) s [0x02, 0x04, 0x09, 0x18, 0x19, 0x1A, 0x1B, 0x1F, 0x51] [.link, .intc, .jr, .louv, .analog] fun t =>
      t.get (LOUVRE_DUTY_DUTY ch) = 0 ∧ (louvAt t ch).duty = 0 ∧ (louvAt t ch).ending = false ∧ t.get (LOUVRE_STAT_STATE ch) = 6) ∧
    (∀ (ch : Nat) (len : Nat) (rev : Bool) (expected : Bool), ch < 4 → ch < s.louv.length → s.flag (LOUVRE_CFG_HALL ch) = false →
      s.get (LOUVRE_STAT_STATE ch) = 3 → (louvAt s ch).cross < 5 →
      DoesWithin (.zeroCrossing ch len rev expected) s [0x02, 0x04, 0x09, 0x18, 0x19, 0x1A, 0x1B, 0x51] [.link, .intc, .jr, .louv] fun t =>
      (louvAt t ch).cross = (if expected then (louvAt s ch).cross + 1 else 0) ∧ (louvAt t ch).seen = true ∧ t.regs = s.regs) ∧
    (∀ (ch : Nat) (len : Nat) (rev : Bool) (expected : Bool), ch < 4 → ch < s.louv.length → s.flag (LOUVRE_CFG_HALL ch) = false →
      s.get (LOUVRE_STAT_STATE ch) = 3 → 5 ≤ (louvAt s ch).cross → expected = true → s.flag (LOUVRE_CFG_EN ch) = true →
      s.get (LOUVRE_CTL_MODE ch) = 1 → (0 < rpmCap s ch (s.get (LOUVRE_CTL_RPM ch)) ∧ anyShutdown s = false) → s.pwr.uv = false →
      DoesWithin (.zeroCrossing ch len rev expected) s [0x02, 0x04, 0x09, 0x18, 0x19, 0x1A, 0x1B, 0x51] [.link, .intc, .jr, .louv] fun t =>
      t.get (LOUVRE_STAT_STATE ch) = 4) ∧
    (∀ (ch : Nat) (len : Nat) (rev : Bool) (expected : Bool), ch < 4 → s.get (LOUVRE_STAT_STATE ch) = 5 →
      Does (.zeroCrossing ch len rev expected) s fun t => t = putLen ch len rev s.silent ∧
      t.get (LOUVRE_STAT_SPINREV ch) = bit (rev != s.flag (LOUVRE_CTL_DIR ch))) ∧
    (∀ (ch : Nat) (len : Nat), ch < 4 → ch < s.louv.length → s.flag (LOUVRE_CFG_HALL ch) = false → s.get (LOUVRE_STAT_STATE ch) = 4 →
      (louvAt s ch).seen = true → DoesWithin (.commutation ch len) s [0x18, 0x19, 0x1A, 0x1B] [.louv] fun t =>
      (louvAt t ch).sector = nextSector (s.flag (LOUVRE_CTL_DIR ch)) (louvAt s ch).sector ∧ (louvAt t ch).seen = false ∧
      (louvAt t ch).lens = (len :: (louvAt s ch).lens).take 6 ∧ t.get (LOUVRE_STAT_STATE ch) = 4) ∧
    (∀ (ch : Nat) (code : Nat) (len : Nat) (d : Nat), ch < 4 → ch < s.louv.length → s.flag (LOUVRE_CFG_HALL ch) = true →
      s.get (LOUVRE_STAT_STATE ch) = 4 → hallDrive s ch (code % 8) = some d → DoesWithin (.hallChange ch code len) s [0x18, 0x19, 0x1A, 0x1B]
      [.louv] fun t => (louvAt t ch).sector = d ∧ (louvAt t ch).hall = code % 8 ∧ (louvAt t ch).seen = true ∧ t.get (LOUVRE_STAT_STATE ch) = 4) ∧
    (∀ (ch : Nat), ch < 4 → ch < s.louv.length → s.flag (LOUVRE_CFG_HALL ch) = true → hallSector (louvAt s ch).hall = none →
      s.get (LOUVRE_STAT_STATE ch) ≠ 6 → DoesWithin (.hallInvalid ch) s [0x02, 0x04, 0x09, 0x18, 0x19, 0x1A, 0x1B, 0x51] [.link, .intc, .jr, .louv]
      fun t => t.get (LOUVRE_STAT_STATE ch) = 6 ∧ t.get (LOUVRE_FAULT_CAUSE ch) = 4 ∧ t.get (LOUVRE_FAULT_PHASE ch) = 3 ∧
      (louvAt t ch).ending = decide (2 ≤ s.get (LOUVRE_STAT_STATE ch) ∧ s.get (LOUVRE_STAT_STATE ch) ≤ 4) ∧
      (louvAt t ch).duty = (if 2 ≤ s.get (LOUVRE_STAT_STATE ch) ∧ s.get (LOUVRE_STAT_STATE ch) ≤ 4 then (louvAt s ch).duty else 0))

/-- Start, stall, coast, undervoltage and half-bridge faults of the cooling drives (R468, R473, R477, R479). Where it goes beyond the rules it
states choices of the model: log entry 28. -/
def Obligations.LouvreStates : Prop :=
    ∀ s : State, s.Inv →
    (∀ (ch : Nat), ch < 4 → ch < s.louv.length → s.get (LOUVRE_STAT_STATE ch) = 1 → (louvAt s ch).rev = s.flag (LOUVRE_CTL_DIR ch) →
      louvFe (louvAt s ch) < s.get (LOUVRE_SPIN_FCATCH ch) → s.flag (LOUVRE_CFG_HALL ch) = false →
      DoesWithin (.catchEnd ch) s [0x02, 0x04, 0x09, 0x18, 0x19, 0x1A, 0x1B, 0x51] [.link, .intc, .jr, .louv] fun t =>
      t.get (LOUVRE_STAT_STATE ch) = 2 ∧ (louvAt t ch).sector = 0 ∧
      (louvAt t ch).duty = lsbU 16 (65536 * (s.get (LOUVRE_START_ALIGND ch) : Nat) / (200 : Rat))) ∧
    (∀ (ch : Nat), ch < 4 → ch < s.louv.length → s.get (LOUVRE_STAT_STATE ch) = 1 → (louvAt s ch).rev ≠ s.flag (LOUVRE_CTL_DIR ch) →
      (s.get (LOUVRE_SPIN_REVTH ch) : Rat) ≤ louvFe (louvAt s ch) → DoesWithin (.catchEnd ch) s [0x02, 0x04, 0x09, 0x18, 0x19, 0x1A, 0x1B, 0x51]
      [.link, .intc, .jr, .louv] fun t => t.get (LOUVRE_STAT_STATE ch) = 1 ∧ (louvAt t ch).against = (louvAt s ch).against + 1) ∧
    (∀ (ch : Nat), ch < 4 → ch < s.louv.length → s.get (LOUVRE_STAT_STATE ch) = 2 →
      DoesWithin (.alignEnd ch) s [0x02, 0x04, 0x09, 0x18, 0x19, 0x1A, 0x1B, 0x51] [.link, .intc, .jr, .louv] fun t =>
      t.get (LOUVRE_STAT_STATE ch) = 3 ∧ (louvAt t ch).cross = 0 ∧ (louvAt t ch).lens = [] ∧ (louvAt t ch).sector = (louvAt s ch).sector) ∧
    (∀ (ch : Nat), ch < 4 → ch < s.louv.length → s.get (LOUVRE_STAT_STATE ch) = 3 →
      ((louvAt s ch).stalls.filter fun x => decide ((louvAt s ch).ms < x + 60000)).length < 2 →
      DoesWithin (.rampTimeout ch) s [0x02, 0x04, 0x09, 0x18, 0x19, 0x1A, 0x1B, 0x51] [.link, .intc, .jr, .louv] fun t =>
      t.get (LOUVRE_STAT_STATE ch) = 5 ∧ (louvAt t ch).stalled = true ∧ t.get (LOUVRE_DUTY_DUTY ch) = 0) ∧
    (∀ (ch : Nat), ch < 4 → ch < s.louv.length → s.get (LOUVRE_STAT_STATE ch) = 4 →
      ((louvAt s ch).stalls.filter fun x => decide ((louvAt s ch).ms < x + 60000)).length < 2 →
      DoesWithin (.stall ch) s [0x02, 0x04, 0x09, 0x18, 0x19, 0x1A, 0x1B, 0x51] [.link, .intc, .jr, .louv] fun t =>
      t.get (LOUVRE_STAT_STATE ch) = 5 ∧ (louvAt t ch).stalled = true ∧ t.get (LOUVRE_DUTY_DUTY ch) = 0) ∧
    (∀ (ch : Nat), ch < 4 → ch < s.louv.length → s.get (LOUVRE_STAT_STATE ch) = 4 →
      2 ≤ ((louvAt s ch).stalls.filter fun x => decide ((louvAt s ch).ms < x + 60000)).length →
      DoesWithin (.stall ch) s [0x02, 0x04, 0x09, 0x18, 0x19, 0x1A, 0x1B, 0x51] [.link, .intc, .jr, .louv] fun t =>
      t.get (LOUVRE_STAT_STATE ch) = 6 ∧ t.get (LOUVRE_FAULT_CAUSE ch) = 5 ∧ t.get (LOUVRE_FAULT_PHASE ch) = 3 ∧ (louvAt t ch).ending = true) ∧
    (∀ (ch : Nat), ch < 4 → s.get (LOUVRE_STAT_STATE ch) = 5 → (louvAt s ch).stalled = true →
      ((louvAt s ch).stalls.filter fun x => decide ((louvAt s ch).ms < x + 60000)).length < 3 → louvWants s ch = true →
      DoesWithin (.stallRetry ch) s [0x02, 0x04, 0x09, 0x18, 0x19, 0x1A, 0x1B, 0x51] [.link, .intc, .jr, .louv] fun t =>
      t.get (LOUVRE_STAT_STATE ch) = 1) ∧
    (∀ (ch : Nat) (after2s : Bool), ch < 4 → s.get (LOUVRE_STAT_STATE ch) = 5 → after2s = true → louvWants s ch = false → s.pwr.uv = false →
      DoesWithin (.coastEnd ch after2s) s [0x02, 0x04, 0x09, 0x18, 0x19, 0x1A, 0x1B, 0x51] [.link, .intc, .jr, .louv] fun t =>
      t.get (LOUVRE_STAT_STATE ch) = 0 ∧ (louvAt t ch).stalls = (louvAt s ch).stalls) ∧
    (((List.range 4).all fun n => s.get (LOUVRE_STAT_STATE n) != 6) = true →
      DoesWithin (.driverUndervoltage) s [0x02, 0x04, 0x09, 0x18, 0x19, 0x1A, 0x1B, 0x51] [.pwr, .link, .intc, .jr, .louv] fun t => (∀ n, n < 4 →
      t.get (LOUVRE_STAT_STATE n) = 7 ∧ t.get (LOUVRE_DUTY_DUTY n) = 0)) ∧
    (((List.range 4).all fun n => s.get (LOUVRE_STAT_STATE n) == 7 && !louvWants s n) = true →
      DoesWithin (.uvRelease) s [0x02, 0x04, 0x09, 0x18, 0x19, 0x1A, 0x1B, 0x51] [.pwr, .link, .intc, .jr, .louv] fun t => (∀ n, n < 4 →
      t.get (LOUVRE_STAT_STATE n) = 0)) ∧
    (∀ (ch : Nat) (phase : Nat) (cause : Nat) (present : Bool), ch < 4 → ch < s.louv.length → phase < 3 → 1 ≤ cause → cause ≤ 3 → present = true →
      DoesWithin (.halfBridgeFault ch phase cause present) s [0x02, 0x04, 0x09, 0x18, 0x19, 0x1A, 0x1B, 0x51] [.link, .intc, .jr, .louv] fun t =>
      t.get (LOUVRE_STAT_STATE ch) = 6 ∧ t.get (LOUVRE_FAULT_CAUSE ch) = cause ∧ t.get (LOUVRE_FAULT_PHASE ch) = phase ∧
      (louvAt t ch).ending = (decide (2 ≤ s.get (LOUVRE_STAT_STATE ch) ∧
      s.get (LOUVRE_STAT_STATE ch) ≤ 4) || (decide (s.get (LOUVRE_STAT_STATE ch) = 6) && (louvAt s ch).ending)) ∧
      (louvAt t ch).cond = (louvAt s ch).cond ||| 2 ^ phase) ∧
    (∀ (ch : Nat) (phase : Nat) (cause : Nat) (present : Bool), ch < 4 → ch < s.louv.length → phase < 3 → 1 ≤ cause → cause ≤ 3 → present = false →
      DoesWithin (.halfBridgeFault ch phase cause present) s [0x02, 0x04, 0x09, 0x18, 0x19, 0x1A, 0x1B, 0x51] [.link, .intc, .jr, .louv] fun t =>
      t.regs = s.regs ∧ (louvAt t ch).cond = (louvAt s ch).cond &&& (7 ^^^ 2 ^ phase))

/-- The control register, the speed loop and the curves of the cooling drives (R474, R475, R476). Where it goes beyond the rules it states
choices of the model: log entries 24, 28. -/
def Obligations.LouvreTargets : Prop :=
    ∀ s : State, s.Inv →
    (∀ (ch : Nat) (value : Word) (same : Bool), ch < 4 → bitsAt value.toNat 0 2 = 1 → value.getLsbD 2 = s.flag (LOUVRE_CTL_DIR ch) →
      value.getLsbD 3 = false → value &&& 0xFFF0#32 = 0 → s.get (LOUVRE_STAT_STATE ch) = 3 → s.pwr.uv = false →
      Does (.louvreCtl ch value same) s fun t => t = s.silent.setRaw (LOUVRE_CTL_MODE ch).addr (value &&& 0xFFFF0007#32)) ∧
    (∀ (ch : Nat) (value : Word) (same : Bool), ch < 4 → bitsAt value.toNat 0 2 = 3 → value.getLsbD 2 = s.flag (LOUVRE_CTL_DIR ch) →
      DoesWithin (.louvreCtl ch value same) s [0x02, 0x04, 0x09, 0x18, 0x19, 0x1A, 0x1B, 0x51] [.link, .intc, .jr, .louv] fun t =>
      t.raw (LOUVRE_CTL_MODE ch).addr = s.raw (LOUVRE_CTL_MODE ch).addr ∧ t.get (pgerrCause (pageOf (LOUVRE_CTL_MODE ch).addr)) = 3 ∧
      t.louv = s.louv) ∧
    (∀ (ch : Nat) (value : Word) (same : Bool), ch < 4 → same = true → s.get (LOUVRE_STAT_STATE ch) = 6 → bitsAt value.toNat 0 2 = 1 →
      value.getLsbD 2 = s.flag (LOUVRE_CTL_DIR ch) → value &&& 0xFFF0#32 = 0 → Does (.louvreCtl ch value same) s fun t =>
      t = s.silent.setRaw (LOUVRE_CTL_MODE ch).addr (value &&& 0xFFFF0007#32)) ∧
    (∀ (ch : Nat), ch < 4 → ch < s.louv.length → s.get (LOUVRE_STAT_STATE ch) = 3 → s.pwr.uv = false →
      DoesWithin (.speedLoop ch) s [0x02, 0x04, 0x09, 0x18, 0x19, 0x1A, 0x1B, 0x51] [.link, .intc, .jr, .louv] fun t =>
      (louvAt t ch).ms = (louvAt s ch).ms + 1 ∧ t.get (LOUVRE_STAT_FORCED ch) = bit (forced s ch) ∧ (louvAt t ch).duty = (louvAt s ch).duty ∧
      t.get (LOUVRE_DUTY_TGT ch) = lsbU 16 (louvAt t ch).tgt % 2 ^ 16) ∧
    (∀ (ch : Nat), ch < 4 → ch < s.louv.length → s.get (LOUVRE_STAT_STATE ch) = 4 → louvWants s ch = true →
      forced s ch = s.flag (LOUVRE_STAT_FORCED ch) → (louvAt s ch).runMs = 999 → s.pwr.uv = false →
      DoesWithin (.speedLoop ch) s [0x02, 0x04, 0x09, 0x18, 0x19, 0x1A, 0x1B, 0x51] [.link, .intc, .jr, .louv] fun t => (louvAt t ch).runMs = 0 ∧
      t.get (LOUVRE_RUNSEC_SEC ch) = min (s.get (LOUVRE_RUNSEC_SEC ch) + 1) (2 ^ (LOUVRE_RUNSEC_SEC ch).wd - 1) ∧ (louvAt t ch).duty ≤ maxDuty s ch) ∧
    (∀ (ch : Nat) (x : Int), ch < 4 → ch < s.louv.length → s.get (LOUVRE_CTL_MODE ch) = 2 → tempSource s (s.get (LOUVRE_CURVSRC_SRC ch)) = some x →
      s.getI (LOUVRE_CURVTON_TON ch) ≤ x → DoesWithin (.curveReading ch) s [0x02, 0x04, 0x09, 0x18, 0x19, 0x1A, 0x1B, 0x51]
      [.link, .intc, .jr, .louv] fun t => (louvAt t ch).curve = curveRpm s ch x ∧ t.get (LOUVRE_STAT_ON ch) = 1 ∧ t.get (LOUVRE_STAT_NOVAL ch) = 0) ∧
    (∀ (ch : Nat), ch < 4 → ch < s.louv.length → s.get (LOUVRE_CTL_MODE ch) = 2 → tempSource s (s.get (LOUVRE_CURVSRC_SRC ch)) = none →
      DoesWithin (.curveReading ch) s [0x02, 0x04, 0x09, 0x18, 0x19, 0x1A, 0x1B, 0x51] [.link, .intc, .jr, .louv] fun t =>
      (louvAt t ch).curve = lastRpm s ch ∧ t.get (LOUVRE_STAT_ON ch) = 1 ∧ t.get (LOUVRE_STAT_NOVAL ch) = 1)

/-- Samples of the safety inputs, test pulses, the self-test and the permit's readback (R454, R455, R456, R457, R458). Where it goes beyond
the rules it states choices of the model: log entry 33. -/
def Obligations.SafetyInputsAndTests : Prop :=
    ∀ s : State, s.Inv →
    (∀ (levels : Nat), ((List.range 5).all fun i => !monitored s i) = true → Does (.safetySample levels) s fun t => t = s.silent) ∧
    (∀ (levels : Nat), monitored s 2 = true → s.safety.last.getD 4 none = some true → s.safety.last.getD 5 none = some true →
      s.safety.filt.getD 4 none = some true → s.safety.filt.getD 5 none = some true → s.get (inputFld 2) = 0 → levels.testBit 4 = false →
      levels.testBit 5 = true → ((List.range 5).all fun i => i == 2 || !monitored s i) = true → s.safety.last.length = 10 →
      s.safety.filt.length = 10 → s.safety.dis.length = 5 → s.safety.dis.getD 2 0 = 0 →
      DoesWithin (.safetySample levels) s [0x02, 0x03, 0x04, 0x09, 0x14, 0x51] [.link, .intc, .jr, .safety] fun t =>
      t.safety.last.getD 4 none = some false ∧ t.safety.filt.getD 4 none = some true ∧ t.get (inputFld 2) = 0 ∧
      t.get SAFETY_STAT_BLOCK = s.get SAFETY_STAT_BLOCK) ∧
    (∀ (levels : Nat), monitored s 2 = true → s.safety.last.getD 4 none = some false → s.safety.filt.getD 5 none = some true →
      s.safety.last.getD 5 none = some true → s.safety.filt.getD 4 none = some true → s.get (inputFld 2) = 0 → levels.testBit 4 = false →
      levels.testBit 5 = true → ((List.range 5).all fun i => i == 2 || !monitored s i) = true → s.safety.last.length = 10 →
      s.safety.filt.length = 10 → s.safety.dis.length = 5 → s.safety.dis.getD 2 0 = 0 → 1 ≤ s.get (SAFETY_DISC_DISC 2) → s.link.up = true →
      DoesWithin (.safetySample levels) s [0x02, 0x03, 0x04, 0x09, 0x14, 0x51] [.link, .intc, .jr, .safety] fun t => t.get (inputFld 2) = 1 ∧
      t.get SAFETY_STAT_BLOCK = 0 ∧ t.get SAFETY_STAT_PERMIT = 0 ∧
      t.link.soon = s.link.soon.filter (· != .postedWr 0x51050 [0]) ++ [.postedWr 0x51050 [0]] ∧
      t.get SAFETY_DEMCNT_COUNT = min (s.get SAFETY_DEMCNT_COUNT + 1) (2 ^ SAFETY_DEMCNT_COUNT.wd - 1)) ∧
    (∀ (tpb : Bool) (readbackLow : Bool) (levels : Nat), tpb = false → s.safety.partA.length = 5 →
      DoesWithin (.testPulse tpb readbackLow levels) s [0x02, 0x03, 0x04, 0x09, 0x14, 0x51] [.link, .intc, .jr, .safety] fun t => (∀ i, i < 5 →
      t.safety.partA.getD i 0 = if monitored s i then (if readbackLow then pulseCause false levels i s else 5) else s.safety.partA.getD i 0) ∧
      t.regs = s.regs) ∧
    (∀ (tpb : Bool) (readbackLow : Bool) (levels : Nat), tpb = true → readbackLow = true →
      ((List.range 5).all fun i => !monitored s i || (s.safety.partA.getD i 0 == 0 && pulseCause true levels i s == 0)) = true →
      s.safety.passes.length = 5 → s.safety.fails.length = 5 → DoesWithin (.testPulse tpb readbackLow levels) s [0x02, 0x03, 0x04, 0x09, 0x14, 0x51]
      [.link, .intc, .jr, .safety] fun t => (∀ i, i < 5 → monitored s i = true → t.safety.fails.getD i 0 = 0 ∧
      t.safety.passes.getD i 0 = s.safety.passes.getD i 0 + 1) ∧ t.get SAFETY_TESTCNT_FAIL = s.get SAFETY_TESTCNT_FAIL ∧ (∀ i, i < 5 →
      t.get (inputFld i) = s.get (inputFld i))) ∧
    (∀ (cause : Nat), s.get SAFETY_STAT_BLOCK = 3 → cause = 0 → DoesWithin (.safetySelftestDone cause) s [0x02, 0x03, 0x04, 0x09, 0x14, 0x51]
      [.link, .intc, .jr, .safety] fun t => t.get SAFETY_STAT_BLOCK = 1 ∧ t.get SAFETY_STAT_PERMIT = 1 ∧ t.get SHUTTLE_H_STAT_PERMIT = 1 ∧
      t.safety.startTest = false) ∧
    (∀ (cause : Nat), s.get SAFETY_STAT_BLOCK = 3 → cause ≠ 0 → DoesWithin (.safetySelftestDone cause) s [0x02, 0x03, 0x04, 0x09, 0x14, 0x51]
      [.link, .intc, .jr, .safety] fun t => t.get SAFETY_STAT_BLOCK = 0 ∧ t.get SAFETY_STAT_PERMIT = s.get SAFETY_STAT_PERMIT ∧
      t.safety.startTest = false) ∧
    (∀ (ok : Bool), ok = true → Does (.permitToggle ok) s fun t => t = s.silent) ∧
    (∀ (ok : Bool), ok = false → s.get SAFETY_STAT_BLOCK = 1 → DoesWithin (.permitToggle ok) s [0x02, 0x03, 0x04, 0x09, 0x14, 0x51] [.link, .intc, .jr]
      fun t => t.get SAFETY_STAT_BLOCK = 0 ∧ t.get SAFETY_STAT_PERMIT = 0 ∧ t.get SHUTTLE_H_STAT_PERMIT = 0 ∧ t.get SAFETY_FAULT_INPUT = 7 ∧
      t.get SAFETY_FAULT_CAUSE = 6)

/-- Resets and demands by hosts, and reads of the seal switches (R459, R460, R464, R465). Where it goes beyond the rules it states choices of
the model: log entries 23, 33, 58. -/
def Obligations.SafetyResetsAndSealReads : Prop :=
    ∀ s : State, s.Inv →
    (∀ (value : Word) (same : Bool), value = 0x5AF3#32 → same = false → s.get SAFETY_STAT_BLOCK = 0 → s.flag SAFETY_STAT_RECORD = true →
      ((List.range 5).any fun i => monitored s i && s.get (inputFld i) != 0) = false →
      DoesWithin (.safetyReset value same) s [0x02, 0x04, 0x09, 0x14, 0x51] [.link, .intc, .jr, .safety] fun t => t.get SAFETY_STAT_BLOCK = 3 ∧
      t.safety.byBtn = false ∧ t.get SAFETY_STAT_PERMIT = s.get SAFETY_STAT_PERMIT) ∧
    (∀ (value : Word) (same : Bool), value ≠ 0x5AF3#32 → DoesWithin (.safetyReset value same) s [0x02, 0x04, 0x09, 0x14, 0x51]
      [.link, .intc, .jr, .safety] fun t => t.get (pgerrCause 0x14) = 3 ∧ t.get SAFETY_STAT_BLOCK = s.get SAFETY_STAT_BLOCK ∧ t.safety = s.safety) ∧
    (∀ (value : Word) (same : Bool), value = 0x5AF3#32 → ((same = true ∨ s.get SAFETY_STAT_BLOCK ≠ 0 ∨ s.flag SAFETY_STAT_RECORD = false)) →
      DoesWithin (.safetyReset value same) s [0x02, 0x04, 0x09, 0x14, 0x51] [.link, .intc, .jr, .safety] fun t => t.get (pgerrCause 0x14) = 3 ∧
      t.raw 0x14010 &&& 8#32 = 8#32 ∧ t.get SAFETY_STAT_BLOCK = s.get SAFETY_STAT_BLOCK ∧ t.safety = s.safety) ∧
    (∀ (value : Word), value = 1#32 → DoesWithin (.safetyStop value) s [0x02, 0x03, 0x04, 0x09, 0x14, 0x51] [.link, .intc, .jr] fun t =>
      t.get SAFETY_STAT_BLOCK = 0 ∧ t.get SAFETY_STAT_PERMIT = 0 ∧
      t.get SAFETY_DEMCNT_COUNT = min (s.get SAFETY_DEMCNT_COUNT + 1) (2 ^ SAFETY_DEMCNT_COUNT.wd - 1)) ∧
    (∀ (value : Word), value = 0#32 → Does (.safetyStop value) s fun t => t = s.silent) ∧
    (∀ (s1 : Nat) (s2 : Nat) (s3 : Nat), s.safety.retry = false → (s1 % 256 = s2 % 256 ∧ s2 % 256 = s3 % 256) → s.flag SEAL_STAT_RECORD = true →
      (s1 % 256 ^^^ s.get SEAL_REC_SEALW) &&& s.get SEAL_REC_SEALM = 0 →
      DoesWithin (.sealRead s1 s2 s3) s [0x02, 0x04, 0x09, 0x15, 0x20, 0x51, 0x78] [.link, .intc, .jr, .porter, .safety] fun t =>
      t.get SEAL_STAT_WORD = s1 % 256 ∧ t.get SEAL_STAT_PERMIT = 1 ∧ t.get SEAL_STAT_BUSY = 0 ∧ t.safety.incons = 0 ∧
      t.get SEAL_CNT_MIS = s.get SEAL_CNT_MIS) ∧
    (∀ (s1 : Nat) (s2 : Nat) (s3 : Nat), s.safety.retry = false → (s1 % 256 = s2 % 256 ∧ s2 % 256 = s3 % 256) → s.flag SEAL_STAT_RECORD = true →
      (s1 % 256 ^^^ s.get SEAL_REC_SEALW) &&& s.get SEAL_REC_SEALM ≠ 0 →
      DoesWithin (.sealRead s1 s2 s3) s [0x02, 0x04, 0x09, 0x15, 0x20, 0x51, 0x78] [.link, .intc, .jr, .porter, .safety] fun t =>
      t.get SEAL_STAT_WORD = s1 % 256 ∧ t.get SEAL_STAT_PERMIT = 0 ∧ t.get SEAL_CNT_MIS = min (s.get SEAL_CNT_MIS + 1) (2 ^ SEAL_CNT_MIS.wd - 1)) ∧
    (∀ (s1 : Nat) (s2 : Nat) (s3 : Nat), s.safety.retry = false → s1 % 256 ≠ s2 % 256 → s.safety.incons < 2 →
      DoesWithin (.sealRead s1 s2 s3) s [0x02, 0x04, 0x09, 0x15, 0x20, 0x51, 0x78] [.link, .intc, .jr, .porter, .safety] fun t =>
      t.get SEAL_STAT_BUSY = 1 ∧ t.safety.incons = s.safety.incons + 1 ∧ t.safety.retry = true ∧ t.get SEAL_STAT_WORD = s.get SEAL_STAT_WORD ∧
      t.get SEAL_STAT_PERMIT = s.get SEAL_STAT_PERMIT) ∧
    (s.flag SEAL_STAT_BUSY = false → Does (.sealReadCmd) s fun t => t = s.silent.put SEAL_STAT_BUSY 1) ∧
    (s.flag SEAL_STAT_BUSY = true → DoesWithin (.sealReadCmd) s [0x02, 0x04, 0x09, 0x15, 0x51] [.link, .intc, .jr] fun t =>
      t.get (pgerrCause 0x15) = 3 ∧ t.get SEAL_STAT_BUSY = 1 ∧ t.safety = s.safety) ∧
    (∀ (s1 : Nat) (s2 : Nat) (s3 : Nat), s.safety.retry = true → s1 % 256 ≠ s2 % 256 → 2 ≤ s.safety.incons →
      DoesWithin (.sealRetry s1 s2 s3) s [0x02, 0x04, 0x09, 0x15, 0x20, 0x51, 0x78] [.link, .intc, .jr, .porter, .safety] fun t =>
      t.get SEAL_STAT_BUSY = 0 ∧ t.safety.retry = false ∧ t.safety.incons = 0 ∧ t.get SEAL_STAT_PERMIT = 0) ∧
    (∀ (s1 : Nat) (s2 : Nat) (s3 : Nat), s.safety.retry = true → (s1 % 256 = s2 % 256 ∧ s2 % 256 = s3 % 256) → s.flag SEAL_STAT_RECORD = false →
      DoesWithin (.sealRetry s1 s2 s3) s [0x02, 0x04, 0x09, 0x15, 0x20, 0x51, 0x78] [.link, .intc, .jr, .porter, .safety] fun t =>
      t.get SEAL_STAT_WORD = s1 % 256 ∧ t.get SEAL_STAT_BUSY = 0 ∧ t.safety.retry = false ∧ t.get SEAL_STAT_PERMIT = s.get SEAL_STAT_PERMIT)

/-- Cycles, states and faults of the auxiliary supply, scans and comparators of the H-die (R484, R485, R487, R488). Where it goes beyond the
rules it states choices of the model: log entries 27, 106. -/
def Obligations.AuxiliarySupply : Prop :=
    ∀ s : State, s.Inv →
    (∀ (endBy : Nat) (duty : Nat) (fb : Nat), s.get AUXSUP_STAT_STATE = 2 → s.aux.step < 7 → endBy = 0 → s.aux.ov < 3 →
      DoesWithin (.auxCycle endBy duty fb) s [0x02, 0x03, 0x04, 0x09, 0x14, 0x1C, 0x1F, 0x51] [.link, .intc, .jr, .aux, .analog] fun t =>
      t.get AUXSUP_VC_DUTY = min duty (10 * s.get AUXSUP_CFG_DMAX) % 2 ^ AUXSUP_VC_DUTY.wd ∧ t.get (HADC_RES_CODE 7) = fb % 4096 ∧
      t.get AUXSUP_STAT_STATE = 2 ∧ t.aux.cycles = s.aux.cycles + 1 ∧ t.aux.step = s.aux.step + 1 ∧ t.aux.oc = 0 ∧
      t.get AUXSUP_VC_VC = s.get AUXSUP_VC_VC) ∧
    (∀ (endBy : Nat) (duty : Nat) (fb : Nat), s.get AUXSUP_STAT_STATE = 2 → s.aux.step < 7 → endBy = 2 → s.aux.oc = 3 → s.aux.ov < 3 →
      s.aux.hiccups = [] → DoesWithin (.auxCycle endBy duty fb) s [0x02, 0x03, 0x04, 0x09, 0x14, 0x1C, 0x1F, 0x51]
      [.link, .intc, .jr, .aux, .analog] fun t => t.get AUXSUP_STAT_STATE = 3 ∧ t.aux.hiccups.length = 1 ∧
      t.get AUXSUP_CNT_HICCUP = min (s.get AUXSUP_CNT_HICCUP + 1) (2 ^ AUXSUP_CNT_HICCUP.wd - 1) ∧ t.get SAFETY_STAT_PERMIT = 0) ∧
    (∀ (endBy : Nat) (duty : Nat) (fb : Nat), s.get AUXSUP_STAT_STATE = 2 → s.aux.step < 7 → s.aux.ov = 3 →
      s.get AUXSUP_PROT_OVP * s.get AUXSUP_VREG_VSET < 100 * (fb % 4096) →
      DoesWithin (.auxCycle endBy duty fb) s [0x02, 0x03, 0x04, 0x09, 0x14, 0x1C, 0x1F, 0x51] [.link, .intc, .jr, .aux, .analog] fun t =>
      t.get AUXSUP_STAT_STATE = 5 ∧ t.get AUXSUP_CNT_OVP = min (s.get AUXSUP_CNT_OVP + 1) (2 ^ AUXSUP_CNT_OVP.wd - 1) ∧
      t.get SAFETY_STAT_PERMIT = 0) ∧
    (∀ (input : Bool), s.get AUXSUP_STAT_STATE = 2 → input = true → DoesWithin (.auxFaultTimer input) s [0x02, 0x03, 0x04, 0x09, 0x14, 0x1C, 0x51]
      [.link, .intc, .jr, .aux] fun t => t.get AUXSUP_STAT_STATE = 4 ∧ t.get SAFETY_STAT_PERMIT = 0 ∧ t.aux = s.aux) ∧
    (∀ (input : Bool), s.get AUXSUP_STAT_STATE = 2 → input = false → s.aux.hiccups = [] →
      DoesWithin (.auxFaultTimer input) s [0x02, 0x03, 0x04, 0x09, 0x14, 0x1C, 0x51] [.link, .intc, .jr, .aux] fun t =>
      t.get AUXSUP_STAT_STATE = 3 ∧ t.get SAFETY_STAT_PERMIT = 0 ∧ t.aux.hiccups = [s.aux.time]) ∧
    (∀ (value : Word), value = 1#32 → s.get AUXSUP_STAT_STATE = 0 → s.get AUXSUP_PROT_VINMIN ≤ s.get (HADC_RES_CODE 6) →
      DoesWithin (.auxEn value) s [0x02, 0x03, 0x04, 0x09, 0x14, 0x1C, 0x51] [.link, .intc, .jr, .aux] fun t => t.get AUXSUP_CTL_EN = 1 ∧
      t.get AUXSUP_STAT_STATE = 1 ∧ t.aux.cycles = 0 ∧ t.get SAFETY_STAT_PERMIT = s.get SAFETY_STAT_PERMIT) ∧
    (∀ (value : Word), value = 0#32 → s.get AUXSUP_STAT_STATE = 2 → DoesWithin (.auxEn value) s [0x02, 0x03, 0x04, 0x09, 0x14, 0x1C, 0x51]
      [.link, .intc, .jr, .aux] fun t => t.get AUXSUP_CTL_EN = 0 ∧ t.get AUXSUP_STAT_STATE = 0 ∧ t.get SAFETY_STAT_PERMIT = 0) ∧
    (s.get AUXSUP_STAT_STATE = 5 → DoesWithin (.auxRestart) s [0x02, 0x03, 0x04, 0x09, 0x14, 0x1C, 0x51] [.link, .intc, .jr, .aux] fun t =>
      t.get AUXSUP_STAT_STATE = 1 ∧ t.get AUXSUP_CTL_EN = s.get AUXSUP_CTL_EN ∧ t.aux.hiccups = [] ∧ t.aux.integ = 0) ∧
    (s.get AUXSUP_STAT_STATE = 1 → s.aux.hiccups = [] → DoesWithin (.auxSoftstartTimeout) s [0x02, 0x03, 0x04, 0x09, 0x14, 0x1C, 0x51]
      [.link, .intc, .jr, .aux] fun t => t.get AUXSUP_STAT_STATE = 3 ∧ t.get SAFETY_STAT_PERMIT = s.get SAFETY_STAT_PERMIT ∧
      t.aux.hiccups = [s.aux.time]) ∧
    (s.get AUXSUP_STAT_STATE = 3 → DoesWithin (.hiccupEnd) s [0x02, 0x03, 0x04, 0x09, 0x14, 0x1C, 0x51] [.link, .intc, .jr, .aux] fun t =>
      t.get AUXSUP_STAT_STATE = 1 ∧ t.aux.time = s.aux.time + 50000 ∧ t.aux.cycles = 0 ∧ t.aux.hiccups = s.aux.hiccups) ∧
    (∀ (elapsed : Nat), s.get AUXSUP_STAT_STATE = 4 → DoesWithin (.inuvRecover elapsed) s [0x02, 0x03, 0x04, 0x09, 0x14, 0x1C, 0x51]
      [.link, .intc, .jr, .aux] fun t => t.get AUXSUP_STAT_STATE = 1 ∧ t.aux.time = s.aux.time + (elapsed : Nat) ∧ t.aux.hiccups = s.aux.hiccups) ∧
    (∀ (codes : List (Nat × Nat)) (n : Nat) (c : Nat), codes = [(n, c)] → 4 ≤ n → n < 16 → (s.get HADC_SCANCFG_EN).testBit n = true →
      DoesWithin (.hadcScan codes) s [0x02, 0x04, 0x09, 0x1F, 0x51] [.link, .intc, .jr, .analog] fun t => t.get (HADC_RES_CODE n) = c % 4096 ∧
      t.get (HADC_RES_VALID n) = 1 ∧ t.get (HADC_RES_SEQ n) = (s.get (HADC_RES_SEQ n) + 1) % 2 ^ (HADC_RES_SEQ n).wd ∧
      t.get HADC_STAT_CONV = (s.get HADC_STAT_CONV + 1) % 2 ^ HADC_STAT_CONV.wd) ∧
    (∀ (cmp : Nat) (tripped : Bool), cmp < 8 → tripped = true → s.analog.run.testBit cmp = false → cmp < 2 → s.flag (HCMP_CFG_EVT cmp) = false →
      DoesWithin (.hcmpTrip cmp tripped) s [0x02, 0x04, 0x09, 0x1E, 0x51] [.link, .intc, .jr, .louv, .analog] fun t =>
      t.get (subBit HCMP_STAT_OUT cmp) = 1 ∧
      t.get (HCMP_TRIPCNT_COUNT cmp) = min (s.get (HCMP_TRIPCNT_COUNT cmp) + 1) (2 ^ (HCMP_TRIPCNT_COUNT cmp).wd - 1) ∧
      t.analog.run.testBit cmp = true ∧ t.louv = s.louv) ∧
    (∀ (cmp : Nat) (tripped : Bool), cmp < 8 → tripped = true → s.analog.run.testBit cmp = true → 2 ≤ cmp → cmp ≤ 5 → s.louv.length = 4 →
      DoesWithin (.hcmpTrip cmp tripped) s [0x02, 0x04, 0x09, 0x1E, 0x51] [.link, .intc, .jr, .louv, .analog] fun t =>
      t.get (subBit HCMP_STAT_OUT cmp) = 1 ∧ (louvAt t (cmp - 2)).trip = true ∧ t.analog = s.analog ∧ t.raw 0x1E010 = s.raw 0x1E010) ∧
    (∀ (cmp : Nat) (tripped : Bool), cmp < 8 → tripped = false → DoesWithin (.hcmpTrip cmp tripped) s [0x02, 0x04, 0x09, 0x1E, 0x51]
      [.link, .intc, .jr, .louv, .analog] fun t => t.get (subBit HCMP_STAT_OUT cmp) = 0 ∧ t.analog.run.testBit cmp = false ∧ t.louv = s.louv)

/-- Quotes start and end, and the owner certificate is written (R493, R496). Where it goes beyond the rules it states choices of the model:
log entries 21, 25, 120, 145. -/
def Obligations.QuotesAndCertificates : Prop :=
    ∀ s : State, s.Inv →
    (s.flag SECURITY_STAT_QBUSY = false → (fuseState s.sec.fuses ≠ 1 ∧ fuseState s.sec.fuses ≠ 6) → reachable s 0x7D = true → reachable s 0x40 = true →
      DoesWithin (.quoteGo) s [0x02, 0x04, 0x06, 0x09, 0x21, 0x51] [.link, .intc, .jr, .s0, .sec] fun t => t.get SECURITY_STAT_QBUSY = 1 ∧
      t.get SECURITY_STAT_QDONE = 0 ∧ t.sec.nonce = (List.range 12).map (fun i => s.raw (SECURITY_NONCE_N i).addr) ∧ t.sec.qFail = false ∧
      t.sec.qItems = [] ∧ t.link.reads.length = s.link.reads.length + 13 ∧ t.sec.fuses = s.sec.fuses) ∧
    (((s.flag SECURITY_STAT_QBUSY = true ∨ fuseState s.sec.fuses = 1 ∨ fuseState s.sec.fuses = 6)) →
      DoesWithin (.quoteGo) s [0x02, 0x04, 0x06, 0x09, 0x21, 0x51] [.link, .intc, .jr, .s0, .sec] fun t => t.get (pgerrCause 0x6) = 3 ∧
      t.sec = s.sec ∧ t.link.reads = s.link.reads) ∧
    (s.flag SECURITY_STAT_QBUSY = true → s.sec.qFail = true → s.sec.nonce.length = 12 → (ownerHash s.sec.fuses).length = 12 →
      DoesWithin (.quoteDone) s [0x02, 0x04, 0x06, 0x09, 0x41, 0x51] [.link, .intc, .jr] fun t => t.get SECURITY_STAT_QBUSY = 0 ∧
      t.get SECURITY_STAT_QDONE = 1 ∧ t.raw (SECURITY_QUOTE_Q 0).addr = 0x51544B4E#32 ∧ t.raw (SECURITY_QUOTE_Q 6).addr = word s.sec.serial ∧
      (∀ i, i < 12 → t.raw (SECURITY_QUOTE_Q (8 + i)).addr = s.sec.nonce.getD i 0) ∧ t.sec.fuses = s.sec.fuses) ∧
    (∀ (value : Word), value = 0x0C5A#32 → fuseState s.sec.fuses = 3 → ownerSet s.sec.fuses = true → derLength ((s.sec.ownBuf.lookup 0).getD 0) ≤ 768 →
      s.sec.certs.length = 4 → DoesWithin (.owncert value) s [0x02, 0x04, 0x06, 0x09, 0x51] [.link, .intc, .jr, .sec] fun t =>
      (Config.ownerCertOk ((List.range 192).map fun i => (s.sec.ownBuf.lookup i).getD 0) (ownerHash s.sec.fuses) = true →
      t.get SECURITY_STAT_OWNCERT = 1 ∧
      t.sec.certs.getD 2 (0, []) = (derLength ((s.sec.ownBuf.lookup 0).getD 0), (List.range 192).map fun i => (s.sec.ownBuf.lookup i).getD 0)) ∧
      (Config.ownerCertOk ((List.range 192).map fun i => (s.sec.ownBuf.lookup i).getD 0) (ownerHash s.sec.fuses) = false →
      t.get SECURITY_STAT_OWNCERT = s.get SECURITY_STAT_OWNCERT ∧ t.sec = s.sec ∧ t.get (pgerrCause 0x6) = 3)) ∧
    (∀ (value : Word), value ≠ 0x0C5A#32 → DoesWithin (.owncert value) s [0x02, 0x04, 0x06, 0x09, 0x51] [.link, .intc, .jr, .sec] fun t =>
      t.get (pgerrCause 0x6) = 3 ∧ t.sec = s.sec)

/-- Requests for transitions, burns, and fuse words as they are programmed (R498, R499, R500, R501, R502, R504). Where it goes beyond the
rules it states choices of the model: log entries 20, 21, 31. -/
def Obligations.LifecycleAndFuses : Prop :=
    ∀ s : State, s.Inv →
    (∀ (value : Word) (d : Nat), value = word (0x100 + d) → d < 8 → s.raw 0x07020 = 0 → s.flag LIFECYCLE_STAT_BUSY = false →
      partialTarget s.sec.fuses = 0 → fuseState s.sec.fuses < d → d < 7 → s.flag HTHERM_STAT_FUSEOK = true → s.flag LIFECYCLE_STAT_PAUSED = false →
      (transitionTasks s.sec.fuses d).isEmpty = false → DoesWithin (.lifecycleReq value) s [0x02, 0x04, 0x06, 0x07, 0x09, 0x20, 0x51]
      [.link, .intc, .jr, .porter, .sec] fun t => (rowCheck s (fuseState s.sec.fuses) d = 0 → t.get LIFECYCLE_STAT_BUSY = 1 ∧
      t.sec.tasks = transitionTasks s.sec.fuses d ∧ t.sec.job = some d ∧ t.get LIFECYCLE_STAT_PAUSED = 0) ∧
      (rowCheck s (fuseState s.sec.fuses) d ≠ 0 → t.get LIFECYCLE_STAT_BUSY = 0 ∧ t.sec = s.sec ∧
      t.get LIFECYCLE_STAT_REASON = rowCheck s (fuseState s.sec.fuses) d) ∧ t.get LIFECYCLE_REQ_TARGET = d ∧ t.sec.fuses = s.sec.fuses) ∧
    (∀ (value : Word), value.getLsbD 8 = true → s.raw 0x07020 = 0 → s.flag LIFECYCLE_STAT_BUSY = true →
      DoesWithin (.lifecycleReq value) s [0x02, 0x04, 0x06, 0x07, 0x09, 0x20, 0x51] [.link, .intc, .jr, .porter, .sec] fun t =>
      t.get (pgerrCause 0x7) = (if value &&& 0xFFFFFEF8#32 = 0 then 3 else 2) ∧ t.get LIFECYCLE_STAT_BUSY = 1 ∧ t.sec = s.sec) ∧
    (∀ (c : Nat) (w : Nat) (r : List FuseTask), s.sec.tasks = .copy w c :: r → s.flag LIFECYCLE_STAT_PAUSED = false → r.isEmpty = false →
      s.flag HTHERM_STAT_FUSEOK = true → (w < 5 ∧ c < 3) → s.sec.fuses.words = List.replicate 5 [false, false, false] →
      DoesWithin (.fuseWordBurned) s [0x02, 0x04, 0x06, 0x07, 0x08, 0x09, 0x12, 0x20, 0x51] [.link, .intc, .jr, .porter, .svc, .sec] fun t =>
      t.sec.tasks = r ∧ (t.sec.fuses.words.getD w []).getD c false = true ∧ t.get LIFECYCLE_STAT_PAUSED = 0 ∧
      t.get LIFECYCLE_STAT_BUSY = s.get LIFECYCLE_STAT_BUSY ∧ t.get SECURITY_STAT_OWNCERT = s.get SECURITY_STAT_OWNCERT) ∧
    (∀ (v : Word), s.sec.tasks = [.pll v] → s.flag LIFECYCLE_STAT_PAUSED = false → s.sec.job = some 12 →
      DoesWithin (.fuseWordBurned) s [0x02, 0x04, 0x06, 0x07, 0x08, 0x09, 0x12, 0x20, 0x51] [.link, .intc, .jr, .porter, .svc, .sec] fun t =>
      t.sec.fuses.pll = s.sec.fuses.pll ||| v ∧ t.sec.tasks = [] ∧ t.sec.job = none ∧ t.get LIFECYCLE_STAT_BUSY = 0 ∧
      t.sec.fuses.words = s.sec.fuses.words) ∧
    (s.flag LIFECYCLE_STAT_PAUSED = true → DoesWithin (.fuseokTimeout) s [0x02, 0x04, 0x06, 0x07, 0x09, 0x51] [.link, .intc, .jr, .sec] fun t =>
      t.get LIFECYCLE_STAT_BUSY = 0 ∧ t.get LIFECYCLE_STAT_PAUSED = 0 ∧ t.sec.tasks = [] ∧ t.sec.job = none ∧ t.get LIFECYCLE_STAT_REASON = 5 ∧
      t.sec.fuses = s.sec.fuses) ∧
    (∀ (value : Word), value = 0xB5C30001#32 → s.raw 0x07020 = 0 → s.flag LIFECYCLE_STAT_BUSY = false → s.sec.fuses.hfw < s.sec.svn →
      s.sec.fuses.hfw < 64 → s.flag HTHERM_STAT_FUSEOK = true → s.flag LIFECYCLE_STAT_PAUSED = false →
      DoesWithin (.burn value) s [0x02, 0x04, 0x06, 0x07, 0x09, 0x20, 0x51] [.link, .intc, .jr, .porter, .sec] fun t =>
      t.get LIFECYCLE_STAT_BUSY = 1 ∧ t.sec.tasks = [.hfw] ∧ t.sec.job = some 9 ∧ t.sec.fuses = s.sec.fuses ∧ t.get LIFECYCLE_STAT_PAUSED = 0) ∧
    (∀ (value : Word), bitsAt value.toNat 16 16 ≠ 0xB5C3 → s.raw 0x07020 = 0 → DoesWithin (.burn value) s [0x02, 0x04, 0x06, 0x07, 0x09, 0x20, 0x51]
      [.link, .intc, .jr, .porter, .sec] fun t => t.get (pgerrCause 0x7) = 3 ∧ t.sec = s.sec ∧
      t.get LIFECYCLE_STAT_BUSY = s.get LIFECYCLE_STAT_BUSY)

/-- Verification, erasure and activation of the standby firmware, and the H-die's restart (R508, R509). Where it goes beyond the rules it
states choices of the model: log entries 21, 29, 64, 145, 155. -/
def Obligations.FirmwareUpdate : Prop :=
    ∀ s : State, s.Inv →
    (s.raw 0x06020 = 0 → Does (.securityFwVerify) s fun t => t.sec.fwCheck = some (s.get SECURITY_FWCTL_TARGET) ∧ t.sec.flash = s.sec.flash ∧
      t.get SECURITY_STAT_STBY = s.get SECURITY_STAT_STBY ∧ t.pwr = s.pwr) ∧
    (s.raw 0x06020 = 0 → s.flag LIFECYCLE_STAT_BUSY = false → Does (.securityFwErase) s fun t => t.get SECURITY_STAT_STBY = 0 ∧
      t.sec.flash = s.sec.flash.filter (fun p => p.1 < (targetPart s (s.get SECURITY_FWCTL_TARGET)).1 || (targetPart s (s.get SECURITY_FWCTL_TARGET)).1 + (targetPart s (s.get SECURITY_FWCTL_TARGET)).2 ≤ p.1) ∧
      t.sec.fwCheck = none ∧ t.pwr = s.pwr) ∧
    (s.raw 0x06020 = 0 → mayActivate s = true → s.flag DEVICE_MODE_TWIN = false → Does (.securityFwActivate) s fun t => t.pwr.h = .boot ∧
      t.pwr.restarting = true ∧ t.get SHUTTLE_H_STAT_PERMIT = 0 ∧ t.sec.fuses = s.sec.fuses ∧ t.sec.flash = s.sec.flash ∧
      t.sec.sel = 1 - s.get SECURITY_STAT_ACTSLOT) ∧
    (s.raw 0x06020 = 0 → mayActivate s = true → s.flag DEVICE_MODE_TWIN = true → reachable s (pageOf SHUTTLE_F_STAT_SHUT.addr) = true →
      Does (.securityFwActivate) s fun t => t.pwr = s.pwr ∧ t.sec = s.sec ∧ t.link.reads.length = s.link.reads.length + 1) ∧
    (s.raw 0x06020 = 0 → mayActivate s = false → Does (.securityFwActivate) s fun t => t.get (pgerrCause 0x6) = 3 ∧ t.pwr = s.pwr ∧ t.sec = s.sec) ∧
    (s.sec.fwCheck = some 0 → DoesWithin (.securityFwstby) s [0x02, 0x04, 0x06, 0x09, 0x51] [.link, .intc, .jr, .sec] fun t =>
      t.get SECURITY_STAT_STBY = (if firmwareOk s 1 (firmwareAt s (standbySlot s)) then 2 else 3) ∧ t.sec.fwCheck = none ∧ t.sec.fwTarget = 0 ∧
      t.sec.stbySvn = (firmwareAt s (standbySlot s)).svn ∧
      t.get SECURITY_FWSTBYV_VER = (if firmwareOk s 1 (firmwareAt s (standbySlot s)) then (firmwareAt s (standbySlot s)).version % 2 ^ SECURITY_FWSTBYV_VER.wd else s.get SECURITY_FWSTBYV_VER)) ∧
    (s.sec.fwCheck = some 1 → DoesWithin (.securityFwstby) s [0x02, 0x04, 0x06, 0x09, 0x51] [.link, .intc, .jr, .sec] fun t =>
      t.get SECURITY_STAT_STBY = (if recordOk s (recordAt s) then 2 else 3) ∧ t.sec.fwCheck = none ∧ t.sec.fwTarget = 1 ∧
      t.get SECURITY_FWSTBYV_VER = s.get SECURITY_FWSTBYV_VER) ∧
    (s.pwr.restarting = true → DoesWithin (.hDieRestartDone) s [0x00, 0x02, 0x04, 0x06, 0x07, 0x09, 0x14, 0x15, 0x20, 0x51]
      [.pwr, .link, .wdog, .intc, .jr, .porter, .safety, .sec] fun t => t.pwr.restarting = false ∧
      t.pwr.h = (if (bootSlot (loadFuses s.silent)).isSome then .run else .boot) ∧ (∀ k, bootSlot (loadFuses s.silent) = some k →
      t.sec.svn = (firmwareAt (loadFuses s.silent) k).svn ∧
      t.sec.fwHash = hashWords (flashBytes (loadFuses s.silent) (slotBase k) (firmwareAt (loadFuses s.silent) k).len) ∧
      t.get SECURITY_STAT_RECOVERY = 0 ∧ t.safety.startTest = true ∧ t.get SEAL_STAT_BUSY = 1) ∧ (bootSlot (loadFuses s.silent) = none →
      t.get SECURITY_STAT_RECOVERY = 1 ∧ t.sec = s.sec))

/-- The instructions of the Wicket port: what they shift out, and what opens and closes its scopes (R505, R506). Where it goes beyond the
rules it states choices of the model: log entries 21, 169. -/
def Obligations.WicketPort : Prop :=
    ∀ s : State, s.Inv →
    (∀ (pins : Nat) (preload : Nat), scopeOpen s 0 = false → DoesWithin (.extest pins preload) s [] [.sec] fun t => t.sec.ir = 0 ∧
      t.sec.boundary = preload ∧ t.out = [.tap pins 0] ∧ t.regs = s.regs) ∧
    (∀ (pins : Nat) (preload : Nat), scopeOpen s 0 = true → DoesWithin (.extest pins preload) s [] [.sec] fun t => t.sec.ir = 0 ∧
      t.sec.boundary = preload ∧ t.out = [.tap pins 0, .balls preload] ∧ t.regs = s.regs) ∧
    (∀ (pins : Nat) (preload : Nat), DoesWithin (.samplePreload pins preload) s [] [.sec] fun t => t.sec.ir = 2 ∧ t.sec.boundary = preload ∧
      t.out = [.tap pins 0] ∧ t.regs = s.regs) ∧
    (DoesWithin (.idcode) s [] [.sec] fun t => t.sec.ir = 1 ∧ (∃ m, m < 2048 ∧ t.out = [.tap (0xB * 2 ^ 28 + 0x0192 * 2 ^ 12 + 2 * m + 1) 32]) ∧
      t.regs = s.regs) ∧
    (DoesWithin (.challenge) s [] [.sec] fun t => t.sec.ir = 0x10 ∧ (∃ ws : List Word, ws.length = 8 ∧ t.sec.challenge = some ws ∧
      t.out = [.tap (ws.reverse.foldl (fun n w => n * 2 ^ 32 + w.toNat) 0) 256]) ∧ t.regs = s.regs) ∧
    (∀ (token : List Word) (ch : List Word), s.flag WICKET_STAT_LOCKOUT = false → s.flag WICKET_STAT_DISABLED = false →
      s.flag SHUTTLE_H_STAT_FSHUT = true → s.sec.challenge = some ch → DoesWithin (.response token) s [0x02, 0x04, 0x08, 0x09, 0x20, 0x51]
      [.link, .intc, .jr, .porter, .sec] fun t => (tokenOk s token 5 (tokSigner s token) (tokArg token) ch = true →
      wicketSigner s (tokSigner s token) = true → t.get WICKET_STAT_SCOPE = s.get WICKET_STAT_SCOPE ||| tokArg token % 4 ∧
      t.get WICKET_STAT_FAILS = s.get WICKET_STAT_FAILS) ∧
      ((tokenOk s token 5 (tokSigner s token) (tokArg token) ch && wicketSigner s (tokSigner s token)) = false →
      t.get WICKET_STAT_SCOPE = s.get WICKET_STAT_SCOPE ∧ t.get WICKET_STAT_FAILS = min (s.get WICKET_STAT_FAILS + 1) 3 ∧
      t.get WICKET_STAT_LOCKOUT = bit (decide (2 ≤ s.get WICKET_STAT_FAILS))) ∧ t.sec.ir = 0x11 ∧ t.sec.challenge = none) ∧
    (∀ (token : List Word), s.flag WICKET_STAT_LOCKOUT = true → DoesWithin (.response token) s [0x02, 0x04, 0x08, 0x09, 0x20, 0x51]
      [.link, .intc, .jr, .porter, .sec] fun t => t.regs = s.regs ∧ t.sec.challenge = none ∧ t.sec.ir = 0x11) ∧
    (DoesWithin (.wstatus) s [] [.sec] fun t => t.sec.ir = 0x12 ∧ t.out = [.tap (s.raw WICKET_STAT_SCOPE.addr).toNat 32] ∧ t.regs = s.regs) ∧
    (DoesWithin (.bypass) s [] [.sec] fun t => t.sec.ir = 0x3F ∧ t.out = [.tap 0 1] ∧ t.regs = s.regs) ∧
    (DoesWithin (.trstLow) s [0x08] [.sec] fun t => t.sec.ir = 1 ∧ t.sec.challenge = none ∧ t.get WICKET_STAT_SCOPE = 0 ∧
      t.get WICKET_STAT_FAILS = s.get WICKET_STAT_FAILS) ∧
    (s.raw 0x08020 = 0 → Does (.wicketClose) s fun t => t = s.silent.put WICKET_STAT_SCOPE 0) ∧
    (s.raw 0x08020 = 0 → DoesWithin (.wicketDisable) s [0x02, 0x04, 0x08, 0x09, 0x51] [.link, .intc, .jr] fun t => t.get WICKET_CTL_DISABLE = 1 ∧
      t.get WICKET_STAT_DISABLED = 1 ∧ t.get WICKET_STAT_SCOPE = s.get WICKET_STAT_SCOPE ∧ t.sec = s.sec)

/-- The porter's sources, harvester, battery, clock trim and door watch (R510, R511, R512, R513, R514). Where it goes beyond the rules it
states choices of the model: log entries 14, 30. -/
def Obligations.PorterSourcesAndWatch : Prop :=
    ∀ s : State, s.Inv →
    (∀ (src : Nat) (vsto : Nat) (elapsed : Nat), s.porter.on = true → ((src = 1 ∨ src = 2 ∨ src = 3)) → s.get PORTER_STAT_SRC ≠ src → vsto < 8192 →
      DoesWithin (.porterSourceChange src vsto elapsed) s [0x02, 0x04, 0x09, 0x20, 0x51] [.link, .intc, .jr, .porter] fun t =>
      t.get PORTER_STAT_SRC = src ∧ t.get PORTER_STAT_CHANGES = min (s.get PORTER_STAT_CHANGES + 1) (2 ^ PORTER_STAT_CHANGES.wd - 1) ∧
      t.get PORTER_VMEAS_VSTO = min (vsto / 2) 4095 ∧ t.porter.rtc = (s.porter.rtc + elapsed) % 2 ^ 40 ∧
      t.porter.next = (s.porter.next + 1) % 2 ^ 32) ∧
    (∀ (elapsed : Nat), s.porter.on = true → DoesWithin (.porterStop elapsed) s [0x20] [.porter] fun t => t.porter.on = false ∧
      t.get PORTER_STAT_SRC = 0 ∧ t.porter.rj = s.porter.rj) ∧
    (∀ (src : Nat) (vsto : Nat), s.porter.on = false → ((src = 1 ∨ src = 2 ∨ src = 3)) → DoesWithin (.porterRestart src vsto) s [0x20] [.porter]
      fun t => t.porter.on = true ∧ t.get PORTER_STAT_SRC = src ∧ t.porter.rtc = 0 ∧ t.get PORTER_CTL_DWEN = 0 ∧
      t.porter.next = (s.porter.next + 1) % 2 ^ 32 ∧ (t.porter.rj.head?).map (·.code) = some 1 ∧ t.porter.lcMirror = s.porter.lcMirror) ∧
    (∀ (voc : Nat) (vsto : Nat) (elapsed : Nat), (330 ≤ voc ∧ voc ≤ 5000) → (1800 ≤ vsto ∧ vsto < 4100) →
      DoesWithin (.harvestSample voc vsto elapsed) s [0x20] [.porter] fun t => t.porter.vdraw = voc * 4 / 5 ∧ t.get PORTER_VMEAS_VSTO = vsto / 2 ∧
      t.porter.rj = s.porter.rj) ∧
    (∀ (voc : Nat) (vsto : Nat) (elapsed : Nat), ((voc < 330 ∨ 4100 ≤ vsto)) → DoesWithin (.harvestSample voc vsto elapsed) s [0x20] [.porter] fun t =>
      t.porter.vdraw = 0 ∧ t.get PORTER_VMEAS_VSTO = min vsto 4100 / 2) ∧
    (∀ (mv : Nat) (elapsed : Nat), s.porter.on = true → mv < 1500 → s.get PORTER_STAT_BAT ≠ 2 →
      DoesWithin (.batteryMeasure mv elapsed) s [0x02, 0x04, 0x09, 0x20, 0x51] [.link, .intc, .jr, .porter] fun t => t.get PORTER_STAT_BAT = 2 ∧
      t.get PORTER_VMEAS_VBAT = mv ∧ t.porter.next = (s.porter.next + 1) % 2 ^ 32 ∧ t.porter.rtc = (s.porter.rtc + elapsed) % 2 ^ 40) ∧
    (∀ (mv : Nat) (elapsed : Nat), s.porter.on = true → 2300 ≤ mv → mv < 4096 → s.get PORTER_STAT_BAT = 0 →
      DoesWithin (.batteryMeasure mv elapsed) s [0x02, 0x04, 0x09, 0x20, 0x51] [.link, .intc, .jr, .porter] fun t => t.get PORTER_STAT_BAT = 0 ∧
      t.get PORTER_VMEAS_VBAT = mv ∧ t.porter.rj = s.porter.rj) ∧
    (∀ (elapsed : Nat), s.porter.on = true → s.getI PORTER_RTCTRIM_TRIM = 0 → s.porter.trim = 0 → (0 ≤ s.porter.ticks ∧ s.porter.ticks < 32768) →
      DoesWithin (.rtcTrim elapsed) s [] [.porter] fun t => t.porter.ticks = s.porter.ticks ∧ t.porter.rtc = (s.porter.rtc + elapsed) % 2 ^ 40 ∧
      t.regs = s.regs) ∧
    (∀ (elapsed : Nat), s.porter.on = true → 0 ≤ s.porter.ticks → DoesWithin (.rtcTrim elapsed) s [] [.porter] fun t => (0 ≤ t.porter.ticks ∧
      t.porter.ticks < 32768) ∧ (0 ≤ t.porter.trim ∧ t.porter.trim < 1) ∧
      (t.porter.ticks + t.porter.trim : Rat) - (s.porter.ticks + s.porter.trim) - (s.getI PORTER_RTCTRIM_TRIM : Int) * 2097152 / (10000000 : Rat) = -32768 * (((s.porter.ticks + (s.porter.trim + (s.getI PORTER_RTCTRIM_TRIM : Int) * 2097152 / (10000000 : Rat)).floor) / 32768 : Int) : Rat)) ∧
    (∀ (levels : Nat) (elapsed : Nat) (d : Nat), s.porter.on = true → s.get PORTER_STAT_SRC ≠ 1 → s.flag PORTER_CTL_DWEN = true →
      s.porter.doors = some d → s.porter.doorsMask = s.get PORTER_CTL_DWMASK → levels &&& s.get PORTER_CTL_DWMASK ≠ d &&& s.get PORTER_CTL_DWMASK →
      s.porter.doorsSeen = levels &&& s.get PORTER_CTL_DWMASK → DoesWithin (.doorWatch levels elapsed) s [0x20] [.porter] fun t =>
      t.porter.doors = some (levels &&& s.get PORTER_CTL_DWMASK) ∧ t.porter.next = (s.porter.next + 1) % 2 ^ 32 ∧
      (t.porter.rj.head?).map (·.code) = some 4) ∧
    (∀ (levels : Nat) (elapsed : Nat) (d : Nat), s.porter.on = true → s.get PORTER_STAT_SRC ≠ 1 → s.flag PORTER_CTL_DWEN = true →
      s.porter.doors = some d → s.porter.doorsMask = s.get PORTER_CTL_DWMASK → s.porter.doorsSeen = d → d &&& s.get PORTER_CTL_DWMASK = d →
      DoesWithin (.doorWatch levels elapsed) s [0x20] [.porter] fun t => t.porter.doors = some d ∧
      t.porter.doorsSeen = levels &&& s.get PORTER_CTL_DWMASK ∧ t.porter.rj = s.porter.rj ∧ t.regs = s.regs)
end

