-- ==== Sys2Proof/Laws/Ops.lean ====
section
/-! SUPPORT. What the operations over the register space and over the byte stores do: a read after a write, the frame of a write, and that
every write keeps the canonical form. -/

namespace Sys2Proof.Machine

/-! The register space -/

theorem mem_setCell {a : Nat} {w d : Word} {l : List (Nat × Word)} {x : Nat × Word} (h : x ∈ setCell a w d l) :
    (x = (a, w) ∧ w ≠ d) ∨ x ∈ l := by
  induction l with
  | nil => unfold setCell at h; split at h <;> simp_all
  | cons y t ih =>
    unfold setCell at h
    split at h
    · rcases List.mem_cons.1 h with h | h
      · simp [h]
      · rcases ih h with h | h <;> simp [h]
    · split at h
      · split at h <;> simp_all; rcases h with h | h <;> simp_all
      · split at h <;> simp_all

theorem setCell_pairwise (a : Nat) (w d : Word) (l : List (Nat × Word)) (h : l.Pairwise (fun x y => x.1 < y.1)) :
    (setCell a w d l).Pairwise (fun x y => x.1 < y.1) := by
  induction l with
  | nil => unfold setCell; split <;> simp
  | cons y t ih =>
    rw [List.pairwise_cons] at h
    unfold setCell
    split
    · rename_i hb
      rw [List.pairwise_cons]
      refine ⟨fun x hx => ?_, ih h.2⟩
      rcases mem_setCell hx with ⟨rfl, -⟩ | hx
      · exact hb
      · exact h.1 x hx
    · split
      · split
        · exact h.2
        · rename_i _ hb _
          rw [List.pairwise_cons]; subst hb; exact h
      · split
        · rw [List.pairwise_cons]; exact h
        · rename_i h1 h2 _
          rw [List.pairwise_cons, List.pairwise_cons]
          refine ⟨fun x hx => ?_, h⟩
          rcases List.mem_cons.1 hx with rfl | hx
          · simp at *; omega
          · have := h.1 x hx; simp at *; omega

/-- A write of a register keeps the space's one form. -/
theorem regs_setCell {l : List (Nat × Word)} (h : Regs.wf l) (a : Nat) (w : Word) : Regs.wf (setCell a w (resetWord a) l) :=
  ⟨setCell_pairwise a w _ l h.1, fun x hx => by rcases mem_setCell hx with ⟨rfl, hw⟩ | hx; exacts [hw, h.2 x hx]⟩

/-- Leaving registers out keeps the space's one form. -/
theorem regs_filter {l : List (Nat × Word)} (h : Regs.wf l) (p : Nat × Word → Bool) : Regs.wf (l.filter p) :=
  ⟨h.1.filter p, fun x hx => h.2 x (List.mem_filter.1 hx).1⟩

theorem cellAt_none {l : List (Nat × Word)} {a : Nat} (h : ∀ x ∈ l, a < x.1) : cellAt l a = none := by
  induction l with
  | nil => rfl
  | cons y t ih =>
    have := h y (by simp)
    unfold cellAt
    rw [if_neg (by omega)]
    exact ih fun x hx => h x (by simp [hx])

/-- Writing one cell leaves every other as it was. -/
theorem cellAt_setCell_ne {a b : Nat} (hb : b ≠ a) (w d : Word) (l : List (Nat × Word)) : cellAt (setCell a w d l) b = cellAt l b := by
  induction l with
  | nil => unfold setCell; split <;> simp [cellAt, Ne.symm hb]
  | cons y t ih =>
    unfold setCell
    split
    · simp [cellAt, ih]
    · split
      · rename_i h1 h2
        split <;> simp [cellAt, h2, Ne.symm hb]
      · split <;> simp [cellAt, Ne.symm hb]

/-- A cell reads as it was last written. -/
theorem cellAt_setCell_self {a : Nat} (w d : Word) {l : List (Nat × Word)} (h : l.Pairwise (fun x y => x.1 < y.1)) :
    (cellAt (setCell a w d l) a).getD d = w := by
  induction l with
  | nil => unfold setCell; split <;> simp_all [cellAt]
  | cons y t ih =>
    rw [List.pairwise_cons] at h
    unfold setCell
    split
    · rename_i h1
      simp only [cellAt]
      rw [if_neg (by omega)]
      exact ih h.2
    · split
      · rename_i h1 h2
        split
        · rename_i hw
          rw [cellAt_none (fun x hx => by have := h.1 x hx; omega)]
          exact hw.symm
        · simp [cellAt]
      · rename_i h1 h2
        split
        · rename_i hw
          rw [cellAt_none]
          · exact hw.symm
          · intro x hx
            rcases List.mem_cons.1 hx with rfl | hx
            · simp at *; omega
            · have := h.1 x hx; simp at *; omega
        · simp [cellAt]

/-- A register reads as it was last written. -/
theorem raw_setRaw_self {s : State} (h : Regs.wf s.regs) (a : Nat) (w : Word) : (s.setRaw a w).raw a = w :=
  cellAt_setCell_self w _ h.1

/-- A write of one register leaves every other as it was. -/
theorem raw_setRaw_ne (s : State) {a b : Nat} (hb : b ≠ a) (w : Word) : (s.setRaw a w).raw b = s.raw b := by
  unfold State.raw State.setRaw
  rw [cellAt_setCell_ne hb]

/-- Writing a field of one register leaves every other register as it was. -/
theorem raw_put_ne (s : State) {f : Fld} {b : Nat} (hb : b ≠ f.addr) (v : Nat) : (s.put f v).raw b = s.raw b := raw_setRaw_ne s hb _

theorem get_put_ne (s : State) {f g : Fld} (hb : g.addr ≠ f.addr) (v : Nat) : (s.put f v).get g = s.get g := by
  unfold State.get
  rw [raw_put_ne s hb]

/-! The fields of a register -/

/-- Each bit of a word whose field was replaced: the value's within the field, the old word's outside. -/
theorem getLsbD_insertBits (w : Word) (f : Fld) (v i : Nat) (hf : f.lo + f.wd ≤ 32) :
    (insertBits w f v).getLsbD i = if f.lo ≤ i ∧ i < f.lo + f.wd then v.testBit (i - f.lo) else w.getLsbD i := by
  obtain ⟨ad, lo, wd⟩ := f
  dsimp only at hf ⊢
  unfold insertBits word bitsAt
  dsimp only
  rw [Nat.shiftRight_eq_div_pow, BitVec.getLsbD_ofNat]
  have h1 : w.toNat = 2 ^ lo * (w.toNat / 2 ^ lo) + w.toNat % 2 ^ lo := (Nat.div_add_mod _ _).symm
  have h2 : w.toNat / 2 ^ lo = 2 ^ wd * (w.toNat / 2 ^ lo / 2 ^ wd) + w.toNat / 2 ^ lo % 2 ^ wd := (Nat.div_add_mod _ _).symm
  have h3 : w.toNat - w.toNat / 2 ^ lo % 2 ^ wd * 2 ^ lo + v % 2 ^ wd * 2 ^ lo =
      2 ^ lo * (2 ^ wd * (w.toNat / 2 ^ lo / 2 ^ wd) + v % 2 ^ wd) + w.toNat % 2 ^ lo := by
    generalize w.toNat / 2 ^ lo / 2 ^ wd = q at *
    generalize w.toNat / 2 ^ lo % 2 ^ wd = m at *
    have h4 : w.toNat = 2 ^ lo * (2 ^ wd * q + m) + w.toNat % 2 ^ lo := by rw [← h2]; exact h1
    have : w.toNat - m * 2 ^ lo = 2 ^ lo * (2 ^ wd * q) + w.toNat % 2 ^ lo := by
      have h5 : 2 ^ lo * (2 ^ wd * q + m) = 2 ^ lo * (2 ^ wd * q) + m * 2 ^ lo := by ring
      omega
    rw [this]; ring
  rw [h3, Nat.testBit_two_pow_mul_add _ (Nat.mod_lt _ (Nat.two_pow_pos _)), Nat.testBit_two_pow_mul_add _ (Nat.mod_lt _ (Nat.two_pow_pos _))]
  have hw : ∀ j, w.getLsbD j = w.toNat.testBit j := fun j => rfl
  rw [hw]
  by_cases hi : i < lo
  · have h7 : ¬ (lo ≤ i ∧ i < lo + wd) := by omega
    have : i < 32 := by omega
    simp [hi, h7, this, Nat.testBit_mod_two_pow]
  · by_cases hj : i - lo < wd
    · have : i < lo + wd := by omega
      have : lo ≤ i := by omega
      simp [*, Nat.testBit_mod_two_pow]; omega
    · have h6 : ¬ (lo ≤ i ∧ i < lo + wd) := by omega
      rw [if_neg hi, if_neg hj, if_neg h6, ← Nat.shiftRight_eq_div_pow, ← Nat.shiftRight_eq_div_pow, Nat.testBit_shiftRight, Nat.testBit_shiftRight]
      have : lo + (wd + (i - lo - wd)) = i := by omega
      rw [this]
      by_cases hk : i < 32
      · simp [hk]
      · have : w.toNat.testBit i = false := Nat.testBit_lt_two_pow (lt_of_lt_of_le w.isLt (Nat.pow_le_pow_right (by omega) (by omega)))
        simp [this]

/-- A field reads as it was last written. -/
theorem get_put_self {s : State} (h : Regs.wf s.regs) {f : Fld} (hf : f.lo + f.wd ≤ 32) (v : Nat) : (s.put f v).get f = v % 2 ^ f.wd := by
  unfold State.get State.put
  rw [raw_setRaw_self h]
  refine Nat.eq_of_testBit_eq fun i => ?_
  unfold bitsAt
  rw [Nat.testBit_mod_two_pow, Nat.testBit_shiftRight, Nat.testBit_mod_two_pow]
  have := getLsbD_insertBits (s.raw f.addr) f v (f.lo + i) hf
  change (insertBits (s.raw f.addr) f v).toNat.testBit (f.lo + i) = _ at this
  rw [this]
  by_cases hi : i < f.wd
  · simp [hi]
  · simp [hi]

/-- Writing a field leaves every field that shares no bit with it as it was. -/
theorem get_put_disjoint {s : State} (h : Regs.wf s.regs) {f g : Fld} (hf : f.lo + f.wd ≤ 32)
    (hd : g.addr ≠ f.addr ∨ g.lo + g.wd ≤ f.lo ∨ f.lo + f.wd ≤ g.lo) (v : Nat) : (s.put f v).get g = s.get g := by
  by_cases ha : g.addr = f.addr
  · have hd : g.lo + g.wd ≤ f.lo ∨ f.lo + f.wd ≤ g.lo := by tauto
    unfold State.get State.put
    rw [ha, raw_setRaw_self h]
    refine Nat.eq_of_testBit_eq fun i => ?_
    unfold bitsAt
    rw [Nat.testBit_mod_two_pow, Nat.testBit_shiftRight, Nat.testBit_mod_two_pow, Nat.testBit_shiftRight]
    have := getLsbD_insertBits (s.raw f.addr) f v (g.lo + i) hf
    change (insertBits (s.raw f.addr) f v).toNat.testBit (g.lo + i) = _ at this
    rw [this]
    by_cases hi : i < g.wd
    · rw [if_neg (by omega)]; rfl
    · simp [hi]
  · exact get_put_ne s ha v

/-! The byte stores -/

theorem mem_setByte {a : Nat} {w : Byte} {l : List Host.Cell} {x : Host.Cell} (h : x ∈ setByte a w l) :
    (x = (a, w) ∧ w ≠ 0#8) ∨ x ∈ l := by
  induction l with
  | nil => unfold setByte at h; split at h <;> simp_all
  | cons y t ih =>
    unfold setByte at h
    split at h
    · rcases List.mem_cons.1 h with h | h
      · simp [h]
      · rcases ih h with h | h <;> simp [h]
    · split at h
      · split at h <;> simp_all; rcases h with h | h <;> simp_all
      · split at h <;> simp_all

theorem setByte_pairwise (a : Nat) (w : Byte) (l : List Host.Cell) (h : l.Pairwise (fun x y => x.1 < y.1)) :
    (setByte a w l).Pairwise (fun x y => x.1 < y.1) := by
  induction l with
  | nil => unfold setByte; split <;> simp
  | cons y t ih =>
    rw [List.pairwise_cons] at h
    unfold setByte
    split
    · rename_i hb
      rw [List.pairwise_cons]
      refine ⟨fun x hx => ?_, ih h.2⟩
      rcases mem_setByte hx with ⟨rfl, -⟩ | hx
      · exact hb
      · exact h.1 x hx
    · split
      · split
        · exact h.2
        · rename_i _ hb _
          rw [List.pairwise_cons]; subst hb; exact h
      · split
        · rw [List.pairwise_cons]; exact h
        · rename_i h1 h2 _
          rw [List.pairwise_cons, List.pairwise_cons]
          refine ⟨fun x hx => ?_, h⟩
          rcases List.mem_cons.1 hx with rfl | hx
          · simp at *; omega
          · have := h.1 x hx; simp at *; omega

/-- A write of one byte keeps the store's one form. -/
theorem wf_setByte {l : List Host.Cell} (h : Memory.wf l) (a : Nat) (w : Byte) : Memory.wf (setByte a w l) :=
  ⟨setByte_pairwise a w l h.1, fun x hx => by rcases mem_setByte hx with ⟨rfl, hw⟩ | hx; exacts [hw, h.2 x hx]⟩

/-- A write of a run of bytes keeps the store's one form. -/
theorem wf_setBytes {a : Nat} {bs : List Byte} {l : List Host.Cell} (h : Memory.wf l) : Memory.wf (setBytes a bs l) := by
  induction bs generalizing a l with
  | nil => exact h
  | cons x t ih => exact ih (wf_setByte h a x)

theorem wf_putWords {o : Nat} {ws : List Word} {m : List Host.Cell} (h : Memory.wf m) : Memory.wf (putWords o ws m) := wf_setBytes h

theorem wf_nil : Memory.wf [] := ⟨.nil, fun _ h => absurd h (List.not_mem_nil)⟩

/-- The snapshot's H share is laid over the F share in the same one form (Table 3-23). -/
theorem wf_hShare {s : State} {fv : Bool} {n : Nat} {sw : Word} {m : List Host.Cell} (h : Memory.wf m) : Memory.wf (hShare s fv n sw m) := by
  unfold hShare
  exact wf_putWords (wf_putWords (wf_putWords (wf_putWords (wf_putWords (wf_putWords (wf_putWords (wf_putWords (wf_putWords h))))))))

end Sys2Proof.Machine
end

