-- ==== Sys2Proof/Laws/State.lean ====
section
/-! SUPPORT. One lemma per field of the state for each operation that stores a register: only the register space changes. -/

namespace Sys2Proof.Machine

@[simp] theorem State.setRaw_pending (s : State) (a : Nat) (w : Word) : (s.setRaw a w).pending = s.pending := rfl
@[simp] theorem State.setRaw_free (s : State) (a : Nat) (w : Word) : (s.setRaw a w).free = s.free := rfl
@[simp] theorem State.setRaw_out (s : State) (a : Nat) (w : Word) : (s.setRaw a w).out = s.out := rfl
@[simp] theorem State.setRaw_pwr (s : State) (a : Nat) (w : Word) : (s.setRaw a w).pwr = s.pwr := rfl
@[simp] theorem State.setRaw_link (s : State) (a : Nat) (w : Word) : (s.setRaw a w).link = s.link := rfl
@[simp] theorem State.setRaw_permit (s : State) (a : Nat) (w : Word) : (s.setRaw a w).permit = s.permit := rfl
@[simp] theorem State.setRaw_host (s : State) (a : Nat) (w : Word) : (s.setRaw a w).host = s.host := rfl
@[simp] theorem State.setRaw_wdog (s : State) (a : Nat) (w : Word) : (s.setRaw a w).wdog = s.wdog := rfl
@[simp] theorem State.setRaw_intc (s : State) (a : Nat) (w : Word) : (s.setRaw a w).intc = s.intc := rfl
@[simp] theorem State.setRaw_jr (s : State) (a : Nat) (w : Word) : (s.setRaw a w).jr = s.jr := rfl
@[simp] theorem State.setRaw_selv (s : State) (a : Nat) (w : Word) : (s.setRaw a w).selv = s.selv := rfl
@[simp] theorem State.setRaw_warp (s : State) (a : Nat) (w : Word) : (s.setRaw a w).warp = s.warp := rfl
@[simp] theorem State.setRaw_clk (s : State) (a : Nat) (w : Word) : (s.setRaw a w).clk = s.clk := rfl
@[simp] theorem State.setRaw_weave (s : State) (a : Nat) (w : Word) : (s.setRaw a w).weave = s.weave := rfl
@[simp] theorem State.setRaw_s0 (s : State) (a : Nat) (w : Word) : (s.setRaw a w).s0 = s.s0 := rfl
@[simp] theorem State.setRaw_porter (s : State) (a : Nat) (w : Word) : (s.setRaw a w).porter = s.porter := rfl
@[simp] theorem State.setRaw_loom (s : State) (a : Nat) (w : Word) : (s.setRaw a w).loom = s.loom := rfl
@[simp] theorem State.setRaw_clu (s : State) (a : Nat) (w : Word) : (s.setRaw a w).clu = s.clu := rfl
@[simp] theorem State.setRaw_warden (s : State) (a : Nat) (w : Word) : (s.setRaw a w).warden = s.warden := rfl
@[simp] theorem State.setRaw_heat (s : State) (a : Nat) (w : Word) : (s.setRaw a w).heat = s.heat := rfl
@[simp] theorem State.setRaw_panel (s : State) (a : Nat) (w : Word) : (s.setRaw a w).panel = s.panel := rfl
@[simp] theorem State.setRaw_svc (s : State) (a : Nat) (w : Word) : (s.setRaw a w).svc = s.svc := rfl
@[simp] theorem State.setRaw_safety (s : State) (a : Nat) (w : Word) : (s.setRaw a w).safety = s.safety := rfl
@[simp] theorem State.setRaw_louv (s : State) (a : Nat) (w : Word) : (s.setRaw a w).louv = s.louv := rfl
@[simp] theorem State.setRaw_aux (s : State) (a : Nat) (w : Word) : (s.setRaw a w).aux = s.aux := rfl
@[simp] theorem State.setRaw_analog (s : State) (a : Nat) (w : Word) : (s.setRaw a w).analog = s.analog := rfl
@[simp] theorem State.setRaw_sec (s : State) (a : Nat) (w : Word) : (s.setRaw a w).sec = s.sec := rfl
@[simp] theorem State.setRaw_cells (s : State) (a : Nat) (w : Word) : (s.setRaw a w).cells = s.cells := rfl
@[simp] theorem State.setRaw_ring (s : State) (a : Nat) (w : Word) : (s.setRaw a w).ring = s.ring := rfl
@[simp] theorem State.setRaw_twin (s : State) (a : Nat) (w : Word) : (s.setRaw a w).twin = s.twin := rfl
@[simp] theorem State.setRaw_edge (s : State) (a : Nat) (w : Word) : (s.setRaw a w).edge = s.edge := rfl
@[simp] theorem State.setRaw_syn (s : State) (a : Nat) (w : Word) : (s.setRaw a w).syn = s.syn := rfl
@[simp] theorem State.setRaw_blank (s : State) (a : Nat) (w : Word) : (s.setRaw a w).blank = s.blank := rfl
@[simp] theorem State.setRaw_cur (s : State) (a : Nat) (w : Word) : (s.setRaw a w).cur = s.cur := rfl
@[simp] theorem State.setRaw_mppt (s : State) (a : Nat) (w : Word) : (s.setRaw a w).mppt = s.mppt := rfl
@[simp] theorem State.setRaw_ride (s : State) (a : Nat) (w : Word) : (s.setRaw a w).ride = s.ride := rfl
@[simp] theorem State.setRaw_isl (s : State) (a : Nat) (w : Word) : (s.setRaw a w).isl = s.isl := rfl
@[simp] theorem State.setRaw_adc (s : State) (a : Nat) (w : Word) : (s.setRaw a w).adc = s.adc := rfl
@[simp] theorem State.setRaw_fcmp (s : State) (a : Nat) (w : Word) : (s.setRaw a w).fcmp = s.fcmp := rfl
@[simp] theorem State.setRaw_meter (s : State) (a : Nat) (w : Word) : (s.setRaw a w).meter = s.meter := rfl

@[simp] theorem State.put_pending (s : State) (f : Fld) (v : Nat) : (s.put f v).pending = s.pending := rfl
@[simp] theorem State.put_free (s : State) (f : Fld) (v : Nat) : (s.put f v).free = s.free := rfl
@[simp] theorem State.put_out (s : State) (f : Fld) (v : Nat) : (s.put f v).out = s.out := rfl
@[simp] theorem State.put_pwr (s : State) (f : Fld) (v : Nat) : (s.put f v).pwr = s.pwr := rfl
@[simp] theorem State.put_link (s : State) (f : Fld) (v : Nat) : (s.put f v).link = s.link := rfl
@[simp] theorem State.put_permit (s : State) (f : Fld) (v : Nat) : (s.put f v).permit = s.permit := rfl
@[simp] theorem State.put_host (s : State) (f : Fld) (v : Nat) : (s.put f v).host = s.host := rfl
@[simp] theorem State.put_wdog (s : State) (f : Fld) (v : Nat) : (s.put f v).wdog = s.wdog := rfl
@[simp] theorem State.put_intc (s : State) (f : Fld) (v : Nat) : (s.put f v).intc = s.intc := rfl
@[simp] theorem State.put_jr (s : State) (f : Fld) (v : Nat) : (s.put f v).jr = s.jr := rfl
@[simp] theorem State.put_selv (s : State) (f : Fld) (v : Nat) : (s.put f v).selv = s.selv := rfl
@[simp] theorem State.put_warp (s : State) (f : Fld) (v : Nat) : (s.put f v).warp = s.warp := rfl
@[simp] theorem State.put_clk (s : State) (f : Fld) (v : Nat) : (s.put f v).clk = s.clk := rfl
@[simp] theorem State.put_weave (s : State) (f : Fld) (v : Nat) : (s.put f v).weave = s.weave := rfl
@[simp] theorem State.put_s0 (s : State) (f : Fld) (v : Nat) : (s.put f v).s0 = s.s0 := rfl
@[simp] theorem State.put_porter (s : State) (f : Fld) (v : Nat) : (s.put f v).porter = s.porter := rfl
@[simp] theorem State.put_loom (s : State) (f : Fld) (v : Nat) : (s.put f v).loom = s.loom := rfl
@[simp] theorem State.put_clu (s : State) (f : Fld) (v : Nat) : (s.put f v).clu = s.clu := rfl
@[simp] theorem State.put_warden (s : State) (f : Fld) (v : Nat) : (s.put f v).warden = s.warden := rfl
@[simp] theorem State.put_heat (s : State) (f : Fld) (v : Nat) : (s.put f v).heat = s.heat := rfl
@[simp] theorem State.put_panel (s : State) (f : Fld) (v : Nat) : (s.put f v).panel = s.panel := rfl
@[simp] theorem State.put_svc (s : State) (f : Fld) (v : Nat) : (s.put f v).svc = s.svc := rfl
@[simp] theorem State.put_safety (s : State) (f : Fld) (v : Nat) : (s.put f v).safety = s.safety := rfl
@[simp] theorem State.put_louv (s : State) (f : Fld) (v : Nat) : (s.put f v).louv = s.louv := rfl
@[simp] theorem State.put_aux (s : State) (f : Fld) (v : Nat) : (s.put f v).aux = s.aux := rfl
@[simp] theorem State.put_analog (s : State) (f : Fld) (v : Nat) : (s.put f v).analog = s.analog := rfl
@[simp] theorem State.put_sec (s : State) (f : Fld) (v : Nat) : (s.put f v).sec = s.sec := rfl
@[simp] theorem State.put_cells (s : State) (f : Fld) (v : Nat) : (s.put f v).cells = s.cells := rfl
@[simp] theorem State.put_ring (s : State) (f : Fld) (v : Nat) : (s.put f v).ring = s.ring := rfl
@[simp] theorem State.put_twin (s : State) (f : Fld) (v : Nat) : (s.put f v).twin = s.twin := rfl
@[simp] theorem State.put_edge (s : State) (f : Fld) (v : Nat) : (s.put f v).edge = s.edge := rfl
@[simp] theorem State.put_syn (s : State) (f : Fld) (v : Nat) : (s.put f v).syn = s.syn := rfl
@[simp] theorem State.put_blank (s : State) (f : Fld) (v : Nat) : (s.put f v).blank = s.blank := rfl
@[simp] theorem State.put_cur (s : State) (f : Fld) (v : Nat) : (s.put f v).cur = s.cur := rfl
@[simp] theorem State.put_mppt (s : State) (f : Fld) (v : Nat) : (s.put f v).mppt = s.mppt := rfl
@[simp] theorem State.put_ride (s : State) (f : Fld) (v : Nat) : (s.put f v).ride = s.ride := rfl
@[simp] theorem State.put_isl (s : State) (f : Fld) (v : Nat) : (s.put f v).isl = s.isl := rfl
@[simp] theorem State.put_adc (s : State) (f : Fld) (v : Nat) : (s.put f v).adc = s.adc := rfl
@[simp] theorem State.put_fcmp (s : State) (f : Fld) (v : Nat) : (s.put f v).fcmp = s.fcmp := rfl
@[simp] theorem State.put_meter (s : State) (f : Fld) (v : Nat) : (s.put f v).meter = s.meter := rfl

@[simp] theorem State.putI_pending (s : State) (f : Fld) (x : Int) : (s.putI f x).pending = s.pending := rfl
@[simp] theorem State.putI_free (s : State) (f : Fld) (x : Int) : (s.putI f x).free = s.free := rfl
@[simp] theorem State.putI_out (s : State) (f : Fld) (x : Int) : (s.putI f x).out = s.out := rfl
@[simp] theorem State.putI_pwr (s : State) (f : Fld) (x : Int) : (s.putI f x).pwr = s.pwr := rfl
@[simp] theorem State.putI_link (s : State) (f : Fld) (x : Int) : (s.putI f x).link = s.link := rfl
@[simp] theorem State.putI_permit (s : State) (f : Fld) (x : Int) : (s.putI f x).permit = s.permit := rfl
@[simp] theorem State.putI_host (s : State) (f : Fld) (x : Int) : (s.putI f x).host = s.host := rfl
@[simp] theorem State.putI_wdog (s : State) (f : Fld) (x : Int) : (s.putI f x).wdog = s.wdog := rfl
@[simp] theorem State.putI_intc (s : State) (f : Fld) (x : Int) : (s.putI f x).intc = s.intc := rfl
@[simp] theorem State.putI_jr (s : State) (f : Fld) (x : Int) : (s.putI f x).jr = s.jr := rfl
@[simp] theorem State.putI_selv (s : State) (f : Fld) (x : Int) : (s.putI f x).selv = s.selv := rfl
@[simp] theorem State.putI_warp (s : State) (f : Fld) (x : Int) : (s.putI f x).warp = s.warp := rfl
@[simp] theorem State.putI_clk (s : State) (f : Fld) (x : Int) : (s.putI f x).clk = s.clk := rfl
@[simp] theorem State.putI_weave (s : State) (f : Fld) (x : Int) : (s.putI f x).weave = s.weave := rfl
@[simp] theorem State.putI_s0 (s : State) (f : Fld) (x : Int) : (s.putI f x).s0 = s.s0 := rfl
@[simp] theorem State.putI_porter (s : State) (f : Fld) (x : Int) : (s.putI f x).porter = s.porter := rfl
@[simp] theorem State.putI_loom (s : State) (f : Fld) (x : Int) : (s.putI f x).loom = s.loom := rfl
@[simp] theorem State.putI_clu (s : State) (f : Fld) (x : Int) : (s.putI f x).clu = s.clu := rfl
@[simp] theorem State.putI_warden (s : State) (f : Fld) (x : Int) : (s.putI f x).warden = s.warden := rfl
@[simp] theorem State.putI_heat (s : State) (f : Fld) (x : Int) : (s.putI f x).heat = s.heat := rfl
@[simp] theorem State.putI_panel (s : State) (f : Fld) (x : Int) : (s.putI f x).panel = s.panel := rfl
@[simp] theorem State.putI_svc (s : State) (f : Fld) (x : Int) : (s.putI f x).svc = s.svc := rfl
@[simp] theorem State.putI_safety (s : State) (f : Fld) (x : Int) : (s.putI f x).safety = s.safety := rfl
@[simp] theorem State.putI_louv (s : State) (f : Fld) (x : Int) : (s.putI f x).louv = s.louv := rfl
@[simp] theorem State.putI_aux (s : State) (f : Fld) (x : Int) : (s.putI f x).aux = s.aux := rfl
@[simp] theorem State.putI_analog (s : State) (f : Fld) (x : Int) : (s.putI f x).analog = s.analog := rfl
@[simp] theorem State.putI_sec (s : State) (f : Fld) (x : Int) : (s.putI f x).sec = s.sec := rfl
@[simp] theorem State.putI_cells (s : State) (f : Fld) (x : Int) : (s.putI f x).cells = s.cells := rfl
@[simp] theorem State.putI_ring (s : State) (f : Fld) (x : Int) : (s.putI f x).ring = s.ring := rfl
@[simp] theorem State.putI_twin (s : State) (f : Fld) (x : Int) : (s.putI f x).twin = s.twin := rfl
@[simp] theorem State.putI_edge (s : State) (f : Fld) (x : Int) : (s.putI f x).edge = s.edge := rfl
@[simp] theorem State.putI_syn (s : State) (f : Fld) (x : Int) : (s.putI f x).syn = s.syn := rfl
@[simp] theorem State.putI_blank (s : State) (f : Fld) (x : Int) : (s.putI f x).blank = s.blank := rfl
@[simp] theorem State.putI_cur (s : State) (f : Fld) (x : Int) : (s.putI f x).cur = s.cur := rfl
@[simp] theorem State.putI_mppt (s : State) (f : Fld) (x : Int) : (s.putI f x).mppt = s.mppt := rfl
@[simp] theorem State.putI_ride (s : State) (f : Fld) (x : Int) : (s.putI f x).ride = s.ride := rfl
@[simp] theorem State.putI_isl (s : State) (f : Fld) (x : Int) : (s.putI f x).isl = s.isl := rfl
@[simp] theorem State.putI_adc (s : State) (f : Fld) (x : Int) : (s.putI f x).adc = s.adc := rfl
@[simp] theorem State.putI_fcmp (s : State) (f : Fld) (x : Int) : (s.putI f x).fcmp = s.fcmp := rfl
@[simp] theorem State.putI_meter (s : State) (f : Fld) (x : Int) : (s.putI f x).meter = s.meter := rfl

@[simp] theorem State.putB_pending (s : State) (f : Fld) (b : Bool) : (s.putB f b).pending = s.pending := rfl
@[simp] theorem State.putB_free (s : State) (f : Fld) (b : Bool) : (s.putB f b).free = s.free := rfl
@[simp] theorem State.putB_out (s : State) (f : Fld) (b : Bool) : (s.putB f b).out = s.out := rfl
@[simp] theorem State.putB_pwr (s : State) (f : Fld) (b : Bool) : (s.putB f b).pwr = s.pwr := rfl
@[simp] theorem State.putB_link (s : State) (f : Fld) (b : Bool) : (s.putB f b).link = s.link := rfl
@[simp] theorem State.putB_permit (s : State) (f : Fld) (b : Bool) : (s.putB f b).permit = s.permit := rfl
@[simp] theorem State.putB_host (s : State) (f : Fld) (b : Bool) : (s.putB f b).host = s.host := rfl
@[simp] theorem State.putB_wdog (s : State) (f : Fld) (b : Bool) : (s.putB f b).wdog = s.wdog := rfl
@[simp] theorem State.putB_intc (s : State) (f : Fld) (b : Bool) : (s.putB f b).intc = s.intc := rfl
@[simp] theorem State.putB_jr (s : State) (f : Fld) (b : Bool) : (s.putB f b).jr = s.jr := rfl
@[simp] theorem State.putB_selv (s : State) (f : Fld) (b : Bool) : (s.putB f b).selv = s.selv := rfl
@[simp] theorem State.putB_warp (s : State) (f : Fld) (b : Bool) : (s.putB f b).warp = s.warp := rfl
@[simp] theorem State.putB_clk (s : State) (f : Fld) (b : Bool) : (s.putB f b).clk = s.clk := rfl
@[simp] theorem State.putB_weave (s : State) (f : Fld) (b : Bool) : (s.putB f b).weave = s.weave := rfl
@[simp] theorem State.putB_s0 (s : State) (f : Fld) (b : Bool) : (s.putB f b).s0 = s.s0 := rfl
@[simp] theorem State.putB_porter (s : State) (f : Fld) (b : Bool) : (s.putB f b).porter = s.porter := rfl
@[simp] theorem State.putB_loom (s : State) (f : Fld) (b : Bool) : (s.putB f b).loom = s.loom := rfl
@[simp] theorem State.putB_clu (s : State) (f : Fld) (b : Bool) : (s.putB f b).clu = s.clu := rfl
@[simp] theorem State.putB_warden (s : State) (f : Fld) (b : Bool) : (s.putB f b).warden = s.warden := rfl
@[simp] theorem State.putB_heat (s : State) (f : Fld) (b : Bool) : (s.putB f b).heat = s.heat := rfl
@[simp] theorem State.putB_panel (s : State) (f : Fld) (b : Bool) : (s.putB f b).panel = s.panel := rfl
@[simp] theorem State.putB_svc (s : State) (f : Fld) (b : Bool) : (s.putB f b).svc = s.svc := rfl
@[simp] theorem State.putB_safety (s : State) (f : Fld) (b : Bool) : (s.putB f b).safety = s.safety := rfl
@[simp] theorem State.putB_louv (s : State) (f : Fld) (b : Bool) : (s.putB f b).louv = s.louv := rfl
@[simp] theorem State.putB_aux (s : State) (f : Fld) (b : Bool) : (s.putB f b).aux = s.aux := rfl
@[simp] theorem State.putB_analog (s : State) (f : Fld) (b : Bool) : (s.putB f b).analog = s.analog := rfl
@[simp] theorem State.putB_sec (s : State) (f : Fld) (b : Bool) : (s.putB f b).sec = s.sec := rfl
@[simp] theorem State.putB_cells (s : State) (f : Fld) (b : Bool) : (s.putB f b).cells = s.cells := rfl
@[simp] theorem State.putB_ring (s : State) (f : Fld) (b : Bool) : (s.putB f b).ring = s.ring := rfl
@[simp] theorem State.putB_twin (s : State) (f : Fld) (b : Bool) : (s.putB f b).twin = s.twin := rfl
@[simp] theorem State.putB_edge (s : State) (f : Fld) (b : Bool) : (s.putB f b).edge = s.edge := rfl
@[simp] theorem State.putB_syn (s : State) (f : Fld) (b : Bool) : (s.putB f b).syn = s.syn := rfl
@[simp] theorem State.putB_blank (s : State) (f : Fld) (b : Bool) : (s.putB f b).blank = s.blank := rfl
@[simp] theorem State.putB_cur (s : State) (f : Fld) (b : Bool) : (s.putB f b).cur = s.cur := rfl
@[simp] theorem State.putB_mppt (s : State) (f : Fld) (b : Bool) : (s.putB f b).mppt = s.mppt := rfl
@[simp] theorem State.putB_ride (s : State) (f : Fld) (b : Bool) : (s.putB f b).ride = s.ride := rfl
@[simp] theorem State.putB_isl (s : State) (f : Fld) (b : Bool) : (s.putB f b).isl = s.isl := rfl
@[simp] theorem State.putB_adc (s : State) (f : Fld) (b : Bool) : (s.putB f b).adc = s.adc := rfl
@[simp] theorem State.putB_fcmp (s : State) (f : Fld) (b : Bool) : (s.putB f b).fcmp = s.fcmp := rfl
@[simp] theorem State.putB_meter (s : State) (f : Fld) (b : Bool) : (s.putB f b).meter = s.meter := rfl

@[simp] theorem State.addSat_pending (s : State) (f : Fld) (k : Nat) : (s.addSat f k).pending = s.pending := rfl
@[simp] theorem State.addSat_free (s : State) (f : Fld) (k : Nat) : (s.addSat f k).free = s.free := rfl
@[simp] theorem State.addSat_out (s : State) (f : Fld) (k : Nat) : (s.addSat f k).out = s.out := rfl
@[simp] theorem State.addSat_pwr (s : State) (f : Fld) (k : Nat) : (s.addSat f k).pwr = s.pwr := rfl
@[simp] theorem State.addSat_link (s : State) (f : Fld) (k : Nat) : (s.addSat f k).link = s.link := rfl
@[simp] theorem State.addSat_permit (s : State) (f : Fld) (k : Nat) : (s.addSat f k).permit = s.permit := rfl
@[simp] theorem State.addSat_host (s : State) (f : Fld) (k : Nat) : (s.addSat f k).host = s.host := rfl
@[simp] theorem State.addSat_wdog (s : State) (f : Fld) (k : Nat) : (s.addSat f k).wdog = s.wdog := rfl
@[simp] theorem State.addSat_intc (s : State) (f : Fld) (k : Nat) : (s.addSat f k).intc = s.intc := rfl
@[simp] theorem State.addSat_jr (s : State) (f : Fld) (k : Nat) : (s.addSat f k).jr = s.jr := rfl
@[simp] theorem State.addSat_selv (s : State) (f : Fld) (k : Nat) : (s.addSat f k).selv = s.selv := rfl
@[simp] theorem State.addSat_warp (s : State) (f : Fld) (k : Nat) : (s.addSat f k).warp = s.warp := rfl
@[simp] theorem State.addSat_clk (s : State) (f : Fld) (k : Nat) : (s.addSat f k).clk = s.clk := rfl
@[simp] theorem State.addSat_weave (s : State) (f : Fld) (k : Nat) : (s.addSat f k).weave = s.weave := rfl
@[simp] theorem State.addSat_s0 (s : State) (f : Fld) (k : Nat) : (s.addSat f k).s0 = s.s0 := rfl
@[simp] theorem State.addSat_porter (s : State) (f : Fld) (k : Nat) : (s.addSat f k).porter = s.porter := rfl
@[simp] theorem State.addSat_loom (s : State) (f : Fld) (k : Nat) : (s.addSat f k).loom = s.loom := rfl
@[simp] theorem State.addSat_clu (s : State) (f : Fld) (k : Nat) : (s.addSat f k).clu = s.clu := rfl
@[simp] theorem State.addSat_warden (s : State) (f : Fld) (k : Nat) : (s.addSat f k).warden = s.warden := rfl
@[simp] theorem State.addSat_heat (s : State) (f : Fld) (k : Nat) : (s.addSat f k).heat = s.heat := rfl
@[simp] theorem State.addSat_panel (s : State) (f : Fld) (k : Nat) : (s.addSat f k).panel = s.panel := rfl
@[simp] theorem State.addSat_svc (s : State) (f : Fld) (k : Nat) : (s.addSat f k).svc = s.svc := rfl
@[simp] theorem State.addSat_safety (s : State) (f : Fld) (k : Nat) : (s.addSat f k).safety = s.safety := rfl
@[simp] theorem State.addSat_louv (s : State) (f : Fld) (k : Nat) : (s.addSat f k).louv = s.louv := rfl
@[simp] theorem State.addSat_aux (s : State) (f : Fld) (k : Nat) : (s.addSat f k).aux = s.aux := rfl
@[simp] theorem State.addSat_analog (s : State) (f : Fld) (k : Nat) : (s.addSat f k).analog = s.analog := rfl
@[simp] theorem State.addSat_sec (s : State) (f : Fld) (k : Nat) : (s.addSat f k).sec = s.sec := rfl
@[simp] theorem State.addSat_cells (s : State) (f : Fld) (k : Nat) : (s.addSat f k).cells = s.cells := rfl
@[simp] theorem State.addSat_ring (s : State) (f : Fld) (k : Nat) : (s.addSat f k).ring = s.ring := rfl
@[simp] theorem State.addSat_twin (s : State) (f : Fld) (k : Nat) : (s.addSat f k).twin = s.twin := rfl
@[simp] theorem State.addSat_edge (s : State) (f : Fld) (k : Nat) : (s.addSat f k).edge = s.edge := rfl
@[simp] theorem State.addSat_syn (s : State) (f : Fld) (k : Nat) : (s.addSat f k).syn = s.syn := rfl
@[simp] theorem State.addSat_blank (s : State) (f : Fld) (k : Nat) : (s.addSat f k).blank = s.blank := rfl
@[simp] theorem State.addSat_cur (s : State) (f : Fld) (k : Nat) : (s.addSat f k).cur = s.cur := rfl
@[simp] theorem State.addSat_mppt (s : State) (f : Fld) (k : Nat) : (s.addSat f k).mppt = s.mppt := rfl
@[simp] theorem State.addSat_ride (s : State) (f : Fld) (k : Nat) : (s.addSat f k).ride = s.ride := rfl
@[simp] theorem State.addSat_isl (s : State) (f : Fld) (k : Nat) : (s.addSat f k).isl = s.isl := rfl
@[simp] theorem State.addSat_adc (s : State) (f : Fld) (k : Nat) : (s.addSat f k).adc = s.adc := rfl
@[simp] theorem State.addSat_fcmp (s : State) (f : Fld) (k : Nat) : (s.addSat f k).fcmp = s.fcmp := rfl
@[simp] theorem State.addSat_meter (s : State) (f : Fld) (k : Nat) : (s.addSat f k).meter = s.meter := rfl

@[simp] theorem State.count_pending (s : State) (f : Fld) : (s.count f).pending = s.pending := rfl
@[simp] theorem State.count_free (s : State) (f : Fld) : (s.count f).free = s.free := rfl
@[simp] theorem State.count_out (s : State) (f : Fld) : (s.count f).out = s.out := rfl
@[simp] theorem State.count_pwr (s : State) (f : Fld) : (s.count f).pwr = s.pwr := rfl
@[simp] theorem State.count_link (s : State) (f : Fld) : (s.count f).link = s.link := rfl
@[simp] theorem State.count_permit (s : State) (f : Fld) : (s.count f).permit = s.permit := rfl
@[simp] theorem State.count_host (s : State) (f : Fld) : (s.count f).host = s.host := rfl
@[simp] theorem State.count_wdog (s : State) (f : Fld) : (s.count f).wdog = s.wdog := rfl
@[simp] theorem State.count_intc (s : State) (f : Fld) : (s.count f).intc = s.intc := rfl
@[simp] theorem State.count_jr (s : State) (f : Fld) : (s.count f).jr = s.jr := rfl
@[simp] theorem State.count_selv (s : State) (f : Fld) : (s.count f).selv = s.selv := rfl
@[simp] theorem State.count_warp (s : State) (f : Fld) : (s.count f).warp = s.warp := rfl
@[simp] theorem State.count_clk (s : State) (f : Fld) : (s.count f).clk = s.clk := rfl
@[simp] theorem State.count_weave (s : State) (f : Fld) : (s.count f).weave = s.weave := rfl
@[simp] theorem State.count_s0 (s : State) (f : Fld) : (s.count f).s0 = s.s0 := rfl
@[simp] theorem State.count_porter (s : State) (f : Fld) : (s.count f).porter = s.porter := rfl
@[simp] theorem State.count_loom (s : State) (f : Fld) : (s.count f).loom = s.loom := rfl
@[simp] theorem State.count_clu (s : State) (f : Fld) : (s.count f).clu = s.clu := rfl
@[simp] theorem State.count_warden (s : State) (f : Fld) : (s.count f).warden = s.warden := rfl
@[simp] theorem State.count_heat (s : State) (f : Fld) : (s.count f).heat = s.heat := rfl
@[simp] theorem State.count_panel (s : State) (f : Fld) : (s.count f).panel = s.panel := rfl
@[simp] theorem State.count_svc (s : State) (f : Fld) : (s.count f).svc = s.svc := rfl
@[simp] theorem State.count_safety (s : State) (f : Fld) : (s.count f).safety = s.safety := rfl
@[simp] theorem State.count_louv (s : State) (f : Fld) : (s.count f).louv = s.louv := rfl
@[simp] theorem State.count_aux (s : State) (f : Fld) : (s.count f).aux = s.aux := rfl
@[simp] theorem State.count_analog (s : State) (f : Fld) : (s.count f).analog = s.analog := rfl
@[simp] theorem State.count_sec (s : State) (f : Fld) : (s.count f).sec = s.sec := rfl
@[simp] theorem State.count_cells (s : State) (f : Fld) : (s.count f).cells = s.cells := rfl
@[simp] theorem State.count_ring (s : State) (f : Fld) : (s.count f).ring = s.ring := rfl
@[simp] theorem State.count_twin (s : State) (f : Fld) : (s.count f).twin = s.twin := rfl
@[simp] theorem State.count_edge (s : State) (f : Fld) : (s.count f).edge = s.edge := rfl
@[simp] theorem State.count_syn (s : State) (f : Fld) : (s.count f).syn = s.syn := rfl
@[simp] theorem State.count_blank (s : State) (f : Fld) : (s.count f).blank = s.blank := rfl
@[simp] theorem State.count_cur (s : State) (f : Fld) : (s.count f).cur = s.cur := rfl
@[simp] theorem State.count_mppt (s : State) (f : Fld) : (s.count f).mppt = s.mppt := rfl
@[simp] theorem State.count_ride (s : State) (f : Fld) : (s.count f).ride = s.ride := rfl
@[simp] theorem State.count_isl (s : State) (f : Fld) : (s.count f).isl = s.isl := rfl
@[simp] theorem State.count_adc (s : State) (f : Fld) : (s.count f).adc = s.adc := rfl
@[simp] theorem State.count_fcmp (s : State) (f : Fld) : (s.count f).fcmp = s.fcmp := rfl
@[simp] theorem State.count_meter (s : State) (f : Fld) : (s.count f).meter = s.meter := rfl

@[simp] theorem State.countWrap_pending (s : State) (f : Fld) : (s.countWrap f).pending = s.pending := rfl
@[simp] theorem State.countWrap_free (s : State) (f : Fld) : (s.countWrap f).free = s.free := rfl
@[simp] theorem State.countWrap_out (s : State) (f : Fld) : (s.countWrap f).out = s.out := rfl
@[simp] theorem State.countWrap_pwr (s : State) (f : Fld) : (s.countWrap f).pwr = s.pwr := rfl
@[simp] theorem State.countWrap_link (s : State) (f : Fld) : (s.countWrap f).link = s.link := rfl
@[simp] theorem State.countWrap_permit (s : State) (f : Fld) : (s.countWrap f).permit = s.permit := rfl
@[simp] theorem State.countWrap_host (s : State) (f : Fld) : (s.countWrap f).host = s.host := rfl
@[simp] theorem State.countWrap_wdog (s : State) (f : Fld) : (s.countWrap f).wdog = s.wdog := rfl
@[simp] theorem State.countWrap_intc (s : State) (f : Fld) : (s.countWrap f).intc = s.intc := rfl
@[simp] theorem State.countWrap_jr (s : State) (f : Fld) : (s.countWrap f).jr = s.jr := rfl
@[simp] theorem State.countWrap_selv (s : State) (f : Fld) : (s.countWrap f).selv = s.selv := rfl
@[simp] theorem State.countWrap_warp (s : State) (f : Fld) : (s.countWrap f).warp = s.warp := rfl
@[simp] theorem State.countWrap_clk (s : State) (f : Fld) : (s.countWrap f).clk = s.clk := rfl
@[simp] theorem State.countWrap_weave (s : State) (f : Fld) : (s.countWrap f).weave = s.weave := rfl
@[simp] theorem State.countWrap_s0 (s : State) (f : Fld) : (s.countWrap f).s0 = s.s0 := rfl
@[simp] theorem State.countWrap_porter (s : State) (f : Fld) : (s.countWrap f).porter = s.porter := rfl
@[simp] theorem State.countWrap_loom (s : State) (f : Fld) : (s.countWrap f).loom = s.loom := rfl
@[simp] theorem State.countWrap_clu (s : State) (f : Fld) : (s.countWrap f).clu = s.clu := rfl
@[simp] theorem State.countWrap_warden (s : State) (f : Fld) : (s.countWrap f).warden = s.warden := rfl
@[simp] theorem State.countWrap_heat (s : State) (f : Fld) : (s.countWrap f).heat = s.heat := rfl
@[simp] theorem State.countWrap_panel (s : State) (f : Fld) : (s.countWrap f).panel = s.panel := rfl
@[simp] theorem State.countWrap_svc (s : State) (f : Fld) : (s.countWrap f).svc = s.svc := rfl
@[simp] theorem State.countWrap_safety (s : State) (f : Fld) : (s.countWrap f).safety = s.safety := rfl
@[simp] theorem State.countWrap_louv (s : State) (f : Fld) : (s.countWrap f).louv = s.louv := rfl
@[simp] theorem State.countWrap_aux (s : State) (f : Fld) : (s.countWrap f).aux = s.aux := rfl
@[simp] theorem State.countWrap_analog (s : State) (f : Fld) : (s.countWrap f).analog = s.analog := rfl
@[simp] theorem State.countWrap_sec (s : State) (f : Fld) : (s.countWrap f).sec = s.sec := rfl
@[simp] theorem State.countWrap_cells (s : State) (f : Fld) : (s.countWrap f).cells = s.cells := rfl
@[simp] theorem State.countWrap_ring (s : State) (f : Fld) : (s.countWrap f).ring = s.ring := rfl
@[simp] theorem State.countWrap_twin (s : State) (f : Fld) : (s.countWrap f).twin = s.twin := rfl
@[simp] theorem State.countWrap_edge (s : State) (f : Fld) : (s.countWrap f).edge = s.edge := rfl
@[simp] theorem State.countWrap_syn (s : State) (f : Fld) : (s.countWrap f).syn = s.syn := rfl
@[simp] theorem State.countWrap_blank (s : State) (f : Fld) : (s.countWrap f).blank = s.blank := rfl
@[simp] theorem State.countWrap_cur (s : State) (f : Fld) : (s.countWrap f).cur = s.cur := rfl
@[simp] theorem State.countWrap_mppt (s : State) (f : Fld) : (s.countWrap f).mppt = s.mppt := rfl
@[simp] theorem State.countWrap_ride (s : State) (f : Fld) : (s.countWrap f).ride = s.ride := rfl
@[simp] theorem State.countWrap_isl (s : State) (f : Fld) : (s.countWrap f).isl = s.isl := rfl
@[simp] theorem State.countWrap_adc (s : State) (f : Fld) : (s.countWrap f).adc = s.adc := rfl
@[simp] theorem State.countWrap_fcmp (s : State) (f : Fld) : (s.countWrap f).fcmp = s.fcmp := rfl
@[simp] theorem State.countWrap_meter (s : State) (f : Fld) : (s.countWrap f).meter = s.meter := rfl

@[simp] theorem emit_pending (o : Out) (s : State) : (emit o s).pending = s.pending := rfl
@[simp] theorem emit_regs (o : Out) (s : State) : (emit o s).regs = s.regs := rfl
@[simp] theorem emit_free (o : Out) (s : State) : (emit o s).free = s.free := rfl
@[simp] theorem emit_pwr (o : Out) (s : State) : (emit o s).pwr = s.pwr := rfl
@[simp] theorem emit_link (o : Out) (s : State) : (emit o s).link = s.link := rfl
@[simp] theorem emit_permit (o : Out) (s : State) : (emit o s).permit = s.permit := rfl
@[simp] theorem emit_host (o : Out) (s : State) : (emit o s).host = s.host := rfl
@[simp] theorem emit_wdog (o : Out) (s : State) : (emit o s).wdog = s.wdog := rfl
@[simp] theorem emit_intc (o : Out) (s : State) : (emit o s).intc = s.intc := rfl
@[simp] theorem emit_jr (o : Out) (s : State) : (emit o s).jr = s.jr := rfl
@[simp] theorem emit_selv (o : Out) (s : State) : (emit o s).selv = s.selv := rfl
@[simp] theorem emit_warp (o : Out) (s : State) : (emit o s).warp = s.warp := rfl
@[simp] theorem emit_clk (o : Out) (s : State) : (emit o s).clk = s.clk := rfl
@[simp] theorem emit_weave (o : Out) (s : State) : (emit o s).weave = s.weave := rfl
@[simp] theorem emit_s0 (o : Out) (s : State) : (emit o s).s0 = s.s0 := rfl
@[simp] theorem emit_porter (o : Out) (s : State) : (emit o s).porter = s.porter := rfl
@[simp] theorem emit_loom (o : Out) (s : State) : (emit o s).loom = s.loom := rfl
@[simp] theorem emit_clu (o : Out) (s : State) : (emit o s).clu = s.clu := rfl
@[simp] theorem emit_warden (o : Out) (s : State) : (emit o s).warden = s.warden := rfl
@[simp] theorem emit_heat (o : Out) (s : State) : (emit o s).heat = s.heat := rfl
@[simp] theorem emit_panel (o : Out) (s : State) : (emit o s).panel = s.panel := rfl
@[simp] theorem emit_svc (o : Out) (s : State) : (emit o s).svc = s.svc := rfl
@[simp] theorem emit_safety (o : Out) (s : State) : (emit o s).safety = s.safety := rfl
@[simp] theorem emit_louv (o : Out) (s : State) : (emit o s).louv = s.louv := rfl
@[simp] theorem emit_aux (o : Out) (s : State) : (emit o s).aux = s.aux := rfl
@[simp] theorem emit_analog (o : Out) (s : State) : (emit o s).analog = s.analog := rfl
@[simp] theorem emit_sec (o : Out) (s : State) : (emit o s).sec = s.sec := rfl
@[simp] theorem emit_cells (o : Out) (s : State) : (emit o s).cells = s.cells := rfl
@[simp] theorem emit_ring (o : Out) (s : State) : (emit o s).ring = s.ring := rfl
@[simp] theorem emit_twin (o : Out) (s : State) : (emit o s).twin = s.twin := rfl
@[simp] theorem emit_edge (o : Out) (s : State) : (emit o s).edge = s.edge := rfl
@[simp] theorem emit_syn (o : Out) (s : State) : (emit o s).syn = s.syn := rfl
@[simp] theorem emit_blank (o : Out) (s : State) : (emit o s).blank = s.blank := rfl
@[simp] theorem emit_cur (o : Out) (s : State) : (emit o s).cur = s.cur := rfl
@[simp] theorem emit_mppt (o : Out) (s : State) : (emit o s).mppt = s.mppt := rfl
@[simp] theorem emit_ride (o : Out) (s : State) : (emit o s).ride = s.ride := rfl
@[simp] theorem emit_isl (o : Out) (s : State) : (emit o s).isl = s.isl := rfl
@[simp] theorem emit_adc (o : Out) (s : State) : (emit o s).adc = s.adc := rfl
@[simp] theorem emit_fcmp (o : Out) (s : State) : (emit o s).fcmp = s.fcmp := rfl
@[simp] theorem emit_meter (o : Out) (s : State) : (emit o s).meter = s.meter := rfl
@[simp] theorem emit_out (o : Out) (s : State) : (emit o s).out = s.out ++ [o] := rfl

@[simp] theorem freeWord_pending (s : State) : (freeWord s).2.pending = s.pending := rfl
@[simp] theorem freeWord_regs (s : State) : (freeWord s).2.regs = s.regs := rfl
@[simp] theorem freeWord_out (s : State) : (freeWord s).2.out = s.out := rfl
@[simp] theorem freeWord_pwr (s : State) : (freeWord s).2.pwr = s.pwr := rfl
@[simp] theorem freeWord_link (s : State) : (freeWord s).2.link = s.link := rfl
@[simp] theorem freeWord_permit (s : State) : (freeWord s).2.permit = s.permit := rfl
@[simp] theorem freeWord_host (s : State) : (freeWord s).2.host = s.host := rfl
@[simp] theorem freeWord_wdog (s : State) : (freeWord s).2.wdog = s.wdog := rfl
@[simp] theorem freeWord_intc (s : State) : (freeWord s).2.intc = s.intc := rfl
@[simp] theorem freeWord_jr (s : State) : (freeWord s).2.jr = s.jr := rfl
@[simp] theorem freeWord_selv (s : State) : (freeWord s).2.selv = s.selv := rfl
@[simp] theorem freeWord_warp (s : State) : (freeWord s).2.warp = s.warp := rfl
@[simp] theorem freeWord_clk (s : State) : (freeWord s).2.clk = s.clk := rfl
@[simp] theorem freeWord_weave (s : State) : (freeWord s).2.weave = s.weave := rfl
@[simp] theorem freeWord_s0 (s : State) : (freeWord s).2.s0 = s.s0 := rfl
@[simp] theorem freeWord_porter (s : State) : (freeWord s).2.porter = s.porter := rfl
@[simp] theorem freeWord_loom (s : State) : (freeWord s).2.loom = s.loom := rfl
@[simp] theorem freeWord_clu (s : State) : (freeWord s).2.clu = s.clu := rfl
@[simp] theorem freeWord_warden (s : State) : (freeWord s).2.warden = s.warden := rfl
@[simp] theorem freeWord_heat (s : State) : (freeWord s).2.heat = s.heat := rfl
@[simp] theorem freeWord_panel (s : State) : (freeWord s).2.panel = s.panel := rfl
@[simp] theorem freeWord_svc (s : State) : (freeWord s).2.svc = s.svc := rfl
@[simp] theorem freeWord_safety (s : State) : (freeWord s).2.safety = s.safety := rfl
@[simp] theorem freeWord_louv (s : State) : (freeWord s).2.louv = s.louv := rfl
@[simp] theorem freeWord_aux (s : State) : (freeWord s).2.aux = s.aux := rfl
@[simp] theorem freeWord_analog (s : State) : (freeWord s).2.analog = s.analog := rfl
@[simp] theorem freeWord_sec (s : State) : (freeWord s).2.sec = s.sec := rfl
@[simp] theorem freeWord_cells (s : State) : (freeWord s).2.cells = s.cells := rfl
@[simp] theorem freeWord_ring (s : State) : (freeWord s).2.ring = s.ring := rfl
@[simp] theorem freeWord_twin (s : State) : (freeWord s).2.twin = s.twin := rfl
@[simp] theorem freeWord_edge (s : State) : (freeWord s).2.edge = s.edge := rfl
@[simp] theorem freeWord_syn (s : State) : (freeWord s).2.syn = s.syn := rfl
@[simp] theorem freeWord_blank (s : State) : (freeWord s).2.blank = s.blank := rfl
@[simp] theorem freeWord_cur (s : State) : (freeWord s).2.cur = s.cur := rfl
@[simp] theorem freeWord_mppt (s : State) : (freeWord s).2.mppt = s.mppt := rfl
@[simp] theorem freeWord_ride (s : State) : (freeWord s).2.ride = s.ride := rfl
@[simp] theorem freeWord_isl (s : State) : (freeWord s).2.isl = s.isl := rfl
@[simp] theorem freeWord_adc (s : State) : (freeWord s).2.adc = s.adc := rfl
@[simp] theorem freeWord_fcmp (s : State) : (freeWord s).2.fcmp = s.fcmp := rfl
@[simp] theorem freeWord_meter (s : State) : (freeWord s).2.meter = s.meter := rfl
@[simp] theorem freeWord_free (s : State) : (freeWord s).2.free = s.free + 1 := rfl

@[simp] theorem State.setRaw_regs (s : State) (a : Nat) (w : Word) : (s.setRaw a w).regs = setCell a w (resetWord a) s.regs := rfl

end Sys2Proof.Machine
end

