-- ==== Sys2Proof/Laws/Calm.lean ====
section
/-! SUPPORT. What raising an event, journalling it, setting page flags and capturing an irregular access can touch: header registers, the
interrupt controller, the journal and the pending messages of MSI-X, the backlog's counters, and nothing else. -/

namespace Sys2Proof.Machine

/-- Registers that an event may change: the common header of any page (offsets below 0x40), the pending bits and the counts of INTC_1,
`JOURNAL.HEAD`, `TAIL` and `OVWR`, the MSI-X pending-bit array and `SHUTTLE_F.BACKLOG`. -/
def Loud (a : Nat) : Prop :=
  offOf a < 0x40 ∨ (0x2040 ≤ a ∧ a < 0x2060) ∨ (0x2400 ≤ a ∧ a < 0x2800) ∨ (0x4040 ≤ a ∧ a < 0x404C) ∨ (0x9C00 ≤ a ∧ a < 0x9C08) ∨
    a = 0x5105C

/-- `t` is `s` but for what events may change. -/
structure Calm (s t : State) : Prop where
  raw : ∀ a, ¬ Loud a → t.raw a = s.raw a
  rest : t = { s with regs := t.regs, free := t.free, out := t.out, link := t.link, intc := t.intc, jr := t.jr }

theorem calm_refl (s : State) : Calm s s := ⟨fun _ _ => rfl, rfl⟩

theorem Calm.trans {s t u : State} (h : Calm s t) (k : Calm t u) : Calm s u :=
  ⟨fun a ha => (k.raw a ha).trans (h.raw a ha), by rw [k.rest, h.rest]⟩

theorem calm_ite {s a b : State} {p : Prop} [Decidable p] (ha : Calm s a) (hb : Calm s b) : Calm s (if p then a else b) := by
  split <;> assumption

/-- A calm change leaves a field of a quiet register as it was. -/
theorem Calm.get {s t : State} (h : Calm s t) {f : Fld} (hf : ¬ Loud f.addr) : t.get f = s.get f := by
  unfold State.get; rw [h.raw _ hf]

theorem Calm.flag {s t : State} (h : Calm s t) {f : Fld} (hf : ¬ Loud f.addr) : t.flag f = s.flag f := by
  unfold State.flag; rw [h.get hf]

theorem calm_setRaw {s : State} {a : Nat} (ha : Loud a) (w : Word) : Calm s (s.setRaw a w) :=
  ⟨fun b hb => raw_setRaw_ne s (fun e => hb (by rw [e]; exact ha)) w, rfl⟩

theorem calm_put {s : State} {f : Fld} (ha : Loud f.addr) (v : Nat) : Calm s (s.put f v) := calm_setRaw ha _
theorem calm_count {s : State} {f : Fld} (ha : Loud f.addr) : Calm s (s.count f) := calm_setRaw ha _

/-- A change of fields other than the register space, of those an event may change. -/
theorem calm_of {s t : State} (hr : t.regs = s.regs := by rfl)
    (h : t = { s with regs := t.regs, free := t.free, out := t.out, link := t.link, intc := t.intc, jr := t.jr } := by rfl) : Calm s t :=
  ⟨fun a _ => by unfold State.raw; rw [hr], h⟩

theorem loud_off {a : Nat} (h : offOf a < 0x40) : Loud a := .inl h

theorem loud_head (p k : Nat) (h : k < 0x40) : Loud (p * 0x1000 + k) := .inl (by unfold offOf; omega)

theorem loud_pend {n : Nat} (hn : n < 256) : Loud (pendBit n).addr := by
  unfold Loud
  dsimp only
  omega

theorem loud_count {n : Nat} (hn : n < 256) : Loud (INTC_1_COUNT_COUNT n).addr := by
  unfold Loud
  dsimp only
  omega

theorem get_lt (s : State) (f : Fld) : s.get f < 2 ^ f.wd := Nat.mod_lt _ (Nat.two_pow_pos _)

theorem calm_emit {s : State} {o : Out} : Calm s (emit o s) := calm_of

theorem calm_freeWord {s : State} : Calm s (freeWord s).2 := calm_of

theorem calm_sendMsix {s : State} {n : Nat} : Calm s (sendMsix n s) := by
  unfold sendMsix
  extract_lets v
  refine calm_ite (calm_refl s) (calm_ite (calm_put ?_ _) calm_emit)
  have : v < 2 ^ 6 := get_lt s (INTC_0_SRCCFG_VEC n)
  unfold Loud
  dsimp only
  omega

theorem calm_announce {s old : State} {n : Nat} : Calm s (announce old n s) := calm_ite calm_sendMsix (calm_refl s)

/-- R98: an edge event sets a pending bit and a count, and may send a message. -/
theorem calm_edgeEvent {s : State} {n : Nat} (hn : n < 256) : Calm s (edgeEvent n s) := by
  exact ((calm_put (loud_pend hn) 1).trans (calm_count (loud_count hn))).trans calm_announce

/-- R99: a level change sets or clears a pending bit, counts a rise and may send a message. -/
theorem calm_levelInput {s : State} {n : Nat} {b : Bool} (hn : n < 256) : Calm s (levelInput n b s) := by
  have hc : Loud (INTC_1_COUNT_COUNT n).addr := loud_count hn
  have up : Calm s ({ s with intc := { s.intc with level := insertNat n s.intc.level } }.count (INTC_1_COUNT_COUNT n)) :=
    (calm_of : Calm s { s with intc := { s.intc with level := insertNat n s.intc.level } }).trans (calm_count hc)
  have dn : Calm s { s with intc := { level := s.intc.level.filter (· != n), held := s.intc.held.filter (· != n),
                                        dropped := s.intc.dropped.filter (· != n) } } := calm_of
  unfold levelInput
  exact calm_ite (calm_refl s) (calm_ite (calm_ite up ((up.trans (calm_put (loud_pend hn) 1)).trans calm_announce))
    (calm_ite dn (dn.trans (calm_put (loud_pend hn) 0))))

/-- R56, R70: a discarded event touches the counts and the header of the link's page. -/
theorem calm_discard {s : State} {e : Event} : Calm s (discard e s) := by
  unfold discard
  extract_lets one s1
  have h : ∀ (e : Event) (t : State), Calm t (one e t) := fun e t =>
    (calm_of : Calm t { t with link := { t.link with lostNow := t.link.lostNow + 1, flost := noteLost e t.link.flost } }).trans
      (calm_count (by unfold Loud; simp))
  have h1 : Calm s s1 := (h e s).trans (calm_put (loud_head 0x51 0x10 (by omega)) 1)
  exact calm_ite (h1.trans ((calm_of : Calm s1 { s1 with link := { s1.link with flevel := insertNat 9 s1.link.flevel } }).trans (h _ _))) h1

/-- R49, R56: an F-die event goes to a queue or to the backlog. -/
theorem calm_fSend {s : State} {e : Event} : Calm s (fSend e s) := by
  unfold fSend
  refine calm_ite calm_of (calm_ite calm_of (calm_ite ?_ calm_discard))
  exact (calm_of : Calm s { s with link := { s.link with backlog := s.link.backlog ++ [{ e with flags := 1 }] } }).trans
    (calm_count (by unfold Loud; simp))

theorem calm_raiseF {s : State} {a b c : Nat} : Calm s (raiseF a b c s) := calm_fSend

theorem pageSource_lt (p : Nat) : pageSource p < 256 := by
  have key : ∀ t ∈ pageTypes, t.source = 0 ∨ (t.first = 0x100 ∧ t.count ≤ 192) ∨ t.source + t.count ≤ 256 := by decide
  unfold pageSource
  split
  · omega
  · rename_i t ht
    have hm := List.mem_of_find?_eq_some ht
    have hp := List.find?_some ht
    have := key t hm
    simp at hp
    split
    · omega
    · split <;> omega

theorem calm_relevelBasic {s : State} {p : Nat} : Calm s (relevelBasic p s) := by
  unfold relevelBasic
  extract_lets n b
  refine calm_ite (calm_refl s) (calm_ite (calm_ite (calm_refl s) ?_) (calm_levelInput (pageSource_lt p)))
  exact (calm_of : Calm s { s with link := { s.link with
    flevel := if b then insertNat n s.link.flevel else s.link.flevel.filter (· != n) } }).trans calm_raiseF

theorem calm_noteEvt {s : State} {p m : Nat} : Calm s (noteEvt p m s) := by
  unfold noteEvt
  exact calm_ite (calm_of (by rfl) (by rfl)) (calm_refl s)

/-- R69, R87: setting event flags touches the page's header and the level of its source. -/
theorem calm_setEvt {s : State} {p m : Nat} : Calm s (setEvt p m s) := by
  unfold setEvt
  exact ((calm_setRaw (loud_head p 0x10 (by omega)) _).trans calm_noteEvt).trans calm_relevelBasic

/-- R108: a journal entry touches the journal and its page. -/
theorem calm_journal {s : State} {w : Word} {a b c d e : Nat} : Calm s (journal w a b c d e s) := by
  have l : ∀ a, (0x4040 ≤ a ∧ a < 0x404C) ∨ offOf a < 0x40 → Loud a := fun a h => by unfold Loud; omega
  unfold journal
  extract_lets q full old es s1 s2 s3 rp fill unread
  have h1 : Calm s s1 := calm_of
  have h2 : Calm s s2 := (h1.trans (calm_put (l _ (by decide)) _)).trans (calm_put (l _ (by decide)) _)
  have h3 : Calm s s3 := (calm_ite (h2.trans (calm_count (l _ (by decide)))) h2).trans (calm_put (l _ (by decide)) _)
  exact h3.trans calm_setEvt

/-- R108: an event of an H-die block. -/
theorem calm_raiseH {s : State} {a b c : Nat} (ha : a < 256) : Calm s (raiseH a b c s) := by
  unfold raiseH
  exact calm_ite (calm_journal.trans (calm_edgeEvent ha)) calm_journal

theorem calm_stampWcf {s : State} {p : Stamp} : Calm s (stampWcf p s).2 := by
  unfold stampWcf
  split
  · exact calm_refl s
  · exact calm_freeWord

/-- R108: an event of the F-die that arrives. -/
theorem calm_deliverEvent {s : State} {e : Event} (he : e.source < 256) : Calm s (deliverEvent e s) := by
  unfold deliverEvent
  exact calm_ite (calm_levelInput he) (calm_ite (calm_levelInput he)
    (calm_ite ((calm_stampWcf.trans calm_journal).trans (calm_edgeEvent he)) (calm_stampWcf.trans calm_journal)))

/-- R88, R109: a captured access touches `PGERR` of its page, and is journalled. -/
theorem calm_capture {s : State} {a c : Nat} : Calm s (capture a c s) := by
  have l : ∀ p k, k < 0x40 → Loud (p * 0x1000 + k) := loud_head
  unfold capture
  extract_lets p s1 code
  have h1 : Calm s s1 := (((calm_put (l _ _ (by omega)) _).trans (calm_put (l _ _ (by omega)) _)).trans (calm_count (l _ _ (by omega)))).trans
    (calm_put (l _ _ (by omega)) _)
  exact calm_ite (h1.trans calm_raiseF) (h1.trans (calm_raiseH (by omega)))

end Sys2Proof.Machine
end

