-- ==== Sys2Proof/Laws/Kept.lean ====
section
/-! SUPPORT. What every operation of the model keeps, said once: the commands that wait, the count of free values, and the invariant. -/

namespace Sys2Proof.Machine

/-- `s` comes from `s0` by operations that leave the waiting commands alone, only take further free values, and keep the invariant. -/
structure Sound (s0 s : State) : Prop where
  pending : s.pending = s0.pending
  free : s0.free ≤ s.free
  inv : s0.Inv → s.Inv

/-- As `Sound`, and with no request of the service port held none becomes held. -/
structure Kept (s0 s : State) : Prop extends Sound s0 s where
  idle : s0.svc.held = [] → s.svc.held = []

theorem kept_refl (s : State) : Kept s s := ⟨⟨rfl, Nat.le_refl _, id⟩, id⟩

theorem sound_refl (s : State) : Sound s s := (kept_refl s).toSound

theorem Sound.trans {s t u : State} (h : Sound s t) (k : Sound t u) : Sound s u :=
  ⟨k.pending.trans h.pending, h.free.trans k.free, fun i => k.inv (h.inv i)⟩

theorem Kept.trans {s t u : State} (h : Kept s t) (k : Kept t u) : Kept s u := ⟨h.toSound.trans k.toSound, fun i => k.idle (h.idle i)⟩

/-- An update of the state keeps what the fields that the invariant speaks of keep. -/
theorem kept_mk {s0 s t : State} (h : Kept s0 s)
    (regs : Regs.wf s.regs → Regs.wf t.regs := by exact id)
    (banks : (∀ b ∈ s.weave.banks, Memory.wf b.content) → ∀ b ∈ t.weave.banks, Memory.wf b.content := by exact id)
    (stby : Memory.wf s.warden.stby → Memory.wf t.warden.stby := by exact id)
    (frags : Memory.wf s.selv.frags → Memory.wf t.selv.frags := by exact id)
    (window : Memory.wf s.selv.window → Memory.wf t.selv.window := by exact id)
    (entries : s.jr.entries.length ≤ 4096 → t.jr.entries.length ≤ 4096 := by exact id)
    (rj : s.porter.rj.length ≤ 512 → t.porter.rj.length ≤ 512 := by exact id)
    (backlog : s.link.backlog.length ≤ 1024 → t.link.backlog.length ≤ 1024 := by exact id)
    (hf : s.link.hf.kept.length ≤ 128 → t.link.hf.kept.length ≤ 128 := by exact id)
    (fh : s.link.fh.kept.length ≤ 128 → t.link.fh.kept.length ≤ 128 := by exact id)
    (held : s.svc.held.length ≤ 8 → t.svc.held.length ≤ 8 := by exact id)
    (idle : s.svc.held = [] → t.svc.held = [] := by exact id)
    (pend : t.pending = s.pending := by exact rfl) (fr : s.free ≤ t.free := by exact Nat.le_refl _) : Kept s0 t :=
  ⟨⟨pend.trans h.pending, h.free.trans fr, fun i =>
    have ⟨a, b, c, d, e, f, g, j, k, l, m⟩ := h.inv i
    ⟨regs a, banks b, stby c, frags d, window e, entries f, rj g, backlog j, hf k, fh l, held m⟩⟩, fun i => idle (h.idle i)⟩

theorem kept_ite {s0 a b : State} {p : Prop} [Decidable p] (ha : Kept s0 a) (hb : Kept s0 b) : Kept s0 (if p then a else b) := by
  split <;> assumption

theorem kept_ite2 {s0 : State} {α : Type} {a b : α × State} {p : Prop} [Decidable p] (ha : Kept s0 a.2) (hb : Kept s0 b.2) :
    Kept s0 (if p then a else b).2 := by
  split <;> assumption

theorem kept_foldl {s0 : State} {α : Type} {f : State → α → State} {l : List α} {i : State} (hi : Kept s0 i)
    (hf : ∀ t x, Kept s0 t → Kept s0 (f t x)) : Kept s0 (l.foldl f i) := by
  induction l generalizing i with
  | nil => exact hi
  | cons x t ih => exact ih (hf i x hi)

theorem kept_foldl2 {s0 : State} {α β : Type} {f : β × State → α → β × State} {l : List α} {i : β × State} (hi : Kept s0 i.2)
    (hf : ∀ t x, Kept s0 t.2 → Kept s0 (f t x).2) : Kept s0 (l.foldl f i).2 := by
  induction l generalizing i with
  | nil => exact hi
  | cons x t ih => exact ih (hf i x hi)

theorem kept_snd {s0 : State} {α : Type} {p : α × State} {a : α} {t : State} (h : Kept s0 p.2) (e : p = (a, t)) : Kept s0 t := by
  rw [e] at h; exact h

theorem kept_State_setRaw {s0 s : State} (h : Kept s0 s) {a : Nat} {w : Word} : Kept s0 (s.setRaw a w) :=
  kept_mk h (regs := fun i => regs_setCell i a w)

theorem kept_State_put {s0 s : State} (h : Kept s0 s) {f : Fld} {v : Nat} : Kept s0 (s.put f v) := kept_State_setRaw h
theorem kept_State_putI {s0 s : State} (h : Kept s0 s) {f : Fld} {v : Int} : Kept s0 (s.putI f v) := kept_State_setRaw h
theorem kept_State_putB {s0 s : State} (h : Kept s0 s) {f : Fld} {v : Bool} : Kept s0 (s.putB f v) := kept_State_setRaw h
theorem kept_State_addSat {s0 s : State} (h : Kept s0 s) {f : Fld} {v : Nat} : Kept s0 (s.addSat f v) := kept_State_setRaw h
theorem kept_State_count {s0 s : State} (h : Kept s0 s) {f : Fld} : Kept s0 (s.count f) := kept_State_setRaw h
theorem kept_State_countWrap {s0 s : State} (h : Kept s0 s) {f : Fld} : Kept s0 (s.countWrap f) := kept_State_setRaw h

/-- A command's meaning answers a next state that keeps what `Sound` says. -/
def Done (s : State) (o : Host.Outcome State Fault Refusal) : Prop := ∃ t, o = .next t ∧ Sound s t

theorem done_run {f : State → State} {s : State} (h : ∀ s0 s, Kept s0 s → Kept s0 (f s)) : Done s (run f s) :=
  ⟨_, rfl, (h s _ (kept_mk (kept_refl s))).toSound⟩

theorem done_sound {f : State → State} {s : State} (h : ∀ s, Sound s (f s)) : Done s (run f s) :=
  ⟨_, rfl, (kept_mk (t := { s with out := [] }) (kept_refl s)).toSound.trans (h _)⟩

end Sys2Proof.Machine
end

