-- ==== Sys2Proof/Laws/KeptCore.lean ====
section
/-! SUPPORT. What every operation and every command keeps: the shared operations, the interrupt controller and the warp. -/

namespace Sys2Proof.Machine

set_option Elab.async false

theorem kept_emit {s0 s : State} (h : Kept s0 s) {a0 : Out} : Kept s0 (emit a0 s) := by
  unfold emit
  exact (kept_mk h)

theorem kept_freeWord {s0 s : State} (h : Kept s0 s) : Kept s0 (freeWord s).2 := kept_mk h (fr := Nat.le_succ _)

theorem kept_stampWcf {s0 s : State} (h : Kept s0 s) {a0 : Stamp} : Kept s0 (stampWcf a0 s).2 := by
  unfold stampWcf
  exact (by split; exacts [h, (by split; rename_i w0 t1 q2; exact (fun k3 => k3) (kept_snd (kept_freeWord h) q2))])

theorem kept_sendMsix {s0 s : State} (h : Kept s0 s) {a0 : Nat} : Kept s0 (sendMsix a0 s) := by
  unfold sendMsix
  exact (by extract_lets x0; exact (kept_ite h (kept_ite (kept_State_put h) (kept_emit h))))

theorem kept_announce {s0 s : State} (h : Kept s0 s) {a0 : State} {a1 : Nat} : Kept s0 (announce a0 a1 s) := by
  unfold announce
  exact (kept_ite (kept_sendMsix h) h)

theorem kept_announceAll {s0 s : State} (h : Kept s0 s) {a0 : State} : Kept s0 (announceAll a0 s) := by
  unfold announceAll
  exact (kept_foldl h fun _ _ k2 => (kept_announce k2))

theorem kept_edgeEvent {s0 s : State} (h : Kept s0 s) {a0 : Nat} : Kept s0 (edgeEvent a0 s) := by
  unfold edgeEvent
  exact (kept_announce (kept_State_count (kept_State_put h)))

theorem kept_levelInput {s0 s : State} (h : Kept s0 s) {a0 : Nat} {a1 : Bool} : Kept s0 (levelInput a0 a1 s) := by
  unfold levelInput
  exact (by extract_lets x0 x1 x3 x4; have h2 : Kept s0 x1 := (kept_State_count (kept_mk h)); (try clear_value x1); have h5 : Kept s0 x4 := (kept_mk h); exact (kept_ite h (kept_ite (kept_ite h2 (kept_announce (kept_State_put h2))) (kept_ite h5 (kept_State_put h5)))))

theorem kept_discard {s0 s : State} (h : Kept s0 s) {a0 : Event} : Kept s0 (discard a0 s) := by
  unfold discard
  exact (by extract_lets x0 x6 x8; have h1 : ∀ v2 v3, Kept s0 v3 → Kept s0 (x0 v2 v3) := (by intro v2 v3 k4; unfold x0; exact (by extract_lets x5; exact (kept_State_count (kept_mk k4)))); have h7 : Kept s0 x6 := (kept_State_put (h1 _ _ h)); (try clear_value x6); exact (kept_ite (h1 _ _ (kept_mk h7)) h7))

theorem kept_fSend {s0 s : State} (h : Kept s0 s) {a0 : Event} : Kept s0 (fSend a0 s) := by
  unfold fSend
  split
  · exact kept_mk h
  · split
    · exact kept_mk h
    · split
      · rename_i hlt
        exact kept_State_count (kept_mk h (backlog := fun _ => by simp; omega))
      · exact kept_discard h

theorem kept_raiseF {s0 s : State} (h : Kept s0 s) {a0 : Nat} {a1 : Nat} {a2 : Nat} : Kept s0 (raiseF a0 a1 a2 s) := by
  unfold raiseF
  exact (kept_fSend h)

theorem kept_relevelBasic {s0 s : State} (h : Kept s0 s) {a0 : Nat} : Kept s0 (relevelBasic a0 s) := by
  unfold relevelBasic
  exact (by extract_lets x0 x1 x2; exact (kept_ite h (kept_ite (kept_ite h (kept_raiseF (kept_mk h))) (kept_levelInput h))))

theorem kept_noteEvt {s0 s : State} (h : Kept s0 s) {a0 : Nat} {a1 : Nat} : Kept s0 (noteEvt a0 a1 s) := by
  unfold noteEvt
  exact (by extract_lets x0; exact (kept_ite (kept_mk h) h))

theorem kept_setEvt {s0 s : State} (h : Kept s0 s) {a0 : Nat} {a1 : Nat} : Kept s0 (setEvt a0 a1 s) := by
  unfold setEvt
  exact (kept_relevelBasic (kept_noteEvt (kept_State_setRaw h)))

theorem kept_journal {s0 s : State} (h : Kept s0 s) {a0 : Word} {a1 a2 a3 a4 a5 : Nat} : Kept s0 (journal a0 a1 a2 a3 a4 a5 s) := by
  unfold journal
  extract_lets _ _ _ es s1 s2 s3
  have h1 : Kept s0 s1 := kept_mk h (entries := fun _ => by simp [es, s1])
  exact kept_setEvt (kept_State_put (kept_ite (kept_State_count (kept_State_put (kept_State_put h1))) (kept_State_put (kept_State_put h1))))

theorem kept_raiseH {s0 s : State} (h : Kept s0 s) {a0 : Nat} {a1 : Nat} {a2 : Nat} : Kept s0 (raiseH a0 a1 a2 s) := by
  unfold raiseH
  exact (by extract_lets x0; have h1 : Kept s0 x0 := (kept_journal h); (try clear_value x0); exact (kept_ite (kept_edgeEvent h1) h1))

theorem kept_deliverEvent {s0 s : State} (h : Kept s0 s) {a0 : Event} : Kept s0 (deliverEvent a0 s) := by
  unfold deliverEvent
  exact (kept_ite (kept_levelInput h) (kept_ite (kept_levelInput h) (by split; rename_i w0 t1 q2; exact (fun k3 => (by extract_lets x4 x5; have h6 : Kept s0 x5 := (kept_journal k3); (try clear_value x5); exact (kept_ite (kept_edgeEvent h6) h6))) (kept_snd (kept_stampWcf h) q2))))

theorem kept_capture {s0 s : State} (h : Kept s0 s) {a0 : Nat} {a1 : Nat} : Kept s0 (capture a0 a1 s) := by
  unfold capture
  exact (by extract_lets x0 x1 x3; have h2 : Kept s0 x1 := (kept_State_put (kept_State_count (kept_State_put (kept_State_put h)))); (try clear_value x1); exact (kept_ite (kept_raiseF h2) (kept_raiseH h2)))

theorem kept_writeHeader {s0 s : State} (h : Kept s0 s) {a0 : Nat} {a1 : Word} : Kept s0 (writeHeader a0 a1 s) := by
  unfold writeHeader
  exact (by extract_lets x0 x1 x2 x3 x5 x6 x7 x8 x10; have h4 : Kept s0 x3 := (kept_ite (kept_State_setRaw h) h); (try clear_value x3); have h9 : Kept s0 x8 := (kept_relevelBasic (kept_State_setRaw h)); (try clear_value x8); have h11 : Kept s0 x10 := (kept_State_setRaw h); (try clear_value x10); exact (kept_ite (kept_ite h4 (kept_capture h4)) (kept_ite (kept_ite h (kept_ite h9 (kept_capture h9))) (kept_ite (kept_ite h (kept_relevelBasic (kept_State_setRaw h))) (kept_ite (kept_ite h (kept_ite h11 (kept_capture h11))) (kept_ite (kept_capture h) (kept_ite h (kept_capture h))))))))

theorem kept_writeReg {s0 s : State} (h : Kept s0 s) {a0 : Nat} {a1 : Word} : Kept s0 (writeReg a0 a1 s) := by
  unfold writeReg
  exact (by extract_lets x0; exact (kept_ite h (kept_ite (kept_writeHeader h) (by split; exacts [(kept_ite h (kept_capture h)), (by extract_lets x1 x2 x3 x5; have h4 : Kept s0 x3 := (kept_State_setRaw h); (try clear_value x3); have h6 : Kept s0 x5 := (kept_ite h4 (kept_capture h4)); (try clear_value x5); exact (kept_ite (kept_ite h (kept_capture h)) (kept_ite (kept_capture h) (kept_ite (kept_capture h) (kept_ite h6 (kept_capture h6))))))]))))

theorem kept_unlessLocked {s0 s : State} (h : Kept s0 s) {a0 : Nat} {a1 : State → State} (ha1 : ∀ t, Kept s0 t → Kept s0 (a1 t)) : Kept s0 (unlessLocked a0 a1 s) := by
  unfold unlessLocked
  exact (by split; exacts [(kept_ite (kept_capture h) (ha1 _ h)), (ha1 _ h)])

theorem kept_when {s0 s : State} (h : Kept s0 s) {a0 : Bool} {a1 : State → State} (ha1 : ∀ t, Kept s0 t → Kept s0 (a1 t)) : Kept s0 (when a0 a1 s) := by
  unfold when
  exact (kept_ite (ha1 _ h) h)

theorem kept_putEvt {s0 s : State} (h : Kept s0 s) {a0 : Fld} {a1 : Nat} {a2 : Nat} {a3 : Nat} : Kept s0 (putEvt a0 a1 a2 a3 s) := by
  unfold putEvt
  exact (kept_ite h (kept_setEvt (kept_State_put h)))

theorem kept_spiAnswer {s0 s : State} (h : Kept s0 s) {a0 : Bool} {a1 : Bool} {a2 : List Word} : Kept s0 (spiAnswer a0 a1 a2 s) := by
  unfold spiAnswer
  exact (by extract_lets x0 x1 x2; exact (kept_emit (kept_mk h)))

theorem kept_svcDone {s0 s : State} (h : Kept s0 s) : Kept s0 (svcDone s) := by
  unfold svcDone
  exact kept_mk (kept_State_put (v := (s.svc.held.drop 1).length) h) (held := fun i => by
    have i : s.svc.held.length ≤ 8 := i
    simp; omega) (idle := fun i => by
    have i : s.svc.held = [] := i
    simp [i])

theorem kept_svcReply {s0 s : State} (h : Kept s0 s) {a0 : Nat} {a1 : Nat} {a2 : List Word} : Kept s0 (svcReply a0 a1 a2 s) := by
  unfold svcReply
  exact (by split; exacts [h, (kept_svcDone (kept_emit h))])

theorem kept_fillGather {s0 s : State} (h : Kept s0 s) {a0 : Nat} {a1 : Nat} {a2 : List Word} : Kept s0 (fillGather a0 a1 a2 s) := by
  unfold fillGather
  exact (by split; exacts [h, (by extract_lets x0 x1 x2 x3 x4; have h5 : Kept s0 x4 := (kept_mk h); exact (kept_ite (kept_ite (kept_svcReply h5) (kept_emit h5)) (kept_mk h)))])

theorem kept_ownSkip {s0 s : State} (h : Kept s0 s) {a0 : Nat} : Kept s0 (ownSkip a0 s) := by
  unfold ownSkip
  exact (by extract_lets x0 x1; exact (kept_ite (kept_raiseH (kept_State_put (kept_State_count (kept_mk h)))) (kept_ite (kept_mk h) (kept_ite (kept_capture h) h))))

theorem kept_failRead {s0 s : State} (h : Kept s0 s) {a0 : Outstanding} : Kept s0 (failRead a0 s) := by
  unfold failRead
  exact (by extract_lets x0 x1; exact (by split; exacts [(kept_fillGather h), (by split; exacts [(kept_ite (kept_spiAnswer (kept_mk h)) h), h]), (kept_ite h (kept_svcReply (kept_mk h))), (kept_ownSkip h)]))

theorem kept_dropWrite {s0 s : State} (h : Kept s0 s) : Kept s0 (dropWrite s) := by
  unfold dropWrite
  exact (kept_setEvt (kept_State_count h))

theorem kept_toF {s0 s : State} (h : Kept s0 s) {a0 : Payload} : Kept s0 (toF a0 s) := by
  unfold toF
  exact (by extract_lets x0 x1; exact (kept_mk h))

theorem kept_postWrite {s0 s : State} (h : Kept s0 s) {a0 : Nat} {a1 : List Word} : Kept s0 (postWrite a0 a1 s) := by
  unfold postWrite
  exact (kept_ite (kept_toF h) (kept_dropWrite h))

theorem kept_ownRead {s0 s : State} (h : Kept s0 s) {a0 : Nat} {a1 : Nat} {a2 : Nat} : Kept s0 (ownRead a0 a1 a2 s) := by
  unfold ownRead
  exact (by extract_lets x0 x1; exact (kept_ite (kept_toF (kept_mk h)) (kept_ownSkip h)))

theorem kept_rawTokens {s0 s : State} (h : Kept s0 s) : Kept s0 (rawTokens s) := by
  unfold rawTokens
  split
  rename_i w t q
  exact kept_foldl (kept_snd (kept_freeWord h) q) fun _ _ k => kept_State_count (kept_emit k)

theorem kept_blockTokens {s0 s : State} (h : Kept s0 s) : Kept s0 (blockTokens s) := by
  unfold blockTokens
  exact (kept_ite h (kept_rawTokens h))

theorem kept_assertOpen {s0 s : State} (h : Kept s0 s) : Kept s0 (assertOpen s) := by
  unfold assertOpen
  exact (by extract_lets x0; exact (kept_ite h (kept_mk h)))

theorem kept_closeShutter {s0 s : State} (h : Kept s0 s) : Kept s0 (closeShutter s) := by
  unfold closeShutter
  exact (by extract_lets x0 x2 x3 x4 x6; have h1 : Kept s0 x0 := (kept_rawTokens h); (try clear_value x0); have h5 : Kept s0 x4 := (kept_mk h1); have h7 : Kept s0 x6 := (kept_State_count (kept_State_put (kept_State_put h5))); (try clear_value x6); exact (kept_ite h (kept_raiseF (kept_setEvt h7))))

theorem kept_putHSwarp {s0 s : State} (h : Kept s0 s) {a0 : Fld} : Kept s0 (putHSwarp a0 s) := by
  unfold putHSwarp
  exact (kept_State_put h)

theorem kept_nextSlot {s0 s : State} (h : Kept s0 s) {a0 : Payload} : Kept s0 (nextSlot a0 s) := by
  unfold nextSlot
  exact (kept_mk h)

theorem kept_passSeal {s0 s : State} (h : Kept s0 s) : Kept s0 (passSeal s) := by
  unfold passSeal
  exact (kept_nextSlot h)

theorem kept_demand {s0 s : State} (h : Kept s0 s) {a0 : Nat} {a1 : Nat} : Kept s0 (demand a0 a1 s) := by
  unfold demand
  exact (by extract_lets x0 x1 x3 x5 x7 x9; have h2 : Kept s0 x1 := (kept_putHSwarp (kept_State_count h)); (try clear_value x1); have h4 : Kept s0 x3 := (kept_raiseH (kept_setEvt h2)); (try clear_value x3); have h6 : Kept s0 x5 := (kept_State_put (kept_State_put h4)); (try clear_value x5); have h8 : Kept s0 x7 := (kept_ite (kept_raiseH (kept_State_put h6)) h6); (try clear_value x7); exact (kept_nextSlot h8))

theorem kept_converterFault {s0 s : State} (h : Kept s0 s) {a0 : Nat} : Kept s0 (converterFault a0 s) := by
  unfold converterFault
  exact (by extract_lets x0 x1 x3; have h2 : Kept s0 x1 := (kept_raiseF (kept_State_put h)); (try clear_value x1); exact (kept_ite h (kept_ite (kept_mk h) (kept_ite (kept_mk h2) h2))))

theorem kept_clusterStop {s0 s : State} (h : Kept s0 s) {a0 : Nat} : Kept s0 (clusterStop a0 s) := by
  unfold clusterStop
  exact (by extract_lets x0 x1 x2 x3 x4; have h5 : Kept s0 x4 := (kept_assertOpen (kept_blockTokens (kept_mk h))); (try clear_value x4); exact (kept_converterFault (kept_State_put h5)))

theorem kept_retain {s0 s : State} (h : Kept s0 s) {a0 a1 : Nat} : Kept s0 (retain a0 a1 s) := by
  unfold retain
  split
  · exact h
  · extract_lets _ _ es _ _ s1 s2
    have h1 : Kept s0 s1 := kept_mk h (rj := fun _ => by simp [es, s1])
    exact kept_State_put (kept_State_put (kept_ite (kept_State_count h1) h1))

theorem kept_loadShadow {s0 s : State} (h : Kept s0 s) {a0 : Nat} {a1 : Nat} {a2 : List Word} : Kept s0 (loadShadow a0 a1 a2 s) := by
  unfold loadShadow
  exact (by extract_lets x0; exact (kept_mk h))

theorem kept_backlogPut {s0 s : State} (h : Kept s0 s) {a0 : Payload} : Kept s0 (backlogPut a0 s) := by
  unfold backlogPut
  split
  · split
    · rename_i hlt
      exact kept_State_count (kept_mk h (backlog := fun _ => by simp; omega))
    · exact kept_discard h
  · exact h

theorem kept_irqDropped {s0 s : State} (h : Kept s0 s) {a0 : Payload} : Kept s0 (irqDropped a0 s) := by
  unfold irqDropped
  exact (by split; exacts [(by extract_lets x0; exact (kept_ite (kept_mk h) h)), h])

theorem kept_rearm {s0 s : State} (h : Kept s0 s) : Kept s0 (rearm s) := by
  unfold rearm
  exact (by extract_lets x0; exact (kept_foldl (kept_mk h) fun _ _ k3 => (by extract_lets x4 x5; have h6 : Kept s0 x5 := (kept_mk k3); exact (kept_ite (kept_announce (kept_State_put h6)) h6))))

theorem kept_claimRead {s0 s : State} (h : Kept s0 s) {a0 : Nat} : Kept s0 (claimRead a0 s).2 := by
  unfold claimRead
  exact (by extract_lets x0; exact (kept_ite2 h (kept_State_put (kept_State_put h))))

theorem done_execClaim {s : State} {a0 : Nat} : Done s (execClaim a0 s) :=
  done_run fun _ _ h => (by split; rename_i w0 t1 q2; exact (fun k3 => (kept_emit k3)) (kept_snd (kept_claimRead h) q2))

theorem kept_completeWrite {s0 s : State} (h : Kept s0 s) {a0 : Nat} {a1 : Word} : Kept s0 (completeWrite a0 a1 s) := by
  unfold completeWrite
  exact (by extract_lets x0 x1 x3 x5; have h2 : Kept s0 x1 := (kept_State_put h); (try clear_value x1); have h4 : Kept s0 x3 := (kept_ite (kept_State_put h2) h2); (try clear_value x3); have h6 : Kept s0 x5 := (kept_announce h4); (try clear_value x5); exact (kept_ite (kept_capture h) (kept_ite h6 (kept_capture h6))))

theorem done_execComplete {s : State} {a0 : Nat} {a1 : Word} : Done s (execComplete a0 a1 s) :=
  done_run fun _ _ h => (kept_completeWrite h)

theorem kept_pendsetWrite {s0 s : State} (h : Kept s0 s) {a0 : Nat} {a1 : Word} : Kept s0 (pendsetWrite a0 a1 s) := by
  unfold pendsetWrite
  exact (by extract_lets x0; exact (kept_announceAll (kept_State_setRaw h)))

theorem kept_pendclrWrite {s0 s : State} (h : Kept s0 s) {a0 : Nat} {a1 : Word} : Kept s0 (pendclrWrite a0 a1 s) := by
  unfold pendclrWrite
  exact (by extract_lets x0; exact (kept_State_setRaw h))

theorem kept_pendWrite {s0 s : State} (h : Kept s0 s) {a0 : Nat} {a1 : Word} : Kept s0 (pendWrite a0 a1 s) := by
  unfold pendWrite
  exact (by extract_lets x0 x1; exact (kept_announceAll (kept_State_setRaw h)))

theorem kept_masksetWrite {s0 s : State} (h : Kept s0 s) {a0 : Nat} {a1 : Word} : Kept s0 (masksetWrite a0 a1 s) := by
  unfold masksetWrite
  exact (by extract_lets x0; exact (kept_State_setRaw h))

theorem kept_maskclrWrite {s0 s : State} (h : Kept s0 s) {a0 : Nat} {a1 : Word} : Kept s0 (maskclrWrite a0 a1 s) := by
  unfold maskclrWrite
  exact (by extract_lets x0; exact (kept_announceAll (kept_State_setRaw h)))

theorem kept_maskWrite {s0 s : State} (h : Kept s0 s) {a0 : Nat} {a1 : Word} : Kept s0 (maskWrite a0 a1 s) := by
  unfold maskWrite
  exact (by extract_lets x0 x1; exact (kept_announceAll (kept_State_setRaw h)))

theorem kept_rsv0 {s0 s : State} (h : Kept s0 s) {a0 : Nat} {a1 : Nat} {a2 : Word} : Kept s0 (rsv0 a0 a1 a2 s) := by
  unfold rsv0
  exact (kept_ite (kept_capture h) h)

theorem done_execPendset {s : State} {a0 : Nat} {a1 : Word} : Done s (execPendset a0 a1 s) :=
  done_run fun _ _ h => (kept_rsv0 (kept_pendsetWrite h))

theorem done_execPendclr {s : State} {a0 : Nat} {a1 : Word} : Done s (execPendclr a0 a1 s) :=
  done_run fun _ _ h => (kept_rsv0 (kept_pendclrWrite h))

theorem done_execMaskset {s : State} {a0 : Nat} {a1 : Word} : Done s (execMaskset a0 a1 s) :=
  done_run fun _ _ h => (kept_rsv0 (kept_masksetWrite h))

theorem done_execMaskclr {s : State} {a0 : Nat} {a1 : Word} : Done s (execMaskclr a0 a1 s) :=
  done_run fun _ _ h => (kept_rsv0 (kept_maskclrWrite h))

theorem kept_outcfgWrite {s0 s : State} (h : Kept s0 s) {a0 : Nat} {a1 : Word} : Kept s0 (outcfgWrite a0 a1 s) := by
  unfold outcfgWrite
  exact (by extract_lets x0 x1; have h2 : Kept s0 x1 := (kept_writeReg h); (try clear_value x1); exact (kept_ite (kept_ite h (kept_capture h)) (kept_ite (kept_foldl h2 fun _ _ k5 => (kept_ite (kept_sendMsix k5) k5)) h2)))

theorem done_execOutcfgWrite {s : State} {a0 : Nat} {a1 : Word} : Done s (execOutcfgWrite a0 a1 s) :=
  done_run fun _ _ h => (kept_outcfgWrite h)

theorem kept_srccfgWrite {s0 s : State} (h : Kept s0 s) {a0 : Nat} {a1 : Word} : Kept s0 (srccfgWrite a0 a1 s) := by
  unfold srccfgWrite
  exact (by extract_lets x0; exact (kept_ite (kept_capture h) (kept_ite (kept_capture h) (kept_announce (kept_writeReg h)))))

theorem done_execSrccfgWrite {s : State} {a0 : Nat} {a1 : Word} : Done s (execSrccfgWrite a0 a1 s) :=
  done_run fun _ _ h => (kept_srccfgWrite h)

theorem kept_wardenPass {s0 s : State} (h : Kept s0 s) : Kept s0 (wardenPass s) := by
  unfold wardenPass
  exact (by extract_lets x0 x1 x3 x4; have h2 : Kept s0 x1 := (kept_postWrite (kept_State_put h)); (try clear_value x1); exact (kept_ite h (kept_ite h2 (kept_mk h2))))

theorem done_execWardenTargetPass {s : State} : Done s (execWardenTargetPass s) :=
  done_run fun _ _ h => (kept_wardenPass h)

theorem kept_setWarpState {s0 s : State} (h : Kept s0 s) {a0 : Nat} : Kept s0 (setWarpState a0 s) := by
  unfold setWarpState
  exact (by extract_lets x0; exact (kept_ite h (kept_raiseF (kept_setEvt (kept_State_put h)))))

theorem kept_warpStart {s0 s : State} (h : Kept s0 s) : Kept s0 (warpStart s) := by
  unfold warpStart
  exact (by extract_lets x0; exact (kept_setWarpState (kept_State_put (kept_mk h))))

theorem kept_passPick {s0 s : State} (h : Kept s0 s) : Kept s0 (passPick s) := by
  unfold passPick
  exact (by extract_lets x0 x1 x2; exact (kept_mk h))

theorem kept_applyInc {s0 s : State} (h : Kept s0 s) : Kept s0 (applyInc s) := by
  unfold applyInc
  exact (by extract_lets x0 x1; have h2 : Kept s0 x1 := (kept_mk h); exact (by split; exacts [(kept_ite (kept_raiseF (kept_setEvt (kept_State_put (kept_State_put h2)))) (kept_ite (kept_raiseF (kept_setEvt (kept_State_put (kept_State_put h2)))) (kept_State_put (kept_State_put h2)))), (kept_ite (kept_State_put h2) h2)]))

theorem kept_trackAB {s0 s : State} (h : Kept s0 s) {a0 : Rat} {a1 : Rat} {a2 : Rat} : Kept s0 (trackAB a0 a1 a2 s) := by
  unfold trackAB
  exact (by extract_lets x0 x1 x2; exact (kept_mk h))

theorem kept_stepValid {s0 s : State} (h : Kept s0 s) : Kept s0 (stepValid s) := by
  unfold stepValid
  exact (by extract_lets x0 x1 x2; have h3 : Kept s0 x2 := (kept_mk h); exact (kept_ite (kept_ite (kept_setEvt (kept_State_put (kept_State_put h3))) h3) (kept_mk h)))

theorem kept_stepFm {s0 s : State} (h : Kept s0 s) {a0 : Rat} {a1 : Rat} : Kept s0 (stepFm a0 a1 s) := by
  unfold stepFm
  exact (by extract_lets x0 x1 x2 x3 x4 x5 x6 x7 x8 x10; have h9 : Kept s0 x8 := (kept_mk h); exact (kept_ite (kept_mk h9) (kept_ite (kept_raiseF (kept_setEvt (kept_mk h9))) (kept_mk h9))))

theorem kept_trackPick {s0 s : State} (h : Kept s0 s) {a0 : Rat} {a1 : Rat} {a2 : Rat} : Kept s0 (trackPick a0 a1 a2 s) := by
  unfold trackPick
  exact (by extract_lets x0 x2 x3 x5 x6 x8 x10 x11 x13 x14 x15; have h1 : Kept s0 x0 := (kept_trackAB h); (try clear_value x0); have h4 : Kept s0 x3 := (kept_mk h1); have h7 : Kept s0 x6 := (kept_stepValid (kept_State_put h4)); (try clear_value x6); have h9 : Kept s0 x8 := (kept_stepFm h7); (try clear_value x8); have h12 : Kept s0 x11 := (kept_mk h9); have h16 : Kept s0 x15 := (kept_mk h12); exact (kept_ite (kept_State_put (kept_State_put h16)) h12))

theorem kept_slewTo {s0 s : State} (h : Kept s0 s) {a0 : Rat} : Kept s0 (slewTo a0 s) := by
  unfold slewTo
  exact (by extract_lets x0 x1; exact (kept_mk h))

theorem kept_steerLaw {s0 s : State} (h : Kept s0 s) : Kept s0 (steerLaw s) := by
  unfold steerLaw
  exact (by extract_lets x0 x1 x2; exact (kept_slewTo h))

theorem kept_leaveFree {s0 s : State} (h : Kept s0 s) : Kept s0 (leaveFree s) := by
  unfold leaveFree
  exact (by extract_lets x0; exact (kept_ite (kept_slewTo (kept_setWarpState (kept_mk h))) (kept_steerLaw (kept_setWarpState h))))

theorem kept_steerPick {s0 s : State} (h : Kept s0 s) : Kept s0 (steerPick s) := by
  unfold steerPick
  exact (by extract_lets x0 x1 x3 x4 x5; have h2 : Kept s0 x1 := (kept_State_putB h); (try clear_value x1); exact (kept_ite h2 (kept_ite (kept_slewTo (kept_setWarpState h2)) (kept_ite (kept_ite (kept_leaveFree h2) (kept_slewTo h2)) (kept_ite (kept_ite (kept_slewTo (kept_setWarpState (kept_mk h2))) (kept_ite (kept_slewTo (kept_setWarpState (kept_mk h2))) (kept_steerLaw h2))) (kept_ite (kept_steerLaw (kept_setWarpState h2)) (kept_slewTo h2)))))))

theorem kept_lockPick {s0 s : State} (h : Kept s0 s) : Kept s0 (lockPick s) := by
  unfold lockPick
  exact (by extract_lets x0 x1 x3 x4 x5; have h2 : Kept s0 x1 := (kept_ite (kept_mk h) h); (try clear_value x1); have h6 : Kept s0 x5 := (kept_mk h2); exact (kept_ite (kept_mk h2) (kept_ite (kept_setEvt (kept_State_put h6)) h6)))

theorem done_execMeasurementValid {s : State} : Done s (execMeasurementValid s) :=
  done_run fun s0 _ h => (by extract_lets x0 x2 x3; have h1 : Kept s0 x0 := (kept_State_put (kept_State_put h)); (try clear_value x0); have h4 : Kept s0 x3 := (kept_mk h1); exact (kept_ite h (kept_ite (kept_leaveFree h4) (kept_ite (kept_steerLaw (kept_setWarpState h4)) h4))))

theorem done_execFmFreezeEnd {s : State} : Done s (execFmFreezeEnd s) :=
  done_run fun _ _ h => (by extract_lets x0; exact (kept_ite (kept_mk h) h))

theorem done_execFlywheelLimit {s : State} : Done s (execFlywheelLimit s) :=
  done_run fun _ _ h => (kept_ite (kept_slewTo (kept_setWarpState h)) h)

theorem done_execWarpLock {s : State} : Done s (execWarpLock s) :=
  done_run fun _ _ h => (kept_ite (kept_State_put h) h)

theorem kept_nowLoRead {s0 s : State} (h : Kept s0 s) {a0 : Nat} {a1 : Nat} : Kept s0 (nowLoRead a0 a1 s).2 := by
  unfold nowLoRead
  exact (by extract_lets x0; exact (kept_loadShadow h))

theorem done_execNowLoRead {s : State} {a0 : Nat} {a1 : Nat} : Done s (execNowLoRead a0 a1 s) :=
  done_run fun _ _ h => (by split; rename_i w0 t1 q2; exact (fun k3 => (kept_emit k3)) (kept_snd (kept_nowLoRead h) q2))

theorem kept_atlSloRead {s0 s : State} (h : Kept s0 s) {a0 : Nat} : Kept s0 (atlSloRead a0 s).2 := by
  unfold atlSloRead
  exact (by extract_lets x0; exact (kept_loadShadow h))

theorem done_execAtlSloRead {s : State} {a0 : Nat} : Done s (execAtlSloRead a0 s) :=
  done_run fun _ _ h => (by split; rename_i w0 t1 q2; exact (fun k3 => (kept_emit k3)) (kept_snd (kept_atlSloRead h) q2))

theorem done_execAngleZeroMark {s : State} : Done s (execAngleZeroMark s) :=
  done_run fun _ _ h => (by extract_lets x0 x1 x2; exact (kept_ite (kept_mk h) h))

theorem done_execWarpImageStale {s : State} : Done s (execWarpImageStale s) :=
  done_run fun _ _ h => (kept_State_put h)

theorem kept_clockAdvance {s0 s : State} (h : Kept s0 s) {a0 : Nat} : Kept s0 (clockAdvance a0 s) := by
  unfold clockAdvance
  exact (by extract_lets x0 x1 x2 x3; exact (kept_mk h))

theorem kept_setClock {s0 s : State} (h : Kept s0 s) {a0 : Nat} {a1 : Nat} : Kept s0 (setClock a0 a1 s) := by
  unfold setClock
  exact (by extract_lets x0 x1; exact (kept_mk h))

theorem kept_setRate {s0 s : State} (h : Kept s0 s) {a0 : Rat} : Kept s0 (setRate a0 s) := by
  unfold setRate
  exact (by extract_lets x0 x1; exact (kept_State_putI (kept_mk h)))

theorem kept_setSrc {s0 s : State} (h : Kept s0 s) {a0 : Nat} : Kept s0 (setSrc a0 s) := by
  unfold setSrc
  exact (by extract_lets x0 x1; have h2 : Kept s0 x1 := (kept_raiseH (kept_setEvt (kept_State_put h))); (try clear_value x1); exact (kept_ite h (kept_ite (kept_setRate h2) h2)))

theorem kept_atlTrigger {s0 s : State} (h : Kept s0 s) {a0 : Nat} : Kept s0 (atlTrigger a0 s) := by
  unfold atlTrigger
  exact (by extract_lets x0 x1 x2; exact (kept_ite h (kept_ite h (kept_mk h))))

theorem kept_usePps {s0 s : State} (h : Kept s0 s) : Kept s0 (usePps s) := by
  unfold usePps
  exact (by extract_lets x0 x1 x2 x4 x5 x7 x8; have h3 : Kept s0 x2 := (kept_setSrc (kept_State_putI h)); (try clear_value x2); have h6 : Kept s0 x5 := (kept_setClock h3); (try clear_value x5); exact (kept_ite (kept_raiseH (kept_setEvt h6)) (kept_setRate (kept_mk h3))))

theorem done_execPpsEdge {s : State} {a0 : Nat} : Done s (execPpsEdge a0 s) :=
  done_run fun s0 _ h => (by extract_lets x0 x2 x3 x4 x6 x7 x8 x10; have h1 : Kept s0 x0 := (kept_clockAdvance h); (try clear_value x0); have h5 : Kept s0 x4 := (kept_mk h1); have h9 : Kept s0 x8 := (kept_State_count (kept_State_put (kept_mk h5))); (try clear_value x8); have h11 : Kept s0 x10 := (kept_ite (kept_usePps h9) h9); (try clear_value x10); exact (kept_ite h (kept_ite (kept_mk h5) (kept_ite (kept_setEvt (kept_State_put h5)) (kept_ite (kept_atlTrigger h11) h11)))))

theorem done_execPpsHoldover {s : State} : Done s (execPpsHoldover s) :=
  done_run fun s0 _ h => (by extract_lets x0 x1; have h2 : Kept s0 x1 := (kept_mk h); exact (kept_ite (kept_raiseH (kept_setEvt (kept_setSrc h2))) h))

theorem done_execPpsHoldmax {s : State} : Done s (execPpsHoldmax s) :=
  done_run fun _ _ h => (kept_ite (kept_setSrc h) h)

theorem done_execRtcCompare {s : State} {a0 : Int} : Done s (execRtcCompare a0 s) :=
  done_run fun _ _ h => (kept_ite (by split; rename_i w0 t1 q2; exact (fun k3 => (kept_setRate k3)) (kept_snd (kept_freeWord h) q2)) h)

theorem done_execRtcRealign {s : State} : Done s (execRtcRealign s) :=
  done_run fun _ _ h => (by extract_lets x0; exact (kept_ite (kept_mk h) h))

theorem done_execWallClockLoad {s : State} {a0 : Nat} : Done s (execWallClockLoad a0 s) :=
  done_run fun s0 _ h => (by extract_lets x0 x1 x2 x3; have h4 : Kept s0 x3 := (kept_setClock (kept_mk h)); (try clear_value x3); exact (kept_State_put (kept_State_putB h4)))

theorem kept_secLoRead {s0 s : State} (h : Kept s0 s) {a0 : Nat} {a1 : Nat} : Kept s0 (secLoRead a0 a1 s).2 := by
  unfold secLoRead
  exact (by extract_lets x0; have h1 : Kept s0 x0 := (kept_clockAdvance h); (try clear_value x0); exact (kept_loadShadow h1))

theorem done_execSecLoRead {s : State} {a0 : Nat} {a1 : Nat} : Done s (execSecLoRead a0 a1 s) :=
  done_run fun _ _ h => (by split; rename_i w0 t1 q2; exact (fun k3 => (kept_emit k3)) (kept_snd (kept_secLoRead h) q2))

theorem kept_setctlArm {s0 s : State} (h : Kept s0 s) : Kept s0 (setctlArm s) := by
  unfold setctlArm
  exact (by extract_lets x0; exact (kept_State_put (kept_mk h)))

theorem kept_setctlCancel {s0 s : State} (h : Kept s0 s) : Kept s0 (setctlCancel s) := by
  unfold setctlCancel
  exact (by extract_lets x0; exact (kept_State_put (kept_mk h)))

theorem done_execSetctlArm {s : State} : Done s (execSetctlArm s) :=
  done_run fun _ _ h => (kept_setctlArm h)

theorem done_execSetctlCancel {s : State} : Done s (execSetctlCancel s) :=
  done_run fun _ _ h => (kept_setctlCancel h)

theorem done_execSecondsSet {s : State} : Done s (execSecondsSet s) :=
  done_run fun s0 _ h => (by extract_lets x0 x1 x2 x4 x6 x8; have h3 : Kept s0 x2 := (kept_setctlCancel (kept_setClock (kept_mk h))); (try clear_value x2); have h5 : Kept s0 x4 := (kept_State_put (kept_State_put h3)); (try clear_value x4); have h7 : Kept s0 x6 := (kept_ite (kept_setSrc h5) h5); (try clear_value x6); have h9 : Kept s0 x8 := (kept_putHSwarp h7); (try clear_value x8); exact (kept_ite h (kept_retain (kept_raiseH (kept_setEvt h9)))))

theorem done_execAtlGo {s : State} : Done s (execAtlGo s) :=
  done_run fun _ _ h => (kept_atlTrigger h)

end Sys2Proof.Machine
end

