-- ==== Sys2Proof/Laws/KeptEngines.lean ====
section
/-! SUPPORT. What every operation and every command keeps: the loom engines. -/

namespace Sys2Proof.Machine

set_option Elab.async false

theorem kept_modEng {s0 s : State} (h : Kept s0 s) {a0 : Nat} {a1 : Eng → Eng} : Kept s0 (modEng a0 a1 s) := by
  unfold modEng
  exact (kept_mk h)

theorem kept_modClu {s0 s : State} (h : Kept s0 s) {a0 : Nat} {a1 : Clu → Clu} : Kept s0 (modClu a0 a1 s) := by
  unfold modClu
  exact (kept_mk h)

theorem kept_setEngState {s0 s : State} (h : Kept s0 s) {a0 : Nat} {a1 : Nat} : Kept s0 (setEngState a0 a1 s) := by
  unfold setEngState
  exact (kept_State_put (kept_State_put h))

theorem kept_reedEvent {s0 s : State} (h : Kept s0 s) {a0 : Nat} {a1 : Nat} {a2 : Nat} : Kept s0 (reedEvent a0 a1 a2 s) := by
  unfold reedEvent
  exact (kept_raiseF (kept_setEvt h))

theorem kept_reedStop {s0 s : State} (h : Kept s0 s) {a0 : Nat} {a1 : Nat} : Kept s0 (reedStop a0 a1 s) := by
  unfold reedStop
  exact (kept_ite h (kept_clusterStop (kept_reedEvent h)))

theorem kept_setVote {s0 s : State} (h : Kept s0 s) {a0 : Nat} {a1 : Bool} : Kept s0 (setVote a0 a1 s) := by
  unfold setVote
  exact (by extract_lets x0 x1 x3 x5 x6; have h2 : Kept s0 x1 := (kept_State_putB h); (try clear_value x1); have h4 : Kept s0 x3 := (kept_State_put h2); (try clear_value x3); exact (kept_ite h4 (kept_ite (kept_reedStop h4) (kept_State_put h4))))

theorem kept_countOut {s0 s : State} (h : Kept s0 s) {a0 : Nat} : Kept s0 (countOut a0 s) := by
  unfold countOut
  exact (by extract_lets x0 x1 x3; have h2 : Kept s0 x1 := (kept_State_put h); (try clear_value x1); have h4 : Kept s0 x3 := (kept_State_put h2); (try clear_value x3); exact (kept_ite (kept_State_put h4) h4))

theorem kept_clusterFault {s0 s : State} (h : Kept s0 s) {a0 : Nat} : Kept s0 (clusterFault a0 s) := by
  unfold clusterFault
  exact (by extract_lets x0 x2; have h1 : Kept s0 x0 := (kept_reedEvent h); (try clear_value x0); exact (kept_converterFault (kept_mk h1)))

theorem kept_clearAttempt {s0 s : State} (h : Kept s0 s) {a0 : Nat} : Kept s0 (clearAttempt a0 s) := by
  unfold clearAttempt
  exact (by extract_lets x0 x1 x2; have h3 : Kept s0 x2 := (kept_State_put (kept_State_put (kept_State_put h))); (try clear_value x2); exact (kept_modClu (kept_State_put h3)))

theorem kept_leaveCopy {s0 s : State} (h : Kept s0 s) {a0 : Nat} : Kept s0 (leaveCopy a0 s) := by
  unfold leaveCopy
  exact (by extract_lets x0; exact (kept_ite h (kept_modEng h)))

theorem kept_abandonAttempt {s0 s : State} (h : Kept s0 s) {a0 : Nat} : Kept s0 (abandonAttempt a0 s) := by
  unfold abandonAttempt
  exact (kept_ite (kept_setEngState (kept_clearAttempt (kept_leaveCopy h))) h)

theorem kept_failAttempt {s0 s : State} (h : Kept s0 s) {a0 : Nat} {a1 : Nat} : Kept s0 (failAttempt a0 a1 s) := by
  unfold failAttempt
  exact (by extract_lets x0 x1 x2 x4 x5; have h3 : Kept s0 x2 := (kept_State_count (kept_State_count (kept_setEngState (kept_clearAttempt (kept_leaveCopy h))))); (try clear_value x2); have h6 : Kept s0 x5 := (kept_reedEvent h3); (try clear_value x5); exact (kept_ite (kept_reedEvent (kept_State_put h6)) h6))

theorem kept_putLoop {s0 s : State} (h : Kept s0 s) {a0 : Nat} {a1 : Nat} {a2 : List Loop} {a3 : List Nat} : Kept s0 (putLoop a0 a1 a2 a3 s) := by
  unfold putLoop
  exact (by extract_lets x0; exact (kept_State_putB (kept_State_put (kept_State_put (kept_State_put (kept_State_put h))))))

theorem kept_stopRecord {s0 s : State} (h : Kept s0 s) {a0 : Nat} {a1 : Nat} {a2 : Nat} {a3 : Option Attr} {a4 : Bool} {a5 : Nat} : Kept s0 (stopRecord a0 a1 a2 a3 a4 a5 s) := by
  unfold stopRecord
  exact (by extract_lets x0 x1 x2 x4 x6 x8 x10 x12 x14 x16 x17; have h3 : Kept s0 x2 := (kept_State_count (kept_State_putB (kept_State_put (kept_State_put h)))); (try clear_value x2); have h5 : Kept s0 x4 := (kept_State_putB (kept_State_putB (kept_State_put (kept_State_putB (kept_State_put h3))))); (try clear_value x4); have h7 : Kept s0 x6 := (kept_State_put (kept_State_put (kept_State_putB (kept_State_put (kept_State_put h5))))); (try clear_value x6); have h9 : Kept s0 x8 := (kept_State_putB (kept_State_putB (kept_State_put (kept_State_putB h7)))); (try clear_value x8); have h11 : Kept s0 x10 := (kept_State_put (kept_State_put (kept_State_put (kept_State_put h9)))); (try clear_value x10); have h13 : Kept s0 x12 := (kept_State_put (kept_State_putB (kept_State_put h11))); (try clear_value x12); have h15 : Kept s0 x14 := (kept_State_put (kept_State_put (kept_State_put h13))); (try clear_value x14); have h18 : Kept s0 x17 := (kept_State_put (kept_putLoop (kept_putLoop (kept_putLoop h15)))); (try clear_value x17); exact (kept_raiseF (kept_setEvt h18)))

theorem kept_stopEngine {s0 s : State} (h : Kept s0 s) {a0 : Nat} {a1 : Nat} {a2 : Nat} {a3 : Option Attr} {a4 : Bool} {a5 : Nat} : Kept s0 (stopEngine a0 a1 a2 a3 a4 a5 s) := by
  unfold stopEngine
  exact (by extract_lets x0 x1 x3 x4; have h2 : Kept s0 x1 := (kept_modEng (kept_stopRecord h)); (try clear_value x1); have h5 : Kept s0 x4 := (kept_ite (kept_abandonAttempt h2) h2); (try clear_value x4); exact (kept_ite h (kept_ite (kept_setEngState (kept_State_put h2)) (kept_ite (kept_failAttempt h2) (kept_ite (kept_countOut (kept_setEngState h5)) (kept_setVote (kept_setEngState h5)))))))

theorem kept_minority {s0 s : State} (h : Kept s0 s) {a0 : Nat} {a1 : Nat} {a2 : Nat} {a3 : Bool} : Kept s0 (minority a0 a1 a2 a3 s) := by
  unfold minority
  exact (by extract_lets x0 x1 x2 x4 x6; have h3 : Kept s0 x2 := (kept_State_put (kept_State_put (kept_State_put h))); (try clear_value x2); have h5 : Kept s0 x4 := (kept_State_put (kept_State_put (kept_State_putB h3))); (try clear_value x4); have h7 : Kept s0 x6 := (kept_State_countWrap (kept_State_count h5)); (try clear_value x6); exact (kept_stopEngine (kept_reedEvent h7)))

theorem kept_recordViolation {s0 s : State} (h : Kept s0 s) {a0 : Nat} {a1 : Nat} {a2 : Nat} {a3 : Bool} : Kept s0 (recordViolation a0 a1 a2 a3 s) := by
  unfold recordViolation
  exact (by extract_lets x0 x2; have h1 : Kept s0 x0 := (kept_State_putB (kept_State_put (kept_State_put (kept_State_put h)))); (try clear_value x0); have h3 : Kept s0 x2 := (kept_State_put (kept_State_put (kept_State_put h1))); (try clear_value x2); exact (kept_raiseF (kept_setEvt (kept_State_count h3))))

theorem kept_minorReport {s0 s : State} (h : Kept s0 s) {a0 : Nat} : Kept s0 (minorReport a0 s) := by
  unfold minorReport
  exact (by extract_lets x0 x1 x3; have h2 : Kept s0 x1 := (kept_State_put (kept_State_put (kept_State_put (kept_State_put h)))); (try clear_value x1); have h4 : Kept s0 x3 := (kept_State_put (kept_State_put h2)); (try clear_value x3); exact (kept_reedEvent (kept_State_countWrap (kept_State_count h4))))

theorem kept_stopUnvoted {s0 s : State} (h : Kept s0 s) {a0 : Nat} : Kept s0 (stopUnvoted a0 s) := by
  unfold stopUnvoted
  exact (kept_ite (kept_reedStop h) h)

theorem kept_voteChecks {s0 s : State} (h : Kept s0 s) {a0 : Nat} : Kept s0 (voteChecks a0 s) := by
  unfold voteChecks
  exact (by extract_lets x0 x1 x2 x3 x5; have h4 : Kept s0 x3 := (kept_mk h); exact (kept_ite h (by split; exacts [(kept_stopUnvoted (kept_clusterFault h4)), (by extract_lets x6; exact (kept_stopUnvoted (kept_converterFault (kept_recordViolation (kept_mk h4))))), (by extract_lets x7; have h8 : Kept s0 x7 := (kept_foldl h4 fun _ _ k11 => (kept_recordViolation k11)); (try clear_value x7); exact (kept_stopUnvoted (kept_foldl h8 fun _ _ k14 => (kept_minorReport k14))))])))

theorem kept_flagEvents {s0 s : State} (h : Kept s0 s) {a0 : Nat} {a1 : Bool} {a2 : Nat} : Kept s0 (flagEvents a0 a1 a2 s) := by
  unfold flagEvents
  exact (by extract_lets x0; exact (kept_foldl h fun _ _ k3 => (kept_ite (kept_raiseF (kept_setEvt k3)) k3)))

theorem kept_eccCorrect {s0 s : State} (h : Kept s0 s) {a0 : Nat} {a1 : Nat} {a2 : Nat} {a3 : Bool} : Kept s0 (eccCorrect a0 a1 a2 a3 s) := by
  unfold eccCorrect
  exact (by extract_lets x0 x1 x3; have h2 : Kept s0 x1 := (kept_State_put (kept_State_putB (kept_State_put (kept_State_put (kept_State_count h))))); (try clear_value x1); have h4 : Kept s0 x3 := (kept_setEvt h2); (try clear_value x3); exact (kept_ite h4 (kept_raiseF (kept_modEng h4))))

theorem kept_eccUe {s0 s : State} (h : Kept s0 s) {a0 : Nat} {a1 : Nat} {a2 : Nat} {a3 : Bool} : Kept s0 (eccUe a0 a1 a2 a3 s) := by
  unfold eccUe
  exact (kept_State_put (kept_State_putB (kept_State_put (kept_State_put h))))

theorem kept_landDue {s0 s : State} (h : Kept s0 s) {a0 : Nat} : Kept s0 (landDue a0 s) := by
  unfold landDue
  exact (by extract_lets x0 x1 x2; have h3 : Kept s0 x2 := (kept_modEng h); (try clear_value x2); exact (kept_foldl h3 fun _ _ k6 => (by split; exacts [(kept_stopEngine (kept_eccUe k6)), (by split; exacts [(kept_flagEvents (kept_modEng k6))])])))

theorem kept_stepRecords {s0 s : State} (h : Kept s0 s) {a0 : Nat} : Kept s0 (stepRecords a0 s) := by
  unfold stepRecords
  exact (kept_modEng (kept_foldl h fun _ _ k2 => (kept_State_put (kept_State_put (kept_State_put (kept_State_count k2))))))

theorem kept_eccReads {s0 s : State} (h : Kept s0 s) {a0 : Nat} {a1 : Nat} {a2 : List (Nat × Nat)} : Kept s0 (eccReads a0 a1 a2 s) := by
  unfold eccReads
  exact (kept_foldl h fun _ _ k2 => (kept_eccCorrect k2))

theorem kept_loadChecks {s0 s : State} (h : Kept s0 s) {a0 : Nat} {a1 : Eng} {a2 : Attr} {a3 : SlotOp} : Kept s0 (loadChecks a0 a1 a2 a3 s) := by
  unfold loadChecks
  exact (kept_ite (kept_eccReads h) h)

theorem kept_issueBundle {s0 s : State} (h : Kept s0 s) {a0 : Nat} {a1 : List Nat} {a2 : Option Nat} : Kept s0 (issueBundle a0 a1 a2 s) := by
  unfold issueBundle
  exact (by extract_lets x0 x1 x2 x3 x4 x5 x6 x7 x9 x10 x11 x12 x13 x14 x15 x16 x21 x22 x24; have h8 : Kept s0 x7 := (kept_eccReads h); (try clear_value x7); have h17 : Kept s0 x16 := (kept_foldl (kept_modEng h8) fun _ _ k20 => (kept_loadChecks k20)); (try clear_value x16); have h23 : Kept s0 x22 := (kept_ite (kept_stepRecords (kept_State_countWrap (kept_State_put h17))) h17); (try clear_value x22); have h25 : Kept s0 x24 := (kept_landDue h23); (try clear_value x24); exact (by split; exacts [(kept_stopEngine (kept_eccUe h8)), (kept_ite (kept_stopEngine h8) (kept_ite (kept_stopEngine (kept_ite (kept_mk h8) h8)) (by split; exacts [(kept_stopEngine h25), h25])))]))

theorem kept_slotIn {s0 s : State} (h : Kept s0 s) {a0 : Nat} {a1 : OpName} {a2 : SlotWord} {a3 : Iss} : Kept s0 (slotIn a0 a1 a2 a3 s) := by
  unfold slotIn
  exact (by extract_lets x0 x1; have h2 : Kept s0 x1 := (kept_modEng h); (try clear_value x1); exact (kept_ite h (kept_ite (kept_issueBundle h2) h2)))

theorem done_execAdd {s : State} {a0 : Nat} {a1 : SlotWord} {a2 : Iss} : Done s (execAdd a0 a1 a2 s) :=
  done_run fun _ _ h => (kept_slotIn h)

theorem done_execSub {s : State} {a0 : Nat} {a1 : SlotWord} {a2 : Iss} : Done s (execSub a0 a1 a2 s) :=
  done_run fun _ _ h => (kept_slotIn h)

theorem done_execAddi {s : State} {a0 : Nat} {a1 : SlotWord} {a2 : Iss} : Done s (execAddi a0 a1 a2 s) :=
  done_run fun _ _ h => (kept_slotIn h)

theorem done_execAnd {s : State} {a0 : Nat} {a1 : SlotWord} {a2 : Iss} : Done s (execAnd a0 a1 a2 s) :=
  done_run fun _ _ h => (kept_slotIn h)

theorem done_execOr {s : State} {a0 : Nat} {a1 : SlotWord} {a2 : Iss} : Done s (execOr a0 a1 a2 s) :=
  done_run fun _ _ h => (kept_slotIn h)

theorem done_execXor {s : State} {a0 : Nat} {a1 : SlotWord} {a2 : Iss} : Done s (execXor a0 a1 a2 s) :=
  done_run fun _ _ h => (kept_slotIn h)

theorem done_execAndn {s : State} {a0 : Nat} {a1 : SlotWord} {a2 : Iss} : Done s (execAndn a0 a1 a2 s) :=
  done_run fun _ _ h => (kept_slotIn h)

theorem done_execShl {s : State} {a0 : Nat} {a1 : SlotWord} {a2 : Iss} : Done s (execShl a0 a1 a2 s) :=
  done_run fun _ _ h => (kept_slotIn h)

theorem done_execShr {s : State} {a0 : Nat} {a1 : SlotWord} {a2 : Iss} : Done s (execShr a0 a1 a2 s) :=
  done_run fun _ _ h => (kept_slotIn h)

theorem done_execSar {s : State} {a0 : Nat} {a1 : SlotWord} {a2 : Iss} : Done s (execSar a0 a1 a2 s) :=
  done_run fun _ _ h => (kept_slotIn h)

theorem done_execShli {s : State} {a0 : Nat} {a1 : SlotWord} {a2 : Iss} : Done s (execShli a0 a1 a2 s) :=
  done_run fun _ _ h => (kept_slotIn h)

theorem done_execShri {s : State} {a0 : Nat} {a1 : SlotWord} {a2 : Iss} : Done s (execShri a0 a1 a2 s) :=
  done_run fun _ _ h => (kept_slotIn h)

theorem done_execSari {s : State} {a0 : Nat} {a1 : SlotWord} {a2 : Iss} : Done s (execSari a0 a1 a2 s) :=
  done_run fun _ _ h => (kept_slotIn h)

theorem done_execMin {s : State} {a0 : Nat} {a1 : SlotWord} {a2 : Iss} : Done s (execMin a0 a1 a2 s) :=
  done_run fun _ _ h => (kept_slotIn h)

theorem done_execMax {s : State} {a0 : Nat} {a1 : SlotWord} {a2 : Iss} : Done s (execMax a0 a1 a2 s) :=
  done_run fun _ _ h => (kept_slotIn h)

theorem done_execSel {s : State} {a0 : Nat} {a1 : SlotWord} {a2 : Iss} : Done s (execSel a0 a1 a2 s) :=
  done_run fun _ _ h => (kept_slotIn h)

theorem done_execLi {s : State} {a0 : Nat} {a1 : SlotWord} {a2 : Iss} : Done s (execLi a0 a1 a2 s) :=
  done_run fun _ _ h => (kept_slotIn h)

theorem done_execLih {s : State} {a0 : Nat} {a1 : SlotWord} {a2 : Iss} : Done s (execLih a0 a1 a2 s) :=
  done_run fun _ _ h => (kept_slotIn h)

theorem done_execCmp {s : State} {a0 : Nat} {a1 : SlotWord} {a2 : Iss} : Done s (execCmp a0 a1 a2 s) :=
  done_run fun _ _ h => (kept_slotIn h)

theorem done_execQadd {s : State} {a0 : Nat} {a1 : SlotWord} {a2 : Iss} : Done s (execQadd a0 a1 a2 s) :=
  done_run fun _ _ h => (kept_slotIn h)

theorem done_execQsub {s : State} {a0 : Nat} {a1 : SlotWord} {a2 : Iss} : Done s (execQsub a0 a1 a2 s) :=
  done_run fun _ _ h => (kept_slotIn h)

theorem done_execQabs {s : State} {a0 : Nat} {a1 : SlotWord} {a2 : Iss} : Done s (execQabs a0 a1 a2 s) :=
  done_run fun _ _ h => (kept_slotIn h)

theorem done_execQmul {s : State} {a0 : Nat} {a1 : SlotWord} {a2 : Iss} : Done s (execQmul a0 a1 a2 s) :=
  done_run fun _ _ h => (kept_slotIn h)

theorem done_execQmac {s : State} {a0 : Nat} {a1 : SlotWord} {a2 : Iss} : Done s (execQmac a0 a1 a2 s) :=
  done_run fun _ _ h => (kept_slotIn h)

theorem done_execQmsb {s : State} {a0 : Nat} {a1 : SlotWord} {a2 : Iss} : Done s (execQmsb a0 a1 a2 s) :=
  done_run fun _ _ h => (kept_slotIn h)

theorem done_execQmz {s : State} {a0 : Nat} {a1 : SlotWord} {a2 : Iss} : Done s (execQmz a0 a1 a2 s) :=
  done_run fun _ _ h => (kept_slotIn h)

theorem done_execAcr {s : State} {a0 : Nat} {a1 : SlotWord} {a2 : Iss} : Done s (execAcr a0 a1 a2 s) :=
  done_run fun _ _ h => (kept_slotIn h)

theorem done_execAcw {s : State} {a0 : Nat} {a1 : SlotWord} {a2 : Iss} : Done s (execAcw a0 a1 a2 s) :=
  done_run fun _ _ h => (kept_slotIn h)

theorem done_execFadd {s : State} {a0 : Nat} {a1 : SlotWord} {a2 : Iss} : Done s (execFadd a0 a1 a2 s) :=
  done_run fun _ _ h => (kept_slotIn h)

theorem done_execFsub {s : State} {a0 : Nat} {a1 : SlotWord} {a2 : Iss} : Done s (execFsub a0 a1 a2 s) :=
  done_run fun _ _ h => (kept_slotIn h)

theorem done_execFmul {s : State} {a0 : Nat} {a1 : SlotWord} {a2 : Iss} : Done s (execFmul a0 a1 a2 s) :=
  done_run fun _ _ h => (kept_slotIn h)

theorem done_execFma {s : State} {a0 : Nat} {a1 : SlotWord} {a2 : Iss} : Done s (execFma a0 a1 a2 s) :=
  done_run fun _ _ h => (kept_slotIn h)

theorem done_execFmin {s : State} {a0 : Nat} {a1 : SlotWord} {a2 : Iss} : Done s (execFmin a0 a1 a2 s) :=
  done_run fun _ _ h => (kept_slotIn h)

theorem done_execFmax {s : State} {a0 : Nat} {a1 : SlotWord} {a2 : Iss} : Done s (execFmax a0 a1 a2 s) :=
  done_run fun _ _ h => (kept_slotIn h)

theorem done_execFneg {s : State} {a0 : Nat} {a1 : SlotWord} {a2 : Iss} : Done s (execFneg a0 a1 a2 s) :=
  done_run fun _ _ h => (kept_slotIn h)

theorem done_execFabs {s : State} {a0 : Nat} {a1 : SlotWord} {a2 : Iss} : Done s (execFabs a0 a1 a2 s) :=
  done_run fun _ _ h => (kept_slotIn h)

theorem done_execFcmp {s : State} {a0 : Nat} {a1 : SlotWord} {a2 : Iss} : Done s (execFcmp a0 a1 a2 s) :=
  done_run fun _ _ h => (kept_slotIn h)

theorem done_execFcvt {s : State} {a0 : Nat} {a1 : SlotWord} {a2 : Iss} : Done s (execFcvt a0 a1 a2 s) :=
  done_run fun _ _ h => (kept_slotIn h)

theorem done_execFrcp {s : State} {a0 : Nat} {a1 : SlotWord} {a2 : Iss} : Done s (execFrcp a0 a1 a2 s) :=
  done_run fun _ _ h => (kept_slotIn h)

theorem done_execFrsq {s : State} {a0 : Nat} {a1 : SlotWord} {a2 : Iss} : Done s (execFrsq a0 a1 a2 s) :=
  done_run fun _ _ h => (kept_slotIn h)

theorem done_execLdw {s : State} {a0 : Nat} {a1 : SlotWord} {a2 : Iss} : Done s (execLdw a0 a1 a2 s) :=
  done_run fun _ _ h => (kept_slotIn h)

theorem done_execLdd {s : State} {a0 : Nat} {a1 : SlotWord} {a2 : Iss} : Done s (execLdd a0 a1 a2 s) :=
  done_run fun _ _ h => (kept_slotIn h)

theorem done_execStw {s : State} {a0 : Nat} {a1 : SlotWord} {a2 : Iss} : Done s (execStw a0 a1 a2 s) :=
  done_run fun _ _ h => (kept_slotIn h)

theorem done_execStd {s : State} {a0 : Nat} {a1 : SlotWord} {a2 : Iss} : Done s (execStd a0 a1 a2 s) :=
  done_run fun _ _ h => (kept_slotIn h)

theorem done_execLdx {s : State} {a0 : Nat} {a1 : SlotWord} {a2 : Iss} : Done s (execLdx a0 a1 a2 s) :=
  done_run fun _ _ h => (kept_slotIn h)

theorem done_execStx {s : State} {a0 : Nat} {a1 : SlotWord} {a2 : Iss} : Done s (execStx a0 a1 a2 s) :=
  done_run fun _ _ h => (kept_slotIn h)

theorem done_execLda {s : State} {a0 : Nat} {a1 : SlotWord} {a2 : Iss} : Done s (execLda a0 a1 a2 s) :=
  done_run fun _ _ h => (kept_slotIn h)

theorem done_execLdaw {s : State} {a0 : Nat} {a1 : SlotWord} {a2 : Iss} : Done s (execLdaw a0 a1 a2 s) :=
  done_run fun _ _ h => (kept_slotIn h)

theorem done_execSta {s : State} {a0 : Nat} {a1 : SlotWord} {a2 : Iss} : Done s (execSta a0 a1 a2 s) :=
  done_run fun _ _ h => (kept_slotIn h)

theorem done_execLds {s : State} {a0 : Nat} {a1 : SlotWord} {a2 : Iss} : Done s (execLds a0 a1 a2 s) :=
  done_run fun _ _ h => (kept_slotIn h)

theorem done_execLdp {s : State} {a0 : Nat} {a1 : SlotWord} {a2 : Iss} : Done s (execLdp a0 a1 a2 s) :=
  done_run fun _ _ h => (kept_slotIn h)

theorem done_execLdr {s : State} {a0 : Nat} {a1 : SlotWord} {a2 : Iss} : Done s (execLdr a0 a1 a2 s) :=
  done_run fun _ _ h => (kept_slotIn h)

theorem done_execLdb {s : State} {a0 : Nat} {a1 : SlotWord} {a2 : Iss} : Done s (execLdb a0 a1 a2 s) :=
  done_run fun _ _ h => (kept_slotIn h)

theorem done_execBra {s : State} {a0 : Nat} {a1 : SlotWord} {a2 : Iss} : Done s (execBra a0 a1 a2 s) :=
  done_run fun _ _ h => (kept_slotIn h)

theorem done_execBri {s : State} {a0 : Nat} {a1 : SlotWord} {a2 : Iss} : Done s (execBri a0 a1 a2 s) :=
  done_run fun _ _ h => (kept_slotIn h)

theorem done_execCall {s : State} {a0 : Nat} {a1 : SlotWord} {a2 : Iss} : Done s (execCall a0 a1 a2 s) :=
  done_run fun _ _ h => (kept_slotIn h)

theorem done_execRet {s : State} {a0 : Nat} {a1 : SlotWord} {a2 : Iss} : Done s (execRet a0 a1 a2 s) :=
  done_run fun _ _ h => (kept_slotIn h)

theorem done_execLoopi {s : State} {a0 : Nat} {a1 : SlotWord} {a2 : Iss} : Done s (execLoopi a0 a1 a2 s) :=
  done_run fun _ _ h => (kept_slotIn h)

theorem done_execLoopr {s : State} {a0 : Nat} {a1 : SlotWord} {a2 : Iss} : Done s (execLoopr a0 a1 a2 s) :=
  done_run fun _ _ h => (kept_slotIn h)

theorem done_execCrd {s : State} {a0 : Nat} {a1 : SlotWord} {a2 : Iss} : Done s (execCrd a0 a1 a2 s) :=
  done_run fun _ _ h => (kept_slotIn h)

theorem done_execCwr {s : State} {a0 : Nat} {a1 : SlotWord} {a2 : Iss} : Done s (execCwr a0 a1 a2 s) :=
  done_run fun _ _ h => (kept_slotIn h)

theorem done_execCwi {s : State} {a0 : Nat} {a1 : SlotWord} {a2 : Iss} : Done s (execCwi a0 a1 a2 s) :=
  done_run fun _ _ h => (kept_slotIn h)

theorem done_execJend {s : State} {a0 : Nat} {a1 : SlotWord} {a2 : Iss} : Done s (execJend a0 a1 a2 s) :=
  done_run fun _ _ h => (kept_slotIn h)

theorem done_execEndMarker {s : State} {a0 : Nat} {a1 : SlotWord} {a2 : Iss} : Done s (execEndMarker a0 a1 a2 s) :=
  done_run fun _ _ h => (kept_slotIn h)

theorem done_execRece {s : State} {a0 : Nat} {a1 : SlotWord} {a2 : Iss} : Done s (execRece a0 a1 a2 s) :=
  done_run fun _ _ h => (kept_slotIn h)

theorem done_execRecr {s : State} {a0 : Nat} {a1 : SlotWord} {a2 : Iss} : Done s (execRecr a0 a1 a2 s) :=
  done_run fun _ _ h => (kept_slotIn h)

theorem done_execRecs {s : State} {a0 : Nat} {a1 : SlotWord} {a2 : Iss} : Done s (execRecs a0 a1 a2 s) :=
  done_run fun _ _ h => (kept_slotIn h)

theorem done_execRecv {s : State} {a0 : Nat} {a1 : SlotWord} {a2 : Iss} : Done s (execRecv a0 a1 a2 s) :=
  done_run fun _ _ h => (kept_slotIn h)

theorem done_execUndefinedOperation {s : State} {a0 : Nat} {a1 : SlotWord} {a2 : Iss} : Done s (execUndefinedOperation a0 a1 a2 s) :=
  done_run fun _ _ h => (kept_slotIn h)

theorem done_execNop {s : State} {a0 : Nat} {a1 : SlotWord} {a2 : Iss} : Done s (execNop a0 a1 a2 s) :=
  done_run fun _ _ h => (kept_slotIn h)

theorem done_execOperationComplete {s : State} {a0 : Nat} {a1 : Nat} : Done s (execOperationComplete a0 a1 s) :=
  done_run fun _ _ h => (kept_landDue (kept_modEng h))

theorem kept_stepctlWrite {s0 s : State} (h : Kept s0 s) {a0 : Nat} {a1 : Word} : Kept s0 (stepctlWrite a0 a1 s) := by
  unfold stepctlWrite
  exact (by extract_lets x0 x1 x2; have h3 : Kept s0 x2 := (kept_ite h (kept_capture h)); (try clear_value x2); exact (kept_ite (kept_capture h) (kept_ite (kept_capture h) (kept_ite h3 (kept_modEng (kept_setEngState (kept_State_put (kept_State_put h3))))))))

theorem done_execStepctl {s : State} {a0 : Nat} {a1 : Word} : Done s (execStepctl a0 a1 s) :=
  done_run fun _ _ h => (kept_stepctlWrite h)

theorem kept_steppcWrite {s0 s : State} (h : Kept s0 s) {a0 : Nat} {a1 : Word} : Kept s0 (steppcWrite a0 a1 s) := by
  unfold steppcWrite
  exact (by extract_lets x0 x1 x3 x5 x7; have h2 : Kept s0 x1 := (kept_ite h (kept_capture h)); (try clear_value x1); have h4 : Kept s0 x3 := (kept_State_put (kept_State_put (kept_State_putB (kept_State_put h2)))); (try clear_value x3); have h6 : Kept s0 x5 := (kept_State_putB (kept_State_put h4)); (try clear_value x5); have h8 : Kept s0 x7 := (kept_foldl (kept_State_put h6) fun _ _ k11 => (kept_State_putB (kept_State_put k11))); (try clear_value x7); exact (kept_ite (kept_capture h) (kept_ite (kept_capture h) (kept_modEng h8))))

theorem done_execSteppc {s : State} {a0 : Nat} {a1 : Word} : Done s (execSteppc a0 a1 s) :=
  done_run fun _ _ h => (kept_steppcWrite h)

theorem done_execStepRunEnd {s : State} {a0 : Nat} : Done s (execStepRunEnd a0 s) :=
  done_run fun _ _ h => (kept_ite (kept_stopEngine h) h)

end Sys2Proof.Machine
end

