-- ==== Sys2Proof/Laws/KeptBoard.lean ====
section
/-! SUPPORT. What every operation and every command keeps: the H-die and D-die units. -/

namespace Sys2Proof.Machine

set_option Elab.async false

theorem kept_windowCheck {s0 s : State} (h : Kept s0 s) {a0 : Nat} {a1 : Nat} {a2 : Nat} : Kept s0 (windowCheck a0 a1 a2 s) := by
  unfold windowCheck
  exact (by extract_lets x0 x1 x2 x3; have h4 : Kept s0 x3 := (kept_mk h); exact (kept_ite h (kept_ite h (kept_ite (kept_raiseH (kept_setEvt h4)) h4))))

theorem kept_hadcResult {s0 s : State} (h : Kept s0 s) {a0 : Nat} {a1 : Nat} : Kept s0 (hadcResult a0 a1 s) := by
  unfold hadcResult
  exact (by extract_lets x0 x1; have h2 : Kept s0 x1 := (kept_State_countWrap (kept_State_put (kept_State_put h))); (try clear_value x1); exact (kept_foldl (kept_State_countWrap h2) fun _ _ k5 => (kept_windowCheck k5)))

theorem kept_modLouv {s0 s : State} (h : Kept s0 s) {a0 : Nat} {a1 : LouvSt → LouvSt} : Kept s0 (modLouv a0 a1 s) := by
  unfold modLouv
  exact (kept_mk h)

theorem kept_louvState {s0 s : State} (h : Kept s0 s) {a0 : Nat} {a1 : Nat} : Kept s0 (louvState a0 a1 s) := by
  unfold louvState
  exact (by extract_lets x0 x1 x3; have h2 : Kept s0 x1 := (kept_State_put h); (try clear_value x1); have h4 : Kept s0 x3 := (kept_ite (kept_modLouv (kept_State_count h2)) h2); (try clear_value x3); exact (kept_ite h (kept_raiseH (kept_setEvt h4))))

theorem kept_gatesOff {s0 s : State} (h : Kept s0 s) {a0 : Nat} : Kept s0 (gatesOff a0 s) := by
  unfold gatesOff
  exact (kept_modLouv (kept_State_put h))

theorem kept_louvFault {s0 s : State} (h : Kept s0 s) {a0 : Nat} {a1 : Nat} {a2 : Nat} : Kept s0 (louvFault a0 a1 a2 s) := by
  unfold louvFault
  extract_lets st t s1 s2
  have ht : Kept s0 t := kept_ite (kept_modLouv h) (kept_gatesOff h)
  clear_value t
  have h1 : Kept s0 s1 := kept_State_count (kept_State_put (kept_State_put ht))
  clear_value s1
  exact kept_louvState (kept_raiseH (kept_setEvt (kept_ite (kept_State_put h1) h1)))

theorem kept_thermEvent {s0 s : State} (h : Kept s0 s) {a0 : Nat} {a1 : Nat} {a2 : Nat} {a3 : Nat} : Kept s0 (thermEvent a0 a1 a2 a3 s) := by
  unfold thermEvent
  exact (kept_ite (kept_raiseF (kept_setEvt h)) (kept_raiseH (kept_setEvt h)))

theorem kept_evalUnknown {s0 s : State} (h : Kept s0 s) {a0 : Nat} : Kept s0 (evalUnknown a0 s) := by
  unfold evalUnknown
  exact (by extract_lets x0 x1 x2 x4; have h3 : Kept s0 x2 := (kept_ite (kept_State_put h) h); (try clear_value x2); exact (kept_ite h3 (kept_thermEvent (kept_State_putB h3))))

theorem kept_excludeSensor {s0 s : State} (h : Kept s0 s) {a0 : Nat} : Kept s0 (excludeSensor a0 s) := by
  unfold excludeSensor
  exact (by extract_lets x0 x1 x3 x5 x6; have h2 : Kept s0 x1 := (kept_State_count (kept_State_put h)); (try clear_value x1); have h4 : Kept s0 x3 := (kept_ite (kept_State_put h2) h2); (try clear_value x3); have h7 : Kept s0 x6 := (kept_mk h4); exact (kept_ite h (kept_evalUnknown (kept_thermEvent h7))))

theorem kept_readmitSensor {s0 s : State} (h : Kept s0 s) {a0 : Nat} : Kept s0 (readmitSensor a0 s) := by
  unfold readmitSensor
  exact (by extract_lets x0 x1 x3 x5 x6; have h2 : Kept s0 x1 := (kept_State_put h); (try clear_value x1); have h4 : Kept s0 x3 := (kept_ite (kept_State_put h2) h2); (try clear_value x3); have h7 : Kept s0 x6 := (kept_mk h4); exact (kept_evalUnknown (kept_thermEvent h7)))

theorem kept_shutdownDemand {s0 s : State} (h : Kept s0 s) : Kept s0 (shutdownDemand s) := by
  unfold shutdownDemand
  exact (kept_ite (kept_postWrite h) (kept_demand h))

theorem kept_enterShutdown {s0 s : State} (h : Kept s0 s) {a0 : Nat} : Kept s0 (enterShutdown a0 s) := by
  unfold enterShutdown
  exact (kept_ite (kept_converterFault (kept_raiseF h)) (kept_shutdownDemand (kept_raiseH h)))

theorem kept_endDemand {s0 s : State} (h : Kept s0 s) {a0 : Nat} {a1 : Nat} : Kept s0 (endDemand a0 a1 s) := by
  unfold endDemand
  exact (kept_ite (kept_postWrite h) h)

theorem kept_blockActions {s0 s : State} (h : Kept s0 s) : Kept s0 (blockActions s) := by
  unfold blockActions
  exact (by extract_lets x0; exact (kept_assertOpen (kept_blockTokens (kept_mk h))))

theorem kept_hardLimit {s0 s : State} (h : Kept s0 s) {a0 : Nat} : Kept s0 (hardLimit a0 s) := by
  unfold hardLimit
  exact (by extract_lets x0 x2 x4; have h1 : Kept s0 x0 := (kept_retain (kept_raiseH h)); (try clear_value x0); have h3 : Kept s0 x2 := (kept_demand h1); (try clear_value x2); exact (kept_ite (kept_blockActions (kept_raiseF (kept_State_put h))) (kept_ite (kept_foldl (kept_mk h3) fun _ _ k7 => (kept_louvFault k7)) h3)))

theorem kept_evalThrot {s0 s : State} (h : Kept s0 s) : Kept s0 (evalThrot s) := by
  unfold evalThrot
  exact (by extract_lets x0; exact (kept_State_putB h))

theorem kept_putLevel {s0 s : State} (h : Kept s0 s) {a0 : Nat} : Kept s0 (putLevel a0 s) := by
  unfold putLevel
  exact (by extract_lets x0 x1 x2; exact (kept_ite h (kept_thermEvent (kept_State_put h))))

theorem kept_evalLevel {s0 s : State} (h : Kept s0 s) {a0 : Nat} {a1 : Int} : Kept s0 (evalLevel a0 a1 s) := by
  unfold evalLevel
  exact (by split; exacts [(by extract_lets x0 x1 x2 x3 x4 x6 x8 x9 x11; have h5 : Kept s0 x4 := (kept_putLevel (kept_mk h)); (try clear_value x4); have h7 : Kept s0 x6 := (kept_ite (kept_enterShutdown h5) (kept_endDemand h5)); (try clear_value x6); have h10 : Kept s0 x9 := (kept_ite (kept_hardLimit h7) h7); (try clear_value x9); exact (kept_evalThrot (kept_mk h10)))])

theorem kept_putBand {s0 s : State} (h : Kept s0 s) {a0 : Nat} : Kept s0 (putBand a0 s) := by
  unfold putBand
  exact (by extract_lets x0 x2; have h1 : Kept s0 x0 := (kept_thermEvent (kept_State_put h)); (try clear_value x0); exact (kept_ite h (kept_mk h1)))

theorem kept_evalBand {s0 s : State} (h : Kept s0 s) {a0 : Int} : Kept s0 (evalBand a0 s) := by
  unfold evalBand
  exact (kept_putBand h)

theorem kept_dieSettles {s0 s : State} (h : Kept s0 s) {a0 : Nat} : Kept s0 (dieSettles a0 s) := by
  unfold dieSettles
  exact (by extract_lets x0; have h1 : Kept s0 x0 := (kept_evalThrot (kept_putLevel h)); (try clear_value x0); exact (kept_ite (kept_putBand h1) h1))

theorem kept_evalFuseok {s0 s : State} (h : Kept s0 s) : Kept s0 (evalFuseok s) := by
  unfold evalFuseok
  exact (by extract_lets x0 x1 x2; have h3 : Kept s0 x2 := (kept_ite h (kept_thermEvent (kept_State_putB h))); (try clear_value x2); exact (kept_ite (kept_raiseH (kept_setEvt (kept_State_put h3))) h3))

theorem kept_readSensor {s0 s : State} (h : Kept s0 s) {a0 : Nat} : Kept s0 (readSensor a0 s) := by
  unfold readSensor
  exact (by extract_lets x0 x1 x2 x4 x5; have h3 : Kept s0 x2 := (kept_State_putI h); (try clear_value x2); have h6 : Kept s0 x5 := (kept_mk h3); exact (kept_ite h (kept_ite (kept_excludeSensor h6) h6)))

theorem kept_crossCheck {s0 s : State} (h : Kept s0 s) {a0 : Nat} : Kept s0 (crossCheck a0 s) := by
  unfold crossCheck
  exact (by extract_lets x0 x1 x2 x3 x4; exact (kept_ite h (kept_mk h)))

theorem kept_evalDie {s0 s : State} (h : Kept s0 s) {a0 : Nat} : Kept s0 (evalDie a0 s) := by
  unfold evalDie
  extract_lets s1 ts
  have h1 : Kept s0 s1 := kept_evalUnknown h
  clear_value ts
  rcases ts with _ | ⟨t0, r⟩
  · exact kept_evalLevel h1
  · exact kept_evalLevel (kept_ite (kept_State_putI (kept_State_putI h1)) (kept_ite (kept_State_putI (kept_State_putI h1))
      (kept_State_putI (kept_State_putI h1))))

theorem done_execSensorConversion {s : State} {a0 : Nat} {a1 : Int} {a2 : Bool} : Done s (execSensorConversion a0 a1 a2 s) :=
  done_run fun _ _ h => (by extract_lets x0; exact (kept_ite h (kept_ite (kept_dieSettles (kept_excludeSensor h)) (kept_mk h))))

theorem done_execSensorReading {s : State} {a0 : Bool} : Done s (execSensorReading a0 s) :=
  done_run fun s0 _ h => (by extract_lets x0 x1 x9; have h2 : Kept s0 x1 := (kept_foldl (kept_foldl h fun _ _ k5 => (kept_readSensor k5)) fun _ _ k8 => (kept_crossCheck k8)); (try clear_value x1); have h10 : Kept s0 x9 := (kept_evalDie h2); (try clear_value x9); exact (kept_ite (kept_evalBand h10) (kept_evalFuseok (kept_evalDie (kept_evalDie h2)))))

theorem done_execSensorExclude {s : State} {a0 : Nat} : Done s (execSensorExclude a0 s) :=
  done_run fun _ _ h => (kept_ite (kept_dieSettles (kept_excludeSensor h)) h)

theorem done_execSensorReadmit {s : State} {a0 : Nat} : Done s (execSensorReadmit a0 s) :=
  done_run fun _ _ h => (kept_ite (kept_dieSettles (kept_readmitSensor h)) h)

theorem kept_hreqWrite {s0 s : State} (h : Kept s0 s) {a0 : Word} : Kept s0 (hreqWrite a0 s) := by
  unfold hreqWrite
  exact (by extract_lets x0; have h1 : Kept s0 x0 := (kept_State_putB h); (try clear_value x0); exact (kept_ite (kept_converterFault h1) h1))

theorem done_execHreq {s : State} {a0 : Word} : Done s (execHreq a0 s) :=
  done_run fun _ _ h => (kept_hreqWrite h)

theorem kept_ntcApply {s0 s : State} (h : Kept s0 s) {a0 : Nat} {a1 : Nat} : Kept s0 (ntcApply a0 a1 s) := by
  unfold ntcApply
  exact (by extract_lets x0 x1 x2; have h3 : Kept s0 x2 := (kept_mk h); exact (kept_ite h (kept_evalThrot (kept_ite (kept_thermEvent h3) (kept_ite (kept_endDemand (kept_shutdownDemand (kept_raiseH h3))) h3)))))

theorem kept_putNtcState {s0 s : State} (h : Kept s0 s) {a0 : Nat} {a1 : Nat} {a2 : Bool} : Kept s0 (putNtcState a0 a1 a2 s) := by
  unfold putNtcState
  exact (kept_ite h (kept_thermEvent (kept_State_put h)))

theorem kept_ntcLapse {s0 s : State} (h : Kept s0 s) {a0 : Nat} : Kept s0 (ntcLapse a0 s) := by
  unfold ntcLapse
  exact (by extract_lets x0; exact (kept_evalThrot (kept_mk h)))

theorem kept_ntcConfigured {s0 s : State} (h : Kept s0 s) {a0 : Nat} : Kept s0 (ntcConfigured a0 s) := by
  unfold ntcConfigured
  exact (kept_ite h (kept_ntcLapse (kept_putNtcState h)))

theorem done_execNtcReading {s : State} {a0 : Nat} {a1 : Rat} : Done s (execNtcReading a0 a1 s) :=
  done_run fun s0 _ h => (by extract_lets x0 x1 x2 x3 x4 x6 x8; have h5 : Kept s0 x4 := (kept_hadcResult h); (try clear_value x4); have h7 : Kept s0 x6 := (kept_ite (kept_State_putI h5) h5); (try clear_value x6); have h9 : Kept s0 x8 := (kept_putNtcState h7); (try clear_value x8); exact (kept_ite h (kept_ite (kept_ntcApply h9) (kept_ite (kept_ntcLapse h9) h9))))

theorem done_execFthermCopy {s : State} : Done s (execFthermCopy s) :=
  done_run fun s0 _ h => (by extract_lets x0 x2 x3; have h1 : Kept s0 x0 := (kept_State_count h); (try clear_value x0); have h4 : Kept s0 x3 := (kept_mk h1); exact (kept_ownRead (kept_ownRead (kept_ownRead (kept_ownRead h4)))))

theorem kept_thermCopy {s0 s : State} (h : Kept s0 s) {a0 : Nat} {a1 : List Word} : Kept s0 (thermCopy a0 a1 s) := by
  unfold thermCopy
  exact (by extract_lets x0 x1 x2 x8 x9; have h3 : Kept s0 x2 := (by unfold x2; exact (kept_ite (kept_State_put (kept_State_put (kept_mk h))) (kept_foldl h fun _ _ k6 => (by extract_lets x7; exact (kept_State_putB (kept_State_put k6)))))); (try clear_value x2); exact (kept_ite (kept_State_put (kept_State_put (kept_mk h3))) (kept_mk h3)))

theorem done_execFthermStale {s : State} : Done s (execFthermStale s) :=
  done_run fun _ _ h => (kept_putEvt h)

theorem done_execScrubPass {s : State} {a0 : List (Nat × Nat × Nat × Bool)} : Done s (execScrubPass a0 s) :=
  done_run fun s0 _ h => (by extract_lets x0 x2 x3; have h1 : Kept s0 x0 := (kept_ite (kept_State_count h) h); (try clear_value x0); have h4 : Kept s0 x3 := (kept_mk h1); exact (kept_foldl h4 fun _ _ k7 => (by split; exacts [(kept_ite (kept_stopEngine (kept_eccUe k7)) (kept_eccCorrect k7))])))

theorem kept_touchReady {s0 s : State} (h : Kept s0 s) : Kept s0 (touchReady s) := by
  unfold touchReady
  exact (kept_State_putB h)

theorem kept_touchEnd {s0 s : State} (h : Kept s0 s) {a0 : Nat} : Kept s0 (touchEnd a0 s) := by
  unfold touchEnd
  exact (kept_State_put h)

theorem kept_rebase {s0 s : State} (h : Kept s0 s) {a0 : Nat} {a1 : Nat} : Kept s0 (rebase a0 a1 s) := by
  unfold rebase
  exact (by extract_lets x0 x2 x4 x5; have h1 : Kept s0 x0 := (kept_State_count (kept_State_put h)); (try clear_value x0); have h3 : Kept s0 x2 := (kept_State_put h1); (try clear_value x2); have h6 : Kept s0 x5 := (kept_mk h3); exact (kept_raiseH (kept_setEvt h6)))

theorem kept_forgetKey {s0 s : State} (h : Kept s0 s) {a0 : Nat} : Kept s0 (forgetKey a0 s) := by
  unfold forgetKey
  exact (by extract_lets x0 x1; have h2 : Kept s0 x1 := (kept_State_put (kept_touchEnd h)); (try clear_value x1); exact (kept_touchReady (kept_mk h2)))

theorem kept_touchConfigured {s0 s : State} (h : Kept s0 s) {a0 : State} : Kept s0 (touchConfigured a0 s) := by
  unfold touchConfigured
  exact (by extract_lets x0 x1 x6 x7; have h2 : Kept s0 x1 := (kept_foldl h fun _ _ k5 => (kept_forgetKey k5)); (try clear_value x1); have h8 : Kept s0 x7 := (kept_ite (kept_mk h2) h); (try clear_value x7); exact (kept_touchReady (kept_foldl h8 fun _ _ k11 => (kept_ite k11 (kept_forgetKey k11)))))

theorem kept_driftKey {s0 s : State} (h : Kept s0 s) {a0 : Bool} {a1 : Nat} : Kept s0 (driftKey a0 a1 s) := by
  unfold driftKey
  exact (by extract_lets x0; exact (kept_ite h (kept_State_put h)))

theorem kept_scanKey {s0 s : State} (h : Kept s0 s) {a0 : Bool} {a1 : Nat} : Kept s0 (scanKey a0 a1 s) := by
  unfold scanKey
  exact (by extract_lets x0 x1 x2 x3 x4 x5 x6 x7 x8 x9 x11 x12 x13 x15 x17; have h10 : Kept s0 x9 := (kept_mk h); have h14 : Kept s0 x13 := (kept_mk h10); have h16 : Kept s0 x15 := (kept_State_countWrap (kept_State_put h10)); (try clear_value x15); exact (kept_ite (kept_rebase (kept_touchEnd h10)) (kept_ite (kept_ite (kept_rebase h14) (kept_driftKey h14)) (kept_ite (kept_ite (kept_touchEnd h10) (kept_mk h10)) (kept_ite (kept_setEvt (kept_mk h16)) (kept_driftKey h10))))))

theorem kept_firstScans {s0 s : State} (h : Kept s0 s) {a0 : Nat} {a1 : Nat} : Kept s0 (firstScans a0 a1 s) := by
  unfold firstScans
  exact (by extract_lets x0 x1 x2 x4; have h3 : Kept s0 x2 := (kept_State_put h); (try clear_value x2); exact (kept_ite (kept_mk h) (kept_touchReady (kept_mk h3))))

theorem done_execTouchScan {s : State} {a0 : List Nat} : Done s (execTouchScan a0 s) :=
  done_run fun s0 _ h => (by extract_lets x0 x1 x2 x3 x8 x9 x10 x12; have h4 : Kept s0 x3 := (kept_foldl (kept_mk h) fun _ _ k7 => (kept_State_put k7)); (try clear_value x3); have h11 : Kept s0 x10 := (kept_ite (kept_raiseH (kept_setEvt h4)) h4); (try clear_value x10); have h13 : Kept s0 x12 := (kept_foldl (kept_State_putB h11) fun _ _ k16 => (kept_scanKey k16)); (try clear_value x12); exact (kept_ite h (kept_foldl h13 fun _ _ k19 => (kept_firstScans k19))))

theorem done_execStuckKey {s : State} {a0 : Nat} : Done s (execStuckKey a0 s) :=
  done_run fun s0 _ h => (by extract_lets x0 x2 x4; have h1 : Kept s0 x0 := (kept_State_put (kept_touchEnd h)); (try clear_value x0); have h3 : Kept s0 x2 := (kept_State_put h1); (try clear_value x2); exact (kept_ite (kept_raiseH (kept_setEvt (kept_mk h3))) h))

theorem done_execLedOpen {s : State} {a0 : Nat} : Done s (execLedOpen a0 s) :=
  done_run fun _ _ h => (kept_ite (kept_raiseH (kept_setEvt (kept_State_put h))) h)

theorem kept_svcAnswer {s0 s : State} (h : Kept s0 s) {a0 : Nat} : Kept s0 (svcAnswer a0 s) := by
  unfold svcAnswer
  exact (kept_svcReply h)

theorem kept_closeSession {s0 s : State} (h : Kept s0 s) {a0 : Nat} : Kept s0 (closeSession a0 s) := by
  unfold closeSession
  split
  · exact h
  · extract_lets n s1 c _ _ s2
    have h1 : Kept s0 (s1.addSat SERVICE_CNT_DISC n) :=
      kept_State_addSat (kept_State_put (kept_State_put (kept_State_put (kept_State_put h))))
    have h2 : Kept s0 s2 := kept_mk h1 (held := fun _ => Nat.zero_le _) (idle := fun _ => rfl)
    exact kept_raiseH (kept_setEvt h2)

theorem done_execVbusPlug {s : State} : Done s (execVbusPlug s) :=
  done_run fun _ _ h => (kept_ite h (kept_raiseH (kept_setEvt (kept_State_put h))))

theorem done_execVbusUnplug {s : State} : Done s (execVbusUnplug s) :=
  done_run fun _ _ h => (kept_ite (kept_closeSession (kept_raiseH (kept_setEvt (kept_State_put (kept_State_put h))))) h)

theorem done_execUsbBusReset {s : State} : Done s (execUsbBusReset s) :=
  done_run fun _ _ h => (kept_closeSession (kept_State_put h))

theorem done_execUsbSuspend {s : State} : Done s (execUsbSuspend s) :=
  done_run fun _ _ h => (kept_closeSession h)

theorem done_execServiceIdle {s : State} : Done s (execServiceIdle s) :=
  done_run fun _ _ h => (kept_closeSession h)

theorem kept_serviceCtlWrite {s0 s : State} (h : Kept s0 s) {a0 : Word} : Kept s0 (serviceCtlWrite a0 s) := by
  unfold serviceCtlWrite
  exact (by extract_lets x0; have h1 : Kept s0 x0 := (kept_writeReg h); (try clear_value x0); exact (kept_ite (kept_closeSession h1) h1))

theorem done_execServiceKick {s : State} : Done s (execServiceKick s) :=
  done_run fun _ _ h => (kept_serviceCtlWrite h)

theorem done_execUsbStandardRequest {s : State} {a0 : Nat} {a1 : Nat} : Done s (execUsbStandardRequest a0 a1 s) :=
  done_run fun s0 _ h => (by extract_lets x0; have h1 : Kept s0 x0 := (kept_ite (kept_State_putB h) h); (try clear_value x0); exact (kept_ite h (kept_emit h1)))

theorem kept_recordFault {s0 s : State} (h : Kept s0 s) {a0 : Nat} {a1 : Nat} : Kept s0 (recordFault a0 a1 s) := by
  unfold recordFault
  exact (kept_State_count (kept_State_put (kept_State_put h)))

theorem kept_safetyFault {s0 s : State} (h : Kept s0 s) {a0 : Nat} {a1 : Nat} : Kept s0 (safetyFault a0 a1 s) := by
  unfold safetyFault
  exact (kept_raiseH (kept_setEvt (kept_recordFault h)))

theorem kept_inputFault {s0 s : State} (h : Kept s0 s) {a0 : Nat} {a1 : Nat} : Kept s0 (inputFault a0 a1 s) := by
  unfold inputFault
  exact (kept_demand (kept_safetyFault (kept_State_put h)))

theorem kept_evalInput {s0 s : State} (h : Kept s0 s) {a0 : Nat} : Kept s0 (evalInput a0 s) := by
  unfold evalInput
  exact (by split; exacts [(by extract_lets x0 x1 x2 x4 x5; have h3 : Kept s0 x2 := (kept_mk h); have h6 : Kept s0 x5 := (kept_ite (kept_demand (kept_State_put h3)) (kept_ite (kept_State_put h3) (kept_ite (kept_demand (kept_State_put h3)) h3))); (try clear_value x5); exact (kept_ite (kept_inputFault h6) h6)), h])

theorem kept_filterChan {s0 s : State} (h : Kept s0 s) {a0 : Nat} {a1 : Nat} : Kept s0 (filterChan a0 a1 s) := by
  unfold filterChan
  exact (by extract_lets x0 x1 x2 x3; have h4 : Kept s0 x3 := (kept_mk h); exact (kept_ite h (kept_State_putB h4)))

theorem done_execSafetySample {s : State} {a0 : Nat} : Done s (execSafetySample a0 s) :=
  done_run fun s0 _ h => (by extract_lets x0; have h1 : Kept s0 x0 := (kept_foldl h fun _ _ k4 => (kept_filterChan k4)); (try clear_value x0); exact (kept_foldl h1 fun _ _ k7 => (kept_ite (kept_evalInput k7) k7)))

theorem kept_judgeTest {s0 s : State} (h : Kept s0 s) {a0 : Nat} {a1 : Nat} : Kept s0 (judgeTest a0 a1 s) := by
  unfold judgeTest
  exact (by extract_lets x0 x2 x3 x4 x6; have h1 : Kept s0 x0 := (kept_State_countWrap h); (try clear_value x0); have h5 : Kept s0 x4 := (kept_State_count h); (try clear_value x4); have h7 : Kept s0 x6 := (kept_mk h5); exact (kept_ite (kept_mk h1) (kept_ite (kept_inputFault h7) h7)))

theorem done_execTestPulse {s : State} {a0 : Bool} {a1 : Bool} {a2 : Nat} : Done s (execTestPulse a0 a1 a2 s) :=
  done_run fun _ _ h => (kept_foldl h fun _ _ k2 => (by extract_lets x3 x4 x5; exact (kept_ite k2 (kept_ite (kept_judgeTest (kept_mk k2)) (kept_mk k2)))))

theorem kept_resetRefused {s0 s : State} (h : Kept s0 s) {a0 : Nat} : Kept s0 (resetRefused a0 s) := by
  unfold resetRefused
  exact (kept_raiseH (kept_setEvt h))

theorem kept_resetRequest {s0 s : State} (h : Kept s0 s) {a0 : Bool} {a1 : Bool} : Kept s0 (resetRequest a0 a1 s) := by
  unfold resetRequest
  exact (by extract_lets x0 x5 x7; have h1 : ∀ v2 v3, Kept s0 v3 → Kept s0 (x0 v2 v3) := (by intro v2 v3 k4; unfold x0; exact (kept_resetRefused (kept_ite k4 (kept_capture k4)))); have h6 : Kept s0 x5 := (kept_State_put h); (try clear_value x5); exact (kept_ite (h1 _ _ h) (kept_ite (h1 _ _ h) (kept_ite (h1 _ _ h) (kept_ite (h1 _ _ h) (kept_mk h6))))))

theorem kept_safetyResetWrite {s0 s : State} (h : Kept s0 s) {a0 : Word} {a1 : Bool} : Kept s0 (safetyResetWrite a0 a1 s) := by
  unfold safetyResetWrite
  exact (kept_ite (kept_resetRequest h) (kept_capture h))

theorem done_execSafetyReset {s : State} {a0 : Word} {a1 : Bool} : Done s (execSafetyReset a0 a1 s) :=
  done_run fun _ _ h => (kept_safetyResetWrite h)

theorem kept_safetyStopWrite {s0 s : State} (h : Kept s0 s) {a0 : Word} : Kept s0 (safetyStopWrite a0 s) := by
  unfold safetyStopWrite
  exact (by extract_lets x0; have h1 : Kept s0 x0 := (kept_ite (kept_demand h) h); (try clear_value x0); exact (kept_ite h1 (kept_capture h1)))

theorem done_execSafetyStop {s : State} {a0 : Word} : Done s (execSafetyStop a0 s) :=
  done_run fun _ _ h => (kept_safetyStopWrite h)

theorem done_execSafetySelftestDone {s : State} {a0 : Nat} : Done s (execSafetySelftestDone a0 s) :=
  done_run fun s0 _ h => (by extract_lets x0 x1 x2 x4; have h3 : Kept s0 x2 := (kept_mk h); have h5 : Kept s0 x4 := (kept_raiseH h3); (try clear_value x4); exact (kept_ite h (kept_ite (kept_raiseH (kept_setEvt (kept_recordFault (kept_State_put h3)))) (kept_ite (kept_raiseH (kept_setEvt (kept_State_put (kept_State_put (kept_State_put h5))))) h5))))

theorem done_execPermitToggle {s : State} {a0 : Bool} : Done s (execPermitToggle a0 s) :=
  done_run fun _ _ h => (kept_ite (kept_demand (kept_safetyFault h)) h)

theorem kept_sampleButton {s0 s : State} (h : Kept s0 s) {a0 : Nat} {a1 : Bool} {a2 : Nat} : Kept s0 (sampleButton a0 a1 a2 s) := by
  unfold sampleButton
  exact (by extract_lets x0 x1 x2 x3 x5 x6 x7 x9; have h4 : Kept s0 x3 := (kept_ite (kept_mk h) h); (try clear_value x3); have h8 : Kept s0 x7 := (kept_setEvt (kept_State_putB (kept_mk h4))); (try clear_value x7); exact (kept_ite (kept_mk h4) (kept_ite (kept_mk h4) (kept_ite h8 (kept_ite (kept_mk h8) (kept_ite (kept_resetRequest h8) h8))))))

theorem done_execButtonSample {s : State} {a0 : Nat} {a1 : Bool} : Done s (execButtonSample a0 a1 s) :=
  done_run fun _ _ h => (kept_ite h (kept_foldl h fun _ _ k2 => (kept_sampleButton k2)))

theorem kept_setSeal {s0 s : State} (h : Kept s0 s) {a0 : Bool} : Kept s0 (setSeal a0 s) := by
  unfold setSeal
  exact (kept_ite h (kept_passSeal (kept_State_putB h)))

theorem kept_sealMismatch {s0 s : State} (h : Kept s0 s) {a0 : Nat} : Kept s0 (sealMismatch a0 s) := by
  unfold sealMismatch
  exact (by extract_lets x0 x1; have h2 : Kept s0 x1 := (kept_putHSwarp (kept_State_count h)); (try clear_value x1); exact (kept_setSeal (kept_retain (kept_raiseH (kept_setEvt h2)))))

theorem kept_sealSamples {s0 s : State} (h : Kept s0 s) {a0 : Nat} {a1 : Nat} {a2 : Nat} : Kept s0 (sealSamples a0 a1 a2 s) := by
  unfold sealSamples
  exact (by extract_lets x0 x1 x2 x4 x5 x7 x9; have h3 : Kept s0 x2 := (kept_setEvt (kept_State_put (kept_State_put (kept_mk h)))); (try clear_value x2); have h6 : Kept s0 x5 := (kept_raiseH (kept_setEvt (kept_State_count h))); (try clear_value x5); have h8 : Kept s0 x7 := (kept_State_put h6); (try clear_value x7); exact (kept_ite (kept_ite h3 (kept_ite (kept_ite h3 (kept_setSeal (kept_raiseH (kept_setEvt h3)))) (kept_sealMismatch h3))) (kept_ite (kept_mk h8) (kept_sealMismatch (kept_State_put (kept_mk h6))))))

theorem done_execSealRead {s : State} {a0 : Nat} {a1 : Nat} {a2 : Nat} : Done s (execSealRead a0 a1 a2 s) :=
  done_run fun _ _ h => (kept_ite h (kept_sealSamples h))

theorem kept_sealReadWrite {s0 s : State} (h : Kept s0 s) {a0 : Word} : Kept s0 (sealReadWrite a0 s) := by
  unfold sealReadWrite
  exact (by extract_lets x0; have h1 : Kept s0 x0 := (kept_ite (kept_State_put h) h); (try clear_value x0); exact (kept_ite (kept_capture h) (kept_ite h1 (kept_capture h1))))

theorem done_execSealReadCmd {s : State} : Done s (execSealReadCmd s) :=
  done_run fun _ _ h => (kept_sealReadWrite h)

theorem done_execSealRetry {s : State} {a0 : Nat} {a1 : Nat} {a2 : Nat} : Done s (execSealRetry a0 a1 a2 s) :=
  done_run fun _ _ h => (kept_ite (kept_sealSamples h) h)

theorem kept_putLen {s0 s : State} (h : Kept s0 s) {a0 : Nat} {a1 : Nat} {a2 : Bool} : Kept s0 (putLen a0 a1 a2 s) := by
  unfold putLen
  exact (by extract_lets x0 x2; have h1 : Kept s0 x0 := (kept_modLouv h); (try clear_value x0); exact (kept_State_putB (kept_State_put h1)))

theorem kept_louvEval {s0 s : State} (h : Kept s0 s) {a0 : Nat} : Kept s0 (louvEval a0 s) := by
  unfold louvEval
  exact (by extract_lets x0; exact (kept_ite (kept_louvState (kept_gatesOff h)) (kept_ite (kept_louvState (kept_gatesOff h)) (kept_ite (kept_louvState (kept_modLouv (kept_gatesOff h))) h))))

theorem kept_refreshStep {s0 s : State} (h : Kept s0 s) {a0 : Nat} : Kept s0 (refreshStep a0 s) := by
  unfold refreshStep
  exact (by extract_lets x0 x1 x2; exact (by split; exacts [(by extract_lets x3 x5; have h4 : Kept s0 x3 := (kept_ite (kept_emit h) h); (try clear_value x3); exact (kept_modLouv h4))]))

theorem kept_shuntStep {s0 s : State} (h : Kept s0 s) {a0 : Nat} {a1 : Nat} {a2 : Int} {a3 : Bool} : Kept s0 (shuntStep a0 a1 a2 a3 s) := by
  unfold shuntStep
  exact (by extract_lets x0 x1 x2 x3; exact (kept_ite (kept_setEvt (kept_State_count h)) (by split; exacts [(kept_hadcResult (kept_State_putI (kept_State_putI (kept_State_putI h))))])))

theorem done_execPwmPeriod {s : State} {a0 a1 : Nat} {a2 : Int} {a3 : Bool} : Done s (execPwmPeriod a0 a1 a2 a3 s) := by
  refine done_run fun s0 s h => ?_
  extract_lets st t l s1 s2 s3
  have ht : Kept s0 t := kept_modLouv h
  have h1 : Kept s0 s1 := by
    unfold s1
    split
    · split
      · exact kept_State_count ht
      · exact kept_setEvt (kept_State_count ht)
    · exact ht
  have h3 : Kept s0 s3 := kept_refreshStep (kept_State_put (kept_modLouv h1))
  exact kept_ite h (kept_ite (kept_modLouv (kept_ite (kept_gatesOff ht) ht)) (kept_ite (kept_shuntStep h3) h3))

theorem done_execZeroCrossing {s : State} {a0 : Nat} {a1 : Nat} {a2 : Bool} {a3 : Bool} : Done s (execZeroCrossing a0 a1 a2 a3 s) :=
  done_run fun s0 _ h => (by extract_lets x0 x1 x2; have h3 : Kept s0 x2 := (kept_modLouv h); (try clear_value x2); exact (kept_ite h (kept_ite (kept_ite (kept_louvEval (kept_louvState h3)) h3) (kept_ite (kept_modLouv h) (kept_ite (kept_putLen h) h)))))

theorem done_execCommutation {s : State} {a0 : Nat} {a1 : Nat} : Done s (execCommutation a0 a1 s) :=
  done_run fun _ _ h => (by extract_lets x0 x1 x2; exact (kept_ite (kept_putLen (kept_modLouv h)) h))

theorem done_execHallChange {s : State} {a0 : Nat} {a1 : Nat} {a2 : Nat} : Done s (execHallChange a0 a1 a2 s) :=
  done_run fun s0 _ h => (by extract_lets x0 x1; have h2 : Kept s0 x1 := (kept_modLouv h); (try clear_value x1); exact (kept_ite h (by split; exacts [(by extract_lets x3 x4; have h5 : Kept s0 x4 := (kept_putLen h2); (try clear_value x4); exact (kept_ite (kept_modLouv h5) h5)), h2])))

theorem done_execHallInvalid {s : State} {a0 : Nat} : Done s (execHallInvalid a0 s) :=
  done_run fun _ _ h => (kept_ite (kept_louvFault h) h)

theorem done_execCatchEnd {s : State} {a0 : Nat} : Done s (execCatchEnd a0 s) :=
  done_run fun s0 _ h => (by extract_lets x0 x1 x2 x3; have h4 : Kept s0 x3 := (kept_modLouv h); (try clear_value x3); exact (kept_ite h (kept_ite (kept_louvEval (kept_louvState (kept_modLouv h))) (kept_ite (kept_ite (kept_raiseH h4) h4) (kept_ite (kept_louvEval (kept_louvState (kept_modLouv h))) (kept_louvState (kept_modLouv h)))))))

theorem done_execAlignEnd {s : State} {a0 : Nat} : Done s (execAlignEnd a0 s) :=
  done_run fun _ _ h => (kept_ite (kept_louvState (kept_modLouv h)) h)

theorem kept_louvStall {s0 s : State} (h : Kept s0 s) {a0 : Nat} : Kept s0 (louvStall a0 s) := by
  unfold louvStall
  exact (by extract_lets x0 x1 x2; have h3 : Kept s0 x2 := (kept_setEvt (kept_modLouv h)); (try clear_value x2); exact (kept_ite (kept_louvFault h3) (kept_louvState (kept_gatesOff h3))))

theorem done_execRampTimeout {s : State} {a0 : Nat} : Done s (execRampTimeout a0 s) :=
  done_run fun _ _ h => (kept_ite (kept_louvStall h) h)

theorem done_execStall {s : State} {a0 : Nat} : Done s (execStall a0 s) :=
  done_run fun _ _ h => (kept_ite (kept_louvStall h) h)

theorem done_execStallRetry {s : State} {a0 : Nat} : Done s (execStallRetry a0 s) :=
  done_run fun _ _ h => (by extract_lets x0; exact (kept_ite (kept_louvState h) h))

theorem done_execCoastEnd {s : State} {a0 : Nat} {a1 : Bool} : Done s (execCoastEnd a0 a1 s) :=
  done_run fun _ _ h => (kept_ite (kept_louvEval (kept_louvState h)) h)

theorem done_execDriverUndervoltage {s : State} : Done s (execDriverUndervoltage s) :=
  done_run fun _ _ h => (kept_foldl (kept_mk h) fun _ _ k2 => (kept_ite (kept_gatesOff k2) (kept_louvState (kept_gatesOff k2))))

theorem done_execUvRelease {s : State} : Done s (execUvRelease s) :=
  done_run fun _ _ h => (kept_foldl (kept_mk h) fun _ _ k2 => (kept_ite (kept_louvState k2) k2))

theorem done_execHalfBridgeFault {s : State} {a0 : Nat} {a1 : Nat} {a2 : Nat} {a3 : Bool} : Done s (execHalfBridgeFault a0 a1 a2 a3 s) :=
  done_run fun _ _ h => (by extract_lets x0; exact (kept_ite h (kept_ite (kept_louvFault (kept_modLouv h)) (kept_modLouv h))))

theorem kept_louvreCtlWrite {s0 s : State} (h : Kept s0 s) {a0 : Nat} {a1 : Word} {a2 : Bool} : Kept s0 (louvreCtlWrite a0 a1 a2 s) := by
  unfold louvreCtlWrite
  exact (by extract_lets x0 x1 x2 x3 x4 x5 x7 x9 x11; have h6 : Kept s0 x5 := (kept_ite (kept_modLouv (kept_State_put (kept_State_put h))) h); (try clear_value x5); have h8 : Kept s0 x7 := (kept_State_setRaw h6); (try clear_value x7); have h10 : Kept s0 x9 := (kept_ite (kept_louvState (kept_State_put h8)) h8); (try clear_value x9); have h12 : Kept s0 x11 := (kept_louvEval h10); (try clear_value x11); exact (kept_ite (kept_raiseH (kept_setEvt (kept_capture h))) (kept_ite (kept_capture h) (kept_ite h12 (kept_capture h12)))))

theorem done_execLouvreCtl {s : State} {a0 : Nat} {a1 : Word} {a2 : Bool} : Done s (execLouvreCtl a0 a1 a2 s) :=
  done_run fun _ _ h => (kept_ite h (kept_louvreCtlWrite h))

theorem done_execSpeedLoop {s : State} {a0 : Nat} : Done s (execSpeedLoop a0 s) :=
  done_run fun s0 _ h => (by extract_lets x0 x2 x3; have h1 : Kept s0 x0 := (kept_louvEval (kept_State_putB h)); (try clear_value x0); have h4 : Kept s0 x3 := (kept_modLouv (kept_State_put h1)); (try clear_value x3); exact (kept_ite h (kept_ite h4 (by split; rename_i w5 t6 q7; exact (fun k8 => (by extract_lets x9 x10; have h11 : Kept s0 x10 := (kept_modLouv k8); (try clear_value x10); exact (kept_ite (kept_State_count h11) h11))) (kept_snd (kept_freeWord h4) q7)))))

theorem done_execCurveReading {s : State} {a0 : Nat} : Done s (execCurveReading a0 s) :=
  done_run fun s0 _ h => (by extract_lets x0 x2 x4; have h1 : Kept s0 x0 := (kept_ite h (kept_raiseH (kept_setEvt (kept_State_put h)))); (try clear_value x0); have h3 : Kept s0 x2 := (kept_ite (kept_raiseH (kept_setEvt (kept_State_put h))) h); (try clear_value x2); exact (kept_ite h (by split; exacts [(kept_louvEval (kept_modLouv (kept_State_put h1))), (by extract_lets x5; exact (kept_louvEval (kept_modLouv (kept_State_putB h3))))])))

theorem kept_auxState {s0 s : State} (h : Kept s0 s) {a0 : Nat} {a1 : Nat} {a2 : Bool} {a3 : Bool} : Kept s0 (auxState a0 a1 a2 a3 s) := by
  unfold auxState
  exact (by extract_lets x0 x1 x3 x5 x7 xp x9 x11; have h2 : Kept s0 x1 := (kept_ite (kept_demand h) h); (try clear_value x1); have h4 : Kept s0 x3 := (kept_State_put h2); (try clear_value x3); have h6 : Kept s0 x5 := (kept_ite h4 (kept_setEvt h4)); (try clear_value x5); have h8 : Kept s0 x7 := (kept_ite (kept_putHSwarp h6) h6); (try clear_value x7); have hp : Kept s0 xp := (kept_ite (kept_setEvt (kept_State_put h8)) h8); (try clear_value xp); have h10 : Kept s0 x9 := (kept_raiseH hp); (try clear_value x9); exact (kept_ite (kept_mk h10) h10))

theorem kept_enterHiccup {s0 s : State} (h : Kept s0 s) {a0 : Nat} {a1 : Bool} : Kept s0 (enterHiccup a0 a1 s) := by
  unfold enterHiccup
  exact (by extract_lets x0 x1 x2 x3; have h4 : Kept s0 x3 := (kept_auxState (kept_State_count (kept_mk h))); (try clear_value x3); exact (kept_ite (kept_auxState h4) h4))

theorem kept_auxPi {s0 s : State} (h : Kept s0 s) : Kept s0 (auxPi s) := by
  unfold auxPi
  exact (by extract_lets x0 x1 x2 x3 x4 x5 x6 x7 x8 x10 x12; have h9 : Kept s0 x8 := (kept_ite (kept_setEvt h) h); (try clear_value x8); have h11 : Kept s0 x10 := (kept_State_putB (kept_State_put h9)); (try clear_value x10); exact (kept_mk h11))

theorem kept_auxGood {s0 s : State} (h : Kept s0 s) : Kept s0 (auxGood s) := by
  unfold auxGood
  exact (by extract_lets x0 x1 x2 x3; have h4 : Kept s0 x3 := (kept_State_put h); (try clear_value x3); exact (kept_ite h4 (kept_setEvt (kept_State_putB h4))))

theorem done_execAuxCycle {s : State} {a0 : Nat} {a1 : Nat} {a2 : Nat} : Done s (execAuxCycle a0 a1 a2 s) :=
  done_run fun s0 _ h => (by extract_lets x0 x1 x2 x3 x5 x6 x7 x8 x10; have h4 : Kept s0 x3 := (kept_hadcResult (kept_State_put h)); (try clear_value x3); have h9 : Kept s0 x8 := (kept_mk h4); have h11 : Kept s0 x10 := (kept_auxGood (kept_ite (kept_auxPi h9) h9)); (try clear_value x10); exact (kept_ite h (kept_ite (kept_ite (kept_enterHiccup h11) (kept_ite (kept_auxState h11) h11)) (kept_ite (kept_auxState (kept_State_count h11)) (kept_ite (kept_enterHiccup h11) h11)))))

theorem done_execAuxFaultTimer {s : State} {a0 : Bool} : Done s (execAuxFaultTimer a0 s) :=
  done_run fun _ _ h => (kept_ite h (kept_ite (kept_auxState h) (kept_enterHiccup h)))

theorem kept_auxCtlWrite {s0 s : State} (h : Kept s0 s) {a0 : Word} : Kept s0 (auxCtlWrite a0 s) := by
  unfold auxCtlWrite
  exact (by extract_lets x0 x1 x3 x4; have h2 : Kept s0 x1 := (kept_State_putB h); (try clear_value x1); have h5 : Kept s0 x4 := (kept_ite (kept_ite (kept_auxState h2) (kept_auxState h2)) (kept_ite (kept_auxState h2) (kept_ite (kept_auxState (kept_mk h2)) h2))); (try clear_value x4); exact (kept_ite h5 (kept_capture h5)))

theorem done_execAuxEn {s : State} {a0 : Word} : Done s (execAuxEn a0 s) :=
  done_run fun _ _ h => (kept_auxCtlWrite h)

theorem done_execAuxRestart {s : State} : Done s (execAuxRestart s) :=
  done_run fun _ _ h => (kept_auxCtlWrite h)

theorem done_execAuxSoftstartTimeout {s : State} : Done s (execAuxSoftstartTimeout s) :=
  done_run fun _ _ h => (kept_ite (kept_enterHiccup h) h)

theorem done_execHiccupEnd {s : State} : Done s (execHiccupEnd s) :=
  done_run fun _ _ h => (by extract_lets x0; exact (kept_ite (kept_auxState (kept_mk h)) h))

theorem done_execInuvRecover {s : State} {a0 : Nat} : Done s (execInuvRecover a0 s) :=
  done_run fun _ _ h => (by extract_lets x0; exact (kept_ite (kept_auxState (kept_mk h)) h))

theorem done_execHadcScan {s : State} {a0 : List (Nat × Nat)} : Done s (execHadcScan a0 s) :=
  done_run fun _ _ h => (kept_foldl h fun _ _ k2 => (kept_ite (kept_hadcResult k2) k2))

theorem done_execHcmpTrip {s : State} {a0 : Nat} {a1 : Bool} : Done s (execHcmpTrip a0 a1 s) :=
  done_run fun s0 _ h => (by extract_lets x0 x1 x3 x4 x6 x7 x9; have h2 : Kept s0 x1 := (kept_State_putB h); (try clear_value x1); have h5 : Kept s0 x4 := (kept_State_count h2); (try clear_value x4); have h8 : Kept s0 x7 := (kept_ite h5 (kept_setEvt (kept_mk h5))); (try clear_value x7); have h10 : Kept s0 x9 := (kept_ite (kept_raiseH h8) h8); (try clear_value x9); exact (kept_ite h (kept_ite (kept_ite (kept_mk h2) h2) (kept_ite (kept_modLouv h10) h10))))

end Sys2Proof.Machine
end

