-- ==== Sys2Proof/Laws/KeptTrust.lean ====
section
/-! SUPPORT. What every operation and every command keeps: the resets, the security units and the porter. -/

namespace Sys2Proof.Machine

set_option Elab.async false

theorem kept_relevelPages {s0 s : State} (h : Kept s0 s) : Kept s0 (relevelPages s) := by
  unfold relevelPages
  exact (kept_foldl h fun _ _ k2 => (kept_ite k2 (kept_foldl k2 fun _ _ k5 => (kept_relevelBasic k5))))

theorem kept_hPagesReset {s0 s : State} (h : Kept s0 s) {a0 : Bool} : Kept s0 (hPagesReset a0 s) := by
  unfold hPagesReset
  extract_lets
  exact kept_relevelPages (kept_State_put (kept_State_put (kept_State_put (kept_mk h (regs := fun i => regs_filter i _) (frags := fun _ => wf_nil)
    (window := fun _ => wf_nil) (entries := fun _ => Nat.zero_le _) (held := fun _ => Nat.zero_le _) (idle := fun _ => rfl)))))

theorem kept_loadFuses {s0 s : State} (h : Kept s0 s) : Kept s0 (loadFuses s) := by
  unfold loadFuses
  exact (by extract_lets x0 x1 x3; have h2 : Kept s0 x1 := (kept_State_putB (kept_State_put (kept_State_putB (kept_State_put h)))); (try clear_value x1); have h4 : Kept s0 x3 := (kept_State_putB (kept_State_putB (kept_State_put (kept_State_put h2)))); (try clear_value x3); exact (kept_State_put h4))

theorem kept_drawNonce {s0 s : State} (h : Kept s0 s) : Kept s0 (drawNonce s) := by
  unfold drawNonce
  exact (kept_foldl h fun _ _ k2 => (by split; rename_i w3 t4 q5; exact (fun k6 => (kept_State_put k6)) (kept_snd (kept_freeWord k2) q5)))

theorem kept_mirrorMismatch {s0 s : State} (h : Kept s0 s) {a0 : Nat} : Kept s0 (mirrorMismatch a0 s) := by
  unfold mirrorMismatch
  exact (kept_retain (kept_raiseH (kept_setEvt h)))

theorem kept_compareMirror {s0 s : State} (h : Kept s0 s) : Kept s0 (compareMirror s) := by
  unfold compareMirror
  exact (by extract_lets x0 x1 x2 x4; have h3 : Kept s0 x2 := (kept_ite h (kept_mirrorMismatch (kept_mk h))); (try clear_value x2); have h5 : Kept s0 x4 := (kept_ite (kept_mirrorMismatch h3) (kept_State_put h3)); (try clear_value x4); exact (kept_ite (kept_mirrorMismatch h5) (kept_State_put h5)))

theorem kept_loadRecord {s0 s : State} (h : Kept s0 s) : Kept s0 (loadRecord s) := by
  unfold loadRecord
  exact (by extract_lets x0 x1 x2 x4 x5 x7 x9; have h3 : Kept s0 x2 := (kept_mk h); have h6 : Kept s0 x5 := (kept_State_put (kept_State_put (kept_State_put h3))); (try clear_value x5); have h8 : Kept s0 x7 := (kept_State_put (kept_State_put (kept_State_putB h6))); (try clear_value x7); have h10 : Kept s0 x9 := (kept_foldl h8 fun _ _ k13 => (kept_State_put k13)); (try clear_value x9); exact (kept_ite h (kept_State_put (kept_State_put (kept_State_put h10)))))

theorem kept_startInputs {s0 s : State} (h : Kept s0 s) : Kept s0 (startInputs s) := by
  unfold startInputs
  exact (kept_foldl h fun _ _ k2 => (kept_State_put k2))

theorem kept_shareMode {s0 s : State} (h : Kept s0 s) : Kept s0 (shareMode s) := by
  unfold shareMode
  exact (kept_ite (kept_State_putB (kept_State_putB h)) h)

theorem kept_loadMode {s0 s : State} (h : Kept s0 s) {a0 : Image} : Kept s0 (loadMode a0 s) := by
  unfold loadMode
  exact (by extract_lets x0 x2; have h1 : Kept s0 x0 := (kept_State_putB h); (try clear_value x0); exact (kept_shareMode (kept_ite h (kept_mk h1))))

theorem kept_hRun {s0 s : State} (h : Kept s0 s) {a1 : Bool} {a2 : Nat} : Kept s0 (hRun a1 a2 s) := by
  have start : ∀ t (n : Nat) (l : List Word), Kept s0 t → Kept s0
      { t with pwr := { t.pwr with h := .run, restarting := false }, sec := { t.sec with svn := n, fwHash := l },
               wdog := { t.wdog with counting := true } } := fun t n l ht => kept_mk ht
  have test : ∀ t, Kept s0 t → Kept s0 ({ t with safety := { t.safety with startTest := true } }.put SEAL_STAT_BUSY 1) :=
    fun t ht => kept_State_put (kept_mk ht)
  have fin : ∀ t n, Kept s0 t → Kept s0 (if 0 < n then raiseH 130 3 n { t with porter.down := 0 } else t) :=
    fun t n ht => kept_ite (kept_raiseH (kept_mk ht)) ht
  unfold hRun
  generalize firmwareAt s a2 = fw
  have h3 := kept_drawNonce (kept_shareMode (kept_State_put (f := SECURITY_FWVER_VER) (v := fw.version)
    (kept_State_put (f := SECURITY_STAT_ACTSLOT) (v := a2) (kept_State_put (f := SECURITY_STAT_RECOVERY) (v := 0)
      (start _ fw.svn (hashWords (flashBytes s (slotBase a2) fw.len)) h)))))
  have h6 := test _ (kept_startInputs (kept_loadRecord (kept_ite (p := a1 = true) (kept_compareMirror h3) h3)))
  exact fin _ _ (kept_ite (kept_setEvt h6) h6)

theorem kept_hStart {s0 s : State} (h : Kept s0 s) : Kept s0 (hStart s) := by
  have stop : ∀ t, Kept s0 t → Kept s0 { t with pwr := { t.pwr with h := .boot, restarting := false } } := fun t ht => kept_mk ht
  unfold hStart
  extract_lets x0
  split
  · exact stop _ (kept_State_put (f := SECURITY_STAT_RECOVERY) (v := 1) (kept_ite (kept_compareMirror (kept_loadFuses h)) (kept_loadFuses h)))
  · exact kept_hRun (kept_loadFuses h)

theorem kept_closeScopes {s0 s : State} (h : Kept s0 s) : Kept s0 (closeScopes s) := by
  unfold closeScopes
  exact (kept_State_put h)

theorem kept_lcRefused {s0 s : State} (h : Kept s0 s) {a0 : Nat} : Kept s0 (lcRefused a0 s) := by
  unfold lcRefused
  exact (kept_raiseH (kept_setEvt (kept_State_put h)))

theorem kept_checkFuseok {s0 s : State} (h : Kept s0 s) : Kept s0 (checkFuseok s) := by
  unfold checkFuseok
  exact (kept_ite h (kept_raiseH (kept_setEvt (kept_State_put h))))

theorem kept_transitionEffect {s0 s : State} (h : Kept s0 s) {a0 : Nat} : Kept s0 (transitionEffect a0 s) := by
  unfold transitionEffect
  exact (by extract_lets x0 x1 x2 x3 x5; have h4 : Kept s0 x3 := (kept_loadFuses (kept_mk h)); (try clear_value x3); have h6 : Kept s0 x5 := (kept_closeScopes (kept_closeSession h4)); (try clear_value x5); exact (kept_retain (kept_raiseH (kept_setEvt h6))))

theorem kept_erasures {s0 s : State} (h : Kept s0 s) {a0 : Nat} : Kept s0 (erasures a0 s) := by
  unfold erasures
  exact (by extract_lets x0 x1; have h2 : Kept s0 x1 := (kept_mk h); exact (kept_ite (kept_State_putB (kept_State_put h2)) h))

theorem kept_jobDone {s0 s : State} (h : Kept s0 s) : Kept s0 (jobDone s) := by
  unfold jobDone
  exact (by extract_lets x0 x2 x4; have h1 : Kept s0 x0 := (by unfold x0; exact (by split; exacts [(kept_ite (kept_erasures h) (kept_ite (kept_compareMirror (kept_raiseH h)) (kept_raiseH h))), h])); (try clear_value x0); have h3 : Kept s0 x2 := (kept_State_put (kept_State_put h1)); (try clear_value x2); exact (kept_loadFuses (kept_mk h3)))

theorem kept_startFuseJob {s0 s : State} (h : Kept s0 s) {a0 : Nat} {a1 : List FuseTask} : Kept s0 (startFuseJob a0 a1 s) := by
  unfold startFuseJob
  exact (by extract_lets x0 x2 x3; have h1 : Kept s0 x0 := (kept_State_put h); (try clear_value x0); have h4 : Kept s0 x3 := (kept_mk h1); exact (kept_ite (kept_jobDone h4) (kept_checkFuseok h4)))

theorem done_execFuseWordBurned {s : State} : Done s (execFuseWordBurned s) :=
  done_run fun s0 _ h => (by split; exacts [h, (by extract_lets x0 x1 x2 x4; have h3 : Kept s0 x2 := (kept_mk h); have h5 : Kept s0 x4 := (kept_ite h3 (kept_transitionEffect h3)); (try clear_value x4); exact (kept_ite h (kept_ite (kept_jobDone h5) (kept_checkFuseok h5))))])

theorem done_execFuseokTimeout {s : State} : Done s (execFuseokTimeout s) :=
  done_run fun s0 _ h => (by extract_lets x0 x2 x3; have h1 : Kept s0 x0 := (kept_State_put (kept_State_put h)); (try clear_value x0); have h4 : Kept s0 x3 := (kept_mk h1); exact (kept_ite (kept_loadFuses (kept_lcRefused h4)) h))

theorem kept_lifecycleRequest {s0 s : State} (h : Kept s0 s) {a0 : Nat} : Kept s0 (lifecycleRequest a0 s) := by
  unfold lifecycleRequest
  exact (by extract_lets x0 x1 x2 x3 x4 x5; exact (kept_ite (kept_drawNonce (kept_capture h)) (kept_ite (kept_drawNonce (kept_startFuseJob h)) (kept_drawNonce (kept_lcRefused (kept_capture h))))))

theorem kept_lifecycleReqWrite {s0 s : State} (h : Kept s0 s) {a0 : Word} : Kept s0 (lifecycleReqWrite a0 s) := by
  unfold lifecycleReqWrite
  exact (by extract_lets x0; exact (kept_unlessLocked h (fun _ k1 => (by extract_lets x3 x5; have h4 : Kept s0 x3 := (kept_State_put k1); (try clear_value x3); have h6 : Kept s0 x5 := (kept_ite (kept_lifecycleRequest h4) h4); (try clear_value x5); exact (kept_ite h6 (kept_capture h6))))))

theorem done_execLifecycleReq {s : State} {a0 : Word} : Done s (execLifecycleReq a0 s) :=
  done_run fun _ _ h => (kept_lifecycleReqWrite h)

theorem kept_burnWrite {s0 s : State} (h : Kept s0 s) {a0 : Word} : Kept s0 (burnWrite a0 s) := by
  unfold burnWrite
  exact (by extract_lets x0 x1 x2 x3; exact (kept_unlessLocked h (fun _ k4 => (by extract_lets x6 x8 x9; have h7 : Kept s0 x6 := (kept_State_put k4); (try clear_value x6); exact (kept_ite (kept_capture k4) (kept_ite (kept_ite (kept_startFuseJob h7) (kept_capture h7)) (kept_ite (kept_ite (kept_startFuseJob h7) (kept_capture h7)) (kept_ite (kept_ite (kept_capture h7) (kept_ite (kept_capture h7) (kept_ite (kept_lcRefused (kept_capture h7)) (kept_startFuseJob h7)))) (kept_ite (kept_ite (kept_capture h7) (kept_ite (kept_capture h7) (kept_ite (kept_lcRefused (kept_capture h7)) (kept_startFuseJob h7)))) (kept_capture h7))))))))))

theorem done_execBurn {s : State} {a0 : Word} : Done s (execBurn a0 s) :=
  done_run fun _ _ h => (kept_burnWrite h)

theorem kept_quoteGoWrite {s0 s : State} (h : Kept s0 s) {a0 : Word} : Kept s0 (quoteGoWrite a0 s) := by
  unfold quoteGoWrite
  exact (by extract_lets x0 x1 x2 x3 x4 x6 x7; have h5 : Kept s0 x4 := (kept_State_put (kept_State_put h)); (try clear_value x4); have h8 : Kept s0 x7 := (kept_mk h5); exact (kept_ite h (kept_ite (kept_capture h) (kept_foldl h8 fun _ _ k11 => (kept_ownRead k11)))))

theorem done_execQuoteGo {s : State} : Done s (execQuoteGo s) :=
  done_run fun _ _ h => (kept_quoteGoWrite h)

theorem kept_quoteWords {s0 s : State} (h : Kept s0 s) {a0 : Nat} {a1 : List Word} : Kept s0 (quoteWords a0 a1 s) := by
  unfold quoteWords
  exact (by extract_lets x0; exact (kept_ite (kept_mk h) h))

theorem kept_freeWords {s0 s : State} (h : Kept s0 s) {a0 : Nat} : Kept s0 (freeWords a0 s).2 := by
  unfold freeWords
  exact kept_foldl2 h fun _ _ k => kept_freeWord k

theorem done_execQuoteDone {s : State} : Done s (execQuoteDone s) :=
  done_run fun s0 _ h => (by extract_lets x0 x1 x2 x3 x4 x5 x6 x7 x8 x9; exact (kept_ite h (by split; rename_i w10 t11 q12; exact (fun k13 => (by split; rename_i w14 t15 q16; exact (fun k17 => (by extract_lets x18 x19; have h20 : Kept s0 x19 := (kept_foldl k17 fun _ _ k23 => (kept_State_put k23)); (try clear_value x19); exact (kept_raiseH (kept_setEvt (kept_State_put (kept_State_put h20)))))) (kept_snd (kept_freeWords k13) q16))) (kept_snd (kept_freeWords h) q12))))

theorem kept_owncertWrite {s0 s : State} (h : Kept s0 s) {a0 : Word} : Kept s0 (owncertWrite a0 s) := by
  unfold owncertWrite
  exact (by extract_lets x0 x1 x2 x3 x5; have h4 : Kept s0 x3 := (kept_State_put h); (try clear_value x3); exact (kept_ite (kept_mk h4) (kept_capture h)))

theorem done_execOwncert {s : State} {a0 : Word} : Done s (execOwncert a0 s) :=
  done_run fun _ _ h => (kept_owncertWrite h)

theorem kept_completeZero {s0 s : State} (h : Kept s0 s) : Kept s0 (completeZero s) := by
  unfold completeZero
  exact (by extract_lets x0 x1; exact (kept_foldl (kept_mk h) fun _ _ k4 => (kept_emit k4)))

theorem kept_hRestart {s0 s : State} (h : Kept s0 s) : Kept s0 (hRestart s) := by
  unfold hRestart
  extract_lets x0 x1 x2
  have h1 : Kept s0 x1 := kept_State_put (kept_hPagesReset (kept_completeZero (kept_retain h)))
  have h2 : Kept s0 x2 := kept_ite (kept_passSeal h1) h1
  clear_value x2
  exact kept_mk h2

theorem kept_activate {s0 s : State} (h : Kept s0 s) : Kept s0 (activate s) := by
  unfold activate
  exact (kept_ite (kept_ownRead h) (kept_hRestart h))

theorem kept_activateAnswer {s0 s : State} (h : Kept s0 s) {a0 : List Word} : Kept s0 (activateAnswer a0 s) := by
  unfold activateAnswer
  exact (kept_ite (kept_hRestart h) (kept_capture h))

theorem kept_fwctlWrite {s0 s : State} (h : Kept s0 s) {a0 : Word} : Kept s0 (fwctlWrite a0 s) := by
  unfold fwctlWrite
  exact (by extract_lets x0 x1 x2 x3; exact (kept_unlessLocked h (fun _ k4 => (by extract_lets x6 x8 x9 x11 x12 x14 x15 x17; have h7 : Kept s0 x6 := (kept_State_put k4); (try clear_value x6); have h10 : Kept s0 x9 := (kept_State_put h7); (try clear_value x9); have h13 : Kept s0 x12 := (kept_ite (kept_mk h10) h7); (try clear_value x12); have h16 : Kept s0 x15 := (kept_ite (kept_mk h13) h13); (try clear_value x15); have h18 : Kept s0 x17 := (kept_ite h16 (kept_capture h16)); (try clear_value x17); exact (kept_ite (kept_capture k4) (kept_ite (kept_activate h18) h18))))))

theorem done_execSecurityFwVerify {s : State} : Done s (execSecurityFwVerify s) :=
  done_run fun _ _ h => (kept_fwctlWrite h)

theorem done_execSecurityFwActivate {s : State} : Done s (execSecurityFwActivate s) :=
  done_run fun _ _ h => (kept_fwctlWrite h)

theorem done_execSecurityFwErase {s : State} : Done s (execSecurityFwErase s) :=
  done_run fun _ _ h => (kept_fwctlWrite h)

theorem done_execSecurityFwstby {s : State} : Done s (execSecurityFwstby s) :=
  done_run fun s0 _ h => (by split; exacts [h, (by extract_lets x0 x1 x2 x4 x5 x7; have h3 : Kept s0 x2 := (kept_State_put h); (try clear_value x2); have h6 : Kept s0 x5 := (kept_mk h3); have h8 : Kept s0 x7 := (kept_ite (kept_State_put h6) h6); (try clear_value x7); exact (kept_raiseH (kept_setEvt h8)))])

theorem kept_fwWindowWrite {s0 s : State} (h : Kept s0 s) {a0 : Nat} {a1 : Word} : Kept s0 (fwWindowWrite a0 a1 s) := by
  unfold fwWindowWrite
  exact (by extract_lets x0; exact (kept_unlessLocked h (fun _ k1 => (by extract_lets x3 x4 x5 x7; have h6 : Kept s0 x5 := (kept_State_put k1); (try clear_value x5); exact (kept_ite (kept_capture k1) (kept_mk h6))))))

theorem kept_certWindowWrite {s0 s : State} (h : Kept s0 s) {a0 : Nat} {a1 : Word} : Kept s0 (certWindowWrite a0 a1 s) := by
  unfold certWindowWrite
  exact (by extract_lets x0; exact (kept_ite (kept_mk h) (kept_capture h)))

theorem done_execHDieRestartDone {s : State} : Done s (execHDieRestartDone s) :=
  done_run fun _ _ h => (kept_ite (kept_hStart h) h)

theorem kept_boundaryScan {s0 s : State} (h : Kept s0 s) {a0 a1 a2 : Nat} : Kept s0 (boundaryScan a0 a1 a2 s) := by
  unfold boundaryScan
  exact kept_emit (kept_mk h)

theorem done_execExtest {s : State} {a0 a1 : Nat} : Done s (execExtest a0 a1 s) :=
  done_run fun _ _ h => kept_ite (kept_emit (kept_boundaryScan h)) (kept_boundaryScan h)

theorem done_execSamplePreload {s : State} {a0 : Nat} {a1 : Nat} : Done s (execSamplePreload a0 a1 s) :=
  done_run fun _ _ h => kept_boundaryScan h

theorem done_execIdcode {s : State} : Done s (execIdcode s) :=
  done_run fun _ _ h => (kept_emit (kept_mk h))

theorem done_execChallenge {s : State} : Done s (execChallenge s) :=
  done_run fun _ _ h => (by split; rename_i w0 t1 q2; exact (fun k3 => (by extract_lets x4 x5; exact (kept_emit (kept_mk k3)))) (kept_snd (kept_freeWords h) q2))

theorem kept_wicketFail {s0 s : State} (h : Kept s0 s) : Kept s0 (wicketFail s) := by
  unfold wicketFail
  exact (by extract_lets x0 x1 x3; have h2 : Kept s0 x1 := (kept_State_count (kept_State_put h)); (try clear_value x1); have h4 : Kept s0 x3 := (kept_raiseH (kept_setEvt h2)); (try clear_value x3); exact (kept_ite (kept_raiseH (kept_State_put h4)) h4))

theorem done_execResponse {s : State} {a0 : List Word} : Done s (execResponse a0 s) :=
  done_run fun s0 _ h => (by extract_lets x0 x1 x3 x4 x5 x6 x7 x9; have h2 : Kept s0 x1 := (kept_mk h); have h8 : Kept s0 x7 := (kept_State_put h2); (try clear_value x7); have h10 : Kept s0 x9 := (kept_State_addSat h8); (try clear_value x9); exact (kept_ite h2 (kept_ite (kept_wicketFail h2) (kept_ite h2 (kept_retain (kept_raiseH (kept_setEvt h10)))))))

theorem done_execWstatus {s : State} : Done s (execWstatus s) :=
  done_run fun _ _ h => (by extract_lets x0; exact (kept_emit (kept_mk h)))

theorem done_execBypass {s : State} : Done s (execBypass s) :=
  done_run fun _ _ h => (by extract_lets x0; exact (kept_emit (kept_mk h)))

theorem done_execTrstLow {s : State} : Done s (execTrstLow s) :=
  done_run fun _ _ h => (by extract_lets x0; exact (kept_closeScopes (kept_mk h)))

theorem kept_wicketCtlWrite {s0 s : State} (h : Kept s0 s) {a0 : Word} : Kept s0 (wicketCtlWrite a0 s) := by
  unfold wicketCtlWrite
  exact (by extract_lets x0; exact (kept_unlessLocked h (fun _ k1 => (by extract_lets x3 x5; have h4 : Kept s0 x3 := (kept_ite (kept_closeScopes k1) k1); (try clear_value x3); have h6 : Kept s0 x5 := (kept_ite (kept_State_put (kept_State_put h4)) h4); (try clear_value x5); exact (kept_ite h6 (kept_capture h6))))))

theorem done_execWicketClose {s : State} : Done s (execWicketClose s) :=
  done_run fun _ _ h => (kept_wicketCtlWrite h)

theorem done_execWicketDisable {s : State} : Done s (execWicketDisable s) :=
  done_run fun _ _ h => (kept_wicketCtlWrite h)

theorem kept_openSession {s0 s : State} (h : Kept s0 s) {a0 : Nat} {a1 : List Word} : Kept s0 (openSession a0 a1 s) := by
  unfold openSession
  exact (by extract_lets x0 x4; have h1 : ∀ v2, Kept s0 v2 → Kept s0 (x0 v2) := (by intro v2 k3; unfold x0; exact (kept_raiseH (kept_svcAnswer (kept_State_count k3)))); exact (kept_ite (kept_svcAnswer (kept_State_count h)) (by split; exacts [(h1 _ h), (by extract_lets x5 x7; have h6 : Kept s0 x5 := (kept_ite h (kept_mk h)); (try clear_value x5); have h8 : Kept s0 x7 := (kept_State_count (kept_State_put (kept_State_put h6))); (try clear_value x7); exact (kept_ite (h1 _ h) (kept_svcAnswer (kept_raiseH (kept_setEvt h8)))))])))

theorem kept_rtcAdvance {s0 s : State} (h : Kept s0 s) {a0 : Nat} : Kept s0 (rtcAdvance a0 s) := by
  unfold rtcAdvance
  exact (by extract_lets x0; exact (kept_ite (kept_mk h) h))

theorem kept_porterEvent {s0 s : State} (h : Kept s0 s) {a0 : Nat} {a1 : Nat} {a2 : Nat} : Kept s0 (porterEvent a0 a1 a2 s) := by
  unfold porterEvent
  exact (kept_ite (kept_raiseH (kept_setEvt h)) h)

theorem done_execPorterSourceChange {s : State} {a0 : Nat} {a1 : Nat} {a2 : Nat} : Done s (execPorterSourceChange a0 a1 a2 s) :=
  done_run fun s0 _ h => (by extract_lets x0 x1 x2 x4 x6 x7; have h3 : Kept s0 x2 := (kept_State_count (kept_State_put (kept_rtcAdvance h))); (try clear_value x2); have h5 : Kept s0 x4 := (kept_State_put h3); (try clear_value x4); have h8 : Kept s0 x7 := (kept_mk h5); exact (kept_ite (kept_rtcAdvance h) (kept_porterEvent (kept_retain h8))))

theorem done_execPorterStop {s : State} {a0 : Nat} : Done s (execPorterStop a0 s) :=
  done_run fun s0 _ h => (by extract_lets x0 x2; have h1 : Kept s0 x0 := (kept_State_put (kept_rtcAdvance h)); (try clear_value x0); exact (kept_ite (kept_mk h1) h))

theorem done_execPorterRestart {s : State} {a0 : Nat} {a1 : Nat} : Done s (execPorterRestart a0 a1 s) :=
  done_run fun s0 _ h => (by extract_lets x0 x5 x7; have h1 : Kept s0 x0 := (kept_foldl h fun _ _ k4 => (kept_State_setRaw k4)); (try clear_value x0); have h6 : Kept s0 x5 := (kept_State_put (kept_State_put h1)); (try clear_value x5); exact (kept_ite h (kept_retain (kept_mk h6))))

theorem done_execHarvestSample {s : State} {a0 : Nat} {a1 : Nat} {a2 : Nat} : Done s (execHarvestSample a0 a1 a2 s) :=
  done_run fun s0 _ h => (by extract_lets x0 x1 x3 x4; have h2 : Kept s0 x1 := (kept_State_put (kept_rtcAdvance h)); (try clear_value x1); exact (kept_mk h2))

theorem done_execBatteryMeasure {s : State} {a0 : Nat} {a1 : Nat} : Done s (execBatteryMeasure a0 a1 s) :=
  done_run fun s0 _ h => (by extract_lets x0 x1 x2; have h3 : Kept s0 x2 := (kept_State_put (kept_rtcAdvance h)); (try clear_value x2); exact (kept_ite h (kept_ite h3 (kept_porterEvent (kept_retain (kept_State_put h3))))))

theorem done_execRtcTrim {s : State} {a0 : Nat} : Done s (execRtcTrim a0 s) :=
  done_run fun s0 _ h => (by extract_lets x0 x2 x3 x4 x5; have h1 : Kept s0 x0 := (kept_rtcAdvance h); (try clear_value x0); exact (kept_ite h (kept_mk h1)))

theorem done_execDoorWatch {s : State} {a0 : Nat} {a1 : Nat} : Done s (execDoorWatch a0 a1 s) :=
  done_run fun s0 _ h => (by extract_lets x0 x2 x3 x4; have h1 : Kept s0 x0 := (kept_rtcAdvance h); (try clear_value x0); exact (kept_ite (kept_mk h1) (by split; exacts [(kept_mk h1), (kept_ite (kept_mk h1) (kept_retain (kept_mk h1)))])))

end Sys2Proof.Machine
end

