-- ==== Sys2Proof/Laws/KeptLanes.lean ====
section
/-! SUPPORT. What every operation and every command keeps: the cells, the edges, the rings and the twin. -/

namespace Sys2Proof.Machine

set_option Elab.async false

theorem kept_modCell {s0 s : State} (h : Kept s0 s) {a0 : Nat} {a1 : CellSt → CellSt} : Kept s0 (modCell a0 a1 s) := by
  unfold modCell
  exact (kept_mk h)

theorem kept_setCellState {s0 s : State} (h : Kept s0 s) {a0 : Nat} {a1 : Nat} : Kept s0 (setCellState a0 a1 s) := by
  unfold setCellState
  exact (kept_ite h (kept_setEvt (kept_State_put h)))

theorem kept_bypassCommand {s0 s : State} (h : Kept s0 s) {a0 : Nat} {a1 : Nat} : Kept s0 (bypassCommand a0 a1 s) := by
  unfold bypassCommand
  exact (kept_modCell h)

theorem kept_enterCell {s0 s : State} (h : Kept s0 s) {a0 : Nat} : Kept s0 (enterCell a0 s) := by
  unfold enterCell
  exact (kept_setCellState (kept_bypassCommand h))

theorem kept_leaveCell {s0 s : State} (h : Kept s0 s) {a0 : Nat} : Kept s0 (leaveCell a0 s) := by
  unfold leaveCell
  exact (kept_setCellState (kept_bypassCommand h))

theorem kept_returnCell {s0 s : State} (h : Kept s0 s) {a0 : Nat} : Kept s0 (returnCell a0 s) := by
  unfold returnCell
  exact (kept_ite (kept_enterCell h) (kept_setCellState h))

theorem kept_latchFault {s0 s : State} (h : Kept s0 s) {a0 : Nat} {a1 : Nat} : Kept s0 (latchFault a0 a1 s) := by
  unfold latchFault
  exact (by extract_lets x0; have h1 : Kept s0 x0 := (kept_ite (kept_State_put (kept_State_put h)) h); (try clear_value x0); exact (kept_setEvt (kept_State_put (kept_State_count h1))))

theorem kept_stopEdges {s0 s : State} (h : Kept s0 s) {a0 : Nat} : Kept s0 (stopEdges a0 s) := by
  unfold stopEdges
  exact (by extract_lets x0; exact (kept_mk h))

theorem kept_cellFault {s0 s : State} (h : Kept s0 s) {a0 : Nat} {a1 : Nat} : Kept s0 (cellFault a0 a1 s) := by
  unfold cellFault
  exact (by extract_lets x0 x1 x3; have h2 : Kept s0 x1 := (kept_latchFault h); (try clear_value x1); have h4 : Kept s0 x3 := (kept_stopEdges (kept_latchFault h)); (try clear_value x3); exact (kept_ite (kept_ite (kept_setCellState h2) h2) (kept_ite (kept_setCellState (kept_ite h4 (kept_bypassCommand h4))) h)))

theorem kept_nodeLost {s0 s : State} (h : Kept s0 s) {a0 : Nat} {a1 : Nat} : Kept s0 (nodeLost a0 a1 s) := by
  unfold nodeLost
  exact (by extract_lets x0 x2 x4; have h1 : Kept s0 x0 := (kept_modCell h); (try clear_value x0); have h3 : Kept s0 x2 := (kept_raiseF (kept_setEvt h1)); (try clear_value x2); exact (kept_ite h (kept_ite (kept_latchFault h3) (kept_cellFault h3))))

theorem kept_cellPage {s0 s : State} (h : Kept s0 s) {a0 : Nat} {a1 : List Word} : Kept s0 (cellPage a0 a1 s) := by
  unfold cellPage
  exact (by extract_lets x0 x1 x2 x3 x4 x6 x8 x10 x11; have h5 : Kept s0 x4 := (kept_State_put (kept_State_put (kept_State_put (kept_State_put h)))); (try clear_value x4); have h7 : Kept s0 x6 := (kept_State_put (kept_State_put (kept_State_put h5))); (try clear_value x6); have h9 : Kept s0 x8 := (kept_State_put h7); (try clear_value x8); exact (kept_ite (kept_modCell (kept_State_put h9)) (kept_modCell h9)))

theorem kept_confirmBypass {s0 s : State} (h : Kept s0 s) {a0 : Nat} {a1 : Nat} : Kept s0 (confirmBypass a0 a1 s) := by
  unfold confirmBypass
  exact (by split; exacts [(kept_ite (kept_modCell h) h), (kept_ite (kept_modCell h) h)])

theorem kept_noReference {s0 s : State} (h : Kept s0 s) {a0 : Nat} {a1 : Bool} : Kept s0 (noReference a0 a1 s) := by
  unfold noReference
  exact (by extract_lets x0 x1; exact (kept_modCell (kept_mk h)))

theorem kept_inputLoss {s0 s : State} (h : Kept s0 s) {a0 : Nat} : Kept s0 (inputLoss a0 s) := by
  unfold inputLoss
  exact (by extract_lets x0 x1 x2 x4 x5; have h3 : Kept s0 x2 := (kept_noReference h); (try clear_value x2); have h6 : Kept s0 x5 := (kept_ite (kept_raiseF (kept_setEvt (kept_State_count h3))) h3); (try clear_value x5); exact (kept_ite (kept_leaveCell (kept_State_put h6)) (kept_setCellState (kept_modCell h6))))

theorem kept_faultedReturn {s0 s : State} (h : Kept s0 s) {a0 : Nat} : Kept s0 (faultedReturn a0 s) := by
  unfold faultedReturn
  exact (by extract_lets x0 x1; exact (kept_ite (kept_returnCell h) h))

theorem kept_cellEvents {s0 s : State} (h : Kept s0 s) {a0 : Nat} {a1 : List Word} : Kept s0 (cellEvents a0 a1 s) := by
  unfold cellEvents
  exact (by extract_lets x0 x1 x2 x3 x5 x7 x9; have h4 : Kept s0 x3 := (kept_modCell h); (try clear_value x3); have h6 : Kept s0 x5 := (kept_ite (kept_cellFault h4) h4); (try clear_value x5); have h8 : Kept s0 x7 := (kept_confirmBypass h6); (try clear_value x7); have h10 : Kept s0 x9 := (kept_ite (kept_inputLoss h8) h8); (try clear_value x9); exact (kept_faultedReturn h10))

theorem kept_putRing {s0 s : State} (h : Kept s0 s) {a0 : Nat} {a1 : Nat} {a2 : List Word} : Kept s0 (putRing a0 a1 a2 s) := by
  unfold putRing
  exact (kept_modClu h)

theorem kept_publishCell {s0 s : State} (h : Kept s0 s) {a0 : Nat} {a1 : Nat} : Kept s0 (publishCell a0 a1 s) := by
  unfold publishCell
  exact (by extract_lets x0 x1 x2 x3 x4 x5 x7 x8 x10 x12; have h6 : Kept s0 x5 := (kept_putRing h); (try clear_value x5); have h9 : Kept s0 x8 := (kept_State_count h6); (try clear_value x8); have h11 : Kept s0 x10 := (kept_ite h6 (kept_ite h6 (kept_ite h9 (kept_setEvt (kept_mk h9))))); (try clear_value x10); have h13 : Kept s0 x12 := (kept_cellPage h11); (try clear_value x12); exact (kept_ite h (kept_ite (kept_putRing h) (kept_ite h11 (kept_ite h13 (kept_cellEvents h13))))))

theorem kept_publish {s0 s : State} (h : Kept s0 s) {a0 : Nat} : Kept s0 (publish a0 s) := by
  unfold publish
  exact (kept_foldl (kept_modClu h) fun _ _ k2 => (kept_publishCell k2))

theorem done_execInputRestored {s : State} {a0 : Nat} : Done s (execInputRestored a0 s) :=
  done_run fun _ _ h => (kept_ite h (kept_ite (kept_setCellState h) (kept_ite (kept_returnCell h) h)))

theorem done_execBypassConfirmTimeout {s : State} {a0 : Nat} : Done s (execBypassConfirmTimeout a0 s) :=
  done_run fun s0 _ h => (by split; exacts [h, (by extract_lets x0 x2 x3; have h1 : Kept s0 x0 := (kept_modCell h); (try clear_value x0); have h4 : Kept s0 x3 := (kept_ite (kept_cellFault h1) (kept_latchFault h1)); (try clear_value x3); exact (kept_ite (kept_converterFault (kept_modCell h4)) h4))])

theorem done_execNodeLostTimeout {s : State} {a0 : Nat} : Done s (execNodeLostTimeout a0 s) :=
  done_run fun _ _ h => (kept_ite (kept_State_put (kept_modCell h)) h)

theorem kept_serviceWrite {s0 s : State} (h : Kept s0 s) {a0 : Nat} {a1 : Word} : Kept s0 (serviceWrite a0 a1 s) := by
  unfold serviceWrite
  exact (by extract_lets x0 x1 x2 x3 x4 x5; have h6 : Kept s0 x5 := (kept_writeReg h); (try clear_value x5); exact (kept_ite (kept_ite h (kept_capture h)) (kept_ite (kept_capture (kept_setEvt h)) (kept_ite (kept_ite (kept_modCell (kept_leaveCell h6)) h6) (kept_ite (kept_ite (kept_returnCell h6) h6) (kept_faultedReturn h6))))))

theorem done_execService {s : State} {a0 : Nat} {a1 : Word} : Done s (execService a0 a1 s) :=
  done_run fun _ _ h => (kept_serviceWrite h)

theorem kept_faultCleared {s0 s : State} (h : Kept s0 s) {a0 : Nat} : Kept s0 (faultCleared a0 s) := by
  unfold faultCleared
  exact (kept_faultedReturn (kept_State_put h))

theorem kept_modRing {s0 s : State} (h : Kept s0 s) {a0 : Nat} {a1 : RingDir → RingDir} : Kept s0 (modRing a0 a1 s) := by
  unfold modRing
  exact (kept_mk h)

theorem kept_beginBurst {s0 s : State} (h : Kept s0 s) {a0 : Nat} {a1 : Nat} {a2 : Nat} : Kept s0 (beginBurst a0 a1 a2 s) := by
  unfold beginBurst
  exact (kept_modRing h)

theorem kept_ringBegin {s0 s : State} (h : Kept s0 s) : Kept s0 (ringBegin s) := by
  unfold ringBegin
  exact (kept_foldl h fun _ _ k2 => (kept_modRing k2))

theorem kept_sendDiscover {s0 s : State} (h : Kept s0 s) {a0 : Nat} : Kept s0 (sendDiscover a0 s) := by
  unfold sendDiscover
  exact (kept_emit (kept_beginBurst h))

theorem kept_sendCollect {s0 s : State} (h : Kept s0 s) {a0 : Nat} : Kept s0 (sendCollect a0 s) := by
  unfold sendCollect
  exact (by extract_lets x0; exact (kept_emit (kept_beginBurst (kept_modRing h))))

theorem kept_modEdge {s0 s : State} (h : Kept s0 s) {a0 : Nat} {a1 : CellEdge → CellEdge} : Kept s0 (modEdge a0 a1 s) := by
  unfold modEdge
  exact (by extract_lets x0; exact (kept_mk h))

theorem kept_edgeEvent70 {s0 s : State} (h : Kept s0 s) {a0 : Nat} {a1 : Nat} {a2 : Nat} : Kept s0 (edgeEvent70 a0 a1 a2 s) := by
  unfold edgeEvent70
  exact (kept_raiseF (kept_setEvt h))

theorem kept_edgeStart {s0 s : State} (h : Kept s0 s) : Kept s0 (edgeStart s) := by
  unfold edgeStart
  exact (by extract_lets x0 x1 x2 x3 x4 x5 x6; have h7 : Kept s0 x6 := (kept_mk h); exact (kept_State_put (kept_State_put (kept_State_put h7))))

theorem kept_edgeStop {s0 s : State} (h : Kept s0 s) : Kept s0 (edgeStop s) := by
  unfold edgeStop
  exact (by extract_lets x0 x1; have h2 : Kept s0 x1 := (kept_mk h); exact (kept_State_put (kept_State_put (kept_State_put h2))))

theorem kept_putSetpoint {s0 s : State} (h : Kept s0 s) {a0 : Nat} {a1 : Nat} : Kept s0 (putSetpoint a0 a1 s) := by
  unfold putSetpoint
  exact (by extract_lets x0; exact (kept_ite h (kept_foldl (kept_mk h) fun _ _ k3 => (kept_modCell k3))))

theorem kept_followCount {s0 s : State} (h : Kept s0 s) {a0 : Nat} {a1 : Nat} {a2 : Bool} : Kept s0 (followCount a0 a1 a2 s) := by
  unfold followCount
  exact (by split; exacts [h, (by split; exacts [(kept_putSetpoint h), (kept_ite (kept_converterFault h) h)])])

theorem kept_evalSetpoint {s0 s : State} (h : Kept s0 s) {a0 : Nat} {a1 : Nat} {a2 : Nat} : Kept s0 (evalSetpoint a0 a1 a2 s) := by
  unfold evalSetpoint
  exact (kept_ite h (kept_followCount h))

theorem kept_addPeriod {s0 s : State} (h : Kept s0 s) {a0 : Nat} {a1 : Nat} {a2 : Nat} {a3 : Nat} {a4 : Nat} {a5 : Nat} : Kept s0 (addPeriod a0 a1 a2 a3 a4 a5 s) := by
  unfold addPeriod
  exact (by extract_lets x0; exact (kept_modEdge h))

theorem kept_takeDuties {s0 s : State} (h : Kept s0 s) {a0 : Nat} : Kept s0 (takeDuties a0 s) := by
  unfold takeDuties
  exact (kept_foldl h fun _ _ k2 => (kept_modEdge k2))

theorem kept_loadPoint {s0 s : State} (h : Kept s0 s) {a0 : Nat} : Kept s0 (loadPoint a0 s) := by
  unfold loadPoint
  exact (by extract_lets x0 x1 x3 x4 x5 x10 x11 x12 x13; have h2 : Kept s0 x1 := (kept_mk h); have h6 : Kept s0 x5 := (kept_foldl (kept_mk h2) fun _ _ k9 => (kept_modCell k9)); (try clear_value x5); have h14 : Kept s0 x13 := (kept_foldl h6 fun _ _ k17 => (kept_addPeriod k17)); (try clear_value x13); exact (kept_ite h (kept_evalSetpoint (kept_State_put (kept_takeDuties h14)))))

theorem kept_setExt {s0 s : State} (h : Kept s0 s) {a0 : Nat} : Kept s0 (setExt a0 s) := by
  unfold setExt
  exact (by extract_lets x0 x5 x10; have h1 : ∀ v2 v4, Kept s0 v2 → Kept s0 (x0 v2 v4) := (by intro v2 v4 k3; unfold x0; exact (kept_ite (kept_modEdge k3) k3)); have h6 : Kept s0 x5 := (kept_foldl h fun _ _ k9 => (kept_ite (kept_modEdge k9) k9)); (try clear_value x5); exact (kept_mk h6))

theorem kept_boundaryCell {s0 s : State} (h : Kept s0 s) {a0 : Nat} : Kept s0 (boundaryCell a0 s) := by
  unfold boundaryCell
  exact (by extract_lets x0 x1 x2; have h3 : Kept s0 x2 := (kept_ite h (kept_modCell h)); (try clear_value x2); exact (kept_ite (kept_setCellState h3) (kept_ite (kept_setCellState h3) h3)))

theorem kept_enterStandby {s0 s : State} (h : Kept s0 s) {a0 : Nat} : Kept s0 (enterStandby a0 s) := by
  unfold enterStandby
  exact (kept_foldl h fun _ _ k2 => (kept_ite (kept_enterCell k2) k2))

theorem kept_boundaryPhase {s0 s : State} (h : Kept s0 s) {a0 : Nat} : Kept s0 (boundaryPhase a0 s) := by
  unfold boundaryPhase
  exact (by extract_lets x0 x5; have h1 : Kept s0 x0 := (kept_foldl h fun _ _ k4 => (kept_boundaryCell k4)); (try clear_value x0); have h6 : Kept s0 x5 := (kept_ite h1 (kept_edgeEvent70 h1)); (try clear_value x5); exact (kept_enterStandby h6))

theorem kept_syncOut {s0 s : State} (h : Kept s0 s) {a0 : Nat} : Kept s0 (syncOut a0 s) := by
  unfold syncOut
  exact (kept_State_count (kept_emit h))

theorem kept_badRecord {s0 s : State} (h : Kept s0 s) {a0 : Nat} {a1 : Word} {a2 : Nat} : Kept s0 (badRecord a0 a1 a2 s) := by
  unfold badRecord
  exact (by extract_lets x0 x1 x3 x5; have h2 : Kept s0 x1 := (kept_State_count (kept_State_put (kept_State_put (kept_State_put h)))); (try clear_value x1); have h4 : Kept s0 x3 := (kept_setEvt h2); (try clear_value x3); exact (kept_ite h4 (kept_raiseF (kept_mk h4))))

theorem kept_blankArm {s0 s : State} (h : Kept s0 s) {a0 : Nat} {a1 : Nat} {a2 : Nat} {a3 : Nat} : Kept s0 (blankArm a0 a1 a2 a3 s) := by
  unfold blankArm
  exact (by extract_lets x0 x1 x2 x3 x5; have h4 : Kept s0 x3 := (kept_ite (kept_setEvt (kept_State_count h)) h); (try clear_value x3); exact (kept_ite (kept_raiseF (kept_setEvt (kept_State_count h))) (kept_State_put (kept_mk h4))))

theorem kept_commitEdge {s0 s : State} (h : Kept s0 s) {a0 : Nat} {a1 : Nat} {a2 : Word} {a3 : Word} : Kept s0 (commitEdge a0 a1 a2 a3 s) := by
  unfold commitEdge
  exact (by extract_lets x0 x1 x2 x3 x4 x5; have h6 : Kept s0 x5 := (kept_ite (kept_setEvt (kept_State_count h)) h); (try clear_value x5); exact (kept_ite (kept_badRecord h) (kept_ite (kept_ite (kept_badRecord h) (kept_blankArm h)) (kept_ite (kept_badRecord h) (kept_ite (kept_badRecord h) (kept_ite (kept_badRecord h) (kept_ite (kept_badRecord h) (kept_modEdge h6))))))))

theorem kept_formFigures {s0 s : State} (h : Kept s0 s) {a0 : Nat} {a1 : Nat} : Kept s0 (formFigures a0 a1 s) := by
  unfold formFigures
  exact (by extract_lets x0 x1 x2 x4; have h3 : Kept s0 x2 := (kept_mk h); have h5 : Kept s0 x4 := (kept_State_put (kept_State_put h3)); (try clear_value x4); exact (kept_ite h (kept_ite h5 (kept_ite (kept_edgeEvent70 (kept_State_put h5)) (kept_State_put h5)))))

theorem kept_countRegion {s0 s : State} (h : Kept s0 s) {a0 : Nat} {a1 : Nat} {a2 : Nat} {a3 : Nat} {a4 : Nat × Nat} {a5 : Nat × Nat} : Kept s0 (countRegion a0 a1 a2 a3 a4 a5 s) := by
  unfold countRegion
  exact (by extract_lets x0; exact (kept_ite (kept_ite (kept_State_count h) (kept_ite (kept_State_count h) (kept_ite (kept_State_count h) h))) (kept_ite (kept_State_addSat h) h)))

theorem kept_fixPeriod {s0 s : State} (h : Kept s0 s) {a0 : Nat} {a1 : Nat} {a2 : Nat} : Kept s0 (fixPeriod a0 a1 a2 s) := by
  unfold fixPeriod
  exact (by extract_lets x0 x1 x2 x3; exact (by split; exacts [h, (by extract_lets x4 x5 x6; have h7 : Kept s0 x6 := (kept_countRegion (kept_countRegion h)); (try clear_value x6); exact (kept_ite h (kept_modEdge h7)))]))

theorem kept_formCell {s0 s : State} (h : Kept s0 s) {a0 : Nat} {a1 : Nat} : Kept s0 (formCell a0 a1 s) := by
  unfold formCell
  exact (by extract_lets x0 x5; have h1 : ∀ v2 v3, Kept s0 v3 → Kept s0 (x0 v2 v3) := (by intro v2 v3 k4; unfold x0; exact (kept_modEdge k4)); have h6 : Kept s0 x5 := (kept_fixPeriod (kept_fixPeriod (kept_fixPeriod (kept_fixPeriod h)))); (try clear_value x5); exact (kept_ite h (kept_ite (h1 _ _ (kept_modEdge h)) (h1 _ _ h6))))

theorem kept_sendCommand {s0 s : State} (h : Kept s0 s) {a0 : Nat} {a1 : Nat} {a2 : Nat} {a3 : Nat} {a4 : List Segment} : Kept s0 (sendCommand a0 a1 a2 a3 a4 s) := by
  unfold sendCommand
  exact (by extract_lets x0 x1 x2 x3; exact (kept_emit (kept_beginBurst (kept_modRing h))))

theorem kept_sendMgmt {s0 s : State} (h : Kept s0 s) {a0 : Nat} {a1 : Nat} {a2 : List Byte} {a3 : List Mgmt} : Kept s0 (sendMgmt a0 a1 a2 a3 s) := by
  unfold sendMgmt
  exact (kept_ite (kept_modRing h) (kept_foldl h fun _ _ k2 => (kept_emit (kept_beginBurst k2))))

theorem done_execCommandBurst {s : State} {a0 : Nat} : Done s (execCommandBurst a0 s) :=
  done_run fun s0 _ h => (by extract_lets x0 x1 x2 x3 x8; have h4 : Kept s0 x3 := (kept_ite (kept_foldl (kept_formFigures h) fun _ _ k7 => (kept_formCell k7)) h); (try clear_value x3); exact (kept_ite h (kept_sendCommand h4)))

theorem kept_badCommand {s0 s : State} (h : Kept s0 s) {a0 : Nat} {a1 : Word} : Kept s0 (badCommand a0 a1 s) := by
  unfold badCommand
  exact (kept_raiseF h)

theorem kept_commitRing {s0 s : State} (h : Kept s0 s) {a0 : Nat} {a1 : Word} {a2 : Word} : Kept s0 (commitRing a0 a1 a2 s) := by
  unfold commitRing
  exact (by extract_lets x0 x1 x2 x3; exact (kept_ite (kept_badCommand h) (kept_modCell h)))

theorem kept_putSyncLock {s0 s : State} (h : Kept s0 s) {a0 : Bool} : Kept s0 (putSyncLock a0 s) := by
  unfold putSyncLock
  exact (kept_ite h (kept_raiseF (kept_setEvt (kept_State_putB h))))

theorem kept_syncFollow {s0 s : State} (h : Kept s0 s) {a0 : Nat} : Kept s0 (syncFollow a0 s) := by
  unfold syncFollow
  exact (by extract_lets x0 x1 x2 x3 x4 x5 x7 x8 x9; have h6 : Kept s0 x5 := (kept_State_putI h); (try clear_value x5); have h10 : Kept s0 x9 := (kept_mk h6); exact (kept_ite h (kept_ite (kept_ite (kept_putSyncLock h10) h10) (kept_putSyncLock (kept_setExt (kept_mk h6))))))

theorem done_execSyncInPulse {s : State} {a0 : Bool} {a1 : Nat} {a2 : Nat} : Done s (execSyncInPulse a0 a1 a2 s) :=
  done_run fun s0 _ h => (by extract_lets x0 x1 x2 x3 x4 x6 x8 x9; have h5 : Kept s0 x4 := (kept_mk h); have h7 : Kept s0 x6 := (kept_State_put (kept_State_put (kept_State_count h5))); (try clear_value x6); have h10 : Kept s0 x9 := (kept_ite (kept_State_putI h7) h7); (try clear_value x9); exact (kept_ite h (kept_ite (kept_setEvt (kept_State_count h)) (kept_ite (kept_syncFollow h10) h10))))

theorem done_execSyncLost {s : State} : Done s (execSyncLost s) :=
  done_run fun s0 _ h => (by extract_lets x0 x1 x3; have h2 : Kept s0 x1 := (kept_State_put h); (try clear_value x1); exact (kept_ite h (kept_ite (kept_raiseF (kept_setEvt (kept_putSyncLock (kept_mk h2)))) h2)))

theorem kept_setLaneState {s0 s : State} (h : Kept s0 s) {a0 : Nat} {a1 : Nat} : Kept s0 (setLaneState a0 a1 s) := by
  unfold setLaneState
  exact (by extract_lets x0; exact (kept_ite h (kept_raiseF (kept_setEvt (kept_State_put (kept_State_put h))))))

theorem kept_putOwners {s0 s : State} (h : Kept s0 s) {a0 : Nat} {a1 : Nat → Nat} : Kept s0 (putOwners a0 a1 s) := by
  unfold putOwners
  exact (by extract_lets x0 x1 x2; have h3 : ∀ v4 v5, Kept s0 v5 → Kept s0 (x2 v4 v5) := (by intro v4 v5 k6; unfold x2; exact (by extract_lets x7; exact (kept_State_put (kept_State_put (kept_State_put k6))))); exact (kept_foldl (h3 _ _ (h3 _ _ h)) fun _ _ k10 => (kept_ite (kept_State_put k10) k10)))

theorem kept_applyOwners {s0 s : State} (h : Kept s0 s) : Kept s0 (applyOwners s) := by
  unfold applyOwners
  exact (kept_foldl h fun _ _ k2 => (by extract_lets x3; have h4 : Kept s0 x3 := (kept_putOwners k2); (try clear_value x3); exact (kept_ite (kept_foldl h4 fun _ _ k7 => (kept_modCell k7)) k2)))

theorem kept_decideOwner {s0 s : State} (h : Kept s0 s) {a0 : Nat} {a1 : Nat} {a2 : Nat} : Kept s0 (decideOwner a0 a1 a2 s) := by
  unfold decideOwner
  exact (kept_ite (kept_modCell h) h)

theorem kept_decideOwners {s0 s : State} (h : Kept s0 s) {a0 : Nat} {a1 : Nat} {a2 : Nat → Nat} : Kept s0 (decideOwners a0 a1 a2 s) := by
  unfold decideOwners
  exact (kept_foldl h fun _ _ k2 => (kept_decideOwner k2))

theorem kept_defaultOwners {s0 s : State} (h : Kept s0 s) {a0 : Nat} : Kept s0 (defaultOwners a0 s) := by
  unfold defaultOwners
  exact (kept_decideOwners h)

theorem kept_takeDefault {s0 s : State} (h : Kept s0 s) {a0 : Nat} : Kept s0 (takeDefault a0 s) := by
  unfold takeDefault
  exact (kept_ite h (kept_defaultOwners h))

theorem kept_ownEvent {s0 s : State} (h : Kept s0 s) {a0 : Nat} {a1 : Nat} {a2 : Nat} {a3 : Bool} : Kept s0 (ownEvent a0 a1 a2 a3 s) := by
  unfold ownEvent
  exact (by extract_lets x0 x5 x6; have h1 : ∀ v2 v3, Kept s0 v3 → Kept s0 (x0 v2 v3) := (by intro v2 v3 k4; unfold x0; exact (kept_setEvt (kept_State_count k4))); have h7 : Kept s0 x6 := (kept_mk h); exact (kept_raiseF (h1 _ _ (h1 _ _ h7))))

theorem kept_failLane {s0 s : State} (h : Kept s0 s) {a0 : Nat} : Kept s0 (failLane a0 s) := by
  unfold failLane
  exact (by extract_lets x0 x2; have h1 : Kept s0 x0 := (kept_setLaneState (kept_State_count (kept_modRing h))); (try clear_value x0); exact (kept_ite (kept_ownEvent (kept_decideOwners h1)) (kept_foldl h1 fun _ _ k5 => (kept_nodeLost k5))))

theorem done_execDirectionFail {s : State} {a0 : Nat} : Done s (execDirectionFail a0 s) :=
  done_run fun _ _ h => (kept_ite (kept_failLane (kept_State_put h)) h)

theorem kept_receiverLoss {s0 s : State} (h : Kept s0 s) {a0 : Nat} : Kept s0 (receiverLoss a0 s) := by
  unfold receiverLoss
  exact (by extract_lets x0; have h1 : Kept s0 x0 := (kept_modRing (kept_State_put h)); (try clear_value x0); exact (kept_ite (kept_failLane h1) h1))

theorem done_execDirectionReturning {s : State} {a0 : Nat} : Done s (execDirectionReturning a0 s) :=
  done_run fun _ _ h => (kept_ite (kept_setLaneState h) h)

theorem kept_returnOwners {s0 s : State} (h : Kept s0 s) {a0 : Nat} : Kept s0 (returnOwners a0 s) := by
  unfold returnOwners
  exact (kept_ite (kept_decideOwners h) (kept_putOwners (kept_foldl h fun _ _ k2 => (kept_modCell k2))))

theorem done_execDefaultOwnershipReturn {s : State} {a0 : Nat} : Done s (execDefaultOwnershipReturn a0 s) :=
  done_run fun s0 _ h => (by extract_lets x0 x1 x2 x4 x5 x10 x11; have h3 : Kept s0 x2 := (kept_setLaneState h); (try clear_value x2); have h6 : Kept s0 x5 := (kept_returnOwners (kept_foldl h3 fun _ _ k9 => (kept_modCell k9))); (try clear_value x5); exact (kept_ite (kept_ownEvent (kept_mk h6)) h))

theorem done_execCellOwnerMove {s : State} {a0 : Nat} : Done s (execCellOwnerMove a0 s) :=
  done_run fun _ _ h => (by extract_lets x0 x1; exact (kept_ite (kept_ownEvent (kept_decideOwner (kept_modCell h))) h))

theorem kept_returnOwner {s0 s : State} (h : Kept s0 s) {a0 : Nat} {a1 : Nat} : Kept s0 (returnOwner a0 a1 s) := by
  unfold returnOwner
  exact (kept_ite (kept_decideOwner h) (kept_putOwners h))

theorem done_execCellDefaultReturn {s : State} {a0 : Nat} : Done s (execCellDefaultReturn a0 s) :=
  done_run fun _ _ h => (by extract_lets x0 x1; exact (kept_ite (kept_ownEvent (kept_returnOwner (kept_modCell h))) h))

theorem kept_leakWord {s0 s : State} (h : Kept s0 s) {a0 : Uplink} : Kept s0 (leakWord a0 s).2 := by
  unfold leakWord
  exact (by extract_lets x0; exact (kept_ite2 h (kept_freeWord h)))

theorem kept_reduceSegment {s0 s : State} (h : Kept s0 s) {a0 : Nat} {a1 : Nat} {a2 : Uplink} : Kept s0 (reduceSegment a0 a1 a2 s) := by
  unfold reduceSegment
  exact (by extract_lets x0 x1 x2 x3; exact (by split; rename_i w4 t5 q6; exact (fun k7 => (by extract_lets x8; exact (kept_modCell k7))) (kept_snd (kept_leakWord h) q6)))

theorem kept_authError {s0 s : State} (h : Kept s0 s) {a0 : Nat} {a1 : Nat} : Kept s0 (authError a0 a1 s) := by
  unfold authError
  exact (by extract_lets x0; have h1 : Kept s0 x0 := (kept_setEvt (kept_State_count (kept_modCell h))); (try clear_value x0); exact (kept_ite h1 (kept_raiseF (kept_modRing h1))))

theorem kept_takeBlock {s0 s : State} (h : Kept s0 s) {a0 : Nat} {a1 : Nat} {a2 : Nat} {a3 : List Word} : Kept s0 (takeBlock a0 a1 a2 a3 s) := by
  unfold takeBlock
  exact (kept_modCell h)

theorem kept_takeSegment {s0 s : State} (h : Kept s0 s) {a0 a1 a2 : Nat} {a3 : Returned} : Kept s0 (takeSegment a0 a1 a2 a3 s).1 := by
  unfold takeSegment
  split
  · exact h
  · exact kept_takeBlock h
  · split
    · exact kept_reduceSegment h
    · exact kept_authError h

theorem kept_countGood {s0 s : State} (h : Kept s0 s) {a0 : Nat} {a1 : Nat} {a2 : Bool} : Kept s0 (countGood a0 a1 a2 s) := by
  unfold countGood
  exact (kept_ite (kept_modCell h) h)

theorem kept_collectOther {s0 s : State} (h : Kept s0 s) {a0 : Nat} {a1 : Nat} {a2 : CollectBurst} : Kept s0 (collectOther a0 a1 a2 s) := by
  unfold collectOther
  exact (kept_ite h (kept_countGood h))

theorem kept_collectCell {s0 s : State} (h : Kept s0 s) {a0 a1 : Nat} {a2 : CollectBurst} {a3 : Returned} :
    Kept s0 (collectCell a0 a1 a2 a3 s) := by
  unfold collectCell
  refine kept_ite h ?_
  have h2 : Kept s0 (modCell a1 (fun c => { c with
      miss := if ((takeSegment a0 a2.pick a1 a3 s).2 && a2.pres.testBit (hopOf s a1 (a0 % 2) - 1)) = true then 0 else c.miss + 1,
      lost := c.lost && !((takeSegment a0 a2.pick a1 a3 s).2 && a2.pres.testBit (hopOf s a1 (a0 % 2) - 1)) })
      (countGood a0 a1 ((takeSegment a0 a2.pick a1 a3 s).2 && a2.pres.testBit (hopOf s a1 (a0 % 2) - 1))
        (takeSegment a0 a2.pick a1 a3 s).1)) := kept_modCell (kept_countGood (kept_takeSegment h))
  exact kept_ite (kept_nodeLost h2) h2

theorem kept_collectCells {s0 s : State} (h : Kept s0 s) {a0 : Nat} {a1 : CollectBurst} : Kept s0 (collectCells a0 a1 s) := by
  unfold collectCells
  exact (by extract_lets x0 x1; have h2 : Kept s0 x1 := (kept_foldl h fun _ _ k5 => (kept_collectCell k5)); (try clear_value x1); exact (kept_foldl h2 fun _ _ k8 => (kept_collectOther k8)))

theorem kept_leaveAbsent {s0 s : State} (h : Kept s0 s) {a0 : Nat} : Kept s0 (leaveAbsent a0 s) := by
  unfold leaveAbsent
  exact (kept_ite h (kept_ite (kept_setCellState (kept_bypassCommand h)) (kept_enterCell h)))

theorem kept_putPresence {s0 s : State} (h : Kept s0 s) {a0 : Nat} {a1 : Nat} : Kept s0 (putPresence a0 a1 s) := by
  unfold putPresence
  exact (by extract_lets x0; have h1 : Kept s0 x0 := (kept_State_put (kept_State_put (kept_State_put h))); (try clear_value x0); exact (kept_foldl h1 fun _ _ k4 => (kept_State_putB k4)))

theorem kept_countFec {s0 s : State} (h : Kept s0 s) {a0 : Nat} {a1 : Nat} {a2 : Nat} : Kept s0 (countFec a0 a1 a2 s) := by
  unfold countFec
  exact (kept_State_addSat (kept_State_addSat h))

theorem kept_collectReturn {s0 s : State} (h : Kept s0 s) {a0 : Nat} {a1 : CollectBurst} : Kept s0 (collectReturn a0 a1 s) := by
  unfold collectReturn
  exact (by extract_lets x0 x2 x4 x6; have h1 : Kept s0 x0 := (kept_putPresence (kept_State_putB (kept_countFec h))); (try clear_value x0); have h3 : Kept s0 x2 := (kept_modRing h1); (try clear_value x2); have h5 : Kept s0 x4 := (kept_setLaneState (kept_modRing h3)); (try clear_value x4); have h7 : Kept s0 x6 := (kept_ite (kept_takeDefault (kept_foldl h5 fun _ _ k10 => (kept_leaveAbsent k10))) h3); (try clear_value x6); exact (kept_collectCells h7))

theorem kept_enumResult {s0 s : State} (h : Kept s0 s) {a0 : Nat} {a1 : Nat} {a2 : Nat} : Kept s0 (enumResult a0 a1 a2 s) := by
  unfold enumResult
  exact (kept_raiseF (kept_setEvt (kept_State_put (kept_State_put h))))

theorem kept_enumRefuse {s0 s : State} (h : Kept s0 s) {a0 : Nat} {a1 : Nat} : Kept s0 (enumRefuse a0 a1 s) := by
  unfold enumRefuse
  exact (by extract_lets x0 x2; have h1 : Kept s0 x0 := (kept_enumResult (kept_raiseF h)); (try clear_value x0); have h3 : Kept s0 x2 := (kept_setLaneState (kept_State_count (kept_modRing h1))); (try clear_value x2); exact (kept_ite (kept_ownEvent (kept_decideOwners h3)) (kept_ite (kept_foldl h3 fun _ _ k6 => (kept_nodeLost k6)) h3)))

theorem kept_startBursts {s0 s : State} (h : Kept s0 s) {a0 : Nat} {a1 : Nat} : Kept s0 (startBursts a0 a1 s) := by
  unfold startBursts
  exact (by extract_lets x0 x1 x2 x3 x5; have h4 : Kept s0 x3 := (kept_enumResult (kept_State_putB h)); (try clear_value x3); have h6 : Kept s0 x5 := (kept_modRing h4); (try clear_value x5); exact (kept_ite h6 (kept_defaultOwners h6)))

theorem kept_enumFinish {s0 s : State} (h : Kept s0 s) {a0 : Nat} {a1 : Nat} : Kept s0 (enumFinish a0 a1 s) := by
  unfold enumFinish
  exact (by extract_lets x0 x1; exact (kept_ite (kept_startBursts h) h))

theorem kept_enumCompare {s0 s : State} (h : Kept s0 s) {a0 : Nat} {a1 : Nat} : Kept s0 (enumCompare a0 a1 s) := by
  unfold enumCompare
  exact (by extract_lets x0 x1 x2 x3; have h4 : Kept s0 x3 := (kept_foldl h fun _ _ k7 => (kept_State_put k7)); (try clear_value x3); exact (kept_ite h (kept_ite (kept_enumRefuse h) (kept_enumFinish (kept_modRing h4)))))

theorem kept_enumAdvance {s0 s : State} (h : Kept s0 s) : Kept s0 (enumAdvance s) := by
  unfold enumAdvance
  exact (kept_foldl h fun _ _ k2 => (kept_enumCompare k2))

theorem kept_dropKeys {s0 s : State} (h : Kept s0 s) {a0 : Nat} : Kept s0 (dropKeys a0 s) := by
  unfold dropKeys
  exact (by extract_lets x0; have h1 : Kept s0 x0 := (kept_foldl (kept_State_put h) fun _ _ k4 => (kept_modCell k4)); (try clear_value x0); exact (kept_foldl h1 fun _ _ k7 => (kept_State_put k7)))

theorem kept_startEnum {s0 s : State} (h : Kept s0 s) {a0 : Nat} : Kept s0 (startEnum a0 s) := by
  unfold startEnum
  exact (kept_setLaneState (kept_dropKeys (kept_modRing h)))

theorem done_execLanePllLock {s : State} {a0 : Nat} : Done s (execLanePllLock a0 s) :=
  done_run fun s0 _ h => (by extract_lets x0; have h1 : Kept s0 x0 := (kept_State_putB (kept_State_put h)); (try clear_value x0); exact (kept_ite h (kept_ite (kept_setLaneState h1) (kept_ite (kept_setLaneState h1) (kept_ite (kept_startEnum h1) h1)))))

theorem done_execLaneTrained {s : State} {a0 : Nat} {a1 : Bool} {a2 : Nat} : Done s (execLaneTrained a0 a1 a2 s) :=
  done_run fun _ _ h => (kept_ite h (kept_ite (kept_ite (kept_sendDiscover (kept_setLaneState (kept_modRing (kept_State_put h)))) (kept_enumRefuse h)) (kept_ite (kept_State_put h) h)))

theorem kept_fillHops {s0 s : State} (h : Kept s0 s) {a0 : Nat} {a1 : Discover} : Kept s0 (fillHops a0 a1 s) := by
  unfold fillHops
  exact kept_foldl (kept_State_put (kept_State_put (kept_State_put (kept_State_put h)))) fun t x k => by
    split
    · exact kept_State_setRaw (kept_State_setRaw (kept_State_setRaw (kept_State_setRaw k)))
    · exact kept_State_setRaw (kept_State_setRaw (kept_State_put (kept_State_put k)))

theorem done_execDiscoverReturn {s : State} {a0 : Nat} {a1 : Discover} {a2 : Nat} : Done s (execDiscoverReturn a0 a1 a2 s) :=
  done_run fun s0 _ h => (by extract_lets x0 x1 x2; have h3 : Kept s0 x2 := (kept_countFec h); (try clear_value x2); exact (kept_ite h (kept_ite (kept_sendDiscover (kept_modRing h3)) (kept_ite (kept_enumCompare (kept_fillHops (kept_modRing h3))) (kept_sendDiscover (kept_modRing h3))))))

theorem kept_mismatch {s0 s : State} (h : Kept s0 s) {a0 : Nat} {a1 : Nat} {a2 : Nat} : Kept s0 (mismatch a0 a1 a2 s) := by
  unfold mismatch
  exact (kept_raiseF h)

theorem kept_dropPhase {s0 s : State} (h : Kept s0 s) {a0 : Nat} : Kept s0 (dropPhase a0 s) := by
  unfold dropPhase
  exact (by extract_lets x0; have h1 : ∀ v2 v4, Kept s0 v2 → Kept s0 (x0 v2 v4) := (by intro v2 v4 k3; unfold x0; exact (kept_dropKeys (kept_modRing k3))); exact (kept_foldl (kept_foldl h fun _ _ k7 => (kept_dropKeys (kept_modRing k7))) fun _ _ k10 => (kept_ite (kept_setCellState k10) k10)))

theorem kept_takeKey {s0 s : State} (h : Kept s0 s) {a0 : Nat} {a1 : Nat} {a2 : Nat} {a3 : List Byte} : Kept s0 (takeKey a0 a1 a2 a3 s) := by
  unfold takeKey
  exact (kept_modCell (kept_State_put h))

theorem done_execNodeKeyed {s : State} {a0 : Nat} {a1 : Nat} {a2 : Nat} {a3 : Nat} {a4 : List Byte} {a5 : List Mgmt} : Done s (execNodeKeyed a0 a1 a2 a3 a4 a5 s) :=
  done_run fun s0 _ h => (by extract_lets x0 x1 x2 x4 x5; have h3 : Kept s0 x2 := (kept_modRing (kept_sendMgmt h)); (try clear_value x2); have h6 : Kept s0 x5 := (kept_ite (kept_mismatch (kept_dropPhase h3)) (kept_ite (kept_mismatch h3) (kept_ite h3 (kept_takeKey h3)))); (try clear_value x5); exact (kept_ite h (kept_enumFinish h6)))

theorem done_execNodeConfigured {s : State} {a0 : Nat} {a1 : Nat} {a2 : Bool} {a3 : Nat} {a4 : List Mgmt} : Done s (execNodeConfigured a0 a1 a2 a3 a4 s) :=
  done_run fun s0 _ h => (by extract_lets x0 x1 x2; have h3 : Kept s0 x2 := (kept_sendMgmt h); (try clear_value x2); exact (kept_ite h (kept_enumFinish (kept_modRing h3))))

theorem kept_ringCtlWrite {s0 s : State} (h : Kept s0 s) {a0 : Nat} {a1 : Word} : Kept s0 (ringCtlWrite a0 a1 s) := by
  unfold ringCtlWrite
  exact (by extract_lets x0 x1 x2 x4 x6; have h3 : Kept s0 x2 := (kept_ite h (kept_capture h)); (try clear_value x2); have h5 : Kept s0 x4 := (kept_ite (kept_startEnum (kept_State_put h3)) h3); (try clear_value x4); have h7 : Kept s0 x6 := (kept_State_putB h5); (try clear_value x6); exact (kept_ite (kept_capture h) (kept_ite (kept_capture h) (kept_ite (kept_ite (kept_capture h5) h5) (kept_ite (kept_failLane h7) h7)))))

theorem done_execEnum {s : State} {a0 : Nat} : Done s (execEnum a0 s) :=
  done_run fun _ _ h => (kept_ringCtlWrite h)

theorem done_execZc12Update {s : State} {a0 : Nat} {a1 : Nat} {a2 : List (List Byte)} {a3 : List Mgmt} : Done s (execZc12Update a0 a1 a2 a3 s) :=
  done_run fun s0 _ h => (by extract_lets x0 x1 x9; have h2 : ∀ v3 v5, Kept s0 v3 → Kept s0 (x1 v3 v5) := (by intro v3 v5 k4; unfold x1; exact (kept_foldl k4 fun _ _ k8 => (kept_ite (kept_takeKey (kept_State_put k8)) k8))); exact (kept_ite (h2 _ _ (h2 _ _ (kept_sendMgmt h))) h))

theorem kept_setTwin {s0 s : State} (h : Kept s0 s) {a0 : Nat} : Kept s0 (setTwin a0 s) := by
  unfold setTwin
  exact (by extract_lets x0 x1 x6 x8; have h2 : ∀ v3 v4, Kept s0 v4 → Kept s0 (x1 v3 v4) := (by intro v3 v4 k5; unfold x1; exact (kept_State_put (kept_State_put k5))); have h7 : Kept s0 x6 := (h2 _ _ (h2 _ _ h)); (try clear_value x6); exact (kept_ite h (kept_raiseF (kept_setEvt (kept_setEvt (kept_mk h7))))))

theorem kept_putTwin {s0 s : State} (h : Kept s0 s) {a0 : Nat → Fld} {a1 : Nat} : Kept s0 (putTwin a0 a1 s) := by
  unfold putTwin
  exact (kept_State_put (kept_State_put h))

theorem kept_twinArrives {s0 s : State} (h : Kept s0 s) : Kept s0 (twinArrives s) := by
  unfold twinArrives
  exact (by extract_lets x0; have h1 : Kept s0 x0 := (kept_setTwin h); (try clear_value x0); exact (kept_ite h (kept_ite (kept_setTwin h1) h1)))

theorem done_execTwinLaneLock {s : State} {a0 : Nat} : Done s (execTwinLaneLock a0 s) :=
  done_run fun s0 _ h => (by extract_lets x0; have h1 : Kept s0 x0 := (kept_setLaneState (kept_State_put h)); (try clear_value x0); exact (kept_ite h (kept_ite (kept_setTwin h1) h1)))

theorem kept_stopPartnerLanes {s0 s : State} (h : Kept s0 s) : Kept s0 (stopPartnerLanes s) := by
  unfold stopPartnerLanes
  exact (kept_foldl h fun _ _ k2 => (kept_ite k2 (kept_setLaneState (kept_State_put (kept_modRing k2)))))

theorem kept_takeCells {s0 s : State} (h : Kept s0 s) {a0 : Nat} : Kept s0 (takeCells a0 s) := by
  unfold takeCells
  exact (kept_foldl h fun _ _ k2 => (by extract_lets x3; exact (kept_ownEvent (kept_decideOwners k2))))

theorem kept_takeover {s0 s : State} (h : Kept s0 s) {a0 : Nat} {a1 : Bool} : Kept s0 (takeover a0 a1 s) := by
  unfold takeover
  exact (by extract_lets x0 x1 x2 x3 x5 x7; have h4 : Kept s0 x3 := (kept_setTwin h); (try clear_value x3); have h6 : Kept s0 x5 := (kept_takeCells h4); (try clear_value x5); exact (kept_ite (kept_mk h6) (kept_converterFault h4)))

theorem kept_lossPick {s0 s : State} (h : Kept s0 s) : Kept s0 (lossPick s) := by
  unfold lossPick
  exact (by extract_lets x0; exact (by split; exacts [(kept_raiseF (kept_mk h)), h]))

theorem kept_diverge {s0 s : State} (h : Kept s0 s) {a0 : Nat} : Kept s0 (diverge a0 s) := by
  unfold diverge
  exact (by extract_lets x0 x2; have h1 : Kept s0 x0 := (kept_putTwin (kept_State_count (kept_State_count h))); (try clear_value x0); have h3 : Kept s0 x2 := (kept_raiseF (kept_setEvt (kept_setEvt h1))); (try clear_value x2); exact (kept_converterFault (kept_setTwin h3)))

theorem kept_cancelSwitch {s0 s : State} (h : Kept s0 s) : Kept s0 (cancelSwitch s) := by
  unfold cancelSwitch
  exact (by extract_lets x0; exact (by split; exacts [h, (kept_State_put (kept_State_put (kept_mk h)))]))

theorem kept_partnerCancel {s0 s : State} (h : Kept s0 s) {a0 : Nat} {a1 : Nat × Nat} : Kept s0 (partnerCancel a0 a1 s) := by
  unfold partnerCancel
  exact (by extract_lets x0 x1; exact (kept_ite h (kept_ite (kept_State_put (kept_State_put (kept_mk h))) (kept_ite (kept_cancelSwitch h) h))))

theorem kept_partnerChange {s0 s : State} (h : Kept s0 s) {a0 : Nat} {a1 : OwnChange} : Kept s0 (partnerChange a0 a1 s) := by
  unfold partnerChange
  exact (by extract_lets x0 x1; exact (kept_ite (kept_decideOwner h) (kept_ite (kept_decideOwners (kept_mk h)) (kept_decideOwners (kept_mk h)))))

theorem kept_twinFec {s0 s : State} (h : Kept s0 s) {a0 : TwinBurst} : Kept s0 (twinFec a0 s) := by
  unfold twinFec
  exact (kept_countFec (kept_countFec h))

theorem done_execTwinBurst {s : State} {a0 : TwinBurst} : Done s (execTwinBurst a0 s) :=
  done_run fun s0 _ h => (by extract_lets x0 x2 x3 x5 x6 x7 x9 x11 x12 x14 x19; have h1 : Kept s0 x0 := (kept_twinFec h); (try clear_value x0); have h4 : Kept s0 x3 := (kept_ite h1 (kept_State_count (kept_State_count h1))); (try clear_value x3); have h8 : Kept s0 x7 := (kept_State_putB (kept_State_putB (kept_mk h4))); (try clear_value x7); have h10 : Kept s0 x9 := (kept_putTwin h8); (try clear_value x9); have h13 : Kept s0 x12 := (kept_ite (kept_putTwin h10) h10); (try clear_value x12); have h15 : Kept s0 x14 := (kept_foldl h13 fun _ _ k18 => (kept_partnerChange k18)); (try clear_value x14); have h20 : Kept s0 x19 := (kept_foldl h15 fun _ _ k23 => (kept_partnerCancel k23)); (try clear_value x19); exact (kept_ite h1 (kept_ite (kept_diverge h10) (kept_ite (kept_takeover h20) h20))))

theorem done_execPartnerLost {s : State} : Done s (execPartnerLost s) :=
  done_run fun _ _ h => (by extract_lets x0 x1; exact (kept_ite h (kept_ite (kept_takeover h) (kept_ite (kept_setTwin h) h))))

theorem kept_laneLost {s0 s : State} (h : Kept s0 s) {a0 : Nat} : Kept s0 (laneLost a0 s) := by
  unfold laneLost
  exact (by extract_lets x0 x2; have h1 : Kept s0 x0 := (kept_receiverLoss h); (try clear_value x0); exact (kept_ite (kept_setTwin h1) h1))

theorem done_execReceiverLockLoss {s : State} {a0 : Nat} : Done s (execReceiverLockLoss a0 s) :=
  done_run fun _ _ h => (kept_ite (kept_laneLost h) h)

theorem done_execRxdone {s : State} {a0 : Nat} {a1 : Bool} : Done s (execRxdone a0 a1 s) :=
  done_run fun s0 _ h => (by extract_lets x0; have h1 : Kept s0 x0 := (kept_publish h); (try clear_value x0); exact (kept_ite (kept_takeover h1) h1))

theorem done_execCollectBurstReturn {s : State} {a0 : Nat} {a1 : CollectBurst} : Done s (execCollectBurstReturn a0 a1 s) :=
  done_run fun _ _ h => (kept_ite h (kept_ite (kept_takeover (kept_collectReturn h)) (kept_collectReturn h)))

theorem kept_twctlWrite {s0 s : State} (h : Kept s0 s) {a0 : Nat} {a1 : Word} : Kept s0 (twctlWrite a0 a1 s) := by
  unfold twctlWrite
  exact (by extract_lets x0 x1 x2 x3 x5 x7 x8; have h4 : Kept s0 x3 := (kept_ite h (kept_capture h)); (try clear_value x3); have h6 : Kept s0 x5 := (kept_putTwin h4); (try clear_value x5); have h9 : Kept s0 x8 := (kept_mk h6); exact (kept_ite (kept_capture h) (kept_ite (kept_capture h) (kept_ite (kept_ite (kept_setTwin h9) h9) h6))))

theorem done_execJoin {s : State} : Done s (execJoin s) :=
  done_run fun _ _ h => (kept_twctlWrite h)

theorem kept_yieldCells {s0 s : State} (h : Kept s0 s) : Kept s0 (yieldCells s) := by
  unfold yieldCells
  exact (by extract_lets x0 x1 x2; have h3 : Kept s0 x2 := (kept_mk h); exact (kept_State_put (kept_State_put (kept_State_put (kept_State_put h3)))))

theorem kept_yieldPick {s0 s : State} (h : Kept s0 s) : Kept s0 (yieldPick s) := by
  unfold yieldPick
  exact (by extract_lets x0 x5 x10 x11; have h1 : Kept s0 x0 := (kept_foldl (kept_setTwin h) fun _ _ k4 => (kept_setLaneState k4)); (try clear_value x0); have h6 : Kept s0 x5 := (kept_foldl (kept_State_put h1) fun _ _ k9 => (kept_modEng k9)); (try clear_value x5); exact (by split; exacts [(kept_ite (kept_mk h6) h), h]))

theorem kept_twinPick {s0 s : State} (h : Kept s0 s) : Kept s0 (twinPick s) := by
  unfold twinPick
  exact (by extract_lets x0 x1 x2 x3; have h4 : Kept s0 x3 := (kept_mk h); exact (kept_ite h (kept_ite (kept_emit h4) h4)))

end Sys2Proof.Machine
end

