-- ==== Sys2Proof/Laws/KeptWeave.lean ====
section
/-! SUPPORT. What every operation and every command keeps: reed voting and the image banks. -/

namespace Sys2Proof.Machine

set_option Elab.async false

theorem kept_commitRecord {s0 s : State} (h : Kept s0 s) {a0 : Nat} {a1 : Rec} : Kept s0 (commitRecord a0 a1 s) := by
  unfold commitRecord
  exact (by extract_lets x0 x1 x2 x4; have h3 : Kept s0 x2 := (kept_ite h (kept_mk h)); (try clear_value x2); exact (kept_ite (kept_commitEdge h3) (kept_ite (kept_commitRing h3) (kept_ite (kept_mk h3) (kept_raiseF h3)))))

theorem kept_dropRecs {s0 s : State} (h : Kept s0 s) {a0 : Nat} {a1 : Nat} : Kept s0 (dropRecs a0 a1 s) := by
  unfold dropRecs
  exact (kept_foldl h fun _ _ k2 => (kept_modEng k2))

theorem kept_probationCheck {s0 s : State} (h : Kept s0 s) {a0 : Nat} {a1 : Nat} {a2 : Option Rec} : Kept s0 (probationCheck a0 a1 a2 s) := by
  unfold probationCheck
  exact (kept_ite (kept_failAttempt h) h)

theorem kept_commitVote {s0 s : State} (h : Kept s0 s) {a0 a1 : Nat} : Kept s0 (commitVote a0 a1 s) := by
  unfold commitVote
  extract_lets c0 rs
  have h0 : Kept s0 c0 := kept_voteChecks h
  split
  · exact kept_dropRecs h0
  · split
    · exact kept_stopUnvoted (kept_dropRecs h0)
    · split
      · exact kept_dropRecs (kept_clusterFault h0)
      · extract_lets s1 s2 s3
        have h2 : Kept s0 s2 := kept_dropRecs (kept_probationCheck h0)
        have h3 : Kept s0 s3 := by
          unfold s3
          split
          · exact kept_commitRecord h2
          · exact h2
        exact kept_foldl h3 fun _ _ k => kept_minority k

theorem done_execRecordCommit {s : State} {a0 : Nat} {a1 : Nat} {a2 : Bool} : Done s (execRecordCommit a0 a1 a2 s) :=
  done_run fun _ _ h => (kept_ite h (kept_ite (kept_reedStop (kept_dropRecs h)) (kept_commitVote h)))

theorem done_execEngineIsolate {s : State} {a0 : Nat} : Done s (execEngineIsolate a0 s) :=
  done_run fun _ _ h => (kept_ite (kept_setEngState h) h)

theorem done_execRepairStart {s : State} {a0 : Nat} : Done s (execRepairStart a0 s) :=
  done_run fun s0 _ h => (by extract_lets x0; exact (by split; exacts [(by extract_lets x1 x2 x4 x6 x7; have h3 : Kept s0 x2 := (kept_State_put (kept_State_put (kept_State_put h))); (try clear_value x2); have h5 : Kept s0 x4 := (kept_setEngState (kept_State_put (kept_State_put h3))); (try clear_value x4); have h8 : Kept s0 x7 := (kept_mk h5); exact (kept_ite (kept_raiseF (kept_modClu h8)) h)), h]))

theorem done_execRepairVerified {s : State} {a0 : Nat} {a1 : List (Nat × Word)} : Done s (execRepairVerified a0 a1 s) :=
  done_run fun _ _ h => (by extract_lets x0 x1; exact (kept_ite h (kept_ite (kept_modEng (kept_failAttempt h)) (kept_ite h (kept_modClu (kept_State_put (kept_State_put (kept_modEng h))))))))

theorem done_execRepairRejoin {s : State} {a0 : Nat} : Done s (execRepairRejoin a0 s) :=
  done_run fun s0 _ h => (by extract_lets x0 x1 x2; have h3 : Kept s0 x2 := (kept_setVote (kept_setEngState (kept_clearAttempt h))); (try clear_value x2); exact (by split; exacts [h, (kept_ite h (kept_reedEvent (kept_State_count (kept_State_put h3))))]))

theorem kept_engctlWrite {s0 s : State} (h : Kept s0 s) {a0 : Word} : Kept s0 (engctlWrite a0 s) := by
  unfold engctlWrite
  exact (by extract_lets x0 x1 x2 x4 x6; have h3 : Kept s0 x2 := (kept_ite h (kept_capture h)); (try clear_value x2); have h5 : Kept s0 x4 := (kept_State_putB (kept_State_put h3)); (try clear_value x4); exact (kept_ite (kept_capture h) (kept_mk h5)))

theorem done_execHold {s : State} {a0 : Nat} : Done s (execHold a0 s) :=
  done_run fun _ _ h => (kept_engctlWrite h)

theorem done_execRelease {s : State} {a0 : Nat} : Done s (execRelease a0 s) :=
  done_run fun _ _ h => (kept_engctlWrite h)

theorem done_execRepair {s : State} {a0 : Nat} : Done s (execRepair a0 s) :=
  done_run fun _ _ h => (kept_engctlWrite h)

theorem done_execHalfretry {s : State} {a0 : Nat} {a1 : Bool} : Done s (execHalfretry a0 a1 s) :=
  done_run fun _ _ h => (kept_engctlWrite h)

theorem kept_engctlApply {s0 s : State} (h : Kept s0 s) : Kept s0 (engctlApply s) := by
  unfold engctlApply
  exact (by extract_lets x0 x1 x3; have h2 : Kept s0 x1 := (kept_mk h); exact (by split; exacts [h, (by extract_lets x4 x5 x6 x7 x9 x11 x12 x13; have h8 : Kept s0 x7 := (kept_stopEngine h2); (try clear_value x7); have h10 : Kept s0 x9 := (kept_State_put (kept_State_put (kept_State_put h2))); (try clear_value x9); exact (kept_ite (kept_ite (kept_raiseF (kept_State_put h8)) (kept_capture h2)) (kept_ite (kept_ite (kept_raiseF (kept_State_put h2)) (kept_capture h2)) (kept_ite (kept_ite (kept_mk h10) (kept_capture h2)) (kept_ite (kept_capture h2) (kept_modClu h2))))))]))

theorem done_execEngctlApply {s : State} : Done s (execEngctlApply s) :=
  done_run fun _ _ h => (kept_engctlApply h)

theorem done_execReedHalfTrip {s : State} {a0 : Nat} {a1 : Nat} : Done s (execReedHalfTrip a0 a1 s) :=
  done_run fun s0 _ h => (by extract_lets x0 x2 x4; have h1 : Kept s0 x0 := (kept_State_count (kept_State_put h)); (try clear_value x0); have h3 : Kept s0 x2 := (kept_modClu h1); (try clear_value x2); have h5 : Kept s0 x4 := (kept_reedEvent h3); (try clear_value x4); exact (kept_ite h (kept_ite (kept_reedStop h5) h5)))

theorem done_execHalfSelftestDone {s : State} {a0 : Nat} {a1 : Nat} {a2 : Bool} : Done s (execHalfSelftestDone a0 a1 a2 s) :=
  done_run fun s0 _ h => (by extract_lets x0; have h1 : Kept s0 x0 := (kept_modClu h); (try clear_value x0); exact (kept_ite h (kept_ite h1 (kept_raiseF h1))))

theorem done_execHalfRejoin {s : State} {a0 : Nat} {a1 : Nat} : Done s (execHalfRejoin a0 a1 s) :=
  done_run fun _ _ h => (by extract_lets x0 x1; exact (kept_ite (kept_reedEvent (kept_modClu (kept_State_put h))) h))

theorem done_execWardenStart {s : State} : Done s (execWardenStart s) :=
  done_run fun _ _ h => (by extract_lets x0; exact (kept_ite (kept_enumAdvance (kept_State_put h)) h))

theorem kept_wardenRestart {s0 s : State} (h : Kept s0 s) {a0 : Nat} : Kept s0 (wardenRestart a0 s) := by
  unfold wardenRestart
  exact (kept_raiseF (kept_setEvt (kept_State_count (kept_State_put h))))

theorem done_execWardenRestart {s : State} : Done s (execWardenRestart s) :=
  done_run fun _ _ h => (kept_ite (kept_wardenRestart h) h)

theorem done_execWardenWatchdog {s : State} : Done s (execWardenWatchdog s) :=
  done_run fun _ _ h => (kept_ite (kept_wardenRestart h) h)

theorem kept_auditCount {s0 s : State} (h : Kept s0 s) {a0 : Nat} {a1 : Nat} : Kept s0 (auditCount a0 a1 s) := by
  unfold auditCount
  exact (by extract_lets x0 x1 x2 x4 x6; have h3 : Kept s0 x2 := (kept_modClu (kept_mk h)); (try clear_value x2); have h5 : Kept s0 x4 := (kept_State_countWrap h3); (try clear_value x4); exact (kept_ite (kept_mk h5) h3))

theorem done_execAuditBlock {s : State} {a0 : Nat} {a1 : Nat} : Done s (execAuditBlock a0 a1 s) :=
  done_run fun s0 _ h => (by extract_lets x0 x1 x5; have h2 : ∀ v3, Kept s0 v3 → Kept s0 (x1 v3) := (by intro v3 k4; unfold x1; exact (kept_setEvt (kept_State_count k4))); have h6 : Kept s0 x5 := (kept_auditCount h); (try clear_value x5); exact (kept_ite h (kept_ite (kept_ite h6 (kept_minority (h2 _ h6))) (kept_ite (kept_minority (h2 _ h6)) (kept_ite (kept_minority (h2 _ h6)) (h2 _ h6))))))

theorem kept_wardenIrqIn {s0 s : State} (h : Kept s0 s) {a0 : Nat} : Kept s0 (wardenIrqIn a0 s) := by
  unfold wardenIrqIn
  exact (by extract_lets x0 x2 x3 x5; have h1 : Kept s0 x0 := (kept_setEvt (kept_State_count h)); (try clear_value x0); have h4 : Kept s0 x3 := (kept_State_put (kept_State_put h)); (try clear_value x3); exact (kept_ite (kept_raiseF h1) (kept_mk h4)))

theorem done_execWardenIrqTake {s : State} {a0 : List (Nat × Word)} : Done s (execWardenIrqTake a0 s) :=
  done_run fun _ _ h => kept_ite (kept_mk (kept_State_put (f := WARDEN_STAT_IRQQ) (v := _) h)) h

theorem kept_wardenFwctlWrite {s0 s : State} (h : Kept s0 s) {a0 : Word} : Kept s0 (wardenFwctlWrite a0 s) := by
  have act : ∀ t : State, Kept s0 t → Kept s0 (wardenRestart 3 ({ (t.put WARDEN_FWVER_VER t.warden.stbyVer) with
      warden := { t.warden with svn := t.warden.stbySvn, stby := [] } }.put WARDEN_STAT_STBY 0 |>.put WARDEN_FWSTBYV_VER 0)) := fun t ht =>
    kept_wardenRestart (kept_State_put (kept_State_put (kept_mk (kept_State_put (f := WARDEN_FWVER_VER) (v := t.warden.stbyVer) ht)
      (stby := fun _ => wf_nil))))
  have drop : ∀ t : State, Kept s0 t → Kept s0 { (t.put WARDEN_STAT_STBY 0).put WARDEN_FWSTBYV_VER 0 with
      warden := { t.warden with stby := [], verifying := false } } := fun t ht =>
    kept_mk (kept_State_put (f := WARDEN_FWSTBYV_VER) (v := 0) (kept_State_put (f := WARDEN_STAT_STBY) (v := 0) ht)) (stby := fun _ => wf_nil)
  have chk : ∀ t : State, Kept s0 t → Kept s0 { t with warden := { t.warden with verifying := true } } := fun t ht => kept_mk ht
  unfold wardenFwctlWrite
  refine kept_ite (kept_capture h) ?_
  have h1 : Kept s0 (if a0.toNat / 8 = 0 then s else capture WARDEN_FWCTL_VERIFY.addr 2 s) := kept_ite h (kept_capture h)
  generalize (if a0.toNat / 8 = 0 then s else capture WARDEN_FWCTL_VERIFY.addr 2 s) = s1 at h1 ⊢
  have h2 : Kept s0 (if a0.getLsbD 0 then { s1 with warden := { s1.warden with verifying := true } } else s1) := kept_ite (chk _ h1) h1
  exact kept_ite (drop _ (kept_ite (act _ h2) h2)) (kept_ite (act _ h2) h2)

theorem done_execWardenFwVerify {s : State} : Done s (execWardenFwVerify s) :=
  done_run fun _ _ h => (kept_wardenFwctlWrite h)

theorem done_execWardenFwActivate {s : State} : Done s (execWardenFwActivate s) :=
  done_run fun _ _ h => (kept_wardenFwctlWrite h)

theorem done_execWardenFwErase {s : State} : Done s (execWardenFwErase s) :=
  done_run fun _ _ h => (kept_wardenFwctlWrite h)

theorem done_execWardenFwstby {s : State} : Done s (execWardenFwstby s) :=
  done_run fun s0 _ h => (by extract_lets x0 x1 x2 x4 x5; have h3 : Kept s0 x2 := (kept_State_put (kept_State_put h)); (try clear_value x2); have h6 : Kept s0 x5 := (kept_mk h3); exact (kept_ite h (kept_raiseF (kept_setEvt h6))))

theorem kept_wardenBulk {s0 s : State} (h : Kept s0 s) {a0 : Nat} {a1 : List Byte} : Kept s0 (wardenBulk a0 a1 s) := by
  unfold wardenBulk
  split
  · exact h
  · exact kept_mk (kept_State_put (f := WARDEN_FWSTBYV_VER) (v := 0) (kept_State_put (f := WARDEN_STAT_STBY) (v := 1) h))
      (stby := fun i => wf_setBytes i)

theorem kept_refreshBanks {s0 s : State} (h : Kept s0 s) : Kept s0 (refreshBanks s) := by
  unfold refreshBanks
  exact (kept_foldl h fun _ _ k2 => (by split; exacts [(kept_State_put (kept_State_put (kept_State_put k2))), (by extract_lets x3; exact (kept_State_putB (kept_State_putB (kept_State_putB k2))))]))

theorem kept_clockTo {s0 s : State} (h : Kept s0 s) {a0 : Nat} {a1 : Nat} : Kept s0 (clockTo a0 a1 s) := by
  unfold clockTo
  exact (kept_foldl h fun _ _ k2 => (kept_landDue (kept_modEng k2)))

theorem kept_jobsEnded {s0 s : State} (h : Kept s0 s) {a0 : Nat} : Kept s0 (jobsEnded a0 s) := by
  unfold jobsEnded
  exact (by extract_lets x0; exact (by split; exacts [(by split; exacts [(kept_ite (kept_modClu h) h), h]), h]))

theorem kept_parkAll {s0 s : State} (h : Kept s0 s) {a0 : Nat} : Kept s0 (parkAll a0 s) := by
  unfold parkAll
  exact (kept_foldl (kept_jobsEnded h) fun _ _ k2 => (kept_modEng k2))

theorem kept_runJob {s0 s : State} (h : Kept s0 s) {a0 : Nat} {a1 : Nat} : Kept s0 (runJob a0 a1 s) := by
  unfold runJob
  exact (by split; exacts [h, (kept_ite h (kept_foldl h fun _ _ k2 => (kept_State_put (kept_modEng k2))))])

theorem kept_startHeddle {s0 s : State} (h : Kept s0 s) {a0 : Nat} {a1 : Nat} : Kept s0 (startHeddle a0 a1 s) := by
  unfold startHeddle
  exact (by split; exacts [h, (by extract_lets x0 x5; have h1 : Kept s0 x0 := (kept_foldl (kept_clockTo h) fun _ _ k4 => (kept_State_put (kept_State_put k4))); (try clear_value x0); have h6 : Kept s0 x5 := (kept_modClu h1); (try clear_value x5); exact (kept_ite (kept_foldl h6 fun _ _ k9 => (kept_modEng k9)) (kept_ite (kept_runJob h6) h6)))])

theorem kept_startSlack {s0 s : State} (h : Kept s0 s) {a0 : Nat} : Kept s0 (startSlack a0 s) := by
  unfold startSlack
  exact (by extract_lets x0; have h1 : Kept s0 x0 := (kept_modClu (kept_clockTo h)); (try clear_value x0); exact (by split; exacts [(by extract_lets x2; exact (kept_ite h1 (kept_runJob h1))), h1]))

theorem kept_bgWork {s0 s : State} (h : Kept s0 s) {a0 : Nat} {a1 : Heddle} : Kept s0 (bgWork a0 a1 s) := by
  unfold bgWork
  exact (by extract_lets x0 x1 x2 x3 x5 x6; have h4 : Kept s0 x3 := (kept_mk h); exact (kept_ite (kept_ite (kept_State_countWrap h4) h4) (kept_ite (kept_modClu (kept_State_put h)) h)))

theorem kept_overrun {s0 s : State} (h : Kept s0 s) {a0 : Nat} {a1 : Nat} : Kept s0 (overrun a0 a1 s) := by
  unfold overrun
  exact (by extract_lets x0 x1; have h2 : Kept s0 x1 := (by unfold x1; exact (kept_foldl h fun _ _ k5 => (by extract_lets x6; exact (kept_stopEngine (kept_ite (kept_mk k5) k5))))); (try clear_value x1); exact (kept_ite h2 (kept_voteChecks h2)))

theorem done_execHeddleEnd {s : State} {a0 : Nat} : Done s (execHeddleEnd a0 s) :=
  done_run fun s0 _ h => (kept_ite h (by split; exacts [h, (by split; exacts [h, (by extract_lets x0 x2; have h1 : Kept s0 x0 := (kept_clockTo h); (try clear_value x0); have h3 : Kept s0 x2 := (kept_ite (kept_overrun h1) (kept_ite (kept_parkAll h1) (kept_ite (kept_bgWork h1) h1))); (try clear_value x2); exact (kept_ite (kept_startHeddle h3) (kept_startSlack h3)))])]))

theorem kept_missDeadline {s0 s : State} (h : Kept s0 s) {a0 : Nat} {a1 : Nat} : Kept s0 (missDeadline a0 a1 s) := by
  unfold missDeadline
  exact (by extract_lets x0; have h1 : Kept s0 x0 := (kept_State_put (kept_State_put (kept_State_count h))); (try clear_value x0); exact (kept_ite h (kept_raiseF (kept_setEvt (kept_modClu h1)))))

theorem done_execBgDeadline {s : State} {a0 : Nat} {a1 : Nat} : Done s (execBgDeadline a0 a1 s) :=
  done_run fun _ _ h => (by split; exacts [(kept_ite (kept_missDeadline h) h), h])

theorem kept_jobPeriod {s0 s : State} (h : Kept s0 s) {a0 : Nat} {a1 : Job} : Kept s0 (jobPeriod a0 a1 s) := by
  unfold jobPeriod
  exact (by extract_lets x0 x1; have h2 : Kept s0 x1 := (kept_ite (kept_foldl (kept_missDeadline h) fun _ _ k5 => (kept_modEng k5)) h); (try clear_value x1); exact (kept_ite h (kept_modClu h2)))

theorem kept_jobPeriods {s0 s : State} (h : Kept s0 s) {a0 : Nat} : Kept s0 (jobPeriods a0 s) := by
  unfold jobPeriods
  exact (by split; exacts [h, (kept_ite h (kept_foldl h fun _ _ k2 => (kept_jobPeriod k2)))])

theorem kept_clusterEnd {s0 s : State} (h : Kept s0 s) {a0 : Nat} : Kept s0 (clusterEnd a0 s) := by
  unfold clusterEnd
  exact (by extract_lets x0 x2 x3 x8; have h1 : Kept s0 x0 := (kept_parkAll (kept_clockTo h)); (try clear_value x0); have h4 : Kept s0 x3 := (kept_foldl h1 fun _ _ k7 => (kept_modEng k7)); (try clear_value x3); exact (kept_modClu (kept_mk h4)))

theorem kept_clusterStart {s0 s : State} (h : Kept s0 s) {a0 : Nat} : Kept s0 (clusterStart a0 s) := by
  unfold clusterStart
  exact (by extract_lets x0 x1 x6; have h2 : Kept s0 x1 := (kept_foldl h fun _ _ k5 => (kept_State_put k5)); (try clear_value x1); exact (kept_startHeddle (kept_jobPeriods (kept_modClu h2))))

theorem kept_startClusters {s0 s : State} (h : Kept s0 s) : Kept s0 (startClusters s) := by
  unfold startClusters
  exact (by extract_lets x0; exact (kept_clusterStart (kept_clusterStart (kept_clusterStart (kept_clusterStart (kept_mk h))))))

theorem kept_resetContexts {s0 s : State} (h : Kept s0 s) : Kept s0 (resetContexts s) := by
  unfold resetContexts
  exact (kept_mk h)

theorem kept_engineRuns {s0 s : State} (h : Kept s0 s) {a0 : Nat} : Kept s0 (engineRuns a0 s) := by
  unfold engineRuns
  exact (by extract_lets x0; have h1 : Kept s0 x0 := (kept_setEngState (kept_State_put h)); (try clear_value x0); exact (kept_State_put h1))

theorem kept_clusterMode {s0 s : State} (h : Kept s0 s) {a0 : Nat} : Kept s0 (clusterMode a0 s) := by
  unfold clusterMode
  exact (by extract_lets x0; exact (kept_ite h (kept_ite (kept_reedStop h) (kept_State_put h))))

theorem kept_refuseSwitch {s0 s : State} (h : Kept s0 s) {a0 : Nat} {a1 : Nat} : Kept s0 (refuseSwitch a0 a1 s) := by
  unfold refuseSwitch
  exact (by extract_lets x0 x1; have h2 : Kept s0 x1 := (kept_mk h); exact (kept_raiseF (kept_setEvt (kept_State_put (kept_State_put (kept_State_put h2))))))

theorem kept_refuseDue {s0 s : State} (h : Kept s0 s) : Kept s0 (refuseDue s) := by
  unfold refuseDue
  exact (by split; exacts [(kept_refuseSwitch h), h])

theorem kept_startFallback {s0 s : State} (h : Kept s0 s) {a0 : Nat} : Kept s0 (startFallback a0 s) := by
  unfold startFallback
  extract_lets restart s1 s2 src wv s3 b s4 st s5 s6 s7
  have h2 : Kept s0 s2 := kept_foldl (kept_foldl (kept_refuseDue h) fun _ _ k => kept_abandonAttempt k) fun _ _ k =>
    kept_ite (kept_engineRuns k) k
  clear_value s2
  have h3 : Kept s0 s3 := kept_resetContexts (kept_mk h2)
  clear_value s3
  have h5 : Kept s0 s5 := kept_State_put (kept_State_put (kept_State_put (kept_State_put (kept_State_put (kept_State_put h3)))))
  clear_value s5
  have h6 : Kept s0 s6 := kept_foldl h5 fun _ _ k => kept_State_put k
  clear_value s6
  have h7 : Kept s0 s7 := kept_mk h6
  clear_value s7
  exact kept_foldl (kept_raiseF (kept_setEvt h7)) fun _ _ k => kept_clusterMode k

theorem done_execFallbackStart {s : State} : Done s (execFallbackStart s) :=
  done_run fun _ _ h => (by split; exacts [(kept_ite (kept_startClusters (kept_startFallback h)) h), h])

theorem done_execFallbackRampDone {s : State} : Done s (execFallbackRampDone s) :=
  done_run fun _ _ h => (by extract_lets x0; exact (kept_ite (kept_assertOpen (kept_mk h)) h))

theorem done_execFallbackBlock {s : State} : Done s (execFallbackBlock s) :=
  done_run fun _ _ h => (by extract_lets x0; exact (kept_ite (kept_mk h) h))

theorem kept_fallbackPick {s0 s : State} (h : Kept s0 s) : Kept s0 (fallbackPick s) := by
  unfold fallbackPick
  exact (by extract_lets x0; exact (kept_ite (kept_mk h) h))

theorem kept_modBank {s0 s : State} (h : Kept s0 s) {a0 : Nat} {a1 : Bank → Bank}
    (hb : ∀ b, Memory.wf b.content → Memory.wf (a1 b).content := by intro b hb; first | exact hb | exact wf_nil) : Kept s0 (modBank a0 a1 s) := by
  refine kept_mk h (banks := fun i b hm => ?_)
  obtain ⟨j, hj, rfl⟩ := List.mem_iff_getElem.1 hm
  simp only [modBank, List.getElem_modify]
  have : Memory.wf (s.weave.banks[j]'(by simpa [modBank] using hj)).content := i _ (List.getElem_mem _)
  split
  · exact hb _ this
  · exact this

theorem kept_putBankId {s0 s : State} (h : Kept s0 s) {a0 : Nat} {a1 : Option Image} : Kept s0 (putBankId a0 a1 s) := by
  unfold putBankId
  exact (by extract_lets x0 x1 x2; have h3 : Kept s0 x2 := (kept_State_put (kept_State_put h)); (try clear_value x2); exact (kept_foldl h3 fun _ _ k6 => (kept_State_put k6)))

theorem kept_clearBank {s0 s : State} (h : Kept s0 s) {a0 : Nat} {a1 : Nat} : Kept s0 (clearBank a0 a1 s) := by
  unfold clearBank
  exact (kept_refreshBanks (kept_putBankId (kept_State_put (kept_modBank h))))

theorem kept_weaveBulk {s0 s : State} (h : Kept s0 s) {a0 a1 a2 : Nat} {a3 : List Byte} : Kept s0 (weaveBulk a0 a1 a2 a3 s) := by
  unfold weaveBulk
  extract_lets st s1 s2
  have h1 : Kept s0 s1 := kept_ite h (kept_clearBank h)
  have h2 : Kept s0 s2 := kept_modBank h1 fun b hb => wf_setBytes hb
  exact kept_ite (kept_setEvt h) (kept_State_put (kept_State_put h2))

theorem kept_weaveCtlWrite {s0 s : State} (h : Kept s0 s) {a0 : Word} : Kept s0 (weaveCtlWrite a0 s) := by
  unfold weaveCtlWrite
  exact (by extract_lets x0 x1 x2 x3 x5; have h4 : Kept s0 x3 := (kept_State_put (kept_ite h (kept_capture h))); (try clear_value x3); have h6 : Kept s0 x5 := (kept_ite (kept_State_put h4) h4); (try clear_value x5); exact (kept_ite (kept_capture h) (kept_ite (kept_modBank (kept_State_put (kept_State_put (kept_clearBank h6)))) h6)))

theorem done_execWeaveVerify {s : State} {a0 : Nat} : Done s (execWeaveVerify a0 s) :=
  done_run fun _ _ h => (kept_weaveCtlWrite h)

theorem done_execWeaveErase {s : State} {a0 : Nat} : Done s (execWeaveErase a0 s) :=
  done_run fun _ _ h => (kept_weaveCtlWrite h)

theorem done_execImageVerified {s : State} {a0 : Nat} {a1 : OpenSections} : Done s (execImageVerified a0 a1 s) := by
  refine done_run fun s0 s h => ?_
  refine kept_ite h ?_
  extract_lets img cause _ t s1 s2 s3
  clear_value img cause
  have ht : Kept s0 t := kept_mk h
  clear_value t
  have h1 : Kept s0 s1 := kept_State_put (kept_State_put (kept_modBank ht))
  clear_value s1
  have h2 : Kept s0 s2 := kept_loadMode (kept_refreshBanks (kept_putBankId h1))
  clear_value s2
  have h3 : Kept s0 s3 := kept_raiseF (kept_setEvt h2)
  clear_value s3
  exact kept_ite (kept_ite (kept_stopPartnerLanes (kept_twinArrives h3)) h3) (kept_raiseF (kept_setEvt (kept_State_put (kept_State_put ht))))

theorem kept_preload {s0 s : State} (h : Kept s0 s) {a0 : Image} : Kept s0 (preload a0 s) := by
  unfold preload
  exact (kept_foldl h fun _ _ k2 => (kept_modEng k2))

theorem kept_preloadHot {s0 s : State} (h : Kept s0 s) {a0 : Nat} {a1 : Bool} : Kept s0 (preloadHot a0 a1 s) := by
  unfold preloadHot
  exact (by split; exacts [(kept_ite h (kept_preload h)), h])

theorem kept_hostCancel {s0 s : State} (h : Kept s0 s) : Kept s0 (hostCancel s) := by
  unfold hostCancel
  exact (by extract_lets x0; exact (kept_cancelSwitch (kept_mk h)))

theorem kept_swctlWrite {s0 s : State} (h : Kept s0 s) {a0 : Nat} {a1 : Word} : Kept s0 (swctlWrite a0 a1 s) := by
  unfold swctlWrite
  exact (by extract_lets x0 x1 x3 x5 x7 x8 x9 x10 x11 x13; have h2 : Kept s0 x1 := (kept_ite h (kept_capture h)); (try clear_value x1); have h4 : Kept s0 x3 := (kept_State_put (kept_State_put (kept_State_put h2))); (try clear_value x3); have h6 : Kept s0 x5 := (kept_ite (kept_hostCancel h4) h4); (try clear_value x5); have h12 : Kept s0 x11 := (kept_State_put h6); (try clear_value x11); exact (kept_ite (kept_capture h) (kept_ite h6 (by split; exacts [(kept_refuseSwitch h12), (kept_ite (kept_refuseSwitch h12) (kept_preloadHot (kept_State_put (kept_State_put (kept_State_put (kept_mk h12))))))]))))

theorem done_execSwitchGo {s : State} {a0 : Word} {a1 : Nat} : Done s (execSwitchGo a0 a1 s) :=
  done_run fun _ _ h => (kept_swctlWrite h)

theorem done_execSwitchCancel {s : State} : Done s (execSwitchCancel s) :=
  done_run fun _ _ h => (kept_swctlWrite h)

theorem done_execSwitchCheck {s : State} : Done s (execSwitchCheck s) :=
  done_run fun s0 _ h => (by split; exacts [h, (by extract_lets x0 x1; have h2 : Kept s0 x1 := (kept_State_put (kept_State_count (kept_mk h))); (try clear_value x1); exact (kept_ite h (kept_ite (kept_ite (kept_refuseSwitch h) (kept_raiseF (kept_setEvt h2))) (by split; exacts [(kept_refuseSwitch h), (kept_preloadHot (kept_mk h))]))))])

theorem kept_discardParams {s0 s : State} (h : Kept s0 s) : Kept s0 (discardParams s) := by
  unfold discardParams
  exact (by extract_lets x0 x1; exact (kept_foldl (kept_mk h) fun _ _ k4 => (by extract_lets x5; exact (kept_raiseF (kept_setEvt (kept_State_count (kept_State_put (kept_State_put k4))))))))

theorem kept_adcRefresh {s0 s : State} (h : Kept s0 s) : Kept s0 (adcRefresh s) := by
  unfold adcRefresh
  exact (by split; exacts [h, (kept_foldl h fun _ _ k2 => (kept_State_putB (kept_State_putB (kept_State_putB k2))))])

theorem kept_coldSwitch {s0 s : State} (h : Kept s0 s) {a0 : Image} {a1 : Nat} {a2 : Bool} : Kept s0 (coldSwitch a0 a1 a2 s) := by
  unfold coldSwitch
  extract_lets d w s1 half w1 wv s2
  have h1 : Kept s0 s1 := kept_ite h (kept_mk (kept_discardParams h))
  clear_value s1
  have h2 : Kept s0 s2 := kept_edgeStop (kept_mk h1)
  exact kept_refreshBanks (kept_State_put (kept_State_put (kept_State_put h2)))

theorem kept_hotSwitch {s0 s : State} (h : Kept s0 s) {a0 : Image} : Kept s0 (hotSwitch a0 s) := by
  unfold hotSwitch
  exact kept_startClusters (kept_refreshBanks (kept_adcRefresh (kept_foldl (kept_mk h) fun _ _ k => kept_State_put k)))

theorem done_execWeaveSwitch {s : State} : Done s (execWeaveSwitch s) := by
  refine done_run fun s0 s h => ?_
  split
  · exact h
  split
  · exact h
  refine kept_ite h ?_
  extract_lets ran old compat s1 s2 st s3 s4 w4 s5
  have h1 : Kept s0 s1 := kept_ite (kept_State_put h) h
  clear_value s1
  have h2 : Kept s0 s2 := kept_State_put (kept_State_put (kept_State_put h1))
  clear_value s2
  have h3 : Kept s0 s3 := kept_State_put (kept_State_put h2)
  clear_value s3
  have h4 : Kept s0 s4 := kept_raiseF (kept_setEvt (kept_State_putB (kept_State_put h3)))
  clear_value s4
  have h5 : Kept s0 s5 := kept_foldl (kept_resetContexts (kept_mk h4)) fun _ _ k => kept_modClu k
  clear_value s5
  exact kept_ite (kept_coldSwitch h5) (kept_hotSwitch h5)

theorem kept_clearCellPage {s0 s : State} (h : Kept s0 s) {a0 : Nat} : Kept s0 (clearCellPage a0 s) := by
  unfold clearCellPage
  exact (kept_foldl h fun _ _ k2 => (kept_State_setRaw k2))

theorem kept_applyMap {s0 s : State} (h : Kept s0 s) {a0 : Image} : Kept s0 (applyMap a0 s) := by
  unfold applyMap
  exact (kept_stopPartnerLanes (kept_foldl h fun _ _ k2 => (by extract_lets x3 x4; have h5 : Kept s0 x4 := (kept_State_putB (kept_State_putB (kept_State_put k2))); (try clear_value x4); exact (kept_ite (kept_clearCellPage (kept_setCellState (kept_modCell h5))) (kept_ite (kept_setCellState (kept_noReference h5)) h5)))))

theorem kept_idleRun {s0 s : State} (h : Kept s0 s) : Kept s0 (idleRun s) := by
  unfold idleRun
  exact (kept_foldl h fun _ _ k2 => (kept_ite (kept_engineRuns k2) k2))

theorem kept_loadLoom {s0 s : State} (h : Kept s0 s) {a0 : Image} : Kept s0 (loadLoom a0 s) := by
  unfold loadLoom
  extract_lets s1 no wv
  have h1 : Kept s0 s1 := kept_foldl (kept_foldl h fun _ _ k => kept_clearAttempt k) fun t x k => by
    have h2 : Kept s0 ((modEng x (loadEngine a0 t.weave.half x) ((((t.put (REED_ENGST_RETIRED x) 0).put (REED_ENGST_HELD x) 0).put
      (REED_ENGST_FAILS x) 0).put (LOOM_STAT_FBROM x) 0)).put (LOOM_STAT_HALF x) t.weave.half) :=
      kept_State_put (kept_modEng (kept_State_put (kept_State_put (kept_State_put (kept_State_put k)))))
    exact kept_ite h2 (kept_engineRuns h2)
  clear_value s1
  exact kept_foldl (kept_mk h1) fun _ _ k => kept_State_put k

theorem done_execColdLoadDone {s : State} : Done s (execColdLoadDone s) :=
  done_run fun s0 _ h => (by split; exacts [(by extract_lets x0 x2 x7; have h1 : Kept s0 x0 := (kept_loadLoom (kept_applyMap h)); (try clear_value x0); have h3 : Kept s0 x2 := (kept_foldl h1 fun _ _ k6 => (kept_State_setRaw k6)); (try clear_value x2); exact (kept_mk h3)), h])

theorem kept_loadTables {s0 s : State} (h : Kept s0 s) : Kept s0 (loadTables s) := by
  unfold loadTables
  exact (by extract_lets x0 x1; exact (kept_mk h))

theorem kept_imageStart {s0 s : State} (h : Kept s0 s) : Kept s0 (imageStart s) := by
  unfold imageStart
  exact (by extract_lets x0 x1 x2 x4; have h3 : Kept s0 x2 := (kept_idleRun (kept_mk h)); (try clear_value x2); have h5 : Kept s0 x4 := (kept_loadTables (kept_refreshBanks (kept_State_put (kept_State_put (kept_adcRefresh h3))))); (try clear_value x4); exact (by split; exacts [h, (by extract_lets x6 x11 x16; have h7 : Kept s0 x6 := (kept_foldl (kept_edgeStart h5) fun _ _ k10 => (kept_ite (kept_putSetpoint k10) (kept_followCount k10))); (try clear_value x6); have h12 : Kept s0 x11 := (kept_foldl h7 fun _ _ k15 => (kept_defaultOwners k15)); (try clear_value x11); have h17 : Kept s0 x16 := (kept_ite (kept_twinArrives h12) (kept_ite h12 (kept_setTwin h12))); (try clear_value x16); exact (by split; exacts [(kept_enumAdvance (kept_startFallback h17)), (kept_enumAdvance h17)]))]))

theorem kept_paramWrite {s0 s : State} (h : Kept s0 s) {a0 : Nat} {a1 : Word} : Kept s0 (paramWrite a0 a1 s) := by
  unfold paramWrite
  exact (by extract_lets x0 x1 x3 x8; have h2 : Kept s0 x1 := (kept_State_put h); (try clear_value x1); have h4 : ∀ v5 v6, Kept s0 v6 → Kept s0 (x3 v5 v6) := (by intro v5 v6 k7; unfold x3; exact (kept_raiseF (kept_setEvt (kept_State_count (kept_State_put (kept_State_put k7)))))); exact (by split; exacts [(h4 _ _ h2), (kept_ite (h4 _ _ h2) (kept_ite (h4 _ _ h2) (kept_mk h2)))]))

theorem kept_partnerCells {s0 s : State} (h : Kept s0 s) : Kept s0 (partnerCells s) := by
  unfold partnerCells
  exact (kept_foldl h fun _ _ k2 => (by extract_lets x3; exact (kept_decideOwners k2)))

theorem kept_joinStart {s0 s : State} (h : Kept s0 s) : Kept s0 (joinStart s) := by
  unfold joinStart
  exact (by split; exacts [h, (by extract_lets x0 x1; have h2 : Kept s0 x1 := (kept_partnerCells (kept_State_put (kept_applyMap (kept_mk h)))); (try clear_value x1); exact (kept_enumAdvance (kept_foldl h2 fun _ _ k5 => (kept_ite (kept_startEnum k5) k5))))])

theorem kept_takeWarp {s0 s : State} (h : Kept s0 s) {a0 : WarpCopy} : Kept s0 (takeWarp a0 s) := by
  unfold takeWarp
  extract_lets x0 x1
  have h1 : Kept s0 x1 := kept_mk h
  clear_value x1
  exact kept_State_putB (kept_State_put (kept_State_put h1))

theorem done_execTwinHandshakeDone {s : State} {a0 : TwinPeer} : Done s (execTwinHandshakeDone a0 s) :=
  done_run fun s0 s h => by
    extract_lets p _ s1 runs s2 _ s3
    have hp : Kept s0 p := kept_putTwin h
    clear_value p
    have h1 : Kept s0 s1 := kept_mk hp
    clear_value s1
    have h2 : Kept s0 s2 := kept_ite (kept_takeWarp h1) h1
    clear_value s2
    have h3 : Kept s0 s3 := kept_setTwin (kept_mk h2)
    clear_value s3
    exact kept_ite h (kept_ite (kept_mk h3)
      (kept_ite (kept_joinStart (kept_setTwin (kept_mk h1))) (kept_ite (kept_setTwin (kept_mk h1)) h1)))

theorem kept_takeCopy {s0 s : State} (h : Kept s0 s) {a0 : TwinCopy} : Kept s0 (takeCopy a0 s) := by
  unfold takeCopy
  extract_lets eng clu cell s1 _ s2
  have he : ∀ t k, Kept s0 t → Kept s0 (eng t k) := by
    intro t k i
    unfold eng
    rcases a0.clusters[k / 3]? with _ | c
    · exact i
    · exact kept_modEng i
  have hc : ∀ t k, Kept s0 t → Kept s0 (clu t k) := by
    intro t k i
    unfold clu
    rcases a0.clusters[k]? with _ | c
    · exact i
    · exact kept_modClu i
  have hl : ∀ t k, Kept s0 t → Kept s0 (cell t k) := by
    intro t g i
    unfold cell
    rcases a0.dl[g]? with _ | d
    · exact i
    · exact kept_modCell i
  clear_value eng clu cell
  have h1 : Kept s0 s1 := kept_foldl (kept_foldl h fun t k i => he t k i) fun t k i => hc t k i
  clear_value s1
  have h2 : Kept s0 s2 := kept_mk h1
  exact kept_foldl (kept_takeWarp h2) fun t k i => hl t k i

theorem kept_takeEdges {s0 s : State} (h : Kept s0 s) {a0 : TwinCopy} : Kept s0 (takeEdges a0 s) := by
  unfold takeEdges
  extract_lets duty s1 _ s2
  have hd : ∀ t g, Kept s0 t → Kept s0 (duty t g) := by
    intro t g i
    unfold duty
    rcases a0.duties[g]? with _ | d
    · exact i
    · exact kept_modEdge i
  clear_value duty
  have h1 : Kept s0 s1 := kept_edgeStart h
  clear_value s1
  have h2 : Kept s0 s2 := kept_State_put (kept_mk h1)
  exact kept_foldl h2 fun t g i => hd t g i

theorem kept_joinRun {s0 s : State} (h : Kept s0 s) {a0 : TwinCopy} : Kept s0 (joinRun a0 s) := by
  unfold joinRun
  extract_lets s1 s2 srcw srcv s3
  have h1 : Kept s0 s1 := by
    unfold s1
    split
    · exact kept_loadLoom h
    · exact h
  clear_value s1
  have h2 : Kept s0 s2 := kept_idleRun (kept_takeEdges (kept_takeCopy h1))
  clear_value s2
  have h3 : Kept s0 s3 := kept_mk h2
  clear_value s3
  exact kept_ite h2 (kept_refreshBanks (kept_State_put (kept_State_put (kept_adcRefresh h3))))

theorem done_execTwinCopyVerified {s : State} {a0 : Bool} {a1 : TwinCopy} : Done s (execTwinCopyVerified a0 a1 s) :=
  done_run fun s0 _ h => (by extract_lets x0 x2; have h1 : Kept s0 x0 := (kept_putTwin (kept_ite (kept_joinRun h) h)); (try clear_value x0); exact (kept_ite h (kept_ite (kept_setTwin (kept_mk h1)) (kept_setTwin h))))

theorem done_execTwinProbationEnd {s : State} : Done s (execTwinProbationEnd s) :=
  done_run fun s0 _ h => (by extract_lets x0 x1 x3; have h2 : Kept s0 x1 := (kept_setTwin (kept_mk h)); (try clear_value x1); exact (kept_ite h (kept_ite (kept_State_put (kept_State_put (kept_mk h2))) h2)))

end Sys2Proof.Machine
end

