-- ==== Sys2Proof/Laws/KeptGrid.lean ====
section
/-! SUPPORT. What every operation and every command keeps: measurement and the grid functions. -/

namespace Sys2Proof.Machine

set_option Elab.async false

theorem kept_modCore {s0 s : State} (h : Kept s0 s) {a0 : Nat} {a1 : AdcCore → AdcCore} : Kept s0 (modCore a0 a1 s) := by
  unfold modCore
  exact (by extract_lets x0; exact (kept_mk h))

theorem kept_modIn {s0 s : State} (h : Kept s0 s) {a0 : Nat} {a1 : AdcIn → AdcIn} : Kept s0 (modIn a0 a1 s) := by
  unfold modIn
  exact (by extract_lets x0; exact (kept_mk h))

theorem kept_adcEvent {s0 s : State} (h : Kept s0 s) {a0 : Nat} {a1 : Nat} {a2 : Nat} {a3 : Nat} : Kept s0 (adcEvent a0 a1 a2 a3 s) := by
  unfold adcEvent
  exact (kept_raiseF (kept_setEvt h))

theorem kept_putResult {s0 s : State} (h : Kept s0 s) {a0 : Nat} {a1 : Word} : Kept s0 (putResult a0 a1 s) := by
  unfold putResult
  exact (kept_mk h)

theorem kept_landResult {s0 s : State} (h : Kept s0 s) {a0 : Nat} {a1 : Nat} {a2 : Word} : Kept s0 (landResult a0 a1 a2 s) := by
  unfold landResult
  exact (by extract_lets x0; have h1 : Kept s0 x0 := (kept_putResult h); (try clear_value x0); exact (kept_ite (kept_mk h1) h1))

theorem kept_correctedOne {s0 s : State} (h : Kept s0 s) {a0 : Nat} : Kept s0 (correctedOne a0 s) := by
  unfold correctedOne
  exact (by extract_lets x0 x1; exact (by split; exacts [(kept_putResult h), (by extract_lets x2 x3; exact (kept_putResult (kept_modIn h)))]))

theorem kept_corrected {s0 s : State} (h : Kept s0 s) : Kept s0 (corrected s) := by
  unfold corrected
  exact (kept_foldl h fun _ _ k2 => (kept_correctedOne k2))

theorem kept_startUrgent {s0 s : State} (h : Kept s0 s) {a0 : Nat} : Kept s0 (startUrgent a0 s) := by
  unfold startUrgent
  exact (kept_ite (kept_modCore h) h)

theorem kept_urgentRequest {s0 s : State} (h : Kept s0 s) {a0 : Nat} {a1 : Nat} : Kept s0 (urgentRequest a0 a1 s) := by
  unfold urgentRequest
  exact (kept_ite (kept_adcEvent (kept_State_count h)) (kept_startUrgent (kept_modCore h)))

theorem done_execSampleTrigger {s : State} {a0 : Nat} {a1 : Nat} : Done s (execSampleTrigger a0 a1 s) :=
  done_run fun s0 _ h => (by split; exacts [h, (by extract_lets x0 x1 x2; have h3 : Kept s0 x2 := (kept_modCore h); (try clear_value x2); exact (kept_ite (kept_converterFault (kept_recordViolation h)) (kept_ite h3 (kept_State_put (kept_State_count h3)))))])

theorem kept_rangeDown {s0 s : State} (h : Kept s0 s) {a0 : Nat} {a1 : Int} : Kept s0 (rangeDown a0 a1 s) := by
  unfold rangeDown
  exact (by split; exacts [h, (kept_ite (kept_modIn (kept_State_put h)) h)])

theorem kept_rangeTrack {s0 s : State} (h : Kept s0 s) {a0 : Nat} {a1 : Nat} {a2 : Int} {a3 : Int} : Kept s0 (rangeTrack a0 a1 a2 a3 s) := by
  unfold rangeTrack
  exact (by extract_lets x0 x1; have h2 : Kept s0 x1 := (kept_ite (kept_modIn h) h); (try clear_value x1); exact (kept_ite h2 (kept_modIn h2)))

theorem kept_rangePick {s0 s : State} (h : Kept s0 s) {a0 : Nat} : Kept s0 (rangePick a0 s) := by
  unfold rangePick
  exact (kept_foldl h fun _ _ k2 => (kept_modIn k2))

theorem kept_windowOut {s0 s : State} (h : Kept s0 s) {a0 : Nat} {a1 : Nat} {a2 : Int} : Kept s0 (windowOut a0 a1 a2 s).2 := by
  unfold windowOut
  exact (by extract_lets x0 x1 x2 x3 x4 x6; have h5 : Kept s0 x4 := (kept_State_putB h); (try clear_value x4); have h7 : Kept s0 x6 := (kept_setEvt (kept_State_put h5)); (try clear_value x6); exact (kept_ite2 h5 (kept_ite2 h7 (kept_raiseF (kept_modCore h7)))))

theorem kept_calResult {s0 s : State} (h : Kept s0 s) {a0 : Nat} {a1 : Nat} {a2 : Int} : Kept s0 (calResult a0 a1 a2 s) := by
  unfold calResult
  exact (by extract_lets x0; exact (kept_ite h (kept_modCore h)))

theorem kept_scheduledResult {s0 s : State} (h : Kept s0 s) {a0 : Nat} {a1 : Nat} {a2 : Int} {a3 : AdcRun} : Kept s0 (scheduledResult a0 a1 a2 a3 s) := by
  unfold scheduledResult
  exact (by extract_lets x0 x1 x2 x3 x4 x6 x7 x8 x9 x11; have h5 : Kept s0 x4 := (kept_ite (kept_rangeDown h) h); (try clear_value x4); have h10 : Kept s0 x9 := (kept_ite (kept_rangeTrack h5) h5); (try clear_value x9); exact (by split; rename_i w12 t13 q14; exact (fun k15 => (by extract_lets x16 x18 x20 x22; have h17 : Kept s0 x16 := (kept_ite (kept_calResult k15) k15); (try clear_value x16); have h19 : Kept s0 x18 := (kept_modIn h17); (try clear_value x18); have h21 : Kept s0 x20 := (kept_ite (kept_landResult h19) (kept_ite (kept_adcEvent h19) h19)); (try clear_value x20); have h23 : Kept s0 x22 := (kept_startUrgent (kept_modCore h21)); (try clear_value x22); exact (kept_ite (kept_ite (kept_startUrgent h23) h23) (kept_modCore h21)))) (kept_snd (kept_ite2 (kept_windowOut h10) h10) q14)))

theorem done_execRangeUp {s : State} {a0 : Nat} : Done s (execRangeUp a0 s) :=
  done_run fun _ _ h => (by extract_lets x0; exact (kept_ite (kept_modIn (kept_State_put h)) h))

theorem kept_calibrate {s0 s : State} (h : Kept s0 s) {a0 : Nat} : Kept s0 (calibrate a0 s) := by
  unfold calibrate
  exact (by extract_lets x0 x4 x5 x6 x7 x9; have h1 : ∀ v2, Kept s0 v2 → Kept s0 (x0 v2) := (by intro v2 k3; unfold x0; exact (kept_modCore k3)); have h8 : Kept s0 x7 := (kept_ite (kept_State_put h) (kept_adcEvent h)); (try clear_value x7); have h10 : Kept s0 x9 := (kept_ite (kept_State_put h8) (kept_adcEvent h8)); (try clear_value x9); exact (kept_ite (h1 _ h) (h1 _ (kept_State_putB h10))))

theorem done_execCalibrationInterval {s : State} : Done s (execCalibrationInterval s) :=
  done_run fun _ _ h => (kept_foldl h fun _ _ k2 => (kept_calibrate k2))

theorem kept_setLow {s0 s : State} (h : Kept s0 s) {a0 : Nat} {a1 : Bool} : Kept s0 (setLow a0 a1 s) := by
  unfold setLow
  exact (by extract_lets x0; exact (kept_mk h))

theorem kept_cmpTrip {s0 s : State} (h : Kept s0 s) {a0 : Nat} : Kept s0 (cmpTrip a0 s) := by
  unfold cmpTrip
  exact (by extract_lets x0 x1 x2 x3 x4 x6 x8; have h5 : Kept s0 x4 := (kept_State_count (kept_State_put h)); (try clear_value x4); have h7 : Kept s0 x6 := (kept_ite h5 (kept_State_put (kept_State_put (kept_State_put h5)))); (try clear_value x6); have h9 : Kept s0 x8 := (kept_raiseF (kept_setEvt h7)); (try clear_value x8); exact (kept_ite h (kept_urgentRequest (kept_ite (kept_blockTokens h9) h9))))

theorem kept_putFilter {s0 s : State} (h : Kept s0 s) {a0 : Nat} {a1 : CmpFilter} : Kept s0 (putFilter a0 a1 s) := by
  unfold putFilter
  exact (by extract_lets x0 x2; have h1 : Kept s0 x0 := (kept_State_putB h); (try clear_value x0); exact (kept_mk h1))

theorem kept_rampRestart {s0 s : State} (h : Kept s0 s) {a0 : Nat} {a1 : List Nat} : Kept s0 (rampRestart a0 a1 s) := by
  unfold rampRestart
  exact (kept_foldl h fun _ _ k2 => (by extract_lets x3; exact (kept_mk k2)))

theorem kept_clearLatch {s0 s : State} (h : Kept s0 s) {a0 : Nat} : Kept s0 (clearLatch a0 s) := by
  unfold clearLatch
  exact (kept_rampRestart (kept_State_put h))

theorem kept_cmpTrips {s0 s : State} (h : Kept s0 s) {a0 : Nat} {a1 : Nat} : Kept s0 (cmpTrips a0 a1 s) := by
  unfold cmpTrips
  exact (by split; exacts [h, (kept_cmpTrips (kept_cmpTrip h))])

theorem kept_sampleCmp {s0 s : State} (h : Kept s0 s) {a0 : Nat} {a1 : List Int} : Kept s0 (sampleCmp a0 a1 s) := by
  unfold sampleCmp
  exact (by extract_lets x0; exact (kept_cmpTrips (kept_putFilter h)))

theorem done_execFcmpTrip {s : State} {a0 : Nat} {a1 : List Int} : Done s (execFcmpTrip a0 a1 s) :=
  done_run fun _ _ h => (kept_ite (kept_sampleCmp h) h)

theorem done_execLatchRearm {s : State} {a0 : Nat} {a1 : List Int} : Done s (execLatchRearm a0 a1 s) :=
  done_run fun s0 _ h => (by extract_lets x0 x1 x3 x5; have h2 : Kept s0 x1 := (kept_sampleCmp h); (try clear_value x1); have h4 : Kept s0 x3 := (kept_ite h2 (kept_setLow h2)); (try clear_value x3); exact (kept_ite h4 (kept_clearLatch h4)))

theorem kept_tripclrWrite {s0 s : State} (h : Kept s0 s) {a0 : Word} : Kept s0 (tripclrWrite a0 s) := by
  unfold tripclrWrite
  exact (by extract_lets x0 x1 x2 x3 x8; have h4 : Kept s0 x3 := (kept_foldl h fun _ _ k7 => (kept_clearLatch k7)); (try clear_value x3); have h9 : Kept s0 x8 := (kept_ite h4 (kept_capture h4)); (try clear_value x8); exact (kept_ite h9 (kept_capture h9)))

theorem done_execTripclr {s : State} {a0 : Word} : Done s (execTripclr a0 s) :=
  done_run fun _ _ h => (kept_tripclrWrite h)

theorem kept_checkFailed {s0 s : State} (h : Kept s0 s) {a0 : Nat} {a1 : Nat} : Kept s0 (checkFailed a0 a1 s) := by
  unfold checkFailed
  exact (kept_raiseF (kept_setEvt (kept_State_put (kept_State_put h))))

theorem kept_checkSkipped {s0 s : State} (h : Kept s0 s) {a0 : Nat} {a1 : Bool} : Kept s0 (checkSkipped a0 a1 s) := by
  unfold checkSkipped
  exact (kept_raiseF (kept_State_count h))

theorem kept_inputTest {s0 s : State} (h : Kept s0 s) {a0 : Nat} {a1 : Nat} {a2 : List Int} : Kept s0 (inputTest a0 a1 a2 s) := by
  unfold inputTest
  exact (by extract_lets x0 x1 x2 x3 x4 x5 x6 x8 x9; have h7 : Kept s0 x6 := (kept_ite (kept_State_put h) (kept_checkFailed h)); (try clear_value x6); have h10 : Kept s0 x9 := (kept_putFilter h7); (try clear_value x9); exact (kept_ite (kept_checkSkipped h) (kept_ite (kept_cmpTrip h10) h10)))

theorem kept_snapshot {s0 s : State} (h : Kept s0 s) {a0 : Nat} {a1 : Nat} {a2 : Int} {a3 : Int} : Kept s0 (snapshot a0 a1 a2 a3 s) := by
  unfold snapshot
  exact (by extract_lets x0 x1; have h2 : Kept s0 x1 := (kept_ite (kept_rangeTrack h) h); (try clear_value x1); exact (kept_ite (kept_State_put (kept_State_put h2)) h2))

theorem kept_readback {s0 s : State} (h : Kept s0 s) {a0 : Nat} {a1 : Int} : Kept s0 (readback a0 a1 s) := by
  unfold readback
  exact (by extract_lets x0 x1 x3; have h2 : Kept s0 x1 := (kept_ite (kept_State_put h) (kept_checkFailed h)); (try clear_value x1); exact (by split; exacts [(kept_inputTest (kept_mk h2)), h2]))

theorem kept_urgentResult {s0 s : State} (h : Kept s0 s) {a0 : Nat} {a1 : Nat} {a2 : Int} : Kept s0 (urgentResult a0 a1 a2 s) := by
  unfold urgentResult
  exact (by extract_lets x0; have h1 : Kept s0 x0 := (kept_State_count (kept_modCore h)); (try clear_value x0); exact (by split; exacts [h, (kept_ite (kept_snapshot h1) (kept_readback h1))]))

theorem done_execAdcConversionDone {s : State} {a0 : Nat} {a1 : Nat} {a2 : Int} : Done s (execAdcConversionDone a0 a1 a2 s) :=
  done_run fun _ _ h => (by extract_lets x0; exact (kept_ite (kept_urgentResult h) (by split; exacts [(kept_scheduledResult h), h])))

theorem kept_startReadback {s0 s : State} (h : Kept s0 s) {a0 : Nat} : Kept s0 (startReadback a0 s) := by
  unfold startReadback
  exact (by extract_lets x0 x1; have h2 : Kept s0 x1 := (kept_urgentRequest h); (try clear_value x1); exact (kept_ite h2 (kept_checkSkipped h2)))

theorem done_execSelfCheck {s : State} {a0 : Nat} {a1 : Nat} {a2 : List Int} : Done s (execSelfCheck a0 a1 a2 s) :=
  done_run fun s0 _ h => (by extract_lets x0 x1 x2 x4; have h3 : Kept s0 x2 := (kept_ite (kept_mk h) (kept_ite h (kept_startReadback h))); (try clear_value x2); exact (kept_ite h3 (kept_ite (kept_mk h3) (kept_inputTest h3))))

theorem kept_checkAll {s0 s : State} (h : Kept s0 s) : Kept s0 (checkAll s) := by
  unfold checkAll
  exact (by extract_lets x0 x1; exact (kept_foldl (kept_mk h) fun _ _ k4 => (kept_startReadback k4)))

theorem kept_scctlWrite {s0 s : State} (h : Kept s0 s) {a0 : Word} : Kept s0 (scctlWrite a0 s) := by
  unfold scctlWrite
  exact (by extract_lets x0; exact (kept_unlessLocked h (fun _ k1 => (by extract_lets x3; have h4 : Kept s0 x3 := (kept_writeReg k1); (try clear_value x3); exact (kept_ite (kept_capture k1) (kept_ite (kept_checkAll h4) h4))))))

theorem done_execScGo {s : State} : Done s (execScGo s) :=
  done_run fun _ _ h => (kept_scctlWrite h)

theorem kept_fcmpCfgWrite {s0 s : State} (h : Kept s0 s) {a0 : Nat} {a1 : Word} : Kept s0 (fcmpCfgWrite a0 a1 s) := by
  unfold fcmpCfgWrite
  exact (by extract_lets x0 x1; exact (kept_ite (kept_unlessLocked h (fun _ k2 => (kept_capture k2))) (kept_writeReg h)))

theorem kept_scfailCleared {s0 s : State} (h : Kept s0 s) : Kept s0 (scfailCleared s) := by
  unfold scfailCleared
  exact (kept_State_put h)

theorem done_execBlankWindowOpen {s : State} {a0 : Nat} : Done s (execBlankWindowOpen a0 s) :=
  done_run fun s0 _ h => (by split; exacts [h, (by extract_lets x0 x1 x2 x3; have h4 : Kept s0 x3 := (kept_mk h); exact (kept_ite h (kept_State_count (kept_State_put (kept_State_put h4)))))])

theorem kept_blankPick {s0 s : State} (h : Kept s0 s) {a0 : Nat} : Kept s0 (blankPick a0 s) := by
  unfold blankPick
  exact (by extract_lets x0; exact (kept_mk h))

theorem done_execBlankWindowClose {s : State} {a0 : Nat} : Done s (execBlankWindowClose a0 s) :=
  done_run fun s0 _ h => (by extract_lets x0; exact (by split; exacts [h, (by extract_lets x1 x2 x4; have h3 : Kept s0 x2 := (kept_rampRestart (kept_State_put (kept_mk h))); (try clear_value x2); exact (kept_ite h (kept_foldl h3 fun _ _ k7 => (kept_raiseF (kept_setEvt (kept_State_count (kept_cmpTrip k7)))))))]))

theorem kept_freq10 {s0 s : State} (h : Kept s0 s) : Kept s0 (freq10 s) := by
  unfold freq10
  exact (by split; exacts [(by extract_lets x0 x1 x2 x3; exact (kept_ite (kept_mk h) (kept_State_put (kept_mk h))))])

theorem kept_halfSample {s0 s : State} (h : Kept s0 s) : Kept s0 (halfSample s) := by
  unfold halfSample
  exact (by extract_lets x0 x1 x2 x3; exact (kept_mk h))

theorem kept_checkSample {s0 s : State} (h : Kept s0 s) : Kept s0 (checkSample s) := by
  unfold checkSample
  exact (by extract_lets x0 x1 x2 x3 x4 x5 x6; exact (kept_ite h (kept_mk h)))

theorem kept_markPick {s0 s : State} (h : Kept s0 s) : Kept s0 (markPick s) := by
  unfold markPick
  exact (by extract_lets x0 x1; exact (kept_mk h))

theorem kept_meterPick {s0 s : State} (h : Kept s0 s) : Kept s0 (meterPick s) := by
  unfold meterPick
  exact (by extract_lets x0 x2 x3; have h1 : Kept s0 x0 := (kept_markPick h); (try clear_value x0); exact (kept_checkSample (kept_halfSample (kept_freq10 (kept_mk h1)))))

theorem kept_writeSet {s0 s : State} (h : Kept s0 s) {a0 : Nat} {a1 : MeterAcc} : Kept s0 (writeSet a0 a1 s) := by
  unfold writeSet
  exact (by extract_lets x0 x1 x2 x3 x4 x5 x6 x7 x8 x9; exact (kept_foldl h fun _ _ k12 => (kept_State_put k12)))

theorem kept_addEnergy {s0 s : State} (h : Kept s0 s) {a0 : Nat} {a1 : Rat} : Kept s0 (addEnergy a0 a1 s) := by
  unfold addEnergy
  exact (by extract_lets x0 x1; exact (kept_State_put (kept_State_put (kept_mk h))))

theorem kept_energyCycle {s0 s : State} (h : Kept s0 s) {a0 : MeterAcc} : Kept s0 (energyCycle a0 s) := by
  unfold energyCycle
  exact (by extract_lets x0 x1 x2 x3 x4 x5 x7; have h6 : Kept s0 x5 := (kept_addEnergy h); (try clear_value x5); exact (kept_addEnergy (kept_addEnergy h6)))

theorem kept_residual {s0 s : State} (h : Kept s0 s) {a0 : MeterAcc} : Kept s0 (residual a0 s) := by
  unfold residual
  exact (by extract_lets x0 x1 x2 x3 x4 x6; have h5 : Kept s0 x4 := (kept_mk h); have h7 : ∀ v8 v9, Kept s0 v9 → Kept s0 (x6 v8 v9) := (by intro v8 v9 k10; unfold x6; exact (kept_raiseF (kept_setEvt (kept_State_putB k10)))); exact (kept_ite (h7 _ _ h5) (kept_ite (h7 _ _ h5) h5)))

theorem done_execMeterWindowEnd {s : State} : Done s (execMeterWindowEnd s) :=
  done_run fun s0 _ h => (by extract_lets x0 x1 x3 x4 x5 x7 x8 x9 x11; have h2 : Kept s0 x1 := (kept_residual (kept_energyCycle (kept_setEvt (kept_writeSet h)))); (try clear_value x1); have h6 : Kept s0 x5 := (kept_mk h2); have h10 : Kept s0 x9 := (kept_setEvt (kept_writeSet (kept_mk h6))); (try clear_value x9); exact (kept_ite h (kept_ite h6 (kept_ite h10 (kept_setEvt (kept_writeSet (kept_mk h10)))))))

theorem kept_loRead {s0 s : State} (h : Kept s0 s) {a0 : Nat} {a1 : Nat} : Kept s0 (loRead a0 a1 s).2 := by
  unfold loRead
  exact (kept_loadShadow h)

theorem kept_eLoRead {s0 s : State} (h : Kept s0 s) {a0 : Nat} {a1 : Nat} : Kept s0 (eLoRead a0 a1 s).2 := by
  unfold eLoRead
  exact (kept_loRead h)

theorem done_execMeterELoRead {s : State} {a0 : Nat} {a1 : Nat} : Done s (execMeterELoRead a0 a1 s) :=
  done_run fun _ _ h => (by split; rename_i w0 t1 q2; exact (fun k3 => (kept_emit k3)) (kept_snd (kept_eLoRead h) q2))

theorem kept_pqSet {s0 s : State} (h : Kept s0 s) {a0 : Nat} {a1 : Option PqEvt} : Kept s0 (pqSet a0 a1 s) := by
  unfold pqSet
  exact (by extract_lets x0 x1; have h2 : Kept s0 x1 := (kept_ite (kept_mk h) (kept_ite (kept_mk h) (kept_mk h))); (try clear_value x1); exact (kept_State_putB h2))

theorem kept_pqRecord {s0 s : State} (h : Kept s0 s) {a0 : Nat} {a1 : PqEvt} {a2 : Bool} : Kept s0 (pqRecord a0 a1 a2 s) := by
  unfold pqRecord
  exact (by extract_lets x0; exact (kept_ite h (kept_State_put (kept_State_put (kept_State_put h)))))

theorem kept_pqBegin {s0 s : State} (h : Kept s0 s) {a0 : Nat} {a1 : Nat} {a2 : Rat} : Kept s0 (pqBegin a0 a1 a2 s) := by
  unfold pqBegin
  exact (by extract_lets x0 x1 x2 x4 x6 x7; have h3 : Kept s0 x2 := (kept_State_count h); (try clear_value x2); have h5 : Kept s0 x4 := (kept_ite (kept_State_count h3) h3); (try clear_value x4); have h8 : Kept s0 x7 := (kept_ite h5 (kept_pqRecord (kept_State_put (kept_State_put h5)))); (try clear_value x7); exact (kept_raiseF (kept_setEvt (kept_pqSet h8))))

theorem kept_pqEnd {s0 s : State} (h : Kept s0 s) {a0 : Nat} {a1 : PqEvt} : Kept s0 (pqEnd a0 a1 s) := by
  unfold pqEnd
  exact (kept_raiseF (kept_setEvt (kept_pqSet (kept_pqRecord h))))

theorem kept_pqStep {s0 s : State} (h : Kept s0 s) {a0 : Nat} {a1 : Nat} {a2 : Nat} {a3 : Bool} {a4 : Bool} {a5 : Rat} : Kept s0 (pqStep a0 a1 a2 a3 a4 a5 s) := by
  unfold pqStep
  exact (by split; exacts [(kept_ite (kept_pqBegin h) h), (by extract_lets x0; exact (kept_ite (kept_pqEnd h) (kept_pqSet (kept_pqRecord h))))])

theorem done_execPqRefresh {s : State} : Done s (execPqRefresh s) :=
  done_run fun s0 _ h => (by extract_lets x0 x1 x2 x3 x4 x6 x11 x12 x13 x14 x15 x16 x17 x18 x19 x20 x21 x23; have h5 : Kept s0 x4 := (kept_mk h); have h7 : Kept s0 x6 := (kept_foldl h5 fun _ _ k10 => (kept_State_put k10)); (try clear_value x6); have h22 : Kept s0 x21 := (kept_pqStep h7); (try clear_value x21); have h24 : Kept s0 x23 := (kept_pqStep h22); (try clear_value x23); exact (kept_ite h (kept_ite h5 (kept_pqStep h24))))

theorem kept_checkStart {s0 s : State} (h : Kept s0 s) : Kept s0 (checkStart s) := by
  unfold checkStart
  exact (by extract_lets x0 x1; exact (kept_State_put (kept_State_put (kept_mk h))))

theorem kept_checkResult {s0 s : State} (h : Kept s0 s) {a0 : Nat} : Kept s0 (checkResult a0 s) := by
  unfold checkResult
  exact (by extract_lets x0 x2; have h1 : Kept s0 x0 := (kept_State_putB (kept_State_put h)); (try clear_value x0); have h3 : Kept s0 x2 := (kept_ite h1 (kept_State_put h1)); (try clear_value x2); exact (kept_raiseF (kept_setEvt h3)))

theorem done_execCheckStart {s : State} : Done s (execCheckStart s) :=
  done_run fun _ _ h => (kept_ite (kept_checkStart h) h)

theorem kept_chkctlWrite {s0 s : State} (h : Kept s0 s) {a0 : Word} : Kept s0 (chkctlWrite a0 s) := by
  unfold chkctlWrite
  exact (by extract_lets x0 x1 x3; have h2 : Kept s0 x1 := (kept_ite h (kept_capture h)); (try clear_value x1); exact (kept_ite h2 (kept_ite (kept_capture h2) (kept_ite (kept_checkStart h2) (kept_mk h2)))))

theorem done_execChkctlGo {s : State} : Done s (execChkctlGo s) :=
  done_run fun _ _ h => (kept_chkctlWrite h)

theorem done_execCheckDone {s : State} : Done s (execCheckDone s) :=
  done_run fun _ _ h => (kept_ite (kept_checkResult h) h)

theorem done_execCheckInvalidTimeout {s : State} : Done s (execCheckInvalidTimeout s) :=
  done_run fun _ _ h => (by extract_lets x0; exact (kept_ite (kept_checkResult (kept_mk h)) h))

theorem done_execCheckRetry {s : State} : Done s (execCheckRetry s) :=
  done_run fun _ _ h => (by extract_lets x0; exact (kept_ite h (kept_ite (kept_checkStart h) (kept_mk h))))

theorem kept_s0Count {s0 s : State} (h : Kept s0 s) {a0 : Nat} : Kept s0 (s0Count a0 s) := by
  unfold s0Count
  exact (by extract_lets x0 x1 x3 x4; have h2 : Kept s0 x1 := (kept_State_put (kept_State_put h)); (try clear_value x1); exact (kept_ite h2 (kept_ite (kept_mk h2) (kept_ownRead (kept_mk h2)))))

theorem kept_s0Bad {s0 s : State} (h : Kept s0 s) {a0 : Nat} {a1 : Bool} : Kept s0 (s0Bad a0 a1 s) := by
  unfold s0Bad
  exact (kept_raiseH (kept_setEvt (kept_State_count h)))

theorem done_execS0Pulse {s : State} {a0 : Nat} {a1 : Nat} {a2 : Nat} : Done s (execS0Pulse a0 a1 a2 s) :=
  done_run fun _ _ h => (by extract_lets x0; exact (kept_ite h (kept_ite (kept_mk h) (kept_ite (kept_s0Count h) (kept_s0Bad h)))))

theorem done_execS0Maxon {s : State} {a0 : Nat} : Done s (execS0Maxon a0 s) :=
  done_run fun _ _ h => (by extract_lets x0; exact (kept_ite h (kept_s0Bad (kept_s0Count (kept_mk h)))))

theorem kept_s0Compare {s0 s : State} (h : Kept s0 s) {a0 : Nat} {a1 : List Word} : Kept s0 (s0Compare a0 a1 s) := by
  unfold s0Compare
  exact (by extract_lets x0 x1 x2 x4 x5 x6; have h3 : Kept s0 x2 := (kept_mk h); exact (by split; exacts [(kept_State_put h3), (by extract_lets x7 x8; have h9 : Kept s0 x8 := (kept_State_put (kept_State_put h3)); (try clear_value x8); exact (kept_ite (kept_raiseH (kept_setEvt (kept_State_put (kept_State_count h9)))) (kept_State_put h9)))]))

theorem kept_s0CfgWrite {s0 s : State} (h : Kept s0 s) {a0 : Nat} {a1 : Word} : Kept s0 (s0CfgWrite a0 a1 s) := by
  unfold s0CfgWrite
  exact (by extract_lets x0 x1 x3; have h2 : Kept s0 x1 := (kept_writeReg h); (try clear_value x1); exact (kept_ite h2 (kept_mk h2)))

theorem kept_modRide {s0 s : State} (h : Kept s0 s) {a0 : RideSt → RideSt} : Kept s0 (modRide a0 s) := by
  unfold modRide
  exact (kept_mk h)

theorem kept_gridEvent {s0 s : State} (h : Kept s0 s) {a0 : Nat} {a1 : Nat} {a2 : Nat} : Kept s0 (gridEvent a0 a1 a2 s) := by
  unfold gridEvent
  exact (kept_raiseF (kept_setEvt h))

theorem kept_gridQuantities {s0 s : State} (h : Kept s0 s) : Kept s0 (gridQuantities s) := by
  unfold gridQuantities
  exact (by extract_lets x0 x1 x2 x3 x4 x5 x6 x7 x8 x9 x10 x11 x12; have h13 : Kept s0 x12 := (kept_modRide h); (try clear_value x12); exact (kept_State_put (kept_State_put (kept_State_put (kept_State_put h13)))))

theorem kept_rtBegin {s0 s : State} (h : Kept s0 s) : Kept s0 (rtBegin s) := by
  unfold rtBegin
  exact (by extract_lets x0 x1 x2 x4 x6 x7 x9 x11; have h3 : Kept s0 x2 := (kept_modRide h); (try clear_value x2); have h5 : Kept s0 x4 := (kept_State_count (kept_State_putB (kept_State_putB (kept_State_put h3)))); (try clear_value x4); have h8 : Kept s0 x7 := (kept_mk h5); have h10 : Kept s0 x9 := (kept_raiseF (kept_setEvt h8)); (try clear_value x9); exact (kept_ite h10 (kept_raiseF (kept_setEvt (kept_State_put (kept_State_put (kept_mk h10)))))))

theorem kept_rtEnd {s0 s : State} (h : Kept s0 s) : Kept s0 (rtEnd s) := by
  unfold rtEnd
  exact (by extract_lets x0 x1 x3 x5; have h2 : Kept s0 x1 := (kept_modRide (kept_mk h)); (try clear_value x1); have h4 : Kept s0 x3 := (kept_State_put (kept_State_put (kept_State_put h2))); (try clear_value x3); exact (kept_gridEvent (kept_mk h4)))

theorem kept_setMc {s0 s : State} (h : Kept s0 s) {a0 : Bool} : Kept s0 (setMc a0 s) := by
  unfold setMc
  exact (by extract_lets x0; have h1 : Kept s0 x0 := (kept_State_putB h); (try clear_value x0); exact (kept_ite h (kept_gridEvent (kept_ite (kept_State_count h1) (kept_modRide h1)))))

theorem kept_rtPick {s0 s : State} (h : Kept s0 s) : Kept s0 (rtPick s) := by
  unfold rtPick
  exact (by extract_lets x0 x1 x2 x4 x6; have h3 : Kept s0 x2 := (kept_modRide h); (try clear_value x2); have h5 : Kept s0 x4 := (kept_modRide h3); (try clear_value x4); have h7 : Kept s0 x6 := (kept_ite (kept_State_putB (kept_State_putB h5)) (kept_ite (kept_rtBegin h3) (kept_modRide h3))); (try clear_value x6); exact (kept_setMc h7))

theorem done_execRtEventEnd {s : State} : Done s (execRtEventEnd s) :=
  done_run fun _ _ h => (kept_ite (kept_rtEnd h) h)

theorem kept_excursion {s0 s : State} (h : Kept s0 s) : Kept s0 (excursion s) := by
  unfold excursion
  exact (by extract_lets x0 x1; exact (kept_ite h (kept_ite h (kept_gridEvent (kept_State_putB h)))))

theorem kept_endSuspension {s0 s : State} (h : Kept s0 s) : Kept s0 (endSuspension s) := by
  unfold endSuspension
  exact (by extract_lets x0; exact (kept_raiseF (kept_setEvt (kept_State_put (kept_State_put (kept_mk h))))))

theorem kept_leaveConnection {s0 s : State} (h : Kept s0 s) : Kept s0 (leaveConnection s) := by
  unfold leaveConnection
  exact (by extract_lets x0 x4; have h1 : ∀ v2, Kept s0 v2 → Kept s0 (x0 v2) := (by intro v2 k3; unfold x0; exact (kept_setMc (kept_modRide k3))); have h5 : Kept s0 x4 := (h1 _ (kept_rtEnd h)); (try clear_value x4); exact (kept_ite (h1 _ h) (kept_ite (kept_endSuspension h5) h5)))

theorem kept_setCstate {s0 s : State} (h : Kept s0 s) {a0 : Nat} {a1 : Bool} : Kept s0 (setCstate a0 a1 s) := by
  unfold setCstate
  exact (by extract_lets x0 x1 x3 x5 x7; have h2 : Kept s0 x1 := (kept_ite (kept_leaveConnection h) h); (try clear_value x1); have h4 : Kept s0 x3 := (kept_modRide (kept_State_put (kept_State_put h2))); (try clear_value x3); have h6 : Kept s0 x5 := (kept_gridEvent h4); (try clear_value x5); exact (kept_ite h (kept_ite (kept_State_put (kept_mk h6)) (kept_ite (kept_State_put h6) h6))))

theorem kept_disconnect {s0 s : State} (h : Kept s0 s) : Kept s0 (disconnect s) := by
  unfold disconnect
  exact (kept_setCstate (kept_assertOpen h))

theorem kept_recordTrip {s0 s : State} (h : Kept s0 s) {a0 : Nat} {a1 : Nat} : Kept s0 (recordTrip a0 a1 s) := by
  unfold recordTrip
  exact (by extract_lets x0; have h1 : ∀ v2, Kept s0 v2 → Kept s0 (x0 v2) := (by intro v2 k3; unfold x0; exact (kept_State_put (kept_State_put k3))); exact (kept_ite (kept_ite (h1 _ h) h) (kept_State_put (kept_State_count (h1 _ (kept_modRide h))))))

theorem kept_tripEvent {s0 s : State} (h : Kept s0 s) {a0 : Nat} {a1 : Nat} : Kept s0 (tripEvent a0 a1 s) := by
  unfold tripEvent
  exact (kept_gridEvent h)

theorem kept_trips {s0 s : State} (h : Kept s0 s) {a0 : List (Nat × Nat)} : Kept s0 (trips a0 s) := by
  unfold trips
  exact (kept_disconnect (kept_foldl h fun _ _ k2 => (kept_tripEvent (kept_recordTrip k2))))

theorem kept_trip {s0 s : State} (h : Kept s0 s) {a0 : Nat} {a1 : Nat} : Kept s0 (trip a0 a1 s) := by
  unfold trip
  exact (kept_trips h)

theorem kept_fallbackConnect {s0 s : State} (h : Kept s0 s) : Kept s0 (fallbackConnect s) := by
  unfold fallbackConnect
  exact (by extract_lets x0; have h1 : Kept s0 x0 := (kept_modRide h); (try clear_value x0); exact (kept_ite h (kept_ite (kept_setCstate h) (kept_ite (kept_trip h1) h))))

theorem kept_connectPick {s0 s : State} (h : Kept s0 s) : Kept s0 (connectPick s) := by
  unfold connectPick
  exact (by extract_lets x0 x1 x3 x4 x5; have h2 : Kept s0 x1 := (kept_State_putB (kept_State_put h)); (try clear_value x1); exact (kept_ite (kept_fallbackConnect h2) (by split; exacts [(kept_ite (kept_setCstate h2) h2), (kept_ite (kept_setCstate h2) (kept_State_put (kept_modRide h2))), (kept_ite (kept_trip h2) (kept_modRide h2)), (kept_ite (kept_trip h2) (kept_modRide h2)), (kept_ite (kept_trip h2) (kept_ite h2 (kept_modRide h2))), (kept_ite (kept_trip h2) h2)])))

theorem done_execWaitTimer {s : State} : Done s (execWaitTimer s) :=
  done_run fun _ _ h => (kept_ite (kept_setCstate h) h)

theorem done_execSyncHold {s : State} : Done s (execSyncHold s) :=
  done_run fun _ _ h => (by extract_lets x0; exact (kept_ite (kept_setCstate (kept_mk h)) h))

theorem done_execSyncTimeout {s : State} : Done s (execSyncTimeout s) :=
  done_run fun _ _ h => (kept_ite (kept_setCstate h) h)

theorem done_execBreakerTime {s : State} : Done s (execBreakerTime s) :=
  done_run fun _ _ h => (kept_ite (kept_setCstate (kept_modRide h)) h)

theorem done_execRampComplete {s : State} : Done s (execRampComplete s) :=
  done_run fun _ _ h => (kept_ite (kept_setCstate h) h)

theorem kept_tripPick {s0 s : State} (h : Kept s0 s) : Kept s0 (tripPick s) := by
  unfold tripPick
  exact (kept_ite h (kept_modRide h))

theorem done_execTripTimer {s : State} : Done s (execTripTimer s) :=
  done_run fun _ _ h => (kept_ite h (kept_trips h))

theorem kept_curvCommit {s0 s : State} (h : Kept s0 s) : Kept s0 (curvCommit s) := by
  unfold curvCommit
  exact (by extract_lets x0; have h1 : Kept s0 x0 := (kept_foldl h fun _ _ k4 => (kept_State_setRaw k4)); (try clear_value x0); exact (by split; exacts [(kept_gridEvent (kept_capture h)), (kept_modRide (kept_State_setRaw h1))]))

theorem done_execCurvctlCommit {s : State} : Done s (execCurvctlCommit s) :=
  done_run fun _ _ h => (kept_curvCommit h)

theorem kept_modIsl {s0 s : State} (h : Kept s0 s) {a0 : IslSt → IslSt} : Kept s0 (modIsl a0 s) := by
  unfold modIsl
  exact (kept_mk h)

theorem kept_suspendEvent {s0 s : State} (h : Kept s0 s) {a0 : Nat} : Kept s0 (suspendEvent a0 s) := by
  unfold suspendEvent
  exact (kept_raiseF (kept_setEvt h))

theorem done_execSuspensionTmax {s : State} : Done s (execSuspensionTmax s) :=
  done_run fun _ _ h => (by split; exacts [(kept_ite (kept_suspendEvent (kept_State_put h)) h), h])

theorem done_execSuspensionEnd {s : State} : Done s (execSuspensionEnd s) :=
  done_run fun _ _ h => (kept_ite (kept_endSuspension h) h)

theorem kept_shiftPick {s0 s : State} (h : Kept s0 s) : Kept s0 (shiftPick s) := by
  unfold shiftPick
  exact (by extract_lets x0 x1; exact (kept_ite h (kept_modIsl h)))

theorem kept_flagsPick {s0 s : State} (h : Kept s0 s) : Kept s0 (flagsPick s) := by
  unfold flagsPick
  exact (by extract_lets x0 x1 x2 x3 x4 x5; have h6 : Kept s0 x5 := (kept_modIsl (kept_State_put h)); (try clear_value x5); exact (kept_ite (kept_raiseF (kept_setEvt (kept_modIsl h6))) h6))

theorem kept_framePick {s0 s : State} (h : Kept s0 s) : Kept s0 (framePick s) := by
  unfold framePick
  exact (by extract_lets x0; exact (kept_ite h (kept_raiseF (kept_setEvt (kept_State_putB h)))))

theorem kept_chipBegin {s0 s : State} (h : Kept s0 s) {a0 : Nat} : Kept s0 (chipBegin a0 s) := by
  unfold chipBegin
  exact (kept_modIsl (kept_State_put h))

theorem kept_chipOver {s0 s : State} (h : Kept s0 s) : Kept s0 (chipOver s) := by
  unfold chipOver
  exact (by extract_lets x0 x1; exact (kept_modIsl h))

theorem kept_chipZero {s0 s : State} (h : Kept s0 s) : Kept s0 (chipZero s) := by
  unfold chipZero
  exact (by extract_lets x0 x1; have h2 : Kept s0 x1 := (kept_ite (kept_chipOver h) (kept_modIsl h)); (try clear_value x1); exact (kept_ite (kept_chipBegin (kept_modIsl h)) (kept_ite (kept_chipBegin (kept_modIsl h2)) (kept_ite (kept_modIsl h) (kept_chipBegin (kept_chipOver h))))))

theorem kept_chipSample {s0 s : State} (h : Kept s0 s) : Kept s0 (chipSample s) := by
  unfold chipSample
  exact (by extract_lets x0 x1; exact (kept_ite h (kept_modIsl h)))

theorem kept_chipPick {s0 s : State} (h : Kept s0 s) : Kept s0 (chipPick s) := by
  unfold chipPick
  exact (by extract_lets x0 x1 x3; have h2 : Kept s0 x1 := (kept_ite h (kept_modIsl h)); (try clear_value x1); have h4 : Kept s0 x3 := (kept_ite (kept_chipZero h2) (kept_ite h2 (kept_modIsl h2))); (try clear_value x3); exact (kept_ite (kept_modIsl h2) (kept_chipSample h4)))

theorem kept_detectorPick {s0 s : State} (h : Kept s0 s) : Kept s0 (detectorPick s) := by
  unfold detectorPick
  exact (by extract_lets x0 x1 x3 x5; have h2 : Kept s0 x1 := (kept_ite (kept_modIsl h) h); (try clear_value x1); have h4 : Kept s0 x3 := (kept_State_putB (kept_State_putB h2)); (try clear_value x3); exact (kept_ite (kept_State_put (kept_modIsl h4)) h4))

theorem kept_islPick {s0 s : State} (h : Kept s0 s) : Kept s0 (islPick s) := by
  unfold islPick
  exact (by extract_lets x0 x1; have h2 : Kept s0 x1 := (kept_modIsl h); (try clear_value x1); exact (kept_chipPick (kept_detectorPick (kept_framePick (kept_flagsPick (kept_shiftPick h2))))))

theorem kept_islanded {s0 s : State} (h : Kept s0 s) {a0 : Nat} {a1 : Rat} : Kept s0 (islanded a0 a1 s) := by
  unfold islanded
  exact (by extract_lets x0 x2; have h1 : Kept s0 x0 := (kept_State_put (kept_State_count (kept_State_put h))); (try clear_value x0); have h3 : Kept s0 x2 := (kept_raiseF (kept_setEvt h1)); (try clear_value x2); exact (kept_trip (kept_modIsl h3)))

theorem kept_chipRatio {s0 s : State} (h : Kept s0 s) {a0 : Rat} {a1 : Rat} : Kept s0 (chipRatio a0 a1 s).2 := by
  unfold chipRatio
  exact (kept_ite2 (by split; rename_i w0 t1 q2; exact (fun k3 => k3) (kept_snd (kept_freeWord h) q2)) h)

theorem kept_zbaseStep {s0 s : State} (h : Kept s0 s) {a0 : Rat} : Kept s0 (zbaseStep a0 s) := by
  unfold zbaseStep
  exact (by extract_lets x0 x1; exact (kept_ite h (kept_State_put (kept_modIsl h))))

theorem kept_evaluate {s0 s : State} (h : Kept s0 s) {a0 : List Chip} : Kept s0 (evaluate a0 s) := by
  unfold evaluate
  exact (by extract_lets x0; exact (by split; rename_i w1 t2 q3; exact (fun k4 => (by split; rename_i w5 t6 q7; exact (fun k8 => (by extract_lets x9 x11 x12 x13; have h10 : Kept s0 x9 := (kept_State_put (kept_State_put (kept_State_countWrap k8))); (try clear_value x9); have h14 : Kept s0 x13 := (kept_modIsl h10); (try clear_value x13); exact (kept_ite (kept_ite (kept_islanded h14) h14) (kept_zbaseStep (kept_modIsl h10))))) (kept_snd (kept_chipRatio k4) q7))) (kept_snd (kept_chipRatio h) q3)))

theorem done_execChipEnd {s : State} : Done s (execChipEnd s) :=
  done_run fun s0 _ h => (by extract_lets x0 x2 x3; have h1 : Kept s0 x0 := (kept_modIsl h); (try clear_value x0); exact (kept_ite h (kept_ite h1 (kept_ite (kept_State_count h1) (kept_evaluate h1)))))

theorem done_execPassiveConfirm {s : State} : Done s (execPassiveConfirm s) :=
  done_run fun _ _ h => (by extract_lets x0 x1; exact (kept_ite (kept_islanded h) h))

theorem kept_modCur {s0 s : State} (h : Kept s0 s) {a0 : CurSt → CurSt} : Kept s0 (modCur a0 s) := by
  unfold modCur
  exact (kept_mk h)

theorem kept_curEvent {s0 s : State} (h : Kept s0 s) {a0 : Nat} {a1 : Nat} {a2 : Nat} : Kept s0 (curEvent a0 a1 a2 s) := by
  unfold curEvent
  exact (kept_raiseF (kept_setEvt h))

theorem kept_balEvent {s0 s : State} (h : Kept s0 s) {a0 : Nat} {a1 : Nat} {a2 : Nat} : Kept s0 (balEvent a0 a1 a2 s) := by
  unfold balEvent
  exact (kept_raiseF (kept_setEvt h))

theorem kept_lagsPick {s0 s : State} (h : Kept s0 s) : Kept s0 (lagsPick s) := by
  unfold lagsPick
  exact (by extract_lets x0; exact (kept_ite h (kept_modCur h)))

theorem kept_fwPick {s0 s : State} (h : Kept s0 s) : Kept s0 (fwPick s) := by
  unfold fwPick
  exact (by extract_lets x0 x1; exact (kept_ite (kept_ite (kept_curEvent (kept_State_put (kept_modCur h))) h) (kept_ite h (by split; exacts [(kept_ite h (kept_curEvent (kept_State_put (kept_modCur h)))), (kept_modCur h)]))))

theorem done_execFwEnd {s : State} : Done s (execFwEnd s) :=
  done_run fun _ _ h => (kept_ite (kept_curEvent (kept_State_put (kept_modCur h))) h)

theorem kept_stages {s0 s : State} (h : Kept s0 s) : Kept s0 (stages s) := by
  unfold stages
  exact (by extract_lets x0 x1 x2 x3 x4 x5 x6 x7 x8 x9 x10 x11 x12; have h13 : Kept s0 x12 := (kept_modCur h); (try clear_value x12); exact (kept_State_put (kept_State_put (kept_State_putB h13))))

theorem kept_putIlim {s0 s : State} (h : Kept s0 s) {a0 : Bool} {a1 : Bool} : Kept s0 (putIlim a0 a1 s) := by
  unfold putIlim
  exact (kept_ite h (kept_curEvent (kept_State_putB h)))

theorem kept_putSrc {s0 s : State} (h : Kept s0 s) {a0 : Nat} : Kept s0 (putSrc a0 s) := by
  unfold putSrc
  exact (by extract_lets x0 x1; have h2 : Kept s0 x1 := (kept_ite (kept_modCur h) h); (try clear_value x1); exact (kept_ite h (kept_curEvent (kept_State_put h2))))

theorem kept_risePick {s0 s : State} (h : Kept s0 s) : Kept s0 (risePick s) := by
  unfold risePick
  exact (by split; exacts [h, (by extract_lets x0 x1 x2 x3; exact (kept_modRide h))])

theorem kept_commitRefs {s0 s : State} (h : Kept s0 s) : Kept s0 (commitRefs s) := by
  unfold commitRefs
  exact (by extract_lets x0 x1 x3 x4 x5 x6 x7 x8 x9 x10 x11 x12 x13 x14 x16 x18; have h2 : Kept s0 x1 := (kept_putSrc h); (try clear_value x1); have h15 : Kept s0 x14 := (kept_modCur h2); (try clear_value x14); have h17 : Kept s0 x16 := (kept_modRide h15); (try clear_value x16); have h19 : Kept s0 x18 := (kept_putIlim h17); (try clear_value x18); exact (kept_State_put (kept_State_put (kept_State_put (kept_State_put h19)))))

theorem kept_commitPhasors {s0 s : State} (h : Kept s0 s) : Kept s0 (commitPhasors s) := by
  unfold commitPhasors
  exact (by extract_lets x0 x1 x2; exact (kept_modCur h))

theorem kept_curPick {s0 s : State} (h : Kept s0 s) : Kept s0 (curPick s) := by
  unfold curPick
  exact (by extract_lets x0 x2 x4; have h1 : Kept s0 x0 := (kept_commitPhasors h); (try clear_value x0); have h3 : Kept s0 x2 := (kept_ite h1 (kept_modCur (kept_stages (kept_fwPick (kept_lagsPick h1))))); (try clear_value x2); exact (kept_commitRefs (kept_risePick (kept_mk h3))))

theorem kept_energyStep {s0 s : State} (h : Kept s0 s) : Kept s0 (energyStep s) := by
  unfold energyStep
  exact (by extract_lets x0 x1 x2 x3 x4 x5 x6 x7 x8 x9 x10 x11 x12 x13 x14 x15 x16 x17 x18 x19 x21 x23; have h20 : Kept s0 x19 := (kept_modCur h); (try clear_value x19); have h22 : Kept s0 x21 := (kept_ite h20 (kept_commitRefs (kept_modCur h20))); (try clear_value x21); have h24 : Kept s0 x23 := (kept_State_putB (kept_State_put (kept_State_put h22))); (try clear_value x23); exact (kept_ite (kept_raiseF h24) h24))

theorem done_execEnergyLoopStep {s : State} : Done s (execEnergyLoopStep s) :=
  done_run fun _ _ h => (kept_ite (kept_energyStep h) h)

theorem kept_putBal {s0 s : State} (h : Kept s0 s) {a0 : Fld} {a1 : Bool} {a2 : Nat} {a3 : Nat} : Kept s0 (putBal a0 a1 a2 a3 s) := by
  unfold putBal
  exact (kept_ite h (kept_balEvent (kept_State_putB h)))

theorem kept_balanceStep {s0 s : State} (h : Kept s0 s) : Kept s0 (balanceStep s) := by
  unfold balanceStep
  exact (by extract_lets x0 x1 x2 x3 x4 x5 x6 x7 x8 x9 x10 x11 x12 x13 x14 x15 x16 x17 x18 x19 x20 x22 x27; have h21 : Kept s0 x20 := (kept_modCur h); (try clear_value x20); have h23 : Kept s0 x22 := (kept_foldl h21 fun _ _ k26 => (kept_State_put k26)); (try clear_value x22); have h28 : Kept s0 x27 := (kept_State_putB (kept_State_put (kept_State_put h23))); (try clear_value x27); exact (kept_putBal (kept_putBal h28)))

theorem done_execBalanceStep {s : State} : Done s (execBalanceStep s) :=
  done_run fun _ _ h => (kept_ite (kept_balanceStep h) h)

theorem kept_learnCycle {s0 s : State} (h : Kept s0 s) : Kept s0 (learnCycle s) := by
  unfold learnCycle
  exact (kept_ite h (kept_modCur h))

theorem kept_learnPick {s0 s : State} (h : Kept s0 s) {a0 : Cx} : Kept s0 (learnPick a0 s) := by
  unfold learnPick
  exact (by extract_lets x0 x1 x2; have h3 : Kept s0 x2 := (kept_modCur h); (try clear_value x2); exact (kept_State_putB h3))

theorem kept_controlPick {s0 s : State} (h : Kept s0 s) : Kept s0 (controlPick s) := by
  unfold controlPick
  exact (by extract_lets x0 x1 x2 x3 x4 x6; have h5 : Kept s0 x4 := (kept_modCur h); (try clear_value x4); have h7 : Kept s0 x6 := (kept_ite (kept_modCur h5) h5); (try clear_value x6); exact (kept_learnPick h7))

theorem kept_controlled {s0 s : State} (h : Kept s0 s) : Kept s0 (controlled s) := by
  unfold controlled
  exact (kept_ite (kept_controlPick h) h)

theorem kept_seePick {s0 s : State} (h : Kept s0 s) : Kept s0 (seePick s) := by
  unfold seePick
  exact (by extract_lets x0; exact (kept_modCur h))

theorem kept_curctlApplied {s0 s : State} (h : Kept s0 s) {a0 : Nat} : Kept s0 (curctlApplied a0 s) := by
  unfold curctlApplied
  exact (kept_ite (kept_modCur h) (kept_ite (kept_modCur h) h))

theorem kept_commitCell {s0 s : State} (h : Kept s0 s) {a0 : Nat} {a1 : Nat} : Kept s0 (commitCell a0 a1 s) := by
  unfold commitCell
  exact (by extract_lets x0 x1; exact (kept_ite h (kept_modCell h)))

theorem kept_putWeights {s0 s : State} (h : Kept s0 s) {a0 : List (Nat × Rat × Rat)} : Kept s0 (putWeights a0 s) := by
  unfold putWeights
  exact (kept_modCur h)

theorem kept_phasePick {s0 s : State} (h : Kept s0 s) {a0 : Nat} : Kept s0 (phasePick a0 s) := by
  unfold phasePick
  exact (by extract_lets x0; have h1 : Kept s0 x0 := (kept_putWeights h); (try clear_value x0); exact (kept_ite h (kept_foldl h1 fun _ _ k4 => (kept_commitCell k4))))

theorem kept_phasesPick {s0 s : State} (h : Kept s0 s) : Kept s0 (phasesPick s) := by
  unfold phasesPick
  exact (kept_phasePick (kept_phasePick (kept_phasePick h)))

theorem kept_putSat {s0 s : State} (h : Kept s0 s) {a0 : Nat} {a1 : Bool} : Kept s0 (putSat a0 a1 s) := by
  unfold putSat
  exact (by extract_lets x0 x2; have h1 : Kept s0 x0 := (kept_State_putB h); (try clear_value x0); have h3 : Kept s0 x2 := (kept_State_count h1); (try clear_value x2); exact (kept_ite h1 (kept_ite h3 (kept_curEvent (kept_modCur h3)))))

theorem kept_clampedCell {s0 s : State} (h : Kept s0 s) {a0 : Nat} : Kept s0 (clampedCell a0 s) := by
  unfold clampedCell
  exact (by extract_lets x0; have h1 : Kept s0 x0 := (kept_State_count h); (try clear_value x0); exact (kept_ite h1 (kept_balEvent (kept_modCur h1))))

theorem kept_adoptTable {s0 s : State} (h : Kept s0 s) {a0 : Nat} : Kept s0 (adoptTable a0 s) := by
  unfold adoptTable
  exact (by split; exacts [h, (by extract_lets x0 x1 x2; exact (kept_State_put (kept_modCur h)))])

theorem kept_weightWindow {s0 s : State} (h : Kept s0 s) {a0 : Nat} : Kept s0 (weightWindow a0 s) := by
  unfold weightWindow
  exact (by extract_lets x0 x6 x7; have h1 : Kept s0 x0 := (by unfold x0; exact (kept_foldl h fun _ _ k4 => (by extract_lets x5; exact (kept_State_put (kept_State_put k4))))); (try clear_value x0); exact (kept_State_put (kept_State_put h1)))

theorem kept_lawLoad {s0 s : State} (h : Kept s0 s) {a0 : Nat} : Kept s0 (lawLoad a0 s) := by
  unfold lawLoad
  exact (by extract_lets x0 x2 x3 x4 x6 x7 x8 x9 x10 x11 x12 x13 x14 x15 x16 x29 x31; have h1 : Kept s0 x0 := (kept_adoptTable h); (try clear_value x0); have h5 : Kept s0 x4 := (kept_ite h1 (kept_putWeights h1)); (try clear_value x4); have h17 : Kept s0 x16 := (by unfold x16; exact (kept_foldl h5 fun _ _ k20 => (by extract_lets x21 x22 x23 x24 x25 x26 x27 x28; exact (kept_modEdge k20)))); (try clear_value x16); have h30 : Kept s0 x29 := (kept_putSat h17); (try clear_value x29); exact (kept_State_putB (kept_foldl h30 fun _ _ k34 => (kept_clampedCell k34))))

theorem kept_delayFigures {s0 s : State} (h : Kept s0 s) : Kept s0 (delayFigures s) := by
  unfold delayFigures
  exact (by extract_lets x0 x1 x2 x3; exact (kept_State_put (kept_State_put h)))

theorem kept_loadPhase {s0 s : State} (h : Kept s0 s) {a0 : Nat} : Kept s0 (loadPhase a0 s) := by
  unfold loadPhase
  exact (by extract_lets x0; have h1 : Kept s0 x0 := (kept_controlled h); (try clear_value x0); exact (kept_ite h (kept_weightWindow (kept_loadPoint (kept_ite (kept_lawLoad h1) h1)))))

theorem kept_publishTable {s0 s : State} (h : Kept s0 s) {a0 : Nat} : Kept s0 (publishTable a0 s) := by
  unfold publishTable
  exact (by extract_lets x0 x1 x2; have h3 : Kept s0 x2 := (kept_modCur h); (try clear_value x2); exact (kept_ite h (kept_setEvt (kept_State_countWrap h3))))

theorem done_execLearnPublish {s : State} : Done s (execLearnPublish s) :=
  done_run fun s0 _ h => (by extract_lets x0 x2; have h1 : Kept s0 x0 := (kept_publishTable (kept_publishTable (kept_publishTable h))); (try clear_value x0); have h3 : Kept s0 x2 := (kept_ite (kept_modCur (kept_State_put h1)) h1); (try clear_value x2); exact (kept_ite h (kept_modCur h3)))

theorem kept_modTrk {s0 s : State} (h : Kept s0 s) {a0 : Nat} {a1 : Trk → Trk} : Kept s0 (modTrk a0 a1 s) := by
  unfold modTrk
  exact (by extract_lets x0; exact (kept_mk h))

theorem kept_modMppt {s0 s : State} (h : Kept s0 s) {a0 : MpptSt → MpptSt} : Kept s0 (modMppt a0 s) := by
  unfold modMppt
  exact (kept_mk h)

theorem kept_mpptEvent {s0 s : State} (h : Kept s0 s) {a0 : Nat} {a1 : Nat} {a2 : Nat} : Kept s0 (mpptEvent a0 a1 a2 s) := by
  unfold mpptEvent
  exact (kept_raiseF (kept_setEvt h))

theorem kept_storEvent {s0 s : State} (h : Kept s0 s) {a0 : Nat} {a1 : Nat} {a2 : Nat} : Kept s0 (storEvent a0 a1 a2 s) := by
  unfold storEvent
  exact (kept_raiseF (kept_setEvt h))

theorem kept_setTrk {s0 s : State} (h : Kept s0 s) {a0 : Nat} {a1 : Nat} : Kept s0 (setTrk a0 a1 s) := by
  unfold setTrk
  exact (by extract_lets x0 x1 x2 x4 x6; have h3 : Kept s0 x2 := (kept_ite h (kept_modTrk h)); (try clear_value x2); have h5 : Kept s0 x4 := (kept_State_put h3); (try clear_value x4); exact (kept_ite h5 (kept_mpptEvent h5)))

theorem kept_setPest {s0 s : State} (h : Kept s0 s) {a0 : Nat} {a1 : Rat} : Kept s0 (setPest a0 a1 s) := by
  unfold setPest
  exact (kept_State_put (kept_modTrk h))

theorem kept_undoUpdate {s0 s : State} (h : Kept s0 s) {a0 : Nat} : Kept s0 (undoUpdate a0 s) := by
  unfold undoUpdate
  exact (by split; exacts [h, (by extract_lets x0; have h1 : Kept s0 x0 := (kept_modTrk h); (try clear_value x0); exact (kept_ite h (kept_setPest (kept_State_put h1))))])

theorem kept_commitInref {s0 s : State} (h : Kept s0 s) {a0 : Nat} : Kept s0 (commitInref a0 s) := by
  unfold commitInref
  exact (by extract_lets x0 x1 x2; exact (kept_ite (kept_State_put (kept_modTrk h)) (kept_ite (kept_modTrk h) h)))

theorem kept_leaveSweep {s0 s : State} (h : Kept s0 s) {a0 : Nat} {a1 : Nat} : Kept s0 (leaveSweep a0 a1 s) := by
  unfold leaveSweep
  exact (by split; exacts [h, (by extract_lets x0; have h1 : Kept s0 x0 := (kept_modTrk h); (try clear_value x0); exact (kept_ite (kept_modTrk h1) (kept_setTrk h1)))])

theorem kept_abortScan {s0 s : State} (h : Kept s0 s) {a0 : Nat} : Kept s0 (abortScan a0 s) := by
  unfold abortScan
  exact (by extract_lets x0 x5; have h1 : Kept s0 x0 := (kept_foldl h fun _ _ k4 => (kept_leaveSweep k4)); (try clear_value x0); have h6 : Kept s0 x5 := (kept_modMppt h1); (try clear_value x5); exact (kept_ite h (kept_mpptEvent (kept_State_count h6))))

theorem kept_endPass {s0 s : State} (h : Kept s0 s) : Kept s0 (endPass s) := by
  unfold endPass
  exact (kept_State_put (kept_modMppt h))

theorem kept_startPass {s0 s : State} (h : Kept s0 s) : Kept s0 (startPass s) := by
  unfold startPass
  exact (kept_State_put (kept_modMppt h))

theorem done_execScanPass {s : State} : Done s (execScanPass s) :=
  done_run fun s0 _ h => (by extract_lets x0; have h1 : Kept s0 x0 := (kept_modMppt h); (try clear_value x0); exact (kept_ite h (kept_ite (kept_State_count h1) (kept_startPass h1))))

theorem kept_scanctlWrite {s0 s : State} (h : Kept s0 s) {a0 : Word} : Kept s0 (scanctlWrite a0 s) := by
  unfold scanctlWrite
  exact (by extract_lets x0 x2; have h1 : Kept s0 x0 := (kept_ite h (kept_capture h)); (try clear_value x0); have h3 : Kept s0 x2 := (by unfold x2; exact (kept_ite (by split; rename_i w4 t5 q6; exact (fun k7 => (kept_endPass (kept_abortScan k7))) (kept_snd (kept_freeWord h1) q6)) h1)); (try clear_value x2); exact (kept_ite (kept_ite (kept_capture h3) (kept_startPass h3)) h3))

theorem done_execScanGo {s : State} : Done s (execScanGo s) :=
  done_run fun _ _ h => (kept_scanctlWrite h)

theorem done_execScanAbort {s : State} : Done s (execScanAbort s) :=
  done_run fun _ _ h => (kept_scanctlWrite h)

theorem kept_tryBank {s0 s : State} (h : Kept s0 s) {a0 : Nat} : Kept s0 (tryBank a0 s) := by
  unfold tryBank
  exact (by extract_lets x0 x1 x2 x3 x8; have h4 : Kept s0 x3 := (kept_foldl h fun _ _ k7 => (kept_setTrk (kept_modTrk (kept_undoUpdate k7)))); (try clear_value x3); have h9 : Kept s0 x8 := (kept_State_addSat h4); (try clear_value x8); exact (kept_ite h (kept_ite (kept_ite (kept_mpptEvent (kept_State_count h)) (kept_modMppt h)) (kept_State_put (kept_modMppt h9)))))

theorem kept_tryBanks {s0 s : State} (h : Kept s0 s) {a0 : List Nat} : Kept s0 (tryBanks a0 s) := by
  unfold tryBanks
  exact (kept_foldl h fun _ _ k2 => (kept_ite k2 (kept_tryBank (kept_modMppt k2))))

theorem done_execBankScanStart {s : State} : Done s (execBankScanStart s) :=
  done_run fun s0 _ h => (by extract_lets x0 x2 x3; have h1 : Kept s0 x0 := (kept_tryBanks h); (try clear_value x0); have h4 : Kept s0 x3 := (kept_tryBanks (kept_modMppt h1)); (try clear_value x3); exact (kept_ite h (kept_ite h1 (kept_ite (kept_endPass h1) (kept_ite h4 (kept_endPass h4))))))

theorem kept_closePoint {s0 s : State} (h : Kept s0 s) {a0 : Nat} {a1 : Nat} : Kept s0 (closePoint a0 a1 s) := by
  unfold closePoint
  exact (kept_modTrk h)

theorem kept_chooseBest {s0 s : State} (h : Kept s0 s) {a0 : Nat} : Kept s0 (chooseBest a0 s) := by
  unfold chooseBest
  exact (kept_modTrk h)

theorem done_execScanPoint {s : State} : Done s (execScanPoint s) :=
  done_run fun s0 _ h => (by split; exacts [h, (by extract_lets x0 x1 x6; have h2 : Kept s0 x1 := (kept_ite h (kept_foldl h fun _ _ k5 => (kept_closePoint k5))); (try clear_value x1); have h7 : Kept s0 x6 := (kept_ite (kept_foldl h2 fun _ _ k10 => (kept_chooseBest k10)) h2); (try clear_value x6); exact (kept_ite h (kept_modMppt h7)))])

theorem kept_finishCell {s0 s : State} (h : Kept s0 s) {a0 : Nat} : Kept s0 (finishCell a0 s) := by
  unfold finishCell
  exact (by split; exacts [h, (by extract_lets x0 x1 x3; have h2 : Kept s0 x1 := (kept_modTrk h); (try clear_value x1); have h4 : Kept s0 x3 := (kept_State_count (kept_setTrk h2)); (try clear_value x3); exact (kept_ite (kept_State_count h4) h4))])

theorem done_execBankScanEnd {s : State} : Done s (execBankScanEnd s) :=
  done_run fun s0 _ h => (by extract_lets x0 x1 x6 x7 x9; have h2 : Kept s0 x1 := (kept_foldl h fun _ _ k5 => (kept_finishCell k5)); (try clear_value x1); have h8 : Kept s0 x7 := (kept_modMppt h2); (try clear_value x7); have h10 : Kept s0 x9 := (kept_mpptEvent h8); (try clear_value x9); exact (kept_ite h (kept_ite (kept_endPass h10) h10)))

theorem kept_toIdle {s0 s : State} (h : Kept s0 s) {a0 : Nat} : Kept s0 (toIdle a0 s) := by
  unfold toIdle
  exact (kept_ite h (kept_setTrk (kept_modTrk h)))

theorem kept_toStart {s0 s : State} (h : Kept s0 s) {a0 : Nat} : Kept s0 (toStart a0 s) := by
  unfold toStart
  exact (kept_setTrk (kept_modTrk h))

theorem kept_trkEvents {s0 s : State} (h : Kept s0 s) {a0 : Nat} : Kept s0 (trkEvents a0 s) := by
  unfold trkEvents
  exact (by extract_lets x0 x1 x2 x3; exact (kept_ite (kept_toIdle h) (kept_ite (kept_setTrk (kept_modTrk h)) (kept_ite (kept_setTrk h) (kept_ite (kept_toStart h) h)))))

theorem kept_trkSample {s0 s : State} (h : Kept s0 s) {a0 : Nat} : Kept s0 (trkSample a0 s) := by
  unfold trkSample
  exact (by extract_lets x0 x1 x2 x3 x4 x5; exact (kept_modTrk h))

theorem kept_trkCounts {s0 s : State} (h : Kept s0 s) : Kept s0 (trkCounts s) := by
  unfold trkCounts
  exact (by extract_lets x0; exact (kept_State_put (kept_State_put h)))

theorem kept_mpptClock {s0 s : State} (h : Kept s0 s) : Kept s0 (mpptClock s) := by
  unfold mpptClock
  exact (by extract_lets x0 x1 x2 x3; exact (kept_modMppt h))

theorem kept_mpptPick {s0 s : State} (h : Kept s0 s) : Kept s0 (mpptPick s) := by
  unfold mpptPick
  exact (by extract_lets x0 x1 x3 x5; have h2 : Kept s0 x1 := (kept_modMppt h); (try clear_value x1); have h4 : Kept s0 x3 := (kept_ite (kept_abortScan h2) (kept_ite h2 (kept_abortScan h2))); (try clear_value x3); have h6 : Kept s0 x5 := (kept_foldl h4 fun _ _ k9 => (kept_trkSample (kept_trkEvents k9))); (try clear_value x5); exact (kept_trkCounts (kept_foldl h6 fun _ _ k12 => (kept_commitInref k12))))

theorem kept_startTrack {s0 s : State} (h : Kept s0 s) {a0 : Nat} {a1 : Rat} : Kept s0 (startTrack a0 a1 s) := by
  unfold startTrack
  exact (by extract_lets x0; exact (kept_setTrk (kept_modTrk h)))

theorem kept_updateTrack {s0 s : State} (h : Kept s0 s) {a0 : Nat} {a1 : UpdateMeans} {a2 : Trk} : Kept s0 (updateTrack a0 a1 a2 s) := by
  unfold updateTrack
  exact (by extract_lets x0 x1 x2; have h3 : Kept s0 x2 := (kept_modTrk h); (try clear_value x2); exact (kept_ite (kept_setTrk (kept_setPest (kept_modTrk h3))) (by split; exacts [h3, (by extract_lets x4; exact (kept_setPest (kept_modTrk h3)))])))

theorem kept_updateCell {s0 s : State} (h : Kept s0 s) {a0 : Nat} : Kept s0 (updateCell a0 s) := by
  unfold updateCell
  exact (by extract_lets x0 x1 x2 x3 x5 x7 x9; have h4 : Kept s0 x3 := (kept_ite (kept_modTrk h) h); (try clear_value x3); have h6 : Kept s0 x5 := (kept_modTrk h4); (try clear_value x5); have h8 : Kept s0 x7 := (kept_setPest h6); (try clear_value x7); exact (kept_ite h (kept_ite h4 (kept_ite (kept_State_count h4) (kept_ite (kept_updateTrack h6) (kept_ite h8 (kept_ite (kept_startTrack h8) (kept_ite h8 (kept_setTrk h8)))))))))

theorem kept_updateBank {s0 s : State} (h : Kept s0 s) {a0 : Nat} : Kept s0 (updateBank a0 s) := by
  unfold updateBank
  exact (kept_modMppt (kept_foldl h fun _ _ k2 => (kept_updateCell k2)))

theorem done_execTrackerUpdate {s : State} : Done s (execTrackerUpdate s) :=
  done_run fun _ _ h => (by extract_lets x0; exact (kept_ite (kept_updateBank h) h))

theorem kept_permitStep {s0 s : State} (h : Kept s0 s) {a0 : Nat} : Kept s0 (permitStep a0 s) := by
  unfold permitStep
  exact (by extract_lets x0 x1 x2 x3 x4 x5 x6 x7; have h8 : Kept s0 x7 := (kept_modTrk h); (try clear_value x7); exact (kept_ite h (kept_ite (kept_storEvent (kept_State_count h8)) h8)))

theorem kept_splitStorage {s0 s : State} (h : Kept s0 s) {a0 : Rat} : Kept s0 (splitStorage a0 s) := by
  unfold splitStorage
  exact (by extract_lets x0 x1 x2 x7 x8 x9 x10 x11 x12 x13 x14 x15 x16 x21 x26 x27; have h3 : Kept s0 x2 := (kept_foldl h fun _ _ k6 => (kept_modTrk k6)); (try clear_value x2); have h17 : Kept s0 x16 := (kept_foldl h3 fun _ _ k20 => (kept_modTrk k20)); (try clear_value x16); have h22 : Kept s0 x21 := (kept_foldl h17 fun _ _ k25 => (kept_ite k25 (kept_modTrk k25))); (try clear_value x21); have h28 : Kept s0 x27 := (kept_State_put h22); (try clear_value x27); exact (kept_ite h28 (kept_storEvent (kept_modMppt h28))))

theorem kept_storageStatus {s0 s : State} (h : Kept s0 s) : Kept s0 (storageStatus s) := by
  unfold storageStatus
  exact (by extract_lets x0 x1 x2 x7 x9; have h3 : Kept s0 x2 := (kept_foldl h fun _ _ k6 => (kept_State_putB (kept_State_putB (kept_State_putB (kept_State_put k6))))); (try clear_value x2); have h8 : Kept s0 x7 := (kept_State_put (kept_State_put h3)); (try clear_value x7); have h10 : Kept s0 x9 := (kept_State_put (kept_State_put h8)); (try clear_value x9); exact (kept_State_put (kept_State_put h10)))

theorem kept_splitExport {s0 s : State} (h : Kept s0 s) : Kept s0 (splitExport s) := by
  unfold splitExport
  exact (by extract_lets x0 x1 x2 x3 x4 x5 x6 x7 x8 x9; have h10 : Kept s0 x9 := (kept_modMppt h); (try clear_value x9); exact (kept_State_put (kept_State_put h10)))

theorem kept_curtailUp {s0 s : State} (h : Kept s0 s) {a0 : Nat} {a1 : Rat} : Kept s0 (curtailUp a0 a1 s) := by
  unfold curtailUp
  exact (by extract_lets x0 x1; exact (kept_modTrk h))

theorem kept_checkCurtail {s0 s : State} (h : Kept s0 s) {a0 : Nat} {a1 : Rat} : Kept s0 (checkCurtail a0 a1 s) := by
  unfold checkCurtail
  exact (by extract_lets x0 x1 x2; have h3 : Kept s0 x2 := (kept_modTrk h); (try clear_value x2); exact (kept_ite h3 (kept_ite (kept_curtailUp h3) (kept_ite (kept_modTrk h3) h3))))

theorem kept_enterCurtail {s0 s : State} (h : Kept s0 s) {a0 : Nat} : Kept s0 (enterCurtail a0 s) := by
  unfold enterCurtail
  exact (kept_setTrk (kept_modTrk h))

theorem kept_checkCell {s0 s : State} (h : Kept s0 s) {a0 : Nat} : Kept s0 (checkCell a0 s) := by
  unfold checkCell
  exact (by extract_lets x0 x1 x2 x4 x5; have h3 : Kept s0 x2 := (kept_undoUpdate h); (try clear_value x2); have h6 : Kept s0 x5 := (by unfold x5; exact (kept_ite (kept_ite (kept_curtailUp (kept_enterCurtail h3)) h) (kept_ite h (kept_ite (kept_checkCurtail h) (by split; exacts [(by extract_lets x7; have h8 : Kept s0 x7 := (kept_enterCurtail (kept_modTrk h)); (try clear_value x7); exact (kept_ite (kept_mpptEvent (kept_State_count h8)) h)), h]))))); (try clear_value x5); exact (kept_modTrk h6))

theorem kept_reserveCheck {s0 s : State} (h : Kept s0 s) : Kept s0 (reserveCheck s) := by
  unfold reserveCheck
  exact (kept_ite h (kept_ite (kept_ite (kept_abortScan h) (kept_modMppt h)) (kept_modMppt h)))

theorem kept_sixteenCheck {s0 s : State} (h : Kept s0 s) : Kept s0 (sixteenCheck s) := by
  unfold sixteenCheck
  exact (by extract_lets x0 x5 x7 x9 x15; have h1 : Kept s0 x0 := (kept_foldl h fun _ _ k4 => (kept_permitStep k4)); (try clear_value x0); have h6 : Kept s0 x5 := (kept_splitExport h1); (try clear_value x5); have h8 : Kept s0 x7 := (kept_storageStatus (kept_splitStorage h6)); (try clear_value x7); have h10 : Kept s0 x9 := (by unfold x9; exact (kept_foldl h8 fun _ _ k13 => (by extract_lets x14; exact (kept_State_put (kept_modTrk k13))))); (try clear_value x9); have h16 : Kept s0 x15 := (kept_foldl h10 fun _ _ k19 => (kept_checkCell k19)); (try clear_value x15); exact (kept_trkCounts (kept_reserveCheck h16)))

theorem done_execSixteenPickCheck {s : State} : Done s (execSixteenPickCheck s) :=
  done_run fun _ _ h => (kept_ite (kept_sixteenCheck h) h)

theorem done_execCurtailRelease {s : State} {a0 : Nat} : Done s (execCurtailRelease a0 s) :=
  done_run fun _ _ h => (kept_ite (kept_setTrk (kept_modTrk h)) h)

theorem done_execLoadPoint {s : State} {a0 : Nat} : Done s (execLoadPoint a0 s) :=
  done_run fun _ _ h => (kept_ite (kept_loadPhase h) h)

theorem done_execCarrierBoundary {s : State} : Done s (execCarrierBoundary s) :=
  done_run fun s0 _ h => (by extract_lets x0 x2 x3 x4 x5 x6 x7 x8 x10 x12 x14 x16; have h1 : Kept s0 x0 := (kept_loadPhase (kept_loadPhase (kept_loadPhase h))); (try clear_value x0); have h9 : Kept s0 x8 := (kept_mk h1); have h11 : Kept s0 x10 := (kept_State_put (kept_State_put h9)); (try clear_value x10); have h13 : Kept s0 x12 := (kept_delayFigures (kept_boundaryPhase (kept_boundaryPhase (kept_boundaryPhase h11)))); (try clear_value x12); have h15 : Kept s0 x14 := (kept_rampRestart h13); (try clear_value x14); have h17 : Kept s0 x16 := (kept_ite h15 (kept_edgeEvent70 h15)); (try clear_value x16); exact (kept_ite h (kept_ite (kept_syncOut h17) h17)))

theorem kept_samplePick {s0 s : State} (h : Kept s0 s) {a0 : List (List Int)} : Kept s0 (samplePick a0 s) := by
  unfold samplePick
  exact (kept_foldl h fun _ _ k2 => (kept_sampleCmp k2))

theorem kept_comparatorWord {s0 s : State} (h : Kept s0 s) : Kept s0 (comparatorWord s) := by
  unfold comparatorWord
  exact (kept_putResult (kept_rampRestart h))

theorem kept_presetPick {s0 s : State} (h : Kept s0 s) : Kept s0 (presetPick s) := by
  unfold presetPick
  exact (by extract_lets x0 x1 x2; have h3 : Kept s0 x2 := (kept_mk h); exact (kept_ite h (kept_ite h3 (kept_State_count (kept_State_put h3)))))

theorem kept_collectPick {s0 s : State} (h : Kept s0 s) : Kept s0 (collectPick s) := by
  unfold collectPick
  exact (kept_foldl h fun _ _ k2 => (kept_ite (kept_sendCollect k2) k2))

theorem kept_carrierPick {s0 s : State} (h : Kept s0 s) : Kept s0 (carrierPick s) := by
  unfold carrierPick
  exact (kept_ite (kept_State_put h) h)

theorem kept_syncPick {s0 s : State} (h : Kept s0 s) : Kept s0 (syncPick s) := by
  unfold syncPick
  exact (by extract_lets x0; exact (kept_ite (kept_syncOut h) h))

theorem kept_watchdogPick {s0 s : State} (h : Kept s0 s) : Kept s0 (watchdogPick s) := by
  unfold watchdogPick
  exact (by extract_lets x0 x1 x2; exact (kept_ite h (kept_mk h)))

theorem kept_ringPick {s0 s : State} (h : Kept s0 s) : Kept s0 (ringPick s) := by
  unfold ringPick
  exact (kept_yieldPick (kept_collectPick (kept_presetPick (kept_twinPick (kept_applyOwners (kept_ringBegin h))))))

theorem kept_clustersPick {s0 s : State} (h : Kept s0 s) : Kept s0 (clustersPick s) := by
  unfold clustersPick
  exact (by extract_lets x0 x2 x4; have h1 : Kept s0 x0 := (kept_ite (kept_clusterEnd (kept_clusterEnd (kept_clusterEnd (kept_clusterEnd h)))) h); (try clear_value x0); have h3 : Kept s0 x2 := (kept_ite (kept_imageStart h1) h1); (try clear_value x2); exact (kept_ite (kept_mk h3) (kept_ite (kept_startClusters h3) h3)))

theorem kept_anglePick {s0 s : State} (h : Kept s0 s) : Kept s0 (anglePick s) := by
  unfold anglePick
  exact (by extract_lets x0; have h1 : Kept s0 x0 := (kept_gridQuantities (kept_trackPick h)); (try clear_value x0); exact (kept_lockPick (kept_steerPick (kept_ite h1 (kept_rtPick h1)))))

theorem kept_gridPick {s0 s : State} (h : Kept s0 s) : Kept s0 (gridPick s) := by
  unfold gridPick
  exact (kept_connectPick (kept_tripPick (kept_excursion h)))

theorem kept_lawPick {s0 s : State} (h : Kept s0 s) : Kept s0 (lawPick s) := by
  unfold lawPick
  exact (by extract_lets x0; have h1 : Kept s0 x0 := (kept_phasesPick (kept_learnCycle (kept_seePick h))); (try clear_value x0); exact (kept_ite h (kept_ite (kept_fallbackPick h1) (kept_mpptPick (kept_curPick (kept_fallbackPick (kept_islPick (kept_gridPick (kept_anglePick h1)))))))))

theorem kept_latchPick {s0 s : State} (h : Kept s0 s) : Kept s0 (latchPick s) := by
  unfold latchPick
  exact (by extract_lets x0 x1; exact (kept_mk h))

theorem kept_pickBoundary {s0 s : State} (h : Kept s0 s) {a0 : List (List Int)} : Kept s0 (pickBoundary a0 s) := by
  unfold pickBoundary
  exact (by extract_lets x0 x2 x4; have h1 : Kept s0 x0 := (kept_latchPick (kept_applyInc (kept_passPick (kept_lossPick (kept_controlled (kept_samplePick h)))))); (try clear_value x0); have h3 : Kept s0 x2 := (kept_rangePick (kept_comparatorWord (kept_corrected (kept_blankPick h1)))); (try clear_value x2); have h5 : Kept s0 x4 := (kept_clustersPick (kept_mpptClock (kept_ringPick (kept_carrierPick h3)))); (try clear_value x4); exact (kept_ite h (kept_syncPick (kept_meterPick (kept_watchdogPick (kept_lawPick h5))))))

theorem done_execPickBoundary {s : State} {a0 : List (List Int)} : Done s (execPickBoundary a0 s) :=
  done_run fun _ _ h => (kept_pickBoundary h)

end Sys2Proof.Machine
end

