-- ==== Sys2Proof/Laws/KeptBus.lean ====
section
/-! SUPPORT. What every operation and every command keeps: register accesses, permits, watchdog and selvedge. -/

namespace Sys2Proof.Machine

set_option Elab.async false

theorem kept_readWord {s0 s : State} (h : Kept s0 s) {a0 : Nat} {a1 : Nat} {a2 : Nat} {a3 : Nat} : Kept s0 (readWord a0 a1 a2 a3 s).2 := by
  unfold readWord
  exact (by extract_lets x0; have h1 : Kept s0 x0 := (kept_clockAdvance h); (try clear_value x0); exact (kept_ite2 (kept_claimRead h) (kept_ite2 (kept_nowLoRead h) (kept_ite2 (kept_atlSloRead h) (kept_ite2 (kept_secLoRead h) (kept_ite2 h1 (kept_ite2 h1 (kept_ite2 (kept_eLoRead h) (kept_ite2 (kept_loRead h) h)))))))))

theorem kept_readWords {s0 s : State} (h : Kept s0 s) {a0 : Nat} {a1 : Nat} {a2 : Nat} {a3 : Nat} {a4 : Nat} : Kept s0 (readWords a0 a1 a2 a3 a4 s).2 := by
  unfold readWords
  exact (by split; exacts [h, (by split; rename_i w0 t1 q2; exact (fun k3 => (by split; rename_i w4 t5 q6; exact (fun k7 => k7) (kept_snd (kept_readWords k3) q6))) (kept_snd (kept_readWord h) q2))])

theorem kept_permitEdge {s0 s : State} (h : Kept s0 s) {a0 : Nat} : Kept s0 (permitEdge a0 s) := by
  unfold permitEdge
  exact (by extract_lets x0; exact (kept_ite h (kept_ite (kept_mk h) (kept_ite (kept_State_put (kept_mk h)) h))))

theorem done_execPermitEdge {s : State} {a0 : Nat} : Done s (execPermitEdge a0 s) :=
  done_run fun _ _ h => (kept_permitEdge h)

theorem kept_permitTimeout {s0 s : State} (h : Kept s0 s) : Kept s0 (permitTimeout s) := by
  unfold permitTimeout
  exact (by extract_lets x0 x1; have h2 : Kept s0 x1 := (kept_State_put (kept_State_put (kept_mk h))); (try clear_value x1); exact (kept_ite h (kept_ite h2 (kept_ite (kept_yieldCells h2) (kept_closeShutter h2)))))

theorem done_execPermitTimeout {s : State} : Done s (execPermitTimeout s) :=
  done_run fun _ _ h => (kept_permitTimeout h)

theorem done_execPermitStable {s : State} : Done s (execPermitStable s) :=
  done_run fun _ _ h => (kept_ite (kept_State_put h) h)

theorem kept_reopenWrite {s0 s : State} (h : Kept s0 s) : Kept s0 (reopenWrite s) := by
  unfold reopenWrite
  exact (by extract_lets x0 x2 x3; have h1 : Kept s0 x0 := (kept_setEvt (kept_State_put h)); (try clear_value x0); exact (kept_ite (kept_capture h) (kept_ite (kept_ite (kept_mk h1) h1) h)))

theorem kept_yieldWrite {s0 s : State} (h : Kept s0 s) {a0 : Bool} : Kept s0 (yieldWrite a0 s) := by
  unfold yieldWrite
  exact (kept_ite (kept_capture h) (kept_State_putB h))

theorem kept_shutctlWrite {s0 s : State} (h : Kept s0 s) {a0 : Word} : Kept s0 (shutctlWrite a0 s) := by
  unfold shutctlWrite
  exact (by extract_lets x0 x2 x4 x6 x8 x9; have h1 : Kept s0 x0 := (kept_yieldWrite h); (try clear_value x0); have h3 : Kept s0 x2 := (kept_ite (kept_reopenWrite h1) h1); (try clear_value x2); have h5 : Kept s0 x4 := (kept_ite h3 (kept_capture h3)); (try clear_value x4); have h7 : Kept s0 x6 := (kept_rawTokens h5); (try clear_value x6); exact (kept_ite (kept_mk h7) h5))

theorem done_execReopen {s : State} : Done s (execReopen s) :=
  done_run fun _ _ h => (kept_reopenWrite h)

theorem done_execYieldArm {s : State} {a0 : Bool} : Done s (execYieldArm a0 s) :=
  done_run fun _ _ h => (kept_yieldWrite h)

theorem done_execYieldExpiry {s : State} : Done s (execYieldExpiry s) :=
  done_run fun _ _ h => (kept_State_put h)

theorem kept_setHwd {s0 s : State} (h : Kept s0 s) {a0 : Nat} : Kept s0 (setHwd a0 s) := by
  unfold setHwd
  exact (by extract_lets x0; exact (kept_ite h (kept_raiseH (kept_State_put h))))

theorem kept_fReleased {s0 s : State} (h : Kept s0 s) : Kept s0 (fReleased s) := by
  unfold fReleased
  exact (by extract_lets x0; exact (kept_mk h))

theorem kept_hwdkickWrite {s0 s : State} (h : Kept s0 s) {a0 : Word} : Kept s0 (hwdkickWrite a0 s) := by
  unfold hwdkickWrite
  exact (by extract_lets x0 x1 x3 x5; have h2 : Kept s0 x1 := (kept_mk h); have h4 : Kept s0 x3 := (kept_setHwd h2); (try clear_value x3); exact (kept_ite (kept_capture h) (kept_ite h2 (kept_ite (kept_fReleased h4) (kept_mk h4)))))

theorem done_execHwdkick {s : State} {a0 : Word} : Done s (execHwdkick a0 s) :=
  done_run fun _ _ h => (kept_hwdkickWrite h)

theorem kept_hwdctlWrite {s0 s : State} (h : Kept s0 s) {a0 : Word} : Kept s0 (hwdctlWrite a0 s) := by
  unfold hwdctlWrite
  exact (by extract_lets x0 x1 x3 x4 x5 x7; have h2 : Kept s0 x1 := (kept_writeReg h); (try clear_value x1); have h6 : Kept s0 x5 := (kept_ite (kept_mk h2) h2); (try clear_value x5); exact (kept_ite (kept_mk h6) h6))

theorem done_execHwdctlWrite {s : State} {a0 : Word} : Done s (execHwdctlWrite a0 s) :=
  done_run fun _ _ h => (kept_hwdctlWrite h)

theorem kept_watchdogExpiry {s0 s : State} (h : Kept s0 s) : Kept s0 (watchdogExpiry s) := by
  unfold watchdogExpiry
  exact (by extract_lets x0 x1 x2 x4 x6 x7 x9; have h3 : Kept s0 x2 := (kept_raiseH (kept_setEvt (kept_State_count (kept_mk h)))); (try clear_value x2); have h5 : Kept s0 x4 := (kept_setHwd h3); (try clear_value x4); have h8 : Kept s0 x7 := (kept_mk h5); exact (kept_ite h (kept_ite h3 (kept_ite (kept_mk h8) h8))))

theorem done_execWatchdogExpiry {s : State} : Done s (execWatchdogExpiry s) :=
  done_run fun _ _ h => (kept_watchdogExpiry h)

theorem kept_startFall {s0 s : State} (h : Kept s0 s) {a0 : Rat} {a1 : Bool} : Kept s0 (startFall a0 a1 s) := by
  unfold startFall
  exact (by extract_lets x0; exact (kept_mk h))

theorem kept_fWatchdogAlone {s0 s : State} (h : Kept s0 s) : Kept s0 (fWatchdogAlone s) := by
  unfold fWatchdogAlone
  exact (by extract_lets x0 x1 x2 x3 x5; have h4 : Kept s0 x3 := (kept_mk h); exact (kept_ite (kept_ite (kept_mk h4) (kept_startFall h4)) h))

theorem kept_watchdogAction {s0 s : State} (h : Kept s0 s) : Kept s0 (watchdogAction s) := by
  unfold watchdogAction
  exact (by extract_lets x0 x1 x3 x4; have h2 : Kept s0 x1 := (kept_mk h); exact (kept_ite h (kept_ite (kept_mk h2) (kept_ite (kept_startFall h2) h2))))

theorem done_execWatchdogAction {s : State} : Done s (execWatchdogAction s) :=
  done_run fun _ _ h => (kept_watchdogAction h)

theorem kept_watchdogRampEnd {s0 s : State} (h : Kept s0 s) : Kept s0 (watchdogRampEnd s) := by
  unfold watchdogRampEnd
  exact (by extract_lets x0 x1; have h2 : Kept s0 x1 := (kept_mk h); exact (kept_ite h (kept_ite (kept_ite h (kept_ite (kept_assertOpen h2) h2)) (kept_ite h (kept_mk h)))))

theorem done_execWatchdogRampEnd {s : State} : Done s (execWatchdogRampEnd s) :=
  done_run fun _ _ h => (kept_watchdogRampEnd h)

theorem kept_hwdJoin {s0 s : State} (h : Kept s0 s) : Kept s0 (hwdJoin s) := by
  unfold hwdJoin
  exact (by extract_lets x0 x1 x2 x4 x6; have h3 : Kept s0 x2 := (kept_mk h); have h5 : Kept s0 x4 := (kept_fReleased h3); (try clear_value x4); exact (kept_ite (kept_setHwd h3) (kept_ite (kept_mk h5) (kept_ite h3 (kept_startFall h3)))))

theorem kept_selvedgeCapture {s0 s : State} (h : Kept s0 s) : Kept s0 (selvedgeCapture s) := by
  unfold selvedgeCapture
  exact (by split; exacts [h, (by extract_lets x0 x1 x2 x4; have h3 : Kept s0 x2 := (kept_mk h); exact (kept_mk h3))])

theorem done_execSelvedgeCapture {s : State} : Done s (execSelvedgeCapture s) :=
  done_run fun _ _ h => (kept_selvedgeCapture h)

theorem kept_selvSwap {s0 s : State} (h : Kept s0 s) {a0 : Bool} : Kept s0 (selvSwap a0 s) := by
  have win : ∀ (t : State) (w : List Host.Cell), Kept s0 t → (Memory.wf t.selv.frags → Memory.wf w) →
      Kept s0 { t with selv := { t.selv with busy := none, frags := [], window := w } } := fun t w ht hw =>
    ⟨⟨ht.pending, ht.free, fun i => by
      have ⟨a, b, c, d, _, f⟩ := ht.inv i
      exact ⟨a, b, c, wf_nil, hw d, f⟩⟩, ht.idle⟩
  unfold selvSwap
  split
  · exact h
  · refine kept_setEvt (kept_State_put (kept_State_putB (kept_State_put (kept_State_put (win s _ h fun d => ?_)))))
    refine wf_putWords (wf_hShare ?_)
    split
    · exact d
    · exact wf_nil

theorem kept_selvFragment {s0 s : State} (h : Kept s0 s) {a0 a1 a2 a3 : Nat} {a4 : List Byte} : Kept s0 (selvFragment a0 a1 a2 a3 a4 s) := by
  unfold selvFragment
  split
  · exact h
  · extract_lets _ s1
    have h1 : Kept s0 s1 := kept_mk h (frags := fun i => wf_setBytes i)
    exact kept_ite (kept_selvSwap h1) h1

theorem kept_selvReqWrite {s0 s : State} (h : Kept s0 s) {a0 : Word} : Kept s0 (selvReqWrite a0 s) := by
  have go : ∀ (t : State) (n : Nat), Kept s0 t → Kept s0 { t with selv := { t.selv with last := n, busy := some n, frags := [] } } :=
    fun t n ht => kept_mk ht (frags := fun _ => wf_nil)
  unfold selvReqWrite
  have h1 : Kept s0 (if a0.toNat / 2 = 0 then s else capture DEVICE_SELV_REQ_GO.addr 2 s) := kept_ite h (kept_capture h)
  exact kept_ite h1 (kept_ite (kept_capture h1) (kept_ite (kept_toF (kept_State_put (go _ _ h1))) (kept_selvSwap (kept_State_put (go _ _ h1)))))

theorem done_execSelvReq {s : State} {a0 : Word} : Done s (execSelvReq a0 s) :=
  done_run fun _ _ h => (kept_selvReqWrite h)

theorem done_execSelvedgeTimeout {s : State} : Done s (execSelvedgeTimeout s) :=
  done_run fun _ _ h => (kept_selvSwap h)

theorem kept_refuseIf {s0 s : State} (h : Kept s0 s) {a0 : Bool} {a1 : Nat} {a2 : Word} : Kept s0 (refuseIf a0 a1 a2 s) := by
  unfold refuseIf
  exact (kept_ite (kept_unlessLocked h (fun _ k0 => (kept_capture k0))) (kept_writeReg h))

theorem kept_rsvBits {s0 s : State} (h : Kept s0 s) {a0 : Nat} {a1 : Nat} {a2 : Word} : Kept s0 (rsvBits a0 a1 a2 s) := by
  unfold rsvBits
  exact (kept_ite h (kept_capture h))

theorem kept_headerWrite {s0 s : State} (h : Kept s0 s) {a0 : Nat} {a1 : Word} : Kept s0 (headerWrite a0 a1 s) := by
  unfold headerWrite
  exact (by extract_lets x0 x1 x3; have h2 : Kept s0 x1 := (kept_writeHeader h); (try clear_value x1); exact (kept_ite (kept_scfailCleared h2) (kept_ite (kept_faultCleared h2) h2)))

theorem kept_shuttleCtlWrite {s0 s : State} (h : Kept s0 s) {a0 : Nat} {a1 : Word} : Kept s0 (shuttleCtlWrite a0 a1 s) := by
  unfold shuttleCtlWrite
  exact (by extract_lets x0 x1; exact (kept_unlessLocked h (fun _ k2 => (by extract_lets x4 x6 x7 x8; have h5 : Kept s0 x4 := (kept_ite (kept_State_put k2) (kept_capture k2)); (try clear_value x4); have h9 : Kept s0 x8 := (kept_ite (kept_mk h5) h5); (try clear_value x8); exact (kept_rsvBits h9)))))

theorem kept_setctlWrite {s0 s : State} (h : Kept s0 s) {a0 : Word} : Kept s0 (setctlWrite a0 s) := by
  unfold setctlWrite
  exact (by extract_lets x0; have h1 : Kept s0 x0 := (kept_ite (kept_setctlArm h) h); (try clear_value x0); exact (kept_rsvBits (kept_ite (kept_setctlCancel h1) h1)))

theorem kept_ppsctlWrite {s0 s : State} (h : Kept s0 s) {a0 : Word} : Kept s0 (ppsctlWrite a0 s) := by
  unfold ppsctlWrite
  exact (by extract_lets x0 x2; have h1 : Kept s0 x0 := (kept_writeReg h); (try clear_value x0); exact (kept_ite (kept_mk h1) h1))

theorem kept_atlctlWrite {s0 s : State} (h : Kept s0 s) {a0 : Word} : Kept s0 (atlctlWrite a0 s) := by
  unfold atlctlWrite
  exact (by extract_lets x0; have h1 : Kept s0 x0 := (kept_writeReg h); (try clear_value x0); exact (kept_ite (kept_atlTrigger h1) h1))

theorem kept_msixMaskWrite {s0 s : State} (h : Kept s0 s) {a0 : Nat} {a1 : Word} : Kept s0 (msixMaskWrite a0 a1 s) := by
  unfold msixMaskWrite
  exact (by extract_lets x0 x2; have h1 : Kept s0 x0 := (kept_writeReg h); (try clear_value x0); exact (kept_ite (kept_emit (kept_State_put h1)) h1))

theorem kept_hthermWrite {s0 s : State} (h : Kept s0 s) {a0 : Nat} {a1 : Word} : Kept s0 (hthermWrite a0 a1 s) := by
  unfold hthermWrite
  exact (by extract_lets x0 x1; have h2 : Kept s0 x1 := (kept_refuseIf h); (try clear_value x1); exact (kept_ite (kept_ntcConfigured h2) h2))

theorem kept_touchWrite {s0 s : State} (h : Kept s0 s) {a0 : Nat} {a1 : Word} : Kept s0 (touchWrite a0 a1 s) := by
  unfold touchWrite
  exact (by extract_lets x0 x1; exact (kept_touchConfigured (kept_refuseIf h)))

theorem kept_louvreWrite {s0 s : State} (h : Kept s0 s) {a0 : Nat} {a1 : Nat} {a2 : Word} : Kept s0 (louvreWrite a0 a1 a2 s) := by
  unfold louvreWrite
  exact (kept_ite (kept_louvreCtlWrite h) (kept_ite (kept_unlessLocked h (fun _ k0 => (kept_capture k0))) (kept_louvEval (kept_writeReg h))))

theorem kept_intcWrite {s0 s : State} (h : Kept s0 s) {a0 : Nat} {a1 : Word} : Kept s0 (intcWrite a0 a1 s) := by
  unfold intcWrite
  exact (by extract_lets x0 x1; exact (kept_ite (kept_rsv0 (kept_pendWrite h)) (kept_ite (kept_rsv0 (kept_pendsetWrite h)) (kept_ite (kept_rsv0 (kept_pendclrWrite h)) (kept_ite (kept_rsv0 (kept_maskWrite h)) (kept_ite (kept_rsv0 (kept_masksetWrite h)) (kept_ite (kept_rsv0 (kept_maskclrWrite h)) (kept_writeReg h))))))))

theorem kept_targetWrite {s0 s : State} (h : Kept s0 s) {a0 : Nat} {a1 : Word} : Kept s0 (targetWrite a0 a1 s) := by
  unfold targetWrite
  exact (by extract_lets x0; exact (kept_ite (kept_srccfgWrite h) (kept_ite (kept_completeWrite h) (kept_ite (kept_announceAll (kept_writeReg h)) (kept_ite (kept_outcfgWrite h) (kept_writeReg h))))))

theorem kept_securityWrite {s0 s : State} (h : Kept s0 s) {a0 : Nat} {a1 : Word} : Kept s0 (securityWrite a0 a1 s) := by
  unfold securityWrite
  exact (by extract_lets x0; exact (kept_ite (kept_rsvBits (kept_quoteGoWrite h)) (kept_ite (kept_fwctlWrite h) (kept_ite (kept_owncertWrite h) (kept_ite (kept_capture h) (kept_ite (kept_certWindowWrite h) (kept_ite (kept_fwWindowWrite h) (kept_writeReg h))))))))

theorem kept_hostifWrite {s0 s : State} (h : Kept s0 s) {a0 : Nat} {a1 : Nat} {a2 : Word} : Kept s0 (hostifWrite a0 a1 a2 s) := by
  unfold hostifWrite
  exact (by extract_lets x0; exact (kept_ite (kept_hwdctlWrite h) (kept_ite (kept_ite (kept_capture h) (kept_hwdkickWrite h)) (kept_ite (kept_msixMaskWrite h) (kept_writeReg h)))))

theorem kept_hWrite {s0 s : State} (h : Kept s0 s) {a0 : Nat} {a1 : Nat} {a2 : Word} : Kept s0 (hWrite a0 a1 a2 s) := by
  unfold hWrite
  exact (by extract_lets x0 x1; exact (kept_ite h (kept_ite (kept_headerWrite h) (kept_ite (kept_ite (kept_selvReqWrite h) (kept_writeReg h)) (kept_ite (kept_targetWrite h) (kept_ite (kept_intcWrite h) (kept_ite (kept_ite (kept_shuttleCtlWrite h) (kept_writeReg h)) (kept_ite (kept_ite (kept_setctlWrite h) (kept_ite (kept_ppsctlWrite h) (kept_ite (kept_atlctlWrite h) (kept_writeReg h)))) (kept_ite (kept_securityWrite h) (kept_ite (kept_ite (kept_lifecycleReqWrite h) (kept_ite (kept_burnWrite h) (kept_writeReg h))) (kept_ite (kept_ite (kept_wicketCtlWrite h) (kept_writeReg h)) (kept_ite (kept_hostifWrite h) (kept_ite (kept_touchWrite h) (kept_ite (kept_ite (kept_serviceCtlWrite h) (kept_writeReg h)) (kept_ite (kept_ite (kept_safetyStopWrite h) (kept_ite (kept_safetyResetWrite h) (kept_writeReg h))) (kept_ite (kept_ite (kept_sealReadWrite h) (kept_writeReg h)) (kept_ite (kept_louvreWrite h) (kept_ite (kept_ite (kept_auxCtlWrite h) (kept_refuseIf h)) (kept_ite (kept_hthermWrite h) (kept_ite (kept_refuseIf h) (kept_ite (kept_ite (kept_s0CfgWrite h) (kept_writeReg h)) (kept_writeReg h))))))))))))))))))))))

theorem kept_windowWrite {s0 s : State} (h : Kept s0 s) {a0 : Nat} {a1 : Nat} {a2 : Word} : Kept s0 (windowWrite a0 a1 a2 s) := by
  unfold windowWrite
  exact (by extract_lets x0; exact (kept_ite (kept_capture h) (kept_ite (kept_capture h) (kept_rsvBits (kept_modEng h)))))

theorem kept_loomWrite {s0 s : State} (h : Kept s0 s) {a0 : Nat} {a1 : Nat} {a2 : Word} : Kept s0 (loomWrite a0 a1 a2 s) := by
  unfold loomWrite
  exact (by extract_lets x0; exact (kept_ite (kept_stepctlWrite h) (kept_ite (kept_steppcWrite h) (kept_ite (kept_windowWrite h) (kept_writeReg h)))))

theorem kept_fWrite {s0 s : State} (h : Kept s0 s) {a0 : Nat} {a1 : Nat} {a2 : Word} : Kept s0 (fWrite a0 a1 a2 s) := by
  unfold fWrite
  exact (by extract_lets x0 x1; exact (kept_ite (kept_paramWrite h) (kept_ite h (kept_ite (kept_headerWrite h) (kept_ite (kept_weaveCtlWrite h) (kept_ite (kept_swctlWrite h) (kept_ite (kept_loomWrite h) (kept_ite (kept_engctlWrite h) (kept_ite (kept_shutctlWrite h) (kept_ite (kept_wardenIrqIn h) (kept_ite (kept_wardenFwctlWrite h) (kept_ite (kept_ringCtlWrite h) (kept_ite (kept_twctlWrite h) (kept_ite (kept_fcmpCfgWrite h) (kept_ite (kept_tripclrWrite h) (kept_ite (kept_scctlWrite h) (kept_ite (kept_chkctlWrite h) (kept_ite (kept_scanctlWrite h) (kept_ite (kept_rsvBits (kept_ite (kept_curvCommit h) h)) (kept_ite (kept_State_put h) (kept_ite (kept_hreqWrite h) (kept_ite (kept_serviceWrite h) (kept_ite (kept_curctlApplied (kept_refuseIf h)) (kept_refuseIf h))))))))))))))))))))))))

theorem kept_applyStaged {s0 s : State} (h : Kept s0 s) {a0 : Nat} {a1 : Word} : Kept s0 (applyStaged a0 a1 s) := by
  unfold applyStaged
  exact (by extract_lets x0; have h1 : Kept s0 x0 := (kept_fWrite h); (try clear_value x0); exact (kept_ite (kept_State_put h1) h1))

theorem kept_writeAt {s0 s : State} (h : Kept s0 s) {a0 : Nat} {a1 : Nat} {a2 : Word} : Kept s0 (writeAt a0 a1 a2 s) := by
  unfold writeAt
  exact (kept_ite (kept_hWrite h) (kept_ite (kept_applyStaged h) (kept_fWrite h)))

theorem done_execRegisterWrite {s : State} {a0 : Nat} {a1 : Nat} {a2 : Word} : Done s (execRegisterWrite a0 a1 a2 s) :=
  done_run fun _ _ h => (kept_writeAt h)

theorem done_execPgevtWrite {s : State} {a0 : Nat} {a1 : Word} : Done s (execPgevtWrite a0 a1 s) :=
  done_run fun _ _ h => (kept_ite (kept_headerWrite h) h)

theorem done_execPgevtset {s : State} {a0 : Nat} {a1 : Word} : Done s (execPgevtset a0 a1 s) :=
  done_run fun _ _ h => (kept_ite (kept_headerWrite h) h)

theorem done_execPgevtclr {s : State} {a0 : Nat} {a1 : Word} : Done s (execPgevtclr a0 a1 s) :=
  done_run fun _ _ h => (kept_ite (kept_headerWrite h) h)

theorem done_execErrclr {s : State} {a0 : Nat} : Done s (execErrclr a0 s) :=
  done_run fun _ _ h => (kept_ite (kept_headerWrite h) h)

theorem done_execPglock {s : State} {a0 : Nat} {a1 : Word} : Done s (execPglock a0 a1 s) :=
  done_run fun _ _ h => (kept_ite (kept_headerWrite h) h)

theorem kept_sendRead {s0 s : State} (h : Kept s0 s) {a0 : Via} {a1 : Nat} {a2 : Nat} {a3 : Nat} : Kept s0 (sendRead a0 a1 a2 a3 s) := by
  unfold sendRead
  exact (by extract_lets x0 x1; exact (kept_toF (kept_mk h)))

theorem kept_readRun {s0 s : State} (h : Kept s0 s) {a0 : Via} {a1 : Nat} {a2 : Nat} {a3 : Nat} {a4 : Nat} : Kept s0 (readRun a0 a1 a2 a3 a4 s).2 := by
  unfold readRun
  exact (by extract_lets x0 x1; exact (kept_ite2 (by split; rename_i w2 t3 q4; exact (fun k5 => k5) (kept_snd (kept_readWords h) q4)) (kept_ite2 h (kept_ite2 h (kept_sendRead h)))))

theorem kept_readRuns {s0 s : State} (h : Kept s0 s) {a0 : Via} {a1 : Nat} {a2 : Nat} {a3 : List (Nat × Nat)} : Kept s0 (readRuns a0 a1 a2 a3 s).2 := by
  unfold readRuns
  exact (by split; exacts [h, (by split; rename_i w0 t1 q2; exact (fun k3 => (by split; rename_i w4 t5 q6; exact (fun k7 => k7) (kept_snd (kept_readRuns k3) q6))) (kept_snd (kept_readRun h) q2))])

theorem kept_gatherRead {s0 s : State} (h : Kept s0 s) {a0 : Via} {a1 : Nat} {a2 : Nat} {a3 : Nat} {a4 : Nat} {a5 : Nat} : Kept s0 (gatherRead a0 a1 a2 a3 a4 a5 s) := by
  unfold gatherRead
  exact (by split; rename_i w0 t1 q2; exact (fun k3 => (by extract_lets x4; exact (kept_fillGather (kept_mk k3)))) (kept_snd (kept_readRuns h) q2))

theorem kept_holdStaged {s0 s : State} (h : Kept s0 s) {a0 : List (Nat × Word)} : Kept s0 (holdStaged a0 s) := by
  unfold holdStaged
  exact (by extract_lets x0 x1 x2 x4; have h3 : Kept s0 x2 := (kept_State_put (kept_mk h)); (try clear_value x2); exact (kept_ite (kept_State_count (kept_mk h3)) h3))

theorem kept_sendFrame {s0 s : State} (h : Kept s0 s) {a0 : List (Nat × Word)} : Kept s0 (sendFrame a0 s) := by
  unfold sendFrame
  exact (by extract_lets x0 x1; exact (kept_ite h (kept_ite (kept_dropWrite h) (kept_ite (kept_capture h) (kept_ite (kept_toF (kept_holdStaged h)) (kept_toF h))))))

theorem kept_acceptWrite {s0 s : State} (h : Kept s0 s) {a0 : Nat} {a1 : List (Nat × Word)} : Kept s0 (acceptWrite a0 a1 s) := by
  unfold acceptWrite
  exact (by extract_lets x0 x5; have h1 : Kept s0 x0 := (kept_foldl h fun _ _ k4 => (kept_ite k4 (kept_hWrite k4))); (try clear_value x0); exact (kept_foldl h1 fun _ _ k8 => (kept_sendFrame k8)))

theorem kept_takeRead {s0 s : State} (h : Kept s0 s) {a0 : Outstanding} {a1 : List Word} : Kept s0 (takeRead a0 a1 s) := by
  unfold takeRead
  exact (by extract_lets x0 x1; exact (by split; exacts [(kept_fillGather h), (kept_fillGather h), (by split; exacts [(kept_ite h (kept_spiAnswer (kept_mk h))), h]), (kept_ite (kept_s0Compare h) (kept_ite (kept_thermCopy h) (kept_ite (kept_quoteWords h) (kept_ite (kept_activateAnswer h) h))))]))

theorem kept_completeRead {s0 s : State} (h : Kept s0 s) {a0 : Nat} {a1 : Nat} {a2 : List Word} : Kept s0 (completeRead a0 a1 a2 s) := by
  unfold completeRead
  exact (by extract_lets x0 x1; have h2 : Kept s0 x1 := (kept_mk h); exact (by split; exacts [h, (kept_ite (kept_takeRead h2) (kept_ite (kept_takeRead h2) (kept_failRead h2)))]))

theorem kept_dropSpiReads {s0 s : State} (h : Kept s0 s) : Kept s0 (dropSpiReads s) := by
  unfold dropSpiReads
  exact (by extract_lets x0; exact (kept_mk h))

theorem kept_svcRead {s0 s : State} (h : Kept s0 s) {a0 : Nat} {a1 : Nat} : Kept s0 (svcRead a0 a1 s) := by
  unfold svcRead
  exact (by extract_lets x0; exact (kept_ite (kept_svcAnswer h) (kept_ite (kept_svcAnswer h) (kept_ite (kept_svcAnswer h) (kept_ite (kept_svcAnswer h) (kept_gatherRead (kept_mk h)))))))

theorem sound_svcWriteRuns (n a : Nat) (l : List Word) (s : State) : Sound s (svcWriteRuns n a l s) := by
  induction n generalizing a l s with
  | zero => exact (kept_svcReply (kept_refl s)).toSound
  | succ n ih =>
    unfold svcWriteRuns
    split
    · exact (kept_svcReply (kept_refl s)).toSound
    · extract_lets ws
      split
      · refine ⟨rfl, Nat.le_refl _, fun i => ?_⟩
        have ⟨a, b, c, d, e, f, g, j, k, l, m⟩ := i
        exact ⟨a, b, c, d, e, f, g, j, k, l, by simp; omega⟩
      · exact (kept_acceptWrite (kept_refl s)).toSound.trans (ih _ _ _)

theorem sound_svcWrite {a : Nat} {l : List Word} {s : State} : Sound s (svcWrite a l s) := by
  have h : ∀ n, Sound s (svcAnswer n s) := fun n => (kept_svcAnswer (kept_refl s)).toSound
  unfold svcWrite
  split
  · exact h _
  split
  · exact h _
  split
  · exact h _
  split
  · exact h _
  · exact sound_svcWriteRuns _ _ _ _

theorem sound_svcHandle {r : SvcReq} {s : State} : Sound s (svcHandle r s) := by
  have h := kept_refl s
  unfold svcHandle
  split
  · exact (kept_svcAnswer h).toSound
  · exact (kept_svcAnswer h).toSound
  · exact (kept_openSession h).toSound
  · exact (kept_ite (kept_closeSession (kept_svcAnswer h)) (kept_svcAnswer h)).toSound
  · exact (kept_svcRead h).toSound
  · exact sound_svcWrite

theorem sound_svcDrainN (n : Nat) (s : State) : Sound s (svcDrainN n s) := by
  induction n generalizing s with
  | zero => exact sound_refl s
  | succ n ih =>
    unfold svcDrainN
    split
    · exact sound_refl s
    · split
      · exact sound_refl s
      · exact sound_svcHandle.trans (ih _)

/-- With no request held, the service port does nothing. -/
theorem svcDrain_idle {s : State} (h : s.svc.held = []) : svcDrain s = s := by
  unfold svcDrain
  rw [h]
  rfl

theorem kept_svcDrain {s0 s : State} (h : Kept s0 s) : Kept s0 (svcDrain s) :=
  ⟨h.toSound.trans (sound_svcDrainN _ _), fun i => by rw [svcDrain_idle (h.idle i)]; exact h.idle i⟩

theorem sound_svcArrive {r : SvcHeld} {s : State} : Sound s (svcArrive r s) := by
  unfold svcArrive
  split
  · exact sound_refl s
  · rename_i hlt
    refine Sound.trans ?_ (sound_svcDrainN _ _)
    refine Sound.trans (t := { s with svc := { s.svc with held := s.svc.held ++ [r] } }) ⟨rfl, Nat.le_refl _, fun i => ?_⟩
      (kept_State_put (kept_refl _)).toSound
    have ⟨a, b, c, d, e, f, g, j, k, l, m⟩ := i
    refine ⟨a, b, c, d, e, f, g, j, k, l, ?_⟩
    simp at hlt ⊢
    omega

theorem done_runS {f : State → State} {s : State} (h : ∀ s0 s, Kept s0 s → Kept s0 (f s)) : Done s (runS f s) :=
  done_run fun s0 s k => kept_svcDrain (h s0 s k)

/-- With no request held, a command after which the service port may go on is its own effect alone. -/
theorem runS_idle {f : State → State} {s : State} (hs : s.svc.held = []) (h : ∀ s0 s, Kept s0 s → Kept s0 (f s)) : runS f s = run f s := by
  have k := (h _ _ (kept_refl { s with out := [] })).idle hs
  exact congrArg Host.Outcome.next (svcDrain_idle k)

theorem done_execSvcOpen {s : State} {k a : Nat} {l : List Word} {b : Bool} : Done s (execSvcOpen k a l b s) := done_sound fun _ => sound_svcArrive

theorem done_execSvcClose {s : State} {k : Nat} : Done s (execSvcClose k s) := done_sound fun _ => sound_svcArrive

theorem done_execSvcRead {s : State} {k a n : Nat} {b : Bool} : Done s (execSvcRead k a n b s) := done_sound fun _ => sound_svcArrive

theorem done_execSvcWrite {s : State} {k a n : Nat} {l : List Word} : Done s (execSvcWrite k a n l s) := done_sound fun _ => sound_svcArrive

theorem done_execSvcPing {s : State} {k : Nat} : Done s (execSvcPing k s) := done_sound fun _ => sound_svcArrive

end Sys2Proof.Machine
end

