-- ==== Sys2Proof/Laws/KeptLink.lean ====
section
/-! SUPPORT. What every operation and every command keeps: the shuttle link, the host interfaces and startup. -/

namespace Sys2Proof.Machine

set_option Elab.async false

theorem Dir.setRx_kept (c : Nat) (b : Bool) (d : Dir) : (d.setRx c b).kept = d.kept := by unfold Dir.setRx; split <;> rfl
theorem Dir.setGood_kept (c n : Nat) (d : Dir) : (d.setGood c n).kept = d.kept := by unfold Dir.setGood; split <;> rfl
theorem Dir.setBad_kept (c : Nat) (n : List Nat) (d : Dir) : (d.setBad c n).kept = d.kept := by unfold Dir.setBad; split <;> rfl
theorem Dir.ack_kept (a : Nat) (d : Dir) : (d.ack a).kept = d.kept := by unfold Dir.ack; split <;> [rfl; (split <;> rfl)]
theorem Dir.setLate_kept (c : Nat) (x : Option Nat) (d : Dir) : (d.setLate c x).kept = d.kept := by unfold Dir.setLate; split <;> rfl

theorem kept_modTo {s0 s : State} (h : Kept s0 s) {a0 : Bool} {a1 : Dir → Dir}
    (hk : ∀ d, d.kept.length ≤ 128 → (a1 d).kept.length ≤ 128 := by
      intro d hd
      first
        | exact hd
        | (simp only [Dir.setRx_kept, Dir.setGood_kept, Dir.setBad_kept, Dir.setLate_kept, Dir.ack_kept]; exact hd)
        | (split <;> exact hd)) : Kept s0 (modTo a0 a1 s) := by
  unfold modTo
  split
  · exact kept_mk h (fh := hk _)
  · exact kept_mk h (hf := hk _)

theorem kept_linkDown {s0 s : State} (h : Kept s0 s) : Kept s0 (linkDown s) := by
  unfold linkDown
  split
  · exact h
  · extract_lets _ _ _ _ _ _ _ _ s1 s2 s3 s4 s5
    have h1 : Kept s0 s1 := kept_mk h (hf := fun _ => Nat.zero_le _) (fh := fun _ => Nat.zero_le _)
    have h3 : Kept s0 s3 := kept_foldl (kept_State_put (kept_State_put (kept_State_put (kept_State_put h1)))) fun _ _ k => kept_backlogPut k
    have h5 : Kept s0 s5 := kept_foldl (kept_foldl h3 fun _ _ k => kept_failRead k) fun _ _ k => kept_irqDropped (kept_dropWrite k)
    exact kept_fWatchdogAlone (kept_setEvt (kept_State_count h5))

theorem kept_linkLost {s0 s : State} (h : Kept s0 s) : Kept s0 (linkLost s) := by
  unfold linkLost
  exact (by extract_lets x0; exact (kept_ite (kept_selvSwap (kept_linkDown (kept_mk h))) h))

theorem kept_issueRingCert {s0 s : State} (h : Kept s0 s) : Kept s0 (issueRingCert s) := by
  unfold issueRingCert
  exact (kept_ite (by split; rename_i w0 t1 q2; exact (fun k3 => (by extract_lets x4; exact (by split; rename_i w5 t6 q7; exact (fun k8 => (by split; rename_i w9 t10 q11; exact (fun k12 => (by extract_lets x13 x14 x16; have h15 : Kept s0 x14 := (kept_State_put k12); (try clear_value x14); exact (kept_mk h15))) (kept_snd (kept_freeWord k8) q11))) (kept_snd (kept_freeWords k3) q7)))) (kept_snd (kept_freeWord h) q2)) h)

theorem kept_askReplay {s0 s : State} (h : Kept s0 s) {a0 : Bool} : Kept s0 (askReplay a0 s) := by
  unfold askReplay
  exact (by extract_lets x0 x1 x2; have h3 : Kept s0 x2 := (kept_modTo h); (try clear_value x2); exact (kept_setEvt (kept_modTo h3)))

theorem kept_askIfLater {s0 s : State} (h : Kept s0 s) {a0 : Bool} {a1 : Nat} : Kept s0 (askIfLater a0 a1 s) := by
  unfold askIfLater
  exact (by extract_lets x0 x1; exact (kept_ite (kept_askReplay h) h))

theorem kept_askIfGap {s0 s : State} (h : Kept s0 s) {a0 : Bool} : Kept s0 (askIfGap a0 s) := by
  unfold askIfGap
  exact (by extract_lets x0; exact (kept_ite (kept_askReplay h) h))

theorem kept_channelOut {s0 s : State} (h : Kept s0 s) {a0 : Bool} {a1 : Nat} : Kept s0 (channelOut a0 a1 s) := by
  unfold channelOut
  exact (by extract_lets x0 x2 x4 x6; have h1 : Kept s0 x0 := (kept_modTo h); (try clear_value x0); have h3 : Kept s0 x2 := (kept_State_put h1); (try clear_value x2); have h5 : Kept s0 x4 := (kept_setEvt (kept_ite (kept_State_count h3) h3)); (try clear_value x4); exact (kept_ite h (kept_ite (kept_linkLost h5) (kept_askIfGap h5))))

theorem kept_rejoin {s0 s : State} (h : Kept s0 s) {a0 : Bool} {a1 : Nat} : Kept s0 (rejoin a0 a1 s) := by
  unfold rejoin
  exact (by extract_lets x0; have h1 : Kept s0 x0 := (kept_modTo h); (try clear_value x0); exact (kept_setEvt (kept_State_put h1)))

theorem kept_trainFrame {s0 s : State} (h : Kept s0 s) {a0 : Bool} {a1 : Nat} : Kept s0 (trainFrame a0 a1 s) := by
  unfold trainFrame
  exact (by extract_lets x0; exact (kept_ite h (kept_ite (kept_rejoin h) (kept_modTo h))))

theorem kept_deliverF {s0 s : State} (h : Kept s0 s) {a0 : Payload} : Kept s0 (deliverF a0 s) := by
  unfold deliverF
  exact (by extract_lets x0 x1 x2; exact (by split; exacts [(kept_mk h), (kept_ite (kept_mk h) (kept_mk h)), (by extract_lets x3 x4 x5; have h6 : Kept s0 x5 := (kept_mk h); exact (kept_State_put h6)), (kept_ite (kept_weaveBulk h) (kept_ite (kept_wardenBulk h) h)), h]))

theorem kept_deliverH {s0 s : State} (h : Kept s0 s) {a0 : Payload} : Kept s0 (deliverH a0 s) := by
  unfold deliverH
  exact (by split; exacts [(kept_completeRead h), (kept_deliverEvent h), (kept_selvFragment h), h])

theorem kept_deliver {s0 s : State} (h : Kept s0 s) {a0 : Bool} {a1 : Payload} : Kept s0 (deliver a0 a1 s) := by
  unfold deliver
  exact (kept_ite (kept_deliverH h) (kept_deliverF h))

theorem kept_deliverHeld {s0 s : State} (h : Kept s0 s) {a0 : Bool} {a1 : Nat} : Kept s0 (deliverHeld a0 a1 s) := by
  unfold deliverHeld
  exact (by split; exacts [h, (by extract_lets x0; exact (by split; exacts [h, (by extract_lets x1; have h2 : Kept s0 x1 := (kept_modTo h); (try clear_value x1); exact (kept_deliverHeld (kept_deliver h2)))]))])

theorem kept_receive {s0 s : State} (h : Kept s0 s) {a0 : Bool} {a1 : Nat} {a2 : Nat} {a3 : Payload} : Kept s0 (receive a0 a1 a2 a3 s) := by
  unfold receive
  exact (by extract_lets x0 x1 x2 x3 x5 x7; have h4 : Kept s0 x3 := (kept_modTo h); (try clear_value x3); have h6 : Kept s0 x5 := (kept_modTo h4); (try clear_value x5); exact (kept_ite h (kept_ite (kept_trainFrame h) (kept_ite (kept_askIfGap (kept_deliverHeld (kept_deliver h6))) (kept_ite (kept_askIfGap (kept_modTo h4)) (kept_ite h4 (kept_linkLost h)))))))

theorem done_execReadReq {s : State} {a0 : Nat} {a1 : Nat} {a2 : Nat} {a3 : Nat} {a4 : Nat} {a5 : Nat} : Done s (execReadReq a0 a1 a2 a3 a4 a5 s) :=
  done_runS fun _ _ h => (kept_receive h)

theorem done_execReadRsp {s : State} {a0 : Nat} {a1 : Nat} {a2 : Nat} {a3 : Nat} {a4 : Nat} {a5 : List Word} : Done s (execReadRsp a0 a1 a2 a3 a4 a5 s) :=
  done_runS fun _ _ h => (kept_receive h)

theorem done_execPostedWr {s : State} {a0 : Nat} {a1 : Nat} {a2 : Nat} {a3 : List Word} : Done s (execPostedWr a0 a1 a2 a3 s) :=
  done_runS fun _ _ h => (kept_receive h)

theorem done_execStagedWr {s : State} {a0 : Nat} {a1 : Nat} {a2 : Nat} {a3 : List Word} : Done s (execStagedWr a0 a1 a2 a3 s) :=
  done_runS fun _ _ h => (kept_receive h)

theorem done_execEvent {s : State} {a0 : Nat} {a1 : Nat} {a2 : Event} : Done s (execEvent a0 a1 a2 s) :=
  done_runS fun _ _ h => (kept_receive h)

theorem done_execBulk {s : State} {a0 : Nat} {a1 : Nat} {a2 : Nat} {a3 : Nat} {a4 : Nat} {a5 : Nat} {a6 : List Byte} : Done s (execBulk a0 a1 a2 a3 a4 a5 a6 s) :=
  done_runS fun _ _ h => (kept_receive h)

theorem done_execSelvFrag {s : State} {a0 : Nat} {a1 : Nat} {a2 : Nat} {a3 : Nat} {a4 : Nat} {a5 : Nat} {a6 : List Byte} : Done s (execSelvFrag a0 a1 a2 a3 a4 a5 a6 s) :=
  done_runS fun _ _ h => (kept_receive h)

theorem kept_atlPair {s0 s : State} (h : Kept s0 s) {a0 : Nat} {a1 : Nat} {a2 : Nat} {a3 : Nat} : Kept s0 (atlPair a0 a1 a2 a3 s) := by
  unfold atlPair
  exact (by extract_lets x0 x1 x3 x5 x7; have h2 : Kept s0 x1 := (kept_State_put (kept_State_put (kept_State_put h))); (try clear_value x1); have h4 : Kept s0 x3 := (kept_State_put (kept_State_put (kept_State_put h2))); (try clear_value x3); have h6 : Kept s0 x5 := (kept_setEvt (kept_State_countWrap h4)); (try clear_value x5); exact (kept_ite (kept_raiseF h6) (kept_ite (kept_mk h6) h6)))

theorem kept_imageMark {s0 s : State} (h : Kept s0 s) {a0 : Stamp} : Kept s0 (imageMark a0 s) := by
  unfold imageMark
  exact (by extract_lets x0 x1 x2; have h3 : Kept s0 x2 := (kept_mk h); exact (kept_ite (kept_State_put h3) h3))

theorem kept_takeMark {s0 s : State} (h : Kept s0 s) {a0 : Bool} {a1 : Stamp} {a2 : Nat} {a3 : Nat} {a4 : Nat} {a5 : Nat} {a6 : Nat} : Kept s0 (takeMark a0 a1 a2 a3 a4 a5 a6 s) := by
  unfold takeMark
  exact (by extract_lets x0 x1 x2 x3 x4; have h5 : Kept s0 x4 := (kept_modTo (kept_State_addSat h)); (try clear_value x4); exact (kept_ite h (kept_ite (kept_ite (kept_imageMark h5) h5) (kept_ite (kept_atlPair h5) h5))))

theorem kept_timeMark {s0 s : State} (h : Kept s0 s) {a0 : Bool} {a1 : Nat} {a2 : Nat} {a3 : Stamp} {a4 : Nat} {a5 : Nat} {a6 : Nat} {a7 : Nat} {a8 : Nat} {a9 : Nat} : Kept s0 (timeMark a0 a1 a2 a3 a4 a5 a6 a7 a8 a9 s) := by
  unfold timeMark
  exact (kept_ite h (kept_ite (kept_trainFrame h) (kept_takeMark (kept_askIfLater (kept_ite (kept_clockAdvance h) h)))))

theorem done_execTimeMark {s : State} {a0 : Bool} {a1 : Nat} {a2 : Nat} {a3 : Stamp} {a4 : Nat} {a5 : Nat} {a6 : Nat} {a7 : Nat} {a8 : Nat} {a9 : Nat} : Done s (execTimeMark a0 a1 a2 a3 a4 a5 a6 a7 a8 a9 s) :=
  done_runS fun _ _ h => (kept_timeMark h)

theorem kept_calMark {s0 s : State} (h : Kept s0 s) {a0 : Bool} : Kept s0 (calMark a0 s) := by
  unfold calMark
  exact (kept_modTo h)

theorem done_execCalibrationMark {s : State} {a0 : Nat} {a1 : Nat} : Done s (execCalibrationMark a0 a1 s) :=
  done_run fun s0 _ h => (by extract_lets x0 x1 x3 x4; have h2 : Kept s0 x1 := (kept_State_put (kept_calMark (kept_calMark h))); (try clear_value x1); exact (kept_ite (kept_mk h2) h))

theorem kept_doReplay {s0 s : State} (h : Kept s0 s) {a0 : Bool} {a1 : Nat} : Kept s0 (doReplay a0 a1 s) := by
  unfold doReplay
  exact (by extract_lets x0 x1 x2; have h3 : Kept s0 x2 := (kept_modTo h); (try clear_value x2); exact (kept_ite (kept_linkLost h) (kept_ite h (kept_setEvt (kept_State_count h3)))))

theorem kept_takeBits {s0 s : State} (h : Kept s0 s) {a0 : Nat} : Kept s0 (takeBits a0 s) := by
  unfold takeBits
  exact (by extract_lets x0 x1 x2 x4; have h3 : Kept s0 x2 := (kept_mk h); have h5 : Kept s0 x4 := (kept_State_putB (kept_State_putB (kept_State_putB (kept_State_putB h3)))); (try clear_value x4); exact (kept_ite h5 (kept_rearm h5)))

theorem kept_keepalive {s0 s : State} (h : Kept s0 s) {a0 : Bool} {a1 : Nat} {a2 : Nat} {a3 : Nat} {a4 : Nat} : Kept s0 (keepalive a0 a1 a2 a3 a4 s) := by
  unfold keepalive
  exact (by extract_lets x0 x1 x3; have h2 : Kept s0 x1 := (kept_modTo (kept_askIfLater h)); (try clear_value x1); have h4 : Kept s0 x3 := (kept_ite (kept_takeBits h2) h2); (try clear_value x3); exact (kept_ite h (kept_ite (kept_trainFrame h) (kept_ite (kept_doReplay h4) h4))))

theorem done_execKeepalive {s : State} {a0 : Bool} {a1 : Nat} {a2 : Nat} {a3 : Nat} {a4 : Nat} : Done s (execKeepalive a0 a1 a2 a3 a4 s) :=
  done_runS fun _ _ h => (kept_keepalive h)

theorem kept_putFrame {s0 s : State} (h : Kept s0 s) {a0 : Bool} {a1 : Frame} : Kept s0 (putFrame a0 a1 s) := by
  unfold putFrame
  exact (kept_emit h)

theorem kept_transmit {s0 s : State} (h : Kept s0 s) {a0 : Bool} {a1 : Payload} : Kept s0 (transmit a0 a1 s) := by
  unfold transmit
  extract_lets d f s1
  have h1 : Kept s0 s1 := kept_ite (kept_modTo h fun d _ => by simp) h
  exact kept_putFrame h1

theorem kept_sendKeepalive {s0 s : State} (h : Kept s0 s) {a0 : Bool} {a1 : Bool} : Kept s0 (sendKeepalive a0 a1 s) := by
  unfold sendKeepalive
  exact (by extract_lets x0 x1; have h2 : Kept s0 x1 := (kept_modTo h); (try clear_value x1); exact (kept_transmit h2))

theorem kept_sendBulk {s0 s : State} (h : Kept s0 s) {a0 : Bool} : Kept s0 (sendBulk a0 s) := by
  unfold sendBulk
  split
  · exact h
  · extract_lets s1
    have h1 : Kept s0 s1 := kept_transmit (kept_modTo h)
    split
    · exact kept_State_countWrap h1
    · exact kept_ite (kept_mk h1) h1
    · exact h1

theorem kept_chosenFrame {s0 s : State} (h : Kept s0 s) {a0 : Bool} {a1 : Nat} : Kept s0 (chosenFrame a0 a1 s) := by
  unfold chosenFrame
  exact (by extract_lets x0 x1; have h2 : ∀ v3, Kept s0 v3 → Kept s0 (x1 v3) := (by intro v3 k4; unfold x1; exact (kept_modTo k4)); exact (kept_ite (kept_sendKeepalive h) (kept_ite (kept_sendBulk h) (by split; exacts [(kept_transmit (kept_modTo (h2 _ h))), (by split; exacts [(kept_putFrame (kept_modTo (h2 _ h))), (by split; exacts [(kept_transmit (kept_modTo (h2 _ h))), (kept_ite (kept_sendBulk h) h)])])]))))

theorem kept_frameSlot {s0 s : State} (h : Kept s0 s) {a0 : Bool} {a1 : Nat} : Kept s0 (frameSlot a0 a1 s) := by
  unfold frameSlot
  exact (by extract_lets x0; exact (kept_ite h (kept_ite (kept_transmit (kept_modTo (kept_mk h))) (kept_chosenFrame h))))

theorem done_execFrameSlot {s : State} {a0 : Bool} {a1 : Nat} : Done s (execFrameSlot a0 a1 s) :=
  done_run fun _ _ h => (kept_frameSlot h)

theorem done_execKeepaliveIdle {s : State} {a0 : Bool} : Done s (execKeepaliveIdle a0 s) :=
  done_run fun _ _ h => (kept_ite (kept_sendKeepalive h) h)

theorem done_execReplayRequest {s : State} {a0 : Bool} : Done s (execReplayRequest a0 s) :=
  done_run fun s0 _ h => (by extract_lets x0; have h1 : Kept s0 x0 := (kept_askIfGap h); (try clear_value x0); exact (kept_ite h (kept_ite (kept_sendKeepalive h1) h1)))

theorem done_execReplayRequestTimeout {s : State} {a0 : Bool} : Done s (execReplayRequestTimeout a0 s) :=
  done_run fun _ _ h => (by extract_lets x0; exact (kept_ite (kept_askReplay h) h))

theorem done_execReplayRepeat {s : State} {a0 : Bool} : Done s (execReplayRepeat a0 s) :=
  done_runS fun _ _ h => (by extract_lets x0; exact (kept_ite h (kept_ite (kept_askReplay h) (kept_linkLost h))))

theorem kept_corruptFrame {s0 s : State} (h : Kept s0 s) {a0 : Bool} {a1 : Nat} {a2 : Nat} {a3 : List Byte} : Kept s0 (corruptFrame a0 a1 a2 a3 s) := by
  unfold corruptFrame
  exact (by extract_lets x0 x1 x3 x4; have h2 : Kept s0 x1 := (kept_State_count h); (try clear_value x1); have h5 : Kept s0 x4 := (kept_modTo h2); (try clear_value x4); exact (kept_ite h (kept_ite (kept_ite (kept_modTo h) h) (kept_ite h5 (kept_channelOut h5)))))

theorem done_execCorruptFrame {s : State} {a0 : Bool} {a1 : Nat} {a2 : Nat} {a3 : List Byte} : Done s (execCorruptFrame a0 a1 a2 a3 s) :=
  done_runS fun _ _ h => (kept_corruptFrame h)

theorem done_execChannelSilent {s : State} {a0 : Bool} {a1 : Nat} : Done s (execChannelSilent a0 a1 s) :=
  done_runS fun _ _ h => (kept_ite h (kept_channelOut h))

theorem done_execChannelRetrain {s : State} {a0 : Bool} {a1 : Nat} : Done s (execChannelRetrain a0 a1 s) :=
  done_run fun _ _ h => (by extract_lets x0; exact (kept_ite h (kept_modTo h)))

theorem kept_retellLevels {s0 s : State} (h : Kept s0 s) : Kept s0 (retellLevels s) := by
  unfold retellLevels
  exact (by extract_lets x0; exact (kept_foldl (kept_mk h) fun _ _ k3 => (kept_raiseF k3)))

theorem kept_shareState {s0 s : State} (h : Kept s0 s) : Kept s0 (shareState s) := by
  unfold shareState
  exact (by extract_lets x0; have h1 : Kept s0 x0 := (kept_passSeal (kept_shareMode h)); (try clear_value x0); exact (kept_ite (kept_toF h1) h1))

theorem kept_linkUp {s0 s : State} (h : Kept s0 s) {a0 a1 : Nat} : Kept s0 (linkUp a0 a1 s) := by
  have up : ∀ (q : List Payload) (nr : Bool), Kept s0 { s with
      link := { s.link with up := true, hf := s.link.hf.fresh a0 [], fh := s.link.fh.fresh a1 q, backlog := [], lostNow := 0, fNotReady := nr } } :=
    fun q nr => kept_mk h (backlog := fun _ => Nat.zero_le _) (hf := fun _ => Nat.zero_le _) (fh := fun _ => Nat.zero_le _)
  have bits : ∀ (t : State) (x y : Nat), Kept s0 t → Kept s0 { t with link.fh.lastBits := x, link.hf.lastBits := y } :=
    fun t x y ht => kept_mk ht
  unfold linkUp
  exact kept_ite h (kept_issueRingCert (kept_hwdJoin (kept_setEvt (kept_shareState (kept_State_put (bits _ _ _ (kept_takeBits (kept_State_put
    (kept_retellLevels (kept_State_put (kept_State_put (kept_State_put (kept_State_put (kept_State_put (kept_State_put (up _ _))))))))))))))))

theorem done_execLinkUp {s : State} {a0 : Nat} {a1 : Nat} : Done s (execLinkUp a0 a1 s) :=
  done_runS fun _ _ h => (kept_linkUp h)

theorem done_execLinkDownTimeout {s : State} : Done s (execLinkDownTimeout s) :=
  done_run fun _ _ h => (kept_ite h (kept_demand h))

theorem done_execReadResponseTimeout {s : State} {a0 : Nat} : Done s (execReadResponseTimeout a0 s) :=
  done_runS fun _ _ h => (by extract_lets x0; exact (by split; exacts [h, (kept_failRead (kept_mk h))]))

theorem kept_bootWords {s0 s : State} (h : Kept s0 s) {a0 : Nat} {a1 : Nat} {a2 : Nat} : Kept s0 (bootWords a0 a1 a2 s).2 := by
  unfold bootWords
  exact (by split; exacts [h, (by split; rename_i w0 t1 q2; exact (fun k3 => (by split; rename_i w4 t5 q6; exact (fun k7 => k7) (kept_snd (kept_bootWords k3) q6))) (kept_snd (kept_ite2 (kept_readWord h) h) q2))])

theorem kept_pcieRead {s0 s : State} (h : Kept s0 s) {a0 : Nat} {a1 : Nat} {a2 : Nat} {a3 : Nat} : Kept s0 (pcieRead a0 a1 a2 a3 s) := by
  unfold pcieRead
  exact (by extract_lets x0; exact (kept_ite h (kept_ite (by split; rename_i w1 t2 q3; exact (fun k4 => (kept_emit k4)) (kept_snd (kept_bootWords h) q3)) (kept_gatherRead h))))

theorem kept_pcieRequest {s0 s : State} (h : Kept s0 s) {a0 : Nat} {a1 : PcieRead} {a2 : Nat} : Kept s0 (pcieRequest a0 a1 a2 s) := by
  unfold pcieRequest
  exact (by split; exacts [(kept_pcieRead h), (kept_ite (kept_emit h) h), (kept_ite (kept_emit h) h)])

theorem done_execPcieReadTlp {s : State} {a0 : Nat} {a1 : PcieRead} {a2 : Nat} : Done s (execPcieReadTlp a0 a1 a2 s) :=
  done_run fun _ _ h => (kept_pcieRequest h)

theorem kept_partialWord {s0 s : State} (h : Kept s0 s) {a0 : Nat} : Kept s0 (partialWord a0 s) := by
  unfold partialWord
  exact (by extract_lets x0; exact (kept_ite h (kept_ite (kept_dropWrite h) (kept_capture h))))

theorem kept_pcieWords {s0 s : State} (h : Kept s0 s) {a0 : Nat} {a1 : Nat} {a2 : List (Word × Nat)} {a3 : List (Nat × Word)} : Kept s0 (pcieWords a0 a1 a2 a3 s) := by
  unfold pcieWords
  exact (by split; exacts [(kept_acceptWrite h), (kept_ite (kept_pcieWords h) (kept_pcieWords (kept_partialWord (kept_acceptWrite h))))])

theorem kept_bootWrite {s0 s : State} (h : Kept s0 s) {a0 : Nat} {a1 : List (Word × Nat)} : Kept s0 (bootWrite a0 a1 s) := by
  unfold bootWrite
  exact (by split; exacts [h, (kept_bootWrite (kept_ite h (kept_ite (kept_hWrite h) (kept_capture h))))])

theorem kept_pcieWrite {s0 s : State} (h : Kept s0 s) {a0 : Nat} {a1 : List (Word × Nat)} : Kept s0 (pcieWrite a0 a1 s) := by
  unfold pcieWrite
  exact (by extract_lets x0; exact (kept_ite h (kept_ite (kept_bootWrite h) (kept_pcieWords h))))

theorem kept_pcieConfigReset {s0 s : State} (h : Kept s0 s) : Kept s0 (pcieConfigReset s) :=
  kept_mk h (regs := fun i => regs_filter i _)

theorem kept_sendPending {s0 s : State} (h : Kept s0 s) : Kept s0 (sendPending s) := by
  unfold sendPending
  exact (kept_ite h (kept_foldl h fun _ _ k2 => (by extract_lets x3; exact (kept_ite (kept_emit (kept_State_put k2)) k2))))

theorem kept_configWrite {s0 s : State} (h : Kept s0 s) {a0 : CfgItem} : Kept s0 (configWrite a0 s) := by
  unfold configWrite
  exact (kept_ite h (by split; exacts [(by extract_lets x0; exact (kept_sendPending (kept_mk h))), (by extract_lets x1; exact (kept_sendPending (kept_mk h))), (by extract_lets x2; exact (kept_ite (kept_mk h) h)), (by extract_lets x3; exact (kept_ite (kept_mk h) h)), (by extract_lets x4; exact (kept_mk h)), (by extract_lets x5; exact (kept_mk h)), (kept_pcieConfigReset h)]))

theorem kept_pcieWriteRequest {s0 s : State} (h : Kept s0 s) {a0 : PcieWrite} : Kept s0 (pcieWriteRequest a0 s) := by
  unfold pcieWriteRequest
  exact (by split; exacts [(kept_pcieWrite h), (kept_configWrite h)])

theorem done_execPcieWriteTlp {s : State} {a0 : PcieWrite} : Done s (execPcieWriteTlp a0 s) :=
  done_runS fun _ _ h => (kept_pcieWriteRequest h)

theorem kept_bar2Write {s0 s : State} (h : Kept s0 s) {a0 : Nat} {a1 : List Byte} : Kept s0 (bar2Write a0 a1 s) := by
  unfold bar2Write
  exact (by extract_lets x0 x1 x2; exact (kept_ite h (kept_ite (kept_setEvt (kept_State_count h)) (kept_ite (kept_mk h) (kept_foldl h fun _ _ k5 => (kept_dropWrite k5))))))

theorem done_execBar2Write {s : State} {a0 : Nat} {a1 : List Byte} : Done s (execBar2Write a0 a1 s) :=
  done_run fun _ _ h => (kept_bar2Write h)

theorem done_execFlr {s : State} : Done s (execFlr s) :=
  done_run fun _ _ h => (kept_ite (kept_pcieConfigReset h) h)

theorem kept_pcieDown {s0 s : State} (h : Kept s0 s) : Kept s0 (pcieDown s) := by
  unfold pcieDown
  exact (by extract_lets x0 x1 x3 x4; have h2 : Kept s0 x1 := (kept_pcieConfigReset h); (try clear_value x1); have h5 : Kept s0 x4 := (kept_mk h2); exact (kept_ite h (kept_setEvt (kept_State_put (kept_State_put (kept_State_put h5))))))

theorem done_execPcieLinkDown {s : State} : Done s (execPcieLinkDown s) :=
  done_run fun _ _ h => (kept_pcieDown h)

theorem kept_spiReadFrame {s0 s : State} (h : Kept s0 s) {a0 : Nat} {a1 : Nat} {a2 : Nat} : Kept s0 (spiReadFrame a0 a1 a2 s) := by
  unfold spiReadFrame
  exact (by extract_lets x0 x1 x3 x4 x5 x6 x8; have h2 : Kept s0 x1 := (kept_dropSpiReads h); (try clear_value x1); have h7 : Kept s0 x6 := (kept_State_put h2); (try clear_value x6); exact (kept_ite h (kept_ite (kept_spiAnswer (kept_mk h2)) (kept_ite (kept_sendRead (kept_mk h7)) (by split; rename_i w9 t10 q11; exact (fun k12 => (by extract_lets x13; exact (kept_spiAnswer (kept_mk k12)))) (kept_snd (kept_ite2 h7 (kept_readWords h7)) q11))))))

theorem done_execSpiRead {s : State} {a0 : Nat} {a1 : Nat} {a2 : Nat} : Done s (execSpiRead a0 a1 a2 s) :=
  done_run fun _ _ h => (kept_spiReadFrame h)

theorem done_execSpiQread {s : State} {a0 : Nat} {a1 : Nat} {a2 : Nat} : Done s (execSpiQread a0 a1 a2 s) :=
  done_run fun _ _ h => (kept_spiReadFrame h)

theorem kept_spiDrop {s0 s : State} (h : Kept s0 s) : Kept s0 (spiDrop s) := by
  unfold spiDrop
  exact (by extract_lets x0; exact (kept_mk h))

theorem kept_spiWriteFrame {s0 s : State} (h : Kept s0 s) {a0 : Nat} {a1 : Nat} {a2 : List Word} {a3 : Nat} : Kept s0 (spiWriteFrame a0 a1 a2 a3 s) := by
  unfold spiWriteFrame
  exact (by extract_lets x0 x1 x2 x4 x5 x7 x8; have h3 : Kept s0 x2 := (kept_dropSpiReads h); (try clear_value x2); have h6 : Kept s0 x5 := (kept_mk h3); have h9 : Kept s0 x8 := (kept_State_put h6); (try clear_value x8); exact (kept_ite h (kept_ite (kept_setEvt (kept_State_count (kept_mk h6))) (kept_ite (kept_spiDrop h6) (kept_ite (kept_acceptWrite (kept_spiDrop h9)) (kept_acceptWrite h9))))))

theorem done_execSpiWrite {s : State} {a0 : Nat} {a1 : List Word} {a2 : Nat} : Done s (execSpiWrite a0 a1 a2 s) :=
  done_runS fun _ _ h => (kept_spiWriteFrame h)

theorem done_execSpiQwrite {s : State} {a0 : Nat} {a1 : List Word} {a2 : Nat} : Done s (execSpiQwrite a0 a1 a2 s) :=
  done_runS fun _ _ h => (kept_spiWriteFrame h)

theorem done_execSpiStatus {s : State} : Done s (execSpiStatus s) :=
  done_run fun s0 _ h => (by extract_lets x0 x2; have h1 : Kept s0 x0 := (kept_dropSpiReads h); (try clear_value x0); exact (kept_ite h (kept_spiAnswer (kept_mk h1))))

theorem done_execSpiInvalidCommand {s : State} {a0 : Nat} : Done s (execSpiInvalidCommand a0 s) :=
  done_run fun s0 _ h => (by extract_lets x0 x2; have h1 : Kept s0 x0 := (kept_dropSpiReads h); (try clear_value x0); exact (kept_ite h (kept_mk h1)))

theorem done_execSpiStatusDeadline {s : State} : Done s (execSpiStatusDeadline s) :=
  done_run fun _ _ h => (by split; exacts [(by extract_lets x0; exact (kept_ite h (kept_spiAnswer (kept_dropSpiReads (kept_mk h))))), h])

theorem done_execSpiCsRise {s : State} : Done s (execSpiCsRise s) :=
  done_run fun s0 _ h => (by extract_lets x0 x1 x3 x5; have h2 : Kept s0 x1 := (kept_mk h); have h4 : Kept s0 x3 := (kept_State_count h2); (try clear_value x3); exact (kept_ite (kept_dropSpiReads (kept_mk h4)) h2))

theorem kept_respond {s0 s : State} (h : Kept s0 s) {a0 : Nat} {a1 : Nat} {a2 : Nat} {a3 : List Word} : Kept s0 (respond a0 a1 a2 a3 s) := by
  unfold respond
  exact (by extract_lets x0 x1; exact (kept_mk h))

theorem kept_executeAccess {s0 s : State} (h : Kept s0 s) {a0 : Nat} {a1 : Payload} : Kept s0 (executeAccess a0 a1 s) := by
  unfold executeAccess
  exact (by split; exacts [(by extract_lets x0; exact (kept_ite (kept_respond h) (kept_ite (kept_respond h) (kept_ite (kept_respond h) (by split; rename_i w1 t2 q3; exact (fun k4 => (kept_respond k4)) (kept_snd (kept_readWords h) q3)))))), (kept_ite h (kept_foldl h fun _ _ k7 => (kept_ite (kept_fWrite k7) k7))), h])

theorem kept_executeAccesses {s0 s : State} (h : Kept s0 s) {a0 : Nat} {a1 : Nat} : Kept s0 (executeAccesses a0 a1 s) := by
  unfold executeAccesses
  exact (by split; exacts [h, (by split; exacts [h, (by extract_lets x0; exact (kept_executeAccesses (kept_executeAccess (kept_mk h))))])])

theorem done_execHostAccessExecute {s : State} {a0 : Nat} : Done s (execHostAccessExecute a0 s) :=
  done_run fun _ _ h => (kept_ite (kept_executeAccesses h) h)

theorem kept_gate {s0 s : State} (h : Kept s0 s) : Kept s0 (gate s) := by
  unfold gate
  exact (by extract_lets x0 x1 x2 x3 x4 x9; have h5 : Kept s0 x4 := (kept_foldl (kept_mk h) fun _ _ k8 => (kept_applyStaged k8)); (try clear_value x4); have h10 : Kept s0 x9 := (kept_foldl h5 fun _ _ k13 => (kept_ite (kept_applyStaged k13) k13)); (try clear_value x9); exact (kept_ite h (by split; exacts [(kept_executeAccesses h10)])))

theorem done_execGateHeddle {s : State} : Done s (execGateHeddle s) :=
  done_run fun _ _ h => (kept_gate h)

theorem done_execHSupplyInRange {s : State} : Done s (execHSupplyInRange s) :=
  done_run fun _ _ h => (by extract_lets x0; exact (kept_ite (kept_mk h) h))

theorem kept_trainPcie {s0 s : State} (h : Kept s0 s) : Kept s0 (trainPcie s) := by
  unfold trainPcie
  exact (by split; rename_i w0 t1 q2; exact (fun k3 => (by split; rename_i w4 t5 q6; exact (fun k7 => (kept_State_put (kept_State_put (kept_State_put k7)))) (kept_snd (kept_freeWord k3) q6))) (kept_snd (kept_freeWord h) q2))

theorem kept_hDieRelease {s0 s : State} (h : Kept s0 s) : Kept s0 (hDieRelease s) := by
  unfold hDieRelease
  exact (by extract_lets x0 x1; have h2 : Kept s0 x1 := (kept_compareMirror (kept_loadFuses (kept_mk h))); (try clear_value x1); exact (kept_ite h (kept_ite h2 (kept_trainPcie h2))))

theorem done_execHDieResetRelease {s : State} : Done s (execHDieResetRelease s) :=
  done_run fun _ _ h => (kept_hDieRelease h)

theorem done_execHFirmwareStart {s : State} : Done s (execHFirmwareStart s) :=
  done_run fun _ _ h => (kept_ite (kept_issueRingCert (kept_hStart h)) h)

theorem kept_hDieReset {s0 s : State} (h : Kept s0 s) : Kept s0 (hDieReset s) := by
  have cut : Kept s0 { s with link := { s.link with reads := [], gathers := [] }, selv := Selv.reset } :=
    kept_mk h (frags := fun _ => wf_nil) (window := fun _ => wf_nil)
  have hold : ∀ t : State, Kept s0 t → Kept s0 { t with
      pwr := { t.pwr with h := .hold, gatesLow := true, restarting := false }
      link := { t.link with hf := Dir.reset, nextTag := 0, fNotReady := true, soon := [] } } := fun t ht => kept_mk ht (hf := fun _ => Nat.zero_le _)
  unfold hDieReset
  exact kept_ite h (kept_hPagesReset (hold _ (kept_linkLost cut)))

theorem done_execHDieReset {s : State} : Done s (execHDieReset s) :=
  done_run fun _ _ h => (kept_hDieReset h)

theorem done_execRefclkHLoss {s : State} : Done s (execRefclkHLoss s) :=
  done_run fun _ _ h => (kept_hDieReset h)

theorem done_execPcieReset {s : State} {a0 : Bool} : Done s (execPcieReset a0 s) :=
  done_run fun s0 _ h => (by extract_lets x0 x1; have h2 : Kept s0 x1 := (kept_mk h); exact (kept_ite (kept_pcieDown h2) (kept_ite (kept_trainPcie h2) h2)))

theorem done_execFSupplyInRange {s : State} : Done s (execFSupplyInRange s) :=
  done_run fun _ _ h => (by extract_lets x0; exact (kept_ite (kept_mk h) h))

theorem kept_rampProfile {s0 s : State} (h : Kept s0 s) : Kept s0 (rampProfile s) := by
  unfold rampProfile
  exact (by extract_lets x0; exact (kept_State_setRaw (kept_State_putB h)))

theorem done_execFDieResetRelease {s : State} : Done s (execFDieResetRelease s) :=
  done_run fun _ _ h => (by extract_lets x0; exact (kept_ite h (kept_rampProfile (kept_mk h))))

theorem kept_fDieReset {s0 s : State} (h : Kept s0 s) : Kept s0 (fDieReset s) := by
  unfold fDieReset
  extract_lets hh l _ _ _ s1 s2 w _ _ _ s3
  have h1 : Kept s0 s1 := kept_mk h (regs := fun i => regs_filter i _) (backlog := fun _ => Nat.zero_le _) (fh := fun _ => Nat.zero_le _)
    (stby := fun _ => wf_nil) (banks := fun _ b hb => by
      have : b.content = [] := by
        have : ∀ x ∈ WeaveSt.reset.banks, x.content = [] := by decide
        exact this b hb
      rw [this]; exact wf_nil)
  have h2 : Kept s0 s2 := kept_mk h1
  have h3 : Kept s0 s3 := kept_mk h2
  exact kept_State_put h3

theorem done_execFSupplyLoss {s : State} : Done s (execFSupplyLoss s) :=
  done_runS fun s0 _ h => (by extract_lets x0 x2; have h1 : Kept s0 x0 := (kept_fDieReset (kept_linkLost h)); (try clear_value x0); exact (kept_ite h (kept_mk h1)))

theorem done_execPllStep {s : State} : Done s (execPllStep s) :=
  done_run fun s0 _ h => (by extract_lets x0 x1 x3 x4; have h2 : Kept s0 x1 := (kept_State_put h); (try clear_value x1); have h5 : Kept s0 x4 := (kept_mk h2); exact (kept_ite h (kept_ite (by split; rename_i w6 t7 q8; exact (fun k9 => (kept_State_put k9)) (kept_snd (kept_freeWord h5) q8)) h5)))

theorem done_execPllStepTimeout {s : State} : Done s (execPllStepTimeout s) :=
  done_run fun s0 _ h => (by extract_lets x0 x1 x2 x4 x5; have h3 : Kept s0 x2 := (kept_State_put h); (try clear_value x2); have h6 : Kept s0 x5 := (kept_mk h3); exact (kept_ite h (kept_ite (kept_State_put h6) (kept_raiseF (kept_setEvt (kept_State_put h6))))))

theorem done_execPllLock {s : State} : Done s (execPllLock s) :=
  done_run fun s0 _ h => (kept_ite h (by split; rename_i w0 t1 q2; exact (fun k3 => (by extract_lets x4 x6; have h5 : Kept s0 x4 := (kept_State_put (kept_State_put (kept_State_put k3))); (try clear_value x4); exact (kept_issueRingCert (kept_warpStart (kept_mk h5))))) (kept_snd (kept_freeWord h) q2)))

theorem kept_pllUnlock {s0 s : State} (h : Kept s0 s) {a0 : Bool} : Kept s0 (pllUnlock a0 s) := by
  unfold pllUnlock
  exact (by extract_lets x0 x2 x4 x6 x11 x13 x14 x15; have h1 : Kept s0 x0 := (kept_blockActions (kept_State_put h)); (try clear_value x0); have h3 : Kept s0 x2 := (kept_State_put (kept_State_put h1)); (try clear_value x2); have h5 : Kept s0 x4 := (kept_raiseF (kept_setEvt h3)); (try clear_value x4); have h7 : Kept s0 x6 := (kept_foldl h5 fun _ _ k10 => (kept_State_put k10)); (try clear_value x6); have h12 : Kept s0 x11 := (kept_State_put h7); (try clear_value x11); exact (kept_ite h (kept_mk h12)))

theorem done_execPllUnlock {s : State} {a0 : Bool} : Done s (execPllUnlock a0 s) :=
  done_run fun _ _ h => (kept_pllUnlock h)

theorem kept_sdLoss {s0 s : State} (h : Kept s0 s) {a0 : Fld} {a1 : Nat} : Kept s0 (sdLoss a0 a1 s) := by
  unfold sdLoss
  exact (kept_ite h (kept_raiseF (kept_setEvt (kept_State_count (kept_State_put h)))))

theorem done_execLanePllLoss {s : State} {a0 : Nat} : Done s (execLanePllLoss a0 s) :=
  done_run fun _ _ h => (kept_ite (kept_laneLost (kept_sdLoss h)) h)

theorem done_execShuttlePllLoss {s : State} {a0 : Bool} : Done s (execShuttlePllLoss a0 s) :=
  done_runS fun s0 _ h => (by extract_lets x0; have h1 : Kept s0 x0 := (kept_ite (kept_sdLoss h) (kept_raiseF (kept_setEvt h))); (try clear_value x0); exact (kept_channelOut (kept_channelOut h1)))

end Sys2Proof.Machine
end

