-- ==== Sys2Proof/WellFormed.lean ====
section
/-! DEFINITION. Which commands are well formed: operands within the ranges that the spec's encodings and tables give them. Meanings do not
assume it; a command outside has the effect of its operands as they are read. -/

namespace Sys2Proof

/-- A number below a bound. -/
def inRange (n bound : Nat) : Bool := n < bound
/-- A length or a count within bounds. -/
def lenTo (n lo hi : Nat) : Bool := lo ≤ n && n ≤ hi
/-- A shuttle channel (R37). -/
def isChannel (n : Nat) : Bool := n < 2
/-- A 16-bit and a 32-bit number. -/
def isHalf (n : Nat) : Bool := n < 2 ^ 16
def isWord (n : Nat) : Bool := n < 2 ^ 32
/-- A BAR0 byte offset (R74), one on a register, and a page. -/
def isAddr (n : Nat) : Bool := n < 2 ^ 24
def isAligned (n : Nat) : Bool := n % 4 == 0
def isPage (n : Nat) : Bool := n < 2 ^ 12
/-- A multiple of 16 (Table 2-4, BULK). -/
def isUnit (n : Nat) : Bool := n % 16 == 0
/-- A lane instance (Table 3-5), a cell (R4), an engine (Table 3-5), a loom clock of a pick (R116: the slowest pick has 7,325). -/
def isLane (n : Nat) : Bool := n < 8
def isCell (n : Nat) : Bool := n < 192
def isEngine (n : Nat) : Bool := n < 12
def isClock (n : Nat) : Bool := n < 7325
/-- The SPI command codes of Table 3-2. -/
def isSpiCode (c : Nat) : Bool := (c % 16 < 4 && 1 ≤ c / 16 && c / 16 ≤ 4) || c == 0x50
/-- An EVENT's fields (Table 2-4). -/
def eventOk (e : Event) : Bool := lenTo e.source 1 255 && inRange e.flags 2 && isHalf e.code
/-- A slot word's fields (Table 6-3). -/
def slotOk (w : SlotWord) : Bool :=
  inRange w.slot 8 && inRange w.pr 8 && inRange w.d 64 && inRange w.a 64 && inRange w.b 64 && inRange w.f 16
/-- What the checks of an issue can find. -/
def issOk (x : Iss) : Bool := lenTo x.fetchEcc.length 0 4 && x.fetchEcc.all (inRange · 3) && x.dataEcc.all (inRange · 3)

/-- A PCIe read of 1 to 1,024 words from a word of BAR0 on, or of BAR2, or of the configuration space (R73, R74, R76). -/
def readOk : PcieRead → Bool
  | .bar0 addr count => isAddr addr && isAligned addr && lenTo count 1 1024
  | .bar2 count => lenTo count 1 1024
  | .config => true
/-- A PCIe write of 1 to 64 words with their byte enables, or of a configuration item. -/
def writeOk : PcieWrite → Bool
  | .bar0 addr words => isAddr addr && isAligned addr && lenTo words.length 1 64 && words.all fun x => inRange x.2 16
  | .config _ => true

/-- A byte string of a length, and a key of AES-256 (R265). -/
def isBytes (bs : List Byte) (n : Nat) : Bool := bs.length == n
def isKey (bs : List Byte) : Bool := isBytes bs 32
/-- A management message (R259): hop 0 to 64, 8-bit operation, 16-bit tag, 44 bytes of data. -/
def mgmtOk (m : Mgmt) : Bool := inRange m.hop 65 && inRange m.op 256 && inRange m.tag 65536 && isBytes m.data 44
/-- Messages of one direction, each in a later pick than the one before. -/
def msgsOk (ms : List Mgmt) : Bool :=
  ms.all mgmtOk && (ms.zip (ms.drop 1)).all fun p => (p.1.stamp.extractLsb' 12 52).ult (p.2.stamp.extractLsb' 12 52)
/-- What returns for an owned cell: 420 bytes, or the words of a reduced block (R264, R273). -/
def returnedOk : Returned → Bool
  | .none => true
  | .raw lc bytes => isClock lc && isBytes bytes 420
  | .block lc words => isClock lc && lenTo words.length 0 64

/-- Whether a command's operands lie in their ranges.
(DESIGN CHOICE: log entry 124.) -/
def Instr.wf : Instr → Bool
  | .lanePllLoss lane => isLane lane
  | .readReq ch seq addr tag count agent => isChannel ch && isHalf seq && isAddr addr && inRange tag 256 && inRange count 256 && inRange agent 4
  | .readRsp ch seq addr tag status data => isChannel ch && isHalf seq && isAddr addr && inRange tag 256 && inRange status 4 && lenTo data.length 0 4
  | .postedWr ch seq addr data => isChannel ch && isHalf seq && isAddr addr && lenTo data.length 1 4
  | .stagedWr ch seq addr data => isChannel ch && isHalf seq && isAddr addr && lenTo data.length 1 4
  | .event ch seq e => isChannel ch && isHalf seq && eventOk e
  | .timeMark _ ch next _ sec frac trigger mark lc _ => isClock lc && isChannel ch && isHalf next && inRange sec (2 ^ 40) && isWord frac && inRange trigger 4 && isHalf mark
  | .bulk ch seq offset target length xfer data => isChannel ch && isHalf seq && isWord offset && isUnit offset && inRange target 3 && lenTo length 1 16 && isHalf xfer && lenTo data.length length 16
  | .selvFrag ch seq req frag flags length data => isChannel ch && isHalf seq && isHalf req && inRange frag 512 && inRange flags 2 && lenTo length 1 16 && lenTo data.length length 16
  | .keepalive _ ch next ack bits => isChannel ch && isHalf next && isHalf ack && inRange bits 32
  | .corruptFrame _ ch _ bytes => isChannel ch && lenTo bytes.length 32 32
  | .channelSilent _ ch => isChannel ch
  | .channelRetrain _ ch => isChannel ch
  | .readResponseTimeout tag => inRange tag 256
  | .linkUp hf fh => inRange hf 4 && inRange fh 4
  | .pcieReadTlp tag req _ => inRange tag 256 && readOk req
  | .pcieWriteTlp req => writeOk req
  | .bar2Write off data => isHalf off && lenTo data.length 1 256
  | .spiRead addr count _ => isAddr addr && lenTo count 1 4
  | .spiWrite addr data crc => isAddr addr && lenTo data.length 1 4 && isHalf crc
  | .spiQread addr count _ => isAddr addr && lenTo count 1 4
  | .spiQwrite addr data crc => isAddr addr && lenTo data.length 1 4 && isHalf crc
  | .spiInvalidCommand code => inRange code 256 && !isSpiCode code
  | .hostAccessExecute lc => isClock lc
  | .registerWrite agent addr _ => inRange agent 3 && isAddr addr && isAligned addr
  | .pgevtWrite page _ => isPage page
  | .pgevtset page _ => isPage page
  | .pgevtclr page _ => isPage page
  | .errclr page => isPage page
  | .pglock page _ => isPage page
  | .claim target => inRange target 4
  | .complete target _ => inRange target 4
  | .pendset idx _ => inRange idx 8
  | .pendclr idx _ => inRange idx 8
  | .maskset idx _ => inRange idx 8
  | .maskclr idx _ => inRange idx 8
  | .outcfgWrite target _ => inRange target 4
  | .srccfgWrite src _ => lenTo src 1 255
  | .pickBoundary inputs => lenTo inputs.length 0 16
  | .nowLoRead agent lc => inRange agent 4 && isClock lc
  | .secLoRead agent _ => inRange agent 4
  | .atlSloRead agent => inRange agent 4
  | .sampleTrigger _ dly => isClock dly
  | .adcConversionDone core lc _ => inRange core 8 && isClock lc
  | .heddleEnd c => inRange c 4
  | .bgDeadline c _ => inRange c 4
  | .recordCommit c b _ => inRange c 4 && isClock b
  | .commandBurst lane => inRange lane 6
  | .rxdone c _ => inRange c 4
  | .inputRestored g => isCell g
  | .bypassConfirmTimeout g => isCell g
  | .nodeLostTimeout g => isCell g
  | .service cell _ => isCell cell
  | .weaveVerify bank => inRange bank 2
  | .imageVerified bank _ => inRange bank 2
  | .switchGo _ lc => isClock lc
  | .weaveErase bank => inRange bank 2
  | .operationComplete e _ => isEngine e
  | .stepctl e _ => isEngine e
  | .steppc e _ => isEngine e
  | .stepRunEnd e => isEngine e
  | .engineIsolate e => isEngine e
  | .repairStart c => inRange c 4
  | .repairVerified c _ => inRange c 4
  | .repairRejoin c => inRange c 4
  | .hold e => isEngine e
  | .release e => isEngine e
  | .repair e => isEngine e
  | .halfretry c _ => inRange c 4
  | .reedHalfTrip c half => inRange c 4 && inRange half 2
  | .halfSelftestDone c half _ => inRange c 4 && inRange half 2
  | .halfRejoin c half => inRange c 4 && inRange half 2
  | .auditBlock c n => inRange c 4 && inRange n 1152
  | .wardenIrqTake writes => writes.all fun x => isAddr x.1 && isAligned x.1
  | .collectBurstReturn lane b => inRange lane 6 && inRange b.pres (2 ^ 64) && lenTo b.segs.length 0 64 && b.segs.all returnedOk
  | .cellOwnerMove g => isCell g
  | .directionFail lane => inRange lane 6
  | .receiverLockLoss lane => isLane lane
  | .directionReturning lane => inRange lane 6
  | .defaultOwnershipReturn lane => inRange lane 6
  | .cellDefaultReturn g => isCell g
  | .enum lane => isLane lane
  | .laneTrained lane _ _ => isLane lane
  | .discoverReturn lane d _ => inRange lane 6 && lenTo d.hops.length 0 64
  | .nodeKeyed lane hop res _ key msgs => inRange lane 6 && lenTo hop 1 64 && inRange res 3 && isKey key && msgsOk msgs
  | .nodeConfigured lane hop _ _ msgs => inRange lane 6 && lenTo hop 1 64 && msgsOk msgs
  | .twinLaneLock lane => lenTo lane 6 7
  | .loadPoint ph => inRange ph 3
  | .blankWindowOpen t => inRange t 8
  | .blankWindowClose t => inRange t 8
  | .curtailRelease g => isCell g
  | .rangeUp input => inRange input 16
  | .fcmpTrip cmpNo _ => inRange cmpNo 16
  | .latchRearm cmpNo _ => inRange cmpNo 16
  | .selfCheck cmpNo raws _ => inRange cmpNo 16 && inRange raws 8
  | .meterELoRead agent k => inRange agent 4 && inRange k 8
  | .s0Pulse n _ _ => inRange n 4
  | .s0Maxon n => inRange n 4
  | .sensorExclude sensor => inRange sensor 15
  | .sensorReadmit sensor => inRange sensor 15
  | .ntcReading n x => inRange n 4 && decide (0 ≤ x)
  | .scrubPass errs => lenTo errs.length 0 4096
  | .touchScan raws => lenTo raws.length 12 12
  | .stuckKey key => inRange key 12
  | .buttonSample levels _ => inRange levels 16
  | .ledOpen led => inRange led 16
  | .svcOpen tag level cred _ => inRange tag 256 && inRange level 4 && lenTo cred.length 0 56
  | .svcRead tag addr _ _ => inRange tag 256 && isAddr addr
  | .svcWrite tag addr _ data => inRange tag 256 && isAddr addr && lenTo data.length 0 256
  | .svcClose tag => inRange tag 256
  | .svcPing tag => inRange tag 256
  | .safetySample levels => inRange levels 1024
  | .testPulse _ _ levels => inRange levels 1024
  | .safetySelftestDone cause => inRange cause 16
  | .sealRead s1 s2 s3 => isHalf s1 && isHalf s2 && isHalf s3
  | .sealRetry s1 s2 s3 => isHalf s1 && isHalf s2 && isHalf s3
  | .pwmPeriod ch code _ _ => inRange ch 4 && inRange code 4096
  | .zeroCrossing ch _ _ _ => inRange ch 4
  | .hallChange ch code _ => inRange ch 4 && inRange code 8
  | .hallInvalid ch => inRange ch 4
  | .commutation ch _ => inRange ch 4
  | .catchEnd ch => inRange ch 4
  | .alignEnd ch => inRange ch 4
  | .rampTimeout ch => inRange ch 4
  | .stall ch => inRange ch 4
  | .stallRetry ch => inRange ch 4
  | .coastEnd ch _ => inRange ch 4
  | .halfBridgeFault ch phase _ _ => inRange ch 4 && inRange phase 3
  | .louvreCtl ch _ _ => inRange ch 4
  | .speedLoop ch => inRange ch 4
  | .curveReading ch => inRange ch 4
  | .hadcScan codes => codes.all fun x => inRange x.1 16 && inRange x.2 4096
  | .hcmpTrip cmpNo _ => inRange cmpNo 8
  | .response token => lenTo token.length 0 64
  | .porterSourceChange src _ _ => lenTo src 1 3
  | .porterRestart src _ => lenTo src 1 3
  | .doorWatch levels _ => inRange levels 16
  | .zc12Update cell _ keys msgs => isCell cell && lenTo keys.length 2 2 && keys.all isKey && msgsOk msgs
  | .sensorConversion sensor _ _ => inRange sensor 15
  | .lanePllLock lane => isLane lane
  | .usbStandardRequest request _ => inRange request 256
  | .add e w x | .sub e w x | .addi e w x | .and e w x | .or e w x | .xor e w x | .andn e w x | .shl e w x | .shr e w x
  | .sar e w x | .shli e w x | .shri e w x | .sari e w x | .min e w x | .max e w x | .sel e w x | .li e w x | .lih e w x
  | .cmp e w x | .qadd e w x | .qsub e w x | .qabs e w x | .qmul e w x | .qmac e w x | .qmsb e w x | .qmz e w x
  | .acr e w x | .acw e w x | .fadd e w x | .fsub e w x | .fmul e w x | .fma e w x | .fmin e w x | .fmax e w x
  | .fneg e w x | .fabs e w x | .fcmp e w x | .fcvt e w x | .frcp e w x | .frsq e w x | .ldw e w x | .ldd e w x
  | .stw e w x | .std e w x | .ldx e w x | .stx e w x | .lda e w x | .ldaw e w x | .sta e w x | .lds e w x | .ldp e w x
  | .ldr e w x | .ldb e w x | .bra e w x | .bri e w x | .call e w x | .ret e w x | .loopi e w x | .loopr e w x
  | .crd e w x | .cwr e w x | .cwi e w x | .jend e w x | .endMarker e w x | .rece e w x | .recr e w x | .recs e w x
  | .recv e w x | .undefinedOperation e w x | .nop e w x => isEngine e && slotOk w && issOk x
  | .hSupplyInRange | .hDieResetRelease | .hDieReset | .pcieReset _ | .fSupplyInRange | .fDieResetRelease | .fSupplyLoss
  | .pllStep | .pllStepTimeout | .pllLock | .pllUnlock _ | .refclkHLoss | .shuttlePllLoss _ | .replayRequest _
  | .replayRequestTimeout _ | .replayRepeat _ | .frameSlot _ _ | .keepaliveIdle _ | .calibrationMark _ _ | .watchdogAction | .linkDownTimeout | .permitEdge _
  | .permitTimeout | .permitStable | .reopen | .yieldArm _ | .yieldExpiry | .flr | .pcieLinkDown | .spiStatus | .spiStatusDeadline
  | .spiCsRise | .gateHeddle | .hwdkick _ | .hwdctlWrite _ | .watchdogExpiry | .watchdogRampEnd | .wardenTargetPass
  | .selvReq _ | .selvedgeCapture | .selvedgeTimeout | .measurementValid | .fmFreezeEnd | .flywheelLimit | .warpLock
  | .ppsEdge _ | .ppsHoldover | .ppsHoldmax | .rtcCompare _ | .rtcRealign | .wallClockLoad _ | .setctlArm | .setctlCancel
  | .secondsSet | .atlGo | .angleZeroMark | .warpImageStale | .fallbackStart | .fallbackRampDone | .fallbackBlock
  | .switchCancel | .switchCheck | .weaveSwitch | .coldLoadDone | .engctlApply | .wardenStart | .wardenRestart
  | .wardenWatchdog | .wardenFwVerify | .wardenFwActivate | .wardenFwErase | .twinBurst _ | .partnerLost
  | .twinHandshakeDone _ | .twinCopyVerified _ _ | .twinProbationEnd | .join | .carrierBoundary | .syncInPulse _ _ _
  | .syncLost | .energyLoopStep | .balanceStep | .learnPublish | .fwEnd | .trackerUpdate | .sixteenPickCheck | .scanPass
  | .scanGo | .scanAbort | .bankScanStart | .scanPoint | .bankScanEnd | .rtEventEnd | .tripTimer | .curvctlCommit
  | .chipEnd | .passiveConfirm | .suspensionTmax | .suspensionEnd | .waitTimer | .syncHold | .syncTimeout | .breakerTime
  | .rampComplete | .calibrationInterval | .tripclr _ | .scGo | .meterWindowEnd | .pqRefresh | .checkStart | .chkctlGo
  | .checkDone | .checkInvalidTimeout | .checkRetry | .sensorReading _ | .hreq _ | .fthermCopy | .fthermStale | .vbusPlug
  | .vbusUnplug | .usbBusReset | .usbSuspend | .serviceIdle | .serviceKick | .safetyReset _ _
  | .safetyStop _ | .sealReadCmd | .driverUndervoltage | .uvRelease | .auxCycle _ _ _ | .auxFaultTimer _ | .auxEn _
  | .auxRestart | .auxSoftstartTimeout | .hiccupEnd | .inuvRecover _ | .quoteGo | .quoteDone | .owncert _ | .lifecycleReq _
  | .fuseWordBurned | .fuseokTimeout | .burn _ | .extest _ _ | .idcode | .samplePreload _ _ | .challenge | .wstatus
  | .bypass | .trstLow | .wicketClose | .wicketDisable | .securityFwVerify | .securityFwActivate | .securityFwErase
  | .hFirmwareStart | .hDieRestartDone | .porterStop _ | .harvestSample _ _ _ | .batteryMeasure _ _ | .rtcTrim _ | .permitToggle _ | .wardenFwstby
  | .securityFwstby => true

end Sys2Proof
end

