-- ==== Sys2Proof/Tests/Slice0.lean ====
section
/-! SUPPORT. The model's own tests: for every clause of every statement a state and operands that meet its hypotheses, commands outside
their ranges that `Instr.wf` refuses, and a few steps. -/

open Sys2Proof Sys2Proof.Machine

namespace Sys2Proof.Tests

set_option maxRecDepth 20000
set_option linter.unusedVariables false
set_option Elab.async false

/-! ### States -/

/-- Both dies run and the link is up. -/
def st (h f : Die) (up : Bool) : State :=
  { State.reset with pwr := { State.reset.pwr with h := h, f := f }, link := { State.reset.link with up := up, hf := { Dir.reset with rx0 := true, rx1 := true }, fh := { Dir.reset with rx0 := true, rx1 := true } } }
def live : State := st .run .run true
def conv0 : ConvMap := ⟨690, false, 800, 900, 100, 20, 20, 700, 900, 800, 100, false, false, [100, 100, 1000, 1000], 100, List.replicate 192 ⟨1, false, false, 0⟩⟩
def img0 : Image :=
  { magic := 0x45564157, hver := 1, hlen := 256, ilen := 4096, twin := false, unit := false, f60 := false, imgid := 9, part := 0x0192,
    minstep := 0xB0, keyHash := [], hash := 77, twinHash := 0, pmapH := 1, layH := 1, cmapH := 1, compat := [], codelen := [0, 0, 0, 0],
    rxdone := [0, 0, 0, 0], urgmask := 0, nsig := 1, slackjob := [0, 0, 0, 0], sections := [], plans := [], pickmap := [],
    splans := [[⟨16, 0, 0, 1, 5⟩]], smap := [0], adcseq := [⟨0, 0, 0x80⟩], adcPairs := 0, pmap := [], paramdef := [], code := [], dataInit := [], angleInit := [],
    conv := conv0, shared := [], jobs := [], telem := [], regInit := [], sig := [], signed := [] }
/-- A Weave runs from bank 0. -/
def woven : State := { live.put WEAVE_STAT_RUN 1 with warp.running := true, weave.img := some img0, weave.banks := [⟨[], some img0, 0⟩, ⟨[], none, 0⟩] }

def plan1 : List Heddle :=
  [⟨0, 64, 2, false, false, 0, 0, 0⟩, ⟨64, 960, 0, false, false, 0, 0, 0⟩, ⟨1024, 64, 3, true, false, 0, 3, 0⟩, ⟨1088, 256, 1, false, true, 0, 0, 0⟩,
   ⟨1344, 128, 3, false, false, 0, 1, 0⟩, ⟨1472, 64, 3, false, false, 0, 2, 0⟩, ⟨1536, 1024, 0, false, false, 0, 0, 0⟩, ⟨2560, 64, 3, true, false, 0, 3, 0⟩,
   ⟨2624, 960, 0, false, false, 0, 0, 0⟩, ⟨3584, 601, 3, true, false, 0, 5, 0⟩]
/-- Words from a byte address on, as the bytes that are not 0 (R8). -/
def cellsOf (a : Nat) (ws : List Nat) : List Host.Cell :=
  ws.zipIdx.flatMap fun x => (List.range 4).filterMap fun i =>
    let v : Byte := BitVec.ofNat 8 (x.1 / 256 ^ i)
    if v = 0#8 then none else some (a + 4 * x.2 + i, v)
/-- The words of `plan1` (Table 5-10), its header first. -/
def planWords : List Nat :=
  [0xA, 0x0, 0x8080000, 0x0, 0x780040, 0x0, 0x2C080400, 0x3, 0x44200440, 0x0, 0xC100540, 0x1, 0xC0805C0, 0x2, 0x800600, 0x0, 0x2C080A00, 0x3, 0x780A40, 0x0, 0x2C4B2E00, 0x5]
/-- The bytes of an image of 20736 bytes (Tables 5-9, 5-9a): RXDONE 3,000, plan 0 of every cluster in every pick, no code. -/
def bank1 : List Host.Cell :=
  cellsOf 0 [0x56574B4E, 0x04000001, 0x5100, 0, 9, 0, 0x00B00192] ++ cellsOf 0x178 [0x0BB80BB8, 0x0BB80BB8, 0x100, 0x01010101] ++
  cellsOf 0x200 [0x1, 0x5000, 0x0, 0x0, 0x4, 0x400, 0x58, 0x0, 0x5, 0x1000, 0x1000, 0x0, 0x101, 0x5000, 0x0, 0x0, 0x104, 0x460, 0x58, 0x0, 0x105, 0x2000, 0x1000, 0x0, 0x201, 0x5000, 0x0, 0x0, 0x204, 0x4C0, 0x58, 0x0, 0x205, 0x3000, 0x1000, 0x0, 0x301, 0x5000, 0x0, 0x0, 0x304, 0x520, 0x58, 0x0, 0x305, 0x4000, 0x1000, 0x0, 0xFF09, 0x5000, 0x0, 0x0, 0xFF0B, 0x5000, 0x40, 0x0] ++
  cellsOf 0x400 planWords ++ cellsOf 0x460 planWords ++ cellsOf 0x4C0 planWords ++ cellsOf 0x520 planWords
def open1 : OpenSections := ⟨{ conv0 with cells := (List.range 192).map fun i => if i % 64 < 12 then ⟨1, false, false, 0⟩ else ⟨0, false, false, 0⟩ }, [], [], [], []⟩
/-- Its section directory (Table 5-9a). -/
def dir1 : List Section :=
  [⟨0x1, 0x0, 0x5000, 0, 0⟩, ⟨0x4, 0x0, 0x400, 88, 0⟩, ⟨0x5, 0x0, 0x1000, 4096, 0⟩, ⟨0x1, 0x1, 0x5000, 0, 0⟩, ⟨0x4, 0x1, 0x460, 88, 0⟩, ⟨0x5, 0x1, 0x2000, 4096, 0⟩,
   ⟨0x1, 0x2, 0x5000, 0, 0⟩, ⟨0x4, 0x2, 0x4C0, 88, 0⟩, ⟨0x5, 0x2, 0x3000, 4096, 0⟩, ⟨0x1, 0x3, 0x5000, 0, 0⟩, ⟨0x4, 0x3, 0x520, 88, 0⟩, ⟨0x5, 0x3, 0x4000, 4096, 0⟩,
   ⟨0x9, 0xFF, 0x5000, 0, 0⟩, ⟨0xB, 0xFF, 0x5000, 64, 0⟩]
def img1 : Image := readImage bank1 0 open1
/-- An image that was signed with an owner's key waits for its verdict. -/
def signed : State :=
  { (woven.put (WEAVE_BANK_STATE 1) 2).put (WEAVE_RXB_END 1) 0x5100 with
    weave.banks := [⟨[], some img0, 0⟩, ⟨bank1, none, 0⟩],
    sec.fuses := { woven.sec.fuses with words := [[true, true, true], [true, true, false], [false, true, true], [false, false, false], [false, false, false]],
                                        ownKey := List.replicate 12 0, ownValid := true } }
def word1 (slot d a b f : Nat) : SlotWord := ⟨slot, false, 0, d, a, b, f⟩
/-- Engine 0 runs alone in cluster A, at a bundle that holds one operation. -/
def loomOn (op : OpName) (w : SlotWord) : State := { (woven.put (LOOM_STAT_STATE 0) 1).put WARP_INC_INC 4203613000 with
  weave.img := some { img0 with codelen := [64, 64, 64, 64], shared := [(0, 16, 0)], nsig := 4 },
  loom := woven.loom.modify 0 fun e => { e with
    running := true, pc := 5, im := if op = .nop then [] else [(40 + w.slot, encodeWord op w)],
    g := [4, 0x40000001, 0x3F800000, 0xC0000000, 0x7FFFFFFF, 0x10000] ++ e.g.drop 6 },
  clu := woven.clu.map fun x => { x with rxDone := true } }
def looming : State := loomOn .nop (word1 0 0 0 0 0)
def backed (op : OpName) (w : SlotWord) : State := { loomOn op w with loom := (loomOn op w).loom.modify 0 fun e => { e with bg := true } }
/-- A BG heddle of a class runs in cluster `c`. -/
def inBg (c cls : Nat) (s : State) : State :=
  { s with weave.img := some { img0 with plans := List.replicate 4 [[⟨0, 4185, 3, false, false, 0, cls, 0⟩]], pickmap := List.replicate 4 [0] },
           clu := s.clu.modify c fun x => { x with heddle := some 0 } }
/-- A collect segment of cell 64 in pick 0, as plain text and as its node seals it (Table 8-8, R266). -/
def plain1 : List Byte := [64, 1, 0, 50] ++ (List.range 400).map fun i => BitVec.ofNat 8 (i % 7)
def seg1 : List Byte :=
  leBytes 60 0x71B7F96A0982E8C5C8D7FCC98490EBA050E7B0D5F1A1BA13764B4BCFFEB805EC494CF8D22F38B79BD17052F893B3E764EA0A36AC3B5A917132000140 ++
  leBytes 60 0x87D48C91A5E8A7AFEB4727F9D77966899F7F1A60103B2D2CE6885EDFDF8F013FFB0A63AB47BB3D45E340AE72427529433AA72A7406ABB02EF14C40EA ++
  leBytes 60 0x90F5C4F66F66EC3360E95C3AE7CD01E807AA1A3204363AD2B1EA470647BBDDB57E66E71BDE9CF2C409554D4C5A69FC7F7843D8B764A552D83C6DFDD1 ++
  leBytes 60 0x928BB4AE5D800CF3CFEDA8D5BCB14A80AFA4F8814CCA957BD1EA6E78A9DF8B4F818AD7C6A69A1DB9B9A9A872575EFE65ADF6EA7AF494CD5A71B2B669 ++
  leBytes 60 0x806CC83EF7EAEBBE82DEEFD457BAD0D397E067B295EBF10A86AB94A352E02ABAAC294CBF519FF2711E03D26CC5493DFEED729988D46308DB7220DBB8 ++
  leBytes 60 0x4C34AD030DC88BD793826796E919254F0FCD6B7921DD107C04B83569A7AEACD104A5DA9BEBF59DD8949229AA7BB3328FE257E8532B2578E9DBD813CB ++
  leBytes 60 0x18368CEE893676F634EF5742E834430A9260C37E47514F24DEA890638E9B4EC5BAD84969EF2C7DA997D36894EE58C99CF0BC0C24482BBC24E2D774E9
/-- SYNCING with every condition of a connection met. -/
def syncing : State :=
  { ((((((woven.put GRIDFN_STAT_CSTATE 2).put WARP_STAT_VALID 1).put WARP_STAT_LOCK 1).put METER_STAT_CHK 1).put GRIDFN_PERMIT_BITS 8).put GRIDFN_CTL_CONNEN 1).put
      SHUTTLE_F_STAT_SHUT 0 |>.put GRIDFN_CONNV_VRHI 1100 with
    cells := woven.cells.map (fun c => { c with counted := true }), ride := { woven.ride with hold := 4096, v1 := [1, 1, 1] }, warp.fm := 50 }

/-! ### What the statements assume can be met

One theorem per statement; each pair of parentheses is a clause, with its state and operands. -/

theorem plans_img1 : img1.plans = List.replicate 4 [plan1] ∧ img1.pickmap = List.replicate 4 [0] := by decide +kernel

theorem planOf_img1 (c p : Nat) (h : c < 4) : planOf img1 c p = plan1 := by
  unfold planOf planNo
  rw [plans_img1.1, plans_img1.2]
  match c, h with
  | 0, _ | 1, _ | 2, _ | 3, _ => simp [Nat.mod_one]

theorem bgSum_img1 (c cls p n : Nat) (h : c < 4) : bgSum img1 c cls p n = n * bgLen img1 0 cls 0 := by
  have e : ∀ q, bgLen img1 c cls q = bgLen img1 0 cls 0 := fun q => by simp [bgLen, planOf_img1 _ _ h, planOf_img1 0 0]
  unfold bgSum
  simp only [e]
  induction n with
  | zero => simp
  | succ n ih => rw [List.range_succ, List.foldl_append, ih]; simp [Nat.succ_mul]

theorem gate_img1 : gateOk img1 = true := by simp [gateOk, planOf_img1]

theorem spacing_img1 : spacingOk img1 = true := by
  have e : (spacing plan1).2.2 ≤ 2092 ∧ (spacing plan1).2.1 + (spacing plan1).1 ≤ 2092 := by decide +kernel
  simp [spacingOk, planOf_img1, e]

theorem capacity_img1 : capacityOk img1 = true := by
  have z : ∀ c, c < 4 → img1.telem.getD c 0 = 0 := by decide +kernel
  have e : 1000 ≤ 4096 * bgLen img1 0 1 0 ∧ 2048 ≤ 64 * bgLen img1 0 2 0 ∧ 1024 ≤ 64 * bgLen img1 0 3 0 := by
    simp only [bgLen, planOf_img1 0 0 (by decide)]; decide +kernel
  unfold capacityOk
  rw [List.all_eq_true]
  intro c h
  have h := List.mem_range.1 h
  simp [bgSum_img1, h, e, -List.getD_eq_getElem?_getD, z c h]

theorem plansOk_img1 : plansOk img1 = true := by
  unfold plansOk
  rw [plans_img1.1, plans_img1.2]
  decide +kernel

theorem sections_img1 : img1.sections = dir1 ∧ img1.ilen = 0x5100 := by decide +kernel

theorem sectionsOk_img1 : sectionsOk img1 = true ∧ codeOk img1 = true := by
  have c : img1.codelen.all (· ≤ 8192) = true := by decide +kernel
  unfold sectionsOk codeOk
  rw [sections_img1.1, sections_img1.2, c]
  decide +kernel

theorem samples_img1 : samplesOk img1 = true := by
  have p : img1.splans = [] ∧ img1.adcseq = [] := by decide +kernel
  simp [samplesOk, sequenceOk, p]

/-- `img1` passes every check of Table 5-6 once its signature verifies. -/
theorem verified_img1 (h : Config.sigOk img1.sig img1.signed = true) : verifyCause signed 1 img1 = 0 := by
  unfold verifyCause
  rw [h, gate_img1, spacing_img1, capacity_img1, plansOk_img1, sectionsOk_img1.1, sectionsOk_img1.2, samples_img1]
  decide +kernel

theorem witness_every_step_keeps_the_invariant :
    (let s : State := { woven with pending := [.angleZeroMark] }; s.Inv ∧ ∃ t, step s = .next t) := ⟨by decide +kernel, _, rfl⟩

theorem witness_reserved_pages : (let a : Nat := 0x3F000; hasHeader (pageOf a) = false ∧ (pageOf a < 0x80 ∨ 0xC0 ≤ pageOf a) ∧ pageOf a ≠ 0xC ∧ pageOf a ≠ 0xD) ∧
    (let a : Nat := 0xC0000; hasHeader (pageOf a) = false ∧ (pageOf a < 0x80 ∨ 0xC0 ≤ pageOf a) ∧ pageOf a ≠ 0xC ∧ pageOf a ≠ 0xD) := by decide +kernel

theorem witness_page_error_captures :
    (let a : Nat := 0x40FFC; let cause : Nat := 15; live.Inv ∧ hasHeader (pageOf a) = true ∧ cause < 16 ∧ isF (pageOf a) = true ∧ live.link.up = true ∧
      live.link.selvHolding = none) ∧
    (let a : Nat := 0x14064; let cause : Nat := 3; live.Inv ∧ hasHeader (pageOf a) = true ∧ cause < 16 ∧ isF (pageOf a) = false) := by decide +kernel

theorem witness_edge_sources_become_pending :
    (let s : State := (live.put (pendBit 255) 1).put (activeBit 255) 1; s.Inv ∧ edgeSource 255 = true ∧ s.flag (pendBit 255) = true ∧
      s.flag (activeBit 255) = true ∧ s.get (INTC_0_SRCCFG_TARGET 255) < 2) := by decide +kernel

theorem witness_yield_in_single_unit_mode :
    (live.Inv ∧ live.weave.mode.testBit 0 = false) ∧
    (let s : State := { ((live.put SHUTTLE_F_STAT_SHUT 0).put SHUTTLE_F_STAT_YIELD 1).put (RING_TWSTAT_STATE 6) 5 with permit.timing := true }
     s.Inv ∧ s.permit.timing = true ∧ s.flag SHUTTLE_F_STAT_SHUT = false ∧ canYield s = true) := by decide +kernel

theorem witness_startup_and_reset_of_the_h_die :
    (let s : State := st .off .off false; s.Inv ∧ s.pwr.h = .off) ∧
    (let s : State := { st .hold .off false with pwr.perst := false }; s.Inv ∧ s.pwr.h = .hold) ∧
    (let s : State := st .boot .off false; s.Inv ∧ s.pwr.h = .boot ∧ s.pwr.restarting = false) ∧
    (let s : State := live.put HOSTIF_STAT_PCIEUP 1; s.Inv ∧ s.flag HOSTIF_STAT_PCIEUP = true) ∧
    (let s : State := live; s.Inv ∧ s.pwr.h = .run ∧ s.flag HOSTIF_STAT_PCIEUP = false) ∧
    (let s : State := live; s.Inv ∧ s.pwr.h ≠ .off) ∧
    (let s : State := live; s.Inv ∧ s.pwr.h ≠ .off) :=
  by refine ⟨?_, ?_, ?_, ?_, ?_, ?_, ?_⟩ <;> decide +kernel

theorem witness_startup_and_losses_of_the_f_die :
    (let s : State := st .run .off false; s.Inv ∧ s.pwr.f = .off) ∧
    (let s : State := st .run .hold false; s.Inv ∧ s.pwr.f = .hold) ∧
    (let s : State := st .run .boot false; s.Inv ∧ s.pwr.f = .boot ∧ s.flag CLOCK_STAT_FAILED = false ∧ s.get CLOCK_STAT_N < 47) ∧
    (let s : State := (st .run .boot false).put CLOCK_STAT_N 47; s.Inv ∧ s.pwr.f = .boot ∧ s.flag CLOCK_STAT_FAILED = false ∧ s.get CLOCK_STAT_N = 47) ∧
    (let s : State := st .run .boot false; s.Inv ∧ s.pwr.f = .boot ∧ s.flag CLOCK_STAT_FAILED = false ∧ s.get CLOCK_STAT_TRIES < 2) ∧
    (let s : State := (st .run .boot false).put CLOCK_STAT_TRIES 2; s.Inv ∧ s.pwr.f = .boot ∧ s.flag CLOCK_STAT_FAILED = false ∧
    s.get CLOCK_STAT_TRIES = 2) ∧
    (let s : State := (st .run .boot false).put CLOCK_STAT_N 48; s.Inv ∧ s.pwr.f = .boot ∧ s.flag CLOCK_STAT_FAILED = false ∧ s.get CLOCK_STAT_N = 48) ∧
    (let s : State := live; s.Inv ∧ s.pwr.f ≠ .off ∧ s.svc.held = []) ∧
    (let s : State := live; let prot : Bool := true; s.Inv ∧ s.pwr.f = .run) ∧
    (let s : State := live.put ⟨CLOCK_SDLOCK_LANE.addr, 5, 1⟩ 1; let lane : Nat := 5; s.Inv ∧ lane < 6 ∧
    s.flag ⟨CLOCK_SDLOCK_LANE.addr, lane, 1⟩ = true) ∧
    (let s : State := live; let fside : Bool := true; s.Inv ∧ s.link.up = true ∧ s.svc.held = [] ∧ (dirTo (!fside) s).rx0 = true ∧
    (dirTo (!fside) s).rx1 = true) :=
  by refine ⟨?_, ?_, ?_, ?_, ?_, ?_, ?_, ?_, ?_, ?_, ?_⟩ <;> decide +kernel

theorem witness_frames_in_sequence :
    (let s : State := live; let ch : Nat := 1; let addr : Nat := 0x40040; let tag : Nat := 3; let count : Nat := 1; let agent : Nat := 0; s.Inv ∧
    s.link.up = true ∧ ch < 2 ∧ s.link.hf.rx ch = true ∧ s.link.hf.held = [] ∧ s.svc.held = []) ∧
    (let s : State := live; let ch : Nat := 0; let addr : Nat := 0x40040; let data : List Word := [1]; s.Inv ∧ s.link.up = true ∧ ch < 2 ∧
    s.link.hf.rx ch = true ∧ s.link.hf.held = [] ∧ s.svc.held = [] ∧ addr ≠ DEVICE_SELV_REQ_GO.addr) ∧
    (let s : State := live; let ch : Nat := 1; let addr : Nat := 0x72040; let data : List Word := [5]; s.Inv ∧ s.link.up = true ∧ ch < 2 ∧
    s.link.hf.rx ch = true ∧ s.link.hf.held = [] ∧ s.svc.held = []) ∧
    (let s : State := live; let ch : Nat := 0; let off : Nat := 16; let len : Nat := 16; let xfer : Nat := 0; let data : List Byte := [1, 2]; s.Inv ∧
    s.link.up = true ∧ ch < 2 ∧ s.link.hf.rx ch = true ∧ s.link.hf.held = [] ∧ s.svc.held = [] ∧ off + (data.take len).length ≤ 524288) ∧
    (let s : State := live; let ch : Nat := 0; let e : Event := ⟨5, 19, 0, 1, 7⟩; s.Inv ∧ s.link.up = true ∧ ch < 2 ∧ s.link.fh.rx ch = true ∧
    s.link.fh.held = [] ∧ s.svc.held = [] ∧ e.code ≠ 0xFF00 ∧ e.code ≠ 0xFF01 ∧ e.source < 256) ∧
    (let s : State := { live with selv.busy := some 9 }; let ch : Nat := 1; let req : Nat := 9; let frag : Nat := 2; let flags : Nat := 0; let length : Nat := 3; let data : List Byte := [7, 8, 9]; s.Inv ∧
    s.link.up = true ∧ ch < 2 ∧ s.link.fh.rx ch = true ∧ s.link.fh.held = [] ∧ s.svc.held = [] ∧ s.selv.busy = some req ∧ flags % 2 = 0) ∧
    (let s : State := { live with link.reads := [⟨4, 0x40040, 1, .pcie 7⟩], link.gathers := [⟨7, [(0x40040, none)]⟩] }; let ch : Nat := 0; let addr : Nat := 0x40040; let tag : Nat := 4; let data : List Word := [0xABCD]; let k : Nat := 7; s.Inv ∧
    s.link.up = true ∧ ch < 2 ∧ s.link.fh.rx ch = true ∧ s.link.fh.held = [] ∧ s.svc.held = [] ∧ s.link.reads = [⟨tag, addr, 1, .pcie k⟩] ∧
    s.link.gathers = [⟨k, [(addr, none)]⟩] ∧ k < 256) :=
  by refine ⟨?_, ?_, ?_, ?_, ?_, ?_, ?_⟩ <;> decide +kernel

theorem witness_keepalives_and_replay :
    (let s : State := live; let ch : Nat := 0; let ack : Nat := 0; let bits : Nat := 24; s.Inv ∧ s.link.up = true ∧ ch < 2 ∧ s.link.fh.rx ch = true ∧
    s.svc.held = [] ∧ bits % 2 = 0) ∧
    (let s : State := { live with link.fh := { Dir.reset with rx0 := true, held := [⟨3, .readRsp 0 0 0 []⟩], late0 := some 3 } }; let toH : Bool := true; s.Inv ∧
    s.link.up = true ∧ (dirTo toH s).asked = 0 ∧ gapSeen (dirTo toH s) = true) ∧
    (let s : State := { live with link.fh := { Dir.reset with rx0 := true, rx1 := true, held := [⟨3, .readRsp 0 0 0 []⟩] } }; let toH : Bool := true; s.Inv ∧
    s.link.up = true ∧ (dirTo toH s).asked = 0 ∧ (dirTo toH s).held.isEmpty = false) ∧
    (let s : State := { live with link.fh := { Dir.reset with asked := 3 } }; let toH : Bool := true; s.Inv ∧ s.link.up = true ∧
    1 ≤ (dirTo toH s).asked ∧ (dirTo toH s).asked ≤ 3 ∧ s.svc.held = []) ∧
    (let s : State := { live with link.fh := { Dir.reset with asked := 4 } }; let toH : Bool := true; s.Inv ∧ s.link.up = true ∧
    4 ≤ (dirTo toH s).asked ∧ s.svc.held = []) ∧
    (let s : State := live; let fromH : Bool := false; s.Inv ∧ s.link.up = true) ∧
    (let s : State := { live with link.hf := { Dir.reset with rx0 := true, rx1 := true, lastBits := 6, queue := [.postedWr 0x40040 [1]] } }; let fromH : Bool := true; let d : Nat := 7; let p : Payload := .postedWr 0x40040 [1]; let q : List Payload := []; s.Inv ∧
    s.link.up = true ∧ (dirTo (!fromH) s).urgent = none ∧ statusBits fromH s = (dirTo (!fromH) s).lastBits ∧ (dirTo (!fromH) s).bulkQ = [] ∧
    (dirTo (!fromH) s).marks = [] ∧ (dirTo (!fromH) s).replay = [] ∧ (dirTo (!fromH) s).queue = p :: q ∧ sequenced p = true ∧
    (fromH && !s.link.soon.isEmpty) = false) :=
  by refine ⟨?_, ?_, ?_, ?_, ?_, ?_, ?_⟩ <;> decide +kernel

theorem witness_channels_link_and_time_marks :
    (let s : State := { live with link.fh.bad1 := [5, 99999] }; let ch : Nat := 1; let dt : Nat := 10; let bytes : List Byte := [1, 2]; s.Inv ∧
    ch < 2 ∧ s.link.fh.rx ch = true ∧ intactFrame bytes = false ∧ (((s.link.fh.bad ch).map (· + dt)).filter (· ≤ 100000)).length < 7 ∧
    s.svc.held = []) ∧
    (let s : State := { live with link.fh.bad1 := [1, 2, 3, 4, 5, 6, 7] }; let ch : Nat := 1; let dt : Nat := 10; let bytes : List Byte := [1, 2]; s.Inv ∧
    ch < 2 ∧ s.link.up = true ∧ s.link.fh.rx0 = true ∧ s.link.fh.rx1 = true ∧ intactFrame bytes = false ∧
    (((s.link.fh.bad ch).map (· + dt)).filter (· ≤ 100000)).length = 7 ∧ s.svc.held = []) ∧
    (let s : State := live; let toH : Bool := true; let ch : Nat := 1; s.Inv ∧ s.link.up = true ∧ ch < 2 ∧ (dirTo toH s).rx0 = true ∧
    (dirTo toH s).rx1 = true ∧ s.svc.held = []) ∧
    (let s : State := { live with link.fh := { Dir.reset with rx0 := true } }; let toH : Bool := true; let ch : Nat := 1; s.Inv ∧ s.link.up = true ∧
    ch < 2 ∧ (dirTo toH s).rx ch = false) ∧
    (let s : State := { st .run .boot false with link.backlog := [⟨5, 19, 0, 1, 7⟩] }; let hf : Nat := 1; let fh : Nat := 3; s.Inv ∧
    s.link.up = false ∧ (s.pwr.h = .run ∨ s.pwr.h = .boot) ∧ (s.pwr.f = .run ∨ s.pwr.f = .boot) ∧ s.svc.held = [] ∧ hf % 4 ≠ 0 ∧ fh % 4 ≠ 0 ∧
    s.link.flost = []) ∧
    (let s : State := (st .run .run false).put SAFETY_STAT_BLOCK 1; s.Inv ∧ s.link.up = false ∧ s.pwr.h = .run) ∧
    (let s : State := { live with link.reads := [⟨4, 0x40040, 1, .pcie 7⟩], link.gathers := [⟨7, [(0x40040, none)]⟩] }; let tag : Nat := 4; let k : Nat := 7; let addr : Nat := 0x40040; s.Inv ∧
    s.link.reads = [⟨tag, addr, 1, .pcie k⟩] ∧ s.link.gathers = [⟨k, [(addr, none)]⟩] ∧ k < 256 ∧ s.svc.held = []) ∧
    (let s : State := live; let toH : Bool := true; let ch : Nat := 0; let next : Nat := 0; let stamp : Stamp := 9; let sec : Nat := 3; let frac : Nat := 4; let trigger : Nat := 0; let mark : Nat := 65537; let lc : Nat := 5; let dt : Nat := 6; s.Inv ∧
    s.link.up = true ∧ ch < 2 ∧ (dirTo toH s).rx ch = true ∧ (dirTo toH s).markRx ≠ some (mark % 65536)) ∧
    (let s : State := { live with link.hf.markRx := some 1 }; let ch : Nat := 1; let next : Nat := 0; let stamp : Stamp := 9; let sec : Nat := 3; let frac : Nat := 4; let trigger : Nat := 0; let mark : Nat := 65537; let lc : Nat := 5; let dt : Nat := 6; s.Inv ∧
    s.link.up = true ∧ ch < 2 ∧ s.link.hf.rx ch = true ∧ next % 65536 = s.link.hf.e % 65536 ∧ s.link.hf.markRx = some (mark % 65536)) ∧
    (let s : State := live; let rt : Nat := 2700; let ta : Nat := 60; s.Inv ∧ s.link.up = true) :=
  by refine ⟨?_, ?_, ?_, ?_, ?_, ?_, ?_, ?_, ?_, ?_⟩ <;> decide +kernel

theorem witness_pcie_accesses :
    (let s : State := (live.put HOSTIF_STAT_PCIEUP 1).put SHUTTLE_H_STAT_NOTREADY 0; let tag : Nat := 7; let dt : Nat := 0; let addr : Nat := 0x40044; s.Inv ∧
    pcieServes s = true ∧ s.host.stalled = false ∧ s.pwr.h = .run ∧ addr % 4 = 0 ∧ isF (pageOf addr) = true ∧ assigned (pageOf addr) = true ∧
    reachable s (pageOf addr) = true) ∧
    (let s : State := live.put HOSTIF_STAT_PCIEUP 1; let tag : Nat := 7; let dt : Nat := 0; let n : Nat := 3; s.Inv ∧ pcieServes s = true) ∧
    (let s : State := live.put HOSTIF_STAT_PCIEUP 1; let tag : Nat := 7; let dt : Nat := 0; s.Inv ∧ s.flag HOSTIF_STAT_PCIEUP = true) ∧
    (let s : State := (live.put HOSTIF_STAT_PCIEUP 1).put SHUTTLE_H_STAT_NOTREADY 0; let addr : Nat := 0x51050; let w : Word := 1; s.Inv ∧
    pcieServes s = true ∧ s.host.stalled = false ∧ s.host.staged.length ≤ 64 ∧ s.pwr.h = .run ∧ s.svc.held = [] ∧ addr % 4 = 0 ∧
    isF (pageOf addr) = true ∧ assigned (pageOf addr) = true ∧ reachable s (pageOf addr) = true ∧ isStaged addr = false ∧ hOnly addr = false) ∧
    (let s : State := live.put HOSTIF_STAT_PCIEUP 1; let en : Bool := true; let mask : Bool := true; s.Inv ∧ s.flag HOSTIF_STAT_PCIEUP = true ∧
    (en = false ∨ mask = true)) ∧
    (let s : State := (live.put HOSTIF_STAT_PCIEUP 1).put SHUTTLE_H_STAT_NOTREADY 0; let off : Nat := 65520; let data : List Byte := [1, 2, 3]; s.Inv ∧
    pcieServes s = true ∧ s.host.stalled = false ∧ s.pwr.h = .run ∧ off % 16 = 0 ∧ data ≠ [] ∧ off + data.length ≤ 65536 ∧
    reachable s 0x041 = true) ∧
    (let s : State := { live with host.msixEn := true }; s.Inv ∧ s.pwr.h = .run) ∧
    (let s : State := live.put HOSTIF_STAT_PCIEUP 1; s.Inv ∧ s.flag HOSTIF_STAT_PCIEUP = true) ∧
    (let s : State := { live with link := { live.link with gated := true, access := [.readReq 0x40044 3 2 0] } }; let lc : Nat := 9; let addr : Nat := 0x40044; let tag : Nat := 3; let count : Nat := 2; let agent : Nat := 0; let q : List Payload := []; s.Inv ∧
    s.pwr.f = .run ∧ accessOpen s lc = true ∧ s.link.access = .readReq addr tag count agent :: q ∧ isF (pageOf addr) = true ∧
    assigned (pageOf addr) = true ∧ 1 ≤ count ∧ count ≤ 4 ∧ addr % 4 = 0 ∧ spiAddrErr addr count = false) ∧
    (let s : State := { woven with weave.img := some { img0 with plans := [[], [], [], [[⟨0, 64, 0, false, false, 0, 0, 0⟩]]], pickmap := [[], [], [], [0]] }, clu := woven.clu.map fun x => { x with rxDone := true } }; let lc : Nat := 9; s.Inv ∧
    s.pwr.f = .run ∧ accessOpen s lc = false) ∧
    (let s : State := { live with link.arrived := [(0x74040, 0xFFFF, 3)] }; let w : Word := 0xFFFF; let x : Word := 3; s.Inv ∧ s.pwr.f = .run ∧
    s.link.arrived = [(0x74040, w, x)] ∧ s.warden.staged = [] ∧ s.link.access = [] ∧ w.toNat < 65536) :=
  by refine ⟨?_, ?_, ?_, ?_, ?_, ?_, ?_, ?_, ?_, ?_, ?_⟩ <;> decide +kernel

theorem witness_spi_frames :
    (let s : State := live.put SHUTTLE_H_STAT_NOTREADY 0; let addr : Nat := 0x40044; let count : Nat := 4; let dt : Nat := 0; s.Inv ∧
    s.host.spiDead = false ∧ s.pwr.h = .run ∧ s.host.stalled = false ∧ 1 ≤ count ∧ count ≤ 4 ∧ spiAddrErr addr count = false ∧
    isF (pageOf addr) = true ∧ assigned (pageOf addr) = true ∧ reachable s (pageOf addr) = true) ∧
    (let s : State := live.put SHUTTLE_H_STAT_NOTREADY 0; let addr : Nat := 0x40044; let count : Nat := 1; let dt : Nat := 0; s.Inv ∧
    s.host.spiDead = false ∧ s.pwr.h = .run ∧ s.host.stalled = false ∧ 1 ≤ count ∧ count ≤ 4 ∧ spiAddrErr addr count = false ∧
    isF (pageOf addr) = true ∧ assigned (pageOf addr) = true ∧ reachable s (pageOf addr) = true) ∧
    (let s : State := live.put SHUTTLE_H_STAT_NOTREADY 0; let addr : Nat := 0x51050; let w : Word := 1; s.Inv ∧ s.host.spiDead = false ∧
    s.pwr.h = .run ∧ s.host.stalled = false ∧ s.host.staged.length ≤ 64 ∧ s.svc.held = [] ∧ spiAddrErr addr 1 = false ∧ isF (pageOf addr) = true ∧
    assigned (pageOf addr) = true ∧ reachable s (pageOf addr) = true ∧ isStaged addr = false ∧ hOnly addr = false) ∧
    (let s : State := live.put SHUTTLE_H_STAT_NOTREADY 0; let addr : Nat := 0x51050; let w : Word := 1; s.Inv ∧ s.host.spiDead = false ∧
    s.pwr.h = .run ∧ s.host.stalled = false ∧ s.host.staged.length ≤ 64 ∧ s.svc.held = [] ∧ spiAddrErr addr 1 = false ∧ isF (pageOf addr) = true ∧
    assigned (pageOf addr) = true ∧ reachable s (pageOf addr) = true ∧ isStaged addr = false ∧ hOnly addr = false) ∧
    (let s : State := live; let addr : Nat := 0x51050; let data : List Word := [1]; let crc : Nat := 0; s.Inv ∧ s.host.spiDead = false ∧
    s.pwr.h = .run ∧ s.svc.held = [] ∧ data ≠ [] ∧ data.length ≤ 4 ∧ crc ≠ spiWriteCrc 0x20 addr data) ∧
    (let s : State := { live with host.lastCrc := true }; s.Inv ∧ s.host.spiDead = false ∧ s.pwr.h = .run) ∧
    (let s : State := live; let code : Nat := 0x51; s.Inv ∧ spiCode (code % 256) = false ∧ s.pwr.h = .run) ∧
    (let s : State := { live with host.spi := some ⟨0x40044, 1, none, false⟩ }; let r : SpiRead := ⟨0x40044, 1, none, false⟩; s.Inv ∧
    s.host.spi = some r ∧ r.answered = false) ∧
    (let s : State := { live with host.spi := some ⟨0x40044, 1, none, false⟩ }; s.Inv ∧ s.host.spi.isSome = true) :=
  by refine ⟨?_, ?_, ?_, ?_, ?_, ?_, ?_, ?_, ?_⟩ <;> decide +kernel

theorem witness_headers_and_interrupts :
    (let s : State := live; let page : Nat := 0x10; let value : Word := 0x7FFF; s.Inv ∧ hasHeader page = true ∧ page ≠ 0x51 ∧ page < 0x100 ∧
    page ≠ 0x70 ∧ value &&& ~~~word (((pageType page).map (·.evt)).getD 0) = 0) ∧
    (let s : State := live; let page : Nat := 0x10; let value : Word := 0x4001; s.Inv ∧ hasHeader page = true ∧ page ≠ 0x51 ∧ page < 0x100 ∧
    page ≠ 0x70 ∧ value &&& ~~~word (((pageType page).map (·.evt)).getD 0) = 0) ∧
    (let s : State := live.setRaw 0x10010 3; let page : Nat := 0x10; let value : Word := 1; s.Inv ∧ hasHeader page = true ∧ page ≠ 0x51 ∧
    page < 0x100 ∧ page ≠ 0x70 ∧ value &&& ~~~word (((pageType page).map (·.evt)).getD 0) = 0) ∧
    (let s : State := live.setRaw 0x10024 0x80011040; let page : Nat := 0x10; s.Inv ∧ hasHeader page = true) ∧
    (let s : State := live; let page : Nat := 0x9; let value : Word := 0xFFFF; s.Inv ∧ hasHeader page = true ∧ hasLocks page = true ∧
    value.toNat < 65536) ∧
    (let s : State := ((live.put (pendBit 19) 1).put (INTC_0_SRCCFG_PRIO 19) 3).put (maskBit 19) 0; let target : Nat := 0; s.Inv ∧ target < 2 ∧
    winner s target ≠ 0) ∧
    (let s : State := { live.put (activeBit 18) 1 with intc.level := [18] }; let target : Nat := 0; let n : Nat := 18; s.Inv ∧ target < 2 ∧ n < 256 ∧
    s.flag (activeBit n) = true ∧ s.get (INTC_0_SRCCFG_TARGET n) = target) ∧
    (let s : State := ((((live.put (pendBit 18) 1).put (INTC_0_SRCCFG_PRIO 18) 3).put (maskBit 18) 0).put (INTC_0_SRCCFG_TARGET 18) 2).put SHUTTLE_H_STAT_NOTREADY 0; s.Inv ∧
    winner s 2 ≠ 0 ∧ reachable s 0x52 = true ∧ levelSource (winner s 2) = true) ∧
    (let s : State := ((((live.put (pendBit 18) 1).put (INTC_0_SRCCFG_PRIO 18) 3).put (maskBit 18) 0).put (INTC_0_SRCCFG_TARGET 18) 2).put SHUTTLE_H_STAT_NOTREADY 1; s.Inv ∧
    winner s 2 ≠ 0 ∧ reachable s 0x52 = false ∧ levelSource (winner s 2) = true) ∧
    (let s : State := live; let idx : Nat := 7; let value : Word := 0xFFFFFFFF; s.Inv ∧ idx < 8 ∧ (idx = 0 → value.getLsbD 0 = false)) ∧
    (let s : State := live.setRaw 0x205C 0xFFFF; let idx : Nat := 7; let value : Word := 0xFF; s.Inv ∧ idx < 8 ∧ (idx = 0 → value.getLsbD 0 = false)) ∧
    (let s : State := live; let idx : Nat := 0; let value : Word := 0xFFFFFFFE; s.Inv ∧ idx < 8 ∧ (idx = 0 → value.getLsbD 0 = false)) ∧
    (let s : State := live; let idx : Nat := 7; let value : Word := 0xFF; s.Inv ∧ idx < 8 ∧ (idx = 0 → value.getLsbD 0 = false)) ∧
    (let s : State := live; let target : Nat := 1; let value : Word := 1; s.Inv ∧ target < 2 ∧ (s.raw 0x1020).getLsbD 1 = false ∧
    (value = 0 ∨ value = 1)) ∧
    (let s : State := live; let src : Nat := 255; let value : Word := 0x3F0073; s.Inv ∧ 1 ≤ src ∧ src < 256 ∧ src ≠ 128 ∧ src ≠ 129 ∧
    (s.raw 0x1020).getLsbD 0 = false ∧ s.flag (activeBit src) = false ∧ value &&& ~~~0x3F0073#32 = 0) :=
  by refine ⟨?_, ?_, ?_, ?_, ?_, ?_, ?_, ?_, ?_, ?_, ?_, ?_, ?_, ?_, ?_⟩ <;> decide +kernel

theorem witness_permit_and_watchdog :
    (let s : State := live; let dt : Nat := 500; s.Inv ∧ s.pwr.f = .run ∧ s.permit.haveRef = false) ∧
    (let s : State := { live with permit.haveRef := true }; let dt : Nat := 650; s.Inv ∧ s.pwr.f = .run ∧ s.permit.haveRef = true ∧ 350 ≤ dt ∧
    dt ≤ 650) ∧
    (let s : State := { live.put SHUTTLE_F_STAT_SHUT 0 with permit.timing := true }; s.Inv ∧ s.permit.timing = true ∧
    s.flag SHUTTLE_F_STAT_SHUT = false ∧ canYield s = false) ∧
    (let s : State := { live with permit.timing := true }; s.Inv ∧ s.permit.timing = true) ∧
    (let s : State := (live.put SHUTTLE_F_STAT_PSTABLE 1).put SHUTTLE_F_STAT_SHUT 1; s.Inv ∧ s.flag SHUTTLE_F_STAT_PSTABLE = true ∧
    s.flag SHUTTLE_F_STAT_SHUT = true ∧ s.permit.forced = false) ∧
    (let s : State := { (live.put SHUTTLE_F_STAT_PSTABLE 1).put SHUTTLE_F_STAT_SHUT 1 with permit.forced := true, pwr.gridOpen := some true }; s.Inv ∧
    s.flag SHUTTLE_F_STAT_PSTABLE = true ∧ s.flag SHUTTLE_F_STAT_SHUT = true ∧ s.permit.forced = true) ∧
    (let s : State := { live with weave.mode := 1 }; let arm : Bool := true; s.Inv ∧ (arm = true → s.weave.mode.testBit 0 = true)) ∧
    (let s : State := live.put HOSTIF_HWDSTAT_STATE 2; let value : Word := 0x5A5A; s.Inv ∧ value = 0x5A5A#32 ∧ (hwdState s = 1 ∨ hwdState s = 2)) ∧
    (let s : State := live; let value : Word := 0x280645; s.Inv ∧ (s.raw 0x9020).getLsbD 0 = false ∧ value &&& ~~~0xFFFFF7#32 = 0 ∧
    bitsAt value.toNat 1 2 ≤ 2 ∧ 1 ≤ bitsAt value.toNat 4 13 ∧ bitsAt value.toNat 4 13 ≤ 6000 ∧ 1 ≤ bitsAt value.toNat 17 7 ∧
    bitsAt value.toNat 17 7 ≤ 100) ∧
    (let s : State := { live with wdog.counting := true }; s.Inv ∧ s.pwr.h = .run ∧ s.flag HOSTIF_HWDCTL_EN = true ∧ s.wdog.counting = true ∧
    hwdState s = 0 ∧ s.get HOSTIF_HWDCTL_ACTION ≤ 2) ∧
    (let s : State := { live.put HOSTIF_HWDSTAT_STATE 1 with wdog.pass := true }; s.Inv ∧ s.wdog.pass = true ∧ s.link.up = true ∧ hwdState s = 1) ∧
    (let s : State := { live.put HOSTIF_HWDSTAT_STATE 3 with wdog.pass := true }; s.Inv ∧ s.wdog.pass = true ∧ s.link.up = true ∧
    (hwdState s = 2 ∨ hwdState s = 3)) ∧
    (let s : State := { live with wdog := { Watchdog.reset with fState := 3, ramping := true, falling := true, holdOpen := true, factor := 0 } }; s.Inv ∧
    s.wdog.ramping = true ∧ s.wdog.falling = true ∧ s.wdog.factor ≤ 0 ∧ s.wdog.holdOpen = true ∧ s.permit.yielded = false) ∧
    (let s : State := { live with wdog := { Watchdog.reset with ramping := true, factor := 1 } }; s.Inv ∧ s.wdog.ramping = true ∧
    s.wdog.falling = false ∧ 1 ≤ s.wdog.factor) :=
  by refine ⟨?_, ?_, ?_, ?_, ?_, ?_, ?_, ?_, ?_, ?_, ?_, ?_, ?_, ?_⟩ <;> decide +kernel

theorem witness_selvedge_and_service_port :
    (let s : State := { live with selv.last := 65535 }; let value : Word := 1; s.Inv ∧ value = 1#32 ∧ s.selv.busy = none ∧ s.link.up = true) ∧
    (let s : State := { live with selv.capture := some 4 }; let n : Nat := 4; s.Inv ∧ s.selv.capture = some n) ∧
    (let s : State := { live with selv.busy := some 4 }; let n : Nat := 4; s.Inv ∧ s.selv.busy = some n ∧ n < 65536) ∧
    (let s : State := ((live.put SERVICE_STAT_VBUS 1).put SERVICE_CTL_EN 1).put SERVICE_STAT_CONF 1; let tag : Nat := 9; s.Inv ∧ svcUp s = true ∧
    s.svc.held = [] ∧ s.svc.waiting = false ∧ s.pwr.h = .run ∧ s.host.stalled = false) ∧
    (let s : State := ((live.put SERVICE_STAT_VBUS 1).put SERVICE_CTL_EN 1).put SERVICE_STAT_CONF 1; let tag : Nat := 9; let cred : List Word := []; s.Inv ∧
    svcUp s = true ∧ s.svc.held = [] ∧ s.svc.waiting = false ∧ s.pwr.h = .run ∧ s.host.stalled = false ∧ s.flag SERVICE_STAT_SESS = false ∧
    levelNeeds (fuseState s.sec.fuses) 1 = some []) ∧
    (let s : State := (((live.put SERVICE_STAT_VBUS 1).put SERVICE_CTL_EN 1).put SERVICE_STAT_CONF 1).put SERVICE_STAT_SESS 1; let tag : Nat := 9; s.Inv ∧
    svcUp s = true ∧ s.svc.held = [] ∧ s.svc.waiting = false ∧ s.pwr.h = .run ∧ s.host.stalled = false ∧ s.flag SERVICE_STAT_SESS = true) ∧
    (let s : State := ((((live.put SERVICE_STAT_VBUS 1).put SERVICE_CTL_EN 1).put SERVICE_STAT_CONF 1).put SERVICE_STAT_SESS 1).put SHUTTLE_H_STAT_NOTREADY 0; let tag : Nat := 9; let addr : Nat := 0x40044; s.Inv ∧
    svcUp s = true ∧ s.svc.held = [] ∧ s.svc.waiting = false ∧ s.pwr.h = .run ∧ s.host.stalled = false ∧ s.flag SERVICE_STAT_SESS = true ∧
    addr % 4 = 0 ∧ addr < 0x1000000 ∧ isF (pageOf addr) = true ∧ assigned (pageOf addr) = true ∧ s.link.up = true ∧
    s.flag SHUTTLE_H_STAT_NOTREADY = false ∧ s.link.gathers = []) ∧
    (let s : State := (((((live.put SERVICE_STAT_VBUS 1).put SERVICE_CTL_EN 1).put SERVICE_STAT_CONF 1).put SERVICE_STAT_SESS 1).put SERVICE_STAT_LEVEL 2).put SHUTTLE_H_STAT_NOTREADY 0; let tag : Nat := 9; let addr : Nat := 0x51050; let w : Word := 1; s.Inv ∧
    svcUp s = true ∧ s.svc.held = [] ∧ s.svc.waiting = false ∧ s.pwr.h = .run ∧ s.host.stalled = false ∧ s.host.staged.length ≤ 64 ∧
    s.flag SERVICE_STAT_SESS = true ∧ s.get SERVICE_STAT_LEVEL ≠ 1 ∧ addr % 4 = 0 ∧ addr < 0x1000000 ∧ isF (pageOf addr) = true ∧
    assigned (pageOf addr) = true ∧ reachable s (pageOf addr) = true ∧ isStaged addr = false ∧ hOnly addr = false) ∧
    (let s : State := live; s.Inv ∧ s.flag SERVICE_STAT_VBUS = false) ∧
    (let s : State := (live.put SERVICE_STAT_VBUS 1).put SERVICE_STAT_SESS 1; s.Inv ∧ s.flag SERVICE_STAT_VBUS = true ∧
    s.flag SERVICE_STAT_SESS = true) ∧
    (let s : State := live.put SERVICE_STAT_SESS 1; s.Inv ∧ s.flag SERVICE_STAT_SESS = true) ∧
    (let s : State := live.put SERVICE_STAT_SESS 1; s.Inv ∧ s.flag SERVICE_STAT_SESS = true) ∧
    (let s : State := live.put SERVICE_STAT_SESS 1; s.Inv ∧ s.flag SERVICE_STAT_SESS = true) ∧
    (let s : State := live.put SERVICE_STAT_SESS 1; s.Inv ∧ s.flag SERVICE_STAT_SESS = true ∧
    takesOne s SERVICE_CTL_EN.addr 1 (s.raw SERVICE_CTL_EN.addr ||| 2#32) = true) ∧
    (let s : State := (live.put SERVICE_STAT_VBUS 1).put SERVICE_CTL_EN 1; let value : Nat := 1; s.Inv ∧ s.flag SERVICE_STAT_VBUS = true ∧
    s.flag SERVICE_CTL_EN = true ∧ value ≤ 1) :=
  by refine ⟨?_, ?_, ?_, ?_, ?_, ?_, ?_, ?_, ?_, ?_, ?_, ?_, ?_, ?_, ?_⟩ <;> decide +kernel

theorem witness_picks_and_warp_states :
    (let s : State := { live with warp.running := true }; let inputs : List (List Int) := [[5]]; s.Inv ∧ s.warp.running = true) ∧
    (let s : State := { live.put WARP_STAT_STATE 1 with warp.validRun := 4096 }; s.Inv ∧ s.flag WARP_STAT_VALID = false ∧ 4096 ≤ s.warp.validRun ∧
    s.get WARP_STAT_STATE = 1 ∧ s.flag WARP_TRACK_FORCEFREE = false ∧ holdInForce s = false) ∧
    (let s : State := { live with warp.freeze := 1 }; s.Inv ∧ s.warp.freeze = 1) ∧
    (let s : State := live.put WARP_STAT_STATE 3; s.Inv ∧ s.get WARP_STAT_STATE = 3) ∧
    (let s : State := { live with warp.lockRun := 4096 }; s.Inv ∧ 4096 ≤ s.warp.lockRun) ∧
    (let s : State := { live with warp.running := true }; s.Inv ∧ s.link.up = true ∧ s.warp.running = true) :=
  by refine ⟨?_, ?_, ?_, ?_, ?_, ?_⟩ <;> decide +kernel

theorem witness_wall_clock :
    (let s : State := live.put TIME_PPSCTL_EN 1; let dt : Nat := 4294967296; s.Inv ∧ s.flag TIME_PPSCTL_EN = true ∧ s.clk.ppsRef = false) ∧
    (let s : State := { live.put TIME_PPSCTL_EN 1 with clk.ppsRef := true, clk.edgeAge := some 5, clk.ppsRun := 3 }; let dt : Nat := 4294967296; let a : Nat := 5; s.Inv ∧
    s.flag TIME_PPSCTL_EN = true ∧ s.clk.ppsRef = true ∧ s.clk.edgeAge = some a ∧ 4290672329 ≤ a + dt ∧ a + dt ≤ 4299262263) ∧
    (let s : State := live.put TIME_STAT_SRC 2; s.Inv ∧ s.get TIME_STAT_SRC = 2) ∧
    (let s : State := live.put TIME_STAT_SRC 3; s.Inv ∧ s.get TIME_STAT_SRC = 3) ∧
    (let s : State := live.put TIME_STAT_SRC 1; let err : Int := 5; s.Inv ∧ s.get TIME_STAT_SRC = 1) ∧
    (let s : State := { live with porter.on := true, clk.sec := 8, clk.frac := 2 ^ 40 }; s.Inv ∧ s.porter.on = true) ∧
    (let s : State := { live.put TIME_SETSEC_LO_SEC 12 with clk.setPend := true }; s.Inv ∧ s.clk.setPend = true) ∧
    (let s : State := live; s.Inv ∧ s.link.up = true ∧ s.link.hf.marks = []) :=
  by refine ⟨?_, ?_, ?_, ?_, ?_, ?_, ?_, ?_⟩ <;> decide +kernel

theorem witness_converter_runs_and_comparators :
    (let s : State := woven; let input : Nat := 0; let dly : Nat := 9; let x : SampleEntry := ⟨16, 0, 0, 1, 5⟩; s.Inv ∧
    (samplePlan s)[input]? = some x ∧ x.core < s.adc.cores.length ∧ (adcCore s x.core).run = none ∧ urgentOn s x.core = false) ∧
    (let s : State := modCore 0 (fun k => { k with urgRun := true, urg := some 4 }) woven; let input : Nat := 0; let dly : Nat := 9; let x : SampleEntry := ⟨16, 0, 0, 1, 5⟩; s.Inv ∧
    (samplePlan s)[input]? = some x ∧ x.core < s.adc.cores.length ∧ (adcCore s x.core).run = none ∧ urgentOn s x.core = true ∧ 1 ≤ dly ∧ dly ≤ 24) ∧
    (let s : State := modCore 0 (fun k => { k with run := some ⟨0, 2, 5, 0, 0, 0, true⟩ }) woven; let core : Nat := 0; let lc : Nat := 200; let code : Int := 100; let r : AdcRun := ⟨0, 2, 5, 0, 0, 0, true⟩; s.Inv ∧
    core < s.adc.cores.length ∧ (adcCore s core).urgRun = false ∧ (adcCore s core).run = some r ∧ r.done + 1 < r.count ∧ r.buf < 240 ∧
    r.done < 16 ∧ 3 < s.clu.length) ∧
    (let s : State := modIn 5 (fun x => { x with small := 5000 }) (woven.put (METER_INCFG_AUTOR 5) 1); let input : Nat := 5; s.Inv ∧
    autoRange s input = true ∧ 4097 ≤ (adcIn s input).small ∧ s.get (METER_INCFG_RANGE input) < 4) ∧
    (let s : State := modCore 7 (fun k => { k with cal := [(640, 64), (1, 64), (2, 64)] }) woven; s.Inv ∧ 7 < s.adc.cores.length ∧
    (adcCore s 7).cal.all (fun p => decide (64 ≤ p.2)) = true ∧ (newTrims s 7).1 ≤ 2 ^ 15 / 200 ∧ -(2 ^ 15 / 200) ≤ (newTrims s 7).1) ∧
    (let s : State := woven.put (FCMP_CFG_ACT 3) 1; let cmp : Nat := 3; let input : List Int := [524287, 524287, -9, 524287]; s.Inv ∧ cmp < 16 ∧
    (cmpRun s cmp input).rises = 1 ∧ isBlanked s cmp = false ∧ s.get (FCMP_CFG_ACT (cmpOwner s cmp)) = 1) ∧
    (let s : State := { woven with blank.win := [none, none, some (90, 8), none, none, none, none, none] }; let cmp : Nat := 3; let input : List Int := [524287, 524287, 524287, -9, -9, -9, 524287, 524287, 524287]; s.Inv ∧
    cmp < 16 ∧ isBlanked s cmp = true) ∧
    (let s : State := woven; let cmp : Nat := 3; let input : List Int := [524287, -9, 524287]; s.Inv ∧ cmp < 16 ∧ (cmpRun s cmp input).rises = 0) ∧
    (let s : State := woven.put FCMP_STAT_LATCH 15; let cmp : Nat := 3; let input : List Int := [-9]; s.Inv ∧ (cmpRun s cmp input).rises = 0 ∧
    (cmpRun s cmp input).out = false ∧ cmp < 16 ∧ cmp < s.fcmp.cmps.length ∧ s.flag (FCMP_CFG_REL (cmpOwner s cmp)) = false ∧
    cmpOwner s cmp = cmp ∧ s.get (FCMP_CFG_MODE cmp) ≠ 1) ∧
    (let s : State := { (woven.put (FCMP_CFG_REL 3) 1).put FCMP_STAT_LATCH 8 with fcmp.cmps := List.replicate 16 ⟨true, [], false, 0⟩ }; let n : Nat := 3; s.Inv ∧
    n < 16 ∧ s.flag (latchBit n) = true ∧ s.flag (FCMP_CFG_REL n) = true ∧ stayedLow s n = true) ∧
    (let s : State := { (woven.put (FCMP_CFG_SC 3) 1).put (ADC_STAT_URG 0) 1 with fcmp.checks := [4] }; let cmp : Nat := 3; let raws : Nat := 0; let input : List Int := []; s.Inv ∧
    cmp < 16 ∧ s.fcmp.checks.contains cmp = false ∧ s.get (FCMP_CFG_SC (cmpOwner s cmp)) = 1 ∧
    s.flag (ADC_STAT_URG (s.get (FCMP_CFG_SCCORE (cmpOwner s cmp)))) = true ∧ s.get (FCMP_CFG_SCCORE (cmpOwner s cmp)) < s.adc.cores.length ∧
    (adcCore s (s.get (FCMP_CFG_SCCORE (cmpOwner s cmp)))).urg = none ∧ runOn s (s.get (FCMP_CFG_SCCORE (cmpOwner s cmp))) = none) ∧
    (let s : State := modCore 0 (fun k => { k with urg := some 19 }) { woven.put (FCMP_CFG_SC 3) 3 with fcmp.checks := [3, 4] }; let cmp : Nat := 3; let raws : Nat := 5; let input : List Int := [7]; s.Inv ∧
    cmp < 16 ∧ s.fcmp.checks.contains cmp = true ∧ 2 ≤ s.get (FCMP_CFG_SC (cmpOwner s cmp)) ∧ readbackWaits s cmp = true) ∧
    (let s : State := (woven.put (FCMP_CFG_SC 3) 2).put (FCMP_CFG_SC 4) 1; s.Inv ∧ checksRun s = false ∧
    ((s.raw FCMP_SCCTL_SCPER.addr ||| 0x1000#32).getLsbD 12) = true ∧ (s.raw 0x70020).getLsbD 0 = false ∧
    s.raw FCMP_SCCTL_SCPER.addr = resetWord FCMP_SCCTL_SCPER.addr) ∧
    (let s : State := { (woven.put (BLANK_TMR_LEN 1) 4).put WARP_INC_INC 3000000000 with blank.pend := [none, some 7, none, none, none, none, none, none], blank.win := List.replicate 8 none }; let tm : Nat := 1; let x : Nat := 7; s.Inv ∧
    tm < 8 ∧ tm < s.blank.win.length ∧ s.blank.pend.getD tm none = some x ∧ x / 65536 = absPick s ∧ 0 < s.get WARP_INC_INC) ∧
    (let s : State := { woven with blank.pend := [none, some 70000, none, none, none, none, none, none] }; let tm : Nat := 1; let x : Nat := 70000; s.Inv ∧
    s.blank.pend.getD tm none = some x ∧ x / 65536 ≠ absPick s) ∧
    (let s : State := { (woven.put (blankOpen 1) 1).put WARP_INC_INC 3000000000 with blank.win := [none, some (9, 8), none, none, none, none, none, none] }; let tm : Nat := 1; let w : Nat × Nat := (9, 8); s.Inv ∧
    tm < 8 ∧ s.blank.win.getD tm none = some w ∧ w.1 < pickLen s ∧ ((List.range 16).all fun n => !(w.2.testBit n && s.flag (foutBit n))) = true) ∧
    (let s : State := { woven with blank.win := [none, some (90000, 8), none, none, none, none, none, none] }; let tm : Nat := 1; let w : Nat × Nat := (90000, 8); s.Inv ∧
    s.blank.win.getD tm none = some w ∧ pickLen s ≤ w.1) ∧
    (let s : State := { (((woven.put (blankOpen 1) 1).put WARP_INC_INC 3000000000).put (foutBit 3) 1).put (FCMP_CFG_ACT 3) 1 with blank.win := [none, some (9, 8), none, none, none, none, none, none] }; let tm : Nat := 1; let w : Nat × Nat := (9, 8); let n : Nat := 3; s.Inv ∧
    tm < 8 ∧ s.blank.win.getD tm none = some w ∧ w.1 < pickLen s ∧ n < 16 ∧ w.2.testBit n = true ∧ s.flag (foutBit n) = true ∧
    isBlanked { s with blank.win := s.blank.win.set tm none } n = false ∧ cmpOwner s n = n ∧ s.get (FCMP_CFG_ACT n) = 1) :=
  by refine ⟨?_, ?_, ?_, ?_, ?_, ?_, ?_, ?_, ?_, ?_, ?_, ?_, ?_, ?_, ?_, ?_, ?_, ?_⟩ <;> decide +kernel

theorem witness_heddles_fallback_and_records :
    (let s : State := { woven with weave.img := some img1, clu := woven.clu.modify 2 fun x => { x with heddle := some 0 } }; let c : Nat := 2; let i : Nat := 0; let h : Heddle := ⟨0, 64, 2, false, false, 0, 0, 0⟩; s.Inv ∧
    s.flag WEAVE_STAT_RUN = true ∧ c < 4 ∧ c < s.clu.length ∧ (cluAt s c).heddle = some i ∧ (planNow s c)[i]? = some h ∧ 2 ≤ h.kind ∧
    i + 1 < (planNow s c).length) ∧
    (let s : State := { woven with weave.img := some { img0 with plans := [[[⟨0, 64, 0, false, false, 0, 0, 0⟩]]], pickmap := [[0]] }, clu := woven.clu.modify 0 fun x => { x with heddle := some 0 } }; let c : Nat := 0; let i : Nat := 0; let h : Heddle := ⟨0, 64, 0, false, false, 0, 0, 0⟩; s.Inv ∧
    s.flag WEAVE_STAT_RUN = true ∧ c < 4 ∧ c < s.clu.length ∧ (cluAt s c).heddle = some i ∧ (planNow s c)[i]? = some h ∧ h.kind < 2 ∧
    i + 1 = (planNow s c).length ∧ (issuers s c).all (fun k => (engAt s k).flight.isEmpty && (engAt s k).ended) = true) ∧
    (let s : State := { woven with weave.img := some { img0 with jobs := [⟨0, 3, 0, 1, 1, 1⟩] }, clu := woven.clu.modify 0 fun x => { x with late := [(3, 0)] }, warp.acc := BitVec.ofNat 96 (2 ^ 56) }; let c : Nat := 0; let job : Nat := 3; let j : Job := ⟨0, 3, 0, 1, 1, 1⟩; s.Inv ∧
    s.flag WEAVE_STAT_RUN = true ∧ s.flag WEAVE_STAT_FB = false ∧ jobOf s c job = some j ∧ overdue s c j = true ∧
    (cluAt s c).missed.contains job = false ∧ c < 4 ∧ job < 16) ∧
    (let s : State := { woven with weave.img := some { img0 with jobs := [⟨0, 3, 0, 1, 9, 1⟩] }, clu := woven.clu.modify 0 fun x => { x with late := [(3, 0)] } }; let c : Nat := 0; let job : Nat := 3; let j : Job := ⟨0, 3, 0, 1, 9, 1⟩; s.Inv ∧
    jobOf s c job = some j ∧ overdue s c j = false) ∧
    (let s : State := { woven with weave.fbPend := some 3, weave.deferred := true }; let cause : Nat := 3; s.Inv ∧ s.weave.fbPend = some cause ∧
    s.weave.deferred = true ∧ cause < 16) ∧
    (let s : State := { woven.put WEAVE_STAT_FB 1 with weave.fbFactor := 0 }; s.Inv ∧ s.flag WEAVE_STAT_FB = true ∧ s.weave.fbZero = false ∧
    s.weave.fbFactor = 0 ∧ s.permit.yielded = false) ∧
    (let s : State := { woven.put WEAVE_STAT_FB 1 with weave.fbFactor := 1 / 2 }; s.Inv ∧ s.weave.fbZero = false ∧ s.weave.fbFactor ≠ 0) ∧
    (let s : State := { (woven.put WEAVE_STAT_FB 1) with weave.fbZero := true, warp.acc := BitVec.ofNat 96 (2 ^ 57) }; s.Inv ∧
    s.flag WEAVE_STAT_FB = true ∧ s.weave.fbZero = true ∧ s.weave.fbZeroAt + 8192 ≤ absPick s) ∧
    (let s : State := { (woven.put WEAVE_STAT_FB 1) with weave.fbZero := true }; s.Inv ∧ s.weave.fbZero = true ∧ absPick s < s.weave.fbZeroAt + 8192) ∧
    (let s : State := { (List.range 3).foldl (fun s e => (s.put (REED_ENGST_VOTE e) 1).put (LOOM_STAT_STATE e) 1) woven with loom := woven.loom.map fun e => { e with recs := [⟨3, 9, 7, 50, false⟩] } }; let c : Nat := 0; let b : Nat := 50; let r : Rec := ⟨3, 9, 7, 50, false⟩; s.Inv ∧
    c < 4 ∧ s.weave.viols = [] ∧ s.weave.noCommit.getD c false = false ∧ s.get (REED_CLST_MODE c) ≠ 3 ∧ liveVoters s c = [0, 1, 2] ∧
    recAt s (3 * c) b = some r ∧ recAt s (3 * c + 1) b = some r ∧ recAt s (3 * c + 2) b = some r ∧ r.kind = 3 ∧
    s.flag (REED_CLST_PROB c) = false ∧ r.b ≠ 0) ∧
    (let s : State := woven.put (REED_CLST_HALF 2) 3; let c : Nat := 2; let b : Nat := 50; s.Inv ∧ c < 4 ∧ s.get (REED_CLST_HALF c) = 3 ∧
    s.get (REED_CLST_MODE c) ≠ 3) ∧
    (let s : State := woven.put (LOOM_STAT_STATE 4) 2; let e : Nat := 4; s.Inv ∧ s.get (LOOM_STAT_STATE e) = 2) :=
  by refine ⟨?_, ?_, ?_, ?_, ?_, ?_, ?_, ?_, ?_, ?_, ?_, ?_⟩ <;> decide +kernel

theorem witness_weave_banks_and_switches :
    (let s : State := woven.put (WEAVE_BANK_STATE 1) 1; let b : Nat := 1; s.Inv ∧ b < 2 ∧ s.get (WEAVE_BANK_STATE b) = 1) ∧
    (let s : State := woven.put (WEAVE_BANK_STATE 1) 2; let b : Nat := 1; let o : OpenSections := open1; let n : Image := readImage [] 0 open1; let cause : Nat := 1; s.Inv ∧
    b < 2 ∧ s.get (WEAVE_BANK_STATE b) = 2 ∧ b < s.weave.banks.length ∧ readImage (s.weave.banks.getD b Bank.empty).content (regionNow s) o = n ∧
    verifyCause s b n = cause ∧ cause < 256) ∧
    (let s : State := woven.put (WEAVE_BANK_STATE 1) 3; let b : Nat := 1; s.Inv ∧ b < 2 ∧ s.get (WEAVE_BANK_STATE b) ≠ 5 ∧ bankArmed s b = false ∧
    b < s.weave.banks.length) ∧
    (let s : State := (woven.put (WEAVE_BANK_STATE 0) 3); let lc : Nat := 0; let b : Nat := 0; let cold : Bool := false; s.Inv ∧ b < 2 ∧
    s.weave.armed = none ∧ s.weave.due = none ∧ switchKind ((s.put WEAVE_SWCTL_BANK b).put WEAVE_SWCTL_COLDOK 0) b 0 false = .inr cold) ∧
    (let s : State := { woven with weave.armed := some ⟨0, 4, 0⟩ }; let x : Switch := ⟨0, 4, 0⟩; s.Inv ∧ s.weave.armed = some x) ∧
    (let s : State := { (woven.put (WEAVE_BANK_STATE 0) 3) with warp.acc := BitVec.ofNat 96 (2 ^ 56 + 4095 * 2 ^ 44), weave.armed := some ⟨0, 2, 0⟩ }; let x : Switch := ⟨0, 2, 0⟩; let cold : Bool := false; s.Inv ∧
    s.weave.armed = some x ∧ pickOf s = 4095 ∧ cycleOf s + 1 = x.cycle ∧ anyRepair s = false ∧ switchKind s x.bank x.cycle true = .inr cold) ∧
    (let s : State := { (woven.put (REED_CLST_MODE 1) 2) with warp.acc := BitVec.ofNat 96 (2 ^ 56 + 4095 * 2 ^ 44), weave.armed := some ⟨0, 2, 0⟩ }; let x : Switch := ⟨0, 2, 0⟩; s.Inv ∧
    s.weave.armed = some x ∧ pickOf s = 4095 ∧ cycleOf s + 1 = x.cycle ∧ anyRepair s = true ∧ s.get WEAVE_SWSTAT_POSTP < 64) ∧
    (let s : State := { woven with weave.due := some (0, false), weave.deferred := true }; let b : Nat := 0; let n : Image := img0; s.Inv ∧ b < 2 ∧
    s.weave.due = some (b, false) ∧ s.weave.deferred = true ∧ s.weave.fbPend = none ∧ (s.weave.banks.getD b Bank.empty).img = some n ∧
    pickOf s = 0) ∧
    (let s : State := { woven with weave.due := some (0, true), weave.deferred := true }; let b : Nat := 0; let n : Image := img0; s.Inv ∧ b < 2 ∧
    s.weave.due = some (b, true) ∧ s.weave.deferred = true ∧ s.weave.fbPend = none ∧ (s.weave.banks.getD b Bank.empty).img = some n ∧
    pickOf s = 0) ∧
    (let s : State := { woven with weave.loading := some 0 }; let b : Nat := 0; let n : Image := img0; s.Inv ∧ s.weave.loading = some b ∧
    s.weave.img = some n ∧ n.regInit = []) :=
  by refine ⟨?_, ?_, ?_, ?_, ?_, ?_, ?_, ?_, ?_, ?_⟩ <;> decide +kernel

theorem witness_repairs_and_halves :
    (let s : State := inBg 1 2 ((((((woven.put (REED_CLST_MODE 1) 2).put (REED_ENGST_VOTE 3) 1).put (REED_ENGST_VOTE 4) 1).put (LOOM_STAT_STATE 5) 3).put REED_CTL_AUTOREP 1).put WARDEN_STAT_STATE 1); let c : Nat := 1; let e : Nat := 2; let src : Nat := 0; s.Inv ∧
    c < 4 ∧ repairTarget s c = some e ∧ (voters s c).head? = some src ∧ (voters s c).length = 2 ∧ s.get (REED_CLST_MODE c) = 2 ∧
    s.flag (REED_CLST_REP c) = false ∧ s.flag WEAVE_STAT_FB = false ∧ s.weave.loading = none ∧ wardenRuns s = true ∧ inClass s c 2 = true) ∧
    (let s : State := { ((woven.put (REED_CLST_REP 1) 1).put (REED_CLST_REPENG 1) 2).put (REED_ENGST_PROG 5) 39552 with clu := woven.clu.modify 1 fun x => { x with repTime := 39560 } }; let c : Nat := 1; let bad : List (Nat × Word) := []; s.Inv ∧
    c < 4 ∧ s.flag (REED_CLST_REP c) = true ∧ s.flag (REED_CLST_PROB c) = false ∧
    (bad.filter (fun x => blockRead (verifiedUnits (cluAt s c)) (blockOf x.1))).any (fun x => blockDiffers s c (engAt s (3 * c + s.get (REED_CLST_SRCENG c))) bad (blockOf x.1)) = false ∧
    copyUnits + 8 ≤ (cluAt s c).repTime ∧ 3 * c + s.get (REED_CLST_REPENG c) < s.loom.length ∧ c < s.clu.length) ∧
    (let s : State := { ((woven.put (REED_CLST_REP 1) 1).put (REED_CLST_REPENG 1) 2).put REED_CTL_TRIES 3 with clu := woven.clu.modify 1 fun x => { x with repTime := 39000 } }; let c : Nat := 1; let bad : List (Nat × Word) := [(70000, 7)]; s.Inv ∧
    c < 4 ∧ s.flag (REED_CLST_REP c) = true ∧ s.flag (REED_CLST_PROB c) = false ∧
    (bad.filter (fun x => blockRead (verifiedUnits (cluAt s c)) (blockOf x.1))).any (fun x => blockDiffers s c (engAt s (3 * c + s.get (REED_CLST_SRCENG c))) bad (blockOf x.1)) = true ∧
    s.get (REED_CLST_REPENG c) < 3 ∧ s.get (REED_ENGST_FAILS (3 * c + s.get (REED_CLST_REPENG c))) + 1 < s.get REED_CTL_TRIES) ∧
    (let s : State := { (woven.put (REED_CLST_REP 1) 1).put (REED_CLST_REPENG 1) 2 with clu := woven.clu.modify 1 fun x => { x with repTime := 900 } }; let c : Nat := 1; let bad : List (Nat × Word) := [(70000, 7)]; s.Inv ∧
    c < 4 ∧ s.flag (REED_CLST_REP c) = true ∧ s.flag (REED_CLST_PROB c) = false ∧
    (bad.filter (fun x => blockRead (verifiedUnits (cluAt s c)) (blockOf x.1))).any (fun x => blockDiffers s c (engAt s (3 * c + s.get (REED_CLST_SRCENG c))) bad (blockOf x.1)) = false ∧
    (cluAt s c).repTime < copyUnits + 8) ∧
    (let s : State := { (((((woven.put (REED_CLST_PROB 1) 1).put (REED_CLST_REPENG 1) 2).put (REED_CLST_MODE 1) 2).put (REED_ENGST_VOTE 3) 1).put (REED_ENGST_VOTE 4) 1) with warp.acc := BitVec.ofNat 96 (2 ^ 56), clu := woven.clu.modify 1 fun x => { x with probAt := some 9 } }; let c : Nat := 1; let p : Nat := 9; s.Inv ∧
    c < 4 ∧ (cluAt s c).probAt = some p ∧ s.flag (REED_CLST_PROB c) = true ∧ pickOf s = 0 ∧ p + 1024 ≤ absPick s ∧
    s.get (REED_CLST_REPENG c) < 3 ∧ s.get (REED_CLST_MODE c) = 2 ∧ (voters s c).length = 2 ∧
    s.get (REED_ENGST_VOTE (3 * c + s.get (REED_CLST_REPENG c))) = 0) ∧
    (let s : State := woven.put (REED_CLST_HALF 2) 3; let c : Nat := 2; let h : Nat := 1; s.Inv ∧ c < 4 ∧ h < 2 ∧ s.get (REED_CLST_HALF c) = 3 ∧
    c < s.clu.length) ∧
    (let s : State := { woven with clu := woven.clu.modify 1 fun x => { x with halfTest := [0, 1] } }; let c : Nat := 1; let h : Nat := 1; let pass : Bool := false; s.Inv ∧
    (cluAt s c).halfTest.getD h 0 = 1 ∧ c < s.clu.length) ∧
    (let s : State := { woven with warp.acc := BitVec.ofNat 96 (2 ^ 56), clu := woven.clu.modify 1 fun x => { x with halfTest := [0, 2], halfAt := [none, some 5] } }; let c : Nat := 1; let h : Nat := 1; let p : Nat := 5; s.Inv ∧
    c < 4 ∧ h < 2 ∧ (cluAt s c).halfTest.getD h 0 = 2 ∧ (cluAt s c).halfAt.getD h none = some p ∧ p + 256 ≤ absPick s ∧ pickOf s = 0 ∧
    c < s.clu.length) :=
  by refine ⟨?_, ?_, ?_, ?_, ?_, ?_, ?_, ?_⟩ <;> decide +kernel

theorem witness_engine_commands :
    (let s : State := woven; let e : Nat := 4; s.Inv ∧ e < 12) ∧
    (let s : State := woven; let e : Nat := 4; s.Inv ∧ e < 12) ∧
    (let s : State := woven; let e : Nat := 11; s.Inv ∧ e < 12) ∧
    (let s : State := woven; let c : Nat := 2; let half : Bool := true; s.Inv ∧ c < 4) ∧
    (let s : State := { (woven.put (REED_ENGST_HELD 4) 1) with warden.engctl := some (engctlWord 4 2 false) }; let e : Nat := 4; s.Inv ∧ e < 12 ∧
    s.warden.engctl = some (engctlWord e 2 false) ∧ s.flag (REED_ENGST_HELD e) = true) ∧
    (let s : State := { (woven.put (LOOM_STAT_STATE 4) 3) with warden.engctl := some (engctlWord 4 3 false) }; let e : Nat := 4; s.Inv ∧ e < 12 ∧
    s.warden.engctl = some (engctlWord e 3 false) ∧ s.get (LOOM_STAT_STATE e) = 3 ∧ e < s.warden.repReq.length) ∧
    (let s : State := { (((((woven.put (REED_CLST_MODE 1) 1).put (REED_ENGST_VOTE 3) 1).put (REED_ENGST_VOTE 4) 1).put (REED_ENGST_VOTE 5) 1).put (LOOM_STAT_STATE 4) 1) with warden.engctl := some (engctlWord 4 1 false) }; let e : Nat := 4; s.Inv ∧
    e < 12 ∧ s.warden.engctl = some (engctlWord e 1 false) ∧ s.get (REED_CLST_MODE (e / 3)) = 1 ∧ (voters s (e / 3)).length = 3 ∧
    s.flag (REED_CLST_REP (e / 3)) = false ∧ s.flag WEAVE_STAT_FB = false ∧ s.flag (REED_ENGST_VOTE e) = true ∧ s.get (LOOM_STAT_STATE e) = 1) :=
  by refine ⟨?_, ?_, ?_, ?_, ?_, ?_, ?_⟩ <;> decide +kernel

theorem witness_warden_work :
    (let s : State := woven.put WARDEN_STAT_STATE 2; s.Inv ∧ s.get WARDEN_STAT_STATE = 2) ∧
    (let s : State := woven.put WARDEN_STAT_STATE 1; s.Inv ∧ wardenRuns s = true) ∧
    (let s : State := woven.put WARDEN_STAT_STATE 1; s.Inv ∧ wardenRuns s = true) ∧
    (let s : State := inBg 2 3 ((woven.put WARDEN_STAT_STATE 1).put (REED_CLST_MODE 2) 1); let c : Nat := 2; let n : Nat := 7; s.Inv ∧ c < 4 ∧
    n < 1152 ∧ s.get (REED_CLST_MODE c) = 1 ∧ wardenRuns s = true ∧ auditTime s c = true ∧ auditBlock s (3 * c) n = auditBlock s (3 * c + 1) n ∧
    auditBlock s (3 * c + 1) n = auditBlock s (3 * c + 2) n) ∧
    (let s : State := inBg 1 3 { ((((((woven.put WARDEN_STAT_STATE 1).put (REED_CLST_MODE 1) 1).put (LOOM_STAT_STATE 5) 1).put (REED_ENGST_VOTE 3) 1).put (REED_ENGST_VOTE 4) 1).put (REED_ENGST_VOTE 5) 1) with loom := woven.loom.modify 5 fun e => { e with dm := [(900, 7)] } }; let c : Nat := 1; let n : Nat := 7; s.Inv ∧
    c < 4 ∧ n < 1152 ∧ s.get (REED_CLST_MODE c) = 1 ∧ wardenRuns s = true ∧ auditTime s c = true ∧
    blockCrc (auditBlock s (3 * c) n) = blockCrc (auditBlock s (3 * c + 1) n) ∧
    blockCrc (auditBlock s (3 * c + 1) n) ≠ blockCrc (auditBlock s (3 * c + 2) n) ∧ s.get (LOOM_STAT_STATE (3 * c + 2)) = 1 ∧
    (voters s c).length = 3 ∧ s.flag (REED_CLST_REP c) = false) ∧
    (let s : State := { (woven.put WARDEN_STAT_STATE 1) with warden.irq := [4, 5] }; let writes : List (Nat × Word) := [(0x60040, 1)]; let n : Nat := 4; let q : List Nat := [5]; s.Inv ∧
    wardenRuns s = true ∧ s.warden.irq = n :: q) ∧
    (let s : State := woven.put WARDEN_STAT_STATE 1; let writes : List (Nat × Word) := [(0x60040, 1)]; s.Inv ∧ wardenRuns s = true ∧
    s.warden.irq = []) ∧
    (let s : State := woven.put WARDEN_STAT_STBY 1; s.Inv ∧ s.get WARDEN_STAT_STBY = 1) ∧
    (let s : State := { (woven.put WARDEN_STAT_STBY 2) with warden.stbyVer := 8 }; s.Inv ∧ s.get WARDEN_STAT_STBY = 2) ∧
    (let s : State := { woven with warden.verifying := true }; s.Inv ∧ s.warden.verifying = true) :=
  by refine ⟨?_, ?_, ?_, ?_, ?_, ?_, ?_, ?_, ?_, ?_⟩ <;> decide +kernel

theorem witness_integer_operations :
    (let s : State := loomOn .add (word1 0 7 1 2 3); let e : Nat := 0; let w : SlotWord := word1 0 7 1 2 3; s.Inv ∧ Alone s e .add w) ∧
    (let s : State := loomOn .sub (word1 0 7 1 2 3); let e : Nat := 0; let w : SlotWord := word1 0 7 1 2 3; s.Inv ∧ Alone s e .sub w) ∧
    (let s : State := loomOn .addi (word1 0 7 1 2 3); let e : Nat := 0; let w : SlotWord := word1 0 7 1 2 3; s.Inv ∧ Alone s e .addi w) ∧
    (let s : State := loomOn .and (word1 0 7 1 2 3); let e : Nat := 0; let w : SlotWord := word1 0 7 1 2 3; s.Inv ∧ Alone s e .and w) ∧
    (let s : State := loomOn .or (word1 0 7 1 2 3); let e : Nat := 0; let w : SlotWord := word1 0 7 1 2 3; s.Inv ∧ Alone s e .or w) ∧
    (let s : State := loomOn .xor (word1 0 7 1 2 3); let e : Nat := 0; let w : SlotWord := word1 0 7 1 2 3; s.Inv ∧ Alone s e .xor w) ∧
    (let s : State := loomOn .andn (word1 0 7 1 2 3); let e : Nat := 0; let w : SlotWord := word1 0 7 1 2 3; s.Inv ∧ Alone s e .andn w) ∧
    (let s : State := loomOn .shl (word1 0 7 1 2 3); let e : Nat := 0; let w : SlotWord := word1 0 7 1 2 3; s.Inv ∧ Alone s e .shl w) ∧
    (let s : State := loomOn .shr (word1 0 7 1 2 3); let e : Nat := 0; let w : SlotWord := word1 0 7 1 2 3; s.Inv ∧ Alone s e .shr w) ∧
    (let s : State := loomOn .sar (word1 0 7 1 2 3); let e : Nat := 0; let w : SlotWord := word1 0 7 1 2 3; s.Inv ∧ Alone s e .sar w) ∧
    (let s : State := loomOn .shli (word1 0 7 1 2 3); let e : Nat := 0; let w : SlotWord := word1 0 7 1 2 3; s.Inv ∧ Alone s e .shli w) ∧
    (let s : State := loomOn .shri (word1 0 7 1 2 3); let e : Nat := 0; let w : SlotWord := word1 0 7 1 2 3; s.Inv ∧ Alone s e .shri w) ∧
    (let s : State := loomOn .sari (word1 0 7 1 2 3); let e : Nat := 0; let w : SlotWord := word1 0 7 1 2 3; s.Inv ∧ Alone s e .sari w) ∧
    (let s : State := loomOn .min (word1 0 7 1 2 3); let e : Nat := 0; let w : SlotWord := word1 0 7 1 2 3; s.Inv ∧ Alone s e .min w) ∧
    (let s : State := loomOn .max (word1 0 7 1 2 3); let e : Nat := 0; let w : SlotWord := word1 0 7 1 2 3; s.Inv ∧ Alone s e .max w) ∧
    (let s : State := loomOn .sel (word1 0 7 1 2 3); let e : Nat := 0; let w : SlotWord := word1 0 7 1 2 3; s.Inv ∧ Alone s e .sel w) ∧
    (let s : State := loomOn .li (word1 0 7 1 2 3); let e : Nat := 0; let w : SlotWord := word1 0 7 1 2 3; s.Inv ∧ Alone s e .li w) ∧
    (let s : State := loomOn .lih (word1 0 7 1 2 3); let e : Nat := 0; let w : SlotWord := word1 0 7 1 2 3; s.Inv ∧ Alone s e .lih w) ∧
    (let s : State := loomOn .cmp (word1 0 2 1 2 3); let e : Nat := 0; let w : SlotWord := word1 0 2 1 2 3; s.Inv ∧ Alone s e .cmp w) ∧
    (let s : State := loomOn .nop (word1 0 0 0 0 0); let e : Nat := 0; let w : SlotWord := word1 0 0 0 0 0; s.Inv ∧ Alone s e .nop w) :=
  by refine ⟨?_, ?_, ?_, ?_, ?_, ?_, ?_, ?_, ?_, ?_, ?_, ?_, ?_, ?_, ?_, ?_, ?_, ?_, ?_, ?_⟩ <;> decide +kernel

theorem witness_fixed_point_operations :
    (let s : State := loomOn .qadd (word1 0 7 4 1 3); let e : Nat := 0; let w : SlotWord := word1 0 7 4 1 3; s.Inv ∧ Alone s e .qadd w) ∧
    (let s : State := loomOn .qsub (word1 0 7 4 1 3); let e : Nat := 0; let w : SlotWord := word1 0 7 4 1 3; s.Inv ∧ Alone s e .qsub w) ∧
    (let s : State := loomOn .qabs (word1 0 7 4 1 3); let e : Nat := 0; let w : SlotWord := word1 0 7 4 1 3; s.Inv ∧ Alone s e .qabs w) ∧
    (let s : State := loomOn .qmul (word1 0 7 1 2 3); let e : Nat := 0; let w : SlotWord := word1 0 7 1 2 3; s.Inv ∧ Alone s e .qmul w) ∧
    (let s : State := loomOn .qmac (word1 0 0 1 2 2); let e : Nat := 0; let w : SlotWord := word1 0 0 1 2 2; s.Inv ∧ Alone s e .qmac w) ∧
    (let s : State := loomOn .qmsb (word1 0 0 1 2 2); let e : Nat := 0; let w : SlotWord := word1 0 0 1 2 2; s.Inv ∧ Alone s e .qmsb w) ∧
    (let s : State := loomOn .qmz (word1 0 0 1 2 2); let e : Nat := 0; let w : SlotWord := word1 0 0 1 2 2; s.Inv ∧ Alone s e .qmz w) ∧
    (let s : State := loomOn .acr (word1 0 7 1 2 3); let e : Nat := 0; let w : SlotWord := word1 0 7 1 2 3; s.Inv ∧ Alone s e .acr w) ∧
    (let s : State := loomOn .acw (word1 0 0 1 2 2); let e : Nat := 0; let w : SlotWord := word1 0 0 1 2 2; s.Inv ∧ Alone s e .acw w) :=
  by refine ⟨?_, ?_, ?_, ?_, ?_, ?_, ?_, ?_, ?_⟩ <;> decide +kernel

theorem witness_floating_point_operations :
    (let s : State := loomOn .fadd (word1 0 7 1 2 3); let e : Nat := 0; let w : SlotWord := word1 0 7 1 2 3; s.Inv ∧ Alone s e .fadd w) ∧
    (let s : State := loomOn .fsub (word1 0 7 1 2 3); let e : Nat := 0; let w : SlotWord := word1 0 7 1 2 3; s.Inv ∧ Alone s e .fsub w) ∧
    (let s : State := loomOn .fmul (word1 0 7 1 2 3); let e : Nat := 0; let w : SlotWord := word1 0 7 1 2 3; s.Inv ∧ Alone s e .fmul w) ∧
    (let s : State := loomOn .fma (word1 0 7 1 2 3); let e : Nat := 0; let w : SlotWord := word1 0 7 1 2 3; s.Inv ∧ Alone s e .fma w) ∧
    (let s : State := loomOn .fmin (word1 0 7 1 2 3); let e : Nat := 0; let w : SlotWord := word1 0 7 1 2 3; s.Inv ∧ Alone s e .fmin w) ∧
    (let s : State := loomOn .fmax (word1 0 7 1 2 3); let e : Nat := 0; let w : SlotWord := word1 0 7 1 2 3; s.Inv ∧ Alone s e .fmax w) ∧
    (let s : State := loomOn .fneg (word1 0 7 1 2 3); let e : Nat := 0; let w : SlotWord := word1 0 7 1 2 3; s.Inv ∧ Alone s e .fneg w) ∧
    (let s : State := loomOn .fabs (word1 0 7 1 2 3); let e : Nat := 0; let w : SlotWord := word1 0 7 1 2 3; s.Inv ∧ Alone s e .fabs w) ∧
    (let s : State := loomOn .fcmp (word1 0 2 1 2 3); let e : Nat := 0; let w : SlotWord := word1 0 2 1 2 3; s.Inv ∧ Alone s e .fcmp w) ∧
    (let s : State := loomOn .fcvt (word1 0 7 1 2 3); let e : Nat := 0; let w : SlotWord := word1 0 7 1 2 3; s.Inv ∧ Alone s e .fcvt w) ∧
    (let s : State := loomOn .frcp (word1 3 7 2 0 0); let e : Nat := 0; let w : SlotWord := word1 3 7 2 0 0; s.Inv ∧ Alone s e .frcp w) ∧
    (let s : State := loomOn .frsq (word1 3 7 2 0 0); let e : Nat := 0; let w : SlotWord := word1 3 7 2 0 0; s.Inv ∧ Alone s e .frsq w) :=
  by refine ⟨?_, ?_, ?_, ?_, ?_, ?_, ?_, ?_, ?_, ?_, ?_, ?_⟩ <;> decide +kernel

theorem witness_loads_and_stores :
    (let s : State := loomOn .ldw (word1 4 8 0 0 2); let e : Nat := 0; let w : SlotWord := word1 4 8 0 0 2; s.Inv ∧ Alone s e .ldw w) ∧
    (let s : State := loomOn .ldx (word1 4 8 0 0 2); let e : Nat := 0; let w : SlotWord := word1 4 8 0 0 2; s.Inv ∧ Alone s e .ldx w) ∧
    (let s : State := loomOn .ldd (word1 4 8 0 0 2); let e : Nat := 0; let w : SlotWord := word1 4 8 0 0 2; s.Inv ∧ Alone s e .ldd w) ∧
    (let s : State := loomOn .lda (word1 4 8 0 0 2); let e : Nat := 0; let w : SlotWord := word1 4 8 0 0 2; s.Inv ∧ Alone s e .lda w) ∧
    (let s : State := loomOn .ldaw (word1 4 8 0 0 2); let e : Nat := 0; let w : SlotWord := word1 4 8 0 0 2; s.Inv ∧ Alone s e .ldaw w) ∧
    (let s : State := loomOn .lds (word1 4 8 0 0 2); let e : Nat := 0; let w : SlotWord := word1 4 8 0 0 2; s.Inv ∧ Alone s e .lds w) ∧
    (let s : State := loomOn .ldp (word1 4 8 0 0 2); let e : Nat := 0; let w : SlotWord := word1 4 8 0 0 2; s.Inv ∧ Alone s e .ldp w) ∧
    (let s : State := loomOn .ldr (word1 4 8 0 0 2); let e : Nat := 0; let w : SlotWord := word1 4 8 0 0 2; s.Inv ∧ Alone s e .ldr w) ∧
    (let s : State := loomOn .ldb (word1 4 8 0 0 2); let e : Nat := 0; let w : SlotWord := word1 4 8 0 0 2; s.Inv ∧ Alone s e .ldb w) ∧
    (let s : State := loomOn .stw (word1 4 8 0 0 2); let e : Nat := 0; let w : SlotWord := word1 4 8 0 0 2; s.Inv ∧ Alone s e .stw w) ∧
    (let s : State := loomOn .stx (word1 4 8 0 0 2); let e : Nat := 0; let w : SlotWord := word1 4 8 0 0 2; s.Inv ∧ Alone s e .stx w) ∧
    (let s : State := loomOn .std (word1 4 8 0 0 2); let e : Nat := 0; let w : SlotWord := word1 4 8 0 0 2; s.Inv ∧ Alone s e .std w) ∧
    (let s : State := loomOn .sta (word1 4 8 0 0 2); let e : Nat := 0; let w : SlotWord := word1 4 8 0 0 2; s.Inv ∧ Alone s e .sta w) :=
  by refine ⟨?_, ?_, ?_, ?_, ?_, ?_, ?_, ?_, ?_, ?_, ?_, ?_, ?_⟩ <;> decide +kernel

theorem witness_branches_loops_and_records :
    (let s : State := loomOn .bra (word1 6 0 0 1 2); let e : Nat := 0; let w : SlotWord := word1 6 0 0 1 2; s.Inv ∧ Alone s e .bra w) ∧
    (let s : State := loomOn .bri (word1 6 0 0 1 2); let e : Nat := 0; let w : SlotWord := word1 6 0 0 1 2; s.Inv ∧ Alone s e .bri w) ∧
    (let s : State := loomOn .call (word1 6 0 0 1 2); let e : Nat := 0; let w : SlotWord := word1 6 0 0 1 2; s.Inv ∧ Alone s e .call w) ∧
    (let s : State := loomOn .ret (word1 6 0 0 1 2); let e : Nat := 0; let w : SlotWord := word1 6 0 0 1 2; s.Inv ∧ Alone s e .ret w) ∧
    (let s : State := loomOn .loopi (word1 6 0 4 0 2); let e : Nat := 0; let w : SlotWord := word1 6 0 4 0 2; s.Inv ∧ Alone s e .loopi w ∧
    0 < loopCount w) ∧
    (let s : State := loomOn .loopr (word1 6 0 0 0 2); let e : Nat := 0; let w : SlotWord := word1 6 0 0 0 2; s.Inv ∧ Alone s e .loopr w ∧
    0 < (seen s e w).gd.toNat % 65536) ∧
    (let s : State := loomOn .crd (word1 6 7 0 8 0); let e : Nat := 0; let w : SlotWord := word1 6 7 0 8 0; s.Inv ∧ Alone s e .crd w) ∧
    (let s : State := loomOn .cwr (word1 6 0 1 8 0); let e : Nat := 0; let w : SlotWord := word1 6 0 1 8 0; s.Inv ∧ Alone s e .cwr w ∧ w.d = 0) ∧
    (let s : State := loomOn .cwr (word1 6 1 1 8 0); let e : Nat := 0; let w : SlotWord := word1 6 1 1 8 0; s.Inv ∧ Alone s e .cwr w ∧ w.d = 1) ∧
    (let s : State := loomOn .cwi (word1 6 4 1 8 0); let e : Nat := 0; let w : SlotWord := word1 6 4 1 8 0; s.Inv ∧ Alone s e .cwi w ∧ w.d = 4) ∧
    (let s : State := backed .jend (word1 6 0 0 0 0); let e : Nat := 0; let w : SlotWord := word1 6 0 0 0 0; s.Inv ∧ Alone s e .jend w) ∧
    (let s : State := loomOn .endm (word1 6 0 0 0 0); let e : Nat := 0; let w : SlotWord := word1 6 0 0 0 0; s.Inv ∧ Alone s e .endm w) ∧
    (let s : State := loomOn .rece (word1 7 0 0 1 0); let e : Nat := 0; let w : SlotWord := word1 7 0 0 1 0; s.Inv ∧ Alone s e .rece w) ∧
    (let s : State := loomOn .recr (word1 7 0 0 1 0); let e : Nat := 0; let w : SlotWord := word1 7 0 0 1 0; s.Inv ∧ Alone s e .recr w) ∧
    (let s : State := loomOn .recs (word1 7 0 0 1 0); let e : Nat := 0; let w : SlotWord := word1 7 0 0 1 0; s.Inv ∧ Alone s e .recs w) ∧
    (let s : State := loomOn .recv (word1 7 0 5 1 0); let e : Nat := 0; let w : SlotWord := word1 7 0 5 1 0; s.Inv ∧ Alone s e .recv w) :=
  by refine ⟨?_, ?_, ?_, ?_, ?_, ?_, ?_, ?_, ?_, ?_, ?_, ?_, ?_, ?_, ?_, ?_⟩ <;> decide +kernel

theorem witness_engines_between_bundles :
    (let s : State := loomOn .undef (word1 0 7 0 0 0); let e : Nat := 0; let w : SlotWord := word1 0 7 0 0 0; s.Inv ∧ e < 12 ∧ e < s.loom.length ∧
    s.get (LOOM_STAT_STATE e) = 1 ∧ (engAt s e).running = true ∧ (engAt s e).lc < issueEnd s e ∧ (engAt s e).bundle = [] ∧
    fetchOps s (engAt s e) = [(.undef, w)] ∧ (engAt s e).pc < codeLen s (e / 3) (engAt s e) ∧ s.flag (REED_CLST_REP (e / 3)) = false) ∧
    (let s : State := { looming with loom := looming.loom.modify 0 fun e => { e with flight := [⟨3, 0, 0, false, .g 9, 77, 1, ⟨0, false, 0, 0, false, 0, 0, [], false⟩⟩] } }; let e : Nat := 0; let clocks : Nat := 4; let f : Flight := ⟨3, 0, 0, false, .g 9, 77, 1, ⟨0, false, 0, 0, false, 0, 0, [], false⟩⟩; let n : Nat := 9; s.Inv ∧
    e < 12 ∧ e < s.loom.length ∧ (engAt s e).flight = [f] ∧ f.dest = .g n ∧ n < (engAt s e).g.length ∧ f.bg = (engAt s e).bg ∧
    f.ready ≤ (engAt s e).now + clocks) ∧
    (let s : State := (looming.put (LOOM_STAT_STATE 4) 3).put (REED_ENGST_HELD 4) 1; let e : Nat := 4; let value : Word := 3; s.Inv ∧ e < 12 ∧
    e < s.loom.length ∧ (s.get (pglock (0x44 + e))).testBit 0 = false ∧ stepPermitted e s = true ∧ value.toNat < 2 ^ 13 ∧ 0 < value.toNat) ∧
    (let s : State := (looming.put (LOOM_STAT_STATE 4) 3).put (REED_ENGST_HELD 4) 1; let e : Nat := 4; let value : Word := 0x2005; s.Inv ∧ e < 12 ∧
    e < s.loom.length ∧ (s.get (pglock (0x44 + e))).testBit 0 = false ∧ stepPermitted e s = true ∧ value.toNat < 2 ^ 14) ∧
    (let s : State := { looming.put (LOOM_STAT_STATE 4) 5 with loom := looming.loom.modify 4 fun e => { e with ended := true } }; let e : Nat := 4; s.Inv ∧
    e < 12 ∧ s.get (LOOM_STAT_STATE e) = 5 ∧ (engAt s e).ended = true) :=
  by refine ⟨?_, ?_, ?_, ?_, ?_⟩ <;> decide +kernel

theorem witness_cells_edges_and_carrier :
    (let s : State := woven; let c : Nat := 1; let missing : Bool := true; s.Inv ∧ c < 3 ∧ c < s.clu.length ∧ (missing && twinState s == 5) = false) ∧
    (let s : State := woven; let missing : Bool := false; s.Inv ∧ 3 < s.clu.length ∧ (missing && twinState s == 5) = false) ∧
    (let s : State := woven.put (RING_TWSTAT_STATE 6) 5; let c : Nat := 1; s.Inv ∧ c < 3 ∧ c < s.clu.length ∧ twinState s = 5) ∧
    (let s : State := { woven.put (CELL_STATE_ST 7) 4 with cells := woven.cells.modify 7 fun c => { c with inok := 4096 } }; let g : Nat := 7; s.Inv ∧
    g < 192 ∧ 4096 ≤ (cellSt s g).inok ∧ cellState s g = 4) ∧
    (let s : State := { woven.put (CELL_STATE_ST 7) 5 with cells := woven.cells.modify 7 fun c => { c with inok := 4096 } }; let g : Nat := 7; s.Inv ∧
    g < 192 ∧ 4096 ≤ (cellSt s g).inok ∧ cellState s g = 5 ∧ s.flag (CELL_CTL_SERVICE g) = false ∧ belowCount s (g / 64) = true) ∧
    (let s : State := { woven.put (CELL_STATE_ST 7) 7 with cells := woven.cells.modify 7 fun c => { c with await := some 2 } }; let g : Nat := 7; s.Inv ∧
    g < s.cells.length ∧ g < 192 ∧ (cellSt s g).await = some 2 ∧ cellState s g = 7) ∧
    (let s : State := { woven.put (CELL_STATE_ST 7) 8 with cells := woven.cells.modify 7 fun c => { c with await := some 1 } }; let g : Nat := 7; s.Inv ∧
    g < s.cells.length ∧ g < 192 ∧ (cellSt s g).await = some 1 ∧ cellState s g = 8 ∧ s.flag WEAVE_STAT_RUN = true ∧ s.flag WEAVE_STAT_FB = false ∧
    s.weave.fbPend = none ∧ s.weave.fbWhileLoading = none) ∧
    (let s : State := { woven with cells := woven.cells.modify 7 fun c => { c with lost := true } }; let g : Nat := 7; s.Inv ∧ g < s.cells.length ∧
    (cellSt s g).lost = true) ∧
    (let s : State := woven.put (CELL_STATE_ST 7) 2; let g : Nat := 7; s.Inv ∧ g < 192 ∧ populated s g = true ∧ cellState s g = 2 ∧
    (s.get (pglock (0x100 + g))).testBit 0 = false) ∧
    (let s : State := ((woven.put (CELL_STATE_ST 7) 5).put (CELL_STATE_INOK 7) 1).put (CELL_CTL_SERVICE 7) 1; let g : Nat := 7; s.Inv ∧ g < 192 ∧
    populated s g = true ∧ cellState s g = 5 ∧ s.flag (CELL_STATE_INOK g) = true ∧ (cellSt s g).lost = false ∧ belowCount s (g / 64) = true ∧
    (s.get (pglock (0x100 + g))).testBit 0 = false) ∧
    (let s : State := woven.put EDGE_STAT_RUN 1; let ph : Nat := 1; s.Inv ∧ s.flag EDGE_STAT_RUN = true ∧ ph < 3 ∧ s.edge.nextB ≤ absPick s + 3 ∧
    s.edge.loaded.getD ph false = false) ∧
    (let s : State := woven.put EDGE_STAT_RUN 1; s.Inv ∧ s.flag EDGE_STAT_RUN = true ∧ absPick s = s.edge.nextB) ∧
    (let s : State := ((woven.put (RING_STAT_STATE 2) 3).put (RING_OWN_LO_OWN 2) 5); let lane : Nat := 2; s.Inv ∧ laneSends s lane = true) ∧
    (let s : State := woven.put WARP_INC_INC 4203613000; let high : Bool := true; let ns : Nat := 1000; let lc : Nat := 40; s.Inv ∧
    high ≠ s.flag SYNC_CTL_INPOL ∧ syncKind ns = 2 ∧ s.syn.lastAt = none) ∧
    (let s : State := woven; let high : Bool := true; let ns : Nat := 700; let lc : Nat := 40; s.Inv ∧ high ≠ s.flag SYNC_CTL_INPOL ∧ syncKind ns = 0) ∧
    (let s : State := woven; let high : Bool := false; let ns : Nat := 1000; let lc : Nat := 40; s.Inv ∧ high = s.flag SYNC_CTL_INPOL) ∧
    (let s : State := { ((woven.put SYNC_CTL_FOLLOW 1).put SYNC_STAT_LOCKED 1) with warp.acc := BitVec.ofNat 96 (2 ^ 60), syn.lastAt := some 5 }; let l : Nat := 5; s.Inv ∧
    s.syn.lastAt = some l ∧ l + 2 * 2 ^ 28 ≤ threadsAt s 0 ∧ s.flag SYNC_CTL_FOLLOW = true ∧ s.flag SYNC_STAT_LOCKED = true) :=
  by refine ⟨?_, ?_, ?_, ?_, ?_, ?_, ?_, ?_, ?_, ?_, ?_, ?_, ?_, ?_, ?_, ?_, ?_⟩ <;> decide +kernel

theorem witness_ring_directions :
    (let s : State := (woven.put (RING_STAT_STATE 2) 3).put (RING_STAT_STATE 3) 3; let lane : Nat := 2; s.Inv ∧ lane < 6 ∧
    s.get (RING_STAT_STATE lane) = 3 ∧ laneServes s (otherLane lane) = true ∧ s.get (RING_TWSTAT_STATE 6) ≠ 5) ∧
    (let s : State := ((woven.put (RING_STAT_STATE 2) 3).put (RING_STAT_STATE 3) 3).put (RING_STAT_LOCK 2) 1; let lane : Nat := 2; s.Inv ∧ lane < 6 ∧
    s.get (RING_STAT_STATE lane) = 3 ∧ laneServes s (otherLane lane) = true ∧ s.get (RING_TWSTAT_STATE 6) ≠ 5) ∧
    (let s : State := woven.put (RING_STAT_LOCK 6) 1; let lane : Nat := 6; s.Inv ∧ lane < 8 ∧ 6 ≤ lane) ∧
    (let s : State := { (woven.put (RING_STAT_STATE 2) 4).put (RING_STAT_LOCK 2) 1 with ring := woven.ring.modify 2 fun d => { d with good := 262144 } }; let lane : Nat := 2; s.Inv ∧
    lane < 6 ∧ s.get (RING_STAT_STATE lane) = 4 ∧ s.flag (RING_STAT_LOCK lane) = true ∧ 262144 ≤ (ringDir s lane).good ∧
    s.flag (RING_CTL_FORCEOUT lane) = false) ∧
    (let s : State := (woven.put (RING_STAT_STATE 2) 5).put (RING_STAT_KEYED 2) 1; let lane : Nat := 2; s.Inv ∧ lane < 6 ∧
    s.get (RING_STAT_STATE lane) = 5 ∧ pickOf s = 0 ∧ s.flag (RING_STAT_KEYED lane) = true) ∧
    (let s : State := { ((((woven.put (RING_STAT_STATE 0) 3).put (RING_STAT_STATE 1) 3).put (RING_OWN_LO_OWN 0) 4).put (RING_PRES_HI_PRES 1) 0xFFFFFFFF) with cells := woven.cells.modify 2 fun c => { c with miss := 4 } }; let g : Nat := 2; s.Inv ∧
    g < s.cells.length ∧ g < 192 ∧ populated s g = true ∧ ownerNow s g = 0 ∧ 4 ≤ (cellSt s g).miss ∧ s.get (RING_STAT_STATE (2 * (g / 64))) = 3 ∧
    s.get (RING_STAT_STATE (2 * (g / 64) + 1)) = 3 ∧ presBit s (2 * (g / 64) + 1) g = true) ∧
    (let s : State := { (((woven.put (RING_STAT_STATE 0) 3).put (RING_STAT_STATE 1) 3).put (RING_OWN_LO_OWN 1) 4) with cells := woven.cells.modify 2 fun c => { c with good := 262144 } }; let g : Nat := 2; s.Inv ∧
    g < s.cells.length ∧ g < 192 ∧ populated s g = true ∧ ownerNow s g = 1 ∧ defaultOwner s g = 0 ∧ pickOf s = 0 ∧ 262144 ≤ (cellSt s g).good) ∧
    (let s : State := (live.put (RING_STAT_LOCK 2) 1); let lane : Nat := 2; let b : CollectBurst := ⟨7, true, 5, 0, 0, []⟩; s.Inv ∧ lane < 6 ∧
    blockLate lane b s = false ∧ lane < s.ring.length ∧ (ringDir s lane).step ≠ 6 ∧ b.endOk = true ∧ s.flag (RING_STAT_LOCK lane) = true ∧
    b.pres < 2 ^ 64 ∧ (phaseCells (lane / 2)).all (fun g => !populated s g) = true) :=
  by refine ⟨?_, ?_, ?_, ?_, ?_, ?_, ?_, ?_⟩ <;> decide +kernel

theorem witness_collect_bursts_are_reduced_1 :
    (let s : State := { (((woven.put (RING_STAT_LOCK 2) 1).put (CELL_STATE_ST 64) 3).put (RING_OWN_LO_OWN 2) 1) with cells := woven.cells.modify 64 fun c => { c with keys := [List.replicate 32 7, []] } }; let lane : Nat := 2; let b : CollectBurst := ⟨0, true, 1, 3, 0, [.raw 50 [1]]⟩; s.Inv ∧
    lane < 6 ∧ blockLate lane b s = false ∧ lane < s.ring.length ∧ (ringDir s lane).step ≠ 6 ∧ b.endOk = true ∧
    s.flag (RING_STAT_LOCK lane) = true ∧ b.pres < 2 ^ 64) := by decide +kernel

theorem witness_collect_bursts_are_reduced_2 :
    (let s : State := { (((woven.put (RING_STAT_LOCK 2) 1).put (CELL_STATE_ST 64) 3).put (RING_OWN_LO_OWN 2) 1) with cells := woven.cells.modify 64 fun c => { c with keys := [List.replicate 32 7, []] } }; let lane : Nat := 2; let b : CollectBurst := ⟨0, false, 1, 3, 0, []⟩; s.Inv ∧
    lane < 6 ∧ blockLate lane b s = false ∧ lane < s.ring.length ∧ (ringDir s lane).step ≠ 6 ∧ b.endOk = false) := by decide +kernel

theorem witness_collect_bursts_are_reduced_3 :
    (let s : State := { (((woven.put (RING_STAT_LOCK 2) 1).put (CELL_STATE_ST 64) 3).put (RING_OWN_LO_OWN 2) 1) with cells := woven.cells.modify 64 fun c => { c with keys := [List.replicate 32 7, []] } }; let lane : Nat := 2; let b : CollectBurst := ⟨0, true, 1, 0, 0, [.block 900 [7, 8]]⟩; let g : Nat := 64; let i : Nat := 0; let lc : Nat := 900; let ws : List Word := [7, 8]; s.Inv ∧
    lane < 6 ∧ blockLate lane b s = false ∧ lane < s.ring.length ∧ (ringDir s lane).step ≠ 6 ∧ g / 64 = lane / 2 ∧ g < s.cells.length ∧
    populated s g = true ∧ cellState s g ≠ 1 ∧ (maskCells lane (maskAt s lane b.pick))[i]? = some g ∧ b.segs[i]? = some (.block lc ws)) := by decide +kernel

theorem witness_collect_bursts_are_reduced_4 :
    (let s : State := { (((woven.put (RING_STAT_LOCK 2) 1).put (CELL_STATE_ST 64) 3).put (RING_OWN_LO_OWN 2) 1) with cells := woven.cells.modify 64 fun c => { c with keys := [List.replicate 32 7, []] } }; let lane : Nat := 2; let b : CollectBurst := ⟨0, true, 1, 0, 0, [.raw 900 seg1]⟩; let g : Nat := 64; let i : Nat := 0; let lc : Nat := 900; let bs : List Byte := seg1; let u : Uplink := uplinkOf 64 900 plain1; s.Inv ∧
    lane < 6 ∧ blockLate lane b s = false ∧ lane < s.ring.length ∧ (ringDir s lane).step ≠ 6 ∧ g / 64 = lane / 2 ∧ g < s.cells.length ∧
    populated s g = true ∧ cellState s g ≠ 1 ∧ (maskCells lane (maskAt s lane b.pick))[i]? = some g ∧ b.segs[i]? = some (.raw lc bs) ∧
    openSeg s lane g b.pick lc bs = some u ∧ -(2 ^ 31 : Int) ≤ (sumSlots u 0 + sumSlots u 1) * 2 ^ 14 ∧
    (sumSlots u 0 + sumSlots u 1) * 2 ^ 14 < (2 ^ 31 : Int)) := by decide +kernel

theorem witness_collect_bursts_are_reduced_5 :
    (let s : State := { (((woven.put (RING_STAT_LOCK 2) 1).put (CELL_STATE_ST 64) 3).put (RING_OWN_LO_OWN 2) 1) with cells := woven.cells.modify 64 fun c => { c with keys := [List.replicate 32 7, []] } }; let lane : Nat := 2; let b : CollectBurst := ⟨0, true, 1, 0, 0, [.raw 900 [1, 2]]⟩; let g : Nat := 64; let i : Nat := 0; let lc : Nat := 900; let bs : List Byte := [1, 2]; s.Inv ∧
    lane < 6 ∧ blockLate lane b s = false ∧ lane < s.ring.length ∧ (ringDir s lane).step ≠ 6 ∧ g / 64 = lane / 2 ∧ g < s.cells.length ∧
    populated s g = true ∧ cellState s g ≠ 1 ∧ (maskCells lane (maskAt s lane b.pick))[i]? = some g ∧ b.segs[i]? = some (.raw lc bs) ∧
    openSeg s lane g b.pick lc bs = none) := by decide +kernel

theorem witness_ring_enumeration :
    (let s : State := (woven.put (RING_STAT_STATE 2) 3).put (RING_STAT_KEYED 2) 1; let lane : Nat := 2; s.Inv ∧ lane < 6 ∧
    s.flag (RING_CTL_FORCEOUT lane) = false ∧ (s.get (pglock (0x58 + lane))).testBit 0 = false ∧
    (phaseCells (lane / 2)).any (fun g => owns s lane g && (cellState s g == 3 || cellState s g == 4)) = false ∧ lane < s.ring.length) ∧
    (let s : State := woven; let lane : Nat := 2; s.Inv ∧ lane < 6 ∧ terminates s lane = true ∧ s.get (RING_STAT_STATE lane) = 0 ∧
    lane < s.ring.length) ∧
    (let s : State := { woven.put (RING_STAT_STATE 2) 1 with ring := woven.ring.modify 2 fun d => { d with step := 1 } }; let lane : Nat := 2; let ms : Nat := 9; s.Inv ∧
    lane < 6 ∧ lane < s.ring.length ∧ (ringDir s lane).step = 1) ∧
    (let s : State := { woven.put (RING_STAT_STATE 2) 1 with ring := woven.ring.modify 2 fun d => { d with step := 1 } }; let lane : Nat := 2; let ms : Nat := 100; s.Inv ∧
    lane < 6 ∧ lane < s.ring.length ∧ (ringDir s lane).step = 1 ∧ ms < 65536) ∧
    (let s : State := { woven with ring := woven.ring.modify 2 fun d => { d with step := 2 } }; let lane : Nat := 2; let d : Discover := ⟨[⟨9, 1, 2, 3, 4⟩], 50, 20, 3, 0⟩; let ms : Nat := 9; s.Inv ∧
    lane < 6 ∧ lane < s.ring.length ∧ (ringDir s lane).step = 2 ∧ (ringDir s lane).disc.length < 3) ∧
    (let s : State := { live with ring := woven.ring.modify 2 fun d => { d with step := 2, disc := [⟨[⟨9, 1, 2, 3, 4⟩], 50, 20, 0, 0⟩, ⟨[⟨9, 1, 2, 3, 4⟩], 51, 21, 0, 0⟩, ⟨[⟨9, 1, 2, 3, 4⟩], 50, 20, 1, 0⟩] } }; let lane : Nat := 2; let d : Discover := ⟨[⟨9, 1, 2, 3, 4⟩], 50, 20, 0, 0⟩; let ms : Nat := 9; s.Inv ∧
    lane < 6 ∧ lane < s.ring.length ∧ (ringDir s lane).step = 2 ∧ (ringDir s lane).disc.length = 3 ∧
    (ringDir s lane).disc.all (fun x => x.hops == d.hops) = true ∧ d.hops.length ≤ 64 ∧ imageRuns s = false) ∧
    (let s : State := { ((((woven.put WARDEN_STAT_STATE 1).put (RING_ENUMSTAT_FOUND 2) 2).put (RING_HOP2_CELL 2 0) 64).put (RING_HOP3_TYPE 2 0) 1) with ring := woven.ring.modify 2 (fun d => { d with step := 4 }), sec.certs := [(768, []), (768, []), (0, []), (9, [])] }; let lane : Nat := 2; let hop : Nat := 1; let ms : Nat := 9; let key : List Byte := List.replicate 32 7; let msgs : List Mgmt := [⟨0, 1, 2, 3, [4]⟩]; s.Inv ∧
    lane < 6 ∧ lane < s.ring.length ∧ (ringDir s lane).step = 4 ∧ wardenRuns s = true ∧ ringCert s = true ∧ 1 ≤ hop ∧ hop ≤ 64 ∧
    hop < s.get (RING_ENUMSTAT_FOUND lane) ∧ (ringDir s lane).tried = [] ∧ (ringDir s lane).conf = [] ∧ identity s lane (hop - 1) true = 0 ∧
    (ringDir s lane).bad = false ∧ s.get (RING_HOP2_CELL lane (hop - 1)) < s.cells.length ∧
    lane % 2 < (cellSt s (s.get (RING_HOP2_CELL lane (hop - 1)))).keys.length) ∧
    (let s : State := { (((woven.put WARDEN_STAT_STATE 1).put (RING_HOP2_KEYED 2 0) 1).put (RING_ENUMSTAT_FOUND 2) 2) with ring := woven.ring.modify 2 fun d => { d with step := 4 } }; let lane : Nat := 2; let hop : Nat := 1; let ms : Nat := 9; let msgs : List Mgmt := []; s.Inv ∧
    lane < 6 ∧ lane < s.ring.length ∧ (ringDir s lane).step = 4 ∧ wardenRuns s = true ∧ 1 ≤ hop ∧ hop ≤ 64 ∧
    s.flag (RING_HOP2_KEYED lane (hop - 1)) = true ∧ (ringDir s lane).conf = [] ∧ (ringDir s lane).mute = [] ∧ (ringDir s lane).tried = [] ∧
    1 ≤ s.get (RING_ENUMSTAT_FOUND lane)) ∧
    (let s : State := { (((woven.put WARDEN_STAT_STATE 1).put (RING_HOP2_KEYED 2 0) 1).put (RING_ENUMSTAT_FOUND 2) 1) with ring := woven.ring.modify 2 fun d => { d with step := 4, tried := [1] } }; let lane : Nat := 2; let ms : Nat := 9; let msgs : List Mgmt := []; s.Inv ∧
    lane < 6 ∧ lane < s.ring.length ∧ (ringDir s lane).step = 4 ∧ wardenRuns s = true ∧ s.flag (RING_HOP2_KEYED lane 0) = true ∧
    (ringDir s lane).conf = [] ∧ (ringDir s lane).mute = [] ∧ (ringDir s lane).tried = [1] ∧ s.get (RING_ENUMSTAT_FOUND lane) = 1 ∧ ms < 65536) ∧
    (let s : State := { (((woven.put WARDEN_STAT_STATE 1).put (RING_HOP2_KEYED 2 0) 1).put (RING_ENUMSTAT_FOUND 2) 1) with ring := woven.ring.modify 2 fun d => { d with step := 4, tried := [1] } }; let lane : Nat := 2; let ms : Nat := 9; let msgs : List Mgmt := []; s.Inv ∧
    lane < 6 ∧ lane < s.ring.length ∧ (ringDir s lane).step = 4 ∧ wardenRuns s = true ∧ s.flag (RING_HOP2_KEYED lane 0) = true ∧
    (ringDir s lane).conf = [] ∧ (ringDir s lane).mute = [] ∧ (ringDir s lane).tried = [1] ∧ s.get (RING_ENUMSTAT_FOUND lane) = 1 ∧ ms < 65536) ∧
    (let s : State := { ((woven.put WARDEN_STAT_STATE 1).put (RING_STAT_STATE 2) 2) with ring := woven.ring.modify 2 fun d => { d with step := 6 } }; let lane : Nat := 2; let b : CollectBurst := ⟨0, true, 1, 0, 0, []⟩; s.Inv ∧
    lane < 6 ∧ blockLate lane b s = false ∧ lane < s.ring.length ∧ (ringDir s lane).step = 6 ∧ b.endOk = true ∧ wardenRuns s = true) ∧
    (let s : State := (((((woven.put WARDEN_STAT_STATE 1).put (CELL_STATE_ST 70) 5).put (CELL_STATE_BYP 70) 1).put (RING_ENUMSTAT_FOUND 2) 8).put (RING_HOP2_CELL 2 6) 70); let cell : Nat := 70; let carried : Nat := 5; let keys : List (List Byte) := [List.replicate 32 7, []]; let msgs : List Mgmt := []; let i : Nat := 6; s.Inv ∧
    cell < 192 ∧ i < 64 ∧ wardenRuns s = true ∧ cellState s cell = 5 ∧ s.flag (CELL_STATE_BYP cell) = true ∧
    i < s.get (RING_ENUMSTAT_FOUND (2 * (cell / 64))) ∧ s.get (RING_HOP2_CELL (2 * (cell / 64)) i) = cell ∧ carried < 256 ∧
    s.get (RING_ENUMSTAT_FOUND (2 * (cell / 64))) ≤ 64 ∧ s.get (RING_ENUMSTAT_FOUND (2 * (cell / 64) + 1)) ≤ 64) :=
  by refine ⟨?_, ?_, ?_, ?_, ?_, ?_, ?_, ?_, ?_, ?_, ?_, ?_⟩ <;> decide +kernel

theorem witness_twin_link :
    (let s : State := (woven.put (RING_TWSTAT_STATE 6) 1); let lane : Nat := 7; s.Inv ∧ (lane = 6 ∨ lane = 7) ∧ s.get (RING_TWSTAT_STATE 6) = 1) ∧
    (let s : State := { ((woven.put (RING_TWSTAT_STATE 6) 2).put WEAVE_STAT_RUN 0).put DEVICE_MODE_UNIT 1 with weave.mode := 3, weave.banks := [⟨[], some img0, 0⟩] }; let peer : TwinPeer := ⟨0, 0, false, true, ⟨99, 98, none, 1, false, 0, 0, none, none, 0, false⟩, [7]⟩; s.Inv ∧
    s.get (RING_TWSTAT_STATE 6) = 2 ∧ ownTwinHash s = some peer.hash ∧ peer.unit ≠ unitNo s ∧ peer.unit < 2 ∧ s.flag WEAVE_STAT_RUN = false ∧
    peer.running = false ∧ unitNo s = 1) ∧
    (let s : State := { (woven.put (RING_TWSTAT_STATE 6) 2).put WEAVE_STAT_RUN 0 with weave.banks := [⟨[], some img0, 0⟩] }; let peer : TwinPeer := ⟨0, 1, true, true, ⟨99, 98, none, 1, false, 0, 0, none, none, 0, false⟩, [7]⟩; s.Inv ∧
    s.get (RING_TWSTAT_STATE 6) = 2 ∧ ownTwinHash s = some peer.hash ∧ peer.unit ≠ unitNo s ∧ s.flag WEAVE_STAT_RUN = false ∧
    peer.running = true ∧ peer.accept = true) ∧
    (let s : State := { woven.put (RING_TWSTAT_STATE 6) 3 with twin.joiner := true }; let cp : TwinCopy := ⟨[], [(1, 2)], [], ⟨99, 98, none, 1, false, 0, 0, none, none, 0, false⟩, [], [], 5, 4⟩; s.Inv ∧
    s.get (RING_TWSTAT_STATE 6) = 3 ∧ s.twin.joiner = true) ∧
    (let s : State := woven.put (RING_TWSTAT_STATE 6) 3; let cp : TwinCopy := ⟨[], [(1, 2)], [], ⟨99, 98, none, 1, false, 0, 0, none, none, 0, false⟩, [], [], 5, 4⟩; s.Inv ∧
    s.get (RING_TWSTAT_STATE 6) = 3) ∧
    (let s : State := { woven.put (RING_TWSTAT_STATE 6) 4 with warp.acc := BitVec.ofNat 96 (2 ^ 56) }; s.Inv ∧ s.get (RING_TWSTAT_STATE 6) = 4 ∧
    pickOf s = 0 ∧ s.twin.since + 1024 ≤ absPick s ∧ s.permit.yielded = false) ∧
    (let s : State := { woven.put (RING_TWSTAT_STATE 6) 5 with warp.acc := BitVec.ofNat 96 (2 ^ 44) }; let b : TwinBurst := ⟨0, true, true, false, [], 0, none, [], (1, 2), (0, 0)⟩; s.Inv ∧
    s.get (RING_TWSTAT_STATE 6) = 5 ∧ b.ok0 = true ∧ b.ok1 = true ∧ b.yield = false ∧ b.ownChg = [] ∧ b.cancelled = [] ∧ b.pick + 1 = absPick s ∧
    recsCrc s.twin.prev = b.crc) ∧
    (let s : State := { woven.put (RING_TWSTAT_STATE 6) 5 with warp.acc := BitVec.ofNat 96 (2 ^ 44), weave.armed := some ⟨0, 4, 0⟩ }; let b : TwinBurst := ⟨0, true, true, false, [], 0, none, [(0, 4)], (1, 2), (0, 0)⟩; let x : Switch := ⟨0, 4, 0⟩; let i : Image := img0; s.Inv ∧
    s.get (RING_TWSTAT_STATE 6) = 5 ∧ b.ok0 = true ∧ b.yield = false ∧ b.ownChg = [] ∧ b.cancelled = [(i.twinHash, x.cycle)] ∧
    b.pick + 1 = absPick s ∧ recsCrc s.twin.prev = b.crc ∧ s.weave.due = none ∧ s.weave.armed = some x ∧
    (s.weave.banks.getD x.bank Bank.empty).img = some i ∧ x.since ≤ b.pick ∧ b.pick < (x.cycle - 1) * 4096 + 4095) ∧
    (let s : State := { woven.put (RING_TWSTAT_STATE 6) 5 with warp.acc := BitVec.ofNat 96 (2 ^ 44) }; let b : TwinBurst := ⟨0, true, true, false, [], 7, none, [], (1, 2), (0, 0)⟩; s.Inv ∧
    s.get (RING_TWSTAT_STATE 6) = 5 ∧ b.ok0 = true ∧ b.pick + 1 = absPick s ∧ recsCrc s.twin.prev ≠ b.crc ∧ s.flag WEAVE_STAT_RUN = true ∧
    s.flag WEAVE_STAT_FB = false ∧ s.weave.fbPend = none ∧ s.weave.fbWhileLoading = none) ∧
    (let s : State := woven.put (RING_TWSTAT_STATE 6) 4; s.Inv ∧ (s.get (RING_TWSTAT_STATE 6) = 3 ∨ s.get (RING_TWSTAT_STATE 6) = 4) ∧
    s.twin.lastEnd = none) ∧
    (let s : State := { (List.range 12).foldl (fun s k => s.put (REED_ENGST_VOTE k) 1) (woven.put (RING_TWSTAT_STATE 6) 5) with warp.acc := BitVec.ofNat 96 (2 ^ 60) }; s.Inv ∧
    s.get (RING_TWSTAT_STATE 6) = 5 ∧ s.twin.lastEnd = none ∧ s.twin.since + 1 < absPick s ∧
    (List.range 4).all (fun c => 2 ≤ (voters s c).length) = true) ∧
    (let s : State := ((woven.put (RING_TWSTAT_STATE 6) 1).put SHUTTLE_F_STAT_SHUT 0).put (RING_STAT_LOCK 6) 1; s.Inv ∧
    (s.get (pglock 0x5E)).testBit 1 = false ∧ s.get (RING_TWSTAT_STATE 6) = 1 ∧ s.flag SHUTTLE_F_STAT_SHUT = false ∧
    s.flag (RING_STAT_LOCK 6) = true) :=
  by refine ⟨?_, ?_, ?_, ?_, ?_, ?_, ?_, ?_, ?_, ?_, ?_, ?_⟩ <;> decide +kernel

theorem witness_references_and_energy :
    (let s : State := { woven.put CURCTL_STAT_FWACT 1 with cur := { woven.cur with fwPre := some 3, fwIn := 1 } }; s.Inv ∧ s.cur.fwPre.isSome = true ∧
    1 ≤ s.cur.fwIn) ∧
    (let s : State := { woven with cur := { woven.cur with eSum := 9 } }; s.Inv ∧ s.flag WEAVE_STAT_RUN = true ∧ pickOf s % 16 = 0) ∧
    (let s : State := woven; s.Inv ∧ s.flag WEAVE_STAT_RUN = true ∧ s.flag WEAVE_STAT_FB = false ∧ pickOf s % 64 = 0) ∧
    (let s : State := { woven.put CURCTL_LTCTL_CLEAR 1 with cur := { woven.cur with cycles := 1000, spoilt := [false, true, false] } }; s.Inv ∧
    s.flag WEAVE_STAT_RUN = true ∧ s.get FTHERM_STAT_LEVEL < 2 ∧ s.get CURCTL_LTCTL_LTPER ≤ s.cur.cycles ∧ s.cur.tabNext.length = 3 ∧
    s.flag CURCTL_LTCTL_FREEZE = false ∧ s.flag CURCTL_LTCTL_CLEAR = true ∧ s.cur.spoilt = [false, true, false]) ∧
    (let s : State := { woven with cur := { woven.cur with cycles := 1000, spoilt := [true, true, false], tab := [[], [], [(5, 7)]] } }; s.Inv ∧
    s.flag WEAVE_STAT_RUN = true ∧ s.get FTHERM_STAT_LEVEL < 2 ∧ s.get CURCTL_LTCTL_LTPER ≤ s.cur.cycles ∧ s.cur.tabNext.length = 3 ∧
    s.flag CURCTL_LTCTL_FREEZE = false ∧ s.flag CURCTL_LTCTL_CLEAR = false ∧ s.cur.spoilt = [true, true, false]) ∧
    (let s : State := woven.put FTHERM_STAT_LEVEL 2; s.Inv ∧ 2 ≤ s.get FTHERM_STAT_LEVEL) :=
  by refine ⟨?_, ?_, ?_, ?_, ?_, ?_⟩ <;> decide +kernel

theorem witness_trackers_and_scans :
    (let s : State := { woven.put (MPPT_CW0_STATE 42) 1 with mppt := { woven.mppt with on := true, bank := 5, t := 4, tupd := 1 } }; s.Inv ∧
    s.flag WEAVE_STAT_RUN = true ∧ s.mppt.on = true ∧ s.mppt.bank < 24 ∧ (s.mppt.bank : Rat) * s.mppt.tupd / 24 ≤ s.mppt.t) ∧
    (let s : State := { woven with mppt := { woven.mppt with on := true, bank := 24, t := 4, tupd := 1 } }; s.Inv ∧
    (24 ≤ s.mppt.bank ∨ s.mppt.t < (s.mppt.bank : Rat) * s.mppt.tupd / 24)) ∧
    (let s : State := { woven with mppt := { woven.mppt with cells := woven.mppt.cells.map fun c => { c with n16 := 3 } } }; s.Inv ∧
    s.flag WEAVE_STAT_RUN = true ∧ s.flag WEAVE_STAT_FB = false ∧ pickOf s % 16 = 0) ∧
    (let s : State := { woven.put (MPPT_CW0_STATE 3) 3 with mppt := { woven.mppt with cells := woven.mppt.cells.map fun c => { c with rel := some 900 } } }; let g : Nat := 3; let x : Rat := 900; s.Inv ∧
    g < 192 ∧ g < s.mppt.cells.length ∧ trkState s g = 3 ∧ rests s g = false ∧ (trk s g).rel = some x ∧ (s.get MPPT_CURT_RELT : Nat) / 10 ≤ x) ∧
    (let s : State := (woven.put MPPT_CTL_SCANEN 1).put GRIDFN_STAT_CSTATE 5; s.Inv ∧ s.flag MPPT_CTL_SCANEN = true ∧ s.flag WEAVE_STAT_RUN = true ∧
    connected s = true ∧ (s.mppt.passT = none ∨ s.mppt.passT = some (60 * (s.get MPPT_SCAN_PER : Nat))) ∧ s.flag MPPT_SCANSTAT_RUN = false) ∧
    (let s : State := { ((woven.put MPPT_CTL_SCANEN 1).put MPPT_SCANSTAT_RUN 1).put GRIDFN_STAT_CSTATE 5 with mppt.passT := some (60 * (woven.get MPPT_SCAN_PER : Nat)) }; s.Inv ∧
    s.flag MPPT_CTL_SCANEN = true ∧ s.flag WEAVE_STAT_RUN = true ∧ connected s = true ∧ s.mppt.passT = some (60 * (s.get MPPT_SCAN_PER : Nat)) ∧
    s.flag MPPT_SCANSTAT_RUN = true) ∧
    (let s : State := { (woven.put MPPT_CTL_SCANEN 1).put MPPT_SCAN_PER 9 with mppt.passT := some 7 }; let x : Rat := 7; s.Inv ∧
    s.mppt.passT = some x ∧ x < 60 * (s.get MPPT_SCAN_PER : Nat)) ∧
    (let s : State := woven; s.Inv ∧ s.flag MPPT_SCANSTAT_RUN = false) ∧
    (let s : State := { woven.put MPPT_SCANSTAT_RUN 1 with mppt := { woven.mppt with phase := some 3, cells := woven.mppt.cells.modify 2 fun c => { c with scan := some ⟨5, 0, 0, 0, 0, 0⟩ } } }; s.Inv ∧
    s.mppt.phase.isSome = true) ∧
    (let s : State := { ((woven.put MPPT_SCANSTAT_RUN 1).put (MPPT_CW0_STATE 10) 2).put MPPT_CTL_HIDE 0 with mppt := { woven.mppt with queue := [1], tPhase := 1, cells := woven.mppt.cells.modify 10 fun c => { c with plim := 5 } } }; let b : Nat := 1; s.Inv ∧
    b < 24 ∧ s.flag MPPT_SCANSTAT_RUN = true ∧ s.mppt.phase = none ∧ 1 ≤ s.mppt.tPhase ∧ s.mppt.queue = [b] ∧ s.flag MPPT_CTL_HIDE = false ∧
    (bankPv s b).any (admits s) = true) ∧
    (let s : State := { woven with mppt := { woven.mppt with phase := some 7, tPhase := 2000 } }; let k : Nat := 7; s.Inv ∧ s.mppt.phase = some k ∧
    k < 65 ∧ (if k = 0 then 1 / 5 else dwell s) ≤ s.mppt.tPhase) ∧
    (let s : State := { woven with mppt := { woven.mppt with phase := some 65, tPhase := 1, cells := woven.mppt.cells.modify 2 fun c => { c with scan := some ⟨5, 0, 0, 0, 0, 0⟩ } } }; s.Inv ∧
    s.mppt.phase = some 65 ∧ 1 / 5 ≤ s.mppt.tPhase) :=
  by refine ⟨?_, ?_, ?_, ?_, ?_, ?_, ?_, ?_, ?_, ?_, ?_, ?_⟩ <;> decide +kernel

theorem witness_trips_and_connection :
    (let s : State := { woven.put GRIDFN_STAT_RT 1 with ride := { woven.ride with calm := 100, jump := 8192 } }; s.Inv ∧
    s.flag GRIDFN_STAT_RT = true ∧ (s.get GRIDFN_RTTIME_TEND : Nat) / 1000 ≤ s.ride.calm ∧ 8192 ≤ s.ride.jump) ∧
    (let s : State := { (woven.put GRIDFN_STAT_CSTATE 5).put (curvCount 1) 2 with ride := { woven.ride with timers := (List.replicate 64 (0 : Rat)).set 17 9000 } }; let k : Nat := 17; let r : List Nat := []; s.Inv ∧
    connected s = true ∧ duePoints s = k :: r ∧ s.permit.yielded = false) ∧
    (let s : State := woven; s.Inv ∧ ((List.range 4).all (curveOk s)) = true) ∧
    (let s : State := woven.put (curvShadowCount 0) 31; s.Inv ∧ ((List.range 4).all (curveOk s)) = false) ∧
    (let s : State := { woven.put GRIDFN_STAT_CSTATE 1 with ride := { woven.ride with wait := 4000 } }; s.Inv ∧ cstate s = 1 ∧
    (s.get GRIDFN_CONNT_TWAIT : Nat) ≤ s.ride.wait) ∧
    (let s : State := syncing; s.Inv ∧ cstate s = 2 ∧ 4096 ≤ s.ride.hold ∧ maySync s = true) ∧
    (let s : State := syncing.put SHUTTLE_F_STAT_SHUT 1; s.Inv ∧ maySync s = false) ∧
    (let s : State := { woven.put GRIDFN_STAT_CSTATE 2 with ride := { woven.ride with inState := 10 } }; s.Inv ∧ cstate s = 2 ∧ 10 ≤ s.ride.inState) ∧
    (let s : State := { woven.put GRIDFN_STAT_CSTATE 3 with ride := { woven.ride with inState := 10 } }; s.Inv ∧ cstate s = 3 ∧
    (s.get GRIDFN_CONNT_TBRK : Nat) / 500 ≤ s.ride.inState) ∧
    (let s : State := { woven.put GRIDFN_STAT_CSTATE 4 with ride := { woven.ride with r := 1 } }; s.Inv ∧ cstate s = 4 ∧ 1 ≤ s.ride.r) :=
  by refine ⟨?_, ?_, ?_, ?_, ?_, ?_, ?_, ?_, ?_, ?_⟩ <;> decide +kernel

theorem witness_islanding_detection :
    (let s : State := { woven.put ISLAND_STAT_SUSP 1 with isl.susp := some 900 }; let x : Rat := 900; s.Inv ∧ s.isl.susp = some x ∧
    suspended s = true ∧ (s.get GRIDFN_RTTIME_TMAX : Nat) / 100 ≤ x) ∧
    (let s : State := { woven.put ISLAND_STAT_SUSP 1 with isl.quiet := 900 }; s.Inv ∧ s.flag ISLAND_STAT_SUSP = true ∧ s.flag GRIDFN_STAT_RT = false ∧
    (s.get GRIDFN_RTTIME_TREC : Nat) / 100 ≤ s.isl.quiet) ∧
    (let s : State := { woven.put ISLAND_STAT_ARUN 1 with isl := { woven.isl with ended := true, chips := List.replicate 17 ⟨1, 0, 0, 0, true⟩ } }; s.Inv ∧
    s.isl.ended = true ∧ s.flag ISLAND_STAT_ARUN = true ∧ s.get ISLAND_CTL_W < s.isl.chips.length ∧
    ((s.isl.chips.take (s.get ISLAND_CTL_W)).all (·.fresh)) = true ∧ ((s.isl.chips.take (s.get ISLAND_CTL_W)).all (·.sign == 1)) = true) ∧
    (let s : State := { woven.put ISLAND_STAT_ARUN 1 with isl := { woven.isl with ended := true, chips := ⟨-1, 1, 1, 1, true⟩ :: List.replicate 16 ⟨1, 0, 0, 0, true⟩ } }; s.Inv ∧
    s.isl.ended = true ∧ s.flag ISLAND_STAT_ARUN = true ∧ s.get ISLAND_CTL_W < s.isl.chips.length ∧
    ((s.isl.chips.take (s.get ISLAND_CTL_W)).all (·.fresh)) = true ∧ ((s.isl.chips.take (s.get ISLAND_CTL_W)).all (·.sign == 1)) = false ∧
    ((s.isl.chips.take (s.get ISLAND_CTL_W)).all (·.sign == -1)) = false) ∧
    (let s : State := { (woven.put ISLAND_CTL_PMODE 2).put GRIDFN_STAT_CSTATE 5 with isl.both := 900 }; s.Inv ∧ s.get ISLAND_CTL_PMODE = 2 ∧
    (s.get ISLAND_PTHR_PCONF : Nat) / 100 ≤ s.isl.both ∧ connected s = true ∧ suspended s = false ∧ s.permit.yielded = false) :=
  by refine ⟨?_, ?_, ?_, ?_, ?_⟩ <;> decide +kernel

theorem witness_measurement_and_checks :
    (let s : State := { woven with meter := { woven.meter with cyc := { MeterAcc.reset with n := 4096 } } }; s.Inv ∧ s.meter.cyc.n = 4096 ∧
    s.meter.w10.cycles + 1 < 10) ∧
    (let s : State := woven; let agent : Nat := 1; let k : Nat := 5; s.Inv ∧ k < 8) ∧
    (let s : State := { woven.put PQEVT_CFG_EN 1 with meter := { woven.meter with halfN := 2048, half := [1, 2, 3] } }; s.Inv ∧ 2048 ≤ s.meter.halfN) ∧
    (let s : State := { woven.put WARP_STAT_VALID 1 with meter.due := true }; s.Inv ∧ s.meter.due = true ∧ checkMay s = true) ∧
    (let s : State := woven.put WARP_STAT_VALID 1; s.Inv ∧ checkMay s = true) ∧
    (let s : State := { woven.put METER_STAT_CHKRUN 1 with meter.chkN := 57344 }; s.Inv ∧ s.flag METER_STAT_CHKRUN = true ∧ 57344 ≤ s.meter.chkN) ∧
    (let s : State := { woven with meter.due := true }; s.Inv ∧ s.meter.due = true ∧ s.flag WARP_STAT_VALID = false) ∧
    (let s : State := (woven.put WARP_STAT_VALID 1).put METER_STAT_CAUSE 3; s.Inv ∧ s.flag METER_STAT_CHK = false ∧ s.get METER_STAT_CAUSE ≠ 0 ∧
    checkMay s = true) ∧
    (let s : State := live.put (S0_CFG_EN 1) 1; let n : Nat := 1; let on' : Nat := 50; let off : Nat := 50; s.Inv ∧ n < 4 ∧
    s.flag (S0_CFG_EN n) = true ∧ s.s0.maxed.getD n false = false ∧ s.get (S0_CFG_MINON n) ≤ on' ∧ s.get (S0_CFG_MINOFF n) ≤ off ∧
    s.flag (S0_CFG_XEN n) = false) ∧
    (let s : State := live.put (S0_CFG_EN 1) 1; let n : Nat := 1; let on' : Nat := 0; let off : Nat := 50; s.Inv ∧ n < 4 ∧
    s.flag (S0_CFG_EN n) = true ∧ s.s0.maxed.getD n false = false ∧ on' < s.get (S0_CFG_MINON n)) ∧
    (let s : State := live.put (S0_CFG_EN 1) 1; let n : Nat := 1; s.Inv ∧ n < 4 ∧ n < s.s0.maxed.length ∧ s.flag (S0_CFG_EN n) = true ∧
    s.s0.maxed.getD n false = false ∧ s.flag (S0_CFG_XEN n) = false) :=
  by refine ⟨?_, ?_, ?_, ?_, ?_, ?_, ?_, ?_, ?_, ?_, ?_⟩ <;> decide +kernel

theorem witness_temperature_sensors :
    (let s : State := live; let sensor : Nat := 3; let value : Int := 200; let faulty : Bool := false; s.Inv ∧ sensor < 15 ∧
    sensor < s.heat.conv.length ∧ faulty = false) ∧
    (let s : State := live; let sensor : Nat := 10; let value : Int := 200; let faulty : Bool := true; s.Inv ∧ sensor < 15 ∧ faulty = true ∧
    s.flag (sensExcl sensor) = false) ∧
    (let s : State := { live with heat.conv := List.replicate 15 [200, 201, 201, 200] }; let fdie : Bool := true; s.Inv ∧ fdie = true ∧
    ((List.range 9).all fun k => (s.heat.conv.getD k []).all fun x => decide (-440 ≤ x) && decide (x ≤ 1400)) = true ∧
    ((List.range 15).all fun k => decide ((s.heat.conv.getD k []).length ≤ 4)) = true ∧ s.heat.has.length = 15) ∧
    (let s : State := { live with heat.conv := List.replicate 15 [200, 201, 201, 200] }; let fdie : Bool := false; s.Inv ∧ fdie = false ∧
    ((List.range 15).all fun k => (s.heat.conv.getD k []).all fun x => decide (-440 ≤ x) && decide (x ≤ 1400)) = true ∧
    ((List.range 15).all fun k => decide ((s.heat.conv.getD k []).length ≤ 4)) = true ∧ s.heat.has.length = 15) ∧
    (let s : State := { live with heat.off := List.replicate 15 1001 }; let sensor : Nat := 2; s.Inv ∧ sensor < 15 ∧ 1001 ≤ s.heat.off.getD sensor 0 ∧
    s.flag (sensExcl sensor) = false) ∧
    (let s : State := { (live.put (sensExcl 2) 1) with heat.near := List.replicate 15 60000 }; let sensor : Nat := 2; s.Inv ∧ sensor < 15 ∧
    60000 ≤ s.heat.near.getD sensor 0 ∧ s.flag (sensExcl sensor) = true) :=
  by refine ⟨?_, ?_, ?_, ?_, ?_, ?_⟩ <;> decide +kernel

theorem witness_thermal_requests_and_copies :
    (let s : State := woven; let value : Word := 1; s.Inv ∧ value.getLsbD 0 = true ∧ s.flag WEAVE_STAT_RUN = true ∧ s.flag WEAVE_STAT_FB = false ∧
    s.weave.fbPend = none ∧ s.weave.fbWhileLoading = none) ∧
    (let s : State := woven.put FTHERM_HREQ_SHUT 1; let value : Word := 2; s.Inv ∧ value.getLsbD 0 = false) ∧
    (let s : State := live.put (HTHERM_NTCCFG_EN 1) 1; let n : Nat := 1; let x : Rat := 99 / 100; s.Inv ∧ n < 4 ∧ s.flag (HTHERM_NTCCFG_EN n) = true ∧
    98 / 100 < x) ∧
    (let s : State := live.put (HTHERM_NTCCFG_EN 1) 1; let n : Nat := 1; let x : Rat := 1 / 2; s.Inv ∧ n < 4 ∧ s.flag (HTHERM_NTCCFG_EN n) = true ∧
    2 / 100 ≤ x ∧ x ≤ 98 / 100 ∧ s.heat.ntcAct.getD n none = none ∧ s.heat.ntcAct.length = 4) ∧
    (let s : State := live.put SHUTTLE_H_STAT_NOTREADY 0; s.Inv ∧ reachable s 0x07C = true) ∧
    (let s : State := live; let errs : List (Nat × Nat × Nat × Bool) := []; s.Inv ∧ errs = []) :=
  by refine ⟨?_, ?_, ?_, ?_, ?_, ?_⟩ <;> decide +kernel

theorem witness_panel_keys_buttons_and_leds :
    (let s : State := { (live.put PANEL_TOUCH_CFG_EN 1).put (PANEL_TOUCH_KCFG_KEN 3) 1 with panel.raws := (List.replicate 12 []).set 3 [1, 2, 3, 4, 5, 6, 7] }; let raws : List Nat := [7, 8, 9, 10]; s.Inv ∧
    s.flag PANEL_TOUCH_CFG_EN = true ∧ ((List.range 12).all fun k => decide (raws.getD k 0 < 65536)) = true ∧
    ((List.range 12).all fun k => !s.panel.hasBase.getD k false) = true ∧ s.panel.hasBase.length = 12 ∧ s.panel.raws.length = 12) ∧
    (let s : State := live.put PANEL_TOUCH_CFG_EN 0; let raws : List Nat := [7]; s.Inv ∧ s.flag PANEL_TOUCH_CFG_EN = false) ∧
    (let s : State := { live.put (subBit PANEL_TOUCH_STAT_TOUCH 4) 1 with panel.held := List.replicate 12 100000 }; let key : Nat := 4; s.Inv ∧
    key < 12 ∧ s.flag (subBit PANEL_TOUCH_STAT_TOUCH key) = true ∧ 100 * s.get PANEL_TOUCH_CFG_STUCK ≤ s.panel.held.getD key 0 ∧
    key < s.panel.quiet.length) ∧
    (let s : State := live.put PANEL_IO_BTNCFG_EN 0; let levels : Nat := 5; let same : Bool := true; s.Inv ∧ s.pwr.h = .run ∧
    ((List.range 4).all fun n => !s.flag (subBit PANEL_IO_BTNCFG_EN n)) = true ∧ s.panel.btn.length = 4) ∧
    (let s : State := (live.put PANEL_IO_BTNCFG_DEB 10).put PANEL_IO_BTNCFG_EN 15; let levels : Nat := 5; let same : Bool := true; s.Inv ∧
    s.pwr.h = .run ∧ ((List.range 4).all fun n => decide (s.panel.btn.getD n 0 + 1 < s.get PANEL_IO_BTNCFG_DEB)) = true ∧ s.panel.btn.length = 4) ∧
    (let s : State := { (live.put PANEL_IO_BTNCFG_DEB 10).put PANEL_IO_BTNCFG_EN 2 with panel.btn := [0, 9, 0, 0] }; let levels : Nat := 2; let same : Bool := true; s.Inv ∧
    s.pwr.h = .run ∧ s.flag (subBit PANEL_IO_BTNCFG_EN 1) = true ∧ s.get PANEL_IO_BTNCFG_DEB ≤ s.panel.btn.getD 1 0 + 1 ∧
    ((List.range 4).all fun n => n == 1 || !s.flag (subBit PANEL_IO_BTNCFG_EN n)) = true ∧ levels.testBit 1 = true ∧
    s.flag (subBit PANEL_IO_BTNSTAT_STATE 1) = false ∧ s.panel.btn.length = 4) ∧
    (let s : State := { live with pwr.h := .boot }; let levels : Nat := 5; let same : Bool := true; s.Inv ∧ s.pwr.h ≠ .run) ∧
    (let s : State := (live.put (PANEL_IO_LED_MODE 2) 1).put (PANEL_IO_LED_CUR 2) 9; let led : Nat := 2; s.Inv ∧ led < 16 ∧ 0 < (ledDrive s led).1 ∧
    s.flag (PANEL_IO_LED_OPEN led) = false) :=
  by refine ⟨?_, ?_, ?_, ?_, ?_, ?_, ?_, ?_⟩ <;> decide +kernel

theorem witness_louvre_commutation :
    (let s : State := { (live.put (LOUVRE_STAT_STATE 1) 3) with louv := live.louv.map fun l => { l with duty := 300 } }; let ch : Nat := 1; let code : Nat := 5; let cur : Int := 6; let busy : Bool := false; s.Inv ∧
    ch < 4 ∧ ch < s.louv.length ∧ 2 ≤ s.get (LOUVRE_STAT_STATE ch) ∧ s.get (LOUVRE_STAT_STATE ch) ≤ 3 ∧ (louvAt s ch).trip = false) ∧
    (let s : State := { (live.put (LOUVRE_STAT_STATE 1) 3) with louv := live.louv.map fun l => { l with trip := true } }; let ch : Nat := 1; let code : Nat := 5; let cur : Int := 6; let busy : Bool := false; s.Inv ∧
    ch < 4 ∧ ch < s.louv.length ∧ s.get (LOUVRE_STAT_STATE ch) = 3 ∧ (louvAt s ch).trip = true) ∧
    (let s : State := (live.put (LOUVRE_STAT_STATE 1) 4); let ch : Nat := 1; let code : Nat := 5; let cur : Int := 6; let busy : Bool := true; s.Inv ∧
    ch < 4 ∧ s.get (LOUVRE_STAT_STATE ch) = 4 ∧ busy = true ∧ (louvAt s ch).trip = false) ∧
    (let s : State := { (live.put (LOUVRE_STAT_STATE 1) 6) with louv := live.louv.map fun l => { l with duty := 300, ending := true } }; let ch : Nat := 1; let code : Nat := 5; let cur : Int := 6; let busy : Bool := false; s.Inv ∧
    ch < 4 ∧ ch < s.louv.length ∧ s.get (LOUVRE_STAT_STATE ch) = 6 ∧ (louvAt s ch).ending = true) ∧
    (let s : State := (live.put (LOUVRE_STAT_STATE 1) 3); let ch : Nat := 1; let len : Nat := 1000; let rev : Bool := false; let expected : Bool := true; s.Inv ∧
    ch < 4 ∧ ch < s.louv.length ∧ s.flag (LOUVRE_CFG_HALL ch) = false ∧ s.get (LOUVRE_STAT_STATE ch) = 3 ∧ (louvAt s ch).cross < 5) ∧
    (let s : State := { ((((live.put (LOUVRE_STAT_STATE 1) 3).put (LOUVRE_CFG_EN 1) 1).put (LOUVRE_CTL_MODE 1) 1).put (LOUVRE_CTL_RPM 1) 900).put (LOUVRE_CFG_POLES 1) 4 with louv := live.louv.map fun l => { l with cross := 5 } }; let ch : Nat := 1; let len : Nat := 1000; let rev : Bool := false; let expected : Bool := true; s.Inv ∧
    ch < 4 ∧ ch < s.louv.length ∧ s.flag (LOUVRE_CFG_HALL ch) = false ∧ s.get (LOUVRE_STAT_STATE ch) = 3 ∧ 5 ≤ (louvAt s ch).cross ∧
    expected = true ∧ s.flag (LOUVRE_CFG_EN ch) = true ∧ s.get (LOUVRE_CTL_MODE ch) = 1 ∧ (0 < rpmCap s ch (s.get (LOUVRE_CTL_RPM ch)) ∧
    anyShutdown s = false) ∧ s.pwr.uv = false) ∧
    (let s : State := (live.put (LOUVRE_STAT_STATE 1) 5); let ch : Nat := 1; let len : Nat := 1000; let rev : Bool := false; let expected : Bool := true; s.Inv ∧
    ch < 4 ∧ s.get (LOUVRE_STAT_STATE ch) = 5) ∧
    (let s : State := { (live.put (LOUVRE_STAT_STATE 1) 4) with louv := live.louv.map fun l => { l with seen := true } }; let ch : Nat := 1; let len : Nat := 1000; s.Inv ∧
    ch < 4 ∧ ch < s.louv.length ∧ s.flag (LOUVRE_CFG_HALL ch) = false ∧ s.get (LOUVRE_STAT_STATE ch) = 4 ∧ (louvAt s ch).seen = true) ∧
    (let s : State := (live.put (LOUVRE_STAT_STATE 1) 4).put (LOUVRE_CFG_HALL 1) 1; let ch : Nat := 1; let code : Nat := 3; let len : Nat := 1000; let d : Nat := 1; s.Inv ∧
    ch < 4 ∧ ch < s.louv.length ∧ s.flag (LOUVRE_CFG_HALL ch) = true ∧ s.get (LOUVRE_STAT_STATE ch) = 4 ∧ hallDrive s ch (code % 8) = some d) ∧
    (let s : State := { (live.put (LOUVRE_STAT_STATE 1) 4).put (LOUVRE_CFG_HALL 1) 1 with louv := live.louv.map fun l => { l with hall := 7 } }; let ch : Nat := 1; s.Inv ∧
    ch < 4 ∧ ch < s.louv.length ∧ s.flag (LOUVRE_CFG_HALL ch) = true ∧ hallSector (louvAt s ch).hall = none ∧ s.get (LOUVRE_STAT_STATE ch) ≠ 6) :=
  by refine ⟨?_, ?_, ?_, ?_, ?_, ?_, ?_, ?_, ?_, ?_⟩ <;> decide +kernel

theorem witness_louvre_states :
    (let s : State := (live.put (LOUVRE_STAT_STATE 1) 1).put (LOUVRE_SPIN_FCATCH 1) 9; let ch : Nat := 1; s.Inv ∧ ch < 4 ∧ ch < s.louv.length ∧
    s.get (LOUVRE_STAT_STATE ch) = 1 ∧ (louvAt s ch).rev = s.flag (LOUVRE_CTL_DIR ch) ∧ louvFe (louvAt s ch) < s.get (LOUVRE_SPIN_FCATCH ch) ∧
    s.flag (LOUVRE_CFG_HALL ch) = false) ∧
    (let s : State := { live.put (LOUVRE_STAT_STATE 1) 1 with louv := live.louv.map fun l => { l with rev := true, lens := [1, 1, 1, 1, 1, 1] } }; let ch : Nat := 1; s.Inv ∧
    ch < 4 ∧ ch < s.louv.length ∧ s.get (LOUVRE_STAT_STATE ch) = 1 ∧ (louvAt s ch).rev ≠ s.flag (LOUVRE_CTL_DIR ch) ∧
    (s.get (LOUVRE_SPIN_REVTH ch) : Rat) ≤ louvFe (louvAt s ch)) ∧
    (let s : State := live.put (LOUVRE_STAT_STATE 1) 2; let ch : Nat := 1; s.Inv ∧ ch < 4 ∧ ch < s.louv.length ∧ s.get (LOUVRE_STAT_STATE ch) = 2) ∧
    (let s : State := live.put (LOUVRE_STAT_STATE 1) 3; let ch : Nat := 1; s.Inv ∧ ch < 4 ∧ ch < s.louv.length ∧ s.get (LOUVRE_STAT_STATE ch) = 3 ∧
    ((louvAt s ch).stalls.filter fun x => decide ((louvAt s ch).ms < x + 60000)).length < 2) ∧
    (let s : State := live.put (LOUVRE_STAT_STATE 1) 4; let ch : Nat := 1; s.Inv ∧ ch < 4 ∧ ch < s.louv.length ∧ s.get (LOUVRE_STAT_STATE ch) = 4 ∧
    ((louvAt s ch).stalls.filter fun x => decide ((louvAt s ch).ms < x + 60000)).length < 2) ∧
    (let s : State := { live.put (LOUVRE_STAT_STATE 1) 4 with louv := live.louv.map fun l => { l with stalls := [0, 0] } }; let ch : Nat := 1; s.Inv ∧
    ch < 4 ∧ ch < s.louv.length ∧ s.get (LOUVRE_STAT_STATE ch) = 4 ∧
    2 ≤ ((louvAt s ch).stalls.filter fun x => decide ((louvAt s ch).ms < x + 60000)).length) ∧
    (let s : State := { ((((live.put (LOUVRE_STAT_STATE 1) 5).put (LOUVRE_CFG_EN 1) 1).put (LOUVRE_CTL_MODE 1) 1).put (LOUVRE_CTL_RPM 1) 900).put (LOUVRE_CFG_POLES 1) 4 with louv := live.louv.map fun l => { l with stalled := true } }; let ch : Nat := 1; s.Inv ∧
    ch < 4 ∧ s.get (LOUVRE_STAT_STATE ch) = 5 ∧ (louvAt s ch).stalled = true ∧
    ((louvAt s ch).stalls.filter fun x => decide ((louvAt s ch).ms < x + 60000)).length < 3 ∧ louvWants s ch = true) ∧
    (let s : State := live.put (LOUVRE_STAT_STATE 1) 5; let ch : Nat := 1; let after2s : Bool := true; s.Inv ∧ ch < 4 ∧
    s.get (LOUVRE_STAT_STATE ch) = 5 ∧ after2s = true ∧ louvWants s ch = false ∧ s.pwr.uv = false) ∧
    (let s : State := live; s.Inv ∧ ((List.range 4).all fun n => s.get (LOUVRE_STAT_STATE n) != 6) = true) ∧
    (let s : State := (((live.put (LOUVRE_STAT_STATE 0) 7).put (LOUVRE_STAT_STATE 1) 7).put (LOUVRE_STAT_STATE 2) 7).put (LOUVRE_STAT_STATE 3) 7; s.Inv ∧
    ((List.range 4).all fun n => s.get (LOUVRE_STAT_STATE n) == 7 && !louvWants s n) = true) ∧
    (let s : State := live; let ch : Nat := 2; let phase : Nat := 1; let cause : Nat := 3; let present : Bool := true; s.Inv ∧ ch < 4 ∧
    ch < s.louv.length ∧ phase < 3 ∧ 1 ≤ cause ∧ cause ≤ 3 ∧ present = true) ∧
    (let s : State := live; let ch : Nat := 2; let phase : Nat := 1; let cause : Nat := 3; let present : Bool := false; s.Inv ∧ ch < 4 ∧
    ch < s.louv.length ∧ phase < 3 ∧ 1 ≤ cause ∧ cause ≤ 3 ∧ present = false) :=
  by refine ⟨?_, ?_, ?_, ?_, ?_, ?_, ?_, ?_, ?_, ?_, ?_, ?_⟩ <;> decide +kernel

theorem witness_louvre_targets :
    (let s : State := (live.put (LOUVRE_STAT_STATE 1) 3); let ch : Nat := 1; let value : Word := 0x03E80001#32; let same : Bool := false; s.Inv ∧
    ch < 4 ∧ bitsAt value.toNat 0 2 = 1 ∧ value.getLsbD 2 = s.flag (LOUVRE_CTL_DIR ch) ∧ value.getLsbD 3 = false ∧ value &&& 0xFFF0#32 = 0 ∧
    s.get (LOUVRE_STAT_STATE ch) = 3 ∧ s.pwr.uv = false) ∧
    (let s : State := live; let ch : Nat := 1; let value : Word := 3; let same : Bool := false; s.Inv ∧ ch < 4 ∧ bitsAt value.toNat 0 2 = 3 ∧
    value.getLsbD 2 = s.flag (LOUVRE_CTL_DIR ch)) ∧
    (let s : State := (live.put (LOUVRE_STAT_STATE 1) 6); let ch : Nat := 1; let value : Word := 0x03E80009#32; let same : Bool := true; s.Inv ∧
    ch < 4 ∧ same = true ∧ s.get (LOUVRE_STAT_STATE ch) = 6 ∧ bitsAt value.toNat 0 2 = 1 ∧ value.getLsbD 2 = s.flag (LOUVRE_CTL_DIR ch) ∧
    value &&& 0xFFF0#32 = 0) ∧
    (let s : State := live.put (LOUVRE_STAT_STATE 1) 3; let ch : Nat := 1; s.Inv ∧ ch < 4 ∧ ch < s.louv.length ∧ s.get (LOUVRE_STAT_STATE ch) = 3 ∧
    s.pwr.uv = false) ∧
    (let s : State := { ((((live.put (LOUVRE_STAT_STATE 1) 4).put (LOUVRE_CFG_EN 1) 1).put (LOUVRE_CTL_MODE 1) 1).put (LOUVRE_CTL_RPM 1) 900).put (LOUVRE_CFG_POLES 1) 4 with louv := live.louv.map fun l => { l with runMs := 999 } }; let ch : Nat := 1; s.Inv ∧
    ch < 4 ∧ ch < s.louv.length ∧ s.get (LOUVRE_STAT_STATE ch) = 4 ∧ louvWants s ch = true ∧ forced s ch = s.flag (LOUVRE_STAT_FORCED ch) ∧
    (louvAt s ch).runMs = 999 ∧ s.pwr.uv = false) ∧
    (let s : State := ((live.put (LOUVRE_CTL_MODE 1) 2).put (LOUVRE_CURVSRC_SRC 1) 0x14).put (LOUVRE_CURVTON_TON 1) 0; let ch : Nat := 1; let x : Int := 0; s.Inv ∧
    ch < 4 ∧ ch < s.louv.length ∧ s.get (LOUVRE_CTL_MODE ch) = 2 ∧ tempSource s (s.get (LOUVRE_CURVSRC_SRC ch)) = some x ∧
    s.getI (LOUVRE_CURVTON_TON ch) ≤ x) ∧
    (let s : State := (live.put (LOUVRE_CTL_MODE 1) 2).put (LOUVRE_CURVSRC_SRC 1) 0x23; let ch : Nat := 1; s.Inv ∧ ch < 4 ∧ ch < s.louv.length ∧
    s.get (LOUVRE_CTL_MODE ch) = 2 ∧ tempSource s (s.get (LOUVRE_CURVSRC_SRC ch)) = none) :=
  by refine ⟨?_, ?_, ?_, ?_, ?_, ?_, ?_⟩ <;> decide +kernel

theorem witness_safety_inputs_and_tests :
    (let s : State := live.put SAFETY_CFG_MON 0; let levels : Nat := 5; s.Inv ∧ ((List.range 5).all fun i => !monitored s i) = true) ∧
    (let s : State := { (live.put SAFETY_CFG_MON 4).put (inputFld 2) 0 with safety.last := List.replicate 10 (some true), safety.filt := List.replicate 10 (some true) }; let levels : Nat := 0x20; s.Inv ∧
    monitored s 2 = true ∧ s.safety.last.getD 4 none = some true ∧ s.safety.last.getD 5 none = some true ∧ s.safety.filt.getD 4 none = some true ∧
    s.safety.filt.getD 5 none = some true ∧ s.get (inputFld 2) = 0 ∧ levels.testBit 4 = false ∧ levels.testBit 5 = true ∧
    ((List.range 5).all fun i => i == 2 || !monitored s i) = true ∧ s.safety.last.length = 10 ∧ s.safety.filt.length = 10 ∧
    s.safety.dis.length = 5 ∧ s.safety.dis.getD 2 0 = 0) ∧
    (let s : State := { (((live.put SAFETY_CFG_MON 4).put (inputFld 2) 0).put SAFETY_STAT_BLOCK 1).put (SAFETY_DISC_DISC 2) 50 with safety.last := (List.replicate 10 (some true)).set 4 (some false), safety.filt := List.replicate 10 (some true) }; let levels : Nat := 0x20; s.Inv ∧
    monitored s 2 = true ∧ s.safety.last.getD 4 none = some false ∧ s.safety.filt.getD 5 none = some true ∧
    s.safety.last.getD 5 none = some true ∧ s.safety.filt.getD 4 none = some true ∧ s.get (inputFld 2) = 0 ∧ levels.testBit 4 = false ∧
    levels.testBit 5 = true ∧ ((List.range 5).all fun i => i == 2 || !monitored s i) = true ∧ s.safety.last.length = 10 ∧
    s.safety.filt.length = 10 ∧ s.safety.dis.length = 5 ∧ s.safety.dis.getD 2 0 = 0 ∧ 1 ≤ s.get (SAFETY_DISC_DISC 2) ∧ s.link.up = true) ∧
    (let s : State := live.put SAFETY_CFG_MON 4; let tpb : Bool := false; let readbackLow : Bool := true; let levels : Nat := 0x20; s.Inv ∧
    tpb = false ∧ s.safety.partA.length = 5) ∧
    (let s : State := { live.put SAFETY_CFG_MON 4 with safety.filt := List.replicate 10 (some true) }; let tpb : Bool := true; let readbackLow : Bool := true; let levels : Nat := 0x10; s.Inv ∧
    tpb = true ∧ readbackLow = true ∧
    ((List.range 5).all fun i => !monitored s i || (s.safety.partA.getD i 0 == 0 && pulseCause true levels i s == 0)) = true ∧
    s.safety.passes.length = 5 ∧ s.safety.fails.length = 5) ∧
    (let s : State := live.put SAFETY_STAT_BLOCK 3; let cause : Nat := 0; s.Inv ∧ s.get SAFETY_STAT_BLOCK = 3 ∧ cause = 0) ∧
    (let s : State := live.put SAFETY_STAT_BLOCK 3; let cause : Nat := 6; s.Inv ∧ s.get SAFETY_STAT_BLOCK = 3 ∧ cause ≠ 0) ∧
    (let s : State := live; let ok : Bool := true; s.Inv ∧ ok = true) ∧
    (let s : State := live.put SAFETY_STAT_BLOCK 1; let ok : Bool := false; s.Inv ∧ ok = false ∧ s.get SAFETY_STAT_BLOCK = 1) :=
  by refine ⟨?_, ?_, ?_, ?_, ?_, ?_, ?_, ?_, ?_⟩ <;> decide +kernel

theorem witness_safety_resets_and_seal_reads :
    (let s : State := ((live.put SAFETY_STAT_BLOCK 0).put SAFETY_STAT_RECORD 1).put SAFETY_CFG_MON 0; let value : Word := 0x5AF3#32; let same : Bool := false; s.Inv ∧
    value = 0x5AF3#32 ∧ same = false ∧ s.get SAFETY_STAT_BLOCK = 0 ∧ s.flag SAFETY_STAT_RECORD = true ∧
    ((List.range 5).any fun i => monitored s i && s.get (inputFld i) != 0) = false) ∧
    (let s : State := live; let value : Word := 5; let same : Bool := false; s.Inv ∧ value ≠ 0x5AF3#32) ∧
    (let s : State := live.put SAFETY_STAT_BLOCK 1; let value : Word := 0x5AF3#32; let same : Bool := false; s.Inv ∧ value = 0x5AF3#32 ∧
    ((same = true ∨ s.get SAFETY_STAT_BLOCK ≠ 0 ∨ s.flag SAFETY_STAT_RECORD = false))) ∧
    (let s : State := live.put SAFETY_STAT_BLOCK 1; let value : Word := 1; s.Inv ∧ value = 1#32) ∧
    (let s : State := live; let value : Word := 0; s.Inv ∧ value = 0#32) ∧
    (let s : State := (live.put SEAL_STAT_RECORD 1).put SEAL_REC_SEALM 0x0F; let s1 : Nat := 0xF0; let s2 : Nat := 0xF0; let s3 : Nat := 0xF0; s.Inv ∧
    s.safety.retry = false ∧ (s1 % 256 = s2 % 256 ∧ s2 % 256 = s3 % 256) ∧ s.flag SEAL_STAT_RECORD = true ∧
    (s1 % 256 ^^^ s.get SEAL_REC_SEALW) &&& s.get SEAL_REC_SEALM = 0) ∧
    (let s : State := ((live.put SEAL_STAT_RECORD 1).put SEAL_REC_SEALM 0x0F).put SEAL_STAT_PERMIT 1; let s1 : Nat := 0xFF; let s2 : Nat := 0xFF; let s3 : Nat := 0xFF; s.Inv ∧
    s.safety.retry = false ∧ (s1 % 256 = s2 % 256 ∧ s2 % 256 = s3 % 256) ∧ s.flag SEAL_STAT_RECORD = true ∧
    (s1 % 256 ^^^ s.get SEAL_REC_SEALW) &&& s.get SEAL_REC_SEALM ≠ 0) ∧
    (let s : State := live; let s1 : Nat := 1; let s2 : Nat := 2; let s3 : Nat := 2; s.Inv ∧ s.safety.retry = false ∧ s1 % 256 ≠ s2 % 256 ∧
    s.safety.incons < 2) ∧
    (let s : State := live; s.Inv ∧ s.flag SEAL_STAT_BUSY = false) ∧
    (let s : State := live.put SEAL_STAT_BUSY 1; s.Inv ∧ s.flag SEAL_STAT_BUSY = true) ∧
    (let s : State := { live.put SEAL_STAT_BUSY 1 with safety.retry := true, safety.incons := 2 }; let s1 : Nat := 1; let s2 : Nat := 2; let s3 : Nat := 2; s.Inv ∧
    s.safety.retry = true ∧ s1 % 256 ≠ s2 % 256 ∧ 2 ≤ s.safety.incons) ∧
    (let s : State := { live.put SEAL_STAT_BUSY 1 with safety.retry := true, safety.incons := 2 }; let s1 : Nat := 1; let s2 : Nat := 1; let s3 : Nat := 1; s.Inv ∧
    s.safety.retry = true ∧ (s1 % 256 = s2 % 256 ∧ s2 % 256 = s3 % 256) ∧ s.flag SEAL_STAT_RECORD = false) :=
  by refine ⟨?_, ?_, ?_, ?_, ?_, ?_, ?_, ?_, ?_, ?_, ?_, ?_⟩ <;> decide +kernel

theorem witness_auxiliary_supply :
    (let s : State := (live.put AUXSUP_STAT_STATE 2).put AUXSUP_CFG_FSW 50; let endBy : Nat := 0; let duty : Nat := 300; let fb : Nat := 1000; s.Inv ∧
    s.get AUXSUP_STAT_STATE = 2 ∧ s.aux.step < 7 ∧ endBy = 0 ∧ s.aux.ov < 3) ∧
    (let s : State := { (live.put AUXSUP_STAT_STATE 2).put AUXSUP_CFG_FSW 50 with aux.oc := 3 }; let endBy : Nat := 2; let duty : Nat := 300; let fb : Nat := 1000; s.Inv ∧
    s.get AUXSUP_STAT_STATE = 2 ∧ s.aux.step < 7 ∧ endBy = 2 ∧ s.aux.oc = 3 ∧ s.aux.ov < 3 ∧ s.aux.hiccups = []) ∧
    (let s : State := { (((live.put AUXSUP_STAT_STATE 2).put AUXSUP_CFG_FSW 50).put AUXSUP_PROT_OVP 110).put AUXSUP_VREG_VSET 1000 with aux.ov := 3 }; let endBy : Nat := 0; let duty : Nat := 300; let fb : Nat := 2000; s.Inv ∧
    s.get AUXSUP_STAT_STATE = 2 ∧ s.aux.step < 7 ∧ s.aux.ov = 3 ∧ s.get AUXSUP_PROT_OVP * s.get AUXSUP_VREG_VSET < 100 * (fb % 4096)) ∧
    (let s : State := live.put AUXSUP_STAT_STATE 2; let input : Bool := true; s.Inv ∧ s.get AUXSUP_STAT_STATE = 2 ∧ input = true) ∧
    (let s : State := live.put AUXSUP_STAT_STATE 2; let input : Bool := false; s.Inv ∧ s.get AUXSUP_STAT_STATE = 2 ∧ input = false ∧
    s.aux.hiccups = []) ∧
    (let s : State := live.put AUXSUP_PROT_VINMIN 0; let value : Word := 1; s.Inv ∧ value = 1#32 ∧ s.get AUXSUP_STAT_STATE = 0 ∧
    s.get AUXSUP_PROT_VINMIN ≤ s.get (HADC_RES_CODE 6)) ∧
    (let s : State := live.put AUXSUP_STAT_STATE 2; let value : Word := 0; s.Inv ∧ value = 0#32 ∧ s.get AUXSUP_STAT_STATE = 2) ∧
    (let s : State := live.put AUXSUP_STAT_STATE 5; s.Inv ∧ s.get AUXSUP_STAT_STATE = 5) ∧
    (let s : State := live.put AUXSUP_STAT_STATE 1; s.Inv ∧ s.get AUXSUP_STAT_STATE = 1 ∧ s.aux.hiccups = []) ∧
    (let s : State := live.put AUXSUP_STAT_STATE 3; s.Inv ∧ s.get AUXSUP_STAT_STATE = 3) ∧
    (let s : State := live.put AUXSUP_STAT_STATE 4; let elapsed : Nat := 70000; s.Inv ∧ s.get AUXSUP_STAT_STATE = 4) ∧
    (let s : State := live.put HADC_SCANCFG_EN 0x20; let codes : List (Nat × Nat) := [(5, 77)]; let n : Nat := 5; let c : Nat := 77; s.Inv ∧
    codes = [(n, c)] ∧ 4 ≤ n ∧ n < 16 ∧ (s.get HADC_SCANCFG_EN).testBit n = true) ∧
    (let s : State := live; let cmp : Nat := 0; let tripped : Bool := true; s.Inv ∧ cmp < 8 ∧ tripped = true ∧ s.analog.run.testBit cmp = false ∧
    cmp < 2 ∧ s.flag (HCMP_CFG_EVT cmp) = false) ∧
    (let s : State := { live with analog.run := 8 }; let cmp : Nat := 3; let tripped : Bool := true; s.Inv ∧ cmp < 8 ∧ tripped = true ∧
    s.analog.run.testBit cmp = true ∧ 2 ≤ cmp ∧ cmp ≤ 5 ∧ s.louv.length = 4) ∧
    (let s : State := { live with analog.run := 8 }; let cmp : Nat := 3; let tripped : Bool := false; s.Inv ∧ cmp < 8 ∧ tripped = false) :=
  by refine ⟨?_, ?_, ?_, ?_, ?_, ?_, ?_, ?_, ?_, ?_, ?_, ?_, ?_, ?_, ?_⟩ <;> decide +kernel

theorem witness_quotes_and_certificates :
    (let s : State := live.put SHUTTLE_H_STAT_NOTREADY 0; s.Inv ∧ s.flag SECURITY_STAT_QBUSY = false ∧ (fuseState s.sec.fuses ≠ 1 ∧
    fuseState s.sec.fuses ≠ 6) ∧ reachable s 0x7D = true ∧ reachable s 0x40 = true) ∧
    (let s : State := live.put SECURITY_STAT_QBUSY 1; s.Inv ∧
    ((s.flag SECURITY_STAT_QBUSY = true ∨ fuseState s.sec.fuses = 1 ∨ fuseState s.sec.fuses = 6))) ∧
    (let s : State := { live.put SECURITY_STAT_QBUSY 1 with sec := { live.sec with qFail := true, nonce := List.replicate 12 7 } }; s.Inv ∧
    s.flag SECURITY_STAT_QBUSY = true ∧ s.sec.qFail = true ∧ s.sec.nonce.length = 12 ∧ (ownerHash s.sec.fuses).length = 12) ∧
    (let s : State := { live with sec := { live.sec with ownBuf := [(0, 0x01028230#32)], fuses := { live.sec.fuses with ownValid := true } } }; let value : Word := 0x0C5A#32; s.Inv ∧
    value = 0x0C5A#32 ∧ fuseState s.sec.fuses = 3 ∧ ownerSet s.sec.fuses = true ∧ derLength ((s.sec.ownBuf.lookup 0).getD 0) ≤ 768 ∧
    s.sec.certs.length = 4) ∧
    (let s : State := live; let value : Word := 5; s.Inv ∧ value ≠ 0x0C5A#32) :=
  by refine ⟨?_, ?_, ?_, ?_, ?_⟩ <;> decide +kernel

theorem witness_lifecycle_and_fuses :
    (let s : State := live.put HTHERM_STAT_FUSEOK 1; let value : Word := 0x104#32; let d : Nat := 4; s.Inv ∧ value = word (0x100 + d) ∧ d < 8 ∧
    s.raw 0x07020 = 0 ∧ s.flag LIFECYCLE_STAT_BUSY = false ∧ partialTarget s.sec.fuses = 0 ∧ fuseState s.sec.fuses < d ∧ d < 7 ∧
    s.flag HTHERM_STAT_FUSEOK = true ∧ s.flag LIFECYCLE_STAT_PAUSED = false ∧ (transitionTasks s.sec.fuses d).isEmpty = false) ∧
    (let s : State := live.put LIFECYCLE_STAT_BUSY 1; let value : Word := 0x104#32; s.Inv ∧ value.getLsbD 8 = true ∧ s.raw 0x07020 = 0 ∧
    s.flag LIFECYCLE_STAT_BUSY = true) ∧
    (let s : State := { (live.put LIFECYCLE_STAT_BUSY 1).put HTHERM_STAT_FUSEOK 1 with sec := { live.sec with tasks := [.copy 2 0, .copy 2 1], fuses := { live.sec.fuses with words := List.replicate 5 [false, false, false] } } }; let c : Nat := 0; let w : Nat := 2; let r : List FuseTask := [.copy 2 1]; s.Inv ∧
    s.sec.tasks = .copy w c :: r ∧ s.flag LIFECYCLE_STAT_PAUSED = false ∧ r.isEmpty = false ∧ s.flag HTHERM_STAT_FUSEOK = true ∧ (w < 5 ∧ c < 3) ∧
    s.sec.fuses.words = List.replicate 5 [false, false, false]) ∧
    (let s : State := { live.put LIFECYCLE_STAT_BUSY 1 with sec := { live.sec with tasks := [.pll 5], job := some 12 } }; let v : Word := 5; s.Inv ∧
    s.sec.tasks = [.pll v] ∧ s.flag LIFECYCLE_STAT_PAUSED = false ∧ s.sec.job = some 12) ∧
    (let s : State := live.put LIFECYCLE_STAT_PAUSED 1; s.Inv ∧ s.flag LIFECYCLE_STAT_PAUSED = true) ∧
    (let s : State := { live.put HTHERM_STAT_FUSEOK 1 with sec := { live.sec with svn := 9 } }; let value : Word := 0xB5C30001#32; s.Inv ∧
    value = 0xB5C30001#32 ∧ s.raw 0x07020 = 0 ∧ s.flag LIFECYCLE_STAT_BUSY = false ∧ s.sec.fuses.hfw < s.sec.svn ∧ s.sec.fuses.hfw < 64 ∧
    s.flag HTHERM_STAT_FUSEOK = true ∧ s.flag LIFECYCLE_STAT_PAUSED = false) ∧
    (let s : State := live; let value : Word := 1; s.Inv ∧ bitsAt value.toNat 16 16 ≠ 0xB5C3 ∧ s.raw 0x07020 = 0) :=
  by refine ⟨?_, ?_, ?_, ?_, ?_, ?_, ?_⟩ <;> decide +kernel

theorem witness_firmware_update :
    (let s : State := live; s.Inv ∧ s.raw 0x06020 = 0) ∧
    (let s : State := live; s.Inv ∧ s.raw 0x06020 = 0 ∧ s.flag LIFECYCLE_STAT_BUSY = false) ∧
    (let s : State := ((live.put SECURITY_STAT_STBY 2).put SHUTTLE_H_STAT_FSHUT 1); s.Inv ∧ s.raw 0x06020 = 0 ∧ mayActivate s = true ∧
    s.flag DEVICE_MODE_TWIN = false) ∧
    (let s : State := ((live.put SECURITY_STAT_STBY 2).put SHUTTLE_H_STAT_NOTREADY 0).put DEVICE_MODE_TWIN 1; s.Inv ∧ s.raw 0x06020 = 0 ∧
    mayActivate s = true ∧ s.flag DEVICE_MODE_TWIN = true ∧ reachable s (pageOf SHUTTLE_F_STAT_SHUT.addr) = true) ∧
    (let s : State := live; s.Inv ∧ s.raw 0x06020 = 0 ∧ mayActivate s = false) ∧
    (let s : State := { live with sec := { live.sec with fwCheck := some 0 } }; s.Inv ∧ s.sec.fwCheck = some 0) ∧
    (let s : State := { live with sec := { live.sec with fwCheck := some 1 } }; s.Inv ∧ s.sec.fwCheck = some 1) ∧
    (let s : State := { live with pwr.restarting := true, pwr.h := .boot }; s.Inv ∧ s.pwr.restarting = true) :=
  by refine ⟨?_, ?_, ?_, ?_, ?_, ?_, ?_, ?_⟩ <;> decide +kernel

theorem witness_wicket_port :
    (let s : State := live; let pins : Nat := 9; let preload : Nat := 8; s.Inv ∧ scopeOpen s 0 = false) ∧
    (let s : State := live.put WICKET_STAT_SCOPE 1; let pins : Nat := 9; let preload : Nat := 8; s.Inv ∧ scopeOpen s 0 = true) ∧
    (let s : State := { live.put SHUTTLE_H_STAT_FSHUT 1 with sec := { live.sec with challenge := some [1, 2, 3, 4, 5, 6, 7, 8] } }; let token : List Word := []; let ch : List Word := [1, 2, 3, 4, 5, 6, 7, 8]; s.Inv ∧
    s.flag WICKET_STAT_LOCKOUT = false ∧ s.flag WICKET_STAT_DISABLED = false ∧ s.flag SHUTTLE_H_STAT_FSHUT = true ∧ s.sec.challenge = some ch) ∧
    (let s : State := live.put WICKET_STAT_LOCKOUT 1; let token : List Word := []; s.Inv ∧ s.flag WICKET_STAT_LOCKOUT = true) ∧
    (let s : State := live.put WICKET_STAT_SCOPE 3; s.Inv ∧ s.raw 0x08020 = 0) ∧
    (let s : State := live; s.Inv ∧ s.raw 0x08020 = 0) :=
  by refine ⟨?_, ?_, ?_, ?_, ?_, ?_⟩ <;> decide +kernel

theorem witness_porter_sources_and_watch :
    (let s : State := { live.put PORTER_STAT_SRC 1 with porter.on := true }; let src : Nat := 3; let vsto : Nat := 4000; let elapsed : Nat := 7; s.Inv ∧
    s.porter.on = true ∧ ((src = 1 ∨ src = 2 ∨ src = 3)) ∧ s.get PORTER_STAT_SRC ≠ src ∧ vsto < 8192) ∧
    (let s : State := { live.put PORTER_STAT_SRC 1 with porter.on := true }; let elapsed : Nat := 3; s.Inv ∧ s.porter.on = true) ∧
    (let s : State := { live with porter.on := false }; let src : Nat := 2; let vsto : Nat := 3000; s.Inv ∧ s.porter.on = false ∧
    ((src = 1 ∨ src = 2 ∨ src = 3))) ∧
    (let s : State := live; let voc : Nat := 1000; let vsto : Nat := 2000; let elapsed : Nat := 16; s.Inv ∧ (330 ≤ voc ∧ voc ≤ 5000) ∧ (1800 ≤ vsto ∧
    vsto < 4100)) ∧
    (let s : State := live; let voc : Nat := 100; let vsto : Nat := 2000; let elapsed : Nat := 16; s.Inv ∧ ((voc < 330 ∨ 4100 ≤ vsto))) ∧
    (let s : State := { live with porter.on := true }; let mv : Nat := 1200; let elapsed : Nat := 64; s.Inv ∧ s.porter.on = true ∧ mv < 1500 ∧
    s.get PORTER_STAT_BAT ≠ 2) ∧
    (let s : State := { live.put PORTER_STAT_BAT 0 with porter.on := true }; let mv : Nat := 3000; let elapsed : Nat := 64; s.Inv ∧
    s.porter.on = true ∧ 2300 ≤ mv ∧ mv < 4096 ∧ s.get PORTER_STAT_BAT = 0) ∧
    (let s : State := { live with porter.on := true }; let elapsed : Nat := 64; s.Inv ∧ s.porter.on = true ∧ s.getI PORTER_RTCTRIM_TRIM = 0 ∧
    s.porter.trim = 0 ∧ (0 ≤ s.porter.ticks ∧ s.porter.ticks < 32768)) ∧
    (let s : State := { live.put PORTER_RTCTRIM_TRIM 100 with porter.on := true }; let elapsed : Nat := 64; s.Inv ∧ s.porter.on = true ∧
    0 ≤ s.porter.ticks) ∧
    (let s : State := { ((live.put PORTER_STAT_SRC 3).put PORTER_CTL_DWEN 1).put PORTER_CTL_DWMASK 15 with porter := { live.porter with on := true, doors := some 15, doorsSeen := 7, doorsMask := 15 } }; let levels : Nat := 7; let elapsed : Nat := 1; let d : Nat := 15; s.Inv ∧
    s.porter.on = true ∧ s.get PORTER_STAT_SRC ≠ 1 ∧ s.flag PORTER_CTL_DWEN = true ∧ s.porter.doors = some d ∧
    s.porter.doorsMask = s.get PORTER_CTL_DWMASK ∧ levels &&& s.get PORTER_CTL_DWMASK ≠ d &&& s.get PORTER_CTL_DWMASK ∧
    s.porter.doorsSeen = levels &&& s.get PORTER_CTL_DWMASK) ∧
    (let s : State := { ((live.put PORTER_STAT_SRC 3).put PORTER_CTL_DWEN 1).put PORTER_CTL_DWMASK 15 with porter := { live.porter with on := true, doors := some 15, doorsSeen := 15, doorsMask := 15 } }; let levels : Nat := 7; let elapsed : Nat := 1; let d : Nat := 15; s.Inv ∧
    s.porter.on = true ∧ s.get PORTER_STAT_SRC ≠ 1 ∧ s.flag PORTER_CTL_DWEN = true ∧ s.porter.doors = some d ∧
    s.porter.doorsMask = s.get PORTER_CTL_DWMASK ∧ s.porter.doorsSeen = d ∧ d &&& s.get PORTER_CTL_DWMASK = d) :=
  by refine ⟨?_, ?_, ?_, ?_, ?_, ?_, ?_, ?_, ?_, ?_, ?_⟩ <;> decide +kernel

/-! ### Commands outside their ranges, one for each check -/

theorem test_ill_formed_1 : ([.lanePllLoss 8,
    .timeMark true 0 0 9 3 4 0 65537 7325 6,
    .timeMark true 2 0 9 3 4 0 65537 5 6,
    .timeMark true 0 65536 9 3 4 0 65537 5 6,
    .timeMark true 0 0 9 1099511627776 4 0 65537 5 6,
    .timeMark true 0 0 9 3 4294967296 0 65537 5 6,
    .timeMark true 0 0 9 3 4 4 65537 5 6,
    .timeMark true 0 0 9 3 4 0 65536 5 6,
    .corruptFrame true 2 10 [1, 2],
    .corruptFrame true 1 10 (List.replicate 33 0),
    .channelSilent true 2,
    .channelRetrain true 2,
    .readResponseTimeout 256,
    .linkUp 4 3,
    .linkUp 1 4,
    .pcieReadTlp 256 (.bar0 0 1) 0,
    .bar2Write 65536 [1, 2, 3],
    .bar2Write 65520 (List.replicate 257 0),
    .spiRead 16777216 4 0,
    .spiRead 0x40044 5 0,
    .spiWrite 16777216 [0] 0,
    .spiWrite 0x51050 (List.replicate 5 0) 0,
    .spiWrite 0x51050 [0] 65536,
    .spiQread 16777216 1 0,
    .spiQread 0x40044 5 0,
    .spiQwrite 16777216 [0] 0,
    .spiQwrite 0x51050 (List.replicate 5 0) 0,
    .spiQwrite 0x51050 [0] 65536,
    .spiInvalidCommand 256,
    .hostAccessExecute 7325,
    .registerWrite 3 0x404C 0xFFFFFFFF,
    .registerWrite 2 16777216 0xFFFFFFFF] : List Instr).all (fun c => !c.wf) = true := by decide +kernel

theorem test_ill_formed_2 : ([.registerWrite 2 1 0xFFFFFFFF,
    .pgevtWrite 4096 0x7FFF,
    .pgevtset 4096 0x4001,
    .pgevtclr 4096 1,
    .errclr 4096,
    .pglock 4096 0xFFFF,
    .claim 4,
    .complete 4 0,
    .pendset 8 0xFFFFFFFF,
    .pendclr 8 0xFF,
    .maskset 8 0xFFFFFFFE,
    .maskclr 8 0xFF,
    .outcfgWrite 4 1,
    .srccfgWrite 256 0x3F0073,
    .nowLoRead 4 4,
    .nowLoRead 1 7325,
    .secLoRead 4 77,
    .atlSloRead 4,
    .sampleTrigger 0 7325,
    .adcConversionDone 8 200 100,
    .adcConversionDone 0 7325 100,
    .heddleEnd 4,
    .bgDeadline 4 3,
    .recordCommit 4 50 false,
    .recordCommit 0 7325 false,
    .commandBurst 6,
    .rxdone 4 true,
    .inputRestored 192,
    .bypassConfirmTimeout 192,
    .nodeLostTimeout 192,
    .service 192 (1#32),
    .weaveVerify 2] : List Instr).all (fun c => !c.wf) = true := by decide +kernel

theorem test_ill_formed_3 : ([.imageVerified 2 open1,
    .switchGo 0 7325,
    .weaveErase 2,
    .operationComplete 12 4,
    .stepctl 12 3,
    .steppc 12 0x2005,
    .stepRunEnd 12,
    .engineIsolate 12,
    .repairStart 4,
    .repairVerified 4 [],
    .repairRejoin 4,
    .hold 12,
    .release 12,
    .repair 12,
    .halfretry 4 true,
    .reedHalfTrip 4 1,
    .reedHalfTrip 2 2,
    .halfSelftestDone 4 1 false,
    .halfSelftestDone 1 2 false,
    .halfRejoin 4 1,
    .halfRejoin 1 2,
    .auditBlock 4 7,
    .auditBlock 2 1152,
    .collectBurstReturn 6 ⟨7, true, 5, 0, 0, []⟩,
    .cellOwnerMove 192,
    .directionFail 6,
    .receiverLockLoss 8,
    .directionReturning 6,
    .defaultOwnershipReturn 6,
    .cellDefaultReturn 192,
    .enum 8,
    .laneTrained 8 true 9] : List Instr).all (fun c => !c.wf) = true := by decide +kernel

theorem test_ill_formed_4 : ([.discoverReturn 6 ⟨[⟨9, 1, 2, 3, 4⟩], 50, 20, 3, 0⟩ 9,
    .nodeKeyed 6 1 0 9 (List.replicate 32 7) [⟨0, 1, 2, 3, [4]⟩],
    .nodeKeyed 2 65 0 9 (List.replicate 32 7) [⟨0, 1, 2, 3, [4]⟩],
    .nodeKeyed 2 1 3 9 (List.replicate 32 7) [⟨0, 1, 2, 3, [4]⟩],
    .nodeConfigured 6 1 true 9 [],
    .nodeConfigured 2 65 true 9 [],
    .twinLaneLock 8,
    .loadPoint 3,
    .blankWindowOpen 8,
    .blankWindowClose 8,
    .curtailRelease 192,
    .rangeUp 16,
    .fcmpTrip 16 [524287, 524287, -9, 524287],
    .latchRearm 16 [-9],
    .selfCheck 16 0 [],
    .selfCheck 3 8 [],
    .meterELoRead 4 5,
    .meterELoRead 1 8,
    .s0Pulse 4 50 50,
    .s0Maxon 4,
    .sensorExclude 15,
    .sensorReadmit 15,
    .ntcReading 4 (99 / 100),
    .ntcReading 1 (-1),
    .scrubPass (List.replicate 4097 (0, 0, 0, false)),
    .touchScan (List.replicate 13 0),
    .stuckKey 12,
    .buttonSample 16 true,
    .ledOpen 16,
    .svcOpen 256 1 [] true,
    .svcOpen 9 4 [] true,
    .svcOpen 9 1 (List.replicate 57 0) true] : List Instr).all (fun c => !c.wf) = true := by decide +kernel

theorem test_ill_formed_5 : ([.svcRead 256 0x40044 1 true,
    .svcRead 9 16777216 1 true,
    .svcWrite 256 0x51050 1 [0],
    .svcWrite 9 16777216 1 [0],
    .svcWrite 9 0x51050 1 (List.replicate 257 0),
    .svcClose 256,
    .svcPing 256,
    .safetySample 1024,
    .testPulse false true 1024,
    .safetySelftestDone 16,
    .sealRead 65536 0xF0 0xF0,
    .sealRead 0xF0 65536 0xF0,
    .sealRead 0xF0 0xF0 65536,
    .sealRetry 65536 2 2,
    .sealRetry 1 65536 2,
    .sealRetry 1 2 65536,
    .pwmPeriod 4 5 6 false,
    .pwmPeriod 1 4096 6 false,
    .zeroCrossing 4 1000 false true,
    .hallChange 4 3 1000,
    .hallChange 1 8 1000,
    .hallInvalid 4,
    .commutation 4 1000,
    .catchEnd 4,
    .alignEnd 4,
    .rampTimeout 4,
    .stall 4,
    .stallRetry 4,
    .coastEnd 4 true,
    .halfBridgeFault 4 1 3 true,
    .halfBridgeFault 2 3 3 true,
    .louvreCtl 4 (0x03E80001#32) false] : List Instr).all (fun c => !c.wf) = true := by decide +kernel

theorem test_ill_formed_6 : ([.speedLoop 4,
    .curveReading 4,
    .hcmpTrip 8 true,
    .response (List.replicate 65 0),
    .porterSourceChange 4 4000 7,
    .porterRestart 4 3000,
    .doorWatch 16 1,
    .zc12Update 192 5 [List.replicate 32 7, []] [],
    .sensorConversion 15 200 false,
    .lanePllLock 8,
    .usbStandardRequest 256 1,
    .readReq 2 0 0 0 0 0,
    .readReq 0 65536 0 0 0 0,
    .readReq 0 0 16777216 0 0 0,
    .readReq 0 0 0 256 0 0,
    .readReq 0 0 0 0 256 0,
    .readReq 0 0 0 0 0 4,
    .readRsp 2 0 0 0 0 [],
    .readRsp 0 0 0 0 4 [],
    .readRsp 0 0 0 0 0 [0, 0, 0, 0, 0],
    .postedWr 2 0 0 [0],
    .postedWr 0 0 0 [],
    .stagedWr 0 65536 0 [0],
    .stagedWr 0 0 16777216 [0],
    .event 2 0 ⟨0, 1, 0, 0, 0⟩,
    .event 0 0 ⟨0, 0, 0, 0, 0⟩,
    .event 0 0 ⟨0, 1, 2, 0, 0⟩,
    .event 0 0 ⟨0, 1, 0, 65536, 0⟩,
    .bulk 0 0 8 0 16 0 (List.replicate 16 0),
    .bulk 0 0 0 3 16 0 (List.replicate 16 0),
    .bulk 0 0 0 0 0 0 [],
    .bulk 0 0 0 0 16 0 (List.replicate 15 0)] : List Instr).all (fun c => !c.wf) = true := by decide +kernel

theorem test_ill_formed_7 : ([.selvFrag 0 0 0 512 0 1 [0],
    .selvFrag 0 0 0 0 2 1 [0],
    .selvFrag 0 0 0 0 0 17 (List.replicate 17 0),
    .keepalive true 2 0 0 0,
    .keepalive true 0 65536 0 0,
    .keepalive true 0 0 0 32,
    .pcieWriteTlp (.bar0 0 [(0, 16)]),
    .spiInvalidCommand 0x10,
    .hadcScan [(16, 0)],
    .hadcScan [(0, 4096)],
    .discoverReturn 0 ⟨List.replicate 65 ⟨0, 0, 0, 0, 0⟩, 0, 0, 0, 0⟩ 0,
    .add 12 (word1 0 0 0 0 0) ⟨true, [], [], none⟩,
    .add 0 ⟨8, false, 0, 0, 0, 0, 0⟩ ⟨true, [], [], none⟩,
    .add 0 ⟨0, false, 8, 0, 0, 0, 0⟩ ⟨true, [], [], none⟩,
    .add 0 ⟨0, false, 0, 64, 0, 0, 0⟩ ⟨true, [], [], none⟩,
    .add 0 ⟨0, false, 0, 0, 64, 0, 0⟩ ⟨true, [], [], none⟩,
    .add 0 ⟨0, false, 0, 0, 0, 64, 0⟩ ⟨true, [], [], none⟩,
    .add 0 ⟨0, false, 0, 0, 0, 0, 16⟩ ⟨true, [], [], none⟩,
    .add 0 (word1 0 0 0 0 0) ⟨true, [3], [], none⟩,
    .add 0 (word1 0 0 0 0 0) ⟨true, [0, 0, 0, 0, 0], [], none⟩,
    .add 0 (word1 0 0 0 0 0) ⟨true, [], [3], none⟩,
    .wardenIrqTake [(0x1000000, 0)],
    .wardenIrqTake [(2, 0)],
    .pickBoundary (List.replicate 17 []),
    .collectBurstReturn 0 ⟨0, true, 2 ^ 64, 0, 0, []⟩,
    .collectBurstReturn 0 ⟨0, true, 0, 0, 0, List.replicate 65 .none⟩,
    .collectBurstReturn 0 ⟨0, true, 0, 0, 0, [.raw 0 [0]]⟩,
    .collectBurstReturn 0 ⟨0, true, 0, 0, 0, [.block 7325 []]⟩,
    .collectBurstReturn 0 ⟨0, true, 0, 0, 0, [.block 0 (List.replicate 65 0)]⟩,
    .nodeKeyed 0 1 0 0 [1] [],
    .nodeKeyed 0 1 0 0 (List.replicate 32 0) [⟨0, 65, 0, 0, List.replicate 44 0⟩],
    .nodeConfigured 0 1 true 0 [⟨0, 0, 256, 0, List.replicate 44 0⟩]] : List Instr).all (fun c => !c.wf) = true := by decide +kernel

theorem test_ill_formed_8 : ([.nodeConfigured 0 1 true 0 [⟨0, 0, 0, 65536, List.replicate 44 0⟩],
    .nodeConfigured 0 1 true 0 [⟨0, 0, 0, 0, []⟩],
    .nodeConfigured 0 1 true 0 [⟨0, 0, 0, 0, List.replicate 44 0⟩, ⟨4095, 0, 0, 0, List.replicate 44 0⟩],
    .zc12Update 0 0 [] [],
    .zc12Update 0 0 [[], []] [],
    .pcieReadTlp 256 .config 0,
    .pcieReadTlp 0 (.bar0 2 1) 0,
    .pcieReadTlp 0 (.bar0 0 1025) 0,
    .pcieReadTlp 0 (.bar2 0) 0,
    .pcieWriteTlp (.bar0 0 []),
    .pcieWriteTlp (.bar0 2 [(0, 0)])] : List Instr).all (fun c => !c.wf) = true := by decide +kernel

theorem test_well_formed : ([.readReq 1 65535 16777212 255 4 3, .hadcScan [(15, 4095)], .add 11 (word1 7 63 63 63 15) ⟨true, [2, 0, 0, 2], [2], none⟩,
    .spiInvalidCommand 0x44, .scrubPass [], .doorWatch 15 0] : List Instr).all (·.wf) = true := by decide +kernel

/-! ### Steps and tables -/

/-- The queue is first in, first out. -/
theorem test_step_takes_the_front :
    (match step { live with pending := [.wstatus, .bypass] } with
      | .next t => t.pending == [.bypass] && t.sec.ir == 0x12
      | _ => false) = true := by decide +kernel

/-- `LI`-like wrap of an addition (R203): 0x7FFF_FFFF + 1. -/
theorem test_addi_wraps :
    (match exec (.addi 0 (word1 0 7 4 0 1) ⟨true, [], [], none⟩) (loomOn .addi (word1 0 7 4 0 1)) with
      | .next t => (engAt t 0).g.getD 7 0 == 0x80000000#32
      | _ => false) = true := by decide +kernel

/-- Table 6-3: OP 0x01, PN 0, PR 0, D 7, A 1, B 2, F 3 in slot 0, and in the BR slot the END marker beside JEND (Table 6-6). -/
theorem test_slot_words :
    decodeWord 0 0b00000100000001110000010000100011#32 = [(.add, ⟨0, false, 0, 7, 1, 2, 3⟩)] ∧
      decodeWord 6 0b10101110010000000000000000000000#32 = [(.endm, endWord), (.jend, ⟨6, true, 1, 0, 0, 0, 0⟩)] := by decide +kernel

/-- Tables 2-2 to 2-4: bytes 0–10 of a READ_REQ of the H-die with SEQ 0x0102. -/
theorem test_frame_bytes :
    (frameBytes true ⟨0x0102, .readReq 0x40040 7 2 1⟩).take 12 = [0x01#8, 0x02, 0x02, 0x01, 0x40, 0x00, 0x04, 0x00, 7, 2, 1, 0] := by decide +kernel

/-- FIPS 180-4's example: SHA-384 of the bytes 'abc' begins CB 00 75 3F. -/
theorem test_sha384 : (sha384 [0x61#8, 0x62, 0x63]).take 4 = [0xCB#8, 0x00, 0x75, 0x3F] := by decide +kernel

/-- FIPS 197, C.3: AES-256 of 00112233…EEFF under the key 00…1F begins 8E A2 B7 CA. -/
theorem test_aes256 :
    (aesBlock (aesKeys ((List.range 32).map (BitVec.ofNat 8))) ((List.range 16).map fun i => BitVec.ofNat 8 (17 * i))).take 4 =
      [0x8E#8, 0xA2, 0xB7, 0xCA] := by decide +kernel

/-- Table 16-1: Hall codes 1, 3, 2, 6, 4 and 5 are sectors 0 to 5; 0 and 7 are invalid. -/
theorem test_hall_sectors : [1, 3, 2, 6, 4, 5, 0, 7].map hallSector = [some 0, some 1, some 2, some 3, some 4, some 5, none, none] := by decide +kernel

/-- R423: the band rises at 20, 60 and 95 °C and falls 3 °C below. -/
theorem test_bands : [bandOf 0 159, bandOf 0 160, bandOf 1 137, bandOf 1 136, bandOf 1 760, bandOf 3 737] = [0, 1, 1, 0, 3, 3] := by decide +kernel

/-- R512: ABSENT below 1.5 V, LOW below 2.3 V, OK from there. -/
theorem test_battery :
    ([1499, 1500, 2299, 2300].map fun mv => match exec (.batteryMeasure mv 0) { live with porter.on := true } with
      | .next t => t.get PORTER_STAT_BAT
      | _ => 9) = [2, 1, 1, 0] := by decide +kernel

/-- R97: among equal priorities the lowest source number wins. -/
theorem test_winner :
    winner (((((((live.put (maskBit 10) 0).put (maskBit 6) 0).put (pendBit 10) 1).put (pendBit 6) 1).put (INTC_0_SRCCFG_PRIO 10) 2).put (INTC_0_SRCCFG_PRIO 6) 2)) 0 = 6 := by decide +kernel

end Sys2Proof.Tests
end

section
/-! SUPPORT. What a read and a write do at an address of a page that Table 3-5 does not assign (R11): nothing. -/

namespace Sys2Proof.Machine

/-- The page is outside every block of Table 3-5, the PARAM window and the SELVEDGE window. -/
theorem assigned_eq_false_iff {p : Nat} :
    assigned p = false ↔ hasHeader p = false ∧ (p < 0x80 ∨ 0xC0 ≤ p) ∧ p ≠ 0xC ∧ p ≠ 0xD := by
  simp only [assigned, Bool.or_eq_false_iff, Bool.and_eq_false_iff, beq_eq_false_iff_ne, decide_eq_false_iff_not, not_le, not_lt]
  tauto

section
variable {a : Nat} (ha : assigned (pageOf a) = false)
include ha

/-! ### Where such an address does not lie -/

theorem pageOf_ne_of_unassigned {p : Nat} (hp : assigned p = true) : pageOf a ≠ p := by
  rintro rfl
  simp [ha] at hp

theorem ne_of_unassigned {b : Nat} (hb : assigned (pageOf b) = true) : a ≠ b := by
  rintro rfl
  simp [ha] at hb

/-- It lies in no range of registers within one assigned page. -/
theorem not_between_of_unassigned {lo hi : Nat} (hlo : assigned (pageOf lo) = true) (hpage : pageOf hi = pageOf lo) :
    ¬ (lo ≤ a ∧ a ≤ hi) := by
  rintro ⟨h1, h2⟩
  refine pageOf_ne_of_unassigned ha hlo (le_antisymm ?_ (Nat.div_le_div_right h1))
  exact hpage ▸ Nat.div_le_div_right h2

/-! ### Reads -/

theorem viewWord_of_unassigned (agent : Nat) (s : State) : viewWord agent a s = 0 := by
  obtain ⟨hheader, hparam, hC, hD⟩ := assigned_eq_false_iff.1 ha
  have hparam : ¬ (0x80 ≤ pageOf a ∧ pageOf a < 0xC0) := by omega
  unfold viewWord
  simp [hparam, hC, hD, hheader]

/-- Every read with an effect of its own is at an assigned page, so this one shows the plain view and leaves the state alone. -/
theorem readWord_of_unassigned (agent lc dt : Nat) (s : State) : readWord agent lc dt a s = (0, s) := by
  have hclaim : pageOf a ≠ 1 := pageOf_ne_of_unassigned ha (by decide)
  have hnow : a ≠ WARP_NOW_LO_STAMP.addr := ne_of_unassigned ha (by decide)
  have hatlas : a ≠ WARP_ATL_SLO_STAMP.addr := ne_of_unassigned ha (by decide)
  have hsec : a ≠ TIME_SEC_LO_SEC.addr := ne_of_unassigned ha (by decide)
  have hswarp : a ≠ TIME_SWARP_SWARP.addr := ne_of_unassigned ha (by decide)
  have hdelay : a ≠ SHUTTLE_H_TMDLY_DELAY.addr := ne_of_unassigned ha (by decide)
  have henergy := not_between_of_unassigned ha (lo := (METER_E_E 0).addr) (hi := (METER_E_E 16).addr) (by decide) (by decide)
  have hpulses := not_between_of_unassigned ha (lo := (S0_CNTLO_COUNT 0).addr) (hi := (S0_CNTLO_COUNT 3).addr) (by decide) (by decide)
  unfold readWord
  simp only [Bool.and_eq_true, decide_eq_true_eq]
  rw [if_neg fun ⟨⟨⟨hpage, _⟩, _⟩, _⟩ => hclaim hpage, if_neg hnow, if_neg hatlas, if_neg hsec, if_neg hswarp, if_neg hdelay,
    if_neg fun ⟨⟨hlo, hhi⟩, _⟩ => henergy ⟨hlo, hhi.le⟩, if_neg fun ⟨hrange, _⟩ => hpulses hrange,
    viewWord_of_unassigned ha]

/-! ### Writes -/

theorem hWrite_of_unassigned (agent : Nat) (w : Word) (s : State) : hWrite agent a w s = s := by
  obtain ⟨hheader, -, -, -⟩ := assigned_eq_false_iff.1 ha
  unfold hWrite
  simp [hheader]

theorem fWrite_of_unassigned (lc : Nat) (w : Word) (s : State) : fWrite lc a w s = s := by
  obtain ⟨hheader, hparam, -, -⟩ := assigned_eq_false_iff.1 ha
  have hparam : ¬ (0x80 ≤ pageOf a ∧ pageOf a < 0xC0) := by omega
  unfold fWrite
  simp [hparam, hheader]

theorem applyStaged_of_unassigned (w : Word) (s : State) : applyStaged a w s = s := by
  obtain ⟨hheader, -, -, -⟩ := assigned_eq_false_iff.1 ha
  unfold applyStaged
  simp [hheader, fWrite_of_unassigned ha]

theorem writeAt_of_unassigned (agent : Nat) (w : Word) (s : State) : writeAt agent a w s = s := by
  unfold writeAt
  split
  · exact hWrite_of_unassigned ha agent w s
  · split
    · exact applyStaged_of_unassigned ha w s
    · exact fWrite_of_unassigned ha 1 w s

theorem exec_registerWrite_of_unassigned (agent : Nat) (w : Word) (s : State) :
    exec (.registerWrite agent a w) s = .next s.silent :=
  congrArg Host.Outcome.next (writeAt_of_unassigned ha agent w s.silent)

end

/-- Settles O5: a reserved page is one that the model's `assigned` leaves out, and there both accesses do nothing. -/
theorem reservedPages : Obligations.ReservedPages := by
  intro agent lc dt a w s hheader hparam hC hD
  have ha : assigned (pageOf a) = false := assigned_eq_false_iff.2 ⟨hheader, hparam, hC, hD⟩
  exact ⟨readWord_of_unassigned ha agent lc dt s, exec_registerWrite_of_unassigned ha agent w s⟩

end Sys2Proof.Machine
end

section
/-! SUPPORT. What an event of the F-die leaves alone, what a capture on an F-die page records (R49, R56, R88), and what the arming of the yield,
its use and its disarming write do to `SHUTTLE_F.STAT` (R66, R72, R461). -/

namespace Sys2Proof.Machine

/-! ### Parts that the registers do not depend on, and their canonical form -/

theorem wf_put {s : State} (h : Regs.wf s.regs) (f : Fld) (v : Nat) : Regs.wf (s.put f v).regs := regs_setCell h _ _

theorem get_pwr_permit (s : State) (p : Pwr) (q : Permit) (f : Fld) : { s with pwr := p, permit := q }.get f = s.get f := rfl

/-! ### An event of the F-die on its way (R49, R56) -/

/-- `t` is `s` but for the link's queues and the registers that count what the link holds back: `SHUTTLE_F.PGEVT` and `SHUTTLE_F.BACKLOG`. -/
structure Sent (s t : State) : Prop where
  raw : ∀ a, a ≠ 0x51010 → a ≠ 0x5105C → t.raw a = s.raw a
  rest : t = { s with regs := t.regs, link := t.link }

theorem Sent.trans {s t u : State} (h : Sent s t) (k : Sent t u) : Sent s u :=
  ⟨fun a hevt hbacklog => (k.raw a hevt hbacklog).trans (h.raw a hevt hbacklog), by rw [k.rest, h.rest]⟩

theorem sent_link (s : State) (l : Link) : Sent s { s with link := l } := ⟨fun _ _ _ => rfl, rfl⟩

theorem sent_put (s : State) {f : Fld} (hf : f.addr = 0x51010 ∨ f.addr = 0x5105C) (v : Nat) : Sent s (s.put f v) :=
  ⟨fun a hevt hbacklog => raw_put_ne s (by rcases hf with hf | hf <;> rwa [hf]) v, rfl⟩

theorem Sent.get {s t : State} (h : Sent s t) {f : Fld} (hevt : f.addr ≠ 0x51010) (hbacklog : f.addr ≠ 0x5105C) : t.get f = s.get f := by
  unfold State.get
  rw [h.raw _ hevt hbacklog]

theorem sent_discard (e : Event) (s : State) : Sent s (discard e s) := by
  unfold discard
  extract_lets lose s1
  have hlose (e : Event) (t : State) : Sent t (lose e t) := (sent_link t _).trans (sent_put _ (.inr rfl) _)
  have h1 : Sent s s1 := (hlose e s).trans (sent_put _ (.inl rfl) _)
  split
  · exact (h1.trans (sent_link s1 _)).trans (hlose _ _)
  · exact h1

/-- An event is held behind a selvedge capture, queued, put into the backlog or discarded. -/
theorem sent_fSend (e : Event) (s : State) : Sent s (fSend e s) := by
  unfold fSend
  split
  · exact sent_link s _
  · split
    · exact sent_link s _
    · split
      · exact (sent_link s _).trans (sent_put _ (.inr rfl) _)
      · exact sent_discard e s

/-! ### A capture on an F-die page (R88) -/

/-- `PGERR` of the page of `a` after an access that is captured with a cause. -/
def recordPgerr (a cause : Nat) (s : State) : State :=
  (((s.put (pgerrOffset (pageOf a)) (offOf a)).put (pgerrCause (pageOf a)) cause).count (pgerrCount (pageOf a))).put (pgerrValid (pageOf a)) 1

theorem sent_capture {a : Nat} (ha : isF (pageOf a) = true) (cause : Nat) (s : State) : Sent (recordPgerr a cause s) (capture a cause s) := by
  have hcapture : capture a cause s = raiseF 6 (cause * 2 ^ 12 + offOf a / 4) (pageOf a) (recordPgerr a cause s) := if_pos ha
  rw [hcapture]
  exact sent_fSend _ _

theorem raw_recordPgerr_ne {a b : Nat} (hb : b ≠ pageOf a * 0x1000 + 0x024) (cause : Nat) (s : State) :
    (recordPgerr a cause s).raw b = s.raw b := by
  unfold recordPgerr State.count State.addSat
  rw [raw_put_ne _ hb, raw_put_ne _ hb, raw_put_ne _ hb, raw_put_ne _ hb]

section
variable {s : State} (hregs : Regs.wf s.regs)
include hregs

theorem get_pgerrCause_recordPgerr (a : Nat) {cause : Nat} (hc : cause < 16) :
    (recordPgerr a cause s).get (pgerrCause (pageOf a)) = cause := by
  have h1 := wf_put hregs (pgerrOffset (pageOf a)) (offOf a)
  have h2 := wf_put h1 (pgerrCause (pageOf a)) cause
  unfold recordPgerr State.count State.addSat
  rw [get_put_disjoint (wf_put h2 _ _) (by simp) (by simp), get_put_disjoint h2 (by simp) (by simp), get_put_self h1 (by simp)]
  exact Nat.mod_eq_of_lt hc

theorem get_pgerrOffset_recordPgerr (a cause : Nat) : (recordPgerr a cause s).get (pgerrOffset (pageOf a)) = offOf a := by
  have h1 := wf_put hregs (pgerrOffset (pageOf a)) (offOf a)
  have h2 := wf_put h1 (pgerrCause (pageOf a)) cause
  unfold recordPgerr State.count State.addSat
  rw [get_put_disjoint (wf_put h2 _ _) (by simp) (by simp), get_put_disjoint h2 (by simp) (by simp),
    get_put_disjoint h1 (by simp) (by simp), get_put_self hregs (by simp)]
  exact Nat.mod_eq_of_lt (Nat.mod_lt _ (by decide))

end

/-- A capture on an F-die page changes the link and no other part of the state. -/
theorem same_capture {a : Nat} (ha : isF (pageOf a) = true) (cause : Nat) (s : State) {x : Part} (hx : x ≠ .link) :
    x.same s (capture a cause s) := by
  rw [(sent_capture ha cause s).rest]
  cases x with
  | link => exact absurd rfl hx
  | _ => rfl

/-! ### Block tokens (R255) -/

/-- Block tokens change no register but the lanes' token counts. -/
theorem raw_rawTokens {b : Nat} (hb : ∀ l, b ≠ (RING_TOKCNT_COUNT l).addr) (s : State) : (rawTokens s).raw b = s.raw b := by
  unfold rawTokens
  refine List.foldlRecOn (motive := fun t : State => t.raw b = s.raw b) _ _ rfl fun t ht l _ => ?_
  exact (raw_put_ne (emit _ t) (hb l) _).trans ht

theorem get_rawTokens {f : Fld} (hf : ∀ l, f.addr ≠ (RING_TOKCNT_COUNT l).addr) (s : State) : (rawTokens s).get f = s.get f := by
  unfold State.get
  rw [raw_rawTokens hf]

/-! ### The yield (R66, R72) -/

theorem yieldWrite_arm_of_single {s : State} (h : s.weave.mode.testBit 0 = false) :
    yieldWrite true s = capture SHUTTLE_F_SHUTCTL_YIELD.addr 3 s := by
  simp [yieldWrite, h]

/-- The permit is lost with the yield armed and the partner in service: the unit yields (R66). -/
theorem permitTimeout_of_canYield {s : State} (ht : s.permit.timing = true) (hs : s.flag SHUTTLE_F_STAT_SHUT = false)
    (hy : canYield s = true) :
    permitTimeout s = yieldCells (({ s with permit.timing := false }.put SHUTTLE_F_STAT_PVALID 0).put SHUTTLE_F_STAT_PSTABLE 0) := by
  simp [permitTimeout, ht, hs, hy]

/-- The word 0 reports a safety demand (R461): the yield is disarmed, and a yielded unit sends block tokens and asserts GRID_OPEN. -/
theorem shutctlWrite_zero (s : State) :
    shutctlWrite 0 s = if s.permit.yielded then
      { rawTokens (s.put SHUTTLE_F_STAT_YIELD 0) with
        pwr.gridOpen := some true, permit := { s.permit with forced := true } }
    else s.put SHUTTLE_F_STAT_YIELD 0 := by
  simp [shutctlWrite, yieldWrite, State.putB, bit]

section
variable {s : State} (hregs : Regs.wf s.regs)
include hregs

/-- Yielding uses the yield up: it is disarmed. -/
theorem get_yield_yieldCells : (yieldCells s).get SHUTTLE_F_STAT_YIELD = 0 := by
  unfold yieldCells
  extract_lets _ _ s1
  have h1 : Regs.wf s1.regs := hregs
  have h2 := wf_put h1 SHUTTLE_F_STAT_YIELDED 1
  rw [get_put_ne _ (by simp), get_put_disjoint (wf_put h2 _ _) (by simp) (by simp), get_put_self h2 (by simp)]
  exact Nat.zero_mod _

theorem get_yielded_yieldCells : (yieldCells s).get SHUTTLE_F_STAT_YIELDED = 1 := by
  unfold yieldCells
  extract_lets _ _ s1
  have h1 : Regs.wf s1.regs := hregs
  have h2 := wf_put h1 SHUTTLE_F_STAT_YIELDED 1
  rw [get_put_ne _ (by simp), get_put_disjoint (wf_put h2 _ _) (by simp) (by simp), get_put_disjoint h2 (by simp) (by simp),
    get_put_self h1 (by simp)]
  rfl

/-- The word 0, which a safety demand sends (R461), disarms the yield; on a yielded unit the tokens it sends besides leave `STAT` alone. -/
theorem get_yield_shutctlWrite_zero : (shutctlWrite 0 s).get SHUTTLE_F_STAT_YIELD = 0 := by
  have hdisarmed : (s.put SHUTTLE_F_STAT_YIELD 0).get SHUTTLE_F_STAT_YIELD = 0 :=
    (get_put_self hregs (by simp) 0).trans (Nat.zero_mod _)
  have htokens : (rawTokens (s.put SHUTTLE_F_STAT_YIELD 0)).get SHUTTLE_F_STAT_YIELD = 0 := by
    rw [get_rawTokens (fun l => by simp; omega), hdisarmed]
  rw [shutctlWrite_zero]
  split
  · exact (get_pwr_permit _ _ _ _).trans htokens
  · exact hdisarmed

end

/-- A write at `SHUTTLE_F.SHUTCTL`, which is not staged, is `shutctlWrite`. -/
theorem writeAt_shutctl (agent : Nat) (w : Word) (s : State) : writeAt agent SHUTTLE_F_SHUTCTL_YIELD.addr w s = shutctlWrite w s := by
  have hunstaged : isStaged SHUTTLE_F_SHUTCTL_YIELD.addr = false := by decide
  have hheader : hasHeader 0x51 = true := by decide
  simp [writeAt, hunstaged, fWrite, hheader, isF, pageOf, offOf]

/-- Settles O9: the ignored arming is a capture, which touches neither `STAT` nor another page; expiry, use and the write of 0 each store 0. -/
theorem yieldInSingleUnitMode : Obligations.YieldInSingleUnitMode := by
  intro s ⟨hregs, _⟩
  have hregs : Regs.wf s.silent.regs := hregs
  refine ⟨fun hsingle => ?_, ⟨_, rfl, rfl⟩, fun htiming hshut hyield => ?_, fun agent => ?_⟩
  · have hsent := sent_capture (a := SHUTTLE_F_SHUTCTL_YIELD.addr) rfl 3 s.silent
    have hexec : exec (.yieldArm true) s = .next (capture SHUTTLE_F_SHUTCTL_YIELD.addr 3 s.silent) :=
      congrArg Host.Outcome.next (yieldWrite_arm_of_single (s := s.silent) hsingle)
    refine ⟨_, hexec, ⟨?_, ?_, ?_⟩, fun a ha => ?_, fun x hx => ?_⟩
    · rw [hsent.get (by simp) (by simp)]
      unfold State.get
      rw [raw_recordPgerr_ne (by decide)]
      rfl
    · rw [hsent.get (by simp) (by simp)]
      exact get_pgerrOffset_recordPgerr hregs SHUTTLE_F_SHUTCTL_YIELD.addr 3
    · rw [hsent.get (by simp) (by simp)]
      exact get_pgerrCause_recordPgerr hregs SHUTTLE_F_SHUTCTL_YIELD.addr (by decide)
    · have hpage : pageOf a ≠ 0x51 := fun h => ha (by simp [h])
      have hne (b : Nat) (hb : pageOf b = 0x51) : a ≠ b := fun h => hpage (h ▸ hb)
      rw [hsent.raw a (hne _ rfl) (hne _ rfl), raw_recordPgerr_ne (hne _ rfl)]
      rfl
    · exact same_capture rfl 3 s.silent (by simpa using hx)
  · have hexec : exec .permitTimeout s = .next _ :=
      congrArg Host.Outcome.next (permitTimeout_of_canYield (s := s.silent) htiming hshut hyield)
    have hlost := wf_put (wf_put (s := { s.silent with permit.timing := false }) hregs SHUTTLE_F_STAT_PVALID 0) SHUTTLE_F_STAT_PSTABLE 0
    exact ⟨_, hexec, get_yield_yieldCells hlost, get_yielded_yieldCells hlost⟩
  · have hexec : exec (.registerWrite agent SHUTTLE_F_SHUTCTL_YIELD.addr 0) s = .next (shutctlWrite 0 s.silent) :=
      congrArg Host.Outcome.next (writeAt_shutctl agent 0 s.silent)
    exact ⟨_, hexec, get_yield_shutctlWrite_zero hregs⟩

end Sys2Proof.Machine
end

section
/-! SUPPORT. What a source that becomes pending changes on the H-die (R98, R99, R104), and what the completion of an edge source does (R98,
R101). -/

namespace Sys2Proof.Machine

/-! ### Becoming deliverable (R104) -/

/-- Registers that hold the pending messages of MSI-X. -/
def PendingArray (b : Nat) : Prop := 0x9C00 ≤ b ∧ b < 0x9C08

/-- `t` is `s` but for the messages of MSI-X, sent or pending. -/
structure Announced (s t : State) : Prop where
  raw : ∀ b, ¬ PendingArray b → t.raw b = s.raw b
  rest : t = { s with regs := t.regs, out := t.out }

theorem announced_refl (s : State) : Announced s s := ⟨fun _ _ => rfl, rfl⟩

theorem announced_sendMsix (n : Nat) (s : State) : Announced s (sendMsix n s) := by
  unfold sendMsix
  extract_lets v
  split
  · exact announced_refl s
  · split
    · have hv : v < 2 ^ 6 := get_lt s (INTC_0_SRCCFG_VEC n)
      refine ⟨fun b hb => raw_put_ne s (fun h => hb ?_) 1, rfl⟩
      unfold PendingArray
      dsimp only at h
      omega
    · exact ⟨fun _ _ => rfl, rfl⟩

theorem announced_announce (old : State) (n : Nat) (s : State) : Announced s (announce old n s) := by
  unfold announce
  split
  · exact announced_sendMsix n s
  · exact announced_refl s

theorem Announced.get {s t : State} (h : Announced s t) {f : Fld} (hf : ¬ PendingArray f.addr) : t.get f = s.get f := by
  unfold State.get
  rw [h.raw _ hf]

theorem Announced.flag {s t : State} (h : Announced s t) {f : Fld} (hf : ¬ PendingArray f.addr) : t.flag f = s.flag f := by
  unfold State.flag
  rw [h.get hf]

/-- Every part of the state is as it was. -/
theorem Announced.same {s t : State} (h : Announced s t) (x : Part) : x.same s t := by
  rw [h.rest]
  cases x <;> rfl

theorem not_pendingArray_srcBit {base n : Nat} (hbase : base < 0x3000) (hn : n < 256) : ¬ PendingArray (srcBit base n).addr := by
  unfold PendingArray
  dsimp only
  omega

theorem not_pendingArray_count {n : Nat} (hn : n < 256) : ¬ PendingArray (INTC_1_COUNT_COUNT n).addr := by
  unfold PendingArray
  dsimp only
  omega

/-! ### Flags and counters that are stored -/

section
variable {s : State} (hregs : Regs.wf s.regs)
include hregs

theorem flag_put_one {f : Fld} (hfits : f.lo + f.wd ≤ 32) (hwd : f.wd = 1) : (s.put f 1).flag f = true := by
  simp [State.flag, get_put_self hregs hfits, hwd]

theorem flag_put_zero {f : Fld} (hfits : f.lo + f.wd ≤ 32) : (s.put f 0).flag f = false := by
  simp [State.flag, get_put_self hregs hfits]

/-- A counter goes up by one and stays at all ones. -/
theorem get_count_self {f : Fld} (hfits : f.lo + f.wd ≤ 32) : (s.count f).get f = min (s.get f + 1) (2 ^ f.wd - 1) := by
  have hpos : 0 < 2 ^ f.wd := Nat.two_pow_pos _
  unfold State.count State.addSat
  rw [get_put_self hregs hfits]
  exact Nat.mod_eq_of_lt (by omega)

end

theorem flag_put_ne (s : State) {f g : Fld} (hne : g.addr ≠ f.addr) (v : Nat) : (s.put f v).flag g = s.flag g := by
  unfold State.flag
  rw [get_put_ne s hne]

theorem flag_count_ne (s : State) {f g : Fld} (hne : g.addr ≠ f.addr) : (s.count f).flag g = s.flag g := flag_put_ne s hne _

/-! ### An event of an edge source (R98) -/

/-- The pending bits, the active bits and the counts of INTC_1 are registers of their own. -/
theorem srcBit_addr_ne_count {base n : Nat} (hbase : base + 0x20 ≤ 0x2400) (hn : n < 256) : (srcBit base n).addr ≠ (INTC_1_COUNT_COUNT n).addr := by
  dsimp only
  omega

theorem activeBit_addr_ne_pendBit {n : Nat} : (activeBit n).addr ≠ (pendBit n).addr := by
  dsimp only
  omega

theorem srcBit_fits {base n : Nat} : (srcBit base n).lo + (srcBit base n).wd ≤ 32 := by
  dsimp only
  omega

section
variable (s : State) {n : Nat} (hn : n < 256)
include hn

/-- The pending bit is set whatever it and the active bit were. -/
theorem flag_pendBit_edgeEvent (hregs : Regs.wf s.regs) : (edgeEvent n s).flag (pendBit n) = true := by
  unfold edgeEvent
  rw [(announced_announce _ _ _).flag (not_pendingArray_srcBit (by decide) hn), flag_count_ne _ (srcBit_addr_ne_count (by decide) hn)]
  exact flag_put_one hregs srcBit_fits rfl

theorem flag_activeBit_edgeEvent : (edgeEvent n s).flag (activeBit n) = s.flag (activeBit n) := by
  unfold edgeEvent
  rw [(announced_announce _ _ _).flag (not_pendingArray_srcBit (by decide) hn), flag_count_ne _ (srcBit_addr_ne_count (by decide) hn),
    flag_put_ne _ activeBit_addr_ne_pendBit]

theorem get_count_edgeEvent (hregs : Regs.wf s.regs) :
    (edgeEvent n s).get (INTC_1_COUNT_COUNT n) = min (s.get (INTC_1_COUNT_COUNT n) + 1) (2 ^ 32 - 1) := by
  unfold edgeEvent
  rw [(announced_announce _ _ _).get (not_pendingArray_count hn), get_count_self (wf_put hregs _ _) (by simp),
    get_put_ne _ (srcBit_addr_ne_count (by decide) hn).symm]

end

/-! ### The completion of an edge source (R98, R101) -/

/-- No source of Table 3-18 is both an edge source and a level source. -/
theorem levelSource_of_edgeSource {n : Nat} (hedge : edgeSource n = true) : levelSource n = false := by
  refine Bool.eq_false_iff.2 fun hlevel => ?_
  simp only [edgeSource, levelSource, Bool.or_eq_true, Bool.and_eq_true, decide_eq_true_eq, beq_iff_eq] at hedge hlevel
  omega

theorem toNat_word_of_lt {n : Nat} (hn : n < 256) : (word n).toNat = n :=
  (BitVec.toNat_ofNat n 32).trans (Nat.mod_eq_of_lt (by omega))

/-- Its target completes an active edge source: only the active bit is cleared, and the source may be deliverable again. -/
theorem completeWrite_of_edgeSource {s : State} {n : Nat} (hn : n < 256) (hedge : edgeSource n = true) (hactive : s.flag (activeBit n) = true)
    (htarget : s.get (INTC_0_SRCCFG_TARGET n) < 2) :
    completeWrite (s.get (INTC_0_SRCCFG_TARGET n)) (word n) s = announce s n (s.put (activeBit n) 0) := by
  have hsource : bitsAt (word n).toNat 0 8 = n := by
    rw [toNat_word_of_lt hn]
    exact Nat.mod_eq_of_lt hn
  have hhigh : (word n).toNat / 256 = 0 := by
    rw [toNat_word_of_lt hn]
    exact Nat.div_eq_of_lt hn
  unfold completeWrite
  simp [hsource, hhigh, hactive, levelSource_of_edgeSource hedge, Nat.not_le.2 htarget]

/-- Settles O7: an edge event stores the pending bit and the count without a look at the active bit, and completion stores the active bit
alone. -/
theorem edgeSourcesBecomePending : Obligations.EdgeSourcesBecomePending := by
  intro s n ⟨hregs, _⟩ hn hedge
  refine ⟨⟨flag_pendBit_edgeEvent s hn hregs, flag_activeBit_edgeEvent s hn, get_count_edgeEvent s hn hregs⟩,
    fun hpend hactive htarget => ?_⟩
  have hregs : Regs.wf s.silent.regs := hregs
  have hannounced := announced_announce s.silent n (s.silent.put (activeBit n) 0)
  have hexec : exec (.complete (s.get (INTC_0_SRCCFG_TARGET n)) (word n)) s = .next (announce s.silent n (s.silent.put (activeBit n) 0)) :=
    congrArg Host.Outcome.next (completeWrite_of_edgeSource (s := s.silent) hn hedge hactive htarget)
  refine ⟨_, hexec, ⟨?_, ?_⟩, fun a ha => ?_, fun x _ => hannounced.same x⟩
  · rw [hannounced.flag (not_pendingArray_srcBit (by decide) hn)]
    exact flag_put_zero hregs srcBit_fits
  · rw [hannounced.flag (not_pendingArray_srcBit (by decide) hn), flag_put_ne _ activeBit_addr_ne_pendBit.symm]
    exact hpend
  · have hpage2 : pageOf a ≠ 0x02 := fun h => ha (by simp [h])
    have hpage9 : pageOf a ≠ 0x09 := fun h => ha (by simp [h])
    unfold pageOf at hpage2 hpage9
    have harray : ¬ PendingArray a := by
      unfold PendingArray
      omega
    rw [hannounced.raw a harray, raw_put_ne _ (by dsimp only; omega)]
    rfl

end Sys2Proof.Machine
end

section
/-! SUPPORT. The winner of a target (R97): what the search over the sources holds when it has seen the first `k` of them. -/

namespace Sys2Proof.Machine

/-- Source `n` can be delivered to target `t`. -/
def Contends (s : State) (t n : Nat) : Prop := deliverable s n = true ∧ s.get (INTC_0_SRCCFG_TARGET n) = t

/-- Source `m` comes before source `n`: a higher priority, or the same and no higher number. -/
def Outranks (s : State) (m n : Nat) : Prop :=
  s.get (INTC_0_SRCCFG_PRIO n) < s.get (INTC_0_SRCCFG_PRIO m) ∨
    (s.get (INTC_0_SRCCFG_PRIO n) = s.get (INTC_0_SRCCFG_PRIO m) ∧ m ≤ n)

/-- `best`, a source and its priority, is the winner among the sources below `k`; (0, 0) stands for no source. -/
def WinsBelow (s : State) (t k : Nat) (best : Nat × Nat) : Prop :=
  (best = (0, 0) ∧ ∀ n < k, ¬ Contends s t n) ∨
    ((best.1 < k ∧ Contends s t best.1 ∧ best.2 = s.get (INTC_0_SRCCFG_PRIO best.1)) ∧ ∀ n < k, Contends s t n → Outranks s best.1 n)

theorem deliverable_iff {s : State} {n : Nat} :
    deliverable s n = true ↔ s.flag (pendBit n) = true ∧ s.flag (maskBit n) = false ∧ s.flag (activeBit n) = false ∧
      s.get (INTC_0_THRESH_THR (s.get (INTC_0_SRCCFG_TARGET n))) < s.get (INTC_0_SRCCFG_PRIO n) := by
  simp [deliverable, and_assoc]

/-- A deliverable source is above a threshold, so its priority is not 0. -/
theorem prio_pos_of_deliverable {s : State} {n : Nat} (h : deliverable s n = true) : 0 < s.get (INTC_0_SRCCFG_PRIO n) := by
  obtain ⟨-, -, -, hprio⟩ := deliverable_iff.1 h
  exact Nat.zero_lt_of_lt hprio

/-- The search's step at source `k` (the body of `winner`'s fold). -/
def better (s : State) (t : Nat) (best : Nat × Nat) (k : Nat) : Nat × Nat :=
  if deliverable s k && s.get (INTC_0_SRCCFG_TARGET k) == t && best.2 < s.get (INTC_0_SRCCFG_PRIO k) then (k, s.get (INTC_0_SRCCFG_PRIO k))
  else best

theorem winner_eq_foldl_better (s : State) (t : Nat) : winner s t = ((List.range 256).foldl (better s t) (0, 0)).1 := rfl

theorem better_of_beats {s : State} {t k : Nat} {best : Nat × Nat} (hk : Contends s t k) (hprio : best.2 < s.get (INTC_0_SRCCFG_PRIO k)) :
    better s t best k = (k, s.get (INTC_0_SRCCFG_PRIO k)) := by
  obtain ⟨hdeliverable, htarget⟩ := hk
  simp [better, hdeliverable, htarget, hprio]

theorem better_of_not_beats {s : State} {t k : Nat} {best : Nat × Nat} (h : Contends s t k → s.get (INTC_0_SRCCFG_PRIO k) ≤ best.2) :
    better s t best k = best := by
  refine if_neg fun hcond => ?_
  simp only [Bool.and_eq_true, beq_iff_eq, decide_eq_true_eq] at hcond
  obtain ⟨⟨hdeliverable, htarget⟩, hprio⟩ := hcond
  exact absurd (h ⟨hdeliverable, htarget⟩) (Nat.not_le.2 hprio)

/-- The comparison is strict, so a later source takes over only with a higher priority. -/
theorem winsBelow_succ {s : State} {t k : Nat} {best : Nat × Nat} (h : WinsBelow s t k best) : WinsBelow s t (k + 1) (better s t best k) := by
  by_cases hbeats : Contends s t k ∧ best.2 < s.get (INTC_0_SRCCFG_PRIO k)
  · obtain ⟨hk, hprio⟩ := hbeats
    rw [better_of_beats hk hprio]
    refine .inr ⟨⟨Nat.lt_succ_self k, hk, rfl⟩, fun n hn hcontends => ?_⟩
    rcases Nat.lt_succ_iff_lt_or_eq.1 hn with hlt | rfl
    · rcases h with ⟨-, hnone⟩ | ⟨⟨-, -, hbest⟩, hall⟩
      · exact absurd hcontends (hnone n hlt)
      · refine .inl (lt_of_le_of_lt ?_ (hbest ▸ hprio))
        exact (hall n hlt hcontends).elim Nat.le_of_lt fun heq => heq.1.le
    · exact .inr ⟨rfl, Nat.le_refl _⟩
  · have hle : Contends s t k → s.get (INTC_0_SRCCFG_PRIO k) ≤ best.2 := fun hk => Nat.not_lt.1 fun hlt => hbeats ⟨hk, hlt⟩
    rw [better_of_not_beats hle]
    rcases h with ⟨hbest, hnone⟩ | ⟨⟨hbelow, hcontends, hbest⟩, hall⟩
    · refine .inl ⟨hbest, fun n hn hn' => ?_⟩
      rcases Nat.lt_succ_iff_lt_or_eq.1 hn with hlt | rfl
      · exact hnone n hlt hn'
      · have hzero : s.get (INTC_0_SRCCFG_PRIO n) ≤ 0 := by simpa [hbest] using hle hn'
        exact absurd (prio_pos_of_deliverable hn'.1) (Nat.not_lt.2 hzero)
    · refine .inr ⟨⟨Nat.lt_succ_of_lt hbelow, hcontends, hbest⟩, fun n hn hn' => ?_⟩
      rcases Nat.lt_succ_iff_lt_or_eq.1 hn with hlt | rfl
      · exact hall n hlt hn'
      · exact (Nat.lt_or_eq_of_le (hbest ▸ hle hn')).imp_right fun heq => ⟨heq, hbelow.le⟩

theorem winsBelow_foldl_better (s : State) (t k : Nat) : WinsBelow s t k ((List.range k).foldl (better s t) (0, 0)) := by
  induction k with
  | zero => exact .inl ⟨rfl, fun n hn => absurd hn (Nat.not_lt_zero n)⟩
  | succ k ih =>
    rw [List.range_succ, List.foldl_append]
    exact winsBelow_succ ih

/-- Settles O8: the search has seen all 256 sources. -/
theorem winnerOfATarget : Obligations.WinnerOfATarget := by
  intro s t
  refine ⟨fun n => ⟨deliverable_iff, fun hprio => Bool.eq_false_iff.2 fun h => ?_⟩, ?_⟩
  · exact absurd (prio_pos_of_deliverable h) (by omega)
  · rw [winner_eq_foldl_better]
    rcases winsBelow_foldl_better s t 256 with ⟨hbest, hnone⟩ | ⟨⟨hbelow, ⟨hdeliverable, htarget⟩, -⟩, hall⟩
    · exact .inl ⟨by rw [hbest], fun n hn hdeliverable htarget => hnone n hn ⟨hdeliverable, htarget⟩⟩
    · exact .inr ⟨⟨hbelow, hdeliverable, htarget⟩, fun n hn hdeliverable htarget => hall n hn ⟨hdeliverable, htarget⟩⟩

end Sys2Proof.Machine
end

section
/-! SUPPORT. What a capture does on either die (R88, R108, R109): `PGERR` of its page, the journal entry of the H-die, the event of the F-die;
and what `ERRCLR` does. -/

namespace Sys2Proof.Machine

/-! ### The common header -/

theorem pageOf_header (page : Nat) {o : Nat} (ho : o < 0x1000) : pageOf (page * 0x1000 + o) = page := by
  unfold pageOf
  omega

theorem offOf_header (page : Nat) {o : Nat} (ho : o < 0x1000) : offOf (page * 0x1000 + o) = o := by
  unfold offOf
  omega

/-! ### The inputs of the interrupt controller (R98, R99) -/

/-- Registers that an input of the interrupt controller may change: the pending bits and the counts of INTC_1, and the pending messages. -/
def InputReg (b : Nat) : Prop := (0x2040 ≤ b ∧ b < 0x2060) ∨ (0x2400 ≤ b ∧ b < 0x2800) ∨ PendingArray b

/-- It is no header register, so no `PGERR`. -/
theorem not_inputReg_pgerr (page : Nat) : ¬ InputReg (page * 0x1000 + 0x024) := by
  unfold InputReg PendingArray
  omega

/-- An input of the interrupt controller changes no other register, and journals nothing. -/
structure Signalled (s t : State) : Prop where
  raw : ∀ b, ¬ InputReg b → t.raw b = s.raw b
  jr : t.jr = s.jr

theorem signalled_refl (s : State) : Signalled s s := ⟨fun _ _ => rfl, rfl⟩

theorem Signalled.trans {s t u : State} (h : Signalled s t) (k : Signalled t u) : Signalled s u :=
  ⟨fun b hb => (k.raw b hb).trans (h.raw b hb), k.jr.trans h.jr⟩

theorem Announced.signalled {s t : State} (h : Announced s t) : Signalled s t :=
  ⟨fun b hb => h.raw b fun harray => hb (.inr (.inr harray)), by rw [h.rest]⟩

theorem signalled_intc (s : State) (i : Intc) : Signalled s { s with intc := i } := ⟨fun _ _ => rfl, rfl⟩

theorem signalled_put (s : State) {f : Fld} (hf : InputReg f.addr) (v : Nat) : Signalled s (s.put f v) :=
  ⟨fun _ hb => raw_put_ne s (fun h => hb (by rwa [h])) v, rfl⟩

section
variable {n : Nat} (hn : n < 256)
include hn

theorem inputReg_pendBit : InputReg (pendBit n).addr := by
  unfold InputReg
  dsimp only
  omega

theorem inputReg_count : InputReg (INTC_1_COUNT_COUNT n).addr := by
  unfold InputReg
  dsimp only
  omega

theorem signalled_edgeEvent (s : State) : Signalled s (edgeEvent n s) :=
  ((signalled_put s (inputReg_pendBit hn) 1).trans (signalled_put _ (inputReg_count hn) _)).trans (announced_announce _ _ _).signalled

theorem signalled_levelInput (b : Bool) (s : State) : Signalled s (levelInput n b s) := by
  unfold levelInput
  split
  · exact signalled_refl s
  · split
    · extract_lets _ s1
      have h1 : Signalled s s1 := (signalled_intc s _).trans (signalled_put _ (inputReg_count hn) _)
      split
      · exact h1
      · exact (h1.trans (signalled_put s1 (inputReg_pendBit hn) 1)).trans (announced_announce _ _ _).signalled
    · extract_lets _ s1
      have h1 : Signalled s s1 := signalled_intc s _
      split
      · exact h1
      · exact h1.trans (signalled_put s1 (inputReg_pendBit hn) 0)

end

theorem signalled_relevelBasic {page : Nat} (hpage : isF page = false) (s : State) : Signalled s (relevelBasic page s) := by
  unfold relevelBasic
  extract_lets n b
  split
  · exact signalled_refl s
  · rw [if_neg (by simp [hpage])]
    exact signalled_levelInput (pageSource_lt page) b s

/-! ### An entry of the journal (R108) -/

/-- Flags of an H-die page touch its `PGEVT` and the input of its source. -/
theorem raw_setEvt_ne {page b : Nat} (hpage : isF page = false) (hevt : b ≠ page * 0x1000 + 0x010) (hb : ¬ InputReg b) (mask : Nat) (s : State) :
    (setEvt page mask s).raw b = s.raw b := by
  unfold setEvt noteEvt
  rw [(signalled_relevelBasic hpage _).raw b hb, if_neg (by simp [hpage]), raw_setRaw_ne _ hevt]

theorem jr_setEvt {page : Nat} (hpage : isF page = false) (mask : Nat) (s : State) : (setEvt page mask s).jr = s.jr := by
  unfold setEvt noteEvt
  rw [(signalled_relevelBasic hpage _).jr, if_neg (by simp [hpage])]
  rfl

/-- The new entry is the newest, and it takes the next number. -/
theorem head_entries_journal (sw : Word) (wcf source flags code data : Nat) (s : State) :
    (journal sw wcf source flags code data s).jr.entries.head? = some ⟨s.jr.next, sw, wcf, source, flags, code, data⟩ := by
  unfold journal
  rw [jr_setEvt rfl]
  split <;> rfl

/-- `PGERR` of any page is no register of the journal's own. -/
theorem raw_pgerr_journal (page : Nat) (sw : Word) (wcf source flags code data : Nat) (s : State) :
    (journal sw wcf source flags code data s).raw (page * 0x1000 + 0x024) = s.raw (page * 0x1000 + 0x024) := by
  have hput (t : State) {f : Fld} (hf : offOf f.addr ≠ 0x024) (v : Nat) :
      (t.put f v).raw (page * 0x1000 + 0x024) = t.raw (page * 0x1000 + 0x024) :=
    raw_put_ne t (fun h => hf (h ▸ offOf_header page (by decide))) v
  unfold journal
  extract_lets q full old es s1 s2 s3 rp fill unread
  have h2 : s2.raw (page * 0x1000 + 0x024) = s.raw (page * 0x1000 + 0x024) := (hput _ (by decide) _).trans (hput s1 (by decide) _)
  rw [raw_setEvt_ne rfl (by omega) (not_inputReg_pgerr page), hput _ (by decide)]
  split
  · exact (hput s2 (by decide) _).trans h2
  · exact h2

/-! ### A capture (R88, R109) -/

/-- An H-die event of an edge source is journalled, and the source becomes pending (R98, R108). -/
theorem raiseH_of_edgeSource {source : Nat} (hedge : edgeSource source = true) (code data : Nat) (s : State) :
    raiseH source code data s =
      edgeEvent source (journal (hSwarp s) (clockWcf (clockNow s)) source (2 + clockFlag s) code data s) := if_pos hedge

theorem capture_of_isF {a : Nat} (ha : isF (pageOf a) = true) (cause : Nat) (s : State) :
    capture a cause s = raiseF 6 (cause * 2 ^ 12 + offOf a / 4) (pageOf a) (recordPgerr a cause s) := if_pos ha

theorem capture_of_not_isF {a : Nat} (ha : isF (pageOf a) = false) (cause : Nat) (s : State) :
    capture a cause s = raiseH 6 (cause * 2 ^ 12 + offOf a / 4) (pageOf a) (recordPgerr a cause s) := if_neg (by simp [ha])

/-- What a capture reports, on either die, leaves `PGERR` as the capture recorded it. -/
theorem raw_pgerr_capture (a cause : Nat) (s : State) :
    (capture a cause s).raw (pageOf a * 0x1000 + 0x024) = (recordPgerr a cause s).raw (pageOf a * 0x1000 + 0x024) := by
  cases hdie : isF (pageOf a) with
  | true => exact (sent_capture hdie cause s).raw _ (by omega) (by omega)
  | false =>
    rw [capture_of_not_isF hdie, raiseH_of_edgeSource rfl, (signalled_edgeEvent (by decide) _).raw _ (not_inputReg_pgerr _),
      raw_pgerr_journal]

theorem get_pgerr_capture (a cause : Nat) (s : State) {f : Fld} (hf : f.addr = pageOf a * 0x1000 + 0x024) :
    (capture a cause s).get f = (recordPgerr a cause s).get f := by
  unfold State.get
  rw [hf, raw_pgerr_capture]

section
variable {s : State} (hregs : Regs.wf s.regs)
include hregs

theorem get_pgerrCount_recordPgerr (a cause : Nat) :
    (recordPgerr a cause s).get (pgerrCount (pageOf a)) = min (s.get (pgerrCount (pageOf a)) + 1) (2 ^ (pgerrCount (pageOf a)).wd - 1) := by
  have h1 := wf_put hregs (pgerrOffset (pageOf a)) (offOf a)
  have h2 := wf_put h1 (pgerrCause (pageOf a)) cause
  unfold recordPgerr
  rw [get_put_disjoint (regs_setCell h2 _ _) (by simp) (by simp), get_count_self h2 (by simp), get_put_disjoint h1 (by simp) (by simp),
    get_put_disjoint hregs (by simp) (by simp)]

theorem get_pgerrValid_recordPgerr (a cause : Nat) : (recordPgerr a cause s).get (pgerrValid (pageOf a)) = 1 :=
  get_put_self (wf_put (wf_put (wf_put hregs _ _) _ _) _ _) (by simp) 1

end

/-- The newest journal entry after a capture on an H-die page. -/
theorem head_entries_capture {a : Nat} (ha : isF (pageOf a) = false) (cause : Nat) (s : State) :
    ∃ e : JEntry, ((capture a cause s).jr.entries.head? = some e ∧ e.seq = s.jr.next) ∧ e.source = 6 ∧
      e.code = cause * 2 ^ 12 + offOf a / 4 ∧ e.data = pageOf a := by
  rw [capture_of_not_isF ha, raiseH_of_edgeSource rfl, (signalled_edgeEvent (by decide) _).jr, head_entries_journal]
  exact ⟨_, ⟨rfl, rfl⟩, rfl, rfl, rfl⟩

/-- With the link up and no snapshot that holds events back, an event joins the main queue (R49). -/
theorem queue_fSend {s : State} (hup : s.link.up = true) (hholding : s.link.selvHolding = none) (e : Event) :
    (fSend e s).link.fh.queue = s.link.fh.queue ++ [.event e] := by
  simp [fSend, hup, hholding]

/-- The event that a capture on an F-die page sends. -/
theorem queue_capture {a : Nat} (ha : isF (pageOf a) = true) (cause : Nat) {s : State} (hup : s.link.up = true)
    (hholding : s.link.selvHolding = none) :
    ∃ e : Event, (capture a cause s).link.fh.queue = s.link.fh.queue ++ [.event e] ∧
      e.source = 6 ∧ e.code = cause * 2 ^ 12 + offOf a / 4 ∧ e.data = word (pageOf a) := by
  rw [capture_of_isF ha]
  exact ⟨_, queue_fSend (s := recordPgerr a cause s) hup hholding _, rfl, rfl, rfl⟩

/-! ### Clearing `PGERR` (R88) -/

/-- A 1 written to `ERRCLR` clears `PGERR` and leaves the page's flags, so that none of them falls. -/
theorem headerWrite_errclr (page : Nat) (s : State) :
    headerWrite (page * 0x1000 + 0x00C) 1 s = s.setRaw (page * 0x1000 + 0x024) 0 := by
  have hwrite : writeHeader (page * 0x1000 + 0x00C) 1 s = s.setRaw (page * 0x1000 + 0x024) 0 := by
    simp [writeHeader, pageOf_header, offOf_header]
  have hflags : (s.setRaw (page * 0x1000 + 0x024) 0).get (pgevt page) = s.get (pgevt page) := by
    unfold State.get
    rw [raw_setRaw_ne s (by dsimp only; omega)]
  have hpage : pageOf (page * 0x1000 + 0x00C) = page := pageOf_header page (by decide)
  simp only [headerWrite, hwrite, hpage, hflags, Bool.and_not_self, Bool.and_false, Bool.false_eq_true, if_false]

theorem exec_errclr {page : Nat} (hheader : hasHeader page = true) (s : State) :
    exec (.errclr page) s = .next (s.silent.setRaw (page * 0x1000 + 0x024) 0) :=
  congrArg Host.Outcome.next ((if_pos hheader).trans (headerWrite_errclr page s.silent))

/-- Settles O6: what is reported of a capture, on either die, leaves the `PGERR` that it recorded. -/
theorem pageErrorCaptures : Obligations.PageErrorCaptures := by
  intro s a cause ⟨hregs, _⟩ hheader hcause p
  refine ⟨⟨?_, ?_, ?_, ?_⟩, fun hH => head_entries_capture hH cause s, fun hF hup hholding => queue_capture hF cause hup hholding,
    _, exec_errclr hheader s, raw_setRaw_self (s := s.silent) hregs _ 0⟩
  · exact (get_pgerr_capture a cause s rfl).trans (get_pgerrOffset_recordPgerr hregs a cause)
  · exact (get_pgerr_capture a cause s rfl).trans (get_pgerrCause_recordPgerr hregs a hcause)
  · exact (get_pgerr_capture a cause s rfl).trans (get_pgerrCount_recordPgerr hregs a cause)
  · exact (get_pgerr_capture a cause s rfl).trans (get_pgerrValid_recordPgerr hregs a cause)

end Sys2Proof.Machine
end

section
/-! SUPPORT. What every command keeps, gathered over the commands; the step, the state after reset, and the invariant of a run. -/

namespace Sys2Proof.Machine

set_option Elab.async false

/-- Every command completes and is sound: each by the law of its meaning. -/
theorem done_exec (c : Instr) (s : State) : Done s (exec c s) := by
  cases c with
  | hSupplyInRange => exact done_execHSupplyInRange
  | hDieResetRelease => exact done_execHDieResetRelease
  | hFirmwareStart => exact done_execHFirmwareStart
  | hDieReset => exact done_execHDieReset
  | pcieReset _ => exact done_execPcieReset
  | fSupplyInRange => exact done_execFSupplyInRange
  | fDieResetRelease => exact done_execFDieResetRelease
  | fSupplyLoss => exact done_execFSupplyLoss
  | pllStep => exact done_execPllStep
  | pllStepTimeout => exact done_execPllStepTimeout
  | pllLock => exact done_execPllLock
  | pllUnlock _ => exact done_execPllUnlock
  | refclkHLoss => exact done_execRefclkHLoss
  | lanePllLoss _ => exact done_execLanePllLoss
  | shuttlePllLoss _ => exact done_execShuttlePllLoss
  | readReq _ _ _ _ _ _ => exact done_execReadReq
  | readRsp _ _ _ _ _ _ => exact done_execReadRsp
  | postedWr _ _ _ _ => exact done_execPostedWr
  | stagedWr _ _ _ _ => exact done_execStagedWr
  | event _ _ _ => exact done_execEvent
  | timeMark _ _ _ _ _ _ _ _ _ _ => exact done_execTimeMark
  | bulk _ _ _ _ _ _ _ => exact done_execBulk
  | selvFrag _ _ _ _ _ _ _ => exact done_execSelvFrag
  | keepalive _ _ _ _ _ => exact done_execKeepalive
  | corruptFrame _ _ _ _ => exact done_execCorruptFrame
  | replayRequest _ => exact done_execReplayRequest
  | replayRequestTimeout _ => exact done_execReplayRequestTimeout
  | replayRepeat _ => exact done_execReplayRepeat
  | frameSlot _ _ => exact done_execFrameSlot
  | keepaliveIdle _ => exact done_execKeepaliveIdle
  | channelSilent _ _ => exact done_execChannelSilent
  | channelRetrain _ _ => exact done_execChannelRetrain
  | linkUp _ _ => exact done_execLinkUp
  | linkDownTimeout => exact done_execLinkDownTimeout
  | readResponseTimeout _ => exact done_execReadResponseTimeout
  | calibrationMark _ _ => exact done_execCalibrationMark
  | permitEdge _ => exact done_execPermitEdge
  | permitTimeout => exact done_execPermitTimeout
  | permitStable => exact done_execPermitStable
  | reopen => exact done_execReopen
  | yieldArm _ => exact done_execYieldArm
  | yieldExpiry => exact done_execYieldExpiry
  | pcieReadTlp _ _ _ => exact done_execPcieReadTlp
  | pcieWriteTlp _ => exact done_execPcieWriteTlp
  | bar2Write _ _ => exact done_execBar2Write
  | flr => exact done_execFlr
  | pcieLinkDown => exact done_execPcieLinkDown
  | spiRead _ _ _ => exact done_execSpiRead
  | spiWrite _ _ _ => exact done_execSpiWrite
  | spiQread _ _ _ => exact done_execSpiQread
  | spiQwrite _ _ _ => exact done_execSpiQwrite
  | spiStatus => exact done_execSpiStatus
  | spiInvalidCommand _ => exact done_execSpiInvalidCommand
  | spiStatusDeadline => exact done_execSpiStatusDeadline
  | spiCsRise => exact done_execSpiCsRise
  | hostAccessExecute _ => exact done_execHostAccessExecute
  | gateHeddle => exact done_execGateHeddle
  | registerWrite _ _ _ => exact done_execRegisterWrite
  | pgevtWrite _ _ => exact done_execPgevtWrite
  | pgevtset _ _ => exact done_execPgevtset
  | pgevtclr _ _ => exact done_execPgevtclr
  | errclr _ => exact done_execErrclr
  | pglock _ _ => exact done_execPglock
  | hwdkick _ => exact done_execHwdkick
  | hwdctlWrite _ => exact done_execHwdctlWrite
  | watchdogExpiry => exact done_execWatchdogExpiry
  | watchdogAction => exact done_execWatchdogAction
  | watchdogRampEnd => exact done_execWatchdogRampEnd
  | claim _ => exact done_execClaim
  | complete _ _ => exact done_execComplete
  | pendset _ _ => exact done_execPendset
  | pendclr _ _ => exact done_execPendclr
  | maskset _ _ => exact done_execMaskset
  | maskclr _ _ => exact done_execMaskclr
  | outcfgWrite _ _ => exact done_execOutcfgWrite
  | srccfgWrite _ _ => exact done_execSrccfgWrite
  | wardenTargetPass => exact done_execWardenTargetPass
  | selvReq _ => exact done_execSelvReq
  | selvedgeCapture => exact done_execSelvedgeCapture
  | selvedgeTimeout => exact done_execSelvedgeTimeout
  | pickBoundary _ => exact done_execPickBoundary
  | measurementValid => exact done_execMeasurementValid
  | fmFreezeEnd => exact done_execFmFreezeEnd
  | flywheelLimit => exact done_execFlywheelLimit
  | warpLock => exact done_execWarpLock
  | nowLoRead _ _ => exact done_execNowLoRead
  | ppsEdge _ => exact done_execPpsEdge
  | ppsHoldover => exact done_execPpsHoldover
  | ppsHoldmax => exact done_execPpsHoldmax
  | rtcCompare err => exact done_execRtcCompare (a0 := err)
  | rtcRealign => exact done_execRtcRealign
  | wallClockLoad _ => exact done_execWallClockLoad
  | secLoRead _ _ => exact done_execSecLoRead
  | setctlArm => exact done_execSetctlArm
  | setctlCancel => exact done_execSetctlCancel
  | secondsSet => exact done_execSecondsSet
  | atlGo => exact done_execAtlGo
  | atlSloRead _ => exact done_execAtlSloRead
  | angleZeroMark => exact done_execAngleZeroMark
  | warpImageStale => exact done_execWarpImageStale
  | sampleTrigger _ _ => exact done_execSampleTrigger
  | adcConversionDone _ _ _ => exact done_execAdcConversionDone
  | heddleEnd _ => exact done_execHeddleEnd
  | bgDeadline _ _ => exact done_execBgDeadline
  | recordCommit _ _ _ => exact done_execRecordCommit
  | commandBurst _ => exact done_execCommandBurst
  | rxdone _ _ => exact done_execRxdone
  | inputRestored _ => exact done_execInputRestored
  | bypassConfirmTimeout _ => exact done_execBypassConfirmTimeout
  | nodeLostTimeout _ => exact done_execNodeLostTimeout
  | service _ _ => exact done_execService
  | fallbackStart => exact done_execFallbackStart
  | fallbackRampDone => exact done_execFallbackRampDone
  | fallbackBlock => exact done_execFallbackBlock
  | weaveVerify _ => exact done_execWeaveVerify
  | imageVerified _ _ => exact done_execImageVerified
  | weaveErase _ => exact done_execWeaveErase
  | switchGo _ _ => exact done_execSwitchGo
  | switchCancel => exact done_execSwitchCancel
  | switchCheck => exact done_execSwitchCheck
  | weaveSwitch => exact done_execWeaveSwitch
  | coldLoadDone => exact done_execColdLoadDone
  | add _ _ _ => exact done_execAdd
  | sub _ _ _ => exact done_execSub
  | addi _ _ _ => exact done_execAddi
  | and _ _ _ => exact done_execAnd
  | or _ _ _ => exact done_execOr
  | xor _ _ _ => exact done_execXor
  | andn _ _ _ => exact done_execAndn
  | shl _ _ _ => exact done_execShl
  | shr _ _ _ => exact done_execShr
  | sar _ _ _ => exact done_execSar
  | shli _ _ _ => exact done_execShli
  | shri _ _ _ => exact done_execShri
  | sari _ _ _ => exact done_execSari
  | min _ _ _ => exact done_execMin
  | max _ _ _ => exact done_execMax
  | sel _ _ _ => exact done_execSel
  | li _ _ _ => exact done_execLi
  | lih _ _ _ => exact done_execLih
  | cmp _ _ _ => exact done_execCmp
  | qadd _ _ _ => exact done_execQadd
  | qsub _ _ _ => exact done_execQsub
  | qabs _ _ _ => exact done_execQabs
  | qmul _ _ _ => exact done_execQmul
  | qmac _ _ _ => exact done_execQmac
  | qmsb _ _ _ => exact done_execQmsb
  | qmz _ _ _ => exact done_execQmz
  | acr _ _ _ => exact done_execAcr
  | acw _ _ _ => exact done_execAcw
  | fadd _ _ _ => exact done_execFadd
  | fsub _ _ _ => exact done_execFsub
  | fmul _ _ _ => exact done_execFmul
  | fma _ _ _ => exact done_execFma
  | fmin _ _ _ => exact done_execFmin
  | fmax _ _ _ => exact done_execFmax
  | fneg _ _ _ => exact done_execFneg
  | fabs _ _ _ => exact done_execFabs
  | fcmp _ _ _ => exact done_execFcmp
  | fcvt _ _ _ => exact done_execFcvt
  | frcp _ _ _ => exact done_execFrcp
  | frsq _ _ _ => exact done_execFrsq
  | ldw _ _ _ => exact done_execLdw
  | ldd _ _ _ => exact done_execLdd
  | stw _ _ _ => exact done_execStw
  | std _ _ _ => exact done_execStd
  | ldx _ _ _ => exact done_execLdx
  | stx _ _ _ => exact done_execStx
  | lda _ _ _ => exact done_execLda
  | ldaw _ _ _ => exact done_execLdaw
  | sta _ _ _ => exact done_execSta
  | lds _ _ _ => exact done_execLds
  | ldp _ _ _ => exact done_execLdp
  | ldr _ _ _ => exact done_execLdr
  | ldb _ _ _ => exact done_execLdb
  | bra _ _ _ => exact done_execBra
  | bri _ _ _ => exact done_execBri
  | call _ _ _ => exact done_execCall
  | ret _ _ _ => exact done_execRet
  | loopi _ _ _ => exact done_execLoopi
  | loopr _ _ _ => exact done_execLoopr
  | crd _ _ _ => exact done_execCrd
  | cwr _ _ _ => exact done_execCwr
  | cwi _ _ _ => exact done_execCwi
  | jend _ _ _ => exact done_execJend
  | endMarker _ _ _ => exact done_execEndMarker
  | rece _ _ _ => exact done_execRece
  | recr _ _ _ => exact done_execRecr
  | recs _ _ _ => exact done_execRecs
  | recv _ _ _ => exact done_execRecv
  | operationComplete _ _ => exact done_execOperationComplete
  | stepctl _ _ => exact done_execStepctl
  | steppc _ _ => exact done_execSteppc
  | stepRunEnd _ => exact done_execStepRunEnd
  | engineIsolate _ => exact done_execEngineIsolate
  | repairStart _ => exact done_execRepairStart
  | repairVerified _ _ => exact done_execRepairVerified
  | repairRejoin _ => exact done_execRepairRejoin
  | hold _ => exact done_execHold
  | release _ => exact done_execRelease
  | repair _ => exact done_execRepair
  | halfretry _ _ => exact done_execHalfretry
  | engctlApply => exact done_execEngctlApply
  | reedHalfTrip _ _ => exact done_execReedHalfTrip
  | halfSelftestDone _ _ _ => exact done_execHalfSelftestDone
  | halfRejoin _ _ => exact done_execHalfRejoin
  | wardenStart => exact done_execWardenStart
  | wardenRestart => exact done_execWardenRestart
  | wardenWatchdog => exact done_execWardenWatchdog
  | auditBlock _ _ => exact done_execAuditBlock
  | wardenIrqTake _ => exact done_execWardenIrqTake
  | wardenFwVerify => exact done_execWardenFwVerify
  | wardenFwActivate => exact done_execWardenFwActivate
  | wardenFwErase => exact done_execWardenFwErase
  | collectBurstReturn _ _ => exact done_execCollectBurstReturn
  | cellOwnerMove _ => exact done_execCellOwnerMove
  | directionFail _ => exact done_execDirectionFail
  | receiverLockLoss _ => exact done_execReceiverLockLoss
  | directionReturning _ => exact done_execDirectionReturning
  | defaultOwnershipReturn _ => exact done_execDefaultOwnershipReturn
  | cellDefaultReturn _ => exact done_execCellDefaultReturn
  | enum _ => exact done_execEnum
  | laneTrained _ _ _ => exact done_execLaneTrained
  | discoverReturn _ _ _ => exact done_execDiscoverReturn
  | nodeKeyed _ _ _ _ _ _ => exact done_execNodeKeyed
  | nodeConfigured _ _ _ _ _ => exact done_execNodeConfigured
  | twinBurst _ => exact done_execTwinBurst
  | partnerLost => exact done_execPartnerLost
  | twinLaneLock _ => exact done_execTwinLaneLock
  | twinHandshakeDone _ => exact done_execTwinHandshakeDone
  | twinCopyVerified _ _ => exact done_execTwinCopyVerified
  | twinProbationEnd => exact done_execTwinProbationEnd
  | join => exact done_execJoin
  | carrierBoundary => exact done_execCarrierBoundary
  | loadPoint _ => exact done_execLoadPoint
  | syncInPulse _ _ _ => exact done_execSyncInPulse
  | syncLost => exact done_execSyncLost
  | blankWindowOpen _ => exact done_execBlankWindowOpen
  | blankWindowClose _ => exact done_execBlankWindowClose
  | energyLoopStep => exact done_execEnergyLoopStep
  | balanceStep => exact done_execBalanceStep
  | learnPublish => exact done_execLearnPublish
  | fwEnd => exact done_execFwEnd
  | trackerUpdate => exact done_execTrackerUpdate
  | sixteenPickCheck => exact done_execSixteenPickCheck
  | curtailRelease _ => exact done_execCurtailRelease
  | scanPass => exact done_execScanPass
  | scanGo => exact done_execScanGo
  | scanAbort => exact done_execScanAbort
  | bankScanStart => exact done_execBankScanStart
  | scanPoint => exact done_execScanPoint
  | bankScanEnd => exact done_execBankScanEnd
  | rtEventEnd => exact done_execRtEventEnd
  | tripTimer => exact done_execTripTimer
  | curvctlCommit => exact done_execCurvctlCommit
  | chipEnd => exact done_execChipEnd
  | passiveConfirm => exact done_execPassiveConfirm
  | suspensionTmax => exact done_execSuspensionTmax
  | suspensionEnd => exact done_execSuspensionEnd
  | waitTimer => exact done_execWaitTimer
  | syncHold => exact done_execSyncHold
  | syncTimeout => exact done_execSyncTimeout
  | breakerTime => exact done_execBreakerTime
  | rampComplete => exact done_execRampComplete
  | rangeUp _ => exact done_execRangeUp
  | calibrationInterval => exact done_execCalibrationInterval
  | fcmpTrip _ _ => exact done_execFcmpTrip
  | latchRearm _ _ => exact done_execLatchRearm
  | tripclr _ => exact done_execTripclr
  | selfCheck _ _ _ => exact done_execSelfCheck
  | scGo => exact done_execScGo
  | meterWindowEnd => exact done_execMeterWindowEnd
  | meterELoRead _ _ => exact done_execMeterELoRead
  | pqRefresh => exact done_execPqRefresh
  | checkStart => exact done_execCheckStart
  | chkctlGo => exact done_execChkctlGo
  | checkDone => exact done_execCheckDone
  | checkInvalidTimeout => exact done_execCheckInvalidTimeout
  | checkRetry => exact done_execCheckRetry
  | s0Pulse _ _ _ => exact done_execS0Pulse
  | s0Maxon _ => exact done_execS0Maxon
  | sensorReading _ => exact done_execSensorReading
  | sensorExclude _ => exact done_execSensorExclude
  | sensorReadmit _ => exact done_execSensorReadmit
  | hreq _ => exact done_execHreq
  | ntcReading _ _ => exact done_execNtcReading
  | fthermCopy => exact done_execFthermCopy
  | fthermStale => exact done_execFthermStale
  | scrubPass _ => exact done_execScrubPass
  | touchScan _ => exact done_execTouchScan
  | stuckKey _ => exact done_execStuckKey
  | buttonSample _ _ => exact done_execButtonSample
  | ledOpen _ => exact done_execLedOpen
  | vbusPlug => exact done_execVbusPlug
  | vbusUnplug => exact done_execVbusUnplug
  | svcOpen _ _ _ _ => exact done_execSvcOpen
  | svcClose _ => exact done_execSvcClose
  | svcRead _ _ _ _ => exact done_execSvcRead
  | svcWrite _ _ _ _ => exact done_execSvcWrite
  | svcPing _ => exact done_execSvcPing
  | usbBusReset => exact done_execUsbBusReset
  | usbSuspend => exact done_execUsbSuspend
  | serviceIdle => exact done_execServiceIdle
  | serviceKick => exact done_execServiceKick
  | safetySample _ => exact done_execSafetySample
  | testPulse _ _ _ => exact done_execTestPulse
  | safetySelftestDone _ => exact done_execSafetySelftestDone
  | safetyReset _ _ => exact done_execSafetyReset
  | safetyStop _ => exact done_execSafetyStop
  | sealRead _ _ _ => exact done_execSealRead
  | sealReadCmd => exact done_execSealReadCmd
  | sealRetry _ _ _ => exact done_execSealRetry
  | pwmPeriod _ _ _ _ => exact done_execPwmPeriod
  | zeroCrossing _ _ _ _ => exact done_execZeroCrossing
  | hallChange _ _ _ => exact done_execHallChange
  | hallInvalid _ => exact done_execHallInvalid
  | commutation _ _ => exact done_execCommutation
  | catchEnd _ => exact done_execCatchEnd
  | alignEnd _ => exact done_execAlignEnd
  | rampTimeout _ => exact done_execRampTimeout
  | stall _ => exact done_execStall
  | stallRetry _ => exact done_execStallRetry
  | coastEnd _ _ => exact done_execCoastEnd
  | driverUndervoltage => exact done_execDriverUndervoltage
  | uvRelease => exact done_execUvRelease
  | halfBridgeFault _ _ _ _ => exact done_execHalfBridgeFault
  | louvreCtl _ _ _ => exact done_execLouvreCtl
  | speedLoop _ => exact done_execSpeedLoop
  | curveReading _ => exact done_execCurveReading
  | auxCycle _ _ _ => exact done_execAuxCycle
  | auxFaultTimer _ => exact done_execAuxFaultTimer
  | auxEn _ => exact done_execAuxEn
  | auxRestart => exact done_execAuxRestart
  | auxSoftstartTimeout => exact done_execAuxSoftstartTimeout
  | hiccupEnd => exact done_execHiccupEnd
  | inuvRecover _ => exact done_execInuvRecover
  | hadcScan _ => exact done_execHadcScan
  | hcmpTrip _ _ => exact done_execHcmpTrip
  | quoteGo => exact done_execQuoteGo
  | quoteDone => exact done_execQuoteDone
  | owncert _ => exact done_execOwncert
  | lifecycleReq _ => exact done_execLifecycleReq
  | fuseWordBurned => exact done_execFuseWordBurned
  | fuseokTimeout => exact done_execFuseokTimeout
  | burn _ => exact done_execBurn
  | extest _ _ => exact done_execExtest
  | idcode => exact done_execIdcode
  | samplePreload _ _ => exact done_execSamplePreload
  | challenge => exact done_execChallenge
  | response _ => exact done_execResponse
  | wstatus => exact done_execWstatus
  | bypass => exact done_execBypass
  | trstLow => exact done_execTrstLow
  | wicketClose => exact done_execWicketClose
  | wicketDisable => exact done_execWicketDisable
  | securityFwVerify => exact done_execSecurityFwVerify
  | securityFwActivate => exact done_execSecurityFwActivate
  | securityFwErase => exact done_execSecurityFwErase
  | hDieRestartDone => exact done_execHDieRestartDone
  | porterSourceChange _ _ _ => exact done_execPorterSourceChange
  | porterStop _ => exact done_execPorterStop
  | porterRestart _ _ => exact done_execPorterRestart
  | harvestSample _ _ _ => exact done_execHarvestSample
  | batteryMeasure _ _ => exact done_execBatteryMeasure
  | rtcTrim _ => exact done_execRtcTrim
  | doorWatch _ _ => exact done_execDoorWatch
  | zc12Update _ _ _ _ => exact done_execZc12Update
  | permitToggle _ => exact done_execPermitToggle
  | sensorConversion _ _ _ => exact done_execSensorConversion
  | lanePllLock _ => exact done_execLanePllLock
  | wardenFwstby => exact done_execWardenFwstby
  | securityFwstby => exact done_execSecurityFwstby
  | undefinedOperation _ _ _ => exact done_execUndefinedOperation
  | nop _ _ _ => exact done_execNop
  | usbStandardRequest _ _ => exact done_execUsbStandardRequest

theorem step_of_pending_nil {s : State} (h : s.pending = []) : step s = .next s := by
  unfold step
  rw [h]

theorem step_of_pending_cons {s : State} {c : Instr} {rest : List Instr} (h : s.pending = c :: rest) :
    step s = exec c { s with pending := rest } := by
  unfold step
  rw [h]

/-- The invariant does not speak of the commands that wait. -/
theorem inv_pending {s : State} (h : s.Inv) (rest : List Instr) : State.Inv { s with pending := rest } := h

/-- Settles O1: the step matches on the queue, and no table row has bits to decode. -/
theorem stepRunsTheFront : Obligations.StepRunsTheFront :=
  ⟨fun _ _ _ => step_of_pending_cons rfl, fun _ => step_of_pending_nil, fun _ _ _ => ⟨rfl, rfl⟩⟩

/-- Every bank of the state after reset is empty. -/
theorem wf_banks_reset : ∀ b ∈ State.reset.weave.banks, Memory.wf b.content := by
  intro b hb
  have hb : b = Bank.empty := by
    simpa [State.reset, WeaveSt.reset] using hb
  rw [hb]
  exact wf_nil

theorem inv_reset : State.reset.Inv := by
  refine ⟨⟨.nil, fun x hx => absurd hx List.not_mem_nil⟩, wf_banks_reset, wf_nil, wf_nil, wf_nil, ?_⟩
  decide

/-- Settles O2: after reset no register is listed, so each reads its reset word. -/
theorem resetState : Obligations.ResetState :=
  ⟨inv_reset, fun _ => rfl, rfl, rfl, by decide, by decide, by decide, rfl, rfl, rfl, rfl⟩

/-- Settles O3: the idle step leaves the state, and each command is sound. -/
theorem everyStepKeepsTheInvariant : Obligations.EveryStepKeepsTheInvariant := by
  intro s t hinv hstep
  cases hpending : s.pending with
  | nil =>
    rw [step_of_pending_nil hpending] at hstep
    exact Host.Outcome.next.inj hstep ▸ hinv
  | cons c rest =>
    obtain ⟨u, hexec, hsound⟩ := done_exec c { s with pending := rest }
    rw [step_of_pending_cons hpending, hexec] at hstep
    exact Host.Outcome.next.inj hstep ▸ hsound.inv (inv_pending hinv rest)

/-- Settles O4: what every command keeps, without the invariant. -/
theorem everyCommandCompletes : Obligations.EveryCommandCompletes := by
  intro c s
  obtain ⟨t, hexec, hsound⟩ := done_exec c s
  exact ⟨t, hexec, hsound.pending, hsound.free⟩

end Sys2Proof.Machine
end

