-- ==== Sys2Proof/Proofs/SlotWords.lean ====
section
/-! SUPPORT. The words of slots: codes and operations name each other, and a word is its fields. -/

open Sys2Proof Sys2Proof.Machine

namespace Sys2Proof.Machine

set_option Elab.async false

/-- A code that a table lists names an operation whose code it is; no table lists 0 or the END marker, and the BR slot's codes have five bits. -/
theorem codeOf_opOf : ∀ slot < 8, ∀ code < 64, opOf slot code ≠ .undef →
    codeOf slot (opOf slot code) = code ∧ opOf slot code ≠ .endm ∧ 0 < code ∧ (slot = 6 → code < 32) := by decide

theorem opOf_codeOf (op : OpName) : ∀ slot < 8, codeOf slot op ≠ 0 →
    opOf slot (codeOf slot op) = op ∧ codeOf slot op < 64 ∧ op ≠ .endm ∧ (slot = 6 → codeOf slot op < 32) := by
  cases op <;> decide

theorem bitsAt_eq (n lo w : Nat) : bitsAt n lo w = n / 2 ^ lo % 2 ^ w := by rw [bitsAt, Nat.shiftRight_eq_div_pow]

theorem bit_le (b : Bool) : bit b ≤ 1 := by cases b <;> decide

theorem bit_eq_one {b : Bool} : bit b = 1 ↔ b = true := by cases b <;> decide

theorem bit_testBit (n i : Nat) : bit (n.testBit i) = n / 2 ^ i % 2 := by
  rw [Nat.testBit_eq_decide_div_mod_eq, bit]
  split <;> simp_all

theorem bit_getLsbD (v : Word) (i : Nat) : bit (v.getLsbD i) = v.toNat / 2 ^ i % 2 := bit_testBit _ _

theorem toNat_word {n : Nat} (h : n < 2 ^ 32) : (word n).toNat = n := by rw [word, BitVec.toNat_ofNat, Nat.mod_eq_of_lt h]

/-- The number that a slot word stands for, from its code and its fields (Table 6-3). -/
def slotNat (code : Nat) (w : SlotWord) : Nat :=
  code * 2 ^ 26 + bit w.pn * 2 ^ 25 + w.pr * 2 ^ 22 + w.d * 2 ^ 16 + w.a * 2 ^ 10 + w.b * 2 ^ 4 + w.f

/-- Every field of a slot word has a value that its bits can hold. -/
abbrev FieldsFit (w : SlotWord) : Prop := w.pr < 8 ∧ w.d < 64 ∧ w.a < 64 ∧ w.b < 64 ∧ w.f < 16

theorem encodeWord_eq {op : OpName} (h : op ≠ .endm) (w : SlotWord) : encodeWord op w = word (slotNat (codeOf w.slot op) w) := if_neg h

theorem slotNat_lt {code n : Nat} {w : SlotWord} (hc : code < n) (hw : FieldsFit w) : slotNat code w < n * 2 ^ 26 := by
  have := bit_le w.pn
  unfold slotNat
  omega

theorem bitsAt_slotNat {code : Nat} {w : SlotWord} (hc : code < 64) (hw : FieldsFit w) : bitsAt (slotNat code w) 26 6 = code := by
  have := bit_le w.pn
  simp only [bitsAt_eq, slotNat, Nat.reducePow]
  omega

theorem wordFields_slotNat {code : Nat} {w : SlotWord} (hc : code < 64) (hw : FieldsFit w) : wordFields w.slot (word (slotNat code w)) = w := by
  have hb := bit_le w.pn
  have hn := toNat_word (slotNat_lt hc hw)
  have hpn : (word (slotNat code w)).getLsbD 25 = w.pn := by
    rw [Bool.eq_iff_iff, ← bit_eq_one, ← bit_eq_one, bit_getLsbD, hn]
    simp only [slotNat, Nat.reducePow]
    omega
  obtain ⟨hr, hd, ha, hb', hf⟩ := hw
  rw [wordFields, hpn, hn]
  obtain ⟨slot, pn, pr, d, a, b, f⟩ := w
  simp only [bitsAt_eq, SlotWord.mk.injEq, slotNat, true_and, Nat.reducePow] at *
  omega

/-- A word is its code and its fields. -/
theorem slotNat_wordFields (slot : Nat) (v : Word) : slotNat (bitsAt v.toNat 26 6) (wordFields slot v) = v.toNat := by
  have := v.isLt
  simp only [slotNat, wordFields, bit_getLsbD, bitsAt_eq, Nat.reducePow] at this ⊢
  omega

theorem code_lt (v : Word) : bitsAt v.toNat 26 6 < 64 := by
  rw [bitsAt_eq]
  omega

theorem getLsbD_31 (v : Word) : v.getLsbD 31 = false ↔ v.toNat < 2 ^ 31 := by
  have := v.isLt
  rw [← Bool.not_eq_true, ← bit_eq_one, bit_getLsbD]
  omega

/-- In a slot whose bit 31 is not set for END, a word with a code other than 0 says one operation. -/
theorem decodeWord_of_code {slot : Nat} {v : Word} (h31 : slot = 6 → v.getLsbD 31 = false) (hc : 0 < bitsAt v.toNat 26 6) :
    decodeWord slot v = [(opOf slot (bitsAt v.toNat 26 6), wordFields slot v)] := by
  rw [decodeWord]
  split
  case isTrue h6 =>
    subst h6
    have hlt := (getLsbD_31 v).1 (h31 rfl)
    have h5 : bitsAt v.toNat 26 5 = bitsAt v.toNat 26 6 := by
      simp only [bitsAt_eq, Nat.reducePow] at hlt ⊢
      omega
    have hz : v.toNat % 2 ^ 31 ≠ 0 := by
      simp only [bitsAt_eq, Nat.reducePow] at hlt hc ⊢
      omega
    rw [h31 rfl, if_neg Bool.false_ne_true, if_neg hz, h5, List.nil_append]
  case isFalse h6 =>
    refine if_neg ?_
    rintro rfl
    exact absurd hc (by decide)

theorem decodeWord_encodeWord {op : OpName} {w : SlotWord} (hs : w.slot < 8) (hw : FieldsFit w) (hc : codeOf w.slot op ≠ 0) :
    decodeWord w.slot (encodeWord op w) = [(op, w)] := by
  obtain ⟨hop, hlt, hne, h5⟩ := opOf_codeOf op w.slot hs hc
  have hn := toNat_word (slotNat_lt hlt hw)
  have hcode : bitsAt (word (slotNat (codeOf w.slot op) w)).toNat 26 6 = codeOf w.slot op := by rw [hn, bitsAt_slotNat hlt hw]
  have h31 (h6 : w.slot = 6) : (word (slotNat (codeOf w.slot op) w)).getLsbD 31 = false :=
    (getLsbD_31 _).2 (hn.trans_lt (slotNat_lt (h5 h6) hw))
  rw [encodeWord_eq hne, decodeWord_of_code h31 (by omega), hcode, hop, wordFields_slotNat hlt hw]

theorem encodeWord_opOf {slot : Nat} {v : Word} (hs : slot < 8) (h : opOf slot (bitsAt v.toNat 26 6) ≠ .undef) :
    encodeWord (opOf slot (bitsAt v.toNat 26 6)) (wordFields slot v) = v := by
  obtain ⟨hc, hne, -, -⟩ := codeOf_opOf slot hs _ (code_lt v) h
  rw [encodeWord_eq hne, show (wordFields slot v).slot = slot from rfl, hc, slotNat_wordFields, word, BitVec.ofNat_toNat, BitVec.setWidth_eq]

theorem decodeWord_zero (slot : Nat) : decodeWord slot 0 = [] := by
  rw [decodeWord]
  split
  · rfl
  · rfl

theorem toNat_or_end {v : Word} (h : v.toNat < 2 ^ 31) : (v ||| 0x80000000#32).toNat = 2 ^ 31 + v.toNat := by
  rw [BitVec.toNat_or, Nat.lor_comm]
  exact (Nat.two_pow_add_eq_or_of_lt h 1).symm

/-- END beside another operation or alone: bit 31 adds the marker and changes nothing else. -/
theorem decodeWord_or_end {v : Word} (h : v.getLsbD 31 = false) :
    decodeWord 6 (v ||| 0x80000000#32) = (.endm, endWord) :: decodeWord 6 v := by
  have hlt := (getLsbD_31 v).1 h
  have hn := toNat_or_end hlt
  have hmod : (v ||| 0x80000000#32).toNat % 2 ^ 31 = v.toNat % 2 ^ 31 := by rw [hn, Nat.add_mod_left]
  have hbits (lo w : Nat) (hle : lo + w ≤ 31) : bitsAt (v ||| 0x80000000#32).toNat lo w = bitsAt v.toNat lo w := by
    rw [hn, bitsAt_eq, bitsAt_eq, ← Nat.add_sub_of_le (show lo ≤ 31 by omega), Nat.pow_add, Nat.mul_add_div (Nat.two_pow_pos lo),
      ← Nat.add_sub_of_le (show w ≤ 31 - lo by omega), Nat.pow_add, Nat.mul_add_mod]
  have hend : (v ||| 0x80000000#32).getLsbD 31 = true := by simp
  have hpn : (v ||| 0x80000000#32).getLsbD 25 = v.getLsbD 25 := by simp
  have hcode := hbits 26 5 (by omega)
  have hfields : wordFields 6 (v ||| 0x80000000#32) = wordFields 6 v := by
    simp only [wordFields, hpn, hbits, Nat.reduceAdd, Nat.reduceLeDiff]
  rw [decodeWord, decodeWord, if_pos rfl, if_pos rfl, hend, h, hmod, hcode, hfields]
  rfl

/-- Settles O11: the tables' codes and operations name each other, and a word is the number of its code and fields. -/
theorem slotWordsReadBack : Obligations.SlotWordsReadBack := by
  refine ⟨fun op w hs hp hd ha hb hf hc => decodeWord_encodeWord hs ⟨hp, hd, ha, hb, hf⟩ hc, fun slot v hs h31 hop => ?_,
    fun slot _ => decodeWord_zero slot, fun v h => decodeWord_or_end h⟩
  obtain ⟨-, -, hpos, -⟩ := codeOf_opOf slot hs _ (code_lt v) hop
  exact ⟨encodeWord_opOf hs hop, decodeWord_of_code h31 hpos⟩

end Sys2Proof.Machine
end

