-- ==== Sys2Proof/Proofs/FrameBytes.lean ====
section
/-! SUPPORT. The bytes of a shuttle frame: numbers written lowest byte first read back, field after field. -/

open Sys2Proof Sys2Proof.Machine

namespace Sys2Proof.Machine

set_option Elab.async false

/-! ### Numbers as bytes -/

@[simp] theorem length_leBytes (k n : Nat) : (leBytes k n).length = k := by simp [leBytes]

theorem leBytes_succ (k n : Nat) : leBytes (k + 1) n = BitVec.ofNat 8 n :: leBytes k (n / 256) := by
  simp only [leBytes, List.range_succ_eq_map, List.map_cons, List.map_map, Nat.mul_zero, Nat.shiftRight_zero, List.cons.injEq, true_and]
  refine List.map_congr_left fun i _ => ?_
  rw [Function.comp_apply, Nat.mul_succ, Nat.add_comm, Nat.shiftRight_add, Nat.shiftRight_eq_div_pow n 8]

theorem leNat_cons (b : Byte) (bs : List Byte) : leNat (b :: bs) = b.toNat + 256 * leNat bs := rfl

theorem leNat_leBytes (k n : Nat) : leNat (leBytes k n) = n % 256 ^ k := by
  induction k generalizing n with
  | zero => rw [Nat.pow_zero, Nat.mod_one]; rfl
  | succ k ih =>
    rw [leBytes_succ, leNat_cons, ih, BitVec.toNat_ofNat, Nat.pow_succ' (m := 256), Nat.mod_mul]

/-- The number that bytes hold from their start. -/
@[simp] theorem leAt_leBytes_zero (k n : Nat) (ys : List Byte) : leAt (leBytes k n ++ ys) 0 k = n % 256 ^ k := by
  rw [leAt, List.drop_zero, List.take_left' (length_leBytes k n), leNat_leBytes]

@[simp] theorem drop_append_of_le {xs : List Byte} {i : Nat} (h : xs.length ≤ i) (ys : List Byte) : (xs ++ ys).drop i = ys.drop (i - xs.length) := by
  rw [List.drop_append, List.drop_of_length_le h, List.nil_append]

/-- Reading past a part reads what follows it. -/
@[simp] theorem leAt_append_of_le {xs : List Byte} {i : Nat} (h : xs.length ≤ i) (ys : List Byte) (k : Nat) : leAt (xs ++ ys) i k = leAt ys (i - xs.length) k := by
  rw [leAt, drop_append_of_le h, leAt]

@[simp] theorem leAt_cons_succ (b : Byte) (bs : List Byte) (i k : Nat) : leAt (b :: bs) (i + 1) k = leAt bs i k := rfl

theorem wordBytes_eq_leBytes (w : Word) : wordBytes w = leBytes 4 w.toNat := rfl

theorem word_toNat (w : Word) : word w.toNat = w := by rw [word, BitVec.ofNat_toNat, BitVec.setWidth_eq]

/-! ### Fields of fixed length -/

theorem padTo_of_le {k : Nat} {bs : List Byte} (h : bs.length ≤ k) : padTo k bs = bs ++ List.replicate (k - bs.length) 0#8 := by
  rw [padTo, List.take_append, List.take_of_length_le h, List.take_replicate, Nat.min_eq_left (Nat.sub_le _ _)]

theorem padTo_of_length {k : Nat} {bs : List Byte} (h : bs.length = k) : padTo k bs = bs := by
  rw [padTo_of_le h.le, h, Nat.sub_self, List.replicate_zero, List.append_nil]

@[simp] theorem length_padTo (k : Nat) (bs : List Byte) : (padTo k bs).length = k := by
  rw [padTo, List.length_take, List.length_append, List.length_replicate]
  omega

@[simp] theorem length_dataBytes (ws : List Word) : (dataBytes ws).length = 16 := length_padTo 16 _

theorem leAt_flatMap_wordBytes (ys : List Byte) : ∀ (ws : List Word) (i : Nat), i < ws.length →
    leAt (ws.flatMap wordBytes ++ ys) (4 * i) 4 = (ws.getD i 0).toNat
  | w :: ws, 0, _ => by
    rw [List.flatMap_cons, List.append_assoc, wordBytes_eq_leBytes, Nat.mul_zero, leAt_leBytes_zero, List.getD_cons_zero]
    exact Nat.mod_eq_of_lt w.isLt
  | w :: ws, i + 1, h => by
    rw [List.flatMap_cons, List.append_assoc, leAt_append_of_le (by rw [wordBytes_eq_leBytes, length_leBytes]; omega), wordBytes_eq_leBytes,
      length_leBytes, List.getD_cons_succ, Nat.mul_succ, Nat.add_sub_cancel, leAt_flatMap_wordBytes ys ws i (Nat.lt_of_succ_lt_succ h)]

theorem length_flatMap_wordBytes (ws : List Word) : (ws.flatMap wordBytes).length = 4 * ws.length := by
  induction ws with
  | nil => rfl
  | cons w ws ih => rw [List.flatMap_cons, List.length_append, ih, wordBytes_eq_leBytes, length_leBytes, List.length_cons]; omega

/-- The words of DATA read back, where DATA begins at byte 12. -/
theorem dataWords_of_drop {bs ys : List Byte} {ws : List Word} (h : bs.drop 12 = dataBytes ws ++ ys) (h4 : ws.length ≤ 4) :
    dataWords bs ws.length = ws := by
  have hread (i : Nat) (hi : i < ws.length) : leAt bs (12 + 4 * i) 4 = (ws.getD i 0).toNat := by
    rw [leAt, ← List.drop_drop, h, ← leAt, dataBytes, List.take_of_length_le h4, padTo_of_le (by rw [length_flatMap_wordBytes]; omega),
      List.append_assoc, leAt_flatMap_wordBytes _ _ _ hi]
  refine List.ext_getElem ?_ fun i hi hi' => ?_
  · rw [dataWords, List.length_map, List.length_range, Nat.min_eq_left h4]
  · simp only [dataWords, List.getElem_map, List.getElem_range]
    rw [hread i hi', word_toNat, List.getD_eq_getElem _ _ hi']

/-! ### Payloads -/

theorem length_payloadBytes_le (fromH : Bool) (p : Payload) : (payloadBytes fromH p).length ≤ 24 := by
  cases p with
  | timeMark => cases fromH <;> simp [payloadBytes]
  | _ => simp [payloadBytes]

/-- A frame's bytes 0–27 before the fill. -/
def frameStart (fromH : Bool) (f : Frame) : List Byte :=
  leBytes 1 (typeCode f.pay) ++ leBytes 1 (bit (!fromH) + 2 * bit (typeSeqd (typeCode f.pay))) ++ leBytes 2 f.seq ++ payloadBytes fromH f.pay

theorem toNat_mod_of_stamp (v : Stamp) : v.toNat % 18446744073709551616 = v.toNat := Nat.mod_eq_of_lt v.isLt
theorem toNat_mod_of_word (v : Word) : v.toNat % 4294967296 = v.toNat := Nat.mod_eq_of_lt v.isLt

/-- The words of a write read back under the count that stands before them. -/
theorem dataWords_of_count {bs ys : List Byte} {ws : List Word} (h4 : ws.length ≤ 4) (h : bs.drop 12 = dataBytes ws ++ ys) :
    dataWords bs (ws.length % 256) = ws := by
  rw [Nat.mod_eq_of_lt (by omega), dataWords_of_drop h h4]

/-- A frame's payload, whatever stands behind it, reads back. -/
theorem readPayload_frameStart {fromH : Bool} {f : Frame} (hc : carried fromH f.pay = true) (rest : List Byte) :
    readPayload (frameStart fromH f ++ rest) = f.pay := by
  obtain ⟨seq, p⟩ := f
  cases p with
  | readReq addr tag count agent =>
    simp only [carried, Bool.and_eq_true, decide_eq_true_eq, Nat.reducePow] at hc
    simp [frameStart, payloadBytes, typeCode, readPayload, Nat.mod_eq_of_lt, hc]
  | readRsp addr tag status data =>
    simp only [carried, Bool.and_eq_true, decide_eq_true_eq, Nat.reducePow, beq_iff_eq] at hc
    simp [frameStart, payloadBytes, typeCode, readPayload, Nat.mod_eq_of_lt, hc]
    have hdata (bs : List Byte) (h : bs.drop 12 = dataBytes data ++ rest) : dataWords bs 4 = data := hc.2 ▸ dataWords_of_drop h hc.2.le
    exact hdata _ (by simp)
  | postedWr addr data =>
    simp only [carried, Bool.and_eq_true, decide_eq_true_eq, Nat.reducePow] at hc
    simp [frameStart, payloadBytes, typeCode, readPayload, Nat.mod_eq_of_lt, hc]
    exact dataWords_of_count hc.2 (ys := rest) (by simp)
  | stagedWr addr data =>
    simp only [carried, Bool.and_eq_true, decide_eq_true_eq, Nat.reducePow] at hc
    simp [frameStart, payloadBytes, typeCode, readPayload, Nat.mod_eq_of_lt, hc]
    exact dataWords_of_count hc.2 (ys := rest) (by simp)
  | event e =>
    simp only [carried, Bool.and_eq_true, decide_eq_true_eq] at hc
    simp [frameStart, payloadBytes, typeCode, readPayload, Nat.mod_eq_of_lt, hc, toNat_mod_of_stamp, toNat_mod_of_word, word_toNat]
  | timeMark stamp sec frac trigger mark =>
    cases fromH with
    | true =>
      simp only [carried, Bool.and_eq_true, decide_eq_true_eq, Nat.reducePow, beq_iff_eq, if_true] at hc
      simp [frameStart, payloadBytes, typeCode, readPayload, Nat.mod_eq_of_lt, hc, bit]
    | false =>
      simp only [carried, Bool.and_eq_true, decide_eq_true_eq, beq_iff_eq, Bool.false_eq_true, if_false] at hc
      simp [frameStart, payloadBytes, typeCode, readPayload, Nat.mod_eq_of_lt, hc, bit, toNat_mod_of_stamp]
  | bulk offset target length xfer data =>
    simp only [carried, Bool.and_eq_true, decide_eq_true_eq, Nat.reducePow, beq_iff_eq] at hc
    simp [frameStart, payloadBytes, typeCode, readPayload, Nat.mod_eq_of_lt, hc, padTo_of_length]
  | selvFrag req frag flags length data =>
    simp only [carried, Bool.and_eq_true, decide_eq_true_eq, beq_iff_eq] at hc
    simp [frameStart, payloadBytes, typeCode, readPayload, Nat.mod_eq_of_lt, hc, padTo_of_length]
  | keepalive ack bits =>
    simp only [carried, Bool.and_eq_true, decide_eq_true_eq] at hc
    simp [frameStart, payloadBytes, typeCode, readPayload, Nat.mod_eq_of_lt, hc]

theorem typeCode_lt (p : Payload) : typeCode p < 10 := by cases p <;> simp [typeCode]

/-- The type, direction and number of a frame read back. -/
theorem readHeader_frameStart (fromH : Bool) (f : Frame) (rest : List Byte) :
    leAt (frameStart fromH f ++ rest) 0 1 = typeCode f.pay ∧
      leAt (frameStart fromH f ++ rest) 1 1 = bit (!fromH) + 2 * bit (typeSeqd (typeCode f.pay)) ∧
      leAt (frameStart fromH f ++ rest) 2 2 = f.seq % 65536 := by
  have hb := bit_le (!fromH)
  have hq := bit_le (typeSeqd (typeCode f.pay))
  have ht : typeCode f.pay < 256 := (typeCode_lt f.pay).trans (by decide)
  simp [frameStart]
  omega

/-! ### Whole frames -/

theorem frameBytes_eq (fromH : Bool) (f : Frame) : frameBytes fromH f = frameHead fromH f ++ leBytes 4 (crc32 (frameHead fromH f)).toNat := rfl

theorem length_frameHead (fromH : Bool) (f : Frame) : (frameHead fromH f).length = 28 := length_padTo 28 _

theorem frameHead_eq (fromH : Bool) (f : Frame) :
    ∃ fill, frameHead fromH f = frameStart fromH f ++ fill := by
  refine ⟨_, padTo_of_le ?_⟩
  have := length_payloadBytes_le fromH f.pay
  simp only [List.length_append, length_leBytes]
  omega

theorem crcOk_frameBytes (fromH : Bool) (f : Frame) : crcOk (frameBytes fromH f) = true := by
  have hcrc := leAt_leBytes_zero 4 (crc32 (frameHead fromH f)).toNat []
  rw [List.append_nil] at hcrc
  rw [crcOk, frameBytes_eq, List.take_left' (length_frameHead fromH f), leAt_append_of_le (length_frameHead fromH f).le, length_frameHead, hcrc,
    List.length_append, length_frameHead, length_leBytes]
  exact beq_iff_eq.2 (toNat_mod_of_word _).symm

/-- The table gives the type to the direction (Table 2-3), when the payload is one that the direction carries. -/
theorem typeAllowed_of_carried {fromH : Bool} {p : Payload} (hc : carried fromH p = true) : typeAllowed (typeCode p) (!fromH) = true := by
  cases fromH <;> cases p <;> simp_all [carried, typeAllowed, typeCode]

theorem intactFrame_frameBytes {fromH : Bool} {f : Frame} (hc : carried fromH f.pay = true) : intactFrame (frameBytes fromH f) = true := by
  obtain ⟨fill, hfill⟩ := frameHead_eq fromH f
  obtain ⟨ht, hb, -⟩ := readHeader_frameStart fromH f (fill ++ leBytes 4 (crc32 (frameHead fromH f)).toNat)
  rw [← List.append_assoc, ← hfill, ← frameBytes_eq] at ht hb
  have hmod : typeCode f.pay % 16 = typeCode f.pay := Nat.mod_eq_of_lt ((typeCode_lt f.pay).trans (by decide))
  rw [intactFrame]
  have hdir : ∀ d q : Bool, (bit d + 2 * bit q).testBit 0 = d ∧ (bit d + 2 * bit q).testBit 1 = q := by decide
  simp only [ht, hb, hmod, crcOk_frameBytes, hdir, typeAllowed_of_carried hc, Bool.true_and, beq_self_eq_true]

theorem readFrame_frameBytes {fromH : Bool} {f : Frame} (hs : f.seq < 65536) (hc : carried fromH f.pay = true) :
    readFrame (frameBytes fromH f) = some f := by
  obtain ⟨fill, hfill⟩ := frameHead_eq fromH f
  obtain ⟨-, -, hseq⟩ := readHeader_frameStart fromH f (fill ++ leBytes 4 (crc32 (frameHead fromH f)).toNat)
  have hpay := readPayload_frameStart hc (fill ++ leBytes 4 (crc32 (frameHead fromH f)).toNat)
  rw [← List.append_assoc, ← hfill, ← frameBytes_eq] at hseq hpay
  rw [readFrame, if_pos (intactFrame_frameBytes hc), hseq, hpay, Nat.mod_eq_of_lt hs]

/-- Settles O10, field by field of the frame. -/
theorem shuttleFramesReadBack : Obligations.ShuttleFramesReadBack := by
  refine fun fromH f hs hc => ⟨⟨?_, intactFrame_frameBytes hc⟩, readFrame_frameBytes hs hc⟩
  rw [frameBytes_eq, List.length_append, length_frameHead, length_leBytes]

end Sys2Proof.Machine
end

