-- ==== Sys2Proof/Proofs/Seals.lean ====
section
/-! SUPPORT. AES-256-GCM undoes itself: its stream is as long as what it covers, and adding it twice gives back the plain text. -/

open Sys2Proof Sys2Proof.Machine

namespace Sys2Proof.Machine

set_option Elab.async false

/-! ### Adding bytes -/

theorem length_xorBytes (a b : List Byte) : (xorBytes a b).length = min a.length b.length := List.length_zipWith

theorem xorBytes_xorBytes {a b : List Byte} (h : a.length ≤ b.length) : xorBytes (xorBytes a b) b = a := by
  induction a generalizing b with
  | nil => rfl
  | cons x xs ih =>
    cases b with
    | nil => simp at h
    | cons y ys =>
      have hx : x ^^^ y ^^^ y = x := by rw [BitVec.xor_assoc, BitVec.xor_self, BitVec.xor_zero]
      exact congr_arg₂ List.cons hx (ih (Nat.le_of_succ_le_succ h))

theorem xorBytes_append {a b c d : List Byte} (h : a.length = b.length) : xorBytes (a ++ c) (b ++ d) = xorBytes a b ++ xorBytes c d :=
  List.zipWith_append h

/-- Only as much is added as there is to add to. -/
theorem xorBytes_take (a b : List Byte) : xorBytes a (b.take a.length) = xorBytes a b := by
  induction a generalizing b with
  | nil => rfl
  | cons x xs ih =>
    cases b with
    | nil => rfl
    | cons y ys => exact congr_arg (List.cons _) (ih ys)

theorem xorBytes_append_right {a b : List Byte} (d : List Byte) (h : a.length ≤ b.length) : xorBytes a (b ++ d) = xorBytes a b := by
  rw [← xorBytes_take, List.take_append_of_le_length h, xorBytes_take]

theorem take_xorBytes_append (a c b : List Byte) : (xorBytes (a ++ c) b).take a.length = xorBytes a b := by
  rw [xorBytes, List.take_zipWith, List.take_left]
  exact xorBytes_take a b

/-! ### Round keys -/

theorem length_aesExpand : ∀ (n i : Nat) (rc : Byte) (w : List (List Byte)), (aesExpand n i rc w).length = n + w.length
  | 0, _, _, _ => (Nat.zero_add _).symm
  | n + 1, i, rc, w => by
    rw [aesExpand]
    split <;> rw [length_aesExpand n, List.length_cons] <;> omega

/-- Words of the key schedule have four bytes. -/
theorem length_of_mem_aesExpand : ∀ (n i : Nat) (rc : Byte) (w : List (List Byte)), 8 ≤ w.length → (∀ x ∈ w, x.length = 4) →
    ∀ x ∈ aesExpand n i rc w, x.length = 4
  | 0, _, _, _, _, hw => hw
  | n + 1, i, rc, w, h8, hw => by
    have hold : (w.getD 7 []).length = 4 := hw _ (by rw [List.getD_eq_getElem _ _ (by omega)]; exact List.getElem_mem _)
    have ht : (w.headD []).length = 4 := by
      cases w with
      | nil => simp at h8
      | cons y ys => exact hw _ List.mem_cons_self
    have hcons (y : List Byte) (hy : y.length = 4) : ∀ x ∈ y :: w, x.length = 4 := List.forall_mem_cons.2 ⟨hy, hw⟩
    have h9 (y : List Byte) : 8 ≤ (y :: w).length := Nat.le_succ_of_le h8
    rw [aesExpand]
    split
    · refine length_of_mem_aesExpand n _ _ _ (h9 _) (hcons _ ?_)
      simp only [length_xorBytes, List.length_map, List.length_append, List.length_drop, List.length_take, hold, ht]
      rfl
    · refine length_of_mem_aesExpand n _ _ _ (h9 _) (hcons _ ?_)
      rw [length_xorBytes, hold]
      split
      · rw [List.length_map, ht, Nat.min_self]
      · rw [ht, Nat.min_self]

/-- The last round key of a 32-byte key is a block. -/
theorem length_aesKeys_last {key : List Byte} (h : key.length = 32) : ((aesKeys key).getD 14 []).length = 16 := by
  have hw := length_of_mem_aesExpand 52 8 1 (((List.range 8).map fun i => (key.drop (4 * i)).take 4).reverse) (by simp) (by
    simp only [List.mem_reverse, List.mem_map, List.mem_range]
    rintro x ⟨i, hi, rfl⟩
    simp only [List.length_take, List.length_drop, h]
    omega)
  have hlen := length_aesExpand 52 8 1 (((List.range 8).map fun i => (key.drop (4 * i)).take 4).reverse)
  have hmem (w : List (List Byte)) (h : ∀ x ∈ w, x.length = 4) : w.flatten.length = w.length * 4 := by
    rw [List.length_flatten, List.map_congr_left h, List.map_const', List.sum_replicate, smul_eq_mul]
  rw [aesKeys, List.getD_eq_getElem _ _ (by simp), List.getElem_map, hmem, List.length_take, List.length_drop, List.length_reverse, hlen]
  · simp
  · exact fun x hx => hw x (List.mem_reverse.1 (List.mem_of_mem_drop (List.mem_of_mem_take hx)))

/-- A block of AES under round keys whose last is a block is a block. -/
theorem length_aesBlock {ks : List (List Byte)} (h : (ks.getD 14 []).length = 16) (b : List Byte) : (aesBlock ks b).length = 16 := by
  rw [aesBlock, length_xorBytes, h, shiftRows, List.length_map, List.length_range]
  rfl

/-! ### The stream -/

/-- The counter-mode stream of `n` blocks from block `i`. -/
def keyStream (ks : List (List Byte)) (iv : List Byte) (c : Nat) : Nat → Nat → List Byte
  | 0, _ => []
  | n + 1, i => aesBlock ks (iv ++ beBytes 4 (c + i)) ++ keyStream ks iv c n (i + 1)

theorem length_keyStream {ks : List (List Byte)} (h : (ks.getD 14 []).length = 16) (iv : List Byte) (c : Nat) :
    ∀ n i, (keyStream ks iv c n i).length = 16 * n
  | 0, _ => rfl
  | n + 1, i => by rw [keyStream, List.length_append, length_aesBlock h, length_keyStream h]; omega

/-- A stream covers its string: what counter mode adds to a string of at most `n` blocks of fuel. -/
theorem flatMap_gcmBlocks {ks : List (List Byte)} (h : (ks.getD 14 []).length = 16) (iv : List Byte) (c : Nat) : ∀ (n i : Nat) (bs : List Byte),
    bs.length ≤ n → (((gcmBlocks n bs).zipIdx i).flatMap fun p => xorBytes p.1 (aesBlock ks (iv ++ beBytes 4 (c + p.2)))).take bs.length =
      xorBytes bs (keyStream ks iv c n i)
  | 0, i, bs, hn => by rw [List.length_eq_zero_iff.1 (Nat.le_zero.1 hn)]; rfl
  | n + 1, i, [], _ => rfl
  | n + 1, i, b :: bs, hn => by
    have hrest : ((b :: bs).drop 16).length ≤ n := by
      rw [List.length_drop, List.length_cons]
      rw [List.length_cons] at hn
      omega
    have hblock := length_aesBlock h (iv ++ beBytes 4 (c + i))
    have ih := flatMap_gcmBlocks h iv c n (i + 1) _ hrest
    rw [gcmBlocks, if_neg (by simp), List.zipIdx_cons, List.flatMap_cons, keyStream]
    generalize aesBlock ks (iv ++ beBytes 4 (c + i)) = k at hblock ⊢
    generalize b :: bs = m at ih ⊢
    by_cases hle : m.length ≤ 16
    · rw [List.take_of_length_le hle, List.take_append_of_le_length, take_xorBytes_append, xorBytes_append_right _ (by omega)]
      rw [length_xorBytes, List.length_append, List.length_replicate, hblock]
      omega
    · have hpad : 16 - m.length = 0 := by omega
      have htake : (m.take 16).length = k.length := by rw [List.length_take, hblock]; omega
      conv_rhs => rw [← List.take_append_drop 16 m, xorBytes_append htake, ← ih]
      rw [hpad, List.replicate_zero, List.append_nil, List.take_append, List.take_of_length_le, List.length_drop, length_xorBytes, htake, hblock]
      · rfl
      · rw [length_xorBytes, htake, hblock]
        omega

/-- Counter mode adds its stream. -/
theorem gcmCtr_eq {ks : List (List Byte)} (h : (ks.getD 14 []).length = 16) (iv : List Byte) (c : Nat) (bs : List Byte) :
    gcmCtr ks iv c bs = xorBytes bs (keyStream ks iv c bs.length 0) := flatMap_gcmBlocks h iv c bs.length 0 bs le_rfl

theorem length_gcmCtr {ks : List (List Byte)} (h : (ks.getD 14 []).length = 16) (iv : List Byte) (c : Nat) (bs : List Byte) :
    (gcmCtr ks iv c bs).length = bs.length := by
  rw [gcmCtr_eq h, length_xorBytes, length_keyStream h]
  omega

theorem gcmCtr_gcmCtr {ks : List (List Byte)} (h : (ks.getD 14 []).length = 16) (iv : List Byte) (c : Nat) (bs : List Byte) :
    gcmCtr ks iv c (gcmCtr ks iv c bs) = bs := by
  rw [gcmCtr_eq h _ _ (gcmCtr ks iv c bs), length_gcmCtr h, gcmCtr_eq h, xorBytes_xorBytes]
  rw [length_keyStream h]
  omega

theorem length_beBytes (k n : Nat) : (beBytes k n).length = k := by simp [beBytes]

theorem length_gcmTag {ks : List (List Byte)} (h : (ks.getD 14 []).length = 16) (iv aad ct : List Byte) : (gcmTag ks iv aad ct).length = 16 := by
  rw [gcmTag, length_xorBytes, length_aesBlock h, length_beBytes]
  rfl

/-- What is sealed opens under its own tag, and under no other. -/
theorem gcmOpen_gcmSeal {key : List Byte} (h : key.length = 32) (iv aad pt tag : List Byte) :
    gcmOpen key iv aad (gcmSeal key iv aad pt).1 tag = if tag = (gcmSeal key iv aad pt).2 then some pt else none := by
  simp only [gcmOpen, gcmSeal, gcmCtr_gcmCtr (length_aesKeys_last h), beq_iff_eq, eq_comm (a := tag)]

/-! ### Segments -/

theorem sealBytes_of_key {key : List Byte} (h : key.length = 32) (nonce bs : List Byte) :
    sealBytes key nonce bs = bs.take 4 ++ (gcmSeal key nonce (bs.take 4) (bs.drop 4)).1 ++ (gcmSeal key nonce (bs.take 4) (bs.drop 4)).2 := by
  rw [sealBytes, if_neg (by rw [List.isEmpty_iff_length_eq_zero, h]; decide)]

/-- A segment opens by its parts: 4 authenticated bytes, 400 bytes of ciphertext, the tag. -/
theorem openSeg_append {s : State} {l g : Nat} (k lc : Nat) {aad ct tag : List Byte} (hkey : (keyOf s g (l % 2)).length = 32)
    (haad : aad.length = 4) (hct : ct.length = 400) (htag : tag.length = 16) :
    openSeg s l g k lc (aad ++ ct ++ tag) =
      (gcmOpen (keyOf s g (l % 2)) (ringNonce g (l % 2) true k) aad ct tag).map fun pt => uplinkOf g lc (aad ++ pt) := by
  have hhead : (aad ++ ct).length = 404 := by rw [List.length_append, haad, hct]
  rw [openSeg, if_neg (by rw [List.isEmpty_iff_length_eq_zero, hkey]; decide), ← hhead, List.take_left, List.drop_left, ← htag, List.take_length,
    List.append_assoc, ← haad, List.take_left, List.drop_left]

/-- Settles O12: opening a segment opens the three parts that its seal put one behind the other. -/
theorem sealedSegmentsOpen : Obligations.SealedSegmentsOpen := by
  intro s l g k lc bs hbs hkey
  have haad : (bs.take 4).length = 4 := by rw [List.length_take, hbs]; rfl
  have hct : (gcmSeal (keyOf s g (l % 2)) (ringNonce g (l % 2) true k) (bs.take 4) (bs.drop 4)).1.length = 400 :=
    (length_gcmCtr (length_aesKeys_last hkey) _ _ _).trans (by rw [List.length_drop, hbs])
  have htag : (gcmSeal (keyOf s g (l % 2)) (ringNonce g (l % 2) true k) (bs.take 4) (bs.drop 4)).2.length = 16 :=
    length_gcmTag (length_aesKeys_last hkey) _ _ _
  have hhead : (bs.take 4 ++ (gcmSeal (keyOf s g (l % 2)) (ringNonce g (l % 2) true k) (bs.take 4) (bs.drop 4)).1).length = 404 := by
    rw [List.length_append, haad, hct]
  rw [sealBytes_of_key hkey, List.drop_left' hhead, List.take_left' hhead, openSeg_append k lc hkey haad hct htag, gcmOpen_gcmSeal hkey, if_pos rfl]
  refine ⟨by rw [Option.map_some, List.take_append_drop], fun tag htag hne => ?_⟩
  rw [openSeg_append k lc hkey haad hct htag, gcmOpen_gcmSeal hkey, if_neg hne, Option.map_none]

end Sys2Proof.Machine
end

section
/-! SUPPORT. The frame of an operation: the register pages and the parts of the state outside of which it changes nothing. -/

namespace Sys2Proof.Machine

set_option Elab.async false

/-- `t` is `s` but for registers of the listed pages (0x100 stands for all CELL pages) and the listed parts, and keeps the register space's
one form. -/
structure Within (pages : List Nat) (parts : List Part) (s t : State) : Prop where
  raw : ∀ a, min (pageOf a) 0x100 ∉ pages → t.raw a = s.raw a
  same : ∀ x, x ∉ parts → x.same s t
  wf : Regs.wf s.regs → Regs.wf t.regs

/-- The pages of the blocks with several instances. -/
abbrev loomPages : List Nat := [0x44, 0x45, 0x46, 0x47, 0x48, 0x49, 0x4A, 0x4B, 0x4C, 0x4D, 0x4E, 0x4F]
abbrev ringPages : List Nat := [0x58, 0x59, 0x5A, 0x5B, 0x5C, 0x5D, 0x5E, 0x5F]
abbrev adcPages : List Nat := [0x68, 0x69, 0x6A, 0x6B, 0x6C, 0x6D, 0x6E, 0x6F]
abbrev louvrePages : List Nat := [0x18, 0x19, 0x1A, 0x1B]

theorem Part.same_refl (x : Part) (s : State) : x.same s s := by
  cases x <;> rfl

theorem Part.same_trans {x : Part} {s t u : State} (h : x.same s t) (k : x.same t u) : x.same s u := by
  cases x <;> exact Eq.trans k h

theorem within_refl (G : List Nat) (Q : List Part) (s : State) : Within G Q s s := ⟨fun _ _ => rfl, fun x _ => x.same_refl s, id⟩

/-- A command completes with what is true of its next state and with a frame. -/
theorem doesWithin_intro {c : Instr} {s t : State} {G : List Nat} {Q : List Part} {P : State → Prop} (hexec : exec c s = .next t) (hP : P t)
    (h : Within G Q s t) : DoesWithin c s G Q P := ⟨t, hexec, hP, h.raw, h.same⟩

section
variable {G G' : List Nat} {Q Q' : List Part} {s0 s t : State}

/-- A further operation whose own frame is not wider. -/
theorem Within.step (h : Within G Q s0 s) (hG : G' ⊆ G) (hQ : Q' ⊆ Q) (k : Within G' Q' s t) : Within G Q s0 t :=
  ⟨fun a ha => (k.raw a fun hm => ha (hG hm)).trans (h.raw a ha), fun x hx => Part.same_trans (h.same x hx) (k.same x fun hm => hx (hQ hm)),
    fun hw => k.wf (h.wf hw)⟩

theorem Within.mono (h : Within G' Q' s t) (hG : G' ⊆ G) (hQ : Q' ⊆ Q) : Within G Q s t := (within_refl G Q s).step hG hQ h

/-- A frame may be proved from the state that the operation starts from. -/
theorem within_start (f : Within G Q s s → Within G Q s t) : Within G Q s t := f (within_refl G Q s)

theorem Within.get (h : Within G Q s t) {f : Fld} (hf : min (pageOf f.addr) 0x100 ∉ G) : t.get f = s.get f := by
  unfold State.get
  rw [h.raw _ hf]

theorem Within.flag (h : Within G Q s t) {f : Fld} (hf : min (pageOf f.addr) 0x100 ∉ G) : t.flag f = s.flag f := by
  unfold State.flag
  rw [h.get hf]

/-! ### The shapes of operations -/

theorem within_ite {a b : State} {p : Prop} [Decidable p] (ha : Within G Q s0 a) (hb : Within G Q s0 b) :
    Within G Q s0 (if p then a else b) := by
  split <;> assumption

/-- As `within_ite`, where the condition is needed for the frame. -/
theorem within_dite {a b : State} {p : Prop} [Decidable p] (ha : p → Within G Q s0 a) (hb : ¬ p → Within G Q s0 b) :
    Within G Q s0 (if p then a else b) := by
  split
  · exact ha ‹_›
  · exact hb ‹_›

/-- A choice whose branches lie within the frame under its condition. -/
theorem within_if {a b : State} {p : Prop} [Decidable p] (ha : p → Within G Q s0 a) (hb : ¬p → Within G Q s0 b) :
    Within G Q s0 (if p then a else b) := by
  split
  · exact ha ‹_›
  · exact hb ‹_›

theorem within_ite2 {α : Type} {a b : α × State} {p : Prop} [Decidable p] (ha : Within G Q s0 a.2) (hb : Within G Q s0 b.2) :
    Within G Q s0 (if p then a else b).2 := by
  split <;> assumption

theorem within_foldl {α : Type} {f : State → α → State} {l : List α} {i : State} (hi : Within G Q s0 i)
    (hf : ∀ t x, Within G Q s0 t → Within G Q s0 (f t x)) : Within G Q s0 (l.foldl f i) := by
  induction l generalizing i with
  | nil => exact hi
  | cons x l ih => exact ih (hf i x hi)

theorem within_foldl_mem {α : Type} {f : State → α → State} {l : List α} {i : State} (hi : Within G Q s0 i)
    (hf : ∀ t x, x ∈ l → Within G Q s0 t → Within G Q s0 (f t x)) : Within G Q s0 (l.foldl f i) :=
  List.foldlRecOn (motive := fun t => Within G Q s0 t) l f hi fun t ht x hx => hf t x hx ht

theorem le_of_mem_three {n : Nat} (h : n ∈ [0, 1, 2]) : n ≤ 2 := by
  simp only [List.mem_cons, List.not_mem_nil, or_false] at h
  omega

/-- The frame of a loop over the numbers below `n`. -/
theorem within_foldl_range {f : State → Nat → State} {n : Nat} {i : State} (hi : Within G Q s0 i)
    (hf : ∀ t k, k < n → Within G Q s0 t → Within G Q s0 (f t k)) : Within G Q s0 ((List.range n).foldl f i) :=
  within_foldl_mem hi fun t k hk => hf t k (List.mem_range.1 hk)

theorem within_foldl2 {α β : Type} {f : β × State → α → β × State} {l : List α} {i : β × State} (hi : Within G Q s0 i.2)
    (hf : ∀ t x, Within G Q s0 t.2 → Within G Q s0 (f t x).2) : Within G Q s0 (l.foldl f i).2 := by
  induction l generalizing i with
  | nil => exact hi
  | cons x l ih => exact ih (hf i x hi)

theorem within_snd {α : Type} {p : α × State} {a : α} (h : Within G Q s0 p.2) (e : p = (a, t)) : Within G Q s0 t := by
  rw [e] at h
  exact h

/-- The frame of a command is that of the operation it runs; what was sent before is no part of it. -/
theorem within_run {f : State → State} (hf : ∀ u, Within G Q u (f u)) (h : run f s = .next t) : Within G Q s t := by
  obtain rfl := Host.Outcome.next.inj h
  have silent : Within G Q s s.silent := ⟨fun _ _ => rfl, fun x _ => by cases x <;> rfl, id⟩
  exact silent.step (List.Subset.refl G) (List.Subset.refl Q) (hf _)

/-! ### Stores of registers and of parts -/

theorem within_setRaw (h : Within G Q s0 s) {a : Nat} {w : Word} (hp : min (pageOf a) 0x100 ∈ G := by simp only [pageOf, loomPages, ringPages, adcPages, louvrePages, List.cons_append, List.nil_append, List.mem_cons,
       List.not_mem_nil, or_false] <;> omega) : Within G Q s0 (s.setRaw a w) :=
  ⟨fun b hb => (raw_setRaw_ne s (fun e : b = a => hb (by rw [e]; exact hp)) w).trans (h.raw b hb), h.same, fun hw => regs_setCell (h.wf hw) a w⟩

section
variable (h : Within G Q s0 s) {f : Fld}
include h
theorem within_put {v : Nat} (hp : min (pageOf f.addr) 0x100 ∈ G := by
    simp only [pageOf, loomPages, ringPages, adcPages, louvrePages, List.cons_append, List.nil_append, List.mem_cons,
       List.not_mem_nil, or_false] <;> omega) : Within G Q s0 (s.put f v) := within_setRaw h hp
theorem within_putI {v : Int} (hp : min (pageOf f.addr) 0x100 ∈ G := by
    simp only [pageOf, loomPages, ringPages, adcPages, louvrePages, List.cons_append, List.nil_append, List.mem_cons,
       List.not_mem_nil, or_false] <;> omega) : Within G Q s0 (s.putI f v) := within_setRaw h hp
theorem within_putB {v : Bool} (hp : min (pageOf f.addr) 0x100 ∈ G := by
    simp only [pageOf, loomPages, ringPages, adcPages, louvrePages, List.cons_append, List.nil_append, List.mem_cons,
       List.not_mem_nil, or_false] <;> omega) : Within G Q s0 (s.putB f v) := within_setRaw h hp
theorem within_addSat {v : Nat} (hp : min (pageOf f.addr) 0x100 ∈ G := by
    simp only [pageOf, loomPages, ringPages, adcPages, louvrePages, List.cons_append, List.nil_append, List.mem_cons,
       List.not_mem_nil, or_false] <;> omega) : Within G Q s0 (s.addSat f v) := within_setRaw h hp
theorem within_count (hp : min (pageOf f.addr) 0x100 ∈ G := by
    simp only [pageOf, loomPages, ringPages, adcPages, louvrePages, List.cons_append, List.nil_append, List.mem_cons,
       List.not_mem_nil, or_false] <;> omega) : Within G Q s0 (s.count f) := within_setRaw h hp
theorem within_countWrap (hp : min (pageOf f.addr) 0x100 ∈ G := by
    simp only [pageOf, loomPages, ringPages, adcPages, louvrePages, List.cons_append, List.nil_append, List.mem_cons,
       List.not_mem_nil, or_false] <;> omega) : Within G Q s0 (s.countWrap f) := within_setRaw h hp
end

/-- An update of the state that stores no register: each part outside the frame stays. -/
theorem within_mk (h : Within G Q s0 s) (regs : t.regs = s.regs := by rfl)
    (same : ∀ x, x ∉ Q → x.same s t := by intro x hx; cases x <;> first | rfl | exact absurd (by decide) hx) : Within G Q s0 t :=
  ⟨fun a ha => (congrArg (fun l => (cellAt l a).getD (resetWord a)) regs).trans (h.raw a ha), fun x hx => Part.same_trans (h.same x hx) (same x hx),
    fun hw => regs ▸ h.wf hw⟩

/-! ### Pages of register arrays -/

theorem page_mem {a p : Nat} (ha : pageOf a = p) (hp : min p 0x100 ∈ G := by decide) : min (pageOf a) 0x100 ∈ G := ha ▸ hp

/-- Either register of a choice. -/
theorem page_ite {p : Prop} [Decidable p] {f g : Fld} (hf : min (pageOf f.addr) 0x100 ∈ G := by
    simp only [pageOf, loomPages, ringPages, adcPages, louvrePages, List.cons_append, List.nil_append, List.mem_cons,
      List.not_mem_nil, or_false] <;> omega)
    (hg : min (pageOf g.addr) 0x100 ∈ G := by
    simp only [pageOf, loomPages, ringPages, adcPages, louvrePages, List.cons_append, List.nil_append, List.mem_cons,
      List.not_mem_nil, or_false] <;> omega) : min (pageOf (if p then f else g).addr) 0x100 ∈ G := by
  split
  · exact hf
  · exact hg

/-- A register of instance `k` of a block with `n` instances from page `b` on. -/
theorem page_mem_block {a k : Nat} (b n : Nat) (ha : pageOf a = b + k) (hk : k < n)
    (hG : (List.range n).map (fun i => min (b + i) 0x100) ⊆ G := by decide) : min (pageOf a) 0x100 ∈ G := by
  rw [ha]
  exact hG (List.mem_map.2 ⟨k, List.mem_range.2 hk, rfl⟩)

/-- A register of a CELL page. -/
theorem page_mem_cell {a : Nat} (ha : 0x100 ≤ pageOf a) (hG : 0x100 ∈ G := by decide) : min (pageOf a) 0x100 ∈ G := by
  rwa [Nat.min_eq_right ha]

end

end Sys2Proof.Machine
end

section
/-! SUPPORT. The frames of events, captures and writes under access codes, on either die (R86, R87, R98, R99, R102, R104, R108). -/

namespace Sys2Proof.Machine

set_option Elab.async false

section
variable {G : List Nat} {Q : List Part} {s0 s : State} (k : Within G Q s0 s)
include k

theorem within_emit {o : Out} : Within G Q s0 (emit o s) := within_mk k

theorem within_freeWord : Within G Q s0 (freeWord s).2 := within_mk k

theorem within_stampWcf {x : Stamp} : Within G Q s0 (stampWcf x s).2 := by
  unfold stampWcf
  split
  · exact k
  · exact within_freeWord k

/-! ### Inputs of the interrupt controller -/

theorem within_sendMsix {n : Nat} (hG : [0x09] ⊆ G := by decide) : Within G Q s0 (sendMsix n s) := by
  refine k.step hG (List.nil_subset Q) (within_start fun h => ?_)
  unfold sendMsix
  extract_lets v
  have hv : v < 2 ^ 6 := get_lt s (INTC_0_SRCCFG_VEC n)
  exact within_ite h (within_ite (within_put h (page_mem (p := 0x09) (by unfold pageOf; dsimp only; omega))) (within_emit h))

theorem within_announce {old : State} {n : Nat} (hG : [0x09] ⊆ G := by decide) : Within G Q s0 (announce old n s) :=
  within_ite (within_sendMsix k hG) k

theorem within_announceAll {old : State} (hG : [0x09] ⊆ G := by decide) : Within G Q s0 (announceAll old s) :=
  within_foldl k fun _ _ k => within_announce k hG

omit k in
theorem page_pendBit {n : Nat} (hn : n < 256) : pageOf (pendBit n).addr = 0x02 := by
  unfold pageOf
  dsimp only
  omega

omit k in
theorem page_count {n : Nat} (hn : n < 256) : pageOf (INTC_1_COUNT_COUNT n).addr = 0x02 := by
  unfold pageOf
  dsimp only
  omega

theorem within_edgeEvent {n : Nat} (hn : n < 256 := by omega) (hG : [0x02, 0x09] ⊆ G := by decide) : Within G Q s0 (edgeEvent n s) := by
  refine k.step hG (List.nil_subset Q) (within_start fun h => ?_)
  exact within_announce (within_count (within_put h (page_mem (page_pendBit hn))) (page_mem (page_count hn)))

theorem within_levelInput {n : Nat} {b : Bool} (hn : n < 256 := by omega) (hG : [0x02, 0x09] ⊆ G := by decide)
    (hQ : [.intc] ⊆ Q := by decide) : Within G Q s0 (levelInput n b s) := by
  refine k.step hG hQ (within_start fun h => ?_)
  unfold levelInput
  extract_lets _ up _ down
  have hup : Within _ _ s up := within_count (within_mk h) (page_mem (page_count hn))
  have hdown : Within _ _ s down := within_mk h
  exact within_ite h (within_ite (within_ite hup (within_announce (within_put hup (page_mem (page_pendBit hn)))))
    (within_ite hdown (within_put hdown (page_mem (page_pendBit hn)))))

/-! ### Events of the F-die -/

theorem within_discard {e : Event} (hG : [0x51] ⊆ G := by decide) (hQ : [.link] ⊆ Q := by decide) : Within G Q s0 (discard e s) := by
  refine k.step hG hQ (within_start fun h => ?_)
  unfold discard
  extract_lets lose s1
  have hlose (e : Event) {t : State} (ht : Within [0x51] [.link] s t) : Within [0x51] [.link] s (lose e t) := within_count (within_mk ht)
  have h1 : Within _ _ s s1 := within_put (hlose e h)
  exact within_ite (hlose _ (within_mk h1)) h1

theorem within_fSend {e : Event} (hG : [0x51] ⊆ G := by decide) (hQ : [.link] ⊆ Q := by decide) : Within G Q s0 (fSend e s) := by
  refine k.step hG hQ (within_start fun h => ?_)
  exact within_ite (within_mk h) (within_ite (within_mk h) (within_ite (within_count (within_mk h)) (within_discard h)))

theorem within_raiseF {source code data : Nat} (hG : [0x51] ⊆ G := by decide) (hQ : [.link] ⊆ Q := by decide) :
    Within G Q s0 (raiseF source code data s) := within_fSend k hG hQ

/-! ### Flags of a page -/

theorem within_relevelBasic {page : Nat} (hG : [0x02, 0x09, 0x51] ⊆ G := by decide) (hQ : [.link, .intc] ⊆ Q := by decide) :
    Within G Q s0 (relevelBasic page s) := by
  refine k.step hG hQ (within_start fun h => ?_)
  exact within_ite h (within_ite (within_ite h (within_raiseF (within_mk h))) (within_levelInput h (pageSource_lt page)))

theorem within_noteEvt {page mask : Nat} (hQ : [.link, .intc] ⊆ Q := by decide) : Within G Q s0 (noteEvt page mask s) :=
  k.step (List.nil_subset G) hQ (within_start fun h => within_ite (within_mk h) h)

omit k in
theorem page_header {page o : Nat} (hp : min page 0x100 ∈ G) (ho : o < 0x1000 := by decide) : min (pageOf (page * 0x1000 + o)) 0x100 ∈ G :=
  page_mem (pageOf_header page ho) hp

theorem within_setEvt {page mask : Nat} (hp : min page 0x100 ∈ G := by
    simp only [pageOf, loomPages, ringPages, adcPages, louvrePages, List.cons_append, List.nil_append, List.mem_cons,
      List.not_mem_nil, or_false] <;> omega) (hG : [0x02, 0x09, 0x51] ⊆ G := by decide)
    (hQ : [.link, .intc] ⊆ Q := by decide) : Within G Q s0 (setEvt page mask s) :=
  within_relevelBasic (within_noteEvt (within_setRaw k (page_header hp)) hQ) hG hQ

theorem within_putEvt {f : Fld} {v page mask : Nat} (hf : min (pageOf f.addr) 0x100 ∈ G := by decide) (hp : min page 0x100 ∈ G := by
    simp only [pageOf, loomPages, ringPages, adcPages, louvrePages, List.cons_append, List.nil_append, List.mem_cons,
      List.not_mem_nil, or_false] <;> omega)
    (hG : [0x02, 0x09, 0x51] ⊆ G := by decide) (hQ : [.link, .intc] ⊆ Q := by decide) : Within G Q s0 (putEvt f v page mask s) :=
  within_ite k (within_setEvt (within_put k hf) hp hG hQ)

/-! ### Journal entries and captures -/

theorem within_journal {sw : Word} {wcf source flags code data : Nat} (hG : [0x02, 0x04, 0x09, 0x51] ⊆ G := by decide)
    (hQ : [.link, .intc, .jr] ⊆ Q := by decide) : Within G Q s0 (journal sw wcf source flags code data s) := by
  refine k.step hG hQ (within_start fun h => ?_)
  unfold journal
  extract_lets q full old es s1 s2 s3
  have h2 : Within _ _ s s2 := within_put (within_put (within_mk h))
  exact within_setEvt (within_put (within_ite (within_count h2) h2))

theorem within_raiseH {source code data : Nat} (hn : source < 256 := by omega) (hG : [0x02, 0x04, 0x09, 0x51] ⊆ G := by decide)
    (hQ : [.link, .intc, .jr] ⊆ Q := by decide) : Within G Q s0 (raiseH source code data s) := by
  refine k.step hG hQ (within_start fun h => ?_)
  exact within_ite (within_edgeEvent (within_journal h) hn) (within_journal h)

theorem within_deliverEvent {e : Event} (hn : e.source < 256) (hG : [0x02, 0x04, 0x09, 0x51] ⊆ G := by decide)
    (hQ : [.link, .intc, .jr] ⊆ Q := by decide) : Within G Q s0 (deliverEvent e s) := by
  refine k.step hG hQ (within_start fun h => ?_)
  exact within_ite (within_levelInput h hn) (within_ite (within_levelInput h hn)
    (within_ite (within_edgeEvent (within_journal (within_stampWcf h)) hn) (within_journal (within_stampWcf h))))

theorem within_capture {a cause : Nat} (hp : min (pageOf a) 0x100 ∈ G := by
    simp only [pageOf, loomPages, ringPages, adcPages, louvrePages, List.cons_append, List.nil_append, List.mem_cons,
      List.not_mem_nil, or_false] <;> omega) (hG : [0x02, 0x04, 0x09, 0x51] ⊆ G := by decide)
    (hQ : [.link, .intc, .jr] ⊆ Q := by decide) : Within G Q s0 (capture a cause s) := by
  have h1 := within_put (v := 1) (within_count (within_put (v := cause) (within_put (f := pgerrOffset (pageOf a)) (v := offOf a) k (page_header hp))
    (f := pgerrCause (pageOf a)) (page_header hp)) (f := pgerrCount (pageOf a)) (page_header hp)) (f := pgerrValid (pageOf a)) (page_header hp)
  have hG51 : [0x51] ⊆ G := fun p hm => hG (by simp_all)
  have hlink : [Part.link] ⊆ Q := fun x hm => hQ (by simp_all)
  exact within_ite (within_raiseF h1 hG51 hlink) (within_raiseH h1 (by decide) hG hQ)

/-! ### Writes under the access codes -/

theorem within_writeHeader {a : Nat} {w : Word} (hp : min (pageOf a) 0x100 ∈ G := by
    simp only [pageOf, loomPages, ringPages, adcPages, louvrePages, List.cons_append, List.nil_append, List.mem_cons,
      List.not_mem_nil, or_false] <;> omega) (hG : [0x02, 0x04, 0x09, 0x51] ⊆ G := by decide)
    (hQ : [.link, .intc, .jr] ⊆ Q := by decide) : Within G Q s0 (writeHeader a w s) := by
  have hGevt : [0x02, 0x09, 0x51] ⊆ G := fun p hm => hG (by simp at hm ⊢; tauto)
  have hQevt : [Part.link, .intc] ⊆ Q := fun x hm => hQ (by simp at hm ⊢; tauto)
  have hset {o : Nat} {v : Word} {t : State} (ht : Within G Q s0 t) (ho : o < 0x1000 := by decide) :
      Within G Q s0 (t.setRaw (pageOf a * 0x1000 + o) v) := within_setRaw ht (page_header hp ho)
  have hcap {c : Nat} {t : State} (ht : Within G Q s0 t) : Within G Q s0 (capture a c t) := within_capture ht hp hG hQ
  unfold writeHeader
  extract_lets p o ev clear old m v flags locks
  have hclear : Within G Q s0 clear := within_ite (hset k) k
  have hflags : Within G Q s0 flags := within_relevelBasic (hset k) hGevt hQevt
  have hlocks : Within G Q s0 locks := within_setRaw k hp
  exact within_ite (within_ite hclear (hcap hclear)) (within_ite (within_ite k (within_ite hflags (hcap hflags)))
    (within_ite (within_ite k (within_relevelBasic (within_setRaw k hp) hGevt hQevt))
      (within_ite (within_ite k (within_ite hlocks (hcap hlocks))) (within_ite (hcap k) (within_ite k (hcap k))))))

theorem within_writeReg {a : Nat} {w : Word} (hp : min (pageOf a) 0x100 ∈ G := by
    simp only [pageOf, loomPages, ringPages, adcPages, louvrePages, List.cons_append, List.nil_append, List.mem_cons,
      List.not_mem_nil, or_false] <;> omega) (hG : [0x02, 0x04, 0x09, 0x51] ⊆ G := by decide)
    (hQ : [.link, .intc, .jr] ⊆ Q := by decide) : Within G Q s0 (writeReg a w s) := by
  have hcap {c : Nat} {t : State} (ht : Within G Q s0 t) : Within G Q s0 (capture a c t) := within_capture ht hp hG hQ
  unfold writeReg
  extract_lets p
  refine within_ite k (within_ite (within_writeHeader k hp hG hQ) ?_)
  split
  · exact within_ite k (hcap k)
  · extract_lets lk m s1 s2
    have h1 : Within G Q s0 s1 := within_setRaw k hp
    have h2 : Within G Q s0 s2 := within_ite h1 (hcap h1)
    exact within_ite (within_ite k (hcap k)) (within_ite (hcap k) (within_ite (hcap k) (within_ite h2 (hcap h2))))

theorem within_unlessLocked {a : Nat} {f : State → State} (hf : ∀ t, Within G Q s0 t → Within G Q s0 (f t))
    (hp : min (pageOf a) 0x100 ∈ G := by
    simp only [pageOf, loomPages, ringPages, adcPages, louvrePages, List.cons_append, List.nil_append, List.mem_cons,
      List.not_mem_nil, or_false] <;> omega) (hG : [0x02, 0x04, 0x09, 0x51] ⊆ G := by decide) (hQ : [.link, .intc, .jr] ⊆ Q := by decide) :
    Within G Q s0 (unlessLocked a f s) := by
  unfold unlessLocked
  split
  · exact within_ite (within_capture k hp hG hQ) (hf s k)
  · exact hf s k

theorem within_when {c : Bool} {f : State → State} (hf : ∀ t, Within G Q s0 t → Within G Q s0 (f t)) : Within G Q s0 (when c f s) :=
  within_ite (hf s k) k

end

end Sys2Proof.Machine
end

section
/-! SUPPORT. The pages of registers that the model chooses by a number. -/

namespace Sys2Proof.Machine

set_option Elab.async false

theorem addr_subBit (f : Fld) (i : Nat) : (subBit f i).addr = f.addr := rfl

theorem page_sensExcl {k : Nat} (hk : k < 15) : (sensExcl k).addr / 0x1000 = 0x7C ∨ (sensExcl k).addr / 0x1000 = 0x1D := by
  unfold sensExcl
  split <;> dsimp only <;> omega

theorem page_sensCnt {k : Nat} (hk : k < 15) : (sensCnt k).addr / 0x1000 = 0x7C ∨ (sensCnt k).addr / 0x1000 = 0x1D := by
  unfold sensCnt
  split <;> dsimp only <;> omega

theorem page_sensT {k : Nat} (hk : k < 15) : (sensT k).addr / 0x1000 = 0x7C ∨ (sensT k).addr / 0x1000 = 0x1D := by
  unfold sensT
  split <;> dsimp only <;> omega

theorem page_unkFld (d : Nat) : (unkFld d).addr / 0x1000 = 0x7C ∨ (unkFld d).addr / 0x1000 = 0x1D := by
  unfold unkFld
  split_ifs <;> decide

theorem page_levelFld (d : Nat) : (levelFld d).addr / 0x1000 = 0x7C ∨ (levelFld d).addr / 0x1000 = 0x1D := by
  unfold levelFld
  split_ifs <;> decide

theorem page_inputFld (i : Nat) : pageOf (inputFld i).addr = 0x14 := by
  have h : (inputFld i).addr = 0x14040 := rfl
  rw [h, pageOf]

theorem page_countFld (ph : Nat) : (countFld ph).addr / 0x1000 = 0x60 := by
  unfold countFld
  split_ifs <;> decide

/-! ### Cells of a phase -/

theorem div_of_mem_phaseCells {ph g : Nat} (h : g ∈ phaseCells ph) : g / 64 = ph := by
  obtain ⟨i, hi, rfl⟩ := List.mem_map.1 h
  have := List.mem_range.1 hi
  omega

/-- The lanes that own the cells of the four phases are the eight of the device. -/
theorem ownerLane_lt (s : State) {g : Nat} (hg : g < 256) : ownerLane s g < 8 := by
  unfold ownerLane
  have h : s.get (CELL_STATE_DIR g) < 2 ^ 1 := get_lt s (CELL_STATE_DIR g)
  omega

/-! ### Engines of a cluster -/

/-- The engines that a vote leaves out are among those that voted. -/
theorem mem_of_mem_minority {α : Type} [BEq α] {l : List Nat} {f : Nat → α} {v : α} {out : List Nat}
    (h : majority (l.map fun e => (e, f e)) = some (v, out)) {e : Nat} (he : e ∈ out) : e ∈ l := by
  obtain ⟨x, -, hx⟩ := List.exists_of_findSome?_eq_some h
  simp only [Option.ite_none_right_eq_some, Option.some.injEq, Prod.mk.injEq] at hx
  obtain ⟨-, -, rfl⟩ := hx
  obtain ⟨y, hy, rfl⟩ := List.mem_map.1 he
  obtain ⟨n, hn, rfl⟩ := List.mem_map.1 (List.mem_filter.1 hy).1
  exact hn

theorem lt_of_mem_voters {s : State} {c e : Nat} (h : e ∈ voters s c) : e < 3 := List.mem_range.1 (List.mem_filter.1 h).1

theorem lt_of_mem_liveVoters {s : State} {c e : Nat} (h : e ∈ liveVoters s c) : e < 3 := lt_of_mem_voters (List.mem_filter.1 h).1

theorem lt_of_mem_issuers {s : State} {c k : Nat} (h : k ∈ issuers s c) : k < 3 * c + 3 := by
  obtain ⟨e, he, rfl⟩ := List.mem_map.1 (List.mem_filter.1 h).1
  have := List.mem_range.1 he
  omega

theorem lt_of_repairTarget {s : State} {c e : Nat} (h : repairTarget s c = some e) : e < 3 := by
  have := List.mem_of_find?_eq_some h
  simp only [List.mem_cons, List.not_mem_nil, or_false] at this
  omega

theorem page_halfCnt (c : Nat) : (halfCnt c).addr / 0x1000 = 0x50 := by
  unfold halfCnt
  split_ifs <;> decide

theorem page_satFlag (x : Nat) : (satFlag x).addr / 0x1000 = 0x74 := by
  unfold satFlag
  split_ifs <;> decide

theorem cmpOwner_le (s : State) (n : Nat) : cmpOwner s n ≤ n := by
  unfold cmpOwner
  split <;> omega

theorem lt_of_mem_pvCells {s : State} {g : Nat} (h : g ∈ pvCells s) : g < 192 := List.mem_range.1 (List.mem_filter.1 h).1

theorem lt_of_mem_storageCells {s : State} {g : Nat} (h : g ∈ storageCells s) : g < 192 := List.mem_range.1 (List.mem_filter.1 h).1

/-- The cells of the 24 banks are the 192 of the device. -/
theorem lt_of_mem_bankPv {s : State} {b g : Nat} (hb : b < 24) (h : g ∈ bankPv s b) : g < 192 := by
  obtain ⟨i, hi, hg⟩ := List.mem_filterMap.1 h
  have hi := List.mem_range.1 hi
  obtain ⟨-, rfl⟩ := Option.ite_none_right_eq_some.1 hg |>.imp id Option.some.inj
  omega

theorem lt_of_mem_sweeping {s : State} {g : Nat} (h : g ∈ sweeping s) : g < 192 := List.mem_range.1 (List.mem_filter.1 h).1

/-- A state whose meter has taken a sample. -/
theorem within_sampled {G : List Nat} {Q : List Part} {s t : State} (h : Within G Q s t) (a : MeterAcc) (hQ : [.meter] ⊆ Q := by decide) :
    Within G Q s { t with meter.cyc := a } :=
  h.step (List.nil_subset G) hQ (within_start fun h => within_mk h)

/-! ### The receivers of the shuttle link -/

theorem rxPage_cases (toH : Bool) : rxPage toH = 0x003 ∨ rxPage toH = 0x051 := by
  cases toH
  · exact .inr rfl
  · exact .inl rfl

theorem page_rxFld (toH : Bool) (ch : Nat) : (rxFld toH ch).addr / 0x1000 = rxPage toH := by
  cases toH <;> simp [rxFld, rxPage]

theorem page_sdlock (lane : Nat) : (⟨CLOCK_SDLOCK_LANE.addr, lane, 1⟩ : Fld).addr / 0x1000 = 0x7D := by
  have h : CLOCK_SDLOCK_LANE.addr / 0x1000 = 0x7D := by decide
  exact h

/-- As `within_run`, where the frame depends on the state. -/
theorem within_run_if {G : List Nat} {Q : List Part} {s t : State} {f : State → State} {p : State → Prop}
    (hf : ∀ u, p u → Within G Q u (f u)) (hp : p s.silent) (h : run f s = .next t) : Within G Q s t := by
  obtain rfl := Host.Outcome.next.inj h
  have silent : Within G Q s s.silent := ⟨fun _ _ => rfl, fun x _ => by cases x <;> rfl, id⟩
  exact silent.step (List.Subset.refl G) (List.Subset.refl Q) (hf _ hp)

end Sys2Proof.Machine
end

section
/-! SUPPORT. Frames: the shared operations, the interrupt controller and the warp. -/

namespace Sys2Proof.Machine

set_option Elab.async false

section
variable {G : List Nat} {Q : List Part} {s0 s : State} (k : Within G Q s0 s)
include k

theorem within_spiAnswer {a0 : Bool} {a1 : Bool} {a2 : List Word} (hQ : [.host] ⊆ Q := by decide) : Within G Q s0 (spiAnswer a0 a1 a2 s) := by
  refine k.step (List.nil_subset G) hQ (within_start fun h => ?_)
  unfold spiAnswer
  extract_lets x0 x1 x2
  exact within_emit (within_mk h)

theorem within_svcDone (hG : [0x12] ⊆ G := by decide) (hQ : [.svc] ⊆ Q := by decide) : Within G Q s0 (svcDone s) :=
  k.step hG hQ (within_start fun h => within_mk (within_put (f := SERVICE_STAT_HELD) (v := (s.svc.held.drop 1).length) h))

theorem within_svcReply {a0 : Nat} {a1 : Nat} {a2 : List Word} (hG : [0x12] ⊆ G := by decide) (hQ : [.svc] ⊆ Q := by decide) :
    Within G Q s0 (svcReply a0 a1 a2 s) := by
  refine k.step hG hQ (within_start fun h => ?_)
  unfold svcReply
  split
  exacts [h, (within_svcDone (within_emit h))]

theorem within_fillGather {a0 : Nat} {a1 : Nat} {a2 : List Word} (hG : [0x12] ⊆ G := by decide) (hQ : [.link, .svc] ⊆ Q := by decide) :
    Within G Q s0 (fillGather a0 a1 a2 s) := by
  refine k.step hG hQ (within_start fun h => ?_)
  unfold fillGather
  split
  exacts [h, (by extract_lets x0 x1 x2 x3 x4; have h5 : Within _ _ s x4 := (within_mk h); exact (within_ite (within_ite (within_svcReply h5) (within_emit h5)) (within_mk h)))]

theorem within_ownSkip {a0 : Nat} (hG : [0x02, 0x04, 0x06, 0x09, 0x21, 0x51] ⊆ G := by decide)
    (hQ : [.link, .intc, .jr, .s0, .sec] ⊆ Q := by decide) : Within G Q s0 (ownSkip a0 s) := by
  refine k.step hG hQ (within_start fun h => ?_)
  unfold ownSkip
  extract_lets x0 x1
  exact within_if (fun hc => within_raiseH (within_put (within_count (within_mk h)))) fun _ => (within_ite (within_mk h) (within_ite (within_capture h) h))

theorem within_failRead {a0 : Outstanding} (hG : [0x02, 0x04, 0x06, 0x09, 0x12, 0x21, 0x51] ⊆ G := by decide)
    (hQ : [.link, .host, .intc, .jr, .s0, .svc, .sec] ⊆ Q := by decide) : Within G Q s0 (failRead a0 s) := by
  refine k.step hG hQ (within_start fun h => ?_)
  unfold failRead
  extract_lets x0 x1
  split
  exacts [(within_fillGather h), (by split; exacts [(within_ite (within_spiAnswer (within_mk h)) h), h]), (within_ite h (within_svcReply (within_mk h))), (within_ownSkip h)]

theorem within_dropWrite (hG : [0x02, 0x03, 0x09, 0x51] ⊆ G := by decide) (hQ : [.link, .intc] ⊆ Q := by decide) :
    Within G Q s0 (dropWrite s) :=
  k.step hG hQ (within_start fun h => within_setEvt (within_count h))

theorem within_toF {a0 : Payload} (hQ : [.link] ⊆ Q := by decide) : Within G Q s0 (toF a0 s) := by
  refine k.step (List.nil_subset G) hQ (within_start fun h => ?_)
  unfold toF
  extract_lets x0 x1
  exact within_mk h

theorem within_postWrite {a0 : Nat} {a1 : List Word} (hG : [0x02, 0x03, 0x09, 0x51] ⊆ G := by decide)
    (hQ : [.link, .intc] ⊆ Q := by decide) : Within G Q s0 (postWrite a0 a1 s) :=
  k.step hG hQ (within_start fun h => within_ite (within_toF h) (within_dropWrite h))

theorem within_ownRead {a0 : Nat} {a1 : Nat} {a2 : Nat} (hG : [0x02, 0x04, 0x06, 0x09, 0x21, 0x51] ⊆ G := by decide)
    (hQ : [.link, .intc, .jr, .s0, .sec] ⊆ Q := by decide) : Within G Q s0 (ownRead a0 a1 a2 s) := by
  refine k.step hG hQ (within_start fun h => ?_)
  unfold ownRead
  extract_lets x0 x1
  exact within_ite (within_toF (within_mk h)) (within_ownSkip h)

theorem within_rawTokens (hG : ringPages ⊆ G := by decide) : Within G Q s0 (rawTokens s) := by
  refine k.step hG (List.nil_subset Q) (within_start fun h => ?_)
  unfold rawTokens
  split
  rename_i w t q
  exact within_foldl_range (within_snd (within_freeWord h) q) fun _ _ _ k => within_count (within_emit k)

theorem within_blockTokens (hG : ringPages ⊆ G := by decide) : Within G Q s0 (blockTokens s) :=
  k.step hG (List.nil_subset Q) (within_start fun h => within_ite h (within_rawTokens h))

theorem within_assertOpen (hQ : [.pwr] ⊆ Q := by decide) : Within G Q s0 (assertOpen s) := by
  refine k.step (List.nil_subset G) hQ (within_start fun h => ?_)
  unfold assertOpen
  extract_lets x0
  exact within_ite h (within_mk h)

theorem within_closeShutter (hG : [0x02, 0x09, 0x51] ++ ringPages ⊆ G := by decide) (hQ : [.pwr, .link, .permit, .intc] ⊆ Q := by decide) :
    Within G Q s0 (closeShutter s) := by
  refine k.step hG hQ (within_start fun h => ?_)
  unfold closeShutter
  extract_lets x0 x2 x3 x4 x6
  have h1 : Within _ _ s x0 := within_rawTokens h
  have h5 : Within _ _ s x4 := within_mk h1
  have h7 : Within _ _ s x6 := within_count (within_put (within_put h5))
  exact within_ite h (within_raiseF (within_setEvt h7))

theorem within_putHSwarp {a0 : Fld} (hp : min (pageOf a0.addr) 0x100 ∈ G := by
    simp only [pageOf, loomPages, ringPages, adcPages, louvrePages, List.cons_append, List.nil_append, List.mem_cons, List.not_mem_nil,
      or_false] <;> omega) :
    Within G Q s0 (putHSwarp a0 s) := within_put k hp

theorem within_nextSlot {a0 : Payload} (hQ : [.link] ⊆ Q := by decide) : Within G Q s0 (nextSlot a0 s) :=
  k.step (List.nil_subset G) hQ (within_start fun h => within_mk h)

theorem within_passSeal (hQ : [.link] ⊆ Q := by decide) : Within G Q s0 (passSeal s) :=
  k.step (List.nil_subset G) hQ (within_start fun h => within_nextSlot h)

theorem within_demand {a0 : Nat} {a1 : Nat} (hG : [0x02, 0x03, 0x04, 0x09, 0x14, 0x51] ⊆ G := by decide)
    (hQ : [.link, .intc, .jr] ⊆ Q := by decide) : Within G Q s0 (demand a0 a1 s) := by
  refine k.step hG hQ (within_start fun h => ?_)
  unfold demand
  extract_lets x0 x1 x3 x5 x7
  have h2 : Within _ _ s x1 := within_putHSwarp (within_count h)
  have h4 : Within _ _ s x3 := within_raiseH (within_setEvt h2)
  have h6 : Within _ _ s x5 := within_put (within_put h4)
  have h8 : Within _ _ s x7 := within_ite (within_raiseH (within_put h6)) h6
  exact within_nextSlot h8

theorem within_converterFault {a0 : Nat} (hG : [0x41, 0x51] ⊆ G := by decide) (hQ : [.link, .weave] ⊆ Q := by decide) :
    Within G Q s0 (converterFault a0 s) := by
  refine k.step hG hQ (within_start fun h => ?_)
  unfold converterFault
  extract_lets x0 x1 x3
  have h2 : Within _ _ s x1 := within_raiseF (within_put h)
  exact within_ite h (within_ite (within_mk h) (within_ite (within_mk h2) h2))

theorem within_clusterStop {a0 : Nat} (hk : a0 < 4 := by omega) (hG : [0x41, 0x50, 0x51] ++ ringPages ⊆ G := by decide)
    (hQ : [.pwr, .link, .weave] ⊆ Q := by decide) : Within G Q s0 (clusterStop a0 s) := by
  refine k.step hG hQ (within_start fun h => ?_)
  unfold clusterStop
  extract_lets x0 x1 x2 x3 x4
  have h5 : Within _ _ s x4 := within_assertOpen (within_blockTokens (within_mk h))
  exact within_converterFault (within_put h5)

theorem within_retain {a0 a1 : Nat} (hG : [0x20] ⊆ G := by decide) (hQ : [.porter] ⊆ Q := by decide) : Within G Q s0 (retain a0 a1 s) := by
  refine k.step hG hQ (within_start fun h => ?_)
  unfold retain
  split
  · exact h
  · extract_lets _ _ es _ _ s1 s2
    have h1 : Within _ _ s s1 := within_mk h
    exact within_put (within_put (within_ite (within_count h1) h1))

theorem within_loadShadow {a0 : Nat} {a1 : Nat} {a2 : List Word} (hQ : [.host] ⊆ Q := by decide) : Within G Q s0 (loadShadow a0 a1 a2 s) := by
  refine k.step (List.nil_subset G) hQ (within_start fun h => ?_)
  unfold loadShadow
  extract_lets x0
  exact within_mk h

theorem within_backlogPut {a0 : Payload} (hG : [0x51] ⊆ G := by decide) (hQ : [.link] ⊆ Q := by decide) : Within G Q s0 (backlogPut a0 s) := by
  refine k.step hG hQ (within_start fun h => ?_)
  unfold backlogPut
  split
  · split
    · rename_i hlt
      exact within_count (within_mk h)
    · exact within_discard h
  · exact h

theorem within_irqDropped {a0 : Payload} (hQ : [.intc] ⊆ Q := by decide) : Within G Q s0 (irqDropped a0 s) := by
  refine k.step (List.nil_subset G) hQ (within_start fun h => ?_)
  unfold irqDropped
  split
  exacts [(by extract_lets x0; exact (within_ite (within_mk h) h)), h]

theorem within_setWarpState {a0 : Nat} (hG : [0x02, 0x09, 0x40, 0x51] ⊆ G := by decide) (hQ : [.link, .intc] ⊆ Q := by decide) :
    Within G Q s0 (setWarpState a0 s) := by
  refine k.step hG hQ (within_start fun h => ?_)
  unfold setWarpState
  extract_lets x0
  exact within_ite h (within_raiseF (within_setEvt (within_put h)))

theorem within_warpStart (hG : [0x02, 0x09, 0x40, 0x51] ⊆ G := by decide) (hQ : [.link, .intc, .warp] ⊆ Q := by decide) :
    Within G Q s0 (warpStart s) := by
  refine k.step hG hQ (within_start fun h => ?_)
  unfold warpStart
  extract_lets x0
  exact within_setWarpState (within_put (within_mk h))

theorem within_passPick (hQ : [.warp] ⊆ Q := by decide) : Within G Q s0 (passPick s) := by
  refine k.step (List.nil_subset G) hQ (within_start fun h => ?_)
  unfold passPick
  extract_lets x0 x1 x2
  exact within_mk h

theorem within_applyInc (hG : [0x02, 0x09, 0x40, 0x51] ⊆ G := by decide) (hQ : [.link, .intc, .warp] ⊆ Q := by decide) :
    Within G Q s0 (applyInc s) := by
  refine k.step hG hQ (within_start fun h => ?_)
  unfold applyInc
  extract_lets x0 x1
  have h2 : Within _ _ s x1 := within_mk h
  split
  exacts [(within_ite (within_raiseF (within_setEvt (within_put (within_put h2)))) (within_ite (within_raiseF (within_setEvt (within_put (within_put h2)))) (within_put (within_put h2)))), (within_ite (within_put h2) h2)]

theorem within_trackAB {a0 : Rat} {a1 : Rat} {a2 : Rat} (hQ : [.warp] ⊆ Q := by decide) : Within G Q s0 (trackAB a0 a1 a2 s) := by
  refine k.step (List.nil_subset G) hQ (within_start fun h => ?_)
  unfold trackAB
  extract_lets x0 x1 x2
  exact within_mk h

theorem within_stepValid (hG : [0x02, 0x09, 0x40, 0x51] ⊆ G := by decide) (hQ : [.link, .intc, .warp] ⊆ Q := by decide) :
    Within G Q s0 (stepValid s) := by
  refine k.step hG hQ (within_start fun h => ?_)
  unfold stepValid
  extract_lets x0 x1 x2
  have h3 : Within _ _ s x2 := within_mk h
  exact within_ite (within_ite (within_setEvt (within_put (within_put h3))) h3) (within_mk h)

theorem within_stepFm {a0 : Rat} {a1 : Rat} (hG : [0x02, 0x09, 0x40, 0x51] ⊆ G := by decide) (hQ : [.link, .intc, .warp] ⊆ Q := by decide) :
    Within G Q s0 (stepFm a0 a1 s) := by
  refine k.step hG hQ (within_start fun h => ?_)
  unfold stepFm
  extract_lets x0 x1 x2 x3 x4 x5 x6 x7 x8 x10
  have h9 : Within _ _ s x8 := within_mk h
  exact within_ite (within_mk h9) (within_ite (within_raiseF (within_setEvt (within_mk h9))) (within_mk h9))

theorem within_trackPick {a0 : Rat} {a1 : Rat} {a2 : Rat} (hG : [0x02, 0x09, 0x40, 0x51] ⊆ G := by decide)
    (hQ : [.link, .intc, .warp] ⊆ Q := by decide) : Within G Q s0 (trackPick a0 a1 a2 s) := by
  refine k.step hG hQ (within_start fun h => ?_)
  unfold trackPick
  extract_lets x0 x2 x3 x5 x6 x8 x10 x11 x13 x14 x15
  have h1 : Within _ _ s x0 := within_trackAB h
  have h4 : Within _ _ s x3 := within_mk h1
  have h7 : Within _ _ s x6 := within_stepValid (within_put h4)
  have h9 : Within _ _ s x8 := within_stepFm h7
  have h12 : Within _ _ s x11 := within_mk h9
  have h16 : Within _ _ s x15 := within_mk h12
  exact within_ite (within_put (within_put h16)) h12

theorem within_slewTo {a0 : Rat} (hQ : [.warp] ⊆ Q := by decide) : Within G Q s0 (slewTo a0 s) := by
  refine k.step (List.nil_subset G) hQ (within_start fun h => ?_)
  unfold slewTo
  extract_lets x0 x1
  exact within_mk h

theorem within_steerLaw (hQ : [.warp] ⊆ Q := by decide) : Within G Q s0 (steerLaw s) := by
  refine k.step (List.nil_subset G) hQ (within_start fun h => ?_)
  unfold steerLaw
  extract_lets x0 x1 x2
  exact within_slewTo h

theorem within_leaveFree (hG : [0x02, 0x09, 0x40, 0x51] ⊆ G := by decide) (hQ : [.link, .intc, .warp] ⊆ Q := by decide) :
    Within G Q s0 (leaveFree s) := by
  refine k.step hG hQ (within_start fun h => ?_)
  unfold leaveFree
  extract_lets x0
  exact within_ite (within_slewTo (within_setWarpState (within_mk h))) (within_steerLaw (within_setWarpState h))

theorem within_steerPick (hG : [0x02, 0x09, 0x40, 0x51] ⊆ G := by decide) (hQ : [.link, .intc, .warp] ⊆ Q := by decide) :
    Within G Q s0 (steerPick s) := by
  refine k.step hG hQ (within_start fun h => ?_)
  unfold steerPick
  extract_lets x0 x1 x3 x4 x5
  have h2 : Within _ _ s x1 := within_putB h
  exact within_ite h2 (within_ite (within_slewTo (within_setWarpState h2)) (within_ite (within_ite (within_leaveFree h2) (within_slewTo h2)) (within_ite (within_ite (within_slewTo (within_setWarpState (within_mk h2))) (within_ite (within_slewTo (within_setWarpState (within_mk h2))) (within_steerLaw h2))) (within_ite (within_steerLaw (within_setWarpState h2)) (within_slewTo h2)))))

theorem within_lockPick (hG : [0x02, 0x09, 0x40, 0x51] ⊆ G := by decide) (hQ : [.link, .intc, .warp] ⊆ Q := by decide) :
    Within G Q s0 (lockPick s) := by
  refine k.step hG hQ (within_start fun h => ?_)
  unfold lockPick
  extract_lets x0 x1 x3 x4 x5
  have h2 : Within _ _ s x1 := within_ite (within_mk h) h
  have h6 : Within _ _ s x5 := within_mk h2
  exact within_ite (within_mk h2) (within_ite (within_setEvt (within_put h6)) h6)

theorem within_nowLoRead {a0 : Nat} {a1 : Nat} (hQ : [.host] ⊆ Q := by decide) : Within G Q s0 (nowLoRead a0 a1 s).2 := by
  refine k.step (List.nil_subset G) hQ (within_start fun h => ?_)
  unfold nowLoRead
  extract_lets x0
  exact within_loadShadow h

theorem within_atlSloRead {a0 : Nat} (hQ : [.host] ⊆ Q := by decide) : Within G Q s0 (atlSloRead a0 s).2 := by
  refine k.step (List.nil_subset G) hQ (within_start fun h => ?_)
  unfold atlSloRead
  extract_lets x0
  have hx0 : x0 = 0x40064 := rfl
  exact within_loadShadow h

theorem within_clockAdvance {a0 : Nat} (hQ : [.clk] ⊆ Q := by decide) : Within G Q s0 (clockAdvance a0 s) := by
  refine k.step (List.nil_subset G) hQ (within_start fun h => ?_)
  unfold clockAdvance
  extract_lets x0 x1 x2 x3
  exact within_mk h

theorem within_setClock {a0 : Nat} {a1 : Nat} (hQ : [.clk] ⊆ Q := by decide) : Within G Q s0 (setClock a0 a1 s) := by
  refine k.step (List.nil_subset G) hQ (within_start fun h => ?_)
  unfold setClock
  extract_lets x0 x1
  exact within_mk h

theorem within_setRate {a0 : Rat} (hG : [0x05] ⊆ G := by decide) (hQ : [.clk] ⊆ Q := by decide) : Within G Q s0 (setRate a0 s) := by
  refine k.step hG hQ (within_start fun h => ?_)
  unfold setRate
  extract_lets x0 x1
  exact within_putI (within_mk h)

theorem within_setSrc {a0 : Nat} (hG : [0x02, 0x04, 0x05, 0x09, 0x51] ⊆ G := by decide) (hQ : [.link, .intc, .jr, .clk] ⊆ Q := by decide) :
    Within G Q s0 (setSrc a0 s) := by
  refine k.step hG hQ (within_start fun h => ?_)
  unfold setSrc
  extract_lets x0 x1
  have h2 : Within _ _ s x1 := within_raiseH (within_setEvt (within_put h))
  exact within_ite h (within_ite (within_setRate h2) h2)

theorem within_atlTrigger {a0 : Nat} (hQ : [.link] ⊆ Q := by decide) : Within G Q s0 (atlTrigger a0 s) := by
  refine k.step (List.nil_subset G) hQ (within_start fun h => ?_)
  unfold atlTrigger
  extract_lets x0 x1 x2
  exact within_ite h (within_ite h (within_mk h))

theorem within_usePps (hG : [0x02, 0x04, 0x05, 0x09, 0x51] ⊆ G := by decide) (hQ : [.link, .intc, .jr, .clk] ⊆ Q := by decide) :
    Within G Q s0 (usePps s) := by
  refine k.step hG hQ (within_start fun h => ?_)
  unfold usePps
  extract_lets x0 x1 x2 x4 x5 x7 x8
  have h3 : Within _ _ s x2 := within_setSrc (within_putI h)
  have h6 : Within _ _ s x5 := within_setClock h3
  exact within_ite (within_raiseH (within_setEvt h6)) (within_setRate (within_mk h3))

theorem within_secLoRead {a0 : Nat} {a1 : Nat} (hQ : [.host, .clk] ⊆ Q := by decide) : Within G Q s0 (secLoRead a0 a1 s).2 := by
  refine k.step (List.nil_subset G) hQ (within_start fun h => ?_)
  unfold secLoRead
  extract_lets x0
  have h1 : Within _ _ s x0 := within_clockAdvance h
  exact within_loadShadow h1

theorem within_setctlArm (hG : [0x05] ⊆ G := by decide) (hQ : [.clk] ⊆ Q := by decide) : Within G Q s0 (setctlArm s) := by
  refine k.step hG hQ (within_start fun h => ?_)
  unfold setctlArm
  extract_lets x0
  exact within_put (within_mk h)

theorem within_setctlCancel (hG : [0x05] ⊆ G := by decide) (hQ : [.clk] ⊆ Q := by decide) : Within G Q s0 (setctlCancel s) := by
  refine k.step hG hQ (within_start fun h => ?_)
  unfold setctlCancel
  extract_lets x0
  exact within_put (within_mk h)

end

theorem frame_execMeasurementValid {s t : State} (he : execMeasurementValid s = .next t) :
    Within ([0x02, 0x09, 0x40, 0x51]) [.link, .intc, .warp] s t := by
  refine within_run (fun s => within_start fun h => ?_) he
  extract_lets x0 x2 x3
  have h1 : Within _ _ s x0 := within_put (within_put h)
  have h4 : Within _ _ s x3 := within_mk h1
  exact within_ite h (within_ite (within_leaveFree h4) (within_ite (within_steerLaw (within_setWarpState h4)) h4))

theorem frame_execFlywheelLimit {s t : State} (he : execFlywheelLimit s = .next t) :
    Within ([0x02, 0x09, 0x40, 0x51]) [.link, .intc, .warp] s t := by
  refine within_run (fun s => within_start fun h => ?_) he
  exact within_ite (within_slewTo (within_setWarpState h)) h

theorem frame_execNowLoRead {s t : State} {a0 : Nat} {a1 : Nat} (he : execNowLoRead a0 a1 s = .next t) :
    Within ([0x40]) [.host] s t := by
  refine within_run (fun s => within_start fun h => ?_) he
  split
  rename_i w0 t1 q2
  exact (fun k3 => (within_emit k3)) (within_snd (within_nowLoRead h) q2)

theorem frame_execAtlSloRead {s t : State} {a0 : Nat} (he : execAtlSloRead a0 s = .next t) :
    Within ([0x40]) [.host] s t := by
  refine within_run (fun s => within_start fun h => ?_) he
  split
  rename_i w0 t1 q2
  exact (fun k3 => (within_emit k3)) (within_snd (within_atlSloRead h) q2)

theorem frame_execAngleZeroMark {s t : State} (he : execAngleZeroMark s = .next t) :
    Within ([0x02, 0x03, 0x05, 0x09, 0x40, 0x51]) [.link, .intc, .clk, .sec, .isl] s t := by
  refine within_run (fun s => within_start fun h => ?_) he
  extract_lets x0 x1 x2
  exact within_ite (within_mk h) h

theorem frame_execPpsEdge {s t : State} {a0 : Nat} (he : execPpsEdge a0 s = .next t) :
    Within ([0x02, 0x03, 0x04, 0x05, 0x09, 0x40, 0x51]) [.link, .intc, .jr, .clk, .sec, .isl] s t := by
  refine within_run (fun s => within_start fun h => ?_) he
  extract_lets x0 x2 x3 x4 x6 x7 x8 x10
  have h1 : Within _ _ s x0 := within_clockAdvance h
  have h5 : Within _ _ s x4 := within_mk h1
  have h9 : Within _ _ s x8 := within_count (within_put (within_mk h5))
  have h11 : Within _ _ s x10 := within_ite (within_usePps h9) h9
  exact within_ite h (within_ite (within_mk h5) (within_ite (within_setEvt (within_put h5)) (within_ite (within_atlTrigger h11) h11)))

theorem frame_execPpsHoldover {s t : State} (he : execPpsHoldover s = .next t) :
    Within ([0x02, 0x04, 0x05, 0x09, 0x51]) [.link, .intc, .jr, .clk] s t := by
  refine within_run (fun s => within_start fun h => ?_) he
  extract_lets x0 x1
  have h2 : Within _ _ s x1 := within_mk h
  exact within_ite (within_raiseH (within_setEvt (within_setSrc h2))) h

theorem frame_execPpsHoldmax {s t : State} (he : execPpsHoldmax s = .next t) :
    Within ([0x02, 0x04, 0x05, 0x09, 0x51]) [.link, .intc, .jr, .clk] s t := by
  refine within_run (fun s => within_start fun h => ?_) he
  exact within_ite (within_setSrc h) h

theorem frame_execRtcCompare {s t : State} {a0 : Int} (he : execRtcCompare a0 s = .next t) :
    Within ([0x05]) [.clk] s t := by
  refine within_run (fun s => within_start fun h => ?_) he
  exact within_ite (by split; rename_i w0 t1 q2; exact (fun k3 => (within_setRate k3)) (within_snd (within_freeWord h) q2)) h

theorem frame_execWallClockLoad {s t : State} {a0 : Nat} (he : execWallClockLoad a0 s = .next t) :
    Within ([0x05]) [.clk, .porter, .sec] s t := by
  refine within_run (fun s => within_start fun h => ?_) he
  extract_lets x0 x1 x2 x3
  have h4 : Within _ _ s x3 := within_setClock (within_mk h)
  exact within_put (within_putB h4)

theorem frame_execSecLoRead {s t : State} {a0 : Nat} {a1 : Nat} (he : execSecLoRead a0 a1 s = .next t) :
    Within ([0x05]) [.host, .clk, .sec] s t := by
  refine within_run (fun s => within_start fun h => ?_) he
  split
  rename_i w0 t1 q2
  exact (fun k3 => (within_emit k3)) (within_snd (within_secLoRead h) q2)

theorem frame_execSetctlArm {s t : State} (he : execSetctlArm s = .next t) :
    Within ([0x05]) [.clk] s t := by
  refine within_run (fun s => within_start fun h => ?_) he
  exact within_setctlArm h

theorem frame_execSetctlCancel {s t : State} (he : execSetctlCancel s = .next t) :
    Within ([0x05]) [.clk] s t := by
  refine within_run (fun s => within_start fun h => ?_) he
  exact within_setctlCancel h

theorem frame_execSecondsSet {s t : State} (he : execSecondsSet s = .next t) :
    Within ([0x01, 0x02, 0x04, 0x05, 0x09, 0x20, 0x51]) [.link, .intc, .jr, .clk, .porter, .sec] s t := by
  refine within_run (fun s => within_start fun h => ?_) he
  extract_lets x0 x1 x2 x4 x6 x8
  have h3 : Within _ _ s x2 := within_setctlCancel (within_setClock (within_mk h))
  have h5 : Within _ _ s x4 := within_put (within_put h3)
  have h7 : Within _ _ s x6 := within_ite (within_setSrc h5) h5
  have h9 : Within _ _ s x8 := within_putHSwarp h7
  exact within_ite h (within_retain (within_raiseH (within_setEvt h9)))

theorem frame_execAtlGo {s t : State} (he : execAtlGo s = .next t) :
    Within ([0x02, 0x03, 0x05, 0x09, 0x40, 0x51]) [.link, .intc, .clk, .sec, .isl] s t := by
  refine within_run (fun s => within_start fun h => ?_) he
  exact within_atlTrigger h

end Sys2Proof.Machine
end

section
/-! SUPPORT. Frames: the loom engines. -/

namespace Sys2Proof.Machine

set_option Elab.async false

section
variable {G : List Nat} {Q : List Part} {s0 s : State} (k : Within G Q s0 s)
include k

theorem within_modEng {a0 : Nat} {a1 : Eng → Eng} (hQ : [.loom] ⊆ Q := by decide) : Within G Q s0 (modEng a0 a1 s) :=
  k.step (List.nil_subset G) hQ (within_start fun h => within_mk h)

theorem within_modClu {a0 : Nat} {a1 : Clu → Clu} (hQ : [.clu] ⊆ Q := by decide) : Within G Q s0 (modClu a0 a1 s) :=
  k.step (List.nil_subset G) hQ (within_start fun h => within_mk h)

theorem within_setEngState {a0 : Nat} {a1 : Nat} (hk : a0 < 13 := by omega) (hG : [0x50] ++ loomPages ⊆ G := by decide) :
    Within G Q s0 (setEngState a0 a1 s) :=
  k.step hG (List.nil_subset Q) (within_start fun h => within_put (within_put h))

theorem within_reedEvent {a0 : Nat} {a1 : Nat} {a2 : Nat} (hG : [0x02, 0x09, 0x50, 0x51] ⊆ G := by decide)
    (hQ : [.link, .intc] ⊆ Q := by decide) : Within G Q s0 (reedEvent a0 a1 a2 s) :=
  k.step hG hQ (within_start fun h => within_raiseF (within_setEvt h))

theorem within_reedStop {a0 : Nat} {a1 : Nat} (hk : a0 < 4 := by omega)
    (hG : [0x02, 0x09, 0x41, 0x50, 0x51] ++ ringPages ⊆ G := by decide) (hQ : [.pwr, .link, .intc, .weave] ⊆ Q := by decide) :
    Within G Q s0 (reedStop a0 a1 s) :=
  k.step hG hQ (within_start fun h => within_ite h (within_clusterStop (within_reedEvent h)))

theorem within_setVote {a0 : Nat} {a1 : Bool} (hk : a0 < 12 := by omega)
    (hG : [0x02, 0x09, 0x41, 0x50, 0x51] ++ ringPages ⊆ G := by decide) (hQ : [.pwr, .link, .intc, .weave] ⊆ Q := by decide) :
    Within G Q s0 (setVote a0 a1 s) := by
  refine k.step hG hQ (within_start fun h => ?_)
  unfold setVote
  extract_lets x0 x1 x3 x5 x6
  have hx0 : x0 = a0 / 3 := rfl
  have h2 : Within _ _ s x1 := within_putB h
  have h4 : Within _ _ s x3 := within_put h2
  exact within_ite h4 (within_ite (within_reedStop h4) (within_put h4))

theorem within_countOut {a0 : Nat} (hk : a0 < 13 := by omega) (hG : [0x50] ⊆ G := by decide) : Within G Q s0 (countOut a0 s) := by
  refine k.step hG (List.nil_subset Q) (within_start fun h => ?_)
  unfold countOut
  extract_lets x0 x1 x3
  have hx0 : x0 = a0 / 3 := rfl
  have h2 : Within _ _ s x1 := within_put h
  have h4 : Within _ _ s x3 := within_put h2
  exact within_ite (within_put h4) h4

theorem within_clusterFault {a0 : Nat} (hG : [0x02, 0x09, 0x41, 0x50, 0x51] ⊆ G := by decide)
    (hQ : [.link, .intc, .weave] ⊆ Q := by decide) : Within G Q s0 (clusterFault a0 s) := by
  refine k.step hG hQ (within_start fun h => ?_)
  unfold clusterFault
  extract_lets x0 x2
  have h1 : Within _ _ s x0 := within_reedEvent h
  exact within_converterFault (within_mk h1)

theorem within_clearAttempt {a0 : Nat} (hk : a0 < 4 := by omega) (hG : [0x50] ⊆ G := by decide) (hQ : [.clu] ⊆ Q := by decide) :
    Within G Q s0 (clearAttempt a0 s) := by
  refine k.step hG hQ (within_start fun h => ?_)
  unfold clearAttempt
  extract_lets x0 x1 x2
  have hx0 : x0 = 3 * a0 + s.get (REED_CLST_REPENG a0) := rfl
  have hx1 : x1 = 3 * a0 + s.get (REED_CLST_SRCENG a0) := rfl
  have hr : s.get (REED_CLST_REPENG a0) < 2 ^ 2 := get_lt s (REED_CLST_REPENG a0)
  have hs : s.get (REED_CLST_SRCENG a0) < 2 ^ 2 := get_lt s (REED_CLST_SRCENG a0)
  have h3 : Within _ _ s x2 := within_put (within_put (within_put h))
  exact within_modClu (within_put h3)

theorem within_leaveCopy {a0 : Nat} (hQ : [.loom] ⊆ Q := by decide) : Within G Q s0 (leaveCopy a0 s) := by
  refine k.step (List.nil_subset G) hQ (within_start fun h => ?_)
  unfold leaveCopy
  extract_lets x0
  exact within_ite h (within_modEng h)

theorem within_abandonAttempt {a0 : Nat} (hk : a0 < 4 := by omega) (hG : [0x50] ++ loomPages ⊆ G := by decide)
    (hQ : [.loom, .clu] ⊆ Q := by decide) : Within G Q s0 (abandonAttempt a0 s) := by
  refine k.step hG hQ (within_start fun h => ?_)
  unfold abandonAttempt
  have hr : s.get (REED_CLST_REPENG a0) < 2 ^ 2 := get_lt s (REED_CLST_REPENG a0)
  exact within_ite (within_setEngState (within_clearAttempt (within_leaveCopy h))) h

theorem within_failAttempt {a0 : Nat} {a1 : Nat} (hk : a0 < 4 := by omega) (hG : [0x02, 0x09, 0x50, 0x51] ++ loomPages ⊆ G := by decide)
    (hQ : [.link, .intc, .loom, .clu] ⊆ Q := by decide) : Within G Q s0 (failAttempt a0 a1 s) := by
  refine k.step hG hQ (within_start fun h => ?_)
  unfold failAttempt
  extract_lets x0 x1 x2 x4 x5
  have hx1 : x1 = 3 * a0 + s.get (REED_CLST_REPENG a0) := rfl
  have hr : s.get (REED_CLST_REPENG a0) < 2 ^ 2 := get_lt s (REED_CLST_REPENG a0)
  have h3 : Within _ _ s x2 := within_count (within_count (within_setEngState (within_clearAttempt (within_leaveCopy h))))
  have h6 : Within _ _ s x5 := within_reedEvent h3
  exact within_ite (within_reedEvent (within_put h6)) h6

theorem within_putLoop {a0 : Nat} {a1 : Nat} {a2 : List Loop} {a3 : List Nat} (hk : a0 < 12 := by omega) (hn : a1 < 3 := by omega)
    (hG : loomPages ⊆ G := by decide) : Within G Q s0 (putLoop a0 a1 a2 a3 s) := by
  refine k.step hG (List.nil_subset Q) (within_start fun h => ?_)
  unfold putLoop
  extract_lets x0
  exact within_putB (within_put (within_put (within_put (within_put h))))

theorem within_stopRecord {a0 : Nat} {a1 : Nat} {a2 : Nat} {a3 : Option Attr} {a4 : Bool} {a5 : Nat} (hk : a0 < 12 := by omega)
    (hG : [0x02, 0x09, 0x50, 0x51] ++ loomPages ⊆ G := by decide) (hQ : [.link, .intc] ⊆ Q := by decide) :
    Within G Q s0 (stopRecord a0 a1 a2 a3 a4 a5 s) := by
  refine k.step hG hQ (within_start fun h => ?_)
  unfold stopRecord
  extract_lets x0 x1 x2 x4 x6 x8 x10 x12 x14 x16 x17
  have h3 : Within _ _ s x2 := within_count (within_putB (within_put (within_put h)))
  have h5 : Within _ _ s x4 := within_putB (within_putB (within_put (within_putB (within_put h3))))
  have h7 : Within _ _ s x6 := within_put (within_put (within_putB (within_put (within_put h5))))
  have h9 : Within _ _ s x8 := within_putB (within_putB (within_put (within_putB h7)))
  have h11 : Within _ _ s x10 := within_put (within_put (within_put (within_put h9)))
  have h13 : Within _ _ s x12 := within_put (within_putB (within_put h11))
  have h15 : Within _ _ s x14 := within_put (within_put (within_put h13))
  have h18 : Within _ _ s x17 := within_put (within_putLoop (within_putLoop (within_putLoop h15)))
  exact within_raiseF (within_setEvt h18)

theorem within_stopEngine {a0 : Nat} {a1 : Nat} {a2 : Nat} {a3 : Option Attr} {a4 : Bool} {a5 : Nat} (hk : a0 < 12 := by omega)
    (hG : [0x02, 0x09, 0x41, 0x50, 0x51] ++ loomPages ++ ringPages ⊆ G := by decide)
    (hQ : [.pwr, .link, .intc, .weave, .loom, .clu] ⊆ Q := by decide) : Within G Q s0 (stopEngine a0 a1 a2 a3 a4 a5 s) := by
  refine k.step hG hQ (within_start fun h => ?_)
  unfold stopEngine
  extract_lets x0 x1 x3 x4
  have h2 : Within _ _ s x1 := within_modEng (within_stopRecord h)
  have h5 : Within _ _ s x4 := within_ite (within_abandonAttempt h2) h2
  exact within_ite h (within_ite (within_setEngState (within_put h2)) (within_ite (within_failAttempt h2) (within_ite (within_countOut (within_setEngState h5)) (within_setVote (within_setEngState h5)))))

theorem within_minority {a0 : Nat} {a1 : Nat} {a2 : Nat} {a3 : Bool} (hk : a0 < 12 := by omega)
    (hG : [0x02, 0x09, 0x41, 0x50, 0x51] ++ loomPages ++ ringPages ⊆ G := by decide)
    (hQ : [.pwr, .link, .intc, .weave, .loom, .clu] ⊆ Q := by decide) : Within G Q s0 (minority a0 a1 a2 a3 s) := by
  refine k.step hG hQ (within_start fun h => ?_)
  unfold minority
  extract_lets x0 x1 x2 x4 x6
  have hx0 : x0 = a0 / 3 := rfl
  have h3 : Within _ _ s x2 := within_put (within_put (within_put h))
  have h5 : Within _ _ s x4 := within_put (within_put (within_putB h3))
  have h7 : Within _ _ s x6 := within_countWrap (within_count h5)
  exact within_stopEngine (within_reedEvent h7)

theorem within_recordViolation {a0 : Nat} {a1 : Nat} {a2 : Nat} {a3 : Bool} (hG : [0x02, 0x09, 0x41, 0x51] ⊆ G := by decide)
    (hQ : [.link, .intc] ⊆ Q := by decide) : Within G Q s0 (recordViolation a0 a1 a2 a3 s) := by
  refine k.step hG hQ (within_start fun h => ?_)
  unfold recordViolation
  extract_lets x0 x2
  have h1 : Within _ _ s x0 := within_putB (within_put (within_put (within_put h)))
  have h3 : Within _ _ s x2 := within_put (within_put (within_put h1))
  exact within_raiseF (within_setEvt (within_count h3 page_ite))

theorem within_minorReport {a0 : Nat} (hk : a0 < 12 := by omega) (hG : [0x02, 0x09, 0x50, 0x51] ⊆ G := by decide)
    (hQ : [.link, .intc] ⊆ Q := by decide) : Within G Q s0 (minorReport a0 s) := by
  refine k.step hG hQ (within_start fun h => ?_)
  unfold minorReport
  extract_lets x0 x1 x3
  have hx0 : x0 = a0 / 3 := rfl
  have h2 : Within _ _ s x1 := within_put (within_put (within_put (within_put h)))
  have h4 : Within _ _ s x3 := within_put (within_put h2)
  exact within_reedEvent (within_countWrap (within_count h4))

theorem within_stopUnvoted {a0 : Nat} (hk : a0 < 4 := by omega) (hG : [0x02, 0x09, 0x41, 0x50, 0x51] ++ ringPages ⊆ G := by decide)
    (hQ : [.pwr, .link, .intc, .weave] ⊆ Q := by decide) : Within G Q s0 (stopUnvoted a0 s) :=
  k.step hG hQ (within_start fun h => within_ite (within_reedStop h) h)

theorem within_voteChecks {a0 : Nat} (hk : a0 < 4 := by omega) (hG : [0x02, 0x09, 0x41, 0x50, 0x51] ++ ringPages ⊆ G := by decide)
    (hQ : [.pwr, .link, .intc, .weave] ⊆ Q := by decide) : Within G Q s0 (voteChecks a0 s) := by
  refine k.step hG hQ (within_start fun h => ?_)
  unfold voteChecks
  extract_lets x0 x1 x2 x3 x5
  have h4 : Within _ _ s x3 := within_mk h
  refine within_ite h ?_
  split
  · exact within_stopUnvoted (within_clusterFault h4)
  · exact within_stopUnvoted (within_converterFault (within_recordViolation (within_mk h4)))
  · next hout =>
    refine within_stopUnvoted (within_foldl_mem (within_foldl h4 fun _ _ k11 => within_recordViolation k11) fun _ e he k14 => ?_)
    have he := List.mem_range.1 (List.mem_filter.1 (mem_of_mem_minority hout he)).1
    exact within_minorReport k14

theorem within_flagEvents {a0 : Nat} {a1 : Bool} {a2 : Nat} (hk : a0 < 12 := by omega)
    (hG : [0x02, 0x09, 0x51] ++ loomPages ⊆ G := by decide) (hQ : [.link, .intc] ⊆ Q := by decide) : Within G Q s0 (flagEvents a0 a1 a2 s) := by
  refine k.step hG hQ (within_start fun h => ?_)
  unfold flagEvents
  extract_lets x0
  exact within_foldl h fun _ _ k3 => (within_ite (within_raiseF (within_setEvt k3)) k3)

theorem within_eccCorrect {a0 : Nat} {a1 : Nat} {a2 : Nat} {a3 : Bool} (hk : a0 < 12 := by omega)
    (hG : [0x02, 0x09, 0x51] ++ loomPages ⊆ G := by decide) (hQ : [.link, .intc, .loom] ⊆ Q := by decide) :
    Within G Q s0 (eccCorrect a0 a1 a2 a3 s) := by
  refine k.step hG hQ (within_start fun h => ?_)
  unfold eccCorrect
  extract_lets x0 x1 x3
  have h2 : Within _ _ s x1 := within_put (within_putB (within_put (within_put (within_count h (page_ite (hg := page_ite (hg := page_ite)))))))
  have h4 : Within _ _ s x3 := within_setEvt h2
  exact within_ite h4 (within_raiseF (within_modEng h4))

theorem within_eccUe {a0 : Nat} {a1 : Nat} {a2 : Nat} {a3 : Bool} (hk : a0 < 12 := by omega) (hG : loomPages ⊆ G := by decide) :
    Within G Q s0 (eccUe a0 a1 a2 a3 s) :=
  k.step hG (List.nil_subset Q) (within_start fun h => within_put (within_putB (within_put (within_put h))))

theorem within_landDue {a0 : Nat} (hk : a0 < 12 := by omega)
    (hG : [0x02, 0x09, 0x41, 0x50, 0x51] ++ loomPages ++ ringPages ⊆ G := by decide)
    (hQ : [.pwr, .link, .intc, .weave, .loom, .clu] ⊆ Q := by decide) : Within G Q s0 (landDue a0 s) := by
  refine k.step hG hQ (within_start fun h => ?_)
  unfold landDue
  extract_lets x0 x1 x2
  have h3 : Within _ _ s x2 := within_modEng h
  exact within_foldl h3 fun _ _ k6 => (by split; exacts [(within_stopEngine (within_eccUe k6)), (by split; exacts [(within_flagEvents (within_modEng k6))])])

theorem within_stepRecords {a0 : Nat} (hk : a0 < 12 := by omega) (hG : loomPages ⊆ G := by decide) (hQ : [.loom] ⊆ Q := by decide) :
    Within G Q s0 (stepRecords a0 s) :=
  k.step hG hQ (within_start fun h => within_modEng (within_foldl h fun _ _ k2 => (within_put (within_put (within_put (within_count k2))))))

theorem within_eccReads {a0 : Nat} {a1 : Nat} {a2 : List (Nat × Nat)} (hk : a0 < 12 := by omega)
    (hG : [0x02, 0x09, 0x51] ++ loomPages ⊆ G := by decide) (hQ : [.link, .intc, .loom] ⊆ Q := by decide) :
    Within G Q s0 (eccReads a0 a1 a2 s) :=
  k.step hG hQ (within_start fun h => within_foldl h fun _ _ k2 => (within_eccCorrect k2))

theorem within_loadChecks {a0 : Nat} {a1 : Eng} {a2 : Attr} {a3 : SlotOp} (hk : a0 < 12 := by omega)
    (hG : [0x02, 0x09, 0x51] ++ loomPages ⊆ G := by decide) (hQ : [.link, .intc, .loom] ⊆ Q := by decide) :
    Within G Q s0 (loadChecks a0 a1 a2 a3 s) :=
  k.step hG hQ (within_start fun h => within_ite (within_eccReads h) h)

theorem within_issueBundle {a0 : Nat} {a1 : List Nat} {a2 : Option Nat} (hk : a0 < 12 := by omega)
    (hG : [0x02, 0x09, 0x41, 0x50, 0x51] ++ loomPages ++ ringPages ⊆ G := by decide)
    (hQ : [.pwr, .link, .intc, .weave, .loom, .clu] ⊆ Q := by decide) : Within G Q s0 (issueBundle a0 a1 a2 s) := by
  refine k.step hG hQ (within_start fun h => ?_)
  unfold issueBundle
  extract_lets x0 x1 x2 x3 x4 x5 x6 x7 x9 x10 x11 x12 x13 x14 x15 x16 x21 x22 x24
  have h8 : Within _ _ s x7 := within_eccReads h
  have h17 : Within _ _ s x16 := within_foldl (within_modEng h8) fun _ _ k20 => (within_loadChecks k20)
  have h23 : Within _ _ s x22 := within_ite (within_stepRecords (within_countWrap (within_put h17))) h17
  have h25 : Within _ _ s x24 := within_landDue h23
  split
  exacts [(within_stopEngine (within_eccUe h8)), (within_ite (within_stopEngine h8) (within_ite (within_stopEngine (within_ite (within_mk h8) h8)) (by split; exacts [(within_stopEngine h25), h25])))]

theorem within_slotIn {a0 : Nat} {a1 : OpName} {a2 : SlotWord} {a3 : Iss} (hk : a0 < 12 := by omega)
    (hG : [0x02, 0x09, 0x41, 0x50, 0x51] ++ loomPages ++ ringPages ⊆ G := by decide)
    (hQ : [.pwr, .link, .intc, .weave, .loom, .clu] ⊆ Q := by decide) : Within G Q s0 (slotIn a0 a1 a2 a3 s) := by
  refine k.step hG hQ (within_start fun h => ?_)
  unfold slotIn
  extract_lets x0 x1
  have h2 : Within _ _ s x1 := within_modEng h
  exact within_ite h (within_ite (within_issueBundle h2) h2)

theorem within_stepctlWrite {a0 : Nat} {a1 : Word} (hk : a0 < 12 := by omega)
    (hG : [0x02, 0x04, 0x09, 0x50, 0x51] ++ loomPages ⊆ G := by decide) (hQ : [.link, .intc, .jr, .loom] ⊆ Q := by decide) :
    Within G Q s0 (stepctlWrite a0 a1 s) := by
  refine k.step hG hQ (within_start fun h => ?_)
  unfold stepctlWrite
  extract_lets x0 x1 x2
  have hx0 : x0 = 0x440c0 + 0x1000 * a0 := rfl
  have h3 : Within _ _ s x2 := within_ite h (within_capture h)
  exact within_ite (within_capture h) (within_ite (within_capture h) (within_ite h3 (within_modEng (within_setEngState (within_put (within_put h3))))))

theorem within_steppcWrite {a0 : Nat} {a1 : Word} (hk : a0 < 12 := by omega) (hG : [0x02, 0x04, 0x09, 0x51] ++ loomPages ⊆ G := by decide)
    (hQ : [.link, .intc, .jr, .loom] ⊆ Q := by decide) : Within G Q s0 (steppcWrite a0 a1 s) := by
  refine k.step hG hQ (within_start fun h => ?_)
  unfold steppcWrite
  extract_lets x0 x1 x3 x5 x7
  have hx0 : x0 = 0x440c4 + 0x1000 * a0 := rfl
  have h2 : Within _ _ s x1 := within_ite h (within_capture h)
  have h4 : Within _ _ s x3 := within_put (within_put (within_putB (within_put h2)))
  have h6 : Within _ _ s x5 := within_putB (within_put h4)
  have h8 : Within _ _ s x7 := within_foldl_mem (within_put h6) fun _ n hn k11 => have hn := le_of_mem_three hn; (within_putB (within_put k11))
  exact within_ite (within_capture h) (within_ite (within_capture h) (within_modEng h8))

end

theorem frame_execQadd {s t : State} {a0 : Nat} {a1 : SlotWord} {a2 : Iss} (hk : a0 < 12 := by omega) (he : execQadd a0 a1 a2 s = .next t) :
    Within ([0x02, 0x09, 0x41, 0x50, 0x51] ++ loomPages ++ ringPages) [.pwr, .link, .intc, .weave, .loom, .clu] s t := by
  refine within_run (fun s => within_start fun h => ?_) he
  exact within_slotIn h

theorem frame_execQsub {s t : State} {a0 : Nat} {a1 : SlotWord} {a2 : Iss} (hk : a0 < 12 := by omega) (he : execQsub a0 a1 a2 s = .next t) :
    Within ([0x02, 0x09, 0x41, 0x50, 0x51] ++ loomPages ++ ringPages) [.pwr, .link, .intc, .weave, .loom, .clu] s t := by
  refine within_run (fun s => within_start fun h => ?_) he
  exact within_slotIn h

theorem frame_execQabs {s t : State} {a0 : Nat} {a1 : SlotWord} {a2 : Iss} (hk : a0 < 12 := by omega) (he : execQabs a0 a1 a2 s = .next t) :
    Within ([0x02, 0x09, 0x41, 0x50, 0x51] ++ loomPages ++ ringPages) [.pwr, .link, .intc, .weave, .loom, .clu] s t := by
  refine within_run (fun s => within_start fun h => ?_) he
  exact within_slotIn h

theorem frame_execUndefinedOperation {s t : State} {a0 : Nat} {a1 : SlotWord} {a2 : Iss} (hk : a0 < 12 := by omega) (he : execUndefinedOperation a0 a1 a2 s = .next t) :
    Within ([0x02, 0x09, 0x41, 0x50, 0x51] ++ loomPages ++ ringPages) [.pwr, .link, .intc, .weave, .loom, .clu] s t := by
  refine within_run (fun s => within_start fun h => ?_) he
  exact within_slotIn h

theorem frame_execOperationComplete {s t : State} {a0 : Nat} {a1 : Nat} (hk : a0 < 12 := by omega) (he : execOperationComplete a0 a1 s = .next t) :
    Within ([0x02, 0x09, 0x41, 0x50, 0x51] ++ loomPages ++ ringPages) [.pwr, .link, .intc, .weave, .loom, .clu] s t := by
  refine within_run (fun s => within_start fun h => ?_) he
  exact within_landDue (within_modEng h)

theorem frame_execStepctl {s t : State} {a0 : Nat} {a1 : Word} (hk : a0 < 12 := by omega) (he : execStepctl a0 a1 s = .next t) :
    Within ([0x02, 0x04, 0x09, 0x50, 0x51] ++ loomPages) [.link, .intc, .jr, .loom] s t := by
  refine within_run (fun s => within_start fun h => ?_) he
  exact within_stepctlWrite h

theorem frame_execSteppc {s t : State} {a0 : Nat} {a1 : Word} (hk : a0 < 12 := by omega) (he : execSteppc a0 a1 s = .next t) :
    Within ([0x02, 0x04, 0x09, 0x51] ++ loomPages) [.link, .intc, .jr, .loom] s t := by
  refine within_run (fun s => within_start fun h => ?_) he
  exact within_steppcWrite h

theorem frame_execStepRunEnd {s t : State} {a0 : Nat} (hk : a0 < 12 := by omega) (he : execStepRunEnd a0 s = .next t) :
    Within ([0x02, 0x09, 0x41, 0x50, 0x51] ++ loomPages ++ ringPages) [.pwr, .link, .intc, .weave, .loom, .clu] s t := by
  refine within_run (fun s => within_start fun h => ?_) he
  exact within_ite (within_stopEngine h) h

end Sys2Proof.Machine
end

section
/-! SUPPORT. Frames: the units of the H-die and the D-die. -/

namespace Sys2Proof.Machine

set_option Elab.async false

section
variable {G : List Nat} {Q : List Part} {s0 s : State} (k : Within G Q s0 s)
include k

theorem within_windowCheck {a0 : Nat} {a1 : Nat} {a2 : Nat} (hG : [0x02, 0x04, 0x09, 0x1F, 0x51] ⊆ G := by decide)
    (hQ : [.link, .intc, .jr, .analog] ⊆ Q := by decide) : Within G Q s0 (windowCheck a0 a1 a2 s) := by
  refine k.step hG hQ (within_start fun h => ?_)
  unfold windowCheck
  extract_lets x0 x1 x2 x3
  have h4 : Within _ _ s x3 := within_mk h
  exact within_ite h (within_ite h (within_ite (within_raiseH (within_setEvt h4)) h4))

theorem within_hadcResult {a0 : Nat} {a1 : Nat} (hk : a0 < 16 := by omega) (hG : [0x02, 0x04, 0x09, 0x1F, 0x51] ⊆ G := by decide)
    (hQ : [.link, .intc, .jr, .analog] ⊆ Q := by decide) : Within G Q s0 (hadcResult a0 a1 s) := by
  refine k.step hG hQ (within_start fun h => ?_)
  unfold hadcResult
  extract_lets x0 x1
  have h2 : Within _ _ s x1 := within_countWrap (within_put (within_put h))
  exact within_foldl (within_countWrap h2) fun _ _ k5 => (within_windowCheck k5)

theorem within_modLouv {a0 : Nat} {a1 : LouvSt → LouvSt} (hQ : [.louv] ⊆ Q := by decide) : Within G Q s0 (modLouv a0 a1 s) :=
  k.step (List.nil_subset G) hQ (within_start fun h => within_mk h)

theorem within_louvState {a0 : Nat} {a1 : Nat} (hk : a0 < 4 := by omega) (hG : [0x02, 0x04, 0x09, 0x51] ++ louvrePages ⊆ G := by decide)
    (hQ : [.link, .intc, .jr, .louv] ⊆ Q := by decide) : Within G Q s0 (louvState a0 a1 s) := by
  refine k.step hG hQ (within_start fun h => ?_)
  unfold louvState
  extract_lets x0 x1 x3
  have h2 : Within _ _ s x1 := within_put h
  have h4 : Within _ _ s x3 := within_ite (within_modLouv (within_count h2)) h2
  exact within_ite h (within_raiseH (within_setEvt h4))

theorem within_gatesOff {a0 : Nat} (hk : a0 < 4 := by omega) (hG : louvrePages ⊆ G := by decide) (hQ : [.louv] ⊆ Q := by decide) :
    Within G Q s0 (gatesOff a0 s) :=
  k.step hG hQ (within_start fun h => within_modLouv (within_put h))

theorem within_louvFault {a0 : Nat} {a1 : Nat} {a2 : Nat} (hk : a0 < 4 := by omega)
    (hG : [0x02, 0x04, 0x09, 0x51] ++ louvrePages ⊆ G := by decide) (hQ : [.link, .intc, .jr, .louv] ⊆ Q := by decide) :
    Within G Q s0 (louvFault a0 a1 a2 s) := by
  refine k.step hG hQ (within_start fun h => ?_)
  unfold louvFault
  extract_lets st t s1 s2
  have ht : Within _ _ s t := within_ite (within_modLouv h) (within_gatesOff h)
  clear_value t
  have h1 : Within _ _ s s1 := within_count (within_put (within_put ht))
  clear_value s1
  exact within_louvState (within_raiseH (within_setEvt (within_ite (within_put h1) h1)))

theorem within_thermEvent {a0 : Nat} {a1 : Nat} {a2 : Nat} {a3 : Nat} (hG : [0x02, 0x04, 0x09, 0x1D, 0x51, 0x7C] ⊆ G := by decide)
    (hQ : [.link, .intc, .jr] ⊆ Q := by decide) : Within G Q s0 (thermEvent a0 a1 a2 a3 s) :=
  k.step hG hQ (within_start fun h => within_ite (within_raiseF (within_setEvt h)) (within_raiseH (within_setEvt h)))

theorem within_evalUnknown {a0 : Nat} (hG : [0x02, 0x04, 0x09, 0x1D, 0x51, 0x7C] ⊆ G := by decide)
    (hQ : [.link, .intc, .jr] ⊆ Q := by decide) : Within G Q s0 (evalUnknown a0 s) := by
  refine k.step hG hQ (within_start fun h => ?_)
  unfold evalUnknown
  extract_lets x0 x1 x2 x4
  have hp := page_unkFld a0
  have h3 : Within _ _ s x2 := within_ite (within_put h) h
  exact within_ite h3 (within_thermEvent (within_putB h3))

theorem within_excludeSensor {a0 : Nat} (hk : a0 < 15 := by omega) (hG : [0x02, 0x04, 0x09, 0x1D, 0x51, 0x7C] ⊆ G := by decide)
    (hQ : [.link, .intc, .jr, .heat] ⊆ Q := by decide) : Within G Q s0 (excludeSensor a0 s) := by
  refine k.step hG hQ (within_start fun h => ?_)
  unfold excludeSensor
  extract_lets x0 x1 x3 x5 x6
  have hp := page_sensExcl hk
  have hq := page_sensCnt hk
  have h2 : Within _ _ s x1 := within_count (within_put h)
  have h4 : Within _ _ s x3 := within_ite (within_put h2) h2
  have h7 : Within _ _ s x6 := within_mk h4
  exact within_ite h (within_evalUnknown (within_thermEvent h7))

theorem within_readmitSensor {a0 : Nat} (hk : a0 < 15 := by omega) (hG : [0x02, 0x04, 0x09, 0x1D, 0x51, 0x7C] ⊆ G := by decide)
    (hQ : [.link, .intc, .jr, .heat] ⊆ Q := by decide) : Within G Q s0 (readmitSensor a0 s) := by
  refine k.step hG hQ (within_start fun h => ?_)
  unfold readmitSensor
  extract_lets x0 x1 x3 x5 x6
  have hp := page_sensExcl hk
  have h2 : Within _ _ s x1 := within_put h
  have h4 : Within _ _ s x3 := within_ite (within_put h2) h2
  have h7 : Within _ _ s x6 := within_mk h4
  exact within_evalUnknown (within_thermEvent h7)

theorem within_shutdownDemand (hG : [0x02, 0x03, 0x04, 0x09, 0x14, 0x51] ⊆ G := by decide) (hQ : [.link, .intc, .jr] ⊆ Q := by decide) :
    Within G Q s0 (shutdownDemand s) :=
  k.step hG hQ (within_start fun h => within_ite (within_postWrite h) (within_demand h))

theorem within_enterShutdown {a0 : Nat} (hG : [0x02, 0x03, 0x04, 0x09, 0x14, 0x41, 0x51] ⊆ G := by decide)
    (hQ : [.link, .intc, .jr, .weave] ⊆ Q := by decide) : Within G Q s0 (enterShutdown a0 s) :=
  k.step hG hQ (within_start fun h => within_ite (within_converterFault (within_raiseF h)) (within_shutdownDemand (within_raiseH h)))

theorem within_endDemand {a0 : Nat} {a1 : Nat} (hG : [0x02, 0x03, 0x09, 0x51] ⊆ G := by decide) (hQ : [.link, .intc] ⊆ Q := by decide) :
    Within G Q s0 (endDemand a0 a1 s) :=
  k.step hG hQ (within_start fun h => within_ite (within_postWrite h) h)

theorem within_blockActions (hG : ringPages ⊆ G := by decide) (hQ : [.pwr] ⊆ Q := by decide) : Within G Q s0 (blockActions s) := by
  refine k.step hG hQ (within_start fun h => ?_)
  unfold blockActions
  extract_lets x0
  exact within_assertOpen (within_blockTokens (within_mk h))

theorem within_hardLimit {a0 : Nat} (hG : [0x02, 0x03, 0x04, 0x09, 0x14, 0x20, 0x51, 0x7C] ++ ringPages ++ louvrePages ⊆ G := by decide)
    (hQ : [.pwr, .link, .intc, .jr, .porter, .louv] ⊆ Q := by decide) : Within G Q s0 (hardLimit a0 s) := by
  refine k.step hG hQ (within_start fun h => ?_)
  unfold hardLimit
  extract_lets x0 x2 x4
  have h1 : Within _ _ s x0 := within_retain (within_raiseH h)
  have h3 : Within _ _ s x2 := within_demand h1
  clear_value x2
  refine within_ite (within_blockActions (within_raiseF (within_put h))) (within_ite ?_ h3)
  exact within_foldl_range (within_mk h3) fun _ n _ k7 => within_louvFault k7

theorem within_evalThrot (hG : [0x1D] ⊆ G := by decide) : Within G Q s0 (evalThrot s) := by
  refine k.step hG (List.nil_subset Q) (within_start fun h => ?_)
  unfold evalThrot
  extract_lets x0
  exact within_putB h

theorem within_putLevel {a0 : Nat} (hG : [0x02, 0x04, 0x09, 0x1D, 0x51, 0x7C] ⊆ G := by decide)
    (hQ : [.link, .intc, .jr] ⊆ Q := by decide) : Within G Q s0 (putLevel a0 s) := by
  refine k.step hG hQ (within_start fun h => ?_)
  unfold putLevel
  extract_lets x0 x1 x2
  have hp := page_unkFld a0
  have hp := page_levelFld a0
  exact within_ite h (within_thermEvent (within_put h))

theorem within_evalLevel {a0 : Nat} {a1 : Int}
    (hG : [0x02, 0x03, 0x04, 0x09, 0x14, 0x1D, 0x20, 0x41, 0x51, 0x7C] ++ ringPages ++ louvrePages ⊆ G := by decide)
    (hQ : [.pwr, .link, .intc, .jr, .weave, .porter, .heat, .louv] ⊆ Q := by decide) : Within G Q s0 (evalLevel a0 a1 s) := by
  refine k.step hG hQ (within_start fun h => ?_)
  unfold evalLevel
  split
  exacts [(by extract_lets x0 x1 x2 x3 x4 x6 x8 x9 x11; have h5 : Within _ _ s x4 := (within_putLevel (within_mk h)); have h7 : Within _ _ s x6 := (within_ite (within_enterShutdown h5) (within_endDemand h5)); have h10 : Within _ _ s x9 := (within_ite (within_hardLimit h7) h7); exact (within_evalThrot (within_mk h10)))]

theorem within_putBand {a0 : Nat} (hG : [0x02, 0x04, 0x09, 0x1D, 0x51, 0x7C] ⊆ G := by decide)
    (hQ : [.link, .intc, .jr, .heat] ⊆ Q := by decide) : Within G Q s0 (putBand a0 s) := by
  refine k.step hG hQ (within_start fun h => ?_)
  unfold putBand
  extract_lets x0 x2
  have h1 : Within _ _ s x0 := within_thermEvent (within_put h)
  exact within_ite h (within_mk h1)

theorem within_evalBand {a0 : Int} (hG : [0x02, 0x04, 0x09, 0x1D, 0x51, 0x7C] ⊆ G := by decide)
    (hQ : [.link, .intc, .jr, .heat] ⊆ Q := by decide) : Within G Q s0 (evalBand a0 s) :=
  k.step hG hQ (within_start fun h => within_putBand h)

theorem within_dieSettles {a0 : Nat} (hG : [0x02, 0x04, 0x09, 0x1D, 0x51, 0x7C] ⊆ G := by decide)
    (hQ : [.link, .intc, .jr, .heat] ⊆ Q := by decide) : Within G Q s0 (dieSettles a0 s) := by
  refine k.step hG hQ (within_start fun h => ?_)
  unfold dieSettles
  extract_lets x0
  have h1 : Within _ _ s x0 := within_evalThrot (within_putLevel h)
  exact within_ite (within_putBand h1) h1

theorem within_evalFuseok (hG : [0x02, 0x04, 0x07, 0x09, 0x1D, 0x51, 0x7C] ⊆ G := by decide) (hQ : [.link, .intc, .jr] ⊆ Q := by decide) :
    Within G Q s0 (evalFuseok s) := by
  refine k.step hG hQ (within_start fun h => ?_)
  unfold evalFuseok
  extract_lets x0 x1 x2
  have h3 : Within _ _ s x2 := within_ite h (within_thermEvent (within_putB h))
  exact within_ite (within_raiseH (within_setEvt (within_put h3))) h3

theorem within_readSensor {a0 : Nat} (hk : a0 < 15 := by omega) (hG : [0x02, 0x04, 0x09, 0x1D, 0x51, 0x7C] ⊆ G := by decide)
    (hQ : [.link, .intc, .jr, .heat] ⊆ Q := by decide) : Within G Q s0 (readSensor a0 s) := by
  refine k.step hG hQ (within_start fun h => ?_)
  unfold readSensor
  extract_lets x0 x1 x2 x4 x5
  have hp := page_sensT hk
  have h3 : Within _ _ s x2 := within_putI h
  have h6 : Within _ _ s x5 := within_mk h3
  exact within_ite h (within_ite (within_excludeSensor h6) h6)

theorem within_crossCheck {a0 : Nat} (hQ : [.heat] ⊆ Q := by decide) : Within G Q s0 (crossCheck a0 s) := by
  refine k.step (List.nil_subset G) hQ (within_start fun h => ?_)
  unfold crossCheck
  extract_lets x0 x1 x2 x3 x4
  exact within_ite h (within_mk h)

theorem within_evalDie {a0 : Nat}
    (hG : [0x02, 0x03, 0x04, 0x09, 0x14, 0x1D, 0x20, 0x41, 0x51, 0x7C] ++ ringPages ++ louvrePages ⊆ G := by decide)
    (hQ : [.pwr, .link, .intc, .jr, .weave, .porter, .heat, .louv] ⊆ Q := by decide) : Within G Q s0 (evalDie a0 s) := by
  refine k.step hG hQ (within_start fun h => ?_)
  unfold evalDie
  extract_lets s1 ts
  have h1 : Within _ _ s s1 := within_evalUnknown h
  clear_value ts
  rcases ts with _ | ⟨t0, r⟩
  · exact within_evalLevel h1
  · exact within_evalLevel (within_ite (within_putI (within_putI h1)) (within_ite (within_putI (within_putI h1))
      (within_putI (within_putI h1))))

theorem within_hreqWrite {a0 : Word} (hG : [0x41, 0x51, 0x7C] ⊆ G := by decide) (hQ : [.link, .weave] ⊆ Q := by decide) :
    Within G Q s0 (hreqWrite a0 s) := by
  refine k.step hG hQ (within_start fun h => ?_)
  unfold hreqWrite
  extract_lets x0
  have h1 : Within _ _ s x0 := within_putB h
  exact within_ite (within_converterFault h1) h1

theorem within_ntcApply {a0 : Nat} {a1 : Nat} (hG : [0x02, 0x03, 0x04, 0x09, 0x14, 0x1D, 0x51, 0x7C] ⊆ G := by decide)
    (hQ : [.link, .intc, .jr, .heat] ⊆ Q := by decide) : Within G Q s0 (ntcApply a0 a1 s) := by
  refine k.step hG hQ (within_start fun h => ?_)
  unfold ntcApply
  extract_lets x0 x1 x2
  have h3 : Within _ _ s x2 := within_mk h
  exact within_ite h (within_evalThrot (within_ite (within_thermEvent h3) (within_ite (within_endDemand (within_shutdownDemand (within_raiseH h3))) h3)))

theorem within_putNtcState {a0 : Nat} {a1 : Nat} {a2 : Bool} (hk : a0 < 4 := by omega)
    (hG : [0x02, 0x04, 0x09, 0x1D, 0x51, 0x7C] ⊆ G := by decide) (hQ : [.link, .intc, .jr] ⊆ Q := by decide) :
    Within G Q s0 (putNtcState a0 a1 a2 s) :=
  k.step hG hQ (within_start fun h => within_ite h (within_thermEvent (within_put h)))

theorem within_ntcLapse {a0 : Nat} (hG : [0x1D] ⊆ G := by decide) (hQ : [.heat] ⊆ Q := by decide) : Within G Q s0 (ntcLapse a0 s) := by
  refine k.step hG hQ (within_start fun h => ?_)
  unfold ntcLapse
  extract_lets x0
  exact within_evalThrot (within_mk h)

theorem within_touchReady (hG : [0x10] ⊆ G := by decide) : Within G Q s0 (touchReady s) :=
  k.step hG (List.nil_subset Q) (within_start fun h => within_putB h)

theorem within_touchEnd {a0 : Nat} (hG : [0x10] ⊆ G := by decide) : Within G Q s0 (touchEnd a0 s) :=
  have ht : (subBit PANEL_TOUCH_STAT_TOUCH a0).addr = 0x10048 := rfl
  k.step hG (List.nil_subset Q) (within_start fun h => within_put h)

theorem within_rebase {a0 : Nat} {a1 : Nat} (hk : a0 < 12 := by omega) (hG : [0x02, 0x04, 0x09, 0x10, 0x51] ⊆ G := by decide)
    (hQ : [.link, .intc, .jr, .panel] ⊆ Q := by decide) : Within G Q s0 (rebase a0 a1 s) := by
  refine k.step hG hQ (within_start fun h => ?_)
  unfold rebase
  extract_lets x0 x2 x4 x5
  have hst : (subBit PANEL_TOUCH_STAT_STUCKK a0).addr = 0x10048 := rfl
  have h1 : Within _ _ s x0 := within_count (within_put h)
  have h3 : Within _ _ s x2 := within_put h1
  have h6 : Within _ _ s x5 := within_mk h3
  exact within_raiseH (within_setEvt h6)

theorem within_driftKey {a0 : Bool} {a1 : Nat} (hk : a1 < 12 := by omega) (hG : [0x10] ⊆ G := by decide) :
    Within G Q s0 (driftKey a0 a1 s) := by
  refine k.step hG (List.nil_subset Q) (within_start fun h => ?_)
  unfold driftKey
  extract_lets x0
  exact within_ite h (within_put h)

theorem within_scanKey {a0 : Bool} {a1 : Nat} (hk : a1 < 12 := by omega) (hG : [0x02, 0x04, 0x09, 0x10, 0x51] ⊆ G := by decide)
    (hQ : [.link, .intc, .jr, .panel] ⊆ Q := by decide) : Within G Q s0 (scanKey a0 a1 s) := by
  refine k.step hG hQ (within_start fun h => ?_)
  unfold scanKey
  extract_lets x0 x1 x2 x3 x4 x5 x6 x7 x8 x9 x11 x12 x13 x15 x17
  have ht : (subBit PANEL_TOUCH_STAT_TOUCH a1).addr = 0x10048 := rfl
  have h10 : Within _ _ s x9 := within_mk h
  have h14 : Within _ _ s x13 := within_mk h10
  have h16 : Within _ _ s x15 := within_countWrap (within_put h10)
  exact within_ite (within_rebase (within_touchEnd h10)) (within_ite (within_ite (within_rebase h14) (within_driftKey h14)) (within_ite (within_ite (within_touchEnd h10) (within_mk h10)) (within_ite (within_setEvt (within_mk h16)) (within_driftKey h10))))

theorem within_firstScans {a0 : Nat} {a1 : Nat} (hk : a0 < 12 := by omega) (hG : [0x10] ⊆ G := by decide) (hQ : [.panel] ⊆ Q := by decide) :
    Within G Q s0 (firstScans a0 a1 s) := by
  refine k.step hG hQ (within_start fun h => ?_)
  unfold firstScans
  extract_lets x0 x1 x2 x4
  have h3 : Within _ _ s x2 := within_put h
  exact within_ite (within_mk h) (within_touchReady (within_mk h3))

theorem within_closeSession {a0 : Nat} (hG : [0x02, 0x04, 0x09, 0x12, 0x51] ⊆ G := by decide)
    (hQ : [.link, .intc, .jr, .svc] ⊆ Q := by decide) : Within G Q s0 (closeSession a0 s) := by
  refine k.step hG hQ (within_start fun h => ?_)
  unfold closeSession
  split
  · exact h
  · extract_lets n s1 c _ _ s2
    have h1 : Within _ _ s (s1.addSat SERVICE_CNT_DISC n) :=
      within_addSat (within_put (within_put (within_put (within_put h))))
    have h2 : Within _ _ s s2 := within_mk h1
    exact within_raiseH (within_setEvt h2)

theorem within_recordFault {a0 : Nat} {a1 : Nat} (hG : [0x14] ⊆ G := by decide) : Within G Q s0 (recordFault a0 a1 s) :=
  k.step hG (List.nil_subset Q) (within_start fun h => within_count (within_put (within_put h)))

theorem within_safetyFault {a0 : Nat} {a1 : Nat} (hG : [0x02, 0x04, 0x09, 0x14, 0x51] ⊆ G := by decide)
    (hQ : [.link, .intc, .jr] ⊆ Q := by decide) : Within G Q s0 (safetyFault a0 a1 s) :=
  k.step hG hQ (within_start fun h => within_raiseH (within_setEvt (within_recordFault h)))

theorem within_inputFault {a0 : Nat} {a1 : Nat} (hG : [0x02, 0x03, 0x04, 0x09, 0x14, 0x51] ⊆ G := by decide)
    (hQ : [.link, .intc, .jr] ⊆ Q := by decide) : Within G Q s0 (inputFault a0 a1 s) :=
  k.step hG hQ (within_start fun h => within_demand (within_safetyFault (within_put h (page_mem (page_inputFld a0)))))

theorem within_evalInput {a0 : Nat} (hG : [0x02, 0x03, 0x04, 0x09, 0x14, 0x51] ⊆ G := by decide)
    (hQ : [.link, .intc, .jr, .safety] ⊆ Q := by decide) : Within G Q s0 (evalInput a0 s) := by
  refine k.step hG hQ (within_start fun h => ?_)
  have hput {v : Nat} {t : State} (ht : Within [0x02, 0x03, 0x04, 0x09, 0x14, 0x51] [.link, .intc, .jr, .safety] s t) :
      Within [0x02, 0x03, 0x04, 0x09, 0x14, 0x51] [.link, .intc, .jr, .safety] s (t.put (inputFld a0) v) :=
    within_put ht (page_mem (page_inputFld a0))
  unfold evalInput
  split
  · extract_lets x0 x1 x2 x4 x5
    have h3 : Within _ _ s x2 := within_mk h
    have h6 : Within _ _ s x5 :=
      within_ite (within_demand (hput h3)) (within_ite (hput h3) (within_ite (within_demand (hput h3)) h3))
    exact within_ite (within_inputFault h6) h6
  · exact h

theorem within_filterChan {a0 : Nat} {a1 : Nat} (hG : [0x14] ⊆ G := by decide) (hQ : [.safety] ⊆ Q := by decide) :
    Within G Q s0 (filterChan a0 a1 s) := by
  refine k.step hG hQ (within_start fun h => ?_)
  unfold filterChan
  extract_lets x0 x1 x2 x3
  have h4 : Within _ _ s x3 := within_mk h
  exact within_ite h (within_putB h4)

theorem within_judgeTest {a0 : Nat} {a1 : Nat} (hG : [0x02, 0x03, 0x04, 0x09, 0x14, 0x51] ⊆ G := by decide)
    (hQ : [.link, .intc, .jr, .safety] ⊆ Q := by decide) : Within G Q s0 (judgeTest a0 a1 s) := by
  refine k.step hG hQ (within_start fun h => ?_)
  unfold judgeTest
  extract_lets x0 x2 x3 x4 x6
  have h1 : Within _ _ s x0 := within_countWrap h
  have h5 : Within _ _ s x4 := within_count h
  have h7 : Within _ _ s x6 := within_mk h5
  exact within_ite (within_mk h1) (within_ite (within_inputFault h7) h7)

theorem within_resetRefused {a0 : Nat} (hG : [0x02, 0x04, 0x09, 0x14, 0x51] ⊆ G := by decide) (hQ : [.link, .intc, .jr] ⊆ Q := by decide) :
    Within G Q s0 (resetRefused a0 s) :=
  k.step hG hQ (within_start fun h => within_raiseH (within_setEvt h))

theorem within_resetRequest {a0 : Bool} {a1 : Bool} (hG : [0x02, 0x04, 0x09, 0x14, 0x51] ⊆ G := by decide)
    (hQ : [.link, .intc, .jr, .safety] ⊆ Q := by decide) : Within G Q s0 (resetRequest a0 a1 s) := by
  refine k.step hG hQ (within_start fun h => ?_)
  unfold resetRequest
  extract_lets refuse x5 x7
  have hr (n : Nat) : Within [0x02, 0x04, 0x09, 0x14, 0x51] [.link, .intc, .jr, .safety] s (refuse n s) :=
    within_resetRefused (within_ite h (within_capture h))
  have h6 : Within _ _ s x5 := within_put h
  exact within_ite (hr _) (within_ite (hr _) (within_ite (hr _) (within_ite (hr _) (within_mk h6))))

theorem within_safetyResetWrite {a0 : Word} {a1 : Bool} (hG : [0x02, 0x04, 0x09, 0x14, 0x51] ⊆ G := by decide)
    (hQ : [.link, .intc, .jr, .safety] ⊆ Q := by decide) : Within G Q s0 (safetyResetWrite a0 a1 s) :=
  k.step hG hQ (within_start fun h => within_ite (within_resetRequest h) (within_capture h))

theorem within_safetyStopWrite {a0 : Word} (hG : [0x02, 0x03, 0x04, 0x09, 0x14, 0x51] ⊆ G := by decide)
    (hQ : [.link, .intc, .jr] ⊆ Q := by decide) : Within G Q s0 (safetyStopWrite a0 s) := by
  refine k.step hG hQ (within_start fun h => ?_)
  unfold safetyStopWrite
  extract_lets x0
  have h1 : Within _ _ s x0 := within_ite (within_demand h) h
  exact within_ite h1 (within_capture h1)

theorem within_sampleButton {a0 : Nat} {a1 : Bool} {a2 : Nat} (hG : [0x02, 0x04, 0x09, 0x11, 0x14, 0x51] ⊆ G := by decide)
    (hQ : [.link, .intc, .jr, .panel, .safety] ⊆ Q := by decide) : Within G Q s0 (sampleButton a0 a1 a2 s) := by
  refine k.step hG hQ (within_start fun h => ?_)
  unfold sampleButton
  extract_lets x0 x1 x2 x3 x5 x6 x7 x9
  have hx0 : x0.addr = 0x11044 := rfl
  have h4 : Within _ _ s x3 := within_ite (within_mk h) h
  have h8 : Within _ _ s x7 := within_setEvt (within_putB (within_mk h4))
  exact within_ite (within_mk h4) (within_ite (within_mk h4) (within_ite h8 (within_ite (within_mk h8) (within_ite (within_resetRequest h8) h8))))

theorem within_setSeal {a0 : Bool} (hG : [0x15] ⊆ G := by decide) (hQ : [.link] ⊆ Q := by decide) : Within G Q s0 (setSeal a0 s) :=
  k.step hG hQ (within_start fun h => within_ite h (within_passSeal (within_putB h)))

theorem within_sealMismatch {a0 : Nat} (hG : [0x02, 0x04, 0x09, 0x15, 0x20, 0x51] ⊆ G := by decide)
    (hQ : [.link, .intc, .jr, .porter] ⊆ Q := by decide) : Within G Q s0 (sealMismatch a0 s) := by
  refine k.step hG hQ (within_start fun h => ?_)
  unfold sealMismatch
  extract_lets x0 x1
  have h2 : Within _ _ s x1 := within_putHSwarp (within_count h)
  exact within_setSeal (within_retain (within_raiseH (within_setEvt h2)))

theorem within_sealSamples {a0 : Nat} {a1 : Nat} {a2 : Nat} (hG : [0x02, 0x04, 0x09, 0x15, 0x20, 0x51] ⊆ G := by decide)
    (hQ : [.link, .intc, .jr, .porter, .safety] ⊆ Q := by decide) : Within G Q s0 (sealSamples a0 a1 a2 s) := by
  refine k.step hG hQ (within_start fun h => ?_)
  unfold sealSamples
  extract_lets x0 x1 x2 x4 x5 x7 x9
  have h3 : Within _ _ s x2 := within_setEvt (within_put (within_put (within_mk h)))
  have h6 : Within _ _ s x5 := within_raiseH (within_setEvt (within_count h))
  clear_value x2 x5
  have h7 : Within _ _ s (x5.put SEAL_STAT_BUSY 1) := within_put h6
  refine within_ite (within_ite h3 (within_ite (within_ite h3 ?_) (within_sealMismatch h3))) (within_ite (within_mk h7) ?_)
  · exact within_setSeal (within_raiseH (within_setEvt h3))
  · exact within_sealMismatch (within_put (within_mk h6))

theorem within_sealReadWrite {a0 : Word} (hG : [0x02, 0x04, 0x09, 0x15, 0x51] ⊆ G := by decide)
    (hQ : [.link, .intc, .jr] ⊆ Q := by decide) : Within G Q s0 (sealReadWrite a0 s) := by
  refine k.step hG hQ (within_start fun h => ?_)
  unfold sealReadWrite
  extract_lets x0
  have h1 : Within _ _ s x0 := within_ite (within_put h) h
  exact within_ite (within_capture h) (within_ite h1 (within_capture h1))

theorem within_putLen {a0 : Nat} {a1 : Nat} {a2 : Bool} (hk : a0 < 4 := by omega) (hG : louvrePages ⊆ G := by decide)
    (hQ : [.louv] ⊆ Q := by decide) : Within G Q s0 (putLen a0 a1 a2 s) := by
  refine k.step hG hQ (within_start fun h => ?_)
  unfold putLen
  extract_lets x0 x2
  have h1 : Within _ _ s x0 := within_modLouv h
  exact within_putB (within_put h1)

theorem within_louvEval {a0 : Nat} (hk : a0 < 4 := by omega) (hG : [0x02, 0x04, 0x09, 0x51] ++ louvrePages ⊆ G := by decide)
    (hQ : [.link, .intc, .jr, .louv] ⊆ Q := by decide) : Within G Q s0 (louvEval a0 s) := by
  refine k.step hG hQ (within_start fun h => ?_)
  unfold louvEval
  extract_lets x0
  exact within_ite (within_louvState (within_gatesOff h)) (within_ite (within_louvState (within_gatesOff h)) (within_ite (within_louvState (within_modLouv (within_gatesOff h))) h))

theorem within_refreshStep {a0 : Nat} (hQ : [.louv] ⊆ Q := by decide) : Within G Q s0 (refreshStep a0 s) := by
  refine k.step (List.nil_subset G) hQ (within_start fun h => ?_)
  unfold refreshStep
  extract_lets x0 x1 x2
  split
  exacts [(by extract_lets x3 x5; have h4 : Within _ _ s x3 := (within_ite (within_emit h) h); exact (within_modLouv h4))]

theorem within_shuntStep {a0 : Nat} {a1 : Nat} {a2 : Int} {a3 : Bool} (hk : a0 < 4 := by omega)
    (hG : [0x02, 0x04, 0x09, 0x1F, 0x51] ++ louvrePages ⊆ G := by decide) (hQ : [.link, .intc, .jr, .analog] ⊆ Q := by decide) :
    Within G Q s0 (shuntStep a0 a1 a2 a3 s) := by
  refine k.step hG hQ (within_start fun h => ?_)
  unfold shuntStep
  extract_lets x0 x1 fld x3
  have hp (p : Nat) : min (pageOf (fld p).addr) 0x100 ∈ [0x02, 0x04, 0x09, 0x1F, 0x51] ++ louvrePages := page_ite (hg := page_ite)
  refine within_ite (within_setEvt (within_count h)) ?_
  split
  exact within_hadcResult (within_putI (within_putI (within_putI h (hp _)) (hp _)) (hp _))

theorem within_louvStall {a0 : Nat} (hk : a0 < 4 := by omega) (hG : [0x02, 0x04, 0x09, 0x51] ++ louvrePages ⊆ G := by decide)
    (hQ : [.link, .intc, .jr, .louv] ⊆ Q := by decide) : Within G Q s0 (louvStall a0 s) := by
  refine k.step hG hQ (within_start fun h => ?_)
  unfold louvStall
  extract_lets x0 x1 x2
  have h3 : Within _ _ s x2 := within_setEvt (within_modLouv h)
  exact within_ite (within_louvFault h3) (within_louvState (within_gatesOff h3))

theorem within_louvreCtlWrite {a0 : Nat} {a1 : Word} {a2 : Bool} (hk : a0 < 4 := by omega)
    (hG : [0x02, 0x04, 0x09, 0x51] ++ louvrePages ⊆ G := by decide) (hQ : [.link, .intc, .jr, .louv] ⊆ Q := by decide) :
    Within G Q s0 (louvreCtlWrite a0 a1 a2 s) := by
  refine k.step hG hQ (within_start fun h => ?_)
  unfold louvreCtlWrite
  extract_lets x0 x1 x2 x3 x4 x5 x7 x9 x11
  have hx0 : x0 = 0x18050 + 0x1000 * a0 := rfl
  have h6 : Within _ _ s x5 := within_ite (within_modLouv (within_put (within_put h))) h
  have h8 : Within _ _ s x7 := within_setRaw h6
  have h10 : Within _ _ s x9 := within_ite (within_louvState (within_put h8)) h8
  have h12 : Within _ _ s x11 := within_louvEval h10
  exact within_ite (within_raiseH (within_setEvt (within_capture h))) (within_ite (within_capture h) (within_ite h12 (within_capture h12)))

theorem within_auxState {a0 : Nat} {a1 : Nat} {a2 : Bool} {a3 : Bool} (hG : [0x02, 0x03, 0x04, 0x09, 0x14, 0x1C, 0x51] ⊆ G := by decide)
    (hQ : [.link, .intc, .jr, .aux] ⊆ Q := by decide) : Within G Q s0 (auxState a0 a1 a2 a3 s) := by
  refine k.step hG hQ (within_start fun h => ?_)
  unfold auxState
  extract_lets x0 x1 x3 x5 x7 xp x9 x11
  have h2 : Within _ _ s x1 := within_ite (within_demand h) h
  have h4 : Within _ _ s x3 := within_put h2
  have h6 : Within _ _ s x5 := within_ite h4 (within_setEvt h4)
  have h8 : Within _ _ s x7 := within_ite (within_putHSwarp h6) h6
  have hp : Within _ _ s xp := within_ite (within_setEvt (within_put h8)) h8
  have h10 : Within _ _ s x9 := within_raiseH hp
  exact within_ite (within_mk h10) h10

theorem within_enterHiccup {a0 : Nat} {a1 : Bool} (hG : [0x02, 0x03, 0x04, 0x09, 0x14, 0x1C, 0x51] ⊆ G := by decide)
    (hQ : [.link, .intc, .jr, .aux] ⊆ Q := by decide) : Within G Q s0 (enterHiccup a0 a1 s) := by
  refine k.step hG hQ (within_start fun h => ?_)
  unfold enterHiccup
  extract_lets x0 x1 x2 x3
  have h4 : Within _ _ s x3 := within_auxState (within_count (within_mk h))
  exact within_ite (within_auxState h4) h4

theorem within_auxPi (hG : [0x02, 0x09, 0x1C, 0x51] ⊆ G := by decide) (hQ : [.link, .intc, .aux] ⊆ Q := by decide) :
    Within G Q s0 (auxPi s) := by
  refine k.step hG hQ (within_start fun h => ?_)
  unfold auxPi
  extract_lets x0 x1 x2 x3 x4 x5 x6 x7 x8 x10 x12
  have h9 : Within _ _ s x8 := within_ite (within_setEvt h) h
  have h11 : Within _ _ s x10 := within_putB (within_put h9)
  exact within_mk h11

theorem within_auxGood (hG : [0x02, 0x09, 0x1C, 0x51] ⊆ G := by decide) (hQ : [.link, .intc] ⊆ Q := by decide) : Within G Q s0 (auxGood s) := by
  refine k.step hG hQ (within_start fun h => ?_)
  unfold auxGood
  extract_lets x0 x1 x2 x3
  have h4 : Within _ _ s x3 := within_put h
  exact within_ite h4 (within_setEvt (within_putB h4))

theorem within_auxCtlWrite {a0 : Word} (hG : [0x02, 0x03, 0x04, 0x09, 0x14, 0x1C, 0x51] ⊆ G := by decide)
    (hQ : [.link, .intc, .jr, .aux] ⊆ Q := by decide) : Within G Q s0 (auxCtlWrite a0 s) := by
  refine k.step hG hQ (within_start fun h => ?_)
  unfold auxCtlWrite
  extract_lets x0 x1 x3 x4
  have h2 : Within _ _ s x1 := within_putB h
  have h5 : Within _ _ s x4 := within_ite (within_ite (within_auxState h2) (within_auxState h2)) (within_ite (within_auxState h2) (within_ite (within_auxState (within_mk h2)) h2))
  exact within_ite h5 (within_capture h5)

end

theorem frame_execSensorConversion {s t : State} {a0 : Nat} {a1 : Int} {a2 : Bool} (hk : a0 < 15 := by omega) (he : execSensorConversion a0 a1 a2 s = .next t) :
    Within ([0x02, 0x04, 0x09, 0x1D, 0x51, 0x7C]) [.link, .intc, .jr, .heat] s t := by
  refine within_run (fun s => within_start fun h => ?_) he
  extract_lets x0
  exact within_ite h (within_ite (within_dieSettles (within_excludeSensor h)) (within_mk h))

theorem frame_execSensorReading {s t : State} {a0 : Bool} (he : execSensorReading a0 s = .next t) :
    Within ([0x02, 0x03, 0x04, 0x07, 0x09, 0x14, 0x1D, 0x20, 0x41, 0x51, 0x7C] ++ ringPages ++ louvrePages) [.pwr, .link, .intc, .jr, .weave, .porter, .heat, .louv] s t := by
  refine within_run (fun s => within_start fun h => ?_) he
  extract_lets x0 x1 x9
  have h2 : Within _ _ s x1 := within_foldl (within_foldl_mem h fun _ _ hm k5 => have hx := List.mem_range.1 (List.mem_filter.1 hm).1; within_readSensor k5) fun _ _ k8 => within_crossCheck k8
  have h10 : Within _ _ s x9 := within_evalDie h2
  exact within_ite (within_evalBand h10) (within_evalFuseok (within_evalDie (within_evalDie h2)))

theorem frame_execSensorExclude {s t : State} {a0 : Nat} (hk : a0 < 15 := by omega) (he : execSensorExclude a0 s = .next t) :
    Within ([0x02, 0x04, 0x09, 0x1D, 0x51, 0x7C]) [.link, .intc, .jr, .heat] s t := by
  refine within_run (fun s => within_start fun h => ?_) he
  exact within_ite (within_dieSettles (within_excludeSensor h)) h

theorem frame_execSensorReadmit {s t : State} {a0 : Nat} (hk : a0 < 15 := by omega) (he : execSensorReadmit a0 s = .next t) :
    Within ([0x02, 0x04, 0x09, 0x1D, 0x51, 0x7C]) [.link, .intc, .jr, .heat] s t := by
  refine within_run (fun s => within_start fun h => ?_) he
  exact within_ite (within_dieSettles (within_readmitSensor h)) h

theorem frame_execHreq {s t : State} {a0 : Word} (he : execHreq a0 s = .next t) :
    Within ([0x41, 0x51, 0x7C]) [.link, .weave] s t := by
  refine within_run (fun s => within_start fun h => ?_) he
  exact within_hreqWrite h

theorem frame_execNtcReading {s t : State} {a0 : Nat} {a1 : Rat} (hk : a0 < 4 := by omega) (he : execNtcReading a0 a1 s = .next t) :
    Within ([0x02, 0x03, 0x04, 0x09, 0x14, 0x1D, 0x1F, 0x51, 0x7C]) [.link, .intc, .jr, .heat, .analog] s t := by
  refine within_run (fun s => within_start fun h => ?_) he
  extract_lets x0 x1 x2 x3 x4 x6 x8
  have h5 : Within _ _ s x4 := within_hadcResult h
  have h7 : Within _ _ s x6 := within_ite (within_putI h5) h5
  have h9 : Within _ _ s x8 := within_putNtcState h7
  exact within_ite h (within_ite (within_ntcApply h9) (within_ite (within_ntcLapse h9) h9))

theorem frame_execFthermCopy {s t : State} (he : execFthermCopy s = .next t) :
    Within ([0x02, 0x04, 0x06, 0x09, 0x1D, 0x21, 0x51, 0x7C]) [.link, .intc, .jr, .s0, .heat, .sec] s t := by
  refine within_run (fun s => within_start fun h => ?_) he
  extract_lets x0 x2 x3
  have h1 : Within _ _ s x0 := within_count h
  have h4 : Within _ _ s x3 := within_mk h1
  exact within_ownRead (within_ownRead (within_ownRead (within_ownRead h4)))

theorem frame_execFthermStale {s t : State} (he : execFthermStale s = .next t) :
    Within ([0x02, 0x09, 0x1D, 0x51]) [.link, .intc] s t := by
  refine within_run (fun s => within_start fun h => ?_) he
  exact within_putEvt h

theorem frame_execScrubPass {s t : State} {a0 : List (Nat × Nat × Nat × Bool)} (hx : ∀ x ∈ a0, x.1 < 12) (he : execScrubPass a0 s = .next t) :
    Within ([0x02, 0x09, 0x41, 0x50, 0x51, 0x7C] ++ loomPages ++ ringPages) [.pwr, .link, .intc, .weave, .loom, .clu, .heat] s t := by
  refine within_run (fun s => within_start fun h => ?_) he
  extract_lets x0 x2 x3
  have h1 : Within _ _ s x0 := within_ite (within_count h) h
  have h4 : Within _ _ s x3 := within_mk h1
  refine within_foldl_mem h4 fun t x hm k7 => ?_
  obtain ⟨e, m, a, ue⟩ := x
  have he : e < 12 := hx _ hm
  exact within_ite (within_stopEngine (within_eccUe k7)) (within_eccCorrect k7)

theorem frame_execTouchScan {s t : State} {a0 : List Nat} (he : execTouchScan a0 s = .next t) :
    Within ([0x02, 0x04, 0x09, 0x10, 0x51]) [.link, .intc, .jr, .panel] s t := by
  refine within_run (fun s => within_start fun h => ?_) he
  extract_lets x0 x1 x2 x3 x8 x9 x10 x12
  have hkey {x : Nat} (hx : x ∈ x0) : x < 12 := List.mem_range.1 (List.mem_filter.1 hx).1
  have h4 : Within _ _ s x3 := within_foldl_mem (within_mk h) fun _ _ hm k7 => have hx := hkey hm; within_put k7
  have h11 : Within _ _ s x10 := within_ite (within_raiseH (within_setEvt h4)) h4
  have h13 : Within _ _ s x12 := within_foldl_mem (within_putB h11) fun _ _ hm k16 => have hx := hkey (List.mem_filter.1 hm).1; within_scanKey k16
  exact within_ite h (within_foldl_mem h13 fun _ _ hm k19 => have hx := hkey (List.mem_filter.1 hm).1; within_firstScans k19)

theorem frame_execStuckKey {s t : State} {a0 : Nat} (hk : a0 < 12 := by omega) (he : execStuckKey a0 s = .next t) :
    Within ([0x02, 0x04, 0x09, 0x10, 0x51]) [.link, .intc, .jr, .panel] s t := by
  refine within_run (fun s => within_start fun h => ?_) he
  extract_lets x0 x2 x4
  have hst : (subBit PANEL_TOUCH_STAT_STUCKK a0).addr = 0x10048 := rfl
  have h1 : Within _ _ s x0 := within_put (within_touchEnd h)
  have h3 : Within _ _ s x2 := within_put h1
  exact within_ite (within_raiseH (within_setEvt (within_mk h3))) h

theorem frame_execLedOpen {s t : State} {a0 : Nat} (hk : a0 < 16 := by omega) (he : execLedOpen a0 s = .next t) :
    Within ([0x02, 0x04, 0x09, 0x11, 0x51]) [.link, .intc, .jr] s t := by
  refine within_run (fun s => within_start fun h => ?_) he
  exact within_ite (within_raiseH (within_setEvt (within_put h))) h

theorem frame_execSafetySample {s t : State} {a0 : Nat} (he : execSafetySample a0 s = .next t) :
    Within ([0x02, 0x03, 0x04, 0x09, 0x14, 0x51]) [.link, .intc, .jr, .safety] s t := by
  refine within_run (fun s => within_start fun h => ?_) he
  extract_lets x0
  have h1 : Within _ _ s x0 := within_foldl h fun _ _ k4 => (within_filterChan k4)
  exact within_foldl h1 fun _ _ k7 => (within_ite (within_evalInput k7) k7)

theorem frame_execTestPulse {s t : State} {a0 : Bool} {a1 : Bool} {a2 : Nat} (he : execTestPulse a0 a1 a2 s = .next t) :
    Within ([0x02, 0x03, 0x04, 0x09, 0x14, 0x51]) [.link, .intc, .jr, .safety] s t := by
  refine within_run (fun s => within_start fun h => ?_) he
  exact within_foldl h fun _ _ k2 => (by extract_lets x3 x4 x5; exact (within_ite k2 (within_ite (within_judgeTest (within_mk k2)) (within_mk k2))))

theorem frame_execSafetyReset {s t : State} {a0 : Word} {a1 : Bool} (he : execSafetyReset a0 a1 s = .next t) :
    Within ([0x02, 0x04, 0x09, 0x14, 0x51]) [.link, .intc, .jr, .safety] s t := by
  refine within_run (fun s => within_start fun h => ?_) he
  exact within_safetyResetWrite h

theorem frame_execSafetyStop {s t : State} {a0 : Word} (he : execSafetyStop a0 s = .next t) :
    Within ([0x02, 0x03, 0x04, 0x09, 0x14, 0x51]) [.link, .intc, .jr] s t := by
  refine within_run (fun s => within_start fun h => ?_) he
  exact within_safetyStopWrite h

theorem frame_execSafetySelftestDone {s t : State} {a0 : Nat} (he : execSafetySelftestDone a0 s = .next t) :
    Within ([0x02, 0x03, 0x04, 0x09, 0x14, 0x51]) [.link, .intc, .jr, .safety] s t := by
  refine within_run (fun s => within_start fun h => ?_) he
  extract_lets x0 x1 x2 x4
  have h3 : Within _ _ s x2 := within_mk h
  have h5 : Within _ _ s x4 := within_raiseH h3
  exact within_ite h (within_ite (within_raiseH (within_setEvt (within_recordFault (within_put h3)))) (within_ite (within_raiseH (within_setEvt (within_put (within_put (within_put h5))))) h5))

theorem frame_execPermitToggle {s t : State} {a0 : Bool} (he : execPermitToggle a0 s = .next t) :
    Within ([0x02, 0x03, 0x04, 0x09, 0x14, 0x51]) [.link, .intc, .jr] s t := by
  refine within_run (fun s => within_start fun h => ?_) he
  exact within_ite (within_demand (within_safetyFault h)) h

theorem frame_execButtonSample {s t : State} {a0 : Nat} {a1 : Bool} (he : execButtonSample a0 a1 s = .next t) :
    Within ([0x02, 0x04, 0x09, 0x11, 0x14, 0x51]) [.link, .intc, .jr, .panel, .safety] s t := by
  refine within_run (fun s => within_start fun h => ?_) he
  exact within_ite h (within_foldl h fun _ _ k2 => (within_sampleButton k2))

theorem frame_execSealRead {s t : State} {a0 : Nat} {a1 : Nat} {a2 : Nat} (he : execSealRead a0 a1 a2 s = .next t) :
    Within ([0x02, 0x04, 0x09, 0x15, 0x20, 0x51, 0x78]) [.link, .intc, .jr, .porter, .safety] s t := by
  refine within_run (fun s => within_start fun h => ?_) he
  exact within_ite h (within_sealSamples h)

theorem frame_execSealReadCmd {s t : State} (he : execSealReadCmd s = .next t) :
    Within ([0x02, 0x04, 0x09, 0x15, 0x51]) [.link, .intc, .jr] s t := by
  refine within_run (fun s => within_start fun h => ?_) he
  exact within_sealReadWrite h

theorem frame_execSealRetry {s t : State} {a0 : Nat} {a1 : Nat} {a2 : Nat} (he : execSealRetry a0 a1 a2 s = .next t) :
    Within ([0x02, 0x04, 0x09, 0x15, 0x20, 0x51, 0x78]) [.link, .intc, .jr, .porter, .safety] s t := by
  refine within_run (fun s => within_start fun h => ?_) he
  exact within_ite (within_sealSamples h) h

theorem frame_execPwmPeriod {s t : State} {a0 a1 : Nat} {a2 : Int} {a3 : Bool} (hk : a0 < 4 := by omega) (he : execPwmPeriod a0 a1 a2 a3 s = .next t) :
    Within ([0x02, 0x04, 0x09, 0x1F, 0x51] ++ louvrePages) [.link, .intc, .jr, .louv, .analog] s t := by
  refine within_run (fun s => within_start fun h => ?_) he
  extract_lets st t l s1 s2 s3
  have ht : Within ([0x02, 0x04, 0x09, 0x1F, 0x51] ++ louvrePages) [.link, .intc, .jr, .louv, .analog] s t := within_modLouv h
  have h1 : Within ([0x02, 0x04, 0x09, 0x1F, 0x51] ++ louvrePages) [.link, .intc, .jr, .louv, .analog] s s1 := by
    unfold s1
    split
    · split
      · exact within_count ht
      · exact within_setEvt (within_count ht)
    · exact ht
  have h3 : Within _ _ s s3 := within_refreshStep (within_put (within_modLouv h1))
  exact within_ite h (within_ite (within_modLouv (within_ite (within_gatesOff ht) ht)) (within_ite (within_shuntStep h3) h3))

theorem frame_execZeroCrossing {s t : State} {a0 : Nat} {a1 : Nat} {a2 : Bool} {a3 : Bool} (hk : a0 < 4 := by omega) (he : execZeroCrossing a0 a1 a2 a3 s = .next t) :
    Within ([0x02, 0x04, 0x09, 0x51] ++ louvrePages) [.link, .intc, .jr, .louv] s t := by
  refine within_run (fun s => within_start fun h => ?_) he
  extract_lets x0 x1 x2
  have h3 : Within _ _ s x2 := within_modLouv h
  exact within_ite h (within_ite (within_ite (within_louvEval (within_louvState h3)) h3) (within_ite (within_modLouv h) (within_ite (within_putLen h) h)))

theorem frame_execCommutation {s t : State} {a0 : Nat} {a1 : Nat} (hk : a0 < 4 := by omega) (he : execCommutation a0 a1 s = .next t) :
    Within (louvrePages) [.louv] s t := by
  refine within_run (fun s => within_start fun h => ?_) he
  extract_lets x0 x1 x2
  exact within_ite (within_putLen (within_modLouv h)) h

theorem frame_execHallChange {s t : State} {a0 : Nat} {a1 : Nat} {a2 : Nat} (hk : a0 < 4 := by omega) (he : execHallChange a0 a1 a2 s = .next t) :
    Within (louvrePages) [.louv] s t := by
  refine within_run (fun s => within_start fun h => ?_) he
  extract_lets x0 x1
  have h2 : Within _ _ s x1 := within_modLouv h
  exact within_ite h (by split; exacts [(by extract_lets x3 x4; have h5 : Within _ _ s x4 := (within_putLen h2); exact (within_ite (within_modLouv h5) h5)), h2])

theorem frame_execHallInvalid {s t : State} {a0 : Nat} (hk : a0 < 4 := by omega) (he : execHallInvalid a0 s = .next t) :
    Within ([0x02, 0x04, 0x09, 0x51] ++ louvrePages) [.link, .intc, .jr, .louv] s t := by
  refine within_run (fun s => within_start fun h => ?_) he
  exact within_ite (within_louvFault h) h

theorem frame_execCatchEnd {s t : State} {a0 : Nat} (hk : a0 < 4 := by omega) (he : execCatchEnd a0 s = .next t) :
    Within ([0x02, 0x04, 0x09, 0x51] ++ louvrePages) [.link, .intc, .jr, .louv] s t := by
  refine within_run (fun s => within_start fun h => ?_) he
  extract_lets x0 x1 x2 x3
  have h4 : Within _ _ s x3 := within_modLouv h
  exact within_ite h (within_ite (within_louvEval (within_louvState (within_modLouv h))) (within_ite (within_ite (within_raiseH h4) h4) (within_ite (within_louvEval (within_louvState (within_modLouv h))) (within_louvState (within_modLouv h)))))

theorem frame_execAlignEnd {s t : State} {a0 : Nat} (hk : a0 < 4 := by omega) (he : execAlignEnd a0 s = .next t) :
    Within ([0x02, 0x04, 0x09, 0x51] ++ louvrePages) [.link, .intc, .jr, .louv] s t := by
  refine within_run (fun s => within_start fun h => ?_) he
  exact within_ite (within_louvState (within_modLouv h)) h

theorem frame_execRampTimeout {s t : State} {a0 : Nat} (hk : a0 < 4 := by omega) (he : execRampTimeout a0 s = .next t) :
    Within ([0x02, 0x04, 0x09, 0x51] ++ louvrePages) [.link, .intc, .jr, .louv] s t := by
  refine within_run (fun s => within_start fun h => ?_) he
  exact within_ite (within_louvStall h) h

theorem frame_execStall {s t : State} {a0 : Nat} (hk : a0 < 4 := by omega) (he : execStall a0 s = .next t) :
    Within ([0x02, 0x04, 0x09, 0x51] ++ louvrePages) [.link, .intc, .jr, .louv] s t := by
  refine within_run (fun s => within_start fun h => ?_) he
  exact within_ite (within_louvStall h) h

theorem frame_execStallRetry {s t : State} {a0 : Nat} (hk : a0 < 4 := by omega) (he : execStallRetry a0 s = .next t) :
    Within ([0x02, 0x04, 0x09, 0x51] ++ louvrePages) [.link, .intc, .jr, .louv] s t := by
  refine within_run (fun s => within_start fun h => ?_) he
  extract_lets x0
  exact within_ite (within_louvState h) h

theorem frame_execCoastEnd {s t : State} {a0 : Nat} {a1 : Bool} (hk : a0 < 4 := by omega) (he : execCoastEnd a0 a1 s = .next t) :
    Within ([0x02, 0x04, 0x09, 0x51] ++ louvrePages) [.link, .intc, .jr, .louv] s t := by
  refine within_run (fun s => within_start fun h => ?_) he
  exact within_ite (within_louvEval (within_louvState h)) h

theorem frame_execDriverUndervoltage {s t : State} (he : execDriverUndervoltage s = .next t) :
    Within ([0x02, 0x04, 0x09, 0x51] ++ louvrePages) [.pwr, .link, .intc, .jr, .louv] s t := by
  refine within_run (fun s => within_start fun h => ?_) he
  exact within_foldl_range (within_mk h) fun _ _ _ k2 => (within_ite (within_gatesOff k2) (within_louvState (within_gatesOff k2)))

theorem frame_execUvRelease {s t : State} (he : execUvRelease s = .next t) :
    Within ([0x02, 0x04, 0x09, 0x51] ++ louvrePages) [.pwr, .link, .intc, .jr, .louv] s t := by
  refine within_run (fun s => within_start fun h => ?_) he
  exact within_foldl_range (within_mk h) fun _ _ _ k2 => (within_ite (within_louvState k2) k2)

theorem frame_execHalfBridgeFault {s t : State} {a0 : Nat} {a1 : Nat} {a2 : Nat} {a3 : Bool} (hk : a0 < 4 := by omega) (he : execHalfBridgeFault a0 a1 a2 a3 s = .next t) :
    Within ([0x02, 0x04, 0x09, 0x51] ++ louvrePages) [.link, .intc, .jr, .louv] s t := by
  refine within_run (fun s => within_start fun h => ?_) he
  extract_lets x0
  exact within_ite h (within_ite (within_louvFault (within_modLouv h)) (within_modLouv h))

theorem frame_execLouvreCtl {s t : State} {a0 : Nat} {a1 : Word} {a2 : Bool} (hk : a0 < 4 := by omega) (he : execLouvreCtl a0 a1 a2 s = .next t) :
    Within ([0x02, 0x04, 0x09, 0x51] ++ louvrePages) [.link, .intc, .jr, .louv] s t := by
  refine within_run (fun s => within_start fun h => ?_) he
  exact within_ite h (within_louvreCtlWrite h)

theorem frame_execSpeedLoop {s t : State} {a0 : Nat} (hk : a0 < 4 := by omega) (he : execSpeedLoop a0 s = .next t) :
    Within ([0x02, 0x04, 0x09, 0x51] ++ louvrePages) [.link, .intc, .jr, .louv] s t := by
  refine within_run (fun s => within_start fun h => ?_) he
  extract_lets x0 x2 x3
  have h1 : Within _ _ s x0 := within_louvEval (within_putB h)
  have h4 : Within _ _ s x3 := within_modLouv (within_put h1)
  exact within_ite h (within_ite h4 (by split; rename_i w5 t6 q7; exact (fun k8 => (by extract_lets x9 x10; have h11 : Within _ _ s x10 := (within_modLouv k8); exact (within_ite (within_count h11) h11))) (within_snd (within_freeWord h4) q7)))

theorem frame_execCurveReading {s t : State} {a0 : Nat} (hk : a0 < 4 := by omega) (he : execCurveReading a0 s = .next t) :
    Within ([0x02, 0x04, 0x09, 0x51] ++ louvrePages) [.link, .intc, .jr, .louv] s t := by
  refine within_run (fun s => within_start fun h => ?_) he
  extract_lets x0 x2 x4
  have h1 : Within _ _ s x0 := within_ite h (within_raiseH (within_setEvt (within_put h)))
  have h3 : Within _ _ s x2 := within_ite (within_raiseH (within_setEvt (within_put h))) h
  exact within_ite h (by split; exacts [(within_louvEval (within_modLouv (within_put h1))), (by extract_lets x5; exact (within_louvEval (within_modLouv (within_putB h3))))])

theorem frame_execAuxCycle {s t : State} {a0 : Nat} {a1 : Nat} {a2 : Nat} (he : execAuxCycle a0 a1 a2 s = .next t) :
    Within ([0x02, 0x03, 0x04, 0x09, 0x14, 0x1C, 0x1F, 0x51]) [.link, .intc, .jr, .aux, .analog] s t := by
  refine within_run (fun s => within_start fun h => ?_) he
  extract_lets x0 x1 x2 x3 x5 x6 x7 x8 x10
  have h4 : Within _ _ s x3 := within_hadcResult (within_put h)
  have h9 : Within _ _ s x8 := within_mk h4
  have h11 : Within _ _ s x10 := within_auxGood (within_ite (within_auxPi h9) h9)
  exact within_ite h (within_ite (within_ite (within_enterHiccup h11) (within_ite (within_auxState h11) h11)) (within_ite (within_auxState (within_count h11)) (within_ite (within_enterHiccup h11) h11)))

theorem frame_execAuxFaultTimer {s t : State} {a0 : Bool} (he : execAuxFaultTimer a0 s = .next t) :
    Within ([0x02, 0x03, 0x04, 0x09, 0x14, 0x1C, 0x51]) [.link, .intc, .jr, .aux] s t := by
  refine within_run (fun s => within_start fun h => ?_) he
  exact within_ite h (within_ite (within_auxState h) (within_enterHiccup h))

theorem frame_execAuxEn {s t : State} {a0 : Word} (he : execAuxEn a0 s = .next t) :
    Within ([0x02, 0x03, 0x04, 0x09, 0x14, 0x1C, 0x51]) [.link, .intc, .jr, .aux] s t := by
  refine within_run (fun s => within_start fun h => ?_) he
  exact within_auxCtlWrite h

theorem frame_execAuxRestart {s t : State} (he : execAuxRestart s = .next t) :
    Within ([0x02, 0x03, 0x04, 0x09, 0x14, 0x1C, 0x51]) [.link, .intc, .jr, .aux] s t := by
  refine within_run (fun s => within_start fun h => ?_) he
  exact within_auxCtlWrite h

theorem frame_execAuxSoftstartTimeout {s t : State} (he : execAuxSoftstartTimeout s = .next t) :
    Within ([0x02, 0x03, 0x04, 0x09, 0x14, 0x1C, 0x51]) [.link, .intc, .jr, .aux] s t := by
  refine within_run (fun s => within_start fun h => ?_) he
  exact within_ite (within_enterHiccup h) h

theorem frame_execHiccupEnd {s t : State} (he : execHiccupEnd s = .next t) :
    Within ([0x02, 0x03, 0x04, 0x09, 0x14, 0x1C, 0x51]) [.link, .intc, .jr, .aux] s t := by
  refine within_run (fun s => within_start fun h => ?_) he
  extract_lets x0
  exact within_ite (within_auxState (within_mk h)) h

theorem frame_execInuvRecover {s t : State} {a0 : Nat} (he : execInuvRecover a0 s = .next t) :
    Within ([0x02, 0x03, 0x04, 0x09, 0x14, 0x1C, 0x51]) [.link, .intc, .jr, .aux] s t := by
  refine within_run (fun s => within_start fun h => ?_) he
  extract_lets x0
  exact within_ite (within_auxState (within_mk h)) h

theorem frame_execHadcScan {s t : State} {a0 : List (Nat × Nat)} (he : execHadcScan a0 s = .next t) :
    Within ([0x02, 0x04, 0x09, 0x1F, 0x51]) [.link, .intc, .jr, .analog] s t := by
  refine within_run (fun s => within_start fun h => ?_) he
  refine within_foldl h fun _ x k2 => within_if (fun hc => ?_) fun _ => k2
  have hx : x.1 < 16 := by
    simp only [Bool.and_eq_true, decide_eq_true_eq] at hc
    omega
  exact within_hadcResult k2

theorem frame_execHcmpTrip {s t : State} {a0 : Nat} {a1 : Bool} (hk : a0 < 8 := by omega) (he : execHcmpTrip a0 a1 s = .next t) :
    Within ([0x02, 0x04, 0x09, 0x1E, 0x51]) [.link, .intc, .jr, .louv, .analog] s t := by
  refine within_run (fun s => within_start fun h => ?_) he
  extract_lets x0 x1 x3 x4 x6 x7 x9
  have hb : (subBit HCMP_STAT_OUT a0).addr = 0x1e0c0 := rfl
  have h2 : Within _ _ s x1 := within_putB h
  have h5 : Within _ _ s x4 := within_count h2
  have h8 : Within _ _ s x7 := within_ite h5 (within_setEvt (within_mk h5))
  have h10 : Within _ _ s x9 := within_ite (within_raiseH h8) h8
  exact within_ite h (within_ite (within_ite (within_mk h2) h2) (within_ite (within_modLouv h10) h10))

end Sys2Proof.Machine
end

section
/-! SUPPORT. Frames: the resets, the security units and the porter. -/

namespace Sys2Proof.Machine

set_option Elab.async false

section
variable {G : List Nat} {Q : List Part} {s0 s : State} (k : Within G Q s0 s)
include k

theorem within_loadFuses (hG : [0x06, 0x07] ⊆ G := by decide) : Within G Q s0 (loadFuses s) := by
  refine k.step hG (List.nil_subset Q) (within_start fun h => ?_)
  unfold loadFuses
  extract_lets x0 x1 x3
  have h2 : Within _ _ s x1 := within_putB (within_put (within_putB (within_put h)))
  have h4 : Within _ _ s x3 := within_putB (within_putB (within_put (within_put h2)))
  exact within_put h4

theorem within_drawNonce (hG : [0x07] ⊆ G := by decide) : Within G Q s0 (drawNonce s) :=
  k.step hG (List.nil_subset Q) (within_start fun h => within_foldl_range h fun _ _ _ k2 => (by split; rename_i w3 t4 q5; exact (fun k6 => (within_put k6)) (within_snd (within_freeWord k2) q5)))

theorem within_mirrorMismatch {a0 : Nat} (hG : [0x02, 0x04, 0x06, 0x09, 0x20, 0x51] ⊆ G := by decide)
    (hQ : [.link, .intc, .jr, .porter] ⊆ Q := by decide) : Within G Q s0 (mirrorMismatch a0 s) :=
  k.step hG hQ (within_start fun h => within_retain (within_raiseH (within_setEvt h)))

theorem within_compareMirror (hG : [0x02, 0x04, 0x06, 0x07, 0x09, 0x20, 0x51] ⊆ G := by decide)
    (hQ : [.link, .intc, .jr, .porter] ⊆ Q := by decide) : Within G Q s0 (compareMirror s) := by
  refine k.step hG hQ (within_start fun h => ?_)
  unfold compareMirror
  extract_lets x0 x1 x2 x4
  have h3 : Within _ _ s x2 := within_ite h (within_mirrorMismatch (within_mk h))
  have h5 : Within _ _ s x4 := within_ite (within_mirrorMismatch h3) (within_put h3)
  exact within_ite (within_mirrorMismatch h5) (within_put h5)

theorem within_loadRecord (hG : [0x14, 0x15] ⊆ G := by decide) (hQ : [.sec] ⊆ Q := by decide) : Within G Q s0 (loadRecord s) := by
  refine k.step hG hQ (within_start fun h => ?_)
  unfold loadRecord
  extract_lets x0 x1 x2 x4 x5 x7 x9
  have h3 : Within _ _ s x2 := within_mk h
  have h6 : Within _ _ s x5 := within_put (within_put (within_put h3))
  have h8 : Within _ _ s x7 := within_put (within_put (within_putB h6))
  have h10 : Within _ _ s x9 := within_foldl_range h8 fun _ _ _ k13 => (within_put k13)
  exact within_ite h (within_put (within_put (within_put h10)))

theorem within_startInputs (hG : [0x14] ⊆ G := by decide) : Within G Q s0 (startInputs s) :=
  k.step hG (List.nil_subset Q) (within_start fun h => within_foldl h fun _ n k2 => within_put k2 (page_mem (page_inputFld n)))

theorem within_shareMode (hG : [0x00] ⊆ G := by decide) : Within G Q s0 (shareMode s) :=
  k.step hG (List.nil_subset Q) (within_start fun h => within_ite (within_putB (within_putB h)) h)

theorem within_loadMode {a0 : Image} (hG : [0x00, 0x40] ⊆ G := by decide) (hQ : [.weave] ⊆ Q := by decide) : Within G Q s0 (loadMode a0 s) := by
  refine k.step hG hQ (within_start fun h => ?_)
  unfold loadMode
  extract_lets x0 x2
  have h1 : Within _ _ s x0 := within_putB h
  exact within_shareMode (within_ite h (within_mk h1))

theorem within_hRun {a1 : Bool} {a2 : Nat} (hG : [0x00, 0x02, 0x04, 0x06, 0x07, 0x09, 0x14, 0x15, 0x20, 0x51] ⊆ G := by decide)
    (hQ : [.pwr, .link, .wdog, .intc, .jr, .porter, .safety, .sec] ⊆ Q := by decide) : Within G Q s0 (hRun a1 a2 s) := by
  refine k.step hG hQ (within_start fun h => ?_)
  have start : ∀ t (n : Nat) (l : List Word), Within [0x00, 0x02, 0x04, 0x06, 0x07, 0x09, 0x14, 0x15, 0x20, 0x51]
      [.pwr, .link, .wdog, .intc, .jr, .porter, .safety, .sec] s t → Within [0x00, 0x02, 0x04, 0x06, 0x07, 0x09, 0x14, 0x15, 0x20, 0x51] [.pwr, .link, .wdog, .intc, .jr, .porter, .safety, .sec] s
      { t with pwr := { t.pwr with h := .run, restarting := false }, sec := { t.sec with svn := n, fwHash := l },
               wdog := { t.wdog with counting := true } } := fun t n l ht => within_mk ht
  have test : ∀ t, Within [0x00, 0x02, 0x04, 0x06, 0x07, 0x09, 0x14, 0x15, 0x20, 0x51] [.pwr, .link, .wdog, .intc, .jr, .porter, .safety, .sec] s t → Within [0x00, 0x02, 0x04, 0x06, 0x07, 0x09, 0x14, 0x15, 0x20, 0x51] [.pwr, .link, .wdog, .intc, .jr, .porter, .safety, .sec] s ({ t with safety := { t.safety with startTest := true } }.put SEAL_STAT_BUSY 1) :=
    fun t ht => within_put (within_mk ht)
  have fin : ∀ t n, Within [0x00, 0x02, 0x04, 0x06, 0x07, 0x09, 0x14, 0x15, 0x20, 0x51] [.pwr, .link, .wdog, .intc, .jr, .porter, .safety, .sec] s t → Within [0x00, 0x02, 0x04, 0x06, 0x07, 0x09, 0x14, 0x15, 0x20, 0x51] [.pwr, .link, .wdog, .intc, .jr, .porter, .safety, .sec] s (if 0 < n then raiseH 130 3 n { t with porter.down := 0 } else t) :=
    fun t n ht => within_ite (within_raiseH (within_mk ht)) ht
  unfold hRun
  generalize firmwareAt s a2 = fw
  have h3 := within_drawNonce (within_shareMode (within_put (f := SECURITY_FWVER_VER) (v := fw.version)
    (within_put (f := SECURITY_STAT_ACTSLOT) (v := a2) (within_put (f := SECURITY_STAT_RECOVERY) (v := 0)
      (start _ fw.svn (hashWords (flashBytes s (slotBase a2) fw.len)) h)))))
  have h6 := test _ (within_startInputs (within_loadRecord (within_ite (p := a1 = true) (within_compareMirror h3) h3)))
  exact fin _ _ (within_ite (within_setEvt h6) h6)

theorem within_hStart (hG : [0x00, 0x02, 0x04, 0x06, 0x07, 0x09, 0x14, 0x15, 0x20, 0x51] ⊆ G := by decide)
    (hQ : [.pwr, .link, .wdog, .intc, .jr, .porter, .safety, .sec] ⊆ Q := by decide) : Within G Q s0 (hStart s) := by
  refine k.step hG hQ (within_start fun h => ?_)
  have stop : ∀ t, Within [0x00, 0x02, 0x04, 0x06, 0x07, 0x09, 0x14, 0x15, 0x20, 0x51] [.pwr, .link, .wdog, .intc, .jr, .porter, .safety, .sec] s t → Within [0x00, 0x02, 0x04, 0x06, 0x07, 0x09, 0x14, 0x15, 0x20, 0x51] [.pwr, .link, .wdog, .intc, .jr, .porter, .safety, .sec] s { t with pwr := { t.pwr with h := .boot, restarting := false } } := fun t ht => within_mk ht
  unfold hStart
  extract_lets x0
  split
  · exact stop _ (within_put (f := SECURITY_STAT_RECOVERY) (v := 1) (within_ite (within_compareMirror (within_loadFuses h)) (within_loadFuses h)))
  · exact within_hRun (within_loadFuses h)

theorem within_closeScopes (hG : [0x08] ⊆ G := by decide) : Within G Q s0 (closeScopes s) :=
  k.step hG (List.nil_subset Q) (within_start fun h => within_put h)

theorem within_lcRefused {a0 : Nat} (hG : [0x02, 0x04, 0x07, 0x09, 0x51] ⊆ G := by decide) (hQ : [.link, .intc, .jr] ⊆ Q := by decide) :
    Within G Q s0 (lcRefused a0 s) :=
  k.step hG hQ (within_start fun h => within_raiseH (within_setEvt (within_put h)))

theorem within_checkFuseok (hG : [0x02, 0x04, 0x07, 0x09, 0x51] ⊆ G := by decide) (hQ : [.link, .intc, .jr] ⊆ Q := by decide) :
    Within G Q s0 (checkFuseok s) :=
  k.step hG hQ (within_start fun h => within_ite h (within_raiseH (within_setEvt (within_put h))))

theorem within_transitionEffect {a0 : Nat} (hG : [0x02, 0x04, 0x06, 0x07, 0x08, 0x09, 0x12, 0x20, 0x51] ⊆ G := by decide)
    (hQ : [.link, .intc, .jr, .porter, .svc, .sec] ⊆ Q := by decide) : Within G Q s0 (transitionEffect a0 s) := by
  refine k.step hG hQ (within_start fun h => ?_)
  unfold transitionEffect
  extract_lets x0 x1 x2 x3 x5
  have h4 : Within _ _ s x3 := within_loadFuses (within_mk h)
  have h6 : Within _ _ s x5 := within_closeScopes (within_closeSession h4)
  exact within_retain (within_raiseH (within_setEvt h6))

theorem within_erasures {a0 : Nat} (hG : [0x06] ⊆ G := by decide) (hQ : [.sec] ⊆ Q := by decide) : Within G Q s0 (erasures a0 s) := by
  refine k.step hG hQ (within_start fun h => ?_)
  unfold erasures
  extract_lets x0 x1
  have h2 : Within _ _ s x1 := within_mk h
  exact within_ite (within_putB (within_put h2)) h

theorem within_jobDone (hG : [0x02, 0x04, 0x06, 0x07, 0x09, 0x20, 0x51] ⊆ G := by decide)
    (hQ : [.link, .intc, .jr, .porter, .sec] ⊆ Q := by decide) : Within G Q s0 (jobDone s) := by
  refine k.step hG hQ (within_start fun h => ?_)
  unfold jobDone
  extract_lets x0 x2 x4
  have h1 : Within [0x02, 0x04, 0x06, 0x07, 0x09, 0x20, 0x51] [.link, .intc, .jr, .porter, .sec] s x0 := by unfold x0; exact (by split; exacts [(within_ite (within_erasures h) (within_ite (within_compareMirror (within_raiseH h)) (within_raiseH h))), h])
  have h3 : Within _ _ s x2 := within_put (within_put h1)
  exact within_loadFuses (within_mk h3)

theorem within_startFuseJob {a0 : Nat} {a1 : List FuseTask} (hG : [0x02, 0x04, 0x06, 0x07, 0x09, 0x20, 0x51] ⊆ G := by decide)
    (hQ : [.link, .intc, .jr, .porter, .sec] ⊆ Q := by decide) : Within G Q s0 (startFuseJob a0 a1 s) := by
  refine k.step hG hQ (within_start fun h => ?_)
  unfold startFuseJob
  extract_lets x0 x2 x3
  have h1 : Within _ _ s x0 := within_put h
  have h4 : Within _ _ s x3 := within_mk h1
  exact within_ite (within_jobDone h4) (within_checkFuseok h4)

theorem within_lifecycleRequest {a0 : Nat} (hG : [0x02, 0x04, 0x06, 0x07, 0x09, 0x20, 0x51] ⊆ G := by decide)
    (hQ : [.link, .intc, .jr, .porter, .sec] ⊆ Q := by decide) : Within G Q s0 (lifecycleRequest a0 s) := by
  refine k.step hG hQ (within_start fun h => ?_)
  unfold lifecycleRequest
  extract_lets x0 x1 x2 x3 x4 x5
  have hx0 : x0 = 0x7044 := rfl
  exact within_ite (within_drawNonce (within_capture h)) (within_ite (within_drawNonce (within_startFuseJob h)) (within_drawNonce (within_lcRefused (within_capture h))))

theorem within_lifecycleReqWrite {a0 : Word} (hG : [0x02, 0x04, 0x06, 0x07, 0x09, 0x20, 0x51] ⊆ G := by decide)
    (hQ : [.link, .intc, .jr, .porter, .sec] ⊆ Q := by decide) : Within G Q s0 (lifecycleReqWrite a0 s) := by
  refine k.step hG hQ (within_start fun h => ?_)
  unfold lifecycleReqWrite
  extract_lets x0
  have hx0 : x0 = 0x7044 := rfl
  exact within_unlessLocked h (fun _ k1 => (by extract_lets x3 x5; have h4 : Within _ _ s x3 := (within_put k1); have h6 : Within _ _ s x5 := (within_ite (within_lifecycleRequest h4) h4); exact (within_ite h6 (within_capture h6))))

theorem within_burnWrite {a0 : Word} (hG : [0x02, 0x04, 0x06, 0x07, 0x09, 0x20, 0x51] ⊆ G := by decide)
    (hQ : [.link, .intc, .jr, .porter, .sec] ⊆ Q := by decide) : Within G Q s0 (burnWrite a0 s) := by
  refine k.step hG hQ (within_start fun h => ?_)
  unfold burnWrite
  extract_lets x0 x1 x2 x3
  have hx0 : x0 = 0x7048 := rfl
  exact within_unlessLocked h (fun _ k4 => (by extract_lets x6 x8 x9; have h7 : Within _ _ s x6 := (within_put k4); exact (within_ite (within_capture k4) (within_ite (within_ite (within_startFuseJob h7) (within_capture h7)) (within_ite (within_ite (within_startFuseJob h7) (within_capture h7)) (within_ite (within_ite (within_capture h7) (within_ite (within_capture h7) (within_ite (within_lcRefused (within_capture h7)) (within_startFuseJob h7)))) (within_ite (within_ite (within_capture h7) (within_ite (within_capture h7) (within_ite (within_lcRefused (within_capture h7)) (within_startFuseJob h7)))) (within_capture h7))))))))

theorem within_quoteGoWrite {a0 : Word} (hG : [0x02, 0x04, 0x06, 0x09, 0x21, 0x51] ⊆ G := by decide)
    (hQ : [.link, .intc, .jr, .s0, .sec] ⊆ Q := by decide) : Within G Q s0 (quoteGoWrite a0 s) := by
  refine k.step hG hQ (within_start fun h => ?_)
  unfold quoteGoWrite
  extract_lets x0 x1 x2 x3 x4 x6 x7
  have hx0 : x0 = 0x6044 := rfl
  have h5 : Within _ _ s x4 := within_put (within_put h)
  have h8 : Within _ _ s x7 := within_mk h5
  exact within_ite h (within_ite (within_capture h) (within_foldl h8 fun _ _ k11 => (within_ownRead k11)))

theorem within_freeWords {a0 : Nat} : Within G Q s0 (freeWords a0 s).2 :=
  k.step (List.nil_subset G) (List.nil_subset Q) (within_start fun h => within_foldl2 h fun _ _ k => within_freeWord k)

theorem within_owncertWrite {a0 : Word} (hG : [0x02, 0x04, 0x06, 0x09, 0x51] ⊆ G := by decide)
    (hQ : [.link, .intc, .jr, .sec] ⊆ Q := by decide) : Within G Q s0 (owncertWrite a0 s) := by
  refine k.step hG hQ (within_start fun h => ?_)
  unfold owncertWrite
  extract_lets x0 x1 x2 x3 x5
  have hx0 : x0 = 0x605c := rfl
  have h4 : Within _ _ s x3 := within_put h
  exact within_ite (within_mk h4) (within_capture h)

theorem within_boundaryScan {a0 a1 a2 : Nat} (hQ : [.sec] ⊆ Q := by decide) : Within G Q s0 (boundaryScan a0 a1 a2 s) :=
  k.step (List.nil_subset G) hQ (within_start fun h => within_emit (within_mk h))

theorem within_wicketFail (hG : [0x02, 0x04, 0x08, 0x09, 0x51] ⊆ G := by decide) (hQ : [.link, .intc, .jr] ⊆ Q := by decide) :
    Within G Q s0 (wicketFail s) := by
  refine k.step hG hQ (within_start fun h => ?_)
  unfold wicketFail
  extract_lets x0 x1 x3
  have h2 : Within _ _ s x1 := within_count (within_put h)
  have h4 : Within _ _ s x3 := within_raiseH (within_setEvt h2)
  exact within_ite (within_raiseH (within_put h4)) h4

theorem within_wicketCtlWrite {a0 : Word} (hG : [0x02, 0x04, 0x08, 0x09, 0x51] ⊆ G := by decide)
    (hQ : [.link, .intc, .jr] ⊆ Q := by decide) : Within G Q s0 (wicketCtlWrite a0 s) := by
  refine k.step hG hQ (within_start fun h => ?_)
  unfold wicketCtlWrite
  extract_lets x0
  have hx0 : x0 = 0x8044 := rfl
  exact within_unlessLocked h (fun _ k1 => (by extract_lets x3 x5; have h4 : Within _ _ s x3 := (within_ite (within_closeScopes k1) k1); have h6 : Within _ _ s x5 := (within_ite (within_put (within_put h4)) h4); exact (within_ite h6 (within_capture h6))))

theorem within_rtcAdvance {a0 : Nat} (hQ : [.porter] ⊆ Q := by decide) : Within G Q s0 (rtcAdvance a0 s) := by
  refine k.step (List.nil_subset G) hQ (within_start fun h => ?_)
  unfold rtcAdvance
  extract_lets x0
  exact within_ite (within_mk h) h

theorem within_porterEvent {a0 : Nat} {a1 : Nat} {a2 : Nat} (hG : [0x02, 0x04, 0x09, 0x20, 0x51] ⊆ G := by decide)
    (hQ : [.link, .intc, .jr] ⊆ Q := by decide) : Within G Q s0 (porterEvent a0 a1 a2 s) :=
  k.step hG hQ (within_start fun h => within_ite (within_raiseH (within_setEvt h)) h)

end

theorem frame_execFuseWordBurned {s t : State} (he : execFuseWordBurned s = .next t) :
    Within ([0x02, 0x04, 0x06, 0x07, 0x08, 0x09, 0x12, 0x20, 0x51]) [.link, .intc, .jr, .porter, .svc, .sec] s t := by
  refine within_run (fun s => within_start fun h => ?_) he
  split
  exacts [h, (by extract_lets x0 x1 x2 x4; have h3 : Within _ _ s x2 := (within_mk h); have h5 : Within _ _ s x4 := (within_ite h3 (within_transitionEffect h3)); exact (within_ite h (within_ite (within_jobDone h5) (within_checkFuseok h5))))]

theorem frame_execFuseokTimeout {s t : State} (he : execFuseokTimeout s = .next t) :
    Within ([0x02, 0x04, 0x06, 0x07, 0x09, 0x51]) [.link, .intc, .jr, .sec] s t := by
  refine within_run (fun s => within_start fun h => ?_) he
  extract_lets x0 x2 x3
  have h1 : Within _ _ s x0 := within_put (within_put h)
  have h4 : Within _ _ s x3 := within_mk h1
  exact within_ite (within_loadFuses (within_lcRefused h4)) h

theorem frame_execLifecycleReq {s t : State} {a0 : Word} (he : execLifecycleReq a0 s = .next t) :
    Within ([0x02, 0x04, 0x06, 0x07, 0x09, 0x20, 0x51]) [.link, .intc, .jr, .porter, .sec] s t := by
  refine within_run (fun s => within_start fun h => ?_) he
  exact within_lifecycleReqWrite h

theorem frame_execBurn {s t : State} {a0 : Word} (he : execBurn a0 s = .next t) :
    Within ([0x02, 0x04, 0x06, 0x07, 0x09, 0x20, 0x51]) [.link, .intc, .jr, .porter, .sec] s t := by
  refine within_run (fun s => within_start fun h => ?_) he
  exact within_burnWrite h

theorem frame_execQuoteGo {s t : State} (he : execQuoteGo s = .next t) :
    Within ([0x02, 0x04, 0x06, 0x09, 0x21, 0x51]) [.link, .intc, .jr, .s0, .sec] s t := by
  refine within_run (fun s => within_start fun h => ?_) he
  exact within_quoteGoWrite h

theorem frame_execQuoteDone {s t : State} (he : execQuoteDone s = .next t) :
    Within ([0x02, 0x04, 0x06, 0x09, 0x41, 0x51]) [.link, .intc, .jr] s t := by
  refine within_run (fun s => within_start fun h => ?_) he
  extract_lets x0 x1 x2 x3 x4 x5 x6 x7 x8 x9
  exact within_ite h (by split; rename_i w10 t11 q12; exact (fun k13 => (by split; rename_i w14 t15 q16; exact (fun k17 => (by extract_lets x18 x19; have h20 : Within _ _ s x19 := (within_foldl_range k17 fun _ _ _ k23 => (within_put k23)); exact (within_raiseH (within_setEvt (within_put (within_put h20)))))) (within_snd (within_freeWords k13) q16))) (within_snd (within_freeWords h) q12))

theorem frame_execOwncert {s t : State} {a0 : Word} (he : execOwncert a0 s = .next t) :
    Within ([0x02, 0x04, 0x06, 0x09, 0x51]) [.link, .intc, .jr, .sec] s t := by
  refine within_run (fun s => within_start fun h => ?_) he
  exact within_owncertWrite h

theorem frame_execSecurityFwstby {s t : State} (he : execSecurityFwstby s = .next t) :
    Within ([0x02, 0x04, 0x06, 0x09, 0x51]) [.link, .intc, .jr, .sec] s t := by
  refine within_run (fun s => within_start fun h => ?_) he
  split
  exacts [h, (by extract_lets x0 x1 x2 x4 x5 x7; have h3 : Within _ _ s x2 := (within_put h); have h6 : Within _ _ s x5 := (within_mk h3); have h8 : Within _ _ s x7 := (within_ite (within_put h6) h6); exact (within_raiseH (within_setEvt h8)))]

theorem frame_execHDieRestartDone {s t : State} (he : execHDieRestartDone s = .next t) :
    Within ([0x00, 0x02, 0x04, 0x06, 0x07, 0x09, 0x14, 0x15, 0x20, 0x51]) [.pwr, .link, .wdog, .intc, .jr, .porter, .safety, .sec] s t := by
  refine within_run (fun s => within_start fun h => ?_) he
  exact within_ite (within_hStart h) h

theorem frame_execExtest {s t : State} {a0 a1 : Nat} (he : execExtest a0 a1 s = .next t) :
    Within ([]) [.sec] s t := by
  refine within_run (fun s => within_start fun h => ?_) he
  exact within_ite (within_emit (within_boundaryScan h)) (within_boundaryScan h)

theorem frame_execSamplePreload {s t : State} {a0 : Nat} {a1 : Nat} (he : execSamplePreload a0 a1 s = .next t) :
    Within ([]) [.sec] s t := by
  refine within_run (fun s => within_start fun h => ?_) he
  exact within_boundaryScan h

theorem frame_execIdcode {s t : State} (he : execIdcode s = .next t) :
    Within ([]) [.sec] s t := by
  refine within_run (fun s => within_start fun h => ?_) he
  exact within_emit (within_mk h)

theorem frame_execChallenge {s t : State} (he : execChallenge s = .next t) :
    Within ([]) [.sec] s t := by
  refine within_run (fun s => within_start fun h => ?_) he
  split
  rename_i w0 t1 q2
  exact (fun k3 => (by extract_lets x4 x5; exact (within_emit (within_mk k3)))) (within_snd (within_freeWords h) q2)

theorem frame_execResponse {s t : State} {a0 : List Word} (he : execResponse a0 s = .next t) :
    Within ([0x02, 0x04, 0x08, 0x09, 0x20, 0x51]) [.link, .intc, .jr, .porter, .sec] s t := by
  refine within_run (fun s => within_start fun h => ?_) he
  extract_lets x0 x1 x3 x4 x5 x6 x7 x9
  have h2 : Within _ _ s x1 := within_mk h
  have h8 : Within _ _ s x7 := within_put h2
  have h10 : Within _ _ s x9 := within_addSat h8
  exact within_ite h2 (within_ite (within_wicketFail h2) (within_ite h2 (within_retain (within_raiseH (within_setEvt h10)))))

theorem frame_execWstatus {s t : State} (he : execWstatus s = .next t) :
    Within ([]) [.sec] s t := by
  refine within_run (fun s => within_start fun h => ?_) he
  extract_lets x0
  exact within_emit (within_mk h)

theorem frame_execBypass {s t : State} (he : execBypass s = .next t) :
    Within ([]) [.sec] s t := by
  refine within_run (fun s => within_start fun h => ?_) he
  extract_lets x0
  exact within_emit (within_mk h)

theorem frame_execTrstLow {s t : State} (he : execTrstLow s = .next t) :
    Within ([0x08]) [.sec] s t := by
  refine within_run (fun s => within_start fun h => ?_) he
  extract_lets x0
  exact within_closeScopes (within_mk h)

theorem frame_execWicketDisable {s t : State} (he : execWicketDisable s = .next t) :
    Within ([0x02, 0x04, 0x08, 0x09, 0x51]) [.link, .intc, .jr] s t := by
  refine within_run (fun s => within_start fun h => ?_) he
  exact within_wicketCtlWrite h

theorem frame_execPorterSourceChange {s t : State} {a0 : Nat} {a1 : Nat} {a2 : Nat} (he : execPorterSourceChange a0 a1 a2 s = .next t) :
    Within ([0x02, 0x04, 0x09, 0x20, 0x51]) [.link, .intc, .jr, .porter] s t := by
  refine within_run (fun s => within_start fun h => ?_) he
  extract_lets x0 x1 x2 x4 x6 x7
  have h3 : Within _ _ s x2 := within_count (within_put (within_rtcAdvance h))
  have h5 : Within _ _ s x4 := within_put h3
  have h8 : Within _ _ s x7 := within_mk h5
  exact within_ite (within_rtcAdvance h) (within_porterEvent (within_retain h8))

theorem frame_execPorterStop {s t : State} {a0 : Nat} (he : execPorterStop a0 s = .next t) :
    Within ([0x20]) [.porter] s t := by
  refine within_run (fun s => within_start fun h => ?_) he
  extract_lets x0 x2
  have h1 : Within _ _ s x0 := within_put (within_rtcAdvance h)
  exact within_ite (within_mk h1) h

theorem frame_execPorterRestart {s t : State} {a0 : Nat} {a1 : Nat} (he : execPorterRestart a0 a1 s = .next t) :
    Within ([0x20]) [.porter] s t := by
  refine within_run (fun s => within_start fun h => ?_) he
  extract_lets x0 x5 x7
  have h1 : Within _ _ s x0 := within_foldl_mem h fun _ a hm k4 => within_setRaw k4 (by
    simp only [List.mem_cons, List.not_mem_nil, or_false] at hm
    simp only [pageOf, List.mem_cons, List.not_mem_nil, or_false]
    omega)
  have h6 : Within _ _ s x5 := within_put (within_put h1)
  exact within_ite h (within_retain (within_mk h6))

theorem frame_execHarvestSample {s t : State} {a0 : Nat} {a1 : Nat} {a2 : Nat} (he : execHarvestSample a0 a1 a2 s = .next t) :
    Within ([0x20]) [.porter] s t := by
  refine within_run (fun s => within_start fun h => ?_) he
  extract_lets x0 x1 x3 x4
  have h2 : Within _ _ s x1 := within_put (within_rtcAdvance h)
  exact within_mk h2

theorem frame_execBatteryMeasure {s t : State} {a0 : Nat} {a1 : Nat} (he : execBatteryMeasure a0 a1 s = .next t) :
    Within ([0x02, 0x04, 0x09, 0x20, 0x51]) [.link, .intc, .jr, .porter] s t := by
  refine within_run (fun s => within_start fun h => ?_) he
  extract_lets x0 x1 x2
  have h3 : Within _ _ s x2 := within_put (within_rtcAdvance h)
  exact within_ite h (within_ite h3 (within_porterEvent (within_retain (within_put h3))))

theorem frame_execRtcTrim {s t : State} {a0 : Nat} (he : execRtcTrim a0 s = .next t) :
    Within ([]) [.porter] s t := by
  refine within_run (fun s => within_start fun h => ?_) he
  extract_lets x0 x2 x3 x4 x5
  have h1 : Within _ _ s x0 := within_rtcAdvance h
  exact within_ite h (within_mk h1)

theorem frame_execDoorWatch {s t : State} {a0 : Nat} {a1 : Nat} (he : execDoorWatch a0 a1 s = .next t) :
    Within ([0x20]) [.porter] s t := by
  refine within_run (fun s => within_start fun h => ?_) he
  extract_lets x0 x2 x3 x4
  have h1 : Within _ _ s x0 := within_rtcAdvance h
  exact within_ite (within_mk h1) (by split; exacts [(within_mk h1), (within_ite (within_mk h1) (within_retain (within_mk h1)))])

end Sys2Proof.Machine
end

section
/-! SUPPORT. Frames: the cells, the edges, the rings and the twin. -/

namespace Sys2Proof.Machine

set_option Elab.async false

section
variable {G : List Nat} {Q : List Part} {s0 s : State} (k : Within G Q s0 s)
include k

theorem within_modCell {a0 : Nat} {a1 : CellSt → CellSt} (hQ : [.cells] ⊆ Q := by decide) : Within G Q s0 (modCell a0 a1 s) :=
  k.step (List.nil_subset G) hQ (within_start fun h => within_mk h)

theorem within_setCellState {a0 : Nat} {a1 : Nat} (hG : [0x02, 0x09, 0x51, 0x100] ⊆ G := by decide) (hQ : [.link, .intc] ⊆ Q := by decide) :
    Within G Q s0 (setCellState a0 a1 s) :=
  k.step hG hQ (within_start fun h => within_ite h (within_setEvt (within_put h)))

theorem within_bypassCommand {a0 : Nat} {a1 : Nat} (hQ : [.cells] ⊆ Q := by decide) : Within G Q s0 (bypassCommand a0 a1 s) :=
  k.step (List.nil_subset G) hQ (within_start fun h => within_modCell h)

theorem within_enterCell {a0 : Nat} (hG : [0x02, 0x09, 0x51, 0x100] ⊆ G := by decide) (hQ : [.link, .intc, .cells] ⊆ Q := by decide) :
    Within G Q s0 (enterCell a0 s) :=
  k.step hG hQ (within_start fun h => within_setCellState (within_bypassCommand h))

theorem within_leaveCell {a0 : Nat} (hG : [0x02, 0x09, 0x51, 0x100] ⊆ G := by decide) (hQ : [.link, .intc, .cells] ⊆ Q := by decide) :
    Within G Q s0 (leaveCell a0 s) :=
  k.step hG hQ (within_start fun h => within_setCellState (within_bypassCommand h))

theorem within_returnCell {a0 : Nat} (hG : [0x02, 0x09, 0x51, 0x100] ⊆ G := by decide) (hQ : [.link, .intc, .cells] ⊆ Q := by decide) :
    Within G Q s0 (returnCell a0 s) :=
  k.step hG hQ (within_start fun h => within_ite (within_enterCell h) (within_setCellState h))

theorem within_latchFault {a0 : Nat} {a1 : Nat} (hG : [0x02, 0x09, 0x51, 0x100] ⊆ G := by decide) (hQ : [.link, .intc] ⊆ Q := by decide) :
    Within G Q s0 (latchFault a0 a1 s) := by
  refine k.step hG hQ (within_start fun h => ?_)
  unfold latchFault
  extract_lets x0
  have h1 : Within _ _ s x0 := within_ite (within_put (within_put h)) h
  exact within_setEvt (within_put (within_count h1))

theorem within_stopEdges {a0 : Nat} (hQ : [.edge] ⊆ Q := by decide) : Within G Q s0 (stopEdges a0 s) := by
  refine k.step (List.nil_subset G) hQ (within_start fun h => ?_)
  unfold stopEdges
  extract_lets x0
  exact within_mk h

theorem within_cellFault {a0 : Nat} {a1 : Nat} (hG : [0x02, 0x09, 0x51, 0x100] ⊆ G := by decide)
    (hQ : [.link, .intc, .cells, .edge] ⊆ Q := by decide) : Within G Q s0 (cellFault a0 a1 s) := by
  refine k.step hG hQ (within_start fun h => ?_)
  unfold cellFault
  extract_lets x0 x1 x3
  have h2 : Within _ _ s x1 := within_latchFault h
  have h4 : Within _ _ s x3 := within_stopEdges (within_latchFault h)
  exact within_ite (within_ite (within_setCellState h2) h2) (within_ite (within_setCellState (within_ite h4 (within_bypassCommand h4))) h)

theorem within_nodeLost {a0 : Nat} {a1 : Nat} (hk : a1 < 8 := by omega) (hG : [0x02, 0x09, 0x51, 0x100] ++ ringPages ⊆ G := by decide)
    (hQ : [.link, .intc, .cells, .edge] ⊆ Q := by decide) : Within G Q s0 (nodeLost a0 a1 s) := by
  refine k.step hG hQ (within_start fun h => ?_)
  unfold nodeLost
  extract_lets x0 x2 x4
  have h1 : Within _ _ s x0 := within_modCell h
  have h3 : Within _ _ s x2 := within_raiseF (within_setEvt h1)
  exact within_ite h (within_ite (within_latchFault h3) (within_cellFault h3))

theorem within_cellPage {a0 : Nat} {a1 : List Word} (hG : [0x100] ⊆ G := by decide) (hQ : [.cells] ⊆ Q := by decide) :
    Within G Q s0 (cellPage a0 a1 s) := by
  refine k.step hG hQ (within_start fun h => ?_)
  unfold cellPage
  extract_lets x0 x1 x2 x3 x4 x6 x8 x10 x11
  have h5 : Within _ _ s x4 := within_put (within_put (within_put (within_put h)))
  have h7 : Within _ _ s x6 := within_put (within_put (within_put h5))
  have h9 : Within _ _ s x8 := within_put h7
  exact within_ite (within_modCell (within_put h9)) (within_modCell h9)

theorem within_confirmBypass {a0 : Nat} {a1 : Nat} (hQ : [.cells] ⊆ Q := by decide) : Within G Q s0 (confirmBypass a0 a1 s) := by
  refine k.step (List.nil_subset G) hQ (within_start fun h => ?_)
  unfold confirmBypass
  split
  exacts [(within_ite (within_modCell h) h), (within_ite (within_modCell h) h)]

theorem within_noReference {a0 : Nat} {a1 : Bool} (hQ : [.cells, .mppt] ⊆ Q := by decide) : Within G Q s0 (noReference a0 a1 s) := by
  refine k.step (List.nil_subset G) hQ (within_start fun h => ?_)
  unfold noReference
  extract_lets x0 x1
  exact within_modCell (within_mk h)

theorem within_inputLoss {a0 : Nat} (hG : [0x02, 0x09, 0x51, 0x77, 0x100] ⊆ G := by decide)
    (hQ : [.link, .intc, .cells, .mppt] ⊆ Q := by decide) : Within G Q s0 (inputLoss a0 s) := by
  refine k.step hG hQ (within_start fun h => ?_)
  unfold inputLoss
  extract_lets x0 x1 x2 x4 x5
  have h3 : Within _ _ s x2 := within_noReference h
  have h6 : Within _ _ s x5 := within_ite (within_raiseF (within_setEvt (within_count h3))) h3
  exact within_ite (within_leaveCell (within_put h6)) (within_setCellState (within_modCell h6))

theorem within_faultedReturn {a0 : Nat} (hG : [0x02, 0x09, 0x51, 0x100] ⊆ G := by decide) (hQ : [.link, .intc, .cells] ⊆ Q := by decide) :
    Within G Q s0 (faultedReturn a0 s) := by
  refine k.step hG hQ (within_start fun h => ?_)
  unfold faultedReturn
  extract_lets x0 x1
  exact within_ite (within_returnCell h) h

theorem within_cellEvents {a0 : Nat} {a1 : List Word} (hG : [0x02, 0x09, 0x51, 0x77, 0x100] ⊆ G := by decide)
    (hQ : [.link, .intc, .cells, .edge, .mppt] ⊆ Q := by decide) : Within G Q s0 (cellEvents a0 a1 s) := by
  refine k.step hG hQ (within_start fun h => ?_)
  unfold cellEvents
  extract_lets x0 x1 x2 x3 x5 x7 x9
  have h4 : Within _ _ s x3 := within_modCell h
  have h6 : Within _ _ s x5 := within_ite (within_cellFault h4) h4
  have h8 : Within _ _ s x7 := within_confirmBypass h6
  have h10 : Within _ _ s x9 := within_ite (within_inputLoss h8) h8
  exact within_faultedReturn h10

theorem within_putRing {a0 : Nat} {a1 : Nat} {a2 : List Word} (hQ : [.clu] ⊆ Q := by decide) : Within G Q s0 (putRing a0 a1 a2 s) :=
  k.step (List.nil_subset G) hQ (within_start fun h => within_modClu h)

theorem within_publishCell {a0 : Nat} {a1 : Nat} (hk : a1 < 192 := by omega)
    (hG : [0x02, 0x09, 0x51, 0x77, 0x100] ++ ringPages ⊆ G := by decide)
    (hQ : [.link, .intc, .clu, .cells, .ring, .edge, .mppt] ⊆ Q := by decide) : Within G Q s0 (publishCell a0 a1 s) := by
  refine k.step hG hQ (within_start fun h => ?_)
  unfold publishCell
  extract_lets x0 x1 x2 x3 x4 x5 x7 x8 x10 x12
  have hl : x7 < 8 := ownerLane_lt s (by omega)
  have h6 : Within _ _ s x5 := within_putRing h
  have h9 : Within _ _ s x8 := within_count h6 page_ite
  have h11 : Within _ _ s x10 := within_ite h6 (within_ite h6 (within_ite h9 (within_setEvt (within_mk h9))))
  have h13 : Within _ _ s x12 := within_cellPage h11
  exact within_ite h (within_ite (within_putRing h) (within_ite h11 (within_ite h13 (within_cellEvents h13))))

theorem within_publish {a0 : Nat} (hk : a0 < 4 := by omega) (hG : [0x02, 0x09, 0x51, 0x77, 0x100] ++ ringPages ⊆ G := by decide)
    (hQ : [.link, .intc, .clu, .cells, .ring, .edge, .mppt] ⊆ Q := by decide) : Within G Q s0 (publish a0 s) := by
  refine k.step hG hQ (within_start fun h => ?_)
  refine within_foldl_mem (within_modClu h) fun _ g hm k2 => ?_
  have hg : g < 192 := by
    split at hm
    · exact List.mem_range.1 hm
    · have := div_of_mem_phaseCells hm
      omega
  exact within_publishCell k2

theorem within_modRing {a0 : Nat} {a1 : RingDir → RingDir} (hQ : [.ring] ⊆ Q := by decide) : Within G Q s0 (modRing a0 a1 s) :=
  k.step (List.nil_subset G) hQ (within_start fun h => within_mk h)

theorem within_beginBurst {a0 : Nat} {a1 : Nat} {a2 : Nat} (hQ : [.ring] ⊆ Q := by decide) : Within G Q s0 (beginBurst a0 a1 a2 s) :=
  k.step (List.nil_subset G) hQ (within_start fun h => within_modRing h)

theorem within_ringBegin (hQ : [.ring] ⊆ Q := by decide) : Within G Q s0 (ringBegin s) :=
  k.step (List.nil_subset G) hQ (within_start fun h => within_foldl h fun _ _ k2 => (within_modRing k2))

theorem within_sendDiscover {a0 : Nat} (hQ : [.ring] ⊆ Q := by decide) : Within G Q s0 (sendDiscover a0 s) :=
  k.step (List.nil_subset G) hQ (within_start fun h => within_emit (within_beginBurst h))

theorem within_sendCollect {a0 : Nat} (hQ : [.ring] ⊆ Q := by decide) : Within G Q s0 (sendCollect a0 s) := by
  refine k.step (List.nil_subset G) hQ (within_start fun h => ?_)
  unfold sendCollect
  extract_lets x0
  exact within_emit (within_beginBurst (within_modRing h))

theorem within_modEdge {a0 : Nat} {a1 : CellEdge → CellEdge} (hQ : [.edge] ⊆ Q := by decide) : Within G Q s0 (modEdge a0 a1 s) := by
  refine k.step (List.nil_subset G) hQ (within_start fun h => ?_)
  unfold modEdge
  extract_lets x0
  exact within_mk h

theorem within_edgeEvent70 {a0 : Nat} {a1 : Nat} {a2 : Nat} (hG : [0x02, 0x09, 0x51, 0x60] ⊆ G := by decide)
    (hQ : [.link, .intc] ⊆ Q := by decide) : Within G Q s0 (edgeEvent70 a0 a1 a2 s) :=
  k.step hG hQ (within_start fun h => within_raiseF (within_setEvt h))

theorem within_edgeStart (hG : [0x60] ⊆ G := by decide) (hQ : [.edge] ⊆ Q := by decide) : Within G Q s0 (edgeStart s) := by
  refine k.step hG hQ (within_start fun h => ?_)
  unfold edgeStart
  extract_lets x0 x1 x2 x3 x4 x5 x6
  have h7 : Within _ _ s x6 := within_mk h
  exact within_put (within_put (within_put h7))

theorem within_edgeStop (hG : [0x60] ⊆ G := by decide) (hQ : [.edge] ⊆ Q := by decide) : Within G Q s0 (edgeStop s) := by
  refine k.step hG hQ (within_start fun h => ?_)
  unfold edgeStop
  extract_lets x0 x1
  have h2 : Within _ _ s x1 := within_mk h
  exact within_put (within_put (within_put h2))

theorem within_putSetpoint {a0 : Nat} {a1 : Nat} (hQ : [.cells, .edge] ⊆ Q := by decide) : Within G Q s0 (putSetpoint a0 a1 s) := by
  refine k.step (List.nil_subset G) hQ (within_start fun h => ?_)
  unfold putSetpoint
  extract_lets x0
  exact within_ite h (within_foldl (within_mk h) fun _ _ k3 => (within_modCell k3))

theorem within_followCount {a0 : Nat} {a1 : Nat} {a2 : Bool} (hG : [0x41, 0x51] ⊆ G := by decide)
    (hQ : [.link, .weave, .cells, .edge] ⊆ Q := by decide) : Within G Q s0 (followCount a0 a1 a2 s) := by
  refine k.step hG hQ (within_start fun h => ?_)
  unfold followCount
  split
  exacts [h, (by split; exacts [(within_putSetpoint h), (within_ite (within_converterFault h) h)])]

theorem within_evalSetpoint {a0 : Nat} {a1 : Nat} {a2 : Nat} (hG : [0x41, 0x51] ⊆ G := by decide)
    (hQ : [.link, .weave, .cells, .edge] ⊆ Q := by decide) : Within G Q s0 (evalSetpoint a0 a1 a2 s) :=
  k.step hG hQ (within_start fun h => within_ite h (within_followCount h))

theorem within_addPeriod {a0 : Nat} {a1 : Nat} {a2 : Nat} {a3 : Nat} {a4 : Nat} {a5 : Nat} (hQ : [.edge] ⊆ Q := by decide) :
    Within G Q s0 (addPeriod a0 a1 a2 a3 a4 a5 s) := by
  refine k.step (List.nil_subset G) hQ (within_start fun h => ?_)
  unfold addPeriod
  extract_lets x0
  exact within_modEdge h

theorem within_takeDuties {a0 : Nat} (hQ : [.edge] ⊆ Q := by decide) : Within G Q s0 (takeDuties a0 s) :=
  k.step (List.nil_subset G) hQ (within_start fun h => within_foldl h fun _ _ k2 => (within_modEdge k2))

theorem within_loadPoint {a0 : Nat} (hG : [0x41, 0x51, 0x60] ⊆ G := by decide) (hQ : [.link, .weave, .cells, .edge] ⊆ Q := by decide) :
    Within G Q s0 (loadPoint a0 s) := by
  refine k.step hG hQ (within_start fun h => ?_)
  unfold loadPoint
  extract_lets x0 x1 x3 x4 x5 x10 x11 x12 x13
  have hc := page_countFld a0
  have h2 : Within _ _ s x1 := within_mk h
  have h6 : Within _ _ s x5 := within_foldl (within_mk h2) fun _ _ k9 => (within_modCell k9)
  have h14 : Within _ _ s x13 := within_foldl h6 fun _ _ k17 => (within_addPeriod k17)
  exact within_ite h (within_evalSetpoint (within_put (within_takeDuties h14)))

theorem within_setExt {a0 : Nat} (hQ : [.edge] ⊆ Q := by decide) : Within G Q s0 (setExt a0 s) := by
  refine k.step (List.nil_subset G) hQ (within_start fun h => ?_)
  unfold setExt
  extract_lets x0 x5 x10
  have h1 : ∀ v2 v4, Within [] [.edge] s v2 → Within [] [.edge] s (x0 v2 v4) := by intro v2 v4 k3; unfold x0; exact (within_ite (within_modEdge k3) k3)
  have h6 : Within _ _ s x5 := within_foldl h fun _ _ k9 => (within_ite (within_modEdge k9) k9)
  clear_value x5
  exact within_mk h6

theorem within_boundaryCell {a0 : Nat} (hG : [0x02, 0x09, 0x51, 0x100] ⊆ G := by decide) (hQ : [.link, .intc, .cells] ⊆ Q := by decide) :
    Within G Q s0 (boundaryCell a0 s) := by
  refine k.step hG hQ (within_start fun h => ?_)
  unfold boundaryCell
  extract_lets x0 x1 x2
  have h3 : Within _ _ s x2 := within_ite h (within_modCell h)
  exact within_ite (within_setCellState h3) (within_ite (within_setCellState h3) h3)

theorem within_enterStandby {a0 : Nat} (hG : [0x02, 0x09, 0x51, 0x100] ⊆ G := by decide) (hQ : [.link, .intc, .cells] ⊆ Q := by decide) :
    Within G Q s0 (enterStandby a0 s) :=
  k.step hG hQ (within_start fun h => within_foldl h fun _ _ k2 => (within_ite (within_enterCell k2) k2))

theorem within_boundaryPhase {a0 : Nat} (hG : [0x02, 0x09, 0x51, 0x60, 0x100] ⊆ G := by decide)
    (hQ : [.link, .intc, .cells] ⊆ Q := by decide) : Within G Q s0 (boundaryPhase a0 s) := by
  refine k.step hG hQ (within_start fun h => ?_)
  unfold boundaryPhase
  extract_lets x0 x5
  have h1 : Within _ _ s x0 := within_foldl h fun _ _ k4 => (within_boundaryCell k4)
  have h6 : Within _ _ s x5 := within_ite h1 (within_edgeEvent70 h1)
  exact within_enterStandby h6

theorem within_syncOut {a0 : Nat} (hG : [0x62] ⊆ G := by decide) : Within G Q s0 (syncOut a0 s) :=
  k.step hG (List.nil_subset Q) (within_start fun h => within_count (within_emit h))

theorem within_badRecord {a0 : Nat} {a1 : Word} {a2 : Nat} (hG : [0x02, 0x09, 0x51, 0x60] ⊆ G := by decide)
    (hQ : [.link, .intc, .edge] ⊆ Q := by decide) : Within G Q s0 (badRecord a0 a1 a2 s) := by
  refine k.step hG hQ (within_start fun h => ?_)
  unfold badRecord
  extract_lets x0 x1 x3 x5
  have h2 : Within _ _ s x1 := within_count (within_put (within_put (within_put h)))
  have h4 : Within _ _ s x3 := within_setEvt h2
  exact within_ite h4 (within_raiseF (within_mk h4))

theorem within_blankArm {a0 : Nat} {a1 : Nat} {a2 : Nat} {a3 : Nat} (hG : [0x02, 0x09, 0x51, 0x61] ⊆ G := by decide)
    (hQ : [.link, .intc, .blank] ⊆ Q := by decide) : Within G Q s0 (blankArm a0 a1 a2 a3 s) := by
  refine k.step hG hQ (within_start fun h => ?_)
  unfold blankArm
  extract_lets x0 x1 x2 x3 x5
  have hb : (blankPend a0).addr = 0x61080 := rfl
  have h4 : Within _ _ s x3 := within_ite (within_setEvt (within_count h)) h
  exact within_ite (within_raiseF (within_setEvt (within_count h))) (within_put (within_mk h4))

theorem within_commitEdge {a0 : Nat} {a1 : Nat} {a2 : Word} {a3 : Word} (hG : [0x02, 0x09, 0x51, 0x60, 0x61] ⊆ G := by decide)
    (hQ : [.link, .intc, .edge, .blank] ⊆ Q := by decide) : Within G Q s0 (commitEdge a0 a1 a2 a3 s) := by
  refine k.step hG hQ (within_start fun h => ?_)
  unfold commitEdge
  extract_lets x0 x1 x2 x3 x4 x5
  have h6 : Within _ _ s x5 := within_ite (within_setEvt (within_count h)) h
  exact within_ite (within_badRecord h) (within_ite (within_ite (within_badRecord h) (within_blankArm h)) (within_ite (within_badRecord h) (within_ite (within_badRecord h) (within_ite (within_badRecord h) (within_ite (within_badRecord h) (within_modEdge h6))))))

theorem within_formFigures {a0 : Nat} {a1 : Nat} (hG : [0x02, 0x09, 0x51, 0x60] ⊆ G := by decide)
    (hQ : [.link, .intc, .edge] ⊆ Q := by decide) : Within G Q s0 (formFigures a0 a1 s) := by
  refine k.step hG hQ (within_start fun h => ?_)
  unfold formFigures
  extract_lets x0 x1 x2 x4
  have h3 : Within _ _ s x2 := within_mk h
  have h5 : Within _ _ s x4 := within_put (within_put h3)
  exact within_ite h (within_ite h5 (within_ite (within_edgeEvent70 (within_put h5)) (within_put h5)))

theorem within_countRegion {a0 : Nat} {a1 : Nat} {a2 : Nat} {a3 : Nat} {a4 : Nat × Nat} {a5 : Nat × Nat} (hG : [0x60] ⊆ G := by decide) :
    Within G Q s0 (countRegion a0 a1 a2 a3 a4 a5 s) := by
  refine k.step hG (List.nil_subset Q) (within_start fun h => ?_)
  unfold countRegion
  extract_lets x0
  exact within_ite (within_ite (within_count h) (within_ite (within_count h) (within_ite (within_count h) h))) (within_ite (within_addSat h) h)

theorem within_fixPeriod {a0 : Nat} {a1 : Nat} {a2 : Nat} (hG : [0x60] ⊆ G := by decide) (hQ : [.edge] ⊆ Q := by decide) :
    Within G Q s0 (fixPeriod a0 a1 a2 s) := by
  refine k.step hG hQ (within_start fun h => ?_)
  unfold fixPeriod
  extract_lets x0 x1 x2 x3
  split
  exacts [h, (by extract_lets x4 x5 x6; have h7 : Within _ _ s x6 := (within_countRegion (within_countRegion h)); exact (within_ite h (within_modEdge h7)))]

theorem within_formCell {a0 : Nat} {a1 : Nat} (hG : [0x60] ⊆ G := by decide) (hQ : [.edge] ⊆ Q := by decide) :
    Within G Q s0 (formCell a0 a1 s) := by
  refine k.step hG hQ (within_start fun h => ?_)
  unfold formCell
  extract_lets x0 x5
  have h1 : ∀ v2 v3, Within [0x60] [.edge] s v3 → Within [0x60] [.edge] s (x0 v2 v3) := by intro v2 v3 k4; unfold x0; exact (within_modEdge k4)
  have h6 : Within _ _ s x5 := within_fixPeriod (within_fixPeriod (within_fixPeriod (within_fixPeriod h)))
  exact within_ite h (within_ite (h1 _ _ (within_modEdge h)) (h1 _ _ h6))

theorem within_sendCommand {a0 : Nat} {a1 : Nat} {a2 : Nat} {a3 : Nat} {a4 : List Segment} (hQ : [.ring] ⊆ Q := by decide) :
    Within G Q s0 (sendCommand a0 a1 a2 a3 a4 s) := by
  refine k.step (List.nil_subset G) hQ (within_start fun h => ?_)
  unfold sendCommand
  extract_lets x0 x1 x2 x3
  exact within_emit (within_beginBurst (within_modRing h))

theorem within_sendMgmt {a0 : Nat} {a1 : Nat} {a2 : List Byte} {a3 : List Mgmt} (hQ : [.ring] ⊆ Q := by decide) :
    Within G Q s0 (sendMgmt a0 a1 a2 a3 s) :=
  k.step (List.nil_subset G) hQ (within_start fun h => within_ite (within_modRing h) (within_foldl h fun _ _ k2 => (within_emit (within_beginBurst k2))))

theorem within_badCommand {a0 : Nat} {a1 : Word} (hG : [0x51] ⊆ G := by decide) (hQ : [.link] ⊆ Q := by decide) :
    Within G Q s0 (badCommand a0 a1 s) :=
  k.step hG hQ (within_start fun h => within_raiseF h)

theorem within_commitRing {a0 : Nat} {a1 : Word} {a2 : Word} (hG : [0x51] ⊆ G := by decide) (hQ : [.link, .cells] ⊆ Q := by decide) :
    Within G Q s0 (commitRing a0 a1 a2 s) := by
  refine k.step hG hQ (within_start fun h => ?_)
  unfold commitRing
  extract_lets x0 x1 x2 x3
  exact within_ite (within_badCommand h) (within_modCell h)

theorem within_putSyncLock {a0 : Bool} (hG : [0x02, 0x09, 0x51, 0x62] ⊆ G := by decide) (hQ : [.link, .intc] ⊆ Q := by decide) :
    Within G Q s0 (putSyncLock a0 s) :=
  k.step hG hQ (within_start fun h => within_ite h (within_raiseF (within_setEvt (within_putB h))))

theorem within_syncFollow {a0 : Nat} (hG : [0x02, 0x09, 0x51, 0x62] ⊆ G := by decide) (hQ : [.link, .intc, .edge, .syn] ⊆ Q := by decide) :
    Within G Q s0 (syncFollow a0 s) := by
  refine k.step hG hQ (within_start fun h => ?_)
  unfold syncFollow
  extract_lets x0 x1 x2 x3 x4 x5 x7 x8 x9
  have h6 : Within _ _ s x5 := within_putI h
  have h10 : Within _ _ s x9 := within_mk h6
  exact within_ite h (within_ite (within_ite (within_putSyncLock h10) h10) (within_putSyncLock (within_setExt (within_mk h6))))

theorem within_setLaneState {a0 : Nat} {a1 : Nat} (hk : a0 < 8 := by omega) (hG : [0x02, 0x09, 0x51] ++ ringPages ⊆ G := by decide)
    (hQ : [.link, .intc] ⊆ Q := by decide) : Within G Q s0 (setLaneState a0 a1 s) := by
  refine k.step hG hQ (within_start fun h => ?_)
  unfold setLaneState
  extract_lets x0
  exact within_ite h (within_raiseF (within_setEvt (within_put (within_put h))))

theorem within_putOwners {a0 : Nat} {a1 : Nat → Nat} (hk : a0 < 4 := by omega) (hG : [0x100] ++ ringPages ⊆ G := by decide) :
    Within G Q s0 (putOwners a0 a1 s) := by
  refine k.step hG (List.nil_subset Q) (within_start fun h => ?_)
  unfold putOwners
  extract_lets x0 x1 x2
  have h3 : ∀ v4 v5, v4 < 2 → Within ([0x100] ++ ringPages) [] s v5 → Within ([0x100] ++ ringPages) [] s (x2 v4 v5) := by intro v4 v5 _ k6; unfold x2; extract_lets x7; have hx7 : x7 = 2 * a0 + v4 := rfl; exact within_put (within_put (within_put k6))
  exact within_foldl (h3 _ _ (by omega) (h3 _ _ (by omega) h)) fun _ _ k10 => (within_ite (within_put k10) k10)

theorem within_applyOwners (hG : [0x100] ++ ringPages ⊆ G := by decide) (hQ : [.cells] ⊆ Q := by decide) :
    Within G Q s0 (applyOwners s) := by
  refine k.step hG hQ (within_start fun h => ?_)
  refine within_foldl_mem h fun t ph hm k2 => within_ite ?_ k2
  have hph := le_of_mem_three hm
  extract_lets s1
  have h1 : Within _ _ s s1 := within_putOwners k2
  exact within_foldl h1 fun _ _ k7 => within_modCell k7

theorem within_decideOwner {a0 : Nat} {a1 : Nat} {a2 : Nat} (hQ : [.cells] ⊆ Q := by decide) : Within G Q s0 (decideOwner a0 a1 a2 s) :=
  k.step (List.nil_subset G) hQ (within_start fun h => within_ite (within_modCell h) h)

theorem within_decideOwners {a0 : Nat} {a1 : Nat} {a2 : Nat → Nat} (hQ : [.cells] ⊆ Q := by decide) :
    Within G Q s0 (decideOwners a0 a1 a2 s) :=
  k.step (List.nil_subset G) hQ (within_start fun h => within_foldl h fun _ _ k2 => (within_decideOwner k2))

theorem within_defaultOwners {a0 : Nat} (hQ : [.cells] ⊆ Q := by decide) : Within G Q s0 (defaultOwners a0 s) :=
  k.step (List.nil_subset G) hQ (within_start fun h => within_decideOwners h)

theorem within_takeDefault {a0 : Nat} (hQ : [.cells] ⊆ Q := by decide) : Within G Q s0 (takeDefault a0 s) :=
  k.step (List.nil_subset G) hQ (within_start fun h => within_ite h (within_defaultOwners h))

theorem within_ownEvent {a0 : Nat} {a1 : Nat} {a2 : Nat} {a3 : Bool} (hk : a1 < 4 := by omega)
    (hG : [0x02, 0x09, 0x51] ++ ringPages ⊆ G := by decide) (hQ : [.link, .intc, .twin] ⊆ Q := by decide) :
    Within G Q s0 (ownEvent a0 a1 a2 a3 s) := by
  refine k.step hG hQ (within_start fun h => ?_)
  unfold ownEvent
  extract_lets x0 x5 x6
  have h1 : ∀ v2 v3, v2 < 8 → Within ([0x02, 0x09, 0x51] ++ ringPages) [.link, .intc, .twin] s v3 → Within ([0x02, 0x09, 0x51] ++ ringPages) [.link, .intc, .twin] s (x0 v2 v3) := by intro v2 v3 _ k4; unfold x0; exact (within_setEvt (within_count k4))
  have h7 : Within _ _ s x6 := within_mk h
  exact within_raiseF (h1 _ _ (by omega) (h1 _ _ (by omega) h7))

theorem within_failLane {a0 : Nat} (hk : a0 < 8 := by omega) (hG : [0x02, 0x09, 0x51, 0x100] ++ ringPages ⊆ G := by decide)
    (hQ : [.link, .intc, .cells, .ring, .twin, .edge] ⊆ Q := by decide) : Within G Q s0 (failLane a0 s) := by
  refine k.step hG hQ (within_start fun h => ?_)
  unfold failLane
  extract_lets x0 x2
  have h1 : Within _ _ s x0 := within_setLaneState (within_count (within_modRing h))
  exact within_ite (within_ownEvent (within_decideOwners h1)) (within_foldl h1 fun _ _ k5 => (within_nodeLost k5))

theorem within_receiverLoss {a0 : Nat} (hk : a0 < 8 := by omega) (hG : [0x02, 0x09, 0x51, 0x100] ++ ringPages ⊆ G := by decide)
    (hQ : [.link, .intc, .cells, .ring, .twin, .edge] ⊆ Q := by decide) : Within G Q s0 (receiverLoss a0 s) := by
  refine k.step hG hQ (within_start fun h => ?_)
  unfold receiverLoss
  extract_lets x0
  have h1 : Within _ _ s x0 := within_modRing (within_put h)
  exact within_ite (within_failLane h1) h1

theorem within_returnOwners {a0 : Nat} (hk : a0 < 4 := by omega) (hG : [0x100] ++ ringPages ⊆ G := by decide)
    (hQ : [.cells] ⊆ Q := by decide) : Within G Q s0 (returnOwners a0 s) :=
  k.step hG hQ (within_start fun h => within_ite (within_decideOwners h) (within_putOwners (within_foldl h fun _ _ k2 => (within_modCell k2))))

theorem within_returnOwner {a0 : Nat} {a1 : Nat} (hk : a0 < 192 := by omega) (hG : [0x100] ++ ringPages ⊆ G := by decide)
    (hQ : [.cells] ⊆ Q := by decide) : Within G Q s0 (returnOwner a0 a1 s) :=
  k.step hG hQ (within_start fun h => within_ite (within_decideOwner h) (within_putOwners h))

theorem within_leakWord {a0 : Uplink} : Within G Q s0 (leakWord a0 s).2 := by
  refine k.step (List.nil_subset G) (List.nil_subset Q) (within_start fun h => ?_)
  unfold leakWord
  extract_lets x0
  exact within_ite2 h (within_freeWord h)

theorem within_reduceSegment {a0 : Nat} {a1 : Nat} {a2 : Uplink} (hQ : [.cells] ⊆ Q := by decide) :
    Within G Q s0 (reduceSegment a0 a1 a2 s) := by
  refine k.step (List.nil_subset G) hQ (within_start fun h => ?_)
  unfold reduceSegment
  extract_lets x0 x1 x2 x3
  split
  rename_i w4 t5 q6
  exact (fun k7 => (by extract_lets x8; exact (within_modCell k7))) (within_snd (within_leakWord h) q6)

theorem within_authError {a0 : Nat} {a1 : Nat} (hk : a0 < 8 := by omega) (hG : [0x02, 0x09, 0x51] ++ ringPages ⊆ G := by decide)
    (hQ : [.link, .intc, .cells, .ring] ⊆ Q := by decide) : Within G Q s0 (authError a0 a1 s) := by
  refine k.step hG hQ (within_start fun h => ?_)
  unfold authError
  extract_lets x0
  have h1 : Within _ _ s x0 := within_setEvt (within_count (within_modCell h))
  exact within_ite h1 (within_raiseF (within_modRing h1))

theorem within_takeBlock {a0 : Nat} {a1 : Nat} {a2 : Nat} {a3 : List Word} (hQ : [.cells] ⊆ Q := by decide) :
    Within G Q s0 (takeBlock a0 a1 a2 a3 s) :=
  k.step (List.nil_subset G) hQ (within_start fun h => within_modCell h)

theorem within_takeSegment {a0 a1 a2 : Nat} {a3 : Returned} (hk : a0 < 8 := by omega)
    (hG : [0x02, 0x09, 0x51] ++ ringPages ⊆ G := by decide) (hQ : [.link, .intc, .cells, .ring] ⊆ Q := by decide) :
    Within G Q s0 (takeSegment a0 a1 a2 a3 s).1 := by
  refine k.step hG hQ (within_start fun h => ?_)
  unfold takeSegment
  split
  · exact h
  · exact within_takeBlock h
  · split
    · exact within_reduceSegment h
    · exact within_authError h

theorem within_countGood {a0 : Nat} {a1 : Nat} {a2 : Bool} (hQ : [.cells] ⊆ Q := by decide) : Within G Q s0 (countGood a0 a1 a2 s) :=
  k.step (List.nil_subset G) hQ (within_start fun h => within_ite (within_modCell h) h)

theorem within_collectOther {a0 : Nat} {a1 : Nat} {a2 : CollectBurst} (hQ : [.cells] ⊆ Q := by decide) :
    Within G Q s0 (collectOther a0 a1 a2 s) :=
  k.step (List.nil_subset G) hQ (within_start fun h => within_ite h (within_countGood h))

theorem within_collectCell {a0 a1 : Nat} {a2 : CollectBurst} {a3 : Returned} (hk : a0 < 8 := by omega)
    (hG : [0x02, 0x09, 0x51, 0x100] ++ ringPages ⊆ G := by decide) (hQ : [.link, .intc, .cells, .ring, .edge] ⊆ Q := by decide) :
    Within G Q s0 (collectCell a0 a1 a2 a3 s) := by
  refine k.step hG hQ (within_start fun h => ?_)
  unfold collectCell
  refine within_ite h ?_
  split
  next s1 auth he =>
    have h1 : Within ([0x02, 0x09, 0x51, 0x100] ++ ringPages) [.link, .intc, .cells, .ring, .edge] s (takeSegment a0 a2.pick a1 a3 s).1 := within_takeSegment h
    rw [he] at h1
    extract_lets ok s2
    have h2 : Within ([0x02, 0x09, 0x51, 0x100] ++ ringPages) [.link, .intc, .cells, .ring, .edge] s s2 := within_modCell (within_countGood h1)
    exact within_ite (within_nodeLost h2) h2

theorem within_collectCells {a0 : Nat} {a1 : CollectBurst} (hk : a0 < 8 := by omega)
    (hG : [0x02, 0x09, 0x51, 0x100] ++ ringPages ⊆ G := by decide) (hQ : [.link, .intc, .cells, .ring, .edge] ⊆ Q := by decide) :
    Within G Q s0 (collectCells a0 a1 s) := by
  refine k.step hG hQ (within_start fun h => ?_)
  unfold collectCells
  extract_lets x0 x1
  have h2 : Within _ _ s x1 := within_foldl h fun _ _ k5 => (within_collectCell k5)
  exact within_foldl h2 fun _ _ k8 => (within_collectOther k8)

theorem within_leaveAbsent {a0 : Nat} (hG : [0x02, 0x09, 0x51, 0x100] ⊆ G := by decide) (hQ : [.link, .intc, .cells] ⊆ Q := by decide) :
    Within G Q s0 (leaveAbsent a0 s) :=
  k.step hG hQ (within_start fun h => within_ite h (within_ite (within_setCellState (within_bypassCommand h)) (within_enterCell h)))

theorem within_putPresence {a0 : Nat} {a1 : Nat} (hk : a0 < 8 := by omega) (hG : ringPages ⊆ G := by decide) :
    Within G Q s0 (putPresence a0 a1 s) := by
  refine k.step hG (List.nil_subset Q) (within_start fun h => ?_)
  unfold putPresence
  extract_lets x0
  have hf : s.get (RING_ENUMSTAT_FOUND a0) < 2 ^ 7 := get_lt s (RING_ENUMSTAT_FOUND a0)
  have h1 : Within _ _ s x0 := within_put (within_put (within_put h))
  exact within_foldl_range h1 fun _ _ _ k4 => (within_putB k4)

theorem within_countFec {a0 : Nat} {a1 : Nat} {a2 : Nat} (hk : a0 < 8 := by omega) (hG : ringPages ⊆ G := by decide) :
    Within G Q s0 (countFec a0 a1 a2 s) :=
  k.step hG (List.nil_subset Q) (within_start fun h => within_addSat (within_addSat h))

theorem within_collectReturn {a0 : Nat} {a1 : CollectBurst} (hk : a0 < 8 := by omega)
    (hG : [0x02, 0x09, 0x51, 0x100] ++ ringPages ⊆ G := by decide) (hQ : [.link, .intc, .cells, .ring, .edge] ⊆ Q := by decide) :
    Within G Q s0 (collectReturn a0 a1 s) := by
  refine k.step hG hQ (within_start fun h => ?_)
  unfold collectReturn
  extract_lets x0 x2 x4 x6
  have h1 : Within _ _ s x0 := within_putPresence (within_putB (within_countFec h))
  have h3 : Within _ _ s x2 := within_modRing h1
  have h5 : Within _ _ s x4 := within_setLaneState (within_modRing h3)
  have h7 : Within _ _ s x6 := within_ite (within_takeDefault (within_foldl h5 fun _ _ k10 => (within_leaveAbsent k10))) h3
  exact within_collectCells h7

theorem within_enumResult {a0 : Nat} {a1 : Nat} {a2 : Nat} (hk : a0 < 8 := by omega)
    (hG : [0x02, 0x09, 0x51] ++ ringPages ⊆ G := by decide) (hQ : [.link, .intc] ⊆ Q := by decide) : Within G Q s0 (enumResult a0 a1 a2 s) :=
  k.step hG hQ (within_start fun h => within_raiseF (within_setEvt (within_put (within_put h))))

theorem within_enumRefuse {a0 : Nat} {a1 : Nat} (hk : a0 < 8 := by omega) (hG : [0x02, 0x09, 0x51, 0x100] ++ ringPages ⊆ G := by decide)
    (hQ : [.link, .intc, .cells, .ring, .twin, .edge] ⊆ Q := by decide) : Within G Q s0 (enumRefuse a0 a1 s) := by
  refine k.step hG hQ (within_start fun h => ?_)
  unfold enumRefuse
  extract_lets x0 x2
  have h1 : Within _ _ s x0 := within_enumResult (within_raiseF h)
  have h3 : Within _ _ s x2 := within_setLaneState (within_count (within_modRing h1))
  exact within_ite (within_ownEvent (within_decideOwners h3)) (within_ite (within_foldl h3 fun _ _ k6 => (within_nodeLost k6)) h3)

theorem within_startBursts {a0 : Nat} {a1 : Nat} (hk : a0 < 8 := by omega) (hG : [0x02, 0x09, 0x51] ++ ringPages ⊆ G := by decide)
    (hQ : [.link, .intc, .cells, .ring] ⊆ Q := by decide) : Within G Q s0 (startBursts a0 a1 s) := by
  refine k.step hG hQ (within_start fun h => ?_)
  unfold startBursts
  extract_lets x0 x1 x2 x3 x5
  have h4 : Within _ _ s x3 := within_enumResult (within_putB h)
  have h6 : Within _ _ s x5 := within_modRing h4
  exact within_ite h6 (within_defaultOwners h6)

theorem within_enumFinish {a0 : Nat} {a1 : Nat} (hk : a0 < 8 := by omega) (hG : [0x02, 0x09, 0x51] ++ ringPages ⊆ G := by decide)
    (hQ : [.link, .intc, .cells, .ring] ⊆ Q := by decide) : Within G Q s0 (enumFinish a0 a1 s) := by
  refine k.step hG hQ (within_start fun h => ?_)
  unfold enumFinish
  extract_lets x0 x1
  exact within_ite (within_startBursts h) h

theorem within_enumCompare {a0 : Nat} {a1 : Nat} (hk : a0 < 6 := by omega) (hG : [0x02, 0x09, 0x51, 0x100] ++ ringPages ⊆ G := by decide)
    (hQ : [.link, .intc, .cells, .ring, .twin, .edge] ⊆ Q := by decide) : Within G Q s0 (enumCompare a0 a1 s) := by
  refine k.step hG hQ (within_start fun h => ?_)
  unfold enumCompare
  extract_lets x0 x1 x2 x3
  have hf : s.get (RING_ENUMSTAT_FOUND a0) < 2 ^ 7 := get_lt s (RING_ENUMSTAT_FOUND a0)
  have hx2 : x2 = s.get (RING_ENUMSTAT_FOUND a0) := rfl
  have h4 : Within _ _ s x3 := within_foldl_range h fun _ _ _ k7 => within_put k7
  exact within_ite h (within_ite (within_enumRefuse h) (within_enumFinish (within_modRing h4)))

theorem within_enumAdvance (hG : [0x02, 0x09, 0x51, 0x100] ++ ringPages ⊆ G := by decide)
    (hQ : [.link, .intc, .cells, .ring, .twin, .edge] ⊆ Q := by decide) : Within G Q s0 (enumAdvance s) :=
  k.step hG hQ (within_start fun h => within_foldl_range h fun _ _ _ k2 => (within_enumCompare k2))

theorem within_dropKeys {a0 : Nat} (hk : a0 < 8 := by omega) (hG : ringPages ⊆ G := by decide) (hQ : [.cells] ⊆ Q := by decide) :
    Within G Q s0 (dropKeys a0 s) := by
  refine k.step hG hQ (within_start fun h => ?_)
  unfold dropKeys
  extract_lets x0
  have h1 : Within _ _ s x0 := within_foldl (within_put h) fun _ _ k4 => (within_modCell k4)
  exact within_foldl_range h1 fun _ _ _ k7 => within_put k7

theorem within_startEnum {a0 : Nat} (hk : a0 < 8 := by omega) (hG : [0x02, 0x09, 0x51] ++ ringPages ⊆ G := by decide)
    (hQ : [.link, .intc, .cells, .ring] ⊆ Q := by decide) : Within G Q s0 (startEnum a0 s) :=
  k.step hG hQ (within_start fun h => within_setLaneState (within_dropKeys (within_modRing h)))

theorem within_fillHops {a0 : Nat} {a1 : Discover} (hk : a0 < 8 := by omega) (hG : ringPages ⊆ G := by decide) :
    Within G Q s0 (fillHops a0 a1 s) := by
  refine k.step hG (List.nil_subset Q) (within_start fun h => ?_)
  unfold fillHops
  exact within_foldl_range (within_put (within_put (within_put (within_put h)))) fun t x hx k => by
    split
    · exact within_setRaw (within_setRaw (within_setRaw (within_setRaw k)))
    · exact within_setRaw (within_setRaw (within_put (within_put k)))

theorem within_mismatch {a0 : Nat} {a1 : Nat} {a2 : Nat} (hG : [0x51] ⊆ G := by decide) (hQ : [.link] ⊆ Q := by decide) :
    Within G Q s0 (mismatch a0 a1 a2 s) :=
  k.step hG hQ (within_start fun h => within_raiseF h)

theorem within_dropPhase {a0 : Nat} (hk : a0 < 4 := by omega) (hG : [0x02, 0x09, 0x51, 0x100] ++ ringPages ⊆ G := by decide)
    (hQ : [.link, .intc, .cells, .ring] ⊆ Q := by decide) : Within G Q s0 (dropPhase a0 s) := by
  refine k.step hG hQ (within_start fun h => ?_)
  unfold dropPhase
  extract_lets x0
  have h1 : ∀ v2 v4, v4 < 8 → Within ([0x02, 0x09, 0x51, 0x100] ++ ringPages) [.link, .intc, .cells, .ring] s v2 → Within ([0x02, 0x09, 0x51, 0x100] ++ ringPages) [.link, .intc, .cells, .ring] s (x0 v2 v4) := by intro v2 v4 _ k3; unfold x0; exact (within_dropKeys (within_modRing k3))
  exact within_foldl (within_foldl_mem h fun _ l hl k7 => (by
    simp only [List.mem_cons, List.not_mem_nil, or_false] at hl
    exact h1 _ _ (by omega) k7)) fun _ _ k10 => (within_ite (within_setCellState k10) k10)

theorem within_takeKey {a0 : Nat} {a1 : Nat} {a2 : Nat} {a3 : List Byte} (hk : a0 < 8 := by omega) (hi : a1 < 128 := by omega)
    (hG : ringPages ⊆ G := by decide) (hQ : [.cells] ⊆ Q := by decide) : Within G Q s0 (takeKey a0 a1 a2 a3 s) :=
  k.step hG hQ (within_start fun h => within_modCell (within_put h))

theorem within_ringCtlWrite {a0 : Nat} {a1 : Word} (hk : a0 < 8 := by omega)
    (hG : [0x02, 0x04, 0x09, 0x51, 0x100] ++ ringPages ⊆ G := by decide)
    (hQ : [.link, .intc, .jr, .cells, .ring, .twin, .edge] ⊆ Q := by decide) : Within G Q s0 (ringCtlWrite a0 a1 s) := by
  refine k.step hG hQ (within_start fun h => ?_)
  unfold ringCtlWrite
  extract_lets x0 x1 x2 x4 x6
  have hx0 : x0 = 0x58070 + 0x1000 * a0 := rfl
  have h3 : Within _ _ s x2 := within_ite h (within_capture h)
  have h5 : Within _ _ s x4 := within_ite (within_startEnum (within_put h3)) h3
  have h7 : Within _ _ s x6 := within_putB h5
  exact within_ite (within_capture h) (within_ite (within_capture h) (within_ite (within_ite (within_capture h5) h5) (within_ite (within_failLane h7) h7)))

theorem within_setTwin {a0 : Nat} (hG : [0x02, 0x09, 0x51] ++ ringPages ⊆ G := by decide) (hQ : [.link, .intc, .twin] ⊆ Q := by decide) :
    Within G Q s0 (setTwin a0 s) := by
  refine k.step hG hQ (within_start fun h => ?_)
  unfold setTwin
  extract_lets x0 x1 x6 x8
  have h2 : ∀ v3 v4, v3 < 8 → Within ([0x02, 0x09, 0x51] ++ ringPages) [.link, .intc, .twin] s v4 → Within ([0x02, 0x09, 0x51] ++ ringPages) [.link, .intc, .twin] s (x1 v3 v4) := by intro v3 v4 _ k5; unfold x1; exact (within_put (within_put k5))
  have h7 : Within _ _ s x6 := h2 _ _ (by omega) (h2 _ _ (by omega) h)
  exact within_ite h (within_raiseF (within_setEvt (within_setEvt (within_mk h7))))

theorem within_putTwin {a0 : Nat → Fld} {a1 : Nat} (h6 : min (pageOf (a0 6).addr) 0x100 ∈ G := by decide)
    (h7 : min (pageOf (a0 7).addr) 0x100 ∈ G := by decide) : Within G Q s0 (putTwin a0 a1 s) :=
  within_put (within_put k h6) h7

theorem within_twinArrives (hG : [0x02, 0x09, 0x51] ++ ringPages ⊆ G := by decide) (hQ : [.link, .intc, .twin] ⊆ Q := by decide) :
    Within G Q s0 (twinArrives s) := by
  refine k.step hG hQ (within_start fun h => ?_)
  unfold twinArrives
  extract_lets x0
  have h1 : Within _ _ s x0 := within_setTwin h
  exact within_ite h (within_ite (within_setTwin h1) h1)

theorem within_stopPartnerLanes (hG : [0x02, 0x09, 0x51] ++ ringPages ⊆ G := by decide) (hQ : [.link, .intc, .ring] ⊆ Q := by decide) :
    Within G Q s0 (stopPartnerLanes s) :=
  k.step hG hQ (within_start fun h => within_foldl_range h fun _ _ _ k2 => (within_ite k2 (within_setLaneState (within_put (within_modRing k2)))))

theorem within_takeCells {a0 : Nat} (hG : [0x02, 0x09, 0x51] ++ ringPages ⊆ G := by decide) (hQ : [.link, .intc, .cells, .twin] ⊆ Q := by decide) :
    Within G Q s0 (takeCells a0 s) := by
  refine k.step hG hQ (within_start fun h => ?_)
  refine within_foldl_mem h fun t ph hm k2 => ?_
  have hph := le_of_mem_three hm
  exact within_ownEvent (within_decideOwners k2)

theorem within_takeover {a0 : Nat} {a1 : Bool} (hG : [0x02, 0x09, 0x41, 0x51] ++ ringPages ⊆ G := by decide)
    (hQ : [.link, .intc, .weave, .cells, .twin] ⊆ Q := by decide) : Within G Q s0 (takeover a0 a1 s) := by
  refine k.step hG hQ (within_start fun h => ?_)
  unfold takeover
  extract_lets x0 x1 x2 x3 x5 x7
  have h4 : Within _ _ s x3 := within_setTwin h
  have h6 : Within _ _ s x5 := within_takeCells h4
  clear_value x3 x5
  exact within_ite (within_mk h6) (within_converterFault h4)

theorem within_lossPick (hG : [0x51] ⊆ G := by decide) (hQ : [.link, .twin] ⊆ Q := by decide) : Within G Q s0 (lossPick s) := by
  refine k.step hG hQ (within_start fun h => ?_)
  unfold lossPick
  extract_lets x0
  split
  exacts [(within_raiseF (within_mk h)), h]

theorem within_diverge {a0 : Nat} (hG : [0x02, 0x09, 0x41, 0x51] ++ ringPages ⊆ G := by decide)
    (hQ : [.link, .intc, .weave, .twin] ⊆ Q := by decide) : Within G Q s0 (diverge a0 s) := by
  refine k.step hG hQ (within_start fun h => ?_)
  unfold diverge
  extract_lets x0 x2
  have h1 : Within _ _ s x0 := within_putTwin (within_count (within_count h))
  have h3 : Within _ _ s x2 := within_raiseF (within_setEvt (within_setEvt h1))
  exact within_converterFault (within_setTwin h3)

theorem within_cancelSwitch (hG : [0x41] ⊆ G := by decide) (hQ : [.weave] ⊆ Q := by decide) : Within G Q s0 (cancelSwitch s) := by
  refine k.step hG hQ (within_start fun h => ?_)
  unfold cancelSwitch
  extract_lets x0
  split
  exacts [h, (within_put (within_put (within_mk h)))]

theorem within_partnerCancel {a0 : Nat} {a1 : Nat × Nat} (hG : [0x41] ⊆ G := by decide) (hQ : [.weave] ⊆ Q := by decide) :
    Within G Q s0 (partnerCancel a0 a1 s) := by
  refine k.step hG hQ (within_start fun h => ?_)
  unfold partnerCancel
  extract_lets x0 x1
  exact within_ite h (within_ite (within_put (within_put (within_mk h))) (within_ite (within_cancelSwitch h) h))

theorem within_partnerChange {a0 : Nat} {a1 : OwnChange} (hQ : [.cells, .twin] ⊆ Q := by decide) : Within G Q s0 (partnerChange a0 a1 s) := by
  refine k.step (List.nil_subset G) hQ (within_start fun h => ?_)
  unfold partnerChange
  extract_lets x0 x1
  exact within_ite (within_decideOwner h) (within_ite (within_decideOwners (within_mk h)) (within_decideOwners (within_mk h)))

theorem within_twinFec {a0 : TwinBurst} (hG : ringPages ⊆ G := by decide) : Within G Q s0 (twinFec a0 s) :=
  k.step hG (List.nil_subset Q) (within_start fun h => within_countFec (within_countFec h))

theorem within_laneLost {a0 : Nat} (hk : a0 < 8 := by omega) (hG : [0x02, 0x09, 0x51, 0x100] ++ ringPages ⊆ G := by decide)
    (hQ : [.link, .intc, .cells, .ring, .twin, .edge] ⊆ Q := by decide) : Within G Q s0 (laneLost a0 s) := by
  refine k.step hG hQ (within_start fun h => ?_)
  unfold laneLost
  extract_lets x0 x2
  have h1 : Within _ _ s x0 := within_receiverLoss h
  exact within_ite (within_setTwin h1) h1

theorem within_twctlWrite {a0 : Nat} {a1 : Word} (hk : a0 < 8 := by omega) (hG : [0x02, 0x04, 0x09, 0x51] ++ ringPages ⊆ G := by decide)
    (hQ : [.link, .intc, .jr, .twin] ⊆ Q := by decide) : Within G Q s0 (twctlWrite a0 a1 s) := by
  refine k.step hG hQ (within_start fun h => ?_)
  unfold twctlWrite
  extract_lets x0 x1 x2 x3 x5 x7 x8
  have hx0 : x0 = 0x5808c + 0x1000 * a0 := rfl
  have h4 : Within _ _ s x3 := within_ite h (within_capture h)
  have h6 : Within _ _ s x5 := within_putTwin h4
  have h9 : Within _ _ s x8 := within_mk h6
  exact within_ite (within_capture h) (within_ite (within_capture h) (within_ite (within_ite (within_setTwin h9) h9) h6))

theorem within_yieldCells (hG : [0x51] ⊆ G := by decide) (hQ : [.permit, .twin] ⊆ Q := by decide) : Within G Q s0 (yieldCells s) := by
  refine k.step hG hQ (within_start fun h => ?_)
  unfold yieldCells
  extract_lets x0 x1 x2
  have h3 : Within _ _ s x2 := within_mk h
  exact within_put (within_put (within_put (within_put h3)))

theorem within_yieldPick (hG : [0x02, 0x09, 0x41, 0x51] ++ ringPages ⊆ G := by decide) (hQ : [.pwr, .link, .intc, .loom, .twin] ⊆ Q := by decide) :
    Within G Q s0 (yieldPick s) := by
  refine k.step hG hQ (within_start fun h => ?_)
  unfold yieldPick
  split
  · refine within_ite ?_ h
    extract_lets s1 s2
    have h1 : Within _ _ s s1 := within_foldl_range (within_setTwin h) fun _ _ _ k4 => within_setLaneState k4
    have h2 : Within _ _ s s2 := within_foldl (within_put h1) fun _ _ k9 => within_modEng k9
    clear_value s2
    exact within_mk h2
  · exact h

theorem within_twinPick (hQ : [.twin] ⊆ Q := by decide) : Within G Q s0 (twinPick s) := by
  refine k.step (List.nil_subset G) hQ (within_start fun h => ?_)
  unfold twinPick
  extract_lets x0 x1 x2 x3
  have h4 : Within _ _ s x3 := within_mk h
  exact within_ite h (within_ite (within_emit h4) h4)

end

theorem frame_execInputRestored {s t : State} {a0 : Nat} (he : execInputRestored a0 s = .next t) :
    Within ([0x02, 0x09, 0x51, 0x100]) [.link, .intc, .cells] s t := by
  refine within_run (fun s => within_start fun h => ?_) he
  exact within_ite h (within_ite (within_setCellState h) (within_ite (within_returnCell h) h))

theorem frame_execBypassConfirmTimeout {s t : State} {a0 : Nat} (he : execBypassConfirmTimeout a0 s = .next t) :
    Within ([0x02, 0x09, 0x41, 0x51, 0x100]) [.link, .intc, .weave, .cells, .edge] s t := by
  refine within_run (fun s => within_start fun h => ?_) he
  split
  exacts [h, (by extract_lets x0 x2 x3; have h1 : Within _ _ s x0 := (within_modCell h); have h4 : Within _ _ s x3 := (within_ite (within_cellFault h1) (within_latchFault h1)); exact (within_ite (within_converterFault (within_modCell h4)) h4))]

theorem frame_execNodeLostTimeout {s t : State} {a0 : Nat} (he : execNodeLostTimeout a0 s = .next t) :
    Within ([0x100]) [.cells] s t := by
  refine within_run (fun s => within_start fun h => ?_) he
  exact within_ite (within_put (within_modCell h)) h

theorem frame_execCommandBurst {s t : State} {a0 : Nat} (he : execCommandBurst a0 s = .next t) :
    Within ([0x02, 0x09, 0x51, 0x60]) [.link, .intc, .ring, .edge] s t := by
  refine within_run (fun s => within_start fun h => ?_) he
  extract_lets x0 x1 x2 x3 x8
  have h4 : Within _ _ s x3 := within_ite (within_foldl (within_formFigures h) fun _ _ k7 => (within_formCell k7)) h
  exact within_ite h (within_sendCommand h4)

theorem frame_execSyncInPulse {s t : State} {a0 : Bool} {a1 : Nat} {a2 : Nat} (he : execSyncInPulse a0 a1 a2 s = .next t) :
    Within ([0x02, 0x09, 0x51, 0x62]) [.link, .intc, .edge, .syn] s t := by
  refine within_run (fun s => within_start fun h => ?_) he
  extract_lets x0 x1 x2 x3 x4 x6 x8 x9
  have h5 : Within _ _ s x4 := within_mk h
  have h7 : Within _ _ s x6 := within_put (within_put (within_count h5))
  have h10 : Within _ _ s x9 := within_ite (within_putI h7) h7
  exact within_ite h (within_ite (within_setEvt (within_count h)) (within_ite (within_syncFollow h10) h10))

theorem frame_execSyncLost {s t : State} (he : execSyncLost s = .next t) :
    Within ([0x02, 0x09, 0x51, 0x62]) [.link, .intc, .syn] s t := by
  refine within_run (fun s => within_start fun h => ?_) he
  extract_lets x0 x1 x3
  have h2 : Within _ _ s x1 := within_put h
  exact within_ite h (within_ite (within_raiseF (within_setEvt (within_putSyncLock (within_mk h2)))) h2)

theorem frame_execDirectionFail {s t : State} {a0 : Nat} (hk : a0 < 8 := by omega) (he : execDirectionFail a0 s = .next t) :
    Within ([0x02, 0x09, 0x51, 0x100] ++ ringPages) [.link, .intc, .cells, .ring, .twin, .edge] s t := by
  refine within_run (fun s => within_start fun h => ?_) he
  exact within_ite (within_failLane (within_put h)) h

theorem frame_execDirectionReturning {s t : State} {a0 : Nat} (hk : a0 < 8 := by omega) (he : execDirectionReturning a0 s = .next t) :
    Within ([0x02, 0x09, 0x51] ++ ringPages) [.link, .intc] s t := by
  refine within_run (fun s => within_start fun h => ?_) he
  exact within_ite (within_setLaneState h) h

theorem frame_execDefaultOwnershipReturn {s t : State} {a0 : Nat} (hk : a0 < 8 := by omega) (he : execDefaultOwnershipReturn a0 s = .next t) :
    Within ([0x02, 0x09, 0x51, 0x100] ++ ringPages) [.link, .intc, .cells, .twin] s t := by
  refine within_run (fun s => within_start fun h => ?_) he
  extract_lets x0 x1 x2 x4 x5 x10 x11
  have h3 : Within _ _ s x2 := within_setLaneState h
  have h6 : Within _ _ s x5 := within_returnOwners (within_foldl h3 fun _ _ k9 => (within_modCell k9))
  exact within_ite (within_ownEvent (within_mk h6)) h

theorem frame_execCellOwnerMove {s t : State} {a0 : Nat} (hk : a0 < 192 := by omega) (he : execCellOwnerMove a0 s = .next t) :
    Within ([0x02, 0x09, 0x51] ++ ringPages) [.link, .intc, .cells, .twin] s t := by
  refine within_run (fun s => within_start fun h => ?_) he
  extract_lets x0 x1
  exact within_ite (within_ownEvent (within_decideOwner (within_modCell h))) h

theorem frame_execCellDefaultReturn {s t : State} {a0 : Nat} (hk : a0 < 192 := by omega) (he : execCellDefaultReturn a0 s = .next t) :
    Within ([0x02, 0x09, 0x51, 0x100] ++ ringPages) [.link, .intc, .cells, .twin] s t := by
  refine within_run (fun s => within_start fun h => ?_) he
  extract_lets x0 x1
  exact within_ite (within_ownEvent (within_returnOwner (within_modCell h))) h

theorem frame_execLanePllLock {s t : State} {a0 : Nat} (hk : a0 < 8 := by omega) (he : execLanePllLock a0 s = .next t) :
    Within ([0x02, 0x09, 0x51, 0x7D] ++ ringPages) [.link, .intc, .cells, .ring] s t := by
  refine within_run (fun s => within_start fun h => ?_) he
  extract_lets x0
  have h1 : Within _ _ s x0 := within_putB (within_put h)
  exact within_ite h (within_ite (within_setLaneState h1) (within_ite (within_setLaneState h1) (within_ite (within_startEnum h1) h1)))

theorem frame_execLaneTrained {s t : State} {a0 : Nat} {a1 : Bool} {a2 : Nat} (hk : a0 < 6 := by omega) (he : execLaneTrained a0 a1 a2 s = .next t) :
    Within ([0x02, 0x09, 0x51, 0x100] ++ ringPages) [.link, .intc, .cells, .ring, .twin, .edge] s t := by
  refine within_run (fun s => within_start fun h => ?_) he
  exact within_ite h (within_ite (within_ite (within_sendDiscover (within_setLaneState (within_modRing (within_put h)))) (within_enumRefuse h)) (within_ite (within_put h) h))

theorem frame_execDiscoverReturn {s t : State} {a0 : Nat} {a1 : Discover} {a2 : Nat} (hk : a0 < 6 := by omega) (he : execDiscoverReturn a0 a1 a2 s = .next t) :
    Within ([0x02, 0x09, 0x51, 0x100] ++ ringPages) [.link, .intc, .cells, .ring, .twin, .edge] s t := by
  refine within_run (fun s => within_start fun h => ?_) he
  extract_lets x0 x1 x2
  have h3 : Within _ _ s x2 := within_countFec h
  exact within_ite h (within_ite (within_sendDiscover (within_modRing h3)) (within_ite (within_enumCompare (within_fillHops (within_modRing h3))) (within_sendDiscover (within_modRing h3))))

theorem frame_execNodeKeyed {s t : State} {a0 : Nat} {a1 : Nat} {a2 : Nat} {a3 : Nat} {a4 : List Byte} {a5 : List Mgmt} (hk : a0 < 6 := by omega) (he : execNodeKeyed a0 a1 a2 a3 a4 a5 s = .next t) :
    Within ([0x02, 0x09, 0x51, 0x100] ++ ringPages) [.link, .intc, .cells, .ring] s t := by
  refine within_run (fun s => within_start fun h => ?_) he
  extract_lets x0 x1 x2 x4 x5
  have h3 : Within _ _ s x2 := within_modRing (within_sendMgmt h)
  refine within_if (fun _ => h) fun hc => ?_
  have hf : s.get (RING_ENUMSTAT_FOUND a0) < 2 ^ 7 := get_lt s (RING_ENUMSTAT_FOUND a0)
  have hi : a1 - 1 < 128 := by
    simp only [Bool.or_eq_true, decide_eq_true_eq, not_or] at hc
    omega
  have h6 : Within _ _ s x5 := within_ite (within_mismatch (within_dropPhase h3)) (within_ite (within_mismatch h3) (within_ite h3 (within_takeKey h3)))
  exact within_enumFinish h6

theorem frame_execNodeConfigured {s t : State} {a0 : Nat} {a1 : Nat} {a2 : Bool} {a3 : Nat} {a4 : List Mgmt} (hk : a0 < 8 := by omega) (he : execNodeConfigured a0 a1 a2 a3 a4 s = .next t) :
    Within ([0x02, 0x09, 0x51] ++ ringPages) [.link, .intc, .cells, .ring] s t := by
  refine within_run (fun s => within_start fun h => ?_) he
  extract_lets x0 x1 x2
  have h3 : Within _ _ s x2 := within_sendMgmt h
  exact within_ite h (within_enumFinish (within_modRing h3))

theorem frame_execEnum {s t : State} {a0 : Nat} (hk : a0 < 8 := by omega) (he : execEnum a0 s = .next t) :
    Within ([0x02, 0x04, 0x09, 0x51, 0x100] ++ ringPages) [.link, .intc, .jr, .cells, .ring, .twin, .edge] s t := by
  refine within_run (fun s => within_start fun h => ?_) he
  exact within_ringCtlWrite h

theorem frame_execZc12Update {s t : State} {a0 : Nat} {a1 : Nat} {a2 : List (List Byte)} {a3 : List Mgmt} (hk : a0 < 192 := by omega) (he : execZc12Update a0 a1 a2 a3 s = .next t) :
    Within (ringPages) [.cells, .ring] s t := by
  refine within_run (fun s => within_start fun h => ?_) he
  extract_lets x0 x1 x9
  have h2 : ∀ v3 v5, v5 < 8 → Within ringPages [.cells, .ring] s v3 → Within ringPages [.cells, .ring] s (x1 v3 v5) := by intro v3 v5 _ k4; have hf : v3.get (RING_ENUMSTAT_FOUND v5) < 2 ^ 7 := get_lt v3 (RING_ENUMSTAT_FOUND v5); exact within_foldl_range k4 fun _ _ _ k8 => within_ite (within_takeKey (within_put k8)) k8
  exact within_ite (h2 _ _ (by omega) (h2 _ _ (by omega) (within_sendMgmt h))) h

theorem frame_execTwinLaneLock {s t : State} {a0 : Nat} (hk : a0 < 8 := by omega) (he : execTwinLaneLock a0 s = .next t) :
    Within ([0x02, 0x09, 0x51] ++ ringPages) [.link, .intc, .twin] s t := by
  refine within_run (fun s => within_start fun h => ?_) he
  extract_lets x0
  have h1 : Within _ _ s x0 := within_setLaneState (within_put h)
  exact within_ite h (within_ite (within_setTwin h1) h1)

theorem frame_execTwinBurst {s t : State} {a0 : TwinBurst} (he : execTwinBurst a0 s = .next t) :
    Within ([0x02, 0x09, 0x41, 0x51] ++ ringPages) [.link, .intc, .weave, .cells, .twin] s t := by
  refine within_run (fun s => within_start fun h => ?_) he
  extract_lets x0 x2 x3 x5 x6 x7 x9 x11 x12 x14 x19
  have h1 : Within _ _ s x0 := within_twinFec h
  have h4 : Within _ _ s x3 := within_ite h1 (within_count (within_count h1))
  have h8 : Within _ _ s x7 := within_putB (within_putB (within_mk h4))
  have h10 : Within _ _ s x9 := within_putTwin h8
  have h13 : Within _ _ s x12 := within_ite (within_putTwin h10) h10
  have h15 : Within _ _ s x14 := within_foldl h13 fun _ _ k18 => (within_partnerChange k18)
  have h20 : Within _ _ s x19 := within_foldl h15 fun _ _ k23 => (within_partnerCancel k23)
  exact within_ite h1 (within_ite (within_diverge h10) (within_ite (within_takeover h20) h20))

theorem frame_execPartnerLost {s t : State} (he : execPartnerLost s = .next t) :
    Within ([0x02, 0x09, 0x41, 0x51] ++ ringPages) [.link, .intc, .weave, .cells, .twin] s t := by
  refine within_run (fun s => within_start fun h => ?_) he
  extract_lets x0 x1
  exact within_ite h (within_ite (within_takeover h) (within_ite (within_setTwin h) h))

theorem frame_execReceiverLockLoss {s t : State} {a0 : Nat} (hk : a0 < 8 := by omega) (he : execReceiverLockLoss a0 s = .next t) :
    Within ([0x02, 0x09, 0x51, 0x100] ++ ringPages) [.link, .intc, .cells, .ring, .twin, .edge] s t := by
  refine within_run (fun s => within_start fun h => ?_) he
  exact within_ite (within_laneLost h) h

theorem frame_execRxdone {s t : State} {a0 : Nat} {a1 : Bool} (hk : a0 < 4 := by omega) (he : execRxdone a0 a1 s = .next t) :
    Within ([0x02, 0x09, 0x41, 0x51, 0x77, 0x100] ++ ringPages) [.link, .intc, .weave, .clu, .cells, .ring, .twin, .edge, .mppt] s t := by
  refine within_run (fun s => within_start fun h => ?_) he
  extract_lets x0
  have h1 : Within _ _ s x0 := within_publish h
  exact within_ite (within_takeover h1) h1

theorem frame_execCollectBurstReturn {s t : State} {a0 : Nat} {a1 : CollectBurst} (hk : a0 < 8 := by omega) (he : execCollectBurstReturn a0 a1 s = .next t) :
    Within ([0x02, 0x09, 0x41, 0x51, 0x100] ++ ringPages) [.link, .intc, .weave, .cells, .ring, .twin, .edge] s t := by
  refine within_run (fun s => within_start fun h => ?_) he
  exact within_ite h (within_ite (within_takeover (within_collectReturn h)) (within_collectReturn h))

theorem frame_execJoin {s t : State} (he : execJoin s = .next t) :
    Within ([0x02, 0x04, 0x09, 0x51] ++ ringPages) [.link, .intc, .jr, .twin] s t := by
  refine within_run (fun s => within_start fun h => ?_) he
  exact within_twctlWrite h

end Sys2Proof.Machine
end

section
/-! SUPPORT. Frames: the weave, the reed and the warden. -/

namespace Sys2Proof.Machine

set_option Elab.async false

section
variable {G : List Nat} {Q : List Part} {s0 s : State} (k : Within G Q s0 s)
include k

theorem within_commitRecord {a0 : Nat} {a1 : Rec} (hG : [0x02, 0x09, 0x51, 0x60, 0x61] ⊆ G := by decide)
    (hQ : [.link, .intc, .weave, .cells, .twin, .edge, .blank] ⊆ Q := by decide) : Within G Q s0 (commitRecord a0 a1 s) := by
  refine k.step hG hQ (within_start fun h => ?_)
  unfold commitRecord
  extract_lets x0 x1 x2 x4
  have h3 : Within _ _ s x2 := within_ite h (within_mk h)
  exact within_ite (within_commitEdge h3) (within_ite (within_commitRing h3) (within_ite (within_mk h3) (within_raiseF h3)))

theorem within_dropRecs {a0 : Nat} {a1 : Nat} (hQ : [.loom] ⊆ Q := by decide) : Within G Q s0 (dropRecs a0 a1 s) :=
  k.step (List.nil_subset G) hQ (within_start fun h => within_foldl h fun _ _ k2 => (within_modEng k2))

theorem within_probationCheck {a0 : Nat} {a1 : Nat} {a2 : Option Rec} (hk : a0 < 4 := by omega)
    (hG : [0x02, 0x09, 0x50, 0x51] ++ loomPages ⊆ G := by decide) (hQ : [.link, .intc, .loom, .clu] ⊆ Q := by decide) :
    Within G Q s0 (probationCheck a0 a1 a2 s) :=
  k.step hG hQ (within_start fun h => within_ite (within_failAttempt h) h)

theorem within_commitVote {a0 a1 : Nat} (hk : a0 < 4 := by omega)
    (hG : [0x02, 0x09, 0x41, 0x50, 0x51, 0x60, 0x61] ++ loomPages ++ ringPages ⊆ G := by decide)
    (hQ : [.pwr, .link, .intc, .weave, .loom, .clu, .cells, .twin, .edge, .blank] ⊆ Q := by decide) : Within G Q s0 (commitVote a0 a1 s) := by
  refine k.step hG hQ (within_start fun h => ?_)
  unfold commitVote
  extract_lets c0 rs
  have h0 : Within _ _ s c0 := within_voteChecks h
  split
  · exact within_dropRecs h0
  · split
    · exact within_stopUnvoted (within_dropRecs h0)
    · split
      · exact within_dropRecs (within_clusterFault h0)
      · rename_i v out hout
        extract_lets s1 s2 s3
        have h2 : Within _ _ s s2 := within_dropRecs (within_probationCheck h0)
        have h3 : Within ([0x02, 0x09, 0x41, 0x50, 0x51, 0x60, 0x61] ++ loomPages ++ ringPages) [.pwr, .link, .intc, .weave, .loom, .clu, .cells, .twin, .edge, .blank] s s3 := by
          unfold s3
          split
          · exact within_commitRecord h2
          · exact h2
        refine within_foldl_mem h3 fun _ e he k => ?_
        have he := lt_of_mem_liveVoters (mem_of_mem_minority hout he)
        exact within_minority k

theorem within_engctlWrite {a0 : Word} (hG : [0x02, 0x04, 0x09, 0x50, 0x51] ⊆ G := by decide)
    (hQ : [.link, .intc, .jr, .warden] ⊆ Q := by decide) : Within G Q s0 (engctlWrite a0 s) := by
  refine k.step hG hQ (within_start fun h => ?_)
  unfold engctlWrite
  extract_lets x0 x1 x2 x4 x6
  have hx0 : x0 = 0x50044 := rfl
  have h3 : Within _ _ s x2 := within_ite h (within_capture h)
  have h5 : Within _ _ s x4 := within_putB (within_put h3)
  exact within_ite (within_capture h) (within_mk h5)

theorem within_engctlApply (hk : ∀ w, s.warden.engctl = some w → bitsAt w.toNat 0 4 < 12) (hG : [0x02, 0x04, 0x09, 0x41, 0x50, 0x51] ++ loomPages ++ ringPages ⊆ G := by decide)
    (hQ : [.pwr, .link, .intc, .jr, .weave, .loom, .clu, .warden] ⊆ Q := by decide) : Within G Q s0 (engctlApply s) := by
  refine k.step hG hQ (within_start fun h => ?_)
  unfold engctlApply
  split
  · exact h
  next w hw =>
    have hk := hk w hw
    extract_lets _ t a e c cmd s1 s2 cl hf
    have ha : a = 0x50044 := rfl
    have he : e = bitsAt w.toNat 0 4 := rfl
    have ht : Within ([0x02, 0x04, 0x09, 0x41, 0x50, 0x51] ++ loomPages ++ ringPages) [.pwr, .link, .intc, .jr, .weave, .loom, .clu, .warden] s t := within_mk h
    clear_value t
    have h1 : Within ([0x02, 0x04, 0x09, 0x41, 0x50, 0x51] ++ loomPages ++ ringPages) [.pwr, .link, .intc, .jr, .weave, .loom, .clu, .warden] s s1 := within_stopEngine ht
    have h2 : Within ([0x02, 0x04, 0x09, 0x41, 0x50, 0x51] ++ loomPages ++ ringPages) [.pwr, .link, .intc, .jr, .weave, .loom, .clu, .warden] s s2 := within_put (within_put (within_put ht))
    clear_value s1 s2
    have hcap : Within ([0x02, 0x04, 0x09, 0x41, 0x50, 0x51] ++ loomPages ++ ringPages) [.pwr, .link, .intc, .jr, .weave, .loom, .clu, .warden] s (capture a 3 t) := within_capture ht
    refine within_ite (within_ite (within_raiseF (within_put h1)) hcap) (within_ite (within_ite (within_raiseF (within_put ht)) hcap) ?_)
    exact within_ite (within_ite (within_mk h2) hcap) (within_ite hcap (within_modClu ht))

theorem within_wardenRestart {a0 : Nat} (hG : [0x02, 0x09, 0x51, 0x52] ⊆ G := by decide) (hQ : [.link, .intc] ⊆ Q := by decide) :
    Within G Q s0 (wardenRestart a0 s) :=
  k.step hG hQ (within_start fun h => within_raiseF (within_setEvt (within_count (within_put h))))

theorem within_auditCount {a0 : Nat} {a1 : Nat} (hG : [0x52] ⊆ G := by decide) (hQ : [.clu, .warden] ⊆ Q := by decide) :
    Within G Q s0 (auditCount a0 a1 s) := by
  refine k.step hG hQ (within_start fun h => ?_)
  unfold auditCount
  extract_lets x0 x1 x2 x4 x6
  have h3 : Within _ _ s x2 := within_modClu (within_mk h)
  have h5 : Within _ _ s x4 := within_countWrap h3
  exact within_ite (within_mk h5) h3

theorem within_wardenFwctlWrite {a0 : Word} (hG : [0x02, 0x04, 0x09, 0x51, 0x52] ⊆ G := by decide)
    (hQ : [.link, .intc, .jr, .warden] ⊆ Q := by decide) : Within G Q s0 (wardenFwctlWrite a0 s) := by
  refine k.step hG hQ (within_start fun h => ?_)
  have act : ∀ t : State, Within [0x02, 0x04, 0x09, 0x51, 0x52]
      [.link, .intc, .jr, .warden] s t → Within [0x02, 0x04, 0x09, 0x51, 0x52]
      [.link, .intc, .jr, .warden] s (wardenRestart 3 ({ (t.put WARDEN_FWVER_VER t.warden.stbyVer) with
      warden := { t.warden with svn := t.warden.stbySvn, stby := [] } }.put WARDEN_STAT_STBY 0 |>.put WARDEN_FWSTBYV_VER 0)) := fun t ht =>
    within_wardenRestart (within_put (within_put (within_mk (within_put (f := WARDEN_FWVER_VER) (v := t.warden.stbyVer) ht))))
  have drop : ∀ t : State, Within [0x02, 0x04, 0x09, 0x51, 0x52]
      [.link, .intc, .jr, .warden] s t → Within [0x02, 0x04, 0x09, 0x51, 0x52]
      [.link, .intc, .jr, .warden] s { (t.put WARDEN_STAT_STBY 0).put WARDEN_FWSTBYV_VER 0 with
      warden := { t.warden with stby := [], verifying := false } } := fun t ht =>
    within_mk (within_put (f := WARDEN_FWSTBYV_VER) (v := 0) (within_put (f := WARDEN_STAT_STBY) (v := 0) ht))
  have chk : ∀ t : State, Within [0x02, 0x04, 0x09, 0x51, 0x52] [.link, .intc, .jr, .warden] s t → Within [0x02, 0x04, 0x09, 0x51, 0x52] [.link, .intc, .jr, .warden] s { t with warden := { t.warden with verifying := true } } := fun t ht => within_mk ht
  unfold wardenFwctlWrite
  refine within_ite (within_capture h) ?_
  have h1 : Within _ _ s (if a0.toNat / 8 = 0 then s else capture WARDEN_FWCTL_VERIFY.addr 2 s) := within_ite h (within_capture h)
  generalize (if a0.toNat / 8 = 0 then s else capture WARDEN_FWCTL_VERIFY.addr 2 s) = s1 at h1 ⊢
  have h2 : Within _ _ s (if a0.getLsbD 0 then { s1 with warden := { s1.warden with verifying := true } } else s1) := within_ite (chk _ h1) h1
  exact within_ite (drop _ (within_ite (act _ h2) h2)) (within_ite (act _ h2) h2)

theorem within_refreshBanks (hG : [0x41] ⊆ G := by decide) : Within G Q s0 (refreshBanks s) := by
  refine k.step hG (List.nil_subset Q) (within_start fun h => ?_)
  refine within_foldl_mem h fun t b hb k2 => ?_
  simp only [List.mem_cons, List.not_mem_nil, or_false] at hb
  split
  · exact within_put (within_put (within_put k2))
  · exact within_putB (within_putB (within_putB k2))

theorem within_clockTo {a0 : Nat} {a1 : Nat} (hk : a0 < 4 := by omega)
    (hG : [0x02, 0x09, 0x41, 0x50, 0x51] ++ loomPages ++ ringPages ⊆ G := by decide) (hQ : [.pwr, .link, .intc, .weave, .loom, .clu] ⊆ Q := by decide) :
    Within G Q s0 (clockTo a0 a1 s) := by
  refine k.step hG hQ (within_start fun h => ?_)
  refine within_foldl_mem h fun t e he k2 => ?_
  simp only [List.mem_cons, List.not_mem_nil, or_false] at he
  exact within_landDue (within_modEng k2)

theorem within_jobsEnded {a0 : Nat} (hQ : [.clu] ⊆ Q := by decide) : Within G Q s0 (jobsEnded a0 s) := by
  refine k.step (List.nil_subset G) hQ (within_start fun h => ?_)
  unfold jobsEnded
  extract_lets x0
  split
  exacts [(by split; exacts [(within_ite (within_modClu h) h), h]), h]

theorem within_parkAll {a0 : Nat} (hQ : [.loom, .clu] ⊆ Q := by decide) : Within G Q s0 (parkAll a0 s) :=
  k.step (List.nil_subset G) hQ (within_start fun h => within_foldl (within_jobsEnded h) fun _ _ k2 => (within_modEng k2))

theorem within_runJob {a0 : Nat} {a1 : Nat} (hk : a0 < 4 := by omega) (hG : loomPages ⊆ G := by decide) (hQ : [.loom] ⊆ Q := by decide) :
    Within G Q s0 (runJob a0 a1 s) := by
  refine k.step hG hQ (within_start fun h => ?_)
  unfold runJob
  split
  exacts [h, (within_ite h (within_foldl_mem h fun _ _ he k2 => have he := lt_of_mem_issuers he; within_put (within_modEng k2)))]

theorem within_startHeddle {a0 : Nat} {a1 : Nat} (hk : a0 < 4 := by omega)
    (hG : [0x02, 0x09, 0x41, 0x50, 0x51] ++ loomPages ++ ringPages ⊆ G := by decide)
    (hQ : [.pwr, .link, .intc, .weave, .loom, .clu] ⊆ Q := by decide) : Within G Q s0 (startHeddle a0 a1 s) := by
  refine k.step hG hQ (within_start fun h => ?_)
  unfold startHeddle
  split
  exacts [h, (by extract_lets x0 x5; have h1 : Within _ _ s x0 := (within_foldl_mem (within_clockTo h) fun _ _ he k4 => have he := le_of_mem_three he; within_put (within_put k4)); have h6 : Within _ _ s x5 := (within_modClu h1); exact (within_ite (within_foldl h6 fun _ _ k9 => (within_modEng k9)) (within_ite (within_runJob h6) h6)))]

theorem within_startSlack {a0 : Nat} (hk : a0 < 4 := by omega)
    (hG : [0x02, 0x09, 0x41, 0x50, 0x51] ++ loomPages ++ ringPages ⊆ G := by decide)
    (hQ : [.pwr, .link, .intc, .weave, .loom, .clu] ⊆ Q := by decide) : Within G Q s0 (startSlack a0 s) := by
  refine k.step hG hQ (within_start fun h => ?_)
  unfold startSlack
  extract_lets x0
  have h1 : Within _ _ s x0 := within_modClu (within_clockTo h)
  split
  exacts [(by extract_lets x2; exact (within_ite h1 (within_runJob h1))), h1]

theorem within_bgWork {a0 : Nat} {a1 : Heddle} (hk : a0 < 4 := by omega) (hG : [0x50, 0x7C] ⊆ G := by decide)
    (hQ : [.clu, .heat] ⊆ Q := by decide) : Within G Q s0 (bgWork a0 a1 s) := by
  refine k.step hG hQ (within_start fun h => ?_)
  unfold bgWork
  extract_lets x0 x1 x2 x3 x5 x6
  have hr : s.get (REED_CLST_REPENG a0) < 2 ^ 2 := get_lt s (REED_CLST_REPENG a0)
  have hx5 : x5 = 3 * a0 + s.get (REED_CLST_REPENG a0) := rfl
  have h4 : Within _ _ s x3 := within_mk h
  exact within_ite (within_ite (within_countWrap h4) h4) (within_ite (within_modClu (within_put h)) h)

theorem within_overrun {a0 : Nat} {a1 : Nat} (hk : a0 < 4 := by omega)
    (hG : [0x02, 0x09, 0x41, 0x50, 0x51] ++ loomPages ++ ringPages ⊆ G := by decide)
    (hQ : [.pwr, .link, .intc, .weave, .loom, .clu] ⊆ Q := by decide) : Within G Q s0 (overrun a0 a1 s) := by
  refine k.step hG hQ (within_start fun h => ?_)
  unfold overrun
  extract_lets x0 x1
  have h2 : Within ([0x02, 0x09, 0x41, 0x50, 0x51] ++ loomPages ++ ringPages) [.pwr, .link, .intc, .weave, .loom, .clu] s x1 := by unfold x1; exact within_foldl_mem h fun _ _ he k5 => have he := lt_of_mem_issuers (List.mem_filter.1 he).1; within_stopEngine (within_ite (within_mk k5) k5)
  exact within_ite h2 (within_voteChecks h2)

theorem within_missDeadline {a0 : Nat} {a1 : Nat} (hG : [0x02, 0x09, 0x41, 0x51] ⊆ G := by decide)
    (hQ : [.link, .intc, .clu] ⊆ Q := by decide) : Within G Q s0 (missDeadline a0 a1 s) := by
  refine k.step hG hQ (within_start fun h => ?_)
  unfold missDeadline
  extract_lets x0
  have h1 : Within _ _ s x0 := within_put (within_put (within_count h))
  exact within_ite h (within_raiseF (within_setEvt (within_modClu h1)))

theorem within_jobPeriod {a0 : Nat} {a1 : Job} (hG : [0x02, 0x09, 0x41, 0x51] ⊆ G := by decide)
    (hQ : [.link, .intc, .loom, .clu] ⊆ Q := by decide) : Within G Q s0 (jobPeriod a0 a1 s) := by
  refine k.step hG hQ (within_start fun h => ?_)
  unfold jobPeriod
  extract_lets x0 x1
  have h2 : Within _ _ s x1 := within_ite (within_foldl (within_missDeadline h) fun _ _ k5 => (within_modEng k5)) h
  exact within_ite h (within_modClu h2)

theorem within_jobPeriods {a0 : Nat} (hG : [0x02, 0x09, 0x41, 0x51] ⊆ G := by decide) (hQ : [.link, .intc, .loom, .clu] ⊆ Q := by decide) :
    Within G Q s0 (jobPeriods a0 s) := by
  refine k.step hG hQ (within_start fun h => ?_)
  unfold jobPeriods
  split
  exacts [h, (within_ite h (within_foldl h fun _ _ k2 => (within_jobPeriod k2)))]

theorem within_clusterEnd {a0 : Nat} (hk : a0 < 4 := by omega)
    (hG : [0x02, 0x09, 0x41, 0x50, 0x51] ++ loomPages ++ ringPages ⊆ G := by decide)
    (hQ : [.pwr, .link, .intc, .weave, .loom, .clu] ⊆ Q := by decide) : Within G Q s0 (clusterEnd a0 s) := by
  refine k.step hG hQ (within_start fun h => ?_)
  unfold clusterEnd
  extract_lets x0 x2 x3 x8
  have h1 : Within _ _ s x0 := within_parkAll (within_clockTo h)
  have h4 : Within _ _ s x3 := within_foldl h1 fun _ _ k7 => (within_modEng k7)
  clear_value x3
  exact within_modClu (within_mk h4)

theorem within_clusterStart {a0 : Nat} (hk : a0 < 4 := by omega)
    (hG : [0x02, 0x09, 0x41, 0x50, 0x51] ++ loomPages ++ ringPages ⊆ G := by decide)
    (hQ : [.pwr, .link, .intc, .weave, .loom, .clu] ⊆ Q := by decide) : Within G Q s0 (clusterStart a0 s) := by
  refine k.step hG hQ (within_start fun h => ?_)
  unfold clusterStart
  extract_lets x0 x1 x6
  have h2 : Within _ _ s x1 := within_foldl_mem h fun _ _ he k5 => have he := le_of_mem_three he; within_put k5
  exact within_startHeddle (within_jobPeriods (within_modClu h2))

theorem within_startClusters (hG : [0x02, 0x09, 0x41, 0x50, 0x51] ++ loomPages ++ ringPages ⊆ G := by decide)
    (hQ : [.pwr, .link, .intc, .weave, .loom, .clu] ⊆ Q := by decide) : Within G Q s0 (startClusters s) := by
  refine k.step hG hQ (within_start fun h => ?_)
  unfold startClusters
  extract_lets x0
  exact within_clusterStart (within_clusterStart (within_clusterStart (within_clusterStart (within_mk h))))

theorem within_resetContexts (hQ : [.loom] ⊆ Q := by decide) : Within G Q s0 (resetContexts s) :=
  k.step (List.nil_subset G) hQ (within_start fun h => within_mk h)

theorem within_engineRuns {a0 : Nat} (hk : a0 < 12 := by omega) (hG : [0x50] ++ loomPages ⊆ G := by decide) :
    Within G Q s0 (engineRuns a0 s) := by
  refine k.step hG (List.nil_subset Q) (within_start fun h => ?_)
  unfold engineRuns
  extract_lets x0
  have h1 : Within _ _ s x0 := within_setEngState (within_put h)
  exact within_put h1

theorem within_clusterMode {a0 : Nat} (hk : a0 < 4 := by omega) (hG : [0x02, 0x09, 0x41, 0x50, 0x51] ++ ringPages ⊆ G := by decide)
    (hQ : [.pwr, .link, .intc, .weave] ⊆ Q := by decide) : Within G Q s0 (clusterMode a0 s) := by
  refine k.step hG hQ (within_start fun h => ?_)
  unfold clusterMode
  extract_lets x0
  exact within_ite h (within_ite (within_reedStop h) (within_put h))

theorem within_refuseSwitch {a0 : Nat} {a1 : Nat} (hG : [0x02, 0x09, 0x41, 0x51] ⊆ G := by decide)
    (hQ : [.link, .intc, .weave] ⊆ Q := by decide) : Within G Q s0 (refuseSwitch a0 a1 s) := by
  refine k.step hG hQ (within_start fun h => ?_)
  unfold refuseSwitch
  extract_lets x0 x1
  have h2 : Within _ _ s x1 := within_mk h
  exact within_raiseF (within_setEvt (within_put (within_put (within_put h2))))

theorem within_refuseDue (hG : [0x02, 0x09, 0x41, 0x51] ⊆ G := by decide) (hQ : [.link, .intc, .weave] ⊆ Q := by decide) :
    Within G Q s0 (refuseDue s) := by
  refine k.step hG hQ (within_start fun h => ?_)
  unfold refuseDue
  split
  exacts [(within_refuseSwitch h), h]

theorem within_startFallback {a0 : Nat} (hG : [0x02, 0x09, 0x41, 0x50, 0x51] ++ loomPages ++ ringPages ⊆ G := by decide)
    (hQ : [.pwr, .link, .intc, .weave, .loom, .clu, .cells] ⊆ Q := by decide) : Within G Q s0 (startFallback a0 s) := by
  refine k.step hG hQ (within_start fun h => ?_)
  unfold startFallback
  extract_lets restart s1 s2 src wv s3 b s4 st s5 s6 s7
  have hb : b < 2 ^ 1 := get_lt s WEAVE_STAT_ACT
  have h2 : Within _ _ s s2 := within_foldl_range (within_foldl_range (within_refuseDue h) fun _ _ _ k => within_abandonAttempt k) fun _ _ _ k =>
    within_ite (within_engineRuns k) k
  clear_value s2
  have h3 : Within _ _ s s3 := within_resetContexts (within_mk h2)
  clear_value s3
  have h5 : Within _ _ s s5 := within_put (within_put (within_put (within_put (within_put (within_put h3)))))
  clear_value s5
  have h6 : Within _ _ s s6 := within_foldl_range h5 fun _ _ _ k => within_put k
  clear_value s6
  have h7 : Within _ _ s s7 := within_mk h6
  clear_value s7
  exact within_foldl_range (within_raiseF (within_setEvt h7)) fun _ _ _ k => within_clusterMode k

theorem within_fallbackPick (hQ : [.weave] ⊆ Q := by decide) : Within G Q s0 (fallbackPick s) := by
  refine k.step (List.nil_subset G) hQ (within_start fun h => ?_)
  unfold fallbackPick
  extract_lets x0
  exact within_ite (within_mk h) h

theorem within_modBank {a0 : Nat} {a1 : Bank → Bank} (hQ : [.weave] ⊆ Q := by decide) : Within G Q s0 (modBank a0 a1 s) :=
  k.step (List.nil_subset G) hQ (within_start fun h => within_mk h)

theorem within_putBankId {a0 : Nat} {a1 : Option Image} (hk : a0 < 2 := by omega) (hG : [0x41] ⊆ G := by decide) :
    Within G Q s0 (putBankId a0 a1 s) := by
  refine k.step hG (List.nil_subset Q) (within_start fun h => ?_)
  unfold putBankId
  extract_lets x0 x1 x2
  have h3 : Within _ _ s x2 := within_put (within_put h)
  exact within_foldl_range h3 fun _ _ _ k6 => within_put k6 page_ite

theorem within_clearBank {a0 : Nat} {a1 : Nat} (hk : a0 < 2 := by omega) (hG : [0x41] ⊆ G := by decide) (hQ : [.weave] ⊆ Q := by decide) :
    Within G Q s0 (clearBank a0 a1 s) :=
  k.step hG hQ (within_start fun h => within_refreshBanks (within_putBankId (within_put (within_modBank h))))

theorem within_weaveCtlWrite {a0 : Word} (hG : [0x02, 0x04, 0x09, 0x41, 0x51] ⊆ G := by decide)
    (hQ : [.link, .intc, .jr, .weave] ⊆ Q := by decide) : Within G Q s0 (weaveCtlWrite a0 s) := by
  refine k.step hG hQ (within_start fun h => ?_)
  unfold weaveCtlWrite
  extract_lets x0 x1 x2 x3 x5
  have hx0 : x0 = 0x41064 := rfl
  have hx1 : x1 < 2 := Nat.mod_lt _ (by decide)
  have h4 : Within _ _ s x3 := within_put (within_ite h (within_capture h))
  have h6 : Within _ _ s x5 := within_ite (within_put h4) h4
  exact within_ite (within_capture h) (within_ite (within_modBank (within_put (within_put (within_clearBank h6)))) h6)

theorem within_preload {a0 : Image} (hQ : [.loom] ⊆ Q := by decide) : Within G Q s0 (preload a0 s) :=
  k.step (List.nil_subset G) hQ (within_start fun h => within_foldl h fun _ _ k2 => (within_modEng k2))

theorem within_preloadHot {a0 : Nat} {a1 : Bool} (hQ : [.loom] ⊆ Q := by decide) : Within G Q s0 (preloadHot a0 a1 s) := by
  refine k.step (List.nil_subset G) hQ (within_start fun h => ?_)
  unfold preloadHot
  split
  exacts [(within_ite h (within_preload h)), h]

theorem within_hostCancel (hG : [0x41] ⊆ G := by decide) (hQ : [.weave, .twin] ⊆ Q := by decide) : Within G Q s0 (hostCancel s) := by
  refine k.step hG hQ (within_start fun h => ?_)
  unfold hostCancel
  extract_lets x0
  exact within_cancelSwitch (within_mk h)

theorem within_swctlWrite {a0 : Nat} {a1 : Word} (hG : [0x02, 0x04, 0x09, 0x41, 0x51] ⊆ G := by decide)
    (hQ : [.link, .intc, .jr, .weave, .loom, .twin] ⊆ Q := by decide) : Within G Q s0 (swctlWrite a0 a1 s) := by
  refine k.step hG hQ (within_start fun h => ?_)
  unfold swctlWrite
  extract_lets x0 x1 x3 x5 x7 x8 x9 x10 x11 x13
  have hx0 : x0 = 0x41068 := rfl
  have h2 : Within _ _ s x1 := within_ite h (within_capture h)
  have h4 : Within _ _ s x3 := within_put (within_put (within_put h2))
  have h6 : Within _ _ s x5 := within_ite (within_hostCancel h4) h4
  have h12 : Within _ _ s x11 := within_put h6
  exact within_ite (within_capture h) (within_ite h6 (by split; exacts [(within_refuseSwitch h12), (within_ite (within_refuseSwitch h12) (within_preloadHot (within_put (within_put (within_put (within_mk h12))))))]))

theorem within_discardParams (hG : [0x02, 0x09, 0x41, 0x51] ⊆ G := by decide) (hQ : [.link, .intc] ⊆ Q := by decide) :
    Within G Q s0 (discardParams s) := by
  refine k.step hG hQ (within_start fun h => ?_)
  unfold discardParams
  extract_lets x0 x1
  exact within_foldl (within_mk h) fun _ _ k4 => (by extract_lets x5; exact (within_raiseF (within_setEvt (within_count (within_put (within_put k4))))))

theorem within_adcRefresh (hG : adcPages ⊆ G := by decide) : Within G Q s0 (adcRefresh s) := by
  refine k.step hG (List.nil_subset Q) (within_start fun h => ?_)
  unfold adcRefresh
  split
  exacts [h, (within_foldl_range h fun _ _ _ k2 => (within_putB (within_putB (within_putB k2))))]

theorem within_coldSwitch {a0 : Image} {a1 : Nat} {a2 : Bool} (hG : [0x02, 0x09, 0x41, 0x51, 0x60] ⊆ G := by decide)
    (hQ : [.link, .intc, .weave, .edge] ⊆ Q := by decide) : Within G Q s0 (coldSwitch a0 a1 a2 s) := by
  refine k.step hG hQ (within_start fun h => ?_)
  unfold coldSwitch
  extract_lets d w s1 half w1 wv s2
  have h1 : Within _ _ s s1 := within_ite h (within_mk (within_discardParams h))
  clear_value s1
  have h2 : Within _ _ s s2 := within_edgeStop (within_mk h1)
  exact within_refreshBanks (within_put (within_put (within_put h2)))

theorem within_hotSwitch {a0 : Image} (hG : [0x02, 0x09, 0x41, 0x50, 0x51] ++ loomPages ++ ringPages ++ adcPages ⊆ G := by decide)
    (hQ : [.pwr, .link, .intc, .weave, .loom, .clu] ⊆ Q := by decide) : Within G Q s0 (hotSwitch a0 s) :=
  k.step hG hQ (within_start fun h => within_startClusters (within_refreshBanks (within_adcRefresh (within_foldl_range (within_mk h) fun _ _ _ k => within_put k))))

theorem within_idleRun (hG : [0x50] ++ loomPages ⊆ G := by decide) : Within G Q s0 (idleRun s) :=
  k.step hG (List.nil_subset Q) (within_start fun h => within_foldl_range h fun _ _ _ k2 => (within_ite (within_engineRuns k2) k2))

theorem within_loadLoom {a0 : Image} (hG : [0x50] ++ loomPages ⊆ G := by decide)
    (hQ : [.pwr, .weave, .loom, .clu, .warden] ⊆ Q := by decide) : Within G Q s0 (loadLoom a0 s) := by
  refine k.step hG hQ (within_start fun h => ?_)
  unfold loadLoom
  extract_lets s1 no wv
  have h1 : Within _ _ s s1 := within_foldl_range (within_foldl_range h fun _ _ _ k => within_clearAttempt k) fun t x hx k => by
    have h2 : Within _ _ s ((modEng x (loadEngine a0 t.weave.half x) ((((t.put (REED_ENGST_RETIRED x) 0).put (REED_ENGST_HELD x) 0).put
      (REED_ENGST_FAILS x) 0).put (LOOM_STAT_FBROM x) 0)).put (LOOM_STAT_HALF x) t.weave.half) :=
      within_put (within_modEng (within_put (within_put (within_put (within_put k)))))
    exact within_ite h2 (within_engineRuns h2)
  clear_value s1
  exact within_foldl_range (within_mk h1) fun _ _ _ k => within_put k

theorem within_loadTables (hQ : [.cur] ⊆ Q := by decide) : Within G Q s0 (loadTables s) := by
  refine k.step (List.nil_subset G) hQ (within_start fun h => ?_)
  unfold loadTables
  extract_lets x0 x1
  exact within_mk h

theorem within_imageStart (hG : [0x02, 0x09, 0x41, 0x50, 0x51, 0x60, 0x100] ++ loomPages ++ ringPages ++ adcPages ⊆ G := by decide)
    (hQ : [.pwr, .link, .intc, .warp, .weave, .loom, .clu, .cells, .ring, .twin, .edge, .cur] ⊆ Q := by decide) :
    Within G Q s0 (imageStart s) := by
  refine k.step hG hQ (within_start fun h => ?_)
  unfold imageStart
  extract_lets x0 x1 x2 x4
  have h3 : Within _ _ s x2 := within_idleRun (within_mk h)
  have h5 : Within _ _ s x4 := within_loadTables (within_refreshBanks (within_put (within_put (within_adcRefresh h3))))
  split
  exacts [h, (by extract_lets x6 x11 x16; have h7 : Within _ _ s x6 := (within_foldl (within_edgeStart h5) fun _ _ k10 => (within_ite (within_putSetpoint k10) (within_followCount k10))); have h12 : Within _ _ s x11 := (within_foldl h7 fun _ _ k15 => (within_defaultOwners k15)); have h17 : Within _ _ s x16 := (within_ite (within_twinArrives h12) (within_ite h12 (within_setTwin h12))); exact (by split; exacts [(within_enumAdvance (within_startFallback h17)), (within_enumAdvance h17)]))]

theorem within_takeWarp {a0 : WarpCopy} (hG : [0x40] ⊆ G := by decide) (hQ : [.warp] ⊆ Q := by decide) : Within G Q s0 (takeWarp a0 s) := by
  refine k.step hG hQ (within_start fun h => ?_)
  unfold takeWarp
  extract_lets x0 x1
  have h1 : Within _ _ s x1 := within_mk h
  clear_value x1
  exact within_putB (within_put (within_put h1))

theorem within_takeCopy {a0 : TwinCopy} (hG : [0x40] ⊆ G := by decide) (hQ : [.warp, .weave, .loom, .clu, .cells] ⊆ Q := by decide) :
    Within G Q s0 (takeCopy a0 s) := by
  refine k.step hG hQ (within_start fun h => ?_)
  unfold takeCopy
  extract_lets eng clu cell s1 _ s2
  have he : ∀ t k, Within [0x40] [.warp, .weave, .loom, .clu, .cells] s t → Within [0x40] [.warp, .weave, .loom, .clu, .cells] s (eng t k) := by
    intro t k i
    unfold eng
    rcases a0.clusters[k / 3]? with _ | c
    · exact i
    · exact within_modEng i
  have hc : ∀ t k, Within [0x40] [.warp, .weave, .loom, .clu, .cells] s t → Within [0x40] [.warp, .weave, .loom, .clu, .cells] s (clu t k) := by
    intro t k i
    unfold clu
    rcases a0.clusters[k]? with _ | c
    · exact i
    · exact within_modClu i
  have hl : ∀ t k, Within [0x40] [.warp, .weave, .loom, .clu, .cells] s t → Within [0x40] [.warp, .weave, .loom, .clu, .cells] s (cell t k) := by
    intro t g i
    unfold cell
    rcases a0.dl[g]? with _ | d
    · exact i
    · exact within_modCell i
  clear_value eng clu cell
  have h1 : Within _ _ s s1 := within_foldl (within_foldl h fun t k i => he t k i) fun t k i => hc t k i
  clear_value s1
  have h2 : Within _ _ s s2 := within_mk h1
  exact within_foldl (within_takeWarp h2) fun t k i => hl t k i

theorem within_takeEdges {a0 : TwinCopy} (hG : [0x60] ⊆ G := by decide) (hQ : [.edge] ⊆ Q := by decide) : Within G Q s0 (takeEdges a0 s) := by
  refine k.step hG hQ (within_start fun h => ?_)
  unfold takeEdges
  extract_lets duty s1 _ s2
  have hd : ∀ t g, Within [0x60] [.edge] s t → Within [0x60] [.edge] s (duty t g) := by
    intro t g i
    unfold duty
    rcases a0.duties[g]? with _ | d
    · exact i
    · exact within_modEdge i
  clear_value duty
  have h1 : Within _ _ s s1 := within_edgeStart h
  clear_value s1
  have h2 : Within _ _ s s2 := within_put (within_mk h1)
  exact within_foldl h2 fun t g i => hd t g i

theorem within_joinRun {a0 : TwinCopy} (hG : [0x40, 0x41, 0x50, 0x60] ++ loomPages ++ adcPages ⊆ G := by decide)
    (hQ : [.pwr, .warp, .weave, .loom, .clu, .warden, .cells, .edge] ⊆ Q := by decide) : Within G Q s0 (joinRun a0 s) := by
  refine k.step hG hQ (within_start fun h => ?_)
  unfold joinRun
  extract_lets s1 s2 srcw srcv s3
  have h1 : Within ([0x40, 0x41, 0x50, 0x60] ++ loomPages ++ adcPages) [.pwr, .warp, .weave, .loom, .clu, .warden, .cells, .edge] s s1 := by
    unfold s1
    split
    · exact within_loadLoom h
    · exact h
  clear_value s1
  have h2 : Within _ _ s s2 := within_idleRun (within_takeEdges (within_takeCopy h1))
  clear_value s2
  have h3 : Within _ _ s s3 := within_mk h2
  clear_value s3
  have ha : s3.get WEAVE_STAT_ACT < 2 ^ 1 := get_lt s3 WEAVE_STAT_ACT
  exact within_ite h2 (within_refreshBanks (within_put (within_put (within_adcRefresh h3))))

end

theorem frame_execRecordCommit {s t : State} {a0 : Nat} {a1 : Nat} {a2 : Bool} (hk : a0 < 4 := by omega) (he : execRecordCommit a0 a1 a2 s = .next t) :
    Within ([0x02, 0x09, 0x41, 0x50, 0x51, 0x60, 0x61] ++ loomPages ++ ringPages) [.pwr, .link, .intc, .weave, .loom, .clu, .cells, .twin, .edge, .blank] s t := by
  refine within_run (fun s => within_start fun h => ?_) he
  exact within_ite h (within_ite (within_reedStop (within_dropRecs h)) (within_commitVote h))

theorem frame_execRepairStart {s t : State} {a0 : Nat} (hk : a0 < 4 := by omega) (he : execRepairStart a0 s = .next t) :
    Within ([0x50, 0x51] ++ loomPages) [.link, .clu, .warden] s t := by
  refine within_run (fun s => within_start fun h => ?_) he
  extract_lets x0
  split
  · next e src he hsrc =>
    have he := lt_of_repairTarget he
    have hsrc := lt_of_mem_voters (List.mem_of_head? hsrc)
    refine within_ite ?_ h
    extract_lets x1 x2 x4 x6 x7
    have hx1 : x1 = 3 * a0 + e := rfl
    have h3 : Within _ _ s x2 := within_put (within_put (within_put h))
    have h5 : Within _ _ s x4 := within_setEngState (within_put (within_put h3))
    clear_value x4
    have h8 : Within _ _ s x7 := within_mk h5
    clear_value x7
    exact within_raiseF (within_modClu h8)
  · exact h

theorem frame_execRepairVerified {s t : State} {a0 : Nat} {a1 : List (Nat × Word)} (hk : a0 < 4 := by omega) (he : execRepairVerified a0 a1 s = .next t) :
    Within ([0x02, 0x09, 0x50, 0x51] ++ loomPages) [.link, .intc, .loom, .clu] s t := by
  refine within_run (fun s => within_start fun h => ?_) he
  extract_lets x0 x1
  have hx0 : x0 = 3 * a0 + s.get (REED_CLST_REPENG a0) := rfl
  have hr : s.get (REED_CLST_REPENG a0) < 2 ^ 2 := get_lt s (REED_CLST_REPENG a0)
  exact within_ite h (within_ite (within_modEng (within_failAttempt h)) (within_ite h (within_modClu (within_put (within_put (within_modEng h))))))

theorem frame_execRepairRejoin {s t : State} {a0 : Nat} (hk : a0 < 4 := by omega) (hr : s.get (REED_CLST_REPENG a0) < 3) (he : execRepairRejoin a0 s = .next t) :
    Within ([0x02, 0x09, 0x41, 0x50, 0x51] ++ loomPages ++ ringPages) [.pwr, .link, .intc, .weave, .clu] s t := by
  refine within_run_if (p := fun s => s.get (REED_CLST_REPENG a0) < 3) (fun s hr => within_start fun h => ?_) hr he
  extract_lets x0 x1 x2
  have hx1 : x1 = 3 * a0 + s.get (REED_CLST_REPENG a0) := rfl
  have h3 : Within _ _ s x2 := within_setVote (within_setEngState (within_clearAttempt h))
  split
  exacts [h, (within_ite h (within_reedEvent (within_count (within_put h3))))]

theorem frame_execHold {s t : State} {a0 : Nat} (he : execHold a0 s = .next t) :
    Within ([0x02, 0x04, 0x09, 0x50, 0x51]) [.link, .intc, .jr, .warden] s t := by
  refine within_run (fun s => within_start fun h => ?_) he
  exact within_engctlWrite h

theorem frame_execRelease {s t : State} {a0 : Nat} (he : execRelease a0 s = .next t) :
    Within ([0x02, 0x04, 0x09, 0x50, 0x51]) [.link, .intc, .jr, .warden] s t := by
  refine within_run (fun s => within_start fun h => ?_) he
  exact within_engctlWrite h

theorem frame_execRepair {s t : State} {a0 : Nat} (he : execRepair a0 s = .next t) :
    Within ([0x02, 0x04, 0x09, 0x50, 0x51]) [.link, .intc, .jr, .warden] s t := by
  refine within_run (fun s => within_start fun h => ?_) he
  exact within_engctlWrite h

theorem frame_execHalfretry {s t : State} {a0 : Nat} {a1 : Bool} (he : execHalfretry a0 a1 s = .next t) :
    Within ([0x02, 0x04, 0x09, 0x50, 0x51]) [.link, .intc, .jr, .warden] s t := by
  refine within_run (fun s => within_start fun h => ?_) he
  exact within_engctlWrite h

theorem frame_execEngctlApply {s t : State} (hk : ∀ w, s.warden.engctl = some w → bitsAt w.toNat 0 4 < 12) (he : execEngctlApply s = .next t) :
    Within ([0x02, 0x04, 0x09, 0x41, 0x50, 0x51] ++ loomPages ++ ringPages) [.pwr, .link, .intc, .jr, .weave, .loom, .clu, .warden] s t := by
  refine within_run_if (p := fun s => ∀ w, s.warden.engctl = some w → bitsAt w.toNat 0 4 < 12) (fun s hk => within_start fun h => ?_) hk he
  exact within_engctlApply h hk

theorem frame_execReedHalfTrip {s t : State} {a0 : Nat} {a1 : Nat} (hk : a0 < 4 := by omega) (he : execReedHalfTrip a0 a1 s = .next t) :
    Within ([0x02, 0x09, 0x41, 0x50, 0x51] ++ ringPages) [.pwr, .link, .intc, .weave, .clu] s t := by
  refine within_run (fun s => within_start fun h => ?_) he
  extract_lets x0 x2 x4
  have hc := page_halfCnt a0
  have hb : (halfBit a0 a1).addr = 0x50050 + 4 * a0 := rfl
  have h1 : Within _ _ s x0 := within_count (within_put h)
  have h3 : Within _ _ s x2 := within_modClu h1
  have h5 : Within _ _ s x4 := within_reedEvent h3
  exact within_ite h (within_ite (within_reedStop h5) h5)

theorem frame_execHalfSelftestDone {s t : State} {a0 : Nat} {a1 : Nat} {a2 : Bool} (he : execHalfSelftestDone a0 a1 a2 s = .next t) :
    Within ([0x51]) [.link, .clu] s t := by
  refine within_run (fun s => within_start fun h => ?_) he
  extract_lets x0
  have h1 : Within _ _ s x0 := within_modClu h
  exact within_ite h (within_ite h1 (within_raiseF h1))

theorem frame_execHalfRejoin {s t : State} {a0 : Nat} {a1 : Nat} (hk : a0 < 4 := by omega) (he : execHalfRejoin a0 a1 s = .next t) :
    Within ([0x02, 0x09, 0x50, 0x51]) [.link, .intc, .clu] s t := by
  refine within_run (fun s => within_start fun h => ?_) he
  extract_lets x0 x1
  have hb : (halfBit a0 a1).addr = 0x50050 + 4 * a0 := rfl
  exact within_ite (within_reedEvent (within_modClu (within_put h))) h

theorem frame_execWardenStart {s t : State} (he : execWardenStart s = .next t) :
    Within ([0x02, 0x09, 0x51, 0x52, 0x100] ++ ringPages) [.link, .intc, .cells, .ring, .twin, .edge] s t := by
  refine within_run (fun s => within_start fun h => ?_) he
  extract_lets x0
  exact within_ite (within_enumAdvance (within_put h)) h

theorem frame_execWardenRestart {s t : State} (he : execWardenRestart s = .next t) :
    Within ([0x02, 0x09, 0x51, 0x52]) [.link, .intc] s t := by
  refine within_run (fun s => within_start fun h => ?_) he
  exact within_ite (within_wardenRestart h) h

theorem frame_execWardenWatchdog {s t : State} (he : execWardenWatchdog s = .next t) :
    Within ([0x02, 0x09, 0x51, 0x52]) [.link, .intc] s t := by
  refine within_run (fun s => within_start fun h => ?_) he
  exact within_ite (within_wardenRestart h) h

theorem frame_execAuditBlock {s t : State} {a0 : Nat} {a1 : Nat} (hk : a0 < 4 := by omega) (he : execAuditBlock a0 a1 s = .next t) :
    Within ([0x02, 0x09, 0x41, 0x50, 0x51, 0x52] ++ loomPages ++ ringPages) [.pwr, .link, .intc, .weave, .loom, .clu, .warden] s t := by
  refine within_run (fun s => within_start fun h => ?_) he
  extract_lets x0 x1 x5
  have h2 : ∀ v3, Within ([0x02, 0x09, 0x41, 0x50, 0x51, 0x52] ++ loomPages ++ ringPages) [.pwr, .link, .intc, .weave, .loom, .clu, .warden] s v3 → Within ([0x02, 0x09, 0x41, 0x50, 0x51, 0x52] ++ loomPages ++ ringPages) [.pwr, .link, .intc, .weave, .loom, .clu, .warden] s (x1 v3) := by intro v3 k4; unfold x1; exact (within_setEvt (within_count k4))
  have h6 : Within _ _ s x5 := within_auditCount h
  exact within_ite h (within_ite (within_ite h6 (within_minority (h2 _ h6))) (within_ite (within_minority (h2 _ h6)) (within_ite (within_minority (h2 _ h6)) (h2 _ h6))))

theorem frame_execWardenIrqTake {s t : State} {a0 : List (Nat × Word)} (he : execWardenIrqTake a0 s = .next t) :
    Within ([0x52]) [.warden] s t := by
  refine within_run (fun s => within_start fun h => ?_) he
  exact within_ite (within_mk (within_put (f := WARDEN_STAT_IRQQ) (v := _) h)) h

theorem frame_execWardenFwActivate {s t : State} (he : execWardenFwActivate s = .next t) :
    Within ([0x02, 0x04, 0x09, 0x51, 0x52]) [.link, .intc, .jr, .warden] s t := by
  refine within_run (fun s => within_start fun h => ?_) he
  exact within_wardenFwctlWrite h

theorem frame_execWardenFwErase {s t : State} (he : execWardenFwErase s = .next t) :
    Within ([0x02, 0x04, 0x09, 0x51, 0x52]) [.link, .intc, .jr, .warden] s t := by
  refine within_run (fun s => within_start fun h => ?_) he
  exact within_wardenFwctlWrite h

theorem frame_execWardenFwstby {s t : State} (he : execWardenFwstby s = .next t) :
    Within ([0x02, 0x09, 0x51, 0x52]) [.link, .intc, .warden] s t := by
  refine within_run (fun s => within_start fun h => ?_) he
  extract_lets x0 x1 x2 x4 x5
  have h3 : Within _ _ s x2 := within_put (within_put h)
  have h6 : Within _ _ s x5 := within_mk h3
  exact within_ite h (within_raiseF (within_setEvt h6))

theorem frame_execHeddleEnd {s t : State} {a0 : Nat} (hk : a0 < 4 := by omega) (he : execHeddleEnd a0 s = .next t) :
    Within ([0x02, 0x09, 0x41, 0x50, 0x51, 0x7C] ++ loomPages ++ ringPages) [.pwr, .link, .intc, .weave, .loom, .clu, .heat] s t := by
  refine within_run (fun s => within_start fun h => ?_) he
  exact within_ite h (by split; exacts [h, (by split; exacts [h, (by extract_lets x0 x2; have h1 : Within _ _ s x0 := (within_clockTo h); have h3 : Within _ _ s x2 := (within_ite (within_overrun h1) (within_ite (within_parkAll h1) (within_ite (within_bgWork h1) h1))); exact (within_ite (within_startHeddle h3) (within_startSlack h3)))])])

theorem frame_execBgDeadline {s t : State} {a0 : Nat} {a1 : Nat} (he : execBgDeadline a0 a1 s = .next t) :
    Within ([0x02, 0x09, 0x41, 0x51]) [.link, .intc, .clu] s t := by
  refine within_run (fun s => within_start fun h => ?_) he
  split
  exacts [(within_ite (within_missDeadline h) h), h]

theorem frame_execFallbackStart {s t : State} (he : execFallbackStart s = .next t) :
    Within ([0x02, 0x09, 0x41, 0x50, 0x51] ++ loomPages ++ ringPages) [.pwr, .link, .intc, .weave, .loom, .clu, .cells] s t := by
  refine within_run (fun s => within_start fun h => ?_) he
  split
  exacts [(within_ite (within_startClusters (within_startFallback h)) h), h]

theorem frame_execFallbackRampDone {s t : State} (he : execFallbackRampDone s = .next t) :
    Within ([]) [.pwr, .weave] s t := by
  refine within_run (fun s => within_start fun h => ?_) he
  extract_lets x0
  exact within_ite (within_assertOpen (within_mk h)) h

theorem frame_execWeaveVerify {s t : State} {a0 : Nat} (he : execWeaveVerify a0 s = .next t) :
    Within ([0x02, 0x04, 0x09, 0x41, 0x51]) [.link, .intc, .jr, .weave] s t := by
  refine within_run (fun s => within_start fun h => ?_) he
  exact within_weaveCtlWrite h

theorem frame_execWeaveErase {s t : State} {a0 : Nat} (he : execWeaveErase a0 s = .next t) :
    Within ([0x02, 0x04, 0x09, 0x41, 0x51]) [.link, .intc, .jr, .weave] s t := by
  refine within_run (fun s => within_start fun h => ?_) he
  exact within_weaveCtlWrite h

theorem frame_execImageVerified {s t : State} {a0 : Nat} {a1 : OpenSections} (hk : a0 < 2 := by omega) (he : execImageVerified a0 a1 s = .next t) :
    Within ([0x00, 0x02, 0x09, 0x40, 0x41, 0x51] ++ ringPages) [.link, .intc, .weave, .ring, .twin] s t := by
  refine within_run (fun s => within_start fun h => ?_) he
  refine within_ite h ?_
  extract_lets img cause _ t s1 s2 s3
  clear_value img cause
  have ht : Within _ _ s t := within_mk h
  clear_value t
  have h1 : Within _ _ s s1 := within_put (within_put (within_modBank ht))
  clear_value s1
  have h2 : Within _ _ s s2 := within_loadMode (within_refreshBanks (within_putBankId h1))
  clear_value s2
  have h3 : Within _ _ s s3 := within_raiseF (within_setEvt h2)
  clear_value s3
  exact within_ite (within_ite (within_stopPartnerLanes (within_twinArrives h3)) h3) (within_raiseF (within_setEvt (within_put (within_put ht))))

theorem frame_execSwitchGo {s t : State} {a0 : Word} {a1 : Nat} (he : execSwitchGo a0 a1 s = .next t) :
    Within ([0x02, 0x04, 0x09, 0x41, 0x51]) [.link, .intc, .jr, .weave, .loom, .twin] s t := by
  refine within_run (fun s => within_start fun h => ?_) he
  exact within_swctlWrite h

theorem frame_execSwitchCancel {s t : State} (he : execSwitchCancel s = .next t) :
    Within ([0x02, 0x04, 0x09, 0x41, 0x51]) [.link, .intc, .jr, .weave, .loom, .twin] s t := by
  refine within_run (fun s => within_start fun h => ?_) he
  exact within_swctlWrite h

theorem frame_execSwitchCheck {s t : State} (he : execSwitchCheck s = .next t) :
    Within ([0x02, 0x09, 0x41, 0x51]) [.link, .intc, .weave, .loom] s t := by
  refine within_run (fun s => within_start fun h => ?_) he
  split
  exacts [h, (by extract_lets x0 x1; have h2 : Within _ _ s x1 := (within_put (within_count (within_mk h))); exact (within_ite h (within_ite (within_ite (within_refuseSwitch h) (within_raiseF (within_setEvt h2))) (by split; exacts [(within_refuseSwitch h), (within_preloadHot (within_mk h))]))))]

theorem frame_execWeaveSwitch {s t : State} (hb : ∀ p, s.weave.due = some p → p.1 < 2) (he : execWeaveSwitch s = .next t) :
    Within ([0x02, 0x09, 0x41, 0x50, 0x51, 0x60] ++ loomPages ++ ringPages ++ adcPages) [.pwr, .link, .intc, .weave, .loom, .clu, .cells, .edge] s t := by
  refine within_run_if (p := fun s => ∀ p, s.weave.due = some p → p.1 < 2) (fun s hb => within_start fun h => ?_) hb he
  split
  · exact h
  next b cold hdue =>
  have hb : b < 2 := hb _ hdue
  split
  · exact h
  refine within_ite h ?_
  extract_lets ran old compat s1 s2 st s3 s4 w4 s5
  have ha : old < 2 ^ 1 := get_lt s WEAVE_STAT_ACT
  have h1 : Within _ _ s s1 := within_ite (within_put h) h
  clear_value s1
  have h2 : Within _ _ s s2 := within_put (within_put (within_put h1))
  clear_value s2
  have h3 : Within _ _ s s3 := within_put (within_put h2)
  clear_value s3
  have h4 : Within _ _ s s4 := within_raiseF (within_setEvt (within_putB (within_put h3)))
  clear_value s4
  have h5 : Within _ _ s s5 := within_foldl (within_resetContexts (within_mk h4)) fun _ _ k => within_modClu k
  clear_value s5
  exact within_ite (within_coldSwitch h5) (within_hotSwitch h5)

theorem frame_execTwinCopyVerified {s t : State} {a0 : Bool} {a1 : TwinCopy} (he : execTwinCopyVerified a0 a1 s = .next t) :
    Within ([0x02, 0x09, 0x40, 0x41, 0x50, 0x51, 0x60] ++ loomPages ++ ringPages ++ adcPages) [.pwr, .link, .intc, .warp, .weave, .loom, .clu, .warden, .cells, .twin, .edge] s t := by
  refine within_run (fun s => within_start fun h => ?_) he
  extract_lets x0 x2
  have h1 : Within _ _ s x0 := within_putTwin (within_ite (within_joinRun h) h)
  exact within_ite h (within_ite (within_setTwin (within_mk h1)) (within_setTwin h))

theorem frame_execTwinProbationEnd {s t : State} (he : execTwinProbationEnd s = .next t) :
    Within ([0x02, 0x09, 0x41, 0x51] ++ ringPages) [.link, .permit, .intc, .twin] s t := by
  refine within_run (fun s => within_start fun h => ?_) he
  extract_lets x0 x1 x3
  have h2 : Within _ _ s x1 := within_setTwin (within_mk h)
  exact within_ite h (within_ite (within_put (within_put (within_mk h2))) h2)

end Sys2Proof.Machine
end

section
/-! SUPPORT. Frames: the converters, the meter and the grid functions. -/

namespace Sys2Proof.Machine

set_option Elab.async false

section
variable {G : List Nat} {Q : List Part} {s0 s : State} (k : Within G Q s0 s)
include k

theorem within_modCore {a0 : Nat} {a1 : AdcCore → AdcCore} (hQ : [.adc] ⊆ Q := by decide) : Within G Q s0 (modCore a0 a1 s) := by
  refine k.step (List.nil_subset G) hQ (within_start fun h => ?_)
  unfold modCore
  extract_lets x0
  exact within_mk h

theorem within_modIn {a0 : Nat} {a1 : AdcIn → AdcIn} (hQ : [.adc] ⊆ Q := by decide) : Within G Q s0 (modIn a0 a1 s) := by
  refine k.step (List.nil_subset G) hQ (within_start fun h => ?_)
  unfold modIn
  extract_lets x0
  exact within_mk h

theorem within_adcEvent {a0 : Nat} {a1 : Nat} {a2 : Nat} {a3 : Nat} (hk : a0 < 8 := by omega)
    (hG : [0x02, 0x09, 0x51] ++ adcPages ⊆ G := by decide) (hQ : [.link, .intc] ⊆ Q := by decide) : Within G Q s0 (adcEvent a0 a1 a2 a3 s) :=
  k.step hG hQ (within_start fun h => within_raiseF (within_setEvt h))

theorem within_putResult {a0 : Nat} {a1 : Word} (hQ : [.clu] ⊆ Q := by decide) : Within G Q s0 (putResult a0 a1 s) :=
  k.step (List.nil_subset G) hQ (within_start fun h => within_mk h)

theorem within_correctedOne {a0 : Nat} (hQ : [.clu, .adc] ⊆ Q := by decide) : Within G Q s0 (correctedOne a0 s) := by
  refine k.step (List.nil_subset G) hQ (within_start fun h => ?_)
  unfold correctedOne
  extract_lets x0 x1
  split
  exacts [(within_putResult h), (by extract_lets x2 x3; exact (within_putResult (within_modIn h)))]

theorem within_corrected (hQ : [.clu, .adc] ⊆ Q := by decide) : Within G Q s0 (corrected s) :=
  k.step (List.nil_subset G) hQ (within_start fun h => within_foldl h fun _ _ k2 => (within_correctedOne k2))

theorem within_startUrgent {a0 : Nat} (hQ : [.adc] ⊆ Q := by decide) : Within G Q s0 (startUrgent a0 s) :=
  k.step (List.nil_subset G) hQ (within_start fun h => within_ite (within_modCore h) h)

theorem within_urgentRequest {a0 : Nat} {a1 : Nat} (hk : a0 < 8 := by omega) (hG : [0x02, 0x09, 0x51] ++ adcPages ⊆ G := by decide)
    (hQ : [.link, .intc, .adc] ⊆ Q := by decide) : Within G Q s0 (urgentRequest a0 a1 s) :=
  k.step hG hQ (within_start fun h => within_ite (within_adcEvent (within_count h)) (within_startUrgent (within_modCore h)))

theorem within_rangePick {a0 : Nat} (hQ : [.adc] ⊆ Q := by decide) : Within G Q s0 (rangePick a0 s) :=
  k.step (List.nil_subset G) hQ (within_start fun h => within_foldl h fun _ _ k2 => (within_modIn k2))

theorem within_cmpTrip {a0 : Nat} (hk : a0 < 16 := by omega) (hG : [0x02, 0x09, 0x51, 0x70] ++ ringPages ++ adcPages ⊆ G := by decide)
    (hQ : [.link, .intc, .adc] ⊆ Q := by decide) : Within G Q s0 (cmpTrip a0 s) := by
  refine k.step hG hQ (within_start fun h => ?_)
  unfold cmpTrip
  extract_lets x0 x1 x2 x3 x4 x6 x8
  have ho : x0 ≤ a0 := cmpOwner_le s a0
  have hl : (latchBit x0).addr = 0x70140 := rfl
  have hsc : s.get (FCMP_CFG_SCCORE x0) < 2 ^ 3 := get_lt s (FCMP_CFG_SCCORE x0)
  have h5 : Within _ _ s x4 := within_count (within_put h)
  have h7 : Within _ _ s x6 := within_ite h5 (within_put (within_put (within_put h5)))
  have h9 : Within _ _ s x8 := within_raiseF (within_setEvt h7)
  exact within_ite h (within_urgentRequest (within_ite (within_blockTokens h9) h9))

theorem within_putFilter {a0 : Nat} {a1 : CmpFilter} (hG : [0x70] ⊆ G := by decide) (hQ : [.fcmp] ⊆ Q := by decide) :
    Within G Q s0 (putFilter a0 a1 s) := by
  refine k.step hG hQ (within_start fun h => ?_)
  unfold putFilter
  extract_lets x0 x2
  have hb : (foutBit a0).addr = 0x70140 := rfl
  have h1 : Within _ _ s x0 := within_putB h
  exact within_mk h1

theorem within_rampRestart {a0 : Nat} {a1 : List Nat} (hQ : [.fcmp] ⊆ Q := by decide) : Within G Q s0 (rampRestart a0 a1 s) :=
  k.step (List.nil_subset G) hQ (within_start fun h => within_foldl h fun _ _ k2 => (by extract_lets x3; exact (within_mk k2)))

theorem within_cmpTrips {a0 : Nat} {a1 : Nat} (hk : a0 < 16 := by omega) (hG : [0x02, 0x09, 0x51, 0x70] ++ ringPages ++ adcPages ⊆ G := by decide)
    (hQ : [.link, .intc, .adc] ⊆ Q := by decide) : Within G Q s0 (cmpTrips a0 a1 s) := by
  induction a1 generalizing s with
  | zero => exact k
  | succ n ih => exact ih (within_cmpTrip k hk hG hQ)

theorem within_sampleCmp {a0 : Nat} {a1 : List Int} (hk : a0 < 16 := by omega)
    (hG : [0x02, 0x09, 0x51, 0x70] ++ ringPages ++ adcPages ⊆ G := by decide) (hQ : [.link, .intc, .adc, .fcmp] ⊆ Q := by decide) :
    Within G Q s0 (sampleCmp a0 a1 s) := by
  refine k.step hG hQ (within_start fun h => ?_)
  unfold sampleCmp
  extract_lets x0
  exact within_cmpTrips (within_putFilter h)

theorem within_blankPick {a0 : Nat} (hQ : [.blank] ⊆ Q := by decide) : Within G Q s0 (blankPick a0 s) := by
  refine k.step (List.nil_subset G) hQ (within_start fun h => ?_)
  unfold blankPick
  extract_lets x0
  exact within_mk h

theorem within_freq10 (hG : [0x71] ⊆ G := by decide) (hQ : [.meter] ⊆ Q := by decide) : Within G Q s0 (freq10 s) := by
  refine k.step hG hQ (within_start fun h => ?_)
  unfold freq10
  split
  exacts [(by extract_lets x0 x1 x2 x3; exact (within_ite (within_mk h) (within_put (within_mk h))))]

theorem within_halfSample (hQ : [.meter] ⊆ Q := by decide) : Within G Q s0 (halfSample s) := by
  refine k.step (List.nil_subset G) hQ (within_start fun h => ?_)
  unfold halfSample
  extract_lets x0 x1 x2 x3
  exact within_mk h

theorem within_checkSample (hQ : [.meter] ⊆ Q := by decide) : Within G Q s0 (checkSample s) := by
  refine k.step (List.nil_subset G) hQ (within_start fun h => ?_)
  unfold checkSample
  extract_lets x0 x1 x2 x3 x4 x5 x6
  exact within_ite h (within_mk h)

theorem within_markPick (hQ : [.meter] ⊆ Q := by decide) : Within G Q s0 (markPick s) := by
  refine k.step (List.nil_subset G) hQ (within_start fun h => ?_)
  unfold markPick
  extract_lets x0 x1
  exact within_mk h

theorem within_meterPick (hG : [0x71] ⊆ G := by decide) (hQ : [.meter] ⊆ Q := by decide) : Within G Q s0 (meterPick s) := by
  refine k.step hG hQ (within_start fun h => ?_)
  have h1 : Within [0x71] [.meter] s (markPick s) := within_markPick h
  exact within_checkSample (within_halfSample (within_freq10 (within_sampled h1 _)))

theorem within_modRide {a0 : RideSt → RideSt} (hQ : [.ride] ⊆ Q := by decide) : Within G Q s0 (modRide a0 s) :=
  k.step (List.nil_subset G) hQ (within_start fun h => within_mk h)

theorem within_gridEvent {a0 : Nat} {a1 : Nat} {a2 : Nat} (hG : [0x02, 0x09, 0x51, 0x78] ⊆ G := by decide)
    (hQ : [.link, .intc] ⊆ Q := by decide) : Within G Q s0 (gridEvent a0 a1 a2 s) :=
  k.step hG hQ (within_start fun h => within_raiseF (within_setEvt h))

theorem within_gridQuantities (hG : [0x78] ⊆ G := by decide) (hQ : [.ride] ⊆ Q := by decide) : Within G Q s0 (gridQuantities s) := by
  refine k.step hG hQ (within_start fun h => ?_)
  unfold gridQuantities
  extract_lets x0 x1 x2 x3 x4 x5 x6 x7 x8 x9 x10 x11 x12
  have h13 : Within _ _ s x12 := within_modRide h
  exact within_put (within_put (within_put (within_put h13)))

theorem within_rtBegin (hG : [0x02, 0x09, 0x51, 0x78, 0x79] ⊆ G := by decide) (hQ : [.link, .intc, .warp, .ride, .isl] ⊆ Q := by decide) :
    Within G Q s0 (rtBegin s) := by
  refine k.step hG hQ (within_start fun h => ?_)
  unfold rtBegin
  extract_lets x0 x1 x2 x4 x6 x7 x9 x11
  have h3 : Within _ _ s x2 := within_modRide h
  have h5 : Within _ _ s x4 := within_count (within_putB (within_putB (within_put h3)))
  have h8 : Within _ _ s x7 := within_mk h5
  have h10 : Within _ _ s x9 := within_raiseF (within_setEvt h8)
  exact within_ite h10 (within_raiseF (within_setEvt (within_put (within_put (within_mk h10)))))

theorem within_rtEnd (hG : [0x02, 0x09, 0x51, 0x78] ⊆ G := by decide) (hQ : [.link, .intc, .warp, .ride, .isl] ⊆ Q := by decide) :
    Within G Q s0 (rtEnd s) := by
  refine k.step hG hQ (within_start fun h => ?_)
  unfold rtEnd
  extract_lets x0 x1 x3 x5
  have h2 : Within _ _ s x1 := within_modRide (within_mk h)
  have h4 : Within _ _ s x3 := within_put (within_put (within_put h2))
  exact within_gridEvent (within_mk h4)

theorem within_setMc {a0 : Bool} (hG : [0x02, 0x09, 0x51, 0x78] ⊆ G := by decide) (hQ : [.link, .intc, .ride] ⊆ Q := by decide) :
    Within G Q s0 (setMc a0 s) := by
  refine k.step hG hQ (within_start fun h => ?_)
  unfold setMc
  extract_lets x0
  have h1 : Within _ _ s x0 := within_putB h
  exact within_ite h (within_gridEvent (within_ite (within_count h1) (within_modRide h1)))

theorem within_rtPick (hG : [0x02, 0x09, 0x51, 0x78, 0x79] ⊆ G := by decide) (hQ : [.link, .intc, .warp, .ride, .isl] ⊆ Q := by decide) :
    Within G Q s0 (rtPick s) := by
  refine k.step hG hQ (within_start fun h => ?_)
  unfold rtPick
  extract_lets x0 x1 x2 x4 x6
  have h3 : Within _ _ s x2 := within_modRide h
  have h5 : Within _ _ s x4 := within_modRide h3
  have h7 : Within _ _ s x6 := within_ite (within_putB (within_putB h5)) (within_ite (within_rtBegin h3) (within_modRide h3))
  exact within_setMc h7

theorem within_excursion (hG : [0x02, 0x09, 0x51, 0x78] ⊆ G := by decide) (hQ : [.link, .intc] ⊆ Q := by decide) :
    Within G Q s0 (excursion s) := by
  refine k.step hG hQ (within_start fun h => ?_)
  unfold excursion
  extract_lets x0 x1
  exact within_ite h (within_ite h (within_gridEvent (within_putB h)))

theorem within_endSuspension (hG : [0x02, 0x09, 0x51, 0x79] ⊆ G := by decide) (hQ : [.link, .intc, .isl] ⊆ Q := by decide) :
    Within G Q s0 (endSuspension s) := by
  refine k.step hG hQ (within_start fun h => ?_)
  unfold endSuspension
  extract_lets x0
  exact within_raiseF (within_setEvt (within_put (within_put (within_mk h))))

theorem within_leaveConnection (hG : [0x02, 0x09, 0x51, 0x78, 0x79] ⊆ G := by decide)
    (hQ : [.link, .intc, .warp, .ride, .isl] ⊆ Q := by decide) : Within G Q s0 (leaveConnection s) := by
  refine k.step hG hQ (within_start fun h => ?_)
  unfold leaveConnection
  extract_lets x0 x4
  have h1 : ∀ v2, Within [0x02, 0x09, 0x51, 0x78, 0x79] [.link, .intc, .warp, .ride, .isl] s v2 → Within [0x02, 0x09, 0x51, 0x78, 0x79] [.link, .intc, .warp, .ride, .isl] s (x0 v2) := by intro v2 k3; unfold x0; exact (within_setMc (within_modRide k3))
  have h5 : Within _ _ s x4 := h1 _ (within_rtEnd h)
  exact within_ite (h1 _ h) (within_ite (within_endSuspension h5) h5)

theorem within_setCstate {a0 : Nat} {a1 : Bool} (hG : [0x02, 0x09, 0x51, 0x71, 0x78, 0x79] ⊆ G := by decide)
    (hQ : [.link, .intc, .warp, .ride, .isl, .meter] ⊆ Q := by decide) : Within G Q s0 (setCstate a0 a1 s) := by
  refine k.step hG hQ (within_start fun h => ?_)
  unfold setCstate
  extract_lets x0 x1 x3 x5 x7
  have h2 : Within _ _ s x1 := within_ite (within_leaveConnection h) h
  have h4 : Within _ _ s x3 := within_modRide (within_put (within_put h2))
  have h6 : Within _ _ s x5 := within_gridEvent h4
  exact within_ite h (within_ite (within_put (within_mk h6)) (within_ite (within_put h6) h6))

theorem within_disconnect (hG : [0x02, 0x09, 0x51, 0x71, 0x78, 0x79] ⊆ G := by decide)
    (hQ : [.pwr, .link, .intc, .warp, .ride, .isl, .meter] ⊆ Q := by decide) : Within G Q s0 (disconnect s) :=
  k.step hG hQ (within_start fun h => within_setCstate (within_assertOpen h))

theorem within_recordTrip {a0 : Nat} {a1 : Nat} (hG : [0x78] ⊆ G := by decide) (hQ : [.ride] ⊆ Q := by decide) :
    Within G Q s0 (recordTrip a0 a1 s) := by
  refine k.step hG hQ (within_start fun h => ?_)
  unfold recordTrip
  extract_lets x0
  have h1 : ∀ v2, Within [0x78] [.ride] s v2 → Within [0x78] [.ride] s (x0 v2) := by intro v2 k3; unfold x0; exact (within_put (within_put k3))
  exact within_ite (within_ite (h1 _ h) h) (within_put (within_count (h1 _ (within_modRide h))))

theorem within_tripEvent {a0 : Nat} {a1 : Nat} (hG : [0x02, 0x09, 0x51, 0x78] ⊆ G := by decide) (hQ : [.link, .intc] ⊆ Q := by decide) :
    Within G Q s0 (tripEvent a0 a1 s) :=
  k.step hG hQ (within_start fun h => within_gridEvent h)

theorem within_trips {a0 : List (Nat × Nat)} (hG : [0x02, 0x09, 0x51, 0x71, 0x78, 0x79] ⊆ G := by decide)
    (hQ : [.pwr, .link, .intc, .warp, .ride, .isl, .meter] ⊆ Q := by decide) : Within G Q s0 (trips a0 s) :=
  k.step hG hQ (within_start fun h => within_disconnect (within_foldl h fun _ _ k2 => (within_tripEvent (within_recordTrip k2))))

theorem within_trip {a0 : Nat} {a1 : Nat} (hG : [0x02, 0x09, 0x51, 0x71, 0x78, 0x79] ⊆ G := by decide)
    (hQ : [.pwr, .link, .intc, .warp, .ride, .isl, .meter] ⊆ Q := by decide) : Within G Q s0 (trip a0 a1 s) :=
  k.step hG hQ (within_start fun h => within_trips h)

theorem within_fallbackConnect (hG : [0x02, 0x09, 0x51, 0x71, 0x78, 0x79] ⊆ G := by decide)
    (hQ : [.pwr, .link, .intc, .warp, .ride, .isl, .meter] ⊆ Q := by decide) : Within G Q s0 (fallbackConnect s) := by
  refine k.step hG hQ (within_start fun h => ?_)
  unfold fallbackConnect
  extract_lets x0
  have h1 : Within _ _ s x0 := within_modRide h
  exact within_ite h (within_ite (within_setCstate h) (within_ite (within_trip h1) h))

theorem within_connectPick (hG : [0x02, 0x09, 0x51, 0x71, 0x78, 0x79] ⊆ G := by decide)
    (hQ : [.pwr, .link, .intc, .warp, .ride, .isl, .meter] ⊆ Q := by decide) : Within G Q s0 (connectPick s) := by
  refine k.step hG hQ (within_start fun h => ?_)
  unfold connectPick
  extract_lets x0 x1 x3 x4 x5
  have h2 : Within _ _ s x1 := within_putB (within_put h)
  exact within_ite (within_fallbackConnect h2) (by split; exacts [(within_ite (within_setCstate h2) h2), (within_ite (within_setCstate h2) (within_put (within_modRide h2))), (within_ite (within_trip h2) (within_modRide h2)), (within_ite (within_trip h2) (within_modRide h2)), (within_ite (within_trip h2) (within_ite h2 (within_modRide h2))), (within_ite (within_trip h2) h2)])

theorem within_tripPick (hQ : [.ride] ⊆ Q := by decide) : Within G Q s0 (tripPick s) :=
  k.step (List.nil_subset G) hQ (within_start fun h => within_ite h (within_modRide h))

theorem within_curvCommit (hG : [0x02, 0x04, 0x09, 0x51, 0x78] ⊆ G := by decide) (hQ : [.link, .intc, .jr, .ride] ⊆ Q := by decide) :
    Within G Q s0 (curvCommit s) := by
  refine k.step hG hQ (within_start fun h => ?_)
  unfold curvCommit
  extract_lets x0
  have h1 : Within _ _ s x0 := within_foldl_range h fun _ _ _ k4 => (within_setRaw k4)
  split
  exacts [(within_gridEvent (within_capture h)), (within_modRide (within_setRaw h1))]

theorem within_modIsl {a0 : IslSt → IslSt} (hQ : [.isl] ⊆ Q := by decide) : Within G Q s0 (modIsl a0 s) :=
  k.step (List.nil_subset G) hQ (within_start fun h => within_mk h)

theorem within_suspendEvent {a0 : Nat} (hG : [0x02, 0x09, 0x51, 0x79] ⊆ G := by decide) (hQ : [.link, .intc] ⊆ Q := by decide) :
    Within G Q s0 (suspendEvent a0 s) :=
  k.step hG hQ (within_start fun h => within_raiseF (within_setEvt h))

theorem within_shiftPick (hQ : [.isl] ⊆ Q := by decide) : Within G Q s0 (shiftPick s) := by
  refine k.step (List.nil_subset G) hQ (within_start fun h => ?_)
  unfold shiftPick
  extract_lets x0 x1
  exact within_ite h (within_modIsl h)

theorem within_flagsPick (hG : [0x02, 0x09, 0x51, 0x79] ⊆ G := by decide) (hQ : [.link, .intc, .isl] ⊆ Q := by decide) :
    Within G Q s0 (flagsPick s) := by
  refine k.step hG hQ (within_start fun h => ?_)
  unfold flagsPick
  extract_lets x0 x1 x2 x3 x4 x5
  have h6 : Within _ _ s x5 := within_modIsl (within_put h)
  exact within_ite (within_raiseF (within_setEvt (within_modIsl h6))) h6

theorem within_framePick (hG : [0x02, 0x09, 0x51, 0x79] ⊆ G := by decide) (hQ : [.link, .intc] ⊆ Q := by decide) :
    Within G Q s0 (framePick s) := by
  refine k.step hG hQ (within_start fun h => ?_)
  unfold framePick
  extract_lets x0
  exact within_ite h (within_raiseF (within_setEvt (within_putB h)))

theorem within_chipBegin {a0 : Nat} (hG : [0x79] ⊆ G := by decide) (hQ : [.isl] ⊆ Q := by decide) : Within G Q s0 (chipBegin a0 s) :=
  k.step hG hQ (within_start fun h => within_modIsl (within_put h))

theorem within_chipOver (hQ : [.isl] ⊆ Q := by decide) : Within G Q s0 (chipOver s) := by
  refine k.step (List.nil_subset G) hQ (within_start fun h => ?_)
  unfold chipOver
  extract_lets x0 x1
  exact within_modIsl h

theorem within_chipZero (hG : [0x79] ⊆ G := by decide) (hQ : [.isl] ⊆ Q := by decide) : Within G Q s0 (chipZero s) := by
  refine k.step hG hQ (within_start fun h => ?_)
  unfold chipZero
  extract_lets x0 x1
  have h2 : Within _ _ s x1 := within_ite (within_chipOver h) (within_modIsl h)
  exact within_ite (within_chipBegin (within_modIsl h)) (within_ite (within_chipBegin (within_modIsl h2)) (within_ite (within_modIsl h) (within_chipBegin (within_chipOver h))))

theorem within_chipSample (hQ : [.isl] ⊆ Q := by decide) : Within G Q s0 (chipSample s) := by
  refine k.step (List.nil_subset G) hQ (within_start fun h => ?_)
  unfold chipSample
  extract_lets x0 x1
  exact within_ite h (within_modIsl h)

theorem within_chipPick (hG : [0x79] ⊆ G := by decide) (hQ : [.isl] ⊆ Q := by decide) : Within G Q s0 (chipPick s) := by
  refine k.step hG hQ (within_start fun h => ?_)
  unfold chipPick
  extract_lets x0 x1 x3
  have h2 : Within _ _ s x1 := within_ite h (within_modIsl h)
  have h4 : Within _ _ s x3 := within_ite (within_chipZero h2) (within_ite h2 (within_modIsl h2))
  exact within_ite (within_modIsl h2) (within_chipSample h4)

theorem within_detectorPick (hG : [0x79] ⊆ G := by decide) (hQ : [.isl] ⊆ Q := by decide) : Within G Q s0 (detectorPick s) := by
  refine k.step hG hQ (within_start fun h => ?_)
  unfold detectorPick
  extract_lets x0 x1 x3 x5
  have h2 : Within _ _ s x1 := within_ite (within_modIsl h) h
  have h4 : Within _ _ s x3 := within_putB (within_putB h2)
  exact within_ite (within_put (within_modIsl h4)) h4

theorem within_islPick (hG : [0x02, 0x09, 0x51, 0x79] ⊆ G := by decide) (hQ : [.link, .intc, .isl] ⊆ Q := by decide) :
    Within G Q s0 (islPick s) := by
  refine k.step hG hQ (within_start fun h => ?_)
  unfold islPick
  extract_lets x0 x1
  have h2 : Within _ _ s x1 := within_modIsl h
  exact within_chipPick (within_detectorPick (within_framePick (within_flagsPick (within_shiftPick h2))))

theorem within_islanded {a0 : Nat} {a1 : Rat} (hG : [0x02, 0x09, 0x51, 0x71, 0x78, 0x79] ⊆ G := by decide)
    (hQ : [.pwr, .link, .intc, .warp, .ride, .isl, .meter] ⊆ Q := by decide) : Within G Q s0 (islanded a0 a1 s) := by
  refine k.step hG hQ (within_start fun h => ?_)
  unfold islanded
  extract_lets x0 x2
  have h1 : Within _ _ s x0 := within_put (within_count (within_put h))
  have h3 : Within _ _ s x2 := within_raiseF (within_setEvt h1)
  exact within_trip (within_modIsl h3)

theorem within_chipRatio {a0 : Rat} {a1 : Rat} : Within G Q s0 (chipRatio a0 a1 s).2 :=
  k.step (List.nil_subset G) (List.nil_subset Q) (within_start fun h => within_ite2 (by split; rename_i w0 t1 q2; exact (fun k3 => k3) (within_snd (within_freeWord h) q2)) h)

theorem within_zbaseStep {a0 : Rat} (hG : [0x79] ⊆ G := by decide) (hQ : [.isl] ⊆ Q := by decide) : Within G Q s0 (zbaseStep a0 s) := by
  refine k.step hG hQ (within_start fun h => ?_)
  unfold zbaseStep
  extract_lets x0 x1
  exact within_ite h (within_put (within_modIsl h))

theorem within_evaluate {a0 : List Chip} (hG : [0x02, 0x09, 0x51, 0x71, 0x78, 0x79] ⊆ G := by decide)
    (hQ : [.pwr, .link, .intc, .warp, .ride, .isl, .meter] ⊆ Q := by decide) : Within G Q s0 (evaluate a0 s) := by
  refine k.step hG hQ (within_start fun h => ?_)
  unfold evaluate
  extract_lets x0
  split
  rename_i w1 t2 q3
  exact (fun k4 => (by split; rename_i w5 t6 q7; exact (fun k8 => (by extract_lets x9 x11 x12 x13; have h10 : Within _ _ s x9 := (within_put (within_put (within_countWrap k8))); have h14 : Within _ _ s x13 := (within_modIsl h10); exact (within_ite (within_ite (within_islanded h14) h14) (within_zbaseStep (within_modIsl h10))))) (within_snd (within_chipRatio k4) q7))) (within_snd (within_chipRatio h) q3)

theorem within_modCur {a0 : CurSt → CurSt} (hQ : [.cur] ⊆ Q := by decide) : Within G Q s0 (modCur a0 s) :=
  k.step (List.nil_subset G) hQ (within_start fun h => within_mk h)

theorem within_curEvent {a0 : Nat} {a1 : Nat} {a2 : Nat} (hG : [0x02, 0x09, 0x51, 0x74] ⊆ G := by decide)
    (hQ : [.link, .intc] ⊆ Q := by decide) : Within G Q s0 (curEvent a0 a1 a2 s) :=
  k.step hG hQ (within_start fun h => within_raiseF (within_setEvt h))

theorem within_balEvent {a0 : Nat} {a1 : Nat} {a2 : Nat} (hG : [0x02, 0x09, 0x51, 0x75] ⊆ G := by decide)
    (hQ : [.link, .intc] ⊆ Q := by decide) : Within G Q s0 (balEvent a0 a1 a2 s) :=
  k.step hG hQ (within_start fun h => within_raiseF (within_setEvt h))

theorem within_lagsPick (hQ : [.cur] ⊆ Q := by decide) : Within G Q s0 (lagsPick s) := by
  refine k.step (List.nil_subset G) hQ (within_start fun h => ?_)
  unfold lagsPick
  extract_lets x0
  exact within_ite h (within_modCur h)

theorem within_fwPick (hG : [0x02, 0x09, 0x51, 0x74] ⊆ G := by decide) (hQ : [.link, .intc, .cur] ⊆ Q := by decide) :
    Within G Q s0 (fwPick s) := by
  refine k.step hG hQ (within_start fun h => ?_)
  unfold fwPick
  extract_lets x0 x1
  exact within_ite (within_ite (within_curEvent (within_put (within_modCur h))) h) (within_ite h (by split; exacts [(within_ite h (within_curEvent (within_put (within_modCur h)))), (within_modCur h)]))

theorem within_stages (hG : [0x74] ⊆ G := by decide) (hQ : [.cur] ⊆ Q := by decide) : Within G Q s0 (stages s) := by
  refine k.step hG hQ (within_start fun h => ?_)
  unfold stages
  extract_lets x0 x1 x2 x3 x4 x5 x6 x7 x8 x9 x10 x11 x12
  have h13 : Within _ _ s x12 := within_modCur h
  exact within_put (within_put (within_putB h13))

theorem within_putIlim {a0 : Bool} {a1 : Bool} (hG : [0x02, 0x09, 0x51, 0x74] ⊆ G := by decide) (hQ : [.link, .intc] ⊆ Q := by decide) :
    Within G Q s0 (putIlim a0 a1 s) :=
  k.step hG hQ (within_start fun h => within_ite h (within_curEvent (within_putB h)))

theorem within_putSrc {a0 : Nat} (hG : [0x02, 0x09, 0x51, 0x74] ⊆ G := by decide) (hQ : [.link, .intc, .cur] ⊆ Q := by decide) :
    Within G Q s0 (putSrc a0 s) := by
  refine k.step hG hQ (within_start fun h => ?_)
  unfold putSrc
  extract_lets x0 x1
  have h2 : Within _ _ s x1 := within_ite (within_modCur h) h
  exact within_ite h (within_curEvent (within_put h2))

theorem within_risePick (hQ : [.ride] ⊆ Q := by decide) : Within G Q s0 (risePick s) := by
  refine k.step (List.nil_subset G) hQ (within_start fun h => ?_)
  unfold risePick
  split
  exacts [h, (by extract_lets x0 x1 x2 x3; exact (within_modRide h))]

theorem within_commitRefs (hG : [0x02, 0x09, 0x51, 0x74] ⊆ G := by decide) (hQ : [.link, .intc, .cur, .ride] ⊆ Q := by decide) :
    Within G Q s0 (commitRefs s) := by
  refine k.step hG hQ (within_start fun h => ?_)
  unfold commitRefs
  extract_lets x0 x1 x3 x4 x5 x6 x7 x8 x9 x10 x11 x12 x13 x14 x16 x18
  have h2 : Within _ _ s x1 := within_putSrc h
  have h15 : Within _ _ s x14 := within_modCur h2
  have h17 : Within _ _ s x16 := within_modRide h15
  have h19 : Within _ _ s x18 := within_putIlim h17
  exact within_put (within_put (within_put (within_put h19)))

theorem within_commitPhasors (hQ : [.cur] ⊆ Q := by decide) : Within G Q s0 (commitPhasors s) := by
  refine k.step (List.nil_subset G) hQ (within_start fun h => ?_)
  unfold commitPhasors
  extract_lets x0 x1 x2
  exact within_modCur h

theorem within_curPick (hG : [0x02, 0x09, 0x51, 0x74] ⊆ G := by decide) (hQ : [.link, .intc, .cur, .ride] ⊆ Q := by decide) :
    Within G Q s0 (curPick s) := by
  refine k.step hG hQ (within_start fun h => ?_)
  unfold curPick
  extract_lets x0 x2 x4
  have h1 : Within _ _ s x0 := within_commitPhasors h
  have h3 : Within _ _ s x2 := within_ite h1 (within_modCur (within_stages (within_fwPick (within_lagsPick h1))))
  exact within_commitRefs (within_risePick (within_mk h3))

theorem within_energyStep (hG : [0x02, 0x09, 0x51, 0x74, 0x75] ⊆ G := by decide) (hQ : [.link, .intc, .cur, .ride] ⊆ Q := by decide) :
    Within G Q s0 (energyStep s) := by
  refine k.step hG hQ (within_start fun h => ?_)
  unfold energyStep
  extract_lets x0 x1 x2 x3 x4 x5 x6 x7 x8 x9 x10 x11 x12 x13 x14 x15 x16 x17 x18 x19 x21 x23
  have h20 : Within _ _ s x19 := within_modCur h
  have h22 : Within _ _ s x21 := within_ite h20 (within_commitRefs (within_modCur h20))
  have h24 : Within _ _ s x23 := within_putB (within_put (within_put h22))
  exact within_ite (within_raiseF h24) h24

theorem within_putBal {a0 : Fld} {a1 : Bool} {a2 : Nat} {a3 : Nat} (ha : a0.addr / 0x1000 = 0x75 := by decide) (hG : [0x02, 0x09, 0x51, 0x75] ⊆ G := by decide)
    (hQ : [.link, .intc] ⊆ Q := by decide) : Within G Q s0 (putBal a0 a1 a2 a3 s) :=
  k.step hG hQ (within_start fun h => within_ite h (within_balEvent (within_putB h)))

theorem within_balanceStep (hG : [0x02, 0x09, 0x51, 0x75] ⊆ G := by decide) (hQ : [.link, .intc, .cur] ⊆ Q := by decide) :
    Within G Q s0 (balanceStep s) := by
  refine k.step hG hQ (within_start fun h => ?_)
  unfold balanceStep
  extract_lets x0 x1 x2 x3 x4 x5 x6 x7 x8 x9 x10 x11 x12 x13 x14 x15 x16 x17 x18 x19 x20 x22 x27
  have h21 : Within _ _ s x20 := within_modCur h
  have h23 : Within _ _ s x22 := within_foldl_range h21 fun _ _ _ k26 => (within_put k26)
  have h28 : Within _ _ s x27 := within_putB (within_put (within_put h23))
  exact within_putBal (within_putBal h28)

theorem within_learnCycle (hQ : [.cur] ⊆ Q := by decide) : Within G Q s0 (learnCycle s) :=
  k.step (List.nil_subset G) hQ (within_start fun h => within_ite h (within_modCur h))

theorem within_learnPick {a0 : Cx} (hG : [0x74] ⊆ G := by decide) (hQ : [.cur] ⊆ Q := by decide) : Within G Q s0 (learnPick a0 s) := by
  refine k.step hG hQ (within_start fun h => ?_)
  unfold learnPick
  extract_lets x0 x1 x2
  have h3 : Within _ _ s x2 := within_modCur h
  exact within_putB h3

theorem within_controlPick (hG : [0x74] ⊆ G := by decide) (hQ : [.cur] ⊆ Q := by decide) : Within G Q s0 (controlPick s) := by
  refine k.step hG hQ (within_start fun h => ?_)
  unfold controlPick
  extract_lets x0 x1 x2 x3 x4 x6
  have h5 : Within _ _ s x4 := within_modCur h
  have h7 : Within _ _ s x6 := within_ite (within_modCur h5) h5
  exact within_learnPick h7

theorem within_controlled (hG : [0x74] ⊆ G := by decide) (hQ : [.cur] ⊆ Q := by decide) : Within G Q s0 (controlled s) :=
  k.step hG hQ (within_start fun h => within_ite (within_controlPick h) h)

theorem within_seePick (hQ : [.cur] ⊆ Q := by decide) : Within G Q s0 (seePick s) := by
  refine k.step (List.nil_subset G) hQ (within_start fun h => ?_)
  unfold seePick
  extract_lets x0
  exact within_modCur h

theorem within_commitCell {a0 : Nat} {a1 : Nat} (hQ : [.cells] ⊆ Q := by decide) : Within G Q s0 (commitCell a0 a1 s) := by
  refine k.step (List.nil_subset G) hQ (within_start fun h => ?_)
  unfold commitCell
  extract_lets x0 x1
  exact within_ite h (within_modCell h)

theorem within_putWeights {a0 : List (Nat × Rat × Rat)} (hQ : [.cur] ⊆ Q := by decide) : Within G Q s0 (putWeights a0 s) :=
  k.step (List.nil_subset G) hQ (within_start fun h => within_modCur h)

theorem within_phasePick {a0 : Nat} (hQ : [.cells, .cur] ⊆ Q := by decide) : Within G Q s0 (phasePick a0 s) := by
  refine k.step (List.nil_subset G) hQ (within_start fun h => ?_)
  unfold phasePick
  extract_lets x0
  have h1 : Within _ _ s x0 := within_putWeights h
  exact within_ite h (within_foldl h1 fun _ _ k4 => (within_commitCell k4))

theorem within_phasesPick (hQ : [.cells, .cur] ⊆ Q := by decide) : Within G Q s0 (phasesPick s) :=
  k.step (List.nil_subset G) hQ (within_start fun h => within_phasePick (within_phasePick (within_phasePick h)))

theorem within_putSat {a0 : Nat} {a1 : Bool} (hG : [0x02, 0x09, 0x51, 0x74] ⊆ G := by decide) (hQ : [.link, .intc, .cur] ⊆ Q := by decide) :
    Within G Q s0 (putSat a0 a1 s) := by
  refine k.step hG hQ (within_start fun h => ?_)
  unfold putSat
  extract_lets x0 x2
  have hp := page_satFlag a0
  have h1 : Within _ _ s x0 := within_putB h
  have h3 : Within _ _ s x2 := within_count h1
  exact within_ite h1 (within_ite h3 (within_curEvent (within_modCur h3)))

theorem within_clampedCell {a0 : Nat} (hG : [0x02, 0x09, 0x51, 0x75] ⊆ G := by decide) (hQ : [.link, .intc, .cur] ⊆ Q := by decide) :
    Within G Q s0 (clampedCell a0 s) := by
  refine k.step hG hQ (within_start fun h => ?_)
  unfold clampedCell
  extract_lets x0
  have h1 : Within _ _ s x0 := within_count h
  exact within_ite h1 (within_balEvent (within_modCur h1))

theorem within_adoptTable {a0 : Nat} (hk : a0 < 3 := by omega) (hG : [0x74] ⊆ G := by decide) (hQ : [.cur] ⊆ Q := by decide) :
    Within G Q s0 (adoptTable a0 s) := by
  refine k.step hG hQ (within_start fun h => ?_)
  unfold adoptTable
  split
  exacts [h, (by extract_lets x0 x1 x2; exact (within_put (within_modCur h)))]

theorem within_weightWindow {a0 : Nat} (hk : a0 < 3 := by omega) (hG : [0x75] ⊆ G := by decide) : Within G Q s0 (weightWindow a0 s) := by
  refine k.step hG (List.nil_subset Q) (within_start fun h => ?_)
  unfold weightWindow
  extract_lets x0 x6 x7
  have h1 : Within [0x75] [] s x0 := by unfold x0; exact (within_foldl_mem h fun _ g hm k4 => have hg := div_of_mem_phaseCells hm; (by extract_lets x5; exact (within_put (within_put k4))))
  exact within_put (within_put h1)

theorem within_lawLoad {a0 : Nat} (hk : a0 < 3 := by omega) (hG : [0x02, 0x09, 0x51, 0x74, 0x75] ⊆ G := by decide)
    (hQ : [.link, .intc, .edge, .cur] ⊆ Q := by decide) : Within G Q s0 (lawLoad a0 s) := by
  refine k.step hG hQ (within_start fun h => ?_)
  unfold lawLoad
  extract_lets x0 x2 x3 x4 x6 x7 x8 x9 x10 x11 x12 x13 x14 x15 x16 x29 x31
  have h1 : Within _ _ s x0 := within_adoptTable h
  have h5 : Within _ _ s x4 := within_ite h1 (within_putWeights h1)
  have h17 : Within [0x02, 0x09, 0x51, 0x74, 0x75] [.link, .intc, .edge, .cur] s x16 := by unfold x16; exact (within_foldl h5 fun _ _ k20 => (by extract_lets x21 x22 x23 x24 x25 x26 x27 x28; exact (within_modEdge k20)))
  have h30 : Within _ _ s x29 := within_putSat h17
  exact within_putB (within_foldl h30 fun _ _ k34 => (within_clampedCell k34))

theorem within_delayFigures (hG : [0x74] ⊆ G := by decide) : Within G Q s0 (delayFigures s) := by
  refine k.step hG (List.nil_subset Q) (within_start fun h => ?_)
  unfold delayFigures
  extract_lets x0 x1 x2 x3
  exact within_put (within_put h)

theorem within_loadPhase {a0 : Nat} (hk : a0 < 3 := by omega) (hG : [0x02, 0x09, 0x41, 0x51, 0x60, 0x74, 0x75] ⊆ G := by decide)
    (hQ : [.link, .intc, .weave, .cells, .edge, .cur] ⊆ Q := by decide) : Within G Q s0 (loadPhase a0 s) := by
  refine k.step hG hQ (within_start fun h => ?_)
  unfold loadPhase
  extract_lets x0
  have h1 : Within _ _ s x0 := within_controlled h
  exact within_ite h (within_weightWindow (within_loadPoint (within_ite (within_lawLoad h1) h1)))

theorem within_publishTable {a0 : Nat} (hk : a0 < 3 := by omega) (hG : [0x02, 0x09, 0x51, 0x74] ⊆ G := by decide)
    (hQ : [.link, .intc, .cur] ⊆ Q := by decide) : Within G Q s0 (publishTable a0 s) := by
  refine k.step hG hQ (within_start fun h => ?_)
  unfold publishTable
  extract_lets x0 x1 x2
  have h3 : Within _ _ s x2 := within_modCur h
  exact within_ite h (within_setEvt (within_countWrap h3))

theorem within_modTrk {a0 : Nat} {a1 : Trk → Trk} (hQ : [.mppt] ⊆ Q := by decide) : Within G Q s0 (modTrk a0 a1 s) := by
  refine k.step (List.nil_subset G) hQ (within_start fun h => ?_)
  unfold modTrk
  extract_lets x0
  exact within_mk h

theorem within_modMppt {a0 : MpptSt → MpptSt} (hQ : [.mppt] ⊆ Q := by decide) : Within G Q s0 (modMppt a0 s) :=
  k.step (List.nil_subset G) hQ (within_start fun h => within_mk h)

theorem within_mpptEvent {a0 : Nat} {a1 : Nat} {a2 : Nat} (hG : [0x02, 0x09, 0x51, 0x76] ⊆ G := by decide)
    (hQ : [.link, .intc] ⊆ Q := by decide) : Within G Q s0 (mpptEvent a0 a1 a2 s) :=
  k.step hG hQ (within_start fun h => within_raiseF (within_setEvt h))

theorem within_storEvent {a0 : Nat} {a1 : Nat} {a2 : Nat} (hG : [0x02, 0x09, 0x51, 0x77] ⊆ G := by decide)
    (hQ : [.link, .intc] ⊆ Q := by decide) : Within G Q s0 (storEvent a0 a1 a2 s) :=
  k.step hG hQ (within_start fun h => within_raiseF (within_setEvt h))

theorem within_setTrk {a0 : Nat} {a1 : Nat} (hk : a0 < 192 := by omega) (hG : [0x02, 0x09, 0x51, 0x76] ⊆ G := by decide)
    (hQ : [.link, .intc, .mppt] ⊆ Q := by decide) : Within G Q s0 (setTrk a0 a1 s) := by
  refine k.step hG hQ (within_start fun h => ?_)
  unfold setTrk
  extract_lets x0 x1 x2 x4 x6
  have h3 : Within _ _ s x2 := within_ite h (within_modTrk h)
  have h5 : Within _ _ s x4 := within_put h3
  exact within_ite h5 (within_mpptEvent h5)

theorem within_setPest {a0 : Nat} {a1 : Rat} (hk : a0 < 192 := by omega) (hG : [0x76] ⊆ G := by decide) (hQ : [.mppt] ⊆ Q := by decide) :
    Within G Q s0 (setPest a0 a1 s) :=
  k.step hG hQ (within_start fun h => within_put (within_modTrk h))

theorem within_undoUpdate {a0 : Nat} (hk : a0 < 192 := by omega) (hG : [0x76] ⊆ G := by decide) (hQ : [.mppt] ⊆ Q := by decide) :
    Within G Q s0 (undoUpdate a0 s) := by
  refine k.step hG hQ (within_start fun h => ?_)
  unfold undoUpdate
  split
  exacts [h, (by extract_lets x0; have h1 : Within _ _ s x0 := (within_modTrk h); exact (within_ite h (within_setPest (within_put h1))))]

theorem within_commitInref {a0 : Nat} (hk : a0 < 192 := by omega) (hG : [0x76] ⊆ G := by decide) (hQ : [.mppt] ⊆ Q := by decide) :
    Within G Q s0 (commitInref a0 s) := by
  refine k.step hG hQ (within_start fun h => ?_)
  unfold commitInref
  extract_lets x0 x1 x2
  exact within_ite (within_put (within_modTrk h)) (within_ite (within_modTrk h) h)

theorem within_leaveSweep {a0 : Nat} {a1 : Nat} (hk : a0 < 192 := by omega) (hG : [0x02, 0x09, 0x51, 0x76] ⊆ G := by decide)
    (hQ : [.link, .intc, .mppt] ⊆ Q := by decide) : Within G Q s0 (leaveSweep a0 a1 s) := by
  refine k.step hG hQ (within_start fun h => ?_)
  unfold leaveSweep
  split
  exacts [h, (by extract_lets x0; have h1 : Within _ _ s x0 := (within_modTrk h); exact (within_ite (within_modTrk h1) (within_setTrk h1)))]

theorem within_abortScan {a0 : Nat} (hG : [0x02, 0x09, 0x51, 0x76] ⊆ G := by decide) (hQ : [.link, .intc, .mppt] ⊆ Q := by decide) :
    Within G Q s0 (abortScan a0 s) := by
  refine k.step hG hQ (within_start fun h => ?_)
  unfold abortScan
  extract_lets x0 x5
  have h1 : Within _ _ s x0 := within_foldl_mem h fun _ g hm k4 => have hg := lt_of_mem_sweeping hm; (within_leaveSweep k4)
  have h6 : Within _ _ s x5 := within_modMppt h1
  exact within_ite h (within_mpptEvent (within_count h6))

theorem within_endPass (hG : [0x76] ⊆ G := by decide) (hQ : [.mppt] ⊆ Q := by decide) : Within G Q s0 (endPass s) :=
  k.step hG hQ (within_start fun h => within_put (within_modMppt h))

theorem within_startPass (hG : [0x76] ⊆ G := by decide) (hQ : [.mppt] ⊆ Q := by decide) : Within G Q s0 (startPass s) :=
  k.step hG hQ (within_start fun h => within_put (within_modMppt h))

theorem within_scanctlWrite {a0 : Word} (hG : [0x02, 0x04, 0x09, 0x51, 0x76] ⊆ G := by decide)
    (hQ : [.link, .intc, .jr, .mppt] ⊆ Q := by decide) : Within G Q s0 (scanctlWrite a0 s) := by
  refine k.step hG hQ (within_start fun h => ?_)
  unfold scanctlWrite
  extract_lets x0 x2
  have h1 : Within _ _ s x0 := within_ite h (within_capture h)
  have h3 : Within [0x02, 0x04, 0x09, 0x51, 0x76] [.link, .intc, .jr, .mppt] s x2 := by unfold x2; exact (within_ite (by split; rename_i w4 t5 q6; exact (fun k7 => (within_endPass (within_abortScan k7))) (within_snd (within_freeWord h1) q6)) h1)
  exact within_ite (within_ite (within_capture h3) (within_startPass h3)) h3

theorem within_tryBank {a0 : Nat} (hk : a0 < 24 := by omega) (hG : [0x02, 0x09, 0x51, 0x76] ⊆ G := by decide)
    (hQ : [.link, .intc, .mppt] ⊆ Q := by decide) : Within G Q s0 (tryBank a0 s) := by
  refine k.step hG hQ (within_start fun h => ?_)
  unfold tryBank
  extract_lets x0 x1 x2 x3 x8
  have h4 : Within _ _ s x3 := within_foldl_mem h fun _ g hm k7 => have hg := lt_of_mem_bankPv hk (List.mem_filter.1 hm).1; (within_setTrk (within_modTrk (within_undoUpdate k7)))
  have h9 : Within _ _ s x8 := within_addSat h4
  exact within_ite h (within_ite (within_ite (within_mpptEvent (within_count h)) (within_modMppt h)) (within_put (within_modMppt h9)))

theorem within_closePoint {a0 : Nat} {a1 : Nat} (hQ : [.mppt] ⊆ Q := by decide) : Within G Q s0 (closePoint a0 a1 s) :=
  k.step (List.nil_subset G) hQ (within_start fun h => within_modTrk h)

theorem within_chooseBest {a0 : Nat} (hQ : [.mppt] ⊆ Q := by decide) : Within G Q s0 (chooseBest a0 s) :=
  k.step (List.nil_subset G) hQ (within_start fun h => within_modTrk h)

theorem within_finishCell {a0 : Nat} (hk : a0 < 192 := by omega) (hG : [0x02, 0x09, 0x51, 0x76] ⊆ G := by decide)
    (hQ : [.link, .intc, .mppt] ⊆ Q := by decide) : Within G Q s0 (finishCell a0 s) := by
  refine k.step hG hQ (within_start fun h => ?_)
  unfold finishCell
  split
  exacts [h, (by extract_lets x0 x1 x3; have h2 : Within _ _ s x1 := (within_modTrk h); have h4 : Within _ _ s x3 := (within_count (within_setTrk h2)); exact (within_ite (within_count h4) h4))]

theorem within_toIdle {a0 : Nat} (hk : a0 < 192 := by omega) (hG : [0x02, 0x09, 0x51, 0x76] ⊆ G := by decide)
    (hQ : [.link, .intc, .mppt] ⊆ Q := by decide) : Within G Q s0 (toIdle a0 s) :=
  k.step hG hQ (within_start fun h => within_ite h (within_setTrk (within_modTrk h)))

theorem within_toStart {a0 : Nat} (hk : a0 < 192 := by omega) (hG : [0x02, 0x09, 0x51, 0x76] ⊆ G := by decide)
    (hQ : [.link, .intc, .mppt] ⊆ Q := by decide) : Within G Q s0 (toStart a0 s) :=
  k.step hG hQ (within_start fun h => within_setTrk (within_modTrk h))

theorem within_trkEvents {a0 : Nat} (hk : a0 < 192 := by omega) (hG : [0x02, 0x09, 0x51, 0x76] ⊆ G := by decide)
    (hQ : [.link, .intc, .mppt] ⊆ Q := by decide) : Within G Q s0 (trkEvents a0 s) := by
  refine k.step hG hQ (within_start fun h => ?_)
  unfold trkEvents
  extract_lets x0 x1 x2 x3
  exact within_ite (within_toIdle h) (within_ite (within_setTrk (within_modTrk h)) (within_ite (within_setTrk h) (within_ite (within_toStart h) h)))

theorem within_trkSample {a0 : Nat} (hQ : [.mppt] ⊆ Q := by decide) : Within G Q s0 (trkSample a0 s) := by
  refine k.step (List.nil_subset G) hQ (within_start fun h => ?_)
  unfold trkSample
  extract_lets x0 x1 x2 x3 x4 x5
  exact within_modTrk h

theorem within_trkCounts (hG : [0x76] ⊆ G := by decide) : Within G Q s0 (trkCounts s) := by
  refine k.step hG (List.nil_subset Q) (within_start fun h => ?_)
  unfold trkCounts
  extract_lets x0
  exact within_put (within_put h)

theorem within_mpptClock (hQ : [.mppt] ⊆ Q := by decide) : Within G Q s0 (mpptClock s) := by
  refine k.step (List.nil_subset G) hQ (within_start fun h => ?_)
  unfold mpptClock
  extract_lets x0 x1 x2 x3
  exact within_modMppt h

theorem within_mpptPick (hG : [0x02, 0x09, 0x51, 0x76] ⊆ G := by decide) (hQ : [.link, .intc, .mppt] ⊆ Q := by decide) :
    Within G Q s0 (mpptPick s) := by
  refine k.step hG hQ (within_start fun h => ?_)
  unfold mpptPick
  extract_lets x0 x1 x3 x5
  have h2 : Within _ _ s x1 := within_modMppt h
  have h4 : Within _ _ s x3 := within_ite (within_abortScan h2) (within_ite h2 (within_abortScan h2))
  have h6 : Within _ _ s x5 := within_foldl_mem h4 fun _ g hm k9 => have hg := lt_of_mem_pvCells hm; (within_trkSample (within_trkEvents k9))
  exact within_trkCounts (within_foldl_range h6 fun _ _ _ k12 => (within_commitInref k12))

theorem within_startTrack {a0 : Nat} {a1 : Rat} (hk : a0 < 192 := by omega) (hG : [0x02, 0x09, 0x51, 0x76] ⊆ G := by decide)
    (hQ : [.link, .intc, .mppt] ⊆ Q := by decide) : Within G Q s0 (startTrack a0 a1 s) := by
  refine k.step hG hQ (within_start fun h => ?_)
  unfold startTrack
  extract_lets x0
  exact within_setTrk (within_modTrk h)

theorem within_updateTrack {a0 : Nat} {a1 : UpdateMeans} {a2 : Trk} (hk : a0 < 192 := by omega)
    (hG : [0x02, 0x09, 0x51, 0x76] ⊆ G := by decide) (hQ : [.link, .intc, .mppt] ⊆ Q := by decide) :
    Within G Q s0 (updateTrack a0 a1 a2 s) := by
  refine k.step hG hQ (within_start fun h => ?_)
  unfold updateTrack
  extract_lets x0 x1 x2
  have h3 : Within _ _ s x2 := within_modTrk h
  exact within_ite (within_setTrk (within_setPest (within_modTrk h3))) (by split; exacts [h3, (by extract_lets x4; exact (within_setPest (within_modTrk h3)))])

theorem within_updateCell {a0 : Nat} (hk : a0 < 192 := by omega) (hG : [0x02, 0x09, 0x51, 0x76] ⊆ G := by decide)
    (hQ : [.link, .intc, .mppt] ⊆ Q := by decide) : Within G Q s0 (updateCell a0 s) := by
  refine k.step hG hQ (within_start fun h => ?_)
  unfold updateCell
  extract_lets x0 x1 x2 x3 x5 x7 x9
  have h4 : Within _ _ s x3 := within_ite (within_modTrk h) h
  have h6 : Within _ _ s x5 := within_modTrk h4
  have h8 : Within _ _ s x7 := within_setPest h6
  exact within_ite h (within_ite h4 (within_ite (within_count h4) (within_ite (within_updateTrack h6) (within_ite h8 (within_ite (within_startTrack h8) (within_ite h8 (within_setTrk h8)))))))

theorem within_updateBank {a0 : Nat} (hk : a0 < 24 := by omega) (hG : [0x02, 0x09, 0x51, 0x76] ⊆ G := by decide)
    (hQ : [.link, .intc, .mppt] ⊆ Q := by decide) : Within G Q s0 (updateBank a0 s) :=
  k.step hG hQ (within_start fun h => within_modMppt (within_foldl_mem h fun _ g hm k2 => have hg := lt_of_mem_bankPv hk hm; (within_updateCell k2)))

theorem within_permitStep {a0 : Nat} (hG : [0x02, 0x09, 0x51, 0x77] ⊆ G := by decide) (hQ : [.link, .intc, .mppt] ⊆ Q := by decide) :
    Within G Q s0 (permitStep a0 s) := by
  refine k.step hG hQ (within_start fun h => ?_)
  unfold permitStep
  extract_lets x0 x1 x2 x3 x4 x5 x6 x7
  have h8 : Within _ _ s x7 := within_modTrk h
  exact within_ite h (within_ite (within_storEvent (within_count h8)) h8)

theorem within_splitStorage {a0 : Rat} (hG : [0x02, 0x09, 0x51, 0x77] ⊆ G := by decide) (hQ : [.link, .intc, .mppt] ⊆ Q := by decide) :
    Within G Q s0 (splitStorage a0 s) := by
  refine k.step hG hQ (within_start fun h => ?_)
  unfold splitStorage
  extract_lets x0 x1 x2 x7 x8 x9 x10 x11 x12 x13 x14 x15 x16 x21 x26 x27
  have h3 : Within _ _ s x2 := within_foldl h fun _ _ k6 => (within_modTrk k6)
  have h17 : Within _ _ s x16 := within_foldl h3 fun _ _ k20 => (within_modTrk k20)
  have h22 : Within _ _ s x21 := within_foldl h17 fun _ _ k25 => (within_ite k25 (within_modTrk k25))
  have h28 : Within _ _ s x27 := within_put h22
  exact within_ite h28 (within_storEvent (within_modMppt h28))

theorem within_storageStatus (hG : [0x77] ⊆ G := by decide) : Within G Q s0 (storageStatus s) := by
  refine k.step hG (List.nil_subset Q) (within_start fun h => ?_)
  unfold storageStatus
  extract_lets x0 x1 x2 x7 x9
  have h3 : Within _ _ s x2 := within_foldl_mem h fun _ g hm k6 => have hg := lt_of_mem_storageCells hm; (within_putB (within_putB (within_putB (within_put k6))))
  have h8 : Within _ _ s x7 := within_put (within_put h3)
  have h10 : Within _ _ s x9 := within_put (within_put h8)
  exact within_put (within_put h10)

theorem within_splitExport (hG : [0x76] ⊆ G := by decide) (hQ : [.mppt] ⊆ Q := by decide) : Within G Q s0 (splitExport s) := by
  refine k.step hG hQ (within_start fun h => ?_)
  unfold splitExport
  extract_lets x0 x1 x2 x3 x4 x5 x6 x7 x8 x9
  have h10 : Within _ _ s x9 := within_modMppt h
  exact within_put (within_put h10)

theorem within_curtailUp {a0 : Nat} {a1 : Rat} (hQ : [.mppt] ⊆ Q := by decide) : Within G Q s0 (curtailUp a0 a1 s) := by
  refine k.step (List.nil_subset G) hQ (within_start fun h => ?_)
  unfold curtailUp
  extract_lets x0 x1
  exact within_modTrk h

theorem within_checkCurtail {a0 : Nat} {a1 : Rat} (hQ : [.mppt] ⊆ Q := by decide) : Within G Q s0 (checkCurtail a0 a1 s) := by
  refine k.step (List.nil_subset G) hQ (within_start fun h => ?_)
  unfold checkCurtail
  extract_lets x0 x1 x2
  have h3 : Within _ _ s x2 := within_modTrk h
  exact within_ite h3 (within_ite (within_curtailUp h3) (within_ite (within_modTrk h3) h3))

theorem within_enterCurtail {a0 : Nat} (hk : a0 < 192 := by omega) (hG : [0x02, 0x09, 0x51, 0x76] ⊆ G := by decide)
    (hQ : [.link, .intc, .mppt] ⊆ Q := by decide) : Within G Q s0 (enterCurtail a0 s) :=
  k.step hG hQ (within_start fun h => within_setTrk (within_modTrk h))

theorem within_checkCell {a0 : Nat} (hk : a0 < 192 := by omega) (hG : [0x02, 0x09, 0x51, 0x76] ⊆ G := by decide)
    (hQ : [.link, .intc, .mppt] ⊆ Q := by decide) : Within G Q s0 (checkCell a0 s) := by
  refine k.step hG hQ (within_start fun h => ?_)
  unfold checkCell
  extract_lets x0 x1 x2 x4 x5
  have h3 : Within _ _ s x2 := within_undoUpdate h
  have h6 : Within [0x02, 0x09, 0x51, 0x76] [.link, .intc, .mppt] s x5 := by unfold x5; exact (within_ite (within_ite (within_curtailUp (within_enterCurtail h3)) h) (within_ite h (within_ite (within_checkCurtail h) (by split; exacts [(by extract_lets x7; have h8 : Within _ _ s x7 := (within_enterCurtail (within_modTrk h)); exact (within_ite (within_mpptEvent (within_count h8)) h)), h]))))
  exact within_modTrk h6

theorem within_reserveCheck (hG : [0x02, 0x09, 0x51, 0x76] ⊆ G := by decide) (hQ : [.link, .intc, .mppt] ⊆ Q := by decide) :
    Within G Q s0 (reserveCheck s) :=
  k.step hG hQ (within_start fun h => within_ite h (within_ite (within_ite (within_abortScan h) (within_modMppt h)) (within_modMppt h)))

theorem within_sixteenCheck (hG : [0x02, 0x09, 0x51, 0x76, 0x77] ⊆ G := by decide) (hQ : [.link, .intc, .mppt] ⊆ Q := by decide) :
    Within G Q s0 (sixteenCheck s) := by
  refine k.step hG hQ (within_start fun h => ?_)
  unfold sixteenCheck
  extract_lets x0 x5 x7 x9 x15
  have h1 : Within _ _ s x0 := within_foldl_mem h fun _ g hm k4 => have hg := lt_of_mem_storageCells hm; (within_permitStep k4)
  have h6 : Within _ _ s x5 := within_splitExport h1
  have h8 : Within _ _ s x7 := within_storageStatus (within_splitStorage h6)
  have h10 : Within [0x02, 0x09, 0x51, 0x76, 0x77] [.link, .intc, .mppt] s x9 := by unfold x9; exact (within_foldl_mem h8 fun _ g hm k13 => have hg := lt_of_mem_pvCells hm; (by extract_lets x14; exact (within_put (within_modTrk k13))))
  have h16 : Within _ _ s x15 := within_foldl_mem h10 fun _ g hm k19 => have hg := lt_of_mem_pvCells hm; (within_checkCell k19)
  exact within_trkCounts (within_reserveCheck h16)

theorem within_samplePick {a0 : List (List Int)} (hG : [0x02, 0x09, 0x51, 0x70] ++ ringPages ++ adcPages ⊆ G := by decide)
    (hQ : [.link, .intc, .adc, .fcmp] ⊆ Q := by decide) : Within G Q s0 (samplePick a0 s) :=
  k.step hG hQ (within_start fun h => within_foldl_range h fun _ _ _ k2 => (within_sampleCmp k2))

theorem within_comparatorWord (hQ : [.clu, .fcmp] ⊆ Q := by decide) : Within G Q s0 (comparatorWord s) :=
  k.step (List.nil_subset G) hQ (within_start fun h => within_putResult (within_rampRestart h))

theorem within_presetPick (hG : [0x7D] ⊆ G := by decide) (hQ : [.heat] ⊆ Q := by decide) : Within G Q s0 (presetPick s) := by
  refine k.step hG hQ (within_start fun h => ?_)
  unfold presetPick
  extract_lets x0 x1 x2
  have h3 : Within _ _ s x2 := within_mk h
  exact within_ite h (within_ite h3 (within_count (within_put h3)))

theorem within_collectPick (hQ : [.ring] ⊆ Q := by decide) : Within G Q s0 (collectPick s) :=
  k.step (List.nil_subset G) hQ (within_start fun h => within_foldl h fun _ _ k2 => (within_ite (within_sendCollect k2) k2))

theorem within_carrierPick (hG : [0x60] ⊆ G := by decide) : Within G Q s0 (carrierPick s) :=
  k.step hG (List.nil_subset Q) (within_start fun h => within_ite (within_put h) h)

theorem within_syncPick (hG : [0x62] ⊆ G := by decide) : Within G Q s0 (syncPick s) := by
  refine k.step hG (List.nil_subset Q) (within_start fun h => ?_)
  unfold syncPick
  extract_lets x0
  exact within_ite (within_syncOut h) h

theorem within_watchdogPick (hQ : [.wdog] ⊆ Q := by decide) : Within G Q s0 (watchdogPick s) := by
  refine k.step (List.nil_subset G) hQ (within_start fun h => ?_)
  unfold watchdogPick
  extract_lets x0 x1 x2
  exact within_ite h (within_mk h)

theorem within_ringPick (hG : [0x02, 0x09, 0x41, 0x51, 0x7D, 0x100] ++ ringPages ⊆ G := by decide)
    (hQ : [.pwr, .link, .intc, .loom, .heat, .cells, .ring, .twin] ⊆ Q := by decide) : Within G Q s0 (ringPick s) :=
  k.step hG hQ (within_start fun h => within_yieldPick (within_collectPick (within_presetPick (within_twinPick (within_applyOwners (within_ringBegin h))))))

theorem within_clustersPick (hG : [0x02, 0x09, 0x41, 0x50, 0x51, 0x60, 0x100] ++ loomPages ++ ringPages ++ adcPages ⊆ G := by decide)
    (hQ : [.pwr, .link, .intc, .warp, .weave, .loom, .clu, .cells, .ring, .twin, .edge, .cur] ⊆ Q := by decide) :
    Within G Q s0 (clustersPick s) := by
  refine k.step hG hQ (within_start fun h => ?_)
  unfold clustersPick
  extract_lets x0 x2 x4
  have h1 : Within _ _ s x0 := within_ite (within_clusterEnd (within_clusterEnd (within_clusterEnd (within_clusterEnd h)))) h
  have h3 : Within _ _ s x2 := within_ite (within_imageStart h1) h1
  exact within_ite (within_mk h3) (within_ite (within_startClusters h3) h3)

theorem within_anglePick (hG : [0x02, 0x09, 0x40, 0x51, 0x78, 0x79] ⊆ G := by decide)
    (hQ : [.link, .intc, .warp, .ride, .isl] ⊆ Q := by decide) : Within G Q s0 (anglePick s) := by
  refine k.step hG hQ (within_start fun h => ?_)
  unfold anglePick
  extract_lets x0
  have h1 : Within _ _ s x0 := within_gridQuantities (within_trackPick h)
  exact within_lockPick (within_steerPick (within_ite h1 (within_rtPick h1)))

theorem within_gridPick (hG : [0x02, 0x09, 0x51, 0x71, 0x78, 0x79] ⊆ G := by decide)
    (hQ : [.pwr, .link, .intc, .warp, .ride, .isl, .meter] ⊆ Q := by decide) : Within G Q s0 (gridPick s) :=
  k.step hG hQ (within_start fun h => within_connectPick (within_tripPick (within_excursion h)))

theorem within_lawPick (hG : [0x02, 0x09, 0x40, 0x51, 0x71, 0x74, 0x76, 0x78, 0x79] ⊆ G := by decide)
    (hQ : [.pwr, .link, .intc, .warp, .weave, .cells, .cur, .mppt, .ride, .isl, .meter] ⊆ Q := by decide) : Within G Q s0 (lawPick s) := by
  refine k.step hG hQ (within_start fun h => ?_)
  unfold lawPick
  extract_lets x0
  have h1 : Within _ _ s x0 := within_phasesPick (within_learnCycle (within_seePick h))
  exact within_ite h (within_ite (within_fallbackPick h1) (within_mpptPick (within_curPick (within_fallbackPick (within_islPick (within_gridPick (within_anglePick h1)))))))

theorem within_latchPick (hQ : [.pwr, .link, .clu] ⊆ Q := by decide) : Within G Q s0 (latchPick s) := by
  refine k.step (List.nil_subset G) hQ (within_start fun h => ?_)
  unfold latchPick
  extract_lets x0 x1
  exact within_mk h

theorem within_pickBoundary {a0 : List (List Int)}
    (hG : [0x02, 0x09, 0x40, 0x41, 0x50, 0x51, 0x60, 0x62, 0x70, 0x71, 0x74, 0x76, 0x78, 0x79, 0x7D, 0x100] ++ loomPages ++ ringPages ++ adcPages ⊆ G := by decide)
    (hQ : [.pwr, .link, .wdog, .intc, .warp, .weave, .loom, .clu, .heat, .cells, .ring, .twin, .edge, .blank, .cur, .mppt, .ride, .isl, .adc, .fcmp, .meter] ⊆ Q := by decide) :
    Within G Q s0 (pickBoundary a0 s) := by
  refine k.step hG hQ (within_start fun h => ?_)
  unfold pickBoundary
  extract_lets x0 x2 x4
  have h1 : Within _ _ s x0 := within_latchPick (within_applyInc (within_passPick (within_lossPick (within_controlled (within_samplePick h)))))
  have h3 : Within _ _ s x2 := within_rangePick (within_comparatorWord (within_corrected (within_blankPick h1)))
  have h5 : Within _ _ s x4 := within_clustersPick (within_mpptClock (within_ringPick (within_carrierPick h3)))
  exact within_ite h (within_syncPick (within_meterPick (within_watchdogPick (within_lawPick h5))))

end

theorem frame_execRtEventEnd {s t : State} (he : execRtEventEnd s = .next t) :
    Within ([0x02, 0x09, 0x51, 0x78]) [.link, .intc, .warp, .ride, .isl] s t := by
  refine within_run (fun s => within_start fun h => ?_) he
  exact within_ite (within_rtEnd h) h

theorem frame_execWaitTimer {s t : State} (he : execWaitTimer s = .next t) :
    Within ([0x02, 0x09, 0x51, 0x71, 0x78, 0x79]) [.link, .intc, .warp, .ride, .isl, .meter] s t := by
  refine within_run (fun s => within_start fun h => ?_) he
  exact within_ite (within_setCstate h) h

theorem frame_execSyncHold {s t : State} (he : execSyncHold s = .next t) :
    Within ([0x02, 0x09, 0x51, 0x71, 0x78, 0x79]) [.pwr, .link, .intc, .warp, .ride, .isl, .meter] s t := by
  refine within_run (fun s => within_start fun h => ?_) he
  extract_lets x0
  exact within_ite (within_setCstate (within_mk h)) h

theorem frame_execSyncTimeout {s t : State} (he : execSyncTimeout s = .next t) :
    Within ([0x02, 0x09, 0x51, 0x71, 0x78, 0x79]) [.link, .intc, .warp, .ride, .isl, .meter] s t := by
  refine within_run (fun s => within_start fun h => ?_) he
  exact within_ite (within_setCstate h) h

theorem frame_execBreakerTime {s t : State} (he : execBreakerTime s = .next t) :
    Within ([0x02, 0x09, 0x51, 0x71, 0x78, 0x79]) [.link, .intc, .warp, .ride, .isl, .meter] s t := by
  refine within_run (fun s => within_start fun h => ?_) he
  exact within_ite (within_setCstate (within_modRide h)) h

theorem frame_execRampComplete {s t : State} (he : execRampComplete s = .next t) :
    Within ([0x02, 0x09, 0x51, 0x71, 0x78, 0x79]) [.link, .intc, .warp, .ride, .isl, .meter] s t := by
  refine within_run (fun s => within_start fun h => ?_) he
  exact within_ite (within_setCstate h) h

theorem frame_execTripTimer {s t : State} (he : execTripTimer s = .next t) :
    Within ([0x02, 0x09, 0x51, 0x71, 0x78, 0x79]) [.pwr, .link, .intc, .warp, .ride, .isl, .meter] s t := by
  refine within_run (fun s => within_start fun h => ?_) he
  exact within_ite h (within_trips h)

theorem frame_execCurvctlCommit {s t : State} (he : execCurvctlCommit s = .next t) :
    Within ([0x02, 0x04, 0x09, 0x51, 0x78]) [.link, .intc, .jr, .ride] s t := by
  refine within_run (fun s => within_start fun h => ?_) he
  exact within_curvCommit h

theorem frame_execSuspensionTmax {s t : State} (he : execSuspensionTmax s = .next t) :
    Within ([0x02, 0x09, 0x51, 0x79]) [.link, .intc] s t := by
  refine within_run (fun s => within_start fun h => ?_) he
  split
  exacts [(within_ite (within_suspendEvent (within_put h)) h), h]

theorem frame_execSuspensionEnd {s t : State} (he : execSuspensionEnd s = .next t) :
    Within ([0x02, 0x09, 0x51, 0x79]) [.link, .intc, .isl] s t := by
  refine within_run (fun s => within_start fun h => ?_) he
  exact within_ite (within_endSuspension h) h

theorem frame_execChipEnd {s t : State} (he : execChipEnd s = .next t) :
    Within ([0x02, 0x09, 0x51, 0x71, 0x78, 0x79]) [.pwr, .link, .intc, .warp, .ride, .isl, .meter] s t := by
  refine within_run (fun s => within_start fun h => ?_) he
  extract_lets x0 x2 x3
  have h1 : Within _ _ s x0 := within_modIsl h
  exact within_ite h (within_ite h1 (within_ite (within_count h1) (within_evaluate h1)))

theorem frame_execPassiveConfirm {s t : State} (he : execPassiveConfirm s = .next t) :
    Within ([0x02, 0x09, 0x51, 0x71, 0x78, 0x79]) [.pwr, .link, .intc, .warp, .ride, .isl, .meter] s t := by
  refine within_run (fun s => within_start fun h => ?_) he
  extract_lets x0 x1
  exact within_ite (within_islanded h) h

theorem frame_execFwEnd {s t : State} (he : execFwEnd s = .next t) :
    Within ([0x02, 0x09, 0x51, 0x74]) [.link, .intc, .cur] s t := by
  refine within_run (fun s => within_start fun h => ?_) he
  exact within_ite (within_curEvent (within_put (within_modCur h))) h

theorem frame_execEnergyLoopStep {s t : State} (he : execEnergyLoopStep s = .next t) :
    Within ([0x02, 0x09, 0x51, 0x74, 0x75]) [.link, .intc, .cur, .ride] s t := by
  refine within_run (fun s => within_start fun h => ?_) he
  exact within_ite (within_energyStep h) h

theorem frame_execBalanceStep {s t : State} (he : execBalanceStep s = .next t) :
    Within ([0x02, 0x09, 0x51, 0x75]) [.link, .intc, .cur] s t := by
  refine within_run (fun s => within_start fun h => ?_) he
  exact within_ite (within_balanceStep h) h

theorem frame_execLearnPublish {s t : State} (he : execLearnPublish s = .next t) :
    Within ([0x02, 0x09, 0x51, 0x74]) [.link, .intc, .cur] s t := by
  refine within_run (fun s => within_start fun h => ?_) he
  extract_lets x0 x2
  have h1 : Within _ _ s x0 := within_publishTable (within_publishTable (within_publishTable h))
  have h3 : Within _ _ s x2 := within_ite (within_modCur (within_put h1)) h1
  exact within_ite h (within_modCur h3)

theorem frame_execScanPass {s t : State} (he : execScanPass s = .next t) :
    Within ([0x76]) [.mppt] s t := by
  refine within_run (fun s => within_start fun h => ?_) he
  extract_lets x0
  have h1 : Within _ _ s x0 := within_modMppt h
  exact within_ite h (within_ite (within_count h1) (within_startPass h1))

theorem frame_execScanGo {s t : State} (he : execScanGo s = .next t) :
    Within ([0x02, 0x04, 0x09, 0x51, 0x76]) [.link, .intc, .jr, .mppt] s t := by
  refine within_run (fun s => within_start fun h => ?_) he
  exact within_scanctlWrite h

theorem frame_execScanAbort {s t : State} (he : execScanAbort s = .next t) :
    Within ([0x02, 0x04, 0x09, 0x51, 0x76]) [.link, .intc, .jr, .mppt] s t := by
  refine within_run (fun s => within_start fun h => ?_) he
  exact within_scanctlWrite h

theorem frame_execScanPoint {s t : State} (he : execScanPoint s = .next t) :
    Within ([]) [.mppt] s t := by
  refine within_run (fun s => within_start fun h => ?_) he
  split
  exacts [h, (by extract_lets x0 x1 x6; have h2 : Within _ _ s x1 := (within_ite h (within_foldl h fun _ _ k5 => (within_closePoint k5))); have h7 : Within _ _ s x6 := (within_ite (within_foldl h2 fun _ _ k10 => (within_chooseBest k10)) h2); exact (within_ite h (within_modMppt h7)))]

theorem frame_execBankScanEnd {s t : State} (he : execBankScanEnd s = .next t) :
    Within ([0x02, 0x09, 0x51, 0x76]) [.link, .intc, .mppt] s t := by
  refine within_run (fun s => within_start fun h => ?_) he
  extract_lets x0 x1 x6 x7 x9
  have h2 : Within _ _ s x1 := within_foldl_mem h fun _ g hm k5 => have hg := lt_of_mem_sweeping hm; (within_finishCell k5)
  have h8 : Within _ _ s x7 := within_modMppt h2
  have h10 : Within _ _ s x9 := within_mpptEvent h8
  exact within_ite h (within_ite (within_endPass h10) h10)

theorem frame_execTrackerUpdate {s t : State} (he : execTrackerUpdate s = .next t) :
    Within ([0x02, 0x09, 0x51, 0x76]) [.link, .intc, .mppt] s t := by
  refine within_run (fun s => within_start fun h => ?_) he
  refine within_if (fun hc => ?_) fun _ => h
  simp only [Bool.and_eq_true, decide_eq_true_eq] at hc
  obtain ⟨⟨-, hb⟩, -⟩ := hc
  exact within_updateBank h

theorem frame_execSixteenPickCheck {s t : State} (he : execSixteenPickCheck s = .next t) :
    Within ([0x02, 0x09, 0x51, 0x76, 0x77]) [.link, .intc, .mppt] s t := by
  refine within_run (fun s => within_start fun h => ?_) he
  exact within_ite (within_sixteenCheck h) h

theorem frame_execCurtailRelease {s t : State} {a0 : Nat} (hk : a0 < 192 := by omega) (he : execCurtailRelease a0 s = .next t) :
    Within ([0x02, 0x09, 0x51, 0x76]) [.link, .intc, .mppt] s t := by
  refine within_run (fun s => within_start fun h => ?_) he
  exact within_ite (within_setTrk (within_modTrk h)) h

theorem frame_execLoadPoint {s t : State} {a0 : Nat} (hk : a0 < 3 := by omega) (he : execLoadPoint a0 s = .next t) :
    Within ([0x02, 0x09, 0x41, 0x51, 0x60, 0x74, 0x75]) [.link, .intc, .weave, .cells, .edge, .cur] s t := by
  refine within_run (fun s => within_start fun h => ?_) he
  exact within_ite (within_loadPhase h) h

theorem frame_execCarrierBoundary {s t : State} (he : execCarrierBoundary s = .next t) :
    Within ([0x02, 0x09, 0x41, 0x51, 0x60, 0x62, 0x74, 0x75, 0x100]) [.link, .intc, .weave, .cells, .edge, .cur, .fcmp] s t := by
  refine within_run (fun s => within_start fun h => ?_) he
  extract_lets x0 x2 x3 x4 x5 x6 x7 x8 x10 x12 x14 x16
  have h1 : Within _ _ s x0 := within_loadPhase (within_loadPhase (within_loadPhase h))
  have h9 : Within _ _ s x8 := within_mk h1
  have h11 : Within _ _ s x10 := within_put (within_put h9)
  have h13 : Within _ _ s x12 := within_delayFigures (within_boundaryPhase (within_boundaryPhase (within_boundaryPhase h11)))
  have h15 : Within _ _ s x14 := within_rampRestart h13
  have h17 : Within _ _ s x16 := within_ite h15 (within_edgeEvent70 h15)
  exact within_ite h (within_ite (within_syncOut h17) h17)

theorem frame_execPickBoundary {s t : State} {a0 : List (List Int)} (he : execPickBoundary a0 s = .next t) :
    Within ([0x02, 0x09, 0x40, 0x41, 0x50, 0x51, 0x60, 0x62, 0x70, 0x71, 0x74, 0x76, 0x78, 0x79, 0x7D, 0x100] ++ loomPages ++ ringPages ++ adcPages) [.pwr, .link, .wdog, .intc, .warp, .weave, .loom, .clu, .heat, .cells, .ring, .twin, .edge, .blank, .cur, .mppt, .ride, .isl, .adc, .fcmp, .meter] s t := by
  refine within_run (fun s => within_start fun h => ?_) he
  exact within_pickBoundary h

end Sys2Proof.Machine
end

section
/-! SUPPORT. Frames: the host interfaces and the service port. -/

namespace Sys2Proof.Machine

set_option Elab.async false

section
variable {G : List Nat} {Q : List Part} {s0 s : State} (k : Within G Q s0 s)
include k

theorem within_permitEdge {a0 : Nat} (hG : [0x51] ⊆ G := by decide) (hQ : [.permit] ⊆ Q := by decide) : Within G Q s0 (permitEdge a0 s) := by
  refine k.step hG hQ (within_start fun h => ?_)
  unfold permitEdge
  extract_lets x0
  exact within_ite h (within_ite (within_mk h) (within_ite (within_put (within_mk h)) h))

theorem within_permitTimeout (hG : [0x02, 0x09, 0x51] ++ ringPages ⊆ G := by decide)
    (hQ : [.pwr, .link, .permit, .intc, .twin] ⊆ Q := by decide) : Within G Q s0 (permitTimeout s) := by
  refine k.step hG hQ (within_start fun h => ?_)
  unfold permitTimeout
  extract_lets x0 x1
  have h2 : Within _ _ s x1 := within_put (within_put (within_mk h))
  exact within_ite h (within_ite h2 (within_ite (within_yieldCells h2) (within_closeShutter h2)))

theorem within_reopenWrite (hG : [0x02, 0x04, 0x09, 0x51] ⊆ G := by decide) (hQ : [.pwr, .link, .permit, .intc, .jr] ⊆ Q := by decide) :
    Within G Q s0 (reopenWrite s) := by
  refine k.step hG hQ (within_start fun h => ?_)
  unfold reopenWrite
  extract_lets x0 x2 x3
  have h1 : Within _ _ s x0 := within_setEvt (within_put h)
  exact within_ite (within_capture h) (within_ite (within_ite (within_mk h1) h1) h)

theorem within_setHwd {a0 : Nat} (hG : [0x02, 0x04, 0x09, 0x51] ⊆ G := by decide) (hQ : [.link, .intc, .jr] ⊆ Q := by decide) :
    Within G Q s0 (setHwd a0 s) := by
  refine k.step hG hQ (within_start fun h => ?_)
  unfold setHwd
  extract_lets x0
  exact within_ite h (within_raiseH (within_put h))

theorem within_fReleased (hQ : [.wdog] ⊆ Q := by decide) : Within G Q s0 (fReleased s) := by
  refine k.step (List.nil_subset G) hQ (within_start fun h => ?_)
  unfold fReleased
  extract_lets x0
  exact within_mk h

theorem within_hwdkickWrite {a0 : Word} (hG : [0x02, 0x04, 0x09, 0x51] ⊆ G := by decide)
    (hQ : [.link, .wdog, .intc, .jr] ⊆ Q := by decide) : Within G Q s0 (hwdkickWrite a0 s) := by
  refine k.step hG hQ (within_start fun h => ?_)
  unfold hwdkickWrite
  extract_lets x0 x1 x3 x5
  have h2 : Within _ _ s x1 := within_mk h
  have h4 : Within _ _ s x3 := within_setHwd h2
  exact within_ite (within_capture h) (within_ite h2 (within_ite (within_fReleased h4) (within_mk h4)))

theorem within_watchdogExpiry (hG : [0x02, 0x04, 0x09, 0x51] ⊆ G := by decide) (hQ : [.link, .wdog, .intc, .jr] ⊆ Q := by decide) :
    Within G Q s0 (watchdogExpiry s) := by
  refine k.step hG hQ (within_start fun h => ?_)
  unfold watchdogExpiry
  extract_lets x0 x1 x2 x4 x6 x7 x9
  have h3 : Within _ _ s x2 := within_raiseH (within_setEvt (within_count (within_mk h)))
  have h5 : Within _ _ s x4 := within_setHwd h3
  have h8 : Within _ _ s x7 := within_mk h5
  clear_value x7
  exact within_ite h (within_ite h3 (within_ite (within_mk h8) h8))

theorem within_startFall {a0 : Rat} {a1 : Bool} (hQ : [.wdog] ⊆ Q := by decide) : Within G Q s0 (startFall a0 a1 s) := by
  refine k.step (List.nil_subset G) hQ (within_start fun h => ?_)
  unfold startFall
  extract_lets x0
  exact within_mk h

theorem within_fWatchdogAlone (hQ : [.wdog] ⊆ Q := by decide) : Within G Q s0 (fWatchdogAlone s) := by
  refine k.step (List.nil_subset G) hQ (within_start fun h => ?_)
  unfold fWatchdogAlone
  extract_lets x0 x1 x2 x3 x5
  have h4 : Within _ _ s x3 := within_mk h
  exact within_ite (within_ite (within_mk h4) (within_startFall h4)) h

theorem within_watchdogRampEnd (hQ : [.pwr, .wdog] ⊆ Q := by decide) : Within G Q s0 (watchdogRampEnd s) := by
  refine k.step (List.nil_subset G) hQ (within_start fun h => ?_)
  unfold watchdogRampEnd
  extract_lets x0 x1
  have h2 : Within _ _ s x1 := within_mk h
  exact within_ite h (within_ite (within_ite h (within_ite (within_assertOpen h2) h2)) (within_ite h (within_mk h)))

theorem within_selvSwap {a0 : Bool} (hG : [0x00, 0x02, 0x09, 0x51] ⊆ G := by decide) (hQ : [.link, .intc, .selv] ⊆ Q := by decide) :
    Within G Q s0 (selvSwap a0 s) := by
  refine k.step hG hQ (within_start fun h => ?_)
  unfold selvSwap
  split
  · exact h
  · exact within_setEvt (within_put (within_putB (within_put (within_put (within_mk h)))))

theorem within_sendRead {a0 : Via} {a1 : Nat} {a2 : Nat} {a3 : Nat} (hQ : [.link] ⊆ Q := by decide) :
    Within G Q s0 (sendRead a0 a1 a2 a3 s) := by
  refine k.step (List.nil_subset G) hQ (within_start fun h => ?_)
  unfold sendRead
  extract_lets x0 x1
  exact within_toF (within_mk h)

theorem within_dropSpiReads (hQ : [.link] ⊆ Q := by decide) : Within G Q s0 (dropSpiReads s) := by
  refine k.step (List.nil_subset G) hQ (within_start fun h => ?_)
  unfold dropSpiReads
  extract_lets x0
  exact within_mk h

end

theorem frame_execPermitEdge {s t : State} {a0 : Nat} (he : execPermitEdge a0 s = .next t) :
    Within ([0x51]) [.permit] s t := by
  refine within_run (fun s => within_start fun h => ?_) he
  exact within_permitEdge h

theorem frame_execPermitTimeout {s t : State} (he : execPermitTimeout s = .next t) :
    Within ([0x02, 0x09, 0x51] ++ ringPages) [.pwr, .link, .permit, .intc, .twin] s t := by
  refine within_run (fun s => within_start fun h => ?_) he
  exact within_permitTimeout h

theorem frame_execReopen {s t : State} (he : execReopen s = .next t) :
    Within ([0x02, 0x04, 0x09, 0x51]) [.pwr, .link, .permit, .intc, .jr] s t := by
  refine within_run (fun s => within_start fun h => ?_) he
  exact within_reopenWrite h

theorem frame_execHwdkick {s t : State} {a0 : Word} (he : execHwdkick a0 s = .next t) :
    Within ([0x02, 0x04, 0x09, 0x51]) [.link, .wdog, .intc, .jr] s t := by
  refine within_run (fun s => within_start fun h => ?_) he
  exact within_hwdkickWrite h

theorem frame_execWatchdogExpiry {s t : State} (he : execWatchdogExpiry s = .next t) :
    Within ([0x02, 0x04, 0x09, 0x51]) [.link, .wdog, .intc, .jr] s t := by
  refine within_run (fun s => within_start fun h => ?_) he
  exact within_watchdogExpiry h

theorem frame_execWatchdogRampEnd {s t : State} (he : execWatchdogRampEnd s = .next t) :
    Within ([]) [.pwr, .wdog] s t := by
  refine within_run (fun s => within_start fun h => ?_) he
  exact within_watchdogRampEnd h

end Sys2Proof.Machine
end

section
/-! SUPPORT. Frames: the shuttle link and start-up. -/

namespace Sys2Proof.Machine

set_option Elab.async false

section
variable {G : List Nat} {Q : List Part} {s0 s : State} (k : Within G Q s0 s)
include k

theorem within_modTo {a0 : Bool} {a1 : Dir → Dir} (hQ : [.link] ⊆ Q := by decide) : Within G Q s0 (modTo a0 a1 s) := by
  refine k.step (List.nil_subset G) hQ (within_start fun h => ?_)
  unfold modTo
  split
  · exact within_mk h
  · exact within_mk h

theorem within_linkDown (hG : [0x02, 0x03, 0x04, 0x06, 0x09, 0x12, 0x21, 0x51] ⊆ G := by decide)
    (hQ : [.link, .host, .wdog, .intc, .jr, .s0, .svc, .sec] ⊆ Q := by decide) : Within G Q s0 (linkDown s) := by
  refine k.step hG hQ (within_start fun h => ?_)
  unfold linkDown
  split
  · exact h
  · extract_lets _ _ _ _ _ _ _ _ s1 s2 s3 s4 s5
    have h1 : Within _ _ s s1 := within_mk h
    have h3 : Within _ _ s s3 := within_foldl (within_put (within_put (within_put (within_put h1)))) fun _ _ k => within_backlogPut k
    have h5 : Within _ _ s s5 := within_foldl (within_foldl h3 fun _ _ k => within_failRead k) fun _ _ k => within_irqDropped (within_dropWrite k)
    exact within_fWatchdogAlone (within_setEvt (within_count h5))

theorem within_linkLost (hG : [0x00, 0x02, 0x03, 0x04, 0x06, 0x09, 0x12, 0x21, 0x51] ⊆ G := by decide)
    (hQ : [.link, .host, .wdog, .intc, .jr, .selv, .s0, .svc, .sec] ⊆ Q := by decide) : Within G Q s0 (linkLost s) := by
  refine k.step hG hQ (within_start fun h => ?_)
  unfold linkLost
  extract_lets x0
  exact within_ite (within_selvSwap (within_linkDown (within_mk h))) h

theorem within_issueRingCert (hG : [0x06] ⊆ G := by decide) (hQ : [.sec] ⊆ Q := by decide) : Within G Q s0 (issueRingCert s) :=
  k.step hG hQ (within_start fun h => within_ite (by split; rename_i w0 t1 q2; exact (fun k3 => (by extract_lets x4; exact (by split; rename_i w5 t6 q7; exact (fun k8 => (by split; rename_i w9 t10 q11; exact (fun k12 => (by extract_lets x13 x14 x16; have h15 : Within _ _ s x14 := (within_put k12); exact (within_mk h15))) (within_snd (within_freeWord k8) q11))) (within_snd (within_freeWords k3) q7)))) (within_snd (within_freeWord h) q2)) h)

theorem within_askReplay {a0 : Bool} (hG : [0x02, 0x03, 0x09, 0x51] ⊆ G := by decide) (hQ : [.link, .intc] ⊆ Q := by decide) :
    Within G Q s0 (askReplay a0 s) := by
  refine k.step hG hQ (within_start fun h => ?_)
  unfold askReplay
  extract_lets x0 x1 x2
  have hp : rxPage a0 = 0x003 ∨ rxPage a0 = 0x051 := rxPage_cases a0
  have h3 : Within _ _ s x2 := within_modTo h
  exact within_setEvt (within_modTo h3)

theorem within_askIfGap {a0 : Bool} (hG : [0x02, 0x03, 0x09, 0x51] ⊆ G := by decide) (hQ : [.link, .intc] ⊆ Q := by decide) :
    Within G Q s0 (askIfGap a0 s) := by
  refine k.step hG hQ (within_start fun h => ?_)
  unfold askIfGap
  extract_lets x0
  exact within_ite (within_askReplay h) h

theorem within_channelOut {a0 : Bool} {a1 : Nat} (hG : [0x00, 0x02, 0x03, 0x04, 0x06, 0x09, 0x12, 0x21, 0x51] ⊆ G := by decide)
    (hQ : [.link, .host, .wdog, .intc, .jr, .selv, .s0, .svc, .sec] ⊆ Q := by decide) : Within G Q s0 (channelOut a0 a1 s) := by
  refine k.step hG hQ (within_start fun h => ?_)
  unfold channelOut
  extract_lets x0 x2 x4 x6
  have hp : rxPage a0 = 0x003 ∨ rxPage a0 = 0x051 := rxPage_cases a0
  have hq : (rxFld a0 a1).addr / 0x1000 = rxPage a0 := page_rxFld a0 a1
  have h1 : Within _ _ s x0 := within_modTo h
  have h3 : Within _ _ s x2 := within_put h1
  have h5 : Within _ _ s x4 := within_setEvt (within_ite (within_count h3) h3)
  exact within_ite h (within_ite (within_linkLost h5) (within_askIfGap h5))

theorem within_trainPcie (hG : [0x09] ⊆ G := by decide) : Within G Q s0 (trainPcie s) := by
  refine k.step hG (List.nil_subset Q) (within_start fun h => ?_)
  unfold trainPcie
  split
  rename_i w0 t1 q2
  exact (fun k3 => (by split; rename_i w4 t5 q6; exact (fun k7 => (within_put (within_put (within_put k7)))) (within_snd (within_freeWord k3) q6))) (within_snd (within_freeWord h) q2)

theorem within_hDieRelease (hG : [0x02, 0x04, 0x06, 0x07, 0x09, 0x20, 0x51] ⊆ G := by decide)
    (hQ : [.pwr, .link, .intc, .jr, .porter] ⊆ Q := by decide) : Within G Q s0 (hDieRelease s) := by
  refine k.step hG hQ (within_start fun h => ?_)
  unfold hDieRelease
  extract_lets x0 x1
  have h2 : Within _ _ s x1 := within_compareMirror (within_loadFuses (within_mk h))
  exact within_ite h (within_ite h2 (within_trainPcie h2))

theorem within_rampProfile (hG : [0x7D] ⊆ G := by decide) : Within G Q s0 (rampProfile s) := by
  refine k.step hG (List.nil_subset Q) (within_start fun h => ?_)
  unfold rampProfile
  extract_lets x0
  exact within_setRaw (within_putB h)

theorem within_pllUnlock {a0 : Bool} (hG : [0x02, 0x09, 0x41, 0x50, 0x51, 0x7D] ++ ringPages ⊆ G := by decide)
    (hQ : [.pwr, .link, .intc, .warp, .weave] ⊆ Q := by decide) : Within G Q s0 (pllUnlock a0 s) := by
  refine k.step hG hQ (within_start fun h => ?_)
  unfold pllUnlock
  extract_lets x0 x2 x4 x6 x11 x13 x14 x15
  have h1 : Within _ _ s x0 := within_blockActions (within_put h)
  have h3 : Within _ _ s x2 := within_put (within_put h1) page_ite
  have h5 : Within _ _ s x4 := within_raiseF (within_setEvt h3)
  have h7 : Within _ _ s x6 := within_foldl_range h5 fun _ _ _ k10 => (within_put k10)
  have h12 : Within _ _ s x11 := within_put h7
  exact within_ite h (within_mk h12)

theorem within_sdLoss {a0 : Fld} {a1 : Nat} (ha : a0.addr / 0x1000 = 0x7D := by decide) (hG : [0x02, 0x09, 0x51, 0x7D] ⊆ G := by decide)
    (hQ : [.link, .intc] ⊆ Q := by decide) : Within G Q s0 (sdLoss a0 a1 s) :=
  k.step hG hQ (within_start fun h => within_ite h (within_raiseF (within_setEvt (within_count (within_put h)))))

end

theorem frame_execSpiStatus {s t : State} (he : execSpiStatus s = .next t) :
    Within ([]) [.link, .host] s t := by
  refine within_run (fun s => within_start fun h => ?_) he
  extract_lets x0 x2
  have h1 : Within _ _ s x0 := within_dropSpiReads h
  exact within_ite h (within_spiAnswer (within_mk h1))

theorem frame_execSpiInvalidCommand {s t : State} {a0 : Nat} (he : execSpiInvalidCommand a0 s = .next t) :
    Within ([]) [.link, .host] s t := by
  refine within_run (fun s => within_start fun h => ?_) he
  extract_lets x0 x2
  have h1 : Within _ _ s x0 := within_dropSpiReads h
  exact within_ite h (within_mk h1)

theorem frame_execSpiStatusDeadline {s t : State} (he : execSpiStatusDeadline s = .next t) :
    Within ([]) [.link, .host] s t := by
  refine within_run (fun s => within_start fun h => ?_) he
  split
  exacts [(by extract_lets x0; exact (within_ite h (within_spiAnswer (within_dropSpiReads (within_mk h))))), h]

theorem frame_execSpiCsRise {s t : State} (he : execSpiCsRise s = .next t) :
    Within ([0x09]) [.link, .host] s t := by
  refine within_run (fun s => within_start fun h => ?_) he
  extract_lets x0 x1 x3 x5
  have h2 : Within _ _ s x1 := within_mk h
  have h4 : Within _ _ s x3 := within_count h2
  exact within_ite (within_dropSpiReads (within_mk h4)) h2

theorem frame_execHDieResetRelease {s t : State} (he : execHDieResetRelease s = .next t) :
    Within ([0x02, 0x04, 0x06, 0x07, 0x09, 0x20, 0x51]) [.pwr, .link, .intc, .jr, .porter] s t := by
  refine within_run (fun s => within_start fun h => ?_) he
  exact within_hDieRelease h

theorem frame_execHFirmwareStart {s t : State} (he : execHFirmwareStart s = .next t) :
    Within ([0x00, 0x02, 0x04, 0x06, 0x07, 0x09, 0x14, 0x15, 0x20, 0x51]) [.pwr, .link, .wdog, .intc, .jr, .porter, .safety, .sec] s t := by
  refine within_run (fun s => within_start fun h => ?_) he
  exact within_ite (within_issueRingCert (within_hStart h)) h

theorem frame_execFDieResetRelease {s t : State} (he : execFDieResetRelease s = .next t) :
    Within ([0x7D]) [.pwr] s t := by
  refine within_run (fun s => within_start fun h => ?_) he
  extract_lets x0
  exact within_ite h (within_rampProfile (within_mk h))

theorem frame_execPllStep {s t : State} (he : execPllStep s = .next t) :
    Within ([0x7D]) [.pwr] s t := by
  refine within_run (fun s => within_start fun h => ?_) he
  extract_lets x0 x1 x3 x4
  have h2 : Within _ _ s x1 := within_put h
  have h5 : Within _ _ s x4 := within_mk h2
  exact within_ite h (within_ite (by split; rename_i w6 t7 q8; exact (fun k9 => (within_put k9)) (within_snd (within_freeWord h5) q8)) h5)

theorem frame_execPllStepTimeout {s t : State} (he : execPllStepTimeout s = .next t) :
    Within ([0x02, 0x09, 0x51, 0x7D]) [.pwr, .link, .intc] s t := by
  refine within_run (fun s => within_start fun h => ?_) he
  extract_lets x0 x1 x2 x4 x5
  have h3 : Within _ _ s x2 := within_put h
  have h6 : Within _ _ s x5 := within_mk h3
  exact within_ite h (within_ite (within_put h6) (within_raiseF (within_setEvt (within_put h6))))

theorem frame_execPllLock {s t : State} (he : execPllLock s = .next t) :
    Within ([0x02, 0x06, 0x09, 0x40, 0x51, 0x7D]) [.pwr, .link, .intc, .warp, .sec] s t := by
  refine within_run (fun s => within_start fun h => ?_) he
  exact within_ite h (by split; rename_i w0 t1 q2; exact (fun k3 => (by extract_lets x4 x6; have h5 : Within _ _ s x4 := (within_put (within_put (within_put k3))); exact (within_issueRingCert (within_warpStart (within_mk h5))))) (within_snd (within_freeWord h) q2))

theorem frame_execPllUnlock {s t : State} {a0 : Bool} (he : execPllUnlock a0 s = .next t) :
    Within ([0x02, 0x09, 0x41, 0x50, 0x51, 0x7D] ++ ringPages) [.pwr, .link, .intc, .warp, .weave] s t := by
  refine within_run (fun s => within_start fun h => ?_) he
  exact within_pllUnlock h

theorem frame_execLanePllLoss {s t : State} {a0 : Nat} (hk : a0 < 6 := by omega) (he : execLanePllLoss a0 s = .next t) :
    Within ([0x02, 0x09, 0x51, 0x7D, 0x100] ++ ringPages) [.link, .intc, .cells, .ring, .twin, .edge] s t := by
  refine within_run (fun s => within_start fun h => ?_) he
  exact within_ite (within_laneLost (within_sdLoss h (page_sdlock a0))) h

theorem frame_execShuttlePllLoss {s t : State} {a0 : Bool} (hs : s.svc.held = []) (he : execShuttlePllLoss a0 s = .next t) :
    Within [0x00, 0x02, 0x03, 0x04, 0x06, 0x09, 0x12, 0x21, 0x51, 0x52, 0x7D]
      [.link, .host, .wdog, .intc, .jr, .selv, .s0, .svc, .sec] s t := by
  unfold execShuttlePllLoss at he
  rw [runS_idle hs fun s0 s k => kept_channelOut (kept_channelOut (kept_ite (kept_sdLoss k) (kept_raiseF (kept_setEvt k))))] at he
  refine within_run (fun s => within_start fun h => ?_) he
  exact within_channelOut (within_channelOut (within_ite (within_sdLoss h) (within_raiseF (within_setEvt h))))

end Sys2Proof.Machine
end

