-- ==== Sys2Proof/Proofs/LoomIssue.lean ====
section
/-! SUPPORT. What one operation alone in a bundle does to its engine: it executes, the next bundle is found, and what is due lands. -/

open Sys2Proof Sys2Proof.Machine

namespace Sys2Proof.Machine

set_option Elab.async false

/-! ### Changing one engine -/

theorem engAt_modEng {k : Nat} {s : State} (hk : k < s.loom.length) (f : Eng → Eng) : engAt (modEng k f s) k = f (engAt s k) := by
  have hk' : k < (s.loom.modify k f).length := by rwa [List.length_modify]
  rw [engAt, engAt, List.getD_eq_getElem _ _ hk]
  exact (List.getD_eq_getElem _ _ hk').trans (List.getElem_modify_eq _ _ _ _)

theorem length_loom_modEng (k : Nat) (f : Eng → Eng) (s : State) : (modEng k f s).loom.length = s.loom.length := List.length_modify _ _ _

theorem modEng_modEng (k : Nat) (f g : Eng → Eng) (s : State) : modEng k g (modEng k f s) = modEng k (fun e => g (f e)) s := by
  simp only [modEng, List.modify_modify_eq]
  rfl

/-- Two changes of an engine that answer the same for it as it stands are one. -/
theorem modEng_congr {k : Nat} {s : State} (hk : k < s.loom.length) {f g : Eng → Eng} (h : f (engAt s k) = g (engAt s k)) : modEng k f s = modEng k g s := by
  rw [engAt, List.getD_eq_getElem _ _ hk] at h
  have hset (f : Eng → Eng) : s.loom.modify k f = s.loom.set k (f s.loom[k]) := by
    rw [List.modify_eq_set_getElem?, List.getElem?_eq_getElem hk]
    rfl
  rw [modEng, modEng, hset, hset, h]

theorem modEng_id {k : Nat} {s : State} (hk : k < s.loom.length) {f : Eng → Eng} (h : f (engAt s k) = engAt s k) : modEng k f s = s := by
  rw [modEng_congr (g := id) hk h, modEng, List.modify_id]

/-! ### Words without errors -/

theorem eccReads_of_good {k mem : Nat} {l : List (Nat × Nat)} (h : ∀ x ∈ l, x.2 = 0) (s : State) : eccReads k mem l s = s := by
  have hnone : l.filter (·.2 == 1) = [] := List.filter_eq_nil_iff.2 fun x hx => by rw [h x hx]; decide
  rw [eccReads, hnone, List.foldl_nil]

theorem find_uncorrectable_of_good {l : List (Nat × Nat)} (h : ∀ x ∈ l, x.2 = 0) : l.find? (·.2 == 2) = none :=
  List.find?_eq_none.2 fun x hx => by rw [h x hx]; decide

theorem fetchReads_good (s : State) (e : Eng) : ∀ x ∈ fetchReads s e [], x.2 = 0 := by
  intro x hx
  obtain ⟨i, -, rfl⟩ := List.mem_map.1 hx
  rfl

theorem readsOf_good (op : OpName) (i : Issue) : ∀ x ∈ readsOf op [] i, x.2 = 0 := by
  intro x hx
  obtain ⟨i, -, rfl⟩ := List.mem_map.1 hx
  rfl

theorem loadChecks_of_good (k : Nat) (e : Eng) (at0 : Attr) (op : OpName) (w : SlotWord) (s : State) : loadChecks k e at0 ⟨op, w, []⟩ s = s := by
  rw [loadChecks, eccReads_of_good (readsOf_good _ _), ite_self]

theorem loadTo_of_good {i : Issue} {lat mem : Nat} {read : List (Nat × Nat)} (h : ∀ x ∈ read, x.2 = 0) (dst : List (Nat × Word)) (e : Eng) :
    loadTo i lat mem read dst e = dst.foldl (fun e r => fly i lat (.g r.1) r.2.toNat 0 e) e := by
  rw [loadTo, find_uncorrectable_of_good h]

/-! ### The bundle -/

/-- The engine with the words that have come to its bundle. -/
def withBundle (b : List SlotOp) (e : Eng) : Eng := { e with bundle := b }

/-- What an operation alone in its bundle leaves in the engine `e` at issue: the operation's effect, then the next bundle, one loom clock later. -/
def issued (s : State) (k : Nat) (op : OpName) (w : SlotWord) (e : Eng) : Eng :=
  let x := opSem s k ⟨op, w, []⟩ (seen s k w) e
  { (if isLoop op then x else { x with pc := (e.pc + 1) % 8192 }) with lc := e.lc + 1, now := e.now + 1, lastAttr := some (attrOf e) }

theorem recipOut_congr {i j : Issue} (hga : i.ga = j.ga) (hmode : i.mode = j.mode) (root neg : Bool) : recipOut root i neg = recipOut root j neg := by
  funext m e
  simp only [recipOut, hga, hmode]

/-- FRSQ sees its operand and MODE. -/
theorem frsqOf_congr {i j : Issue} (hga : i.ga = j.ga) (hmode : i.mode = j.mode) : frsqOf i = frsqOf j := by
  unfold frsqOf
  rw [recipOut_congr hga hmode, hga, hmode]

theorem opSem_frsq (s : State) (k : Nat) (w : SlotWord) (ecc : List Nat) (i : Issue) (x : Eng) :
    opSem s k ⟨.frsq, w, ecc⟩ i x = toGF i 8 (frsqOf i) x := rfl

/-- An operation does not see the words that have come to its bundle, nor what its engine does otherwise. -/
theorem opSem_bundle (s : State) (k : Nat) (op : OpName) (w : SlotWord) (ecc : List Nat) (e : Eng) (b : List SlotOp) (a : Attr) (x : Eng)
    (f : Eng → Eng) : opSem (modEng k f s) k ⟨op, w, ecc⟩ ⟨withBundle b e, w, a⟩ x = opSem s k ⟨op, w, ecc⟩ ⟨e, w, a⟩ x := by
  cases op with
  | frsq =>
    have h : frsqOf ⟨withBundle b e, w, a⟩ = frsqOf ⟨e, w, a⟩ := frsqOf_congr rfl rfl
    rw [opSem_frsq, opSem_frsq, h]
    generalize frsqOf ⟨e, w, a⟩ = r
    rfl
  | _ => rfl

theorem loops_loadTo (i : Issue) (lat mem : Nat) (read : List (Nat × Nat)) (dst : List (Nat × Word)) (x : Eng) :
    (loadTo i lat mem read dst x).loops = x.loops := by
  rw [loadTo]
  split
  · rfl
  · induction dst generalizing x with
    | nil => rfl
    | cons r rs ih => exact ih _

theorem loops_ctlWrite (i : Issue) (n : Nat) (v : Word) (x : Eng) : (ctlWrite i n v x).loops = x.loops := by
  rw [ctlWrite]
  split
  · rw [Eng.setShadow]
    split <;> rfl
  · split
    · rfl
    · rw [Eng.setLnk]
      split <;> rfl

theorem loops_semCall (i : Issue) (x : Eng) : (semCall i x).loops = x.loops := by
  rw [semCall]
  split
  · rw [Eng.setLnk]
    split <;> rfl
  · rfl

/-- Operations that are not loops leave the loop stack alone. -/
theorem opSem_loops (s : State) (k : Nat) {o : SlotOp} (i : Issue) (x : Eng) (h : isLoop o.op = false) : (opSem s k o i x).loops = x.loops := by
  obtain ⟨op, w, ecc⟩ := o
  cases op with
  | loopi | loopr => exact absurd h Bool.noConfusion
  | ldw | ldd | ldx | lda | ldaw | lds | ldp | ldr | ldb => exact loops_loadTo _ _ _ _ _ _
  | cwr | cwi => exact loops_ctlWrite _ _ _ _
  | call => exact loops_semCall _ _
  | _ => rfl

/-! ### The parts of `issueBundle` do not see the bundle -/

theorem attrOf_bundle (e : Eng) (b : List SlotOp) : attrOf (withBundle b e) = attrOf e := rfl

theorem illegalSub_bundle (s : State) (k : Nat) (f : Eng → Eng) (e : Eng) (b : List SlotOp) (n : Nat) (ops : List SlotOp) :
    illegalSub (modEng k f s) (withBundle b e) n ops = illegalSub s e n ops := rfl

theorem contractCheck_bundle (s : State) (k c : Nat) (f : Eng → Eng) (step : Bool) (e : Eng) (b : List SlotOp) (ops : List SlotOp) :
    contractCheck (modEng k f s) c step (withBundle b e) ops = contractCheck s c step e ops := rfl

/-- The bundle of the one word is that word's operation, or nothing for a NOP. -/
theorem comes_eq {s : State} {k : Nat} {op : OpName} {w : SlotWord} (h : fetchOps s (engAt s k) = if op = .nop then [] else [(op, w)]) :
    comes s k op w = if op = .nop then [] else [⟨op, w, []⟩] := by
  rw [comes, bundleOps]
  change sortBy _ ((fetchOps s (engAt s k)).map _) = _
  rw [h]
  split
  · rfl
  · simp [sortBy, insertBy]

/-- What the bundle's check leaves: its operation's guard is true. -/
theorem guardOf_bundle (e : Eng) (b : List SlotOp) (w : SlotWord) : guardOf (withBundle b e) w = guardOf e w := rfl

theorem codeLen_modEng (k c : Nat) (f : Eng → Eng) (s : State) (e : Eng) (b : List SlotOp) :
    codeLen (modEng k f s) c (withBundle b e) = codeLen s c e := rfl

theorem countShadow_none {e : Eng} (h : e.shadow = none) : countShadow e = e := by
  simp only [countShadow, h]

theorem nextBundle_of_no_branch {ops : List SlotOp} {e0 e : Eng} (hb : e0.branch = none)
    (h : ops.any (fun o => isLoop o.op && guardOf e0 o.w) = false) (hl : e.loops = []) :
    nextBundle ops e0 e = { e with pc := (e0.pc + 1) % 8192 } := by
  rw [nextBundle, hb]
  simp only [h, Bool.false_eq_true, if_false, hl, List.reverse_nil, loopEnd]

theorem nextBundle_of_loop {ops : List SlotOp} {e0 e : Eng} (hb : e0.branch = none)
    (h : ops.any (fun o => isLoop o.op && guardOf e0 o.w) = true) : nextBundle ops e0 e = e := by
  rw [nextBundle, hb]
  simp only [h, if_true]

/-- The engine after the operations of its bundle have executed. -/
def executed (s : State) (k : Nat) (e : Eng) (ops : List SlotOp) : Eng :=
  ops.foldl (fun a o => if guardOf e o.w || isBranch o.op || o.op == .endm then opSem s k o ⟨e, o.w, attrOf e⟩ a else a) (countShadow (withBundle [] e))

/-- The engine one loom clock after it issued a bundle. -/
def ticked (e0 e : Eng) : Eng := { e with lc := e0.lc + 1, now := e0.now + 1, lastAttr := some (attrOf e0) }

/-- A bundle that breaks no rule and fails no check, of words without errors, issues on an engine that votes. -/
theorem issueBundle_good {s : State} {k : Nat} {e : Eng} {ops : List SlotOp} (he : engAt s k = e) (hops : bundleOps s e = ops)
    (hst : s.get (LOOM_STAT_STATE k) = 1) (hsub : illegalSub s e (codeLen s (k / 3) e) ops = 0) (hchk : contractCheck s (k / 3) false e ops = 0) :
    issueBundle k [] none s =
      landDue k (ops.foldl (fun s o => loadChecks k e (attrOf e) o s) (modEng k (fun _ => ticked e (nextBundle ops e (executed s k e ops))) s)) := by
  have hstep : s.get (LOOM_STAT_STATE k) = 5 ↔ False := by rw [hst]; decide
  unfold issueBundle
  simp only [he, hops, eccReads_of_good (fetchReads_good _ _), find_uncorrectable_of_good (fetchReads_good _ _), hstep, if_false, decide_false,
    hsub, hchk, bne_self_eq_false, Bool.false_eq_true]
  rfl

theorem withBundle_withBundle (b c : List SlotOp) (e : Eng) : withBundle b (withBundle c e) = withBundle b e := rfl

theorem withBundle_of_eq {b : List SlotOp} {e : Eng} (h : e.bundle = b) : withBundle b e = e := by
  subst h
  rfl

theorem ticked_withBundle (b : List SlotOp) (e0 e : Eng) : ticked (withBundle b e0) e = ticked e0 e := rfl

theorem issued_eq (s : State) (k : Nat) (op : OpName) (w : SlotWord) (e : Eng) : issued s k op w e =
    ticked e (if isLoop op then opSem s k ⟨op, w, []⟩ (seen s k w) e else { opSem s k ⟨op, w, []⟩ (seen s k w) e with pc := (e.pc + 1) % 8192 }) := rfl

/-- The one word of a bundle, complete, issues it. -/
theorem slotIn_alone {s : State} {k : Nat} {op : OpName} {w : SlotWord} (h : Alone s k op w) :
    slotIn k op w ⟨true, [], [], none⟩ s = landDue k (modEng k (issued s k op w) s) := by
  obtain ⟨⟨hk, hlen, hst, hrun, hlc⟩, hfetch, hend, ⟨hbun, hfl, hbr, hsh, hloops⟩, -, hguard, hsub, hchk⟩ := h
  have hiss : issues s k = true := by simp [issues, hst, hrun, hlc]
  have hholds : holdsOp s (engAt s k) op w = true := by
    by_cases hnop : op = .nop
    · rw [holdsOp, hfetch, hnop]
      rfl
    · by_cases hendm : op = .endm
      · rw [holdsOp, hfetch, if_neg hnop, hend hendm]
        simp [hendm]
      · rw [holdsOp, hfetch, if_neg hnop]
        simp [hnop, hendm]
  have hjoin (keep : SlotOp → Bool) : modEng k (fun e => withBundle (e.bundle.filter keep ++ [⟨op, w, []⟩]) e) s =
      modEng k (withBundle [⟨op, w, []⟩]) s := modEng_congr hlen (by rw [hbun]; rfl)
  have hcome := comes_eq hfetch
  rw [slotIn, hiss, hholds, if_neg (by decide)]
  refine (if_pos rfl).trans ?_
  refine (congr_arg (issueBundle k [] none) (hjoin _)).trans ?_
  have hops : bundleOps (modEng k (withBundle [⟨op, w, []⟩]) s) (withBundle [⟨op, w, []⟩] (engAt s k)) = comes s k op w := rfl
  rw [issueBundle_good (engAt_modEng hlen (withBundle [⟨op, w, []⟩])) hops hst hsub hchk, modEng_modEng, hcome]
  have hbr' : (withBundle [⟨op, w, []⟩] (engAt s k)).branch = none := hbr
  by_cases hnop : op = .nop
  · rw [if_pos hnop, List.foldl_nil]
    congr 1
    refine modEng_congr hlen ?_
    have hexec : executed (modEng k (withBundle [⟨op, w, []⟩]) s) k (withBundle [⟨op, w, []⟩] (engAt s k)) [] = engAt s k := by
      rw [executed, List.foldl_nil, withBundle_withBundle, withBundle_of_eq hbun, countShadow_none hsh]
    rw [hexec, nextBundle_of_no_branch hbr' rfl hloops, ticked_withBundle, issued_eq, hnop]
    rfl
  · rw [if_neg hnop, List.foldl_cons, List.foldl_nil, loadChecks_of_good]
    congr 1
    refine modEng_congr hlen ?_
    have hguard' : guardOf (withBundle [⟨op, w, []⟩] (engAt s k)) w = true := hguard
    have hexec : executed (modEng k (withBundle [⟨op, w, []⟩]) s) k (withBundle [⟨op, w, []⟩] (engAt s k)) [⟨op, w, []⟩] =
        opSem s k ⟨op, w, []⟩ (seen s k w) (engAt s k) := by
      rw [executed, List.foldl_cons, List.foldl_nil, withBundle_withBundle, withBundle_of_eq hbun, countShadow_none hsh, attrOf_bundle, opSem_bundle,
        guardOf_bundle, hguard]
      rfl
    rw [hexec, issued_eq, ticked_withBundle]
    congr 1
    cases hloop : isLoop op with
    | true => exact nextBundle_of_loop hbr' (by rw [List.any_cons, hguard', hloop]; rfl)
    | false =>
      exact nextBundle_of_no_branch hbr' (by rw [List.any_cons, hloop]; rfl)
        ((opSem_loops s k (o := ⟨op, w, []⟩) (seen s k w) (engAt s k) hloop).trans hloops)

end Sys2Proof.Machine
end

