-- ==== Sys2Proof/Proofs/LoomResults.lean ====
section
/-! SUPPORT. Results that land: the one result in flight of an operation alone in its bundle, at once or later. -/

open Sys2Proof Sys2Proof.Machine

namespace Sys2Proof.Machine

set_option Elab.async false

theorem flagEvents_zero (k : Nat) (bg : Bool) (s : State) : flagEvents k bg 0 s = s := by
  have hstep (en : Nat) (t : State) (b : Nat) : (if (0 &&& en).testBit b then
      raiseF (20 + k) 3 (b + 16 * bit bg) (setEvt (0x44 + k) (if bg then 4 else 2) t) else t) = t := by
    rw [Nat.zero_and, Nat.zero_testBit, if_neg Bool.false_ne_true]
  rw [flagEvents]
  simp only [hstep, List.foldl_fixed]

/-- The engine without its results in flight. -/
def landed (e : Eng) : Eng := { e with flight := [] }

/-- Nothing lands where nothing is due. -/
theorem landDue_of_not_due {k : Nat} {s : State} (hk : k < s.loom.length) (h : ∀ f ∈ (engAt s k).flight, landsBy (engAt s k).now f = false) :
    landDue k s = s := by
  have hdue : (engAt s k).flight.filter (landsBy (engAt s k).now) = [] := List.filter_eq_nil_iff.2 fun f hf => by rw [h f hf]; decide
  have hkeep : (engAt s k).flight.filter (fun f => !landsBy (engAt s k).now f) = (engAt s k).flight :=
    List.filter_eq_self.2 fun f hf => by rw [h f hf]; decide
  rw [landDue]
  simp only [hdue, sortBy, List.foldl_nil]
  exact modEng_id hk (by simp only [hkeep])

/-- The one result in flight, due, lands. -/
theorem landDue_of_due {k : Nat} {s : State} {f : Flight} (hk : k < s.loom.length) (hfl : (engAt s k).flight = [f])
    (hue : ∀ m a, f.dest ≠ .ue m a) (hdue : f.ready ≤ (engAt s k).now) :
    landDue k s = flagEvents k f.bg (landOne f (landed (engAt s k))).1 (modEng k (fun e => (landOne f (landed e)).2) s) := by
  have hby : landsBy (engAt s k).now f = true := by
    rw [landsBy]
    split
    · exact absurd ‹_› (hue _ _)
    · exact decide_eq_true hdue
  have hs1 : modEng k (fun e => { e with flight := e.flight.filter fun f => !landsBy e.now f }) s = modEng k landed s :=
    modEng_congr hk (by simp only [hfl, List.filter_cons, hby, Bool.not_true, Bool.false_eq_true, if_false, List.filter_nil]; rfl)
  have hone : sortBy landsBefore ((engAt s k).flight.filter (landsBy (engAt s k).now)) = [f] := by
    rw [hfl, List.filter_cons, hby]
    rfl
  have hpair : modEng k (fun _ => (landOne f (engAt (modEng k landed s) k)).2) (modEng k landed s) = modEng k (fun e => (landOne f (landed e)).2) s := by
    rw [modEng_modEng, engAt_modEng hk]
    exact modEng_congr hk rfl
  rw [landDue]
  simp only [hone, hs1, List.foldl_cons, List.foldl_nil]
  rw [hpair, engAt_modEng hk]

theorem landOne_quiet {f : Flight} (hq : f.flags = 0) (e : Eng) : (landOne f e).1 = 0 := by
  rw [landOne]
  split
  · rfl
  · rfl
  · rw [hq]
    exact Nat.zero_and _

/-- One result in flight that sets no flags, due, lands. -/
theorem landDue_of_quiet {k : Nat} {s : State} {f : Flight} (hk : k < s.loom.length) (hfl : (engAt s k).flight = [f])
    (hue : ∀ m a, f.dest ≠ .ue m a) (hdue : f.ready ≤ (engAt s k).now) (hq : f.flags = 0) :
    landDue k s = modEng k (fun e => (landOne f (landed e)).2) s := by
  rw [landDue_of_due hk hfl hue hdue, landOne_quiet hq, flagEvents_zero]

theorem capture1_zero (f : Flight) (old : Word × Word) : capture1 f 0 old = old := rfl

/-- What a result without flags leaves in its register. -/
theorem landOne_g {f : Flight} {n : Nat} (hd : f.dest = .g n) (hq : f.flags = 0) (e : Eng) : (landOne f e).2 = { e with g := e.g.set n (word f.val) } := by
  rw [landOne]
  simp only [hd, hq, Nat.zero_and, Nat.or_zero, capture1_zero]
  split <;> rfl

theorem landOne_p {f : Flight} {n : Nat} (hd : f.dest = .p n) (hn : n ≠ 0) (hq : f.flags = 0) (e : Eng) :
    (landOne f e).2 = { e with p := e.p.set n (f.val == 1) } := by
  rw [landOne]
  simp only [hd, hq, Nat.zero_and, Nat.or_zero, capture1_zero, hn, if_false]
  split <;> rfl

theorem landOne_a {f : Flight} {n : Nat} (hd : f.dest = .a n) (hq : f.flags = 0) (e : Eng) :
    (landOne f e).2 = { e with a := e.a.set n (BitVec.ofNat 72 f.val) } := by
  rw [landOne]
  simp only [hd, hq, Nat.zero_and, Nat.or_zero, capture1_zero]
  split <;> rfl

/-! ### Operations alone in their bundle, by the shape of their effect -/

/-- The engine `e` after a bundle without branch target or loop whose operation left `x`. -/
def stepped (e x : Eng) : Eng := { x with pc := (e.pc + 1) % 8192, lc := e.lc + 1, now := e.now + 1, lastAttr := some (attrOf e) }

theorem issued_of_not_loop (s : State) (k : Nat) {op : OpName} (w : SlotWord) (e : Eng) (hl : isLoop op = false) :
    issued s k op w e = stepped e (opSem s k ⟨op, w, []⟩ (seen s k w) e) := by
  rw [issued_eq, hl]
  rfl

theorem lt_of_alone {s : State} {k : Nat} {op : OpName} {w : SlotWord} (h : Alone s k op w) : k < s.loom.length := by
  obtain ⟨⟨-, hlen, -⟩, -⟩ := h
  exact hlen

theorem flight_of_alone {s : State} {k : Nat} {op : OpName} {w : SlotWord} (h : Alone s k op w) : (engAt s k).flight = [] := by
  obtain ⟨-, -, -, ⟨-, hfl, -⟩, -⟩ := h
  exact hfl

section
variable {s : State} {k : Nat} {op : OpName} {w : SlotWord}

/-- An operation of whose results in flight none is due. -/
theorem slotIn_of_not_due (h : Alone s k op w) {f : Eng → Eng} (hf : issued s k op w (engAt s k) = f (engAt s k))
    (hfl : ∀ x ∈ (f (engAt s k)).flight, landsBy (f (engAt s k)).now x = false) : slotIn k op w ⟨true, [], [], none⟩ s = modEng k f s := by
  have hlen := lt_of_alone h
  rw [slotIn_alone h, modEng_congr hlen hf, landDue_of_not_due]
  · rwa [length_loom_modEng]
  · rwa [engAt_modEng hlen]

/-- A register or flag that is ready at a later clock is not due. -/
theorem not_landsBy {now : Nat} {x : Flight} (hue : ∀ m a, x.dest ≠ .ue m a) (hlate : now < x.ready) : landsBy now x = false := by
  rw [landsBy]
  split
  · exact absurd ‹_› (hue _ _)
  · exact decide_eq_false (Nat.not_le_of_lt hlate)

/-- An operation whose result is in flight for more than one loom clock. -/
theorem slotIn_of_flight (h : Alone s k op w) {g : Eng → Eng} {lat v fl : Nat} {d : Dest} (hlat : 2 ≤ lat)
    (hf : issued s k op w (engAt s k) = stepped (engAt s k) (fly (seen s k w) lat d v fl (g (engAt s k)))) (hg : (g (engAt s k)).flight = [])
    (hue : ∀ m a, d ≠ .ue m a) :
    slotIn k op w ⟨true, [], [], none⟩ s =
      modEng k (fun e => { stepped e (g e) with flight := [⟨e.now + lat, e.now, w.slot, e.bg, d, v, fl, attrOf e⟩] }) s := by
  refine slotIn_of_not_due h (hf.trans ?_) ?_
  · rw [fly, hg]
    rfl
  · intro x hx
    obtain rfl := List.mem_singleton.1 hx
    exact not_landsBy hue (by simp only [stepped]; omega)

/-- The flight of an operation of latency 1. -/
def nextFlight (s : State) (k : Nat) (w : SlotWord) (d : Dest) (v fl : Nat) : Flight :=
  ⟨(engAt s k).now + 1, (engAt s k).now, w.slot, (engAt s k).bg, d, v, fl, attrOf (engAt s k)⟩

/-- An operation whose result the next bundle reads. -/
theorem slotIn_of_landing (h : Alone s k op w) {g : Eng → Eng} {v fl : Nat} {d : Dest}
    (hf : issued s k op w (engAt s k) = stepped (engAt s k) (fly (seen s k w) 1 d v fl (g (engAt s k)))) (hg : (g (engAt s k)).flight = [])
    (hue : ∀ m a, d ≠ .ue m a) :
    slotIn k op w ⟨true, [], [], none⟩ s = flagEvents k (engAt s k).bg (landOne (nextFlight s k w d v fl) (stepped (engAt s k) (g (engAt s k)))).1
      (modEng k (fun e => (landOne (nextFlight s k w d v fl) (stepped e (g e))).2) s) := by
  have hlen := lt_of_alone h
  have hflight : (engAt (modEng k (issued s k op w) s) k).flight = [nextFlight s k w d v fl] := by
    rw [engAt_modEng hlen, hf, fly, hg]
    rfl
  have hland : landed (issued s k op w (engAt s k)) = stepped (engAt s k) (g (engAt s k)) := by
    rw [hf, fly, landed, stepped, ← hg]
    rfl
  have hnow : (engAt (modEng k (issued s k op w) s) k).now = (engAt s k).now + 1 := by
    rw [engAt_modEng hlen, hf]
    rfl
  rw [slotIn_alone h, landDue_of_due ((length_loom_modEng ..).symm ▸ hlen) hflight hue (by rw [hnow]; rfl), engAt_modEng hlen, hland, modEng_modEng]
  exact congr_arg _ (modEng_congr hlen (by rw [hland]))

/-- An operation without flags whose result the next bundle reads. -/
theorem slotIn_of_quiet_landing (h : Alone s k op w) {g : Eng → Eng} {v : Nat} {d : Dest}
    (hf : issued s k op w (engAt s k) = stepped (engAt s k) (fly (seen s k w) 1 d v 0 (g (engAt s k)))) (hg : (g (engAt s k)).flight = [])
    (hue : ∀ m a, d ≠ .ue m a) :
    slotIn k op w ⟨true, [], [], none⟩ s = modEng k (fun e => (landOne (nextFlight s k w d v 0) (stepped e (g e))).2) s := by
  rw [slotIn_of_landing h hf hg hue, landOne_quiet rfl, flagEvents_zero]

end

end Sys2Proof.Machine
end

