-- ==== Sys2Proof/Proofs/LoomAlone.lean ====
section
/-! SUPPORT. The integer, floating-point, load, store, branch and record operations, each alone in a bundle. -/

open Sys2Proof Sys2Proof.Machine

namespace Sys2Proof.Machine

set_option Elab.async false

section
variable {s : State} {k : Nat} {op : OpName} {w : SlotWord} {c : Instr}

/-- A command that brings the one word of a bundle does what its slot does. -/
theorem does_of_slotIn (hexec : exec c s = run (slotIn k op w ⟨true, [], [], none⟩) s) {t : State}
    (ht : slotIn k op w ⟨true, [], [], none⟩ s.silent = t) : Does c s fun u => u = t :=
  ⟨_, hexec.trans (congr_arg Host.Outcome.next ht), rfl⟩

theorem alone_silent (h : Alone s k op w) : Alone s.silent k op w := h

/-- An operation that computes a value for the next bundle. -/
theorem does_lands (h : Alone s k op w) (hexec : exec c s = run (slotIn k op w ⟨true, [], [], none⟩) s) {v : Word} (hl : isLoop op = false)
    (hsem : opSem s k ⟨op, w, []⟩ (seen s k w) (engAt s k) = toG (seen s k w) 1 v (engAt s k)) :
    Does c s fun t => t = lands k w v s := by
  refine does_of_slotIn hexec ?_
  rw [slotIn_of_quiet_landing (alone_silent h) (g := id) (v := v.toNat) (d := .g w.d)
    ((issued_of_not_loop _ _ _ _ hl).trans (congr_arg _ hsem)) (flight_of_alone h) (by intros; exact Dest.noConfusion), lands]
  refine congr_arg (fun f => modEng k f s.silent) (funext fun e => ?_)
  rw [landOne_g rfl rfl, nextFlight, word_toNat]
  rfl

end

theorem ite_eq_zero_of_ne {p : Prop} [Decidable p] {m n : Nat} (hm : m ≠ 0) (h : (if p then m else n) = 0) : ¬p ∧ n = 0 := by
  split at h
  · exact absurd h hm
  · exact ⟨‹_›, h⟩

/-- What a bundle that breaks no rule of Table 6-12 keeps to: defined codes, and of predicates and the context partition. -/
theorem rules_of_illegalSub {s : State} {e : Eng} {n : Nat} {ops : List SlotOp} (h : illegalSub s e n ops = 0) :
    ops.any badPred = false ∧ ops.any (crosses e.bg) = false := by
  unfold illegalSub at h
  obtain ⟨-, h⟩ := ite_eq_zero_of_ne (by decide) h
  obtain ⟨-, h⟩ := ite_eq_zero_of_ne (by decide) h
  obtain ⟨-, h⟩ := ite_eq_zero_of_ne (by decide) h
  obtain ⟨-, h⟩ := ite_eq_zero_of_ne (by decide) h
  obtain ⟨-, h⟩ := ite_eq_zero_of_ne (by decide) h
  obtain ⟨hpred, h⟩ := ite_eq_zero_of_ne (by decide) h
  obtain ⟨hcross, -⟩ := ite_eq_zero_of_ne (by decide) h
  exact ⟨Bool.not_eq_true _ ▸ hpred, Bool.not_eq_true _ ▸ hcross⟩

section
variable {s : State} {k : Nat} {op : OpName} {w : SlotWord} {c : Instr}

theorem comes_of_alone (h : Alone s k op w) (hop : op ≠ .nop) : comes s k op w = [⟨op, w, []⟩] := by
  obtain ⟨-, hfetch, -⟩ := h
  rw [comes_eq hfetch, if_neg hop]

/-- A predicate that an operation alone writes is not p0. -/
theorem predicate_of_alone (h : Alone s k op w) (hop : op ≠ .nop) (hp : writesP op = true) : w.d % 8 ≠ 0 := by
  have hcomes := comes_of_alone h hop
  obtain ⟨-, -, -, -, -, -, hsub, -⟩ := h
  obtain ⟨hbad, -⟩ := rules_of_illegalSub hsub
  rw [hcomes] at hbad
  simp [badPred, hp] at hbad
  exact hbad.1

/-- A register that an operation alone writes is one of the 64. -/
theorem register_of_alone (h : Alone s k op w) (hop : op ≠ .nop) (hg : writesG op = true) : w.d < 64 := by
  have hcomes := comes_of_alone h hop
  obtain ⟨-, -, -, -, -, -, hsub, -⟩ := h
  obtain ⟨-, hcross⟩ := rules_of_illegalSub hsub
  rw [hcomes] at hcross
  simp [crosses, hg, ownsG] at hcross
  have := hcross.1.1
  split at this <;> omega

/-- An operation that puts nothing in flight. -/
theorem does_effect (h : Alone s k op w) (hexec : exec c s = run (slotIn k op w ⟨true, [], [], none⟩) s) (f : Eng → Eng)
    (hf : issued s k op w (engAt s k) = f (engAt s k)) (hfl : (f (engAt s k)).flight = (engAt s k).flight) : Does c s fun t => t = modEng k f s.silent :=
  does_of_slotIn hexec (slotIn_of_not_due (alone_silent h) hf fun _ hm => absurd (hfl.trans (flight_of_alone h) ▸ hm) List.not_mem_nil)

/-- An operation whose result is in flight for more than one loom clock. -/
theorem does_flies (h : Alone s k op w) (hexec : exec c s = run (slotIn k op w ⟨true, [], [], none⟩) s) {lat v fl : Nat} {d : Dest} (hlat : 2 ≤ lat)
    (hue : ∀ m a, d ≠ .ue m a) (hl : isLoop op = false)
    (hsem : opSem s k ⟨op, w, []⟩ (seen s k w) (engAt s k) = fly (seen s k w) lat d v fl (engAt s k)) :
    Does c s fun t => t = flies k lat w d v fl s :=
  does_of_slotIn hexec (slotIn_of_flight (alone_silent h) (g := id) hlat ((issued_of_not_loop _ _ _ _ hl).trans (congr_arg _ hsem)) (flight_of_alone h) hue)

/-- CMP. -/
theorem does_cmp (h : Alone s k .cmp w) : Does (.cmp k w ⟨true, [], [], none⟩) s fun t =>
    t = modEng k (fun g => { went g with p := g.p.set (w.d % 8) (cmpCond w.f (seen s k w).ga (seen s k w).gb) }) s.silent := by
  refine does_of_slotIn rfl ?_
  rw [slotIn_of_quiet_landing (alone_silent h) (g := id) (v := bit (cmpCond w.f (seen s k w).ga (seen s k w).gb)) (d := .p (w.d % 8))
    (issued_of_not_loop _ _ _ _ rfl) (flight_of_alone h) (by intros; exact Dest.noConfusion)]
  refine congr_arg (fun f => modEng k f s.silent) (funext fun e => ?_)
  have hbit (b : Bool) : (bit b == 1) = b := by cases b <;> rfl
  rw [landOne_p rfl (predicate_of_alone h (by decide) rfl) rfl, nextFlight, hbit]
  rfl

end

/-- Settles O31, each operation by the value that it puts in flight for one loom clock. -/
theorem integerOperations : Obligations.IntegerOperations := by
  intro s _
  refine ⟨?_, ?_, ?_, ?_, ?_, ?_, ?_, ?_, ?_, ?_, ?_, ?_, ?_, ?_, ?_, ?_, ?_, ?_, ?_, ?_⟩
  iterate 18 exact fun e w h => does_lands h rfl rfl rfl
  · exact fun e w h => does_cmp h
  · exact fun e w h => does_effect h rfl went rfl rfl

/-- Settles O33, each operation by its result and its latency. -/
theorem floatingPointOperations : Obligations.FloatingPointOperations := by
  intro s _
  refine ⟨?_, ?_, ?_, ?_, ?_, ?_, ?_, ?_, ?_, ?_, ?_, ?_⟩
  iterate 6 exact fun e w h => does_flies h rfl (by decide) (by intros; exact Dest.noConfusion) rfl rfl
  iterate 2 exact fun e w h => does_lands h rfl rfl rfl
  iterate 4 exact fun e w h => does_flies h rfl (by decide) (by intros; exact Dest.noConfusion) rfl rfl

section
variable {s : State} {k : Nat} {op : OpName} {w : SlotWord} {c : Instr}

theorem load1_of_good (op' : OpName) (lat : Nat) (i : Issue) (v : Word) (e : Eng) : load1 op' lat [] i v e = toG i lat v e := by
  rw [load1, loadTo_of_good (readsOf_good _ _)]
  rfl

/-- A load of one register. -/
theorem does_load (h : Alone s k op w) (hexec : exec c s = run (slotIn k op w ⟨true, [], [], none⟩) s) {lat : Nat} {v : Word} (hlat : 2 ≤ lat)
    (hl : isLoop op = false) (hsem : opSem s k ⟨op, w, []⟩ (seen s k w) (engAt s k) = load1 op lat [] (seen s k w) v (engAt s k)) :
    Does c s fun t => t = flies k lat w (.g w.d) v.toNat 0 s :=
  does_flies h hexec hlat (by intros; exact Dest.noConfusion) hl (hsem.trans (load1_of_good ..))

/-- LDD brings a pair of words. -/
theorem does_ldd (h : Alone s k .ldd w) : Does (.ldd k w ⟨true, [], [], none⟩) s fun t =>
    t = modEng k (fun g => { went g with flight := [⟨g.now + 3, g.now, w.slot, g.bg, .g w.d, (memAt g.dm (dmAddrI (seen s k w) / 8 * 2)).toNat, 0, attrOf g⟩,
      ⟨g.now + 3, g.now, w.slot, g.bg, .g (w.d + 1), (memAt g.dm (dmAddrI (seen s k w) / 8 * 2 + 1)).toNat, 0, attrOf g⟩] }) s.silent := by
  refine does_of_slotIn rfl (slotIn_of_not_due (alone_silent h) ?_ ?_)
  · have hsem : opSem s.silent k ⟨.ldd, w, []⟩ (seen s k w) (engAt s k) = _ := loadTo_of_good (mem := 2) (readsOf_good .ldd (seen s k w)) _ _
    rw [issued_of_not_loop _ _ _ _ rfl]
    refine (congr_arg (stepped (engAt s k)) hsem).trans ?_
    simp only [List.foldl_cons, List.foldl_nil, fly, flight_of_alone h]
    rfl
  · intro x hx
    have hx' := List.mem_pair.1 hx
    obtain rfl | rfl := hx'
    · exact not_landsBy (by intros; exact Dest.noConfusion) (Nat.lt_add_of_pos_right (show 0 < 2 by decide))
    · exact not_landsBy (by intros; exact Dest.noConfusion) (Nat.lt_add_of_pos_right (show 0 < 2 by decide))

end

/-- Settles O34: a load is a result of its latency, a store an effect on its memory. -/
theorem loadsAndStores : Obligations.LoadsAndStores := by
  intro s _
  refine ⟨?_, ?_, ?_, ?_, ?_, ?_, ?_, ?_, ?_, ?_, ?_, ?_, ?_⟩
  iterate 2 exact fun e w h => does_load h rfl (by decide) rfl rfl
  · exact fun e w h => does_ldd h
  iterate 6 exact fun e w h => does_load h rfl (by decide) rfl rfl
  iterate 4 exact fun e w h => does_effect h rfl _ rfl rfl

end Sys2Proof.Machine
end

