-- ==== Sys2Proof/Proofs/LoomControl.lean ====
section
/-! SUPPORT. Branches, loops, control registers, markers and records, each alone in a bundle. -/

open Sys2Proof Sys2Proof.Machine

namespace Sys2Proof.Machine

set_option Elab.async false

section
variable {s : State} {k : Nat} {op : OpName} {w : SlotWord} {c : Instr}

theorem guard_of_alone (h : Alone s k op w) : guardOf (engAt s k) w = true := by
  obtain ⟨-, -, -, -, -, hguard, -⟩ := h
  exact hguard

/-- A branch to a target within the code is outstanding for two bundles. -/
theorem does_branch (h : Alone s k op w) (hexec : exec c s = run (slotIn k op w ⟨true, [], [], none⟩) s) {target n : Nat} (hn : target % 8192 = n)
    (hl : isLoop op = false) (hsem : opSem s k ⟨op, w, []⟩ (seen s k w) (engAt s k) = branchTo (guardOf (engAt s k) w) target (engAt s k)) :
    Does c s fun t => t = modEng k (fun g => { went g with branch := some ⟨true, n, 2⟩ }) s.silent := by
  refine does_effect h hexec _ ?_ rfl
  rw [issued_of_not_loop _ _ _ _ hl, hsem, guard_of_alone h, branchTo, hn]
  rfl

theorem relTarget_mod (i : Issue) : relTarget i % 8192 = relTarget i := by
  rw [relTarget]
  omega

/-- A loop that runs at least once is pushed. -/
theorem does_loop (h : Alone s k op w) (hexec : exec c s = run (slotIn k op w ⟨true, [], [], none⟩) s) {count : Nat} (hc : 0 < count)
    (hl : isLoop op = true) (hsem : opSem s k ⟨op, w, []⟩ (seen s k w) (engAt s k) = pushLoop count (loopLen w) (seen s k w) (engAt s k)) :
    Does c s fun t => t = modEng k (fun g => { went g with loops := [⟨g.pc + 1, g.pc + loopLen w, count⟩], pc := g.pc + 1 }) s.silent := by
  refine does_effect h hexec _ ?_ rfl
  obtain ⟨-, -, -, ⟨-, -, -, -, hloops⟩, -⟩ := h
  rw [issued_eq, hl, if_pos rfl, hsem, pushLoop, if_neg (by omega), hloops]
  rfl

/-- An operation that changes its engine's control state only. -/
theorem doesWithin_effect (hexec : exec c s = run (slotIn k op w ⟨true, [], [], none⟩) s) {f : Eng → Eng} {G : List Nat}
    {Q : List Part} {P : State → Prop} (ht : slotIn k op w ⟨true, [], [], none⟩ s.silent = modEng k f s.silent) (hQ : Part.loom ∈ Q)
    (hP : P (modEng k f s.silent)) : DoesWithin c s G Q P := by
  refine doesWithin_intro (hexec.trans (congr_arg Host.Outcome.next ht)) hP (within_mk (within_refl G Q s) rfl fun x hx => ?_)
  cases x with
  | loom => exact absurd hQ hx
  | _ => rfl

theorem lnk_setLnk (n : Nat) (e : Eng) : (e.setLnk n).lnk = n := by
  rw [Eng.setLnk]
  split <;> simp_all [Eng.lnk]

theorem shadow_setShadow (x : Option (Nat × Nat)) (e : Eng) : (e.setShadow x).shadow = x := by
  rw [Eng.setShadow]
  split <;> simp_all [Eng.shadow]

theorem branch_setLnk (n : Nat) (e : Eng) : (e.setLnk n).branch = e.branch := by
  rw [Eng.setLnk]
  split <;> rfl

theorem mode_setShadow (x : Option (Nat × Nat)) (e : Eng) : (e.setShadow x).mode = e.mode := by
  rw [Eng.setShadow]
  split <;> rfl

theorem flight_setLnk (n : Nat) (e : Eng) : (e.setLnk n).flight = e.flight := by
  rw [Eng.setLnk]
  split <;> rfl

theorem flight_setShadow (x : Option (Nat × Nat)) (e : Eng) : (e.setShadow x).flight = e.flight := by
  rw [Eng.setShadow]
  split <;> rfl

/-- What an operation without results makes of its engine, with the frame of its die's registers. -/
theorem doesWithin_control (h : Alone s k op w) (hexec : exec c s = run (slotIn k op w ⟨true, [], [], none⟩) s) {x : Eng} {G : List Nat}
    {Q : List Part} {P : State → Prop} (hl : isLoop op = false) (hsem : opSem s k ⟨op, w, []⟩ (seen s k w) (engAt s k) = x)
    (hfl : x.flight = (engAt s k).flight) (hQ : Part.loom ∈ Q)
    (hP : ∀ t, engAt t k = stepped (engAt s k) x → t.regs = s.regs → P t) : DoesWithin c s G Q P := by
  have ht := slotIn_of_not_due (alone_silent h) (f := fun _ => stepped (engAt s k) x) ((issued_of_not_loop _ _ _ _ hl).trans (congr_arg _ hsem))
    fun _ hm => absurd (hfl.trans (flight_of_alone h) ▸ hm) List.not_mem_nil
  exact doesWithin_effect hexec ht hQ (hP _ (engAt_modEng (lt_of_alone h) _) rfl)

theorem fl_landOne_clear {f : Flight} {e : Eng} (hd : f.dest = .clear) (hbg : f.bg = e.bg) (x : Eng) (hx : x.bg = e.bg := by rfl)
    (hf : x.flagsF = e.flagsF := by rfl) (hb : x.flagsB = e.flagsB := by rfl) : (landOne f x).2.fl = e.fl &&& (511 ^^^ (f.val &&& 511)) := by
  rw [landOne, hd]
  cases h : e.bg <;> simp [Eng.fl, hbg, hx, hf, hb, h]

theorem ctlWrite_mode {i : Issue} {n : Nat} (hn : n = 0) (v : Word) (e : Eng) : ctlWrite i n v e = e.setShadow (some (v.toNat % 32, 2)) := if_pos hn

theorem ctlWrite_flags {i : Issue} {n : Nat} (hn : n = 1) (v : Word) (e : Eng) : ctlWrite i n v e = fly i 1 .clear (v.toNat % 512) 0 e :=
  (if_neg (by omega)).trans (if_pos hn)

theorem ctlWrite_lnk {i : Issue} {n : Nat} (hn : n = 4) (v : Word) (e : Eng) : ctlWrite i n v e = e.setLnk (v.toNat % 8192 + 8192 * bit i.e.rom) :=
  (if_neg (by omega)).trans (if_neg (by omega))

theorem semCall_taken {i : Issue} (h : guardOf i.e i.w = true) (e : Eng) :
    semCall i e = (branchTo true (relTarget i) e).setLnk ((i.e.pc + 3) % 8192 + 8192 * bit i.e.rom) := by
  simp only [semCall, h, if_true]

/-- A write of 1 bits to FLAGS clears them when the next bundle issues. -/
theorem doesWithin_clear (h : Alone s k op w) (hexec : exec c s = run (slotIn k op w ⟨true, [], [], none⟩) s) {v : Nat} {G : List Nat}
    {Q : List Part} (hl : isLoop op = false)
    (hsem : opSem s k ⟨op, w, []⟩ (seen s k w) (engAt s k) = fly (seen s k w) 1 .clear v 0 (engAt s k)) (hQ : Part.loom ∈ Q) :
    DoesWithin c s G Q fun t => (engAt t k).fl = (engAt s k).fl &&& (511 ^^^ (v &&& 511)) ∧ t.regs = s.regs := by
  have ht := slotIn_of_quiet_landing (alone_silent h) (g := id) (v := v) (d := .clear) ((issued_of_not_loop _ _ _ _ hl).trans (congr_arg _ hsem))
    (flight_of_alone h) (by intros; exact Dest.noConfusion)
  refine doesWithin_effect hexec ht hQ ⟨?_, rfl⟩
  rw [engAt_modEng (s := s.silent) (lt_of_alone h)]
  exact fl_landOne_clear rfl rfl _

end

/-- Settles O35, each operation by its effect on the engine's control state. -/
theorem branchesLoopsAndRecords : Obligations.BranchesLoopsAndRecords := by
  intro s _
  refine ⟨?_, ?_, ?_, ?_, ?_, ?_, ?_, ?_, ?_, ?_, ?_, ?_, ?_, ?_, ?_, ?_⟩
  · exact fun e w h => does_branch h rfl (relTarget_mod (seen s e w)) rfl rfl
  · exact fun e w h => does_branch h rfl (Nat.mod_mod _ _) rfl rfl
  · intro e w h
    refine doesWithin_control h rfl rfl (semCall_taken (guard_of_alone h) _) (flight_setLnk _ _) (by decide) fun t ht hregs => ⟨?_, ?_, hregs⟩
    · rw [ht]
      exact (branch_setLnk _ _).trans (congr_arg (fun n => some (Branch.mk true n 2)) (relTarget_mod (seen s e w)))
    · rw [ht]
      exact lnk_setLnk _ _
  · exact fun e w h => does_branch h rfl (Nat.mod_mod _ _) rfl rfl
  · exact fun e w h hc => does_loop h rfl hc rfl rfl
  · exact fun e w h hc => does_loop h rfl hc rfl rfl
  · exact fun e w h => does_lands h rfl rfl rfl
  · intro e w h hd
    refine doesWithin_control h rfl rfl (ctlWrite_mode hd _ _) (flight_setShadow _ _) (by decide) fun t ht hregs => ⟨?_, ?_, hregs⟩
    · rw [ht]
      exact shadow_setShadow _ _
    · rw [ht]
      exact mode_setShadow _ _
  · exact fun e w h hd => doesWithin_clear h rfl rfl (ctlWrite_flags hd _ _) (by decide)
  · intro e w h hd
    refine doesWithin_control h rfl rfl (ctlWrite_lnk hd _ _) (flight_setLnk _ _) (by decide) fun t ht hregs => ⟨?_, hregs⟩
    rw [ht]
    exact (lnk_setLnk _ _).trans (congr_arg (· + 8192 * bit (engAt s e).rom) (Nat.mod_mod_of_dvd (imm16u w) (by decide)))
  iterate 6 exact fun e w h => does_effect h rfl _ rfl rfl

end Sys2Proof.Machine
end

section
/-! REFUTATIONS. Islanding detection and trips: several trips of one pick. -/

namespace Sys2Proof.Machine

set_option Elab.async false

/-- Connected, with a passive flag that has stood for PCONF and an overvoltage point that is due in the same pick. -/
def dueAndIslanded : State :=
  { ((State.reset.put ISLAND_CTL_PMODE 2).put GRIDFN_STAT_CSTATE 5).put (curvCount 1) 2 with
    isl := { State.reset.isl with both := 900 }, ride := { State.reset.ride with timers := (List.replicate 64 (0 : Rat)).set 17 9000 } }

/-- Refutes O45: a passive decision records the lowest cause of the pick (R370), which is that of a curve point due in the same pick, not 5. -/
theorem not_islandingDetection : ¬ Obligations.IslandingDetection := by
  unfold Obligations.IslandingDetection
  intro h
  obtain ⟨-, -, -, -, hconfirm⟩ := h dueAndIslanded (by decide +kernel)
  obtain ⟨t, hexec, ⟨-, hcause, -⟩, -⟩ :=
    hconfirm (by decide +kernel) (by decide +kernel) (by decide +kernel) (by decide +kernel) (by decide +kernel)
  obtain rfl := Host.Outcome.next.inj hexec
  exact absurd hcause (by decide +kernel)

/-- Connected, with an overvoltage point that is due in a pick in which the device has already tripped on undervoltage. -/
def dueAfterTrip : State :=
  { ((State.reset.put GRIDFN_STAT_CSTATE 5).put (curvCount 1) 2).put GRIDFN_TRIP_CAUSE 1 with
    ride := { State.reset.ride with timers := (List.replicate 64 (0 : Rat)).set 17 9000, tripAt := some (absPick State.reset) } }

/-- Refutes O44: a trip of a pick that has a trip of a lower cause recorded does not replace it (R370). -/
theorem not_tripsAndConnection : ¬ Obligations.TripsAndConnection := by
  unfold Obligations.TripsAndConnection
  intro h
  obtain ⟨-, htrip, -⟩ := h dueAfterTrip (by decide +kernel)
  obtain ⟨t, hexec, ⟨hcause, -⟩, -⟩ := htrip 17 [] (by decide +kernel) (by decide +kernel) (by decide +kernel)
  obtain rfl := Host.Outcome.next.inj hexec
  exact absurd hcause (by decide +kernel)

end Sys2Proof.Machine
end

section
/-! REFUTATIONS. The learned table. -/

namespace Sys2Proof.Machine

set_option Elab.async false

/-- A cluster that learns under CLEAR, in which phase A has already published its zeros and has a table that is not empty. -/
def zeroedPhaseA : State :=
  { (State.reset.put WEAVE_STAT_RUN 1).put CURCTL_LTCTL_CLEAR 1 |>.put CURCTL_LTLIM_TMAX 100 with
    cur := { State.reset.cur with
      tab := [[(0, 1)], [], []], tabNext := [none, none, none], spoilt := [false, true, false], zeroed := [true, false, false], cycles := 1000000 } }

/-- Refutes O42: a phase that has published its zeros under CLEAR publishes the table that it has learned since, not zeros again (R328). -/
theorem not_referencesAndEnergy : ¬ Obligations.ReferencesAndEnergy := by
  unfold Obligations.ReferencesAndEnergy
  intro h
  obtain ⟨-, -, -, hclear, -⟩ := h zeroedPhaseA (by decide +kernel)
  obtain ⟨t, hexec, ⟨-, -, htab, -⟩, -⟩ := hclear (by decide +kernel) (by decide +kernel) (by decide +kernel) (by decide +kernel)
    (by decide +kernel) (by decide +kernel) (by decide +kernel)
  obtain rfl := Host.Outcome.next.inj hexec
  exact absurd htab (by decide +kernel)

end Sys2Proof.Machine
end

section
/-! REFUTATIONS. The directions of the rings. -/

namespace Sys2Proof.Machine

set_option Elab.async false

/-- An image of a single unit whose converter map populates the cell position 0 alone. -/
def oneCellImage : Image :=
  { magic := 0x45564157, hver := 1, hlen := 256, ilen := 4096, twin := false, unit := false, f60 := false, imgid := 9, part := 0x0192,
    minstep := 0xB0, keyHash := [], hash := 77, twinHash := 0, pmapH := 1, layH := 1, cmapH := 1, compat := [], codelen := [0, 0, 0, 0],
    rxdone := [0, 0, 0, 0], urgmask := 0, nsig := 1, slackjob := [0, 0, 0, 0], sections := [], plans := [], pickmap := [],
    splans := [], smap := [], adcseq := [], adcPairs := 0, pmap := [], paramdef := [], code := [], dataInit := [], angleInit := [],
    conv := ⟨690, false, 800, 900, 100, 20, 20, 700, 900, 800, 100, false, false, [100, 100, 1000, 1000], 100, [⟨1, false, false, 0⟩]⟩,
    shared := [], jobs := [], telem := [], regInit := [], sig := [], signed := [] }

/-- Direction 0 is in service; direction 1 stands FAILED with the last step of its enumeration under way. -/
def failedAtLastStep : State :=
  { (State.reset.put (RING_STAT_STATE 0) 3).put (RING_STAT_STATE 1) 4 with
    weave := { State.reset.weave with img := some oneCellImage }, ring := State.reset.ring.modify 1 fun d => { d with step := 6 } }

/-- Refutes O38: a direction that stands FAILED counts as serving in the last step of its enumeration, but takes no cells (R271), so that
those of the other direction are lost. -/
theorem not_ringDirections : ¬ Obligations.RingDirections := by
  unfold Obligations.RingDirections
  intro h
  obtain ⟨hfail, -⟩ := h failedAtLastStep (by decide +kernel)
  obtain ⟨t, hexec, ⟨-, -, hcells⟩, -⟩ := hfail 0 (by decide) (by decide +kernel) (by decide +kernel) (by decide +kernel)
  obtain rfl := Host.Outcome.next.inj hexec
  exact absurd (hcells 0 (by decide) (by decide +kernel) (by decide +kernel)) (by decide +kernel)

end Sys2Proof.Machine
end

section
/-! REFUTATIONS. Cells, edges and the carrier. -/

namespace Sys2Proof.Machine

set_option Elab.async false

/-- Cell 0 is LEAVING by a host write of this pick, and the close of its bypass is not confirmed. -/
def leavingByService : State :=
  { (State.reset.put WEAVE_STAT_RUN 1).put (CELL_STATE_ST 0) 8 with
    cells := State.reset.cells.modify 0 fun c => { c with await := some 1, svcPick := some (absPick State.reset) } }

/-- Refutes O37: a cell that a host write of the same pick put into LEAVING is FAULTED by an unconfirmed close, since the fault is applied
first (R27). -/
theorem not_cellsEdgesAndCarrier : ¬ Obligations.CellsEdgesAndCarrier := by
  unfold Obligations.CellsEdgesAndCarrier
  intro h
  obtain ⟨-, -, -, -, -, -, htimeout, -⟩ := h leavingByService (by decide +kernel)
  obtain ⟨t, hexec, ⟨hstate, -⟩, -⟩ := htimeout 0 (by decide +kernel) (by decide) (by decide +kernel) (by decide +kernel) (by decide +kernel)
    (by decide +kernel) (by decide +kernel) (by decide +kernel)
  obtain rfl := Host.Outcome.next.inj hexec
  exact absurd hstate (by decide +kernel)

end Sys2Proof.Machine
end

section
/-! SUPPORT. What an operation's next state holds: fields and parts of the state after stores, events and captures. -/

namespace Sys2Proof.Machine

set_option Elab.async false

/-- The register space has its one form (the first part of the invariant). -/
def Canon (s : State) : Prop := Regs.wf s.regs

theorem canon_of_inv {s : State} (h : s.Inv) : Canon s := h.1

/-- The same, as `simp` leaves it: the form of an operation's next state rewrites to that of the state before it or to this, an equivalence
that needs no side condition. -/
def CanonNext (s : State) : Prop := Canon s

theorem canon_next {s t : State} (h : Canon s → Canon t) : Canon t ↔ Canon s ∨ CanonNext t := ⟨.inr, fun k => k.elim h id⟩

/-- A command whose meaning is one function of the state it starts from, with its frame. -/
theorem doesWithin_run {c : Instr} {s : State} {x : Host.Outcome State Fault Refusal} {F : State → State} {G : List Nat} {Q : List Part}
    {P : State → Prop} (hframe : ∀ t, x = .next t → Within G Q s t) (hP : P (F s.silent)) (hexec : exec c s = x := by rfl)
    (hrun : x = run F s := by rfl) : DoesWithin c s G Q P :=
  doesWithin_intro (hexec.trans hrun) hP (hframe _ hrun)

theorem does_run {c : Instr} {s : State} {x : Host.Outcome State Fault Refusal} {F : State → State} {P : State → Prop}
    (hexec : exec c s = x) (hP : P (F s.silent)) (hrun : x = run F s := by rfl) : Does c s P :=
  ⟨F s.silent, hexec.trans hrun, hP⟩

/-! ### Registers do not depend on the other parts of the state -/

section
variable {s : State} {f : Fld}

variable {pending : List Instr} {free : Nat} {out : List Out} {pwr : Pwr} {link : Link} {permit : Permit} {host : HostIf} {wdog : Watchdog}
  {intc : Intc} {jr : Journal} {selv : Selv} {warp : Warp} {clk : Clk} {weave : WeaveSt} {s0 : S0St} {porter : PorterSt} {loom : List Eng}
  {clu : List Clu} {warden : WardenSt} {heat : HeatSt} {panel : PanelSt} {svc : SvcSt} {safety : SafetySt} {louv : List LouvSt} {aux :
  AuxSt} {analog : AnalogSt} {sec : SecSt} {cells : List CellSt} {ring : List RingDir} {twin : TwinSt} {edge : EdgeSt} {syn : SyncSt} {blank
  : BlankSt} {cur : CurSt} {mppt : MpptSt} {ride : RideSt} {isl : IslSt} {adc : AdcSt} {fcmp : FcmpSt} {meter : MeterSt}

@[simp] theorem raw_mk {a : Nat} : State.raw ⟨pending, s.regs, free, out, pwr, link, permit, host, wdog, intc, jr, selv, warp, clk, weave,
    s0, porter, loom, clu, warden, heat, panel, svc, safety, louv, aux, analog, sec, cells, ring, twin, edge, syn, blank, cur, mppt, ride,
    isl, adc, fcmp, meter⟩ a = s.raw a := rfl
@[simp] theorem get_mk : State.get ⟨pending, s.regs, free, out, pwr, link, permit, host, wdog, intc, jr, selv, warp, clk, weave, s0, porter,
    loom, clu, warden, heat, panel, svc, safety, louv, aux, analog, sec, cells, ring, twin, edge, syn, blank, cur, mppt, ride, isl, adc,
    fcmp, meter⟩ f = s.get f := rfl
@[simp] theorem flag_mk : State.flag ⟨pending, s.regs, free, out, pwr, link, permit, host, wdog, intc, jr, selv, warp, clk, weave, s0,
    porter, loom, clu, warden, heat, panel, svc, safety, louv, aux, analog, sec, cells, ring, twin, edge, syn, blank, cur, mppt, ride, isl,
    adc, fcmp, meter⟩ f = s.flag f := rfl
@[simp] theorem getI_mk : State.getI ⟨pending, s.regs, free, out, pwr, link, permit, host, wdog, intc, jr, selv, warp, clk, weave, s0,
    porter, loom, clu, warden, heat, panel, svc, safety, louv, aux, analog, sec, cells, ring, twin, edge, syn, blank, cur, mppt, ride, isl,
    adc, fcmp, meter⟩ f = s.getI f := rfl
@[simp] theorem canon_mk : Canon ⟨pending, s.regs, free, out, pwr, link, permit, host, wdog, intc, jr, selv, warp, clk, weave, s0, porter,
    loom, clu, warden, heat, panel, svc, safety, louv, aux, analog, sec, cells, ring, twin, edge, syn, blank, cur, mppt, ride, isl, adc,
    fcmp, meter⟩ ↔ Canon s := Iff.rfl

end

section
variable {s : State} {f : Fld}

@[simp] theorem loud_iff {a : Nat} : Loud a ↔ a % 0x1000 < 0x40 ∨ (0x2040 ≤ a ∧ a < 0x2060) ∨ (0x2400 ≤ a ∧ a < 0x2800) ∨
    (0x4040 ≤ a ∧ a < 0x404C) ∨ (0x9C00 ≤ a ∧ a < 0x9C08) ∨ a = 0x5105C := Iff.rfl

/-! ### A store and a count -/

@[simp] theorem get_silent : s.silent.get f = s.get f := (rfl)
@[simp] theorem flag_silent : s.silent.flag f = s.flag f := (rfl)
@[simp] theorem getI_silent : s.silent.getI f = s.getI f := (rfl)
@[simp] theorem raw_silent {a : Nat} : s.silent.raw a = s.raw a := (rfl)
@[simp] theorem silent_out : s.silent.out = [] := rfl

@[simp] theorem get_emit {x : Out} : (emit x s).get f = s.get f := (rfl)
@[simp] theorem flag_emit {x : Out} : (emit x s).flag f = s.flag f := (rfl)
@[simp] theorem raw_emit {x : Out} {a : Nat} : (emit x s).raw a = s.raw a := (rfl)
@[simp] theorem canon_emit {x : Out} : Canon (emit x s) ↔ Canon s := Iff.rfl

@[simp] theorem get_freeWord : (freeWord s).2.get f = s.get f := (rfl)
@[simp] theorem flag_freeWord : (freeWord s).2.flag f = s.flag f := (rfl)
@[simp] theorem raw_freeWord {a : Nat} : (freeWord s).2.raw a = s.raw a := (rfl)
@[simp] theorem canon_freeWord : Canon (freeWord s).2 ↔ Canon s := Iff.rfl

@[simp] theorem silent_pending : s.silent.pending = s.pending := rfl
@[simp] theorem silent_regs : s.silent.regs = s.regs := rfl
@[simp] theorem silent_free : s.silent.free = s.free := rfl
@[simp] theorem silent_pwr : s.silent.pwr = s.pwr := rfl
@[simp] theorem silent_link : s.silent.link = s.link := rfl
@[simp] theorem silent_permit : s.silent.permit = s.permit := rfl
@[simp] theorem silent_host : s.silent.host = s.host := rfl
@[simp] theorem silent_wdog : s.silent.wdog = s.wdog := rfl
@[simp] theorem silent_intc : s.silent.intc = s.intc := rfl
@[simp] theorem silent_jr : s.silent.jr = s.jr := rfl
@[simp] theorem silent_selv : s.silent.selv = s.selv := rfl
@[simp] theorem silent_warp : s.silent.warp = s.warp := rfl
@[simp] theorem silent_clk : s.silent.clk = s.clk := rfl
@[simp] theorem silent_weave : s.silent.weave = s.weave := rfl
@[simp] theorem silent_s0 : s.silent.s0 = s.s0 := rfl
@[simp] theorem silent_porter : s.silent.porter = s.porter := rfl
@[simp] theorem silent_loom : s.silent.loom = s.loom := rfl
@[simp] theorem silent_clu : s.silent.clu = s.clu := rfl
@[simp] theorem silent_warden : s.silent.warden = s.warden := rfl
@[simp] theorem silent_heat : s.silent.heat = s.heat := rfl
@[simp] theorem silent_panel : s.silent.panel = s.panel := rfl
@[simp] theorem silent_svc : s.silent.svc = s.svc := rfl
@[simp] theorem silent_safety : s.silent.safety = s.safety := rfl
@[simp] theorem silent_louv : s.silent.louv = s.louv := rfl
@[simp] theorem silent_aux : s.silent.aux = s.aux := rfl
@[simp] theorem silent_analog : s.silent.analog = s.analog := rfl
@[simp] theorem silent_sec : s.silent.sec = s.sec := rfl
@[simp] theorem silent_cells : s.silent.cells = s.cells := rfl
@[simp] theorem silent_ring : s.silent.ring = s.ring := rfl
@[simp] theorem silent_twin : s.silent.twin = s.twin := rfl
@[simp] theorem silent_edge : s.silent.edge = s.edge := rfl
@[simp] theorem silent_syn : s.silent.syn = s.syn := rfl
@[simp] theorem silent_blank : s.silent.blank = s.blank := rfl
@[simp] theorem silent_cur : s.silent.cur = s.cur := rfl
@[simp] theorem silent_mppt : s.silent.mppt = s.mppt := rfl
@[simp] theorem silent_ride : s.silent.ride = s.ride := rfl
@[simp] theorem silent_isl : s.silent.isl = s.isl := rfl
@[simp] theorem silent_adc : s.silent.adc = s.adc := rfl
@[simp] theorem silent_fcmp : s.silent.fcmp = s.fcmp := rfl
@[simp] theorem silent_meter : s.silent.meter = s.meter := rfl
/-! ### Events and captures -/

@[simp] theorem get_setEvt {p m : Nat} (hf : ¬ Loud f.addr) : (setEvt p m s).get f = s.get f := calm_setEvt.get hf
@[simp] theorem flag_setEvt {p m : Nat} (hf : ¬ Loud f.addr) : (setEvt p m s).flag f = s.flag f := calm_setEvt.flag hf
@[simp] theorem raw_setEvt {p m : Nat} {x : Nat} (hx : ¬ Loud x) : (setEvt p m s).raw x = s.raw x := calm_setEvt.raw _ hx
@[simp] theorem get_raiseF {a b c : Nat} (hf : ¬ Loud f.addr) : (raiseF a b c s).get f = s.get f := calm_raiseF.get hf
@[simp] theorem flag_raiseF {a b c : Nat} (hf : ¬ Loud f.addr) : (raiseF a b c s).flag f = s.flag f := calm_raiseF.flag hf
@[simp] theorem raw_raiseF {a b c : Nat} {x : Nat} (hx : ¬ Loud x) : (raiseF a b c s).raw x = s.raw x := calm_raiseF.raw _ hx
@[simp] theorem get_raiseH {a b c : Nat} (ha : a < 256) (hf : ¬ Loud f.addr) : (raiseH a b c s).get f = s.get f := (calm_raiseH ha).get hf
@[simp] theorem flag_raiseH {a b c : Nat} (ha : a < 256) (hf : ¬ Loud f.addr) : (raiseH a b c s).flag f = s.flag f := (calm_raiseH ha).flag hf
@[simp] theorem raw_raiseH {a b c : Nat} {x : Nat} (ha : a < 256) (hx : ¬ Loud x) : (raiseH a b c s).raw x = s.raw x := (calm_raiseH ha).raw _ hx
@[simp] theorem get_capture {a c : Nat} (hf : ¬ Loud f.addr) : (capture a c s).get f = s.get f := calm_capture.get hf
@[simp] theorem flag_capture {a c : Nat} (hf : ¬ Loud f.addr) : (capture a c s).flag f = s.flag f := calm_capture.flag hf
@[simp] theorem raw_capture {a c : Nat} {x : Nat} (hx : ¬ Loud x) : (capture a c s).raw x = s.raw x := calm_capture.raw _ hx

/-! ### The one form of the register space -/

@[simp] theorem canon_silent : Canon s.silent ↔ Canon s := Iff.rfl
theorem canon_stored {a : Nat} {w : Word} (h : Canon s) : Canon (s.setRaw a w) := regs_setCell h _ _

@[simp] theorem canon_setRaw {a : Nat} {w : Word} : Canon (s.setRaw a w) ↔ Canon s ∨ CanonNext (s.setRaw a w) := canon_next canon_stored
@[simp] theorem canon_put {v : Nat} : Canon (s.put f v) ↔ Canon s ∨ CanonNext (s.put f v) := canon_next canon_stored
@[simp] theorem canon_putB {b : Bool} : Canon (s.putB f b) ↔ Canon s ∨ CanonNext (s.putB f b) := canon_next canon_stored
@[simp] theorem canon_putI {x : Int} : Canon (s.putI f x) ↔ Canon s ∨ CanonNext (s.putI f x) := canon_next canon_stored
@[simp] theorem canon_addSat {k : Nat} : Canon (s.addSat f k) ↔ Canon s ∨ CanonNext (s.addSat f k) := canon_next canon_stored
@[simp] theorem canon_count : Canon (s.count f) ↔ Canon s ∨ CanonNext (s.count f) := canon_next canon_stored
@[simp] theorem canon_countWrap : Canon (s.countWrap f) ↔ Canon s ∨ CanonNext (s.countWrap f) := canon_next canon_stored

/-- An operation with a frame keeps the one form. -/
theorem Within.canon {G : List Nat} {Q : List Part} {t : State} (h : Within G Q s t) : Canon t ↔ Canon s ∨ CanonNext t := canon_next h.wf

@[simp] theorem canon_setEvt {p m : Nat} : Canon (setEvt p m s) ↔ Canon s ∨ CanonNext (setEvt p m s) :=
  (within_setEvt (G := [min p 0x100, 0x02, 0x09, 0x51]) (Q := [.link, .intc]) (within_refl _ _ s) (List.mem_cons_self ..)
    (List.subset_cons_self ..)).canon

@[simp] theorem canon_raiseF {a b c : Nat} : Canon (raiseF a b c s) ↔ Canon s ∨ CanonNext (raiseF a b c s) :=
  (within_raiseF (G := [0x51]) (Q := [.link]) (within_refl _ _ s)).canon

@[simp] theorem canon_raiseH {a b c : Nat} (ha : a < 256) : Canon (raiseH a b c s) ↔ Canon s ∨ CanonNext (raiseH a b c s) :=
  (within_raiseH (G := [0x02, 0x04, 0x09, 0x51]) (Q := [.link, .intc, .jr]) (within_refl _ _ s) ha).canon

@[simp] theorem canon_capture {a c : Nat} : Canon (capture a c s) ↔ Canon s ∨ CanonNext (capture a c s) :=
  (within_capture (G := [min (pageOf a) 0x100, 0x02, 0x04, 0x09, 0x51]) (Q := [.link, .intc, .jr]) (within_refl _ _ s) (List.mem_cons_self ..)
    (List.subset_cons_self ..)).canon

theorem get_eq_zero_of_flag (hwd : f.wd = 1) (h : s.flag f = false) : s.get f = 0 := by
  have := get_lt s f
  rw [hwd] at this
  simp [State.flag] at h
  omega

/-! ### Fields after a store and a count -/

section
variable (hs : Canon s) (hf : f.lo + f.wd ≤ 32)
include hs hf

@[simp] theorem get_store_self {v : Nat} : (s.put f v).get f = v % 2 ^ f.wd := get_put_self hs hf v

@[simp] theorem flag_store_self {v : Nat} : (s.put f v).flag f = decide (v % 2 ^ f.wd = 1) := by
  simp [State.flag, get_put_self hs hf, beq_eq_decide]

@[simp] theorem get_putB_self {b : Bool} (hwd : f.wd = 1) : (s.putB f b).get f = bit b := by
  unfold State.putB
  rw [get_put_self hs hf, hwd]
  cases b <;> rfl

@[simp] theorem flag_putB_self {b : Bool} (hwd : f.wd = 1) : (s.putB f b).flag f = b := by
  simp only [State.flag, get_putB_self hs hf hwd]
  cases b <;> rfl

@[simp] theorem get_counted : (s.count f).get f = min (s.get f + 1) (2 ^ f.wd - 1) := get_count_self hs hf

@[simp] theorem get_countWrap_self : (s.countWrap f).get f = (s.get f + 1) % 2 ^ f.wd := get_put_self hs hf _

@[simp] theorem getI_putI_self {x : Int} : (s.putI f x).getI f = toSigned f.wd (ofSigned f.wd x % 2 ^ f.wd) := by
  unfold State.getI State.putI
  rw [get_put_self hs hf]

variable {g : Fld} (hd : g.addr ≠ f.addr ∨ g.lo + g.wd ≤ f.lo ∨ f.lo + f.wd ≤ g.lo)
include hd

@[simp] theorem get_store_other {v : Nat} : (s.put f v).get g = s.get g := get_put_disjoint hs hf hd v

@[simp] theorem flag_store_other {v : Nat} : (s.put f v).flag g = s.flag g := by
  unfold State.flag
  rw [get_put_disjoint hs hf hd]

@[simp] theorem getI_store_other {v : Nat} : (s.put f v).getI g = s.getI g := by
  unfold State.getI
  rw [get_put_disjoint hs hf hd]

@[simp] theorem get_putB_other {b : Bool} : (s.putB f b).get g = s.get g := get_put_disjoint hs hf hd _
@[simp] theorem flag_putB_other {b : Bool} : (s.putB f b).flag g = s.flag g := flag_store_other hs hf hd
@[simp] theorem getI_putB_other {b : Bool} : (s.putB f b).getI g = s.getI g := getI_store_other hs hf hd
@[simp] theorem get_putI_other {x : Int} : (s.putI f x).get g = s.get g := get_put_disjoint hs hf hd _
@[simp] theorem flag_putI_other {x : Int} : (s.putI f x).flag g = s.flag g := flag_store_other hs hf hd
@[simp] theorem get_addSat_other {k : Nat} : (s.addSat f k).get g = s.get g := get_put_disjoint hs hf hd _
@[simp] theorem flag_addSat_other {k : Nat} : (s.addSat f k).flag g = s.flag g := flag_store_other hs hf hd
@[simp] theorem get_count_other : (s.count f).get g = s.get g := get_put_disjoint hs hf hd _
@[simp] theorem flag_count_other : (s.count f).flag g = s.flag g := flag_store_other hs hf hd
@[simp] theorem getI_count_other : (s.count f).getI g = s.getI g := getI_store_other hs hf hd
@[simp] theorem get_countWrap_other : (s.countWrap f).get g = s.get g := get_put_disjoint hs hf hd _
@[simp] theorem flag_countWrap_other : (s.countWrap f).flag g = s.flag g := flag_store_other hs hf hd

end

/-! ### Words of the register space after stores -/

@[simp] theorem raw_setRaw_same {a : Nat} {w : Word} (hs : Canon s) : (s.setRaw a w).raw a = w := raw_setRaw_self hs a w

@[simp] theorem raw_setRaw_other {a b : Nat} {w : Word} (hb : b ≠ a) : (s.setRaw a w).raw b = s.raw b := raw_setRaw_ne s hb w

@[simp] theorem raw_store_other {a v : Nat} (ha : a ≠ f.addr) : (s.put f v).raw a = s.raw a := raw_put_ne s ha v

@[simp] theorem raw_putB_other {a : Nat} {b : Bool} (ha : a ≠ f.addr) : (s.putB f b).raw a = s.raw a := raw_put_ne s ha _

@[simp] theorem raw_count_other {a : Nat} (ha : a ≠ f.addr) : (s.count f).raw a = s.raw a := raw_put_ne s ha _

@[simp] theorem get_setRaw_other {a : Nat} {w : Word} (ha : f.addr ≠ a) : (s.setRaw a w).get f = s.get f := by
  unfold State.get
  rw [raw_setRaw_ne s ha]

@[simp] theorem flag_setRaw_other {a : Nat} {w : Word} (ha : f.addr ≠ a) : (s.setRaw a w).flag f = s.flag f := by
  unfold State.flag
  rw [get_setRaw_other ha]

/-! ### A choice between two states -/

section
variable {p : Prop} [Decidable p] {a b : State}

@[simp] theorem get_ite : (if p then a else b).get f = if p then a.get f else b.get f := by split <;> rfl
@[simp] theorem flag_ite : (if p then a else b).flag f = if p then a.flag f else b.flag f := by split <;> rfl
@[simp] theorem raw_ite {x : Nat} : (if p then a else b).raw x = if p then a.raw x else b.raw x := by split <;> rfl

@[simp] theorem canon_ite : Canon (if p then a else b) ↔ if p then Canon a else Canon b := by split <;> rfl

end

/-! ### Parts of the state after an event -/

theorem Calm.pwr_eq {t : State} (h : Calm s t) : t.pwr = s.pwr := by rw [h.rest]
theorem Calm.permit_eq {t : State} (h : Calm s t) : t.permit = s.permit := by rw [h.rest]
theorem Calm.host_eq {t : State} (h : Calm s t) : t.host = s.host := by rw [h.rest]
theorem Calm.wdog_eq {t : State} (h : Calm s t) : t.wdog = s.wdog := by rw [h.rest]
theorem Calm.warp_eq {t : State} (h : Calm s t) : t.warp = s.warp := by rw [h.rest]
theorem Calm.clk_eq {t : State} (h : Calm s t) : t.clk = s.clk := by rw [h.rest]
theorem Calm.weave_eq {t : State} (h : Calm s t) : t.weave = s.weave := by rw [h.rest]
theorem Calm.s0_eq {t : State} (h : Calm s t) : t.s0 = s.s0 := by rw [h.rest]
theorem Calm.porter_eq {t : State} (h : Calm s t) : t.porter = s.porter := by rw [h.rest]
theorem Calm.loom_eq {t : State} (h : Calm s t) : t.loom = s.loom := by rw [h.rest]
theorem Calm.clu_eq {t : State} (h : Calm s t) : t.clu = s.clu := by rw [h.rest]
theorem Calm.warden_eq {t : State} (h : Calm s t) : t.warden = s.warden := by rw [h.rest]
theorem Calm.heat_eq {t : State} (h : Calm s t) : t.heat = s.heat := by rw [h.rest]
theorem Calm.panel_eq {t : State} (h : Calm s t) : t.panel = s.panel := by rw [h.rest]
theorem Calm.svc_eq {t : State} (h : Calm s t) : t.svc = s.svc := by rw [h.rest]
theorem Calm.safety_eq {t : State} (h : Calm s t) : t.safety = s.safety := by rw [h.rest]
theorem Calm.louv_eq {t : State} (h : Calm s t) : t.louv = s.louv := by rw [h.rest]
theorem Calm.aux_eq {t : State} (h : Calm s t) : t.aux = s.aux := by rw [h.rest]
theorem Calm.analog_eq {t : State} (h : Calm s t) : t.analog = s.analog := by rw [h.rest]
theorem Calm.sec_eq {t : State} (h : Calm s t) : t.sec = s.sec := by rw [h.rest]
theorem Calm.mppt_eq {t : State} (h : Calm s t) : t.mppt = s.mppt := by rw [h.rest]
theorem Calm.isl_eq {t : State} (h : Calm s t) : t.isl = s.isl := by rw [h.rest]
@[simp] theorem setEvt_pwr {p m : Nat} : (setEvt p m s).pwr = s.pwr := calm_setEvt.pwr_eq
@[simp] theorem setEvt_permit {p m : Nat} : (setEvt p m s).permit = s.permit := calm_setEvt.permit_eq
@[simp] theorem setEvt_host {p m : Nat} : (setEvt p m s).host = s.host := calm_setEvt.host_eq
@[simp] theorem setEvt_wdog {p m : Nat} : (setEvt p m s).wdog = s.wdog := calm_setEvt.wdog_eq
@[simp] theorem setEvt_warp {p m : Nat} : (setEvt p m s).warp = s.warp := calm_setEvt.warp_eq
@[simp] theorem setEvt_clk {p m : Nat} : (setEvt p m s).clk = s.clk := calm_setEvt.clk_eq
@[simp] theorem setEvt_weave {p m : Nat} : (setEvt p m s).weave = s.weave := calm_setEvt.weave_eq
@[simp] theorem setEvt_s0 {p m : Nat} : (setEvt p m s).s0 = s.s0 := calm_setEvt.s0_eq
@[simp] theorem setEvt_porter {p m : Nat} : (setEvt p m s).porter = s.porter := calm_setEvt.porter_eq
@[simp] theorem setEvt_loom {p m : Nat} : (setEvt p m s).loom = s.loom := calm_setEvt.loom_eq
@[simp] theorem setEvt_clu {p m : Nat} : (setEvt p m s).clu = s.clu := calm_setEvt.clu_eq
@[simp] theorem setEvt_warden {p m : Nat} : (setEvt p m s).warden = s.warden := calm_setEvt.warden_eq
@[simp] theorem setEvt_heat {p m : Nat} : (setEvt p m s).heat = s.heat := calm_setEvt.heat_eq
@[simp] theorem setEvt_panel {p m : Nat} : (setEvt p m s).panel = s.panel := calm_setEvt.panel_eq
@[simp] theorem setEvt_svc {p m : Nat} : (setEvt p m s).svc = s.svc := calm_setEvt.svc_eq
@[simp] theorem setEvt_safety {p m : Nat} : (setEvt p m s).safety = s.safety := calm_setEvt.safety_eq
@[simp] theorem setEvt_louv {p m : Nat} : (setEvt p m s).louv = s.louv := calm_setEvt.louv_eq
@[simp] theorem setEvt_aux {p m : Nat} : (setEvt p m s).aux = s.aux := calm_setEvt.aux_eq
@[simp] theorem setEvt_analog {p m : Nat} : (setEvt p m s).analog = s.analog := calm_setEvt.analog_eq
@[simp] theorem setEvt_sec {p m : Nat} : (setEvt p m s).sec = s.sec := calm_setEvt.sec_eq
@[simp] theorem setEvt_mppt {p m : Nat} : (setEvt p m s).mppt = s.mppt := calm_setEvt.mppt_eq
@[simp] theorem setEvt_isl {p m : Nat} : (setEvt p m s).isl = s.isl := calm_setEvt.isl_eq
@[simp] theorem raiseF_pwr {a b c : Nat} : (raiseF a b c s).pwr = s.pwr := calm_raiseF.pwr_eq
@[simp] theorem raiseF_permit {a b c : Nat} : (raiseF a b c s).permit = s.permit := calm_raiseF.permit_eq
@[simp] theorem raiseF_host {a b c : Nat} : (raiseF a b c s).host = s.host := calm_raiseF.host_eq
@[simp] theorem raiseF_wdog {a b c : Nat} : (raiseF a b c s).wdog = s.wdog := calm_raiseF.wdog_eq
@[simp] theorem raiseF_warp {a b c : Nat} : (raiseF a b c s).warp = s.warp := calm_raiseF.warp_eq
@[simp] theorem raiseF_clk {a b c : Nat} : (raiseF a b c s).clk = s.clk := calm_raiseF.clk_eq
@[simp] theorem raiseF_weave {a b c : Nat} : (raiseF a b c s).weave = s.weave := calm_raiseF.weave_eq
@[simp] theorem raiseF_s0 {a b c : Nat} : (raiseF a b c s).s0 = s.s0 := calm_raiseF.s0_eq
@[simp] theorem raiseF_porter {a b c : Nat} : (raiseF a b c s).porter = s.porter := calm_raiseF.porter_eq
@[simp] theorem raiseF_loom {a b c : Nat} : (raiseF a b c s).loom = s.loom := calm_raiseF.loom_eq
@[simp] theorem raiseF_clu {a b c : Nat} : (raiseF a b c s).clu = s.clu := calm_raiseF.clu_eq
@[simp] theorem raiseF_warden {a b c : Nat} : (raiseF a b c s).warden = s.warden := calm_raiseF.warden_eq
@[simp] theorem raiseF_heat {a b c : Nat} : (raiseF a b c s).heat = s.heat := calm_raiseF.heat_eq
@[simp] theorem raiseF_panel {a b c : Nat} : (raiseF a b c s).panel = s.panel := calm_raiseF.panel_eq
@[simp] theorem raiseF_svc {a b c : Nat} : (raiseF a b c s).svc = s.svc := calm_raiseF.svc_eq
@[simp] theorem raiseF_safety {a b c : Nat} : (raiseF a b c s).safety = s.safety := calm_raiseF.safety_eq
@[simp] theorem raiseF_louv {a b c : Nat} : (raiseF a b c s).louv = s.louv := calm_raiseF.louv_eq
@[simp] theorem raiseF_aux {a b c : Nat} : (raiseF a b c s).aux = s.aux := calm_raiseF.aux_eq
@[simp] theorem raiseF_analog {a b c : Nat} : (raiseF a b c s).analog = s.analog := calm_raiseF.analog_eq
@[simp] theorem raiseF_sec {a b c : Nat} : (raiseF a b c s).sec = s.sec := calm_raiseF.sec_eq
@[simp] theorem raiseF_mppt {a b c : Nat} : (raiseF a b c s).mppt = s.mppt := calm_raiseF.mppt_eq
@[simp] theorem raiseF_isl {a b c : Nat} : (raiseF a b c s).isl = s.isl := calm_raiseF.isl_eq
@[simp] theorem raiseH_pwr {a b c : Nat} (ha : a < 256) : (raiseH a b c s).pwr = s.pwr := (calm_raiseH ha).pwr_eq
@[simp] theorem raiseH_permit {a b c : Nat} (ha : a < 256) : (raiseH a b c s).permit = s.permit := (calm_raiseH ha).permit_eq
@[simp] theorem raiseH_host {a b c : Nat} (ha : a < 256) : (raiseH a b c s).host = s.host := (calm_raiseH ha).host_eq
@[simp] theorem raiseH_wdog {a b c : Nat} (ha : a < 256) : (raiseH a b c s).wdog = s.wdog := (calm_raiseH ha).wdog_eq
@[simp] theorem raiseH_warp {a b c : Nat} (ha : a < 256) : (raiseH a b c s).warp = s.warp := (calm_raiseH ha).warp_eq
@[simp] theorem raiseH_clk {a b c : Nat} (ha : a < 256) : (raiseH a b c s).clk = s.clk := (calm_raiseH ha).clk_eq
@[simp] theorem raiseH_weave {a b c : Nat} (ha : a < 256) : (raiseH a b c s).weave = s.weave := (calm_raiseH ha).weave_eq
@[simp] theorem raiseH_s0 {a b c : Nat} (ha : a < 256) : (raiseH a b c s).s0 = s.s0 := (calm_raiseH ha).s0_eq
@[simp] theorem raiseH_porter {a b c : Nat} (ha : a < 256) : (raiseH a b c s).porter = s.porter := (calm_raiseH ha).porter_eq
@[simp] theorem raiseH_loom {a b c : Nat} (ha : a < 256) : (raiseH a b c s).loom = s.loom := (calm_raiseH ha).loom_eq
@[simp] theorem raiseH_clu {a b c : Nat} (ha : a < 256) : (raiseH a b c s).clu = s.clu := (calm_raiseH ha).clu_eq
@[simp] theorem raiseH_warden {a b c : Nat} (ha : a < 256) : (raiseH a b c s).warden = s.warden := (calm_raiseH ha).warden_eq
@[simp] theorem raiseH_heat {a b c : Nat} (ha : a < 256) : (raiseH a b c s).heat = s.heat := (calm_raiseH ha).heat_eq
@[simp] theorem raiseH_panel {a b c : Nat} (ha : a < 256) : (raiseH a b c s).panel = s.panel := (calm_raiseH ha).panel_eq
@[simp] theorem raiseH_svc {a b c : Nat} (ha : a < 256) : (raiseH a b c s).svc = s.svc := (calm_raiseH ha).svc_eq
@[simp] theorem raiseH_safety {a b c : Nat} (ha : a < 256) : (raiseH a b c s).safety = s.safety := (calm_raiseH ha).safety_eq
@[simp] theorem raiseH_louv {a b c : Nat} (ha : a < 256) : (raiseH a b c s).louv = s.louv := (calm_raiseH ha).louv_eq
@[simp] theorem raiseH_aux {a b c : Nat} (ha : a < 256) : (raiseH a b c s).aux = s.aux := (calm_raiseH ha).aux_eq
@[simp] theorem raiseH_analog {a b c : Nat} (ha : a < 256) : (raiseH a b c s).analog = s.analog := (calm_raiseH ha).analog_eq
@[simp] theorem raiseH_sec {a b c : Nat} (ha : a < 256) : (raiseH a b c s).sec = s.sec := (calm_raiseH ha).sec_eq
@[simp] theorem raiseH_mppt {a b c : Nat} (ha : a < 256) : (raiseH a b c s).mppt = s.mppt := (calm_raiseH ha).mppt_eq
@[simp] theorem raiseH_isl {a b c : Nat} (ha : a < 256) : (raiseH a b c s).isl = s.isl := (calm_raiseH ha).isl_eq
@[simp] theorem capture_pwr {a c : Nat} : (capture a c s).pwr = s.pwr := calm_capture.pwr_eq
@[simp] theorem capture_permit {a c : Nat} : (capture a c s).permit = s.permit := calm_capture.permit_eq
@[simp] theorem capture_host {a c : Nat} : (capture a c s).host = s.host := calm_capture.host_eq
@[simp] theorem capture_wdog {a c : Nat} : (capture a c s).wdog = s.wdog := calm_capture.wdog_eq
@[simp] theorem capture_warp {a c : Nat} : (capture a c s).warp = s.warp := calm_capture.warp_eq
@[simp] theorem capture_clk {a c : Nat} : (capture a c s).clk = s.clk := calm_capture.clk_eq
@[simp] theorem capture_weave {a c : Nat} : (capture a c s).weave = s.weave := calm_capture.weave_eq
@[simp] theorem capture_s0 {a c : Nat} : (capture a c s).s0 = s.s0 := calm_capture.s0_eq
@[simp] theorem capture_porter {a c : Nat} : (capture a c s).porter = s.porter := calm_capture.porter_eq
@[simp] theorem capture_loom {a c : Nat} : (capture a c s).loom = s.loom := calm_capture.loom_eq
@[simp] theorem capture_clu {a c : Nat} : (capture a c s).clu = s.clu := calm_capture.clu_eq
@[simp] theorem capture_warden {a c : Nat} : (capture a c s).warden = s.warden := calm_capture.warden_eq
@[simp] theorem capture_heat {a c : Nat} : (capture a c s).heat = s.heat := calm_capture.heat_eq
@[simp] theorem capture_panel {a c : Nat} : (capture a c s).panel = s.panel := calm_capture.panel_eq
@[simp] theorem capture_svc {a c : Nat} : (capture a c s).svc = s.svc := calm_capture.svc_eq
@[simp] theorem capture_safety {a c : Nat} : (capture a c s).safety = s.safety := calm_capture.safety_eq
@[simp] theorem capture_louv {a c : Nat} : (capture a c s).louv = s.louv := calm_capture.louv_eq
@[simp] theorem capture_aux {a c : Nat} : (capture a c s).aux = s.aux := calm_capture.aux_eq
@[simp] theorem capture_analog {a c : Nat} : (capture a c s).analog = s.analog := calm_capture.analog_eq
@[simp] theorem capture_sec {a c : Nat} : (capture a c s).sec = s.sec := calm_capture.sec_eq
@[simp] theorem capture_mppt {a c : Nat} : (capture a c s).mppt = s.mppt := calm_capture.mppt_eq
@[simp] theorem capture_isl {a c : Nat} : (capture a c s).isl = s.isl := calm_capture.isl_eq

end

end Sys2Proof.Machine
end

section
/-! SUPPORT. What the operations that several blocks share leave of a state: retained entries, demands and permits. -/

namespace Sys2Proof.Machine

set_option Elab.async false

section
variable {s : State} {f : Fld}

theorem get_eq_one_of_flag (h : s.flag f = true) : s.get f = 1 := by
  simpa [State.flag] using h

/-! ### Several free words (log entry 3) -/

theorem freeWords_succ (n : Nat) : freeWords (n + 1) s = ((freeWords n s).1 ++ [(freeWord (freeWords n s).2).1], (freeWord (freeWords n s).2).2) := by
  unfold freeWords
  rw [List.range_succ, List.foldl_append]
  rfl

theorem freeWords_length (n : Nat) : (freeWords n s).1.length = n := by
  induction n with
  | zero => rfl
  | succ n ih => simp [freeWords_succ, ih]

theorem freeWords_state (n : Nat) : (freeWords n s).2 = { s with free := s.free + n } := by
  induction n with
  | zero => rfl
  | succ n ih => simp [freeWords_succ, ih, freeWord, Nat.add_assoc]

/-! ### Retained entries (R516) -/

/-- A retained entry writes the three registers of the retained journal. -/
@[simp] theorem get_retain {c d : Nat} (hf : f.addr ≠ PORTER_RJOVWR_COUNT.addr ∧ f.addr ≠ PORTER_RJHEAD_SEQ.addr ∧ f.addr ≠ PORTER_RJTAIL_SEQ.addr) :
    (retain c d s).get f = s.get f := by
  obtain ⟨h1, h2, h3⟩ := hf
  unfold retain
  split
  · rfl
  · extract_lets q fl es dn src s1 s2
    have hs2 : s2.get f = s.get f := by
      unfold s2 
      split
      · exact get_put_ne s1 h1 _
      · rfl
    rw [get_put_ne _ h3, get_put_ne _ h2, hs2]

theorem retain_porter {c d : Nat} (hon : s.porter.on = true) :
    (retain c d s).porter = { s.porter with
      rj := ((⟨s.porter.next, s.porter.rtc, bit (!s.flag PORTER_STAT_RTCVALID) + 2 * s.get PORTER_STAT_SRC, c, d % 2 ^ 32⟩ : RjEntry) ::
        s.porter.rj).take 512
      next := (s.porter.next + 1) % 2 ^ 32
      down := if s.pwr.h = .run then s.porter.down else min (s.porter.down + 1) 0xFFFF } := by
  unfold retain
  rw [if_neg (by simp [hon])]
  extract_lets q fl es dn src s1 s2
  have hs2 : s2.porter = s1.porter := by
    unfold s2 
    split <;> rfl
  exact hs2

@[simp] theorem canon_retain {c d : Nat} : Canon (retain c d s) ↔ Canon s ∨ CanonNext (retain c d s) := 
  (within_retain (G := [0x20]) (Q := [.porter]) (within_refl _ _ s)).canon

theorem retain_same {c d : Nat} {x : Part} (hx : x ∉ [Part.porter]) : x.same s (retain c d s) :=
  (within_retain (G := [0x20]) (Q := [.porter]) (within_refl _ _ s)).same x hx

@[simp] theorem retain_pwr {c d : Nat} : (retain c d s).pwr = s.pwr := retain_same (x := .pwr) (by decide)
@[simp] theorem retain_sec {c d : Nat} : (retain c d s).sec = s.sec := retain_same (x := .sec) (by decide)
@[simp] theorem retain_safety {c d : Nat} : (retain c d s).safety = s.safety := retain_same (x := .safety) (by decide)

/-! ### Locks (R86) -/

theorem lockedMask_of_unlocked {page : Nat} (h : s.raw (page * 0x1000 + 0x020) = 0) (r : RegSpec) : lockedMask s page r = 0 := by
  unfold lockedMask
  rw [h]
  cases r.locks with
  | nil => rfl
  | cons g gs => simp

theorem unlessLocked_of_unlocked {a : Nat} {F : State → State} (h : s.raw (pageOf a * 0x1000 + 0x020) = 0) : unlessLocked a F s = F s := by
  unfold unlessLocked
  split
  · rename_i r _
    rw [lockedMask_of_unlocked h]
    by_cases hr : r.rw = 0 <;> simp [hr, eq_comm]
  · rfl

/-! ### Captures and event flags of H-die pages (R87, R88) -/

theorem pgerrCause_capture {a p cause : Nat} (hs : Canon s) (hp : pageOf a = p) (hc : cause < 16) :
    (capture a cause s).get (pgerrCause p) = cause := by
  subst hp
  exact (get_pgerr_capture a cause s rfl).trans (get_pgerrCause_recordPgerr hs a hc)

theorem pgerrCause_setEvt {page q m : Nat} (hpage : isF page = false) : (setEvt page m s).get (pgerrCause q) = s.get (pgerrCause q) := by
  unfold State.get
  rw [raw_setEvt_ne hpage (by omega) (not_inputReg_pgerr q)]

theorem pgerrCause_raiseH {a b c q : Nat} (ha : a < 256) : (raiseH a b c s).get (pgerrCause q) = s.get (pgerrCause q) := by
  unfold State.get raiseH
  split
  · rw [(signalled_edgeEvent ha _).raw _ (not_inputReg_pgerr q), raw_pgerr_journal]
  · rw [raw_pgerr_journal]

/-- An event of the H-die reaches no register of a page but those of the interrupt controller and of the journal. -/
theorem raw_raiseH_page {a b c x : Nat} (ha : a < 256) (hx : min (pageOf x) 0x100 ∉ [0x02, 0x04, 0x09, 0x51]) : (raiseH a b c s).raw x = s.raw x :=
  (within_raiseH (G := [0x02, 0x04, 0x09, 0x51]) (Q := [.link, .intc, .jr]) (within_refl _ _ s) ha).raw x hx

/-- The flags of an H-die page take those that are set. -/
theorem raw_pgevt_setEvt {page m : Nat} (hs : Canon s) (hpage : isF page = false) :
    (setEvt page m s).raw (page * 0x1000 + 0x010) = s.raw (page * 0x1000 + 0x010) ||| word m := by
  have hinput : ¬ InputReg (page * 0x1000 + 0x010) := by
    unfold InputReg PendingArray
    omega
  unfold setEvt noteEvt
  rw [(signalled_relevelBasic hpage _).raw _ hinput, if_neg (by simp [hpage]), raw_setRaw_same hs]

end

end Sys2Proof.Machine
end

section
/-! PROOFS. The porter's sources, harvester, battery, clock trim and door watch (R510–R514). -/

namespace Sys2Proof.Machine

set_option Elab.async false

section
variable {s : State} {f : Fld}

/-! ### The porter's clock, its journal and its events -/

@[simp] theorem canon_rtcAdvance {elapsed : Nat} : Canon (rtcAdvance elapsed s) ↔ Canon s := by
  unfold rtcAdvance
  split <;> rfl

@[simp] theorem get_rtcAdvance {elapsed : Nat} : (rtcAdvance elapsed s).get f = s.get f := by
  unfold rtcAdvance
  split <;> rfl

@[simp] theorem getI_rtcAdvance {elapsed : Nat} : (rtcAdvance elapsed s).getI f = s.getI f := by
  unfold rtcAdvance
  split <;> rfl

@[simp] theorem regs_rtcAdvance {elapsed : Nat} : (rtcAdvance elapsed s).regs = s.regs := by
  unfold rtcAdvance
  split <;> rfl

@[simp] theorem rj_rtcAdvance {elapsed : Nat} : (rtcAdvance elapsed s).porter.rj = s.porter.rj := by
  unfold rtcAdvance
  split <;> rfl

theorem rtcAdvance_porter {elapsed : Nat} (h : s.porter.on = true) :
    (rtcAdvance elapsed s).porter = { s.porter with rtc := (s.porter.rtc + elapsed) % 2 ^ 40 } := by
  simp [rtcAdvance, h]

@[simp] theorem get_porterEvent {b c d : Nat} (hf : ¬ Loud f.addr) : (porterEvent b c d s).get f = s.get f := by
  unfold porterEvent
  split
  · rw [get_raiseH (by decide) hf, get_setEvt hf]
  · rfl

@[simp] theorem porterEvent_porter {b c d : Nat} : (porterEvent b c d s).porter = s.porter := by
  unfold porterEvent
  split
  · simp
  · rfl

end


theorem source_bounds {src : Nat} (h : src = 1 ∨ src = 2 ∨ src = 3) : src ≠ 0 ∧ ¬ 4 ≤ src ∧ src % 4 = src := by omega

/-- A fraction of a tick is carried: what is left over a whole number of them. -/
theorem fract_bounds (x : Rat) : 0 ≤ x - x.floor ∧ x - x.floor < 1 := ⟨Int.fract_nonneg x, Int.fract_lt_one x⟩

/-- Settles O60, from what the porter's clock, its journal and its events leave. -/
theorem porterSourcesAndWatch : Obligations.PorterSourcesAndWatch := by
  unfold Obligations.PorterSourcesAndWatch
  intro s hinv
  have hs := canon_of_inv hinv
  refine ⟨?_, ?_, ?_, ?_, ?_, ?_, ?_, ?_, ?_, ?_, ?_⟩
  · intro src vsto elapsed hon hsrc hne hv
    refine doesWithin_run (fun t => frame_execPorterSourceChange) ?_
    obtain ⟨h0, h4, hmod⟩ := source_bounds hsrc
    have hv : min (vsto / 2) 4095 % 4096 = min (vsto / 2) 4095 := by omega
    simp [hon, h0, h4, hne.symm, rtcAdvance_porter, retain_porter, hs, hmod, hv]
  · intro elapsed hon
    refine doesWithin_run (fun t => frame_execPorterStop) ?_
    simp [hon, rtcAdvance_porter, hs]
  · intro src vsto hoff hsrc
    refine doesWithin_run (fun t => frame_execPorterRestart) ?_
    obtain ⟨h0, h4, hmod⟩ := source_bounds hsrc
    have hdwen : ((s.silent.setRaw 0x20040 (resetWord 0x20040)).setRaw 0x20048 (resetWord 0x20048)).get PORTER_CTL_DWEN = 0 := by
      unfold State.get
      rw [show PORTER_CTL_DWEN.addr = 0x20048 from rfl, raw_setRaw_same (canon_stored (s := s.silent) hs)]
      decide
    simp [hoff, h0, h4, retain_porter, hs, hmod, hdwen]
  · intro voc vsto elapsed ⟨hvl, hvh⟩ ⟨hl, hh⟩
    refine doesWithin_run (fun t => frame_execHarvestSample) ?_
    have hmin : min vsto 4100 = vsto := by omega
    have hmod : vsto / 2 % 4096 = vsto / 2 := by omega
    simp [hvl, hvh, hl, hh, hmin, hs, hmod]
  · intro voc vsto elapsed h
    refine doesWithin_run (fun t => frame_execHarvestSample) ?_
    have hmod : min vsto 4100 / 2 % 4096 = min vsto 4100 / 2 := by omega
    simp [hs, hmod]
    omega
  · intro mv elapsed hon hmv hbat
    refine doesWithin_run (fun t => frame_execBatteryMeasure) ?_
    have hmin : min mv 4095 = mv := by omega
    have hmod : mv % 4096 = mv := by omega
    simp [hon, hmv, hbat, rtcAdvance_porter, retain_porter, hs, hmin, hmod]
  · intro mv elapsed hon hlo hhi hbat
    refine doesWithin_run (fun t => frame_execBatteryMeasure) ?_
    have hmin : min mv 4095 = mv := by omega
    have hmod : mv % 4096 = mv := by omega
    simp [hon, show ¬ mv < 1500 by omega, show ¬ mv < 2300 by omega, hbat, rtcAdvance_porter, hs, hmin, hmod]
  · intro elapsed hon htrim ht0 hticks
    refine doesWithin_run (fun t => frame_execRtcTrim) ?_
    have hsecs : (s.porter.ticks / 32768 : Int) = 0 := by omega
    have hmod : s.porter.ticks % 32768 = s.porter.ticks := by omega
    simp [hon, htrim, ht0, rtcAdvance_porter, hsecs, hmod, show Rat.floor 0 = 0 from rfl]
    omega
  · intro elapsed hon hticks
    refine doesWithin_run (fun t => frame_execRtcTrim) ?_
    simp only [silent_porter, hon, rtcAdvance_porter, getI_rtcAdvance, getI_silent, Bool.not_true, Bool.false_eq_true, if_false]
    generalize hx : s.porter.trim + (s.getI PORTER_RTCTRIM_TRIM : Int) * 2097152 / (10000000 : Rat) = x
    obtain ⟨hge, hlt⟩ := fract_bounds x
    have hdiv : ((((s.porter.ticks + x.floor) % 32768 : Int)) : Rat) = s.porter.ticks + x.floor - 32768 * (((s.porter.ticks + x.floor) / 32768 : Int) : Rat) := by
      have := Int.emod_add_mul_ediv (s.porter.ticks + x.floor) 32768
      exact_mod_cast (by omega)
    refine ⟨by omega, ⟨hge, hlt⟩, ?_⟩
    rw [hdiv, ← hx]
    ring
  · intro levels elapsed d hon hsrc hen hdoors hmask hne hseen
    refine doesWithin_run (fun t => frame_execDoorWatch) ?_
    simp [hon, hsrc, hen, hdoors, hmask, hseen, hne, rtcAdvance_porter, retain_porter]
  · intro levels elapsed d hon hsrc hen hdoors hmask hseen hd
    refine doesWithin_run (fun t => frame_execDoorWatch) ?_
    simp [hon, hsrc, hen, hdoors, hmask, hseen, hd, rtcAdvance_porter]

end Sys2Proof.Machine
end

section
/-! PROOFS. The Wicket port (R505, R506). -/

namespace Sys2Proof.Machine

set_option Elab.async false

theorem scopeOpen_boundaryScan {s : State} {ir pins preload b : Nat} : scopeOpen (boundaryScan ir pins preload s) b = scopeOpen s b := rfl

section
variable {s : State}

@[simp] theorem tokenOk_silent {t : List Word} {kind signer arg : Nat} {nonce : List Word} :
    tokenOk s.silent t kind signer arg nonce = tokenOk s t kind signer arg nonce := rfl
@[simp] theorem tokSigner_silent {t : List Word} : tokSigner s.silent t = tokSigner s t := rfl
@[simp] theorem wicketSigner_silent {c : Nat} : wicketSigner s.silent c = wicketSigner s c := rfl

/-! ### A response that fails (R506) -/

@[simp] theorem wicketFail_sec : (wicketFail s).sec = s.sec := by
  simp [wicketFail, apply_ite State.sec]

variable (hs : Canon s)
include hs

@[simp] theorem get_scope_wicketFail : (wicketFail s).get WICKET_STAT_SCOPE = s.get WICKET_STAT_SCOPE := by
  simp [wicketFail, hs]

@[simp] theorem get_fails_wicketFail : (wicketFail s).get WICKET_STAT_FAILS = min (s.get WICKET_STAT_FAILS + 1) 3 := by
  have hmod : min (s.get WICKET_STAT_FAILS + 1) 3 % 4 = min (s.get WICKET_STAT_FAILS + 1) 3 := by omega
  simp [wicketFail, hs, hmod]

theorem get_lockout_wicketFail (h : s.get WICKET_STAT_LOCKOUT = 0) :
    (wicketFail s).get WICKET_STAT_LOCKOUT = bit (decide (2 ≤ s.get WICKET_STAT_FAILS)) := by
  have hn : min (s.get WICKET_STAT_FAILS + 1) 3 = 3 ↔ 2 ≤ s.get WICKET_STAT_FAILS := by omega
  simp [wicketFail, hs, hn, h, bit]

end

/-- Settles O59. -/
theorem wicketPort : Obligations.WicketPort := by
  unfold Obligations.WicketPort
  intro s hinv
  have hs := canon_of_inv hinv
  refine ⟨?_, ?_, ?_, ?_, ?_, ?_, ?_, ?_, ?_, ?_, ?_, ?_⟩
  · intro pins preload hclosed
    refine doesWithin_run (fun t => frame_execExtest) ?_
    have h : extestDrives (boundaryScan 0 pins preload s.silent) = false := hclosed
    simp only [h]
    exact ⟨rfl, rfl, rfl, rfl⟩
  · intro pins preload hopen
    refine doesWithin_run (fun t => frame_execExtest) ?_
    have h : extestDrives (boundaryScan 0 pins preload s.silent) = true := hopen
    simp only [h]
    exact ⟨rfl, rfl, rfl, rfl⟩
  · intro pins preload
    exact doesWithin_run (fun t => frame_execSamplePreload) ⟨rfl, rfl, rfl, rfl⟩
  · exact doesWithin_run (fun t => frame_execIdcode) ⟨rfl, ⟨_, Config.wicketMaker.isLt, rfl⟩, rfl⟩
  · refine doesWithin_run (fun t => frame_execChallenge) ⟨rfl, ⟨_, freeWords_length 8, rfl, rfl⟩, ?_⟩
    simp [freeWords_state]
  · intro token ch hlock hdis hshut hch
    refine doesWithin_run (fun t => frame_execResponse) ?_
    have hscope : (s.get WICKET_STAT_SCOPE ||| tokArg token % 4) % 4 = s.get WICKET_STAT_SCOPE ||| tokArg token % 4 :=
      Nat.mod_eq_of_lt (Nat.or_lt_two_pow (get_lt s WICKET_STAT_SCOPE) (Nat.mod_lt _ (by decide)))
    have hlock0 : s.get WICKET_STAT_LOCKOUT = 0 := get_eq_zero_of_flag rfl hlock
    by_cases hok : tokenOk s token 5 (tokSigner s token) (tokArg token) ch = true ∧ wicketSigner s (tokSigner s token) = true
    · by_cases hsc : tokArg token % 4 = 0
      · simp [hlock, hdis, hshut, hch, hok, hsc]
      · simp [hlock, hdis, hshut, hch, hok, hsc, hs, hscope]
    · have hbad : tokenOk s token 5 (tokSigner s token) (tokArg token) ch = false ∨ wicketSigner s (tokSigner s token) = false := by
        simpa [imp_iff_not_or] using hok
      obtain hbad | hbad := hbad <;> simp [hlock, hdis, hshut, hch, hbad, hs, get_lockout_wicketFail, hlock0] <;> rfl
  · intro token hlock
    refine doesWithin_run (fun t => frame_execResponse) ?_
    simp [hlock]
  · exact doesWithin_run (fun t => frame_execWstatus) ⟨rfl, rfl, rfl⟩
  · exact doesWithin_run (fun t => frame_execBypass) ⟨rfl, rfl, rfl⟩
  · refine doesWithin_run (fun t => frame_execTrstLow) ?_
    simp [closeScopes, hs]
  · intro hunlocked
    refine does_run rfl ?_
    simp [wicketCtlWrite, closeScopes, unlessLocked_of_unlocked, pageOf, hunlocked]
  · intro hunlocked
    refine doesWithin_run (fun t => frame_execWicketDisable) ?_
    simp [wicketCtlWrite, unlessLocked_of_unlocked, pageOf, hunlocked, hs]

end Sys2Proof.Machine
end

section
/-! REFUTATIONS. The converter's runs. -/

namespace Sys2Proof.Machine

set_option Elab.async false

/-- Core 15, which no page 0x68 to 0x6F serves, runs; its sequence asks for a window comparison, and the window's limits read as 0. -/
def coreBeyondPages : State :=
  { State.reset with
    weave := { State.reset.weave with img := some { oneCellImage with adcseq := [⟨15, 0, 2 ^ 15⟩] } }
    adc := { State.reset.adc with cores := List.replicate 16 { AdcCore.reset with run := some ⟨0, 2, 0, 0, 0, 0, false⟩ } } }

/-- Refutes O25: the list of cores may be longer than eight, and the window of core 15 then stores its OUT in page 0x77, outside the frame. -/
theorem not_converterRunsAndComparators : ¬ Obligations.ConverterRunsAndComparators := by
  unfold Obligations.ConverterRunsAndComparators
  intro h
  obtain ⟨-, -, hdone, -⟩ := h coreBeyondPages (by decide +kernel)
  obtain ⟨t, hexec, -, hpages, -⟩ := hdone 15 0 1 ⟨0, 2, 0, 0, 0, 0, false⟩ (by decide +kernel) (by decide +kernel) (by decide +kernel)
    (by decide) (by decide) (by decide) (by decide +kernel)
  obtain rfl := Host.Outcome.next.inj hexec
  exact absurd (hpages 0x77058 (by decide)) (by decide +kernel)

end Sys2Proof.Machine
end

section
/-! REFUTATIONS. The shuttle link: interrupt sources that leave their hold. -/

namespace Sys2Proof.Machine

set_option Elab.async false

/-- The link is up with channel 0 in service, and a source whose pending bit lies in page 0x05 waits to leave its hold with its level asserted. -/
def sourceBeyondPage (up : Bool) : State :=
  { State.reset with
    intc := { State.reset.intc with level := [97792], dropped := [97792] }
    link := { State.reset.link with up := up, fh := { State.reset.link.fh with rx0 := true } }
    pwr := { State.reset.pwr with h := .run, f := .run }
    sec := { State.reset.sec with key := false } }

/-- Refutes O16: nothing bounds the numbers of the sources that wait for the F-die's status bits, and one beyond the table becomes pending in
another page. -/
theorem not_keepalivesAndReplay : ¬ Obligations.KeepalivesAndReplay := by
  unfold Obligations.KeepalivesAndReplay
  intro h
  obtain ⟨hbits, -⟩ := h (sourceBeyondPage true) (by decide +kernel)
  obtain ⟨t, hexec, -, hpages, -⟩ := hbits 0 0 0 (by decide +kernel) (by decide) (by decide +kernel) (by decide +kernel) (by decide)
  obtain rfl := Host.Outcome.next.inj hexec
  exact absurd (hpages 0x5000 (by decide)) (by decide +kernel)

/-- Refutes O17: when the link comes up, such a source becomes pending in another page as well. -/
theorem not_channelsLinkAndTimeMarks : ¬ Obligations.ChannelsLinkAndTimeMarks := by
  unfold Obligations.ChannelsLinkAndTimeMarks
  intro h
  obtain ⟨-, -, -, -, hup, -⟩ := h (sourceBeyondPage false) (by decide +kernel)
  obtain ⟨t, hexec, -, hpages, -⟩ := hup 1 1 (by decide +kernel) (by decide +kernel) (by decide +kernel) (by decide +kernel) (by decide)
    (by decide) (by decide +kernel)
  obtain rfl := Host.Outcome.next.inj hexec
  exact absurd (hpages 0x5000 (by decide)) (by decide +kernel)

end Sys2Proof.Machine
end

section
/-! SUPPORT. What events leave of the link: those of the H-die all of it, those of the F-die all but the F-die's queue and backlog. -/

namespace Sys2Proof.Machine

set_option Elab.async false

section
variable {s : State}

/-! ### Events of the H-die (R98, R99, R108) -/

theorem sendMsix_link {n : Nat} : (sendMsix n s).link = s.link := by
  simp [sendMsix, apply_ite State.link, emit]

theorem announce_link {old : State} {n : Nat} : (announce old n s).link = s.link := by
  simp [announce, apply_ite State.link, sendMsix_link]

theorem edgeEvent_link {n : Nat} : (edgeEvent n s).link = s.link := announce_link

theorem levelInput_link {n : Nat} {b : Bool} : (levelInput n b s).link = s.link := by
  simp [levelInput, apply_ite State.link, announce_link]

theorem setEvt_link {page m : Nat} (hpage : isF page = false) : (setEvt page m s).link = s.link := by
  simp [setEvt, relevelBasic, noteEvt, hpage, apply_ite State.link, levelInput_link]

theorem journal_link {w : Word} {a b c d e : Nat} : (journal w a b c d e s).link = s.link := by
  unfold journal
  rw [setEvt_link rfl]
  simp [apply_ite State.link]

@[simp] theorem raiseH_link {a b c : Nat} : (raiseH a b c s).link = s.link := by
  simp [raiseH, apply_ite State.link, edgeEvent_link, journal_link]

theorem capture_link {a c : Nat} (ha : isF (pageOf a) = false) : (capture a c s).link = s.link := by
  simp [capture, ha]

/-! ### Events of the F-die (R49, R56, R102) -/

/-- The link as an event of the F-die may leave it. -/
def EventLink (l k : Link) : Prop :=
  k = { l with
    fh := { l.fh with queue := k.fh.queue }, backlog := k.backlog, lostNow := k.lostNow, flevel := k.flevel, flost := k.flost,
    selvHeld := k.selvHeld, evNow := k.evNow }

theorem eventLink_refl (l : Link) : EventLink l l := rfl

theorem EventLink.trans {l k m : Link} (h : EventLink l k) (j : EventLink k m) : EventLink l m := by
  unfold EventLink at *
  rw [j, h]

theorem eventLink_ite {l : Link} {a b : State} {p : Prop} [Decidable p] (ha : EventLink l a.link) (hb : EventLink l b.link) :
    EventLink l (if p then a else b).link := by
  split <;> assumption

theorem eventLink_discard {e : Event} : EventLink s.link (discard e s).link := by
  unfold discard
  extract_lets one s1
  have h1 : EventLink s.link s1.link := rfl
  exact eventLink_ite (h1.trans rfl) h1

theorem eventLink_fSend {e : Event} : EventLink s.link (fSend e s).link :=
  eventLink_ite rfl (eventLink_ite rfl (eventLink_ite rfl eventLink_discard))

theorem eventLink_raiseF {a b c : Nat} : EventLink s.link (raiseF a b c s).link := eventLink_fSend

theorem eventLink_relevelBasic {page : Nat} : EventLink s.link (relevelBasic page s).link := by
  unfold relevelBasic
  extract_lets n b
  refine eventLink_ite rfl (eventLink_ite (eventLink_ite rfl ?_) ?_)
  · have h1 : EventLink s.link { s.link with flevel := if b then insertNat n s.link.flevel else s.link.flevel.filter (· != n) } := rfl
    exact h1.trans eventLink_raiseF
  · rw [levelInput_link]
    exact eventLink_refl _

theorem eventLink_noteEvt {page m : Nat} : EventLink s.link (noteEvt page m s).link := eventLink_ite rfl rfl

theorem eventLink_setEvt {page m : Nat} : EventLink s.link (setEvt page m s).link := by
  unfold setEvt
  generalize s.raw (page * 0x1000 + 0x010) ||| word m = w
  have h1 : (s.setRaw (page * 0x1000 + 0x010) w).link = s.link := rfl
  rw [← h1]
  exact eventLink_noteEvt.trans eventLink_relevelBasic

theorem eventLink_capture {a c : Nat} : EventLink s.link (capture a c s).link := by
  unfold capture
  extract_lets p s1 code
  refine eventLink_ite ?_ ?_
  · exact EventLink.trans (k := s1.link) rfl eventLink_raiseF
  · rw [raiseH_link]
    rfl

@[simp] theorem raiseF_link_up {a b c : Nat} : (raiseF a b c s).link.up = s.link.up := by rw [eventLink_raiseF]
@[simp] theorem raiseF_link_hf {a b c : Nat} : (raiseF a b c s).link.hf = s.link.hf := by rw [eventLink_raiseF]
@[simp] theorem raiseF_link_soon {a b c : Nat} : (raiseF a b c s).link.soon = s.link.soon := by rw [eventLink_raiseF]
@[simp] theorem raiseF_link_reads {a b c : Nat} : (raiseF a b c s).link.reads = s.link.reads := by rw [eventLink_raiseF]
@[simp] theorem raiseF_link_gathers {a b c : Nat} : (raiseF a b c s).link.gathers = s.link.gathers := by rw [eventLink_raiseF]
@[simp] theorem raiseF_link_access {a b c : Nat} : (raiseF a b c s).link.access = s.link.access := by rw [eventLink_raiseF]
@[simp] theorem raiseF_link_arrived {a b c : Nat} : (raiseF a b c s).link.arrived = s.link.arrived := by rw [eventLink_raiseF]
@[simp] theorem raiseF_link_fNotReady {a b c : Nat} : (raiseF a b c s).link.fNotReady = s.link.fNotReady := by rw [eventLink_raiseF]
@[simp] theorem raiseF_link_selvHolding {a b c : Nat} : (raiseF a b c s).link.selvHolding = s.link.selvHolding := by rw [eventLink_raiseF]
@[simp] theorem raiseF_link_gated {a b c : Nat} : (raiseF a b c s).link.gated = s.link.gated := by rw [eventLink_raiseF]
@[simp] theorem setEvt_link_up {p m : Nat} : (setEvt p m s).link.up = s.link.up := by rw [eventLink_setEvt]
@[simp] theorem setEvt_link_hf {p m : Nat} : (setEvt p m s).link.hf = s.link.hf := by rw [eventLink_setEvt]
@[simp] theorem setEvt_link_soon {p m : Nat} : (setEvt p m s).link.soon = s.link.soon := by rw [eventLink_setEvt]
@[simp] theorem setEvt_link_reads {p m : Nat} : (setEvt p m s).link.reads = s.link.reads := by rw [eventLink_setEvt]
@[simp] theorem setEvt_link_gathers {p m : Nat} : (setEvt p m s).link.gathers = s.link.gathers := by rw [eventLink_setEvt]
@[simp] theorem setEvt_link_access {p m : Nat} : (setEvt p m s).link.access = s.link.access := by rw [eventLink_setEvt]
@[simp] theorem setEvt_link_arrived {p m : Nat} : (setEvt p m s).link.arrived = s.link.arrived := by rw [eventLink_setEvt]
@[simp] theorem setEvt_link_fNotReady {p m : Nat} : (setEvt p m s).link.fNotReady = s.link.fNotReady := by rw [eventLink_setEvt]
@[simp] theorem setEvt_link_selvHolding {p m : Nat} : (setEvt p m s).link.selvHolding = s.link.selvHolding := by rw [eventLink_setEvt]
@[simp] theorem setEvt_link_gated {p m : Nat} : (setEvt p m s).link.gated = s.link.gated := by rw [eventLink_setEvt]

end

end Sys2Proof.Machine
end

section
/-! PROOFS. The safe stop: inputs, tests, resets and demands, and the seal switches (R454–R461, R464, R465). -/

namespace Sys2Proof.Machine

set_option Elab.async false

section
variable {s : State}

@[simp] theorem monitored_silent {i : Nat} : monitored s.silent i = monitored s i := rfl

/-! ### Demands and faults -/

@[simp] theorem canon_demand {code chans : Nat} : Canon (demand code chans s) ↔ Canon s ∨ CanonNext (demand code chans s) :=
  (within_demand (G := [0x02, 0x03, 0x04, 0x09, 0x14, 0x51]) (Q := [.link, .intc, .jr]) (within_refl _ _ s)).canon

theorem demand_same {code chans : Nat} {x : Part} (hx : x ∉ [Part.link, .intc, .jr]) : x.same s (demand code chans s) :=
  (within_demand (G := [0x02, 0x03, 0x04, 0x09, 0x14, 0x51]) (Q := [.link, .intc, .jr]) (within_refl _ _ s)).same x hx

@[simp] theorem demand_safety {code chans : Nat} : (demand code chans s).safety = s.safety := demand_same (x := .safety) (by decide)

@[simp] theorem safetyFault_safety {i cause : Nat} : (safetyFault i cause s).safety = s.safety := by
  simp [safetyFault, recordFault]

@[simp] theorem safetyFault_link {i cause : Nat} : (safetyFault i cause s).link = s.link := by
  simp [safetyFault, recordFault, setEvt_link, isF]

theorem demand_soon {code chans : Nat} :
    (demand code chans s).link.soon = s.link.soon.filter (· != .postedWr 0x51050 [0]) ++ [.postedWr 0x51050 [0]] := by
  simp [demand, nextSlot, putHSwarp, apply_ite State.link, setEvt_link, isF]

section
variable (hs : Canon s)
include hs

@[simp] theorem get_demand_block {code chans : Nat} : (demand code chans s).get SAFETY_STAT_BLOCK = 0 := by
  simp [demand, nextSlot, putHSwarp, hs]

@[simp] theorem get_demand_permit {code chans : Nat} : (demand code chans s).get SAFETY_STAT_PERMIT = 0 := by
  simp [demand, nextSlot, putHSwarp, hs]

@[simp] theorem get_demand_count {code chans : Nat} :
    (demand code chans s).get SAFETY_DEMCNT_COUNT = min (s.get SAFETY_DEMCNT_COUNT + 1) (2 ^ 32 - 1) := by
  simp [demand, nextSlot, putHSwarp, hs]

theorem get_demand_running {code chans : Nat} (hrun : s.get SAFETY_STAT_BLOCK = 1) : (demand code chans s).get SHUTTLE_H_STAT_PERMIT = 0 := by
  simp [demand, nextSlot, putHSwarp, hs, hrun]

/-- A demand changes the link's page, and of the block's page the state, the permit, the count and the instant. -/
theorem get_demand {code chans : Nat} {f : Fld} (hquiet : ¬ Loud f.addr) (hlink : f.addr ≠ SHUTTLE_H_STAT_PERMIT.addr)
    (hinstant : f.addr ≠ SAFETY_DEMW_SWARP.addr) (hcount : f.addr ≠ SAFETY_DEMCNT_COUNT.addr) (hstat : f.addr ≠ SAFETY_STAT_BLOCK.addr ∨ 3 ≤ f.lo) :
    (demand code chans s).get f = s.get f := by
  unfold demand nextSlot
  extract_lets running s1 s2 s3 s4
  have h1 : s1.get f = s.get f := (get_put_ne _ hinstant _).trans (get_put_ne _ hcount _)
  have h2 : s2.get f = s.get f := by
    rw [← h1]
    exact (get_raiseH (by decide) hquiet).trans (get_setEvt hquiet)
  have hs2 : Canon s2 := by simp [s2, s1, putHSwarp, hs]
  have h3 : s3.get f = s.get f := by
    rw [← h2]
    exact (get_put_disjoint (canon_stored hs2) (by decide) (hstat.imp_right fun h => .inr h) _).trans
      (get_put_disjoint hs2 (by decide) (hstat.imp_right fun h => .inr (Nat.le_of_succ_le h)) _)
  rw [← h3]
  unfold s4
  split
  · exact (get_raiseH (by decide) hquiet).trans (get_put_ne _ hlink _)
  · rfl

end

/-! ### Requests for a reset (R459, R460) -/

/-- A host's request that is refused: captured, and reported with one of the reasons. -/
theorem resetRequest_refused {same : Bool} (h : same = true ∨ s.get SAFETY_STAT_BLOCK ≠ 0 ∨ s.flag SAFETY_STAT_RECORD = false) :
    ∃ r, resetRequest false same s = resetRefused r (capture SAFETY_RESET_KEY.addr 3 s) := by
  unfold resetRequest
  extract_lets refuse
  by_cases hsame : same = true
  · exact ⟨0, by simp [hsame, refuse]⟩
  · by_cases hblock : s.get SAFETY_STAT_BLOCK = 0
    · exact ⟨3, by simp_all [refuse]⟩
    · exact ⟨1, by simp [hsame, hblock, refuse]⟩

theorem pgerrCause_resetRefused {r : Nat} (hs : Canon s) : (resetRefused r (capture SAFETY_RESET_KEY.addr 3 s)).get (pgerrCause 0x14) = 3 := by
  unfold resetRefused
  rw [pgerrCause_raiseH (by decide), pgerrCause_setEvt rfl]
  exact pgerrCause_capture hs rfl (by decide)

theorem raw_pgevt_resetRefused {r : Nat} (hs : Canon s) :
    (resetRefused r (capture SAFETY_RESET_KEY.addr 3 s)).raw 0x14010 &&& 8#32 = 8#32 := by
  have hc : Canon (capture SAFETY_RESET_KEY.addr 3 s) := by simp [hs]
  unfold resetRefused
  rw [raw_raiseH_page (by decide) (by decide)]
  have hflags := raw_pgevt_setEvt (m := 8) hc (page := 0x14) rfl
  norm_num at hflags
  rw [hflags]
  generalize State.raw _ _ = w
  ext i
  simp +contextual [word]

/-! ### The seal switches (R464, R465) -/

@[simp] theorem get_passSeal {f : Fld} : (passSeal s).get f = s.get f := rfl
@[simp] theorem flag_passSeal {f : Fld} : (passSeal s).flag f = s.flag f := rfl
@[simp] theorem passSeal_safety : (passSeal s).safety = s.safety := rfl

@[simp] theorem setSeal_safety {b : Bool} : (setSeal b s).safety = s.safety := by
  simp [setSeal, apply_ite State.safety]

@[simp] theorem sealMismatch_safety {w : Nat} : (sealMismatch w s).safety = s.safety := by
  simp [sealMismatch, putHSwarp]

section
variable (hs : Canon s)
include hs

@[simp] theorem get_setSeal_permit {b : Bool} : (setSeal b s).get SEAL_STAT_PERMIT = bit b := by
  unfold setSeal
  split
  · rename_i h
    cases b with
    | false => exact get_eq_zero_of_flag rfl h
    | true => simpa [State.flag, bit] using h
  · simp [hs]

@[simp] theorem get_setSeal_other {b : Bool} {f : Fld} (hf : f.addr ≠ SEAL_STAT_PERMIT.addr ∨ f.lo + f.wd ≤ 8 ∨ 9 ≤ f.lo) :
    (setSeal b s).get f = s.get f := by
  unfold setSeal
  split
  · rfl
  · exact get_put_disjoint hs (by decide) hf _

@[simp] theorem get_sealMismatch_permit {w : Nat} : (sealMismatch w s).get SEAL_STAT_PERMIT = 0 := by
  simp [sealMismatch, putHSwarp, hs, bit]

@[simp] theorem get_sealMismatch_count {w : Nat} : (sealMismatch w s).get SEAL_CNT_MIS = min (s.get SEAL_CNT_MIS + 1) (2 ^ 16 - 1) := by
  simp [sealMismatch, putHSwarp, hs]

@[simp] theorem get_sealMismatch_word {w : Nat} : (sealMismatch w s).get SEAL_STAT_WORD = s.get SEAL_STAT_WORD := by
  simp [sealMismatch, putHSwarp, hs]

@[simp] theorem get_sealMismatch_busy {w : Nat} : (sealMismatch w s).get SEAL_STAT_BUSY = s.get SEAL_STAT_BUSY := by
  simp [sealMismatch, putHSwarp, hs]

end

end

/-- Settles O54, from what demands, refusals and reads of the seal switches leave. -/
theorem safetyResetsAndSealReads : Obligations.SafetyResetsAndSealReads := by
  unfold Obligations.SafetyResetsAndSealReads
  intro s hinv
  have hs := canon_of_inv hinv
  refine ⟨?_, ?_, ?_, ?_, ?_, ?_, ?_, ?_, ?_, ?_, ?_, ?_⟩
  · rintro value same rfl rfl hblock hrecord hopen
    refine doesWithin_run (fun t => frame_execSafetyReset) ?_
    simp [safetyResetWrite, resetRequest, hs, hblock, hrecord, hopen]
  · intro value same hkey
    refine doesWithin_run (fun t => frame_execSafetyReset) ?_
    simp [safetyResetWrite, hkey]
    exact pgerrCause_capture hs rfl (by decide)
  · rintro value same rfl hrefused
    refine doesWithin_run (fun t => frame_execSafetyReset) ?_
    obtain ⟨r, hr⟩ := resetRequest_refused (s := s.silent) hrefused
    simp only [safetyResetWrite, hr, if_true]
    exact ⟨pgerrCause_resetRefused hs, raw_pgevt_resetRefused hs, by simp [resetRefused], by simp [resetRefused]⟩
  · rintro value rfl
    refine doesWithin_run (fun t => frame_execSafetyStop) ?_
    simp [safetyStopWrite, hs]
  · rintro value rfl
    refine does_run rfl ?_
    simp [safetyStopWrite]
  · intro s1 s2 s3 hretry hsame hrecord hmatch
    refine doesWithin_run (fun t => frame_execSealRead) ?_
    rw [hsame.1, hsame.2] at hmatch
    cases hpermit : s.flag SEAL_STAT_PERMIT with
    | false => simp [hretry, sealSamples, hsame, hrecord, hmatch, hpermit, hs, bit]
    | true => simp [hretry, sealSamples, hsame, hrecord, hmatch, hpermit, get_eq_one_of_flag hpermit, hs]
  · intro s1 s2 s3 hretry hsame hrecord hmatch
    refine doesWithin_run (fun t => frame_execSealRead) ?_
    rw [hsame.1, hsame.2] at hmatch
    simp [hretry, sealSamples, hsame, hrecord, hmatch, hs]
  · intro s1 s2 s3 hretry hdiff hfew
    refine doesWithin_run (fun t => frame_execSealRead) ?_
    have hless : s.safety.incons + 1 < 3 := Nat.succ_lt_succ hfew
    simp [hretry, sealSamples, hdiff, hless, hs]
  · intro hbusy
    refine does_run rfl ?_
    simp [sealReadWrite, hbusy]
  · intro hbusy
    refine doesWithin_run (fun t => frame_execSealReadCmd) ?_
    simp [sealReadWrite, hbusy]
    exact ⟨pgerrCause_capture hs rfl (by decide), get_eq_one_of_flag hbusy⟩
  · intro s1 s2 s3 hretry hdiff hmany
    refine doesWithin_run (fun t => frame_execSealRetry) ?_
    have hlast : ¬ s.safety.incons + 1 < 3 := by omega
    simp [hretry, sealSamples, hdiff, hlast, hs]
  · intro s1 s2 s3 hretry hsame hrecord
    refine doesWithin_run (fun t => frame_execSealRetry) ?_
    simp [hretry, sealSamples, hsame, hrecord, hs]

end Sys2Proof.Machine
end

section
/-! PROOFS. Samples of the safety inputs, test pulses, the self-test and the permit's readback (R454–R458). -/

namespace Sys2Proof.Machine

set_option Elab.async false

section
variable {s : State}

@[simp] theorem subBit_addr {f : Fld} {n : Nat} : (subBit f n).addr = f.addr := rfl

theorem monitored_put {f : Fld} {v i : Nat} (hf : SAFETY_CFG_MON.addr ≠ f.addr) : monitored (s.put f v) i = monitored s i :=
  congrArg (· == 1) (get_put_ne (g := subBit SAFETY_CFG_MON i) _ hf _)

/-! ### The filters (R454) -/

theorem filterChan_of_unmonitored {levels c : Nat} (h : monitored s (c / 2) = false) : filterChan levels c s = s := by
  simp [filterChan, h]

/-- What the filter of a channel holds after a sample. -/
def filtered (levels c : Nat) (s : State) : Option Bool :=
  if s.safety.last.getD c none == some (levels.testBit c) then some (levels.testBit c) else s.safety.filt.getD c none

theorem filterChan_safety {levels c : Nat} (h : monitored s (c / 2) = true) :
    (filterChan levels c s).safety = { s.safety with
      last := s.safety.last.set c (some (levels.testBit c)), filt := s.safety.filt.set c (filtered levels c s) } := by
  simp only [filterChan, h, filtered, Bool.not_true, Bool.false_eq_true, if_false]
  rfl

@[simp] theorem filterChan_link {levels c : Nat} : (filterChan levels c s).link = s.link := by
  simp [filterChan, apply_ite State.link]

@[simp] theorem canon_filterChan {levels c : Nat} : Canon (filterChan levels c s) ↔ Canon s ∨ CanonNext (filterChan levels c s) := by
  refine canon_next fun h => ?_
  unfold filterChan
  split
  · exact h
  · exact canon_stored h

/-- A filter leaves every field but its bit of `STAT.RAW`. -/
theorem get_filterChan {levels c : Nat} {f : Fld} (hs : Canon s) (hc : c < 10) (hf : f.addr ≠ SAFETY_STAT_RAW.addr ∨ f.lo + f.wd ≤ 14) :
    (filterChan levels c s).get f = s.get f := by
  unfold filterChan
  split
  · rfl
  · have hd : f.addr ≠ SAFETY_STAT_RAW.addr ∨ f.lo + f.wd ≤ 14 + c ∨ 14 + c + 1 ≤ f.lo := by omega
    have hfits : 14 + c + 1 ≤ 32 := by omega
    extract_lets x v s0 s1
    have hs1 : Canon s1 := hs
    exact get_put_disjoint (f := ⟨SAFETY_STAT_RAW.addr, 14 + c, 1⟩) hs1 hfits hd _

@[simp] theorem monitored_filterChan {levels c i : Nat} : monitored (filterChan levels c s) i = monitored s i := by
  unfold filterChan
  split
  · rfl
  · exact congrArg (· == 1) (get_put_ne (g := subBit SAFETY_CFG_MON i) _ (by simp) _)

/-- The safety block after the two channels of input 2 have been filtered. -/
theorem sampled_safety (levels : Nat) (hmon : monitored s 2 = true) :
    (filterChan levels 5 (filterChan levels 4 s)).safety = { s.safety with
      last := (s.safety.last.set 4 (some (levels.testBit 4))).set 5 (some (levels.testBit 5))
      filt := (s.safety.filt.set 4 (filtered levels 4 s)).set 5 (filtered levels 5 s) } := by
  have h4 := filterChan_safety (levels := levels) (c := 4) hmon
  rw [filterChan_safety (c := 5) (by simpa using hmon), h4]
  simp [filtered, h4]

/-- What filters leave: all fields but the bits of `STAT.RAW`, and the link. -/
structure Filtered (s u : State) : Prop where
  canon : Canon u
  link : u.link = s.link
  get : ∀ {f : Fld}, f.addr ≠ SAFETY_STAT_RAW.addr ∨ f.lo + f.wd ≤ 14 → u.get f = s.get f

theorem Filtered.monitored {u : State} (h : Filtered s u) (i : Nat) : Machine.monitored u i = Machine.monitored s i :=
  congrArg (· == 1) (h.get (f := subBit SAFETY_CFG_MON i) (.inl (by simp)))

theorem filtered_filterChan {levels : Nat} (hs : Canon s) : Filtered s (filterChan levels 5 (filterChan levels 4 s)) where
  canon := by simp [hs]
  link := by simp
  get hf := (get_filterChan (by simp [hs]) (by decide) hf).trans (get_filterChan hs (by decide) hf)

/-! ### One input at a sample (Table 15-4) -/

theorem evalInput_of_closed {i : Nat} (ha : s.safety.filt.getD (2 * i) none = some true) (hb : s.safety.filt.getD (2 * i + 1) none = some true)
    (hinput : s.get (inputFld i) = 0) : evalInput i s = { s with safety.dis := s.safety.dis.set i 0 } := by
  simp only [evalInput, ha, hb, hinput]
  simp

theorem evalInput_of_opening {i : Nat} (ha : s.safety.filt.getD (2 * i) none = some false) (hb : s.safety.filt.getD (2 * i + 1) none = some true)
    (hinput : s.get (inputFld i) = 0) (hdis : s.safety.dis.getD i 0 = 0) (hdisc : 1 ≤ s.get (SAFETY_DISC_DISC i)) :
    ∃ chans, evalInput i s = demand i chans ({ s with safety.dis := s.safety.dis.set i 1 }.put (inputFld i) 1) := by
  have hnot : s.get (SAFETY_DISC_DISC i) ≠ 0 := Nat.ne_of_gt hdisc
  simp only [evalInput, ha, hb, hinput, hdis]
  exact ⟨_, by simp [hnot]; rfl⟩

@[simp] theorem monitored_demand {code chans i : Nat} (hs : Canon s) : monitored (demand code chans s) i = monitored s i := by
  unfold monitored State.flag
  rw [get_demand hs (by simp) (by simp) (by simp) (by simp) (.inl (by simp))]

/-- The state after a sample with input 2 alone monitored. -/
def sampleSecond (levels : Nat) (s : State) : State := evalInput 2 (filterChan levels 5 (filterChan levels 4 s))

theorem sample_single {levels : Nat} (hmon : monitored s 2 = true) (hall : ((List.range 5).all fun i => i == 2 || !monitored s i) = true)
    (hkeep : ∀ i, monitored (sampleSecond levels s) i = monitored s i) :
    (List.range 5).foldl (fun s i => if monitored s i then evalInput i s else s)
      ((List.range 10).foldl (fun s c => filterChan levels c s) s) = sampleSecond levels s := by
  have hothers : monitored s 0 = false ∧ monitored s 1 = false ∧ monitored s 3 = false ∧ monitored s 4 = false := by
    simpa [List.range_succ, and_assoc] using hall
  obtain ⟨h0, h1, h3, h4⟩ := hothers
  unfold sampleSecond at *
  simp [List.range_succ, filterChan_of_unmonitored, h0, h1, h3, h4, hmon, hkeep]

section
variable {levels : Nat} (hs : Canon s) (hmon : monitored s 2 = true) (hlen : s.safety.filt.length = 10)
  (hlastB : s.safety.last.getD 5 none = some true) (hinput : s.get (inputFld 2) = 0)
  (hlevA : levels.testBit 4 = false) (hlevB : levels.testBit 5 = true)
include hs hmon hlen hlastB hinput hlevA hlevB

/-- Channel A reads open for the first time: the filters hold. -/
theorem sampleSecond_of_first (hfiltA : s.safety.filt.getD 4 none = some true) (hlastA : s.safety.last.getD 4 none = some true) :
    ∃ u, sampleSecond levels s = u ∧ Filtered s u ∧ u.safety.last = (s.safety.last.set 4 (some false)).set 5 (some true) ∧
      u.safety.filt = (s.safety.filt.set 4 (some true)).set 5 (some true) := by
  have hsample := sampled_safety levels hmon
  have hF := filtered_filterChan (levels := levels) hs
  refine ⟨_, evalInput_of_closed ?_ ?_ ((hF.get (.inr (by decide))).trans hinput), ⟨hF.canon, hF.link, hF.get⟩, ?_, ?_⟩
  all_goals simp_all [filtered]

/-- Channel A reads open for the second time: the input opens. -/
theorem sampleSecond_of_second (hfiltB : s.safety.filt.getD 5 none = some true) (hlastA : s.safety.last.getD 4 none = some false)
    (hdis : s.safety.dis.getD 2 0 = 0)
    (hdisc : 1 ≤ s.get (SAFETY_DISC_DISC 2)) : ∃ chans u, sampleSecond levels s = demand 2 chans (u.put (inputFld 2) 1) ∧ Filtered s u := by
  have hsample := sampled_safety levels hmon
  have hF := filtered_filterChan (levels := levels) hs
  obtain ⟨chans, h⟩ := evalInput_of_opening (s := filterChan levels 5 (filterChan levels 4 s)) (i := 2) (by simp_all [filtered])
    (by simp_all [filtered]) ((hF.get (.inr (by decide))).trans hinput) (by simp_all) (by rwa [hF.get (.inl (by decide))])
  exact ⟨chans, _, h, hF.canon, hF.link, hF.get⟩

end

/-! ### Test pulses (R457) -/

/-- A TP_A pulse for one input. -/
def pulseA (readbackLow : Bool) (levels : Nat) (s : State) (i : Nat) : State :=
  if !monitored s i then s
  else { s with safety.partA := s.safety.partA.set i (if readbackLow then pulseCause false levels i s else 5) }

/-- The pulses of the first inputs leave the cause of each, and nothing else. -/
theorem foldl_pulseA (readbackLow : Bool) (levels n : Nat) :
    ∃ p : List Nat, (List.range n).foldl (pulseA readbackLow levels) s = { s with safety.partA := p } ∧ p.length = s.safety.partA.length ∧
      ∀ i < p.length, p.getD i 0 = if i < n ∧ monitored s i = true then (if readbackLow then pulseCause false levels i s else 5)
        else s.safety.partA.getD i 0 := by
  induction n with
  | zero => exact ⟨s.safety.partA, rfl, rfl, by simp⟩
  | succ n ih =>
    obtain ⟨p, hp, hlen, hget⟩ := ih
    rw [List.range_succ, List.foldl_append, hp]
    cases hn : monitored s n with
    | false =>
      have hn' : monitored { s with safety.partA := p } n = false := hn
      refine ⟨p, by simp [pulseA, hn'], hlen, fun i hi => ?_⟩
      rw [hget i hi]
      have : i < n + 1 ∧ monitored s i = true ↔ i < n ∧ monitored s i = true := by grind
      simp only [this]
    | true =>
      have hn' : monitored { s with safety.partA := p } n = true := hn
      refine ⟨p.set n (if readbackLow then pulseCause false levels n s else 5), by simp [pulseA, hn']; rfl, by simpa using hlen,
        fun i hi => ?_⟩
      have hi' : i < p.length := by simpa using hi
      by_cases hin : i = n
      · subst hin
        simp [hn, hi']
      · have : i < n + 1 ∧ monitored s i = true ↔ i < n ∧ monitored s i = true := by grind
        have hset : (p.set n (if readbackLow then pulseCause false levels n s else 5)).getD i 0 = p.getD i 0 := by
          simp [Ne.symm hin]
        rw [hset, hget i hi']
        simp only [this]

/-- A TP_B pulse for one input. -/
def pulseB (levels : Nat) (s : State) (i : Nat) : State :=
  if !monitored s i then s
  else
    let c := pulseCause true levels i s
    let a := s.safety.partA.getD i 0
    judgeTest i (if a = 5 || c = 5 then 5 else if a = 0 then c else a) { s with safety.partA := s.safety.partA.set i 0 }

/-- The tests of the first `n` inputs have passed: no field changes but the count, and of the block the failures and passes in a row. -/
structure PulsesPassed (n : Nat) (s t : State) : Prop where
  canon : Canon t
  get : ∀ {f : Fld}, f.addr ≠ SAFETY_TESTCNT_PASS.addr ∨ 16 ≤ f.lo → t.get f = s.get f
  filt : t.safety.filt = s.safety.filt
  partA : ∀ i, n ≤ i → t.safety.partA.getD i 0 = s.safety.partA.getD i 0
  failsLen : t.safety.fails.length = s.safety.fails.length
  passesLen : t.safety.passes.length = s.safety.passes.length
  fails : ∀ i < s.safety.fails.length, i < n → monitored s i = true → t.safety.fails.getD i 0 = 0
  passes : ∀ i < s.safety.passes.length,
    t.safety.passes.getD i 0 = if i < n ∧ monitored s i = true then s.safety.passes.getD i 0 + 1 else s.safety.passes.getD i 0

theorem PulsesPassed.monitored {n : Nat} {t : State} (h : PulsesPassed n s t) (i : Nat) : Machine.monitored t i = Machine.monitored s i :=
  congrArg (· == 1) (h.get (f := subBit SAFETY_CFG_MON i) (.inl (by simp)))

theorem lt_succ_and_iff {n i : Nat} {p : Nat → Prop} (h : i ≠ n ∨ ¬ p n) : i < n + 1 ∧ p i ↔ i < n ∧ p i := by grind

/-- One more input passes, or is not monitored. -/
theorem PulsesPassed.next {levels n : Nat} {t : State} (h : PulsesPassed n s t)
    (hpass : Machine.monitored s n = true → s.safety.partA.getD n 0 = 0 ∧ pulseCause true levels n s = 0) :
    PulsesPassed (n + 1) s (pulseB levels t n) := by
  cases hn : Machine.monitored s n with
  | false =>
    have hrun : pulseB levels t n = t := by simp [pulseB, h.monitored, hn]
    have hnot : ¬ Machine.monitored s n = true := by simp [hn]
    rw [hrun]
    refine ⟨h.canon, h.get, h.filt, fun i hi => h.partA i (Nat.le_of_succ_le hi), h.failsLen, h.passesLen, fun i hi hin hm => ?_, fun i hi => ?_⟩
    · exact h.fails i hi ((lt_succ_and_iff (p := fun i => Machine.monitored s i = true) (.inr hnot)).mp ⟨hin, hm⟩).1 hm
    · simpa only [lt_succ_and_iff (p := fun i => Machine.monitored s i = true) (.inr hnot)] using h.passes i hi
  | true =>
    obtain ⟨hpart, hcause⟩ := hpass hn
    have hcause' : pulseCause true levels n t = 0 := by
      rw [← hcause]
      simp only [pulseCause, h.filt]
    have hpart' : t.safety.partA.getD n 0 = 0 := (h.partA n (Nat.le_refl n)).trans hpart
    have hrun : pulseB levels t n = judgeTest n 0 { t with safety.partA := t.safety.partA.set n 0 } := by
      simp only [pulseB, h.monitored, hn, hcause', hpart']
      rfl
    rw [hrun]
    refine ⟨canon_stored h.canon, fun hf => ?_, h.filt, fun i hi => ?_, ?_, ?_, fun i hi hin hm => ?_, fun i hi => ?_⟩
    · exact (get_put_disjoint (f := SAFETY_TESTCNT_PASS) (s := { t with safety.partA := _ }) h.canon (by decide) (hf.imp_right .inr) _).trans (h.get hf)
    · have hne : n ≠ i := Nat.ne_of_lt hi
      have hset : (t.safety.partA.set n 0).getD i 0 = t.safety.partA.getD i 0 := by simp [hne]
      exact hset.trans (h.partA i (Nat.le_of_succ_le hi))
    · exact (List.length_set ..).trans h.failsLen
    · exact (List.length_set ..).trans h.passesLen
    · show (t.safety.fails.set n 0).getD i 0 = 0
      by_cases hin' : n = i
      · subst hin'
        simp [h.failsLen, hi]
      · have hset : (t.safety.fails.set n 0).getD i 0 = t.safety.fails.getD i 0 := by simp [hin']
        exact hset.trans (h.fails i hi (by omega) hm)
    · show (t.safety.passes.set n (t.safety.passes.getD n 0 + 1)).getD i 0 = _
      have hlen := h.passesLen
      by_cases hin' : n = i
      · subst hin'
        have hold := h.passes n hi
        rw [if_neg (by simp)] at hold
        rw [hold]
        simp [hlen, hi, hn]
      · have hset : (t.safety.passes.set n (t.safety.passes.getD n 0 + 1)).getD i 0 = t.safety.passes.getD i 0 := by
          simp [hin']
        rw [hset, h.passes i hi]
        simp only [lt_succ_and_iff (p := fun i => Machine.monitored s i = true) (.inl (Ne.symm hin'))]

theorem pulsesPassed_foldl {levels : Nat} (hs : Canon s)
    (hpass : ∀ i < 5, monitored s i = true → s.safety.partA.getD i 0 = 0 ∧ pulseCause true levels i s = 0) :
    ∀ n ≤ 5, PulsesPassed n s ((List.range n).foldl (pulseB levels) s)
  | 0, _ => ⟨hs, fun _ => rfl, rfl, fun _ _ => rfl, rfl, rfl, fun _ _ h => by omega, fun _ _ => by simp⟩
  | n + 1, hn => by
    rw [List.range_succ, List.foldl_append]
    exact (pulsesPassed_foldl hs hpass n (Nat.le_of_succ_le hn)).next (hpass n hn)

theorem foldl_skip {α β : Type} {g : β → α → β} {l : List α} {b : β} (h : ∀ a ∈ l, g b a = b) : l.foldl g b = b := by
  induction l with
  | nil => rfl
  | cons a l ih => rw [List.foldl_cons, h a (by simp), ih fun c hc => h c (List.mem_cons_of_mem a hc)]

end

/-- Settles O53, from what the filters, the inputs and the pulses leave. -/
theorem safetyInputsAndTests : Obligations.SafetyInputsAndTests := by
  unfold Obligations.SafetyInputsAndTests
  intro s hinv
  have hs := canon_of_inv hinv
  refine ⟨?_, ?_, ?_, ?_, ?_, ?_, ?_, ?_, ?_⟩
  · intro levels hnone
    have hoff : ∀ i < 5, monitored s i = false := by simpa using hnone
    refine does_run (x := execSafetySample _ _) rfl ?_
    have h1 : (List.range 10).foldl (fun s c => filterChan levels c s) s.silent = s.silent :=
      foldl_skip fun c hc => by simp [filterChan, hoff (c / 2) (by simp at hc; omega)]
    simp only [h1]
    exact foldl_skip fun i hi => by simp [hoff i (by simpa using hi)]
  · intro levels hmon hlastA hlastB hfiltA hfiltB hinput hlevA hlevB hothers hlen1 hlen2 hlen3 hdis
    refine doesWithin_run (fun t => frame_execSafetySample) ?_
    obtain ⟨u, hu, hF, hlast, hfilt⟩ :=
      sampleSecond_of_first (s := s.silent) hs hmon hlen2 hlastB hinput hlevA hlevB hfiltA hlastA
    simp only [sample_single (s := s.silent) hmon hothers (by rw [hu]; exact hF.monitored), hu]
    refine ⟨by simp [hlast, hlen1], by simp [hfilt, hlen2], (hF.get (.inr (by decide))).trans hinput, hF.get (.inr (by decide))⟩
  · intro levels hmon hlastA hfiltB hlastB hfiltA hinput hlevA hlevB hothers hlen1 hlen2 hlen3 hdis hdisc hup
    refine doesWithin_run (fun t => frame_execSafetySample) ?_
    obtain ⟨chans, u, hu, hF⟩ := sampleSecond_of_second (s := s.silent) hs hmon hlen2 hlastB hinput hlevA hlevB hfiltB hlastA hdis hdisc
    have hc : Canon (u.put (inputFld 2) 1) := canon_stored hF.canon
    have hkeep (i) : monitored (demand 2 chans (u.put (inputFld 2) 1)) i = monitored s.silent i :=
      ((monitored_demand hc).trans (monitored_put (by decide))).trans (hF.monitored i)
    simp only [sample_single (s := s.silent) hmon hothers (by rw [hu]; exact hkeep), hu]
    have hcount : u.get SAFETY_DEMCNT_COUNT = s.get SAFETY_DEMCNT_COUNT := hF.get (.inl (by decide))
    refine ⟨?_, get_demand_block hc, get_demand_permit hc, ?_, ?_⟩
    · rw [get_demand hc (by simp [inputFld]) (by decide) (by decide) (by decide) (.inr (by decide))]
      simp [hF.canon, inputFld]
    · rw [demand_soon]
      simp [hF.link]
    · rw [get_demand_count hc, get_put_ne _ (by decide), hcount]
  · rintro tpb readbackLow levels rfl hlen
    refine doesWithin_run (F := (List.range 5).foldl (pulseA readbackLow levels)) (fun t => frame_execTestPulse) ?_
    obtain ⟨p, hp, hplen, hget⟩ := foldl_pulseA (s := s.silent) readbackLow levels 5
    rw [hp]
    refine ⟨fun i hi => ?_, rfl⟩
    rw [hget i (by rw [hplen]; exact hlen ▸ hi)]
    simp [hi]
    rfl
  · rintro tpb readbackLow levels rfl rfl hall hlen1 hlen2
    refine doesWithin_run (F := (List.range 5).foldl (pulseB levels)) (fun t => frame_execTestPulse) ?_
    have hpass : ∀ i < 5, monitored s i = true → s.safety.partA.getD i 0 = 0 ∧ pulseCause true levels i s = 0 := fun i hi hm => by
      simpa [hm] using List.all_eq_true.mp hall i (List.mem_range.mpr hi)
    have h := pulsesPassed_foldl (s := s.silent) (levels := levels) hs hpass 5 (Nat.le_refl 5)
    refine ⟨fun i hi hm => ⟨h.fails i (hlen2.symm ▸ hi) hi hm, ?_⟩, h.get (by decide), fun i hi => h.get (.inl (by simp [inputFld]))⟩
    rw [h.passes i (hlen1.symm ▸ hi), if_pos ⟨hi, hm⟩]
    rfl
  · rintro cause hblock rfl
    refine doesWithin_run (fun t => frame_execSafetySelftestDone) ?_
    simp [hblock, hs]
  · rintro cause hblock hcause
    refine doesWithin_run (fun t => frame_execSafetySelftestDone) ?_
    simp [hblock, hcause, hs, recordFault]
  · rintro ok rfl
    refine does_run (x := execPermitToggle _ _) rfl ?_
    simp
  · rintro ok rfl hblock
    refine doesWithin_run (fun t => frame_execPermitToggle) ?_
    simp [hblock, hs, safetyFault, recordFault, get_demand, get_demand_running]
    trace_state

end Sys2Proof.Machine
end

section
/-! SUPPORT. What the operations on a cooling drive leave: its state, its faults, its gates and the lengths of its sectors. -/

namespace Sys2Proof.Machine

set_option Elab.async false

/-! ### Addresses of a page given by its number -/

@[simp] theorem le_paged {a c n : Nat} (h : c ≤ a) : c ≤ a + 4096 * n := Nat.le_add_right_of_le h
@[simp] theorem paged_ne {a b n : Nat} (h : a % 4096 ≠ b % 4096) : a + 4096 * n ≠ b := by omega

section
variable {s : State} {n : Nat} {f : Fld}

theorem get_count_ne {g : Fld} (hg : g.addr ≠ f.addr) : (s.count f).get g = s.get g := get_put_ne _ hg _

/-! ### The internal part of a channel -/

@[simp] theorem louvAt_silent : louvAt s.silent n = louvAt s n := (rfl)
@[simp] theorem louvAt_put {v : Nat} : louvAt (s.put f v) n = louvAt s n := (rfl)
@[simp] theorem louvAt_putB {b : Bool} : louvAt (s.putB f b) n = louvAt s n := (rfl)
@[simp] theorem louvAt_count : louvAt (s.count f) n = louvAt s n := (rfl)
@[simp] theorem louvAt_setRaw {a : Nat} {w : Word} : louvAt (s.setRaw a w) n = louvAt s n := (rfl)
@[simp] theorem louvAt_emit {x : Out} : louvAt (emit x s) n = louvAt s n := (rfl)
@[simp] theorem louvAt_freeWord : louvAt (freeWord s).2 n = louvAt s n := (rfl)
@[simp] theorem louvAt_setEvt {p m : Nat} : louvAt (setEvt p m s) n = louvAt s n := by simp [louvAt]
@[simp] theorem louvAt_raiseH {a b c : Nat} (ha : a < 256) : louvAt (raiseH a b c s) n = louvAt s n := by simp [louvAt, ha]

section
variable {g : LouvSt → LouvSt} {m : Nat}

@[simp] theorem louvAt_modLouv (h : n < s.louv.length) : louvAt (modLouv n g s) n = g (louvAt s n) := by
  simp [louvAt, modLouv, h]

@[simp] theorem louvAt_modLouv_ne (h : m ≠ n) : louvAt (modLouv m g s) n = louvAt s n := by
  simp [louvAt, modLouv, h]

/-! A change of the internal part and a store commute; the store is written last. -/

@[simp] theorem modLouv_silent : modLouv n g s.silent = (modLouv n g s).silent := (rfl)
@[simp] theorem modLouv_put {v : Nat} : modLouv n g (s.put f v) = (modLouv n g s).put f v := (rfl)
@[simp] theorem modLouv_putB {b : Bool} : modLouv n g (s.putB f b) = (modLouv n g s).putB f b := (rfl)
@[simp] theorem modLouv_count : modLouv n g (s.count f) = (modLouv n g s).count f := (rfl)
@[simp] theorem modLouv_setRaw {a : Nat} {w : Word} : modLouv n g (s.setRaw a w) = (modLouv n g s).setRaw a w := (rfl)
@[simp] theorem modLouv_emit {x : Out} : modLouv n g (emit x s) = emit x (modLouv n g s) := (rfl)
@[simp] theorem modLouv_freeWord : modLouv n g (freeWord s).2 = (freeWord (modLouv n g s)).2 := (rfl)

@[simp] theorem modLouv_louv_length : (modLouv n g s).louv.length = s.louv.length := List.length_modify ..
@[simp] theorem get_modLouv : (modLouv n g s).get f = s.get f := (rfl)
@[simp] theorem getI_modLouv : (modLouv n g s).getI f = s.getI f := (rfl)
@[simp] theorem flag_modLouv : (modLouv n g s).flag f = s.flag f := (rfl)
@[simp] theorem raw_modLouv {a : Nat} : (modLouv n g s).raw a = s.raw a := (rfl)
@[simp] theorem canon_modLouv : Canon (modLouv n g s) ↔ Canon s := Iff.rfl
@[simp] theorem modLouv_pwr : (modLouv n g s).pwr = s.pwr := (rfl)
@[simp] theorem modLouv_heat : (modLouv n g s).heat = s.heat := (rfl)

end

/-! ### Gates off -/

@[simp] theorem canon_gatesOff : Canon (gatesOff n s) ↔ Canon s ∨ CanonNext (gatesOff n s) := canon_next canon_stored
@[simp] theorem get_gatesOff_duty (hs : Canon s) : (gatesOff n s).get (LOUVRE_DUTY_DUTY n) = 0 := by simp [gatesOff, hs]
@[simp] theorem get_gatesOff_other (hf : f.addr ≠ (LOUVRE_DUTY_DUTY n).addr) : (gatesOff n s).get f = s.get f := get_put_ne _ hf _
@[simp] theorem flag_gatesOff_other (hf : f.addr ≠ (LOUVRE_DUTY_DUTY n).addr) : (gatesOff n s).flag f = s.flag f :=
  congrArg (· == 1) (get_put_ne _ hf _)
@[simp] theorem gatesOff_louv_length : (gatesOff n s).louv.length = s.louv.length := List.length_modify ..
@[simp] theorem louvAt_gatesOff (h : n < s.louv.length) :
    louvAt (gatesOff n s) n = { louvAt s n with duty := 0, trip := false, tripRun := false, ending := false } :=
  louvAt_modLouv (s := s.put (LOUVRE_DUTY_DUTY n) 0) h
@[simp] theorem gatesOff_pwr : (gatesOff n s).pwr = s.pwr := (rfl)
@[simp] theorem gatesOff_heat : (gatesOff n s).heat = s.heat := (rfl)

/-! ### A change of state (R473) -/

section
variable {st : Nat} (hn : n < 4)
include hn

theorem source_lt : 120 + n < 256 := by omega

@[simp] theorem canon_louvState : Canon (louvState n st s) ↔ Canon s ∨ CanonNext (louvState n st s) := by
  exact (within_louvState (G := [0x02, 0x04, 0x09, 0x51] ++ louvrePages) (Q := [.link, .intc, .jr, .louv]) (within_refl _ _ s) hn).canon

theorem louvState_same {x : Part} (hx : x ∉ [Part.link, .intc, .jr, .louv]) : x.same s (louvState n st s) :=
  (within_louvState (G := [0x02, 0x04, 0x09, 0x51] ++ louvrePages) (Q := [.link, .intc, .jr, .louv]) (within_refl _ _ s) hn).same x hx

@[simp] theorem louvState_louv_length : (louvState n st s).louv.length = s.louv.length := by
  unfold louvState
  extract_lets old s1 s2
  split
  · rfl
  · rw [raiseH_louv (source_lt hn), setEvt_louv]
    unfold s2
    split
    · rw [modLouv_louv_length, State.count_louv, State.put_louv]
    · rw [State.put_louv]

/-- Only an entry into CATCH touches the internal part. -/
theorem louvState_louv (hst : st ≠ 1) : (louvState n st s).louv = s.louv := by
  unfold louvState
  extract_lets old s1 s2
  split
  · rfl
  · rw [raiseH_louv (source_lt hn), setEvt_louv]
    unfold s2
    rw [if_neg hst, State.put_louv]

@[simp] theorem louvAt_louvState (hst : st ≠ 1) : louvAt (louvState n st s) n = louvAt s n := by
  simp [louvAt, louvState_louv hn hst]

@[simp] theorem louvState_pwr : (louvState n st s).pwr = s.pwr := louvState_same (x := .pwr) hn (by decide)

@[simp] theorem louvState_heat : (louvState n st s).heat = s.heat := louvState_same (x := .heat) hn (by decide)

variable (hs : Canon s)
include hs

theorem get_louvState (hf : f.addr ≠ (LOUVRE_STAT_STATE n).addr ∨ 3 ≤ f.lo) (hcnt : f.addr ≠ (LOUVRE_CNT_STARTS n).addr)
    (hquiet : ¬ Loud f.addr) : (louvState n st s).get f = s.get f := by
  unfold louvState
  extract_lets old s1 s2
  have h1 : s1.get f = s.get f := get_put_disjoint hs (by simp) (hf.imp_right .inr) _
  have h2 : s2.get f = s.get f := by
    unfold s2
    split
    · rw [get_modLouv, get_count_ne hcnt, h1]
    · exact h1
  split
  · rfl
  · rw [get_raiseH (source_lt hn) hquiet, get_setEvt hquiet, h2]

@[simp] theorem get_louvState_state (hst : st < 8) : (louvState n st s).get (LOUVRE_STAT_STATE n) = st := by
  unfold louvState
  extract_lets old s1 s2
  have h1 : s1.get (LOUVRE_STAT_STATE n) = st := by simp [s1, hs, Nat.mod_eq_of_lt hst]
  have h2 : s2.get (LOUVRE_STAT_STATE n) = st := by
    unfold s2
    split
    · rw [get_modLouv, get_count_ne (by simp), h1]
    · exact h1
  split
  · assumption
  · simp [source_lt hn, h2]

end

/-! ### What a target or an enable does at once (Table 16-2) -/

theorem louvEval_of_settled (huv : s.pwr.uv = false ∨ s.get (LOUVRE_STAT_STATE n) = 6)
    (hoff : s.get (LOUVRE_STAT_STATE n) = 0 → louvWants s n = false) (hrun : s.get (LOUVRE_STAT_STATE n) = 4 → louvWants s n = true) :
    louvEval n s = s := by
  unfold louvEval
  extract_lets st
  rw [if_neg (by rcases huv with h | h <;> simp [h, st])]
  by_cases h0 : st = 0
  · simp [h0, hoff h0]
  · by_cases h4 : st = 4
    · simp [h4, hrun h4]
    · simp [h0, h4]

section
variable (hn : n < 4) (hs : Canon s)
include hn hs

theorem get_louvEval (hf : f.addr ≠ (LOUVRE_STAT_STATE n).addr ∨ 3 ≤ f.lo) (hcnt : f.addr ≠ (LOUVRE_CNT_STARTS n).addr)
    (hduty : f.addr ≠ (LOUVRE_DUTY_DUTY n).addr) (hquiet : ¬ Loud f.addr) : (louvEval n s).get f = s.get f := by
  have hg : Canon (gatesOff n s) := canon_stored hs
  have hkeep : (gatesOff n s).get f = s.get f := get_gatesOff_other hduty
  unfold louvEval
  extract_lets st
  split
  · exact (get_louvState hn hg hf hcnt hquiet).trans hkeep
  · split
    · exact (get_louvState hn hg hf hcnt hquiet).trans hkeep
    · split
      · exact (get_louvState hn (s := modLouv n _ (gatesOff n s)) hg hf hcnt hquiet).trans hkeep
      · rfl

end

/-- An evaluation leaves the curve's speed. -/
theorem curve_louvEval (hn : n < 4) (hlen : n < s.louv.length) : (louvAt (louvEval n s) n).curve = (louvAt s n).curve := by
  have hstate (st : Nat) (u : State) (hu : n < u.louv.length) : (louvAt (louvState n st u) n).curve = (louvAt u n).curve := by
    unfold louvState
    extract_lets old s1 s2
    have h2 : (louvAt s2 n).curve = (louvAt u n).curve := by
      unfold s2
      split
      · rw [louvAt_modLouv (s := s1.count _) hu]
        rfl
      · rfl
    split
    · rfl
    · rw [louvAt_raiseH (source_lt hn), louvAt_setEvt, h2]
  have hg : n < (gatesOff n s).louv.length := by simpa using hlen
  have hgates : (louvAt (gatesOff n s) n).curve = (louvAt s n).curve := by rw [louvAt_gatesOff hlen]
  unfold louvEval
  extract_lets st
  split
  · exact (hstate _ _ hg).trans hgates
  · split
    · exact (hstate _ _ hg).trans hgates
    · split
      · rw [hstate _ _ (by simpa using hg), louvAt_modLouv hg, hgates]
      · rfl

/-! ### Faults (R479) -/

section
variable {phase cause : Nat} (hn : n < 4)
include hn

theorem louvAt_louvFault (hlen : n < s.louv.length) (hcause : cause ≠ 6) : louvAt (louvFault n phase cause s) n =
    if (2 ≤ s.get (LOUVRE_STAT_STATE n) ∧ s.get (LOUVRE_STAT_STATE n) ≤ 4) ∨ (s.get (LOUVRE_STAT_STATE n) = 6 ∧ (louvAt s n).ending = true)
    then { louvAt s n with ending := true } else { louvAt s n with duty := 0, trip := false, tripRun := false, ending := false } := by
  unfold louvFault
  extract_lets st s0 s1 s2
  rw [louvAt_louvState hn (by decide), louvAt_raiseH (source_lt hn), louvAt_setEvt]
  have h2 : louvAt s2 n = louvAt s0 n := by
    unfold s2
    split <;> rfl
  rw [h2]
  unfold s0
  by_cases hdrive : (2 ≤ st ∧ st ≤ 4) ∨ (st = 6 ∧ (louvAt s n).ending = true)
  · rw [if_pos (by simpa [hcause] using hdrive), if_pos hdrive, louvAt_modLouv hlen]
  · rw [if_neg (by simpa [hcause] using hdrive), if_neg hdrive, louvAt_gatesOff hlen]

variable (hs : Canon s)
include hs

theorem canon_louvFault : Canon (louvFault n phase cause s) := 
  (within_louvFault (G := [0x02, 0x04, 0x09, 0x51] ++ louvrePages) (Q := [.link, .intc, .jr, .louv]) (within_refl _ _ s) hn).wf hs

theorem louvFault_fields : (louvFault n phase cause s).get (LOUVRE_STAT_STATE n) = 6 ∧
    (louvFault n phase cause s).get (LOUVRE_FAULT_CAUSE n) = cause % 16 ∧ (louvFault n phase cause s).get (LOUVRE_FAULT_PHASE n) = phase % 4 := by
  unfold louvFault
  extract_lets st s0 s1 s2
  have h0 : Canon s0 := by
    unfold s0
    split
    · exact hs
    · exact canon_stored hs
  have h1 : Canon s1 := canon_stored (canon_stored (canon_stored h0))
  have h2 : Canon s2 := by
    unfold s2
    split
    · exact canon_stored h1
    · exact h1
  have h3 : Canon (raiseH (120 + n) 2 (phase + 4 * cause) (setEvt (0x18 + n) 2 s2)) := by simp [h2, source_lt hn]
  have hmark {f : Fld} (hf : f.addr ≠ (LOUVRE_STAT_HBFLT n).addr) : s2.get f = s1.get f := by
    unfold s2
    split
    · exact get_put_ne (f := ⟨(LOUVRE_STAT_HBFLT n).addr, 7 + phase, 1⟩) _ hf _
    · rfl
  refine ⟨get_louvState_state hn h3 (by decide), ?_, ?_⟩
  · rw [get_louvState hn h3 (by simp) (by simp) (by simp), get_raiseH (source_lt hn) (by simp), get_setEvt (by simp), hmark (by simp)]
    simp [s1, h0]
  · rw [get_louvState hn h3 (by simp) (by simp) (by simp), get_raiseH (source_lt hn) (by simp), get_setEvt (by simp), hmark (by simp)]
    simp [s1, h0]

end

end

end Sys2Proof.Machine
end

section
/-! PROOFS. The control register, the speed loop and the curves of the cooling drives (R474–R476). -/

namespace Sys2Proof.Machine

set_option Elab.async false

section
variable {s : State} {ch : Nat}

@[simp] theorem forced_silent : forced s.silent ch = forced s ch := rfl
@[simp] theorem lastRpm_silent : lastRpm s.silent ch = lastRpm s ch := rfl
@[simp] theorem curveRpm_silent {x : Int} : curveRpm s.silent ch x = curveRpm s ch x := rfl

/-- FORCED is no input of a channel's target. -/
theorem louvWants_putB_forced {b : Bool} (hs : Canon s) : louvWants (s.putB (LOUVRE_STAT_FORCED ch) b) ch = louvWants s ch := by
  simp [louvWants, louvTarget, forced, anyShutdown, rpmCap, lastRpm, hs]

/-- A reading sets the curve's speed and ON, and evaluates the channel. -/
theorem curveReading_fields {v r : Nat} (hch : ch < 4) (hs : Canon s) (hlen : ch < s.louv.length) :
    (louvAt (louvEval ch (modLouv ch (fun l => { l with curve := r }) (s.put (LOUVRE_STAT_ON ch) v))) ch).curve = r ∧
    (louvEval ch (modLouv ch (fun l => { l with curve := r }) (s.put (LOUVRE_STAT_ON ch) v))).get (LOUVRE_STAT_ON ch) = v % 2 ∧
    (louvEval ch (modLouv ch (fun l => { l with curve := r }) (s.put (LOUVRE_STAT_ON ch) v))).get (LOUVRE_STAT_NOVAL ch) =
      s.get (LOUVRE_STAT_NOVAL ch) := by
  have hc : Canon (modLouv ch (fun l => { l with curve := r }) (s.put (LOUVRE_STAT_ON ch) v)) := canon_stored hs
  refine ⟨?_, ?_, ?_⟩
  · rw [curve_louvEval hch (by simpa using hlen)]
    simp [hlen]
  · rw [get_louvEval hch hc (by simp) (by simp) (by simp) (by simp)]
    simp [hs]
  · rw [get_louvEval hch hc (by simp) (by simp) (by simp) (by simp)]
    simp [hs]

theorem maxDuty_congr {t : State} (hdiv : (louvAt t ch).div = (louvAt s ch).div) (hpwm : t.get (LOUVRE_CFG_PWMF ch) = s.get (LOUVRE_CFG_PWMF ch))
    (hdt : t.get (LOUVRE_CFG_DT ch) = s.get (LOUVRE_CFG_DT ch)) (hmin : t.get (LOUVRE_CFG2_TLMIN ch) = s.get (LOUVRE_CFG2_TLMIN ch)) :
    maxDuty t ch = maxDuty s ch := by
  simp only [maxDuty, louvTime, hdiv, hpwm, hdt, hmin]

end

/-- Settles O52, from what an evaluation of a channel leaves. -/
theorem louvreTargets : Obligations.LouvreTargets := by
  unfold Obligations.LouvreTargets
  intro s hinv
  have hs := canon_of_inv hinv
  refine ⟨?_, ?_, ?_, ?_, ?_, ?_, ?_⟩
  · intro ch value same hch hmode hdir hclr hclean hstate huv
    refine does_run (x := execLouvreCtl _ _ _ _) rfl ?_
    have hdir' : value[2] = s.flag (LOUVRE_CTL_DIR ch) := hdir
    have hclr' : value[3] = false := hclr
    simp only [Nat.not_le.mpr hch, if_false]
    simp [louvreCtlWrite, hmode, hdir', hclr', hclean]
    exact louvEval_of_settled (.inl huv) (by simp [hstate]) (by simp [hstate])
  · intro ch value same hch hmode hdir
    refine doesWithin_run (fun t h => (frame_execLouvreCtl hch h).mono (by decide) (by decide)) ?_
    have hdir' : value[2] = s.flag (LOUVRE_CTL_DIR ch) := hdir
    simp [louvreCtlWrite, Nat.not_le.mpr hch, hmode, hdir']
    exact pgerrCause_capture hs rfl (by decide)
  · intro ch value same hch hsame hstate hmode hdir hclean
    refine does_run (x := execLouvreCtl _ _ _ _) rfl ?_
    have hdir' : value[2] = s.flag (LOUVRE_CTL_DIR ch) := hdir
    simp only [Nat.not_le.mpr hch, if_false]
    simp [louvreCtlWrite, hmode, hdir', hsame, hclean]
    exact louvEval_of_settled (.inr (by simp [hstate])) (by simp [hstate]) (by simp [hstate])
  · intro ch hch hlen hstate huv
    refine doesWithin_run (fun t h => (frame_execSpeedLoop hch h).mono (by decide) (by decide)) ?_
    have hev : louvEval ch (s.silent.putB (LOUVRE_STAT_FORCED ch) (forced s ch)) = s.silent.putB (LOUVRE_STAT_FORCED ch) (forced s ch) :=
      louvEval_of_settled (.inl huv) (by simp [hs, hstate]) (by simp [hs, hstate])
    simp only [Nat.not_le.mpr hch, if_false, hev, forced_silent]
    generalize approach _ _ _ = target
    simp [hs, hstate, hlen]
  · intro ch hch hlen hstate hwants hforced hms huv
    refine doesWithin_run (fun t h => (frame_execSpeedLoop hch h).mono (by decide) (by decide)) ?_
    have hev : louvEval ch (s.silent.putB (LOUVRE_STAT_FORCED ch) (forced s ch)) = s.silent.putB (LOUVRE_STAT_FORCED ch) (forced s ch) :=
      louvEval_of_settled (.inl huv) (by simp [hs, hstate]) (fun _ => (louvWants_putB_forced hs).trans hwants)
    simp only [Nat.not_le.mpr hch, if_false, hev, forced_silent]
    generalize approach _ _ _ = target
    simp [hs, hstate, hms, hlen]
    exact .inr (Nat.le_of_eq (maxDuty_congr (by simp [hlen]) (by simp [hs]) (by simp [hs]) (by simp [hs])))
  · intro ch x hch hlen hmode hsource hton
    refine doesWithin_run (fun t h => (frame_execCurveReading hch h).mono (by decide) (by decide)) ?_
    have hsource' : tempSource s.silent (s.get (LOUVRE_CURVSRC_SRC ch)) = some x := hsource
    cases hval : s.flag (LOUVRE_STAT_NOVAL ch) with
    | false =>
      simp only [Nat.not_le.mpr hch, get_silent, hmode, hsource', flag_silent, curveRpm_silent, getI_silent, hton, hval]
      obtain ⟨hcurve, hon, hno⟩ := curveReading_fields (v := 1) (r := curveRpm s ch x) (s := s.silent) hch hs hlen
      exact ⟨hcurve, hon, hno.trans (get_eq_zero_of_flag rfl hval)⟩
    | true =>
      simp only [Nat.not_le.mpr hch, get_silent, hmode, hsource', flag_silent, curveRpm_silent, getI_silent, hton, hval]
      have hc : Canon (raiseH (120 + ch) 4 0 (setEvt (0x18 + ch) 8 (s.silent.put (LOUVRE_STAT_NOVAL ch) 0))) := by simp [hs, source_lt hch]
      obtain ⟨hcurve, hon, hno⟩ := curveReading_fields (v := 1) (r := curveRpm s ch x) hch hc (by simp [hlen, source_lt hch])
      exact ⟨hcurve, hon, hno.trans (by simp [hs, source_lt hch])⟩
  · intro ch hch hlen hmode hsource
    refine doesWithin_run (fun t h => (frame_execCurveReading hch h).mono (by decide) (by decide)) ?_
    have hsource' : tempSource s.silent (s.get (LOUVRE_CURVSRC_SRC ch)) = none := hsource
    cases hval : s.flag (LOUVRE_STAT_NOVAL ch) with
    | false =>
      simp only [Nat.not_le.mpr hch, get_silent, hmode, hsource', flag_silent, lastRpm_silent, hval]
      have hc : Canon (raiseH (120 + ch) 4 1 (setEvt (0x18 + ch) 8 (s.silent.put (LOUVRE_STAT_NOVAL ch) 1))) := by simp [hs, source_lt hch]
      obtain ⟨hcurve, hon, hno⟩ := curveReading_fields (v := 1) (r := lastRpm s ch) hch hc (by simp [hlen, source_lt hch])
      exact ⟨hcurve, hon, hno.trans (by simp [hs, source_lt hch])⟩
    | true =>
      simp only [Nat.not_le.mpr hch, get_silent, hmode, hsource', flag_silent, lastRpm_silent, hval]
      obtain ⟨hcurve, hon, hno⟩ := curveReading_fields (v := 1) (r := lastRpm s ch) (s := s.silent) hch hs hlen
      exact ⟨hcurve, hon, hno.trans (get_eq_one_of_flag hval)⟩

end Sys2Proof.Machine
end

section
/-! PROOFS. Start, stall, coast, undervoltage and half-bridge faults of the cooling drives (R468, R473, R477, R479). -/

namespace Sys2Proof.Machine

set_option Elab.async false

section
variable {s : State} {ch : Nat}

@[simp] theorem louvWants_silent : louvWants s.silent ch = louvWants s ch := (rfl)

/-! ### Stalls (R477) -/

/-- The stalls of the last 60 s. -/
def recentStalls (l : LouvSt) : List Nat := l.stalls.filter fun t => decide (l.ms < t + 60000)

theorem louvStall_of_few (hch : ch < 4) (hlen : ch < s.louv.length) (hs : Canon s) (hfew : (recentStalls (louvAt s ch)).length < 2) :
    (louvStall ch s).get (LOUVRE_STAT_STATE ch) = 5 ∧ (louvAt (louvStall ch s) ch).stalled = true ∧
      (louvStall ch s).get (LOUVRE_DUTY_DUTY ch) = 0 := by
  have hnot : ¬ 3 ≤ (recentStalls (louvAt s ch)).length + 1 := by omega
  unfold louvStall
  extract_lets l st s1
  have hst : st.length = (recentStalls (louvAt s ch)).length + 1 := rfl
  have h1 : Canon s1 := by simp [s1, hs]
  have hg : Canon (gatesOff ch s1) := canon_stored h1
  rw [hst, if_neg hnot]
  refine ⟨get_louvState_state hch hg (by decide), ?_, ?_⟩
  · rw [louvAt_louvState hch (by decide), louvAt_gatesOff (by simpa [s1] using hlen)]
    simp [s1, hlen]
  · rw [get_louvState hch hg (by simp) (by simp) (by simp), get_gatesOff_duty h1]

theorem louvStall_of_many (hch : ch < 4) (hlen : ch < s.louv.length) (hs : Canon s) (hrun : s.get (LOUVRE_STAT_STATE ch) = 4)
    (hmany : 2 ≤ (recentStalls (louvAt s ch)).length) :
    (louvStall ch s).get (LOUVRE_STAT_STATE ch) = 6 ∧ (louvStall ch s).get (LOUVRE_FAULT_CAUSE ch) = 5 ∧
      (louvStall ch s).get (LOUVRE_FAULT_PHASE ch) = 3 ∧ (louvAt (louvStall ch s) ch).ending = true := by
  unfold louvStall
  extract_lets l st s1
  have hst : st.length = (recentStalls (louvAt s ch)).length + 1 := rfl
  have h1 : Canon s1 := by simp [s1, hs]
  have hrun1 : s1.get (LOUVRE_STAT_STATE ch) = 4 := by simp [s1, hrun]
  rw [hst, if_pos (Nat.succ_le_succ hmany)]
  obtain ⟨hstate, hcause, hphase⟩ := louvFault_fields (phase := 3) (cause := 5) hch h1
  refine ⟨hstate, hcause, hphase, ?_⟩
  rw [louvAt_louvFault hch (by simpa [s1] using hlen) (by decide), if_pos (by simp [hrun1])]

/-! ### Targets that a change of state leaves (R475) -/

/-- The quiet registers of `t` but the channels' state and start counts are those of `s`. -/
def KeepsSettings (s t : State) : Prop := ∀ {f : Fld}, f.addr % 4096 ≠ 0x60 → f.addr % 4096 ≠ 0x74 → ¬ Loud f.addr → t.get f = s.get f

theorem keepsSettings_louvState {st : Nat} (hch : ch < 4) (hs : Canon s) : KeepsSettings s (louvState ch st s) := fun h1 h2 h3 =>
  get_louvState hch hs (.inl (by dsimp only; omega)) (by dsimp only; omega) h3

theorem louvWants_congr {t : State} (hkeep : KeepsSettings s t) (hheat : t.heat = s.heat) (hlouv : louvAt t ch = louvAt s ch)
    (hold : s.get (LOUVRE_STAT_STATE ch) ≠ 6) (hnew : t.get (LOUVRE_STAT_STATE ch) ≠ 6) : louvWants t ch = louvWants s ch := by
  have hpts : s.get (LOUVRE_CURVSRC_NPTS ch) < 32 := get_lt s (LOUVRE_CURVSRC_NPTS ch)
  have hcurve (k : Nat) (hk : k < 32) : t.get (LOUVRE_CURVE_RPM ch k) = s.get (LOUVRE_CURVE_RPM ch k) :=
    hkeep (by dsimp only; omega) (by dsimp only; omega) (by rw [loud_iff]; dsimp only; omega)
  have hquiet {f : Fld} (h1 : f.addr % 4096 ≠ 0x60) (h2 : f.addr % 4096 ≠ 0x74) (h3 : ¬ Loud f.addr) : t.get f = s.get f := hkeep h1 h2 h3
  simp only [louvWants, louvTarget, rpmCap, forced, anyShutdown, State.flag, lastRpm, hheat, hlouv]
  simp [hquiet, hold, hnew, hcurve (s.get (LOUVRE_CURVSRC_NPTS ch) - 1) (by omega)]

theorem louvWants_off (hch : ch < 4) (hs : Canon s) (hold : s.get (LOUVRE_STAT_STATE ch) ≠ 6) :
    louvWants (louvState ch 0 s) ch = louvWants s ch :=
  louvWants_congr (keepsSettings_louvState hch hs) (louvState_heat hch) (louvAt_louvState hch (by decide)) hold
    (by rw [get_louvState_state hch hs (by decide)]; decide)

/-- Only a channel that drives, or one whose fault ends it, keeps its gates until the fault has ended it (R479). -/
theorem louvFault_drive {phase cause : Nat} (hch : ch < 4) (hlen : ch < s.louv.length) (hcause : cause ≠ 6) :
    (louvAt (louvFault ch phase cause s) ch).ending = (decide (2 ≤ s.get (LOUVRE_STAT_STATE ch) ∧ s.get (LOUVRE_STAT_STATE ch) ≤ 4) ||
      (decide (s.get (LOUVRE_STAT_STATE ch) = 6) && (louvAt s ch).ending)) ∧
    (louvAt (louvFault ch phase cause s) ch).cond = (louvAt s ch).cond := by
  rw [louvAt_louvFault hch hlen hcause]
  split
  case isTrue hdrive => exact ⟨Eq.symm (by simpa using hdrive), rfl⟩
  case isFalse hdrive => exact ⟨Eq.symm (by simpa using hdrive), rfl⟩

/-! ### Every channel at once (R468) -/

/-- A change of one channel's state leaves the registers of another. -/
theorem get_louvState_channel {n st : Nat} {f : Fld} (hn : n < 4) (hs : Canon s) (hf : f.addr / 4096 = 24 + ch) (hne : ch ≠ n)
    (hquiet : ¬ Loud f.addr) : (louvState n st s).get f = s.get f :=
  get_louvState hn hs (.inl (by dsimp only; omega)) (by dsimp only; omega) hquiet

/-- One channel goes to UVWAIT. -/
def toUvWait (s : State) (n : Nat) : State := if s.get (LOUVRE_STAT_STATE n) = 6 then gatesOff n s else louvState n 7 (gatesOff n s)

/-- The first channels are in UVWAIT with no duty, the others as they were. -/
theorem foldl_toUvWait (hs : Canon s) (hall : ∀ m < 4, s.get (LOUVRE_STAT_STATE m) ≠ 6) : ∀ k ≤ 4,
    Canon ((List.range k).foldl toUvWait s) ∧
    (∀ m < k, ((List.range k).foldl toUvWait s).get (LOUVRE_STAT_STATE m) = 7 ∧ ((List.range k).foldl toUvWait s).get (LOUVRE_DUTY_DUTY m) = 0) ∧
    ∀ m, k ≤ m → ((List.range k).foldl toUvWait s).get (LOUVRE_STAT_STATE m) = s.get (LOUVRE_STAT_STATE m)
  | 0, _ => ⟨hs, by simp, fun _ _ => rfl⟩
  | k + 1, hk => by
    obtain ⟨hc, hdone, htodo⟩ := foldl_toUvWait hs hall k (Nat.le_of_succ_le hk)
    rw [List.range_succ, List.foldl_append]
    set t := (List.range k).foldl toUvWait s
    have hg : Canon (gatesOff k t) := canon_stored hc
    have hstep : toUvWait t k = louvState k 7 (gatesOff k t) := if_neg (by rw [htodo k (Nat.le_refl k)]; exact hall k hk)
    have hother {f : Fld} {m : Nat} (hf : f.addr / 4096 = 24 + m) (hne : m ≠ k) (hquiet : ¬ Loud f.addr) :
        (louvState k 7 (gatesOff k t)).get f = t.get f :=
      (get_louvState_channel hk hg hf hne hquiet).trans (get_gatesOff_other (by dsimp only; omega))
    simp only [List.foldl_cons, List.foldl_nil, hstep]
    refine ⟨(canon_louvState hk).mpr (.inl hg), fun m hm => ?_, fun m hm => ?_⟩
    · by_cases hmk : m = k
      · subst hmk
        exact ⟨get_louvState_state hk hg (by decide),
          (get_louvState hk hg (by simp) (by simp) (by simp)).trans (get_gatesOff_duty hc)⟩
      · have hlt : m < k := by omega
        rw [hother (m := m) (by dsimp only; omega) hmk (by simp), hother (m := m) (by dsimp only; omega) hmk (by simp)]
        exact hdone m hlt
    · rw [hother (m := m) (by dsimp only; omega) (by omega) (by simp)]
      exact htodo m (by omega)

/-- One channel leaves UVWAIT. -/
def fromUvWait (s : State) (n : Nat) : State :=
  if s.get (LOUVRE_STAT_STATE n) = 7 then louvState n (if louvWants s n then 1 else 0) s else s

/-- The first channels are off, the others as they were. -/
theorem foldl_fromUvWait (hs : Canon s) (hall : ∀ m < 4, s.get (LOUVRE_STAT_STATE m) = 7 ∧ louvWants s m = false) : ∀ k ≤ 4,
    Canon ((List.range k).foldl fromUvWait s) ∧ ((List.range k).foldl fromUvWait s).heat = s.heat ∧
    ((List.range k).foldl fromUvWait s).louv = s.louv ∧ KeepsSettings s ((List.range k).foldl fromUvWait s) ∧
    (∀ m < k, ((List.range k).foldl fromUvWait s).get (LOUVRE_STAT_STATE m) = 0) ∧
    ∀ m, k ≤ m → ((List.range k).foldl fromUvWait s).get (LOUVRE_STAT_STATE m) = s.get (LOUVRE_STAT_STATE m)
  | 0, _ => ⟨hs, rfl, rfl, fun _ _ _ => rfl, by simp, fun _ _ => rfl⟩
  | k + 1, hk => by
    obtain ⟨hc, hheat, hlouv, hkeep, hdone, htodo⟩ := foldl_fromUvWait hs hall k (Nat.le_of_succ_le hk)
    rw [List.range_succ, List.foldl_append]
    set t := (List.range k).foldl fromUvWait s
    obtain ⟨hwait, hoff⟩ := hall k hk
    have ht : t.get (LOUVRE_STAT_STATE k) = 7 := (htodo k (Nat.le_refl k)).trans hwait
    have hoff' : louvWants t k = false :=
      (louvWants_congr hkeep hheat (by simp [louvAt, hlouv]) (by simp [hwait]) (by simp [ht])).trans hoff
    have hstep : fromUvWait t k = louvState k 0 t := by simp [fromUvWait, ht, hoff']
    simp only [List.foldl_cons, List.foldl_nil, hstep]
    refine ⟨(canon_louvState hk).mpr (.inl hc), (louvState_heat hk).trans hheat, (louvState_louv hk (by decide)).trans hlouv, fun h1 h2 h3 => ?_, fun m hm => ?_,
      fun m hm => ?_⟩
    · exact (keepsSettings_louvState hk hc h1 h2 h3).trans (hkeep h1 h2 h3)
    · by_cases hmk : m = k
      · subst hmk
        exact get_louvState_state hk hc (by decide)
      · rw [get_louvState_channel (ch := m) hk hc (by dsimp only; omega) hmk (by simp)]
        exact hdone m (by omega)
    · rw [get_louvState_channel (ch := m) hk hc (by dsimp only; omega) (by omega) (by simp)]
      exact htodo m (by omega)

end

/-- Settles O51. -/
theorem louvreStates : Obligations.LouvreStates := by
  unfold Obligations.LouvreStates
  intro s hinv
  have hs := canon_of_inv hinv
  refine ⟨?_, ?_, ?_, ?_, ?_, ?_, ?_, ?_, ?_, ?_, ?_, ?_⟩
  · intro ch hch hlen hstate hrev hfe hhall
    refine doesWithin_run (fun t h => (frame_execCatchEnd hch h).mono (by decide) (by decide)) ?_
    have hslow : ¬ ((s.get (LOUVRE_SPIN_FCATCH ch) : Rat) ≤ louvFe (louvAt s ch)) := not_le.mpr hfe
    simp [Nat.not_le.mpr hch, hstate, hrev, hslow, hhall, hs, hch, hlen]
  · intro ch hch hlen hstate hrev hfe
    refine doesWithin_run (fun t h => (frame_execCatchEnd hch h).mono (by decide) (by decide)) ?_
    simp [Nat.not_le.mpr hch, hstate, hrev, hfe, hch, source_lt]
    split <;> simp [hlen, source_lt hch]
  · intro ch hch hlen hstate
    refine doesWithin_run (fun t h => (frame_execAlignEnd hch h).mono (by decide) (by decide)) ?_
    simp [hch, hstate, hs, hlen]
  · intro ch hch hlen hstate hfew
    refine doesWithin_run (fun t h => (frame_execRampTimeout hch h).mono (by decide) (by decide)) ?_
    simp only [hch, get_silent, hstate]
    exact louvStall_of_few (s := s.silent) hch hlen hs hfew
  · intro ch hch hlen hstate hfew
    refine doesWithin_run (fun t h => (frame_execStall hch h).mono (by decide) (by decide)) ?_
    simp only [hch, get_silent, hstate]
    exact louvStall_of_few (s := s.silent) hch hlen hs hfew
  · intro ch hch hlen hstate hmany
    refine doesWithin_run (fun t h => (frame_execStall hch h).mono (by decide) (by decide)) ?_
    simp only [hch, get_silent, hstate]
    exact louvStall_of_many (s := s.silent) hch hlen hs hstate hmany
  · intro ch hch hstate hstalled hfew hwants
    refine doesWithin_run (fun t h => (frame_execStallRetry hch h).mono (by decide) (by decide)) ?_
    simp [hch, hstate, hstalled, hfew, hwants, hs]
  · intro ch after2s hch hstate htwo hwants huv
    refine doesWithin_run (fun t h => (frame_execCoastEnd hch h).mono (by decide) (by decide)) ?_
    have hnew : (louvState ch 0 s.silent).get (LOUVRE_STAT_STATE ch) = 0 := get_louvState_state hch hs (by decide)
    have hold : s.silent.get (LOUVRE_STAT_STATE ch) ≠ 6 := by simp [hstate]
    have hoff : louvWants (louvState ch 0 s.silent) ch = false := by
      rw [louvWants_off (s := s.silent) hch hs hold, louvWants_silent, hwants]
    have hev : louvEval ch (louvState ch 0 s.silent) = louvState ch 0 s.silent :=
      louvEval_of_settled (.inl (by simp [hch, huv])) (fun _ => hoff) (by simp [hnew])
    simp [hch, hstate, htwo, hev, hnew]
  · intro hall
    have hsafe : ∀ m < 4, s.get (LOUVRE_STAT_STATE m) ≠ 6 := by simpa using hall
    refine doesWithin_run (F := fun s => (List.range 4).foldl toUvWait { s with pwr.uv := true })
      (fun t h => (frame_execDriverUndervoltage h).mono (by decide) (by decide)) ?_
    exact (foldl_toUvWait (s := { s.silent with pwr.uv := true }) hs hsafe 4 (Nat.le_refl 4)).2.1
  · intro hall
    have hwait : ∀ m < 4, s.get (LOUVRE_STAT_STATE m) = 7 ∧ louvWants s m = false := by simpa using hall
    refine doesWithin_run (F := fun s => (List.range 4).foldl fromUvWait { s with pwr.uv := false })
      (fun t h => (frame_execUvRelease h).mono (by decide) (by decide)) ?_
    obtain ⟨-, -, -, -, hdone, -⟩ := foldl_fromUvWait (s := { s.silent with pwr.uv := false }) hs hwait 4 (Nat.le_refl 4)
    exact hdone
  · rintro ch phase cause present hch hlen hphase hlow hhigh rfl
    refine doesWithin_run (fun t h => (frame_execHalfBridgeFault hch h).mono (by decide) (by decide)) ?_
    simp only [Nat.not_le.mpr hch, Nat.not_le.mpr hphase, Nat.not_lt.mpr hhigh, Nat.ne_of_gt hlow, decide_false, Bool.or_self,
      Bool.false_eq_true, if_false, if_true]
    set u := modLouv ch (fun l => { l with cond := (louvAt s.silent ch).cond ||| 2 ^ phase }) s.silent with hu
    have hc : Canon u := hs
    have hlen' : ch < u.louv.length := by simpa [hu] using hlen
    obtain ⟨hstate, hcause, hph⟩ := louvFault_fields (phase := phase) (cause := cause) hch hc
    refine ⟨hstate, hcause.trans (Nat.mod_eq_of_lt (by omega)), hph.trans (Nat.mod_eq_of_lt (by omega)), ?_⟩
    have hold : louvAt u ch = { louvAt s ch with cond := (louvAt s ch).cond ||| 2 ^ phase } := by simp [hu, hlen]
    have hget : u.get (LOUVRE_STAT_STATE ch) = s.get (LOUVRE_STAT_STATE ch) := rfl
    obtain ⟨hending, hcond⟩ := louvFault_drive (phase := phase) (cause := cause) hch hlen' (by omega)
    rw [hget, hold] at hending
    rw [hold] at hcond
    exact ⟨hending, hcond⟩
  · rintro ch phase cause present hch hlen hphase hlow hhigh rfl
    refine doesWithin_run (fun t h => (frame_execHalfBridgeFault hch h).mono (by decide) (by decide)) ?_
    simp [Nat.not_le.mpr hch, Nat.not_le.mpr hphase, Nat.not_lt.mpr hhigh, Nat.ne_of_gt hlow, hlen]
    rfl

end Sys2Proof.Machine
end

section
/-! PROOFS. Periods, crossings, commutations and Hall codes of the cooling drives (R469–R472). -/

namespace Sys2Proof.Machine

set_option Elab.async false

section
variable {s : State} {ch : Nat}

@[simp] theorem louvDiv_silent : louvDiv s.silent = louvDiv s := (rfl)
@[simp] theorem maxDuty_silent : maxDuty s.silent ch = maxDuty s ch := (rfl)
@[simp] theorem anyShutdown_silent : anyShutdown s.silent = anyShutdown s := (rfl)
@[simp] theorem hallDrive_silent {code : Nat} : hallDrive s.silent ch code = hallDrive s ch code := (rfl)

/-! ### The refresh of the low-side gates -/

@[simp] theorem get_refreshStep {f : Fld} : (refreshStep ch s).get f = s.get f := by
  unfold refreshStep
  extract_lets period
  split
  extract_lets s1 after
  have h1 : s1.get f = s.get f := by
    unfold s1
    split <;> rfl
  exact h1

@[simp] theorem canon_refreshStep : Canon (refreshStep ch s) ↔ Canon s ∨ CanonNext (refreshStep ch s) :=
  (within_refreshStep (G := []) (Q := [.louv]) (within_refl _ _ s)).canon

/-- The refresh changes only the ages of the low-side gates. -/
theorem louvAt_refreshStep (hlen : ch < s.louv.length) : ∃ ages, louvAt (refreshStep ch s) ch = { louvAt s ch with lowAge := ages } := by
  unfold refreshStep
  extract_lets period
  split
  extract_lets s1 after
  have h1 : s1.louv = s.louv := by
    unfold s1
    split <;> rfl
  refine ⟨(List.range 3).map after, ?_⟩
  rw [louvAt_modLouv (by rw [h1]; exact hlen)]
  unfold louvAt
  rw [h1]
  rfl

@[simp] theorem trip_refreshStep (hlen : ch < s.louv.length) : (louvAt (refreshStep ch s) ch).trip = (louvAt s ch).trip := by
  obtain ⟨ages, h⟩ := louvAt_refreshStep hlen
  rw [h]

@[simp] theorem tripRun_refreshStep (hlen : ch < s.louv.length) : (louvAt (refreshStep ch s) ch).tripRun = (louvAt s ch).tripRun := by
  obtain ⟨ages, h⟩ := louvAt_refreshStep hlen
  rw [h]

@[simp] theorem sector_refreshStep (hlen : ch < s.louv.length) : (louvAt (refreshStep ch s) ch).sector = (louvAt s ch).sector := by
  obtain ⟨ages, h⟩ := louvAt_refreshStep hlen
  rw [h]

/-- The divider of a channel's times is no part of its current trip. -/
theorem trip_modLouv_div {d : Nat} : (louvAt (modLouv ch (fun l => { l with div := d }) s) ch).trip = (louvAt s ch).trip := by
  by_cases hlen : ch < s.louv.length
  · rw [louvAt_modLouv hlen]
  · simp [louvAt, modLouv, hlen]

/-! ### The length of a sector -/

@[simp] theorem canon_putLen {len : Nat} {rev : Bool} : Canon (putLen ch len rev s) ↔ Canon s ∨ CanonNext (putLen ch len rev s) :=
  canon_next fun h => canon_stored (canon_stored h)

theorem get_putLen_state {len : Nat} {rev : Bool} (hs : Canon s) :
    (putLen ch len rev s).get (LOUVRE_STAT_STATE ch) = s.get (LOUVRE_STAT_STATE ch) := by
  unfold putLen
  extract_lets s1 rpm
  have h1 : Canon s1 := hs
  have hother : (s1.put (LOUVRE_STAT_RPM ch) (lsbU 16 rpm)).get (LOUVRE_STAT_STATE ch) = s.get (LOUVRE_STAT_STATE ch) := by simp [s1, hs]
  exact (get_putB_other (canon_stored h1) (by simp) (by simp)).trans hother

theorem get_putLen_spinrev {len : Nat} {rev : Bool} (hs : Canon s) :
    (putLen ch len rev s).get (LOUVRE_STAT_SPINREV ch) = bit (rev != s.flag (LOUVRE_CTL_DIR ch)) := by
  unfold putLen
  extract_lets s1 rpm
  have h1 : Canon s1 := hs
  exact get_putB_self (f := LOUVRE_STAT_SPINREV ch) (canon_stored h1) (by simp) rfl

theorem louvAt_putLen {len : Nat} {rev : Bool} (hlen : ch < s.louv.length) :
    louvAt (putLen ch len rev s) ch = { louvAt s ch with lens := (len :: (louvAt s ch).lens).take 6, rev := rev } := 
  louvAt_modLouv hlen

@[simp] theorem putLen_louv_length {len : Nat} {rev : Bool} : (putLen ch len rev s).louv.length = s.louv.length := List.length_modify ..

/-! ### A channel that reaches RUN -/

/-- Enabled, in mode 1 and with a speed set, a channel wants to run. -/
theorem louvWants_of_set (hen : s.flag (LOUVRE_CFG_EN ch) = true) (hmode : s.get (LOUVRE_CTL_MODE ch) = 1)
    (hrpm : 0 < rpmCap s ch (s.get (LOUVRE_CTL_RPM ch))) (hcool : anyShutdown s = false) : louvWants s ch = true := by
  simp [louvWants, louvTarget, forced, hen, hmode, hrpm, hcool]

theorem louvWants_running (hch : ch < 4) (hs : Canon s) (hen : s.flag (LOUVRE_CFG_EN ch) = true) (hmode : s.get (LOUVRE_CTL_MODE ch) = 1)
    (hrpm : 0 < rpmCap s ch (s.get (LOUVRE_CTL_RPM ch))) (hcool : anyShutdown s = false) : louvWants (louvState ch 4 s) ch = true := by
  have hget {f : Fld} (h1 : f.addr % 4096 ≠ 0x60) (h2 : f.addr % 4096 ≠ 0x74) (h3 : ¬ Loud f.addr) : (louvState ch 4 s).get f = s.get f :=
    get_louvState hch hs (.inl (by dsimp only; omega)) (by dsimp only; omega) h3
  refine louvWants_of_set ?_ ?_ ?_ ?_
  · unfold State.flag at hen ⊢
    rw [hget (by simp) (by simp) (by simp), hen]
  · rw [hget (by simp) (by simp) (by simp), hmode]
  · unfold rpmCap at hrpm ⊢
    rw [hget (by simp) (by simp) (by simp), hget (by simp) (by simp) (by simp)]
    exact hrpm
  · unfold anyShutdown at hcool ⊢
    rw [louvState_heat hch, hget (by simp) (by simp) (by simp), hget (by simp) (by simp) (by simp)]
    exact hcool

theorem hallSector_of_hallDrive {code d : Nat} (h : hallDrive s ch code = some d) : ∃ k, hallSector code = some k := by
  unfold hallDrive at h
  obtain ⟨k, hk, -⟩ := Option.map_eq_some_iff.mp h
  exact ⟨k, hk⟩

end

/-- Settles O50, from what a sector, a refresh and a change of state leave. -/
theorem louvreCommutation : Obligations.LouvreCommutation := by
  unfold Obligations.LouvreCommutation
  intro s hinv
  have hs := canon_of_inv hinv
  refine ⟨?_, ?_, ?_, ?_, ?_, ?_, ?_, ?_, ?_, ?_⟩
  · intro ch code cur busy hch hlen hlow hhigh htrip
    refine doesWithin_run (fun t h => (frame_execPwmPeriod hch h).mono (by decide) (by decide)) ?_
    simp [Nat.not_le.mpr hch, hlow, Nat.le_succ_of_le hhigh, Nat.ne_of_lt (Nat.lt_succ_of_le hhigh), htrip, hlen, hs]
  · intro ch code cur busy hch hlen hstate htrip
    refine doesWithin_run (fun t h => (frame_execPwmPeriod hch h).mono (by decide) (by decide)) ?_
    cases hrun : (louvAt s ch).tripRun <;> simp [Nat.not_le.mpr hch, hstate, htrip, hrun, hlen, hs]
  · intro ch code cur busy hch hstate hbusy htrip
    refine doesWithin_run (fun t h => (frame_execPwmPeriod hch h).mono (by decide) (by decide)) ?_
    simp [Nat.not_le.mpr hch, hstate, hbusy, shuntStep, trip_modLouv_div, htrip, hs]
  · intro ch code cur busy hch hlen hstate hending
    refine doesWithin_run (fun t h => (frame_execPwmPeriod hch h).mono (by decide) (by decide)) ?_
    simp [Nat.not_le.mpr hch, hstate, hending, hlen, hs]
  · intro ch len rev expected hch hlen hhall hstate hcross
    refine doesWithin_run (fun t h => (frame_execZeroCrossing hch h).mono (by decide) (by decide)) ?_
    have hfew : ¬ 6 ≤ (if expected = true then (louvAt s ch).cross + 1 else 0) := by split <;> omega
    simp [Nat.not_le.mpr hch, hstate, hhall, hfew, hlen]
    rfl
  · rintro ch len rev expected hch hlen hhall hstate hcross rfl hen hmode ⟨hrpm, hcool⟩ huv
    refine doesWithin_run (fun t h => (frame_execZeroCrossing hch h).mono (by decide) (by decide)) ?_
    set u := modLouv ch (fun l => { l with cross := (louvAt s ch).cross + 1, seen := true }) s.silent with hu
    have hrun : (louvState ch 4 u).get (LOUVRE_STAT_STATE ch) = 4 := get_louvState_state hch hs (by decide)
    have hwants : louvWants (louvState ch 4 u) ch = true := louvWants_running (s := u) hch hs hen hmode hrpm hcool
    have hev : louvEval ch (louvState ch 4 u) = louvState ch 4 u :=
      louvEval_of_settled (.inl (by rw [louvState_pwr hch]; exact huv)) (by simp [hrun]) (fun _ => hwants)
    simp [Nat.not_le.mpr hch, hstate, hhall, Nat.succ_le_succ hcross, ← hu, hev, hrun]
  · intro ch len rev expected hch hstate
    refine does_run (x := execZeroCrossing _ _ _ _ _) rfl ?_
    simp [Nat.not_le.mpr hch, hstate, get_putLen_spinrev, hs]
  · intro ch len hch hlen hhall hstate hseen
    refine doesWithin_run (fun t h => (frame_execCommutation hch h).mono (by decide) (by decide)) ?_
    simp [hch, hstate, hhall, hseen, get_putLen_state, hs, louvAt_putLen, hlen]
  · intro ch code len d hch hlen hhall hstate hdrive
    refine doesWithin_run (fun t h => (frame_execHallChange hch h).mono (by decide) (by decide)) ?_
    obtain ⟨k, hk⟩ := hallSector_of_hallDrive hdrive
    simp [Nat.not_le.mpr hch, hstate, hhall, hdrive, hk, get_putLen_state, hs, louvAt_putLen, hlen]
  · intro ch hch hlen hhall hinvalid hstate
    refine doesWithin_run (fun t h => (frame_execHallInvalid hch h).mono (by decide) (by decide)) ?_
    obtain ⟨h6, hcause, hphase⟩ := louvFault_fields (phase := 3) (cause := 4) (s := s.silent) hch hs
    simp [hch, hhall, hinvalid, hstate, h6, hcause, hphase]
    rw [louvAt_louvFault (s := s.silent) hch hlen (by decide)]
    by_cases hdrive : 2 ≤ s.get (LOUVRE_STAT_STATE ch) ∧ s.get (LOUVRE_STAT_STATE ch) ≤ 4
    · simp [hdrive]
    · rw [if_neg (by simp [hdrive, hstate]), if_neg hdrive]
      simpa using hdrive

end Sys2Proof.Machine
end

section
/-! PROOFS. Touch scans, stuck keys, button samples and open LEDs (R444–R449). -/

namespace Sys2Proof.Machine

set_option Elab.async false

section
variable {s : State}

@[simp] theorem ledDrive_silent {n : Nat} : ledDrive s.silent n = ledDrive s n := (rfl)

section
variable {t : State} (h : t.regs = s.regs)
include h

theorem raw_of_regs (a : Nat) : t.raw a = s.raw a := by simp only [State.raw, h]
theorem get_of_regs (f : Fld) : t.get f = s.get f := by simp only [State.get, raw_of_regs h]
theorem flag_of_regs (f : Fld) : t.flag f = s.flag f := by simp only [State.flag, get_of_regs h]

end

theorem not_loud_led {n : Nat} (hn : n < 16) : ¬ Loud (PANEL_IO_LED_OPEN n).addr := by
  rw [loud_iff]
  dsimp only
  omega

/-! ### A scan's raw readings -/

/-- One key's reading is stored. -/
def storeReading (raws : List Nat) (s : State) (k : Nat) : State := s.put (PANEL_TOUCH_KDAT_RAW k) (raws.getD k 0)

theorem foldl_storeReading (raws : List Nat) : ∀ (l : List Nat) (s : State), Canon s →
    Canon (l.foldl (storeReading raws) s) ∧ (l.foldl (storeReading raws) s).panel = s.panel ∧
    (∀ {f : Fld}, f.addr < 0x10080 → (l.foldl (storeReading raws) s).get f = s.get f) ∧
    ∀ k, (l.foldl (storeReading raws) s).get (PANEL_TOUCH_KDAT_RAW k) = if k ∈ l then raws.getD k 0 % 2 ^ 16 else s.get (PANEL_TOUCH_KDAT_RAW k)
  | [], _, hs => ⟨hs, rfl, fun _ => rfl, by simp⟩
  | j :: l, s, hs => by
    obtain ⟨hc, hpanel, hkeep, hraw⟩ := foldl_storeReading raws l (storeReading raws s j) (canon_stored hs)
    refine ⟨hc, hpanel, fun hf => (hkeep hf).trans (get_put_ne _ (by dsimp only; omega) _), fun k => ?_⟩
    rw [List.foldl_cons, hraw k]
    by_cases hk : k = j
    · subst hk
      simp [storeReading, hs]
    · have hput : (storeReading raws s j).get (PANEL_TOUCH_KDAT_RAW k) = s.get (PANEL_TOUCH_KDAT_RAW k) :=
        get_put_ne _ (by dsimp only; omega) _
      simp [hput, hk]

/-! ### The first eight scans of a key -/

theorem firstScans_panel {k raw : Nat} : (firstScans k raw s).panel = { s.panel with
    raws := s.panel.raws.set k (if (s.panel.raws.getD k []).length < 7 then s.panel.raws.getD k [] ++ [raw] else [])
    hasBase := if (s.panel.raws.getD k []).length < 7 then s.panel.hasBase else s.panel.hasBase.set k true } := by
  unfold firstScans
  extract_lets rs p s1
  by_cases h : (s.panel.raws.getD k []).length < 7
  · have hrs : rs.length < 8 := by simpa [rs] using Nat.succ_lt_succ h
    rw [if_pos hrs, if_pos h, if_pos h]
  · have hrs : ¬ rs.length < 8 := by simpa [rs] using h
    rw [if_neg hrs, if_neg h, if_neg h]
    rfl

theorem canon_firstScans {k raw : Nat} (hs : Canon s) : Canon (firstScans k raw s) := by
  unfold firstScans
  extract_lets rs p s1
  split
  · exact hs
  · exact canon_stored (canon_stored hs)

/-- A first scan writes the base of its key and READY only. -/
theorem get_firstScans {k raw : Nat} {f : Fld} (hs : Canon s) (hbase : f.addr ≠ (PANEL_TOUCH_KDAT_BASE k).addr ∨ f.lo + f.wd ≤ 16)
    (hready : f.addr ≠ PANEL_TOUCH_STAT_READY.addr ∨ 25 ≤ f.lo) : (firstScans k raw s).get f = s.get f := by
  unfold firstScans
  extract_lets rs p s1
  split
  · rfl
  · have h1 : s1.get f = s.get f := get_put_disjoint hs (by simp) (hbase.imp_right .inl) _
    exact (get_put_disjoint (f := PANEL_TOUCH_STAT_READY) (canon_stored hs) (by decide) (hready.imp_right .inr) _).trans h1

/-- The keys of `l` are scanned, from the state `s`. -/
def scanFirst (raws : List Nat) (s : State) (k : Nat) : State := firstScans k (raws.getD k 0) s

theorem foldl_scanFirst (raws : List Nat) : ∀ (l : List Nat) (s : State), Canon s → l.Nodup → (∀ k ∈ l, k < 12) →
    s.panel.raws.length = 12 → s.panel.hasBase.length = 12 →
    (l.foldl (scanFirst raws) s).panel.scans = s.panel.scans ∧
    (∀ k, (l.foldl (scanFirst raws) s).get (PANEL_TOUCH_KDAT_RAW k) = s.get (PANEL_TOUCH_KDAT_RAW k)) ∧
    (l.foldl (scanFirst raws) s).get PANEL_TOUCH_STAT_SUPP = s.get PANEL_TOUCH_STAT_SUPP ∧
    (∀ k, k ∉ l → (l.foldl (scanFirst raws) s).panel.raws.getD k [] = s.panel.raws.getD k [] ∧
      (l.foldl (scanFirst raws) s).panel.hasBase.getD k false = s.panel.hasBase.getD k false) ∧
    ∀ k ∈ l, (7 ≤ (s.panel.raws.getD k []).length → (l.foldl (scanFirst raws) s).panel.hasBase.getD k false = true) ∧
      ((s.panel.raws.getD k []).length < 7 →
        (l.foldl (scanFirst raws) s).panel.raws.getD k [] = s.panel.raws.getD k [] ++ [raws.getD k 0])
  | [], _, _, _, _, _, _ => by simp
  | j :: l, s, hs, hnodup, hlt, hraws, hbase => by
    obtain ⟨hjl, hl⟩ := List.nodup_cons.mp hnodup
    have hj : j < 12 := hlt j (List.mem_cons_self ..)
    have hpanel := firstScans_panel (s := s) (k := j) (raw := raws.getD j 0)
    set u := scanFirst raws s j with hu
    have hupanel : u.panel = _ := hpanel
    obtain ⟨hscans, hkeep, hsupp, hout, hin⟩ := foldl_scanFirst raws l u (canon_firstScans hs) hl (fun k hk => hlt k (List.mem_cons_of_mem _ hk))
      (by rw [hupanel]; simpa using hraws) (by rw [hupanel]; split <;> simpa using hbase)
    have hother {k : Nat} (hk : k ≠ j) : u.panel.raws.getD k [] = s.panel.raws.getD k [] ∧
        u.panel.hasBase.getD k false = s.panel.hasBase.getD k false := by
      rw [hupanel]
      constructor
      · simp [Ne.symm hk]
      · split <;> simp [Ne.symm hk]
    refine ⟨?_, fun k => ?_, ?_, fun k hk => ?_, fun k hk => ?_⟩
    · rw [List.foldl_cons, hscans, hupanel]
    · rw [List.foldl_cons, hkeep k]
      exact get_firstScans hs (.inr (Nat.le_refl 16)) (.inl (by dsimp only; omega))
    · rw [List.foldl_cons, hsupp]
      exact get_firstScans hs (.inl (by dsimp only; omega)) (.inr (by decide))
    · obtain ⟨hkj, hkl⟩ := not_or.mp (fun h => hk (List.mem_cons.mpr h))
      rw [List.foldl_cons, (hout k hkl).1, (hout k hkl).2]
      exact hother hkj
    · rw [List.foldl_cons]
      by_cases hkj : k = j
      · subst hkj
        obtain ⟨hr, hb⟩ := hout k hjl
        rw [hr, hb, hupanel]
        refine ⟨fun h7 => ?_, fun h7 => ?_⟩
        · simp [Nat.not_lt.mpr h7, -List.getD_eq_getElem?_getD]
          simp [hbase, hj]
        · rw [if_pos h7]
          simp [hraws, hj]
      · obtain ⟨hr, hb⟩ := hother hkj
        have := hin k ((List.mem_cons.mp hk).resolve_left hkj)
        rw [hr] at this
        exact this

/-! ### Samples of the buttons -/

/-- A button that is disabled, in its known state, or not yet debounced is only counted. -/
theorem sampleButton_counted {levels n : Nat} {same : Bool} (h : s.flag (subBit PANEL_IO_BTNCFG_EN n) = false ∨
      levels.testBit n = s.flag (subBit PANEL_IO_BTNSTAT_STATE n) ∨ s.panel.btn.getD n 0 + 1 < s.get PANEL_IO_BTNCFG_DEB) :
    (sampleButton levels same n s).regs = s.regs ∧ (sampleButton levels same n s).panel.btn = s.panel.btn.set n
      (if s.flag (subBit PANEL_IO_BTNCFG_EN n) = true ∧ levels.testBit n ≠ s.flag (subBit PANEL_IO_BTNSTAT_STATE n)
        then s.panel.btn.getD n 0 + 1 else 0) := by
  unfold sampleButton
  extract_lets f x p s0 p0 c s1
  have h0 : s0.regs = s.regs ∧ s0.panel.btn = s.panel.btn := by
    unfold s0
    split <;> exact ⟨rfl, rfl⟩
  obtain ⟨hregs, hbtn⟩ := h0
  by_cases hidle : (!s.flag (subBit PANEL_IO_BTNCFG_EN n) || x == s.flag f) = true
  · rw [if_pos hidle]
    have hzero : ¬ (s.flag (subBit PANEL_IO_BTNCFG_EN n) = true ∧ levels.testBit n ≠ s.flag (subBit PANEL_IO_BTNSTAT_STATE n)) := by
      simpa [x, f, imp_iff_not_or] using hidle
    rw [if_neg hzero]
    exact ⟨hregs, by simp [hbtn]⟩
  · have hone : s.flag (subBit PANEL_IO_BTNCFG_EN n) = true ∧ levels.testBit n ≠ s.flag (subBit PANEL_IO_BTNSTAT_STATE n) := by
      simpa [x, f] using hidle
    obtain ⟨hen, hne⟩ := hone
    have hc : c < s.get PANEL_IO_BTNCFG_DEB := by
      simpa [c, hbtn] using (h.resolve_left (by simp [hen])).resolve_left hne
    rw [if_neg hidle, if_pos hc, if_pos ⟨hen, hne⟩]
    exact ⟨hregs, by simp [c, hbtn]⟩

/-- The first buttons are counted and no register has changed. -/
theorem foldl_sampleButton {levels : Nat} {same : Bool} (hlen : s.panel.btn.length = 4)
    (h : ∀ n < 4, s.flag (subBit PANEL_IO_BTNCFG_EN n) = false ∨ s.panel.btn.getD n 0 + 1 < s.get PANEL_IO_BTNCFG_DEB) : ∀ k ≤ 4,
    ((List.range k).foldl (fun s n => sampleButton levels same n s) s).regs = s.regs ∧
    ((List.range k).foldl (fun s n => sampleButton levels same n s) s).panel.btn.length = 4 ∧
    ∀ n < 4, ((List.range k).foldl (fun s n => sampleButton levels same n s) s).panel.btn.getD n 0 = if n < k then
      (if s.flag (subBit PANEL_IO_BTNCFG_EN n) = true ∧ levels.testBit n ≠ s.flag (subBit PANEL_IO_BTNSTAT_STATE n)
        then s.panel.btn.getD n 0 + 1 else 0) else s.panel.btn.getD n 0
  | 0, _ => ⟨rfl, hlen, fun _ _ => rfl⟩
  | k + 1, hk => by
    obtain ⟨hregs, hl, hbtn⟩ := foldl_sampleButton (levels := levels) (same := same) hlen h k (Nat.le_of_succ_le hk)
    rw [List.range_succ, List.foldl_append, List.foldl_cons, List.foldl_nil]
    set t := (List.range k).foldl (fun s n => sampleButton levels same n s) s
    have hflag := flag_of_regs hregs
    have hget := get_of_regs hregs
    have hk0 : t.panel.btn.getD k 0 = s.panel.btn.getD k 0 := by rw [hbtn k hk, if_neg (Nat.lt_irrefl k)]
    obtain ⟨hregs', hbtn'⟩ := sampleButton_counted (s := t) (levels := levels) (same := same) (n := k)
      (by rw [hflag, hget, hk0]; exact (h k hk).imp_right .inr)
    refine ⟨hregs'.trans hregs, by rw [hbtn']; simpa using hl, fun n hn => ?_⟩
    rw [hbtn', hflag, hflag, hk0]
    by_cases hnk : n = k
    · subst hnk
      rw [if_pos (Nat.lt_succ_self n)]
      simp [hl, hn]
    · have hlt : n < k + 1 ↔ n < k := by omega
      rw [List.getD_eq_getElem?_getD, List.getElem?_set_ne (Ne.symm hnk), ← List.getD_eq_getElem?_getD, hbtn n hn]
      simp only [hlt]

/-- A debounced press of a button that requests no reset: its state and its event flag (R447). -/
theorem sampleButton_pressed {levels n : Nat} {same : Bool} (hn : n ≠ 0) (hen : s.flag (subBit PANEL_IO_BTNCFG_EN n) = true)
    (hlevel : levels.testBit n = true) (hup : s.flag (subBit PANEL_IO_BTNSTAT_STATE n) = false)
    (hdeb : s.get PANEL_IO_BTNCFG_DEB ≤ s.panel.btn.getD n 0 + 1) : sampleButton levels same n s =
      setEvt 0x011 (2 ^ n) ({ s with panel.btn := s.panel.btn.set n 0 }.putB (subBit PANEL_IO_BTNSTAT_STATE n) true) := by
  simp [sampleButton, hn, hen, hlevel, hup, Nat.not_lt.mpr hdeb, -List.getD_eq_getElem?_getD]

theorem raw_pressed {n m : Nat} {b : List Nat} (hs : Canon s) :
    (setEvt 0x011 m ({ s with panel.btn := b }.putB (subBit PANEL_IO_BTNSTAT_STATE n) true)).raw 0x11010 = s.raw 0x11010 ||| word m := by
  have hc : Canon ({ s with panel.btn := b }.putB (subBit PANEL_IO_BTNSTAT_STATE n) true) := canon_stored hs
  have hput : ({ s with panel.btn := b }.putB (subBit PANEL_IO_BTNSTAT_STATE n) true).raw 0x11010 = s.raw 0x11010 :=
    raw_put_ne (f := subBit PANEL_IO_BTNSTAT_STATE n) { s with panel.btn := b } (by simp [subBit]) _
  rw [← hput]
  exact raw_pgevt_setEvt (page := 0x11) hc rfl

end

/-- Settles O49. -/
theorem panelKeysButtonsAndLeds : Obligations.PanelKeysButtonsAndLeds := by
  unfold Obligations.PanelKeysButtonsAndLeds
  intro s hinv
  have hs := canon_of_inv hinv
  refine ⟨?_, ?_, ?_, ?_, ?_, ?_, ?_, ?_⟩
  · intro raws hen hraw hnone hbase hraws
    refine doesWithin_run (fun t h => (frame_execTouchScan h).mono (by decide) (by decide)) ?_
    have hnone' : ∀ k < 12, s.panel.hasBase.getD k false = false := by simpa [-List.getD_eq_getElem?_getD] using hnone
    have hraw' : ∀ k < 12, raws.getD k 0 < 65536 := by simpa [-List.getD_eq_getElem?_getD] using hraw
    have hbased : ((List.range 12).filter fun k => s.flag (PANEL_TOUCH_KCFG_KEN k)).filter (fun k => s.panel.hasBase.getD k false) = [] := by
      simp only [List.filter_eq_nil_iff, List.mem_filter]
      exact fun k hk => by simp [hnone' k (List.mem_range.mp hk.1), -List.getD_eq_getElem?_getD]
    have hfirst : ((List.range 12).filter fun k => s.flag (PANEL_TOUCH_KCFG_KEN k)).filter (fun k => !s.panel.hasBase.getD k false) =
        (List.range 12).filter fun k => s.flag (PANEL_TOUCH_KCFG_KEN k) := by
      simp only [List.filter_eq_self, List.mem_filter]
      exact fun k hk => by simp [hnone' k (List.mem_range.mp hk.1), -List.getD_eq_getElem?_getD]
    simp only [flag_silent, hen, silent_panel, hbased, hfirst, List.filter_nil, List.length_nil, Nat.not_lt_zero, decide_false,
      Bool.false_and, Bool.not_true, Bool.false_eq_true, if_false, List.foldl_nil]
    set keys := (List.range 12).filter fun k => s.flag (PANEL_TOUCH_KCFG_KEN k) with hkeys
    have hmem {k : Nat} (hk : k < 12) (hken : s.flag (PANEL_TOUCH_KCFG_KEN k) = true) : k ∈ keys :=
      List.mem_filter.mpr ⟨List.mem_range.mpr hk, hken⟩
    obtain ⟨hc, hpanel, -, hread⟩ := foldl_storeReading raws keys { s.silent with panel.scans := s.panel.scans + 1 } hs
    set u := (keys.foldl (storeReading raws) { s.silent with panel.scans := s.panel.scans + 1 }).putB PANEL_TOUCH_STAT_SUPP false with hu
    have hupanel : u.panel = { s.panel with scans := s.panel.scans + 1 } := hpanel
    obtain ⟨hscans, hkeep, hsupp, -, hin⟩ := foldl_scanFirst raws keys u (canon_stored hc) (List.nodup_range.filter _)
      (fun k hk => List.mem_range.mp (List.mem_filter.mp hk).1) (by rw [hupanel]; exact hraws) (by rw [hupanel]; exact hbase)
    rw [hupanel] at hscans
    refine ⟨hscans, fun k hk hken => ?_, hsupp.trans (get_putB_self hc (by decide) rfl), fun k hk hken h7 => ?_, fun k hk hken h7 => ?_⟩
    · refine (hkeep k).trans ((get_put_ne (f := PANEL_TOUCH_STAT_SUPP) _ (by simp; omega) _).trans ?_)
      rw [hread k, if_pos (hmem hk hken)]
      exact Nat.mod_eq_of_lt (hraw' k hk)
    · exact (hin k (hmem hk hken)).1 (by rw [hupanel]; exact h7)
    · exact ((hin k (hmem hk hken)).2 (by rw [hupanel]; exact h7)).trans (by rw [hupanel])
  · intro raws hen
    refine does_run (x := execTouchScan _ _) rfl ?_
    simp [hen]
  · intro key hkey htouch hheld hquiet
    refine doesWithin_run (fun t h => (frame_execStuckKey hkey h).mono (by decide) (by decide)) ?_
    have hquiet1 {f : Fld} (hf : 0x10040 ≤ f.addr ∧ f.addr < 0x100E4) : ¬ Loud f.addr := by
      rw [loud_iff]
      omega
    set u := (touchEnd key s.silent).put (subBit PANEL_TOUCH_STAT_STUCKK key) 1 with hu
    have hc1 : Canon (touchEnd key s.silent) := canon_stored hs
    have hc : Canon u := canon_stored hc1
    have hlo : key + 1 ≤ 32 := by omega
    have hlo2 : 12 + key + 1 ≤ 32 := by omega
    have huraw : u.get (PANEL_TOUCH_KDAT_RAW key) = s.get (PANEL_TOUCH_KDAT_RAW key) :=
      (get_put_ne _ (by simp [subBit]; omega) _).trans (get_put_ne _ (by simp [subBit]; omega) _)
    have hutouch : u.get (subBit PANEL_TOUCH_STAT_TOUCH key) = 0 := by
      refine (get_put_disjoint hc1 (by simp [subBit]; omega) (.inr (by simp [subBit])) _).trans ?_
      exact (get_put_self hs (by simp [subBit]; omega) _).trans (Nat.zero_mod _)
    have hustuck : u.get (subBit PANEL_TOUCH_STAT_STUCKK key) = 1 := get_put_self hc1 (by simp [subBit]; omega) _
    simp only [hkey, flag_silent, htouch, get_silent, silent_panel, hheld, decide_true, Bool.and_self, if_true]
    refine ⟨?_, ?_, ?_, ?_⟩
    · rw [get_raiseH (by decide) (hquiet1 (by simp [subBit])), get_setEvt (hquiet1 (by simp [subBit]))]
      exact (get_put_ne (f := PANEL_TOUCH_KDAT_BASE key) u (by simp [subBit]; omega) _).trans hutouch
    · rw [get_raiseH (by decide) (hquiet1 (by simp [subBit])), get_setEvt (hquiet1 (by simp [subBit]))]
      exact (get_put_ne (f := PANEL_TOUCH_KDAT_BASE key) u (by simp [subBit]; omega) _).trans hustuck
    · rw [get_raiseH (by decide) (hquiet1 (by simp; omega)), get_setEvt (hquiet1 (by simp; omega))]
      refine (get_put_self (f := PANEL_TOUCH_KDAT_BASE key) hc (by simp) _).trans ?_
      rw [huraw]
      exact Nat.mod_eq_of_lt (get_lt s (PANEL_TOUCH_KDAT_RAW key))
    · rw [raiseH_panel (by decide), setEvt_panel]
      simp [u, touchEnd, hquiet]
  · intro levels same hrun hen hlen
    refine doesWithin_run (fun t h => (frame_execButtonSample h).mono (by decide) (by decide)) ?_
    have hen' : ∀ n < 4, s.flag (subBit PANEL_IO_BTNCFG_EN n) = false := by simpa using hen
    obtain ⟨hregs, -, hbtn⟩ := foldl_sampleButton (s := s.silent) (levels := levels) (same := same) hlen (fun n hn => .inl (hen' n hn)) 4 (Nat.le_refl 4)
    simp only [silent_pwr, hrun]
    exact ⟨fun n hn => by simp [hbtn n hn, hn, hen' n hn, -List.getD_eq_getElem?_getD], hregs⟩
  · intro levels same hrun hdeb hlen
    refine doesWithin_run (fun t h => (frame_execButtonSample h).mono (by decide) (by decide)) ?_
    have hdeb' : ∀ n < 4, s.panel.btn.getD n 0 + 1 < s.get PANEL_IO_BTNCFG_DEB := by simpa using hdeb
    obtain ⟨hregs, -, hbtn⟩ := foldl_sampleButton (s := s.silent) (levels := levels) (same := same) hlen (fun n hn => .inr (hdeb' n hn)) 4 (Nat.le_refl 4)
    simp only [silent_pwr, hrun]
    exact ⟨hregs, fun n hn => by simp [hbtn n hn, hn, -List.getD_eq_getElem?_getD]⟩
  · intro levels same hrun hen hdeb hothers hlevel hup hlen
    refine doesWithin_run (fun t h => (frame_execButtonSample h).mono (by decide) (by decide)) ?_
    have hothers' : ∀ n < 4, n ≠ 1 → s.flag (subBit PANEL_IO_BTNCFG_EN n) = false := by
      simpa [imp_iff_or_not, or_comm] using hothers
    rw [show (s.silent.pwr.h != .run) = false by simp [hrun], show List.range 4 = [0, 1, 2, 3] by decide]
    simp only [Bool.false_eq_true, if_false, List.foldl_cons, List.foldl_nil]
    obtain ⟨hregs0, hbtn0⟩ := sampleButton_counted (s := s.silent) (levels := levels) (same := same) (n := 0)
      (.inl (hothers' 0 (by decide) (by decide)))
    set t0 := sampleButton levels same 0 s.silent
    have hb0 : t0.panel.btn.getD 1 0 = s.panel.btn.getD 1 0 := by simp [hbtn0]
    have hpress := sampleButton_pressed (s := t0) (levels := levels) (same := same) (n := 1) (by decide)
      ((flag_of_regs hregs0 _).trans hen) hlevel ((flag_of_regs hregs0 _).trans hup) (by rw [get_of_regs hregs0, hb0]; exact hdeb)
    have hc0 : Canon t0 := by unfold Canon; rw [hregs0]; exact hs
    have hdown {n : Nat} (hn : n < 4) (hne : n ≠ 1) {t : State} (h : ∀ f : Fld, f.addr = 0x11040 → t.flag f = t0.flag f) :
        t.flag (subBit PANEL_IO_BTNCFG_EN n) = false := by
      rw [h _ rfl, flag_of_regs hregs0]
      exact hothers' n hn hne
    set t1 := sampleButton levels same 1 t0
    have hcfg1 (f : Fld) (hf : f.addr = 0x11040) : t1.flag f = t0.flag f := by
      rw [hpress, flag_setEvt (by rw [loud_iff, hf]; decide)]
      exact congrArg (· == 1) (get_put_ne (f := subBit PANEL_IO_BTNSTAT_STATE 1) _ (by simp [subBit, hf]) _)
    have hbtn1 : t1.panel.btn = t0.panel.btn.set 1 0 := by
      rw [hpress, setEvt_panel]
      rfl
    obtain ⟨hregs2, hbtn2⟩ := sampleButton_counted (s := t1) (levels := levels) (same := same) (n := 2)
      (.inl (hdown (by decide) (by decide) hcfg1))
    set t2 := sampleButton levels same 2 t1
    obtain ⟨hregs3, hbtn3⟩ := sampleButton_counted (s := t2) (levels := levels) (same := same) (n := 3)
      (.inl (hdown (by decide) (by decide) fun f hf => (flag_of_regs hregs2 f).trans (hcfg1 f hf)))
    have hregs := hregs3.trans hregs2
    refine ⟨?_, ?_, ?_⟩
    · rw [get_of_regs hregs, hpress, get_setEvt (by simp [subBit])]
      exact get_putB_self (f := subBit PANEL_IO_BTNSTAT_STATE 1) hc0 (by decide) rfl
    · rw [hbtn3, hbtn2, hbtn1, hbtn0]
      simp [hlen]
    · rw [raw_of_regs hregs, hpress, raw_pressed hc0, raw_of_regs hregs0]
      rfl
  · intro levels same hrun
    refine does_run (x := execButtonSample _ _ _) rfl ?_
    simp [hrun]
  · intro led hled hdrive hopen
    refine doesWithin_run (fun t h => (frame_execLedOpen hled h).mono (by decide) (by decide)) ?_
    simp [hled, hdrive, hopen]
    rw [get_raiseH (by decide) (not_loud_led hled), get_setEvt (not_loud_led hled)]
    simp [hs]

end Sys2Proof.Machine
end

section
/-! PROOFS. Cycles, states and faults of the auxiliary supply, scans and comparators of the H-die (R481–R489). -/

namespace Sys2Proof.Machine

set_option Elab.async false

section
variable {s : State}

/-! ### Results of the H-die's converter (R487, R488) -/

section
variable {i code w : Nat} {f : Fld}

theorem get_windowCheck (hquiet : ¬ Loud f.addr) : (windowCheck i code w s).get f = s.get f := by
  unfold windowCheck
  extract_lets out was s1
  split
  · rfl
  · split
    · rfl
    · split
      · rw [get_raiseH (by decide) hquiet, get_setEvt hquiet]
        rfl
      · rfl

theorem windowCheck_same {x : Part} (hx : x ∉ [Part.link, .intc, .jr, .analog]) : x.same s (windowCheck i code w s) :=
  (within_windowCheck (G := [0x02, 0x04, 0x09, 0x1F, 0x51]) (Q := [.link, .intc, .jr, .analog]) (within_refl _ _ s)).same x hx

/-- The checks of the four windows leave the registers but those of events. -/
theorem get_foldl_windowCheck (hquiet : ¬ Loud f.addr) (l : List Nat) (s : State) :
    (l.foldl (fun s w => windowCheck i code w s) s).get f = s.get f := by
  induction l generalizing s with
  | nil => rfl
  | cons w l ih => rw [List.foldl_cons, ih, get_windowCheck hquiet]

variable (hi : i < 16)
include hi

@[simp] theorem canon_hadcResult : Canon (hadcResult i code s) ↔ Canon s ∨ CanonNext (hadcResult i code s) :=
  (within_hadcResult (G := [0x02, 0x04, 0x09, 0x1F, 0x51]) (Q := [.link, .intc, .jr, .analog]) (within_refl _ _ s) hi).canon

theorem hadcResult_same {x : Part} (hx : x ∉ [Part.link, .intc, .jr, .analog]) : x.same s (hadcResult i code s) :=
  (within_hadcResult (G := [0x02, 0x04, 0x09, 0x1F, 0x51]) (Q := [.link, .intc, .jr, .analog]) (within_refl _ _ s) hi).same x hx

theorem not_loud_res : ¬ Loud (HADC_RES_CODE i).addr := by
  rw [loud_iff]
  dsimp only
  omega

variable (hs : Canon s)
include hs

omit hi hs in
/-- The registers of a result before the windows are checked. -/
theorem get_hadcResult_counted {f : Fld} (hquiet : ¬ Loud f.addr) (hstat : f.addr ≠ HADC_STAT_CONV.addr) : (hadcResult i code s).get f =
    (((s.put (HADC_RES_CODE i) (code % 4096)).put (HADC_RES_VALID i) 1).countWrap (HADC_RES_SEQ i)).get f :=
  (get_foldl_windowCheck hquiet _ _).trans (get_put_ne (f := HADC_STAT_CONV) _ hstat _)

omit hi hs in
theorem get_hadcResult (hquiet : ¬ Loud f.addr) (hres : f.addr ≠ (HADC_RES_CODE i).addr) (hstat : f.addr ≠ HADC_STAT_CONV.addr) :
    (hadcResult i code s).get f = s.get f :=
  calc (hadcResult i code s).get f
      = (((s.put (HADC_RES_CODE i) (code % 4096)).put (HADC_RES_VALID i) 1).countWrap (HADC_RES_SEQ i)).get f :=
        get_hadcResult_counted hquiet hstat
    _ = ((s.put (HADC_RES_CODE i) (code % 4096)).put (HADC_RES_VALID i) 1).get f := get_put_ne (f := HADC_RES_SEQ i) _ hres _
    _ = (s.put (HADC_RES_CODE i) (code % 4096)).get f := get_put_ne (f := HADC_RES_VALID i) _ hres _
    _ = s.get f := get_put_ne (f := HADC_RES_CODE i) _ hres _

theorem hadcResult_fields : (hadcResult i code s).get (HADC_RES_CODE i) = code % 4096 ∧ (hadcResult i code s).get (HADC_RES_VALID i) = 1 ∧
    (hadcResult i code s).get (HADC_RES_SEQ i) = (s.get (HADC_RES_SEQ i) + 1) % 2 ^ 16 := by
  have hne : (HADC_RES_CODE i).addr ≠ HADC_STAT_CONV.addr := by dsimp only; omega
  refine ⟨?_, ?_, ?_⟩
  · rw [get_hadcResult_counted (not_loud_res hi) hne]
    simp [hs]
  · rw [get_hadcResult_counted (f := HADC_RES_VALID i) (not_loud_res hi) hne]
    simp [hs]
  · rw [get_hadcResult_counted (f := HADC_RES_SEQ i) (not_loud_res hi) hne]
    simp [hs]

theorem get_hadcResult_conv : (hadcResult i code s).get HADC_STAT_CONV = (s.get HADC_STAT_CONV + 1) % 2 ^ 16 := by
  have hres : HADC_STAT_CONV.addr ≠ (HADC_RES_CODE i).addr := by dsimp only; omega
  unfold hadcResult
  extract_lets c s1
  have hc : Canon s1 := canon_stored (canon_stored (canon_stored hs))
  have h1 : s1.get HADC_STAT_CONV = s.get HADC_STAT_CONV :=
    calc s1.get HADC_STAT_CONV
        = ((s.put (HADC_RES_CODE i) c).put (HADC_RES_VALID i) 1).get HADC_STAT_CONV := get_put_ne (f := HADC_RES_SEQ i) _ hres _
      _ = (s.put (HADC_RES_CODE i) c).get HADC_STAT_CONV := get_put_ne (f := HADC_RES_VALID i) _ hres _
      _ = s.get HADC_STAT_CONV := get_put_ne (f := HADC_RES_CODE i) _ hres _
  rw [get_foldl_windowCheck (by simp), get_countWrap_self hc (by decide), h1]

end

/-! ### States of the auxiliary supply (R482) -/

section
variable {st evt : Nat} {demanded fault : Bool}

/-- What a demand leaves at the start of a change of state. -/
def afterDemand (demanded : Bool) (s : State) : State := if demanded then demand 5 0 s else s

theorem canon_afterDemand (hs : Canon s) : Canon (afterDemand demanded s) := by
  cases demanded <;> simp [afterDemand, hs]

theorem get_afterDemand {f : Fld} (hs : Canon s) (hpage : pageOf f.addr ≠ 0x03 ∧ pageOf f.addr ≠ 0x14) (hquiet : ¬ Loud f.addr) :
    (afterDemand demanded s).get f = s.get f := by
  cases demanded with
  | false => rfl
  | true =>
    obtain ⟨h3, h14⟩ := hpage
    unfold pageOf at h3 h14
    exact get_demand hs hquiet (by dsimp only; omega) (by dsimp only; omega) (by dsimp only; omega) (.inl (by dsimp only; omega))

theorem get_afterDemand_permit (hs : Canon s) :
    (afterDemand demanded s).get SAFETY_STAT_PERMIT = if demanded then 0 else s.get SAFETY_STAT_PERMIT := by
  cases demanded with
  | false => rfl
  | true => exact get_demand_permit hs

theorem afterDemand_aux : (afterDemand demanded s).aux = s.aux := by
  cases demanded with
  | false => rfl
  | true => exact demand_same (x := .aux) (by decide)

/-- The rest of a change of state: it leaves the state, a field beside it and the internal part. -/
structure AuxSettled (f : Fld) (st : Nat) (s t : State) : Prop where
  canon : Canon t
  state : t.get AUXSUP_STAT_STATE = st
  field : t.get f = s.get f
  aux : t.aux = s.aux

section
variable {f : Fld} {t : State} (h : AuxSettled f st s t)
include h

theorem AuxSettled.setEvt {p m : Nat} (hquiet : ¬ Loud f.addr) : AuxSettled f st s (setEvt p m t) where
  canon := canon_setEvt.mpr (.inl h.canon)
  state := (get_setEvt (by simp)).trans h.state
  field := (get_setEvt hquiet).trans h.field
  aux := setEvt_aux.trans h.aux

theorem AuxSettled.raiseH {b c : Nat} (hquiet : ¬ Loud f.addr) : AuxSettled f st s (raiseH 124 b c t) where
  canon := (canon_raiseH (by decide)).mpr (.inl h.canon)
  state := (get_raiseH (by decide) (by simp)).trans h.state
  field := (get_raiseH (by decide) hquiet).trans h.field
  aux := (raiseH_aux (by decide)).trans h.aux

theorem AuxSettled.put {g : Fld} {v : Nat} (hg : g.lo + g.wd ≤ 32) (hd : AUXSUP_STAT_STATE.addr ≠ g.addr ∨ 3 ≤ g.lo) (hf : f.addr ≠ g.addr) :
    AuxSettled f st s (t.put g v) where
  canon := canon_stored h.canon
  state := (get_put_disjoint h.canon hg (hd.imp_right .inl) v).trans h.state
  field := (get_put_ne t hf v).trans h.field
  aux := h.aux

end

theorem auxState_settled {f : Fld} (hs : Canon s) (hst : st < 8) (hquiet : ¬ Loud f.addr) (hstat : f.addr ≠ AUXSUP_STAT_STATE.addr)
    (hfault : f.addr ≠ AUXSUP_FAULTW_SWARP.addr) : ∃ t, AuxSettled f st (afterDemand demanded s) t ∧ auxState st evt demanded fault s =
      if st = 1 then { t with aux := { t.aux with fbs := [], cycles := 0, step := 0, integ := 0, oc := 0, ov := 0 } } else t := by
  have hc1 : Canon (afterDemand demanded s) := canon_afterDemand hs
  unfold auxState
  extract_lets old s1 s2 s3 s4 s4' s5
  have h2 : AuxSettled f st (afterDemand demanded s) s2 :=
    ⟨canon_stored hc1, (get_put_self hc1 (by decide) st).trans (Nat.mod_eq_of_lt hst), get_put_ne _ hstat st, rfl⟩
  have h3 : AuxSettled f st (afterDemand demanded s) s3 := by
    unfold s3
    split
    · exact h2
    · exact h2.setEvt hquiet
  have h4 : AuxSettled f st (afterDemand demanded s) s4 := by
    unfold s4
    split
    · exact h3.put (g := AUXSUP_FAULTW_SWARP) (by decide) (by decide) hfault
    · exact h3
  have h4' : AuxSettled f st (afterDemand demanded s) s4' := by
    unfold s4'
    split
    · exact (h4.put (g := AUXSUP_STAT_PGOOD) (v := 0) (by decide) (by decide) hstat).setEvt hquiet
    · exact h4
  exact ⟨s5, h4'.raiseH hquiet, rfl⟩

section
variable (hs : Canon s) (hst : st < 8)
include hs hst

theorem get_auxState {f : Fld} (hquiet : ¬ Loud f.addr) (hstat : f.addr ≠ AUXSUP_STAT_STATE.addr) (hfault : f.addr ≠ AUXSUP_FAULTW_SWARP.addr) :
    (auxState st evt demanded fault s).get f = (afterDemand demanded s).get f := by
  obtain ⟨t, ht, heq⟩ := auxState_settled (evt := evt) (demanded := demanded) (fault := fault) hs hst hquiet hstat hfault
  rw [heq, ← ht.field]
  split <;> rfl

theorem get_auxState_state : (auxState st evt demanded fault s).get AUXSUP_STAT_STATE = st := by
  obtain ⟨t, ht, heq⟩ := auxState_settled (f := AUXSUP_CTL_EN) (evt := evt) (demanded := demanded) (fault := fault) hs hst (by simp)
    (by decide) (by decide)
  rw [heq, ← ht.state]
  split <;> rfl

theorem get_auxState_permit : (auxState st evt demanded fault s).get SAFETY_STAT_PERMIT = if demanded then 0 else s.get SAFETY_STAT_PERMIT :=
  (get_auxState hs hst (by simp) (by decide) (by decide)).trans (get_afterDemand_permit hs)

theorem auxState_aux : (auxState st evt demanded fault s).aux =
    if st = 1 then { s.aux with fbs := [], cycles := 0, step := 0, integ := 0, oc := 0, ov := 0 } else s.aux := by
  obtain ⟨t, ht, heq⟩ := auxState_settled (f := AUXSUP_CTL_EN) (evt := evt) (demanded := demanded) (fault := fault) hs hst (by simp)
    (by decide) (by decide)
  rw [heq, ← (ht.aux.trans afterDemand_aux)]
  split <;> rfl

end

theorem canon_auxState (hs : Canon s) : Canon (auxState st evt demanded fault s) :=
  (within_auxState (G := [0x02, 0x03, 0x04, 0x09, 0x14, 0x1C, 0x51]) (Q := [.link, .intc, .jr, .aux]) (within_refl _ _ s)).wf hs

/-- An enable that is written before a soft start stays. -/
theorem get_auxState_enable {b : Bool} {a : AuxSt} (hs : Canon s) :
    (auxState 1 0 false false { s.silent.putB AUXSUP_CTL_EN b with aux := a }).get AUXSUP_CTL_EN = bit b := by
  have hc : Canon { s.silent.putB AUXSUP_CTL_EN b with aux := a } := canon_stored hs
  refine (get_auxState hc (by decide) (by simp) (by decide) (by decide)).trans ?_
  exact get_putB_self (f := AUXSUP_CTL_EN) (s := s.silent) hs (by decide) rfl

/-- The check of the output leaves the state and the fields beside it. -/
theorem auxGood_settled {f : Fld} (hs : Canon s) (hstate : s.get AUXSUP_STAT_STATE = st) (hquiet : ¬ Loud f.addr)
    (hstat : f.addr ≠ AUXSUP_STAT_STATE.addr) : AuxSettled f st s (auxGood s) := by
  have h0 : AuxSettled f st s s := ⟨hs, hstate, rfl, rfl⟩
  unfold auxGood
  extract_lets vset m b s1
  have h1 : AuxSettled f st s s1 := h0.put (g := AUXSUP_STAT_FB) (by decide) (by decide) hstat
  split
  · exact h1
  · exact (h1.put (g := AUXSUP_STAT_PGOOD) (v := bit b) (by decide) (by decide) hstat).setEvt hquiet

/-- The first hiccup of 10 s (R485). -/
theorem enterHiccup_first (h : s.aux.hiccups = []) : enterHiccup evt demanded s =
    auxState 3 (evt + 2) demanded true ({ s with aux := { s.aux with hiccups := [s.aux.time] } }.count AUXSUP_CNT_HICCUP) := by
  simp [enterHiccup, h]

/-- What the first hiccup leaves: state 3, its instant and its count, and the permit withdrawn when it was demanded. -/
theorem enterHiccup_fields (hs : Canon s) (h : s.aux.hiccups = []) : (enterHiccup evt demanded s).get AUXSUP_STAT_STATE = 3 ∧
    (enterHiccup evt demanded s).aux.hiccups = [s.aux.time] ∧
    (enterHiccup evt demanded s).get AUXSUP_CNT_HICCUP = min (s.get AUXSUP_CNT_HICCUP + 1) (2 ^ 16 - 1) ∧
    (enterHiccup evt demanded s).get SAFETY_STAT_PERMIT = if demanded then 0 else s.get SAFETY_STAT_PERMIT := by
  rw [enterHiccup_first h]
  set u := ({ s with aux := { s.aux with hiccups := [s.aux.time] } } : State) with hu
  have hcu : Canon u := hs
  have hc : Canon (u.count AUXSUP_CNT_HICCUP) := canon_stored hcu
  refine ⟨get_auxState_state hc (by decide), ?_, ?_, ?_⟩
  · rw [auxState_aux hc (by decide)]
    rfl
  · rw [get_auxState hc (by decide) (by simp) (by decide) (by decide), get_afterDemand hc (by decide) (by simp), get_counted hcu (by decide)]
    rfl
  · rw [get_auxState_permit hc (by decide), get_count_ne (by decide)]
    rfl

/-! ### Comparators of the H-die (R489) -/

/-- A comparator that trips: its output and its count. -/
theorem compared_fields {cmp : Nat} (hs : Canon s) (hcmp : cmp < 8) :
    ((s.putB (subBit HCMP_STAT_OUT cmp) true).count (HCMP_TRIPCNT_COUNT cmp)).get (subBit HCMP_STAT_OUT cmp) = 1 ∧
    ((s.putB (subBit HCMP_STAT_OUT cmp) true).count (HCMP_TRIPCNT_COUNT cmp)).get (HCMP_TRIPCNT_COUNT cmp) =
      min (s.get (HCMP_TRIPCNT_COUNT cmp) + 1) (2 ^ 32 - 1) := by
  have hc : Canon (s.putB (subBit HCMP_STAT_OUT cmp) true) := canon_stored hs
  constructor
  · refine (get_count_ne (by simp [subBit]; omega)).trans ?_
    exact get_putB_self (f := subBit HCMP_STAT_OUT cmp) hs (by simp [subBit]; omega) rfl
  · rw [get_counted hc (by simp)]
    rw [show (s.putB (subBit HCMP_STAT_OUT cmp) true).get (HCMP_TRIPCNT_COUNT cmp) = s.get (HCMP_TRIPCNT_COUNT cmp) from
      get_put_ne (f := subBit HCMP_STAT_OUT cmp) s (by simp [subBit]; omega) _]

/-! ### A cycle of the auxiliary supply (R481) -/

/-- The internal part after a cycle that ended by `endBy` and sampled `fb`. -/
def cycleAux (endBy fb : Nat) (s : State) : AuxSt :=
  let code := fb % 4096
  let fsw := s.get AUXSUP_CFG_FSW
  let above := decide (s.get AUXSUP_PROT_OVP * s.get AUXSUP_VREG_VSET < 100 * code)
  { s.aux with fbs := (code :: s.aux.fbs).take fsw, cycles := s.aux.cycles + 1, step := s.aux.step + 1,
               time := s.aux.time + 1000 / (fsw : Rat), oc := if endBy = 2 then s.aux.oc + 1 else 0, ov := if above then s.aux.ov + 1 else 0 }

theorem cycleAux_ov_le (endBy fb : Nat) (s : State) : (cycleAux endBy fb s).ov ≤ s.aux.ov + 1 := by
  unfold cycleAux
  dsimp only
  split
  · exact Nat.le_refl _
  · exact Nat.zero_le _

/-- The duty and the sample of a cycle. -/
def cycleSampled (duty fb : Nat) (s : State) : State :=
  hadcResult 7 (fb % 4096) (s.put AUXSUP_VC_DUTY (min duty (10 * s.get AUXSUP_CFG_DMAX)))

/-- A cycle in state 2 up to its checks, between two steps of the loop. -/
def auxCycled (endBy duty fb : Nat) (s : State) : State := auxGood { cycleSampled duty fb s with aux := cycleAux endBy fb s }

theorem cycleSampled_aux {duty fb : Nat} : (cycleSampled duty fb s).aux = s.aux := hadcResult_same (x := .aux) (by decide) (by decide)

section
variable {endBy duty fb : Nat} (hs : Canon s) (hstate : s.get AUXSUP_STAT_STATE = 2)
include hs

theorem canon_dutyStored : Canon (s.put AUXSUP_VC_DUTY (min duty (10 * s.get AUXSUP_CFG_DMAX))) := canon_stored hs

/-- A field of another register than the result's and the duty's. -/
theorem get_cycleSampled {f : Fld} (hquiet : ¬ Loud f.addr) (hres : f.addr ≠ (HADC_RES_CODE 7).addr) (hconv : f.addr ≠ HADC_STAT_CONV.addr)
    (hduty : f.addr ≠ AUXSUP_VC_DUTY.addr ∨ f.lo + f.wd ≤ 16) : (cycleSampled duty fb s).get f = s.get f :=
  (get_hadcResult (i := 7) hquiet hres hconv).trans
    (get_put_disjoint (f := AUXSUP_VC_DUTY) hs (by decide) (hduty.imp_right .inl) _)

include hstate

theorem auxCycled_settled {f : Fld} (hquiet : ¬ Loud f.addr) (hstat : f.addr ≠ AUXSUP_STAT_STATE.addr) :
    Canon (auxCycled endBy duty fb s) ∧ (auxCycled endBy duty fb s).get AUXSUP_STAT_STATE = 2 ∧
    (auxCycled endBy duty fb s).aux = cycleAux endBy fb s ∧ (auxCycled endBy duty fb s).get f = (cycleSampled duty fb s).get f := by
  have hc : Canon (cycleSampled duty fb s) := (canon_hadcResult (by decide)).mpr (.inl (canon_dutyStored hs))
  have hst : (cycleSampled duty fb s).get AUXSUP_STAT_STATE = 2 := by
    rw [get_cycleSampled hs (by simp) (by decide) (by decide) (.inl (by decide)), hstate]
  obtain ⟨hc', hst', hf, haux⟩ := auxGood_settled (f := f) (s := { cycleSampled duty fb s with aux := cycleAux endBy fb s }) hc hst hquiet hstat
  exact ⟨hc', hst', haux, hf⟩

/-- The same, with the check of the output. -/
theorem get_auxCycled {f : Fld} (hquiet : ¬ Loud f.addr) (hstat : f.addr ≠ AUXSUP_STAT_STATE.addr) (hres : f.addr ≠ (HADC_RES_CODE 7).addr)
    (hconv : f.addr ≠ HADC_STAT_CONV.addr) (hduty : f.addr ≠ AUXSUP_VC_DUTY.addr ∨ f.lo + f.wd ≤ 16) :
    (auxCycled endBy duty fb s).get f = s.get f := by
  obtain ⟨-, -, -, hf⟩ := auxCycled_settled (endBy := endBy) (duty := duty) (fb := fb) hs hstate hquiet hstat
  exact hf.trans (get_cycleSampled hs hquiet hres hconv hduty)

end

/-- A cycle in state 2, between two steps of the loop: then the checks for overvoltage and for overcurrent. -/
theorem auxCycle_running {endBy duty fb : Nat} (hs : Canon s) (hstate : s.get AUXSUP_STAT_STATE = 2) (hstep : s.aux.step < 7) {P : State → Prop}
    (hP : P (if 4 ≤ (auxCycled endBy duty fb s.silent).aux.ov then auxState 5 4 true true ((auxCycled endBy duty fb s.silent).count AUXSUP_CNT_OVP)
      else if 4 ≤ (auxCycled endBy duty fb s.silent).aux.oc then enterHiccup 0 true (auxCycled endBy duty fb s.silent)
      else auxCycled endBy duty fb s.silent)) :
    DoesWithin (.auxCycle endBy duty fb) s [0x02, 0x03, 0x04, 0x09, 0x14, 0x1C, 0x1F, 0x51] [.link, .intc, .jr, .aux, .analog] P := by
  refine doesWithin_run (fun t h => (frame_execAuxCycle h).mono (by decide) (by decide)) ?_
  obtain ⟨-, -, haux, -⟩ := auxCycled_settled (s := s.silent) (endBy := endBy) (duty := duty) (fb := fb) (f := AUXSUP_CTL_EN) hs hstate (by simp)
    (by decide)
  have hu : (hadcResult 7 (fb % 4096) (s.silent.put AUXSUP_VC_DUTY (min duty (10 * s.get AUXSUP_CFG_DMAX)))).aux = s.aux :=
    cycleSampled_aux (s := s.silent)
  have hfew : ¬ 8 ≤ s.aux.step + 1 := by omega
  rw [haux] at hP
  simp only [get_silent, hstate, hu, hfew, if_false, ne_eq, Nat.reduceEqDiff, not_false_eq_true, not_true_eq_false, decide_true, decide_false,
    Bool.and_false, Bool.false_eq_true]
  exact hP

end

end

/-- Settles O55. -/
theorem auxiliarySupply : Obligations.AuxiliarySupply := by
  unfold Obligations.AuxiliarySupply
  intro s hinv
  have hs := canon_of_inv hinv
  refine ⟨?_, ?_, ?_, ?_, ?_, ?_, ?_, ?_, ?_, ?_, ?_, ?_, ?_, ?_, ?_⟩
  · rintro endBy duty fb hstate hstep rfl hov
    refine auxCycle_running hs hstate hstep ?_
    obtain ⟨hc, hst, haux, hduty⟩ := auxCycled_settled (s := s.silent) (endBy := 0) (duty := duty) (fb := fb) (f := AUXSUP_VC_DUTY) hs hstate
      (by simp) (by decide)
    obtain ⟨-, -, -, hcode⟩ := auxCycled_settled (s := s.silent) (endBy := 0) (duty := duty) (fb := fb) (f := HADC_RES_CODE 7) hs hstate
      (by simp) (by decide)
    have hput := canon_dutyStored (s := s.silent) (duty := duty) hs
    have hnov : ¬ 4 ≤ (auxCycled 0 duty fb s.silent).aux.ov := by
      rw [haux]
      exact not_le.mpr (Nat.lt_of_le_of_lt (cycleAux_ov_le ..) (Nat.succ_lt_succ hov))
    have hnoc : ¬ 4 ≤ (auxCycled 0 duty fb s.silent).aux.oc := by
      rw [haux]
      exact Nat.not_succ_le_zero 3
    rw [if_neg hnov, if_neg hnoc]
    refine ⟨?_, ?_, hst, by rw [haux]; rfl, by rw [haux]; rfl, by rw [haux]; rfl, ?_⟩
    · refine hduty.trans ((get_hadcResult (i := 7) (by simp) (by decide) (by decide)).trans ?_)
      exact get_put_self (f := AUXSUP_VC_DUTY) (s := s.silent) hs (by decide) _
    · exact hcode.trans ((hadcResult_fields (by decide) hput).1.trans (Nat.mod_mod _ _))
    · exact get_auxCycled (s := s.silent) hs hstate (by simp) (by decide) (by decide) (by decide) (.inr (by decide))
  · rintro endBy duty fb hstate hstep rfl hoc hov hnone
    refine auxCycle_running hs hstate hstep ?_
    obtain ⟨hc, hst, haux, -⟩ := auxCycled_settled (s := s.silent) (endBy := 2) (duty := duty) (fb := fb) (f := AUXSUP_CTL_EN) hs hstate
      (by simp) (by decide)
    have hnov : ¬ 4 ≤ (auxCycled 2 duty fb s.silent).aux.ov := by
      rw [haux]
      exact not_le.mpr (Nat.lt_of_le_of_lt (cycleAux_ov_le ..) (Nat.succ_lt_succ hov))
    have hfour : 4 ≤ (auxCycled 2 duty fb s.silent).aux.oc := by
      rw [haux]
      exact Nat.le_of_eq (congrArg (· + 1) hoc.symm)
    have hnone' : (auxCycled 2 duty fb s.silent).aux.hiccups = [] := by
      rw [haux]
      exact hnone
    rw [if_neg hnov, if_pos hfour]
    obtain ⟨h3, hhic, hcnt, hpermit⟩ := enterHiccup_fields (evt := 0) (demanded := true) hc hnone'
    refine ⟨h3, by rw [hhic]; rfl, hcnt.trans ?_, hpermit⟩
    rw [get_auxCycled (s := s.silent) hs hstate (by simp) (by decide) (by decide) (by decide) (.inl (by decide))]
    rfl
  · intro endBy duty fb hstate hstep hov habove
    refine auxCycle_running hs hstate hstep ?_
    obtain ⟨hc, hst, haux, -⟩ := auxCycled_settled (s := s.silent) (endBy := endBy) (duty := duty) (fb := fb) (f := AUXSUP_CTL_EN) hs hstate
      (by simp) (by decide)
    have hfour : 4 ≤ (auxCycled endBy duty fb s.silent).aux.ov := by
      rw [haux]
      simp [cycleAux, habove, hov]
    have hc' : Canon ((auxCycled endBy duty fb s.silent).count AUXSUP_CNT_OVP) := canon_stored hc
    rw [if_pos hfour]
    refine ⟨get_auxState_state hc' (by decide), ?_, get_auxState_permit hc' (by decide)⟩
    rw [get_auxState hc' (by decide) (by simp) (by decide) (by decide), get_afterDemand hc' (by decide) (by simp), get_counted hc (by decide),
      get_auxCycled (s := s.silent) hs hstate (by simp) (by decide) (by decide) (by decide) (.inl (by decide))]
    rfl
  · intro input hstate hin
    refine doesWithin_run (fun t h => (frame_execAuxFaultTimer h).mono (by decide) (by decide)) ?_
    simp [hstate, hin, get_auxState_state, get_auxState_permit, auxState_aux, hs]
  · intro input hstate hin hnone
    refine doesWithin_run (fun t h => (frame_execAuxFaultTimer h).mono (by decide) (by decide)) ?_
    obtain ⟨h3, hhic, -, hpermit⟩ := enterHiccup_fields (evt := 8) (demanded := true) (s := s.silent) hs hnone
    simp [hstate, hin, h3, hhic, hpermit]
  · rintro value rfl hstate hvin
    refine doesWithin_run (fun t h => (frame_execAuxEn h).mono (by decide) (by decide)) ?_
    simp [auxCtlWrite, hstate, hvin, get_auxState_state, get_auxState_permit, auxState_aux, hs]
    have hc : Canon (s.silent.putB AUXSUP_CTL_EN true) := canon_stored hs
    refine (get_auxState hc (by decide) (by simp) (by decide) (by decide)).trans ?_
    exact get_putB_self (f := AUXSUP_CTL_EN) (s := s.silent) hs (by decide) rfl
  · rintro value rfl hstate
    refine doesWithin_run (fun t h => (frame_execAuxEn h).mono (by decide) (by decide)) ?_
    simp [auxCtlWrite, hstate, get_auxState_state, get_auxState_permit, hs]
    have hc : Canon (s.silent.putB AUXSUP_CTL_EN false) := canon_stored hs
    refine (get_auxState hc (by decide) (by simp) (by decide) (by decide)).trans ((get_afterDemand hc (by decide) (by simp)).trans ?_)
    exact get_putB_self (f := AUXSUP_CTL_EN) (s := s.silent) hs (by decide) rfl
  · intro hstate
    refine doesWithin_run (fun t h => (frame_execAuxRestart h).mono (by decide) (by decide)) ?_
    have hen : s.get AUXSUP_CTL_EN = 0 ∨ s.get AUXSUP_CTL_EN = 1 := by
      have : s.get AUXSUP_CTL_EN < 2 := get_lt s AUXSUP_CTL_EN
      omega
    rcases hen with h | h
    · simp [auxCtlWrite, h, hstate, word, get_auxState_state, auxState_aux, hs]
      exact get_auxState_enable hs
    · simp [auxCtlWrite, h, hstate, word, get_auxState_state, auxState_aux, hs]
      exact get_auxState_enable hs
  · intro hstate hnone
    refine doesWithin_run (fun t h => (frame_execAuxSoftstartTimeout h).mono (by decide) (by decide)) ?_
    obtain ⟨h3, hhic, -, hpermit⟩ := enterHiccup_fields (evt := 0) (demanded := false) (s := s.silent) hs hnone
    simp [hstate, h3, hhic, hpermit]
  · intro hstate
    refine doesWithin_run (fun t h => (frame_execHiccupEnd h).mono (by decide) (by decide)) ?_
    simp [hstate, get_auxState_state, auxState_aux, hs]
  · intro elapsed hstate
    refine doesWithin_run (fun t h => (frame_execInuvRecover h).mono (by decide) (by decide)) ?_
    simp [hstate, get_auxState_state, auxState_aux, hs]
  · rintro codes n c rfl hlow hn hen
    refine doesWithin_run (fun t h => (frame_execHadcScan h).mono (by decide) (by decide)) ?_
    obtain ⟨hcode, hvalid, hseq⟩ := hadcResult_fields (code := c) (s := s.silent) hn hs
    have hconv := get_hadcResult_conv (code := c) (s := s.silent) hn hs
    simp [hlow, hn, hen, hcode, hvalid, hseq, hconv]
  · intro cmp tripped hcmp htrip hrun hlow hevt
    refine doesWithin_run (fun t h => (frame_execHcmpTrip hcmp h).mono (by decide) (by decide)) ?_
    obtain ⟨hout, hcnt⟩ := compared_fields (s := s.silent) hs hcmp
    simp [Nat.not_le.mpr hcmp, htrip, hrun, hevt, Nat.not_le.mpr hlow]
    refine ⟨hout, (get_setEvt (by rw [loud_iff]; dsimp only; omega)).trans hcnt⟩
  · intro cmp tripped hcmp htrip hrun hlow hhigh hlen
    refine doesWithin_run (fun t h => (frame_execHcmpTrip hcmp h).mono (by decide) (by decide)) ?_
    obtain ⟨hout, -⟩ := compared_fields (s := s.silent) hs hcmp
    have hnone : ¬ ((cmp = 1 ∨ cmp = 6) ∨ cmp = 7) := by omega
    have hlen' : cmp - 2 < s.louv.length := by omega
    simp [Nat.not_le.mpr hcmp, htrip, hrun, hlow, hhigh, hnone, hlen']
    refine ⟨hout, rfl, ?_⟩
    exact (raw_count_other (f := HCMP_TRIPCNT_COUNT cmp) (by dsimp only; omega)).trans
      (raw_putB_other (f := subBit HCMP_STAT_OUT cmp) (by simp [subBit]))
  · intro cmp tripped hcmp htrip
    refine doesWithin_run (fun t h => (frame_execHcmpTrip hcmp h).mono (by decide) (by decide)) ?_
    have hout : (s.silent.putB (subBit HCMP_STAT_OUT cmp) false).get (subBit HCMP_STAT_OUT cmp) = 0 :=
      get_putB_self (f := subBit HCMP_STAT_OUT cmp) (s := s.silent) hs (by simp [subBit]; omega) rfl
    cases hrun : s.analog.run.testBit cmp <;> simp [Nat.not_le.mpr hcmp, htrip, hrun, hout]

end Sys2Proof.Machine
end

section
/-! PROOFS. Requests for transitions, burns, and fuse words as they are programmed (R494–R498). -/

namespace Sys2Proof.Machine

set_option Elab.async false

section
variable {s : State}

/-! ### The nonce of the next request (R495) -/

/-- One word of the nonce is drawn. -/
theorem drawNonce_eq : drawNonce s =
    (List.range 8).foldl (fun s i => (freeWord s).2.put (LIFECYCLE_LCNONCE_N i) (freeWord s).1.toNat) s := (rfl)

/-- What every word of the nonce leaves, the nonce leaves. -/
theorem drawNonce_keeps {P : State → Prop} (hP : P s) (hstep : ∀ t, P t → ∀ i, P ((freeWord t).2.put (LIFECYCLE_LCNONCE_N i) (freeWord t).1.toNat)) :
    P (drawNonce s) := by
  rw [drawNonce_eq]
  exact List.foldlRecOn _ _ hP fun t ht i _ => hstep t ht i

@[simp] theorem drawNonce_sec : (drawNonce s).sec = s.sec := drawNonce_keeps (P := fun t => t.sec = s.sec) rfl fun _ h _ => h

@[simp] theorem canon_drawNonce : Canon (drawNonce s) ↔ Canon s ∨ CanonNext (drawNonce s) :=
  canon_next fun h => drawNonce_keeps h fun _ ht _ => canon_stored ht

@[simp] theorem get_drawNonce {f : Fld} (hf : f.addr < 0x7080) : (drawNonce s).get f = s.get f :=
  drawNonce_keeps (P := fun t => t.get f = s.get f) rfl fun t h i =>
    (get_put_ne (f := LIFECYCLE_LCNONCE_N i) (freeWord t).2 (by dsimp only; omega) _).trans h

/-! ### What the fuses load (R491) -/

theorem canon_loadFuses (hs : Canon s) : Canon (loadFuses s) :=
  (within_loadFuses (G := [0x06, 0x07]) (Q := []) (within_refl _ _ s)).wf hs

@[simp] theorem loadFuses_sec : (loadFuses s).sec = s.sec := (rfl)

theorem get_loadFuses_status {f : Fld} (hs : Canon s) (hf : f = LIFECYCLE_STAT_BUSY ∨ f = LIFECYCLE_STAT_PAUSED ∨ f = LIFECYCLE_STAT_REASON) :
    (loadFuses s).get f = s.get f := by
  rcases hf with rfl | rfl | rfl <;> simp [loadFuses, hs]

/-! ### Requests (R494) -/

@[simp] theorem canon_lcRefused {r : Nat} : Canon (lcRefused r s) ↔ Canon s ∨ CanonNext (lcRefused r s) :=
  (within_lcRefused (G := [0x02, 0x04, 0x07, 0x09, 0x51]) (Q := [.link, .intc, .jr]) (within_refl _ _ s)).canon

@[simp] theorem lcRefused_sec {r : Nat} : (lcRefused r s).sec = s.sec := by simp [lcRefused]

/-- A target's register is no input of the check of a row. -/
theorem rowCheck_target {v frm dst : Nat} : rowCheck (s.put LIFECYCLE_REQ_TARGET v) frm dst = rowCheck s frm dst := by
  have hraw (a : Nat) (ha : 0x7080 ≤ a) : (s.put LIFECYCLE_REQ_TARGET v).raw a = s.raw a := raw_put_ne s (by dsimp only; omega) v
  have htoken (n : Nat) : windowToken (s.put LIFECYCLE_REQ_TARGET v) n = windowToken s n := by
    unfold windowToken
    exact List.map_congr_left fun i _ => hraw _ (by dsimp only; omega)
  have hnonce : lcNonce (s.put LIFECYCLE_REQ_TARGET v) = lcNonce s := by
    unfold lcNonce
    exact List.map_congr_left fun i _ => hraw _ (by dsimp only; omega)
  have hshut : (s.put LIFECYCLE_REQ_TARGET v).flag SHUTTLE_H_STAT_FSHUT = s.flag SHUTTLE_H_STAT_FSHUT :=
    congrArg (· == 1) (get_put_ne s (by decide) v)
  unfold rowCheck
  simp only [htoken, hnonce, hshut]
  rfl

theorem rowCheck_lt {frm dst : Nat} : rowCheck s frm dst < 16 := by
  unfold rowCheck
  split
  · decide
  · dsimp only
    split
    · decide
    · split
      · decide
      · split <;> decide

/-- A request while no transition runs, without a partial one: refused with its row's reason, or started (Table 17-2). -/
theorem lifecycleRequest_idle {d : Nat} (hbusy : s.flag LIFECYCLE_STAT_BUSY = false) (hpart : partialTarget s.sec.fuses = 0)
    (hup : fuseState s.sec.fuses < d) : lifecycleRequest d s =
      if rowCheck s (fuseState s.sec.fuses) d = 0 then drawNonce (startFuseJob d (transitionTasks s.sec.fuses d) s)
      else drawNonce (lcRefused (rowCheck s (fuseState s.sec.fuses) d) (capture LIFECYCLE_REQ_GO.addr 3 s)) := by
  simp [lifecycleRequest, hbusy, hpart, Nat.ne_of_gt hup]

/-- A job that starts with work to do and the supply of the fuses in range. -/
theorem startFuseJob_ready {job : Nat} {tasks : List FuseTask} (hs : Canon s) (hwork : tasks.isEmpty = false) (hok : s.flag HTHERM_STAT_FUSEOK = true) :
    startFuseJob job tasks s = { s.put LIFECYCLE_STAT_BUSY 1 with sec := { s.sec with tasks := tasks, job := some job } } := by
  simp [startFuseJob, checkFuseok, hwork, hok, hs]

/-- The first copy of a word of the state is no majority. -/
theorem firstCopy_burned : ∀ w < 5, ∀ c < 3,
    (List.range 5).foldl (fun st i => if wordBurned (((List.replicate 5 [false, false, false]).modify w fun cs => cs.set c true).getD i [])
      then i + 2 else st) 1 =
    (List.range 5).foldl (fun st i => if wordBurned ((List.replicate 5 [false, false, false]).getD i []) then i + 2 else st) 1 ∧
    (((List.replicate 5 [false, false, false]).modify w fun cs => cs.set c true).getD w []).getD c false = true := by decide

/-- The end of a job that burns the clock profile leaves the fuses. -/
theorem jobDone_profile (hs : Canon s) (hjob : s.sec.job = some 12) :
    (jobDone s).sec = { s.sec with tasks := [], job := none } ∧ (jobDone s).get LIFECYCLE_STAT_BUSY = 0 := by
  have hdone : jobDone s = loadFuses { ((raiseH 129 4 4 s).put LIFECYCLE_STAT_BUSY 0).put LIFECYCLE_STAT_PAUSED 0 with
      sec := { s.sec with tasks := [], job := none } } := by
    simp [jobDone, hjob]
  have hc : Canon (raiseH 129 4 4 s) := by simp [hs]
  rw [hdone]
  refine ⟨rfl, ?_⟩
  refine (get_loadFuses_status (s := { ((raiseH 129 4 4 s).put LIFECYCLE_STAT_BUSY 0).put LIFECYCLE_STAT_PAUSED 0 with
    sec := { s.sec with tasks := [], job := none } }) (canon_stored (canon_stored hc)) (.inl rfl)).trans ?_
  refine (get_put_disjoint (f := LIFECYCLE_STAT_PAUSED) (canon_stored hc) (by decide) (.inr (.inl (by decide))) 0).trans ?_
  exact get_put_self (f := LIFECYCLE_STAT_BUSY) hc (by decide) 0

end

/-- Settles O57. -/
theorem lifecycleAndFuses : Obligations.LifecycleAndFuses := by
  unfold Obligations.LifecycleAndFuses
  intro s hinv
  have hs := canon_of_inv hinv
  refine ⟨?_, ?_, ?_, ?_, ?_, ?_, ?_⟩
  · rintro value d rfl hd8 hlock hbusy hpart hup hd hok hpaused hwork
    refine doesWithin_run (fun t h => (frame_execLifecycleReq h).mono (by decide) (by decide)) ?_
    have htarget : bitsAt (word (0x100 + d)).toNat 0 3 = d := by
      simp [bitsAt, word]
      omega
    have hgo : (word (0x100 + d)).getLsbD 8 = true := by interval_cases d <;> rfl
    have hclean : word (0x100 + d) &&& 0xFFFFFEF8#32 = 0 := by interval_cases d <;> rfl
    simp only [lifecycleReqWrite, htarget, hgo, hclean, if_true]
    rw [unlessLocked_of_unlocked hlock]
    have hreq := lifecycleRequest_idle (s := s.silent.put LIFECYCLE_REQ_TARGET d) (d := d) (by simp [hs, hbusy]) hpart hup
    rw [rowCheck_target] at hreq
    have hstart := startFuseJob_ready (s := s.silent.put LIFECYCLE_REQ_TARGET d) (job := d) (canon_stored hs) hwork (by simp [hs, hok])
    have hfuses : (lifecycleRequest d (s.silent.put LIFECYCLE_REQ_TARGET d)).get LIFECYCLE_REQ_TARGET = d ∧
        (lifecycleRequest d (s.silent.put LIFECYCLE_REQ_TARGET d)).sec.fuses = s.sec.fuses := by
      rw [hreq]
      split
      · simp [hstart, hs, Nat.mod_eq_of_lt hd8]
      · simp [hs, Nat.mod_eq_of_lt hd8, lcRefused]
    refine ⟨fun hrow => ?_, fun hrow => ?_, hfuses⟩
    · have hrow' : rowCheck s.silent (fuseState s.sec.fuses) d = 0 := hrow
      rw [hreq]
      simp [hrow', hstart, hs, get_eq_zero_of_flag rfl hpaused]
    · have hrow' : ¬ rowCheck s.silent (fuseState s.sec.fuses) d = 0 := hrow
      rw [hreq]
      simp [hrow', hs, lcRefused, get_eq_zero_of_flag rfl hbusy]
      exact Nat.mod_eq_of_lt rowCheck_lt
  · intro value hgo hlock hbusy
    refine doesWithin_run (fun t h => (frame_execLifecycleReq h).mono (by decide) (by decide)) ?_
    simp only [lifecycleReqWrite, hgo, if_true]
    rw [unlessLocked_of_unlocked hlock]
    set d := bitsAt value.toNat 0 3
    have hreq : lifecycleRequest d (s.silent.put LIFECYCLE_REQ_TARGET d) =
        drawNonce (capture LIFECYCLE_REQ_GO.addr 3 (s.silent.put LIFECYCLE_REQ_TARGET d)) := by
      simp [lifecycleRequest, hs, hbusy]
    rw [hreq]
    have hput : Canon (s.silent.put LIFECYCLE_REQ_TARGET d) := canon_stored hs
    have hc : Canon (drawNonce (capture LIFECYCLE_REQ_GO.addr 3 (s.silent.put LIFECYCLE_REQ_TARGET d))) := by simp [hs]
    have hb : s.get LIFECYCLE_STAT_BUSY = 1 := get_eq_one_of_flag hbusy
    by_cases hclean : value &&& 0xFFFFFEF8#32 = 0
    · simp only [hclean, if_true]
      refine ⟨(get_drawNonce (by simp)).trans (pgerrCause_capture hput rfl (by decide)), ?_, by simp⟩
      simp [hs, hb]
    · simp only [hclean, if_false]
      refine ⟨pgerrCause_capture hc rfl (by decide), ?_, by simp⟩
      simp [hs, hb]
  · intro c w r htasks hpaused hmore hok hw hwords
    refine doesWithin_run (fun t h => (frame_execFuseWordBurned h).mono (by decide) (by decide)) ?_
    have hstate : fuseState (burnTask (.copy w c) s.sec.fuses) = fuseState s.sec.fuses := by
      simp only [fuseState, burnTask, hwords]
      exact (firstCopy_burned w hw.1 c hw.2).1
    have hmore' : r ≠ [] := by simpa using hmore
    simp [htasks, hpaused, hstate, checkFuseok, hok, hmore', get_eq_zero_of_flag rfl hpaused, -List.getD_eq_getElem?_getD]
    simp only [burnTask, hwords]
    exact (firstCopy_burned w hw.1 c hw.2).2
  · intro v htasks hpaused hjob
    refine doesWithin_run (fun t h => (frame_execFuseWordBurned h).mono (by decide) (by decide)) ?_
    have hstate : fuseState (burnTask (.pll v) s.sec.fuses) = fuseState s.sec.fuses := rfl
    obtain ⟨hsec, hbusy⟩ := jobDone_profile (s := { s.silent with sec := { s.sec with fuses := burnTask (.pll v) s.sec.fuses, tasks := [] } }) hs hjob
    simp only [silent_sec, htasks, flag_silent, hpaused, hstate, Bool.false_eq_true, if_false, List.isEmpty_nil, if_true]
    exact ⟨congrArg (·.fuses.pll) hsec, congrArg (·.tasks) hsec, congrArg (·.job) hsec, hbusy, congrArg (·.fuses.words) hsec⟩
  · intro hpaused
    refine doesWithin_run (fun t h => (frame_execFuseokTimeout h).mono (by decide) (by decide)) ?_
    simp [hpaused, get_loadFuses_status, hs, lcRefused]
  · rintro value rfl hlock hbusy hsvn hfull hok hpaused
    refine doesWithin_run (fun t h => (frame_execBurn h).mono (by decide) (by decide)) ?_
    have hstart := startFuseJob_ready (s := s.silent.put LIFECYCLE_BURN_WHAT 1) (job := 9) (tasks := [.hfw]) (canon_stored hs) rfl
      (by simp [hs, hok])
    simp only [burnWrite]
    rw [unlessLocked_of_unlocked hlock]
    simp [bitsAt, hbusy, hsvn, hfull, hstart, hs, get_eq_zero_of_flag rfl hpaused]
  · intro value hkey hlock
    refine doesWithin_run (fun t h => (frame_execBurn h).mono (by decide) (by decide)) ?_
    simp only [burnWrite]
    rw [unlessLocked_of_unlocked hlock]
    simp [hkey]
    exact pgerrCause_capture hs rfl (by decide)

end Sys2Proof.Machine
end

section
/-! PROOFS. Quotes start and end, and the owner certificate is written (R491–R493). -/

namespace Sys2Proof.Machine

set_option Elab.async false

section
variable {s : State}

/-! ### Reads that the H-die does on its own (R493) -/

/-- One read of the H-die's own. -/
def readOwn (s : State) (q : Nat × Nat × Nat) : State := ownRead q.1 q.2.1 q.2.2 s

theorem foldl_readOwn : ∀ (l : List (Nat × Nat × Nat)) (s : State), s.link.up = true → s.flag SHUTTLE_H_STAT_NOTREADY = false →
    (l.foldl readOwn s).regs = s.regs ∧ (l.foldl readOwn s).sec = s.sec ∧
    (l.foldl readOwn s).link.reads.length = s.link.reads.length + l.length
  | [], _, _, _ => ⟨rfl, rfl, rfl⟩
  | q :: l, s, hup, hready => by
    have hreach : reachable s (pageOf q.2.1) = true := by simp [reachable, hup, hready]
    have hone : readOwn s q = toF (.readReq q.2.1 s.link.nextTag q.2.2 3) { s with
        link.reads := s.link.reads ++ [⟨s.link.nextTag, q.2.1, q.2.2, .own q.1⟩], link.nextTag := (s.link.nextTag + 1) % 256 } := by
      unfold readOwn ownRead
      rw [if_pos hreach]
    obtain ⟨hregs, hsec, hlen⟩ := foldl_readOwn l (readOwn s q) (by rw [hone]; exact hup) (by rw [hone]; exact hready)
    rw [List.foldl_cons, hregs, hsec, hlen, hone]
    refine ⟨rfl, rfl, ?_⟩
    simp [toF]
    omega

/-! ### The words of a quote -/

theorem insertBits_word {w : Word} {a : Nat} (x : Word) : insertBits w ⟨a, 0, 32⟩ x.toNat = x := by
  refine BitVec.eq_of_getLsbD_eq fun i hi => ?_
  rw [getLsbD_insertBits _ _ _ _ (by simp), if_pos (by simpa using hi)]
  rfl

/-- One word of the quote is stored. -/
def storeQuote (ws : List Word) (s : State) (i : Nat) : State := s.put (SECURITY_QUOTE_Q i) (ws.getD i 0).toNat

theorem foldl_storeQuote {ws : List Word} (hs : Canon s) : ∀ n, Canon ((List.range n).foldl (storeQuote ws) s) ∧
    ((List.range n).foldl (storeQuote ws) s).sec = s.sec ∧
    ∀ i < n, ((List.range n).foldl (storeQuote ws) s).raw (SECURITY_QUOTE_Q i).addr = ws.getD i 0
  | 0 => ⟨hs, rfl, by simp⟩
  | n + 1 => by
    obtain ⟨hc, hsec, hword⟩ := foldl_storeQuote hs n
    rw [List.range_succ, List.foldl_append, List.foldl_cons, List.foldl_nil]
    refine ⟨canon_stored hc, hsec, fun i hi => ?_⟩
    by_cases hin : i = n
    · subst hin
      exact (raw_setRaw_same hc).trans (insertBits_word _)
    · exact (raw_put_ne _ (f := SECURITY_QUOTE_Q n) (by dsimp only; omega) _).trans (hword i (by omega))

/-- The words of a quote from its two parts that no fuse, firmware or seal decides. -/
def wordsOfQuote (head nonce rest : List Word) : List Word := head ++ (nonce ++ rest)

theorem wordsOfQuote_nonce {head nonce rest : List Word} {i : Nat} (hhead : head.length = 8) (hn : i < nonce.length) :
    (wordsOfQuote head nonce rest).getD (8 + i) 0 = nonce.getD i 0 := by
  unfold wordsOfQuote
  rw [List.getD_append_right _ _ _ _ (by omega), hhead, Nat.add_sub_cancel_left, List.getD_append _ _ _ _ hn]

theorem wordsOfQuote_head {head nonce rest : List Word} {i : Nat} (hn : i < head.length) :
    (wordsOfQuote head nonce rest).getD i 0 = head.getD i 0 := by
  unfold wordsOfQuote
  exact List.getD_append _ _ _ _ hn

/-- The end of a quote whose collection failed. -/
theorem execQuoteDone_failed (hs : Canon s) (hbusy : s.flag SECURITY_STAT_QBUSY = true) (hfail : s.sec.qFail = true) :
    ∃ w2 w3 w4 w5 rest v, v.sec = s.sec ∧ Canon v ∧ (∀ i < 148, v.raw (SECURITY_QUOTE_Q i).addr = (wordsOfQuote
        [0x51544B4E#32, 0x02500001#32, w2, w3, w4, w5, word s.sec.serial, word (s.sec.serial / 2 ^ 32)] s.sec.nonce rest).getD i 0) ∧
      execQuoteDone s = .next (raiseH 128 1 (bit false) (setEvt 0x006 1 ((v.put SECURITY_STAT_QBUSY 0).put SECURITY_STAT_QDONE 1))) := by
  obtain ⟨ww, s2, h2⟩ : ∃ a b, freeWords 12 { s with out := [] } = (a, b) := ⟨_, _, Prod.mk.eta.symm⟩
  obtain ⟨sig, s4, h4⟩ : ∃ a b, freeWords 24 s2 = (a, b) := ⟨_, _, Prod.mk.eta.symm⟩
  have hs2 : s2 = { s.silent with free := s.free + 12 } := (congrArg Prod.snd h2).symm.trans (freeWords_state 12)
  have hs4 : s4 = { s2 with free := s2.free + 24 } := (congrArg Prod.snd h4).symm.trans (freeWords_state 24)
  have hsec : s4.sec = s.sec := by rw [hs4, hs2]; rfl
  have hc : Canon s4 := by rw [hs4, hs2]; exact hs
  suffices hend : ∃ w2 w3 w4 w5 rest, execQuoteDone s = .next (raiseH 128 1 (bit false) (setEvt 0x006 1
      ((((List.range 148).foldl (storeQuote (wordsOfQuote
        [0x51544B4E#32, 0x02500001#32, w2, w3, w4, w5, word s.sec.serial, word (s.sec.serial / 2 ^ 32)] s.sec.nonce rest)) s4).put
        SECURITY_STAT_QBUSY 0).put SECURITY_STAT_QDONE 1))) by
    obtain ⟨w2, w3, w4, w5, rest, hexec⟩ := hend
    obtain ⟨hcv, hvsec, hword⟩ := foldl_storeQuote (ws := wordsOfQuote
      [0x51544B4E#32, 0x02500001#32, w2, w3, w4, w5, word s.sec.serial, word (s.sec.serial / 2 ^ 32)] s.sec.nonce rest) hc 148
    exact ⟨w2, w3, w4, w5, rest, _, hvsec.trans hsec, hcv, hword, hexec⟩
  unfold execQuoteDone run
  simp only [flag_mk, hbusy, hfail, h2, h4, List.append_assoc, Bool.not_true, Bool.false_and, Bool.false_eq_true, if_false]
  unfold storeQuote wordsOfQuote
  exact ⟨_, _, _, _, _, rfl⟩

/-- The state in which a quote starts its reads. -/
def quoteStart (s : State) : State :=
  let secs := s.clk.sec % 2 ^ 40
  let frac := s.clk.frac / 2 ^ 24 % 2 ^ 24
  { (s.put SECURITY_STAT_QBUSY 1).put SECURITY_STAT_QDONE 0 with
    sec := { s.sec with nonce := (List.range 12).map (fun i => s.raw (SECURITY_NONCE_N i).addr)
                        qTime := (hSwarp s, word secs, word (secs / 2 ^ 32 + 256 * frac)), qItems := [], qFail := false } }

theorem quoteGoWrite_ready (hbusy : s.flag SECURITY_STAT_QBUSY = false) (hempty : fuseState s.sec.fuses ≠ 1) (hscrap : fuseState s.sec.fuses ≠ 6) :
    quoteGoWrite 1 s = quoteReads.foldl readOwn (quoteStart s) := by
  unfold quoteGoWrite
  extract_lets a st secs frac s2
  rw [if_neg (by decide), if_neg (by simp [hbusy, st, hempty, hscrap])]
  rfl

theorem quoteGoWrite_refused (h : s.flag SECURITY_STAT_QBUSY = true ∨ fuseState s.sec.fuses = 1 ∨ fuseState s.sec.fuses = 6) :
    quoteGoWrite 1 s = capture SECURITY_QCTL_GO.addr 3 s := by
  unfold quoteGoWrite
  extract_lets a st secs frac s2
  rw [if_neg (by decide), if_pos (by simpa [st, or_assoc] using h)]

/-! ### The owner certificate (R491) -/

/-- The words in the certificate's buffer. -/
def ownWords (s : State) : List Word := (List.range 192).map fun i => (s.sec.ownBuf.lookup i).getD 0

theorem ownWords_first : (ownWords s).getD 0 0 = (s.sec.ownBuf.lookup 0).getD 0 := rfl

theorem owncertWrite_accepted (hstate : fuseState s.sec.fuses = 3) (howner : ownerSet s.sec.fuses = true)
    (hlen : derLength ((s.sec.ownBuf.lookup 0).getD 0) ≤ 768) (hok : Config.ownerCertOk (ownWords s) (ownerHash s.sec.fuses) = true) :
    owncertWrite 0x0C5A#32 s = { s.put SECURITY_STAT_OWNCERT 1 with
      sec.certs := s.sec.certs.set 2 (derLength ((s.sec.ownBuf.lookup 0).getD 0), ownWords s) } := by
  unfold owncertWrite
  extract_lets a ws len
  have hlen' : len ≤ 768 := hlen
  have hok' : Config.ownerCertOk ws (ownerHash s.sec.fuses) = true := hok
  rw [if_pos (by simp [hstate, howner, hlen', hok'])]
  rfl

theorem owncertWrite_refused {w : Word} (h : w ≠ 0x0C5A#32 ∨ Config.ownerCertOk (ownWords s) (ownerHash s.sec.fuses) = false) :
    owncertWrite w s = capture SECURITY_OWNCERT_KEY.addr 3 s := by
  unfold owncertWrite
  extract_lets a ws len
  rcases h with h | h
  · rw [if_neg (by simp [h])]
  · have h' : Config.ownerCertOk ws (ownerHash s.sec.fuses) = false := h
    rw [if_neg (by simp [h'])]

end

/-- Settles O56. -/
theorem quotesAndCertificates : Obligations.QuotesAndCertificates := by
  unfold Obligations.QuotesAndCertificates
  intro s hinv
  have hs := canon_of_inv hinv
  refine ⟨?_, ?_, ?_, ?_, ?_⟩
  · rintro hbusy ⟨hempty, hscrap⟩ hlink hpage
    refine doesWithin_run (fun t h => (frame_execQuoteGo h).mono (by decide) (by decide)) ?_
    have hup : s.link.up = true := by simpa [reachable] using hlink
    have hready : s.flag SHUTTLE_H_STAT_NOTREADY = false := by simpa [reachable, hup] using hpage
    have hready' : (quoteStart s.silent).flag SHUTTLE_H_STAT_NOTREADY = false := by simp [quoteStart, hs, hready]
    obtain ⟨hregs, hsec, hlen⟩ := foldl_readOwn quoteReads (quoteStart s.silent) hup hready'
    rw [quoteGoWrite_ready (s := s.silent) hbusy hempty hscrap, get_of_regs hregs, get_of_regs hregs, hsec, hlen]
    refine ⟨by simp [quoteStart, hs], by simp [quoteStart, hs], rfl, rfl, rfl, rfl, rfl⟩
  · intro hrefuse
    refine doesWithin_run (fun t h => (frame_execQuoteGo h).mono (by decide) (by decide)) ?_
    rw [quoteGoWrite_refused (s := s.silent) hrefuse]
    exact ⟨pgerrCause_capture hs rfl (by decide), by simp, by simp [capture_link, pageOf, isF]⟩
  · intro hbusy hfail hnonce hhash
    obtain ⟨w2, w3, w4, w5, rest, v, hsec, hc, hword, hexec⟩ := execQuoteDone_failed hs hbusy hfail
    refine doesWithin_intro hexec ?_ ((frame_execQuoteDone hexec).mono (by decide) (by decide))
    have hread (i : Nat) (hi : i < 148) : (raiseH 128 1 (bit false) (setEvt 0x006 1 ((v.put SECURITY_STAT_QBUSY 0).put SECURITY_STAT_QDONE 1))).raw
        (SECURITY_QUOTE_Q i).addr = v.raw (SECURITY_QUOTE_Q i).addr := by
      have hquiet : ¬ Loud (SECURITY_QUOTE_Q i).addr := by
        rw [loud_iff]
        dsimp only
        omega
      rw [raw_raiseH (by decide) hquiet, raw_setEvt hquiet]
      exact (raw_put_ne (f := SECURITY_STAT_QDONE) _ (by dsimp only; omega) _).trans (raw_put_ne (f := SECURITY_STAT_QBUSY) _ (by dsimp only; omega) _)
    refine ⟨by simp [hc], by simp [hc], ?_, ?_, fun i hi => ?_, ?_⟩
    · rw [hread 0 (by decide), hword 0 (by decide), wordsOfQuote_head (Nat.zero_lt_succ _)]
      rfl
    · rw [hread 6 (by decide), hword 6 (by decide), wordsOfQuote_head (Nat.lt_of_lt_of_eq (by decide : 6 < 8) rfl)]
      rfl
    · rw [hread (8 + i) (by omega), hword (8 + i) (by omega), wordsOfQuote_nonce rfl (by omega)]
    · simp [hsec]
  · rintro value rfl hstate howner hlen hcerts
    refine doesWithin_run (fun t h => (frame_execOwncert h).mono (by decide) (by decide)) ?_
    constructor
    · intro hok
      rw [owncertWrite_accepted (s := s.silent) hstate howner hlen hok]
      exact ⟨get_put_self (f := SECURITY_STAT_OWNCERT) (s := s.silent) hs (by decide) 1, by simp [hcerts, ownWords]⟩
    · intro hbad
      rw [owncertWrite_refused (s := s.silent) (.inr hbad)]
      exact ⟨by simp, by simp, pgerrCause_capture hs rfl (by decide)⟩
  · intro value hkey
    refine doesWithin_run (fun t h => (frame_execOwncert h).mono (by decide) (by decide)) ?_
    rw [owncertWrite_refused (s := s.silent) (.inl hkey)]
    exact ⟨pgerrCause_capture hs rfl (by decide), by simp⟩

end Sys2Proof.Machine
end

section
/-! SUPPORT. What the resets and the start of the H-die leave (R32, R64, R501, R521). -/

namespace Sys2Proof.Machine

set_option Elab.async false

section
variable {s : State}

/-! ### The mirrors of the fuses (R491) -/

section
variable {f : Fld} (hquiet : ¬ Loud f.addr) (hporter : pageOf f.addr ≠ 0x20)
include hquiet hporter

theorem get_mirrorMismatch {k : Nat} : (mirrorMismatch k s).get f = s.get f := by
  have hne {a : Nat} (ha : pageOf a = 0x20) : f.addr ≠ a := fun h => hporter (h ▸ ha)
  unfold mirrorMismatch
  rw [get_retain ⟨hne rfl, hne rfl, hne rfl⟩, get_raiseH (by decide) hquiet, get_setEvt hquiet]

theorem get_compareMirror (hmirror : f.addr ≠ LIFECYCLE_CNT_HMIR.addr) : (compareMirror s).get f = s.get f := by
  unfold compareMirror
  extract_lets fuses p s1 s2
  have h1 : s1.get f = s.get f := by
    unfold s1
    split
    · rfl
    · rw [get_mirrorMismatch hquiet hporter]
      rfl
  have h2 : s2.get f = s.get f := by
    unfold s2
    split
    · rw [get_mirrorMismatch hquiet hporter, h1]
    · rw [get_put_ne _ hmirror, h1]
  split
  · rw [get_mirrorMismatch hquiet hporter, h2]
  · exact (get_put_ne (f := LIFECYCLE_CNT_WMIR) s2 hmirror _).trans h2

end

theorem frame_compareMirror : Within [0x02, 0x04, 0x06, 0x07, 0x09, 0x20, 0x51] [.link, .intc, .jr, .porter] s (compareMirror s) :=
  within_compareMirror (within_refl _ _ s)

/-! ### The start of the H-die's firmware -/

/-- The H-die runs the firmware whose security version and hash `r` holds. -/
structure RunsFirmware (r : SecSt) (t : State) : Prop where
  canon : Canon t
  die : t.pwr.h = .run
  restarted : t.pwr.restarting = false
  version : t.sec.svn = r.svn
  measured : t.sec.fwHash = r.fwHash
  recovered : t.get SECURITY_STAT_RECOVERY = 0
  watched : t.wdog.counting = true

section
variable {r : SecSt} {t u : State} (h : RunsFirmware r t)
include h

theorem RunsFirmware.frame {G : List Nat} {Q : List Part} (hframe : Within G Q t u) (hG : 0x06 ∉ G) (hpwr : .pwr ∉ Q) (hsec : .sec ∉ Q)
    (hwdog : .wdog ∉ Q) : RunsFirmware r u where
  canon := hframe.wf h.canon
  die := (congrArg (·.h) (hframe.same .pwr hpwr)).trans h.die
  restarted := (congrArg (·.restarting) (hframe.same .pwr hpwr)).trans h.restarted
  version := (congrArg (·.svn) (hframe.same .sec hsec)).trans h.version
  measured := (congrArg (·.fwHash) (hframe.same .sec hsec)).trans h.measured
  recovered := (hframe.get (f := SECURITY_STAT_RECOVERY) hG).trans h.recovered
  watched := (congrArg (·.counting) (hframe.same .wdog hwdog)).trans h.watched

theorem RunsFirmware.mirror : RunsFirmware r (compareMirror t) where
  canon := frame_compareMirror.wf h.canon
  die := (congrArg (·.h) (frame_compareMirror.same .pwr (by decide))).trans h.die
  restarted := (congrArg (·.restarting) (frame_compareMirror.same .pwr (by decide))).trans h.restarted
  version := (congrArg (·.svn) (frame_compareMirror.same .sec (by decide))).trans h.version
  measured := (congrArg (·.fwHash) (frame_compareMirror.same .sec (by decide))).trans h.measured
  recovered := (get_compareMirror (by simp) (by decide) (by decide)).trans h.recovered
  watched := (congrArg (·.counting) (frame_compareMirror.same .wdog (by decide))).trans h.watched

omit h in
theorem put_sec {f : Fld} {v : Nat} : (t.put f v).sec = t.sec := (rfl)

omit h in
theorem loadRecord_sec : (loadRecord t).sec = t.sec ∨ ∃ hashes, (loadRecord t).sec = { t.sec with recHash := hashes } := by
  unfold loadRecord
  extract_lets r p u mon s1 s2 s3
  split
  · exact .inl rfl
  · refine .inr ⟨hashWords r.bytes, ?_⟩
    rw [put_sec, put_sec, put_sec]
    have h3 : s3.sec = s2.sec := by
      unfold s3
      exact List.foldlRecOn (motive := fun v : State => v.sec = s2.sec) _ _ rfl fun _ hv _ _ => put_sec.trans hv
    have h2 : s2.sec = u.sec := by
      unfold s2 State.putB s1
      rw [put_sec, put_sec, put_sec, put_sec, put_sec, put_sec]
    rw [h3, h2]

theorem RunsFirmware.record : RunsFirmware r (loadRecord t) := by
  have hframe : Within [0x14, 0x15] [.sec] t (loadRecord t) := within_loadRecord (within_refl _ _ t)
  refine ⟨hframe.wf h.canon, (congrArg (·.h) (hframe.same .pwr (by decide))).trans h.die,
    (congrArg (·.restarting) (hframe.same .pwr (by decide))).trans h.restarted, ?_, ?_, (hframe.get (by decide)).trans h.recovered,
    (congrArg (·.counting) (hframe.same .wdog (by decide))).trans h.watched⟩
  · rcases loadRecord_sec (t := t) with hsec | ⟨_, hsec⟩ <;> simp [hsec, h.version]
  · rcases loadRecord_sec (t := t) with hsec | ⟨_, hsec⟩ <;> simp [hsec, h.measured]

end

/-- The first stores of a start. -/
theorem runsFirmware_started {slot version : Nat} {r : SecSt} {restarted : Bool} (hs : Canon s) (hdie : s.pwr.h = .run)
    (hrestarted : s.pwr.restarting = false) (hsvn : s.sec.svn = r.svn) (hhash : s.sec.fwHash = r.fwHash)
    (hwatched : s.wdog.counting = true) :
    RunsFirmware r (startInputs (loadRecord (if restarted then
      compareMirror (drawNonce (shareMode (((s.put SECURITY_STAT_RECOVERY 0).put SECURITY_STAT_ACTSLOT slot).put SECURITY_FWVER_VER version)))
      else drawNonce (shareMode (((s.put SECURITY_STAT_RECOVERY 0).put SECURITY_STAT_ACTSLOT slot).put SECURITY_FWVER_VER version))))) := by
  have h2 : RunsFirmware r (((s.put SECURITY_STAT_RECOVERY 0).put SECURITY_STAT_ACTSLOT slot).put SECURITY_FWVER_VER version) :=
    ⟨canon_stored (canon_stored (canon_stored hs)), hdie, hrestarted, hsvn, hhash, by simp [hs], hwatched⟩
  generalize ((s.put SECURITY_STAT_RECOVERY 0).put SECURITY_STAT_ACTSLOT slot).put SECURITY_FWVER_VER version = t at h2 ⊢
  have h3 : RunsFirmware r (drawNonce (shareMode t)) :=
    (h2.frame (within_shareMode (G := [0x00]) (Q := []) (within_refl _ _ _)) (by decide) (by decide) (by decide) (by decide)).frame
      (within_drawNonce (G := [0x07]) (Q := []) (within_refl _ _ _)) (by decide) (by decide) (by decide) (by decide)
  split
  · exact h3.mirror.record.frame (within_startInputs (G := [0x14]) (Q := []) (within_refl _ _ _)) (by decide) (by decide)
      (by decide) (by decide)
  · exact h3.record.frame (within_startInputs (G := [0x14]) (Q := []) (within_refl _ _ _)) (by decide) (by decide)
      (by decide) (by decide)

/-- The end of a start: the self-test and a read of the seal begin, and the retained entries are announced. -/
def startEnd (t : State) : State :=
  let s5 := { t with safety := { t.safety with startTest := true } }.put SEAL_STAT_BUSY 1
  let n := s5.porter.down
  let unread := decide (s5.get PORTER_RJREAD_SEQ < s5.get PORTER_RJHEAD_SEQ)
  let s6 := if unread then setEvt 0x020 4 s5 else s5
  if 0 < n then raiseH 130 3 n { s6 with porter.down := 0 } else s6

theorem startEnd_fields {r : SecSt} {t : State} (h : RunsFirmware r t) :
    RunsFirmware r (startEnd t) ∧ (startEnd t).safety.startTest = true ∧ (startEnd t).get SEAL_STAT_BUSY = 1 := by
  unfold startEnd
  extract_lets sf s5 n unread s6
  have h5 : RunsFirmware r s5 ∧ s5.safety.startTest = true ∧ s5.get SEAL_STAT_BUSY = 1 :=
    ⟨⟨canon_stored h.canon, h.die, h.restarted, h.version, h.measured, (get_put_ne (f := SEAL_STAT_BUSY) _ (by decide) 1).trans h.recovered,
      h.watched⟩,
      rfl, get_put_self (f := SEAL_STAT_BUSY) h.canon (by decide) 1⟩
  obtain ⟨hrun5, htest5, hbusy5⟩ := h5
  have h6 : RunsFirmware r s6 ∧ s6.safety.startTest = true ∧ s6.get SEAL_STAT_BUSY = 1 := by
    unfold s6
    split
    · exact ⟨hrun5.frame (within_setEvt (G := [0x20, 0x02, 0x09, 0x51]) (Q := [.link, .intc]) (within_refl _ _ _)) (by decide) (by decide)
        (by decide) (by decide), by simpa using htest5, by simpa using hbusy5⟩
    · exact ⟨hrun5, htest5, hbusy5⟩
  obtain ⟨hrun6, htest6, hbusy6⟩ := h6
  clear_value s6
  split
  · refine ⟨?_, by simpa using htest6, by simpa using hbusy6⟩
    have hrun : RunsFirmware r { s6 with porter.down := 0 } :=
      ⟨hrun6.canon, hrun6.die, hrun6.restarted, hrun6.version, hrun6.measured, hrun6.recovered, hrun6.watched⟩
    exact hrun.frame (within_raiseH (G := [0x02, 0x04, 0x09, 0x51]) (Q := [.link, .intc, .jr]) (within_refl _ _ _)) (by decide) (by decide) (by decide)
      (by decide)
  · exact ⟨hrun6, htest6, hbusy6⟩

/-- The parts of the state at the start of the firmware. -/
def hStarted (slot : Nat) (s : State) : State :=
  let fw := firmwareAt s slot
  { s with pwr := { s.pwr with h := .run, restarting := false }, wdog := { s.wdog with counting := true },
           sec := { s.sec with svn := fw.svn, fwHash := hashWords (flashBytes s (slotBase slot) fw.len) } }

/-- A start is the stores of its first part, then its end. -/
theorem hRun_eq (restarted : Bool) (slot : Nat) : ∃ t, hRun restarted slot s = startEnd t ∧ (Canon s → RunsFirmware (hStarted slot s).sec t) := by
  unfold hRun
  extract_lets fw p q w s1 s2 s3
  refine ⟨startInputs (loadRecord (if restarted then compareMirror s3 else s3)), ?_, fun hs => runsFirmware_started (s := s1) hs rfl rfl rfl rfl rfl⟩
  unfold startEnd
  with_reducible rfl

/-- The start leaves the H-die running its firmware, with the self-test of the inputs and a read of the seal started. -/
theorem hRun_fields (restarted : Bool) (slot : Nat) (hs : Canon s) :
    RunsFirmware (hStarted slot s).sec (hRun restarted slot s) ∧
      (hRun restarted slot s).safety.startTest = true ∧ (hRun restarted slot s).get SEAL_STAT_BUSY = 1 := by
  obtain ⟨t, heq, h⟩ := hRun_eq (s := s) restarted slot
  rw [heq]
  exact startEnd_fields (h hs)

/-! ### The reset of the H-die's pages (R32) -/

theorem frame_relevelPages : Within [0x02, 0x09, 0x51] [.link, .intc] s (relevelPages s) := by
  unfold relevelPages
  exact within_foldl (within_refl _ _ s) fun _ _ h => within_ite h (within_foldl h fun _ _ k => within_relevelBasic k)

theorem canon_hPagesReset {restart : Bool} (hs : Canon s) : Canon (hPagesReset restart s) := by
  unfold hPagesReset
  exact frame_relevelPages.wf (canon_stored (canon_stored (canon_stored (regs_filter hs _))))

/-- Of the internal parts that a reset does not set to their reset values. -/
theorem hPagesReset_pwr {restart : Bool} : (hPagesReset restart s).pwr = s.pwr := frame_relevelPages.same .pwr (by decide)

theorem hPagesReset_sec {restart : Bool} : (hPagesReset restart s).sec = { s.sec with
    ownBuf := [], nonce := [], qItems := [], qFail := false, fwCheck := none, fwTarget := 0, stbySvn := 0, tasks := [], job := none, ir := 1,
    challenge := none } := frame_relevelPages.same .sec (by decide)

theorem completeZero_keeps {α : Type} {g : State → α} (hlink : ∀ t l, g { t with link := l } = g t) (hemit : ∀ t x, g (emit x t) = g t) :
    g (completeZero s) = g s := by
  unfold completeZero
  extract_lets gs l
  exact (List.foldlRecOn (motive := fun t => g t = g { s with link := { l with gathers := [], reads := [] } }) _ _ rfl
    fun _ ht _ _ => (hemit _ _).trans ht).trans (hlink _ _)

end

end Sys2Proof.Machine
end

section
/-! PROOFS. Verification, erasure and activation of the standby firmware, and the H-die's restart (R500, R508, R509). -/

namespace Sys2Proof.Machine

set_option Elab.async false

section
variable {s : State}

/-! ### A write of `SECURITY.FWCTL` with one command bit and the target that stands in it -/

section
variable (hopen : s.raw (pageOf SECURITY_FWCTL_VERIFY.addr * 0x1000 + 0x020) = 0)
include hopen

theorem fwctlWrite_verify {n : Nat} (hn : n < 2) :
    fwctlWrite (word (1 + 8 * n)) s = { s.put SECURITY_FWCTL_TARGET n with sec.fwCheck := some n } := by
  obtain rfl | rfl : n = 0 ∨ n = 1 := by omega
  all_goals
    unfold fwctlWrite
    extract_lets a
    rw [unlessLocked_of_unlocked (a := a) hopen]
    rfl

theorem fwctlWrite_erase {n : Nat} (hn : n < 2) (hfree : s.flag LIFECYCLE_STAT_BUSY = false) :
    fwctlWrite (word (4 + 8 * n)) s = { (s.put SECURITY_FWCTL_TARGET n).put SECURITY_STAT_STBY 0 with
      sec := { s.sec with flash := s.sec.flash.filter fun x => x.1 < (targetPart s n).1 || (targetPart s n).1 + (targetPart s n).2 ≤ x.1
                          fwCheck := none } } := by
  obtain rfl | rfl : n = 0 ∨ n = 1 := by omega
  all_goals
    unfold fwctlWrite
    extract_lets a
    rw [unlessLocked_of_unlocked (a := a) hopen, hfree]
    rfl

theorem fwctlWrite_activate {n : Nat} (hn : n < 2) (hmay : mayActivate s = true) :
    fwctlWrite (word (2 + 8 * n)) s = activate (s.put SECURITY_FWCTL_TARGET n) := by
  obtain rfl | rfl : n = 0 ∨ n = 1 := by omega
  all_goals
    unfold fwctlWrite
    extract_lets a
    rw [unlessLocked_of_unlocked (a := a) hopen, hmay]
    rfl

theorem fwctlWrite_notActivated {n : Nat} (hn : n < 2) (hmay : mayActivate s = false) :
    fwctlWrite (word (2 + 8 * n)) s = capture SECURITY_FWCTL_VERIFY.addr 3 s := by
  obtain rfl | rfl : n = 0 ∨ n = 1 := by omega
  all_goals
    unfold fwctlWrite
    extract_lets a
    rw [unlessLocked_of_unlocked (a := a) hopen, hmay]
    exact if_pos rfl

end

/-! ### The restart (R509) -/

theorem hRestart_fields (hs : Canon s) :
    (hRestart s).pwr.h = .boot ∧ (hRestart s).pwr.restarting = true ∧ (hRestart s).get SHUTTLE_H_STAT_PERMIT = 0 ∧
      (hRestart s).sec.fuses = s.sec.fuses ∧ (hRestart s).sec.flash = s.sec.flash ∧ (hRestart s).sec.sel = standbySlot s := by
  unfold hRestart
  extract_lets s1 s2 s3
  have hc : Canon (completeZero s1) :=
    (completeZero_keeps (g := Canon) (fun _ _ => rfl) fun _ _ => rfl).mpr ((within_retain (G := [0x20]) (Q := [.porter]) (within_refl _ _ s)).wf hs)
  have hsec1 : (completeZero s1).sec = s.sec :=
    (completeZero_keeps (g := State.sec) (fun _ _ => rfl) fun _ _ => rfl).trans
      ((within_retain (G := [0x20]) (Q := [.porter]) (within_refl _ _ s)).same .sec (by decide))
  obtain ⟨w, hw⟩ : ∃ w, w = hPagesReset true (completeZero s1) := ⟨_, rfl⟩
  have hcw : Canon w := hw ▸ canon_hPagesReset hc
  have hsecw : w.sec.fuses = s.sec.fuses ∧ w.sec.flash = s.sec.flash := by
    rw [hw, hPagesReset_sec, hsec1]
    exact ⟨rfl, rfl⟩
  have h2 : s2.get SHUTTLE_H_STAT_PERMIT = 0 ∧ s2.sec.fuses = s.sec.fuses ∧ s2.sec.flash = s.sec.flash := by
    unfold s2
    rw [← hw]
    exact ⟨get_put_self (f := SHUTTLE_H_STAT_PERMIT) hcw (by decide) 0, hsecw⟩
  clear_value s2
  have h3 : s3.get SHUTTLE_H_STAT_PERMIT = 0 ∧ s3.sec.fuses = s.sec.fuses ∧ s3.sec.flash = s.sec.flash := by
    unfold s3
    split <;> exact h2
  obtain ⟨hpermit, hfuses, hflash⟩ := h3
  exact ⟨rfl, rfl, hpermit, hfuses, hflash, rfl⟩

/-- In twin mode ACTIVATE first asks the F-die whether the block yields. -/
theorem activate_twin (htwin : s.flag DEVICE_MODE_TWIN = true) (hreach : reachable s (pageOf SHUTTLE_F_STAT_SHUT.addr) = true) :
    (activate s).pwr = s.pwr ∧ (activate s).sec = s.sec ∧ (activate s).link.reads.length = s.link.reads.length + 1 := by
  have heq : activate s = toF (.readReq SHUTTLE_F_STAT_SHUT.addr s.link.nextTag 1 3) { s with
      link.reads := s.link.reads ++ [⟨s.link.nextTag, SHUTTLE_F_STAT_SHUT.addr, 1, .own 33⟩], link.nextTag := (s.link.nextTag + 1) % 256 } := by
    unfold activate ownRead
    rw [if_pos htwin, if_pos hreach]
  rw [heq]
  exact ⟨rfl, rfl, by simp [toF]⟩

/-! ### The start after a restart (R507, R515) -/

theorem hStart_recovery (hboot : bootSlot (loadFuses s) = none) (hre : s.pwr.restarting = true) (hs : Canon s) :
    (hStart s).pwr.h = .boot ∧ (hStart s).pwr.restarting = false ∧ (hStart s).get SECURITY_STAT_RECOVERY = 1 ∧ (hStart s).sec = s.sec := by
  have heq : hStart s = { (compareMirror (loadFuses s)).put SECURITY_STAT_RECOVERY 1 with
      pwr := { (compareMirror (loadFuses s)).pwr with h := .boot, restarting := false } } := by
    unfold hStart
    simp only [hboot, hre, if_true]
  obtain ⟨t, ht⟩ : ∃ t, t = compareMirror (loadFuses s) := ⟨_, rfl⟩
  have hc : Canon t := ht ▸ frame_compareMirror.wf (canon_loadFuses hs)
  have hsec : t.sec = s.sec := ht ▸ (frame_compareMirror.same .sec (by decide)).trans loadFuses_sec
  rw [heq, ← ht]
  exact ⟨rfl, rfl, get_put_self (f := SECURITY_STAT_RECOVERY) hc (by decide) 1, hsec⟩

theorem hStart_runs {slot : Nat} (hboot : bootSlot (loadFuses s) = some slot) (hs : Canon s) :
    RunsFirmware (hStarted slot (loadFuses s)).sec (hStart s) ∧ (hStart s).safety.startTest = true ∧ (hStart s).get SEAL_STAT_BUSY = 1 := by
  unfold hStart
  extract_lets s0
  simp only [s0, hboot]
  exact hRun_fields _ _ (canon_loadFuses hs)

/-- The check of target `n`, the standby image or the record, ends. -/
def checkEnd (n : Nat) (s : State) : State :=
  let fw := firmwareAt s (standbySlot s)
  let ok := if n = 0 then firmwareOk s 1 fw else recordOk s (recordAt s)
  let s1 := { s.put SECURITY_STAT_STBY (if ok then 2 else 3) with sec := { s.sec with fwCheck := none, fwTarget := n, stbySvn := fw.svn } }
  let s2 := if ok && n = 0 then s1.put SECURITY_FWSTBYV_VER fw.version else s1
  raiseH 128 2 (bit ok + 2 * n) (setEvt 0x006 2 s2)

theorem checkEnd_fields {n : Nat} (hs : Canon s) :
    (checkEnd n s).get SECURITY_STAT_STBY = (if (if n = 0 then firmwareOk s 1 (firmwareAt s (standbySlot s)) else recordOk s (recordAt s)) then 2 else 3) ∧
      (checkEnd n s).sec.fwCheck = none ∧ (checkEnd n s).sec.fwTarget = n ∧
      (checkEnd n s).sec.stbySvn = (firmwareAt s (standbySlot s)).svn ∧
      (checkEnd n s).get SECURITY_FWSTBYV_VER = (if n = 0 ∧ firmwareOk s 1 (firmwareAt s (standbySlot s)) then
        (firmwareAt s (standbySlot s)).version % 2 ^ SECURITY_FWSTBYV_VER.wd else s.get SECURITY_FWSTBYV_VER) := by
  unfold checkEnd
  extract_lets fw ok sf u s1 s2
  have hc : Canon s1 := canon_stored hs
  have hstby : s1.get SECURITY_STAT_STBY = if ok then 2 else 3 :=
    (get_put_self (f := SECURITY_STAT_STBY) hs (by decide) _).trans (by split <;> rfl)
  have hver : s1.get SECURITY_FWSTBYV_VER = s.get SECURITY_FWSTBYV_VER := get_put_ne (f := SECURITY_STAT_STBY) s (by decide) _
  have hsec1 : s1.sec = { s.sec with fwCheck := none, fwTarget := n, stbySvn := fw.svn } := rfl
  clear_value s1
  have hsec : s2.sec = { s.sec with fwCheck := none, fwTarget := n, stbySvn := fw.svn } := by
    unfold s2
    split <;> exact hsec1
  have hstby2 : s2.get SECURITY_STAT_STBY = if ok then 2 else 3 := by
    unfold s2
    split
    · exact (get_put_ne (f := SECURITY_FWSTBYV_VER) s1 (by decide) _).trans hstby
    · exact hstby
  have hver2 : s2.get SECURITY_FWSTBYV_VER = if n = 0 ∧ firmwareOk s 1 fw then fw.version % 2 ^ SECURITY_FWSTBYV_VER.wd else s.get SECURITY_FWSTBYV_VER := by
    unfold s2
    by_cases hn : n = 0
    · by_cases hok : firmwareOk s 1 fw = true
      · rw [if_pos (by simp [ok, hn, hok]), if_pos ⟨hn, hok⟩]
        exact get_put_self (f := SECURITY_FWSTBYV_VER) hc (by decide) _
      · rw [if_neg (by simp [ok, hn, hok]), if_neg (by simp [hok])]
        exact hver
    · rw [if_neg (by simp [hn]), if_neg (by simp [hn])]
      exact hver
  clear_value s2
  refine ⟨by simpa [ok, fw] using hstby2, by simp [hsec], by simp [hsec], by simp [hsec, fw], by simpa using hver2⟩

theorem execSecurityFwstby_checked {n : Nat} (hcheck : s.sec.fwCheck = some n) : execSecurityFwstby s = .next (checkEnd n s.silent) := by
  unfold execSecurityFwstby run
  simp only [hcheck]
  rfl

end

/-- Settles O58. -/
theorem firmwareUpdate : Obligations.FirmwareUpdate := by
  unfold Obligations.FirmwareUpdate
  intro s hinv
  have hs := canon_of_inv hinv
  have htarget : s.silent.get SECURITY_FWCTL_TARGET < 2 := get_lt s.silent SECURITY_FWCTL_TARGET
  refine ⟨?_, ?_, ?_, ?_, ?_, ?_, ?_, ?_⟩
  · intro hopen
    refine does_run (x := execSecurityFwVerify _) rfl ?_
    rw [fwctlWrite_verify (s := s.silent) hopen htarget]
    exact ⟨rfl, rfl, by simp [hs], rfl⟩
  · intro hopen hfree
    refine does_run (x := execSecurityFwErase _) rfl ?_
    rw [fwctlWrite_erase (s := s.silent) hopen htarget hfree]
    exact ⟨by simp [hs], rfl, rfl, rfl⟩
  · intro hopen hmay htwin
    refine does_run (x := execSecurityFwActivate _) rfl ?_
    rw [fwctlWrite_activate (s := s.silent) hopen htarget hmay]
    have hact : activate (s.silent.put SECURITY_FWCTL_TARGET (s.silent.get SECURITY_FWCTL_TARGET)) =
        hRestart (s.silent.put SECURITY_FWCTL_TARGET (s.silent.get SECURITY_FWCTL_TARGET)) := by
      unfold activate
      rw [if_neg (by simp [hs, htwin])]
    rw [hact]
    obtain ⟨hdie, hre, hpermit, hfuses, hflash, hsel⟩ := hRestart_fields (s := s.silent.put SECURITY_FWCTL_TARGET (s.silent.get SECURITY_FWCTL_TARGET))
      (canon_stored hs)
    exact ⟨hdie, hre, hpermit, hfuses, hflash, hsel.trans (by simp [hs, standbySlot])⟩
  · intro hopen hmay htwin hreach
    refine does_run (x := execSecurityFwActivate _) rfl ?_
    rw [fwctlWrite_activate (s := s.silent) hopen htarget hmay]
    exact activate_twin (s := s.silent.put SECURITY_FWCTL_TARGET (s.silent.get SECURITY_FWCTL_TARGET)) (by simp [hs, htwin]) (by simpa [hs, reachable] using hreach)
  · intro hopen hmay
    refine does_run (x := execSecurityFwActivate _) rfl ?_
    rw [fwctlWrite_notActivated (s := s.silent) hopen htarget hmay]
    exact ⟨pgerrCause_capture hs rfl (by decide), by simp, by simp⟩
  · intro hcheck
    have hexec := execSecurityFwstby_checked hcheck
    obtain ⟨hstby, hnone, hfor, hsvn, hver⟩ := checkEnd_fields (n := 0) (s := s.silent) hs
    exact doesWithin_intro hexec ⟨hstby, hnone, hfor, hsvn, hver.trans (if_congr (and_iff_right rfl) rfl rfl)⟩ (frame_execSecurityFwstby hexec)
  · intro hcheck
    have hexec := execSecurityFwstby_checked hcheck
    obtain ⟨hstby, hnone, hfor, -, hver⟩ := checkEnd_fields (n := 1) (s := s.silent) hs
    exact doesWithin_intro hexec ⟨hstby, hnone, hfor, hver.trans (if_neg (by simp))⟩ (frame_execSecurityFwstby hexec)
  · intro hre
    refine doesWithin_run (fun t h => frame_execHDieRestartDone h) ?_
    simp only [show s.silent.pwr.restarting = true from hre, if_true]
    cases hboot : bootSlot (loadFuses s.silent) with
    | none =>
      obtain ⟨hdie, hrestarted, hrec, hsec⟩ := hStart_recovery (s := s.silent) hboot hre hs
      exact ⟨hrestarted, hdie, by simp, fun _ => ⟨hrec, hsec⟩⟩
    | some slot =>
      obtain ⟨hrun, htest, hbusy⟩ := hStart_runs (s := s.silent) hboot hs
      refine ⟨hrun.restarted, hrun.die, ?_, by simp⟩
      rintro k ⟨⟩
      exact ⟨hrun.version, hrun.measured, hrun.recovered, htest, hbusy⟩

end Sys2Proof.Machine
end

section
/-! PROOFS. The H-die's shutdown demand, NTC inputs, the copies of F-die temperatures, and scrub passes (R420, R424, R425, R428). -/

namespace Sys2Proof.Machine

set_option Elab.async false

theorem ofSigned_lt (w : Nat) (x : Int) : ofSigned w x < 2 ^ w := by
  have hpos : (0 : Int) < ((2 ^ w : Nat) : Int) := by positivity
  have hlt := Int.emod_lt_of_pos x hpos
  have hnonneg := Int.emod_nonneg x hpos.ne'
  unfold ofSigned
  omega

section
variable {s : State}

/-! ### The H-die's reads -/

/-- A read of the H-die's own that finds its page reachable waits in the queue of the link. -/
theorem ownRead_reachable {what addr count : Nat} (h : reachable s (pageOf addr) = true) :
    ownRead what addr count s = toF (.readReq addr s.link.nextTag count 3) { s with
      link.reads := s.link.reads ++ [⟨s.link.nextTag, addr, count, .own what⟩], link.nextTag := (s.link.nextTag + 1) % 256 } := by
  unfold ownRead
  exact if_pos h

/-- What a read that waits in the queue leaves and adds. -/
theorem ownRead_fields {what addr count : Nat} (h : reachable s (pageOf addr) = true) :
    (ownRead what addr count s).regs = s.regs ∧ (ownRead what addr count s).heat = s.heat ∧
    (ownRead what addr count s).link.up = s.link.up ∧ (ownRead what addr count s).link.reads.length = s.link.reads.length + 1 ∧
    (ownRead what addr count s).link.hf.queue.length = s.link.hf.queue.length + 1 := by
  rw [ownRead_reachable h]
  exact ⟨rfl, rfl, rfl, by simp [toF], by simp [toF]⟩

/-- The four reads of a copy of the F-die's temperatures (R425). -/
def copyReads (s : State) : State :=
  ownRead 19 (FTHERM_SENS_T 8).addr 1 (ownRead 18 (FTHERM_SENS_T 4).addr 4 (ownRead 17 (FTHERM_SENS_T 0).addr 4
    (ownRead 16 FTHERM_STAT_LEVEL.addr 3 s)))

theorem copyReads_fields (h : reachable s 0x07C = true) :
    (copyReads s).regs = s.regs ∧ (copyReads s).heat = s.heat ∧ (copyReads s).link.reads.length = s.link.reads.length + 4 ∧
    (copyReads s).link.hf.queue.length = s.link.hf.queue.length + 4 := by
  have hstep {u v : State} (hregs : v.regs = u.regs) (hup : v.link.up = u.link.up) (hu : reachable u 0x07C = true) : reachable v 0x07C = true := by
    unfold reachable at hu ⊢
    rwa [flag_of_regs hregs, hup]
  unfold copyReads
  obtain ⟨hregs1, hheat1, hup1, hreads1, hqueue1⟩ := ownRead_fields (what := 16) (addr := FTHERM_STAT_LEVEL.addr) (count := 3) h
  have h1 := hstep hregs1 hup1 h
  generalize ownRead 16 FTHERM_STAT_LEVEL.addr 3 s = s1 at *
  obtain ⟨hregs2, hheat2, hup2, hreads2, hqueue2⟩ := ownRead_fields (what := 17) (addr := (FTHERM_SENS_T 0).addr) (count := 4) h1
  have h2 := hstep hregs2 hup2 h1
  generalize ownRead 17 (FTHERM_SENS_T 0).addr 4 s1 = s2 at *
  obtain ⟨hregs3, hheat3, hup3, hreads3, hqueue3⟩ := ownRead_fields (what := 18) (addr := (FTHERM_SENS_T 4).addr) (count := 4) h2
  have h3 := hstep hregs3 hup3 h2
  generalize ownRead 18 (FTHERM_SENS_T 4).addr 4 s2 = s3 at *
  obtain ⟨hregs4, hheat4, -, hreads4, hqueue4⟩ := ownRead_fields (what := 19) (addr := (FTHERM_SENS_T 8).addr) (count := 1) h3
  refine ⟨?_, ?_, by omega, by omega⟩
  · rw [hregs4, hregs3, hregs2, hregs1]
  · rw [hheat4, hheat3, hheat2, hheat1]

/-! ### The NTC inputs (R424) -/

section
variable {n st : Nat} {f : Fld}

theorem get_thermEvent {bitNo code data : Nat} (hquiet : ¬ Loud f.addr) : (thermEvent 1 bitNo code data s).get f = s.get f := by
  unfold thermEvent
  rw [if_neg (by decide), get_raiseH (by decide) hquiet, get_setEvt hquiet]

theorem get_evalThrot (hthrot : f.addr ≠ HTHERM_STAT_THROT.addr) : (evalThrot s).get f = s.get f := by
  unfold evalThrot
  exact get_put_ne (f := HTHERM_STAT_THROT) _ hthrot _

theorem evalThrot_heat : (evalThrot s).heat = s.heat := (rfl)

/-- A demand for shutdown and its end write no register of the thermal page. -/
theorem get_endDemand_shutdownDemand {d old : Nat} (hpage : pageOf f.addr = 0x1D) : (endDemand d old (shutdownDemand s)).get f = s.get f := by
  have hframe : Within [0x02, 0x03, 0x04, 0x09, 0x14, 0x51] [.link, .intc, .jr] s (endDemand d old (shutdownDemand s)) :=
    within_endDemand (within_shutdownDemand (within_refl _ _ s))
  exact hframe.get (by rw [hpage]; decide)

theorem get_ntcApply (hquiet : ¬ Loud f.addr) (hpage : pageOf f.addr = 0x1D) (hthrot : f.addr ≠ HTHERM_STAT_THROT.addr) :
    (ntcApply n st s).get f = s.get f := by
  unfold ntcApply
  extract_lets a p s1
  split
  · rfl
  · rw [get_evalThrot hthrot]
    split
    · exact get_thermEvent hquiet
    · split
      · rw [get_endDemand_shutdownDemand hpage, get_raiseH (by decide) hquiet]
        rfl
      · rfl

theorem ntcApply_set (h : s.heat.ntcAct.getD n none = none) :
    (ntcApply n st s).heat.ntcAct = s.heat.ntcAct.set n (some (s.get (HTHERM_NTCCFG_ACT n))) := by
  unfold ntcApply
  extract_lets a p s1
  rw [if_neg (by rw [h]; exact Option.some_ne_none a ∘ Eq.symm), evalThrot_heat]
  have hframe : Within [0x02, 0x03, 0x04, 0x09, 0x14, 0x1D, 0x51, 0x7C] [.link, .intc, .jr] s1
      (if a = 1 then thermEvent 1 2 3 (n + 4 * st + 16) s1 else if a = 3 then endDemand 1 3 (shutdownDemand (raiseH 98 1 (3 + 4 * n) s1)) else s1) :=
    have h1 := within_refl [0x02, 0x03, 0x04, 0x09, 0x14, 0x1D, 0x51, 0x7C] [.link, .intc, .jr] s1
    within_ite (within_thermEvent h1) (within_ite (within_endDemand (within_shutdownDemand (within_raiseH h1))) h1)
  exact congrArg (·.ntcAct) (hframe.same .heat (by decide))

/-- A change of an input's state, and what it leaves. -/
theorem putNtcState_fields {hot : Bool} (hs : Canon s) (hn : n < 4) (hst : st < 4) :
    (putNtcState n st hot s).get (HTHERM_NTCT_STATE n) = st ∧ (putNtcState n st hot s).get (HTHERM_NTCT_T n) = s.get (HTHERM_NTCT_T n) := by
  have hquiet : ¬ Loud (HTHERM_NTCT_STATE n).addr := by
    rw [loud_iff]
    dsimp only
    omega
  unfold putNtcState
  split
  · exact ⟨‹_›, rfl⟩
  · rw [get_thermEvent hquiet, get_thermEvent (f := HTHERM_NTCT_T n) hquiet]
    exact ⟨(get_put_self (f := HTHERM_NTCT_STATE n) hs (by dsimp only; omega) _).trans (Nat.mod_eq_of_lt hst),
      get_put_disjoint (f := HTHERM_NTCT_STATE n) hs (by dsimp only; omega) (by simp) _⟩

theorem putNtcState_heat {hot : Bool} (hn : n < 4) : (putNtcState n st hot s).heat = s.heat :=
  (within_putNtcState (G := [0x02, 0x04, 0x09, 0x1D, 0x51, 0x7C]) (Q := [.link, .intc, .jr]) (within_refl _ _ s) hn).same .heat (by decide)

theorem get_putNtcState {hot : Bool} (hquiet : ¬ Loud f.addr) (hf : f.addr ≠ (HTHERM_NTCT_STATE n).addr) : (putNtcState n st hot s).get f = s.get f := by
  unfold putNtcState
  split
  · rfl
  · rw [get_thermEvent hquiet]
    exact get_put_ne (f := HTHERM_NTCT_STATE n) s hf _

/-- The reading of an input whose ratio puts it in state `st`. -/
def ntcRead (n st : Nat) (x : Rat) (s : State) : State :=
  let t := ntcTemp n x s
  let lim : Int := 8 * (s.get (HTHERM_NTCCFG_TLIM n) : Int)
  let hot := st == 0 && decide (lim ≤ t)
  let s0 := hadcResult n (lsbU 12 (x * 4096)) s
  let s1 := if st = 0 then s0.putI (HTHERM_NTCT_T n) t else s0
  let s2 := putNtcState n st hot s1
  if hot then ntcApply n st s2
  else if st = 0 && decide (t ≤ lim - 40) then ntcLapse n s2
  else s2

theorem ntcRead_open {x : Rat} : ntcRead n 1 x s = putNtcState n 1 false (hadcResult n (lsbU 12 (x * 4096)) s) := (rfl)

/-- What an input's reading leaves when it is open. -/
theorem ntcRead_open_fields {x : Rat} (hs : Canon s) (hn : n < 4) :
    (ntcRead n 1 x s).get (HTHERM_NTCT_STATE n) = 1 ∧ (ntcRead n 1 x s).get (HTHERM_NTCT_T n) = s.get (HTHERM_NTCT_T n) ∧
      (ntcRead n 1 x s).get (HADC_RES_CODE n) = lsbU 12 (x * 4096) % 4096 ∧ (ntcRead n 1 x s).heat = s.heat := by
  rw [ntcRead_open]
  have hc : Canon (hadcResult n (lsbU 12 (x * 4096)) s) := (canon_hadcResult (by omega)).2 (.inl hs)
  obtain ⟨hcode, -, -⟩ := hadcResult_fields (s := s) (i := n) (code := lsbU 12 (x * 4096)) (by omega) hs
  obtain ⟨hstate, hT⟩ := putNtcState_fields (n := n) (st := 1) (hot := false) hc hn (by decide)
  refine ⟨hstate, hT.trans (get_hadcResult ?_ ?_ ?_), (get_putNtcState ?_ ?_).trans hcode,
    (putNtcState_heat hn).trans (hadcResult_same (x := .heat) (by omega) (by decide))⟩
  · rw [loud_iff]
    dsimp only
    omega
  · dsimp only
    omega
  · dsimp only
    omega
  · exact not_loud_res (by omega)
  · dsimp only
    omega

/-- What an input's reading leaves when it is in range. -/
theorem ntcRead_live_fields {x : Rat} (hs : Canon s) (hn : n < 4) (hlen : s.heat.ntcAct.length = 4) (hnone : s.heat.ntcAct.getD n none = none) :
    (ntcRead n 0 x s).get (HTHERM_NTCT_STATE n) = 0 ∧ (ntcRead n 0 x s).get (HTHERM_NTCT_T n) = ofSigned (HTHERM_NTCT_T n).wd (ntcTemp n x s) ∧
      (ntcRead n 0 x s).heat.ntcAct.getD n none =
        if 8 * (s.get (HTHERM_NTCCFG_TLIM n) : Int) ≤ ntcTemp n x s then some (s.get (HTHERM_NTCCFG_ACT n)) else none := by
  have hquiet : ¬ Loud (HTHERM_NTCT_T n).addr := by
    rw [loud_iff]
    dsimp only
    omega
  have hquietCfg : ¬ Loud (HTHERM_NTCCFG_ACT n).addr := by
    rw [loud_iff]
    dsimp only
    omega
  have hthrot : (HTHERM_NTCT_T n).addr ≠ HTHERM_STAT_THROT.addr := by
    dsimp only
    omega
  have hpage : pageOf (HTHERM_NTCT_T n).addr = 0x1D := by
    unfold pageOf
    dsimp only
    omega
  have hne : (HTHERM_NTCCFG_ACT n).addr ≠ (HTHERM_NTCT_T n).addr := by
    dsimp only
    omega
  have hc : Canon (hadcResult n (lsbU 12 (x * 4096)) s) := (canon_hadcResult (by omega)).2 (.inl hs)
  unfold ntcRead
  extract_lets t lim hot s0 s1 s2
  have hc1 : Canon s1 := canon_stored hc
  have hT1 : s1.get (HTHERM_NTCT_T n) = ofSigned (HTHERM_NTCT_T n).wd t :=
    (get_put_self (f := HTHERM_NTCT_T n) hc (by dsimp only; omega) _).trans (Nat.mod_eq_of_lt (ofSigned_lt _ _))
  have hact1 : s1.get (HTHERM_NTCCFG_ACT n) = s.get (HTHERM_NTCCFG_ACT n) :=
    (get_put_ne (f := HTHERM_NTCT_T n) _ hne _).trans (get_hadcResult hquietCfg (by dsimp only; omega) (by dsimp only; omega))
  have hheat1 : s1.heat = s.heat := hadcResult_same (x := .heat) (by omega) (by decide)
  clear_value s1
  obtain ⟨hstate, hT⟩ := putNtcState_fields (n := n) (st := 0) (hot := hot) hc1 hn (by decide)
  have hstate2 : s2.get (HTHERM_NTCT_STATE n) = 0 := hstate
  have hT2 : s2.get (HTHERM_NTCT_T n) = ofSigned (HTHERM_NTCT_T n).wd t := hT.trans hT1
  have hact2 : s2.get (HTHERM_NTCCFG_ACT n) = s.get (HTHERM_NTCCFG_ACT n) := (get_putNtcState hquietCfg hne).trans hact1
  have hheat2 : s2.heat = s.heat := (putNtcState_heat hn).trans hheat1
  clear_value s2
  by_cases hlim : lim ≤ t
  · rw [if_pos (by simp [hot, hlim]), get_ntcApply (f := HTHERM_NTCT_STATE n) hquiet hpage hthrot, get_ntcApply hquiet hpage hthrot,
      ntcApply_set (by rw [hheat2, hnone]), hheat2, hact2, if_pos hlim]
    exact ⟨hstate2, hT2, by simp [hlen, hn]⟩
  · rw [if_neg (by simp [hot, hlim]), if_neg hlim]
    split
    · unfold ntcLapse
      rw [get_evalThrot (f := HTHERM_NTCT_STATE n) hthrot, get_evalThrot hthrot, evalThrot_heat]
      exact ⟨hstate2, hT2, by simp [hheat2, hlen, hn]⟩
    · exact ⟨hstate2, hT2, by rw [hheat2, hnone]⟩

end

/-! ### Demands and faults -/

theorem converterFault_running {cause : Nat} (hrun : s.flag WEAVE_STAT_RUN = true) (hfb : s.flag WEAVE_STAT_FB = false) (hpend : s.weave.fbPend = none)
    (hload : s.weave.fbWhileLoading = none) : converterFault cause s = { s with weave.fbPend := some cause } := by
  unfold converterFault
  rw [if_neg (by simp [hfb, hpend, hload]), if_pos hrun]

end

/-- Settles O48. -/
theorem thermalRequestsAndCopies : Obligations.ThermalRequestsAndCopies := by
  unfold Obligations.ThermalRequestsAndCopies
  intro s hinv
  have hs := canon_of_inv hinv
  refine ⟨?_, ?_, ?_, ?_, ?_, ?_, ?_⟩
  · intro value hset hrun hfb hpend hload
    refine doesWithin_run (fun t h => frame_execHreq h) ?_
    have heq : hreqWrite value s.silent = { s.silent.put FTHERM_HREQ_SHUT 1 with weave.fbPend := some 6 } := by
      unfold hreqWrite
      extract_lets s1
      rw [if_pos hset]
      unfold s1
      rw [hset]
      exact converterFault_running (s := s.silent.put FTHERM_HREQ_SHUT 1) (by simp [hs, hrun]) (by simp [hs, hfb]) hpend hload
    rw [heq]
    exact ⟨get_put_self (f := FTHERM_HREQ_SHUT) (s := s.silent) hs (by decide) 1, rfl⟩
  · intro value hset
    refine does_run (x := execHreq _ _) rfl ?_
    unfold hreqWrite
    rw [hset]
    rfl
  · intro n x hn hen hhigh
    refine doesWithin_run (fun t h => frame_execNtcReading hn h) ?_
    rw [if_neg (by simp [hen, hn]), if_pos hhigh]
    obtain ⟨hstate, hT, hcode, hheat⟩ := ntcRead_open_fields (s := s.silent) (x := x) hs hn
    exact ⟨hstate, hT, hcode, congrArg (·.ntcAct) hheat⟩
  · intro n x hn hen hlow hhigh hnone hlen
    refine doesWithin_run (fun t h => frame_execNtcReading hn h) ?_
    rw [if_neg (by simp [hen, hn]), if_neg (not_lt.2 hhigh), if_neg (not_lt.2 hlow)]
    exact ntcRead_live_fields (s := s.silent) (x := x) hs hn hlen hnone
  · intro hreach
    refine doesWithin_run (fun t h => frame_execFthermCopy h) ?_
    extract_lets src heat s1
    have hregs1 : s1.regs = (s.silent.count HTHERM_FCOPY_AGE).regs := rfl
    have hreach1 : reachable s1 0x07C = true := by
      unfold reachable at hreach ⊢
      rw [flag_of_regs hregs1, show s1.link.up = s.link.up from rfl]
      simpa [hs] using hreach
    obtain ⟨hregs, hheat, hreads, hqueue⟩ := copyReads_fields hreach1
    exact ⟨hreads, hqueue, congrArg (·.frames) hheat, (get_of_regs (hregs.trans hregs1) _).trans (get_counted (s := s.silent) hs (by decide))⟩
  · refine doesWithin_run (fun t h => frame_execFthermStale h) ?_
    unfold putEvt
    split
    · next hset => exact ⟨hset, rfl, fun _ => rfl⟩
    · next hclear =>
      exact ⟨by simp [hs], by simp, fun hset => absurd (get_eq_one_of_flag (s := s.silent) hset) hclear⟩
  · rintro errs rfl
    refine doesWithin_run (fun t h => (frame_execScrubPass (a0 := []) (by simp) h).mono (by decide) (by decide)) ?_
    extract_lets s1
    have h1 : s1.loom = s.loom ∧
        s1.get FTHERM_SCRUB_LATE = min (s.get FTHERM_SCRUB_LATE + bit (s.heat.scrubLeft.any (0 < ·))) (2 ^ FTHERM_SCRUB_LATE.wd - 1) := by
      unfold s1
      split
      · next hany =>
        rw [show s.heat.scrubLeft.any (0 < ·) = true from hany]
        exact ⟨rfl, get_counted (s := s.silent) hs (by decide)⟩
      · next hany =>
        rw [show s.heat.scrubLeft.any (0 < ·) = false from Bool.eq_false_iff.2 hany]
        exact ⟨rfl, (Nat.min_eq_left (Nat.le_sub_one_of_lt (get_lt s _))).symm⟩
    exact ⟨rfl, h1.2, h1.1⟩

end Sys2Proof.Machine
end

section
/-! PROOFS. Permit edges and their loss, reopening, the arming of the yield; kick, expiry, action and ramp of the watchdog (R58–R62, R66,
R72, R94). -/

namespace Sys2Proof.Machine

set_option Elab.async false

section
variable {s : State}

/-! ### The shutter -/

/-- Block tokens touch no register outside the rings' pages, and no internal part. -/
theorem frame_rawTokens : Within ringPages [] s (rawTokens s) := within_rawTokens (within_refl _ _ s)

/-- The shutter closes at the short warp of `s`, once `u` has sent the block tokens. -/
def closing (s u : State) : State :=
  let s1 := { u with pwr.gridOpen := some true, permit := { s.permit with forced := s.permit.yielded } }
  let s2 := ((s1.put SHUTTLE_F_STAT_SHUT 1).put SHUTTLE_F_SHUTW_SWARP (swarp s).toNat).count SHUTTLE_F_SHUTCNT_COUNT
  raiseF 10 1 0 (setEvt 0x051 8 s2)

theorem closeShutter_closing (hshut : s.flag SHUTTLE_F_STAT_SHUT = false) : closeShutter s = closing s (rawTokens s) := by
  unfold closeShutter closing
  rw [if_neg (by simp [hshut])]

theorem closing_fields {u : State} (hc : Canon u) :
    (closing s u).get SHUTTLE_F_STAT_SHUT = 1 ∧ (closing s u).get SHUTTLE_F_STAT_PVALID = u.get SHUTTLE_F_STAT_PVALID ∧
      (closing s u).get SHUTTLE_F_STAT_PSTABLE = u.get SHUTTLE_F_STAT_PSTABLE ∧ (closing s u).pwr.gridOpen = some true ∧
      (closing s u).permit.timing = s.permit.timing := by
  unfold closing
  extract_lets p q s1 s2
  have hc1 : Canon s1 := hc
  refine ⟨by simp [s2, hc1], ?_, ?_, by simp [s2, s1], by simp [s2, s1, q]⟩
  · have h1 : s1.get SHUTTLE_F_STAT_PVALID = u.get SHUTTLE_F_STAT_PVALID := rfl
    simp [s2, hc1, h1]
  · have h1 : s1.get SHUTTLE_F_STAT_PSTABLE = u.get SHUTTLE_F_STAT_PSTABLE := rfl
    simp [s2, hc1, h1]

theorem closeShutter_fields (hs : Canon s) (hshut : s.flag SHUTTLE_F_STAT_SHUT = false) :
    (closeShutter s).get SHUTTLE_F_STAT_SHUT = 1 ∧ (closeShutter s).get SHUTTLE_F_STAT_PVALID = s.get SHUTTLE_F_STAT_PVALID ∧
      (closeShutter s).get SHUTTLE_F_STAT_PSTABLE = s.get SHUTTLE_F_STAT_PSTABLE ∧ (closeShutter s).pwr.gridOpen = some true ∧
      (closeShutter s).permit.timing = s.permit.timing := by
  rw [closeShutter_closing hshut]
  obtain ⟨hclosed, hvalid, hstable, hparts⟩ := closing_fields (s := s) (frame_rawTokens.wf hs)
  exact ⟨hclosed, hvalid.trans (frame_rawTokens.get (by decide)), hstable.trans (frame_rawTokens.get (by decide)), hparts⟩

/-! ### The watchdog -/

/-- The specification of `HOSTIF.HWDCTL` (Table 3-16). -/
def hwdctlSpec : RegSpec :=
  { off := 0x44, cnt := 1, stride := 4, rst := 2623043, ro := 0, rw := 0xFFFFF7, cmd := 0, staged := false, locks := [(0, 0xFFFFF7)]
    ranges := [⟨1, 2, false, 0, 2⟩, ⟨4, 13, false, 1, 6000⟩, ⟨17, 7, false, 1, 100⟩] }

theorem specAt_hwdctl : specAt HOSTIF_HWDCTL_EN.addr = some hwdctlSpec := rfl

theorem merge_masked {a w m : Word} (h : w &&& ~~~m = 0) : ((a &&& ~~~m) ||| (w &&& m)) &&& m = w := by
  refine BitVec.eq_of_getLsbD_eq fun i hi => ?_
  have hbit : (w &&& ~~~m).getLsbD i = false := by simp [h]
  rw [BitVec.getLsbD_and, BitVec.getLsbD_not] at hbit
  simp only [BitVec.getLsbD_and, BitVec.getLsbD_or, BitVec.getLsbD_not]
  generalize w.getLsbD i = b, m.getLsbD i = c at *
  revert hbit
  cases b <;> cases c <;> simp [hi]

theorem writeReg_hwdctl {w : Word} (hlock : (s.raw 0x9020).getLsbD 0 = false) (hrw : w &&& ~~~0xFFFFF7#32 = 0) (haction : bitsAt w.toNat 1 2 ≤ 2)
    (htime : 1 ≤ bitsAt w.toNat 4 13 ∧ bitsAt w.toNat 4 13 ≤ 6000) (hramp : 1 ≤ bitsAt w.toNat 17 7 ∧ bitsAt w.toNat 17 7 ≤ 100) :
    writeReg HOSTIF_HWDCTL_EN.addr w s = s.setRaw HOSTIF_HWDCTL_EN.addr ((s.raw HOSTIF_HWDCTL_EN.addr &&& ~~~0xFFFFF7#32) ||| (w &&& 0xFFFFF7#32)) := by
  have hlk : lockedMask s (pageOf HOSTIF_HWDCTL_EN.addr) hwdctlSpec = 0 := by
    unfold lockedMask hwdctlSpec
    rw [List.foldl_cons, List.foldl_nil, if_neg (by rw [show pageOf HOSTIF_HWDCTL_EN.addr * 0x1000 + 0x020 = 0x9020 from rfl, hlock]; decide)]
  have hrange : outOfRange hwdctlSpec w = false := by
    unfold outOfRange hwdctlSpec
    simp
    omega
  unfold writeReg
  extract_lets p
  rw [if_neg (by decide), if_neg (by decide), specAt_hwdctl]
  simp only
  rw [if_neg (by decide), hlk, hrange, if_neg (by decide), if_neg (by decide), if_pos rfl]
  exact if_pos hrw

/-- Every write of `HOSTIF.HWDCTL` that its fields accept is stored, and passed to the F-die. -/
theorem hwdctlWrite_fields {w : Word} (hs : Canon s) (hrw : w &&& ~~~0xFFFFF7#32 = 0) {t : State}
    (hstore : writeReg HOSTIF_HWDCTL_EN.addr w s =
      s.setRaw HOSTIF_HWDCTL_EN.addr ((s.raw HOSTIF_HWDCTL_EN.addr &&& ~~~0xFFFFF7#32) ||| (w &&& 0xFFFFF7#32))) (ht : t = hwdctlWrite w s) :
    t.raw HOSTIF_HWDCTL_EN.addr &&& 0xFFFFF7#32 = w ∧ (s.link.up = true → t.wdog.fCtl = t.raw HOSTIF_HWDCTL_EN.addr) := by
  subst ht
  unfold hwdctlWrite
  extract_lets a s1 again p s2
  have h2 : s2.raw a &&& 0xFFFFF7#32 = w ∧ s2.link = s.link := by
    have hraw : s1.raw a = (s.raw a &&& ~~~0xFFFFF7#32) ||| (w &&& 0xFFFFF7#32) := by
      unfold s1
      rw [hstore]
      exact raw_setRaw_same hs
    have hlink : s1.link = s.link := by
      unfold s1
      rw [hstore]
      rfl
    have heq : s2.raw a = s1.raw a ∧ s2.link = s1.link := by
      unfold s2
      split <;> exact ⟨rfl, rfl⟩
    exact ⟨by rw [heq.1, hraw, merge_masked hrw], heq.2.trans hlink⟩
  clear_value s2
  split
  · exact ⟨h2.1, fun _ => rfl⟩
  · next hdown => exact ⟨h2.1, fun hup => absurd (h2.2 ▸ hup) hdown⟩

theorem setHwd_get {n : Nat} (hs : Canon s) (hn : n < 4) : (setHwd n s).get HOSTIF_HWDSTAT_STATE = n := by
  unfold setHwd
  extract_lets o
  split
  · assumption
  · simp [hs, Nat.mod_eq_of_lt hn]

theorem setHwd_wdog {n : Nat} : (setHwd n s).wdog = s.wdog := by
  unfold setHwd
  extract_lets o
  split
  · rfl
  · simp

theorem setHwd_expcnt {n : Nat} (hs : Canon s) : (setHwd n s).get HOSTIF_HWDSTAT_EXPCNT = s.get HOSTIF_HWDSTAT_EXPCNT := by
  unfold setHwd
  extract_lets o
  split
  · rfl
  · simp [hs]

end

/-- Settles O21. -/
theorem permitAndWatchdog : Obligations.PermitAndWatchdog := by
  unfold Obligations.PermitAndWatchdog
  intro s hinv
  have hs := canon_of_inv hinv
  refine ⟨?_, ?_, ?_, ?_, ?_, ?_, ?_, ?_, ?_, ?_, ?_, ?_, ?_, ?_, ?_⟩
  · intro dt hrun href
    refine does_run (x := execPermitEdge _ _) rfl ?_
    unfold permitEdge
    rw [if_neg (by simp [fAwake, hrun]), if_pos (by simp [href])]
  · intro dt hrun href hlow hhigh
    refine doesWithin_run (fun t h => frame_execPermitEdge h) ?_
    unfold permitEdge
    rw [if_neg (by simp [fAwake, hrun]), if_neg (by simp [href]), if_pos (by simp [hlow, hhigh])]
    exact ⟨rfl, get_put_self (f := SHUTTLE_F_STAT_PVALID) hs (by decide) 1⟩
  · intro htiming hshut hyield
    refine doesWithin_run (fun t h => (frame_execPermitTimeout h).mono (by decide) (by decide)) ?_
    unfold permitTimeout
    extract_lets p s1
    rw [if_neg (by simp [htiming]), if_neg (by simp [hshut]), if_neg (by simpa [canYield, twinState] using hyield)]
    have hc : Canon s1 := canon_stored (canon_stored hs)
    have hshut1 : s1.flag SHUTTLE_F_STAT_SHUT = false := by simp [s1, p, hs, hshut]
    have hvalid : s1.get SHUTTLE_F_STAT_PVALID = 0 := by simp [s1, p, hs]
    have hstable : s1.get SHUTTLE_F_STAT_PSTABLE = 0 := by simp [s1, p, hs]
    obtain ⟨hclosed, hvalid', hstable', hopen, hpermit⟩ := closeShutter_fields hc hshut1
    exact ⟨hvalid'.trans hvalid, hstable'.trans hstable, hclosed, hpermit, fun _ => hopen⟩
  · intro htiming
    refine does_run (x := execPermitStable _) rfl ?_
    exact if_pos htiming
  · intro hstable hshut hforced
    refine doesWithin_run (fun t h => frame_execReopen h) ?_
    unfold reopenWrite
    rw [if_neg (by simp [hstable]), if_pos (by simpa using hshut)]
    extract_lets s1
    rw [if_neg (by simp [s1, hforced])]
    exact ⟨by simp [s1, hs], by simp [s1], by simp [s1]⟩
  · intro hstable hshut hforced
    refine doesWithin_run (fun t h => frame_execReopen h) ?_
    unfold reopenWrite
    rw [if_neg (by simp [hstable]), if_pos (by simpa using hshut)]
    extract_lets s1 p u
    rw [if_pos (by simp [s1, hforced])]
    have hclear : s1.get SHUTTLE_F_STAT_SHUT = 0 := by simp [s1, hs]
    exact ⟨hclear, rfl, rfl⟩
  · intro arm harm
    refine does_run (x := execYieldArm _ _) rfl ?_
    unfold yieldWrite
    rw [if_neg (by cases arm <;> simp_all)]
  · exact does_run (x := execYieldExpiry _) rfl rfl
  · intro value hkey hstate
    refine doesWithin_run (fun t h => frame_execHwdkick h) ?_
    unfold hwdkickWrite
    extract_lets p s1 s2
    have hc : Canon s1 := hs
    have hget : s2.get HOSTIF_HWDSTAT_STATE = 0 := setHwd_get hc (by decide)
    have hcount : s2.wdog.counting = true := congrArg (·.counting) (setHwd_wdog (s := s1) (n := 0))
    clear_value s2
    have hstate' : hwdState s.silent = 1 ∨ hwdState s.silent = 2 := hstate
    rw [if_neg (by simp [hkey]), if_neg (by rcases hstate' with h | h <;> simp [h])]
    split
    · exact ⟨hget, hcount⟩
    · exact ⟨hget, hcount⟩
  · intro value hlock hrw haction htlow hthigh hrlow hrhigh
    refine does_run (x := execHwdctlWrite _ _) rfl ?_
    exact hwdctlWrite_fields (s := s.silent) hs hrw
      (writeReg_hwdctl (s := s.silent) hlock hrw haction ⟨htlow, hthigh⟩ ⟨hrlow, hrhigh⟩) rfl
  · intro hrun hen hcounting hstate haction
    refine doesWithin_run (fun t h => frame_execWatchdogExpiry h) ?_
    unfold watchdogExpiry
    extract_lets act p s1 s2
    rw [if_neg (by simp [hrun, hen, hcounting]), if_neg (by simpa [hwdState] using hstate)]
    have hc : Canon s1 := by simp [s1, p, hs]
    have hexp : s1.get HOSTIF_HWDSTAT_EXPCNT = min (s.get HOSTIF_HWDSTAT_EXPCNT + 1) (2 ^ HOSTIF_HWDSTAT_EXPCNT.wd - 1) := by simp [s1, p, hs]
    have hcount : s1.wdog.counting = false := by simp [s1, p]
    have hstate2 : s2.get HOSTIF_HWDSTAT_STATE = act + 1 := setHwd_get hc (by simpa [act, Nat.lt_succ_iff] using haction)
    have hexp2 : s2.get HOSTIF_HWDSTAT_EXPCNT = min (s.get HOSTIF_HWDSTAT_EXPCNT + 1) (2 ^ HOSTIF_HWDSTAT_EXPCNT.wd - 1) := (setHwd_expcnt hc).trans hexp
    have hcount2 : s2.wdog.counting = false := (congrArg (·.counting) (setHwd_wdog (s := s1))).trans hcount
    clear_value s2
    split
    · exact ⟨hstate2, hexp2, hcount2⟩
    · exact ⟨hstate2, hexp2, hcount2⟩
  · intro hpass hup hstate
    refine does_run (x := execWatchdogAction _) rfl ?_
    unfold watchdogAction
    extract_lets p s1 st
    rw [if_neg (by simp [hpass, hup]), if_pos (show st = 1 from hstate)]
    rfl
  · intro hpass hup hstate
    refine does_run (x := execWatchdogAction _) rfl ?_
    unfold watchdogAction
    extract_lets p s1 st
    have hst : st = hwdState s := rfl
    clear_value st
    subst hst
    rw [if_neg (by simp [hpass, hup])]
    rcases hstate with h | h
    · rw [h]
      rfl
    · rw [h]
      rfl
  · intro hramp hfall hfactor hhold hyield
    refine doesWithin_run (fun t h => frame_execWatchdogRampEnd h) ?_
    unfold watchdogRampEnd
    extract_lets w s1
    rw [if_neg (by simp [w, hramp]), if_pos (show w.falling = true from hfall), if_neg (show ¬ 0 < w.factor from not_lt.2 hfactor),
      if_pos (show w.holdOpen = true from hhold)]
    have hopen : assertOpen s1 = { s1 with pwr.gridOpen := some true } := if_neg (by simp [s1, hyield])
    rw [hopen]
    exact ⟨rfl, rfl, rfl⟩
  · intro hramp hfall hfactor
    refine does_run (x := execWatchdogRampEnd _) rfl ?_
    unfold watchdogRampEnd
    extract_lets w s1
    rw [if_neg (by simp [w, hramp]), if_neg (by simp [w, hfall]), if_neg (show ¬ w.factor < 1 from not_lt.2 hfactor)]

end Sys2Proof.Machine
end

section
/-! SUPPORT. What the loss of the link leaves (R52, R54), and that a reset leaves no level of the H-die asserted (R87). -/

namespace Sys2Proof.Machine

set_option Elab.async false

section
variable {s : State}

/-! ### What does not bring the link up or down -/

theorem capture_up {a c : Nat} : (capture a c s).link.up = s.link.up := by rw [eventLink_capture]

theorem discard_up {e : Event} : (discard e s).link.up = s.link.up := by rw [eventLink_discard]

theorem backlogPut_up {p : Payload} : (backlogPut p s).link.up = s.link.up := by
  unfold backlogPut
  split
  · split
    · rfl
    · exact discard_up
  · rfl

theorem dropWrite_up : (dropWrite s).link.up = s.link.up := by
  unfold dropWrite
  rw [setEvt_link_up]
  rfl

theorem irqDropped_up {p : Payload} : (irqDropped p s).link.up = s.link.up := by
  unfold irqDropped
  split
  · split <;> rfl
  · rfl

theorem svcReply_up {status done : Nat} {words : List Word} : (svcReply status done words s).link.up = s.link.up := by
  unfold svcReply
  split <;> rfl

theorem fillGather_up {tag addr : Nat} {ws : List Word} : (fillGather tag addr ws s).link.up = s.link.up := by
  unfold fillGather
  split
  · rfl
  · extract_lets words rest out l s1
    split
    · split
      · exact svcReply_up
      · rfl
    · rfl

theorem ownSkip_up {what : Nat} : (ownSkip what s).link.up = s.link.up := by
  unfold ownSkip
  split
  · rw [raiseH_link]
    rfl
  · split
    · rfl
    · split
      · exact capture_up
      · rfl

theorem failRead_up {o : Outstanding} : (failRead o s).link.up = s.link.up := by
  unfold failRead
  split
  · exact fillGather_up
  · split
    · split <;> rfl
    · rfl
  · split
    · rfl
    · extract_lets l
      exact svcReply_up
  · exact ownSkip_up

theorem fWatchdogAlone_up : (fWatchdogAlone s).link.up = s.link.up := by
  unfold fWatchdogAlone
  extract_lets c act w s1
  split
  · split <;> rfl
  · rfl

theorem selvSwap_up {fv : Bool} : (selvSwap fv s).link.up = s.link.up := by
  unfold selvSwap
  split
  · rfl
  · rw [setEvt_link_up]
    rfl

theorem foldl_up {α : Type} {g : State → α → State} (h : ∀ t x, (g t x).link.up = t.link.up) (l : List α) (t : State) :
    (l.foldl g t).link.up = t.link.up :=
  List.foldlRecOn (motive := fun v : State => v.link.up = t.link.up) l g rfl fun v hv x _ => (h v x).trans hv

/-! ### The link goes down -/

theorem linkDown_up : (linkDown s).link.up = false := by
  unfold linkDown
  split
  · next h => simpa using h
  · extract_lets lost events held reads l hf fh host s1 s2 s3 s4 s5
    have h2 : s2.link.up = false := rfl
    have h3 : s3.link.up = s2.link.up := foldl_up (fun _ _ => backlogPut_up) _ _
    have h4 : s4.link.up = s3.link.up := foldl_up (fun _ _ => failRead_up) _ _
    have h5 : s5.link.up = s4.link.up := foldl_up (fun _ _ => irqDropped_up.trans dropWrite_up) _ _
    rw [fWatchdogAlone_up, setEvt_link_up]
    exact h5.trans (h4.trans (h3.trans h2))

theorem linkLost_up : (linkLost s).link.up = false := by
  unfold linkLost
  split
  · rw [selvSwap_up]
    exact linkDown_up
  · next h => simpa using h

/-! ### Levels after a reset of the H-die's pages -/

theorem cellAt_filter {q : Nat → Bool} {a : Nat} : ∀ l : List (Nat × Word), cellAt (l.filter fun p => q p.1) a = if q a then cellAt l a else none
  | [] => by simp [cellAt]
  | (b, v) :: l => by
    have ih := cellAt_filter (q := q) (a := a) l
    by_cases hb : b = a
    · subst hb
      cases hq : q b <;> simp [cellAt, hq, ih]
    · cases hq : q b <;> simp [cellAt, hq, hb, ih]

/-- A register that a reset does not keep has its reset word. -/
theorem raw_filter {q : Nat → Bool} {a : Nat} {t : State} (ht : t.regs = s.regs.filter fun p => q p.1) (ha : q a = false) : t.raw a = resetWord a := by
  unfold State.raw
  rw [ht, cellAt_filter, ha]
  rfl

theorem relevelBasic_quiet {page : Nat} (hpage : isF page = false) (hlevel : s.intc.level = []) (hraw : s.raw (page * 0x1000 + 0x010) = 0) :
    relevelBasic page s = s := by
  have hsource : sourceLevel s page = false := by
    have hlt : page < 0x40 := by simpa [isF] using hpage
    unfold sourceLevel pageAsserted
    rw [if_neg (by omega), hraw]
    simp
  unfold relevelBasic
  extract_lets n b
  have hb : b = false := hsource
  clear_value b
  subst hb
  rw [hpage]
  split
  · rfl
  · unfold levelInput
    rw [if_neg (by decide), if_pos (by simp [hlevel])]

theorem relevelPages_quiet (hlevel : s.intc.level = []) (hraw : ∀ page, isF page = false → s.raw (page * 0x1000 + 0x010) = 0) : relevelPages s = s := by
  unfold relevelPages
  refine List.foldlRecOn (motive := fun t => t = s) _ _ rfl fun t ht p hp => ?_
  subst ht
  split
  · rfl
  · next hfirst =>
    have hblock : p.first + p.count ≤ 0x40 := by
      revert hfirst
      revert p
      decide
    refine List.foldlRecOn (motive := fun v => v = t) _ _ rfl fun v hv i hi => ?_
    subst hv
    have hpage : isF (p.first + i) = false := by
      have := List.mem_range.1 hi
      simp [isF]
      omega
    exact relevelBasic_quiet hpage hlevel (hraw _ hpage)

theorem keepsWord_flags {page : Nat} (hpage : isF page = false) : keepsWord false (page * 0x1000 + 0x010) = false := by
  have hp : pageOf (page * 0x1000 + 0x010) = page := by
    unfold pageOf
    omega
  have ho : offOf (page * 0x1000 + 0x010) = 0x010 := by
    unfold offOf
    omega
  unfold keepsWord
  rw [hp, ho]
  simp [hpage]

theorem resetWord_flags {page : Nat} : resetWord (page * 0x1000 + 0x010) = 0 := by
  have ho : offOf (page * 0x1000 + 0x010) = 0x010 := by
    unfold offOf
    omega
  unfold resetWord
  rw [ho, if_pos (by decide), if_neg (by omega)]

theorem hPagesReset_intc : (hPagesReset false s).intc = Intc.reset ∧ (hPagesReset false s).link = s.link := by
  unfold hPagesReset
  extract_lets hmir wmir a b c d s1
  have hraw (page : Nat) (hpage : isF page = false) : (((s1.put LIFECYCLE_CNT_HMIR hmir).put LIFECYCLE_CNT_WMIR wmir).put PORTER_VMEAS_VSTO 0).raw
      (page * 0x1000 + 0x010) = 0 := by
    rw [raw_put_ne (f := PORTER_VMEAS_VSTO) _ (by dsimp only; omega), raw_put_ne (f := LIFECYCLE_CNT_WMIR) _ (by dsimp only; omega),
      raw_put_ne (f := LIFECYCLE_CNT_HMIR) _ (by dsimp only; omega)]
    exact (raw_filter (s := s) (t := s1) rfl (keepsWord_flags hpage)).trans resetWord_flags
  rw [relevelPages_quiet rfl hraw]
  exact ⟨rfl, rfl⟩

theorem hPagesReset_jr {restart : Bool} : (hPagesReset restart s).jr = Journal.reset := frame_relevelPages.same .jr (by decide)

end

end Sys2Proof.Machine
end

section
/-! PROOFS. Start-up of the H-die, and its reset (R32, R64, R501, R520, R521). -/

namespace Sys2Proof.Machine

set_option Elab.async false

section
variable {s : State}

/-! ### Training of the PCIe link -/

theorem trainPcie_fields (hs : Canon s) : (trainPcie s).get HOSTIF_STAT_PCIEUP = 1 ∧ 1 ≤ (trainPcie s).get HOSTIF_STAT_SPEED ∧
    (trainPcie s).get HOSTIF_STAT_SPEED ≤ 3 ∧ 1 ≤ (trainPcie s).get HOSTIF_STAT_WIDTH ∧ (trainPcie s).get HOSTIF_STAT_WIDTH ≤ 2 := by
  have heq : trainPcie s = ((((freeWord (freeWord s).2).2.put HOSTIF_STAT_PCIEUP 1).put HOSTIF_STAT_SPEED (1 + (freeWord s).1.toNat % 3)).put
      HOSTIF_STAT_WIDTH (1 + (freeWord (freeWord s).2).1.toNat % 2)) := rfl
  rw [heq]
  have hspeed : 1 + (freeWord s).1.toNat % 3 < 4 := by omega
  have hwidth : 1 + (freeWord (freeWord s).2).1.toNat % 2 < 4 := by omega
  simp [hs, Nat.mod_eq_of_lt hspeed, Nat.mod_eq_of_lt hwidth]
  omega

theorem trainPcie_pwr : (trainPcie s).pwr = s.pwr := (within_trainPcie (G := [0x09]) (Q := []) (within_refl _ _ s)).same .pwr (by decide)

/-! ### The reset of the H-die -/

/-- The die holds in reset, with its gates low and its side of the link cleared. -/
def inReset (t : State) : State :=
  { t with pwr := { t.pwr with h := .hold, gatesLow := true, restarting := false },
           link := { t.link with hf := Dir.reset, nextTag := 0, fNotReady := true, soon := [] } }

theorem hDieReset_on (h : s.pwr.h ≠ .off) : hDieReset s =
    hPagesReset false (inReset (linkLost { s with link := { s.link with reads := [], gathers := [] }, selv := Selv.reset })) := by
  unfold hDieReset inReset
  rw [if_neg (by simpa using h)]

theorem hDieReset_fields (h : s.pwr.h ≠ .off) : (hDieReset s).pwr.h = .hold ∧ (hDieReset s).pwr.gatesLow = true ∧ (hDieReset s).link.up = false ∧
    (hDieReset s).jr = Journal.reset ∧ (hDieReset s).intc = Intc.reset := by
  have hreset (t : State) : (inReset t).pwr.h = .hold ∧ (inReset t).pwr.gatesLow = true ∧ (inReset t).link.up = t.link.up := ⟨rfl, rfl, rfl⟩
  rw [hDieReset_on h]
  obtain ⟨hhold, hlow, hup⟩ := hreset (linkLost { s with link := { s.link with reads := [], gathers := [] }, selv := Selv.reset })
  rw [linkLost_up] at hup
  generalize inReset (linkLost { s with link := { s.link with reads := [], gathers := [] }, selv := Selv.reset }) = t at *
  obtain ⟨hintc, hlink⟩ := hPagesReset_intc (s := t)
  rw [hPagesReset_pwr, hlink, hPagesReset_jr, hintc]
  exact ⟨hhold, hlow, hup, rfl, rfl⟩

/-! ### The start of the firmware -/

theorem frame_issueRingCert : Within [0x06] [.sec] s (issueRingCert s) := within_issueRingCert (within_refl _ _ s)

/-- Beside the certificate itself its issue leaves the firmware's measurement. -/
theorem RunsFirmware.certified {r : SecSt} {t : State} (h : RunsFirmware r t) : RunsFirmware r (issueRingCert t) := by
  have hword (v : State) (hv : RunsFirmware r v) : RunsFirmware r (freeWord v).2 :=
    ⟨hv.canon, hv.die, hv.restarted, hv.version, hv.measured, hv.recovered, hv.watched⟩
  have hwords (n : Nat) (v : State) (hv : RunsFirmware r v) : RunsFirmware r (freeWords n v).2 := by
    rw [freeWords_state]
    exact ⟨hv.canon, hv.die, hv.restarted, hv.version, hv.measured, hv.recovered, hv.watched⟩
  have hstore (v : State) (hv : RunsFirmware r v) (certs : List (Nat × List Word)) :
      RunsFirmware r { v.put SECURITY_STAT_RINGCERT 1 with sec.certs := certs } :=
    ⟨canon_stored hv.canon, hv.die, hv.restarted, hv.version, hv.measured,
      (get_put_disjoint (f := SECURITY_STAT_RINGCERT) hv.canon (by decide) (by decide) 1).trans hv.recovered, hv.watched⟩
  unfold issueRingCert
  split
  · split
    next lw s1 e1 =>
    have r1 : RunsFirmware r s1 := by
      have := hword t h
      rwa [e1] at this
    extract_lets len
    split
    next ws s2 e2 =>
    have r2 : RunsFirmware r s2 := by
      have := hwords (len / 4) s1 r1
      rwa [e2] at this
    split
    next w s3 e3 =>
    have r3 : RunsFirmware r s3 := by
      have := hword s2 r2
      rwa [e3] at this
    exact hstore s3 r3 _
  · exact h

theorem hStart_cold_recovery (hboot : bootSlot (loadFuses s) = none) (hre : s.pwr.restarting = false) (hs : Canon s) :
    (hStart s).pwr.h = .boot ∧ (hStart s).get SECURITY_STAT_RECOVERY = 1 := by
  have heq : hStart s = { (loadFuses s).put SECURITY_STAT_RECOVERY 1 with pwr := { (loadFuses s).pwr with h := .boot, restarting := false } } := by
    unfold hStart
    simp only [hboot, hre, Bool.false_eq_true, if_false]
  have hc := canon_loadFuses hs
  rw [heq]
  generalize loadFuses s = t at hc ⊢
  exact ⟨rfl, get_put_self (f := SECURITY_STAT_RECOVERY) hc (by decide) 1⟩

theorem issueRingCert_boot (h : s.pwr.h = .boot) : issueRingCert s = s := by
  unfold issueRingCert
  exact if_neg (by simp [h])

end

/-- Settles O13. -/
theorem startupAndResetOfTheHDie : Obligations.StartupAndResetOfTheHDie := by
  unfold Obligations.StartupAndResetOfTheHDie
  intro s hinv
  have hs := canon_of_inv hinv
  refine ⟨?_, ?_, ?_, ?_, ?_, ?_, ?_⟩
  · intro hoff
    refine does_run (x := execHSupplyInRange _) rfl ?_
    exact if_pos (by simp [hoff])
  · intro hhold
    refine doesWithin_run (fun t h => frame_execHDieResetRelease h) ?_
    unfold hDieRelease
    extract_lets p s1
    have h1 : s1.pwr.h = .boot ∧ s1.pwr.gatesLow = false ∧ s1.pwr.perst = s.pwr.perst ∧ Canon s1 := by
      have hpwr : s1.pwr = { s.pwr with h := .boot, gatesLow := false } := (frame_compareMirror.same .pwr (by decide)).trans rfl
      rw [hpwr]
      exact ⟨rfl, rfl, rfl, frame_compareMirror.wf (canon_loadFuses (s := { s.silent with pwr := { s.pwr with h := .boot, gatesLow := false } }) hs)⟩
    clear_value s1
    obtain ⟨hdie, hgates, hperst, hc⟩ := h1
    rw [if_neg (by simp [hhold])]
    split
    · next hheld => exact ⟨hdie, hgates, fun hfree => absurd (hperst ▸ hheld) (by simp [hfree])⟩
    · obtain ⟨hup, hspeed, -, hwidth, -⟩ := trainPcie_fields hc
      rw [trainPcie_pwr]
      exact ⟨hdie, hgates, fun _ => ⟨hup, by omega, by omega⟩⟩
  · intro hboot hre
    refine doesWithin_run (fun t h => frame_execHFirmwareStart h) ?_
    rw [if_pos (by simp [hboot, hre])]
    cases hslot : bootSlot (loadFuses s.silent) with
    | none =>
      obtain ⟨hdie, hrec⟩ := hStart_cold_recovery (s := s.silent) hslot hre hs
      rw [issueRingCert_boot hdie]
      exact ⟨hdie, by simp, fun _ => hrec⟩
    | some slot =>
      obtain ⟨hrun, -, hbusy⟩ := hStart_runs (s := s.silent) hslot hs
      have hcert := hrun.certified
      refine ⟨hcert.die, ?_, by simp⟩
      rintro k ⟨⟩
      exact ⟨hcert.version, hcert.measured, (frame_issueRingCert.get (f := SEAL_STAT_BUSY) (by decide)).trans hbusy, hcert.watched, hcert.recovered⟩
  · intro hup
    refine does_run (x := execPcieReset _ _) rfl ?_
    extract_lets p s1
    rw [if_pos rfl]
    unfold pcieDown
    rw [if_neg (by simpa [s1] using hup)]
    extract_lets l u k t
    have ht : Canon t ∧ t.pwr.perst = true ∧ t.host.msixEn = false := ⟨regs_filter hs _, rfl, rfl⟩
    clear_value t
    obtain ⟨hc, hperst, hmsix⟩ := ht
    refine ⟨by simpa using hperst, by simp [hc], by simp [hc], by simp [hc], by simpa using hmsix⟩
  · intro hrun hdown
    refine does_run (x := execPcieReset _ _) rfl ?_
    extract_lets p s1
    rw [if_neg (by decide), if_pos (by simp [hAwake, hrun, hdown])]
    obtain ⟨hup, hspeed, hspeed', hwidth, hwidth'⟩ := trainPcie_fields (s := s1) hs
    exact ⟨congrArg (·.perst) trainPcie_pwr, hup, hspeed, hspeed', hwidth, hwidth'⟩
  · intro hon
    exact does_run (x := execHDieReset _) rfl (hDieReset_fields (s := s.silent) hon)
  · intro hon
    exact does_run (x := execRefclkHLoss _) rfl (hDieReset_fields (s := s.silent) hon)

end Sys2Proof.Machine
end

section
/-! PROOFS. Supply, reset release and PLL ramp of the F-die; loss of its supply and of its clocks (R52, R431–R435, R520, R539). -/

namespace Sys2Proof.Machine

set_option Elab.async false

open Host (Outcome)

section
variable {s : State}

/-! ### The channels of a direction -/

/-- Which channels of a direction are in service. -/
def inService (toH : Bool) (s : State) : Bool × Bool := ((dirTo toH s).rx0, (dirTo toH s).rx1)

theorem inService_of_eventLink {toH : Bool} {t : State} (h : EventLink s.link t.link) : inService toH t = inService toH s := by
  unfold inService dirTo
  rw [h]
  cases toH <;> rfl

theorem inService_of_link {toH : Bool} {t : State} (h : t.link = s.link) : inService toH t = inService toH s := by
  unfold inService dirTo
  rw [h]

theorem inService_setEvt {toH : Bool} {page m : Nat} : inService toH (setEvt page m s) = inService toH s := inService_of_eventLink eventLink_setEvt

theorem inService_askIfGap {toH : Bool} : inService toH (askIfGap toH s) = inService toH s := by
  unfold askIfGap askReplay
  extract_lets d k s1
  split
  · rw [inService_setEvt]
    cases toH <;> rfl
  · rfl

/-- The stores of a channel that leaves service, before the link is judged. -/
def silenced (toH : Bool) (ch : Nat) (s : State) : State :=
  let s1 := modTo toH (fun d => Dir.setLate ch none (Dir.setBad ch [] (Dir.setGood ch 0 (Dir.setRx ch false d)))) s
  let s2 := s1.put (rxFld toH ch) 0
  setEvt (rxPage toH) (2 ^ ch) (if toH then s2.count SHUTTLE_H_EVCNT_CHFAIL else s2)

theorem inService_silenced {toH : Bool} :
    inService toH (silenced toH 0 s) = (false, (inService toH s).2) ∧ inService toH (silenced toH 1 s) = ((inService toH s).1, false) := by
  unfold silenced
  refine ⟨?_, ?_⟩
  · extract_lets s1 s2
    rw [inService_setEvt]
    cases toH <;> rfl
  · extract_lets s1 s2
    rw [inService_setEvt]
    cases toH <;> rfl

theorem channelOut_first {toH : Bool} (h : inService toH s = (true, true)) : inService toH (channelOut toH 0 s) = (false, true) := by
  have h0 : (dirTo toH s).rx0 = true := congrArg Prod.fst h
  have hsilent : inService toH (silenced toH 0 s) = (false, true) := by rw [inService_silenced.1, h]
  have heq : channelOut toH 0 s = askIfGap toH (silenced toH 0 s) := by
    have h1 : (dirTo toH (silenced toH 0 s)).rx1 = true := congrArg Prod.snd hsilent
    unfold channelOut
    rw [if_neg (by simp [Dir.rx, h0])]
    refine if_neg fun hout => ?_
    have h2 : (!(dirTo toH (silenced toH 0 s)).rx1) = true := (Bool.and_eq_true_iff.1 hout).2
    rw [h1] at h2
    exact absurd h2 (by decide)
  rw [heq, inService_askIfGap, hsilent]

theorem channelOut_last {toH : Bool} (h : inService toH s = (false, true)) : (channelOut toH 1 s).link.up = false := by
  have h1 : (dirTo toH s).rx1 = true := congrArg Prod.snd h
  have hsilent : inService toH (silenced toH 1 s) = (false, false) := by rw [inService_silenced.2, h]
  have heq : channelOut toH 1 s = linkLost (silenced toH 1 s) := by
    have ha : (dirTo toH (silenced toH 1 s)).rx0 = false := congrArg Prod.fst hsilent
    have hb : (dirTo toH (silenced toH 1 s)).rx1 = false := congrArg Prod.snd hsilent
    unfold channelOut
    rw [if_neg (by simp [Dir.rx, h1])]
    exact if_pos (by rw [Bool.and_eq_true, Bool.not_eq_true', Bool.not_eq_true']; exact ⟨ha, hb⟩)
  rw [heq]
  exact linkLost_up

theorem inService_sdLoss {toH : Bool} {f : Fld} {what : Nat} : inService toH (sdLoss f what s) = inService toH s := by
  unfold sdLoss
  split
  · rfl
  · rw [inService_of_eventLink eventLink_raiseF, inService_setEvt]
    rfl

/-! ### The warp starts with the lock (R431) -/

theorem frame_warpStart : Within [0x02, 0x09, 0x40, 0x51] [.link, .intc, .warp] s (warpStart s) := within_warpStart (within_refl _ _ s)

theorem setWarpState_fields {n : Nat} (hs : Canon s) (hn : n < 4) :
    (setWarpState n s).get WARP_STAT_STATE = n ∧ (setWarpState n s).warp = s.warp := by
  unfold setWarpState
  extract_lets o
  split
  · exact ⟨‹_›, rfl⟩
  · exact ⟨by simp [hs, Nat.mod_eq_of_lt hn], by simp⟩

theorem warpStart_fields (hs : Canon s) : (warpStart s).get WARP_STAT_STATE = 1 ∧ (warpStart s).warp.running = true := by
  have h (t : State) (hc : Canon t) (hrun : t.warp.running = true) :
      (setWarpState 1 t).get WARP_STAT_STATE = 1 ∧ (setWarpState 1 t).warp.running = true := by
    obtain ⟨hstate, hwarp⟩ := setWarpState_fields (n := 1) hc (by decide)
    exact ⟨hstate, (congrArg (·.running) hwarp).trans hrun⟩
  unfold warpStart
  exact h _ (canon_stored hs) rfl

/-- The stores of a lock, before the warp starts. -/
def locked (s : State) : State :=
  let s2 := (((freeWord s).2.put CLOCK_STAT_LOCK 1).put CLOCK_STAT_PLOCK 1).put CLOCK_RAMPTIME_LOCKT (freeWord s).1.toNat
  { s2 with pwr := { s2.pwr with f := .run, pllLock := true } }

theorem execPllLock_locked (hboot : s.pwr.f = .boot) (hfailed : s.flag CLOCK_STAT_FAILED = false) (hn : s.get CLOCK_STAT_N = 48) :
    execPllLock s = .next (issueRingCert (warpStart (locked s.silent))) :=
  congrArg Outcome.next (if_neg (by simp [ramping, hboot, hfailed, hn]))

theorem locked_fields (hs : Canon s) : Canon (locked s) ∧ (locked s).pwr.f = .run ∧ (locked s).pwr.pllLock = true ∧
    (locked s).get CLOCK_STAT_LOCK = 1 ∧ (locked s).get CLOCK_STAT_PLOCK = 1 := by
  unfold locked
  extract_lets s2 p
  have h2 : Canon s2 ∧ s2.get CLOCK_STAT_LOCK = 1 ∧ s2.get CLOCK_STAT_PLOCK = 1 :=
    ⟨canon_stored (canon_stored (canon_stored hs)), by simp [s2, hs], by simp [s2, hs]⟩
  clear_value s2
  exact ⟨h2.1, rfl, rfl, h2.2⟩

/-- What a lock leaves (R431). -/
theorem lock_fields {t : State} (hc : Canon t) : (issueRingCert (warpStart t)).get CLOCK_STAT_LOCK = t.get CLOCK_STAT_LOCK ∧
    (issueRingCert (warpStart t)).get CLOCK_STAT_PLOCK = t.get CLOCK_STAT_PLOCK ∧ (issueRingCert (warpStart t)).pwr = t.pwr ∧
    (issueRingCert (warpStart t)).warp.running = true ∧ (issueRingCert (warpStart t)).get WARP_STAT_STATE = 1 := by
  obtain ⟨hstate, hrun⟩ := warpStart_fields hc
  have hframe : Within [0x02, 0x06, 0x09, 0x40, 0x51] [.link, .intc, .warp, .sec] t (issueRingCert (warpStart t)) :=
    within_issueRingCert (within_warpStart (within_refl _ _ t))
  refine ⟨hframe.get (by decide), hframe.get (by decide), hframe.same .pwr (by decide), ?_, ?_⟩
  · exact (congrArg (·.running) (frame_issueRingCert.same .warp (by decide))).trans hrun
  · rw [frame_issueRingCert.get (by decide), hstate]

/-! ### Loss of the lock (R435) -/

theorem frame_blockActions : Within ringPages [.pwr] s (blockActions s) := within_blockActions (within_refl _ _ s)

theorem blockActions_pwr : (blockActions s).pwr.f = s.pwr.f ∧ (blockActions s).pwr.pllLock = s.pwr.pllLock ∧
    (s.permit.yielded = false → (blockActions s).pwr.gridOpen = some true) := by
  have h (t : State) (hpermit : t.permit = s.permit) : (assertOpen (blockTokens t)).pwr.f = t.pwr.f ∧
      (assertOpen (blockTokens t)).pwr.pllLock = t.pwr.pllLock ∧ (s.permit.yielded = false → (assertOpen (blockTokens t)).pwr.gridOpen = some true) := by
    have hframe : Within ringPages [] t (blockTokens t) := within_blockTokens (within_refl _ _ t)
    rw [← show (blockTokens t).pwr = t.pwr from hframe.same .pwr (by decide)]
    have hpermit' : (blockTokens t).permit = s.permit := (hframe.same .permit (by decide)).trans hpermit
    generalize blockTokens t = u at hpermit' ⊢
    unfold assertOpen
    rw [hpermit']
    split
    · next hyield => exact ⟨rfl, rfl, fun hfree => absurd hyield (by simp [hfree])⟩
    · exact ⟨rfl, rfl, fun _ => rfl⟩
  exact h _ rfl

/-- The end of an unlock: the F-die is back in boot, its warp and its clusters stopped. -/
def stopClock (prot : Bool) (s : State) : State :=
  { s.put WEAVE_STAT_RUN 0 with
    pwr := { s.pwr with f := .boot, pllLock := s.pwr.pllLock && prot }, warp.running := false, weave.stopped := List.replicate 4 true }

theorem stopClock_regs {prot : Bool} : (stopClock prot s).regs = (s.put WEAVE_STAT_RUN 0).regs := (rfl)

theorem stopClock_parts {prot : Bool} : (stopClock prot s).pwr.f = .boot ∧ (stopClock prot s).warp.running = false ∧
    (stopClock prot s).pwr.pllLock = (s.pwr.pllLock && prot) ∧ (stopClock prot s).pwr.gridOpen = s.pwr.gridOpen := ⟨rfl, rfl, rfl, rfl⟩

/-- The stores after the block actions of an unlock. -/
def unlocked (prot : Bool) (s1 : State) : State :=
  let s2 := (s1.put CLOCK_STAT_FAILED 1).put (if prot then CLOCK_STAT_PLOCK else CLOCK_STAT_LOCK) 0
  let s3 := raiseF 100 1 (bit prot) (setEvt 0x07D 1 s2)
  stopClock prot ((List.range 4).foldl (fun s c => s.put (REED_CLST_MODE c) 3) s3)

theorem pllUnlock_running {prot : Bool} (hrun : s.pwr.f = .run) :
    pllUnlock prot s = unlocked prot (blockActions (s.put CLOCK_UNLOCKW_SWARP (swarp s).toNat)) := by
  unfold pllUnlock unlocked stopClock
  rw [if_neg (by simp [hrun])]

theorem unlocked_fields {prot : Bool} (hc : Canon s) :
    (unlocked prot s).pwr.f = .boot ∧ (unlocked prot s).warp.running = false ∧ (unlocked prot s).get WEAVE_STAT_RUN = 0 ∧
      (unlocked prot s).get CLOCK_STAT_FAILED = 1 ∧ (unlocked prot s).pwr.pllLock = (s.pwr.pllLock && prot) ∧
      (unlocked prot s).get (if prot then CLOCK_STAT_PLOCK else CLOCK_STAT_LOCK) = 0 ∧ (unlocked prot s).pwr.gridOpen = s.pwr.gridOpen := by
  unfold unlocked
  extract_lets s3 s4
  have h3 : Canon s3 ∧ s3.get CLOCK_STAT_FAILED = 1 ∧ s3.get (if prot then CLOCK_STAT_PLOCK else CLOCK_STAT_LOCK) = 0 ∧ s3.pwr = s.pwr := by
    refine ⟨canon_stored (canon_stored hc), ?_, ?_, rfl⟩
    · cases prot <;> simp [s3, hc]
    · cases prot <;> simp [s3, hc]
  clear_value s3
  obtain ⟨hc3, hfailed3, hzero3, hpwr3⟩ := h3
  have h4 : s4.get CLOCK_STAT_FAILED = 1 ∧ s4.get (if prot then CLOCK_STAT_PLOCK else CLOCK_STAT_LOCK) = 0 ∧ s4.pwr = s.pwr ∧ Canon s4 := by
    refine ⟨by simp [s4, hfailed3], ?_, by simp [s4, hpwr3], by simp [s4, hc3]⟩
    cases prot <;> simpa [s4] using hzero3
  clear_value s4
  obtain ⟨hfailed4, hzero4, hpwr4, hc4⟩ := h4
  have ht : Within [0x50] [] s4 ((List.range 4).foldl (fun s c => s.put (REED_CLST_MODE c) 3) s4) :=
    within_foldl_range (within_refl _ _ s4) fun _ _ _ k => within_put k
  generalize (List.range 4).foldl (fun s c => s.put (REED_CLST_MODE c) 3) s4 = t at ht ⊢
  have hpwr : t.pwr = s.pwr := (ht.same .pwr (by decide)).trans hpwr4
  obtain ⟨hboot, hrun, hlock, hopen⟩ := stopClock_parts (s := t) (prot := prot)
  rw [get_of_regs stopClock_regs, get_of_regs stopClock_regs, get_of_regs stopClock_regs, hlock, hopen, hpwr]
  refine ⟨hboot, hrun, get_put_self (ht.wf hc4) (by decide) 0, ?_, rfl, ?_, rfl⟩
  · exact (get_put_ne t (by decide) 0).trans ((ht.get (by decide)).trans hfailed4)
  · exact (get_put_ne t (by cases prot <;> decide) 0).trans ((ht.get (by cases prot <;> decide)).trans hzero4)

/-! ### Loss of supply -/

theorem fDieReset_fields : (fDieReset s).pwr.gridOpen = none ∧ (fDieReset s).link.up = s.link.up ∧ (fDieReset s).weave = WeaveSt.reset ∧
    (fDieReset s).warp = Warp.reset ∧ ∀ a, isF (pageOf a) = true → (fDieReset s).raw a = resetWord a := by
  unfold fDieReset
  extract_lets h l a b c s1 s2 w d e f s3
  refine ⟨rfl, rfl, rfl, rfl, fun a ha => ?_⟩
  have hne : a ≠ SECURITY_STAT_RINGCERT.addr := by
    rintro rfl
    exact absurd ha (by decide)
  exact (raw_put_ne (f := SECURITY_STAT_RINGCERT) _ hne _).trans (raw_filter (s := s) (q := fun b => !isF (pageOf b)) rfl (by simp [ha]))

end

/-- Settles O14. -/
theorem startupAndLossesOfTheFDie : Obligations.StartupAndLossesOfTheFDie := by
  unfold Obligations.StartupAndLossesOfTheFDie
  intro s hinv
  have hs := canon_of_inv hinv
  refine ⟨?_, ?_, ?_, ?_, ?_, ?_, ?_, ?_, ?_, ?_, ?_⟩
  · intro hoff
    refine does_run (x := execFSupplyInRange _) rfl ?_
    exact if_pos (by simp [hoff])
  · intro hhold
    refine doesWithin_run (fun t h => frame_execFDieResetRelease h) ?_
    rw [if_neg (by simp [hhold])]
    have hprofile (t : State) (hc : Canon t) (hsec : t.sec = s.sec) : (rampProfile t).get CLOCK_STAT_OWNPROF = bit s.sec.fuses.pllValid ∧
        (s.sec.fuses.pllValid = false → (rampProfile t).raw CLOCK_RAMPPROF_D0.addr = word (10 + 256 * 20 + 65536 * 40)) := by
      have hc1 : Canon (t.putB CLOCK_STAT_OWNPROF t.sec.fuses.pllValid) := canon_stored hc
      unfold rampProfile
      extract_lets own
      refine ⟨?_, fun hnone => ?_⟩
      · rw [get_setRaw_other (by decide)]
        simp [own, hc, hsec]
      · rw [raw_setRaw_same hc1, if_neg (by simp [own, hsec, hnone])]
    exact ⟨rfl, rfl, hprofile _ hs rfl⟩
  · intro hboot hfailed hn
    refine does_run (x := execPllStep _) rfl ?_
    have hn' : ¬ (48 ≤ s.get CLOCK_STAT_N) := by omega
    rw [if_neg (by simp [ramping, hboot, hfailed, hn'])]
    extract_lets n p s1
    rw [if_neg (show ¬ n = 48 by simp [n]; omega)]
    rfl
  · intro hboot hfailed hn
    refine doesWithin_run (fun t h => frame_execPllStep h) ?_
    rw [if_neg (by simp [ramping, hboot, hfailed, hn])]
    extract_lets n t p s1
    have h1 : s1.get CLOCK_STAT_N = 48 ∧ s1.pwr = { s.pwr with pllLock := false } := ⟨by simp [s1, t, n, hs, hn], rfl⟩
    rw [if_pos (by simp [n, hn])]
    clear_value s1
    exact ⟨(get_put_ne (f := CLOCK_RAMPTIME_RAMP) (freeWord s1).2 (by decide) _).trans h1.1, h1.2⟩
  · intro hboot hfailed hn
    refine does_run (x := execPllStepTimeout _) rfl ?_
    rw [if_neg (by simp [ramping, hboot, hfailed])]
    extract_lets n k p s1
    rw [if_pos (show k < 3 by simp [k]; omega)]
    rfl
  · intro hboot hfailed hn
    refine doesWithin_run (fun t h => frame_execPllStepTimeout h) ?_
    rw [if_neg (by simp [ramping, hboot, hfailed])]
    extract_lets n k t p s1
    have hk : k = 3 := by simp [k, hn]
    have h1 : Canon s1 ∧ s1.get CLOCK_STAT_TRIES = 3 ∧ s1.pwr = { s.pwr with pllLock := false } := ⟨canon_stored hs, by simp [s1, t, hk, hs], rfl⟩
    clear_value k s1
    obtain ⟨hc, htries, hpwr⟩ := h1
    rw [if_neg (by omega)]
    refine ⟨by simp [hc, htries], by simp [hc], ?_⟩
    rw [← hpwr]
    simp
  · intro hboot hfailed hn
    have hexec := execPllLock_locked hboot hfailed hn
    obtain ⟨hc, hrun, hlocked, hlock, hplock⟩ := locked_fields (s := s.silent) hs
    refine doesWithin_intro hexec ?_ (frame_execPllLock hexec)
    obtain ⟨hlock', hplock', hpwr, hwarp, hstate⟩ := lock_fields hc
    rw [hlock', hplock', hpwr]
    exact ⟨hlock, hplock, hrun, hlocked, hwarp, hstate⟩
  · intro hon hheld
    have hidle : execFSupplyLoss s = run _ s := runS_idle hheld fun s0 s h => by
      extract_lets x0 x2
      have h1 : Kept s0 x0 := (kept_fDieReset (kept_linkLost h))
      clear_value x0
      exact kept_ite h (kept_mk h1)
    refine ⟨_, hidle, ?_⟩
    beta_reduce
    rw [if_neg (by simpa using hon)]
    obtain ⟨hopen, hup, hweave, hwarp, hraw⟩ := fDieReset_fields (s := linkLost s.silent)
    rw [linkLost_up] at hup
    extract_lets t p
    have ht : t.pwr.gridOpen = none ∧ t.link.up = false ∧ t.weave = WeaveSt.reset ∧ t.warp = Warp.reset ∧
        ∀ a, isF (pageOf a) = true → t.raw a = resetWord a := ⟨hopen, hup, hweave, hwarp, hraw⟩
    clear_value t
    exact ⟨rfl, ht⟩
  · intro prot hrun
    refine doesWithin_run (fun t h => (frame_execPllUnlock h).mono (by decide) (by decide)) ?_
    obtain ⟨-, hlock, hopen⟩ := blockActions_pwr (s := s.silent.put CLOCK_UNLOCKW_SWARP (swarp s.silent).toNat)
    obtain ⟨hboot, hwarp, hstopped, hfailed, hpll, hzero, hgrid⟩ := unlocked_fields (prot := prot)
      (frame_blockActions.wf (canon_stored hs) : Canon (blockActions (s.silent.put CLOCK_UNLOCKW_SWARP (swarp s.silent).toNat)))
    rw [hlock] at hpll
    rw [pllUnlock_running (s := s.silent) hrun]
    exact ⟨hboot, hwarp, hstopped, hfailed, hpll, hzero, fun hfree => hgrid.trans (hopen hfree)⟩
  · intro lane hlane hflag
    refine doesWithin_run (fun t h => (frame_execLanePllLoss hlane h).mono (by decide) (by decide)) ?_
    rw [if_pos (by omega)]
    have hloss : Within ([0x02, 0x09, 0x51, 0x100] ++ ringPages) [.link, .intc, .cells, .ring, .twin, .edge] (sdLoss ⟨CLOCK_SDLOCK_LANE.addr, lane, 1⟩ lane s.silent)
        (laneLost lane (sdLoss ⟨CLOCK_SDLOCK_LANE.addr, lane, 1⟩ lane s.silent)) := within_laneLost (within_refl _ _ _)
    rw [hloss.get (f := ⟨CLOCK_SDLOCK_LANE.addr, lane, 1⟩) (show _ from by decide : min (pageOf CLOCK_SDLOCK_LANE.addr) 0x100 ∉ _), hloss.get (f := CLOCK_SDLOCK_LOSSES) (by decide)]
    unfold sdLoss
    rw [if_neg (by simp [hflag])]
    refine ⟨?_, ?_⟩
    · rw [get_raiseF (f := ⟨CLOCK_SDLOCK_LANE.addr, lane, 1⟩) (by simp), get_setEvt (f := ⟨CLOCK_SDLOCK_LANE.addr, lane, 1⟩) (by simp)]
      exact (get_put_disjoint (f := CLOCK_SDLOCK_LOSSES) (canon_stored hs) (by decide) (.inr (.inl (show lane + 1 ≤ 16 by omega))) _).trans
        (get_put_self (f := ⟨CLOCK_SDLOCK_LANE.addr, lane, 1⟩) (s := s.silent) hs (show lane + 1 ≤ 32 by omega) 0)
    · have hlosses : (s.silent.put ⟨CLOCK_SDLOCK_LANE.addr, lane, 1⟩ 0).get CLOCK_SDLOCK_LOSSES = s.get CLOCK_SDLOCK_LOSSES :=
        get_put_disjoint (f := ⟨CLOCK_SDLOCK_LANE.addr, lane, 1⟩) (s := s.silent) hs (show lane + 1 ≤ 32 by omega)
          (.inr (.inr (show lane + 1 ≤ 16 by omega))) 0
      rw [get_raiseF (f := CLOCK_SDLOCK_LOSSES) (by simp), get_setEvt (f := CLOCK_SDLOCK_LOSSES) (by simp), ← hlosses]
      exact get_counted (f := CLOCK_SDLOCK_LOSSES) (s := s.silent.put ⟨CLOCK_SDLOCK_LANE.addr, lane, 1⟩ 0) (canon_stored hs) (by decide)
  · intro fside hup hheld h0 h1
    have hidle : execShuttlePllLoss fside s = run _ s :=
      runS_idle hheld fun s0 s k => kept_channelOut (kept_channelOut (kept_ite (kept_sdLoss k) (kept_raiseF (kept_setEvt k))))
    refine doesWithin_run (fun t h => (frame_execShuttlePllLoss hheld h).mono (by decide) (by decide)) ?_ rfl hidle
    refine channelOut_last (channelOut_first ?_)
    have hin : inService (!fside) s.silent = (true, true) := Prod.ext h0 h1
    split
    · rw [inService_sdLoss, hin]
    · rw [inService_of_eventLink eventLink_raiseF, inService_setEvt, hin]

end Sys2Proof.Machine
end

section
/-! PROOFS. An intact frame in sequence on a channel in service is delivered once (R44). -/

namespace Sys2Proof.Machine

set_option Elab.async false

open Host (Outcome)

section
variable {s : State} {toH : Bool} {ch : Nat} {p : Payload}

/-! ### A frame in sequence -/

/-- The number of the latest frame of a channel after one with the number expected. -/
def laterOf (seq ch : Nat) (d : Dir) : Option Nat :=
  match d.late ch with
  | some l => if seqDiff seq l < 0x8000 then some (seq % 0x10000) else some l
  | none => some (seq % 0x10000)

/-- The receiver has taken a frame in sequence. -/
def taken (toH : Bool) (ch : Nat) (s : State) : State :=
  modTo toH (fun d => { d with e := (d.e + 1) % 0x10000, asked := 0 })
    (modTo toH (Dir.setLate ch (laterOf (dirTo toH s).e ch (dirTo toH s))) s)

theorem seqDiff_self (e : Nat) : seqDiff e e = 0 := by
  unfold seqDiff
  omega

/-- A frame in sequence, with none held behind it, is delivered, and nothing else. -/
theorem receive_inSequence (hup : s.link.up = true) (hch : ch < 2) (hrx : (dirTo toH s).rx ch = true) (hheld : (dirTo toH s).held = [])
    (hkeep : (dirTo toH (deliver toH p (taken toH ch s))).held = []) :
    receive toH ch (dirTo toH s).e p s = deliver toH p (taken toH ch s) := by
  unfold receive
  rw [if_neg (by simp [hup]; omega)]
  extract_lets d n later s1 s2
  rw [if_neg (by simp [d, hrx]), if_pos (show n = 0 from seqDiff_self _)]
  have hd : d.held.length = 0 := by simp [d, hheld]
  have h2 : s2 = taken toH ch s := rfl
  rw [hd, h2, deliverHeld]
  unfold askIfGap
  extract_lets d'
  exact if_neg (by simp [gapSeen, d', hkeep])

theorem taken_e : (dirTo toH (taken toH ch s)).e = ((dirTo toH s).e + 1) % 65536 := by
  unfold taken dirTo modTo Dir.setLate
  cases toH <;> by_cases hch : ch = 0 <;> simp [hch]

theorem taken_held : (dirTo toH (taken toH ch s)).held = (dirTo toH s).held := by
  unfold taken dirTo modTo Dir.setLate
  cases toH <;> by_cases hch : ch = 0 <;> simp [hch]

/-- What a taken frame leaves beside the receiver's direction. -/
theorem taken_parts : (taken toH ch s).regs = s.regs ∧ (taken toH ch s).out = s.out ∧ (taken toH ch s).host = s.host ∧
    (taken toH ch s).warden = s.warden ∧ (taken toH ch s).jr = s.jr ∧ (taken toH ch s).selv = s.selv ∧
    (taken toH ch s).link.access = s.link.access ∧ (taken toH ch s).link.arrived = s.link.arrived ∧ (taken toH ch s).link.reads = s.link.reads ∧
    (taken toH ch s).link.gathers = s.link.gathers ∧ swarp (taken toH ch s) = swarp s := by
  unfold taken modTo
  cases toH <;> exact ⟨rfl, rfl, rfl, rfl, rfl, rfl, rfl, rfl, rfl, rfl, rfl⟩

/-- A command that receives a frame in sequence. -/
theorem does_receive {c : Instr} {P : State → Prop} (hexec : exec c s = runS (receive toH ch (dirTo toH s).e p) s) (hsvc : s.svc.held = [])
    (hup : s.link.up = true) (hch : ch < 2) (hrx : (dirTo toH s).rx ch = true) (hheld : (dirTo toH s).held = [])
    (hdir : dirTo toH (deliver toH p (taken toH ch s.silent)) = dirTo toH (taken toH ch s.silent))
    (hP : (dirTo toH (deliver toH p (taken toH ch s.silent))).e = ((dirTo toH s).e + 1) % 65536 → P (deliver toH p (taken toH ch s.silent))) :
    Does c s P := by
  have hidle : runS (receive toH ch (dirTo toH s).e p) s = run (receive toH ch (dirTo toH s).e p) s := runS_idle hsvc fun _ _ k => kept_receive k
  refine ⟨_, hexec.trans hidle, ?_⟩
  have heq : receive toH ch (dirTo toH s.silent).e p s.silent = deliver toH p (taken toH ch s.silent) :=
    receive_inSequence (s := s.silent) hup hch hrx hheld (by rw [hdir, taken_held]; exact hheld)
  exact heq ▸ hP (by rw [hdir, taken_e]; rfl)

/-! ### An event is journalled (R98) -/

theorem announce_jr {old : State} {n : Nat} : (announce old n s).jr = s.jr := by
  simp [announce, apply_ite State.jr, sendMsix, emit]

theorem edgeEvent_jr {n : Nat} : (edgeEvent n s).jr = s.jr := announce_jr

theorem journal_jr {w : Word} {wcf source flags code data : Nat} : (journal w wcf source flags code data s).jr =
    ⟨((⟨s.jr.next, w, wcf, source, flags, code, data⟩ : JEntry) :: s.jr.entries).take 4096, (s.jr.next + 1) % 2 ^ 32⟩ := by
  unfold journal
  extract_lets q full old es s1 s2 s3 rp fill unread
  have h3 : s3.jr = ⟨es, (s.jr.next + 1) % 2 ^ 32⟩ := by
    unfold s3
    split <;> rfl
  clear_value s3
  exact ((within_setEvt (G := [0x04, 0x02, 0x09, 0x51]) (Q := [.link, .intc]) (within_refl _ _ s3)).same .jr (by decide)).trans h3

theorem deliverEvent_fields {e : Event} (hrise : e.code ≠ 0xFF00) (hfall : e.code ≠ 0xFF01) :
    (deliverEvent e s).jr.entries.head?.map (fun x => (x.seq, x.source, x.code)) = some (s.jr.next, e.source, e.code) ∧
      (deliverEvent e s).jr.next = (s.jr.next + 1) % 2 ^ 32 ∧ (deliverEvent e s).link = s.link := by
  unfold deliverEvent
  rw [if_neg hrise, if_neg hfall]
  obtain ⟨c, s1, h1⟩ : ∃ a b, stampWcf e.stamp s = (a, b) := ⟨_, _, Prod.mk.eta.symm⟩
  have hs1 : s1.jr = s.jr ∧ s1.link = s.link := by
    have : s1 = (stampWcf e.stamp s).2 := by rw [h1]
    rw [this]
    unfold stampWcf
    split <;> exact ⟨rfl, rfl⟩
  simp only [h1]
  generalize e.flags % 2 + (if e.data.toNat / 2 ^ 16 = 0 then 0 else 4) + clockFlag s = fl
  have hjr (t : State) (ht : t.jr = (journal (e.stamp.extractLsb' 12 32) c e.source fl e.code (e.data.toNat % 2 ^ 16) s1).jr)
      (hl : t.link = (journal (e.stamp.extractLsb' 12 32) c e.source fl e.code (e.data.toNat % 2 ^ 16) s1).link) :
      t.jr.entries.head?.map (fun x => (x.seq, x.source, x.code)) = some (s.jr.next, e.source, e.code) ∧
        t.jr.next = (s.jr.next + 1) % 2 ^ 32 ∧ t.link = s.link := by
    rw [ht, hl, journal_jr, journal_link, hs1.1, hs1.2]
    exact ⟨rfl, rfl, rfl⟩
  split
  · exact hjr _ edgeEvent_jr edgeEvent_link
  · exact hjr _ rfl rfl

/-- A fragment of the answer that is not its last one. -/
theorem selvFragment_more {req frag flags length : Nat} {data : List Byte} (hbusy : s.selv.busy = some req) (hflags : flags % 2 = 0) :
    selvFragment req frag flags length data s = { s with selv.frags := setBytes (16 * frag) (data.take length) s.selv.frags } := by
  unfold selvFragment
  rw [if_neg (not_not.2 hbusy), if_neg (by omega)]

/-! ### The answer to a read of one word of a PCIe agent -/

theorem completeRead_pcie {tag addr k : Nat} {data : List Word} (hreads : s.link.reads = [⟨tag, addr, 1, .pcie k⟩])
    (hgathers : s.link.gathers = [⟨k, [(addr, none)]⟩]) (hk : k ≠ svcTag) : completeRead tag 0 data s =
      emit (.pcie k [data.getD 0 0]) { s with link := { s.link with reads := [], gathers := [] } } := by
  have hfind : s.link.reads.find? (·.tag == tag) = some ⟨tag, addr, 1, .pcie k⟩ := by simp [hreads]
  have hrest : s.link.reads.filter (·.tag != tag) = [] := by simp [hreads]
  have hgather : s.link.gathers.find? (·.tag == k) = some ⟨k, [(addr, none)]⟩ := by simp [hgathers]
  have hnone : s.link.gathers.filter (·.tag != k) = [] := by simp [hgathers]
  unfold completeRead
  simp only [hfind, hrest, if_true]
  unfold takeRead fillGather
  simp [hgather, hnone, hk]

end

/-- Settles O15. -/
theorem framesInSequence : Obligations.FramesInSequence := by
  unfold Obligations.FramesInSequence
  intro s hinv
  have hs := canon_of_inv hinv
  refine ⟨?_, ?_, ?_, ?_, ?_, ?_, ?_⟩
  · intro ch addr tag count agent hup hch hrx hheld hsvc
    obtain ⟨-, -, -, -, -, -, haccess, -⟩ := taken_parts (s := s.silent) (toH := false) (ch := ch)
    refine does_receive (toH := false) rfl hsvc hup hch hrx hheld rfl fun he => ⟨?_, he⟩
    exact congrArg (· ++ [.readReq addr tag count agent]) haccess
  · intro ch addr data hup hch hrx hheld hsvc haddr
    obtain ⟨-, -, -, -, -, -, haccess, -⟩ := taken_parts (s := s.silent) (toH := false) (ch := ch)
    have hdeliver : deliver false (.postedWr addr data) (taken false ch s.silent) = { taken false ch s.silent with
        link.access := (taken false ch s.silent).link.access ++ [.postedWr addr data] } := if_neg haddr
    refine does_receive (p := .postedWr addr data) rfl hsvc hup hch hrx hheld ?_ ?_
    · rw [hdeliver]
      rfl
    · rw [hdeliver]
      exact fun he => ⟨congrArg (· ++ [.postedWr addr data]) haccess, he⟩
  · intro ch addr data hup hch hrx hheld hsvc
    obtain ⟨-, -, hhost, -, -, -, -, harrived, -, -, hswarp⟩ := taken_parts (s := s.silent) (toH := false) (ch := ch)
    refine does_receive (toH := false) (p := .stagedWr addr data) rfl hsvc hup hch hrx hheld rfl fun he => ⟨?_, ?_, he⟩
    · rw [show swarp s = swarp (taken false ch s.silent) from hswarp.symm]
      exact congrArg (· ++ data.zipIdx.map fun x => (addr + 4 * x.2, x.1, swarp (taken false ch s.silent))) harrived
    · exact congrArg (·.staged.drop data.length) hhost
  · intro ch off len xfer data hup hch hrx hheld hsvc hlen
    obtain ⟨hregs, -, -, hwarden, -⟩ := taken_parts (s := s.silent) (toH := false) (ch := ch)
    have hc : Canon (taken false ch s.silent) := by
      unfold Canon
      rwa [hregs]
    have hstored : (wardenBulk off (data.take len) (taken false ch s.silent)).warden.stby = setBytes off (data.take len) s.warden.stby ∧
        (wardenBulk off (data.take len) (taken false ch s.silent)).get WARDEN_STAT_STBY = 1 ∧
        (wardenBulk off (data.take len) (taken false ch s.silent)).link = (taken false ch s.silent).link := by
      rw [← show (taken false ch s.silent).warden.stby = s.warden.stby from congrArg (·.stby) hwarden]
      generalize taken false ch s.silent = t at hc ⊢
      unfold wardenBulk
      rw [if_neg (by omega)]
      refine ⟨rfl, ?_, rfl⟩
      exact (get_of_regs (s := (t.put WARDEN_STAT_STBY 1).put WARDEN_FWSTBYV_VER 0) rfl _).trans
        ((get_put_ne (f := WARDEN_FWSTBYV_VER) _ (by decide) 0).trans (get_put_self hc (by decide) 1))
    have hdeliver : deliver false (.bulk off 2 len xfer data) (taken false ch s.silent) = wardenBulk off (data.take len) (taken false ch s.silent) := rfl
    obtain ⟨hstby, hstat, hlink⟩ := hstored
    refine does_receive (p := .bulk off 2 len xfer data) rfl hsvc hup hch hrx hheld ?_ ?_
    · rw [hdeliver]
      unfold dirTo
      rw [hlink]
    · rw [hdeliver]
      exact fun he => ⟨hstby, hstat, he⟩
  · intro ch e hup hch hrx hheld hsvc hrise hfall hsource
    obtain ⟨-, -, -, -, hjr, -⟩ := taken_parts (s := s.silent) (toH := true) (ch := ch)
    have hdeliver : deliver true (.event e) (taken true ch s.silent) = deliverEvent e (taken true ch s.silent) := rfl
    obtain ⟨hhead, hnext, hlink⟩ := deliverEvent_fields (s := taken true ch s.silent) hrise hfall
    rw [hjr] at hhead hnext
    refine does_receive (p := .event e) rfl hsvc hup hch hrx hheld ?_ ?_
    · rw [hdeliver]
      unfold dirTo
      rw [hlink]
    · rw [hdeliver]
      exact fun he => ⟨hhead, hnext, he⟩
  · intro ch req frag flags length data hup hch hrx hheld hsvc hbusy hflags
    obtain ⟨-, -, -, -, -, hselv, -⟩ := taken_parts (s := s.silent) (toH := true) (ch := ch)
    have hdeliver : deliver true (.selvFrag req frag flags length data) (taken true ch s.silent) = { taken true ch s.silent with
        selv.frags := setBytes (16 * frag) (data.take length) (taken true ch s.silent).selv.frags } :=
      selvFragment_more ((congrArg (·.busy) hselv).trans hbusy) hflags
    refine does_receive (p := .selvFrag req frag flags length data) rfl hsvc hup hch hrx hheld ?_ ?_
    · rw [hdeliver]
      rfl
    · rw [hdeliver]
      exact fun he => ⟨congrArg (fun v : Selv => setBytes (16 * frag) (data.take length) v.frags) hselv, he⟩
  · intro ch addr tag data k hup hch hrx hheld hsvc hreads hgathers hk
    obtain ⟨-, hout, -, -, -, -, -, -, hreads', hgathers', -⟩ := taken_parts (s := s.silent) (toH := true) (ch := ch)
    have hdeliver := completeRead_pcie (s := taken true ch s.silent) (data := data) (hreads'.trans hreads) (hgathers'.trans hgathers)
      (show k ≠ 256 by omega)
    refine does_receive (p := .readRsp addr tag 0 data) rfl hsvc hup hch hrx hheld ?_ ?_
    · exact (congrArg (dirTo true) hdeliver).trans rfl
    · have hP : (emit (.pcie k [data.getD 0 0]) { taken true ch s.silent with link := { (taken true ch s.silent).link with reads := [], gathers := [] } }).out =
          [.pcie k [data.getD 0 0]] := congrArg (· ++ [Out.pcie k [data.getD 0 0]]) (hout.trans (show s.silent.out = [] from rfl))
      exact (show deliver true (.readRsp addr tag 0 data) (taken true ch s.silent) = _ from hdeliver) ▸ fun he => ⟨hP, rfl, rfl, he⟩

end Sys2Proof.Machine
end

section
/-! PROOFS. The clock's sources, its edges and holdover, the armed seconds, the latches (R131–R138). -/

namespace Sys2Proof.Machine

set_option Elab.async false

section
variable {s : State}

/-! ### The source, the rate and the value of the clock -/

theorem setRate_fields {r : Rat} : (setRate r s).clk = { s.clk with rate := ratClamp (-200000) 200000 r } ∧ (setRate r s).free = s.free ∧
    (setRate r s).link = s.link ∧ (setRate r s).porter = s.porter := ⟨rfl, rfl, rfl, rfl⟩

theorem get_setRate {r : Rat} {f : Fld} (hf : f.addr ≠ TIME_RATE_RATE.addr) : (setRate r s).get f = s.get f := get_put_ne (f := TIME_RATE_RATE) _ hf _

theorem canon_setRate {r : Rat} (hs : Canon s) : Canon (setRate r s) := canon_stored hs

/-- What a change of the source of the clock leaves. -/
structure SourceSet (n : Nat) (s t : State) : Prop where
  canon : Canon t
  source : t.get TIME_STAT_SRC = n
  other : ∀ f : Fld, ¬ Loud f.addr → f.addr ≠ TIME_RATE_RATE.addr → (f.addr ≠ TIME_STAT_SRC.addr ∨ 2 ≤ f.lo) → t.get f = s.get f
  clock : n ≠ 0 → t.clk = s.clk
  porter : t.porter = s.porter

theorem setSrc_set {n : Nat} (hs : Canon s) (hn : n < 4) : SourceSet n s (setSrc n s) := by
  unfold setSrc
  extract_lets o s1
  have h1 : SourceSet n s s1 ∧ s1.clk = s.clk := by
    refine ⟨⟨by simp [s1, hs], ?_, ?_, by simp [s1], by simp [s1]⟩, by simp [s1]⟩
    · simp [s1, hs, Nat.mod_eq_of_lt hn]
    · intro f hquiet _ hdisjoint
      unfold s1
      rw [get_raiseH (by decide) hquiet, get_setEvt hquiet]
      exact get_put_disjoint (f := TIME_STAT_SRC) hs (by decide) (hdisjoint.imp_right fun h => .inr h) _
  clear_value s1
  obtain ⟨hset, hclk⟩ := h1
  split
  · next hold => exact ⟨hs, hold, fun _ _ _ _ => rfl, fun _ => rfl, rfl⟩
  · split
    · next hzero =>
      refine ⟨canon_setRate hset.canon, (get_setRate (by decide)).trans hset.source, fun f hquiet hrate hdisjoint => ?_, fun h => absurd hzero h,
        setRate_fields.2.2.2.trans hset.porter⟩
      exact (get_setRate hrate).trans (hset.other f hquiet hrate hdisjoint)
    · exact hset

theorem setSrc_none_rate (h : s.get TIME_STAT_SRC ≠ 0) : (setSrc 0 s).clk.rate = 0 := by
  unfold setSrc
  extract_lets o s1
  rw [if_neg h, if_pos rfl, setRate_fields.1]
  rfl

theorem setClock_fields {sec frac : Nat} : (setClock sec frac s).regs = s.regs ∧ (setClock sec frac s).clk.sec = sec ∧ (setClock sec frac s).clk.frac = frac ∧
    (setClock sec frac s).clk.ppsRun = s.clk.ppsRun ∧ (setClock sec frac s).clk.edgeAge = s.clk.edgeAge ∧
    (setClock sec frac s).porter = s.porter := ⟨rfl, rfl, rfl, rfl, rfl, rfl⟩

/-! ### Edges of the pulse (R134, R135) -/

/-- What the use of an edge as the source leaves (R135). -/
theorem usePps_fields (hs : Canon s) : (usePps s).get TIME_STAT_SRC = 2 ∧ (usePps s).get TIME_STAT_PPSOK = s.get TIME_STAT_PPSOK ∧
    (usePps s).clk.ppsRun = s.clk.ppsRun ∧ (usePps s).clk.edgeAge = s.clk.edgeAge := by
  unfold usePps
  extract_lets e sec s1 up s2 rf
  have h1 : Canon s1 ∧ s1.get TIME_STAT_SRC = 2 ∧ s1.get TIME_STAT_PPSOK = s.get TIME_STAT_PPSOK ∧ s1.clk = s.clk := by
    have hset := setSrc_set (s := s.putI TIME_PPSERR_ERR (clampInt (-(2 ^ 31 - 1)) (2 ^ 31 - 1) (lsb (sec * 1000000000)))) (n := 2)
      (canon_stored hs) (by decide)
    refine ⟨hset.canon, hset.source, ?_, hset.clock (by decide)⟩
    exact (hset.other TIME_STAT_PPSOK (by simp) (by decide) (.inr (by decide))).trans (get_put_ne (f := TIME_PPSERR_ERR) s (by decide) _)
  clear_value s1
  obtain ⟨hc, hsrc, hok, hclk⟩ := h1
  split
  · have h2 : s2.regs = s1.regs ∧ s2.clk.ppsRun = s1.clk.ppsRun ∧ s2.clk.edgeAge = s1.clk.edgeAge := ⟨rfl, rfl, rfl⟩
    clear_value s2
    obtain ⟨hregs, hrun, hage⟩ := h2
    refine ⟨?_, ?_, by simp [hrun, hclk], by simp [hage, hclk]⟩
    · simp [get_of_regs hregs, hsrc]
    · simp [get_of_regs hregs, hok]
  · have hrate (r : Rat) (t : State) (hregs : t.regs = s1.regs) (hrun : t.clk.ppsRun = s1.clk.ppsRun) (hage : t.clk.edgeAge = s1.clk.edgeAge) :
        (setRate r t).get TIME_STAT_SRC = 2 ∧ (setRate r t).get TIME_STAT_PPSOK = s.get TIME_STAT_PPSOK ∧
          (setRate r t).clk.ppsRun = s.clk.ppsRun ∧ (setRate r t).clk.edgeAge = s.clk.edgeAge := by
      rw [get_setRate (by decide), get_setRate (by decide), setRate_fields.1, get_of_regs hregs, get_of_regs hregs, hsrc, hok]
      exact ⟨rfl, rfl, hrun.trans (by rw [hclk]), hage.trans (by rw [hclk])⟩
    exact hrate _ _ rfl rfl rfl

theorem atlTrigger_fields {trig : Nat} : (atlTrigger trig s).regs = s.regs ∧ (atlTrigger trig s).clk = s.clk := by
  unfold atlTrigger
  split
  · exact ⟨rfl, rfl⟩
  · split <;> exact ⟨rfl, rfl⟩

/-- An edge within the window of the edge before it (R134). -/
def acceptEdge (s : State) : State :=
  let s3 := ({ s with clk.ppsRun := s.clk.ppsRun + 1 }.put TIME_STAT_PPSOK 1).count TIME_PPSCNT_COUNT
  let s4 := if 2 ≤ s3.clk.ppsRun then usePps s3 else s3
  if s4.flag TIME_ATLCTL_PPSATL then atlTrigger 1 s4 else s4

theorem acceptEdge_fields (hs : Canon s) : (acceptEdge s).get TIME_STAT_PPSOK = 1 ∧ (acceptEdge s).clk.ppsRun = s.clk.ppsRun + 1 ∧
    (acceptEdge s).clk.edgeAge = s.clk.edgeAge ∧ (1 ≤ s.clk.ppsRun → (acceptEdge s).get TIME_STAT_SRC = 2) := by
  unfold acceptEdge
  extract_lets p s3 s4
  have h3 : Canon s3 ∧ s3.get TIME_STAT_PPSOK = 1 ∧ s3.clk.ppsRun = s.clk.ppsRun + 1 ∧ s3.clk.edgeAge = s.clk.edgeAge :=
    ⟨canon_stored (canon_stored hs), (get_put_ne (f := TIME_PPSCNT_COUNT) _ (by decide) _).trans (get_put_self (f := TIME_STAT_PPSOK) hs (by decide) 1),
      rfl, rfl⟩
  obtain ⟨hc3, hok3, hrun3, hage3⟩ := h3
  have h4 : s4.get TIME_STAT_PPSOK = 1 ∧ s4.clk.ppsRun = s.clk.ppsRun + 1 ∧ s4.clk.edgeAge = s.clk.edgeAge ∧
      (1 ≤ s.clk.ppsRun → s4.get TIME_STAT_SRC = 2) := by
    obtain ⟨hsrc, hok, hrun, hage⟩ := usePps_fields hc3
    unfold s4
    split
    · exact ⟨hok.trans hok3, hrun.trans hrun3, hage.trans hage3, fun _ => hsrc⟩
    · exact ⟨hok3, hrun3, hage3, fun h => by omega⟩
  clear_value s4
  split
  · rw [get_of_regs atlTrigger_fields.1, get_of_regs atlTrigger_fields.1, atlTrigger_fields.2]
    exact h4
  · exact h4

/-- A further entry of the retained journal leaves the porter's clock. -/
theorem retain_rtc {code data : Nat} : (retain code data s).porter.rtc = s.porter.rtc := by
  unfold retain
  split
  · rfl
  · extract_lets q fl es dn p s1 s2
    have h2 : s2.porter.rtc = s.porter.rtc := by
      unfold s2
      split <;> rfl
    exact h2

end

theorem bit_of_flag {s : State} {f : Fld} (hwd : f.wd = 1 := by rfl) : bit (s.flag f) = s.get f := by
  cases h : s.flag f with
  | true => exact (get_eq_one_of_flag h).symm
  | false => exact (get_eq_zero_of_flag hwd h).symm

theorem ratClamp_between {lo hi x : Rat} (h : lo ≤ hi) : lo ≤ ratClamp lo hi x ∧ ratClamp lo hi x ≤ hi := by
  unfold ratClamp ratMax ratMin
  split_ifs <;> constructor <;> linarith

/-- Settles O24. -/
theorem wallClock : Obligations.WallClock := by
  unfold Obligations.WallClock
  intro s hinv
  have hs := canon_of_inv hinv
  refine ⟨?_, ?_, ?_, ?_, ?_, ?_, ?_, ?_, ?_, ?_, ?_, ?_⟩
  · intro dt hen href
    refine does_run (x := execPpsEdge _ _) rfl ?_
    rw [if_neg (by simp [hen])]
    exact if_pos (by simp [href])
  · intro dt a hen href hage hlow hhigh
    refine doesWithin_run (fun t h => frame_execPpsEdge h) ?_
    rw [if_neg (by simp [hen])]
    extract_lets s1 age c s2 k inWin
    have hin : inWin = true := by simp [inWin, age, s1, clockAdvance, hage, hlow, hhigh]
    rw [if_neg (by simp [href]), if_neg (by simp [hin])]
    exact acceptEdge_fields (s := s2) hs
  · intro hsrc
    refine doesWithin_run (fun t h => frame_execPpsHoldover h) ?_
    rw [if_pos (by simpa using hsrc)]
    extract_lets p s1
    have hset := setSrc_set (s := s1) (n := 3) hs (by decide)
    have hclk : (setSrc 3 s1).clk = s1.clk := hset.clock (by decide)
    have h1 : s1.clk.ppsRef = false ∧ s1.clk.ppsRun = 0 ∧ s1.clk.rate = s.clk.rate := ⟨rfl, rfl, rfl⟩
    clear_value s1
    exact ⟨by simp [hset.source], by simp [hclk, h1], by simp [hclk, h1], by simp [hclk, h1]⟩
  · intro hsrc
    refine doesWithin_run (fun t h => frame_execPpsHoldmax h) ?_
    rw [if_pos (by simpa using hsrc)]
    cases hvalid : s.flag TIME_STAT_VALID with
    | true =>
      have hset := setSrc_set (s := s.silent) (n := 1) hs (by decide)
      rw [get_eq_one_of_flag hvalid, show s.silent.flag TIME_STAT_VALID = true from hvalid, if_pos rfl]
      exact ⟨hset.source, fun h => absurd h (by decide)⟩
    | false =>
      have hset := setSrc_set (s := s.silent) (n := 0) hs (by decide)
      rw [show s.silent.flag TIME_STAT_VALID = false from hvalid, if_neg (by decide)]
      refine ⟨hset.source.trans ?_, fun _ => setSrc_none_rate ?_⟩
      · exact (get_eq_zero_of_flag rfl hvalid).symm
      · rw [show s.silent.get TIME_STAT_SRC = 3 from hsrc]
        decide
  · intro err hsrc
    refine doesWithin_run (fun t h => frame_execRtcCompare (a0 := err) h) ?_
    rw [if_pos (by simpa using hsrc)]
    exact ⟨rfl, (ratClamp_between (by norm_num)).1, (ratClamp_between (by norm_num)).2, rfl⟩
  · intro hon
    refine does_run (x := execRtcRealign _) rfl ?_
    exact if_pos hon
  · intro elapsed
    refine doesWithin_run (fun t h => frame_execWallClockLoad h) ?_
    extract_lets r v p s1
    have h1 : Canon s1 ∧ s1.clk.sec = r ∧ s1.clk.frac = 0 ∧ s1.porter.rtc = r := ⟨hs, rfl, rfl, rfl⟩
    clear_value s1
    obtain ⟨hc, hsec, hfrac, hrtc⟩ := h1
    have hbit : bit v = s.get PORTER_STAT_RTCVALID := bit_of_flag
    refine ⟨hsec, hfrac, hrtc.trans hsec.symm, ?_, ?_⟩
    · rw [← hbit]
      simp [hc]
    · rw [← hbit]
      exact (get_put_self (f := TIME_STAT_SRC) (canon_stored hc) (by decide) _).trans (Nat.mod_eq_of_lt (by cases v <;> decide))
  · intro agent dt
    refine doesWithin_run (fun t h => frame_execSecLoRead h) ?_
    refine ⟨rfl, ?_, rfl⟩
    exact List.lookup_cons_self
  · refine doesWithin_run (fun t h => frame_execSetctlArm h) ?_
    exact ⟨rfl, get_put_self (f := TIME_STAT_SETPEND) hs (by decide) 1⟩
  · refine doesWithin_run (fun t h => frame_execSetctlCancel h) ?_
    exact ⟨rfl, get_put_self (f := TIME_STAT_SETPEND) hs (by decide) 0⟩
  · intro hpend
    refine doesWithin_run (fun t h => frame_execSecondsSet h) ?_
    rw [if_neg (by simp [hpend])]
    extract_lets n p s1 s2 s3 s4
    have h1 : Canon s1 ∧ s1.clk.sec = n ∧ s1.clk.frac = 0 ∧ s1.clk.setPend = false ∧ s1.porter.rtc = n ∧ s1.get TIME_STAT_SETPEND = 0 :=
      ⟨canon_stored hs, rfl, rfl, rfl, rfl, get_put_self (f := TIME_STAT_SETPEND) hs (by decide) 0⟩
    clear_value s1
    obtain ⟨hc1, hsec1, hfrac1, hpend1, hrtc1, hset1⟩ := h1
    have h2 : Canon s2 ∧ s2.clk = s1.clk ∧ s2.porter = s1.porter ∧ s2.get TIME_STAT_VALID = 1 ∧ s2.get PORTER_STAT_RTCVALID = 1 ∧
        s2.get TIME_STAT_SETPEND = 0 :=
      ⟨canon_stored (canon_stored hc1), rfl, rfl, by simp [s2, hc1], by simp [s2, hc1], by simp [s2, hc1, hset1]⟩
    clear_value s2
    obtain ⟨hc2, hclk2, hporter2, hvalid2, hrtc2, hset2⟩ := h2
    have h3 : s3.clk = s1.clk ∧ s3.porter = s1.porter ∧ s3.get TIME_STAT_VALID = 1 ∧ s3.get PORTER_STAT_RTCVALID = 1 ∧ s3.get TIME_STAT_SETPEND = 0 := by
      have hset := setSrc_set (s := s2) (n := 1) hc2 (by decide)
      unfold s3
      split
      · exact ⟨(hset.clock (by decide)).trans hclk2, hset.porter.trans hporter2, (hset.other _ (by simp) (by decide) (.inr (by decide))).trans hvalid2,
          (hset.other _ (by simp) (by decide) (.inl (by decide))).trans hrtc2, (hset.other _ (by simp) (by decide) (.inr (by decide))).trans hset2⟩
      · exact ⟨hclk2, hporter2, hvalid2, hrtc2, hset2⟩
    clear_value s3
    obtain ⟨hclk3, hporter3, hvalid3, hrtc3, hset3⟩ := h3
    have h4 : s4.clk = s1.clk ∧ s4.porter = s1.porter ∧ s4.get TIME_STAT_VALID = 1 ∧ s4.get PORTER_STAT_RTCVALID = 1 ∧ s4.get TIME_STAT_SETPEND = 0 :=
      ⟨hclk3, hporter3, (get_put_ne (f := pgseq 0x005) s3 (by decide) _).trans hvalid3, (get_put_ne (f := pgseq 0x005) s3 (by decide) _).trans hrtc3,
        (get_put_ne (f := pgseq 0x005) s3 (by decide) _).trans hset3⟩
    clear_value s4
    obtain ⟨hclk4, hporter4, hvalid4, hrtc4, hset4⟩ := h4
    have hclk : (retain 7 (n % 0x10000) (raiseH 4 3 (n % 0x10000) (setEvt 0x005 4 s4))).clk = s1.clk := by
      rw [show _ = _ from retain_same (x := .clk) (by decide)]
      simp [hclk4]
    rw [hclk, retain_rtc]
    exact ⟨hsec1, hfrac1, hpend1, by simp [hvalid4], by simp [hporter4, hrtc1, hsec1], by simp [hrtc4], by simp [hset4]⟩
  · intro hup hmarks
    refine doesWithin_run (fun t h => frame_execAtlGo h) ?_
    unfold atlTrigger
    rw [if_neg (by simp [hup]), if_neg (by simp [hmarks])]
    exact ⟨by simp [hmarks, frac32], rfl⟩

end Sys2Proof.Machine
end

section
/-! SUPPORT. The reed: an engine's state, its vote, its stop and the mode of its cluster (R213, R225, R226). -/

namespace Sys2Proof.Machine

set_option Elab.async false

section
variable {s : State} {k : Nat}

/-! ### The state of an engine -/

theorem setEngState_fields (hs : Canon s) (hk : k < 12) {n : Nat} (hn : n < 8) :
    (setEngState k n s).get (LOOM_STAT_STATE k) = n ∧ (setEngState k n s).get (REED_ENGST_STATE k) = n ∧ Canon (setEngState k n s) ∧
      ∀ f : Fld, (f.addr ≠ 0x44040 + 0x1000 * k ∨ 3 ≤ f.lo) → (f.addr ≠ 0x50080 + 4 * k ∨ 3 ≤ f.lo) →
        (setEngState k n s).get f = s.get f := by
  have h1 : Canon (s.put (LOOM_STAT_STATE k) n) := canon_stored hs
  refine ⟨?_, ?_, canon_stored h1, fun f ha hb => ?_⟩
  · calc (setEngState k n s).get (LOOM_STAT_STATE k)
      _ = (s.put (LOOM_STAT_STATE k) n).get (LOOM_STAT_STATE k) := get_put_ne (f := REED_ENGST_STATE k) _ (by dsimp only; omega) _
      _ = n % 2 ^ 3 := get_put_self hs (by dsimp only; decide) n
      _ = n := Nat.mod_eq_of_lt hn
  · exact (get_put_self (f := REED_ENGST_STATE k) h1 (by dsimp only; decide) n).trans (Nat.mod_eq_of_lt hn)
  · calc (setEngState k n s).get f
      _ = (s.put (LOOM_STAT_STATE k) n).get f := get_put_disjoint (f := REED_ENGST_STATE k) h1 (by dsimp only; decide) (hb.imp_right fun h => .inr h) n
      _ = s.get f := get_put_disjoint (f := LOOM_STAT_STATE k) hs (by dsimp only; decide) (ha.imp_right fun h => .inr h) n

/-! ### The voters of a cluster -/

theorem flag_of_three {c e : Nat} (h : (voters s c).length = 3) (he : e < 3) : s.flag (REED_ENGST_VOTE (3 * c + e)) = true :=
  List.length_filter_eq_length_iff.1 (h.trans List.length_range.symm) e (List.mem_range.2 he)

theorem length_voters_without {t : State} {c : Nat} (hc : c = k / 3) (h : ∀ e < 3, t.flag (REED_ENGST_VOTE (3 * c + e)) = decide (3 * c + e ≠ k)) :
    (voters t c).length = 2 := by
  have hv : voters t c = (List.range 3).filter fun e => decide (e ≠ k % 3) :=
    List.filter_congr fun e he => by
      rw [h e (List.mem_range.1 he), decide_eq_decide]
      omega
  rw [hv]
  have hm : k % 3 < 3 := Nat.mod_lt _ (by decide)
  interval_cases k % 3 <;> rfl

/-- An engine leaves the vote of a cluster of three: its cluster goes on with two (R225). -/
structure LeftVote (k : Nat) (s t : State) : Prop where
  vote : t.get (REED_ENGST_VOTE k) = 0
  mode : t.get (REED_CLST_MODE (k / 3)) = 2
  form : Canon t
  other : ∀ f : Fld, (f.addr ≠ 0x50080 + 4 * k ∨ f.lo + f.wd ≤ 3 ∨ 4 ≤ f.lo) →
    (f.addr ≠ 0x50050 + 4 * (k / 3) ∨ 6 ≤ f.lo) → t.get f = s.get f

theorem setVote_left (hs : Canon s) (hk : k < 12) (hmode : s.get (REED_CLST_MODE (k / 3)) = 1) (hthree : (voters s (k / 3)).length = 3) :
    LeftVote k s (setVote k false s) := by
  unfold setVote
  extract_lets c s1 s2 n m
  have h1 : Canon s1 := canon_stored hs
  have h2 : Canon s2 := canon_stored h1
  have hget1 : s1.get (REED_ENGST_VOTE k) = 0 := get_put_self (f := REED_ENGST_VOTE k) hs (by dsimp only; decide) 0
  have hother : ∀ f : Fld, (f.addr ≠ 0x50080 + 4 * k ∨ f.lo + f.wd ≤ 3 ∨ 4 ≤ f.lo) →
      (f.addr ≠ 0x50050 + 4 * c ∨ f.lo + f.wd ≤ 3 ∨ 6 ≤ f.lo) → s2.get f = s.get f := fun f ha hb =>
    (get_put_disjoint (f := REED_CLST_VOTE c) h1 (by dsimp only; decide) hb _).trans (get_put_disjoint (f := REED_ENGST_VOTE k) hs (by dsimp only; decide) ha _)
  have hvote : s2.get (REED_ENGST_VOTE k) = 0 :=
    (get_put_ne (f := REED_CLST_VOTE c) s1 (by dsimp only; omega) _).trans hget1
  have hm : m = 1 := (hother (REED_CLST_MODE c) (.inl (by dsimp only; omega)) (.inr (.inl (by dsimp only; decide)))).trans hmode
  have hn : n = 2 := by
    refine length_voters_without rfl fun e he => ?_
    by_cases heq : 3 * c + e = k
    · rw [heq]
      simp [State.flag, hvote]
    · have : s2.get (REED_ENGST_VOTE (3 * c + e)) = s.get (REED_ENGST_VOTE (3 * c + e)) :=
        hother _ (.inl (by dsimp only; omega)) (.inl (by dsimp only; omega))
      unfold State.flag
      rw [this, get_eq_one_of_flag (flag_of_three hthree he)]
      simp [heq]
  clear_value n m s2
  subst hn hm
  rw [if_neg (by decide), if_neg (by decide), if_neg (by decide)]
  exact
    { vote := (get_put_ne (f := REED_CLST_MODE c) s2 (by dsimp only; omega) 2).trans hvote
      mode := get_put_self (f := REED_CLST_MODE c) h2 (by dsimp only; decide) 2
      form := canon_stored h2
      other := fun f ha hb => (get_put_disjoint (f := REED_CLST_MODE c) h2 (by dsimp only; decide) (hb.imp_right fun h => .inr (by dsimp only; omega)) 2).trans
        (hother f ha (hb.imp_right fun h => .inr h)) }

/-! ### The record of a stop -/

theorem stopRecord_eq (hk : k < 12) (cause sub : Nat) (x : Option Attr) (late : Bool) (lc : Nat) : ∃ t, Within [0x44 + k] [] s t ∧
    stopRecord k cause sub x late lc s =
      raiseF (20 + k) 1 (cause + 16 * sub + 4096 * bit late) (setEvt (0x44 + k) (if cause = 8 then 0x10 else 1) (t.put (REED_ENGST_LASTCAUSE k) cause)) := by
  unfold stopRecord
  extract_lets bg e s1 s2 s3 s4 s5 s6 s7 xc s8
  have h1 : Within [0x44 + k] [] s s1 := within_count (within_putB (within_put (within_put (within_refl _ _ _))))
  have h2 : Within [0x44 + k] [] s s2 := within_putB (within_putB (within_put (within_putB (within_put h1))))
  have h3 : Within [0x44 + k] [] s s3 := within_put (within_put (within_putB (within_put (within_put h2))))
  have h4 : Within [0x44 + k] [] s s4 := within_putB (within_putB (within_put (within_putB h3)))
  have h5 : Within [0x44 + k] [] s s5 := within_put (within_put (within_put (within_put h4)))
  have h6 : Within [0x44 + k] [] s s6 := within_put (within_putB (within_put h5))
  have h7 : Within [0x44 + k] [] s s7 := within_put (within_put (within_put h6))
  have hloop : ∀ {t : State} {n : Nat} {l : List Loop} {y : List Nat}, n < 3 → Within [0x44 + k] [] s t → Within [0x44 + k] [] s (putLoop k n l y t) :=
    fun hn h => within_putB (within_put (within_put (within_put (within_put h))))
  exact ⟨_, hloop (by decide) (hloop (by decide) (hloop (by decide) h7)), rfl⟩

theorem stopRecord_keeps (hs : Canon s) (hk : k < 12) {cause sub lc : Nat} {x : Option Attr} {late : Bool} :
    Canon (stopRecord k cause sub x late lc s) ∧ ∀ f : Fld, ¬ Loud f.addr → f.addr < 0x100000 → pageOf f.addr ≠ 0x44 + k →
      (f.addr ≠ 0x50080 + 4 * k ∨ f.lo + f.wd ≤ 8 ∨ 12 ≤ f.lo) → (stopRecord k cause sub x late lc s).get f = s.get f := by
  obtain ⟨t, hwithin, heq⟩ := stopRecord_eq (s := s) hk cause sub x late lc
  have ht : Canon t := hwithin.wf hs
  rw [heq]
  refine ⟨(canon_raiseF.2 (.inl (canon_setEvt.2 (.inl (canon_stored ht))))), fun f hf hlow hpage hd => ?_⟩
  rw [get_raiseF hf, get_setEvt hf]
  refine (get_put_disjoint (f := REED_ENGST_LASTCAUSE k) ht (by dsimp only; decide) hd cause).trans (hwithin.get ?_)
  simp only [pageOf, List.mem_singleton] at hpage ⊢
  omega

/-- A voting engine of a cluster of three stops: it is flushing and out of the vote, and its cluster goes on with two (R225, R226). -/
structure StoppedVoter (k : Nat) (s t : State) : Prop where
  state : t.get (LOOM_STAT_STATE k) = 2
  vote : t.get (REED_ENGST_VOTE k) = 0
  mode : t.get (REED_CLST_MODE (k / 3)) = 2
  form : Canon t
  other : ∀ f : Fld, ¬ Loud f.addr → f.addr < 0x100000 → pageOf f.addr ≠ 0x44 + k → f.addr ≠ 0x50080 + 4 * k →
    f.addr ≠ 0x50050 + 4 * (k / 3) → t.get f = s.get f

theorem stopEngine_voter (hs : Canon s) (hk : k < 12) {cause sub lc : Nat} {x : Option Attr} {late : Bool} (hcause : cause ≠ 4)
    (hstate : s.get (LOOM_STAT_STATE k) = 1) (hmode : s.get (REED_CLST_MODE (k / 3)) = 1) (hrep : s.flag (REED_CLST_REP (k / 3)) = false)
    (hthree : (voters s (k / 3)).length = 3) : StoppedVoter k s (stopEngine k cause sub x late lc s) := by
  unfold stopEngine
  extract_lets st s1 c s2
  obtain ⟨hc1, hkeep⟩ := stopRecord_keeps (s := s) hs hk (cause := cause) (sub := sub) (x := x) (late := late) (lc := lc)
  have h1 : Canon s1 := hc1
  have hkeep1 : ∀ f : Fld, ¬ Loud f.addr → f.addr < 0x100000 → pageOf f.addr ≠ 0x44 + k →
      (f.addr ≠ 0x50080 + 4 * k ∨ f.lo + f.wd ≤ 8 ∨ 12 ≤ f.lo) → s1.get f = s.get f := hkeep
  have hst : st = 1 := hstate
  have hrep1 : s1.flag (REED_CLST_REP c) = false := by
    unfold State.flag
    rw [hkeep1 _ (by rw [loud_iff]; dsimp only; omega) (by dsimp only; omega) (by unfold pageOf; dsimp only; omega) (.inl (by dsimp only; omega))]
    exact hrep
  have h2 : s2 = s1 := if_neg (by simp [hrep1])
  clear_value s2 s1 st
  subst h2 hst
  rw [if_neg (by decide), if_neg (by decide), if_neg (by decide), if_neg hcause]
  obtain ⟨hstate3, -, h3, hkeep3⟩ := setEngState_fields h1 hk (n := 2) (by decide)
  have hreed : ∀ f : Fld, ¬ Loud f.addr → f.addr < 0x100000 → pageOf f.addr ≠ 0x44 + k →
      (f.addr ≠ 0x50080 + 4 * k ∨ f.lo + f.wd ≤ 8 ∧ 3 ≤ f.lo) → (setEngState k 2 s2).get f = s.get f := fun f hf hlow hpage hd =>
    (hkeep3 f (.inl (by unfold pageOf at hpage; omega)) (hd.imp_right And.right)).trans (hkeep1 f hf hlow hpage (hd.imp_right fun h => .inl h.1))
  have hmode3 : (setEngState k 2 s2).get (REED_CLST_MODE (k / 3)) = 1 :=
    (hreed _ (by rw [loud_iff]; dsimp only; omega) (by dsimp only; omega) (by unfold pageOf; dsimp only; omega) (.inl (by dsimp only; omega))).trans hmode
  have hthree3 : (voters (setEngState k 2 s2) (k / 3)).length = 3 := by
    refine Eq.trans (congrArg List.length (List.filter_congr fun e he => ?_)) hthree
    unfold State.flag
    rw [hreed _ (by have := List.mem_range.1 he; rw [loud_iff]; dsimp only; omega) (by have := List.mem_range.1 he; dsimp only; omega)
      (by have := List.mem_range.1 he; unfold pageOf; dsimp only; omega) (by have := List.mem_range.1 he; dsimp only; omega)]
  have hleft := setVote_left h3 hk hmode3 hthree3
  exact
    { state := (hleft.other _ (.inl (by dsimp only; omega)) (.inl (by dsimp only; omega))).trans hstate3
      vote := hleft.vote
      mode := hleft.mode
      form := hleft.form
      other := fun f hf hlow hpage ha hb => (hleft.other f (.inl ha) (.inl hb)).trans (hreed f hf hlow hpage (.inl ha)) }

end

end Sys2Proof.Machine
end

section
/-! PROOFS. Host commands for an engine or a reed half (R232, R233). -/

namespace Sys2Proof.Machine

set_option Elab.async false

section
variable {s : State} {e cmd : Nat} {half : Bool}

/-! ### The word of a command -/

theorem toNat_engctlWord (he : e < 16) (hcmd : cmd < 8) : (engctlWord e cmd half).toNat = e + 16 * cmd + 128 * bit half := by
  have hb : bit half < 2 := by cases half <;> decide
  unfold engctlWord word
  rw [BitVec.toNat_ofNat, Nat.mod_eq_of_lt he, Nat.mod_eq_of_lt (by omega)]

theorem engine_engctlWord (he : e < 16) (hcmd : cmd < 8) : bitsAt (engctlWord e cmd half).toNat 0 4 = e := by
  rw [toNat_engctlWord he hcmd]
  unfold bitsAt
  omega

theorem command_engctlWord (he : e < 16) (hcmd : cmd < 8) : bitsAt (engctlWord e cmd half).toNat 4 3 = cmd := by
  rw [toNat_engctlWord he hcmd]
  unfold bitsAt
  omega

theorem half_engctlWord (he : e < 16) (hcmd : cmd < 8) : (engctlWord e cmd half).getLsbD 7 = half := by
  rw [← BitVec.testBit_toNat, toNat_engctlWord he hcmd, Nat.testBit_eq_decide_div_mod_eq]
  cases half <;> simp [bit] <;> omega

/-! ### A write of a command that Table 7-8 defines -/

theorem engctlWrite_fields (hs : Canon s) (he : e < 16) (hcmd : 0 < cmd ∧ cmd ≤ 4) (heng : cmd = 4 ∨ e < 12) :
    (engctlWrite (engctlWord e cmd half) s).warden.engctl = some (engctlWord e cmd half) ∧
      (engctlWrite (engctlWord e cmd half) s).get REED_ENGCTL_ENG = e ∧ (engctlWrite (engctlWord e cmd half) s).get REED_ENGCTL_HALF = bit half ∧
      (engctlWrite (engctlWord e cmd half) s).out = s.out := by
  have hhigh : (engctlWord e cmd half).toNat / 2 ^ 8 = 0 := by
    have hb : bit half < 2 := by cases half <;> decide
    rw [toNat_engctlWord he (by omega)]
    omega
  unfold engctlWrite
  rw [command_engctlWord he (by omega), engine_engctlWord he (by omega), half_engctlWord he (by omega)]
  extract_lets a c s1
  have h1 : s1 = s := if_pos hhigh
  clear_value s1
  subst h1
  rw [if_neg (by simp [c]; omega)]
  refine ⟨rfl, ?_, get_putB_self (f := REED_ENGCTL_HALF) (canon_stored hs) (by decide) rfl, rfl⟩
  calc _ = (s1.put REED_ENGCTL_ENG e).get REED_ENGCTL_ENG := get_put_disjoint (f := REED_ENGCTL_HALF) (canon_stored hs) (by decide) (.inr (.inl (by decide))) _
    _ = e := (get_put_self hs (by decide) e).trans (Nat.mod_eq_of_lt he)

/-! ### The command at the pick boundary -/

/-- The state whose command has been taken. -/
def engctlTaken (s : State) : State := { s with warden.engctl := none }

theorem engctlApply_hold (hw : s.warden.engctl = some (engctlWord e 1 false)) (he : e < 12) (hmode : s.get (REED_CLST_MODE (e / 3)) = 1)
    (hrep : s.flag (REED_CLST_REP (e / 3)) = false) (hfb : s.flag WEAVE_STAT_FB = false) (hvote : s.flag (REED_ENGST_VOTE e) = true) :
    engctlApply s = raiseF 17 0xB (e / 3 + 4 * (e % 3) + 16)
      ((stopEngine e 7 0 none false (engAt (engctlTaken s) e).lc (engctlTaken s)).put (REED_ENGST_HELD e) 1) := by
  unfold engctlApply
  rw [hw]
  dsimp only
  rw [command_engctlWord (by omega) (by decide), engine_engctlWord (by omega) (by decide), if_pos rfl]
  exact if_pos (by simp [hmode, hrep, hfb, hvote])

theorem engctlApply_release (hw : s.warden.engctl = some (engctlWord e 2 false)) (he : e < 12) (hheld : s.flag (REED_ENGST_HELD e) = true) :
    engctlApply s = raiseF 17 0xB (e / 3 + 4 * (e % 3)) ((engctlTaken s).put (REED_ENGST_HELD e) 0) := by
  unfold engctlApply
  rw [hw]
  dsimp only
  rw [command_engctlWord (by omega) (by decide), engine_engctlWord (by omega) (by decide), if_neg (by decide), if_pos rfl]
  exact if_pos hheld

theorem engctlApply_repair (hw : s.warden.engctl = some (engctlWord e 3 false)) (he : e < 12) (hstate : s.get (LOOM_STAT_STATE e) = 3) :
    engctlApply s = { (((engctlTaken s).put (REED_ENGST_RETIRED e) 0).put (REED_ENGST_HELD e) 0).put (REED_ENGST_FAILS e) 0 with
      warden := { s.warden with engctl := none, repReq := s.warden.repReq.set e true } } := by
  unfold engctlApply
  rw [hw]
  dsimp only
  rw [command_engctlWord (by omega) (by decide), engine_engctlWord (by omega) (by decide), if_neg (by decide), if_neg (by decide), if_pos rfl]
  exact if_pos hstate

theorem engine_of_word {cmd : Nat} (he : e < 12) (hcmd : cmd < 8) (hw : s.warden.engctl = some (engctlWord e cmd half)) :
    ∀ w, s.warden.engctl = some w → bitsAt w.toNat 0 4 < 12 := by
  rintro w h
  rw [Option.some.inj (h.symm.trans hw), engine_engctlWord (by omega) hcmd]
  exact he

end

/-- Settles O29. -/
theorem engineCommands : Obligations.EngineCommands := by
  unfold Obligations.EngineCommands
  intro s hinv
  have hs := canon_of_inv hinv
  refine ⟨?_, ?_, ?_, ?_, ?_, ?_, ?_⟩
  · intro e he
    obtain ⟨hword, heng, hhalf, hout⟩ := engctlWrite_fields (s := s.silent) (half := false) hs (show e < 16 by omega) (cmd := 1) (by decide) (.inr he)
    refine doesWithin_run (fun t h => frame_execHold h) ?_
    exact ⟨hword, heng, hhalf, hout⟩
  · intro e he
    obtain ⟨hword, heng, -, hout⟩ := engctlWrite_fields (s := s.silent) (half := false) hs (show e < 16 by omega) (cmd := 2) (by decide) (.inr he)
    refine doesWithin_run (fun t h => frame_execRelease h) ?_
    exact ⟨hword, heng, hout⟩
  · intro e he
    obtain ⟨hword, heng, -, hout⟩ := engctlWrite_fields (s := s.silent) (half := false) hs (show e < 16 by omega) (cmd := 3) (by decide) (.inr he)
    refine doesWithin_run (fun t h => frame_execRepair h) ?_
    exact ⟨hword, heng, hout⟩
  · intro c half hc
    obtain ⟨hword, -, hhalf, hout⟩ := engctlWrite_fields (s := s.silent) (half := half) hs (show 4 * c < 16 by omega) (cmd := 4) (by decide) (.inl rfl)
    refine doesWithin_run (fun t h => frame_execHalfretry h) ?_
    exact ⟨hword, hhalf, hout⟩
  · intro e he hw hheld
    refine doesWithin_run (fun t h => (frame_execEngctlApply (engine_of_word he (by decide) hw) h).mono (by decide) (by decide)) ?_
    rw [engctlApply_release (s := s.silent) hw he hheld]
    refine ⟨(get_raiseF (by rw [loud_iff]; dsimp only; omega)).trans ?_, by simp [engctlTaken]⟩
    exact get_put_self (s := engctlTaken s.silent) (f := REED_ENGST_HELD e) hs (by dsimp only; decide) 0
  · intro e he hw hstate hlen
    refine doesWithin_run (fun t h => (frame_execEngctlApply (engine_of_word he (by decide) hw) h).mono (by decide) (by decide)) ?_
    rw [engctlApply_repair (s := s.silent) hw he hstate]
    have h0 : Canon (engctlTaken s.silent) := hs
    simp [h0, hlen]
  · intro e he hw hmode hthree hrep hfb hvote hstate
    refine doesWithin_run (fun t h => (frame_execEngctlApply (engine_of_word he (by decide) hw) h).mono (by decide) (by decide)) ?_
    rw [engctlApply_hold (s := s.silent) hw he hmode hrep hfb hvote]
    have hstop := stopEngine_voter (s := engctlTaken s.silent) (k := e) (cause := 7) (sub := 0) (x := none) (late := false) (lc := (engAt (engctlTaken s.silent) e).lc)
      hs he (by decide) hstate hmode hrep hthree
    generalize stopEngine e 7 0 none false (engAt (engctlTaken s.silent) e).lc (engctlTaken s.silent) = t at *
    refine ⟨(get_raiseF (by rw [loud_iff]; dsimp only; omega)).trans ?_, (get_raiseF (by rw [loud_iff]; dsimp only; omega)).trans ?_,
      (get_raiseF (by rw [loud_iff]; dsimp only; omega)).trans ?_, (get_raiseF (by rw [loud_iff]; dsimp only; omega)).trans ?_⟩
    · exact get_put_self (f := REED_ENGST_HELD e) hstop.form (by dsimp only; decide) 1
    · exact (get_put_ne (f := REED_ENGST_HELD e) t (by dsimp only; omega) 1).trans hstop.state
    · exact (get_put_disjoint (f := REED_ENGST_HELD e) hstop.form (by dsimp only; decide) (.inr (.inl (by dsimp only; decide))) 1).trans hstop.vote
    · exact (get_put_ne (f := REED_ENGST_HELD e) t (by dsimp only; omega) 1).trans hstop.mode

end Sys2Proof.Machine
end

section
/-! PROOFS. The warden: its starts and restarts, its audit, its queue and its firmware (R238, R239, R240, R250). -/

namespace Sys2Proof.Machine

set_option Elab.async false

section
variable {s : State}

/-! ### The minority of a vote (R224, R226) -/

/-- The engine that is found in the minority, with the register that names it. -/
structure Outvoted (k : Nat) (aud : Bool) (s t : State) : Prop where
  state : t.get (LOOM_STAT_STATE k) = 2
  mode : t.get (REED_CLST_MODE (k / 3)) = 2
  audit : t.get REED_LASTMIS_AUD = bit aud
  engine : t.get REED_LASTMIS_ENG = k % 3
  other : ∀ f : Fld, ¬ Loud f.addr → f.addr < 0x100000 → pageOf f.addr ≠ 0x44 + k → pageOf f.addr ≠ 0x50 → t.get f = s.get f

theorem minority_voter (hs : Canon s) {k kind lc : Nat} {aud : Bool} (hk : k < 12) (hstate : s.get (LOOM_STAT_STATE k) = 1)
    (hmode : s.get (REED_CLST_MODE (k / 3)) = 1) (hrep : s.flag (REED_CLST_REP (k / 3)) = false) (hthree : (voters s (k / 3)).length = 3) :
    Outvoted k aud s (minority k kind lc aud s) := by
  unfold minority
  extract_lets c e s1 s2 s3
  have h0 : Canon (s.put REED_LASTMIS_CLUSTER c) := canon_stored hs
  have h0' : Canon ((s.put REED_LASTMIS_CLUSTER c).put REED_LASTMIS_ENG e) := canon_stored h0
  have h1 : Canon s1 := canon_stored h0'
  have h1' : Canon (s1.putB REED_LASTMIS_AUD aud) := canon_stored h1
  have h1'' : Canon ((s1.putB REED_LASTMIS_AUD aud).put REED_LASTMIS_LC lc) := canon_stored h1'
  have h2 : Canon s2 := canon_stored h1''
  have h2' : Canon (s2.count (REED_MINCNT_COUNT c)) := canon_stored h2
  have heng1 : s1.get REED_LASTMIS_ENG = e := (get_put_disjoint (f := REED_LASTMIS_KIND) h0' (by decide) (.inr (.inl (by decide))) _).trans
    ((get_put_self (f := REED_LASTMIS_ENG) h0 (by decide) e).trans (Nat.mod_eq_of_lt (Nat.lt_trans (Nat.mod_lt k (by decide)) (by decide))))
  have heng2 : s2.get REED_LASTMIS_ENG = e := (get_put_ne (f := REED_LASTMISW_SWARP) _ (by decide) _).trans
    ((get_put_disjoint (f := REED_LASTMIS_LC) h1' (by decide) (.inr (.inl (by decide))) lc).trans
      ((get_put_disjoint (f := REED_LASTMIS_AUD) h1 (by decide) (.inr (.inl (by decide))) _).trans heng1))
  have haud2 : s2.get REED_LASTMIS_AUD = bit aud := (get_put_ne (f := REED_LASTMISW_SWARP) _ (by decide) _).trans
    ((get_put_disjoint (f := REED_LASTMIS_LC) h1' (by decide) (.inr (.inl (by decide))) lc).trans (get_putB_self (f := REED_LASTMIS_AUD) h1 (by decide) rfl))
  have hkeep2 : ∀ f : Fld, f.addr ≠ 0x50048 → f.addr ≠ 0x5004C → s2.get f = s.get f := fun f ha hb =>
    (get_put_ne (f := REED_LASTMISW_SWARP) _ hb _).trans ((get_put_ne (f := REED_LASTMIS_LC) _ ha _).trans ((get_put_ne (f := REED_LASTMIS_AUD) _ ha _).trans
      ((get_put_ne (f := REED_LASTMIS_KIND) _ ha _).trans ((get_put_ne (f := REED_LASTMIS_ENG) _ ha _).trans (get_put_ne (f := REED_LASTMIS_CLUSTER) _ ha _)))))
  have hkeep3 : ∀ f : Fld, f.addr ≠ 0x50060 + 4 * c → (f.addr ≠ 0x50050 + 4 * c ∨ f.lo + f.wd ≤ 16) → s3.get f = s2.get f := fun f ha hb =>
    (get_put_disjoint (f := REED_CLST_MIN c) h2' (by dsimp only; decide) (hb.imp_right .inl) _).trans (get_put_ne (f := REED_MINCNT_COUNT c) s2 ha _)
  have h3 : Canon s3 := canon_stored h2'
  clear_value s2 s3
  have hc : c = k / 3 := rfl
  have hevent : ∀ {bitNo code data : Nat} {f : Fld}, ¬ Loud f.addr → (reedEvent bitNo code data s3).get f = s3.get f :=
    fun hf => (get_raiseF hf).trans (get_setEvt hf)
  have hcanon : ∀ {bitNo code data : Nat}, Canon (reedEvent bitNo code data s3) := canon_raiseF.2 (.inl (canon_setEvt.2 (.inl h3)))
  have hall : ∀ {bitNo code data : Nat} {f : Fld}, ¬ Loud f.addr → f.addr ≠ 0x50048 → f.addr ≠ 0x5004C → f.addr ≠ 0x50060 + 4 * c →
      (f.addr ≠ 0x50050 + 4 * c ∨ f.lo + f.wd ≤ 16) → (reedEvent bitNo code data s3).get f = s.get f :=
    fun hf ha hb hd he => (hevent hf).trans ((hkeep3 _ hd he).trans (hkeep2 _ ha hb))
  have hstop := stopEngine_voter (s := reedEvent 0 1 (c + 4 * e + 16 * kind + 128 * bit aud) s3) (k := k) (cause := 7) (sub := 0) (x := none)
    (late := false) (lc := (engAt s k).lc) hcanon hk (by decide)
    ((hall (by rw [loud_iff]; dsimp only; omega) (by dsimp only; omega) (by dsimp only; omega) (by dsimp only; omega) (by dsimp only; omega)).trans hstate)
    ((hall (by rw [loud_iff]; dsimp only; omega) (by dsimp only; omega) (by dsimp only; omega) (by dsimp only; omega) (by dsimp only; omega)).trans hmode)
    (by unfold State.flag
        rw [hall (by rw [loud_iff]; dsimp only; omega) (by dsimp only; omega) (by dsimp only; omega) (by dsimp only; omega) (by dsimp only; omega)]
        exact hrep)
    (by refine Eq.trans (congrArg List.length (List.filter_congr fun x hx => ?_)) hthree
        have hx := List.mem_range.1 hx
        unfold State.flag
        rw [hall (by rw [loud_iff]; dsimp only; omega) (by dsimp only; omega) (by dsimp only; omega) (by dsimp only; omega) (by dsimp only; omega)])
  exact
    { state := hstop.state
      mode := hstop.mode
      audit := (hstop.other _ (by simp) (by decide) (by unfold pageOf; dsimp only; omega) (by dsimp only; omega) (by dsimp only; omega)).trans
        ((hevent (by simp)).trans ((hkeep3 _ (by dsimp only; omega) (.inl (by dsimp only; omega))).trans haud2))
      engine := (hstop.other _ (by simp) (by decide) (by unfold pageOf; dsimp only; omega) (by dsimp only; omega) (by dsimp only; omega)).trans
        ((hevent (by simp)).trans ((hkeep3 _ (by dsimp only; omega) (.inl (by dsimp only; omega))).trans heng2))
      other := fun f hf hlow ha hb => by
        unfold pageOf at hb
        exact (hstop.other f hf hlow ha (by omega) (by omega)).trans (hall hf (by omega) (by omega) (by omega) (.inl (by omega))) }

/-! ### The audit (R239) -/

theorem auditCount_keeps (hs : Canon s) (c n : Nat) : Canon (auditCount c n s) ∧
    ∀ f : Fld, (f.addr ≠ WARDEN_AUDIT_PASSES.addr ∨ 16 ≤ f.lo) → (auditCount c n s).get f = s.get f := by
  unfold auditCount
  extract_lets a p s1
  have h1 : Canon s1 := hs
  split
  · exact ⟨canon_stored h1, fun f hf => get_put_disjoint (f := WARDEN_AUDIT_PASSES) h1 (by decide) (hf.imp_right .inr) _⟩
  · exact ⟨h1, fun f _ => rfl⟩

/-! ### Its restart and its firmware (R238, R250) -/

theorem wardenRestart_fields (hs : Canon s) (cause : Nat) :
    (wardenRestart cause s).get WARDEN_STAT_STATE = 2 ∧
      (wardenRestart cause s).get WARDEN_STAT_RESTARTS = min (s.get WARDEN_STAT_RESTARTS + 1) (2 ^ WARDEN_STAT_RESTARTS.wd - 1) ∧
      (wardenRestart cause s).warden = s.warden ∧ Canon (wardenRestart cause s) ∧
      ∀ f : Fld, ¬ Loud f.addr → (f.addr ≠ WARDEN_STAT_STATE.addr ∨ 2 ≤ f.lo ∧ f.lo + f.wd ≤ 16) → (wardenRestart cause s).get f = s.get f := by
  have h1 : Canon (s.put WARDEN_STAT_STATE 2) := canon_stored hs
  unfold wardenRestart
  refine ⟨by simp [hs], by simp [hs], by simp, by simp [hs], fun f hf hd => ?_⟩
  rw [get_raiseF hf, get_setEvt hf]
  exact (get_put_disjoint (f := WARDEN_STAT_RESTARTS) h1 (by decide) (hd.imp_right fun h => .inl h.2) _).trans
    (get_put_disjoint (f := WARDEN_STAT_STATE) hs (by decide) (hd.imp_right fun h => .inr h.1) 2)

/-- The standby firmware comes into force (R250). -/
def takeStandby (s : State) : State :=
  (({ s.put WARDEN_FWVER_VER s.warden.stbyVer with warden := { s.warden with svn := s.warden.stbySvn, stby := [] } }).put WARDEN_STAT_STBY 0).put
    WARDEN_FWSTBYV_VER 0

theorem wardenFwctlWrite_activate (hstby : s.get WARDEN_STAT_STBY = 2) : wardenFwctlWrite 2 s = wardenRestart 3 (takeStandby s) := by
  unfold wardenFwctlWrite
  rw [hstby]
  rfl

end

/-- Settles O30. -/
theorem wardenWork : Obligations.WardenWork := by
  unfold Obligations.WardenWork
  intro s hinv
  have hs := canon_of_inv hinv
  refine ⟨?_, ?_, ?_, ?_, ?_, ?_, ?_, ?_, ?_, ?_, ?_⟩
  · intro hstate
    refine doesWithin_run (fun t h => (frame_execWardenStart h).mono (by decide) (by decide)) ?_
    rw [if_pos (by simp [hstate])]
    have hwithin : Within ([0x02, 0x09, 0x51, 0x100] ++ ringPages) [.link, .intc, .cells, .ring, .twin, .edge] (s.silent.put WARDEN_STAT_STATE 1)
      (enumAdvance (s.silent.put WARDEN_STAT_STATE 1)) := within_enumAdvance (within_refl _ _ _)
    exact (hwithin.get (by decide)).trans (get_put_self (f := WARDEN_STAT_STATE) (s := s.silent) hs (by decide) 1)
  · intro hruns
    refine doesWithin_run (fun t h => frame_execWardenRestart h) ?_
    obtain ⟨hstate, hcount, hw, -⟩ := wardenRestart_fields (s := s.silent) hs 1
    rw [show wardenRuns s.silent = true from hruns, if_pos rfl]
    exact ⟨hstate, hcount, hw⟩
  · intro hruns
    refine doesWithin_run (fun t h => frame_execWardenWatchdog h) ?_
    obtain ⟨hstate, hcount, hw, -⟩ := wardenRestart_fields (s := s.silent) hs 2
    rw [show wardenRuns s.silent = true from hruns, if_pos rfl]
    exact ⟨hstate, hcount, hw⟩
  · intro c n hc hn hmode hruns htime h01 h12
    refine does_run (x := execAuditBlock _ _ _) rfl ?_
    rw [if_neg (by simp [hmode, hc, hn, show wardenRuns s.silent = true from hruns, show auditTime s.silent c = true from htime])]
    extract_lets v mis s1
    rw [if_pos (show v 0 = v 1 from congrArg blockCrc h01), if_pos (show v 1 = v 2 from congrArg blockCrc h12)]
  · intro c n hc hn hmode hruns htime h01 h12 hstate hthree hrep
    refine doesWithin_run (fun t h => (frame_execAuditBlock hc h).mono (by decide) (by decide)) ?_
    rw [if_neg (by simp [hmode, hc, hn, show wardenRuns s.silent = true from hruns, show auditTime s.silent c = true from htime])]
    extract_lets v mis s1
    rw [if_pos (show v 0 = v 1 from h01), if_neg (show ¬ v 1 = v 2 from h12)]
    obtain ⟨hc1, hkeep1⟩ := auditCount_keeps (s := s.silent) hs c n
    have hcluster : (3 * c + 2) / 3 = c := by omega
    have hmis : Canon (mis s1) := canon_setEvt.2 (.inl (canon_stored hc1))
    have hcount : (mis s1).get WARDEN_AUDIT_MIS = min (s.get WARDEN_AUDIT_MIS + 1) (2 ^ WARDEN_AUDIT_MIS.wd - 1) := by
      refine (get_setEvt (by simp)).trans ((get_count_self (f := WARDEN_AUDIT_MIS) hc1 (by decide)).trans ?_)
      rw [hkeep1 _ (.inr (by decide))]
      rfl
    have hkeep : ∀ f : Fld, ¬ Loud f.addr → f.addr ≠ WARDEN_AUDIT_MIS.addr → (mis s1).get f = s.get f := fun f hf hd =>
      (get_setEvt hf).trans ((get_put_ne (f := WARDEN_AUDIT_MIS) s1 hd _).trans (hkeep1 f (.inl hd)))
    clear_value s1 mis
    have hout := minority_voter (kind := 0) (lc := 0) (aud := true) hmis (k := 3 * c + 2) (by omega)
      ((hkeep _ (by rw [loud_iff]; dsimp only; omega) (by dsimp only; omega)).trans hstate)
      ((hkeep _ (by rw [loud_iff]; dsimp only; omega) (by dsimp only; omega)).trans (by rw [hcluster]; exact hmode))
      (by rw [hcluster]
          unfold State.flag
          rw [hkeep _ (by rw [loud_iff]; dsimp only; omega) (by dsimp only; omega)]
          exact hrep)
      (by rw [hcluster]
          refine Eq.trans (congrArg List.length (List.filter_congr fun x hx => ?_)) hthree
          have hx := List.mem_range.1 hx
          unfold State.flag
          rw [hkeep _ (by rw [loud_iff]; dsimp only; omega) (by dsimp only; omega)])
    have htwo := hout.mode
    rw [hcluster] at htwo
    refine ⟨hout.state, htwo, ?_, hout.audit, hout.engine.trans (by omega)⟩
    exact (hout.other _ (by simp) (by decide) (by unfold pageOf; dsimp only; omega) (by decide)).trans hcount
  · intro writes n q hruns hirq
    refine doesWithin_run (fun t h => frame_execWardenIrqTake (a0 := writes) h) ?_
    rw [if_pos (by simp [hirq, show wardenRuns s.silent = true from hruns])]
    refine ⟨by simp [hirq], ?_, rfl⟩
    refine (get_put_self (f := WARDEN_STAT_IRQQ) (s := s.silent) hs (by decide) _).trans ?_
    simp [hirq]
  · intro writes hruns hirq
    refine does_run (x := execWardenIrqTake _ _) rfl ?_
    exact if_neg (by simp [hirq])
  · intro hstby
    refine does_run (x := execWardenFwVerify _) rfl ?_
    unfold wardenFwctlWrite
    rw [show s.silent.get WARDEN_STAT_STBY = 1 from hstby]
    rfl
  · intro hstby
    refine doesWithin_run (fun t h => frame_execWardenFwActivate h) ?_
    rw [wardenFwctlWrite_activate (s := s.silent) hstby]
    have h2 : Canon (takeStandby s.silent) ∧ (takeStandby s.silent).get WARDEN_FWVER_VER = s.warden.stbyVer % 2 ^ WARDEN_FWVER_VER.wd ∧
        (takeStandby s.silent).get WARDEN_STAT_STBY = 0 ∧ (takeStandby s.silent).warden.svn = s.warden.stbySvn ∧ (takeStandby s.silent).warden.stby = [] := by
      unfold takeStandby
      exact ⟨by simp [hs], by simp [hs], by simp [hs], rfl, rfl⟩
    generalize takeStandby s.silent = t at h2
    obtain ⟨ht, hver, hstby', hsvn, hempty⟩ := h2
    obtain ⟨hstate, -, hw, -, hother⟩ := wardenRestart_fields ht 3
    rw [hw]
    exact ⟨(hother _ (by simp) (.inl (by decide))).trans hver, (hother _ (by simp) (.inr (by decide))).trans hstby', hstate, hsvn, hempty⟩
  · refine doesWithin_run (fun t h => frame_execWardenFwErase h) ?_
    have herase : wardenFwctlWrite 4 s.silent = { (s.silent.put WARDEN_STAT_STBY 0).put WARDEN_FWSTBYV_VER 0 with
      warden := { s.warden with stby := [], verifying := false } } := rfl
    rw [herase]
    exact ⟨by simp [hs], by simp [hs], rfl, rfl⟩
  · intro hverify
    refine doesWithin_run (fun t h => frame_execWardenFwstby h) ?_
    rw [if_neg (by simp [hverify])]
    extract_lets fw ok s1 p s2
    have h2 : s2.get WARDEN_STAT_STBY = (if firmwareOk s 2 (standbyImage s) then 2 else 3) ∧
        s2.get WARDEN_FWSTBYV_VER = (if firmwareOk s 2 (standbyImage s) then (standbyImage s).version else 0) % 2 ^ WARDEN_FWSTBYV_VER.wd ∧
        s2.warden.verifying = false ∧ s2.warden.stbySvn = (standbyImage s).svn := by
      have hput : s2.get WARDEN_STAT_STBY = (if ok then 2 else 3) % 4 := (get_put_ne (f := WARDEN_FWSTBYV_VER) _ (by decide) _).trans
        (get_put_self (f := WARDEN_STAT_STBY) (s := s.silent) hs (by decide) _)
      refine ⟨hput.trans ?_, get_put_self (f := WARDEN_FWSTBYV_VER) (canon_stored hs) (by decide) _, rfl, rfl⟩
      rw [Nat.mod_eq_of_lt (by split <;> decide)]
      rfl
    clear_value s2
    obtain ⟨hstby, hver, hv, hsvn⟩ := h2
    exact ⟨(get_raiseF (by simp)).trans ((get_setEvt (by simp)).trans hstby), (get_raiseF (by simp)).trans ((get_setEvt (by simp)).trans hver),
      by simp [hv], by simp [hsvn]⟩

end Sys2Proof.Machine
end

section
/-! REFUTATIONS. Banks and switches. -/

namespace Sys2Proof.Machine

set_option Elab.async false

/-- A Weave image with one word of code for cluster A, and nothing else. -/
def oneWordImage : Image :=
  { magic := 0, hver := 0, hlen := 0, ilen := 0, twin := false, unit := false, f60 := false, imgid := 1, part := 0, minstep := 0, keyHash := [],
    sig := [], signed := [], hash := 0, twinHash := 0, pmapH := 1, layH := 1, cmapH := 1, compat := [], codelen := [1], rxdone := [], urgmask := 0,
    nsig := 0, slackjob := [], sections := [], plans := [], pickmap := [], splans := [], smap := [], adcseq := [], adcPairs := 0, pmap := [],
    paramdef := [], code := [[(0, 1)]], dataInit := [], angleInit := [],
    conv := ⟨0, false, 0, 0, 0, 0, 0, 0, 0, 0, 0, false, false, [], 0, []⟩, shared := [], jobs := [], telem := [], regInit := [] }

/-- The image runs, and the same image is armed in bank 0 for a hot switch at the next cycle, in the last pick of this one. -/
def hotSwitchArmed : State :=
  let s := (State.reset.put WEAVE_STAT_RUN 1).put (WEAVE_BANK_STATE 0) 3
  { s with
    warp := { s.warp with acc := 0xFFF00000000000 }
    weave := { s.weave with banks := [{ Bank.empty with img := some oneWordImage }, Bank.empty], armed := some ⟨0, 1, 0⟩, img := some oneWordImage } }

/-- Refutes O27: the confirmation of a hot switch also loads the image's code into the idle half of the code memories, so the state that
follows differs in more than the armed switch. -/
theorem not_weaveBanksAndSwitches : ¬ Obligations.WeaveBanksAndSwitches := by
  unfold Obligations.WeaveBanksAndSwitches
  intro h
  obtain ⟨-, -, -, -, -, hcheck, -⟩ := h hotSwitchArmed (by decide +kernel)
  obtain ⟨t, hexec, heq⟩ := hcheck ⟨0, 1, 0⟩ false rfl (by decide +kernel) (by decide +kernel) (by decide +kernel) (by decide +kernel)
  obtain rfl := Host.Outcome.next.inj hexec
  exact absurd (congrArg (fun t => ((engAt t 0).im).length) heq) (by decide +kernel)

end Sys2Proof.Machine
end

section
/-! PROOFS. An undefined operation, results that land, and single steps (R196, R197, R208, R216, R217, R219). -/

namespace Sys2Proof.Machine

set_option Elab.async false

section
variable {s : State} {k : Nat}

/-! ### The stop of an engine, whatever the mode of its cluster -/

/-- A field that neither an event nor a stop of cluster `c` changes. -/
def ApartFromStop (c : Nat) (f : Fld) : Prop :=
  ¬ Loud f.addr ∧ min (pageOf f.addr) 0x100 ∉ [0x02, 0x09, 0x41, 0x51] ++ ringPages ∧ f.addr ≠ 0x50050 + 4 * c

theorem clusterStop_get {c : Nat} {f : Fld} (hf : ApartFromStop c f) : (clusterStop c s).get f = s.get f := by
  obtain ⟨-, hpage, haddr⟩ := hf
  unfold clusterStop
  extract_lets x wv u p s1
  have h1 : Within ([0x02, 0x09, 0x41, 0x51] ++ ringPages) [.pwr, .link, .intc, .weave] s s1 :=
    within_assertOpen (within_blockTokens (within_mk (within_refl _ _ _)))
  have h2 : Within ([0x02, 0x09, 0x41, 0x51] ++ ringPages) [.pwr, .link, .intc, .weave] (s1.put (REED_CLST_MODE c) 3)
    (converterFault 7 (s1.put (REED_CLST_MODE c) 3)) := within_converterFault (within_refl _ _ _)
  exact (h2.get hpage).trans ((get_put_ne (f := REED_CLST_MODE c) s1 haddr 3).trans (h1.get hpage))

theorem reedStop_keeps {c reason : Nat} (hc : c < 4) : (reedStop c reason s).loom = s.loom ∧
    ∀ f : Fld, ApartFromStop c f → (reedStop c reason s).get f = s.get f := by
  have hsame : Within ([0x02, 0x09, 0x41, 0x50, 0x51] ++ ringPages) [.pwr, .link, .intc, .weave] s (reedStop c reason s) :=
    within_reedStop (within_refl _ _ _)
  refine ⟨hsame.same .loom (by decide), fun f hf => ?_⟩
  unfold reedStop
  split
  · rfl
  · exact (clusterStop_get hf).trans ((get_raiseF hf.1).trans (get_setEvt hf.1))

theorem setVote_out (hs : Canon s) (hk : k < 12) : (setVote k false s).get (REED_ENGST_VOTE k) = 0 ∧ (setVote k false s).loom = s.loom ∧
    ∀ f : Fld, ApartFromStop (k / 3) f → f.addr ≠ 0x50080 + 4 * k → (setVote k false s).get f = s.get f := by
  unfold setVote
  extract_lets c s1 s2 n m
  have hkeep2 : ∀ f : Fld, f.addr ≠ 0x50050 + 4 * c → s2.get f = s1.get f := fun f hf => get_put_ne (f := REED_CLST_VOTE c) s1 hf _
  have hkeep1 : ∀ f : Fld, f.addr ≠ 0x50080 + 4 * k → s1.get f = s.get f := fun f hf => get_put_ne (f := REED_ENGST_VOTE k) s hf _
  have hvote : s2.get (REED_ENGST_VOTE k) = 0 :=
    (hkeep2 _ (by dsimp only; omega)).trans (get_put_self (f := REED_ENGST_VOTE k) hs (by dsimp only; decide) 0)
  have hloom : s2.loom = s.loom := rfl
  have hc : c = k / 3 := rfl
  have hapart : ApartFromStop c (REED_ENGST_VOTE k) := ⟨by rw [loud_iff]; dsimp only; omega, by
    have hpage : min (pageOf (REED_ENGST_VOTE k).addr) 0x100 = 0x50 := by
      unfold pageOf
      dsimp only
      omega
    rw [hpage]
    decide, by dsimp only; omega⟩
  clear_value s2 s1 n
  split
  · exact ⟨hvote, hloom, fun f hf he => (hkeep2 f hf.2.2).trans (hkeep1 f he)⟩
  · split
    · obtain ⟨hl, hkeep3⟩ := reedStop_keeps (s := s2) (c := c) (reason := 1) (by omega)
      exact ⟨(hkeep3 _ hapart).trans hvote, hl.trans hloom, fun f hf he => (hkeep3 f hf).trans ((hkeep2 f hf.2.2).trans (hkeep1 f he))⟩
    · exact ⟨(get_put_ne (f := REED_CLST_MODE c) s2 (by dsimp only; omega) _).trans hvote, hloom,
        fun f hf he => (get_put_ne (f := REED_CLST_MODE c) s2 hf.2.2 _).trans ((hkeep2 f hf.2.2).trans (hkeep1 f he))⟩

theorem stopRecord_cause (hs : Canon s) (hk : k < 12) {cause sub lc : Nat} {x : Option Attr} {late : Bool} :
    (stopRecord k cause sub x late lc s).get (LOOM_STOP_CAUSE k) = cause % 16 ∧ (stopRecord k cause sub x late lc s).get (LOOM_STOP_SUB k) = sub % 256 ∧
      (stopRecord k cause sub x late lc s).loom = s.loom := by
  have hsame : Within ([0x02, 0x09, 0x50, 0x51] ++ loomPages) [.link, .intc] s (stopRecord k cause sub x late lc s) := within_stopRecord (within_refl _ _ _)
  have hcause : ((((s.put (LOOM_STOP_CAUSE k) cause).put (LOOM_STOP_SUB k) sub).putB (LOOM_STOP_LATE k) late).count (LOOM_STOP_COUNT k)).get
      (LOOM_STOP_CAUSE k) = cause % 16 := by simp [hs]
  have hsub : ((((s.put (LOOM_STOP_CAUSE k) cause).put (LOOM_STOP_SUB k) sub).putB (LOOM_STOP_LATE k) late).count (LOOM_STOP_COUNT k)).get
      (LOOM_STOP_SUB k) = sub % 256 := by simp [hs]
  have hkeep : ∀ f : Fld, f.addr = 0x44044 + 0x1000 * k → (stopRecord k cause sub x late lc s).get f =
      ((((s.put (LOOM_STOP_CAUSE k) cause).put (LOOM_STOP_SUB k) sub).putB (LOOM_STOP_LATE k) late).count (LOOM_STOP_COUNT k)).get f := by
    intro f hf
    unfold stopRecord
    extract_lets bg e s1 s2 s3 s4 s5 s6 s7 xc s8
    have hloud : ¬ Loud f.addr := by rw [loud_iff]; omega
    have hloop : ∀ {t : State} {n : Nat} {l : List Loop} {y : List Nat}, (putLoop k n l y t).raw f.addr = t.raw f.addr := by
      intro t n l y
      unfold putLoop
      have ha : f.addr ≠ 0x4405c + 0x1000 * k + 8 * n := by omega
      have hb : f.addr ≠ 0x44060 + 0x1000 * k + 8 * n := by omega
      simp [ha, hb]
    unfold State.get
    have hraw : s8.raw f.addr = s1.raw f.addr := by
      have hreed : f.addr ≠ 0x50080 + 4 * k := by omega
      rw [show s8.raw f.addr = s7.raw f.addr from (raw_put_ne _ hreed _).trans (hloop.trans (hloop.trans hloop)), hf]
      simp [s7, s6, s5, s4, s3, s2]
    rw [raw_raiseF hloud, raw_setEvt hloud, hraw]
  exact ⟨(hkeep _ rfl).trans hcause, (hkeep _ rfl).trans hsub, hsame.same .loom (by decide)⟩

/-- A running engine that is not the source of a repair stops for a cause that counts against it. -/
structure Stopped (k cause sub : Nat) (t : State) : Prop where
  state : t.get (LOOM_STAT_STATE k) = 2
  cause : t.get (LOOM_STOP_CAUSE k) = cause % 16
  sub : t.get (LOOM_STOP_SUB k) = sub % 256
  vote : t.get (REED_ENGST_VOTE k) = 0
  running : k < t.loom.length → (engAt t k).running = false

theorem engAt_of_loom {t : State} (h : t.loom = s.loom) (k : Nat) : engAt t k = engAt s k := by
  unfold engAt
  rw [h]

theorem stopEngine_running (hs : Canon s) (hk : k < 12) {cause sub lc : Nat} {x : Option Attr} {late : Bool} (hcause : cause ≠ 4)
    (hstate : s.get (LOOM_STAT_STATE k) = 1) (hrep : s.flag (REED_CLST_REP (k / 3)) = false) :
    Stopped k cause sub (stopEngine k cause sub x late lc s) := by
  unfold stopEngine
  extract_lets st s1 c s2
  obtain ⟨hc1, hkeep⟩ := stopRecord_keeps (s := s) hs hk (cause := cause) (sub := sub) (x := x) (late := late) (lc := lc)
  obtain ⟨hcause1, hsub1, hloom1⟩ := stopRecord_cause (s := s) hs hk (cause := cause) (sub := sub) (x := x) (late := late) (lc := lc)
  have h1 : Canon s1 ∧ s1.get (LOOM_STOP_CAUSE k) = cause % 16 ∧ s1.get (LOOM_STOP_SUB k) = sub % 256 ∧
      (k < s1.loom.length → (engAt s1 k).running = false) := by
    refine ⟨hc1, hcause1, hsub1, fun hlt => ?_⟩
    have hlt' : k < (stopRecord k cause sub x late lc s).loom.length := by simpa [s1, length_loom_modEng] using hlt
    rw [engAt_modEng hlt']
  have hrep1 : s1.flag (REED_CLST_REP c) = false := by
    refine Eq.trans ?_ hrep
    unfold State.flag
    rw [show s1.get (REED_CLST_REP c) = s.get (REED_CLST_REP c) from hkeep _ (by rw [loud_iff]; dsimp only; omega) (by dsimp only; omega)
      (by unfold pageOf; dsimp only; omega) (.inl (by dsimp only; omega))]
  have h2 : s2 = s1 := if_neg (by simp [hrep1])
  have hst : st = 1 := hstate
  clear_value s2 s1 st
  subst h2 hst
  rw [if_neg (by decide), if_neg (by decide), if_neg (by decide), if_neg hcause]
  obtain ⟨hcan, hcause2, hsub2, hrun2⟩ := h1
  obtain ⟨hstate3, -, h3, hkeep3⟩ := setEngState_fields hcan hk (n := 2) (by decide)
  obtain ⟨hvote, hloom, hkeep4⟩ := setVote_out h3 hk
  have hapart : ∀ f : Fld, ¬ Loud f.addr → pageOf f.addr = 0x44 + k → ApartFromStop (k / 3) f ∧ f.addr ≠ 0x50080 + 4 * k := by
    intro f hf hp
    refine ⟨⟨hf, ?_, ?_⟩, ?_⟩
    · rw [hp]
      simp only [ringPages, List.cons_append, List.nil_append, List.mem_cons, List.not_mem_nil, or_false]
      omega
    all_goals
      unfold pageOf at hp
      omega
  have hfield : ∀ f : Fld, ¬ Loud f.addr → pageOf f.addr = 0x44 + k → (setVote k false (setEngState k 2 s2)).get f = (setEngState k 2 s2).get f :=
    fun f hf hp => hkeep4 f (hapart f hf hp).1 (hapart f hf hp).2
  exact
    { state := (hfield _ (by rw [loud_iff]; dsimp only; omega) (by unfold pageOf; dsimp only; omega)).trans hstate3
      cause := (hfield _ (by rw [loud_iff]; dsimp only; omega) (by unfold pageOf; dsimp only; omega)).trans
        ((hkeep3 _ (.inl (by dsimp only; omega)) (.inl (by dsimp only; omega))).trans hcause2)
      sub := (hfield _ (by rw [loud_iff]; dsimp only; omega) (by unfold pageOf; dsimp only; omega)).trans
        ((hkeep3 _ (.inl (by dsimp only; omega)) (.inl (by dsimp only; omega))).trans hsub2)
      vote := hvote
      running := fun hlt => by
        rw [engAt_of_loom hloom]
        rw [hloom] at hlt
        exact hrun2 hlt }

/-! ### An undefined operation alone in its bundle (R217) -/

theorem slotIn_undef {w : SlotWord} (hlen : k < s.loom.length) (hst : s.get (LOOM_STAT_STATE k) = 1) (hrun : (engAt s k).running = true)
    (hlc : (engAt s k).lc < issueEnd s k) (hbun : (engAt s k).bundle = []) (hfetch : fetchOps s (engAt s k) = [(.undef, w)])
    (hpc : (engAt s k).pc < codeLen s (k / 3) (engAt s k)) :
    slotIn k .undef w ⟨true, [], [], none⟩ s = stopEngine k 5 1 (some (attrOf (engAt s k))) false (engAt s k).lc (modEng k (withBundle [⟨.undef, w, []⟩]) s) := by
  have hiss : issues s k = true := by simp [issues, hst, hrun, hlc]
  have hholds : holdsOp s (engAt s k) .undef w = true := by
    rw [holdsOp, hfetch]
    simp
  have hjoin (keep : SlotOp → Bool) : modEng k (fun e => withBundle (e.bundle.filter keep ++ [⟨.undef, w, []⟩]) e) s =
      modEng k (withBundle [⟨.undef, w, []⟩]) s := modEng_congr hlen (by rw [hbun]; rfl)
  rw [slotIn, hiss, hholds, if_neg (by decide)]
  refine (if_pos rfl).trans ?_
  refine (congr_arg (issueBundle k [] none) (hjoin _)).trans ?_
  have hops : bundleOps (modEng k (withBundle [⟨.undef, w, []⟩]) s) (withBundle [⟨.undef, w, []⟩] (engAt s k)) = [⟨.undef, w, []⟩] :=
    (comes_eq (op := .undef) (by rw [hfetch]; rfl))
  have hsub : illegalSub (modEng k (withBundle [⟨.undef, w, []⟩]) s) (withBundle [⟨.undef, w, []⟩] (engAt s k))
      (codeLen (modEng k (withBundle [⟨.undef, w, []⟩]) s) (k / 3) (withBundle [⟨.undef, w, []⟩] (engAt s k))) [⟨.undef, w, []⟩] = 1 := by
    unfold illegalSub
    extract_lets _ _ _ _ _ _ _
    exact (if_neg (Nat.not_le_of_lt hpc)).trans (if_pos rfl)
  unfold issueBundle
  simp only [engAt_modEng hlen, hops, eccReads_of_good (fetchReads_good _ _), find_uncorrectable_of_good (fetchReads_good _ _), hsub]
  rfl

/-! ### A result that lands (R208) -/

theorem get_modEng (f : Fld) (g : Eng → Eng) : (modEng k g s).get f = s.get f := (rfl)

theorem landOne_g_fields {f : Flight} {n : Nat} (hd : f.dest = .g n) {e : Eng} (hbg : f.bg = e.bg) (hn : n < e.g.length) :
    (landOne f e).2.rg n = word f.val ∧ (landOne f e).2.fl = e.fl ||| f.flags ∧ (landOne f e).2.flight = e.flight ∧ (landOne f e).2.now = e.now := by
  rw [landOne]
  simp only [hd, hbg]
  cases h : e.bg <;> simp [Eng.rg, Eng.fl, h, hn]

theorem flagEvents_loom {bg : Bool} {rise : Nat} (hk : k < 12) : (flagEvents k bg rise s).loom = s.loom := by
  have hsame : Within ([0x02, 0x09, 0x51] ++ loomPages) [.link, .intc] s (flagEvents k bg rise s) := within_flagEvents (within_refl _ _ _)
  exact hsame.same .loom (by decide)

/-! ### Single steps (R219) -/

theorem running_setShadow {x : Option (Nat × Nat)} (e : Eng) : (e.setShadow x).running = e.running := by
  unfold Eng.setShadow
  split <;> rfl

theorem bitsAt_zero (n w : Nat) : bitsAt n 0 w = n % 2 ^ w := by rw [bitsAt, Nat.shiftRight_zero]

theorem bitsAt_of_lt {n w : Nat} (h : n < 2 ^ w) : bitsAt n 0 w = n := (bitsAt_zero n w).trans (Nat.mod_eq_of_lt h)

theorem stepctlWrite_fields (hs : Canon s) (hk : k < 12) (hlen : k < s.loom.length) {w : Word} (hlock : (s.get (pglock (0x44 + k))).testBit 0 = false)
    (hperm : stepPermitted k s = true) (hw : w.toNat < 2 ^ 13) (hpos : 0 < w.toNat) :
    (stepctlWrite k w s).get (LOOM_STAT_STATE k) = 5 ∧ (stepctlWrite k w s).get (LOOM_STEPCTL_N k) = w.toNat ∧
      (stepctlWrite k w s).get (LOOM_STEPSTAT_DONE k) = 0 ∧ (engAt (stepctlWrite k w s) k).running = true := by
  unfold stepctlWrite
  extract_lets a n s1
  rw [hlock, hperm, if_neg (by decide), if_neg (by decide)]
  have hn : n = w.toNat := bitsAt_of_lt hw
  have h1 : s1 = s := if_pos (Nat.div_eq_of_lt hw)
  clear_value n s1
  subst hn h1
  rw [if_neg (by omega)]
  have h2 : Canon (s1.put (LOOM_STEPCTL_N k) w.toNat) := canon_stored hs
  have h3 : Canon ((s1.put (LOOM_STEPCTL_N k) w.toNat).put (LOOM_STEPSTAT_DONE k) 0) := canon_stored h2
  obtain ⟨hstate, -, -, hkeep⟩ := setEngState_fields h3 hk (n := 5) (by decide)
  refine ⟨hstate, (hkeep _ (.inl (by dsimp only; omega)) (.inl (by dsimp only; omega))).trans ?_,
    (hkeep _ (.inl (by dsimp only; omega)) (.inl (by dsimp only; omega))).trans ?_, ?_⟩
  · exact (get_put_ne (f := LOOM_STEPSTAT_DONE k) _ (by dsimp only; omega) 0).trans
      ((get_put_self (f := LOOM_STEPCTL_N k) hs (by dsimp only; decide) _).trans (Nat.mod_eq_of_lt hw))
  · exact get_put_self (f := LOOM_STEPSTAT_DONE k) h2 (by dsimp only; decide) 0
  · rw [engAt_modEng (s := setEngState k 5 ((s1.put (LOOM_STEPCTL_N k) w.toNat).put (LOOM_STEPSTAT_DONE k) 0)) hlen]
    unfold stopPoint
    exact running_setShadow _

/-- The registers of an engine's stopping point as a write of `STEPPC` with program counter `n` and code memory `rom` leaves them. -/
def stopPointPut (k n : Nat) (rom : Bool) (s : State) : State :=
  let s1 := (((s.put (LOOM_STEPPC_PC k) n).putB (LOOM_STEPPC_ROM k) rom).put (LOOM_STOPCTX_SDLY k) 0).put (LOOM_STOPCTX_SPEND k) 0
  let s2 := (s1.put (LOOM_STOPPC_S k) n).putB (LOOM_STOPPC_SROM k) rom
  [0, 1, 2].foldl (fun s n => ((s.put (LOOM_LP_CNT_CNT k n) 0).putB (LOOM_LP_RNG_ACT k n) false)) (s2.put (LOOM_STOPCTX_LDEPTH k) 0)

theorem stopPointPut_fields (hs : Canon s) {n : Nat} {rom : Bool} : (stopPointPut k n rom s).get (LOOM_STOPCTX_SDLY k) = 0 ∧
    (stopPointPut k n rom s).get (LOOM_STOPPC_S k) = n % 2 ^ 13 := by
  unfold stopPointPut
  extract_lets s1 s2
  have h1 : Canon s1 ∧ s1.get (LOOM_STOPCTX_SDLY k) = 0 := ⟨by simp [s1, hs], by simp [s1, hs]⟩
  clear_value s1
  obtain ⟨hc1, hdly1⟩ := h1
  have h2 : Canon s2 ∧ s2.get (LOOM_STOPCTX_SDLY k) = 0 ∧ s2.get (LOOM_STOPPC_S k) = n % 2 ^ 13 :=
    ⟨by simp [s2, hc1], by simp [s2, hc1, hdly1], by simp [s2, hc1]⟩
  clear_value s2
  obtain ⟨hc2, hdly2, hpc2⟩ := h2
  have hloop : ∀ (t : State) (n : Nat) (f : Fld), f.addr < 0x4405c + 0x1000 * k →
      ((t.put (LOOM_LP_CNT_CNT k n) 0).putB (LOOM_LP_RNG_ACT k n) false).get f = t.get f := fun t n f hf =>
    (get_put_ne (f := LOOM_LP_RNG_ACT k n) _ (by dsimp only; omega) _).trans (get_put_ne (f := LOOM_LP_CNT_CNT k n) t (by dsimp only; omega) 0)
  rw [List.foldl_cons, List.foldl_cons, List.foldl_cons, List.foldl_nil]
  refine ⟨?_, ?_⟩
  · rw [hloop _ 2 _ (by dsimp only; omega), hloop _ 1 _ (by dsimp only; omega), hloop _ 0 _ (by dsimp only; omega)]
    simp [hc2, hdly2]
  · rw [hloop _ 2 _ (by dsimp only; omega), hloop _ 1 _ (by dsimp only; omega), hloop _ 0 _ (by dsimp only; omega)]
    simp [hc2, hpc2]

theorem stopPointPut_loom (hk : k < 12) {n : Nat} {rom : Bool} : (stopPointPut k n rom s).loom = s.loom := by
  have hwithin : Within loomPages [] s (stopPointPut k n rom s) := by
    unfold stopPointPut
    extract_lets s1 s2
    have h1 : Within loomPages [] s s1 := within_put (within_put (within_putB (within_put (within_refl _ _ _))))
    have h2 : Within loomPages [] s s2 := within_putB (within_put h1)
    exact within_foldl_mem (within_put h2) fun _ n hn h =>
      have hn : n < 3 := by simp only [List.mem_cons, List.not_mem_nil, or_false] at hn; omega
      within_putB (within_put h)
  exact hwithin.same .loom (by decide)

/-- An engine that a step run will start at `n`. -/
def steppedTo (n : Nat) (rom : Bool) (e : Eng) : Eng :=
  { (e.setShadow none) with pc := n, rom := rom, branch := none, loops := [], ended := false }

theorem steppcWrite_eq {w : Word} (hlock : (s.get (pglock (0x44 + k))).testBit 0 = false) (hperm : stepPermitted k s = true) (hw : w.toNat < 2 ^ 14) :
    steppcWrite k w s = modEng k (steppedTo (w.toNat % 2 ^ 13) (w.getLsbD 13)) (stopPointPut k (w.toNat % 2 ^ 13) (w.getLsbD 13) s) := by
  unfold steppcWrite
  rw [hlock, hperm, if_neg (by decide), if_neg (by decide), if_pos (Nat.div_eq_of_lt hw), bitsAt_zero]
  rfl

/-- The end of a step run: the engine is held again, with cause 8. -/
theorem stopEngine_stepping (hs : Canon s) (hk : k < 12) {sub lc : Nat} (hstate : s.get (LOOM_STAT_STATE k) = 5) :
    (stopEngine k 8 sub none false lc s).get (LOOM_STAT_STATE k) = 3 ∧ (stopEngine k 8 sub none false lc s).get (LOOM_STOP_CAUSE k) = 8 := by
  unfold stopEngine
  extract_lets st s1 c s2
  obtain ⟨hc1, -⟩ := stopRecord_keeps (s := s) hs hk (cause := 8) (sub := sub) (x := none) (late := false) (lc := lc)
  obtain ⟨hcause1, -, -⟩ := stopRecord_cause (s := s) hs hk (cause := 8) (sub := sub) (x := none) (late := false) (lc := lc)
  have h1 : Canon s1 ∧ s1.get (LOOM_STOP_CAUSE k) = 8 := ⟨hc1, hcause1⟩
  have hst : st = 5 := hstate
  clear_value s2 s1 st
  subst hst
  obtain ⟨hc, hcause⟩ := h1
  rw [if_neg (by decide), if_pos rfl]
  obtain ⟨hstate3, -, -, hkeep3⟩ := setEngState_fields (s := s1.put (LOOM_STEPCTL_N k) 0) (canon_stored hc) hk (n := 3) (by decide)
  exact ⟨hstate3, (hkeep3 _ (.inl (by dsimp only; omega)) (.inl (by dsimp only; omega))).trans
    ((get_put_ne (f := LOOM_STEPCTL_N k) s1 (by dsimp only; omega) 0).trans hcause)⟩

end

/-- Settles O36. -/
theorem enginesBetweenBundles : Obligations.EnginesBetweenBundles := by
  unfold Obligations.EnginesBetweenBundles
  intro s hinv
  have hs := canon_of_inv hinv
  refine ⟨?_, ?_, ?_, ?_, ?_⟩
  · intro e w he hlen hst hrun hlc hbun hfetch hpc hrep
    refine doesWithin_run (fun t h => (frame_execUndefinedOperation he h).mono (by decide) (by decide)) ?_
    rw [slotIn_undef (s := s.silent) hlen hst hrun hlc hbun hfetch hpc]
    have hstop := stopEngine_running (s := modEng e (withBundle [⟨.undef, w, []⟩]) s.silent) (k := e) (cause := 5) (sub := 1)
      (x := some (attrOf (engAt s.silent e))) (late := false) (lc := (engAt s.silent e).lc) hs he (by decide) hst hrep
    exact ⟨hstop.state, hstop.cause, hstop.sub, hstop.vote, hstop.running⟩
  · intro e clocks f n he hlen hfl hd hn hbg hready
    refine doesWithin_run (fun t h => (frame_execOperationComplete (a1 := clocks) he h).mono (by decide) (by decide)) ?_
    have hlen' : e < (modEng e (fun g => { g with now := g.now + clocks, lc := g.lc + clocks }) s.silent).loom.length := by
      rw [length_loom_modEng]
      exact hlen
    have heng := engAt_modEng (s := s.silent) hlen fun g => { g with now := g.now + clocks, lc := g.lc + clocks }
    rw [landDue_of_due hlen' (by rw [heng]; exact hfl) (by simp [hd]) (by rw [heng]; exact hready), engAt_of_loom (flagEvents_loom he), engAt_modEng hlen', heng]
    exact landOne_g_fields (e := landed { engAt s.silent e with now := (engAt s e).now + clocks, lc := (engAt s e).lc + clocks }) hd hbg hn
  · intro e value he hlen hlock hperm hw hpos
    refine doesWithin_run (fun t h => (frame_execStepctl he h).mono (by decide) (by decide)) ?_
    exact stepctlWrite_fields (s := s.silent) hs he hlen hlock hperm hw hpos
  · intro e value he hlen hlock hperm hw
    refine doesWithin_run (fun t h => (frame_execSteppc he h).mono (by decide) (by decide)) ?_
    have hput := stopPointPut_fields (s := s.silent) (k := e) (n := value.toNat % 2 ^ 13) (rom := value.getLsbD 13) hs
    rw [steppcWrite_eq (s := s.silent) hlock hperm hw, engAt_modEng (s := stopPointPut e (value.toNat % 2 ^ 13) (value.getLsbD 13) s.silent) (by rw [stopPointPut_loom he]; exact hlen), get_modEng, get_modEng]
    generalize stopPointPut e (value.toNat % 2 ^ 13) (value.getLsbD 13) s.silent = t at hput ⊢
    obtain ⟨hdly, hpc⟩ := hput
    exact ⟨rfl, rfl, rfl, rfl, hpc.trans (Nat.mod_mod _ _), hdly⟩
  · intro e he hst hended
    refine doesWithin_run (fun t h => (frame_execStepRunEnd he h).mono (by decide) (by decide)) ?_
    rw [if_pos (by simp [hst, show (engAt s.silent e).ended = true from hended])]
    exact stopEngine_stepping (s := s.silent) hs he hst

end Sys2Proof.Machine
end

section
/-! PROOFS. Frames of the SPI target (R49, R77, R78, R79, R80). -/

namespace Sys2Proof.Machine

set_option Elab.async false

section
variable {s : State}

/-! ### A read frame of F-die registers -/

/-- An SPI frame of `count` words at `addr` that the link can serve. -/
structure SpiServed (s : State) (addr count : Nat) : Prop where
  alive : s.host.spiDead = false
  awake : s.pwr.h = .run
  flowing : s.host.stalled = false
  aligned : spiAddrErr addr count = false
  far : isF (pageOf addr) = true
  page : assigned (pageOf addr) = true
  link : reachable s (pageOf addr) = true

theorem dropSpiReads_reachable (page : Nat) : reachable (dropSpiReads s) page = reachable s page := rfl

theorem spiBusy_of_served {addr count : Nat} (h : SpiServed s addr count) : spiBusy s (pageOf addr) = false := by
  unfold spiBusy hServes
  simp [h.awake, h.flowing, h.link]

/-- The state in which an SPI read frame is accepted. -/
def spiReading (addr count : Nat) (s : State) : State :=
  { (dropSpiReads s).put HOSTIF_STAT_SPISEEN 1 with host := { s.host with spi := some ⟨addr, count, none, false⟩ } }

theorem spiReadFrame_served {addr count dt : Nat} (h : SpiServed s addr count) (hlo : 1 ≤ count) (hhi : count ≤ 4) :
    spiReadFrame addr count dt s = sendRead .spi 1 addr count (spiReading addr count s) := by
  have hawake : hAwake s = true := by simp [hAwake, h.awake]
  unfold spiReadFrame
  rw [if_neg (by simp [h.alive, hawake]; omega)]
  extract_lets p s0 busy bad s1
  have hbusy : busy = false := spiBusy_of_served h
  have hbad : bad = false := h.aligned
  rw [if_neg (by simp [hbusy, hbad]), if_pos (by simp [p, h.far, h.page])]
  rfl

theorem within_spiReading {addr count : Nat} : Within [0x09] [.link, .host] s (spiReading addr count s) :=
  within_mk (within_put (f := HOSTIF_STAT_SPISEEN) (v := 1) (within_dropSpiReads (within_refl _ _ _)))

theorem spiReading_fields (hs : Canon s) {addr count : Nat} : (spiReading addr count s).get HOSTIF_STAT_SPISEEN = 1 ∧
    (spiReading addr count s).link.hf.queue = s.link.hf.queue ∧ (spiReading addr count s).link.nextTag = s.link.nextTag ∧
    (spiReading addr count s).host.spi = some ⟨addr, count, none, false⟩ := by
  have h1 : Canon (dropSpiReads s) := hs
  exact ⟨(get_of_regs (s := (dropSpiReads s).put HOSTIF_STAT_SPISEEN 1) rfl _).trans (get_put_self (f := HOSTIF_STAT_SPISEEN) h1 (by decide) 1), rfl, rfl, rfl⟩

theorem doesWithin_spiRead {c : Instr} {addr count dt : Nat} (hexec : exec c s = run (spiReadFrame addr count dt) s) (hs : Canon s)
    (h : SpiServed s addr count) (hlo : 1 ≤ count) (hhi : count ≤ 4) :
    DoesWithin c s [0x02, 0x03, 0x05, 0x09, 0x21, 0x40, 0x71] [.link, .host, .clk, .sec] fun t =>
      t.link.hf.queue = s.link.hf.queue ++ [.readReq addr s.link.nextTag count 1] ∧ t.host.spi = some ⟨addr, count, none, false⟩ ∧
      t.get HOSTIF_STAT_SPISEEN = 1 := by
  have hframe : spiReadFrame addr count dt s.silent = sendRead .spi 1 addr count (spiReading addr count s.silent) :=
    spiReadFrame_served (s := s.silent) ⟨h.alive, h.awake, h.flowing, h.aligned, h.far, h.page, h.link⟩ hlo hhi
  have hsilent : Within [0x09] [.link, .host] s s.silent := ⟨fun _ _ => rfl, fun x _ => by cases x <;> rfl, id⟩
  have hwithin : Within [0x09] [.link, .host] s (spiReadFrame addr count dt s.silent) := by
    rw [hframe]
    refine hsilent.step (List.Subset.refl _) (List.Subset.refl _) ?_
    exact within_sendRead (within_spiReading (s := s.silent))
  refine doesWithin_intro hexec ?_ (hwithin.mono (by decide) (by decide))
  obtain ⟨hseen, hqueue, htag, hspi⟩ := spiReading_fields (s := s.silent) hs (addr := addr) (count := count)
  rw [show spiReadFrame addr count dt { s with out := [] } = _ from hframe]
  generalize spiReading addr count s.silent = t at *
  refine ⟨?_, hspi, hseen⟩
  calc (sendRead .spi 1 addr count t).link.hf.queue
    _ = t.link.hf.queue ++ [.readReq addr t.link.nextTag count 1] := rfl
    _ = s.link.hf.queue ++ [.readReq addr s.link.nextTag count 1] := by rw [htag, hqueue]; rfl

/-! ### A write frame of one F-die register -/

/-- The state in which an SPI write frame is accepted. -/
def spiWriting (s : State) : State := ({ dropSpiReads s with host := { s.host with spi := none } }).put HOSTIF_STAT_SPISEEN 1

theorem acceptWrite_posted {agent addr : Nat} {w : Word} (hfar : isF (pageOf addr) = true) (hpage : assigned (pageOf addr) = true)
    (hlink : reachable s (pageOf addr) = true) (hstaged : isStaged addr = false) (hown : hOnly addr = false) :
    acceptWrite agent [(addr, w)] s = toF (.postedWr addr [w]) s := by
  have hsend : sendFrame [(addr, w)] s = toF (.postedWr addr [w]) s := by
    unfold sendFrame
    simp [hpage, hlink, hown, hstaged]
  unfold acceptWrite
  simp [hfar, hown, frames, framesFrom, hsend]

theorem spiWriteFrame_served {cmd addr : Nat} {w : Word} (h : SpiServed s addr 1) (hroom : s.host.staged.length ≤ 64) (hstaged : isStaged addr = false)
    (hown : hOnly addr = false) :
    spiWriteFrame cmd addr [w] (spiWriteCrc cmd addr [w]) s = toF (.postedWr addr [w]) (spiWriting s) := by
  have hawake : hAwake s = true := by simp [hAwake, h.awake]
  have hserves : hServes s (pageOf addr) = true := by simp [hServes, h.awake]
  have hheld : withheld s [(addr, w)] = false := by
    unfold withheld stagedCount
    simp [h.flowing, hstaged, hroom]
  unfold spiWriteFrame
  rw [if_neg (by simp [h.alive, hawake])]
  extract_lets p ws u h0 s0 h1 s1
  have haddr : ws = [(addr, w)] := rfl
  rw [if_neg (by simp), haddr, if_neg (by simp [h.aligned, p, hserves, hheld])]
  have hreach : reachable s1 p = reachable s p := by
    unfold reachable State.flag
    rw [show s1.get SHUTTLE_H_STAT_NOTREADY = s.get SHUTTLE_H_STAT_NOTREADY from get_put_ne (f := HOSTIF_STAT_SPISEEN) s0 (by decide) 1]
    rfl
  rw [if_neg (by simp [p, h.link])]
  exact acceptWrite_posted h.far h.page (hreach.trans h.link) hstaged hown

theorem does_spiWrite {c : Instr} {cmd addr : Nat} {w : Word} (hexec : exec c s = runS (spiWriteFrame cmd addr [w] (spiWriteCrc cmd addr [w])) s)
    (hs : Canon s) (h : SpiServed s addr 1) (hroom : s.host.staged.length ≤ 64) (hheld : s.svc.held = []) (hstaged : isStaged addr = false)
    (hown : hOnly addr = false) : Does c s fun t =>
      t.link.hf.queue = s.link.hf.queue ++ [.postedWr addr [w]] ∧ t.get HOSTIF_STAT_SPISEEN = 1 ∧ t.host.spi = none := by
  refine ⟨_, hexec.trans (runS_idle hheld fun s0 s k => kept_spiWriteFrame k), ?_⟩
  beta_reduce
  rw [show spiWriteFrame cmd addr [w] (spiWriteCrc cmd addr [w]) { s with out := [] } = _ from
    spiWriteFrame_served (s := s.silent) ⟨h.alive, h.awake, h.flowing, h.aligned, h.far, h.page, h.link⟩ hroom hstaged hown]
  have h1 : Canon { dropSpiReads s.silent with host := { s.silent.host with spi := none } } := hs
  exact ⟨rfl, get_put_self (f := HOSTIF_STAT_SPISEEN) h1 (by decide) 1, rfl⟩

/-! ### A write frame whose checksum differs -/

theorem spiWriteFrame_crc {addr crc : Nat} {data : List Word} (halive : s.host.spiDead = false) (hawake : s.pwr.h = .run) (hne : data ≠ [])
    (hlen : data.length ≤ 4) (hcrc : crc ≠ spiWriteCrc 0x20 addr data) :
    spiWriteFrame 0x20 addr data crc s =
      setEvt 0x009 2 (({ dropSpiReads s with host := { s.host with spi := none, lastCrc := true } }).count HOSTIF_SPISTAT_CRCERR) := by
  have hawake' : hAwake s = true := by simp [hAwake, hawake]
  unfold spiWriteFrame
  rw [if_neg (by simp [halive, hawake', hne, hlen])]
  extract_lets p ws u h0 s0 h1 s1
  exact if_pos hcrc

end

/-- Settles O19. -/
theorem spiFrames : Obligations.SpiFrames := by
  unfold Obligations.SpiFrames
  intro s hinv
  have hs := canon_of_inv hinv
  refine ⟨?_, ?_, ?_, ?_, ?_, ?_, ?_, ?_, ?_⟩
  · intro addr count dt halive hrun hflow hlo hhi haddr hfar hpage hlink
    exact doesWithin_spiRead (c := .spiRead addr count dt) rfl hs ⟨halive, hrun, hflow, haddr, hfar, hpage, hlink⟩ hlo hhi
  · intro addr count dt halive hrun hflow hlo hhi haddr hfar hpage hlink
    exact doesWithin_spiRead (c := .spiQread addr count dt) rfl hs ⟨halive, hrun, hflow, haddr, hfar, hpage, hlink⟩ hlo hhi
  · intro addr w halive hrun hflow hroom hheld haddr hfar hpage hlink hstaged hown
    exact does_spiWrite (c := .spiWrite addr [w] (spiWriteCrc 0x20 addr [w])) rfl hs ⟨halive, hrun, hflow, haddr, hfar, hpage, hlink⟩ hroom hheld hstaged hown
  · intro addr w halive hrun hflow hroom hheld haddr hfar hpage hlink hstaged hown
    exact does_spiWrite (c := .spiQwrite addr [w] (spiWriteCrc 0x40 addr [w])) rfl hs ⟨halive, hrun, hflow, haddr, hfar, hpage, hlink⟩ hroom hheld hstaged hown
  · intro addr data crc halive hrun hheld hne hlen hcrc
    refine ⟨_, (show exec (.spiWrite addr data crc) s = _ from rfl).trans (runS_idle hheld fun s0 s k => kept_spiWriteFrame k), ?_⟩
    beta_reduce
    rw [show spiWriteFrame 0x20 addr data crc { s with out := [] } = _ from spiWriteFrame_crc (s := s.silent) halive hrun hne hlen hcrc]
    have h1 : Canon { dropSpiReads s.silent with host := { s.silent.host with spi := none, lastCrc := true } } := hs
    refine ⟨by simp, (get_setEvt (by simp)).trans (get_count_self (f := HOSTIF_SPISTAT_CRCERR) h1 (by decide)), ?_⟩
    rw [setEvt_link_hf]
    rfl
  · intro halive hrun
    refine doesWithin_run (fun t h => frame_execSpiStatus h) ?_
    have hawake : hAwake s.silent = true := by simp [hAwake, hrun]
    rw [if_neg (by simp [halive, hawake])]
    exact ⟨rfl, rfl, rfl, rfl⟩
  · intro code hcode hrun
    refine doesWithin_run (fun t h => frame_execSpiInvalidCommand (a0 := code) h) ?_
    have hawake : hAwake s.silent = true := by simp [hAwake, hrun]
    rw [if_neg (by simp [hcode, hawake])]
    exact ⟨rfl, rfl, rfl⟩
  · intro r hspi hanswered
    refine doesWithin_run (fun t h => frame_execSpiStatusDeadline h) ?_
    rw [show s.silent.host.spi = some r from hspi]
    dsimp only
    rw [if_neg (by simp [hanswered])]
    exact ⟨rfl, rfl⟩
  · intro hspi
    refine doesWithin_run (fun t h => frame_execSpiCsRise h) ?_
    rw [if_pos (show s.silent.host.spi.isSome = true from hspi)]
    exact ⟨rfl, rfl, get_count_self (f := HOSTIF_SPISTAT_ABANDON) (s := s.silent) hs (by decide)⟩

end Sys2Proof.Machine
end

section
/-! PROOFS. Repairs, and reed halves that trip and rejoin (R227 to R234). -/

namespace Sys2Proof.Machine

set_option Elab.async false

section
variable {s : State} {c k : Nat}

/-! ### Clusters -/

theorem cluAt_modClu (hc : c < s.clu.length) (f : Clu → Clu) : cluAt (modClu c f s) c = f (cluAt s c) := by
  simp [cluAt, modClu, List.getD_eq_getElem?_getD, hc]

theorem get_modClu (f : Fld) (g : Clu → Clu) : (modClu c g s).get f = s.get f := (rfl)

theorem canon_modClu {g : Clu → Clu} : Canon (modClu c g s) ↔ Canon s := Iff.rfl

/-- A bit field of two bits by its two bits. -/
theorem get_two_bits (a lo : Nat) : s.get ⟨a, lo, 2⟩ = s.get ⟨a, lo, 1⟩ + 2 * s.get ⟨a, lo + 1, 1⟩ := by
  unfold State.get
  simp only [bitsAt_eq, Nat.pow_succ, ← Nat.div_div_eq_div_mul]
  omega

/-! ### The end of an attempt -/

/-- A field that the end of a repair in cluster `c` leaves unchanged. -/
def ApartFromAttempt (c : Nat) (f : Fld) : Prop :=
  (f.addr ≠ 0x50050 + 4 * c ∨ f.lo + f.wd ≤ 8 ∨ 9 ≤ f.lo ∧ f.lo + f.wd ≤ 13 ∨ 14 ≤ f.lo) ∧
    (f.addr < 0x50080 ∨ 0x500B0 < f.addr ∨ f.lo + f.wd ≤ 4 ∨ 5 ≤ f.lo ∧ f.lo + f.wd ≤ 7 ∨ 8 ≤ f.lo)

theorem clearAttempt_fields (hs : Canon s) (hc : c < 4) : (clearAttempt c s).get (REED_CLST_REP c) = 0 ∧ Canon (clearAttempt c s) ∧
    ∀ f : Fld, ApartFromAttempt c f → (clearAttempt c s).get f = s.get f := by
  unfold clearAttempt
  extract_lets t src s1
  have ht : t ≤ 12 := by
    have : s.get (REED_CLST_REPENG c) < 2 ^ 2 := get_lt s (REED_CLST_REPENG c)
    have : t = 3 * c + s.get (REED_CLST_REPENG c) := rfl
    omega
  have hsrc : src ≤ 12 := by
    have : s.get (REED_CLST_SRCENG c) < 2 ^ 2 := get_lt s (REED_CLST_SRCENG c)
    have : src = 3 * c + s.get (REED_CLST_SRCENG c) := rfl
    omega
  have ha : Canon (s.put (REED_CLST_REP c) 0) := canon_stored hs
  have hb : Canon ((s.put (REED_CLST_REP c) 0).put (REED_CLST_PROB c) 0) := canon_stored ha
  have h1 : Canon s1 := canon_stored hb
  have h2 : Canon (s1.put (REED_ENGST_PROB t) 0) := canon_stored h1
  refine ⟨?_, canon_modClu.2 h2, fun f hf => ?_⟩
  · rw [get_modClu]
    exact (get_put_ne (f := REED_ENGST_PROB t) s1 (by dsimp only; omega) 0).trans ((get_put_ne (f := REED_ENGST_SRC src) _ (by dsimp only; omega) 0).trans
      ((get_put_disjoint (f := REED_CLST_PROB c) ha (by dsimp only; decide) (.inr (.inl (by dsimp only; decide))) 0).trans
        (get_put_self (f := REED_CLST_REP c) hs (by dsimp only; decide) 0)))
  · obtain ⟨hclst, hengst⟩ := hf
    rw [get_modClu]
    exact (get_put_disjoint (f := REED_ENGST_PROB t) h1 (by dsimp only; decide) (by dsimp only; omega) 0).trans
      ((get_put_disjoint (f := REED_ENGST_SRC src) hb (by dsimp only; decide) (by dsimp only; omega) 0).trans
      ((get_put_disjoint (f := REED_CLST_PROB c) ha (by dsimp only; decide) (by dsimp only; omega) 0).trans
        (get_put_disjoint (f := REED_CLST_REP c) hs (by dsimp only; decide) (by dsimp only; omega) 0)))

theorem leaveCopy_get (f : Fld) : (leaveCopy c s).get f = s.get f := by
  unfold leaveCopy
  split <;> rfl

theorem leaveCopy_canon : Canon (leaveCopy c s) ↔ Canon s := by
  unfold leaveCopy
  split <;> rfl

/-- An attempt that fails and leaves its engine a further one (R230, R231). -/
theorem failAttempt_fields (hs : Canon s) (hc : c < 4) (heng : s.get (REED_CLST_REPENG c) < 3) (hk : k = 3 * c + s.get (REED_CLST_REPENG c))
    (htries : s.get (REED_ENGST_FAILS k) + 1 < s.get REED_CTL_TRIES) {reason : Nat} :
    (failAttempt c reason s).get (REED_CLST_REP c) = 0 ∧ (failAttempt c reason s).get (LOOM_STAT_STATE k) = 3 ∧
      (failAttempt c reason s).get (REED_ENGST_RETIRED k) = s.get (REED_ENGST_RETIRED k) := by
  unfold failAttempt
  extract_lets e k' s1 n s2
  obtain rfl : k' = k := hk.symm
  have hlt : k' < 12 := by
    have : k' = 3 * c + s.get (REED_CLST_REPENG c) := rfl
    omega
  obtain ⟨hrep, hc0, hkeep0⟩ := clearAttempt_fields (s := leaveCopy c s) (leaveCopy_canon.2 hs) hc
  obtain ⟨hstate, -, hc1, hkeep1⟩ := setEngState_fields (s := clearAttempt c (leaveCopy c s)) hc0 hlt (n := 3) (by decide)
  have hkeep : ∀ f : Fld, f.addr = 0x50080 + 4 * k' → 5 ≤ f.lo ∧ f.lo + f.wd ≤ 7 ∨ 8 ≤ f.lo →
      (setEngState k' 3 (clearAttempt c (leaveCopy c s))).get f = s.get f := fun f ha hlo =>
    (hkeep1 f (.inl (by omega)) (.inr (by omega))).trans ((hkeep0 f ⟨.inl (by omega), .inr (.inr (by omega))⟩).trans (leaveCopy_get f))
  have hfails := hkeep (REED_ENGST_FAILS k') rfl (by dsimp only; omega)
  have hretired := hkeep (REED_ENGST_RETIRED k') rfl (by dsimp only; omega)
  have hrep1 : (setEngState k' 3 (clearAttempt c (leaveCopy c s))).get (REED_CLST_REP c) = 0 :=
    (hkeep1 _ (.inl (by dsimp only; omega)) (.inl (by dsimp only; omega))).trans hrep
  have hcount : ∀ f : Fld, (f.addr ≠ 0x50080 + 4 * k' ∨ f.lo + f.wd ≤ 12) → f.addr ≠ 0x50070 + 4 * c →
      s1.get f = (setEngState k' 3 (clearAttempt c (leaveCopy c s))).get f := fun f ha hb =>
    (get_put_ne (f := REED_REPCNT_FAILS c) _ hb _).trans (get_put_disjoint (f := REED_ENGST_FAILS k') hc1 (by dsimp only; decide) (ha.imp_right .inl) _)
  have hn : n ≤ s.get (REED_ENGST_FAILS k') + 1 := by
    have hself : n = min ((setEngState k' 3 (clearAttempt c (leaveCopy c s))).get (REED_ENGST_FAILS k') + 1) (2 ^ 4 - 1) :=
      (get_put_ne (f := REED_REPCNT_FAILS c) _ (by dsimp only; omega) _).trans (get_count_self (f := REED_ENGST_FAILS k') hc1 (by dsimp only; decide))
    rw [hself, hfails]
    exact Nat.min_le_left _ _
  have hrest : s1.get (REED_CLST_REP c) = 0 ∧ s1.get (LOOM_STAT_STATE k') = 3 ∧ s1.get (REED_ENGST_RETIRED k') = s.get (REED_ENGST_RETIRED k') :=
    ⟨(hcount _ (.inl (by dsimp only; omega)) (by dsimp only; omega)).trans hrep1,
      (hcount _ (.inl (by dsimp only; omega)) (by dsimp only; omega)).trans hstate,
      (hcount _ (.inr (by dsimp only; omega)) (by dsimp only; omega)).trans hretired⟩
  clear_value n s1
  rw [if_neg (by omega)]
  have hevent : ∀ {f : Fld}, ¬ Loud f.addr → s2.get f = s1.get f := fun hf => (get_raiseF hf).trans (get_setEvt hf)
  exact ⟨(hevent (by rw [loud_iff]; dsimp only; omega)).trans hrest.1, (hevent (by rw [loud_iff]; dsimp only; omega)).trans hrest.2.1,
    (hevent (by rw [loud_iff]; dsimp only; omega)).trans hrest.2.2⟩

/-! ### An engine rejoins the vote -/

theorem of_two_of_three {p : Nat → Bool} {e m : Nat} (h : ((List.range 3).filter p).length = 2) (hm : p m = false) (hm3 : m < 3) (he : e < 3)
    (hne : e ≠ m) : p e = true := by
  by_contra hp
  have hle : ((List.range 3).filter p).length ≤ ((List.range 3).filter fun x => decide (x ≠ e) && decide (x ≠ m)).length := by
    refine (List.monotone_filter_right _ fun x hx => ?_).length_le
    have hxe : x ≠ e := fun h => hp (h ▸ hx)
    have hxm : x ≠ m := fun h => by rw [h, hm] at hx; exact absurd hx (by decide)
    simp [hxe, hxm]
  have hone : ((List.range 3).filter fun x => decide (x ≠ e) && decide (x ≠ m)).length = 1 := by
    interval_cases e <;> interval_cases m <;> first | rfl | exact absurd rfl hne
  omega

/-- An engine joins the vote of a cluster of two: its cluster goes on with three (R230). -/
structure JoinedVote (k : Nat) (s t : State) : Prop where
  vote : t.get (REED_ENGST_VOTE k) = 1
  mode : t.get (REED_CLST_MODE (k / 3)) = 1
  form : Canon t
  other : ∀ f : Fld, (f.addr ≠ 0x50080 + 4 * k ∨ f.lo + f.wd ≤ 3 ∨ 4 ≤ f.lo) → (f.addr ≠ 0x50050 + 4 * (k / 3) ∨ 6 ≤ f.lo) → t.get f = s.get f

theorem setVote_joined (hs : Canon s) (hk : k < 12) (hmode : s.get (REED_CLST_MODE (k / 3)) = 2) (htwo : (voters s (k / 3)).length = 2)
    (hout : s.get (REED_ENGST_VOTE k) = 0) : JoinedVote k s (setVote k true s) := by
  unfold setVote
  extract_lets c s1 s2 n m
  have h1 : Canon s1 := canon_stored hs
  have h2 : Canon s2 := canon_stored h1
  have hother : ∀ f : Fld, (f.addr ≠ 0x50080 + 4 * k ∨ f.lo + f.wd ≤ 3 ∨ 4 ≤ f.lo) →
      (f.addr ≠ 0x50050 + 4 * c ∨ f.lo + f.wd ≤ 3 ∨ 6 ≤ f.lo) → s2.get f = s.get f := fun f ha hb =>
    (get_put_disjoint (f := REED_CLST_VOTE c) h1 (by dsimp only; decide) hb _).trans (get_put_disjoint (f := REED_ENGST_VOTE k) hs (by dsimp only; decide) ha _)
  have hvote : s2.get (REED_ENGST_VOTE k) = 1 :=
    (get_put_ne (f := REED_CLST_VOTE c) s1 (by dsimp only; omega) _).trans (get_put_self (f := REED_ENGST_VOTE k) hs (by dsimp only; decide) 1)
  have hm : m = 2 := (hother (REED_CLST_MODE c) (.inl (by dsimp only; omega)) (.inr (.inl (by dsimp only; decide)))).trans hmode
  have hn : n = 3 := by
    refine (List.length_filter_eq_length_iff.2 fun e he => ?_).trans List.length_range
    have he := List.mem_range.1 he
    by_cases heq : 3 * c + e = k
    · rw [heq]
      simp [State.flag, hvote]
    · have hk3 : 3 * (k / 3) + k % 3 = k := Nat.div_add_mod k 3
      have hvotes : s.flag (REED_ENGST_VOTE (3 * (k / 3) + e)) = true :=
        of_two_of_three (p := fun e => s.flag (REED_ENGST_VOTE (3 * (k / 3) + e))) (m := k % 3) htwo (by simp [hk3, State.flag, hout])
          (Nat.mod_lt _ (by decide)) he (by omega)
      unfold State.flag
      rw [hother _ (.inl (by dsimp only; omega)) (.inl (by dsimp only; omega))]
      exact hvotes
  clear_value n m s2
  subst hn hm
  rw [if_neg (by decide), if_neg (by decide), if_pos rfl]
  exact
    { vote := (get_put_ne (f := REED_CLST_MODE c) s2 (by dsimp only; omega) 1).trans hvote
      mode := get_put_self (f := REED_CLST_MODE c) h2 (by dsimp only; decide) 1
      form := canon_stored h2
      other := fun f ha hb => (get_put_disjoint (f := REED_CLST_MODE c) h2 (by dsimp only; decide) (hb.imp_right fun h => .inr (by dsimp only; omega)) 1).trans
        (hother f ha (hb.imp_right fun h => .inr h)) }

/-! ### The halves -/

theorem halfBit_addr (c h : Nat) : (halfBit c h).addr = 0x50050 + 4 * c := rfl

theorem halfCnt_place (hc : c < 4) : (halfCnt c).addr = 0x500B0 ∧ (halfCnt c).lo + (halfCnt c).wd ≤ 32 := by
  interval_cases c <;> decide

/-- The halves of cluster `c` that are in service. -/
theorem get_half : s.get (REED_CLST_HALF c) = s.get (halfBit c 0) + 2 * s.get (halfBit c 1) := get_two_bits _ _

/-- The registers of a half that trips. -/
theorem halfTrip_fields (hs : Canon s) (hc : c < 4) {h : Nat} (hh : h < 2) (hboth : s.get (REED_CLST_HALF c) = 3) :
    ((s.put (halfBit c h) 0).count (halfCnt c)).get (REED_CLST_HALF c) = 2 - h ∧
      ((s.put (halfBit c h) 0).count (halfCnt c)).get (halfCnt c) = min (s.get (halfCnt c) + 1) (2 ^ (halfCnt c).wd - 1) ∧
      ((s.put (halfBit c h) 0).count (halfCnt c)).get (REED_CLST_MODE c) = s.get (REED_CLST_MODE c) := by
  obtain ⟨haddr, hfit⟩ := halfCnt_place hc
  have h1 : Canon (s.put (halfBit c h) 0) := canon_stored hs
  have hkeep : ∀ f : Fld, f.addr = 0x50050 + 4 * c → ((s.put (halfBit c h) 0).count (halfCnt c)).get f = (s.put (halfBit c h) 0).get f := fun f hf =>
    get_put_ne (f := halfCnt c) _ (by omega) _
  refine ⟨?_, ?_, ?_⟩
  · rw [hkeep _ rfl]
    have hself : (s.put (halfBit c h) 0).get (halfBit c h) = 0 := get_put_self hs (by dsimp only; omega) 0
    have hzero : s.get (halfBit c 0) < 2 ^ 1 := get_lt s (halfBit c 0)
    have hone : s.get (halfBit c 1) < 2 ^ 1 := get_lt s (halfBit c 1)
    have hsum := get_half (s := s) (c := c)
    rw [get_half]
    obtain rfl | rfl : h = 0 ∨ h = 1 := by omega
    · rw [hself, show (s.put (halfBit c 0) 0).get (halfBit c 1) = s.get (halfBit c 1) from
        get_put_disjoint hs (by dsimp only; omega) (.inr (.inr (by dsimp only; omega))) 0]
      omega
    · rw [hself, show (s.put (halfBit c 1) 0).get (halfBit c 0) = s.get (halfBit c 0) from
        get_put_disjoint hs (by dsimp only; omega) (.inr (.inl (by dsimp only; omega))) 0]
      omega
  · refine (get_count_self h1 hfit).trans ?_
    rw [show (s.put (halfBit c h) 0).get (halfCnt c) = s.get (halfCnt c) from get_put_ne (f := halfBit c h) s (by rw [haddr]; dsimp only; omega) 0]
  · rw [hkeep _ rfl]
    exact get_put_disjoint (f := halfBit c h) hs (by dsimp only; omega) (.inr (.inl (by dsimp only; omega))) 0

end

/-- Settles O28. -/
theorem repairsAndHalves : Obligations.RepairsAndHalves := by
  unfold Obligations.RepairsAndHalves
  intro s hinv
  have hs := canon_of_inv hinv
  refine ⟨?_, ?_, ?_, ?_, ?_, ?_, ?_, ?_⟩
  · intro c e src hc htarget hsource hvoters hmode hrep hfb hload hruns hclass
    refine doesWithin_run (fun t h => (frame_execRepairStart hc h).mono (by decide) (by decide)) ?_
    have he : e < 3 := lt_of_repairTarget htarget
    have hsrc : src < 3 := lt_of_mem_voters (List.mem_of_head? hsource)
    extract_lets vs
    rw [show repairTarget s.silent c = some e from htarget, show vs.head? = some src from hsource]
    dsimp -zeta only
    rw [if_pos (by simp [show vs.length = 2 from hvoters, hmode, hrep, hfb, hload, show wardenRuns s.silent = true from hruns,
      show inClass s.silent c 2 = true from hclass])]
    extract_lets k s1 s2 p s3
    have hk : k = 3 * c + e := rfl
    have h0 : Canon s.silent := hs
    have h1 : Canon s1 ∧ s1.get (REED_CLST_REP c) = 1 ∧ s1.get (REED_CLST_REPENG c) = e ∧ s1.get (REED_CLST_SRCENG c) = src :=
      ⟨by simp [s1, h0], by simp [s1, h0], by simp [s1, h0]; omega, by simp [s1, h0]; omega⟩
    clear_value s1
    obtain ⟨hc1, hrep1, heng1, hsrc1⟩ := h1
    have hc2 : Canon (s1.put (REED_ENGST_PROG k) 0) := canon_stored hc1
    have hc3 : Canon ((s1.put (REED_ENGST_PROG k) 0).put (REED_ENGST_SRC (3 * c + src)) 1) := canon_stored hc2
    obtain ⟨hstate, -, -, hkeep⟩ := setEngState_fields (s := (s1.put (REED_ENGST_PROG k) 0).put (REED_ENGST_SRC (3 * c + src)) 1) hc3
      (k := k) (by omega) (n := 4) (by decide)
    have hclst : ∀ f : Fld, f.addr = 0x50050 + 4 * c → s2.get f = s1.get f := fun f hf =>
      (hkeep f (.inl (by omega)) (.inl (by omega))).trans ((get_put_ne (f := REED_ENGST_SRC (3 * c + src)) _ (by dsimp only; omega) 1).trans
        (get_put_ne (f := REED_ENGST_PROG k) s1 (by dsimp only; omega) 0))
    have h2 : s2.get (REED_CLST_REP c) = 1 ∧ s2.get (REED_CLST_REPENG c) = e ∧ s2.get (REED_CLST_SRCENG c) = src ∧
        s2.get (LOOM_STAT_STATE k) = 4 ∧ s2.get (REED_ENGST_PROG k) = 0 ∧ s2.get (REED_ENGST_SRC (3 * c + src)) = 1 := by
      refine ⟨(hclst _ rfl).trans hrep1, (hclst _ rfl).trans heng1, (hclst _ rfl).trans hsrc1, hstate, ?_, ?_⟩
      · exact (hkeep _ (.inl (by dsimp only; omega)) (.inr (by dsimp only; omega))).trans
          ((get_put_disjoint (f := REED_ENGST_SRC (3 * c + src)) hc2 (by dsimp only; decide) (.inr (.inr (by dsimp only; decide))) 1).trans
            (get_put_self (f := REED_ENGST_PROG k) hc1 (by dsimp only; decide) 0))
      · exact (hkeep _ (.inl (by dsimp only; omega)) (.inr (by dsimp only; omega))).trans
          (get_put_self (f := REED_ENGST_SRC (3 * c + src)) hc2 (by dsimp only; decide) 1)
    have h3 : s3.regs = s2.regs := rfl
    have hend : ∀ (a b d : Nat) (g : Clu → Clu) (f : Fld), ¬ Loud f.addr → (raiseF a b d (modClu c g s3)).get f = s2.get f := fun a b d g f hf =>
      (get_raiseF hf).trans ((get_modClu f g).trans (get_of_regs h3 f))
    clear_value s3 s2
    rw [hend _ _ _ _ _ (by rw [loud_iff]; dsimp only; omega), hend _ _ _ _ _ (by rw [loud_iff]; dsimp only; omega),
      hend _ _ _ _ _ (by rw [loud_iff]; dsimp only; omega), hend _ _ _ _ _ (by rw [loud_iff]; dsimp only; omega),
      hend _ _ _ _ _ (by rw [loud_iff]; dsimp only; omega), hend _ _ _ _ _ (by rw [loud_iff]; dsimp only; omega)]
    exact h2
  · intro c bad hc hrep hprob hgood htime hlen hclu
    refine doesWithin_run (fun t h => (frame_execRepairVerified hc h).mono (by decide) (by decide)) ?_
    extract_lets k src
    rw [if_neg (by simp [hrep, hprob]), if_neg (by rw [Bool.not_eq_true]; exact hgood), if_neg (show ¬ (cluAt s.silent c).repTime < copyUnits + 8 from Nat.not_lt_of_le htime)]
    have hk : k = 3 * c + s.get (REED_CLST_REPENG c) := rfl
    have heng : engAt (modEng k (fun e => { src with eccCycle := e.eccCycle }) s.silent) k = { src with eccCycle := (engAt s.silent k).eccCycle } :=
      engAt_modEng hlen _
    have h1 : Canon (modEng k (fun e => { src with eccCycle := e.eccCycle }) s.silent) := hs
    have hclu1 : (modEng k (fun e => { src with eccCycle := e.eccCycle }) s.silent).clu = s.clu := rfl
    generalize modEng k (fun e => { src with eccCycle := e.eccCycle }) s.silent = t at *
    have hput : ((t.put (REED_CLST_PROB c) 1).put (REED_ENGST_PROB k) 1).loom = t.loom ∧ ((t.put (REED_CLST_PROB c) 1).put (REED_ENGST_PROB k) 1).clu = t.clu :=
      ⟨rfl, rfl⟩
    have hfield : ((t.put (REED_CLST_PROB c) 1).put (REED_ENGST_PROB k) 1).get (REED_CLST_PROB c) = 1 ∧
        ((t.put (REED_CLST_PROB c) 1).put (REED_ENGST_PROB k) 1).get (REED_ENGST_PROB k) = 1 :=
      ⟨(get_put_ne (f := REED_ENGST_PROB k) _ (by dsimp only; omega) 1).trans (get_put_self (f := REED_CLST_PROB c) h1 (by dsimp only; decide) 1),
        get_put_self (f := REED_ENGST_PROB k) (canon_stored h1) (by dsimp only; decide) 1⟩
    generalize (t.put (REED_CLST_PROB c) 1).put (REED_ENGST_PROB k) 1 = u at *
    obtain ⟨hloom, hclu2⟩ := hput
    have heng2 : engAt (modClu c (fun x => { x with probAt := some (absPick s.silent) }) u) k = { src with eccCycle := (engAt s.silent k).eccCycle } := by
      rw [← heng, ← engAt_of_loom hloom]
      rfl
    rw [get_modClu, get_modClu, cluAt_modClu (by rw [hclu2, hclu1]; exact hclu)]
    refine ⟨hfield.1, hfield.2, rfl, ?_, ?_, ?_⟩
    · exact (congrArg Eng.dm heng2 :)
    · exact (congrArg Eng.im heng2 :)
    · exact (congrArg Eng.g heng2 :)
  · intro c bad hc hrep hprob hbad heng htries
    refine doesWithin_run (fun t h => (frame_execRepairVerified hc h).mono (by decide) (by decide)) ?_
    extract_lets k src
    have hbad' : ((bad.filter fun x => blockRead (verifiedUnits (cluAt s.silent c)) (blockOf x.1)).any fun x =>
      blockDiffers s.silent c src bad (blockOf x.1)) = true := hbad
    rw [if_neg (by simp [hrep, hprob]), if_pos hbad', get_modEng, get_modEng, get_modEng]
    exact failAttempt_fields (s := s.silent) hs hc heng rfl htries
  · intro c bad hc hrep hprob hgood htime
    refine does_run (x := execRepairVerified _ _ _) rfl ?_
    extract_lets k src
    rw [if_neg (by simp [hrep, hprob]), if_neg (by rw [Bool.not_eq_true]; exact hgood)]
    exact if_pos htime
  · intro c p hc hat hprob hpick hlate heng hmode hvoters hvote
    refine doesWithin_run (fun t h => (frame_execRepairRejoin hc heng h).mono (by decide) (by decide)) ?_
    rw [show (cluAt s.silent c).probAt = some p from hat]
    dsimp only
    rw [if_neg (by simp [hprob, show pickOf s.silent = 0 from hpick]; exact hlate)]
    obtain ⟨hrep0, hc0, hkeep0⟩ := clearAttempt_fields (s := s.silent) hs hc
    generalize clearAttempt c s.silent = t at *
    generalize hk : 3 * c + s.silent.get (REED_CLST_REPENG c) = k at *
    have hk' : 3 * c + s.get (REED_CLST_REPENG c) = k := hk
    have hlt : k < 12 := by omega
    have hcluster : k / 3 = c := by omega
    rw [hk'] at hvote ⊢
    obtain ⟨hstate1, -, hc1, hkeep1⟩ := setEngState_fields hc0 hlt (n := 1) (by decide)
    have hkeep : ∀ f : Fld, ApartFromAttempt c f → f.addr ≠ 0x44040 + 0x1000 * k → (f.addr ≠ 0x50080 + 4 * k ∨ 3 ≤ f.lo) → (setEngState k 1 t).get f = s.get f :=
      fun f hf ha hb => (hkeep1 f (.inl ha) hb).trans (hkeep0 f hf)
    have hrep1 : (setEngState k 1 t).get (REED_CLST_REP c) = 0 := (hkeep1 _ (.inl (by dsimp only; omega)) (.inl (by dsimp only; omega))).trans hrep0
    generalize setEngState k 1 t = u at *
    have hjoin := setVote_joined hc1 hlt (by
        rw [hcluster]
        exact (hkeep _ ⟨by dsimp only; omega, by dsimp only; omega⟩ (by dsimp only; omega) (by dsimp only; omega)).trans hmode)
      (by
        rw [hcluster]
        refine Eq.trans (congrArg List.length (List.filter_congr fun x hx => ?_)) hvoters
        have hx := List.mem_range.1 hx
        unfold State.flag
        rw [hkeep _ ⟨by dsimp only; omega, by dsimp only; omega⟩ (by dsimp only; omega) (by dsimp only; omega)])
      ((hkeep _ ⟨by dsimp only; omega, by dsimp only; omega⟩ (by dsimp only; omega) (by dsimp only; omega)).trans hvote)
    have hthree := hjoin.mode
    rw [hcluster] at hthree
    have hother : ∀ f : Fld, (f.addr ≠ 0x50080 + 4 * k ∨ f.lo + f.wd ≤ 3 ∨ 4 ≤ f.lo) → (f.addr ≠ 0x50050 + 4 * c ∨ 6 ≤ f.lo) →
        (setVote k true u).get f = u.get f := fun f ha hb => hjoin.other f ha (by rw [hcluster]; exact hb)
    have hvote3 := hjoin.vote
    have hc3 := hjoin.form
    generalize setVote k true u = v at *
    have hc4 : Canon (v.put (REED_ENGST_FAILS k) 0) := canon_stored hc3
    have hend : ∀ (a b d : Nat) (f : Fld), ¬ Loud f.addr → f.addr ≠ 0x50070 + 4 * c →
        (reedEvent a b d ((v.put (REED_ENGST_FAILS k) 0).count (REED_REPCNT_DONE c))).get f = (v.put (REED_ENGST_FAILS k) 0).get f := fun a b d f hf ha =>
      (get_raiseF hf).trans ((get_setEvt hf).trans (get_put_ne (f := REED_REPCNT_DONE c) _ ha _))
    refine ⟨?_, ?_, ?_, ?_, ?_⟩
    · exact (hend _ _ _ _ (by rw [loud_iff]; dsimp only; omega) (by dsimp only; omega)).trans
        ((get_put_disjoint (f := REED_ENGST_FAILS k) hc3 (by dsimp only; decide) (.inr (.inl (by dsimp only; decide))) 0).trans hvote3)
    · exact (hend _ _ _ _ (by rw [loud_iff]; dsimp only; omega) (by dsimp only; omega)).trans
        ((get_put_ne (f := REED_ENGST_FAILS k) v (by dsimp only; omega) 0).trans ((hother _ (.inl (by dsimp only; omega)) (.inl (by dsimp only; omega))).trans hstate1))
    · exact (hend _ _ _ _ (by rw [loud_iff]; dsimp only; omega) (by dsimp only; omega)).trans
        ((get_put_ne (f := REED_ENGST_FAILS k) v (by dsimp only; omega) 0).trans hthree)
    · exact (hend _ _ _ _ (by rw [loud_iff]; dsimp only; omega) (by dsimp only; omega)).trans
        ((get_put_ne (f := REED_ENGST_FAILS k) v (by dsimp only; omega) 0).trans ((hother _ (.inl (by dsimp only; omega)) (.inr (by dsimp only; omega))).trans hrep1))
    · exact (hend _ _ _ _ (by rw [loud_iff]; dsimp only; omega) (by dsimp only; omega)).trans
        (get_put_self (f := REED_ENGST_FAILS k) hc3 (by dsimp only; decide) 0)
  · intro c h hc hh hboth hclu
    refine doesWithin_run (fun t h => (frame_execReedHalfTrip hc h).mono (by decide) (by decide)) ?_
    have hflag : s.silent.flag (halfBit c h) = true := by
      have hzero : s.get (halfBit c 0) < 2 ^ 1 := get_lt s (halfBit c 0)
      have hone : s.get (halfBit c 1) < 2 ^ 1 := get_lt s (halfBit c 1)
      have hsum := get_half (s := s) (c := c)
      obtain rfl | rfl : h = 0 ∨ h = 1 := by omega
      · exact beq_of_eq (show s.get (halfBit c 0) = 1 by omega)
      · exact beq_of_eq (show s.get (halfBit c 1) = 1 by omega)
    rw [if_neg (by simp [hflag, hc, hh])]
    extract_lets s1 s2 s3
    obtain ⟨hhalf, hcnt, hmode⟩ := halfTrip_fields (s := s.silent) hs hc hh hboth
    obtain ⟨haddr, -⟩ := halfCnt_place hc
    have h1 : s1.get (REED_CLST_HALF c) = 2 - h ∧ s1.get (halfCnt c) = min (s.get (halfCnt c) + 1) (2 ^ (halfCnt c).wd - 1) ∧
        s1.get (REED_CLST_MODE c) = s.get (REED_CLST_MODE c) ∧ s1.clu = s.clu := ⟨hhalf, hcnt, hmode, rfl⟩
    clear_value s1
    obtain ⟨hhalf1, hcnt1, hmode1, hclu1⟩ := h1
    have hget : ∀ f : Fld, ¬ Loud f.addr → s3.get f = s1.get f := fun f hf => (get_raiseF hf).trans ((get_setEvt hf).trans (get_modClu f _))
    have hclu3 : cluAt s3 c = { cluAt s c with halfAt := (cluAt s c).halfAt.set h (some (absPick s)), halfTest := (cluAt s c).halfTest.set h 1 } := by
      have hevent : s3.clu = s2.clu := by simp [s3, reedEvent]
      have hsame : cluAt s1 c = cluAt s c := by
        unfold cluAt
        rw [hclu1]
      calc cluAt s3 c
        _ = cluAt s2 c := by unfold cluAt; rw [hevent]
        _ = { cluAt s1 c with halfAt := (cluAt s1 c).halfAt.set h (some (absPick s)), halfTest := (cluAt s1 c).halfTest.set h 1 } :=
          cluAt_modClu (by rw [hclu1]; exact hclu) _
        _ = _ := by rw [hsame]
    have hhalf3 := (hget (REED_CLST_HALF c) (by rw [loud_iff]; dsimp only; omega)).trans hhalf1
    have hmode3 := (hget (REED_CLST_MODE c) (by rw [loud_iff]; dsimp only; omega)).trans hmode1
    have hcnt3 := (hget (halfCnt c) (by rw [loud_iff, haddr]; omega)).trans hcnt1
    clear_value s3
    rw [if_neg (by omega)]
    exact ⟨hhalf3, hcnt3, by rw [hclu3], hmode3⟩
  · intro c h pass htest hclu
    refine doesWithin_run (fun t h => frame_execHalfSelftestDone h) ?_
    rw [if_neg (by rw [show (cluAt s.silent c).halfTest.getD h 0 = 1 from htest]; decide)]
    extract_lets s1
    have h1 : s1.clu = (modClu c (fun x => { x with halfTest := x.halfTest.set h (if pass then 2 else 3) }) s).clu := rfl
    have hclu1 : cluAt s1 c = { cluAt s c with halfTest := (cluAt s c).halfTest.set h (if pass then 2 else 3) } := cluAt_modClu (s := s.silent) hclu _
    cases pass with
    | true => exact ⟨congrArg Clu.halfTest hclu1, fun _ => rfl⟩
    | false =>
      refine ⟨?_, fun h => absurd h (by decide)⟩
      refine Eq.trans ?_ (congrArg Clu.halfTest hclu1)
      unfold cluAt
      rw [if_neg (by decide), raiseF_clu]
  · intro c h p hc hh htest hat hlate hpick hclu
    refine doesWithin_run (fun t h => frame_execHalfRejoin hc h) ?_
    extract_lets x late
    have hx : x = cluAt s c := rfl
    have hlate' : late = true := by
      unfold late
      rw [hx, hat]
      exact decide_eq_true hlate
    rw [if_pos (by simp only [hx, htest, hlate', show pickOf s.silent = 0 from hpick, decide_true, Bool.and_self])]
    refine ⟨(get_raiseF (by rw [loud_iff]; dsimp only; omega)).trans ((get_setEvt (by rw [loud_iff]; dsimp only; omega)).trans ((get_modClu _ _).trans
      (get_put_self (f := halfBit c h) (s := s.silent) hs (by dsimp only; omega) 1))), ?_⟩
    have hclu1 := cluAt_modClu (s := s.silent.put (halfBit c h) 1) hclu fun x => { x with halfTest := x.halfTest.set h 0, halfAt := x.halfAt.set h none }
    refine Eq.trans ?_ (congrArg Clu.halfTest hclu1)
    unfold cluAt reedEvent
    rw [raiseF_clu, setEvt_clu]

end Sys2Proof.Machine
end

section
/-! SUPPORT. What the plan of a cluster depends on, through the ends of heddles and the stops of engines (R140, R159, R225). -/

namespace Sys2Proof.Machine

set_option Elab.async false

/-- Two states in which every cluster has the same plan, with as many clusters. -/
structure SamePlan (s t : State) : Prop where
  run : t.flag WEAVE_STAT_RUN = s.flag WEAVE_STAT_RUN
  fallback : t.flag WEAVE_STAT_FB = s.flag WEAVE_STAT_FB
  image : t.weave.img = s.weave.img
  warp : t.warp = s.warp
  clusters : t.clu.length = s.clu.length

section
variable {s t u : State} {k c : Nat}

theorem SamePlan.refl (s : State) : SamePlan s s := ⟨rfl, rfl, rfl, rfl, rfl⟩

theorem SamePlan.trans (h : SamePlan s t) (h' : SamePlan t u) : SamePlan s u :=
  ⟨h'.run.trans h.run, h'.fallback.trans h.fallback, h'.image.trans h.image, h'.warp.trans h.warp, h'.clusters.trans h.clusters⟩

theorem SamePlan.plan (h : SamePlan s t) (c : Nat) : planNow t c = planNow s c := by
  unfold planNow planAt pickOf
  rw [h.run, h.fallback, h.image, h.warp]

theorem samePlan_foldl {α : Type} {f : State → α → State} {l : List α} (h : ∀ t x, x ∈ l → SamePlan t (f t x)) : SamePlan s (l.foldl f s) :=
  List.foldlRecOn (motive := fun t => SamePlan s t) l f (.refl s) fun t ht x hx => ht.trans (h t x hx)

/-- An operation that leaves page 0x41, the warp, the weave's image and the number of clusters alone. -/
theorem Within.samePlan {G : List Nat} {Q : List Part} (h : Within G Q s t) (hG : 0x41 ∉ G) (hQ : .warp ∉ Q) (himg : t.weave.img = s.weave.img)
    (hclu : t.clu.length = s.clu.length) : SamePlan s t :=
  ⟨h.flag hG, h.flag hG, himg, h.same .warp hQ, hclu⟩

theorem Within.samePlan_of_parts {G : List Nat} {Q : List Part} (h : Within G Q s t) (hG : 0x41 ∉ G := by decide)
    (hQ : .warp ∉ Q ∧ .weave ∉ Q ∧ .clu ∉ Q := by decide) : SamePlan s t :=
  h.samePlan hG hQ.1 (by rw [show t.weave = s.weave from h.same .weave hQ.2.1]) (by rw [show t.clu = s.clu from h.same .clu hQ.2.2])

theorem samePlan_modEng (f : Eng → Eng) : SamePlan s (modEng k f s) := ⟨rfl, rfl, rfl, rfl, rfl⟩

theorem samePlan_modClu (f : Clu → Clu) : SamePlan s (modClu c f s) := ⟨rfl, rfl, rfl, rfl, List.length_modify _ _ _⟩

theorem samePlan_clearAttempt (hc : c < 4) : SamePlan s (clearAttempt c s) := by
  have hwithin : Within [0x50] [.clu] s (clearAttempt c s) := within_clearAttempt (within_refl _ _ _)
  refine hwithin.samePlan (by decide) (by decide) ?_ ?_
  · rw [show (clearAttempt c s).weave = s.weave from hwithin.same .weave (by decide)]
  · exact List.length_modify _ _ _

theorem samePlan_leaveCopy : SamePlan s (leaveCopy c s) :=
  have hwithin : Within [] [.loom] s (leaveCopy c s) := within_leaveCopy (within_refl _ _ _)
  hwithin.samePlan_of_parts

theorem samePlan_setEngState {n : Nat} (hk : k < 13) : SamePlan s (setEngState k n s) :=
  have hwithin : Within ([0x50] ++ loomPages) [] s (setEngState k n s) := within_setEngState (within_refl _ _ _)
  hwithin.samePlan_of_parts

theorem samePlan_abandonAttempt (hc : c < 4) : SamePlan s (abandonAttempt c s) := by
  have hr : s.get (REED_CLST_REPENG c) < 2 ^ 2 := get_lt s (REED_CLST_REPENG c)
  unfold abandonAttempt
  split
  · exact (samePlan_leaveCopy.trans (samePlan_clearAttempt hc)).trans (samePlan_setEngState (by omega))
  · exact .refl s

theorem samePlan_failAttempt (hc : c < 4) {reason : Nat} : SamePlan s (failAttempt c reason s) := by
  have hr : s.get (REED_CLST_REPENG c) < 2 ^ 2 := get_lt s (REED_CLST_REPENG c)
  unfold failAttempt
  extract_lets e k s1 n s2
  have hk : k < 13 := by
    have : k = 3 * c + s.get (REED_CLST_REPENG c) := rfl
    omega
  have h0 : SamePlan s (setEngState k 3 (clearAttempt c (leaveCopy c s))) :=
    (samePlan_leaveCopy.trans (samePlan_clearAttempt hc)).trans (samePlan_setEngState hk)
  have h1 : Within [0x50] [] (setEngState k 3 (clearAttempt c (leaveCopy c s))) s1 := within_count (within_count (within_refl _ _ _))
  clear_value n s1
  have h2 : Within [0x02, 0x09, 0x50, 0x51] [.link, .intc] s1 s2 := within_reedEvent (within_refl _ _ _)
  have h3 : Within [0x02, 0x09, 0x50, 0x51] [.link, .intc] s2 (reedEvent 3 5 (c + 4 * e) (s2.put (REED_ENGST_RETIRED k) 1)) :=
    within_reedEvent (within_put (within_refl _ _ _))
  clear_value s2
  split
  · exact ((h0.trans h1.samePlan_of_parts).trans h2.samePlan_of_parts).trans h3.samePlan_of_parts
  · exact (h0.trans h1.samePlan_of_parts).trans h2.samePlan_of_parts

/-- A fault of the converter is recorded beside the image and the flags that say which plan runs. -/
theorem samePlan_converterFault {cause : Nat} (hs : Canon s) : SamePlan s (converterFault cause s) := by
  unfold converterFault
  extract_lets w s1 p
  have h1 : SamePlan s s1 := by
    refine ⟨?_, ?_, by simp [s1], by simp [s1], by simp [s1]⟩
    · rw [show s1.flag WEAVE_STAT_RUN = _ from flag_raiseF (by simp)]
      exact flag_store_other hs (by decide) (.inr (.inl (by decide)))
    · rw [show s1.flag WEAVE_STAT_FB = _ from flag_raiseF (by simp)]
      exact flag_store_other hs (by decide) (.inr (.inl (by decide)))
  clear_value s1
  split
  · exact .refl s
  · split
    · exact ⟨rfl, rfl, rfl, rfl, rfl⟩
    · split
      · exact ⟨h1.run, h1.fallback, h1.image, h1.warp, h1.clusters⟩
      · exact h1

theorem samePlan_clusterStop (hs : Canon s) (hc : c < 4) : SamePlan s (clusterStop c s) := by
  unfold clusterStop
  extract_lets x w wv q s1
  have h1 : Within ringPages [.pwr] { s with weave := wv, pwr := { s.pwr with forceBlock := true } } s1 :=
    within_assertOpen (within_blockTokens (within_refl _ _ _))
  have h0 : SamePlan s { s with weave := wv, pwr := { s.pwr with forceBlock := true } } := ⟨rfl, rfl, rfl, rfl, rfl⟩
  have hc1 : Canon s1 := h1.wf hs
  have h2 : Within [0x50] [] s1 (s1.put (REED_CLST_MODE c) 3) := within_put (within_refl _ _ _)
  clear_value s1
  exact (h0.trans h1.samePlan_of_parts).trans (h2.samePlan_of_parts.trans (samePlan_converterFault (h2.wf hc1)))

theorem samePlan_reedStop (hs : Canon s) (hc : c < 4) {reason : Nat} : SamePlan s (reedStop c reason s) := by
  have hevent : Within [0x02, 0x09, 0x50, 0x51] [.link, .intc] s (reedEvent 6 0xA (c + 4 * reason) s) := within_reedEvent (within_refl _ _ _)
  unfold reedStop
  split
  · exact .refl s
  · exact hevent.samePlan_of_parts.trans (samePlan_clusterStop (hevent.wf hs) hc)

theorem samePlan_setVote (hs : Canon s) (hk : k < 12) {b : Bool} : SamePlan s (setVote k b s) := by
  unfold setVote
  extract_lets d s1 s2 n m
  have hd : d = k / 3 := rfl
  have h2 : Within [0x50] [] s s2 := within_put (within_putB (within_refl _ _ _))
  have h3 : Within [0x50] [] s2 (s2.put (REED_CLST_MODE d) (if n = 3 then 1 else 2)) := within_put (within_refl _ _ _)
  clear_value n m s2 s1
  split
  · exact h2.samePlan_of_parts
  · split
    · exact h2.samePlan_of_parts.trans (samePlan_reedStop (h2.wf hs) (by omega))
    · exact h2.samePlan_of_parts.trans h3.samePlan_of_parts

theorem samePlan_stopEngine (hs : Canon s) (hk : k < 12) {cause sub lc : Nat} {x : Option Attr} {late : Bool} :
    SamePlan s (stopEngine k cause sub x late lc s) := by
  unfold stopEngine
  extract_lets st s1 d s2
  have hd : d < 4 := by
    have : d = k / 3 := rfl
    omega
  have h1 : Within ([0x02, 0x09, 0x50, 0x51] ++ loomPages) [.link, .intc, .loom] s s1 := within_modEng (within_stopRecord (within_refl _ _ _))
  have hc1 : Canon s1 := h1.wf hs
  have hp1 : SamePlan s s1 := h1.samePlan_of_parts
  clear_value s1
  have h2 : SamePlan s s2 ∧ Canon s2 := by
    have habandon : Within ([0x50] ++ loomPages) [.loom, .clu] s1 (abandonAttempt d s1) := within_abandonAttempt (within_refl _ _ _)
    unfold s2
    split
    · exact ⟨hp1.trans (samePlan_abandonAttempt hd), habandon.wf hc1⟩
    · exact ⟨hp1, hc1⟩
  clear_value s2
  have hput : Within ([0x50] ++ loomPages) [] s1 (setEngState k 3 (s1.put (LOOM_STEPCTL_N k) 0)) := within_setEngState (within_put (within_refl _ _ _))
  have hcount : Within ([0x50] ++ loomPages) [] s2 (countOut k (setEngState k 2 s2)) := within_countOut (within_setEngState (within_refl _ _ _))
  have hstate : Within ([0x50] ++ loomPages) [] s2 (setEngState k 2 s2) := within_setEngState (within_refl _ _ _)
  split
  · exact .refl s
  · split
    · exact hp1.trans hput.samePlan_of_parts
    · split
      · exact hp1.trans (samePlan_failAttempt (by omega))
      · split
        · exact h2.1.trans hcount.samePlan_of_parts
        · exact h2.1.trans (hstate.samePlan_of_parts.trans (samePlan_setVote (hstate.wf h2.2) hk))

/-- A state with its form, and the same plans as another. -/
def PlanKept (s t : State) : Prop := SamePlan s t ∧ Canon t

theorem planKept_landDue (hs : Canon s) (hk : k < 12) : PlanKept s (landDue k s) := by
  unfold landDue
  extract_lets e due s1
  have h1 : PlanKept s s1 := ⟨samePlan_modEng _, hs⟩
  clear_value s1
  refine List.foldlRecOn (motive := fun t => PlanKept s t) due _ h1 fun t ht f _ => ?_
  obtain ⟨hp, hc⟩ := ht
  split
  · rename_i mem addr _
    have hue : Within loomPages [] t (eccUe k mem addr false t) := within_eccUe (within_refl _ _ _)
    have hstop : Within ([0x02, 0x09, 0x41, 0x50, 0x51] ++ loomPages ++ ringPages) [.pwr, .link, .intc, .weave, .loom, .clu] (eccUe k mem addr false t)
      (stopEngine k 2 f.val (some f.attr) true (lcOf t (engAt t k) f.ready) (eccUe k mem addr false t)) := within_stopEngine (within_refl _ _ _)
    exact ⟨hp.trans (hue.samePlan_of_parts.trans (samePlan_stopEngine (hue.wf hc) hk)), hstop.wf (hue.wf hc)⟩
  · split
    rename_i rise e1 _
    have hflags : Within ([0x02, 0x09, 0x51] ++ loomPages) [.link, .intc] (modEng k (fun _ => e1) t) (flagEvents k f.bg rise (modEng k (fun _ => e1) t)) :=
      within_flagEvents (within_refl _ _ _)
    exact ⟨hp.trans ((samePlan_modEng _).trans hflags.samePlan_of_parts), hflags.wf hc⟩

theorem planKept_clockTo (hs : Canon s) (hc : c < 4) {n : Nat} : PlanKept s (clockTo c n s) := by
  unfold clockTo
  refine List.foldlRecOn (motive := fun t => PlanKept s t) _ _ ⟨.refl s, hs⟩ fun t ht k hk => ?_
  have hk : k < 12 := by
    simp only [List.mem_cons, List.not_mem_nil, or_false] at hk
    omega
  obtain ⟨hp, hct⟩ := ht
  have hland := planKept_landDue (s := modEng k (fun e => { e with now := e.now + (n - e.lc), lc := max e.lc n }) t) hct hk
  exact ⟨hp.trans ((samePlan_modEng _).trans hland.1), hland.2⟩

theorem samePlan_jobsEnded : SamePlan s (jobsEnded c s) := by
  unfold jobsEnded
  extract_lets ks
  split
  · split
    · split
      · exact samePlan_modClu _
      · exact .refl s
    · exact .refl s
  · exact .refl s

theorem samePlan_parkAll : SamePlan s (parkAll c s) :=
  samePlan_jobsEnded.trans (samePlan_foldl fun _ _ _ => samePlan_modEng _)

theorem samePlan_bgWork (hc : c < 4) {h : Heddle} : SamePlan s (bgWork c h s) := by
  have hwithin : Within [0x50, 0x7C] [.clu, .heat] s (bgWork c h s) := within_bgWork (within_refl _ _ _)
  refine hwithin.samePlan (by decide) (by decide) ?_ ?_
  · rw [show (bgWork c h s).weave = s.weave from hwithin.same .weave (by decide)]
  · unfold bgWork
    extract_lets _ _ _ _ _ _
    split
    · split <;> rfl
    · split
      · exact List.length_modify _ _ _
      · rfl

theorem overrun_clusters (hs : Canon s) (hc : c < 4) {lc : Nat} : (overrun c lc s).clu.length = s.clu.length ∧ Canon (overrun c lc s) := by
  unfold overrun
  extract_lets bad s1
  have h1 : s1.clu.length = s.clu.length ∧ Canon s1 := by
    refine List.foldlRecOn (motive := fun t => t.clu.length = s.clu.length ∧ Canon t) bad _ ⟨rfl, hs⟩ fun t ht k hk => ?_
    have hk : k < 12 := by
      have := lt_of_mem_issuers (List.mem_filter.1 hk).1
      omega
    obtain ⟨hlen, hct⟩ := ht
    generalize hu : (if t.get (LOOM_STAT_STATE k) = 1 then { t with weave := { t.weave with viols := t.weave.viols ++ [(c, k % 3, 1)] } } else t) = u
    have hu1 : u.clu = t.clu ∧ Canon u := by
      rw [← hu]
      split
      · exact ⟨rfl, hct⟩
      · exact ⟨rfl, hct⟩
    have hstop : Within ([0x02, 0x09, 0x41, 0x50, 0x51] ++ loomPages ++ ringPages) [.pwr, .link, .intc, .weave, .loom, .clu] u
      (stopEngine k 4 1 (engAt t k).lastAttr true lc u) := within_stopEngine (within_refl _ _ _)
    exact ⟨(samePlan_stopEngine hu1.2 hk).clusters.trans ((congrArg List.length hu1.1).trans hlen), hstop.wf hu1.2⟩
  clear_value s1
  have hvote : Within ([0x02, 0x09, 0x41, 0x50, 0x51] ++ ringPages) [.pwr, .link, .intc, .weave] s1 (voteChecks c s1) := within_voteChecks (within_refl _ _ _)
  split
  · exact h1
  · exact ⟨(congrArg List.length (show (voteChecks c s1).clu = s1.clu from hvote.same .clu (by decide))).trans h1.1, hvote.wf h1.2⟩

/-! ### The heddle that runs -/

theorem cluAt_of_clu (h : t.clu = s.clu) (c : Nat) : cluAt t c = cluAt s c := by
  unfold cluAt
  rw [h]

theorem runJob_clu (hc : c < 4) {j : Nat} : (runJob c j s).clu = s.clu := by
  have hwithin : Within loomPages [.loom] s (runJob c j s) := within_runJob (within_refl _ _ _)
  exact hwithin.same .clu (by decide)

theorem startHeddle_heddle (hs : Canon s) (hc : c < 4) (hclu : c < s.clu.length) {i : Nat} {h : Heddle} (hplan : (planNow s c)[i]? = some h) :
    (cluAt (startHeddle c i s) c).heddle = some i := by
  unfold startHeddle
  rw [hplan]
  dsimp -zeta only
  extract_lets s0 s1
  obtain ⟨hclock, -⟩ := planKept_clockTo hs hc (n := h.start)
  have h0 : Within loomPages [] (clockTo c h.start s) s0 :=
    within_foldl_mem (within_refl _ _ _) fun _ e he k => have he := le_of_mem_three he; within_put (within_put k)
  have hlen : c < s0.clu.length := by
    rw [show s0.clu = (clockTo c h.start s).clu from h0.same .clu (by decide), hclock.clusters]
    exact hclu
  have h1 : (cluAt s1 c).heddle = some i := congrArg Clu.heddle (cluAt_modClu hlen _)
  clear_value s1 s0
  split
  · refine (congrArg Clu.heddle (cluAt_of_clu ?_ c)).trans h1
    exact List.foldlRecOn (motive := fun t : State => t.clu = s1.clu) _ _ rfl fun t ht k _ => ht
  · split
    · exact (congrArg Clu.heddle (cluAt_of_clu (runJob_clu hc) c)).trans h1
    · exact h1

theorem startSlack_heddle (hs : Canon s) (hc : c < 4) (hclu : c < s.clu.length) : (cluAt (startSlack c s) c).heddle = none := by
  unfold startSlack
  extract_lets s1
  obtain ⟨hclock, -⟩ := planKept_clockTo hs hc (n := 4185)
  have h1 : (cluAt s1 c).heddle = none := congrArg Clu.heddle (cluAt_modClu (by rw [hclock.clusters]; exact hclu) _)
  clear_value s1
  split
  · extract_lets j
    split
    · exact h1
    · exact (congrArg Clu.heddle (cluAt_of_clu (runJob_clu hc) c)).trans h1
  · exact h1

end

end Sys2Proof.Machine
end

section
/-! PROOFS. Heddles that end, the fallback, and the vote on a record (R149, R159, R161, R165, R166, R167, R224, R226, R234). -/

namespace Sys2Proof.Machine

set_option Elab.async false

section
variable {s t : State} {c k : Nat}

/-! ### A deadline missed (R165) -/

theorem missDeadline_fields (hs : Canon s) (hc : c < 4) {job : Nat} (hjob : job < 16) (hnew : (cluAt s c).missed.contains job = false) :
    (missDeadline c job s).get WEAVE_BGSTAT_JOB = job ∧ (missDeadline c job s).get WEAVE_BGSTAT_CLUSTER = c ∧
      (missDeadline c job s).get WEAVE_BGSTAT_MISSES = min (s.get WEAVE_BGSTAT_MISSES + 1) (2 ^ WEAVE_BGSTAT_MISSES.wd - 1) := by
  unfold missDeadline
  rw [hnew, if_neg (by decide)]
  extract_lets s1
  have h1 : s1.get WEAVE_BGSTAT_JOB = job ∧ s1.get WEAVE_BGSTAT_CLUSTER = c ∧
      s1.get WEAVE_BGSTAT_MISSES = min (s.get WEAVE_BGSTAT_MISSES + 1) (2 ^ WEAVE_BGSTAT_MISSES.wd - 1) :=
    ⟨by simp [s1, hs]; omega, by simp [s1, hs]; omega, by simp [s1, hs]⟩
  clear_value s1
  obtain ⟨hj, hcl, hm⟩ := h1
  exact ⟨by simp [get_modClu, hj], by simp [get_modClu, hcl], by simp [get_modClu, hm]⟩

/-! ### The vote on a record (R224) -/

theorem cellAt_setCell_of_ne {a : Nat} {w d : Word} (hw : w ≠ d) (m : List (Nat × Word)) : cellAt (setCell a w d m) a = some w := by
  induction m with
  | nil => simp [setCell, hw, cellAt]
  | cons x m ih =>
    obtain ⟨b, v⟩ := x
    unfold setCell
    split
    · rename_i hlt
      simp [cellAt, Nat.ne_of_lt hlt, ih]
    · split
      · simp [cellAt]
      · simp [cellAt]

theorem memAt_memSet_self {n : Nat} {w : Word} (hw : w ≠ 0) (m : List (Nat × Word)) : memAt (memSet n w m) n = w := by
  unfold memAt memSet
  rw [cellAt_setCell_of_ne hw]
  rfl

theorem dropRecs_keeps (b : Nat) : (dropRecs c b s).regs = s.regs ∧ (dropRecs c b s).weave = s.weave ∧ (dropRecs c b s).twin = s.twin := by
  unfold dropRecs
  exact List.foldlRecOn (motive := fun t : State => t.regs = s.regs ∧ t.weave = s.weave ∧ t.twin = s.twin) _ _ ⟨rfl, rfl, rfl⟩ fun t ht k _ => ht

theorem voteChecks_quiet (h : s.weave.viols = []) : voteChecks c s = s := by
  unfold voteChecks
  rw [h]
  rfl

theorem majority_of_three (x : Option Rec) : majority [(0, x), (1, x), (2, x)] = some (x, []) := by
  unfold majority
  simp

theorem commitRecord_shared {r : Rec} (hkind : r.kind = 3) : (commitRecord c r s).weave.shared = memSet (r.a.toNat % 16384) r.b s.weave.shared ∧
    (commitRecord c r s).regs = s.regs := by
  unfold commitRecord
  extract_lets lc p s1
  have h1 : s1.weave = s.weave ∧ s1.regs = s.regs := by
    unfold s1
    split
    · exact ⟨rfl, rfl⟩
    · exact ⟨rfl, rfl⟩
  clear_value s1
  rw [if_neg (by omega), if_neg (by omega), if_pos hkind]
  exact ⟨by rw [h1.1], h1.2⟩

theorem commitVote_agreed {b : Nat} {r : Rec} (hviols : s.weave.viols = []) (hcommit : s.weave.noCommit.getD c false = false)
    (hmode : s.get (REED_CLST_MODE c) ≠ 3) (hlive : liveVoters s c = [0, 1, 2]) (h0 : recAt s (3 * c) b = some r) (h1 : recAt s (3 * c + 1) b = some r)
    (h2 : recAt s (3 * c + 2) b = some r) (hprob : s.flag (REED_CLST_PROB c) = false) :
    commitVote c b s = commitRecord c r (dropRecs c b s) := by
  unfold commitVote
  rw [voteChecks_quiet hviols]
  extract_lets s0 rs
  have hrs : rs = [(0, some r), (1, some r), (2, some r)] := by
    unfold rs s0
    rw [hlive]
    simp [h0, h1, h2]
  rw [if_neg (by rw [show s0 = s from rfl, hcommit]; simp [hmode]), hrs, if_neg (by simp), majority_of_three]
  dsimp only
  rw [show probationCheck c b (some r) s0 = s from if_neg (by rw [show s0 = s from rfl, hprob]; simp)]
  rfl

/-- The reed stops a cluster whose halves differ (R234). -/
theorem reedStop_fields (hs : Canon s) {reason : Nat} (hmode : s.get (REED_CLST_MODE c) ≠ 3) (hc : c < 4) :
    (reedStop c reason s).get (REED_CLST_MODE c) = 3 ∧ (reedStop c reason s).pwr.forceBlock = true ∧
      (reedStop c reason s).weave.shared = s.weave.shared := by
  have hevent : Within [0x02, 0x09, 0x50, 0x51] [.link, .intc] s (reedEvent 6 0xA (c + 4 * reason) s) := within_reedEvent (within_refl _ _ _)
  have hc0 : Canon (reedEvent 6 0xA (c + 4 * reason) s) := hevent.wf hs
  have hweave : (reedEvent 6 0xA (c + 4 * reason) s).weave = s.weave := hevent.same .weave (by decide)
  unfold reedStop
  rw [if_neg hmode]
  generalize reedEvent 6 0xA (c + 4 * reason) s = t at *
  unfold clusterStop
  extract_lets f w wv q s1
  have hblock : Within ringPages [] { t with weave := wv, pwr := { t.pwr with forceBlock := true } }
    (blockTokens { t with weave := wv, pwr := { t.pwr with forceBlock := true } }) := within_blockTokens (within_refl _ _ _)
  have hopen : ∀ u : State, (assertOpen u).pwr.forceBlock = u.pwr.forceBlock ∧ (assertOpen u).weave = u.weave ∧ (assertOpen u).regs = u.regs := by
    intro u
    unfold assertOpen
    split <;> exact ⟨rfl, rfl, rfl⟩
  have h1 : s1.pwr.forceBlock = true ∧ s1.weave.shared = t.weave.shared ∧ Canon s1 := by
    obtain ⟨hp, hw, hr⟩ := hopen (blockTokens { t with weave := wv, pwr := { t.pwr with forceBlock := true } })
    refine ⟨hp.trans ?_, ?_, ?_⟩
    · rw [show (blockTokens { t with weave := wv, pwr := { t.pwr with forceBlock := true } }).pwr = _ from hblock.same .pwr (by decide)]
    · refine (congrArg WeaveSt.shared hw).trans ?_
      rw [show (blockTokens { t with weave := wv, pwr := { t.pwr with forceBlock := true } }).weave = _ from hblock.same .weave (by decide)]
    · unfold Canon
      rw [show s1.regs = _ from hr]
      exact hblock.wf hc0
  clear_value s1
  obtain ⟨hforce, hshared, hc1⟩ := h1
  have hput : (s1.put (REED_CLST_MODE c) 3).get (REED_CLST_MODE c) = 3 := get_put_self (f := REED_CLST_MODE c) hc1 (by dsimp only; decide) 3
  have hfields : (s1.put (REED_CLST_MODE c) 3).pwr = s1.pwr ∧ (s1.put (REED_CLST_MODE c) 3).weave = s1.weave := ⟨rfl, rfl⟩
  generalize s1.put (REED_CLST_MODE c) 3 = u at *
  have hfault : Within [0x41, 0x51] [.link, .weave] u (converterFault 7 u) := within_converterFault (within_refl _ _ _)
  refine ⟨(hfault.get (by unfold pageOf; simp; omega)).trans hput, ?_, ?_⟩
  · rw [show (converterFault 7 u).pwr = u.pwr from hfault.same .pwr (by decide), hfields.1, hforce]
  · have hcf : (converterFault 7 u).weave.shared = u.weave.shared := by
      unfold converterFault
      extract_lets w s2 p
      have h2 : s2.weave = u.weave := by simp [s2]
      clear_value s2
      split
      · rfl
      · split
        · rfl
        · split
          · exact (congrArg WeaveSt.shared h2 :)
          · exact congrArg WeaveSt.shared h2
    rw [hcf, hfields.2, hshared, hweave]

/-! ### The fallback (R142, R159, R161) -/

/-- The fallback runs, for a cause, with no results in flight. -/
structure InFallback (cause : Nat) (s : State) : Prop where
  form : Canon s
  fallback : s.get WEAVE_STAT_FB = 1
  run : s.get WEAVE_STAT_RUN = 1
  why : s.get WEAVE_STAT_FBCAUSE = cause
  pending : s.weave.fbPend = none
  zero : s.weave.fbZero = false
  rom : ∀ k, k < 12 → s.get (LOOM_STAT_FBROM k) = 1
  idle : ∀ k, (engAt s k).flight = []

variable {cause : Nat}

/-- A field of which no store changes a register that `InFallback` speaks of. -/
def ApartFromFallback (f : Fld) : Prop :=
  f.lo + f.wd ≤ 32 ∧ f.addr ≠ 0x41040 ∧ ∀ k, k < 12 → f.addr ≠ 0x44040 + 0x1000 * k ∨ f.lo + f.wd ≤ 5 ∨ 6 ≤ f.lo

theorem InFallback.put (h : InFallback cause s) {f : Fld} (hf : ApartFromFallback f) (v : Nat) : InFallback cause (s.put f v) := by
  obtain ⟨hfit, hweave, hloom⟩ := hf
  exact
    { form := canon_stored h.form
      fallback := (get_put_ne s (Ne.symm hweave) v).trans h.fallback
      run := (get_put_ne s (Ne.symm hweave) v).trans h.run
      why := (get_put_ne s (Ne.symm hweave) v).trans h.why
      pending := h.pending
      zero := h.zero
      rom := fun k hk => (get_put_disjoint h.form hfit ((hloom k hk).imp Ne.symm fun h => by dsimp only; omega) v).trans (h.rom k hk)
      idle := h.idle }

/-- An operation that leaves the registers, the weave's pending fault and the flights alone. -/
theorem InFallback.of_parts (h : InFallback cause s) (hregs : t.regs = s.regs) (hpend : t.weave.fbPend = s.weave.fbPend)
    (hzero : t.weave.fbZero = s.weave.fbZero) (hloom : ∀ k, (engAt t k).flight = []) : InFallback cause t where
  form := by
    unfold Canon
    rw [hregs]
    exact h.form
  fallback := (get_of_regs hregs _).trans h.fallback
  run := (get_of_regs hregs _).trans h.run
  why := (get_of_regs hregs _).trans h.why
  pending := hpend.trans h.pending
  zero := hzero.trans h.zero
  rom := fun k hk => (get_of_regs hregs _).trans (h.rom k hk)
  idle := hloom

/-- An operation with a frame that holds neither the registers of the weave and of the engines, nor the parts of the weave and of the engines. -/
theorem InFallback.of_within (h : InFallback cause s) {G : List Nat} {Q : List Part} (hw : Within G Q s t)
    (hG : ∀ p ∈ G, p ≠ 0x41 ∧ (p < 0x44 ∨ 0x4F < p) := by decide) (hQ : .weave ∉ Q ∧ .loom ∉ Q := by decide) : InFallback cause t where
  form := hw.wf h.form
  fallback := (hw.get fun hp => (hG _ hp).1 rfl).trans h.fallback
  run := (hw.get fun hp => (hG _ hp).1 rfl).trans h.run
  why := (hw.get fun hp => (hG _ hp).1 rfl).trans h.why
  pending := by rw [show t.weave = s.weave from hw.same .weave hQ.1]; exact h.pending
  zero := by rw [show t.weave = s.weave from hw.same .weave hQ.1]; exact h.zero
  rom := fun k hk => (hw.get fun hp => by
    have hpage : min (pageOf (LOOM_STAT_FBROM k).addr) 0x100 = 0x44 + k := by
      unfold pageOf
      dsimp only
      omega
    rw [hpage] at hp
    have := hG _ hp
    omega).trans (h.rom k hk)
  idle := fun k => by rw [engAt_of_loom (hw.same .loom hQ.2)]; exact h.idle k

theorem flight_modEng {f : Eng → Eng} (hf : ∀ e : Eng, e.flight = [] → (f e).flight = []) (h : ∀ j, (engAt s j).flight = []) (j : Nat) :
    (engAt (modEng k f s) j).flight = [] := by
  have hj := h j
  unfold engAt modEng at *
  rw [List.getD_eq_getElem?_getD] at *
  rw [List.getElem?_modify]
  cases hget : s.loom[j]? with
  | none => rfl
  | some e =>
    rw [hget] at hj
    by_cases hkj : k = j
    · simpa [hkj] using hf e hj
    · simpa [hkj] using hj

theorem InFallback.modEng (h : InFallback cause s) {f : Eng → Eng} (hf : ∀ e : Eng, e.flight = [] → (f e).flight = []) :
    InFallback cause (modEng k f s) :=
  h.of_parts rfl rfl rfl (flight_modEng hf h.idle)

theorem InFallback.modClu (h : InFallback cause s) (f : Clu → Clu) : InFallback cause (modClu c f s) :=
  h.of_parts rfl rfl rfl h.idle

theorem InFallback.flag (h : InFallback cause s) : s.flag WEAVE_STAT_FB = true := beq_of_eq h.fallback

theorem InFallback.foldl {α : Type} {f : State → α → State} {l : List α} (h : InFallback cause s)
    (hf : ∀ t x, x ∈ l → InFallback cause t → InFallback cause (f t x)) : InFallback cause (l.foldl f s) :=
  List.foldlRecOn (motive := fun t => InFallback cause t) l f h fun t ht x hx => hf t x hx ht

/-- No result lands where none is in flight. -/
theorem InFallback.landDue (h : InFallback cause s) : InFallback cause (landDue k s) := by
  have hland : Machine.landDue k s = Machine.modEng k (fun e => { e with flight := e.flight.filter fun f => !landsBy e.now f }) s := by
    unfold Machine.landDue
    extract_lets e due s1
    have hdue : due = [] := by
      unfold due
      rw [show e.flight = [] from h.idle k]
      rfl
    rw [hdue]
    rfl
  rw [hland]
  exact h.modEng fun e he => by rw [he]; rfl

theorem InFallback.clockTo (h : InFallback cause s) {n : Nat} : InFallback cause (clockTo c n s) :=
  h.foldl fun _ _ _ ht => InFallback.landDue (ht.modEng fun _ he => he)

theorem InFallback.clusterStop (h : InFallback cause s) (hc : c < 4) : InFallback cause (clusterStop c s) := by
  unfold Machine.clusterStop
  extract_lets f w wv q s1
  have h0 : InFallback cause { s with weave := wv, pwr := { s.pwr with forceBlock := true } } := h.of_parts rfl rfl rfl h.idle
  have hw : Within ringPages [.pwr] { s with weave := wv, pwr := { s.pwr with forceBlock := true } } s1 :=
    within_assertOpen (within_blockTokens (within_refl _ _ _))
  have h1 : InFallback cause s1 := h0.of_within hw
  clear_value s1
  have h2 : InFallback cause (s1.put (REED_CLST_MODE c) 3) :=
    h1.put ⟨by dsimp only; decide, by dsimp only; omega, fun k hk => .inl (by dsimp only; omega)⟩ 3
  generalize s1.put (REED_CLST_MODE c) 3 = u at *
  have hsame : converterFault 7 u = u := if_pos (by simp [h2.flag])
  rw [hsame]
  exact h2

theorem InFallback.clusterMode (h : InFallback cause s) (hc : c < 4) : InFallback cause (clusterMode c s) := by
  unfold Machine.clusterMode
  extract_lets n
  split
  · exact h
  · split
    · unfold reedStop
      split
      · exact h
      · have hevent : Within [0x02, 0x09, 0x50, 0x51] [.link, .intc] s (reedEvent 6 0xA (c + 4 * 1) s) := within_reedEvent (within_refl _ _ _)
        exact (h.of_within hevent).clusterStop hc
    · exact h.put ⟨by dsimp only; decide, by dsimp only; omega, fun k hk => .inl (by dsimp only; omega)⟩ _

theorem flight_startJob {j entry : Nat} (e : Eng) (he : e.flight = []) : (startJob j entry e).flight = [] := by
  unfold startJob
  extract_lets e1
  have h1 : e1.flight = [] := he
  clear_value e1
  split
  · exact h1
  · exact h1

theorem InFallback.runJob (h : InFallback cause s) {j : Nat} : InFallback cause (runJob c j s) := by
  unfold Machine.runJob
  split
  · exact h
  · split
    · exact h
    · refine h.foldl fun t k _ ht => (ht.modEng (k := k) fun e he => flight_startJob e he).put ⟨by dsimp only; decide, by dsimp only; omega, fun j _ => .inr (.inl (by dsimp only; decide))⟩ 1

theorem InFallback.startHeddle (h : InFallback cause s) {i : Nat} : InFallback cause (startHeddle c i s) := by
  unfold Machine.startHeddle
  split
  · exact h
  · rename_i x _
    extract_lets s0 s1
    have h0 : InFallback cause s0 := h.clockTo.foldl fun t e _ ht =>
      (ht.put (f := LOOM_STAT_HEDDLE (3 * c + e)) ⟨by dsimp only; decide, by dsimp only; omega, fun j _ => .inr (.inr (by dsimp only; decide))⟩ i).put
        (f := LOOM_STAT_CTX (3 * c + e)) ⟨by dsimp only; decide, by dsimp only; omega, fun j _ => .inr (.inl (by dsimp only; decide))⟩ 0
    have h1 : InFallback cause s1 := h0.modClu _
    clear_value s1
    split
    · exact h1.foldl fun t k _ ht => ht.modEng fun _ he => he
    · split
      · exact h1.runJob
      · exact h1

theorem InFallback.jobPeriods (h : InFallback cause s) : InFallback cause (jobPeriods c s) := by
  unfold Machine.jobPeriods
  split
  · exact h
  · rw [if_pos h.flag]
    exact h

theorem InFallback.clusterStart (h : InFallback cause s) : InFallback cause (clusterStart c s) := by
  unfold Machine.clusterStart
  extract_lets n s1 d
  have h1 : InFallback cause s1 := h.foldl fun t e _ ht =>
    ht.put (f := LOOM_STAT_PLAN (3 * c + e)) ⟨by dsimp only; decide, by dsimp only; omega, fun j _ => .inr (.inr (by dsimp only; decide))⟩ n
  clear_value s1
  refine InFallback.startHeddle ?_
  exact (h1.modClu _).jobPeriods

theorem InFallback.startClusters (h : InFallback cause s) : InFallback cause (startClusters s) :=
  have h0 : InFallback cause { s with weave := { s.weave with deferred := false } } := h.of_parts rfl rfl rfl h.idle
  h0.clusterStart.clusterStart.clusterStart.clusterStart

/-- The engines start from cleared contexts (R187). -/
theorem flight_resetContexts (j : Nat) : (engAt (resetContexts s) j).flight = [] := by
  unfold engAt resetContexts
  rw [List.getD_eq_getElem?_getD, List.getElem?_map]
  cases s.loom[j]? with
  | none => rfl
  | some e => rfl

/-- One bit of each engine's status, set engine by engine. -/
theorem foldl_fbrom (hs : Canon s) (n : Nat) (hn : n ≤ 12) : Canon ((List.range n).foldl (fun s k => s.put (LOOM_STAT_FBROM k) 1) s) ∧
    (∀ k, k < n → ((List.range n).foldl (fun s k => s.put (LOOM_STAT_FBROM k) 1) s).get (LOOM_STAT_FBROM k) = 1) ∧
    ∀ f : Fld, f.addr = 0x41040 → ((List.range n).foldl (fun s k => s.put (LOOM_STAT_FBROM k) 1) s).get f = s.get f := by
  induction n with
  | zero => exact ⟨hs, fun k hk => absurd hk (Nat.not_lt_zero k), fun _ _ => rfl⟩
  | succ n ih =>
    obtain ⟨hc, hrom, hother⟩ := ih (by omega)
    rw [List.range_succ, List.foldl_append]
    generalize (List.range n).foldl (fun s k => s.put (LOOM_STAT_FBROM k) 1) s = t at *
    refine ⟨canon_stored hc, fun k hk => ?_, fun f hf => (get_put_ne (f := LOOM_STAT_FBROM n) t (by dsimp only; omega) 1).trans (hother f hf)⟩
    by_cases hkn : k = n
    · subst hkn
      exact get_put_self (f := LOOM_STAT_FBROM k) hc (by dsimp only; decide) 1
    · exact (get_put_ne (f := LOOM_STAT_FBROM n) t (by dsimp only; omega) 1).trans (hrom k (by omega))

theorem startFallback_inFallback (hs : Canon s) (hcause : cause < 16) : InFallback cause (startFallback cause s) := by
  unfold startFallback
  extract_lets restart s1 s2 w wv s3 b s4 st s5 s6 s7
  have hb : b < 2 ^ 1 := get_lt s WEAVE_STAT_ACT
  have h2 : Within ([0x02, 0x09, 0x41, 0x50, 0x51] ++ loomPages ++ ringPages) [.pwr, .link, .intc, .weave, .loom, .clu, .cells] s s2 :=
    within_foldl_range (within_foldl_range (within_refuseDue (within_refl _ _ _)) fun _ _ _ k => within_abandonAttempt k) fun _ _ _ k =>
      within_ite (within_engineRuns k) k
  have hc2 : Canon s2 := h2.wf hs
  clear_value s2
  have h3 : Canon s3 ∧ s3.weave.fbPend = none ∧ s3.weave.fbZero = false ∧ ∀ j, (engAt s3 j).flight = [] := ⟨hc2, rfl, rfl, flight_resetContexts⟩
  clear_value s3
  obtain ⟨hc3, hpend3, hzero3, hidle3⟩ := h3
  have h4 : Canon s4 ∧ s4.get WEAVE_STAT_FB = 1 ∧ s4.get WEAVE_STAT_RUN = 1 ∧ s4.get WEAVE_STAT_FBCAUSE = cause ∧ s4.weave = s3.weave ∧ s4.loom = s3.loom := by
    have hbank : ∀ f : Fld, f.addr = 0x41040 → s4.get f = (((s3.put WEAVE_STAT_FB 1).put WEAVE_STAT_RUN 1).put WEAVE_STAT_FBCAUSE cause).get f :=
      fun f hf => get_put_ne (f := WEAVE_BANK_STATE b) _ (by dsimp only; omega) 3
    refine ⟨canon_stored (canon_stored (canon_stored (canon_stored hc3))), ?_, ?_, ?_, rfl, rfl⟩
    · rw [hbank _ rfl]
      simp [hc3]
    · rw [hbank _ rfl]
      simp [hc3]
    · rw [hbank _ rfl]
      simp [hc3]
      omega
  clear_value s4
  obtain ⟨hc4, hfb4, hrun4, hwhy4, hweave4, hloom4⟩ := h4
  have h5 : Canon s5 ∧ (∀ f : Fld, f.addr = 0x41040 → s5.get f = s4.get f) ∧ s5.weave = s4.weave ∧ s5.loom = s4.loom :=
    ⟨canon_stored (canon_stored hc4), fun f hf => (get_put_ne (f := WEAVE_LASTSW_HI_STAMP) _ (by dsimp only; omega) _).trans
      (get_put_ne (f := WEAVE_LASTSW_LO_STAMP) s4 (by dsimp only; omega) _), rfl, rfl⟩
  clear_value s5
  obtain ⟨hc5, hkeep5, hweave5, hloom5⟩ := h5
  have h6 : s6.weave = s5.weave ∧ s6.loom = s5.loom :=
    List.foldlRecOn (motive := fun t : State => t.weave = s5.weave ∧ t.loom = s5.loom) _ _ ⟨rfl, rfl⟩ fun t ht k _ => ht
  have hrom6 : Canon s6 ∧ (∀ k, k < 12 → s6.get (LOOM_STAT_FBROM k) = 1) ∧ ∀ f : Fld, f.addr = 0x41040 → s6.get f = s5.get f :=
    foldl_fbrom hc5 12 (Nat.le_refl 12)
  clear_value s6
  obtain ⟨hc6, hrom6, hkeep6⟩ := hrom6
  have hback : InFallback cause s6 :=
    { form := hc6
      fallback := (hkeep6 _ rfl).trans ((hkeep5 _ rfl).trans hfb4)
      run := (hkeep6 _ rfl).trans ((hkeep5 _ rfl).trans hrun4)
      why := (hkeep6 _ rfl).trans ((hkeep5 _ rfl).trans hwhy4)
      pending := by rw [h6.1, hweave5, hweave4, hpend3]
      zero := by rw [h6.1, hweave5, hweave4, hzero3]
      rom := hrom6
      idle := fun j => by rw [engAt_of_loom (s := s3) (show s6.loom = s3.loom from h6.2.trans (hloom5.trans hloom4))]; exact hidle3 j }
  have h7 : InFallback cause s7 := hback.of_parts rfl rfl rfl fun j =>
    (congrArg Eng.flight (engAt_of_loom (s := s6) (t := s7) rfl j)).trans (hback.idle j)
  clear_value s7
  have hevent : Within [0x02, 0x09, 0x41, 0x51] [.link, .intc] s7 (raiseF 19 1 cause (setEvt 0x041 0x20 s7)) := within_raiseF (within_setEvt (within_refl _ _ _))
  have h8 : InFallback cause (raiseF 19 1 cause (setEvt 0x041 0x20 s7)) :=
    { form := hevent.wf h7.form
      fallback := (get_raiseF (by simp)).trans ((get_setEvt (by simp)).trans h7.fallback)
      run := (get_raiseF (by simp)).trans ((get_setEvt (by simp)).trans h7.run)
      why := (get_raiseF (by simp)).trans ((get_setEvt (by simp)).trans h7.why)
      pending := by rw [raiseF_weave, setEvt_weave]; exact h7.pending
      zero := by rw [raiseF_weave, setEvt_weave]; exact h7.zero
      rom := fun k hk => (get_raiseF (by rw [loud_iff]; dsimp only; omega)).trans ((get_setEvt (by rw [loud_iff]; dsimp only; omega)).trans (h7.rom k hk))
      idle := fun j => by rw [engAt_of_loom (s := s7) (by rw [raiseF_loom, setEvt_loom])]; exact h7.idle j }
  exact h8.foldl fun t c hc ht => ht.clusterMode (List.mem_range.1 hc)

end

/-- Settles O26. -/
theorem heddlesFallbackAndRecords : Obligations.HeddlesFallbackAndRecords := by
  unfold Obligations.HeddlesFallbackAndRecords
  intro s hinv
  have hs := canon_of_inv hinv
  refine ⟨?_, ?_, ?_, ?_, ?_, ?_, ?_, ?_, ?_, ?_, ?_, ?_⟩
  · intro c i h hrun hc hclu hheddle hplan hkind hnext
    refine doesWithin_run (fun t h => (frame_execHeddleEnd hc h).mono (by decide) (by decide)) ?_
    rw [if_neg (by simp [hrun, hc]), show (cluAt s.silent c).heddle = some i from hheddle]
    dsimp -zeta only
    rw [show (planNow s.silent c)[i]? = some h from hplan]
    dsimp -zeta only
    extract_lets s1 s2
    have h1 : PlanKept s.silent s1 := planKept_clockTo (s := s.silent) hs hc (n := h.start + h.len)
    clear_value s1
    have h2 : SamePlan s.silent s2 ∧ Canon s2 := by
      have hpark : Within [] [.loom, .clu] s1 (parkAll c s1) := within_parkAll (within_refl _ _ _)
      have hwork : Within [0x50, 0x7C] [.clu, .heat] s1 (bgWork c h s1) := within_bgWork (within_refl _ _ _)
      unfold s2
      rw [if_neg (by omega)]
      split
      · exact ⟨h1.1.trans samePlan_parkAll, hpark.wf h1.2⟩
      · split
        · exact ⟨h1.1.trans (samePlan_bgWork hc), hwork.wf h1.2⟩
        · exact h1
    clear_value s2
    rw [if_pos (show i + 1 < (planNow s.silent c).length from hnext)]
    refine startHeddle_heddle h2.2 hc (by rw [h2.1.clusters]; exact hclu) (h := (planNow s c)[i + 1]) ?_
    rw [h2.1.plan]
    exact List.getElem?_eq_getElem hnext
  · intro c i h hrun hc hclu hheddle hplan hkind hlast hended
    refine doesWithin_run (fun t h => (frame_execHeddleEnd hc h).mono (by decide) (by decide)) ?_
    rw [if_neg (by simp [hrun, hc]), show (cluAt s.silent c).heddle = some i from hheddle]
    dsimp -zeta only
    rw [show (planNow s.silent c)[i]? = some h from hplan]
    dsimp -zeta only
    extract_lets s1 s2
    have h1 : PlanKept s.silent s1 := planKept_clockTo (s := s.silent) hs hc (n := h.start + h.len)
    clear_value s1
    have h2 : s2.clu.length = s1.clu.length ∧ Canon s2 := by
      unfold s2
      rw [if_pos hkind]
      exact overrun_clusters h1.2 hc
    clear_value s2
    rw [if_neg (show ¬ i + 1 < (planNow s.silent c).length from by rw [hlast]; exact Nat.lt_irrefl _)]
    exact startSlack_heddle h2.2 hc (by rw [h2.1, h1.1.clusters]; exact hclu)
  · intro c job j hrun hfb hjob hover hnew hc hlt
    refine doesWithin_run (fun t h => frame_execBgDeadline h) ?_
    rw [show jobOf s.silent c job = some j from hjob]
    dsimp only
    rw [if_pos (by simp [hrun, hfb, show overdue s.silent c j = true from hover])]
    exact missDeadline_fields (s := s.silent) hs hc hlt hnew
  · intro c job j hjob hover
    refine does_run (x := execBgDeadline _ _ _) rfl ?_
    rw [show jobOf s.silent c job = some j from hjob]
    dsimp only
    exact if_neg (by simp [show overdue s.silent c j = false from hover])
  · intro cause hpend hdef hcause
    refine doesWithin_run (fun t h => (frame_execFallbackStart h).mono (by decide) (by decide)) ?_
    rw [show s.silent.weave.fbPend = some cause from hpend]
    dsimp only
    rw [show s.silent.weave.deferred = true from hdef, if_pos rfl]
    have hback := (startFallback_inFallback (s := s.silent) hs hcause).startClusters
    exact ⟨hback.fallback, hback.run, hback.why, hback.pending, hback.zero, hback.rom⟩
  · intro hfb hzero hfactor hyield
    refine doesWithin_run (fun t h => frame_execFallbackRampDone h) ?_
    rw [if_pos (by simp [hfb, hzero, hfactor])]
    unfold assertOpen
    rw [if_neg (by simp [hyield])]
    exact ⟨rfl, rfl, rfl⟩
  · intro hzero hfactor
    refine does_run (x := execFallbackRampDone _) rfl ?_
    exact if_neg (by simp [hfactor])
  · intro hfb hzero hat
    refine does_run (x := execFallbackBlock _) rfl ?_
    exact if_pos (by simp [hfb, hzero, show s.weave.fbZeroAt + 8192 ≤ absPick s.silent from hat])
  · intro hzero hat
    refine does_run (x := execFallbackBlock _) rfl ?_
    have hearly : ¬ s.weave.fbZeroAt + 8192 ≤ absPick s.silent := Nat.not_le_of_lt hat
    exact if_neg (by simp [hearly])
  · intro c b r hc hviols hcommit hmode hlive h0 h1 h2 hkind hprob hvalue
    refine doesWithin_run (fun t h => (frame_execRecordCommit hc h).mono (by decide) (by decide)) ?_
    rw [if_neg (by omega), if_neg (by simp), commitVote_agreed (s := s.silent) hviols hcommit hmode hlive h0 h1 h2 hprob]
    obtain ⟨hregs, -, -⟩ := dropRecs_keeps (s := s.silent) (c := c) b
    obtain ⟨hshared, hregs'⟩ := commitRecord_shared (s := dropRecs c b s.silent) (c := c) hkind
    exact ⟨by rw [hshared, memAt_memSet_self hvalue], hregs'.trans hregs⟩
  · intro c b hc hhalf hmode
    refine doesWithin_run (fun t h => (frame_execRecordCommit hc h).mono (by decide) (by decide)) ?_
    rw [if_neg (by omega), if_pos (by simp [hhalf])]
    obtain ⟨hregs, hweave, -⟩ := dropRecs_keeps (s := s.silent) (c := c) b
    have hdrop : Canon (dropRecs c b s.silent) := by
      unfold Canon
      rw [hregs]
      exact hs
    obtain ⟨hthree, hforce, hshared⟩ := reedStop_fields hdrop (reason := 0) (by rw [get_of_regs hregs]; exact hmode) hc
    exact ⟨hthree, hforce, hshared.trans (congrArg WeaveSt.shared hweave)⟩
  · intro e hstate
    refine does_run (x := execEngineIsolate _ _) rfl ?_
    exact if_pos hstate

end Sys2Proof.Machine
end

section
/-! PROOFS. Fixed-point and accumulator operations, each alone in a bundle (R192, R197, R203, R204). -/

namespace Sys2Proof.Machine

set_option Elab.async false

section
variable {s : State} {k : Nat} {op : OpName} {w : SlotWord} {c : Instr}

theorem engine_of_alone (h : Alone s k op w) : k < 12 := by
  obtain ⟨⟨hk, -⟩, -⟩ := h
  exact hk

theorem registers_of_alone (h : Alone s k op w) : (engAt s k).g.length = 64 := by
  obtain ⟨-, -, -, -, ⟨hg, -⟩, -⟩ := h
  exact hg

theorem landOne_g_pc {f : Flight} {n : Nat} (hd : f.dest = .g n) (e : Eng) : (landOne f e).2.pc = e.pc := by
  rw [landOne]
  simp only [hd]
  cases f.bg <;> rfl

/-- What a result with flags for the next bundle leaves in its engine: the result and the flags have landed. -/
theorem engAt_slotIn_flags (h : Alone s k op w) (hop : op ≠ .nop) (hw : writesG op = true) (hl : isLoop op = false) {r : Word × Nat}
    (hsem : opSem s k ⟨op, w, []⟩ (seen s k w) (engAt s k) = toGF (seen s k w) 1 r (engAt s k)) :
    (engAt (slotIn k op w ⟨true, [], [], none⟩ s) k).rg w.d = r.1 ∧
      (engAt (slotIn k op w ⟨true, [], [], none⟩ s) k).fl = (engAt s k).fl ||| r.2 ∧
      (engAt (slotIn k op w ⟨true, [], [], none⟩ s) k).flight = [] ∧
      (engAt (slotIn k op w ⟨true, [], [], none⟩ s) k).pc = ((engAt s k).pc + 1) % 8192 := by
  have hlen := lt_of_alone h
  have hd : w.d < (stepped (engAt s k) (engAt s k)).g.length := (registers_of_alone h).symm ▸ register_of_alone h hop hw
  rw [slotIn_of_landing h (g := id) (d := .g w.d) (v := r.1.toNat) (fl := r.2) ((issued_of_not_loop _ _ _ _ hl).trans (congr_arg _ hsem))
    (flight_of_alone h) (by intros; exact Dest.noConfusion), engAt_of_loom (flagEvents_loom (engine_of_alone h)), engAt_modEng hlen]
  obtain ⟨hrg, hfl, hflight, -⟩ := landOne_g_fields (f := nextFlight s k w (.g w.d) r.1.toNat r.2) (n := w.d) rfl
    (e := stepped (engAt s k) (engAt s k)) rfl hd
  exact ⟨hrg.trans (word_toNat _), hfl, hflight.trans (flight_of_alone h), landOne_g_pc rfl _⟩

/-- A multiplication into an accumulator: the accumulator has its value at once, the register of the same number three clocks later. -/
theorem does_accumulate (h : Alone s k op w) (hexec : exec c s = run (slotIn k op w ⟨true, [], [], none⟩) s) (hl : isLoop op = false)
    {r : BitVec 72 × Nat} (hsem : opSem s k ⟨op, w, []⟩ (seen s k w) (engAt s k) = toAcc (seen s k w) 3 r (engAt s k)) :
    Does c s fun t => t = modEng k (fun g => { g with acc := g.acc.set (w.f % 4) r.1 }) (flies k 3 w (.a (w.f % 4)) r.1.toNat r.2 s) := by
  refine does_of_slotIn hexec ?_
  rw [slotIn_of_flight (alone_silent h) (g := fun e => { e with acc := e.acc.set (w.f % 4) r.1 }) (lat := 3) (d := .a (w.f % 4)) (v := r.1.toNat)
    (fl := r.2) (by decide) ((issued_of_not_loop _ _ _ _ hl).trans (congr_arg _ hsem)) (flight_of_alone h) (by intros; exact Dest.noConfusion),
    flies, modEng_modEng]
  rfl

/-- ACW. -/
theorem does_acw (h : Alone s k .acw w) : Does (.acw k w ⟨true, [], [], none⟩) s fun t =>
    t = modEng k (fun g => { went g with acc := g.acc.set (w.f % 4) (BitVec.ofInt 72 ((seen s k w).ga.toInt * 2 ^ 31)), a := g.a.set (w.f % 4) (BitVec.ofInt 72 ((seen s k w).ga.toInt * 2 ^ 31)) }) s.silent := by
  refine does_of_slotIn rfl ?_
  generalize hv : BitVec.ofInt 72 ((seen s k w).ga.toInt * 2 ^ 31) = v
  have hsem : opSem s k ⟨.acw, w, []⟩ (seen s k w) (engAt s k) = toAcc (seen s k w) 1 (v, 0) (engAt s k) := hv ▸ rfl
  rw [slotIn_of_quiet_landing (alone_silent h) (g := fun e => { e with acc := e.acc.set (w.f % 4) v }) (v := v.toNat) (d := .a (w.f % 4))
    ((issued_of_not_loop _ _ _ _ rfl).trans (congr_arg _ hsem)) (flight_of_alone h) (by intros; exact Dest.noConfusion)]
  refine congr_arg (fun f => modEng k f s.silent) (funext fun e => ?_)
  rw [landOne_a rfl rfl, nextFlight, BitVec.ofNat_toNat, BitVec.setWidth_eq]
  rfl

end

/-- Settles O32: a result with flags lands for the next bundle, a product flies for three clocks, an accumulator has its value at once. -/
theorem fixedPointOperations : Obligations.FixedPointOperations := by
  intro s _
  refine ⟨?_, ?_, ?_, ?_, ?_, ?_, ?_, ?_, ?_⟩
  · intro e w h
    refine doesWithin_run (fun t ht => (frame_execQadd (engine_of_alone h) ht).mono (by decide) (by decide)) ?_
    exact engAt_slotIn_flags (alone_silent h) (by decide) rfl rfl rfl
  · intro e w h
    refine doesWithin_run (fun t ht => (frame_execQsub (engine_of_alone h) ht).mono (by decide) (by decide)) ?_
    exact engAt_slotIn_flags (alone_silent h) (by decide) rfl rfl rfl
  · intro e w h
    refine doesWithin_run (fun t ht => (frame_execQabs (engine_of_alone h) ht).mono (by decide) (by decide)) ?_
    exact engAt_slotIn_flags (alone_silent h) (by decide) rfl rfl rfl
  · exact fun e w h => does_flies h rfl (by decide) (by intros; exact Dest.noConfusion) rfl rfl
  iterate 3 exact fun e w h => does_accumulate h rfl rfl rfl
  · exact fun e w h => does_flies h rfl (by decide) (by intros; exact Dest.noConfusion) rfl rfl
  · exact fun e w h => does_acw h

end Sys2Proof.Machine
end

section
/-! SUPPORT. The accumulator of the warp keeps its value through every work of a pick but its own addition (R115, R116). -/

namespace Sys2Proof.Machine

set_option Elab.async false

/-- Both states have the same accumulator. -/
def SameAcc (s t : State) : Prop := t.warp.acc = s.warp.acc

section
variable {s t u : State}

theorem SameAcc.refl (s : State) : SameAcc s s := Eq.refl _

theorem SameAcc.trans (h : SameAcc s t) (h' : SameAcc t u) : SameAcc s u := Eq.trans h' h

/-- An operation that leaves the warp alone. -/
theorem Within.sameAcc {G : List Nat} {Q : List Part} (h : Within G Q s t) (hQ : .warp ∉ Q := by decide) : SameAcc s t :=
  congrArg Warp.acc (h.same .warp hQ)

theorem sameAcc_ite {p : Prop} [Decidable p] (ht : SameAcc s t) (hu : SameAcc s u) : SameAcc s (if p then t else u) := by
  split
  · exact ht
  · exact hu

theorem sameAcc_raiseF {source code data : Nat} (h : SameAcc s t) : SameAcc s (raiseF source code data t) :=
  have hwithin : Within [0x51] [.link] t (raiseF source code data t) := within_raiseF (within_refl _ _ _)
  h.trans hwithin.sameAcc

theorem sameAcc_setEvt {page mask : Nat} (h : SameAcc s t) : SameAcc s (setEvt page mask t) :=
  have hwithin : Within [0x02, 0x09, 0x51, min page 0x100] [.link, .intc] t (setEvt page mask t) :=
    within_setEvt (within_refl _ _ _) (by simp) (by simp)
  h.trans hwithin.sameAcc

theorem sameAcc_gridEvent {bitNo code data : Nat} (h : SameAcc s t) : SameAcc s (gridEvent bitNo code data t) := sameAcc_raiseF (sameAcc_setEvt h)

/-! ### Tracking and steering (R122 to R128) -/

theorem sameAcc_stepValid : SameAcc s (stepValid s) := by
  unfold stepValid
  extract_lets vmin w s1
  have h1 : SameAcc s s1 := Eq.refl _
  clear_value s1
  exact sameAcc_ite (sameAcc_ite (sameAcc_setEvt h1) h1) (Eq.refl _)

theorem sameAcc_stepFm {old new : Rat} : SameAcc s (stepFm old new s) := by
  unfold stepFm
  extract_lets t rot fm dep dep' sum pj w s1
  have h1 : SameAcc s s1 := Eq.refl _
  clear_value s1
  split
  · exact h1
  · split
    · exact sameAcc_raiseF (sameAcc_setEvt h1)
    · exact h1

theorem sameAcc_trackPick {va vb vc : Rat} : SameAcc s (trackPick va vb vc s) := by
  unfold trackPick
  extract_lets s1 v1 s2 new s3 s0 v4 s4 d v5 s5
  have h2 : SameAcc s s2 := Eq.refl _
  have h3 : SameAcc s2 s3 := sameAcc_stepValid
  have h4 : SameAcc s3 s4 := sameAcc_stepFm
  clear_value s4 s3 s2
  have h : SameAcc s s4 := (h2.trans h3).trans h4
  exact sameAcc_ite h h

theorem sameAcc_setWarpState {n : Nat} (h : SameAcc s t) : SameAcc s (setWarpState n t) := by
  unfold setWarpState
  extract_lets o
  exact sameAcc_ite h (sameAcc_raiseF (sameAcc_setEvt h))

theorem sameAcc_slewTo {f : Rat} (h : SameAcc s t) : SameAcc s (slewTo f t) := h

theorem sameAcc_leaveFree (h : SameAcc s t) : SameAcc s (leaveFree t) := by
  unfold leaveFree
  exact sameAcc_ite (sameAcc_slewTo (sameAcc_setWarpState h)) (sameAcc_slewTo (sameAcc_setWarpState h))

theorem sameAcc_steerPick : SameAcc s (steerPick s) := by
  unfold steerPick
  extract_lets hold s1 st f
  have h : SameAcc s s1 := Eq.refl _
  clear_value s1
  split
  · exact h
  split
  · exact sameAcc_slewTo (sameAcc_setWarpState h)
  split
  · exact sameAcc_ite (sameAcc_leaveFree h) (sameAcc_slewTo h)
  split
  · exact sameAcc_ite (sameAcc_slewTo (sameAcc_setWarpState h)) (sameAcc_ite (sameAcc_slewTo (sameAcc_setWarpState h)) (sameAcc_slewTo h))
  · exact sameAcc_ite (sameAcc_slewTo (sameAcc_setWarpState h)) (sameAcc_slewTo h)

theorem sameAcc_lockPick : SameAcc s (lockPick s) := by
  unfold lockPick
  extract_lets v s1 ok w s2
  have h1 : SameAcc s s1 := sameAcc_ite (Eq.refl _) (Eq.refl _)
  have h2 : SameAcc s s2 := h1
  clear_value s2
  exact sameAcc_ite h1 (sameAcc_ite (sameAcc_setEvt h2) h2)

/-! ### Ride-through and connection (R361 to R373) -/

theorem sameAcc_setMc {b : Bool} (h : SameAcc s t) : SameAcc s (setMc b t) := by
  unfold setMc
  extract_lets s1
  exact sameAcc_ite h (sameAcc_gridEvent (sameAcc_ite h h))

theorem sameAcc_rtBegin : SameAcc s (rtBegin s) := by
  unfold rtBegin
  extract_lets v j s1 s2 w s3 s4
  have h3 : SameAcc s s3 := Eq.refl _
  have h4 : SameAcc s s4 := sameAcc_raiseF (sameAcc_setEvt h3)
  clear_value s4
  exact sameAcc_ite h4 (sameAcc_raiseF (sameAcc_setEvt h4))

theorem sameAcc_rtEnd : SameAcc s (rtEnd s) := sameAcc_gridEvent (Eq.refl _)

theorem sameAcc_rtPick : SameAcc s (rtPick s) := by
  unfold rtPick
  extract_lets t mc s0 s2 s1
  have h0 : SameAcc s s0 := Eq.refl _
  have h1 : SameAcc s s1 := sameAcc_ite h0 (sameAcc_ite (h0.trans sameAcc_rtBegin) h0)
  clear_value s1
  exact sameAcc_setMc h1

theorem sameAcc_endSuspension (h : SameAcc s t) : SameAcc s (endSuspension t) := sameAcc_raiseF (sameAcc_setEvt h)

theorem sameAcc_leaveConnection : SameAcc s (leaveConnection s) := by
  unfold leaveConnection
  extract_lets quiet s1
  have hquiet : ∀ {t}, SameAcc s t → SameAcc s (quiet t) := fun h => sameAcc_setMc h
  have h1 : SameAcc s s1 := hquiet sameAcc_rtEnd
  clear_value s1
  exact sameAcc_ite (hquiet (.refl s)) (sameAcc_ite (sameAcc_endSuspension h1) h1)

theorem sameAcc_setCstate {n : Nat} {timeout : Bool} (h : SameAcc s t) : SameAcc s (setCstate n timeout t) := by
  unfold setCstate
  extract_lets o s0 s1 s2 m
  have h0 : SameAcc s s0 := sameAcc_ite (h.trans sameAcc_leaveConnection) h
  have h2 : SameAcc s s2 := sameAcc_gridEvent h0
  clear_value s2
  exact sameAcc_ite h (sameAcc_ite h2 (sameAcc_ite h2 h2))

theorem sameAcc_trip {cause point : Nat} (h : SameAcc s t) : SameAcc s (trip cause point t) := by
  unfold trip trips disconnect
  have hevents (l : List (Nat × Nat)) : SameAcc t (l.foldl (fun s t => tripEvent t.1 t.2 (recordTrip t.1 t.2 s)) t) :=
    have hwithin : Within [0x02, 0x09, 0x51, 0x78] [.link, .intc, .ride] t (l.foldl (fun s t => tripEvent t.1 t.2 (recordTrip t.1 t.2 s)) t) :=
      within_foldl (within_refl _ _ _) fun _ _ h => within_tripEvent (within_recordTrip h)
    hwithin.sameAcc
  have hopen {t : State} : SameAcc t (assertOpen t) :=
    have hwithin : Within [] [.pwr] t (assertOpen t) := within_assertOpen (within_refl _ _ _)
    hwithin.sameAcc
  exact sameAcc_setCstate ((h.trans (hevents _)).trans hopen)

theorem sameAcc_fallbackConnect (h : SameAcc s t) : SameAcc s (fallbackConnect t) := by
  unfold fallbackConnect
  extract_lets s1
  exact sameAcc_ite h (sameAcc_ite (sameAcc_setCstate h) (sameAcc_ite (sameAcc_trip h) h))

theorem sameAcc_connectPick : SameAcc s (connectPick s) := by
  unfold connectPick
  extract_lets t s0 ok band w
  have h : SameAcc s s0 := Eq.refl _
  clear_value s0
  refine sameAcc_ite (sameAcc_fallbackConnect h) ?_
  split
  · exact sameAcc_ite (sameAcc_setCstate h) h
  · exact sameAcc_ite (sameAcc_setCstate h) h
  · exact sameAcc_ite (sameAcc_trip h) h
  · exact sameAcc_ite (sameAcc_trip h) h
  · exact sameAcc_ite (sameAcc_trip h) (sameAcc_ite h h)
  · exact sameAcc_ite (sameAcc_trip h) h

theorem sameAcc_gridPick : SameAcc s (gridPick s) := by
  unfold gridPick
  have hexc : Within [0x02, 0x09, 0x51, 0x78] [.link, .intc] s (excursion s) := within_excursion (within_refl _ _ _)
  have htrip : Within [] [.ride] (excursion s) (tripPick (excursion s)) := within_tripPick (within_refl _ _ _)
  exact (hexc.sameAcc.trans htrip.sameAcc).trans sameAcc_connectPick

theorem sameAcc_anglePick : SameAcc s (anglePick s) := by
  unfold anglePick
  extract_lets s1
  have h1 : SameAcc s s1 := sameAcc_trackPick.trans (Eq.refl _)
  have h2 : SameAcc s (if s1.flag WEAVE_STAT_FB then s1 else rtPick s1) := sameAcc_ite h1 (h1.trans sameAcc_rtPick)
  exact (h2.trans sameAcc_steerPick).trans sameAcc_lockPick

/-! ### The pick boundary (R115) -/

/-- The warp and the Weave as an image that starts finds them. -/
def imageBegun (s : State) : State :=
  { s with weave := { s.weave with loading := none, starting := false, fbFactor := 1, began := absPick s }, warp.begun := true }

theorem sameAcc_imageStart : SameAcc s (imageStart s) := by
  unfold imageStart
  split
  · exact .refl s
  · extract_lets u v s1 s2 s3 s4 s5
    have h : Within ([0x02, 0x09, 0x41, 0x50, 0x51, 0x60, 0x100] ++ loomPages ++ ringPages ++ adcPages)
      [.pwr, .link, .intc, .weave, .loom, .clu, .cells, .ring, .twin, .edge, .cur] (imageBegun s) (imageBegun s) := within_refl _ _ _
    have h1 : Within _ _ (imageBegun s) s1 := within_idleRun h
    have h2 : Within _ _ (imageBegun s) s2 := within_loadTables (within_refreshBanks (within_put (within_put (within_adcRefresh h1))))
    have h3 : Within _ _ (imageBegun s) s3 := within_foldl (within_edgeStart h2) fun _ _ h => within_ite (within_putSetpoint h) (within_followCount h)
    have h4 : Within _ _ (imageBegun s) s4 := within_foldl h3 fun _ _ h => within_defaultOwners h
    have h5 : Within _ _ (imageBegun s) s5 := within_ite (within_twinArrives h4) (within_ite h4 (within_setTwin h4))
    clear_value s5
    have h0 : SameAcc s (imageBegun s) := Eq.refl _
    refine h0.trans ?_
    split
    · exact Within.sameAcc (within_enumAdvance (within_startFallback h5))
    · exact Within.sameAcc (within_enumAdvance h5)

theorem sameAcc_clustersPick : SameAcc s (clustersPick s) := by
  unfold clustersPick
  extract_lets s1 s2 w
  have hend : Within ([0x02, 0x09, 0x41, 0x50, 0x51] ++ loomPages ++ ringPages) [.pwr, .link, .intc, .weave, .loom, .clu] s
      (clusterEnd 3 (clusterEnd 2 (clusterEnd 1 (clusterEnd 0 s)))) :=
    within_clusterEnd (within_clusterEnd (within_clusterEnd (within_clusterEnd (within_refl _ _ _))))
  have h1 : SameAcc s s1 := sameAcc_ite hend.sameAcc (.refl s)
  have h2 : SameAcc s s2 := sameAcc_ite (h1.trans sameAcc_imageStart) h1
  clear_value s2
  have hstart : Within ([0x02, 0x09, 0x41, 0x50, 0x51] ++ loomPages ++ ringPages) [.pwr, .link, .intc, .weave, .loom, .clu] s2 (startClusters s2) :=
    within_startClusters (within_refl _ _ _)
  exact sameAcc_ite h2 (sameAcc_ite (h2.trans hstart.sameAcc) h2)

theorem sameAcc_applyInc : SameAcc s (applyInc s) := by
  unfold applyInc
  split
  · extract_lets w s1
    have h1 : SameAcc s s1 := Eq.refl _
    clear_value s1
    exact sameAcc_ite (sameAcc_raiseF (sameAcc_setEvt h1)) (sameAcc_ite (sameAcc_raiseF (sameAcc_setEvt h1)) h1)
  · extract_lets w s1
    have h1 : SameAcc s s1 := Eq.refl _
    clear_value s1
    exact sameAcc_ite h1 h1

theorem sameAcc_latchPick : SameAcc s (latchPick s) := Eq.refl _

theorem sameAcc_lawPick : SameAcc s (lawPick s) := by
  unfold lawPick
  extract_lets s1
  have hsee : Within [] [.cells, .cur] s s1 := within_phasesPick (within_learnCycle (within_seePick (within_refl _ _ _)))
  have h1 : SameAcc s s1 := hsee.sameAcc
  clear_value s1
  have hfall {t : State} : SameAcc t (fallbackPick t) :=
    have hwithin : Within [] [.weave] t (fallbackPick t) := within_fallbackPick (within_refl _ _ _)
    hwithin.sameAcc
  have hrest {t : State} : SameAcc t (mpptPick (curPick (fallbackPick (islPick t)))) :=
    have hwithin : Within [0x02, 0x09, 0x51, 0x74, 0x76, 0x79] [.link, .intc, .weave, .cur, .ride, .isl, .mppt] t
        (mpptPick (curPick (fallbackPick (islPick t)))) :=
      within_mpptPick (within_curPick (within_fallbackPick (within_islPick (within_refl _ _ _))))
    hwithin.sameAcc
  exact sameAcc_ite (.refl s) (sameAcc_ite (h1.trans hfall) ((h1.trans (sameAcc_anglePick.trans sameAcc_gridPick)).trans hrest))

theorem passPick_acc (s : State) : (passPick s).warp.acc =
    s.warp.acc + BitVec.ofNat 96 (clocksToPick s.warp.acc.toNat (s.get WARP_INC_INC) * s.get WARP_INC_INC) := (rfl)

/-- The first works of a pick see the increment that the addition uses. -/
theorem addition_acc {inputs : List (List Int)} : (latchPick (applyInc (passPick (lossPick (controlled (samplePick inputs s)))))).warp.acc =
    s.warp.acc + BitVec.ofNat 96 (clocksToPick s.warp.acc.toNat (s.get WARP_INC_INC) * s.get WARP_INC_INC) := by
  have hsample : Within ([0x02, 0x09, 0x51, 0x70, 0x74] ++ ringPages ++ adcPages) [.link, .intc, .adc, .fcmp, .cur, .twin] s
      (lossPick (controlled (samplePick inputs s))) := within_lossPick (within_controlled (within_samplePick (within_refl _ _ _)))
  have hinc : (lossPick (controlled (samplePick inputs s))).get WARP_INC_INC = s.get WARP_INC_INC := hsample.get (by decide)
  have hacc : (lossPick (controlled (samplePick inputs s))).warp.acc = s.warp.acc := hsample.sameAcc
  generalize lossPick (controlled (samplePick inputs s)) = t at hinc hacc ⊢
  have hlatch : SameAcc (passPick t) (latchPick (applyInc (passPick t))) := sameAcc_applyInc.trans sameAcc_latchPick
  rw [← hinc, ← hacc]
  exact Eq.trans hlatch (passPick_acc t)

/-- In a pick the accumulator passes the pick's loom clocks, each with the increment of the pick. -/
theorem pickBoundary_acc {inputs : List (List Int)} (hrun : s.warp.running = true) : (pickBoundary inputs s).warp.acc =
    s.warp.acc + BitVec.ofNat 96 (clocksToPick s.warp.acc.toNat (s.get WARP_INC_INC) * s.get WARP_INC_INC) := by
  unfold pickBoundary
  rw [hrun, if_neg (by decide)]
  extract_lets s1 s2 s3
  rw [← addition_acc (inputs := inputs)]
  have hrange : Within [] [.adc, .clu, .fcmp, .blank] s1 s2 :=
    within_rangePick (within_comparatorWord (within_corrected (within_blankPick (within_refl _ _ _))))
  have h2 : SameAcc s1 s2 := hrange.sameAcc
  have hring : Within ([0x02, 0x09, 0x41, 0x51, 0x60, 0x7D, 0x100] ++ ringPages) [.pwr, .link, .intc, .loom, .heat, .cells, .ring, .twin, .mppt] s2
      (mpptClock (ringPick (carrierPick s2))) := within_mpptClock (within_ringPick (within_carrierPick (within_refl _ _ _)))
  have h3 : SameAcc s2 s3 := hring.sameAcc.trans sameAcc_clustersPick
  have hend : Within [0x62, 0x71] [.wdog, .meter] (lawPick s3) (syncPick (meterPick (watchdogPick (lawPick s3)))) :=
    within_syncPick (within_meterPick (within_watchdogPick (within_refl _ _ _)))
  exact (h2.trans h3).trans (sameAcc_lawPick.trans hend.sameAcc)

end

end Sys2Proof.Machine
end

section
/-! PROOFS. Picks, the validity of the measurement, the flywheel, and the reads of the warp that latch (R115 to R128, R138). -/

namespace Sys2Proof.Machine

set_option Elab.async false

section
variable {s t : State}

/-- What a change of the steering's state leaves as it is. -/
theorem setWarpState_get (hs : Canon s) {n : Nat} {f : Fld} (hf : ¬ Loud f.addr) (hne : f.addr ≠ WARP_STAT_STATE.addr ∨ WARP_STAT_STATE.wd ≤ f.lo) :
    (setWarpState n s).get f = s.get f := by
  unfold setWarpState
  extract_lets o
  split
  · rfl
  · rw [get_raiseF hf, get_setEvt hf]
    exact get_put_disjoint (f := WARP_STAT_STATE) hs (by decide) (hne.imp_right fun h => .inr (by simpa using h)) n

/-- What the steering law reads of a state. -/
structure SameSteer (s t : State) : Prop where
  warp : t.warp.thetaM = s.warp.thetaM ∧ t.warp.acc = s.warp.acc ∧ t.warp.fm = s.warp.fm
  slew : t.get WARP_STEER_SLEW = s.get WARP_STEER_SLEW
  tlin : t.get WARP_STEER_TLIN = s.get WARP_STEER_TLIN
  phmax : t.get WARP_STEER_PHMAX = s.get WARP_STEER_PHMAX
  inc : t.get WARP_INC_INC = s.get WARP_INC_INC

theorem slewTo_incNext (h : SameSteer s t) (f : Rat) : (slewTo f t).warp.incNext = (slewTo f s).warp.incNext := by
  unfold slewTo slewHz tPick fWarp
  rw [h.slew, h.inc]

theorem steerLaw_incNext (h : SameSteer s t) : (steerLaw t).warp.incNext = (steerLaw s).warp.incNext := by
  obtain ⟨htheta, hacc, hfm⟩ := h.warp
  have hphase : phaseError t = phaseError s := by
    unfold phaseError pickOf
    rw [htheta, hacc]
  unfold steerLaw
  rw [slewTo_incNext h]
  unfold slewHz fWarp
  rw [hphase, hfm, h.slew, h.tlin, h.phmax, h.inc]

theorem sameSteer_setWarpState (hs : Canon t) (h : SameSteer s t) {n : Nat} (hn : n < 4) : SameSteer s (setWarpState n t) := by
  obtain ⟨-, hwarp⟩ := setWarpState_fields (n := n) hs hn
  have hget {f : Fld} (hf : ¬ Loud f.addr) (hne : f.addr ≠ WARP_STAT_STATE.addr) : (setWarpState n t).get f = t.get f :=
    setWarpState_get hs hf (.inl hne)
  exact
    { warp := by rw [hwarp]; exact h.warp
      slew := (hget (by simp) (by decide)).trans h.slew
      tlin := (hget (by simp) (by decide)).trans h.tlin
      phmax := (hget (by simp) (by decide)).trans h.phmax
      inc := (hget (by simp) (by decide)).trans h.inc }

end

/-- Settles O23. -/
theorem picksAndWarpStates : Obligations.PicksAndWarpStates := by
  unfold Obligations.PicksAndWarpStates
  intro s hinv
  have hs := canon_of_inv hinv
  refine ⟨?_, ?_, ?_, ?_, ?_, ?_, ?_, ?_, ?_⟩
  · intro inputs hrun
    exact doesWithin_run (fun t h => (frame_execPickBoundary h).mono (by decide) (by decide)) (pickBoundary_acc (s := s.silent) hrun)
  · intro hvalid hrun hstate hforce hhold
    refine doesWithin_run (fun t h => frame_execMeasurementValid h) ?_
    rw [if_neg (by simp [hvalid, Nat.not_lt.2 hrun])]
    extract_lets s1 w s2
    have hc1 : Canon s1 := canon_stored (canon_stored hs)
    have h2 : Canon s2 ∧ s2.get WARP_STAT_VALID = 1 ∧ s2.get WARP_STAT_STATE = 1 ∧ s2.flag WARP_TRACK_FORCEFREE = false ∧ holdInForce s2 = false ∧
        s2.warp.depart = [] ∧ SameSteer s s2 := by
      have hne {f : Fld} (hf : f.addr ≠ WARP_STAT_VALID.addr) (hm : f.addr ≠ WARP_FM_FM.addr) : s2.get f = s.get f :=
        (get_put_ne (f := WARP_FM_FM) _ hm _).trans (get_put_ne (f := WARP_STAT_VALID) _ hf 1)
      have hv : s2.get WARP_STAT_VALID = 1 :=
        (get_put_ne (f := WARP_FM_FM) _ (by decide) _).trans (get_put_self (f := WARP_STAT_VALID) hs (by decide) 1)
      have hst : s2.get WARP_STAT_STATE = s.get WARP_STAT_STATE :=
        (get_put_ne (f := WARP_FM_FM) _ (by decide) _).trans (get_put_disjoint (f := WARP_STAT_VALID) hs (by decide) (.inr (.inl (by decide))) 1)
      refine ⟨hc1, hv, hst.trans hstate, ?_, ?_, rfl, ⟨rfl, rfl, rfl⟩, hne (by decide) (by decide), hne (by decide) (by decide), hne (by decide) (by decide),
        hne (by decide) (by decide)⟩
      · rw [← hforce, State.flag, State.flag, hne (by decide) (by decide)]
      · rw [← hhold, holdInForce, holdInForce, State.flag, State.flag, State.flag, State.flag, hne (by decide) (by decide), hne (by decide) (by decide)]
    clear_value s2
    obtain ⟨hc2, hv2, hst2, hff2, hh2, hdep2, hsame⟩ := h2
    rw [if_pos (by simp [hst2, hff2]), leaveFree, hh2, if_neg (by decide)]
    obtain ⟨hst3, hw3⟩ := setWarpState_fields (n := 2) hc2 (by decide)
    refine ⟨(setWarpState_get hc2 (by simp) (.inr (by decide))).trans hv2, hst3, ?_, ?_⟩
    · exact steerLaw_incNext (sameSteer_setWarpState hc2 hsame (by decide))
    · exact (congrArg (·.depart) hw3).trans hdep2
  · intro hfr
    exact does_run (x := execFmFreezeEnd _) rfl (if_pos hfr)
  · intro hstate
    refine doesWithin_run (fun t h => frame_execFlywheelLimit h) ?_
    rw [if_pos (show s.silent.get WARP_STAT_STATE = 3 from hstate)]
    have hsame : SameSteer s (setWarpState 1 s.silent) :=
      sameSteer_setWarpState (s := s) (t := s.silent) (n := 1) hs ⟨⟨rfl, rfl, rfl⟩, rfl, rfl, rfl, rfl⟩ (by decide)
    exact ⟨(setWarpState_fields (s := s.silent) (n := 1) hs (by decide)).1, slewTo_incNext hsame _⟩
  · intro hl
    exact does_run (x := execWarpLock _) rfl (if_pos hl)
  · intro agent lc
    refine doesWithin_run (fun t h => frame_execNowLoRead h) ?_
    exact ⟨rfl, List.lookup_cons_self, rfl, rfl⟩
  · intro agent
    refine doesWithin_run (fun t h => frame_execAtlSloRead h) ?_
    exact ⟨rfl, List.lookup_cons_self, rfl⟩
  · intro hup hrun
    refine doesWithin_run (fun t h => frame_execAngleZeroMark h) ?_
    rw [if_pos (by simp [hup, hrun])]
    exact ⟨rfl, rfl⟩
  · exact does_run (x := execWarpImageStale _) rfl (Eq.refl _)

end Sys2Proof.Machine
end

section
/-! SUPPORT. Frames: the meter, the pre-connection checks and the S0 inputs. -/

namespace Sys2Proof.Machine

set_option Elab.async false

section
variable {G : List Nat} {Q : List Part} {s0 s : State} (k : Within G Q s0 s)
include k

theorem within_writeSet {a0 : Nat} {a1 : MeterAcc} (hq : a1.q.length ≤ 3) (hj : a0 < 3 := by omega) (hG : [0x71] ⊆ G := by decide) :
    Within G Q s0 (writeSet a0 a1 s) := by
  refine k.step hG (List.nil_subset Q) (within_start fun h => ?_)
  unfold writeSet
  extract_lets x0 x1 x2 x3 x4 x5 x6 x7 x8 x9
  have hlen : x9.length ≤ 29 := by
    have h4 : x4.length = a1.q.length := List.length_map _
    have h3 : x3.length = 3 := (List.length_map _).trans List.length_range
    simp only [x9, List.length_append, List.length_map, List.length_range, List.length_cons, List.length_nil, h3, h4]
    omega
  clear_value x9
  exact within_foldl_mem h fun _ p hp h =>
    have hp : p.2 < x9.length := List.snd_lt_of_mem_zipIdx hp
    within_put h

theorem within_addEnergy {a0 : Nat} {a1 : Rat} (hk : a0 < 8 := by omega) (hG : [0x71] ⊆ G := by decide) (hQ : [.meter] ⊆ Q := by decide) :
    Within G Q s0 (addEnergy a0 a1 s) := by
  refine k.step hG hQ (within_start fun h => ?_)
  unfold addEnergy
  extract_lets x0 x1
  exact within_put (within_put (within_mk h))

theorem within_energyCycle {a0 : MeterAcc} (hG : [0x71] ⊆ G := by decide) (hQ : [.meter] ⊆ Q := by decide) :
    Within G Q s0 (energyCycle a0 s) := by
  refine k.step hG hQ (within_start fun h => ?_)
  unfold energyCycle
  extract_lets x0 x1 x2 x3 x4 x5 x7
  have h6 : Within _ _ s x5 := within_addEnergy h (by split <;> omega)
  have hquad : x7 < 8 := by
    simp only [x7]
    split <;> split <;> omega
  exact within_addEnergy (within_addEnergy h6) (by split <;> omega)

theorem within_residual {a0 : MeterAcc} (hG : [0x02, 0x09, 0x51, 0x71] ⊆ G := by decide) (hQ : [.link, .intc, .meter] ⊆ Q := by decide) :
    Within G Q s0 (residual a0 s) := by
  refine k.step hG hQ (within_start fun h => ?_)
  unfold residual
  extract_lets x0 x1 x2 x3 x4 x6
  have h5 : Within _ _ s x4 := within_mk h
  have h7 : ∀ v8 v9, Within [0x02, 0x09, 0x51, 0x71] [.link, .intc, .meter] s v9 → Within [0x02, 0x09, 0x51, 0x71] [.link, .intc, .meter] s (x6 v8 v9) := by intro v8 v9 k10; unfold x6; exact (within_raiseF (within_setEvt (within_putB k10)))
  exact within_ite (h7 _ _ h5) (within_ite (h7 _ _ h5) h5)

theorem within_pqSet {a0 : Nat} {a1 : Option PqEvt} (hG : [0x72] ⊆ G := by decide) (hQ : [.meter] ⊆ Q := by decide) :
    Within G Q s0 (pqSet a0 a1 s) := by
  refine k.step hG hQ (within_start fun h => ?_)
  unfold pqSet
  extract_lets x0 x1
  have h2 : Within _ _ s x1 := within_ite (within_mk h) (within_ite (within_mk h) (within_mk h))
  exact within_putB h2

theorem within_pqRecord {a0 : Nat} {a1 : PqEvt} {a2 : Bool} (hG : [0x72] ⊆ G := by decide) : Within G Q s0 (pqRecord a0 a1 a2 s) := by
  refine k.step hG (List.nil_subset Q) (within_start fun h => ?_)
  unfold pqRecord
  extract_lets x0
  exact within_ite h (within_put (within_put (within_put h)))

theorem within_pqBegin {a0 : Nat} {a1 : Nat} {a2 : Rat} (hG : [0x02, 0x09, 0x51, 0x72] ⊆ G := by decide)
    (hQ : [.link, .intc, .meter] ⊆ Q := by decide) : Within G Q s0 (pqBegin a0 a1 a2 s) := by
  refine k.step hG hQ (within_start fun h => ?_)
  unfold pqBegin
  extract_lets x0 x1 x2 x4 x6 x7
  have h3 : Within _ _ s x2 := within_count h (by split <;> [decide; (split <;> decide)])
  have h5 : Within _ _ s x4 := within_ite (within_count h3) h3
  have h8 : Within _ _ s x7 := within_ite h5 (within_pqRecord (within_put (within_put h5)))
  exact within_raiseF (within_setEvt (within_pqSet h8))

theorem within_pqEnd {a0 : Nat} {a1 : PqEvt} (hG : [0x02, 0x09, 0x51, 0x72] ⊆ G := by decide)
    (hQ : [.link, .intc, .meter] ⊆ Q := by decide) : Within G Q s0 (pqEnd a0 a1 s) :=
  k.step hG hQ (within_start fun h => within_raiseF (within_setEvt (within_pqSet (within_pqRecord h))))

theorem within_pqStep {a0 : Nat} {a1 : Nat} {a2 : Nat} {a3 : Bool} {a4 : Bool} {a5 : Rat} (hG : [0x02, 0x09, 0x51, 0x72] ⊆ G := by decide)
    (hQ : [.link, .intc, .meter] ⊆ Q := by decide) : Within G Q s0 (pqStep a0 a1 a2 a3 a4 a5 s) := by
  refine k.step hG hQ (within_start fun h => ?_)
  unfold pqStep
  split
  exacts [(within_ite (within_pqBegin h) h), (by extract_lets x0; exact (within_ite (within_pqEnd h) (within_pqSet (within_pqRecord h))))]

theorem within_checkStart (hG : [0x71] ⊆ G := by decide) (hQ : [.meter] ⊆ Q := by decide) : Within G Q s0 (checkStart s) := by
  refine k.step hG hQ (within_start fun h => ?_)
  unfold checkStart
  extract_lets x0 x1
  exact within_put (within_put (within_mk h))

theorem within_checkResult {a0 : Nat} (hG : [0x02, 0x09, 0x51, 0x71] ⊆ G := by decide) (hQ : [.link, .intc] ⊆ Q := by decide) :
    Within G Q s0 (checkResult a0 s) := by
  refine k.step hG hQ (within_start fun h => ?_)
  unfold checkResult
  extract_lets x0 x2
  have h1 : Within _ _ s x0 := within_putB (within_put h)
  have h3 : Within _ _ s x2 := within_ite h1 (within_put h1)
  exact within_raiseF (within_setEvt h3)

theorem within_chkctlWrite {a0 : Word} (hG : [0x02, 0x04, 0x09, 0x51, 0x71] ⊆ G := by decide)
    (hQ : [.link, .intc, .jr, .meter] ⊆ Q := by decide) : Within G Q s0 (chkctlWrite a0 s) := by
  refine k.step hG hQ (within_start fun h => ?_)
  unfold chkctlWrite
  extract_lets x0 x1 x3
  have hx0 : x0 = 0x71048 := rfl
  have h2 : Within _ _ s x1 := within_ite h (within_capture h)
  exact within_ite h2 (within_ite (within_capture h2) (within_ite (within_checkStart h2) (within_mk h2)))

theorem within_s0Count {a0 : Nat} (hk : a0 < 4 := by omega) (hG : [0x02, 0x04, 0x06, 0x09, 0x21, 0x51] ⊆ G := by decide)
    (hQ : [.link, .intc, .jr, .s0, .sec] ⊆ Q := by decide) : Within G Q s0 (s0Count a0 s) := by
  refine k.step hG hQ (within_start fun h => ?_)
  unfold s0Count
  extract_lets x0 x1 x3 x4
  have h2 : Within _ _ s x1 := within_put (within_put h)
  exact within_ite h2 (within_ite (within_mk h2) (within_ownRead (within_mk h2)))

theorem within_s0Bad {a0 : Nat} {a1 : Bool} (hk : a0 < 4 := by omega) (hG : [0x02, 0x04, 0x09, 0x21, 0x51] ⊆ G := by decide)
    (hQ : [.link, .intc, .jr] ⊆ Q := by decide) : Within G Q s0 (s0Bad a0 a1 s) :=
  k.step hG hQ (within_start fun h => within_raiseH (within_setEvt (within_count h)))

theorem within_loRead {a0 : Nat} {a1 : Nat} (hQ : [.host] ⊆ Q := by decide) : Within G Q s0 (loRead a0 a1 s).2 :=
  k.step (List.nil_subset G) hQ (within_start fun h => within_loadShadow h)

theorem within_eLoRead {a0 : Nat} {a1 : Nat} (hQ : [.host] ⊆ Q := by decide) : Within G Q s0 (eLoRead a0 a1 s).2 :=
  k.step (List.nil_subset G) hQ (within_start fun h => within_loRead h)

end

theorem length_q_closeCycle (a : MeterAcc) : (closeCycle a).q.length ≤ 3 := by simp [closeCycle]

theorem length_q_accMerge (a : MeterAcc) {b : MeterAcc} (hb : b.q.length ≤ 3) : (accMerge a b).q.length ≤ 3 := by
  simp only [accMerge, addL, List.length_zipWith]
  omega

theorem frame_execMeterWindowEnd {s t : State} (he : execMeterWindowEnd s = .next t) :
    Within ([0x02, 0x09, 0x51, 0x71]) [.link, .intc, .meter] s t := by
  refine within_run (fun s => within_start fun h => ?_) he
  extract_lets a s1 w m1 s2 y m2 s3 m3
  have ha : a.q.length ≤ 3 := length_q_closeCycle _
  have hw : w.q.length ≤ 3 := length_q_accMerge _ ha
  have hy : y.q.length ≤ 3 := length_q_accMerge _ hw
  have h1 : Within _ _ s s1 := within_residual (within_energyCycle (within_setEvt (within_writeSet h ha)))
  clear_value y w a s1
  have h2 : Within _ _ s s2 := within_mk h1
  clear_value s2
  have h3 : Within _ _ s s3 := within_setEvt (within_writeSet (within_mk h2) hw)
  clear_value s3
  exact within_ite h (within_ite h2 (within_ite h3 (within_setEvt (within_writeSet (within_mk h3) hy))))

theorem frame_execMeterELoRead {s t : State} {a0 : Nat} {a1 : Nat} (he : execMeterELoRead a0 a1 s = .next t) :
    Within ([0x71]) [.host] s t := by
  refine within_run (fun s => within_start fun h => ?_) he
  split
  rename_i w0 t1 q2
  exact (fun k3 => (within_emit k3)) (within_snd (within_eLoRead h) q2)

theorem frame_execPqRefresh {s t : State} (he : execPqRefresh s = .next t) :
    Within ([0x02, 0x09, 0x51, 0x72]) [.link, .intc, .meter] s t := by
  refine within_run (fun s => within_start fun h => ?_) he
  extract_lets x0 x1 x2 x3 x4 x6 x11 x12 x13 x14 x15 x16 x17 x18 x19 x20 x21 x23
  have h5 : Within _ _ s x4 := within_mk h
  have h7 : Within _ _ s x6 := within_foldl_range h5 fun _ _ hk k10 => (within_put k10)
  have h22 : Within _ _ s x21 := within_pqStep h7
  have h24 : Within _ _ s x23 := within_pqStep h22
  exact within_ite h (within_ite h5 (within_pqStep h24))

theorem frame_execCheckStart {s t : State} (he : execCheckStart s = .next t) :
    Within ([0x71]) [.meter] s t := by
  refine within_run (fun s => within_start fun h => ?_) he
  exact within_ite (within_checkStart h) h

theorem frame_execChkctlGo {s t : State} (he : execChkctlGo s = .next t) :
    Within ([0x02, 0x04, 0x09, 0x51, 0x71]) [.link, .intc, .jr, .meter] s t := by
  refine within_run (fun s => within_start fun h => ?_) he
  exact within_chkctlWrite h

theorem frame_execCheckDone {s t : State} (he : execCheckDone s = .next t) :
    Within ([0x02, 0x09, 0x51, 0x71]) [.link, .intc] s t := by
  refine within_run (fun s => within_start fun h => ?_) he
  exact within_ite (within_checkResult h) h

theorem frame_execCheckInvalidTimeout {s t : State} (he : execCheckInvalidTimeout s = .next t) :
    Within ([0x02, 0x09, 0x51, 0x71]) [.link, .intc, .meter] s t := by
  refine within_run (fun s => within_start fun h => ?_) he
  extract_lets x0
  exact within_ite (within_checkResult (within_mk h)) h

theorem frame_execCheckRetry {s t : State} (he : execCheckRetry s = .next t) :
    Within ([0x71]) [.meter] s t := by
  refine within_run (fun s => within_start fun h => ?_) he
  extract_lets x0
  exact within_ite h (within_ite (within_checkStart h) (within_mk h))

theorem frame_execS0Pulse {s t : State} {a0 : Nat} {a1 : Nat} {a2 : Nat} (hk : a0 < 4 := by omega) (he : execS0Pulse a0 a1 a2 s = .next t) :
    Within ([0x02, 0x04, 0x06, 0x09, 0x21, 0x51, 0x71]) [.link, .intc, .jr, .s0, .sec] s t := by
  refine within_run (fun s => within_start fun h => ?_) he
  extract_lets x0
  exact within_ite h (within_ite (within_mk h) (within_ite (within_s0Count h) (within_s0Bad h)))

theorem frame_execS0Maxon {s t : State} {a0 : Nat} (hk : a0 < 4 := by omega) (he : execS0Maxon a0 s = .next t) :
    Within ([0x02, 0x04, 0x06, 0x09, 0x21, 0x51, 0x71]) [.link, .intc, .jr, .s0, .sec] s t := by
  refine within_run (fun s => within_start fun h => ?_) he
  extract_lets x0
  exact within_ite h (within_s0Bad (within_s0Count (within_mk h)))

end Sys2Proof.Machine
end

section
/-! PROOFS. Metering windows, the half-cycle refresh, pre-connection checks and S0 inputs (R401 to R411). -/

namespace Sys2Proof.Machine

set_option Elab.async false

section
variable {s t : State}

/-! ### The words of a set -/

/-- The stores of a list of words of set words, from index `k` on, at base `b`. -/
def putSetWords (b k : Nat) (l : List Nat) (s : State) : State := (l.zipIdx k).foldl (fun s p => s.put (METER_SETW_W (b + p.2)) p.1) s

theorem putSetWords_cons {b k w : Nat} {l : List Nat} : putSetWords b k (w :: l) s = putSetWords b (k + 1) l (s.put (METER_SETW_W (b + k)) w) := rfl

theorem putSetWords_get_before {b : Nat} {l : List Nat} : ∀ {k n : Nat} {s : State}, n < b + k →
    (putSetWords b k l s).get (METER_SETW_W n) = s.get (METER_SETW_W n) := by
  induction l with
  | nil => exact fun _ => rfl
  | cons w l ih =>
    intro k n s hn
    rw [putSetWords_cons, ih (by omega)]
    exact get_put_ne (f := METER_SETW_W (b + k)) s (by dsimp only; omega) w

/-- A word of a stored list reads back. -/
theorem putSetWords_get {b : Nat} {l : List Nat} : ∀ {k n w : Nat} {s : State}, Canon s → l[n]? = some w →
    (putSetWords b k l s).get (METER_SETW_W (b + (k + n))) = w % 2 ^ 32 := by
  induction l with
  | nil => exact fun _ h => absurd h (by simp)
  | cons x l ih =>
    intro k n w s hs h
    rw [putSetWords_cons]
    cases n with
    | zero =>
      obtain rfl : x = w := by simpa using h
      exact (putSetWords_get_before (by omega)).trans (get_put_self (f := METER_SETW_W (b + k)) hs (by dsimp only; decide) x)
    | succ n =>
      rw [show k + (n + 1) = k + 1 + n by omega]
      exact ih (canon_stored hs) (by simpa using h)

/-- The last word but one of a set is the short warp of its angle zero. -/
theorem writeSet_swarp (hs : Canon s) {a : MeterAcc} (hq : a.q.length = 3) : (writeSet 0 a s).get (METER_SETW_W 27) = (swarp s - 4#32).toNat := by
  unfold writeSet
  extract_lets u i c ps qs st va ang unb ws
  have hps : ps.length = 3 := (List.length_map _).trans List.length_range
  have hqs : qs.length = 3 := (List.length_map _).trans hq
  have hword : ws[27]? = some (swarp s - 4#32).toNat := by
    refine (List.getElem?_append_right ?_).trans ?_ <;>
      simp only [List.length_append, List.length_map, List.length_range, List.length_cons, List.length_nil, hps, hqs]
    · decide
    · rfl
  clear_value ws
  have h := putSetWords_get (b := 0) (k := 0) hs hword
  exact h.trans (Nat.mod_eq_of_lt (swarp s - 4#32).isLt)

/-! ### What events leave of the meter -/

@[simp] theorem setEvt_meter {p m : Nat} : (setEvt p m s).meter = s.meter :=
  have h : Within [0x02, 0x09, 0x51, min p 0x100] [.link, .intc] s (setEvt p m s) := within_setEvt (within_refl _ _ _) (by simp) (by simp)
  h.same .meter (by decide)

@[simp] theorem raiseF_meter {a b c : Nat} : (raiseF a b c s).meter = s.meter :=
  have h : Within [0x51] [.link] s (raiseF a b c s) := within_raiseF (within_refl _ _ _)
  h.same .meter (by decide)

/-! ### What the end of a window leaves as it is -/

theorem writeSet_meter {j : Nat} {a : MeterAcc} : (writeSet j a s).meter = s.meter := by
  unfold writeSet
  extract_lets u i c ps qs st va ang unb ws
  clear_value ws
  exact List.foldlRecOn (motive := fun t : State => t.meter = s.meter) _ _ rfl fun _ h _ _ => h

/-- A state with the set word `f` and the long window of `s`. -/
def SameSet (f : Fld) (s t : State) : Prop := t.get f = s.get f ∧ t.meter.w150 = s.meter.w150 ∧ t.meter.w10 = s.meter.w10

theorem sameSet_addEnergy {f : Fld} (hf : 0x711c0 ≤ f.addr) {k : Nat} (hk : k < 8) {x : Rat} (h : SameSet f s t) : SameSet f s (addEnergy k x t) := by
  obtain ⟨hget, hw⟩ := h
  unfold addEnergy
  extract_lets e m
  refine ⟨?_, hw⟩
  exact (get_put_ne (f := METER_E_E (2 * k + 1)) _ (by dsimp only; omega) _).trans
    ((get_put_ne (f := METER_E_E (2 * k)) _ (by dsimp only; omega) _).trans hget)

theorem sameSet_energyCycle {f : Fld} (hf : 0x711c0 ≤ f.addr) {a : MeterAcc} (h : SameSet f s t) : SameSet f s (energyCycle a t) := by
  unfold energyCycle
  extract_lets k p q sv pos s1 quad
  have h1 : SameSet f s s1 := sameSet_addEnergy hf (by split <;> omega) h
  have hquad : quad < 8 := by
    simp only [quad]
    split <;> split <;> omega
  clear_value s1 quad
  exact sameSet_addEnergy hf (by split <;> omega) (sameSet_addEnergy hf hquad h1)

theorem sameSet_residual {f : Fld} (hf : ¬ Loud f.addr) (hne : f.addr ≠ METER_STAT_SUMI.addr) {a : MeterAcc} (h : SameSet f s t) :
    SameSet f s (residual a t) := by
  unfold residual
  extract_lets th hi lo m s1 set
  have h1 : SameSet f s s1 := h
  have hset (b : Bool) : SameSet f s (set b s1) := by
    obtain ⟨hget, hw⟩ := h1
    have hp : SameSet f s (s1.putB METER_STAT_SUMI b) := ⟨(get_put_ne (f := METER_STAT_SUMI) s1 hne _).trans hget, hw⟩
    obtain ⟨hget, hw, hv⟩ := hp
    refine ⟨?_, ?_, ?_⟩ <;> simp only [set]
    · rwa [get_raiseF hf, get_setEvt hf]
    · simpa using hw
    · simpa using hv
  clear_value set s1
  split
  · exact hset true
  split
  · exact hset false
  · exact h1

/-! ### Events of the supply leave the running half cycle alone -/

/-- The meter without its events of the supply. -/
def SameHalf (s t : State) : Prop :=
  t.meter.prev = s.meter.prev ∧ t.meter.half = s.meter.half ∧ t.meter.halfN = s.meter.halfN ∧ t.meter.halfLc = s.meter.halfLc ∧ t.meter.cyc = s.meter.cyc

theorem SameHalf.of_meter (h : t.meter = s.meter) : SameHalf s t := by
  unfold SameHalf
  rw [h]
  exact ⟨rfl, rfl, rfl, rfl, rfl⟩

theorem SameHalf.trans {u : State} (h : SameHalf s t) (h' : SameHalf t u) : SameHalf s u := by
  obtain ⟨h1, h2, h3, h4, h5⟩ := h
  obtain ⟨g1, g2, g3, g4, g5⟩ := h'
  exact ⟨g1.trans h1, g2.trans h2, g3.trans h3, g4.trans h4, g5.trans h5⟩

theorem SameHalf.eqs (h : SameHalf s t) {prev half : List Rat} {n lc : Nat} {cyc : MeterAcc} (h0 : s.meter.prev = prev ∧ s.meter.half = half ∧
    s.meter.halfN = n ∧ s.meter.halfLc = lc ∧ s.meter.cyc = cyc) :
    t.meter.prev = prev ∧ t.meter.half = half ∧ t.meter.halfN = n ∧ t.meter.halfLc = lc ∧ t.meter.cyc = cyc := by
  obtain ⟨g1, g2, g3, g4, g5⟩ := h0
  obtain ⟨k1, k2, k3, k4, k5⟩ := h
  exact ⟨k1.trans g1, k2.trans g2, k3.trans g3, k4.trans g4, k5.trans g5⟩

theorem sameHalf_pqSet {ty : Nat} {e : Option PqEvt} : SameHalf s (pqSet ty e s) := by
  unfold pqSet
  extract_lets m s1
  refine SameHalf.trans (t := s1) ?_ (.of_meter (State.putB_meter ..))
  simp only [s1]
  split
  · exact ⟨rfl, rfl, rfl, rfl, rfl⟩
  split
  · exact ⟨rfl, rfl, rfl, rfl, rfl⟩
  · exact ⟨rfl, rfl, rfl, rfl, rfl⟩

theorem pqRecord_meter {ty : Nat} {e : PqEvt} {o : Bool} : (pqRecord ty e o s).meter = s.meter := by
  unfold pqRecord
  split <;> rfl

theorem sameHalf_event {c d m : Nat} (h : SameHalf s t) : SameHalf s (raiseF 91 c d (setEvt 0x072 m (t))) :=
  h.trans (.of_meter (by simp))

theorem sameHalf_pqBegin {ty mask : Nat} {mag : Rat} : SameHalf s (pqBegin ty mask mag s) := by
  unfold pqBegin
  extract_lets r held s1 s2 e s3
  have h2 : s2.meter = s.meter := by
    simp only [s2]
    split <;> rfl
  have h3 : s3.meter = s.meter := by
    simp only [s3]
    split
    · exact h2
    · exact pqRecord_meter.trans h2
  clear_value s3
  exact sameHalf_event ((SameHalf.of_meter h3).trans sameHalf_pqSet)

theorem sameHalf_pqStep {ty lc mask : Nat} {starts ends : Bool} {worst : Rat} : SameHalf s (pqStep ty lc mask starts ends worst s) := by
  unfold pqStep
  split
  · split
    · exact sameHalf_pqBegin
    · exact .of_meter rfl
  · extract_lets e1
    split
    · exact sameHalf_event ((SameHalf.of_meter pqRecord_meter).trans sameHalf_pqSet)
    · exact (SameHalf.of_meter pqRecord_meter).trans sameHalf_pqSet

/-! ### S0 inputs -/

theorem s0Count_fields (hs : Canon s) {n : Nat} (hx : s.flag (S0_CFG_XEN n) = false) :
    (s0Count n s).get (S0_CNTLO_COUNT n) = (s.get (S0_CNTLO_COUNT n) + 1) % 2 ^ 32 ∧ (s0Count n s).get (S0_BAD_BAD n) = s.get (S0_BAD_BAD n) ∧
      Canon (s0Count n s) ∧ (s0Count n s).s0 = s.s0 := by
  unfold s0Count
  extract_lets lo s1
  rw [hx]
  refine ⟨?_, ?_, canon_stored (canon_stored hs), rfl⟩
  · exact (get_put_ne (f := S0_CNTHI_COUNT n) _ (by dsimp only; omega) _).trans (get_put_self (f := S0_CNTLO_COUNT n) hs (by dsimp only; decide) _)
  · exact (get_put_ne (f := S0_CNTHI_COUNT n) _ (by dsimp only; omega) _).trans (get_put_ne (f := S0_CNTLO_COUNT n) s (by dsimp only; omega) _)

theorem s0Bad_fields (hs : Canon s) {n : Nat} {long : Bool} (hn : n < 4) :
    (s0Bad n long s).get (S0_CNTLO_COUNT n) = s.get (S0_CNTLO_COUNT n) ∧
      (s0Bad n long s).get (S0_BAD_BAD n) = min (s.get (S0_BAD_BAD n) + 1) (2 ^ (S0_BAD_BAD n).wd - 1) ∧ (s0Bad n long s).s0 = s.s0 := by
  have hlo : ¬ Loud (S0_CNTLO_COUNT n).addr := by rw [loud_iff]; dsimp only; omega
  have hbad : ¬ Loud (S0_BAD_BAD n).addr := by rw [loud_iff]; dsimp only; omega
  unfold s0Bad
  refine ⟨?_, ?_, by simp⟩
  · rw [get_raiseH (by decide) hlo, get_setEvt hlo]
    exact get_put_ne (f := S0_BAD_BAD n) s (by dsimp only; omega) _
  · rw [get_raiseH (by decide) hbad, get_setEvt hbad]
    exact get_count_self (f := S0_BAD_BAD n) hs (by dsimp only; decide)

/-! ### Pre-connection checks -/

theorem checkStart_fields (hs : Canon s) : (checkStart s).get METER_STAT_CHKRUN = 1 ∧ (checkStart s).get METER_STAT_CHK = 0 ∧
    (checkStart s).meter.due = false ∧ (checkStart s).meter.chkN = 0 := by
  unfold checkStart
  extract_lets m m'
  refine ⟨?_, ?_, rfl, rfl⟩
  · exact get_put_self (f := METER_STAT_CHKRUN) (canon_stored hs) (by decide) 1
  · exact (get_put_disjoint (f := METER_STAT_CHKRUN) (canon_stored hs) (by decide) (.inr (.inl (by decide))) 1).trans
      (get_put_self (f := METER_STAT_CHK) hs (by decide) 0)

theorem checkResult_fields (hs : Canon s) {cause : Nat} : (checkResult cause s).get METER_STAT_CHKRUN = 0 ∧
    (checkResult cause s).get METER_STAT_CHK = bit (cause == 0) ∧ (cause ≠ 0 → (checkResult cause s).get METER_STAT_CAUSE = cause % 2 ^ 3) ∧
      (checkResult cause s).meter = s.meter := by
  unfold checkResult
  extract_lets s1 s2
  have h1 : Canon s1 ∧ s1.get METER_STAT_CHKRUN = 0 ∧ s1.get METER_STAT_CHK = bit (cause == 0) ∧ s1.meter = s.meter := by
    refine ⟨canon_stored (canon_stored hs), ?_, ?_, rfl⟩
    · simp [s1, hs]
    · simp [s1, hs]
      rfl
  clear_value s1
  obtain ⟨hc1, hrun1, hchk1, hm1⟩ := h1
  have h2 : s2.get METER_STAT_CHKRUN = 0 ∧ s2.get METER_STAT_CHK = bit (cause == 0) ∧ (cause ≠ 0 → s2.get METER_STAT_CAUSE = cause % 2 ^ 3) ∧
      s2.meter = s.meter := by
    simp only [s2]
    split
    · exact ⟨hrun1, hchk1, fun h => absurd ‹cause = 0› h, hm1⟩
    · exact ⟨(get_put_disjoint (f := METER_STAT_CAUSE) hc1 (by decide) (.inr (.inl (by decide))) cause).trans hrun1,
        (get_put_disjoint (f := METER_STAT_CAUSE) hc1 (by decide) (.inr (.inl (by decide))) cause).trans hchk1,
        fun _ => get_put_self (f := METER_STAT_CAUSE) hc1 (by decide) cause, hm1⟩
  clear_value s2
  obtain ⟨hrun2, hchk2, hcause2, hm2⟩ := h2
  refine ⟨?_, ?_, fun h => ?_, by simp [hm2]⟩
  · rwa [get_raiseF (by simp), get_setEvt (by simp)]
  · rwa [get_raiseF (by simp), get_setEvt (by simp)]
  · rw [get_raiseF (by simp), get_setEvt (by simp)]
    exact hcause2 h

end

/-- Settles O46. -/
theorem measurementAndChecks : Obligations.MeasurementAndChecks := by
  unfold Obligations.MeasurementAndChecks
  intro s hinv
  have hs := canon_of_inv hinv
  have hmay {s : State} (h : checkMay s = true) : s.get GRIDFN_STAT_CSTATE = 0 ∧ s.flag METER_STAT_CHKRUN = false := by
    simp only [checkMay, Bool.and_eq_true, decide_eq_true_eq, Bool.not_eq_true'] at h
    obtain ⟨⟨hc, -⟩, hr⟩ := h
    exact ⟨hc, hr⟩
  refine ⟨?_, ?_, ?_, ?_, ?_, ?_, ?_, ?_, ?_, ?_, ?_⟩
  · intro hn hcyc
    refine doesWithin_run (fun t h => frame_execMeterWindowEnd h) ?_
    rw [if_neg (by simp [hn])]
    extract_lets a s1 w m1 s2 y m2 s3 m3
    have hset : SameSet (METER_SETW_W 27) (writeSet 0 a s.silent) s1 := by
      refine sameSet_residual (by simp) (by decide) (sameSet_energyCycle (by decide) ⟨?_, ?_, ?_⟩)
      · exact get_setEvt (by simp)
      · simp
      · simp
    have hw : w.cycles = s.meter.w10.cycles + 1 := rfl
    have ha : a.q.length = 3 := by simp [a, closeCycle]
    clear_value w s1 a
    obtain ⟨hget, h150, -⟩ := hset
    rw [if_pos (by split <;> omega)]
    exact ⟨rfl, hw, hget.trans (writeSet_swarp (s := s.silent) hs ha), h150.trans (by rw [writeSet_meter]; rfl)⟩
  · intro agent k hk
    refine doesWithin_run (fun t h => frame_execMeterELoRead h) ?_
    rw [Nat.mod_eq_of_lt hk]
    exact ⟨rfl, List.lookup_cons_self, rfl⟩
  · intro hn
    refine doesWithin_run (fun t h => frame_execPqRefresh h) ?_
    rw [if_neg (by simpa using hn)]
    extract_lets us lc p m s0 s1 u th sag swl int hy all any lo hi s2 s3
    have h0 : s0.meter.prev = s.meter.half ∧ s0.meter.half = [0, 0, 0] ∧ s0.meter.halfN = 0 ∧ s0.meter.halfLc = 0 ∧ s0.meter.cyc = s.meter.cyc :=
      ⟨rfl, rfl, rfl, rfl, rfl⟩
    split
    · exact h0
    · have h1 : SameHalf s0 s1 := .of_meter (List.foldlRecOn (motive := fun t : State => t.meter = s0.meter) _ _ rfl fun _ h _ _ => h)
      have h2 : SameHalf s1 s2 := sameHalf_pqStep
      have h3 : SameHalf s2 s3 := sameHalf_pqStep
      exact (((h1.trans h2).trans h3).trans sameHalf_pqStep).eqs h0
  · intro hdue hm
    refine doesWithin_run (fun t h => frame_execCheckStart h) ?_
    rw [if_pos (by simp [show checkMay s.silent = true from hm, hdue])]
    exact checkStart_fields (s := s.silent) hs
  · intro hm
    obtain ⟨hc, hr⟩ := hmay hm
    refine doesWithin_run (fun t h => frame_execChkctlGo h) ?_
    unfold chkctlWrite
    extract_lets a s1 m
    have h1 : s1 = s.silent := if_pos (by decide)
    rw [if_neg (by decide), if_neg (by simp [hc, hr]), if_pos (show checkMay s.silent = true from hm), h1]
    obtain ⟨hrun, hchk, -, hn⟩ := checkStart_fields (s := s.silent) hs
    exact ⟨hrun, hchk, hn⟩
  · intro hr hn
    refine doesWithin_run (fun t h => frame_execCheckDone h) ?_
    rw [if_pos (by simp [hr, hn])]
    obtain ⟨hrun, hchk, hcause, -⟩ := checkResult_fields (s := s.silent) (cause := checkCause s.silent) hs
    exact ⟨hrun, hchk, hcause⟩
  · intro hdue hv
    refine doesWithin_run (fun t h => frame_execCheckInvalidTimeout h) ?_
    rw [if_pos (by simp [hdue, hv])]
    obtain ⟨hrun, hchk, hcause, hmeter⟩ := checkResult_fields (s := { s.silent with meter.due := false }) (cause := 1) hs
    exact ⟨hchk, hcause (by decide), hrun, congrArg (·.due) hmeter⟩
  · intro hchk hcause hm
    obtain ⟨hc, hr⟩ := hmay hm
    refine doesWithin_run (fun t h => frame_execCheckRetry h) ?_
    rw [if_neg (by simp [hchk, hcause, hc, hr]), if_pos (show checkMay s.silent = true from hm)]
    obtain ⟨hrun, -, hdue, hn⟩ := checkStart_fields (s := s.silent) hs
    exact ⟨hrun, hdue, hn⟩
  · intro n on' off hn hen hmax hon hoff hx
    refine doesWithin_run (fun t h => frame_execS0Pulse hn h) ?_
    rw [if_neg (by simp [hen, hn]), if_neg (show ¬ s.silent.s0.maxed.getD n false = true from Bool.eq_false_iff.1 hmax), if_pos (by simp [hon, hoff])]
    obtain ⟨hcount, hbad, -⟩ := s0Count_fields (s := s.silent) (n := n) hs hx
    exact ⟨hcount, hbad⟩
  · intro n on' off hn hen hmax hon
    refine doesWithin_run (fun t h => frame_execS0Pulse hn h) ?_
    rw [if_neg (by simp [hen, hn]), if_neg (show ¬ s.silent.s0.maxed.getD n false = true from Bool.eq_false_iff.1 hmax), if_neg (by simp; omega)]
    obtain ⟨hcount, hbad, -⟩ := s0Bad_fields (s := s.silent) (n := n) (long := false) hs hn
    exact ⟨hcount, hbad⟩
  · intro n hn hlen hen hmax hx
    refine doesWithin_run (fun t h => frame_execS0Maxon hn h) ?_
    rw [if_neg (by rw [show s.silent.s0.maxed.getD n false = false from hmax]; simp [hen, hn])]
    obtain ⟨hcount, hbad, hc, hs0⟩ := s0Count_fields (s := { s.silent with s0.maxed := s.silent.s0.maxed.set n true }) (n := n) hs hx
    generalize s0Count n { s.silent with s0.maxed := s.silent.s0.maxed.set n true } = t at hcount hbad hc hs0 ⊢
    obtain ⟨hcount', hbad', hs0'⟩ := s0Bad_fields (n := n) (long := true) hc hn
    refine ⟨?_, hcount'.trans hcount, hbad'.trans (by rw [hbad]; rfl)⟩
    rw [hs0', hs0]
    simp [hlen]

end Sys2Proof.Machine
end

section
/-! PROOFS. Temperature sensors: conversions, readings, exclusion and readmission (R413, R414, R416, R417, R419). -/

namespace Sys2Proof.Machine

set_option Elab.async false

/-- A field of a sensor's register. -/
def SensorField (f : Fld) : Prop := 0x7c050 ≤ f.addr ∧ f.addr ≤ 0x7c070 ∨ 0x1d050 ≤ f.addr ∧ f.addr ≤ 0x1d064

/-- A field of a sensor's register, or the UNKNOWN bit of the F-die or the H-die. -/
def SettledField (f : Fld) : Prop := SensorField f ∨ f = FTHERM_STAT_UNKNOWN ∨ f = HTHERM_STAT_HUNK

/-- A field that shares no bit with the settled ones. -/
abbrev Unsettled (g : Fld) : Prop :=
  g.lo + g.wd ≤ 32 ∧ (g.addr < 0x7c050 ∨ 0x7c070 < g.addr) ∧ (g.addr < 0x1d050 ∨ 0x1d064 < g.addr) ∧
    (g.addr ≠ 0x7c040 ∨ g.lo + g.wd ≤ 8 ∨ 9 ≤ g.lo) ∧ (g.addr ≠ 0x1d040 ∨ g.lo + g.wd ≤ 7 ∨ 8 ≤ g.lo)

/-- The settled fields and what is known of the sensors are those of `s`. -/
structure Settled (s t : State) : Prop where
  canon : Canon s → Canon t
  field : Canon s → ∀ f, SettledField f → t.get f = s.get f
  sensors : (t.heat.conv, t.heat.has, t.heat.off, t.heat.near) = (s.heat.conv, s.heat.has, s.heat.off, s.heat.near)

section
variable {s t u : State} {k d : Nat}

theorem SettledField.not_loud {f : Fld} (hf : SettledField f) : ¬ Loud f.addr := by
  rw [loud_iff]
  obtain (hf | hf) | rfl | rfl := hf
  · omega
  · omega
  · decide
  · decide

theorem SettledField.page {f : Fld} (hf : SettledField f) : min (pageOf f.addr) 0x100 = 0x7C ∨ min (pageOf f.addr) 0x100 = 0x1D := by
  obtain (hf | hf) | rfl | rfl := hf
  · exact .inl (by unfold pageOf; omega)
  · exact .inr (by unfold pageOf; omega)
  · exact .inl (by decide)
  · exact .inr (by decide)

theorem Settled.refl (s : State) : Settled s s := ⟨id, fun _ _ _ => rfl, rfl⟩

theorem Settled.trans (h : Settled s t) (h' : Settled t u) : Settled s u :=
  ⟨fun hs => h'.canon (h.canon hs), fun hs f hf => (h'.field (h.canon hs) f hf).trans (h.field hs f hf), h'.sensors.trans h.sensors⟩

/-- An operation that leaves the pages of the sensors alone. -/
theorem Within.settled {G : List Nat} {Q : List Part} (h : Within G Q s t) (hG : 0x7C ∉ G ∧ 0x1D ∉ G := by decide) (hQ : .heat ∉ Q := by decide) :
    Settled s t := by
  have hheat : t.heat = s.heat := h.same .heat hQ
  refine ⟨h.wf, fun _ f hf => h.get ?_, by rw [hheat]⟩
  obtain hp | hp := hf.page
  · rw [hp]
    exact hG.1
  · rw [hp]
    exact hG.2

theorem settled_put {g : Fld} (hg : Unsettled g) {v : Nat} (h : Settled s t) : Settled s (t.put g v) := by
  refine h.trans ⟨canon_stored, fun hs f hf => ?_, rfl⟩
  obtain ⟨hfit, h1, h2, h3, h4⟩ := hg
  refine get_put_disjoint (f := g) hs hfit ?_ v
  obtain (hf | hf) | rfl | rfl := hf
  · exact .inl (by omega)
  · exact .inl (by omega)
  · dsimp only
    omega
  · dsimp only
    omega

theorem settled_thermEvent {b c v : Nat} (h : Settled s t) : Settled s (thermEvent d b c v t) := by
  refine h.trans ?_
  unfold thermEvent
  split
  · exact ⟨fun hs => by simp [hs], fun _ f hf => by rw [get_raiseF hf.not_loud, get_setEvt hf.not_loud], by simp⟩
  · exact ⟨fun hs => by simp [hs], fun _ f hf => by rw [get_raiseH (by decide) hf.not_loud, get_setEvt hf.not_loud], by simp⟩

theorem settled_ite {p : Prop} [Decidable p] (ht : Settled s t) (hu : Settled s u) : Settled s (if p then t else u) := by
  split
  · exact ht
  · exact hu

/-! ### What follows a reading -/

theorem settled_evalThrot (h : Settled s t) : Settled s (evalThrot t) := settled_put (by decide) h

theorem unsettled_levelFld (d : Nat) : Unsettled (levelFld d) := by
  unfold levelFld
  split
  · decide
  split
  · decide
  · decide

theorem settled_putLevel (h : Settled s t) : Settled s (putLevel d t) := by
  unfold putLevel
  extract_lets byT lv old
  exact settled_ite h (settled_thermEvent (settled_put (unsettled_levelFld d) h))

theorem settled_enterShutdown (h : Settled s t) : Settled s (enterShutdown d t) :=
  have hwithin : Within [0x02, 0x03, 0x04, 0x09, 0x14, 0x41, 0x51] [.link, .intc, .jr, .weave] t (enterShutdown d t) := within_enterShutdown (within_refl _ _ _)
  h.trans hwithin.settled

theorem settled_endDemand {old : Nat} (h : Settled s t) : Settled s (endDemand d old t) :=
  have hwithin : Within [0x02, 0x03, 0x09, 0x51] [.link, .intc] t (endDemand d old t) := within_endDemand (within_refl _ _ _)
  h.trans hwithin.settled

theorem settled_hardLimit (h : Settled s t) : Settled s (hardLimit d t) := by
  unfold hardLimit
  split
  · have h1 : Settled s (t.put FTHERM_STAT_HARD 1) := settled_put (by decide) h
    have hwithin : Within ([0x51] ++ ringPages) [.link, .pwr] (t.put FTHERM_STAT_HARD 1) (blockActions (raiseF 98 1 16 (t.put FTHERM_STAT_HARD 1))) :=
      within_blockActions (within_raiseF (within_refl _ _ _))
    exact h1.trans hwithin.settled
  · extract_lets s1 s2 v
    have h1 : Within ([0x02, 0x03, 0x04, 0x09, 0x14, 0x20, 0x51] ++ louvrePages) [.link, .intc, .jr, .porter, .pwr, .louv] t s1 :=
      within_retain (within_raiseH (within_refl _ _ _))
    have h2 : Within _ _ t s2 := within_demand h1
    clear_value s2
    exact h.trans (Within.settled (within_ite (within_foldl_range (within_mk h2) fun _ _ _ h => within_louvFault h) h2))

theorem settled_evalLevel {x : Int} (h : Settled s t) : Settled s (evalLevel d x t) := by
  unfold evalLevel
  split
  extract_lets m byT old w s2 s3 hard s4
  have h2 : Settled s s2 := settled_putLevel (h.trans ⟨id, fun _ _ _ => rfl, rfl⟩)
  have h3 : Settled s s3 := settled_ite (settled_enterShutdown h2) (settled_endDemand h2)
  have h4 : Settled s s4 := settled_ite (settled_hardLimit h3) h3
  clear_value s4
  exact settled_evalThrot (h4.trans ⟨id, fun _ _ _ => rfl, rfl⟩)

theorem settled_putBand {b : Nat} (h : Settled s t) : Settled s (putBand b t) := by
  unfold putBand
  split
  · exact h
  · have h1 : Settled s (thermEvent 0 2 3 b (t.put FTHERM_STAT_BAND b)) := settled_thermEvent (settled_put (by decide) h)
    generalize thermEvent 0 2 3 b (t.put FTHERM_STAT_BAND b) = u at h1 ⊢
    exact h1.trans ⟨id, fun _ _ _ => rfl, rfl⟩

theorem settled_dieSettles (h : Settled s t) : Settled s (dieSettles d t) := by
  unfold dieSettles
  extract_lets s1
  have h1 : Settled s s1 := settled_evalThrot (settled_putLevel h)
  clear_value s1
  exact settled_ite (settled_putBand h1) h1

theorem settled_evalFuseok (h : Settled s t) : Settled s (evalFuseok t) := by
  unfold evalFuseok
  extract_lets ts ok s1
  have h1 : Settled s s1 := settled_ite h (settled_thermEvent (settled_put (by decide) h))
  clear_value s1
  have hwithin : Within [0x02, 0x04, 0x07, 0x09, 0x51] [.link, .intc, .jr] s1 (raiseH 129 3 0 (setEvt 0x007 4 (s1.put LIFECYCLE_STAT_PAUSED 0))) :=
    within_raiseH (within_setEvt (within_put (within_refl _ _ _)))
  exact settled_ite (h1.trans hwithin.settled) h1

/-! ### The registers of the sensors -/

/-- The register of sensor `k`. -/
def sensorAddr (k : Nat) : Nat := if k < 9 then 0x7c050 + 4 * k else 0x1d050 + 4 * (k - 9)

theorem sensT_eq (k : Nat) : sensT k = ⟨sensorAddr k, 0, 16⟩ := by
  unfold sensT sensorAddr
  split <;> rfl

theorem sensExcl_eq (k : Nat) : sensExcl k = ⟨sensorAddr k, 16, 1⟩ := by
  unfold sensExcl sensorAddr
  split <;> rfl

theorem sensCnt_eq (k : Nat) : sensCnt k = ⟨sensorAddr k, 24, 8⟩ := by
  unfold sensCnt sensorAddr
  split <;> rfl

theorem sensorField_of_addr {f : Fld} (hk : k < 15) (hf : f.addr = sensorAddr k) : SensorField f := by
  unfold SensorField
  rw [hf, sensorAddr]
  split <;> omega

theorem sensorField_sensT (hk : k < 15) : SensorField (sensT k) := sensorField_of_addr hk (by rw [sensT_eq])

theorem sensorField_sensExcl (hk : k < 15) : SensorField (sensExcl k) := sensorField_of_addr hk (by rw [sensExcl_eq])

theorem sensorField_sensCnt (hk : k < 15) : SensorField (sensCnt k) := sensorField_of_addr hk (by rw [sensCnt_eq])

theorem sensorAddr_inj {j : Nat} (hj : j < 15) (hk : k < 15) (h : sensorAddr j = sensorAddr k) : j = k := by
  unfold sensorAddr at h
  split at h <;> split at h <;> omega

/-! ### UNKNOWN (R416) -/

/-- The fields of the sensors' registers and what is known of the sensors are those of `s`. -/
structure SameSensors (s t : State) : Prop where
  canon : Canon s → Canon t
  field : Canon s → ∀ f, SensorField f → t.get f = s.get f
  sensors : (t.heat.conv, t.heat.has, t.heat.off, t.heat.near) = (s.heat.conv, s.heat.has, s.heat.off, s.heat.near)

theorem Settled.sameSensors (h : Settled s t) : SameSensors s t := ⟨h.canon, fun hs f hf => h.field hs f (.inl hf), h.sensors⟩

theorem SameSensors.trans (h : SameSensors s t) (h' : SameSensors t u) : SameSensors s u :=
  ⟨fun hs => h'.canon (h.canon hs), fun hs f hf => (h'.field (h.canon hs) f hf).trans (h.field hs f hf), h'.sensors.trans h.sensors⟩

theorem SameSensors.conv (h : SameSensors s t) : t.heat.conv = s.heat.conv := congrArg (·.1) h.sensors

theorem SameSensors.has (h : SameSensors s t) : t.heat.has = s.heat.has := congrArg (·.2.1) h.sensors

theorem SameSensors.off (h : SameSensors s t) : t.heat.off = s.heat.off := congrArg (·.2.2.1) h.sensors

theorem SameSensors.near (h : SameSensors s t) : t.heat.near = s.heat.near := congrArg (·.2.2.2) h.sensors

theorem sameSensors_put {g : Fld} (hg : (g.addr < 0x7c050 ∨ 0x7c070 < g.addr) ∧ (g.addr < 0x1d050 ∨ 0x1d064 < g.addr)) {v : Nat} :
    SameSensors s (s.put g v) := by
  refine ⟨canon_stored, fun hs f hf => ?_, rfl⟩
  refine get_put_ne (f := g) s ?_ v
  obtain hf | hf := hf <;> omega

/-- Sensors of a die that count towards its temperature. -/
def countedSensors (s : State) (d : Nat) : Nat := ((dieSensors d).filter fun k => !s.flag (sensExcl k) && s.heat.has.getD k false).length

theorem SameSensors.counted (hs : Canon s) (h : SameSensors s t) (d : Nat) : countedSensors t d = countedSensors s d := by
  unfold countedSensors
  refine congrArg List.length (List.filter_congr fun k hk => ?_)
  have hk : k < 15 := List.mem_range.1 (List.mem_filter.1 hk).1
  rw [h.has, State.flag, State.flag, h.field hs _ (sensorField_sensExcl hk)]

theorem unkFld_addr (d : Nat) : unkFld d = FTHERM_STAT_UNKNOWN ∨ unkFld d = HTHERM_STAT_HUNK ∨ unkFld d = HTHERM_STAT_DUNK := by
  unfold unkFld
  split
  · exact .inl rfl
  split
  · exact .inr (.inl rfl)
  · exact .inr (.inr rfl)

/-- UNKNOWN follows the sensors that count. -/
theorem evalUnknown_fields (hs : Canon s) (d : Nat) : SameSensors s (evalUnknown d s) ∧
    (evalUnknown d s).get (unkFld d) = bit (decide (countedSensors s d < 3 - d)) := by
  unfold evalUnknown
  extract_lets need n s1 u
  have h1 : Canon s1 ∧ SameSensors s s1 := by
    simp only [s1]
    split
    · exact ⟨canon_stored hs, sameSensors_put (by decide)⟩
    · exact ⟨hs, (Settled.refl s).sameSensors⟩
  clear_value s1
  obtain ⟨hc, hsame⟩ := h1
  have hout : ((unkFld d).addr < 0x7c050 ∨ 0x7c070 < (unkFld d).addr) ∧ ((unkFld d).addr < 0x1d050 ∨ 0x1d064 < (unkFld d).addr) := by
    obtain h | h | h := unkFld_addr d <;> rw [h] <;> decide
  have hloud : ¬ Loud (unkFld d).addr := by
    obtain h | h | h := unkFld_addr d <;> rw [h, loud_iff] <;> decide
  have hbit : (unkFld d).wd = 1 ∧ (unkFld d).lo + (unkFld d).wd ≤ 32 := by
    obtain h | h | h := unkFld_addr d <;> rw [h] <;> decide
  obtain ⟨hwd, hfit⟩ := hbit
  split
  · refine ⟨hsame, ?_⟩
    rw [← bit_of_flag hwd, ‹s1.flag (unkFld d) = u›]
    rfl
  · refine ⟨(hsame.trans (sameSensors_put hout)).trans (settled_thermEvent (.refl _)).sameSensors, ?_⟩
    unfold thermEvent
    have hput : (s1.putB (unkFld d) u).get (unkFld d) = bit u := get_putB_self hc hfit hwd
    split
    · rw [get_raiseF hloud, get_setEvt hloud]
      exact hput
    · rw [get_raiseH (by decide) hloud, get_setEvt hloud]
      exact hput

theorem settled_evalUnknown_dDie (h : Settled s t) : Settled s (evalUnknown 2 t) := by
  unfold evalUnknown
  extract_lets need n s1 u
  exact settled_ite h (settled_thermEvent (settled_put (by decide) h))

/-! ### Exclusion and readmission (R413, R414) -/

/-- The counts of the cross-check begin again. -/
def recounted (k : Nat) (s : State) : State := { s with heat := { s.heat with off := s.heat.off.set k 0, near := s.heat.near.set k 0 } }

theorem getD_set_zero (l : List Nat) (k : Nat) : (l.set k 0).getD k 0 = 0 := by
  rw [List.getD_eq_getElem?_getD, List.getElem?_set]
  simp only [if_true]
  split <;> rfl

/-- What a change of an exclusion leaves: `t` is the state that its event finds. -/
theorem settles_of_recounted (hs : Canon s) {a b c v : Nat} : SameSensors (recounted k s) (dieSettles a (evalUnknown d (thermEvent d b c v (recounted k s)))) := by
  have h1 : Settled (recounted k s) (thermEvent d b c v (recounted k s)) := settled_thermEvent (.refl _)
  have hc : Canon (recounted k s) := hs
  generalize thermEvent d b c v (recounted k s) = t at h1 ⊢
  obtain ⟨h2, -⟩ := evalUnknown_fields (h1.canon hc) d
  exact (h1.sameSensors.trans h2).trans (settled_dieSettles (.refl _)).sameSensors

/-- A sensor that is excluded: its bit, its count, and the counts of its cross-check. -/
theorem excludeSensor_settles (hs : Canon s) (hk : k < 15) (hexcl : s.flag (sensExcl k) = false) {t : State} (ht : dieSettles (sensorDie k) (excludeSensor k s) = t) :
    t.get (sensExcl k) = 1 ∧ t.get (sensCnt k) = min (s.get (sensCnt k) + 1) (2 ^ (sensCnt k).wd - 1) ∧ t.heat.conv = s.heat.conv ∧
      t.heat.off.getD k 0 = 0 ∧ t.heat.near.getD k 0 = 0 := by
  subst ht
  unfold excludeSensor
  rw [hexcl, if_neg (by decide)]
  extract_lets d s1 s2 w s3
  have hfit : (sensCnt k).lo + (sensCnt k).wd ≤ 32 ∧ (sensExcl k).lo + (sensExcl k).wd ≤ 32 ∧ (sensExcl k).lo + (sensExcl k).wd ≤ (sensCnt k).lo ∧
      (sensExcl k).wd = 1 := by
    rw [sensCnt_eq, sensExcl_eq]
    dsimp only
    omega
  obtain ⟨hcnt, hex, hbelow, hwd⟩ := hfit
  have h1 : Canon s1 ∧ s1.get (sensExcl k) = 1 ∧ s1.get (sensCnt k) = min (s.get (sensCnt k) + 1) (2 ^ (sensCnt k).wd - 1) ∧ s1.heat = s.heat := by
    have hput : Canon (s.put (sensExcl k) 1) := canon_stored hs
    refine ⟨canon_stored hput, ?_, ?_, rfl⟩
    · refine (get_put_disjoint (f := sensCnt k) hput hcnt (.inr (.inl hbelow)) _).trans ?_
      rw [get_put_self hs hex, hwd]
      rfl
    · rw [get_count_self hput hcnt, get_put_disjoint (f := sensExcl k) hs hex (.inr (.inr hbelow))]
  have h2 : SameSensors s1 s2 := by
    simp only [s2]
    split
    · exact sameSensors_put (by decide)
    · exact (Settled.refl s1).sameSensors
  clear_value s2 s1
  obtain ⟨hc1, hexcl1, hcnt1, hheat1⟩ := h1
  have h3 : SameSensors (recounted k s2) (dieSettles (sensorDie k) (evalUnknown d (thermEvent d 1 2 ((if d = 0 then k else k - 9) + 16) s3))) :=
    settles_of_recounted (h2.canon hc1)
  generalize dieSettles (sensorDie k) (evalUnknown d (thermEvent d 1 2 ((if d = 0 then k else k - 9) + 16) s3)) = t at h3 ⊢
  have hc2 : Canon (recounted k s2) := h2.canon hc1
  refine ⟨?_, ?_, ?_, ?_, ?_⟩
  · exact (h3.field hc2 _ (sensorField_sensExcl hk)).trans ((h2.field hc1 _ (sensorField_sensExcl hk)).trans hexcl1)
  · exact (h3.field hc2 _ (sensorField_sensCnt hk)).trans ((h2.field hc1 _ (sensorField_sensCnt hk)).trans hcnt1)
  · exact h3.conv.trans (h2.conv.trans (congrArg (·.conv) hheat1))
  · rw [h3.off]
    exact getD_set_zero _ _
  · rw [h3.near]
    exact getD_set_zero _ _

/-- A sensor that is readmitted: its bit, and the counts of its cross-check. -/
theorem readmitSensor_settles (hs : Canon s) (hk : k < 15) {t : State} (ht : dieSettles (sensorDie k) (readmitSensor k s) = t) :
    t.get (sensExcl k) = 0 ∧ t.heat.near.getD k 0 = 0 := by
  subst ht
  unfold readmitSensor
  extract_lets d s1 s2 w s3
  have h1 : Canon s1 ∧ s1.get (sensExcl k) = 0 := by
    refine ⟨canon_stored hs, (get_put_self (f := sensExcl k) hs ?_ 0).trans (Nat.zero_mod _)⟩
    rw [sensExcl_eq]
    dsimp only
    decide
  have h2 : SameSensors s1 s2 := by
    simp only [s2]
    split
    · exact sameSensors_put (by decide)
    · exact (Settled.refl s1).sameSensors
  clear_value s2 s1
  obtain ⟨hc1, hexcl1⟩ := h1
  have h3 : SameSensors (recounted k s2) (dieSettles (sensorDie k) (evalUnknown d (thermEvent d 1 2 (if d = 0 then k else k - 9) s3))) :=
    settles_of_recounted (h2.canon hc1)
  generalize dieSettles (sensorDie k) (evalUnknown d (thermEvent d 1 2 (if d = 0 then k else k - 9) s3)) = t at h3 ⊢
  refine ⟨(h3.field (h2.canon hc1) _ (sensorField_sensExcl hk)).trans ((h2.field hc1 _ (sensorField_sensExcl hk)).trans hexcl1), ?_⟩
  rw [h3.near]
  exact getD_set_zero _ _

/-! ### Readings (R413, R414) -/

theorem lsb_bounds {x : Rat} {a b : Int} (ha : (a : Rat) ≤ x) (hb : x ≤ (b : Rat)) : a ≤ lsb x ∧ lsb x ≤ b := by
  unfold lsb
  split
  · exact ⟨Int.cast_le.1 (ha.trans Rat.le_ceil), Rat.ceil_le_iff.2 hb⟩
  · exact ⟨Rat.le_floor_iff.2 ha, Int.cast_le.1 ((Rat.floor_le x).trans hb)⟩

/-- The mean of four conversions within the range of a sensor is within it. -/
theorem mean_bounds {c : List Int} (hlen : c.length = 4) (hc : ∀ x ∈ c, -440 ≤ x ∧ x ≤ 1400) :
    -440 ≤ lsb ((c.foldl (· + ·) 0 : Int) / (4 : Rat)) ∧ lsb ((c.foldl (· + ·) 0 : Int) / (4 : Rat)) ≤ 1400 := by
  obtain ⟨a, b, d, e, rfl⟩ : ∃ a b d e, c = [a, b, d, e] := by
    match c, hlen with
    | [a, b, d, e], _ => exact ⟨a, b, d, e, rfl⟩
  have h1 := hc a (by simp)
  have h2 := hc b (by simp)
  have h3 := hc d (by simp)
  have h4 := hc e (by simp)
  have hsum : -1760 ≤ [a, b, d, e].foldl (· + ·) 0 ∧ [a, b, d, e].foldl (· + ·) 0 ≤ 5600 := by
    simp only [List.foldl_cons, List.foldl_nil]
    omega
  generalize [a, b, d, e].foldl (· + ·) 0 = x at hsum ⊢
  obtain ⟨hlo, hhi⟩ := hsum
  have hlo' : (-1760 : Rat) ≤ (x : Rat) := by exact_mod_cast hlo
  have hhi' : (x : Rat) ≤ 5600 := by exact_mod_cast hhi
  refine lsb_bounds ?_ ?_
  · rw [le_div_iff₀ (by norm_num)]
    norm_num
    linarith
  · rw [div_le_iff₀ (by norm_num)]
    norm_num
    linarith

theorem getI_putI_sensT (hs : Canon s) {x : Int} (hx : -440 ≤ x ∧ x ≤ 1400) : (s.putI (sensT k) x).getI (sensT k) = x := by
  have hfit : (sensT k).lo + (sensT k).wd ≤ 32 := by
    rw [sensT_eq]
    dsimp only
    decide
  rw [getI_putI_self hs hfit, sensT_eq]
  unfold toSigned ofSigned
  dsimp only
  split <;> omega

/-- The conversions of a sensor are within its range, and at most four. -/
def InRange (c : List Int) : Prop := c.length ≤ 4 ∧ ∀ x ∈ c, -440 ≤ x ∧ x ≤ 1400

/-- The mean of the conversions of a sensor. -/
def conversionMean (c : List Int) : Int := lsb ((c.foldl (· + ·) 0 : Int) / (4 : Rat))

/-- The sensors of `l` have been read: each has its mean, and the other registers are those of `s`. -/
structure Read (l : List Nat) (s t : State) : Prop where
  canon : Canon t
  conv : t.heat.conv = s.heat.conv
  excl : ∀ j < 15, t.flag (sensExcl j) = s.flag (sensExcl j)
  value : ∀ j ∈ l, 4 ≤ (s.heat.conv.getD j []).length → t.getI (sensT j) = conversionMean (s.heat.conv.getD j [])
  other : ∀ j < 15, j ∉ l → t.getI (sensT j) = s.getI (sensT j)

theorem readSensor_read (hs : Canon s) (hk : k < 15) (hrange : InRange (s.heat.conv.getD k [])) : Read [k] s (readSensor k s) := by
  unfold readSensor
  extract_lets c m s0 s1
  obtain ⟨hlen, hbounds⟩ := hrange
  split
  · refine ⟨hs, rfl, fun _ _ => rfl, fun j hj h4 => ?_, fun _ _ _ => rfl⟩
    obtain rfl := List.mem_singleton.1 hj
    exact absurd h4 (Nat.not_le_of_lt ‹_›)
  · have hc : c.length ≤ 4 := hlen
    have hm : -440 ≤ m ∧ m ≤ 1400 := mean_bounds (by omega) hbounds
    rw [if_neg (by simp only [Bool.or_eq_true, decide_eq_true_eq]; omega)]
    have hne {j : Nat} (hj : j < 15) (hjk : j ≠ k) : (sensT j).addr ≠ (sensT k).addr := by
      rw [sensT_eq, sensT_eq]
      exact fun h => hjk (sensorAddr_inj hj hk h)
    refine ⟨canon_stored hs, rfl, fun j hj => ?_, fun j hj _ => ?_, fun j hj hout => ?_⟩
    · have hget : (s.putI (sensT k) m).get (sensExcl j) = s.get (sensExcl j) := by
        refine get_put_disjoint (f := sensT k) hs (by rw [sensT_eq]; dsimp only; decide) (.inr (.inr ?_)) _
        rw [sensT_eq, sensExcl_eq]
        dsimp only
        decide
      exact congrArg (· == 1) hget
    · obtain rfl := List.mem_singleton.1 hj
      exact getI_putI_sensT hs hm
    · have hget : (s.putI (sensT k) m).get (sensT j) = s.get (sensT j) :=
        get_put_ne (f := sensT k) s (hne hj fun h => hout (List.mem_singleton.2 h)) _
      exact congrArg (toSigned (sensT j).wd) hget

/-- Readings of different sensors, one after the other. -/
theorem readSensors_read {l : List Nat} : ∀ {s : State}, Canon s → l.Nodup → (∀ j ∈ l, j < 15) → (∀ j ∈ l, InRange (s.heat.conv.getD j [])) →
    Read l s (l.foldl (fun s k => readSensor k s) s) := by
  induction l with
  | nil => exact fun hs _ _ _ => ⟨hs, rfl, fun _ _ => rfl, fun j hj => absurd hj List.not_mem_nil, fun _ _ _ => rfl⟩
  | cons k l ih =>
    intro s hs hnd hlt hrange
    obtain ⟨hkl, hnd⟩ := List.nodup_cons.1 hnd
    have hone := readSensor_read hs (hlt k List.mem_cons_self) (hrange k List.mem_cons_self)
    rw [List.foldl_cons]
    generalize readSensor k s = t at hone ⊢
    have hrest := ih hone.canon hnd (fun j hj => hlt j (List.mem_cons_of_mem k hj)) fun j hj => by
      rw [hone.conv]
      exact hrange j (List.mem_cons_of_mem k hj)
    generalize l.foldl (fun s k => readSensor k s) t = u at hrest ⊢
    refine ⟨hrest.canon, hrest.conv.trans hone.conv, fun j hj => (hrest.excl j hj).trans (hone.excl j hj), fun j hj h4 => ?_, fun j hj hout => ?_⟩
    · obtain rfl | hj := List.mem_cons.1 hj
      · rw [hrest.other j (hlt j List.mem_cons_self) hkl, hone.value j (List.mem_singleton.2 rfl) h4]
      · rw [hrest.value j hj (by rwa [hone.conv]), hone.conv]
    · obtain ⟨hjk, hjl⟩ := not_or.1 (fun h => hout (List.mem_cons.2 h))
      rw [hrest.other j hj hjl, hone.other j hj fun h => hjk (List.mem_singleton.1 h)]

/-- The cross-check changes only its counts. -/
theorem crossChecks_regs (l : List Nat) (s : State) : (l.foldl (fun s k => crossCheck k s) s).regs = s.regs ∧
    (l.foldl (fun s k => crossCheck k s) s).heat.conv = s.heat.conv := by
  refine List.foldlRecOn (motive := fun t : State => t.regs = s.regs ∧ t.heat.conv = s.heat.conv) l _ ⟨rfl, rfl⟩ fun t ht k _ => ?_
  unfold crossCheck
  extract_lets ns d off near w
  split
  · exact ht
  · exact ht

/-- The sensors of a clock's die or dies, read and cross-checked. -/
def readings (fdie : Bool) (s : State) : State :=
  let ks := (List.range 15).filter fun k => decide (k < 9) == fdie
  ks.foldl (fun s k => crossCheck k s) (ks.foldl (fun s k => readSensor k s) s)

theorem readings_read (hs : Canon s) {fdie : Bool} (hrange : ∀ j < 15, (decide (j < 9) == fdie) = true → InRange (s.heat.conv.getD j [])) :
    Read ((List.range 15).filter fun k => decide (k < 9) == fdie) s (readings fdie s) := by
  unfold readings
  extract_lets ks
  have hmem {j : Nat} (hj : j ∈ ks) : j < 15 ∧ (decide (j < 9) == fdie) = true := by
    obtain ⟨h15, hd⟩ := List.mem_filter.1 hj
    exact ⟨List.mem_range.1 h15, hd⟩
  have hread := readSensors_read hs (List.nodup_range.filter _) (fun j hj => (hmem hj).1) fun j hj => hrange j (hmem hj).1 (hmem hj).2
  obtain ⟨hregs, hconv⟩ := crossChecks_regs ks (ks.foldl (fun s k => readSensor k s) s)
  generalize ks.foldl (fun s k => readSensor k s) s = t at hread hregs hconv ⊢
  generalize ks.foldl (fun s k => crossCheck k s) t = u at hregs hconv ⊢
  have hget (f : Fld) : u.get f = t.get f := get_of_regs hregs f
  refine ⟨by rw [Canon, hregs]; exact hread.canon, hconv.trans hread.conv, fun j hj => ?_, fun j hj h4 => ?_, fun j hj hout => ?_⟩
  · rw [← hread.excl j hj, State.flag, State.flag, hget]
  · rw [← hread.value j hj h4, State.getI, State.getI, hget]
  · rw [← hread.other j hj hout, State.getI, State.getI, hget]

/-- The evaluation of a die keeps its sensors, and UNKNOWN follows those that count. -/
theorem evalDie_settles (d : Nat) : Settled (evalUnknown d s) (evalDie d s) := by
  unfold evalDie
  extract_lets s1 ts
  change Settled s1 _
  clear_value ts s1
  cases ts with
  | nil => exact settled_evalLevel (.refl _)
  | cons t0 r =>
    dsimp -zeta only
    extract_lets mx mn s2
    refine settled_evalLevel ?_
    simp only [s2]
    split
    · exact settled_put (by decide) (settled_put (by decide) (.refl _))
    split
    · exact settled_put (by decide) (settled_put (by decide) (.refl _))
    · exact settled_put (by decide) (settled_put (by decide) (.refl _))

theorem settled_evalBand {x : Int} (h : Settled s t) : Settled s (evalBand x t) := settled_putBand h

/-- What a reading leaves, when the state `u` after the works of its dies keeps what the evaluation of die `d` left. -/
theorem reading_settles (hs : Canon s) {fdie : Bool} (hrange : ∀ j < 15, (decide (j < 9) == fdie) = true → InRange (s.heat.conv.getD j []))
    (hu : Settled (evalUnknown d (readings fdie s)) u) (hd : SettledField (unkFld d)) :
    (∀ j < 15, (decide (j < 9) == fdie) = true → 4 ≤ (s.heat.conv.getD j []).length → u.getI (sensT j) = conversionMean (s.heat.conv.getD j [])) ∧
      (∀ j < 15, s.flag (sensExcl j) = u.flag (sensExcl j)) ∧ u.get (unkFld d) = bit (decide (countedSensors u d < 3 - d)) ∧
      u.heat.conv = s.heat.conv := by
  have hread := readings_read hs hrange
  generalize readings fdie s = t at hread hu
  obtain ⟨hsame, hunk⟩ := evalUnknown_fields hread.canon d
  have hfield := hu.field (hsame.canon hread.canon) _ hd
  have hall := hsame.trans hu.sameSensors
  have hget {f : Fld} (hf : SensorField f) : u.get f = t.get f := hall.field hread.canon f hf
  refine ⟨fun j hj hside h4 => ?_, fun j hj => ?_, ?_, hall.conv.trans hread.conv⟩
  · rw [← hread.value j (List.mem_filter.2 ⟨List.mem_range.2 hj, hside⟩) h4, State.getI, State.getI, hget (sensorField_sensT hj)]
  · rw [← hread.excl j hj, State.flag, State.flag, hget (sensorField_sensExcl hj)]
  · rw [hfield, hunk, hall.counted hread.canon d]

end

/-- Settles O47: the evaluations after a reading or a change of an exclusion keep the registers of the sensors. -/
theorem temperatureSensors : Obligations.TemperatureSensors := by
  unfold Obligations.TemperatureSensors
  intro s hinv
  have hs := canon_of_inv hinv
  have hrange {n : Nat} (hconv : ((List.range n).all fun k => (s.heat.conv.getD k []).all fun x => decide (-440 ≤ x) && decide (x ≤ 1400)) = true)
      (hlen : ((List.range 15).all fun k => decide ((s.heat.conv.getD k []).length ≤ 4)) = true) (j : Nat) (hj : j < 15) (hn : j < n) :
      InRange (s.heat.conv.getD j []) := by
    have h4 := List.all_eq_true.1 hlen j (List.mem_range.2 hj)
    have hc := List.all_eq_true.1 hconv j (List.mem_range.2 hn)
    refine ⟨of_decide_eq_true h4, fun x hx => ?_⟩
    have hx := List.all_eq_true.1 hc x hx
    simpa using hx
  refine ⟨?_, ?_, ?_, ?_, ?_, ?_⟩
  · rintro k value _ hk hlen rfl
    refine doesWithin_run (fun t h => frame_execSensorConversion hk h) ?_
    rw [if_neg (by omega), if_neg (by decide)]
    refine ⟨?_, rfl, rfl⟩
    have hlen' : k < (s.heat.conv.modify k fun c => (value :: c).take 4).length := by rwa [List.length_modify]
    rw [List.getD_eq_getElem _ _ hlen]
    exact (List.getD_eq_getElem _ _ hlen').trans (List.getElem_modify_eq _ _ _ _)
  · rintro k value _ hk rfl hexcl
    refine doesWithin_run (fun t h => frame_execSensorConversion hk h) ?_
    rw [if_neg (by omega), if_pos rfl]
    obtain ⟨hex, hcnt, hconv, -⟩ := excludeSensor_settles (s := s.silent) hs hk hexcl rfl
    exact ⟨hex, hcnt, hconv⟩
  · rintro _ rfl hconv hlen -
    refine doesWithin_run (fun t h => (frame_execSensorReading h).mono (by decide) (by decide)) ?_
    rw [if_pos rfl]
    have hu : Settled (evalUnknown 0 (readings true s.silent)) (evalBand ((evalDie 0 (readings true s.silent)).getI FTHERM_DIE_TMAX) (evalDie 0 (readings true s.silent))) :=
      settled_evalBand (evalDie_settles 0)
    obtain ⟨hval, hexcl, hunk, hsame⟩ := reading_settles (s := s.silent) hs (fdie := true)
      (fun j hj hside => hrange hconv hlen j hj (by simpa using hside)) hu (.inr (.inl rfl))
    exact ⟨fun j hj => hval j (by omega) (by simpa using hj), fun j hj => hexcl j (by omega), hunk, hsame⟩
  · rintro _ rfl hconv hlen -
    refine doesWithin_run (fun t h => (frame_execSensorReading h).mono (by decide) (by decide)) ?_
    rw [if_neg (by decide)]
    have hu : Settled (evalUnknown 1 (readings false s.silent)) (evalFuseok (evalDie 2 (evalDie 1 (readings false s.silent)))) :=
      settled_evalFuseok ((settled_evalUnknown_dDie (evalDie_settles 1)).trans (evalDie_settles 2))
    obtain ⟨hval, -, hunk, hsame⟩ := reading_settles (s := s.silent) hs (fdie := false)
      (fun j hj _ => hrange hconv hlen j hj hj) hu (.inr (.inr rfl))
    exact ⟨fun j hj h15 => hval j h15 (by simpa using hj), hunk, hsame⟩
  · intro k hk hoff hexcl
    refine doesWithin_run (fun t h => frame_execSensorExclude hk h) ?_
    rw [if_pos (by rw [show s.silent.flag (sensExcl k) = false from hexcl]; simpa using hoff)]
    obtain ⟨hex, -, -, hoff', hnear⟩ := excludeSensor_settles (s := s.silent) hs hk hexcl rfl
    exact ⟨hex, hoff', hnear⟩
  · intro k hk hnear hexcl
    refine doesWithin_run (fun t h => frame_execSensorReadmit hk h) ?_
    rw [if_pos (by rw [show s.silent.flag (sensExcl k) = true from hexcl]; simpa using hnear)]
    exact readmitSensor_settles (s := s.silent) hs hk rfl

end Sys2Proof.Machine
end

section
/-! SUPPORT. The trackers of the cells: what a work on one cell leaves of the others, and what it makes of its own (R338 to R352). -/

namespace Sys2Proof.Machine

set_option Elab.async false

/-- The power tracking without its cells, the time and the image are those of `s`; there are as many cells. -/
structure SamePass (s t : State) : Prop where
  canon : Canon s → Canon t
  cells : t.mppt.cells.length = s.mppt.cells.length
  pass : { t.mppt with cells := [] } = { s.mppt with cells := [] }
  warp : t.warp = s.warp
  weave : t.weave = s.weave

/-- Besides, the tracker of cell `g` and its state are those of `s`. -/
structure CellKept (g : Nat) (s t : State) : Prop extends SamePass s t where
  trk : trk t g = trk s g
  state : trkState t g = trkState s g

/-- A work on cell `j`: it leaves every other cell as it is. -/
structure OnlyCell (j : Nat) (s t : State) : Prop extends SamePass s t where
  others : ∀ g < 192, g ≠ j → trk t g = trk s g ∧ trkState t g = trkState s g

section
variable {s t u : State} {g j n : Nat}

theorem SamePass.refl (s : State) : SamePass s s := ⟨id, rfl, rfl, rfl, rfl⟩

theorem SamePass.trans (h : SamePass s t) (h' : SamePass t u) : SamePass s u :=
  ⟨h'.canon ∘ h.canon, h'.cells.trans h.cells, h'.pass.trans h.pass, h'.warp.trans h.warp, h'.weave.trans h.weave⟩

theorem CellKept.refl (g : Nat) (s : State) : CellKept g s s := { SamePass.refl s with trk := rfl, state := rfl }

theorem CellKept.trans (h : CellKept g s t) (h' : CellKept g t u) : CellKept g s u :=
  { h.toSamePass.trans h'.toSamePass with trk := h'.trk.trans h.trk, state := h'.state.trans h.state }

theorem OnlyCell.refl (j : Nat) (s : State) : OnlyCell j s s := { SamePass.refl s with others := fun _ _ _ => ⟨rfl, rfl⟩ }

theorem OnlyCell.trans (h : OnlyCell j s t) (h' : OnlyCell j t u) : OnlyCell j s u :=
  { h.toSamePass.trans h'.toSamePass with
    others := fun g hg hne =>
      have ⟨htrk, hstate⟩ := h.others g hg hne
      have ⟨htrk', hstate'⟩ := h'.others g hg hne
      ⟨htrk'.trans htrk, hstate'.trans hstate⟩ }

theorem OnlyCell.kept (h : OnlyCell j s t) (hg : g < 192) (hne : g ≠ j) : CellKept g s t :=
  have ⟨htrk, hstate⟩ := h.others g hg hne
  { h.toSamePass with trk := htrk, state := hstate }

theorem SamePass.absPick (h : SamePass s t) : absPick t = absPick s := by
  unfold Machine.absPick cycleOf pickOf
  rw [h.warp]

theorem CellKept.rests (h : CellKept g s t) : rests t g = rests s g := by
  unfold Machine.rests
  rw [h.trk, h.absPick]

/-! ### Changes of one tracker -/

theorem trk_modTrk (hg : g < s.mppt.cells.length) (f : Trk → Trk) : trk (modTrk g f s) g = f (trk s g) := by
  have hg' : g < (s.mppt.cells.modify g f).length := by rwa [List.length_modify]
  rw [trk, trk, List.getD_eq_getElem _ _ hg]
  exact (List.getD_eq_getElem _ _ hg').trans (List.getElem_modify_eq _ _ _ _)

theorem trk_modTrk_ne (hne : g ≠ j) (f : Trk → Trk) : trk (modTrk j f s) g = trk s g := by
  rw [trk, trk, List.getD_eq_getElem?_getD, List.getD_eq_getElem?_getD]
  refine congrArg (fun o : Option Trk => o.getD Trk.reset) ?_
  exact List.getElem?_modify_ne f _ hne.symm

/-- A change of a tracker, at any place, leaves a tracker as it is or changes it. -/
theorem trk_modTrk_or (f : Trk → Trk) : trk (modTrk j f s) g = trk s g ∨ trk (modTrk j f s) g = f (trk s g) := by
  by_cases hne : g = j
  · subst hne
    by_cases hlen : g < s.mppt.cells.length
    · exact .inr (trk_modTrk hlen f)
    · have hout : s.mppt.cells.modify g f = s.mppt.cells := List.modify_eq_self (Nat.le_of_not_lt hlen)
      exact .inl (by simp only [trk, modTrk, hout])
  · exact .inl (trk_modTrk_ne hne f)

theorem trkState_modTrk (f : Trk → Trk) : trkState (modTrk j f s) g = trkState s g := (rfl)

theorem onlyCell_modTrk (f : Trk → Trk) (h : OnlyCell j s t) : OnlyCell j s (modTrk j f t) :=
  h.trans
    { canon := id
      cells := List.length_modify _ _ _
      pass := rfl
      warp := rfl
      weave := rfl
      others := fun _ _ hne => ⟨trk_modTrk_ne hne f, trkState_modTrk f⟩ }

/-- A field that is no tracker's state but that of `j`. -/
def CellField (j : Nat) (f : Fld) : Prop := f.addr < 0x76400 ∨ f.addr = 0x76400 + 8 * j ∨ f.addr % 8 = 4

theorem onlyCell_put {f : Fld} (hf : CellField j f) {v : Nat} (h : OnlyCell j s t) : OnlyCell j s (t.put f v) :=
  h.trans
    { canon := canon_stored
      cells := rfl
      pass := rfl
      warp := rfl
      weave := rfl
      others := fun g _ hne => ⟨rfl, get_put_ne (f := f) t (by unfold CellField at hf; dsimp only; omega) v⟩ }

theorem not_loud_state (hg : g < 192) : ¬ Loud (MPPT_CW0_STATE g).addr := by
  rw [loud_iff]
  dsimp only
  omega

theorem samePass_mpptEvent {b c v : Nat} : SamePass s (mpptEvent b c v s) := by
  unfold mpptEvent
  exact ⟨fun hs => by simp [hs], by simp, by simp, by simp, by simp⟩

theorem cellKept_mpptEvent (hg : g < 192) {b c v : Nat} : CellKept g s (mpptEvent b c v s) := by
  refine { samePass_mpptEvent with trk := ?_, state := ?_ }
  · unfold mpptEvent trk
    rw [raiseF_mppt, setEvt_mppt]
  · unfold mpptEvent trkState
    rw [get_raiseF (not_loud_state hg), get_setEvt (not_loud_state hg)]

theorem onlyCell_mpptEvent {b c v : Nat} (h : OnlyCell j s t) : OnlyCell j s (mpptEvent b c v t) :=
  h.trans { samePass_mpptEvent with others := fun _ hg _ =>
    have hkept := cellKept_mpptEvent hg
    ⟨hkept.trk, hkept.state⟩ }

theorem onlyCell_ite {p : Prop} [Decidable p] (ht : OnlyCell j s t) (hu : OnlyCell j s u) : OnlyCell j s (if p then t else u) := by
  split
  · exact ht
  · exact hu

theorem trk_mpptEvent {b c v : Nat} : trk (mpptEvent b c v s) g = trk s g := by
  unfold mpptEvent trk
  rw [raiseF_mppt, setEvt_mppt]

/-- A tracker that enters a state keeps all but the pick in which it last acted. -/
theorem trk_setTrk : ∃ x, trk (setTrk j n s) g = { trk s g with acted := x } := by
  unfold setTrk
  extract_lets a old s0 s1 b
  have h1 : ∃ x, trk s1 g = { trk s g with acted := x } := by
    change ∃ x, trk s0 g = _
    simp only [s0]
    split
    · exact ⟨_, rfl⟩
    · obtain hkept | hnew := trk_modTrk_or (s := s) (j := j) (g := g) fun t => { t with acted := some (absPick s) }
      exacts [⟨_, hkept⟩, ⟨_, hnew⟩]
  clear_value s1
  split
  · exact h1
  · rwa [trk_mpptEvent]

theorem onlyCell_setTrk (h : OnlyCell j s t) : OnlyCell j s (setTrk j n t) := by
  unfold setTrk
  extract_lets a old s0 s1 b
  have h0 : OnlyCell j s s0 := onlyCell_ite h (onlyCell_modTrk _ h)
  have h1 : OnlyCell j s s1 := onlyCell_put (.inr (.inl rfl)) h0
  clear_value s1
  exact onlyCell_ite h1 (onlyCell_mpptEvent h1)

/-- What a tracker that enters a state becomes: the state, and the pick in which it did. -/
theorem setTrk_own (hs : Canon s) (hj : j < 192) (hn : n < 8) : trkState (setTrk j n s) j = n ∧
    (j < s.mppt.cells.length → trk (setTrk j n s) j = if trkState s j = n then trk s j else { trk s j with acted := some (absPick s) }) := by
  unfold setTrk
  extract_lets a old s0 s1 b
  have h1 : trkState s1 j = n ∧
      (j < s.mppt.cells.length → trk s1 j = if trkState s j = n then trk s j else { trk s j with acted := some (absPick s) }) := by
    have h0 : Canon s0 := by
      simp only [s0]
      split <;> exact hs
    refine ⟨(get_put_self (f := MPPT_CW0_STATE j) h0 (by dsimp only; decide) n).trans (Nat.mod_eq_of_lt hn), fun hlen => ?_⟩
    change trk s0 j = _
    simp only [s0, old]
    split
    · rfl
    · exact trk_modTrk hlen _
  obtain ⟨hstate, htrk⟩ := h1
  clear_value s1
  split
  · exact ⟨hstate, htrk⟩
  · have hkept := cellKept_mpptEvent hj (s := s1) (b := 3) (c := 4) (v := bit (a = 0))
    exact ⟨hkept.state.trans hstate, fun hlen => hkept.trk.trans (htrk hlen)⟩

theorem onlyCell_setPest {p : Rat} (h : OnlyCell j s t) : OnlyCell j s (setPest j p t) := by
  refine onlyCell_put (.inr (.inr ?_)) (onlyCell_modTrk _ h)
  dsimp only
  omega

theorem onlyCell_undoUpdate (h : OnlyCell j s t) : OnlyCell j s (undoUpdate j t) := by
  unfold undoUpdate
  split
  · exact h
  · split
    · exact h
    · exact onlyCell_setPest (onlyCell_put (.inr (.inl rfl)) (onlyCell_modTrk _ h))

/-! ### Work on several cells, one after the other -/

theorem samePass_foldl {op : State → Nat → State} (hop : ∀ t j, SamePass t (op t j)) (l : List Nat) (s : State) : SamePass s (l.foldl op s) :=
  List.foldlRecOn (motive := fun t => SamePass s t) l op (.refl s) fun t ht j _ => ht.trans (hop t j)

theorem cellKept_foldl {op : State → Nat → State} (hop : ∀ t j, OnlyCell j t (op t j)) (hg : g < 192) {l : List Nat} (hl : g ∉ l) (s : State) :
    CellKept g s (l.foldl op s) :=
  List.foldlRecOn (motive := fun t => CellKept g s t) l op (.refl g s) fun t ht j hj => ht.trans ((hop t j).kept hg fun h => hl (h ▸ hj))

/-- The work on a cell of a list finds the cell as it was, and what it makes of it stays. -/
theorem cell_of_foldl {op : State → Nat → State} (hop : ∀ t j, OnlyCell j t (op t j)) (hg : g < 192) {l : List Nat} (hnd : l.Nodup) (hl : g ∈ l) (s : State) :
    ∃ u, CellKept g s u ∧ CellKept g (op u g) (l.foldl op s) := by
  obtain ⟨a, b, rfl⟩ := List.append_of_mem hl
  obtain ⟨-, hb, hdis⟩ := List.nodup_append.1 hnd
  have ha : g ∉ a := fun h => hdis g h g List.mem_cons_self rfl
  refine ⟨a.foldl op s, cellKept_foldl hop hg ha s, ?_⟩
  rw [List.foldl_append, List.foldl_cons]
  exact cellKept_foldl hop hg (List.nodup_cons.1 hb).1 _

end

end Sys2Proof.Machine
end

section
/-! PROOFS. Update slots, the 16-pick check, the release of curtailment, and bank scans (R340 to R352). -/

namespace Sys2Proof.Machine

set_option Elab.async false

section
variable {s t u : State} {g j n : Nat}

/-! ### An update slot (R341 to R345) -/

theorem onlyCell_startTrack {vo : Rat} (h : OnlyCell j s t) : OnlyCell j s (startTrack j vo t) := onlyCell_setTrk (onlyCell_modTrk _ h)

theorem onlyCell_updateTrack {m : UpdateMeans} {x : Trk} (h : OnlyCell j s t) : OnlyCell j s (updateTrack j m x t) := by
  unfold updateTrack
  extract_lets p low s1
  have h1 : OnlyCell j s s1 := onlyCell_modTrk _ h
  clear_value s1
  split
  · exact onlyCell_setTrk (onlyCell_setPest (onlyCell_modTrk _ h1))
  · split
    · exact h1
    · exact onlyCell_setPest (onlyCell_modTrk _ h1)

theorem onlyCell_updateCell (t : State) (j : Nat) : OnlyCell j t (updateCell j t) := by
  unfold updateCell
  extract_lets x st m s0 s1 s2 vo
  have h : OnlyCell j t t := .refl j t
  have h0 : OnlyCell j t s0 := onlyCell_ite (onlyCell_modTrk _ h) h
  have h1 : OnlyCell j t s1 := onlyCell_modTrk _ h0
  have h2 : OnlyCell j t s2 := onlyCell_setPest h1
  have hskip : OnlyCell j t (s0.count MPPT_STAT_SKIPAGE) := onlyCell_put (.inl (by decide)) h0
  exact onlyCell_ite h (onlyCell_ite h0 (onlyCell_ite hskip (onlyCell_ite (onlyCell_updateTrack h1)
    (onlyCell_ite h2 (onlyCell_ite (onlyCell_startTrack h2) (onlyCell_ite h2 (onlyCell_setTrk h2)))))))

/-- A full update period of cell `g` has been spent in START. -/
def FullAt (g : Nat) (t : State) : Prop := (trk t g).full = true ∧ g < t.mppt.cells.length

theorem fullAt_modTrk {f : Trk → Trk} (hf : ∀ x, (f x).full = x.full) (h : FullAt g t) : FullAt g (modTrk g f t) := by
  obtain ⟨hfull, hlen⟩ := h
  refine ⟨?_, by rwa [(onlyCell_modTrk (j := g) f (.refl g t)).cells]⟩
  rw [trk_modTrk hlen, hf, hfull]

theorem fullAt_setTrk (h : FullAt g t) : FullAt g (setTrk g n t) := by
  obtain ⟨hfull, hlen⟩ := h
  obtain ⟨x, heq⟩ := trk_setTrk (s := t) (j := g) (n := n) (g := g)
  exact ⟨by rw [heq, hfull], by rwa [(onlyCell_setTrk (j := g) (.refl g t)).cells]⟩

theorem fullAt_count {f : Fld} (h : FullAt g t) : FullAt g (t.count f) := h

theorem fullAt_setPest {p : Rat} (h : FullAt g t) : FullAt g (setPest g p t) := fullAt_modTrk (fun _ => rfl) h

theorem fullAt_startTrack {vo : Rat} (h : FullAt g t) : FullAt g (startTrack g vo t) := by
  unfold startTrack
  extract_lets v
  exact fullAt_setTrk (fullAt_modTrk (fun _ => rfl) h)

theorem fullAt_ite {p : Prop} [Decidable p] (ht : p → FullAt g t) (hu : ¬p → FullAt g u) : FullAt g (if p then t else u) := by
  split
  · exact ht ‹_›
  · exact hu ‹_›

/-- A cell in START at its slot has spent a full period there. -/
theorem updateCell_full (hlen : g < u.mppt.cells.length) (hst : trkState u g = 1) (hrest : rests u g = false) : FullAt g (updateCell g u) := by
  unfold updateCell
  extract_lets x st m s0 s1 s2 vo
  have hst : st = 1 := hst
  have h0 : FullAt g s0 := by
    have hs0 : s0 = modTrk g (fun x => { x with full := true }) u := if_pos hst
    rw [hs0]
    exact ⟨by rw [trk_modTrk hlen], by rwa [(onlyCell_modTrk (j := g) _ (.refl g u)).cells]⟩
  clear_value st s0
  subst hst
  have h1 : FullAt g s1 := fullAt_modTrk (fun _ => rfl) h0
  have h2 : FullAt g s2 := fullAt_setPest h1
  clear_value s2 s1
  rw [if_neg (by simp [hrest])]
  refine fullAt_ite (fun _ => h0) fun _ => fullAt_ite (fun _ => fullAt_count h0) fun _ => ?_
  refine fullAt_ite (fun h => absurd h (by decide)) fun _ => fullAt_ite (fun _ => h2) fun _ => ?_
  exact fullAt_ite (fun _ => fullAt_startTrack h2) fun _ => fullAt_ite (fun h => absurd h (by decide)) fun _ => fullAt_setTrk h2

theorem nodup_bankPv (s : State) (b : Nat) : (bankPv s b).Nodup := by
  refine List.nodup_range.filterMap fun i k g hi hk => ?_
  simp only [Option.mem_def, Option.ite_none_right_eq_some, Option.some.injEq] at hi hk
  omega

/-! ### The 16-pick check (R346, R351) -/

theorem onlyCell_curtailUp {p : Rat} (h : OnlyCell j s t) : OnlyCell j s (curtailUp j p t) := onlyCell_modTrk _ h

theorem onlyCell_enterCurtail (h : OnlyCell j s t) : OnlyCell j s (enterCurtail j t) := onlyCell_setTrk (onlyCell_modTrk _ h)

theorem onlyCell_checkCurtail {p : Rat} (h : OnlyCell j s t) : OnlyCell j s (checkCurtail j p t) := by
  unfold checkCurtail
  extract_lets x rel s1
  have h1 : OnlyCell j s s1 := onlyCell_modTrk _ h
  clear_value s1
  exact onlyCell_ite h1 (onlyCell_ite (onlyCell_curtailUp h1) (onlyCell_ite (onlyCell_modTrk _ h1) h1))

/-- The check of a cell, before its means begin again. -/
theorem checkCell_eq (j : Nat) (t : State) : ∃ u, OnlyCell j t u ∧ checkCell j t = modTrk j (fun x => { x with p16 := 0, n16 := 0 }) u := by
  unfold checkCell
  extract_lets x p u track s1
  refine ⟨s1, ?_, rfl⟩
  have h : OnlyCell j t t := .refl j t
  have hu : OnlyCell j t u := onlyCell_undoUpdate h
  simp only [s1]
  clear_value u track
  split
  · exact onlyCell_ite (onlyCell_curtailUp (onlyCell_enterCurtail hu)) h
  split
  · exact h
  split
  · exact onlyCell_checkCurtail h
  split
  · split
    · exact onlyCell_mpptEvent (onlyCell_put (.inl (by decide)) (onlyCell_enterCurtail (onlyCell_modTrk _ h)))
    · exact h
  · exact h

theorem onlyCell_checkCell (t : State) (j : Nat) : OnlyCell j t (checkCell j t) := by
  obtain ⟨u, hu, heq⟩ := checkCell_eq j t
  rw [heq]
  exact onlyCell_modTrk _ hu

theorem checkCell_p16 (hlen : g < s.mppt.cells.length) : (trk (checkCell g s) g).p16 = 0 ∧ (trk (checkCell g s) g).n16 = 0 := by
  obtain ⟨u, hu, heq⟩ := checkCell_eq g s
  rw [heq, trk_modTrk (hu.cells.symm ▸ hlen)]
  exact ⟨rfl, rfl⟩

/-- Means of the last 16 picks that are still empty. -/
def MeansEmpty (g : Nat) (t : State) : Prop := (trk t g).p16 = 0 ∧ (trk t g).n16 = 0

theorem meansEmpty_modTrk {f : Trk → Trk} (hf : ∀ x, (f x).p16 = x.p16 ∧ (f x).n16 = x.n16) (h : MeansEmpty g t) : MeansEmpty g (modTrk j f t) := by
  obtain ⟨hp, hn⟩ := h
  obtain ⟨hfp, hfn⟩ := hf (trk t g)
  obtain heq | heq := trk_modTrk_or (s := t) (j := j) (g := g) f
  · exact ⟨by rw [heq, hp], by rw [heq, hn]⟩
  · exact ⟨by rw [heq, hfp, hp], by rw [heq, hfn, hn]⟩

theorem meansEmpty_setTrk (h : MeansEmpty g t) : MeansEmpty g (setTrk j n t) := by
  obtain ⟨hp, hn⟩ := h
  obtain ⟨x, heq⟩ := trk_setTrk (s := t) (j := j) (n := n) (g := g)
  exact ⟨by rw [heq, hp], by rw [heq, hn]⟩

theorem meansEmpty_leaveSweep (h : MeansEmpty g t) : MeansEmpty g (leaveSweep j n t) := by
  unfold leaveSweep
  split
  · exact h
  · extract_lets s1
    have h1 : MeansEmpty g s1 := meansEmpty_modTrk (fun _ => ⟨rfl, rfl⟩) h
    clear_value s1
    split
    · exact meansEmpty_modTrk (fun _ => ⟨rfl, rfl⟩) h1
    · exact meansEmpty_setTrk h1

theorem meansEmpty_reserveCheck (h : MeansEmpty g t) : MeansEmpty g (reserveCheck t) := by
  have habort : MeansEmpty g (abortScan 3 t) := by
    unfold abortScan
    split
    · exact h
    · extract_lets s1 s2
      have h1 : MeansEmpty g s1 := List.foldlRecOn (motive := fun t => MeansEmpty g t) _ _ h fun _ h _ _ => meansEmpty_leaveSweep h
      have h2 : MeansEmpty g s2 := h1
      clear_value s2
      unfold MeansEmpty
      rw [trk_mpptEvent]
      exact h2
  unfold reserveCheck
  split
  · exact h
  split
  · split
    · exact habort
    · exact h
  · exact h

/-- There are as many trackers, and the image, which says what each cell is, is that of `s`. -/
def SameMap (s t : State) : Prop := t.weave = s.weave ∧ t.mppt.cells.length = s.mppt.cells.length

theorem SameMap.trans (h : SameMap s t) (h' : SameMap t u) : SameMap s u := ⟨h'.1.trans h.1, h'.2.trans h.2⟩

theorem SamePass.sameMap (h : SamePass s t) : SameMap s t := ⟨h.weave, h.cells⟩

theorem SameMap.pvCells (h : SameMap s t) : pvCells t = pvCells s := by
  unfold Machine.pvCells cellMap convMap
  rw [h.1]

theorem sameMap_modTrk {f : Trk → Trk} (h : SameMap s t) : SameMap s (modTrk j f t) := h.trans ⟨rfl, List.length_modify _ _ _⟩

theorem sameMap_put {f : Fld} {v : Nat} (h : SameMap s t) : SameMap s (t.put f v) := h.trans ⟨rfl, rfl⟩

theorem sameMap_storEvent {b c v : Nat} (h : SameMap s t) : SameMap s (storEvent b c v t) :=
  h.trans ⟨by simp [storEvent], by simp [storEvent]⟩

theorem sameMap_ite {p : Prop} [Decidable p] (ht : SameMap s t) (hu : SameMap s u) : SameMap s (if p then t else u) := by
  split
  · exact ht
  · exact hu

theorem sameMap_foldl {α : Type} {op : State → α → State} {l : List α} (h : SameMap s t) (hop : ∀ u a, SameMap s u → SameMap s (op u a)) :
    SameMap s (l.foldl op t) :=
  List.foldlRecOn (motive := fun u => SameMap s u) l op h fun u hu a _ => hop u a hu

theorem sameMap_permitStep (h : SameMap s t) : SameMap s (permitStep j t) := by
  unfold permitStep
  extract_lets x tb soc why gain lose gainD s1
  have h1 : SameMap s s1 := sameMap_modTrk h
  clear_value s1
  exact sameMap_ite h (sameMap_ite (sameMap_storEvent (sameMap_put h1)) h1)

theorem sameMap_splitExport (h : SameMap s t) : SameMap s (splitExport t) := h.trans ⟨rfl, rfl⟩

theorem sameMap_splitStorage {total : Rat} (h : SameMap s t) : SameMap s (splitStorage total t) := by
  unfold splitStorage
  extract_lets cs own s1 stale rest group mean dis bound k entry l s2 s3 short s4
  have h1 : SameMap s s1 := sameMap_foldl h fun _ _ h => sameMap_modTrk h
  have h2 : SameMap s s2 := sameMap_foldl h1 fun _ _ h => sameMap_modTrk h
  have h3 : SameMap s s3 := sameMap_foldl h2 fun _ _ h => sameMap_ite h (sameMap_modTrk h)
  have h4 : SameMap s s4 := sameMap_put h3
  clear_value s4
  have hcycle : SameMap s (modMppt (fun m => { m with shortCycle := some (cycleOf s4) }) s4) := h4
  exact sameMap_ite h4 (sameMap_storEvent hcycle)

theorem sameMap_storageStatus (h : SameMap s t) : SameMap s (storageStatus t) := by
  unfold storageStatus
  extract_lets cs el s1 s2 s3
  have h1 : SameMap s s1 := sameMap_foldl h fun _ _ h => sameMap_put (sameMap_put (sameMap_put (sameMap_put h)))
  clear_value s1
  exact sameMap_put (sameMap_put (sameMap_put (sameMap_put (sameMap_put (sameMap_put h1)))))

theorem nodup_pvCells (s : State) : (pvCells s).Nodup := List.nodup_range.filter _

theorem sixteenCheck_meansEmpty (hg : g ∈ pvCells s) (hlen : g < s.mppt.cells.length) : MeansEmpty g (sixteenCheck s) := by
  unfold sixteenCheck
  extract_lets s1 s2 s3 s4 s5
  have h1 : SameMap s s1 := sameMap_foldl ⟨rfl, rfl⟩ fun _ _ h => sameMap_permitStep h
  have h2 : SameMap s s2 := sameMap_splitExport h1
  have h3 : SameMap s s3 := sameMap_storageStatus (sameMap_splitStorage h2)
  have h4 : SameMap s s4 := sameMap_foldl h3 fun _ _ h => sameMap_put (sameMap_modTrk h)
  clear_value s4
  have hg4 : g ∈ pvCells s4 := h4.pvCells.symm ▸ hg
  have hg192 : g < 192 := List.mem_range.1 (List.mem_filter.1 hg).1
  obtain ⟨u, hu, hkept⟩ := cell_of_foldl onlyCell_checkCell hg192 (nodup_pvCells s4) hg4 s4
  have hkept : CellKept g (checkCell g u) s5 := hkept
  have h5 : MeansEmpty g s5 := by
    unfold MeansEmpty
    rw [hkept.trk]
    exact checkCell_p16 (by rwa [hu.cells, h4.2])
  exact meansEmpty_reserveCheck h5

/-! ### Bank scans (R348 to R352) -/

theorem onlyCell_leaveSweep (n : Nat) (t : State) (j : Nat) : OnlyCell j t (leaveSweep j n t) := by
  unfold leaveSweep
  have h : OnlyCell j t t := .refl j t
  split
  · exact h
  · exact onlyCell_ite (onlyCell_modTrk _ (onlyCell_modTrk _ h)) (onlyCell_setTrk (onlyCell_modTrk _ h))

theorem onlyCell_finishCell (t : State) (j : Nat) : OnlyCell j t (finishCell j t) := by
  unfold finishCell
  have h : OnlyCell j t t := .refl j t
  split
  · exact h
  · extract_lets moved s1 s2
    have h2 : OnlyCell j t s2 := onlyCell_put (.inl (by decide)) (onlyCell_setTrk (onlyCell_modTrk _ h))
    clear_value s2
    exact onlyCell_ite (onlyCell_put (.inl (by decide)) h2) h2

theorem nodup_sweeping (s : State) : (sweeping s).Nodup := List.nodup_range.filter _

theorem mem_sweeping : g ∈ sweeping s ↔ g < 192 ∧ (trk s g).scan.isSome = true := by
  unfold sweeping
  rw [List.mem_filter, List.mem_range]

theorem scan_leaveSweep (hlen : g < t.mppt.cells.length) : (trk (leaveSweep g n t) g).scan = none := by
  unfold leaveSweep
  split
  · assumption
  · extract_lets s1
    have h1 : (trk s1 g).scan = none := by rw [trk_modTrk hlen]
    have hlen1 : g < s1.mppt.cells.length := by rwa [(onlyCell_modTrk (j := g) _ (.refl g t)).cells]
    clear_value s1
    split
    · rw [trk_modTrk hlen1, h1]
    · obtain ⟨x, heq⟩ := trk_setTrk (s := s1) (j := g) (n := n) (g := g)
      rw [heq, h1]

theorem get_setTrk {f : Fld} (hf : f.addr < 0x76400) (hloud : ¬ Loud f.addr) : (setTrk j n t).get f = t.get f := by
  unfold setTrk
  extract_lets a old s0 s1 b
  have h1 : s1.get f = t.get f := by
    refine (get_put_ne (f := MPPT_CW0_STATE j) s0 (by dsimp only; omega) n).trans ?_
    simp only [s0]
    split <;> rfl
  clear_value s1
  split
  · exact h1
  · unfold mpptEvent
    rw [get_raiseF hloud, get_setEvt hloud, h1]

theorem get_leaveSweep {f : Fld} (hf : f.addr < 0x76400) (hloud : ¬ Loud f.addr) : (leaveSweep j n t).get f = t.get f := by
  unfold leaveSweep
  split
  · rfl
  · extract_lets s1
    split
    · rfl
    · exact get_setTrk hf hloud

/-- A running bank scan is aborted: every cell has left it, and it is counted. -/
theorem abortScan_ends (hs : Canon s) (hrun : s.mppt.phase.isSome = true) : (abortScan n s).mppt.phase = none ∧
    (abortScan n s).get MPPT_SCANABORT_COUNT = min (s.get MPPT_SCANABORT_COUNT + 1) (2 ^ MPPT_SCANABORT_COUNT.wd - 1) ∧
    ∀ g < 192, g < s.mppt.cells.length → (trk (abortScan n s) g).scan = none := by
  have hnone : ¬ s.mppt.phase.isNone = true := by simpa [Option.isNone_iff_eq_none, ← Option.isSome_iff_ne_none] using hrun
  unfold abortScan
  rw [if_neg hnone]
  extract_lets s1 s2
  have hcanon : Canon s1 := (samePass_foldl (fun t j => (onlyCell_leaveSweep 2 t j).toSamePass) _ s).canon hs
  have hcount : s1.get MPPT_SCANABORT_COUNT = s.get MPPT_SCANABORT_COUNT :=
    List.foldlRecOn (motive := fun t : State => t.get MPPT_SCANABORT_COUNT = s.get MPPT_SCANABORT_COUNT) (sweeping s) (fun t j => leaveSweep j 2 t) rfl
      fun t ht j _ => (get_leaveSweep (by decide) (by simp)).trans ht
  have hscan (g : Nat) (hg : g < 192) (hlen : g < s.mppt.cells.length) : (trk s1 g).scan = none := by
    by_cases hmem : g ∈ sweeping s
    · obtain ⟨u, hu, hkept⟩ := cell_of_foldl (onlyCell_leaveSweep 2) hg (nodup_sweeping s) hmem s
      rw [show trk s1 g = trk (leaveSweep g 2 u) g from hkept.trk]
      exact scan_leaveSweep (by rwa [hu.cells])
    · rw [show trk s1 g = trk s g from (cellKept_foldl (onlyCell_leaveSweep 2) hg hmem s).trk]
      rw [mem_sweeping] at hmem
      simpa [hg] using hmem
  have hcanon2 : Canon s2 := hcanon
  have hphase2 : s2.mppt.phase = none := rfl
  have hcount2 : s2.get MPPT_SCANABORT_COUNT = s.get MPPT_SCANABORT_COUNT := hcount
  have hscan2 (g : Nat) (hg : g < 192) (hlen : g < s.mppt.cells.length) : (trk s2 g).scan = none := hscan g hg hlen
  clear_value s2
  refine ⟨?_, ?_, fun g hg hlen => ?_⟩
  · simp [mpptEvent, hphase2]
  · unfold mpptEvent
    rw [get_raiseF (by simp), get_setEvt (by simp), get_count_self hcanon2 (by decide), hcount2]
  · rw [trk_mpptEvent]
    exact hscan2 g hg hlen

/-- The block with another queue of banks, as a start takes it up. -/
def queued (q : List Nat) (s : State) : State := modMppt (fun m => { m with queue := q }) s.silent

theorem modTrk_queued {q : List Nat} {f : Trk → Trk} : modTrk g f (queued q s) = queued q (modTrk g f s) := rfl

theorem put_queued {q : List Nat} {f : Fld} {v : Nat} : (queued q s).put f v = queued q (s.put f v) := rfl

theorem setPest_queued {q : List Nat} {p : Rat} : setPest g p (queued q s) = queued q (setPest g p s) := by
  unfold setPest
  rw [modTrk_queued, put_queued]

theorem undoUpdate_queued {q : List Nat} : undoUpdate g (queued q s) = queued q (undoUpdate g s) := by
  unfold undoUpdate
  rw [show (trk (queued q s) g).undo = (trk s g).undo from rfl, show absPick (queued q s) = absPick s from rfl]
  cases (trk s g).undo with
  | none => rfl
  | some u =>
    dsimp only
    rw [modTrk_queued, put_queued, setPest_queued]
    split
    · rfl
    · rfl

theorem admits_queued {q : List Nat} : admits (queued q s) g = admits s g := by
  unfold admits
  rw [undoUpdate_queued]
  rfl

/-- A cell enters the sweep of its bank (R348). -/
def enterSweep (t : State) (j : Nat) : State :=
  setTrk j 4 (modTrk j (fun x => { x with scan := some ⟨x.vref.getD (vStrMax t), x.pmean, 0, 0, 0, 0⟩ }) (undoUpdate j t))

theorem onlyCell_enterSweep (t : State) (j : Nat) : OnlyCell j t (enterSweep t j) :=
  onlyCell_setTrk (onlyCell_modTrk _ (onlyCell_undoUpdate (.refl j t)))

theorem trkState_enterSweep (ht : Canon t) (hj : j < 192) : trkState (enterSweep t j) j = 4 :=
  (setTrk_own (onlyCell_modTrk _ (onlyCell_undoUpdate (.refl j t)) |>.canon ht) hj (by decide)).1

/-- The scan of a bank starts with the cells that may take part. -/
theorem tryBank_starts {b : Nat} (hs : Canon s) (hb : b < 24) (hhide : s.flag MPPT_CTL_HIDE = false) (hany : (bankPv s b).any (admits s) = true) :
    (tryBank b s).mppt.phase = some 0 ∧ (tryBank b s).get MPPT_SCANSTAT_BANK = b ∧ (tryBank b s).mppt.queue = s.mppt.queue ∧
      ∀ g, g ∈ bankPv s b → admits s g = true → trkState (tryBank b s) g = 4 := by
  unfold tryBank
  extract_lets cs ad need s1 s2
  have hempty : ¬ ad.isEmpty = true := by
    rw [List.isEmpty_iff, List.filter_eq_nil_iff]
    intro hall
    obtain ⟨g, hg, had⟩ := List.any_eq_true.1 hany
    exact hall g hg had
  rw [if_neg hempty, hhide, Bool.false_and, if_neg (by decide)]
  have hpass : SamePass s s1 := samePass_foldl (fun t j => (onlyCell_enterSweep t j).toSamePass) ad s
  have hstate (g : Nat) (hg : g ∈ bankPv s b) (had : admits s g = true) : trkState s1 g = 4 := by
    have hg192 := lt_of_mem_bankPv hb hg
    obtain ⟨u, hu, hkept⟩ := cell_of_foldl onlyCell_enterSweep hg192 ((nodup_bankPv s b).filter (admits s)) (List.mem_filter.2 ⟨hg, had⟩) s
    exact (show trkState s1 g = trkState (enterSweep u g) g from hkept.state).trans (trkState_enterSweep (hu.canon hs) hg192)
  clear_value s1
  have hcanon2 : Canon s2 := canon_stored (hpass.canon hs)
  have hqueue : s2.mppt.queue = s.mppt.queue := (congrArg (fun m : MpptSt => m.queue) hpass.pass :)
  have hstate2 (g : Nat) (hg : g ∈ bankPv s b) (had : admits s g = true) : trkState s2 g = 4 :=
    (onlyCell_put (j := 200) (.inl (by decide)) (.refl 200 s1)).others g (lt_of_mem_bankPv hb hg) (by have := lt_of_mem_bankPv hb hg; omega) |>.2.trans (hstate g hg had)
  clear_value s2
  refine ⟨rfl, ?_, hqueue, fun g hg had => ?_⟩
  · exact (get_put_self (f := MPPT_SCANSTAT_BANK) (s := modMppt _ s2) hcanon2 (by decide) b).trans (Nat.mod_eq_of_lt (by simp; omega))
  · exact (get_put_ne (f := MPPT_SCANSTAT_BANK) (modMppt _ s2) (by dsimp only; omega) b).trans (hstate2 g hg had)

/-- A cell leaves the sweep at its end (R352). -/
theorem finishCell_ends (ht : Canon t) (hg : g < 192) (hlen : g < t.mppt.cells.length) (hscan : (trk t g).scan.isSome = true) :
    (trk (finishCell g t) g).scan = none ∧ trkState (finishCell g t) g = 2 := by
  unfold finishCell
  split
  · simp_all
  · extract_lets moved s1 s2
    have h1 : (trk s1 g).scan = none := by rw [trk_modTrk hlen]
    have hcanon1 : Canon s1 := ht
    clear_value s1
    have h2 : (trk s2 g).scan = none ∧ trkState s2 g = 2 := by
      obtain ⟨x, heq⟩ := trk_setTrk (s := s1) (j := g) (n := 2) (g := g)
      refine ⟨?_, ?_⟩
      · change (trk (setTrk g 2 s1) g).scan = none
        rw [heq, h1]
      · exact (get_put_ne (f := MPPT_SCANCNT_COUNT) (setTrk g 2 s1) (by dsimp only; omega) _).trans (setTrk_own hcanon1 hg (by decide)).1
    clear_value s2
    obtain ⟨hnone, hstate⟩ := h2
    split
    · exact ⟨hnone, (get_put_ne (f := MPPT_SCANMOVE_COUNT) s2 (by dsimp only; omega) _).trans hstate⟩
    · exact ⟨hnone, hstate⟩

/-- The registers and the time that the phase of a bank scan has lasted are those of `s`. -/
def SameTimer (s t : State) : Prop := t.regs = s.regs ∧ t.mppt.tPhase = s.mppt.tPhase

theorem sameTimer_ite {p : Prop} [Decidable p] (ht : SameTimer s t) (hu : SameTimer s u) : SameTimer s (if p then t else u) := by
  split
  · exact ht
  · exact hu

theorem sameTimer_foldl {op : State → Nat → State} {l : List Nat} (h : SameTimer s t) (hop : ∀ u j, SameTimer u (op u j)) :
    SameTimer s (l.foldl op t) :=
  List.foldlRecOn (motive := fun u => SameTimer s u) l op h fun u hu j _ => ⟨(hop u j).1.trans hu.1, (hop u j).2.trans hu.2⟩

theorem endPass_kept : (endPass t).mppt.phase = t.mppt.phase ∧ (endPass t).mppt.tPhase = t.mppt.tPhase ∧ trk (endPass t) g = trk t g ∧
    trkState (endPass t) g = trkState t g :=
  ⟨rfl, rfl, rfl, get_put_ne (f := MPPT_SCANSTAT_RUN) (modMppt _ t) (by dsimp only; omega) 0⟩

theorem updateBank_full {b : Nat} (hb : b < 24) : (updateBank b s).mppt.bank = b + 1 ∧ (updateBank b s).mppt.t = s.mppt.t ∧
    (updateBank b s).mppt.tupd = s.mppt.tupd ∧
    ∀ g, g ∈ bankPv s b → g < s.mppt.cells.length → trkState s g = 1 → rests s g = false → (trk (updateBank b s) g).full = true := by
  have hpass := (samePass_foldl (fun t j => (onlyCell_updateCell t j).toSamePass) (bankPv s b) s).pass
  refine ⟨rfl, (congrArg (fun m : MpptSt => m.t) hpass :), (congrArg (fun m : MpptSt => m.tupd) hpass :), fun g hg hlen hst hrest => ?_⟩
  obtain ⟨u, hu, hkept⟩ := cell_of_foldl onlyCell_updateCell (lt_of_mem_bankPv hb hg) (nodup_bankPv s b) hg s
  have hfull : FullAt g (updateCell g u) := updateCell_full (by rwa [hu.cells]) (hu.state.trans hst) (hu.rests.trans hrest)
  exact (congrArg Trk.full hkept.trk).trans hfull.1

/-- The release of a curtailed cell (R346). -/
theorem release_own (hs : Canon s) (hg : g < 192) (hlen : g < s.mppt.cells.length) (hst : trkState s g = 3) :
    let t := setTrk g 2 (modTrk g (fun x => { x with rel := none, opened := false }) s)
    trkState t g = 2 ∧ (trk t g).rel = none ∧ (trk t g).acted = some (absPick s) ∧ (trk t g).opened = false := by
  intro t
  obtain ⟨hstate, htrk⟩ := setTrk_own (s := modTrk g (fun x => { x with rel := none, opened := false }) s) (n := 2) hs hg (by decide)
  have htrk := htrk (by rwa [(onlyCell_modTrk (j := g) _ (.refl g s)).cells])
  rw [trkState_modTrk, hst, if_neg (by decide), trk_modTrk hlen] at htrk
  exact ⟨hstate, by rw [htrk], by rw [htrk]; rfl, by rw [htrk]⟩

theorem scanctlWrite_go (hidle : s.flag MPPT_SCANSTAT_RUN = false) : scanctlWrite 1 s = startPass s := by
  unfold scanctlWrite
  extract_lets s1 s2
  have h1 : s1 = s := if_pos (by decide)
  have h2 : s2 = s := (if_neg (by decide)).trans h1
  rw [if_pos (by decide), h2, if_neg (by simp [hidle])]

theorem scanctlWrite_abort : scanctlWrite 2 s = endPass (abortScan ((freeWord s).1.toNat % 8) (freeWord s).2) := by
  unfold scanctlWrite
  extract_lets s1 s2
  have h1 : s1 = s := if_pos (by decide)
  have h2 : s2 = endPass (abortScan ((freeWord s1).1.toNat % 8) (freeWord s1).2) := if_pos (by decide)
  rw [if_neg (by decide), h2, h1]

theorem startPass_fields (hs : Canon s) : (startPass s).get MPPT_SCANSTAT_RUN = 1 ∧ (startPass s).mppt.queue = List.range 24 ∧
    (startPass s).mppt.again = [] ∧ (startPass s).mppt.second = false ∧ (startPass s).mppt.phase = none ∧
    (startPass s).mppt.passT = if connected s then some (s.mppt.passT.getD 0) else none :=
  ⟨get_put_self (f := MPPT_SCANSTAT_RUN) (s := modMppt _ s) hs (by decide) 1, rfl, rfl, rfl, rfl, rfl⟩

theorem tryBanks_singleton {b : Nat} (hphase : s.mppt.phase = none) (hqueue : s.mppt.queue = [b]) :
    tryBanks s.silent.mppt.queue s.silent = tryBank b (queued [] s) := by
  unfold tryBanks
  rw [silent_mppt, hqueue, List.foldl_cons, List.foldl_nil, silent_mppt, hphase, if_neg (by decide)]
  refine congrArg (tryBank b) ?_
  unfold queued modMppt
  dsimp only
  rw [silent_mppt, hqueue]
  rfl

/-- A start in which a bank of the queue is taken up. -/
theorem bankScanStart_of_taken {t : State} (hrun : s.flag MPPT_SCANSTAT_RUN = true) (hphase : s.mppt.phase = none) (hone : 1 ≤ s.mppt.tPhase)
    (hwork : tryBanks s.silent.mppt.queue s.silent = t) (htaken : t.mppt.phase.isSome = true) : execBankScanStart s = .next t := by
  refine congrArg Host.Outcome.next ((if_neg ?_).trans ?_)
  · simp [hrun, hphase]
    simpa using hone
  · subst hwork
    exact if_pos htaken

/-- What a bank scan that ends leaves of its cells (R352). -/
theorem finish_own (hs : Canon s) (hg : g ∈ sweeping s) (hlen : g < s.mppt.cells.length) :
    (trk ((sweeping s).foldl (fun s g => finishCell g s) s) g).scan = none ∧ trkState ((sweeping s).foldl (fun s g => finishCell g s) s) g = 2 := by
  obtain ⟨hg192, hscan⟩ := mem_sweeping.1 hg
  obtain ⟨u, hu, hkept⟩ := cell_of_foldl onlyCell_finishCell hg192 (nodup_sweeping s) hg s
  obtain ⟨hnone, hstate⟩ := finishCell_ends (hu.canon hs) hg192 (by rwa [hu.cells]) (by rwa [hu.trk])
  exact ⟨(congrArg Trk.scan hkept.trk).trans hnone, hkept.state.trans hstate⟩

end

/-- Settles O43: a slot works on each cell of its bank in turn, and a cell's work leaves the other cells; a scan is a work on the cells that sweep. -/
theorem trackersAndScans : Obligations.TrackersAndScans := by
  unfold Obligations.TrackersAndScans
  intro s hinv
  have hs := canon_of_inv hinv
  refine ⟨?_, ?_, ?_, ?_, ?_, ?_, ?_, ?_, ?_, ?_, ?_, ?_⟩
  · intro hrun hon hbank ht
    refine doesWithin_run (fun t h => frame_execTrackerUpdate h) ?_
    rw [if_pos (by simp only [Bool.and_eq_true, decide_eq_true_eq]; exact ⟨⟨⟨hrun, hon⟩, hbank⟩, ht⟩)]
    exact updateBank_full (s := s.silent) hbank
  · intro h
    refine does_run (x := execTrackerUpdate s) rfl ?_
    refine if_neg ?_
    simp only [Bool.and_eq_true, decide_eq_true_eq]
    rintro ⟨⟨-, hbank⟩, ht⟩
    obtain h | h := h
    · exact absurd hbank (Nat.not_lt.2 h)
    · exact absurd ht (not_le.2 h)
  · intro hrun hfb hpick
    refine doesWithin_run (fun t h => frame_execSixteenPickCheck h) fun g hg hlen => ?_
    rw [if_pos (by simp [hrun, hfb]; exact hpick)]
    exact sixteenCheck_meansEmpty (s := s.silent) hg hlen
  · intro g x hg hlen hst hrest hrel hx
    refine doesWithin_run (fun t h => frame_execCurtailRelease hg h) ?_
    rw [if_pos (by
      rw [show trkState s.silent g = 3 from hst, show rests s.silent g = false from hrest, show (trk s.silent g).rel = some x from hrel]
      simpa using hx)]
    exact release_own (s := s.silent) hs hg hlen hst
  · intro hen hrun hconn hdue hidle
    have hpass : passDue s = true := by
      unfold passDue
      rw [hconn]
      obtain h | h := hdue <;> simp [h]
    refine doesWithin_run (fun t h => frame_execScanPass h) ?_
    extract_lets s1
    have hcanon : Canon s1 := hs
    have hidle1 : s1.flag MPPT_SCANSTAT_RUN = false := hidle
    have hconn1 : connected s1 = true := hconn
    have hzero : s1.mppt.passT = some 0 := by
      obtain h | h := hdue
      · simp [s1, modMppt, h]
      · simp [s1, modMppt, h]
    clear_value s1
    obtain ⟨hrun1, hqueue, hagain, hsecond, hphase, hpassT⟩ := startPass_fields hcanon
    rw [if_neg (by simp [hen, hrun]; exact hpass), if_neg (by simp [hidle1])]
    refine ⟨hpassT.trans ?_, hrun1, hqueue, hagain, hsecond, hphase⟩
    rw [if_pos hconn1, hzero]
    rfl
  · intro hen hrun hconn hdue hbusy
    have hpass : passDue s = true := by
      unfold passDue
      rw [hconn]
      simp [hdue]
    refine does_run (x := execScanPass s) rfl ?_
    rw [if_neg (by simp [hen, hrun]; exact hpass)]
    refine (if_pos hbusy).trans ?_
    refine congrArg (fun u : State => u.count MPPT_SCANSTAT_LATE) ?_
    unfold modMppt
    simp [hdue]
  · intro x hx hlt
    refine does_run (x := execScanPass s) rfl ?_
    have hpass : passDue s.silent = false := by
      unfold passDue
      simp [hx, hlt]
    exact if_pos (by simp [hpass])
  · intro hidle
    refine doesWithin_run (fun t h => frame_execScanGo h) ?_
    rw [scanctlWrite_go (s := s.silent) hidle]
    obtain ⟨hrun1, hqueue, -, hsecond, -⟩ := startPass_fields (s := s.silent) hs
    exact ⟨hrun1, hqueue, hsecond⟩
  · intro hrun
    refine doesWithin_run (fun t h => frame_execScanAbort h) ?_
    have hcanon : Canon (freeWord s.silent).2 := hs
    obtain ⟨hphase, hcount, hscan⟩ := abortScan_ends (n := (freeWord s.silent).1.toNat % 8) hcanon hrun
    have hcanon' : Canon (abortScan ((freeWord s.silent).1.toNat % 8) (freeWord s.silent).2) :=
      (within_abortScan (G := [0x02, 0x09, 0x51, 0x76]) (Q := [.link, .intc, .mppt]) (within_refl _ _ _)).wf hcanon
    rw [scanctlWrite_abort]
    refine ⟨get_put_self (f := MPPT_SCANSTAT_RUN) (s := modMppt _ _) hcanon' (by decide) 0, (endPass_kept (g := 0)).1.trans hphase, rfl, ?_, fun g hg hlen => ?_⟩
    · exact (get_put_ne (f := MPPT_SCANSTAT_RUN) (modMppt _ _) (by decide) 0).trans hcount
    · rw [endPass_kept.2.2.1]
      exact hscan g hg hlen
  · intro b hb hrun hphase ht hqueue hhide hany
    obtain ⟨hph, hbank, hq, hstate⟩ := tryBank_starts (s := queued [] s) hs hb hhide (by
      rw [show admits (queued [] s) = admits s from funext fun _ => admits_queued]
      exact hany)
    refine doesWithin_intro (bankScanStart_of_taken hrun hphase ht (tryBanks_singleton hphase hqueue) (by rw [hph]; rfl)) ?_ ?_
    · exact ⟨hph, hbank, hq, fun g hg had => hstate g hg (admits_queued.trans had)⟩
    · refine within_run (f := fun s => tryBank b (modMppt (fun m => { m with queue := [] }) s)) (fun u => ?_) rfl
      exact within_tryBank (within_modMppt (within_refl _ _ _))
  · intro k hphase hk ht
    refine doesWithin_run (fun t h => frame_execScanPoint h) ?_
    rw [silent_mppt, hphase]
    dsimp -zeta only
    extract_lets len s1 s2
    have h1 : SameTimer s s1 := sameTimer_ite ⟨rfl, rfl⟩ (sameTimer_foldl ⟨rfl, rfl⟩ fun _ _ => ⟨rfl, rfl⟩)
    have h2 : SameTimer s s2 := sameTimer_ite (sameTimer_foldl h1 fun _ _ => ⟨rfl, rfl⟩) h1
    clear_value s2
    rw [if_neg (by simp only [Bool.or_eq_true, decide_eq_true_eq, not_or, not_le, not_lt]; exact ⟨hk, ht⟩)]
    refine ⟨rfl, ?_, h2.1⟩
    exact congrArg (· - len) h2.2
  · intro hphase ht
    refine doesWithin_run (fun t h => frame_execBankScanEnd h) ?_
    rw [if_neg (by simp [hphase]; simpa using ht)]
    extract_lets cs s1 moved s2 s3
    have h2 (g : Nat) (hg : g ∈ sweeping s) (hlen : g < s.mppt.cells.length) : (trk s2 g).scan = none ∧ trkState s2 g = 2 :=
      finish_own (s := s.silent) hs hg hlen
    have hphase2 : s2.mppt.phase = none := rfl
    have ht2 : s2.mppt.tPhase = 0 := rfl
    clear_value s2
    have h3 (g : Nat) (hg : g ∈ sweeping s) (hlen : g < s.mppt.cells.length) : (trk s3 g).scan = none ∧ trkState s3 g = 2 := by
      have hkept : CellKept g s2 s3 := cellKept_mpptEvent (mem_sweeping.1 hg).1
      rw [hkept.trk, hkept.state]
      exact h2 g hg hlen
    have hphase3 : s3.mppt.phase = none := by simp [s3, mpptEvent, hphase2]
    have ht3 : s3.mppt.tPhase = 0 := by simp [s3, mpptEvent, ht2]
    clear_value s3
    split
    · refine ⟨(endPass_kept (g := 0)).1.trans hphase3, (endPass_kept (g := 0)).2.1.trans ht3, fun g hg hlen => ?_⟩
      obtain ⟨-, -, htrk, hstate⟩ := endPass_kept (t := s3) (g := g)
      rw [htrk, hstate]
      exact h3 g hg hlen
    · exact ⟨hphase3, ht3, h3⟩

end Sys2Proof.Machine
end

section
/-! SUPPORT. The twin's state: what a change of it makes, and the works that leave it (R246 to R254). -/

namespace Sys2Proof.Machine

set_option Elab.async false

section
variable {s t u : State} {n l g : Nat}

/-! ### A change of the twin's state -/

@[simp] theorem setEvt_twin {p m : Nat} : (setEvt p m s).twin = s.twin :=
  have h : Within [0x02, 0x09, 0x51, min p 0x100] [.link, .intc] s (setEvt p m s) := within_setEvt (within_refl _ _ _) (by simp) (by simp)
  h.same .twin (by decide)

@[simp] theorem raiseF_twin {a b c : Nat} : (raiseF a b c s).twin = s.twin :=
  have h : Within [0x51] [.link] s (raiseF a b c s) := within_raiseF (within_refl _ _ _)
  h.same .twin (by decide)

@[simp] theorem setEvt_cells {p m : Nat} : (setEvt p m s).cells = s.cells :=
  have h : Within [0x02, 0x09, 0x51, min p 0x100] [.link, .intc] s (setEvt p m s) := within_setEvt (within_refl _ _ _) (by simp) (by simp)
  h.same .cells (by decide)

@[simp] theorem raiseF_cells {a b c : Nat} : (raiseF a b c s).cells = s.cells :=
  have h : Within [0x51] [.link] s (raiseF a b c s) := within_raiseF (within_refl _ _ _)
  h.same .cells (by decide)

@[simp] theorem setEvt_ring {p m : Nat} : (setEvt p m s).ring = s.ring :=
  have h : Within [0x02, 0x09, 0x51, min p 0x100] [.link, .intc] s (setEvt p m s) := within_setEvt (within_refl _ _ _) (by simp) (by simp)
  h.same .ring (by decide)

@[simp] theorem raiseF_ring {a b c : Nat} : (raiseF a b c s).ring = s.ring :=
  have h : Within [0x51] [.link] s (raiseF a b c s) := within_raiseF (within_refl _ _ _)
  h.same .ring (by decide)

theorem setTwin_other {f : Fld} (hs : Canon s) (hloud : ¬ Loud f.addr)
    (hf : (f.addr ≠ 0x5E080 ∧ f.addr ≠ 0x5F080 ∨ 4 ≤ f.lo) ∧ f.addr ≠ 0x5E088 ∧ f.addr ≠ 0x5F088) : (setTwin n s).get f = s.get f := by
  unfold setTwin
  extract_lets old both x
  split
  · rfl
  rw [get_raiseF hloud, get_setEvt hloud, get_setEvt hloud]
  have hstep (l : Nat) (hl : l = 6 ∨ l = 7) (t : State) (ht : Canon t) : (both l t).get f = t.get f := by
    simp only [both]
    rw [get_put_ne (f := RING_TWLASTW_SWARP l) _ (by dsimp only; omega)]
    exact get_put_disjoint (f := RING_TWSTAT_STATE l) ht (by dsimp only; decide) (by dsimp only; omega) n
  have hcanon : Canon (both 6 s) := canon_stored (canon_stored hs)
  exact (hstep 7 (.inr rfl) _ hcanon).trans (hstep 6 (.inl rfl) s hs)

theorem setTwin_state (hs : Canon s) (hn : n < 16) : (setTwin n s).get (RING_TWSTAT_STATE 6) = n := by
  unfold setTwin
  extract_lets old both x
  split
  · assumption
  rw [get_raiseF (by simp), get_setEvt (by simp), get_setEvt (by simp)]
  refine (get_put_ne (f := RING_TWLASTW_SWARP 7) _ (by decide) _).trans ((get_put_ne (f := RING_TWSTAT_STATE 7) _ (by decide) _).trans ?_)
  refine (get_put_ne (f := RING_TWLASTW_SWARP 6) _ (by decide) _).trans ?_
  exact (get_put_self (f := RING_TWSTAT_STATE 6) hs (by decide) n).trans (Nat.mod_eq_of_lt hn)

theorem setTwin_state_seven (hs : Canon s) (hn : n < 16) (hne : s.get (RING_TWSTAT_STATE 6) ≠ n) : (setTwin n s).get (RING_TWSTAT_STATE 7) = n := by
  unfold setTwin
  extract_lets old both x
  rw [if_neg hne, get_raiseF (by simp), get_setEvt (by simp), get_setEvt (by simp)]
  refine (get_put_ne (f := RING_TWLASTW_SWARP 7) _ (by decide) _).trans ?_
  exact (get_put_self (f := RING_TWSTAT_STATE 7) (canon_stored (canon_stored hs)) (by decide) n).trans (Nat.mod_eq_of_lt hn)

/-- What a change of the twin's state makes of the rest of the twin. -/
theorem setTwin_twin (hne : s.get (RING_TWSTAT_STATE 6) ≠ n) :
    (setTwin n s).twin = { s.twin with since := absPick s, joiner := s.twin.joiner && decide (n < 6), out := [] } := by
  unfold setTwin
  extract_lets old both x
  rw [if_neg hne, raiseF_twin, setEvt_twin, setEvt_twin]

theorem setTwin_lastEnd : (setTwin n s).twin.lastEnd = s.twin.lastEnd := by
  by_cases h : s.get (RING_TWSTAT_STATE 6) = n
  · unfold setTwin
    rw [if_pos h]
  · rw [setTwin_twin h]

@[simp] theorem setTwin_weave : (setTwin n s).weave = s.weave :=
  (within_setTwin (G := [0x02, 0x09, 0x51] ++ ringPages) (Q := [.link, .intc, .twin]) (within_refl _ _ _)).same .weave (by decide)

@[simp] theorem setTwin_warp : (setTwin n s).warp = s.warp :=
  (within_setTwin (G := [0x02, 0x09, 0x51] ++ ringPages) (Q := [.link, .intc, .twin]) (within_refl _ _ _)).same .warp (by decide)

@[simp] theorem setTwin_cells : (setTwin n s).cells = s.cells :=
  (within_setTwin (G := [0x02, 0x09, 0x51] ++ ringPages) (Q := [.link, .intc, .twin]) (within_refl _ _ _)).same .cells (by decide)

@[simp] theorem setTwin_permit : (setTwin n s).permit = s.permit :=
  (within_setTwin (G := [0x02, 0x09, 0x51] ++ ringPages) (Q := [.link, .intc, .twin]) (within_refl _ _ _)).same .permit (by decide)

/-! ### Works that leave the twin's state -/

/-- The twin's state, that it joins, and the warp are those of `s`. -/
structure TwinKept (s t : State) : Prop where
  state : t.get (RING_TWSTAT_STATE 6) = s.get (RING_TWSTAT_STATE 6)
  joiner : t.twin.joiner = s.twin.joiner
  warp : t.warp = s.warp

theorem TwinKept.refl (s : State) : TwinKept s s := ⟨rfl, rfl, rfl⟩

theorem TwinKept.trans (h : TwinKept s t) (h' : TwinKept t u) : TwinKept s u :=
  ⟨h'.state.trans h.state, h'.joiner.trans h.joiner, h'.warp.trans h.warp⟩

theorem TwinKept.within {G : List Nat} {Q : List Part} (h : TwinKept s t) (k : Within G Q t u) (hG : 0x5E ∉ G := by decide)
    (hQ : .twin ∉ Q ∧ .warp ∉ Q := by decide) : TwinKept s u :=
  h.trans ⟨k.get (f := RING_TWSTAT_STATE 6) hG, congrArg TwinSt.joiner (k.same .twin hQ.1), k.same .warp hQ.2⟩

theorem twinKept_put {f : Fld} {v : Nat} (hf : f.addr ≠ 0x5E080) (h : TwinKept s t) : TwinKept s (t.put f v) :=
  h.trans ⟨get_put_ne t hf.symm v, rfl, rfl⟩

theorem twinKept_setEvt {p m : Nat} (h : TwinKept s t) : TwinKept s (setEvt p m t) := h.trans ⟨by simp, by simp, by simp⟩

theorem twinKept_raiseF {a b c : Nat} (h : TwinKept s t) : TwinKept s (raiseF a b c t) := h.trans ⟨by simp, by simp, by simp⟩

theorem twinKept_ite {p : Prop} [Decidable p] (ht : TwinKept s t) (hu : TwinKept s u) : TwinKept s (if p then t else u) := by
  split
  · exact ht
  · exact hu

theorem twinKept_foldl {α : Type} {op : State → α → State} {k : List α} (h : TwinKept s t) (hop : ∀ u, ∀ a ∈ k, TwinKept s u → TwinKept s (op u a)) :
    TwinKept s (k.foldl op t) :=
  List.foldlRecOn (motive := fun u => TwinKept s u) k op h fun u hu a ha => hop u a ha hu

theorem twinKept_modRing {f : RingDir → RingDir} (h : TwinKept s t) : TwinKept s (modRing l f t) := h.trans ⟨rfl, rfl, rfl⟩

theorem twinKept_modCell {f : CellSt → CellSt} (h : TwinKept s t) : TwinKept s (modCell g f t) := h.trans ⟨rfl, rfl, rfl⟩

theorem twinKept_setLaneState (h : TwinKept s t) : TwinKept s (setLaneState l n t) := by
  unfold setLaneState
  exact twinKept_ite h (twinKept_raiseF (twinKept_setEvt (twinKept_put (by dsimp only; omega) (twinKept_put (by dsimp only; omega) h))))

theorem twinKept_dropKeys (h : TwinKept s t) : TwinKept s (dropKeys l t) := by
  unfold dropKeys
  exact twinKept_foldl (twinKept_foldl (twinKept_put (by dsimp only; omega) h) fun _ _ _ => twinKept_modCell)
    fun _ i hi => twinKept_put (by have := List.mem_range.1 hi; dsimp only; omega)

theorem twinKept_startEnum (h : TwinKept s t) : TwinKept s (startEnum l t) := twinKept_setLaneState (twinKept_dropKeys (twinKept_modRing h))

theorem twinKept_stopPartnerLanes (h : TwinKept s t) : TwinKept s (stopPartnerLanes t) :=
  twinKept_foldl h fun _ _ _ h => twinKept_ite h (twinKept_setLaneState (twinKept_put (by dsimp only; omega) (twinKept_modRing h)))

theorem twinKept_decideOwners {o : Nat → Nat} (h : TwinKept s t) : TwinKept s (decideOwners n l o t) :=
  h.within (G := []) (Q := [.cells]) (within_decideOwners (within_refl _ _ _))

theorem twinKept_ownEvent {b : Bool} {d : Nat} (h : TwinKept s t) : TwinKept s (ownEvent g l d b t) := by
  unfold ownEvent
  extract_lets one src s1
  have h1 : TwinKept s s1 := h.trans ⟨rfl, rfl, rfl⟩
  clear_value s1
  have hone {l : Nat} {u : State} (h : TwinKept s u) : TwinKept s (one l u) := twinKept_setEvt (twinKept_put (by dsimp only; omega) h)
  exact twinKept_raiseF (hone (hone h1))

theorem twinKept_nodeLost (h : TwinKept s t) : TwinKept s (nodeLost g l t) := by
  unfold nodeLost
  extract_lets s1 s2 st
  have h2 : TwinKept s s2 := twinKept_raiseF (twinKept_setEvt (twinKept_modCell h))
  clear_value s2
  exact twinKept_ite h (twinKept_ite (h2.within (G := [0x02, 0x09, 0x51, 0x100]) (Q := [.link, .intc]) (within_latchFault (within_refl _ _ _)))
    (h2.within (G := [0x02, 0x09, 0x51, 0x100]) (Q := [.link, .intc, .cells, .edge]) (within_cellFault (within_refl _ _ _))))

theorem twinKept_enumResult {ms : Nat} (h : TwinKept s t) : TwinKept s (enumResult l n ms t) :=
  twinKept_raiseF (twinKept_setEvt (twinKept_put (by dsimp only; omega) (twinKept_put (by dsimp only; omega) h)))

theorem twinKept_enumRefuse {ms : Nat} (h : TwinKept s t) : TwinKept s (enumRefuse l ms t) := by
  unfold enumRefuse
  extract_lets s1 s2
  have h1 : TwinKept s s1 := twinKept_enumResult (twinKept_raiseF h)
  have h2 : TwinKept s s2 := twinKept_setLaneState (twinKept_put (by dsimp only; omega) (twinKept_modRing h1))
  clear_value s2
  exact twinKept_ite (twinKept_ownEvent (twinKept_decideOwners h2)) (twinKept_ite (twinKept_foldl h2 fun _ _ _ => twinKept_nodeLost) h2)

theorem twinKept_startBursts {ms : Nat} (h : TwinKept s t) : TwinKept s (startBursts l ms t) := by
  unfold startBursts
  extract_lets found all mism s1 s2
  have h1 : TwinKept s s1 := twinKept_enumResult (twinKept_put (by dsimp only; omega) h)
  have h2 : TwinKept s s2 := twinKept_modRing h1
  clear_value s2
  exact twinKept_ite h2 (twinKept_decideOwners h2)

theorem twinKept_enumFinish {ms : Nat} (h : TwinKept s t) : TwinKept s (enumFinish l ms t) := twinKept_ite (twinKept_startBursts h) h

theorem twinKept_enumCompare {ms : Nat} (h : TwinKept s t) : TwinKept s (enumCompare l ms t) := by
  unfold enumCompare
  extract_lets ph npop found s1
  have hfound : found < 2 ^ 7 := get_lt t (RING_ENUMSTAT_FOUND l)
  have h1 : TwinKept s s1 := twinKept_foldl h fun _ i hi => twinKept_put (by have := List.mem_range.1 hi; dsimp only; omega)
  clear_value s1
  exact twinKept_ite h (twinKept_ite (twinKept_enumRefuse h) (twinKept_enumFinish (twinKept_modRing h1)))

theorem twinKept_enumAdvance (h : TwinKept s t) : TwinKept s (enumAdvance t) := twinKept_foldl h fun _ _ _ => twinKept_enumCompare

theorem twinKept_clearCellPage (h : TwinKept s t) : TwinKept s (clearCellPage g t) := by
  refine twinKept_foldl h fun u o ho h => h.within (G := [0x100]) (Q := []) (within_setRaw (within_refl _ _ _) ?_)
  have ho : o ≤ 0x58 := by
    simp only [List.mem_cons, List.not_mem_nil, or_false] at ho
    omega
  simp only [pageOf, List.mem_singleton]
  omega

theorem twinKept_applyMap {i : Image} (h : TwinKept s t) : TwinKept s (applyMap i t) := by
  refine twinKept_stopPartnerLanes (twinKept_foldl h fun u g hg h => ?_)
  extract_lets m s1
  have h1 : TwinKept s s1 := twinKept_put (by dsimp only; omega) (twinKept_put (by dsimp only; omega) (twinKept_put (by dsimp only; omega) h))
  clear_value s1
  refine twinKept_ite ?_ (twinKept_ite ?_ h1)
  · have hcell : TwinKept s (setCellState g 0 (modCell g (fun _ => CellSt.reset) s1)) :=
      (twinKept_modCell h1).within (G := [0x02, 0x09, 0x51, 0x100]) (Q := [.link, .intc]) (within_setCellState (within_refl _ _ _))
    exact twinKept_clearCellPage hcell
  · have hcell : TwinKept s (noReference g (m.ty == 2) s1) := h1.within (G := []) (Q := [.cells, .mppt]) (within_noReference (within_refl _ _ _))
    exact hcell.within (G := [0x02, 0x09, 0x51, 0x100]) (Q := [.link, .intc]) (within_setCellState (within_refl _ _ _))

theorem twinKept_partnerCells (h : TwinKept s t) : TwinKept s (partnerCells t) := twinKept_foldl h fun _ _ _ => twinKept_decideOwners

/-- A twin that joins begins to work as its partner does; it stays where it is in the hand-over. -/
theorem twinKept_joinStart (h : TwinKept s t) : TwinKept s (joinStart t) := by
  unfold joinStart
  split
  · exact h
  · rename_i b i _
    have hmap : TwinKept s (applyMap i { t with weave.img := some i }) := twinKept_applyMap (h.trans ⟨rfl, rfl, rfl⟩)
    refine twinKept_enumAdvance (twinKept_foldl (twinKept_partnerCells (twinKept_put (by decide) hmap)) fun _ l hl h => ?_)
    exact twinKept_ite (twinKept_startEnum h) h

end

end Sys2Proof.Machine
end

section
/-! PROOFS. The twin link: lock, hand-over, copy, comparison of records, and the loss of the partner (R246 to R254). -/

namespace Sys2Proof.Machine

set_option Elab.async false

section
variable {s t : State} {n l v : Nat}

/-! ### Lock of a lane and hand-over -/

theorem setLaneState_state (hs : Canon s) (hn : n < 8) : (setLaneState l n s).get (RING_STAT_STATE l) = n := by
  unfold setLaneState
  extract_lets old
  split
  · assumption
  have hcalm : ¬ Loud (RING_STAT_STATE l).addr := by
    rw [loud_iff]
    dsimp only
    omega
  rw [get_raiseF hcalm, get_setEvt hcalm]
  refine (get_put_ne (f := RING_LASTW_SWARP l) _ (by dsimp only; omega) _).trans ?_
  exact (get_put_self (f := RING_STAT_STATE l) hs (by dsimp only; decide) n).trans (Nat.mod_eq_of_lt hn)

theorem setLaneState_other {f : Fld} (hs : Canon s) (hloud : ¬ Loud f.addr)
    (hf : (f.addr ≠ 0x58040 + 0x1000 * l ∨ 3 ≤ f.lo) ∧ f.addr ≠ 0x58078 + 0x1000 * l) : (setLaneState l n s).get f = s.get f := by
  unfold setLaneState
  extract_lets old
  split
  · rfl
  rw [get_raiseF hloud, get_setEvt hloud]
  refine (get_put_ne (f := RING_LASTW_SWARP l) _ (by dsimp only; omega) _).trans ?_
  exact get_put_disjoint (f := RING_STAT_STATE l) hs (by dsimp only; decide) (by dsimp only; omega) n

theorem canon_setLaneState (hs : Canon s) (hl : l < 8) : Canon (setLaneState l n s) :=
  (within_setLaneState (G := [0x02, 0x09, 0x51] ++ ringPages) (Q := [.link, .intc]) (within_refl _ _ _)).wf hs

theorem canon_setTwin (hs : Canon s) : Canon (setTwin n s) :=
  (within_setTwin (G := [0x02, 0x09, 0x51] ++ ringPages) (Q := [.link, .intc, .twin]) (within_refl _ _ _)).wf hs

/-- A lane of the twin that has locked takes the twin on to the hand-over. -/
theorem twinLock_fields (hs : Canon s) (hl : l = 6 ∨ l = 7) (hlock : s.get (RING_STAT_LOCK l) = 1) (hidle : s.get (RING_TWSTAT_STATE 6) = 1) :
    (setTwin 2 (setLaneState l 3 s)).get (RING_STAT_LOCK l) = 1 ∧ (setTwin 2 (setLaneState l 3 s)).get (RING_STAT_STATE l) = 3 ∧
      (setTwin 2 (setLaneState l 3 s)).get (RING_TWSTAT_STATE 6) = 2 ∧ (setTwin 2 (setLaneState l 3 s)).get (RING_TWSTAT_STATE 7) = 2 := by
  have hcalm (f : Fld) (hf : f.addr = 0x58040 + 0x1000 * l) : ¬ Loud f.addr := by
    rw [loud_iff, hf]
    omega
  have hcanon1 : Canon (setLaneState l 3 s) := canon_setLaneState hs (by omega)
  have hlane := setLaneState_state (l := l) hs (n := 3) (by decide)
  have hlock1 := (setLaneState_other (f := RING_STAT_LOCK l) (l := l) (n := 3) hs (hcalm _ rfl) (by dsimp only; omega)).trans hlock
  have hstate1 := (setLaneState_other (f := RING_TWSTAT_STATE 6) (l := l) (n := 3) hs (by simp) (by dsimp only; omega)).trans hidle
  refine ⟨?_, ?_, setTwin_state hcanon1 (by decide), setTwin_state_seven hcanon1 (by decide) (by rw [hstate1]; decide)⟩
  · exact (setTwin_other hcanon1 (hcalm _ rfl) (by dsimp only; omega)).trans hlock1
  · exact (setTwin_other hcanon1 (hcalm _ rfl) (by dsimp only; omega)).trans hlane

theorem putTwin_six {f : Nat → Fld} (hs : Canon s) (hfit : (f 6).lo + (f 6).wd ≤ 32) (hne : (f 6).addr ≠ (f 7).addr) :
    (putTwin f v s).get (f 6) = v % 2 ^ (f 6).wd :=
  (get_put_ne (f := f 7) _ hne v).trans (get_put_self hs hfit v)

theorem putTwin_other {f : Nat → Fld} {g : Fld} (hs : Canon s) (hfit : (f 6).lo + (f 6).wd ≤ 32 ∧ (f 7).lo + (f 7).wd ≤ 32)
    (h6 : g.addr ≠ (f 6).addr ∨ g.lo + g.wd ≤ (f 6).lo ∨ (f 6).lo + (f 6).wd ≤ g.lo)
    (h7 : g.addr ≠ (f 7).addr ∨ g.lo + g.wd ≤ (f 7).lo ∨ (f 7).lo + (f 7).wd ≤ g.lo) : (putTwin f v s).get g = s.get g :=
  (get_put_disjoint (f := f 7) (canon_stored hs) hfit.2 h7 v).trans (get_put_disjoint hs hfit.1 h6 v)

theorem setTwin_key : (setTwin n s).twin.key = s.twin.key := by
  by_cases h : s.get (RING_TWSTAT_STATE 6) = n
  · unfold setTwin
    rw [if_pos h]
  · rw [setTwin_twin h]

theorem setTwin_joiner (hn : n < 6) : (setTwin n s).twin.joiner = s.twin.joiner := by
  by_cases h : s.get (RING_TWSTAT_STATE 6) = n
  · unfold setTwin
    rw [if_pos h]
  · rw [setTwin_twin h]
    simp [hn]

/-- The warp that a unit takes over from its partner. -/
theorem takeWarp_fields {c : WarpCopy} (hs : Canon s) : (takeWarp c s).warp.acc = c.acc ∧ (takeWarp c s).get WARP_INC_INC = c.inc % 2 ^ 32 := by
  refine ⟨rfl, ?_⟩
  unfold takeWarp
  extract_lets w s1
  have h1 : Canon s1 := hs
  clear_value s1
  refine (get_put_ne (f := WARP_STAT_LOCK) _ (by decide) _).trans ((get_put_ne (f := WARP_STAT_STATE) _ (by decide) _).trans ?_)
  exact get_put_self (f := WARP_INC_INC) h1 (by decide) c.inc

theorem handover_fields (hs : Canon s) (c : WarpCopy) :
    let u := takeWarp c s
    let t := setTwin 5 { u with twin := { u.twin with lastEnd := some (absPick u), joiner := false } }
    t.get (RING_TWSTAT_STATE 6) = 5 ∧ t.get (RING_TWSTAT_PUNIT 6) = s.get (RING_TWSTAT_PUNIT 6) ∧ t.twin.key = s.twin.key ∧ t.warp.acc = c.acc ∧
      t.get WARP_INC_INC = c.inc % 2 ^ 32 := by
  intro u
  have hwithin : Within [0x40] [.warp] s u := within_takeWarp (within_refl _ _ _)
  obtain ⟨hacc, hinc⟩ := takeWarp_fields (c := c) hs
  have hpunit : u.get (RING_TWSTAT_PUNIT 6) = s.get (RING_TWSTAT_PUNIT 6) := hwithin.get (f := RING_TWSTAT_PUNIT 6) (by decide)
  have hkey : u.twin.key = s.twin.key := congrArg TwinSt.key (hwithin.same .twin (by decide))
  have hcanon : Canon u := hwithin.wf hs
  change u.warp.acc = c.acc at hacc
  change u.get WARP_INC_INC = _ at hinc
  clear_value u
  intro t
  have hcanon' : Canon { u with twin := { u.twin with lastEnd := some (absPick u), joiner := false } } := hcanon
  have hwarp : t.warp = u.warp := setTwin_warp
  refine ⟨setTwin_state hcanon' (by decide), ?_, setTwin_key.trans hkey, (congrArg (fun w => w.acc) hwarp).trans hacc, ?_⟩
  · exact (setTwin_other (f := RING_TWSTAT_PUNIT 6) hcanon' (by simp) (by decide)).trans hpunit
  · exact (setTwin_other (f := WARP_INC_INC) hcanon' (by simp) (by decide)).trans hinc

theorem flag_eq_of_get_eq {f : Fld} (h : t.get f = s.get f) : t.flag f = s.flag f := by
  unfold State.flag
  rw [h]

/-- A JOIN with a lane of the link in lock starts the hand-over. -/
theorem twctlWrite_join (hacc : s.get (RING_TWCTL_ACCEPT 6) < 2) (hlock : (s.get (pglock 0x5E)).testBit 1 = false)
    (hst : s.get (RING_TWSTAT_STATE 6) = 1) (hshut : s.flag SHUTTLE_F_STAT_SHUT = false) (hlane : s.flag (RING_STAT_LOCK 6) = true) :
    twctlWrite 6 (word (1 + 2 * s.get (RING_TWCTL_ACCEPT 6))) s =
      setTwin 2 { putTwin RING_TWCTL_ACCEPT (s.get (RING_TWCTL_ACCEPT 6)) s with twin.joiner := true } := by
  have hword (a : Nat) (ha : a < 2) : (word (1 + 2 * a)).getLsbD 0 = true ∧ bit ((word (1 + 2 * a)).getLsbD 1) = a ∧ (word (1 + 2 * a)).toNat / 4 = 0 := by
    obtain rfl | rfl : a = 0 ∨ a = 1 := by omega
    · decide
    · decide
  obtain ⟨hjoin, hbit, hlow⟩ := hword _ hacc
  have hlane' : (putTwin RING_TWCTL_ACCEPT (s.get (RING_TWCTL_ACCEPT 6)) s).flag (RING_STAT_LOCK 6) = true :=
    (flag_eq_of_get_eq ((get_put_ne (f := RING_TWCTL_ACCEPT 7) (g := RING_STAT_LOCK 6) _ (by decide) _).trans
      (get_put_ne (f := RING_TWCTL_ACCEPT 6) (g := RING_STAT_LOCK 6) s (by decide) _))).trans hlane
  generalize hu : putTwin RING_TWCTL_ACCEPT (s.get (RING_TWCTL_ACCEPT 6)) s = u at *
  unfold twctlWrite
  extract_lets a st bad s1 s2 w3 s3
  have hst : st = 1 := hst
  have hs1 : s1 = s := if_pos hlow
  have hs2 : s2 = u := by
    simp only [s2, hs1, hbit, hu]
  rw [if_neg (by rw [show 0x58 + 6 = 0x5E from rfl, hlock]; decide), if_neg (by simp [bad, hst, hshut]), if_pos hjoin]
  simp only [s3, w3, hs2]
  exact if_pos (Bool.or_eq_true_iff.2 (.inl hlane'))

/-! ### The copy -/

theorem takeCopy_copied {cp : TwinCopy} :
    (takeCopy cp s).weave.shared = cp.shared ∧ (takeCopy cp s).weave.params = cp.params ∧ (takeCopy cp s).warp.acc = cp.warp.acc := by
  unfold takeCopy
  extract_lets eng clu cell s1 w s2
  have h2 : (takeWarp cp.warp s2).weave.shared = cp.shared ∧ (takeWarp cp.warp s2).weave.params = cp.params ∧ (takeWarp cp.warp s2).warp.acc = cp.warp.acc := by
    clear_value s1
    exact ⟨rfl, rfl, rfl⟩
  generalize takeWarp cp.warp s2 = u at *
  refine List.foldlRecOn (motive := fun t : State => t.weave.shared = cp.shared ∧ t.weave.params = cp.params ∧ t.warp.acc = cp.warp.acc) _ cell h2 fun t ht g _ => ?_
  simp only [cell]
  split
  · exact ht
  · exact ht

/-- A unit that joins runs on with its partner's memories and warp. -/
theorem joinRun_copied {cp : TwinCopy} :
    (joinRun cp s).weave.shared = cp.shared ∧ (joinRun cp s).weave.params = cp.params ∧ (joinRun cp s).warp.acc = cp.warp.acc := by
  unfold joinRun
  extract_lets s1 s2 srcw srcv s3
  have h2 : s2.weave.shared = cp.shared ∧ s2.weave.params = cp.params ∧ s2.warp.acc = cp.warp.acc := by
    have hwithin : Within ([0x50, 0x60] ++ loomPages) [.edge] (takeCopy cp s1) s2 := within_idleRun (within_takeEdges (within_refl _ _ _))
    have hweave := hwithin.same .weave (by decide)
    have hwarp := hwithin.same .warp (by decide)
    clear_value s2
    rw [show s2.weave = (takeCopy cp s1).weave from hweave, show s2.warp = (takeCopy cp s1).warp from hwarp]
    exact takeCopy_copied
  clear_value s2
  split
  · exact h2
  have h3 : s3.weave.shared = cp.shared ∧ s3.weave.params = cp.params ∧ s3.warp.acc = cp.warp.acc := h2
  clear_value s3
  have ha : s3.get WEAVE_STAT_ACT < 2 ^ 1 := get_lt s3 WEAVE_STAT_ACT
  have hwithin : Within ([0x41] ++ adcPages) [] s3 (refreshBanks (((adcRefresh s3).put (WEAVE_BANK_STATE (s3.get WEAVE_STAT_ACT)) 5).put WEAVE_STAT_RUN 1)) :=
    within_refreshBanks (within_put (within_put (within_adcRefresh (within_refl _ _ _))))
  rw [hwithin.same .weave (by decide), hwithin.same .warp (by decide)]
  exact h3

/-- A copy that was verified puts the unit on probation. -/
theorem verified_fields (hs : Canon s) :
    let t := setTwin 4 { s with twin.lastEnd := some (absPick s) }
    t.get (RING_TWSTAT_STATE 6) = 4 ∧ t.get (RING_TWSTAT_XFER 6) = s.get (RING_TWSTAT_XFER 6) ∧ t.weave = s.weave ∧ t.warp = s.warp ∧
      t.twin.lastEnd = some (absPick s) :=
  ⟨setTwin_state (s := { s with twin.lastEnd := some (absPick s) }) hs (by decide),
    setTwin_other (s := { s with twin.lastEnd := some (absPick s) }) hs (by simp) (by decide), setTwin_weave, setTwin_warp, setTwin_lastEnd⟩

theorem putTwin_xfer (hs : Canon s) : (putTwin RING_TWSTAT_XFER 100 s).get (RING_TWSTAT_XFER 6) = 100 :=
  (putTwin_six (f := RING_TWSTAT_XFER) hs (by decide) (by decide)).trans (Nat.mod_eq_of_lt (by decide))

theorem absPick_eq_of_warp_eq (h : t.warp = s.warp) : absPick t = absPick s := by
  unfold absPick cycleOf pickOf
  rw [h]

/-! ### A burst of the partner -/

theorem twinFec_other {b : TwinBurst} {f : Fld}
    (hf : f.addr ≠ 0x5E054 ∧ f.addr ≠ 0x5E058 ∧ f.addr ≠ 0x5F054 ∧ f.addr ≠ 0x5F058) : (twinFec b s).get f = s.get f := by
  obtain ⟨h1, h2, h3, h4⟩ := hf
  exact (get_put_ne (f := RING_FECUNC_COUNT 7) _ h4 _).trans ((get_put_ne (f := RING_FECCOR_COUNT 7) _ h3 _).trans
    ((get_put_ne (f := RING_FECUNC_COUNT 6) _ h2 _).trans (get_put_ne (f := RING_FECCOR_COUNT 6) _ h1 _)))

/-- The block as a burst is taken in, before its records are compared (R248). -/
def burstTaken (b : TwinBurst) (s : State) : State :=
  let s0 := twinFec b s
  let s1 := if b.ok0 && b.ok1 then s0 else (s0.count (RING_TWCNT_MISS 6)).count (RING_TWCNT_MISS 7)
  putTwin RING_TWSTAT_PYIELD (bit b.yield)
    (({ s1 with twin.lastEnd := some b.pick, weave.partnerArm := b.armed }.putB (RING_STAT_RXOK 6) b.ok0).putB (RING_STAT_RXOK 7) b.ok1)

/-- What taking a burst in makes of the block. -/
structure Taken (b : TwinBurst) (s t : State) : Prop where
  canon : Canon t
  state : t.get (RING_TWSTAT_STATE 6) = s.get (RING_TWSTAT_STATE 6)
  rx6 : t.get (RING_STAT_RXOK 6) = bit b.ok0
  rx7 : t.get (RING_STAT_RXOK 7) = bit b.ok1
  twin : t.twin = { s.twin with lastEnd := some b.pick }
  weave : t.weave = { s.weave with partnerArm := b.armed }
  warp : t.warp = s.warp
  run : t.flag WEAVE_STAT_RUN = s.flag WEAVE_STAT_RUN
  fallback : t.flag WEAVE_STAT_FB = s.flag WEAVE_STAT_FB

theorem burstTaken_fields {b : TwinBurst} (hs : Canon s) : Taken b s (burstTaken b s) := by
  unfold burstTaken
  extract_lets s0 s1
  have hcanon0 : Canon s0 := (within_twinFec (G := ringPages) (Q := []) (within_refl _ _ _)).wf hs
  have hget0 (f : Fld) (hf : f.addr ≠ 0x5E054 ∧ f.addr ≠ 0x5E058 ∧ f.addr ≠ 0x5F054 ∧ f.addr ≠ 0x5F058) : s0.get f = s.get f := twinFec_other hf
  have hpart0 : s0.twin = s.twin ∧ s0.weave = s.weave ∧ s0.warp = s.warp := ⟨rfl, rfl, rfl⟩
  clear_value s0
  have hcanon1 : Canon s1 := by
    simp only [s1]
    split
    · exact hcanon0
    · exact canon_stored (canon_stored hcanon0)
  have hget1 (f : Fld) (hf : f.addr ≠ 0x5E084 ∧ f.addr ≠ 0x5F084) : s1.get f = s0.get f := by
    simp only [s1]
    split
    · rfl
    · exact (get_put_ne (f := RING_TWCNT_MISS 7) _ hf.2 _).trans (get_put_ne (f := RING_TWCNT_MISS 6) _ hf.1 _)
  have hpart1 : s1.twin = s0.twin ∧ s1.weave = s0.weave ∧ s1.warp = s0.warp := by
    simp only [s1]
    split
    · exact ⟨rfl, rfl, rfl⟩
    · exact ⟨rfl, rfl, rfl⟩
  clear_value s1
  obtain ⟨htwin0, hweave0, hwarp0⟩ := hpart0
  obtain ⟨htwin1, hweave1, hwarp1⟩ := hpart1
  have hgetu (f : Fld) (hf : f.addr ≠ 0x5E054 ∧ f.addr ≠ 0x5E058 ∧ f.addr ≠ 0x5F054 ∧ f.addr ≠ 0x5F058 ∧ f.addr ≠ 0x5E084 ∧ f.addr ≠ 0x5F084) :
      s1.get f = s.get f := (hget1 f (by omega)).trans (hget0 f (by omega))
  have hu : Canon { s1 with twin.lastEnd := some b.pick, weave.partnerArm := b.armed } := hcanon1
  have hother (f : Fld) (hne : f.addr ≠ 0x5E040 ∧ f.addr ≠ 0x5F040) (hf : f.addr ≠ 0x5E080 ∧ f.addr ≠ 0x5F080 ∨ f.lo + f.wd ≤ 5) :
      (putTwin RING_TWSTAT_PYIELD (bit b.yield) (({ s1 with twin.lastEnd := some b.pick, weave.partnerArm := b.armed }.putB (RING_STAT_RXOK 6) b.ok0).putB
        (RING_STAT_RXOK 7) b.ok1)).get f = s1.get f :=
    (putTwin_other (canon_stored (canon_stored hu)) (by decide) (by dsimp only; omega) (by dsimp only; omega)).trans
      ((get_put_ne (f := RING_STAT_RXOK 7) _ hne.2 _).trans (get_put_ne (f := RING_STAT_RXOK 6) _ hne.1 _))
  refine { canon := canon_stored (canon_stored (canon_stored (canon_stored hu))), state := ?_, rx6 := ?_, rx7 := ?_, twin := ?_, weave := ?_, warp := hwarp1.trans hwarp0,
           run := ?_, fallback := ?_ }
  · exact (hother _ (by decide) (by decide)).trans (hgetu _ (by decide))
  · refine (putTwin_other (canon_stored (canon_stored hu)) (by decide) (by decide) (by decide)).trans ?_
    exact (get_put_ne (f := RING_STAT_RXOK 7) _ (by decide) _).trans (get_putB_self hu (by decide) rfl)
  · refine (putTwin_other (canon_stored (canon_stored hu)) (by decide) (by decide) (by decide)).trans ?_
    exact get_putB_self (canon_stored hu) (by decide) rfl
  · exact congrArg (fun w : TwinSt => { w with lastEnd := some b.pick }) (htwin1.trans htwin0)
  · exact congrArg (fun w : WeaveSt => { w with partnerArm := b.armed }) (hweave1.trans hweave0)
  · exact flag_eq_of_get_eq ((hother WEAVE_STAT_RUN (by decide) (by decide)).trans (hgetu WEAVE_STAT_RUN (by decide)))
  · exact flag_eq_of_get_eq ((hother WEAVE_STAT_FB (by decide) (by decide)).trans (hgetu WEAVE_STAT_FB (by decide)))

theorem run_eq {f : State → State} : run f s = .next (f s.silent) := rfl

/-- A burst whose records agree with the unit's own. -/
theorem burst_agrees {b : TwinBurst} (hst : s.get (RING_TWSTAT_STATE 6) = 5) (hok : b.ok0 = true) (hpick : b.pick + 1 = absPick s)
    (hcrc : recsCrc s.twin.prev = b.crc) (hyield : b.yield = false) (hchg : b.ownChg = []) : execTwinBurst b s =
      .next (b.cancelled.foldl (fun s x => partnerCancel b.pick x s) (putTwin RING_TWSTAT_DIGOK 1 (burstTaken b s.silent))) := by
  have hstate : twinState (twinFec b s.silent) = 5 := (twinFec_other (by decide)).trans hst
  have hmine : (if b.pick + 1 = absPick (twinFec b s.silent) then recsCrc (twinFec b s.silent).twin.prev else recsCrc (twinFec b s.silent).twin.recs) = b.crc :=
    (if_pos hpick).trans hcrc
  unfold execTwinBurst
  rw [run_eq]
  refine congrArg Host.Outcome.next ?_
  dsimp only
  rw [hstate, hmine, if_neg (by simp [hok]), if_neg (by simp), hyield, Bool.and_false, if_neg (by decide),
    if_pos (show ((5 : Nat) != 3) = true from rfl), hchg]
  unfold burstTaken
  dsimp only
  rw [hyield]
  rfl

/-- A burst whose records differ from the unit's own. -/
theorem burst_differs {b : TwinBurst} (hst : s.get (RING_TWSTAT_STATE 6) = 5) (hok : b.ok0 = true) (hpick : b.pick + 1 = absPick s)
    (hcrc : recsCrc s.twin.prev ≠ b.crc) : execTwinBurst b s = .next (diverge b.pick (burstTaken b s.silent)) := by
  have hstate : twinState (twinFec b s.silent) = 5 := (twinFec_other (by decide)).trans hst
  have hmine : (if b.pick + 1 = absPick (twinFec b s.silent) then recsCrc (twinFec b s.silent).twin.prev else recsCrc (twinFec b s.silent).twin.recs) ≠ b.crc := by
    rw [if_pos (show b.pick + 1 = absPick (twinFec b s.silent) from hpick)]
    exact hcrc
  unfold execTwinBurst
  rw [run_eq]
  refine congrArg Host.Outcome.next ?_
  dsimp only
  rw [hstate, if_neg (by simp [hok]), if_pos (by simp [hmine])]
  rfl

/-- A switch that is armed and that the partner cancels is cancelled here too (R181). -/
theorem partnerCancel_own {pick : Nat} {x : Switch} {i : Image} (hdue : s.weave.due = none) (harm : s.weave.armed = some x)
    (himg : (s.weave.banks.getD x.bank Bank.empty).img = some i) (hsince : x.since ≤ pick) (hlt : pick < (x.cycle - 1) * 4096 + 4095) :
    partnerCancel pick (i.twinHash, x.cycle) s = ({ s with weave.armed := none }.put WEAVE_SWSTAT_STATE 5).put WEAVE_STAT_SWPEND 0 := by
  have hown : ownArmed s = some (i.twinHash, x.cycle) := by
    unfold ownArmed
    rw [harm]
    exact congrArg (Option.map _) himg
  unfold partnerCancel cancelSwitch
  extract_lets dueHash
  have hhash : dueHash = none := by
    simp only [dueHash, hdue]
    rfl
  rw [if_neg (Nat.not_le.2 hlt), hhash, if_neg (by simp), if_pos (by simp [hown, harm, hsince]), harm]

/-- Records that differ put the unit out of the twin and into the fallback. -/
theorem diverge_fields {pick : Nat} (hs : Canon s) (hrun : s.flag WEAVE_STAT_RUN = true)
    (hfb : s.flag WEAVE_STAT_FB = false) (hpend : s.weave.fbPend = none) (hload : s.weave.fbWhileLoading = none) :
    (diverge pick s).get (RING_TWSTAT_STATE 6) = 7 ∧ (diverge pick s).get (RING_TWSTAT_DIGOK 6) = 0 ∧ (diverge pick s).weave.fbPend = some 8 := by
  unfold diverge
  extract_lets s1 s2
  have hcounted : Canon ((s.count (RING_TWCNT_DIVERGE 6)).count (RING_TWCNT_DIVERGE 7)) := canon_stored (canon_stored hs)
  have hcanon1 : Canon s1 := canon_stored (canon_stored hcounted)
  have hdig1 : s1.get (RING_TWSTAT_DIGOK 6) = 0 := putTwin_six (f := RING_TWSTAT_DIGOK) hcounted (by decide) (by decide)
  have hget1 (f : Fld) (hf : f.addr ≠ 0x5E084 ∧ f.addr ≠ 0x5F084) (hne : f.addr ≠ 0x5E080 ∧ f.addr ≠ 0x5F080 ∨ f.lo + f.wd ≤ 6) : s1.get f = s.get f :=
    (putTwin_other (f := RING_TWSTAT_DIGOK) hcounted (by decide) (by dsimp only; omega) (by dsimp only; omega)).trans
      ((get_put_ne (f := RING_TWCNT_DIVERGE 7) _ hf.2 _).trans (get_put_ne (f := RING_TWCNT_DIVERGE 6) _ hf.1 _))
  have hweave1 : s1.weave = s.weave := rfl
  clear_value s1
  have hcanon2 : Canon s2 := by simp [s2, hcanon1]
  have hget2 (f : Fld) (hloud : ¬ Loud f.addr) : s2.get f = s1.get f := by
    simp only [s2]
    rw [get_raiseF hloud, get_setEvt hloud, get_setEvt hloud]
  have hweave2 : s2.weave = s.weave := by simp [s2, hweave1]
  clear_value s2
  have hrun2 : (setTwin 7 s2).flag WEAVE_STAT_RUN = true :=
    (flag_eq_of_get_eq ((setTwin_other (f := WEAVE_STAT_RUN) hcanon2 (by simp) (by decide)).trans
      ((hget2 WEAVE_STAT_RUN (by simp)).trans (hget1 WEAVE_STAT_RUN (by decide) (by decide))))).trans hrun
  have hfb2 : (setTwin 7 s2).flag WEAVE_STAT_FB = false :=
    (flag_eq_of_get_eq ((setTwin_other (f := WEAVE_STAT_FB) hcanon2 (by simp) (by decide)).trans
      ((hget2 WEAVE_STAT_FB (by simp)).trans (hget1 WEAVE_STAT_FB (by decide) (by decide))))).trans hfb
  have hdig2 : (setTwin 7 s2).get (RING_TWSTAT_DIGOK 6) = 0 :=
    (setTwin_other hcanon2 (by simp) (by decide)).trans ((hget2 _ (by simp)).trans hdig1)
  have hstate2 : (setTwin 7 s2).get (RING_TWSTAT_STATE 6) = 7 := setTwin_state hcanon2 (by decide)
  have hweave : (setTwin 7 s2).weave = s.weave := setTwin_weave.trans hweave2
  generalize setTwin 7 s2 = u at *
  unfold converterFault
  rw [if_neg (by simp [hfb2, hweave, hpend, hload]), if_pos hrun2]
  exact ⟨hstate2, hdig2, rfl⟩

/-! ### The loss of the partner -/

theorem mem_phaseCells {g ph : Nat} : g ∈ phaseCells ph ↔ g / 64 = ph := by
  unfold phaseCells
  rw [List.mem_map]
  constructor
  · rintro ⟨i, hi, rfl⟩
    have := List.mem_range.1 hi
    omega
  · intro h
    exact ⟨g % 64, List.mem_range.2 (by omega), by omega⟩

/-- The image, the warp and the number of cells are those of `s`. -/
structure SameUnit (s t : State) : Prop where
  weave : t.weave = s.weave
  warp : t.warp = s.warp
  cells : t.cells.length = s.cells.length

theorem SameUnit.trans {u : State} (h : SameUnit s t) (h' : SameUnit t u) : SameUnit s u :=
  ⟨h'.weave.trans h.weave, h'.warp.trans h.warp, h'.cells.trans h.cells⟩

theorem SameUnit.populated {g : Nat} (h : SameUnit s t) : populated t g = populated s g := by
  unfold Machine.populated cellMap convMap
  rw [h.weave]

theorem decideOwner_same {o g : Nat} : SameUnit s (decideOwner n o g s) := by
  unfold decideOwner
  split
  · exact ⟨rfl, rfl, List.length_modify _ _ _⟩
  · exact ⟨rfl, rfl, rfl⟩

theorem decideOwner_other {o g j : Nat} (hne : g ≠ j) : cellSt (decideOwner n o j s) g = cellSt s g := by
  unfold decideOwner
  split
  · rw [cellSt, cellSt, List.getD_eq_getElem?_getD, List.getD_eq_getElem?_getD]
    exact congrArg (fun c : Option CellSt => c.getD CellSt.reset) (List.getElem?_modify_ne _ _ hne.symm)
  · rfl

theorem decideOwner_own {o g : Nat} (hpop : populated s g = true) (hlen : g < s.cells.length) :
    (cellSt (decideOwner n o g s) g).ownNext = some (o, n) := by
  unfold decideOwner
  rw [if_pos hpop]
  have hlen' : g < (s.cells.modify g fun c => { c with ownNext := some (o, n) }).length := by rwa [List.length_modify]
  exact congrArg CellSt.ownNext ((List.getD_eq_getElem _ _ hlen').trans (List.getElem_modify_eq _ _ _ _))

theorem decideOwners_same {ph : Nat} {o : Nat → Nat} : SameUnit s (decideOwners n ph o s) :=
  List.foldlRecOn (motive := fun t => SameUnit s t) _ _ ⟨rfl, rfl, rfl⟩ fun _ ht _ _ => ht.trans decideOwner_same

theorem decideOwners_other {ph g : Nat} {o : Nat → Nat} (hne : g / 64 ≠ ph) : cellSt (decideOwners n ph o s) g = cellSt s g :=
  List.foldlRecOn (motive := fun t => cellSt t g = cellSt s g) _ _ rfl fun _ ht j hj =>
    have hph : j / 64 = ph := mem_phaseCells.1 hj
    (decideOwner_other (by omega)).trans ht

theorem decideOwners_own {ph g : Nat} {o : Nat → Nat} (hph : g / 64 = ph) (hpop : populated s g = true) (hlen : g < s.cells.length) :
    (cellSt (decideOwners n ph o s) g).ownNext = some (o g, n) := by
  obtain ⟨a, b, hsplit⟩ := List.append_of_mem (mem_phaseCells.2 hph)
  unfold decideOwners
  rw [hsplit, List.foldl_append, List.foldl_cons]
  have ha : SameUnit s (a.foldl (fun s g => decideOwner n (o g) g s) s) :=
    List.foldlRecOn (motive := fun t => SameUnit s t) _ _ ⟨rfl, rfl, rfl⟩ fun _ ht _ _ => ht.trans decideOwner_same
  generalize a.foldl (fun s g => decideOwner n (o g) g s) s = u at *
  have hown := decideOwner_own (n := n) (o := o g) (ha.populated.trans hpop) (by rwa [ha.cells])
  have hsame : SameUnit s (decideOwner n (o g) g u) := ha.trans decideOwner_same
  generalize decideOwner n (o g) g u = u' at *
  refine (List.foldlRecOn (motive := fun t => SameUnit s t ∧ (cellSt t g).ownNext = some (o g, n)) _ _ ⟨hsame, hown⟩ fun t ht j _ => ?_).2
  obtain ⟨hsame, hown⟩ := ht
  refine ⟨hsame.trans decideOwner_same, ?_⟩
  by_cases h : g = j
  · subst h
    exact decideOwner_own (hsame.populated.trans hpop) (by rwa [hsame.cells])
  · rw [decideOwner_other h, hown]

theorem ownEvent_kept {g d : Nat} {b : Bool} : (ownEvent g l d b s).cells = s.cells ∧ (ownEvent g l d b s).weave = s.weave ∧ (ownEvent g l d b s).warp = s.warp := by
  unfold ownEvent
  simp

/-- The cells of a phase go over to the lanes that this unit ends. -/
def takePhase (k : Nat) (s : State) (ph : Nat) : State :=
  ownEvent 0xFF ph (if terminates s (2 * ph) then 0 else 1) false
    (decideOwners (boundariesTo k s) ph (fun _ => if terminates s (2 * ph) then 0 else 1) s)

theorem takePhase_fields {k ph g : Nat} (h : SameUnit s t) (hk : k = absPick s + 1) (hlen : g < s.cells.length) (hpop : populated s g = true) :
    SameUnit s (takePhase k t ph) ∧ (g / 64 ≠ ph → cellSt (takePhase k t ph) g = cellSt t g) ∧
      (g / 64 = ph → (cellSt (takePhase k t ph) g).ownNext = some (if terminates s (2 * (g / 64)) then 0 else 1, 1)) := by
  unfold takePhase
  generalize ho : (fun _ : Nat => if terminates t (2 * ph) then 0 else 1) = o
  obtain ⟨hcells, hweave, hwarp⟩ := ownEvent_kept (g := 0xFF) (l := ph) (d := if terminates t (2 * ph) then 0 else 1) (b := false)
    (s := decideOwners (boundariesTo k t) ph o t)
  have hcell : cellSt (ownEvent 0xFF ph (if terminates t (2 * ph) then 0 else 1) false (decideOwners (boundariesTo k t) ph o t)) g =
      cellSt (decideOwners (boundariesTo k t) ph o t) g := congrArg (fun c : List CellSt => c.getD g CellSt.reset) hcells
  refine ⟨(h.trans decideOwners_same).trans ⟨hweave, hwarp, congrArg List.length hcells⟩, fun hne => ?_, fun heq => ?_⟩
  · rw [hcell, decideOwners_other hne]
  · have hn : boundariesTo k t = 1 := by
      have habs : absPick t = absPick s := by
        unfold absPick cycleOf pickOf
        rw [h.warp]
      unfold boundariesTo
      rw [habs, hk]
      omega
    have hterm : terminates t (2 * ph) = terminates s (2 * (g / 64)) := by
      unfold terminates
      rw [h.weave, heq]
    rw [hcell, decideOwners_own heq (h.populated.trans hpop) (by rwa [h.cells]), hn, ← ho, hterm]

theorem takeCells_owners {k g : Nat} (hk : k = absPick s + 1) (hg : g < 192) (hlen : g < s.cells.length) (hpop : populated s g = true) :
    (cellSt (takeCells k s) g).ownNext = some (if terminates s (2 * (g / 64)) then 0 else 1, 1) := by
  have hmem : g / 64 ∈ [0, 1, 2] := by
    simp only [List.mem_cons, List.not_mem_nil, or_false]
    omega
  obtain ⟨a, b, hsplit⟩ := List.append_of_mem hmem
  have htake : takeCells k s = b.foldl (takePhase k) (takePhase k (a.foldl (takePhase k) s) (g / 64)) := by
    rw [← List.foldl_cons, ← List.foldl_append, ← hsplit]
    rfl
  have ha : SameUnit s (a.foldl (takePhase k) s) :=
    List.foldlRecOn (motive := fun t => SameUnit s t) a (takePhase k) ⟨rfl, rfl, rfl⟩ fun _ ht _ _ => (takePhase_fields ht hk hlen hpop).1
  rw [htake]
  generalize a.foldl (takePhase k) s = u at *
  obtain ⟨hsame, -, hown⟩ := takePhase_fields (ph := g / 64) ha hk hlen hpop
  have hown := hown rfl
  generalize takePhase k u (g / 64) = u' at *
  refine (List.foldlRecOn (motive := fun t => SameUnit s t ∧ (cellSt t g).ownNext = some (if terminates s (2 * (g / 64)) then 0 else 1, 1)) b (takePhase k)
    ⟨hsame, hown⟩ fun t ht ph _ => ?_).2
  obtain ⟨hsame, hown⟩ := ht
  obtain ⟨hsame', hother, hown'⟩ := takePhase_fields (ph := ph) hsame hk hlen hpop
  refine ⟨hsame', ?_⟩
  by_cases h : g / 64 = ph
  · exact hown' h
  · rw [hother h, hown]

theorem twinKept_takeCells {k : Nat} (h : TwinKept s t) : TwinKept s (takeCells k t) :=
  twinKept_foldl h fun _ _ _ h => twinKept_ownEvent (twinKept_decideOwners h)

/-- The takeover of a unit whose partner has gone quiet (R251). -/
theorem takeover_fields (hs : Canon s) (hwhole : s.twin.since + 1 < absPick s) (henough : (List.range 4).all (fun c => 2 ≤ (voters s c).length) = true) :
    (takeover (absPick s + 1) false s).get (RING_TWSTAT_STATE 6) = 6 ∧ (takeover (absPick s + 1) false s).weave = s.weave ∧
      ∀ g, g < 192 → g < s.cells.length → populated s g = true →
        (cellSt (takeover (absPick s + 1) false s) g).ownNext = some (if terminates s (2 * (g / 64)) then 0 else 1, 1) := by
  have hcond : (false || decide (s.twin.since + 1 ≤ absPick s) && (List.range 4).all (fun c => 2 ≤ (voters s c).length)) = true := by
    rw [henough, decide_eq_true (by omega)]
    rfl
  have heq : ∃ x, takeover (absPick s + 1) false s = { takeCells (absPick s + 1) (setTwin 6 s) with twin.lossEvt := x } := ⟨_, if_pos hcond⟩
  obtain ⟨x, heq⟩ := heq
  rw [heq]
  have hstate : (setTwin 6 s).get (RING_TWSTAT_STATE 6) = 6 := setTwin_state hs (by decide)
  have hweave : (setTwin 6 s).weave = s.weave := setTwin_weave
  have hcells : (setTwin 6 s).cells = s.cells := setTwin_cells
  have habs : absPick (setTwin 6 s) = absPick s := by
    unfold absPick cycleOf pickOf
    rw [setTwin_warp]
  clear heq
  generalize setTwin 6 s = s1 at *
  have hpop (g : Nat) : populated s1 g = populated s g := by
    unfold populated cellMap convMap
    rw [hweave]
  have hterm (l : Nat) : terminates s1 l = terminates s l := by
    unfold terminates
    rw [hweave]
  have hwithin : Within ([0x02, 0x09, 0x51] ++ ringPages) [.link, .intc, .cells, .twin] s1 (takeCells (absPick s + 1) s1) := within_takeCells (within_refl _ _ _)
  have howners (g : Nat) (hg : g < 192) (hlen : g < s.cells.length) (hp : populated s g = true) :
      (cellSt (takeCells (absPick s + 1) s1) g).ownNext = some (if terminates s (2 * (g / 64)) then 0 else 1, 1) := by
    rw [takeCells_owners (by rw [habs]) hg (by rwa [hcells]) ((hpop g).trans hp), hterm]
  have hkept : TwinKept s1 (takeCells (absPick s + 1) s1) := twinKept_takeCells (.refl s1)
  generalize takeCells (absPick s + 1) s1 = u at *
  exact ⟨hkept.state.trans hstate, (hwithin.same .weave (by decide)).trans hweave, howners⟩

end

/-- Settles O41: each event of the link changes the twin's state at most once, and what else it does leaves that state. -/
theorem twinLink : Obligations.TwinLink := by
  unfold Obligations.TwinLink
  intro s hinv
  have hs := canon_of_inv hinv
  refine ⟨?_, ?_, ?_, ?_, ?_, ?_, ?_, ?_, ?_, ?_, ?_, ?_⟩
  · intro lane hl hidle
    refine doesWithin_run (fun t h => (frame_execTwinLaneLock (a0 := lane) (by omega) h).mono (by decide) (by decide)) ?_
    rw [if_neg (by obtain rfl | rfl := hl <;> decide)]
    extract_lets s1
    have hlock : (s.silent.put (RING_STAT_LOCK lane) 1).get (RING_STAT_LOCK lane) = 1 :=
      get_put_self (f := RING_STAT_LOCK lane) (s := s.silent) hs (by dsimp only; decide) 1
    have hidle' : (s.silent.put (RING_STAT_LOCK lane) 1).get (RING_TWSTAT_STATE 6) = 1 :=
      (get_put_ne (f := RING_STAT_LOCK lane) s.silent (by dsimp only; omega) 1).trans hidle
    have hcanon : Canon (s.silent.put (RING_STAT_LOCK lane) 1) := canon_stored (s := s.silent) hs
    have hs1 : s1 = setLaneState lane 3 (s.silent.put (RING_STAT_LOCK lane) 1) := rfl
    clear_value s1
    generalize s.silent.put (RING_STAT_LOCK lane) 1 = u at *
    subst hs1
    rw [if_pos (by
      rw [twinState, setLaneState_other hcanon (by simp) (by dsimp only; omega), hidle']
      rfl)]
    exact twinLock_fields hcanon hl hlock hidle'
  · intro peer hst hhash hunit hlt hrun hpeer hno
    refine does_run (x := execTwinHandshakeDone peer s) rfl ?_
    rw [if_neg (by simpa [twinState, hst] using ⟨hhash, hunit⟩)]
    extract_lets w1 v1 s1 runs s2 v3 s3
    have hcanon1 : Canon s1 := canon_stored (canon_stored (s := s.silent) hs)
    have hpunit : s1.get (RING_TWSTAT_PUNIT 6) = peer.unit :=
      (putTwin_six (f := RING_TWSTAT_PUNIT) (s := s.silent) hs (by decide) (by decide)).trans (Nat.mod_eq_of_lt (by simpa using hlt))
    have hkey : s1.twin.key = peer.key := rfl
    have hs2 : s2 = takeWarp peer.warp s1 := if_pos hno
    have hruns : runs = false := hrun
    clear_value s1 runs
    subst hruns
    rw [if_pos (by simp [hpeer])]
    obtain ⟨hstate, hpunit3, hkey3, hacc, hinc⟩ := handover_fields hcanon1 peer.warp
    have hs3 : s3 = setTwin 5 { takeWarp peer.warp s1 with twin := { (takeWarp peer.warp s1).twin with lastEnd := some (absPick (takeWarp peer.warp s1)), joiner := false } } := by
      simp only [s3, v3, hs2]
    clear_value s3
    rw [← hs3] at hstate hpunit3 hkey3 hacc hinc
    exact ⟨hstate, hpunit3.trans hpunit, hkey3.trans hkey, hacc, hinc⟩
  · intro peer hst hhash hunit hrun hpeer hacc
    refine does_run (x := execTwinHandshakeDone peer s) rfl ?_
    rw [if_neg (by simpa [twinState, hst] using ⟨hhash, hunit⟩)]
    extract_lets w1 v1 s1 runs s2 w3 v3 s3
    have hcanon1 : Canon s1 := canon_stored (canon_stored (s := s.silent) hs)
    have hwarp1 : s1.warp = s.warp := rfl
    have hruns : runs = false := hrun
    clear_value s1 runs
    subst hruns
    rw [if_neg (by simp [hpeer]), if_pos (by simp [hpeer, hacc])]
    have hkept : TwinKept (setTwin 3 { s1 with twin.joiner := true }) (joinStart (setTwin 3 { s1 with twin.joiner := true })) := twinKept_joinStart (.refl _)
    have hstate : (setTwin 3 { s1 with twin.joiner := true }).get (RING_TWSTAT_STATE 6) = 3 := setTwin_state (s := { s1 with twin.joiner := true }) hcanon1 (by decide)
    have hjoin : (setTwin 3 { s1 with twin.joiner := true }).twin.joiner = true := setTwin_joiner (s := { s1 with twin.joiner := true }) (by decide)
    have hwarp : (setTwin 3 { s1 with twin.joiner := true }).warp = s1.warp := setTwin_warp
    generalize setTwin 3 { s1 with twin.joiner := true } = u at *
    exact ⟨hkept.state.trans hstate, hkept.joiner.trans hjoin, hkept.warp.trans (hwarp.trans hwarp1)⟩
  · intro cp hst hjoin
    refine doesWithin_run (fun t h => (frame_execTwinCopyVerified h).mono (by decide) (by decide)) ?_
    rw [if_neg (by simp [twinState, hst]), if_pos rfl, if_pos (show s.silent.twin.joiner = true from hjoin)]
    have hwithin : Within ([0x40, 0x41, 0x50, 0x60] ++ loomPages ++ adcPages) [.pwr, .warp, .weave, .loom, .clu, .warden, .cells, .edge] s.silent (joinRun cp s.silent) :=
      within_joinRun (within_refl _ _ _)
    obtain ⟨hshared, hparams, hacc⟩ := joinRun_copied (s := s.silent) (cp := cp)
    have hcanon : Canon (joinRun cp s.silent) := hwithin.wf hs
    generalize joinRun cp s.silent = u at *
    have hcanon1 : Canon (putTwin RING_TWSTAT_XFER 100 u) := canon_stored (canon_stored hcanon)
    have hxfer1 := putTwin_xfer hcanon
    have hweave1 : (putTwin RING_TWSTAT_XFER 100 u).weave = u.weave := rfl
    have hwarp1 : (putTwin RING_TWSTAT_XFER 100 u).warp = u.warp := rfl
    generalize putTwin RING_TWSTAT_XFER 100 u = u1 at *
    obtain ⟨hstate, hxfer, hweave, hwarp, hend⟩ := verified_fields hcanon1
    refine ⟨hstate, hxfer.trans hxfer1, ?_, ?_, ?_, hend.trans (congrArg some (absPick_eq_of_warp_eq hwarp).symm)⟩
    · rw [hweave, hweave1, hshared]
    · rw [hweave, hweave1, hparams]
    · rw [hwarp, hwarp1, hacc]
  · intro cp hst
    refine doesWithin_run (fun t h => (frame_execTwinCopyVerified h).mono (by decide) (by decide)) ?_
    rw [if_neg (by simp [twinState, hst]), if_neg (by decide)]
    exact ⟨setTwin_state hs (by decide), setTwin_weave, setTwin_warp⟩
  · intro hst hpick hsince hyield
    refine doesWithin_run (fun t h => (frame_execTwinProbationEnd h).mono (by decide) (by decide)) ?_
    rw [if_neg (by simp [twinState, hst]; exact ⟨hpick, decide_eq_false (Nat.not_lt.2 hsince)⟩)]
    extract_lets w s1
    have hne : s.get (RING_TWSTAT_STATE 6) ≠ 5 := by rw [hst]; decide
    have hstate : s1.get (RING_TWSTAT_STATE 6) = 5 := setTwin_state hs (by decide)
    have htwin := setTwin_twin (s := { s.silent with twin.yieldAt := none }) hne
    have hpermit : s1.permit = s.permit := setTwin_permit
    have hs1 : s1 = setTwin 5 { s.silent with twin.yieldAt := none } := rfl
    clear_value s1
    rw [← hs1] at htwin
    rw [if_neg (by rw [hpermit, hyield]; decide)]
    exact ⟨hstate, by rw [htwin]; exact Bool.and_true _, by rw [htwin]⟩
  · intro b hst hok0 hok1 hyield hchg hcan hpick hcrc
    have hexec := burst_agrees hst hok0 hpick hcrc hyield hchg
    refine doesWithin_intro hexec ?_ ((frame_execTwinBurst hexec).mono (by decide) (by decide))
    rw [hcan, List.foldl_nil]
    have htaken := burstTaken_fields (s := s.silent) (b := b) hs
    generalize burstTaken b s.silent = u at *
    refine ⟨putTwin_six (f := RING_TWSTAT_DIGOK) htaken.canon (by decide) (by decide), ?_, ?_, ?_, ?_, ?_⟩
    · exact (putTwin_other (f := RING_TWSTAT_DIGOK) htaken.canon (by decide) (by decide) (by decide)).trans (htaken.rx6.trans (by rw [hok0]; rfl))
    · exact (putTwin_other (f := RING_TWSTAT_DIGOK) htaken.canon (by decide) (by decide) (by decide)).trans (htaken.rx7.trans (by rw [hok1]; rfl))
    · exact congrArg TwinSt.lastEnd htaken.twin
    · exact congrArg WeaveSt.partnerArm htaken.weave
    · exact (putTwin_other (f := RING_TWSTAT_DIGOK) htaken.canon (by decide) (by decide) (by decide)).trans (htaken.state.trans hst)
  · intro b x i hst hok0 hyield hchg hcan hpick hcrc hdue harm himg hsince hlt
    have hexec := burst_agrees hst hok0 hpick hcrc hyield hchg
    refine doesWithin_intro hexec ?_ ((frame_execTwinBurst hexec).mono (by decide) (by decide))
    rw [hcan, List.foldl_cons, List.foldl_nil]
    have htaken := burstTaken_fields (s := s.silent) (b := b) hs
    have hcanon : Canon (putTwin RING_TWSTAT_DIGOK 1 (burstTaken b s.silent)) := canon_stored (canon_stored htaken.canon)
    have hweave : (putTwin RING_TWSTAT_DIGOK 1 (burstTaken b s.silent)).weave = { s.weave with partnerArm := b.armed } := htaken.weave
    clear hexec
    generalize putTwin RING_TWSTAT_DIGOK 1 (burstTaken b s.silent) = u at *
    rw [partnerCancel_own (by rw [hweave]; exact hdue) (by rw [hweave]; exact harm) (by rw [hweave]; exact himg) hsince hlt]
    have hcanon' : Canon { u with weave.armed := none } := hcanon
    refine ⟨rfl, ?_, ?_⟩
    · refine (get_put_disjoint (f := WEAVE_STAT_SWPEND) (canon_stored hcanon') (by decide) (by decide) 0).trans ?_
      exact get_put_self (f := WEAVE_SWSTAT_STATE) hcanon' (by decide) 5
    · exact get_put_self (f := WEAVE_STAT_SWPEND) (canon_stored hcanon') (by decide) 0
  · intro b hst hok0 hpick hcrc hrun hfb hpend hload
    have hexec := burst_differs hst hok0 hpick hcrc
    refine doesWithin_intro hexec ?_ ((frame_execTwinBurst hexec).mono (by decide) (by decide))
    have htaken := burstTaken_fields (s := s.silent) (b := b) hs
    clear hexec
    generalize burstTaken b s.silent = u at *
    exact diverge_fields htaken.canon (htaken.run.trans hrun) (htaken.fallback.trans hfb) (by rw [htaken.weave]; exact hpend) (by rw [htaken.weave]; exact hload)
  · intro hst hlast
    refine doesWithin_run (fun t h => (frame_execPartnerLost h).mono (by decide) (by decide)) ?_
    rw [silent_twin, hlast]
    extract_lets st got
    rw [if_neg (by simp [got]), if_neg (by obtain h | h := hst <;> simp [st, twinState, h]), if_pos (by obtain h | h := hst <;> simp [st, twinState, h])]
    exact ⟨setTwin_state hs (by decide), setTwin_weave⟩
  · intro hst hlast hsince henough
    refine doesWithin_run (fun t h => (frame_execPartnerLost h).mono (by decide) (by decide)) ?_
    rw [silent_twin, hlast]
    extract_lets st got
    rw [if_neg (by simp [got]), if_pos (by simp [st, twinState, hst])]
    exact takeover_fields (s := s.silent) hs hsince henough
  · intro hlock hst hshut hlane
    refine doesWithin_run (fun t h => (frame_execJoin h).mono (by decide) (by decide)) ?_
    have hacc : s.get (RING_TWCTL_ACCEPT 6) < 2 ^ 1 := get_lt s (RING_TWCTL_ACCEPT 6)
    rw [twctlWrite_join (s := s.silent) hacc hlock hst hshut hlane]
    have hcanon : Canon { putTwin RING_TWCTL_ACCEPT (s.silent.get (RING_TWCTL_ACCEPT 6)) s.silent with twin.joiner := true } := canon_stored (canon_stored (s := s.silent) hs)
    have haccept := (putTwin_six (f := RING_TWCTL_ACCEPT) (s := s.silent) (v := s.silent.get (RING_TWCTL_ACCEPT 6)) hs (by decide) (by decide)).trans (Nat.mod_eq_of_lt hacc)
    generalize putTwin RING_TWCTL_ACCEPT (s.silent.get (RING_TWCTL_ACCEPT 6)) s.silent = u at *
    exact ⟨setTwin_state hcanon (by decide), setTwin_joiner (s := { u with twin.joiner := true }) (by decide),
      (setTwin_other (f := RING_TWCTL_ACCEPT 6) hcanon (by simp) (by decide)).trans haccept⟩

end Sys2Proof.Machine
end

section
/-! REFUTATIONS. Enumeration: a direction that still sends when a node confirms its configuration. -/

namespace Sys2Proof.Machine

set_option Elab.async false

/-- The warden and a Weave run; direction 0 is configuring the first node that it found, and its state is still that of a direction in use. -/
def configuringInUse : State :=
  let s := ((((State.reset.put WARDEN_STAT_STATE 1).put WEAVE_STAT_RUN 1).put (RING_STAT_STATE 0) 3).put (RING_ENUMSTAT_FOUND 0) 1).put (RING_HOP2_KEYED 0 0) 1
  { s with ring := s.ring.modify 0 fun d => { d with step := 4 } }

/-- Refutes O40: a direction whose state is 3 (in use) queues a management message for a later slot instead of sending it, whatever its step. -/
theorem not_ringEnumeration : ¬ Obligations.RingEnumeration := by
  unfold Obligations.RingEnumeration
  intro h
  obtain ⟨-, -, -, -, -, -, -, hconfigured, -⟩ := h configuringInUse (by decide +kernel)
  obtain ⟨t, hexec, ⟨-, -, -, hout⟩, -⟩ := hconfigured 0 1 0 [⟨0, 1, 0, 0, []⟩] (by decide) (by decide +kernel) (by decide +kernel) (by decide +kernel)
    (by decide) (by decide) (by decide +kernel) (by decide +kernel) (by decide +kernel) (by decide +kernel) (by decide +kernel)
  obtain rfl := Host.Outcome.next.inj hexec
  have hlen := congrArg List.length hout
  exact absurd hlen (by decide +kernel)

end Sys2Proof.Machine
end

section
/-! SUPPORT. The collect burst: what the work on one cell leaves of the lane and of the other cells (R266 to R274). -/

namespace Sys2Proof.Machine

set_option Elab.async false

/-- A work on cell `j` in a burst of lane `l`: of the lane it may only count authentication errors, and it leaves the other cells as they are. -/
structure CellWork (l j : Nat) (s t : State) : Prop where
  canon : Canon s → Canon t
  weave : t.weave = s.weave
  good : (ringDir t l).good = (ringDir s l).good
  regs : ∀ f : Fld, ¬ Loud f.addr → f.addr < 0x100000 → f.addr ≠ (RING_AUTHERR_COUNT l).addr → t.get f = s.get f
  auth : Canon s → s.get (RING_AUTHERR_COUNT l) ≤ t.get (RING_AUTHERR_COUNT l)
  length : t.cells.length = s.cells.length
  others : ∀ g, g ≠ j → cellSt t g = cellSt s g ∧ cellState t g = cellState s g ∧ cellEdge t g = cellEdge s g

section
variable {s t u : State} {l j g k n : Nat}

theorem CellWork.refl (l j : Nat) (s : State) : CellWork l j s s := ⟨id, rfl, rfl, fun _ _ _ _ => rfl, fun _ => le_rfl, rfl, fun _ _ => ⟨rfl, rfl, rfl⟩⟩

theorem CellWork.trans (h : CellWork l j s t) (h' : CellWork l j t u) : CellWork l j s u where
  canon := h'.canon ∘ h.canon
  weave := h'.weave.trans h.weave
  good := h'.good.trans h.good
  regs f hloud hlow hne := (h'.regs f hloud hlow hne).trans (h.regs f hloud hlow hne)
  auth hs := (h.auth hs).trans (h'.auth (h.canon hs))
  length := h'.length.trans h.length
  others g hne :=
    have ⟨hcell, hstate, hedge⟩ := h.others g hne
    have ⟨hcell', hstate', hedge'⟩ := h'.others g hne
    ⟨hcell'.trans hcell, hstate'.trans hstate, hedge'.trans hedge⟩

theorem CellWork.populated (h : CellWork l j s t) : populated t g = populated s g := by
  unfold Machine.populated cellMap convMap
  rw [h.weave]

/-! ### Changes of one cell -/

theorem cellSt_modCell (hlen : g < s.cells.length) (f : CellSt → CellSt) : cellSt (modCell g f s) g = f (cellSt s g) := by
  have hlen' : g < (s.cells.modify g f).length := by rwa [List.length_modify]
  rw [cellSt, cellSt, List.getD_eq_getElem _ _ hlen]
  exact (List.getD_eq_getElem _ _ hlen').trans (List.getElem_modify_eq _ _ _ _)

theorem cellSt_modCell_ne (hne : g ≠ j) (f : CellSt → CellSt) : cellSt (modCell j f s) g = cellSt s g := by
  rw [cellSt, cellSt, List.getD_eq_getElem?_getD, List.getD_eq_getElem?_getD]
  exact congrArg (fun c : Option CellSt => c.getD CellSt.reset) (List.getElem?_modify_ne f _ hne.symm)

theorem cellWork_modCell (f : CellSt → CellSt) (h : CellWork l j s t) : CellWork l j s (modCell j f t) :=
  h.trans ⟨id, rfl, rfl, fun _ _ _ _ => rfl, fun _ => le_rfl, List.length_modify _ _ _, fun _ hne => ⟨cellSt_modCell_ne hne f, rfl, rfl⟩⟩

/-- A register of cell `j`'s page. -/
theorem cellWork_put {f : Fld} (hl : l < 6) (hf : f.addr / 0x1000 = 0x100 + j) {v : Nat} (h : CellWork l j s t) : CellWork l j s (t.put f v) :=
  h.trans ⟨canon_stored, rfl, rfl, fun _ _ hlow _ => get_put_ne t (by omega) v, fun _ => (get_put_ne (g := RING_AUTHERR_COUNT l) t (by dsimp only; omega) v).ge, rfl,
    fun _ hne => ⟨rfl, get_put_ne (g := CELL_STATE_ST _) t (by dsimp only; omega) v, rfl⟩⟩

theorem not_loud_autherr (l : Nat) : ¬ Loud (RING_AUTHERR_COUNT l).addr := by
  rw [loud_iff]
  dsimp only
  omega

theorem not_loud_cellState (g : Nat) : ¬ Loud (CELL_STATE_ST g).addr := by
  rw [loud_iff]
  dsimp only
  omega

@[simp] theorem setEvt_edge {p m : Nat} : (setEvt p m s).edge = s.edge :=
  have h : Within [0x02, 0x09, 0x51, min p 0x100] [.link, .intc] s (setEvt p m s) := within_setEvt (within_refl _ _ _) (by simp) (by simp)
  h.same .edge (by decide)

@[simp] theorem raiseF_edge {a b c : Nat} : (raiseF a b c s).edge = s.edge :=
  have h : Within [0x51] [.link] s (raiseF a b c s) := within_raiseF (within_refl _ _ _)
  h.same .edge (by decide)

theorem cellWork_setEvt {p m : Nat} (h : CellWork l j s t) : CellWork l j s (setEvt p m t) :=
  h.trans
    { canon := fun ht => by simp [ht]
      weave := by simp
      good := by simp [ringDir]
      regs := fun f hloud _ _ => get_setEvt hloud
      auth := fun _ => (get_setEvt (not_loud_autherr l)).ge
      length := by simp
      others := fun g _ => ⟨by simp [cellSt], get_setEvt (not_loud_cellState g), by simp [cellEdge]⟩ }

theorem cellWork_raiseF {a b c : Nat} (h : CellWork l j s t) : CellWork l j s (raiseF a b c t) :=
  h.trans
    { canon := fun ht => by simp [ht]
      weave := by simp
      good := by simp [ringDir]
      regs := fun f hloud _ _ => get_raiseF hloud
      auth := fun _ => (get_raiseF (not_loud_autherr l)).ge
      length := by simp
      others := fun g _ => ⟨by simp [cellSt], get_raiseF (not_loud_cellState g), by simp [cellEdge]⟩ }

theorem cellWork_ite {p : Prop} [Decidable p] (ht : CellWork l j s t) (hu : CellWork l j s u) : CellWork l j s (if p then t else u) := by
  split
  · exact ht
  · exact hu

/-- A change of a direction that keeps its count of good bursts. -/
theorem cellWork_modRing {f : RingDir → RingDir} (hf : ∀ d, (f d).good = d.good) (h : CellWork l j s t) : CellWork l j s (modRing l f t) := by
  refine h.trans ⟨id, rfl, ?_, fun _ _ _ _ => rfl, fun _ => le_rfl, rfl, fun _ _ => ⟨rfl, rfl, rfl⟩⟩
  have hget : (t.ring.modify l f)[l]? = (t.ring[l]?).map f := List.getElem?_modify_eq f l t.ring
  unfold ringDir modRing
  rw [List.getD_eq_getElem?_getD, List.getD_eq_getElem?_getD, hget]
  cases t.ring[l]? with
  | none => rfl
  | some d => exact hf d

theorem cellWork_stopEdges (h : CellWork l j s t) : CellWork l j s (stopEdges j t) := by
  refine h.trans ⟨id, rfl, rfl, fun _ _ _ _ => rfl, fun _ => le_rfl, rfl, fun g hne => ⟨rfl, rfl, ?_⟩⟩
  unfold stopEdges
  rw [cellEdge, cellEdge, List.getD_eq_getElem?_getD, List.getD_eq_getElem?_getD]
  exact congrArg (fun e : Option CellEdge => e.getD CellEdge.reset) (List.getElem?_modify_ne _ _ hne.symm)

theorem cellWork_setCellState (hl : l < 6) (h : CellWork l j s t) : CellWork l j s (setCellState j n t) :=
  cellWork_ite h (cellWork_setEvt (cellWork_put hl (by dsimp only; omega) h))

theorem cellWork_latchFault (hl : l < 6) (h : CellWork l j s t) : CellWork l j s (latchFault j n t) := by
  unfold latchFault
  extract_lets s1
  have h1 : CellWork l j s s1 := cellWork_ite (cellWork_put hl (by dsimp only; omega) (cellWork_put hl (by dsimp only; omega) h)) h
  clear_value s1
  exact cellWork_setEvt (cellWork_put hl (by dsimp only; omega) (cellWork_put hl (by dsimp only; omega) h1))

theorem cellWork_bypassCommand (h : CellWork l j s t) : CellWork l j s (bypassCommand j n t) := cellWork_modCell _ h

theorem cellWork_cellFault (hl : l < 6) (h : CellWork l j s t) : CellWork l j s (cellFault j n t) := by
  unfold cellFault
  extract_lets st s1 s2
  have h1 : CellWork l j s s1 := cellWork_latchFault hl h
  have h2 : CellWork l j s s2 := cellWork_stopEdges (cellWork_latchFault hl h)
  clear_value s1 s2
  exact cellWork_ite (cellWork_ite (cellWork_setCellState hl h1) h1)
    (cellWork_ite (cellWork_setCellState hl (cellWork_ite h2 (cellWork_bypassCommand h2))) h)

theorem cellWork_nodeLost (hl : l < 6) {lane : Nat} (h : CellWork l j s t) : CellWork l j s (nodeLost j lane t) := by
  unfold nodeLost
  extract_lets s1 s2 st
  have h2 : CellWork l j s s2 := cellWork_raiseF (cellWork_setEvt (cellWork_modCell _ h))
  clear_value s2
  exact cellWork_ite h (cellWork_ite (cellWork_latchFault hl h2) (cellWork_cellFault hl h2))

/-! ### A cell's segment -/

theorem cellWork_reduceSegment {v : Uplink} (hv : v.cell = j) (h : CellWork l j s t) : CellWork l j s (reduceSegment l k v t) := by
  unfold reduceSegment
  extract_lets g c es thr
  have hleak : CellWork l j s (leakWord v t).2 := by
    unfold leakWord
    extract_lets x
    split
    · exact h
    · exact h.trans ⟨id, rfl, rfl, fun _ _ _ _ => rfl, fun _ => le_rfl, rfl, fun _ _ => ⟨rfl, rfl, rfl⟩⟩
  subst hv
  exact cellWork_modCell _ hleak

/-- An authentication error is counted, once. -/
theorem cellWork_authError (h : CellWork l j s t) : CellWork l j s (authError l j t) := by
  unfold authError
  extract_lets s1
  have hcount : CellWork l j (modCell j (fun c => { c with authBad := true }) t) ((modCell j (fun c => { c with authBad := true }) t).count (RING_AUTHERR_COUNT l)) :=
    ⟨canon_stored, rfl, rfl, fun f _ _ hne => get_put_ne _ hne _, fun hs => by
      rw [get_count_self hs (by dsimp only; decide)]
      have hlt := get_lt (modCell j (fun c => { c with authBad := true }) t) (RING_AUTHERR_COUNT l)
      dsimp only at hlt ⊢
      omega, rfl,
      fun g _ => ⟨rfl, get_put_ne (g := CELL_STATE_ST g) _ (by dsimp only; omega) _, rfl⟩⟩
  have h1 : CellWork l j s s1 := cellWork_setEvt ((cellWork_modCell _ h).trans hcount)
  clear_value s1
  exact cellWork_ite h1 (cellWork_raiseF (cellWork_modRing (fun _ => rfl) h1))

theorem uplinkOf_cell {lc : Nat} {bs : List Byte} : (uplinkOf g lc bs).cell = g := rfl

theorem openSeg_cell {lc : Nat} {bs : List Byte} {v : Uplink} (h : openSeg s l g k lc bs = some v) : v.cell = g := by
  unfold openSeg at h
  extract_lets key at h
  split at h
  · exact absurd h (by simp)
  · obtain ⟨pt, -, rfl⟩ := Option.map_eq_some_iff.1 h
    rfl

theorem cellWork_takeSegment {r : Returned} (h : CellWork l j s t) : CellWork l j s (takeSegment l k j r t).1 := by
  unfold takeSegment
  split
  · exact h
  · exact cellWork_modCell _ h
  · split
    · exact cellWork_reduceSegment (openSeg_cell ‹_›) h
    · exact cellWork_authError h

theorem cellWork_countGood {ok : Bool} (h : CellWork l j s t) : CellWork l j s (countGood l j ok t) := cellWork_ite (cellWork_modCell _ h) h

theorem cellWork_collectCell (hl : l < 6) {b : CollectBurst} {r : Returned} (t : State) : CellWork l j t (collectCell l j b r t) := by
  unfold collectCell
  have h : CellWork l j t t := .refl l j t
  refine cellWork_ite h ?_
  split
  rename_i s1 auth heq
  extract_lets ok s2
  have h1 : CellWork l j t s1 := by
    have hseg := cellWork_takeSegment (k := b.pick) (r := r) h
    rwa [heq] at hseg
  have h2 : CellWork l j t s2 := cellWork_modCell _ (cellWork_countGood h1)
  clear_value s2
  exact cellWork_ite (cellWork_nodeLost hl h2) h2

theorem cellWork_collectOther {b : CollectBurst} (t : State) : CellWork l j t (collectOther l j b t) :=
  cellWork_ite (.refl l j t) (cellWork_countGood (.refl l j t))

/-! ### What the work on a cell makes of its segment -/

/-- The reductions of cell `g`, whether its segment was authentic, and its last samples are those of `s`. -/
structure SameSegment (g : Nat) (s t : State) : Prop where
  red : (cellSt t g).red = (cellSt s g).red
  authBad : (cellSt t g).authBad = (cellSt s g).authBad
  last63 : (cellSt t g).last63 = (cellSt s g).last63

theorem SameSegment.trans (h : SameSegment g s t) (h' : SameSegment g t u) : SameSegment g s u :=
  ⟨h'.red.trans h.red, h'.authBad.trans h.authBad, h'.last63.trans h.last63⟩

theorem sameSegment_of_cells (hcells : u.cells = t.cells) (h : SameSegment g s t) : SameSegment g s u := by
  have hcell : cellSt u g = cellSt t g := by rw [cellSt, cellSt, hcells]
  exact h.trans ⟨by rw [hcell], by rw [hcell], by rw [hcell]⟩

theorem sameSegment_modCell {f : CellSt → CellSt} (hf : ∀ c, (f c).red = c.red ∧ (f c).authBad = c.authBad ∧ (f c).last63 = c.last63)
    (h : SameSegment g s t) : SameSegment g s (modCell g f t) := by
  by_cases hlen : g < t.cells.length
  · obtain ⟨hred, hauth, hlast⟩ := hf (cellSt t g)
    have hcell := cellSt_modCell hlen f
    exact h.trans ⟨by rw [hcell, hred], by rw [hcell, hauth], by rw [hcell, hlast]⟩
  · exact sameSegment_of_cells (List.modify_eq_self (Nat.le_of_not_lt hlen)) h

theorem sameSegment_ite {p : Prop} [Decidable p] (ht : SameSegment g s t) (hu : SameSegment g s u) : SameSegment g s (if p then t else u) := by
  split
  · exact ht
  · exact hu

theorem setCellState_cells : (setCellState j n t).cells = t.cells := by
  unfold setCellState
  split
  · rfl
  · rw [setEvt_cells]
    rfl

theorem latchFault_cells : (latchFault j n t).cells = t.cells :=
  (within_latchFault (G := [0x02, 0x09, 0x51, 0x100]) (Q := [.link, .intc]) (within_refl _ _ _)).same .cells (by decide)

theorem sameSegment_nodeLost (h : SameSegment g s t) : SameSegment g s (nodeLost g l t) := by
  unfold nodeLost
  extract_lets s1 s2 st
  have h1 : SameSegment g s s1 := sameSegment_modCell (fun _ => ⟨rfl, rfl, rfl⟩) h
  have h2 : SameSegment g s s2 := sameSegment_of_cells (by simp [s2]) h1
  clear_value s2
  refine sameSegment_ite h (sameSegment_ite (sameSegment_of_cells latchFault_cells h2) ?_)
  unfold cellFault
  extract_lets s3 s4
  have h3 : SameSegment g s s3 := sameSegment_of_cells latchFault_cells h2
  have h4 : SameSegment g s s4 := sameSegment_of_cells (t := s3) rfl h3
  clear_value s3 s4
  rw [if_pos rfl]
  exact sameSegment_ite (sameSegment_ite (sameSegment_of_cells setCellState_cells h3) h3) (sameSegment_ite (sameSegment_of_cells setCellState_cells h4) h2)

/-- The work on an active cell takes its segment; the counts that follow leave it. -/
theorem collectCell_segment {b : CollectBurst} {r : Returned} (hpop : populated t g = true) (hst : cellState t g ≠ 1) :
    SameSegment g (takeSegment l b.pick g r t).1 (collectCell l g b r t) := by
  unfold collectCell
  rw [if_neg (by simp [hpop, hst])]
  split
  rename_i s1 auth heq
  rw [heq]
  extract_lets ok s2
  have h : SameSegment g s1 s1 := ⟨rfl, rfl, rfl⟩
  have h2 : SameSegment g s1 s2 := sameSegment_modCell (fun _ => ⟨rfl, rfl, rfl⟩) (sameSegment_ite (sameSegment_modCell (fun _ => ⟨rfl, rfl, rfl⟩) h) h)
  clear_value s2
  exact sameSegment_ite (sameSegment_nodeLost h2) h2

/-! ### The burst as a whole -/

/-- Cell `g` and the image are those of `s`; authentication errors may have been counted. -/
structure CellLeft (l g : Nat) (s t : State) : Prop where
  canon : Canon s → Canon t
  weave : t.weave = s.weave
  auth : Canon s → s.get (RING_AUTHERR_COUNT l) ≤ t.get (RING_AUTHERR_COUNT l)
  length : t.cells.length = s.cells.length
  cell : cellSt t g = cellSt s g
  state : cellState t g = cellState s g
  edge : cellEdge t g = cellEdge s g

theorem CellLeft.refl (l g : Nat) (s : State) : CellLeft l g s s := ⟨id, rfl, fun _ => le_rfl, rfl, rfl, rfl, rfl⟩

theorem CellLeft.trans (h : CellLeft l g s t) (h' : CellLeft l g t u) : CellLeft l g s u :=
  ⟨h'.canon ∘ h.canon, h'.weave.trans h.weave, fun hs => (h.auth hs).trans (h'.auth (h.canon hs)), h'.length.trans h.length, h'.cell.trans h.cell,
    h'.state.trans h.state, h'.edge.trans h.edge⟩

theorem CellWork.left (h : CellWork l j s t) (hne : g ≠ j) : CellLeft l g s t :=
  have ⟨hcell, hstate, hedge⟩ := h.others g hne
  ⟨h.canon, h.weave, h.auth, h.length, hcell, hstate, hedge⟩

theorem nodup_maskCells (l mask : Nat) : (maskCells l mask).Nodup :=
  (List.nodup_range.map fun _ _ h => Nat.add_left_cancel h).filter _

/-- Of all works of a burst only that on cell `g` touches it. -/
theorem collectCells_one {b : CollectBurst} {i : Nat} (hl : l < 6) (hi : (maskCells l (maskAt s l b.pick))[i]? = some g) :
    ∃ u, CellLeft l g s u ∧ CellLeft l g (collectCell l g b (b.segs.getD i .none) u) (collectCells l b s) := by
  unfold collectCells
  extract_lets own s1
  have hi : own[i]? = some g := hi
  have hnd : own.Nodup := nodup_maskCells l _
  clear_value own
  have hmem : (g, i) ∈ own.zipIdx := List.mk_mem_zipIdx_iff_getElem?.2 hi
  obtain ⟨a, c, hsplit⟩ := List.append_of_mem hmem
  have hfst : a.map Prod.fst ++ g :: c.map Prod.fst = own := by
    rw [← List.zipIdx_map_fst 0 own, hsplit, List.map_append, List.map_cons]
  rw [← hfst] at hnd
  obtain ⟨-, hc, hdis⟩ := List.nodup_append.1 hnd
  have hane (p : Nat × Nat) (hp : p ∈ a) : g ≠ p.1 := (hdis p.1 (List.mem_map_of_mem hp) g List.mem_cons_self).symm
  have hcne (p : Nat × Nat) (hp : p ∈ c) : g ≠ p.1 := fun h => (List.nodup_cons.1 hc).1 (h ▸ List.mem_map_of_mem hp)
  have hstep (v : State) (p : Nat × Nat) (hne : g ≠ p.1) : CellLeft l g v (collectCell l p.1 b (b.segs.getD p.2 .none) v) := (cellWork_collectCell hl v).left hne
  refine ⟨a.foldl (fun s p => collectCell l p.1 b (b.segs.getD p.2 .none) s) s, ?_, ?_⟩
  · exact List.foldlRecOn (motive := fun v => CellLeft l g s v) a _ (.refl l g s) fun v hv p hp => hv.trans (hstep v p (hane p hp))
  · have h1 : CellLeft l g (collectCell l g b (b.segs.getD i .none) (a.foldl (fun s p => collectCell l p.1 b (b.segs.getD p.2 .none) s) s)) s1 := by
      simp only [s1, hsplit, List.foldl_append, List.foldl_cons]
      exact List.foldlRecOn (motive := fun v => CellLeft l g _ v) c _ (.refl l g _) fun v hv p hp => hv.trans (hstep v p (hcne p hp))
    clear_value s1
    refine List.foldlRecOn (motive := fun v => CellLeft l g _ v) _ (fun s j => collectOther l j b s) h1 fun v hv j hj => hv.trans ((cellWork_collectOther v).left fun h => ?_)
    have hg : g ∈ own := by
      rw [← hfst]
      simp
    subst h
    have hout : g ∉ own := by simpa using (List.mem_filter.1 hj).2
    exact hout hg

/-- What a burst leaves of its lane. -/
structure LaneLeft (l : Nat) (s t : State) : Prop where
  good : (ringDir t l).good = (ringDir s l).good
  regs : ∀ f : Fld, ¬ Loud f.addr → f.addr < 0x100000 → f.addr ≠ (RING_AUTHERR_COUNT l).addr → t.get f = s.get f

theorem collectCells_lane {b : CollectBurst} (hl : l < 6) : LaneLeft l s (collectCells l b s) := by
  have hstep {v w : State} {j : Nat} (h : LaneLeft l s v) (k : CellWork l j v w) : LaneLeft l s w :=
    ⟨k.good.trans h.good, fun f hloud hlow hne => (k.regs f hloud hlow hne).trans (h.regs f hloud hlow hne)⟩
  unfold collectCells
  extract_lets own s1
  have h1 : LaneLeft l s s1 :=
    List.foldlRecOn (motive := fun v => LaneLeft l s v) _ _ ⟨rfl, fun _ _ _ _ => rfl⟩ fun v hv p _ => hstep hv (cellWork_collectCell hl v)
  clear_value s1
  exact List.foldlRecOn (motive := fun v => LaneLeft l s v) _ (fun s j => collectOther l j b s) h1 fun v hv j _ => hstep hv (cellWork_collectOther v)

end

end Sys2Proof.Machine
end

section
/-! PROOFS. The collect burst's return (R255 to R274). -/

namespace Sys2Proof.Machine

set_option Elab.async false

section
variable {s t : State} {l g k : Nat}

/-! ### What is counted of a burst before its segments -/

theorem putHopPresence_other {f : Fld} {n pres : Nat} (hf : f.addr < 0x58400 + 0x1000 * l ∨ 0x59000 + 0x1000 * l ≤ f.addr) (hn : n < 2 ^ 7) :
    ((List.range n).foldl (fun s i => s.putB (RING_HOP2_PRES l i) (pres.testBit i)) s).get f = s.get f :=
  List.foldlRecOn (motive := fun t : State => t.get f = s.get f) _ (fun s i => s.putB (RING_HOP2_PRES l i) (pres.testBit i)) rfl fun t ht i hi =>
    (get_put_ne (f := RING_HOP2_PRES l i) t (by have := List.mem_range.1 hi; dsimp only; omega) _).trans ht

theorem putPresence_other {f : Fld} {pres : Nat} (hs : Canon s) (hf : f.addr < 0x58400 + 0x1000 * l ∨ 0x59000 + 0x1000 * l ≤ f.addr)
    (hne : f.addr ≠ 0x5804C + 0x1000 * l ∧ f.addr ≠ 0x58050 + 0x1000 * l) (hstat : f.addr ≠ 0x58040 + 0x1000 * l ∨ f.lo + f.wd ≤ 16) :
    (putPresence l pres s).get f = s.get f := by
  unfold putPresence
  extract_lets s1
  have h1 : s1.get f = s.get f :=
    (get_put_disjoint (f := RING_STAT_PRESENT l) (canon_stored (canon_stored hs)) (by dsimp only; decide) (by dsimp only; omega) _).trans
      ((get_put_ne (f := RING_PRES_HI_PRES l) _ hne.2 _).trans (get_put_ne (f := RING_PRES_LO_PRES l) _ hne.1 _))
  clear_value s1
  exact (putHopPresence_other hf (get_lt s (RING_ENUMSTAT_FOUND l))).trans h1

theorem putPresence_low {pres : Nat} (hs : Canon s) : (putPresence l pres s).get (RING_PRES_LO_PRES l) = pres % 2 ^ 32 := by
  unfold putPresence
  extract_lets s1
  have h1 : s1.get (RING_PRES_LO_PRES l) = pres % 2 ^ 32 := by
    refine (get_put_ne (f := RING_STAT_PRESENT l) _ (by dsimp only; omega) _).trans ((get_put_ne (f := RING_PRES_HI_PRES l) _ (by dsimp only; omega) _).trans ?_)
    exact (get_put_self (f := RING_PRES_LO_PRES l) hs (by dsimp only; decide) _).trans (Nat.mod_mod _ _)
  clear_value s1
  exact (putHopPresence_other (.inl (by dsimp only; omega)) (get_lt s (RING_ENUMSTAT_FOUND l))).trans h1

theorem putPresence_high {pres : Nat} (hs : Canon s) (hpres : pres < 2 ^ 64) : (putPresence l pres s).get (RING_PRES_HI_PRES l) = pres / 2 ^ 32 := by
  unfold putPresence
  extract_lets s1
  have h1 : s1.get (RING_PRES_HI_PRES l) = pres / 2 ^ 32 := by
    refine (get_put_ne (f := RING_STAT_PRESENT l) _ (by dsimp only; omega) _).trans ?_
    exact (get_put_self (f := RING_PRES_HI_PRES l) (canon_stored hs) (by dsimp only; decide) _).trans (Nat.mod_eq_of_lt (by dsimp only; omega))
  clear_value s1
  exact (putHopPresence_other (.inl (by dsimp only; omega)) (get_lt s (RING_ENUMSTAT_FOUND l))).trans h1

theorem canon_putPresence {pres : Nat} (hs : Canon s) (hl : l < 8) : Canon (putPresence l pres s) :=
  (within_putPresence (G := ringPages) (Q := []) (within_refl _ _ _)).wf hs

theorem countFec_fields {cor unc : Nat} (hs : Canon s) :
    (countFec l cor unc s).get (RING_FECCOR_COUNT l) = min (s.get (RING_FECCOR_COUNT l) + cor) (2 ^ 32 - 1) ∧
      (countFec l cor unc s).get (RING_FECUNC_COUNT l) = min (s.get (RING_FECUNC_COUNT l) + unc) (2 ^ 32 - 1) := by
  unfold countFec
  have hsat {f : Fld} {t : State} {n : Nat} (ht : Canon t) (hlo : f.lo + f.wd ≤ 32) (hwd : f.wd = 32) : (t.addSat f n).get f = min (t.get f + n) (2 ^ 32 - 1) := by
    unfold State.addSat
    rw [get_put_self ht hlo, hwd]
    exact Nat.mod_eq_of_lt (by omega)
  refine ⟨?_, ?_⟩
  · exact (get_put_ne (f := RING_FECUNC_COUNT l) _ (by dsimp only; omega) _).trans (hsat hs (by dsimp only; decide) rfl)
  · refine (hsat (f := RING_FECUNC_COUNT l) (t := s.addSat (RING_FECCOR_COUNT l) cor) (canon_stored hs) (by dsimp only; decide) rfl).trans ?_
    exact congrArg (fun x => min (x + unc) (2 ^ 32 - 1)) (get_put_ne (f := RING_FECCOR_COUNT l) s (by dsimp only; omega) _)

theorem countFec_other {f : Fld} {cor unc : Nat} (hne : f.addr ≠ 0x58054 + 0x1000 * l ∧ f.addr ≠ 0x58058 + 0x1000 * l) :
    (countFec l cor unc s).get f = s.get f :=
  (get_put_ne (f := RING_FECUNC_COUNT l) _ hne.2 _).trans (get_put_ne (f := RING_FECCOR_COUNT l) _ hne.1 _)

/-- A direction with one more good burst in a row, or none. -/
def markGood (ok : Bool) (d : RingDir) : RingDir := { d with good := if ok then d.good + 1 else 0 }

/-- The block as a burst has been counted, before its segments are taken. -/
def burstCounted (l : Nat) (b : CollectBurst) (s : State) : State :=
  modRing l (markGood (b.endOk && s.flag (RING_STAT_LOCK l)))
    (putPresence l b.pres ((countFec l b.cor b.unc s).putB (RING_STAT_RXOK l) b.endOk))

/-- What counting a burst makes of the block. -/
structure Counted (l : Nat) (b : CollectBurst) (s t : State) : Prop where
  canon : Canon t
  weave : t.weave = s.weave
  cells : t.cells = s.cells
  edge : t.edge = s.edge
  dir : l < s.ring.length → ringDir t l = markGood (b.endOk && s.flag (RING_STAT_LOCK l)) (ringDir s l)
  rx : t.get (RING_STAT_RXOK l) = bit b.endOk
  low : t.get (RING_PRES_LO_PRES l) = b.pres % 2 ^ 32
  high : b.pres < 2 ^ 64 → t.get (RING_PRES_HI_PRES l) = b.pres / 2 ^ 32
  cor : t.get (RING_FECCOR_COUNT l) = min (s.get (RING_FECCOR_COUNT l) + b.cor) (2 ^ 32 - 1)
  unc : t.get (RING_FECUNC_COUNT l) = min (s.get (RING_FECUNC_COUNT l) + b.unc) (2 ^ 32 - 1)
  auth : t.get (RING_AUTHERR_COUNT l) = s.get (RING_AUTHERR_COUNT l)
  state : ∀ g, cellState t g = cellState s g
  mask : maskAt t l b.pick = maskAt s l b.pick

theorem ringDir_modRing (hlen : l < s.ring.length) (f : RingDir → RingDir) : ringDir (modRing l f s) l = f (ringDir s l) := by
  have hlen' : l < (s.ring.modify l f).length := by rwa [List.length_modify]
  rw [ringDir, ringDir, List.getD_eq_getElem _ _ hlen]
  exact (List.getD_eq_getElem _ _ hlen').trans (List.getElem_modify_eq _ _ _ _)

/-- What a change of a direction keeps of it, whether or not there is such a direction. -/
theorem ringDir_modRing_kept {α : Type} (f : RingDir → RingDir) (p : RingDir → α) (hf : ∀ d, p (f d) = p d) :
    p (ringDir (modRing l f s) l) = p (ringDir s l) := by
  have hget : (s.ring.modify l f)[l]? = (s.ring[l]?).map f := List.getElem?_modify_eq f l s.ring
  unfold ringDir modRing
  rw [List.getD_eq_getElem?_getD, List.getD_eq_getElem?_getD, hget]
  cases s.ring[l]? with
  | none => rfl
  | some d => exact hf d

theorem ownMask_eq (h : t.get (RING_OWN_LO_OWN l) = s.get (RING_OWN_LO_OWN l) ∧ t.get (RING_OWN_HI_OWN l) = s.get (RING_OWN_HI_OWN l)) :
    ownMask t l = ownMask s l := by
  have hword (u : State) (a : Nat) : bitsAt (u.raw a).toNat 0 32 = (u.raw a).toNat := Nat.mod_eq_of_lt (u.raw a).isLt
  obtain ⟨hlo, hhi⟩ := h
  unfold State.get at hlo hhi
  dsimp only at hlo hhi
  rw [hword, hword] at hlo hhi
  unfold ownMask
  dsimp only
  rw [hlo, hhi]

theorem burstCounted_fields {b : CollectBurst} (hs : Canon s) (hl : l < 6) : Counted l b s (burstCounted l b s) := by
  unfold burstCounted
  have hcanon0 : Canon (countFec l b.cor b.unc s) := canon_stored (canon_stored hs)
  have hcanon1 : Canon ((countFec l b.cor b.unc s).putB (RING_STAT_RXOK l) b.endOk) := canon_stored hcanon0
  have hcanon2 : Canon (putPresence l b.pres ((countFec l b.cor b.unc s).putB (RING_STAT_RXOK l) b.endOk)) := canon_putPresence hcanon1 (by omega)
  have hwithin : Within ringPages [] s (putPresence l b.pres ((countFec l b.cor b.unc s).putB (RING_STAT_RXOK l) b.endOk)) :=
    within_putPresence (within_putB (within_countFec (within_refl _ _ _)))
  have hlow := putPresence_low (l := l) (pres := b.pres) hcanon1
  have hhigh := putPresence_high (l := l) (pres := b.pres) hcanon1
  have hother {f : Fld} (h1 : f.addr < 0x58400 + 0x1000 * l) (h2 : f.addr ≠ 0x5804C + 0x1000 * l ∧ f.addr ≠ 0x58050 + 0x1000 * l ∧ f.addr ≠ 0x58040 + 0x1000 * l) :
      (putPresence l b.pres ((countFec l b.cor b.unc s).putB (RING_STAT_RXOK l) b.endOk)).get f = (countFec l b.cor b.unc s).get f :=
    (putPresence_other hcanon1 (.inl h1) (by omega) (by omega)).trans (get_put_ne (f := RING_STAT_RXOK l) _ (by dsimp only; omega) _)
  obtain ⟨hcor, hunc⟩ := countFec_fields (l := l) (cor := b.cor) (unc := b.unc) hs
  have hrx : (putPresence l b.pres ((countFec l b.cor b.unc s).putB (RING_STAT_RXOK l) b.endOk)).get (RING_STAT_RXOK l) = bit b.endOk :=
    (putPresence_other hcanon1 (.inl (by dsimp only; omega)) (by dsimp only; omega) (by dsimp only; omega)).trans
      (get_putB_self hcanon0 (by dsimp only; decide) rfl)
  have hcor2 := (hother (f := RING_FECCOR_COUNT l) (by dsimp only; omega) (by dsimp only; omega)).trans hcor
  have hunc2 := (hother (f := RING_FECUNC_COUNT l) (by dsimp only; omega) (by dsimp only; omega)).trans hunc
  have hkept {f : Fld} (h1 : f.addr < 0x58400 + 0x1000 * l) (h2 : f.addr ≠ 0x5804C + 0x1000 * l ∧ f.addr ≠ 0x58050 + 0x1000 * l ∧ f.addr ≠ 0x58040 + 0x1000 * l)
      (h3 : f.addr ≠ 0x58054 + 0x1000 * l ∧ f.addr ≠ 0x58058 + 0x1000 * l) := (hother h1 h2).trans (countFec_other (cor := b.cor) (unc := b.unc) (s := s) h3)
  have hauth2 := hkept (f := RING_AUTHERR_COUNT l) (by dsimp only; omega) (by dsimp only; omega) (by dsimp only; omega)
  have hlo2 := hkept (f := RING_OWN_LO_OWN l) (by dsimp only; omega) (by dsimp only; omega) (by dsimp only; omega)
  have hhi2 := hkept (f := RING_OWN_HI_OWN l) (by dsimp only; omega) (by dsimp only; omega) (by dsimp only; omega)
  generalize putPresence l b.pres ((countFec l b.cor b.unc s).putB (RING_STAT_RXOK l) b.endOk) = u at *
  have hring : u.ring = s.ring := hwithin.same .ring (by decide)
  refine
    { canon := hcanon2, weave := hwithin.same .weave (by decide), cells := hwithin.same .cells (by decide), edge := hwithin.same .edge (by decide),
      dir := fun hlen => ?_, rx := hrx, low := hlow, high := hhigh, cor := hcor2, unc := hunc2, auth := hauth2, state := fun g => ?_, mask := ?_ }
  · rw [ringDir_modRing (by rwa [hring]), show ringDir u l = ringDir s l from congrArg (fun r : List RingDir => r.getD l RingDir.reset) hring]
  · refine hwithin.get (f := CELL_STATE_ST g) ?_
    simp only [pageOf, ringPages, List.mem_cons, List.not_mem_nil, or_false]
    omega
  · have habs : absPick (modRing l (markGood (b.endOk && s.flag (RING_STAT_LOCK l))) u) = absPick s :=
      absPick_eq_of_warp_eq (hwithin.same .warp (by decide))
    have hdir : ringDir u l = ringDir s l := congrArg (fun r : List RingDir => r.getD l RingDir.reset) hring
    unfold maskAt
    rw [habs, ringDir_modRing_kept (markGood _) RingDir.own1 fun _ => rfl, ringDir_modRing_kept (markGood _) RingDir.own2 fun _ => rfl, hdir]
    rw [show ownMask (modRing l (markGood (b.endOk && s.flag (RING_STAT_LOCK l))) u) l = ownMask s l from
      ownMask_eq ⟨hlo2, hhi2⟩]

/-- A burst that does not end the enumeration is counted, and its segments are taken. -/
theorem collectReturn_eq {b : CollectBurst} (hstep : (ringDir s l).step ≠ 6) (hl : l < 6) : collectReturn l b s = collectCells l b (burstCounted l b s) := by
  have hring : (putPresence l b.pres ((countFec l b.cor b.unc s).putB (RING_STAT_RXOK l) b.endOk)).ring = s.ring := by
    have hwithin : Within ringPages [] s (putPresence l b.pres ((countFec l b.cor b.unc s).putB (RING_STAT_RXOK l) b.endOk)) :=
      within_putPresence (within_putB (within_countFec (within_refl _ _ _)))
    exact hwithin.same .ring (by decide)
  have hcounted : (ringDir (burstCounted l b s) l).step = (ringDir s l).step :=
    (ringDir_modRing_kept (markGood _) RingDir.step fun _ => rfl).trans (congrArg (fun r : List RingDir => (r.getD l RingDir.reset).step) hring)
  refine congrArg (collectCells l b) (if_neg ?_)
  change ¬(decide ((ringDir (burstCounted l b s) l).step = 6) && b.endOk && wardenRuns (burstCounted l b s)) = true
  rw [hcounted]
  simp [hstep]

theorem burst_exec {b : CollectBurst} (hl : l < 6) (hlate : blockLate l b s = false) (hstep : (ringDir s l).step ≠ 6) :
    execCollectBurstReturn l b s = .next (collectCells l b (burstCounted l b s.silent)) := by
  unfold execCollectBurstReturn
  rw [run_eq, if_neg (Nat.not_le.2 hl), if_neg (by rw [show blockLate l b s.silent = false from hlate]; decide)]
  exact congrArg Host.Outcome.next (collectReturn_eq (s := s.silent) hstep hl)

/-! ### The segment of one cell -/

theorem takeBlock_own {lc : Nat} {ws : List Word} (hlen : g < s.cells.length) :
    (cellSt (takeBlock k g lc ws s) g).red.head? = some ⟨k, lc, ws⟩ ∧ (cellSt (takeBlock k g lc ws s) g).authBad = false := by
  unfold takeBlock
  rw [cellSt_modCell hlen]
  exact ⟨rfl, rfl⟩

theorem leakWord_in_range {u : Uplink} (hlow : -(2 ^ 31 : Int) ≤ (sumSlots u 0 + sumSlots u 1) * 2 ^ 14) (hhigh : (sumSlots u 0 + sumSlots u 1) * 2 ^ 14 < (2 ^ 31 : Int)) :
    leakWord u s = (BitVec.ofInt 32 ((sumSlots u 0 + sumSlots u 1) * 2 ^ 14), s) :=
  if_pos (by simp only [Bool.and_eq_true, decide_eq_true_eq]; exact ⟨hlow, hhigh⟩)

theorem reduceSegment_own {u : Uplink} (hu : u.cell = g) (hlen : g < s.cells.length) (hlow : -(2 ^ 31 : Int) ≤ (sumSlots u 0 + sumSlots u 1) * 2 ^ 14)
    (hhigh : (sumSlots u 0 + sumSlots u 1) * 2 ^ 14 < (2 ^ 31 : Int)) :
    (cellSt (reduceSegment l k u s) g).red.head? = some ⟨k, u.lc, reduceWords u k (l % 2) (((cellEdge s g).formed.lookup k).getD []) (cellSt s g).last63
      (((convMap s).map (·.arcThr)).getD 0) (BitVec.ofInt 32 ((sumSlots u 0 + sumSlots u 1) * 2 ^ 14))⟩ ∧
      (cellSt (reduceSegment l k u s) g).authBad = false ∧ (cellSt (reduceSegment l k u s) g).last63 = (slotOf u 0 63, slotOf u 1 63) := by
  subst hu
  unfold reduceSegment
  rw [leakWord_in_range hlow hhigh]
  dsimp only
  rw [cellSt_modCell hlen]
  exact ⟨rfl, rfl, rfl⟩

theorem openSeg_lc {lc : Nat} {bs : List Byte} {v : Uplink} (h : openSeg s l g k lc bs = some v) : v.lc = lc := by
  unfold openSeg at h
  extract_lets key at h
  split at h
  · exact absurd h (by simp)
  · obtain ⟨pt, -, rfl⟩ := Option.map_eq_some_iff.1 h
    rfl

theorem authError_own (hs : Canon s) (hlen : g < s.cells.length) :
    (cellSt (authError l g s) g).authBad = true ∧ (cellSt (authError l g s) g).red = (cellSt s g).red ∧
      (authError l g s).get (RING_AUTHERR_COUNT l) = min (s.get (RING_AUTHERR_COUNT l) + 1) (2 ^ 32 - 1) := by
  unfold authError
  extract_lets s1
  have hcell : cellSt s1 g = { cellSt s g with authBad := true } := by
    rw [show cellSt s1 g = cellSt (modCell g (fun c => { c with authBad := true }) s) g from congrArg (fun c : List CellSt => c.getD g CellSt.reset) setEvt_cells]
    exact cellSt_modCell hlen _
  have hcount : s1.get (RING_AUTHERR_COUNT l) = min (s.get (RING_AUTHERR_COUNT l) + 1) (2 ^ 32 - 1) :=
    (get_setEvt (not_loud_autherr l)).trans (get_count_self (s := modCell g (fun c => { c with authBad := true }) s) hs (by dsimp only; decide))
  clear_value s1
  split
  · exact ⟨by rw [hcell], by rw [hcell], hcount⟩
  · have hcell' : cellSt (raiseF (48 + l) 6 g (modRing l (fun d => { d with authCycle := some (cycleOf s1) }) s1)) g = cellSt s1 g :=
      congrArg (fun c : List CellSt => c.getD g CellSt.reset) raiseF_cells
    exact ⟨by rw [hcell', hcell], by rw [hcell', hcell], (get_raiseF (not_loud_autherr l)).trans hcount⟩

/-- What follows the taking of a segment is a work on its cell. -/
theorem cellWork_afterSegment {b : CollectBurst} {r : Returned} (hl : l < 6) (hpop : populated t g = true) (hst : cellState t g ≠ 1) :
    CellWork l g (takeSegment l b.pick g r t).1 (collectCell l g b r t) := by
  unfold collectCell
  rw [if_neg (by simp [hpop, hst])]
  split
  rename_i s1 auth heq
  rw [heq]
  extract_lets ok s2
  have h2 : CellWork l g s1 s2 := cellWork_modCell _ (cellWork_countGood (.refl l g s1))
  clear_value s2
  exact cellWork_ite (cellWork_nodeLost hl h2) h2

/-- The segment that a burst brings of a cell: the work on it finds the cell as it was, and what it makes of it stays. -/
theorem burst_cell {b : CollectBurst} {i : Nat} {r : Returned} (hs : Canon s) (hl : l < 6) (hlen : g < s.cells.length) (hpop : populated s g = true)
    (hst : cellState s g ≠ 1) (hi : (maskCells l (maskAt s l b.pick))[i]? = some g) (hseg : b.segs[i]? = some r) :
    ∃ u, Canon u ∧ g < u.cells.length ∧ cellSt u g = cellSt s g ∧ cellEdge u g = cellEdge s g ∧ u.weave = s.weave ∧
      s.get (RING_AUTHERR_COUNT l) ≤ u.get (RING_AUTHERR_COUNT l) ∧
      SameSegment g (takeSegment l b.pick g r u).1 (collectCells l b (burstCounted l b s)) ∧
      (takeSegment l b.pick g r u).1.get (RING_AUTHERR_COUNT l) ≤ (collectCells l b (burstCounted l b s)).get (RING_AUTHERR_COUNT l) := by
  have hcounted := burstCounted_fields (b := b) hs hl
  have hcell0 : cellSt (burstCounted l b s) g = cellSt s g := congrArg (fun c : List CellSt => c.getD g CellSt.reset) hcounted.cells
  have hedge0 : cellEdge (burstCounted l b s) g = cellEdge s g := congrArg (fun e : EdgeSt => e.cells.getD g CellEdge.reset) hcounted.edge
  generalize burstCounted l b s = t at *
  obtain ⟨u, hu, hleft⟩ := collectCells_one (s := t) (b := b) hl (by rwa [hcounted.mask])
  rw [show b.segs.getD i .none = r by rw [List.getD_eq_getElem?_getD, hseg]; rfl] at hleft
  have hweave : u.weave = s.weave := hu.weave.trans hcounted.weave
  have hpopu : populated u g = true := by
    unfold populated cellMap convMap at hpop ⊢
    rwa [hweave]
  have hstu : cellState u g ≠ 1 := by rw [hu.state, hcounted.state]; exact hst
  refine ⟨u, hu.canon hcounted.canon, by rw [hu.length, hcounted.cells]; exact hlen, hu.cell.trans hcell0, hu.edge.trans hedge0, hweave, ?_, ?_, ?_⟩
  · rw [← hcounted.auth]
    exact hu.auth hcounted.canon
  · exact (collectCell_segment hpopu hstu).trans ⟨by rw [hleft.cell], by rw [hleft.cell], by rw [hleft.cell]⟩
  · have hcanon := hu.canon hcounted.canon
    exact ((cellWork_afterSegment hl hpopu hstu).auth ((cellWork_takeSegment (.refl l g u)).canon hcanon)).trans
      (hleft.auth ((cellWork_collectCell hl u).canon hcanon))

end

/-- Settles O39: the works of a burst are one for each cell, and each leaves the other cells and, but for authentication errors, the lane. -/
theorem collectBurstsAreReduced : Obligations.CollectBurstsAreReduced := by
  unfold Obligations.CollectBurstsAreReduced
  intro s hinv
  have hs := canon_of_inv hinv
  refine ⟨?_, ?_, ?_, ?_, ?_⟩
  · intro l b hl hlate hlen hstep hend hlock hpres
    have hexec := burst_exec (b := b) hl hlate hstep
    refine doesWithin_intro hexec ?_ ((frame_execCollectBurstReturn (by omega) hexec).mono (by decide) (by decide))
    have hcounted := burstCounted_fields (s := s.silent) (b := b) hs hl
    have hlane := collectCells_lane (s := burstCounted l b s.silent) (b := b) hl
    have hreg {f : Fld} (hf : f.addr % 0x1000 = 0x40 ∨ 0x4C ≤ f.addr % 0x1000 ∧ f.addr % 0x1000 < 0x5C) (hpage : f.addr / 0x1000 = 0x58 + l) :
        (collectCells l b (burstCounted l b s.silent)).get f = (burstCounted l b s.silent).get f :=
      hlane.regs f (by rw [loud_iff]; omega) (by omega) (by dsimp only; omega)
    refine ⟨?_, ?_, ?_, ?_, ?_, ?_⟩
    · rw [hlane.good, hcounted.dir hlen, hend, show s.silent.flag (RING_STAT_LOCK l) = true from hlock]
      rfl
    · rw [hreg (by dsimp only; omega) (by dsimp only; omega), hcounted.rx, hend]
      rfl
    · rw [hreg (by dsimp only; omega) (by dsimp only; omega), hcounted.low]
    · rw [hreg (by dsimp only; omega) (by dsimp only; omega), hcounted.high hpres]
    · rw [hreg (by dsimp only; omega) (by dsimp only; omega), hcounted.cor]
      rfl
    · rw [hreg (by dsimp only; omega) (by dsimp only; omega), hcounted.unc]
      rfl
  · intro l b hl hlate hlen hstep hend
    have hexec := burst_exec (b := b) hl hlate hstep
    refine doesWithin_intro hexec ?_ ((frame_execCollectBurstReturn (by omega) hexec).mono (by decide) (by decide))
    have hcounted := burstCounted_fields (s := s.silent) (b := b) hs hl
    have hlane := collectCells_lane (s := burstCounted l b s.silent) (b := b) hl
    refine ⟨?_, ?_⟩
    · rw [hlane.good, hcounted.dir hlen, hend]
      rfl
    · rw [hlane.regs (RING_STAT_RXOK l) (by rw [loud_iff]; dsimp only; omega) (by dsimp only; omega) (by dsimp only; omega), hcounted.rx, hend]
      rfl
  · rintro l b g i lc ws hl hlate - hstep - hlen hpop hst hi hseg
    have hexec := burst_exec (b := b) hl hlate hstep
    refine doesWithin_intro hexec ?_ ((frame_execCollectBurstReturn (by omega) hexec).mono (by decide) (by decide))
    obtain ⟨u, -, hulen, -, -, -, -, hsame, -⟩ := burst_cell (s := s.silent) hs hl hlen hpop hst hi hseg
    obtain ⟨hred, hauth⟩ := takeBlock_own (k := b.pick) (lc := lc) (ws := ws) hulen
    exact ⟨(congrArg List.head? hsame.red).trans hred, hsame.authBad.trans hauth⟩
  · rintro l b g i lc bs v hl hlate - hstep - hlen hpop hst hi hseg hopen hlow hhigh
    have hexec := burst_exec (b := b) hl hlate hstep
    refine doesWithin_intro hexec ?_ ((frame_execCollectBurstReturn (by omega) hexec).mono (by decide) (by decide))
    obtain ⟨u, -, hulen, hcell, hedge, hweave, -, hsame, -⟩ := burst_cell (s := s.silent) hs hl hlen hpop hst hi hseg
    have hopenu : openSeg u l g b.pick lc bs = some v := by
      unfold openSeg keyOf at hopen ⊢
      rw [hcell]
      exact hopen
    have htake : takeSegment l b.pick g (.raw lc bs) u = (reduceSegment l b.pick v u, true) := by
      unfold takeSegment
      dsimp only
      rw [hopenu]
    rw [htake] at hsame
    obtain ⟨hred, hauth, hlast⟩ := reduceSegment_own (l := l) (k := b.pick) (openSeg_cell hopenu) hulen hlow hhigh
    have hlc : v.lc = lc := openSeg_lc hopenu
    have hmap : convMap u = convMap s := by
      unfold convMap
      rw [hweave]
      rfl
    rw [hcell, hedge, hmap, hlc] at hred
    exact ⟨(congrArg List.head? hsame.red).trans hred, hsame.authBad.trans hauth, hsame.last63.trans hlast⟩
  · rintro l b g i lc bs hl hlate - hstep - hlen hpop hst hi hseg hopen
    have hexec := burst_exec (b := b) hl hlate hstep
    refine doesWithin_intro hexec ?_ ((frame_execCollectBurstReturn (by omega) hexec).mono (by decide) (by decide))
    obtain ⟨u, hcanon, hulen, hcell, -, -, hcount, hsame, hmore⟩ := burst_cell (s := s.silent) hs hl hlen hpop hst hi hseg
    have hopenu : openSeg u l g b.pick lc bs = none := by
      unfold openSeg keyOf at hopen ⊢
      rw [hcell]
      exact hopen
    have htake : takeSegment l b.pick g (.raw lc bs) u = (authError l g u, false) := by
      unfold takeSegment
      dsimp only
      rw [hopenu]
    rw [htake] at hsame hmore
    obtain ⟨hauth, hred, hcounted⟩ := authError_own (l := l) hcanon hulen
    refine ⟨hsame.authBad.trans hauth, hsame.red.trans (hred.trans (by rw [hcell]; rfl)), le_trans ?_ hmore⟩
    rw [hcounted]
    exact min_le_min (Nat.add_le_add_right hcount 1) le_rfl

end Sys2Proof.Machine
end
